-- ==== Sys2Proof/Word.lean ====
section
/-! DEFINITION. The word types of the block, the family member, and the plainest arithmetic on bytes (R18). -/

namespace Sys2Proof

/-- One byte of a value, a message or a memory. -/
abbrev Byte := BitVec 8

/-- The family member (R1). It is fixed for a part; State holds it so that every statement covers all three. -/
inductive Member where
  | tmn9624
  | tmn9612
  | tmn9606
  deriving DecidableEq, Repr

/-- The value of an object (R18): a number (its raw bits, two's complement where the type is signed) or bytes. -/
inductive Val where
  | num (n : Nat)
  | blob (b : List Byte)
  deriving DecidableEq, Repr

/-- The number of a value; 0 for bytes. -/
def Val.toNat : Val → Nat
  | .num n => n
  | .blob _ => 0

/-- The bytes of a value; none for a number. -/
def Val.bytes : Val → List Byte
  | .num _ => []
  | .blob b => b

/-- A truth value as a BOOL object holds it (R18). -/
def Val.ofBool (b : Bool) : Val := .num b.toNat

/-- The two's-complement reading of the low `w` bits of `n` (R18). -/
def signed (w n : Nat) : Int :=
  let m := n % 2 ^ w
  if m < 2 ^ (w - 1) then (m : Int) else (m : Int) - (2 ^ w : Nat)

/-- The two's-complement bits, in `w` bits, of an integer (R18). -/
def unsigned (w : Nat) (z : Int) : Nat := (z % (2 ^ w : Nat)).toNat

/-- `n` clamped into `w` unsigned bits: a saturating counter. -/
def saturate (w n : Nat) : Nat := min n (2 ^ w - 1)

/-- The bytes of `n` in `k` bytes, most significant first (R18). -/
def bytesBE : Nat → Nat → List Byte
  | 0, _ => []
  | k + 1, n => BitVec.ofNat 8 (n / 256 ^ k) :: bytesBE k n

/-- The number that bytes spell, most significant first (R18). -/
def natBE (bs : List Byte) : Nat := bs.foldl (fun a b => a * 256 + b.toNat) 0

/-- The number that bytes spell, least significant first (R18, control-bus memory). -/
def natLE : List Byte → Nat
  | [] => 0
  | b :: bs => b.toNat + 256 * natLE bs

/-- The bytes of `n` in `k` bytes, least significant first (R18, control-bus memory). -/
def bytesLE : Nat → Nat → List Byte
  | 0, _ => []
  | k + 1, n => BitVec.ofNat 8 n :: bytesLE k (n / 256)

/-- `k` bytes of zero. -/
def zeros (k : Nat) : List Byte := List.replicate k 0

/-- Bytes padded with 0x00, or cut, to exactly `k` (R18, STR). -/
def padTo (k : Nat) (bs : List Byte) : List Byte := (bs ++ zeros (k - bs.length)).take k

/-- Bit `i` of `n`. -/
def bit (n i : Nat) : Bool := n.testBit i

/-- The field [hi:lo] of `n`. -/
def field (n hi lo : Nat) : Nat := n / 2 ^ lo % 2 ^ (hi + 1 - lo)

/-- `n` with the bits of `mask` set. -/
def setBits (n mask : Nat) : Nat := n ||| mask

/-- `n` with the bits of `mask` cleared: what a write of `mask` to write-1-to-clear bits leaves (R16). -/
def clearBits (n mask : Nat) : Nat := n ^^^ (n &&& mask)

/-- The slice of `k` bytes from offset `o`. -/
def slice (bs : List Byte) (o k : Nat) : List Byte := (bs.drop o).take k

/-- The bytes with those from offset `o` replaced by `new`. -/
def splice (bs : List Byte) (o : Nat) (new : List Byte) : List Byte :=
  bs.take o ++ new ++ bs.drop (o + new.length)

/-- The ASCII bytes of a list of character codes. -/
def ascii (cs : List Nat) : List Byte := cs.map (BitVec.ofNat 8)

/-- Division rounding up. -/
def ceilDiv (a b : Nat) : Nat := (a + b - 1) / b

end Sys2Proof
end

