-- ==== Sys2Proof/Syntax.lean ====
section
/-! DEFINITION. The commands of the block: one constructor for each row of the table of operations, with its operands.
An operand that names an environment measurement carries what the spec says the device measures or receives. -/

namespace Sys2Proof

/-- A new stream of a transaction: the identity and geometry of its descriptor (R149). Its identifier is assigned at admission (R148). -/
structure StreamReq where
  /-- KIND (R142). -/
  kind : Nat
  srcp : Nat
  dstp : Nat
  /-- Device of origin (R147). -/
  origin : Nat
  lineBytes : Nat
  lines : Nat
  interlaced : Bool
  /-- RESERVE: cells per tick (R58). -/
  reserve : Nat
  /-- FRAMES: buffer depth; 0 none. -/
  frames : Nat
  /-- BASE in units of 4,096 bytes, where `mem` names no extent. -/
  base : Nat
  /-- The extent of the plan's `memory` list that holds the buffer. -/
  mem : Option Nat
  /-- The destination that reads or carries the stream: its class 08 instance, 0xFFFF none. -/
  dest : Nat
  /-- The trunk lanes that bring the stream in and carry it out (R450, R453); 0xFFFF none. -/
  trunkIn : Nat
  trunkOut : Nat
  /-- The identifier that the device of origin assigned (R147); not looked at where this device is the origin. -/
  originId : Nat
  /-- LABEL of the stream's cells on the trunk lane that brings it in: the sending device's identifier (R439, R453). -/
  label : Nat
  deriving DecidableEq, Repr

/-- A furlong, from its sending device: that device and its trunk lane, the peer and the peer's lane (R436). -/
abbrev Hop := Nat × Nat × Nat × Nat

/-- What the master's domain agent knows of the domain's furlongs when it pins paths (R437, R452): the UP furlongs, each once, and the
devices whose ROLE is SPINE. How it comes to know them the spec does not say, so the command carries it. -/
structure Graph where
  links : List Hop
  spines : List Nat
  deriving DecidableEq, Repr

/-- The graph without furlongs. -/
def Graph.empty : Graph := ⟨[], []⟩

/-- One chain entry that the route compiler asks for: the fields of R51 but for OFS, and the slot record of a memory access (R177).
The compiler's pinning of streams to ports is its own (R31), so the command carries it. -/
structure Demand where
  /-- OP (R52). -/
  op : Nat
  srcp : Nat
  dstp : Nat
  cells : Nat
  dem : Bool
  /-- Index in the plan's `streams`. -/
  stream : Nat
  arg : Nat
  /-- The stack, MODE and SPAN of a MEMWR or MEMRD (R177). -/
  stack : Nat
  mode : Nat
  span : Nat
  deriving DecidableEq, Repr

/-- An extent that a transaction takes in the general region (R183, R184). -/
structure MemReq where
  stack : Option Nat
  bytes : Nat
  /-- Who holds it: a class 08 destination instance. -/
  owner : Nat
  deriving DecidableEq, Repr

/-- What the route compiler makes of a transaction (R28, R67): the streams, entries and memory it adds, and the streams
it gives up. -/
structure Plan where
  streams : List StreamReq
  adds : List Demand
  memory : List MemReq
  /-- Streams that go at the transaction's own swap. -/
  drops : List Nat
  /-- Streams that go after the switching line of a destination: destination and stream (R66). -/
  later : List (Nat × Nat)
  deriving DecidableEq, Repr

/-- The plan that asks for nothing. -/
def Plan.empty : Plan := ⟨[], [], [], [], []⟩

/-- One candidate's measurement at an update: candidate, offset from STAB_IN and from the crystal in 0.01 ppb, phase in ps (R86). -/
structure CandMeas where
  cand : Nat
  freq : Int
  xtal : Int
  phase : Int
  deriving DecidableEq, Repr


/-- An E1.31 packet as the sACN unit takes it (R498, R502). -/
structure SacnPkt where
  /-- It is a well-formed E1.31 data or discovery packet. -/
  wellFormed : Bool
  discovery : Bool
  cid : List Byte
  priority : Nat
  number : Nat
  seq : Nat
  preview : Bool
  terminated : Bool
  startCode : Nat
  slots : List Byte
  /-- Of a discovery packet: the source name, the page, the last page, and the universes of the page. -/
  name : List Byte
  page : Nat
  last : Nat
  list : List Nat
  deriving DecidableEq, Repr

/-- A request item (R528): the object number, IFLAGS and the value bytes (VLEN of them). -/
structure Item where
  /-- OBJECT. -/
  obj : Nat
  /-- IFLAGS: [0] WILDCARD, [1] DEFAULT, [2] STAGED_VIEW. -/
  flags : Nat
  /-- VALUE. -/
  val : List Byte
  deriving DecidableEq, Repr

/-- What the route compiler makes of a message: a plan by item of a SET, batch of an import, or 0 for a COMMIT; and the other devices that
carry a domain-wide transaction's streams (R28, R468). -/
structure Compiled where
  plans : List (Nat × Plan)
  /-- The domain's furlongs, and the cells per tick of each route's stream, where this device is the master (R452, R468). -/
  graph : Graph
  media : List (Nat × Nat × Nat)
  deriving DecidableEq, Repr

/-- What the route compiler makes of a message that needs nothing of it. -/
def Compiled.empty : Compiled := ⟨[], Graph.empty, []⟩

/-- The plan by number. -/
def Compiled.plan (c : Compiled) (i : Nat) : Plan := ((c.plans.find? fun e => e.1 == i).map (·.2)).getD Plan.empty

/-- A transaction that a master issues (R573, R579, R583). -/
structure BusReq where
  master : Nat
  /-- The engine number of CUE. -/
  engine : Nat
  qos : Nat
  /-- The WORLD bit that the master drives. -/
  world : Bool
  write : Bool
  addr : Nat
  /-- Beats of 16 bytes, 1 to 64. -/
  beats : Nat
  /-- The bus cycle in which it is made. -/
  made : Nat
  /-- The target cannot complete it (R585). -/
  fails : Bool
  /-- Bus cycles that the flash takes for a piece beyond its beats (R584). -/
  flash : Nat
  /-- Symbols in error in the codewords that a read of frame memory finds: cell address, codeword and symbol (R168, R169). -/
  ecc : List (Nat × Nat × Nat)
  /-- The handle and the USAGE bit of a key-use request to the key store's registers (R638). -/
  key : Option (Nat × Nat)
  data : List Byte
  deriving DecidableEq, Repr


/-- The commands (the rows of opcode_table.json, in its order). -/
inductive Instr where
  /-- TICK_BOUNDARY (R43). -/
  | tickBoundary
  /-- SEAM (R59). The always-on count where it is not what it counted, and the phase of its boundary in ps. -/
  | seam (aon : Option Nat) (aonPhase : Int)
  /-- SHADOW_WRITE_DONE (R61). Whether the bank CRC-32 matches the compiled value. -/
  | shadowWriteDone (crcOk : Bool)
  /-- MIRROR_COMPLETE (R62). -/
  | mirrorComplete
  /-- STEP_TIME (R49). The written TIME80, 80 bits. -/
  | stepTime (time : Nat)
  /-- PPS_EDGE (R48). -/
  | ppsEdge (phase : Int)
  /-- CHAIN_RESTART (R75). The banks whose CRC-32 differs from their copy: bit 0 A, bit 1 B. -/
  | chainRestart (bad : Nat)
  /-- NOP (R52). The entry's link and word (R51). -/
  | nop (link word : Nat)
  /-- MOVE (R52). The cells that stand ready at the source, and the payloads of those that issue, in order. -/
  | move (link word held : Nat) (cells : List (List Byte))
  /-- MEMWR (R52). The cells that the source holds ready, 128 bytes each. -/
  | memwr (link word : Nat) (cells : List (List Byte))
  /-- MEMRD (R52). Symbols in error in the cells that it reads (R168): cell within the transfer, codeword and symbol. -/
  | memrd (link word : Nat) (ecc : List (Nat × Nat × Nat))
  /-- BUSHEL (R52). The pixels that gamut mapping changed, and the share of fallback blocks in per cent. -/
  | bushel (link word fallback : Nat)
  /-- AMX (R318). -/
  | amx (link word : Nat)
  /-- RELEASE (R394). For an SDI sender, the datagrams' media bytes as its engine has made them, in order. -/
  | release (link word : Nat) (signal : List (List Byte))
  /-- SOURCE_STALL (R154). Before its entry: how many of its cells will not issue in its cycles, the cycles the port stalled, and the bit of R79: 0 REFRESH, 1 ECC. -/
  | sourceStall (link word cells cycles cause : Nat)
  /-- CATCH_UP (R154). The source port, the destination port, and how many cells issue in cycles that are free on both. -/
  | catchUp (port dst cells : Nat)
  /-- CELL_ARRIVAL (R156). The receiving port, the fields PAR, VALID and STREAM of the sideband (R141), and the payload. -/
  | cellArrival (port stream par : Nat) (valid : Bool) (payload : List Byte)
  /-- DESCRIPTOR_PARITY (R151). -/
  | descriptorParity (stream word : Nat)
  /-- STAB_EDGE_LOSS (R85). 4 edges are missing, or a period is bad. -/
  | stabEdgeLoss
  /-- STAB_QUALIFIED (R85). -/
  | stabQualified
  /-- FREQ_OFFSET_UPDATE (R86). The crystal against STAB_IN in 0.01 ppb, and each candidate's measurement. -/
  | freqOffsetUpdate (xtal : Int) (meas : List CandMeas)
  /-- CANDIDATE_SIGNAL (R96). -/
  | candidateSignal (cand : Nat) (phase : Int)
  /-- QUALIFICATION_TIMER (R96). -/
  | qualificationTimer (cand : Nat)
  /-- CAND_STOP (R93). -/
  | candStop (cand : Nat)
  /-- CAND_GLITCH (R94). -/
  | candGlitch (cand : Nat)
  /-- CAND_RATE (R95). -/
  | candRate (cand reported : Nat)
  /-- PTP_SYNC (R86). The origin timestamp and the receive timestamp in ps since the epoch, and logMessageInterval. -/
  | ptpSync (inst port : Nat) (originPs rxPs : Nat) (logSync : Int)
  /-- PTP_ANNOUNCE (R89). The parent's identity, quality and UTC offset, and the port states that the best-master algorithm gives. -/
  | ptpAnnounce (inst port : Nat) (gm : List Byte) (clockClass accuracy prio : Nat) (utc : Option Int) (ports : List (Nat × Nat))
  /-- PTP_ANNOUNCE_TIMEOUT (R93). The port states that follow. -/
  | ptpAnnounceTimeout (inst port : Nat) (ports : List (Nat × Nat))
  /-- ESMC_RECEIVED (R90). -/
  | esmcReceived (port ssm : Nat) (enhanced : Bool)
  /-- ESMC_TIMEOUT (R90). -/
  | esmcTimeout (cand : Nat)
  /-- PULL_COMPLETE (R102). The residual phase in ps and the frequency error in 0.01 ppb. -/
  | pullComplete
  /-- REALIGN (R103). -/
  | realign (mask : Nat)
  /-- HOLDOVER_SPEC (R108). -/
  | holdoverSpec
  /-- PLL_LOCK_LOST (R124). The PLL instance and, for the fabric PLL, the indices of the active bank's entries that had not delivered. -/
  | pllLockLost (pll : Nat) (undelivered : List Nat)
  /-- PLL_LOCK_REGAINED (R124). -/
  | pllLockRegained (pll : Nat)
  /-- PLL_RELOCKED (R126). -/
  | pllRelocked (pll : Nat)
  /-- LREF_PRESENT (R133). The offset from the crystal in 0.01 ppm. -/
  | lrefPresent (lref : Nat) (offset : Int)
  /-- LREF_LOST (R133). -/
  | lrefLost (lref : Nat)
  /-- SYNTH_UNLOCKED (R132). VTS0 to VTS15 at 0 to 15, ACS0 to ACS7 at 16 to 23. -/
  | synthUnlocked (synth : Nat)
  /-- LANE_PLL_LOCK_LOST (R134). The class 11 instance. -/
  | lanePllLockLost (lane : Nat)
  /-- LANE_TX_RELEASE (R134). -/
  | laneTxRelease (lane : Nat)
  /-- ECC_RETRY (R170). Reader: 0 MEMRD, 1 clip player (stream names the clip), 2 control-bus read, 3 partial control-bus write, 4 Neloas in the system share, 5 scrub, 6 MEMTEST. The symbols in error that the second read finds: codeword and symbol. -/
  | eccRetry (addr reader stream : Nat) (ecc : List (Nat × Nat))
  /-- REFRESH_COLLISION (R178). -/
  | refreshCollision (stack channel stream : Nat)
  /-- STACK_TEMPERATURE (R179). -/
  | stackTemperature (stack : Nat) (temp : Int)
  /-- SCRUB_READ (R180). Symbols in error: channel instance, codeword and symbol. -/
  | scrubRead (ecc : List (Nat × Nat × Nat))
  /-- SCRUB_WRITE_BACK (R180). -/
  | scrubWriteBack (addr : Nat)
  /-- MEMTEST (R181). -/
  | memtest (sess which : Nat)
  /-- CLIP_ALLOC (R185). The class 05 instance. -/
  | clipAlloc (clip : Nat)
  /-- CLIP_RELEASE (R185). -/
  | clipRelease (clip : Nat)
  /-- CLIP_LOAD (R186). -/
  | clipLoad (sess clip : Nat)
  /-- CLIP_SAVE (R187). -/
  | clipSave (sess clip : Nat)
  /-- SDI_SIGNAL_DETECT (R201). -/
  | sdiSignalDetect (input : Nat)
  /-- SDI_SIGNAL_LOSS (R201). -/
  | sdiSignalLoss (input : Nat)
  /-- SEARCH_DWELL (R202). -/
  | searchDwell (input : Nat)
  /-- CDR_LOCK (R201). -/
  | cdrLock (input : Nat)
  /-- SDI_FRAME_STRUCTURE (R201). The structure, the nominal frame rate within 500 ppm of the measured period (0 none) and its offset in 0.01 ppm, the 3G level, the skew in ns, the errors of the frame, and whether every line group of it was written. -/
  | sdiFrameStructure (input raster scan rate level : Nat) (offset : Int) (skew crc edhAp edhFf trs : Nat) (whole : Bool)
  /-- SDI_LOCK_LOSS (R201). `cdr`: the CDR lost lock; otherwise lines without valid TRS. -/
  | sdiLockLoss (input : Nat) (cdr : Bool)
  /-- PAYLOAD_ID (R204). Bytes 1 to 4, and what they declare. -/
  | payloadId (input id raster scan rate sampling colour : Nat)
  /-- ANC_PACKET (R206). The SDI input, or 0x1000 and the SDI receiver (R374); the packet's 10-bit words from DID to checksum. -/
  | ancPacket (input group line hofs flags : Nat) (words : List Nat)
  /-- ERRORED_SECOND (R205). -/
  | erroredSecond
  /-- OUTPUT_FRAME_START (R209). The class 08 destination, the index of its VTS frame, and the lines of the source input's present frame that are completely written. -/
  | outputFrameStart (dest written : Nat)
  /-- SWITCHING_LINE (R232). The class 08 destination. -/
  | switchingLine (dest : Nat)
  /-- SALVO_FIRE (R240). The class 08 instance, the activation, and what the route compiler makes of the salvo. -/
  | salvoFire (salvo tick : Nat) (plan : Plan)
  /-- PROTECT (R241). -/
  | protect (dest : Nat) (value : Bool)
  /-- PATH_PRIMED (R274). -/
  | pathPrimed (dest : Nat)
  /-- BUSHEL_ERROR (R275). The bushel, and the stream of the unit of work in progress. -/
  | bushelError (bushel stream : Nat)
  /-- PATH_READMIT (R277). What the route compiler makes of the path on the new source format. -/
  | pathReadmit (dest : Nat) (plan : Plan)
  /-- CADENCE_CHANGED (R263). -/
  | cadenceChanged (dest cadence : Nat)
  /-- LUT_LOAD (R270). The class 09 instance. -/
  | lutLoad (sess slot : Nat)
  /-- AES3_PREAMBLES_VALID (R295). The port code (R306). -/
  | aes3PreamblesValid (port : Nat)
  /-- AUDIO_RATE_IDENTIFIED (R295). The ACS_RATE code, 0xFF none, and the offset in 0.01 ppm. -/
  | audioRateIdentified (port rate : Nat) (offset : Int)
  /-- AUDIO_INPUT_LOST (R295). `rate`: a frame period outside 1 per cent, or a channel-count change. -/
  | audioInputLost (port : Nat) (rate : Bool)
  /-- AES3_SUBFRAME (R289). The AES3 input, and the subframe in the layout of R288. -/
  | aes3Subframe (input word : Nat)
  /-- CS_BLOCK (R289): of subframe 0 or 1. -/
  | csBlock (input subframe : Nat)
  /-- MADI_FRAME (R294). -/
  | madiFrame (input : Nat) (words : List Nat) (codeErrors : Nat)
  /-- SRC_DECISION (R285). -/
  | srcDecision (port : Nat) (offset : Int)
  /-- PORT_UNDERRUN (R299). -/
  | portUnderrun (port : Nat)
  /-- PORT_OVERRUN (R299). -/
  | portOverrun (port : Nat)
  /-- FADE_COMPLETE (R299). -/
  | fadeComplete (port : Nat)
  /-- FIFO_RECENTRED (R299). -/
  | fifoRecentred (port : Nat)
  /-- RESYNC_INDEX (R299). -/
  | resyncIndex (port : Nat)
  /-- FOLLOW_LOOP_UPDATE (R297). The mean fill error in 1/256 sample. -/
  | followLoopUpdate (acs : Nat) (error : Int)
  /-- GROUP_START (R301). -/
  | groupStart (group tick : Nat)
  /-- GROUP_STOP (R301). -/
  | groupStop (group tick : Nat)
  /-- GROUP_INDEX_ZERO (R301). -/
  | groupIndexZero (group : Nat)
  /-- AUDIO_SWITCH_REQUEST (R324). -/
  | audioSwitchRequest (chan : Nat)
  /-- ZERO_CROSSING (R323). -/
  | zeroCrossing (chan : Nat)
  /-- ZC_TIMEOUT (R324). -/
  | zcTimeout (chan : Nat)
  /-- CROSSFADE_COMPLETE (R325). -/
  | crossfadeComplete (chan : Nat)
  /-- TERM_GAIN (R320). The raw Q4.20 value. -/
  | termGain (chan slot raw : Nat)
  /-- MUTE (R321). -/
  | mute (chan : Nat) (value : Bool)
  /-- MATRIX_RATE (R311). -/
  | matrixRate (rate : Nat)
  /-- PLAY_START (R328). The class 0C instance. -/
  | playStart (player tick : Nat)
  /-- PLAY_STOP (R328). -/
  | playStop (player tick : Nat)
  /-- CLIP_END (R328). -/
  | clipEnd (player : Nat)
  /-- DEEMBED_PACKET (R329). The SDI input, or 0x1000 and the SDI receiver (R374). Kind: 0 data, 1 control, 2 the group is gone. ECC: 0 clean, 1 corrected, 2 uncorrectable. `good`: the control packet declares synchronous 48 kHz. -/
  | deembedPacket (input group kind ecc : Nat) (good : Bool) (samples : List Nat)
  /-- DEEMBED_FADE (R331). `out`: the fade after a loss; otherwise the ramp after relock. -/
  | deembedFade (input : Nat) (out : Bool)
  /-- LINK_STATE_CHANGE (R346). The bridge port, and whether its PCS has held lock for 192 ticks. -/
  | linkStateChange (port : Nat) (up : Bool)
  /-- FRAME_INGRESS (R347). The bridge port, the wheel slot of the tick, the frame from its destination address without FCS, and its reception: 0 good, 1 an FCS error, 2 an FEC codeword that was not corrected, 3 one that was. -/
  | frameIngress (port slot : Nat) (frame : List Byte) (err : Nat)
  /-- FDB_AGEING (R349). -/
  | fdbAgeing (mac vid : Nat)
  /-- FDB_FLUSH (R349). -/
  | fdbFlush (port : Nat)
  /-- TRAP_FRAME (R353). -/
  | trapFrame
  /-- TRAP_SEND (R353). The layout of R353. -/
  | trapSend (frame : List Byte)
  /-- ARP_REPLY (R354). -/
  | arpReply (iface addr mac : Nat)
  /-- ARP_REFRESH (R354). The sender, and 0 for path A or 1 for path B. -/
  | arpRefresh (sender path : Nat)
  /-- IGMP_QUERY (R354). -/
  | igmpQuery (iface : Nat) (v2 : Bool)
  /-- MACSEC_SA (R356). The layout of R356. -/
  | macsecSa (port : Nat) (value : List Byte)
  /-- MACSEC_TX_AN (R357). -/
  | macsecTxAn (port an : Nat)
  /-- SENDER_RESOLVED (R364). -/
  | senderResolved (sender : Nat)
  /-- SENDER_HELD (R364). -/
  | senderHeld (sender : Nat)
  /-- RTP_PACKET_RX (R370). The IPv4 source address and UDP source port, the arrival in ns, the samples of each channel in a packet of the flow, and the UDP payload; for SDI the format that the carried signal's TRS spell, and the packet's part of its active picture: line of the frame, byte in it, and bytes, the lines of an interlaced signal's first field before those of its second. -/
  | rtpPacketRx (rx path src sport ns spp found : Nat) (picture : List (Nat × Nat × List Byte)) (datagram : List Byte)
  /-- PATH_TIMEOUT (R369). -/
  | pathTimeout (rx path : Nat)
  /-- LINE_GROUP_CLOSURE (R371). -/
  | lineGroupClosure (rx : Nat)
  /-- SHAPER_ELIGIBLE (R388). -/
  | shaperEligible (filter slot : Nat)
  /-- PACER_RELEASE_SLOT (R394). -/
  | pacerReleaseSlot (sender slot : Nat)
  /-- TRANSMISSION_START (R385). -/
  | transmissionStart (port slot : Nat)
  /-- GATE_CHANGE (R398). -/
  | gateChange (port slot : Nat)
  /-- GATE_LIST_START (R400). -/
  | gateListStart (port slot : Nat)
  /-- RX_SIGNAL_DETECT (R416). -/
  | rxSignalDetect (lane : Nat)
  /-- RX_LOCKED (R416). The values to which adaptation converged. -/
  | rxLocked (lane : Nat) (ctle : Nat) (dfe : List Byte)
  /-- ADAPTATION_TIMEOUT (R416). -/
  | adaptationTimeout (lane : Nat)
  /-- RX_LOST (R416). `signal`: the CDR lost lock on a present signal. -/
  | rxLost (lane : Nat) (signal : Bool)
  /-- ELASTIC_SLOT_RX (R421). The slot's content; 0 a filler. -/
  | elasticSlotRx (lane slot : Nat)
  /-- ELASTIC_SLOT_READ (R421). -/
  | elasticSlotRead (lane : Nat)
  /-- RATE_OFFSET_UPDATE (R422). The recovered clock against the LREF in 0.01 ppm. -/
  | rateOffsetUpdate (lane : Nat) (offset : Int)
  /-- PRBS_SYNC (R424). SYNC entered, or lost; the errors and bits counted since the last report. -/
  | prbsSync (lane : Nat) (lost : Bool) (errors bits : Nat)
  /-- WINDOW_END (R426). The errors and bits counted since the last report. -/
  | windowEnd (lane errors bits : Nat)
  /-- CHK_RESTART (R425). -/
  | chkRestart (lane : Nat)
  /-- EYE_SCAN (R427). -/
  | eyeScan (sess lane : Nat)
  /-- EYE_SCAN_DONE (R428). The mismatch counts, 63 rows of 65 for each eye. -/
  | eyeScanDone (lane : Nat) (rows : List (List Nat))
  /-- EZAVO_CELL_RX (R442). The trunk lane, the 64 header bits at the boundary being tried, and the payload as transmitted. -/
  | ezavoCellRx (lane header : Nat) (payload : List Byte)
  /-- SEAL (R447). The layout of R447. -/
  | seal (lane : Nat) (payload : List Byte)
  /-- BEACON_RECEIVED (R458). The layout of R457, and the receive time (t4) in units of 2⁻¹⁶ ns. -/
  | beaconReceived (lane : Nat) (payload : List Byte) (rx : Nat)
  /-- FURLONG_MEASURED (R444). Whether the master's domain agent accepts the furlong in its topology (R437). -/
  | furlongMeasured (lane : Nat) (fits : Bool)
  /-- FURLONG_DOWN (R444). -/
  | furlongDown (lane : Nat)
  /-- FURLONG_FAULT_TIMER (R444). -/
  | furlongFaultTimer (lane : Nat)
  /-- TRUNK_KEY (R448). The layout of R448. -/
  | trunkKey (lane : Nat) (value : List Byte)
  /-- TRUNK_TX_KEY (R448). -/
  | trunkTxKey (lane slot : Nat)
  /-- FORM_WAIT (R460). -/
  | formWait
  /-- BEACONS_MISSED (R460). -/
  | beaconsMissed
  /-- MASTER_HANDOVER (R464). -/
  | masterHandover (device : Nat)
  /-- JOIN (R461). The body of a JOIN record (R465), and the joiner's hops and beacon age. -/
  | join (device variant priority lastEpoch lineage hops age : Nat)
  /-- WELCOME (R460). DEST, and the body of a WELCOME record (R465). -/
  | welcome (dest epoch size backup : Nat)
  /-- JOIN_REFUSED (R460). -/
  | joinRefused (dest status : Nat)
  /-- JOIN_RETRY (R460). -/
  | joinRetry
  /-- LEAVE (R465). -/
  | leave (device : Nat)
  /-- DOMAIN_TRANSACTION (R468). The device and session that committed it (0xFFFF: the master's own path repair), its TX number there, its activation tick (0 NEXT), its items, the domain's furlongs, the cells per tick that R58 reserves for the stream of each route (destination device, DESTINATION, cells), and what the route compiler makes of the part of this device. -/
  | domainTransaction (device sess tx act : Nat) (items : List (Nat × Val)) (graph : Graph) (media : List (Nat × Nat × Nat)) (plan : Plan)
  /-- PREPARE (R469). DEST, the part that it carries (R467), and what the route compiler makes of it. -/
  | prepare (dest epoch act mode : Nat) (items : List (Nat × Val)) (plan : Plan)
  /-- COPY (R467). DEST, and the part of another device (R467). -/
  | copy (dest epoch act mode device : Nat) (items : List (Nat × Val))
  /-- PREPARED (R470). -/
  | prepared (epoch device : Nat)
  /-- REFUSED (R472). -/
  | refused (epoch device status last : Nat)
  /-- ABORT_RECORD (R465). DEST, the epoch and the cause. -/
  | abortRecord (dest epoch cause : Nat)
  /-- APPLIED_RECORD (R472). -/
  | appliedRecord (epoch device tick : Nat)
  /-- NOT_APPLIED (R472). -/
  | notApplied (epoch device cause : Nat)
  /-- PARTICIPANT_LOST (R472). -/
  | participantLost (epoch device : Nat)
  /-- RESYNC (R474). -/
  | resync (sess device : Nat)
  /-- RELAY_PACKET (R454). The destination and sending devices, the packet's addresses, ports and protocol, the trunk lanes whose peers lie on a shortest path to the destination, and the packet. -/
  | relayPacket (dest src srcIp dstIp srcPort dstPort protocol : Nat) (candidates : List Nat) (packet : List Byte)
  /-- HASH_RESEED (R456). -/
  | hashReseed
  /-- CUE_ACTION_EXECUTE (R493). The first due action of the engine's queue. -/
  | cueActionExecute (engine : Nat)
  /-- CUE_ACTION_NONE (R492). The engine and the record. -/
  | cueActionNone (engine record : Nat)
  /-- CUE_ACTION_FLAGS (R492). SET and CLEAR. -/
  | cueActionFlags (engine record : Nat)
  /-- CUE_ACTION_SALVO (R492). Neloas serves the oldest waiting SALVO of the record, with what the route compiler makes of it. -/
  | cueActionSalvo (engine record : Nat) (plan : Plan)
  /-- CUE_ACTION_WRITE (R495). The object engine serves the engine's waiting WRITEs, with what the route compiler makes of the staged ones. -/
  | cueActionWrite (engine : Nat) (plan : Plan)
  /-- CUE_ACTION_FADE (R500). The universe, the slots, T, HOLD and N. -/
  | cueActionFade (engine record : Nat)
  /-- CUE_ACTION_GPIO (R492). 0 low, 1 high, 2 toggle. -/
  | cueActionGpio (engine record : Nat)
  /-- CUE_ACTION_TIMECODE (R492). 0 STOP, 1 RUN, 2 LOAD. -/
  | cueActionTimecode (engine record : Nat)
  /-- GPIO_PULSE_END (R492). The pin. -/
  | gpioPulseEnd (pin : Nat)
  /-- CUE_FIRE (R489). The record. -/
  | cueFire (engine record : Nat)
  /-- CE_REARM (R489). A record, or 0xFFFF. -/
  | ceRearm (engine value : Nat)
  /-- CUE_FLAGS (R487). The word. -/
  | cueFlags (engine : Nat) (value : BitVec 64)
  /-- SACN_PACKET (R498). The DATA receiver and the packet. -/
  | sacnPacket (rx : Nat) (packet : SacnPkt)
  /-- SACN_SOURCE_TIMEOUT (R498). The universe and the source. -/
  | sacnSourceTimeout (lu : Nat) (cid : List Byte)
  /-- SACN_TRANSMIT (R501). The universe. -/
  | sacnTransmit (lu : Nat)
  /-- DISCOVERY_SEND (R502). -/
  | discoverySend
  /-- DISCOVERY_AGEING (R502). The source. -/
  | discoveryAgeing (cid : List Byte)
  /-- DMX_OUTPUT_PACKET (R503). The port. -/
  | dmxOutputPacket (port : Nat)
  /-- DMX_INPUT_PACKET (R504). Break and MAB in µs, the start code, a framing error, and the slots. -/
  | dmxInputPacket (port brk mab startCode : Nat) (framing : Bool) (slots : List Byte)
  /-- DMX_LOSS (R504). The port. -/
  | dmxLoss (port : Nat)
  /-- TIMECODE_WORD (R505). A valid word: its rate code, value, user bits, flag bits, ticks since its first bit, and its speed in 0.01 % of nominal. -/
  | timecodeWord (reader rate value user bits age : Nat) (speed : Int)
  /-- TC_FREEWHEEL (R505). The reader; in FREEWHEEL, one more word period. -/
  | tcFreewheel (reader : Nat)
  /-- TC_NO_TRANSITIONS (R505). The reader. -/
  | tcNoTransitions (reader : Nat)
  /-- GENERATOR_WORD (R506). The generator. -/
  | generatorWord (gen : Nat)
  /-- GEN_RUN (R506). RUN or STOP. -/
  | genRun (gen : Nat) (value : Bool)
  /-- GPIO_EDGE (R508). The level, after GPIO_INVERT, that GPIO_DEBOUNCE consecutive samples hold. -/
  | gpioEdge (pin : Nat) (level : Bool)
  /-- GPIO_SET (R508). The level. -/
  | gpioSet (pin : Nat) (value : Bool)
  /-- DATAGRAM_RX (R524). The management interface, the source IPv4 address and UDP port, the datagram, and what the route compiler makes of the message. -/
  | datagramRx (iface addr port : Nat) (bytes : List Byte) (c : Compiled)
  /-- REASSEMBLY_TIMEOUT (R524). The session, or what stands for the peer of a HELLO, and the SEQ. -/
  | reassemblyTimeout (sess seq : Nat)
  /-- HELLO (R531). Over the mailbox, or from an IPv4 address and UDP port; the body of the message. -/
  | hello (mailbox : Bool) (addr port : Nat) (body : List Byte)
  /-- PROVE (R531). The session that the SESSION field names, and the body. -/
  | prove (sess : Nat) (body : List Byte)
  /-- HANDSHAKE_TIMEOUT (R531). -/
  | handshakeTimeout (sess : Nat)
  /-- HELLO_LOCKOUT_END (R531). -/
  | helloLockoutEnd (addr : Nat)
  /-- GET (R518). The session, the SEQ of the request, TX and the items. -/
  | get (sess seq tx : Nat) (items : List Item)
  /-- SET (R538). The session, the SEQ of the request, the items, and what the route compiler makes of them. -/
  | set (sess seq : Nat) (items : List Item) (c : Compiled)
  /-- BEGIN (R539). The session and the SEQ of the request. -/
  | begin (sess seq : Nat)
  /-- STAGE (R539). The session, the SEQ of the request, TX and the items. -/
  | stage (sess seq tx : Nat) (items : List Item)
  /-- COMMIT (R540). The session, the SEQ of the request, TX, the activation, and what the route compiler makes of the transaction. -/
  | commit (sess seq tx act : Nat) (c : Compiled)
  /-- ABORT (R541). The session, the SEQ of the request and TX. -/
  | abort (sess seq tx : Nat)
  /-- DISCARD (R539). The session, the SEQ of the request and TX. -/
  | discard (sess seq tx : Nat)
  /-- JOB_SUSPEND (R545). The session, the SEQ of the request and the job. -/
  | jobSuspend (sess seq job : Nat)
  /-- JOB_RESUME (R545). The session, the SEQ of the request and the job. -/
  | jobResume (sess seq job : Nat)
  /-- JOB_CANCEL (R545). The session, the SEQ of the request and the job. -/
  | jobCancel (sess seq job : Nat)
  /-- JOB_RELEASE (R545). The session, the SEQ of the request and the job. -/
  | jobRelease (sess seq job : Nat)
  /-- SUBSCRIBE (R542). The session, the SEQ of the request and the items. -/
  | subscribe (sess seq : Nat) (items : List Item)
  /-- UNSUBSCRIBE (R542). The session, the SEQ of the request and the subscription. -/
  | unsubscribe (sess seq sub : Nat)
  /-- BULK_PUT (R547). The session, the SEQ of the request, the job, the offset and the items; plans for the batches of an import. -/
  | bulkPut (sess seq job offset : Nat) (items : List Item) (c : Compiled)
  /-- BULK_GET (R547). The session, the SEQ of the request, the job, the offset and the items. -/
  | bulkGet (sess seq job offset : Nat) (items : List Item)
  /-- NOTIFY_ACK (R544). The session, the SEQ of the message, and the SEQ that it acknowledges. -/
  | notifyAck (sess seq note : Nat)
  /-- NOTIFY_RESEND (R544). The session and the SEQ of the NOTIFY. -/
  | notifyResend (sess note : Nat)
  /-- KEEPALIVE (R525). The session and the SEQ. -/
  | keepalive (sess seq : Nat)
  /-- CLOSE (R535). The session, the SEQ and the status. -/
  | close (sess seq status : Nat)
  /-- SESSION_TIMEOUT (R535). -/
  | sessionTimeout (sess : Nat)
  /-- SESS_CLOSE (R535). The session. -/
  | sessClose (sess : Nat)
  /-- TX_IDLE (R539). -/
  | txIdle (tx : Nat)
  /-- MB_H2D_TAIL (R537). The INDEX written, and what the route compiler makes of the messages, by slot. -/
  | mbH2dTail (index : Nat) (cs : List (Nat × Compiled))
  /-- MB_D2H_HEAD (R537). The INDEX written. -/
  | mbD2hHead (index : Nat)
  /-- JOURNAL_RECORD_PROGRAMMED (R520). -/
  | journalRecordProgrammed
  /-- IMMEDIATE_RECORD (R521). -/
  | immediateRecord
  /-- JOURNAL_COMPACT (R523). The session. -/
  | journalCompact (sess : Nat)
  /-- JOB_COMPLETE (R545). The job, OK or the status of the failure, what it has read or measured, the symbols in error that a MEMTEST read back (cell address, codeword and symbol), and plans for the batches of an import. -/
  | jobComplete (job status : Nat) (data : List Byte) (ecc : List (Nat × Nat × Nat)) (plans : List (Nat × Plan))
  /-- JOB_AUTO_RELEASE (R545). The job. -/
  | jobAutoRelease (job : Nat)
  /-- DEVICE_RESET (R564). -/
  | deviceReset
  /-- FACTORY_DEFAULT (R565). The value written. -/
  | factoryDefault (value : Nat)
  /-- CONFIG_EXPORT (R567). The session, and the value written. -/
  | configExport (sess scope : Nat)
  /-- CONFIG_IMPORT (R568). The session, and the value written. -/
  | configImport (sess mode : Nat)
  /-- DIE_TEMP_SAMPLE (R562). The hottest sensor in 0.1 °C. -/
  | dieTempSample (temp : Int)
  /-- CONTROL_BUS_REQUEST (R581). Transactions in the order in which they are made, on a matrix whose channels are idle before. -/
  | controlBusRequest (reqs : List BusReq)
  /-- UNFREEZE (R589). The layout of R594. -/
  | unfreeze (value : Nat)
  /-- DMA_DESCRIPTOR (R591). The engine, the bytes moved, what it read from the host where it loads a clip, the job it serves, and whether it got an error response. -/
  | dmaDescriptor (dma bytes : Nat) (data : List Byte) (job : Option Nat) (error : Bool)
  /-- PCIE_REQUEST (R590). The BAR, the offset, the bytes read or written, whether the target cannot complete it, and what the route compiler makes of the messages that a doorbell announces, by slot. -/
  | pcieRequest (bar offset : Nat) (write : Bool) (len : Nat) (data : List Byte) (fails : Bool) (cs : List (Nat × Compiled))
  /-- RESET_RELEASE (R601). The strap balls in the layout of R599, the tamper sources as sampled, whether the start-up health tests pass, and whether PWR_OK rises within 1 s of step OTP where it was low. -/
  | resetRelease (straps pins : Nat) (entropy powered : Bool)
  /-- HANDOVER (R603). The index in the active journal half of the first record whose tag or length fails, if one does; the region descriptors of the image in the layout of R595; the bushels that fail BIST. -/
  | handover (bad : Option Nat) (regions : List (List Byte)) (failed : List Nat)
  /-- FIRST_CHAIN (R601). The start-up time in µs, and what the route compiler makes of the configuration. -/
  | firstChain (micros : Nat) (plan : Plan)
  /-- PORST_N_FALL (R620). -/
  | porstNFall
  /-- RCV_LENGTH (R609). The value written to RCV_LENGTH. -/
  | rcvLength (length : Nat)
  /-- TRIAL_CONFIRMATION (R608). -/
  | trialConfirmation
  /-- TRIAL_WATCHDOG (R608). -/
  | trialWatchdog
  /-- LC_TRANSITION (R611). -/
  | lcTransition (target : Nat)
  /-- FW_UPDATE (R617). -/
  | fwUpdate (sess : Nat)
  /-- FW_COMMIT (R618). -/
  | fwCommit
  /-- TAMPER_ACK (R622). -/
  | tamperAck
  /-- TAMPER_AT_START_UP (R621). The tamper sources as sampled. -/
  | tamperAtStartUp (pins : Nat)
  /-- STANDBY_TAMPER (R622). The tamper sources as sampled. -/
  | standbyTamper (pins : Nat)
  /-- TAMPER_RUNNING (R657). The tamper sources as sampled: the levels of TAMPER_IN0 to 3 in bits 3 to 0, and SHIELD cut or shorted in bit 4. -/
  | tamperRunning (pins : Nat)
  /-- OTP_INTENT (R615). The image key that the running image revokes, where it carries a revocation; else the next word of the change in progress. -/
  | otpIntent (revoke : Option Nat)
  /-- OPEN_PATH (R644). The session, ROOT, HANDLE and body of the request (R643, R644). -/
  | openPath (sess root handle : Nat) (body : List Byte)
  /-- OPEN_BLOB (R642). The session, HANDLE and body of the request. -/
  | openBlob (sess handle : Nat) (body : List Byte)
  /-- KEY_CLOSE (R644). The session and HANDLE of the request. -/
  | keyClose (sess handle : Nat)
  /-- GENERATE (R644). The session, KEK_HANDLE and body of the request. -/
  | generate (sess kek : Nat) (body : List Byte)
  /-- WRAP (R644). The session, KEK_HANDLE and body of the request. -/
  | wrap (sess kek : Nat) (body : List Byte)
  /-- ENCRYPT (R644). The session, HANDLE and body of the request. -/
  | encrypt (sess handle : Nat) (body : List Byte)
  /-- DECRYPT (R644). The session, HANDLE and body of the request. -/
  | decrypt (sess handle : Nat) (body : List Byte)
  /-- MAC (R644). The session, HANDLE and body of the request. -/
  | mac (sess handle : Nat) (body : List Byte)
  /-- REVOKE (R648). The session, ROOT and body of the request. -/
  | revoke (sess root : Nat) (body : List Byte)
  /-- REWRAP (R655). The session and the blob. -/
  | rewrap (sess : Nat) (body : List Byte)
  /-- ENROLL (R649). The session, and the enrollment public key. -/
  | enroll (sess : Nat) (value : List Byte)
  /-- ATTEST (R651). The session, and the challenge. -/
  | attest (sess : Nat) (value : List Byte)
  /-- KEY_MIGRATE (R653). The session, and M′ or nothing. -/
  | keyMigrate (sess : Nat) (value : List Byte)
  /-- KEY_RETIRE (R655). -/
  | keyRetire
  /-- TAMPER_CONFIG (R656). The layout of R663. -/
  | tamperConfig (value : Nat)
  /-- REMASK (R645). -/
  | remask
  /-- DRBG_RESEED (R646). -/
  | drbgReseed
  /-- ENTROPY_HEALTH_FAILURE (R646). -/
  | entropyHealthFailure
  /-- ENTROPY_RETEST (R646). Whether the start-up tests passed. -/
  | entropyRetest (passed : Bool)
  /-- EVENT_RAISED (R666). The event, its instance and its DETAIL. -/
  | eventRaised (event inst : Nat) (detail : List Byte)
  /-- EV_STATUS (R667). The event, and the bits written as 1. -/
  | evStatus (event mask : Nat)
  /-- ACK_ALL (R667). -/
  | ackAll
  /-- ROUTE_DEFAULTS (R689). -/
  | routeDefaults
  /-- PWR_OK_CHANGE (R615). -/
  | pwrOkChange (high : Bool)
  /-- REGISTER_WRITE (R19). The role, the object number, IFLAGS and the value bytes. -/
  | registerWrite (role obj flags : Nat) (val : List Byte)
  /-- SYNTH_RELOCKED (R132). -/
  | synthRelocked (synth : Nat)
  /-- LINE_GROUP_START (R57). The stream that feeds the output or sender, the group of its frame, both fields counted, and the packets of its lines for which no HANC had room (R334). -/
  | lineGroupStart (stream group displaced : Nat)
  /-- PORT_SAMPLE_DUE (R293). -/
  | portSampleDue (port : Nat)
  /-- MGMT_LINK_CHANGE (R551). MGMT0 or MGMT1. -/
  | mgmtLinkChange (iface : Nat) (up : Bool)
  /-- STAB_SIGNAL_DETECT (R85). -/
  | stabSignalDetect
  /-- PTP_MESSAGE_SEND (R112). 0 Sync, 1 Announce, 2 Delay_Req. -/
  | ptpMessageSend (inst port kind : Nat)
  /-- PTP_DELAY_RX (R112). 0 Delay_Req received, 1 Delay_Resp, 2 peer delay; timestamps in ps. -/
  | ptpDelayRx (inst port kind : Nat) (t1 t2 t3 t4 : Nat)
  /-- ESMC_SEND (R114). -/
  | esmcSend (port : Nat)
  /-- TC_SIGNAL_DETECT (R505). The reader. -/
  | tcSignalDetect (reader : Nat)
  /-- AON_SUPPLY_LOSS (R634). -/
  | aonSupplyLoss
  deriving DecidableEq, Repr

end Sys2Proof
end

