-- ==== Sys2Proof/Decode.lean ====
section
/-! DEFINITION. The command that a word of the table of operations spells. The table gives no row any bits: the commands are the
events and the accesses of the spec's rules, and no word spells one (log entry 2). -/

namespace Sys2Proof

/-- No row of the table has bits, so no word spells a command (log entry 2). -/
def decodeTableWord (_nbits _w : Nat) : Option Instr := none

end Sys2Proof
end

