-- ==== Sys2Proof/Machine/Flags.lean ====
section
/-! DEFINITION. Check codes and computed flags: the CRCs of R270, R289 and R441, and parity. -/

namespace Sys2Proof.Machine

/-- One bit of a CRC that shifts left: width, polynomial, register, input bit. -/
def crcBit (w poly r : Nat) (b : Bool) : Nat :=
  let top := r.testBit (w - 1) != b
  let x := r * 2 % 2 ^ w
  if top then x ^^^ poly else x

/-- The bits of a byte, most significant first. -/
def bitsMsb (b : Byte) : List Bool := (List.range 8).map fun i => b.toNat.testBit (7 - i)

/-- The bits of a byte, least significant first. -/
def bitsLsb (b : Byte) : List Bool := (List.range 8).map fun i => b.toNat.testBit i

/-- A CRC over bits. -/
def crcBits (w poly init : Nat) (l : List Bool) : Nat := l.foldl (crcBit w poly) init

/-- The bits of `n` reversed within `w`. -/
def reflect (w n : Nat) : Nat := (List.range w).foldl (fun a i => a * 2 + (n.testBit i).toNat) 0

/-- CRC-32 with the IEEE 802.3 polynomial (R61, R270, R567). -/
def crc32 (l : List Byte) : Nat :=
  reflect 32 (crcBits 32 0x04C11DB7 0xFFFFFFFF (l.flatMap bitsLsb)) ^^^ 0xFFFFFFFF

/-- The channel-status CRCC: x^8 + x^4 + x^3 + x^2 + 1, preset to all ones, in transmission order (R289). -/
def csCrcc (l : List Byte) : Nat := reflect 8 (crcBits 8 0x1D 0xFF (l.flatMap bitsLsb))

/-- HEC of an Ezavo header: x^8 + x^2 + x + 1 over bits [63:8], preset to 0, XORed with 0x55 (R441). -/
def hec (header : Nat) : Nat := crcBits 8 0x07 0 ((bytesBE 7 (header / 256)).flatMap bitsMsb) ^^^ 0x55

/-- PCRC of an Ezavo cell: x^12 + x^11 + x^3 + x^2 + x + 1 over the payload, preset to all ones (R441). -/
def pcrc (payload : List Byte) : Nat := crcBits 12 0x80F 0xFFF (payload.flatMap bitsMsb)

/-- Even parity of bytes: the XOR of all their bits (R141). -/
def parity (l : List Byte) : Bool := (l.flatMap bitsMsb).foldl (· != ·) false

/-- PAR of a cell: bit i is the parity of payload bytes 16 i to 16 i + 15 (R141). -/
def cellPar (payload : List Byte) : Nat := (List.range 8).foldl (fun a i => a + (parity (slice payload (16 * i) 16)).toNat * 2 ^ i) 0

end Sys2Proof.Machine
end

