-- ==== Sys2Proof/Config.lean ====
section
/-! DEFINITION. What an implementation or a device fixes and the spec does not state: uninterpreted constants.
No constant here has a body, so nothing can be proved of its value: a statement holds for every value of it. -/

namespace Sys2Proof.Config

/-- The free values: `free i` is the value that the `i`-th use of a free value takes (log entry 5). DESIGN CHOICE, safe. -/
opaque free : Nat → Nat

/-- A result that an operation leaves open, as a function of its operands: the operation's number and its operand (log entry 6). DESIGN CHOICE, safe. -/
opaque openResult : Nat → List Nat → Nat

/-- SHA-384 of bytes, as a number of 48 bytes (log entry 7). DESIGN CHOICE, safe. -/
opaque sha384 : List Byte → Nat

/-- HMAC-SHA-384 of a message under a key, as a number of 48 bytes (R629; log entry 7). DESIGN CHOICE, safe. -/
opaque hmac384 : List Byte → List Byte → Nat

/-- AES-256-GCM ciphertext of a plaintext: key, IV, AAD, plaintext; as a number of the plaintext's length (log entry 7). DESIGN CHOICE, safe. -/
opaque gcmSeal : List Byte → List Byte → List Byte → List Byte → Nat

/-- AES-256-GCM tag: key, IV, AAD, ciphertext; 16 bytes (log entry 7). DESIGN CHOICE, safe. -/
opaque gcmTag : List Byte → List Byte → List Byte → List Byte → Nat

/-- AES-256-GCM plaintext of a ciphertext: key, IV, AAD, ciphertext (log entry 7). DESIGN CHOICE, safe. -/
opaque gcmOpen : List Byte → List Byte → List Byte → List Byte → Nat

/-- ECDSA P-384 verification: public key, digest, signature (R531, R607, R613; log entry 7). DESIGN CHOICE, safe. -/
opaque ecdsaVerify : List Byte → List Byte → List Byte → Bool

/-- ECDSA P-384 signature by a private key over a digest: 96 bytes (log entry 7). DESIGN CHOICE, safe. -/
opaque ecdsaSign : List Byte → List Byte → Nat

/-- The P-384 public point of a private key: 97 bytes (log entry 7). DESIGN CHOICE, safe. -/
opaque ecPublic : List Byte → Nat

/-- Whether 97 bytes are a point on the P-384 curve (R531; log entry 7). DESIGN CHOICE, safe. -/
opaque ecOnCurve : List Byte → Bool

/-- The X coordinate of the ECDH product of a private key and a point: 48 bytes (R533; log entry 7). DESIGN CHOICE, safe. -/
opaque ecdhX : List Byte → List Byte → Nat

/-- The public keys and key hashes that the boot ROM holds: the image keys 0–3 (R607) and the service key 4 (R613); log entry 4. -/
opaque romKey : Nat → List Byte

/-- The die stepping (R560, by device; log entry 4). -/
opaque stepping : Nat

/-- The serial number, 24 bytes (R560, by device; log entry 4). -/
opaque serial : Nat

/-- BASE_MAC divided by 512 (R561, by device; log entry 4). -/
opaque macBlock : Nat

/-- The boot ROM version (R560, by device; log entry 4). -/
opaque romVersion : Nat

/-- The VND credential carried in the signed image (R531; log entry 4). -/
opaque vendorKey : List Byte

/-- The 32 bytes of a copy of the boot record in the flash as you fitted it (R605, R606; log entry 4). DESIGN CHOICE, safe. -/
opaque fittedRecord : Nat → List Byte

/-- The bytes of an image slot, 0 A and 1 B, in the flash as you fitted it (R605; log entry 4). DESIGN CHOICE, safe. -/
opaque fittedSlot : Nat → List Byte

/-- Bytes of the flash that you fitted (R574, R605; log entry 4). DESIGN CHOICE, safe. -/
opaque flashSize : Nat

end Sys2Proof.Config
end

