-- ==== Sys2Proof/Machine/Cells.lean ====
section
/-! DEFINITION. Sparse maps from numbers, in one canonical form (keys strictly rising), and their reads and writes. -/

namespace Sys2Proof.Machine

/-- A sparse map: key and value pairs, keys strictly rising. -/
abbrev SMap (α : Type) := List (Nat × α)

/-- The value listed at `k`. -/
def SMap.find? {α : Type} : SMap α → Nat → Option α
  | [], _ => none
  | (j, a) :: m, k => if j = k then some a else SMap.find? m k

/-- The value at `k`; `d` where nothing is listed. -/
def SMap.getD {α : Type} (m : SMap α) (k : Nat) (d : α) : α := (SMap.find? m k).getD d

/-- `m` with `a` listed at `k`. -/
def SMap.put {α : Type} : SMap α → Nat → α → SMap α
  | [], k, a => [(k, a)]
  | (j, b) :: m, k, a =>
    if k < j then (k, a) :: (j, b) :: m
    else if k = j then (k, a) :: m
    else (j, b) :: SMap.put m k a

/-- `m` with nothing listed at `k`. -/
def SMap.del {α : Type} : SMap α → Nat → SMap α
  | [], _ => []
  | (j, b) :: m, k => if j = k then m else (j, b) :: SMap.del m k

/-- `m` with `a` at `k`, listed only where it differs from `d`, what an unlisted key reads as. -/
def SMap.setD {α : Type} [DecidableEq α] (m : SMap α) (k : Nat) (d a : α) : SMap α :=
  if a = d then m.del k else m.put k a

/-- Every key of `m` is above `k`, and the keys rise. -/
def SMap.above {α : Type} : Nat → SMap α → Bool
  | _, [] => true
  | k, (j, _) :: m => decide (k < j) && SMap.above j m

/-- The keys rise strictly. -/
def SMap.rising {α : Type} : SMap α → Bool
  | [] => true
  | (j, _) :: m => SMap.above j m

/-- The one canonical form of a memory: addresses rise strictly, and no byte is listed that equals what its address reads as when it is
not listed. -/
def Memory.wf (m : SMap Byte) (d : Nat → Byte) : Bool := SMap.rising m && m.all fun c => decide (c.2 ≠ d c.1)

/-- The keys of `m` for which `p` holds. -/
def SMap.keysWhere {α : Type} (m : SMap α) (p : Nat → α → Bool) : List Nat :=
  (m.filter fun e => p e.1 e.2).map (·.1)

end Sys2Proof.Machine
end

