-- ==== Sys2Proof/Machine/State.lean ====
section
/-! DEFINITION. The state of the block as plain data, its faults and refusals, and the state after reset. -/

namespace Sys2Proof.Machine

/-- A stream descriptor (R149): words 0 and 1 are configuration, words 2 and 3 run state. -/
structure Desc where
  kind : Nat
  /-- 0 FREE, 1 STARTING, 2 ACTIVE, 3 DRAINING. -/
  state : Nat
  subst : Bool
  incomplete : Bool
  srcp : Nat
  dstp : Nat
  origin : Nat
  lineBytes : Nat
  lines : Nat
  interlaced : Bool
  reserve : Nat
  curGroup : Nat
  reqGroup : Nat
  frameIndex : Nat
  frames : Nat
  base : Nat
  cells : Nat
  substs : Nat
  /-- Cells of the current group moved so far (R153). -/
  moved : Nat
  /-- The class 08 destination instance it serves; 0xFFFF none. -/
  dest : Nat
  /-- The trunk lanes that bring it in and carry it out; 0xFFFF none. -/
  trunkIn : Nat
  trunkOut : Nat
  /-- The identifier that the device of origin assigned: the low bits of the domain stream identifier (R147). -/
  originId : Nat
  /-- Line groups, from the current one, that are read again from the previous frame in place of missing ones (R72). -/
  redo : Nat
  /-- The output repeats the last line it sent, for the group it sends now (R72). -/
  repeating : Bool
  /-- LABEL on the trunk lane that brings it in (R453). -/
  label : Nat
  deriving DecidableEq, Repr

/-- The class, instance and parameter of an object number, as one key (R516). -/
abbrev Key := Nat

/-- An event record as the event unit made it (R675, R676). -/
structure Rec where
  /-- Event number. -/
  event : Nat
  /-- Severity at the raising. -/
  severity : Nat
  /-- FLAGS: MASKED, REPEATED, SAFE_HOLD. -/
  flags : Nat
  /-- SEQ; 0 for a masked record. -/
  seq : Nat
  /-- TICK64 of the raising. -/
  tick : Nat
  /-- DEVICE. -/
  device : Nat
  /-- INSTANCE; 0xFFFF none. -/
  inst : Nat
  /-- DETAIL. -/
  detail : List Byte
  /-- EV_ROUTE at the raising (R687). -/
  route : Nat
  deriving DecidableEq, Repr

/-- The event unit's own state (R666 to R678). -/
structure EvuSt where
  /-- Records of this tick that wait for their routing, oldest first (R674). -/
  queue : List Rec
  /-- The seam has passed cycle 16: a raising now belongs to the next tick (R674). -/
  late : Bool
  /-- SEQ of the newest unmasked record (R676). -/
  seq : Nat
  /-- Unmasked records made in this tick (R677). -/
  made : Nat
  /-- Raisings without a record in this tick (R677). -/
  suppressed : Nat
  /-- The log: the newest 1,024 records, newest first, each with whether a session has read it (R678). -/
  log : List (Rec × Bool)
  /-- The events that EVENT triggers see in this tick (R674). -/
  cue : List Nat
  /-- Last raising of each rate-limited condition, by event and instance, in ticks since start. -/
  last : SMap Nat
  deriving DecidableEq, Repr

/-- The tick generator and the always-on timekeeping (R43 to R49). -/
structure TickSt where
  /-- TPER, unsigned Q24.40 fabric cycles (R43). -/
  tper : BitVec 64
  /-- The 40-bit fractional residue (R43). -/
  acc : BitVec 64
  /-- Fabric cycles of the present tick. -/
  len : Nat
  /-- TICK64 of the fabric tick generator (R48). -/
  tick : BitVec 64
  /-- TICK64 of the always-on counter (R45). -/
  aon : BitVec 64
  /-- Phase of the always-on boundary against the fabric boundary, in ps (R46). -/
  aonPhase : Int
  /-- Ticks since the first chain after reset: no step moves it (R560, UPTIME). -/
  up : Nat
  /-- Ticks since start-up began: the timebase of every timer. -/
  clock : Nat
  /-- A step waiting for seam cycle 32: the new TICK64 and TIME_SOURCE (R49). -/
  step : Option (Nat × Nat)
  /-- The number that the next tick takes from a step; none where it follows on (R49). -/
  jump : Option Nat
  /-- PPS_TIME was written, and the edge that it names has not come (R48). -/
  pps : Bool
  /-- The tick in progress has begun and its seam has not ended. -/
  inTick : Bool
  deriving DecidableEq, Repr

/-- What the device sends to its neighbours and its host, in order: a record of the model (log entry 8). -/
inductive Out where
  /-- A Filulo datagram or mailbox message to a session's peer (R524, R537). -/
  | filulo (sess : Nat) (bytes : List Byte)
  /-- An MSI-X message (R537, R673). -/
  | msix (vector : Nat)
  /-- A frame that the device originates on a bridge port: what it is, and its content (chapters 12 and 16). -/
  | frame (port : Nat) (what : Nat) (bytes : List Byte)
  /-- A domain or trunk record on the cascade: kind, destination device and content (chapter 15). -/
  | domain (kind dest : Nat) (args : List Nat)
  /-- An ICMP or ARP answer of a management interface (R524). -/
  | mgmt (iface : Nat) (bytes : List Byte)
  /-- The completion of a control-bus transaction or host request: master, address, response (R585) and the data of a read. -/
  | bus (master addr resp : Nat) (data : List Byte)
  /-- A packet or word on a media, lighting or timecode output: kind, instance and content. -/
  | media (kind inst : Nat) (args : List Nat)
  deriving DecidableEq, Repr

/-- A response item (R528). -/
structure RItem where
  obj : Nat
  status : Nat
  val : List Byte
  deriving DecidableEq, Repr

/-- A response (R527). -/
structure Resp where
  /-- REQ_SEQ. -/
  seq : Nat
  op : Nat
  status : Nat
  result : Nat
  items : List RItem
  deriving DecidableEq, Repr

/-- An entry of a session's notification queue (R543). -/
inductive NEntry where
  | value (sub tick : Nat) (item : RItem)
  | event (sub : Nat) (rec : Rec)
  | txDone (tx status tick : Nat)
  | job (job state status progress : Nat)
  | lost (sub count : Nat)
  deriving DecidableEq, Repr

/-- A subscription (R542). -/
structure Sub where
  id : Nat
  /-- EVENTS rather than VALUE. -/
  events : Bool
  obj : Nat
  wildcard : Bool
  minSeverity : Nat
  lastEvent : Nat
  interval : Nat
  /-- The value last notified of each object, and when (R543). -/
  seen : SMap (Val × Nat)
  /-- EVENT entries dropped since the last LOST (R544). -/
  dropped : Nat
  deriving DecidableEq, Repr

/-- An entry of a session's notification queue with the NOTIFY that carries it, until its NOTIFY_ACK (R544; log entry 11). -/
structure Note where
  seq : Nat
  entry : NEntry
  sentAt : Nat
  tries : Nat
  deriving DecidableEq, Repr

/-- What a session holds beyond its objects (R526, R530 to R544). -/
structure SessSt where
  /-- The SESSION field of its messages (R530). -/
  ident : Nat
  hello : List Byte
  challenge : List Byte
  /-- The device's ephemeral private key (R533). -/
  ephemeral : List Byte
  /-- The claim of R532 is in progress. -/
  claim : Bool
  /-- When CHALLENGE was sent, and from which IPv4 address HELLO came (R531). -/
  since : Nat
  peer : Nat
  /-- The 72 derived bytes (R533). -/
  keys : List Byte
  /-- The highest SEQ seen, and the SEQs seen of the 64 below it (R526). -/
  high : Nat
  seen : List Nat
  /-- The last 64 responses: SEQ of the request, and of the response (R526). -/
  cache : List (Nat × Nat × Resp)
  /-- SEQ of the last message sent (R526). -/
  sent : Nat
  /-- When the last message passing R534 arrived (R535). -/
  heard : Nat
  subs : List Sub
  /-- The notification queue, oldest first (R544). -/
  notes : List Note
  /-- The rest of the queue is full and 0x1C3 has been raised (R544). -/
  overflow : Bool
  /-- Values of the objects that hold one value for each session. -/
  own : SMap Val
  deriving DecidableEq, Repr

/-- The PCI Express mailbox (R537). -/
structure MailSt where
  h2dTail : Nat
  h2dHead : Nat
  d2hTail : Nat
  d2hHead : Nat
  /-- MB_STATUS: [1] READY, [0] OVERRUN. -/
  status : Nat
  /-- The D2H slots that the host has not freed, oldest first. -/
  d2h : List (List Byte)
  /-- Messages that wait for room in the D2H ring, oldest first, with their sessions. -/
  wait : List (Nat × List Byte)
  /-- Since when the D2H ring has been full; none while it has room. -/
  fullSince : Option Nat
  /-- What the route compiler makes of the messages that the H2D slots hold, by slot. -/
  compiled : SMap Compiled
  deriving DecidableEq, Repr

/-- A message being reassembled (R524). -/
structure Reasm where
  sess : Nat
  seq : Nat
  kind : Nat
  count : Nat
  parts : SMap (List Byte)
  since : Nat
  deriving DecidableEq, Repr

/-- The handshakes of an IPv4 address that ended in REJECT with DENIED, newest first, and until when its HELLOs are ignored (R531). -/
structure LockSt where
  rejects : List Nat
  until_ : Option Nat
  deriving DecidableEq, Repr

/-- Who a transaction comes from (R62). -/
inductive Origin where
  /-- A Filulo session. -/
  | host (sess : Nat)
  /-- A cue engine's record. -/
  | cue (engine record : Nat)
  /-- A domain epoch (R468). -/
  | domain (epoch : Nat)
  /-- Neloas itself: it never counts against the queue (R62). -/
  | neloas
  /-- A job that applies a configuration (R568). -/
  | job (job : Nat)
  deriving DecidableEq, Repr

/-- What admission resolved for a video destination: the format admitted on, the functions and their costs (R68, R227, R257). -/
structure PathPlan where
  /-- The class 08 and class 09 instance. -/
  path : Nat
  src : Nat
  fmt : Nat
  chain : List Nat
  costs : List Nat
  deriving DecidableEq, Repr

/-- A transaction (R539, R540). -/
structure Tx where
  id : Nat
  origin : Origin
  /-- Staged values, latest last. -/
  items : List (Key × Val)
  /-- Items staged, and value bytes (R539). -/
  count : Nat
  bytes : Nat
  /-- The first failing status of STAGE; 0 none (R539). -/
  fail : Nat
  /-- When the last BEGIN, STAGE or COMMIT touched it (R539). -/
  touched : Nat
  /-- The activation tick; none is NEXT (R63). -/
  act : Option Nat
  /-- Commit order (R64). -/
  order : Nat
  plan : Plan
  /-- Its activation tick passed in SAFE HOLD and it was re-admitted (R75). -/
  readmitted : Bool
  /-- The JSEQ of its TRANSACTION record once programmed (R520). -/
  jseq : Option Nat
  /-- It stages a persistent value (R520). -/
  persistent : Bool
  /-- The applied tick, once applied (R520). -/
  applied : Nat
  /-- The entries that admission placed: link and word (R67). -/
  placed : List (Nat × Nat)
  /-- The stream identifiers that admission assigned, with their descriptors (R148). -/
  ids : List (Nat × Desc)
  /-- The slot records that admission took: index in `FabSt.slots`, and record (R177). -/
  recs : List (Nat × Nat)
  /-- The extents that admission took (R184). -/
  takes : List (Nat × Nat × Nat)
  /-- Entries that the transaction takes out beside those of the streams it drops (R276). -/
  unplaced : List (Nat × Nat)
  /-- The conversion chains that admission resolved (R68, R227, R257). -/
  paths : List PathPlan
  /-- The terms that it adds to blocks of the audio matrix, with the phases of these blocks: block, terms and phase (R316). -/
  terms : List (Nat × Nat × Nat)
  /-- The shadow bank is written; its TRANSACTION record may be still to program (R520). -/
  written : Bool
  /-- The salvo that it was made from; 0xFFFF none (R240). -/
  salvo : Nat
  deriving DecidableEq, Repr

/-- A job slot's own state (R545, R547). -/
structure JobSt where
  /-- The J object. -/
  obj : Key
  /-- The value written. -/
  arg : Val
  role : Nat
  /-- The session that moves its data, none once it closed. -/
  bulk : Option Nat
  /-- Order of start. -/
  order : Nat
  /-- Data received or to be sent. -/
  data : List Byte
  /-- Offset of the next bulk request. -/
  next : Nat
  /-- Work done so far, in the job's own units. -/
  done : Nat
  /-- Parameters taken at the start. -/
  par : List Nat
  /-- A SUSPEND (1) or CANCEL (3) that waits for the next tick boundary. -/
  ask : Nat
  /-- When it entered DONE. -/
  doneAt : Nat
  /-- Its data is complete and offered by bulk transfer (R547). -/
  ready : Bool
  /-- The status with which its transaction ended (R568). -/
  tx : Option Nat
  /-- What the route compiler makes of its batches, by number (R28, R568). -/
  plans : List (Nat × Plan)
  deriving DecidableEq, Repr

/-- A journal record (R519). -/
structure JRec where
  /-- 1 TRANSACTION, 2 IMMEDIATE, 3 MARK, 4 SNAPSHOT. -/
  rtype : Nat
  jseq : Nat
  tick : Nat
  ref : Nat
  items : List (Key × Val)
  deriving DecidableEq, Repr

/-- What waits for a journal record to be programmed (R520, R521). -/
inductive JWait where
  /-- The shadow bank may become ARMED: the transaction of this commit order. -/
  | arm (order : Nat)
  /-- The completion of an applied transaction: origin, status and tick. -/
  | done (tx : Tx)
  /-- Responses to writes and actions. -/
  | answers (l : List (Nat × Resp))
  /-- The ACCEPT of a claim (R532). -/
  | claim (sess : Nat)
  /-- A snapshot of JOURNAL_COMPACT and then its MARK (R523). -/
  | snapshot (job : Nat)
  | switch (job : Nat)
  /-- The snapshot of FACTORY_DEFAULT and then its MARK (R565). -/
  | factory
  | factoryMark
  /-- Nothing waits. -/
  | nothing
  deriving DecidableEq, Repr

/-- The journal (R519 to R523). The two halves lie in the boot flash and survive reset. -/
structure JrnlSt where
  /-- Half 0 or 1. -/
  active : Nat
  half0 : List JRec
  half1 : List JRec
  /-- Records accepted and not yet programmed, oldest first, with what waits for each. -/
  todo : List (JRec × JWait)
  /-- JSEQ of the last record made. -/
  seq : Nat
  /-- WP values collected for the next IMMEDIATE record, the last of each object (R521). -/
  imm : List (Key × Val)
  immWait : List (Nat × Resp)
  /-- When the last IMMEDIATE record was made. -/
  lastImm : Nat
  /-- The compaction writes the other half too (R523). -/
  compacting : Bool
  /-- What replay dropped or could not verify at the last start: tag failures found by the start-up read (R522). -/
  badFrom : Option Nat
  deriving DecidableEq, Repr

/-- A cell-owing entry of the chain in this tick: cells it still has to issue or deliver (R71, R154). -/
structure Owing where
  /-- The entry's word (R51). -/
  word : Nat
  link : Nat
  cells : Nat
  /-- The bits of SPILL_CAUSES of its delay (R79); an entry behind a stalled one of its stream has that one's. -/
  cause : Nat
  /-- The cells that a write still has to issue. -/
  data : List (List Byte)
  deriving DecidableEq, Repr

/-- The chain and its transactions (R50 to R75). -/
structure ChainSt where
  /-- The entries of the active bank: link and word, in link order (R55). -/
  active : List (Nat × Nat)
  /-- The entries of the shadow bank: those of the bank before the last swap, until the mirror copy is complete (R61, R62). -/
  shadow : List (Nat × Nat)
  /-- The copies of the two banks in the system region of frame memory (R55). -/
  activeCopy : List (Nat × Nat)
  shadowCopy : List (Nat × Nat)
  /-- The transaction that the shadow bank holds (R61). -/
  cur : Option Tx
  /-- Admitted transactions that wait for the shadow, in commit order (R62). -/
  queue : List Tx
  /-- Open transactions (R539). -/
  opened : List Tx
  /-- Swapped transactions whose MARK is not yet programmed are in the journal; this is the last TX number (R539). -/
  lastTx : Nat
  /-- Commit order of the next transaction. -/
  order : Nat
  /-- Entries that have not delivered all their cells in this tick (R71). -/
  owing : List Owing
  /-- Stalls that hold back entries of this tick, reported before their entries (R154). -/
  stalls : List Owing
  /-- Ticks since start at which the last spills happened, newest first (R73). -/
  spills : List Nat
  /-- 0x014 was raised and 192 quiet ticks have not passed (R73). -/
  spillRaised : Bool
  /-- Streams whose reservation goes after a destination's switching line: transaction, destination (0xFFFF once it has switched)
  and stream (R66, R232). -/
  later : List (Nat × Nat × Nat)
  /-- Streams that Neloas removes at the next permitted seam (R66). -/
  removals : List Nat
  /-- SAFE HOLD began after the last swap strobe and before the tick that follows: post-swap initialisation is repeated (R60). -/
  reinit : Bool
  /-- The streams that the last swap started, with the descriptors they start with (R59, R60). -/
  begun : List (Nat × Desc)
  /-- When the last swap was made, and the tick count of the last seam that re-admitted (R62, R75). -/
  mirrorSince : Nat
  /-- Substitution flags set for this tick: streams (R59, R72). -/
  substituted : List Nat
  deriving DecidableEq, Repr

/-- Where the device is between PORST_N and the first chain (R600 to R604). -/
inductive Phase where
  /-- PORST_N is low. -/
  | inReset
  /-- The boot ROM steps run. -/
  | rom
  /-- Neloas runs and the first chain has not started. -/
  | neloas
  /-- Neloas waits for TAMPER_ACK (R622). -/
  | tamperWait
  /-- The first chain has started. -/
  | running
  /-- TAMPER HOLD (R621). -/
  | tamperHold
  /-- BOOT FAILED (R604). -/
  | bootFailed
  /-- END-OF-LIFE (R604). -/
  | endOfLife
  deriving DecidableEq, Repr

/-- What a candidate holds beyond its objects (R93 to R100). -/
structure CandSt where
  /-- When the qualification timer was last 0 (R96). -/
  timer : Nat
  /-- The candidate lies outside its hard window (R96). -/
  hardOut : Bool
  /-- The candidate lies outside its soft window (R96). -/
  softOut : Bool
  /-- When `softOut` last changed (R96). -/
  softSince : Nat
  /-- Outside the soft window for all of the qualification so far (R96). -/
  softAll : Bool
  /-- Offset from the crystal, 0.01 ppb (R88). -/
  xtal : Int
  /-- Since when an OUTVOTED candidate has agreed with all others (R100); none while it does not. -/
  agreeSince : Option Nat
  /-- The tick number that the source gives, less the device's (R49). -/
  timeDiff : Int
  /-- When the last Sync, ESMC or beacon arrived, and the interval to the next Sync, in ticks (R93). -/
  lastMsg : Nat
  interval : Nat
  /-- The TICK64 of the last beacon (R94). -/
  lastTick : Option Nat
  /-- SOURCE_TYPE and SOURCE_INDEX of the binding in force (R84). -/
  bound : Nat × Nat
  /-- The origin and receive timestamps of the last Sync, in ps (R94). -/
  lastSync : Option (Nat × Nat)
  /-- The ESMC timeout has been reported since the last message (R90). -/
  esmcOut : Bool
  deriving DecidableEq, Repr

/-- What a PTP instance holds beyond its objects (R112, R113, R507). -/
structure PtpSt where
  /-- State of each member port: port number and IEEE 1588 port state. -/
  ports : List (Nat × Nat)
  /-- A parent is known. -/
  hasParent : Bool
  /-- The parent's UTC offset, when it supplies one (R507). -/
  utc : Option Int
  /-- The parent's grandmaster priorities, as PRIORITIES holds them (R113). -/
  prio : Nat
  /-- When the last Announce of the parent arrived (R93, R112). -/
  lastAnn : Nat
  deriving DecidableEq, Repr

/-- The timing reference unit (R81 to R114). -/
structure TimingSt where
  /-- Candidates C0 to C15. -/
  cand : SMap CandSt
  /-- PTP instances. -/
  ptp : SMap PtpSt
  /-- A candidate's state, QL or OUTVOTED flag changed since the last evaluation (R98). -/
  dirty : Bool
  /-- The selected candidate was lost since the last evaluation (R96). -/
  lost : Bool
  /-- When the selector last evaluated (R98). -/
  lastEval : Nat
  /-- A reference has been selected since reset (R104, R108). -/
  everSelected : Bool
  /-- When the present holdover began. -/
  holdSince : Nat
  /-- HOLDOVER_SPEC has been reported for this holdover (R108). -/
  specOut : Bool
  /-- The clockClass last announced in LOCKED or PULLING (R113). -/
  lastClass : Nat
  /-- The disagreement of R100 stands. -/
  disagree : Bool
  /-- The disciplined frequency against STAB_IN, in 1/96 of 0.01 ppb (R81). -/
  freq : Int
  /-- What the tick has to pull to its time target, in 1/1,843,200 ps (R101). -/
  pull : Int
  /-- Frequencies of the selected reference, one each 192 ticks, newest first, with their times (R106). -/
  history : List (Nat × Int)
  /-- When STAB_IN last left its window (R85). -/
  stabSince : Nat
  /-- The crystal ratio frozen when STAB_IN failed in holdover (R107). -/
  frozen : Option Int
  /-- SOURCE_TYPE of the last selected candidate, and the candidate (R101, R103). -/
  lastType : Nat
  lastCand : Nat
  /-- The MODE in force at the last evaluation (R110). -/
  mode : Nat
  /-- The last currentUtcOffset that a PTP instance received as valid since the start (R507). -/
  utcLast : Option Int
  deriving DecidableEq, Repr

/-- A core PLL, VTS, ACS or lane PLL lock detector (R124 to R126). -/
structure PllSt where
  /-- When lock was last regained, while it is being confirmed. -/
  since : Option Nat
  /-- When the input last left its limits, for an LREF (R133). -/
  badSince : Nat
  deriving DecidableEq, Repr

/-- The counter of a VTS or ACS (R101, R103, R721). -/
structure SynthSt where
  /-- The place in its frame or sample block at the end of the tick, in phase units times the rate's numerator (R103). -/
  pos : Int
  /-- Its own frequency correction, in 1/96 of 0.01 ppb (R81). -/
  corr : Int
  /-- What it has to pull to its target, in 1/1,843,200 ps (R101). -/
  phase : Int
  /-- It moves to its target at its next boundary (R103, R104). -/
  realign : Bool
  /-- The index of the VTS frame in progress, none before the first (R212, R721); of an ACS, the tick count at which it was released. -/
  index : Option Nat
  /-- The index counts from the synthesizer's own first frame (R721). -/
  own : Bool
  /-- The frequency word, with a 48-bit fraction (R129). -/
  word : Nat
  deriving DecidableEq, Repr

/-- Clock synthesis (R120 to R134). -/
structure ClockSt where
  /-- Core PLLs 0 to 3. -/
  core : SMap PllSt
  /-- LREF0 to LREF11. -/
  lref : SMap PllSt
  /-- VTS0 to VTS15 at 0 to 15, ACS0 to ACS7 at 16 to 23. -/
  lock : SMap PllSt
  /-- The counters of VTS0 to VTS15 at 0 to 15, ACS0 to ACS7 at 16 to 23. -/
  synth : SMap SynthSt
  /-- The levels of the reference outputs 030 to 034: 0 static low, 1 running; PPS_OUT high (R115, R713). -/
  pins : SMap Nat
  /-- The HBM domain is in bypass (R127). -/
  hbmBypass : Bool
  /-- The fabric domain is in bypass (R127). -/
  fabBypass : Bool
  deriving DecidableEq, Repr

/-- What a serial lane holds beyond its objects (R416 to R428). -/
structure LaneSt where
  /-- The transmit PLL has confirmed lock: the transmitter is released (R134). -/
  released : Bool
  /-- When the transmit PLL last lost lock, or its reference or rate changed (R134). -/
  lostAt : Nat
  /-- The last converged CTLE code and DFE taps; none before the first convergence (R418). -/
  converged : Option (Nat × List Byte)
  /-- 0x113 has been raised since the receiver last was LOCKED (R416). -/
  eqReported : Bool
  /-- Since when |RATE_OFFSET| has exceeded 300 ppm, and whether 0x119 was raised for it (R422). -/
  rateSince : Option Nat
  rateReported : Bool
  /-- The slots in the elastic buffer, oldest first; 0 is a filler (R421). -/
  elastic : List Nat
  /-- The slot last read for delineation; 0 a filler (R421). -/
  slot : Nat
  /-- Errors and bits of the current window, and whether the checker was in SEARCH in it (R426). -/
  winErr : Nat
  winBits : Nat
  winSearch : Bool
  /-- CHK_RESTART waits for the next seam (R425). -/
  restart : Bool
  /-- Windows that ended in SAFE HOLD: errors, bits, in SEARCH (R426). -/
  held : List (Nat × Nat × Bool)
  /-- The line rate and family that an SDI transmitter last ran at, as rate × 2 + family (R134, R216). -/
  sdiRate : Nat
  /-- When the receiver entered ADAPTING (R416). -/
  adapting : Nat
  /-- The first tick of the checker's window (R426). -/
  winFrom : Nat
  /-- The CTLE code and DFE taps in use; none before the first ADAPTING (R418). -/
  eq : Option (Nat × List Byte)
  deriving DecidableEq, Repr

/-- The media fabric (R139 to R164). -/
structure FabSt where
  /-- The descriptors of assigned identifiers. -/
  desc : SMap Desc
  /-- When each freed identifier was freed (R148). -/
  freed : SMap Nat
  /-- The slot reservation tables: port × 131,072 + index to record (R177). -/
  slots : SMap Nat
  /-- Streams to be restarted at the next seam after a descriptor parity error (R151). -/
  repair : List Nat
  /-- Repaired video streams that wait for their next frame (R151). -/
  restart : List Nat
  /-- Cells moved in catch-up since the last event 0x040 of each port (R164). -/
  caught : SMap Nat
  /-- Ports that are receiving cells with VALID 0 (R164). -/
  invalid : List Nat
  /-- The descriptors as the last seam left them: what the inspection objects return (R163). -/
  sampled : SMap Desc
  /-- The cells of clip jobs that FP63 has received and not yet sent, oldest first, by clip instance (R186). -/
  relay : SMap (List (List Byte))
  /-- The cells of ANC units of work that an SDI port has ready, oldest first, by class 08 destination (R145, R236). -/
  anc : SMap (List (List Byte))
  /-- The cells that the trunk ports have received and not yet issued, oldest first, by stream (R453). -/
  trunk : SMap (List (List Byte))
  deriving DecidableEq, Repr

/-- Frame memory (R165 to R192). -/
structure FmemSt where
  /-- The bytes that differ from 0, by frame-memory byte address (R167, R173). -/
  mem : List Host.Cell
  /-- Extents whose unlisted bytes are open after a MEMTEST: base, length, seed (R181; log entry 15). -/
  wild : List (Nat × Nat × Nat)
  /-- Allocated extents of the general region: base, length, owner (R183, R184). -/
  extents : List (Nat × Nat × Nat)
  /-- key[0] to key[3] (R173). -/
  keys : List Nat
  /-- Cells to be written back after a scrub read, by byte address (R180). -/
  writeBack : List Nat
  /-- Pins that raised 0x056 in this pass: channel instance and pin (R171). -/
  pinsSeen : List (Nat × Nat)
  /-- The CLIP_STATE that a SAVING clip returns to (R187). -/
  saving : SMap Nat
  /-- Data words with a UE that no full-word write has replaced, by byte address (R170). -/
  bad : List Nat
  /-- The units of clips that have a UE: clip instance and unit (R170, R190). -/
  badUnits : List (Nat × Nat)
  /-- The extents that a running MEMTEST holds: base and length (R181, R182). -/
  testing : List (Nat × Nat)
  /-- What the running MEMTEST has counted, by channel instance: CEs and UEs (R181). -/
  tested : SMap (Nat × Nat)
  /-- Clips whose allocation completes at the next seam, since a MEMTEST held their extent (R182). -/
  placing : List Nat
  deriving DecidableEq, Repr

/-- What an SDI input and its synchroniser hold beyond their objects (R201 to R209). -/
structure InSt where
  /-- The try of the search, as an index of its list (R202). -/
  seek : Nat
  /-- The rate and family that were last locked (R202). -/
  last : Option (Nat × Nat)
  /-- Raster, scan and frame rate of the last frame received (R201). -/
  seen : List Nat
  /-- Frames in ALIGNING of which no two were identical (R201). -/
  odd : Nat
  /-- Number of the frame being written (R207, R209). -/
  frame : Nat
  /-- Writing has started: at the first line 1 after LOCKED (R201). -/
  writing : Bool
  /-- The frame being written is incomplete (R208). -/
  bad : Bool
  /-- Recent frames that are incomplete (R208). -/
  badFrames : List Nat
  /-- A frame has been completed since the input last was LOCKED (R211). -/
  good : Bool
  /-- The measured offset of the frame rate, 0.01 ppm (R203). -/
  offset : Int
  /-- An error was counted in the present second while LOCKED (R205). -/
  errSecond : Bool
  /-- Frames since the last payload ID, and what it said: raster, scan, rate, sampling and colour (R204). -/
  pidAge : Nat
  pid : List Nat
  /-- The line group and the packets of the ANC unit of work being gathered, in order of line and position (R145, R206). -/
  ancGroup : Nat
  anc : List (Nat × List Byte)
  /-- When the present try of the search began (R202). -/
  tried : Nat
  deriving DecidableEq, Repr

/-- What a video destination holds beyond its objects (R209 to R216, R230 to R239). -/
structure DestSt where
  /-- The frame of the source's synchroniser read last; none before a first selection (R209). -/
  read : Option Nat
  /-- The first selection that the new reader made at line 1 of the switch frame (R232). -/
  next : Option Nat
  /-- A video route is in force and waits for its switch frame, and since which tick (R230). -/
  waiting : Bool
  since : Nat
  /-- The switch frame has begun (R230). -/
  armed : Bool
  /-- The format with which the route on air, and the one that waits, were admitted (R211, R227). -/
  fmt : Nat
  nextFmt : Nat
  /-- The ancillary source on air, and the one that waits (R230, R236). -/
  anc : Nat
  nextAnc : Nat
  /-- LOSS_ACTION acts, for a loss or a mismatch, and for how many frames it has (R211). -/
  lost : Bool
  mismatch : Bool
  lostFrames : Nat
  /-- A line group of the present frame was substituted (R72). -/
  subst : Bool
  /-- When the synchroniser last slipped (R234). -/
  slip : Nat
  /-- An offset change waits for the next frame start (R213). -/
  moved : Bool
  /-- The output frame resumes after SAFE HOLD or idle: the next frame start makes a first selection (R217, R243). -/
  resume : Bool
  /-- Index of the VTS frame at which the last output frame began (R212, R721). -/
  index : Nat
  /-- An ancillary route is in force and waits for its switch frame (R230). -/
  ancWait : Bool
  /-- The audio frame number is taken from the index at the next frame start (R333). -/
  realign : Bool
  /-- A conversion path feeds the source on air, and the one that waits (R234). -/
  conv : Bool
  nextConv : Bool
  /-- The frame of the synchroniser that was read last, also while the source is lost (R211). -/
  shown : Nat
  deriving DecidableEq, Repr

/-- The working ring of an FRC (R261, R273). -/
structure RingSt where
  /-- The frames in the ring, newest first: ring time and place (R261). -/
  frames : List (Nat × Nat)
  /-- The weight of the next frame in 64ths (R261). -/
  weight : Nat
  deriving DecidableEq, Repr

/-- The conversion pool beyond its objects (R249 to R278). -/
structure ConvSt where
  /-- When each bushel's last errors occurred, newest first (R275). -/
  errs : SMap (List Nat)
  /-- Bushels that become FAILED at the next seam (R275). -/
  failing : List Nat
  /-- A change of cadence lock that waits for the next output frame start, by path (R263). -/
  cadence : SMap Nat
  /-- The contents of the LUT slots, which survive reset (R270). -/
  luts : SMap (List Byte)
  /-- The colour code that each path's COLOUR_IN resolves to (R258, R277). -/
  colour : SMap Nat
  /-- Pecks of a replaced path that stay committed until its old reads leave: transaction, path and pecks (R66). -/
  overlap : List (Nat × Nat × Nat)
  /-- Shed paths in the order in which they were shed, last first (R276). -/
  shed : List Nat
  /-- What the pool holds of the pictures that pass through it (R251, R252), by path × 64 + step × 8 + place. -/
  store : SMap (List Byte)
  /-- Lines of the present picture that each step has taken, by path × 8 + step. -/
  lines : SMap Nat
  /-- The ring of each path's FRC (R261, R273). -/
  rings : SMap RingSt
  /-- The LUT that each path uses: its slot's content as of the last output frame start (R270). -/
  tables : SMap (List Byte)
  deriving DecidableEq, Repr

/-- A value that moves linearly in steps, one for each sample (R320): present, target, step, and samples left. -/
structure Ramp where
  now : Int
  target : Int
  step : Int
  left : Nat
  deriving DecidableEq, Repr

/-- What an AES3 or MADI port holds beyond its objects (R287 to R303), by port code (R306). -/
structure PortSt where
  /-- The FIFO, oldest first: one list of matrix samples for each frame (R287). -/
  fifo : List (List Nat)
  /-- The first subframe of the frame being received (R289). -/
  half : List Nat
  /-- The previous good samples (R289). -/
  good : List Nat
  /-- Frames since the last Z preamble (R289). -/
  frames : Nat
  /-- The next subframe must be the second of its frame (R289). -/
  second : Bool
  /-- The present gain of the port's fades, 2^20 is full (R299). -/
  gain : Nat
  /-- The samples last read. -/
  last : List Nat
  /-- Fraction of a port sample carried to the next sample period, with the SRC in the path (R286). -/
  frac : Nat
  /-- Channel status declares non-PCM (R289). -/
  nonPcm : Bool
  /-- V_ACTION MUTE is muting samples (R310). -/
  muting : Bool
  /-- The fault was an overrun: the FIFO is discarded down to 64 when the fade completes (R299). -/
  overrun : Bool
  /-- The measured rate offset, 0.01 ppm (R295). -/
  offset : Int
  /-- The fades of SAFE HOLD and of the restart are in force (R304). -/
  hold : Bool
  /-- The SRC decision of AUTO has been made since the input last was LOCKED (R285). -/
  decided : Bool
  /-- The gain with which the present fade began, and the port samples of it so far (R299). -/
  base : Nat
  ramp : Nat
  /-- FADING-OUT goes on reading the FIFO (R299, R301, R304). -/
  reads : Bool
  /-- Since when IN_STATE has been what it is, or the last measurement in LOCKED (R285, R295). -/
  since : Nat
  /-- A Z preamble, or a MADI block start, has been found (R289, R294). -/
  synced : Bool
  /-- Complete blocks since ACQUIRING began (R295). -/
  blocks : Nat
  /-- The channels that the last MADI frame's highest active channel shows: 56, 64 or 0 (R294). -/
  count : Nat
  /-- The channel-status bits of the block in progress, by subframe (R289, R290). -/
  bits : Option (Nat × Nat)
  /-- Complete channel-status blocks that wait for their check, by subframe (R289). -/
  ready : List (Nat × List Byte)
  /-- The channel-status block that an output sends (R292). -/
  sent : List Byte
  deriving DecidableEq, Repr

/-- A port group's own state (R300, R301). -/
structure GroupSt where
  /-- The armed start and stop, as TICK64. -/
  start : Option Nat
  stop : Option Nat
  /-- Ticks since the first chain at index 0 (R301, R303). -/
  zero : Nat
  /-- The members fade out to stop (R301). -/
  stopping : Bool
  /-- The members as last applied (R301). -/
  members : List Nat
  /-- The samples by which REALIGN has stepped the index, and a step that its ACS has yet to make (R304). -/
  shift : Int
  step : Option Int
  deriving DecidableEq, Repr

/-- An ACS's follow loop (R297, R298). -/
structure FollowSt where
  /-- The integral, in 1/256 sample × update (R297). -/
  integral : Int
  /-- y in 0.01 ppm. -/
  y : Int
  /-- Since when |e| ≤ 2 samples, y has been at its limit, or within it. -/
  quiet : Option Nat
  limit : Option Nat
  within : Option Nat
  /-- y of the last 1,000 updates, newest first (R298). -/
  history : List Int
  /-- The last update, or the return to OFF (R297, R298). -/
  at_ : Nat
  deriving DecidableEq, Repr

/-- Audio ports, groups and follow loops (R284 to R310). -/
structure AudioSt where
  ports : SMap PortSt
  groups : SMap GroupSt
  follow : SMap FollowSt
  deriving DecidableEq, Repr

/-- A destination channel in which a switch or a ramp is under way (R320 to R325). A channel that is not listed sends its committed
set at its written gains. -/
structure ChanSt where
  /-- The set on air: for each slot its source and its gain (R319). -/
  air : List (Nat × Ramp)
  /-- The set committed and waiting for its switch sample (R322). -/
  want : Option (List (Nat × Ramp))
  /-- The new set of a switch in WAITING or FADING (R324). -/
  next : Option (List (Nat × Ramp))
  /-- A switch queued behind a crossfade (R324). -/
  queued : Option (List (Nat × Ramp))
  /-- Samples since WAITING began, or of the crossfade (R324, R325). -/
  timer : Nat
  /-- The factor of MUTE, 2^20 is 1 (R321). -/
  mute : Ramp
  /-- The switch sample of `want`, as ticks since start-up; none while a followed channel waits for its switching line (R230, R238). -/
  due : Option Nat
  deriving DecidableEq, Repr

/-- The newest results of a channel before MUTE, newest first: of the set on air, and of the new set of a switch; and the factor of MUTE of the
newest (R321, R323). -/
structure PastSt where
  old : List Int
  new : List Int
  mute : Int
  deriving DecidableEq, Repr

/-- The delay line of a destination block (R326): its frames newest first, its tap, and the tap and place of a crossfade. -/
structure LineSt where
  line : List (List Nat)
  tap : Nat
  oldTap : Nat
  left : Nat
  deriving DecidableEq, Repr

/-- A clip player's own state (R328). -/
structure PlayerSt where
  start : Option Nat
  stop : Option Nat
  pos : Nat
  fade : Ramp
  /-- The factor of the substitution of damaged or missing content, and the last good samples (R72, R328). -/
  cover : Ramp
  good : List Nat
  /-- Its read of this sample period is missing (R72). -/
  miss : Bool
  deriving DecidableEq, Repr

/-- A de-embedder's own state (R329 to R331). -/
structure DeembSt where
  /-- Groups whose control packet declares another rate or asynchronous audio (R329). -/
  badRate : Nat
  /-- The fade of its channels, 2^20 is full. -/
  fade : Ramp
  /-- The last samples of its channels, before the fade (R331). -/
  last : List Nat
  /-- When its input last became LOCKED (R286, R331). -/
  since : Nat
  deriving DecidableEq, Repr

/-- The audio matrix (R311 to R343). Samples are raw 32-bit words (R144). -/
structure AmxSt where
  /-- Source samples written in this sample period, and those of the period before (R315). -/
  src : SMap Nat
  cur : SMap Nat
  /-- Destination samples (R315). -/
  out : SMap Nat
  chans : SMap ChanSt
  lines : SMap LineSt
  players : SMap PlayerSt
  deembs : SMap DeembSt
  /-- Gain and mute writes since the last seam, and those that wait for the next sample period (R320). -/
  writes : List Key
  armed : List Key
  /-- Old sets released whose terms have not left: channel and terms (R322, R324). -/
  leaving : List (Nat × Nat)
  /-- The largest magnitudes of this metering window, by destination and by source channel. -/
  destPeak : SMap Nat
  srcPeak : SMap Nat
  /-- The destination samples of the period before, as the pass gave them (R72). -/
  prev : SMap Nat
  /-- Blocks of this period whose work is missing (R72, R127). -/
  missed : List Nat
  /-- Blocks that substitute or ramp back: the factor, 2^20 is 1, and the last good samples (R72). -/
  miss : SMap (Ramp × List Nat)
  /-- Newest results by channel (R323). -/
  past : SMap PastSt
  /-- The factor of embedded audio: SAFE HOLD fades it out, and the restart ramps it in (R75, R332). -/
  embed : Ramp
  deriving DecidableEq, Repr

/-- A frame in the bridge (R347 to R351). -/
structure Frame where
  /-- A frame from its destination address, without tag and FCS; a sender's packet in its pacer from its RTP header. -/
  body : List Byte
  vid : Nat
  pcp : Nat
  /-- The sender whose packet it is; 0xFFFF none. -/
  sender : Nat
  /-- The release slot of a paced packet; 0 none (R397). -/
  release : Nat
  /-- It has been counted in GUARD_HELD (R401). -/
  held : Bool
  deriving DecidableEq, Repr

/-- An entry of the VLAN table (R348, R350). -/
structure VlanEnt where
  flood : Bool
  members : Nat
  untagged : Nat
  deriving DecidableEq, Repr

/-- An entry of the filtering database (R349). -/
structure FdbEnt where
  port : Nat
  fixed : Bool
  /-- When it was last refreshed. -/
  time : Nat
  deriving DecidableEq, Repr

/-- A secure association (R356). -/
structure SaSt where
  key : List Byte
  pn : Nat
  sci : Nat
  ssci : Nat
  salt : List Byte
  /-- Where its wrapping key stands in the tree of scruples: the root first (R358). -/
  path : List Nat
  /-- The packet number with which it was installed: the lowest acceptable one of a receive association (R356). -/
  low : Nat
  deriving DecidableEq, Repr

/-- A flow shaper (R388 to R391). -/
structure ShapeSt where
  /-- L at the end of slot `slot`. -/
  level : Int
  slot : Nat
  rate : Nat
  burst : Nat
  port : Nat
  queue : List Frame
  elig : Option Nat
  deriving DecidableEq, Repr

/-- A policer's bucket at the end of a slot (R402). -/
structure BucketSt where
  level : Int
  slot : Nat
  deriving DecidableEq, Repr

/-- A credit-based class of a port: its credit at the start of `slot`, and until when it transmits (R392). -/
structure CbsSt where
  credit : Int
  slot : Nat
  busy : Nat
  deriving DecidableEq, Repr

/-- A gate list: its entries, and its base and cycle in ns (R398). -/
structure GateList where
  list : List (Nat × Nat)
  base : Nat
  cycle : Nat
  deriving DecidableEq, Repr

/-- The gate lists of a port (R400); a pending list with its start. -/
structure GateSt where
  oper : Option GateList
  pend : Option (GateList × Nat)
  /-- The states at the last change. -/
  gates : Nat
  deriving DecidableEq, Repr

/-- The next hop of a path of a sender (R354). -/
structure ArpSt where
  mac : Option Nat
  /-- Requests since the last answer. -/
  tries : Nat
  /-- When it was last asked for, answered, or given up. -/
  at_ : Nat
  deriving DecidableEq, Repr

/-- A frame, field or segment that a receiver receives: a unit, whose packets share a timestamp (R361, R369, R371). -/
structure RxUnit where
  stamp : Nat
  /-- The second field or segment of its frame. -/
  second : Bool
  /-- For each line group, when its first packet arrived. -/
  first : SMap Nat
  /-- For each line group that has not closed, the places and bytes of its packets. -/
  parts : SMap (List (Nat × List Byte))
  /-- The line groups that have closed, and how many of the first ones have gone to the queue. -/
  closed : List Nat
  sent : Nat
  /-- Its geometry is that of RX_FORMAT, so far. -/
  fits : Bool
  deriving DecidableEq, Repr

/-- What a receiver holds beyond its objects (R369 to R373). -/
structure RxSt where
  /-- The highest extended sequence number of each path; none before the first packet (R370). -/
  highA : Option Nat
  highB : Option Nat
  /-- Sequence numbers not yet arrived on a path, and since when. -/
  missA : List (Nat × Nat)
  missB : List (Nat × Nat)
  /-- Recent arrivals: sequence number, path, and time in ns. -/
  got : List (Nat × Nat × Nat)
  /-- The sum and the number of the differences that SKEW reports, and when it was last reported. -/
  skewSum : Int
  skewN : Nat
  skewAt : Nat
  /-- Received samples by matrix sample period at 48 kHz (R373). -/
  audio : SMap (List Nat)
  /-- The last good samples, and the factor of their concealment (R72). -/
  last : List Nat
  fade : Ramp
  /-- The units in progress, oldest first, and the timestamp of the last one that closed (R371). -/
  units : List RxUnit
  done : Option Nat
  /-- Closed lines of the frame in progress, from its first on (R372), and the closed line groups that the chain has yet to move: frame, line group in
  it, and bytes. -/
  lines : Nat
  queue : List (Nat × Nat × List Byte)
  /-- When each path last carried a packet (R369). -/
  seenA : Nat
  seenB : Nat
  /-- For AES3, the channel-status bits since the last Z of each channel, and whether each pair declares non-PCM (R337). -/
  cs : List (List Bool)
  nonPcm : List Bool
  /-- For DATA, the tick of the last payload, and the cells that payloads have taken in it (R374). -/
  cellsAt : Nat
  cells : Nat
  deriving DecidableEq, Repr

/-- The bridge, shaping, senders and receivers (R344 to R411). -/
structure NetSt where
  vlans : SMap VlanEnt
  /-- By MAC address × 4,096 + VID. -/
  fdb : SMap FdbEnt
  /-- The 64-bit key of the hash (R349). -/
  fdbKey : Nat
  /-- The written multicast entries: port sets, by MAC address × 4,096 + VID (R350). -/
  mcast : SMap Nat
  /-- The trapped frames, oldest first (R353). -/
  trap : List (List Byte)
  /-- Egress queues, by port × 8 + TC (R351). -/
  queues : SMap (List Frame)
  /-- When each interface last heard an IGMPv2 querier (R354). -/
  querier : SMap Nat
  /-- Next hops, by sender × 2 + path. -/
  arp : SMap ArpSt
  /-- Secure associations, by ((port × 2 + DIR) × 16 + SC) × 4 + AN (R355). -/
  sas : SMap SaSt
  /-- Installs that replace an association at the next seam (R356). -/
  newSas : SMap SaSt
  /-- The transmit AN in force, by port (R357). -/
  txAn : SMap Nat
  shapers : SMap ShapeSt
  /-- Shapers whose frames drain on their old port (R391). -/
  drains : SMap ShapeSt
  policers : SMap BucketSt
  /-- By port × 2 + class. -/
  cbs : SMap CbsSt
  /-- The slot at which each port's MAC is free again (R385). -/
  macFree : SMap Nat
  gates : SMap GateSt
  /-- Packets in the pacers: release slot, port and frame, by sender (R394). -/
  pacers : SMap (List (Nat × Nat × Frame))
  /-- The next sequence number of each sender. -/
  seqs : SMap Nat
  /-- The slot from which each sender sends: the first frame, field or packet time after it is the first sent (R364). -/
  begun : SMap Nat
  /-- For a VIDEO sender, the pictures that its engine has read, the one in progress last (R365); for an ANC sender, its cells (R367). -/
  stage : SMap (List (List Byte))
  /-- For an AUDIO or AES3 sender, the samples of its channels by sample index at 48 kHz (R366). -/
  heard : SMap (List (Nat × List Nat))
  /-- For a DATA sender, the UDP payloads that FP62 has given it, oldest first (R363, R396). -/
  units : SMap (List (List Byte))
  rx : SMap RxSt
  deriving DecidableEq, Repr

/-- A furlong: what a trunk lane holds beyond its objects (R442 to R456). -/
structure FurlongSt where
  /-- Delineation: 0 HUNT, 1 PRESYNC, 2 SYNC (R442). -/
  sync : Nat
  /-- Consecutive valid headers in PRESYNC, or invalid ones in SYNC. -/
  run : Nat
  /-- Consecutive beacons from one sender (R444). -/
  beacons : Nat
  /-- SENDER and SENDER_LANE of the last beacon; 0xFFFF none. -/
  sender : Nat
  lane : Nat
  /-- The last beacon carried another DOMAIN_ID. -/
  foreign : Bool
  /-- A beacon arrived in this tick, and consecutive ticks without one. -/
  got : Bool
  missed : Nat
  /-- Sum of one-way delays in ns, and their number (R445). -/
  delaySum : Int
  delayN : Nat
  /-- The delay that fixed the hop ticks; a move of more than 100 ns has been reported (R446). -/
  fixed : Nat
  drift : Bool
  /-- TX_TS of the last beacon received, and its receive time (R457). -/
  echoTs : Nat
  echoRx : Nat
  /-- PARENT of the peer, as its last beacon says (R466). -/
  parent : Nat
  /-- When the furlong entered FAULT. -/
  faultAt : Nat
  /-- The furlong does not fit the topology: it carries no traffic (R437). -/
  unfit : Bool
  /-- Trunk keys by direction × 2 + slot: the key, and where its wrapping key stands in the tree of scruples (R448). -/
  keys : SMap (List Byte × List Nat)
  /-- TRUNK_TX_KEY in force, the group counter of each key slot, and the cells of the open group: header, payload and ciphertext (R447,
  R448). -/
  txKey : Nat
  txGroups : SMap Nat
  txOpen : List (Nat × List Byte × List Byte)
  /-- Protected cells received since the last seal: header and payload (R447). -/
  rxCells : List (Nat × List Byte)
  /-- When seals failed, newest first (R444). -/
  fails : List Nat
  /-- The next SEQ of each unit or packet in progress, by type × 65,536 + LABEL (R443). -/
  units : SMap Nat
  /-- Local stream identifiers by LABEL (R453). -/
  labels : SMap Nat
  /-- Relay packets queued, oldest first: destination device, and the packet with its prefix (R454). -/
  relay : List (Nat × List Byte)
  /-- Relay cells sent in the current period of 192 ticks (R456). -/
  sent : Nat
  deriving DecidableEq, Repr

/-- The content of a beacon (R457). -/
structure Beacon where
  tick : Nat
  domain : Nat
  master : Nat
  priority : Nat
  hops : Nat
  backup : Nat
  ql : Nat
  flags : Nat
  epoch : Nat
  goEpoch : Nat
  size : Nat
  sender : Nat
  lane : Nat
  state : Nat
  parent : Nat
  utc : Nat
  utcFlags : Nat
  accDelay : Nat
  txTs : Nat
  echoTs : Nat
  echoRx : Nat
  deriving DecidableEq, Repr

/-- A route whose stream crosses furlongs: KIND, the destination's device and word, the source word, cells per tick, and the path pinned for
it, furlong by furlong from the source; no path where the route does not cross (R452). -/
structure PinSt where
  kind : Nat
  ddev : Nat
  dst : Nat
  src : Nat
  cells : Nat
  path : List Hop
  deriving DecidableEq, Repr

/-- An epoch as the master keeps it, or the backup's copy (R467 to R472). -/
structure EpochSt where
  epoch : Nat
  act : Nat
  mode : Nat
  /-- 0 PENDING, 1 GO, 2 NO-GO, 3 ABORTED. -/
  outcome : Nat
  /-- The participants in device order, with the items of their parts. -/
  parts : List (Nat × List (Nat × Val))
  prepared : List Nat
  /-- Refusals: device and status. -/
  refused : List (Nat × Nat)
  applied : List Nat
  /-- Devices that reported NOT-APPLIED, or are LOST, with the status that it gives the transaction. -/
  failed : List (Nat × Nat)
  /-- The device, session and TX number of the transaction; none for Neloas's own. -/
  origin : Option (Nat × Nat × Nat)
  /-- The transaction has ended. -/
  done : Bool
  /-- It was prepared under another master, and is held as a copy (R467). -/
  copy : Bool
  /-- The routes it moves, with the paths pinned for them (R468). -/
  pins : List PinSt
  deriving DecidableEq, Repr

/-- A prepared part of this device (R469). -/
structure PartSt where
  epoch : Nat
  act : Nat
  /-- Its transaction. -/
  tx : Nat
  master : Nat
  /-- The beacon of A − 16 carried GO (R65). -/
  go : Bool
  deriving DecidableEq, Repr

/-- A member as the master knows it (R461, R479). -/
structure MemberSt where
  priority : Nat
  age : Nat
  deriving DecidableEq, Repr

/-- The domain agent (R457 to R476). -/
structure DomainSt where
  /-- The newest mastered content received, its lane, and the tick of its receipt (R458). -/
  content : Option (Beacon × Nat × Nat)
  /-- A copy of the master's content arrived in this tick (R460). -/
  heard : Bool
  /-- When SEEKING began on an UP furlong, or the last JOIN was refused (R460). -/
  seekSince : Option Nat
  retryAt : Option Nat
  epochs : List EpochSt
  parts : List PartSt
  /-- Records owed to the master: epoch, activation tick, and the cause of NOT-APPLIED, 0 for APPLIED (R472). -/
  owed : List (Nat × Nat × Nat)
  /-- The master under which LAST_EPOCH was applied (R465, R474). -/
  lineage : Nat
  /-- The highest epoch seen (R462). -/
  highest : Nat
  members : SMap MemberSt
  /-- Devices that rejoined with missed epochs in the journal: RESYNC is to start for them (R474). -/
  rejoined : List Nat
  /-- A MASTER_HANDOVER that waits (R464). -/
  handover : Option Nat
  /-- The seed of R455, a new one that waits for a swap, and when the last was drawn (R456). -/
  seed : Nat
  newSeed : Option Nat
  reseedAt : Option Nat
  /-- Paths in force, by route (R452). -/
  pins : List PinSt
  /-- Candidate sets of relay packets, and the consecutive imbalanced periods of each (R456). -/
  sets : List (List Nat × Nat)
  deriving DecidableEq, Repr


/-- A fired action that waits: the engine, the record as it was when it fired, and its execution tick, in ticks since start (R493). -/
structure CueAct where
  engine : Nat
  record : Nat
  at_ : Nat
  bytes : List Byte
  /-- It has been counted in DEFERRED. -/
  deferred : Bool
  deriving DecidableEq, Repr

/-- A predicted EXACT firing (R490). -/
structure CuePredict where
  engine : Nat
  record : Nat
  reader : Nat
  target : Nat
  at_ : Nat
  /-- It has fired, and the target's word has not been decoded. -/
  fired : Bool
  deriving DecidableEq, Repr

/-- What records test that is latched at a seam (R487). -/
structure CueLatch where
  /-- Decoded words: reader, predecessor (none for the first), value, and whether it runs forward. -/
  words : List (Nat × Option Nat × Nat × Bool)
  /-- Accepted edges: pin, and whether it rises. -/
  edges : List (Nat × Bool)
  /-- Records whose action executed, as engine × 1,024 + record. -/
  ran : List Nat
  /-- Records that CUE_FIRE named. -/
  fires : List Nat
  deriving DecidableEq, Repr

/-- A live sACN source of a universe (R498). -/
structure SacnSrc where
  cid : List Byte
  priority : Nat
  slots : List Byte
  seq : Nat
  heard : Nat
  deriving DecidableEq, Repr

/-- An override of a slot (R500): S, T, N, X in ticks since start, HOLD, and the engine that made it. -/
structure Override where
  engine : Nat
  start : Nat
  target : Nat
  length : Nat
  since : Nat
  hold : Bool
  deriving DecidableEq, Repr

/-- A DMX512-A input (R504). -/
structure DmxIn where
  slots : List Byte
  run : Nat
  heard : Nat
  deriving DecidableEq, Repr

/-- The sACN transmission of a universe (R501). -/
structure SacnTx where
  seq : Nat
  /-- The tick, since start, from which the present output is in force. -/
  changed : Nat
  /-- When the last packet was sent. -/
  sent : Nat
  /-- Packets with Stream_Terminated still to send. -/
  term : Nat
  sender : Nat
  deriving DecidableEq, Repr

/-- An entry of the discovery table (R502): the universes by page. -/
structure DiscEnt where
  cid : List Byte
  name : List Byte
  pages : SMap (List Nat)
  heard : Nat
  deriving DecidableEq, Repr

/-- A timecode reader (R505). -/
structure ReaderSt where
  /-- Consecutive valid words with consecutive values. -/
  run : Nat
  /-- The last word decoded. -/
  last : Option Nat
  /-- The tick, since start, of the last word's first bit, and the last measured interval. -/
  start : Nat
  interval : Nat
  /-- Word periods in FREEWHEEL without a valid word. -/
  missed : Nat
  /-- The ticks since start in which the last valid word was decoded, and transitions were last known (R505). -/
  valid : Nat
  heard : Nat
  deriving DecidableEq, Repr

/-- A timecode generator (R506). -/
structure GenSt where
  /-- The next value in PRESET mode. -/
  next : Option Nat
  /-- The day and the UTC offset of the last TIME-OF-DAY word, and whether TICK64 has stepped since. -/
  day : Option Int
  off : Option Int
  jump : Bool
  /-- The tick since start in which the last word started. -/
  sent : Option Nat
  deriving DecidableEq, Repr

/-- The cue engines, lighting data, timecode and GPIO (R485 to R515). -/
structure CueSt where
  /-- Cue records by engine × 1,024 + index (R488). -/
  recs : SMap (List Byte)
  /-- Records that have disarmed (R489). -/
  spent : List Nat
  /-- TICK64 when each record was armed. -/
  armed : SMap Nat
  /-- TICK64 up to which each engine has dealt with AT_TICK records. -/
  seen : SMap Nat
  /-- The pending queues of all engines, in action order (R493, R494). -/
  queue : List CueAct
  /-- Actions that each engine has executed in this tick (R493). -/
  count : SMap Nat
  predict : List CuePredict
  /-- What was latched at the last seam, and what this tick gathers. -/
  latch : CueLatch
  gather : CueLatch
  /-- Written CUE_FLAGS that wait for the seam. -/
  flags : SMap Nat
  /-- Executed WRITE actions that the object engine has not served: engine, record, object, tick (since start) and value bytes (R495). -/
  writes : List (Nat × Nat × Nat × Nat × List Byte)
  /-- Executed SALVO actions not yet served: engine, record, salvo, the execution tick and LEAD (R492). -/
  salvos : List (Nat × Nat × Nat × Nat × Nat)
  /-- Live sACN sources by universe. -/
  sources : SMap (List SacnSrc)
  /-- The merge of the seam before the last, by universe. -/
  was : SMap (List Byte)
  /-- Overrides by universe × 512 + slot − 1. -/
  overrides : SMap Override
  dmxIn : SMap DmxIn
  tx : SMap SacnTx
  disc : List DiscEnt
  /-- When discovery packets were last sent. -/
  discAt : Option Nat
  readers : SMap ReaderSt
  gens : SMap GenSt
  /-- Pin levels that wait for the swap strobe. -/
  pins : SMap Nat
  /-- Running pulses: the tick since start whose seam ends the pulse, and the level to return to. -/
  pulses : SMap (Nat × Nat)
  /-- The tick since start in which an input's level was last accepted, or its mode applied (R508). -/
  accepted : SMap Nat
  deriving DecidableEq, Repr

/-- A region descriptor (R580, R595). -/
structure Region where
  base : Nat
  size : Nat
  masters : Nat
  attr : Nat
  target : Nat
  deriving DecidableEq, Repr

/-- A transaction granted to the HBM target, or waiting for it: the request, and for one of the host its offset in BAR2, its length and the
bytes it writes (R584, R590). -/
structure BusWait where
  req : BusReq
  host : Option (Nat × Nat × List Byte)
  deriving DecidableEq, Repr

/-- The control bus matrix, its memories and the PCI Express endpoint (R572 to R597). -/
structure BusSt where
  regions : List Region
  /-- The SRAM bytes that the bus or the recovery window wrote (R574, R609). -/
  sram : List Host.Cell
  /-- The master last granted on each read channel, by target (R582). -/
  park : SMap Nat
  /-- The bytes that the host wrote into the H2D slots, by mailbox offset (R537). -/
  h2d : List Host.Cell
  /-- The bytes that the host wrote into BAR4 (R590). -/
  msix : List Host.Cell
  /-- Posted writes that the endpoint logged as failed (R590). -/
  aer : Nat
  /-- DMA engines whose present descriptor has failed once (R591). -/
  retry : List Nat
  /-- Decode errors since the last event 0x1F1, by master (R586). -/
  decodes : SMap Nat
  /-- Transactions that wait inside the HBM target for unreserved slots, oldest first: at most 64 (R34, R584). -/
  inside : List BusWait
  /-- Transactions for the HBM target that it cannot accept yet, or that wait in their master (R573, R584). -/
  outside : List BusWait
  /-- Slots of each channel that the control bus has used in this tick, by channel instance (R34, R175). -/
  used : SMap Nat
  /-- Reserved slots of each stack that DEM entries have left idle in this tick (R54, R175). -/
  idle : SMap Nat
  /-- OUT_BASE of the outbound windows (R577). -/
  out : SMap Nat
  deriving DecidableEq, Repr

/-- An OTP intent slot that has been used (R615). -/
structure Intent where
  /-- 1 LC-RECORD, 2 SVN, 3 KEY-REVOKE, 4 ROOT-GEN. -/
  op : Nat
  arg : Nat
  armed : Bool
  done : Bool
  deriving DecidableEq, Repr

/-- One-time-programmable memory (R614). -/
structure OtpSt where
  /-- The root banks; no bytes where a bank holds no complete secret (R616). -/
  bank0 : List Byte
  bank1 : List Byte
  /-- ROOT_VOID. -/
  void : Nat
  /-- The written life-cycle records, slot 0 first (R612). -/
  lc : List Nat
  /-- SVN_OTP: bits set of the thermometer. -/
  svn : Nat
  /-- KEY_REVOKE. -/
  revoked : Nat
  /-- The used intent slots, lowest first. -/
  intents : List Intent
  deriving DecidableEq, Repr

/-- Boot, the boot flash outside the journal, and the life cycle (R598 to R628). OTP and flash survive reset. -/
structure BootSt where
  otp : OtpSt
  /-- The two copies of the boot record, 32 bytes each (R606). -/
  copy0 : List Byte
  copy1 : List Byte
  /-- The image slots: header and body as programmed (R605). -/
  slotA : List Byte
  slotB : List Byte
  /-- RCV_PAGE and RCV_STATUS; the recovery boot is in progress (R609). -/
  page : Nat
  rcv : Nat
  recovery : Bool
  /-- The image header and body that runs, or is about to (R607). -/
  image : List Byte
  /-- BOOT_SOURCE. -/
  source : Nat
  measurement : List Byte
  /-- BOOTSTAT (R604). -/
  bootstat : Nat
  /-- The PWR_OK pin (R598). -/
  pwrOk : Bool
  /-- What the boot ROM leaves for Neloas to raise: event, and the bit of BOOT_FLAGS that goes with it (R628). -/
  left : List (Nat × Nat)
  /-- Measured start-up time in µs (R601). -/
  bootTime : Nat
  /-- When the trial was handed over, while it is not confirmed (R608). -/
  handover : Option Nat
  /-- Responses that wait for an OTP change (R612). -/
  answers : List (Nat × Resp)
  /-- A reset has been accepted: COMMITs, job starts and persistent writes are BUSY (R564, R565, R612). -/
  closing : Bool
  /-- From when the next seam resets the device, and the RESET_CAUSE that follows (R564, R565, R612). -/
  resetAt : Option (Nat × Nat)
  /-- The phase of an FW_UPDATE that a reset cut off, and the session's FW_HOST_ADDR; 0 none (R617). -/
  fw : Nat
  /-- The SACN_CID drawn at the first start (R498, R501). -/
  cid : List Byte
  deriving DecidableEq, Repr

/-- What a fall of PORST_N leaves of boot: OTP, flash, and the PWR_OK pin (R598, R605, R614). -/
def BootSt.kept (b : BootSt) : BootSt :=
  { b with otp := { b.otp with intents := b.otp.intents.filter (·.armed) }, page := 0, rcv := 0, recovery := false,
           image := [], source := 0, measurement := [], bootstat := 0, left := [], bootTime := 0, handover := none, answers := [],
           closing := false, resetAt := none }

/-- An open handle (R640). -/
structure Handle where
  /-- 1 path, 2 blob. -/
  source : Nat
  /-- 0 present root, 1 previous. -/
  root : Nat
  /-- KEY_TYPE of a blob's key; 0 for a path, whose key serves as both (R636). -/
  keyType : Nat
  /-- MASTERS, WORLD, LC_MASK and USAGE, as bytes 0 to 4 of R635. -/
  attrs : List Byte
  /-- The labels of its path, and the identifiers of their nodes (R636). -/
  labels : List (List Byte)
  path : List Nat
  rootId : List Byte
  /-- Bytes of the key. -/
  len : Nat
  owner : Nat
  revoked : Bool
  deriving DecidableEq, Repr

/-- An entry of the generation store; `root` is the root under which the node stands (R633, R647). -/
structure GenEnt where
  node : Nat
  gen : Nat
  root : List Byte
  deriving DecidableEq, Repr

/-- The key store (R629 to R658). -/
structure KeySt where
  /-- The key RAM: (value XOR mask, mask) by slot; an unlisted slot is zeroised (R645). -/
  ram : SMap (List Byte × List Byte)
  /-- The slot that is re-masked next (R645). -/
  next : Nat
  rootId : List Byte
  /-- root_id of the previous root; no bytes where none is held (R654). -/
  prevId : List Byte
  /-- The public key of IDENTITY (R631). -/
  pub : List Byte
  handles : SMap Handle
  /-- The generation store: STORE_EPOCH, entries, and the transfer record (R633). It survives reset. -/
  epoch : Nat
  gens : List GenEnt
  transfer : List Byte
  /-- The CRC of the generation store fails (R634). -/
  lost : Bool
  /-- The tamper sources at the last sample: pins TAMPER_IN0 to 3, and SHIELD as bit 4 (R656). -/
  pins : Nat
  /-- When health tests failed, newest first (R646). -/
  fails : List Nat
  /-- Requests since the DRBG reseeded, and when it did (R646). -/
  requests : Nat
  reseedAt : Nat
  /-- Operations of this tick whose results are not yet released: session, and nodes of the key's path (R648). -/
  ran : List (Nat × List Nat)
  /-- Responses that wait for their release (R648). -/
  wait : List (Nat × Resp)
  /-- Revoked nodes whose port and trunk keys go at the next seam (R648). -/
  gone : List Nat
  /-- A tamper response: every port and trunk key goes at this seam (R657). -/
  wipe : Bool
  deriving DecidableEq, Repr

/-- What a fall of PORST_N leaves of the key store: the generation store and the tamper sources (R620, R633). -/
def KeySt.kept (k : KeySt) : KeySt :=
  { k with ram := [], next := 0, rootId := [], prevId := [], pub := [], handles := [], fails := [], requests := 0, reseedAt := 0,
           ran := [], wait := [], gone := [], wipe := false }

/-- The state of the block: everything the spec gives it, and the queue of waiting commands. -/
structure State where
  /-- The commands that wait, first in first out (log entry 1). -/
  pending : List Instr
  /-- The family member (R1; log entry 4). -/
  member : Member
  /-- Free values used so far: the model's own field (log entry 5). -/
  fresh : Nat
  /-- Where start-up stands (R600 to R604). -/
  phase : Phase
  /-- The strap balls as latched at the last rise of PORST_N (R599). -/
  straps : Nat
  /-- The values of the objects that differ from their defaults (R516, R517). -/
  objs : SMap Val
  /-- The values of the counters at the last seam cycle 16 (R59, R77). -/
  sample : SMap Val
  /-- What the device has sent (log entry 8). -/
  sent : List Out
  /-- The event unit (R666 to R678). -/
  evu : EvuSt
  /-- The tick generator (R43 to R49). -/
  tick : TickSt
  /-- The chain (R50 to R75). -/
  chain : ChainSt
  /-- Sessions (R526, R530 to R544). -/
  sess : SMap SessSt
  /-- The mailbox (R537). -/
  mail : MailSt
  /-- Messages being reassembled (R524). -/
  reasm : List Reasm
  /-- Rejected handshakes by IPv4 address (R531). -/
  locks : SMap LockSt
  /-- Job slots in use (R545). -/
  jobs : SMap JobSt
  /-- The journal (R519 to R523). -/
  jrnl : JrnlSt
  /-- Timing reference (R81 to R114). -/
  timing : TimingSt
  /-- Clock synthesis (R120 to R134). -/
  clocks : ClockSt
  /-- Serial lanes (R412 to R430). -/
  lanes : SMap LaneSt
  /-- The media fabric (R139 to R164). -/
  fabric : FabSt
  /-- Frame memory (R165 to R192). -/
  fmem : FmemSt
  /-- SDI inputs (R201 to R209). -/
  inputs : SMap InSt
  /-- Video destinations, by class 08 instance (R209 to R239). -/
  dests : SMap DestSt
  /-- The conversion pool (R249 to R283). -/
  conv : ConvSt
  /-- Audio ports (R284 to R310). -/
  audio : AudioSt
  /-- The audio matrix (R311 to R343). -/
  amx : AmxSt
  /-- The bridge, shaping, senders and receivers (R344 to R411). -/
  net : NetSt
  /-- Trunk lanes (R436 to R456). -/
  furlongs : SMap FurlongSt
  /-- The domain agent (R457 to R476). -/
  domain : DomainSt
  /-- Boot and the life cycle (R598 to R628; log entries 4 and 9). -/
  boot : BootSt
  /-- The key store (R629 to R664; log entry 9). -/
  keys : KeySt
  /-- The control bus and the PCI Express endpoint (R572 to R597; log entry 9). -/
  bus : BusSt
  /-- The cue engines, lighting data, timecode and GPIO (R485 to R515). -/
  cues : CueSt
  /-- Event 0x002 was raised, and DIE_TEMP has not fallen 5 °C below TEMP_WARN since (R562). -/
  hot : Bool
  /-- DIE_TEMP has been read since reset (R562). -/
  measured : Bool
  deriving DecidableEq, Repr

/-- Why a command stops with a fault. No meaning raises one: the spec answers every condition with a status, an event or a
response (R23, R679). Safe: no run ends in it. -/
inductive Fault where
  /-- The crystal stopped: all logic stops (R121). Raised by no command. Safe. -/
  | crystalStopped
  deriving DecidableEq, Repr

/-- Why a command is refused. -/
inductive Refusal where
  /-- The command has no meaning in this model yet; raised by `exec`'s arms alone. Safe. -/
  | notModelled (mnemonic : String)
  deriving DecidableEq, Repr


/-- The block right after reset: PORST_N low, every object at its default, no command waiting (R517, R598). -/
def State.reset : State where
  pending := []
  member := .tmn9624
  fresh := 0
  phase := .inReset
  straps := 0
  objs := []
  sample := []
  sent := []
  evu := ⟨[], false, 0, 0, 0, [], [], []⟩
  tick := ⟨0x001F400000000000#64, 0, 8000, 0, 0, 0, 0, 0, none, none, false, false⟩
  chain := ⟨[], [], [], [], none, [], [], 0, 0, [], [], [], false, [], [], false, [], 0, []⟩
  sess := []
  mail := ⟨0, 0, 0, 0, 0, [], [], none, []⟩
  reasm := []
  locks := []
  jobs := []
  jrnl := ⟨0, [], [], [], 0, [], [], 0, false, none⟩
  timing := ⟨[], [], false, false, 0, false, 0, false, 0, false, 0, 0, [], 0, none, 0, 0, 0, none⟩
  clocks := ⟨[], [], [], [], [], true, true⟩
  lanes := []
  fabric := ⟨[], [], [], [], [], [], [], [], [], [], []⟩
  fmem := ⟨[], [], [], [], [], [], [], [], [], [], [], []⟩
  inputs := []
  dests := []
  conv := ⟨[], [], [], [], [], [], [], [], [], [], []⟩
  audio := ⟨[], [], []⟩
  amx := ⟨[], [], [], [], [], [], [], [], [], [], [], [], [], [], [], [], ⟨0x100000, 0x100000, 0, 0⟩⟩
  net := ⟨[], [], 0, [], [], [], [], [], [], [], [], [], [], [], [], [], [], [], [], [], [], [], [], []⟩
  furlongs := []
  domain := ⟨none, false, none, none, [], [], [], 0, 0, [], [], none, 0, none, none, [], []⟩
  boot := ⟨⟨[], [], 0, [0, 1], 0, 0, []⟩, Config.fittedRecord 0, Config.fittedRecord 1, Config.fittedSlot 0, Config.fittedSlot 1, 0, 0, false, [], 0, [], 0, false, [], 0, none, [], false, none, 0, []⟩
  keys := ⟨[], 0, [], [], [], [], 0, [], [], true, 0x0F, [], 0, 0, [], [], [], false⟩
  bus := ⟨[], [], [], [], [], 0, [], [], [], [], [], [], []⟩
  cues := ⟨[], [], [], [], [], [], [], ⟨[], [], [], []⟩, ⟨[], [], [], []⟩, [], [], [], [], [], [], [], [], [], none, [], [], [], [], []⟩
  hot := false
  measured := false

end Sys2Proof.Machine
end

