-- ==== Sys2Proof/Machine/Dictionary.lean ====
section
/-! DEFINITION. The object dictionary: what the object tables of the spec say of every object (R18, R19, R516, R517, R555). -/

namespace Sys2Proof.Machine

/-- The type of an object's value (R18). -/
inductive Ty where
  | bool | u8 | u16 | u32 | u64 | s16 | s32 | s64 | q420 | enum8 | bits32 | time80 | tick64 | route
  | str (n : Nat)
  | blob (n : Nat)
  deriving DecidableEq, Repr

/-- The access code of an object (R19). -/
inductive Acc where
  | R | W | S | X | J | RW | WP | SP
  deriving DecidableEq, Repr

/-- The Default column: a number, `n` bytes of zero, bytes padded to the type's size, blank, or a default stated by rule. -/
inductive Dflt where
  | num (n : Nat) | fill (n : Nat) | text (cs : List Nat) | none | by
  deriving DecidableEq, Repr

/-- The part of the Range column that one value shows: `u`/`s` unsigned and signed bounds, `uOr` bounds or one further value,
`mask` the bits that exist, `step` bounds and a step, `many` a whole number of elements, `format` a format code of R197. -/
inductive Rng where
  | any | u (lo hi : Nat) | s (lo hi : Int) | uOr (lo hi x : Nat) | oneOf (l : List Nat) | mask (m : Nat)
  | step (lo hi k : Nat) | many (k : Nat) | format
  deriving DecidableEq, Repr

/-- One row of an object table: class, instances on the largest member, first parameter, number of parameters, whether a
channel digit precedes the parameter (class 0C), type, access, roles (OPR 1, ENG 2, SEC 4), default, range, and whether a read
returns the value sampled at seam cycle 16. -/
structure ObjRow where
  cls : Nat
  insts : List (Nat × Nat)
  par : Nat
  cnt : Nat
  chan : Bool
  ty : Ty
  acc : Acc
  roles : Nat
  dflt : Dflt
  rng : Rng
  ctr : Bool
  deriving DecidableEq, Repr

/-- The object table of class 00. -/
def rows00 : List ObjRow := [
  ⟨0x00, [(0x0, 0x0)], 0x000, 1, false, (.str 32), .R, 7, .text [0x4B, 0x6F, 0x6C, 0x65, 0x69, 0x70, 0x61, 0x20, 0x4D, 0x69, 0x63, 0x72, 0x6F, 0x73, 0x79, 0x73, 0x74, 0x65, 0x6D, 0x73], .any, false⟩,
  ⟨0x00, [(0x0, 0x0)], 0x001, 1, false, (.str 16), .R, 7, .text [0x54, 0x72, 0x6F, 0x6D, 0x65, 0x6E], .any, false⟩,
  ⟨0x00, [(0x0, 0x0)], 0x002, 1, false, .enum8, .R, 7, .by, .any, false⟩,
  ⟨0x00, [(0x0, 0x0)], 0x003, 1, false, (.str 16), .R, 7, .by, .any, false⟩,
  ⟨0x00, [(0x0, 0x0)], 0x004, 1, false, .u16, .R, 6, .by, .any, false⟩,
  ⟨0x00, [(0x0, 0x0)], 0x005, 1, false, (.str 24), .R, 7, .by, .any, false⟩,
  ⟨0x00, [(0x0, 0x0)], 0x006, 1, false, (.blob 6), .R, 2, .by, .any, false⟩,
  ⟨0x00, [(0x0, 0x0)], 0x007, 1, false, .u32, .R, 7, .by, .any, false⟩,
  ⟨0x00, [(0x0, 0x0)], 0x008, 1, false, .u32, .R, 6, .by, .any, false⟩,
  ⟨0x00, [(0x0, 0x0)], 0x009, 1, false, (.str 64), .SP, 2, .fill 64, .any, false⟩,
  ⟨0x00, [(0x0, 0x0)], 0x00A, 1, false, (.str 64), .SP, 2, .fill 64, .any, false⟩,
  ⟨0x00, [(0x0, 0x0)], 0x00B, 1, false, .enum8, .R, 7, .num 0, .any, false⟩,
  ⟨0x00, [(0x0, 0x0)], 0x00C, 1, false, .u64, .R, 3, .num 0, .any, false⟩,
  ⟨0x00, [(0x0, 0x0)], 0x00D, 1, false, .s16, .R, 3, .num 0, .any, false⟩,
  ⟨0x00, [(0x0, 0x0)], 0x00E, 1, false, .s16, .R, 2, .num 0, .any, false⟩,
  ⟨0x00, [(0x0, 0x0)], 0x00F, 1, false, .s16, .SP, 2, .num 0x3E8, .s 500 1050, false⟩,
  ⟨0x00, [(0x0, 0x0)], 0x010, 1, false, .bits32, .R, 7, .num 0x1FFFFFFF, .any, false⟩,
  ⟨0x00, [(0x0, 0x0)], 0x011, 1, false, .u16, .R, 3, .by, .any, false⟩,
  ⟨0x00, [(0x0, 0x0)], 0x012, 1, false, .u8, .R, 3, .by, .any, false⟩,
  ⟨0x00, [(0x0, 0x0)], 0x013, 1, false, .u8, .R, 3, .by, .any, false⟩,
  ⟨0x00, [(0x0, 0x0)], 0x014, 1, false, .u16, .R, 3, .by, .any, false⟩,
  ⟨0x00, [(0x0, 0x0)], 0x015, 1, false, .bool, .R, 3, .by, .any, false⟩,
  ⟨0x00, [(0x0, 0x0)], 0x016, 1, false, .u8, .R, 3, .by, .any, false⟩,
  ⟨0x00, [(0x0, 0x0)], 0x017, 1, false, .u8, .R, 3, .by, .any, false⟩,
  ⟨0x00, [(0x0, 0x0)], 0x018, 1, false, .u8, .R, 3, .by, .any, false⟩,
  ⟨0x00, [(0x0, 0x0)], 0x019, 1, false, .u16, .R, 3, .by, .any, false⟩,
  ⟨0x00, [(0x0, 0x0)], 0x01A, 1, false, .u16, .R, 3, .by, .any, false⟩,
  ⟨0x00, [(0x0, 0x0)], 0x01B, 1, false, .bool, .R, 6, .by, .any, false⟩,
  ⟨0x00, [(0x0, 0x0)], 0x020, 1, false, .u16, .R, 2, .num 0x1D40, .any, false⟩,
  ⟨0x00, [(0x0, 0x0)], 0x021, 1, false, .u8, .R, 2, .num 0x4B, .any, false⟩,
  ⟨0x00, [(0x0, 0x0)], 0x022, 1, false, .u32, .R, 2, .num 0x40000, .any, false⟩,
  ⟨0x00, [(0x0, 0x0)], 0x023, 1, false, .u16, .R, 2, .num 0x1400, .any, false⟩,
  ⟨0x00, [(0x0, 0x0)], 0x024, 1, false, .u16, .R, 2, .num 0xFFEF, .any, false⟩,
  ⟨0x00, [(0x0, 0x0)], 0x025, 1, false, .u8, .R, 2, .num 0x18, .any, false⟩,
  ⟨0x00, [(0x0, 0x0)], 0x026, 1, false, .u64, .R, 3, .by, .any, false⟩,
  ⟨0x00, [(0x0, 0x0)], 0x027, 1, false, .u64, .R, 3, .by, .any, false⟩,
  ⟨0x00, [(0x0, 0x0)], 0x028, 1, false, .u16, .R, 3, .by, .any, false⟩,
  ⟨0x00, [(0x0, 0x0)], 0x029, 1, false, .u32, .R, 3, .by, .any, false⟩,
  ⟨0x00, [(0x0, 0x0)], 0x02A, 1, false, .u16, .R, 3, .by, .any, false⟩,
  ⟨0x00, [(0x0, 0x0)], 0x02B, 1, false, .u16, .R, 3, .by, .any, false⟩,
  ⟨0x00, [(0x0, 0x0)], 0x040, 1, false, .bool, .X, 6, .none, .oneOf [1], false⟩,
  ⟨0x00, [(0x0, 0x0)], 0x041, 1, false, .u32, .X, 4, .none, .oneOf [0x00464400], false⟩,
  ⟨0x00, [(0x0, 0x0)], 0x050, 1, false, .u8, .J, 2, .none, .uOr 0 28 0xFF, false⟩,
  ⟨0x00, [(0x0, 0x0)], 0x051, 1, false, .enum8, .J, 2, .none, .oneOf [0, 1], false⟩,
  ⟨0x00, [(0x0, 0x0)], 0x052, 1, false, .u64, .W, 2, .num 0, .any, false⟩,
  ⟨0x00, [(0x0, 0x0)], 0x060, 1, false, .bits32, .RW, 2, .num 0, .mask 0x1F, false⟩]

/-- The object table of class 01. -/
def rows01 : List ObjRow := [
  ⟨0x01, [(0x0, 0x0)], 0x000, 1, false, .tick64, .R, 7, .num 0, .any, true⟩,
  ⟨0x01, [(0x0, 0x0)], 0x001, 1, false, .bool, .R, 7, .num 0, .any, false⟩,
  ⟨0x01, [(0x0, 0x0)], 0x002, 1, false, .enum8, .R, 7, .num 0, .any, false⟩,
  ⟨0x01, [(0x0, 0x0)], 0x003, 1, false, .u64, .R, 2, .num 0x1F400000000000, .any, false⟩,
  ⟨0x01, [(0x0, 0x0)], 0x004, 1, false, .time80, .W, 2, .num 0, .any, false⟩,
  ⟨0x01, [(0x0, 0x0)], 0x005, 1, false, .time80, .X, 2, .none, .any, false⟩,
  ⟨0x01, [(0x0, 0x0)], 0x006, 1, false, .s16, .WP, 2, .num 0x25, .s 0 255, false⟩,
  ⟨0x01, [(0x0, 0x0)], 0x010, 1, false, .enum8, .R, 7, .num 3, .any, false⟩,
  ⟨0x01, [(0x0, 0x0)], 0x011, 1, false, .enum8, .R, 2, .num 0, .any, false⟩,
  ⟨0x01, [(0x0, 0x0)], 0x012, 1, false, .u8, .R, 2, .num 0, .any, false⟩,
  ⟨0x01, [(0x0, 0x0)], 0x013, 1, false, .tick64, .R, 3, .num 0, .any, false⟩,
  ⟨0x01, [(0x0, 0x0)], 0x014, 1, false, .u32, .R, 3, .num 0, .any, true⟩,
  ⟨0x01, [(0x0, 0x0)], 0x015, 1, false, .u32, .R, 2, .num 0, .any, false⟩,
  ⟨0x01, [(0x0, 0x0)], 0x016, 1, false, .u16, .R, 2, .num 0, .any, false⟩,
  ⟨0x01, [(0x0, 0x0)], 0x017, 1, false, .enum8, .R, 3, .num 0, .any, false⟩,
  ⟨0x01, [(0x0, 0x0)], 0x020, 1, false, .u64, .R, 2, .num 0, .any, true⟩,
  ⟨0x01, [(0x0, 0x0)], 0x021, 1, false, .u64, .R, 2, .num 0, .any, true⟩,
  ⟨0x01, [(0x0, 0x0)], 0x022, 1, false, .tick64, .R, 2, .num 0, .any, false⟩,
  ⟨0x01, [(0x0, 0x0)], 0x023, 1, false, .bits32, .RW, 2, .num 0, .mask 0x7, false⟩,
  ⟨0x01, [(0x0, 0x0)], 0x024, 1, false, (.blob 32), .R, 2, .fill 0, .any, false⟩,
  ⟨0x01, [(0x0, 0x0)], 0x025, 1, false, .u16, .R, 2, .num 0, .any, false⟩,
  ⟨0x01, [(0x0, 0x0)], 0x030, 1, false, .u32, .R, 2, .num 0, .any, true⟩,
  ⟨0x01, [(0x0, 0x0)], 0x031, 1, false, .tick64, .R, 2, .num 0, .any, false⟩]

/-- The object table of class 02. -/
def rows02 : List ObjRow := [
  ⟨0x02, [(0x0, 0xF)], 0x000, 1, false, .enum8, .SP, 2, .num 0, .oneOf [0, 1, 2, 3, 4, 5, 6, 7, 8, 9], false⟩,
  ⟨0x02, [(0x0, 0xF)], 0x001, 1, false, .u16, .SP, 2, .num 0, .any, false⟩,
  ⟨0x02, [(0x0, 0xF)], 0x002, 1, false, .enum8, .SP, 2, .num 0, .any, false⟩,
  ⟨0x02, [(0x0, 0xF)], 0x003, 1, false, .u8, .SP, 2, .by, .u 0 15, false⟩,
  ⟨0x02, [(0x0, 0xF)], 0x004, 1, false, .u8, .SP, 2, .num 8, .u 0 15, false⟩,
  ⟨0x02, [(0x0, 0xF)], 0x005, 1, false, .u32, .SP, 2, .by, .u 100 600000, false⟩,
  ⟨0x02, [(0x0, 0xF)], 0x006, 1, false, .u32, .SP, 2, .by, .u 1 10000, false⟩,
  ⟨0x02, [(0x0, 0xF)], 0x007, 1, false, .u32, .SP, 2, .by, .u 1 10000, false⟩,
  ⟨0x02, [(0x0, 0xF)], 0x008, 1, false, .u32, .SP, 2, .by, .u 10 10000, false⟩,
  ⟨0x02, [(0x0, 0xF)], 0x010, 1, false, .enum8, .R, 7, .num 0, .any, false⟩,
  ⟨0x02, [(0x0, 0xF)], 0x011, 1, false, .u8, .R, 7, .num 0, .any, false⟩,
  ⟨0x02, [(0x0, 0xF)], 0x012, 1, false, .bool, .R, 3, .num 0, .any, false⟩,
  ⟨0x02, [(0x0, 0xF)], 0x013, 1, false, .s32, .R, 2, .num 0, .any, false⟩,
  ⟨0x02, [(0x0, 0xF)], 0x014, 1, false, .s64, .R, 2, .num 0, .any, false⟩,
  ⟨0x02, [(0x0, 0xF)], 0x015, 1, false, .bits32, .RW, 2, .num 0, .mask 0x3F, false⟩,
  ⟨0x02, [(0x10, 0x10)], 0x000, 1, false, .enum8, .SP, 2, .num 0, .oneOf [0, 1, 2, 3], false⟩,
  ⟨0x02, [(0x10, 0x10)], 0x001, 1, false, .u8, .SP, 2, .num 0, .u 0 15, false⟩,
  ⟨0x02, [(0x10, 0x10)], 0x002, 1, false, .enum8, .R, 7, .num 0, .any, false⟩,
  ⟨0x02, [(0x10, 0x10)], 0x003, 1, false, .u8, .R, 7, .num 0xFF, .any, false⟩,
  ⟨0x02, [(0x10, 0x10)], 0x004, 1, false, .u16, .SP, 2, .num 0x14, .u 1 1000, false⟩,
  ⟨0x02, [(0x10, 0x10)], 0x005, 1, false, .u8, .SP, 2, .num 1, .u 1 15, false⟩,
  ⟨0x02, [(0x10, 0x10)], 0x006, 1, false, .u32, .SP, 2, .num 0x1F4, .u 10 100000, false⟩,
  ⟨0x02, [(0x10, 0x10)], 0x007, 1, false, .u32, .SP, 2, .num 0x3E8, .u 10 1000000, false⟩,
  ⟨0x02, [(0x10, 0x10)], 0x008, 1, false, .u16, .SP, 2, .num 0x3C, .u 1 3600, false⟩,
  ⟨0x02, [(0x10, 0x10)], 0x009, 1, false, .u32, .SP, 2, .num 0x3840, .u 60 604800, false⟩,
  ⟨0x02, [(0x10, 0x10)], 0x00A, 1, false, .u8, .SP, 2, .num 9, .u 1 15, false⟩,
  ⟨0x02, [(0x10, 0x10)], 0x00B, 1, false, .u8, .SP, 2, .num 2, .u 1 15, false⟩,
  ⟨0x02, [(0x10, 0x10)], 0x00C, 1, false, .bool, .SP, 2, .num 1, .u 0 1, false⟩,
  ⟨0x02, [(0x10, 0x10)], 0x00D, 1, false, .u32, .SP, 2, .num 0x258, .u 1 86400, false⟩,
  ⟨0x02, [(0x10, 0x10)], 0x010, 1, false, .s64, .R, 3, .num 0, .any, false⟩,
  ⟨0x02, [(0x10, 0x10)], 0x011, 1, false, .u32, .R, 3, .num 0, .any, false⟩,
  ⟨0x02, [(0x10, 0x10)], 0x012, 1, false, .u32, .R, 3, .num 0, .any, false⟩,
  ⟨0x02, [(0x10, 0x10)], 0x013, 1, false, .u8, .R, 3, .num 2, .any, false⟩,
  ⟨0x02, [(0x10, 0x10)], 0x014, 1, false, .u32, .R, 2, .num 0, .any, true⟩,
  ⟨0x02, [(0x10, 0x10)], 0x020, 1, false, .bits32, .X, 2, .none, .mask 0x00FFFFFF, false⟩,
  ⟨0x02, [(0x11, 0x11)], 0x000, 1, false, .enum8, .R, 7, .num 0, .any, false⟩,
  ⟨0x02, [(0x11, 0x11)], 0x001, 1, false, .s32, .R, 2, .num 0, .any, false⟩,
  ⟨0x02, [(0x20, 0x23)], 0x000, 1, false, .enum8, .SP, 2, .num 0, .oneOf [0, 1, 2, 3], false⟩,
  ⟨0x02, [(0x20, 0x23)], 0x001, 1, false, .enum8, .SP, 2, .num 0, .oneOf [0, 1, 2], false⟩,
  ⟨0x02, [(0x20, 0x23)], 0x002, 1, false, .u8, .SP, 2, .by, .u 0 127, false⟩,
  ⟨0x02, [(0x20, 0x23)], 0x003, 1, false, (.blob 32), .SP, 2, .fill 0, .many 2, false⟩,
  ⟨0x02, [(0x20, 0x23)], 0x004, 1, false, .u16, .SP, 2, .num 0x8080, .any, false⟩,
  ⟨0x02, [(0x20, 0x23)], 0x005, 1, false, .s16, .SP, 2, .by, .any, false⟩,
  ⟨0x02, [(0x20, 0x23)], 0x006, 1, false, .bool, .SP, 2, .num 0, .u 0 1, false⟩,
  ⟨0x02, [(0x20, 0x23)], 0x010, 1, false, (.blob 8), .R, 3, .fill 0, .any, false⟩,
  ⟨0x02, [(0x20, 0x23)], 0x011, 1, false, .u16, .R, 3, .num 0xFFFE, .any, false⟩,
  ⟨0x02, [(0x20, 0x23)], 0x012, 1, false, .s64, .R, 2, .num 0, .any, false⟩,
  ⟨0x02, [(0x20, 0x23)], 0x013, 1, false, .s64, .R, 2, .num 0, .any, false⟩,
  ⟨0x02, [(0x30, 0x34)], 0x000, 1, false, .bool, .SP, 2, .num 0, .u 0 1, false⟩,
  ⟨0x02, [(0x30, 0x34)], 0x001, 1, false, .enum8, .SP, 2, .num 0, .any, false⟩,
  ⟨0x02, [(0x30, 0x34)], 0x002, 1, false, .u8, .SP, 2, .num 0, .u 0 15, false⟩,
  ⟨0x02, [(0x30, 0x34)], 0x003, 1, false, .s32, .SP, 2, .num 0, .any, false⟩,
  ⟨0x02, [(0x30, 0x34)], 0x004, 1, false, .enum8, .SP, 2, .by, .oneOf [0, 1, 2], false⟩]

/-- The object table of class 03. -/
def rows03 : List ObjRow := [
  ⟨0x03, [(0x0, 0x3)], 0x000, 1, false, .enum8, .R, 7, .num 3, .any, false⟩,
  ⟨0x03, [(0x0, 0x3)], 0x001, 1, false, .u32, .R, 2, .by, .any, false⟩,
  ⟨0x03, [(0x0, 0x3)], 0x002, 1, false, .u32, .R, 2, .num 0, .any, true⟩,
  ⟨0x03, [(0x0, 0x3)], 0x003, 1, false, .tick64, .R, 2, .num 0, .any, false⟩,
  ⟨0x03, [(0x0, 0x3)], 0x004, 1, false, .bits32, .RW, 2, .num 0, .mask 0x3, false⟩,
  ⟨0x03, [(0x10, 0x1B)], 0x000, 1, false, .enum8, .R, 3, .num 0, .any, false⟩,
  ⟨0x03, [(0x10, 0x1B)], 0x001, 1, false, .s32, .R, 2, .num 0, .any, false⟩,
  ⟨0x03, [(0x20, 0x2F)], 0x000, 1, false, .enum8, .SP, 2, .num 0, .oneOf [0, 1], false⟩,
  ⟨0x03, [(0x20, 0x2F)], 0x001, 1, false, .enum8, .SP, 2, .num 6, .u 1 11, false⟩,
  ⟨0x03, [(0x20, 0x2F)], 0x002, 1, false, .s32, .SP, 2, .num 0, .any, false⟩,
  ⟨0x03, [(0x20, 0x2F)], 0x003, 1, false, .enum8, .R, 3, .num 2, .any, false⟩,
  ⟨0x03, [(0x30, 0x37)], 0x000, 1, false, .enum8, .SP, 2, .num 2, .u 0 6, false⟩,
  ⟨0x03, [(0x30, 0x37)], 0x001, 1, false, .s32, .SP, 2, .num 0, .any, false⟩,
  ⟨0x03, [(0x30, 0x37)], 0x002, 1, false, .enum8, .R, 3, .num 2, .any, false⟩]

/-- The object table of class 04. -/
def rows04 : List ObjRow := [
  ⟨0x04, [(0x0, 0x3F)], 0x000, 1, false, .enum8, .R, 3, .by, .any, false⟩,
  ⟨0x04, [(0x0, 0x3F)], 0x001, 1, false, .u16, .R, 2, .by, .any, false⟩,
  ⟨0x04, [(0x0, 0x3F)], 0x002, 1, false, .u16, .R, 3, .num 0, .any, false⟩,
  ⟨0x04, [(0x0, 0x3F)], 0x003, 1, false, .u16, .R, 3, .num 0, .any, false⟩,
  ⟨0x04, [(0x0, 0x3F)], 0x004, 1, false, .u8, .R, 2, .num 0, .any, false⟩,
  ⟨0x04, [(0x0, 0x3F)], 0x005, 1, false, .u8, .R, 2, .num 0, .any, false⟩,
  ⟨0x04, [(0x0, 0x3F)], 0x010, 1, false, .u64, .R, 3, .num 0, .any, true⟩,
  ⟨0x04, [(0x0, 0x3F)], 0x011, 1, false, .u64, .R, 3, .num 0, .any, true⟩,
  ⟨0x04, [(0x0, 0x3F)], 0x012, 1, false, .u64, .R, 2, .num 0, .any, true⟩,
  ⟨0x04, [(0x0, 0x3F)], 0x013, 1, false, .u64, .R, 2, .num 0, .any, true⟩,
  ⟨0x04, [(0x0, 0x3F)], 0x014, 1, false, .u64, .R, 2, .num 0, .any, true⟩,
  ⟨0x04, [(0x0, 0x3F)], 0x015, 1, false, .u64, .R, 2, .num 0, .any, true⟩,
  ⟨0x04, [(0x0, 0x3F)], 0x016, 1, false, .u64, .R, 2, .num 0, .any, true⟩,
  ⟨0x04, [(0x0, 0x3F)], 0x017, 1, false, .bits32, .RW, 2, .num 0, .mask 0xF, false⟩,
  ⟨0x04, [(0x40, 0x40)], 0x000, 1, false, .u8, .R, 3, .num 0, .any, false⟩,
  ⟨0x04, [(0x40, 0x40)], 0x001, 1, false, .u32, .R, 3, .num 0, .any, false⟩,
  ⟨0x04, [(0x40, 0x40)], 0x002, 1, false, .u32, .R, 2, .num 0, .any, false⟩,
  ⟨0x04, [(0x40, 0x40)], 0x010, 1, false, .u8, .W, 2, .num 0, .u 0 99, false⟩,
  ⟨0x04, [(0x40, 0x40)], 0x011, 1, false, .u16, .W, 2, .num 0, .u 0 5119, false⟩,
  ⟨0x04, [(0x40, 0x40)], 0x012, 1, false, (.blob 528), .R, 2, .none, .any, false⟩,
  ⟨0x04, [(0x40, 0x40)], 0x020, 1, false, .u16, .W, 2, .num 0, .u 1 65519, false⟩,
  ⟨0x04, [(0x40, 0x40)], 0x021, 1, false, (.blob 40), .R, 2, .none, .any, false⟩]

/-- The object table of class 05. -/
def rows05 : List ObjRow := [
  ⟨0x05, [(0x0, 0x3)], 0x000, 1, false, .enum8, .R, 3, .num 2, .any, false⟩,
  ⟨0x05, [(0x0, 0x3)], 0x001, 1, false, .s16, .R, 3, .num 0, .any, false⟩,
  ⟨0x05, [(0x0, 0x3)], 0x002, 1, false, .enum8, .R, 2, .num 0, .any, false⟩,
  ⟨0x05, [(0x0, 0x3)], 0x003, 1, false, .u16, .R, 2, .num 0, .any, false⟩,
  ⟨0x05, [(0x0, 0x3)], 0x004, 1, false, .u8, .R, 2, .num 0, .any, false⟩,
  ⟨0x05, [(0x0, 0x3)], 0x005, 1, false, .u64, .R, 3, .by, .any, false⟩,
  ⟨0x05, [(0x0, 0x3)], 0x006, 1, false, .u64, .R, 2, .by, .any, false⟩,
  ⟨0x05, [(0x0, 0x3)], 0x007, 1, false, .u64, .R, 2, .num 0, .any, true⟩,
  ⟨0x05, [(0x0, 0x3)], 0x008, 1, false, .bits32, .RW, 2, .num 0, .mask 0xF, false⟩,
  ⟨0x05, [(0x10, 0x4F)], 0x000, 1, false, .u64, .R, 2, .num 0, .any, true⟩,
  ⟨0x05, [(0x10, 0x4F)], 0x001, 1, false, .u64, .R, 2, .num 0, .any, true⟩,
  ⟨0x05, [(0x10, 0x4F)], 0x002, 1, false, .u64, .R, 2, .num 0, .any, true⟩,
  ⟨0x05, [(0x10, 0x4F)], 0x003, 1, false, .u64, .R, 2, .num 0, .any, false⟩,
  ⟨0x05, [(0x10, 0x4F)], 0x004, 1, false, .u8, .R, 2, .num 0xFF, .any, false⟩,
  ⟨0x05, [(0x10, 0x4F)], 0x005, 1, false, (.blob 288), .R, 2, .fill 288, .any, true⟩,
  ⟨0x05, [(0x80, 0x80)], 0x000, 1, false, .bool, .SP, 2, .num 1, .u 0 1, false⟩,
  ⟨0x05, [(0x80, 0x80)], 0x001, 1, false, .u16, .SP, 2, .num 4, .u 1 4096, false⟩,
  ⟨0x05, [(0x80, 0x80)], 0x002, 1, false, .u64, .R, 2, .num 0, .any, true⟩,
  ⟨0x05, [(0x80, 0x80)], 0x003, 1, false, .u32, .R, 2, .num 0, .any, true⟩,
  ⟨0x05, [(0x80, 0x80)], 0x004, 1, false, .u32, .SP, 2, .num 0x40, .u 1 65535, false⟩,
  ⟨0x05, [(0x80, 0x80)], 0x005, 1, false, .u64, .R, 3, .by, .any, false⟩,
  ⟨0x05, [(0x80, 0x80)], 0x006, 1, false, .u64, .R, 3, .by, .any, false⟩,
  ⟨0x05, [(0x80, 0x80)], 0x007, 1, false, .u32, .R, 2, .num 0xD593000, .any, false⟩,
  ⟨0x05, [(0x80, 0x80)], 0x008, 1, false, .u8, .J, 2, .none, .u 0 4, false⟩,
  ⟨0x05, [(0x80, 0x80)], 0x010, 1, false, .u8, .W, 2, .num 0, .u 0 23, false⟩,
  ⟨0x05, [(0x80, 0x80)], 0x011, 1, false, .u32, .W, 2, .num 0, .u 0 131071, false⟩,
  ⟨0x05, [(0x80, 0x80)], 0x012, 1, false, .u64, .R, 2, .num 0, .any, false⟩,
  ⟨0x05, [(0x100, 0x1FF)], 0x000, 1, false, .enum8, .R, 3, .num 0, .any, false⟩,
  ⟨0x05, [(0x100, 0x1FF)], 0x001, 1, false, .enum8, .SP, 2, .num 0, .oneOf [0, 1], false⟩,
  ⟨0x05, [(0x100, 0x1FF)], 0x002, 1, false, .u16, .SP, 2, .num 0, .any, false⟩,
  ⟨0x05, [(0x100, 0x1FF)], 0x003, 1, false, .u32, .SP, 2, .num 0, .u 1 4294967295, false⟩,
  ⟨0x05, [(0x100, 0x1FF)], 0x004, 1, false, .u8, .SP, 2, .num 0xFF, .uOr 0 3 0xFF, false⟩,
  ⟨0x05, [(0x100, 0x1FF)], 0x005, 1, false, .bool, .X, 2, .none, .oneOf [1], false⟩,
  ⟨0x05, [(0x100, 0x1FF)], 0x006, 1, false, .bool, .X, 2, .none, .oneOf [1], false⟩,
  ⟨0x05, [(0x100, 0x1FF)], 0x007, 1, false, .u64, .R, 2, .num 0, .any, false⟩,
  ⟨0x05, [(0x100, 0x1FF)], 0x008, 1, false, .u64, .R, 2, .num 0, .any, false⟩,
  ⟨0x05, [(0x100, 0x1FF)], 0x009, 1, false, .u32, .R, 3, .num 0, .any, false⟩,
  ⟨0x05, [(0x100, 0x1FF)], 0x00A, 1, false, .u64, .W, 2, .num 0, .any, false⟩,
  ⟨0x05, [(0x100, 0x1FF)], 0x00B, 1, false, .u16, .W, 2, .num 0x100, .u 1 1024, false⟩,
  ⟨0x05, [(0x100, 0x1FF)], 0x00C, 1, false, .bool, .J, 2, .none, .oneOf [1], false⟩,
  ⟨0x05, [(0x100, 0x1FF)], 0x00D, 1, false, .bool, .J, 2, .none, .oneOf [1], false⟩,
  ⟨0x05, [(0x100, 0x1FF)], 0x00E, 1, false, .u32, .R, 3, .num 0, .any, false⟩]

/-- The object table of class 06. -/
def rows06 : List ObjRow := [
  ⟨0x06, [(0x0, 0xBF)], 0x000, 1, false, .bool, .SP, 2, .num 0, .u 0 1, false⟩,
  ⟨0x06, [(0x0, 0xBF)], 0x001, 1, false, .enum8, .SP, 2, .num 5, .u 1 6, false⟩,
  ⟨0x06, [(0x0, 0xBF)], 0x002, 1, false, .enum8, .SP, 2, .num 0, .u 0 2, false⟩,
  ⟨0x06, [(0x0, 0xBF)], 0x003, 1, false, .enum8, .SP, 2, .num 0, .u 0 6, false⟩,
  ⟨0x06, [(0x0, 0xBF)], 0x004, 1, false, .enum8, .SP, 2, .num 0, .u 0 2, false⟩,
  ⟨0x06, [(0x0, 0xBF)], 0x005, 1, false, .enum8, .SP, 2, .num 0, .u 0 4, false⟩,
  ⟨0x06, [(0x0, 0xBF)], 0x006, 1, false, .bool, .SP, 2, .num 1, .u 0 1, false⟩,
  ⟨0x06, [(0x0, 0xBF)], 0x007, 1, false, (.blob 32), .SP, 2, .fill 0, .many 2, false⟩,
  ⟨0x06, [(0x0, 0xBF)], 0x008, 1, false, .enum8, .SP, 2, .num 0, .oneOf [0, 1], false⟩,
  ⟨0x06, [(0x0, 0xBF)], 0x010, 1, false, .enum8, .R, 3, .num 0, .any, false⟩,
  ⟨0x06, [(0x0, 0xBF)], 0x011, 1, false, .enum8, .R, 3, .num 0, .any, false⟩,
  ⟨0x06, [(0x0, 0xBF)], 0x012, 1, false, .enum8, .R, 2, .num 0, .any, false⟩,
  ⟨0x06, [(0x0, 0xBF)], 0x013, 1, false, .enum8, .R, 2, .num 0, .any, false⟩,
  ⟨0x06, [(0x0, 0xBF)], 0x014, 1, false, .u16, .R, 3, .num 0, .any, false⟩,
  ⟨0x06, [(0x0, 0xBF)], 0x015, 1, false, .enum8, .R, 3, .num 0, .any, false⟩,
  ⟨0x06, [(0x0, 0xBF)], 0x016, 1, false, .u32, .R, 2, .num 0, .any, false⟩,
  ⟨0x06, [(0x0, 0xBF)], 0x017, 1, false, .enum8, .R, 2, .num 0, .any, false⟩,
  ⟨0x06, [(0x0, 0xBF)], 0x018, 1, false, .s32, .R, 2, .num 0, .any, false⟩,
  ⟨0x06, [(0x0, 0xBF)], 0x019, 1, false, .u32, .R, 2, .num 0, .any, false⟩,
  ⟨0x06, [(0x0, 0xBF)], 0x020, 1, false, .u64, .R, 2, .num 0, .any, true⟩,
  ⟨0x06, [(0x0, 0xBF)], 0x021, 1, false, .u64, .R, 2, .num 0, .any, true⟩,
  ⟨0x06, [(0x0, 0xBF)], 0x022, 1, false, .u64, .R, 2, .num 0, .any, true⟩,
  ⟨0x06, [(0x0, 0xBF)], 0x023, 1, false, .u64, .R, 2, .num 0, .any, true⟩,
  ⟨0x06, [(0x0, 0xBF)], 0x024, 1, false, .u64, .R, 3, .num 0, .any, true⟩,
  ⟨0x06, [(0x0, 0xBF)], 0x025, 1, false, .u64, .R, 2, .num 0, .any, true⟩,
  ⟨0x06, [(0x0, 0xBF)], 0x026, 1, false, .u64, .R, 2, .num 0, .any, true⟩,
  ⟨0x06, [(0x0, 0xBF)], 0x027, 1, false, .u64, .R, 2, .num 0, .any, true⟩,
  ⟨0x06, [(0x0, 0xBF)], 0x028, 1, false, .u32, .R, 2, .num 0, .any, true⟩,
  ⟨0x06, [(0x0, 0xBF)], 0x030, 1, false, .bits32, .RW, 2, .num 0, .mask 0x3FF, false⟩]

/-- The object table of class 07. -/
def rows07 : List ObjRow := [
  ⟨0x07, [(0x0, 0xBF)], 0x000, 1, false, .bool, .SP, 2, .num 0, .u 0 1, false⟩,
  ⟨0x07, [(0x0, 0xBF)], 0x001, 1, false, .u16, .SP, 2, .num 0x4060, .format, false⟩,
  ⟨0x07, [(0x0, 0xBF)], 0x002, 1, false, .enum8, .SP, 2, .num 0, .u 0 2, false⟩,
  ⟨0x07, [(0x0, 0xBF)], 0x003, 1, false, .enum8, .SP, 2, .num 0, .oneOf [0, 1], false⟩,
  ⟨0x07, [(0x0, 0xBF)], 0x004, 1, false, .u8, .SP, 2, .num 0, .u 0 15, false⟩,
  ⟨0x07, [(0x0, 0xBF)], 0x005, 1, false, .u16, .SP, 2, .num 0, .any, false⟩,
  ⟨0x07, [(0x0, 0xBF)], 0x006, 1, false, .u16, .SP, 2, .num 0, .any, false⟩,
  ⟨0x07, [(0x0, 0xBF)], 0x007, 1, false, .enum8, .SP, 2, .num 0, .u 0 4, false⟩,
  ⟨0x07, [(0x0, 0xBF)], 0x008, 1, false, .enum8, .SP, 2, .num 2, .u 0 2, false⟩,
  ⟨0x07, [(0x0, 0xBF)], 0x009, 1, false, .u16, .SP, 2, .num 0x32, .u 1 65535, false⟩,
  ⟨0x07, [(0x0, 0xBF)], 0x00A, 1, false, .bool, .SP, 2, .num 1, .u 0 1, false⟩,
  ⟨0x07, [(0x0, 0xBF)], 0x00B, 1, false, .u16, .SP, 2, .num 0x10, .u 0 64, false⟩,
  ⟨0x07, [(0x0, 0xBF)], 0x010, 1, false, .enum8, .R, 3, .num 0, .any, false⟩,
  ⟨0x07, [(0x0, 0xBF)], 0x011, 1, false, .enum8, .R, 2, .num 0, .any, false⟩,
  ⟨0x07, [(0x0, 0xBF)], 0x012, 1, false, .u16, .R, 3, .num 0, .any, false⟩,
  ⟨0x07, [(0x0, 0xBF)], 0x013, 1, false, .u64, .R, 2, .num 0, .any, true⟩,
  ⟨0x07, [(0x0, 0xBF)], 0x014, 1, false, .u64, .R, 3, .num 0, .any, true⟩,
  ⟨0x07, [(0x0, 0xBF)], 0x015, 1, false, .u64, .R, 3, .num 0, .any, true⟩,
  ⟨0x07, [(0x0, 0xBF)], 0x016, 1, false, .u64, .R, 2, .num 0, .any, true⟩,
  ⟨0x07, [(0x0, 0xBF)], 0x020, 1, false, .bits32, .RW, 2, .num 0, .mask 0x7F, false⟩]

/-- The object table of class 08. -/
def rows08 : List ObjRow := [
  ⟨0x08, [(0x0, 0xBF), (0x100, 0x8FF)], 0x000, 1, false, .route, .S, 3, .by, .any, false⟩,
  ⟨0x08, [(0x0, 0xBF), (0x100, 0x8FF)], 0x001, 1, false, .route, .S, 3, .by, .any, false⟩,
  ⟨0x08, [(0x0, 0xBF), (0x100, 0x8FF)], 0x002, 1, false, .u8, .SP, 2, .num 4, .u 1 64, false⟩,
  ⟨0x08, [(0x0, 0xBF), (0x100, 0x8FF)], 0x003, 1, false, .bool, .SP, 2, .by, .u 0 1, false⟩,
  ⟨0x08, [(0x0, 0xBF), (0x100, 0x8FF)], 0x004, 1, false, .enum8, .SP, 2, .num 0, .u 0 1, false⟩,
  ⟨0x08, [(0x0, 0xBF), (0x100, 0x8FF)], 0x005, 1, false, .u32, .SP, 2, .num 0, .u 0 192000, false⟩,
  ⟨0x08, [(0x0, 0xBF), (0x100, 0x8FF)], 0x006, 1, false, .bool, .W, 3, .num 0, .u 0 1, false⟩,
  ⟨0x08, [(0x0, 0xBF), (0x100, 0x8FF)], 0x010, 1, false, .enum8, .R, 3, .num 0, .any, false⟩,
  ⟨0x08, [(0x0, 0xBF), (0x100, 0x8FF)], 0x011, 1, false, .u32, .R, 3, .num 0, .any, false⟩,
  ⟨0x08, [(0x0, 0xBF), (0x100, 0x8FF)], 0x012, 1, false, .u32, .R, 3, .num 0, .any, false⟩,
  ⟨0x08, [(0x0, 0xBF), (0x100, 0x8FF)], 0x013, 1, false, .tick64, .R, 3, .num 0, .any, false⟩,
  ⟨0x08, [(0x0, 0xBF), (0x100, 0x8FF)], 0x014, 1, false, .enum8, .R, 3, .num 4, .any, false⟩,
  ⟨0x08, [(0x0, 0xBF), (0x100, 0x8FF)], 0x015, 1, false, .u32, .R, 3, .num 0, .any, false⟩,
  ⟨0x08, [(0x0, 0xBF), (0x100, 0x8FF)], 0x016, 1, false, .u32, .R, 2, .num 0, .any, false⟩,
  ⟨0x08, [(0x0, 0xBF), (0x100, 0x8FF)], 0x017, 1, false, .u32, .R, 2, .num 0, .any, true⟩,
  ⟨0x08, [(0x0, 0xBF), (0x100, 0x8FF)], 0x018, 1, false, .u32, .R, 2, .num 0, .any, true⟩,
  ⟨0x08, [(0x0, 0xBF), (0x100, 0x8FF)], 0x020, 1, false, .bits32, .RW, 2, .num 0, .mask 0x3F, false⟩,
  ⟨0x08, [(0x900, 0x9FF)], 0x000, 1, false, (.blob 1024), .SP, 3, .fill 0, .many 16, false⟩,
  ⟨0x08, [(0x900, 0x9FF)], 0x001, 1, false, .tick64, .X, 3, .none, .any, false⟩,
  ⟨0x08, [(0x900, 0x9FF)], 0x002, 1, false, .enum8, .R, 3, .num 0, .any, false⟩,
  ⟨0x08, [(0x900, 0x9FF)], 0x003, 1, false, .tick64, .R, 3, .num 0, .any, false⟩,
  ⟨0x08, [(0xFFF, 0xFFF)], 0x000, 1, false, .route, .S, 3, .none, .any, false⟩,
  ⟨0x08, [(0xFFF, 0xFFF)], 0x001, 1, false, .u32, .R, 3, .num 0, .any, false⟩]

/-- The object table of class 09. -/
def rows09 : List ObjRow := [
  ⟨0x09, [(0x0, 0xBF), (0x100, 0x8FF)], 0x000, 1, false, .enum8, .SP, 2, .num 0, .u 0 2, false⟩,
  ⟨0x09, [(0x0, 0xBF), (0x100, 0x8FF)], 0x001, 1, false, (.blob 6), .SP, 2, .fill 0, .any, false⟩,
  ⟨0x09, [(0x0, 0xBF), (0x100, 0x8FF)], 0x002, 1, false, .enum8, .SP, 2, .num 2, .u 1 3, false⟩,
  ⟨0x09, [(0x0, 0xBF), (0x100, 0x8FF)], 0x003, 1, false, .bool, .SP, 2, .num 1, .u 0 1, false⟩,
  ⟨0x09, [(0x0, 0xBF), (0x100, 0x8FF)], 0x004, 1, false, .u8, .SP, 2, .num 8, .u 0 15, false⟩,
  ⟨0x09, [(0x0, 0xBF), (0x100, 0x8FF)], 0x005, 1, false, .enum8, .SP, 2, .num 0, .u 0 2, false⟩,
  ⟨0x09, [(0x0, 0xBF), (0x100, 0x8FF)], 0x006, 1, false, .u16, .SP, 2, .num 0, .uOr 16 7680 0, false⟩,
  ⟨0x09, [(0x0, 0xBF), (0x100, 0x8FF)], 0x007, 1, false, .u16, .SP, 2, .num 0, .uOr 16 4320 0, false⟩,
  ⟨0x09, [(0x0, 0xBF), (0x100, 0x8FF)], 0x008, 1, false, .u16, .SP, 2, .num 0, .u 0 7679, false⟩,
  ⟨0x09, [(0x0, 0xBF), (0x100, 0x8FF)], 0x009, 1, false, .u16, .SP, 2, .num 0, .u 0 4319, false⟩,
  ⟨0x09, [(0x0, 0xBF), (0x100, 0x8FF)], 0x00A, 1, false, .u16, .SP, 2, .num 0, .uOr 16 7680 0, false⟩,
  ⟨0x09, [(0x0, 0xBF), (0x100, 0x8FF)], 0x00B, 1, false, .u16, .SP, 2, .num 0, .uOr 16 4320 0, false⟩,
  ⟨0x09, [(0x0, 0xBF), (0x100, 0x8FF)], 0x00C, 1, false, .u16, .SP, 2, .num 0, .u 0 7679, false⟩,
  ⟨0x09, [(0x0, 0xBF), (0x100, 0x8FF)], 0x00D, 1, false, .u16, .SP, 2, .num 0, .u 0 4319, false⟩,
  ⟨0x09, [(0x0, 0xBF), (0x100, 0x8FF)], 0x00E, 1, false, .u32, .SP, 2, .num 0x4080200, .mask 0x3FFFFFFF, false⟩,
  ⟨0x09, [(0x0, 0xBF), (0x100, 0x8FF)], 0x00F, 1, false, .enum8, .SP, 2, .num 0xFF, .uOr 0 4 0xFF, false⟩,
  ⟨0x09, [(0x0, 0xBF), (0x100, 0x8FF)], 0x010, 1, false, .enum8, .SP, 2, .num 0xFF, .uOr 0 4 0xFF, false⟩,
  ⟨0x09, [(0x0, 0xBF), (0x100, 0x8FF)], 0x011, 1, false, .enum8, .SP, 2, .num 0, .u 0 1, false⟩,
  ⟨0x09, [(0x0, 0xBF), (0x100, 0x8FF)], 0x012, 1, false, .u16, .SP, 2, .num 0xCB, .u 100 400, false⟩,
  ⟨0x09, [(0x0, 0xBF), (0x100, 0x8FF)], 0x013, 1, false, .u16, .SP, 2, .num 0x3E8, .u 400 10000, false⟩,
  ⟨0x09, [(0x0, 0xBF), (0x100, 0x8FF)], 0x014, 1, false, .u16, .SP, 2, .num 0x3E8, .u 400 10000, false⟩,
  ⟨0x09, [(0x0, 0xBF), (0x100, 0x8FF)], 0x015, 1, false, .u16, .SP, 2, .num 0x3E8, .u 400 4000, false⟩,
  ⟨0x09, [(0x0, 0xBF), (0x100, 0x8FF)], 0x016, 1, false, .enum8, .SP, 2, .num 1, .u 0 1, false⟩,
  ⟨0x09, [(0x0, 0xBF), (0x100, 0x8FF)], 0x017, 1, false, .u8, .SP, 2, .num 0x4B, .u 50 95, false⟩,
  ⟨0x09, [(0x0, 0xBF), (0x100, 0x8FF)], 0x018, 1, false, .enum8, .SP, 2, .num 1, .u 0 1, false⟩,
  ⟨0x09, [(0x0, 0xBF), (0x100, 0x8FF)], 0x019, 1, false, .u8, .SP, 2, .num 0xFF, .uOr 0 31 0xFF, false⟩,
  ⟨0x09, [(0x0, 0xBF), (0x100, 0x8FF)], 0x01A, 1, false, .u8, .SP, 2, .num 4, .u 0 7, false⟩,
  ⟨0x09, [(0x0, 0xBF), (0x100, 0x8FF)], 0x01B, 1, false, .bool, .SP, 2, .num 1, .u 0 1, false⟩,
  ⟨0x09, [(0x0, 0xBF), (0x100, 0x8FF)], 0x020, 1, false, .enum8, .R, 3, .num 0, .any, false⟩,
  ⟨0x09, [(0x0, 0xBF), (0x100, 0x8FF)], 0x021, 1, false, (.blob 6), .R, 3, .fill 0, .any, false⟩,
  ⟨0x09, [(0x0, 0xBF), (0x100, 0x8FF)], 0x022, 1, false, .u16, .R, 3, .num 0, .any, false⟩,
  ⟨0x09, [(0x0, 0xBF), (0x100, 0x8FF)], 0x023, 1, false, (.blob 6), .R, 2, .fill 0, .any, false⟩,
  ⟨0x09, [(0x0, 0xBF), (0x100, 0x8FF)], 0x024, 1, false, .u32, .R, 3, .num 0, .any, false⟩,
  ⟨0x09, [(0x0, 0xBF), (0x100, 0x8FF)], 0x025, 1, false, .enum8, .R, 3, .num 0, .any, false⟩,
  ⟨0x09, [(0x0, 0xBF), (0x100, 0x8FF)], 0x026, 1, false, .u8, .R, 2, .num 0, .any, false⟩,
  ⟨0x09, [(0x0, 0xBF), (0x100, 0x8FF)], 0x027, 1, false, .u64, .R, 2, .num 0, .any, false⟩,
  ⟨0x09, [(0x0, 0xBF), (0x100, 0x8FF)], 0x028, 1, false, .u64, .R, 2, .num 0, .any, false⟩,
  ⟨0x09, [(0x0, 0xBF), (0x100, 0x8FF)], 0x030, 1, false, .bits32, .RW, 2, .num 0, .mask 0xFF, false⟩,
  ⟨0x09, [(0xA00, 0xA00)], 0x000, 1, false, .u16, .R, 3, .by, .any, false⟩,
  ⟨0x09, [(0xA00, 0xA00)], 0x001, 1, false, .u16, .R, 3, .num 0, .any, false⟩,
  ⟨0x09, [(0xA00, 0xA00)], 0x002, 1, false, .u16, .R, 3, .by, .any, false⟩,
  ⟨0x09, [(0xA00, 0xA00)], 0x003, 1, false, .u16, .R, 3, .by, .any, false⟩,
  ⟨0x09, [(0xA00, 0xA00)], 0x004, 1, false, .bool, .R, 3, .by, .any, false⟩,
  ⟨0x09, [(0xA00, 0xA00)], 0x005, 1, false, .u16, .R, 3, .num 0, .any, false⟩,
  ⟨0x09, [(0xA00, 0xA00)], 0x006, 1, false, .u16, .R, 3, .num 0, .any, false⟩,
  ⟨0x09, [(0xB00, 0xBFF)], 0x000, 1, false, .enum8, .R, 2, .num 0, .any, false⟩,
  ⟨0x09, [(0xB00, 0xBFF)], 0x001, 1, false, .u8, .R, 2, .num 0, .any, false⟩,
  ⟨0x09, [(0xB00, 0xBFF)], 0x002, 1, false, .u32, .R, 2, .num 0, .any, true⟩,
  ⟨0x09, [(0xB00, 0xBFF)], 0x003, 1, false, (.blob 8), .R, 2, .fill 0, .any, false⟩,
  ⟨0x09, [(0xC00, 0xC1F)], 0x000, 1, false, .enum8, .R, 3, .num 0, .any, false⟩,
  ⟨0x09, [(0xC00, 0xC1F)], 0x001, 1, false, .u64, .W, 2, .num 0, .any, false⟩,
  ⟨0x09, [(0xC00, 0xC1F)], 0x002, 1, false, .bool, .J, 2, .none, .oneOf [1], false⟩,
  ⟨0x09, [(0xC00, 0xC1F)], 0x003, 1, false, .u32, .R, 2, .num 0, .any, false⟩,
  ⟨0x09, [(0xC00, 0xC1F)], 0x004, 1, false, (.str 32), .SP, 2, .fill 32, .any, false⟩,
  ⟨0x09, [(0xC00, 0xC1F)], 0x005, 1, false, .u16, .R, 2, .num 0, .any, false⟩]

/-- The object table of class 0A. -/
def rows0A : List ObjRow := [
  ⟨0x0A, [(0x0, 0x3F)], 0x000, 1, false, .bool, .SP, 2, .num 0, .u 0 1, false⟩,
  ⟨0x0A, [(0x0, 0x3F)], 0x001, 1, false, .enum8, .SP, 2, .num 0, .oneOf [0, 1, 2], false⟩,
  ⟨0x0A, [(0x0, 0x3F)], 0x002, 1, false, .enum8, .SP, 2, .num 0, .oneOf [0, 1], false⟩,
  ⟨0x0A, [(0x0, 0x3F)], 0x003, 1, false, .u32, .SP, 2, .num 0x3E8, .u 100 100000, false⟩,
  ⟨0x0A, [(0x0, 0x3F)], 0x004, 1, false, .u32, .SP, 2, .num 0x1388, .u 100 100000, false⟩,
  ⟨0x0A, [(0x0, 0x3F)], 0x010, 1, false, .enum8, .R, 3, .num 0, .any, false⟩,
  ⟨0x0A, [(0x0, 0x3F)], 0x011, 1, false, .enum8, .R, 3, .num 0xFF, .any, false⟩,
  ⟨0x0A, [(0x0, 0x3F)], 0x013, 1, false, .s32, .R, 2, .num 0, .any, false⟩,
  ⟨0x0A, [(0x0, 0x3F)], 0x014, 1, false, .bool, .R, 2, .num 0, .any, false⟩,
  ⟨0x0A, [(0x0, 0x3F)], 0x015, 1, false, (.blob 48), .R, 2, .fill 48, .any, false⟩,
  ⟨0x0A, [(0x0, 0x3F)], 0x016, 1, false, .u32, .R, 2, .num 0, .any, false⟩,
  ⟨0x0A, [(0x0, 0x3F)], 0x017, 1, false, .enum8, .R, 3, .num 0, .any, false⟩,
  ⟨0x0A, [(0x0, 0x3F)], 0x018, 1, false, .u64, .R, 2, .num 0, .any, true⟩,
  ⟨0x0A, [(0x0, 0x3F)], 0x020, 1, false, .u64, .R, 2, .num 0, .any, true⟩,
  ⟨0x0A, [(0x0, 0x3F)], 0x021, 1, false, .u64, .R, 2, .num 0, .any, true⟩,
  ⟨0x0A, [(0x0, 0x3F)], 0x022, 1, false, .u64, .R, 2, .num 0, .any, true⟩,
  ⟨0x0A, [(0x0, 0x3F)], 0x023, 1, false, .u32, .R, 3, .num 0, .any, true⟩,
  ⟨0x0A, [(0x0, 0x3F)], 0x024, 1, false, .u32, .R, 3, .num 0, .any, true⟩,
  ⟨0x0A, [(0x0, 0x3F)], 0x025, 1, false, .u64, .R, 2, .num 0, .any, true⟩,
  ⟨0x0A, [(0x0, 0x3F)], 0x030, 1, false, .bits32, .RW, 2, .num 0, .mask 0xFF, false⟩,
  ⟨0x0A, [(0x100, 0x13F)], 0x000, 1, false, .bool, .SP, 2, .num 0, .u 0 1, false⟩,
  ⟨0x0A, [(0x100, 0x13F)], 0x001, 1, false, .u8, .SP, 2, .num 0, .u 0 7, false⟩,
  ⟨0x0A, [(0x100, 0x13F)], 0x002, 1, false, .enum8, .SP, 2, .num 0, .u 0 1, false⟩,
  ⟨0x0A, [(0x100, 0x13F)], 0x003, 1, false, .bool, .SP, 2, .num 0, .u 0 1, false⟩,
  ⟨0x0A, [(0x100, 0x13F)], 0x004, 1, false, (.blob 24), .SP, 2, .text [0x01], .any, false⟩,
  ⟨0x0A, [(0x100, 0x13F)], 0x005, 1, false, .bool, .SP, 2, .num 1, .u 0 1, false⟩,
  ⟨0x0A, [(0x100, 0x13F)], 0x006, 1, false, .bool, .SP, 2, .num 0, .u 0 1, false⟩,
  ⟨0x0A, [(0x100, 0x13F)], 0x008, 1, false, .u32, .SP, 2, .num 0x3E8, .u 100 100000, false⟩,
  ⟨0x0A, [(0x100, 0x13F)], 0x009, 1, false, .u32, .SP, 2, .num 0x1388, .u 100 100000, false⟩,
  ⟨0x0A, [(0x100, 0x13F)], 0x010, 1, false, .enum8, .R, 3, .num 0, .any, false⟩,
  ⟨0x0A, [(0x100, 0x13F)], 0x011, 1, false, .enum8, .R, 3, .num 0, .any, false⟩,
  ⟨0x0A, [(0x100, 0x13F)], 0x012, 1, false, .u64, .R, 2, .num 0, .any, true⟩,
  ⟨0x0A, [(0x100, 0x13F)], 0x013, 1, false, .u32, .R, 2, .num 0, .any, false⟩,
  ⟨0x0A, [(0x100, 0x13F)], 0x014, 1, false, .u32, .R, 3, .num 0, .any, true⟩,
  ⟨0x0A, [(0x100, 0x13F)], 0x015, 1, false, .u32, .R, 3, .num 0, .any, true⟩,
  ⟨0x0A, [(0x100, 0x13F)], 0x020, 1, false, .bits32, .RW, 2, .num 0, .mask 0x7, false⟩,
  ⟨0x0A, [(0x200, 0x20F)], 0x000, 1, false, (.blob 256), .SP, 3, .fill 0, .many 2, false⟩,
  ⟨0x0A, [(0x200, 0x20F)], 0x001, 1, false, .u8, .SP, 2, .num 0, .u 0 7, false⟩,
  ⟨0x0A, [(0x200, 0x20F)], 0x002, 1, false, .u16, .SP, 2, .num 0xC0, .u 1 48000, false⟩,
  ⟨0x0A, [(0x200, 0x20F)], 0x010, 1, false, .enum8, .R, 3, .num 0, .any, false⟩,
  ⟨0x0A, [(0x200, 0x20F)], 0x011, 1, false, .tick64, .X, 3, .none, .any, false⟩,
  ⟨0x0A, [(0x200, 0x20F)], 0x012, 1, false, .tick64, .X, 3, .none, .any, false⟩,
  ⟨0x0A, [(0x200, 0x20F)], 0x013, 1, false, .u64, .R, 3, .num 0, .any, true⟩,
  ⟨0x0A, [(0x200, 0x20F)], 0x014, 1, false, .tick64, .R, 3, .num 0, .any, false⟩,
  ⟨0x0A, [(0x200, 0x20F)], 0x015, 1, false, .u32, .R, 3, .num 0, .any, true⟩,
  ⟨0x0A, [(0x300, 0x307)], 0x000, 1, false, .bool, .SP, 2, .num 0, .u 0 1, false⟩,
  ⟨0x0A, [(0x300, 0x307)], 0x001, 1, false, .u16, .SP, 2, .num 0, .any, false⟩,
  ⟨0x0A, [(0x300, 0x307)], 0x002, 1, false, .u16, .SP, 2, .num 0x3E8, .u 100 10000, false⟩,
  ⟨0x0A, [(0x300, 0x307)], 0x010, 1, false, .enum8, .R, 3, .num 0, .any, false⟩,
  ⟨0x0A, [(0x300, 0x307)], 0x011, 1, false, .s32, .R, 2, .num 0, .any, false⟩,
  ⟨0x0A, [(0x300, 0x307)], 0x012, 1, false, .s32, .R, 2, .num 0, .any, false⟩]

/-- The object table of class 0B. -/
def rows0B : List ObjRow := [
  ⟨0x0B, [(0x0, 0xF)], 0x000, 1, false, .bool, .SP, 2, .num 0, .u 0 1, false⟩,
  ⟨0x0B, [(0x0, 0xF)], 0x001, 1, false, .enum8, .SP, 2, .num 0, .oneOf [0, 1, 2], false⟩,
  ⟨0x0B, [(0x0, 0xF)], 0x003, 1, false, .u32, .SP, 2, .num 0x3E8, .u 100 100000, false⟩,
  ⟨0x0B, [(0x0, 0xF)], 0x004, 1, false, .u32, .SP, 2, .num 0x1388, .u 100 100000, false⟩,
  ⟨0x0B, [(0x0, 0xF)], 0x010, 1, false, .enum8, .R, 3, .num 0, .any, false⟩,
  ⟨0x0B, [(0x0, 0xF)], 0x011, 1, false, .enum8, .R, 3, .num 0xFF, .any, false⟩,
  ⟨0x0B, [(0x0, 0xF)], 0x012, 1, false, .u8, .R, 3, .num 0, .any, false⟩,
  ⟨0x0B, [(0x0, 0xF)], 0x013, 1, false, .s32, .R, 2, .num 0, .any, false⟩,
  ⟨0x0B, [(0x0, 0xF)], 0x014, 1, false, .bool, .R, 2, .num 0, .any, false⟩,
  ⟨0x0B, [(0x0, 0xF)], 0x016, 1, false, .u32, .R, 2, .num 0, .any, false⟩,
  ⟨0x0B, [(0x0, 0xF)], 0x017, 1, false, .enum8, .R, 3, .num 0, .any, false⟩,
  ⟨0x0B, [(0x0, 0xF)], 0x018, 1, false, .u64, .R, 2, .num 0, .any, true⟩,
  ⟨0x0B, [(0x0, 0xF)], 0x020, 1, false, .u64, .R, 2, .num 0, .any, true⟩,
  ⟨0x0B, [(0x0, 0xF)], 0x022, 1, false, .u64, .R, 2, .num 0, .any, true⟩,
  ⟨0x0B, [(0x0, 0xF)], 0x023, 1, false, .u32, .R, 3, .num 0, .any, true⟩,
  ⟨0x0B, [(0x0, 0xF)], 0x024, 1, false, .u32, .R, 3, .num 0, .any, true⟩,
  ⟨0x0B, [(0x0, 0xF)], 0x025, 1, false, .u64, .R, 2, .num 0, .any, true⟩,
  ⟨0x0B, [(0x0, 0xF)], 0x030, 1, false, .bits32, .RW, 2, .num 0, .mask 0xF7, false⟩,
  ⟨0x0B, [(0x100, 0x10F)], 0x000, 1, false, .bool, .SP, 2, .num 0, .u 0 1, false⟩,
  ⟨0x0B, [(0x100, 0x10F)], 0x001, 1, false, .u8, .SP, 2, .num 0, .u 0 7, false⟩,
  ⟨0x0B, [(0x100, 0x10F)], 0x002, 1, false, .enum8, .SP, 2, .num 0, .u 0 1, false⟩,
  ⟨0x0B, [(0x100, 0x10F)], 0x003, 1, false, .bool, .SP, 2, .num 0, .u 0 1, false⟩,
  ⟨0x0B, [(0x100, 0x10F)], 0x004, 1, false, (.blob 24), .SP, 2, .text [0x01], .any, false⟩,
  ⟨0x0B, [(0x100, 0x10F)], 0x005, 1, false, .bool, .SP, 2, .num 1, .u 0 1, false⟩,
  ⟨0x0B, [(0x100, 0x10F)], 0x006, 1, false, .bool, .SP, 2, .num 0, .u 0 1, false⟩,
  ⟨0x0B, [(0x100, 0x10F)], 0x007, 1, false, .u8, .SP, 2, .num 0x40, .oneOf [56, 64], false⟩,
  ⟨0x0B, [(0x100, 0x10F)], 0x008, 1, false, .u32, .SP, 2, .num 0x3E8, .u 100 100000, false⟩,
  ⟨0x0B, [(0x100, 0x10F)], 0x009, 1, false, .u32, .SP, 2, .num 0x1388, .u 100 100000, false⟩,
  ⟨0x0B, [(0x100, 0x10F)], 0x010, 1, false, .enum8, .R, 3, .num 0, .any, false⟩,
  ⟨0x0B, [(0x100, 0x10F)], 0x011, 1, false, .enum8, .R, 3, .num 0, .any, false⟩,
  ⟨0x0B, [(0x100, 0x10F)], 0x012, 1, false, .u64, .R, 2, .num 0, .any, true⟩,
  ⟨0x0B, [(0x100, 0x10F)], 0x013, 1, false, .u32, .R, 2, .num 0, .any, false⟩,
  ⟨0x0B, [(0x100, 0x10F)], 0x014, 1, false, .u32, .R, 3, .num 0, .any, true⟩,
  ⟨0x0B, [(0x100, 0x10F)], 0x015, 1, false, .u32, .R, 3, .num 0, .any, true⟩,
  ⟨0x0B, [(0x100, 0x10F)], 0x020, 1, false, .bits32, .RW, 2, .num 0, .mask 0x7, false⟩]

/-- The object table of class 0C. -/
def rows0C : List ObjRow := [
  ⟨0x0C, [(0x0, 0x3FF)], 0x000, 8, true, .u16, .SP, 3, .num 0xFFFF, .any, false⟩,
  ⟨0x0C, [(0x0, 0x3FF)], 0x008, 8, true, .q420, .WP, 3, .num 0x100000, .any, false⟩,
  ⟨0x0C, [(0x0, 0x3FF)], 0x010, 1, true, .bool, .WP, 3, .num 0, .u 0 1, false⟩,
  ⟨0x0C, [(0x0, 0x3FF)], 0x011, 1, true, .enum8, .SP, 2, .num 0, .u 0 1, false⟩,
  ⟨0x0C, [(0x0, 0x3FF)], 0x020, 1, true, .enum8, .R, 3, .num 0, .any, false⟩,
  ⟨0x0C, [(0x0, 0x3FF)], 0x021, 1, true, .s16, .R, 3, .num 0xC7C0, .any, false⟩,
  ⟨0x0C, [(0x0, 0x3FF)], 0x022, 1, true, .u8, .R, 2, .num 0, .any, false⟩,
  ⟨0x0C, [(0x0, 0x3FF)], 0x023, 1, true, .u64, .R, 2, .num 0, .any, true⟩,
  ⟨0x0C, [(0x0, 0x3FF)], 0x024, 1, true, .u32, .R, 2, .num 0, .any, true⟩,
  ⟨0x0C, [(0x0, 0x3FF)], 0x030, 1, true, .bits32, .RW, 2, .num 0, .mask 0x7, false⟩,
  ⟨0x0C, [(0x0, 0x3FF)], 0x080, 1, false, .u32, .SP, 2, .num 0, .u 0 192000, false⟩,
  ⟨0x0C, [(0x0, 0x3FF)], 0x081, 1, false, .u32, .R, 2, .num 0, .any, false⟩,
  ⟨0x0C, [(0x0, 0x3FF)], 0x082, 1, false, .u8, .R, 2, .num 0xFF, .any, false⟩,
  ⟨0x0C, [(0x0, 0x3FF)], 0x083, 1, false, .u16, .R, 2, .num 0, .any, false⟩,
  ⟨0x0C, [(0x0, 0x3FF)], 0x084, 1, false, .enum8, .R, 2, .by, .any, false⟩,
  ⟨0x0C, [(0x400, 0x47F)], 0x000, 1, false, .enum8, .SP, 2, .num 1, .u 0 2, false⟩,
  ⟨0x0C, [(0x400, 0x47F)], 0x001, 1, false, .u32, .SP, 2, .num 0xF4240, .u 10000 40000000, false⟩,
  ⟨0x0C, [(0x400, 0x47F)], 0x002, 1, false, .s16, .WP, 2, .num 0xF8F8, .s (-12000) 0, false⟩,
  ⟨0x0C, [(0x500, 0x51B)], 0x000, 1, false, .u16, .SP, 2, .num 0xFFFF, .uOr 0 255 0xFFFF, false⟩,
  ⟨0x0C, [(0x500, 0x51B)], 0x001, 1, false, .bool, .SP, 3, .num 0, .u 0 1, false⟩,
  ⟨0x0C, [(0x500, 0x51B)], 0x002, 1, false, .tick64, .X, 3, .none, .any, false⟩,
  ⟨0x0C, [(0x500, 0x51B)], 0x003, 1, false, .tick64, .X, 3, .none, .any, false⟩,
  ⟨0x0C, [(0x500, 0x51B)], 0x010, 1, false, .enum8, .R, 3, .num 0, .any, false⟩,
  ⟨0x0C, [(0x500, 0x51B)], 0x011, 1, false, .u64, .R, 3, .num 0, .any, true⟩,
  ⟨0x0C, [(0x600, 0x600)], 0x000, 1, false, .enum8, .WP, 2, .num 0, .u 0 1, false⟩,
  ⟨0x0C, [(0x600, 0x600)], 0x001, 1, false, .enum8, .R, 3, .num 0, .any, false⟩,
  ⟨0x0C, [(0x600, 0x600)], 0x002, 1, false, .u16, .R, 3, .by, .any, false⟩,
  ⟨0x0C, [(0x600, 0x600)], 0x003, 1, false, .u32, .R, 3, .by, .any, false⟩,
  ⟨0x0C, [(0x600, 0x600)], 0x004, 1, false, .u32, .R, 3, .num 0, .any, false⟩,
  ⟨0x0C, [(0x600, 0x600)], 0x005, 1, false, (.blob 16), .R, 2, .fill 16, .any, false⟩,
  ⟨0x0C, [(0x600, 0x600)], 0x006, 1, false, .u32, .SP, 2, .num 0x3E8, .u 0 100000, false⟩,
  ⟨0x0C, [(0x600, 0x600)], 0x007, 1, false, .u16, .SP, 2, .num 2, .u 1 48, false⟩,
  ⟨0x0C, [(0x600, 0x600)], 0x008, 1, false, .u32, .SP, 2, .num 0x2710, .u 1000 1000000, false⟩,
  ⟨0x0C, [(0x600, 0x600)], 0x009, 1, false, .u32, .SP, 2, .num 0x7D0, .u 100 100000, false⟩,
  ⟨0x0C, [(0x600, 0x600)], 0x00A, 1, false, .u8, .R, 2, .by, .any, false⟩,
  ⟨0x0C, [(0x600, 0x600)], 0x00B, 1, false, .u8, .R, 2, .by, .any, false⟩,
  ⟨0x0C, [(0x800, 0xBFF)], 0x000, 1, true, .s16, .R, 3, .num 0xC7C0, .any, false⟩,
  ⟨0x0C, [(0x800, 0xBFF)], 0x001, 1, true, .enum8, .R, 2, .num 0, .any, false⟩,
  ⟨0x0C, [(0xC00, 0xCBF)], 0x000, 1, false, .enum8, .SP, 2, .num 0, .u 0 1, false⟩,
  ⟨0x0C, [(0xC00, 0xCBF)], 0x010, 1, false, .bits32, .R, 3, .num 0, .any, false⟩,
  ⟨0x0C, [(0xC00, 0xCBF)], 0x011, 1, false, .bool, .R, 2, .num 0, .any, false⟩,
  ⟨0x0C, [(0xC00, 0xCBF)], 0x012, 1, false, .u64, .R, 2, .num 0, .any, true⟩,
  ⟨0x0C, [(0xC00, 0xCBF)], 0x013, 1, false, .u64, .R, 2, .num 0, .any, true⟩,
  ⟨0x0C, [(0xC00, 0xCBF)], 0x014, 1, false, .enum8, .R, 3, .num 0, .any, false⟩,
  ⟨0x0C, [(0xC00, 0xCBF)], 0x020, 1, false, .bits32, .RW, 2, .num 0, .mask 0x1F, false⟩,
  ⟨0x0C, [(0xD00, 0xDBF)], 0x000, 1, false, .bits32, .SP, 2, .num 0xFF, .mask 0xFF, false⟩,
  ⟨0x0C, [(0xD00, 0xDBF)], 0x010, 1, false, .enum8, .R, 3, .num 0, .any, false⟩,
  ⟨0x0C, [(0xD00, 0xDBF)], 0x011, 1, false, .u8, .R, 2, .num 1, .any, false⟩,
  ⟨0x0C, [(0xD00, 0xDBF)], 0x012, 1, false, .u64, .R, 2, .num 0, .any, true⟩]

/-- The object table of class 0D. -/
def rows0D : List ObjRow := [
  ⟨0x0D, [(0x0, 0x7FF)], 0x000, 1, false, .bool, .SP, 2, .num 0, .u 0 1, false⟩,
  ⟨0x0D, [(0x0, 0x7FF)], 0x001, 1, false, .enum8, .SP, 2, .num 0, .u 0 5, false⟩,
  ⟨0x0D, [(0x0, 0x7FF)], 0x002, 1, false, .u16, .SP, 2, .num 0x4060, .format, false⟩,
  ⟨0x0D, [(0x0, 0x7FF)], 0x003, 1, false, .enum8, .SP, 2, .num 0, .u 0 4, false⟩,
  ⟨0x0D, [(0x0, 0x7FF)], 0x004, 1, false, .enum8, .SP, 2, .num 0, .oneOf [0, 1, 2], false⟩,
  ⟨0x0D, [(0x0, 0x7FF)], 0x005, 1, false, .u16, .SP, 2, .num 0, .any, false⟩,
  ⟨0x0D, [(0x0, 0x7FF)], 0x006, 1, false, .u8, .SP, 2, .num 2, .u 1 64, false⟩,
  ⟨0x0D, [(0x0, 0x7FF)], 0x007, 1, false, .u32, .SP, 2, .num 0, .mask 0x003FFFFF, false⟩,
  ⟨0x0D, [(0x0, 0x7FF)], 0x008, 1, false, .u32, .SP, 2, .num 0xFFFF, .mask 0x003FFFFF, false⟩,
  ⟨0x0D, [(0x0, 0x7FF)], 0x009, 1, false, .u32, .SP, 2, .num 0, .any, false⟩,
  ⟨0x0D, [(0x0, 0x7FF)], 0x00A, 1, false, .u32, .SP, 2, .num 0, .any, false⟩,
  ⟨0x0D, [(0x0, 0x7FF)], 0x00B, 1, false, .u32, .SP, 2, .num 0x13881388, .any, false⟩,
  ⟨0x0D, [(0x0, 0x7FF)], 0x00C, 1, false, .u8, .SP, 2, .num 0x60, .u 96 127, false⟩,
  ⟨0x0D, [(0x0, 0x7FF)], 0x00D, 1, false, .u32, .SP, 2, .by, .any, false⟩,
  ⟨0x0D, [(0x0, 0x7FF)], 0x00E, 1, false, .u16, .SP, 2, .num 0x2204, .mask 0x3F07, false⟩,
  ⟨0x0D, [(0x0, 0x7FF)], 0x00F, 1, false, .enum8, .SP, 2, .num 0, .oneOf [0, 1, 2], false⟩,
  ⟨0x0D, [(0x0, 0x7FF)], 0x010, 1, false, .u32, .SP, 2, .num 0, .any, false⟩,
  ⟨0x0D, [(0x0, 0x7FF)], 0x011, 1, false, .u16, .SP, 2, .num 0x4EC, .step 180 8820 180, false⟩,
  ⟨0x0D, [(0x0, 0x7FF)], 0x020, 1, false, .enum8, .R, 3, .num 0, .any, false⟩,
  ⟨0x0D, [(0x0, 0x7FF)], 0x021, 1, false, .u32, .R, 2, .num 0, .any, false⟩,
  ⟨0x0D, [(0x0, 0x7FF)], 0x022, 1, false, .u64, .R, 2, .num 0, .any, true⟩,
  ⟨0x0D, [(0x0, 0x7FF)], 0x023, 1, false, (.blob 12), .R, 2, .fill 12, .any, false⟩,
  ⟨0x0D, [(0x0, 0x7FF)], 0x030, 1, false, .bits32, .RW, 2, .num 0, .mask 0x7, false⟩]

/-- The object table of class 0E. -/
def rows0E : List ObjRow := [
  ⟨0x0E, [(0x0, 0x7FF)], 0x000, 1, false, .bool, .SP, 2, .num 0, .u 0 1, false⟩,
  ⟨0x0E, [(0x0, 0x7FF)], 0x001, 1, false, .enum8, .SP, 2, .num 0, .u 0 5, false⟩,
  ⟨0x0E, [(0x0, 0x7FF)], 0x002, 1, false, .u16, .SP, 2, .num 0x4060, .format, false⟩,
  ⟨0x0E, [(0x0, 0x7FF)], 0x003, 1, false, .enum8, .SP, 2, .num 0, .u 0 4, false⟩,
  ⟨0x0E, [(0x0, 0x7FF)], 0x004, 1, false, .u16, .SP, 2, .num 0x2400, .any, false⟩,
  ⟨0x0E, [(0x0, 0x7FF)], 0x005, 1, false, .u8, .SP, 2, .num 2, .u 1 64, false⟩,
  ⟨0x0E, [(0x0, 0x7FF)], 0x006, 1, false, .u32, .SP, 2, .num 0, .mask 0x003FFFFF, false⟩,
  ⟨0x0E, [(0x0, 0x7FF)], 0x007, 1, false, .u32, .SP, 2, .num 0xFFFF, .mask 0x003FFFFF, false⟩,
  ⟨0x0E, [(0x0, 0x7FF)], 0x008, 1, false, (.blob 8), .SP, 2, .fill 8, .any, false⟩,
  ⟨0x0E, [(0x0, 0x7FF)], 0x009, 1, false, (.blob 8), .SP, 2, .fill 8, .any, false⟩,
  ⟨0x0E, [(0x0, 0x7FF)], 0x00A, 1, false, .u16, .SP, 2, .num 0x1388, .any, false⟩,
  ⟨0x0E, [(0x0, 0x7FF)], 0x00B, 1, false, .u8, .SP, 2, .num 0x60, .u 96 127, false⟩,
  ⟨0x0E, [(0x0, 0x7FF)], 0x00C, 1, false, .u32, .SP, 2, .num 0x3E8, .u 0 150000, false⟩,
  ⟨0x0E, [(0x0, 0x7FF)], 0x00D, 1, false, .enum8, .SP, 2, .num 0, .oneOf [0, 1], false⟩,
  ⟨0x0E, [(0x0, 0x7FF)], 0x00E, 1, false, .u32, .SP, 2, .num 0x60, .u 12 48000, false⟩,
  ⟨0x0E, [(0x0, 0x7FF)], 0x00F, 1, false, .u32, .SP, 2, .num 0x4E20, .u 1000 1000000, false⟩,
  ⟨0x0E, [(0x0, 0x7FF)], 0x010, 1, false, .u16, .SP, 2, .num 0xFFFF, .any, false⟩,
  ⟨0x0E, [(0x0, 0x7FF)], 0x011, 1, false, .u16, .SP, 2, .num 0xFFFF, .any, false⟩,
  ⟨0x0E, [(0x0, 0x7FF)], 0x012, 1, false, .u8, .SP, 2, .num 4, .u 1 64, false⟩,
  ⟨0x0E, [(0x0, 0x7FF)], 0x020, 1, false, .enum8, .R, 3, .num 0, .any, false⟩,
  ⟨0x0E, [(0x0, 0x7FF)], 0x021, 1, false, .u8, .R, 3, .num 0, .any, false⟩,
  ⟨0x0E, [(0x0, 0x7FF)], 0x022, 1, false, (.blob 16), .R, 2, .fill 16, .any, true⟩,
  ⟨0x0E, [(0x0, 0x7FF)], 0x023, 1, false, .u64, .R, 3, .num 0, .any, true⟩,
  ⟨0x0E, [(0x0, 0x7FF)], 0x024, 1, false, .u64, .R, 2, .num 0, .any, true⟩,
  ⟨0x0E, [(0x0, 0x7FF)], 0x025, 1, false, .u64, .R, 2, .num 0, .any, true⟩,
  ⟨0x0E, [(0x0, 0x7FF)], 0x026, 1, false, .u64, .R, 2, .num 0, .any, true⟩,
  ⟨0x0E, [(0x0, 0x7FF)], 0x027, 1, false, .s32, .R, 2, .num 0, .any, false⟩,
  ⟨0x0E, [(0x0, 0x7FF)], 0x028, 1, false, .u64, .R, 2, .num 0, .any, true⟩,
  ⟨0x0E, [(0x0, 0x7FF)], 0x030, 1, false, .bits32, .RW, 2, .num 0, .mask 0x3F, false⟩]

/-- The object table of class 0F. -/
def rows0F : List ObjRow := [
  ⟨0x0F, [(0x0, 0xE7)], 0x000, 1, false, .enum8, .R, 3, .num 0, .any, false⟩,
  ⟨0x0F, [(0x0, 0xE7)], 0x001, 1, false, .enum8, .SP, 2, .num 1, .oneOf [0, 1], false⟩,
  ⟨0x0F, [(0x0, 0xE7)], 0x002, 1, false, .enum8, .R, 3, .num 0, .any, false⟩,
  ⟨0x0F, [(0x0, 0xE7)], 0x003, 1, false, .u16, .SP, 2, .num 1, .u 1 4094, false⟩,
  ⟨0x0F, [(0x0, 0xE7)], 0x004, 1, false, .enum8, .SP, 2, .num 0, .oneOf [0, 1, 2], false⟩,
  ⟨0x0F, [(0x0, 0xE7)], 0x005, 1, false, .bool, .SP, 2, .num 1, .u 0 1, false⟩,
  ⟨0x0F, [(0x0, 0xE7)], 0x006, 1, false, .u8, .SP, 2, .num 0, .u 0 7, false⟩,
  ⟨0x0F, [(0x0, 0xE7)], 0x007, 1, false, .enum8, .W, 2, .num 2, .oneOf [0, 1, 2], false⟩,
  ⟨0x0F, [(0x0, 0xE7)], 0x008, 1, false, .bool, .SP, 2, .num 0, .u 0 1, false⟩,
  ⟨0x0F, [(0x0, 0xE7)], 0x009, 1, false, .s32, .SP, 2, .num 0, .s (-1000000) 1000000, false⟩,
  ⟨0x0F, [(0x0, 0xE7)], 0x00A, 1, false, .s32, .SP, 2, .num 0, .s (-1000000) 1000000, false⟩,
  ⟨0x0F, [(0x0, 0xE7)], 0x00B, 1, false, .u8, .SP, 2, .num 0x5A, .u 10 95, false⟩,
  ⟨0x0F, [(0x0, 0xE7)], 0x010, 1, false, .enum8, .SP, 2, .num 0, .oneOf [0, 1, 2], false⟩,
  ⟨0x0F, [(0x0, 0xE7)], 0x011, 1, false, .enum8, .SP, 2, .num 1, .oneOf [0, 1], false⟩,
  ⟨0x0F, [(0x0, 0xE7)], 0x012, 1, false, .u8, .SP, 2, .num 0, .oneOf [0, 30, 50], false⟩,
  ⟨0x0F, [(0x0, 0xE7)], 0x013, 1, false, .u32, .SP, 2, .num 0, .u 0 1073741824, false⟩,
  ⟨0x0F, [(0x0, 0xE7)], 0x014, 1, false, (.blob 550), .X, 6, .none, .any, false⟩,
  ⟨0x0F, [(0x0, 0xE7)], 0x015, 1, false, .u8, .W, 6, .num 0, .u 0 3, false⟩,
  ⟨0x0F, [(0x0, 0xE7)], 0x016, 1, false, .u64, .R, 2, .num 0, .any, false⟩,
  ⟨0x0F, [(0x0, 0xE7)], 0x020, 1, false, (.blob 16), .R, 2, .fill 16, .any, true⟩,
  ⟨0x0F, [(0x0, 0xE7)], 0x021, 1, false, .u64, .R, 2, .num 0, .any, true⟩,
  ⟨0x0F, [(0x0, 0xE7)], 0x022, 1, false, (.blob 16), .R, 2, .fill 16, .any, true⟩,
  ⟨0x0F, [(0x0, 0xE7)], 0x023, 1, false, .u64, .R, 2, .num 0, .any, true⟩,
  ⟨0x0F, [(0x0, 0xE7)], 0x024, 1, false, .u64, .R, 2, .num 0, .any, true⟩,
  ⟨0x0F, [(0x0, 0xE7)], 0x025, 1, false, .u64, .R, 2, .num 0, .any, true⟩,
  ⟨0x0F, [(0x0, 0xE7)], 0x026, 1, false, .u64, .R, 2, .num 0, .any, true⟩,
  ⟨0x0F, [(0x0, 0xE7)], 0x030, 1, false, .bits32, .RW, 2, .num 0, .mask 0x3F, false⟩,
  ⟨0x0F, [(0x100, 0x13F)], 0x000, 1, false, .bool, .SP, 2, .num 0, .u 0 1, false⟩,
  ⟨0x0F, [(0x100, 0x13F)], 0x001, 1, false, .u32, .SP, 2, .num 0, .any, false⟩,
  ⟨0x0F, [(0x100, 0x13F)], 0x002, 1, false, .u8, .SP, 2, .num 0x18, .u 8 30, false⟩,
  ⟨0x0F, [(0x100, 0x13F)], 0x003, 1, false, .u16, .SP, 2, .num 1, .u 1 4094, false⟩,
  ⟨0x0F, [(0x100, 0x13F)], 0x004, 1, false, .u32, .SP, 2, .num 0, .any, false⟩,
  ⟨0x0F, [(0x200, 0x200)], 0x000, 1, false, (.blob 68), .S, 2, .none, .any, false⟩,
  ⟨0x0F, [(0x200, 0x200)], 0x001, 1, false, (.blob 10), .S, 2, .none, .any, false⟩,
  ⟨0x0F, [(0x200, 0x200)], 0x002, 1, false, (.blob 40), .S, 2, .none, .any, false⟩,
  ⟨0x0F, [(0x200, 0x200)], 0x003, 1, false, (.blob 9), .W, 2, .none, .any, false⟩,
  ⟨0x0F, [(0x200, 0x200)], 0x004, 1, false, (.blob 68), .R, 2, .none, .any, false⟩,
  ⟨0x0F, [(0x200, 0x200)], 0x005, 1, false, .u16, .X, 2, .none, .any, false⟩,
  ⟨0x0F, [(0x200, 0x200)], 0x006, 1, false, .u32, .SP, 2, .num 0x12C, .u 10 1000000, false⟩,
  ⟨0x0F, [(0x200, 0x200)], 0x007, 1, false, .u8, .SP, 2, .num 0xF0, .any, false⟩,
  ⟨0x0F, [(0x200, 0x200)], 0x008, 1, false, .u32, .SP, 2, .num 0x200000, .u 65536 16777216, false⟩,
  ⟨0x0F, [(0x200, 0x200)], 0x009, 1, false, (.blob 1530), .R, 2, .none, .any, false⟩,
  ⟨0x0F, [(0x200, 0x200)], 0x00A, 1, false, (.blob 1530), .X, 2, .none, .any, false⟩,
  ⟨0x0F, [(0x200, 0x200)], 0x00B, 1, false, .u32, .R, 2, .num 0, .any, false⟩,
  ⟨0x0F, [(0x200, 0x200)], 0x00C, 1, false, .u64, .R, 2, .num 0, .any, true⟩]

/-- The object table of class 10. -/
def rows10 : List ObjRow := [
  ⟨0x10, [(0x0, 0x7FF)], 0x000, 1, false, .bool, .SP, 2, .num 0, .u 0 1, false⟩,
  ⟨0x10, [(0x0, 0x7FF)], 0x001, 1, false, (.blob 16), .SP, 2, .fill 16, .any, false⟩,
  ⟨0x10, [(0x0, 0x7FF)], 0x002, 1, false, .u16, .SP, 2, .num 0, .uOr 64 9216 0, false⟩,
  ⟨0x10, [(0x0, 0x7FF)], 0x003, 1, false, .bool, .SP, 2, .num 0, .u 0 1, false⟩,
  ⟨0x10, [(0x0, 0x7FF)], 0x004, 1, false, .u32, .SP, 2, .num 0x3E8, .u 1 400000000, false⟩,
  ⟨0x10, [(0x0, 0x7FF)], 0x005, 1, false, .u32, .SP, 2, .num 0x4000, .u 64 16777216, false⟩,
  ⟨0x10, [(0x0, 0x7FF)], 0x006, 1, false, .bool, .SP, 2, .num 0, .u 0 1, false⟩,
  ⟨0x10, [(0x0, 0x7FF)], 0x007, 1, false, .u16, .SP, 2, .num 0, .u 0 223, false⟩,
  ⟨0x10, [(0x0, 0x7FF)], 0x008, 1, false, .u32, .SP, 2, .num 0x3E8, .u 0 400000000, false⟩,
  ⟨0x10, [(0x0, 0x7FF)], 0x009, 1, false, .u32, .SP, 2, .num 0xBB8, .u 64 16777216, false⟩,
  ⟨0x10, [(0x0, 0x7FF)], 0x00A, 1, false, .u32, .SP, 2, .num 0x10000, .u 9236 16777216, false⟩,
  ⟨0x10, [(0x0, 0x7FF)], 0x010, 1, false, .u64, .R, 2, .num 0, .any, true⟩,
  ⟨0x10, [(0x0, 0x7FF)], 0x011, 1, false, .u64, .R, 3, .num 0, .any, true⟩,
  ⟨0x10, [(0x0, 0x7FF)], 0x012, 1, false, .u64, .R, 2, .num 0, .any, true⟩,
  ⟨0x10, [(0x0, 0x7FF)], 0x013, 1, false, .s64, .R, 2, .num 0, .any, false⟩,
  ⟨0x10, [(0x0, 0x7FF)], 0x014, 1, false, .u32, .R, 2, .num 0, .any, false⟩,
  ⟨0x10, [(0x0, 0x7FF)], 0x015, 1, false, .u64, .R, 2, .num 0, .any, true⟩,
  ⟨0x10, [(0x0, 0x7FF)], 0x016, 1, false, .u64, .R, 2, .num 0, .any, false⟩,
  ⟨0x10, [(0x0, 0x7FF)], 0x020, 1, false, .bits32, .RW, 2, .num 0, .mask 0x7, false⟩,
  ⟨0x10, [(0x800, 0x8DF)], 0x000, 1, false, .u8, .SP, 2, .num 0xFF, .uOr 0 7 0xFF, false⟩,
  ⟨0x10, [(0x800, 0x8DF)], 0x001, 1, false, .u32, .SP, 2, .num 0, .any, false⟩,
  ⟨0x10, [(0x800, 0x8DF)], 0x002, 1, false, .u8, .SP, 2, .num 0xFF, .uOr 0 7 0xFF, false⟩,
  ⟨0x10, [(0x800, 0x8DF)], 0x003, 1, false, .u32, .SP, 2, .num 0, .any, false⟩,
  ⟨0x10, [(0x800, 0x8DF)], 0x004, 1, false, .bool, .SP, 2, .num 0, .u 0 1, false⟩,
  ⟨0x10, [(0x800, 0x8DF)], 0x005, 1, false, (.blob 2048), .SP, 2, .fill 0, .many 8, false⟩,
  ⟨0x10, [(0x800, 0x8DF)], 0x006, 1, false, .time80, .SP, 2, .num 0, .any, false⟩,
  ⟨0x10, [(0x800, 0x8DF)], 0x007, 1, false, .u32, .SP, 2, .num 0xF4240, .u 10000 1000000000, false⟩,
  ⟨0x10, [(0x800, 0x8DF)], 0x010, 1, false, .enum8, .R, 3, .num 0, .any, false⟩,
  ⟨0x10, [(0x800, 0x8DF)], 0x011, 1, false, .time80, .R, 2, .num 0, .any, false⟩,
  ⟨0x10, [(0x800, 0x8DF)], 0x012, 1, false, .u8, .R, 3, .num 0xFF, .any, false⟩,
  ⟨0x10, [(0x800, 0x8DF)], 0x013, 1, false, (.blob 16), .R, 2, .fill 16, .any, false⟩,
  ⟨0x10, [(0x800, 0x8DF)], 0x014, 1, false, .u64, .R, 2, .num 0, .any, true⟩,
  ⟨0x10, [(0x800, 0x8DF)], 0x015, 1, false, .u64, .R, 2, .num 0, .any, true⟩,
  ⟨0x10, [(0x800, 0x8DF)], 0x016, 1, false, .u64, .R, 2, .num 0, .any, true⟩,
  ⟨0x10, [(0x800, 0x8DF)], 0x017, 1, false, .u32, .R, 2, .num 0, .any, false⟩,
  ⟨0x10, [(0x800, 0x8DF)], 0x020, 1, false, .bits32, .RW, 2, .num 0, .mask 0x1F, false⟩,
  ⟨0x10, [(0x900, 0x900)], 0x000, 1, false, .u16, .R, 2, .num 0, .any, false⟩,
  ⟨0x10, [(0x900, 0x900)], 0x001, 1, false, .u16, .W, 2, .num 0, .u 0 2047, false⟩,
  ⟨0x10, [(0x900, 0x900)], 0x002, 1, false, (.blob 16), .R, 2, .none, .any, false⟩]

/-- The object table of class 11. -/
def rows11 : List ObjRow := [
  ⟨0x11, [(0x0, 0xBF), (0x100, 0x11F)], 0x000, 1, false, .enum8, .SP, 2, .num 0, .u 0 9, false⟩,
  ⟨0x11, [(0x0, 0xBF), (0x100, 0x11F)], 0x001, 1, false, .u8, .SP, 2, .by, .u 0 11, false⟩,
  ⟨0x11, [(0x0, 0xBF), (0x100, 0x11F)], 0x002, 1, false, .bool, .SP, 2, .num 0, .u 0 1, false⟩,
  ⟨0x11, [(0x0, 0xBF), (0x100, 0x11F)], 0x003, 1, false, .bool, .SP, 2, .num 0, .u 0 1, false⟩,
  ⟨0x11, [(0x0, 0xBF), (0x100, 0x11F)], 0x004, 1, false, (.blob 5), .SP, 2, .by, .any, false⟩,
  ⟨0x11, [(0x0, 0xBF), (0x100, 0x11F)], 0x005, 1, false, .u16, .SP, 2, .num 0x320, .step 400 1200 50, false⟩,
  ⟨0x11, [(0x0, 0xBF), (0x100, 0x11F)], 0x006, 1, false, .enum8, .SP, 2, .num 0, .u 0 2, false⟩,
  ⟨0x11, [(0x0, 0xBF), (0x100, 0x11F)], 0x007, 1, false, .u8, .SP, 2, .num 8, .u 0 15, false⟩,
  ⟨0x11, [(0x0, 0xBF), (0x100, 0x11F)], 0x008, 1, false, (.blob 12), .SP, 2, .fill 12, .any, false⟩,
  ⟨0x11, [(0x0, 0xBF), (0x100, 0x11F)], 0x009, 1, false, .enum8, .SP, 2, .by, .oneOf [1, 2, 3, 4, 5, 6, 0x12, 0x13, 0x14, 0x15, 0x16, 0x20, 0x21, 0x22, 0x30, 0x31], false⟩,
  ⟨0x11, [(0x0, 0xBF), (0x100, 0x11F)], 0x00A, 1, false, .enum8, .SP, 2, .num 0, .u 0 2, false⟩,
  ⟨0x11, [(0x0, 0xBF), (0x100, 0x11F)], 0x00B, 1, false, .enum8, .SP, 2, .num 0, .u 0 6, false⟩,
  ⟨0x11, [(0x0, 0xBF), (0x100, 0x11F)], 0x00C, 1, false, .enum8, .SP, 2, .num 0, .u 0 6, false⟩,
  ⟨0x11, [(0x0, 0xBF), (0x100, 0x11F)], 0x00D, 1, false, .u32, .SP, 2, .num 0x2EE00, .u 192 11520000, false⟩,
  ⟨0x11, [(0x0, 0xBF), (0x100, 0x11F)], 0x00E, 1, false, .u8, .SP, 2, .num 0xC, .u 3 15, false⟩,
  ⟨0x11, [(0x0, 0xBF), (0x100, 0x11F)], 0x00F, 1, false, .bool, .X, 2, .none, .oneOf [1], false⟩,
  ⟨0x11, [(0x0, 0xBF), (0x100, 0x11F)], 0x010, 1, false, .u8, .SP, 2, .num 8, .u 6 12, false⟩,
  ⟨0x11, [(0x0, 0xBF), (0x100, 0x11F)], 0x011, 1, false, .u64, .W, 2, .num 0, .any, false⟩,
  ⟨0x11, [(0x0, 0xBF), (0x100, 0x11F)], 0x012, 1, false, .bool, .J, 2, .none, .oneOf [1], false⟩,
  ⟨0x11, [(0x0, 0xBF), (0x100, 0x11F)], 0x020, 1, false, .enum8, .R, 3, .num 0, .any, false⟩,
  ⟨0x11, [(0x0, 0xBF), (0x100, 0x11F)], 0x021, 1, false, .enum8, .R, 3, .num 0, .any, false⟩,
  ⟨0x11, [(0x0, 0xBF), (0x100, 0x11F)], 0x022, 1, false, .enum8, .R, 3, .num 0, .any, false⟩,
  ⟨0x11, [(0x0, 0xBF), (0x100, 0x11F)], 0x023, 1, false, .s32, .R, 2, .num 0, .any, false⟩,
  ⟨0x11, [(0x0, 0xBF), (0x100, 0x11F)], 0x024, 1, false, .u8, .R, 2, .num 0, .any, false⟩,
  ⟨0x11, [(0x0, 0xBF), (0x100, 0x11F)], 0x025, 1, false, (.blob 12), .R, 2, .fill 12, .any, false⟩,
  ⟨0x11, [(0x0, 0xBF), (0x100, 0x11F)], 0x026, 1, false, .enum8, .R, 2, .num 0, .any, false⟩,
  ⟨0x11, [(0x0, 0xBF), (0x100, 0x11F)], 0x027, 1, false, .u64, .R, 2, .num 0, .any, true⟩,
  ⟨0x11, [(0x0, 0xBF), (0x100, 0x11F)], 0x028, 1, false, .u64, .R, 2, .num 0, .any, true⟩,
  ⟨0x11, [(0x0, 0xBF), (0x100, 0x11F)], 0x029, 1, false, .u64, .R, 2, .num 0, .any, false⟩,
  ⟨0x11, [(0x0, 0xBF), (0x100, 0x11F)], 0x02A, 1, false, .u64, .R, 2, .num 0, .any, false⟩,
  ⟨0x11, [(0x0, 0xBF), (0x100, 0x11F)], 0x02B, 1, false, .u32, .R, 2, .num 0, .any, true⟩,
  ⟨0x11, [(0x0, 0xBF), (0x100, 0x11F)], 0x02C, 1, false, .u32, .R, 2, .num 0, .any, true⟩,
  ⟨0x11, [(0x0, 0xBF), (0x100, 0x11F)], 0x02D, 1, false, .u64, .R, 2, .num 0, .any, true⟩,
  ⟨0x11, [(0x0, 0xBF), (0x100, 0x11F)], 0x02E, 1, false, .u64, .R, 2, .num 0, .any, true⟩,
  ⟨0x11, [(0x0, 0xBF), (0x100, 0x11F)], 0x02F, 1, false, .u32, .R, 2, .num 0, .any, true⟩,
  ⟨0x11, [(0x0, 0xBF), (0x100, 0x11F)], 0x030, 1, false, .u8, .R, 2, .num 0, .any, false⟩,
  ⟨0x11, [(0x0, 0xBF), (0x100, 0x11F)], 0x031, 1, false, (.blob 24), .R, 2, .fill 24, .any, false⟩,
  ⟨0x11, [(0x0, 0xBF), (0x100, 0x11F)], 0x032, 1, false, .bits32, .RW, 2, .num 0, .mask 0xFF, false⟩]

/-- The object table of class 12. -/
def rows12 : List ObjRow := [
  ⟨0x12, [(0x0, 0x1F)], 0x000, 1, false, .bool, .SP, 2, .num 0, .u 0 1, false⟩,
  ⟨0x12, [(0x0, 0x1F)], 0x001, 1, false, .bool, .SP, 2, .num 0, .u 0 1, false⟩,
  ⟨0x12, [(0x0, 0x1F)], 0x002, 1, false, (.blob 516), .X, 6, .none, .any, false⟩,
  ⟨0x12, [(0x0, 0x1F)], 0x003, 1, false, .u8, .W, 6, .num 0, .u 0 1, false⟩,
  ⟨0x12, [(0x0, 0x1F)], 0x004, 1, false, .s32, .SP, 2, .num 0, .s (-10000000) 10000000, false⟩,
  ⟨0x12, [(0x0, 0x1F)], 0x010, 1, false, .enum8, .R, 3, .num 0, .any, false⟩,
  ⟨0x12, [(0x0, 0x1F)], 0x011, 1, false, .u16, .R, 3, .num 0xFFFF, .any, false⟩,
  ⟨0x12, [(0x0, 0x1F)], 0x012, 1, false, .u8, .R, 2, .num 0xFF, .any, false⟩,
  ⟨0x12, [(0x0, 0x1F)], 0x013, 1, false, .u32, .R, 2, .num 0, .any, false⟩,
  ⟨0x12, [(0x0, 0x1F)], 0x014, 1, false, .u8, .R, 2, .num 0, .any, false⟩,
  ⟨0x12, [(0x0, 0x1F)], 0x015, 1, false, .u8, .R, 2, .num 0, .any, false⟩,
  ⟨0x12, [(0x0, 0x1F)], 0x016, 1, false, (.blob 4), .R, 3, .fill 4, .any, false⟩,
  ⟨0x12, [(0x0, 0x1F)], 0x017, 1, false, .u16, .R, 2, .num 0x1E1, .any, false⟩,
  ⟨0x12, [(0x0, 0x1F)], 0x018, 1, false, (.blob 16), .R, 2, .fill 16, .any, true⟩,
  ⟨0x12, [(0x0, 0x1F)], 0x019, 1, false, .u64, .R, 2, .num 0, .any, true⟩,
  ⟨0x12, [(0x0, 0x1F)], 0x01A, 1, false, .u64, .R, 2, .num 0, .any, true⟩,
  ⟨0x12, [(0x0, 0x1F)], 0x01B, 1, false, .u64, .R, 2, .num 0, .any, true⟩,
  ⟨0x12, [(0x0, 0x1F)], 0x01C, 1, false, .u64, .R, 2, .num 0, .any, true⟩,
  ⟨0x12, [(0x0, 0x1F)], 0x01D, 1, false, .u64, .R, 2, .num 0, .any, true⟩,
  ⟨0x12, [(0x0, 0x1F)], 0x01E, 1, false, .u64, .R, 2, .num 0, .any, true⟩,
  ⟨0x12, [(0x0, 0x1F)], 0x01F, 1, false, .u64, .R, 2, .num 0, .any, true⟩,
  ⟨0x12, [(0x0, 0x1F)], 0x020, 1, false, .bits32, .RW, 2, .num 0, .mask 0x3F, false⟩]

/-- The object table of class 13. -/
def rows13 : List ObjRow := [
  ⟨0x13, [(0x0, 0x0)], 0x000, 1, false, .bool, .SP, 2, .num 0, .u 0 1, false⟩,
  ⟨0x13, [(0x0, 0x0)], 0x001, 1, false, .u32, .SP, 2, .num 1, .u 1 4294967295, false⟩,
  ⟨0x13, [(0x0, 0x0)], 0x002, 1, false, .u16, .SP, 2, .num 0, .u 0 1023, false⟩,
  ⟨0x13, [(0x0, 0x0)], 0x003, 1, false, .u8, .SP, 2, .num 0, .u 0 255, false⟩,
  ⟨0x13, [(0x0, 0x0)], 0x004, 1, false, .enum8, .SP, 2, .num 0, .u 0 1, false⟩,
  ⟨0x13, [(0x0, 0x0)], 0x005, 1, false, .enum8, .SP, 2, .num 2, .u 0 2, false⟩,
  ⟨0x13, [(0x0, 0x0)], 0x006, 1, false, .u32, .SP, 2, .num 0xC0, .u 20 11520000, false⟩,
  ⟨0x13, [(0x0, 0x0)], 0x007, 1, false, .u32, .SP, 2, .num 0x2EE00, .u 19200 11520000, false⟩,
  ⟨0x13, [(0x0, 0x0)], 0x008, 1, false, .bool, .SP, 2, .num 1, .u 0 1, false⟩,
  ⟨0x13, [(0x0, 0x0)], 0x009, 1, false, .enum8, .SP, 2, .num 1, .oneOf [0, 1], false⟩,
  ⟨0x13, [(0x0, 0x0)], 0x010, 1, false, .enum8, .R, 7, .num 0, .any, false⟩,
  ⟨0x13, [(0x0, 0x0)], 0x011, 1, false, .u16, .R, 3, .num 0xFFFF, .any, false⟩,
  ⟨0x13, [(0x0, 0x0)], 0x012, 1, false, .u16, .R, 3, .num 0xFFFF, .any, false⟩,
  ⟨0x13, [(0x0, 0x0)], 0x013, 1, false, .u32, .R, 3, .num 0, .any, false⟩,
  ⟨0x13, [(0x0, 0x0)], 0x014, 1, false, .u32, .R, 3, .num 0, .any, false⟩,
  ⟨0x13, [(0x0, 0x0)], 0x015, 1, false, .u8, .R, 2, .num 0, .any, false⟩,
  ⟨0x13, [(0x0, 0x0)], 0x016, 1, false, .u8, .R, 2, .num 0, .any, false⟩,
  ⟨0x13, [(0x0, 0x0)], 0x017, 1, false, .u16, .R, 3, .num 0, .any, false⟩,
  ⟨0x13, [(0x0, 0x0)], 0x018, 1, false, .u32, .R, 2, .num 0, .any, false⟩,
  ⟨0x13, [(0x0, 0x0)], 0x019, 1, false, .u32, .R, 2, .num 0, .any, false⟩,
  ⟨0x13, [(0x0, 0x0)], 0x01A, 1, false, .u32, .R, 2, .num 0, .any, true⟩,
  ⟨0x13, [(0x0, 0x0)], 0x01B, 1, false, .u16, .X, 6, .none, .u 0 1023, false⟩,
  ⟨0x13, [(0x0, 0x0)], 0x01C, 1, false, .bits32, .RW, 2, .num 0, .mask 0x3F, false⟩,
  ⟨0x13, [(0x0, 0x0)], 0x020, 1, false, .u16, .J, 2, .none, .u 0 1023, false⟩,
  ⟨0x13, [(0x0, 0x0)], 0x021, 1, false, .u32, .W, 3, .num 0, .any, false⟩,
  ⟨0x13, [(0x0, 0x0)], 0x022, 1, false, (.blob 272), .R, 3, .none, .any, false⟩,
  ⟨0x13, [(0x100, 0x4FF)], 0x000, 1, false, .enum8, .R, 3, .num 0, .any, false⟩,
  ⟨0x13, [(0x100, 0x4FF)], 0x001, 1, false, .enum8, .R, 2, .num 0, .any, false⟩,
  ⟨0x13, [(0x100, 0x4FF)], 0x002, 1, false, .u8, .R, 2, .num 0, .any, false⟩,
  ⟨0x13, [(0x100, 0x4FF)], 0x003, 1, false, .u32, .R, 3, .num 0, .any, false⟩]

/-- The object table of class 14. -/
def rows14 : List ObjRow := [
  ⟨0x14, [(0x0, 0x7F)], 0x000, 1, false, .bool, .SP, 2, .num 0, .u 0 1, false⟩,
  ⟨0x14, [(0x0, 0x7F)], 0x001, 1, false, .enum8, .SP, 2, .num 0, .oneOf [0, 1], false⟩,
  ⟨0x14, [(0x0, 0x7F)], 0x002, 1, false, .u16, .W, 3, .num 0, .u 0 1023, false⟩,
  ⟨0x14, [(0x0, 0x7F)], 0x003, 1, false, (.blob 64), .SP, 3, .fill 64, .any, false⟩,
  ⟨0x14, [(0x0, 0x7F)], 0x004, 1, false, .u64, .W, 3, .num 0, .any, false⟩,
  ⟨0x14, [(0x0, 0x7F)], 0x005, 1, false, .u16, .X, 3, .none, .u 0 1023, false⟩,
  ⟨0x14, [(0x0, 0x7F)], 0x006, 1, false, .u16, .X, 3, .none, .uOr 0 1023 0xFFFF, false⟩,
  ⟨0x14, [(0x0, 0x7F)], 0x010, 1, false, .enum8, .R, 3, .num 0, .any, false⟩,
  ⟨0x14, [(0x0, 0x7F)], 0x011, 1, false, .u16, .R, 2, .num 0, .any, false⟩,
  ⟨0x14, [(0x0, 0x7F)], 0x012, 1, false, .u64, .R, 3, .num 0, .any, true⟩,
  ⟨0x14, [(0x0, 0x7F)], 0x013, 1, false, .u64, .R, 2, .num 0, .any, true⟩,
  ⟨0x14, [(0x0, 0x7F)], 0x014, 1, false, .u64, .R, 2, .num 0, .any, true⟩,
  ⟨0x14, [(0x0, 0x7F)], 0x015, 1, false, .u16, .R, 2, .num 0, .any, false⟩,
  ⟨0x14, [(0x0, 0x7F)], 0x016, 1, false, .u64, .R, 2, .num 0, .any, true⟩,
  ⟨0x14, [(0x0, 0x7F)], 0x017, 1, false, .u64, .R, 2, .num 0, .any, true⟩,
  ⟨0x14, [(0x0, 0x7F)], 0x018, 1, false, .u32, .R, 2, .num 0, .any, false⟩,
  ⟨0x14, [(0x0, 0x7F)], 0x020, 1, false, .bits32, .RW, 2, .num 0, .mask 0x3F, false⟩]

/-- The object table of class 15. -/
def rows15 : List ObjRow := [
  ⟨0x15, [(0x0, 0x3FF)], 0x000, 1, false, .bool, .SP, 2, .num 0, .u 0 1, false⟩,
  ⟨0x15, [(0x0, 0x3FF)], 0x001, 1, false, .u16, .SP, 2, .num 1, .u 1 63999, false⟩,
  ⟨0x15, [(0x0, 0x3FF)], 0x002, 1, false, .u16, .SP, 2, .num 0x200, .u 24 512, false⟩,
  ⟨0x15, [(0x0, 0x3FF)], 0x003, 1, false, .enum8, .SP, 2, .num 0, .oneOf [0, 1], false⟩,
  ⟨0x15, [(0x0, 0x3FF)], 0x004, 1, false, .u8, .SP, 2, .num 0xFF, .uOr 0 31 0xFF, false⟩,
  ⟨0x15, [(0x0, 0x3FF)], 0x005, 1, false, .u8, .SP, 2, .num 0x64, .u 0 200, false⟩,
  ⟨0x15, [(0x0, 0x3FF)], 0x006, 1, false, .u16, .SP, 2, .num 0xFFFF, .any, false⟩,
  ⟨0x15, [(0x0, 0x3FF)], 0x007, 1, false, .u8, .SP, 2, .num 0x64, .u 0 200, false⟩,
  ⟨0x15, [(0x0, 0x3FF)], 0x008, 1, false, .u32, .SP, 2, .num 0x1200, .u 192 192000, false⟩,
  ⟨0x15, [(0x0, 0x3FF)], 0x010, 1, false, .enum8, .R, 3, .num 0, .any, false⟩,
  ⟨0x15, [(0x0, 0x3FF)], 0x011, 1, false, .u8, .R, 3, .num 0, .any, false⟩,
  ⟨0x15, [(0x0, 0x3FF)], 0x012, 1, false, .u8, .R, 2, .num 0, .any, false⟩,
  ⟨0x15, [(0x0, 0x3FF)], 0x013, 1, false, (.blob 512), .R, 3, .fill 512, .any, false⟩,
  ⟨0x15, [(0x0, 0x3FF)], 0x014, 1, false, (.blob 512), .R, 2, .fill 512, .any, false⟩,
  ⟨0x15, [(0x0, 0x3FF)], 0x015, 1, false, .u16, .R, 3, .num 0, .any, false⟩,
  ⟨0x15, [(0x0, 0x3FF)], 0x016, 1, false, .u64, .R, 2, .num 0, .any, true⟩,
  ⟨0x15, [(0x0, 0x3FF)], 0x017, 1, false, .u64, .R, 2, .num 0, .any, true⟩,
  ⟨0x15, [(0x0, 0x3FF)], 0x018, 1, false, .u64, .R, 2, .num 0, .any, true⟩,
  ⟨0x15, [(0x0, 0x3FF)], 0x020, 1, false, .bits32, .RW, 2, .num 0, .mask 0x3F, false⟩,
  ⟨0x15, [(0x400, 0x41F)], 0x000, 1, false, .enum8, .SP, 2, .num 0, .oneOf [0, 1, 2], false⟩,
  ⟨0x15, [(0x400, 0x41F)], 0x001, 1, false, .u16, .SP, 2, .num 0, .u 0 1023, false⟩,
  ⟨0x15, [(0x400, 0x41F)], 0x002, 1, false, .u16, .SP, 2, .num 0xB0, .u 92 1000, false⟩,
  ⟨0x15, [(0x400, 0x41F)], 0x003, 1, false, .u16, .SP, 2, .num 0x10, .u 12 1000, false⟩,
  ⟨0x15, [(0x400, 0x41F)], 0x004, 1, false, .u32, .SP, 2, .num 0x1200, .u 231 192000, false⟩,
  ⟨0x15, [(0x400, 0x41F)], 0x005, 1, false, .u32, .SP, 2, .num 0, .any, false⟩,
  ⟨0x15, [(0x400, 0x41F)], 0x006, 1, false, .u32, .SP, 2, .num 0x3A980, .u 19200 1920000, false⟩,
  ⟨0x15, [(0x400, 0x41F)], 0x010, 1, false, .enum8, .R, 3, .num 0, .any, false⟩,
  ⟨0x15, [(0x400, 0x41F)], 0x011, 1, false, .u16, .R, 2, .num 0, .any, false⟩,
  ⟨0x15, [(0x400, 0x41F)], 0x012, 1, false, .u64, .R, 2, .num 0, .any, true⟩,
  ⟨0x15, [(0x400, 0x41F)], 0x013, 1, false, .u64, .R, 2, .num 0, .any, true⟩,
  ⟨0x15, [(0x400, 0x41F)], 0x014, 1, false, .bits32, .RW, 2, .num 0, .mask 0x7, false⟩,
  ⟨0x15, [(0x500, 0x500)], 0x000, 1, false, (.blob 16), .SP, 2, .by, .any, false⟩,
  ⟨0x15, [(0x500, 0x500)], 0x001, 1, false, (.str 64), .SP, 2, .text [0x54, 0x72, 0x6F, 0x6D, 0x65, 0x6E], .any, false⟩,
  ⟨0x15, [(0x500, 0x500)], 0x002, 1, false, .u16, .SP, 2, .num 0xFFFF, .any, false⟩,
  ⟨0x15, [(0x500, 0x500)], 0x003, 1, false, .u16, .R, 2, .num 0, .any, false⟩,
  ⟨0x15, [(0x500, 0x500)], 0x004, 1, false, .u16, .W, 2, .num 0, .u 0 255, false⟩,
  ⟨0x15, [(0x500, 0x500)], 0x005, 1, false, (.blob 1024), .R, 2, .none, .any, false⟩]

/-- The object table of class 16. -/
def rows16 : List ObjRow := [
  ⟨0x16, [(0x0, 0x7)], 0x000, 1, false, .bool, .SP, 2, .num 0, .u 0 1, false⟩,
  ⟨0x16, [(0x0, 0x7)], 0x001, 1, false, .u16, .SP, 2, .num 0, .u 0 191, false⟩,
  ⟨0x16, [(0x0, 0x7)], 0x002, 1, false, .enum8, .SP, 2, .num 0, .oneOf [0, 1], false⟩,
  ⟨0x16, [(0x0, 0x7)], 0x003, 1, false, .enum8, .SP, 2, .num 1, .u 0 4, false⟩,
  ⟨0x16, [(0x0, 0x7)], 0x004, 1, false, .u16, .SP, 2, .num 0x19, .u 0 1000, false⟩,
  ⟨0x16, [(0x0, 0x7)], 0x010, 1, false, .enum8, .R, 3, .num 0, .any, false⟩,
  ⟨0x16, [(0x0, 0x7)], 0x011, 1, false, .u32, .R, 3, .num 0, .any, false⟩,
  ⟨0x16, [(0x0, 0x7)], 0x012, 1, false, .u32, .R, 2, .num 0, .any, false⟩,
  ⟨0x16, [(0x0, 0x7)], 0x013, 1, false, .tick64, .R, 2, .num 0, .any, false⟩,
  ⟨0x16, [(0x0, 0x7)], 0x014, 1, false, .s32, .R, 2, .num 0, .any, false⟩,
  ⟨0x16, [(0x0, 0x7)], 0x015, 1, false, .u8, .R, 2, .num 0, .any, false⟩,
  ⟨0x16, [(0x0, 0x7)], 0x020, 1, false, .bits32, .RW, 2, .num 0, .mask 0x7, false⟩,
  ⟨0x16, [(0x10, 0x13)], 0x000, 1, false, .enum8, .SP, 2, .num 0, .u 0 3, false⟩,
  ⟨0x16, [(0x10, 0x13)], 0x001, 1, false, .enum8, .SP, 2, .num 1, .u 0 4, false⟩,
  ⟨0x16, [(0x10, 0x13)], 0x002, 1, false, .u8, .SP, 2, .num 0, .u 0 15, false⟩,
  ⟨0x16, [(0x10, 0x13)], 0x003, 1, false, .s32, .SP, 2, .num 0, .any, false⟩,
  ⟨0x16, [(0x10, 0x13)], 0x004, 1, false, .u32, .SP, 2, .num 0, .any, false⟩,
  ⟨0x16, [(0x10, 0x13)], 0x005, 1, false, .u8, .SP, 2, .num 0, .u 0 7, false⟩,
  ⟨0x16, [(0x10, 0x13)], 0x006, 1, false, .s16, .SP, 2, .num 0, .s (-1440) 1440, false⟩,
  ⟨0x16, [(0x10, 0x13)], 0x007, 1, false, .u32, .SP, 2, .num 0, .any, false⟩,
  ⟨0x16, [(0x10, 0x13)], 0x008, 1, false, .bool, .W, 3, .num 0, .u 0 1, false⟩,
  ⟨0x16, [(0x10, 0x13)], 0x010, 1, false, .enum8, .R, 3, .num 0, .any, false⟩,
  ⟨0x16, [(0x10, 0x13)], 0x011, 1, false, .u32, .R, 3, .num 0, .any, false⟩,
  ⟨0x16, [(0x100, 0x17F)], 0x000, 1, false, .enum8, .SP, 2, .num 0, .oneOf [0, 1, 2], false⟩,
  ⟨0x16, [(0x100, 0x17F)], 0x001, 1, false, .enum8, .SP, 2, .num 0, .oneOf [0, 1], false⟩,
  ⟨0x16, [(0x100, 0x17F)], 0x002, 1, false, .bool, .SP, 2, .num 0, .u 0 1, false⟩,
  ⟨0x16, [(0x100, 0x17F)], 0x003, 1, false, .u32, .SP, 2, .num 0xC0, .u 1 192000, false⟩,
  ⟨0x16, [(0x100, 0x17F)], 0x004, 1, false, .bool, .SP, 2, .num 0, .u 0 1, false⟩,
  ⟨0x16, [(0x100, 0x17F)], 0x005, 1, false, .enum8, .W, 3, .num 0, .oneOf [0, 1], false⟩,
  ⟨0x16, [(0x100, 0x17F)], 0x006, 1, false, .u32, .SP, 2, .num 0, .any, false⟩,
  ⟨0x16, [(0x100, 0x17F)], 0x007, 1, false, (.blob 32), .SP, 2, .fill 0, .many 2, false⟩,
  ⟨0x16, [(0x100, 0x17F)], 0x010, 1, false, .bool, .R, 3, .num 0, .any, false⟩,
  ⟨0x16, [(0x100, 0x17F)], 0x011, 1, false, .tick64, .R, 2, .num 0, .any, false⟩,
  ⟨0x16, [(0x100, 0x17F)], 0x012, 1, false, .u64, .R, 2, .num 0, .any, true⟩]

/-- The object table of class 17. -/
def rows17 : List ObjRow := [
  ⟨0x17, [(0x0, 0x0)], 0x000, 1, false, .bool, .R, 6, .num 0, .any, false⟩,
  ⟨0x17, [(0x0, 0x0)], 0x001, 1, false, .bits32, .R, 7, .num 0, .any, false⟩,
  ⟨0x17, [(0x0, 0x0)], 0x002, 1, false, (.blob 16), .R, 6, .fill 16, .any, false⟩,
  ⟨0x17, [(0x0, 0x0)], 0x003, 1, false, .u16, .SP, 2, .num 0x200, .u 16 4096, false⟩,
  ⟨0x17, [(0x0, 0x0)], 0x004, 1, false, .u64, .R, 2, .num 0, .any, false⟩,
  ⟨0x17, [(0x0, 0x0)], 0x005, 1, false, .u64, .R, 6, .num 0, .any, false⟩,
  ⟨0x17, [(0x0, 0x0)], 0x006, 1, false, .bool, .R, 6, .num 0, .any, false⟩,
  ⟨0x17, [(0x0, 0x0)], 0x007, 1, false, .u8, .W, 6, .num 0, .u 0 31, false⟩,
  ⟨0x17, [(0x0, 0x0)], 0x008, 1, false, (.blob 16), .R, 6, .none, .any, false⟩,
  ⟨0x17, [(0x0, 0x0)], 0x009, 1, false, (.blob 16), .R, 6, .fill 16, .any, false⟩,
  ⟨0x17, [(0x0, 0x0)], 0x00A, 1, false, (.blob 16), .R, 2, .fill 16, .any, false⟩,
  ⟨0x17, [(0x0, 0x0)], 0x020, 1, false, .u16, .X, 4, .none, .any, false⟩,
  ⟨0x17, [(0x0, 0x0)], 0x021, 1, false, .bits32, .RW, 6, .num 0, .mask 0x7, false⟩,
  ⟨0x17, [(0x100, 0x10D)], 0x000, 1, false, .enum8, .R, 7, .num 0, .any, false⟩,
  ⟨0x17, [(0x100, 0x10D)], 0x001, 1, false, (.blob 11), .SP, 2, .by, .any, false⟩,
  ⟨0x17, [(0x100, 0x10D)], 0x002, 1, false, .u8, .R, 2, .num 0, .any, false⟩,
  ⟨0x17, [(0x100, 0x10D)], 0x003, 1, false, .u64, .R, 2, .num 0, .any, false⟩,
  ⟨0x17, [(0x100, 0x10D)], 0x004, 1, false, .u64, .R, 2, .num 0, .any, false⟩,
  ⟨0x17, [(0x100, 0x10D)], 0x005, 1, false, .u32, .R, 6, .num 0, .any, false⟩,
  ⟨0x17, [(0x100, 0x10D)], 0x006, 1, false, .u32, .R, 2, .num 0, .any, false⟩,
  ⟨0x17, [(0x100, 0x10D)], 0x007, 1, false, .u64, .R, 2, .num 0, .any, false⟩,
  ⟨0x17, [(0x200, 0x20A)], 0x000, 1, false, .u64, .R, 2, .num 0, .any, false⟩,
  ⟨0x17, [(0x200, 0x20A)], 0x001, 1, false, (.blob 16), .R, 2, .fill 16, .any, false⟩,
  ⟨0x17, [(0x200, 0x20A)], 0x002, 1, false, .u8, .R, 2, .num 0, .any, false⟩,
  ⟨0x17, [(0x200, 0x20A)], 0x003, 1, false, .u64, .R, 2, .num 0, .any, false⟩,
  ⟨0x17, [(0x300, 0x303)], 0x000, 1, false, .enum8, .R, 2, .num 0, .any, false⟩,
  ⟨0x17, [(0x300, 0x303)], 0x001, 1, false, .u64, .R, 2, .num 0, .any, false⟩,
  ⟨0x17, [(0x300, 0x303)], 0x002, 1, false, .u32, .R, 2, .num 0, .any, false⟩]

/-- The object table of class 18. -/
def rows18 : List ObjRow := [
  ⟨0x18, [(0x0, 0x0)], 0x000, 1, false, .enum8, .R, 7, .by, .any, false⟩,
  ⟨0x18, [(0x0, 0x0)], 0x001, 1, false, .u8, .R, 6, .by, .any, false⟩,
  ⟨0x18, [(0x0, 0x0)], 0x002, 1, false, .enum8, .X, 4, .none, .oneOf [2, 3, 4], false⟩,
  ⟨0x18, [(0x0, 0x0)], 0x003, 1, false, (.blob 96), .W, 4, .fill 0, .any, false⟩,
  ⟨0x18, [(0x0, 0x0)], 0x004, 1, false, .enum8, .R, 7, .by, .any, false⟩,
  ⟨0x18, [(0x0, 0x0)], 0x005, 1, false, .enum8, .R, 6, .num 0, .any, false⟩,
  ⟨0x18, [(0x0, 0x0)], 0x006, 1, false, .u8, .R, 6, .num 0, .any, false⟩,
  ⟨0x18, [(0x0, 0x0)], 0x007, 1, false, (.blob 8), .R, 6, .none, .any, false⟩,
  ⟨0x18, [(0x0, 0x0)], 0x008, 1, false, (.blob 4), .R, 6, .none, .any, false⟩,
  ⟨0x18, [(0x0, 0x0)], 0x009, 1, false, .u8, .R, 6, .by, .any, false⟩,
  ⟨0x18, [(0x0, 0x0)], 0x00A, 1, false, (.blob 48), .R, 6, .by, .any, false⟩,
  ⟨0x18, [(0x0, 0x0)], 0x00B, 1, false, .u8, .R, 2, .by, .any, false⟩,
  ⟨0x18, [(0x0, 0x0)], 0x00C, 1, false, .u32, .R, 2, .by, .any, false⟩,
  ⟨0x18, [(0x0, 0x0)], 0x00D, 1, false, .u8, .R, 6, .by, .any, false⟩,
  ⟨0x18, [(0x0, 0x0)], 0x00E, 1, false, .u8, .R, 6, .by, .any, false⟩,
  ⟨0x18, [(0x0, 0x0)], 0x00F, 1, false, .bool, .R, 7, .by, .any, false⟩,
  ⟨0x18, [(0x0, 0x0)], 0x010, 1, false, .bool, .X, 4, .none, .oneOf [1], false⟩,
  ⟨0x18, [(0x0, 0x0)], 0x020, 1, false, .bool, .J, 4, .none, .oneOf [1], false⟩,
  ⟨0x18, [(0x0, 0x0)], 0x021, 1, false, .u64, .W, 4, .num 0, .any, false⟩,
  ⟨0x18, [(0x0, 0x0)], 0x022, 1, false, .enum8, .R, 6, .num 0, .any, false⟩,
  ⟨0x18, [(0x0, 0x0)], 0x023, 1, false, .bool, .X, 4, .none, .oneOf [1], false⟩,
  ⟨0x18, [(0x0, 0x0)], 0x024, 1, false, .bits32, .RW, 6, .num 0, .mask 0x3F, false⟩]

/-- The object table of class 19. -/
def rows19 : List ObjRow := [
  ⟨0x19, [(0x0, 0x0)], 0x000, 1, false, .enum8, .R, 7, .num 1, .any, false⟩,
  ⟨0x19, [(0x0, 0x0)], 0x001, 1, false, (.blob 8), .R, 6, .by, .any, false⟩,
  ⟨0x19, [(0x0, 0x0)], 0x002, 1, false, (.blob 8), .R, 6, .fill 0, .any, false⟩,
  ⟨0x19, [(0x0, 0x0)], 0x003, 1, false, (.blob 97), .R, 7, .by, .any, false⟩,
  ⟨0x19, [(0x0, 0x0)], 0x004, 1, false, .bool, .R, 6, .num 0, .any, false⟩,
  ⟨0x19, [(0x0, 0x0)], 0x005, 1, false, (.blob 97), .X, 4, .none, .any, false⟩,
  ⟨0x19, [(0x0, 0x0)], 0x006, 1, false, (.blob 390), .R, 4, .fill 0, .any, false⟩,
  ⟨0x19, [(0x0, 0x0)], 0x007, 1, false, (.blob 32), .X, 7, .none, .any, false⟩,
  ⟨0x19, [(0x0, 0x0)], 0x008, 1, false, (.blob 176), .R, 7, .fill 0, .any, false⟩,
  ⟨0x19, [(0x0, 0x0)], 0x010, 1, false, (.blob 4416), .X, 6, .none, .any, false⟩,
  ⟨0x19, [(0x0, 0x0)], 0x011, 1, false, (.blob 4132), .R, 6, .fill 0, .any, false⟩,
  ⟨0x19, [(0x0, 0x0)], 0x012, 1, false, .u64, .R, 6, .by, .any, false⟩,
  ⟨0x19, [(0x0, 0x0)], 0x013, 1, false, .u16, .R, 6, .num 0, .any, false⟩,
  ⟨0x19, [(0x0, 0x0)], 0x014, 1, false, .u16, .R, 6, .num 0, .any, false⟩,
  ⟨0x19, [(0x0, 0x0)], 0x015, 1, false, .bits32, .W, 4, .num 0x1F00, .mask 0x1F0F, false⟩,
  ⟨0x19, [(0x0, 0x0)], 0x016, 1, false, .u8, .R, 6, .num 0, .any, false⟩,
  ⟨0x19, [(0x0, 0x0)], 0x017, 1, false, .u64, .R, 6, .num 0, .any, false⟩,
  ⟨0x19, [(0x0, 0x0)], 0x018, 1, false, .enum8, .R, 6, .num 0, .any, false⟩,
  ⟨0x19, [(0x0, 0x0)], 0x020, 1, false, (.blob 48), .J, 4, .none, .any, false⟩,
  ⟨0x19, [(0x0, 0x0)], 0x021, 1, false, .enum8, .R, 6, .num 0, .any, false⟩,
  ⟨0x19, [(0x0, 0x0)], 0x022, 1, false, .bool, .X, 4, .none, .oneOf [1], false⟩,
  ⟨0x19, [(0x0, 0x0)], 0x023, 1, false, .bits32, .RW, 6, .num 0, .mask 0x3F, false⟩,
  ⟨0x19, [(0x100, 0x1FF)], 0x000, 1, false, .enum8, .R, 6, .num 0, .any, false⟩,
  ⟨0x19, [(0x100, 0x1FF)], 0x001, 1, false, (.blob 24), .R, 6, .fill 24, .any, false⟩,
  ⟨0x19, [(0x100, 0x1FF)], 0x002, 1, false, .u16, .R, 6, .num 0xFFFF, .any, false⟩]

/-- The object table of class 1A. -/
def rows1A : List ObjRow := [
  ⟨0x1A, [(0x0, 0xFFF)], 0x000, 1, false, .bits32, .RW, 7, .num 0, .mask 0x3, false⟩,
  ⟨0x1A, [(0x0, 0xFFF)], 0x001, 1, false, .bool, .WP, 2, .num 0, .u 0 1, false⟩,
  ⟨0x1A, [(0x0, 0xFFF)], 0x002, 1, false, .enum8, .WP, 2, .by, .u 0 4, false⟩,
  ⟨0x1A, [(0x0, 0xFFF)], 0x003, 1, false, .bits32, .WP, 2, .by, .mask 0x1F, false⟩,
  ⟨0x1A, [(0x0, 0xFFF)], 0x004, 1, false, .u32, .R, 7, .num 0, .any, false⟩,
  ⟨0x1A, [(0x0, 0xFFF)], 0x005, 1, false, .tick64, .R, 7, .num 0, .any, false⟩,
  ⟨0x1A, [(0x0, 0xFFF)], 0x006, 1, false, (.blob 64), .R, 7, .fill 64, .any, false⟩,
  ⟨0x1A, [(0x0, 0xFFF)], 0x007, 1, false, .u8, .R, 7, .by, .any, false⟩,
  ⟨0x1A, [(0x0, 0x0)], 0x800, 1, false, .u32, .R, 7, .num 0, .any, false⟩,
  ⟨0x1A, [(0x0, 0x0)], 0x801, 1, false, .u32, .W, 7, .num 0, .any, false⟩,
  ⟨0x1A, [(0x0, 0x0)], 0x802, 1, false, (.blob 64), .R, 7, .none, .any, false⟩,
  ⟨0x1A, [(0x0, 0x0)], 0x803, 1, false, .bool, .R, 7, .num 0, .any, false⟩,
  ⟨0x1A, [(0x0, 0x0)], 0x804, 1, false, .bool, .X, 6, .none, .oneOf [1], false⟩,
  ⟨0x1A, [(0x0, 0x0)], 0x805, 1, false, .bool, .X, 2, .none, .oneOf [1], false⟩,
  ⟨0x1A, [(0x0, 0x0)], 0x806, 1, false, .u64, .R, 2, .num 0, .any, false⟩,
  ⟨0x1A, [(0x0, 0x0)], 0x807, 1, false, .u64, .R, 2, .num 0, .any, false⟩,
  ⟨0x1A, [(0x0, 0x0)], 0x808, 1, false, .bits32, .RW, 2, .num 0, .mask 0x3, false⟩]

/-- The object table of class 1B. -/
def rows1B : List ObjRow := [
  ⟨0x1B, [(0x0, 0x3F)], 0x000, 1, false, .enum8, .R, 7, .num 0, .any, false⟩,
  ⟨0x1B, [(0x0, 0x3F)], 0x001, 1, false, .u32, .R, 7, .num 0, .any, false⟩,
  ⟨0x1B, [(0x0, 0x3F)], 0x002, 1, false, .enum8, .R, 7, .num 0, .any, false⟩,
  ⟨0x1B, [(0x0, 0x3F)], 0x003, 1, false, .u16, .R, 7, .num 0, .any, false⟩,
  ⟨0x1B, [(0x0, 0x3F)], 0x004, 1, false, .tick64, .R, 6, .num 0, .any, false⟩,
  ⟨0x1B, [(0x0, 0x3F)], 0x005, 1, false, .tick64, .R, 6, .num 0, .any, false⟩,
  ⟨0x1B, [(0x0, 0x3F)], 0x006, 1, false, .u16, .R, 6, .num 0xFFFF, .any, false⟩,
  ⟨0x1B, [(0x0, 0x3F)], 0x007, 1, false, (.blob 64), .R, 6, .fill 0, .any, false⟩,
  ⟨0x1B, [(0x40, 0x40)], 0x000, 1, false, .u8, .SP, 2, .num 8, .u 1 16, false⟩,
  ⟨0x1B, [(0x40, 0x40)], 0x001, 1, false, .u8, .R, 3, .num 0, .any, false⟩,
  ⟨0x1B, [(0x40, 0x40)], 0x002, 1, false, .u8, .R, 3, .num 0, .any, false⟩]

/-- The object table of class 1C. -/
def rows1C : List ObjRow := [
  ⟨0x1C, [(0x0, 0x23)], 0x000, 1, false, .enum8, .R, 6, .num 0, .any, false⟩,
  ⟨0x1C, [(0x0, 0x23)], 0x001, 1, false, .enum8, .R, 6, .num 0, .any, false⟩,
  ⟨0x1C, [(0x0, 0x23)], 0x002, 1, false, .u8, .R, 4, .num 0xFF, .any, false⟩,
  ⟨0x1C, [(0x0, 0x23)], 0x003, 1, false, .u64, .R, 6, .num 0, .any, false⟩,
  ⟨0x1C, [(0x0, 0x23)], 0x004, 1, false, .tick64, .R, 6, .num 0, .any, false⟩,
  ⟨0x1C, [(0x0, 0x23)], 0x005, 1, false, .u8, .R, 2, .num 0, .any, false⟩,
  ⟨0x1C, [(0x0, 0x23)], 0x006, 1, false, .u16, .R, 2, .num 0, .any, false⟩,
  ⟨0x1C, [(0x0, 0x23)], 0x007, 1, false, .u16, .R, 2, .num 0, .any, false⟩,
  ⟨0x1C, [(0x0, 0x23)], 0x008, 1, false, .bool, .X, 4, .none, .oneOf [1], false⟩,
  ⟨0x1C, [(0x100, 0x101)], 0x000, 1, false, .bool, .SP, 2, .num 1, .u 0 1, false⟩,
  ⟨0x1C, [(0x100, 0x101)], 0x001, 1, false, .u32, .SP, 2, .num 0, .any, false⟩,
  ⟨0x1C, [(0x100, 0x101)], 0x002, 1, false, .u8, .SP, 2, .num 0x18, .u 8 30, false⟩,
  ⟨0x1C, [(0x100, 0x101)], 0x003, 1, false, .u32, .SP, 2, .num 0, .any, false⟩,
  ⟨0x1C, [(0x100, 0x101)], 0x004, 1, false, (.blob 6), .R, 2, .by, .any, false⟩,
  ⟨0x1C, [(0x100, 0x101)], 0x005, 1, false, .enum8, .R, 3, .num 0, .any, false⟩,
  ⟨0x1C, [(0x200, 0x22F)], 0x000, 1, false, .bool, .WP, 4, .num 0, .u 0 1, false⟩,
  ⟨0x1C, [(0x200, 0x22F)], 0x001, 1, false, .enum8, .WP, 4, .num 0, .oneOf [0, 1, 2], false⟩,
  ⟨0x1C, [(0x200, 0x22F)], 0x002, 1, false, (.blob 97), .WP, 4, .fill 0, .any, false⟩,
  ⟨0x1C, [(0x200, 0x22F)], 0x003, 1, false, (.str 32), .WP, 4, .fill 32, .any, false⟩,
  ⟨0x1C, [(0x300, 0x300)], 0x000, 1, false, .u16, .SP, 2, .num 0x1CF2, .u 1024 65535, false⟩,
  ⟨0x1C, [(0x300, 0x300)], 0x001, 1, false, .u32, .SP, 2, .num 0x2710, .u 1000 600000, false⟩,
  ⟨0x1C, [(0x300, 0x300)], 0x002, 1, false, .u32, .SP, 2, .num 0x2710, .u 1000 600000, false⟩,
  ⟨0x1C, [(0x300, 0x300)], 0x003, 1, false, .bool, .SP, 4, .num 0, .u 0 1, false⟩,
  ⟨0x1C, [(0x300, 0x300)], 0x004, 1, false, .u8, .R, 7, .num 0, .any, false⟩,
  ⟨0x1C, [(0x300, 0x300)], 0x005, 1, false, .u64, .R, 4, .num 0, .any, false⟩,
  ⟨0x1C, [(0x300, 0x300)], 0x006, 1, false, .u64, .R, 4, .num 0, .any, false⟩,
  ⟨0x1C, [(0x300, 0x300)], 0x007, 1, false, (.blob 16), .R, 3, .fill 16, .any, false⟩,
  ⟨0x1C, [(0x300, 0x300)], 0x008, 1, false, .u32, .R, 2, .num 0x2000000, .any, false⟩,
  ⟨0x1C, [(0x300, 0x300)], 0x009, 1, false, .u32, .R, 2, .num 0, .any, false⟩,
  ⟨0x1C, [(0x300, 0x300)], 0x00A, 1, false, .bool, .J, 2, .none, .oneOf [1], false⟩,
  ⟨0x1C, [(0x300, 0x300)], 0x00B, 1, false, .u64, .R, 2, .num 0, .any, false⟩,
  ⟨0x1C, [(0x300, 0x300)], 0x00C, 1, false, .bits32, .RW, 6, .num 0, .mask 0x1F, false⟩]

/-- The rows of a class. -/
def classRows (c : Nat) : List ObjRow :=
  match c with
  | 0x00 => rows00
  | 0x01 => rows01
  | 0x02 => rows02
  | 0x03 => rows03
  | 0x04 => rows04
  | 0x05 => rows05
  | 0x06 => rows06
  | 0x07 => rows07
  | 0x08 => rows08
  | 0x09 => rows09
  | 0x0A => rows0A
  | 0x0B => rows0B
  | 0x0C => rows0C
  | 0x0D => rows0D
  | 0x0E => rows0E
  | 0x0F => rows0F
  | 0x10 => rows10
  | 0x11 => rows11
  | 0x12 => rows12
  | 0x13 => rows13
  | 0x14 => rows14
  | 0x15 => rows15
  | 0x16 => rows16
  | 0x17 => rows17
  | 0x18 => rows18
  | 0x19 => rows19
  | 0x1A => rows1A
  | 0x1B => rows1B
  | 0x1C => rows1C
  | _ => []

end Sys2Proof.Machine
end

