-- ==== Sys2Proof/Machine/Formats.lean ====
section
/-! DEFINITION. Video formats, frame rates and line rates (R58, R130, R194 to R199). -/

namespace Sys2Proof.Machine

/-- RASTER of a format code (R197). -/
def fmtRaster (f : Nat) : Nat := field f 15 12

/-- SCAN of a format code (R197): 0 progressive, 1 interlaced, 2 PsF. -/
def fmtScan (f : Nat) : Nat := field f 11 10

/-- SAMPLING of a format code (R197): 0 4:2:2 10-bit, 1 4:4:4 10-bit, 2 4:4:4 12-bit. -/
def fmtSampling (f : Nat) : Nat := field f 9 8

/-- RATE of a format code (R197). -/
def fmtRate (f : Nat) : Nat := field f 7 4

/-- The exact frame rate of a rate code, as a fraction of frames per second; 0 for a reserved code (R197). -/
def rateFrac : Nat → Nat × Nat
  | 1 => (24000, 1001) | 2 => (24, 1) | 3 => (25, 1) | 4 => (30000, 1001) | 5 => (30, 1) | 6 => (50, 1)
  | 7 => (60000, 1001) | 8 => (60, 1) | 9 => (100, 1) | 10 => (120000, 1001) | 11 => (120, 1) | _ => (0, 1)

/-- Whether a rate code is of the fractional family (R130). 29.97 also runs in family 0, for 525-line outputs only (R195). -/
def rateFractional (r : Nat) : Bool := [1, 4, 7, 10].contains r

/-- Active width of a raster (R197). -/
def rasterWidth : Nat → Nat
  | 1 => 720 | 2 => 720 | 3 => 1280 | 4 => 1920 | 5 => 3840 | 6 => 7680 | _ => 0

/-- Active lines of a raster (R197). -/
def rasterLines : Nat → Nat
  | 1 => 486 | 2 => 576 | 3 => 720 | 4 => 1080 | 5 => 2160 | 6 => 4320 | _ => 0

/-- Total lines of a frame of a raster (R58, R196). -/
def rasterTotal : Nat → Nat
  | 1 => 525 | 2 => 625 | 3 => 750 | 4 => 1125 | 5 => 2250 | 6 => 4500 | _ => 0

/-- The line rate code that carries a format (R194, R196): 1 SD to 6 24G; 7 for the group modes; 0 where R196 lists no such
combination. -/
def fmtClass (f : Nat) : Nat :=
  let p := fmtScan f == 0
  let r := fmtRate f
  let plain := fmtSampling f == 0
  if field f 3 0 ≠ 0 ∨ fmtSampling f = 3 ∨ fmtScan f = 3 then 0 else
  match fmtRaster f with
  | 1 => if fmtScan f = 1 ∧ r = 4 ∧ plain then 1 else 0
  | 2 => if fmtScan f = 1 ∧ r = 3 ∧ plain then 1 else 0
  | 3 => if p ∧ 1 ≤ r ∧ r ≤ 8 then (if plain then 2 else 3) else 0
  | 4 =>
    if fmtScan f = 1 then (if 3 ≤ r ∧ r ≤ 5 then (if plain then 2 else 3) else 0)
    else if 1 ≤ r ∧ r ≤ 5 then (if plain then 2 else 3)
    else if ¬ p then 0
    else if 6 ≤ r ∧ r ≤ 8 then (if plain then 3 else 4)
    else if 9 ≤ r ∧ r ≤ 11 ∧ plain then 5 else 0
  | 5 =>
    if ¬ p then 0
    else if 1 ≤ r ∧ r ≤ 5 then (if plain then 4 else 5)
    else if 6 ≤ r ∧ r ≤ 8 then (if plain then 5 else 6)
    else if 9 ≤ r ∧ r ≤ 11 ∧ plain then 6 else 0
  | 6 =>
    if ¬ p then 0
    else if 1 ≤ r ∧ r ≤ 5 then 7
    else if 6 ≤ r ∧ r ≤ 8 ∧ plain then 7 else 0
  | _ => 0

/-- Whether a format code is one of R196. -/
def formatOk (f : Nat) : Bool := fmtClass f != 0

/-- Bits per pixel of a sampling (R1 of the capacity sums, R197). -/
def samplingBits : Nat → Nat
  | 0 => 20 | 1 => 30 | 2 => 36 | _ => 0

/-- Bytes of an active line of a format (R58). -/
def lineBytes (f : Nat) : Nat := rasterWidth (fmtRaster f) * samplingBits (fmtSampling f) / 8

/-- Cells reserved per tick for a video read or write of a format (R58). -/
def cellsPerTick (f : Nat) : Nat :=
  let q := rateFrac (fmtRate f)
  ceilDiv (lineBytes f * rasterTotal (fmtRaster f) * q.1) (24576000 * q.2)

/-- The write reservation of an enabled SDI input of a rate class, or of a group mode, 7 (R196). -/
def classCells : Nat → Nat
  | 1 => 2 | 2 => 7 | 3 => 14 | 4 => 27 | 5 => 53 | 6 => 106 | 7 => 211 | _ => 0

/-- Active lines of a frame, or of a field for interlaced formats (R57, R149). -/
def fmtGroupLines (f : Nat) : Nat := if fmtScan f = 1 then rasterLines (fmtRaster f) / 2 else rasterLines (fmtRaster f)

/-- Line groups of a frame, or of a field for interlaced formats (R57). -/
def lineGroups (f : Nat) : Nat :=
  let l := rasterLines (fmtRaster f)
  ceilDiv (if fmtScan f = 1 then l / 2 else l) 8

/-- Active pixels per second, as a fraction (R68). -/
def pixelRate (f : Nat) : Nat × Nat :=
  let q := rateFrac (fmtRate f)
  (rasterWidth (fmtRaster f) * rasterLines (fmtRaster f) * q.1, q.2)

/-- Bytes of a frame of a format (R41). -/
def frameBytes (f : Nat) : Nat := lineBytes f * rasterLines (fmtRaster f)

/-- A reference sync code of R198. -/
def refSyncOk (n : Nat) : Bool :=
  let r := n % 16
  match n / 16 with
  | 1 => r == 4
  | 2 => r == 3
  | 3 => decide (1 ≤ r ∧ r ≤ 8)
  | 4 => decide (3 ≤ r ∧ r ≤ 5)
  | 5 => decide (1 ≤ r ∧ r ≤ 8)
  | 6 => decide (1 ≤ r ∧ r ≤ 5)
  | _ => false

/-- Period of one frame of a rate code in ps, rounded down; 0 for a reserved code. -/
def framePs (r : Nat) : Nat :=
  let q := rateFrac r
  if q.1 = 0 then 0 else 1000000000000 * q.2 / q.1

/-- The sample rates of the audio ports in Hz, by ACS_RATE code (R131). -/
def acsHz : Nat → Nat
  | 0 => 32000 | 1 => 44100 | 2 => 48000 | 3 => 88200 | 4 => 96000 | 5 => 176400 | 6 => 192000 | _ => 0

end Sys2Proof.Machine
end

