-- ==== Sys2Proof/Machine/Names.lean ====
section
/-! DEFINITION. The numbers of the objects, under the names that the object tables of the spec give them (R516, R555). -/

namespace Sys2Proof.Machine

/-- The key of an object: class, instance, parameter (R516). -/
def obKey (c i p : Nat) : Key := c * 0x1000000 + i * 0x1000 + p

namespace O00
def VENDOR : Key := obKey 0x00 0x000 0x000
def FAMILY : Key := obKey 0x00 0x000 0x001
def PART : Key := obKey 0x00 0x000 0x002
def PART_NAME : Key := obKey 0x00 0x000 0x003
def STEPPING : Key := obKey 0x00 0x000 0x004
def SERIAL : Key := obKey 0x00 0x000 0x005
def BASE_MAC : Key := obKey 0x00 0x000 0x006
def NELOAS_VERSION : Key := obKey 0x00 0x000 0x007
def ROM_VERSION : Key := obKey 0x00 0x000 0x008
def DEVICE_NAME : Key := obKey 0x00 0x000 0x009
def DEVICE_LOCATION : Key := obKey 0x00 0x000 0x00A
def RESET_CAUSE : Key := obKey 0x00 0x000 0x00B
def UPTIME : Key := obKey 0x00 0x000 0x00C
def DIE_TEMP : Key := obKey 0x00 0x000 0x00D
def DIE_TEMP_MAX : Key := obKey 0x00 0x000 0x00E
def TEMP_WARN : Key := obKey 0x00 0x000 0x00F
def PRESENT_CLASSES : Key := obKey 0x00 0x000 0x010
def GENERAL_LANES : Key := obKey 0x00 0x000 0x011
def TRUNK_LANES : Key := obKey 0x00 0x000 0x012
def HBM_STACKS : Key := obKey 0x00 0x000 0x013
def BUSHELS : Key := obKey 0x00 0x000 0x014
def MC_FRC : Key := obKey 0x00 0x000 0x015
def AES3_PORTS : Key := obKey 0x00 0x000 0x016
def MADI_PORTS : Key := obKey 0x00 0x000 0x017
def CUE_ENGINES : Key := obKey 0x00 0x000 0x018
def IP_SENDERS : Key := obKey 0x00 0x000 0x019
def IP_RECEIVERS : Key := obKey 0x00 0x000 0x01A
def MEASURED_KEYS : Key := obKey 0x00 0x000 0x01B
def CAP_FABRIC_SLOTS : Key := obKey 0x00 0x000 0x020
def CAP_LINK_SLOTS : Key := obKey 0x00 0x000 0x021
def CAP_CHAIN_ENTRIES : Key := obKey 0x00 0x000 0x022
def CAP_LINK_ENTRIES : Key := obKey 0x00 0x000 0x023
def CAP_STREAM_IDS : Key := obKey 0x00 0x000 0x024
def CAP_MEMORY_SLOTS : Key := obKey 0x00 0x000 0x025
def CAP_FRAME_MEMORY : Key := obKey 0x00 0x000 0x026
def CAP_GENERAL : Key := obKey 0x00 0x000 0x027
def CAP_PECKS : Key := obKey 0x00 0x000 0x028
def CAP_MATRIX_TERMS : Key := obKey 0x00 0x000 0x029
def CAP_MATRIX_CHANNELS : Key := obKey 0x00 0x000 0x02A
def CAP_DOMAIN : Key := obKey 0x00 0x000 0x02B
def DEVICE_RESET : Key := obKey 0x00 0x000 0x040
def FACTORY_DEFAULT : Key := obKey 0x00 0x000 0x041
def CONFIG_EXPORT : Key := obKey 0x00 0x000 0x050
def CONFIG_IMPORT : Key := obKey 0x00 0x000 0x051
def CONFIG_ADDR : Key := obKey 0x00 0x000 0x052
def DEV_FLAGS : Key := obKey 0x00 0x000 0x060
end O00

namespace O01
def TICK_NOW : Key := obKey 0x01 0x000 0x000
def TIME_VALID : Key := obKey 0x01 0x000 0x001
def TIME_SOURCE : Key := obKey 0x01 0x000 0x002
def TICK_PERIOD : Key := obKey 0x01 0x000 0x003
def PPS_TIME : Key := obKey 0x01 0x000 0x004
def STEP_TIME : Key := obKey 0x01 0x000 0x005
def UTC_OFFSET : Key := obKey 0x01 0x000 0x006
def CHAIN_STATE : Key := obKey 0x01 0x000 0x010
def SHADOW_STATE : Key := obKey 0x01 0x000 0x011
def ACTIVE_BANK : Key := obKey 0x01 0x000 0x012
def LAST_APPLIED : Key := obKey 0x01 0x000 0x013
def APPLY_COUNT : Key := obKey 0x01 0x000 0x014
def ENTRIES_USED : Key := obKey 0x01 0x000 0x015
def LINK_ENTRIES_MAX : Key := obKey 0x01 0x000 0x016
def LAST_REFUSAL : Key := obKey 0x01 0x000 0x017
def SPILL_TICKS : Key := obKey 0x01 0x000 0x020
def SPILL_ENTRIES : Key := obKey 0x01 0x000 0x021
def LAST_SPILL_TICK : Key := obKey 0x01 0x000 0x022
def SPILL_CAUSES : Key := obKey 0x01 0x000 0x023
def LAST_SPILL_STREAMS : Key := obKey 0x01 0x000 0x024
def LAST_SPILL_COUNT : Key := obKey 0x01 0x000 0x025
def SAFE_HOLD_COUNT : Key := obKey 0x01 0x000 0x030
def LAST_SAFE_HOLD : Key := obKey 0x01 0x000 0x031
end O01

namespace O02
def SOURCE_TYPE (i : Nat) : Key := obKey 0x02 i 0x000
def SOURCE_INDEX (i : Nat) : Key := obKey 0x02 i 0x001
def NOMINAL (i : Nat) : Key := obKey 0x02 i 0x002
def QL_CONFIG (i : Nat) : Key := obKey 0x02 i 0x003
def PRIORITY (i : Nat) : Key := obKey 0x02 i 0x004
def QUAL_TIME (i : Nat) : Key := obKey 0x02 i 0x005
def SOFT_WINDOW (i : Nat) : Key := obKey 0x02 i 0x006
def HARD_WINDOW (i : Nat) : Key := obKey 0x02 i 0x007
def BANDWIDTH (i : Nat) : Key := obKey 0x02 i 0x008
def CAND_STATE (i : Nat) : Key := obKey 0x02 i 0x010
def QL (i : Nat) : Key := obKey 0x02 i 0x011
def OUTVOTED (i : Nat) : Key := obKey 0x02 i 0x012
def FREQ_OFFSET (i : Nat) : Key := obKey 0x02 i 0x013
def PHASE_OFFSET (i : Nat) : Key := obKey 0x02 i 0x014
def CAND_FLAGS (i : Nat) : Key := obKey 0x02 i 0x015
def MODE : Key := obKey 0x02 0x010 0x000
def FORCED_CANDIDATE : Key := obKey 0x02 0x010 0x001
def SEL_STATE : Key := obKey 0x02 0x010 0x002
def SELECTED : Key := obKey 0x02 0x010 0x003
def SLOPE : Key := obKey 0x02 0x010 0x004
def MIN_QL : Key := obKey 0x02 0x010 0x005
def AGREE_FREQ : Key := obKey 0x02 0x010 0x006
def AGREE_TIME : Key := obKey 0x02 0x010 0x007
def HOLDOVER_AVG : Key := obKey 0x02 0x010 0x008
def HOLDOVER_SPEC : Key := obKey 0x02 0x010 0x009
def HOLDOVER_QL : Key := obKey 0x02 0x010 0x00A
def CRYSTAL_QL : Key := obKey 0x02 0x010 0x00B
def ACQUIRE_STEP : Key := obKey 0x02 0x010 0x00C
def PULL_WARN : Key := obKey 0x02 0x010 0x00D
def PULL_REMAIN : Key := obKey 0x02 0x010 0x010
def PULL_ETA : Key := obKey 0x02 0x010 0x011
def HOLDOVER_ELAPSED : Key := obKey 0x02 0x010 0x012
def OWN_QL : Key := obKey 0x02 0x010 0x013
def SWITCH_COUNT : Key := obKey 0x02 0x010 0x014
def REALIGN : Key := obKey 0x02 0x010 0x020
def STAB_STATE : Key := obKey 0x02 0x011 0x000
def XTAL_OFFSET : Key := obKey 0x02 0x011 0x001
def PROFILE (i : Nat) : Key := obKey 0x02 i 0x000
def PTP_ROLE (i : Nat) : Key := obKey 0x02 i 0x001
def DOMAIN_NUMBER (i : Nat) : Key := obKey 0x02 i 0x002
def PTP_PORTS (i : Nat) : Key := obKey 0x02 i 0x003
def PRIORITIES (i : Nat) : Key := obKey 0x02 i 0x004
def LOG_INTERVALS (i : Nat) : Key := obKey 0x02 i 0x005
def TWO_STEP (i : Nat) : Key := obKey 0x02 i 0x006
def PARENT_GM (i : Nat) : Key := obKey 0x02 i 0x010
def GM_QUALITY (i : Nat) : Key := obKey 0x02 i 0x011
def OFFSET_FROM_MASTER (i : Nat) : Key := obKey 0x02 i 0x012
def MEAN_PATH_DELAY (i : Nat) : Key := obKey 0x02 i 0x013
def OUT_ENABLE (i : Nat) : Key := obKey 0x02 i 0x000
def OUT_FORMAT (i : Nat) : Key := obKey 0x02 i 0x001
def OUT_SOURCE (i : Nat) : Key := obKey 0x02 i 0x002
def OUT_OFFSET (i : Nat) : Key := obKey 0x02 i 0x003
def SQUELCH (i : Nat) : Key := obKey 0x02 i 0x004
end O02

namespace O03
def PLL_STATE (i : Nat) : Key := obKey 0x03 i 0x000
def PLL_FREQ (i : Nat) : Key := obKey 0x03 i 0x001
def UNLOCK_COUNT (i : Nat) : Key := obKey 0x03 i 0x002
def LAST_UNLOCK (i : Nat) : Key := obKey 0x03 i 0x003
def PLL_FLAGS (i : Nat) : Key := obKey 0x03 i 0x004
def LREF_STATE (i : Nat) : Key := obKey 0x03 i 0x000
def LREF_OFFSET (i : Nat) : Key := obKey 0x03 i 0x001
def VTS_FAMILY (i : Nat) : Key := obKey 0x03 i 0x000
def VTS_FRAME_RATE (i : Nat) : Key := obKey 0x03 i 0x001
def VTS_OFFSET (i : Nat) : Key := obKey 0x03 i 0x002
def VTS_STATE (i : Nat) : Key := obKey 0x03 i 0x003
def ACS_RATE (i : Nat) : Key := obKey 0x03 i 0x000
def ACS_OFFSET (i : Nat) : Key := obKey 0x03 i 0x001
def ACS_STATE (i : Nat) : Key := obKey 0x03 i 0x002
end O03

namespace O04
def CLIENT (i : Nat) : Key := obKey 0x04 i 0x000
def CLIENT_FIRST (i : Nat) : Key := obKey 0x04 i 0x001
def RESERVED_OUT (i : Nat) : Key := obKey 0x04 i 0x002
def RESERVED_IN (i : Nat) : Key := obKey 0x04 i 0x003
def LINK_PEAK_OUT (i : Nat) : Key := obKey 0x04 i 0x004
def LINK_PEAK_IN (i : Nat) : Key := obKey 0x04 i 0x005
def CELLS_OUT (i : Nat) : Key := obKey 0x04 i 0x010
def CELLS_IN (i : Nat) : Key := obKey 0x04 i 0x011
def IDLE_OUT (i : Nat) : Key := obKey 0x04 i 0x012
def CATCHUP_CELLS (i : Nat) : Key := obKey 0x04 i 0x013
def ABANDONED_CELLS (i : Nat) : Key := obKey 0x04 i 0x014
def INVALID_CELLS (i : Nat) : Key := obKey 0x04 i 0x015
def ERROR_CELLS (i : Nat) : Key := obKey 0x04 i 0x016
def PORT_FLAGS (i : Nat) : Key := obKey 0x04 i 0x017
def PORTS_IN_USE : Key := obKey 0x04 0x040 0x000
def STREAMS_ACTIVE : Key := obKey 0x04 0x040 0x001
def SLOTS_PLACED : Key := obKey 0x04 0x040 0x002
def INSPECT_LINK : Key := obKey 0x04 0x040 0x010
def INSPECT_FIRST : Key := obKey 0x04 0x040 0x011
def INSPECT_WINDOW : Key := obKey 0x04 0x040 0x012
def INSPECT_STREAM : Key := obKey 0x04 0x040 0x020
def STREAM_DESC : Key := obKey 0x04 0x040 0x021
end O04

namespace O05
def STACK_STATE (i : Nat) : Key := obKey 0x05 i 0x000
def STACK_TEMP (i : Nat) : Key := obKey 0x05 i 0x001
def REFRESH_RATE (i : Nat) : Key := obKey 0x05 i 0x002
def CHARGE_TICK (i : Nat) : Key := obKey 0x05 i 0x003
def CHARGE_PEAK (i : Nat) : Key := obKey 0x05 i 0x004
def FREE_BYTES (i : Nat) : Key := obKey 0x05 i 0x005
def LARGEST_FREE (i : Nat) : Key := obKey 0x05 i 0x006
def REFRESH_COLLISIONS (i : Nat) : Key := obKey 0x05 i 0x007
def STACK_FLAGS (i : Nat) : Key := obKey 0x05 i 0x008
def CE_COUNT (i : Nat) : Key := obKey 0x05 i 0x000
def UE_COUNT (i : Nat) : Key := obKey 0x05 i 0x001
def RETRY_OK (i : Nat) : Key := obKey 0x05 i 0x002
def LAST_ERROR_ADDR (i : Nat) : Key := obKey 0x05 i 0x003
def LAST_ERROR_PIN (i : Nat) : Key := obKey 0x05 i 0x004
def PIN_CE (i : Nat) : Key := obKey 0x05 i 0x005
def SCRUB_ENABLE : Key := obKey 0x05 0x080 0x000
def SCRUB_DIVIDER : Key := obKey 0x05 0x080 0x001
def SCRUB_PASSES : Key := obKey 0x05 0x080 0x002
def SCRUB_POSITION : Key := obKey 0x05 0x080 0x003
def PIN_CE_LIMIT : Key := obKey 0x05 0x080 0x004
def GENERAL_BYTES : Key := obKey 0x05 0x080 0x005
def GENERAL_FREE : Key := obKey 0x05 0x080 0x006
def SYNC_BYTES : Key := obKey 0x05 0x080 0x007
def MEMTEST : Key := obKey 0x05 0x080 0x008
def INSPECT_SLOT_PORT : Key := obKey 0x05 0x080 0x010
def INSPECT_SLOT_INDEX : Key := obKey 0x05 0x080 0x011
def SLOT_RECORD : Key := obKey 0x05 0x080 0x012
def CLIP_STATE (i : Nat) : Key := obKey 0x05 i 0x000
def CLIP_KIND (i : Nat) : Key := obKey 0x05 i 0x001
def CLIP_FORMAT (i : Nat) : Key := obKey 0x05 i 0x002
def CLIP_UNITS (i : Nat) : Key := obKey 0x05 i 0x003
def CLIP_STACK (i : Nat) : Key := obKey 0x05 i 0x004
def CLIP_ALLOC (i : Nat) : Key := obKey 0x05 i 0x005
def CLIP_RELEASE (i : Nat) : Key := obKey 0x05 i 0x006
def CLIP_BYTES (i : Nat) : Key := obKey 0x05 i 0x007
def CLIP_BASE (i : Nat) : Key := obKey 0x05 i 0x008
def CLIP_LOADED (i : Nat) : Key := obKey 0x05 i 0x009
def CLIP_HOST_ADDR (i : Nat) : Key := obKey 0x05 i 0x00A
def CLIP_RATE (i : Nat) : Key := obKey 0x05 i 0x00B
def CLIP_LOAD (i : Nat) : Key := obKey 0x05 i 0x00C
def CLIP_SAVE (i : Nat) : Key := obKey 0x05 i 0x00D
def CLIP_DAMAGED (i : Nat) : Key := obKey 0x05 i 0x00E
end O05

namespace O06
def IN_ENABLE (i : Nat) : Key := obKey 0x06 i 0x000
def IN_RATE_CLASS (i : Nat) : Key := obKey 0x06 i 0x001
def IN_LINK_MODE (i : Nat) : Key := obKey 0x06 i 0x002
def IN_RATE_FIXED (i : Nat) : Key := obKey 0x06 i 0x003
def IN_SAMPLING_DEFAULT (i : Nat) : Key := obKey 0x06 i 0x004
def IN_COLOUR_DEFAULT (i : Nat) : Key := obKey 0x06 i 0x005
def IN_PID_TRUST (i : Nat) : Key := obKey 0x06 i 0x006
def IN_ANC_DROP (i : Nat) : Key := obKey 0x06 i 0x007
def IN_ANC_BAD (i : Nat) : Key := obKey 0x06 i 0x008
def IN_STATE (i : Nat) : Key := obKey 0x06 i 0x010
def IN_RATE (i : Nat) : Key := obKey 0x06 i 0x011
def IN_FAMILY (i : Nat) : Key := obKey 0x06 i 0x012
def IN_LEVEL (i : Nat) : Key := obKey 0x06 i 0x013
def IN_FORMAT (i : Nat) : Key := obKey 0x06 i 0x014
def IN_COLOUR (i : Nat) : Key := obKey 0x06 i 0x015
def IN_PAYLOAD_ID (i : Nat) : Key := obKey 0x06 i 0x016
def IN_PID_STATE (i : Nat) : Key := obKey 0x06 i 0x017
def IN_FREQ_OFFSET (i : Nat) : Key := obKey 0x06 i 0x018
def IN_SKEW (i : Nat) : Key := obKey 0x06 i 0x019
def CRC_ERR_LINES (i : Nat) : Key := obKey 0x06 i 0x020
def EDH_AP_ERR (i : Nat) : Key := obKey 0x06 i 0x021
def EDH_FF_ERR (i : Nat) : Key := obKey 0x06 i 0x022
def TRS_ERR (i : Nat) : Key := obKey 0x06 i 0x023
def ERRORED_SECONDS (i : Nat) : Key := obKey 0x06 i 0x024
def ANC_CHECKSUM_ERR (i : Nat) : Key := obKey 0x06 i 0x025
def ANC_DROPPED (i : Nat) : Key := obKey 0x06 i 0x026
def FRAMES_IN (i : Nat) : Key := obKey 0x06 i 0x027
def LOCK_LOSSES (i : Nat) : Key := obKey 0x06 i 0x028
def IN_FLAGS (i : Nat) : Key := obKey 0x06 i 0x030
end O06

namespace O07
def OUT_ENABLE (i : Nat) : Key := obKey 0x07 i 0x000
def OUT_FORMAT (i : Nat) : Key := obKey 0x07 i 0x001
def OUT_LINK_MODE (i : Nat) : Key := obKey 0x07 i 0x002
def OUT_3G_LEVEL (i : Nat) : Key := obKey 0x07 i 0x003
def OUT_VTS (i : Nat) : Key := obKey 0x07 i 0x004
def OUT_OFFSET_LINES (i : Nat) : Key := obKey 0x07 i 0x005
def OUT_OFFSET_SAMPLES (i : Nat) : Key := obKey 0x07 i 0x006
def OUT_COLOUR (i : Nat) : Key := obKey 0x07 i 0x007
def LOSS_ACTION (i : Nat) : Key := obKey 0x07 i 0x008
def LOSS_HOLD (i : Nat) : Key := obKey 0x07 i 0x009
def OUT_EDH (i : Nat) : Key := obKey 0x07 i 0x00A
def SYNC_HYST (i : Nat) : Key := obKey 0x07 i 0x00B
def OUT_STATE (i : Nat) : Key := obKey 0x07 i 0x010
def SQUELCH_CAUSE (i : Nat) : Key := obKey 0x07 i 0x011
def SYNC_DELAY (i : Nat) : Key := obKey 0x07 i 0x012
def FRAMES_OUT (i : Nat) : Key := obKey 0x07 i 0x013
def FRAMES_REPEATED (i : Nat) : Key := obKey 0x07 i 0x014
def FRAMES_DROPPED (i : Nat) : Key := obKey 0x07 i 0x015
def FRAMES_SUBST (i : Nat) : Key := obKey 0x07 i 0x016
def OUT_FLAGS (i : Nat) : Key := obKey 0x07 i 0x020
end O07

namespace O08
def VIDEO_ROUTE (i : Nat) : Key := obKey 0x08 i 0x000
def ANC_ROUTE (i : Nat) : Key := obKey 0x08 i 0x001
def ANC_BUDGET (i : Nat) : Key := obKey 0x08 i 0x002
def AUDIO_FOLLOW (i : Nat) : Key := obKey 0x08 i 0x003
def AV_DELAY_MODE (i : Nat) : Key := obKey 0x08 i 0x004
def AV_DELAY (i : Nat) : Key := obKey 0x08 i 0x005
def PROTECT (i : Nat) : Key := obKey 0x08 i 0x006
def ROUTE_STATE (i : Nat) : Key := obKey 0x08 i 0x010
def CURRENT_SOURCE (i : Nat) : Key := obKey 0x08 i 0x011
def PENDING_SOURCE (i : Nat) : Key := obKey 0x08 i 0x012
def LAST_SWITCH (i : Nat) : Key := obKey 0x08 i 0x013
def SOURCE_SYNC (i : Nat) : Key := obKey 0x08 i 0x014
def PATH_DELAY (i : Nat) : Key := obKey 0x08 i 0x015
def AUDIO_DELAY_APPLIED (i : Nat) : Key := obKey 0x08 i 0x016
def SWITCH_COUNT (i : Nat) : Key := obKey 0x08 i 0x017
def SUPERSEDED (i : Nat) : Key := obKey 0x08 i 0x018
def ROUTE_FLAGS (i : Nat) : Key := obKey 0x08 i 0x020
def SALVO_ROUTES (i : Nat) : Key := obKey 0x08 i 0x000
def SALVO_FIRE (i : Nat) : Key := obKey 0x08 i 0x001
def SALVO_LAST_STATUS (i : Nat) : Key := obKey 0x08 i 0x002
def SALVO_LAST_TICK (i : Nat) : Key := obKey 0x08 i 0x003
def ROUTE_SUBMIT : Key := obKey 0x08 0xFFF 0x000
def SWITCHES_PENDING : Key := obKey 0x08 0xFFF 0x001
end O08

namespace O09
def PATH_MODE (i : Nat) : Key := obKey 0x09 i 0x000
def PATH_FUNCS (i : Nat) : Key := obKey 0x09 i 0x001
def FRC_TYPE (i : Nat) : Key := obKey 0x09 i 0x002
def CADENCE (i : Nat) : Key := obKey 0x09 i 0x003
def DEINT_SENSITIVITY (i : Nat) : Key := obKey 0x09 i 0x004
def SCALE_FILTER (i : Nat) : Key := obKey 0x09 i 0x005
def OUT_W (i : Nat) : Key := obKey 0x09 i 0x006
def OUT_H (i : Nat) : Key := obKey 0x09 i 0x007
def CROP_X (i : Nat) : Key := obKey 0x09 i 0x008
def CROP_Y (i : Nat) : Key := obKey 0x09 i 0x009
def CROP_W (i : Nat) : Key := obKey 0x09 i 0x00A
def CROP_H (i : Nat) : Key := obKey 0x09 i 0x00B
def POS_X (i : Nat) : Key := obKey 0x09 i 0x00C
def POS_Y (i : Nat) : Key := obKey 0x09 i 0x00D
def BACKGROUND (i : Nat) : Key := obKey 0x09 i 0x00E
def COLOUR_IN (i : Nat) : Key := obKey 0x09 i 0x00F
def COLOUR_OUT (i : Nat) : Key := obKey 0x09 i 0x010
def MAP_MODE (i : Nat) : Key := obKey 0x09 i 0x011
def SDR_WHITE (i : Nat) : Key := obKey 0x09 i 0x012
def HDR_PEAK (i : Nat) : Key := obKey 0x09 i 0x013
def TARGET_PEAK (i : Nat) : Key := obKey 0x09 i 0x014
def HLG_PEAK (i : Nat) : Key := obKey 0x09 i 0x015
def TONE_MAP (i : Nat) : Key := obKey 0x09 i 0x016
def KNEE_START (i : Nat) : Key := obKey 0x09 i 0x017
def GAMUT_MAP (i : Nat) : Key := obKey 0x09 i 0x018
def LUT_SELECT (i : Nat) : Key := obKey 0x09 i 0x019
def PATH_PRIORITY (i : Nat) : Key := obKey 0x09 i 0x01A
def PATH_READMIT (i : Nat) : Key := obKey 0x09 i 0x01B
def PATH_STATE (i : Nat) : Key := obKey 0x09 i 0x020
def FUNCS_ACTIVE (i : Nat) : Key := obKey 0x09 i 0x021
def PECKS_USED (i : Nat) : Key := obKey 0x09 i 0x022
def PECK_DETAIL (i : Nat) : Key := obKey 0x09 i 0x023
def CONV_LATENCY (i : Nat) : Key := obKey 0x09 i 0x024
def CADENCE_STATE (i : Nat) : Key := obKey 0x09 i 0x025
def MC_FALLBACK_PCT (i : Nat) : Key := obKey 0x09 i 0x026
def GAMUT_CLIPPED (i : Nat) : Key := obKey 0x09 i 0x027
def WORK_BYTES (i : Nat) : Key := obKey 0x09 i 0x028
def PATH_FLAGS (i : Nat) : Key := obKey 0x09 i 0x030
def POOL_PECKS : Key := obKey 0x09 0xA00 0x000
def PECKS_COMMITTED : Key := obKey 0x09 0xA00 0x001
def PECKS_FREE : Key := obKey 0x09 0xA00 0x002
def BUSHELS_IN_SERVICE : Key := obKey 0x09 0xA00 0x003
def MC_PRESENT : Key := obKey 0x09 0xA00 0x004
def PATHS_RUNNING : Key := obKey 0x09 0xA00 0x005
def PATHS_SHED : Key := obKey 0x09 0xA00 0x006
def BUSHEL_STATE (i : Nat) : Key := obKey 0x09 i 0x000
def PECK_MASK (i : Nat) : Key := obKey 0x09 i 0x001
def BUSHEL_ERRORS (i : Nat) : Key := obKey 0x09 i 0x002
def BUSHEL_PATHS (i : Nat) : Key := obKey 0x09 i 0x003
def LUT_STATE (i : Nat) : Key := obKey 0x09 i 0x000
def LUT_HOST_ADDR (i : Nat) : Key := obKey 0x09 i 0x001
def LUT_LOAD (i : Nat) : Key := obKey 0x09 i 0x002
def LUT_CRC (i : Nat) : Key := obKey 0x09 i 0x003
def LUT_NAME (i : Nat) : Key := obKey 0x09 i 0x004
def LUT_USERS (i : Nat) : Key := obKey 0x09 i 0x005
end O09

namespace O0A
def IN_ENABLE (i : Nat) : Key := obKey 0x0A i 0x000
def SRC_MODE (i : Nat) : Key := obKey 0x0A i 0x001
def V_ACTION (i : Nat) : Key := obKey 0x0A i 0x002
def FADE_OUT (i : Nat) : Key := obKey 0x0A i 0x003
def FADE_IN (i : Nat) : Key := obKey 0x0A i 0x004
def IN_STATE (i : Nat) : Key := obKey 0x0A i 0x010
def IN_RATE (i : Nat) : Key := obKey 0x0A i 0x011
def IN_FREQ_OFFSET (i : Nat) : Key := obKey 0x0A i 0x013
def SRC_ACTIVE (i : Nat) : Key := obKey 0x0A i 0x014
def IN_CS (i : Nat) : Key := obKey 0x0A i 0x015
def IN_LATENCY (i : Nat) : Key := obKey 0x0A i 0x016
def PORT_STATE (i : Nat) : Key := obKey 0x0A i 0x017
def PORT_INDEX (i : Nat) : Key := obKey 0x0A i 0x018
def PARITY_ERR (i : Nat) : Key := obKey 0x0A i 0x020
def CS_CRC_ERR (i : Nat) : Key := obKey 0x0A i 0x021
def PREAMBLE_ERR (i : Nat) : Key := obKey 0x0A i 0x022
def UNDERRUNS (i : Nat) : Key := obKey 0x0A i 0x023
def OVERRUNS (i : Nat) : Key := obKey 0x0A i 0x024
def V_SAMPLES (i : Nat) : Key := obKey 0x0A i 0x025
def IN_FLAGS (i : Nat) : Key := obKey 0x0A i 0x030
def OUT_ENABLE (i : Nat) : Key := obKey 0x0A i 0x000
def OUT_ACS (i : Nat) : Key := obKey 0x0A i 0x001
def OUT_WORD (i : Nat) : Key := obKey 0x0A i 0x002
def DITHER (i : Nat) : Key := obKey 0x0A i 0x003
def CS_TEMPLATE (i : Nat) : Key := obKey 0x0A i 0x004
def CS_AUTO (i : Nat) : Key := obKey 0x0A i 0x005
def OUT_V_FAULT (i : Nat) : Key := obKey 0x0A i 0x006
def FADE_OUT_OUT (i : Nat) : Key := obKey 0x0A i 0x008
def FADE_IN_OUT (i : Nat) : Key := obKey 0x0A i 0x009
def OUT_STATE (i : Nat) : Key := obKey 0x0A i 0x010
def PORT_STATE_OUT (i : Nat) : Key := obKey 0x0A i 0x011
def PORT_INDEX_OUT (i : Nat) : Key := obKey 0x0A i 0x012
def OUT_LATENCY (i : Nat) : Key := obKey 0x0A i 0x013
def UNDERRUNS_OUT (i : Nat) : Key := obKey 0x0A i 0x014
def OVERRUNS_OUT (i : Nat) : Key := obKey 0x0A i 0x015
def OUT_FLAGS (i : Nat) : Key := obKey 0x0A i 0x020
def GROUP_MEMBERS (i : Nat) : Key := obKey 0x0A i 0x000
def GROUP_ACS (i : Nat) : Key := obKey 0x0A i 0x001
def RESYNC_MODULUS (i : Nat) : Key := obKey 0x0A i 0x002
def GROUP_STATE (i : Nat) : Key := obKey 0x0A i 0x010
def GROUP_START (i : Nat) : Key := obKey 0x0A i 0x011
def GROUP_STOP (i : Nat) : Key := obKey 0x0A i 0x012
def GROUP_INDEX (i : Nat) : Key := obKey 0x0A i 0x013
def GROUP_START_TICK (i : Nat) : Key := obKey 0x0A i 0x014
def GROUP_FAULTS (i : Nat) : Key := obKey 0x0A i 0x015
def FOLLOW_ENABLE (i : Nat) : Key := obKey 0x0A i 0x000
def FOLLOW_INPUT (i : Nat) : Key := obKey 0x0A i 0x001
def FOLLOW_BW (i : Nat) : Key := obKey 0x0A i 0x002
def FOLLOW_STATE (i : Nat) : Key := obKey 0x0A i 0x010
def FOLLOW_OFFSET (i : Nat) : Key := obKey 0x0A i 0x011
def FOLLOW_ERROR (i : Nat) : Key := obKey 0x0A i 0x012
end O0A

namespace O0B
def IN_ENABLE (i : Nat) : Key := obKey 0x0B i 0x000
def SRC_MODE (i : Nat) : Key := obKey 0x0B i 0x001
def FADE_OUT (i : Nat) : Key := obKey 0x0B i 0x003
def FADE_IN (i : Nat) : Key := obKey 0x0B i 0x004
def IN_STATE (i : Nat) : Key := obKey 0x0B i 0x010
def IN_RATE (i : Nat) : Key := obKey 0x0B i 0x011
def IN_CHANNELS (i : Nat) : Key := obKey 0x0B i 0x012
def IN_FREQ_OFFSET (i : Nat) : Key := obKey 0x0B i 0x013
def SRC_ACTIVE (i : Nat) : Key := obKey 0x0B i 0x014
def IN_LATENCY (i : Nat) : Key := obKey 0x0B i 0x016
def PORT_STATE (i : Nat) : Key := obKey 0x0B i 0x017
def PORT_INDEX (i : Nat) : Key := obKey 0x0B i 0x018
def PARITY_ERR (i : Nat) : Key := obKey 0x0B i 0x020
def CODE_ERR (i : Nat) : Key := obKey 0x0B i 0x022
def UNDERRUNS (i : Nat) : Key := obKey 0x0B i 0x023
def OVERRUNS (i : Nat) : Key := obKey 0x0B i 0x024
def V_SAMPLES (i : Nat) : Key := obKey 0x0B i 0x025
def IN_FLAGS (i : Nat) : Key := obKey 0x0B i 0x030
def OUT_ENABLE (i : Nat) : Key := obKey 0x0B i 0x000
def OUT_ACS (i : Nat) : Key := obKey 0x0B i 0x001
def OUT_WORD (i : Nat) : Key := obKey 0x0B i 0x002
def DITHER (i : Nat) : Key := obKey 0x0B i 0x003
def CS_TEMPLATE (i : Nat) : Key := obKey 0x0B i 0x004
def CS_AUTO (i : Nat) : Key := obKey 0x0B i 0x005
def OUT_V_FAULT (i : Nat) : Key := obKey 0x0B i 0x006
def OUT_CHANNELS (i : Nat) : Key := obKey 0x0B i 0x007
def FADE_OUT_OUT (i : Nat) : Key := obKey 0x0B i 0x008
def FADE_IN_OUT (i : Nat) : Key := obKey 0x0B i 0x009
def OUT_STATE (i : Nat) : Key := obKey 0x0B i 0x010
def PORT_STATE_OUT (i : Nat) : Key := obKey 0x0B i 0x011
def PORT_INDEX_OUT (i : Nat) : Key := obKey 0x0B i 0x012
def OUT_LATENCY (i : Nat) : Key := obKey 0x0B i 0x013
def UNDERRUNS_OUT (i : Nat) : Key := obKey 0x0B i 0x014
def OVERRUNS_OUT (i : Nat) : Key := obKey 0x0B i 0x015
def OUT_FLAGS (i : Nat) : Key := obKey 0x0B i 0x020
end O0B

namespace O0C
def TERM_SRC (i : Nat) (c : Nat) (j : Nat) : Key := obKey 0x0C i (c * 0x100 + 0x000 + j)
def TERM_GAIN (i : Nat) (c : Nat) (j : Nat) : Key := obKey 0x0C i (c * 0x100 + 0x008 + j)
def MUTE (i : Nat) (c : Nat) : Key := obKey 0x0C i (c * 0x100 + 0x010)
def SWITCH_MODE (i : Nat) (c : Nat) : Key := obKey 0x0C i (c * 0x100 + 0x011)
def SWITCH_STATE (i : Nat) (c : Nat) : Key := obKey 0x0C i (c * 0x100 + 0x020)
def DEST_PEAK (i : Nat) (c : Nat) : Key := obKey 0x0C i (c * 0x100 + 0x021)
def DEST_TERMS (i : Nat) (c : Nat) : Key := obKey 0x0C i (c * 0x100 + 0x022)
def SATURATED (i : Nat) (c : Nat) : Key := obKey 0x0C i (c * 0x100 + 0x023)
def ZC_TIMEOUTS (i : Nat) (c : Nat) : Key := obKey 0x0C i (c * 0x100 + 0x024)
def DEST_FLAGS (i : Nat) (c : Nat) : Key := obKey 0x0C i (c * 0x100 + 0x030)
def BLOCK_DELAY (i : Nat) : Key := obKey 0x0C i 0x080
def DELAY_APPLIED (i : Nat) : Key := obKey 0x0C i 0x081
def BLOCK_PHASE (i : Nat) : Key := obKey 0x0C i 0x082
def BLOCK_TERMS (i : Nat) : Key := obKey 0x0C i 0x083
def BLOCK_SINK (i : Nat) : Key := obKey 0x0C i 0x084
def TONE_MODE (i : Nat) : Key := obKey 0x0C i 0x000
def TONE_FREQ (i : Nat) : Key := obKey 0x0C i 0x001
def TONE_LEVEL (i : Nat) : Key := obKey 0x0C i 0x002
def PLAYER_CLIP (i : Nat) : Key := obKey 0x0C i 0x000
def PLAY_LOOP (i : Nat) : Key := obKey 0x0C i 0x001
def PLAY_START (i : Nat) : Key := obKey 0x0C i 0x002
def PLAY_STOP (i : Nat) : Key := obKey 0x0C i 0x003
def PLAYER_STATE (i : Nat) : Key := obKey 0x0C i 0x010
def PLAY_POSITION (i : Nat) : Key := obKey 0x0C i 0x011
def MATRIX_RATE : Key := obKey 0x0C 0x600 0x000
def RATE_ACTIVE : Key := obKey 0x0C 0x600 0x001
def MATRIX_CHANNELS : Key := obKey 0x0C 0x600 0x002
def TERMS_CAPACITY : Key := obKey 0x0C 0x600 0x003
def TERMS_COMMITTED : Key := obKey 0x0C 0x600 0x004
def PHASE_TERMS : Key := obKey 0x0C 0x600 0x005
def GAIN_RAMP : Key := obKey 0x0C 0x600 0x006
def ZC_WINDOW : Key := obKey 0x0C 0x600 0x007
def ZC_TIMEOUT : Key := obKey 0x0C 0x600 0x008
def XFADE_LEN : Key := obKey 0x0C 0x600 0x009
def TONE_COUNT : Key := obKey 0x0C 0x600 0x00A
def PLAYER_COUNT : Key := obKey 0x0C 0x600 0x00B
def SOURCE_PEAK (i : Nat) (c : Nat) : Key := obKey 0x0C i (c * 0x100 + 0x000)
def SOURCE_STATE (i : Nat) (c : Nat) : Key := obKey 0x0C i (c * 0x100 + 0x001)
def DEEMB_SRC_MODE (i : Nat) : Key := obKey 0x0C i 0x000
def DEEMB_GROUPS (i : Nat) : Key := obKey 0x0C i 0x010
def DEEMB_SRC_ACTIVE (i : Nat) : Key := obKey 0x0C i 0x011
def ECC_CORRECTED (i : Nat) : Key := obKey 0x0C i 0x012
def ECC_FAILED (i : Nat) : Key := obKey 0x0C i 0x013
def DEEMB_STATE (i : Nat) : Key := obKey 0x0C i 0x014
def DEEMB_FLAGS (i : Nat) : Key := obKey 0x0C i 0x020
def EMBED_GROUPS (i : Nat) : Key := obKey 0x0C i 0x000
def EMBED_STATE (i : Nat) : Key := obKey 0x0C i 0x010
def AUDIO_FRAME (i : Nat) : Key := obKey 0x0C i 0x011
def ANC_DISPLACED (i : Nat) : Key := obKey 0x0C i 0x012
end O0C

namespace O0D
def SEND_ENABLE (i : Nat) : Key := obKey 0x0D i 0x000
def ESSENCE (i : Nat) : Key := obKey 0x0D i 0x001
def SEND_FORMAT (i : Nat) : Key := obKey 0x0D i 0x002
def SEND_COLOUR (i : Nat) : Key := obKey 0x0D i 0x003
def AUDIO_LEVEL (i : Nat) : Key := obKey 0x0D i 0x004
def CHANNEL_BASE (i : Nat) : Key := obKey 0x0D i 0x005
def CHANNEL_COUNT (i : Nat) : Key := obKey 0x0D i 0x006
def SEND_PATH_A (i : Nat) : Key := obKey 0x0D i 0x007
def SEND_PATH_B (i : Nat) : Key := obKey 0x0D i 0x008
def SEND_DEST_A (i : Nat) : Key := obKey 0x0D i 0x009
def SEND_DEST_B (i : Nat) : Key := obKey 0x0D i 0x00A
def SEND_UDP (i : Nat) : Key := obKey 0x0D i 0x00B
def SEND_PT (i : Nat) : Key := obKey 0x0D i 0x00C
def SEND_SSRC (i : Nat) : Key := obKey 0x0D i 0x00D
def SEND_MARKING (i : Nat) : Key := obKey 0x0D i 0x00E
def SENDER_TYPE (i : Nat) : Key := obKey 0x0D i 0x00F
def SEND_TRO (i : Nat) : Key := obKey 0x0D i 0x010
def SEND_PAYLOAD (i : Nat) : Key := obKey 0x0D i 0x011
def SEND_STATE (i : Nat) : Key := obKey 0x0D i 0x020
def SEND_RATE (i : Nat) : Key := obKey 0x0D i 0x021
def PACKETS_SENT (i : Nat) : Key := obKey 0x0D i 0x022
def SEND_MACS (i : Nat) : Key := obKey 0x0D i 0x023
def SEND_FLAGS (i : Nat) : Key := obKey 0x0D i 0x030
end O0D

namespace O0E
def RX_ENABLE (i : Nat) : Key := obKey 0x0E i 0x000
def ESSENCE (i : Nat) : Key := obKey 0x0E i 0x001
def RX_FORMAT (i : Nat) : Key := obKey 0x0E i 0x002
def RX_COLOUR (i : Nat) : Key := obKey 0x0E i 0x003
def CHANNEL_BASE (i : Nat) : Key := obKey 0x0E i 0x004
def CHANNEL_COUNT (i : Nat) : Key := obKey 0x0E i 0x005
def RX_PATH_A (i : Nat) : Key := obKey 0x0E i 0x006
def RX_PATH_B (i : Nat) : Key := obKey 0x0E i 0x007
def RX_GROUPS (i : Nat) : Key := obKey 0x0E i 0x008
def RX_SOURCES (i : Nat) : Key := obKey 0x0E i 0x009
def RX_UDP (i : Nat) : Key := obKey 0x0E i 0x00A
def RX_PT (i : Nat) : Key := obKey 0x0E i 0x00B
def MERGE_WINDOW (i : Nat) : Key := obKey 0x0E i 0x00C
def RX_LOSS_FILL (i : Nat) : Key := obKey 0x0E i 0x00D
def LINK_OFFSET (i : Nat) : Key := obKey 0x0E i 0x00E
def PATH_TIMEOUT (i : Nat) : Key := obKey 0x0E i 0x00F
def RX_AUDIO_ASSOC (i : Nat) : Key := obKey 0x0E i 0x010
def RX_ANC_ASSOC (i : Nat) : Key := obKey 0x0E i 0x011
def RX_DATA_CELLS (i : Nat) : Key := obKey 0x0E i 0x012
def RX_STATE (i : Nat) : Key := obKey 0x0E i 0x020
def PATH_STATES (i : Nat) : Key := obKey 0x0E i 0x021
def LOST_AB (i : Nat) : Key := obKey 0x0E i 0x022
def UNRECOVERED (i : Nat) : Key := obKey 0x0E i 0x023
def LATE_PACKETS (i : Nat) : Key := obKey 0x0E i 0x024
def EARLY (i : Nat) : Key := obKey 0x0E i 0x025
def WRONG_PT (i : Nat) : Key := obKey 0x0E i 0x026
def SKEW (i : Nat) : Key := obKey 0x0E i 0x027
def DROPS (i : Nat) : Key := obKey 0x0E i 0x028
def RX_FLAGS (i : Nat) : Key := obKey 0x0E i 0x030
end O0E

namespace O0F
def PORT_MODE (i : Nat) : Key := obKey 0x0F i 0x000
def FEC_MODE (i : Nat) : Key := obKey 0x0F i 0x001
def LINK_STATE (i : Nat) : Key := obKey 0x0F i 0x002
def PVID (i : Nat) : Key := obKey 0x0F i 0x003
def ACCEPT (i : Nat) : Key := obKey 0x0F i 0x004
def INGRESS_FILTER (i : Nat) : Key := obKey 0x0F i 0x005
def DEFAULT_PCP (i : Nat) : Key := obKey 0x0F i 0x006
def STP_STATE (i : Nat) : Key := obKey 0x0F i 0x007
def ESMC_TX (i : Nat) : Key := obKey 0x0F i 0x008
def TS_INGRESS_ADJ (i : Nat) : Key := obKey 0x0F i 0x009
def TS_EGRESS_ADJ (i : Nat) : Key := obKey 0x0F i 0x00A
def MEDIA_SHARE (i : Nat) : Key := obKey 0x0F i 0x00B
def MACSEC_MODE (i : Nat) : Key := obKey 0x0F i 0x010
def MACSEC_CIPHER (i : Nat) : Key := obKey 0x0F i 0x011
def MACSEC_OFFSET (i : Nat) : Key := obKey 0x0F i 0x012
def REPLAY_WINDOW (i : Nat) : Key := obKey 0x0F i 0x013
def MACSEC_SA (i : Nat) : Key := obKey 0x0F i 0x014
def MACSEC_TX_AN (i : Nat) : Key := obKey 0x0F i 0x015
def TX_PN (i : Nat) : Key := obKey 0x0F i 0x016
def FRAMES_IO (i : Nat) : Key := obKey 0x0F i 0x020
def FCS_ERR (i : Nat) : Key := obKey 0x0F i 0x021
def FEC_COUNTS (i : Nat) : Key := obKey 0x0F i 0x022
def DROPS (i : Nat) : Key := obKey 0x0F i 0x023
def PAUSE_RX (i : Nat) : Key := obKey 0x0F i 0x024
def MACSEC_DROPS (i : Nat) : Key := obKey 0x0F i 0x025
def MACSEC_REPLAY (i : Nat) : Key := obKey 0x0F i 0x026
def PORT_FLAGS (i : Nat) : Key := obKey 0x0F i 0x030
def IF_ENABLE (i : Nat) : Key := obKey 0x0F i 0x000
def IF_ADDR (i : Nat) : Key := obKey 0x0F i 0x001
def IF_PREFIX (i : Nat) : Key := obKey 0x0F i 0x002
def IF_VID (i : Nat) : Key := obKey 0x0F i 0x003
def IF_GATEWAY (i : Nat) : Key := obKey 0x0F i 0x004
def VLAN_WRITE : Key := obKey 0x0F 0x200 0x000
def FDB_STATIC_WRITE : Key := obKey 0x0F 0x200 0x001
def MCAST_WRITE : Key := obKey 0x0F 0x200 0x002
def TABLE_QUERY : Key := obKey 0x0F 0x200 0x003
def TABLE_RESULT : Key := obKey 0x0F 0x200 0x004
def FDB_FLUSH : Key := obKey 0x0F 0x200 0x005
def AGEING_TIME : Key := obKey 0x0F 0x200 0x006
def MEDIA_TCS : Key := obKey 0x0F 0x200 0x007
def QUEUE_LIMIT : Key := obKey 0x0F 0x200 0x008
def TRAP_FRAME : Key := obKey 0x0F 0x200 0x009
def TRAP_SEND : Key := obKey 0x0F 0x200 0x00A
def IP_LAST_REFUSAL : Key := obKey 0x0F 0x200 0x00B
def FDB_FULL : Key := obKey 0x0F 0x200 0x00C
end O0F

namespace O10
def SF_ENABLE (i : Nat) : Key := obKey 0x10 i 0x000
def SF_MATCH (i : Nat) : Key := obKey 0x10 i 0x001
def MAX_SDU (i : Nat) : Key := obKey 0x10 i 0x002
def POL_ENABLE (i : Nat) : Key := obKey 0x10 i 0x003
def POL_RATE (i : Nat) : Key := obKey 0x10 i 0x004
def POL_BURST (i : Nat) : Key := obKey 0x10 i 0x005
def SH_ENABLE (i : Nat) : Key := obKey 0x10 i 0x006
def SH_PORT (i : Nat) : Key := obKey 0x10 i 0x007
def SH_RATE (i : Nat) : Key := obKey 0x10 i 0x008
def SH_BURST (i : Nat) : Key := obKey 0x10 i 0x009
def SH_QLIMIT (i : Nat) : Key := obKey 0x10 i 0x00A
def SF_FRAMES (i : Nat) : Key := obKey 0x10 i 0x010
def POL_DROPS (i : Nat) : Key := obKey 0x10 i 0x011
def SDU_DROPS (i : Nat) : Key := obKey 0x10 i 0x012
def SH_LEVEL (i : Nat) : Key := obKey 0x10 i 0x013
def SH_QUEUED (i : Nat) : Key := obKey 0x10 i 0x014
def SH_DROPS (i : Nat) : Key := obKey 0x10 i 0x015
def SH_ELIGIBLE (i : Nat) : Key := obKey 0x10 i 0x016
def SF_FLAGS (i : Nat) : Key := obKey 0x10 i 0x020
def CBS_A_TC (i : Nat) : Key := obKey 0x10 i 0x000
def CBS_A_IDLE (i : Nat) : Key := obKey 0x10 i 0x001
def CBS_B_TC (i : Nat) : Key := obKey 0x10 i 0x002
def CBS_B_IDLE (i : Nat) : Key := obKey 0x10 i 0x003
def GATE_ENABLE (i : Nat) : Key := obKey 0x10 i 0x004
def ADMIN_LIST (i : Nat) : Key := obKey 0x10 i 0x005
def ADMIN_BASE (i : Nat) : Key := obKey 0x10 i 0x006
def ADMIN_CYCLE (i : Nat) : Key := obKey 0x10 i 0x007
def OPER_STATE (i : Nat) : Key := obKey 0x10 i 0x010
def OPER_BASE (i : Nat) : Key := obKey 0x10 i 0x011
def GATE_STATES (i : Nat) : Key := obKey 0x10 i 0x012
def CBS_CREDIT (i : Nat) : Key := obKey 0x10 i 0x013
def GUARD_HELD (i : Nat) : Key := obKey 0x10 i 0x014
def GATE_OVERSIZE (i : Nat) : Key := obKey 0x10 i 0x015
def PACE_LATE (i : Nat) : Key := obKey 0x10 i 0x016
def PACE_LATE_MAX (i : Nat) : Key := obKey 0x10 i 0x017
def PORT_SH_FLAGS (i : Nat) : Key := obKey 0x10 i 0x020
def OVERFLOW_USED : Key := obKey 0x10 0x900 0x000
def PACE_SENDER : Key := obKey 0x10 0x900 0x001
def PACE_INFO : Key := obKey 0x10 0x900 0x002
end O10

namespace O11
def LANE_MODE (i : Nat) : Key := obKey 0x11 i 0x000
def LANE_LREF (i : Nat) : Key := obKey 0x11 i 0x001
def TX_INVERT (i : Nat) : Key := obKey 0x11 i 0x002
def RX_INVERT (i : Nat) : Key := obKey 0x11 i 0x003
def TX_TAPS (i : Nat) : Key := obKey 0x11 i 0x004
def TX_SWING (i : Nat) : Key := obKey 0x11 i 0x005
def EQ_MODE (i : Nat) : Key := obKey 0x11 i 0x006
def CTLE_PEAK (i : Nat) : Key := obKey 0x11 i 0x007
def DFE_TAPS (i : Nat) : Key := obKey 0x11 i 0x008
def TEST_RATE (i : Nat) : Key := obKey 0x11 i 0x009
def LOOPBACK (i : Nat) : Key := obKey 0x11 i 0x00A
def PRBS_GEN (i : Nat) : Key := obKey 0x11 i 0x00B
def PRBS_CHK (i : Nat) : Key := obKey 0x11 i 0x00C
def WINDOW_TICKS (i : Nat) : Key := obKey 0x11 i 0x00D
def BER_LIMIT (i : Nat) : Key := obKey 0x11 i 0x00E
def CHK_RESTART (i : Nat) : Key := obKey 0x11 i 0x00F
def EYE_DWELL (i : Nat) : Key := obKey 0x11 i 0x010
def EYE_MAP_ADDR (i : Nat) : Key := obKey 0x11 i 0x011
def EYE_SCAN (i : Nat) : Key := obKey 0x11 i 0x012
def TX_STATE (i : Nat) : Key := obKey 0x11 i 0x020
def RX_STATE (i : Nat) : Key := obKey 0x11 i 0x021
def LANE_RATE (i : Nat) : Key := obKey 0x11 i 0x022
def RATE_OFFSET (i : Nat) : Key := obKey 0x11 i 0x023
def CTLE_NOW (i : Nat) : Key := obKey 0x11 i 0x024
def DFE_NOW (i : Nat) : Key := obKey 0x11 i 0x025
def CHK_STATE (i : Nat) : Key := obKey 0x11 i 0x026
def ERR_BITS (i : Nat) : Key := obKey 0x11 i 0x027
def TOTAL_BITS (i : Nat) : Key := obKey 0x11 i 0x028
def WIN_ERR (i : Nat) : Key := obKey 0x11 i 0x029
def WIN_BITS (i : Nat) : Key := obKey 0x11 i 0x02A
def SYNC_LOSSES (i : Nat) : Key := obKey 0x11 i 0x02B
def RX_LOCK_LOSSES (i : Nat) : Key := obKey 0x11 i 0x02C
def FILLER_DELETED (i : Nat) : Key := obKey 0x11 i 0x02D
def FILLER_INSERTED (i : Nat) : Key := obKey 0x11 i 0x02E
def ELASTIC_SLIPS (i : Nat) : Key := obKey 0x11 i 0x02F
def ELASTIC_FILL (i : Nat) : Key := obKey 0x11 i 0x030
def EYE_RESULT (i : Nat) : Key := obKey 0x11 i 0x031
def LANE_FLAGS (i : Nat) : Key := obKey 0x11 i 0x032
end O11

namespace O12
def FURLONG_ENABLE (i : Nat) : Key := obKey 0x12 i 0x000
def TRUNK_SECURE (i : Nat) : Key := obKey 0x12 i 0x001
def TRUNK_KEY (i : Nat) : Key := obKey 0x12 i 0x002
def TRUNK_TX_KEY (i : Nat) : Key := obKey 0x12 i 0x003
def TRUNK_ASYM (i : Nat) : Key := obKey 0x12 i 0x004
def FURLONG_STATE (i : Nat) : Key := obKey 0x12 i 0x010
def PEER_DEVICE (i : Nat) : Key := obKey 0x12 i 0x011
def PEER_LANE (i : Nat) : Key := obKey 0x12 i 0x012
def FURLONG_DELAY (i : Nat) : Key := obKey 0x12 i 0x013
def MEDIA_HOP (i : Nat) : Key := obKey 0x12 i 0x014
def BEACON_HOP (i : Nat) : Key := obKey 0x12 i 0x015
def MEDIA_CELLS (i : Nat) : Key := obKey 0x12 i 0x016
def MEDIA_CAPACITY (i : Nat) : Key := obKey 0x12 i 0x017
def CELLS_IO (i : Nat) : Key := obKey 0x12 i 0x018
def HEC_CORRECTED (i : Nat) : Key := obKey 0x12 i 0x019
def HEC_ERRORS (i : Nat) : Key := obKey 0x12 i 0x01A
def PCRC_ERRORS (i : Nat) : Key := obKey 0x12 i 0x01B
def SEAL_FAILURES (i : Nat) : Key := obKey 0x12 i 0x01C
def BEACONS_MISSED (i : Nat) : Key := obKey 0x12 i 0x01D
def RELAY_CELLS (i : Nat) : Key := obKey 0x12 i 0x01E
def RELAY_DROPS (i : Nat) : Key := obKey 0x12 i 0x01F
def TRUNK_FLAGS (i : Nat) : Key := obKey 0x12 i 0x020
end O12

namespace O13
def DOMAIN_ENABLE : Key := obKey 0x13 0x000 0x000
def DOMAIN_ID : Key := obKey 0x13 0x000 0x001
def DEVICE_ID : Key := obKey 0x13 0x000 0x002
def MASTER_PRIORITY : Key := obKey 0x13 0x000 0x003
def ROLE : Key := obKey 0x13 0x000 0x004
def TOPOLOGY : Key := obKey 0x13 0x000 0x005
def DOMAIN_LEAD : Key := obKey 0x13 0x000 0x006
def FORM_WAIT : Key := obKey 0x13 0x000 0x007
def PATH_REPAIR : Key := obKey 0x13 0x000 0x008
def COMMIT_MODE : Key := obKey 0x13 0x000 0x009
def DOMAIN_STATE : Key := obKey 0x13 0x000 0x010
def MASTER_DEVICE : Key := obKey 0x13 0x000 0x011
def BACKUP_DEVICE : Key := obKey 0x13 0x000 0x012
def DOMAIN_EPOCH : Key := obKey 0x13 0x000 0x013
def LAST_EPOCH : Key := obKey 0x13 0x000 0x014
def DOMAIN_HOPS : Key := obKey 0x13 0x000 0x015
def BEACON_AGE : Key := obKey 0x13 0x000 0x016
def DOMAIN_SIZE : Key := obKey 0x13 0x000 0x017
def MISSED_BEACONS : Key := obKey 0x13 0x000 0x018
def DOMAIN_LEAD_MIN : Key := obKey 0x13 0x000 0x019
def HASH_RESEEDS : Key := obKey 0x13 0x000 0x01A
def MASTER_HANDOVER : Key := obKey 0x13 0x000 0x01B
def DOMAIN_FLAGS : Key := obKey 0x13 0x000 0x01C
def RESYNC : Key := obKey 0x13 0x000 0x020
def RESULT_EPOCH : Key := obKey 0x13 0x000 0x021
def RESULT_MAP : Key := obKey 0x13 0x000 0x022
def MEMBER_STATE (i : Nat) : Key := obKey 0x13 i 0x000
def MEMBER_VARIANT (i : Nat) : Key := obKey 0x13 i 0x001
def MEMBER_HOPS (i : Nat) : Key := obKey 0x13 i 0x002
def MEMBER_LAST_EPOCH (i : Nat) : Key := obKey 0x13 i 0x003
end O13

namespace O14
def CE_ENABLE (i : Nat) : Key := obKey 0x14 i 0x000
def CE_ROLE (i : Nat) : Key := obKey 0x14 i 0x001
def CE_REC_INDEX (i : Nat) : Key := obKey 0x14 i 0x002
def CE_REC (i : Nat) : Key := obKey 0x14 i 0x003
def CUE_FLAGS (i : Nat) : Key := obKey 0x14 i 0x004
def CUE_FIRE (i : Nat) : Key := obKey 0x14 i 0x005
def CE_REARM (i : Nat) : Key := obKey 0x14 i 0x006
def CE_STATE (i : Nat) : Key := obKey 0x14 i 0x010
def RECORDS_ENABLED (i : Nat) : Key := obKey 0x14 i 0x011
def FIRED (i : Nat) : Key := obKey 0x14 i 0x012
def ACTIONS (i : Nat) : Key := obKey 0x14 i 0x013
def DEFERRED (i : Nat) : Key := obKey 0x14 i 0x014
def QUEUE_DEPTH (i : Nat) : Key := obKey 0x14 i 0x015
def QUEUE_DROPS (i : Nat) : Key := obKey 0x14 i 0x016
def ACTION_ERRORS (i : Nat) : Key := obKey 0x14 i 0x017
def LAST_ERROR (i : Nat) : Key := obKey 0x14 i 0x018
def CE_STATUS (i : Nat) : Key := obKey 0x14 i 0x020
end O14

namespace O15
def UNIV_ENABLE (i : Nat) : Key := obKey 0x15 i 0x000
def UNIV_NUMBER (i : Nat) : Key := obKey 0x15 i 0x001
def UNIV_SLOTS (i : Nat) : Key := obKey 0x15 i 0x002
def UNIV_LOSS (i : Nat) : Key := obKey 0x15 i 0x003
def UNIV_DMX_IN (i : Nat) : Key := obKey 0x15 i 0x004
def DMX_IN_PRIORITY (i : Nat) : Key := obKey 0x15 i 0x005
def UNIV_TX_SENDER (i : Nat) : Key := obKey 0x15 i 0x006
def TX_PRIORITY (i : Nat) : Key := obKey 0x15 i 0x007
def TX_PERIOD (i : Nat) : Key := obKey 0x15 i 0x008
def UNIV_STATE (i : Nat) : Key := obKey 0x15 i 0x010
def UNIV_SOURCES (i : Nat) : Key := obKey 0x15 i 0x011
def WINNING_PRIORITY (i : Nat) : Key := obKey 0x15 i 0x012
def UNIV_LEVELS (i : Nat) : Key := obKey 0x15 i 0x013
def UNIV_MERGED (i : Nat) : Key := obKey 0x15 i 0x014
def OVERRIDES (i : Nat) : Key := obKey 0x15 i 0x015
def PKTS_IN (i : Nat) : Key := obKey 0x15 i 0x016
def PKTS_DISCARDED (i : Nat) : Key := obKey 0x15 i 0x017
def PKTS_OUT (i : Nat) : Key := obKey 0x15 i 0x018
def UNIV_FLAGS (i : Nat) : Key := obKey 0x15 i 0x020
def DMX_MODE (i : Nat) : Key := obKey 0x15 i 0x000
def DMX_UNIVERSE (i : Nat) : Key := obKey 0x15 i 0x001
def DMX_BREAK (i : Nat) : Key := obKey 0x15 i 0x002
def DMX_MAB (i : Nat) : Key := obKey 0x15 i 0x003
def DMX_PERIOD (i : Nat) : Key := obKey 0x15 i 0x004
def DMX_PHASE (i : Nat) : Key := obKey 0x15 i 0x005
def DMX_LOSS (i : Nat) : Key := obKey 0x15 i 0x006
def DMX_STATE (i : Nat) : Key := obKey 0x15 i 0x010
def DMX_RX_SLOTS (i : Nat) : Key := obKey 0x15 i 0x011
def DMX_PACKETS (i : Nat) : Key := obKey 0x15 i 0x012
def DMX_ERRORS (i : Nat) : Key := obKey 0x15 i 0x013
def DMX_FLAGS (i : Nat) : Key := obKey 0x15 i 0x014
def SACN_CID : Key := obKey 0x15 0x500 0x000
def SACN_NAME : Key := obKey 0x15 0x500 0x001
def DISC_SENDER : Key := obKey 0x15 0x500 0x002
def DISC_COUNT : Key := obKey 0x15 0x500 0x003
def DISC_INDEX : Key := obKey 0x15 0x500 0x004
def DISC_ENTRY : Key := obKey 0x15 0x500 0x005
end O15

namespace O16
def TC_ENABLE (i : Nat) : Key := obKey 0x16 i 0x000
def TC_SOURCE (i : Nat) : Key := obKey 0x16 i 0x001
def TC_ATC_TYPE (i : Nat) : Key := obKey 0x16 i 0x002
def TC_RATE (i : Nat) : Key := obKey 0x16 i 0x003
def FREEWHEEL_FRAMES (i : Nat) : Key := obKey 0x16 i 0x004
def TC_STATE (i : Nat) : Key := obKey 0x16 i 0x010
def TC_VALUE (i : Nat) : Key := obKey 0x16 i 0x011
def TC_USER (i : Nat) : Key := obKey 0x16 i 0x012
def TC_TICK (i : Nat) : Key := obKey 0x16 i 0x013
def TC_SPEED (i : Nat) : Key := obKey 0x16 i 0x014
def TC_BITS (i : Nat) : Key := obKey 0x16 i 0x015
def TC_FLAGS (i : Nat) : Key := obKey 0x16 i 0x020
def GEN_MODE (i : Nat) : Key := obKey 0x16 i 0x000
def GEN_RATE (i : Nat) : Key := obKey 0x16 i 0x001
def GEN_VTS (i : Nat) : Key := obKey 0x16 i 0x002
def GEN_OFFSET (i : Nat) : Key := obKey 0x16 i 0x003
def GEN_PRESET (i : Nat) : Key := obKey 0x16 i 0x004
def GEN_FOLLOW (i : Nat) : Key := obKey 0x16 i 0x005
def GEN_TZ (i : Nat) : Key := obKey 0x16 i 0x006
def GEN_USER (i : Nat) : Key := obKey 0x16 i 0x007
def GEN_RUN (i : Nat) : Key := obKey 0x16 i 0x008
def GEN_STATE (i : Nat) : Key := obKey 0x16 i 0x010
def GEN_VALUE (i : Nat) : Key := obKey 0x16 i 0x011
def GPIO_MODE (i : Nat) : Key := obKey 0x16 i 0x000
def GPIO_DRIVE (i : Nat) : Key := obKey 0x16 i 0x001
def GPIO_INVERT (i : Nat) : Key := obKey 0x16 i 0x002
def GPIO_DEBOUNCE (i : Nat) : Key := obKey 0x16 i 0x003
def GPIO_EVENT (i : Nat) : Key := obKey 0x16 i 0x004
def GPIO_SET (i : Nat) : Key := obKey 0x16 i 0x005
def TALLY_SOURCE (i : Nat) : Key := obKey 0x16 i 0x006
def TALLY_DESTS (i : Nat) : Key := obKey 0x16 i 0x007
def GPIO_LEVEL (i : Nat) : Key := obKey 0x16 i 0x010
def GPIO_EDGE_TICK (i : Nat) : Key := obKey 0x16 i 0x011
def GPIO_EDGES (i : Nat) : Key := obKey 0x16 i 0x012
end O16

namespace O17
def REMAP : Key := obKey 0x17 0x000 0x000
def FROZEN_MASTERS : Key := obKey 0x17 0x000 0x001
def FROZEN_ENGINES : Key := obKey 0x17 0x000 0x002
def AGE_LIMIT : Key := obKey 0x17 0x000 0x003
def DECODE_ERRORS : Key := obKey 0x17 0x000 0x004
def VIOLATIONS : Key := obKey 0x17 0x000 0x005
def REGIONS_LOCKED : Key := obKey 0x17 0x000 0x006
def REGION_INDEX : Key := obKey 0x17 0x000 0x007
def REGION_DESC : Key := obKey 0x17 0x000 0x008
def LAST_VIOLATION : Key := obKey 0x17 0x000 0x009
def LAST_DECODE : Key := obKey 0x17 0x000 0x00A
def UNFREEZE : Key := obKey 0x17 0x000 0x020
def MATRIX_FLAGS : Key := obKey 0x17 0x000 0x021
def MASTER_STATE (i : Nat) : Key := obKey 0x17 i 0x000
def MASTER_PRIO (i : Nat) : Key := obKey 0x17 i 0x001
def QOS_LAST (i : Nat) : Key := obKey 0x17 i 0x002
def TRANSACTIONS (i : Nat) : Key := obKey 0x17 i 0x003
def ERROR_RESPONSES (i : Nat) : Key := obKey 0x17 i 0x004
def FREEZE_COUNT (i : Nat) : Key := obKey 0x17 i 0x005
def WAIT_MAX (i : Nat) : Key := obKey 0x17 i 0x006
def AGED_GRANTS (i : Nat) : Key := obKey 0x17 i 0x007
def GRANTS (i : Nat) : Key := obKey 0x17 i 0x000
def BEATS (i : Nat) : Key := obKey 0x17 i 0x001
def PARKED (i : Nat) : Key := obKey 0x17 i 0x002
def TARGET_ERRORS (i : Nat) : Key := obKey 0x17 i 0x003
def DMA_STATE (i : Nat) : Key := obKey 0x17 i 0x000
def DMA_BYTES (i : Nat) : Key := obKey 0x17 i 0x001
def DMA_ERRORS (i : Nat) : Key := obKey 0x17 i 0x002
end O17

namespace O18
def LC_STATE : Key := obKey 0x18 0x000 0x000
def LC_COUNT : Key := obKey 0x18 0x000 0x001
def LC_TRANSITION : Key := obKey 0x18 0x000 0x002
def SERVICE_TOKEN : Key := obKey 0x18 0x000 0x003
def BOOT_SOURCE : Key := obKey 0x18 0x000 0x004
def TRIAL_STATE : Key := obKey 0x18 0x000 0x005
def TRIAL_TRIES : Key := obKey 0x18 0x000 0x006
def SLOT_VERSION : Key := obKey 0x18 0x000 0x007
def SLOT_SVN : Key := obKey 0x18 0x000 0x008
def SVN_OTP : Key := obKey 0x18 0x000 0x009
def MEASUREMENT : Key := obKey 0x18 0x000 0x00A
def STRAPS : Key := obKey 0x18 0x000 0x00B
def BOOT_TIME : Key := obKey 0x18 0x000 0x00C
def OTP_INTENTS_FREE : Key := obKey 0x18 0x000 0x00D
def KEY_REVOKED : Key := obKey 0x18 0x000 0x00E
def STANDBY_TAMPER : Key := obKey 0x18 0x000 0x00F
def TAMPER_ACK : Key := obKey 0x18 0x000 0x010
def FW_UPDATE : Key := obKey 0x18 0x000 0x020
def FW_HOST_ADDR : Key := obKey 0x18 0x000 0x021
def FW_PHASE : Key := obKey 0x18 0x000 0x022
def FW_COMMIT : Key := obKey 0x18 0x000 0x023
def BOOT_FLAGS : Key := obKey 0x18 0x000 0x024
end O18

namespace O19
def KS_STATE : Key := obKey 0x19 0x000 0x000
def ROOT_ID : Key := obKey 0x19 0x000 0x001
def PREVIOUS_ROOT_ID : Key := obKey 0x19 0x000 0x002
def IDENTITY_PUB : Key := obKey 0x19 0x000 0x003
def ENROLLED : Key := obKey 0x19 0x000 0x004
def ENROLL : Key := obKey 0x19 0x000 0x005
def ENROLL_RESULT : Key := obKey 0x19 0x000 0x006
def ATTEST : Key := obKey 0x19 0x000 0x007
def ATTEST_RESULT : Key := obKey 0x19 0x000 0x008
def KEY_REQUEST : Key := obKey 0x19 0x000 0x010
def KEY_RESULT : Key := obKey 0x19 0x000 0x011
def STORE_EPOCH : Key := obKey 0x19 0x000 0x012
def GEN_USED : Key := obKey 0x19 0x000 0x013
def HANDLES_OPEN : Key := obKey 0x19 0x000 0x014
def TAMPER_CONFIG : Key := obKey 0x19 0x000 0x015
def TAMPER_LEVELS : Key := obKey 0x19 0x000 0x016
def REMASK_PASSES : Key := obKey 0x19 0x000 0x017
def ENTROPY_STATE : Key := obKey 0x19 0x000 0x018
def KEY_MIGRATE : Key := obKey 0x19 0x000 0x020
def MIGRATE_STATE : Key := obKey 0x19 0x000 0x021
def KEY_RETIRE : Key := obKey 0x19 0x000 0x022
def KS_FLAGS : Key := obKey 0x19 0x000 0x023
def HANDLE_STATE (i : Nat) : Key := obKey 0x19 i 0x000
def HANDLE_INFO (i : Nat) : Key := obKey 0x19 i 0x001
def HANDLE_OWNER (i : Nat) : Key := obKey 0x19 i 0x002
end O19

namespace O1A
def EV_STATUS (i : Nat) : Key := obKey 0x1A i 0x000
def EV_MASK (i : Nat) : Key := obKey 0x1A i 0x001
def EV_SEVERITY (i : Nat) : Key := obKey 0x1A i 0x002
def EV_ROUTE (i : Nat) : Key := obKey 0x1A i 0x003
def EV_COUNT (i : Nat) : Key := obKey 0x1A i 0x004
def EV_LAST_TICK (i : Nat) : Key := obKey 0x1A i 0x005
def EV_LAST_RECORD (i : Nat) : Key := obKey 0x1A i 0x006
def EV_OWNER (i : Nat) : Key := obKey 0x1A i 0x007
def LOG_NEWEST : Key := obKey 0x1A 0x000 0x800
def LOG_SEQ : Key := obKey 0x1A 0x000 0x801
def LOG_RECORD : Key := obKey 0x1A 0x000 0x802
def IRQ_STATE : Key := obKey 0x1A 0x000 0x803
def ACK_ALL : Key := obKey 0x1A 0x000 0x804
def ROUTE_DEFAULTS : Key := obKey 0x1A 0x000 0x805
def RECORDS_MADE : Key := obKey 0x1A 0x000 0x806
def RECORDS_SUPPRESSED : Key := obKey 0x1A 0x000 0x807
def EVU_FLAGS : Key := obKey 0x1A 0x000 0x808
end O1A

namespace O1B
def JOB_STATE (i : Nat) : Key := obKey 0x1B i 0x000
def JOB_OBJECT (i : Nat) : Key := obKey 0x1B i 0x001
def JOB_STATUS (i : Nat) : Key := obKey 0x1B i 0x002
def JOB_PROGRESS (i : Nat) : Key := obKey 0x1B i 0x003
def JOB_STARTED (i : Nat) : Key := obKey 0x1B i 0x004
def JOB_ENDED (i : Nat) : Key := obKey 0x1B i 0x005
def JOB_OWNER (i : Nat) : Key := obKey 0x1B i 0x006
def JOB_RESULT (i : Nat) : Key := obKey 0x1B i 0x007
def JOBS_LIMIT : Key := obKey 0x1B 0x040 0x000
def JOBS_RUNNING : Key := obKey 0x1B 0x040 0x001
def JOBS_QUEUED : Key := obKey 0x1B 0x040 0x002
end O1B

namespace O1C
def SESS_STATE (i : Nat) : Key := obKey 0x1C i 0x000
def SESS_ROLE (i : Nat) : Key := obKey 0x1C i 0x001
def SESS_CRED (i : Nat) : Key := obKey 0x1C i 0x002
def SESS_PEER (i : Nat) : Key := obKey 0x1C i 0x003
def SESS_OPENED (i : Nat) : Key := obKey 0x1C i 0x004
def SESS_TX_OPEN (i : Nat) : Key := obKey 0x1C i 0x005
def SESS_SUBS (i : Nat) : Key := obKey 0x1C i 0x006
def SESS_QUEUE (i : Nat) : Key := obKey 0x1C i 0x007
def SESS_CLOSE (i : Nat) : Key := obKey 0x1C i 0x008
def MGMT_ENABLE (i : Nat) : Key := obKey 0x1C i 0x000
def MGMT_ADDR (i : Nat) : Key := obKey 0x1C i 0x001
def MGMT_PREFIX (i : Nat) : Key := obKey 0x1C i 0x002
def MGMT_GATEWAY (i : Nat) : Key := obKey 0x1C i 0x003
def MGMT_MAC (i : Nat) : Key := obKey 0x1C i 0x004
def MGMT_LINK (i : Nat) : Key := obKey 0x1C i 0x005
def CRED_ENABLE (i : Nat) : Key := obKey 0x1C i 0x000
def CRED_ROLE (i : Nat) : Key := obKey 0x1C i 0x001
def CRED_KEY (i : Nat) : Key := obKey 0x1C i 0x002
def CRED_LABEL (i : Nat) : Key := obKey 0x1C i 0x003
def FILULO_PORT : Key := obKey 0x1C 0x300 0x000
def SESSION_TIMEOUT : Key := obKey 0x1C 0x300 0x001
def TX_IDLE : Key := obKey 0x1C 0x300 0x002
def MAILBOX_SEAL : Key := obKey 0x1C 0x300 0x003
def SESSIONS_OPEN : Key := obKey 0x1C 0x300 0x004
def AUTH_DISCARDS : Key := obKey 0x1C 0x300 0x005
def HANDSHAKE_FAILS : Key := obKey 0x1C 0x300 0x006
def TX_LAST : Key := obKey 0x1C 0x300 0x007
def JOURNAL_BYTES : Key := obKey 0x1C 0x300 0x008
def JOURNAL_USED : Key := obKey 0x1C 0x300 0x009
def JOURNAL_COMPACT : Key := obKey 0x1C 0x300 0x00A
def JOURNAL_JSEQ : Key := obKey 0x1C 0x300 0x00B
def FILULO_FLAGS : Key := obKey 0x1C 0x300 0x00C
end O1C

end Sys2Proof.Machine
end

