-- ==== Sys2Proof/Machine/Operands.lean ====
section
/-! DEFINITION. Operand forms: object numbers, the types of values and their checks (R13 to R19, R516, R528, R555 to R558). -/

namespace Sys2Proof.Machine

/-- The class of a key (R516). -/
def clsOf (k : Key) : Nat := k / 0x1000000

/-- The instance of a key (R516). -/
def instOf (k : Key) : Nat := k / 0x1000 % 0x1000

/-- The parameter of a key (R516). -/
def parOf (k : Key) : Nat := k % 0x1000

/-- Whether a row of an object table covers an instance and a parameter. -/
def ObjRow.covers (r : ObjRow) (i p : Nat) : Bool :=
  r.insts.any (fun q => decide (q.1 ≤ i ∧ i ≤ q.2)) &&
  (let q := if r.chan then p % 0x100 else p
   decide (r.par ≤ q ∧ q < r.par + r.cnt ∧ (r.chan = false ∨ p / 0x100 < 16)))

/-- The row of the dictionary that an object number names. -/
def rowOf (k : Key) : Option ObjRow :=
  (classRows (clsOf k)).find? (fun r => r.covers (instOf k) (parOf k))

/-- The bytes of a value of a type (R18). -/
def Ty.size : Ty → Nat
  | .bool => 1 | .u8 => 1 | .u16 => 2 | .u32 => 4 | .u64 => 8
  | .s16 => 2 | .s32 => 4 | .s64 => 8 | .q420 => 4 | .enum8 => 1 | .bits32 => 4
  | .time80 => 10 | .tick64 => 8 | .route => 16
  | .str n => n | .blob n => n

/-- Whether a type's values are bytes. -/
def Ty.isBytes : Ty → Bool
  | .route => true | .str _ => true | .blob _ => true | _ => false

/-- What a row's Default column gives every device: none where a rule gives it from other state. -/
def ObjRow.base (r : ObjRow) : Option Val :=
  match r.dflt with
  | .num n => some (.num n)
  | .fill n => some (.blob (zeros n))
  | .text cs => some (.blob (padTo r.ty.size (ascii cs)))
  | .none => some (if r.ty.isBytes then .blob [] else .num 0)
  | .by => none

/-- What an unlisted object reads as, where its Default column states it (R517). -/
def baseOf (k : Key) : Option Val :=
  match rowOf k with
  | some r => r.base
  | none => some (.num 0)

/-- The number of bits of an object's value, where it is a number. -/
def bitsOf (k : Key) : Nat :=
  match rowOf k with
  | some r => 8 * r.ty.size
  | none => 64

/-- The bytes of a value on the Filulo wire (R18, R528). -/
def wireBytes (k : Key) (v : Val) : List Byte :=
  match v with
  | .blob b => b
  | .num n => bytesBE (match rowOf k with | some r => r.ty.size | none => 8) n

/-- The continuation bytes of a UTF-8 sequence. -/
def contBytes : Nat → List Byte → Option (List Byte)
  | 0, bs => some bs
  | k + 1, b :: bs => if 0x80 ≤ b.toNat ∧ b.toNat < 0xC0 then contBytes k bs else none
  | _ + 1, [] => none

/-- Well-formed UTF-8: no overlong form, no surrogate, nothing above U+10FFFF (R18). The first argument bounds the length. -/
def utf8 : Nat → List Byte → Bool
  | _, [] => true
  | 0, _ :: _ => false
  | f + 1, b :: bs =>
    let n := b.toNat
    let next := (match bs with | c :: _ => c.toNat | [] => 0)
    let k := if n < 0x80 then some 0
      else if 0xC2 ≤ n ∧ n < 0xE0 then some 1
      else if 0xE0 ≤ n ∧ n < 0xF0 then
        (if (n = 0xE0 ∧ next < 0xA0) ∨ (n = 0xED ∧ 0xA0 ≤ next) then none else some 2)
      else if 0xF0 ≤ n ∧ n < 0xF5 then
        (if (n = 0xF0 ∧ next < 0x90) ∨ (n = 0xF4 ∧ 0x90 ≤ next) then none else some 3)
      else none
    match k with
    | none => false
    | some k =>
      match contBytes k bs with
      | some rest => utf8 f rest
      | none => false

/-- A status code (R23). -/
def OK : Nat := 0x00
def PENDING : Nat := 0x01
def ABSENT : Nat := 0x02
def DENIED : Nat := 0x03
def RANGE : Nat := 0x04
def TYPE : Nat := 0x05
def BUSY : Nat := 0x06
def NO_CAPACITY : Nat := 0x07
def CONFLICT : Nat := 0x08
def TIMEOUT : Nat := 0x09
def REVOKED : Nat := 0x0A
def TAMPER : Nat := 0x0B
def ABORTED : Nat := 0x0C
def SUSPENDED : Nat := 0x0D
def CANCELLED : Nat := 0x0E
def INTERNAL : Nat := 0x0F

/-- The number of a value of a type, its low `w` bits read as signed. -/
def sgn (w : Nat) (v : Val) : Int := signed w v.toNat

/-- The range check of a value against its row: the Range column's part that one value shows (R14, R15, R18). -/
def rangeOk (r : ObjRow) (v : Val) : Bool :=
  let n := v.toNat
  (match r.ty with
   | .bool => decide (n ≤ 1)
   | .q420 => decide (n / 0x1000000 = if bit n 23 then 0xFF else 0)
   | .time80 => decide (n % 0x100000000 ≤ 999999999)
   | _ => true) &&
  (match r.rng with
   | .any => true
   | .u lo hi => decide (lo ≤ n ∧ n ≤ hi)
   | .s lo hi => decide (lo ≤ sgn (8 * r.ty.size) v ∧ sgn (8 * r.ty.size) v ≤ hi)
   | .uOr lo hi x => decide ((lo ≤ n ∧ n ≤ hi) ∨ n = x)
   | .oneOf l => l.contains n
   | .mask m => decide (n &&& m = n)
   | .step lo hi k => decide (lo ≤ n ∧ n ≤ hi ∧ k ≠ 0 ∧ (n - lo) % k = 0)
   | .many k => decide (k = 0 ∨ v.bytes.length % k = 0)
   | .format => formatOk n)

/-- What a row keeps of a number: the device ignores the reserved bits of a field map of any type but BITS32, and reads them as 0 (R15);
a format code's bits [3:0] are such bits (R197). -/
def ObjRow.kept (r : ObjRow) (n : Nat) : Nat :=
  match r.rng with
  | .mask m => if r.ty = .bits32 then n else n &&& m
  | .format => n / 16 * 16
  | _ => n

/-- The value that VLEN bytes spell for an object of a row, or the status that refuses them: the third and fourth checks of
R22 (R18, R528). -/
def decodeVal (r : ObjRow) (bs : List Byte) : Except Nat Val :=
  match r.ty with
  | .blob n =>
    if n < bs.length then .error RANGE
    else if rangeOk r (.blob bs) then .ok (.blob bs) else .error RANGE
  | .str n =>
    if bs.length ≠ n then .error TYPE
    else if utf8 n bs then .ok (.blob bs) else .error TYPE
  | .route => if bs.length = 16 then .ok (.blob bs) else .error TYPE
  | ty =>
    if bs.length ≠ ty.size then .error TYPE
    else if rangeOk r (.num (r.kept (natBE bs))) then .ok (.num (r.kept (natBE bs))) else .error RANGE

/-- The access code's permissions (R19). -/
def Acc.readable : Acc → Bool
  | .X => false | .J => false | _ => true
def Acc.writable : Acc → Bool
  | .W => true | .RW => true | .WP => true | _ => false
def Acc.staged : Acc → Bool
  | .S => true | .SP => true | _ => false
def Acc.action : Acc → Bool
  | .X => true | _ => false
def Acc.job : Acc → Bool
  | .J => true | _ => false
def Acc.persistent : Acc → Bool
  | .WP => true | .SP => true | _ => false

/-- Whether a row admits a role: OPR 0, ENG 1, SEC 2 (R20). VND, 3, is Koleipa service: no Roles column lists it. -/
def ObjRow.admits (r : ObjRow) (role : Nat) : Bool := decide (role < 3) && bit r.roles role

end Sys2Proof.Machine
end

