-- ==== Sys2Proof/Machine/Derived.lean ====
section
/-! DEFINITION. Values that the Default column of an object gives by member, by type, by device, by store or by start (R517), and
the presence of instances (R555 to R558). -/

namespace Sys2Proof.Machine

/-- The default severity of an event (R670). -/
def defaultSeverity (e : Nat) : Nat :=
  if [0x012, 0x030, 0x036, 0x052, 0x131, 0x191, 0x194, 0x19B, 0x1C6, 0x1C8, 0x1F0].contains e ∨ (0x170 ≤ e ∧ e ≤ 0x17D) then 4
  else if [0x011, 0x014, 0x018, 0x019, 0x021, 0x02C, 0x041, 0x045, 0x046, 0x051, 0x053, 0x056, 0x061, 0x070, 0x074, 0x096,
    0x097, 0x0A1, 0x0B1, 0x0E1, 0x0E5, 0x0F1, 0x111, 0x121, 0x125, 0x135, 0x13C, 0x144, 0x184, 0x198, 0x1A1, 0xE23].contains e then 3
  else if [0x001, 0x002, 0x017, 0x023, 0x024, 0x025, 0x027, 0x02A, 0x02B, 0x02D, 0x02E, 0x033, 0x035, 0x040, 0x055, 0x057,
    0x072, 0x073, 0x082, 0x092, 0x0A3, 0x0A8, 0x0A9, 0x0B5, 0x0B6, 0x0E2, 0x0E6, 0x0F2, 0x119, 0x11A, 0x122, 0x126, 0x12B,
    0x141, 0x143, 0x180, 0x18B, 0x19A, 0x19C, 0x1C2, 0x1C3, 0x1F1, 0xE15, 0xE16].contains e then 2
  else if [0x000, 0x010, 0x013, 0x020, 0x022, 0x028, 0x029, 0x031, 0x060, 0x071, 0x080, 0x0A0, 0x0B0, 0x0D0, 0x0E0, 0x0F0,
    0x110, 0x120, 0x130, 0x134, 0x140, 0x1B0, 0x1B1, 0x1B2, 0x1B3, 0x1C0, 0x1C1].contains e then 0
  else 1

/-- The default route of an event (R671). -/
def defaultRoute (e : Nat) : Nat := if 3 ≤ defaultSeverity e then 0x1F else 7

/-- The owning class of an event number; 0xFF reserved (R665). -/
def eventOwner (e : Nat) : Nat :=
  if e = 0x0A3 then 0x02
  else if e < 0x1D0 then e / 16
  else if e = 0x1F0 ∨ e = 0x1F1 then 0x17
  else if e = 0x2B2 then 0x10
  else if 0xE00 ≤ e ∧ e < 0xE10 then 0x02
  else if 0xE10 ≤ e ∧ e < 0xE20 then 0x0A
  else if 0xE20 ≤ e ∧ e < 0xE30 then 0x0F
  else 0xFF

/-- The numbers that the class chapters mark reserved: they are never raised (R665). -/
def reservedRanges : List (Nat × Nat) :=
  [(0x008, 0x00F), (0x015, 0x016), (0x01A, 0x01F), (0x02F, 0x02F), (0x03A, 0x03F), (0x047, 0x04F), (0x05B, 0x05F), (0x06A, 0x06F),
   (0x078, 0x07F), (0x087, 0x08F), (0x09C, 0x09F), (0x0AE, 0x0AF), (0x0BA, 0x0BF), (0x0C5, 0x0C5), (0x0C7, 0x0C8), (0x0CB, 0x0CB),
   (0x0CD, 0x0CF), (0x0D4, 0x0DF), (0x0EA, 0x0EF), (0x0F6, 0x0FF), (0x106, 0x10F), (0x112, 0x112), (0x11B, 0x11F), (0x12C, 0x12F),
   (0x13E, 0x13F), (0x147, 0x14F), (0x156, 0x156), (0x158, 0x15F), (0x167, 0x16F)] ++
  [(0x18C, 0x18F), (0x19E, 0x19F), (0x1A2, 0x1AF), (0x1B5, 0x1BF), (0x1CB, 0x1CF), (0xE04, 0xE0F), (0xE17, 0xE1F), (0xE26, 0xE2F)]

/-- An event number that some chapter gives a meaning (R665). -/
def definedEvent (e : Nat) : Bool :=
  decide (eventOwner e ≤ 0x1C) && !(reservedRanges.any fun q => decide (q.1 ≤ e ∧ e ≤ q.2))

/-- One of three values by member (R563). -/
def byMember (m : Member) (a b c : Nat) : Nat :=
  match m with
  | .tmn9624 => a
  | .tmn9612 => b
  | .tmn9606 => c

/-- The instances of a class that a member presents, by the class's column of R555; `r96` is RATE_ACTIVE at 96 kHz (R312). -/
def presentRanges (m : Member) (r96 : Bool) (c : Nat) : List (Nat × Nat) :=
  let lanes := byMember m 191 95 47
  match c with
  | 0x00 => [(0, 0)]
  | 0x01 => [(0, 0)]
  | 0x02 => [(0x000, 0x00F), (0x010, 0x011), (0x020, 0x023), (0x030, 0x034)]
  | 0x03 => [(0x000, 0x003), (0x010, 0x01B), (0x020, 0x02F), (0x030, 0x037)]
  | 0x04 => [(0x000, 0x040)]
  | 0x05 => [(0x000, byMember m 3 1 0), (0x010, byMember m 0x04F 0x02F 0x01F), (0x080, 0x080), (0x100, 0x1FF)]
  | 0x06 => [(0, lanes)]
  | 0x07 => [(0, lanes)]
  | 0x08 => [(0, lanes), (0x100, byMember m 0x8FF 0x4FF 0x1FF), (0x900, 0x9FF), (0xFFF, 0xFFF)]
  | 0x09 => [(0, lanes), (0x100, byMember m 0x8FF 0x4FF 0x1FF), (0xA00, 0xA00), (0xB00, byMember m 0xBFF 0xB7F 0xB2F),
      (0xC00, 0xC1F)]
  | 0x0A => [(0, byMember m 0x03F 0x01F 0x00F), (0x100, byMember m 0x13F 0x11F 0x10F), (0x200, 0x20F), (0x300, 0x307)]
  | 0x0B => [(0, byMember m 0x00F 0x007 0x003), (0x100, byMember m 0x10F 0x107 0x103)]
  | 0x0C =>
    if r96 then
      [(0, byMember m 0x1FF 0x0FF 0x07F), (0x400, byMember m 0x43F 0x43F 0x41F), (0x500, byMember m 0x50C 0x505 0x502),
       (0x600, 0x600), (0x800, byMember m 0x9FF 0x8FF 0x87F), (0xC00, 0xC00 + lanes), (0xD00, 0xD00 + lanes)]
    else
      [(0, byMember m 0x3FF 0x1FF 0x0FF), (0x400, byMember m 0x47F 0x43F 0x41F), (0x500, byMember m 0x51B 0x50D 0x506),
       (0x600, 0x600), (0x800, byMember m 0xBFF 0x9FF 0x8FF), (0xC00, 0xC00 + lanes), (0xD00, 0xD00 + lanes)]
  | 0x0D => [(0, byMember m 0x7FF 0x3FF 0x0FF)]
  | 0x0E => [(0, byMember m 0x7FF 0x3FF 0x0FF)]
  | 0x0F =>
    (match m with
     | .tmn9624 => [(0x000, 0x0E7)]
     | .tmn9612 => [(0x000, 0x05F), (0x0C0, 0x0CF), (0x0E0, 0x0E3)]
     | .tmn9606 => [(0x000, 0x02F), (0x0C0, 0x0C7), (0x0E0, 0x0E0)]) ++ [(0x100, 0x13F), (0x200, 0x200)]
  | 0x10 => [(0x000, 0x7FF)] ++
    (match m with
     | .tmn9624 => [(0x800, 0x8DF)]
     | .tmn9612 => [(0x800, 0x85F), (0x8C0, 0x8CF)]
     | .tmn9606 => [(0x800, 0x82F), (0x8C0, 0x8C7)]) ++ [(0x900, 0x900)]
  | 0x11 => [(0, lanes), (0x100, byMember m 0x11F 0x10F 0x107)]
  | 0x12 => [(0, byMember m 0x01F 0x00F 0x007)]
  | 0x13 => [(0, 0), (0x100, 0x4FF)]
  | 0x14 => [(0, byMember m 0x07F 0x03F 0x01F)]
  | 0x15 => [(0, 0x3FF), (0x400, 0x41F), (0x500, 0x500)]
  | 0x16 => [(0, 7), (0x010, 0x013), (0x100, 0x17F)]
  | 0x17 => [(0, 0), (0x100, 0x10D), (0x200, 0x20A), (0x300, 0x303)]
  | 0x18 => [(0, 0)]
  | 0x19 => [(0, 0), (0x100, 0x1FF)]
  | 0x1A => [(0, 0xFFF)]
  | 0x1B => [(0, 0x03F), (0x040, 0x040)]
  | 0x1C => [(0, 0x023), (0x100, 0x101), (0x200, 0x22F), (0x300, 0x300)]
  | _ => []

/-- CLIENT of a fabric port (R139, R140, R161). -/
def portClient (m : Member) (p : Nat) : Nat :=
  if p < byMember m 24 12 6 then 1
  else if 24 ≤ p ∧ p < byMember m 28 26 25 then 2
  else if 28 ≤ p ∧ p < byMember m 44 36 31 then 3
  else if 44 ≤ p ∧ p < byMember m 52 48 45 then 4
  else if 52 ≤ p ∧ p < byMember m 60 56 54 then 5
  else if p = 60 ∨ p = 61 then 6
  else if p = 62 then 7
  else if p = 63 then 8
  else 0

/-- CLIENT_FIRST of a fabric port: the first instance served (R139, R140). -/
def portFirst (m : Member) (p : Nat) : Nat :=
  match portClient m p with
  | 1 => p / 6
  | 2 => 48 * (p - 24)
  | 3 => 16 * (p - 28)
  | 4 => 256 * (p - 44)
  | 5 => 4 * (p - 52)
  | 6 => if p = 60 then 0 else byMember m 8192 4096 2048
  | _ => 0

namespace State

/-- The written value of an object; none where it holds its default and the default is not one value for every device. -/
def stored (s : State) (k : Key) : Option Val :=
  match SMap.find? s.objs k with
  | some v => some v
  | none => baseOf k

/-- The number that an object holds in its own right. -/
def sn (s : State) (k : Key) : Nat :=
  match s.stored k with
  | some v => v.toNat
  | none => 0

/-- RATE_ACTIVE is 96 kHz (R311). -/
def rate96 (s : State) : Bool := s.sn O0C.RATE_ACTIVE == 1

/-- Whether an instance of a class is present (R555, R556). -/
def present (s : State) (c i : Nat) : Bool :=
  (presentRanges s.member s.rate96 c).any fun q => decide (q.1 ≤ i ∧ i ≤ q.2)

/-- Defaults by the type of a candidate's source: QL_CONFIG, QUAL_TIME in ms, windows in 0.01 ppm, BANDWIDTH in mHz (R91, R93, R116). -/
def candDefault (t p : Nat) : Nat :=
  match t, p with
  | 1, 3 => 15 | 2, 3 => 15 | 3, 3 => 8 | 4, 3 => 8 | 5, 3 => 10 | 6, 3 => 6 | 7, 3 => 6 | 8, 3 => 10 | 9, 3 => 15
  | 1, 5 => 10000 | 2, 5 => 10000 | 3, 5 => 2000 | 4, 5 => 2000 | 5, 5 => 2000 | 6, 5 => 1000 | 7, 5 => 1000 | 8, 5 => 10000
  | 9, 5 => 100
  | 1, 6 => 50 | 2, 6 => 460 | 3, 6 => 280 | 4, 6 => 280 | 5, 6 => 10 | 6, 6 => 1000 | 7, 6 => 1000 | 8, 6 => 10 | 9, 6 => 100
  | 1, 7 => 500 | 2, 7 => 2000 | 3, 7 => 1000 | 4, 7 => 1000 | 5, 7 => 200 | 6, 7 => 5000 | 7, 7 => 5000 | 8, 7 => 100
  | 9, 7 => 1000
  | 1, 8 => 100 | 2, 8 => 3000 | 3, 8 => 1000 | 4, 8 => 1000 | 5, 8 => 10000 | 6, 8 => 5000 | 7, 8 => 5000 | 8, 8 => 10
  | 9, 8 => 10000
  | _, _ => 0

/-- Defaults by the profile of a PTP instance: DOMAIN_NUMBER and LOG_INTERVALS (R112). -/
def ptpDefault (profile p : Nat) : Nat :=
  match profile, p with
  | 1, 2 => 127
  | 1, 5 => 0xFDFE
  | 2, 5 => 0xFD01
  | 3, 5 => 0xFD00
  | _, _ => 0

/-- The values of class 00 that follow the member (R560 to R563). -/
def devValue (s : State) (p : Nat) : Val :=
  let m := s.member
  let byRate (a b c : Nat) : Nat := byMember m a b c / (if s.rate96 then 2 else 1)
  match p with
  | 0x002 => .num (byMember m 1 2 3)
  | 0x003 => .blob (padTo 16 (ascii ([0x54, 0x4D, 0x4E, 0x2D, 0x39, 0x36] ++
      match m with
      | .tmn9624 => [0x32, 0x34]
      | .tmn9612 => [0x31, 0x32]
      | .tmn9606 => [0x30, 0x36])))
  | 0x004 => .num (Config.stepping % 0x10000)
  | 0x005 => .blob (bytesBE 24 Config.serial)
  | 0x006 => .blob (bytesBE 6 (Config.macBlock * 512))
  | 0x007 => .num (natBE (slice s.boot.image 8 4))
  | 0x008 => .num (Config.romVersion % 0x100000000)
  | 0x011 => .num (byMember m 192 96 48)
  | 0x012 => .num (byMember m 32 16 8)
  | 0x013 => .num (byMember m 4 2 1)
  | 0x014 => .num (byMember m 256 128 48)
  | 0x015 => .num (byMember m 1 1 0)
  | 0x016 => .num (byMember m 64 32 16)
  | 0x017 => .num (byMember m 16 8 4)
  | 0x018 => .num (byMember m 128 64 32)
  | 0x019 => .num (byMember m 2048 1024 256)
  | 0x01A => .num (byMember m 2048 1024 256)
  | 0x01B => .num (byMember m 1 0 0)
  | 0x026 => .num (byMember m 154618822656 77309411328 38654705664)
  | 0x027 => .num (byMember m 107325685760 51515359232 23610195968)
  | 0x028 => (match s.stored O09.POOL_PECKS with
     | some v => v
     | none => .num (byMember m 1024 512 192))
  | 0x029 => .num (byRate 131072 65536 32768)
  | 0x02A => .num (byRate 16384 8192 4096)
  | 0x02B => .num (byMember m 1024 1024 64)
  | _ => .num 0

/-- The value that an object takes by member, type, device, store or start (R517). -/
def byObj (s : State) (k : Key) : Val :=
  let i := instOf k
  let p := parOf k
  match clsOf k with
  | 0x00 => s.devValue p
  | 0x02 =>
    if i < 0x10 then .num (candDefault (s.sn (O02.SOURCE_TYPE i)) p)
    else if i < 0x30 then .num (ptpDefault (s.sn (O02.PROFILE i)) p)
    else .num (if i = 0x32 then 2 else 0)
  | 0x03 => .num (if i = 0 then 1536000 else if i = 1 then 2396160 else if i = 2 then 614400 else 196608)
  | 0x04 => .num (if p = 0 then portClient s.member i else portFirst s.member i)
  | 0x05 =>
    let share := 4294967296 / byMember s.member 4 2 1
    if i < 4 then .num (38654705664 - share - 10749542400) else s.devValue 0x027
  | 0x08 =>
    if p = 3 then .num (if i < 0x100 then 1 else 0)
    else
      let dest := (if p = 1 then 0x80000000 else 0) + (if i < 0x100 then 0x1000 + i else 0x2000 + (i - 0x100))
      .blob (bytesBE 4 dest ++ bytesBE 4 (if p = 1 then 0xF000 else 0) ++ zeros 8)
  | 0x09 =>
    .num (if p = 3 then byMember s.member 256 128 48 else if p = 4 then byMember s.member 1 1 0 else byMember s.member 1024 512 192)
  | 0x0C => (match p with
     | 2 => s.devValue 0x02A
     | 3 => s.devValue 0x029
     | 0x00A => .num (if s.rate96 then byMember s.member 64 64 32 else byMember s.member 128 64 32)
     | _ => .num (if s.rate96 then byMember s.member 13 6 3 else byMember s.member 28 14 7))
  | 0x0D => .num i
  | 0x11 =>
    if p = 4 then .blob (if i < 0x100 then [0xFC, 0x36, 0xFA] else [0x00, 0x00, 0xFA, 0x34, 0xFA])
    else if p = 1 then .num (if i < 0x100 then 0 else 8)
    else .num (if i < 0x100 then 0x20 else 0x31)
  | 0x15 => .blob s.boot.cid
  | 0x17 =>
    let m := i - 0x100
    .blob (List.replicate 11 (if m < 4 then 8 else if 7 ≤ m ∧ m < 11 then 4 else if m = 11 then 6 else if m = 12 then 10
      else if m = 13 then 2 else 0))
  | 0x18 =>
    let o := s.boot.otp
    match p with
    | 0x000 => .num (o.lc.getLast?.getD 0)
    | 0x001 => .num o.lc.length
    | 0x004 => .num s.boot.source
    | 0x009 => .num o.svn
    | 0x00A => .blob s.boot.measurement
    | 0x00B => .num s.straps
    | 0x00C => .num s.boot.bootTime
    | 0x00D => .num (64 - (o.intents.filter (·.armed)).length)
    | 0x00E => .num o.revoked
    | _ => .num 0
  | 0x19 => if p = 0x001 then .blob s.keys.rootId else if p = 0x003 then .blob s.keys.pub else .num s.keys.epoch
  | 0x1A => .num (if p = 2 then defaultSeverity i else if p = 3 then defaultRoute i else eventOwner i)
  | 0x1C => .blob (bytesBE 6 (Config.macBlock * 512 + 65 + (i - 0x100)))
  | _ => .num 0

/-- The present value of an object (R517, R518). -/
def get (s : State) (k : Key) : Val :=
  match s.stored k with
  | some v => v
  | none => s.byObj k

/-- The number an object holds. -/
def n (s : State) (k : Key) : Nat := (s.get k).toNat

/-- The truth value an object holds. -/
def b (s : State) (k : Key) : Bool := s.n k != 0

/-- The bytes an object holds. -/
def bs (s : State) (k : Key) : List Byte := (s.get k).bytes

/-- The signed number an object of `w` bits holds. -/
def z (s : State) (w : Nat) (k : Key) : Int := signed w (s.n k)

end State
end Sys2Proof.Machine
end

