-- ==== Sys2Proof/Machine/Ops.lean ====
section
/-! DEFINITION. The named operations every meaning is written with: writing objects (R516 to R518), raising events (R666 to
R677), timers, free values, and the record of what the device sends. -/

namespace Sys2Proof.Machine

namespace State

/-- Write an object: a value equal to its default is not listed. -/
def setObj (s : State) (k : Key) (v : Val) : State :=
  { s with objs := if some v = baseOf k then SMap.del s.objs k else SMap.put s.objs k v }

/-- Return an object to its default (R517). -/
def clearObj (s : State) (k : Key) : State := { s with objs := SMap.del s.objs k }

/-- Write a number. -/
def setN (s : State) (k : Key) (n : Nat) : State := s.setObj k (.num n)

/-- Write a truth value. -/
def setB (s : State) (k : Key) (b : Bool) : State := s.setObj k (.num b.toNat)

/-- Write bytes. -/
def setBytes (s : State) (k : Key) (b : List Byte) : State := s.setObj k (.blob b)

/-- Write a signed number of `w` bits. -/
def setZ (s : State) (w : Nat) (k : Key) (z : Int) : State := s.setObj k (.num (unsigned w z))

/-- Set bits of a sticky status object (R16, R17). -/
def flag (s : State) (k : Key) (mask : Nat) : State := s.setN k (setBits (s.n k) mask)

/-- Clear bits of a status object, as a write of `mask` does (R16). -/
def unflag (s : State) (k : Key) (mask : Nat) : State := s.setN k (clearBits (s.n k) mask)

/-- Add to a counter. Where the count outgrows the object's bits, the spec states no value: it is open (log entry 6). -/
def bump (s : State) (k : Key) (d : Nat) : State :=
  let v := s.n k + d
  s.setN k (if v < 2 ^ bitsOf k then v else Config.openResult 1 [k, v] % 2 ^ bitsOf k)

/-- Subtract from a gauge. -/
def drop (s : State) (k : Key) (d : Nat) : State := s.setN k (s.n k - d)

/-- Raise a gauge to at least `v`. -/
def peak (s : State) (k : Key) (v : Nat) : State := if s.n k < v then s.setN k v else s

/-- Record something sent (log entry 8). -/
def emit (s : State) (o : Out) : State := { s with sent := s.sent ++ [o] }

/-- The next free value, and the state after it is used (log entry 5). -/
def draw (s : State) : Nat × State := (Config.free s.fresh, { s with fresh := s.fresh + 1 })

/-- The next `k` free bytes: what a random draw gives (R646; log entry 5). -/
def drawBytes (s : State) (k : Nat) : List Byte × State :=
  (bytesBE k (Config.free s.fresh), { s with fresh := s.fresh + 1 })

/-- Ticks since start-up began: the timebase of every timer. -/
def now (s : State) : Nat := s.tick.clock

/-- TICK64 of the device (R45, R47). -/
def tick64 (s : State) : Nat := s.tick.tick.toNat

/-- The tick to which a raising belongs (R674). -/
def eventTick (s : State) : Nat := if s.evu.late then s.tick64 + 1 else s.tick64

/-- The chain is in SAFE HOLD (R74). -/
def safeHold (s : State) : Bool := s.n O01.CHAIN_STATE == 1

/-- The chain runs (R78). -/
def running (s : State) : Bool := s.n O01.CHAIN_STATE == 0

/-- The device's identity in records (R675). -/
def deviceId (s : State) : Nat := if s.b O13.DOMAIN_ENABLE then s.n O13.DEVICE_ID else 0

end State

/-- No instance (R675). -/
def noInst : Nat := 0xFFFF

/-- The bytes of an event record (R675). -/
def Rec.bytes (r : Rec) : List Byte :=
  bytesBE 2 r.event ++ bytesBE 1 r.severity ++ bytesBE 1 r.flags ++ bytesBE 4 r.seq ++ bytesBE 8 r.tick ++
  bytesBE 2 r.device ++ bytesBE 2 r.inst ++ bytesBE 2 r.detail.length ++ zeros 2 ++ padTo 40 r.detail

/-- Items of DETAIL in their types (R676). -/
def d8 (n : Nat) : List Byte := bytesBE 1 n
def d16 (n : Nat) : List Byte := bytesBE 2 n
def d32 (n : Nat) : List Byte := bytesBE 4 n
def d64 (n : Nat) : List Byte := bytesBE 8 n
def s16 (z : Int) : List Byte := bytesBE 2 (unsigned 16 z)
def s32 (z : Int) : List Byte := bytesBE 4 (unsigned 32 z)
def s64 (z : Int) : List Byte := bytesBE 8 (unsigned 64 z)

/-- A list of identifiers in DETAIL: a U16 count, then U16 each (R676). -/
def dList (l : List Nat) : List Byte := d16 l.length ++ l.flatMap d16

namespace State

/-- The record that a raising makes (R675, R676). -/
def record (s : State) (ev inst : Nat) (detail : List Byte) (masked repeated : Bool) (seq : Nat) : Rec :=
  { event := ev, severity := s.n (O1A.EV_SEVERITY ev),
    flags := masked.toNat + 2 * repeated.toNat + 4 * s.safeHold.toNat,
    seq := seq, tick := s.eventTick, device := s.deviceId, inst := inst, detail := detail,
    route := s.n (O1A.EV_ROUTE ev) }

/-- The status, count and tick of an event take a raising (R666). -/
def markRaised (s : State) (ev : Nat) : State :=
  ((s.flag (O1A.EV_STATUS ev) (if bit (s.n (O1A.EV_STATUS ev)) 0 then 3 else 1)).setN (O1A.EV_COUNT ev)
    (saturate 32 (s.n (O1A.EV_COUNT ev) + 1))).setN (O1A.EV_LAST_TICK ev) s.eventTick

/-- A raising beyond the 256 records of its tick (R677). -/
def suppressRecord (s : State) : State :=
  let t := { s with evu := { s.evu with suppressed := s.evu.suppressed + 1 } }
  (t.bump O1A.RECORDS_SUPPRESSED 1).flag O1A.EVU_FLAGS 2

/-- An unmasked record: it takes a SEQ and waits for its routing (R674, R676). -/
def makeRecord (s : State) (r : Rec) : State :=
  let e := s.evu
  let m := if r.event = 0x1A1 then e.made else e.made + 1
  let t := { s with evu := { e with queue := e.queue ++ [r], seq := r.seq, made := m } }
  (t.bump O1A.RECORDS_MADE 1).setBytes (O1A.EV_LAST_RECORD r.event) r.bytes

/-- An event is raised (R666 to R668, R675 to R677). -/
def raise (s : State) (ev inst : Nat) (detail : List Byte) : State :=
  let was := bit (s.n (O1A.EV_STATUS ev)) 0
  let t := s.markRaised ev
  if s.b (O1A.EV_MASK ev) then
    t.setBytes (O1A.EV_LAST_RECORD ev) (s.record ev inst detail true was 0).bytes
  else if 256 ≤ s.evu.made ∧ ev ≠ 0x1A1 then t.suppressRecord
  else t.makeRecord (s.record ev inst detail false was ((s.evu.seq + 1) % 0x100000000))

/-- An event that a unit raises at most once every `ticks` for an instance: a raising that comes sooner changes nothing (R666). -/
def raiseLim (s : State) (ev inst : Nat) (detail : List Byte) (ticks : Nat) : State :=
  let k := ev * 0x10000 + inst
  match SMap.find? s.evu.last k with
  | some t => if s.now < t + ticks then s
      else { s with evu := { s.evu with last := SMap.put s.evu.last k s.now } }.raise ev inst detail
  | none => { s with evu := { s.evu with last := SMap.put s.evu.last k s.now } }.raise ev inst detail

/-- IRQ_N is asserted (R672). -/
def irq (s : State) : Bool :=
  s.objs.any fun e => decide (clsOf e.1 = 0x1A ∧ parOf e.1 = 0) && bit e.2.toNat 0 &&
    !(s.b (O1A.EV_MASK (instOf e.1))) && bit (s.n (O1A.EV_ROUTE (instOf e.1))) 3

/-- The hardware of the device works: PORST_N is high and the start has not been halted (R604, R685). -/
def alive (s : State) : Bool :=
  match s.phase with
  | .rom => true
  | .neloas => true
  | .tamperWait => true
  | .running => true
  | _ => false

/-- Neloas serves its host (R602, R622). -/
def served (s : State) : Bool :=
  (match s.phase with
  | .neloas => true
  | .tamperWait => true
  | .running => true
  | _ => false) && [0x100, 0x101, 0x102, 0x103].any fun m => s.n (O17.MASTER_STATE m) != 1

/-- Persistent writes and job starts are accepted: not before the first chain, nor once a reset is accepted (R564, R565, R602). -/
def accepts (s : State) : Bool := s.phase == .running && !s.boot.closing

/-- Apply `f` where a condition holds. -/
def when (s : State) (c : Bool) (f : State → State) : State := if c then f s else s

/-- Fold a change over a list. -/
def forEach {α : Type} (s : State) (l : List α) (f : State → α → State) : State := l.foldl f s

end State

/-- What a command answers: it acts only while the device is alive (log entry 10). -/
def live (s : State) (f : State → State) : Host.Outcome State Fault Refusal :=
  .next (if s.alive then f s else s)

/-- A command on an instance: it acts only while the device is alive and the instance is present (R9, R558; log entry 10). -/
def onInst (c i : Nat) (s : State) (f : State → State) : Host.Outcome State Fault Refusal :=
  .next (if s.alive && s.present c i then f s else s)

end Sys2Proof.Machine
end

