-- ==== Sys2Proof/Machine/Wire.lean ====
section
/-! DEFINITION. What the device sends over Filulo: messages, sealing, notifications (R524 to R528, R534, R537, R543, R544), and
the routing of event records (R671 to R678). -/

namespace Sys2Proof.Machine

/-- The instances of the UDP and mailbox sessions (R551). -/
def mailboxSess (sid : Nat) : Bool := decide (0x20 ≤ sid)

/-- The 16-byte header of a datagram (R524). -/
def filuloHeader (kind frag security ident seq len : Nat) : List Byte :=
  bytesBE 1 1 ++ bytesBE 1 kind ++ bytesBE 1 frag ++ bytesBE 1 security ++ bytesBE 4 ident ++ bytesBE 4 seq ++
  bytesBE 2 len ++ zeros 2

/-- Datagram bodies of at most 1,400 bytes; a message has at least one (R524). The first argument bounds their number. -/
def chunks : Nat → List Byte → List (List Byte)
  | 0, _ => []
  | f + 1, b => b.take 1400 :: (if b.length ≤ 1400 then [] else chunks f (b.drop 1400))

/-- A value padded with 0x00 to a 4-byte boundary (R528). -/
def pad4 (b : List Byte) : List Byte := b ++ zeros ((4 - b.length % 4) % 4)

/-- A response item (R528). -/
def RItem.bytes (i : RItem) : List Byte :=
  bytesBE 4 i.obj ++ bytesBE 1 i.status ++ zeros 1 ++ bytesBE 2 i.val.length ++ pad4 i.val

/-- The body of a RESPONSE (R527). -/
def Resp.bytes (r : Resp) : List Byte :=
  bytesBE 4 r.seq ++ bytesBE 1 r.op ++ bytesBE 1 r.status ++ bytesBE 2 r.items.length ++ bytesBE 8 r.result ++
  r.items.flatMap RItem.bytes

/-- An entry of a NOTIFY (R543). -/
def NEntry.bytes : NEntry → List Byte
  | .value sub tick item => bytesBE 1 1 ++ zeros 1 ++ bytesBE 4 sub ++ bytesBE 8 tick ++ item.bytes
  | .event sub rec => bytesBE 1 2 ++ zeros 1 ++ bytesBE 4 sub ++ rec.bytes
  | .txDone tx st tick => bytesBE 1 3 ++ zeros 1 ++ bytesBE 4 tx ++ bytesBE 1 st ++ zeros 3 ++ bytesBE 8 tick
  | .job j st status prog =>
    bytesBE 1 4 ++ zeros 1 ++ bytesBE 2 j ++ bytesBE 1 st ++ bytesBE 1 status ++ bytesBE 2 prog ++ zeros 2
  | .lost sub n => bytesBE 1 5 ++ zeros 1 ++ bytesBE 4 sub ++ bytesBE 4 n

/-- The body of a NOTIFY that carries one entry (R543; log entry 11). -/
def noteBody (e : NEntry) : List Byte := bytesBE 2 1 ++ zeros 2 ++ pad4 e.bytes

/-- A sealed body: ciphertext and tag under K_DH and S_DH (R533, R534). -/
def sealBody (keys : List Byte) (seq frag : Nat) (header body : List Byte) : List Byte :=
  let key := slice keys 32 32
  let iv := slice keys 68 4 ++ bytesBE 4 seq ++ bytesBE 1 frag ++ zeros 3
  let ct := bytesBE body.length (Config.gcmSeal key iv header body)
  ct ++ bytesBE 16 (Config.gcmTag key iv header ct)

/-- One datagram of a message. -/
def datagram (sealed : Bool) (keys : List Byte) (kind ident seq frag : Nat) (body : List Byte) : List Byte :=
  let h := filuloHeader kind frag sealed.toNat ident seq body.length
  h ++ (if sealed then sealBody keys seq frag h body else body)

namespace State

/-- MSI-X messages leave the device only while the endpoint is enabled and has been released (R599, R673). -/
def msixOk (s : State) : Bool := bit s.straps 2 && s.phase == .running

/-- The D2H ring is full (R537). -/
def ringFull (s : State) : Bool := (s.mail.d2hTail + 1) % 16 == s.mail.d2hHead

/-- Since when the D2H ring has been full. -/
def ringClock (s : State) : State :=
  let r := s.mail
  { s with mail := { r with fullSince := if s.ringFull then some (r.fullSince.getD s.now) else none } }

/-- Write a message into the next D2H slot, and tell the host (R537). -/
def ringSend (s : State) (sid : Nat) (m : List Byte) : State :=
  let r := s.mail
  let t := { s with mail := { r with d2hTail := (r.d2hTail + 1) % 16, d2h := r.d2h ++ [m] } }.emit (.filulo sid m)
  (if t.msixOk then t.emit (.msix 0) else t).ringClock

/-- Put a whole message into the D2H ring, or in the queue that waits for room (R537). -/
def ringPut (s : State) (sid : Nat) (m : List Byte) : State :=
  if s.ringFull ∨ s.mail.wait ≠ [] then { s with mail := { s.mail with wait := s.mail.wait ++ [(sid, m)] } }
  else s.ringSend sid m

/-- The session's own state. -/
def sess? (s : State) (sid : Nat) : Option SessSt := SMap.find? s.sess sid

/-- Change a session's own state. -/
def setSess (s : State) (sid : Nat) (x : SessSt) : State := { s with sess := SMap.put s.sess sid x }

/-- Neloas can send: a control core and the object engine are not frozen, nor, for the management ports, MGMT (R588). -/
def talks (s : State) (mailbox : Bool) : Bool :=
  s.n (O17.MASTER_STATE 0x105) != 1 && ([0x100, 0x101, 0x102, 0x103].any fun m => s.n (O17.MASTER_STATE m) != 1) &&
  (mailbox || s.n (O17.MASTER_STATE 0x10D) != 1)

/-- Send a message with a given SEQ (R524, R534, R537). -/
def transmit (s : State) (sid : Nat) (x : SessSt) (kind seq : Nat) (body : List Byte) : State :=
  if ¬ s.talks (mailboxSess sid) then s
  else if mailboxSess sid then
    s.ringPut sid (datagram (decide (0x10 ≤ kind) && s.b O1C.MAILBOX_SEAL) x.keys kind x.ident seq 0 body)
  else
    let l := chunks 8 body
    let sealed := decide (0x10 ≤ kind ∨ kind = 4)
    s.forEach (l.zipIdx) fun t c =>
      t.emit (.filulo sid (datagram sealed x.keys kind x.ident seq (c.2 * 16 + (l.length - 1)) c.1))

/-- Send a message of a session, with its next SEQ (R526). -/
def sendMsg (s : State) (sid kind : Nat) (body : List Byte) : State :=
  match s.sess? sid with
  | none => s
  | some x =>
    if kind < 0x10 then s.transmit sid x kind 0 body
    else
      let x' := { x with sent := x.sent + 1 }
      (s.setSess sid x').transmit sid x' kind x'.sent body

/-- Send a RESPONSE and cache it: the last 64 (R526). -/
def respond (s : State) (sid : Nat) (r : Resp) : State :=
  match s.sess? sid with
  | none => s
  | some x => (s.setSess sid { x with cache := ((r.seq, x.sent + 1, r) :: x.cache).take 64 }).sendMsg sid 0x11 r.bytes

/-- Whether an entry is one that is never dropped (R544). -/
def keptEntry : NEntry → Bool
  | .txDone .. => true
  | .job .. => true
  | _ => false

/-- Add an entry to a session's queue and send it. -/
def pushNote (s : State) (sid : Nat) (x : SessSt) (e : NEntry) : State :=
  let x' := { x with sent := x.sent + 1, notes := x.notes ++ [⟨x.sent + 1, e, s.now, 0⟩] }
  ((s.setSess sid x').setN (O1C.SESS_QUEUE sid) x'.notes.length).transmit sid x' 0x12 x'.sent (noteBody e)

/-- The rest of the queue has room: 448 of the 512 entries (R544). -/
def notesFit (x : SessSt) : Bool := decide ((x.notes.filter fun n => !keptEntry n.entry).length < 448)

/-- The first entry of an onset that finds the rest of the queue full raises 0x1C3 (R544). -/
def noteOverflow (s : State) (sid : Nat) (x : SessSt) : State :=
  if x.overflow then s.setSess sid x
  else ((s.setSess sid { x with overflow := true }).flag O1C.FILULO_FLAGS 4).raise 0x1C3 sid (d16 sid)

/-- Replace the queued VALUE entry of the same object (R544). -/
def replaceValue (l : List Note) (e : NEntry) : List Note :=
  match e with
  | .value sub _ item => l.map fun n =>
      match n.entry with
      | .value sub' _ item' => if sub' = sub ∧ item'.obj = item.obj then { n with entry := e } else n
      | _ => n
  | _ => l

/-- Queue an entry for a session (R543, R544). -/
def note (s : State) (sid : Nat) (e : NEntry) : State :=
  match s.sess? sid with
  | none => s
  | some x =>
    if s.n (O1C.SESS_STATE sid) ≠ 2 then s
    else if keptEntry e ∨ notesFit x then s.pushNote sid x e
    else match e with
      | .event sub _ =>
        s.noteOverflow sid { x with subs := x.subs.map fun u =>
          if u.id = sub then { u with dropped := u.dropped + 1 } else u }
      | _ => s.noteOverflow sid { x with notes := replaceValue x.notes e }

/-- Queue an event for every subscription that covers it (R542, R671). -/
def notifyEvent (s : State) (r : Rec) : State :=
  s.forEach s.sess fun t e => t.forEach e.2.subs fun t u =>
    if u.events ∧ u.obj ≤ r.event ∧ r.event ≤ u.lastEvent ∧ u.minSeverity ≤ r.severity then t.note e.1 (.event u.id r) else t

/-- A record enters the log; the oldest leaves when 1,024 are held (R678). -/
def logRecord (s : State) (r : Rec) : State :=
  let l := (r, false) :: s.evu.log
  let t := { s with evu := { s.evu with log := l.take 1024 } }.setN O1A.LOG_NEWEST r.seq
  if (l.drop 1024).any fun e => !e.2 then (t.flag O1A.EVU_FLAGS 1).raiseLim 0x1A0 noInst [] 192000 else t

/-- Route one record as its route directs (R671, R674). -/
def routeRecord (s : State) (r : Rec) : State :=
  let t := if bit r.route 0 then s.logRecord r else s
  let t := if bit r.route 1 then t.notifyEvent r else t
  if bit r.route 2 ∧ ¬ s.safeHold then { t with evu := { t.evu with cue := t.evu.cue ++ [r.event] } } else t

/-- The MSI-X vectors of a tick's records: one message for each severity (R673). -/
def sendMsi (s : State) (l : List Rec) : State :=
  if s.msixOk then
    s.forEach [0, 1, 2, 3, 4] fun t sev =>
      if l.any fun r => r.severity == sev && bit r.route 4 then t.emit (.msix (1 + sev)) else t
  else s

/-- The seam's routing of the tick's records, and the start of the next tick's raisings (R674, R677). -/
def routeRecords (s : State) : State :=
  let l := s.evu.queue
  let n := s.evu.suppressed
  let t := { s with evu := { s.evu with queue := [], cue := [], late := true, made := 0, suppressed := 0 } }
  let t := (t.forEach l routeRecord).sendMsi l
  if n = 0 then t else t.raise 0x1A1 noInst (d32 n)

end State
end Sys2Proof.Machine
end

