-- ==== Sys2Proof/Machine/Jobs.lean ====
section
/-! DEFINITION. Jobs: slots, states and limits (R545 to R547, R566). -/

namespace Sys2Proof.Machine

/-- No job. -/
def JobSt.none_ : JobSt := ⟨0, .num 0, 0, none, 0, [], 0, 0, [], 0, 0, false, none, []⟩

namespace State

/-- The owner of a job learns of its state (R543). -/
def noteJob (s : State) (j : Nat) : State :=
  let o := s.n (O1B.JOB_OWNER j)
  if o < 0x24 then
    s.note o (.job j (s.n (O1B.JOB_STATE j)) (s.n (O1B.JOB_STATUS j)) (s.n (O1B.JOB_PROGRESS j)))
  else s

/-- Slots in a state. -/
def jobsIn (s : State) (st : Nat) : List Nat := (List.range 64).filter fun j => s.n (O1B.JOB_STATE j) == st

/-- JOBS_RUNNING and JOBS_QUEUED (R550). -/
def countJobs (s : State) : State :=
  (s.setN O1B.JOBS_RUNNING (s.jobsIn 2).length).setN O1B.JOBS_QUEUED (s.jobsIn 1).length

/-- A job's own state. -/
def job? (s : State) (j : Nat) : Option JobSt := SMap.find? s.jobs j

/-- Change a job's own state. -/
def setJob (s : State) (j : Nat) (x : JobSt) : State := { s with jobs := SMap.put s.jobs j x }

/-- A job enters RUNNING: JOB_STARTED on its first start, and 0x1B0 or 0x1B2 (R545). -/
def runJob (s : State) (j ev : Nat) : State :=
  ((((s.setN (O1B.JOB_STATE j) 2).setN (O1B.JOB_STARTED j) s.tick64).countJobs).raise ev j []).noteJob j

/-- The first queued job in order of start. -/
def nextJob (s : State) : Option Nat :=
  (s.jobsIn 1).foldl (fun a j =>
    match a with
    | none => some j
    | some i => if ((s.job? j).map (·.order)).getD 0 < ((s.job? i).map (·.order)).getD 0 then some j else a) none

/-- A running job left RUNNING: the first in order runs (R545). -/
def promoteJob (s : State) : State :=
  let t := s.countJobs
  if t.n O1B.JOBS_RUNNING < t.n O1B.JOBS_LIMIT then
    match t.nextJob with
    | some j => t.runJob j 0x1B0
    | none => t
  else t

/-- A job of an object that is QUEUED, RUNNING or SUSPENDED (R566). -/
def jobOf (s : State) (k : Key) : Option Nat :=
  (List.range 64).find? fun j => s.n (O1B.JOB_OBJECT j) == k && (1 ≤ s.n (O1B.JOB_STATE j)) && decide (s.n (O1B.JOB_STATE j) ≤ 3)

/-- A job starts: it takes the lowest free slot, and runs or waits. The status is PENDING, or BUSY where the object has a job or no
slot is free (R545, R566). -/
def startJob (s : State) (sess : Nat) (role : Nat) (k : Key) (arg : Val) (par : List Nat) : State × Nat × Nat :=
  match s.jobOf k, s.jobsIn 0 with
  | some _, _ => (s, BUSY, 0)
  | none, [] => (s, BUSY, 0)
  | none, j :: _ =>
    let order := s.jobs.foldl (fun a e => max a (e.2.order + 1)) 0
    let x : JobSt := ⟨k, arg, role, if sess < 0x24 then some sess else none, order, [], 0, 0, par, 0, 0, false, none, []⟩
    let t := ((((((s.setJob j x).setN (O1B.JOB_OBJECT j) k).setN (O1B.JOB_STATUS j) PENDING).setN (O1B.JOB_PROGRESS j) 0).setN
      (O1B.JOB_OWNER j) sess).setBytes (O1B.JOB_RESULT j) []).setN (O1B.JOB_ENDED j) 0
    if s.n O1B.JOBS_RUNNING < s.n O1B.JOBS_LIMIT then (t.runJob j 0x1B0, PENDING, j)
    else (((t.setN (O1B.JOB_STATE j) 1).countJobs).noteJob j, PENDING, j)

/-- A job enters DONE with a status and a result (R545). -/
def endJob (s : State) (j status : Nat) (result : List Byte) : State :=
  let x := (s.job? j).getD JobSt.none_
  let t := s.setJob j { x with ask := 0, doneAt := s.now }
  let t := ((t.setN (O1B.JOB_STATE j) 4).setN (O1B.JOB_STATUS j) status).setN (O1B.JOB_ENDED j) s.tick64
  let t := if result = [] then t else t.setBytes (O1B.JOB_RESULT j) result
  let t := if status = OK then t.setN (O1B.JOB_PROGRESS j) 1000 else t
  ((t.raise (if status = OK ∨ status = CANCELLED then 0x1B3 else 0x1B4) j (d8 status)).noteJob j).promoteJob

/-- A job's data is complete and the host may fetch it: JOB_RESULT tells its length (R547). The job runs until the last byte is fetched. -/
def offerJob (s : State) (j : Nat) (data result : List Byte) : State :=
  match s.job? j with
  | some x => (s.setJob j { x with data := data, next := 0, ready := true }).setBytes (O1B.JOB_RESULT j) result
  | none => s

/-- A job is suspended (R545). -/
def suspendJob (s : State) (j : Nat) : State :=
  match s.job? j with
  | none => s
  | some x =>
    let t := ((s.setJob j { x with ask := 0 }).setN (O1B.JOB_STATE j) 3).setN (O1B.JOB_STATUS j) SUSPENDED
    ((t.raise 0x1B1 j []).noteJob j).promoteJob

/-- A slot is freed (R545). -/
def freeJob (s : State) (j : Nat) : State :=
  let t := { s with jobs := SMap.del s.jobs j }
  ((((((((t.clearObj (O1B.JOB_STATE j)).clearObj (O1B.JOB_OBJECT j)).clearObj (O1B.JOB_STATUS j)).clearObj
    (O1B.JOB_PROGRESS j)).clearObj (O1B.JOB_STARTED j)).clearObj (O1B.JOB_ENDED j)).clearObj (O1B.JOB_OWNER j)).clearObj
    (O1B.JOB_RESULT j))

/-- Whether a job programs the journal now (R545). -/
def jobWrites (s : State) (j : Nat) : Bool :=
  s.jrnl.todo.any fun e => match e.2 with
    | .snapshot i => i == j
    | .switch i => i == j
    | _ => false

/-- The running job of an object, whose work may go on. -/
def runningJob (s : State) (k : Key) : Option Nat :=
  (List.range 64).find? fun j => s.n (O1B.JOB_OBJECT j) == k && s.n (O1B.JOB_STATE j) == 2

end State
end Sys2Proof.Machine
end

