-- ==== Sys2Proof/Machine/Lanes.lean ====
section
/-! DEFINITION. Serial lanes: the commands of class 11 and their work at the seam (R412 to R435). -/

namespace Sys2Proof.Machine

/-- A lane's own state where nothing has happened yet (log entry 9). -/
def LaneSt.fresh : LaneSt := ⟨false, 0, none, false, none, false, [], 0, 0, 0, false, false, [], 0, 0, 0, none⟩

/-- A trunk lane, by its class 11 instance (R432). -/
def trunkLane (l : Nat) : Bool := decide (0x100 ≤ l)

/-- The bridge port of a lane (R345). -/
def lanePort (l : Nat) : Nat := if l < 0x100 then l else 192 + (l - 0x100)

/-- The lanes of the group that a mode makes with its first lane (R412). -/
def groupLanes (l mode : Nat) : List Nat :=
  match mode with
  | 4 => [l, l + 1, l + 2, l + 3]
  | 7 => [l, l + 1]
  | 8 => [l, l + 1, l + 2, l + 3]
  | _ => [l]

/-- The rate code of a mode (R412, R433); TEST and SDI take theirs elsewhere. -/
def modeRate (mode : Nat) : Nat :=
  match mode with
  | 2 => 0x20
  | 3 => 0x21
  | 4 => 0x21
  | 5 => 0x31
  | 6 => 0x31
  | 7 => 0x30
  | 8 => 0x31
  | _ => 0

/-- Symbols per second of a rate code (R412, R433): NRZ one bit, PAM4 two bits a symbol. -/
def symbolRate (rate : Nat) : Nat :=
  match rate with
  | 0x01 => 2970000000 | 0x02 => 1485000000 | 0x03 => 2970000000 | 0x04 => 5940000000 | 0x05 => 11880000000
  | 0x06 => 23760000000 | 0x12 => 1483516484 | 0x13 => 2967032967 | 0x14 => 5934065934 | 0x15 => 11868131868
  | 0x16 => 23736263736 | 0x20 => 10312500000 | 0x21 => 25781250000 | 0x22 => 28100000000 | 0x30 => 26562500000
  | 0x31 => 53125000000 | _ => 0

/-- Steps of a run of zeros from the centre of a row of an eye (R428). -/
def openRun : List Nat → Nat
  | 0 :: l => 1 + openRun l
  | _ => 0

/-- EYE_RESULT of one eye: rows from y = +31 down to -31, columns from x = -32 to +32 (R428). -/
def eyeResult (rows : List (List Nat)) : List Byte :=
  let mid := rows.getD 31 []
  let col := rows.map fun r => r.getD 32 1
  let left := openRun ((mid.take 32).reverse)
  let right := openRun (mid.drop 33)
  let up := openRun ((col.take 31).reverse)
  let down := openRun (col.drop 32)
  d8 left ++ d8 right ++ d8 up ++ d8 down ++ d16 (((left + right) * 1000 + 32) / 64) ++ d16 ((up + down) * 4)

/-- The map of a scan (R428). -/
def eyeMap (lane rate eyes dwell start : Nat) (rows : List (List Nat)) : List Byte :=
  d16 lane ++ d8 rate ++ d8 eyes ++ d8 dwell ++ zeros 3 ++ d64 start ++
  rows.flatMap fun r => r.flatMap fun n => d32 (min n 0xFFFFFFFF)

namespace State

/-- A lane's own state. -/
def lane (s : State) (l : Nat) : LaneSt := s.lanes.getD l LaneSt.fresh

/-- Change a lane's own state. -/
def setLane (s : State) (l : Nat) (x : LaneSt) : State := { s with lanes := s.lanes.put l x }

/-- The first output of the group that an output belongs to (R200). -/
def outHead (s : State) (o : Nat) : Nat :=
  if s.n (O07.OUT_LINK_MODE o) = 3 then (if s.n (O07.OUT_LINK_MODE (o / 4 * 4)) = 1 then o / 4 * 4 else o / 2 * 2) else o

/-- The outputs of the group that an output heads (R200). -/
def outGroup (s : State) (o : Nat) : List Nat :=
  match s.n (O07.OUT_LINK_MODE o) with
  | 1 => [o, o + 1, o + 2, o + 3]
  | 2 => [o, o + 1]
  | _ => [o]

/-- TX_STATE: OFF, IDLE while R134 or R215 holds the transmitter idle, otherwise ACTIVE (R416). -/
def laneTx (s : State) (l : Nat) : State :=
  let m := s.n (O11.LANE_MODE l)
  let o := s.outHead l
  let idle := !(s.lane l).released ||
    (m == 1 && (decide (s.n (O07.OUT_STATE o) < 2) || s.n (O07.SQUELCH_CAUSE o) != 0))
  s.setN (O11.TX_STATE l) (if m = 0 then 0 else if idle then 1 else 2)

/-- Why an output must be at electrical idle: 1 disabled, 2 its VTS, 3 a lane PLL; 0 it need not (R215). -/
def outCause (s : State) (o : Nat) : Nat :=
  if ¬ s.b (O07.OUT_ENABLE o) then 1
  else if s.n (O03.VTS_STATE (0x20 + s.n (O07.OUT_VTS o))) ≠ 0 then 2
  else if (s.outGroup o).any fun l => !(s.lane l).released then 3
  else 0

/-- An output goes to electrical idle while a cause stands; it leaves idle at a frame start (R215). -/
def outSquelch (s : State) (o : Nat) : State :=
  let c := s.outCause o
  if c = 0 then s
  else
    let was := s.n (O07.OUT_STATE o)
    let t := (s.setN (O07.SQUELCH_CAUSE o) c).setN (O07.OUT_STATE o) (if c = 1 then 0 else 1)
    let t := if 2 ≤ was then (t.flag (O07.OUT_FLAGS o) 1).raise 0x070 o [] else t
    (t.setN (O0C.EMBED_STATE (0xD00 + o)) 0).forEach (s.outGroup o) laneTx

/-- A lane PLL loses lock (R134). -/
def lanePllLost (s : State) (l : Nat) : State :=
  let t := s.setLane l { s.lane l with released := false, lostAt := s.now }
  (if t.n (O11.LANE_MODE l) = 1 ∧ l < 0x100 then t.outSquelch (t.outHead l) else t).laneTx l

/-- The checker falls to SEARCH (R430). -/
def laneSearch (s : State) (l : Nat) : State :=
  let t := s.setLane l { s.lane l with winSearch := true }
  if t.n (O11.CHK_STATE l) = 2 then t.setN (O11.CHK_STATE l) 1 else t

/-- The values that a lane's equaliser starts from: as written under MANUAL, the last converged under FROZEN, and under ADAPT the last
converged or the defaults (R416, R418). -/
def laneStart (s : State) (l : Nat) (defaults : Bool) : State :=
  let d := (s.n (O11.CTLE_PEAK l), s.bs (O11.DFE_TAPS l))
  let x := s.lane l
  let v := match s.n (O11.EQ_MODE l) with
    | 0 => if defaults then d else x.converged.getD d
    | 1 => x.converged.getD d
    | _ => d
  s.setLane l { x with eq := some v }

/-- The receiver enters ADAPTING (R416). -/
def laneAdapt (s : State) (l : Nat) (defaults : Bool) : State :=
  let t := (s.setN (O11.RX_STATE l) 2).laneStart l defaults
  t.setLane l { t.lane l with adapting := s.now }

/-- The limit of ADAPTING in ticks (R416): 200 µs in SDI, of which the last is a part, 50 ms in other NRZ modes, 200 ms in PAM4 modes. -/
def adaptLimit (s : State) (l : Nat) : Nat := if s.n (O11.LANE_MODE l) = 1 then 38 else if trunkLane l then 38400 else 9600

/-- An eye scan of a lane ends without a map (R427). -/
def abortScan (s : State) (l : Nat) : State :=
  match s.jobOf (O11.EYE_SCAN l) with
  | some j => if s.n (O1B.JOB_STATE j) = 1 ∨ ((s.job? j).getD JobSt.none_).ready then s else s.endJob j ABORTED []
  | none => s

/-- The receiver leaves LOCKED or ADAPTING (R416). -/
def laneLost (s : State) (l dst : Nat) : State :=
  if s.n (O11.RX_STATE l) = 3 then
    (((((if dst = 2 then s.laneAdapt l false else s.setN (O11.RX_STATE l) dst).bump (O11.RX_LOCK_LOSSES l) 1).flag (O11.LANE_FLAGS l) 1).raise
      0x111 l []).abortScan l)
  else if s.n (O11.RX_STATE l) = 2 ∧ dst = 1 then s.setN (O11.RX_STATE l) 1
  else s

/-- Bits checked since the last report enter the counters of a lane in TEST (R425, R426). -/
def countBits (s : State) (l errors bits : Nat) : State :=
  let e := s.n (O11.ERR_BITS l) + errors
  let t := (s.setN (O11.ERR_BITS l) (min e (2 ^ 48 - 1))).setN (O11.TOTAL_BITS l) ((s.n (O11.TOTAL_BITS l) + bits) % 2 ^ 64)
  let x := t.lane l
  let t := t.setLane l { x with winErr := x.winErr + errors, winBits := x.winBits + bits }
  if 2 ^ 48 - 1 ≤ e ∧ s.n (O11.ERR_BITS l) < 2 ^ 48 - 1 then (t.flag (O11.LANE_FLAGS l) 16).raise 0x117 l [] else t

/-- A window is reported (R426). -/
def reportWindow (s : State) (l errors bits : Nat) (search : Bool) : State :=
  let t := (s.setN (O11.WIN_ERR l) errors).setN (O11.WIN_BITS l) bits
  let t := if search then t.flag (O11.LANE_FLAGS l) 128 else t
  if bits < errors * 10 ^ (s.n (O11.BER_LIMIT l)) then
    (t.flag (O11.LANE_FLAGS l) 8).raise 0x116 l (d64 errors ++ d64 bits)
  else t

/-- The checker's window ends, and the next begins (R426): in SAFE HOLD its report waits. -/
def endWindow (s : State) (l : Nat) : State :=
  let x := s.lane l
  let search := x.winSearch || s.n (O11.CHK_STATE l) == 1
  let u := s.setLane l { x with winErr := 0, winBits := 0, winSearch := s.n (O11.CHK_STATE l) == 1, winFrom := x.winFrom + s.n (O11.WINDOW_TICKS l) }
  if s.safeHold then u.setLane l { u.lane l with held := x.held ++ [(x.winErr, x.winBits, search)] }
  else u.reportWindow l x.winErr x.winBits search

/-- The present tick is the last of the checker's window, or lies behind it (R426). -/
def windowDue (s : State) (l : Nat) : Bool := decide ((s.lane l).winFrom + s.n (O11.WINDOW_TICKS l) ≤ s.now + 1)

/-- An eye scan of the lane runs, and its equaliser's adaptation is frozen (R427). -/
def scanning (s : State) (l : Nat) : Bool := (s.runningJob (O11.EYE_SCAN l)).isSome

/-- CTLE_NOW and DFE_NOW: the values in use, sampled at each seam (R418). Under ADAPT a LOCKED receiver keeps adapting, and what it adapts to is
open (openResult 30 and 31; log entry 42). -/
def eqSample (s : State) (l : Nat) : State :=
  match (s.lane l).eq with
  | none => s
  | some v =>
    let v := if s.n (O11.RX_STATE l) = 3 ∧ s.n (O11.EQ_MODE l) = 0 ∧ ¬ s.scanning l then
        (Config.openResult 30 [l, s.now] % 16, bytesBE (if trunkLane l then 12 else 5) (Config.openResult 31 [l, s.now]))
      else v
    ((s.setLane l { s.lane l with eq := some v }).setN (O11.CTLE_NOW l) v.1).setBytes (O11.DFE_NOW l) v.2

/-- A mode applied at a swap: the transmitter idle, the receiver from NO-SIGNAL, the checker from SEARCH (R413, R416, R424, R429). -/
def laneMode (s : State) (l mode : Nat) : State :=
  let x := s.lane l
  let t := (s.setLane l { LaneSt.fresh with converged := x.converged, winSearch := true, lostAt := s.now, winFrom := s.now + 1 }).abortScan l
  let t := (t.setN (O11.RX_STATE l) (if mode = 0 then 0 else 1)).setN (O11.LANE_RATE l)
    (if mode = 9 then t.n (O11.TEST_RATE l) else modeRate mode)
  let t := t.setN (O11.CHK_STATE l) (if mode = 9 ∧ t.n (O11.PRBS_CHK l) ≠ 0 then 1 else 0)
  let t := if mode = 5 then t else
    (((t.setN (O11.FILLER_DELETED l) 0).setN (O11.FILLER_INSERTED l) 0).setN (O11.ELASTIC_SLIPS l) 0).setN (O11.ELASTIC_FILL l) 0
  t.laneTx l

/-- The lanes that read MEMBER of the lane's group (R413). -/
def laneMembers (s : State) (l : Nat) : List Nat := (groupLanes l (s.n (O11.LANE_MODE l))).filter (· != l)

/-- EQ_MODE, CTLE_PEAK or DFE_TAPS has been written: a receiver that adapts or is LOCKED goes on with the values of its mode (R418). -/
def eqWritten (s : State) (l : Nat) : State := if 2 ≤ s.n (O11.RX_STATE l) then s.laneStart l false else s

/-- What an applied transaction changes in class 11 (R413, R414, R417, R430). -/
def lanesApplied (s : State) (k : Key) : State :=
  let l := instOf k
  match parOf k with
  | 0x000 =>
    let m := s.n (O11.LANE_MODE l)
    let q := l / 4 * 4
    let free := ([q, q + 1, q + 2, q + 3].filter fun i => s.n (O11.LANE_MODE i) == 10 &&
      !((List.range 4).any fun j => (s.laneMembers (q + j)).contains i))
    let t := s.forEach free fun t i => (t.setN (O11.LANE_MODE i) 0).laneMode i 0
    let t := t.laneMode l m
    t.forEach (t.laneMembers l) fun t i => (t.setN (O11.LANE_MODE i) 10).laneMode i m
  | 0x001 => s.forEach [l + 1, l + 2, l + 3] fun t i => t.setN (O11.LANE_LREF i) (s.n (O11.LANE_LREF l))
  | 0x004 => s.abortScan l
  | 0x006 => (s.abortScan l).eqWritten l
  | 0x007 => s.eqWritten l
  | 0x008 => s.eqWritten l
  | 0x009 => if s.n (O11.LANE_MODE l) = 9 then s.laneMode l 9 else s
  | 0x00C => if s.n (O11.LANE_MODE l) = 9 then
      (s.setLane l { s.lane l with winSearch := true }).setN (O11.CHK_STATE l) (if s.n (O11.PRBS_CHK l) = 0 then 0 else 1) else s
  | _ => s

/-- The lanes' work at a seam: windows held in SAFE HOLD are reported, CHK_RESTART zeroes the counters once a window that ends at the same seam has
been latched, and the equaliser and ELASTIC_FILL are sampled (R418, R421, R425, R426, R430). -/
def laneSeam (s : State) : State :=
  s.forEach s.lanes fun t e =>
    let x := t.lane e.1
    let t := if x.held = [] ∨ ¬ t.running then t
      else (t.setLane e.1 { x with held := [] }).forEach x.held fun t w => t.reportWindow e.1 w.1 w.2.1 w.2.2
    let t := if (t.lane e.1).restart then
        (let t := if t.windowDue e.1 ∧ t.n (O11.LANE_MODE e.1) = 9 then t.endWindow e.1 else t
         ((t.setLane e.1 { t.lane e.1 with
           restart := false, winErr := 0, winBits := 0, winSearch := t.n (O11.CHK_STATE e.1) == 1, winFrom := t.now + 1 }).setN
             (O11.ERR_BITS e.1) 0).setN (O11.TOTAL_BITS e.1) 0)
      else t
    let t := t.eqSample e.1
    let x := t.lane e.1
    if t.n (O11.LANE_MODE e.1) = 5 then t.setN (O11.ELASTIC_FILL e.1) x.elastic.length else t

/-- Whether an enabled object names a lane, its group or its bridge port (R413). -/
def laneNamed (s : State) (l : Nat) : Bool :=
  let p := lanePort l
  (!(trunkLane l) && (s.b (O06.IN_ENABLE l) || s.b (O07.OUT_ENABLE l))) ||
  (trunkLane l && s.b (O12.FURLONG_ENABLE (l - 0x100))) ||
  (s.objs.any fun e => clsOf e.1 == 0x0D && parOf e.1 == 0 && e.2.toNat != 0 &&
    (s.n (O0D.SEND_PATH_A (instOf e.1)) % 0x10000 == p || s.n (O0D.SEND_PATH_B (instOf e.1)) % 0x10000 == p)) ||
  (s.objs.any fun e => clsOf e.1 == 0x0E && parOf e.1 == 0 && e.2.toNat != 0 &&
    (s.n (O0E.RX_PATH_A (instOf e.1)) % 0x10000 == p || s.n (O0E.RX_PATH_B (instOf e.1)) % 0x10000 == p)) ||
  ([0x20, 0x21, 0x22, 0x23].any fun i => s.n (O02.PROFILE i) != 0 &&
    (let b := s.bs (O02.PTP_PORTS i)
     (List.range (b.length / 2)).any fun j => natBE (slice b (2 * j) 2) == p)) ||
  ((List.range 16).any fun c => s.n (O02.SOURCE_TYPE c) == 2 && s.n (O02.QL_CONFIG c) != 0 && s.n (O02.SOURCE_INDEX c) == p) ||
  (s.objs.any fun e => clsOf e.1 == 0x10 && decide (instOf e.1 < 0x800) && parOf e.1 == 6 && e.2.toNat != 0 &&
    s.n (O10.SH_PORT (instOf e.1)) == p)

/-- The item ranges of class 11 that depend on the lane's type alone (R414, R417, R432, R433). -/
def laneItemOk (k : Key) (v : Val) : Bool :=
  let trunk := trunkLane (instOf k)
  let b := v.bytes
  match parOf k with
  | 0x000 => decide (v.toNat ≤ 9)
  | 0x001 => if trunk then decide (8 ≤ v.toNat ∧ v.toNat ≤ 11) else decide (v.toNat ≤ 7)
  | 0x004 =>
    let t := b.map fun x => signed 8 x.toNat
    decide (b.length = if trunk then 5 else 3) && decide (0 < t.getD (if trunk then 3 else 1) 0) &&
    decide (t.foldl (fun a x => a + x.natAbs) 0 ≤ 64)
  | 0x008 => decide (b.length = if trunk then 12 else 5)
  | 0x009 => [0x01, 0x02, 0x03, 0x04, 0x05, 0x06, 0x12, 0x13, 0x14, 0x15, 0x16, 0x20, 0x21, 0x22, 0x30, 0x31].contains v.toNat
  | _ => true

/-- The conflicts of class 11: `s` in force, `t` as the transaction would leave it (R412 to R414, R419, R423, R433). -/
def laneConflict (s t : State) (k : Key) : Bool :=
  let l := instOf k
  let trunk := trunkLane l
  let m := t.n (O11.LANE_MODE l)
  s.n (O11.LANE_MODE l) == 10 ||
  (match parOf k with
   | 0x000 =>
     (if trunk then [1, 2, 3, 4].contains m else [5, 6, 7, 8].contains m) ||
     (m == 4 && l % 4 != 0) || (m == 7 && l % 2 != 0) || (m == 8 && l % 4 != 0) ||
     ((groupLanes l m).any fun i => i != l && t.n (O11.LANE_MODE i) != 0 && !((s.laneMembers l).contains i)) ||
     (m != s.n (O11.LANE_MODE l) && ((groupLanes l m ++ groupLanes l (s.n (O11.LANE_MODE l))).any s.laneNamed)) ||
     (!trunk && m != 1 && (t.b (O06.IN_ENABLE l) || t.b (O07.OUT_ENABLE l)))
   | 0x001 => l % 4 != 0
   | 0x009 => trunk != decide (0x30 ≤ t.n (O11.TEST_RATE l))
   | _ => false) ||
  (m != 9 && (t.n (O11.LOOPBACK l) != 0 || t.n (O11.PRBS_GEN l) != 0 || t.n (O11.PRBS_CHK l) != 0))

/-- CHK_RESTART: both counters are zeroed at the next seam (R425). -/
def actChkRestart (s : State) (l : Nat) : State := s.setLane l { s.lane l with restart := true }

/-- EYE_SCAN starts: CONFLICT on a lane that is not LOCKED, BUSY beyond 8 scans (R427). -/
def startEyeScan (s : State) (sess role l : Nat) : State × Nat × Nat :=
  let scans := (List.range 64).filter fun j => clsOf (s.n (O1B.JOB_OBJECT j)) == 0x11 && decide (2 ≤ s.n (O1B.JOB_STATE j)) &&
    decide (s.n (O1B.JOB_STATE j) ≤ 3)
  if s.n (O11.RX_STATE l) ≠ 3 then (s, CONFLICT, 0)
  else if 8 ≤ scans.length then (s, BUSY, 0)
  else
    let addr := ((s.sess? sess).map fun x => (x.own.getD (O11.EYE_MAP_ADDR l) (.num 0)).toNat).getD 0
    s.startJob sess role (O11.EYE_SCAN l) (.num 1) [addr]

end State

/-- The signal has been above threshold for 1 µs (R416). -/
def execRxSignalDetect (lane : Nat) (s : State) : Host.Outcome State Fault Refusal :=
  onInst 0x11 lane s fun s =>
    if s.n (O11.RX_STATE lane) = 1 then s.laneAdapt lane false else s

/-- The CDR has locked and the equaliser converged (R416, R418). -/
def execRxLocked (lane : Nat) (ctle : Nat) (dfe : List Byte) (s : State) : Host.Outcome State Fault Refusal :=
  onInst 0x11 lane s fun s =>
    if s.n (O11.RX_STATE lane) = 2 then
      let d := (s.n (O11.CTLE_PEAK lane), s.bs (O11.DFE_TAPS lane))
      let x := s.lane lane
      let v := match s.n (O11.EQ_MODE lane) with
        | 0 => (ctle % 16, dfe.take 12)
        | 1 => x.converged.getD d
        | _ => d
      let conv := if s.n (O11.EQ_MODE lane) = 0 then some v else x.converged
      ((s.setLane lane { x with converged := conv, eqReported := false, eq := some v }).setN (O11.RX_STATE lane) 3).raise 0x110 lane []
    else s

/-- ADAPTING exceeds its limit (R416). -/
def execAdaptationTimeout (lane : Nat) (s : State) : Host.Outcome State Fault Refusal :=
  onInst 0x11 lane s fun s =>
    if s.n (O11.RX_STATE lane) = 2 ∧ (s.lane lane).adapting + s.adaptLimit lane ≤ s.now then
      let t := (s.laneAdapt lane true).flag (O11.LANE_FLAGS lane) 2
      if (s.lane lane).eqReported then t
      else (t.setLane lane { t.lane lane with eqReported := true }).raise 0x113 lane []
    else s

/-- The signal drops below threshold, or the CDR loses lock (R416). -/
def execRxLost (lane : Nat) (signal : Bool) (s : State) : Host.Outcome State Fault Refusal :=
  onInst 0x11 lane s fun s => s.laneLost lane (if signal then 2 else 1)

/-- A received slot enters the elastic buffer (R421, R430). -/
def execElasticSlotRx (lane slot : Nat) (s : State) : Host.Outcome State Fault Refusal :=
  onInst 0x11 lane s fun s =>
    if s.n (O11.LANE_MODE lane) ≠ 5 then s else
    let x := s.lane lane
    if slot = 0 ∧ 8 < x.elastic.length then s.bump (O11.FILLER_DELETED lane) 1
    else if 16 ≤ x.elastic.length then
      (((s.setLane lane { x with elastic := x.elastic.take 15 ++ [slot] }).bump (O11.ELASTIC_SLIPS lane) 1).flag
        (O11.LANE_FLAGS lane) 32).raiseLim 0x11A lane [] 192000
    else s.setLane lane { x with elastic := x.elastic ++ [slot] }

/-- A local slot time (R421). -/
def execElasticSlotRead (lane : Nat) (s : State) : Host.Outcome State Fault Refusal :=
  onInst 0x11 lane s fun s =>
    if s.n (O11.LANE_MODE lane) ≠ 5 then s else
    let x := s.lane lane
    if x.elastic.length < 8 then (s.setLane lane { x with slot := 0 }).bump (O11.FILLER_INSERTED lane) 1
    else s.setLane lane { x with elastic := x.elastic.drop 1, slot := x.elastic.headD 0 }

/-- The update every 192 ticks of RATE_OFFSET, and its limit of 300 ppm (R422). -/
def execRateOffsetUpdate (lane : Nat) (offset : Int) (s : State) : Host.Outcome State Fault Refusal :=
  onInst 0x11 lane s fun s =>
    let t := s.setZ 32 (O11.RATE_OFFSET lane) offset
    let x := t.lane lane
    if offset.natAbs ≤ 30000 then t.setLane lane { x with rateSince := none, rateReported := false }
    else
      let since := x.rateSince.getD s.now
      let t := t.setLane lane { x with rateSince := some since }
      if since + 192 ≤ s.now ∧ ¬ x.rateReported then
        ((t.setLane lane { t.lane lane with rateReported := true }).flag (O11.LANE_FLAGS lane) 64).raise 0x119 lane []
      else t

/-- The checker enters SYNC, or falls back to SEARCH (R424, R425). -/
def execPrbsSync (lane : Nat) (lost : Bool) (errors bits : Nat) (s : State) : Host.Outcome State Fault Refusal :=
  onInst 0x11 lane s fun s =>
    if lost ∧ s.n (O11.CHK_STATE lane) = 2 then
      ((((s.countBits lane errors bits).laneSearch lane).bump (O11.SYNC_LOSSES lane) 1).flag (O11.LANE_FLAGS lane) 4).raise 0x115 lane []
    else if ¬ lost ∧ s.n (O11.CHK_STATE lane) = 1 then (s.setN (O11.CHK_STATE lane) 2).raise 0x114 lane []
    else s

/-- A window ends (R426). -/
def execWindowEnd (lane errors bits : Nat) (s : State) : Host.Outcome State Fault Refusal :=
  onInst 0x11 lane s fun s =>
    if s.n (O11.LANE_MODE lane) ≠ 9 ∨ ¬ s.windowDue lane then s else
    (if s.n (O11.CHK_STATE lane) = 2 then s.countBits lane errors bits else s).endWindow lane

/-- The CHK_RESTART action (R425). -/
def execChkRestart (lane : Nat) (s : State) : Host.Outcome State Fault Refusal :=
  onInst 0x11 lane s fun s => s.actChkRestart lane

/-- The EYE_SCAN job of a session starts (R427). -/
def execEyeScan (sess lane : Nat) (s : State) : Host.Outcome State Fault Refusal :=
  onInst 0x11 lane s fun s => if s.accepts then (s.startEyeScan sess (s.n (O1C.SESS_ROLE sess)) lane).1 else s

/-- The ticks of a scan (R427): each point of each eye takes its dwell and a tick for settling. -/
def State.scanTicks (s : State) (lane eyes : Nat) : Nat :=
  eyes * 4095 * (ceilDiv (10 ^ s.n (O11.EYE_DWELL lane) * 192000) (max 1 (symbolRate (s.n (O11.LANE_RATE lane)))) + 1)

/-- A scan completes (R428): its first point began with the first tick after its start. -/
def execEyeScanDone (lane : Nat) (rows : List (List Nat)) (s : State) : Host.Outcome State Fault Refusal :=
  onInst 0x11 lane s fun s =>
    match s.runningJob (O11.EYE_SCAN lane) with
    | none => s
    | some j =>
      if ((s.job? j).getD JobSt.none_).ready then s
      else if s.n (O11.RX_STATE lane) ≠ 3 then s.abortScan lane else
      let eyes := if [0x30, 0x31].contains (s.n (O11.LANE_RATE lane)) then 3 else 1
      let startTick := s.n (O1B.JOB_STARTED j) + 1
      if s.tick64 < startTick + s.scanTicks lane eyes then s else
      let m := eyeMap lane (s.n (O11.LANE_RATE lane)) eyes (s.n (O11.EYE_DWELL lane)) startTick rows
      let res := padTo 24 ((List.range eyes).flatMap fun e => eyeResult ((rows.drop (63 * e)).take 63))
      let x := (s.job? j).getD JobSt.none_
      let addr := x.par.headD 0
      let t := (s.setBytes (O11.EYE_RESULT lane) res).raise 0x118 lane res
      if addr = 0 then t.offerJob j m (d32 m.length)
      else (t.emit (.media 0x50 addr (m.map (·.toNat)))).endJob j OK (d32 m.length)

end Sys2Proof.Machine
end

