-- ==== Sys2Proof/Machine/Discipline.lean ====
section
/-! DEFINITION. The disciplined estimate and what runs from it: the tick period, and the synthesizers with their counters (R43, R44, R81,
R99 to R107, R129, R721). A frequency is in units of 1/96 of 0.01 ppb, so that 0.5 ppm/s is 25 units in a tick; a phase is in units of
1/1,843,200 ps, so that a frequency of one unit moves one unit of phase in a tick. -/

namespace Sys2Proof.Machine

/-- The frequency 1, and the length of a tick in phase units. -/
def units : Nat := 9600000000000

/-- A picosecond in phase units. -/
def psUnits : Nat := 1843200

/-- A synthesizer where nothing has happened yet (log entry 9). -/
def SynthSt.fresh : SynthSt := ⟨0, 0, 0, false, none, true, 0⟩

/-- Integer square root, rounded down, by bisection over the given number of halvings. -/
def isqrt : Nat → Nat → Nat → Nat → Nat
  | 0, lo, _, _ => lo
  | f + 1, lo, hi, n => let m := (lo + hi + 1) / 2
    if m * m ≤ n then isqrt f m hi n else isqrt f lo (m - 1) n

/-- A frequency one tick nearer to the one that is aimed at: at most 0.5 ppm/s (R101, R105). -/
def slewTo (f aim : Int) : Int := if aim < f - 25 then f - 25 else if f + 25 < aim then f + 25 else aim

/-- The offset in frequency that a pull-in of a phase runs at: SLOPE in ns/s, or less where the slew limit must begin to end it (R101,
R102). -/
def pullSpeed (slope left : Nat) : Nat :=
  let v := 9600 * slope
  if v * (v + 25) ≤ 50 * left then v else (isqrt 26 0 (2 ^ 25) (200 * left + 625) - 25) / 2

/-- The signed offset in frequency of a pull-in. -/
def pullAim (slope : Nat) (left : Int) : Int :=
  if 0 ≤ left then (pullSpeed slope left.toNat : Int) else -(pullSpeed slope (-left).toNat : Int)

/-- The shortest signed difference within a period (R101). -/
def shortest (d : Int) (period : Nat) : Int := Int.emod (d + period / 2) period - period / 2

/-- A frequency against the one base, expressed against another: both are ratios to the crystal in 0.01 ppb (R81, R107). -/
def rebase (f old new : Int) : Int := (units + f) * (units + 96 * new) / (units + 96 * old) - units

/-- The tick period of an estimate, in Q24.40 cycles of the fabric clock, where the crystal runs at `x` against its base (R81, R107);
rounded down (log entry 30). -/
def tperOf (x f : Int) : Nat := ((8000 * 2 ^ 40 : Int) * (units + 96 * x) / (units + f)).toNat

/-- The estimate that a tick period stands for. -/
def freqOf (x : Int) (tper : Nat) : Int := (8000 * 2 ^ 40 : Int) * (units + 96 * x) / tper - units

/-- The group of rates that an ACS or a reference belongs to: 1 for the 44.1 kHz family, 0 for the rest (R101; log entry 13). -/
def audioFamily (hz : Nat) : Nat := if hz % 11025 = 0 then 1 else 0

namespace State

/-- STAB_IN is QUALIFIED (R85). -/
def stabOk (s : State) : Bool := s.n O02.STAB_STATE == 2

/-- The crystal against what frequencies are measured from: STAB_IN, or the ratio frozen in holdover; without either, the crystal itself
(R87, R99, R107). -/
def xtalRatio (s : State) : Int := if s.stabOk then s.z 32 O02.XTAL_OFFSET else s.timing.frozen.getD 0

/-- The base of the measurements changes: the estimate, its history and TPER stay what they were against the crystal (R81, R87, R107). -/
def rebased (s : State) (old new : Int) : State :=
  if old = new then s
  else
    let tm := s.timing
    { s with timing := { tm with
      freq := rebase tm.freq old new, history := tm.history.map fun e => (e.1, rebase (96 * e.2) old new / 96) } }

/-- The selected reference's frequency. -/
def refFreq (s : State) : Int := 96 * s.z 32 (O02.FREQ_OFFSET (s.n O02.SELECTED))

/-- The frequency that the loop of a locked reference asks for: the reference's own, but for up to SLOPE either way as the loop corrects
phase. The spec gives BANDWIDTH and no law of the loop: the value within the limits is free (R105; log entry 30). -/
def loopAim (s : State) : Int :=
  let c := s.n O02.SELECTED
  let w := 9600 * s.n O02.SLOPE
  s.refFreq + (Config.openResult 17 [c, s.n (O02.BANDWIDTH c), s.tick.up] % (2 * w + 1) : Nat) - w

/-- The estimate, and what is left to pull. -/
def setEstimate (s : State) (f pull : Int) : State := { s with timing := { s.timing with freq := f, pull := pull } }

/-- The estimate of the next tick, by the selector's state (R81, R99, R101, R105, R106, R110): free-run moves to nominal, a locked reference
is followed, a pull-in removes frequency and phase at their limits, and holdover holds. -/
def discipline (s : State) : State :=
  match s.n O02.SEL_STATE with
  | 0 => s.setEstimate (slewTo s.timing.freq 0) 0
  | 1 => s.setEstimate (slewTo s.timing.freq s.loopAim) 0
  | 2 =>
    let f := slewTo s.timing.freq (s.refFreq + pullAim (s.n O02.SLOPE) s.timing.pull)
    s.setEstimate f (s.timing.pull - (f - s.refFreq))
  | _ => s

/-- The phase target of the device is a time: PTP, BEACON, or PPS with PPS_TIME (R101). -/
def timeTarget (s : State) : Bool :=
  s.n O02.SEL_STATE != 0 && (s.timing.lastType == 1 || s.timing.lastType == 9 || (s.timing.lastType == 8 && s.n O01.PPS_TIME != 0))

/-- Whether a synthesizer has a phase target now: VTS0 to VTS15 at 0 to 15, ACS0 to ACS7 at 16 to 23 (R101, R103). -/
def hasTarget (s : State) (y : Nat) : Bool :=
  let ty := if s.n O02.SEL_STATE = 0 ∨ s.n O02.SEL_STATE = 3 then 0 else s.timing.lastType
  let nominal := s.n (O02.NOMINAL s.timing.lastCand)
  s.timeTarget ||
  ((ty == 3 || ty == 4) && decide (y < 16) && rateFractional (nominal % 16) == (s.n (O03.VTS_FAMILY (0x20 + y)) == 1)) ||
  ((ty == 6 || ty == 7) && decide (16 ≤ y) && audioFamily (acsHz nominal) == audioFamily (acsHz (s.n (O03.ACS_RATE (0x20 + y)))))

/-- The frames of a VTS, or the sample blocks of an ACS, in a second, as a fraction (R103, R130, R131): a block is the 192 samples of an
AES3 block. -/
def synthRate (s : State) (y : Nat) : Nat × Nat :=
  if y < 16 then rateFrac (s.n (O03.VTS_FRAME_RATE (0x20 + y))) else (acsHz (s.n (O03.ACS_RATE (0x20 + y))), 192)

/-- A frame or a block of a synthesizer, in phase units times the rate's numerator. -/
def synthPeriod (s : State) (y : Nat) : Nat := 192000 * units * (s.synthRate y).2

/-- The timing offset of a synthesizer in phase units (R136). -/
def synthOffset (s : State) (y : Nat) : Int :=
  (if y < 16 then s.z 32 (O03.VTS_OFFSET (0x20 + y)) else s.z 32 (O03.ACS_OFFSET (0x20 + y))) * (1000 * psUnits)

/-- Where the target of a synthesizer stands at the end of the present tick: on the grid that TICK64 counts, by its offset, and by the lead
of a frame or sample reference (R101; log entry 31). -/
def gridPos (s : State) (y : Nat) : Int :=
  let lead : Int := if s.timeTarget then 0 else s.z 64 (O02.PHASE_OFFSET s.timing.lastCand) * psUnits
  Int.emod ((((s.tick64 + 1) * units : Nat) - s.synthOffset y + lead) * (s.synthRate y).1) (s.synthPeriod y)

/-- What a synthesizer has to pull to its target: nothing where its target is frequency only (R101). -/
def phaseTo (s : State) (y : Nat) (x : SynthSt) : Int :=
  if s.hasTarget y then shortest (s.gridPos y - x.pos) (s.synthPeriod y) / max 1 (s.synthRate y).1 else 0

/-- Change the synthesizers. -/
def mapSynth (s : State) (f : Nat → SynthSt → SynthSt) : State :=
  { s with clocks := { s.clocks with synth := s.clocks.synth.map fun e => (e.1, f e.1 e.2) } }

/-- Every synthesizer takes the difference to its present target (R101, R721). -/
def retarget (s : State) : State := s.mapSynth fun y x => { x with phase := s.phaseTo y x }

/-- A synthesizer's own state. -/
def synth (s : State) (y : Nat) : SynthSt := s.clocks.synth.getD y SynthSt.fresh

/-- An ACS that follows an input: the estimate does not steer it (R81, R298). -/
def following (s : State) (y : Nat) : Bool := decide (16 ≤ y) && s.n (O0A.FOLLOW_STATE (0x300 + (y - 16))) != 0

/-- The offset of an ACS from follow mode: its loop's y, and after OFF what is left of it at 100 ppm/s (R297, R298). In 0.01 ppm. -/
def followNow (s : State) (a : Nat) : Int :=
  match SMap.find? s.audio.follow a with
  | none => 0
  | some (x : FollowSt) =>
    if s.n (O0A.FOLLOW_STATE (0x300 + a)) ≠ 0 then x.y
    else (Int.sign x.y) * ((x.y.natAbs - (s.now - x.at_) * 10 / 192 : Nat) : Int)

/-- The same of a synthesizer, in units of the estimate; a VTS follows nothing. -/
def followMove (s : State) (y : Nat) : Int := if 16 ≤ y then 96 * s.followNow (y - 16) else 0

/-- The frequency word of a synthesizer: its nominal frequency by an estimate and its own correction, over the crystal's, with 48 bits of
fraction (R81, R107, R129, R130, R131). -/
def synthWord (s : State) (y : Nat) (est corr : Int) : Nat :=
  let q : Nat × Nat := if y < 16 then (if s.n (O03.VTS_FAMILY (0x20 + y)) = 1 then (148500000000, 1001) else (148500000, 1))
    else (512 * acsHz (s.n (O03.ACS_RATE (0x20 + y))), 1)
  ((q.1 * 2 ^ 48 : Nat) * (units + est + corr) / ((12288000 * q.2 : Nat) * (units + 96 * s.xtalRatio))).toNat

/-- The unit writes every synthesizer's word: each moves its own phase to its own target by a correction of its own (R81, R101, R105,
R129). -/
def writeWords (s : State) : State :=
  s.mapSynth fun y x =>
    let own := s.followMove y
    if s.following y then { x with word := s.synthWord y 0 own }
    else
      let corr := slewTo x.corr (pullAim (s.n O02.SLOPE) x.phase)
      { x with corr := corr, phase := x.phase - corr - (if s.hasTarget y then own else 0), word := s.synthWord y s.timing.freq (corr + own) }

/-- The index of a VTS frame that began `past` before the end of the present tick: the nearest of the time grid, or its own count (R212,
R721). -/
def frameIndexAt (s : State) (y : Nat) (x : SynthSt) (past : Int) : Nat :=
  if s.timeTarget then
    let at_ : Int := (((s.tick64 + 1) * units : Nat) - s.synthOffset y) * (s.synthRate y).1 - past
    (Int.fdiv (at_ + s.synthPeriod y / 2) (s.synthPeriod y)).toNat
  else match x.index with
    | some n => n + 1
    | none => 0

/-- A synthesizer's counter through the tick that begins. At a boundary of its own, a named one moves to its target, a VTS that is locked
numbers its frame (R103, R104, R129, R721). -/
def synthTick (s : State) : State :=
  s.mapSynth fun y x =>
    let q := s.synthRate y
    let per := s.synthPeriod y
    let p := x.pos + (units + (if s.following y then 0 else x.corr) + s.followMove y) * q.1
    if p < per then { x with pos := p }
    else
      let past := p - per
      let locked := decide (y < 16) && s.n (O03.VTS_STATE (0x20 + y)) == 0
      let e := { x with
        index := if locked ∨ (y < 16 ∧ x.index ≠ none) then some (s.frameIndexAt y x past) else x.index
        own := !s.timeTarget }
      if x.realign then { e with pos := past + x.phase * q.1, phase := 0, realign := false } else { e with pos := past }

/-- The named synthesizers that have a target move to it, each at its next boundary (R103, R104). -/
def realignAll (s : State) (p : Nat → Bool) : State :=
  s.mapSynth fun y x => if p y && s.hasTarget y then { x with realign := true } else x

end State
end Sys2Proof.Machine
end

