-- ==== Sys2Proof/Machine/Timing.lean ====
section
/-! DEFINITION. Timing references, selection and holdover: the commands of class 02 and its work at the seam (R81 to R119). -/

namespace Sys2Proof.Machine

/-- A candidate's own state where nothing has been measured yet (log entry 9). -/
def CandSt.fresh : CandSt := ⟨0, false, false, 0, true, 0, none, 0, 0, 0, none, (0, 0), none, false⟩

/-- The pull-in time T in ms for a phase difference in ps at a slope in ns/s, or for a frequency difference in 0.01 ppb where that
takes longer (R102). Rounded up (log entry 12). -/
def pullMs (phase : Nat) (slope : Nat) (freq : Nat) : Nat :=
  let t := if 2 * slope * slope ≤ phase then ceilDiv phase slope + 2 * slope
    else let q := 8 * phase; let r := isqrt 64 0 (2 ^ 40) q; if r * r = q then r else r + 1
  max t (ceilDiv freq 50)

/-- The QL of a grandmaster's clockClass and clockAccuracy (R89). Codes below 0x22 are 0x20 or 0x21 or better. -/
def qlOfClass (cls acc : Nat) : Nat :=
  if cls = 6 then (if acc ≤ 0x21 then 15 else 14)
  else if cls = 7 then 12
  else if cls = 13 then 11
  else if cls = 14 then 9
  else if 135 ≤ cls ∧ cls ≤ 165 then 7
  else if cls = 52 ∨ cls = 58 ∨ cls = 187 ∨ cls = 193 then 5
  else if cls = 248 then 3
  else if cls = 255 then 0
  else 2

/-- The QL of an SSM code, option I (R90). -/
def qlOfSsm (ssm : Nat) (enhanced : Bool) : Nat :=
  match ssm with
  | 0x2 => if enhanced then 15 else 14
  | 0x4 => 12
  | 0x8 => 10
  | 0xB => 6
  | _ => 0

/-- Ticks of a logarithmic message interval, an S8 (R93, R112). -/
def logTicks (l : Int) : Nat :=
  if 0 ≤ l then 192000 * 2 ^ l.toNat else 192000 / 2 ^ (-l).toNat

/-- The tick number of a time in ps since the epoch (R47). -/
def tickOfPs (ps : Nat) : Nat := ps * 192000 / 1000000000000

/-- Whole ticks in a time difference in ps, to the nearest (R49). -/
def ticksOf (ps : Int) : Int := Int.fdiv (ps * 192000 + 500000000000) 1000000000000

namespace State

/-- A candidate's own state. -/
def cand (s : State) (c : Nat) : CandSt := s.timing.cand.getD c CandSt.fresh

/-- Change a candidate's own state. -/
def setCand (s : State) (c : Nat) (x : CandSt) : State :=
  { s with timing := { s.timing with cand := s.timing.cand.put c x } }

/-- A change that the selector must see at the next seam (R98). -/
def markDirty (s : State) : State := { s with timing := { s.timing with dirty := true } }

/-- The type of a candidate's source (R82). -/
def candType (s : State) (c : Nat) : Nat := s.n (O02.SOURCE_TYPE c)

/-- Qualification time in ticks (R93). -/
def qualTicks (s : State) (c : Nat) : Nat := s.n (O02.QUAL_TIME c) * 192

/-- A candidate that bears time: PTP, BEACON, and PPS with a PPS_TIME (R48, R82). -/
def timeBearing (s : State) (c : Nat) : Bool :=
  match s.candType c with
  | 1 => true
  | 9 => true
  | 8 => s.n O01.PPS_TIME != 0
  | _ => false

/-- The candidate bound to a source (R82, R83). -/
def candOf (s : State) (type index : Nat) : Option Nat :=
  (List.range 16).find? fun c => s.candType c == type && s.n (O02.SOURCE_INDEX c) == index

/-- The state of a candidate changes; leaving QUALIFIED ends OUTVOTED (R96, R98, R100). -/
def setCandState (s : State) (c st : Nat) : State :=
  let t := (s.setN (O02.CAND_STATE c) st).markDirty
  if st = 3 then t
  else (t.setB (O02.OUTVOTED c) false).setCand c { t.cand c with agreeSince := none }

/-- The selected candidate is lost (R84, R96). -/
def loseCand (s : State) (c : Nat) : State :=
  if s.n O02.SELECTED = c then { s with timing := { s.timing with lost := true } } else s

/-- A candidate enters QUALIFYING with its timer at 0 (R96). -/
def requalify (s : State) (c : Nat) : State :=
  let x := s.cand c
  (s.setCand c { x with timer := s.now, softAll := true }).setCandState c 2

/-- QUALIFYING, QUALIFIED or DEGRADED (R96). -/
def candUp (s : State) (c : Nat) : Bool := decide (2 ≤ s.n (O02.CAND_STATE c))

/-- A candidate is an AES3 input that is not enabled (R296). -/
def darsOff (s : State) (c : Nat) : Bool := s.n (O02.SOURCE_TYPE c) == 7 && !(s.b (O0A.IN_ENABLE (s.n (O02.SOURCE_INDEX c))))

/-- Edges or messages arrive on a candidate (R96): that of an AES3 input that is not enabled stays in NO-SIGNAL (R296). -/
def candSignal (s : State) (c : Nat) : State :=
  if s.n (O02.CAND_STATE c) = 1 ∧ ¬ s.darsOff c then
    (s.setCand c { s.cand c with hardOut := false }).requalify c
  else s

/-- A fault of a candidate: to `st`, with its flag and its event (R96). -/
def candFault (s : State) (c st mask ev : Nat) : State :=
  if s.candUp c then
    let t := (s.loseCand c).flag (O02.CAND_FLAGS c) mask
    (if st = 1 then t.setCandState c 1 else t.requalify c).raise ev c []
  else s

/-- TICK64 steps at the next seam cycle 32 because a time-bearing source first qualified; PPS waits for the edge that PPS_TIME names (R48,
R49). -/
def firstTime (s : State) (c : Nat) : State :=
  if s.timeBearing c ∧ ¬ s.b O01.TIME_VALID ∧ s.tick.step = none ∧ ¬ (s.candType c = 8 ∧ s.tick.pps) then
    let src := match s.candType c with | 1 => 1 | 9 => 2 | _ => 3
    let tk := ((s.tick64 : Int) + 1 + (s.cand c).timeDiff).toNat
    { s with tick := { s.tick with step := some (tk, src) } }
  else s

/-- A candidate's qualification timer is judged (R96, R98). -/
def qualify (s : State) (c : Nat) : State :=
  let x := s.cand c
  if s.n (O02.CAND_STATE c) = 2 ∧ ¬ x.hardOut ∧ x.timer + s.qualTicks c ≤ s.now then
    let t := s.setCand c { x with softSince := s.now }
    ((t.setCandState c (if x.softAll ∧ x.softOut then 4 else 3)).firstTime c).raise 0x028 c []
  else s

/-- Whether a candidate lies outside its hard window: against STAB_IN, or widened and against the crystal (R87, R88, R93). -/
def outsideHard (s : State) (c : Nat) (freq xtal : Int) : Bool :=
  let w := s.n (O02.HARD_WINDOW c) * 1000
  decide (10000000 < xtal.natAbs) ||
    (if s.stabOk then decide (w < freq.natAbs) else decide (w + 5000000 < xtal.natAbs))

/-- The hard window is judged at an update (R96). -/
def judgeHard (s : State) (c : Nat) (freq : Int) : State :=
  let x := s.cand c
  let out := s.outsideHard c freq x.xtal
  let t := s.setCand c { x with hardOut := out, timer := if out ∨ x.hardOut then s.now else x.timer }
  if out ∧ ¬ x.hardOut then t.candFault c 2 8 0x027 else t

/-- The soft window is judged at an update; while STAB_IN is not QUALIFIED nothing changes (R87, R96). -/
def judgeSoft (s : State) (c : Nat) (freq : Int) : State :=
  if ¬ s.stabOk ∨ ¬ s.candUp c then s else
  let x := s.cand c
  let out := decide (s.n (O02.SOFT_WINDOW c) * 1000 < freq.natAbs)
  let since := if out = x.softOut then x.softSince else s.now
  let t := s.setCand c { x with softOut := out, softSince := since, softAll := x.softAll && out }
  let t := if out ∧ ¬ x.softOut then t.flag (O02.CAND_FLAGS c) 16 else t
  let long := decide (since + s.qualTicks c ≤ s.now)
  if s.n (O02.CAND_STATE c) = 3 ∧ out ∧ long then (t.setCandState c 4).raise 0x026 c []
  else if s.n (O02.CAND_STATE c) = 4 ∧ ¬ out ∧ long then (t.setCandState c 3).raise 0x028 c []
  else t

/-- A candidate's measurement at an update, against STAB_IN, or against the crystal while STAB_IN is not QUALIFIED (R86, R87). PHASE_OFFSET is
the source's phase or time less the disciplined one (log entry 31). -/
def measure (s : State) (m : CandMeas) : State :=
  let c := m.cand
  if s.n (O02.CAND_STATE c) = 0 then s else
  let freq := if s.stabOk then m.freq else m.xtal
  let t := (s.setZ 32 (O02.FREQ_OFFSET c) freq).setZ 64 (O02.PHASE_OFFSET c) m.phase
  let t := t.setCand c { t.cand c with xtal := m.xtal }
  let t := (t.judgeHard c freq).judgeSoft c freq
  if s.n O02.SELECTED = c then
    let keep := (s.n O02.HOLDOVER_AVG + 1) * 192000
    let h := ((s.now, freq) :: t.timing.history).filter fun e => decide (s.now ≤ e.1 + keep)
    { t with timing := { t.timing with history := h } }
  else t

/-- Selectable apart from OUTVOTED: QUALIFIED or DEGRADED, with a QL of at least MIN_QL and not 0 (R92, R97). -/
def fit (s : State) (c : Nat) : Bool :=
  decide (3 ≤ s.n (O02.CAND_STATE c)) && decide (s.n O02.MIN_QL ≤ s.n (O02.QL c)) && s.n (O02.QL c) != 0

/-- Selectable (R97). -/
def selectable (s : State) (c : Nat) : Bool := s.fit c && !(s.b (O02.OUTVOTED c))

/-- `a` comes before `b` under R97. -/
def better (s : State) (a b : Nat) : Bool :=
  let key (c : Nat) : Nat :=
    (15 - s.n (O02.QL c)) * 0x10000 + s.n (O02.PRIORITY c) * 0x100 + (if s.n O02.SELECTED = c then 0 else 0x80) + c
  decide (key a < key b)

/-- The best of a list under R97. -/
def bestOf (s : State) : List Nat → Option Nat
  | [] => none
  | c :: l => match bestOf s l with
    | none => some c
    | some d => some (if s.better c d then c else d)

/-- The best selectable candidate: DEGRADED ones only when no QUALIFIED one is selectable (R97). -/
def bestCand (s : State) : Option Nat :=
  let l := (List.range 16).filter s.selectable
  let q := l.filter fun c => s.n (O02.CAND_STATE c) == 3
  s.bestOf (if q = [] then l else q)

/-- The equal-ranked candidates (R100). -/
def equalRanked (s : State) : List Nat :=
  match s.bestCand with
  | none => []
  | some d => (List.range 16).filter fun c => s.fit c && s.n (O02.CAND_STATE c) == 3 &&
      s.n (O02.QL c) == s.n (O02.QL d) && s.n (O02.PRIORITY c) == s.n (O02.PRIORITY d)

/-- The step of TICK64 that waits for the seam, in ps (R49). -/
def stepPs (s : State) : Int :=
  match s.tick.step with
  | some (n, _) => ((n : Int) - (s.tick64 + 1)) * 15625000 / 3
  | none => 0

/-- The time of a time-bearing candidate less the disciplined time, in ps: for PPS with PPS_TIME, to the whole second that PPS_TIME names;
for BEACON, to the tick that the beacon names (R100). -/
def candTime (s : State) (c : Nat) : Int :=
  let p := s.z 64 (O02.PHASE_OFFSET c)
  let d := (s.cand c).timeDiff
  match s.candType c with
  | 8 => p + Int.fdiv (2 * d + 192000) 384000 * 1000000000000
  | 9 => p + d * 15625000 / 3
  | _ => p

/-- Two candidates disagree (R100). -/
def disagrees (s : State) (a b : Nat) : Bool :=
  decide (s.n O02.AGREE_FREQ < (s.z 32 (O02.FREQ_OFFSET a) - s.z 32 (O02.FREQ_OFFSET b)).natAbs) ||
  (s.timeBearing a && s.timeBearing b &&
    decide (s.n O02.AGREE_TIME * 1000 < (s.candTime a - s.candTime b).natAbs))

/-- One candidate is judged by the majority (R100). -/
def judgeVote (s : State) (eq : List Nat) (t : State) (c : Nat) : State :=
  let others := eq.filter (· != c)
  if ¬ eq.contains c then
    (if t.b (O02.OUTVOTED c) then (t.setB (O02.OUTVOTED c) false).setCand c { t.cand c with agreeSince := none } |>.markDirty
     else t)
  else if s.b (O02.OUTVOTED c) then
    let agrees := others.all fun d => s.b (O02.OUTVOTED d) || !(s.disagrees c d)
    let since := if agrees then some ((s.cand c).agreeSince.getD s.now) else none
    let u := t.setCand c { t.cand c with agreeSince := since }
    match since with
    | some a => if a + s.qualTicks c ≤ s.now then (u.setB (O02.OUTVOTED c) false).markDirty else u
    | none => u
  else if 3 ≤ eq.length ∧ others.length < 2 * (others.filter fun d => s.disagrees c d).length then
    (((t.setB (O02.OUTVOTED c) true).flag (O02.CAND_FLAGS c) 32).markDirty).raise 0x02D c []
  else t

/-- Agreement is judged at an update (R98, R100). -/
def judgeAgreement (s : State) : State :=
  let t := s.forEach (List.range 16) (s.judgeVote s.equalRanked)
  let left := t.equalRanked.filter fun c => !(t.b (O02.OUTVOTED c))
  let bad := left.filter fun c => left.any fun d => d != c && t.disagrees c d
  let u := t.forEach bad fun u c => u.flag (O02.CAND_FLAGS c) 32
  let was := s.timing.disagree
  let u := { u with timing := { u.timing with disagree := bad != [] } }
  if bad ≠ [] ∧ ¬ was then u.raise 0x0A3 noInst [] else u

/-- The crystal against STAB_IN, and the window of a qualifying STAB_IN (R85, R86). -/
def stabMeasure (s : State) (xtal : Int) : State :=
  let t := s.setZ 32 O02.XTAL_OFFSET xtal
  if s.n O02.STAB_STATE = 1 ∧ 6000000 < xtal.natAbs then
    { t with timing := { t.timing with stabSince := s.now } } else t

/-- STAB_IN changes state (R87). In holdover its failure freezes the crystal's ratio; otherwise what frequencies are measured from changes,
and the estimate goes on as it ran (R107). -/
def setStab (s : State) (st : Nat) : State :=
  let freeze := decide (s.n O02.SEL_STATE = 3) && st == 3 && s.stabOk
  let t := { s with timing := { s.timing with stabSince := s.now, dirty := true,
                                              frozen := if freeze then some (s.z 32 O02.XTAL_OFFSET)
                                                else if st = 2 then none else s.timing.frozen } }
  let t := t.setN O02.STAB_STATE st
  (t.rebased s.xtalRatio t.xtalRatio).raise 0x02A 0x11 []

/-- The ratio that holdover froze is given up: frequencies are those against the crystal again (R107, R109). -/
def thaw (s : State) : State :=
  let t := { s with timing := { s.timing with frozen := none } }
  t.rebased s.xtalRatio t.xtalRatio

/-- The period within which a candidate's phase difference is the shortest, in ps; none for a time target (R101). -/
def phasePeriod (s : State) (c : Nat) : Nat :=
  match s.candType c with
  | 3 => framePs (s.n (O02.NOMINAL c) % 16)
  | 4 => framePs (s.n (O02.NOMINAL c) % 16)
  | 6 => 1000000000000 / max 1 (acsHz (s.n (O02.NOMINAL c)))
  | 7 => 1000000000000 / max 1 (acsHz (s.n (O02.NOMINAL c)))
  | _ => 0

/-- The phase difference that a pull-in toward a candidate removes, in ps (R101): for a time, what a step of TICK64 that waits leaves of it
(R49). -/
def pullPhase (s : State) (c : Nat) : Int :=
  match s.candType c with
  | 2 => 0
  | 5 => 0
  | 8 => if s.timeBearing c then s.candTime c - s.stepPs else 0
  | 1 => s.candTime c - s.stepPs
  | 9 => s.candTime c - s.stepPs
  | _ => if s.phasePeriod c = 0 then s.z 64 (O02.PHASE_OFFSET c) else shortest (s.z 64 (O02.PHASE_OFFSET c)) (s.phasePeriod c)

/-- What is left of the pull-in, in phase units: the tick's or that of a synthesizer, whichever is largest (R102). -/
def pullLeft (s : State) : Int :=
  (s.clocks.synth.map (·.2.phase)).foldl (fun a p => if a.natAbs < p.natAbs then p else a) s.timing.pull

/-- PULL_REMAIN and PULL_ETA of a pull-in (R102). -/
def setPull (s : State) : State :=
  let p := s.pullLeft / psUnits
  (s.setZ 64 O02.PULL_REMAIN p).setN O02.PULL_ETA
    (pullMs p.natAbs (s.n O02.SLOPE) ((s.refFreq - s.timing.freq).natAbs / 96) % 0x100000000)

/-- A candidate is selected or targeted: SELECTED, SWITCH_COUNT and event 0x020; every synthesizer takes its new target (R101, R110,
R119). -/
def target (s : State) (c : Nat) : State :=
  let old := s.n O02.SELECTED
  let u := s.thaw
  let tm := u.timing
  let t := { u with timing := { tm with history := [], everSelected := true, lastType := s.candType c, lastCand := c } }
  ((t.setN O02.SELECTED c).bump O02.SWITCH_COUNT 1).raise 0x020 noInst (d8 old ++ d8 c ++ s64 (s.pullPhase c))

/-- Pull-in toward a candidate (R101 to R103): the tick pulls only to a time. -/
def pullTo (s : State) (c : Nat) : State :=
  let t := ((s.target c).setN O02.SEL_STATE 2).retarget
  let t := { t with timing := { t.timing with pull := if t.timeTarget then s.pullPhase c * psUnits else 0 } }.setPull
  if s.n O02.PULL_WARN * 1000 < t.n O02.PULL_ETA then t.raise 0x02E noInst [] else t

/-- The first acquisition with ACQUIRE_STEP: the frequency is the reference's at once, every VTS and ACS that has a target steps to it at
its next boundary, and the selector locks (R104). -/
def acquire (s : State) (c : Nat) : State :=
  let t := ((s.target c).setN O02.SEL_STATE 1).firstTime c
  let t := { t with timing := { t.timing with freq := 96 * s.z 32 (O02.FREQ_OFFSET c), pull := 0 } }
  t.retarget.realignAll fun _ => true

/-- clockClass that the device announces while LOCKED or PULLING, by the selected QL (R113). -/
def lockedClass (ql : Nat) : Nat := if 14 ≤ ql then 6 else 13

/-- The mean frequency for holdover: the history less its last second, or the present estimate where less than 1 s of it remains (R106). -/
def holdFreq (s : State) : Int :=
  let l := s.timing.history.filter fun e => decide (e.1 + 192000 ≤ s.now ∧ s.now ≤ e.1 + 192000 + s.n O02.HOLDOVER_AVG * 192000)
  if l.any fun e => decide (e.1 + 384000 ≤ s.now + 192) then 96 * (l.foldl (fun a e => a + e.2) 0) / (l.length : Int) else s.timing.freq

/-- The reference is given up: its class is kept for holdover (R113), nothing is pulled, and a target that is not a time is none (R103). -/
def unselect (s : State) (st : Nat) : State :=
  let sel := s.n O02.SELECTED
  let cls := if sel ≤ 15 then lockedClass (s.n (O02.QL sel)) else s.timing.lastClass
  let t := { s with timing := { s.timing with lastClass := cls, pull := 0 } }
  ((((t.setN O02.SEL_STATE st).setN O02.SELECTED 0xFF).setN O02.PULL_REMAIN 0).setN O02.PULL_ETA 0).retarget

/-- Holdover begins (R106). The spec does not say whether MODE := HOLDOVER in holdover begins another: here it does (log entry 32). -/
def enterHoldover (s : State) : State :=
  let t := { s with timing := { s.timing with freq := s.holdFreq, holdSince := s.now, specOut := false } }
  (t.unselect 3).raise 0x021 noInst []

/-- Free-run begins: the frequency moves to nominal (R99, R110). -/
def enterFreerun (s : State) : State := (s.thaw.unselect 0).raise 0x02C noInst []

/-- The candidate that the mode would follow (R92, R97, R99). -/
def wanted (s : State) : Option Nat :=
  match s.n O02.MODE with
  | 0 => s.bestCand
  | 1 => let c := s.n O02.FORCED_CANDIDATE
         if s.fit c then some c else none
  | _ => none

/-- The selector follows what it wants (R110). -/
def follow (s : State) : State :=
  match s.n O02.SEL_STATE, s.wanted with
  | 0, some c => if ¬ s.timing.everSelected ∧ s.b O02.ACQUIRE_STEP then s.acquire c else s.pullTo c
  | 0, none => s
  | 3, some c => (s.raise 0x022 noInst []).pullTo c
  | 3, none => s
  | _, some c => if s.n O02.SELECTED = c then s else s.pullTo c
  | _, none => s.enterHoldover

/-- A change of MODE since the last evaluation (R110). -/
def modeChange (s : State) : State :=
  let m := s.n O02.MODE
  let t := { s with timing := { s.timing with mode := m } }
  if m = s.timing.mode then t
  else if m = 2 then t.enterHoldover
  else if m = 3 then t.enterFreerun
  else t

/-- The selector evaluates; a candidate that is no longer equal-ranked is OUTVOTED no more (R98, R100, R110, R111). -/
def evaluate (s : State) : State :=
  let t := (s.forEach ((List.range 16).filter fun c => s.b (O02.OUTVOTED c) && !(s.equalRanked.contains c)) fun t c =>
    (t.setB (O02.OUTVOTED c) false).setCand c { t.cand c with agreeSince := none }).modeChange.follow
  { t with timing := { t.timing with dirty := false, lost := false, lastEval := s.now } }

/-- The selector evaluates where something changed, or 192 ticks have passed (R98). -/
def selectorSeam (s : State) : State :=
  if s.timing.dirty ∨ s.timing.lost ∨ s.timing.lastEval + 192 ≤ s.now then s.evaluate else s

/-- OWN_QL (R108). -/
def ownQl (s : State) : Nat :=
  match s.n O02.SEL_STATE with
  | 1 => s.n (O02.QL (s.n O02.SELECTED))
  | 2 => s.n (O02.QL (s.n O02.SELECTED))
  | 3 => if s.stabOk ∧ s.timing.everSelected then s.n O02.HOLDOVER_QL else s.n O02.CRYSTAL_QL
  | _ => s.n O02.CRYSTAL_QL

/-- clockClass and clockAccuracy of the device's own quality (R113). -/
def ownQuality (s : State) : Nat :=
  match s.n O02.SEL_STATE with
  | 0 => 248 * 256 + 0xFE
  | 3 =>
    if ¬ s.timing.everSelected then 248 * 256 + 0xFE
    else if s.timing.specOut then (if s.timing.lastClass = 6 then 52 else 58) * 256 + 0xFE
    else (if s.timing.lastClass = 6 then 7 else 14) * 256 + 0xFE
  | _ => let ql := s.n (O02.QL (s.n O02.SELECTED))
    lockedClass ql * 256 + (if ql = 15 then 0x21 else 0xFE)

/-- A PTP instance's own state (log entry 9). -/
def ptpSt (s : State) (i : Nat) : PtpSt := s.timing.ptp.getD i ⟨[], false, none, 0, 0⟩

/-- What a PTP instance without a parent reports as GM_QUALITY (R116). -/
def ptpOwn (s : State) : State :=
  s.forEach [0x20, 0x21, 0x22, 0x23] fun t i =>
    if t.n (O02.PROFILE i) ≠ 0 ∧ ¬ (t.ptpSt i).hasParent then t.setN (O02.GM_QUALITY i) t.ownQuality else t

/-- HOLDOVER_SPEC has passed (R108). -/
def holdoverSpec (s : State) : State :=
  if s.n O02.SEL_STATE = 3 ∧ ¬ s.timing.specOut ∧ s.timing.holdSince + s.n O02.HOLDOVER_SPEC * 192000 ≤ s.now then
    { s with timing := { s.timing with specOut := true } }.raise 0x02B noInst []
  else s

/-- A candidate's stop that time alone makes due: PTP, 384 ticks after a Sync was due; BEACON, four beacons late (R93). -/
def stopDue (s : State) (c : Nat) : Bool :=
  let x := s.cand c
  match s.candType c with
  | 1 => decide (0 < x.interval ∧ x.lastMsg + x.interval + 384 ≤ s.now)
  | 9 => decide (x.lastMsg + 4 ≤ s.now)
  | _ => false

/-- A stop that is due is declared (R93, R96, R98). -/
def judgeStop (s : State) (c : Nat) : State := if s.stopDue c then s.candFault c 1 1 0x023 else s

/-- The pull-in goes on, and ends where both residuals are within their limits (R102, R110). -/
def pullSeam (s : State) : State :=
  if s.n O02.SEL_STATE ≠ 2 then s
  else
    let t := s.setPull
    if s.pullLeft.natAbs < 1000 * psUnits ∧ (s.timing.freq - s.refFreq).natAbs < 960 then
      ((t.setN O02.SEL_STATE 1).setN O02.PULL_ETA 0).raise 0x029 noInst []
    else t

/-- The timing reference unit's work at a seam, before its TPER write (R98, R101, R104, R108, R116). -/
def timingSeam (s : State) : State :=
  let t := ((s.forEach (List.range 16) qualify).forEach (List.range 16) judgeStop).selectorSeam.pullSeam
  let t := t.setN O02.OWN_QL t.ownQl
  let t := if t.n O02.SEL_STATE = 3 then
      t.setN O02.HOLDOVER_ELAPSED ((t.now - t.timing.holdSince) / 192000) else t.setN O02.HOLDOVER_ELAPSED 0
  t.ptpOwn

/-- The QL of a candidate changes (R92). -/
def setQl (s : State) (c ql : Nat) : State :=
  if s.n (O02.QL c) = ql then s else (s.setN (O02.QL c) ql).markDirty

/-- A change of a candidate's binding or QL_CONFIG applied at a seam (R84, R89, R91, R96). -/
def candApplied (s : State) (c : Nat) (rebound : Bool) : State :=
  let off := decide (s.candType c = 0 ∨ s.n (O02.QL_CONFIG c) = 0)
  let messages := [1, 2, 9].contains (s.candType c)
  let parent : Nat := if s.candType c = 1 ∧ (s.ptpSt (0x20 + s.n (O02.SOURCE_INDEX c))).hasParent then
      let q := s.n (O02.GM_QUALITY (0x20 + s.n (O02.SOURCE_INDEX c)))
      qlOfClass (q / 256) (q % 256)
    else 0
  let fresh := rebound || decide (s.n (O02.CAND_STATE c) = 0)
  let t := if off then s.setN (O02.QL c) 0
    else if messages then (if fresh then s.setN (O02.QL c) parent else s)
    else s.setN (O02.QL c) (s.n (O02.QL_CONFIG c))
  let bound := (s.candType c, s.n (O02.SOURCE_INDEX c))
  let t := (t.setCand c { t.cand c with bound := bound }).markDirty
  if off then (if s.n (O02.CAND_STATE c) = 0 then t else (t.loseCand c).setCandState c 0)
  else if fresh then ((t.loseCand c).setCand c { CandSt.fresh with bound := bound, lastMsg := s.now }).setCandState c 1
  else t

/-- What an applied transaction changes in class 02 (R84, R98). -/
def timingApplied (s : State) (k : Key) : State :=
  let i := instOf k
  if i < 0x10 then s.candApplied i (decide ((s.cand i).bound ≠ (s.candType i, s.n (O02.SOURCE_INDEX i))))
  else s.markDirty

/-- The bandwidth range of a source type, in mHz (R116). -/
def bandwidthOk (type bw : Nat) : Bool :=
  match type with
  | 1 => decide (10 ≤ bw ∧ bw ≤ 1000)
  | 2 => decide (1000 ≤ bw ∧ bw ≤ 10000)
  | 3 => decide (100 ≤ bw ∧ bw ≤ 10000)
  | 4 => decide (100 ≤ bw ∧ bw ≤ 10000)
  | t => decide (bw = candDefault t 8)

/-- SOURCE_INDEX and NOMINAL of a source type: a PTP instance 0 to 3, an Ethernet port, REF_IN 0 or 1, an AES3 input; a reference sync code
of R198, or a rate code of an audio clock (R82, R116). 0 in NOMINAL expects nothing yet. -/
def boundOk (type index nominal : Nat) : Bool :=
  match type with
  | 1 => decide (index < 4)
  | 2 => decide (index < 232)
  | 3 => decide (index < 2) && (nominal == 0 || nominal == 0x14 || nominal == 0x23)
  | 4 => decide (index < 2) && (nominal == 0 || (refSyncOk nominal && decide (0x30 ≤ nominal)))
  | 6 => decide (nominal < 7)
  | 7 => decide (index < 64 ∧ nominal < 7)
  | _ => true

/-- LOG_INTERVALS within a profile (R112). -/
def logIntervalsOk (profile v : Nat) : Bool :=
  let a := signed 8 (v / 256)
  let b := signed 8 v
  match profile with
  | 1 => decide (-7 ≤ a ∧ a ≤ -1 ∧ -3 ≤ b ∧ b ≤ 1)
  | 2 => decide (-4 ≤ a ∧ a ≤ 1 ∧ 0 ≤ b ∧ b ≤ 4)
  | 3 => decide (a = -3 ∧ b = 0)
  | _ => true

/-- The Ethernet ports of a PTP instance. -/
def ptpPorts (s : State) (i : Nat) : List Nat :=
  let b := s.bs (O02.PTP_PORTS i)
  (List.range (b.length / 2)).map fun j => natBE (slice b (2 * j) 2)

/-- The cross-object ranges of class 02, on the values that a transaction would leave in force (R115, R116, R539). -/
def timingRange (t : State) (k : Key) : Bool :=
  let i := instOf k
  if i < 0x10 then t.candType i = 0 ||
    (bandwidthOk (t.candType i) (t.n (O02.BANDWIDTH i)) && boundOk (t.candType i) (t.n (O02.SOURCE_INDEX i)) (t.n (O02.NOMINAL i)))
  else if 0x20 ≤ i ∧ i < 0x24 then
    let p := t.n (O02.PROFILE i)
    logIntervalsOk p (t.n (O02.LOG_INTERVALS i)) &&
    (if p = 3 then t.n (O02.DOMAIN_NUMBER i) == 0 else decide (t.n (O02.DOMAIN_NUMBER i) ≤ 127)) &&
    (t.ptpPorts i).all fun p => decide (p < 232)
  else if i = 0x30 ∨ i = 0x31 then
    let f := t.n (O02.OUT_FORMAT i)
    let o := (t.z 32 (O02.OUT_OFFSET i)).natAbs
    (f = 0 || refSyncOk f) && (f = 0 || decide (o * 1000 ≤ framePs (f % 16))) && decide (t.n (O02.SQUELCH i) ≤ 1)
  else if i = 0x32 then decide ((t.z 32 (O02.OUT_OFFSET i)).natAbs ≤ 500000000) && decide (t.n (O02.SQUELCH i) ≤ 2)
  else if i = 0x33 then decide (0 ≤ t.z 32 (O02.OUT_OFFSET i) ∧ t.z 32 (O02.OUT_OFFSET i) ≤ 99) && decide (t.n (O02.SQUELCH i) ≤ 1)
  else if i = 0x34 then
    let hz := acsHz (t.n (O02.OUT_FORMAT i))
    decide (hz ≠ 0 ∧ (t.z 32 (O02.OUT_OFFSET i)).natAbs * hz ≤ 1000000000) && decide (t.n (O02.OUT_SOURCE i) ≤ 7) &&
    decide (t.n (O02.SQUELCH i) ≤ 1)
  else true

/-- The conflicts of class 02, on the values that a transaction would leave in force (R83, R112, R116, R195). A device that is ORPHAN or in
RESYNC counts as a domain member (log entry 32). -/
def timingConflict (t : State) (k : Key) : Bool :=
  let i := instOf k
  if i < 0x10 then
    let ty := t.candType i
    decide (t.n (O02.HARD_WINDOW i) < t.n (O02.SOFT_WINDOW i)) ||
    (ty != 0 && (List.range 16).any fun c => c != i && t.candType c == ty &&
      (ty == 9 || ty == 5 || ty == 6 || ty == 8 || t.n (O02.SOURCE_INDEX c) == t.n (O02.SOURCE_INDEX i))) ||
    ((ty == 3 || ty == 4) && (List.range 16).any fun c => c != i && (t.candType c == 3 || t.candType c == 4) &&
      t.n (O02.SOURCE_INDEX c) == t.n (O02.SOURCE_INDEX i)) ||
    (ty == 9 && !([3, 4, 5, 7].contains (t.n O13.DOMAIN_STATE))) ||
    (ty == 1 && t.n (O02.PTP_ROLE (0x20 + t.n (O02.SOURCE_INDEX i))) == 2)
  else if 0x20 ≤ i ∧ i < 0x24 then
    ([0x20, 0x21, 0x22, 0x23].any fun j => j != i && (t.ptpPorts i).any fun p => (t.ptpPorts j).contains p) ||
    (t.n (O02.PTP_ROLE i) == 2 && (List.range 16).any fun c => t.candType c == 1 && t.n (O02.SOURCE_INDEX c) == i - 0x20)
  else if i = 0x30 ∨ i = 0x31 then
    let y := t.n (O02.OUT_SOURCE i)
    t.b (O02.OUT_ENABLE i) && t.n (O03.VTS_FAMILY (0x20 + y)) == 0 && t.n (O03.VTS_FRAME_RATE (0x20 + y)) == 4 &&
    t.n (O02.OUT_FORMAT i) != 0x14
  else false

/-- A port state that the role of an instance permits: SLAVE-ONLY never masters, GM-ONLY is never a slave (R112). -/
def roleOk (role st : Nat) : Bool := !(role == 1 && st == 6) && !(role == 2 && (st == 8 || st == 9))

/-- Port states of a PTP instance change, within its role: one event 0xE02 for each (R112, R119). -/
def ptpStates (s : State) (i : Nat) (ports : List (Nat × Nat)) : State :=
  let ports := ports.filter fun p => (s.ptpPorts i).contains p.1 && roleOk (s.n (O02.PTP_ROLE i)) p.2
  let old := (s.ptpSt i).ports
  let t := { s with timing := { s.timing with ptp := s.timing.ptp.put i { s.ptpSt i with ports := ports } } }
  t.forEach ports fun t p => if old.contains p then t else t.raise 0xE02 i (d16 p.1 ++ d8 p.2)

/-- A PTP instance that runs, and a port of it (R112). -/
def ptpOn (s : State) (i port : Nat) : Bool := s.n (O02.PROFILE i) != 0 && (s.ptpPorts i).contains port

/-- The instance has a port in slave state (R82, R112): IEEE 1588 port states 8 UNCALIBRATED and 9 SLAVE. -/
def ptpSlave (s : State) (i : Nat) : Bool := (s.ptpSt i).ports.any fun p => p.2 == 8 || p.2 == 9

/-- What a bound PTP candidate takes from a Sync (R86, R93, R94, R96). -/
def syncCand (s : State) (c : Nat) (offset : Int) (originPs rxPs : Nat) (logSync : Int) : State :=
  let x := s.cand c
  let bad := match x.lastSync with
    | some (o, r) => let a : Int := (originPs : Int) - o; let b : Int := (rxPs : Int) - r
        decide (b.natAbs < 100 * (a - b).natAbs)
    | none => false
  let t := (s.setZ 64 (O02.PHASE_OFFSET c) (-offset)).setCand c
    { x with lastMsg := s.now, interval := logTicks logSync, lastSync := some (originPs, rxPs), timeDiff := ticksOf (-offset) }
  if bad then t.candFault c 2 2 0x024 else t.candSignal c

/-- REALIGN: each named synthesizer with a target moves to it at its next boundary (R103, R721). -/
def actRealign (s : State) (mask : Nat) : State := s.realignAll fun y => bit mask y

/-- The SSM QL that a port sends (R114). -/
def ssmSent (s : State) (port : Nat) : Nat :=
  let sel := s.n O02.SELECTED
  if 16 ≤ sel then 0xB
  else if s.candType sel = 2 ∧ s.n (O02.SOURCE_INDEX sel) = port then 0xF
  else
    let ql := s.n (O02.QL sel)
    if 14 ≤ ql ∧ ql ≤ 15 then 0x2 else if 12 ≤ ql ∧ ql ≤ 13 then 0x4 else if 10 ≤ ql ∧ ql ≤ 11 then 0x8 else 0xB

end State

/-- STAB_IN loses 4 edges, or a period lies outside ±1 % (R85, R107). -/
def execStabEdgeLoss (s : State) : Host.Outcome State Fault Refusal :=
  live s fun s => if s.n O02.STAB_STATE = 1 ∨ s.n O02.STAB_STATE = 2 then s.setStab 3 else s

/-- STAB_IN has stayed in window for 10 s (R85). -/
def execStabQualified (s : State) : Host.Outcome State Fault Refusal :=
  live s fun s => if s.n O02.STAB_STATE = 1 ∧ s.timing.stabSince + 1920000 ≤ s.now then s.setStab 2 else s

/-- Edges arrive at STAB_IN (R85). -/
def execStabSignalDetect (s : State) : Host.Outcome State Fault Refusal :=
  live s fun s => if s.n O02.STAB_STATE = 0 ∨ s.n O02.STAB_STATE = 3 then s.setStab 1 else s

/-- The update every 192 ticks: offsets, windows and agreement (R86, R87, R88, R96, R98, R100). -/
def execFreqOffsetUpdate (xtal : Int) (meas : List CandMeas) (s : State) : Host.Outcome State Fault Refusal :=
  live s fun s =>
    let t := ((s.stabMeasure xtal).forEach (meas.filter fun m => m.cand < 16) State.measure).judgeAgreement
    if t.n O02.SEL_STATE = 2 then t.setPull else t

/-- Edges or messages arrive on a candidate; the phase of an edge input is measured at every edge (R86, R96). -/
def execCandidateSignal (cand : Nat) (phase : Int) (s : State) : Host.Outcome State Fault Refusal :=
  live s fun s =>
    if cand < 16 then
      let edge := [3, 4, 6, 7, 8].contains (s.candType cand) && s.n (O02.CAND_STATE cand) != 0
      (if edge then s.setZ 64 (O02.PHASE_OFFSET cand) phase else s).candSignal cand
    else s

/-- A qualification timer expires (R96). -/
def execQualificationTimer (cand : Nat) (s : State) : Host.Outcome State Fault Refusal :=
  live s fun s => if cand < 16 then s.qualify cand else s

/-- A stop is declared (R93, R96): a PTP or BEACON candidate's only once it is due. -/
def execCandStop (cand : Nat) (s : State) : Host.Outcome State Fault Refusal :=
  live s fun s =>
    if cand < 16 ∧ ((s.candType cand ≠ 1 ∧ s.candType cand ≠ 9) ∨ s.stopDue cand) then s.candFault cand 1 1 0x023 else s

/-- A glitch is declared (R94, R96). -/
def execCandGlitch (cand : Nat) (s : State) : Host.Outcome State Fault Refusal :=
  live s fun s => if cand < 16 then s.candFault cand 2 2 0x024 else s

/-- A rate change: the format or rate that a BB, TRI, WCLK or AES11 input reports is not NOMINAL (R95, R96). The other causes are found where
they arise. -/
def execCandRate (cand reported : Nat) (s : State) : Host.Outcome State Fault Refusal :=
  live s fun s =>
    if cand < 16 ∧ [3, 4, 6, 7].contains (s.candType cand) ∧ reported ≠ s.n (O02.NOMINAL cand) then s.candFault cand 2 4 0x025 else s

/-- A Sync arrives at a port of an instance in slave state (R86, R93, R94, R112). -/
def execPtpSync (inst port : Nat) (originPs rxPs : Nat) (logSync : Int) (s : State) : Host.Outcome State Fault Refusal :=
  live s fun s =>
    let i := 0x20 + inst
    if inst < 4 ∧ s.ptpOn i port ∧ s.ptpSlave i ∧ s.n (O02.PTP_ROLE i) ≠ 2 then
      let offset : Int := (rxPs : Int) - originPs - s.z 64 (O02.MEAN_PATH_DELAY i)
      let t := s.setZ 64 (O02.OFFSET_FROM_MASTER i) offset
      match t.candOf 1 inst with
      | some c => if t.n (O02.CAND_STATE c) = 0 then t else t.syncCand c offset originPs rxPs logSync
      | none => t
    else s

/-- An Announce updates the parent and the candidate's QL (R89, R95, R112, R119, R507). -/
def execPtpAnnounce (inst port : Nat) (gm : List Byte) (clockClass accuracy prio : Nat) (utc : Option Int) (ports : List (Nat × Nat))
    (s : State) : Host.Outcome State Fault Refusal :=
  live s fun s =>
    let i := 0x20 + inst
    if inst < 4 ∧ s.ptpOn i port then
      let t := s.ptpStates i ports
      if t.ptpSlave i ∧ t.n (O02.PTP_ROLE i) ≠ 2 then
        let had := (s.ptpSt i).hasParent
        let old := s.bs (O02.PARENT_GM i)
        let gm := padTo 8 gm
        let u := (t.setBytes (O02.PARENT_GM i) gm).setN (O02.GM_QUALITY i) (clockClass % 256 * 256 + accuracy % 256)
        let last := match utc with
          | some z => some z
          | none => u.timing.utcLast
        let v : PtpSt := { u.ptpSt i with hasParent := true, utc := utc, prio := prio % 65536, lastAnn := s.now }
        let u := { u with timing := { u.timing with ptp := u.timing.ptp.put i v, utcLast := last } }
        let u := if had ∧ old = gm then u else u.raise 0xE00 i []
        match u.candOf 1 inst with
        | some c =>
          if u.n (O02.CAND_STATE c) = 0 then u else
          let v := u.setQl c (qlOfClass (clockClass % 256) (accuracy % 256))
          if had ∧ old ≠ gm then v.candFault c 2 4 0x025 else v.candSignal c
        | none => u
      else t
    else s

/-- The announce receipt timeout expires: 3 announce intervals, its default (R93, R112, R119). -/
def execPtpAnnounceTimeout (inst port : Nat) (ports : List (Nat × Nat)) (s : State) : Host.Outcome State Fault Refusal :=
  live s fun s =>
    let i := 0x20 + inst
    let wait := 3 * logTicks (signed 8 (s.n (O02.LOG_INTERVALS i)))
    if inst < 4 ∧ s.ptpOn i port ∧ (¬ (s.ptpSt i).hasParent ∨ (s.ptpSt i).lastAnn + wait ≤ s.now) then
      let t := (s.raise 0xE01 i (d16 port)).ptpStates i ports
      if t.ptpSlave i then t
      else
        let u := { t with timing := { t.timing with ptp := t.timing.ptp.put i { t.ptpSt i with hasParent := false, utc := none, prio := 0 } } }
        let u := (u.setBytes (O02.PARENT_GM i) []).setN (O02.GM_QUALITY i) u.ownQuality
        match u.candOf 1 inst with
        | some c => u.candFault c 1 1 0x023
        | none => u
    else s

/-- clockIdentity of the device: the EUI-64 of BASE_MAC (PRESUMED, log entry 33). -/
def clockIdentity : List Byte :=
  let m := bytesBE 6 (Config.macBlock * 512)
  m.take 3 ++ [0xFF, 0xFE] ++ m.drop 3

/-- Where a PTP message goes, and on which UDP port: Ethernet to 01-80-C2-00-00-0E for 802.1AS, UDP/IPv4 multicast to 224.0.1.129 for the
rest; a unicast Delay_Req goes to the parent (R112). -/
def State.ptpTransport (s : State) (i : Nat) (event unicast : Bool) : List Byte :=
  if s.n (O02.PROFILE i) = 3 then bytesBE 6 0x0180C200000E
  else (if unicast then padTo 8 (s.bs (O02.PARENT_GM i)) else bytesBE 4 0xE0000181) ++ d16 (if event then 319 else 320)

/-- A PTP message of an instance: EtherType 0x88F7, or 0x0800 for the UDP profiles (R112; log entry 33). -/
def State.ptpEmit (s : State) (i port kind : Nat) (body : List Byte) : State :=
  let event := kind = 0 ∨ kind = 2
  let dest := s.ptpTransport i event (kind == 2 && s.n (O02.PROFILE i) == 1)
  s.emit (.frame port (if s.n (O02.PROFILE i) = 3 then 0x88F7 else 0x0800) (dest ++ d8 kind ++ d8 (s.n (O02.DOMAIN_NUMBER i)) ++ body))

/-- A PTP message timer expires: Sync (0) and Announce (1) on master ports, Delay_Req (2) on a slave port (R112, R113). A boundary clock
passes on its parent's data set; as grandmaster the device sends its own, and with ST 2059-2 the metadata TLV. A two-step Sync is followed by
its Follow_Up (8). -/
def execPtpMessageSend (inst port kind : Nat) (s : State) : Host.Outcome State Fault Refusal :=
  live s fun s =>
    let i := 0x20 + inst
    let st := ((s.ptpSt i).ports.find? fun p => p.1 == port).map (·.2)
    let role := s.n (O02.PTP_ROLE i)
    if inst < 4 ∧ s.ptpOn i port ∧ ((kind < 2 ∧ st = some 6 ∧ role ≠ 1) ∨ (kind = 2 ∧ (st = some 8 ∨ st = some 9) ∧ role ≠ 2)) then
      let slave := s.ptpSlave i
      let q := if slave then s.n (O02.GM_QUALITY i) else s.ownQuality
      let prio := if slave then (s.ptpSt i).prio else s.n (O02.PRIORITIES i)
      let gm := if slave then padTo 8 (s.bs (O02.PARENT_GM i)) else clockIdentity
      let two := s.n (O02.PROFILE i) == 3 || s.b (O02.TWO_STEP i)
      let tlv := if !slave && s.n (O02.PROFILE i) == 1 && kind == 1 then d16 3 else []
      let t := s.ptpEmit i port kind (d16 q ++ d16 prio ++ gm ++ d8 two.toNat ++ d64 s.tick64 ++ tlv)
      if kind = 0 ∧ two then t.ptpEmit i port 8 (d64 s.tick64) else t
    else s

/-- A Delay_Req is answered as master (0); a Delay_Resp (1) or peer-delay exchange (2) updates MEAN_PATH_DELAY (R112). -/
def execPtpDelayRx (inst port kind : Nat) (t1 t2 t3 t4 : Nat) (s : State) : Host.Outcome State Fault Refusal :=
  live s fun s =>
    let i := 0x20 + inst
    if inst < 4 ∧ s.ptpOn i port then
      match kind with
      | 0 => if (s.ptpSt i).ports.contains (port, 6) ∧ s.n (O02.PTP_ROLE i) ≠ 1 then s.ptpEmit i port 9 (bytesBE 10 t4) else s
      | 1 => if s.n (O02.PROFILE i) = 3 then s else s.setZ 64 (O02.MEAN_PATH_DELAY i) ((((t2 : Int) - t1) + ((t4 : Int) - t3)) / 2)
      | 2 => if s.n (O02.PROFILE i) = 3 then s.setZ 64 (O02.MEAN_PATH_DELAY i) ((((t4 : Int) - t1) - ((t3 : Int) - t2)) / 2) else s
      | _ => s
    else s

/-- An ESMC message sets the QL of the port's SyncE candidate (R90). -/
def execEsmcReceived (port ssm : Nat) (enhanced : Bool) (s : State) : Host.Outcome State Fault Refusal :=
  live s fun s =>
    match s.candOf 2 port with
    | some c =>
      if s.n (O02.CAND_STATE c) = 0 then s
      else (s.setCand c { s.cand c with lastMsg := s.now, esmcOut := false }).setQl c (qlOfSsm ssm enhanced)
    | none => s

/-- No ESMC for 5 s (R90, R119). -/
def execEsmcTimeout (cand : Nat) (s : State) : Host.Outcome State Fault Refusal :=
  live s fun s =>
    let x := s.cand cand
    if cand < 16 ∧ s.candType cand = 2 ∧ s.n (O02.CAND_STATE cand) ≠ 0 ∧ ¬ x.esmcOut ∧ x.lastMsg + 960000 ≤ s.now then
      ((s.setCand cand { x with esmcOut := true }).setQl cand 0).raise 0xE03 cand []
    else s

/-- A port with ESMC transmission enabled sends its QL (R114). -/
def execEsmcSend (port : Nat) (s : State) : Host.Outcome State Fault Refusal :=
  onInst 0x0F port s fun s =>
    if s.b (O0F.ESMC_TX port) then s.emit (.frame port 0x8809 (d8 (s.ssmSent port))) else s

/-- The pull-in ends, where residual phase is below 1 ns and the frequency error below 0.1 ppb (R102, R110). -/
def execPullComplete (s : State) : Host.Outcome State Fault Refusal := live s State.pullSeam

/-- Holdover has lasted HOLDOVER_SPEC (R108). -/
def execHoldoverSpec (s : State) : Host.Outcome State Fault Refusal :=
  live s State.holdoverSpec

end Sys2Proof.Machine
end

