-- ==== Sys2Proof/Machine/Clocks.lean ====
section
/-! DEFINITION. Clock synthesis: lane references, synthesizers and lane PLLs (R129 to R138). The core PLLs are in `Bypass`. -/

namespace Sys2Proof.Machine
namespace State

/-- The lanes that take their clock from an LREF: the quads that select it, outside modes OFF and SDI (R133, R414). -/
def lrefLanes (s : State) (r : Nat) : List Nat :=
  let all := List.range (byMember s.member 192 96 48) ++ (List.range (byMember s.member 32 16 8)).map (· + 0x100)
  all.filter fun l => s.n (O11.LANE_LREF (l / 4 * 4)) == r && s.n (O11.LANE_MODE l) != 0 && s.n (O11.LANE_MODE l) != 1

/-- The SDI outputs that a VTS clocks (R132). -/
def vtsLanes (s : State) (y : Nat) : List Nat :=
  (List.range (byMember s.member 192 96 48)).filter fun l =>
    s.n (O11.LANE_MODE l) == 1 && s.b (O07.OUT_ENABLE l) && s.n (O07.OUT_VTS l) == y

/-- The state object of a synthesizer: VTS0 to VTS15 at 0 to 15, ACS0 to ACS7 at 16 to 23. -/
def synthKey (y : Nat) : Key := if y < 16 then O03.VTS_STATE (0x20 + y) else O03.ACS_STATE (0x20 + y)

/-- The object of a port that a class 0A object stands for: the class and instance of a port code (R306). -/
def portKey (code : Nat) (k : Key) : Key :=
  obKey (if code / 0x1000 % 4 < 2 then 0x0A else 0x0B) ((if code / 0x1000 % 2 = 1 then 0x100 else 0) + code % 0x1000) (parOf k)

/-- The port codes of the audio outputs of a member (R305, R306). -/
def audioOutputs (m : Member) : List Nat :=
  (List.range (byMember m 64 32 16)).map (0x1000 + ·) ++ (List.range (byMember m 16 8 4)).map (0x3000 + ·)

/-- The enabled audio outputs on an ACS (R285). -/
def acsPorts (s : State) (a : Nat) : List Nat :=
  (audioOutputs s.member).filter fun c => s.b (portKey c (O0A.OUT_ENABLE 0)) && s.n (portKey c (O0A.OUT_ACS 0)) == a

/-- The outputs on an ACS go static (R132, R309, R310). -/
def acsStatic (s : State) (a : Nat) : State :=
  s.forEach ((s.acsPorts a).filter fun c => s.n (portKey c (O0A.OUT_STATE 0)) != 1) fun t c =>
    ((t.setN (portKey c (O0A.OUT_STATE 0)) 1).flag (portKey c (O0A.OUT_FLAGS 0)) 1).raise (if c < 0x2000 then 0x0AB else 0x0B8) c []

/-- The outputs on an ACS run again: members of a group re-enter through WAITING (R293, R304). -/
def acsRun (s : State) (a : Nat) : State :=
  s.forEach ((s.acsPorts a).filter fun c => s.n (portKey c (O0A.OUT_STATE 0)) != 2) fun t c =>
    let t := t.setN (portKey c (O0A.OUT_STATE 0)) 2
    if t.audio.groups.any fun g => g.2.members.contains c then t.setN (portKey c (O0A.PORT_STATE_OUT 0)) 3 else t

/-- The lanes and outputs of a synthesizer go idle (R132). -/
def squelchSynth (s : State) (y : Nat) : State :=
  if y < 16 then s.forEach (s.vtsLanes y) fun t l => t.outSquelch l else s.acsStatic (y - 16)

/-- A reference output runs: it is enabled, its SQUELCH does not hold it, and the synthesizer that it takes has lock (R115, R132). -/
def outRuns (s : State) (i : Nat) : Bool :=
  let q := s.n (O02.SQUELCH i)
  let y := 0x20 + s.n (O02.OUT_SOURCE i)
  s.b (O02.OUT_ENABLE i) && !(q == 1 && s.n O02.SEL_STATE == 0) && !(i == 0x32 && q == 2 && !(s.b O01.TIME_VALID)) &&
  (if i = 0x30 ∨ i = 0x31 then s.n (O03.VTS_STATE y) == 0 else if i = 0x34 then s.n (O03.ACS_STATE (0x10 + y)) == 0 else true)

/-- OUT_OFFSET of PPS_OUT within the second, in ns. -/
def ppsOffset (s : State) : Nat := (Int.emod (s.z 32 (O02.OUT_OFFSET 0x32)) 1000000000).toNat

/-- The level of a reference output in the present tick (R115, R713): PPS_OUT is high for 1,920 ticks from each second, by its offset. -/
def refLevel (s : State) (i : Nat) : Nat :=
  let edge := s.ppsOffset * 24 / 125000
  (s.outRuns i && (i != 0x32 || decide ((s.tick64 + 192000 - edge) % 192000 < 1920))).toNat

/-- The place within its tick of an edge of PPS_OUT, in ps (R713). -/
def ppsPlace (s : State) : Nat := (s.ppsOffset * 3000 - s.ppsOffset * 24 / 125000 * 15625000) / 3

/-- Whether a frame of a VTS begins in the present tick, and how long before the tick's end, in ps (R713). -/
def frameHere (s : State) (y : Nat) : Option Nat :=
  let x := s.synth y
  let n := max 1 (s.synthRate y).1
  if 0 ≤ x.pos ∧ x.pos < (units + x.corr) * n ∧ x.index ≠ none then some (x.pos / n / psUnits).toNat else none

/-- Sample boundaries of an ACS in the present tick (R713): its block has 192 samples. -/
def samplesHere (s : State) (a : Nat) : Nat :=
  let x := s.synth (16 + a)
  let q := s.synthRate (16 + a)
  let per : Int := s.synthPeriod (16 + a)
  (Int.fdiv (x.pos * 192) per - Int.fdiv ((x.pos - (units + x.corr) * q.1) * 192) per).toNat

/-- The reference outputs through a tick (R115, R713): a level that changes, a frame of REF_OUT that begins, and the rising edges of
WCLK_OUT. -/
def pinTick (s : State) : State :=
  let t := s.forEach ([0x30, 0x31, 0x32, 0x33, 0x34].filter fun i => s.refLevel i != s.clocks.pins.getD i 0) fun t i =>
    ({ t with clocks := { t.clocks with pins := t.clocks.pins.put i (s.refLevel i) } }).emit
      (.media 0x23 i [s.refLevel i, if i = 0x32 then s.ppsPlace else 0])
  let t := t.forEach ([0x30, 0x31].filter s.outRuns) fun t i =>
    match s.frameHere (s.n (O02.OUT_SOURCE i)) with
    | some p => t.emit (.media 0x24 i [s.n (O02.OUT_FORMAT i), p, unsigned 32 (s.z 32 (O02.OUT_OFFSET i))])
    | none => t
  let n := s.samplesHere (s.n (O02.OUT_SOURCE 0x34))
  if s.outRuns 0x34 ∧ 0 < n then t.emit (.media 0x25 0x34 [n]) else t

/-- A mode of a lane that is applied changes the rate of a SYNCE candidate on its port (R95). -/
def laneRateChange (s : State) (k : Key) : State :=
  if parOf k = 0 then
    match s.candOf 2 (lanePort (instOf k)) with
    | some c => s.candFault c 2 4 0x025
    | none => s
  else s

/-- What an applied transaction changes in class 03: a rate change squelches until the synthesizer and its lane PLLs have confirmed lock; a
change of offset moves the target (R101, R132, R134). -/
def clocksApplied (s : State) (k : Key) : State :=
  let i := instOf k
  let y := i - 0x20
  if i < 0x20 then s
  else if (y < 16 ∧ parOf k < 2) ∨ (16 ≤ y ∧ parOf k = 0) then
    let x := s.synth y
    let t := { s with clocks := { s.clocks with
      synth := s.clocks.synth.put y { x with pos := 0, phase := 0, index := if y < 16 then none else x.index }
      lock := s.clocks.lock.put y ⟨none, s.now⟩ } }
    let t := if y < 16 then t.forEach (t.vtsLanes y) lanePllLost else t
    ((t.setN (synthKey y) 2).squelchSynth y).raise 0x039 i []
  else s.mapSynth fun z x => if z = y then { x with phase := s.phaseTo y x } else x

/-- The cross-object ranges of class 03: offsets within one frame or sample period, on the values left in force (R136). -/
def clocksRange (t : State) (k : Key) : Bool :=
  let i := instOf k
  if i < 0x20 then true
  else if i < 0x30 then decide ((t.z 32 (O03.VTS_OFFSET i)).natAbs * 1000 ≤ framePs (t.n (O03.VTS_FRAME_RATE i)))
  else decide ((t.z 32 (O03.ACS_OFFSET i)).natAbs * acsHz (t.n (O03.ACS_RATE i)) ≤ 1000000000)

/-- Whether every assignment to a family-0 VTS at 29.97 is one that R195 permits. -/
def sdAssignments (t : State) (y : Nat) : Bool :=
  ((List.range (byMember t.member 192 96 48)).all fun o =>
    !(t.b (O07.OUT_ENABLE o)) || t.n (O07.OUT_VTS o) != y || fmtRaster (t.n (O07.OUT_FORMAT o)) == 1) &&
  ([0x30, 0x31].all fun r =>
    !(t.b (O02.OUT_ENABLE r)) || t.n (O02.OUT_SOURCE r) != y || t.n (O02.OUT_FORMAT r) == 0x14) &&
  ([0x10, 0x11, 0x12, 0x13].all fun g => !(t.b (O16.GEN_RUN g)) || t.n (O16.GEN_VTS g) != y)

/-- The conflicts of class 03, on the values left in force (R130, R136, R195). -/
def clocksConflict (t : State) (k : Key) : Bool :=
  let i := instOf k
  if 0x20 ≤ i ∧ i < 0x30 then
    let r := t.n (O03.VTS_FRAME_RATE i)
    let sd := t.n (O03.VTS_FAMILY i) == 0 && r == 4
    (!sd && rateFractional r != (t.n (O03.VTS_FAMILY i) == 1)) || (sd && !(t.sdAssignments (i - 0x20)))
  else false

end State

/-- An LREF input leaves its window, or is lost (R133). -/
def State.lrefBad (s : State) (r : Nat) : State :=
  { s with clocks := { s.clocks with lref := s.clocks.lref.put r ⟨none, s.now⟩ } }

/-- The measurement of an LREF input: PRESENT once it has stayed in window for 192 ticks (R133). -/
def execLrefPresent (lref : Nat) (offset : Int) (s : State) : Host.Outcome State Fault Refusal :=
  live s fun s =>
    let i := 0x10 + lref
    if 12 ≤ lref then s
    else
      let t := s.setZ 32 (O03.LREF_OFFSET i) offset
      if 20000 < offset.natAbs then t.lrefBad lref
      else if s.n (O03.LREF_STATE i) ≠ 1 ∧ (s.clocks.lref.getD lref ⟨none, 0⟩).badSince + 192 ≤ s.now then
        (t.setN (O03.LREF_STATE i) 1).raise 0x034 i []
      else t

/-- An LREF input is lost, and every lane PLL on it loses lock (R133, R134, R430). -/
def execLrefLost (lref : Nat) (s : State) : Host.Outcome State Fault Refusal :=
  live s fun s =>
    let i := 0x10 + lref
    if lref < 12 ∧ s.n (O03.LREF_STATE i) = 1 then
      (((s.lrefBad lref).setN (O03.LREF_STATE i) 2).raise 0x033 i []).forEach (s.lrefLanes lref) fun t l =>
        let t := t.lanePllLost l
        if t.n (O11.LANE_MODE l) = 9 then t.laneSearch l else t
    else s

/-- A VTS or ACS loses lock (R132). -/
def execSynthUnlocked (synth : Nat) (s : State) : Host.Outcome State Fault Refusal :=
  live s fun s =>
    if synth < 24 ∧ s.n (State.synthKey synth) ≠ 1 ∧ ¬ s.following synth then
      let confirming := s.n (State.synthKey synth) = 2 ∧ ((s.clocks.lock.getD synth ⟨none, 0⟩).since).isSome
      let t := { s with clocks := { s.clocks with lock := s.clocks.lock.put synth ⟨none, s.now⟩ } }
      let t := ((t.setN (State.synthKey synth) 1).squelchSynth synth).raise 0x035 (0x20 + synth) []
      if confirming then t.raise 0x032 (0x20 + synth) [] else t
    else s

/-- A VTS or ACS has lock: its confirmation begins, and once it has held for 1,984 ticks the synthesizer is LOCKED and its outputs are
released at their next frame start (R126, R132). -/
def execSynthRelocked (synth : Nat) (s : State) : Host.Outcome State Fault Refusal :=
  live s fun s =>
    if synth < 24 ∧ s.n (State.synthKey synth) ≠ 0 ∧ ¬ s.following synth then
      match (s.clocks.lock.getD synth ⟨none, 0⟩).since with
      | none =>
        ({ s with clocks := { s.clocks with lock := s.clocks.lock.put synth ⟨some s.now, 0⟩ } }).setN (State.synthKey synth) 2
      | some at_ =>
        if s.now < at_ + 1984 then s
        else
          let t := (s.setN (State.synthKey synth) 0).raise 0x037 (0x20 + synth) []
          if synth < 16 then t
          else
            let t := t.acsRun (synth - 16)
            let x := t.synth synth
            if x.index ≠ none then t
            else { t with clocks := { t.clocks with synth := t.clocks.synth.put synth { x with index := some t.tick.up } } }
    else s

/-- A lane PLL loses lock (R134). -/
def execLanePllLockLost (lane : Nat) (s : State) : Host.Outcome State Fault Refusal :=
  onInst 0x11 lane s fun s => s.lanePllLost lane

/-- Whether a lane's transmit reference runs: its LREF is PRESENT, or for SDI its VTS is locked (R132, R134). -/
def State.laneRef (s : State) (l : Nat) : Bool :=
  if s.n (O11.LANE_MODE l) = 1 then s.n (O03.VTS_STATE (0x20 + s.n (O07.OUT_VTS (s.outHead l)))) == 0
  else s.n (O03.LREF_STATE (0x10 + s.n (O11.LANE_LREF (l / 4 * 4)))) == 1

/-- A lane PLL has held lock for its confirmation, 4,096 reference cycles and 1 ms, which is 198 ticks: the transmitter is released (R134). -/
def execLaneTxRelease (lane : Nat) (s : State) : Host.Outcome State Fault Refusal :=
  onInst 0x11 lane s fun s =>
    if s.n (O11.LANE_MODE lane) = 0 ∨ ¬ s.laneRef lane ∨ s.now < (s.lane lane).lostAt + 198 then s
    else (s.setLane lane { s.lane lane with released := true }).laneTx lane

end Sys2Proof.Machine
end

