-- ==== Sys2Proof/Machine/Streams.lean ====
section
/-! DEFINITION. Chain entries and stream descriptors: the fields of an entry's word (R51), the descriptor words (R149), and the
substitution of missing work (R71, R72). -/

namespace Sys2Proof.Machine

/-- The fields of a chain entry (R51). -/
def entOp (w : Nat) : Nat := field w 63 60
def entSrc (w : Nat) : Nat := field w 59 54
def entDst (w : Nat) : Nat := field w 53 48
def entCells (w : Nat) : Nat := field w 47 41
def entOfs (w : Nat) : Nat := field w 40 34
def entDem (w : Nat) : Bool := bit w 33
def entStream (w : Nat) : Nat := field w 32 17
def entArg (w : Nat) : Nat := field w 16 0

/-- A chain entry's word (R51). -/
def entWord (op src dst cells ofs : Nat) (dem : Bool) (stream arg : Nat) : Nat :=
  op * 2 ^ 60 + src * 2 ^ 54 + dst * 2 ^ 48 + cells * 2 ^ 41 + ofs * 2 ^ 34 + dem.toNat * 2 ^ 33 + stream * 2 ^ 17 + arg

/-- CHARGE of a transfer: slots on each channel of its stack (R176). -/
def charge (cells : Nat) : Nat := ceilDiv cells 16

/-- Whether an entry reads or writes frame memory. -/
def entMem (w : Nat) : Bool := entOp w == 2 || entOp w == 3

/-- The stack that an entry's frame-memory port serves (R166). -/
def entStack (w : Nat) : Nat := (if entOp w = 2 then entDst w else entSrc w) / 6

/-- Line groups of a frame or field (R57, R149). -/
def Desc.groups (d : Desc) : Nat := ceilDiv d.lines 8

/-- Line groups of a whole frame: the first field's come first (R174). -/
def Desc.frameGroups (d : Desc) : Nat := d.groups * (if d.interlaced then 2 else 1)

/-- Cells of line group `g` of a stream (R57, R143): 8 lines, or those that remain. -/
def Desc.groupCells (d : Desc) (g : Nat) : Nat :=
  ceilDiv (min 8 (d.lines - 8 * (g % (max d.groups 1))) * d.lineBytes) 128

/-- Cells of a frame of a stream. -/
def Desc.frameCells (d : Desc) : Nat := ((List.range d.frameGroups).map d.groupCells).foldl (· + ·) 0

/-- Cells of requested line groups that have not moved (R153). -/
def Desc.wanted (d : Desc) : Nat :=
  let n := d.frameGroups
  let k := if n = 0 then 0 else (d.reqGroup + 1 + n - d.curGroup) % n
  if d.state = 1 then 0 else ((List.range k).map fun j => d.groupCells ((d.curGroup + j) % n)).foldl (· + ·) 0 - d.moved

/-- The next line group, or the first of the next frame (R143, R174). -/
def Desc.nextGroup (d : Desc) : Desc :=
  let e := { d with moved := 0, redo := d.redo - 1 }
  if d.curGroup + 1 < d.frameGroups then { e with curGroup := d.curGroup + 1 }
  else { e with curGroup := 0, frameIndex := if d.frames = 0 then 0 else (d.frameIndex + 1) % d.frames }

/-- `k` line groups on. -/
def Desc.skip : Nat → Desc → Desc
  | 0, d => d
  | k + 1, d => Desc.skip k d.nextGroup

/-- A descriptor after its video stream moved one more cell: the group, then the frame, advance (R143, R174). The first cell of a frame
begins one that is not marked incomplete. -/
def Desc.advance (d : Desc) : Desc :=
  let e := { d with
    cells := (d.cells + 1) % 2 ^ 32
    incomplete := d.incomplete && !(d.curGroup == 0 && d.moved == 0) }
  if d.frameGroups = 0 then e
  else if d.moved + 1 < d.groupCells d.curGroup then { e with moved := d.moved + 1 }
  else e.nextGroup

/-- How many line groups `k` more cells of a stream belong to; one for a stream that has none (R71). -/
def Desc.unitsOf (d : Desc) (k : Nat) : Nat :=
  if d.frameGroups = 0 then 1
  else
    let upTo (j : Nat) : Nat := ((List.range j).map fun i => d.groupCells ((d.curGroup + i) % d.frameGroups)).foldl (· + ·) 0
    1 + ((List.range d.frameGroups).filter fun j => decide (1 ≤ j ∧ upTo j < d.moved + k)).length

/-- Units of work of a stream are missing as a whole (R71, R72). A read's line groups are read again from the previous frame; a write's
are skipped, and leave its frame incomplete. -/
def Desc.missing (d : Desc) (units : Nat) : Desc :=
  let e := { d with subst := true, substs := (d.substs + units) % 2 ^ 32 }
  if d.dstp < 24 then Desc.skip (if d.frameGroups = 0 then 0 else units) { e with incomplete := true }
  else if d.frameGroups = 0 then e
  else { e with moved := 0, redo := max d.redo units }

/-- A reader begins a frame (R57, R209): the one of its buffer that it selected, or the one that it read last. Its first two line groups are
requested, or none where the destination shows none; the groups of the next frame are not requested before it is selected (log entry 38). -/
def Desc.beginFrame (d : Desc) (frame : Option Nat) (ask : Bool) : Desc :=
  { d with
    curGroup := 0, moved := 0, redo := 0, repeating := false
    frameIndex := match frame with
      | some n => if d.frames = 0 then 0 else n % d.frames
      | none => d.frameIndex
    reqGroup := if ask then min 1 (d.frameGroups - 1) else d.frameGroups - 1 }

/-- The rest of a frame is read from the frame before it (R208). -/
def Desc.fallBack (d : Desc) : Desc := { d with redo := d.frameGroups - d.curGroup, moved := 0 }

/-- An output starts to send a line group (R57, R72): where its read again from the previous frame has not arrived, the output repeats the
last line it sent for each line of the group, and the read goes on with the next group. -/
def Desc.reach (d : Desc) (group : Nat) : Desc :=
  let late := decide (0 < d.redo) && d.curGroup == group
  let e := { d with reqGroup := if group + 2 < d.frameGroups then group + 2 else d.reqGroup, repeating := late }
  if late then e.nextGroup else e

/-- The frame of its buffer that a stream reads from: the previous one for a line group that is read again (R72). -/
def Desc.readFrame (d : Desc) : Nat := if d.redo = 0 ∨ d.frames = 0 then d.frameIndex else (d.frameIndex + d.frames - 1) % d.frames

/-- A stream restarts: its position is zero, and video waits for its next frame (R151). -/
def Desc.restarted (d : Desc) : Desc :=
  { d with curGroup := 0, reqGroup := 0, moved := 0, frameIndex := 0, cells := 0, substs := 0, redo := 0, repeating := false,
           state := if d.kind = 0 then 1 else 2 }

/-- A stream that waited for its frame starts: its first two line groups are requested (R57). -/
def Desc.start (d : Desc) : Desc := { d with state := 2, reqGroup := min 1 (d.frameGroups - 1) }

/-- The domain stream identifier of a stream on a device (R147). -/
def Desc.domainId (d : Desc) (own id : Nat) : Nat := d.origin % 1024 * 65536 + (if d.origin = own then id else d.originId) % 65536

/-- A descriptor after its stream moved `k` more cells. -/
def Desc.advanceN : Nat → Desc → Desc
  | 0, d => d
  | k + 1, d => Desc.advanceN k d.advance

/-- The four words of a descriptor, each field within its bits (R149); LINE_BYTES and ACTIVE_LINES are 0 for kinds other than VIDEO. -/
def Desc.words (d : Desc) (stream : Nat) : List Nat :=
  let video (n : Nat) : Nat := if d.kind = 0 then n else 0
  [d.kind % 16 * 2 ^ 60 + d.state % 16 * 2 ^ 56 + d.subst.toNat * 2 ^ 55 + d.incomplete.toNat * 2 ^ 54 + d.srcp % 64 * 2 ^ 42 +
     d.dstp % 64 * 2 ^ 36 + d.origin % 1024 * 2 ^ 26 + stream % 65536,
   video d.lineBytes % 65536 * 2 ^ 48 + video d.lines % 8192 * 2 ^ 35 + d.interlaced.toNat * 2 ^ 34 + d.groups % 1024 * 2 ^ 24 +
     d.reserve % 4096 * 2 ^ 12,
   d.curGroup % 1024 * 2 ^ 54 + d.reqGroup % 1024 * 2 ^ 44 + d.frameIndex % 16 * 2 ^ 40 + d.frames % 16 * 2 ^ 36 + d.base % 2 ^ 26,
   d.cells % 2 ^ 32 * 2 ^ 32 + d.substs % 2 ^ 32]

/-- The descriptor that a stream starts with (R149, R150). -/
def StreamReq.desc (r : StreamReq) (base : Nat) : Desc :=
  { kind := r.kind, state := 1, subst := false, incomplete := false, srcp := r.srcp, dstp := r.dstp, origin := r.origin,
    lineBytes := r.lineBytes, lines := r.lines, interlaced := r.interlaced, reserve := r.reserve, curGroup := 0, reqGroup := 0,
    frameIndex := 0, frames := r.frames, base := base, cells := 0, substs := 0, moved := 0, dest := r.dest,
    trunkIn := r.trunkIn, trunkOut := r.trunkOut, originId := r.originId, redo := 0, repeating := false, label := r.label }

namespace State

/-- The descriptor of an assigned identifier. -/
def desc? (s : State) (id : Nat) : Option Desc := SMap.find? s.fabric.desc id

/-- Change a descriptor. -/
def setDesc (s : State) (id : Nat) (d : Desc) : State :=
  { s with fabric := { s.fabric with desc := SMap.put s.fabric.desc id d } }

/-- Change the descriptor of an identifier, if it is assigned. -/
def onDesc (s : State) (id : Nat) (f : Desc → Desc) : State :=
  match s.desc? id with
  | none => s
  | some d => s.setDesc id (f d)

/-- The streams that the seam of this tick takes out (R66, R159). -/
def leaving (s : State) : List Nat :=
  match s.chain.cur with
  | some x => if s.n O01.SHADOW_STATE = 3 ∧ x.act = some (s.tick64 + 1) then x.plan.drops ++ s.chain.removals else []
  | none => []

/-- Units of work of a stream in this tick are missing: it substitutes, once in a tick. A stream that the tick's seam removes substitutes
nothing (R72, R159, R188). -/
def substituteN (s : State) (id units : Nat) : State :=
  if s.chain.substituted.contains id ∨ s.leaving.contains id then s
  else
    let t := { s with chain := { s.chain with substituted := id :: s.chain.substituted } }
    t.onDesc id fun d => d.missing units

/-- A stream's unit of work of this tick is missing (R72). -/
def substitute (s : State) (id : Nat) : State := s.substituteN id 1

/-- Streams that wait for their next frame start with it (R151). -/
def restartStreams (s : State) (p : Desc → Bool) : State :=
  let l := s.fabric.restart.filter fun id => (s.desc? id).any p
  let t := s.forEach l fun t id => t.onDesc id Desc.start
  { t with fabric := { t.fabric with restart := t.fabric.restart.filter fun id => !(l.contains id) } }

/-- A port receives a cell with VALID 0 (R156, R162, R164). -/
def invalidCells (s : State) (port k : Nat) : State :=
  if k = 0 then s else
  let t := (s.bump (O04.INVALID_CELLS port) k).flag (O04.PORT_FLAGS port) 4
  if s.fabric.invalid.contains port then t
  else { t with fabric := { t.fabric with invalid := port :: t.fabric.invalid } }.raise 0x042 port []

/-- A port receives a cell with VALID 1: the condition of 0x042 is armed again (R164). -/
def validCells (s : State) (port : Nat) : State :=
  { s with fabric := { s.fabric with invalid := s.fabric.invalid.filter (· != port) } }

/-- A cell is discarded at its destination (R156). `cause` is 0 parity, 1 mismatch: the codes and their width are the model's choice (log
entry 28). -/
def errorCell (s : State) (port stream cause : Nat) : State :=
  ((s.bump (O04.ERROR_CELLS port) 1).flag (O04.PORT_FLAGS port) 8).raise 0x046 port (d16 stream ++ d8 cause)

end State
end Sys2Proof.Machine
end

