-- ==== Sys2Proof/Machine/FrameMemory.lean ====
section
/-! DEFINITION. Frame memory: its bytes, its regions and extents, its error handling, and the commands of class 05 (R165 to R192). -/

namespace Sys2Proof.Machine

/-- Bytes of a stack (R167). -/
def stackBytes : Nat := 38654705664

/-- Stacks present (R189). -/
def stackCount (m : Member) : Nat := byMember m 4 2 1

/-- Bytes of a stack's system share (R167). -/
def systemShare (m : Member) : Nat := 4294967296 / stackCount m

/-- Offset of the general region in a stack (R167). -/
def generalOfs (m : Member) : Nat := systemShare m + 10749542400

/-- Bytes of a stack's general region (R167). -/
def generalSize (m : Member) : Nat := stackBytes - generalOfs m

/-- First byte of the synchroniser buffer of a general lane (R167). -/
def syncBase (m : Member) (g : Nat) : Nat :=
  let h := g * stackCount m / byMember m 192 96 48
  h * stackBytes + systemShare m + (g - h * 48) * 223948800

/-- The class 05 instance of the channel that holds an address (R172, R190). -/
def chanInst (a : Nat) : Nat := 0x10 + 16 * (a / stackBytes) + a % stackBytes / 128 % 16

/-- fold5 of R172. -/
def fold5 (x : Nat) : Nat := field x 4 0 ^^^ field x 9 5 ^^^ field x 14 10 ^^^ field x 15 15

/-- The bank of an address under its stack's key (R172). -/
def bankOf (key a : Nat) : Nat :=
  let rb := a % stackBytes / 128 / 16 / 16
  rb % 32 ^^^ fold5 (rb / 32 * key % 65536)

/-- The next boundary of 4,096 bytes (R174). -/
def pageUp (a : Nat) : Nat := ceilDiv a 4096 * 4096

/-- The pin that carries a symbol of a codeword of a cell: two codewords lie beside each other in a clock cycle (R168). -/
def symbolPin (word sym : Nat) : Nat := if sym < 32 then word % 2 * 32 + sym else 64 + word % 2 * 4 + (sym - 32)

/-- What the syndrome of a codeword shows (R169). -/
inductive Syndrome where
  /-- No error. -/
  | clean
  /-- The pattern of one symbol, on a pin: it is corrected. -/
  | symbol (pin : Nat)
  /-- Any other. -/
  | bad
  deriving DecidableEq, Repr

/-- The syndrome of a codeword with symbols in error (R168, R169): one is corrected, two are detected. Three or more can alias to a clean
or correctable syndrome, and which they do is open (log entry 6). -/
def syndrome (addr word : Nat) (syms : List Nat) : Syndrome :=
  match syms.eraseDups with
  | [] => .clean
  | [y] => .symbol (symbolPin word y)
  | [_, _] => .bad
  | l =>
    let r := Config.openResult 18 (addr :: word :: l) % 38
    if r = 36 then .clean else if r = 37 then .bad else .symbol (symbolPin word r)

/-- The syndromes of the 8 codewords of a cell with symbols in error: codeword and symbol (R168, R169). -/
def cellSyndromes (addr : Nat) (ecc : List (Nat × Nat)) : List Syndrome :=
  (List.range 8).map fun w => syndrome addr w ((ecc.filter fun e => e.1 == w && decide (e.2 < 36)).map (·.2))

/-- The pins of the codewords of a cell that were corrected. -/
def correctedPins (l : List Syndrome) : List Nat := l.filterMap fun y => match y with
  | .symbol p => some p
  | _ => none

/-- The codewords of a cell whose error the code does not see, or corrects to other data than was written: three or more symbols (R169). -/
def aliased (addr : Nat) (ecc : List (Nat × Nat)) : List Nat :=
  (List.range 8).filter fun w =>
    let l := ((ecc.filter fun e => e.1 == w && decide (e.2 < 36)).map (·.2)).eraseDups
    decide (3 ≤ l.length) && syndrome addr w l != .bad

/-- Bytes of a clip of a kind, format and length (R41, R144, R186): whole frames, or blocks of 48 samples. -/
def clipUnitBytes (kind fmt : Nat) : Nat := if kind = 0 then frameBytes fmt else 48 * 128 * ceilDiv fmt 32

/-- Whether CLIP_FORMAT is a valid code for CLIP_KIND (R185, R190). -/
def clipFormatOk (kind fmt : Nat) : Bool := if kind = 0 then formatOk fmt else decide (1 ≤ fmt ∧ fmt ≤ 64)

/-- What a byte of frame memory that is not listed reads as: 0 (R173), and an open value in an extent that MEMTEST wrote (log entry 15). -/
def FmemSt.unlisted (f : FmemSt) (a : Nat) : Byte :=
  match f.wild.find? fun w => decide (w.1 ≤ a ∧ a < w.1 + w.2.1) with
  | none => 0
  | some w => BitVec.ofNat 8 (Config.openResult 15 [w.2.2, a])

namespace State

/-- The byte of frame memory at an address. -/
def fmByte (s : State) (a : Nat) : Byte := SMap.getD s.fmem.mem a (s.fmem.unlisted a)

/-- Bytes of frame memory from an address. -/
def fmRead (s : State) (a k : Nat) : List Byte := (List.range k).map fun j => s.fmByte (a + j)

/-- Write one byte of frame memory; a byte that reads as an unlisted one is not listed. -/
def fmPut (s : State) (a : Nat) (b : Byte) : State :=
  { s with fmem := { s.fmem with mem := SMap.setD s.fmem.mem a (s.fmem.unlisted a) b } }

/-- Write bytes of frame memory from an address; a scrub write-back of a cell they reach is cancelled (R180), and the data words that they
fill are bad no more (R170). -/
def fmWrite (s : State) (a : Nat) (bs : List Byte) : State :=
  let t := { s with fmem := { s.fmem with
    writeBack := s.fmem.writeBack.filter fun c => decide (c + 128 ≤ a ∨ a + bs.length ≤ c)
    bad := s.fmem.bad.filter fun w => decide (w < a ∨ a + bs.length < w + 16) } }
  t.forEach bs.zipIdx fun t e => t.fmPut (a + e.2) e.1

/-- Bytes of the frame memory of the member. -/
def fmSize (s : State) : Nat := stackCount s.member * stackBytes

/-- Allocated extents of a stack, in rising order of base. -/
def stackExtents (s : State) (h : Nat) : List (Nat × Nat × Nat) :=
  s.fmem.extents.filter fun e => e.1 / stackBytes == h

/-- The free gaps of a stack's general region: base and length, each starting on a 4,096-byte boundary. -/
def gapsFrom (limit : Nat) : Nat → List (Nat × Nat × Nat) → List (Nat × Nat)
  | a, [] => [(a, limit - a)]
  | a, e :: l => (a, e.1 - a) :: gapsFrom limit (pageUp (e.1 + e.2.1)) l

/-- The free gaps of a stack's general region. -/
def gaps (s : State) (h : Nat) : List (Nat × Nat) :=
  gapsFrom (h * stackBytes + stackBytes) (h * stackBytes + generalOfs s.member) (s.stackExtents h)

/-- FREE_BYTES of a stack (R190). -/
def freeBytes (s : State) (h : Nat) : Nat :=
  generalSize s.member - ((s.stackExtents h).map (·.2.1)).foldl (· + ·) 0

/-- LARGEST_FREE of a stack (R190). -/
def largestFree (s : State) (h : Nat) : Nat := ((s.gaps h).map (·.2)).foldl max 0

/-- The entries that are committed: those of the active bank, and those that admitted transactions will add (R67). -/
def committed (s : State) : List (Nat × Nat) :=
  s.chain.active ++ (s.chain.cur.map (·.placed)).getD [] ++ s.chain.queue.flatMap (·.placed)

/-- Committed slot CHARGE per tick of a stack (R184). -/
def stackCharge (s : State) (h : Nat) : Nat :=
  (s.committed.map fun e => if entMem e.2 && entStack e.2 == h then charge (entCells e.2) else 0).foldl (· + ·) 0

/-- The lowest free extent of a stack that fits. -/
def fitExtent (s : State) (h bytes : Nat) : Option Nat := ((s.gaps h).find? fun g => decide (bytes ≤ g.2)).map (·.1)

/-- The stack that takes a new extent: one with a free extent large enough, of the lowest committed CHARGE, the lowest first (R184). -/
def pickStack (s : State) (want : Option Nat) (bytes : Nat) : Option (Nat × Nat) :=
  let hs := match want with
    | some h => [h]
    | none => List.range (stackCount s.member)
  hs.foldl (fun a h =>
    match s.fitExtent h bytes, a with
    | none, _ => a
    | some b, none => some (h, b)
    | some b, some (g, c) => if s.stackCharge h < s.stackCharge g then some (h, b) else some (g, c)) none

/-- Put an extent into the list, in order of base. -/
def putExtent : List (Nat × Nat × Nat) → (Nat × Nat × Nat) → List (Nat × Nat × Nat)
  | [], x => [x]
  | e :: l, x => if x.1 < e.1 then x :: e :: l else e :: putExtent l x

/-- Neloas discards a damaged copy in the system share, and writes it again from the on-die banks and the journal (R55, R170). -/
def rebuildSystem (s : State) (cell : Nat) : State :=
  let t := { s with chain := { s.chain with activeCopy := s.chain.active, shadowCopy := s.chain.shadow } }
  { t with fmem := { t.fmem with bad := t.fmem.bad.filter fun w => decide (w < cell ∨ cell + 128 ≤ w) } }

/-- FREE_BYTES, LARGEST_FREE and GENERAL_FREE follow the extents (R184, R190). -/
def countFree (s : State) : State :=
  let hs := List.range (stackCount s.member)
  (s.forEach hs fun t h => (t.setN (O05.FREE_BYTES h) (t.freeBytes h)).setN (O05.LARGEST_FREE h) (t.largestFree h)).setN
    O05.GENERAL_FREE ((hs.map s.freeBytes).foldl (· + ·) 0)

/-- Allocate an extent (R184): its base; none where no stack has room. A stack that is not present has none (R189). A running MEMTEST never
stands in the way (R182). -/
def allocate (s : State) (want : Option Nat) (bytes owner : Nat) : Option (Nat × State) :=
  if (want.map fun h => decide (stackCount s.member ≤ h)).getD false then none else
  match s.pickStack want bytes with
  | none => none
  | some (_, b) => some (b, { s with fmem := { s.fmem with extents := putExtent s.fmem.extents (b, bytes, owner) } }.countFree)

/-- A running MEMTEST holds bytes of an extent (R182). -/
def underTest (s : State) (base bytes : Nat) : Bool := s.fmem.testing.any fun e => decide (e.1 < base + bytes ∧ base < e.1 + e.2)

/-- The seam: MEMTEST leaves the extents that allocations need, and those allocations complete (R182). -/
def memSeam (s : State) : State :=
  let t := s.forEach s.fmem.placing fun t i => if t.n (O05.CLIP_STATE i) = 0 then t.setN (O05.CLIP_STATE i) 1 else t
  { t with fmem := { t.fmem with
    placing := []
    testing := t.fmem.testing.filter fun e => t.fmem.extents.all fun x => decide (e.1 + e.2 ≤ x.1 ∨ x.1 + x.2.1 ≤ e.1) } }

/-- Free the extents that start at a base. -/
def freeExtent (s : State) (base : Nat) : State :=
  { s with fmem := { s.fmem with extents := s.fmem.extents.filter (·.1 != base) } }.countFree

/-- Collect a persistent value for the next IMMEDIATE journal record: the last of each object (R521). -/
def journal (s : State) (k : Key) (v : Val) : State :=
  { s with jrnl := { s.jrnl with imm := s.jrnl.imm.filter (·.1 != k) ++ [(k, v)] } }

/-- A codeword was corrected (R169, R171, R180, R192). The records of channels carry the stack and the channel by their INSTANCE, and the
cell's address in DETAIL: the model's choice (log entry 29). -/
def countCE (s : State) (a pin : Nat) : State :=
  let c := chanInst a
  let b := s.bs (O05.PIN_CE c)
  let n := natBE (slice b (4 * pin) 4) + 1
  let t := ((((s.bump (O05.CE_COUNT c) 1).setN (O05.LAST_ERROR_ADDR c) (a / 128 * 128)).setN (O05.LAST_ERROR_PIN c) pin).flag
    (O05.STACK_FLAGS (a / stackBytes)) 1)
  let t := if pin < 72 then t.setBytes (O05.PIN_CE c) (splice b (4 * pin) (d32 n)) else t
  let t := t.raiseLim 0x050 c (d64 (a / 128 * 128)) 192
  if s.n O05.PIN_CE_LIMIT ≤ n ∧ ¬ s.fmem.pinsSeen.contains (c, pin) then
    { t with fmem := { t.fmem with pinsSeen := (c, pin) :: t.fmem.pinsSeen } }.raise 0x056 c (d8 pin)
  else t

/-- The codewords of a cell that a read corrects (R169). -/
def countCell (s : State) (a : Nat) (ecc : List (Nat × Nat)) : State :=
  s.forEach (correctedPins (cellSyndromes (a / 128 * 128) ecc)) fun t p => t.countCE a p

/-- The codewords that a read of several cells corrects: cell address, codeword and symbol (R169). -/
def countCells (s : State) (ecc : List (Nat × Nat × Nat)) : State :=
  s.forEach ((ecc.map fun e => e.1 / 128 * 128).eraseDups) fun t a =>
    t.countCell a ((ecc.filter fun e => e.1 / 128 * 128 == a).map (·.2))

/-- A cell of frame memory has a word with a UE (R170). -/
def badCell (s : State) (a : Nat) : Bool := s.fmem.bad.any fun w => decide (a ≤ w ∧ w < a + 128)

/-- A cell as it reads where words of it are damaged beyond the code's reach: what those words carry is open (R169, R187; log entry 6). -/
def damagedCell (s : State) (a : Nat) (words : List Nat) : List Byte :=
  (List.range 128).map fun j => if words.contains (j / 16) then BitVec.ofNat 8 (Config.openResult 18 [a, j]) else s.fmByte (a + j)

/-- An uncorrectable cell (R169, R170): its damaged data words stay bad until a full-word write replaces them. -/
def countUE (s : State) (a : Nat) (words : List Nat) : State :=
  let c := chanInst a
  let l := words.map fun w => a / 128 * 128 + 16 * w
  let t := ((s.bump (O05.UE_COUNT c) 1).setN (O05.LAST_ERROR_ADDR c) (a / 128 * 128)).flag (O05.STACK_FLAGS (a / stackBytes)) 2
  { t with fmem := { t.fmem with bad := l ++ t.fmem.bad.filter fun w => !(l.contains w) } }

/-- What MEMTEST counts in a channel (R181). -/
def countTest (s : State) (a ce ue : Nat) : State :=
  let c := chanInst a
  let o := s.fmem.tested.getD c (0, 0)
  { s with fmem := { s.fmem with tested := s.fmem.tested.put c (o.1 + ce, o.2 + ue) } }

/-- A cell of a clip has a UE: its unit counts once, and the clip becomes DAMAGED (R170, R187, R190, R192). -/
def damageClip (s : State) (i addr : Nat) : State :=
  let bytes := clipUnitBytes (s.n (O05.CLIP_KIND i)) (s.n (O05.CLIP_FORMAT i))
  let unit := (addr - s.n (O05.CLIP_BASE i)) / max 1 bytes
  let at_ := d64 (addr / 128 * 128)
  let t := if s.fmem.badUnits.contains (i, unit) then s
    else { s with fmem := { s.fmem with badUnits := (i, unit) :: s.fmem.badUnits } }.bump (O05.CLIP_DAMAGED i) 1
  if s.n (O05.CLIP_STATE i) = 3 then (t.setN (O05.CLIP_STATE i) 4).raise 0x059 i at_
  else if s.n (O05.CLIP_STATE i) = 5 ∧ s.fmem.saving.getD i 3 = 3 then
    { t with fmem := { t.fmem with saving := t.fmem.saving.put i 4 } }.raise 0x059 i at_
  else t

/-- A clip's content goes: no unit of it is damaged. -/
def mendClip (s : State) (i : Nat) : State :=
  { s with fmem := { s.fmem with badUnits := s.fmem.badUnits.filter fun e => e.1 != i } }.setN (O05.CLIP_DAMAGED i) 0

/-- Whether a source word (R225) names a clip of class 05 on this device: device 0, or its own identifier. -/
def namesClip (own src i : Nat) : Bool := field src 15 0 == 0x2000 + (i - 0x100) && (field src 25 16 == 0 || field src 25 16 == own)

/-- Whether a route, a player or a conversion path reads a clip (R187, R188, R328). -/
def clipRead (s : State) (i : Nat) : Bool :=
  s.objs.any fun e =>
    (clsOf e.1 == 8 && decide (instOf e.1 < 0x900) && (parOf e.1 == 0 || parOf e.1 == 1) && namesClip s.deviceId (natBE (slice e.2.bytes 4 4)) i) ||
    (clsOf e.1 == 8 && decide (instOf e.1 < 0x900) && (parOf e.1 == 0x11 || parOf e.1 == 0x12) && namesClip s.deviceId e.2.toNat i) ||
    (clsOf e.1 == 0x0C && decide (0x500 ≤ instOf e.1 ∧ instOf e.1 < 0x600) && parOf e.1 == 0 && e.2.toNat == i - 0x100)

/-- Whether a clip can be named as a source: COMPLETE or DAMAGED, also while it is saved (R185, R187). -/
def clipUsable (s : State) (i : Nat) : Bool := decide (3 ≤ s.n (O05.CLIP_STATE i))

/-- Allocate a clip, as the journal holds it (R184, R185): none where no stack has room. -/
def placeClip (s : State) (i : Nat) : Option State :=
  let bytes := s.n (O05.CLIP_UNITS i) * clipUnitBytes (s.n (O05.CLIP_KIND i)) (s.n (O05.CLIP_FORMAT i))
  let want := if s.n (O05.CLIP_STACK i) = 0xFF then none else some (s.n (O05.CLIP_STACK i))
  match s.allocate want bytes (0x5000 + i) with
  | none => none
  | some (b, t) => some ((((((t.setN (O05.CLIP_STATE i) 1).setN (O05.CLIP_BYTES i) bytes).setN (O05.CLIP_BASE i) b).setN
      (O05.CLIP_LOADED i) 0).mendClip i))

/-- CLIP_ALLOC: the state and the status (R185). Where a MEMTEST holds the extent, the allocation completes at the next seam (R182).
Allocating a clip that is not FREE is a CONFLICT (log entry 17). -/
def actClipAlloc (s : State) (i : Nat) : State × Nat :=
  if s.n (O05.CLIP_STATE i) ≠ 0 ∨ s.fmem.placing.contains i then (s, CONFLICT)
  else if ¬ clipFormatOk (s.n (O05.CLIP_KIND i)) (s.n (O05.CLIP_FORMAT i)) ∨ s.n (O05.CLIP_UNITS i) = 0 then (s, CONFLICT)
  else match s.placeClip i with
    | none => (s.setN O01.LAST_REFUSAL 4, NO_CAPACITY)
    | some t =>
      let u := if t.underTest (t.n (O05.CLIP_BASE i)) (t.n (O05.CLIP_BYTES i)) then
          { t with fmem := { t.fmem with placing := i :: t.fmem.placing } }.setN (O05.CLIP_STATE i) 0
        else t
      (u.journal (O05.CLIP_ALLOC i) (.num 1), OK)

/-- CLIP_RELEASE (R185, R187, R188). Of a clip that is FREE already it answers OK and changes nothing: the model's choice (log entry 17). -/
def actClipRelease (s : State) (i : Nat) : State × Nat :=
  let st := s.n (O05.CLIP_STATE i)
  if st = 2 ∨ st = 5 then (s, BUSY)
  else if s.clipRead i then (s, CONFLICT)
  else if st = 0 ∧ ¬ s.fmem.placing.contains i then (s, OK)
  else
    let t := { s with fmem := { s.fmem with placing := s.fmem.placing.filter (· != i) } }.freeExtent (s.n (O05.CLIP_BASE i))
    let t := ((((t.setN (O05.CLIP_STATE i) 0).setN (O05.CLIP_BYTES i) 0).setN (O05.CLIP_BASE i) 0).setN (O05.CLIP_LOADED i) 0).mendClip i
    (t.journal (O05.CLIP_ALLOC i) (.num 0), OK)

/-- Parameters that a clip job takes at its start: CLIP_HOST_ADDR and CLIP_RATE. -/
def clipPar (s : State) (i : Nat) : List Nat := [s.n (O05.CLIP_HOST_ADDR i), s.n (O05.CLIP_RATE i)]

/-- CLIP_LOAD (R186, R187). -/
def startClipLoad (s : State) (sess role i : Nat) : State × Nat × Nat :=
  let st := s.n (O05.CLIP_STATE i)
  if st = 0 then (s, CONFLICT, 0)
  else if st = 2 ∨ st = 5 then (s, BUSY, 0)
  else if st ≠ 1 ∧ s.clipRead i then (s, CONFLICT, 0)
  else
    let r := s.startJob sess role (O05.CLIP_LOAD i) (.num 1) (s.clipPar i)
    if r.2.1 = PENDING then
      ((((r.1.setN (O05.CLIP_STATE i) 2).setN (O05.CLIP_LOADED i) 0).mendClip i), r.2)
    else r

/-- CLIP_SAVE (R186, R187). -/
def startClipSave (s : State) (sess role i : Nat) : State × Nat × Nat :=
  let st := s.n (O05.CLIP_STATE i)
  if st < 2 then (s, CONFLICT, 0)
  else if st = 2 ∨ st = 5 then (s, BUSY, 0)
  else
    let r := s.startJob sess role (O05.CLIP_SAVE i) (.num 1) (s.clipPar i)
    if r.2.1 = PENDING then
      let t := r.1
      ({ t with fmem := { t.fmem with saving := t.fmem.saving.put i st } }.setN (O05.CLIP_STATE i) 5, r.2)
    else r

/-- The destination number by which the streams of a clip job are known (R186; log entry 23). -/
def clipDest (i : Nat) : Nat := 0x2000 + i

/-- A clip job ends (R186, R187): a load that completes sets COMPLETE. Any other end of a load leaves ALLOCATED, as a cancelled one does: of
the others the spec says nothing (log entry 17). -/
def clipJobEnd (s : State) (k : Key) (status : Nat) : State :=
  let i := instOf k
  let t := { s with fabric := { s.fabric with relay := s.fabric.relay.del i } }
  if parOf k = 0x00C then
    if status = OK then (t.setN (O05.CLIP_STATE i) 3).setN (O05.CLIP_LOADED i) (t.n (O05.CLIP_UNITS i))
    else (t.setN (O05.CLIP_STATE i) 1).setN (O05.CLIP_LOADED i) 0
  else
    { t with fmem := { t.fmem with saving := t.fmem.saving.del i } }.setN (O05.CLIP_STATE i) (t.fmem.saving.getD i 3)

/-- The staging extent of a stack: the last 2,097,152 bytes of its system share, which is the model's choice of place (R186; log entry 36). -/
def stagingBase (s : State) (h : Nat) : Nat := h * stackBytes + systemShare s.member - 2097152

/-- Cells of a clip (R186). -/
def clipCells (s : State) (i : Nat) : Nat := ceilDiv (s.n (O05.CLIP_BYTES i)) 128

/-- The running job of a clip: its slot and state. -/
def clipJob (s : State) (i : Nat) : Option (Nat × JobSt) :=
  List.find? (fun (e : Nat × JobSt) => s.n (O1B.JOB_STATE e.1) == 2 && (e.2.obj == O05.CLIP_LOAD i || e.2.obj == O05.CLIP_SAVE i)) s.jobs

/-- Where a stream of a clip job reads or writes (R186): a load fetches from the staging extent and sends to the clip, a save the other way. -/
def legBase (s : State) (i : Nat) (out : Bool) : Nat :=
  if (s.n (O05.CLIP_STATE i) == 2) == out then s.n (O05.CLIP_BASE i) else s.stagingBase (s.n (O05.CLIP_BASE i) / stackBytes)

/-- A stream is one of the two of the job that runs on a clip: what FP63 receives, or what it sends (R186). -/
def isLeg (s : State) (i : Nat) (out : Bool) (d : Desc) : Bool :=
  d.dest == clipDest i && (if out then d.srcp else d.dstp) == 63 && d.base * 4096 == s.legBase i out

/-- A stream of a clip job that is in force, and that does not wait for its removal. -/
def clipLeg (s : State) (i : Nat) (out : Bool) : Option (Nat × Desc) :=
  List.find? (fun (e : Nat × Desc) => s.isLeg i out e.2 && !(s.chain.removals.contains e.1)) s.fabric.desc

/-- Cells that a stream of a clip job has moved. -/
def clipMoved (s : State) (i : Nat) (out : Bool) : Nat := ((s.clipLeg i out).map (·.2.cells)).getD 0

/-- Cells that FP63 may fetch next for a clip (R186): of a load those that are staged, of a save those of the clip for which the staging extent
has room. -/
def clipReady (s : State) (i : Nat) : Nat :=
  match s.clipJob i with
  | none => 0
  | some (_, x) =>
    let m := s.clipMoved i false
    if parOf x.obj = 0x00C then (if s.n (O05.CLIP_BYTES i) ≤ x.done then s.clipCells i else x.done / 128) - m
    else min (s.clipCells i) (x.done / 128 + 16384) - m

/-- A cell of a clip job reaches FP63 (R186). -/
def relayIn (s : State) (i : Nat) (cell : List Byte) : State :=
  { s with fabric := { s.fabric with relay := s.fabric.relay.put i (s.fabric.relay.getD i [] ++ [cell]) } }

/-- FP63 sends the first `k` cells of a clip job. -/
def relayOut (s : State) (i k : Nat) : State :=
  { s with fabric := { s.fabric with relay := s.fabric.relay.put i ((s.fabric.relay.getD i []).drop k) } }

/-- Bytes that a DMA engine may move next for a clip job: into the room of the staging extent, or what is staged (R186). -/
def clipRoom (s : State) (x : JobSt) : Nat :=
  let i := instOf x.obj
  let total := s.n (O05.CLIP_BYTES i)
  if parOf x.obj = 0x00C then
    let have_ := if x.par.headD 0 = 0 then min total x.data.length else total
    min (have_ - x.done) (2097152 + 128 * s.clipMoved i false - x.done)
  else min (total - x.done) (128 * s.clipMoved i true - x.done)

/-- A DMA engine moves bytes between the host, or the SRAM where bulk data gathers, and the staging extent, which is written and read as a
ring (R37, R186). The bytes of a save that it has moved. -/
def clipStage (s : State) (x : JobSt) (data : List Byte) (bytes : Nat) : State × List Byte :=
  let h := s.n (O05.CLIP_BASE (instOf x.obj)) / stackBytes
  let k := min bytes (s.clipRoom x)
  let at_ (j : Nat) : Nat := s.stagingBase h + (x.done + j) % 2097152
  if parOf x.obj = 0x00C then
    let d := if x.par.headD 0 = 0 then slice x.data x.done k else padTo k (data.take k)
    let first := 2097152 - x.done % 2097152
    ((s.fmWrite (at_ 0) (d.take first)).fmWrite (s.stagingBase h) (d.drop first), [])
  else (s, (List.range k).map fun j => s.fmByte (at_ j))

/-- The extents that a MEMTEST tests: the free ones (R181). -/
def testGaps (s : State) (which : Nat) : List (Nat × Nat) :=
  ((List.range (stackCount s.member)).filter fun h => which == 0 || which == h + 1).flatMap s.gaps

/-- The bytes of a gap become open: what they read as is one draw (log entry 15). -/
def openGap (s : State) (base len : Nat) : State :=
  { s with
    fresh := s.fresh + 1
    fmem := { s.fmem with
      mem := s.fmem.mem.filter fun e => decide (e.1 < base ∨ base + len ≤ e.1)
      wild := (base, len, s.fresh) :: s.fmem.wild } }

/-- MEMTEST writes its five patterns over every free extent it tests: what these hold from then on, the last of them a DRBG sequence, is
open (R181; log entry 15). -/
def wildFree (s : State) (which : Nat) : State :=
  s.forEach (s.testGaps which) fun t g =>
    t.openGap g.1 g.2

/-- MEMTEST starts (R181). A stack that is not present is ABSENT (R189). -/
def startMemtest (s : State) (sess role which : Nat) : State × Nat × Nat :=
  if stackCount s.member < which then (s, ABSENT, 0)
  else
    let r := s.startJob sess role O05.MEMTEST (.num which) [which]
    if r.2.1 = PENDING then
      let t := r.1.wildFree which
      ({ t with fmem := { t.fmem with tested := [], testing := t.testGaps which } }, r.2)
    else r

/-- The counts of a MEMTEST as its JOB_RESULT holds them. The spec states no layout: the model's choice (log entry 36) is, of one stack, a U16
of CEs and a U16 of UEs by channel, and of all stacks a byte by channel, CEs in its high half; each stops at its greatest value. -/
def testResult (s : State) (which : Nat) : List Byte :=
  let count (c : Nat) : Nat × Nat := s.fmem.tested.getD c (0, 0)
  if which = 0 then (List.range 64).flatMap fun c => d8 (min 15 (count (0x10 + c)).1 * 16 + min 15 (count (0x10 + c)).2)
  else (List.range 16).flatMap fun c =>
    let n := count (0x10 + 16 * (which - 1) + c)
    d16 (saturate 16 n.1) ++ d16 (saturate 16 n.2)

/-- A MEMTEST reads back codewords that the code corrects (R169, R181). -/
def testRead (s : State) (ecc : List (Nat × Nat × Nat)) : State :=
  s.forEach ((ecc.map fun e => e.1 / 128 * 128).eraseDups) fun t a =>
    let l := (ecc.filter fun e => e.1 / 128 * 128 == a).map (·.2)
    (t.countTest a (correctedPins (cellSyndromes a l)).length 0).countCell a l

/-- A MEMTEST ends: it holds no extent. -/
def testEnds (s : State) : State := { s with fmem := { s.fmem with testing := [] } }

/-- The ranges of class 05 beyond a row's: CLIP_STACK names 0 to 3, or any (R190); CLIP_FORMAT is a code of R196, or a number of channels
(R190, R197). -/
def clipItemOk (k : Key) (v : Val) : Bool :=
  decide (instOf k < 0x100) ||
  (match parOf k with
   | 2 => formatOk v.toNat || decide (1 ≤ v.toNat ∧ v.toNat ≤ 64)
   | 4 => decide (v.toNat ≤ 3 ∨ v.toNat = 0xFF)
   | _ => true)

/-- The stream of a clip job's leg into the fabric, or out of it, goes back to a byte of the clip. -/
def rewindLeg (s : State) (i byte : Nat) (out : Bool) : State :=
  match s.clipLeg i out with
  | some (id, d) => { s with fabric := { s.fabric with desc := s.fabric.desc.put id { d with cells := byte / 128 } } }
  | none => s

/-- A clip job goes back to a byte of its clip: what the DMA engines moved, the streams of its fabric leg, and the cells in FP63. -/
def rewindClip (s : State) (j : Nat) (x : JobSt) (byte : Nat) : State :=
  let i := instOf x.obj
  let t := (s.rewindLeg i byte false).rewindLeg i byte true
  let t := { t with fabric := { t.fabric with relay := t.fabric.relay.del i } }
  t.setJob j { x with done := byte, data := if parOf x.obj = 0x00D then x.data.take byte else x.data }

/-- HBM bypass discards the cells of a load in progress: the job goes back to the first unit not confirmed (R127, R186). A save goes back to
what it has handed on (log entry 36). -/
def rewindClips (s : State) : State :=
  s.forEach s.jobs fun t e =>
    if clsOf e.2.obj ≠ 5 then t
    else if parOf e.2.obj = 0x00C then
      let i := instOf e.2.obj
      t.rewindClip e.1 e.2 (t.n (O05.CLIP_LOADED i) * clipUnitBytes (t.n (O05.CLIP_KIND i)) (t.n (O05.CLIP_FORMAT i)))
    else if parOf e.2.obj = 0x00D then t.rewindClip e.1 e.2 (e.2.done / 128 * 128)
    else t

end State

/-- A cell with an uncorrectable syndrome is read once more (R169, R170, R192): `ecc` holds the symbols in error of the second read. A word
that is bad already stays so. Its port issues the cell of a MEMRD entry with VALID 0 in its turn, and a bus access to it gets its error
response in its turn. -/
def execEccRetry (addr reader stream : Nat) (ecc : List (Nat × Nat)) (s : State) : Host.Outcome State Fault Refusal :=
  live s fun s =>
    if s.fmSize ≤ addr then s else
    let c := chanInst addr
    let cell := addr / 128 * 128
    let at_ := d64 cell
    let l := cellSyndromes cell ecc
    let words := (List.range 8).filter fun w => l[w]? == some .bad || s.fmem.bad.contains (cell + 16 * w)
    if words = [] then
      let t := ((s.bump (O05.RETRY_OK c) 1).raiseLim 0x054 c at_ 192).countCell cell ecc
      if reader = 6 then t.countTest cell (correctedPins l).length 0 else t
    else
      let t := s.countUE addr words
      match reader with
      | 0 =>
        (t.substitute stream).raise 0x051 c (at_ ++ d16 stream)
      | 1 => (t.damageClip stream addr).raise 0x051 c (at_ ++ d16 stream)
      | 2 => t.raise 0x053 c at_
      | 3 => t.raise 0x053 c at_
      | 4 => (t.raise 0x052 c at_).rebuildSystem cell
      | 5 => t.raise 0x051 c at_
      | _ => (t.raise 0x05A c at_).countTest cell 0 1

/-- A reserved access falls on a bank under refresh (R178). -/
def execRefreshCollision (stack channel stream : Nat) (s : State) : Host.Outcome State Fault Refusal :=
  live s fun s =>
    if stackCount s.member ≤ stack then s else
    ((s.bump (O05.REFRESH_COLLISIONS stack) 1).flag (O05.STACK_FLAGS stack) 4).raiseLim 0x055 stack (d8 channel ++ d16 stream) 192

/-- The report of a stack's temperature sets its refresh rate (R179). -/
def execStackTemperature (stack : Nat) (temp : Int) (s : State) : Host.Outcome State Fault Refusal :=
  live s fun s =>
    if stackCount s.member ≤ stack then s else
    let old := s.n (O05.REFRESH_RATE stack)
    let up := if 95 ≤ temp then 2 else if 85 ≤ temp then 1 else 0
    let down := if 92 < temp then 2 else if 82 < temp then 1 else 0
    let new := if old < up then up else min old down
    let t := s.setZ 16 (O05.STACK_TEMP stack) temp
    if new = old then t
    else
      let t := t.setN (O05.REFRESH_RATE stack) new
      let t := if old = 0 then t.flag (O05.STACK_FLAGS stack) 8 else t
      t.raise 0x057 stack []

/-- A scrub slot: the cell at SCRUB_POSITION is read on every channel (R171, R180). -/
def execScrubRead (ecc : List (Nat × Nat × Nat)) (s : State) : Host.Outcome State Fault Refusal :=
  live s fun s =>
    if ¬ s.b O05.SCRUB_ENABLE ∨ s.clocks.hbmBypass then s else
    let pos := s.n O05.SCRUB_POSITION
    let addrOf (c : Nat) : Nat := (c - 0x10) / 16 * stackBytes + (pos * 16 + (c - 0x10) % 16) * 128
    let good := (ecc.filter fun e => decide (0x10 ≤ e.1) && s.present 0x05 e.1).map fun e => (addrOf e.1, e.2)
    let t := s.countCells good
    let back := ((good.map (·.1)).eraseDups).filter fun a =>
      correctedPins (cellSyndromes a ((good.filter (·.1 == a)).map (·.2))) != []
    let t := { t with fmem := { t.fmem with writeBack := t.fmem.writeBack ++ back.filter fun a => !(t.fmem.writeBack.contains a) } }
    if pos + 1 < 18874368 then t.setN O05.SCRUB_POSITION (pos + 1)
    else
      let t := (t.setN O05.SCRUB_POSITION 0).bump O05.SCRUB_PASSES 1
      let t := t.forEach ((List.range 64).map (· + 0x10)) fun t c => t.clearObj (O05.PIN_CE c)
      { t with fmem := { t.fmem with pinsSeen := [] } }.raise 0x058 noInst []

/-- A corrected cell is written back in a margin slot (R180): what frame memory holds does not change. -/
def execScrubWriteBack (addr : Nat) (s : State) : Host.Outcome State Fault Refusal :=
  live s fun s => { s with fmem := { s.fmem with writeBack := s.fmem.writeBack.filter (· != addr / 128 * 128) } }

/-- The MEMTEST job of a session starts (R181). -/
def execMemtest (sess which : Nat) (s : State) : Host.Outcome State Fault Refusal :=
  live s fun s =>
    if s.accepts ∧ which ≤ 4 then (s.startMemtest sess (s.n (O1C.SESS_ROLE sess)) which).1 else s

/-- The CLIP_ALLOC action (R185). -/
def execClipAlloc (clip : Nat) (s : State) : Host.Outcome State Fault Refusal :=
  onInst 0x05 clip s fun s => if 0x100 ≤ clip ∧ s.accepts then (s.actClipAlloc clip).1 else s

/-- The CLIP_RELEASE action (R185, R187). -/
def execClipRelease (clip : Nat) (s : State) : Host.Outcome State Fault Refusal :=
  onInst 0x05 clip s fun s => if 0x100 ≤ clip ∧ s.accepts then (s.actClipRelease clip).1 else s

/-- The CLIP_LOAD job of a session starts (R186, R187). -/
def execClipLoad (sess clip : Nat) (s : State) : Host.Outcome State Fault Refusal :=
  onInst 0x05 clip s fun s =>
    if 0x100 ≤ clip ∧ s.accepts then (s.startClipLoad sess (s.n (O1C.SESS_ROLE sess)) clip).1 else s

/-- The CLIP_SAVE job of a session starts (R186, R187). -/
def execClipSave (sess clip : Nat) (s : State) : Host.Outcome State Fault Refusal :=
  onInst 0x05 clip s fun s =>
    if 0x100 ≤ clip ∧ s.accepts then (s.startClipSave sess (s.n (O1C.SESS_ROLE sess)) clip).1 else s

end Sys2Proof.Machine
end

