-- ==== Sys2Proof/Machine/Pixels.lean ====
section
/-! DEFINITION. Pixels in the bushels' working format: unpacking and packing (R143, R252), the blend of R261, colour conversion (R266 to
R268), the LUT (R269), and where the pool keeps the pictures that pass through it. Log entry 40 names what the spec leaves open of them. -/

namespace Sys2Proof.Machine

/-- A pixel in the working format: Y′, C′B and C′R, 16 bits each (R252). -/
structure Px where
  y : Nat
  cb : Nat
  cr : Nat
  deriving DecidableEq, Repr

/-- Three components of a colour: R′G′B′ signals, or linear light. -/
structure Rgb where
  r : Rat
  g : Rat
  b : Rat
  deriving DecidableEq, Repr

/-- The same function of each component. -/
def Rgb.map (f : Rat → Rat) (c : Rgb) : Rgb := ⟨f c.r, f c.g, f c.b⟩

/-- The samples of bytes, `w` bits each, most significant bit first (R143). -/
def samplesOf (w : Nat) (b : List Byte) : List Nat :=
  let n := natBE b
  let bits := 8 * b.length
  (List.range (bits / w)).map fun i => n / 2 ^ (bits - w * (i + 1)) % 2 ^ w

/-- Samples of `w` bits packed, most significant bit first (R143). -/
def packSamples (w : Nat) (l : List Nat) : List Byte := bytesBE (w * l.length / 8) (l.foldl (fun a x => a * 2 ^ w + x % 2 ^ w) 0)

/-- Bits of a sample of a sampling (R197). -/
def sampleBits (sampling : Nat) : Nat := if sampling = 2 then 12 else 10

/-- What an interpolation of 4:2:2 chroma takes at the sample after sample `k`: the up to 8 nearest samples, and how many of them lie before
(R252). The filter's coefficients are not given: its result is open (log entry 40). -/
def chromaUp (l : List Nat) (k : Nat) : Nat :=
  Config.openResult 21 (min k 3 :: (l.drop (k - 3)).take (min k 3 + 5)) % 65536

/-- The co-sited 4:2:2 chroma of pixel `k` of a 4:4:4 line: the up to 11 samples about it (R252). The filter's coefficients are not given: its
result is open (log entry 40). -/
def chromaDown (l : List Nat) (k : Nat) : Nat :=
  Config.openResult 22 (min k 5 :: (l.drop (k - 5)).take (min k 5 + 6)) % 65536

/-- A code of `w` bits in the working format: a 10-bit code × 64, a 12-bit code × 16 (R252). -/
def workCode (w c : Nat) : Nat := c * 2 ^ (16 - w)

/-- The nearest code of `w` bits (R252). -/
def nearestCode (w v : Nat) : Nat := min (2 ^ w - 1) ((v + 2 ^ (15 - w)) / 2 ^ (16 - w))

/-- Pixels of samples in pixel-group order: C′B, Y′, C′R of each pixel (ST 2110-20, 4:4:4; log entry 40). -/
def pixels444 (w : Nat) : List Nat → List Px
  | cb :: y :: cr :: l => ⟨workCode w y, workCode w cb, workCode w cr⟩ :: pixels444 w l
  | _ => []

/-- The luma and chroma samples of 4:2:2 pixel groups: C′B, Y′0, C′R, Y′1 (R143). -/
def groups422 : List Nat → List (Nat × Nat × Nat × Nat)
  | cb :: y0 :: cr :: y1 :: l => (cb, y0, cr, y1) :: groups422 l
  | _ => []

/-- A line unpacked into the working format (R252): 4:2:2 chroma is kept at its own pixel and interpolated at the next. -/
def unpackLine (sampling : Nat) (b : List Byte) : List Px :=
  let w := sampleBits sampling
  let l := samplesOf w b
  if sampling = 0 then
    let g := groups422 l
    let cb := g.map fun q => workCode w q.1
    let cr := g.map fun q => workCode w q.2.2.1
    g.zipIdx.flatMap fun q =>
      [⟨workCode w q.1.2.1, workCode w q.1.1, workCode w q.1.2.2.1⟩, ⟨workCode w q.1.2.2.2, chromaUp cb q.2, chromaUp cr q.2⟩]
  else pixels444 w l

/-- A line packed from the working format: chroma filtered to 4:2:2 where the sampling has it, each sample rounded to its depth (R252). -/
def packLine (sampling : Nat) (l : List Px) : List Byte :=
  let w := sampleBits sampling
  if sampling = 0 then
    let cb := l.map (·.cb)
    let cr := l.map (·.cr)
    packSamples w ((List.range (l.length / 2)).flatMap fun i =>
      [nearestCode w (chromaDown cb (2 * i)), nearestCode w ((l.map (·.y)).getD (2 * i) 0),
        nearestCode w (chromaDown cr (2 * i)), nearestCode w ((l.map (·.y)).getD (2 * i + 1) 0)])
  else packSamples w (l.flatMap fun p => [nearestCode w p.cb, nearestCode w p.y, nearestCode w p.cr])

/-- A line's bytes in the working format: six to a pixel, in the order Y′, C′B, C′R (R252). -/
def workBytes (l : List Px) : List Byte := l.flatMap fun p => bytesBE 2 p.y ++ bytesBE 2 p.cb ++ bytesBE 2 p.cr

/-- Pixels of samples in the order Y′, C′B, C′R. -/
def pixelsWork : List Nat → List Px
  | y :: cb :: cr :: l => ⟨y, cb, cr⟩ :: pixelsWork l
  | _ => []

/-- A line's pixels from the working format. -/
def workLine (b : List Byte) : List Px := pixelsWork (samplesOf 16 b)

/-- FRC-BLEND: (1 − w) × P1 + w × N1, `w` in 64ths (R261). -/
def blendPx (w : Nat) (p n : Px) : Px :=
  let f (a b : Nat) : Nat := ((64 - w) * a + w * b + 32) / 64
  ⟨f p.y n.y, f p.cb n.cb, f p.cr n.cr⟩

/-- 2 to an integer power. -/
def pow2 (e : Int) : Rat := if 0 ≤ e then ((2 ^ e.toNat : Nat) : Rat) else 1 / ((2 ^ (-e).toNat : Nat) : Rat)

/-- The value of an IEEE 754 binary32 (R266). -/
def ofBinary32 (n : Nat) : Rat :=
  let e : Nat := n / 2 ^ 23 % 256
  let m : Nat := n % 2 ^ 23
  let v := if e = 0 then (m : Rat) * pow2 (-149) else ((2 ^ 23 + m : Nat) : Rat) * pow2 ((e : Int) - 150)
  if n.testBit 31 then -v else v

/-- The nearest integer to a fraction of naturals, ties to even. -/
def nearestEven (a d : Nat) : Nat :=
  let q := a / d
  let r := a % d
  if 2 * r < d ∨ (2 * r = d ∧ q % 2 = 0) then q else q + 1

/-- A value rounded to the 24-bit significand of binary32 (R266). -/
def round32 (x : Rat) : Rat :=
  let a := x.num.natAbs
  let d := x.den
  if a = 0 then 0
  else
    let e0 : Int := (Nat.log2 a : Int) - Nat.log2 d - 23
    let scaled (e : Int) : Nat × Nat := if 0 ≤ e then (a, d * 2 ^ e.toNat) else (a * 2 ^ (-e).toNat, d)
    let s0 := scaled e0
    let e := if s0.1 < 2 ^ 23 * s0.2 then e0 - 1 else e0
    let s := scaled e
    let v := (nearestEven s.1 s.2 : Rat) * pow2 e
    if x < 0 then -v else v

/-- An integer as a natural, both signs. -/
def zigzag (z : Int) : Nat := if 0 ≤ z then 2 * z.toNat else 2 * (-z).toNat + 1

/-- The numbers of a colour, as operands of an open function. -/
def Rgb.words (c : Rgb) : List Nat := [zigzag c.r.num, c.r.den, zigzag c.g.num, c.g.den, zigzag c.b.num, c.b.den]

/-- A transfer function that the spec names and does not repeat (R267): 0 BT.1886, 1 HLG EOTF, 2 PQ EOTF, 3 BT.709 OETF inverse, 4 HLG OETF
inverse; with its luminance parameter in cd/m². Its values are open, in binary32 (log entry 40). -/
def linearise (curve par : Nat) (c : Rgb) : Rgb :=
  let f (i : Nat) : Rat := ofBinary32 (Config.openResult 23 ([curve, par, i] ++ c.words) % 2 ^ 32)
  ⟨f 0, f 1, f 2⟩

/-- The inverse of a transfer function (R267). -/
def delinearise (curve par : Nat) (c : Rgb) : Rgb :=
  let f (i : Nat) : Rat := ofBinary32 (Config.openResult 24 ([curve, par, i] ++ c.words) % 2 ^ 32)
  ⟨f 0, f 1, f 2⟩

/-- Kr and Kb of a colour code (R266). -/
def lumaCoefs : Nat → Rat × Rat
  | 0 => (2126 / 10000, 722 / 10000)
  | 4 => (299 / 1000, 114 / 1000)
  | _ => (2627 / 10000, 593 / 10000)

/-- A colour code has BT.2020 primaries (R266). -/
def widePrimaries (code : Nat) : Bool := code == 1 || code == 2 || code == 3

/-- Y′C′BC′R in narrow range as R′G′B′ (R266, step 1). -/
def toRgb (code : Nat) (p : Px) : Rgb :=
  let k := lumaCoefs code
  let y : Rat := ((p.y : Rat) / 64 - 64) / 876
  let cb : Rat := ((p.cb : Rat) / 64 - 512) / 896
  let cr : Rat := ((p.cr : Rat) / 64 - 512) / 896
  let r := y + 2 * (1 - k.1) * cr
  let b := y + 2 * (1 - k.2) * cb
  ⟨r, (y - k.1 * r - k.2 * b) / (1 - k.1 - k.2), b⟩

/-- Luminance, or luma, of a colour in a code's coefficients. -/
def lumaOf (code : Nat) (c : Rgb) : Rat :=
  let k := lumaCoefs code
  k.1 * c.r + (1 - k.1 - k.2) * c.g + k.2 * c.b

/-- The nearest 16-bit code of a component, clamped (R252). -/
def toCode (x : Rat) : Nat := min 65535 ((x + 1 / 2).floor).toNat

/-- R′G′B′ as Y′C′BC′R in narrow range (R266, step 6). -/
def fromRgb (code : Nat) (c : Rgb) : Px :=
  let k := lumaCoefs code
  let y := lumaOf code c
  ⟨toCode ((y * 876 + 64) * 64), toCode (((c.b - y) / (2 * (1 - k.2)) * 896 + 512) * 64),
    toCode (((c.r - y) / (2 * (1 - k.1)) * 896 + 512) * 64)⟩

/-- A matrix of ten-thousandths on a colour, in binary32 (R266). -/
def matrix32 (m : List Int) (c : Rgb) : Rgb :=
  let row (i : Nat) : Rat :=
    round32 ((m.getD (3 * i) 0 : Rat) / 10000 * c.r + (m.getD (3 * i + 1) 0 : Rat) / 10000 * c.g + (m.getD (3 * i + 2) 0 : Rat) / 10000 * c.b)
  ⟨row 0, row 1, row 2⟩

/-- The primaries of a code from those of another, where they differ (R266, step 3). -/
def convertPrimaries (ci co : Nat) (c : Rgb) : Rgb :=
  match widePrimaries ci, widePrimaries co with
  | false, true => matrix32 [6274, 3293, 433, 691, 9195, 114, 164, 880, 8956] c
  | true, false => matrix32 [16605, -5876, -728, -1246, 11329, -83, -182, -1006, 11187] c
  | _, _ => c

/-- What a COLOUR function works by (R266 to R268). -/
structure ColourSet where
  ci : Nat
  co : Nat
  scene : Bool
  sdrWhite : Nat
  hdrPeak : Nat
  targetPeak : Nat
  hlgPeak : Nat
  tone : Nat
  knee : Nat
  gamut : Nat
  deriving DecidableEq, Repr

/-- Scene light: only between SDR and HLG (R267). -/
def ColourSet.sceneLight (k : ColourSet) : Bool := k.scene && ((k.ci == 2) != (k.co == 2)) && k.ci != 3 && k.co != 3

/-- The curve of a code and its parameter (R267). -/
def ColourSet.curve (k : ColourSet) (code : Nat) : Nat × Nat :=
  if k.sceneLight then (if code = 2 then (4, 0) else (3, 0))
  else match code with
    | 2 => (1, k.hlgPeak)
    | 3 => (2, 0)
    | _ => (0, k.sdrWhite)

/-- The peak of a code, as source or as target, in cd/m² (R267). -/
def ColourSet.peak (k : ColourSet) (code : Nat) (target : Bool) : Rat :=
  match code with
  | 2 => k.hlgPeak
  | 3 => if target then k.targetPeak else k.hdrPeak
  | _ => 12297 / 10000 * k.sdrWhite

/-- Linear light of a source signal; scene light in units of HLG's (R267). -/
def ColourSet.light (k : ColourSet) (c : Rgb) : Rgb :=
  let l := linearise (k.curve k.ci).1 (k.curve k.ci).2 c
  if k.sceneLight ∧ k.ci ≠ 2 then l.map fun x => round32 (x * (2650 / 10000)) else l

/-- The target's signal of linear light (R267). -/
def ColourSet.signal (k : ColourSet) (c : Rgb) : Rgb :=
  let l := if k.sceneLight ∧ k.co ≠ 2 then c.map fun x => round32 (x / (2650 / 10000)) else c
  delinearise (k.curve k.co).1 (k.curve k.co).2 l

/-- The smallest and the largest component. -/
def Rgb.least (c : Rgb) : Rat := min c.r (min c.g c.b)
def Rgb.most (c : Rgb) : Rat := max c.r (max c.g c.b)

/-- GAMUT_MAP, after a conversion of primaries (R268). Scene light has no peak (log entry 40). -/
def ColourSet.mapGamut (k : ColourSet) (c : Rgb) : Rgb :=
  if widePrimaries k.ci = widePrimaries k.co then c
  else if k.gamut = 0 then c.map fun x => max 0 (if k.sceneLight then x else min x (k.peak k.co true))
  else if c.least < 0 then
    let y := lumaOf k.co c
    let t := y / (y - c.least)
    c.map fun x => round32 (y + t * (x - y))
  else c

/-- TONE_MAP, where the source peak exceeds the target peak (R267). -/
def ColourSet.mapTone (k : ColourSet) (c : Rgb) : Rgb :=
  let src := k.peak k.ci false
  let dst := k.peak k.co true
  if k.sceneLight ∨ src ≤ dst then c
  else if k.tone = 0 then c.map fun x => min x dst
  else
    let knee := (k.knee : Rat) / 100 * dst
    let m := c.most
    if m ≤ knee then c
    else
      let x := (m - knee) / (src - knee)
      let s := (src - knee) / (dst - knee)
      let end_ := knee + (dst - knee) * s * x / (1 + (s - 1) * x)
      c.map fun v => round32 (v * (end_ / m))

/-- COLOUR of a pixel: the pixel, and whether GAMUT_MAP changed it (R266). -/
def ColourSet.pixel (k : ColourSet) (p : Px) : Px × Bool :=
  if k.ci = k.co then (p, false)
  else
    let wide := convertPrimaries k.ci k.co (k.light (toRgb k.ci p))
    let inside := k.mapGamut wide
    (fromRgb k.co (k.signal (k.mapTone inside)), inside != wide)

/-- An entry of a LUT at a grid point (R269). -/
def lutEntry (table : List Byte) (r g b : Nat) : Rgb :=
  let at_ := 6 * (r + 33 * g + 1089 * b)
  let u (i : Nat) : Rat := (natBE (slice table (at_ + 2 * i) 2) : Rat) / 65535
  ⟨u 0, u 1, u 2⟩

/-- A LUT at a colour, with tetrahedral interpolation on the grid of 33 points (R269). -/
def lutAt (table : List Byte) (c : Rgb) : Rgb :=
  let grid (x : Rat) : Nat × Rat :=
    let v := 32 * max 0 (min 1 x)
    let i := min 31 v.floor.toNat
    (i, v - i)
  let r := grid c.r
  let g := grid c.g
  let b := grid c.b
  let axes : List (Rat × Nat) := [(r.2, 0), (g.2, 1), (b.2, 2)]
  -- the axes in descending order of the fraction: the tetrahedron that holds the colour
  let order := axes.foldl (fun a e => (a.takeWhile fun q => decide (e.1 ≤ q.1)) ++ e :: a.dropWhile fun q => decide (e.1 ≤ q.1)) []
  let point (l : List Nat) : Rgb :=
    lutEntry table (r.1 + (l.contains 0).toNat) (g.1 + (l.contains 1).toNat) (b.1 + (l.contains 2).toNat)
  let f (i : Nat) : Rat := ((order[i]?).map (·.1)).getD 0
  let ax := order.map (·.2)
  let p0 := point []
  let p1 := point (ax.take 1)
  let p2 := point (ax.take 2)
  let p3 := point ax
  let mix (h : Rgb → Rat) : Rat := (1 - f 0) * h p0 + (f 0 - f 1) * h p1 + (f 1 - f 2) * h p2 + f 2 * h p3
  ⟨mix (·.r), mix (·.g), mix (·.b)⟩

/-- LUT of a pixel, in a colour's coefficients (R269). -/
def lutPixel (code : Nat) (table : List Byte) (p : Px) : Px := fromRgb code (lutAt table (toRgb code p))

/-- The number that a stream of the pool is known by: of path `d`, cells for the function at step `k`; 6 a copy for a further bushel of the
same function, 7 the cells for the destination; 8 the write of DEINT's ring and 9, 10 its reads; 11 the write of an FRC's ring and 12 to 14
its reads. The first read of a path is known by the destination itself. -/
def poolTag (d k : Nat) : Nat := 0x10000 + d * 16 + k

/-- The destination that a stream is part of. -/
def tagPath (tag : Nat) : Nat := if tag < 0x10000 then tag else (tag - 0x10000) / 16

/-- Bytes of the next cell of a stream that its lines fill (R143). -/
def Desc.cellBytes (d : Desc) : Nat :=
  min 128 (min 8 (d.lines - 8 * (d.curGroup % (max d.groups 1))) * d.lineBytes - 128 * d.moved)

/-- Whole cells that bytes fill from a stream's position: the cells, and the bytes left (R143). The first argument bounds their number. -/
def cutCells : Nat → Desc → List Byte → List (List Byte) × List Byte
  | 0, _, b => ([], b)
  | n + 1, d, b =>
    if d.cellBytes = 0 ∨ b.length < d.cellBytes then ([], b)
    else
      let r := cutCells n d.advance (b.drop d.cellBytes)
      (padTo 128 (b.take d.cellBytes) :: r.1, r.2)

/-- Whole lines of bytes: the lines, and the bytes left. The first argument bounds their number. -/
def cutLines (width : Nat) : Nat → List Byte → List (List Byte) × List Byte
  | 0, b => ([], b)
  | n + 1, b =>
    if width = 0 ∨ b.length < width then ([], b)
    else
      let r := cutLines width n (b.drop width)
      (b.take width :: r.1, r.2)

namespace State

/-- The functions of a path that work on pixels: step and code (R254). -/
def pathSteps (s : State) (d : Nat) : List (Nat × Nat) :=
  ((s.bs (O09.FUNCS_ACTIVE d)).map (·.toNat)).zipIdx.filterMap fun e => if e.1 = 6 then none else some (e.2, e.1)

/-- Where the pool keeps what it holds of a path: step 0 to 5, and 0 a step's input, 1 what it writes to its ring, 2 to 4 what it reads from it,
5 its product. -/
def poolKey (d step slot : Nat) : Nat := d * 64 + step * 8 + slot

/-- Where the cells of a stream of the pool go that reach a bushel. -/
def poolIn (s : State) (tag : Nat) : Option Nat :=
  let d := tagPath tag
  let steps := s.pathSteps d
  let stepOf (p : Nat → Bool) : Option Nat := (steps.find? fun e => p e.2).map (·.1)
  if tag < 0x900 then steps.head?.map fun e => poolKey d e.1 0
  else if tag < 0x10000 then none
  else match (tag - 0x10000) % 16 with
    | 9 => (stepOf (· == 1)).map fun i => poolKey d i 2
    | 10 => (stepOf (· == 1)).map fun i => poolKey d i 3
    | 12 => (stepOf fun c => 2 ≤ c && c ≤ 4).map fun i => poolKey d i 2
    | 13 => (stepOf fun c => 2 ≤ c && c ≤ 4).map fun i => poolKey d i 3
    | 14 => (stepOf fun c => 2 ≤ c && c ≤ 4).map fun i => poolKey d i 4
    | k => if k < 6 then some (poolKey d k 0) else none

/-- Bytes that the pool holds under a key. -/
def pooled (s : State) (key : Nat) : List Byte := s.conv.store.getD key []

/-- Change what the pool holds under a key. -/
def setPooled (s : State) (key : Nat) (b : List Byte) : State :=
  { s with conv := { s.conv with store := SMap.setD s.conv.store key [] b } }

/-- The queue of the function that writes a stream to its ring; none for another stream. -/
def ringQueue (s : State) (d : Desc) : Option Nat :=
  let stepOf (p : Nat → Bool) : Option Nat := ((s.pathSteps (tagPath d.dest)).find? fun e => p e.2).map (·.1)
  if d.dest < 0x10000 then none
  else match (d.dest - 0x10000) % 16 with
    | 8 => (stepOf (· == 1)).map fun i => poolKey (tagPath d.dest) i 1
    | 11 => (stepOf fun c => 2 ≤ c && c ≤ 4).map fun i => poolKey (tagPath d.dest) i 1
    | _ => none

/-- A read of the pool's begins the picture at a place of its buffer. -/
def beginRead (s : State) (tag place : Nat) : State :=
  s.forEach (s.fabric.desc.filter fun (e : Nat × Desc) => e.2.dest == tag) fun t e => t.setDesc e.1 (e.2.beginFrame (some place) true)

/-- The first cell of a picture goes to its ring: for an FRC its ring time is now (R261); for DEINT the field before it is processed, with the
field before that (R260). -/
def ringBegin (s : State) (d : Desc) : State :=
  let p := tagPath d.dest
  if ¬ (d.curGroup = 0 ∧ d.moved = 0) then s
  else if (d.dest - 0x10000) % 16 = 8 then (s.beginRead (poolTag p 9) (d.frameIndex + 3)).beginRead (poolTag p 10) (d.frameIndex + 2)
  else
    let r := (SMap.find? s.conv.rings p).getD ⟨[], 0⟩
    let older : List (Nat × Nat) := r.frames.filter fun (e : Nat × Nat) => e.2 != d.frameIndex
    let l : List (Nat × Nat) := ((s.now, d.frameIndex) :: older).take d.frames
    let c := s.conv
    { s with conv := { c with rings := c.rings.put p { r with frames := l } } }

/-- A cell reaches a bushel: its lines' bytes. The first cell of a frame begins the step's picture anew. -/
def feed (s : State) (d : Desc) (cell : List Byte) : State :=
  match s.poolIn d.dest with
  | none => s
  | some key =>
    let first := d.curGroup == 0 && d.moved == 0
    let t := s.setPooled key ((if first then [] else s.pooled key) ++ cell.take d.cellBytes)
    if first ∧ key % 8 = 0 then { t with conv := { t.conv with lines := (t.conv.lines.put (key / 8) 0).put (key / 8 + 0x100000) 0 } } else t

end State
end Sys2Proof.Machine
end

