-- ==== Sys2Proof/Machine/Trunk.lean ====
section
/-! DEFINITION. The cells of Ezavo lanes: headers, seal groups, and what a trunk port sends and receives (R439 to R443, R447, R453). -/

namespace Sys2Proof.Machine

/-- A furlong's own state where nothing has happened yet (log entry 9). -/
def FurlongSt.fresh : FurlongSt :=
  ⟨0, 0, 0, 0xFFFF, 0xFF, false, false, 0, 0, 0, 0, false, 0, 0, 0xFFFF, 0, false, [], 0, [], [], [], [], [], [], [], 0⟩

/-- A cell header: TYPE, the fields VALID to SEQ, PCRC of the payload as it is sent, and HEC (R439, R441). -/
def ezavoHeader (ty fields : Nat) (payload : List Byte) : Nat :=
  let h := ty * 2 ^ 60 + fields % 2 ^ 40 * 2 ^ 20 + pcrc payload * 2 ^ 8
  h + hec h

/-- The additional authenticated data of a header: PCRC and HEC taken as 0 (R447). -/
def sealAad (header : Nat) : List Byte := d64 (header / 2 ^ 20 * 2 ^ 20)

/-- The IV of a seal group (R447). -/
def sealIv (group : Nat) : List Byte := zeros 4 ++ d64 group

/-- The fields of cell `k` of `n` of a packet to a device (R439). -/
def relayFields (dest k n : Nat) : Nat :=
  (decide (k = 0)).toNat * 2 ^ 38 + (decide (k + 1 = n)).toNat * 2 ^ 37 + dest % 1024 * 2 ^ 18 + k % 2 ^ 18

/-- Bytes cut into the payloads of cells. The first argument bounds their number. -/
def cutPayloads : Nat → List Byte → List (List Byte)
  | 0, _ => []
  | f + 1, b => if b = [] then [] else padTo 128 (b.take 128) :: cutPayloads f (b.drop 128)

namespace State

/-- A furlong's own state. -/
def furlong (s : State) (l : Nat) : FurlongSt := s.furlongs.getD l FurlongSt.fresh

/-- Change a furlong's own state. -/
def setFurlong (s : State) (l : Nat) (x : FurlongSt) : State := { s with furlongs := s.furlongs.put l x }

/-- Two counts of a BLOB(16) object, one raised. -/
def bumpPair (s : State) (k : Key) (second : Bool) (d : Nat) : State :=
  let b := padTo 16 (s.bs k)
  let x := natBE (b.take 8) + (if second then 0 else d)
  let y := natBE (b.drop 8) + (if second then d else 0)
  s.setBytes k (d64 (x % 2 ^ 64) ++ d64 (y % 2 ^ 64))

/-- A cell leaves on an Ezavo lane: its header and its payload. -/
def emitCell (s : State) (l header : Nat) (payload : List Byte) : State :=
  s.emit (.media 0x34 l ((d64 header ++ payload).map (·.toNat)))

/-- The open seal group of a lane closes: its SEAL follows (R447). -/
def sealGroup (s : State) (l : Nat) : State :=
  let x := s.furlong l
  if x.txOpen = [] then s
  else match SMap.find? x.keys x.txKey with
    | none => s.setFurlong l { x with txOpen := [] }
    | some k =>
      let group := x.txGroups.getD x.txKey 0
      let aad := x.txOpen.flatMap fun c => sealAad c.1
      let tag := bytesBE 16 (Config.gcmTag k.1 (sealIv group) aad (x.txOpen.flatMap (·.2.2)))
      let p := padTo 128 (d64 group ++ d8 x.txOpen.length ++ d8 x.txKey ++ zeros 6 ++ tag)
      (s.setFurlong l { x with txOpen := [], txGroups := x.txGroups.put x.txKey ((group + 1) % 2 ^ 64) }).emitCell l (ezavoHeader 5 0 p) p

/-- A cell other than a filler or a seal leaves on a furlong: as it is, or encrypted within its seal group, which closes after 63 (R447). The
ciphertext of a group does not depend on its additional data, so that a cell can leave before the group is whole. Without a key nothing leaves
(R449). -/
def sendCell (s : State) (l ty fields : Nat) (payload : List Byte) (close : Bool) : State :=
  let p := padTo 128 payload
  if ¬ s.b (O12.TRUNK_SECURE l) then (s.bumpPair (O12.CELLS_IO l) false 1).emitCell l (ezavoHeader ty fields p) p
  else
    let x := s.furlong l
    match SMap.find? x.keys x.txKey with
    | none => s
    | some k =>
      let pts := (x.txOpen.flatMap (·.2.1)) ++ p
      let ct := (bytesBE pts.length (Config.gcmSeal k.1 (sealIv (x.txGroups.getD x.txKey 0)) [] pts)).drop (pts.length - 128)
      let h := ezavoHeader ty fields ct
      let t := ((s.setFurlong l { x with txOpen := x.txOpen ++ [(h, p, ct)] }).bumpPair (O12.CELLS_IO l) false 1).emitCell l h ct
      if close ∨ 63 ≤ x.txOpen.length + 1 then t.sealGroup l else t

/-- A packet to a device leaves in RELAY cells (R454). -/
def sendPacketCells (s : State) (l dest : Nat) (b : List Byte) : State :=
  let cells := cutPayloads (b.length + 1) b
  s.forEach cells.zipIdx fun t e => t.sendCell l 4 (relayFields dest e.2 cells.length) e.1 false

/-- The cells that the trunk port holds of a stream, oldest first (R453). -/
def trunkHeld (s : State) (id : Nat) : List (List Byte) := s.fabric.trunk.getD id []

/-- A MEDIA cell reaches the receive buffer of its trunk port: 2,048 cells for each lane (R453). -/
def trunkIn (s : State) (l id : Nat) (payload : List Byte) : State :=
  let used := ((s.furlong l).labels.map fun (e : Nat × Nat) => (s.trunkHeld e.2).length).foldl (· + ·) 0
  if 2048 ≤ used then s
  else { s with fabric := { s.fabric with trunk := s.fabric.trunk.put id (s.trunkHeld id ++ [payload]) } }

/-- Cells of a stream leave the receive buffer. -/
def trunkTake (s : State) (id k : Nat) : State :=
  let l := (s.trunkHeld id).drop k
  { s with fabric := { s.fabric with trunk := if l = [] then s.fabric.trunk.del id else s.fabric.trunk.put id l } }

end State
end Sys2Proof.Machine
end

