-- ==== Sys2Proof/Machine/Fabric.lean ====
section
/-! DEFINITION. The media fabric: how entries move cells, stalls and catch-up, counters and inspection (R139 to R164). -/

namespace Sys2Proof.Machine
/-- The sideband of the next cell of a stream, VALID 1 (R141): PAR of its payload, SOG and EOG of its line group, KIND, STREAM and SEQ. A
cell of a stream without line groups is a unit of work of its own. -/
def Desc.sideband (d : Desc) (id : Nat) (payload : List Byte) : Nat :=
  let n := if d.frameGroups = 0 then 1 else d.groupCells d.curGroup
  let k := if d.frameGroups = 0 then 0 else d.moved
  cellPar payload * 2 ^ 40 + 2 ^ 39 + (decide (k = 0)).toNat * 2 ^ 38 + (decide (k + 1 = n)).toNat * 2 ^ 37 + d.kind % 8 * 2 ^ 34 +
    id % 65536 * 2 ^ 18 + k % 2 ^ 18

namespace State

/-- The slot record of a memory entry (R177). -/
def slotOf (s : State) (w : Nat) : Nat := SMap.getD s.fabric.slots ((if entOp w = 2 then entDst w else entSrc w) * 131072 + entArg w) 0

/-- The SDI input whose synchroniser buffer holds an address (R167). -/
def syncInput (s : State) (a : Nat) : Nat := a / stackBytes * 48 + (a % stackBytes - systemShare s.member) / 223948800

/-- Bytes from one frame of a buffer to the next: the slots of a synchroniser, or of the synchronisers of a group's lanes together, or the
frame's cells rounded up to 4,096 bytes (R174, R183, R207). -/
def frameStride (s : State) (d : Desc) : Nat :=
  if d.base * 4096 % stackBytes < generalOfs s.member then
    74649600 * (match s.n (O06.IN_LINK_MODE (s.syncInput (d.base * 4096))) with
      | 1 => 4
      | 2 => 2
      | _ => 1)
  else pageUp (d.frameCells * 128)

/-- An ANC stream takes the next `k` cells that its SDI port has ready (R145, R236). -/
def ancTake (s : State) (dest k : Nat) : List (List Byte) × State :=
  let q := s.fabric.anc.getD dest []
  (q.take k, { s with fabric := { s.fabric with anc := s.fabric.anc.put dest (q.drop k) } })

/-- Where the next cell of a stream lies in frame memory, by the MODE of its slot record (R149, R174, R177). -/
def cellAddr (s : State) (d : Desc) (record : Nat) : Nat :=
  let base := d.base * 4096
  match field record 62 60 with
  | 0 =>
    base + d.readFrame * s.frameStride d +
      (((List.range d.curGroup).map d.groupCells).foldl (· + ·) 0 + d.moved) * 128
  | 1 => base + d.cells % (max 1 (field record 47 26 * 32)) * 128
  | 3 => base + d.cells % (max 1 (field record 47 26 * 32)) * 128
  | _ => base + d.cells * 128

/-- The clip that a stream of FP63 writes (R186): CLIP_LOADED counts the whole units written. -/
def clipWritten (s : State) (d : Desc) : State :=
  match (List.range 256).find? fun i => s.n (O05.CLIP_STATE (0x100 + i)) == 2 && s.n (O05.CLIP_BASE (0x100 + i)) == d.base * 4096 with
  | none => s
  | some i =>
    let u := clipUnitBytes (s.n (O05.CLIP_KIND (0x100 + i))) (s.n (O05.CLIP_FORMAT (0x100 + i)))
    if u = 0 then s else s.setN (O05.CLIP_LOADED (0x100 + i)) (min (s.n (O05.CLIP_UNITS (0x100 + i))) (d.cells * 128 / u))

/-- Cells of a stream that are pending (R154). -/
def pendingCells (s : State) (id : Nat) : Nat :=
  ((s.chain.owing.filter fun o => entStream o.word == id).map (·.cells)).foldl (· + ·) 0

/-- A cell reaches an IP port for a sender: of a picture at its place, where what was not read before it is that of the picture before (R72, R365);
of an ANC unit after the cells before it (R367). -/
def ipFeed (s : State) (d : Desc) (cell : List Byte) : State :=
  let i := tagPath d.dest - 0x100
  let put (l : List (List Byte)) : State := { s with net := { s.net with stage := s.net.stage.put i l } }
  let l := s.net.stage.getD i []
  if tagPath d.dest < 0x100 ∨ 0x900 ≤ tagPath d.dest then s
  else if d.kind = 2 then put (l ++ [cell])
  else if d.kind = 0 ∧ d.frameGroups ≠ 0 then
    let l := if l = [] ∨ (d.curGroup = 0 ∧ d.moved = 0) then (l ++ [[]]).drop (l.length - 2) else l
    let now := (l.getLast?).getD []
    let was := (l.dropLast.getLast?).getD []
    let at_ := (d.curGroup / d.groups * d.lines + 8 * (d.curGroup % d.groups)) * d.lineBytes + 128 * d.moved
    put (l.dropLast ++ [padTo at_ (now ++ was.drop now.length) ++ cell.take d.cellBytes])
  else s

/-- The receiver whose ring a stream writes (R371). -/
def ringOf (d : Desc) : Option Nat := if 0x4000 ≤ d.dest ∧ d.dest < 0x4800 then some (d.dest - 0x4000) else none

/-- Up to some cells of the line groups that a receiver has closed, each group from the start of a cell, and the line groups that are left (R371). The
first argument is the number of cells. -/
def rxCut : Nat → List (Nat × Nat × List Byte) → List (List Byte) × List (Nat × Nat × List Byte)
  | 0, q => ([], q)
  | _ + 1, [] => ([], [])
  | n + 1, e :: q =>
    let r := rxCut n (if e.2.2.length ≤ 128 then q else (e.1, e.2.1, e.2.2.drop 128) :: q)
    (padTo 128 (e.2.2.take 128) :: r.1, r.2)

/-- A receiver's write takes its cells from the line groups that have closed; its stream stands where the first of them belongs. -/
def rxReady (s : State) (id i cells : Nat) (d : Desc) : List (List Byte) × State :=
  match SMap.find? s.net.rx i with
  | none => ([], s)
  | some x =>
    let r := rxCut cells x.queue
    let t : State := { s with net := { s.net with rx := s.net.rx.put i { x with queue := r.2 } } }
    match x.queue with
    | [] => ([], s)
    | e :: _ => (r.1, if s.pendingCells id ≠ 0 then t else t.setDesc id { d with
        curGroup := e.2.1, frameIndex := if d.frames = 0 then 0 else e.1 % d.frames
        moved := d.groupCells e.2.1 - ceilDiv e.2.2.length 128 })

/-- A cell reaches a client that holds what it carries: a bushel or a sender; a trunk port sends it on as a MEDIA cell (R139, R439, R453). -/
def deliverCell (s : State) (port id : Nat) (d : Desc) (cell : List Byte) : State :=
  match portClient s.member port with
  | 3 => s.feed d cell
  | 4 => s.ipFeed d cell
  | 5 => if d.trunkOut < 32 then s.sendCell d.trunkOut 1 (d.sideband id cell) cell false else s
  | _ => s

/-- One cell of an entry is issued: its memory access, its stream's position, and the cell with its sideband (R141, R152, R154). In HBM
bypass, and where a word of it has a UE, a read issues it invalid; in bypass a write discards it (R127, R170). -/
def issueCell (s : State) (w : Nat) (data : List Byte) : State :=
  match s.desc? (entStream w) with
  | none => s
  | some d =>
    let a := s.cellAddr d (s.slotOf w)
    let t := s.setDesc (entStream w) d.advance
    if entOp w = 2 then
      let t := t.validCells (entDst w)
      if s.clocks.hbmBypass then t
      else
        let t := t.fmWrite a (padTo 128 data)
        if entSrc w = 63 then t.clipWritten d.advance else t
    else if entOp w = 3 then
      if s.clocks.hbmBypass then t.invalidCells (entDst w) 1
      else
        let words := (List.range 8).filter fun j => s.fmem.bad.contains (a + 16 * j)
        let cell := if words ≠ [] then t.damagedCell a words else if data = [] then t.fmRead a 128 else data
        -- a save carries damaged units as they read (R187)
        let t := if entDst w = 63 ∧ d.dest ≠ 0xFFFF then t.relayIn (d.dest - 0x2000) cell else t
        if words ≠ [] then (t.invalidCells (entDst w) 1).substitute (entStream w)
        else ((t.deliverCell (entDst w) (entStream w) d cell).emit (.media 4 (entDst w) (d.sideband (entStream w) cell :: cell.map (·.toNat)))).validCells (entDst w)
    else
      ((if entOp w = 4 ∨ 4 ≤ portClient t.member (entDst w) then t.deliverCell (entDst w) (entStream w) d (padTo 128 data) else t).emit
        (.media 4 (entDst w) (d.sideband (entStream w) (padTo 128 data) :: (padTo 128 data).map (·.toNat)))).validCells (entDst w)

/-- `k` cells of an entry are issued. -/
def issueCells (s : State) (w k : Nat) (data : List (List Byte)) : State :=
  let t := (s.bump (O04.CELLS_OUT (entSrc w)) k).bump (O04.CELLS_IN (entDst w)) k
  t.forEach (List.range k) fun t j => t.issueCell w (data.getD j [])

/-- Issue up to `m` cells of the pending entries that `p` takes, in the order in which they fell due (R154). -/
def issueFrom (p : Owing → Bool) (s : State) : List Owing → Nat → State × List Owing
  | [], _ => (s, [])
  | o :: l, m =>
    if p o && decide (0 < m) then
      let k := min m o.cells
      let r := issueFrom p (s.issueCells o.word k (o.data.take k)) l (m - k)
      (r.1, if o.cells ≤ k then r.2 else { o with cells := o.cells - k, data := o.data.drop k } :: r.2)
    else
      let r := issueFrom p s l m
      (r.1, o :: r.2)

/-- The pending cells that `p` takes issue, `m` of them. -/
def settle (s : State) (p : Owing → Bool) (m : Nat) : State :=
  let r := issueFrom p s s.chain.owing m
  { r.1 with chain := { r.1.chain with owing := r.2 } }

/-- An entry is in the active bank of a chain that runs, in a tick whose seam has not begun (R55, R59). -/
def inChain (s : State) (link w : Nat) : Bool := s.running && s.tick.inTick && s.chain.active.contains (link, w)

/-- The slots that a memory entry leaves idle serve the control bus in this tick (R54, R175). -/
def slotsIdle (s : State) (w due : Nat) : State :=
  if ¬ entMem w then s
  else { s with bus := { s.bus with
    idle := s.bus.idle.put (entStack w) (s.bus.idle.getD (entStack w) 0 + (charge (entCells w) - charge due)) } }

/-- An entry's granted cycles: `due` cells fall due, and all but those that its stalls hold back issue; the stalls of an entry add, and so do
their causes (R152 to R154, R188). -/
def runEntry (s : State) (link w due : Nat) (data : List (List Byte)) : State :=
  let idle := entCells w - due
  let held := s.chain.stalls.filter fun o => o.link == link && o.word == w
  let back := min ((held.map (·.cells)).foldl (· + ·) 0) due
  let same := s.chain.owing.filter fun o => entStream o.word == entStream w
  let cause := ((held ++ same).map (·.cause)).foldl (· ||| ·) 0
  let own : Owing := ⟨w, link, due, cause, data⟩
  let c := s.chain
  let t := { s with chain := { c with
    owing := if due = 0 then c.owing else c.owing ++ [own]
    stalls := c.stalls.filter fun o => !(o.link == link && o.word == w) } }
  let t := if idle = 0 then t else (t.bump (O04.IDLE_OUT (entSrc w)) idle).slotsIdle w due
  t.settle (fun o => entStream o.word == entStream w) (due - back)

/-- Cells move in catch-up on a port (R154, R162, R164). The count in the record is a U64, as the counters of the class are: the spec does not
state its type (log entry 28). -/
def caughtUp (s : State) (port k : Nat) : State :=
  if k = 0 then s else
  let n := s.fabric.caught.getD port 0 + k
  let t := { s with fabric := { s.fabric with caught := s.fabric.caught.put port n } }
  let t := (t.bump (O04.CATCHUP_CELLS port) k).flag (O04.PORT_FLAGS port) 1
  let u := t.raiseLim 0x040 port (d64 n) 192
  if u.n (O1A.EV_COUNT 0x040) = t.n (O1A.EV_COUNT 0x040) then u
  else { u with fabric := { u.fabric with caught := u.fabric.caught.put port 0 } }

/-- Cells that each port has pending of the streams of a source port. -/
def pendingOf (s : State) (port dst : Nat) : Nat :=
  ((s.chain.owing.filter fun o => entSrc o.word == port && entDst o.word == dst).map (·.cells)).foldl (· + ·) 0

/-- The cycles of a link in which no entry is placed on a source port in the send direction, nor on a destination port in the receive
direction (R154). -/
def freeCycles (bank : List (Nat × Nat)) (link src dst : Nat) : Nat :=
  let l := bank.filter fun e => e.1 == link && entOp e.2 != 0 && entOp e.2 != 6 && (entSrc e.2 == src || entDst e.2 == dst)
  ((List.range 78).filter fun c => l.all fun e => decide (c < entOfs e.2 ∨ entOfs e.2 + entCells e.2 ≤ c)).length

/-- The most cells that catch-up can carry from a port to another: the cycles free on both from the link of the oldest pending entry
(R154). -/
def catchUpRoom (s : State) (src dst : Nat) : Nat :=
  match s.chain.owing.find? fun o => entSrc o.word == src && entDst o.word == dst with
  | none => 0
  | some o => ((List.range 100).map fun l => if o.link ≤ l then freeCycles s.chain.active l src dst else 0).foldl (· + ·) 0

/-- The slots that the entries of a bank place on a port in a direction, by link (R157): a NOP and a RELEASE take none. -/
def slotsIn (bank : List (Nat × Nat)) (port : Nat) (out : Bool) (link : Option Nat) : Nat :=
  (bank.map fun e =>
    if entOp e.2 ≠ 0 ∧ entOp e.2 ≠ 6 ∧ (if out then entSrc e.2 else entDst e.2) = port ∧ (link = none ∨ link = some e.1)
    then entCells e.2 else 0).foldl (· + ·) 0

/-- The largest of a figure over the 100 links. -/
def linkPeak (f : Nat → Nat) : Nat := ((List.range 100).map f).foldl max 0

/-- CHARGE of a stack in a link of a bank, or in all of them. -/
def chargeIn (bank : List (Nat × Nat)) (h : Nat) (link : Option Nat) : Nat :=
  (bank.map fun e => if entMem e.2 ∧ entStack e.2 = h ∧ (link = none ∨ link = some e.1) then charge (entCells e.2) else 0).foldl (· + ·) 0

/-- What classes 01, 04 and 05 report of the active bank, after a swap (R77, R157, R160, R190). -/
def recount (s : State) : State :=
  let a := s.chain.active
  let t := s.forEach (List.range 64) fun t p =>
    (((t.setN (O04.RESERVED_OUT p) (slotsIn a p true none)).setN (O04.RESERVED_IN p) (slotsIn a p false none)).setN
      (O04.LINK_PEAK_OUT p) (linkPeak fun l => slotsIn a p true (some l))).setN
      (O04.LINK_PEAK_IN p) (linkPeak fun l => slotsIn a p false (some l))
  let t := t.setN O04.PORTS_IN_USE ((List.range 64).filter fun p =>
    decide (0 < slotsIn a p true none + slotsIn a p false none)).length
  let t := t.setN O04.SLOTS_PLACED (((List.range 64).map fun p => slotsIn a p true none).foldl (· + ·) 0)
  let t := t.setN O04.STREAMS_ACTIVE t.fabric.desc.length
  -- the label tables change over with the chain (R453)
  let t : State := { t with furlongs := t.furlongs.map fun (e : Nat × FurlongSt) => (e.1, { e.2 with
    labels := (t.fabric.desc.filter fun (x : Nat × Desc) => x.2.trunkIn == e.1).foldl
      (fun (m : SMap Nat) (x : Nat × Desc) => SMap.put m x.2.label x.1) [] }) }
  let t := (t.setN O01.ENTRIES_USED a.length).setN O01.LINK_ENTRIES_MAX (linkPeak fun l => (a.filter (·.1 == l)).length)
  t.forEach (List.range (stackCount s.member)) fun t h =>
    (t.setN (O05.CHARGE_TICK h) (chargeIn a h none)).setN (O05.CHARGE_PEAK h) (linkPeak fun l => chargeIn a h (some l))

/-- Streams whose descriptor was damaged: words 0 and 1 are rewritten, and the stream restarts at its next frame (R151). -/
def repairDescs (s : State) : State :=
  let t := s.forEach s.fabric.repair fun t id => t.onDesc id Desc.restarted
  let video := s.fabric.repair.filter fun id => (s.desc? id).any (·.kind == 0)
  { t with fabric := { t.fabric with repair := [], restart := t.fabric.restart ++ video.filter fun id => !(t.fabric.restart.contains id) } }

/-- The descriptors as the inspection objects return them (R163). -/
def sampleDescs (s : State) : State := { s with fabric := { s.fabric with sampled := s.fabric.desc } }

/-- INSPECT_WINDOW (R163). -/
def inspectWindow (s : State) (link first : Nat) : List Byte :=
  let l := (s.chain.active.filter (·.1 == link)).map (·.2)
  let w := (l.drop first).take 64
  d32 (s.n O01.APPLY_COUNT) ++ d8 (s.n O01.ACTIVE_BANK) ++ d8 link ++ d16 l.length ++ d16 first ++ d16 w.length ++ zeros 4 ++ w.flatMap d64

/-- STREAM_DESC; none for an identifier that is not assigned (R163). -/
def streamDesc (s : State) (id : Nat) : Option (List Byte) :=
  (SMap.find? s.fabric.sampled id).map fun d => d32 (s.n O01.APPLY_COUNT) ++ d16 id ++ zeros 2 ++ (d.words id).flatMap d64

end State

/-- A NOP holds a place in its link's list (R52). -/
def execNop (_link _word : Nat) (s : State) : Host.Outcome State Fault Refusal := live s id

/-- A port-to-port transfer (R52, R54, R152 to R154): `held` cells stand ready at the source; a trunk port holds what it has received (R453). -/
def execMove (link word held : Nat) (cells : List (List Byte)) (s : State) : Host.Outcome State Fault Refusal :=
  live s fun s =>
    if s.inChain link word ∧ entOp word = 1 then
      let trunk := portClient s.member (entSrc word) == 5
      let held := if trunk then (s.trunkHeld (entStream word)).length - s.pendingCells (entStream word) else held
      let asked := match s.desc? (entStream word) with
        | some d => if d.frameGroups = 0 then held else min held (d.wanted - s.pendingCells (entStream word))
        | none => 0
      let due := if entDem word then min (entCells word) asked else entCells word
      -- what an SDI port sends of an ANC stream are the units that it holds; a cell without one is an empty unit (R145)
      match s.desc? (entStream word) with
      | some d =>
        if d.kind = 2 ∧ portClient s.member (entSrc word) = 2 then
          let r := s.ancTake d.dest due
          r.2.runEntry link word due r.1
        else if trunk then (s.trunkTake (entStream word) due).runEntry link word due ((s.trunkHeld (entStream word)).take due)
        else s.runEntry link word due cells
      | none => s.runEntry link word due cells
    else s

/-- A transfer into frame memory (R52, R153, R177). -/
def execMemwr (link word : Nat) (cells : List (List Byte)) (s : State) : Host.Outcome State Fault Refusal :=
  live s fun s =>
    if s.inChain link word ∧ entOp word = 2 then
      match s.desc? (entStream word) with
      | none => s
      | some d =>
        let due (l : List (List Byte)) : Nat := if entDem word then min (entCells word) l.length else entCells word
        match (if d.kind = 0 then State.ringOf d else none) with
        | some i =>
          let r := s.rxReady (entStream word) i (entCells word) d
          r.2.runEntry link word (due r.1) (r.1.take (due r.1))
        | none =>
          if portClient s.member (entSrc word) = 5 then
            let ready := (s.trunkHeld (entStream word)).take (entCells word)
            (s.trunkTake (entStream word) (due ready)).runEntry link word (due ready) (ready.take (due ready))
          else if entSrc word = 63 then
            -- FP63 sends what it has received for the clip (R186)
            let i := d.dest - 0x2000
            let ready := s.fabric.relay.getD i []
            (s.relayOut i (due ready)).runEntry link word (due ready) (ready.take (due ready))
          else match s.ringQueue d with
          | some key =>
            -- a bushel sends what its function has written for the ring (R273)
            let cut := cutCells (entCells word) (Desc.advanceN (s.pendingCells (entStream word)) d) (s.pooled key)
            ((if due cut.1 = 0 then s else s.ringBegin d).setPooled key cut.2).runEntry link word (due cut.1) (cut.1.take (due cut.1))
          | none =>
            -- an SDI input that does not write holds nothing ready (R201, R207)
            let idle := portClient s.member (entSrc word) == 2 && !((SMap.find? s.inputs (d.dest - 0x1000)).any (·.writing))
            let ready := if idle then [] else cells
            s.runEntry link word (due ready) (ready.take (due ready))
    else s

/-- A transfer out of frame memory: the cells of requested line groups (R52, R153, R169). -/
def execMemrd (link word : Nat) (ecc : List (Nat × Nat × Nat)) (s : State) : Host.Outcome State Fault Refusal :=
  live s fun s =>
    if s.inChain link word ∧ entOp word = 3 then
      match s.desc? (entStream word) with
      | none => s
      | some d =>
        let pend := s.pendingCells (entStream word)
        let asked := (if entDst word = 63 then s.clipReady (d.dest - 0x2000) else d.wanted) - pend
        let due := if entDem word then min (entCells word) asked else entCells word
        let addr (j : Nat) : Nat := s.cellAddr (Desc.advanceN (pend + j) d) (s.slotOf word)
        let syms (j : Nat) : List (Nat × Nat) := (ecc.filter (·.1 == j)).map (·.2)
        let hurt := (List.range due).any fun j => aliased (addr j) (syms j) != []
        let cell (j : Nat) : List Byte := if aliased (addr j) (syms j) = [] then [] else s.damagedCell (addr j) (aliased (addr j) (syms j))
        (s.runEntry link word due (if hurt then (List.range due).map cell else [])).countCells
          ((ecc.filter fun e => decide (e.1 < due)).map fun e => (addr e.1, e.2))
    else s

/-- A source port is held for an entry of the present tick (R154, R164, R170, R178). -/
def execSourceStall (link word cells cycles cause : Nat) (s : State) : Host.Outcome State Fault Refusal :=
  live s fun s =>
    if s.inChain link word then
      let t := { s with chain := { s.chain with stalls := s.chain.stalls ++ [⟨word, link, cells, if cause = 0 then 1 else 2, []⟩] } }
      if 78 < cycles then t.raise 0x044 (entSrc word) [] else t
    else s

/-- Cycles in which no entry is placed on a source port, nor on a destination port, carry pending cells from the one to the other (R154). -/
def execCatchUp (port dst cells : Nat) (s : State) : Host.Outcome State Fault Refusal :=
  live s fun s =>
    if s.running ∧ s.tick.inTick then
      let t := s.settle (fun o => entSrc o.word == port && entDst o.word == dst && entOp o.word != 6) (min cells (s.catchUpRoom port dst))
      let moved := s.pendingOf port dst - t.pendingOf port dst
      (t.caughtUp port moved).caughtUp dst moved
    else s

end Sys2Proof.Machine
end

