-- ==== Sys2Proof/Machine/Sdi.lean ====
section
/-! DEFINITION. SDI inputs, frame synchronisers and outputs (R194 to R224). -/

namespace Sys2Proof.Machine

/-- An input's own state where nothing has happened yet (log entry 9). -/
def InSt.fresh : InSt := ⟨0, none, [], 0, 1, false, false, [], false, 0, false, 3, [], 0, [], 0⟩

/-- A destination's own state where nothing has happened yet (log entry 9). -/
def DestSt.fresh : DestSt := ⟨none, none, false, 0, false, 0, 0, 0xF000, 0xF000, false, false, 0, false, 0, false, false, 0, false, true, false, false, 0⟩

/-- SYNC_LEAD of a raster (R209). -/
def syncLead : Nat → Nat
  | 1 => 48 | 2 => 48 | 3 => 56 | 4 => 72 | 5 => 112 | 6 => 192 | _ => 0

/-- Luma samples in a line of a raster at a frame rate code: the totals of the SMPTE raster standards (PRESUMED, log entry 18). -/
def lineSamples (raster rate : Nat) : Nat :=
  let hd := if rate = 1 ∨ rate = 2 then 2750 else if rate = 3 ∨ rate = 6 ∨ rate = 9 then 2640 else 2200
  match raster with
  | 1 => 858
  | 2 => 864
  | 3 => match rate with
    | 1 => 4125 | 2 => 4125 | 3 => 3960 | 4 => 3300 | 5 => 3300 | 6 => 1980 | _ => 1650
  | 4 => hd
  | 5 => 2 * hd
  | 6 => 4 * hd
  | _ => 0

/-- The switching line of a raster (R231). -/
def switchingLine (raster : Nat) : Nat :=
  match raster with
  | 1 => 10 | 2 => 6 | _ => 7

/-- Bytes of an ANC packet in its unit of work: the prefix and its words (R145). -/
def ancBytes (line hofs flags : Nat) (words : List Nat) : List Byte :=
  let n := words.length
  let bits := words.foldl (fun a w => a * 1024 + w % 1024) 0
  let size := ceilDiv (10 * n) 32 * 4
  d16 line ++ d16 hofs ++ d8 flags ++ zeros 1 ++ d16 n ++ bytesBE size (bits * 2 ^ (8 * size - 10 * n))

/-- The place of an ANC packet in its unit (R145): its line, then its position; the horizontal space of a line comes before its active part, and
a packet without a position comes last. -/
def ancPlace (line hofs flags : Nat) : Nat := line * 0x20000 + (if bit flags 6 then 0 else 0x10000) + hofs

/-- A packet takes its place, after those that have the same. -/
def ancInsert : List (Nat × List Byte) → Nat × List Byte → List (Nat × List Byte)
  | [], p => [p]
  | q :: l, p => if p.1 < q.1 then p :: q :: l else q :: ancInsert l p

/-- The packets that fit in some bytes: from the first that does not, all are lost (R236). -/
def ancFit : Nat → List (List Byte) → List (List Byte)
  | _, [] => []
  | room, p :: l => if p.length ≤ room then p :: ancFit (room - p.length) l else []

/-- The cells of an ANC unit: its packets, a prefix whose LINE is 0, and 0x00 to the end of the cell (R145). -/
def ancCells (l : List (List Byte)) : List (List Byte) :=
  let b := l.flatten ++ zeros 8
  (List.range (ceilDiv b.length 128)).map fun j => padTo 128 (slice b (128 * j) (min 128 (b.length - 128 * j)))

/-- The type and the instance of a source or destination word's endpoint (R225, R226). -/
def epType (w : Nat) : Nat := field w 15 12
def epInst (w : Nat) : Nat := field w 11 0
/-- The device of a source or destination word. -/
def epDevice (w : Nat) : Nat := field w 25 16

namespace State

/-- An input's own state. -/
def input (s : State) (i : Nat) : InSt := s.inputs.getD i InSt.fresh

/-- Change an input's own state. -/
def setInput (s : State) (i : Nat) (x : InSt) : State := { s with inputs := s.inputs.put i x }

/-- A destination's own state. -/
def dest (s : State) (d : Nat) : DestSt := s.dests.getD d DestSt.fresh

/-- Change a destination's own state. -/
def setDest (s : State) (d : Nat) (x : DestSt) : State := { s with dests := s.dests.put d x }

/-- The tries of an input's search, in order: rate and family (R202, R194). -/
def tries (s : State) (i : Nat) : List (Nat × Nat) :=
  let both (r : Nat) : List (Nat × Nat) := if r = 1 then [(1, 0)] else [(r, 0), (r, 1)]
  if s.n (O06.IN_LINK_MODE i) = 1 then both 5
  else if s.n (O06.IN_LINK_MODE i) = 2 then both 6
  else if s.n (O06.IN_RATE_FIXED i) ≠ 0 then both (s.n (O06.IN_RATE_FIXED i))
  else ((List.range (s.n (O06.IN_RATE_CLASS i))).reverse.map (· + 1)).flatMap both

/-- The input enters SEARCHING (R202): from the rate last locked after a loss from LOCKED. Where no loss from LOCKED leads to the search, the
spec names no first rate: the model starts there too (log entry 38). -/
def search (s : State) (i : Nat) : State :=
  let x := s.input i
  let l := s.tries i
  let at_ := match x.last with
    | none => 0
    | some q => match l.findIdx? (· == q) with
      | some n => n
      | none => 0
  (s.setInput i { x with seek := at_, tried := s.now }).setN (O06.IN_STATE i) 2

/-- The source on air of a destination is an SDI input of this device (R226). -/
def readsInput (s : State) (d i : Nat) : Bool :=
  s.n (O08.CURRENT_SOURCE d) % 0x10000 == 0x1000 + i && epDevice (s.n (O08.CURRENT_SOURCE d)) == s.deviceId

/-- The destination number by which the write of an SDI input into its synchroniser is known (log entry 23). -/
def inputDest (i : Nat) : Nat := 0x1000 + i

/-- The frame in progress is marked incomplete, and so is its descriptor; readers inside it read the rest from the frame before it (R149,
R208). -/
def incomplete (s : State) (i : Nat) : State :=
  let f := (s.input i).frame
  let inside (d : Desc) : Bool := d.kind == 0 && d.state == 2 && decide (d.dest < 0x900) && s.readsInput d.dest i &&
    (s.dest d.dest).read == some f
  let t := s.forEach s.fabric.desc fun t e =>
    if e.2.dest = inputDest i then t.setDesc e.1 { e.2 with incomplete := true }
    else if inside e.2 then t.setDesc e.1 e.2.fallBack else t
  t.setInput i { t.input i with bad := true }

/-- The write stream of an input begins a frame (R149, R207): its geometry is that of IN_FORMAT, and frame f goes into slot f mod 3. -/
def alignWrite (s : State) (i : Nat) : State :=
  let f := s.n (O06.IN_FORMAT i)
  s.forEach (s.fabric.desc.filter fun e => e.2.dest == inputDest i) fun t e => t.setDesc e.1 { e.2 with
    lineBytes := lineBytes f, lines := fmtGroupLines f, interlaced := fmtScan f == 1, curGroup := 0, moved := 0
    frameIndex := (s.input i).frame % 3, incomplete := (s.input i).bad }

/-- The ancillary source that a video source brings: itself; that of a VIDEO receiver comes from the receiver that it is associated with
(R236, R374). -/
def followedAnc (s : State) (src : Nat) : Nat :=
  if epType src = 3 ∧ s.n (O0E.ESSENCE (epInst src)) = 0 then
    (if s.n (O0E.RX_ANC_ASSOC (epInst src)) = 0xFFFF then 0 else src / 0x1000 * 0x1000 + s.n (O0E.RX_ANC_ASSOC (epInst src)))
  else src

/-- The ancillary source on air of a destination: its own, or that of its video (R236). -/
def ancSource (s : State) (d : Nat) : Nat :=
  if epType (s.dest d).anc ≠ 15 then (s.dest d).anc else s.followedAnc (s.n (O08.CURRENT_SOURCE d))

/-- An ANC unit of an input, or of a receiver, goes to a destination, as far as its budget reaches (R236): the trailing packets that do not fit are lost. -/
def ancSend (s : State) (i d : Nat) (packets : List (List Byte)) : State :=
  match List.find? (fun (e : Nat × Desc) => e.2.dest == d && e.2.kind == 2 && e.2.state == 2) s.fabric.desc with
  | none => s
  | some e =>
    let kept := ancFit (128 * s.n (O08.ANC_BUDGET d) - 8) packets
    let lost := packets.length - kept.length
    let t := { s with fabric := { s.fabric with anc := s.fabric.anc.put d (s.fabric.anc.getD d [] ++ ancCells kept) } }
    if lost = 0 ∨ 0x1000 ≤ i then t else (t.bump (O06.ANC_DROPPED i) lost).raise 0x068 i (d16 e.1)

/-- The ANC unit of a line group is whole: it goes to every destination whose ancillary source is the input or receiver (R145, R236,
R374). -/
def ancFlush (s : State) (i : Nat) : State :=
  let x := s.input i
  if x.anc = [] then s
  else
    let word := if i < 0x1000 then 0x1000 + i else 0x3000 + (i - 0x1000)
    let mine (d : Nat) : Bool := s.ancSource d % 0x10000 == word && epDevice (s.ancSource d) == s.deviceId
    (s.setInput i { x with anc := [] }).forEach ((s.dests.map (·.1)).filter mine) fun t d => t.ancSend i d (x.anc.map (·.2))

/-- The input leaves LOCKED (R201, R220, R223): its frame is incomplete. -/
def lossOfLock (s : State) (i : Nat) : State :=
  if s.n (O06.IN_STATE i) = 4 then
    let t := s.incomplete i
    let x := t.input i
    let t := t.setInput i { x with
      writing := false, good := false, frame := x.frame + 1, badFrames := (x.frame :: x.badFrames).take 4, bad := false, anc := [],
      last := some (s.n (O06.IN_RATE i), s.n (O06.IN_FAMILY i)) }
    ((t.bump (O06.LOCK_LOSSES i) 1).flag (O06.IN_FLAGS i) 1).raise 0x061 i []
  else s

/-- The input's format code by its structure, its payload ID and its defaults (R203, R204). -/
def inFormat (s : State) (i raster scan rate : Nat) : Nat :=
  let x := s.input i
  let smp := if s.b (O06.IN_PID_TRUST i) ∧ s.n (O06.IN_PID_STATE i) = 1 then x.pid.getD 3 0 else s.n (O06.IN_SAMPLING_DEFAULT i)
  raster * 4096 + scan * 1024 + smp % 4 * 256 + rate * 16

/-- A colour code paired with a raster (R199): with an SD raster 4, the one code that is valid there; with another raster, a code that is not
valid there stands for an open one of 0 to 3 (log entry 38). -/
def pairedColour (raster colour : Nat) : Nat :=
  if raster ≤ 2 then 4 else if colour ≤ 3 then colour else Config.openResult 20 [raster, colour] % 4

/-- The input's colour (R199, R204). -/
def inColour (s : State) (i f : Nat) : Nat :=
  pairedColour (fmtRaster f)
    (if s.b (O06.IN_PID_TRUST i) ∧ s.n (O06.IN_PID_STATE i) = 1 then (s.input i).pid.getD 4 0 else s.n (O06.IN_COLOUR_DEFAULT i))

/-- IN_FORMAT and IN_COLOUR follow; a change while LOCKED is reported (R204). -/
def setProperties (s : State) (i f : Nat) : State :=
  let c := s.inColour i f
  let change := s.n (O06.IN_STATE i) == 4 && (s.n (O06.IN_FORMAT i) != f || s.n (O06.IN_COLOUR i) != c)
  let t := (s.setN (O06.IN_FORMAT i) f).setN (O06.IN_COLOUR i) c
  if change then (t.flag (O06.IN_FLAGS i) 2).raise 0x062 i [] else t

/-- Whether a format is one that the input can lock (R196, R200, R227). -/
def canLock (s : State) (i f : Nat) : Bool :=
  let c := fmtClass f
  if s.n (O06.IN_LINK_MODE i) = 0 then decide (1 ≤ c ∧ c ≤ 6 ∧ c ≤ s.n (O06.IN_RATE_CLASS i)) else c == 7

/-- Whether a format is one of R196 at the rate and the 3G level that the input has found, within its class (R196, R201): level B-DL carries
1080-line formats only. -/
def inFits (s : State) (i f : Nat) : Bool :=
  s.canLock i f && (s.n (O06.IN_LINK_MODE i) != 0 || fmtClass f == s.n (O06.IN_RATE i)) &&
  !(fmtClass f == 3 && s.n (O06.IN_LEVEL i) == 2 && fmtRaster f != 4)

/-- The errors of a frame (R205, R220). -/
def frameErrors (s : State) (i crc edhAp edhFf trs : Nat) : State :=
  let t := (((s.bump (O06.CRC_ERR_LINES i) crc).bump (O06.EDH_AP_ERR i) edhAp).bump (O06.EDH_FF_ERR i) edhFf).bump (O06.TRS_ERR i) trs
  let t := if crc = 0 then t else (t.flag (O06.IN_FLAGS i) 16).raiseLim 0x065 i [] 192000
  let t := if edhAp + edhFf = 0 then t else (t.flag (O06.IN_FLAGS i) 32).raiseLim 0x066 i [] 192000
  let t := if trs = 0 then t else t.flag (O06.IN_FLAGS i) 64
  if crc + edhAp + edhFf + trs ≠ 0 ∧ s.n (O06.IN_STATE i) = 4 then t.setInput i { t.input i with errSecond := true } else t

/-- A frame of a LOCKED input ends: it is complete if every line group was written (R207, R208). -/
def frameWritten (s : State) (i : Nat) (whole : Bool) : State :=
  let x := s.input i
  if ¬ x.writing then (s.setInput i { x with writing := true, bad := false }).alignWrite i
  else if whole ∧ ¬ x.bad then
    ((s.setInput i { x with frame := x.frame + 1, good := true }).bump (O06.FRAMES_IN i) 1).alignWrite i
  else (s.setInput i { x with frame := x.frame + 1, bad := false, badFrames := (x.frame :: x.badFrames).take 4 }).alignWrite i

/-- No payload ID for 2 frames: IN_PID_STATE reads ABSENT (R204). -/
def agePid (s : State) (i : Nat) : State :=
  let x := s.input i
  let t := s.setInput i { x with pidAge := x.pidAge + 1 }
  if 2 ≤ x.pidAge then t.setN (O06.IN_PID_STATE i) 0 else t

/-- The matrix sample rate in Hz (R311). -/
def matrixHz (s : State) : Nat := if s.rate96 then 96000 else 48000

/-- A de-embedder's own state; a receiver's has no fade of its own. -/
def deemb (s : State) (g : Nat) : DeembSt := s.amx.deembs.getD g ⟨0, if g < 0x1000 then ⟨0, 0, 0, 0⟩ else ⟨0x100000, 0x100000, 0, 0⟩, [], 0⟩

/-- Change a de-embedder's own state. -/
def setDeemb (s : State) (g : Nat) (x : DeembSt) : State := { s with amx := { s.amx with deembs := s.amx.deembs.put g x } }

/-- An input of 1.5G or more becomes LOCKED: its de-embedder decides whether its SRC is in the path, until the input next leaves LOCKED
(R285, R330). -/
def deembLock (s : State) (g : Nat) : State :=
  if s.n (O06.IN_RATE g) < 2 then s
  else
    let src := s.n (O0C.DEEMB_SRC_MODE (0xC00 + g)) == 1 || s.rate96 || decide (100 < (s.z 32 (O06.IN_FREQ_OFFSET g)).natAbs)
    (s.setDeemb g { s.deemb g with since := s.now }).setB (O0C.DEEMB_SRC_ACTIVE (0xC00 + g)) src

/-- A received frame of an input that is ALIGNING or UNSUPPORTED is judged (R201, R203). -/
def judgeFrame (s : State) (i raster scan rate skew : Nat) (st : List Nat) (same : Bool) : State :=
  let x := s.input i
  let f := s.inFormat i raster scan rate
  if s.n (O06.IN_STATE i) = 5 then
    if same then s else s.setN (O06.IN_STATE i) 3
  else if same then
    let t := s.setInput i { x with odd := 0 }
    if s.inFits i f ∧ (s.n (O06.IN_LINK_MODE i) = 0 ∨ skew ≤ 4000) then
      let t := ((t.setProperties i f).setN (O06.IN_STATE i) 4).deembLock i
      ((t.setInput i { t.input i with
        writing := true, bad := false, good := false, last := some (t.n (O06.IN_RATE i), t.n (O06.IN_FAMILY i)) }).alignWrite i).raise 0x060 i
        (d16 f)
    else (((t.setProperties i f).setN (O06.IN_STATE i) 5).flag (O06.IN_FLAGS i) 4).raise 0x063 i []
  else if 15 ≤ x.odd then (s.setInput i { x with odd := 0, seen := [] }).search i
  else s.setInput i { x with odd := x.odd + 1, seen := st }

/-- The inputs of the group that an input heads (R200). -/
def inGroup (s : State) (i : Nat) : List Nat :=
  match s.n (O06.IN_LINK_MODE i) with
  | 1 => [i, i + 1, i + 2, i + 3]
  | 2 => [i, i + 1]
  | _ => [i]

/-- The input that heads the group of a MEMBER (R200). -/
def inHead (s : State) (i : Nat) : Nat :=
  if s.n (O06.IN_LINK_MODE i) = 3 then (if s.n (O06.IN_LINK_MODE (i / 4 * 4)) = 1 then i / 4 * 4 else i / 2 * 2) else i

/-- The stream that a destination reads now; 0 none. -/
def destStream (s : State) (d : Nat) : Nat :=
  match List.find? (fun e : Nat × Desc => e.2.dest == d && e.2.state == 2 && e.2.kind == 0) s.fabric.desc with
  | some e => e.1
  | none => 0

/-- The latency of a destination's conversion path in ns, and whether one feeds it (R234, R235). -/
def converts (s : State) (d : Nat) : Bool := s.bs (O09.FUNCS_ACTIVE d) != []

/-- The path of a destination has an FRC: its first read follows the writer of the source and never slips; another path's first read of a
synchroniser selects frames as any reader does (R255). -/
def frcPath (s : State) (d : Nat) : Bool := (s.bs (O09.FUNCS_ACTIVE d)).any fun b => b.toNat == 2 || b.toNat == 3 || b.toNat == 4

/-- The output format of a destination: OUT_FORMAT, or the sender's format. -/
def destFormat (s : State) (d : Nat) : Nat := if d < 0x100 then s.n (O07.OUT_FORMAT d) else s.n (O0D.SEND_FORMAT (d - 0x100))

/-- Where `inputs` holds the synchroniser of a source: an SDI input at its instance, a receiver's ring at 0x1000 above it (R372). -/
def syncKey (src : Nat) : Nat := if epType src = 3 then 0x1000 + epInst src else epInst src

/-- The source is an SDI input or a receiver of this device: a frame synchroniser (R207, R372). -/
def isSync (s : State) (src : Nat) : Bool := (epType src == 1 || epType src == 3) && epDevice src == s.deviceId

/-- Whether a synchroniser has a selectable frame: locked or receiving, in the admitted format, with a complete frame (R211, R369). -/
def selectable_ (s : State) (i fmt : Nat) : Bool :=
  (if i < 0x1000 then s.n (O06.IN_STATE i) == 4 && s.n (O06.IN_FORMAT i) == fmt
   else s.n (O0E.RX_STATE (i - 0x1000)) == 2 && s.n (O0E.RX_FORMAT (i - 0x1000)) == fmt) && (s.input i).good

/-- The source is received in another format than the admitted one (R211, R369). -/
def mismatched (s : State) (i fmt : Nat) : Bool :=
  if i < 0x1000 then s.n (O06.IN_STATE i) == 4 && s.n (O06.IN_FORMAT i) != fmt
  else s.n (O0E.RX_STATE (i - 0x1000)) == 3 ||
    (s.n (O0E.RX_STATE (i - 0x1000)) == 2 && s.n (O0E.RX_FORMAT (i - 0x1000)) != fmt)

/-- E of a receiver: MERGE_WINDOW in lines of RX_FORMAT, rounded up (R371). -/
def mergeLines (s : State) (rx : Nat) : Nat :=
  let f := s.n (O0E.RX_FORMAT rx)
  let q := rateFrac (fmtRate f)
  if q.2 = 0 then 0 else ceilDiv (s.n (O0E.MERGE_WINDOW rx) * rasterTotal (fmtRaster f) * q.1) (1000000 * q.2)

/-- The lead that a first selection requires: SYNC_LEAD, and E more behind a receiver (R209, R372). -/
def firstLead (s : State) (i fmt : Nat) : Nat := syncLead (fmtRaster fmt) + (if i < 0x1000 then 0 else s.mergeLines (i - 0x1000))

/-- AUTO: the delay of followed audio follows PATH_DELAY (R239). -/
def autoDelay (s : State) (d : Nat) : State :=
  if ¬ s.b (O08.AUDIO_FOLLOW d) ∨ s.n (O08.AV_DELAY_MODE d) ≠ 1 then s else
  let want := (s.n (O08.PATH_DELAY d) * s.matrixHz + 500000000) / 1000000000
  let v := min want (2 * s.matrixHz)
  let t := if want = v then s else (s.flag (O08.ROUTE_FLAGS d) 8).raise 0x084 d []
  if s.n (O08.AUDIO_DELAY_APPLIED d) = v then t
  else ((t.setN (O08.AUDIO_DELAY_APPLIED d) v).flag (O08.ROUTE_FLAGS d) 16).raise 0x085 d []

/-- PATH_DELAY after a selection with lead `lead` lines (R235). -/
def setPathDelay (s : State) (d lead : Nat) : State :=
  let f := s.destFormat d
  let nt := rasterTotal (fmtRaster f)
  -- the synchroniser's term counts lines of the source's format (R272)
  let g := if (s.dest d).conv then (s.dest d).fmt else f
  let mt := rasterTotal (fmtRaster g)
  let conv := if (s.dest d).conv then s.n (O09.CONV_LATENCY d) else 0
  s.setN (O08.PATH_DELAY d) (if nt * mt = 0 then 0 else (lead * framePs (fmtRate g) * nt + 12 * framePs (fmtRate f) * mt) / (nt * mt) / 1000 + conv)

/-- The lead of the writer over frame `n`, in lines (R209). -/
def leadOf (x : InSt) (nt written n : Nat) : Int := (x.frame * nt + written : Nat) - (n * nt : Nat)

/-- The lines that the writer of a synchroniser has written of its frame in progress: what the command says of an SDI input, and the lines of the
closed line groups of a receiver (R209, R372). -/
def writtenOf (s : State) (i written : Nat) : Nat :=
  if i < 0x1000 then written else ((SMap.find? s.net.rx (i - 0x1000)).map fun (x : RxSt) => x.lines).getD 0

/-- The first selection: the newest complete frame with at least SYNC_LEAD (R209). -/
def firstSelection (s : State) (i fmt written : Nat) : Option Nat :=
  if s.selectable_ i fmt then
    let written := s.writtenOf i written
    let x := s.input i
    let nt := rasterTotal (fmtRaster fmt)
    [x.frame, x.frame - 1, x.frame - 2].find? fun n =>
      decide ((s.firstLead i fmt : Int) ≤ leadOf x nt written n) && !(x.badFrames.contains n) && !(n == x.frame && x.bad)
  else none

/-- SOURCE_SYNC of a destination (R234). -/
def sourceSync (s : State) (d src : Nat) : Nat :=
  let x := s.dest d
  if x.conv then 2
  else match epType src with
    | 1 =>
      if x.lost then 3
      else if (s.z 32 (O06.IN_FREQ_OFFSET (epInst src))).natAbs ≤ 1 ∧ x.slip + 192000 ≤ s.now then 0 else 1
    | 3 => 5
    | _ => 4

/-- A repeat or a drop of a destination's reader (R210). -/
def slipped (s : State) (d : Nat) (rep : Bool) : State :=
  let t := s.setDest d { s.dest d with slip := s.now }
  let ev := if rep then 0x072 else 0x073
  let t := if d < 0x100 then
      (t.bump (if rep then O07.FRAMES_REPEATED d else O07.FRAMES_DROPPED d) 1).flag (O07.OUT_FLAGS d) (if rep then 2 else 4)
    else t
  t.raiseLim ev d (d16 (t.destStream d)) 192000

/-- The source on air has no selectable frame: LOSS_ACTION (R211). -/
def lossFrame (s : State) (d : Nat) (mismatch : Bool) : State :=
  let x := s.dest d
  let act := if d < 0x100 then s.n (O07.LOSS_ACTION d) else 2
  let hold := if d < 0x100 then s.n (O07.LOSS_HOLD d) else 50
  let n := x.lostFrames + 1
  let t := s.setDest d { x with lost := true, mismatch := mismatch, lostFrames := n, read := none }
  let t := if x.lost then t else
    ((if d < 0x100 then t.flag (O07.OUT_FLAGS d) (if mismatch then 24 else 8) else t).setN (O08.ROUTE_STATE d) 3).raise
      (if mismatch then 0x075 else 0x074) d (d16 (t.destStream d))
  let black := act == 1 || (act == 2 && decide (hold < n))
  let t := if act = 2 ∧ n = hold + 1 then t.raise 0x076 d [] else t
  if d < 0x100 then ((t.setN (O07.OUT_STATE d) (if black then 2 else 4)).bump (O07.FRAMES_SUBST d) 1).setN (O07.SYNC_DELAY d) 0 else t

/-- Frame `n` is read, with its lead (R209, R210). -/
def readFrame (s : State) (d i n written fmt : Nat) : State :=
  let lead := (leadOf (s.input i) (rasterTotal (fmtRaster fmt)) written n).toNat
  let x := s.dest d
  let t := s.setDest d { x with read := some n, shown := n, lost := false, mismatch := false, lostFrames := 0 }
  let t := if x.lost then t.setN (O08.ROUTE_STATE d) 2 else t
  let t := if d < 0x100 then (t.setN (O07.SYNC_DELAY d) lead).setN (O07.OUT_STATE d) 3 else t
  t.setPathDelay d lead

/-- The reader of an SDI input in the destination's own format selects its frame (R209 to R211). Where a first selection finds no complete frame
with enough lead, LOSS_ACTION acts as for a lost source: the spec gives no outcome (log entry 38). -/
def selectFrame (s : State) (d i written : Nat) : State :=
  let written := s.writtenOf i written
  let x := s.dest d
  let y := s.input i
  let f := x.fmt
  let nt := rasterTotal (fmtRaster f)
  let lead := syncLead (fmtRaster f)
  let hyst := if d < 0x100 then s.n (O07.SYNC_HYST d) else 16
  if ¬ s.selectable_ i f then s.lossFrame d (s.mismatched i f)
  else match (if x.resume then none else x.read) with
    | none =>
      match s.firstSelection i f written with
      | none => s.lossFrame d false
      | some n => s.readFrame d i n written f
    | some r =>
      let dn := leadOf y nt written (r + 1)
      if y.badFrames.contains (r + 1) ∨ (r + 1 = y.frame ∧ y.bad) ∨ dn < (lead : Int) then
        ((s.readFrame d i r written f).slipped d true).autoDelay d
      else if ((lead + nt + hyst : Nat) : Int) ≤ dn then ((s.readFrame d i (r + 2) written f).slipped d false).autoDelay d
      else s.readFrame d i (r + 1) written f

/-- The streams of a destination begin a frame (R57, R209, R211): a synchroniser's at the frame selected, or while the source is lost at the one
read last. Built-in black reads nothing. -/
def beginStreams (s : State) (d : Nat) : State :=
  let x := s.dest d
  let frc := s.frcPath d
  let frame := if s.isSync (s.n (O08.CURRENT_SOURCE d)) ∧ ¬ frc then some x.shown else none
  let ask := decide (0x100 ≤ d ∨ s.n (O07.OUT_STATE d) ≠ 2)
  s.forEach (s.fabric.desc.filter fun e =>
    (e.2.dest == d || (e.2.dest == poolTag d 6 && decide (e.2.srcp < 24))) && !frc && e.2.state == 2 && e.2.kind == 0) fun t e =>
    t.setDesc e.1 (e.2.beginFrame frame ask)

/-- The picture of a destination's next frame, from the source on air (R209 to R211, R214, R232). -/
def pictureFrame (s : State) (d written : Nat) : State :=
  let src := s.n (O08.CURRENT_SOURCE d)
  let out (st : Nat) : State := if d < 0x100 then (s.setN (O07.OUT_STATE d) st).setN (O07.SYNC_DELAY d) 0 else s
  let t :=
    if s.isSync src then
      if s.frcPath d then
        let x := s.dest d
        if s.selectable_ (syncKey src) x.fmt then
          ((out 3).setDest d { x with lost := false, mismatch := false, lostFrames := 0 }).setPathDelay d
            (if epType src = 1 then syncLead (fmtRaster x.fmt) else 0)
        else s.lossFrame d (s.mismatched (syncKey src) x.fmt)
      else s.selectFrame d (syncKey src) written
    else if epType src = 0 then (out 2).setPathDelay d 0
    else (out 3).setPathDelay d 0
  let t := t.setDest d { t.dest d with resume := false }
  t.setN (O08.SOURCE_SYNC d) (t.sourceSync d src)

/-- An output leaves electrical idle at a frame start, once no cause stands (R215). -/
def leaveIdle (s : State) (d : Nat) : State :=
  if 0x100 ≤ d ∨ s.outCause d ≠ 0 ∨ 2 ≤ s.n (O07.OUT_STATE d) then s
  else
    let t := ((s.setN (O07.SQUELCH_CAUSE d) 0).setN (O07.OUT_STATE d) 2).raise 0x071 d []
    t.forEach (t.outGroup d) laneTx

/-- Substituted line groups of the frame that ended (R72). -/
def countSubst (s : State) (d : Nat) : State :=
  let x := s.dest d
  if x.subst ∧ d < 0x100 then (s.setDest d { x with subst := false }).bump (O07.FRAMES_SUBST d) 1 else s

/-- A staged offset change moves the output at this frame start (R213). -/
def stepTiming (s : State) (d : Nat) : State :=
  let x := s.dest d
  if x.moved then ((s.setDest d { x with moved := false }).flag (O07.OUT_FLAGS d) 64).raise 0x077 d [] else s

/-- Substituted streams mark their outputs; a missing write leaves the frame of its input incomplete (R72, R208, R222). -/
def markSubst (s : State) : State :=
  s.forEach s.chain.substituted fun t id =>
    match t.desc? id with
    | some d => if d.dest < 0xC0 ∧ d.kind = 0 then
        (t.setDest d.dest { t.dest d.dest with subst := true }).flag (O07.OUT_FLAGS d.dest) 32
      else if 0x1000 ≤ d.dest ∧ d.dest < 0x1100 then t.incomplete (d.dest - 0x1000)
      else if 0x4000 ≤ d.dest ∧ d.dest < 0x4800 then
        t.setInput (d.dest - 0x3000) { t.input (d.dest - 0x3000) with bad := true }
      else t
    | none => t

/-- SAFE HOLD begins (R74, R217): writes stop and frames in progress are incomplete; outputs send black. -/
def sdiHold (s : State) : State :=
  let t := s.forEach s.inputs fun t e => if 0x1000 ≤ e.1 ∨ t.n (O06.IN_STATE e.1) = 4 then
    t.setInput e.1 { e.2 with bad := true, good := false } else t
  let t := t.forEach t.dests fun t e => t.setDest e.1 { e.2 with resume := true }
  t.forEach (List.range (byMember s.member 192 96 48)) fun t o => if 2 ≤ t.n (O07.OUT_STATE o) then t.setN (O07.OUT_STATE o) 2 else t

/-- HBM bypass ends: every frame of the synchronisers is incomplete (R127). -/
def sdiHbmResume (s : State) : State :=
  let t := s.forEach s.inputs fun t e => t.setInput e.1 { e.2 with bad := true, good := false }
  t.forEach t.dests fun t e => t.setDest e.1 { e.2 with resume := true }

/-- Frame rates of a VTS and an output by R212: one family, and a ratio of 1, 2 or 4. -/
def vtsFits (t : State) (o : Nat) : Bool :=
  let y := t.n (O07.OUT_VTS o)
  let f := t.n (O07.OUT_FORMAT o)
  let vr := t.n (O03.VTS_FRAME_RATE (0x20 + y))
  let fam := t.n (O03.VTS_FAMILY (0x20 + y))
  let a := rateFrac vr
  let b := rateFrac (fmtRate f)
  let sd := fmtRaster f == 1
  let ratio := [1, 2, 4].any fun k => a.1 * b.2 == k * b.1 * a.2
  ratio && (if sd then fam == 0 && vr == 4 else (rateFractional (fmtRate f) == (fam == 1)) && !(fam == 0 && vr == 4)) &&
  (fmtClass f != 1 || fam == 0)

/-- Item ranges of classes 06 and 07 beyond the dictionary's (R200). -/
def sdiItemOk (k : Key) (v : Val) : Bool := parOf k != 2 || decide (v.toNat < 3)

/-- Cross-object ranges of class 07 (R213), on the values left in force. -/
def sdiRange (t : State) (k : Key) : Bool :=
  let f := t.n (O07.OUT_FORMAT (instOf k))
  if clsOf k = 7 ∧ (parOf k = 5 ∨ parOf k = 6 ∨ parOf k = 1) then
    decide (t.n (O07.OUT_OFFSET_LINES (instOf k)) < rasterTotal (fmtRaster f)) &&
    decide (t.n (O07.OUT_OFFSET_SAMPLES (instOf k)) < lineSamples (fmtRaster f) (fmtRate f))
  else true

/-- Conflicts of class 06: `s` in force, `t` as the transaction would leave it (R200, R202, R413). A default colour conflicts where no rate that
the input tries has a raster with which it is valid (R199; log entry 38). -/
def inConflict (s t : State) (k : Key) : Bool :=
  let i := instOf k
  let m := t.n (O06.IN_LINK_MODE i)
  s.n (O06.IN_LINK_MODE i) == 3 ||
  (m == 1 && (i % 4 != 0 || t.n (O06.IN_RATE_CLASS i) != 5)) ||
  (m == 2 && (i % 2 != 0 || t.n (O06.IN_RATE_CLASS i) != 6)) ||
  ((t.inGroup i).any fun j => j != i && t.b (O06.IN_ENABLE j)) ||
  decide (t.n (O06.IN_RATE_CLASS i) < t.n (O06.IN_RATE_FIXED i)) ||
  (t.b (O06.IN_ENABLE i) && t.n (O11.LANE_MODE i) != 1) ||
  (parOf k == 5 && (t.tries i).all fun q => (q.1 == 1) == (t.n (O06.IN_COLOUR_DEFAULT i) != 4))

/-- Conflicts of class 07 (R195, R196, R199, R200, R212, R413). -/
def outConflict (s t : State) (k : Key) : Bool :=
  let o := instOf k
  let m := t.n (O07.OUT_LINK_MODE o)
  let f := t.n (O07.OUT_FORMAT o)
  s.n (O07.OUT_LINK_MODE o) == 3 ||
  (m == 1 && o % 4 != 0) || (m == 2 && o % 2 != 0) ||
  (m != 0 && fmtClass f != 7) || (m == 0 && fmtClass f == 7) ||
  (fmtClass f == 3 && t.n (O07.OUT_3G_LEVEL o) == 1 && fmtRaster f != 4) ||
  ((t.outGroup o).any fun j => j != o && t.b (O07.OUT_ENABLE j)) ||
  ((t.n (O07.OUT_COLOUR o) == 4) != decide (fmtRaster f ≤ 2)) && parOf k != 0 ||
  (t.b (O07.OUT_ENABLE o) && (t.n (O11.LANE_MODE o) != 1 || !(t.vtsFits o)))

/-- What an applied transaction changes in class 06 (R200, R201). A change of IN_LINK_MODE or IN_RATE_CLASS leaves IN_STATE: the spec says nothing
of an input that searches or is locked (log entry 38). -/
def inApplied (s : State) (k : Key) : State :=
  let i := instOf k
  match parOf k with
  | 0 =>
    if s.b (O06.IN_ENABLE i) then (if s.n (O06.IN_STATE i) = 0 then s.setN (O06.IN_STATE i) 1 else s)
    else ((s.lossOfLock i).incomplete i).setN (O06.IN_STATE i) 0
  | 2 =>
    let q := i / 4 * 4
    let heads := [q, q + 1, q + 2, q + 3].filter fun j => s.n (O06.IN_LINK_MODE j) == 1 || s.n (O06.IN_LINK_MODE j) == 2
    let member := heads.flatMap fun j => (s.inGroup j).filter (· != j)
    let t := s.forEach [q, q + 1, q + 2, q + 3] fun t j => if t.n (O06.IN_LINK_MODE j) = 3 ∧ ¬ member.contains j then t.setN (O06.IN_LINK_MODE j) 0 else t
    t.forEach member fun t j => t.setN (O06.IN_LINK_MODE j) 3
  | _ => s

/-- The line rate of an output, with its family, as a code and a bit (R130, R194). -/
def outRate (s : State) (o : Nat) : Nat :=
  let c := fmtClass (s.n (O07.OUT_FORMAT o))
  (if c = 7 then (if s.n (O07.OUT_LINK_MODE o) = 1 then 5 else 6) else c) * 2 + s.n (O03.VTS_FAMILY (0x20 + s.n (O07.OUT_VTS o)))

/-- LANE_RATE of a lane in mode SDI (R433): the rate that its input's search tries or that it has locked, else that of its output (log entry
42). -/
def sdiLaneRate (s : State) (l : Nat) : Nat :=
  let i := s.inHead l
  let code (q : Nat × Nat) : Nat := q.1 + 16 * q.2
  if s.n (O06.IN_STATE i) = 2 then code ((s.tries i).getD (s.input i).seek (0, 0))
  else if 3 ≤ s.n (O06.IN_STATE i) then code (s.n (O06.IN_RATE i), s.n (O06.IN_FAMILY i))
  else if s.b (O07.OUT_ENABLE (s.outHead l)) then code (s.outRate (s.outHead l) / 2, s.outRate (s.outHead l) % 2)
  else 0

/-- The lanes of an output take its line rate: a change holds them at electrical idle until their PLLs lock again (R134, R216). -/
def retuneLanes (s : State) (o : Nat) : State :=
  let r := s.outRate o
  s.forEach (s.outGroup o) fun t l =>
    if (t.lane l).sdiRate = r then t
    else
      let u := t.setLane l { t.lane l with sdiRate := r }
      if (t.lane l).released then u.lanePllLost l else u

/-- What an applied transaction changes in class 07 (R200, R213, R215, R216). -/
def outApplied (s : State) (k : Key) : State :=
  let o := instOf k
  match parOf k with
  | 0 =>
    if s.b (O07.OUT_ENABLE o) then (if s.n (O07.OUT_STATE o) = 0 then s.setN (O07.OUT_STATE o) 1 else s).retuneLanes o else s.outSquelch o
  | 1 => (s.retuneLanes o).setDest o { s.dest o with resume := true }
  | 2 =>
    let q := o / 4 * 4
    let heads := [q, q + 1, q + 2, q + 3].filter fun j => s.n (O07.OUT_LINK_MODE j) == 1 || s.n (O07.OUT_LINK_MODE j) == 2
    let member := heads.flatMap fun j => (s.outGroup j).filter (· != j)
    let t := s.forEach [q, q + 1, q + 2, q + 3] fun t j =>
      if t.n (O07.OUT_LINK_MODE j) = 3 ∧ ¬ member.contains j then t.setN (O07.OUT_LINK_MODE j) 0 else t
    (t.forEach member fun t j => t.setN (O07.OUT_LINK_MODE j) 3).retuneLanes o
  | 4 => s.forEach (s.outGroup o) fun t l => (t.setLane l { t.lane l with sdiRate := t.outRate o }).lanePllLost l
  | 5 => s.setDest o { s.dest o with moved := true }
  | 6 => s.setDest o { s.dest o with moved := true }
  | _ => s

end State

/-- Transitions have been present for 10 µs (R201). -/
def execSdiSignalDetect (input : Nat) (s : State) : Host.Outcome State Fault Refusal :=
  onInst 0x06 input s fun s => if s.n (O06.IN_STATE input) = 1 then s.search input else s

/-- No transitions for 10 µs (R201). -/
def execSdiSignalLoss (input : Nat) (s : State) : Host.Outcome State Fault Refusal :=
  onInst 0x06 input s fun s =>
    if 2 ≤ s.n (O06.IN_STATE input) then (s.lossOfLock input).setN (O06.IN_STATE input) 1 else s

/-- The CDR locks within a dwell (R201). -/
def execCdrLock (input : Nat) (s : State) : Host.Outcome State Fault Refusal :=
  onInst 0x06 input s fun s =>
    if s.n (O06.IN_STATE input) = 2 then
      let q := (s.tries input).getD (s.input input).seek (1, 0)
      let t := s.setInput input { s.input input with seen := [], odd := 0 }
      ((t.setN (O06.IN_RATE input) q.1).setN (O06.IN_FAMILY input) q.2).setN (O06.IN_STATE input) 3
    else s

/-- A received frame is judged (R201, R203, R205, R208). -/
def execSdiFrameStructure (input raster scan rate level : Nat) (offset : Int) (skew crc edhAp edhFf trs : Nat) (whole : Bool)
    (s : State) : Host.Outcome State Fault Refusal :=
  onInst 0x06 input s fun s =>
    let st := s.n (O06.IN_STATE input)
    if st < 3 then s else
    let x := s.input input
    let now := [raster, scan, rate]
    let same := x.seen == now
    let t := ((s.frameErrors input crc edhAp edhFf trs).agePid input).ancFlush input
    let t := (t.setN (O06.IN_LEVEL input) level).setN (O06.IN_SKEW input) (if s.n (O06.IN_LINK_MODE input) = 0 then 0 else skew)
    let t := t.setInput input { t.input input with seen := now, offset := offset }
    if st = 4 then
      if ¬ same then (t.lossOfLock input).setN (O06.IN_STATE input) 3
      else if s.n (O06.IN_LINK_MODE input) ≠ 0 ∧ 4000 < skew then
        (((t.lossOfLock input).setN (O06.IN_STATE input) 3).flag (O06.IN_FLAGS input) 512).raise 0x069 input []
      else (t.frameWritten input whole).setProperties input (t.inFormat input raster scan rate)
    else t.judgeFrame input raster scan rate skew now same

/-- CDR loss, or lines without valid TRS: 8 in LOCKED, 64 in ALIGNING (R201). -/
def execSdiLockLoss (input : Nat) (cdr : Bool) (s : State) : Host.Outcome State Fault Refusal :=
  onInst 0x06 input s fun s =>
    let st := s.n (O06.IN_STATE input)
    if st = 4 ∨ (st = 3 ∧ ¬ cdr) ∨ (st = 5 ∧ cdr) then (s.lossOfLock input).search input else s

/-- A dwell of 96 ticks expires: the next try (R202). -/
def execSearchDwell (input : Nat) (s : State) : Host.Outcome State Fault Refusal :=
  onInst 0x06 input s fun s =>
    if s.n (O06.IN_STATE input) = 2 ∧ (s.input input).tried + 96 ≤ s.now then
      let n := (s.tries input).length
      s.setInput input { s.input input with seek := ((s.input input).seek + 1) % max 1 n, tried := s.now }
    else s

/-- An ST 352 packet of a frame is read (R204): it is compared with the structure that was measured (R203). -/
def execPayloadId (input id raster scan rate sampling colour : Nat) (s : State) : Host.Outcome State Fault Refusal :=
  onInst 0x06 input s fun s =>
    if s.n (O06.IN_STATE input) < 3 then s else
    let f := s.n (O06.IN_FORMAT input)
    let agrees := (s.input input).seen == [raster, scan, rate]
    let was := s.n (O06.IN_PID_STATE input)
    let t := s.setInput input { s.input input with pidAge := 0, pid := [raster, scan, rate, sampling, colour] }
    let t := (t.setN (O06.IN_PAYLOAD_ID input) (id % 2 ^ 32)).setN (O06.IN_PID_STATE input) (if agrees then 1 else 2)
    let t := if agrees ∨ was = 2 then t else (t.flag (O06.IN_FLAGS input) 8).raise 0x064 input []
    if s.n (O06.IN_STATE input) = 4 then t.setProperties input (t.inFormat input (fmtRaster f) (fmtScan f) (fmtRate f)) else t

/-- A whole second of ticks ends (R203, R205). -/
def execErroredSecond (s : State) : Host.Outcome State Fault Refusal :=
  live s fun s =>
    if s.tick64 % 192000 ≠ 0 then s else
    s.forEach (List.filter (fun e : Nat × InSt => decide (e.1 < 0x1000)) s.inputs) fun t e =>
      let t := t.setZ 32 (O06.IN_FREQ_OFFSET e.1) e.2.offset
      if e.2.errSecond then (t.setInput e.1 { e.2 with errSecond := false }).bump (O06.ERRORED_SECONDS e.1) 1 else t

end Sys2Proof.Machine
end

