-- ==== Sys2Proof/Machine/Conversion.lean ====
section
/-! DEFINITION. Format conversion: chains, costs, latency, LUT slots, and the commands of class 09 (R249 to R283). -/

namespace Sys2Proof.Machine

/-- A picture on its way through a chain: size, field structure, and picture rate as a fraction (R255). -/
structure Pic where
  w : Nat
  h : Nat
  inter : Bool
  pn : Nat
  pd : Nat
  /-- Total lines of the raster whose line period it has (R271). -/
  nt : Nat
  deriving DecidableEq, Repr

/-- The picture of a format: an interlaced one comes at its field rate (R255). -/
def picOf (f : Nat) : Pic :=
  let q := rateFrac (fmtRate f)
  let i := fmtScan f == 1
  ⟨rasterWidth (fmtRaster f), rasterLines (fmtRaster f), i, q.1 * (if i then 2 else 1), q.2, rasterTotal (fmtRaster f)⟩

/-- Pixels of a picture: a field has half the lines. -/
def Pic.pixels (p : Pic) : Nat := p.w * (if p.inter then p.h / 2 else p.h)

/-- Line period of a picture in fs. -/
def Pic.lineFs (p : Pic) : Nat :=
  if p.pn * p.nt = 0 then 0 else 1000000000000000 * p.pd * (if p.inter then 2 else 1) / (p.pn * p.nt)

/-- Picture period in fs. -/
def Pic.periodFs (p : Pic) : Nat := if p.pn = 0 then 0 else 1000000000000000 * p.pd / p.pn

/-- Base pecks of a function (R259). -/
def baseCost : Nat → Nat
  | 1 => 2 | 2 => 1 | 3 => 1 | 4 => 8 | 5 => 2 | 7 => 1 | 8 => 1 | _ => 0

/-- The cost of a function (R68): ceil(base × max(rate_in, rate_out) / 497,664,000), with exact rates. -/
def peckCost (base : Nat) (i o : Pic) : Nat :=
  let c (p : Pic) : Nat := if p.pd = 0 then 0 else ceilDiv (base * p.pixels * p.pn) (497664000 * p.pd)
  max (c i) (c o)

/-- What a function makes of a picture: the destination is `d`, the scaled size `ow` by `oh` (R255 to R264). -/
def stepPic (d : Pic) (ow oh : Nat) (code : Nat) (p : Pic) : Pic :=
  match code with
  | 1 => { p with inter := false }
  | 2 => { p with pn := d.pn, pd := d.pd }
  | 3 => { p with pn := d.pn, pd := d.pd }
  | 4 => { p with pn := d.pn, pd := d.pd }
  | 5 => { p with w := ow, h := oh, inter := d.inter, nt := d.nt }
  | _ => p

/-- The costs of a chain, function by function (R68, R259). -/
def chainCosts (d : Pic) (ow oh : Nat) : List Nat → Pic → List Nat
  | [], _ => []
  | c :: l, p => peckCost (baseCost c) p (stepPic d ow oh c p) :: chainCosts d ow oh l (stepPic d ow oh c p)

/-- The latency of a function in fs; FRC-DROP's varies between Tin and 2 × Tin: open within that span (R271, log entry 6). -/
def funLatency (d : Pic) (ow oh code : Nat) (p : Pic) : Nat :=
  let q := stepPic d ow oh code p
  match code with
  | 1 => p.periodFs + 8 * q.lineFs
  | 2 => p.periodFs + Config.openResult 2 [p.pn, p.pd, q.pn, q.pd] % (p.periodFs + 1)
  | 3 => 2 * max p.periodFs q.periodFs
  | 4 => 2 * max p.periodFs q.periodFs
  | 5 => 16 * p.lineFs + 8 * q.lineFs
  | 7 => 2 * p.lineFs
  | 8 => 2 * p.lineFs
  | _ => 0

/-- The latency of a chain in fs (R271, R272). -/
def chainLatency (d : Pic) (ow oh : Nat) : List Nat → Pic → Nat
  | [], _ => 0
  | c :: l, p => funLatency d ow oh c p + chainLatency d ow oh l (stepPic d ow oh c p)

/-- Whether a code is a frame-rate conversion (R254). -/
def isFrc (c : Nat) : Bool := c == 2 || c == 3 || c == 4

/-- Bytes of the rings that a chain keeps, in the source's sampling (R273); an FRC that comes first and reads a clip keeps none. -/
def chainWork (d : Pic) (ow oh bits : Nat) (clip first : Bool) : List Nat → Pic → Nat
  | [], _ => 0
  | c :: l, p =>
    let pic (q : Pic) : Nat := pageUp (q.pixels * bits / 8)
    let n := match c with
      | 1 => 4 * pic p
      | 2 => if first && clip then 0 else 3 * pic p
      | 3 => if first && clip then 0 else 3 * pic p
      | 4 => if first && clip then 0 else 4 * pic p
      | _ => 0
    n + chainWork d ow oh bits clip (first && c == 6) l (stepPic d ow oh c p)

/-- No element twice. -/
def noRepeats : List Nat → Bool
  | [] => true
  | x :: l => !(l.contains x) && noRepeats l

/-- What a resolved conversion needs to know (R253 to R265). -/
structure Conv where
  src : Nat
  dst : Nat
  colourIn : Nat
  colourOut : Nat
  frc : Nat
  ow : Nat
  oh : Nat
  crop : Nat × Nat × Nat × Nat
  pos : Nat × Nat
  lut : Nat
  lutReady : Bool
  scene : Bool
  deriving DecidableEq, Repr

/-- The picture after the crop (R265). -/
def Conv.first (c : Conv) : Pic :=
  let p := picOf c.src
  { p with w := if c.crop.2.2.1 = 0 then p.w else c.crop.2.2.1, h := if c.crop.2.2.2 = 0 then p.h else c.crop.2.2.2 }

/-- The destination's picture. -/
def Conv.last (c : Conv) : Pic := picOf c.dst

/-- The scaled size: OUT_W × OUT_H, or the destination raster (R264). -/
def Conv.outW (c : Conv) : Nat := if c.ow = 0 then c.last.w else c.ow
def Conv.outH (c : Conv) : Nat := if c.oh = 0 then c.last.h else c.oh

/-- An FRC is required: the picture rates differ (R256). -/
def Conv.needFrc (c : Conv) : Bool := c.first.pn * c.last.pd != c.last.pn * c.first.pd

/-- DEINT is required (R256). -/
def Conv.needDeint (c : Conv) : Bool := c.first.inter && (!c.last.inter || c.needFrc)

/-- SCALE is required (R256). -/
def Conv.needScale (c : Conv) : Bool :=
  c.first.w != c.outW || c.first.h != c.outH || ((!c.first.inter || c.needDeint) && c.last.inter)

/-- Sampling or bit depth differ (R256). -/
def Conv.sampling (c : Conv) : Bool := fmtSampling c.src != fmtSampling c.dst

/-- The chain that AUTO builds (R257). -/
def Conv.auto (c : Conv) : List Nat :=
  let cp := if c.crop.2.2.1 ≠ 0 ∨ c.crop.2.2.2 ≠ 0 ∨ c.pos ≠ (0, 0) ∨ c.outW < c.last.w ∨ c.outH < c.last.h then [6] else []
  let de := if c.needDeint then [1] else []
  let fr := if c.needFrc then [c.frc + 1] else []
  let sc := if c.needScale then [5] else []
  let lu := if c.lut ≠ 0xFF then [8] else []
  let co := if c.colourIn ≠ c.colourOut ∨ (c.sampling ∧ de ++ fr ++ sc ++ lu = []) then [7] else []
  let enlarges := decide (c.first.w * c.first.h < c.outW * c.outH) || c.last.inter
  cp ++ de ++ (if enlarges then fr ++ co ++ sc else sc ++ fr ++ co) ++ lu

/-- A chain obeys R256 and R264 to R270: OK, or the status that refuses it. -/
def Conv.check (c : Conv) (mc : Bool) (l : List Nat) : Nat :=
  let b := l.filter (· != 6)
  let frcs := b.filter isFrc
  let afterScale := (b.dropWhile (· != 5)).drop 1
  let p := picOf c.src
  let even := fmtSampling c.src == 0
  let v := c.first.inter || c.last.inter
  let inSize := c.first
  if l.contains 4 ∧ ¬ mc then ABSENT
  else if ¬ (c.crop.1 + inSize.w ≤ p.w ∧ c.crop.2.1 + inSize.h ≤ p.h) then RANGE
  else if even ∧ (c.crop.1 % 2 ≠ 0 ∨ c.crop.2.2.1 % 2 ≠ 0) then RANGE
  else if v ∧ (c.crop.2.1 % 2 ≠ 0 ∨ c.crop.2.2.2 % 2 ≠ 0 ∨ c.pos.2 % 2 ≠ 0) then RANGE
  else if b.contains 5 ∧ ¬ (16 ≤ c.outW ∧ 16 ≤ c.outH ∧ c.outW ≤ 16 * inSize.w ∧ inSize.w ≤ 16 * c.outW ∧
      c.outH ≤ 16 * inSize.h ∧ inSize.h ≤ 16 * c.outH) then RANGE
  else if ¬ noRepeats l ∨ 6 < l.length ∨ 1 < frcs.length then CONFLICT
  else if (b.contains 1 ∧ (¬ c.first.inter ∨ b.head? ≠ some 1)) ∨ (c.first.inter ∧ (¬ c.last.inter ∨ frcs ≠ []) ∧ ¬ b.contains 1) then CONFLICT
  else if (frcs ≠ []) ≠ c.needFrc then CONFLICT
  else if c.needScale ∧ ¬ b.contains 5 then CONFLICT
  else if c.last.inter ∧ (afterScale.any isFrc) then CONFLICT
  else if c.sampling ∧ b = [] then CONFLICT
  else if l.contains 8 ∧ ¬ c.lutReady then CONFLICT
  else if b.contains 7 ∧ c.scene ∧ (c.colourIn = 3 ∨ c.colourOut = 3) then CONFLICT
  else OK

/-- The pictures that reach the functions of a chain, step by step (R255 to R264). -/
def chainPics (d : Pic) (ow oh : Nat) : List Nat → Pic → List Pic
  | [], _ => []
  | c :: l, p => p :: chainPics d ow oh l (stepPic d ow oh c p)

/-- Lines of a picture: a field has half of them. -/
def Pic.lines (p : Pic) : Nat := if p.inter then p.h / 2 else p.h

/-- A picture's line at the destination (R265): its pixels from POS_X, BACKGROUND beside them, what lies outside clipped. `bg` holds the
10-bit codes C′B, Y′, C′R; without a line, the line is BACKGROUND. -/
def placeLine (sampling width posX : Nat) (bg : Nat × Nat × Nat) (l : List Px) : List Byte :=
  let w := sampleBits sampling
  let back (c : Nat) : Nat := c * 2 ^ (w - 10)
  let covered (x : Nat) : Bool := decide (posX ≤ x ∧ x < posX + l.length)
  let y (x : Nat) : Nat := if covered x then nearestCode w ((l.map (·.y)).getD (x - posX) 0) else back bg.2.1
  let chroma (c : List Nat) (b x : Nat) : Nat :=
    if covered x then nearestCode w (if sampling = 0 then chromaDown c (x - posX) else c.getD (x - posX) 0) else back b
  let cb := chroma (l.map (·.cb)) bg.1
  let cr := chroma (l.map (·.cr)) bg.2.2
  packSamples w (if sampling = 0 then (List.range (width / 2)).flatMap fun i => [cb (2 * i), y (2 * i), cr (2 * i), y (2 * i + 1)]
    else (List.range width).flatMap fun x => [cb x, y x, cr x])

namespace State

/-- The declared colour of a source (R258). A clip declares none: BT.709, or BT.601 at SD rasters (PRESUMED, log entry 19). -/
def sourceColour (s : State) (src fmt : Nat) : Nat :=
  match epType src with
  | 1 => s.n (O06.IN_COLOUR (epInst src))
  | 3 => s.n (O0E.RX_COLOUR (epInst src))
  | _ => if fmtRaster fmt ≤ 2 then 4 else 0

/-- The declared colour of a destination (R258). -/
def destColour (s : State) (d : Nat) : Nat := if d < 0x100 then s.n (O07.OUT_COLOUR d) else s.n (O0D.SEND_COLOUR (d - 0x100))

/-- The conversion that a path's parameters ask for, on a source and its format. -/
def convOf (s : State) (d src fmt : Nat) : Conv :=
  let ci := s.n (O09.COLOUR_IN d)
  let co := s.n (O09.COLOUR_OUT d)
  let lut := s.n (O09.LUT_SELECT d)
  { src := fmt, dst := s.destFormat d
    colourIn := if ci = 0xFF then s.sourceColour src fmt else ci
    colourOut := if co = 0xFF then s.destColour d else co
    frc := s.n (O09.FRC_TYPE d), ow := s.n (O09.OUT_W d), oh := s.n (O09.OUT_H d)
    crop := (s.n (O09.CROP_X d), s.n (O09.CROP_Y d), s.n (O09.CROP_W d), s.n (O09.CROP_H d))
    pos := (s.n (O09.POS_X d), s.n (O09.POS_Y d)), lut := lut
    lutReady := decide (lut < 32) && (SMap.find? s.conv.luts lut).isSome
    scene := s.n (O09.MAP_MODE d) == 1 }

/-- FRC-MOTION is available (R6, R279). -/
def hasMotion (s : State) : Bool := s.member != .tmn9606

/-- A path's chain and its costs on a source format, or the status that refuses the route (R227, R253, R256, R257). -/
def resolvePath (s : State) (d src fmt : Nat) : Except Nat (List Nat × List Nat) :=
  let c := s.convOf d src fmt
  match s.n (O09.PATH_MODE d) with
  | 0 => if fmt = s.destFormat d then .ok ([], []) else .error CONFLICT
  | m =>
    let l := if m = 1 then c.auto else (s.bs (O09.PATH_FUNCS d)).map (·.toNat)
    let r := c.check s.hasMotion l
    if r = OK then
      let order := l.filter (· == 6) ++ l.filter (· != 6)
      .ok (order, chainCosts c.last c.outW c.outH order c.first)
    else .error r

/-- Bushels of the member (R279). -/
def bushels (s : State) : Nat := byMember s.member 256 128 48

/-- Bushels in service (R249, R275). -/
def inService (s : State) : Nat :=
  ((List.range s.bushels).filter fun b => s.n (O09.BUSHEL_STATE (0xB00 + b)) != 2).length

/-- The lowest peck that no path holds, of the lowest bushel in service that has one: bushel and mask as a BUSHEL entry writes them (R53,
R249). -/
def freePeck (s : State) : Nat :=
  let free (b : Nat) : Option Nat := (List.range 4).find? fun k => !(s.n (O09.PECK_MASK (0xB00 + b))).testBit k
  (((List.range s.bushels).filter fun b => s.n (O09.BUSHEL_STATE (0xB00 + b)) != 2).findSome? fun b =>
    (free b).map fun k => b * 256 + 2 ^ k).getD 1

/-- The BUSHEL entries of the active bank: bushel, mask and path (R53). -/
def bushelUse (s : State) : List (Nat × Nat × Nat) :=
  (s.chain.active.filter fun e => entOp e.2 == 4).map fun e =>
    (field (entArg e.2) 15 8, field (entArg e.2) 3 0, ((s.desc? (entStream e.2)).map fun d => tagPath d.dest).getD 0xFFFF)

/-- What the pool and its bushels report, after a swap (R249, R280). -/
def poolCount (s : State) : State :=
  let use := s.bushelUse
  let busy := (use.map (·.1)).eraseDups
  let t := s.forEach (List.range s.bushels) fun t b =>
    let k := 0xB00 + b
    if busy.contains b ∨ s.n (O09.PECK_MASK k) ≠ 0 then
      let mine := use.filter (·.1 == b)
      let mask := (mine.map (·.2.1)).foldl (· ||| ·) 0
      let paths := ((mine.map (·.2.2)).eraseDups.take 4).flatMap d16
      let t := (t.setN (O09.PECK_MASK k) mask).setBytes (O09.BUSHEL_PATHS k) paths
      if t.n (O09.BUSHEL_STATE k) = 2 then t else t.setN (O09.BUSHEL_STATE k) (if mask = 0 then 0 else 1)
    else t
  let dests := (s.objs.filter fun e => clsOf e.1 == 9 && parOf e.1 == 0x022).map fun e => e.2.toNat
  let used := dests.foldl (· + ·) 0 + (s.conv.overlap.map (·.2.2)).foldl (· + ·) 0
  let queued := ((s.chain.cur.toList ++ s.chain.queue).flatMap (·.paths)).foldl (fun a p => a + p.costs.foldl (· + ·) 0) 0
  let pool := 4 * s.inService
  let t := ((t.setN O09.PECKS_COMMITTED (used + queued)).setN O09.POOL_PECKS pool).setN O09.BUSHELS_IN_SERVICE s.inService
  let t := t.setN O09.PECKS_FREE (pool - (used + queued))
  let states (v : Nat) : Nat := (s.objs.filter fun e => clsOf e.1 == 9 && parOf e.1 == 0x020 && e.2.toNat == v).length
  (t.setN O09.PATHS_RUNNING (states 2)).setN O09.PATHS_SHED (states 3)

/-- A path enters PRIMING (R274): its ring holds nothing of what it needs. -/
def primePath (s : State) (d : Nat) : State :=
  let t := { s with conv := { s.conv with
    rings := s.conv.rings.del d
    store := s.conv.store.filter fun (e : Nat × List Byte) => e.1 / 64 != d } }
  (t.setN (O09.PATH_STATE d) 1).flag (O09.PATH_FLAGS d) 128

/-- The FRC of a path, and the pictures that reach it and that it makes (R255, R261). -/
def pathFrc (s : State) (d : Nat) : Option (Nat × Pic × Pic) :=
  let chain := (s.bs (O09.FUNCS_ACTIVE d)).map (·.toNat)
  let c := s.convOf d (s.n (O08.CURRENT_SOURCE d)) (s.dest d).fmt
  ((chain.zip (chainPics c.last c.outW c.outH chain c.first)).find? fun e => isFrc e.1).map fun e =>
    (e.1, e.2, stepPic c.last c.outW c.outH e.1 e.2)

/-- The places of the ring that an FRC uses for an output frame that starts now, P2, P1 and N1, and the weight of N1 (R261); none before the
ring holds them (R274). -/
def frcFrames (s : State) (d : Nat) : Option (Nat × Nat × Nat × Nat) :=
  match s.pathFrc d with
  | none => none
  | some (code, i, o) =>
    let r := (SMap.find? s.conv.rings d).getD ⟨[], 0⟩
    let fs (t : Nat) : Int := (t * 15625000000 / 3 : Nat)
    let at_ : Int := fs s.now - (if code = 2 then i.periodFs else 2 * max i.periodFs o.periodFs : Nat)
    match r.frames.dropWhile fun e => decide (at_ < fs e.1) with
    | [] => none
    | p1 :: rest =>
      if code = 2 then some (p1.2, p1.2, p1.2, 0)
      else match (r.frames.takeWhile fun e => decide (at_ < fs e.1)).getLast? with
        | none => none
        | some n1 =>
          let span := (fs n1.1 - fs p1.1).toNat
          some ((rest.head?.map (·.2)).getD p1.2, p1.2, n1.2, if span = 0 then 0 else ((at_ - fs p1.1).toNat * 64 + span / 2) / span)

/-- The reads of an FRC begin the frames that it uses for an output frame (R261). -/
def frcFrame (s : State) (d : Nat) : State :=
  match s.frcFrames d with
  | none => s
  | some (p2, p1, n1, w) =>
    let r := (SMap.find? s.conv.rings d).getD ⟨[], 0⟩
    let t := ((s.beginRead (poolTag d 12) p1).beginRead (poolTag d 13) n1).beginRead (poolTag d 14) p2
    { t with conv := { t.conv with rings := t.conv.rings.put d { r with weight := w } } }

/-- A path holds what it needs for a frame that starts now (R274). -/
def primed (s : State) (d : Nat) : Bool :=
  (s.pathFrc d).isNone || (s.frcFrames d).isSome || s.fabric.desc.all fun (e : Nat × Desc) => e.2.dest != poolTag d 11

/-- A resolved path is placed: what it reports, and its priming (R258, R272 to R274, R283). -/
def placePath (s : State) (d src fmt : Nat) (chain costs : List Nat) : State :=
  let c := s.convOf d src fmt
  let bytes (l : List Nat) : List Byte := l.map (BitVec.ofNat 8)
  if chain = [] then
    (((((s.setN (O09.PATH_STATE d) 0).setBytes (O09.FUNCS_ACTIVE d) []).setN (O09.PECKS_USED d) 0).setBytes (O09.PECK_DETAIL d) []).setN
      (O09.CONV_LATENCY d) 0).setN (O09.WORK_BYTES d) 0
  else
    let t := ((s.setBytes (O09.FUNCS_ACTIVE d) (bytes chain)).setN (O09.PECKS_USED d) (costs.foldl (· + ·) 0)).setBytes (O09.PECK_DETAIL d) (bytes costs)
    let t := t.setN (O09.CONV_LATENCY d) (chainLatency c.last c.outW c.outH chain c.first / 1000000)
    let t := t.setN (O09.WORK_BYTES d)
      (chainWork c.last c.outW c.outH (samplingBits (fmtSampling fmt)) (epType src == 2) true chain c.first)
    let t := { t with conv := { t.conv with colour := t.conv.colour.put d c.colourIn, cadence := t.conv.cadence.del d } }
    (t.primePath d).raise 0x090 d (bytes chain ++ d16 (costs.foldl (· + ·) 0))

/-- A path is shed (R276). -/
def shedPath (s : State) (d : Nat) : State :=
  let t := (((s.setN (O09.PATH_STATE d) 3).setN (O09.PECKS_USED d) 0).flag (O09.PATH_FLAGS d) 32).raise 0x097 d []
  { t with conv := { t.conv with shed := d :: t.conv.shed } }

/-- The paths that R276 sheds first: lowest priority, then highest cost, then highest instance. -/
def shedBefore (s : State) (a b : Nat) : Bool :=
  let pa := s.n (O09.PATH_PRIORITY a)
  let pb := s.n (O09.PATH_PRIORITY b)
  let ca := s.n (O09.PECKS_USED a)
  let cb := s.n (O09.PECKS_USED b)
  decide (pa < pb ∨ (pa = pb ∧ (cb < ca ∨ (ca = cb ∧ b < a))))

/-- Paths that hold pecks. -/
def peckPaths (s : State) : List Nat :=
  (s.objs.filter fun e => clsOf e.1 == 9 && parOf e.1 == 0x022 && e.2.toNat != 0).map fun e => instOf e.1

/-- The path to be shed first, of a list. -/
def shedFirst (s : State) (l : List Nat) : Option Nat :=
  l.foldl (fun a d => match a with
    | none => some d
    | some e => if s.shedBefore d e then some d else some e) none

/-- Bushels whose third error came within 192,000 ticks are FAILED at the seam (R275). -/
def bushelSeam (s : State) : State :=
  let t := s.forEach s.conv.failing fun t b =>
    (t.setN (O09.BUSHEL_STATE (0xB00 + b)) 2).raise 0x096 (0xB00 + b) []
  { t with conv := { t.conv with failing := [] } }

/-- A path takes the content of the LUT slot that it names (R270). -/
def takeTable (s : State) (d : Nat) : State :=
  let l := s.n (O09.LUT_SELECT d)
  { s with conv := { s.conv with tables := match SMap.find? s.conv.luts l with
    | some b => if decide (l < 32) then s.conv.tables.put d b else s.conv.tables.del d
    | none => s.conv.tables.del d } }

/-- What takes effect on a path at an output frame start: the frames of its FRC, its LUT, cadence lock, and a change of the source's colour
(R261, R263, R270, R277). -/
def pathFrame (s : State) (d : Nat) : State :=
  let s := if s.converts d then (s.frcFrame d).takeTable d else s
  let t := match SMap.find? s.conv.cadence d with
    | some c => (({ s with conv := { s.conv with cadence := s.conv.cadence.del d } }.setN (O09.CADENCE_STATE d) c).flag
        (O09.PATH_FLAGS d) 4).raise 0x094 d []
    | none => s
  match SMap.find? t.conv.colour d with
  | some c =>
    let src := t.n (O08.CURRENT_SOURCE d)
    let now := t.sourceColour src (t.dest d).fmt
    if t.converts d ∧ t.n (O09.COLOUR_IN d) = 0xFF ∧ now ≠ c then
      ({ t with conv := { t.conv with colour := t.conv.colour.put d now } }.flag (O09.PATH_FLAGS d) 2).raise 0x093 d []
    else t
  | none => t

/-- A path re-primes: restart, HBM resumption, or a change of DEINT or an FRC (R278). -/
def rePrime (s : State) (frcOnly : Bool) : State :=
  s.forEach s.peckPaths fun t d =>
    if ¬ frcOnly ∨ (t.bs (O09.FUNCS_ACTIVE d)).any (fun b => b.toNat == 1 || isFrc b.toNat) then t.primePath d else t

/-- LUT_USERS (R280). -/
def lutUsers (s : State) : State :=
  s.forEach (List.range 32) fun t l =>
    t.setN (O09.LUT_USERS (0xC00 + l)) (s.objs.filter fun e => clsOf e.1 == 9 && parOf e.1 == 0x019 && e.2.toNat == l).length

/-- LUT_LOAD starts (R270). -/
def startLutLoad (s : State) (sess role i : Nat) : State × Nat × Nat :=
  let r := s.startJob sess role (O09.LUT_LOAD i) (.num 1) [s.n (O09.LUT_HOST_ADDR i), s.n (O09.LUT_STATE i)]
  if r.2.1 = PENDING then (r.1.setN (O09.LUT_STATE i) 1, r.2) else r

/-- A LUT_LOAD whose work is done: its status, from the CRC over its entries (R270). -/
def lutLoaded (s : State) (i : Nat) (data : List Byte) : State × Nat :=
  let body := data.take 215622
  if data.length = 215626 ∧ crc32 body = natBE (data.drop 215622) then
    (({ s with conv := { s.conv with luts := s.conv.luts.put (i - 0xC00) body } }.setN (O09.LUT_CRC i) (crc32 body)).raise 0x098 i [], OK)
  else (s.raise 0x099 i [], TYPE)

/-- A LUT_LOAD ends: the slot is READY with content, EMPTY without (R270). -/
def lutJobEnd (s : State) (i : Nat) : State :=
  s.setN (O09.LUT_STATE i) (if (SMap.find? s.conv.luts (i - 0xC00)).isSome then 2 else 0)

/-- What a COLOUR of a path works by (R258, R266 to R268). -/
def colourSet (s : State) (d : Nat) : ColourSet :=
  let c := s.convOf d (s.n (O08.CURRENT_SOURCE d)) (s.dest d).fmt
  ⟨s.conv.colour.getD d c.colourIn, c.colourOut, c.scene, s.n (O09.SDR_WHITE d), s.n (O09.HDR_PEAK d), s.n (O09.TARGET_PEAK d),
    s.n (O09.HLG_PEAK d), s.n (O09.TONE_MAP d), s.n (O09.KNEE_START d), s.n (O09.GAMUT_MAP d)⟩

/-- Pixels that GAMUT_MAP changed (R268). -/
def gamutHits (s : State) (d n : Nat) : State :=
  if n = 0 then s
  else ((s.bump (O09.GAMUT_CLIPPED d) n).flag (O09.PATH_FLAGS d) 8).raiseLim 0x09A d [] 192000

/-- The reads that bring a bushel its pictures go on as it takes their lines (R57, R251). -/
def askOn (s : State) (tag : Nat) : State :=
  s.forEach (s.fabric.desc.filter fun (e : Nat × Desc) => e.2.dest == tag && decide (e.2.srcp < 24)) fun t e =>
    let d := e.2
    if d.curGroup = 0 ∧ d.reqGroup + 1 = d.frameGroups then t
    else t.setDesc e.1 { d with reqGroup := min (d.curGroup + 1) (d.frameGroups - 1) }

/-- A picture's line of pixels that the spec does not determine: of a filter whose coefficients, or a detector whose rule, it does not give
(R260, R262, R264; log entry 40). -/
def openLine (s : State) (width : Nat) : List Px × State :=
  let r := s.drawBytes (6 * width)
  (workLine r.1, r.2)

/-- `k` such lines. -/
def openLines : Nat → State → Nat → List (List Px) × State
  | 0, s, _ => ([], s)
  | k + 1, s, width =>
    let r := s.openLine width
    let q := openLines k r.2 width
    (r.1 :: q.1, q.2)

/-- The lines that a step's product adds to what the next step, or the stream that leaves, holds. The first line of a picture begins it anew
for a next step on the same bushel. -/
def yieldLines (s : State) (d i : Nat) (next : Option Nat) (first : Bool) (lines : List (List Byte)) : State :=
  match next with
  | some j =>
    if s.fabric.desc.any fun (e : Nat × Desc) => e.2.dest == poolTag d j then
      s.setPooled (poolKey d i 5) (s.pooled (poolKey d i 5) ++ lines.flatten)
    else
      let t := s.setPooled (poolKey d j 0) ((if first then [] else s.pooled (poolKey d j 0)) ++ lines.flatten)
      if first then { t with conv := { t.conv with lines := (t.conv.lines.put (d * 8 + j) 0).put (d * 8 + j + 0x100000) 0 } } else t
  | none => s.setPooled (poolKey d i 5) (s.pooled (poolKey d i 5) ++ lines.flatten)

/-- The product of a step: in the working format for a next step; for the destination in its sampling, placed on its raster (R252, R265). `from`
is the number of the first line in its picture, of `total`. -/
def putLines (s : State) (d i : Nat) (next : Option Nat) (from_ total : Nat) (lines : List (List Px)) : State :=
  match next with
  | some j => s.yieldLines d i (some j) (decide (from_ = 0)) (lines.map workBytes)
  | none =>
    let c := s.convOf d (s.n (O08.CURRENT_SOURCE d)) (s.dest d).fmt
    let back := s.n (O09.BACKGROUND d)
    let bg := (field back 19 10, field back 29 20, field back 9 0)
    let sampling := fmtSampling c.dst
    let half (n : Nat) : Nat := if c.last.inter then n / 2 else n
    let top := min (half c.pos.2) c.last.lines
    let place (l : List Px) : List Byte := placeLine sampling c.last.w c.pos.1 bg l
    let room := c.last.lines - top - from_
    let body := (lines.map place).take room
    let before := if from_ = 0 then List.replicate top (place []) else []
    let after := if total ≤ from_ + lines.length then List.replicate (c.last.lines - top - total) (place []) else []
    s.yieldLines d i none (decide (from_ = 0)) (before ++ body ++ after)

/-- What a step makes of one picture line in binary-free form: COLOUR or LUT; any other passes it (R266, R269). The pixels that GAMUT_MAP
changed are counted. -/
def mapLine (s : State) (d code : Nat) (coloured : Bool) (l : List Px) : List Px × Nat :=
  let k := s.colourSet d
  if code = 7 then
    let r := l.map k.pixel
    (r.map (·.1), (r.filter (·.2)).length)
  else if code = 8 then
    match SMap.find? s.conv.tables d with
    | some table => (l.map (lutPixel (if coloured then k.co else k.ci) table), 0)
    | none => (l, 0)
  else (l, 0)

/-- What a DEINT or an FRC makes of its ring's lines, once each of its reads has one (R260, R261). The number of a line in its picture follows
the lines that the step has made. -/
def ringStep (s : State) (d i code : Nat) (next : Option Nat) (bits : Nat) (p q : Pic) : State :=
  let sampling := if bits = 20 then 0 else if bits = 30 then 1 else 2
  let width := p.w * bits / 8
  let slots := if code = 4 then [2, 3, 4] else if code = 2 then [2] else [2, 3]
  let reads := slots.map fun j => cutLines width q.lines (s.pooled (poolKey d i j))
  let n := (reads.map fun r => r.1.length).foldl min ((reads.head?.map fun r => r.1.length).getD 0)
  if n = 0 then s
  else
    let t := s.forEach slots fun t j => t.setPooled (poolKey d i j) ((t.pooled (poolKey d i j)).drop (n * width))
    let line (k j : Nat) : List Px := unpackLine sampling (((reads[k]?).map fun r => r.1.getD j []).getD [])
    let total := q.lines
    let count := t.conv.lines.getD (d * 8 + i) 0
    let w := ((SMap.find? t.conv.rings d).map (·.weight)).getD 0
    let made : List (List Px) × State := match code with
      | 1 =>
        let r := openLines n t p.w
        (((List.range n).map fun j => [line 0 j, r.1.getD j []]).flatten, r.2)
      | 2 => ((List.range n).map (line 0), t)
      | 3 => ((List.range n).map fun j => List.zipWith (blendPx w) (line 0 j) (line 1 j), t)
      | _ => openLines n t p.w
    let u := made.2.putLines d i next (count % max 1 total) total made.1
    { u with conv := { u.conv with lines := u.conv.lines.put (d * 8 + i) ((count + made.1.length) % max 1 total) } }

/-- The whole lines that have reached a step, by their number in its picture, what is left of the bytes, and the lines counted so far under `key`. The
first function unpacks the source's sampling and takes the crop (R252, R265). -/
def stepLines (s : State) (d i key : Nat) (first : Bool) (p : Pic) : List (Nat × List Px) × List Byte × Nat :=
  let c := s.convOf d (s.n (O08.CURRENT_SOURCE d)) (s.dest d).fmt
  let sampling := fmtSampling c.src
  let src := picOf c.src
  let width := if first then src.w * samplingBits sampling / 8 else 6 * p.w
  let r := cutLines width (2 * src.h + 2 * p.h) (s.pooled (poolKey d i 0))
  let count := s.conv.lines.getD key 0
  let top := if src.inter then c.crop.2.1 / 2 else c.crop.2.1
  let taken := r.1.zipIdx.filterMap fun e =>
    let y := count + e.2
    if ¬ first then some (y, workLine e.1)
    else if top ≤ y ∧ y < top + p.lines then some (y - top, ((unpackLine sampling e.1).drop c.crop.1).take p.w) else none
  (taken, r.2, count + r.1.length)

/-- The lines counted so far under a key: those a step has taken, and from 0x100000 on those that a ring's step has written to it. -/
def setLine (s : State) (key n : Nat) : State := { s with conv := { s.conv with lines := s.conv.lines.put key n } }

/-- SCALE makes as many lines as the part of the picture that has come is worth; what they hold is open (R264; log entry 40). -/
def scaleStep (s : State) (d i : Nat) (next : Option Nat) (p q : Pic) (y n : Nat) : State :=
  let from_ := y * q.lines / max 1 p.lines
  let end_ := (y + n) * q.lines / max 1 p.lines
  let o := openLines (end_ - from_) s q.w
  o.2.putLines d i next from_ q.lines o.1

/-- A step of a path takes the whole lines that have reached it and makes its product of them (R251, R252); a DEINT or FRC writes them to its ring
in the source's sampling (R273). -/
def runStep (s : State) (d i code : Nat) (first coloured : Bool) (next : Option Nat) (p q : Pic) : State :=
  let sampling := fmtSampling (s.convOf d (s.n (O08.CURRENT_SOURCE d)) (s.dest d).fmt).src
  let ring := code == 1 || isFrc code
  let key := d * 8 + i + (if ring then 0x100000 else 0)
  let l := s.stepLines d i key first p
  let t := (s.setPooled (poolKey d i 0) l.2.1).setLine key l.2.2
  if ring then
    let lines := l.1.map fun e => placeLine sampling p.w 0 (0, 0, 0) e.2
    (t.setPooled (poolKey d i 1) (t.pooled (poolKey d i 1) ++ lines.flatten)).ringStep d i code next (samplingBits sampling) p q
  else
    match l.1 with
    | [] => t
    | (y, _) :: _ =>
      if code = 5 then t.scaleStep d i next p q y l.1.length
      else
        let made := l.1.map fun e => t.mapLine d code coloured e.2
        (t.putLines d i next y q.lines (made.map (·.1))).gamutHits d (made.map (·.2)).sum

/-- A bushel's work of a tick: the steps of a path, from one, as far as the next step that another bushel is fed for (R250, R251). -/
def runSteps (s : State) (d : Nat) (from_ : Nat) : State :=
  let chain := (s.bs (O09.FUNCS_ACTIVE d)).map (·.toNat)
  let c := s.convOf d (s.n (O08.CURRENT_SOURCE d)) (s.dest d).fmt
  let pics := chainPics c.last c.outW c.outH chain c.first
  let steps := s.pathSteps d
  let fed (j : Nat) : Bool := s.fabric.desc.any fun (e : Nat × Desc) => e.2.dest == poolTag d j
  let mine := match steps.dropWhile fun e => decide (e.1 < from_) with
    | [] => []
    | a :: l => a :: l.takeWhile fun e => !(fed e.1)
  let t := s.forEach mine fun t e =>
    let p := pics.getD e.1 c.first
    t.runStep d e.1 e.2 (decide (steps.head? = some e)) ((chain.take e.1).contains 7) ((steps.find? fun f => decide (e.1 < f.1)).map (·.1)) p
      (stepPic c.last c.outW c.outH e.2 p)
  let t := t.forEach [9, 10, 12, 13, 14] fun t k => t.askOn (poolTag d k)
  if (t.pathFrc d).isSome then t else t.askOn d

/-- The step of a path whose product a stream of the pool carries (R251): the one before the step that it feeds, or the last. -/
def productStep (s : State) (tag : Nat) : Nat :=
  let steps := s.pathSteps (tagPath tag)
  let k := (tag - 0x10000) % 16
  (((if k < 6 then steps.filter fun e => decide (e.1 < k) else steps).getLast?).map (·.1)).getD 0

/-- The first read of a path with an FRC follows the writer of its source's synchroniser at a fixed lead, and never slips (R255). -/
def leadRead (s : State) (d : Nat) : State :=
  let i := epInst (s.n (O08.CURRENT_SOURCE d))
  let lead := syncLead (fmtRaster (s.dest d).fmt)
  match List.find? (fun (e : Nat × Desc) => e.2.dest == inputDest i) s.fabric.desc with
  | none => s
  | some w =>
    let groups := (8 * w.2.curGroup - lead) / 8
    s.forEach (s.fabric.desc.filter fun (e : Nat × Desc) => e.2.dest == d && e.2.kind == 0 && e.2.state == 2) fun t e =>
      let x := e.2
      let n := x.frameGroups
      let same := x.frameIndex == w.2.frameIndex
      let before := (x.frameIndex + 1) % max 1 x.frames == w.2.frameIndex
      let y := if same ∨ before then x else { x with curGroup := 0, moved := 0, redo := 0, frameIndex := w.2.frameIndex }
      let last := if same ∨ ¬ before then (if groups = 0 then n - 1 else groups - 1) else n - 1
      t.setDesc e.1 { y with reqGroup := if before ∧ ¬ same ∧ x.curGroup + 1 < n then min (x.curGroup + 1) (n - 1) else last }

/-- The input-paced reads of the paths that have an FRC and an SDI source of this device, at a tick (R255). -/
def poolTick (s : State) : State :=
  s.forEach (s.peckPaths.filter fun d => (s.bs (O09.FUNCS_ACTIVE d)).any (fun b => isFrc b.toNat) &&
    epType (s.n (O08.CURRENT_SOURCE d)) == 1 && epDevice (s.n (O08.CURRENT_SOURCE d)) == s.deviceId) leadRead

end State

/-- A bushel's chain entry (R52, R53, R250 to R252): the bushel takes what it has been fed, works on it, and what its work has made leaves
from its port. The share of blocks that FRC-MOTION blended is the command's (R262). -/
def execBushel (link word fallback : Nat) (s : State) : Host.Outcome State Fault Refusal :=
  live s fun s =>
    if s.inChain link word ∧ entOp word = 4 then
      match s.desc? (entStream word) with
      | none => s
      | some d =>
        let path := tagPath d.dest
        let t := s.runSteps path (field (entArg word) 7 4)
        let key := State.poolKey path (t.productStep d.dest) 5
        let cut := cutCells (entCells word) (Desc.advanceN (t.pendingCells (entStream word)) d) (t.pooled key)
        let t := (t.setPooled key cut.2).runEntry link word cut.1.length cut.1
        if ¬ s.present 0x09 path then t else t.setN (O09.MC_FALLBACK_PCT path) (min fallback 100)
    else s

/-- A path holds the frames it needs (R274): its destination resumes at its next frame start. -/
def execPathPrimed (dest : Nat) (s : State) : Host.Outcome State Fault Refusal :=
  onInst 0x09 dest s fun s =>
    if dest < 0xA00 ∧ s.n (O09.PATH_STATE dest) = 1 ∧ s.primed dest then
      ((s.setN (O09.PATH_STATE dest) 2).poolCount).raise 0x09B dest []
    else s

/-- A bushel parity error (R275). -/
def execBushelError (bushel stream : Nat) (s : State) : Host.Outcome State Fault Refusal :=
  live s fun s =>
    let k := 0xB00 + bushel
    if s.bushels ≤ bushel ∨ s.n (O09.BUSHEL_STATE k) = 2 then s else
    let recent := ((s.conv.errs.getD bushel []).filter fun x => decide (s.now < x + 192000))
    let t := ((s.bump (O09.BUSHEL_ERRORS k) 1).substitute stream).raise 0x095 k []
    let t := match t.desc? stream with
      | some d => if t.present 0x09 (tagPath d.dest) then t.flag (O09.PATH_FLAGS (tagPath d.dest)) 16 else t
      | none => t
    { t with conv := { t.conv with
      errs := t.conv.errs.put bushel ((s.now :: recent).take 3)
      failing := if 2 ≤ recent.length ∧ ¬ t.conv.failing.contains bushel then bushel :: t.conv.failing else t.conv.failing } }

/-- Cadence lock is declared or lost; it takes effect at the next output frame start (R263). -/
def execCadenceChanged (dest cadence : Nat) (s : State) : Host.Outcome State Fault Refusal :=
  onInst 0x09 dest s fun s =>
    if dest < 0xA00 ∧ s.b (O09.CADENCE dest) ∧ s.hasMotion ∧ (s.bs (O09.FUNCS_ACTIVE dest)).contains 4 ∧ cadence ≤ 2 ∧
        cadence ≠ s.n (O09.CADENCE_STATE dest) then
      { s with conv := { s.conv with cadence := s.conv.cadence.put dest cadence } }
    else s

/-- The LUT_LOAD job of a session starts (R270). -/
def execLutLoad (sess slot : Nat) (s : State) : Host.Outcome State Fault Refusal :=
  onInst 0x09 slot s fun s =>
    if 0xC00 ≤ slot ∧ s.accepts then (s.startLutLoad sess (s.n (O1C.SESS_ROLE sess)) slot).1 else s

end Sys2Proof.Machine
end

