-- ==== Sys2Proof/Machine/Matrix.lean ====
section
/-! DEFINITION. The audio matrix: channel spaces, the pass, gains and switches, delay, tones, players, de-embedding, and the commands
of class 0C (R311 to R343). -/

namespace Sys2Proof.Machine

/-- The raw word of a sample, and the sample of a raw word (R144). -/
def rawOf (z : Int) : Nat := unsigned 32 z
def sampleOf (n : Nat) : Int := signed 32 n

/-- A sample clamped to 32 bits (R318). -/
def clamp32 (z : Int) : Int := if 0x7FFFFFFF < z then 0x7FFFFFFF else if z < -0x80000000 then -0x80000000 else z

/-- The rounding of R318: add half, shift right arithmetically by 20. -/
def round20 (acc : Int) : Int := Int.fdiv (acc + 0x80000) 0x100000

/-- A value that does not move. -/
def Ramp.still (z : Int) : Ramp := ⟨z, z, 0, 0⟩

/-- A ramp of `n` samples to a target from the present value (R320): the step rounds toward zero. -/
def Ramp.toward (r : Ramp) (target : Int) (n : Nat) : Ramp :=
  if n = 0 then .still target else ⟨r.now, target, Int.tdiv (target - r.now) n, n⟩

/-- One sample of a ramp: in its last sample the value equals the target exactly (R320). -/
def Ramp.next (r : Ramp) : Ramp :=
  if r.left = 0 then r else if r.left = 1 then .still r.target else { r with now := r.now + r.step, left := r.left - 1 }

/-- The accumulator of R318 over a set of terms. -/
def accOf (x : Nat → Int) (l : List (Nat × Ramp)) : Int :=
  l.foldl (fun a t => if t.1 = 0xFFFF then a else a + x t.1 * t.2.now) 0

/-- The number of terms of a set (R319). -/
def termsOf (l : List (Nat × Ramp)) : Nat := (l.filter (·.1 != 0xFFFF)).length

/-- A signal changed sign at some sample of the last `w`, newest first, or is 0 in all of them (R323). Samples before the set was computed
play no part: the model's choice (log entry 37). -/
def crossed (w : Nat) (l : List Int) : Bool :=
  l != [] && ((l.take w).all (· == 0) ||
    ((l.take w).zip (l.drop 1)).any fun e => decide ((e.2 < 0 ∧ 0 ≤ e.1) ∨ (0 ≤ e.2 ∧ e.1 < 0)))

/-- 10 to the power −c/2,000 in units of 2^−128, by its exponential series (R327; log entry 20). -/
def attenuation (c : Nat) : Nat :=
  let one : Int := 2 ^ 128
  let y : Int := (c % 2000 : Nat) * 2302585092994045684017991454684364208 * one / (2000 * 1000000000000000000000000000000000000)
  let e := (List.range 60).foldl (fun (a : Int × Int) (k : Nat) => let t := a.2 * (-y) / (one * (k + 1 : Nat)); (a.1 + t, t)) (one, one)
  (e.1 / (10 ^ (c / 2000) : Nat)).toNat

/-- The sine of 2 π × p / q in units of 2^−128, by its power series (R327; log entry 20). -/
def sine (p q : Nat) : Int :=
  let one : Int := 2 ^ 128
  let r := 4 * p / (max q 1)
  let rem := 4 * p - r * q
  let f := if r % 2 = 0 then rem else q - rem
  let y : Int := (f : Int) * 1570796326794896619231321691639751442 * one / ((max q 1 : Nat) * 1000000000000000000000000000000000000)
  let s := (List.range 40).foldl (fun (a : Int × Int) (k : Nat) =>
    let t := -(a.2 * y / one * y / one / ((2 * k + 2) * (2 * k + 3) : Nat)); (a.1 + t, t)) (y, y)
  if r % 4 < 2 then s.1 else -s.1

/-- Round to 24 bits, justified high (R327). -/
def round24 (num : Int) (den : Nat) : Int := Int.fdiv (2 * num + den * 256) (2 * den * 256) * 256

/-- The magnitude in 0.01 dBFS, rounded down, of a sample's absolute value; −14,400 at the least (R339; log entry 20). The search
multiplies by ten at most 14,400 times. -/
def meterSearch : Nat → Nat → Nat → Nat → Nat
  | 0, _, _, n => n
  | f + 1, v, lim, n => if lim ≤ v then n else meterSearch f (v * 10) lim (n + 1)

/-- DEST_PEAK or SOURCE_PEAK of a peak magnitude (R339). -/
def meter (x : Nat) : Int := if x = 0 then -14400 else -(meterSearch 14400 (x ^ 2000) (2 ^ 62000) 0 : Nat)

/-- First channels of the ranges, and the last channel's successor (R312, R313): AES3, SDI, clip players, tones, MADI, IP, end. -/
structure Ranges where
  sdi : Nat
  e : Nat
  clip : Nat
  tone : Nat
  madi : Nat
  ip : Nat
  top : Nat
  deriving DecidableEq, Repr

/-- The ranges of a member at a rate (R312). -/
def rangesOf (m : Member) (r96 : Bool) : Ranges :=
  let aes := byMember m 128 64 32
  let e := if r96 then 16 else 32
  let clip := aes + e * byMember m 192 96 48
  let tone := clip + 64 * (if r96 then byMember m 13 6 3 else byMember m 28 14 7)
  let madi := tone + (if r96 then byMember m 64 64 32 else byMember m 128 64 32)
  ⟨aes, e, clip, tone, madi, madi + 64 * byMember m 16 8 4, byMember m 16384 8192 4096 / (if r96 then 2 else 1)⟩

namespace State

/-- The ranges in force (R312). -/
def ranges (s : State) : Ranges := rangesOf s.member s.rate96

/-- Ticks of a matrix sample period (R311). -/
def period (s : State) : Nat := if s.rate96 then 2 else 4

/-- A block and a channel within it. -/
def termSrc (s : State) (d j : Nat) : Nat := s.n (O0C.TERM_SRC (d / 16) (d % 16) j)

/-- The committed set of a destination channel at its written gains (R319). -/
def committedSet (s : State) (d : Nat) : List (Nat × Ramp) :=
  (List.range 8).map fun j => (s.termSrc d j, .still (signed 32 (s.n (O0C.TERM_GAIN (d / 16) (d % 16) j))))

/-- The steady state of a destination channel. -/
def steady (s : State) (d : Nat) : ChanSt :=
  ⟨s.committedSet d, none, none, none, 0, .still (if s.b (O0C.MUTE (d / 16) (d % 16)) then 0 else 0x100000), none⟩

/-- A destination channel's state. -/
def chan (s : State) (d : Nat) : ChanSt := (SMap.find? s.amx.chans d).getD (s.steady d)

/-- Change a destination channel's state; a steady one is not listed. -/
def setChan (s : State) (d : Nat) (c : ChanSt) : State :=
  { s with amx := { s.amx with chans := if c = s.steady d then s.amx.chans.del d else s.amx.chans.put d c } }

/-- Keep a channel's present set and gains before its objects change. -/
def holdChan (s : State) (d : Nat) : State := { s with amx := { s.amx with chans := s.amx.chans.put d (s.chan d) } }

/-- What feeds the channel of a block: 0 AES3-OUT, 1 SDI-EMBED, 2 MONITOR, 3 MADI-OUT, 4 IP-SENDER (R313, R336, R340). -/
def sinkOf (s : State) (b : Nat) : Nat :=
  let r := s.ranges
  let d := 16 * b
  if d < r.sdi then 0
  else if d < r.clip then
    let g := (d - r.sdi) / r.e
    let k := (d - r.sdi) % r.e
    let c := fmtClass (s.n (O07.OUT_FORMAT g))
    if c = 1 ∨ s.n (O07.OUT_LINK_MODE g) = 3 ∨ (c = 2 ∧ 16 ≤ k) then 2 else 1
  else if d < r.madi then 2
  else if d < r.ip then
    if s.n (O0B.OUT_CHANNELS (0x100 + (d - r.madi) / 64)) = 56 ∧ 56 ≤ (d - r.madi) % 64 then 2 else 3
  else if s.objs.any fun e => clsOf e.1 == 0x0D && parOf e.1 == 0 && e.2.toNat != 0 &&
      (let i := instOf e.1
       decide (s.n (O0D.CHANNEL_BASE i) < d + 16 ∧ d < s.n (O0D.CHANNEL_BASE i) + s.n (O0D.CHANNEL_COUNT i))) then 4 else 2

/-- A tone generator's sample in a sample period (R327). -/
def toneSample (s : State) (t p : Nat) : Int :=
  let i := 0x400 + t
  let rate := s.matrixHz
  let a : Int := 0x7FFFFF00 * (attenuation (s.z 16 (O0C.TONE_LEVEL i)).natAbs : Nat)
  match s.n (O0C.TONE_MODE i) with
  | 1 =>
    let phase := s.n (O0C.TONE_FREQ i) * p % 2 ^ 64 % (rate * 1000)
    round24 (a * sine phase (rate * 1000)) (2 ^ 256)
  | 2 => if p * s.period % 192000 = 0 then round24 a (2 ^ 128) else 0
  | _ => 0

/-- The sample of a source channel that the present period sums (R314, R315). -/
def srcValue (s : State) (ch : Nat) : Int :=
  let r := s.ranges
  if r.tone ≤ ch ∧ ch < r.madi then s.toneSample (ch - r.tone) (s.tick64 / s.period - 1)
  else sampleOf (SMap.getD s.amx.cur ch 0)

/-- A source channel's sample is written (R315). -/
def putSrc (s : State) (ch : Nat) (z : Int) : State :=
  { s with amx := { s.amx with
    src := SMap.setD s.amx.src ch 0 (rawOf z)
    srcPeak := SMap.setD s.amx.srcPeak ch 0 (max (s.amx.srcPeak.getD ch 0) z.natAbs) } }

/-- Samples of a time in µs at the matrix rate. -/
def samplesOf (s : State) (us : Nat) : Nat := us * s.matrixHz / 1000000

/-- A sum that leaves 32 bits saturates, and is counted (R318). -/
def saturated (s : State) (d : Nat) (y : Int) : State :=
  if clamp32 y = y then s
  else ((s.bump (O0C.SATURATED (d / 16) (d % 16)) 1).flag (O0C.DEST_FLAGS (d / 16) (d % 16)) 2).raiseLim 0x0C1 d [] 192000

/-- The sample that a destination channel sends, and the channel's next state (R318, R321, R324, R325). -/
def chanSample (s : State) (d : Nat) : Int × Int × ChanSt :=
  let c := s.chan d
  let x := s.srcValue
  let old := round20 (accOf x c.air)
  let fading := s.n (O0C.SWITCH_STATE (d / 16) (d % 16)) == 2
  let n := max 1 (s.samplesOf (s.n O0C.XFADE_LEN))
  let k := min n (c.timer + 1)
  let y := match c.next with
    | some l => if fading then
        Int.fdiv (2 * ((n - k : Nat) * clamp32 old + k * clamp32 (round20 (accOf x l))) + n) (2 * n)
      else old
    | none => old
  let step (l : List (Nat × Ramp)) : List (Nat × Ramp) := l.map fun t => (t.1, t.2.next)
  (y, round20 (clamp32 y * c.mute.now),
    { c with air := step c.air, want := c.want.map step, next := c.next.map step, queued := c.queued.map step,
             timer := if c.next.isSome then c.timer + 1 else c.timer, mute := c.mute.next })

/-- The newest results of a channel (R323). -/
def past (s : State) (d : Nat) : PastSt := s.amx.past.getD d ⟨[], [], 0⟩

/-- The results of this sample period join the newest ones: 48, the greatest window, and the one before them (R323). -/
def notePast (s : State) (d : Nat) : State :=
  let c := s.chan d
  let p := s.past d
  let result (l : List (Nat × Ramp)) : Int := clamp32 (round20 (accOf s.srcValue l))
  let new : List Int := match c.next with
    | some l => (result l :: p.new).take 49
    | none => []
  { s with amx := { s.amx with past := s.amx.past.put d ⟨(result c.air :: p.old).take 49, new, c.mute.now⟩ } }

/-- The zero-crossing condition holds at the newest sample: both results have changed sign within ZC_WINDOW (R323). -/
def zcHolds (s : State) (d : Nat) : Bool :=
  let w := s.n O0C.ZC_WINDOW
  crossed w (s.past d).old && crossed w (s.past d).new

/-- The sample that a destination channel sends, before its block's delay. -/
def putOut (s : State) (d : Nat) (y : Int) : State :=
  { s with amx := { s.amx with
    out := SMap.setD s.amx.out d 0 (rawOf y)
    destPeak := SMap.setD s.amx.destPeak d 0 (max (s.amx.destPeak.getD d 0) y.natAbs) } }

/-- One destination channel of the pass (R318). -/
def runChan (s : State) (d : Nat) : State :=
  let r := s.chanSample d
  (((s.notePast d).saturated d r.1).setChan d r.2.2).putOut d (clamp32 r.2.1)

/-- The SDI output whose embedding channels a block holds (R313); none for another block. -/
def embedOf (s : State) (b : Nat) : Option Nat :=
  let r := s.ranges
  if r.sdi ≤ 16 * b ∧ 16 * b < r.clip then some ((16 * b - r.sdi) / r.e) else none

/-- The SDI output whose video a block's audio follows (R238); none for another block. -/
def followed (s : State) (b : Nat) : Option Nat := (s.embedOf b).filter fun g => s.b (O08.AUDIO_FOLLOW g)

/-- The tap of a block: BLOCK_DELAY, and the delay of followed audio for an SDI block (R239, R326). -/
def tapOf (s : State) (b : Nat) : Nat :=
  s.n (O0C.BLOCK_DELAY b) + (match s.followed b with
    | some g => s.n (O08.AUDIO_DELAY_APPLIED g)
    | none => 0)

/-- A block sends what its delay line gives at its tap, or in a crossfade at its old tap and its new one (R326). -/
def tapBlock (s : State) (b : Nat) : State :=
  match SMap.find? s.amx.lines b with
  | none => s
  | some l =>
    let n := s.matrixHz / 500
    let at_ (k c : Nat) : Int := sampleOf ((l.line.getD k []).getD c 0)
    s.forEach (List.range 16) fun t c =>
      let y := if l.left = 0 then at_ l.tap c else Int.fdiv (l.left * at_ l.oldTap c + (n - l.left : Nat) * at_ l.tap c) n
      { t with amx := { t.amx with out := SMap.setD t.amx.out (16 * b + c) 0 (rawOf y) } }

/-- A channel sends another result in the present sample (R324): the newest sample of its block's delay line is that one. -/
def resend (s : State) (d : Nat) (y : Int) : State :=
  match SMap.find? s.amx.lines (d / 16) with
  | none => s.putOut d y
  | some l =>
    if s.clocks.hbmBypass then s
    else
      let frame := ((l.line.headD []) ++ List.replicate 16 0).take 16
      let line := frame.set (d % 16) (rawOf y) :: l.line.drop 1
      ({ s with amx := { s.amx with lines := s.amx.lines.put (d / 16) { l with line := line } } }).tapBlock (d / 16)

/-- A block's results pass its delay line (R326): a change of tap crossfades over 2 ms. -/
def delayBlock (s : State) (b : Nat) : State :=
  let want := s.tapOf b
  let l := (SMap.find? s.amx.lines b).getD ⟨[], 0, 0, 0⟩
  if want = 0 ∧ l.tap = 0 ∧ l.left = 0 then s
  else
    let n := s.matrixHz / 500
    let frame := (List.range 16).map fun c => SMap.getD s.amx.out (16 * b + c) 0
    let changed := want != l.tap
    let tap := want
    let oldTap := if changed then l.tap else l.oldTap
    let left := if changed then n else l.left - 1
    let line := (frame :: l.line).take (max tap oldTap + 1)
    let t := ({ s with amx := { s.amx with lines := s.amx.lines.put b ⟨line, tap, oldTap, left⟩ } }).tapBlock b
    let t := t.setN (O0C.DELAY_APPLIED b) tap
    if changed then t.raise 0x0CA b [] else t

/-- The work of a block is missing in this period (R72). -/
def missBlock (s : State) (b : Nat) : State :=
  if s.amx.missed.contains b then s else { s with amx := { s.amx with missed := b :: s.amx.missed } }

/-- One block of the pass (R316, R318). In HBM bypass a block with a delay reads nothing, and its line stands (R127). -/
def runBlock (s : State) (b : Nat) : State :=
  let t := s.forEach (List.range 16) fun t c => t.runChan (16 * b + c)
  if s.clocks.hbmBypass ∧ s.tapOf b ≠ 0 then t.missBlock b else t.delayBlock b

/-- Samples of 1 ms: the length of the fade of R72. -/
def fadeSamples (s : State) : Nat := if s.rate96 then 96 else 48

/-- A factor moves to full, or to 0, over 1 ms: one sample of it (R72). -/
def coverStep (s : State) (r : Ramp) (gone : Bool) : Ramp :=
  let want : Int := if gone then 0 else 0x100000
  (if r.target = want then r else r.toward want s.fadeSamples).next

/-- A block's samples under the fade of R72: the last good samples while its work is missing, its own while it ramps back. -/
def fadeBlock (s : State) (b : Nat) : State :=
  let frame (m : SMap Nat) : List Nat := (List.range 16).map fun c => SMap.getD m (16 * b + c) 0
  let (r, good) := (SMap.find? s.amx.miss b).getD (.still 0x100000, frame s.amx.prev)
  let gone := s.amx.missed.contains b
  let r := s.coverStep r gone
  let good := if gone then good else frame s.amx.out
  let t := s.forEach (List.range 16) fun t c =>
    { t with amx := { t.amx with out := SMap.setD t.amx.out (16 * b + c) 0 (rawOf (round20 (sampleOf (good.getD c 0) * r.now))) } }
  { t with amx := { t.amx with miss := if r.now = 0x100000 then t.amx.miss.del b else t.amx.miss.put b (r, good) } }

/-- Blocks whose work is missing, or has come back, before the ports take the samples of the period (R72). -/
def fadeBlocks (s : State) : State :=
  let raw := s.amx.out
  let l := (s.amx.missed ++ s.amx.miss.map (·.1)).eraseDups
  let t := s.forEach l fadeBlock
  { t with amx := { t.amx with prev := raw, missed := [] } }

/-- Terms of a channel, all its sets counted (R322). -/
def chanTerms (s : State) (d : Nat) : Nat :=
  let c := s.chan d
  let t (o : Option (List (Nat × Ramp))) : Nat := match o with
    | some l => termsOf l
    | none => 0
  termsOf c.air + t c.want + t c.next + t c.queued + ((s.amx.leaving.filter (·.1 == d)).map (·.2)).foldl (· + ·) 0

/-- Channels whose objects or state give them terms. -/
def termChans (s : State) : List Nat :=
  ((s.objs.filter fun e => clsOf e.1 == 0x0C && decide (instOf e.1 < 0x400) && decide (parOf e.1 % 0x100 < 8) &&
      decide (parOf e.1 < 0x1000)).map (fun e => 16 * instOf e.1 + parOf e.1 / 0x100) ++
    s.amx.chans.map (·.1) ++ s.amx.leaving.map (·.1)).eraseDups

/-- DEST_TERMS, BLOCK_TERMS, TERMS_COMMITTED and PHASE_TERMS (R316, R322). -/
def countTerms (s : State) : State :=
  let l := s.termChans.map fun d => (d, s.chanTerms d)
  let blocks := (l.map fun e => e.1 / 16).eraseDups
  let coming : List (Nat × Nat × Nat) := (s.chain.cur.toList ++ s.chain.queue).flatMap (·.terms)
  let more (p : Nat) : Nat := (coming.map fun (e : Nat × Nat × Nat) => if e.2.2 = p then e.2.1 else 0).foldl (· + ·) 0
  let of (b : Nat) : Nat := ((l.filter fun e => e.1 / 16 == b).map (·.2)).foldl (· + ·) 0
  let t := s.forEach l fun t e => t.setN (O0C.DEST_TERMS (e.1 / 16) (e.1 % 16)) e.2
  let t := t.forEach blocks fun t b => t.setN (O0C.BLOCK_TERMS b) (of b)
  let phase (p : Nat) : Nat := ((blocks.filter fun b => t.n (O0C.BLOCK_PHASE b) == p).map of).foldl (· + ·) 0 + more p
  (t.setN O0C.TERMS_COMMITTED ((l.map (·.2)).foldl (· + ·) 0 + more 0 + more 1 + more 2 + more 3)).setBytes O0C.PHASE_TERMS
    (d32 (phase 0) ++ d32 (phase 1) ++ d32 (phase 2) ++ d32 (phase 3))

/-- The old set of a channel is released: its terms leave at the next seam that permits it (R322, R324). -/
def releaseSet (s : State) (d : Nat) (old : List (Nat × Ramp)) : State :=
  { s with amx := { s.amx with leaving := if termsOf old = 0 then s.amx.leaving else s.amx.leaving ++ [(d, termsOf old)] } }

/-- The results of the new set are those of the set on air from now on; or a new set has none yet (R323). -/
def turnPast (s : State) (d : Nat) (cut : Bool) : State :=
  let p := s.past d
  { s with amx := { s.amx with past := s.amx.past.put d ⟨if cut then p.new else p.old, [], p.mute⟩ } }

/-- A switch completes: the new set is on air (R324). -/
def cutTo (s : State) (d : Nat) (c : ChanSt) (new : List (Nat × Ramp)) : State :=
  let t := ((s.releaseSet d c.air).turnPast d true).setN (O0C.SWITCH_STATE (d / 16) (d % 16)) 0
  ((t.setChan d { c with air := new, next := none, timer := 0 }).flag (O0C.DEST_FLAGS (d / 16) (d % 16)) 1).countTerms

/-- A switch begins with a new set, by SWITCH_MODE (R324). -/
def beginSwitch (s : State) (d : Nat) (c : ChanSt) (new : List (Nat × Ramp)) : State :=
  ((s.turnPast d false).setN (O0C.SWITCH_STATE (d / 16) (d % 16)) (if s.n (O0C.SWITCH_MODE (d / 16) (d % 16)) = 0 then 1 else 2)).setChan d
    { c with next := some new, timer := 0 }

/-- Embedded audio fades out over 1 ms, or ramps in (R74, R75). -/
def fadeEmbed (s : State) (out : Bool) : State :=
  { s with amx := { s.amx with embed := s.amx.embed.toward (if out then 0 else 0x100000) s.fadeSamples } }

/-- SAFE HOLD begins: every pending switch is completed as a cut (R338), and embedded audio fades out. -/
def matrixHold (s : State) : State :=
  (s.fadeEmbed true).forEach s.amx.chans fun t e =>
    let c := e.2
    match c.queued, c.want, c.next with
    | some q, _, _ => t.cutTo e.1 { c with queued := none, want := none } q
    | none, some w, _ => t.cutTo e.1 { c with want := none } w
    | none, none, some x => t.cutTo e.1 c x
    | none, none, none => t

/-- Before a TERM_SRC or a route changes a channel's objects: keep what is on air. -/
def matrixBefore (s : State) (k : Key) : State :=
  if clsOf k = 0x0C ∧ instOf k < 0x400 ∧ parOf k % 0x100 < 8 then s.holdChan (16 * instOf k + parOf k / 0x100) else s

/-- A channel's committed set changed: it waits for its switch sample, the first of the activation tick and after it (R230, R322). -/
def wantSet (s : State) (d : Nat) : State :=
  let c := s.chan d
  s.setChan d { c with want := some (s.committedSet d), due := some (s.now + 1) }

/-- An AUDIO route in force: slot 0 takes the source at gain 1, the other slots none (R237, R319). -/
def audioRoute (s : State) (d src : Nat) : State :=
  let b := d / 16
  let c := d % 16
  let t := s.holdChan d
  let t := (t.setN (O0C.TERM_SRC b c 0) src)
  let t := if src = 0xFFFF then t else t.setN (O0C.TERM_GAIN b c 0) 0x100000
  let t := t.forEach [1, 2, 3, 4, 5, 6, 7] fun t j => t.setN (O0C.TERM_SRC b c j) 0xFFFF
  t.wantSet d

/-- The embedding channels of an output that follow its video, and the source of each (R238, R374): de-embedded channels of an SDI signal, those of
the associated receiver of a VIDEO receiver, or silence without audio. They wait for the switching line. -/
def followAudio (s : State) (o src : Nat) : State :=
  let r := s.ranges
  let n := if fmtClass (s.n (O07.OUT_FORMAT o)) = 2 then 16 else 32
  let sdi := epType src == 3 && s.n (O0E.ESSENCE (epInst src)) == 4
  let has := epType src == 1 || sdi || (epType src == 3 && s.n (O0E.RX_AUDIO_ASSOC (epInst src)) != 0xFFFF)
  let t := if has then s else (s.flag (O08.ROUTE_FLAGS o) 4).raise 0x083 o []
  t.forEach (List.range (min n r.e)) fun t k =>
    let from_ := if epType src = 1 then r.sdi + r.e * epInst src + k
      else if sdi then s.n (O0E.CHANNEL_BASE (epInst src)) + k
      else if has then s.n (O0E.CHANNEL_BASE (s.n (O0E.RX_AUDIO_ASSOC (epInst src)))) + k else 0xFFFF
    let d := r.sdi + r.e * o + k
    let t := t.audioRoute d from_
    t.setChan d { t.chan d with due := none }

/-- The switching line of an output has begun: its followed channels switch at the next sample period, and the delay of followed audio after it
(R238). -/
def followDue (s : State) (o : Nat) : State :=
  let r := s.ranges
  let at_ := s.now + (s.period - s.tick64 % s.period) + s.n (O08.AUDIO_DELAY_APPLIED o) * s.period
  s.forEach ((List.range r.e).map fun k => r.sdi + r.e * o + k) fun t d =>
    let c := t.chan d
    if c.want.isSome ∧ c.due = none then t.setChan d { c with due := some at_ } else t

/-- A gain or mute write: the object changes, the present gain holds until its ramp (R320, R321). -/
def writeGain (s : State) (k : Key) (v : Nat) : State :=
  let d := 16 * instOf k + parOf k / 0x100
  let t := ((s.holdChan d).setN k v).journal k (.num v)
  { t with amx := { t.amx with writes := t.amx.writes ++ [k] } }

/-- Samples of the clip that a player names (R185, R328). -/
def clipSamples (s : State) (i : Nat) : Nat := max 1 (s.n (O05.CLIP_UNITS (0x100 + s.n (O0C.PLAYER_CLIP i))) * 48)

/-- At the seam: the writes before it take effect from the next sample period (R320). -/
def matrixSeam (s : State) : State :=
  let t := { s with amx := { s.amx with armed := s.amx.armed ++ s.amx.writes, writes := [] } }
  t.forEach s.amx.players fun t e => t.setN (O0C.PLAY_POSITION e.1) (if t.b (O0C.PLAY_LOOP e.1) then e.2.pos % t.clipSamples e.1 else e.2.pos)

/-- A ramp that a write armed begins (R320, R321, R338). -/
def startRamp (s : State) (k : Key) : State :=
  let d := 16 * instOf k + parOf k / 0x100
  let c := s.chan d
  let n := s.samplesOf (s.n O0C.GAIN_RAMP)
  if parOf k % 0x100 = 0x10 then s.setChan d { c with mute := c.mute.toward (if s.b k then 0 else 0x100000) n }
  else
    let j := parOf k % 8
    let to_ (l : List (Nat × Ramp)) : List (Nat × Ramp) :=
      l.zipIdx.map fun e => if e.2 = j then (e.1.1, e.1.2.toward (signed 32 (s.n k)) n) else e.1
    s.setChan d { c with air := to_ c.air, want := c.want.map to_, next := c.next.map to_, queued := c.queued.map to_ }

/-- The samples of an audio clip's frame: channel `c` of sample `n` (R144). -/
def clipSample (s : State) (clip n c : Nat) : Int :=
  let i := 0x100 + clip
  let ch := s.n (O05.CLIP_FORMAT i)
  if ch ≤ c then 0
  else sampleOf (natBE (s.fmRead (s.n (O05.CLIP_BASE i) + (n * ceilDiv ch 32 + c / 32) * 128 + 4 * (c % 32)) 4))

/-- Change a clip player's own state. -/
def setPlayer (s : State) (i : Nat) (p : PlayerSt) : State := { s with amx := { s.amx with players := s.amx.players.put i p } }

/-- A player's sample period (R328). -/
def playerPeriod (s : State) (i : Nat) (p : PlayerSt) : State :=
  let clip := s.n (O0C.PLAYER_CLIP i)
  let tk := s.tick64
  let due (o : Option Nat) : Bool := match o with
    | some t => decide (t ≤ tk)
    | none => false
  let stopDue : Bool := due p.stop
  let startDue : Bool := due p.start
  if stopDue ∧ startDue then (s.setPlayer i { p with start := none, stop := none }).setN (O0C.PLAYER_STATE i) 0
  else
    let p := if startDue then { p with start := none, pos := 0, fade := .still 0x100000 }
      else if stopDue then { p with stop := none, fade := p.fade.toward 0 (s.samplesOf (s.n O0C.GAIN_RAMP)) } else p
    let t := if startDue then s.setN (O0C.PLAYER_STATE i) 2 else s
    if t.n (O0C.PLAYER_STATE i) ≠ 2 ∨ clip = 0xFFFF then t.setPlayer i { p with miss := false }
    else
      let base := t.ranges.clip + 64 * (i - 0x500)
      let n := t.clipSamples i
      let at_ := if t.b (O0C.PLAY_LOOP i) then p.pos % n else p.pos
      let hurt := t.fmem.badUnits.contains (0x100 + clip, at_ / 48)
      let gone := hurt || p.miss || t.clocks.hbmBypass
      let frame := if gone then p.good
        else (List.range 64).map fun c => if at_ < n then rawOf (t.clipSample clip at_ c) else 0
      let cover := t.coverStep p.cover gone
      let t := if hurt ∧ at_ % 48 = 0 ∧ ¬ t.clocks.hbmBypass then t.raise 0x0C9 i [] else t
      let t := t.forEach (List.range 64) fun t c =>
        t.putSrc (base + c) (round20 (round20 (sampleOf (frame.getD c 0) * cover.now) * p.fade.now))
      let f := p.fade.next
      let pos := if t.clocks.hbmBypass then p.pos else p.pos + 1
      let t := t.setPlayer i { p with pos := pos, fade := f, cover := cover, good := frame, miss := false }
      if f.left = 0 ∧ f.now = 0 then t.setN (O0C.PLAYER_STATE i) 0 else t

/-- The read of a clip player is missing in this period (R72). -/
def missPlayer (s : State) (i : Nat) : State :=
  match SMap.find? s.amx.players i with
  | none => s
  | some p => { s with amx := { s.amx with players := s.amx.players.put i { p with miss := true } } }

/-- The number by which the streams of a block's delay line, and of a player, are known (R326, R328; log entry 23). -/
def lineDest (b : Nat) : Nat := 0x3000 + b
def playerDest (i : Nat) : Nat := 0x3400 + (i - 0x500)

/-- Audio work of a stream is missing (R72): of a delay line its block's, of a player its own. -/
def missAudio (s : State) (dest : Nat) : State :=
  if dest < 0x3000 then s
  else if dest < 0x3400 then s.missBlock (dest - 0x3000)
  else if dest < 0x3480 then s.missPlayer (0x500 + (dest - 0x3400))
  else s

/-- A sample that an embedder sends: through its SRC at 96 kHz, where what the SRC gives is open beyond the figures of R286 (R332; log
entry 5). -/
def embedSample (s : State) (d : Nat) : Int × State :=
  let r := if s.rate96 then s.draw else (SMap.getD s.amx.out d 0, s)
  (round20 (sampleOf r.1 * s.amx.embed.now), r.2)

/-- Outputs whose embedder runs. -/
def embedders (s : State) : List Nat :=
  (s.objs.filter fun e => clsOf e.1 == 0x0C && decide (0xD00 ≤ instOf e.1) && parOf e.1 == 0x010 && e.2.toNat == 1).map fun e => instOf e.1 - 0xD00

/-- The groups that an output embeds (R332). -/
def embedGroups (s : State) (o : Nat) : Nat :=
  s.n (O0C.EMBED_GROUPS (0xD00 + o)) % (if s.rate96 ∨ fmtClass (s.n (O07.OUT_FORMAT o)) = 2 then 16 else 256)

/-- Embedders take one sample of 48 kHz of each channel of the groups that they send (R332). -/
def embedPeriod (s : State) : State :=
  let t := { s with amx := { s.amx with embed := s.amx.embed.next } }
  if t.rate96 ∧ t.tick64 % 4 ≠ 0 then t
  else t.forEach t.embedders fun t o =>
    let g := t.embedGroups o
    let r := ((List.range 32).filter fun k => bit g (k / 4)).foldl (fun (a : List Nat × State) k =>
      let x := a.2.embedSample (t.ranges.sdi + t.ranges.e * o + k)
      (a.1 ++ [rawOf x.1], x.2)) ([], t)
    r.2.emit (.media 0x26 o (g :: r.1))

/-- Meters of a window of 192 ticks (R339). -/
def meters (s : State) : State :=
  let t := s.forEach s.amx.destPeak fun t e => t.setZ 16 (O0C.DEST_PEAK (e.1 / 16) (e.1 % 16)) (meter e.2)
  let t := t.forEach s.amx.srcPeak fun t e => t.setZ 16 (O0C.SOURCE_PEAK (0x800 + e.1 / 16) (e.1 % 16)) (meter e.2)
  { t with amx := { t.amx with destPeak := [], srcPeak := [] } }

/-- A matrix sample period begins (R315, R320, R328). -/
def matrixPeriod (s : State) : State :=
  let s := s.fadeBlocks
  let t : State := { s with amx := { s.amx with cur := s.amx.src, armed := [] } }
  let t := t.forEach s.amx.armed startRamp
  t.forEach s.amx.players fun t e => t.playerPeriod e.1 e.2

/-- SOURCE_STATE of a source channel (R314). -/
def sourceState (s : State) (ch : Nat) : Nat :=
  let r := s.ranges
  let port (cls i : Nat) : Nat :=
    let st := if cls = 0x0A then s.n (O0A.IN_STATE i) else s.n (O0B.IN_STATE i)
    let ps := if cls = 0x0A then s.n (O0A.PORT_STATE i) else s.n (O0B.PORT_STATE i)
    if st ≠ 3 then 0 else if ps = 0 ∨ ps = 4 then 1 else 2
  if ch < r.sdi then port 0x0A (ch / 2)
  else if ch < r.clip then
    match s.n (O0C.DEEMB_STATE (0xC00 + (ch - r.sdi) / r.e)) with
    | 1 => if bit (s.n (O0C.DEEMB_GROUPS (0xC00 + (ch - r.sdi) / r.e))) ((ch - r.sdi) % r.e / 4) then 1 else 0
    | 2 => 2
    | _ => 0
  else if ch < r.tone then (if s.n (O0C.PLAYER_STATE (0x500 + (ch - r.clip) / 64)) = 2 then 1 else 0)
  else if ch < r.madi then (if s.n (O0C.TONE_MODE (0x400 + (ch - r.tone))) = 0 then 0 else 1)
  else if ch < r.ip then port 0x0B ((ch - r.madi) / 64)
  else if s.objs.any fun e => clsOf e.1 == 0x0E && parOf e.1 == 0x020 && decide (2 ≤ e.2.toNat) &&
      (let i := instOf e.1
       decide (s.n (O0E.CHANNEL_BASE i) ≤ ch ∧ ch < s.n (O0E.CHANNEL_BASE i) + s.n (O0E.CHANNEL_COUNT i))) then 1 else 0

/-- The limits of R301 on a tick. -/
def tickLimits (s : State) (t : Nat) : Bool := decide (s.tick64 + 2 ≤ t ∧ t ≤ s.tick64 + 11520000)

/-- A player's own state. -/
def player (s : State) (i : Nat) : PlayerSt := s.amx.players.getD i ⟨none, none, 0, .still 0x100000, .still 0x100000, [], false⟩

/-- PLAY_START (R328). -/
def actPlayStart (s : State) (i tick : Nat) : State × Nat :=
  if ¬ s.tickLimits tick then (s, RANGE)
  else if s.n (O0C.PLAYER_CLIP i) = 0xFFFF then (s, CONFLICT)
  else
    let t := { s with amx := { s.amx with players := s.amx.players.put i { s.player i with start := some tick } } }
    (if t.n (O0C.PLAYER_STATE i) = 2 then t else t.setN (O0C.PLAYER_STATE i) 1, OK)

/-- PLAY_STOP (R328). -/
def actPlayStop (s : State) (i tick : Nat) : State × Nat :=
  if tick ≠ 0 ∧ ¬ s.tickLimits tick then (s, RANGE)
  else ({ s with amx := { s.amx with players := s.amx.players.put i { s.player i with stop := some (if tick = 0 then s.tick64 else tick) } } }, OK)

/-- A write of MATRIX_RATE: journaled for the next start; 0x0CC once (R311). -/
def writeMatrixRate (s : State) (v : Nat) : State :=
  let was := s.n O0C.MATRIX_RATE
  let t := (s.setN O0C.MATRIX_RATE v).journal O0C.MATRIX_RATE (.num v)
  if v ≠ s.n O0C.RATE_ACTIVE ∧ was = s.n O0C.RATE_ACTIVE then t.raise 0x0CC 0x600 [] else t

/-- Cross-object ranges of class 0C at a rate (R319, R326, R327). -/
def matrixRange (t : State) (k : Key) : Bool :=
  let i := instOf k
  let p := parOf k
  if i < 0x400 ∧ p = 0x080 then decide (t.n k ≤ 2 * t.matrixHz)
  else if i < 0x400 ∧ p % 0x100 < 8 then decide (t.n k < t.ranges.top ∨ t.n k = 0xFFFF)
  else if 0x400 ≤ i ∧ i < 0x500 ∧ p = 1 then decide (t.n k ≤ (if t.rate96 then 40000000 else 20000000))
  else true

/-- PLAYER_CLIP names an audio clip that can be read (R328). -/
def matrixConflict (t : State) (k : Key) : Bool :=
  let i := instOf k
  if 0x500 ≤ i ∧ i < 0x600 ∧ parOf k = 0 ∧ t.n k ≠ 0xFFFF then
    !(t.clipUsable (0x100 + t.n k)) || t.n (O05.CLIP_KIND (0x100 + t.n k)) != 1
  else false

/-- What an applied transaction changes in class 0C (R316, R322). -/
def matrixApplied (s : State) (k : Key) : State :=
  if instOf k < 0x400 ∧ parOf k % 0x100 < 8 then s.wantSet (16 * instOf k + parOf k / 0x100)
  else if 0x500 ≤ instOf k ∧ instOf k < 0x600 ∧ parOf k = 0 then
    ({ s with amx := { s.amx with players := s.amx.players.del (instOf k) } }.setN (O0C.PLAYER_STATE (instOf k)) 0).setN
      (O0C.PLAY_POSITION (instOf k)) 0
  else if 0xC00 ≤ instOf k ∧ instOf k < 0xD00 ∧ parOf k = 0 ∧ s.n k = 1 ∧ s.n (O06.IN_STATE (instOf k - 0xC00)) = 4 then
    s.setB (O0C.DEEMB_SRC_ACTIVE (instOf k)) true
  else s

/-- The groups that an input de-embeds, and an SDI receiver of the same rates (R329, R374). -/
def deembGroups (s : State) (g : Nat) : Nat :=
  if 0x1000 ≤ g then
    let rx := g - 0x1000
    let r := fmtClass (s.n (O0E.RX_FORMAT rx))
    if ¬ s.present 0x0E rx ∨ s.n (O0E.ESSENCE rx) ≠ 4 ∨ s.n (O0E.RX_STATE rx) < 2 ∨ r < 2 then 0 else if r = 2 ∨ s.rate96 then 4 else 8
  else
    let r := s.n (O06.IN_RATE g)
    if s.n (O06.IN_STATE g) ≠ 4 ∨ r < 2 then 0 else if r = 2 ∨ s.rate96 then 4 else 8

/-- The first source channel of a de-embedder (R313, R374). -/
def deembBase (s : State) (g : Nat) : Nat := if 0x1000 ≤ g then s.n (O0E.CHANNEL_BASE (g - 0x1000)) else s.ranges.sdi + s.ranges.e * g

/-- A channel of a de-embedder takes a sample, under the fade (R329, R331). -/
def deembPut (s : State) (g k : Nat) (z : Int) : State :=
  let x := s.deemb g
  (s.setDeemb g { x with last := (x.last ++ List.replicate (k + 1 - x.last.length) 0).set k (rawOf z) }).putSrc
    (s.deembBase g + k) (round20 (z * x.fade.now))

/-- The fades of the de-embedders advance; channels that fade out hold their last samples (R331). -/
def deembPeriod (s : State) : State :=
  s.forEach s.amx.deembs fun t e =>
    let x := { e.2 with fade := e.2.fade.next }
    let t := t.setDeemb e.1 x
    if e.2.fade.left = 0 ∨ e.2.fade.target ≠ 0 then t
    else t.forEach (List.range t.ranges.e) fun t k =>
      t.putSrc (t.deembBase e.1 + k) (round20 (sampleOf (x.last.getD k 0) * x.fade.now))

/-- The AUDIO cell of a block, for the 32-channel group that holds it (R144, R317): its sink ignores the other 16 positions, and what they
carry is open (log entry 5). -/
def audioCell (s : State) (b : Nat) : List Byte × State :=
  let own := (List.range 16).flatMap fun c => d32 (SMap.getD s.amx.out (16 * b + c) 0)
  let r := s.drawBytes 64
  (if b % 2 = 0 then own ++ r.1 else r.1 ++ own, r.2)

end State

/-- A chain entry that runs one block of the pass (R53, R316 to R318). -/
def execAmx (link word : Nat) (s : State) : Host.Outcome State Fault Refusal :=
  live s fun s =>
    if s.inChain link word ∧ entOp word = 5 then
      let b := field (entArg word) 9 0
      if field (entArg word) 11 10 ≠ s.tick64 % s.period then s.runEntry link word 0 []
      else if s.sinkOf b = 2 then (s.runBlock b).runEntry link word 0 []
      else
        let r := (s.runBlock b).audioCell b
        r.2.runEntry link word (entCells word) [r.1]
    else s

/-- A switch is requested at its switch sample, for the sample period that begins next (R230, R238, R322, R324). -/
def execAudioSwitchRequest (chan : Nat) (s : State) : Host.Outcome State Fault Refusal :=
  onInst 0x0C (chan / 16) s fun s =>
    let c := s.chan chan
    match c.want with
    | none => s
    | some new =>
      if !(c.due.any fun t => decide (t ≤ s.now + 1)) then s
      else
      let c := { c with want := none, due := none }
      match s.n (O0C.SWITCH_STATE (chan / 16) (chan % 16)) with
      | 0 => if c.air.map (·.1) = new.map (·.1) then s.setChan chan { c with air := new } else s.beginSwitch chan c new
      | 1 => (s.turnPast chan false).setChan chan { c with next := some new }
      | _ => s.setChan chan { c with queued := some new }

/-- The zero-crossing condition holds (R323, R324). -/
def execZeroCrossing (chan : Nat) (s : State) : Host.Outcome State Fault Refusal :=
  onInst 0x0C (chan / 16) s fun s =>
    let c := s.chan chan
    match c.next with
    | some new =>
      if s.n (O0C.SWITCH_STATE (chan / 16) (chan % 16)) = 1 ∧ s.zcHolds chan then
        let p := s.past chan
        (s.cutTo chan c new).resend chan (clamp32 (round20 (p.new.headD 0 * p.mute)))
      else s
    | none => s

/-- ZC_TIMEOUT expires in WAITING (R324). -/
def execZcTimeout (chan : Nat) (s : State) : Host.Outcome State Fault Refusal :=
  onInst 0x0C (chan / 16) s fun s =>
    let b := chan / 16
    let c := chan % 16
    if s.n (O0C.SWITCH_STATE b c) = 1 ∧ s.samplesOf (s.n O0C.ZC_TIMEOUT) ≤ (s.chan chan).timer then
      let t := (s.setChan chan { s.chan chan with timer := 0 }).setN (O0C.SWITCH_STATE b c) 2
      ((t.bump (O0C.ZC_TIMEOUTS b c) 1).flag (O0C.DEST_FLAGS b c) 4).raiseLim 0x0C0 chan [] 192000
    else s

/-- A crossfade is complete (R324, R325). -/
def execCrossfadeComplete (chan : Nat) (s : State) : Host.Outcome State Fault Refusal :=
  onInst 0x0C (chan / 16) s fun s =>
    let c := s.chan chan
    if s.n (O0C.SWITCH_STATE (chan / 16) (chan % 16)) ≠ 2 ∨ c.timer < s.samplesOf (s.n O0C.XFADE_LEN) then s else
    match c.next, c.queued with
    | some new, some q =>
      let t := s.cutTo chan { c with queued := none } new
      t.beginSwitch chan (t.chan chan) q
    | some new, none => s.cutTo chan c new
    | none, _ => s

/-- A gain write (R320). -/
def execTermGain (chan slot raw : Nat) (s : State) : Host.Outcome State Fault Refusal :=
  onInst 0x0C (chan / 16) s fun s =>
    let k := O0C.TERM_GAIN (chan / 16) (chan % 16) slot
    if s.accepts ∧ chan / 16 < 0x400 ∧ slot < 8 ∧ (raw < 0x800000 ∨ (0xFF800000 ≤ raw ∧ raw < 0x100000000)) then s.writeGain k raw else s

/-- A mute write (R321). -/
def execMute (chan : Nat) (value : Bool) (s : State) : Host.Outcome State Fault Refusal :=
  onInst 0x0C (chan / 16) s fun s =>
    if s.accepts ∧ chan / 16 < 0x400 then s.writeGain (O0C.MUTE (chan / 16) (chan % 16)) value.toNat else s

/-- A write of the matrix rate (R311). -/
def execMatrixRate (rate : Nat) (s : State) : Host.Outcome State Fault Refusal :=
  live s fun s => if s.accepts ∧ rate < 2 then s.writeMatrixRate rate else s

/-- The PLAY_START action (R328). -/
def execPlayStart (player tick : Nat) (s : State) : Host.Outcome State Fault Refusal :=
  onInst 0x0C player s fun s => if s.served ∧ 0x500 ≤ player ∧ player < 0x600 then (s.actPlayStart player tick).1 else s

/-- The PLAY_STOP action (R328). -/
def execPlayStop (player tick : Nat) (s : State) : Host.Outcome State Fault Refusal :=
  onInst 0x0C player s fun s => if s.served ∧ 0x500 ≤ player ∧ player < 0x600 then (s.actPlayStop player tick).1 else s

/-- A player reaches its clip's end (R328). -/
def execClipEnd (player : Nat) (s : State) : Host.Outcome State Fault Refusal :=
  onInst 0x0C player s fun s =>
    let p := s.player player
    if 0x500 ≤ player ∧ player < 0x600 ∧ s.n (O0C.PLAYER_STATE player) = 2 ∧ s.clipSamples player ≤ p.pos then
      if s.b (O0C.PLAY_LOOP player) then
        { s with amx := { s.amx with players := s.amx.players.put player { p with pos := p.pos % s.clipSamples player } } }
      else
        let base := s.ranges.clip + 64 * (player - 0x500)
        (s.forEach (List.range 64) fun t c => t.putSrc (base + c) 0).setN (O0C.PLAYER_STATE player) 3
    else s

namespace State

/-- A group of embedded audio appears or disappears: an SDI input's objects say so (R329). -/
def deembGroup (s : State) (input group : Nat) (on : Bool) : State :=
  let i := 0xC00 + input
  if 0x1000 ≤ input then s
  else
    let t := if on then s.flag (O0C.DEEMB_GROUPS i) (2 ^ group) else s.unflag (O0C.DEEMB_GROUPS i) (2 ^ group)
    (t.flag (O0C.DEEMB_FLAGS i) 1).raise 0x0C4 i []

/-- A control packet says whether its group is synchronous at 48 kHz (R329). -/
def deembControl (s : State) (input group : Nat) (good : Bool) : State :=
  let x := s.deemb input
  let i := 0xC00 + input
  let t := s.setDeemb input { x with badRate := if good then clearBits x.badRate (2 ^ group) else setBits x.badRate (2 ^ group) }
  if good ∨ bit x.badRate group ∨ 0x1000 ≤ input then t else (t.flag (O0C.DEEMB_FLAGS i) 8).raise 0x0C3 i []

/-- A data packet: its ECC is counted, and its four samples reach their channels (R329, R330, R374). The converter of a receiver's de-embedder is
always in its path (log entry 41). -/
def deembData (s : State) (input group ecc : Nat) (samples : List Nat) : State :=
  let i := 0xC00 + input
  let own := decide (input < 0x1000)
  let t := if ecc = 1 ∧ own then (s.bump (O0C.ECC_CORRECTED i) 1).flag (O0C.DEEMB_FLAGS i) 2
    else if ecc = 2 ∧ own then ((s.bump (O0C.ECC_FAILED i) 1).flag (O0C.DEEMB_FLAGS i) 4).raiseLim 0x0C2 i [] 192000 else s
  t.forEach (List.range 4) fun t k =>
    let c := 4 * group + k
    if bit (s.deemb input).badRate group then t.putSrc (s.deembBase input + c) 0
    else if ecc = 2 then t.deembPut input c (sampleOf ((t.deemb input).last.getD c 0))
    else if ¬ own ∨ t.b (O0C.DEEMB_SRC_ACTIVE i) then
      let r := t.draw
      r.2.deembPut input c (sampleOf r.1)
    else t.deembPut input c (sampleOf (samples.getD k 0))

end State

/-- An embedded audio packet of an SDI input or of an SDI receiver (R329, R330, R374). -/
def execDeembedPacket (input group kind ecc : Nat) (good : Bool) (samples : List Nat) (s : State) : Host.Outcome State Fault Refusal :=
  live s fun s =>
    if s.deembGroups input ≤ group ∨ (input < 0x1000 ∧ ¬ s.present 0x0C (0xC00 + input)) then s else
    let own := decide (input < 0x1000)
    let had := !own || bit (s.n (O0C.DEEMB_GROUPS (0xC00 + input))) group
    if kind = 2 then
      if had then (s.deembGroup input group false).forEach (List.range 4) fun t k => t.putSrc (s.deembBase input + 4 * group + k) 0 else s
    else
      let t := if had then s else s.deembGroup input group true
      if kind = 1 then t.deembControl input group good else t.deembData input group ecc samples

/-- A de-embedder fades out on input loss, or ramps in after relock, once the ratio of its SRC is settled (R286, R330, R331). -/
def execDeembedFade (input : Nat) (out : Bool) (s : State) : Host.Outcome State Fault Refusal :=
  onInst 0x0C (0xC00 + input) s fun s =>
    let i := 0xC00 + input
    let x := s.deemb input
    let hz := s.matrixHz
    if out ∧ s.n (O06.IN_STATE input) ≠ 4 then
      ((s.setDeemb input { x with fade := x.fade.toward 0 (hz / 1000) }).setN (O0C.DEEMB_STATE i) 2).flag (O0C.DEEMB_FLAGS i) 16
    else if ¬ out ∧ s.n (O06.IN_STATE input) = 4 ∧ 2 ≤ s.n (O06.IN_RATE input) ∧
        (¬ s.b (O0C.DEEMB_SRC_ACTIVE i) ∨ x.since + 96000 ≤ s.now) then
      (s.setDeemb input { x with fade := x.fade.toward 0x100000 (hz / 200) }).setN (O0C.DEEMB_STATE i) 1
    else s

end Sys2Proof.Machine
end

