-- ==== Sys2Proof/Machine/AudioPorts.lean ====
section
/-! DEFINITION. Audio ports, port groups and follow clocks, and the commands of classes 0A and 0B (R284 to R310), and REALIGN (R103). -/

namespace Sys2Proof.Machine

/-- An input port by its code (R306). -/
def portIn (code : Nat) : Bool := code / 0x1000 % 2 == 0

/-- The number of channels of a port's kind (R284, R294). -/
def portWidth (code : Nat) : Nat := if code < 0x2000 then 2 else 64

/-- The event of a port: class 0A or class 0B (R310). -/
def portEvent (code a b : Nat) : Nat := if code < 0x2000 then a else b

/-- A port's own state before anything has happened to it. -/
def PortSt.fresh : PortSt :=
  ⟨[], [], [], 0, false, 0x100000, [], 0, false, false, false, 0, false, false, 0x100000, 0, false, 0, false, 0, 0, none, [], []⟩

/-- The codes of a list of port codes in a BLOB (R306). -/
def portCodes : List Byte → List Nat
  | a :: b :: l => natBE [a, b] :: portCodes l
  | _ => []

/-- A port is faulty in its sampling position: the gain of a sample (R299). -/
def gained (z : Int) (g : Nat) : Int := round20 (z * g)

/-- The numerator and divisor of `kp × e` in 0.01 ppm, with `e` in 1/256 sample (R297). -/
def followKp (err : Int) (bw hz : Nat) : Int :=
  Int.fdiv (err * bw * 6283185307 * 1414 * 100000000) (256 * 1000 * 1000000000 * 1000 * hz : Nat)

/-- `ki × i` in 0.01 ppm, with the integral as the sum of `e` in 1/256 sample (R297). -/
def followKi (integral : Int) (bw hz : Nat) : Int :=
  Int.fdiv (integral * bw * bw * 6283185307 * 6283185307 * 100000000) (256 * 1000 * 1000000 * 1000000000000000000 * hz : Nat)

/-- The integral that gives a held offset (R298). -/
def followFrom (y : Int) (bw hz : Nat) : Int :=
  Int.fdiv (y * (256 * 1000 * 1000000 * 1000000000000000000 * hz : Nat)) (bw * bw * 6283185307 * 6283185307 * 100000000 : Nat)

/-- Sampling-frequency bits of channel-status byte 0 and of byte 4 (R292). PRESUMED: the codes are those of AES3 (log entry 21). -/
def csRate : Nat → Nat × Nat
  | 0 => (0xC0, 0) | 1 => (0x40, 0) | 2 => (0x80, 0) | 3 => (0, 0x50) | 4 => (0, 0x10) | 5 => (0, 0x58) | 6 => (0, 0x18) | _ => (0, 0)

/-- A sample rounded to the word of an output, as 24 bits (R291). -/
def outWord (bits20 : Bool) (x : Int) : Nat :=
  let q := if bits20 then 4096 else 256
  let top : Int := 0x80000000 / q - 1
  let r := Int.fdiv (x + q / 2) q
  unsigned 24 ((if top < r then top else if r < -top - 1 then -top - 1 else r) * (q / 256))

/-- A channel-status block that the device fills in (R292): a template with the rate, the word length, the sample address and the time of day, and its
CRCC. -/
def csBytes (t : List Byte) (rateCode : Nat) (bits20 : Bool) (address tod : Nat) : List Byte :=
  let at_ (i : Nat) : Nat := (t.getD i 0).toNat
  let rate := csRate rateCode
  let t := splice t 0 [BitVec.ofNat 8 (setBits (clearBits (at_ 0) 0xC0) rate.1)]
  let t := splice t 2 [BitVec.ofNat 8 (setBits (clearBits (at_ 2) 0x38) (if bits20 then 0x08 else 0x28))]
  let t := splice t 4 [BitVec.ofNat 8 (setBits (clearBits (at_ 4) 0xF8) rate.2)]
  let l := splice t 14 (bytesLE 4 (address % 2 ^ 32) ++ bytesLE 4 (tod % 2 ^ 32))
  l.take 23 ++ [BitVec.ofNat 8 (csCrcc (l.take 23))]

/-- Whether the bits of a word have odd parity. -/
def oddBits (w : Nat) : Bool := (List.range 32).foldl (fun a i => a != bit w i) false

namespace State

/-- A port code names a port that the member has (R305, R306). -/
def portHere (s : State) (code : Nat) : Bool :=
  decide (code < 0x4000 ∧ code % 0x1000 < 0x100) && s.present (if code < 0x2000 then 0x0A else 0x0B) ((if portIn code then 0 else 0x100) + code % 0x1000)

/-- A port's own state. -/
def port (s : State) (c : Nat) : PortSt := s.audio.ports.getD c PortSt.fresh

/-- Change a port's own state. -/
def setPort (s : State) (c : Nat) (x : PortSt) : State := { s with audio := { s.audio with ports := s.audio.ports.put c x } }

/-- PORT_STATE, its index and its counters, by direction. -/
def stateKey (c : Nat) : Key := portKey c (if portIn c then O0A.PORT_STATE 0 else O0A.PORT_STATE_OUT 0)
def indexKey (c : Nat) : Key := portKey c (if portIn c then O0A.PORT_INDEX 0 else O0A.PORT_INDEX_OUT 0)
def flagsKey (c : Nat) : Key := portKey c (if portIn c then O0A.IN_FLAGS 0 else O0A.OUT_FLAGS 0)

/-- The group that holds a port (R300). -/
def groupOf (s : State) (c : Nat) : Option Nat :=
  (List.range 16).find? fun g => (portCodes (s.bs (O0A.GROUP_MEMBERS (0x200 + g)))).contains c

/-- A group's own state. -/
def grp (s : State) (g : Nat) : GroupSt := s.audio.groups.getD g ⟨none, none, 0, false, [], 0, none⟩

/-- Change a group's own state. -/
def setGrp (s : State) (g : Nat) (x : GroupSt) : State := { s with audio := { s.audio with groups := s.audio.groups.put g x } }

/-- The group of a port is RUNNING, or it has none. -/
def groupRuns (s : State) (c : Nat) : Bool :=
  match s.groupOf c with
  | some g => s.n (O0A.GROUP_STATE (0x200 + g)) == 2
  | none => true

/-- The ACS that follows an input (R297). -/
def followerOf (s : State) (c : Nat) : Option Nat :=
  (List.range 8).find? fun a => s.b (O0A.FOLLOW_ENABLE (0x300 + a)) && s.n (O0A.FOLLOW_INPUT (0x300 + a)) == c

/-- The rate of a port's own clock, in Hz (R285). -/
def portHz (s : State) (c : Nat) : Nat :=
  if portIn c then acsHz (s.n (portKey c (O0A.IN_RATE 0))) else acsHz (s.n (O03.ACS_RATE (0x30 + s.n (portKey c (O0A.OUT_ACS 0)))))

/-- How far a port's clock is off its nominal rate, in 0.01 ppm: the follow loop of its ACS, else the measured rate of an input (R285, R295,
R297). -/
def portDrift (s : State) (c : Nat) : Int :=
  if portIn c then
    match s.followerOf c with
    | some a => s.followNow a
    | none => (s.port c).offset
  else s.followNow (s.n (portKey c (O0A.OUT_ACS 0)))

/-- The SRC is in a port's path (R285). -/
def portSrc (s : State) (c : Nat) : Bool :=
  if portIn c then s.b (portKey c (O0A.SRC_ACTIVE 0))
  else
    let a := s.n (portKey c (O0A.OUT_ACS 0))
    s.n (O0A.FOLLOW_STATE (0x300 + a)) != 0 || s.portHz c != s.matrixHz

/-- A port whose clock runs and which is in use: an input in LOCKED, or an enabled output on a locked ACS (R299). -/
def portUp (s : State) (c : Nat) : Bool :=
  if portIn c then s.n (portKey c (O0A.IN_STATE 0)) == 3
  else s.b (portKey c (O0A.OUT_ENABLE 0)) && s.n (O03.ACS_STATE (0x30 + s.n (portKey c (O0A.OUT_ACS 0)))) == 0

/-- The channels that a port carries (R284, R294). -/
def portChannels (s : State) (c : Nat) : Nat :=
  if c < 0x2000 then 2 else if portIn c then s.n (portKey c (O0B.IN_CHANNELS 0)) else s.n (portKey c (O0B.OUT_CHANNELS 0))

/-- The first matrix channel of a port (R312, R313). -/
def portBase (s : State) (c : Nat) : Nat := if c < 0x2000 then 2 * (c % 0x1000) else s.ranges.madi + 64 * (c % 0x1000)

/-- The FIFO is preset to 64 frames: what they hold, the spec does not say (R287, R295; log entry 5). -/
def presetFifo (s : State) (c : Nat) : State :=
  let r := s.draw
  let w := portWidth c
  r.2.setPort c { r.2.port c with fifo := (List.range 64).map fun f => (List.range w).map fun k => r.1 / 2 ^ (32 * (f * w + k)) % 2 ^ 32 }

/-- The samples of a port's clock that a fade from or to full gain takes (R299, R304). -/
def fadeLen (s : State) (c : Nat) : Nat :=
  let out := s.n (stateKey c) == 1
  let us := if (s.port c).hold then 1000
    else if portIn c then s.n (portKey c (if out then O0A.FADE_OUT 0 else O0A.FADE_IN 0))
    else s.n (portKey c (if out then O0A.FADE_OUT_OUT 0 else O0A.FADE_IN_OUT 0))
  max 1 (us * s.portHz c / 1000000)

/-- A port enters FADING-OUT from its present gain (R299): a member's entry while its group runs is counted, but for the fade of a stop
(R301, R304). `full`: an overrun; `reads`: the samples that are read fade. -/
def fadeOut (s : State) (c : Nat) (full reads : Bool) : State :=
  let p := s.port c
  let t := (s.setPort c { p with overrun := full, reads := reads, base := p.gain, ramp := 0 }).setN (stateKey c) 1
  match s.groupOf c with
  | some g => if s.n (O0A.GROUP_STATE (0x200 + g)) = 2 ∧ ¬ (s.grp g).stopping then t.bump (O0A.GROUP_FAULTS (0x200 + g)) 1 else t
  | none => t

/-- An underrun (R299); `fault` an input that left LOCKED or a port disabled acts as one. -/
def underrun (s : State) (c : Nat) : State :=
  let t := (s.fadeOut c false false).bump (portKey c (if portIn c then O0A.UNDERRUNS 0 else O0A.UNDERRUNS_OUT 0)) 1
  (t.flag (flagsKey c) (if portIn c then 64 else 4)).raise (portEvent c 0x0A8 0x0B5) c []

/-- An overrun (R299). -/
def overrun (s : State) (c : Nat) : State :=
  let t := (s.fadeOut c true true).bump (portKey c (if portIn c then O0A.OVERRUNS 0 else O0A.OVERRUNS_OUT 0)) 1
  (t.flag (flagsKey c) (if portIn c then 32 else 2)).raise (portEvent c 0x0A9 0x0B6) c []

/-- PORT_STATE is RUNNING, WAITING or FADING-IN: a fault fades the port out (R299). -/
def canFault (s : State) (c : Nat) : Bool := s.n (stateKey c) != 1 && s.n (stateKey c) != 2

/-- The loop state of an ACS. -/
def loop (s : State) (a : Nat) : FollowSt := s.audio.follow.getD a ⟨0, 0, none, none, none, [], 0⟩

/-- Change the loop state of an ACS. -/
def setLoop (s : State) (a : Nat) (x : FollowSt) : State := { s with audio := { s.audio with follow := s.audio.follow.put a x } }

/-- The followed input has left LOCKED, or locked at another rate (R298). -/
def followLost (s : State) (c : Nat) : State :=
  match s.followerOf c with
  | none => s
  | some a =>
    let st := s.n (O0A.FOLLOW_STATE (0x300 + a))
    if 2 ≤ st ∧ st ≤ 4 then
      let x := s.loop a
      let y := if x.history = [] then x.y else Int.fdiv (x.history.foldl (· + ·) 0) x.history.length
      (((s.setLoop a { x with y := y }).setZ 32 (O0A.FOLLOW_OFFSET (0x300 + a)) y).setN (O0A.FOLLOW_STATE (0x300 + a)) 5).raise
        0xE16 (0x300 + a) []
    else s

/-- An input is LOCKED: the ACS that follows it captures or resumes (R298). -/
def followGot (s : State) (c : Nat) : State :=
  match s.followerOf c with
  | none => s
  | some a =>
    let i := 0x300 + a
    let st := s.n (O0A.FOLLOW_STATE i)
    let hz := acsHz (s.n (O03.ACS_RATE (0x30 + a)))
    if s.n (portKey c (O0A.IN_STATE 0)) ≠ 3 ∨ s.portHz c ≠ hz then s
    else if st = 1 then
      let t := (s.setLoop a ⟨0, (s.port c).offset, none, none, none, [], s.now⟩).setZ 32 (O0A.FOLLOW_OFFSET i) (s.port c).offset
      (((t.presetFifo c).setN (O0A.FOLLOW_STATE i) 2).setN (O03.ACS_STATE (0x30 + a)) 0).acsRun a
    else if st = 5 then
      let x := s.loop a
      (s.setLoop a { x with integral := followFrom x.y (s.n (O0A.FOLLOW_BW i)) hz, quiet := none, limit := none, within := none }).setN
        (O0A.FOLLOW_STATE i) 2
    else s

/-- An input leaves LOCKED (R295, R298, R299). -/
def inputFault (s : State) (c : Nat) : State := (if s.canFault c then s.underrun c else s).followLost c

/-- FOLLOW_ENABLE of an ACS takes effect (R298); after OFF its offset falls to nothing at 100 ppm/s. -/
def followApplied (s : State) (a : Nat) : State :=
  let i := 0x300 + a
  if s.b (O0A.FOLLOW_ENABLE i) then
    let t := if s.n (O0A.FOLLOW_STATE i) = 0 then
        (((s.setLoop a ⟨0, 0, none, none, none, [], s.now⟩).setN (O0A.FOLLOW_STATE i) 1).setN (O03.ACS_STATE (0x30 + a)) 1).acsStatic a
      else s
    let c := t.n (O0A.FOLLOW_INPUT i)
    (t.setB (portKey c (O0A.SRC_ACTIVE 0)) true).followGot c
  else if s.n (O0A.FOLLOW_STATE i) = 0 then s
  else ((s.setLoop a { s.loop a with at_ := s.now }).setN (O0A.FOLLOW_STATE i) 0).retarget

/-- IN_ENABLE takes effect (R295): an AES11 candidate of an input that is disabled stops (R296). -/
def inputApplied (s : State) (c : Nat) : State :=
  let st := s.n (portKey c (O0A.IN_STATE 0))
  if s.b (portKey c (O0A.IN_ENABLE 0)) then
    if st = 0 then (s.setPort c { s.port c with fifo := [], half := [], second := false, since := s.now }).setN (portKey c (O0A.IN_STATE 0)) 1 else s
  else if st = 0 then s
  else
    let t := s.setN (portKey c (O0A.IN_STATE 0)) 0
    let t := if st = 3 then t.inputFault c else t
    t.forEach (List.range 16) fun t k => if t.candType k = 7 ∧ t.n (O02.SOURCE_INDEX k) = c then t.candFault k 1 1 0x023 else t

/-- OUT_ENABLE or OUT_ACS takes effect (R293, R306). -/
def outputApplied (s : State) (c : Nat) : State :=
  let st := s.n (portKey c (O0A.OUT_STATE 0))
  if s.b (portKey c (O0A.OUT_ENABLE 0)) then
    let t := if st = 0 then s.presetFifo c else s
    t.setN (portKey c (O0A.OUT_STATE 0)) (if t.portUp c then 2 else 1)
  else if st = 0 then s
  else
    let t := s.setN (portKey c (O0A.OUT_STATE 0)) 0
    if t.canFault c then t.underrun c else t

/-- GROUP_MEMBERS takes effect: a member added while the group runs joins through WAITING (R301). -/
def membersApplied (s : State) (g : Nat) : State :=
  let x := s.grp g
  let l := portCodes (s.bs (O0A.GROUP_MEMBERS (0x200 + g)))
  let t := s.setGrp g { x with members := l }
  if s.n (O0A.GROUP_STATE (0x200 + g)) = 2 then
    t.forEach (l.filter fun c => !x.members.contains c) fun t c => t.setN (stateKey c) 3
  else t

/-- What an applied transaction changes in classes 0A and 0B. -/
def audioApplied (s : State) (k : Key) : State :=
  let i := instOf k
  let kind := if clsOf k = 0x0B then 0x2000 else 0
  if i < 0x100 then if parOf k = 0 then s.inputApplied (kind + i) else s
  else if i < 0x200 then if parOf k ≤ 1 then s.outputApplied (kind + 0x1000 + (i - 0x100)) else s
  else if i < 0x300 then if parOf k = 0 then s.membersApplied (i - 0x200) else s
  else if parOf k ≤ 1 then s.followApplied (i - 0x300) else s

/-- The value checks of classes 0A and 0B beyond a row's range: CS_TEMPLATE and port codes (R292, R306). -/
def audioItemOk (s : State) (k : Key) (v : Val) : Bool :=
  let i := instOf k
  if clsOf k = 0x0A ∨ clsOf k = 0x0B then
    if 0x100 ≤ i ∧ i < 0x200 ∧ parOf k = 4 then bit ((v.bytes.headD 0).toNat) 0
    else if 0x200 ≤ i ∧ i < 0x300 ∧ parOf k = 0 then (portCodes v.bytes).all s.portHere
    else if 0x300 ≤ i ∧ parOf k = 1 then s.portHere v.toNat && portIn v.toNat
    else true
  else true

/-- The rules of a group on the values left in force (R300). -/
def groupOk (t : State) (g : Nat) : Bool :=
  let l := portCodes (t.bs (O0A.GROUP_MEMBERS (0x200 + g)))
  let a := t.n (O0A.GROUP_ACS (0x200 + g))
  let matrix := if t.rate96 then 96000 else 48000
  l.Nodup &&
  (l.all fun c => if portIn c then t.n (portKey c (O0A.SRC_MODE 0)) == 2 && acsHz (t.n (O03.ACS_RATE (0x30 + a))) == matrix
    else t.n (portKey c (O0A.OUT_ACS 0)) == a) &&
  ((List.range 16).all fun h => h == g || l.all fun c => !(portCodes (t.bs (O0A.GROUP_MEMBERS (0x200 + h)))).contains c)

/-- The conflicts of classes 0A and 0B on the values left in force (R298, R300). -/
def audioConflict (t : State) (k : Key) : Bool :=
  let i := instOf k
  let kind := if clsOf k = 0x0B then 0x2000 else 0
  if 0x200 ≤ i ∧ i < 0x300 then !(t.groupOk (i - 0x200))
  else if 0x300 ≤ i then
    let c := t.n (O0A.FOLLOW_INPUT i)
    t.b (O0A.FOLLOW_ENABLE i) &&
      ((t.groupOf c).isSome ||
       (List.range 8).any fun a => a + 0x300 != i && t.b (O0A.FOLLOW_ENABLE (0x300 + a)) && t.n (O0A.FOLLOW_INPUT (0x300 + a)) == c)
  else if parOf k = 1 then
    match t.groupOf (kind + (if i < 0x100 then i else 0x1000 + (i - 0x100))) with
    | some g => !(t.groupOk g)
    | none => false
  else false

/-- A frame enters a port's FIFO; a full one takes none (R287, R299). -/
def fifoPut (s : State) (c : Nat) (f : List Nat) : State :=
  let p := s.port c
  if 128 ≤ p.fifo.length then s else s.setPort c { p with fifo := p.fifo ++ [f] }

/-- The index of a port that belongs to no group advances (R299, R301). -/
def indexStep (s : State) (c : Nat) : State := if (s.groupOf c).isSome then s else s.bump (indexKey c) 1

/-- One read of a port's FIFO: the frame delivered before its gain, and the state after (R299). An underrun holds the last sample. -/
def fifoRead (s : State) (c : Nat) : List Nat × State :=
  let p := s.port c
  let st := s.n (stateKey c)
  let reads := st == 0 || st == 3 || st == 4 || (st == 1 && p.reads)
  match p.fifo with
  | f :: l => if reads then (f, s.setPort c { p with fifo := l, last := f }) else (p.last, s)
  | [] => (p.last, s)

/-- The gain of a port once `n` more samples of its clock have passed: its fades are linear in them (R299). -/
def stepGain (s : State) (c n : Nat) : Nat × State :=
  let p := s.port c
  let d := 0x100000 * (p.ramp + n) / s.fadeLen c
  let g := match s.n (stateKey c) with
    | 0 => 0x100000
    | 1 => p.base - d
    | 4 => min 0x100000 d
    | _ => 0
  (g, s.setPort c { p with gain := g, ramp := p.ramp + n })

/-- Samples of a port's clock in a matrix sample period: one in bypass; as the rate asks with the SRC (R286, R287, R297). -/
def dueReads (s : State) (c : Nat) : Nat × State :=
  if s.portSrc c then
    let p := s.port c
    let n := p.frac + (s.portHz c * (100000000 + s.portDrift c)).toNat
    let den := s.matrixHz * 100000000
    (n / den, s.setPort c { p with frac := n % den })
  else (1, s)

/-- An input delivers one matrix sample (R289, R299): what the SRC computes is open beyond the figures of R286 (log entry 5). -/
def inputPeriod (s : State) (c : Nat) : State :=
  let src := s.portSrc c
  let r := s.dueReads c
  let t := r.2.forEach (List.range (r.1 - 1)) fun t _ => (t.fifoRead c).2
  let f := if r.1 = 0 then ((t.port c).last, t) else t.fifoRead c
  let g := f.2.stepGain c (if s.portHz c = 0 then 1 else r.1)
  let quiet := (s.port c).nonPcm || !s.groupRuns c
  let fill := (g.2.port c).fifo.length
  let t := g.2.setN (portKey c (O0A.IN_LATENCY 0)) (fill * 1000000000 / max 1 (s.portHz c) + (if src then 1000000 else 0))
  t.forEach (List.range (portWidth c)) fun t k =>
    if quiet ∨ g.1 = 0 then t.putSrc (t.portBase c + k) 0
    else if src then
      let d := t.draw
      d.2.putSrc (t.portBase c + k) (gained (sampleOf d.1) g.1)
    else t.putSrc (t.portBase c + k) (gained (sampleOf (f.1.getD k 0)) g.1)

/-- An output takes one matrix sample (R287, R291). -/
def outputPeriod (s : State) (c : Nat) : State :=
  let src := s.portSrc c
  let r := s.dueReads c
  let ch := List.range (s.portChannels c)
  let t := r.2.forEach (List.range r.1) fun t _ =>
    if src then
      let d := t.draw
      d.2.fifoPut c (ch.map fun k => d.1 / 2 ^ (32 * k) % 2 ^ 32)
    else t.fifoPut c (ch.map fun k => SMap.getD t.amx.out (t.portBase c + k) 0)
  t.setN (portKey c (O0A.OUT_LATENCY 0)) ((t.port c).fifo.length * 1000000000 / max 1 (s.portHz c) + (if src then 1000000 else 0))

/-- Every port in use takes part in a matrix sample period (R287). -/
def audioPeriod (s : State) : State :=
  s.forEach s.audio.ports fun t e =>
    if portIn e.1 then
      if t.portUp e.1 ∨ t.n (stateKey e.1) = 1 then t.inputPeriod e.1
      else t.forEach (List.range (portWidth e.1)) fun t k => t.putSrc (t.portBase e.1 + k) 0
    else if t.portUp e.1 then t.outputPeriod e.1 else t

/-- The index of a group now (R301, R303). -/
def groupIndex (s : State) (g : Nat) : Nat :=
  let n := (s.tick.up - (s.grp g).zero) * acsHz (s.n (O03.ACS_RATE (0x30 + s.n (O0A.GROUP_ACS (0x200 + g))))) / 192000
  ((n : Int) + (s.grp g).shift).toNat

/-- The ACS of a group has made the step of a REALIGN: the index is stepped with it (R304). -/
def groupStep (s : State) (g : Nat) : State :=
  let x := s.grp g
  match x.step with
  | some k =>
    if (s.synth (16 + s.n (O0A.GROUP_ACS (0x200 + g)))).realign then s else s.setGrp g { x with shift := x.shift + k, step := none }
  | none => s

/-- A group returns to IDLE (R301). -/
def groupIdle (s : State) (g : Nat) : State :=
  ((s.setGrp g { s.grp g with start := none, stop := none, stopping := false }).setN (O0A.GROUP_STATE (0x200 + g)) 0).raise
    0xE12 (0x200 + g) []

/-- A stop that has been made is complete when no member fades (R301). -/
def groupStopped (s : State) (g : Nat) : State :=
  if (s.grp g).stopping ∧ (portCodes (s.bs (O0A.GROUP_MEMBERS (0x200 + g)))).all (fun c => s.n (stateKey c) != 1) then s.groupIdle g
  else s

/-- A group's tick: members carry its index, and a stop that is due begins (R300, R301, R303). -/
def groupTick (s : State) (g : Nat) : State :=
  let x := s.grp g
  let i := 0x200 + g
  let l := portCodes (s.bs (O0A.GROUP_MEMBERS i))
  let t := if s.n (O0A.GROUP_STATE i) = 2 ∧ ¬ x.stopping then
      s.forEach l fun t c => t.setN (indexKey c) (s.groupIndex g)
    else s
  match x.stop with
  | none => t
  | some at_ =>
    if s.tick64 < at_ then t
    else if s.n (O0A.GROUP_STATE i) = 2 then
      let t := t.setGrp g { x with stop := none, stopping := true }
      (t.forEach (l.filter t.canFault) fun t c => t.fadeOut c false true).groupStopped g
    else if s.n (O0A.GROUP_STATE i) = 1 then t.groupIdle g
    else t.setGrp g { x with stop := none }

/-- The audio ports at a tick boundary; `period` when a matrix sample period begins. -/
def audioTick (s : State) (period : Bool) : State :=
  let t := s.forEach s.audio.groups fun t e => (t.groupStep e.1).groupTick e.1
  if period then t.audioPeriod else t

/-- GROUP_INDEX at the seam (R306). -/
def audioSeam (s : State) : State :=
  s.forEach s.audio.groups fun t e =>
    if t.n (O0A.GROUP_STATE (0x200 + e.1)) = 2 ∧ ¬ e.2.stopping then t.setN (O0A.GROUP_INDEX (0x200 + e.1)) (t.groupIndex e.1) else t

/-- SAFE HOLD begins: outputs fade to silence over 1 ms (R304). -/
def audioHold (s : State) : State :=
  s.forEach s.audio.ports fun t e =>
    if portIn e.1 ∨ ¬ t.canFault e.1 then t
    else (t.setPort e.1 { t.port e.1 with hold := true, overrun := false, reads := true, base := (t.port e.1).gain, ramp := 0 }).setN
      (stateKey e.1) 1

/-- The chain restarts: each output ramps in over 1 ms, each input is preset to 64 and enters WAITING (R304). -/
def audioRestart (s : State) : State :=
  s.forEach s.audio.ports fun t e =>
    if ¬ t.portUp e.1 then t
    else if portIn e.1 then (t.presetFifo e.1).setN (stateKey e.1) 3
    else if (t.port e.1).hold then (t.setPort e.1 { t.port e.1 with gain := 0, base := 0, ramp := 0 }).setN (stateKey e.1) 4 else t

/-- GROUP_START (R301). -/
def actGroupStart (s : State) (i tick : Nat) : State × Nat :=
  if ¬ s.tickLimits tick then (s, RANGE)
  else if s.n (O0A.GROUP_STATE i) = 2 then (s, CONFLICT)
  else (((s.setGrp (i - 0x200) { s.grp (i - 0x200) with start := some tick }).setN (O0A.GROUP_STATE i) 1).raise 0xE10 i [], OK)

/-- GROUP_STOP (R301). -/
def actGroupStop (s : State) (i tick : Nat) : State × Nat :=
  if tick ≠ 0 ∧ ¬ s.tickLimits tick then (s, RANGE)
  else if s.n (O0A.GROUP_STATE i) = 0 then (s, OK)
  else (s.setGrp (i - 0x200) { s.grp (i - 0x200) with stop := some (if tick = 0 then s.tick64 else tick) }, OK)

/-- REALIGN of a group's ACS: every member fades out together, and the index will be stepped by what the ACS moves, in whole samples (R304). -/
def audioRealign (s : State) (mask : Nat) : State :=
  s.forEach ((List.range 16).filter fun g => s.n (O0A.GROUP_STATE (0x200 + g)) == 2 &&
      (let y := 16 + s.n (O0A.GROUP_ACS (0x200 + g))
       bit mask y && s.hasTarget y)) fun t g =>
    let a := t.n (O0A.GROUP_ACS (0x200 + g))
    let k := Int.fdiv ((t.synth (16 + a)).phase * acsHz (t.n (O03.ACS_RATE (0x30 + a))) + 96000 * units) (192000 * units : Nat)
    let t := t.setGrp g { t.grp g with step := some k }
    t.forEach ((portCodes (t.bs (O0A.GROUP_MEMBERS (0x200 + g)))).filter t.canFault) fun t c => t.fadeOut c false true

/-- REALIGN (R103, R304, R333): the outputs on a realigned VTS take their audio frame numbers from the index again. -/
def realign (s : State) (mask : Nat) : State :=
  let hit (y : Nat) : Bool := bit mask y && s.hasTarget y
  let t := (s.actRealign mask).audioRealign mask
  t.forEach t.dests fun t e => if e.1 < 0x100 ∧ hit (t.n (O07.OUT_VTS e.1)) then t.setDest e.1 { e.2 with realign := true } else t

/-- The channel-status block of an output (R292). -/
def csBlock (s : State) (c : Nat) : List Byte :=
  let t := padTo 24 (s.bs (portKey c (O0A.CS_TEMPLATE 0)))
  let idx := s.n (indexKey c)
  let tod := if s.b O01.TIME_VALID then s.tick64 % 16588800000 * s.portHz c / 192000 - idx % 192 else 0
  if s.b (portKey c (O0A.CS_AUTO 0)) then
    csBytes t (s.n (O03.ACS_RATE (0x30 + s.n (portKey c (O0A.OUT_ACS 0))))) (s.n (portKey c (O0A.OUT_WORD 0)) != 0) (idx - idx % 192) tod
  else t.take 23 ++ [BitVec.ofNat 8 (csCrcc (t.take 23))]

/-- A subframe that an output sends: channel `k` of sample `x` (R288, R291, R293, R294). -/
def outSubframe (s : State) (c k : Nat) (cs : List Byte) (x : Int) : Nat :=
  let idx := s.n (indexKey c)
  let start := decide (idx % 192 = 0)
  let head := if c < 0x2000 then (if k = 1 then 2 else if start then 4 else 1)
    else start.toNat * 8 + (k % 2) * 4 + 2 + (decide (k = 0)).toNat
  let st := s.n (stateKey c)
  let v := (st == 2 || st == 3) && s.b (portKey c (O0A.OUT_V_FAULT 0))
  let cbit := bit ((cs.getD (idx % 192 / 8) 0).toNat) (idx % 8)
  let w := outWord (s.n (portKey c (O0A.OUT_WORD 0)) == 1) x * 16 + v.toNat * 2 ^ 28 + cbit.toNat * 2 ^ 30
  w + (oddBits w).toNat * 2 ^ 31 + head

/-- The sample that an output sends in a channel, with dither (R291): the dither is open within 1 LSB (log entry 5). -/
def ditherOut (s : State) (c : Nat) (x : Int) : Int × State :=
  if s.b (portKey c (O0A.DITHER 0)) then
    let q := if s.n (portKey c (O0A.OUT_WORD 0)) = 1 then 4096 else 256
    let d := s.draw
    (x + ((d.1 % (2 * q + 1) : Nat) : Int) - q, d.2)
  else (x, s)

/-- At each index that is a multiple of 192 an output makes its next channel-status block (R292, R293). -/
def beginBlock (s : State) (c : Nat) : State :=
  if s.n (indexKey c) % 192 = 0 ∨ (s.port c).sent = [] then s.setPort c { s.port c with sent := s.csBlock c } else s

/-- An output sends one frame (R291 to R294, R299); silence is samples of 0. -/
def sendFrame (s : State) (c : Nat) : State :=
  let s := s.beginBlock c
  let f := s.fifoRead c
  let g := f.2.stepGain c 1
  let live_ := g.2.groupRuns c && g.1 != 0
  let cs := (s.port c).sent
  let r := (List.range (s.portChannels c)).foldl (fun (a : List Nat × State) k =>
    let x := if live_ then gained (sampleOf (f.1.getD k 0)) g.1 else 0
    let d := if live_ then a.2.ditherOut c x else (x, a.2)
    (a.1 ++ [d.2.outSubframe c k cs d.1], d.2)) ([], g.2)
  (r.2.emit (.media 0x0A c r.1)).indexStep c

/-- The first index of an output (R293): from the phase target of its ACS where that is a time, else from when the ACS first locked. -/
def firstIndex (s : State) (c : Nat) : Nat :=
  let a := s.n (portKey c (O0A.OUT_ACS 0))
  let ty := if s.n O02.SEL_STATE = 0 then 0 else s.timing.lastType
  if s.hasTarget (16 + a) ∧ (ty = 1 ∨ ty = 8 ∨ ty = 9) then s.tick64 * s.portHz c / 192000
  else (s.tick.up - ((s.synth (16 + a)).index.getD 0)) * s.portHz c / 192000

/-- A subframe's sample after its checks: the sample, and the state with its counts (R289). -/
def checkedSample (s : State) (c k word : Nat) (bad : Bool) : Nat × State :=
  let p := s.port c
  let x := field word 27 4 * 256
  let t := if bad then
      ((s.bump (portKey c (O0A.PARITY_ERR 0)) 1).flag (flagsKey c) 4).raiseLim (portEvent c 0x0A4 0x0B3) c [] 192000
    else s.setPort c { p with good := (p.good ++ List.replicate (k + 1 - p.good.length) 0).set k x }
  let y := if bad then p.good.getD k 0 else x
  if bit word 28 then
    let t := t.bump (portKey c (O0A.V_SAMPLES 0)) 1
    if c < 0x2000 ∧ t.n (O0A.V_ACTION c) = 1 then
      let q := t.port c
      (0, if q.muting then t else (t.setPort c { q with muting := true }).raise 0x0A7 c [])
    else (y, t)
  else (y, t.setPort c { t.port c with muting := false })

/-- A complete frame arrives at an input (R287, R299). -/
def frameIn (s : State) (c : Nat) (f : List Nat) : State :=
  (if s.n (portKey c (O0A.IN_STATE 0)) = 3 then s.fifoPut c f else s).indexStep c

/-- The preamble of an AES3 subframe is the one that is due (R289): the frames since the last Z are in the port's state. Before the first Z a
frame may begin with either. -/
def preambleOk (p : PortSt) (pre : Nat) : Bool :=
  if p.second then pre == 2
  else if ¬ p.synced then pre == 1 || pre == 4
  else if pre = 4 then p.frames % 192 == 0 else pre == 1 && p.frames % 192 != 0

/-- The channel-status bit of a subframe goes into the block in progress, which a Z preamble begins, a preamble error discards, and its last
frame completes (R289, R290). -/
def csBit (p : PortSt) (pre : Nat) (c good : Bool) : PortSt :=
  if ¬ good then { p with bits := none }
  else if pre = 4 then { p with bits := some (c.toNat, 0) }
  else match p.bits with
    | none => p
    | some (x, y) =>
      if pre = 1 then { p with bits := some (x + c.toNat * 2 ^ p.frames, y) }
      else
        let y := y + c.toNat * 2 ^ p.frames
        if p.frames = 191 then { p with bits := none, blocks := p.blocks + 1, ready := [(0, bytesLE 24 x), (1, bytesLE 24 y)] }
        else { p with bits := some (x, y) }

/-- A MADI frame shows its channel count by its highest active channel, and may begin a block of 192 frames (R294, R295). -/
def madiBlock (s : State) (c : Nat) (words : List Nat) : State :=
  let p := s.port c
  let top : Nat := words.zipIdx.foldl (fun (a : Nat) (e : Nat × Nat) => if bit e.1 1 then e.2 + 1 else a) 0
  let count := if top = 0 then 0 else if top ≤ 56 then 56 else 64
  if bit (words.headD 0) 3 then
    s.setPort c { p with count := count, frames := 1, synced := true, blocks := p.blocks + (p.synced && p.frames == 192).toNat }
  else s.setPort c { p with count := count, frames := p.frames + 1 }

/-- A nominal rate that lies within the window of the measurement (R295): ±2,000 ppm, and ±12.5 % for MADI in 56-channel mode. -/
def rateNear (s : State) (c rate : Nat) (offset : Int) : Nat :=
  let wide := decide (0x2000 ≤ c) && (s.port c).count == 56
  if offset.natAbs ≤ (if wide then 12500000 else 200000) then rate else 0xFF

/-- A rate, and on MADI a channel count, that a port takes (R285, R295). -/
def rateTaken (s : State) (c rate : Nat) : Bool :=
  let known := if c < 0x2000 then rate < 7 else rate < 3 && (s.port c).count != 0
  known && ((s.followerOf c).isSome || s.n (portKey c (O0A.SRC_MODE 0)) != 2 || acsHz rate == s.matrixHz)

/-- The rate and the channel count that a port has found (R285, R294). -/
def rateFound (s : State) (c rate : Nat) : State :=
  let t := s.setN (portKey c (O0A.IN_RATE 0)) (if rate < 7 then rate else 0xFF)
  if c < 0x2000 then t else t.setN (portKey c (O0B.IN_CHANNELS 0)) (s.port c).count

/-- A follow loop takes a port at its own rate, and leaves it at another (R295). -/
def followRate (s : State) (c rate : Nat) : State :=
  match s.followerOf c with
  | some a => if acsHz rate = acsHz (s.n (O03.ACS_RATE (0x30 + a))) then s.followGot c else s.followLost c
  | none => s

/-- A port locks at the rate that it has found: its FIFO is preset, and its follow loop looks at the rate (R285, R295). -/
def lockPort (s : State) (c rate : Nat) (src : Bool) (offset : Int) : State :=
  let t := s.setPort c { s.port c with offset := offset, decided := false, since := s.now }
  let t := (t.setB (portKey c (O0A.SRC_ACTIVE 0)) src).presetFifo c
  ((t.setN (portKey c (O0A.IN_STATE 0)) 3).raise (portEvent c 0x0A0 0x0B0) c []).followRate c rate

/-- An identified rate: the input becomes LOCKED or UNSUPPORTED (R285, R295). -/
def identify (s : State) (c rate : Nat) (offset : Int) : State :=
  let rate := s.rateNear c rate offset
  let t := s.rateFound c rate
  if s.rateTaken c rate then
    t.lockPort c rate ((s.followerOf c).isSome || s.n (portKey c (O0A.SRC_MODE 0)) != 2) offset
  else (t.setN (portKey c (O0A.IN_STATE 0)) 4).raise (portEvent c 0x0AD 0x0B9) c []

/-- An input looks for a rate (R295): it has seen no block yet. -/
def acquiring (s : State) (c : Nat) : State :=
  (s.setPort c { s.port c with
    since := s.now, half := [], second := false, frames := 0, synced := false, bits := none, blocks := 0, count := 0, ready := [] }).setN
    (portKey c (O0A.IN_STATE 0)) 2

/-- The follow loop's new offset (R297): it moves at most 100 ppm/s and stays within 1,000 ppm. -/
def loopStep (s : State) (a : Nat) (err : Int) : FollowSt :=
  let x := s.loop a
  let i := 0x300 + a
  let hz := max 1 (acsHz (s.n (O03.ACS_RATE (0x30 + a))))
  let bw := s.n (O0A.FOLLOW_BW i)
  let integral := x.integral + err
  let want := max (-100000) (min 100000 (followKp err bw hz + followKi integral bw hz))
  let y := max (x.y - 10) (min (x.y + 10) want)
  let since (o : Option Nat) (b : Bool) : Option Nat := if b then some (o.getD s.now) else none
  { integral := integral, y := y, quiet := since x.quiet (decide (err.natAbs ≤ 512)), limit := since x.limit (decide (y.natAbs = 100000)),
    within := since x.within (decide (y.natAbs < 100000)), history := (y :: x.history).take 1000,
    at_ := s.now }

/-- Whether a condition has stood for `n` ticks. -/
def stood (s : State) (o : Option Nat) (n : Nat) : Bool :=
  match o with
  | some t => decide (t + n ≤ s.now)
  | none => false

/-- The loop stays at its limit: the followed input faults (R298, R299). -/
def followLimit (s : State) (a : Nat) : State :=
  let t := (s.setN (O0A.FOLLOW_STATE (0x300 + a)) 4).raise 0xE15 (0x300 + a) []
  let c := t.n (O0A.FOLLOW_INPUT (0x300 + a))
  if t.canFault c then t.underrun c else t

/-- FOLLOW_STATE after an update (R298). -/
def followStep (s : State) (a : Nat) : State :=
  let i := 0x300 + a
  let x := s.loop a
  match s.n (O0A.FOLLOW_STATE i) with
  | 2 =>
    if s.stood x.limit 192 then s.followLimit a
    else if s.stood x.quiet 192000 then (s.setN (O0A.FOLLOW_STATE i) 3).raise 0xE14 i [] else s
  | 3 => if s.stood x.limit 192 then s.followLimit a else s
  | 4 => if s.stood x.within 192 then s.setN (O0A.FOLLOW_STATE i) 2 else s
  | _ => s

end State

/-- A command on a port: it acts only while the device is alive and the port is present. -/
def onPort (c : Nat) (s : State) (f : State → State) : Host.Outcome State Fault Refusal :=
  .next (if s.alive && s.portHere c then f s else s)

/-- Valid preambles or sync symbols for 192 ticks (R295). -/
def execAes3PreamblesValid (port : Nat) (s : State) : Host.Outcome State Fault Refusal :=
  onPort port s fun s =>
    if portIn port ∧ s.n (State.portKey port (O0A.IN_STATE 0)) = 1 ∧ (s.port port).since + 192 ≤ s.now then s.acquiring port else s

/-- The rate is identified over 192 ticks and 2 blocks (R295): the nominal rate nearest the measurement, and how far off it is, in 0.01 ppm. -/
def execAudioRateIdentified (port rate : Nat) (offset : Int) (s : State) : Host.Outcome State Fault Refusal :=
  onPort port s fun s =>
    let p := s.port port
    if portIn port ∧ s.n (State.portKey port (O0A.IN_STATE 0)) = 2 ∧ p.since + 192 ≤ s.now ∧ 2 ≤ p.blocks then s.identify port rate offset else s

/-- Four missing preambles or syncs, or a bad frame period (R295). -/
def execAudioInputLost (port : Nat) (rate : Bool) (s : State) : Host.Outcome State Fault Refusal :=
  onPort port s fun s =>
    let st := s.n (State.portKey port (O0A.IN_STATE 0))
    if ¬ portIn port ∨ st < 2 then s
    else if rate then
      if st = 2 then s
      else
        let t := s.acquiring port
        if st = 3 then ((t.inputFault port).flag (State.flagsKey port) 2).raise (portEvent port 0x0A2 0x0B2) port [] else t
    else
      let t := (s.setPort port { s.port port with since := s.now }).setN (State.portKey port (O0A.IN_STATE 0)) 1
      if st = 3 then ((t.inputFault port).flag (State.flagsKey port) 1).raise (portEvent port 0x0A1 0x0B1) port [] else t

/-- A received subframe (R288, R289). -/
def execAes3Subframe (input word : Nat) (s : State) : Host.Outcome State Fault Refusal :=
  onPort input s fun s =>
    if 0x1000 ≤ input ∨ s.n (O0A.IN_STATE input) < 2 then s else
    let p := s.port input
    let pre := field word 3 0
    let good := State.preambleOk p pre
    let t := if good then s
      else (s.bump (O0A.PREAMBLE_ERR input) 1).flag (O0A.IN_FLAGS input) 16
    let t := t.setPort input { State.csBit (t.port input) pre (bit word 30) good with
      second := pre != 2
      synced := p.synced || pre == 4
      frames := if pre = 2 then p.frames + 1 else if pre = 4 then 0 else p.frames }
    let k := if pre = 2 then 1 else 0
    let r := t.checkedSample input k word (oddBits (word / 16 * 16))
    if k = 0 then r.2.setPort input { r.2.port input with half := [r.1] }
    else
      let f := (r.2.port input).half ++ [r.1]
      if f.length = 2 then (r.2.frameIn input f).setPort input { (r.2.frameIn input f).port input with half := [] } else r.2

/-- A channel-status block that a subframe's bits have completed is checked (R289, R290). -/
def execCsBlock (input subframe : Nat) (s : State) : Host.Outcome State Fault Refusal :=
  onPort input s fun s =>
    if 0x1000 ≤ input then s else
    match SMap.find? (s.port input).ready subframe with
    | none => s
    | some (block : List Byte) =>
    let s := s.setPort input { s.port input with ready := (s.port input).ready.filter fun e => e.1 != subframe }
    let b0 := (block.headD 0).toNat
    if bit b0 0 ∧ csCrcc (block.take 23) ≠ (block.getD 23 0).toNat then
      ((s.bump (O0A.CS_CRC_ERR input) 1).flag (O0A.IN_FLAGS input) 8).raiseLim 0x0A5 input [] 192000
    else
      let t := s.setBytes (O0A.IN_CS input) (splice (padTo 48 (s.bs (O0A.IN_CS input))) (24 * subframe) block)
      let cs := t.bs (O0A.IN_CS input)
      let np := bit ((cs.getD 0 0).toNat) 1 || bit ((cs.getD 24 0).toNat) 1
      let was := (s.port input).nonPcm
      let t := t.setPort input { t.port input with nonPcm := np }
      if np ∧ ¬ was then (t.flag (O0A.IN_FLAGS input) 128).raise 0x0A6 input [] else t

/-- A MADI frame (R294). -/
def execMadiFrame (input : Nat) (words : List Nat) (codeErrors : Nat) (s : State) : Host.Outcome State Fault Refusal :=
  onPort (0x2000 + input) s fun s =>
    let c := 0x2000 + input
    if 0x1000 ≤ input ∨ s.n (O0B.IN_STATE input) < 2 then s else
    let t := if codeErrors = 0 then s
      else ((s.bump (O0B.CODE_ERR input) codeErrors).flag (O0B.IN_FLAGS input) 16).raiseLim 0x0B4 c [] 192000
    let r := (words.zipIdx).foldl (fun (a : List Nat × State) e =>
      if bit e.1 1 then
        let x := a.2.checkedSample c e.2 e.1 (codeErrors != 0 || oddBits (e.1 / 16 * 16))
        (a.1 ++ [x.1], x.2)
      else (a.1 ++ [0], a.2)) ([], t)
    (r.2.madiBlock c words).frameIn c r.1

/-- The measurement over 192,000 ticks after lock, and after that each 192,000 ticks (R285, R295). -/
def execSrcDecision (port : Nat) (offset : Int) (s : State) : Host.Outcome State Fault Refusal :=
  onPort port s fun s =>
    let p := s.port port
    if ¬ portIn port ∨ s.n (State.portKey port (O0A.IN_STATE 0)) ≠ 3 ∨ s.now < p.since + 192000 then s else
    let auto := s.n (State.portKey port (O0A.SRC_MODE 0)) == 0 && (s.followerOf port).isNone && !p.decided
    let t := (s.setPort port { p with offset := offset, decided := true, since := s.now }).setZ 32 (State.portKey port (O0A.IN_FREQ_OFFSET 0)) offset
    let t := if auto then
        t.setB (State.portKey port (O0A.SRC_ACTIVE 0)) (s.portHz port != s.matrixHz || decide (100 < offset.natAbs))
      else t
    if port < 0x2000 ∧ t.b (State.portKey port (O0A.SRC_ACTIVE 0)) ∧ 12500000 < offset.natAbs ∧ p.offset.natAbs ≤ 12500000 then t.raise 0x0AC port [] else t

/-- A sample is due and the FIFO is empty (R299): the stop of a group governs (R304). -/
def execPortUnderrun (port : Nat) (s : State) : Host.Outcome State Fault Refusal :=
  onPort port s fun s => if s.portUp port ∧ s.canFault port ∧ (s.port port).fifo = [] then s.underrun port else s

/-- A sample arrives at a full FIFO (R299). -/
def execPortOverrun (port : Nat) (s : State) : Host.Outcome State Fault Refusal :=
  onPort port s fun s => if s.portUp port ∧ s.canFault port ∧ 128 ≤ (s.port port).fifo.length then s.overrun port else s

/-- A ramp completes (R299, R301): the gain has reached its end, or the port has no clock to count it by. -/
def execFadeComplete (port : Nat) (s : State) : Host.Outcome State Fault Refusal :=
  onPort port s fun s =>
    let p := s.port port
    let still := !portIn port && !s.portUp port
    match s.n (State.stateKey port) with
    | 1 =>
      if p.gain ≠ 0 ∧ ¬ still then s else
      let t := (s.setPort port { p with gain := 0, fifo := if p.overrun then p.fifo.drop (p.fifo.length - 64) else p.fifo }).setN
        (State.stateKey port) 2
      match t.groupOf port with
      | some g => t.groupStopped g
      | none => t
    | 4 => if p.gain ≠ 0x100000 ∧ ¬ still then s else (s.setPort port { p with gain := 0x100000, hold := false }).setN (State.stateKey port) 0
    | _ => s

/-- A SILENT port's fill reaches 64 (R299). -/
def execFifoRecentred (port : Nat) (s : State) : Host.Outcome State Fault Refusal :=
  onPort port s fun s =>
    if s.n (State.stateKey port) = 2 ∧ s.portUp port ∧ 64 ≤ (s.port port).fifo.length ∧ ¬ s.safeHold then s.setN (State.stateKey port) 3 else s

/-- A WAITING port reaches its resynchronisation index (R299). -/
def execResyncIndex (port : Nat) (s : State) : Host.Outcome State Fault Refusal :=
  onPort port s fun s =>
    let m := match s.groupOf port with
      | some g => s.n (O0A.RESYNC_MODULUS (0x200 + g))
      | none => 1
    let steps : Bool := match s.groupOf port with
      | some g => (s.grp g).step.isSome
      | none => false
    if s.n (State.stateKey port) = 3 ∧ s.groupRuns port ∧ s.n (State.indexKey port) % m = 0 ∧ ¬ s.safeHold ∧ ¬ steps then
      ((s.setPort port { s.port port with gain := 0, base := 0, ramp := 0 }).setN (State.stateKey port) 4).raise (portEvent port 0x0AA 0x0B7) port []
    else s

/-- An update of a follow loop (R297, R298). -/
def execFollowLoopUpdate (acs : Nat) (error : Int) (s : State) : Host.Outcome State Fault Refusal :=
  live s fun s =>
    let i := 0x300 + acs
    let st := s.n (O0A.FOLLOW_STATE i)
    if acs < 8 ∧ 2 ≤ st ∧ st ≤ 4 ∧ (s.loop acs).at_ + 192 ≤ s.now then
      let x := s.loopStep acs error
      (((s.setLoop acs x).setZ 32 (O0A.FOLLOW_OFFSET i) x.y).setZ 32 (O0A.FOLLOW_ERROR i) error).followStep acs
    else s

/-- The GROUP_START action (R301). -/
def execGroupStart (group tick : Nat) (s : State) : Host.Outcome State Fault Refusal :=
  live s fun s => if s.served ∧ group < 16 then (s.actGroupStart (0x200 + group) tick).1 else s

/-- The GROUP_STOP action (R301). -/
def execGroupStop (group tick : Nat) (s : State) : Host.Outcome State Fault Refusal :=
  live s fun s => if s.served ∧ group < 16 then (s.actGroupStop (0x200 + group) tick).1 else s

/-- A group's start tick is reached: index 0 (R300, R301, R304). -/
def execGroupIndexZero (group : Nat) (s : State) : Host.Outcome State Fault Refusal :=
  live s fun s =>
    let i := 0x200 + group
    let x := s.grp group
    match x.start with
    | none => s
    | some t =>
      if group < 16 ∧ s.n (O0A.GROUP_STATE i) = 1 ∧ t ≤ s.tick64 then
        let r := (s.setGrp group { x with start := none, zero := s.tick.up, stopping := false, shift := 0, step := none }).setN (O0A.GROUP_STATE i) 2
        let r := (r.setN (O0A.GROUP_START_TICK i) s.tick64).setN (O0A.GROUP_INDEX i) 0
        let r := r.forEach (portCodes (r.bs (O0A.GROUP_MEMBERS i))) fun r c =>
          (r.setN (State.indexKey c) 0).when (s.safeHold && !portIn c) fun r =>
            (r.setPort c { r.port c with hold := false, gain := 0 }).setN (State.stateKey c) 3
        (r.raise 0xE11 i []).when s.safeHold fun r => r.raise 0xE13 i []
      else s

/-- A sample of an output's clock falls due (R293). -/
def execPortSampleDue (port : Nat) (s : State) : Host.Outcome State Fault Refusal :=
  onPort port s fun s =>
    if portIn port ∨ s.n (State.portKey port (O0A.OUT_STATE 0)) ≠ 2 ∨ ¬ s.portUp port then s
    else if s.n (State.indexKey port) = 0 ∧ (s.groupOf port).isNone then (s.setN (State.indexKey port) (s.firstIndex port)).sendFrame port
    else s.sendFrame port

/-- The REALIGN action (R103, R304). -/
def execRealign (mask : Nat) (s : State) : Host.Outcome State Fault Refusal :=
  live s fun s => if s.served then s.realign mask else s

end Sys2Proof.Machine
end

