-- ==== Sys2Proof/Machine/Packets.lean ====
section
/-! DEFINITION. The packets that the device builds and reads: IPv4, UDP, ARP, IGMP and RTP headers (R344, R354, R361 to R370). -/

namespace Sys2Proof.Machine

/-- The sum of 16-bit words that the Internet checksum is made of; an odd last byte counts as the high one. -/
def wordSum : List Byte → Nat
  | a :: b :: l => a.toNat * 256 + b.toNat + wordSum l
  | [a] => a.toNat * 256
  | [] => 0

/-- The Internet checksum of IPv4, ICMP and IGMP: the complement of the ones' complement sum. -/
def inetSum (b : List Byte) : Nat :=
  let x := wordSum b
  let y := x % 65536 + x / 65536
  65535 - (y % 65536 + y / 65536)

/-- An Ethernet frame without tag and FCS. -/
def etherFrame (dst src type : Nat) (b : List Byte) : List Byte := bytesBE 6 dst ++ bytesBE 6 src ++ d16 type ++ b

/-- A header with its checksum in the two bytes at an offset, which are 0 in the argument. -/
def summed (at_ : Nat) (b : List Byte) : List Byte := b.take at_ ++ d16 (inetSum b) ++ b.drop (at_ + 2)

/-- An IPv4 packet without options or fragments (R344): DSCP, protocol, addresses and payload. Identification, flags and time to live are open
(log entry 41). -/
def ipPacket (dscp proto src dst : Nat) (b : List Byte) : List Byte :=
  let len := 20 + b.length
  summed 10 (d8 0x45 ++ d8 (dscp * 4) ++ d16 len ++ d16 (Config.openResult 25 [src, dst, len]) ++ d16 (Config.openResult 26 [src, dst, len] % 2 * 0x4000) ++
    d8 (Config.openResult 27 [src, dst, len]) ++ d8 proto ++ zeros 2 ++ d32 src ++ d32 dst) ++ b

/-- A UDP datagram; its checksum is open (log entry 41). -/
def udpDatagram (src dst : Nat) (b : List Byte) : List Byte :=
  d16 src ++ d16 dst ++ d16 (8 + b.length) ++ d16 (Config.openResult 28 [src, dst, natBE b]) ++ b

/-- An ARP request for an IPv4 address, as an Ethernet frame (R354). -/
def arpFrame (mac own target : Nat) : List Byte :=
  etherFrame 0xFFFFFFFFFFFF mac 0x0806 (d16 1 ++ d16 0x0800 ++ d8 6 ++ d8 4 ++ d16 1 ++ bytesBE 6 mac ++ d32 own ++ zeros 6 ++ d32 target)

/-- The multicast address of an IPv4 group. -/
def groupMac (ip : Nat) : Nat := 0x01005E000000 + ip % 0x800000

/-- An IPv4 group address. -/
def groupIp (ip : Nat) : Bool := ip / 2 ^ 28 == 14

/-- An IGMP message as an Ethernet frame (R354): time to live 1, with the Router Alert option of RFC 3376. -/
def igmpFrame (mac own dst : Nat) (b : List Byte) : List Byte :=
  let m := summed 2 b
  etherFrame (groupMac dst) mac 0x0800 (summed 10 (d8 0x46 ++ d8 0xC0 ++ d16 (24 + m.length) ++ d16 (Config.openResult 25 [own, dst, m.length]) ++ zeros 2 ++
    d8 1 ++ d8 2 ++ zeros 2 ++ d32 own ++ d32 dst ++ [0x94, 0x04, 0, 0]) ++ m)

/-- The record of an IGMPv3 report for a group (RFC 3376): 0 an answer to a query, 1 a join, 2 a leave; with a source, or of any source. -/
def igmpRecord (how group source : Nat) : List Byte :=
  let type := if source = 0 then [2, 4, 3].getD how 2 else [1, 5, 6].getD how 1
  d8 type ++ d8 0 ++ d16 (decide (source ≠ 0)).toNat ++ d32 group ++ (if source = 0 then [] else d32 source)

/-- A report or leave of a group to an interface's network (R354, R369): IGMPv3, or IGMPv2. -/
def igmpReport (v2 : Bool) (how mac own group source : Nat) : List Byte :=
  if v2 then igmpFrame mac own (if how = 2 then 0xE0000002 else group) (d8 (if how = 2 then 0x17 else 0x16) ++ zeros 3 ++ d32 group)
  else igmpFrame mac own 0xE0000016 (d8 0x22 ++ zeros 5 ++ d16 1 ++ igmpRecord how group source)

/-- The RTP header of a packet: version 2, marker, payload type, sequence number, timestamp and SSRC. -/
def rtpHeader (marker : Bool) (pt seq stamp ssrc : Nat) : List Byte :=
  d8 0x80 ++ d8 (marker.toNat * 128 + pt % 128) ++ d16 seq ++ d32 stamp ++ d32 ssrc

/-- What a received RTP packet says. -/
structure Rtp where
  marker : Bool
  pt : Nat
  seq : Nat
  stamp : Nat
  body : List Byte
  deriving DecidableEq, Repr

/-- An RTP packet, read: its contributing sources, extension and padding are passed over; none for another version or a packet that ends too soon. -/
def rtpOf (b : List Byte) : Option Rtp :=
  let b0 := (b.getD 0 0).toNat
  let b1 := (b.getD 1 0).toNat
  let head := 12 + 4 * (b0 % 16)
  let ext := if bit b0 4 then 4 + 4 * natBE (slice b (head + 2) 2) else 0
  let pad := if bit b0 5 then ((b.getLast?).getD 0).toNat else 0
  if b.length < head + ext + pad ∨ b0 / 64 ≠ 2 then none
  else some ⟨bit b1 7, b1 % 128, natBE (slice b 2 2), natBE (slice b 4 4), (b.drop (head + ext)).take (b.length - head - ext - pad)⟩

/-- A piece of a line that a packet carries: row, second field or segment, pixel offset and bytes (ST 2110-20). -/
structure Srd where
  row : Nat
  second : Bool
  offset : Nat
  data : List Byte
  deriving DecidableEq, Repr

/-- The sample row data headers of a packet: length, row, offset, and whether another follows. At most 3 are read; the second answer is false where
more follow (R344). -/
def srdHeads : Nat → List Byte → List (Nat × Nat × Bool × Nat) × Bool × List Byte
  | 0, b => ([], false, b)
  | n + 1, b =>
    let row := natBE (slice b 2 2)
    let off := natBE (slice b 4 2)
    let e := (natBE (b.take 2), row % 32768, bit row 15, off % 32768)
    if bit off 15 then
      let r := srdHeads n (b.drop 6)
      (e :: r.1, r.2.1, r.2.2)
    else ([e], true, b.drop 6)

/-- Pieces cut from the bytes after their headers. -/
def srdCut : List (Nat × Nat × Bool × Nat) → List Byte → List Srd
  | [], _ => []
  | e :: l, b => ⟨e.2.1, e.2.2.1, e.2.2.2, b.take e.1⟩ :: srdCut l (b.drop e.1)

/-- The payload of an ST 2110-20 packet after its RTP header: the high 16 bits of its sequence number, its pieces, and whether it is one that the
device reads: up to 3 pieces, each whole (R344, R369). -/
def srdsOf (b : List Byte) : Nat × List Srd × Bool :=
  let r := srdHeads 3 (b.drop 2)
  let need := (r.1.map (·.1)).sum
  (natBE (b.take 2), srdCut r.1 r.2.2, r.2.1 && decide (8 ≤ b.length ∧ need ≤ r.2.2.length))

/-- Bits of a byte string from a bit offset, most significant first. -/
def bitsAt (b : List Byte) (at_ n : Nat) : Nat :=
  let first := at_ / 8
  let w := slice b first (ceilDiv (at_ % 8 + n) 8)
  natBE w / 2 ^ (8 * w.length - at_ % 8 - n) % 2 ^ n

/-- The ANC packets of an ST 2110-40 payload (RFC 8331): C, line, position, and the words from DID to checksum. The first argument bounds their
number, the last is the bit at which the next begins. -/
def ancPacketsOf : Nat → List Byte → Nat → List (Bool × Nat × Nat × List Nat)
  | 0, _, _ => []
  | n + 1, b, at_ =>
    let words := 4 + bitsAt b (at_ + 52) 10 % 256
    if 8 * b.length < at_ + 32 + 10 * words then []
    else
      (bitsAt b at_ 1 == 1, bitsAt b (at_ + 1) 11, bitsAt b (at_ + 12) 12, (List.range words).map fun j => bitsAt b (at_ + 32 + 10 * j) 10) ::
        ancPacketsOf n b (ceilDiv (at_ + 32 + 10 * words) 32 * 32)

/-- Flags and length of an E1.31 layer with the rest of the packet. -/
def e131Layer (b : List Byte) : List Byte := d16 (0x7000 + (b.length + 2) % 4096) ++ b

/-- The root layer of an E1.31 packet: its vector, the CID, and the layers above. -/
def e131Root (vector : Nat) (cid b : List Byte) : List Byte :=
  d16 0x0010 ++ d16 0 ++ [0x41, 0x53, 0x43, 0x2D, 0x45, 0x31, 0x2E, 0x31, 0x37, 0, 0, 0] ++ e131Layer (d32 vector ++ padTo 16 (cid.take 16) ++ b)

/-- An E1.31 data packet (R501): 638 bytes for 512 slots. The layout is that of ANSI E1.31, which the spec names (PRESUMED, log entry 41). -/
def e131Data (cid name : List Byte) (priority seq : Nat) (terminated : Bool) (univ : Nat) (slots : List Byte) : List Byte :=
  let dmp := e131Layer (d8 2 ++ d8 0xA1 ++ d16 0 ++ d16 1 ++ d16 (slots.length + 1) ++ d8 0 ++ slots)
  e131Root 4 cid (e131Layer (d32 2 ++ padTo 64 (name.take 64) ++ d8 priority ++ d16 0 ++ d8 seq ++ d8 (if terminated then 0x40 else 0) ++ d16 univ ++ dmp))

/-- An E1.31 universe-discovery packet (R502): a page of universe numbers, its number and the last page's. -/
def e131Discovery (cid name : List Byte) (page last : Nat) (univs : List Nat) : List Byte :=
  e131Root 8 cid (e131Layer (d32 2 ++ padTo 64 (name.take 64) ++ zeros 4 ++ e131Layer (d32 1 ++ d8 page ++ d8 last ++ univs.flatMap d16)))

end Sys2Proof.Machine
end

