-- ==== Sys2Proof/Machine/Routes.lean ====
section
/-! DEFINITION. Crosspoints and clean switching: route values and their checks, activation, switch frames, and the commands of
class 08 (R225 to R248), with the output frame start (R209 to R217). -/

namespace Sys2Proof.Machine

/-- The fields of a ROUTE value (R225). -/
structure Route where
  kind : Nat
  mode : Nat
  ddev : Nat
  dst : Nat
  /-- SOURCE without its reserved bits. -/
  src : Nat
  act : Nat
  deriving DecidableEq, Repr

/-- A ROUTE value's bytes, read (R225; reserved bits are ignored, R15). -/
def routeOf (b : List Byte) : Route :=
  let d := natBE (b.take 4)
  let c := natBE (slice b 4 4)
  ⟨field d 31 30, field d 29 28, epDevice d, field d 15 0, field c 25 0, natBE (slice b 8 8)⟩

/-- The ROUTE values that a blob holds, 16 bytes each (R240). The first argument bounds their number. -/
def routesIn : Nat → List Byte → List Route
  | 0, _ => []
  | n + 1, b => if b.length < 16 then [] else routeOf (b.take 16) :: routesIn n (b.drop 16)

/-- The class 08 instance that a video or ancillary route's destination names (R226, R245). -/
def Route.dest (r : Route) : Nat := if epType r.dst = 2 then 0x100 + epInst r.dst else epInst r.dst

/-- The bytes of a route (R225). -/
def Route.bytes (r : Route) : List Byte :=
  bytesBE 4 (r.kind * 2 ^ 30 + r.mode * 2 ^ 28 + r.ddev * 2 ^ 16 + r.dst) ++ bytesBE 4 r.src ++ bytesBE 8 r.act

/-- Default TRO in lines (R395). -/
def troLines (f : Nat) : Nat :=
  match fmtRaster f with
  | 3 => 28
  | 4 => if fmtScan f = 0 then 43 else 22
  | 5 => 86
  | 6 => 172
  | _ => 0

/-- TRO of a format in ns where SEND_TRO is 0 (R365, R395), rounded down. -/
def defaultTro (f : Nat) : Nat :=
  let q := rateFrac (fmtRate f)
  let nt := rasterTotal (fmtRaster f)
  if q.1 * nt = 0 then 0 else troLines f * q.2 * 1000000000 / (q.1 * nt)

namespace State

/-- The status that a route's own value has, before any other object is looked at (R14, R22, R226, R227): ABSENT, RANGE or OK. -/
def routeStatus (s : State) (r : Route) : Nat :=
  let own (d : Nat) : Bool := d == s.deviceId
  let si := epInst r.src
  let di := epInst r.dst
  let lanes := byMember s.member 192 96 48
  let flows := byMember s.member 2048 1024 256
  if r.kind = 1 then
    let top := if s.rate96 then 8192 else 16384
    let se := field r.src 15 0
    if (own r.ddev && decide (s.ranges.top ≤ r.dst ∧ r.dst < top)) ||
       (own (epDevice r.src) && decide (s.ranges.top ≤ se ∧ se < top)) then ABSENT
    else if top ≤ r.dst ∨ (top ≤ se ∧ se ≠ 0xFFFF) ∨ 2 ≤ r.mode ∨ (r.mode = 0 ∧ r.act ≠ 0) then RANGE
    else OK
  else
    let absDst := own r.ddev && ((epType r.dst == 1 && decide (lanes ≤ di ∧ di < 192)) ||
      (epType r.dst == 2 && decide (flows ≤ di ∧ di < 2048)))
    let absSrc := own (epDevice r.src) && ((epType r.src == 1 && decide (lanes ≤ si ∧ si < 192)) ||
      (epType r.src == 3 && decide (flows ≤ si ∧ si < 2048)))
    let badDst := !((epType r.dst == 1 && decide (di < 192)) || (epType r.dst == 2 && decide (di < 2048)))
    let badSrc : Bool := match epType r.src with
      | 0 => si != 0
      | 1 => decide (192 ≤ si)
      | 2 => decide (256 ≤ si)
      | 3 => decide (2048 ≤ si)
      | 4 => decide (2 ≤ si)
      | 15 => si != 0
      | _ => true
    if absDst ∨ absSrc then ABSENT
    else if r.kind = 3 ∨ r.mode = 3 ∨ (r.mode = 0 ∧ r.act ≠ 0) ∨ badDst ∨ badSrc then RANGE
    else OK

/-- The value checks of class 08 beyond a row's range (R227, R240, R245). -/
def routeItem (s : State) (k : Key) (v : Val) : Nat :=
  if clsOf k ≠ 8 then OK
  else if 0x900 ≤ instOf k ∧ instOf k < 0xFFF ∧ parOf k = 0 then
    if v.bytes.length % 16 ≠ 0 then RANGE
    else
      let l := routesIn 64 v.bytes
      if l.any fun r => s.routeStatus r == ABSENT then ABSENT
      else if l.any fun r => s.routeStatus r != OK || r.mode != 0 || r.act != 0 then RANGE else OK
  else if parOf k ≤ 1 then s.routeStatus (routeOf v.bytes) else OK

/-- The routes of a transaction, with the object that each was written to: none for ROUTE_SUBMIT and for a salvo's routes. -/
def txRoutes (items : List (Key × Val)) : List (Option Key × Route) :=
  items.filterMap fun e =>
    if clsOf e.1 = 8 ∧ parOf e.1 ≤ 1 ∧ instOf e.1 < 0x900 then some (some e.1, routeOf e.2.bytes)
    else if e.1 = O08.ROUTE_SUBMIT then some (none, routeOf e.2.bytes) else none

/-- The embedding channels of an output that follow its video (R238). -/
def followChannels (t : State) (d : Nat) : Nat × Nat :=
  let r := t.ranges
  (r.sdi + r.e * d, if fmtClass (t.n (O07.OUT_FORMAT d)) = 2 then min 16 r.e else r.e)

/-- The format on which a video route from an SDI input is admitted (R227). -/
def admittedFormat (t : State) (d i : Nat) : Option Nat :=
  if t.n (O06.IN_STATE i) = 4 then some (t.n (O06.IN_FORMAT i))
  else
    let f := t.destFormat d
    let l := ((List.range 16).map fun k => f / 0x1000 * 0x1000 + k / 4 * 0x400 + k % 4 * 0x100 + fmtRate f * 16).filter fun g =>
      formatOk g && t.canLock i g
    let top := l.foldl (fun a g => max a (cellsPerTick g)) 0
    let best := l.filter fun g => cellsPerTick g == top
    match best.find? fun g => fmtScan g == fmtScan f && fmtSampling g == fmtSampling f with
    | some g => some g
    | none => best.head?

/-- The format of a video route's source (R227). -/
def sourceFormat (t : State) (d src : Nat) : Option Nat :=
  if epDevice src ≠ t.deviceId then some (t.destFormat d)
  else match epType src with
    | 1 => t.admittedFormat d (epInst src)
    | 2 => some (t.n (O05.CLIP_FORMAT (0x100 + epInst src)))
    | 3 => some (t.n (O0E.RX_FORMAT (epInst src)))
    | _ => some (t.destFormat d)

/-- The path of a video route, on the values left in force (R227, R253, R257): its plan, or the status that refuses it. -/
def routePath (t : State) (d src : Nat) : Except Nat PathPlan :=
  match t.sourceFormat d src with
  | none => .error CONFLICT
  | some f =>
    if epType src = 0 ∨ epType src = 4 then .ok ⟨d, src, f, [], []⟩
    else match t.resolvePath d src f with
      | .ok p => .ok ⟨d, src, f, p.1, p.2⟩
      | .error e => .error e

/-- A destination is protected (R241). -/
def protects (s : State) (r : Route) : Bool := r.kind != 1 && r.ddev == s.deviceId && s.b (O08.PROTECT r.dest)

/-- The conflicts of a list of routes (R185, R227, R238, R241): `t` is what the transaction would leave in force. -/
def routeConflict (s t : State) (domain : Bool) (l : List (Option Key × Route)) : Bool :=
  let names := l.map fun e => (e.2.kind, e.2.ddev, e.2.dst)
  !names.Nodup ||
  l.any fun e =>
    let r := e.2
    (match e.1 with
     | some k => r.kind != 2 * parOf k || r.dest != instOf k || r.kind == 1
     | none => false) ||
    (r.kind == 0 && epType r.src == 15) || (r.kind == 2 && epType r.src == 4) ||
    (!domain && (r.ddev != s.deviceId || (epDevice r.src != s.deviceId && !(r.kind == 1 && field r.src 15 0 == 0xFFFF)))) ||
    (r.kind != 1 && epType r.src == 2 && epDevice r.src == s.deviceId &&
      (!(t.clipUsable (0x100 + epInst r.src)) || t.n (O05.CLIP_KIND (0x100 + epInst r.src)) != 0)) ||
    s.protects r ||
    (r.kind == 1 && l.any fun e => e.2.kind == 0 && decide (e.2.dest < 0x100) && t.b (O08.AUDIO_FOLLOW e.2.dest) &&
      (let c := t.followChannels e.2.dest
       decide (c.1 ≤ r.dst ∧ r.dst < c.1 + c.2)))

/-- A refused route to a protected destination is reported (R241). -/
def protectHits (s : State) (l : List (Option Key × Route)) : State :=
  s.forEach (l.filter fun e => s.protects e.2) fun t e => (t.flag (O08.ROUTE_FLAGS e.2.dest) 32).raise 0x086 e.2.dest []

/-- The tick of a FRAME activation (R229): the status, or the tick in which line 1 of that output frame begins. -/
def frameTick (t : State) (r : Route) : Except Nat Nat :=
  let d := r.dest
  let f := t.destFormat d
  let q := rateFrac (fmtRate f)
  let nt := rasterTotal (fmtRaster f)
  let ls := lineSamples (fmtRaster f) (fmtRate f)
  let y := t.n (O07.OUT_VTS d)
  let timeTarget := t.timeTarget
  if ¬ t.b O01.TIME_VALID ∨ (d < 0x100 ∧ ¬ timeTarget) ∨ q.1 * nt * ls = 0 then .error CONFLICT
  else if 0x100 ≤ d then
    let tro := if t.n (O0D.SEND_TRO (d - 0x100)) = 0 then defaultTro f else t.n (O0D.SEND_TRO (d - 0x100))
    .ok ((r.act * q.2 * 192000 * 1000000000 + tro * 192000 * q.1) / (q.1 * 1000000000))
  else
    let v := rateFrac (t.n (O03.VTS_FRAME_RATE (0x20 + y)))
    let ratio := v.1 * q.2 / max 1 (q.1 * v.2)
    if (t.dest d).index % max 1 ratio ≠ 0 then .error RANGE
    else
      let place := r.act * nt * ls + t.n (O07.OUT_OFFSET_LINES d) * ls + t.n (O07.OUT_OFFSET_SAMPLES d)
      let den := q.1 * nt * ls
      let z : Int := (place * q.2 * 192000 * 1000000000 : Nat) + t.z 32 (O03.VTS_OFFSET (0x20 + y)) * (192000 * den : Nat)
      .ok (Int.fdiv z (den * 1000000000 : Nat)).toNat

/-- What the routes of a transaction say of its activation (R228): the status of a failing check, or none for NEXT, or the tick. -/
def routeAct (t : State) (l : List (Option Key × Route)) (act : Nat) : Except Nat Nat :=
  let own := l.filter fun e => e.2.ddev == t.deviceId || e.2.mode != 2
  let timed := own.filter fun e => e.2.mode != 0
  let step (a : Except Nat (Option Nat)) (e : Option Key × Route) : Except Nat (Option Nat) :=
    match a with
    | .error x => .error x
    | .ok o =>
      match (if e.2.mode = 2 then t.frameTick e.2 else .ok e.2.act) with
      | .error x => .error x
      | .ok n => match o with
        | some m => if m = n then .ok (some n) else .error CONFLICT
        | none => .ok (some n)
  if timed = [] then .ok act
  else if timed.length ≠ own.length then .error CONFLICT
  else match timed.foldl step (.ok none) with
    | .error x => .error x
    | .ok none => .ok act
    | .ok (some n) => if act ≠ 0 ∧ act ≠ n then .error CONFLICT else .ok n

/-- AV_DELAY's range at the matrix rate (R245). -/
def routesRange (t : State) (k : Key) : Bool :=
  if clsOf k = 8 ∧ instOf k < 0x900 ∧ parOf k = 5 then decide (t.n k ≤ 2 * t.matrixHz) else true

/-- SWITCHES_PENDING (R245). -/
def countPending (s : State) : State := s.setN O08.SWITCHES_PENDING (s.dests.filter fun e => e.2.waiting).length

/-- The fixed delay of followed audio takes effect (R239). -/
def fixedDelay (s : State) (d : Nat) : State :=
  if s.b (O08.AUDIO_FOLLOW d) then
    if s.n (O08.AV_DELAY_MODE d) = 0 then s.setN (O08.AUDIO_DELAY_APPLIED d) (s.n (O08.AV_DELAY d)) else s.autoDelay d
  else s.setN (O08.AUDIO_DELAY_APPLIED d) 0

/-- A video route comes into force (R230, R233, R238). -/
def videoRoute (s : State) (r : Route) (fmt : Nat) (conv : Bool) : State :=
  let d := r.dest
  let x := s.dest d
  let t := if x.waiting then
      ((s.bump (O08.SUPERSEDED d) 1).flag (O08.ROUTE_FLAGS d) 2).raise 0x081 d (d32 (s.n (O08.PENDING_SOURCE d)))
    else s
  let t := (t.setBytes (O08.VIDEO_ROUTE d) r.bytes).setN (O08.PENDING_SOURCE d) r.src
  let t := (t.setDest d { t.dest d with
      waiting := true, since := s.now + 1, armed := false, next := none, nextFmt := fmt, nextConv := conv }).setN (O08.ROUTE_STATE d) 1
  let t := if d < 0x100 ∧ s.b (O08.AUDIO_FOLLOW d) then t.followAudio d r.src else t
  t.countPending

/-- An ancillary route comes into force (R230, R236). -/
def ancRoute (s : State) (r : Route) : State :=
  let d := r.dest
  let x := s.dest d
  (s.setBytes (O08.ANC_ROUTE d) r.bytes).setDest d
    { x with ancWait := true, nextAnc := r.src, since := if x.waiting then x.since else s.now + 1, armed := x.armed && x.waiting }

/-- A route comes into force (R230): an AUDIO route at its channel. -/
def routeApplied (s : State) (r : Route) (p : Option PathPlan) : State :=
  if r.ddev ≠ s.deviceId then s
  else match r.kind with
    | 0 => s.videoRoute r ((p.map (·.fmt)).getD (s.destFormat r.dest)) (((p.map (·.chain)).getD []) != [])
    | 1 => s.audioRoute r.dst (field r.src 15 0)
    | _ => s.ancRoute r

/-- What an applied transaction changes in class 08 beside the routes (R239). -/
def routesApplied (s : State) (k : Key) : State :=
  if instOf k < 0x900 ∧ 3 ≤ parOf k ∧ parOf k ≤ 5 then s.fixedDelay (instOf k) else s

/-- The streams that a destination's switch releases: they leave when the last destination of their transaction has switched
(R66, R232). -/
def releaseStreams (s : State) (d : Nat) : State :=
  let mine := (s.chain.later.filter fun e => e.2.1 == d).map (·.1)
  let later : List (Nat × Nat × Nat) := s.chain.later.map fun e => if e.2.1 = d then (e.1, 0xFFFF, e.2.2) else e
  let busy (tx : Nat) : Bool := later.any fun e => e.1 == tx && e.2.1 != 0xFFFF
  let done (e : Nat × Nat × Nat) : Bool := mine.contains e.1 && !busy e.1
  let t := { s with chain := { s.chain with
    later := later.filter fun e => !(done e)
    removals := s.chain.removals ++ ((later.filter done).map fun (e : Nat × Nat × Nat) => e.2.2) } }
  let old : List (Nat × Nat × Nat) := s.chain.later.filter fun e => e.2.1 == d
  t.forEach (old.map fun (e : Nat × Nat × Nat) => e.2.2) fun t id => t.onDesc id fun x => { x with state := 3 }

/-- The streams of the new source are requested: line groups 0 and 1 (R57, R232). -/
def startStreams (s : State) (d : Nat) : State :=
  s.forEach (s.fabric.desc.filter fun e => tagPath e.2.dest == d && e.2.state == 1) fun t e =>
    t.onDesc e.1 Desc.start

/-- A destination cuts to the source that waits (R230, R232, R236, R239). -/
def switchRoute (s : State) (d : Nat) : State :=
  let x := s.dest d
  let t := if x.ancWait then s.setDest d { x with ancWait := false, anc := x.nextAnc } else s
  if ¬ x.waiting then ((t.setDest d { t.dest d with armed := false }).releaseStreams d).startStreams d
  else
    let src := s.n (O08.PENDING_SOURCE d)
    let local_ := s.isSync src
    let t := t.setDest d { t.dest d with
      waiting := false, armed := false, read := x.next, next := none, fmt := x.nextFmt, conv := x.nextConv,
      lost := false, mismatch := false, lostFrames := 0 }
    let t := (((t.setN (O08.CURRENT_SOURCE d) src).clearObj (O08.PENDING_SOURCE d)).setN (O08.LAST_SWITCH d) s.tick64).bump
      (O08.SWITCH_COUNT d) 1
    let t := (t.setN (O08.ROUTE_STATE d) (if epType src = 0 then 0 else 2)).flag (O08.ROUTE_FLAGS d) 1
    let t := (t.releaseStreams d).startStreams d
    let t := t.raise 0x080 d (d32 src ++ d64 s.tick64)
    let frc := x.nextConv && t.frcPath d
    let t := if local_ ∧ ((¬ frc ∧ x.next = none) ∨ (frc ∧ ¬ t.selectable_ (State.syncKey src) x.nextFmt)) then
        t.lossFrame d (t.mismatched (State.syncKey src) x.nextFmt)
      else t
    let t := (t.setN (O08.SOURCE_SYNC d) (t.sourceSync d src)).autoDelay d
    (if d < 0x100 then t.followDue d else t).countPending

/-- The audio frame number and the state of an embedder at a frame start (R332, R333). -/
def embedFrame (s : State) (d index : Nat) : State :=
  if 0x100 ≤ d then s
  else
    let f := s.n (O07.OUT_FORMAT d)
    let q := rateFrac (fmtRate f)
    let v := rateFrac (s.n (O03.VTS_FRAME_RATE (0x20 + s.n (O07.OUT_VTS d))))
    let ratio := max 1 (v.1 * q.2 / max 1 (q.1 * v.2))
    let k := O0C.AUDIO_FRAME (0xD00 + d)
    let n := if rateFractional (fmtRate f) ∧ fmtRate f ≠ 1 then
        (if (s.dest d).realign then index / ratio % 5 + 1 else s.n k % 5 + 1)
      else 1
    let t := (s.setN k n).setN (O0C.EMBED_STATE (0xD00 + d)) (decide (2 ≤ s.n (O07.OUT_STATE d) ∧ 2 ≤ fmtClass f)).toNat
    t.setDest d { t.dest d with realign := false, index := index }

/-- What an output inserts in a frame, for each link of its group (R193, R200, R214): the link's number, its ST 352 payload ID, line CRCs and line
numbers at 1.5G and above, and EDH with fresh CRCs and no error flag on SD. The code of the payload ID is ST 352's, which the spec does not
repeat: it is open, a function of what R214 makes it from (log entry 6). -/
def insertFrame (s : State) (o : Nat) : State :=
  let f := s.n (O07.OUT_FORMAT o)
  let c := fmtClass f
  let level := if c = 3 then s.n (O07.OUT_3G_LEVEL o) + 1 else 0
  let pid (link : Nat) : Nat := Config.openResult 19 [f, level, link, s.n (O07.OUT_COLOUR o)] % 2 ^ 32
  let crc := decide (2 ≤ c)
  let edh := c == 1 && s.b (O07.OUT_EDH o)
  s.forEach ((s.outGroup o).zipIdx) fun t e =>
    t.emit (.media 0x27 e.1 [s.n (O07.OUT_STATE o), e.2 + 1, pid (e.2 + 1), crc.toNat, edh.toNat])

/-- The picture of the next frame, where a path that feeds the source on air primes or is shed (R274, R276). -/
def nextPicture (s : State) (d written : Nat) : State :=
  let x := s.dest d
  if x.conv ∧ ¬ x.waiting ∧ (s.n (O09.PATH_STATE d) = 1 ∨ s.n (O09.PATH_STATE d) = 3) then s.lossFrame d false
  else s.pictureFrame d written

/-- The index of the VTS frame on which an output's frame begins (R212, R229, R721). -/
def outIndex (s : State) (d : Nat) : Nat := (s.synth (s.n (O07.OUT_VTS d))).index.getD 0

/-- Line 1 of an output frame of a destination that the chain serves. -/
def frameStart (s : State) (d written : Nat) : State :=
  let was := s.dest d
  let index := s.outIndex d
  let idle := decide (d < 0x100 ∧ s.n (O07.OUT_STATE d) < 2)
  let t := (s.leaveIdle d).countSubst d
  let t := (t.stepTiming d).pathFrame d
  if d < 0x100 ∧ t.n (O07.OUT_STATE d) < 2 then t.setDest d { t.dest d with index := index }
  else
    let t := if d < 0x100 then t.bump (O07.FRAMES_OUT d) 1 else t
    let due := (was.waiting || was.ancWait) && decide (was.since ≤ s.now)
    let src := t.n (O08.PENDING_SOURCE d)
    let pick := if was.waiting ∧ t.isSync src ∧ ¬ (was.nextConv ∧ t.frcPath d) then t.firstSelection (State.syncKey src) was.nextFmt written else none
    let t := if due then t.setDest d { t.dest d with armed := true, next := pick } else t
    let t := if due ∧ (idle ∨ was.resume) then t.switchRoute d else t
    let t := (if t.clocks.hbmBypass ∧ d < 0x100 then t.setN (O07.OUT_STATE d) 2 else t.nextPicture d written).beginStreams d
    ((if d < 0x100 then t.insertFrame d else t).embedFrame d index)

end State

/-- Line 1 of an output frame (R209 to R217, R230, R243, R333). In SAFE HOLD the output sends black. -/
def execOutputFrameStart (dest written : Nat) (s : State) : Host.Outcome State Fault Refusal :=
  onInst 0x08 dest s fun s =>
    if 0x900 ≤ dest then s
    else if s.running then (s.restartStreams fun x => tagPath x.dest == dest).frameStart dest written
    else if dest < 0x100 ∧ 2 ≤ s.n (O07.OUT_STATE dest) then
      ((s.bump (O07.FRAMES_OUT dest) 1).insertFrame dest).embedFrame dest (s.outIndex dest)
    else s

/-- The switching line of a destination's switch frame (R232). -/
def execSwitchingLine (dest : Nat) (s : State) : Host.Outcome State Fault Refusal :=
  onInst 0x08 dest s fun s => if dest < 0x900 ∧ (s.dest dest).armed ∧ s.running then s.switchRoute dest else s

/-- A write of PROTECT (R241). -/
def execProtect (dest : Nat) (value : Bool) (s : State) : Host.Outcome State Fault Refusal :=
  onInst 0x08 dest s fun s => if s.served ∧ dest < 0x900 then s.setB (O08.PROTECT dest) value else s

end Sys2Proof.Machine
end

