-- ==== Sys2Proof/Machine/Bridge.lean ====
section
/-! DEFINITION. The internal bridge: ports, VLANs, the filtering database, queues, MACsec, policing, shaping and gates, and the
commands that act on them (R345 to R359, R382 to R411). -/

namespace Sys2Proof.Machine

/-- PORT_MODE of a LANE_MODE (R345, R412). -/
def modePort : Nat → Nat
  | 2 => 1 | 3 => 2 | 4 => 3 | 6 => 4 | 7 => 5 | 8 => 6 | _ => 0

/-- The rate of a PORT_MODE in kb/s (R345, R362). -/
def modeKbps : Nat → Nat
  | 1 => 10000000 | 2 => 25000000 | 3 => 100000000 | 4 => 100000000 | 5 => 100000000 | 6 => 400000000 | 7 => 1200000000 | _ => 0

/-- The destination address of a frame, its source, and its EtherType. -/
def frameDst (b : List Byte) : Nat := natBE (b.take 6)
def frameSrc (b : List Byte) : Nat := natBE (slice b 6 6)
def frameType (b : List Byte) : Nat := natBE (slice b 12 2)

/-- A group address. -/
def isGroup (mac : Nat) : Bool := bit mac 40

/-- A shaper or policer level after `k` slots at a rate, capped by its burst (R388, R402). -/
def refill (level : Int) (rate burst k : Nat) : Int := min (level + (rate * k : Nat)) (burst * 768000 : Nat)

/-- The entries of an ADMIN_LIST: gates and interval (R398). The first argument bounds their number. -/
def gateEntries : Nat → List Byte → List (Nat × Nat)
  | 0, _ => []
  | n + 1, b => if b.length < 8 then [] else ((b.headD 0).toNat, natBE (slice b 4 4)) :: gateEntries n (b.drop 8)

/-- A cycle as segments: gates and length in ns, cut off or held to the cycle's end (R398). -/
def segments : List (Nat × Nat) → Nat → List (Nat × Nat)
  | [], _ => []
  | [e], left => [(e.1, left)]
  | e :: l, left => if left ≤ e.2 then [(e.1, left)] else e :: segments l (left - e.2)

/-- The segments from a phase of the cycle on. -/
def fromPhase : List (Nat × Nat) → Nat → List (Nat × Nat)
  | [], _ => []
  | e :: l, p => if p < e.2 then (e.1, e.2 - p) :: l else fromPhase l (p - e.2)

/-- How long a gate stays open from the first segment on; none while it never closes. -/
def openFor (tc : Nat) : List (Nat × Nat) → Nat → Option Nat
  | [], _ => none
  | e :: l, acc => if bit e.1 tc then openFor tc l (acc + e.2) else some acc

/-- The longest open run of a gate in segments: present run and longest so far. -/
def longestOpen (tc : Nat) (l : List (Nat × Nat)) : Nat :=
  (l.foldl (fun (a : Nat × Nat) e => if bit e.1 tc then (a.1 + e.2, max a.2 (a.1 + e.2)) else (0, a.2)) (0, 0)).2

/-- A list's segments over its cycle. -/
def GateList.segs (g : GateList) : List (Nat × Nat) := segments g.list g.cycle

/-- The time of a slot in ns, rounded down (R383, R398). -/
def slotNs (slot : Nat) : Nat := slot * 125 / 12

/-- The first slot at or after a time in ns (R398). -/
def nsSlot (ns : Nat) : Nat := ceilDiv (ns * 12) 125

/-- TIME80 as ns, and the reverse (R18). -/
def timeNs (t : Nat) : Nat := t / 2 ^ 32 * 1000000000 + t % 2 ^ 32
def nsTime (ns : Nat) : Nat := ns / 1000000000 * 2 ^ 32 + ns % 1000000000

/-- The first cycle start of a base that is at or after a time (R400). -/
def laterBase (base cycle ns : Nat) : Nat := if ns ≤ base then base else base + ceilDiv (ns - base) (max 1 cycle) * cycle

namespace State

/-- PORT_MODE of a bridge port: a port of several lanes takes the number of its first lane (R345). -/
def portMode (s : State) (p : Nat) : Nat :=
  if 224 ≤ p then 7 else modePort (s.n (O11.LANE_MODE (if p < 192 then p else 0x100 + (p - 192))))

/-- The rate of a bridge port in kb/s. -/
def portKbps (s : State) (p : Nat) : Nat := modeKbps (s.portMode p)

/-- An external bridge port. -/
def external (p : Nat) : Bool := decide (p < 224)

/-- A bridge port's link is up; an internal media port has no link. -/
def linkUp (s : State) (p : Nat) : Bool := decide (224 ≤ p) || s.n (O0F.LINK_STATE p) == 1

/-- Bridge ports present. -/
def bridgePorts (s : State) : List Nat := (List.range 232).filter fun p => s.present 0x0F p

/-- The wheel slot of the present tick as slot time (R383). -/
def slotAt (s : State) (k : Nat) : Nat := s.tick64 * 500 + k

/-- Change the bridge's own state. -/
def onNet (s : State) (f : NetSt → NetSt) : State := { s with net := f s.net }

/-- A port's MACsec is in use (R355). -/
def secured (s : State) (p : Nat) : Bool := external p && s.n (O0F.MACSEC_MODE p) != 0

/-- The port is in the untagged set of a VID (R348). -/
def untaggedOn (s : State) (vid p : Nat) : Bool :=
  match SMap.find? s.net.vlans vid with
  | some v => bit v.untagged p
  | none => false

/-- Metered bytes of a frame as transmitted on a port, without preamble and gap (R387). -/
def frameLen (s : State) (p : Nat) (f : Frame) : Nat :=
  f.body.length + 4 + (if s.untaggedOn f.vid p then 0 else 4) + (if s.secured p then 32 else 0)

/-- The slots that a frame takes on a port, rounded up. -/
def frameSlots (s : State) (p : Nat) (f : Frame) : Nat := ceilDiv ((s.frameLen p f + 20) * 8 * 96000) (max 1 (s.portKbps p))

/-- Bytes of an egress queue. -/
def queueBytes (s : State) (q : Nat) : Nat := ((s.net.queues.getD q []).map fun f => s.frameLen (q / 8) f).foldl (· + ·) 0

/-- A TC whose buffer a port reserves (R351). -/
def mediaTc (s : State) (tc : Nat) : Bool := bit (s.n O0F.MEDIA_TCS) tc

/-- Bytes of the shared part of the packet buffer in use (R351). -/
def sharedUsed (s : State) : Nat :=
  let ports := (s.net.queues.map fun q => q.1 / 8).eraseDups
  (ports.map fun p =>
    let of (m : Bool) : Nat := (((List.range 8).filter fun t => s.mediaTc t == m).map fun t => s.queueBytes (8 * p + t)).foldl (· + ·) 0
    of false + (if external p then of true - 524288 else of true)).foldl (· + ·) 0

/-- A frame does not fit its egress queue, or the shared part (R351). A port that is OFF reserves nothing: were every external port of a
TMN-9624 to reserve its part, nothing of the buffer would be left to share (DEDUCED, log entry 22). -/
def bufferFull (s : State) (p : Nat) (f : Frame) : Bool :=
  let len := s.frameLen p f
  let media := (((List.range 8).filter s.mediaTc).map fun t => s.queueBytes (8 * p + t)).foldl (· + ·) 0
  let shared := 67108864 - 524288 * (s.bridgePorts.filter fun q => external q && s.portMode q != 0).length
  decide (s.n O0F.QUEUE_LIMIT ≤ s.queueBytes (8 * p + f.pcp)) ||
  (!(external p && s.mediaTc f.pcp && decide (media + len ≤ 524288)) && decide (shared < s.sharedUsed + len))

/-- The gate states of a port at a slot (R398): every gate is open without a list. -/
def gatesAt (s : State) (p slot : Nat) : Nat :=
  if ¬ s.b (O10.GATE_ENABLE (0x800 + p)) then 0xFF
  else match SMap.find? s.net.gates p with
    | some ⟨some g, _, _⟩ => if g.cycle = 0 then 0xFF else ((fromPhase g.segs ((slotNs slot - g.base) % g.cycle)).headD (0xFF, 0)).1
    | _ => 0xFF

/-- The slots from `cur` to `end_` in which a TC's gate is open: `l` are the segments from the time `ns` on, those of the cycle follow (R392, R398).
The first argument bounds their number. -/
def openSlots (segs : List (Nat × Nat)) (tc end_ : Nat) : Nat → List (Nat × Nat) → Nat → Nat → Nat
  | 0, _, _, _ => 0
  | f + 1, [], ns, cur => openSlots segs tc end_ f segs ns cur
  | f + 1, e :: l, ns, cur =>
    if end_ ≤ cur then 0
    else
      let to_ := min end_ (max cur (nsSlot (ns + e.2)))
      (if bit e.1 tc then to_ - cur else 0) + openSlots segs tc end_ f l (ns + e.2) to_

/-- The slots of an interval in which a TC's gate is open (R398). -/
def slotsOpen (s : State) (p tc from_ end_ : Nat) : Nat :=
  if ¬ s.b (O10.GATE_ENABLE (0x800 + p)) then end_ - from_
  else match SMap.find? s.net.gates p with
    | some ⟨some g, _, _⟩ =>
      if g.cycle = 0 then end_ - from_
      else openSlots g.segs tc end_ ((slotNs end_ - slotNs from_ + g.cycle) / g.cycle * (g.segs.length + 1) + g.segs.length + 2)
        (fromPhase g.segs ((slotNs from_ - g.base) % g.cycle)) (slotNs from_) from_
    | _ => end_ - from_

/-- How long a TC's gate stays open from a slot on, in ns; none while it does not close (R401). -/
def openLeft (s : State) (p tc slot : Nat) : Option Nat :=
  if ¬ s.b (O10.GATE_ENABLE (0x800 + p)) then none
  else match SMap.find? s.net.gates p with
    | some ⟨some g, _, _⟩ =>
      if g.cycle = 0 then none else openFor tc (fromPhase g.segs ((slotNs slot - g.base) % g.cycle) ++ g.segs ++ g.segs) 0
    | _ => none

/-- The longest open interval of a TC's gate in ns; none while it does not close (R401). -/
def openMost (s : State) (p tc : Nat) : Option Nat :=
  if ¬ s.b (O10.GATE_ENABLE (0x800 + p)) then none
  else match SMap.find? s.net.gates p with
    | some ⟨some g, _, _⟩ => if g.segs.all fun e => bit e.1 tc then none else some (longestOpen tc (g.segs ++ g.segs))
    | _ => none

/-- The TC and the idleSlope of a credit-based class of a port (R392). -/
def cbsTc (s : State) (p c : Nat) : Nat := s.n (if c = 0 then O10.CBS_A_TC (0x800 + p) else O10.CBS_B_TC (0x800 + p))
def cbsIdle (s : State) (p c : Nat) : Nat := s.n (if c = 0 then O10.CBS_A_IDLE (0x800 + p) else O10.CBS_B_IDLE (0x800 + p))

/-- A class's credit brought up to the start of a slot, over the slots in which its gate is open (R392); in SAFE HOLD credits are held (R404). -/
def cbsTo (s : State) (p c slot : Nat) : CbsSt :=
  let x := s.net.cbs.getD (2 * p + c) ⟨0, slot, 0⟩
  if s.safeHold ∨ slot ≤ x.slot then { x with slot := max x.slot slot } else
  let tx := min (x.busy - x.slot) (slot - x.slot)
  let idle := s.cbsIdle p c
  let y := x.credit - (((s.portKbps p : Int) - idle) * tx)
  let tc := s.cbsTc p c
  let rest := s.slotsOpen p tc (x.slot + tx) slot
  let waits := (s.net.queues.getD (8 * p + tc) []) != []
  let z : Int := if rest = 0 then y
    else if waits then y + (idle * rest : Nat)
    else if 0 < y then 0 else min 0 (y + (idle * rest : Nat))
  { x with credit := z, slot := slot }

/-- The credits of a port's classes are brought up to a slot, and CBS_CREDIT with them. -/
def cbsAdvance (s : State) (p slot : Nat) : State :=
  if s.cbsTc p 0 = 0xFF ∧ s.cbsTc p 1 = 0xFF then s
  else
    let a := s.cbsTo p 0 slot
    let b := s.cbsTo p 1 slot
    (s.onNet fun x => { x with cbs := (x.cbs.put (2 * p) a).put (2 * p + 1) b }).setBytes (O10.CBS_CREDIT (0x800 + p))
      (s64 (if s.cbsTc p 0 = 0xFF then 0 else a.credit) ++ s64 (if s.cbsTc p 1 = 0xFF then 0 else b.credit))

/-- A frame enters the queue of its TC in a slot (R351); where it is the first of a credit-based class, the credit is brought up to then (R392). -/
def enqueue (s : State) (p slot : Nat) (f : Frame) : State :=
  let q := 8 * p + f.pcp % 8
  let t := if s.net.queues.getD q [] = [] ∧ (s.cbsTc p 0 = f.pcp % 8 ∨ s.cbsTc p 1 = f.pcp % 8) then s.cbsAdvance p slot else s
  t.onNet fun x => { x with queues := x.queues.put q (x.queues.getD q [] ++ [f]) }

/-- A TC's credit permits a start (R385, R392). -/
def creditOk (s : State) (p tc : Nat) : Bool :=
  [0, 1].all fun c => s.cbsTc p c != tc || decide (0 ≤ (s.net.cbs.getD (2 * p + c) ⟨0, 0, 0⟩).credit)

/-- The enabled stream filters, lowest first (R386). -/
def filters (s : State) : List Nat :=
  (s.objs.filter fun e => clsOf e.1 == 0x10 && decide (instOf e.1 < 0x800) && parOf e.1 == 0 && e.2.toNat != 0).map fun e => instOf e.1

/-- The filter that takes a bridged frame (R386, R407). -/
def filterOf (s : State) (port : Nat) (f : Frame) : Option Nat :=
  s.filters.find? fun i =>
    let m := padTo 16 (s.bs (O10.SF_MATCH i))
    let p := natBE (slice m 2 2)
    let v := natBE (slice m 10 2)
    (m.headD 0) == 0 && (p == 0xFFFF || p == port) && natBE (slice m 4 6) == frameDst f.body && (v == 0 || v == f.vid) &&
      bit (m.getD 1 0).toNat f.pcp

/-- The filter that takes a sender's packets (R386). -/
def filterOfSender (s : State) (sender : Nat) : Option Nat :=
  s.filters.find? fun i =>
    let m := padTo 16 (s.bs (O10.SF_MATCH i))
    (m.headD 0) == 1 && natBE (slice m 2 2) == sender

/-- A matched frame's maximum SDU and policer (R402, R403): none where it is dropped, with the state in each case. -/
def police (s : State) (i len slot : Nat) : Bool × State :=
  let s := s.bump (O10.SF_FRAMES i) 1
  if s.n (O10.MAX_SDU i) ≠ 0 ∧ s.n (O10.MAX_SDU i) < len then
    (false, ((s.bump (O10.SDU_DROPS i) 1).flag (O10.SF_FLAGS i) 2).raiseLim 0x102 i [] 192000)
  else if ¬ s.b (O10.POL_ENABLE i) then (true, s)
  else
    let b := s.net.policers.getD i ⟨(s.n (O10.POL_BURST i) * 768000 : Nat), slot⟩
    let l := if s.safeHold then b.level else refill b.level (s.n (O10.POL_RATE i)) (s.n (O10.POL_BURST i)) (slot - b.slot)
    let put (l : Int) : State := s.onNet fun x => { x with policers := x.policers.put i ⟨l, slot⟩ }
    if ((len * 768000 : Nat) : Int) ≤ l then (true, put (l - (len * 768000 : Nat)))
    else (false, (((put l).bump (O10.POL_DROPS i) 1).flag (O10.SF_FLAGS i) 1).raiseLim 0x101 i [] 192000)

/-- A shaper's level brought up to a slot (R388); in SAFE HOLD it is held (R404). -/
def shapeTo (s : State) (x : ShapeSt) (slot : Nat) : ShapeSt :=
  { x with level := if s.safeHold then x.level else refill x.level x.rate x.burst (slot - x.slot), slot := max x.slot slot }

/-- Frames leave a shaper in a slot while its level is at least 0; then the next eligible time is entered (R388). At a rate of 0 they stay (R389). -/
def shapeDrain : List Frame → State → ShapeSt → State × ShapeSt
  | [], s, x => (s, { x with queue := [], elig := none })
  | f :: l, s, x =>
    if 0 ≤ x.level ∧ x.rate ≠ 0 then
      shapeDrain l (s.enqueue x.port x.slot f) { x with level := x.level - ((s.frameLen x.port f + 20) * 768000 : Nat) }
    else
      (s, { x with queue := f :: l, elig := if x.rate = 0 then none else some (x.slot + ceilDiv x.level.natAbs x.rate) })

/-- Metered bytes of a shaper's queue (R387, R391). -/
def shapeBytes (s : State) (x : ShapeSt) : Nat := (x.queue.map fun f => s.frameLen x.port f + 20).foldl (· + ·) 0

/-- What class 10 reports of a filter's shaper. -/
def shapeReport (s : State) (i : Nat) (x : ShapeSt) : State :=
  ((s.setZ 64 (O10.SH_LEVEL i) x.level).setN (O10.SH_QUEUED i) (s.shapeBytes x)).setN
    (O10.SH_ELIGIBLE i) (x.elig.getD 0)

/-- A shaper runs in a slot. -/
def shapeRun (s : State) (i slot : Nat) : State :=
  match SMap.find? s.net.shapers i with
  | none => s
  | some x =>
    let y := s.shapeTo x slot
    let r := shapeDrain y.queue s y
    (r.1.onNet fun n => { n with shapers := n.shapers.put i r.2 }).shapeReport i r.2

/-- A draining shaper runs in a slot (R391). -/
def drainRun (s : State) (i slot : Nat) : State :=
  match SMap.find? s.net.drains i with
  | none => s
  | some x =>
    let y := s.shapeTo x slot
    let r := shapeDrain y.queue s y
    r.1.onNet fun n => { n with drains := if r.2.queue = [] then n.drains.del i else n.drains.put i r.2 }

/-- A frame enters a flow shaper (R388, R391). -/
def shapeIn (s : State) (i slot : Nat) (f : Frame) : State :=
  let new : ShapeSt := ⟨(s.n (O10.SH_BURST i) * 768000 : Nat), slot, s.n (O10.SH_RATE i), s.n (O10.SH_BURST i), s.n (O10.SH_PORT i), [], none⟩
  let x := s.net.shapers.getD i new
  if s.n (O10.SH_QLIMIT i) < s.shapeBytes { x with queue := x.queue ++ [f] } then
    ((s.bump (O10.SH_DROPS i) 1).flag (O10.SF_FLAGS i) 4).raiseLim 0x100 i [] 192000
  else
    let t := s.onNet fun n => { n with shapers := n.shapers.put i { x with queue := x.queue ++ [f] } }
    if x.queue = [] then t.shapeRun i slot
    else t.shapeReport i { x with queue := x.queue ++ [f] }

/-- A frame leaves the bridge towards a port: through its flow shaper, or into its queue (R385). -/
def towards (s : State) (p slot : Nat) (filter : Option Nat) (f : Frame) : State :=
  match filter with
  | some i => if external p ∧ s.b (O10.SH_ENABLE i) ∧ s.n (O10.SH_PORT i) = p then s.shapeIn i slot f else s.enqueue p slot f
  | none => s.enqueue p slot f

/-- The internal media ports that a group's entry holds for the device's own receivers, with their VID (R350, R369). -/
def rxMembers (s : State) (mac vid : Nat) : Nat :=
  let l := (s.objs.filter fun e => clsOf e.1 == 0x0E && parOf e.1 == 0 && e.2.toNat != 0).map fun e => instOf e.1
  (l.filter fun r => [0, 1].any fun c =>
    let path := s.n (if c = 0 then O0E.RX_PATH_A r else O0E.RX_PATH_B r)
    let g := natBE (slice (padTo 8 (s.bs (O0E.RX_GROUPS r))) (4 * c) 4)
    path % 0x10000 != 0xFFFF && g / 0x10000000 == 14 && groupMac g == mac && s.n (O0F.IF_VID (0x100 + field path 21 16)) == vid).foldl
    (fun a r => setBits a (2 ^ (224 + r / 256))) 0

/-- The ports to which a frame of a VLAN goes (R349, R350, R353). -/
def egress (s : State) (v : VlanEnt) (ingress : Nat) (f : Frame) : List Nat :=
  let mac := frameDst f.body
  let k := mac * 4096 + f.vid
  let set := if isGroup mac then
      let imp := s.rxMembers mac f.vid
      match SMap.find? s.net.mcast k with
      | some m => setBits m imp &&& v.members
      | none => if imp ≠ 0 then imp &&& v.members else if mac = 0xFFFFFFFFFFFF ∨ v.flood then v.members else 0
    else match SMap.find? s.net.fdb k with
      | some e => 2 ^ e.port &&& v.members
      | none => v.members
  s.bridgePorts.filter fun p => bit set p && p != ingress && (!(external p) || s.n (O0F.STP_STATE p) == 2) && s.portMode p != 0

/-- The bucket of an address: the keyed hash is the device's own (R349; log entry 6). -/
def fdbBucket (s : State) (k : Nat) : Nat := Config.openResult 3 [s.net.fdbKey, k] % 16384

/-- An address is learned on a port (R349). -/
def learn (s : State) (p vid mac : Nat) : State :=
  let k := mac * 4096 + vid
  if isGroup mac then s
  else match SMap.find? s.net.fdb k with
    | some e => if e.fixed then s else s.onNet fun n => { n with fdb := n.fdb.put k ⟨p, false, s.now⟩ }
    | none =>
      if 4 ≤ (s.net.fdb.filter fun e => s.fdbBucket e.1 == s.fdbBucket k).length then
        (s.bump O0F.FDB_FULL 1).raiseLim 0x0F3 0x200 [] 192000
      else s.onNet fun n => { n with fdb := n.fdb.put k ⟨p, false, s.now⟩ }

/-- A frame dropped at ingress (R347, R348, R404). -/
def dropIn (s : State) (p : Nat) : State := s.bump (O0F.DROPS p) 1

/-- A frame that is dropped at a port of ingress because its egress buffer is full (R351). -/
def bufferDrop (s : State) (p : Nat) : State := ((s.dropIn p).flag (O0F.PORT_FLAGS p) 8).raiseLim 0x0F5 p [] 192000

/-- Forwarding of a classified frame (R347 to R351, R385). -/
def forward (s : State) (p slot : Nat) (v : VlanEnt) (f : Frame) (filter : Option Nat) : State :=
  s.forEach (s.egress v p f) fun t q =>
    if 224 ≤ q then t.bumpPair (O0F.FRAMES_IO q) true 1
    else if t.bufferFull q f then t.bufferDrop p
    else t.towards q slot filter f

/-- A frame is trapped (R353): one longer than the record's FRAME drops (log entry 41). -/
def trapFrame (s : State) (p : Nat) (b : List Byte) : State :=
  if 1518 < b.length then s.dropIn p
  else if 256 ≤ s.net.trap.length then (s.dropIn p).raise 0x0F4 p []
  else s.onNet fun n => { n with trap := n.trap ++ [d16 p ++ d16 b.length ++ d64 s.tick64 ++ b] }

/-- The interface that holds an address on a VID (R354). -/
def ifaceOf (s : State) (vid ip : Nat) : Option Nat :=
  (List.range 64).find? fun i => s.b (O0F.IF_ENABLE (0x100 + i)) && s.n (O0F.IF_ADDR (0x100 + i)) == ip && s.n (O0F.IF_VID (0x100 + i)) == vid

/-- The MAC address of an interface (R354). -/
def ifaceMac (s : State) (i : Nat) : Nat := natBE (s.bs O00.BASE_MAC) + 1 + i

/-- The device terminates ESMC, and on the ports of its PTP instances PTP, over Ethernet or over UDP/IPv4 (R112, R353, R359). -/
def linkLocal (s : State) (p : Nat) (b : List Byte) : Bool :=
  let ihl := (b.getD 14 0).toNat % 16 * 4
  let udp := natBE (slice b (14 + ihl + 2) 2)
  frameType b == 0x8809 ||
  ((frameType b == 0x88F7 || (frameType b == 0x0800 && (b.getD 23 0).toNat == 17 && (udp == 319 || udp == 320))) &&
    (List.range 4).any fun i => s.ptpOn (0x20 + i) p)

/-- A frame for the device's own interfaces: ARP and echo requests are answered (R353, R354). None where the frame is the bridge's. -/
def terminate (s : State) (p slot vid pcp : Nat) (b : List Byte) : Option State :=
  let et := frameType b
  if et = 0x0806 then
    let target := natBE (slice b 38 4)
    match s.ifaceOf vid target with
    | none => none
    | some i =>
      if natBE (slice b 20 2) = 1 then
        let mac := bytesBE 6 (s.ifaceMac i)
        let r := slice b 6 6 ++ mac ++ d16 0x0806 ++ slice b 14 6 ++ d16 2 ++ mac ++ d32 target ++ slice b 22 10
        some (s.enqueue p slot ⟨r, vid, pcp, 0xFFFF, 0, false⟩)
      else some s
  else if et = 0x0800 then
    match s.ifaceOf vid (natBE (slice b 30 4)) with
    | none => none
    | some i =>
      if (b.getD 23 0) = 1 ∧ (b.getD 34 0) = 8 then
        let r := slice b 6 6 ++ bytesBE 6 (s.ifaceMac i) ++ slice b 12 14 ++ slice b 30 4 ++ slice b 26 4 ++ [0, 0] ++
          bytesBE 2 ((natBE (slice b 36 2) + 0x800) % 0x10000 + (natBE (slice b 36 2) + 0x800) / 0x10000) ++ b.drop 38
        some (s.enqueue p slot ⟨r, vid, pcp, 0xFFFF, 0, false⟩)
      else some s
  else none

/-- The key of a secure association. -/
def saKey (p dir sc an : Nat) : Nat := ((p * 2 + dir) * 16 + sc) * 4 + an

/-- The IV of a protected frame (R355): the SCI and the PN, or the salt with the SSCI and the 64-bit PN. -/
def saIv (xpn : Bool) (a : SaSt) (pn : Nat) : List Byte :=
  if xpn then (List.zip (padTo 12 a.salt) (bytesBE 4 a.ssci ++ bytesBE 8 pn)).map fun e => e.1 ^^^ e.2
  else bytesBE 8 a.sci ++ bytesBE 4 pn

/-- The last packet number of a cipher, and its warning point (R357). -/
def pnTop (xpn : Bool) : Nat := if xpn then 2 ^ 64 - 1 else 2 ^ 32 - 1
def pnWarn (xpn : Bool) : Nat := if xpn then 2 ^ 62 else 0xC0000000

/-- A frame is protected for transmission (R355, R357): none where it drops. -/
def protectTx (s : State) (p : Nat) (body : List Byte) : Option (List Byte) × State :=
  let xpn := s.n (O0F.MACSEC_CIPHER p) == 1
  let an := s.net.txAn.getD p 0
  let k := saKey p 0 0 an
  match SMap.find? s.net.sas k with
  | none => (none, s.bump (O0F.MACSEC_DROPS p) 1)
  | some a =>
    if pnTop xpn ≤ a.pn then (none, s.bump (O0F.MACSEC_DROPS p) 1)
    else
      let c := s.n (O0F.MACSEC_OFFSET p)
      let tag := d16 0x88E5 ++ d8 (0x20 + 0x0C + an) ++ d8 (if body.length - 12 < 48 then body.length - 12 else 0) ++
        bytesBE 4 (a.pn % 2 ^ 32) ++ bytesBE 8 a.sci
      let aad := body.take 12 ++ tag ++ slice body 12 c
      let pt := body.drop (12 + c)
      let iv := saIv xpn a a.pn
      let ct := bytesBE pt.length (Config.gcmSeal a.key iv aad pt)
      let n := a.pn + 1
      let t := (s.onNet fun x => { x with sas := x.sas.put k { a with pn := n } }).setN (O0F.TX_PN p) n
      let t := if pnWarn xpn ≤ n ∧ (a.pn < pnWarn xpn ∨ a.pn = a.low) then (t.flag (O0F.PORT_FLAGS p) 32).raise 0xE22 p [] else t
      let t := if n = pnTop xpn then (t.flag (O0F.PORT_FLAGS p) 32).raise 0xE23 p [] else t
      (some (aad ++ ct ++ bytesBE 16 (Config.gcmTag a.key iv aad ct)), t)

/-- A protected frame is validated (R355, R357): none where it drops. A frame that fails drops in CHECK mode too (log entry 41). -/
def protectRx (s : State) (p : Nat) (b : List Byte) : Option (List Byte) × State :=
  let xpn := s.n (O0F.MACSEC_CIPHER p) == 1
  let tci := (b.getD 14 0).toNat
  let low := natBE (slice b 16 4)
  let sci := natBE (slice b 20 8)
  let c := s.n (O0F.MACSEC_OFFSET p)
  let found := (List.range 16).find? fun sc => match SMap.find? s.net.sas (saKey p 1 sc (tci % 4)) with
    | some a => a.sci == sci
    | none => false
  let bad : State := s.bump (O0F.MACSEC_DROPS p) 1
  match found with
  | none => (none, bad)
  | some sc =>
    match SMap.find? s.net.sas (saKey p 1 sc (tci % 4)) with
    | none => (none, bad)
    | some a =>
      let pn := if xpn then
          (let h := a.pn / 2 ^ 32 * 2 ^ 32 + low
           if h + 2 ^ 31 < a.pn then h + 2 ^ 32 else h)
        else low
      let aad := b.take (28 + c)
      let ct := slice b (28 + c) (b.length - 44 - c)
      let iv := saIv xpn a pn
      if pn < a.low ∨ pn + s.n (O0F.REPLAY_WINDOW p) < a.pn then (none, (s.bump (O0F.MACSEC_REPLAY p) 1).raiseLim 0xE24 p [] 192000)
      else if b.drop (b.length - 16) ≠ bytesBE 16 (Config.gcmTag a.key iv aad ct) then (none, bad)
      else
        let t := s.onNet fun x => { x with sas := x.sas.put (saKey p 1 sc (tci % 4)) { a with pn := max a.pn (pn + 1) } }
        (some (b.take 12 ++ slice b 28 c ++ bytesBE ct.length (Config.gcmOpen a.key iv aad ct)), t)

/-- A frame that its port forwards: terminated where it is for the device's own interfaces, else forwarded. -/
def arrived (s : State) (p slot : Nat) (v : VlanEnt) (f : Frame) (filter : Option Nat) : State :=
  match s.terminate p slot f.vid f.pcp f.body with
  | some u => u
  | none => s.forward p slot v f filter

/-- A frame at its stream filter's policer; without a filter it passes. -/
def policed (s : State) (slot len : Nat) (filter : Option Nat) : Bool × State :=
  match filter with
  | some i => s.police i len slot
  | none => (true, s)

/-- A frame that its VLAN admits: policed (R402, R403), its source learned, then forwarded.
Frames for the device's own interfaces pass the same checks, on a FORWARDING port (log entry 41). -/
def classified (s : State) (p slot len : Nat) (v : VlanEnt) (f : Frame) : State :=
  let filter := s.filterOf p f
  let r := s.policed (s.slotAt slot) len filter
  if ¬ r.1 then r.2
  else
    let st := if external p then s.n (O0F.STP_STATE p) else 2
    let t := if 1 ≤ st then r.2.learn p f.vid (frameSrc f.body) else r.2
    if st ≠ 2 then t else t.arrived p (s.slotAt slot) v f filter

/-- A frame after MACsec: trapped, or classified (R347 to R353). In SAFE HOLD all but PTP, ESMC and trapped frames drop (R404). -/
def bridgeFrame (s : State) (p slot : Nat) (b : List Byte) (len : Nat) : State :=
  let tagged := frameType b == 0x8100
  let tci := natBE (slice b 14 2)
  let inner := if tagged then b.take 12 ++ b.drop 16 else b
  let zero := tci % 4096 == 0
  let vid := if tagged ∧ ¬ zero then tci % 4096 else s.n (O0F.PVID p)
  let pcp := if tagged then tci / 8192 % 8 else s.n (O0F.DEFAULT_PCP p)
  let et := frameType inner
  let trapped := external p && (frameDst inner == 0x0180C2000000 || et == 0x88CC || et == 0x888E)
  if trapped then s.trapFrame p inner
  else if s.linkLocal p inner then s
  else
    let f : Frame := ⟨inner, vid, pcp, 0xFFFF, 0, false⟩
    let accept := s.n (O0F.ACCEPT p)
    if s.safeHold then s.dropIn p
    else match SMap.find? s.net.vlans vid with
      | none => s.dropIn p
      | some v =>
        if (s.b (O0F.INGRESS_FILTER p) ∧ ¬ bit v.members p) ∨ (accept = 1 ∧ (¬ tagged ∨ zero)) ∨ (accept = 2 ∧ tagged ∧ ¬ zero) then s.dropIn p
        else s.classified p slot len v f

/-- The TC whose head frame starts (R385): the highest with an open gate, room before the gate closes, and credit. -/
def nextTc (s : State) (p slot : Nat) : Option Nat :=
  [7, 6, 5, 4, 3, 2, 1, 0].find? fun tc =>
    match s.net.queues.getD (8 * p + tc) [] with
    | [] => false
    | f :: _ =>
      decide (224 ≤ p) ||
      (bit (s.gatesAt p slot) tc && s.creditOk p tc &&
        match s.openLeft p tc slot with
        | some ns => decide (slotNs (s.frameSlots p f) ≤ ns)
        | none => true)

/-- The frames at the head of a TC's queue that are longer than every open interval of the TC drop (R401). -/
def dropOversize (s : State) (p tc : Nat) : State :=
  let q := s.net.queues.getD (8 * p + tc) []
  let long (f : Frame) : Bool := match s.openMost p tc with
    | none => false
    | some most => decide (most < slotNs (s.frameSlots p f))
  let n := (q.takeWhile long).length
  if n = 0 then s
  else
    let t := s.onNet fun x => { x with queues := if q.drop n = [] then x.queues.del (8 * p + tc) else x.queues.put (8 * p + tc) (q.drop n) }
    ((t.bump (O10.GATE_OVERSIZE (0x800 + p)) n).flag (O10.PORT_SH_FLAGS (0x800 + p)) 4).raiseLim 0x103 p [] 192000

/-- Frames that are longer than every open interval of their TC drop; frames that wait for an opening are counted once (R401). -/
def guardQueues (s : State) (p slot : Nat) : State :=
  s.forEach (List.range 8) fun t tc =>
    let t := t.dropOversize p tc
    match t.net.queues.getD (8 * p + tc) [] with
    | [] => t
    | f :: l =>
      let need := slotNs (t.frameSlots p f)
      let short : Bool := match t.openLeft p tc slot with
        | some ns => decide (ns < need)
        | none => false
      match t.openMost p tc with
      | none => t
      | some _ =>
        if bit (t.gatesAt p slot) tc ∧ ¬ f.held ∧ short then
          let t := t.onNet fun x => { x with queues := x.queues.put (8 * p + tc) ({ f with held := true } :: l) }
          (t.bump (O10.GUARD_HELD (0x800 + p)) 1).flag (O10.PORT_SH_FLAGS (0x800 + p)) 2
        else t

/-- A paced packet that starts late is counted (R397). -/
def paceLate (s : State) (p slot : Nat) (f : Frame) : State :=
  if f.release ≠ 0 ∧ f.release + 1 < slot then
    let ns := slotNs (slot - f.release)
    (((s.bump (O10.PACE_LATE (0x800 + p)) 1).peak (O10.PACE_LATE_MAX (0x800 + p)) ns).flag (O10.PORT_SH_FLAGS (0x800 + p)) 1).raiseLim
      0x105 p [] 192000
  else s

/-- A frame as it leaves a port: its tag (R348), and its protection (R355). -/
def sendOn (s : State) (p : Nat) (f : Frame) : State :=
  let body := if s.untaggedOn f.vid p then f.body
    else f.body.take 12 ++ d16 0x8100 ++ d16 (f.pcp * 8192 + f.vid) ++ f.body.drop 12
  let r := if s.secured p ∧ frameType f.body ≠ 0x888E then s.protectTx p body else (some body, s)
  match r.1 with
  | none => r.2
  | some b =>
    let t := if f.sender = 0xFFFF then r.2 else r.2.bump (O0D.PACKETS_SENT f.sender) 1
    (t.bumpPair (O0F.FRAMES_IO p) true 1).emit (.frame p (if f.sender = 0xFFFF then 1 else 2) b)

/-- A pending list's start for a base (R400): a base less than 2 ticks after the seam's end moves on, whole cycles. -/
def gateStart (s : State) (base cycle : Nat) : Nat :=
  let limit := ceilDiv ((s.tick64 + 3) * 1000000000) 192000
  laterBase base cycle limit

/-- A staged gate list becomes the pending list of its port (R400). -/
def gateApplied (s : State) (p : Nat) : State :=
  let i := 0x800 + p
  let base := timeNs (s.n (O10.ADMIN_BASE i))
  let cycle := s.n (O10.ADMIN_CYCLE i)
  let l := gateEntries 256 (s.bs (O10.ADMIN_LIST i))
  let x := s.net.gates.getD p ⟨none, none, 0xFF⟩
  if l = [] then
    (s.onNet fun n => { n with gates := n.gates.put p ⟨none, none, 0xFF⟩ }).setN (O10.OPER_STATE i) 0
  else
    let start := s.gateStart base cycle
    let t := s.onNet fun n => { n with gates := n.gates.put p { x with pend := some (⟨l, start, cycle⟩, start) } }
    let t := t.setN (O10.OPER_STATE i) (if x.oper = none then 1 else 3)
    if start = base ∨ x.pend = some (⟨l, start, cycle⟩, start) then t
    else (t.flag (O10.PORT_SH_FLAGS i) 16).raise 0x2B2 p (bytesBE 10 (s.n (O10.ADMIN_BASE i)) ++ bytesBE 10 (nsTime start))

/-- A step of TICK64 starts the operating lists again (R400). -/
def gateStep (s : State) : State :=
  s.forEach s.net.gates fun t e =>
    match e.2.oper with
    | none => t
    | some g =>
      let start := t.gateStart g.base g.cycle
      (t.onNet fun n => { n with gates := n.gates.put e.1 { e.2 with pend := some ({ g with base := start }, start) } }).raise 0x2B2 e.1
        (bytesBE 10 (nsTime g.base) ++ bytesBE 10 (nsTime start))

/-- The shaper of a filter after a staged change (R389 to R391). -/
def shapeApplied (s : State) (i : Nat) : State :=
  let last := (s.tick64 + 1) * 500 - 1
  let rate := s.n (O10.SH_RATE i)
  let burst := s.n (O10.SH_BURST i)
  match SMap.find? s.net.shapers i with
  | none => s
  | some x =>
    let y := s.shapeTo x last
    if ¬ s.b (O10.SH_ENABLE i) ∨ ¬ s.b (O10.SF_ENABLE i) then
      let t := s.forEach y.queue fun t f => t.enqueue y.port (last + 1) f
      (t.onNet fun n => { n with shapers := n.shapers.del i }).shapeReport i { y with level := 0, queue := [], elig := none }
    else
      let level := min y.level (burst * 768000 : Nat)
      let moved := y.port != s.n (O10.SH_PORT i)
      let elig := if y.queue = [] ∨ moved ∨ rate = 0 then none else some (if 0 ≤ level then last + 1 else last + ceilDiv level.natAbs rate)
      let z : ShapeSt := ⟨level, last, rate, burst, s.n (O10.SH_PORT i), if moved then [] else y.queue, elig⟩
      let t := s.onNet fun n => { n with
        shapers := n.shapers.put i z
        drains := if moved ∧ y.queue ≠ [] then n.drains.put i y else n.drains }
      t.shapeReport i z

/-- A policer after a staged change (R402). -/
def polApplied (s : State) (i : Nat) : State :=
  if ¬ s.b (O10.POL_ENABLE i) then s.onNet fun n => { n with policers := n.policers.del i }
  else match SMap.find? s.net.policers i with
    | none => s
    | some b => s.onNet fun n => { n with
        policers := n.policers.put i ⟨min b.level (s.n (O10.POL_BURST i) * 768000 : Nat), (s.tick64 + 1) * 500 - 1⟩ }

/-- What an applied transaction changes in class 10. -/
def shapingApplied (s : State) (k : Key) : State :=
  let i := instOf k
  let p := parOf k
  if i < 0x800 then
    let t := if [3, 4, 5].contains p then s.polApplied i else s
    if [0, 6, 7, 8, 9].contains p then
      let t := t.shapeApplied i
      if p = 6 ∧ t.b (O10.SH_ENABLE i) ∧ (SMap.find? t.net.shapers i).isNone then
        t.setZ 64 (O10.SH_LEVEL i) (t.n (O10.SH_BURST i) * 768000 : Nat)
      else t
    else t
  else if i < 0x900 then
    if [5, 6, 7].contains p then s.gateApplied (i - 0x800)
    else if p < 4 then s.onNet fun n => { n with cbs := n.cbs.del (2 * (i - 0x800) + p / 2) }
    else s
  else s

/-- In SAFE HOLD the levels of buckets and the credits are held (R404): they are brought up to the tick in which it begins, and start again from the one
in which it ends. -/
def bucketsTo (s : State) (slot : Nat) : State :=
  let t := s.forEach s.bridgePorts fun t p => t.cbsAdvance p slot
  t.onNet fun n => { n with
    shapers := n.shapers.map fun (e : Nat × ShapeSt) => (e.1, s.shapeTo e.2 slot)
    drains := n.drains.map fun (e : Nat × ShapeSt) => (e.1, s.shapeTo e.2 slot)
    policers := n.policers.map fun (e : Nat × BucketSt) => (e.1, if slot ≤ e.2.slot then e.2 else
      ⟨if s.safeHold then e.2.level else refill e.2.level (s.n (O10.POL_RATE e.1)) (s.n (O10.POL_BURST e.1)) (slot - e.2.slot), slot⟩) }

/-- Value checks of class 10 beyond a row's range (R398, R407). -/
def shapingItemOk (k : Key) (v : Val) : Bool :=
  let i := instOf k
  if clsOf k ≠ 0x10 then true
  else if i < 0x800 ∧ parOf k = 1 then
    let m := padTo 16 v.bytes
    let port := natBE (slice m 2 2)
    decide ((m.headD 0).toNat ≤ 1) && decide (natBE (slice m 10 2) ≤ 4094) &&
      (if m.headD 0 = 0 then decide (port < 232) || port == 0xFFFF else decide (port < 2048))
  else if i < 0x800 ∧ parOf k = 7 then decide (v.toNat < 224)
  else if 0x800 ≤ i ∧ i < 0x900 ∧ parOf k = 5 then
    v.bytes.length % 8 == 0 &&
    (List.range (v.bytes.length / 8)).all fun j =>
      let e := slice v.bytes (8 * j) 8
      (e.getD 1 0) == 0 && decide (21 ≤ natBE (slice e 4 4) ∧ natBE (slice e 4 4) ≤ 1000000000)
  else true

/-- Cross-object ranges of class 10 (R406): an idleSlope up to the port rate. -/
def shapingRange (t : State) (k : Key) : Bool :=
  let i := instOf k
  let p := parOf k
  if i < 0x800 then true
  else if p = 1 ∨ p = 3 then decide (t.n k ≤ t.portKbps (i - 0x800)) else true

/-- An entry of the VLAN, FDB or multicast table is written (R348 to R350). -/
def tableWrite (s : State) (k : Key) (v : List Byte) : State :=
  let map (b : List Byte) : Nat := (List.range 232).foldl (fun a i => if bit (b.getD (i / 8) 0).toNat (i % 8) then setBits a (2 ^ i) else a) 0
  if k = O0F.VLAN_WRITE then
    let b := padTo 68 v
    let m := map (slice b 4 32)
    let vid := natBE (b.take 2)
    s.onNet fun n => { n with vlans := if m = 0 then n.vlans.del vid else n.vlans.put vid ⟨bit (b.getD 2 0).toNat 0, m, map (slice b 36 32)⟩ }
  else if k = O0F.FDB_STATIC_WRITE then
    let b := padTo 10 v
    let key := natBE (b.take 6) * 4096 + natBE (slice b 6 2) % 4096
    let p := natBE (slice b 8 2)
    s.onNet fun n => { n with fdb := if p = 0xFFFF then n.fdb.del key else n.fdb.put key ⟨p, true, s.now⟩ }
  else if k = O0F.MCAST_WRITE then
    let b := padTo 40 v
    let key := natBE (b.take 6) * 4096 + natBE (slice b 6 2) % 4096
    let m := map (slice b 8 32)
    s.onNet fun n => { n with mcast := if m = 0 then n.mcast.del key else n.mcast.put key m }
  else s

/-- The bridge ports that a bitmap names. -/
def mapPorts (b : List Byte) : List Nat := (List.range (8 * b.length)).filter fun i => bit (b.getD (i / 8) 0).toNat (i % 8)

/-- The bridge ports that a table write names (R379). -/
def tablePorts (k : Key) (v : List Byte) : List Nat :=
  if k = O0F.VLAN_WRITE then mapPorts (slice v 4 32) ++ mapPorts (slice v 36 32)
  else if k = O0F.FDB_STATIC_WRITE then [natBE (slice (padTo 10 v) 8 2)].filter (· != 0xFFFF)
  else if k = O0F.MCAST_WRITE then mapPorts (v.drop 8)
  else []

/-- The values of the bridge tables (R14, R348 to R350, R379): a VID of 1 to 4,094 (log entry 41), ports of the bridge, and a
table that there is. -/
def tableItemOk (k : Key) (v : Val) : Bool :=
  let b := padTo 9 v.bytes
  let vid := natBE (if k = O0F.VLAN_WRITE then b.take 2 else slice b 6 2)
  if k = O0F.TABLE_QUERY then decide ((b.headD 0).toNat ≤ 2)
  else if k ≠ O0F.VLAN_WRITE ∧ k ≠ O0F.FDB_STATIC_WRITE ∧ k ≠ O0F.MCAST_WRITE then true
  else decide (1 ≤ vid ∧ vid ≤ 4094) && (tablePorts k v.bytes).all fun p => decide (p < 232)

/-- Whether a table write finds room: 65,536 entries in buckets of 4, at most 4,096 static, 16,384 groups (R349, R350). -/
def tableRoom (s : State) (k : Key) (v : List Byte) : Bool :=
  if k = O0F.FDB_STATIC_WRITE then
    let b := padTo 10 v
    let key := natBE (b.take 6) * 4096 + natBE (slice b 6 2) % 4096
    natBE (slice b 8 2) == 0xFFFF ||
      (decide ((s.net.fdb.filter fun e => e.2.fixed && e.1 != key).length < 4096) &&
       ((SMap.find? s.net.fdb key).isSome || decide ((s.net.fdb.filter fun e => s.fdbBucket e.1 == s.fdbBucket key).length < 4)))
  else if k = O0F.MCAST_WRITE then
    let b := padTo 40 v
    (SMap.find? s.net.mcast (natBE (b.take 6) * 4096 + natBE (slice b 6 2) % 4096)).isSome || decide (s.net.mcast.length < 16384)
  else true

/-- TABLE_RESULT of a key (R379); none for no entry. -/
def tableResult (s : State) (q : List Byte) : Option (List Byte) :=
  let b := padTo 9 q
  let vid := natBE (slice b 7 2)
  let key := natBE (slice b 1 6) * 4096 + vid % 4096
  let map (m : Nat) : List Byte := (List.range 32).map fun i => BitVec.ofNat 8 (m / 2 ^ (8 * i))
  match (b.headD 0).toNat with
  | 0 => (SMap.find? s.net.vlans vid).map fun v => d16 vid ++ d8 v.flood.toNat ++ [0] ++ map v.members ++ map v.untagged
  | 1 => (SMap.find? s.net.fdb key).map fun e => slice b 1 8 ++ d16 e.port
  | 2 =>
    let imp := s.rxMembers (natBE (slice b 1 6)) vid
    match SMap.find? s.net.mcast key with
    | some m => some (slice b 1 8 ++ map (setBits m imp))
    | none => if imp = 0 then none else some (slice b 1 8 ++ map imp)
  | _ => none

/-- FDB_FLUSH (R349): learned entries of a port, or of all. -/
def actFdbFlush (s : State) (p : Nat) : State :=
  s.onNet fun n => { n with fdb := n.fdb.filter fun e => e.2.fixed || !(p == 0xFFFF || e.2.port == p) }

/-- TRAP_SEND (R353). -/
def actTrapSend (s : State) (b : List Byte) : State × Nat :=
  let p := natBE (b.take 2)
  let len := natBE (slice b 2 2)
  if b.length < 26 ∨ b.length ≠ 12 + len ∨ len < 14 ∨ 1518 < len ∨ ¬ s.present 0x0F p ∨ 224 ≤ p then (s, RANGE)
  else
    let f := b.drop 12
    let r := if s.secured p ∧ frameType f ≠ 0x888E then s.protectTx p f else (some f, s)
    match r.1 with
    | none => (r.2, OK)
    | some x => ((r.2.bumpPair (O0F.FRAMES_IO p) true 1).emit (.frame p 1 x), OK)

/-- The oldest trapped frame, and the queue without it (R353). -/
def takeTrap (s : State) : Option (List Byte) × State :=
  match s.net.trap with
  | [] => (none, s)
  | f :: l => (some f, s.onNet fun n => { n with trap := l })

/-- The seam's part of the bridge: the transmit AN, new associations, and the gate states (R356, R357, R406). -/
def bridgeSeam (s : State) : State :=
  let t := s.forEach s.net.newSas fun t e => t.onNet fun n => { n with sas := n.sas.put e.1 e.2 }
  let t := t.onNet fun n => { n with newSas := [] }
  let t := t.forEach (t.bridgePorts.filter fun p => external p && t.n (O0F.MACSEC_TX_AN p) != t.net.txAn.getD p 0) fun t p =>
    let an := t.n (O0F.MACSEC_TX_AN p)
    (t.onNet fun n => { n with txAn := n.txAn.put p an }).setN (O0F.TX_PN p)
      (((SMap.find? t.net.sas (saKey p 0 0 an)).map (·.pn)).getD 0)
  t.forEach t.net.gates fun t e => t.setN (O10.GATE_STATES (0x800 + e.1)) (t.gatesAt e.1 ((t.tick64 + 1) * 500))

/-- A link comes up or goes down (R346). -/
def linkState (s : State) (p : Nat) (up : Bool) : State :=
  if up then (s.setN (O0F.LINK_STATE p) 1).raise 0x0F0 p []
  else ((s.setN (O0F.LINK_STATE p) 0).flag (O0F.PORT_FLAGS p) 1).raise 0x0F1 p []

end State

/-- The PCS holds lock for 192 ticks, or loses it (R346). -/
def execLinkStateChange (port : Nat) (up : Bool) (s : State) : Host.Outcome State Fault Refusal :=
  onInst 0x0F port s fun s =>
    if 224 ≤ port ∨ s.portMode port = 0 ∨ (s.n (O0F.LINK_STATE port) = 1) = (up = true) then s else s.linkState port up

/-- A frame arrives at a bridge port (R346 to R357, R385). -/
def execFrameIngress (port slot : Nat) (frame : List Byte) (err : Nat) (s : State) : Host.Outcome State Fault Refusal :=
  onInst 0x0F port s fun s =>
    if 232 ≤ port then s
    else if s.portMode port = 0 ∨ ¬ s.linkUp port then s
    else
      let s := if err = 3 then s.bumpPair (O0F.FEC_COUNTS port) false 1 else s
      let s := s.bumpPair (O0F.FRAMES_IO port) false 1
      if err = 1 then s.bump (O0F.FCS_ERR port) 1
      else if err = 2 then
        (((s.bumpPair (O0F.FEC_COUNTS port) true 1).bump (O0F.FCS_ERR port) 1).flag (O0F.PORT_FLAGS port) 4).raiseLim 0x0F2 port [] 192000
      else if frameType frame = 0x8808 then (s.bump (O0F.PAUSE_RX port) 1).flag (O0F.PORT_FLAGS port) 2
      else if 9216 < frame.length + 4 ∨ frame.length < 14 then s.dropIn port
      else
        let len := frame.length + 4
        if frameType frame = 0x88E5 ∧ s.secured port then
          let r := s.protectRx port frame
          match r.1 with
          | some b => r.2.bridgeFrame port slot b len
          | none => r.2
        else if s.n (O0F.MACSEC_MODE port) = 2 ∧ State.external port ∧ frameType frame ≠ 0x888E then
          (s.bump (O0F.MACSEC_DROPS port) 1).raiseLim 0xE25 port [] 192000
        else s.bridgeFrame port slot frame len

/-- A learned entry has not been refreshed for AGEING_TIME (R349). -/
def execFdbAgeing (mac vid : Nat) (s : State) : Host.Outcome State Fault Refusal :=
  live s fun s =>
    let k := mac * 4096 + vid
    match SMap.find? s.net.fdb k with
    | some e => if e.fixed ∨ s.now < e.time + 192000 * s.n O0F.AGEING_TIME then s else s.onNet fun n => { n with fdb := n.fdb.del k }
    | none => s

/-- The FDB_FLUSH action (R349). -/
def execFdbFlush (port : Nat) (s : State) : Host.Outcome State Fault Refusal :=
  live s fun s => if s.served then s.actFdbFlush port else s

/-- A read of TRAP_FRAME removes the oldest frame (R353). -/
def execTrapFrame (s : State) : Host.Outcome State Fault Refusal :=
  live s fun s => if s.served then s.takeTrap.2 else s

/-- The TRAP_SEND action (R353). -/
def execTrapSend (frame : List Byte) (s : State) : Host.Outcome State Fault Refusal :=
  live s fun s => if s.served then (s.actTrapSend frame).1 else s

/-- A write of MACSEC_TX_AN: it takes effect after the next seam (R357). -/
def execMacsecTxAn (port an : Nat) (s : State) : Host.Outcome State Fault Refusal :=
  onInst 0x0F port s fun s => if s.served ∧ port < 224 ∧ an < 4 then s.setN (O0F.MACSEC_TX_AN port) an else s

/-- The MAC is free (R385, R392, R397, R401): nothing starts while a frame is in transmission. -/
def execTransmissionStart (port slot : Nat) (s : State) : Host.Outcome State Fault Refusal :=
  onInst 0x0F port s fun s =>
    let at_ := s.slotAt slot
    if 232 ≤ port ∨ 500 ≤ slot ∨ ¬ s.linkUp port ∨ at_ < s.net.macFree.getD port 0 then s else
    let t := (s.cbsAdvance port at_).guardQueues port at_
    match t.nextTc port at_ with
    | none => t
    | some tc =>
      match t.net.queues.getD (8 * port + tc) [] with
      | [] => t
      | f :: l =>
        let dur := t.frameSlots port f
        let t := (t.onNet fun n => { n with
          queues := if l = [] then n.queues.del (8 * port + tc) else n.queues.put (8 * port + tc) l
          macFree := n.macFree.put port (at_ + dur) }).paceLate port at_ f
        let t := t.forEach [0, 1] fun t c =>
          if t.cbsTc port c = tc then
            let x := t.cbsTo port c at_
            t.onNet fun n => { n with cbs := n.cbs.put (2 * port + c) { x with busy := at_ + dur } }
          else t
        t.sendOn port f

/-- A gate list entry begins (R398). -/
def execGateChange (port slot : Nat) (s : State) : Host.Outcome State Fault Refusal :=
  onInst 0x10 (0x800 + port) s fun s =>
    if 224 ≤ port ∨ 500 ≤ slot then s else
    let t := s.cbsAdvance port (s.slotAt slot)
    match SMap.find? t.net.gates port with
    | some g => t.onNet fun n => { n with gates := n.gates.put port { g with gates := t.gatesAt port (t.slotAt slot) } }
    | none => t

/-- A pending list reaches its start (R400). -/
def execGateListStart (port slot : Nat) (s : State) : Host.Outcome State Fault Refusal :=
  onInst 0x10 (0x800 + port) s fun s =>
    if 224 ≤ port ∨ 500 ≤ slot then s else
    match SMap.find? s.net.gates port with
    | some ⟨o, some (g, start), x⟩ =>
      if s.slotAt slot < nsSlot start then s
      else
        let i := 0x800 + port
        let _ := o
        let t := (s.cbsAdvance port (s.slotAt slot)).onNet fun n => { n with gates := n.gates.put port ⟨some g, none, x⟩ }
        let t := ((t.setN (O10.OPER_STATE i) 2).setN (O10.OPER_BASE i) (nsTime start)).flag (O10.PORT_SH_FLAGS i) 8
        t.raise 0x104 port (bytesBE 10 (nsTime start))
    | _ => s

end Sys2Proof.Machine
end

