-- ==== Sys2Proof/Machine/Senders.lean ====
section
/-! DEFINITION. IP senders: their states, next hops, packet schedules and pacers, and the admission limits of flows (R354, R360 to
R368, R393 to R399). -/

namespace Sys2Proof.Machine

/-- The bridge port and the interface of a path (R377). -/
def pathPort (v : Nat) : Nat := v % 0x10000
def pathIf (v : Nat) : Nat := field v 21 16

/-- Fields, segments or frames of a format in a second, as a fraction (R365). -/
def unitRate (f : Nat) : Nat × Nat :=
  let q := rateFrac (fmtRate f)
  (q.1 * (if fmtScan f = 0 then 1 else 2), q.2)

/-- Nominal bits per second of a line-rate class (R194). -/
def classBits : Nat → Nat
  | 1 => 270000000 | 2 => 1485000000 | 3 => 2970000000 | 4 => 5940000000 | 5 => 11880000000 | 6 => 23760000000 | _ => 0

/-- Datagrams of 1,376 bytes in a frame of an SDI signal (R367). -/
def sdiDatagrams (f : Nat) : Nat :=
  let q := rateFrac (fmtRate f)
  let frac := rateFractional (fmtRate f) && fmtClass f != 1
  let num := classBits (fmtClass f) * q.2 * (if frac then 1000 else 1)
  let den := 8 * q.1 * (if frac then 1001 else 1)
  if den = 0 then 0 else ceilDiv (num / den) 1376

/-- Packets of a frame, or of a field or segment, of a VIDEO flow (R365, R395). -/
def videoPackets (f payload : Nat) : Nat :=
  ceilDiv (frameBytes f / (if fmtScan f = 0 then 1 else 2)) (max 1 payload)

/-- Samples of a packet of an audio flow (R366). -/
def packetSamples (level : Nat) : Nat := if level = 0 then 48 else 6

/-- The release schedule of packets spread over frames or fields: their rate, packets, offset in 2⁻³² slot, whether they span the active part
only, and the packets of a burst (R395). -/
structure Sched where
  rate : Nat × Nat
  np : Nat
  tro : Nat
  active : Bool
  burst : Nat
  deriving DecidableEq, Repr

/-- The release slot of packet `j` of unit `k`: its time in units of 2⁻³² slot, rounded up to whole slots (R395). -/
def Sched.slot (x : Sched) (k j : Nat) : Nat :=
  let j' := j / x.burst * x.burst
  let num := x.rate.2 * 96000000 * (k * x.np * 25 + j' * (if x.active then 24 else 25)) * 2 ^ 32
  let den := x.rate.1 * x.np * 25
  ceilDiv (num / max 1 den + x.tro) (2 ^ 32)

/-- The packets of a schedule whose release slots lie in a window: slot, unit, and the packet's number in it. -/
def Sched.due (x : Sched) (lo hi : Nat) : List (Nat × Nat × Nat) :=
  if x.rate.1 * x.np = 0 then [] else
  let per := x.rate.2 * 96000000
  let tro := x.tro / 2 ^ 32
  let k1 := (lo - tro) * x.rate.1 / per
  ([k1 - 1, k1, k1 + 1].eraseDups).flatMap fun k =>
    let into := lo - tro - k * per / x.rate.1
    let j0 := into * x.np * x.rate.1 * (if x.active then 25 else 24) / (per * 24) - 2 * x.burst
    ((List.range 600).map (· + j0)).filterMap fun j =>
      let t := x.slot k j
      if j < x.np ∧ lo ≤ t ∧ t < hi then some (t, k, j) else none

/-- TRO in units of 2⁻³² slot: SEND_TRO in ns, or the default in lines of the format (R395). -/
def troUnits (f ns : Nat) : Nat :=
  let q := rateFrac (fmtRate f)
  if ns = 0 then troLines f * q.2 * 96000000 * 2 ^ 32 / max 1 (q.1 * rasterTotal (fmtRaster f)) else ns * 12 * 2 ^ 32 / 125

/-- Bytes and pixels of a pixel group of a sampling (R143, ST 2110-20). -/
def pixelGroup : Nat → Nat × Nat
  | 0 => (5, 2) | 1 => (15, 4) | _ => (9, 2)

/-- Rows of a frame, field or segment of a format (R57, R365). -/
def unitRows (f : Nat) : Nat := rasterLines (fmtRaster f) / (if fmtScan f = 0 then 1 else 2)

/-- The sample row data headers of a packet that carries bytes of a unit from a place on, in block packing mode: at most the end of a line and the
start of the next (R365). The first argument bounds the lines. -/
def srdHeaders : Nat → Nat → Bool → Nat → Nat → List Byte
  | 0, _, _, _, _ => []
  | n + 1, f, second, at_, len =>
    let w := max 1 (lineBytes f)
    let k := min len (w - at_ % w)
    let g := pixelGroup (fmtSampling f)
    let more := decide (k < len)
    d16 k ++ d16 (second.toNat * 32768 + at_ / w) ++ d16 (more.toNat * 32768 + at_ % w / g.1 * g.2) ++
      (if more then srdHeaders n f second (at_ + k) (len - k) else [])

/-- Bytes of black of a format from a place of a picture on (R214): whole pixel groups repeated. -/
def blackBytes (f at_ len : Nat) : List Byte :=
  let w := sampleBits (fmtSampling f)
  let g := packSamples w ((List.range (if fmtSampling f = 0 then 4 else 12)).map fun j =>
    let luma := if fmtSampling f = 0 then j % 2 == 1 else j % 3 == 1
    (if luma then 64 else 512) * 2 ^ (w - 10))
  (List.range len).map fun j => g.getD ((at_ + j) % max 1 g.length) 0

/-- The bits of a packet of an ANC unit as ST 2110-40 carries it (RFC 8331): C, line, position, stream 0, and the words. A packet of the horizontal
space is placed after the active samples of its line. -/
def ancBits (width line hofs flags : Nat) (words : List Nat) : Nat × Nat :=
  let place := if hofs = 0xFFFF then 0xFFF else (hofs + (if bit flags 6 then width else 0)) % 4096
  let head := (((bit flags 7).toNat * 2048 + line % 2048) * 4096 + place) * 256
  let n := 32 + 10 * words.length
  let pad := (32 - n % 32) % 32
  ((words.foldl (fun a w => a * 1024 + w % 1024) head) * 2 ^ pad, (n + pad) / 8)

/-- The packets of an ANC unit from its bytes, to the prefix whose LINE is 0 (R145): line, position, flags and words. The first argument bounds
their number. -/
def ancUnit : Nat → List Byte → List (Nat × Nat × Nat × List Nat)
  | 0, _ => []
  | n + 1, b =>
    let line := natBE (b.take 2)
    let words := natBE (slice b 6 2)
    let size := ceilDiv (10 * words) 32 * 4
    if line = 0 ∨ b.length < 8 + size then []
    else (line, natBE (slice b 2 2), (b.getD 4 0).toNat, (List.range words).map fun j => bitsAt b (64 + 10 * j) 10) :: ancUnit n (b.drop (8 + size))

/-- The units of ANC cells: each ends in the cell that holds the prefix whose LINE is 0 (R145). The first argument bounds their number. -/
def ancUnits : Nat → List (List Byte) → List (List (Nat × Nat × Nat × List Nat))
  | 0, _ => []
  | n + 1, cells =>
    if cells = [] then []
    else
      let l := ancUnit 1024 cells.flatten
      let size := (l.map fun e => 8 + ceilDiv (10 * e.2.2.2.length) 32 * 4).sum + 8
      l :: ancUnits n (cells.drop (max 1 (ceilDiv size 128)))

/-- The ST 2110-40 payload of an ANC unit (RFC 8331): the high bits of its sequence number, its length, the number of packets, and the field. -/
def ancPayload (width seq field_ : Nat) (l : List (Nat × Nat × Nat × List Nat)) : List Byte :=
  let body := l.flatMap fun e =>
    let x := ancBits width e.1 e.2.1 e.2.2.1 e.2.2.2
    bytesBE x.2 x.1
  d16 (seq / 0x10000) ++ d16 body.length ++ d8 l.length ++ d8 (field_ * 64) ++ zeros 2 ++ body

/-- A subframe of an ST 2110-31 flow (AM824): block start, frame start, and the bits of R288 without its preamble (log entry 41). -/
def am824 (start first : Bool) (word : Nat) : Nat :=
  start.toNat * 2 ^ 29 + first.toNat * 2 ^ 28 + (bit word 31).toNat * 2 ^ 27 + (bit word 30).toNat * 2 ^ 26 + (bit word 29).toNat * 2 ^ 25 +
    (bit word 28).toNat * 2 ^ 24 + field word 27 4

/-- The same, read: the subframe as a port receives it, its preamble Z where a block starts (R288). -/
def am824In (w : Nat) : Nat :=
  (if bit w 29 then 4 else if bit w 28 then 1 else 2) + w % 2 ^ 24 * 16 + (bit w 24).toNat * 2 ^ 28 + (bit w 25).toNat * 2 ^ 29 +
    (bit w 26).toNat * 2 ^ 30 + (bit w 27).toNat * 2 ^ 31

namespace State

/-- Path A (0) or B (1) of a sender. -/
def sendPath (s : State) (i c : Nat) : Nat := s.n (if c = 0 then O0D.SEND_PATH_A i else O0D.SEND_PATH_B i)

/-- The destination of a path of a sender. -/
def sendDest (s : State) (i c : Nat) : Nat := s.n (if c = 0 then O0D.SEND_DEST_A i else O0D.SEND_DEST_B i)

/-- The paths that a sender uses (R368). -/
def sendPaths (s : State) (i : Nat) : List Nat := [0, 1].filter fun c => pathPort (s.sendPath i c) != 0xFFFF

/-- Enabled senders and receivers. -/
def enabledFlows (s : State) (cls : Nat) : List Nat :=
  (s.objs.filter fun e => clsOf e.1 == cls && parOf e.1 == 0 && e.2.toNat != 0).map fun e => instOf e.1

/-- The address that a path's next hop has (R354): the destination in the interface's prefix, or else the gateway. -/
def nextHop (s : State) (i c : Nat) : Nat :=
  let k := 0x100 + pathIf (s.sendPath i c)
  let sh := 2 ^ (32 - s.n (O0F.IF_PREFIX k))
  let d := s.sendDest i c
  if s.n (O0F.IF_ADDR k) / sh = d / sh ∨ s.n (O0F.IF_GATEWAY k) = 0 then d else s.n (O0F.IF_GATEWAY k)

/-- What a path's next hop is known to be (R354). -/
def arp (s : State) (i c : Nat) : ArpSt := s.net.arp.getD (2 * i + c) ⟨none, 0, 0⟩

/-- The MAC address to which a path sends; none while it is not known. -/
def pathMac (s : State) (i c : Nat) : Option Nat :=
  if groupIp (s.sendDest i c) then some (groupMac (s.sendDest i c)) else (s.arp i c).mac

/-- SEND_MACS follows the next hops (R377). -/
def reportMacs (s : State) (i : Nat) : State :=
  s.setBytes (O0D.SEND_MACS i) ([0, 1].flatMap fun c => bytesBE 6 (((s.sendPaths i).contains c).toNat * (s.pathMac i c).getD 0))

/-- A frame of the device's own for an interface's network leaves on a port: in the TC of DEFAULT_PCP (log entry 41). -/
def sendOwn (s : State) (port iface : Nat) (b : List Byte) : State :=
  s.enqueue port (s.tick64 * 500) ⟨b, s.n (O0F.IF_VID (0x100 + iface)), s.n (O0F.DEFAULT_PCP port), 0xFFFF, 0, false⟩

/-- An ARP request for a path's next hop leaves on the interface of the path (R354). -/
def arpRequest (s : State) (i c : Nat) : State :=
  let p := s.sendPath i c
  if groupIp (s.sendDest i c) ∨ pathPort p = 0xFFFF then s
  else
    let a := s.arp i c
    let t := s.onNet fun n => { n with arp := n.arp.put (2 * i + c) { a with tries := a.tries + 1, at_ := s.now } }
    t.sendOwn (pathPort p) (pathIf p) (arpFrame (s.ifaceMac (pathIf p)) (s.n (O0F.IF_ADDR (0x100 + pathIf p))) (s.nextHop i c))

/-- A sender starts: its next hops are resolved (R364). -/
def senderStart (s : State) (i : Nat) : State :=
  let t := s.onNet fun n => { n with arp := (n.arp.del (2 * i)).del (2 * i + 1) }
  (((t.setN (O0D.SEND_STATE i) 1).arpRequest i 0).arpRequest i 1).reportMacs i

/-- Packets that wait in a sender's pacer go, and what its engine has read (R72, R404). -/
def dropPaced (s : State) (i : Nat) : State :=
  s.onNet fun n => { n with pacers := n.pacers.del i, stage := n.stage.del i, heard := n.heard.del i, units := n.units.del i }

/-- A sender runs: it sends from the first frame, field or packet time after the seam (R364). -/
def senderRuns (s : State) (i : Nat) : State :=
  (s.onNet fun n => { n with begun := n.begun.put i ((s.tick64 + 1) * 500) }).setN (O0D.SEND_STATE i) 2

/-- What an applied transaction changes in class 0D (R354, R364). -/
def senderApplied (s : State) (k : Key) : State :=
  let i := instOf k
  match parOf k with
  | 0 =>
    if s.b (O0D.SEND_ENABLE i) then (if s.n (O0D.SEND_STATE i) = 0 then s.senderStart i else s)
    else (((s.dropPaced i).onNet fun n => { n with arp := (n.arp.del (2 * i)).del (2 * i + 1) }).setN (O0D.SEND_STATE i) 0).reportMacs i
  | p =>
    if 7 ≤ p ∧ p ≤ 10 ∧ s.n (O0D.SEND_STATE i) ≠ 0 then
      let c := (p + 1) % 2
      let t := s.onNet fun n => { n with arp := n.arp.del (2 * i + c) }
      (t.arpRequest i c).reportMacs i
    else s

/-- The cause that holds a sender stands (R364). -/
def heldCause (s : State) (i : Nat) : Bool :=
  s.safeHold || (s.clocks.hbmBypass && [0, 3, 4].contains (s.n (O0D.ESSENCE i)))

/-- A running sender is held (R364, R404). -/
def holdSender (s : State) (i : Nat) : State :=
  if s.n (O0D.SEND_STATE i) = 2 ∧ s.heldCause i then
    (((s.dropPaced i).setN (O0D.SEND_STATE i) 3).flag (O0D.SEND_FLAGS i) 4).raise 0x0D1 i []
  else s

/-- Every sender that a cause now holds (R74, R127, R364). -/
def sendersHold (s : State) : State := s.forEach (s.enabledFlows 0x0D) holdSender

/-- A held sender resumes once its cause has cleared (R364). -/
def resumeSender (s : State) (i : Nat) : State :=
  if s.n (O0D.SEND_STATE i) = 3 ∧ ¬ s.heldCause i then s.senderRuns i else s

/-- The schedule of a VIDEO or SDI sender (R365, R395, R396). -/
def schedule (s : State) (i : Nat) : Sched :=
  let f := s.n (O0D.SEND_FORMAT i)
  if s.n (O0D.ESSENCE i) = 4 then ⟨rateFrac (fmtRate f), sdiDatagrams f, 0, false, 1⟩
  else
    ⟨unitRate f, videoPackets f (s.n (O0D.SEND_PAYLOAD i)), troUnits f (s.n (O0D.SEND_TRO i)), s.n (O0D.SENDER_TYPE i) == 0,
      if s.n (O0D.SENDER_TYPE i) = 2 then 8 else 1⟩

/-- The RTP timestamp of a frame or field (R361). -/
def frameStamp (s : State) (i k : Nat) : Nat :=
  let f := s.n (O0D.SEND_FORMAT i)
  let v4 := s.n (O0D.ESSENCE i) == 4
  let r := if v4 then rateFrac (fmtRate f) else if fmtScan f = 1 then unitRate f else rateFrac (fmtRate f)
  let n := if ¬ v4 ∧ fmtScan f = 2 then k / 2 else k
  n * (if v4 then 27000000 else 90000) * r.2 / max 1 r.1 % 2 ^ 32

/-- The packets of a sender that are due in the next tick: slot, timestamp, marker, the unit, and the packet's number in it (R364, R366, R394 to
R396). -/
def duePackets (s : State) (i : Nat) : List (Nat × Nat × Bool × Nat × Nat) :=
  let lo := (s.tick64 + 1) * 500
  let es := s.n (O0D.ESSENCE i)
  let from_ := s.net.begun.getD i 0
  if es = 0 ∨ es = 4 then
    let x := s.schedule i
    ((x.due lo (lo + 500)).filter fun (e : Nat × Nat × Nat) => decide (from_ ≤ x.slot e.2.1 0)).map fun (e : Nat × Nat × Nat) =>
      (e.1, s.frameStamp i e.2.1, e.2.2 + 1 == x.np, e.2.1, e.2.2)
  else if es = 1 ∨ es = 2 then
    let len := packetSamples (s.n (O0D.AUDIO_LEVEL i))
    let t := s.tick64 + 1 - (if s.rate96 then 192 else 0)
    if t % 4 = 0 ∧ t / 4 % len = 0 ∧ len ≤ t / 4 ∧ from_ ≤ lo then [(lo, (t / 4 - len) % 2 ^ 32, false, t / 4 - len, 0)] else []
  else []

/-- The packets that the RELEASE entries before one hand over in a tick: the sum of their budgets (R53, R394). -/
def releaseBefore (s : State) (link word : Nat) : Nat :=
  (((s.chain.active.takeWhile fun e => e != (link, word)).filter fun e => entOp e.2 == 6 && entStream e.2 == entStream word).map fun e =>
    entArg e.2 % 256).sum

/-- No RELEASE entry of the sender follows one. -/
def lastRelease (s : State) (link word : Nat) : Bool :=
  ((s.chain.active.dropWhile fun e => e != (link, word)).drop 1).all fun e => !(entOp e.2 == 6 && entStream e.2 == entStream word)

/-- Bytes of the picture that a VIDEO sender sends (R365): what its engine has read, black without a video route or under LOSS_ACTION, and the bars
of the built-in generator, whose picture is open (R214, R226). None while they have not been read. -/
def sentPicture (s : State) (i at_ len : Nat) : Option (List Byte) :=
  let f := s.n (O0D.SEND_FORMAT i)
  let src := s.n (O08.CURRENT_SOURCE (0x100 + i))
  let x := s.dest (0x100 + i)
  if epType src = 0 ∨ (epType src = 4 ∧ epInst src = 0) ∨ (x.lost ∧ 50 < x.lostFrames) then some (blackBytes f at_ len)
  else if epType src = 4 then some (bytesBE len (Config.openResult 29 [f, s.n (O0D.SEND_COLOUR i), at_, len]))
  else
    let b := (s.net.stage.getD i []).headD []
    if at_ + len ≤ b.length then some (slice b at_ len) else none

/-- The bytes of a unit from a place on: of a progressive frame or a field they lie together, and the rows of a segment are every second line of
its frame. The first argument bounds the lines. -/
def sentUnit (s : State) (i f : Nat) (second : Bool) : Nat → Nat → Nat → Option (List Byte)
  | 0, _, _ => some []
  | n + 1, at_, len =>
    let w := max 1 (lineBytes f)
    let k := min len (w - at_ % w)
    let row := if fmtScan f = 2 then 2 * (at_ / w) + second.toNat else at_ / w + (if second then unitRows f else 0)
    if len = 0 then some []
    else match s.sentPicture i (row * w + at_ % w) k, sentUnit s i f second n (at_ + k) (len - k) with
      | some a, some b => some (a ++ b)
      | _, _ => none

/-- The payload of a VIDEO packet after its RTP header (R365): the high 16 bits of its sequence number, its headers and its bytes. -/
def videoPayload (s : State) (i seq unit j : Nat) : Option (List Byte) :=
  let f := s.n (O0D.SEND_FORMAT i)
  let p := s.n (O0D.SEND_PAYLOAD i)
  let whole := lineBytes f * unitRows f
  let second := fmtScan f != 0 && unit % 2 == 1
  let len := min p (whole - p * j)
  (s.sentUnit i f second 50 (p * j) len).map fun b => d16 (seq / 0x10000) ++ srdHeaders 50 f second (p * j) len ++ b

/-- The channel-status block of an ST 2110-31 sender's pair at a sample (R292, R337): CS_AUTO true and the default template. -/
def senderCs (s : State) (q : Nat) : List Byte :=
  csBytes (padTo 24 [0x01]) 2 false (q - q % 192) (if s.b O01.TIME_VALID then (q - q % 192) % 4147200000 else 0)

/-- The payload of an AUDIO or AES3 packet from sample `q` on (R366): 24-bit samples, or subframes; none while samples are missing. -/
def audioPayload (s : State) (i q : Nat) : Option (List Byte) :=
  let len := packetSamples (s.n (O0D.AUDIO_LEVEL i))
  let l := (s.net.heard.getD i []).filter fun e => decide (q ≤ e.1 ∧ e.1 < q + len)
  if l.length ≠ len then none
  else if s.n (O0D.ESSENCE i) = 1 then some (l.flatMap fun e => e.2.flatMap fun w => bytesBE 3 (outWord false (sampleOf w)))
  else some (l.flatMap fun e => e.2.zipIdx.flatMap fun c =>
    let cs := bit ((s.senderCs e.1).getD (e.1 % 192 / 8) 0).toNat (e.1 % 8)
    let w := outWord false (sampleOf c.1) * 16 + cs.toNat * 2 ^ 30
    d32 (am824 (decide (e.1 % 192 = 0)) (c.2 % 2 == 0) (w + (oddBits w).toNat * 2 ^ 31)))

/-- A packet of a sender from its RTP header (R361, R365). -/
def packet (s : State) (i seq stamp : Nat) (marker : Bool) (payload : List Byte) : Frame :=
  let head := if s.n (O0D.ESSENCE i) = 5 then [] else rtpHeader marker (s.n (O0D.SEND_PT i)) (seq % 0x10000) stamp (s.n (O0D.SEND_SSRC i))
  ⟨head ++ payload, 0, s.n (O0D.SEND_MARKING i) % 8, i, 0, false⟩

/-- A path of a sender carries packets: its port's link is up and forwarding, and its next hop is known (R353, R354, R368). -/
def pathCarries (s : State) (i c : Nat) : Bool :=
  let p := pathPort (s.sendPath i c)
  s.linkUp p && (!(external p) || s.n (O0F.STP_STATE p) == 2) && (s.pathMac i c).isSome

/-- A packet that a stream filter matches is counted there. -/
def filterSeen (s : State) (filter : Option Nat) : State :=
  match filter with
  | some x => s.bump (O10.SF_FRAMES x) 1
  | none => s

/-- A packet leaves its pacer on one path: with its headers (R354, R362, R377), into its TC queue or flow shaper, or discarded where the path is
down (R368, R394). -/
def sendPacket (s : State) (i c slot : Nat) (f : Frame) : State :=
  let p := pathPort (s.sendPath i c)
  let k := 0x100 + pathIf (s.sendPath i c)
  if s.pathCarries i c then
    let udp := udpDatagram (s.n (O0D.SEND_UDP i) / 65536) (s.n (O0D.SEND_UDP i) % 65536) f.body
    let ip := ipPacket (field (s.n (O0D.SEND_MARKING i)) 13 8) 17 (s.n (O0F.IF_ADDR k)) (s.sendDest i c) udp
    let filter := s.filterOfSender i
    let g := { f with body := etherFrame ((s.pathMac i c).getD 0) (s.ifaceMac (k - 0x100)) 0x0800 ip, vid := s.n (O0F.IF_VID k) }
    let t := s.filterSeen filter
    if t.bufferFull p g then t.bufferDrop (224 + i / 256) else t.towards p slot filter g
  else s.flag (O0D.SEND_FLAGS i) 1

/-- Packets of a sender enter its pacer, on each of its paths: slot, timestamp, marker and payload, where it has been read. The sequence numbers of
packets that were not read are used up (R72, R368, R394). A DATA packet goes at once (R396). -/
def pace (s : State) (i now : Nat) (l : List (Nat × Nat × Bool × (Nat → Option (List Byte)))) : State :=
  let seq := s.net.seqs.getD i 0
  let t := s.onNet fun n => { n with seqs := n.seqs.put i ((seq + l.length) % 2 ^ 32) }
  t.forEach l.zipIdx fun t e =>
    let d := e.1
    let k := (seq + e.2) % 2 ^ 32
    match d.2.2.2 k with
    | none => t
    | some b =>
      let f := s.packet i k d.2.1 d.2.2.1 b
      if s.n (O0D.ESSENCE i) = 5 then t.forEach (s.sendPaths i) fun t c => t.sendPacket i c now f
      else t.forEach (s.sendPaths i) fun t c => t.onNet fun n =>
        { n with pacers := n.pacers.put i (n.pacers.getD i [] ++ [(d.1, c, { f with release := d.1 })]) }

/-- A picture of a VIDEO sender has been sent (R365). -/
def pictureSent (s : State) (i : Nat) (due : List (Nat × Nat × Bool × Nat × Nat)) : State :=
  let f := s.n (O0D.SEND_FORMAT i)
  if s.n (O0D.ESSENCE i) = 0 ∧ due.any fun e => e.2.2.1 && (fmtScan f == 0 || e.2.2.2.1 % 2 == 1) then
    s.onNet fun n => { n with stage := n.stage.put i ((n.stage.getD i []).drop 1) }
  else s

/-- The frame or field of an ANC sender that has ended with the present tick (R367; log entry 41). -/
def endedUnit (s : State) (i : Nat) : Option Nat :=
  let r := unitRate (s.n (O0D.SEND_FORMAT i))
  let at_ (t : Nat) : Nat := t * 500 * r.1 / max 1 (r.2 * 96000000)
  if at_ s.tick64 = at_ (s.tick64 + 1) then none else some (at_ (s.tick64 + 1) - 1)

/-- The packets that a sender releases under an entry: what its engine has read, after the `before` packets of the entries before it, up to the
budget, and for an SDI sender what the command says that the engine has made of the signal (R365 to R367, R394, R396). The last of a sender's
entries uses up what is left; of work that is missing nothing is sent (R72). -/
def releaseSender (s : State) (i now before budget : Nat) (last sent : Bool) (signal : List (List Byte)) : State :=
  match s.n (O0D.ESSENCE i) with
  | 3 =>
    match s.endedUnit i with
    | none => s
    | some k =>
      let f := s.n (O0D.SEND_FORMAT i)
      let l := (ancUnits 1024 (s.net.stage.getD i [])).take budget
      let field_ := if fmtScan f = 1 then 2 + k % 2 else 0
      let t := s.onNet fun n => { n with stage := n.stage.del i }
      t.pace i now (l.zipIdx.map fun e => ((s.tick64 + 1) * 500 + e.2, s.frameStamp i k, e.2 + 1 == l.length,
        fun seq => if sent then some (ancPayload (rasterWidth (fmtRaster f)) seq field_ e.1) else none))
  | 5 =>
    let l := (s.net.units.getD i []).take budget
    (s.onNet fun n => { n with units := n.units.put i ((n.units.getD i []).drop budget) }).pace i now
      (l.map fun b => (now, 0, false, fun _ => if sent then some b else none))
  | es =>
    let due := if last then (s.duePackets i).drop before else ((s.duePackets i).drop before).take budget
    let item (e : (Nat × Nat × Bool × Nat × Nat) × Nat) : Nat × Nat × Bool × (Nat → Option (List Byte)) :=
      (e.1.1, e.1.2.1, e.1.2.2.1, fun seq => if ¬ sent ∨ budget ≤ e.2 then none
        else if es = 0 then s.videoPayload i seq e.1.2.2.2.1 e.1.2.2.2.2
        else if es = 4 then signal[e.2]?
        else s.audioPayload i e.1.2.2.2.1)
    (s.pace i now (due.zipIdx.map item)).pictureSent i due

/-- The samples of an AUDIO or AES3 sender's channels in a sample period of 48 kHz (R336, R366): at 96 kHz what its converter gives, which is open
(R286; log entry 5). The newest 96 are kept. -/
def hearSender (s : State) (i : Nat) : State :=
  let es := s.n (O0D.ESSENCE i)
  if s.n (O0D.SEND_STATE i) ≠ 2 ∨ (es ≠ 1 ∧ es ≠ 2) then s
  else
    let count := s.n (O0D.CHANNEL_COUNT i) * (if es = 2 then 2 else 1)
    let base := s.n (O0D.CHANNEL_BASE i)
    let r := (List.range count).foldl (fun (a : List Nat × State) c =>
      if s.rate96 then
        let d := a.2.draw
        (a.1 ++ [d.1 % 2 ^ 32], d.2)
      else (a.1 ++ [SMap.getD s.amx.out (base + c) 0], a.2)) ([], s)
    let q := (s.tick64 - (if s.rate96 then 192 else 0)) / 4
    r.2.onNet fun n => { n with heard := n.heard.put i (((n.heard.getD i []) ++ [(q, r.1)]).drop ((n.heard.getD i []).length - 95)) }

/-- Every sender of audio takes the samples of a period of 48 kHz (R366). -/
def sendersHear (s : State) : State := if s.tick64 % 4 ≠ 0 then s else s.forEach (s.enabledFlows 0x0D) hearSender

/-- The sender that a RELEASE entry serves, by its stream's descriptor (R53). -/
def releaseOf (s : State) (word : Nat) : Option Nat :=
  match s.desc? (entStream word) with
  | some d => if 0x100 ≤ d.dest ∧ d.dest < 0x900 then some (d.dest - 0x100) else none
  | none => none

/-- A RELEASE entry that a spill abandoned: its packets are not sent, and their sequence numbers are used up (R72). -/
def missRelease (s : State) (word : Nat) : State :=
  let link := ((s.chain.active.find? fun e => e.2 == word).map (·.1)).getD 0
  match s.releaseOf word with
  | some i => if s.n (O0D.SEND_STATE i) = 2 then s.releaseSender i 0 (s.releaseBefore link word) (entArg word % 256) (s.lastRelease link word) false [] else s
  | none => s

/-- Bytes of payload in a packet, and packets per second as a fraction, of a flow of an essence (R362, R365 to R367). -/
def flowPackets (essence f payload level channels : Nat) : Nat × (Nat × Nat) :=
  match essence with
  | 0 => (payload, ((unitRate f).1 * videoPackets f payload, (unitRate f).2))
  | 1 => (packetSamples level * channels * 3, (48000 / packetSamples level, 1))
  | 2 => (packetSamples level * channels * 8, (48000 / packetSamples level, 1))
  | 4 => (1376, ((rateFrac (fmtRate f)).1 * sdiDatagrams f, (rateFrac (fmtRate f)).2))
  | _ => (0, (0, 1))

/-- H of an essence (R362). -/
def extraBytes : Nat → Nat
  | 0 => 14 | 3 => 8 | 4 => 8 | _ => 0

/-- The wire rate of a flow on a port in kb/s, rounded up (R362). -/
def wireKbps (s : State) (p essence f payload level channels : Nat) : Nat :=
  let q := flowPackets essence f payload level channels
  ceilDiv (q.2.1 * (8 * (q.1 + extraBytes essence + 82) + (if s.secured p then 256 else 0))) (max 1 q.2.2 * 1000)

/-- The wire rate of a sender on a port. -/
def sendKbps (s : State) (i p : Nat) : Nat :=
  s.wireKbps p (s.n (O0D.ESSENCE i)) (s.n (O0D.SEND_FORMAT i)) (s.n (O0D.SEND_PAYLOAD i)) (s.n (O0D.AUDIO_LEVEL i))
    (s.n (O0D.CHANNEL_COUNT i))

/-- SEND_RATE in Mb/s, of an enabled sender on path A's port (R377). -/
def sendRate (s : State) (i : Nat) : Nat := if s.b (O0D.SEND_ENABLE i) then s.sendKbps i (pathPort (s.sendPath i 0)) / 1000 else 0

/-- The wire rate of a receiver on a port: 1,260 bytes and 48 samples a packet, the senders' defaults (R362; log entry 27). -/
def rxKbps (s : State) (i p : Nat) : Nat :=
  let es := s.n (O0E.ESSENCE i)
  let ch := s.n (O0E.CHANNEL_COUNT i)
  s.wireKbps p es (s.n (O0E.RX_FORMAT i)) 1260 0 (if es = 2 then ceilDiv ch 2 else ch)

/-- The paths of a receiver. -/
def rxPath (s : State) (i c : Nat) : Nat := s.n (if c = 0 then O0E.RX_PATH_A i else O0E.RX_PATH_B i)
def rxPaths (s : State) (i : Nat) : List Nat := [0, 1].filter fun c => pathPort (s.rxPath i c) != 0xFFFF

/-- What enabled flows load each port and direction with: port, whether it is egress, kb/s, and the flow's traffic class (R362). -/
def flowLoads (s : State) : List (Nat × Bool × Nat × Nat) :=
  ((s.enabledFlows 0x0D).flatMap fun i => (s.sendPaths i).map fun c =>
    let p := pathPort (s.sendPath i c)
    (p, true, s.sendKbps i p, s.n (O0D.SEND_MARKING i) % 8)) ++
  ((s.enabledFlows 0x0E).flatMap fun i => (s.rxPaths i).map fun c =>
    let p := pathPort (s.rxPath i c)
    (p, false, s.rxKbps i p, 0))

/-- The same by internal media port. -/
def impLoads (s : State) : List (Nat × Bool × Nat) :=
  ((s.enabledFlows 0x0D).flatMap fun i => (s.sendPaths i).map fun c =>
    (224 + i / 256, true, s.sendKbps i (pathPort (s.sendPath i c)))) ++
  ((s.enabledFlows 0x0E).flatMap fun i => (s.rxPaths i).map fun c =>
    (224 + i / 256, false, s.rxKbps i (pathPort (s.rxPath i c))))

/-- What flows load one port with in a direction. -/
def loadOf (l : List (Nat × Bool × Nat × Nat)) (p : Nat) (out : Bool) : Nat :=
  (l.map fun (e : Nat × Bool × Nat × Nat) => if e.1 = p ∧ e.2.1 = out then e.2.2.1 else 0).foldl (· + ·) 0

/-- The limit of R362 or R393 that the values left in force pass: the value of IP_LAST_REFUSAL. -/
def ipRefusal (t : State) : Option Nat :=
  let l := t.flowLoads
  let ports := ((l.map fun (e : Nat × Bool × Nat × Nat) => e.1) ++ ((t.objs.filter fun e =>
    clsOf e.1 == 0x10 && decide (0x800 ≤ instOf e.1 ∧ instOf e.1 < 0x8E0 ∧ parOf e.1 < 4)).map fun e => instOf e.1 - 0x800)).eraseDups
  let share (p : Nat) (out : Bool) : Bool := decide (t.n (O0F.MEDIA_SHARE p) * t.portKbps p < 100 * loadOf l p out)
  let idle (p : Nat) : Nat := ([0, 1].filter fun c => t.cbsTc p c < 8).foldl (fun a c => a + t.cbsIdle p c) 0
  let imp := t.impLoads
  let beyond (m : Nat) (out : Bool) : Bool :=
    decide (1200000000 < (imp.map fun (e : Nat × Bool × Nat) => if e.1 = m ∧ e.2.1 = out then e.2.2 else 0).foldl (· + ·) 0)
  match ports.find? fun p => share p true || (idle p != 0 && decide (t.portKbps p < idle p + loadOf l p true)) with
  | some p => some (0x10000 + p)
  | none =>
    match ports.find? fun p => share p false with
    | some p => some p
    | none =>
      match (List.range 8).find? fun m => beyond (224 + m) true || beyond (224 + m) false with
      | some m => some ((beyond (224 + m) true).toNat * 0x10000 + 224 + m)
      | none => none

/-- A refusal under R362 or R393 is recorded (R362, R381). -/
def ipRefused (s : State) (v : Nat) : State := (s.setN O0F.IP_LAST_REFUSAL v).raise 0x0D3 (v % 0x10000) (d32 v)

/-- The conflicts of CBS classes and gate lists on the values left in force (R393, R399). -/
def shapingConflict (t : State) (k : Key) : Bool :=
  if clsOf k ≠ 0x10 ∧ clsOf k ≠ 0x0D ∧ k ≠ O0F.MEDIA_TCS then false else
  let l := t.flowLoads
  let ports := if clsOf k = 0x10 ∧ 0x800 ≤ instOf k then [instOf k - 0x800]
    else if clsOf k = 0x10 then [] else t.bridgePorts.filter external
  ports.any fun p =>
    let a := t.cbsTc p 0
    let b := t.cbsTc p 1
    (decide (a < 8) && (t.mediaTc a || a == b)) || (decide (b < 8) && t.mediaTc b) ||
    (t.b (O10.GATE_ENABLE (0x800 + p)) &&
      (let g : GateList := ⟨gateEntries 256 (t.bs (O10.ADMIN_LIST (0x800 + p))), 0, t.n (O10.ADMIN_CYCLE (0x800 + p))⟩
       (List.range 8).any fun tc =>
        let load := (l.map fun (e : Nat × Bool × Nat × Nat) => if e.1 = p ∧ e.2.1 ∧ e.2.2.2 = tc then e.2.2.1 else 0).foldl (· + ·) 0
        let open_ := (g.segs.map fun (e : Nat × Nat) => if bit e.1 tc then e.2 else 0).foldl (· + ·) 0
        t.mediaTc tc && load != 0 && g.list != [] && decide (open_ * t.portKbps p < load * g.cycle)))

/-- The value checks of class 0D beyond a row's range (R377). -/
def senderItemOk (s : State) (k : Key) (v : Val) : Bool :=
  if clsOf k ≠ 0x0D then true
  else if parOf k = 7 ∨ parOf k = 8 then
    let p := pathPort v.toNat
    s.present 0x0F p && decide (p < 232) || (p == 0xFFFF && parOf k == 8)
  else true

/-- The formats of an essence (R344): of VIDEO RASTER 3 to 6, of SDI those of SD, 1.5G and 3G level A. -/
def flowFormatOk (essence f : Nat) : Bool :=
  if essence = 0 then decide (3 ≤ fmtRaster f ∧ fmtRaster f ≤ 6) else if essence = 4 then decide (fmtClass f ≤ 3) else true

/-- Cross-object ranges of class 0D (R336, R344, R365 to R367). -/
def senderRange (t : State) (k : Key) : Bool :=
  if clsOf k ≠ 0x0D then true else
  let i := instOf k
  let es := t.n (O0D.ESSENCE i)
  let n := t.n (O0D.CHANNEL_COUNT i)
  let ch := if es = 2 then 2 * n else n
  let r := t.ranges
  let base := t.n (O0D.CHANNEL_BASE i)
  let f := t.n (O0D.SEND_FORMAT i)
  if ¬ t.b (O0D.SEND_ENABLE i) then true
  else if ¬ flowFormatOk es f then false
  else if es = 1 ∨ es = 2 then
    decide (1 ≤ n ∧ ch ≤ 64) && (decide (ch ≤ 8) || t.n (O0D.AUDIO_LEVEL i) == 2) && decide (r.ip ≤ base ∧ base + ch ≤ r.top)
  else if es = 4 then decide (r.sdi ≤ base ∧ base < r.clip)
  else if es = 0 then
    decide (t.n (O0D.SEND_TRO i) * (rateFrac (fmtRate f)).1 ≤ 1000000000 * (rateFrac (fmtRate f)).2)
  else true

/-- PACE_INFO of a sender (R395, R406): NP, spacing in 2⁻¹⁶ slot, TRO in ns, and the type. -/
def paceInfo (s : State) (i : Nat) : List Byte :=
  let x := s.schedule i
  let den := x.rate.1 * x.np * 25
  let spacing := x.rate.2 * 96000000 * (if x.active then 24 else 25) * 65536 / max 1 den
  let tro := if x.tro = 0 then 0
    else if s.n (O0D.SEND_TRO i) = 0 then defaultTro (s.n (O0D.SEND_FORMAT i)) else s.n (O0D.SEND_TRO i)
  d32 x.np ++ d32 spacing ++ d32 tro ++ d8 (s.n (O0D.SENDER_TYPE i)) ++ zeros 3

/-- OVERFLOW_USED: entries that lay 4,096 slots ahead or more when they were entered, and lie so of the present tick's start (R384). -/
def overflowUsed (s : State) : Nat :=
  let far (t : Nat) : Bool := decide (s.tick64 * 500 + 4096 ≤ t)
  (s.net.shapers.filter fun e => far (e.2.elig.getD 0) && decide (e.2.slot + 4096 ≤ e.2.elig.getD 0)).length +
    (s.net.pacers.filter fun e => e.2.any fun (p : Nat × Nat × Frame) => far p.1).length

end State

/-- A RELEASE entry hands a sender's packets for the next tick to its pacer (R53, R361, R365 to R367, R394); one that a stall holds back does not
complete in its tick (R71). `signal` is what an SDI sender's engine has made of its signal for the packets that are due. -/
def execRelease (link word : Nat) (signal : List (List Byte)) (s : State) : Host.Outcome State Fault Refusal :=
  live s fun s =>
    if s.inChain link word ∧ entOp word = 6 then
      let held := s.chain.stalls.filter fun o => o.link == link && o.word == word
      if held ≠ [] then
        { s with chain := { s.chain with
          stalls := s.chain.stalls.filter fun o => !(o.link == link && o.word == word)
          owing := s.chain.owing ++ [⟨word, link, 1, (held.map (·.cause)).foldl (· ||| ·) 0, []⟩] } }
      else match s.releaseOf word with
      | some i =>
        if s.n (O0D.SEND_STATE i) = 2 then
          s.releaseSender i (s.slotAt ((link * 78 + entOfs word) / 16)) (s.releaseBefore link word) (entArg word % 256) (s.lastRelease link word)
            true signal
        else s
      | none => s
    else s

/-- An ARP answer: the next packet uses it (R354, R375). -/
def execArpReply (iface addr mac : Nat) (s : State) : Host.Outcome State Fault Refusal :=
  live s fun s =>
    if 64 ≤ iface ∨ ¬ s.b (O0F.IF_ENABLE (0x100 + iface)) then s else
    s.forEach (s.enabledFlows 0x0D) fun t i =>
      (t.forEach ((t.sendPaths i).filter fun c => pathIf (t.sendPath i c) == iface && t.nextHop i c == addr && !(groupIp (t.sendDest i c)))
        fun t c => t.onNet fun n => { n with arp := n.arp.put (2 * i + c) ⟨some (mac % 2 ^ 48), 0, s.now⟩ }).reportMacs i

/-- The timer of a path's next hop (R354): each second while a request is unanswered, each 60 s after an answer. A refresh that has gone unanswered 3
times is given up until the next is due (log entry 41). -/
def execArpRefresh (sender path : Nat) (s : State) : Host.Outcome State Fault Refusal :=
  onInst 0x0D sender s fun s =>
    let a := s.arp sender path
    let wait := if a.mac = none ∨ a.tries ≠ 0 then 192000 else 11520000
    if 2 ≤ path ∨ s.n (O0D.SEND_STATE sender) = 0 ∨ s.now < a.at_ + wait then s
    else if 3 ≤ a.tries ∧ a.mac ≠ none then
      ((s.onNet fun n => { n with arp := n.arp.put (2 * sender + path) { a with tries := 0, at_ := s.now } }).flag (O0D.SEND_FLAGS sender) 2).raise
        0x0D2 sender []
    else s.arpRequest sender path

/-- Every next hop is known (R364). -/
def execSenderResolved (sender : Nat) (s : State) : Host.Outcome State Fault Refusal :=
  onInst 0x0D sender s fun s =>
    if s.n (O0D.SEND_STATE sender) = 1 ∧ (s.sendPaths sender).all fun c => (s.pathMac sender c).isSome then
      (s.senderRuns sender).raise 0x0D0 sender []
    else s

/-- SAFE HOLD or HBM bypass holds a sender; it resumes when the cause clears (R364). -/
def execSenderHeld (sender : Nat) (s : State) : Host.Outcome State Fault Refusal :=
  onInst 0x0D sender s fun s => (s.holdSender sender).resumeSender sender

/-- The packets of a sender that are due by a slot leave its pacer (R368, R394). -/
def State.paceOut (s : State) (sender at_ : Nat) : State :=
  let l := s.net.pacers.getD sender []
  let rest := l.filter fun (e : Nat × Nat × Frame) => decide (at_ < e.1)
  let t := s.onNet fun n => { n with pacers := if rest = [] then n.pacers.del sender else n.pacers.put sender rest }
  t.forEach (l.filter fun (e : Nat × Nat × Frame) => decide (e.1 ≤ at_)) fun t e => t.sendPacket sender e.2.1 at_ e.2.2

/-- An entry of the wheel: its slot, 7 less its TC, 0 for a pacer and 1 for a flow shaper, and the instance (R384). -/
abbrev WheelEnt := Nat × Nat × Nat × Nat

/-- The order in which the wheel serves (R384). -/
def wheelBefore (a b : WheelEnt) : Bool :=
  decide (a.1 < b.1 ∨ (a.1 = b.1 ∧ (a.2.1 < b.2.1 ∨ (a.2.1 = b.2.1 ∧ (a.2.2.1 < b.2.2.1 ∨ (a.2.2.1 = b.2.2.1 ∧ a.2.2.2 < b.2.2.2))))))

/-- An entry in its place. -/
def wheelInsert (x : WheelEnt) : List WheelEnt → List WheelEnt
  | [] => [x]
  | y :: l => if wheelBefore x y then x :: y :: l else y :: wheelInsert x l

/-- The entries of the wheel that are due by a slot, in the order of their service (R384). -/
def State.wheelDue (s : State) (at_ : Nat) : List WheelEnt :=
  let tc (f : Frame) : Nat := 7 - f.pcp % 8
  let paced := s.net.pacers.flatMap fun (e : Nat × List (Nat × Nat × Frame)) =>
    if s.n (O0D.SEND_STATE e.1) ≠ 2 then []
    else (e.2.filter fun x => decide (x.1 ≤ at_)).map fun x => (x.1, tc x.2.2, 0, e.1)
  let shaped := (s.net.drains ++ s.net.shapers).flatMap fun (e : Nat × ShapeSt) =>
    match e.2.elig, e.2.queue with
    | some k, f :: _ => if k ≤ at_ then [(k, tc f, 1, e.1)] else []
    | _, _ => []
  (paced ++ shaped).foldl (fun l x => wheelInsert x l) []

/-- The wheel serves what is due by a slot (R384, R388, R394). -/
def State.wheelServe (s : State) (at_ : Nat) : State :=
  s.forEach (s.wheelDue at_) fun t e => if e.2.2.1 = 0 then t.paceOut e.2.2.2 e.1 else (t.drainRun e.2.2.2 e.1).shapeRun e.2.2.2 e.1

/-- A paced packet's release slot arrives; the wheel serves with it whatever else is due (R368, R384, R394). -/
def execPacerReleaseSlot (sender slot : Nat) (s : State) : Host.Outcome State Fault Refusal :=
  onInst 0x0D sender s fun s => if 500 ≤ slot then s else s.wheelServe (s.slotAt slot)

/-- A head frame's eligible slot is reached; the wheel serves with it whatever else is due (R384, R388). -/
def execShaperEligible (filter slot : Nat) (s : State) : Host.Outcome State Fault Refusal :=
  live s fun s => if slot < 500 then ((s.wheelServe (s.slotAt slot)).drainRun filter (s.slotAt slot)).shapeRun filter (s.slotAt slot) else s

end Sys2Proof.Machine
end

