-- ==== Sys2Proof/Machine/Receivers.lean ====
section
/-! DEFINITION. IP receivers: states, paths, merging, line groups, audio delivery, and the commands that act on them (R354, R369 to
R374). -/

namespace Sys2Proof.Machine

/-- A receiver's own state where nothing has happened yet (log entry 9). -/
def RxSt.fresh : RxSt := ⟨none, none, [], [], [], 0, 0, 0, [], [], .still 0x100000, [], none, 0, [], 0, 0, [], [], 0, 0⟩

/-- One of two 32-bit timestamps is later than the other, counting modulo 2³² (R361). -/
def laterStamp (a b : Nat) : Bool := decide (0 < signed 32 (a % 2 ^ 32 + 2 ^ 32 - b % 2 ^ 32))

/-- Line groups of a unit that a receiver receives: of a frame, or of a field (R57). -/
def rxGroups (f : Nat) : Nat := lineGroups f

/-- Bytes of a line group of a unit (R57, R143). -/
def rxGroupBytes (f g : Nat) : Nat := min 8 (fmtGroupLines f - 8 * g) * lineBytes f

/-- The place of a piece in its unit: row and byte (R369). The rows of a segment are every second line of its frame. -/
def srdPlace (f : Nat) (x : Srd) : Nat × Nat :=
  (if fmtScan f = 2 then 2 * x.row + x.second.toNat else x.row, x.offset / (pixelGroup (fmtSampling f)).2 * (pixelGroup (fmtSampling f)).1)

/-- A piece lies in the picture of a format: whole pixel groups of one of its rows (R369). -/
def srdFits (f : Nat) (x : Srd) : Bool :=
  let g := pixelGroup (fmtSampling f)
  decide (x.row < unitRows f) && (fmtScan f != 0 || !x.second) && x.offset % g.2 == 0 && x.data.length % g.1 == 0 && x.data != [] &&
    decide (x.offset / g.2 * g.1 + x.data.length ≤ lineBytes f)

/-- The last piece of a frame, field or segment ends at the end of its last row (R369). -/
def srdEnds (f : Nat) (x : Srd) : Bool :=
  let g := pixelGroup (fmtSampling f)
  x.row + 1 == unitRows f && x.offset / g.2 * g.1 + x.data.length == lineBytes f

/-- Pieces laid over the bytes of a line group. -/
def layParts (base : List Byte) (l : List (Nat × List Byte)) : List Byte :=
  l.foldl (fun a e => a.take e.1 ++ e.2 ++ a.drop (e.1 + e.2.length)) base

/-- Insert a unit by its timestamp, oldest first. -/
def insertUnit : List RxUnit → RxUnit → List RxUnit
  | [], u => [u]
  | v :: l, u => if laterStamp v.stamp u.stamp then u :: v :: l else v :: insertUnit l u

/-- A 16-bit sequence number extended to 32 bits, nearest to the highest seen (R370). -/
def extendSeq (high : Option Nat) (seq : Nat) : Nat :=
  match high with
  | none => seq % 65536
  | some h =>
    let d := (seq % 65536 + 65536 - h % 65536) % 65536
    if d < 32768 then (h + d) % 2 ^ 32 else if 65536 ≤ h + d then h + d - 65536 else (h + d + 2 ^ 32 - 65536) % 2 ^ 32

/-- The sequence numbers from `a` on, `k` of them, with the time at which they were missed. -/
def missed (a k t : Nat) : List (Nat × Nat) := (List.range k).map fun j => ((a + j) % 2 ^ 32, t)

/-- The channel-status bits of a channel after one more subframe: a Z preamble starts a block (R289). -/
def csPush (bits : List Bool) (word : Nat) : List Bool := if field word 3 0 = 4 then [bit word 30] else bits ++ [bit word 30]

/-- A complete channel-status block declares non-PCM; a block whose CRCC fails says nothing (R289). -/
def csNonPcm (bits : List Bool) (was : Bool) : Bool :=
  if bits.length < 192 then was
  else
    let bytes := (List.range 24).map fun i => BitVec.ofNat 8 ((List.range 8).foldl (fun a n => a + (bits.getD (8 * i + n) false).toNat * 2 ^ n) 0)
    let b0 : Byte := bytes.headD 0
    if bit b0.toNat 0 ∧ csCrcc (bytes.take 23) ≠ (bytes.getD 23 0).toNat then was else bit b0.toNat 1

namespace State

/-- A receiver's own state. -/
def rx (s : State) (i : Nat) : RxSt := s.net.rx.getD i RxSt.fresh

/-- Change a receiver's own state. -/
def setRx (s : State) (i : Nat) (x : RxSt) : State := s.onNet fun n => { n with rx := n.rx.put i x }

/-- The group and the source filter of a path of a receiver (R378). -/
def rxGroup (s : State) (i c : Nat) : Nat := natBE (slice (padTo 8 (s.bs (O0E.RX_GROUPS i))) (4 * c) 4)
def rxSource (s : State) (i c : Nat) : Nat := natBE (slice (padTo 8 (s.bs (O0E.RX_SOURCES i))) (4 * c) 4)

/-- An IGMPv2 querier has been heard on an interface within the last 400 s (R354). -/
def igmpV2 (s : State) (iface : Nat) : Bool :=
  match SMap.find? s.net.querier iface with
  | some t => decide (s.now ≤ t + 400 * 192000)
  | none => false

/-- An IGMP report or leave for a path of a receiver (R354, R369): 0 an answer, 1 a join, 2 a leave. -/
def igmp (s : State) (i c how : Nat) : State :=
  let p := s.rxPath i c
  let g := s.rxGroup i c
  if pathPort p = 0xFFFF ∨ ¬ groupIp g then s
  else s.sendOwn (pathPort p) (pathIf p) (igmpReport (s.igmpV2 (pathIf p)) how (s.ifaceMac (pathIf p)) (s.n (O0F.IF_ADDR (0x100 + pathIf p))) g
    (s.rxSource i c))

/-- The samples of an audio receiver's channels are 0. -/
def silence (s : State) (i : Nat) : State :=
  if s.n (O0E.ESSENCE i) = 1 ∨ s.n (O0E.ESSENCE i) = 2 then
    s.forEach (List.range (s.n (O0E.CHANNEL_COUNT i))) fun t c => t.putSrc (s.n (O0E.CHANNEL_BASE i) + c) 0
  else s

/-- What an applied transaction changes in class 0E (R369). -/
def rxApplied (s : State) (k : Key) : State :=
  let i := instOf k
  if parOf k = 0 then
    if s.b (O0E.RX_ENABLE i) then
      if s.n (O0E.RX_STATE i) ≠ 0 then s
      else
        let t := (s.setRx i RxSt.fresh).setInput (0x1000 + i) { InSt.fresh with writing := true }
        ((t.setN (O0E.RX_STATE i) 1).igmp i 0 1).igmp i 1 1
    else
      let t := if s.n (O0E.RX_STATE i) = 0 then s else (s.igmp i 0 2).igmp i 1 2
      let t := ((t.silence i).setN (O0E.RX_STATE i) 0).setN (O0E.PATH_STATES i) 0
      let t := t.onNet fun n => { n with rx := n.rx.del i }
      { t with inputs := t.inputs.del (0x1000 + i) }
  else if 6 ≤ parOf k ∧ parOf k ≤ 9 ∧ s.n (O0E.RX_STATE i) ≠ 0 then (s.igmp i 0 1).igmp i 1 1
  else s

/-- A frame of a VIDEO or SDI receiver has closed (R369, R371, R372). -/
def frameClosed (s : State) (i : Nat) (fits : Bool) : State :=
  let y := s.input (0x1000 + i)
  let t := s.setInput (0x1000 + i) { y with
    frame := y.frame + 1, bad := false
    badFrames := if y.bad ∨ ¬ fits then (y.frame :: y.badFrames).take 4 else y.badFrames
    good := fits && (y.good || !y.bad) }
  let t := t.setRx i { t.rx i with lines := 0 }
  if fits then
    if s.n (O0E.RX_STATE i) = 1 then (t.setN (O0E.RX_STATE i) 2).raise 0x0E0 i [] else t.setN (O0E.RX_STATE i) 2
  else if s.n (O0E.RX_STATE i) = 3 then t
  else ((t.setN (O0E.RX_STATE i) 3).flag (O0E.RX_FLAGS i) 1).raise 0x0E4 i []

/-- The bytes of a line group of the frame before the one in progress, in the receiver's ring (R371). -/
def earlierGroup (s : State) (i g size : Nat) : List Byte :=
  let x := s.rx i
  match x.queue.reverse.find? fun e => e.1 + 1 == (s.input (0x1000 + i)).frame && e.2.1 == g with
  | some e => padTo size e.2.2
  | none =>
    match List.find? (fun (e : Nat × Desc) => e.2.dest == 0x4000 + i) s.fabric.desc with
    | none => zeros size
    | some e =>
      let d := e.2
      let place := ((s.input (0x1000 + i)).frame + d.frames - 1) % max 1 d.frames
      s.fmRead (d.base * 4096 + place * s.frameStride d + (((List.range g).map d.groupCells).foldl (· + ·) 0) * 128) size

/-- A line group of the frame in progress goes to the queue: its lines are closed (R371, R372). -/
def queueGroup (s : State) (i f g : Nat) (b : List Byte) : State :=
  let x := s.rx i
  s.setRx i { x with
    queue := x.queue ++ [((s.input (0x1000 + i)).frame, g, b)]
    lines := x.lines + min 8 (fmtGroupLines f - 8 * (g % rxGroups f)) }

/-- A field that never came is patched from the frame before, and its frame is incomplete. -/
def patchField (s : State) (i f first : Nat) : State :=
  let y := s.input (0x1000 + i)
  (s.setInput (0x1000 + i) { y with bad := true }).forEach (List.range (rxGroups f)) fun t g =>
    t.queueGroup i f (first + g) (t.earlierGroup i (first + g) (rxGroupBytes f g))

/-- A line group of a unit closes (R371): with all its packets, or with what is missing patched from the frame before or left incomplete. -/
def closeGroup (s : State) (i stamp g : Nat) : State :=
  let f := s.n (O0E.RX_FORMAT i)
  let x := s.rx i
  match x.units.find? fun u => u.stamp == stamp with
  | none => s
  | some u =>
    if u.closed.contains g then s
    else
      let parts := u.parts.getD g []
      let whole := decide (rxGroupBytes f g ≤ (parts.map fun e => e.2.length).sum)
      let size := rxGroupBytes f g
      let base := if whole then zeros size else s.earlierGroup i (g + if u.second then rxGroups f else 0) size
      let v := { u with closed := g :: u.closed, parts := u.parts.put g [(0, layParts base parts)] }
      let t := s.setRx i { x with units := x.units.map fun w => if w.stamp = stamp then v else w }
      let y := t.input (0x1000 + i)
      if whole ∨ s.n (O0E.RX_LOSS_FILL i) ≠ 1 then t else t.setInput (0x1000 + i) { y with bad := true }

/-- The closed line groups of the oldest unit go to the queue in order; a unit of which all have gone has closed, and with the last of a frame the frame
and an SDI receiver's ANC unit (R369, R371, R372, R374). The first argument bounds the line groups. -/
def flushUnits : Nat → State → Nat → State
  | 0, s, _ => s
  | n + 1, s, i =>
    let f := s.n (O0E.RX_FORMAT i)
    let x := s.rx i
    match x.units with
    | [] => s
    | u :: l =>
      let half := fmtGroupLines f
      let first := if u.second then rxGroups f else 0
      if u.sent = 0 ∧ u.closed.contains 0 ∧ u.second ∧ x.lines = 0 then flushUnits n (s.patchField i f 0) i
      else if u.sent = 0 ∧ u.closed.contains 0 ∧ fmtScan f = 1 ∧ ¬ u.second ∧ x.lines = half then
        flushUnits n ((s.patchField i f (rxGroups f)).frameClosed i true) i
      else if u.sent < rxGroups f then
        if u.closed.contains u.sent then
          let b := ((u.parts.getD u.sent []).head?.map (·.2)).getD []
          let t := s.queueGroup i f (first + u.sent) b
          flushUnits n (t.setRx i { t.rx i with units := { u with sent := u.sent + 1, parts := u.parts.del u.sent } :: l }) i
        else s
      else
        let t := s.setRx i { x with units := l, done := some u.stamp }
        let t := t.ancFlush (0x1000 + i)
        flushUnits n (if fmtScan f = 1 ∧ ¬ u.second then t else t.frameClosed i u.fits) i

/-- When a packet of a later line group than `g` of a unit, or of a later unit, first arrived (R371). -/
def laterSince (x : RxSt) (u : RxUnit) (g : Nat) : Option Nat :=
  let own := (u.first.filter fun e => decide (g < e.1)).map (·.2)
  let other := (x.units.filter fun v => laterStamp v.stamp u.stamp).flatMap fun v => v.first.map (·.2)
  (own ++ other).foldl (fun (a : Option Nat) t => match a with
    | none => some t
    | some b => some (min b t)) none

/-- The pieces of a packet reach a VIDEO or SDI receiver (R369, R371): a piece of a line group that has closed is late, and a line group with all its
packets closes. `fits` is false where the packet is none of RX_FORMAT's. -/
def rxPicture (s : State) (i stamp : Nat) (second fits : Bool) (l : List (Nat × Nat × List Byte)) : State :=
  let f := s.n (O0E.RX_FORMAT i)
  let x := s.rx i
  let late : State := ((s.bump (O0E.LATE_PACKETS i) 1).flag (O0E.RX_FLAGS i) 8).raiseLim 0x0E6 i [] 192000
  if (match x.done with | some d => !(laterStamp stamp d) | none => false) then late
  else
    let u := (x.units.find? fun u => u.stamp == stamp).getD ⟨stamp, second, [], [], [], 0, true⟩
    let own := l.filter fun e => !(u.closed.contains (e.1 / 8))
    let v := own.foldl (fun (a : RxUnit) (e : Nat × Nat × List Byte) =>
      let g := e.1 / 8
      { a with
        first := if (SMap.find? a.first g).isSome then a.first else a.first.put g s.now
        parts := a.parts.put g (a.parts.getD g [] ++ [(e.1 % 8 * lineBytes f + e.2.1, e.2.2)]) }) { u with fits := u.fits && fits }
    let units := if x.units.any fun w => w.stamp == stamp then x.units.map fun w => if w.stamp = stamp then v else w else insertUnit x.units v
    let t := (if own.length = l.length then s else late)
    let t := t.setRx i { t.rx i with units := units }
    let ready := ((own.map fun e => e.1 / 8).eraseDups).filter fun g =>
      decide (rxGroupBytes f g ≤ ((v.parts.getD g []).map fun e => e.2.length).sum)
    flushUnits 1024 (t.forEach ready fun t g => t.closeGroup i stamp g) i

/-- A receiver has lost every path: its frame in progress closes (R369, R371). -/
def rxLost (s : State) (i : Nat) : State :=
  let groups := List.range (rxGroups (s.n (O0E.RX_FORMAT i)))
  let t := s.forEach (s.rx i).units fun t u => flushUnits 1024 (t.forEach groups fun t g => t.closeGroup i u.stamp g) i
  (t.setN (O0E.RX_STATE i) 1).raise 0x0E1 i []

/-- The ANC packets of an ST 2110-40 packet join the unit of their line group; the unit is whole with the first packet of another line group, or with the
last of its frame or field (R145, R374; log entry 41). -/
def rxAnc (s : State) (i : Nat) (marker : Bool) (b : List Byte) : State :=
  let k := 0x1000 + i
  let width := rasterWidth (fmtRaster (s.n (O0E.RX_FORMAT i)))
  let t := s.forEach (ancPacketsOf (b.getD 4 0).toNat b 64) fun t e =>
    let t := if (t.input k).ancGroup = e.2.1 / 8 then t else t.ancFlush k
    let x := t.input k
    let space := decide (e.2.2.1 ≠ 0xFFF ∧ width ≤ e.2.2.1)
    let hofs := if e.2.2.1 = 0xFFF then 0xFFFF else if space then e.2.2.1 - width else e.2.2.1
    let fl := e.1.toNat * 128 + space.toNat * 64
    if e.2.1 = 0 ∨ e.2.2.2.length < 4 then t
    else t.setInput k { x with ancGroup := e.2.1 / 8, anc := ancInsert x.anc (ancPlace e.2.1 hofs fl, ancBytes e.2.1 hofs fl e.2.2.2) }
  if marker then t.ancFlush k else t

/-- The sequence numbers missing on a path longer than MERGE_WINDOW are lost there; those that arrived on neither path are unrecovered
(R370). -/
def ageMissing (s : State) (i : Nat) (b : Bool) : State :=
  let x := s.rx i
  let limit := s.n (O0E.MERGE_WINDOW i) * 192 / 1000
  let l := if b then x.missB else x.missA
  let old := l.filter fun (e : Nat × Nat) => decide (e.2 + limit < s.now)
  if old = [] then s
  else
    let keep := l.filter fun (e : Nat × Nat) => decide (s.now ≤ e.2 + limit)
    let other := if b then x.missA else x.missB
    let high := if b then x.highA else x.highB
    let on := bit (s.n (O0E.PATH_STATES i)) (if b then 0 else 1)
    let gone := old.filter fun (e : Nat × Nat) =>
      !(x.got.any fun (g : Nat × Nat × Nat) => g.1 == e.1) && !(other.any fun (o : Nat × Nat) => o.1 == e.1) &&
        (!on || (match high with | some h => decide (e.1 ≤ h) | none => false))
    let t := (s.setRx i (if b then { x with missB := keep } else { x with missA := keep })).bumpPair (O0E.LOST_AB i) b old.length
    if gone = [] then t
    else ((t.bump (O0E.UNRECOVERED i) gone.length).flag (O0E.RX_FLAGS i) 4).raiseLim 0x0E5 i [] 192000

/-- SKEW, each 192,000 ticks (R370). -/
def reportSkew (s : State) (i : Nat) : State :=
  let x := s.rx i
  if x.skewN = 0 then s
  else
    let z := Int.fdiv x.skewSum x.skewN
    let t := (s.setRx i { x with skewSum := 0, skewN := 0, skewAt := s.now }).setZ 32 (O0E.SKEW i) z
    if 1000 * s.n (O0E.MERGE_WINDOW i) < z.natAbs then (t.flag (O0E.RX_FLAGS i) 32).raise 0x0E8 i [] else t

/-- What receivers do at every tick boundary (R370). -/
def rxTick (s : State) : State :=
  s.forEach s.net.rx fun t e =>
    let t := (t.ageMissing e.1 false).ageMissing e.1 true
    if s.now % 192000 = 0 then t.reportSkew e.1 else t

/-- One packet on a path of a receiver, by its extended sequence number: gaps behind it are missing (R370). -/
def arrive (x : RxSt) (b : Bool) (e now : Nat) : RxSt :=
  let high := if b then x.highB else x.highA
  let l := if b then x.missB else x.missA
  let r : Option Nat × List (Nat × Nat) := match high with
    | none => (some e, l)
    | some h =>
      let d := (e + 2 ^ 32 - h) % 2 ^ 32
      if d < 2 ^ 31 then (some e, l ++ missed (h + 1) (d - 1) now)
      else (some h, l.filter fun (m : Nat × Nat) => m.1 != e)
  if b then { x with highB := r.1, missB := r.2 } else { x with highA := r.1, missA := r.2 }

/-- The samples of a packet as they enter a receiver's buffer: channels beyond the count are discarded (R336, R337, R373). -/
def rxFrame (s : State) (i : Nat) (x : RxSt) (f : List Nat) : RxSt × List Nat :=
  let n := s.n (O0E.CHANNEL_COUNT i)
  let f := f.take n
  if s.n (O0E.ESSENCE i) ≠ 2 then (x, f)
  else
    let cs := (List.range f.length).map fun c => csPush (x.cs.getD c []) (f.getD c 0)
    let np := (List.range ((f.length + 1) / 2)).map fun p => csNonPcm (cs.getD (2 * p) []) (x.nonPcm.getD p false)
    let v := (List.range f.length).map fun c =>
      let w := f.getD c 0
      if np.getD (c / 2) false then 0
      else if oddBits (w / 16 * 16) then x.last.getD c 0 else field w 27 4 * 256
    ({ x with cs := cs, nonPcm := np, last := (List.range f.length).map fun c =>
        if oddBits (f.getD c 0 / 16 * 16) then x.last.getD c 0 else field (f.getD c 0) 27 4 * 256 }, v)

/-- The matrix sample at 48 kHz that is delivered in the present tick (R286, R373). -/
def rxPeriodNow (s : State) : Nat := (s.tick64 - (if s.rate96 then 192 else 0)) / 4

/-- An audio packet enters its receiver's buffer, unless it is late or early (R373). -/
def rxAudio (s : State) (i stamp : Nat) (samples : List (List Nat)) : State :=
  let p := (stamp + s.n (O0E.LINK_OFFSET i)) % 2 ^ 32
  let now := s.rxPeriodNow
  let ahead := signed 32 (p + 2 ^ 32 - now % 2 ^ 32)
  if ahead ≤ 0 then
    ((s.bump (O0E.LATE_PACKETS i) 1).flag (O0E.RX_FLAGS i) 8).raiseLim 0x0E6 i [] 192000
  else if (s.n (O0E.LINK_OFFSET i) + 1024 : Nat) < ahead then
    ((s.bump (O0E.EARLY i) 1).flag (O0E.RX_FLAGS i) 16).raise 0x0E7 i []
  else
    let r := (samples.zipIdx).foldl (fun (a : RxSt × SMap (List Nat)) (e : List Nat × Nat) =>
      let q := s.rxFrame i a.1 e.1
      (q.1, a.2.put (now + ahead.toNat + e.2) q.2)) (s.rx i, (s.rx i).audio)
    s.setRx i { r.1 with audio := r.2 }

/-- An audio receiver delivers one matrix sample; a missing one is concealed (R72, R373). What the converter of a 96 kHz matrix computes
is open (log entry 5). -/
def rxDeliver (s : State) (i : Nat) : State :=
  let x := s.rx i
  let q := s.rxPeriodNow
  let n := List.range (s.n (O0E.CHANNEL_COUNT i))
  let base := s.n (O0E.CHANNEL_BASE i)
  let len := if s.rate96 then 96 else 48
  match SMap.find? x.audio q with
  | some f =>
    let fade := (if x.fade.target = 0x100000 then x.fade else x.fade.toward 0x100000 len).next
    let keep := s.rate96 && s.tick64 % 4 < 2
    let t := s.setRx i { x with
      audio := (if keep then x.audio else x.audio.filter fun e => decide (q < e.1))
      last := f, fade := fade }
    t.forEach n fun t c =>
      if s.rate96 then
        let d := t.draw
        d.2.putSrc (base + c) (round20 (sampleOf d.1 * fade.now))
      else t.putSrc (base + c) (round20 (sampleOf (f.getD c 0) * fade.now))
  | none =>
    let fade := (if x.fade.target = 0 then x.fade else x.fade.toward 0 len).next
    let t := s.setRx i { x with audio := x.audio.filter fun e => decide (q < e.1), fade := fade }
    t.forEach n fun t c => t.putSrc (base + c) (round20 (sampleOf (x.last.getD c 0) * fade.now))

/-- Every audio receiver takes part in a matrix sample period (R373). -/
def rxPeriod (s : State) : State :=
  s.forEach s.net.rx fun t e => if t.n (O0E.ESSENCE e.1) = 1 ∨ t.n (O0E.ESSENCE e.1) = 2 then t.rxDeliver e.1 else t

/-- A payload of a DATA receiver goes to FP62 within its cells of the tick, as a PACKET unit: the descriptor, and the payload (R363, R374). -/
def rxData (s : State) (i src dst sport : Nat) (b : List Byte) : State :=
  let x := s.rx i
  let used := if x.cellsAt = s.tick64 then x.cells else 0
  let c := ceilDiv (16 + b.length) 128
  if s.n (O0E.RX_DATA_CELLS i) < used + c then s.bump (O0E.DROPS i) 1
  else (s.setRx i { x with cellsAt := s.tick64, cells := used + c }).emit (.media 0x0E i
    ((d16 b.length ++ d32 src ++ d32 dst ++ d16 sport ++ d16 (s.n (O0E.RX_UDP i)) ++ d16 i ++ b).map (·.toNat)))

/-- A path carries its first packet (R369). -/
def pathActive (s : State) (i c : Nat) : State :=
  if bit (s.n (O0E.PATH_STATES i)) c then s
  else (s.setN (O0E.PATH_STATES i) (setBits (s.n (O0E.PATH_STATES i)) (2 ^ c))).raise 0x0E3 i (d8 c)

/-- A path carries a packet now. -/
def pathSeen (s : State) (i c : Nat) : State :=
  let x := s.rx i
  (s.setRx i (if c = 0 then { x with seenA := s.now } else { x with seenB := s.now })).pathActive i c

/-- The ring of FRAMES of a VIDEO or SDI receiver (R371). -/
def rxFrames (s : State) (i : Nat) : Nat :=
  3 + ceilDiv (s.mergeLines i) (max 1 (rasterTotal (fmtRaster (s.n (O0E.RX_FORMAT i)))))

/-- The bytes that a receiver takes in the general region: a ring of RX_FRAMES frames, or an audio buffer (R371, R373). -/
def rxBytes (s : State) (i : Nat) : Nat :=
  let es := s.n (O0E.ESSENCE i)
  let f := s.n (O0E.RX_FORMAT i)
  if es = 0 ∨ es = 4 then
    s.rxFrames i * (ceilDiv (frameBytes f) 4096 * 4096)
  else if es = 1 ∨ es = 2 then ceilDiv (4 * s.n (O0E.CHANNEL_COUNT i) * (s.n (O0E.LINK_OFFSET i) + 1024)) 4096 * 4096
  else 0

/-- An audio receiver's work in the tick is missing: so are its samples of the next sample period (R72, R373; log entry 41). -/
def missSamples (s : State) (i : Nat) : State :=
  if s.n (O0E.ESSENCE i) = 1 ∨ s.n (O0E.ESSENCE i) = 2 then
    s.setRx i { s.rx i with audio := (s.rx i).audio.filter fun e => e.1 != s.rxPeriodNow + 1 }
  else s

/-- What a receiver takes of the fabric: KIND, cells per tick, and bytes of the general region (R58, R362, R371, R373, R374). An audio flow has one
cell for each 32-channel group that its channels touch, in each sample period. -/
def rxNeed (t : State) (i : Nat) : Nat × Nat × Nat :=
  let base := t.n (O0E.CHANNEL_BASE i)
  let count := t.n (O0E.CHANNEL_COUNT i)
  if ¬ t.b (O0E.RX_ENABLE i) then (0, 0, 0)
  else match t.n (O0E.ESSENCE i) with
    | 0 => (0, cellsPerTick (t.n (O0E.RX_FORMAT i)), t.rxBytes i)
    | 4 => (0, cellsPerTick (t.n (O0E.RX_FORMAT i)), t.rxBytes i)
    | 1 => (1, ceilDiv ((base + count - 1) / 32 - base / 32 + 1) 4, t.rxBytes i)
    | 2 => (1, ceilDiv ((base + count - 1) / 32 - base / 32 + 1) 4, t.rxBytes i)
    | 5 => (4, t.n (O0E.RX_DATA_CELLS i), 0)
    | _ => (0, 0, 0)

/-- The value checks of class 0E beyond a row's range (R378). -/
def rxItemOk (s : State) (k : Key) (v : Val) : Bool :=
  if clsOf k ≠ 0x0E then true
  else if parOf k = 6 ∨ parOf k = 7 then
    let p := pathPort v.toNat
    s.present 0x0F p && decide (p < 232) || (p == 0xFFFF && parOf k == 7)
  else if parOf k = 0x010 ∨ parOf k = 0x011 then decide (v.toNat < byMember s.member 2048 1024 256 ∨ v.toNat = 0xFFFF)
  else true

/-- A receiver carries channels of the IP range (R336). -/
def rxAudioFlow (t : State) (i : Nat) : Bool := t.n (O0E.ESSENCE i) == 1 || t.n (O0E.ESSENCE i) == 2

/-- Cross-object ranges of class 0E (R336, R344). Of LINK_OFFSET the row holds the least value, twice the shortest packet time: the packet time of a
flow is no object of the receiver (log entry 41). -/
def rxRange (t : State) (k : Key) : Bool :=
  if clsOf k ≠ 0x0E then true else
  let i := instOf k
  if t.b (O0E.RX_ENABLE i) ∧ ¬ flowFormatOk (t.n (O0E.ESSENCE i)) (t.n (O0E.RX_FORMAT i)) then false
  else if t.b (O0E.RX_ENABLE i) ∧ t.rxAudioFlow i then
    decide (t.ranges.ip ≤ t.n (O0E.CHANNEL_BASE i) ∧ t.n (O0E.CHANNEL_BASE i) + t.n (O0E.CHANNEL_COUNT i) ≤ t.ranges.top)
  else true

/-- Two enabled receivers whose channels overlap (R336). -/
def rxConflict (t : State) (k : Key) : Bool :=
  if clsOf k ≠ 0x0E then false else
  let i := instOf k
  let base (j : Nat) : Nat := t.n (O0E.CHANNEL_BASE j)
  let top (j : Nat) : Nat := t.n (O0E.CHANNEL_BASE j) + t.n (O0E.CHANNEL_COUNT j)
  t.b (O0E.RX_ENABLE i) && t.rxAudioFlow i &&
    (t.enabledFlows 0x0E).any fun j => j != i && t.rxAudioFlow j && decide (base i < top j ∧ base j < top i)

end State

/-- An IGMP query: reports for the device's receivers on the interface (R354). -/
def execIgmpQuery (iface : Nat) (v2 : Bool) (s : State) : Host.Outcome State Fault Refusal :=
  live s fun s =>
    if 64 ≤ iface ∨ ¬ s.b (O0F.IF_ENABLE (0x100 + iface)) then s else
    let t := if v2 then s.onNet fun n => { n with querier := n.querier.put iface s.now } else s
    t.forEach (t.enabledFlows 0x0E) fun t i =>
      t.forEach ((t.rxPaths i).filter fun c => pathIf (t.rxPath i c) == iface) fun t c => t.igmp i c 0

namespace State

/-- The first packet of a DATA, ANC or audio receiver makes it RECEIVING (R369, R374). -/
def rxHeard (s : State) (rx : Nat) : State :=
  if s.n (O0E.RX_STATE rx) = 1 then (s.setN (O0E.RX_STATE rx) 2).raise 0x0E0 rx [] else s

/-- The payload of an audio packet: its samples, a list for each sample period (R376). -/
def audioOf (es spp : Nat) (body : List Byte) : List (List Nat) :=
  let size := if es = 2 then 4 else 3
  let count := body.length / size / max 1 spp
  let word (j : Nat) : Nat := natBE (slice body (size * j) size)
  (List.range spp).map fun q => (List.range count).map fun c =>
    if es = 2 then am824In (word (q * count + c)) else word (q * count + c) * 256

/-- The pieces of an ST 2022-6 datagram reach their frame: both fields of an interlaced signal carry the frame's timestamp, and are told apart by their
lines. -/
def rxSdi (s : State) (rx stamp found : Nat) (picture : List (Nat × Nat × List Byte)) : State :=
  let f := s.n (O0E.RX_FORMAT rx)
  let inside := picture.filter fun d => decide (d.1 < fmtGroupLines f * (if fmtScan f = 1 then 2 else 1) ∧ d.2.1 + d.2.2.length ≤ lineBytes f)
  let half (d : Nat × Nat × List Byte) : Bool := fmtScan f == 1 && decide (fmtGroupLines f ≤ d.1)
  let t := s.rxPicture rx (2 * stamp) false (found == f) (inside.filter fun d => !(half d))
  if inside.any half then t.rxPicture rx (2 * stamp + 1) true (found == f) ((inside.filter half).map fun d => (d.1 - fmtGroupLines f, d.2)) else t

/-- The rows of an ST 2110-20 packet reach their frame or field. -/
def rxVideo (s : State) (rx : Nat) (p : Rtp) : State :=
  let f := s.n (O0E.RX_FORMAT rx)
  let v := srdsOf p.body
  let fits := v.2.2 && v.2.1.all (srdFits f) && (!p.marker || ((v.2.1.getLast?).map (srdEnds f)).getD false)
  s.rxPicture rx p.stamp (fmtScan f == 1 && v.2.1.any (·.second)) fits ((v.2.1.filter (srdFits f)).map fun d =>
    ((srdPlace f d).1, (srdPlace f d).2, d.data))

/-- A packet that no other path brought before reaches its receiver, by its essence (R369 to R376). -/
def rxPayload (s : State) (rx spp found : Nat) (picture : List (Nat × Nat × List Byte)) (p : Rtp) : State :=
  match s.n (O0E.ESSENCE rx) with
  | 0 => s.rxVideo rx p
  | 4 => s.rxSdi rx p.stamp found picture
  | 3 => (s.rxAnc rx p.marker p.body).rxHeard rx
  | es => (s.rxAudio rx p.stamp (audioOf es spp p.body)).rxHeard rx

/-- An RTP packet arrives on a path: it is new, or the copy of one that the other path brought, which gives the skew of the paths (R373). -/
def rxMerge (s : State) (rx path ns spp found : Nat) (picture : List (Nat × Nat × List Byte)) (p : Rtp) : State :=
  let b := path == 1
  let x := s.rx rx
  let e := if s.n (O0E.ESSENCE rx) = 0 then (srdsOf p.body).1 * 65536 + p.seq
    else extendSeq (match (if b then x.highB else x.highA) with
      | some h => some h
      | none => if b then x.highA else x.highB) p.seq
  let y := State.arrive x b e s.now
  match y.got.find? fun (g : Nat × Nat × Nat) => g.1 == e with
  | some (_, q, at_) =>
    if q = path then s.setRx rx y
    else
      let z : Int := if b then (ns : Int) - at_ else (at_ : Int) - ns
      s.setRx rx { y with skewSum := y.skewSum + z, skewN := y.skewN + 1 }
  | none =>
    (s.setRx rx { y with got := (e, path, ns) :: y.got.filter fun (g : Nat × Nat × Nat) => decide (ns ≤ g.2.2 + 300000000) }).rxPayload
      rx spp found picture p

end State

/-- A UDP datagram reaches a receiver on a path (R337, R354, R363, R369 to R371, R373, R374): its source address and port, the time of its arrival in ns,
the samples of each channel in an audio packet, which the flow's packet time gives, and what an SDI receiver finds in the signal that the packets carry: the
format that its TRS spell and the active picture of the packet (log entry 41). -/
def execRtpPacketRx (rx path src sport ns spp found : Nat) (picture : List (Nat × Nat × List Byte)) (datagram : List Byte) (s : State) :
    Host.Outcome State Fault Refusal :=
  onInst 0x0E rx s fun s =>
    if s.n (O0E.RX_STATE rx) = 0 ∨ 2 ≤ path ∨ ¬ (s.rxPaths rx).contains path then s else
    let want := s.rxSource rx path
    if s.igmpV2 (pathIf (s.rxPath rx path)) ∧ want ≠ 0 ∧ want ≠ src then s
    else if s.n (O0E.ESSENCE rx) = 5 then ((s.pathSeen rx path).rxData rx src (s.rxGroup rx path) sport datagram).rxHeard rx
    else match rtpOf datagram with
    | none => s
    | some p =>
      if p.pt ≠ s.n (O0E.RX_PT rx) then (s.bump (O0E.WRONG_PT rx) 1).raiseLim 0x0E9 rx [] 192000
      else (s.pathSeen rx path).rxMerge rx path ns spp found picture p

/-- No packet for PATH_TIMEOUT (R369). -/
def execPathTimeout (rx path : Nat) (s : State) : Host.Outcome State Fault Refusal :=
  onInst 0x0E rx s fun s =>
    let seen := if path = 0 then (s.rx rx).seenA else (s.rx rx).seenB
    if 2 ≤ path ∨ ¬ bit (s.n (O0E.PATH_STATES rx)) path ∨ s.now < seen + ceilDiv (s.n (O0E.PATH_TIMEOUT rx) * 192) 1000 then s
    else
      let t := s.setN (O0E.PATH_STATES rx) (clearBits (s.n (O0E.PATH_STATES rx)) (2 ^ path))
      let t := (t.flag (O0E.RX_FLAGS rx) 2).raise 0x0E2 rx (d8 path)
      if t.n (O0E.PATH_STATES rx) = 0 ∧ 2 ≤ t.n (O0E.RX_STATE rx) then t.rxLost rx else t

/-- MERGE_WINDOW has passed since a packet of a later line group, or of a later frame, arrived: every line group of a VIDEO or SDI receiver for which
it has closes (R371, R375). -/
def execLineGroupClosure (rx : Nat) (s : State) : Host.Outcome State Fault Refusal :=
  onInst 0x0E rx s fun s =>
    let f := s.n (O0E.RX_FORMAT rx)
    let x := s.rx rx
    let es := s.n (O0E.ESSENCE rx)
    if s.n (O0E.RX_STATE rx) = 0 ∨ (es ≠ 0 ∧ es ≠ 4) then s
    else
      let passed (u : RxUnit) (g : Nat) : Bool := match State.laterSince x u g with
        | some t => decide (t + ceilDiv (s.n (O0E.MERGE_WINDOW rx) * 192) 1000 ≤ s.now)
        | none => false
      let due := x.units.flatMap fun u => ((List.range (rxGroups f)).filter fun g => !(u.closed.contains g) && passed u g).map fun g => (u.stamp, g)
      State.flushUnits 1024 (s.forEach due fun t e => t.closeGroup rx e.1 e.2) rx

end Sys2Proof.Machine
end

