-- ==== Sys2Proof/Machine/Furlongs.lean ====
section
/-! DEFINITION. Furlongs, the beacon, membership and the master's records: what cascading does without the local chain (R436 to R475),
and the commands of those parts. -/

namespace Sys2Proof.Machine

/-- The content of a BEACON payload (R457). -/
def beaconOf (b : List Byte) : Beacon :=
  let n (o k : Nat) : Nat := natBE (slice b o k)
  ⟨n 0 8, n 8 4, n 12 2, n 14 1, n 15 1, n 16 2, n 18 1, n 19 1, n 20 4, n 24 4, n 28 2, n 30 2, n 32 1, n 33 1, n 34 2, n 36 2, n 38 1,
    n 40 8, n 48 8, n 56 8, n 64 8⟩

/-- The BEACON payload of a content (R457). -/
def Beacon.bytes (b : Beacon) : List Byte :=
  d64 b.tick ++ d32 b.domain ++ d16 b.master ++ d8 b.priority ++ d8 b.hops ++ d16 b.backup ++ d8 b.ql ++ d8 b.flags ++ d32 b.epoch ++
  d32 b.goEpoch ++ d16 b.size ++ d16 b.sender ++ d8 b.lane ++ d8 b.state ++ d16 b.parent ++ d16 b.utc ++ d8 b.utcFlags ++ zeros 1 ++
  d64 b.accDelay ++ d64 b.txTs ++ d64 b.echoTs ++ d64 b.echoRx ++ zeros 56

/-- A received header, corrected where one bit of it is wrong: the header, whether its HEC was valid, and whether it can be used (R442). -/
def checkHeader (h : Nat) : Nat × Bool × Bool :=
  let ok (x : Nat) : Bool := hec x == x % 256
  if ok h then (h, true, true)
  else match (List.range 64).find? fun i => ok (h ^^^ 2 ^ i) with
    | some i => (h ^^^ 2 ^ i, false, true)
    | none => (h, false, false)

/-- `a` comes before `b` in election order: priority and device (R460). -/
def electedBefore (pa da pb db : Nat) : Bool := decide (pb < pa ∨ (pa = pb ∧ da < db))

/-- Hop ticks of a one-way delay in ns with an allowance (R446). -/
def hopTicks (base delay allowance : Nat) : Nat := base + ceilDiv ((delay + allowance) * 192000) 1000000000

/-- An item's bytes in a part: object, length and value (R467, R528). -/
def partBytes (l : List (Nat × Val)) : List Byte :=
  l.flatMap fun e => d32 e.1 ++ d16 (wireBytes e.1 e.2).length ++ wireBytes e.1 e.2

/-- A body cut into the 112 bytes that one RECORD cell carries (R465). The first argument bounds the number of pieces. -/
def recordSegments : Nat → List Byte → List (List Byte)
  | 0, _ => []
  | f + 1, b => if b = [] then [] else b.take 112 :: recordSegments f (b.drop 112)

/-- The RECORD payloads of a record with these recordSegments (R465). -/
def recordCells (kind src dest epoch : Nat) (segs : List (List Byte)) : List (List Byte) :=
  segs.zipIdx.map fun e =>
    d8 kind ++ zeros 1 ++ d16 src ++ d16 dest ++ d16 (e.2 % 32768 + (if e.2 + 1 = segs.length then 32768 else 0)) ++ d32 epoch ++
      d16 e.1.length ++ zeros 2 ++ padTo 112 e.1

/-- The recordSegments of a PREPARE, or of a COPY for a device (R467). -/
def partSegments (device : Option Nat) (act mode : Nat) (items : List (Nat × Val)) : List (List Byte) :=
  let part := partBytes items
  ((match device with | some d => d16 d | none => []) ++ d64 act ++ d8 mode ++ zeros 3 ++ d32 part.length) ::
    recordSegments (part.length + 1) part

/-- The index of R455 among `n` furlongs. -/
def hashIndex (seed : Nat) (ws : List Nat) (n : Nat) : Nat :=
  let x := ws.foldl (fun x w =>
    let y := (x ^^^ w) * 0x9E3779B97F4A7C15 % 2 ^ 64
    y ^^^ (y / 2 ^ 29)) seed
  x / 2 ^ 32 % max 1 n

namespace State

/-- Change the domain agent's state. -/
def onDomain (s : State) (f : DomainSt → DomainSt) : State := { s with domain := f s.domain }

/-- Trunk lanes of the member. -/
def trunks (s : State) : List Nat := List.range (byMember s.member 32 16 8)

/-- The receiver of a trunk lane is LOCKED and its cells are delineated (R444). -/
def trunkUp (s : State) (l : Nat) : Bool := s.n (O11.RX_STATE (0x100 + l)) == 3 && (s.furlong l).sync == 2

/-- A furlong is UP. -/
def furlongUp (s : State) (l : Nat) : Bool := s.n (O12.FURLONG_STATE l) == 3

/-- The keys that a sealed furlong needs: one to transmit with and one to receive with (R449). -/
def trunkKeyed (s : State) (l : Nat) : Bool :=
  let x := s.furlong l
  (SMap.find? x.keys x.txKey).isSome && ((SMap.find? x.keys 2).isSome || (SMap.find? x.keys 3).isSome)

/-- The open groups close at the seam; TRUNK_TX_KEY written in the tick governs from the next group (R447, R448). -/
def furlongSeam (s : State) : State :=
  s.forEach s.furlongs fun t e =>
    let t := t.sealGroup e.1
    let y := t.furlong e.1
    if y.txKey = t.n (O12.TRUNK_TX_KEY e.1) then t else t.setFurlong e.1 { y with txKey := t.n (O12.TRUNK_TX_KEY e.1) }

/-- A furlong enters FAULT (R444). -/
def furlongFault (s : State) (l : Nat) : State :=
  (s.setN (O12.FURLONG_STATE l) 4).setFurlong l { s.furlong l with faultAt := s.now }

/-- DOWN goes to MEASURING once the lane is locked and delineated (R444). -/
def furlongWake (s : State) (l : Nat) : State :=
  if s.n (O12.FURLONG_STATE l) = 1 ∧ s.trunkUp l then
    (s.setN (O12.FURLONG_STATE l) 2).setFurlong l { s.furlong l with
      beacons := 0, sender := 0xFFFF, lane := 0xFF, foreign := false, missed := 0, delaySum := 0, delayN := 0, drift := false }
  else s

/-- A damaged cell (R443): a MEDIA cell's unit is substituted, a RELAY packet is dropped; the rest are discarded. -/
def damaged (s : State) (l header : Nat) : State :=
  let t := ((s.bump (O12.PCRC_ERRORS l) 1).flag (O12.TRUNK_FLAGS l) 8).raiseLim 0x124 l [] 192000
  match field header 63 60 with
  | 1 =>
    match SMap.find? (s.furlong l).labels (field header 53 38) with
    | some id => t.substitute id
    | none => t
  | 4 => (t.bump (O12.RELAY_DROPS l) 1).raiseLim 0x129 l [] 192000
  | _ => t

/-- A good cell: MEDIA enters the trunk port's buffer; in order, its unit's SEQ advances (R443, R453). -/
def goodCell (s : State) (l header : Nat) (payload : List Byte) : State :=
  let s := if field header 63 60 = 1 ∧ bit header 59 then
      (match SMap.find? (s.furlong l).labels (field header 53 38) with
       | some id => s.trunkIn l id payload
       | none => s)
    else s
  let x := s.furlong l
  let ty := field header 63 60
  let k := ty * 65536 + field header 53 38
  let seq := field header 37 20
  if ty ≠ 1 ∧ ty ≠ 4 then s
  else if bit header 58 = false ∧ x.units.getD k 0 ≠ seq then
    (s.setFurlong l { x with units := x.units.del k }).damaged l header
  else s.setFurlong l { x with units := if bit header 57 then x.units.del k else x.units.put k ((seq + 1) % 2 ^ 18) }

/-- A delineated cell with a usable header (R440, R443, R447). -/
def cellIn (s : State) (l header : Nat) (payload : List Byte) : State :=
  let ty := field header 63 60
  let t := if ty = 0 then s else s.bumpPair (O12.CELLS_IO l) true 1
  if pcrc payload ≠ field header 19 8 ∨ 6 ≤ ty then t.damaged l header
  else if t.b (O12.TRUNK_SECURE l) ∧ 1 ≤ ty ∧ ty ≤ 4 then
    t.setFurlong l { t.furlong l with rxCells := (t.furlong l).rxCells ++ [(header, payload)] }
  else t.goodCell l header payload

/-- The average one-way delay of a furlong in ns; TRUNK_ASYM included (R445). -/
def meanDelay (s : State) (l : Nat) : Nat :=
  let x := s.furlong l
  if x.delayN = 0 then s.n (O12.FURLONG_DELAY l)
  else (Int.fdiv x.delaySum x.delayN + Int.fdiv (s.z 32 (O12.TRUNK_ASYM l)) 1000).toNat

/-- FURLONG_DELAY, every 192 ticks; a move from the value that fixed the hop ticks is reported (R445, R446). -/
def delayUpdate (s : State) (l : Nat) : State :=
  let x := s.furlong l
  if x.delayN < 192 then s
  else
    let d := s.meanDelay l
    let t := (s.setN (O12.FURLONG_DELAY l) d).setFurlong l { x with delaySum := 0, delayN := 0 }
    if s.furlongUp l then
      let off := decide (100 < ((d : Int) - x.fixed).natAbs)
      let t := t.setFurlong l { t.furlong l with drift := off }
      if off ∧ ¬ x.drift then (t.flag (O12.TRUNK_FLAGS l) 2).raise 0x126 l [] else t
    else t

/-- What a beacon tells of its own furlong (R444, R445, R457). -/
def beaconFurlong (s : State) (l : Nat) (b : Beacon) (rx : Nat) : State :=
  let x := s.furlong l
  let same := x.sender == b.sender && x.lane == b.lane
  let foreign := b.domain != s.n O13.DOMAIN_ID
  let z : Int := signed 64 (rx + 2 ^ 64 - b.echoTs % 2 ^ 64) - signed 64 (b.txTs + 2 ^ 64 - b.echoRx % 2 ^ 64)
  let echoed := b.echoTs != 0
  let x := { x with
    sender := b.sender, lane := b.lane, foreign := foreign, got := true, missed := 0, echoTs := b.txTs, echoRx := rx, parent := b.parent
    beacons := if same then x.beacons + 1 else 1
    delaySum := if echoed then x.delaySum + Int.fdiv z 131072 else x.delaySum
    delayN := x.delayN + echoed.toNat }
  let t := s.setFurlong l x
  if s.furlongUp l ∧ ¬ same then
    ((t.setN (O12.FURLONG_STATE l) 2).setFurlong l { x with beacons := 1, delaySum := 0, delayN := 0 }).raise 0x12A l []
  else t.delayUpdate l

/-- A furlong leaves UP (R444). -/
def furlongLost (s : State) (l : Nat) : State :=
  ((s.setN (O12.FURLONG_STATE l) 1).flag (O12.TRUNK_FLAGS l) 1).raise 0x121 l []

/-- What an applied transaction changes in class 12 (R444, R450). -/
def furlongApplied (s : State) (k : Key) : State :=
  let l := instOf k
  match parOf k with
  | 0 =>
    if s.b (O12.FURLONG_ENABLE l) then
      if s.n (O12.FURLONG_STATE l) = 0 then (s.setN (O12.FURLONG_STATE l) 1).furlongWake l else s
    else s.setN (O12.FURLONG_STATE l) 0
  | 1 => s.setN (O12.MEDIA_CAPACITY l) (if s.b (O12.TRUNK_SECURE l) then 474 else 481)
  | _ => s

/-- Setting FURLONG_ENABLE on a lane whose mode is not EZAVO is refused (R444). -/
def furlongConflict (t : State) (k : Key) : Bool :=
  clsOf k == 0x12 && t.b (O12.FURLONG_ENABLE (instOf k)) && t.n (O11.LANE_MODE (0x100 + instOf k)) != 5

/-- Trunk keys whose wrapping key lies under a revoked scruple, or all of them, are deleted (R449). The cause is the status REVOKED or
TAMPER. -/
def dropTrunkKeys (s : State) (gone : List Nat → Bool) (cause : Nat) : State :=
  s.forEach s.furlongs fun t e =>
    let x := t.furlong e.1
    let keep := x.keys.filter fun k => !(gone k.2.2)
    if keep.length = x.keys.length then t
    else
      let t := ((t.setFurlong e.1 { x with keys := keep }).flag (O12.TRUNK_FLAGS e.1) 32).raise 0x128 e.1 (d8 cause)
      if t.b (O12.TRUNK_SECURE e.1) ∧ t.furlongUp e.1 ∧ ¬ t.trunkKeyed e.1 then t.furlongFault e.1 else t

/-- The UTC offset in use, and whether a PTP source gave it (R507). -/
def utcOffset (s : State) : Int × Bool :=
  let c := s.timing.lastCand
  let beacon := match s.domain.content with
    | some (b, _) => if bit b.utcFlags 0 then some (signed 16 b.utc) else none
    | none => none
  match (if s.timing.lastType = 1 then (s.ptpSt (0x20 + s.n (O02.SOURCE_INDEX c))).utc else none),
      (if s.timing.lastType = 9 then beacon else none), s.timing.utcLast with
  | some z, _, _ => (z, true)
  | none, some z, _ => (z, true)
  | none, none, some z => (z, true)
  | _, _, _ => (s.z 16 O01.UTC_OFFSET, false)

/-- DOMAIN_STATE (R480). -/
def domainState (s : State) : Nat := s.n O13.DOMAIN_STATE

/-- The device is the master of its domain. -/
def isMaster (s : State) : Bool := s.domainState == 6

/-- The device is a member in some standing. -/
def isMember (s : State) : Bool := [3, 4, 5, 6].contains s.domainState

/-- The lane of the beacon parent (R458). -/
def parentLane (s : State) : Option Nat :=
  match s.domain.content with
  | some (_, l, _) => if s.furlongUp l then some l else none
  | none => none

/-- The furlongs whose peers name this device as PARENT (R466). -/
def childLanes (s : State) : List Nat := s.trunks.filter fun l => s.furlongUp l && (s.furlong l).parent == s.n O13.DEVICE_ID

/-- A record's cells leave on furlongs; none where there is no peer to take it (R451, R466). -/
def sendRecords (s : State) (lanes : List Nat) (kind src dest epoch : Nat) (segs : List (List Byte)) : State :=
  s.forEach lanes fun t l => t.forEach (recordCells kind src dest epoch segs) fun t c =>
    t.sendCell l 3 0 c false

/-- A record towards the master travels up the beacon parents (R466). -/
def sendUp (s : State) (kind src epoch : Nat) (body : List Byte) : State :=
  s.sendRecords s.parentLane.toList kind src (s.n O13.MASTER_DEVICE) epoch [body]

/-- A record of the master travels down the beacon tree (R466). -/
def sendDown (s : State) (kind dest epoch : Nat) (segs : List (List Byte)) : State :=
  s.sendRecords s.childLanes kind (s.n O13.MASTER_DEVICE) dest epoch segs

/-- A record of the master reaches a device: one for another device is only forwarded, one for all members is forwarded and taken (R466). -/
def relayed (s : State) (kind dest epoch : Nat) (segs : List (List Byte)) (own : State → State) : State :=
  let t := if dest = s.n O13.DEVICE_ID ∨ s.isMaster then s else s.sendDown kind dest epoch segs
  if dest = s.n O13.DEVICE_ID ∨ dest = 0xFFFF then own t else t

/-- A record for the master reaches a device: another device passes it on to its parent (R466). -/
def raised (s : State) (kind src epoch : Nat) (body : List Byte) (own : State → State) : State :=
  if s.isMaster then own s else s.sendUp kind src epoch body

/-- A new DOMAIN_STATE. -/
def setDomain (s : State) (st : Nat) : State := s.setN O13.DOMAIN_STATE st

/-- An epoch of the master or of its backup. -/
def epoch? (s : State) (e : Nat) : Option EpochSt := s.domain.epochs.find? fun x => x.epoch == e

/-- Change an epoch. -/
def setEpoch (s : State) (x : EpochSt) : State :=
  s.onDomain fun d => { d with epochs := d.epochs.map fun y => if y.epoch = x.epoch then x else y }

/-- Keep an epoch: the last 4,096 (R472). -/
def addEpoch (s : State) (x : EpochSt) : State :=
  s.onDomain fun d => { d with
    epochs := (d.epochs.filter fun y => y.epoch != x.epoch) ++ [x] |> fun l => l.drop (l.length - 4096)
    highest := max d.highest x.epoch }

/-- An epoch's transaction ends once every participant has reported (R472). -/
def closeEpoch (s : State) (e : Nat) : State :=
  match s.epoch? e with
  | none => s
  | some x =>
    let dev := x.parts.map (·.1)
    let done := dev.all fun d => x.applied.contains d || (x.failed.any fun f => f.1 == d) || (x.refused.any fun f => f.1 == d)
    if x.done ∨ ¬ done ∨ x.copy then s
    else
      let bad := (dev.filter fun d => !(x.applied.contains d)).head?
      let st := match bad with
        | none => OK
        | some d => match (x.refused ++ x.failed).find? fun f => f.1 == d with
          | some f => f.2
          | none => ABORTED
      let t := s.setEpoch { x with done := true }
      match x.origin with
      | none => t
      | some (dv, sess, tx) =>
        let act := if st = OK then x.act else 0
        if dv = s.n O13.DEVICE_ID then
          (t.setBytes O1C.TX_LAST (d32 tx ++ d8 st ++ zeros 3 ++ d64 act)).note sess (.txDone tx st act)
        else t.emit (.domain 0x31 dv [tx, st, x.act])

/-- An epoch is aborted by the master: ABORT to every participant (R470, R471). -/
def abortEpoch (s : State) (e cause : Nat) : State :=
  match s.epoch? e with
  | none => s
  | some x =>
    let t := s.setEpoch { x with
      outcome := if cause = 3 then 2 else 3
      failed := (x.parts.filter fun p => !(x.refused.any fun f => f.1 == p.1)).map fun p => (p.1, ABORTED), pins := [] }
    let t := t.forEach x.parts fun t p => t.sendDown 4 p.1 e [d8 cause]
    (t.raise 0x136 noInst (d32 e ++ d8 cause)).closeEpoch e

/-- GO or NO-GO of the epoch whose activation tick is 16 ticks on (R470). -/
def goDecision (s : State) : State :=
  if ¬ s.isMaster then s
  else match s.domain.epochs.find? fun x => x.act == s.tick64 + 16 && x.outcome == 0 && !x.copy with
    | none => s
    | some x =>
      let all := x.parts.all fun p => x.prepared.contains p.1
      if x.mode = 0 ∨ all then
        let t := s.setEpoch { x with outcome := 1 }
        t.onDomain fun d => { d with parts := d.parts.map fun p => if p.epoch = x.epoch then { p with go := true } else p }
      else s.abortEpoch x.epoch 3

/-- The master's own content in this tick (R457, R458). -/
def masterBeacon (s : State) : Beacon :=
  let go := s.domain.epochs.find? fun x => x.act == s.tick64 + 16 && !x.copy
  let utc := s.utcOffset
  { tick := s.tick64, domain := s.n O13.DOMAIN_ID, master := s.n O13.DEVICE_ID, priority := s.n O13.MASTER_PRIORITY, hops := 0,
    backup := s.n O13.BACKUP_DEVICE, ql := s.n O02.OWN_QL,
    flags := (match go with | some x => (x.outcome == 1).toNat | none => 0) + 2 * (s.b O01.TIME_VALID).toNat,
    epoch := s.n O13.DOMAIN_EPOCH, goEpoch := (match go with | some x => x.epoch | none => 0), size := s.n O13.DOMAIN_SIZE,
    sender := s.n O13.DEVICE_ID, lane := 0, state := s.domainState, parent := 0xFFFF, utc := unsigned 16 utc.1,
    utcFlags := utc.2.toNat, accDelay := 0, txTs := 0, echoTs := 0, echoRx := 0 }

/-- A masterless beacon of this device (R457, R458). -/
def lonelyBeacon (s : State) : Beacon :=
  { s.masterBeacon with master := 0xFFFF, backup := 0xFFFF, flags := 4 + 2 * (s.b O01.TIME_VALID).toNat, goEpoch := 0 }

/-- The content that a device sends in this tick; none where it received nothing new (R458). -/
def beaconToSend (s : State) : Option Beacon :=
  if s.isMaster then some s.masterBeacon
  else if s.n O13.MASTER_DEVICE = 0xFFFF ∨ [1, 7].contains s.domainState then some s.lonelyBeacon
  else match s.domain.content with
    | some (b, l, _) =>
      if s.domain.heard then
        some { b with
          hops := b.hops + 1, sender := s.n O13.DEVICE_ID, state := s.domainState, parent := (s.furlong l).sender
          accDelay := (b.accDelay + s.n (O12.FURLONG_DELAY l) * 65536 + 5208 * 65536 + 21845) % 2 ^ 64 }
      else none
    | none => none

/-- Beacons leave in the first slot of the tick on every UP or MEASURING furlong (R458). A beacon closes its seal group (R447). -/
def beaconSend (s : State) : State :=
  if ¬ s.b O13.DOMAIN_ENABLE then s
  else match s.beaconToSend with
    | none => s
    | some b =>
      let ts := s.tick64 * 1000000000 * 65536 / 192000 % 2 ^ 64
      s.forEach (s.trunks.filter fun l => s.n (O12.FURLONG_STATE l) == 2 || s.n (O12.FURLONG_STATE l) == 3) fun t l =>
        let x := t.furlong l
        let c := { b with lane := l, txTs := ts, echoTs := x.echoTs, echoRx := x.echoRx }
        t.sendCell l 2 0 c.bytes true

/-- Missing beacons of a tick that ends: of each furlong, and of the master's content (R444, R460). -/
def countMissed (s : State) : State :=
  let t := s.forEach (s.trunks.filter fun l => s.n (O12.FURLONG_STATE l) == 2 || s.n (O12.FURLONG_STATE l) == 3) fun t l =>
    let x := t.furlong l
    if x.got then t.setFurlong l { x with got := false }
    else (t.setFurlong l { x with missed := x.missed + 1, beacons := 0 }).bump (O12.BEACONS_MISSED l) 1
  let t := if t.isMember ∧ ¬ t.isMaster then
      (if t.domain.heard then t.setN O13.MISSED_BEACONS 0 else t.bump O13.MISSED_BEACONS 1)
    else t.setN O13.MISSED_BEACONS 0
  t

/-- Pinned paths with those of a transaction in place of the paths that its routes had (R452). -/
def moved (l new : List PinSt) : List PinSt :=
  (l.filter fun p => !(new.any fun q => q.kind == p.kind && q.ddev == p.ddev && q.dst == p.dst)) ++ new.filter fun q => q.path != []

/-- An epoch's paths are in force once its activation tick has passed with GO (R452, R470). -/
def settlePins (s : State) : State :=
  let due (x : EpochSt) : Bool := x.outcome == 1 && decide (x.act ≤ s.tick64) && x.pins != []
  s.onDomain fun d => { d with
    pins := (d.epochs.filter due).foldl (fun l x => moved l x.pins) d.pins
    epochs := d.epochs.map fun x => if due x then { x with pins := [] } else x }

/-- The paths that admitted streams have, with those of the epochs still to come (R452). -/
def pinned (s : State) : List PinSt :=
  (s.domain.epochs.filter fun x => decide (x.outcome ≤ 1) && !x.copy).foldl (fun l x => moved l x.pins) s.domain.pins

/-- DOMAIN_EPOCH on the master: the last epoch whose activation tick has passed with GO (R457). -/
def commitEpoch (s : State) : State :=
  if ¬ s.isMaster then s
  else s.settlePins.setN O13.DOMAIN_EPOCH ((s.domain.epochs.filter fun x => x.outcome == 1 && decide (x.act ≤ s.tick64)).foldl (fun a x => max a x.epoch)
    (s.n O13.DOMAIN_EPOCH))

/-- The master's figures: DOMAIN_LEAD_MIN (R468), DOMAIN_SIZE, and the backup (R461). -/
def masterFigures (s : State) : State :=
  let age := s.domain.members.foldl (fun a e => max a e.2.age) 0
  let own := s.n O13.DEVICE_ID
  let best := (s.domain.members.filter fun e => decide (0 < e.2.priority) && e.1 != own &&
      [2, 3].contains (s.n (O13.MEMBER_STATE (0x100 + e.1)))).foldl (fun (a : Option (Nat × Nat)) e =>
    match a with
    | none => some (e.2.priority, e.1)
    | some (p, d) => if electedBefore e.2.priority e.1 p d then some (e.2.priority, e.1) else a) none
  let t := (s.setN O13.DOMAIN_LEAD_MIN (16 + age)).setN O13.DOMAIN_SIZE ((s.domain.members.filter fun e => e.1 != own).length + 1)
  let t := t.forEach s.domain.members fun t e =>
    if t.n (O13.MEMBER_STATE (0x100 + e.1)) = 3 then t.setN (O13.MEMBER_STATE (0x100 + e.1)) 2 else t
  match best with
  | some (_, d) => (t.setN O13.BACKUP_DEVICE d).setN (O13.MEMBER_STATE (0x100 + d)) 3
  | none => t.setN O13.BACKUP_DEVICE 0xFFFF

/-- The device becomes master (R460, R462): its first epoch is one above the highest it has seen. -/
def becomeMaster (s : State) : State :=
  let own := s.n O13.DEVICE_ID
  let t := ((s.setDomain 6).setN O13.MASTER_DEVICE own).setN (O13.MEMBER_STATE (0x100 + own)) 4
  let t := ((t.setN O13.DOMAIN_HOPS 0).setN O13.BEACON_AGE 0).setN O13.MISSED_BEACONS 0
  let t := t.onDomain fun d => { d with seekSince := none, content := none }
  (t.masterFigures.flag O13.DOMAIN_FLAGS 4).raise 0x133 own []

/-- A handover that waits moves mastery once no epoch is prepared (R464). -/
def handoverTick (s : State) : State :=
  match s.domain.handover with
  | none => s
  | some d =>
    if ¬ s.isMaster then s.onDomain fun x => { x with handover := none }
    else if s.domain.epochs.any fun x => x.outcome == 0 && !x.copy then s
    else
      let t := (s.setN O13.BACKUP_DEVICE d).onDomain fun x => { x with handover := none }
      let t := t.beaconSend
      ((t.setDomain 4).setN O13.MASTER_DEVICE d).setN (O13.MEMBER_STATE (0x100 + s.n O13.DEVICE_ID)) 2

/-- Every 192 ticks: the candidate sets that carried at least 1,024 relay cells, their busiest furlong more than 1.2 × the mean (R456). -/
def relayPeriod (s : State) : State :=
  if s.tick64 % 192 ≠ 0 then s
  else
    let judge (e : List Nat × Nat) : List Nat × Nat :=
      let cells := e.1.map fun l => (s.furlong l).sent
      let total := cells.foldl (· + ·) 0
      if 1024 ≤ total ∧ 6 * total < 5 * e.1.length * cells.foldl max 0 then (e.1, e.2 + 1) else (e.1, 0)
    let t := s.onDomain fun d => { d with sets := d.sets.map judge }
    { t with furlongs := t.furlongs.map fun (e : Nat × FurlongSt) => (e.1, { e.2 with sent := 0 }) }

/-- Relay packets leave in the slots that other cells leave over (R451, R454). -/
def relayDrain (s : State) : State :=
  s.forEach (s.furlongs.filter fun e => e.2.relay != []) fun t e =>
    let total := if t.b (O12.TRUNK_SECURE e.1) then 499 else 507
    let room := total - 1 - natBE ((t.bs (O12.MEDIA_CELLS e.1)).take 2)
    let cells (p : Nat × List Byte) : Nat := ceilDiv p.2.length 128
    let r := e.2.relay.foldl (fun (a : Nat × List (Nat × List Byte) × List (Nat × List Byte)) p =>
      if a.2.2 = [] ∧ cells p ≤ a.1 then (a.1 - cells p, a.2.1 ++ [p], []) else (0, a.2.1, a.2.2 ++ [p])) (room, [], [])
    let n := (r.2.1.map cells).foldl (· + ·) 0
    let t := (t.setFurlong e.1 { t.furlong e.1 with relay := r.2.2, sent := (t.furlong e.1).sent + n }).bump (O12.RELAY_CELLS e.1) n
    t.forEach r.2.1 fun t p => t.sendPacketCells e.1 p.1 p.2

/-- What cascading does at every tick boundary (R451, R454, R458, R460, R464, R470). -/
def cascadeTick (s : State) : State :=
  let t := (s.forEach s.trunks furlongWake).countMissed
  let t := if t.b O13.DOMAIN_ENABLE then t.goDecision.handoverTick.commitEpoch else t
  let t := t.beaconSend.relayPeriod.relayDrain
  t.onDomain fun d => { d with heard := false }

/-- What an applied transaction changes in class 13 (R460). -/
def domainApplied (s : State) (k : Key) : State :=
  if k ≠ O13.DOMAIN_ENABLE then s
  else if s.b O13.DOMAIN_ENABLE then
    if s.domainState = 0 then (s.setDomain 1).onDomain fun d => { d with seekSince := none, retryAt := none } else s
  else
    let t := if s.domainState = 0 then s else s.sendUp 10 (s.n O13.DEVICE_ID) 0 []
    let t := ((t.setDomain 0).setN O13.MASTER_DEVICE 0xFFFF).setN O13.BACKUP_DEVICE 0xFFFF
    (t.setN O13.DOMAIN_SIZE 0).onDomain fun d => { d with content := none, seekSince := none, retryAt := none, members := [], handover := none }

/-- A JOIN is refused: by the master, or by the device itself (R5, R460). -/
def notJoined (s : State) (status : Nat) : State :=
  (((s.setDomain 1).onDomain fun d => { d with retryAt := some s.now }).flag O13.DOMAIN_FLAGS 2).raise 0x137 (s.n O13.DEVICE_ID) (d8 status)

/-- The body of a JOIN record (R465). -/
def joinBody (device variant priority lastEpoch lineage : Nat) : List Byte :=
  d16 device ++ d8 variant ++ d8 priority ++ d32 lastEpoch ++ d16 lineage

/-- The device asks the master to join (R460, R465). A TMN-9606 refuses a domain that already holds 64 devices (R5). -/
def sendJoin (s : State) : State :=
  let full : Bool := match s.domain.content with
    | some (b, _, _) => decide (s.member = .tmn9606 ∧ 64 ≤ b.size)
    | none => false
  if full then s.notJoined NO_CAPACITY
  else (s.setDomain 2).sendUp 7 (s.n O13.DEVICE_ID) 0
    (joinBody (s.n O13.DEVICE_ID) (byMember s.member 1 2 3) (s.n O13.MASTER_PRIORITY) (s.n O13.LAST_EPOCH) s.domain.lineage)

/-- The devices that a domain of this master may hold (R438). -/
def domainLimit (s : State) (variant : Nat) : Nat := if s.member = .tmn9606 ∨ variant = 3 then 64 else 1024

/-- RESULT_MAP of an epoch; none beyond the journal (R472, R479). -/
def resultMap (s : State) (e : Nat) : Option (List Byte) :=
  (s.epoch? e).map fun x =>
    let map (l : List Nat) : List Byte := (List.range 128).map fun i =>
      BitVec.ofNat 8 ((List.range 8).foldl (fun a j => a + (l.contains (8 * i + j)).toNat * 2 ^ j) 0)
    d32 x.epoch ++ d64 x.act ++ d8 x.outcome ++ zeros 3 ++ map (x.parts.map (·.1)) ++ map x.applied

/-- MASTER_HANDOVER (R464). A TMN-9606 is never master of more than 64 devices (R5). -/
def actHandover (s : State) (d : Nat) : State × Nat :=
  match SMap.find? s.domain.members d with
  | some m =>
    if s.isMaster ∧ 0 < m.priority ∧ d ≠ s.n O13.DEVICE_ID ∧ [2, 3].contains (s.n (O13.MEMBER_STATE (0x100 + d))) then
      if s.n (O13.MEMBER_VARIANT (0x100 + d)) = 3 ∧ 64 < s.n O13.DOMAIN_SIZE then (s, NO_CAPACITY)
      else (s.onDomain fun x => { x with handover := some d }, OK)
    else (s, CONFLICT)
  | none => (s, CONFLICT)

/-- What the master or backup serves (R479). -/
def servesMembers (s : State) : Bool := s.domainState == 5 || s.domainState == 6

/-- PREPARED of a participant reaches the master (R470). -/
def gotPrepared (s : State) (epoch device : Nat) : State :=
  match s.epoch? epoch with
  | some x => if s.isMaster ∧ ¬ x.prepared.contains device then s.setEpoch { x with prepared := device :: x.prepared } else s
  | none => s

/-- REFUSED of a participant reaches the master (R472). -/
def gotRefused (s : State) (epoch device status last : Nat) : State :=
  match s.epoch? epoch with
  | some x =>
    if s.isMaster ∧ ¬ (x.refused.any fun f => f.1 == device) then
      let t := if last = 0 then s else s.setN O01.LAST_REFUSAL last
      (t.setEpoch { x with refused := x.refused ++ [(device, status)] }).closeEpoch epoch
    else s
  | none => s

/-- APPLIED of a participant reaches the master (R472). -/
def gotApplied (s : State) (epoch device tick : Nat) : State :=
  match s.epoch? epoch with
  | some x =>
    if s.isMaster ∧ ¬ x.applied.contains device then
      let t := s.setEpoch { x with applied := device :: x.applied, failed := x.failed.filter fun f => f.1 != device }
      let t := if tick < x.act then t else t.setN (O13.MEMBER_LAST_EPOCH (0x100 + device)) epoch
      t.closeEpoch epoch
    else s
  | none => s

/-- NOT-APPLIED of a participant reaches the master (R472). -/
def gotNotApplied (s : State) (epoch device cause : Nat) : State :=
  match s.epoch? epoch with
  | some x =>
    if s.isMaster ∧ 1 ≤ cause ∧ cause ≤ 6 ∧ ¬ (x.failed.any fun f => f.1 == device) then
      (s.setEpoch { x with failed := x.failed ++ [(device, ABORTED)] }).closeEpoch epoch
    else s
  | none => s

end State

/-- A cell is received on a trunk lane, delineated and checked (R441 to R443, R447). -/
def execEzavoCellRx (lane header : Nat) (payload : List Byte) (s : State) : Host.Outcome State Fault Refusal :=
  onInst 0x12 lane s fun s =>
    if s.n (O11.LANE_MODE (0x100 + lane)) ≠ 5 ∨ s.n (O11.RX_STATE (0x100 + lane)) ≠ 3 then s else
    let x := s.furlong lane
    let c := checkHeader (header % 2 ^ 64)
    match x.sync with
    | 0 => if c.2.1 then s.setFurlong lane { x with sync := 1, run := 0 } else s
    | 1 =>
      if ¬ c.2.1 then s.setFurlong lane { x with sync := 0, run := 0 }
      else if 5 ≤ x.run then (s.setFurlong lane { x with sync := 2, run := 0 }).furlongWake lane
      else s.setFurlong lane { x with run := x.run + 1 }
    | _ =>
      let run := if c.2.1 then 0 else x.run + 1
      let t := s.setFurlong lane { x with run := run }
      let t := if c.2.1 then t
        else if c.2.2 then t.bump (O12.HEC_CORRECTED lane) 1
        else (t.bump (O12.HEC_ERRORS lane) 1).raiseLim 0x123 lane [] 192000
      if 7 ≤ run then
        ((t.setFurlong lane { x with sync := 0, run := 0, rxCells := [] }).flag (O12.TRUNK_FLAGS lane) 4).raise 0x122 lane []
      else if c.2.2 then t.cellIn lane c.1 (padTo 128 payload) else t

/-- A SEAL cell verifies its group (R444, R447). -/
def execSeal (lane : Nat) (payload : List Byte) (s : State) : Host.Outcome State Fault Refusal :=
  onInst 0x12 lane s fun s =>
    if ¬ s.b (O12.TRUNK_SECURE lane) then s else
    let x := s.furlong lane
    let p := padTo 128 payload
    let group := natBE (p.take 8)
    let count := (p.getD 8 0).toNat
    let slot := (p.getD 9 0).toNat
    let aad := x.rxCells.flatMap fun c => sealAad c.1
    let ct := x.rxCells.flatMap (·.2)
    let iv := sealIv group
    let key := ((SMap.find? x.keys (2 + slot)).map (·.1)).getD []
    let good := (SMap.find? x.keys (2 + slot)).isSome &&
      decide (slot < 2 ∧ count = x.rxCells.length ∧ Config.gcmTag key iv aad ct % 2 ^ 128 = natBE (slice p 16 16))
    let t := s.setFurlong lane { x with rxCells := [] }
    let pt := bytesBE ct.length (Config.gcmOpen key iv aad ct)
    if good then t.forEach x.rxCells.zipIdx fun t c => t.goodCell lane c.1.1 (slice pt (128 * c.2) 128)
    else
      let t := t.forEach x.rxCells fun t c => t.damaged lane c.1
      let fails := (s.now :: x.fails).filter fun n => decide (s.now < n + 192)
      let t := ((t.bump (O12.SEAL_FAILURES lane) 1).flag (O12.TRUNK_FLAGS lane) 16).setFurlong lane { t.furlong lane with fails := fails }
      if 3 ≤ fails.length ∧ t.furlongUp lane then
        ((t.furlongFault lane).setFurlong lane { (t.furlongFault lane).furlong lane with fails := [] }).raise 0x125 lane []
      else t

/-- 192 consecutive beacons from one peer (R437, R444, R446). -/
def execFurlongMeasured (lane : Nat) (fits : Bool) (s : State) : Host.Outcome State Fault Refusal :=
  onInst 0x12 lane s fun s =>
    let x := s.furlong lane
    if s.n (O12.FURLONG_STATE lane) ≠ 2 ∨ x.beacons < 192 then s else
    let d := s.meanDelay lane
    let t := s.setN (O12.FURLONG_DELAY lane) d
    if x.foreign then (t.furlongFault lane).raise 0x12B lane []
    else if 20000 < d ∨ (s.b (O12.TRUNK_SECURE lane) ∧ ¬ s.trunkKeyed lane) then
      ((t.furlongFault lane).flag (O12.TRUNK_FLAGS lane) 2).raise 0x126 lane []
    else
      let t := ((t.setN (O12.FURLONG_STATE lane) 3).setN (O12.PEER_DEVICE lane) x.sender).setN (O12.PEER_LANE lane) x.lane
      let t := (t.setN (O12.BEACON_HOP lane) (hopTicks 1 d 200)).setN (O12.MEDIA_HOP lane) (hopTicks 2 d 1000)
      let t := t.setFurlong lane { x with fixed := d, drift := false, unfit := !fits, missed := 0, fails := [] }
      let t := if t.domain.seekSince = none then t.onDomain fun y => { y with seekSince := some s.now } else t
      let t := t.raise 0x120 lane []
      if fits then t else t.raise 0x12B lane []

/-- Delineation or lock is lost, or 4 consecutive beacons are missing (R444). -/
def execFurlongDown (lane : Nat) (s : State) : Host.Outcome State Fault Refusal :=
  onInst 0x12 lane s fun s =>
    if s.furlongUp lane ∧ (¬ s.trunkUp lane ∨ 4 ≤ (s.furlong lane).missed) then s.furlongLost lane else s

/-- FAULT ends after 192,000 ticks (R444). -/
def execFurlongFaultTimer (lane : Nat) (s : State) : Host.Outcome State Fault Refusal :=
  onInst 0x12 lane s fun s =>
    if s.n (O12.FURLONG_STATE lane) = 4 ∧ (s.furlong lane).faultAt + 192000 ≤ s.now then
      (s.setN (O12.FURLONG_STATE lane) 1).furlongWake lane
    else s

/-- A write of TRUNK_TX_KEY: it governs from the first seal group after the seam (R448). -/
def execTrunkTxKey (lane slot : Nat) (s : State) : Host.Outcome State Fault Refusal :=
  onInst 0x12 lane s fun s => if s.served ∧ slot < 2 then s.setN (O12.TRUNK_TX_KEY lane) slot else s

/-- No mastered beacon within the wait (R460). -/
def execFormWait (s : State) : Host.Outcome State Fault Refusal :=
  live s fun s =>
    let p := s.n O13.MASTER_PRIORITY
    match s.domain.seekSince with
    | some t => if s.domainState = 1 ∧ 0 < p ∧ t + s.n O13.FORM_WAIT + 64 * (255 - p) ≤ s.now then s.becomeMaster else s
    | none => s

/-- The MASTER_HANDOVER action (R464). -/
def execMasterHandover (device : Nat) (s : State) : Host.Outcome State Fault Refusal :=
  live s fun s => if s.served then (s.actHandover device).1 else s

/-- A JOIN record is checked by the master (R438, R461, R465, R474). -/
def execJoin (device variant priority lastEpoch lineage hops age : Nat) (s : State) : Host.Outcome State Fault Refusal :=
  live s fun s => s.raised 7 device 0 (State.joinBody device variant priority lastEpoch lineage) fun s =>
    if 1024 ≤ device then s else
    let i := 0x100 + device
    let here := decide (1 ≤ s.n (O13.MEMBER_STATE i)) && decide (s.n (O13.MEMBER_STATE i) ≤ 4) || device == s.n O13.DEVICE_ID
    let status := if here then CONFLICT
      else if s.domainLimit variant ≤ s.n O13.DOMAIN_SIZE then NO_CAPACITY
      else if 6 < hops ∨ 14 < age then RANGE
      else OK
    if status ≠ OK then (s.sendDown 9 device 0 [d8 status]).flag O13.DOMAIN_FLAGS 2
    else
      let epoch := s.n O13.DOMAIN_EPOCH
      let missed := lastEpoch != epoch
      let known := lineage == s.n O13.DEVICE_ID && (s.epoch? lastEpoch).isSome
      let t := ((s.setN (O13.MEMBER_STATE i) (if missed ∧ ¬ known then 6 else 2)).setN (O13.MEMBER_VARIANT i) variant).setN (O13.MEMBER_HOPS i) hops
      let t := t.setN (O13.MEMBER_LAST_EPOCH i) lastEpoch
      let t := (t.onDomain fun d => { d with
        members := d.members.put device ⟨priority, age⟩
        rejoined := if missed ∧ known then d.rejoined ++ [device] else d.rejoined }).masterFigures
      t.sendDown 8 device 0 [d32 epoch ++ d16 (t.n O13.DOMAIN_SIZE) ++ d16 (t.n O13.BACKUP_DEVICE)]

/-- A WELCOME record (R49, R460, R472). -/
def execWelcome (dest epoch size backup : Nat) (s : State) : Host.Outcome State Fault Refusal :=
  live s fun s => s.relayed 8 dest 0 [d32 epoch ++ d16 size ++ d16 backup] fun s =>
    if s.domainState ≠ 2 then s else
    let t := (s.setN O13.DOMAIN_SIZE size).setN O13.BACKUP_DEVICE backup
    let stale := epoch ≠ s.n O13.LAST_EPOCH ∧ ¬ (s.domain.lineage = s.n O13.MASTER_DEVICE ∧ epoch ≤ s.n O13.LAST_EPOCH + 4096)
    let t := t.setDomain (if epoch = s.n O13.LAST_EPOCH ∨ stale then 4 else 3)
    let t := if stale then (t.flag O13.DOMAIN_FLAGS 32).raise 0x139 (s.n O13.DEVICE_ID) [] else t
    let diff := match t.domain.content with
      | some (b, _, at_) => (b.tick : Int) + t.n O13.BEACON_AGE - at_
      | none => 0
    let t := if diff = 0 ∨ t.tick.step ≠ none then t
      else { t with tick := { t.tick with step := some (((t.tick64 : Int) + 1 + diff).toNat, 2) } }
    let t := t.forEach t.domain.owed fun t o => if o.2.2 = 0 then t.sendUp 5 (t.n O13.DEVICE_ID) o.1 (d64 o.2.1) else t.sendUp 6 (t.n O13.DEVICE_ID) o.1 (d8 o.2.2)
    (t.onDomain fun d => { d with owed := [], retryAt := none }).raise 0x130 (s.n O13.DEVICE_ID) []

/-- A JOIN-REFUSED record (R460). -/
def execJoinRefused (dest status : Nat) (s : State) : Host.Outcome State Fault Refusal :=
  live s fun s => s.relayed 9 dest 0 [d8 status] fun s => if s.domainState ≠ 2 then s else s.notJoined status

/-- A refused joiner tries again after 192,000 ticks (R460). -/
def execJoinRetry (s : State) : Host.Outcome State Fault Refusal :=
  live s fun s =>
    match s.domain.retryAt with
    | some t => if s.domainState = 1 ∧ t + 192000 ≤ s.now ∧ s.n O13.MASTER_DEVICE ≠ 0xFFFF then s.sendJoin else s
    | none => s

/-- A LEAVE record (R460, R465). -/
def execLeave (device : Nat) (s : State) : Host.Outcome State Fault Refusal :=
  live s fun s =>
    let s := if s.isMaster then s else s.sendUp 10 device 0 []
    if ¬ s.servesMembers ∨ 1024 ≤ device then s
    else
      let t := (s.setN (O13.MEMBER_STATE (0x100 + device)) 0).onDomain fun d => { d with members := d.members.del device }
      if t.isMaster then t.masterFigures else t

/-- The backup receives a copy of a participant's part (R467). -/
def execCopy (dest epoch act mode device : Nat) (items : List (Nat × Val)) (s : State) : Host.Outcome State Fault Refusal :=
  live s fun s => s.relayed 11 dest epoch (partSegments (some device) act mode items) fun s =>
    if s.domainState ≠ 5 then s
    else match s.epoch? epoch with
      | some x => s.setEpoch { x with parts := x.parts.filter (fun p => p.1 != device) ++ [(device, items)] }
      | none => s.addEpoch ⟨epoch, act, mode, 0, [(device, items)], [], [], [], [], none, false, true, []⟩

/-- The master records a PREPARED (R470). -/
def execPrepared (epoch device : Nat) (s : State) : Host.Outcome State Fault Refusal :=
  live s fun s => s.raised 2 device epoch [] fun s => s.gotPrepared epoch device

/-- The master records a refusal (R472). -/
def execRefused (epoch device status last : Nat) (s : State) : Host.Outcome State Fault Refusal :=
  live s fun s => s.raised 3 device epoch (d8 status ++ d8 last) fun s => s.gotRefused epoch device status last

/-- The master records that a participant applied (R472). -/
def execAppliedRecord (epoch device tick : Nat) (s : State) : Host.Outcome State Fault Refusal :=
  live s fun s => s.raised 5 device epoch (d64 tick) fun s => s.gotApplied epoch device tick

/-- The master records that a participant did not apply (R472). -/
def execNotApplied (epoch device cause : Nat) (s : State) : Host.Outcome State Fault Refusal :=
  live s fun s => s.raised 6 device epoch (d8 cause) fun s => s.gotNotApplied epoch device cause

/-- A participant has not reported by A + 192,000 ticks (R472). -/
def execParticipantLost (epoch device : Nat) (s : State) : Host.Outcome State Fault Refusal :=
  live s fun s =>
    match s.epoch? epoch with
    | some x =>
      let said := x.applied.contains device || ((x.failed ++ x.refused).any fun f => f.1 == device)
      if s.isMaster ∧ x.act + 192000 ≤ s.tick64 ∧ ¬ said ∧ (x.parts.any fun p => p.1 == device) then
        let t := ((s.setEpoch { x with failed := x.failed ++ [(device, TIMEOUT)] }).setN (O13.MEMBER_STATE (0x100 + device)) 5).raise
          0x13C device []
        t.closeEpoch epoch
      else s
    | none => s

/-- A relay packet is forwarded over a hashed furlong (R454, R455); one for this device is its own. -/
def execRelayPacket (dest src srcIp dstIp srcPort dstPort protocol : Nat) (candidates : List Nat) (packet : List Byte) (s : State) :
    Host.Outcome State Fault Refusal :=
  live s fun s =>
    if dest = s.n O13.DEVICE_ID then s.emit (.domain 4 dest (src :: packet.map (·.toNat)))
    else
      let l := s.trunks.filter fun c => candidates.contains c && s.furlongUp c && !(s.furlong c).unfit
      if l = [] ∨ packet.length < 20 ∨ 1500 < packet.length then s
      else
        let c := l.getD (hashIndex s.domain.seed [srcIp, dstIp, srcPort * 65536 + dstPort, protocol] l.length) 0
        let s := if l.length < 2 ∨ (s.domain.sets.any fun e => e.1 == l) then s
          else s.onDomain fun d => { d with sets := d.sets ++ [(l, 0)] }
        let x := s.furlong c
        let used := (x.relay.map fun e => e.2.length - 4).foldl (· + ·) 0
        if 262144 < used + packet.length then (s.bump (O12.RELAY_DROPS c) 1).raiseLim 0x129 c [] 192000
        else s.setFurlong c { x with relay := x.relay ++ [(dest, d16 packet.length ++ d16 src ++ packet)] }

end Sys2Proof.Machine
end

