-- ==== Sys2Proof/Machine/Keys.lean ====
section
/-! DEFINITION. The key store (chapter 21): derivation, the generation store, handles, wrapped keys and the key operations
(R629 to R664). -/

namespace Sys2Proof.Machine

/-- "TMN-ROOT". -/
def lblRoot : List Byte := ascii [0x54, 0x4D, 0x4E, 0x2D, 0x52, 0x4F, 0x4F, 0x54]
/-- "TMN-ROOT-ID". -/
def lblRootId : List Byte := lblRoot ++ ascii [0x2D, 0x49, 0x44]
/-- "TMN-IDENTITY". -/
def lblIdentity : List Byte := ascii [0x54, 0x4D, 0x4E, 0x2D, 0x49, 0x44, 0x45, 0x4E, 0x54, 0x49, 0x54, 0x59]
/-- "TMN-ATTEST". -/
def lblAttest : List Byte := ascii [0x54, 0x4D, 0x4E, 0x2D, 0x41, 0x54, 0x54, 0x45, 0x53, 0x54]
/-- "TMN-JOURNAL". -/
def lblJournal : List Byte := ascii [0x54, 0x4D, 0x4E, 0x2D, 0x4A, 0x4F, 0x55, 0x52, 0x4E, 0x41, 0x4C]
/-- "TMN-CHECK". -/
def lblCheck : List Byte := ascii [0x54, 0x4D, 0x4E, 0x2D, 0x43, 0x48, 0x45, 0x43, 0x4B]
/-- "TMN-ENROLL". -/
def lblEnroll : List Byte := ascii [0x54, 0x4D, 0x4E, 0x2D, 0x45, 0x4E, 0x52, 0x4F, 0x4C, 0x4C]
/-- "TMN-TRANSFER". -/
def lblTransfer : List Byte := ascii [0x54, 0x4D, 0x4E, 0x2D, 0x54, 0x52, 0x41, 0x4E, 0x53, 0x46, 0x45, 0x52]
/-- "TMKB". -/
def magicBlob : List Byte := ascii [0x54, 0x4D, 0x4B, 0x42]
/-- "TMAT". -/
def magicAttest : List Byte := ascii [0x54, 0x4D, 0x41, 0x54]

/-- SHA-384 as bytes. -/
def sha384 (m : List Byte) : List Byte := bytesBE 48 (Config.sha384 m)

/-- HMAC-SHA-384 as bytes. -/
def hmac384 (key m : List Byte) : List Byte := bytesBE 48 (Config.hmac384 key m)

/-- kdf: the counter-mode KDF with HMAC-SHA-384, a 32-bit counter before the fixed input (R629). -/
def kdf (key label context : List Byte) (l : Nat) : List Byte :=
  ((List.range (ceilDiv l 48)).flatMap fun i =>
    hmac384 key (bytesBE 4 (i + 1) ++ label ++ [0] ++ context ++ bytesBE 4 (l * 8))).take l

/-- AES-256-GCM encryption: ciphertext, then the 16-byte tag. -/
def gcmSeal (key iv aad pt : List Byte) : List Byte :=
  let ct := bytesBE pt.length (Config.gcmSeal key iv aad pt)
  ct ++ bytesBE 16 (Config.gcmTag key iv aad ct)

/-- AES-256-GCM decryption of a ciphertext and its tag; none where the tag fails. -/
def gcmOpen (key iv aad ct tag : List Byte) : Option (List Byte) :=
  if tag = bytesBE 16 (Config.gcmTag key iv aad ct) then some (bytesBE ct.length (Config.gcmOpen key iv aad ct)) else none

/-- Bytes XORed in pairs. -/
def xorBytes (a b : List Byte) : List Byte := List.zipWith (· ^^^ ·) a b

/-- The order n of P-384 (R631). -/
def p384Order : Nat :=
  0xFFFFFFFFFFFFFFFFFFFFFFFFFFFFFFFFFFFFFFFFFFFFFFFFC7634D81F4372DDF581A0DB248B0A77AECEC196ACCC52973

/-- The root of a life-cycle state and a measurement: the key, and root_id (R630). -/
def rootFor (secret : List Byte) (lc count epoch : Nat) (m : List Byte) : List Byte × List Byte :=
  let root := kdf secret lblRoot (bytesBE 1 lc ++ bytesBE 1 count ++ bytesBE 8 epoch ++ m) 48
  (root, (hmac384 root lblRootId).take 8)

/-- The private key of IDENTITY (R631). -/
def identityKey (secret serial : List Byte) : List Byte :=
  bytesBE 48 (natBE (kdf secret lblIdentity serial 64) % (p384Order - 1) + 1)

/-- Labels of 32 bytes (R635). -/
def splitLabels (d : Nat) (b : List Byte) : List (List Byte) := (List.range d).map fun i => slice b (32 * i) 32

/-- The fields of the five attribute bytes (R635). -/
def atMasters (a : List Byte) : Nat := natBE (a.take 2)
def atWorld (a : List Byte) : Nat := (a.getD 2 0).toNat
def atLc (a : List Byte) : Nat := (a.getD 3 0).toNat
def atUsage (a : List Byte) : Nat := (a.getD 4 0).toNat

/-- The attributes that the root counts as having (R637). -/
def rootAttrs : List Byte := [0xFF, 0xFF, 0, 0xFF, 0x1F]

/-- Attributes only narrow down the path; `usage` also narrows where asked (R637, R641). -/
def narrows (parent child : List Byte) (usage : Bool) : Bool :=
  decide (atMasters child &&& atMasters parent = atMasters child) && decide (atLc child &&& atLc parent = atLc child) &&
  (!usage || decide (atUsage child &&& atUsage parent = atUsage child)) && (atWorld parent != 1 || atWorld child == 1)

/-- The attributes of a path's last label; those of the root for none. -/
def lastAttrs (labels : List (List Byte)) : List Byte :=
  match labels.getLast? with
  | some l => l.take 5
  | none => rootAttrs

/-- Every label below a parent meets R637. -/
def chainOk : List Byte → List (List Byte) → Bool
  | _, [] => true
  | p, [l] => narrows p l true
  | p, l :: m :: r => narrows p l true && bit (atUsage l) 3 && chainOk (l.take 5) (m :: r)

/-- The check of a path: RANGE under R636, DENIED under R637. -/
def pathCheck (labels : List (List Byte)) : Nat :=
  if labels.length = 0 ∨ 8 < labels.length then RANGE
  else if labels.any fun l => l.getD 5 0 != 0 || decide (0x20 ≤ atUsage l ∨ 1 < atWorld l) then RANGE
  else if chainOk rootAttrs labels then OK else DENIED

/-- The identifiers of the nodes of a path (R636). -/
def nodeIds (rootId : List Byte) (labels : List (List Byte)) : List Nat :=
  (List.range labels.length).map fun i => natBE ((sha384 (rootId ++ (labels.take (i + 1)).flatten)).take 16)

/-- What a wrapped-key blob opens to (R641, R642). -/
structure Opened where
  keyType : Nat
  attrs : List Byte
  bindKind : Nat
  bindIndex : Nat
  /-- 0 the present root, 1 the previous one. -/
  root : Nat
  rootId : List Byte
  labels : List (List Byte)
  path : List Nat
  key : List Byte
  deriving DecidableEq, Repr

namespace State

/-- Change the key store. -/
def onKeys (s : State) (f : KeySt → KeySt) : State := { s with keys := f s.keys }

/-- SERIAL as bytes (R560). -/
def serialBytes (s : State) : List Byte := padTo 24 (s.bs O00.SERIAL)

/-- The valid root secret in OTP: that of the lowest bank that holds one and is not void (R616). -/
def rootSecret (s : State) : List Byte :=
  let o := s.boot.otp
  if o.bank0 ≠ [] ∧ ¬ bit o.void 0 then o.bank0 else if o.bank1 ≠ [] ∧ ¬ bit o.void 1 then o.bank1 else []

/-- A draw of random bytes, one request of the DRBG (R646). -/
def drbg (s : State) (k : Nat) : List Byte × State :=
  let r := s.drawBytes k
  (r.1, r.2.onKeys fun x =>
    if x.requests + 1 < 65536 ∨ s.n O19.ENTROPY_STATE = 1 then { x with requests := x.requests + 1 }
    else { x with requests := 0, reseedAt := s.now })

/-- The entropy source has failed: what draws random bytes returns INTERNAL (R646). -/
def noEntropy (s : State) : Bool := s.n O19.ENTROPY_STATE == 1

/-- The security processor is frozen (R588). -/
def spFrozen (s : State) : Bool := s.n (O17.MASTER_STATE 0x104) == 1

/-- The key in a slot of the key RAM: value XOR mask, XOR mask (R645). Slots 0 to 4 hold the root, the previous root, IDENTITY, ATTEST
and JOURNAL; slot `h` holds handle `h`. -/
def ramKey (s : State) (slot len : Nat) : List Byte :=
  match SMap.find? s.keys.ram slot with
  | some (v, m) => (xorBytes v m).take len
  | none => zeros len

/-- Put a key into a slot of the key RAM under a fresh mask (R645). -/
def ramPut (s : State) (slot : Nat) (key : List Byte) : State :=
  let r := s.drbg 64
  r.2.onKeys fun x => { x with ram := x.ram.put slot (xorBytes (padTo 64 key) r.1, r.1) }

/-- Zeroise a slot. -/
def ramClear (s : State) (slot : Nat) : State := s.onKeys fun x => { x with ram := x.ram.del slot }

/-- A root by ROOT: its key and root_id; none for a previous root that is not held (R643, R655). -/
def rootBy (s : State) (sel : Nat) : Option (List Byte × List Byte) :=
  if sel = 0 then some (s.ramKey 0 48, s.keys.rootId)
  else if s.keys.prevId = [] then none else some (s.ramKey 1 48, s.keys.prevId)

/-- The generation of a node; 0 where it has no entry (R633). -/
def genOf (s : State) (node : Nat) : Nat :=
  match List.find? (fun (e : GenEnt) => e.node == node) s.keys.gens with
  | some e => e.gen
  | none => 0

/-- The key of the scruple at the end of a path (R636). -/
def derive (s : State) (root : List Byte) (labels : List (List Byte)) (path : List Nat) : List Byte :=
  ((List.zip labels path).zipIdx).foldl (fun k e => kdf k e.1.1 (bytesBE 4 (s.genOf e.1.2) ++ bytesBE 1 (e.2 + 1)) 48) root

/-- An open handle. -/
def handle? (s : State) (h : Nat) : Option Handle := SMap.find? s.keys.handles h

/-- HANDLES_OPEN (R660). -/
def countHandles (s : State) : State := s.setN O19.HANDLES_OPEN s.keys.handles.length

/-- A handle opens: the key goes into the key RAM, and its objects report it (R640, R660). A path key has no KEY_TYPE: the spec states
none (log entry 6). -/
def openHandle (s : State) (h : Nat) (x : Handle) (key : List Byte) : State :=
  let t := (s.onKeys fun k => { k with handles := k.handles.put h x }).ramPut h key
  let kt := if x.keyType = 0 then Config.openResult 4 [h] % 256 else x.keyType
  ((((t.setN (O19.HANDLE_STATE h) 1).setBytes (O19.HANDLE_INFO h)
    (bytesBE 1 kt ++ bytesBE 1 x.source ++ bytesBE 1 x.labels.length ++ bytesBE 1 x.root ++ x.attrs ++ zeros 3 ++ x.rootId ++
      (hmac384 key lblCheck).take 4)).setN (O19.HANDLE_OWNER h) x.owner)).countHandles

/-- A handle closes: its key is zeroised (R640). -/
def closeHandle (s : State) (h : Nat) : State :=
  let t := (s.onKeys fun k => { k with handles := k.handles.del h }).ramClear h
  (((t.clearObj (O19.HANDLE_STATE h)).clearObj (O19.HANDLE_INFO h)).clearObj (O19.HANDLE_OWNER h)).countHandles

/-- The handles of a session close with it, and its running results are discarded (R640, R658). -/
def closeHandles (s : State) (sess : Nat) : State :=
  let t := s.forEach (s.keys.handles.filter fun e => e.2.owner == sess) fun t e => t.closeHandle e.1
  t.onKeys fun k => { k with ran := k.ran.filter fun e => e.1 != sess, wait := k.wait.filter fun e => e.1 != sess }

/-- The value a session has of an object that holds one for each session. -/
def own (s : State) (sess : Nat) (k : Key) : Option Val :=
  match s.sess? sess with
  | some x => SMap.find? x.own k
  | none => none

/-- Set a session's value of such an object. -/
def setOwn (s : State) (sess : Nat) (k : Key) (v : Val) : State :=
  match s.sess? sess with
  | some x => s.setSess sess { x with own := x.own.put k v }
  | none => s

/-- KEY_RESULT of a session: the 8-byte head and the body (R643). -/
def keyResult (s : State) (sess op status : Nat) (body : List Byte) : State :=
  s.setOwn sess O19.KEY_RESULT (.blob (bytesBE 1 op ++ bytesBE 1 status ++ bytesBE 2 body.length ++ zeros 4 ++ body))

/-- A key use returned DENIED or REVOKED (R662, R664). -/
def keyRefused (s : State) (sess h status : Nat) : State :=
  if status = DENIED ∨ status = REVOKED then (s.flag O19.KS_FLAGS 1).raiseLim 0x193 sess (d16 h) 192000 else s

/-- The checks of a handle's use by a session, in order: the session's own, MASTERS for the object engine, WORLD, LC_MASK, USAGE, then
REVOKED (R638, R639, R640, R644). -/
def useHandle (s : State) (sess h usage : Nat) : Except Nat Handle :=
  if h < 0x100 ∨ 0x200 ≤ h then .error RANGE
  else match s.handle? h with
  | none => .error DENIED
  | some x =>
    if x.owner ≠ sess ∨ ¬ bit (atMasters x.attrs) 5 ∨ atWorld x.attrs = 1 ∨ ¬ bit (atLc x.attrs) (s.n O18.LC_STATE) ∨
        ¬ bit (atUsage x.attrs) usage then .error DENIED
    else if x.revoked then .error REVOKED
    else .ok x

/-- The key of an open handle. -/
def handleKey (s : State) (h : Nat) (x : Handle) : List Byte := s.ramKey h x.len

/-- A blob under a KEK: its 388 bytes (R641). -/
def wrapKey (s : State) (o : Opened) (kek : List Byte) : List Byte × State :=
  let r := s.drbg 12
  let head := magicBlob ++ [1] ++ bytesBE 1 o.keyType ++ bytesBE 1 o.labels.length ++ bytesBE 1 (s.n O18.LC_STATE) ++ o.attrs ++
    bytesBE 1 o.bindKind ++ bytesBE 2 o.bindIndex ++ o.rootId ++ padTo 256 o.labels.flatten ++
    padTo 32 (o.path.flatMap fun p => bytesBE 4 (s.genOf p))
  (head ++ r.1 ++ gcmSeal (kek.take 32) r.1 head (padTo 48 o.key), r.2)

/-- A blob is opened: the checks of R642 in order. -/
def openBlob (s : State) (b : List Byte) : Except Nat Opened :=
  let at1 (i : Nat) : Nat := (b.getD i 0).toNat
  let d := at1 6
  let labels := splitLabels d (slice b 24 256)
  let attrs := slice b 8 5
  let rid := slice b 16 8
  let sel := if rid = s.keys.rootId then 0 else 1
  if b.length ≠ 388 ∨ b.take 4 ≠ magicBlob ∨ at1 4 ≠ 1 then .error TYPE
  else if at1 5 = 0 ∨ 2 < at1 5 ∨ 2 < at1 13 ∨ d = 0 ∨ 8 < d ∨ (at1 13 = 0 ∧ natBE (slice b 14 2) ≠ 0) ∨
      (slice b (24 + 32 * d) (32 * (8 - d))).any (· != 0) ∨ (slice b (280 + 4 * d) (4 * (8 - d))).any (· != 0) ∨
      0x20 ≤ atUsage attrs ∨ 1 < atWorld attrs ∨ pathCheck labels = RANGE then .error RANGE
  else match s.rootBy sel with
  | none => .error DENIED
  | some (root, id) =>
    if rid ≠ id ∨ pathCheck labels ≠ OK ∨ ¬ bit (atUsage (lastAttrs labels)) 4 ∨ ¬ narrows (lastAttrs labels) attrs false ∨
        bit (atUsage attrs) 4 ∨ ¬ bit (atLc attrs) (s.n O18.LC_STATE) then .error DENIED
    else
      let path := nodeIds id labels
      if padTo 32 (path.flatMap fun p => bytesBE 4 (s.genOf p)) ≠ slice b 280 32 then .error REVOKED
      else match gcmOpen ((s.derive root labels path).take 32) (slice b 312 12) (b.take 312) (slice b 324 48) (slice b 372 16) with
      | none => .error TYPE
      | some k => .ok ⟨at1 5, attrs, at1 13, natBE (slice b 14 2), sel, id, labels, path, k.take (if at1 5 = 1 then 32 else 48)⟩

/-- What an operation returns: its status, its body, and the path of the key it ran with. -/
abbrev KeyAns := Except Nat (List Byte × List Nat × State)

/-- Whether a handle may be opened: RANGE, CONFLICT, NO-CAPACITY (R640, R643). -/
def freeHandle (s : State) (h : Nat) : Nat :=
  if h < 0x100 ∨ 0x200 ≤ h then RANGE
  else if (s.handle? h).isSome then CONFLICT
  else if 256 ≤ s.keys.handles.length then NO_CAPACITY
  else OK

/-- The labels of a path in a request: DEPTH, three bytes of 0x00, the labels (R644). -/
def bodyPath (body : List Byte) : Except Nat (List (List Byte)) :=
  let d := (body.getD 0 0).toNat
  if body.length < 4 then .error TYPE
  else if d = 0 ∨ 8 < d ∨ (slice body 1 3).any (· != 0) then .error RANGE
  else if body.length ≠ 4 + 32 * d then .error TYPE
  else
    let l := splitLabels d (body.drop 4)
    if pathCheck l = OK then .ok l else .error (pathCheck l)

/-- OPEN-PATH (R636, R637, R640, R644). -/
def opOpenPath (s : State) (sess root h : Nat) (body : List Byte) : KeyAns :=
  if h < 0x100 ∨ 0x200 ≤ h then .error RANGE
  else match bodyPath body, s.rootBy root with
  | .error e, _ => .error e
  | .ok _, none => .error DENIED
  | .ok labels, some (key, id) =>
    if s.freeHandle h ≠ OK then .error (s.freeHandle h)
    else
      let path := nodeIds id labels
      let k := s.derive key labels path
      .ok ((hmac384 k lblCheck).take 8, path,
        s.openHandle h ⟨1, root, 0, lastAttrs labels, labels, path, id, 48, sess, false⟩ k)

/-- OPEN-BLOB (R640, R642, R644). -/
def opOpenBlob (s : State) (sess h : Nat) (body : List Byte) : KeyAns :=
  if h < 0x100 ∨ 0x200 ≤ h then .error RANGE
  else match s.openBlob body with
  | .error e => if e = REVOKED ∧ s.freeHandle h ≠ OK then .error (s.freeHandle h) else .error e
  | .ok o =>
    if s.freeHandle h ≠ OK then .error (s.freeHandle h)
    else .ok ((hmac384 o.key lblCheck).take 8, o.path,
      s.openHandle h ⟨2, o.root, o.keyType, o.attrs, o.labels, o.path, o.rootId, o.key.length, sess, false⟩ o.key)

/-- CLOSE (R640, R644). -/
def opClose (s : State) (sess h : Nat) : KeyAns :=
  if h < 0x100 ∨ 0x200 ≤ h then .error RANGE
  else match s.handle? h with
  | none => .error DENIED
  | some x => if x.owner = sess then .ok ([], [], s.closeHandle h) else .error DENIED

/-- The head of GENERATE and WRAP: KEY_TYPE, 0x00, ATTRIBUTES, BIND_KIND, BIND_INDEX (R644). -/
def wrapHead (body : List Byte) (x : Handle) : Except Nat Opened :=
  let kt := (body.getD 0 0).toNat
  let attrs := slice body 2 5
  let bk := (body.getD 7 0).toNat
  if kt = 0 ∨ 2 < kt ∨ body.getD 1 0 ≠ 0 ∨ 2 < bk ∨ (bk = 0 ∧ natBE (slice body 8 2) ≠ 0) ∨ 0x20 ≤ atUsage attrs ∨ 1 < atWorld attrs then
    .error RANGE
  else if bit (atUsage attrs) 4 ∨ ¬ narrows x.attrs attrs false then .error DENIED
  else .ok ⟨kt, attrs, bk, natBE (slice body 8 2), x.root, x.rootId, x.labels, x.path, []⟩

/-- GENERATE (R641, R644): the key is drawn. -/
def opGenerate (s : State) (sess kek : Nat) (body : List Byte) : KeyAns :=
  if body.length ≠ 10 then .error TYPE
  else match s.useHandle sess kek 4 with
  | .error e => .error e
  | .ok x =>
    match wrapHead body x with
    | .error e => .error e
    | .ok o =>
      if s.noEntropy then .error INTERNAL
      else
        let r := s.drbg (if o.keyType = 1 then 32 else 48)
        let w := r.2.wrapKey { o with key := r.1 } (s.handleKey kek x)
        .ok (w.1, x.path, w.2)

/-- WRAP (R641, R644): a clear key never crosses an unsealed path. -/
def opWrap (s : State) (sess kek : Nat) (body : List Byte) : KeyAns :=
  let l := if (body.getD 0 0).toNat = 1 then 32 else 48
  if mailboxSess sess ∧ ¬ s.b O1C.MAILBOX_SEAL then .error DENIED
  else if body.length ≠ 10 + l then .error TYPE
  else match s.useHandle sess kek 4 with
  | .error e => .error e
  | .ok x =>
    match wrapHead body x with
    | .error e => .error e
    | .ok o =>
      if s.noEntropy then .error INTERNAL
      else
        let w := s.wrapKey { o with key := slice body 10 l } (s.handleKey kek x)
        .ok (w.1, x.path, w.2)

/-- ENCRYPT (R644): the IV is drawn. -/
def opEncrypt (s : State) (sess h : Nat) (body : List Byte) : KeyAns :=
  let a := natBE (body.take 2)
  if body.length < 4 + a then .error TYPE
  else if 256 < a ∨ natBE (slice body 2 2) ≠ 0 ∨ body.length - 4 - a = 0 ∨ 4096 < body.length - 4 - a then .error RANGE
  else match s.useHandle sess h 0 with
  | .error e => .error e
  | .ok x =>
    if x.keyType = 2 then .error DENIED
    else if s.noEntropy then .error INTERNAL
    else
      let r := s.drbg 12
      .ok (r.1 ++ gcmSeal ((s.handleKey h x).take 32) r.1 (slice body 4 a) (body.drop (4 + a)), x.path, r.2)

/-- DECRYPT (R644): TYPE if the tag fails. -/
def opDecrypt (s : State) (sess h : Nat) (body : List Byte) : KeyAns :=
  let a := natBE (body.take 2)
  let n := body.length - 32 - a
  if body.length < 32 + a then .error TYPE
  else if 256 < a ∨ natBE (slice body 2 2) ≠ 0 ∨ n = 0 ∨ 4096 < n then .error RANGE
  else match s.useHandle sess h 1 with
  | .error e => .error e
  | .ok x =>
    if x.keyType = 2 then .error DENIED
    else match gcmOpen ((s.handleKey h x).take 32) (slice body 4 12) (slice body 16 a) (slice body (16 + a) n) (body.drop (16 + a + n)) with
    | none => .error TYPE
    | some pt => .ok (pt, x.path, s)

/-- MAC (R644). -/
def opMac (s : State) (sess h : Nat) (body : List Byte) : KeyAns :=
  if body.length = 0 ∨ 4096 < body.length then .error RANGE
  else match s.useHandle sess h 2 with
  | .error e => .error e
  | .ok x => if x.keyType = 1 then .error DENIED else .ok (hmac384 (s.handleKey h x) body, x.path, s)

/-- The commit of a revocation: handles, and results that are not yet released (R648). -/
def revokeNode (s : State) (node : Nat) : State :=
  let t := s.forEach (s.keys.handles.filter fun e => e.2.path.contains node) fun t e =>
    (t.onKeys fun k => { k with handles := k.handles.put e.1 { e.2 with revoked := true } }).setN (O19.HANDLE_STATE e.1) 2
  let hit := (s.keys.ran.filter fun e => e.2.contains node).map (·.1)
  let t := t.forEach hit fun t sess =>
    match t.own sess O19.KEY_RESULT with
    | some v => (t.keyResult sess ((v.bytes.getD 0 0).toNat) REVOKED []).keyRefused sess 0xFFFF REVOKED
    | none => t
  t.onKeys fun k =>
    { k with gone := k.gone ++ [node], ran := k.ran.filter fun e => !(e.2.contains node),
             wait := k.wait.map fun w => if hit.contains w.1 then
               (w.1, { w.2 with items := w.2.items.map fun i => if i.obj = O19.KEY_REQUEST ∧ i.status = OK then { i with status := REVOKED } else i })
               else w }

/-- REVOKE (R647, R648). -/
def opRevoke (s : State) (root : Nat) (body : List Byte) : KeyAns :=
  match bodyPath body, s.rootBy root with
  | .error e, _ => .error e
  | .ok _, none => .error DENIED
  | .ok labels, some (_, id) =>
    let node := (nodeIds id labels).getLast?.getD 0
    let g := s.genOf node
    let known := s.keys.gens.any fun e => e.node == node
    if g = 0xFFFFFFFF then .error RANGE
    else if ¬ known ∧ 4096 ≤ s.keys.gens.length then .error NO_CAPACITY
    else
      let gens := if known then s.keys.gens.map fun e => if e.node = node then { e with gen := g + 1 } else e
        else s.keys.gens ++ [⟨node, g + 1, id⟩]
      let t := ((s.onKeys fun k => { k with gens := gens }).setN O19.GEN_USED gens.length).revokeNode node
      let t := (t.flag O19.KS_FLAGS 2).raise 0x192 noInst (bytesBE 16 node ++ d32 (g + 1))
      .ok (bytesBE 4 (g + 1), [], if 4096 - gens.length < 256 then t.raise 0x19C noInst (d16 gens.length) else t)

/-- REWRAP (R655). -/
def opRewrap (s : State) (body : List Byte) : KeyAns :=
  match s.openBlob body with
  | .error e => .error e
  | .ok o =>
    if o.root = 0 then .error DENIED
    else if s.noEntropy then .error INTERNAL
    else
      let path := nodeIds s.keys.rootId o.labels
      let w := s.wrapKey { o with root := 0, rootId := s.keys.rootId, path := path } (s.derive (s.ramKey 0 48) o.labels path)
      .ok (w.1, o.path ++ path, w.2)

/-- The roles of an operation: WRAP, REVOKE and REWRAP are SEC alone (R644). -/
def opRole (op role : Nat) : Bool := if op = 5 ∨ op = 9 ∨ op = 10 then role == 2 else role == 1 || role == 2

/-- What follows an operation's answer: KEY_RESULT, the flag and event of a refusal, and the result held until its release. -/
def keyEnd (s : State) (sess op h : Nat) (a : KeyAns) : State × Nat :=
  match a with
  | .error e => ((s.keyResult sess op e []).keyRefused sess h e, e)
  | .ok (body, path, t) =>
    ((t.keyResult sess op OK body).onKeys fun k => { k with ran := k.ran ++ [(sess, path)] }, OK)

/-- What every operation meets beside its own checks: the role first, TAMPER of the whole store, and after its own checks INTERNAL where the
security processor is frozen (R588, R644, R657). -/
def keyGate (s : State) (sess op h : Nat) (f : State → KeyAns) : State × Nat :=
  s.keyEnd sess op h
    (if ¬ opRole op (s.n (O1C.SESS_ROLE sess)) then .error DENIED
     else if s.n O19.KS_STATE = 2 then .error TAMPER
     else match f s with
     | .error e => .error e
     | .ok a => if s.spFrozen then .error INTERNAL else .ok a)

/-- A KEY_REQUEST of a session: the head, then the operation (R643, R644). -/
def keyRequest (s : State) (sess : Nat) (v : List Byte) : State × Nat :=
  let op := (v.getD 0 0).toNat
  let root := (v.getD 1 0).toNat
  let h := natBE (slice v 2 2)
  let kek := natBE (slice v 4 2)
  let body := v.drop 16
  if v.length < 16 then (s, TYPE)
  else if op = 0 ∨ 11 ≤ op then (s, RANGE)
  else if ¬ opRole op (s.n (O1C.SESS_ROLE sess)) then s.keyEnd sess op h (.error DENIED)
  else if natBE (slice v 6 2) ≠ body.length then s.keyEnd sess op h (.error TYPE)
  else if 1 < root ∨ (root = 1 ∧ op ≠ 1 ∧ op ≠ 9) ∨ 4400 < body.length ∨ (slice v 8 8).any (· != 0) then s.keyEnd sess op h (.error RANGE)
  else s.keyGate sess op h fun s =>
    match op with
    | 1 => s.opOpenPath sess root h body
    | 2 => s.opOpenBlob sess h body
    | 3 => if body = [] then s.opClose sess h else .error TYPE
    | 4 => s.opGenerate sess kek body
    | 5 => s.opWrap sess kek body
    | 6 => s.opEncrypt sess h body
    | 7 => s.opDecrypt sess h body
    | 8 => s.opMac sess h body
    | 9 => s.opRevoke root body
    | _ => s.opRewrap body

/-- The seam deletes the port and trunk keys that a revocation or a tamper response took, and releases the results of the tick
(R358, R449, R648, R657, R658). -/
def keysSeam (s : State) : State :=
  let gone (p : List Nat) : Bool := s.keys.wipe || p.any fun n => s.keys.gone.contains n
  let cause := if s.keys.wipe then TAMPER else REVOKED
  let lost := s.net.sas.filter fun e => gone e.2.path
  let t := { s with net := { s.net with sas := s.net.sas.filter fun e => !(gone e.2.path) } }
  let t := t.forEach lost fun t e => ((t.flag (O0F.PORT_FLAGS (e.1 / 128)) 16)).raise 0xE21 (e.1 / 128) (d8 cause)
  let t := if s.keys.wipe ∨ s.keys.gone ≠ [] then t.dropTrunkKeys gone cause else t
  let t := t.forEach s.keys.wait fun t w => t.respond w.1 w.2
  t.onKeys fun k => { k with gone := [], wipe := false, ran := [], wait := [] }

/-- ENROLL (R649, R650). -/
def actEnroll (s : State) (sess : Nat) (v : List Byte) : State × Nat :=
  if v.length ≠ 97 ∨ ¬ Config.ecOnCurve v then (s, TYPE)
  else if s.n O18.LC_STATE ≠ 1 then (s, DENIED)
  else if s.b O19.ENROLLED then (s, CONFLICT)
  else if s.n O19.KS_STATE = 2 then (s, TAMPER)
  else if s.noEntropy ∨ s.spFrozen then (s, INTERNAL)
  else
    let r := s.drbg 48
    let e := bytesBE 97 (Config.ecPublic r.1)
    let w := kdf (bytesBE 48 (Config.ecdhX r.1 v)) lblEnroll (s.serialBytes ++ e) 32
    let head := e ++ s.serialBytes
    let rec0 := head ++ gcmSeal w (zeros 12) head (s.ramKey 3 48) ++ s.keys.pub ++ zeros 12
    let sig := bytesBE 96 (Config.ecdsaSign (s.ramKey 2 48) (sha384 rec0))
    (((r.2.setOwn sess O19.ENROLL_RESULT (.blob (rec0 ++ sig))).setB O19.ENROLLED true).raise 0x195 noInst s.keys.rootId, OK)

/-- SVN of an image header (R607). -/
def imageSvn (h : List Byte) : Nat := natBE (slice h 12 2)

/-- ATTEST (R651). -/
def actAttest (s : State) (sess : Nat) (v : List Byte) : State × Nat :=
  let lc := s.n O18.LC_STATE
  if v.length ≠ 32 then (s, TYPE)
  else if lc = 0 ∨ 3 < lc then (s, DENIED)
  else if s.n O19.KS_STATE = 2 then (s, TAMPER)
  else if s.spFrozen then (s, INTERNAL)
  else
    let m := magicAttest ++ [1] ++ bytesBE 1 lc ++ bytesBE 1 (s.n O18.LC_COUNT) ++ bytesBE 1 (s.n O00.PART) ++ s.serialBytes ++
      padTo 48 s.boot.measurement ++ v ++ bytesBE 8 s.tick64 ++ bytesBE 4 (s.n O00.NELOAS_VERSION) ++
      bytesBE 2 (imageSvn s.boot.image) ++ bytesBE 2 (s.n O18.SVN_OTP)
    (s.setOwn sess O19.ATTEST_RESULT (.blob (m ++ hmac384 (s.ramKey 3 48) m)), OK)

/-- The transfer record of an EXPORT to a measurement (R653). -/
def exportRoot (s : State) (m : List Byte) : State × Nat :=
  if s.n O19.KS_STATE = 2 then (s, TAMPER)
  else if s.noEntropy ∨ s.spFrozen then (s, INTERNAL)
  else
    let r' := rootFor s.rootSecret (s.n O18.LC_STATE) (s.n O18.LC_COUNT) s.keys.epoch m
    let tk := kdf r'.1 lblTransfer s.keys.rootId 32
    let r := s.drbg 12
    let aad := s.keys.rootId ++ r'.2 ++ bytesBE 1 (s.n O18.LC_COUNT) ++ zeros 3 ++ r.1
    let t := r.2.onKeys fun k => { k with transfer := aad ++ gcmSeal tk r.1 aad (s.ramKey 0 48) ++ zeros 52 }
    ((t.setN O19.MIGRATE_STATE 1).raise 0x196 noInst s.keys.rootId, OK)

/-- Whether the transfer record names the present root and LC_COUNT (R654). -/
def transferHere (s : State) : Bool :=
  s.keys.transfer.length == 148 && slice s.keys.transfer 8 8 == s.keys.rootId &&
  (s.keys.transfer.getD 16 0).toNat == s.n O18.LC_COUNT

/-- IMPORT (R654). -/
def importRoot (s : State) : State × Nat :=
  let r := s.keys.transfer
  let old := r.take 8
  let bad := ((s.setN O19.MIGRATE_STATE 3).flag O19.KS_FLAGS 4).raise 0x198 noInst s.keys.rootId
  if s.n O19.KS_STATE = 2 then (s, TAMPER)
  else if s.spFrozen then (s, INTERNAL)
  else match gcmOpen (kdf (s.ramKey 0 48) lblTransfer old 32) (slice r 20 12) (r.take 32) (slice r 32 48) (slice r 80 16) with
  | none => (bad, TYPE)
  | some k =>
    if (hmac384 k lblRootId).take 8 ≠ old then (bad, TYPE)
    else
      let t := (s.ramPut 1 k).onKeys fun x => { x with prevId := old }
      (((t.setN O19.MIGRATE_STATE 2).setBytes O19.PREVIOUS_ROOT_ID old).raise 0x197 noInst old, OK)

/-- KEY_MIGRATE starts (R653, R654, R660). -/
def startKeyMigrate (s : State) (sess role : Nat) (v : List Byte) : State × Nat × Nat :=
  if s.member ≠ .tmn9624 then (s, ABSENT, 0)
  else if v.length ≠ 0 ∧ v.length ≠ 48 then (s, TYPE, 0)
  else if s.n O18.LC_STATE ≠ 2 then (s, DENIED, 0)
  else if v = [] ∧ ¬ s.transferHere then (s, CONFLICT, 0)
  else s.startJob sess role O19.KEY_MIGRATE (.blob v) []

/-- The work of KEY_MIGRATE is done: the job's status (R653, R654). -/
def migrateJobEnd (s : State) (j : Nat) : State :=
  match s.job? j with
  | none => s
  | some x =>
    let r := if x.arg.bytes = [] then s.importRoot else s.exportRoot x.arg.bytes
    r.1.endJob j r.2 []

/-- KEY_RETIRE (R655). -/
def actKeyRetire (s : State) : State × Nat :=
  if s.member ≠ .tmn9624 then (s, ABSENT)
  else if s.n O19.KS_STATE = 2 then (s, TAMPER)
  else if s.spFrozen then (s, INTERNAL)
  else
    let t := (s.ramClear 1).onKeys fun k => { k with transfer := [], prevId := [] }
    (((t.clearObj O19.PREVIOUS_ROOT_ID).setN O19.MIGRATE_STATE 0).raise 0x199 noInst s.keys.prevId, OK)

/-- The sources at their active level in a sample: an enabled input, or SHIELD (R656, R663). -/
def asserted (s : State) (pins : Nat) : Nat :=
  let c := s.n O19.TAMPER_CONFIG
  (pins % 16 ^^^ (15 ^^^ field c 3 0)) &&& field c 11 8 ||| (pins / 16 % 2 * 16)

/-- A sample of the tamper sources, and those that are asserted: at their active level in this sample and in the one before (R656). -/
def samplePins (s : State) (pins : Nat) : State × Nat :=
  ((s.onKeys fun k => { k with pins := pins % 32 }).setN O19.TAMPER_LEVELS (s.asserted pins), s.asserted pins &&& s.asserted s.keys.pins)

/-- A write of TAMPER_CONFIG: SHIELD cannot be disabled (R656). -/
def writeTamperConfig (s : State) (v : Nat) : State × Nat :=
  if ¬ bit v 12 ∨ v &&& 0x1F0F ≠ v then (s, RANGE)
  else if v = s.n O19.TAMPER_CONFIG then (s, OK)
  else ((s.setN O19.TAMPER_CONFIG v).raise 0x19D noInst (d32 v), OK)

/-- The key RAM, its masks and every handle are zeroised (R620, R632, R657). -/
def zeroise (s : State) : State :=
  let t := s.forEach s.keys.handles fun t e => t.closeHandle e.1
  t.onKeys fun k => { k with ram := [], handles := [], rootId := [], prevId := [] }

/-- Step ROOTS: a lost store starts afresh, stale entries and records go, and the roots and fixed keys are derived (R630 to R634, R647,
R654). -/
def rootsStep (s : State) : State :=
  let t := s.zeroise
  let t := if s.keys.lost then
      (let r := t.drbg 8
       ((r.2.onKeys fun k => { k with epoch := natBE r.1, gens := [], transfer := [], lost := false }).clearObj O19.TAMPER_CONFIG).flag
         O19.KS_FLAGS 32)
    else t
  let t := if s.keys.lost then { t with boot := { t.boot with left := t.boot.left ++ [(0x191, 0)] } } else t
  let m := if s.member = .tmn9624 ∧ s.n O18.LC_STATE = 2 then s.boot.measurement else zeros 48
  let sec := s.rootSecret
  let r := rootFor sec (s.n O18.LC_STATE) (s.n O18.LC_COUNT) t.keys.epoch m
  let t := t.onKeys fun k => { k with rootId := r.2 }
  let t := if (t.keys.transfer.getD 16 0).toNat = t.n O18.LC_COUNT then t else t.onKeys fun k => { k with transfer := [] }
  let prev := if t.transferHere then t.keys.transfer.take 8 else []
  let t := t.onKeys fun k =>
    { k with gens := k.gens.filter fun e => e.root == r.2 || (prev != [] && e.root == prev),
             pub := bytesBE 97 (Config.ecPublic (identityKey sec s.serialBytes)) }
  let t := (((t.ramPut 0 r.1).ramPut 2 (identityKey sec s.serialBytes)).ramPut 3 (kdf sec lblAttest s.serialBytes 48)).ramPut 4
    (kdf sec lblJournal s.serialBytes 48)
  t.setN O19.GEN_USED t.keys.gens.length

/-- The further checks of a key installed in a port or a trunk lane (R652). -/
def installOk (o : Opened) (kind index dir : Nat) : Bool :=
  o.keyType == 1 && o.bindKind == kind && o.bindIndex == index && bit (atUsage o.attrs) dir && bit (atMasters o.attrs) 4

/-- The status of a blob for a port or trunk lane: DENIED beside R642, TAMPER and INTERNAL (R356, R588, R652). -/
def installBlob (s : State) (b : List Byte) (kind index dir : Nat) : Except Nat Opened :=
  if s.n O19.KS_STATE = 2 then .error TAMPER
  else if s.spFrozen then .error INTERNAL
  else match s.openBlob b with
  | .error e => .error e
  | .ok o => if installOk o kind index dir then .ok o else .error DENIED

/-- MACSEC_SA (R356, R652). An install to an AN that holds an association replaces it at the next seam. -/
def actMacsecSa (s : State) (p : Nat) (v : List Byte) : State × Nat :=
  let at1 (i : Nat) : Nat := (v.getD i 0).toNat
  let dir := at1 0
  let pn := natBE (slice v 12 8)
  let xpn := s.n (O0F.MACSEC_CIPHER p) = 1
  let n := natBE (slice v 36 2)
  if v.length < 38 ∨ v.length ≠ 38 + n then (s, TYPE)
  else if 1 < dir ∨ 15 < at1 1 ∨ (dir = 0 ∧ at1 1 ≠ 0) ∨ 3 < at1 2 ∨ at1 3 ≠ 0 ∨ n = 0 ∨ 512 < n ∨
      (¬ xpn ∧ (2 ^ 32 ≤ pn ∨ (slice v 20 16).any (· != 0))) then (s, RANGE)
  else match s.installBlob (v.drop 38) 1 p dir with
  | .error e => (s.keyRefused noInst 0xFFFF e, e)
  | .ok o =>
    let sci := if dir = 0 then (natBE (s.bs O00.BASE_MAC) + 256 + p) * 65536 + 1 else natBE (slice v 4 8)
    let k := saKey p dir (at1 1) (at1 2)
    let a : SaSt := ⟨o.key, pn, sci, natBE (slice v 20 4), slice v 24 12, o.path, pn⟩
    let t := if (SMap.find? s.net.sas k).isSome then s.onNet fun x => { x with newSas := x.newSas.put k a }
      else s.onNet fun x => { x with sas := x.sas.put k a }
    (t.raise 0xE20 p (d8 dir ++ d8 (at1 1) ++ d8 (at1 2)), OK)

/-- TRUNK_KEY (R448, R652). -/
def actTrunkKey (s : State) (l : Nat) (v : List Byte) : State × Nat :=
  let dir := (v.getD 0 0).toNat
  let slot := (v.getD 1 0).toNat
  let n := natBE (slice v 2 2)
  if v.length < 4 ∨ v.length ≠ 4 + n then (s, TYPE)
  else if 1 < dir ∨ 1 < slot ∨ n = 0 ∨ 512 < n then (s, RANGE)
  else match s.installBlob (v.drop 4) 2 l dir with
  | .error e => (s.keyRefused noInst 0xFFFF e, e)
  | .ok o =>
    let x := s.furlong l
    let x := { x with keys := x.keys.put (dir * 2 + slot) (o.key, o.path) }
    let x := if dir = 0 ∧ slot = x.txKey then { x with txOpen := [] } else x
    let x := if dir = 0 then { x with txGroups := x.txGroups.put slot 0 } else x
    ((s.setFurlong l x).raise 0x127 l (d8 dir ++ d8 slot), OK)

end State

/-- A key operation of a session that Neloas serves. -/
def keyLive (s : State) (sess : Nat) (f : State → State × Nat) : Host.Outcome State Fault Refusal :=
  live s fun s => if s.served ∧ s.n (O1C.SESS_STATE sess) = 2 then (f s).1 else s

/-- OPEN-PATH (R644). -/
def execOpenPath (sess root handle : Nat) (body : List Byte) (s : State) : Host.Outcome State Fault Refusal :=
  keyLive s sess fun s => s.keyGate sess 1 handle fun s => if root ≤ 1 then s.opOpenPath sess root handle body else .error RANGE

/-- OPEN-BLOB (R642, R644). -/
def execOpenBlob (sess handle : Nat) (body : List Byte) (s : State) : Host.Outcome State Fault Refusal :=
  keyLive s sess fun s => s.keyGate sess 2 handle fun s => s.opOpenBlob sess handle body

/-- CLOSE of a handle (R644). -/
def execKeyClose (sess handle : Nat) (s : State) : Host.Outcome State Fault Refusal :=
  keyLive s sess fun s => s.keyGate sess 3 handle fun s => s.opClose sess handle

/-- GENERATE (R644). -/
def execGenerate (sess kek : Nat) (body : List Byte) (s : State) : Host.Outcome State Fault Refusal :=
  keyLive s sess fun s => s.keyGate sess 4 kek fun s => s.opGenerate sess kek body

/-- WRAP (R644). -/
def execWrap (sess kek : Nat) (body : List Byte) (s : State) : Host.Outcome State Fault Refusal :=
  keyLive s sess fun s => s.keyGate sess 5 kek fun s => s.opWrap sess kek body

/-- ENCRYPT (R644). -/
def execEncrypt (sess handle : Nat) (body : List Byte) (s : State) : Host.Outcome State Fault Refusal :=
  keyLive s sess fun s => s.keyGate sess 6 handle fun s => s.opEncrypt sess handle body

/-- DECRYPT (R644). -/
def execDecrypt (sess handle : Nat) (body : List Byte) (s : State) : Host.Outcome State Fault Refusal :=
  keyLive s sess fun s => s.keyGate sess 7 handle fun s => s.opDecrypt sess handle body

/-- MAC (R644). -/
def execMac (sess handle : Nat) (body : List Byte) (s : State) : Host.Outcome State Fault Refusal :=
  keyLive s sess fun s => s.keyGate sess 8 handle fun s => s.opMac sess handle body

/-- REVOKE (R647, R648). -/
def execRevoke (sess root : Nat) (body : List Byte) (s : State) : Host.Outcome State Fault Refusal :=
  keyLive s sess fun s => s.keyGate sess 9 0xFFFF fun s => if root ≤ 1 then s.opRevoke root body else .error RANGE

/-- REWRAP (R655). -/
def execRewrap (sess : Nat) (body : List Byte) (s : State) : Host.Outcome State Fault Refusal :=
  keyLive s sess fun s => s.keyGate sess 10 0xFFFF fun s => s.opRewrap body

/-- ENROLL (R649). -/
def execEnroll (sess : Nat) (value : List Byte) (s : State) : Host.Outcome State Fault Refusal :=
  keyLive s sess fun s => s.actEnroll sess value

/-- ATTEST (R651). -/
def execAttest (sess : Nat) (value : List Byte) (s : State) : Host.Outcome State Fault Refusal :=
  keyLive s sess fun s => s.actAttest sess value

/-- KEY_MIGRATE starts (R653, R654). -/
def execKeyMigrate (sess : Nat) (value : List Byte) (s : State) : Host.Outcome State Fault Refusal :=
  live s fun s => if s.accepts then (s.startKeyMigrate sess (s.n (O1C.SESS_ROLE sess)) value).1 else s

/-- KEY_RETIRE (R655). -/
def execKeyRetire (s : State) : Host.Outcome State Fault Refusal :=
  live s fun s => if s.served then s.actKeyRetire.1 else s

/-- A write of TAMPER_CONFIG (R656). -/
def execTamperConfig (value : Nat) (s : State) : Host.Outcome State Fault Refusal :=
  live s fun s => if s.served then (s.writeTamperConfig value).1 else s

/-- One slot of the key RAM is re-masked (R645). -/
def execRemask (s : State) : Host.Outcome State Fault Refusal :=
  live s fun s =>
    let r := s.drbg 64
    let (v, m) := s.keys.ram.getD s.keys.next (zeros 64, zeros 64)
    let t := r.2.onKeys fun k =>
      { k with ram := k.ram.put s.keys.next (xorBytes (xorBytes v m) r.1, r.1), next := (k.next + 1) % 512 }
    if s.keys.next = 511 then t.bump O19.REMASK_PASSES 1 else t

/-- The DRBG reseeds, 192,000 ticks after it last did; it does not while the source has failed (R646). -/
def execDrbgReseed (s : State) : Host.Outcome State Fault Refusal :=
  live s fun s => if s.noEntropy ∨ s.now < s.keys.reseedAt + 192000 then s else s.onKeys fun k => { k with requests := 0, reseedAt := s.now }

/-- A health test fails (R646). -/
def execEntropyHealthFailure (s : State) : Host.Outcome State Fault Refusal :=
  live s fun s =>
    let recent := s.keys.fails.any fun t => s.now < t + 192000
    let t := ((s.onKeys fun k => { k with fails := (s.now :: k.fails).take 2 }).flag O19.KS_FLAGS 16).raise 0x19A noInst []
    if recent ∧ ¬ s.noEntropy then (t.setN O19.ENTROPY_STATE 1).raise 0x19B noInst [] else t

/-- A FAILED source re-runs its start-up tests, every 1,920,000 ticks (R646). -/
def execEntropyRetest (passed : Bool) (s : State) : Host.Outcome State Fault Refusal :=
  live s fun s =>
    if ¬ s.noEntropy ∨ s.now < s.keys.fails.headD 0 + 1920000 then s
    else if passed then (s.setN O19.ENTROPY_STATE 0).onKeys fun k => { k with fails := [] }
    else s.onKeys fun k => { k with fails := [s.now] }

/-- VDD_AON and VBAT are both lost: the generation store, its transfer record and TAMPER_CONFIG are lost, which step ROOTS finds
(R633, R634). The value of the STANDBY_TAMPER latch is then open (log entry 5). -/
def execAonSupplyLoss (s : State) : Host.Outcome State Fault Refusal :=
  let r := s.draw
  .next ((r.2.onKeys fun k => { k with lost := true, ram := [] }).setB O18.STANDBY_TAMPER (r.1 % 2 == 1))

/-- The MACSEC_SA action (R356). -/
def execMacsecSa (port : Nat) (value : List Byte) (s : State) : Host.Outcome State Fault Refusal :=
  onInst 0x0F port s fun s => if s.served ∧ port < 224 then (s.actMacsecSa port value).1 else s

/-- The TRUNK_KEY action (R448). -/
def execTrunkKey (lane : Nat) (value : List Byte) (s : State) : Host.Outcome State Fault Refusal :=
  onInst 0x12 lane s fun s => if s.served then (s.actTrunkKey lane value).1 else s

end Sys2Proof.Machine
end

