-- ==== Sys2Proof/Machine/Boot.lean ====
section
/-! DEFINITION. Boot ROM, boot flash, OTP and the life cycle (chapter 20: R598 to R628). -/

namespace Sys2Proof.Machine

/-- "TMBR". -/
def magicRecord : List Byte := ascii [0x54, 0x4D, 0x42, 0x52]
/-- "NLOS". -/
def magicImage : List Byte := ascii [0x4E, 0x4C, 0x4F, 0x53]
/-- "SERVICE". -/
def txtService : List Byte := ascii [0x53, 0x45, 0x52, 0x56, 0x49, 0x43, 0x45]

/-- A boot record: SEQ, ACTIVE, TRIAL and TRIES; none where MAGIC or the CRC-32 fails (R606). -/
def bootRecord (b : List Byte) : Option (Nat × Nat × Bool × Nat) :=
  if b.length = 32 ∧ b.take 4 = magicRecord ∧ natBE (b.drop 28) = crc32 (b.take 28) then
    some (natBE (slice b 4 4), (b.getD 8 0).toNat, b.getD 9 0 != 0, (b.getD 10 0).toNat)
  else none

/-- The 32 bytes of a boot record (R606). -/
def bootBytes (seq active : Nat) (trial : Bool) (tries : Nat) : List Byte :=
  let h := magicRecord ++ bytesBE 4 seq ++ bytesBE 1 active ++ bytesBE 1 trial.toNat ++ bytesBE 1 tries ++ zeros 17
  h ++ bytesBE 4 (crc32 h)

/-- The measurement of an image (R610). -/
def measureImage (img : List Byte) : List Byte :=
  sha384 (sha384 (zeros 48 ++ bytesBE 4 (Config.romVersion % 0x100000000)) ++ img.take 256)

namespace State

/-- Change boot's own state. -/
def onBoot (s : State) (f : BootSt → BootSt) : State := { s with boot := f s.boot }

/-- The boot record that counts: the copy taken, and its fields (R606). -/
def pickRecord (s : State) : Option (Nat × Nat × Nat × Bool × Nat) :=
  match bootRecord s.boot.copy0, bootRecord s.boot.copy1 with
  | some a, some b => if a.1 < b.1 then some (1, b) else some (0, a)
  | some a, none => some (0, a)
  | none, some b => some (1, b)
  | none, none => none

/-- A new boot record, into the copy that was not taken (R606). -/
def writeRecord (s : State) (active : Nat) (trial : Bool) (tries : Nat) : State :=
  match s.pickRecord with
  | some (0, seq, _) => s.onBoot fun b => { b with copy1 := bootBytes ((seq + 1) % 0x100000000) active trial tries }
  | some (_, seq, _) => s.onBoot fun b => { b with copy0 := bootBytes ((seq + 1) % 0x100000000) active trial tries }
  | none => s.onBoot fun b => { b with copy0 := bootBytes 1 active trial tries }

/-- The image in a slot. -/
def slotImage (s : State) (slot : Nat) : List Byte := if slot = 0 then s.boot.slotA else s.boot.slotB

/-- The checks of an image in the order of R607: none where it passes, else the offset of the failing field and the status of R617. -/
def imageCheck (s : State) (img : List Byte) : Option (Nat × Nat) :=
  let u (o k : Nat) : Nat := natBE (slice img o k)
  if img.take 4 ≠ magicImage then some (0, TYPE)
  else if u 4 2 ≠ 1 then some (4, TYPE)
  else if 3 < u 6 1 ∨ bit s.boot.otp.revoked (u 6 1) then some (6, DENIED)
  else if ¬ bit (u 7 1) (byMember s.member 0 1 2) then some (7, ABSENT)
  else if u 12 2 < s.boot.otp.svn ∨ 255 < u 12 2 then some (12, RANGE)
  else if u 14 2 ≠ 0 then some (14, TYPE)
  else if u 16 4 < 16 ∨ 12582912 < u 16 4 ∨ u 16 4 % 16 ≠ 0 ∨ img.length < 256 + u 16 4 then some (16, TYPE)
  else if u 16 4 ≤ u 20 4 then some (20, TYPE)
  else if slice img 24 48 ≠ sha384 (slice img 256 (u 16 4)) then some (24, TYPE)
  else if (slice img 72 88).any (· != 0) then some (72, TYPE)
  else if ¬ Config.ecdsaVerify (Config.romKey (u 6 1)) (sha384 (img.take 160)) (slice img 160 96) then some (160, DENIED)
  else none

/-- A slot passes R607. -/
def slotOk (s : State) (slot : Nat) : Bool := s.imageCheck (s.slotImage slot) == none

/-- SLOT_VERSION and SLOT_SVN: 0 where the slot fails R607 (R625). -/
def slotVersions (s : State) : List Byte :=
  [0, 1].flatMap fun i => if s.slotOk i then slice (s.slotImage i) 8 4 else zeros 4
def slotSvns (s : State) : List Byte :=
  [0, 1].flatMap fun i => if s.slotOk i then slice (s.slotImage i) 12 2 else zeros 2

/-- The device in reset (R598, R620): what the always-on domain, OTP and the boot flash hold stays. `cause` is RESET_CAUSE. -/
def resetDevice (s : State) (cause : Nat) : State :=
  let keep (t : State) (k : Key) : State := match SMap.find? s.objs k with
    | some v => t.setObj k v
    | none => t
  let j := s.jrnl
  let t : State := { State.reset with
    conv := { State.reset.conv with luts := s.conv.luts }
    pending := s.pending, member := s.member, fresh := s.fresh, sent := s.sent, boot := s.boot.kept, keys := s.keys.kept,
    jrnl := { State.reset.jrnl with active := j.active, half0 := j.half0, half1 := j.half1, badFrom := j.badFrom } }
  let t := ([O19.TAMPER_CONFIG, O19.TAMPER_LEVELS, O18.STANDBY_TAMPER].foldl keep t)
  t.setN O00.RESET_CAUSE cause

/-- The device is in a phase of its start-up. -/
def inPhase (s : State) (ph : Phase) : State := { s with phase := ph }

/-- Start-up ends in BOOT FAILED, END-OF-LIFE or TAMPER HOLD (R604, R621). -/
def halt (s : State) (ph : Phase) (step code : Nat) : State :=
  (s.inPhase ph).onBoot fun b => { b with bootstat := step * 0x1000000 + code * 0x10000 }

/-- A step of the boot ROM begins (R603). -/
def romStep (s : State) (step : Nat) : State := s.onBoot fun b => { b with bootstat := step * 0x1000000 }

/-- The ROM leaves an event, and a bit of BOOT_FLAGS, for Neloas (R628). -/
def leave (s : State) (ev mask : Nat) : State := s.onBoot fun b => { b with left := b.left ++ [(ev, mask)] }

/-- Change OTP. -/
def onOtp (s : State) (f : OtpSt → OtpSt) : State := s.onBoot fun b => { b with otp := f b.otp }

/-- The bits of a change are programmed (R612, R614, R615). A ROOT-GEN that step OTP finds is void (R616). -/
def programOtp (s : State) (i : Intent) : State :=
  match i.op with
  | 1 => s.onOtp fun o => { o with lc := o.lc ++ [i.arg] }
  | 2 => s.onOtp fun o => { o with svn := max o.svn i.arg }
  | 3 => s.onOtp fun o => { o with revoked := o.revoked ||| 2 ^ i.arg }
  | _ => (s.onOtp fun o => { o with void := o.void ||| 2 ^ i.arg }).leave 0x18A 32

/-- Step OTP completes every slot that is ARMED and not DONE, in slot order (R615, R623). -/
def completeIntents (s : State) : State :=
  let t := s.forEach (s.boot.otp.intents.filter fun i => i.armed && !i.done) fun t i => (t.programOtp i).leave 0x182 4
  t.onOtp fun o => { o with intents := o.intents.map fun i => if i.armed then { i with done := true } else i }

/-- Step ROOT: the root secret is generated into the lowest bank that is not void and holds none (R616). -/
def generateRoot (s : State) : State :=
  let o := s.boot.otp
  let bank := if ¬ bit o.void 0 then 0 else 1
  let r := s.drbg 48
  r.2.onOtp fun o => { o with bank0 := if bank = 0 then r.1 else o.bank0, bank1 := if bank = 1 then r.1 else o.bank1,
                              intents := o.intents ++ [⟨4, bank, true, true⟩] }

/-- Steps MEASURE, ROOTS and REMAP on the chosen image; step HANDOVER comes next (R576, R603, R610). -/
def imageChosen (s : State) (img : List Byte) (source : Nat) : State :=
  let t := s.onBoot fun b => { b with image := img, source := source, measurement := measureImage img, recovery := false }
  (t.rootsStep.setB O17.REMAP true).romStep 11

/-- Recovery: the ROM waits for an image (R609). -/
def recoveryBoot (s : State) : State := (s.romStep 7).onBoot fun b => { b with recovery := true, rcv := 0 }

/-- A trial ends without success: ACTIVE boots, with TRIAL 0 and TRIES 0 (R608). -/
def trialEnds (s : State) (active : Nat) : State :=
  ((s.writeRecord active false 0).setN O18.TRIAL_TRIES 0).leave 0x184 8

/-- Step LOAD with a chosen slot (R603, R607, R608, R609). -/
def loadImage (s : State) (slot : Nat) (trial : Bool) : State :=
  let other := 1 - slot
  if s.slotOk slot then
    let t := if trial then (s.setN O18.TRIAL_STATE 2).onBoot fun b => { b with handover := some 0 } else s
    t.imageChosen (s.slotImage slot) slot
  else
    let t := if trial then s.trialEnds other else s
    let t := t.leave 0x180 1
    if s.slotOk other then t.imageChosen (s.slotImage other) other
    else if bit s.straps 2 then s.recoveryBoot
    else s.halt .bootFailed 7 5

/-- Steps FLASH and LOAD (R603, R608, R609). -/
def chooseSlot (s : State) : State :=
  let s := s.romStep 6
  if bit s.straps 2 ∧ bit s.straps 3 then s.recoveryBoot
  else match s.pickRecord with
  | none => (s.romStep 7).loadImage 0 false
  | some (_, _, active, trial, tries) =>
    let a := active % 2
    if ¬ trial then (s.romStep 7).loadImage a false
    else if tries < 3 then (((s.writeRecord a true (tries + 1)).setN O18.TRIAL_TRIES (tries + 1)).romStep 7).loadImage (1 - a) true
    else ((s.trialEnds a).romStep 7).loadImage a false

/-- Step ROOT and after; programming waits while PWR_OK is low (R603, R615, R616). -/
def fromRoot (s : State) : State :=
  let s := s.romStep 5
  let o := s.boot.otp
  if s.n O18.LC_STATE = 1 ∧ s.rootSecret = [] then
    if o.void % 4 = 3 then s.halt .bootFailed 5 4
    else if s.boot.pwrOk then s.generateRoot.chooseSlot else s
  else if s.rootSecret = [] then s.halt .bootFailed 5 4
  else s.chooseSlot

/-- The boot ROM's steps up to HANDOVER (R603). The levels of the tamper inputs at step TAMPER have stood for two samples by then (R601,
R656). -/
def bootRom (s : State) (pins : Nat) (entropy powered : Bool) : State :=
  let s := ((s.inPhase .rom).samplePins pins).1.romStep 1
  if s.asserted pins ≠ 0 then s.zeroise.halt .tamperHold 1 6
  else
    let s := s.romStep 2
    if s.boot.otp.intents.any (fun i => i.armed && !i.done) ∧ ¬ s.boot.pwrOk ∧ ¬ powered then s.halt .bootFailed 2 1
    else
      let s := s.completeIntents.romStep 3
      if s.n O18.LC_STATE = 0 then s.halt .bootFailed 3 2
      else if s.n O18.LC_STATE = 4 then s.halt .endOfLife 3 7
      else if ¬ entropy then (s.romStep 4).halt .bootFailed 4 3
      else (s.romStep 4).fromRoot

/-- An OTP change is requested: it takes the lowest free slot; none where no slot is free (R615). -/
def otpChange (s : State) (op arg : Nat) : Option State :=
  if 64 ≤ s.boot.otp.intents.length then none
  else some (s.onOtp fun o => { o with intents := o.intents ++ [⟨op, arg, false, false⟩] })

/-- What follows a change that is DONE (R612, R618): the answers, and the events. -/
def otpDone (s : State) (i : Intent) (old : Nat) : State :=
  let t := s.forEach s.boot.answers fun t a => t.respond a.1 a.2
  let t := t.onBoot fun b => { b with answers := [] }
  match i.op with
  | 1 => (t.raise 0x185 noInst (d8 old ++ d8 i.arg)).onBoot fun b => { b with resetAt := some (s.now + 192, 2) }
  | 2 => t.raise 0x189 noInst (d8 i.arg)
  | _ => t

/-- The next word of the first change that is not complete, while PWR_OK is high: ARMED, then the change and DONE (R615). -/
def otpStep (s : State) : State :=
  let o := s.boot.otp
  if ¬ s.boot.pwrOk then s
  else match o.intents.findIdx? (fun i => !i.done) with
  | none => s
  | some k =>
    match o.intents[k]? with
    | none => s
    | some i =>
      if ¬ i.armed then
        let t := s.onOtp fun o => { o with intents := o.intents.set k { i with armed := true } }
        if t.n O18.OTP_INTENTS_FREE < 8 then t.raise 0x18B noInst (d8 (t.n O18.OTP_INTENTS_FREE)) else t
      else
        let t := (s.programOtp i).onOtp fun o => { o with intents := o.intents.set k { i with done := true } }
        t.otpDone i (s.n O18.LC_STATE)

/-- A job that FW_UPDATE has started and not ended (R566, R623). -/
def fwJob (s : State) : Option Nat := s.jobOf O18.FW_UPDATE

/-- SERVICE_TOKEN verifies (R613). -/
def tokenOk (s : State) : Bool :=
  Config.ecdsaVerify (Config.romKey 4) (sha384 (s.serialBytes ++ bytesBE 1 (s.n O18.LC_COUNT) ++ txtService)) (s.bs O18.SERVICE_TOKEN)

/-- LC_TRANSITION (R611 to R613, R623): PENDING here means that the answer waits for the record. -/
def actLcTransition (s : State) (target : Nat) : State × Nat :=
  let lc := s.n O18.LC_STATE
  let allowed : Bool := match lc, target with
    | 1, 2 => s.b O19.ENROLLED
    | 2, 3 => true
    | 3, 2 => true
    | _, 4 => decide (1 ≤ lc ∧ lc ≤ 3)
    | _, _ => false
  if ¬ allowed then (s, CONFLICT)
  else if lc = 2 ∧ target = 3 ∧ ¬ s.tokenOk then (s, DENIED)
  else if s.fwJob.isSome ∨ s.boot.closing then (s, BUSY)
  else if 63 ≤ s.n O18.LC_COUNT ∧ target ≠ 4 then (s, NO_CAPACITY)
  else match s.otpChange 1 target with
  | none => (s, NO_CAPACITY)
  | some t => (t.onBoot fun b => { b with closing := true }, PENDING)

/-- FW_COMMIT (R618). -/
def actFwCommit (s : State) : State × Nat :=
  if s.n O18.TRIAL_STATE = 2 then (s, CONFLICT)
  else if imageSvn s.boot.image ≤ s.boot.otp.svn then (s, OK)
  else match s.otpChange 2 (imageSvn s.boot.image) with
  | none => (s, NO_CAPACITY)
  | some t => (t, PENDING)

/-- The slot that an update writes: the one that is not ACTIVE (R617). -/
def updateSlot (s : State) : Nat :=
  match s.pickRecord with
  | some (_, _, active, _) => 1 - active % 2
  | none => 1

/-- Write an image slot. -/
def setSlot (s : State) (slot : Nat) (img : List Byte) : State :=
  s.onBoot fun b => if slot = 0 then { b with slotA := img } else { b with slotB := img }

/-- FW_PHASE, which a reset keeps as far as the job goes on after it (R617). -/
def fwPhase (s : State) (p : Nat) : State := (s.setN O18.FW_PHASE p).onBoot fun b => { b with fw := p }

/-- FW_UPDATE starts: RECEIVE erases the slot (R617). -/
def startFwUpdate (s : State) (sess role : Nat) : State × Nat × Nat :=
  if s.n O18.TRIAL_STATE = 1 ∨ s.n O18.TRIAL_STATE = 2 then (s, CONFLICT, 0)
  else if s.boot.closing then (s, BUSY, 0)
  else
    let addr := match s.own sess O18.FW_HOST_ADDR with
      | some v => v.toNat
      | none => 0
    let r := s.startJob sess role O18.FW_UPDATE (.num 1) [addr]
    if r.2.1 = PENDING then ((r.1.fwPhase 1).setSlot s.updateSlot [], r.2) else r

/-- FW_UPDATE ends with a failure: the boot record is unchanged (R617). -/
def fwFail (s : State) (j status : Nat) : State := (s.fwPhase 0).endJob j status []

/-- The phase in progress of FW_UPDATE is complete (R617). -/
def fwJobEnd (s : State) (j : Nat) : State :=
  match s.job? j with
  | none => s
  | some x =>
    let slot := s.updateSlot
    let img := s.slotImage slot
    let arm (t : State) : State := t.fwPhase 4
    match s.n O18.FW_PHASE with
    | 1 =>
      let n := x.data.length
      if n < 272 ∨ 12583168 < n ∨ natBE (slice x.data 16 4) + 256 ≠ n then (s.setSlot slot x.data).fwFail j TYPE
      else (s.setSlot slot x.data).fwPhase 2
    | 2 =>
      match s.imageCheck img with
      | some (_, e) => s.fwFail j e
      | none => if s.member = .tmn9624 then s.fwPhase 3 else arm s
    | 3 =>
      if s.n O18.LC_STATE ≠ 2 then s.fwFail j DENIED
      else
        let r := s.exportRoot (measureImage img)
        if r.2 = OK then arm r.1 else r.1.fwFail j r.2
    | 4 =>
      let active := 1 - slot
      let t := (s.writeRecord active true 0).setN O18.TRIAL_STATE 1
      let t := ((t.setN O18.TRIAL_TRIES 0).raise 0x188 noInst (slice img 8 4)).fwPhase 0
      t.endJob j OK (slice img 8 4 ++ slice img 12 2 ++ zeros 2 ++ measureImage img)
    | _ => s

end State

/-- PORST_N rises: the straps are latched and the boot ROM's steps run (R599, R601, R603). -/
def execResetRelease (straps pins : Nat) (entropy powered : Bool) (s : State) : Host.Outcome State Fault Refusal :=
  .next (if s.phase = .inReset then { s with straps := straps % 16 }.bootRom pins entropy powered else s)

/-- PORST_N falls (R598, R620). -/
def execPorstNFall (s : State) : Host.Outcome State Fault Refusal := .next (s.resetDevice 1)

/-- The length of a recovery image is written: the checks of R607 run on the SRAM contents (R609). SRAM that nothing has written reads as
0 (log entry 16). -/
def execRcvLength (length : Nat) (s : State) : Host.Outcome State Fault Refusal :=
  live s fun s =>
    if s.phase = .rom ∧ s.boot.recovery then
      let n := min length 13107200
      let img := (List.range n).map fun i => SMap.getD s.bus.sram i 0
      match s.imageCheck img with
      | some (o, _) => s.onBoot fun b => { b with rcv := 3 + o * 256 }
      | none => ((s.onBoot fun b => { b with rcv := 2 }).imageChosen img 2).leave 0x181 2
    else s

/-- The LC_TRANSITION action (R611). -/
def execLcTransition (target : Nat) (s : State) : Host.Outcome State Fault Refusal :=
  live s fun s => if s.served then (s.actLcTransition target).1 else s

/-- The FW_UPDATE job starts (R617). -/
def execFwUpdate (sess : Nat) (s : State) : Host.Outcome State Fault Refusal :=
  live s fun s => if s.accepts then (s.startFwUpdate sess (s.n (O1C.SESS_ROLE sess))).1 else s

/-- The FW_COMMIT action (R618). -/
def execFwCommit (s : State) : Host.Outcome State Fault Refusal :=
  live s fun s => if s.served then s.actFwCommit.1 else s

/-- A tamper source during start-up, up to the first chain (R621). -/
def execTamperAtStartUp (pins : Nat) (s : State) : Host.Outcome State Fault Refusal :=
  live s fun s =>
    if s.phase = .running then s
    else
      let r := s.samplePins pins
      if r.2 = 0 then r.1 else r.1.zeroise.halt .tamperHold (s.boot.bootstat / 0x1000000) 6

/-- A tamper source in standby (R619, R622). -/
def execStandbyTamper (pins : Nat) (s : State) : Host.Outcome State Fault Refusal :=
  .next (if s.phase = .inReset then
      (let r := s.samplePins pins
       if r.2 = 0 then r.1 else r.1.zeroise.setB O18.STANDBY_TAMPER true)
    else s)

/-- PWR_OK falls or rises; step ROOT goes on where it waited (R598, R615). -/
def execPwrOkChange (high : Bool) (s : State) : Host.Outcome State Fault Refusal :=
  let t := s.onBoot fun b => { b with pwrOk := high }
  .next (if high ∧ s.phase = .rom ∧ s.boot.bootstat = 5 * 0x1000000 then t.fromRoot else t)

end Sys2Proof.Machine
end

