-- ==== Sys2Proof/Machine/Bus.lean ====
section
/-! DEFINITION. The control bus matrix: address map, connectivity, regions, arbitration, responses and freezes (chapter 19: R572 to
R597). -/

namespace Sys2Proof.Machine

/-- The targets that a master reads, and those that it writes: a bit for each of the targets 0 to 9 (R578). -/
def readsOf (m : Nat) : Nat :=
  if m < 4 then 0x3EF else if m = 4 then 0x0BB else if m = 5 then 0x1E2 else if m = 6 then 0x0E4
  else if m < 11 then 0x34E else if m = 11 then 0x104 else if m = 12 then 0x082 else 0x002
def writesOf (m : Nat) : Nat :=
  if m < 4 then 0x3EE else if m = 4 then 0x0BA else if m = 5 then 0x1A2 else if m = 6 then 0x0E0
  else if m < 11 then 0x34E else if m = 11 then 0x104 else if m = 12 then 0x002 else 0x002

/-- The pieces of a burst: at every 16 beats and every 4,096-byte boundary (R583). The first argument bounds their number. -/
def splitBurst : Nat → Nat → Nat → List (Nat × Nat)
  | 0, _, _ => []
  | f + 1, addr, beats =>
    if beats = 0 then []
    else
      let k := min (min beats 16) (max 1 ((4096 - addr % 4096) / 16))
      (addr, k) :: splitBurst f (addr + 16 * k) (beats - k)

/-- A burst that waits on a channel: its index, its master, its pieces, and since when the first waits. -/
structure Waiting where
  req : Nat
  master : Nat
  rank : Nat
  write : Bool
  pieces : List (Nat × Nat)
  since : Nat
  /-- Cycles for which a piece holds the channel beyond its beats (R584). -/
  hold : Nat
  deriving DecidableEq, Repr

/-- A grant: the request, the first bus cycle of the piece, its address and beats, the cycles it waited, and whether at rank 16. -/
structure Grant where
  req : Nat
  master : Nat
  write : Bool
  start : Nat
  addr : Nat
  beats : Nat
  wait : Nat
  aged : Bool
  deriving DecidableEq, Repr

/-- Each master's first waiting burst: its transactions to one target complete in issue order (R579). -/
def heads : List Nat → List Waiting → List Waiting
  | _, [] => []
  | seen, w :: l => if seen.contains w.master then heads seen l else w :: heads (w.master :: seen) l

/-- Distance of a master from the one last granted, in ascending index (R581). -/
def robin (park m : Nat) : Nat := (m + 14 - (park + 1) % 14) % 14

/-- `a` is granted before `b` in an arbitration of cycle `t` (R581). -/
def grantedBefore (age park t : Nat) (a b : Waiting) : Bool :=
  let ra := if age ≤ t - a.since then 16 else a.rank
  let rb := if age ≤ t - b.since then 16 else b.rank
  if ra ≠ rb then decide (rb < ra)
  else if ra = 16 ∧ a.since ≠ b.since then decide (a.since < b.since)
  else decide (robin park a.master < robin park b.master)

/-- The winner of an arbitration. -/
def winner (age park t : Nat) : List Waiting → Option Waiting
  | [] => none
  | w :: l =>
    match winner age park t l with
    | none => some w
    | some x => if grantedBefore age park t w x then some w else some x

/-- The grants of one channel: `free` is the first cycle in which it is idle, `park` the master last granted (R581 to R583). The first
argument bounds their number. -/
def arbitrate : Nat → Nat → Nat → Nat → List Waiting → List Grant
  | 0, _, _, _, _ => []
  | f + 1, age, free, park, l =>
    let hs := heads [] l
    match hs.map (·.since) with
    | [] => []
    | t :: ts =>
      let first := ts.foldl min t
      -- an idle channel grants its parked master at once, another master in the following cycle
      let now := if free ≤ first then first else free - 1
      let parked := if free ≤ first then hs.find? fun w => w.master == park && w.since == first else none
      match (match parked with | some w => some (w, first) | none => (winner age park now (hs.filter fun w => w.since ≤ now)).map fun w => (w, now + 1)) with
      | none => []
      | some (w, start) =>
        match w.pieces with
        | [] => arbitrate f age free park (l.filter (·.req != w.req))
        | (a, k) :: rest =>
          let g : Grant := ⟨w.req, w.master, w.write, start, a, k, start - w.since, decide (age ≤ now - w.since)⟩
          let next := start + k + w.hold
          let l' := if rest = [] then l.filter (·.req != w.req)
            else l.map fun x => if x.req = w.req then { x with pieces := rest, since := next } else x
          g :: arbitrate f age next w.master l'

namespace State

/-- Change the bus's own state. -/
def onBus (s : State) (f : BusSt → BusSt) : State := { s with bus := f s.bus }

/-- A master is frozen; of CUE, the engine (R588). -/
def frozen (s : State) (m e : Nat) : Bool :=
  if m = 12 then bit (((s.bs O17.FROZEN_ENGINES).getD (e / 8) 0).toNat) (e % 8) else s.n (O17.MASTER_STATE (0x100 + m)) == 1

/-- The target of a control address (R575, R576, R586, R593): 10 is DEFAULT. -/
def targetOf (s : State) (a : Nat) : Nat :=
  let inR (lo size : Nat) : Bool := decide (lo ≤ a ∧ a < lo + size)
  if inR 0 0x1000000 then (if s.b O17.REMAP then 1 else if a < 0x80000 then 0 else 10)
  else if inR 0x1000000 0x1000000 then 1
  else if inR 0x2000000 0x80000 then 0
  else if inR 0x100000000 (min 0x10000000 (max 134217728 Config.flashSize)) then 3
  else if inR 0x200000000 0x10000000 then 5
  else if inR 0x300000000 0x1000000 then 6
  else if inR 0x310000000 0x100000 then 7
  else if inR 0x400000000 0x1000000 then 4
  else if inR 0x500000000 0x100000 then 8
  else if inR 0x800000000 0x800000000 then 9
  else if inR 0x1000000000 s.fmSize then 2
  else 10

/-- A piece breaks a region: its master, its world, or a write (R580). -/
def breaksRegion (s : State) (m : Nat) (world write : Bool) (a target : Nat) : Bool :=
  s.bus.regions.any fun r => bit r.attr 0 && r.target == target && decide (r.base ≤ a ∧ a < r.base + r.size * 4096) &&
    (!(bit r.masters m) || (bit r.attr 1 && !world) || (write && !(bit r.attr 2)))

/-- The violation of a piece: 0 none, 1 UNCONNECTED, 2 REGION, 4 DECODE (R578, R580, R586, R595). -/
def pieceFault (s : State) (r : BusReq) (a : Nat) : Nat :=
  let t := s.targetOf a
  if t = 10 then 4
  else if ¬ bit (if r.write then writesOf r.master else readsOf r.master) t then 1
  else if s.breaksRegion r.master (r.world && r.master == 4) r.write a t then 2
  else 0

/-- What the key store says of a key use over the bus: KIND 3 for the master, world or usage check (R587, R638). -/
def keyFault (s : State) (r : BusReq) : Nat :=
  match r.key with
  | none => 0
  | some (h, usage) =>
    match s.handle? h with
    | none => 0
    | some x =>
      if ¬ bit (atMasters x.attrs) r.master ∨ (atWorld x.attrs = 1 ∧ ¬ (r.world ∧ r.master = 4)) ∨ ¬ bit (atUsage x.attrs) usage then 3 else 0

/-- LAST_VIOLATION and LAST_DECODE (R595). -/
def faultRecord (s : State) (m e a kind : Nat) : List Byte :=
  bytesBE 8 a ++ bytesBE 4 (s.tick64 % 0x100000000) ++ bytesBE 1 m ++ bytesBE 1 (if m = 12 then e else 0xFF) ++ bytesBE 1 kind ++
  bytesBE 1 (s.targetOf a)

/-- FROZEN_MASTERS (R594). -/
def countFrozen (s : State) : State :=
  s.setN O17.FROZEN_MASTERS ((List.range 14).foldl (fun a m =>
    if s.n (O17.MASTER_STATE (0x100 + m)) = 1 then a + 2 ^ m else a) 0)

/-- Set or clear the bit of a frozen engine (R594). -/
def markEngine (s : State) (e : Nat) (on : Bool) : State :=
  let l := padTo 16 (s.bs O17.FROZEN_ENGINES)
  let b := (l.getD (e / 8) 0).toNat
  let t := s.setBytes O17.FROZEN_ENGINES (l.set (e / 8) (BitVec.ofNat 8 (if on then setBits b (2 ^ (e % 8)) else clearBits b (2 ^ (e % 8)))))
  t.setN (O17.MASTER_STATE 0x10C) (if (t.bs O17.FROZEN_ENGINES).any (· != 0) then 1 else 0)

/-- An engine stops: its fades hold and its pending actions go (R496, R588). -/
def freezeEngine (s : State) (e : Nat) : State :=
  let t := (s.setN (O14.CE_STATE e) 2).flag (O14.CE_STATUS e) 32
  let level (k : Nat) : Nat := ((t.bs (O15.UNIV_LEVELS (k / 512))).getD (k % 512) 0).toNat
  let t := { t with cues := { t.cues with
    queue := t.cues.queue.filter fun a => a.engine != e
    predict := t.cues.predict.filter fun a => a.engine != e
    overrides := t.cues.overrides.map fun (o : Nat × Override) =>
      if o.2.engine = e ∧ ¬ (o.2.hold ∧ o.2.since + o.2.length ≤ t.now) then
        (o.1, { o.2 with start := level o.1, target := level o.1, length := 0, hold := true })
      else o } }
  (t.setN (O14.QUEUE_DEPTH e) 0).raise 0x144 e []

/-- A violation: it is recorded, and the matrix freezes the master (R587, R588). -/
def freeze (s : State) (m e a kind : Nat) : State :=
  let rec0 := s.faultRecord m e a kind
  let t := ((s.bump O17.VIOLATIONS 1).setBytes O17.LAST_VIOLATION rec0).flag O17.MATRIX_FLAGS 1
  let t := if m = 12 then t.markEngine e true else t.setN (O17.MASTER_STATE (0x100 + m)) 1
  let t := (t.bump (O17.FREEZE_COUNT (0x100 + m)) 1).countFrozen
  let t := if 7 ≤ m ∧ m < 11 then t.setN (O17.DMA_STATE (0x300 + (m - 7))) 2 else t
  let t := (t.raise 0x1F0 (0x100 + m) rec0).raise (0x170 + m) (0x100 + m) rec0
  if m = 12 then t.freezeEngine e else t

/-- A decode error (R586). -/
def decodeError (s : State) (m e a : Nat) : State :=
  let t := ((s.bump O17.DECODE_ERRORS 1).setBytes O17.LAST_DECODE (s.faultRecord m e a 4)).flag O17.MATRIX_FLAGS 2
  let n := t.bus.decodes.getD m 0 + 1
  let k := 0x1F1 * 0x10000 + (0x100 + m)
  let due : Bool := match SMap.find? t.evu.last k with
    | some l => decide (l + 192 ≤ t.now)
    | none => true
  if due then
    { t with evu := { t.evu with last := t.evu.last.put k t.now } }.raise 0x1F1 (0x100 + m) (d32 n)
      |>.onBus fun b => { b with decodes := b.decodes.del m }
  else t.onBus fun b => { b with decodes := b.decodes.put m n }

/-- The rank that a master's request carries to a target (R581): its MASTER_PRIO, or its QoS; TSEQ's is always 15. -/
def busRank (s : State) (r : BusReq) (target : Nat) : Nat :=
  if r.master = 6 then 15 else if r.master = 4 ∨ r.master = 5 then min r.qos 15
  else ((s.bs (O17.MASTER_PRIO (0x100 + r.master))).getD target 0).toNat

/-- The boot flash as programmed: the boot records and the image slots (R605). What it holds elsewhere is not laid out, or Neloas's own. -/
def flashByte (s : State) (o : Nat) : Option Byte :=
  if o < 0x10000 then s.boot.copy0[o]?
  else if o < 0x20000 then s.boot.copy1[o - 0x10000]?
  else if 0x1000000 ≤ o ∧ o < 0x2000000 then s.boot.slotA[o - 0x1000000]?
  else if 0x2000000 ≤ o ∧ o < 0x3000000 then s.boot.slotB[o - 0x2000000]?
  else none

/-- A byte of the mailbox (R537): the H2D slots, the D2H slots that the host has not freed, and the registers. What a freed D2H slot
holds is open (log entry 6). -/
def mailByte (s : State) (o : Nat) : Byte :=
  let r := s.mail
  let reg (n v : Nat) : Byte := (bytesLE 4 v).getD (o - n) 0
  if o < 0x40000 then SMap.getD s.bus.h2d o 0
  else if o < 0x80000 then
    let j := (o - 0x40000) / 16384
    match r.d2h[(j + 16 - r.d2hHead) % 16]? with
    | some m => m.getD (o % 16384) 0
    | none => BitVec.ofNat 8 (Config.openResult 16 [o])
  else if o < 0x80004 then reg 0x80000 r.h2dTail
  else if o < 0x80008 then reg 0x80004 r.h2dHead
  else if o < 0x8000C then reg 0x80008 r.d2hTail
  else if o < 0x80010 then reg 0x8000C r.d2hHead
  else if o < 0x80014 then reg 0x80010 r.status
  else 0

/-- A byte of the system region that Neloas lays out for itself: its copies of the chain banks and the journal, and its working state (R41,
R55). The staging extents are not of them (R186). -/
def inSystem (s : State) (a : Nat) : Bool := decide (a % stackBytes + 2097152 < systemShare s.member)

/-- Bytes of frame memory as the control bus reads them; what Neloas keeps in the system region is open (R41; log entry 36). -/
def hbmRead (s : State) (a k : Nat) : List Byte × State :=
  if (List.range k).any fun j => s.inSystem (a + j) then
    let d := s.drawBytes k
    (d.1.zipIdx.map fun e => if s.inSystem (a + e.2) then e.1 else s.fmByte (a + e.2), d.2)
  else (s.fmRead a k, s)

/-- The bytes of a target at a control address: frame memory, SRAM, the mailbox and the boot flash; what the other targets hold is
Neloas's own or the host's, and open (R574; log entry 5). -/
def busRead (s : State) (a k : Nat) : List Byte × State :=
  match s.targetOf a with
  | 1 => ((List.range k).map fun j => SMap.getD s.bus.sram ((a + j) % 0x1000000) 0, s)
  | 2 => s.hbmRead (a - 0x1000000000) k
  | 3 =>
    let d := s.drawBytes k
    (d.1.zipIdx.map fun e => (s.flashByte (a - 0x100000000 + e.2)).getD e.1, d.2)
  | 8 => ((List.range k).map fun j => s.mailByte (a - 0x500000000 + j), s)
  | _ => s.drawBytes k

/-- A write to a target: frame memory and SRAM hold it; what Neloas makes of a write elsewhere is the command it stands for. -/
def busWrite (s : State) (a : Nat) (d : List Byte) : State :=
  match s.targetOf a with
  | 1 => s.onBus fun b => { b with sram := (d.zipIdx).foldl (fun m e => SMap.setD m ((a + e.2) % 0x1000000) 0 e.1) b.sram }
  | 2 => s.fmWrite (a - 0x1000000000) d
  | _ => s

/-- What a grant changes in the counters of its master and target (R581, R582, R594). -/
def countGrant (s : State) (write : Bool) (target : Nat) (g : Grant) : State :=
  let m := 0x100 + g.master
  let t := ((s.bump (O17.GRANTS (0x200 + target)) 1).bumpPair (O17.BEATS (0x200 + target)) write g.beats).peak (O17.WAIT_MAX m) g.wait
  let t := if write then t.setN (O17.PARKED (0x200 + target)) g.master else t.onBus fun b => { b with park := b.park.put target g.master }
  if g.aged then ((t.bump (O17.AGED_GRANTS m) 1).flag O17.MATRIX_FLAGS 4).raiseLim 0x17F m [] 192000 else t

/-- The pieces of a request that reach its target, and the fault that ends it: kind and address (R583, R592). -/
def reach (s : State) (r : BusReq) : List (Nat × Nat) → List (Nat × Nat) × Option (Nat × Nat)
  | [] => ([], none)
  | (a, k) :: l =>
    if s.pieceFault r a ≠ 0 then
      -- a violation in a later piece of a burst that also has a decode error governs
      (match (l.map fun p => (s.pieceFault r p.1, p.1)).find? fun p => p.1 == 1 || p.1 == 2 with
       | some p => ([], some (if s.pieceFault r a = 4 then p else (s.pieceFault r a, a)))
       | none => ([], some (s.pieceFault r a, a)))
    else
      let q := s.reach r l
      ((a, k) :: q.1, q.2)

/-- A transaction completes with a response (R585): the counters of its master and target. -/
def busRespond (s : State) (r : BusReq) (resp : Nat) (d : List Byte) : State :=
  let m := 0x100 + r.master
  let t := s.bump (O17.TRANSACTIONS m) 1
  let t := if resp = 0 then t else (t.bump (O17.ERROR_RESPONSES m) 1).bump (O17.TARGET_ERRORS (0x200 + t.targetOf r.addr)) 1
  let t := if r.master = 4 ∨ r.master = 5 ∨ r.master = 6 then t.setN (O17.QOS_LAST m) (if r.master = 6 then 15 else min r.qos 15) else t
  t.emit (.bus r.master r.addr resp d)

/-- A violation, once a master is frozen (R588): its transactions that are not granted yet are discarded with ACCESS-ERROR. -/
def discardWaiting (s : State) (m e : Nat) : State :=
  let mine (w : BusWait) : Bool := w.req.master == m && (m != 12 || w.req.engine == e)
  let gone := s.bus.outside.filter mine
  let t := s.onBus fun b => { b with outside := b.outside.filter fun w => !(mine w) }
  t.forEach gone fun t w => t.busRespond w.req 3 []

/-- What a transaction moves: whole beats. -/
def moveBeats (r : BusReq) (s : State) (l : List (Nat × Nat)) : List Byte × State :=
  if r.write then ([], s.forEach l fun t p => t.busWrite p.1 (slice r.data (p.1 - r.addr) (16 * p.2)))
  else s.busRead r.addr (16 * r.beats)

/-- The bytes of frame memory that a transaction reads or writes: first, and number. -/
def hbmSpan (w : BusWait) : Nat × Nat :=
  match w.host with
  | some (o, len, _) => (o, len)
  | none => (w.req.addr - 0x1000000000, 16 * w.req.beats)

/-- What a transaction of the HBM target moves. -/
def moveHbm (s : State) (w : BusWait) : List Byte × State :=
  match w.host with
  | some (o, len, d) => if w.req.write then ([], s.fmWrite o d) else s.hbmRead o len
  | none => moveBeats w.req s (splitBurst 70 w.req.addr w.req.beats)

/-- A transaction meets a data word with a UE: any word that it reads, or one that it writes in part (R170). -/
def hbmBad (s : State) (w : BusWait) : Bool :=
  let p := hbmSpan w
  s.fmem.bad.any fun b => decide (b < p.1 + p.2 ∧ p.1 < b + 16) && (!w.req.write || decide (b < p.1 ∨ p.1 + p.2 < b + 16))

/-- The channels of the cells that a transaction reaches, one entry for each: a slot each (R175). -/
def hbmSlots (w : BusWait) : List Nat :=
  let p := hbmSpan w
  (List.range (ceilDiv (p.1 % 128 + p.2) 128)).map fun j => chanInst (p.1 / 128 * 128 + 128 * j)

/-- Slots of a channel that serve the control bus in a tick (R34, R54, R175, R180): those that no reservation holds or that stay idle, and the
scrub slots that scrub does not use. They are counted by tick (log entry 35). -/
def freeSlots (s : State) (c : Nat) : Nat :=
  let h := (c - 0x10) / 16
  let reserved := if s.running then s.n (O05.CHARGE_TICK h) - s.bus.idle.getD h 0 else 0
  let scrub := if s.b O05.SCRUB_ENABLE then ceilDiv 100 (max 1 (s.n O05.SCRUB_DIVIDER)) else 0
  (2400 - reserved) + (100 - scrub) - s.bus.used.getD c 0

/-- Unreserved slots are left for a transaction. -/
def hbmFits (s : State) (w : BusWait) : Bool :=
  let l := hbmSlots w
  l.eraseDups.all fun c => decide (l.count c ≤ s.freeSlots c)

/-- A transaction completes in the HBM target, in unreserved slots (R34, R170, R585, R588). -/
def hbmServe (s : State) (w : BusWait) : State × Nat :=
  let r := w.req
  let t := s.onBus fun b => { b with used := (hbmSlots w).foldl (fun m c => m.put c (m.getD c 0 + 1)) b.used }
  if s.clocks.hbmBypass ∨ r.fails ∨ s.hbmBad w then
    let resp := if s.frozen r.master r.engine then 3 else 1
    (s.busRespond r resp [], resp)
  else
    let u := (moveHbm t w).2.countCells r.ecc
    let resp := if s.frozen r.master r.engine then 3 else 0
    (u.busRespond r resp (if r.write ∨ resp ≠ 0 then [] else (moveHbm t w).1), resp)

/-- A transaction that cannot be granted to the HBM target: the target holds 64, or its master has 32 outstanding (R573, R584). -/
def hbmFull (s : State) (w : BusWait) : Bool :=
  decide (64 ≤ s.bus.inside.length) || decide (32 ≤ (s.bus.inside.filter (·.req.master == w.req.master)).length) ||
    s.bus.outside.any (·.req.master == w.req.master)

/-- A transaction enters the HBM target (R34, R584): it completes at once where unreserved slots are left and none waits before it; else it
waits inside the target, or for it. The response, 0 while it waits. -/
def hbmEnter (s : State) (w : BusWait) : State × Nat :=
  if s.clocks.hbmBypass ∨ (s.bus.inside = [] ∧ s.bus.outside = [] ∧ s.hbmFits w) then s.hbmServe w
  else if s.hbmFull w then (s.onBus fun b => { b with outside := b.outside ++ [w] }, 0)
  else (s.onBus fun b => { b with inside := b.inside ++ [w] }, 0)

/-- The endpoint logs a posted write that got an error response; a failed non-posted request is completed with Completer Abort (R590). -/
def hostDone (write : Bool) (r : State × Nat) : State :=
  if r.2 ≠ 0 ∧ write then r.1.onBus fun b => { b with aer := b.aer + 1 } else r.1

/-- The transactions that wait for the HBM target go on, oldest first (R34, R584, R592). -/
def hbmDrain (s : State) : State :=
  let l := s.bus.inside ++ s.bus.outside
  (s.onBus fun b => { b with inside := [], outside := [] }).forEach l fun t w => hostDone (w.req.write && w.host.isSome) (t.hbmEnter w)

/-- A tick's slots (R34): what the control bus had used goes, and what waited is served. -/
def hbmTick (s : State) : State := (s.onBus fun b => { b with used := [], idle := [] }).hbmDrain

/-- A transaction completes, or enters the HBM target (R585, R587, R588): its faults, and its response; `move` reads, or writes the granted
pieces. -/
def completeAs (s : State) (w : BusWait) (move : State → List (Nat × Nat) → List Byte × State) : State × Nat :=
  let r := w.req
  if s.frozen r.master r.engine then (s.busRespond r 3 [], 3)
  else if s.keyFault r = 3 then
    (((s.freeze r.master r.engine r.addr 3).discardWaiting r.master r.engine).busRespond r 3 [], 3)
  else
    let q := s.reach r (splitBurst 70 r.addr r.beats)
    let moved : State := if r.write then (move s q.1).2 else s
    match q.2 with
    | some (4, a) => ((moved.decodeError r.master r.engine a).busRespond r 2 [], 2)
    | some (kind, a) => (((moved.freeze r.master r.engine a kind).discardWaiting r.master r.engine).busRespond r 3 [], 3)
    | none =>
      if s.targetOf r.addr = 2 then s.hbmEnter w
      else if r.fails then (s.busRespond r 1 [], 1)
      else ((move s q.1).2.busRespond r 0 (if r.write then [] else (move s q.1).1), 0)

/-- A transaction of whole beats. -/
def completeReq (s : State) (r : BusReq) : State := (s.completeAs ⟨r, none⟩ (moveBeats r)).1

/-- The bursts of a channel in the order in which they are made. The flash takes one transaction at a time, so its reads and its writes stand in
one order, and a piece holds the channel until the flash completes it (R584; log entry 35). -/
def channelOf (s : State) (reqs : List BusReq) (target : Nat) (write : Bool) : List Waiting :=
  reqs.zipIdx.filterMap fun e =>
    let p := (s.reach e.1 (splitBurst 70 e.1.addr e.1.beats)).1
    let here := if target = 3 then !write else e.1.write == write
    if s.targetOf e.1.addr = target ∧ here ∧ ¬ s.frozen e.1.master e.1.engine ∧ p ≠ [] then
      some ⟨e.2, e.1.master, s.busRank e.1 target, e.1.write, p, e.1.made, if target = 3 then e.1.flash else 0⟩
    else none

/-- The grants of a channel (R581 to R583). -/
def channelGrants (s : State) (reqs : List BusReq) (target : Nat) (write : Bool) : List Grant :=
  arbitrate (70 * reqs.length) (s.n O17.AGE_LIMIT) 0
    (if write then s.n (O17.PARKED (0x200 + target)) else s.bus.park.getD target 0) (s.channelOf reqs target write)

/-- Transactions are arbitrated and granted on every channel (R581 to R583). -/
def busGrant (s : State) (l : List BusReq) : State :=
  s.forEach ((List.range 10).flatMap fun g => [(g, false), (g, true)]) fun t c =>
    t.forEach (s.channelGrants l c.1 c.2) fun t g => t.countGrant g.write c.1 g

/-- The bus cycle after the last beat that each request was granted; 0 where none was. -/
def grantEnds (s : State) (reqs : List BusReq) : SMap Nat :=
  ((List.range 10).flatMap fun g => s.channelGrants reqs g false ++ s.channelGrants reqs g true).foldl
    (fun m g => m.put g.req (max (m.getD g.req 0) (g.start + g.beats))) []

/-- A request takes its place among those that complete no later. -/
def byEnd (e : Nat × BusReq) : List (Nat × BusReq) → List (Nat × BusReq)
  | [] => [e]
  | x :: l => if e.1 < x.1 then e :: x :: l else x :: byEnd e l

/-- A request of a cue engine takes its place among those of its master: CUE presents them in ascending engine order (R581). -/
def byEngine (r : BusReq) : List BusReq → List BusReq
  | [] => [r]
  | x :: l => if r.master = 12 ∧ x.master = 12 ∧ r.made = x.made ∧ r.engine < x.engine then r :: x :: l else x :: byEngine r l

/-- Transactions are arbitrated and granted, and complete in the order in which their last beats were (R579, R581 to R588). -/
def busRun (s : State) (reqs : List BusReq) : State :=
  let l := (reqs.filter fun r => decide (r.master < 14 ∧ 1 ≤ r.beats ∧ r.beats ≤ 64)).foldl (fun a r => byEngine r a) []
  let ends := s.grantEnds l
  let order := l.zipIdx.foldl (fun a (e : BusReq × Nat) => byEnd (ends.getD e.2 0, e.1) a) []
  (s.busGrant l).forEach (order.map (·.2)) completeReq

/-- The progress of a CONFIG_IMPORT: items read, applied and left out, and batches applied, after the address (R568). -/
def importCount (x : JobSt) (i : Nat) : Nat := x.par.getD (1 + i) 0

/-- A CONFIG_IMPORT ends: JOB_RESULT, event 0x006 and the flags; `fail` is the index of the failing item, `refusal` LAST_REFUSAL of a
refusal with NO-CAPACITY (R568). -/
def importEnds (s : State) (j status fail refusal : Nat) : State :=
  match s.job? j with
  | none => s
  | some x =>
    let n := d32 (importCount x 0) ++ d32 (importCount x 1) ++ d32 (importCount x 2)
    let t := s.setBytes (O1B.JOB_RESULT j) (n ++ d16 (importCount x 3) ++ zeros 2 ++ d32 fail ++ d8 (if status = OK then 0 else status) ++
      d8 refusal ++ zeros 42)
    let t := t.flag O00.DEV_FLAGS ((if importCount x 2 = 0 then 0 else 2) + (if status = OK then 0 else 1))
    t.raise 0x006 noInst n

/-- What a job leaves in its unit when it ends (R186, R187, R270, R568, R617). -/
def unitJobEnds (s : State) (j status : Nat) : State :=
  match s.job? j with
  | none => s
  | some x =>
    let p := parOf x.obj
    match clsOf x.obj with
    | 0x00 => if x.obj = O00.CONFIG_IMPORT then s.importEnds j status 0xFFFFFFFF 0 else s
    | 0x05 => if p = 0x00C ∨ p = 0x00D then s.clipJobEnd x.obj status else if x.obj = O05.MEMTEST then s.testEnds else s
    | 0x09 => s.lutJobEnd (instOf x.obj)
    | 0x18 => s.fwPhase 0
    | _ => s

/-- A job ends without its work done, or with what its unit did (R545). -/
def stopJob (s : State) (j status : Nat) : State := (s.unitJobEnds j status).endJob j status []

/-- A batch of a job that applies a configuration is committed and not complete (R568). -/
def batchOpen (s : State) (j : Nat) : Bool :=
  (s.chain.cur.toList ++ s.chain.queue).any (fun x => decide (x.origin = .job j)) ||
  s.jrnl.todo.any fun e => match e.2 with
    | .done x => decide (x.origin = .job j)
    | _ => false

/-- SUSPEND and CANCEL take effect at a tick boundary at which no persistent write of the job is in progress (R545). -/
def jobBoundary (s : State) : State :=
  s.forEach s.jobs fun t e =>
    if t.jobWrites e.1 ∨ t.batchOpen e.1 then t
    else match e.2.ask with
      | 1 => if t.n (O1B.JOB_STATE e.1) = 2 then t.suspendJob e.1 else t
      | 3 => if t.n (O1B.JOB_STATE e.1) ≠ 4 then t.stopJob e.1 CANCELLED else t
      | _ => t

/-- Neloas serves Filulo: it runs, a control core and the object engine are not frozen (R588, R602). -/
def answers (s : State) : Bool := s.served && s.talks true

/-- UNFREEZE (R588, R589, R594). -/
def actUnfreeze (s : State) (v : Nat) : State × Nat :=
  let m := v / 256
  let e := v % 256
  if 13 < m ∨ (m ≠ 12 ∧ e ≠ 0) ∨ (m = 12 ∧ 127 < e ∧ e ≠ 0xFF) then (s, RANGE)
  else if s.spFrozen then (s, INTERNAL)
  else
    let es := if m ≠ 12 then [] else if e = 0xFF then (List.range 128).filter fun i => s.frozen 12 i
      else [e].filter fun i => s.frozen 12 i
    if (m = 12 ∧ es = []) ∨ (m ≠ 12 ∧ ¬ s.frozen m 0) then (s, CONFLICT)
    else
      let t := if m = 12 then s.forEach es fun t i =>
          ((t.markEngine i false).setN (O14.CE_STATE i) (if t.b (O14.CE_ENABLE i) then (if s.safeHold then 3 else 1) else 0)).raise 0x145 i []
        else s.setN (O17.MASTER_STATE (0x100 + m)) 0
      let t := if 7 ≤ m ∧ m < 11 then t.setN (O17.DMA_STATE (0x300 + (m - 7))) 0 else t
      (t.countFrozen.raise 0x17E (0x100 + m) (d8 e), OK)

/-- What an applied or refused MASTER_PRIO is held to (R594): 0 to 15, and CONFLICT for SP, OBJ and TSEQ. -/
def busItemOk (k : Key) (v : Val) : Bool :=
  parOf k != 1 || instOf k < 0x100 || (v.bytes.length == 11 && v.bytes.all fun b => decide (b.toNat ≤ 15))
def busConflict (k : Key) : Bool := parOf k == 1 && decide (0x104 ≤ instOf k ∧ instOf k ≤ 0x106)

/-- REGION_DESC (R580, R595). -/
def regionDesc (s : State) (i : Nat) : List Byte :=
  match s.bus.regions[i]? with
  | some r => bytesBE 8 r.base ++ bytesBE 4 r.size ++ bytesBE 2 r.masters ++ bytesBE 1 r.attr ++ bytesBE 1 r.target
  | none => zeros 16

/-- A DMA engine has moved bytes of a clip job (R186): into the staging extent, or out of it to the host or, for bulk transfer, to the SRAM
where it gathers until it is whole (R547). -/
def clipMove (s : State) (j : Nat) (x : JobSt) (data : List Byte) (bytes : Nat) : State :=
  let k := min bytes (s.clipRoom x)
  let r := s.clipStage x data bytes
  let host := x.par.headD 0
  let t := r.1.setJob j { x with done := x.done + k, data := if host = 0 then x.data ++ r.2 else x.data }
  if parOf x.obj = 0x00C ∨ k = 0 then t
  else if host ≠ 0 then t.emit (.media 0x50 0 ((host + x.done) :: r.2.map (·.toNat)))
  else if x.done + k < s.n (O05.CLIP_BYTES (instOf x.obj)) then t
  else t.offerJob j (x.data ++ r.2) (d32 (x.done + k) ++ d32 (s.n (O05.CLIP_DAMAGED (instOf x.obj))))

/-- A DMA engine has moved bytes of a clip or LUT job (R186, R270, R591). -/
def jobMoved (s : State) (job : Option Nat) (data : List Byte) (bytes : Nat) : State :=
  match job with
  | none => s
  | some j => match s.job? j with
    | some x =>
      if x.obj = O05.MEMTEST then s
      else if clsOf x.obj = 0x05 then (if s.n (O1B.JOB_STATE j) = 2 then s.clipMove j x data bytes else s)
      else if clsOf x.obj = 0x09 then s.setJob j { x with done := x.done + bytes }
      else s
    | none => s

/-- The host address of a job that names one; 0 for Filulo bulk (R577). -/
def jobHost (x : JobSt) : Nat := if [0x00, 0x05, 0x09, 0x11, 0x18].contains (clsOf x.obj) ∧ x.obj ≠ O05.MEMTEST then x.par.headD 0 else 0

/-- The outbound windows of a descriptor that reaches the host: windows 2 `dma` and, over a boundary of 2³² bytes, the next (R577; log entry
44). -/
def setWindows (s : State) (dma bytes : Nat) (job : Option Nat) : State :=
  match job.bind s.job? with
  | none => s
  | some x =>
    let a := jobHost x + x.done
    if jobHost x = 0 then s
    else s.onBus fun b => { b with out := (b.out.put (2 * dma) (a / 2 ^ 32 * 2 ^ 32)).put (2 * dma + 1) ((a + bytes - 1) / 2 ^ 32 * 2 ^ 32) }

/-- A descriptor moves bytes of a clip through the HBM window (R37). -/
def clipDma (s : State) (job : Option Nat) : Bool :=
  match job.bind s.job? with
  | some x => clsOf x.obj == 0x05
  | none => false

/-- A DMA engine gives up: the job it worked for ends with INTERNAL (R588, R591). -/
def dmaFails (s : State) (job : Option Nat) : State :=
  match job with
  | some j => if s.n (O1B.JOB_STATE j) = 2 then s.stopJob j INTERNAL else s
  | none => s

end State

/-- Masters issue transactions (R581). -/
def execControlBusRequest (reqs : List BusReq) (s : State) : Host.Outcome State Fault Refusal :=
  live s fun s => s.busRun reqs

/-- The UNFREEZE action (R589). -/
def execUnfreeze (value : Nat) (s : State) : Host.Outcome State Fault Refusal :=
  live s fun s => if s.served then (s.actUnfreeze value).1 else s

/-- A DMA engine completes or fails a descriptor: one retry, and then the job ends with INTERNAL (R588, R591). -/
def execDmaDescriptor (dma bytes : Nat) (data : List Byte) (job : Option Nat) (error : Bool) (s : State) : Host.Outcome State Fault Refusal :=
  live s fun s =>
    if 4 ≤ dma ∨ ¬ s.served ∨ bytes < 16 ∨ 16777216 < bytes then s
    else
      if s.frozen (7 + dma) 0 then s.dmaFails job
      else if ¬ error ∧ ¬ (s.clocks.hbmBypass ∧ s.clipDma job) then
        (((s.setWindows dma bytes job).bump (O17.DMA_BYTES (0x300 + dma)) bytes).jobMoved job data bytes).onBus fun b => { b with retry := b.retry.filter (· != dma) }
      else
        let t := s.bump (O17.DMA_ERRORS (0x300 + dma)) 1
        if t.bus.retry.contains dma then (t.onBus fun b => { b with retry := b.retry.filter (· != dma) }).dmaFails job
        else t.onBus fun b => { b with retry := dma :: b.retry }

end Sys2Proof.Machine
end

