-- ==== Sys2Proof/Machine/Cues.lean ====
section
/-! DEFINITION. Cue engines, lighting universes, DMX512-A ports, timecode and GPIO (chapter 16: R485 to R515). -/

namespace Sys2Proof.Machine

/-- Frames per second of the labels of a timecode rate (R514). -/
def tcBase (rate : Nat) : Nat := if rate = 0 then 24 else if rate = 1 then 25 else 30

/-- The exact frame rate of a timecode rate (R514). -/
def tcFrac (rate : Nat) : Nat × Nat :=
  if rate = 0 then (24, 1) else if rate = 1 then (25, 1) else if rate = 4 then (30, 1) else (30000, 1001)

/-- A label that the drop-frame count leaves out (R488). -/
def tcDropped (v : Nat) : Bool := decide (field v 15 8 = 0 ∧ field v 7 0 < 2 ∧ field v 23 16 % 10 ≠ 0)

/-- A timecode value of a rate (R488). -/
def tcOk (rate v : Nat) : Bool :=
  decide (v < 2 ^ 32 ∧ field v 31 24 ≤ 23 ∧ field v 23 16 ≤ 59 ∧ field v 15 8 ≤ 59 ∧ field v 7 0 < tcBase rate) && !(rate == 2 && tcDropped v)

/-- The label of a count of frames, without drop frames. -/
def tcPack (base n : Nat) : Nat :=
  n / (base * 3600) % 24 * 2 ^ 24 + n / (base * 60) % 60 * 2 ^ 16 + n / base % 60 * 256 + n % base

/-- The count of labels before a label, drop-frame labels counted as if they existed. -/
def tcCount (base v : Nat) : Nat := ((field v 31 24 * 60 + field v 23 16) * 60 + field v 15 8) * base + field v 7 0

/-- The drop-frame label of a frame count since midnight (R506). -/
def tcDropLabel (n : Nat) : Nat :=
  let m := n % 17982
  tcPack 30 (n + 18 * (n / 17982) + (if m < 2 then 0 else 2 * ((m - 2) / 1798)))

/-- The next value of a rate. -/
def tcNext (rate v : Nat) : Nat :=
  let b := tcBase rate
  let w := tcPack b ((tcCount b v + 1) % (b * 86400))
  if rate = 2 ∧ tcDropped w then w + 2 else w

/-- The value before. -/
def tcPrev (rate v : Nat) : Nat :=
  let b := tcBase rate
  let w := tcPack b ((tcCount b v + b * 86400 - 1) % (b * 86400))
  if rate = 2 ∧ tcDropped w then tcPack b ((tcCount b v + b * 86400 - 3) % (b * 86400)) else w

/-- The number in bytes `o` to `o + k − 1` of a record (R488). -/
def recN (r : List Byte) (o k : Nat) : Nat := natBE (slice r o k)

/-- Every byte from `a` up to `b` is 0. -/
def recZero (r : List Byte) (a b : Nat) : Bool := (slice r a (b - a)).all (· == 0)

/-- ENABLE, ONESHOT and NOTIFY of a record (R488). -/
def recEnabled (r : List Byte) : Bool := bit (recN r 1 1) 7
def recOneshot (r : List Byte) : Bool := bit (recN r 1 1) 6
def recNotify (r : List Byte) : Bool := bit (recN r 1 1) 5

/-- The level of an override in tick X + j (R500): half rounds away from 0. -/
def fadeLevel (s t : Int) (j n : Nat) : Nat :=
  if n = 0 then t.toNat
  else
    let a := (t - s) * (min j n : Nat)
    let q : Int := ((2 * a.natAbs + n) / (2 * n) : Nat)
    (s + (if a < 0 then -q else q)).toNat

/-- HTP: the values of those live sources that carry the highest priority (R497). -/
def mergeHtp (l : List (Nat × List Byte)) : List Byte :=
  let best := l.foldl (fun a e => max a e.1) 0
  let win := (l.filter fun e => e.1 == best).map fun e => e.2
  (List.range 512).map fun i => BitVec.ofNat 8 ((win.map fun x => (x.getD i 0).toNat).foldl max 0)

/-- Where the latches are empty. -/
def CueLatch.empty : CueLatch := ⟨[], [], [], []⟩

namespace State

/-- Change the cue state. -/
def onCues (s : State) (f : CueSt → CueSt) : State := { s with cues := f s.cues }

/-- Gather something that the next seam latches (R487). -/
def gather (s : State) (f : CueLatch → CueLatch) : State := s.onCues fun c => { c with gather := f c.gather }

/-- The records of an engine, in index order. -/
def recsOf (s : State) (e : Nat) : List (Nat × List Byte) :=
  (s.cues.recs.filter fun (q : Nat × List Byte) => q.1 / 1024 == e).map fun (q : Nat × List Byte) => (q.1 % 1024, q.2)

/-- A record, zeros where none is written. -/
def cueRec (s : State) (e i : Nat) : List Byte := s.cues.recs.getD (1024 * e + i) (zeros 64)

/-- The arguments of a trigger are in range, and unused bytes are 0 (R488 to R490). -/
def triggerOk (s : State) (r : List Byte) : Bool :=
  match recN r 0 1 with
  | 0 => recZero r 4 16
  | 1 => recZero r 12 16
  | 2 => decide (1 ≤ recN r 12 4 ∧ recN r 12 4 ≤ 11520000)
  | 3 => decide (recN r 4 1 < 8 ∧ recN r 5 1 < 2) && recZero r 6 8 && tcOk (s.n (O16.TC_RATE (recN r 4 1))) (recN r 8 4) && recZero r 12 16
  | 4 => decide (recN r 4 2 < 128 ∧ recN r 6 1 < 3) && recZero r 7 16
  | 5 => decide (recN r 4 2 < 1024 ∧ 1 ≤ recN r 6 2 ∧ recN r 6 2 ≤ 512 ∧ recN r 9 1 < 2) && recZero r 10 16
  | 6 => decide (recN r 4 2 < 0x1000) && recZero r 6 16
  | 7 => decide (recN r 4 2 < 1024) && recZero r 6 16
  | 8 => recZero r 4 16
  | _ => false

/-- The arguments of an action are in range, and unused bytes are 0 (R492). -/
def actionOk (s : State) (r : List Byte) : Bool :=
  match recN r 2 1 with
  | 0 => recZero r 40 64
  | 1 => recZero r 56 64
  | 2 => decide (recN r 40 2 < 256 ∧ recN r 44 4 ≠ 1 ∧ recN r 44 4 ≤ 11520000) && recZero r 42 44 && recZero r 48 64
  | 3 => decide (1 ≤ recN r 44 1 ∧ recN r 44 1 ≤ 8) && recZero r 45 48 && recZero r (48 + recN r 44 1) 64
  | 4 => decide (recN r 40 2 < 1024 ∧ 1 ≤ recN r 42 2 ∧ recN r 42 2 ≤ 512 ∧ 1 ≤ recN r 44 2 ∧ recN r 42 2 + recN r 44 2 ≤ 513 ∧
      recN r 47 1 < 2 ∧ recN r 48 4 ≤ 11520000) && recZero r 52 64
  | 5 => decide (recN r 40 2 < 128 ∧ recN r 42 1 < 3) && recZero r 43 44 && recZero r 48 64
  | 6 => decide (recN r 40 1 < 4 ∧ recN r 41 1 < 3) && recZero r 42 44 && recZero r 48 64 &&
      (if recN r 41 1 = 2 then tcOk (s.n (O16.GEN_RATE (0x010 + recN r 40 1))) (recN r 44 4) else recZero r 44 48)
  | _ => false

/-- A cue record that the device takes (R488 to R492). -/
def recOk (s : State) (r : List Byte) : Bool :=
  decide (r.length = 64 ∧ recN r 1 1 % 32 = 0 ∧ recN r 32 4 ≤ 11520000) && recZero r 3 4 && recZero r 36 40 && s.triggerOk r && s.actionOk r

/-- A record is armed (R489). -/
def armRec (s : State) (k : Nat) : State :=
  s.onCues fun c => { c with spent := c.spent.filter (· != k), armed := c.armed.put k s.tick64 }

/-- A staged record takes effect at its seam, armed (R489, R509). -/
def putRecord (s : State) (e i : Nat) (r : List Byte) : State :=
  let k := 1024 * e + i
  let t := (s.onCues fun c => { c with
    recs := c.recs.setD k (zeros 64) r
    predict := c.predict.filter fun p => !(p.engine == e && p.record == i) }).armRec k
  t.setN (O14.RECORDS_ENABLED e) ((t.recsOf e).filter fun (q : Nat × List Byte) => recEnabled q.2).length

/-- CUE_FIRE (R489). -/
def actCueFire (s : State) (e i : Nat) : State × Nat :=
  if 1024 ≤ i then (s, RANGE) else (s.gather fun g => { g with fires := (1024 * e + i) :: g.fires }, OK)

/-- CE_REARM (R489). -/
def actRearm (s : State) (e v : Nat) : State × Nat :=
  if v = 0xFFFF then (s.forEach (s.recsOf e) fun t (q : Nat × List Byte) => t.armRec (1024 * e + q.1), OK)
  else if 1024 ≤ v then (s, RANGE)
  else (s.armRec (1024 * e + v), OK)

/-- A write of CUE_FLAGS waits for the seam (R511). -/
def writeCueFlags (s : State) (e v : Nat) : State := s.onCues fun c => { c with flags := c.flags.put e v }

/-- An action ends in a status other than OK and PENDING (R495). -/
def actionFailed (s : State) (e i code status : Nat) : State :=
  if status = OK ∨ status = PENDING then s
  else
    let v := status * 2 ^ 24 + code * 2 ^ 16 + i
    (((s.bump (O14.ACTION_ERRORS e) 1).setN (O14.LAST_ERROR e) v).flag (O14.CE_STATUS e) 2).raiseLim 0x141 e (d32 v) 192000

/-- The output of a universe's slot, from 0 (R500). -/
def slotLevel (s : State) (u j : Nat) : Nat := ((s.bs (O15.UNIV_LEVELS u)).getD j 0).toNat

/-- FADE (R500). -/
def actFade (s : State) (e u first count target : Nat) (hold : Bool) (length : Nat) : State :=
  s.onCues fun c => { c with overrides := (List.range count).foldl (fun m j =>
    m.put (512 * u + (first - 1 + j)) ⟨e, s.slotLevel u (first - 1 + j), target, length, s.now, hold⟩) c.overrides }

/-- The level at a driven pin, after GPIO_INVERT, by its driver (R508). -/
def pinOut (s : State) (p v : Nat) : State :=
  s.emit (.media 0x17 (0x100 + p) [(v + s.n (O16.GPIO_INVERT (0x100 + p))) % 2, s.n (O16.GPIO_DRIVE (0x100 + p))])

/-- The level that a pin has or is about to have. -/
def pinLevel (s : State) (p : Nat) : Nat := s.cues.pins.getD p (s.n (O16.GPIO_LEVEL (0x100 + p)))

/-- A pin's level changes at the next swap strobe (R508). -/
def setPin (s : State) (p v : Nat) : State := s.onCues fun c => { c with pins := c.pins.put p v }

/-- The GPIO action (R492, R508, R509). -/
def actGpio (s : State) (p mode pulse : Nat) : State × Nat :=
  if s.n (O16.GPIO_MODE (0x100 + p)) ≠ 1 then (s, CONFLICT)
  else
    let old := s.pinLevel p
    let t := s.setPin p (if mode = 2 then 1 - old else mode)
    (t.onCues fun c => { c with pulses := if pulse = 0 then c.pulses.del p else c.pulses.put p (s.now + pulse, old) }, OK)

/-- GPIO_SET (R508). -/
def actGpioSet (s : State) (p v : Nat) : State × Nat :=
  if s.n (O16.GPIO_MODE (0x100 + p)) ≠ 1 then (s, CONFLICT) else ((s.setN (O16.GPIO_SET (0x100 + p)) v).setPin p v, OK)

/-- A generator's own state. -/
def gen (s : State) (g : Nat) : GenSt := s.cues.gens.getD g ⟨none, none, none, false, none⟩

/-- Change a generator's own state. -/
def setGen (s : State) (g : Nat) (x : GenSt) : State := s.onCues fun c => { c with gens := c.gens.put g x }

/-- The TIMECODE action (R492): it takes effect at the generator's next word start. -/
def actTimecode (s : State) (g mode v : Nat) : State :=
  if mode = 2 then s.setGen g { s.gen g with next := some v } else s.setB (O16.GEN_RUN (0x010 + g)) (mode == 1)

/-- FLAGS (R492). -/
def actFlags (s : State) (e set clear : Nat) : State :=
  s.setN (O14.CUE_FLAGS e) (setBits (clearBits (s.n (O14.CUE_FLAGS e)) clear) set)

/-- An action executes: it is counted, and CHAIN records of its engine see it in the next tick (R489, R493). -/
def ranAction (s : State) (e i : Nat) : State :=
  ((s.bump (O14.ACTIONS e) 1).gather fun g => { g with ran := (1024 * e + i) :: g.ran }).onCues fun c => { c with count := c.count.put e (c.count.getD e 0 + 1) }

/-- What a record's action does when it executes (R492, R495). -/
def runAction (s : State) (e i : Nat) (r : List Byte) : State :=
  let t := s.ranAction e i
  match recN r 2 1 with
  | 1 => t.actFlags e (recN r 40 8) (recN r 48 8)
  | 2 => t.onCues fun c => { c with salvos := c.salvos ++ [(e, i, recN r 40 2, s.tick64, recN r 44 4)] }
  | 3 => t.onCues fun c => { c with writes := c.writes ++ [(e, i, recN r 40 4, s.now, slice r 48 (recN r 44 1))] }
  | 4 => t.actFade e (recN r 40 2) (recN r 42 2) (recN r 44 2) (recN r 46 1) (recN r 47 1 == 0) (recN r 48 4)
  | 5 =>
    let q := t.actGpio (recN r 40 2) (recN r 42 1) (recN r 44 4)
    q.1.actionFailed e i 5 q.2
  | 6 => t.actTimecode (recN r 40 1) (recN r 41 1) (recN r 44 4)
  | _ => t

/-- QUEUE_DEPTH (R493). -/
def countQueue (s : State) (e : Nat) : State :=
  s.setN (O14.QUEUE_DEPTH e) (s.cues.queue.filter fun a => a.engine == e).length

/-- An action that is due is deferred: the engine has executed 64 in this tick (R493). -/
def deferAction (s : State) (e : Nat) : State :=
  ((s.bump (O14.DEFERRED e) 1).flag (O14.CE_STATUS e) 4).raiseLim 0x142 e [] 192000

/-- An action joins its engine's pending queue, or is lost (R493). -/
def queueAction (s : State) (a : CueAct) : State :=
  if 256 ≤ (s.cues.queue.filter fun b => b.engine == a.engine).length then
    ((s.bump (O14.QUEUE_DROPS a.engine) 1).flag (O14.CE_STATUS a.engine) 8).raise 0x143 a.engine (d16 a.record)
  else
    let before (b : CueAct) : Bool := decide (b.at_ < a.at_ ∨ (b.at_ = a.at_ ∧
      (b.engine < a.engine ∨ (b.engine = a.engine ∧ b.record ≤ a.record))))
    (s.onCues fun c => { c with queue := (c.queue.filter before) ++ a :: (c.queue.filter fun b => !before b) }).countQueue a.engine

/-- The engine's first due action in action order, among those of a record index range and execution tick (R493, R494). -/
def dueAction (s : State) (e : Nat) (p : CueAct → Bool) : Option CueAct :=
  s.cues.queue.find? fun a => a.engine == e && decide (a.at_ ≤ s.now) && p a

/-- A queued action executes. -/
def runQueued (s : State) (a : CueAct) : State :=
  ((s.onCues fun c => { c with queue := c.queue.erase a }).countQueue a.engine).runAction a.engine a.record a.bytes

/-- The due actions that `p` admits execute while the engine has executed fewer than 64 in this tick. The first argument bounds them. -/
def runDue : Nat → State → Nat → (CueAct → Bool) → State
  | 0, s, _, _ => s
  | f + 1, s, e, p =>
    if 64 ≤ s.cues.count.getD e 0 then s
    else
      match s.dueAction e p with
      | none => s
      | some a => runDue f (s.runQueued a) e p

/-- A record's trigger occurs in this tick (R489, R490). -/
def occurs (s : State) (e i : Nat) (r : List Byte) : Bool :=
  let c := s.cues
  let t := s.tick64
  let k := 1024 * e + i
  match recN r 0 1 with
  | 1 =>
    let a := recN r 4 8
    a == t || decide (c.seen.getD e 0 < a ∧ a < t ∧ c.armed.getD k 0 < a)
  | 2 => decide (recN r 4 8 ≤ t ∧ (t - recN r 4 8) % recN r 12 4 = 0)
  | 3 =>
    let target := recN r 8 4
    let mine := c.latch.words.filter fun (w : Nat × Option Nat × Nat × Bool) => w.1 == recN r 4 1
    if recN r 5 1 = 0 then
      c.predict.any (fun p => p.engine == e && p.record == i && !p.fired && decide (p.at_ ≤ s.now)) ||
      (mine.any (fun w => w.2.2.1 == target) && !(c.predict.any fun p => p.engine == e && p.record == i && p.fired))
    else mine.any fun w => w.2.2.2 && decide (target ≤ w.2.2.1) && (match w.2.1 with | some v => decide (v < target) | none => false)
  | 4 => c.latch.edges.any fun (w : Nat × Bool) => w.1 == recN r 4 2 && (recN r 6 1 == 2 || w.2 == (recN r 6 1 == 0))
  | 5 =>
    let j := recN r 6 2 - 1
    let u := recN r 4 2
    let old := ((c.was.getD u []).getD j 0).toNat
    let new := ((s.bs (O15.UNIV_MERGED u)).getD j 0).toNat
    let x := recN r 8 1
    if recN r 9 1 = 0 then decide (old < x ∧ x ≤ new) else decide (x ≤ old ∧ new < x)
  | 6 => s.evu.cue.contains (recN r 4 2)
  | 7 => c.latch.ran.contains (1024 * e + recN r 4 2)
  | 8 => c.latch.fires.contains k
  | _ => false

/-- A record fires (R488, R489, R493). -/
def fireRecord (s : State) (e i : Nat) (r : List Byte) : State :=
  let t := (s.bump (O14.FIRED e) 1).flag (O14.CE_STATUS e) 1
  let t := if recNotify r then t.raise 0x140 e (d16 i) else t
  let t := t.onCues fun c => { c with
    spent := if recOneshot r ∨ recN r 0 1 = 1 then (1024 * e + i) :: c.spent else c.spent
    predict := c.predict.map fun p => if p.engine = e ∧ p.record = i ∧ p.at_ ≤ t.now then { p with fired := true } else p }
  let a : CueAct := ⟨e, i, t.now + recN r 32 4, r, decide (recN r 32 4 = 0)⟩
  if recN r 32 4 = 0 then
    if t.cues.count.getD e 0 < 64 then t.runAction e i r else (t.deferAction e).queueAction a
  else t.queueAction a

/-- An engine evaluates a record (R486, R487, R491). Its pending actions of this tick come first (R494). -/
def evalRecord (s : State) (e : Nat) (q : Nat × List Byte) : State :=
  let t := runDue 256 s e fun a => decide (a.record ≤ q.1)
  if recEnabled q.2 ∧ ¬ s.cues.spent.contains (1024 * e + q.1) ∧ t.occurs e q.1 q.2 ∧
      t.n (O14.CUE_FLAGS e) &&& recN q.2 16 8 = recN q.2 24 8 then t.fireRecord e q.1 q.2
  else t

/-- Due actions left when an engine's tick ends are deferred, each counted once (R493). -/
def deferRest (s : State) (e : Nat) : State :=
  let l := s.cues.queue.filter fun a => a.engine == e && decide (a.at_ ≤ s.now) && !a.deferred
  let t := s.forEach l fun t _ => t.deferAction e
  t.onCues fun c => { c with queue := c.queue.map fun a => if a.engine = e ∧ a.at_ ≤ s.now then { a with deferred := true } else a }

/-- A fired prediction is done with once its reader has decoded a word that is neither the target nor the one before it. -/
def agePredictions (s : State) (e : Nat) : State :=
  s.onCues fun c => { c with predict := c.predict.filter fun p =>
    !(p.engine == e && p.fired && c.latch.words.any fun (w : Nat × Option Nat × Nat × Bool) =>
      w.1 == p.reader && w.2.2.1 != tcPrev (s.n (O16.TC_RATE p.reader)) p.target) }

/-- One engine's tick (R486 to R494). -/
def evalEngine (s : State) (e : Nat) : State :=
  let t := runDue 256 s e fun a => decide (a.at_ < s.now)
  let t := t.forEach (t.recsOf e) fun t q => t.evalRecord e q
  let t := ((runDue 256 t e fun _ => true).deferRest e).agePredictions e
  t.onCues fun c => { c with seen := c.seen.put e s.tick64 }

/-- Engines that have a record or a pending action. -/
def busyEngines (s : State) : List Nat :=
  (List.range 128).filter fun e => s.cues.recs.any (fun (q : Nat × List Byte) => q.1 / 1024 == e) || s.cues.queue.any fun a => a.engine == e

/-- The engines' evaluation in a tick (R486). An engine that is not running lets its AT_TICK records pass. -/
def cueTick (s : State) : State :=
  if s.safeHold then s
  else (s.onCues fun c => { c with count := [] }).forEach s.busyEngines fun t e =>
    if t.n (O14.CE_STATE e) = 1 then t.evalEngine e
    else t.onCues fun c => { c with seen := c.seen.put e t.tick64 }

/-- SAFE HOLD begins (R509). -/
def cuesHold (s : State) : State :=
  s.forEach (List.range 128) fun t e => if t.n (O14.CE_STATE e) = 1 then t.setN (O14.CE_STATE e) 3 else t

/-- The chain restarts (R509): triggers that occurred are not fired. -/
def cuesRestart (s : State) : State :=
  let t := s.forEach (List.range 128) fun t e => if t.n (O14.CE_STATE e) = 3 then t.setN (O14.CE_STATE e) 1 else t
  t.onCues fun c => { c with latch := .empty, predict := c.predict.filter fun p => decide (s.now < p.at_) }

/-- TICK64 has stepped: TIME-OF-DAY generators jump at their next word (R509). -/
def cuesStep (s : State) : State :=
  s.forEach (List.range 4) fun t g => t.setGen g { t.gen g with jump := true }

/-- Enabled universes. -/
def enabledUnivs (s : State) : List Nat :=
  (s.objs.filter fun e => clsOf e.1 == 0x15 && parOf e.1 == 0 && decide (instOf e.1 < 0x400) && e.2.toNat != 0).map fun e => instOf e.1

/-- The live sources of a universe: priority and slots (R497). -/
def liveSources (s : State) (u : Nat) : List (Nat × List Byte) :=
  let d := s.n (O15.UNIV_DMX_IN u)
  ((s.cues.sources.getD u []).map fun x => (x.priority, x.slots)) ++
    (if d < 32 ∧ s.n (O15.DMX_STATE (0x400 + d)) = 3 then [(s.n (O15.DMX_IN_PRIORITY u), (s.cues.dmxIn.getD d ⟨[], 0, 0⟩).slots)] else [])

/-- The overrides of a universe, by slot from 0. -/
def overridesOf (s : State) (u : Nat) : List (Nat × Override) :=
  (s.cues.overrides.filter fun (o : Nat × Override) => o.1 / 512 == u).map fun (o : Nat × Override) => (o.1 % 512, o.2)

/-- The output of a universe in the tick that follows the seam (R497, R499, R500). -/
def universeSeam (s : State) (u : Nat) : State :=
  let live := s.liveSources u
  let old := padTo 512 (s.bs (O15.UNIV_MERGED u))
  let merged := if live ≠ [] then mergeHtp live else if s.n (O15.UNIV_LOSS u) = 0 then old else zeros 512
  let state := if live = [] then 1 else 2
  let t := if s.n (O15.UNIV_STATE u) ≠ 1 ∧ state = 1 then (s.flag (O15.UNIV_FLAGS u) 4).raise 0x153 u [] else s
  let t := (((t.setN (O15.UNIV_STATE u) state).setN (O15.UNIV_SOURCES u) live.length).setN (O15.WINNING_PRIORITY u)
    (live.foldl (fun a e => max a e.1) 0)).setBytes (O15.UNIV_MERGED u) merged
  let j (o : Override) : Nat := s.now + 1 - o.since
  let level (q : Nat × Override) : Nat :=
    fadeLevel q.2.start (if q.2.hold then q.2.target else (merged.getD q.1 0).toNat) (j q.2) q.2.length
  let ov := s.overridesOf u
  let out := ov.foldl (fun l q => l.set q.1 (BitVec.ofNat 8 (level q))) merged
  let gone := ov.filter fun q => !q.2.hold && decide (q.2.length ≤ j q.2)
  let t := t.onCues fun c => { c with
    was := c.was.put u old
    overrides := gone.foldl (fun m q => m.del (512 * u + q.1)) c.overrides
    tx := if out = padTo 512 (s.bs (O15.UNIV_LEVELS u)) then c.tx else c.tx.map fun (x : Nat × SacnTx) =>
      if x.1 = u then (x.1, { x.2 with changed := s.now + 1 }) else x }
  (t.setBytes (O15.UNIV_LEVELS u) out).setN (O15.OVERRIDES u) (ov.length - gone.length)

/-- A disabled universe outputs 0 in every slot (R499). -/
def darken (s : State) (u : Nat) : State :=
  let t := ((((s.setN (O15.UNIV_STATE u) 0).setN (O15.UNIV_SOURCES u) 0).setN (O15.WINNING_PRIORITY u) 0).setBytes (O15.UNIV_MERGED u)
    (zeros 512)).setBytes (O15.UNIV_LEVELS u) (zeros 512)
  t.onCues fun c => { c with sources := c.sources.del u, was := c.was.del u }

/-- A pin drives a level from the swap strobe (R508). -/
def drivePin (s : State) (p v : Nat) : State :=
  if s.n (O16.GPIO_LEVEL (0x100 + p)) = v then s else (s.setN (O16.GPIO_LEVEL (0x100 + p)) v).pinOut p v

/-- The level of a tally output (R508). -/
def tallyLevel (s : State) (p : Nat) : Bool :=
  let b := s.bs (O16.TALLY_DESTS (0x100 + p))
  (List.range (b.length / 2)).any fun j => s.n (O08.CURRENT_SOURCE (natBE (slice b (2 * j) 2))) == s.n (O16.TALLY_SOURCE (0x100 + p))

/-- Pins that are tally outputs. -/
def tallyPins (s : State) : List Nat :=
  (s.objs.filter fun e => clsOf e.1 == 0x16 && parOf e.1 == 0 && decide (0x100 ≤ instOf e.1) && e.2.toNat == 2).map fun e => instOf e.1 - 0x100

/-- What the seam does for the engines, the lighting and the pins (R487, R497, R508). In SAFE HOLD overrides hold, and no pin changes. -/
def cueSeam (s : State) : State :=
  let t := s.forEach s.cues.flags fun t (e : Nat × Nat) => t.setN (O14.CUE_FLAGS e.1) e.2
  let t := t.onCues fun c => { c with flags := [], latch := c.gather, gather := .empty }
  if s.safeHold then
    t.onCues fun c => { c with overrides := c.overrides.map fun (o : Nat × Override) => (o.1, { o.2 with since := o.2.since + 1 }) }
  else
    let t := t.forEach t.enabledUnivs universeSeam
    let t := (t.forEach t.cues.pins fun t (e : Nat × Nat) => t.drivePin e.1 e.2).onCues fun c => { c with pins := [] }
    t.forEach t.tallyPins fun t p => t.drivePin p (t.tallyLevel p).toNat

/-- The reader's predictions are cancelled (R490). -/
def cancelPredictions (s : State) (r : Nat) : State :=
  let l := s.cues.predict.filter fun p => p.reader == r && !p.fired
  let t := s.forEach l fun t p => (t.flag (O14.CE_STATUS p.engine) 16).raise 0x146 p.engine (d16 p.record)
  t.onCues fun c => { c with predict := c.predict.filter fun p => p.reader != r || p.fired }

/-- A reader's own state. -/
def reader (s : State) (r : Nat) : ReaderSt := s.cues.readers.getD r ⟨0, none, 0, 0, 0, 0, 0⟩

/-- Change a reader's own state. -/
def setReader (s : State) (r : Nat) (x : ReaderSt) : State := s.onCues fun c => { c with readers := c.readers.put r x }

/-- A word that is two before the target of an EXACT record predicts its firing (R490). -/
def predictWord (s : State) (r v start interval : Nat) (speed : Int) : State :=
  if s.n (O16.TC_STATE r) = 2 ∧ 9900 ≤ speed ∧ speed ≤ 10100 ∧ interval ≠ 0 then
    let rate := s.n (O16.TC_RATE r)
    let target := tcNext rate (tcNext rate v)
    let l := s.cues.recs.filter fun (q : Nat × List Byte) =>
      recEnabled q.2 && recN q.2 0 1 == 3 && recN q.2 4 1 == r && recN q.2 5 1 == 0 && recN q.2 8 4 == target &&
        s.n (O14.CE_STATE (q.1 / 1024)) == 1 && !(s.cues.spent.contains q.1)
    s.forEach l fun t q => t.onCues fun c => { c with
      predict := (c.predict.filter fun p => !(p.engine == q.1 / 1024 && p.record == q.1 % 1024)) ++
        [⟨q.1 / 1024, q.1 % 1024, r, target, start + 2 * interval, false⟩] }
  else s

/-- A valid word is decoded (R490, R505). -/
def timecodeWord (s : State) (r rate v user bits age : Nat) (speed : Int) : State :=
  let st := s.n (O16.TC_STATE r)
  if st = 0 ∨ ¬ tcOk rate v then s
  else
    let x := s.reader r
    let back := bit bits 2
    let step (u : Nat) : Bool := (if back then tcPrev rate u else tcNext rate u) == v
    let run := if (x.last.map step).getD false then x.run + 1 else 1
    let start := s.now - age
    let interval := if x.last = none then 0 else start - x.start
    let held := s.n (O16.TC_VALUE r)
    let t := s.setReader r ⟨run, some v, start, interval, 0, s.now, s.now⟩
    let t := ((((t.setN (O16.TC_VALUE r) v).setN (O16.TC_USER r) user).setN (O16.TC_TICK r) ((s.tick64 + 2 ^ 64 - age) % 2 ^ 64)).setZ 32
      (O16.TC_SPEED r) speed).setN (O16.TC_BITS r) bits
    let t := t.gather fun g => { g with words := g.words ++ [(r, x.last, v, !back)] }
    let t := if st = 1 then
        if 3 ≤ run ∧ rate = s.n (O16.TC_RATE r) then (t.setN (O16.TC_STATE r) 2).raise 0x160 r [] else t
      else if step held then t.setN (O16.TC_STATE r) 2
      else ((t.setN (O16.TC_STATE r) 2).flag (O16.TC_FLAGS r) 4).raise 0x163 r []
    if back then t else t.predictWord r v start interval speed

/-- A reader loses its source (R505). -/
def readerLost (s : State) (r st : Nat) : State :=
  let was := s.n (O16.TC_STATE r)
  let t := (s.setN (O16.TC_STATE r) st).setReader r { s.reader r with run := 0, last := none, missed := 0 }
  if was = 2 ∨ was = 3 then ((t.flag (O16.TC_FLAGS r) 1).raise 0x162 r []).cancelPredictions r else t

/-- The word period of a reader in ticks, as a fraction: as last measured, or the nominal one (log entry 43). -/
def wordPeriod (s : State) (r : Nat) : Nat × Nat :=
  let x := s.reader r
  let q := tcFrac (s.n (O16.TC_RATE r))
  if x.interval = 0 then (192000 * q.2, q.1) else (x.interval, 1)

/-- A word period has passed without a valid word: in LOCKED the first 1.5 of them, then each further one (R505). -/
def wordMissed (s : State) (r : Nat) : Bool :=
  let x := s.reader r
  let p := s.wordPeriod r
  let n := if s.n (O16.TC_STATE r) = 2 then 3 else 5 + 2 * x.missed
  decide (n * p.1 ≤ 2 * (s.now - x.valid) * p.2)

/-- A word period passes without a valid word (R505): in LOCKED, the first 1.5 of them. -/
def freewheel (s : State) (r : Nat) : State :=
  let st := s.n (O16.TC_STATE r)
  if (st ≠ 2 ∧ st ≠ 3) ∨ ¬ s.wordMissed r then s
  else
    let x := s.reader r
    let rate := s.n (O16.TC_RATE r)
    let v := if bit (s.n (O16.TC_BITS r)) 2 then tcPrev rate (s.n (O16.TC_VALUE r)) else tcNext rate (s.n (O16.TC_VALUE r))
    let missed := if st = 2 then 0 else x.missed + 1
    let t := (s.setN (O16.TC_VALUE r) v).setReader r { x with missed := missed }
    let t := if st = 2 then (((t.setN (O16.TC_STATE r) 3).flag (O16.TC_FLAGS r) 2).raise 0x161 r []).cancelPredictions r else t
    if s.n (O16.FREEWHEEL_FRAMES r) ≤ missed then t.readerLost r 1 else t

/-- GEN_STATE changes (R506). -/
def setGenState (s : State) (g st : Nat) : State :=
  if s.n (O16.GEN_STATE (0x010 + g)) = st then s else (s.setN (O16.GEN_STATE (0x010 + g)) st).raise 0x164 (0x010 + g) (d8 st)

/-- A generator sends a word. -/
def genSend (s : State) (g v : Nat) : State :=
  ((s.setN (O16.GEN_VALUE (0x010 + g)) v).setGenState g 2).emit (.media 0x16 (0x010 + g) [v, s.n (O16.GEN_USER (0x010 + g))])

/-- The VTS frame that a generator's word starts at in the present tick: GEN_OFFSET after it or before it, on every frame, every second or
every fourth of the VTS (R506). -/
def wordHere (s : State) (g : Nat) : Bool :=
  let i := 0x010 + g
  let y := s.n (O16.GEN_VTS i)
  let x := s.synth y
  let q := s.synthRate y
  let per := s.synthPeriod y
  let b := tcFrac (s.n (O16.GEN_RATE i))
  let p := x.pos - s.z 32 (O16.GEN_OFFSET i) * (1000 * psUnits) * q.1
  match x.index with
  | none => false
  | some n => decide (Int.emod p per < (units + x.corr) * q.1 ∧ ((n : Int) + Int.fdiv p per) % (q.1 * b.2 / (b.1 * q.2) : Nat) = 0)

/-- Ticks of the local time of day and the day at the end of the tick in which a generator's word starts (R506, R507; log entry 43). -/
def genTime (s : State) (g : Nat) : Int :=
  ((s.tick64 + 1 : Nat) : Int) - s.utcOffset.1 * 192000 + s.z 16 (O16.GEN_TZ (0x010 + g)) * 11520000

/-- The TIME-OF-DAY value of a tick of the day (R506). -/
def todValue (rate d : Nat) : Nat :=
  if rate = 2 ∨ rate = 3 then tcDropLabel (d * 30000 / (1001 * 192000) % 2589408)
  else tcPack (tcBase rate) (d / 192000 * tcBase rate + d % 192000 * tcBase rate / 192000)

/-- A word starts at a generator's VTS frame (R506, R507, R509). -/
def genWord (s : State) (g : Nat) : State :=
  let i := 0x010 + g
  let x := { s.gen g with sent := some s.now }
  let rate := s.n (O16.GEN_RATE i)
  match s.n (O16.GEN_MODE i) with
  | 1 =>
    let v := x.next.getD (s.n (O16.GEN_PRESET i))
    if s.b (O16.GEN_RUN i) then (s.setGen g { x with next := some (tcNext rate v) }).genSend g v else (s.setGen g x).setGenState g 1
  | 2 =>
    let off := s.utcOffset.1
    let z := s.genTime g
    let day := Int.fdiv z 16588800000
    let changed : Bool := match x.off with
      | some o => o != off
      | none => false
    let midnight : Bool := rate == 2 && (match x.day with
      | some d => d != day
      | none => false)
    if ¬ s.b O01.TIME_VALID then (s.setGen g x).setGenState g 3
    else
      let t := s.setGen g { x with off := some off, day := some day, jump := false }
      let t := if changed ∨ midnight ∨ x.jump then t.raise 0x165 i [] else t
      t.genSend g (todValue rate (Int.fmod z 16588800000).toNat)
  | 3 =>
    let r := s.n (O16.GEN_FOLLOW i)
    let t := s.setGen g x
    if 2 ≤ s.n (O16.TC_STATE r) then t.genSend g (tcNext (s.n (O16.TC_RATE r)) (s.n (O16.TC_VALUE r))) else t.setGenState g 1
  | _ => s

/-- The discovery table (R502): an entry as DISC_ENTRY reads it. -/
def discEntry (x : DiscEnt) : List Byte :=
  let l := x.pages.flatMap fun (p : Nat × List Nat) => p.2
  x.cid ++ padTo 64 x.name ++ bytesBE 2 l.length ++ (l.take 471).flatMap d16

/-- A discovery packet fills the table (R502). -/
def discoveryPacket (s : State) (p : SacnPkt) : State :=
  let l := s.cues.disc
  let put (x : DiscEnt) : DiscEnt := { x with
    name := p.name, heard := s.now, pages := SMap.put (x.pages.filter fun (q : Nat × List Nat) => decide (q.1 ≤ p.last)) p.page p.list }
  let t := if l.any fun x => x.cid == p.cid then
      s.onCues fun c => { c with disc := l.map fun x => if x.cid = p.cid then put x else x }
    else if 256 ≤ l.length then s.raise 0x157 noInst []
    else s.onCues fun c => { c with disc := l ++ [put ⟨p.cid, p.name, [], s.now⟩] }
  t.setN O15.DISC_COUNT t.cues.disc.length

/-- The sACN unit takes a packet (R498). -/
def sacnPacket (s : State) (p : SacnPkt) : State :=
  let bad := !p.wellFormed || (!p.discovery && (p.preview || p.startCode != 0 || decide (200 < p.priority)))
  if p.discovery ∧ ¬ bad then (if p.cid = s.bs O15.SACN_CID then s else s.discoveryPacket p)
  else
    match s.enabledUnivs.find? fun u => s.n (O15.UNIV_NUMBER u) == p.number with
    | none => s
    | some u =>
      if bad then (s.bump (O15.PKTS_DISCARDED u) 1).flag (O15.UNIV_FLAGS u) 8
      else if p.cid = s.bs O15.SACN_CID then s
      else
        let l := s.cues.sources.getD u []
        let mine := l.find? fun x => x.cid == p.cid
        let d : Int := match mine with
          | some x => signed 8 (p.seq + 256 - x.seq % 256)
          | none => 1
        let keep (l : List SacnSrc) : State := s.onCues fun c => { c with sources := c.sources.put u l }
        let others := l.filter fun x => x.cid != p.cid
        if -20 ≤ d ∧ d ≤ 0 then s.flag (O15.UNIV_FLAGS u) 16
        else if mine = none ∧ 8 ≤ l.length then (s.flag (O15.UNIV_FLAGS u) 32).raise 0x152 u []
        else if p.terminated then keep others
        else
          let t := (keep (others ++ [⟨p.cid, p.priority, p.slots.take 512, p.seq % 256, s.now⟩])).bump (O15.PKTS_IN u) 1
          if mine = none then (t.flag (O15.UNIV_FLAGS u) 1).raise 0x150 u (p.cid) else t

/-- A universe transmits (R501). -/
def univSends (s : State) (u : Nat) : Bool := s.b (O15.UNIV_ENABLE u) && s.n (O15.UNIV_TX_SENDER u) != 0xFFFF

/-- FP62 gives a DATA sender a UDP payload (R363, R396). -/
def dataUnit (s : State) (sender : Nat) (b : List Byte) : State :=
  { s with net := { s.net with units := s.net.units.put sender (s.net.units.getD sender [] ++ [b]) } }

/-- A universe's E1.31 packet leaves (R501): the sender, UNIV_NUMBER, the sequence number, TX_PRIORITY, Stream_Terminated and the slots. -/
def sacnSend (s : State) (u : Nat) (x : SacnTx) (term : Bool) : State :=
  let y : SacnTx := { x with seq := (x.seq + 1) % 256, sent := s.now, term := x.term - term.toNat }
  let t := s.onCues fun c => { c with tx := if term ∧ x.term ≤ 1 ∧ ¬ s.univSends u then c.tx.del u else c.tx.put u y }
  let slots := padTo (s.n (O15.UNIV_SLOTS u)) (s.bs (O15.UNIV_LEVELS u))
  let t := t.dataUnit x.sender (e131Data (s.bs O15.SACN_CID) (s.bs O15.SACN_NAME) (s.n (O15.TX_PRIORITY u)) x.seq term (s.n (O15.UNIV_NUMBER u)) slots)
  (t.bump (O15.PKTS_OUT u) 1).emit (.media 0x15 u ([x.sender, s.n (O15.UNIV_NUMBER u), x.seq, s.n (O15.TX_PRIORITY u), term.toNat] ++
    slots.map BitVec.toNat))

/-- A packet of a universe is due (R501). -/
def sacnTransmit (s : State) (u : Nat) : State :=
  match SMap.find? s.cues.tx u with
  | none => s
  | some x =>
    let grid : Bool := decide (s.tick64 % s.n (O15.TX_PERIOD u) = 0)
    if s.n (O0D.SEND_STATE x.sender) ≠ 2 then s
    else if 0 < x.term then (if grid ∧ x.sent ≠ s.now then s.sacnSend u x true else s)
    else if (grid ∧ x.sent ≠ s.now ∧ s.now < x.changed + 3 * s.n (O15.TX_PERIOD u)) ∨ x.sent + 172800 ≤ s.now then s.sacnSend u x false
    else s

/-- The pages of the discovery packets (R502). The first argument bounds them. -/
def discPages : Nat → List Nat → List (List Nat)
  | 0, _ => []
  | f + 1, l => l.take 512 :: (if l.length ≤ 512 then [] else discPages f (l.drop 512))

/-- Ascending order by insertion. -/
def insertAsc (n : Nat) : List Nat → List Nat
  | [] => [n]
  | m :: l => if n ≤ m then n :: m :: l else m :: insertAsc n l

/-- Universe-discovery packets (R502). -/
def discoverySend (s : State) : State :=
  let snd := s.n O15.DISC_SENDER
  let due : Bool := match s.cues.discAt with
    | some t => decide (t + 1920000 ≤ s.now)
    | none => true
  if snd = 0xFFFF ∨ s.n (O0D.SEND_STATE snd) ≠ 2 ∨ ¬ due then s
  else
    let l := (((s.enabledUnivs.filter s.univSends).map fun u => s.n (O15.UNIV_NUMBER u)).foldr insertAsc [])
    let pages := discPages 2 l
    (s.forEach (pages.zipIdx) fun t q => (t.dataUnit snd (e131Discovery (s.bs O15.SACN_CID) (s.bs O15.SACN_NAME) q.2 (pages.length - 1) q.1)).emit (.media 0x15 0x500 ([snd, q.2, pages.length - 1] ++ q.1))).onCues fun c => { c with discAt := some s.now }

/-- A universe's transmission follows its objects (R501). -/
def univTxApplied (s : State) (u : Nat) : State :=
  match s.univSends u, SMap.find? s.cues.tx u with
  | true, none => s.onCues fun c => { c with tx := c.tx.put u ⟨0, s.now + 1, s.now, 0, s.n (O15.UNIV_TX_SENDER u)⟩ }
  | true, some x => s.onCues fun c => { c with tx := c.tx.put u { x with term := 0, sender := s.n (O15.UNIV_TX_SENDER u) } }
  | false, some x => s.onCues fun c => { c with tx := c.tx.put u { x with term := 3 } }
  | false, none => s

/-- What an applied transaction changes in class 14 beside CE_REC (R486, R511). -/
def engineApplied (s : State) (k : Key) : State :=
  let e := instOf k
  if parOf k ≠ 0 ∨ s.n (O14.CE_STATE e) = 2 then s
  else s.setN (O14.CE_STATE e) (if s.b (O14.CE_ENABLE e) then (if s.safeHold then 3 else 1) else 0)

/-- What an applied transaction changes in class 15 (R497, R499, R501, R503, R504). -/
def lightApplied (s : State) (k : Key) : State :=
  let i := instOf k
  if i < 0x400 then
    let t := if parOf k = 0 ∧ ¬ s.b (O15.UNIV_ENABLE i) then s.darken i else s
    if parOf k = 0 ∨ parOf k = 6 then t.univTxApplied i else t
  else if i < 0x420 ∧ parOf k = 0 then
    let t := s.onCues fun c => { c with dmxIn := c.dmxIn.del (i - 0x400) }
    t.setN (O15.DMX_STATE i) (s.n (O15.DMX_MODE i))
  else s

/-- What an applied transaction changes in class 16 (R505, R506, R508). -/
def showApplied (s : State) (k : Key) : State :=
  let i := instOf k
  if i < 8 then (if parOf k = 0 ∧ ¬ s.b (O16.TC_ENABLE i) then (s.setN (O16.TC_STATE i) 0).cancelPredictions i else s)
  else if i < 0x014 then
    let g := i - 0x010
    if parOf k = 0 then
      let t := s.setGen g ⟨none, none, none, false, none⟩
      t.setGenState g (match s.n (O16.GEN_MODE i) with
        | 0 => 0
        | 2 => if s.b O01.TIME_VALID then 1 else 3
        | _ => 1)
    else if parOf k = 4 then s.setGen g { s.gen g with next := none } else s
  else if 0x100 ≤ i ∧ parOf k = 0 then
    let p := i - 0x100
    let t := s.onCues fun c => { c with pins := c.pins.del p, pulses := c.pulses.del p, accepted := c.accepted.put p s.now }
    match s.n (O16.GPIO_MODE i) with
    | 1 => (t.setN (O16.GPIO_LEVEL i) (s.n (O16.GPIO_SET i))).pinOut p (s.n (O16.GPIO_SET i))
    | 2 => (t.setN (O16.GPIO_LEVEL i) (s.tallyLevel p).toNat).pinOut p (s.tallyLevel p).toNat
    | _ => t.emit (.media 0x17 i [2, 0])
  else if 0x100 ≤ i ∧ parOf k ≤ 2 ∧ s.n (O16.GPIO_MODE i) ≠ 0 then s.pinOut (i - 0x100) (s.n (O16.GPIO_LEVEL i))
  else s

/-- Applied transactions of classes 14 to 16. -/
def cuesApplied (s : State) (k : Key) : State :=
  if clsOf k = 0x14 then s.engineApplied k else if clsOf k = 0x15 then s.lightApplied k else if clsOf k = 0x16 then s.showApplied k else s

/-- Value checks of classes 14 to 16 beyond a row's range (R488, R508, R512, R513). A staged CE_REC carries its index in two bytes. -/
def cueItemOk (s : State) (k : Key) (v : Val) : Bool :=
  if clsOf k = 0x14 ∧ parOf k = 3 then s.recOk (v.bytes.drop 2)
  else if clsOf k = 0x16 ∧ 0x100 ≤ instOf k ∧ parOf k = 7 then
    decide (v.bytes.length % 2 = 0) && (List.range (v.bytes.length / 2)).all fun j =>
      let d := natBE (slice v.bytes (2 * j) 2)
      decide (d < 0x900) && s.present 0x08 d
  else if clsOf k = 0x16 ∧ instOf k < 8 ∧ parOf k = 1 then s.present 0x06 v.toNat
  else if clsOf k = 0x15 ∧ 0x500 ≤ instOf k ∧ parOf k = 0 then v.bytes.length == 16
  else true

/-- A named sender is a DATA sender (R512). -/
def dataSender (t : State) (i : Nat) : Bool := i == 0xFFFF || (t.present 0x0D i && t.n (O0D.ESSENCE i) == 5)

/-- Cross-object ranges of classes 14 to 16 (R512, R513). -/
def cueRange (t : State) (k : Key) : Bool :=
  let i := instOf k
  if clsOf k = 0x15 then
    if i < 0x400 then (parOf k != 6 || t.dataSender (t.n (O15.UNIV_TX_SENDER i)))
    else if i < 0x420 then decide (t.n (O15.DMX_PHASE i) < t.n (O15.DMX_PERIOD i))
    else parOf k != 2 || t.dataSender (t.n O15.DISC_SENDER)
  else if clsOf k = 0x16 ∧ 0x010 ≤ i ∧ i < 0x014 then
    let q := tcFrac (t.n (O16.GEN_RATE i))
    tcOk (t.n (O16.GEN_RATE i)) (t.n (O16.GEN_PRESET i)) && decide ((t.z 32 (O16.GEN_OFFSET i)).natAbs * q.1 ≤ 1000000000 * q.2)
  else true

/-- A DMX512-A packet in ticks, rounded up, and one more (R503). -/
def dmxLeast (t : State) (p : Nat) : Nat :=
  ceilDiv ((t.n (O15.DMX_BREAK p) + t.n (O15.DMX_MAB p) + 44 * (t.n (O15.UNIV_SLOTS (t.n (O15.DMX_UNIVERSE p))) + 1)) * 192) 1000 + 1

/-- A generator's frame rate fits its VTS (R506). -/
def genFits (t : State) (i : Nat) : Bool :=
  let rate := t.n (O16.GEN_RATE i)
  let y := 0x20 + t.n (O16.GEN_VTS i)
  let a := rateFrac (t.n (O03.VTS_FRAME_RATE y))
  let b := tcFrac rate
  ([1, 2, 4].any fun m => a.1 * b.2 == m * b.1 * a.2) && ((rate == 2 || rate == 3) == (t.n (O03.VTS_FAMILY y) == 1)) &&
    !(t.n (O16.GEN_MODE i) == 2 && rate == 3)

/-- CONFLICT conditions of classes 03 and 14 to 16 (R497, R503, R506, R513). -/
def cueConflict (t : State) (k : Key) : Bool :=
  let i := instOf k
  if clsOf k = 0x15 then
    if i < 0x400 then
      (t.b (O15.UNIV_ENABLE i) && t.enabledUnivs.any fun u => u != i && t.n (O15.UNIV_NUMBER u) == t.n (O15.UNIV_NUMBER i)) ||
        (parOf k == 2 && (List.range 32).any fun p =>
          t.n (O15.DMX_UNIVERSE (0x400 + p)) == i && decide (t.n (O15.DMX_PERIOD (0x400 + p)) < t.dmxLeast (0x400 + p)))
    else i < 0x420 && decide (t.n (O15.DMX_PERIOD i) < t.dmxLeast i)
  else if clsOf k = 0x16 then
    if i < 4 then parOf k == 1
    else decide (0x010 ≤ i ∧ i < 0x014) && t.n (O16.GEN_MODE i) != 0 && !(t.genFits i)
  else if clsOf k = 0x03 ∧ 0x20 ≤ i ∧ i < 0x30 then
    (List.range 4).any fun g => t.n (O16.GEN_MODE (0x010 + g)) != 0 && 0x20 + t.n (O16.GEN_VTS (0x010 + g)) == i && !(t.genFits (0x010 + g))
  else false

end State

/-- Byte `j` of the user data words of an ST 291-1 packet, from 1: its low eight bits. -/
def udw (words : List Nat) (j : Nat) : Nat := words.getD (2 + j) 0 % 256

/-- The nibble of a time address that user data word `j` carries (ST 12-2; log entry 43). -/
def atcNibble (words : List Nat) (j : Nat) : Nat := udw words j / 16

/-- The payload type of an ST 12-2 packet: bit 3 of user data words 1 to 8 (log entry 43). -/
def atcType (words : List Nat) : Nat := ((List.range 8).map fun j => if bit (udw words (j + 1)) 3 then 2 ^ j else 0).sum

/-- The value of an ST 12-2 packet (R488). -/
def atcValue (words : List Nat) : Nat :=
  let a := atcNibble words
  (a 13 + 10 * (a 15 % 4)) * 2 ^ 24 + (a 9 + 10 * (a 11 % 8)) * 2 ^ 16 + (a 5 + 10 * (a 7 % 8)) * 256 + a 1 + 10 * (a 3 % 4)

/-- The user bits of an ST 12-2 packet. -/
def atcUser (words : List Nat) : Nat := ((List.range 8).map fun j => atcNibble words (2 * j + 2) * 16 ^ j).sum

/-- The flag bits of an ST 12-2 packet as TC_BITS has them, without the direction: BGF0 and BGF2 change places at 25 frames (R513). -/
def atcBits (rate : Nat) (words : List Nat) : Nat :=
  let f (j b k : Nat) : Nat := if bit (atcNibble words j) b then 2 ^ k else 0
  f 3 2 0 + f 3 3 1 + f 15 2 4 + (if rate = 1 then f 7 3 3 + f 11 3 5 else f 11 3 3 + f 15 3 5)

namespace State

/-- Readers 4 to 7 that take the ST 12-2 packets of an input (R505). -/
def atcReaders (s : State) (input type : Nat) : List Nat :=
  [4, 5, 6, 7].filter fun r => s.b (O16.TC_ENABLE r) && s.n (O16.TC_SOURCE r) == input && s.n (O16.TC_ATC_TYPE r) == type

/-- An ST 12-2 packet reaches a reader (R505): it is a transition, and the word of its frame. At more than 30 frames/s the second packet of a
pair carries the label of the first and is no further word (log entry 43). -/
def atcWord (s : State) (r input : Nat) (words : List Nat) : State :=
  let t := if s.n (O16.TC_STATE r) = 0 then (s.setN (O16.TC_STATE r) 1).setReader r ⟨0, none, 0, 0, 0, 0, s.now⟩
    else s.setReader r { s.reader r with heard := s.now }
  let x := t.reader r
  let v := atcValue words
  let frame := rateFrac (fmtRate (s.n (O06.IN_FORMAT input)))
  if 30 * frame.2 < frame.1 ∧ x.last = some v then t
  else
    let set := s.n (O16.TC_RATE r)
    let b := tcFrac set
    let drop := bit (atcNibble words 3) 2
    let fits := [1, 2].any (fun m => frame.1 * b.2 == m * b.1 * frame.2) && drop == (set == 2)
    let rate := if fits then set else if drop ∧ set ≠ 2 then 2 else if set = 3 then 4 else 3
    let back : Bool := (x.last.map fun u => tcPrev rate u == v).getD false
    let gap := s.now - x.start
    let speed : Int := if x.last = none ∨ gap = 0 then 10000 else (10000 * 192000 * b.2 / (b.1 * gap) : Nat)
    t.timecodeWord r rate v (atcUser words) (atcBits rate words + (if back then 4 else 0)) 0 (if back then -speed else speed)

end State

/-- The parity of an ST 291-1 word: bit 8 makes bits 0 to 8 even, bit 9 is its complement. PRESUMED: SMPTE ST 291-1, whose rules R206 names and
does not repeat (log entry 43). -/
def ancParity (w : Nat) : Bool :=
  let odd := (List.range 8).foldl (fun a i => a != bit w i) false
  bit w 8 == odd && bit w 9 != odd

/-- The checksum of an ST 291-1 packet: the 9-bit sum of the words before it, bit 9 the complement of bit 8 (log entry 43). -/
def ancSum (words : List Nat) : Nat :=
  let n := (words.map (· % 512)).sum % 512
  n + (if bit n 8 then 0 else 512)

/-- A packet that a unit does not carry: payload ID, EDH, and embedded audio (R206). -/
def ancOwn (did sdid : Nat) : Bool :=
  (did == 0x41 && sdid == 0x01) || did == 0xF4 || decide (0xE0 ≤ did ∧ did ≤ 0xE7) || decide (0xA0 ≤ did ∧ did ≤ 0xA7)

namespace State

/-- An ANC packet joins the unit of its line group, of an SDI input or of an SDI receiver; beyond 8,192 bytes it is dropped, and an input says so
(R145, R206, R374). -/
def ancJoin (s : State) (i group line hofs flags : Nat) (words : List Nat) : State :=
  let t := if (s.input i).ancGroup = group then s else s.ancFlush i
  let x := t.input i
  let p := ancBytes line hofs flags words
  if 8192 < (x.anc.map (·.2.length)).sum + p.length then
    (if i < 0x1000 then ((t.bump (O06.ANC_DROPPED i) 1).flag (O06.IN_FLAGS i) 256).raise 0x068 i [] else t)
  else t.setInput i { x with ancGroup := group, anc := ancInsert x.anc (ancPlace line hofs flags, p) }

/-- An ANC packet of an SDI input: what is wrong is counted, a timecode word reaches its readers, and what IN_ANC_DROP does not name joins the unit
(R206, R504). -/
def ancInput (s : State) (input group line hofs flags : Nat) (words : List Nat) (sumOk : Bool) : State :=
  let did := words.getD 0 0 % 256
  let sdid := words.getD 1 0 % 256
  let drops := s.bs (O06.IN_ANC_DROP input)
  let matched := (List.range (drops.length / 2)).any fun j =>
    let e := natBE (slice drops (2 * j) 2)
    e / 256 == did && (decide (0x80 ≤ did) || e % 256 == sdid)
  let bad := (s.bump (O06.ANC_CHECKSUM_ERR input) 1).flag (O06.IN_FLAGS input) 128
  if ¬ (ancParity (words.getD 0 0) && ancParity (words.getD 1 0)) then bad
  else
    let t := if sumOk then s else bad.raise 0x067 input []
    let t := if sumOk ∧ did = 0x60 ∧ sdid = 0x60 ∧ words.length = 20 then
        t.forEach (s.atcReaders input (atcType words)) fun t r => t.atcWord r input words
      else t
    if ancOwn did sdid ∨ matched ∨ (¬ sumOk ∧ s.n (O06.IN_ANC_BAD input) = 0) then t
    else t.ancJoin input group line hofs (flags % 256 / 64 * 64 + (if sumOk then 0 else 32)) words

/-- An ANC packet of an SDI receiver, which has no objects of class 06: a bad one is dropped (R206, R374). -/
def ancReceiver (s : State) (i group line hofs flags : Nat) (words : List Nat) (sumOk : Bool) : State :=
  let rx := i - 0x1000
  if ¬ s.present 0x0E rx ∨ s.n (O0E.ESSENCE rx) ≠ 4 ∨ s.n (O0E.RX_STATE rx) < 2 ∨ ¬ sumOk ∨ ancOwn (words.getD 0 0 % 256) (words.getD 1 0 % 256) ∨
      ¬ (ancParity (words.getD 0 0) && ancParity (words.getD 1 0)) then s
  else s.ancJoin i group line hofs (flags % 256 / 64 * 64) words

end State

/-- An ancillary packet of an SDI input or of an SDI receiver (R145, R206, R374). -/
def execAncPacket (input group line hofs flags : Nat) (words : List Nat) (s : State) : Host.Outcome State Fault Refusal :=
  live s fun s =>
    let sumOk := ancSum words.dropLast == (words.getLast?.getD 0) % 1024
    if words.length < 4 ∨ 259 < words.length ∨ line = 0 ∨ 8191 < line ∨ 0xFFFF < hofs then s
    else if 0x1000 ≤ input then s.ancReceiver input group line hofs flags words sumOk
    else if s.present 0x06 input ∧ s.n (O06.IN_STATE input) = 4 then s.ancInput input group line hofs flags words sumOk
    else s

/-- A due action runs from the queue (R493). -/
def execCueActionExecute (engine : Nat) (s : State) : Host.Outcome State Fault Refusal :=
  onInst 0x14 engine s fun s =>
    if s.n (O14.CE_STATE engine) ≠ 1 ∨ 64 ≤ s.cues.count.getD engine 0 then s
    else
      match s.dueAction engine fun _ => true with
      | some a => s.runQueued a
      | none => s

/-- The action of an enabled record executes in the tick in which it fires: its engine runs, has executed fewer than 64 actions in this
tick, and the record holds that action (R492, R493). -/
def State.actNow (s : State) (engine record code : Nat) : State :=
  let r := s.cueRec engine record
  if record < 1024 ∧ s.n (O14.CE_STATE engine) = 1 ∧ s.cues.count.getD engine 0 < 64 ∧ recEnabled r ∧ recN r 2 1 = code then
    s.runAction engine record r
  else s

/-- NONE executes (R492). -/
def execCueActionNone (engine record : Nat) (s : State) : Host.Outcome State Fault Refusal :=
  onInst 0x14 engine s fun s => s.actNow engine record 0

/-- FLAGS executes (R492). -/
def execCueActionFlags (engine record : Nat) (s : State) : Host.Outcome State Fault Refusal :=
  onInst 0x14 engine s fun s => s.actNow engine record 1

/-- FADE executes (R500). -/
def execCueActionFade (engine record : Nat) (s : State) : Host.Outcome State Fault Refusal :=
  onInst 0x14 engine s fun s => s.actNow engine record 4

/-- GPIO executes (R492). -/
def execCueActionGpio (engine record : Nat) (s : State) : Host.Outcome State Fault Refusal :=
  onInst 0x14 engine s fun s => s.actNow engine record 5

/-- TIMECODE executes (R492). -/
def execCueActionTimecode (engine record : Nat) (s : State) : Host.Outcome State Fault Refusal :=
  onInst 0x14 engine s fun s => s.actNow engine record 6

/-- A pulse expires, and the pin returns (R492). -/
def execGpioPulseEnd (pin : Nat) (s : State) : Host.Outcome State Fault Refusal :=
  onInst 0x16 (0x100 + pin) s fun s =>
    match SMap.find? s.cues.pulses pin with
    | some (t, v) => if t ≤ s.now then (s.setPin pin v).onCues fun c => { c with pulses := c.pulses.del pin } else s
    | none => s

/-- CUE_FIRE (R489). -/
def execCueFire (engine record : Nat) (s : State) : Host.Outcome State Fault Refusal :=
  onInst 0x14 engine s fun s => if s.answers then (s.actCueFire engine record).1 else s

/-- CE_REARM (R489). -/
def execCeRearm (engine value : Nat) (s : State) : Host.Outcome State Fault Refusal :=
  onInst 0x14 engine s fun s => if s.answers then (s.actRearm engine value).1 else s

/-- A write of CUE_FLAGS (R487, R511). -/
def execCueFlags (engine : Nat) (value : BitVec 64) (s : State) : Host.Outcome State Fault Refusal :=
  onInst 0x14 engine s fun s => if s.answers then s.writeCueFlags engine value.toNat else s

/-- A packet that a DATA receiver with RX_UDP 5568 delivers (R498). -/
def execSacnPacket (rx : Nat) (packet : SacnPkt) (s : State) : Host.Outcome State Fault Refusal :=
  onInst 0x0E rx s fun s =>
    if s.n (O0E.RX_STATE rx) = 0 ∨ s.n (O0E.ESSENCE rx) ≠ 5 ∨ s.n (O0E.RX_UDP rx) ≠ 5568 then s else s.sacnPacket packet

/-- A source with no accepted packet for 480,000 ticks leaves (R498). -/
def execSacnSourceTimeout (lu : Nat) (cid : List Byte) (s : State) : Host.Outcome State Fault Refusal :=
  onInst 0x15 lu s fun s =>
    let l := s.cues.sources.getD lu []
    if l.any fun x => x.cid == cid && decide (x.heard + 480000 ≤ s.now) then
      ((s.onCues fun c => { c with sources := c.sources.put lu (l.filter fun x => x.cid != cid) }).flag (O15.UNIV_FLAGS lu) 2).raise 0x151 lu cid
    else s

/-- A universe transmits (R501). -/
def execSacnTransmit (lu : Nat) (s : State) : Host.Outcome State Fault Refusal :=
  onInst 0x15 lu s fun s => s.sacnTransmit lu

/-- Universe-discovery packets (R502). -/
def execDiscoverySend (s : State) : Host.Outcome State Fault Refusal := live s State.discoverySend

/-- A discovery entry ages out after 3,840,000 ticks (R502). -/
def execDiscoveryAgeing (cid : List Byte) (s : State) : Host.Outcome State Fault Refusal :=
  live s fun s =>
    let t := s.onCues fun c => { c with disc := c.disc.filter fun x => !(x.cid == cid && decide (x.heard + 3840000 ≤ s.now)) }
    t.setN O15.DISC_COUNT t.cues.disc.length

/-- A DMX512-A packet begins: in a tick t with t mod DMX_PERIOD = DMX_PHASE (R503). -/
def execDmxOutputPacket (port : Nat) (s : State) : Host.Outcome State Fault Refusal :=
  onInst 0x15 (0x400 + port) s fun s =>
    let i := 0x400 + port
    let u := s.n (O15.DMX_UNIVERSE i)
    let sent : Bool := match SMap.find? s.cues.dmxIn port with
      | some x => x.heard == s.now
      | none => false
    if port < 32 ∧ s.n (O15.DMX_MODE i) = 1 ∧ s.tick64 % s.n (O15.DMX_PERIOD i) = s.n (O15.DMX_PHASE i) ∧ ¬ sent then
      ((s.onCues fun c => { c with dmxIn := c.dmxIn.put port ⟨[], 0, s.now⟩ }).bump (O15.DMX_PACKETS i) 1).emit (.media 0x15 i ([s.n (O15.DMX_BREAK i), s.n (O15.DMX_MAB i), 0] ++
        ((padTo (s.n (O15.UNIV_SLOTS u)) (s.bs (O15.UNIV_LEVELS u))).map BitVec.toNat)))
    else s

/-- A DMX512-A packet is received (R504). -/
def execDmxInputPacket (port brk mab startCode : Nat) (framing : Bool) (slots : List Byte) (s : State) : Host.Outcome State Fault Refusal :=
  onInst 0x15 (0x400 + port) s fun s =>
    let i := 0x400 + port
    if 32 ≤ port ∨ s.n (O15.DMX_MODE i) ≠ 2 then s
    else
      let x := s.cues.dmxIn.getD port ⟨[], 0, 0⟩
      let put (t : State) (x : DmxIn) : State := t.onCues fun c => { c with dmxIn := c.dmxIn.put port x }
      if framing ∨ startCode ≠ 0 ∨ brk < 88 ∨ mab < 8 then
        let t := (put s { x with run := 0 }).bump (O15.DMX_ERRORS i) 1
        let t := if framing then t.flag (O15.DMX_FLAGS i) 2 else t
        if startCode ≠ 0 then t.flag (O15.DMX_FLAGS i) 4 else t
      else
        let t := ((put s ⟨slots.take 512, x.run + 1, s.now⟩).bump (O15.DMX_PACKETS i) 1).setN (O15.DMX_RX_SLOTS i) (min 512 slots.length)
        if 2 ≤ x.run + 1 ∧ s.n (O15.DMX_STATE i) = 2 then (t.setN (O15.DMX_STATE i) 3).raise 0x154 i [] else t

/-- No accepted packet for DMX_LOSS (R504). -/
def execDmxLoss (port : Nat) (s : State) : Host.Outcome State Fault Refusal :=
  onInst 0x15 (0x400 + port) s fun s =>
    let i := 0x400 + port
    let x := s.cues.dmxIn.getD port ⟨[], 0, 0⟩
    if port < 32 ∧ s.n (O15.DMX_STATE i) = 3 ∧ x.heard + s.n (O15.DMX_LOSS i) ≤ s.now then
      (((s.onCues fun c => { c with dmxIn := c.dmxIn.del port }).setN (O15.DMX_STATE i) 2).flag (O15.DMX_FLAGS i) 1).raise 0x155 i []
    else s

/-- A timecode word is decoded (R505). -/
def execTimecodeWord (reader rate value user bits age : Nat) (speed : Int) (s : State) : Host.Outcome State Fault Refusal :=
  onInst 0x16 reader s fun s => if reader < 8 then s.timecodeWord reader rate value user bits age speed else s

/-- A word period without a valid word (R505). -/
def execTcFreewheel (reader : Nat) (s : State) : Host.Outcome State Fault Refusal :=
  onInst 0x16 reader s fun s => if reader < 8 then s.freewheel reader else s

/-- No transitions for 100 ms (R505). -/
def execTcNoTransitions (reader : Nat) (s : State) : Host.Outcome State Fault Refusal :=
  onInst 0x16 reader s fun s =>
    if reader < 8 ∧ s.n (O16.TC_STATE reader) ≠ 0 ∧ (s.reader reader).heard + 19200 ≤ s.now then s.readerLost reader 0 else s

/-- Transitions for 10 ms (R505). -/
def execTcSignalDetect (reader : Nat) (s : State) : Host.Outcome State Fault Refusal :=
  onInst 0x16 reader s fun s =>
    if reader < 8 ∧ s.n (O16.TC_STATE reader) = 0 ∧ s.b (O16.TC_ENABLE reader) then
      (s.setN (O16.TC_STATE reader) 1).setReader reader ⟨0, none, 0, 0, 0, 0, s.now⟩
    else s

/-- A generator word starts, where one is due in the present tick (R506). -/
def execGeneratorWord (gen : Nat) (s : State) : Host.Outcome State Fault Refusal :=
  onInst 0x16 (0x010 + gen) s fun s => if gen < 4 ∧ s.wordHere gen ∧ (s.gen gen).sent ≠ some s.now then s.genWord gen else s

/-- GEN_RUN (R506). -/
def execGenRun (gen : Nat) (value : Bool) (s : State) : Host.Outcome State Fault Refusal :=
  onInst 0x16 (0x010 + gen) s fun s => if gen < 4 ∧ s.answers then s.setB (O16.GEN_RUN (0x010 + gen)) value else s

/-- A debounced edge is accepted: GPIO_DEBOUNCE samples since the level before was accepted hold the new level of the pin (R508). -/
def execGpioEdge (pin : Nat) (atPin : Bool) (s : State) : Host.Outcome State Fault Refusal :=
  onInst 0x16 (0x100 + pin) s fun s =>
    let i := 0x100 + pin
    let level := atPin != s.b (O16.GPIO_INVERT i)
    if 128 ≤ pin ∨ s.n (O16.GPIO_MODE i) ≠ 0 ∨ s.b (O16.GPIO_LEVEL i) = level ∨
        s.now < s.cues.accepted.getD pin 0 + s.n (O16.GPIO_DEBOUNCE i) then s
    else
      let t := (((s.onCues fun c => { c with accepted := c.accepted.put pin s.now }).setB (O16.GPIO_LEVEL i) level).setN (O16.GPIO_EDGE_TICK i) (s.tick64 - (s.n (O16.GPIO_DEBOUNCE i) - 1))).bump (O16.GPIO_EDGES i) 1
      let t := t.gather fun g => { g with edges := g.edges ++ [(pin, level)] }
      if s.b (O16.GPIO_EVENT i) then t.raise 0x166 i (d8 level.toNat) else t

/-- GPIO_SET (R508). -/
def execGpioSet (pin : Nat) (value : Bool) (s : State) : Host.Outcome State Fault Refusal :=
  onInst 0x16 (0x100 + pin) s fun s => if pin < 128 ∧ s.answers then (s.actGpioSet pin value.toNat).1 else s

end Sys2Proof.Machine
end

