-- ==== Sys2Proof/Machine/Journal.lean ====
section
/-! DEFINITION. The journal of persistent values: records, room, programming, compaction and replay (R519 to R523). -/

namespace Sys2Proof.Machine

/-- A value names another instance that this member does not have: ABSENT (R557). -/
def State.absentName (s : State) (k : Key) (v : Val) : Bool :=
  let i := instOf k
  let p := parOf k
  let n := v.toNat
  let port := pathPort n
  let noPort := decide (port < 232) && !(s.present 0x0F port)
  let noChannel := decide (s.ranges.top ≤ n ∧ n < 16384)
  match clsOf k with
  | 0x08 => decide (0x900 ≤ i ∧ i < 0xA00 ∧ p = 0) && (routesIn 64 v.bytes).any fun r => s.routeStatus r == ABSENT
  | 0x02 => k == O02.SOURCE_INDEX i && decide (i < 0x10) &&
      ((s.n (O02.SOURCE_TYPE i) == 2 && noPort) || (s.n (O02.SOURCE_TYPE i) == 7 && decide (n < 64) && !(s.present 0x0A n)))
  | 0x0A =>
    if 0x200 ≤ i ∧ i < 0x300 ∧ p = 0 then (portCodes v.bytes).any fun c => !(s.portHere c)
    else decide (0x300 ≤ i ∧ p = 1) && !(s.portHere n)
  | 0x0C => decide (i < 0x400 ∧ p % 0x100 < 8) && noChannel
  | 0x0D => (decide (p = 7 ∨ p = 8) && noPort) || (k == O0D.CHANNEL_BASE i && noChannel)
  | 0x0E => (decide (p = 6 ∨ p = 7) && noPort) || (k == O0E.CHANNEL_BASE i && noChannel) ||
      (decide (p = 0x010 ∨ p = 0x011) && decide (n < 2048) && !(s.present 0x0E n))
  | 0x0F => (State.tablePorts k v.bytes).any fun d => decide (d < 232) && !(s.present 0x0F d)
  | 0x10 =>
    let m := padTo 16 v.bytes
    let at_ := natBE (slice m 2 2)
    if i < 0x800 ∧ p = 1 then
      (if m.headD 0 = 0 then decide (at_ < 232) && !(s.present 0x0F at_) else decide (at_ < 2048) && !(s.present 0x0D at_))
    else if i < 0x800 ∧ p = 7 then decide (n < 224) && !(s.present 0x0F n)
    else k == O10.PACE_SENDER && decide (n < 2048) && !(s.present 0x0D n)
  | 0x15 => (decide (i < 0x400 ∧ p = 6) || k == O15.DISC_SENDER) && decide (n < 2048) && !(s.present 0x0D n)
  | 0x16 =>
    if 0x100 ≤ i ∧ p = 7 then (List.range (v.bytes.length / 2)).any fun j =>
      let d := natBE (slice v.bytes (2 * j) 2)
      decide (d < 0x900) && !(s.present 0x08 d)
    else decide (i < 8 ∧ p = 1) && decide (n < 192) && !(s.present 0x06 n)
  | _ => false

/-- Leading value bytes that name the entry which an object's write sets, where the object is a window onto a table. -/
def slotLen (k : Key) : Nat :=
  if k = O0F.VLAN_WRITE then 2
  else if k = O0F.FDB_STATIC_WRITE ∨ k = O0F.MCAST_WRITE then 8
  else if clsOf k = 0x14 ∧ parOf k = 0x003 then 2
  else 0

/-- Two items set the same thing. -/
def sameItem (a b : Key × Val) : Bool := a.1 == b.1 && a.2.bytes.take (slotLen a.1) == b.2.bytes.take (slotLen b.1)

/-- An item takes the place of one that set the same thing. -/
def putItem (l : List (Key × Val)) (e : Key × Val) : List (Key × Val) := (l.filter fun x => !(sameItem x e)) ++ [e]

/-- Bytes of an item in a record (R528). -/
def itemBytes (e : Key × Val) : Nat := 8 + (pad4 (wireBytes e.1 e.2)).length

/-- Bytes of items. -/
def itemsBytes (l : List (Key × Val)) : Nat := (l.map itemBytes).foldl (· + ·) 0

/-- Bytes of a record: header, body and tag (R519). -/
def JRec.size (r : JRec) : Nat := 80 + itemsBytes r.items

/-- Bytes of records. -/
def recsBytes (l : List JRec) : Nat := (l.map JRec.size).foldl (· + ·) 0

/-- Bytes of one half (R519). -/
def halfBytes : Nat := 33554432

/-- A MARK in a list names the record with this JSEQ. -/
def marked (l : List JRec) (n : Nat) : Bool := l.any fun r => r.rtype == 3 && r.ref == n

/-- TRANSACTION records without a MARK (R522, R523). -/
def unmarked (l : List JRec) : List JRec := l.filter fun r => r.rtype == 1 && !(marked l r.jseq)

/-- The persistent values that records leave (R522): a TRANSACTION or SNAPSHOT sets them only with its MARK. -/
def replay (l : List JRec) : List (Key × Val) :=
  l.foldl (fun a r => match r.rtype with
    | 1 => if marked l r.jseq then r.items.foldl putItem a else a
    | 2 => r.items.foldl putItem a
    | 4 => if marked l r.jseq then r.items else a
    | _ => a) []

/-- Give the records rising JSEQs from `n`. -/
def renumber : Nat → List JRec → List JRec
  | _, [] => []
  | n, r :: l => { r with jseq := n } :: renumber (n + 1) l

/-- What the snapshot of FACTORY_DEFAULT keeps: management addresses, credentials and the Filulo settings (R565). -/
def factoryKept (k : Key) : Bool :=
  clsOf k == 0x1C && (decide (0x100 ≤ instOf k ∧ instOf k ≤ 0x101) || decide (0x200 ≤ instOf k ∧ instOf k ≤ 0x22F) || instOf k == 0x300)

namespace State

/-- The records of a half. -/
def half (s : State) (h : Nat) : List JRec := if h = 0 then s.jrnl.half0 else s.jrnl.half1

/-- Replace the records of a half. -/
def setHalf (s : State) (h : Nat) (l : List JRec) : State :=
  { s with jrnl := if h = 0 then { s.jrnl with half0 := l } else { s.jrnl with half1 := l } }

/-- The active half's records, and the other half's. -/
def activeHalf (s : State) : List JRec := s.half s.jrnl.active
def otherHalf (s : State) : List JRec := s.half (1 - s.jrnl.active)

/-- The object of a journaled item is present (R556, R559). -/
def itemHere (s : State) (e : Key × Val) : Bool := s.present (clsOf e.1) (instOf e.1) && (rowOf e.1).isSome

/-- The items that a replay keeps: absent objects are dropped, and a value that names an absent instance gives way to the default
(R559). -/
def keptItems (s : State) (l : List (Key × Val)) : List (Key × Val) := l.filter fun e => s.itemHere e && !(s.absentName e.1 e.2)

/-- A MARK waits in the queue for the record with this JSEQ. -/
def markQueued (s : State) (n : Nat) : Bool := s.jrnl.todo.any fun e => e.1.rtype == 3 && e.1.ref == n

/-- The bytes that the active half keeps for work already accepted (R523): queued records, the collected writes, and the MARKs of
TRANSACTION records. -/
def reserve (s : State) : Nat :=
  recsBytes (s.jrnl.todo.map (·.1)) + (if s.jrnl.imm = [] then 0 else 80 + itemsBytes s.jrnl.imm) +
  80 * ((unmarked s.activeHalf).filter fun r => !(s.markQueued r.jseq)).length +
  80 * (s.jrnl.todo.filter fun e => e.1.rtype == 1).length

/-- A record of so many bytes fits together with the reserve (R523). -/
def roomFor (s : State) (bytes : Nat) : Bool := decide (recsBytes s.activeHalf + s.reserve + bytes ≤ halfBytes)

/-- Room for a TRANSACTION record and its MARK. -/
def roomForTx (s : State) (items : List (Key × Val)) : Bool := s.roomFor (160 + itemsBytes items)

/-- Room for values in an IMMEDIATE record. -/
def roomForWrite (s : State) (items : List (Key × Val)) : Bool := s.roomFor (80 + itemsBytes items)

/-- The half counts as full (R523, R553). -/
def journalFull (s : State) : State := (s.flag O1C.FILULO_FLAGS 8).raise 0x1C6 noInst []

/-- JOURNAL_USED and JOURNAL_JSEQ (R551). -/
def countJournal (s : State) : State :=
  (s.setN O1C.JOURNAL_USED (recsBytes s.activeHalf)).setN O1C.JOURNAL_JSEQ s.jrnl.seq

/-- A record waits to be programmed; it takes its JSEQ then. -/
def addRec (s : State) (rtype tick ref : Nat) (items : List (Key × Val)) (w : JWait) : State :=
  { s with jrnl := { s.jrnl with todo := s.jrnl.todo ++ [(⟨rtype, 0, tick, ref, items⟩, w)] } }

/-- A response waits for the IMMEDIATE record that will hold its values (R521). -/
def answerLater (s : State) (sess : Nat) (r : Resp) : State :=
  { s with jrnl := { s.jrnl with immWait := s.jrnl.immWait ++ [(sess, r)] } }

/-- The collected writes become an IMMEDIATE record (R521). -/
def sealImmediate (s : State) : State :=
  if s.jrnl.imm = [] then s
  else
    let t := s.addRec 2 s.tick64 0 s.jrnl.imm (.answers s.jrnl.immWait)
    { t with jrnl := { t.jrnl with imm := [], immWait := [], lastImm := s.now } }

/-- 3,840 ticks have passed since the last IMMEDIATE record (R521). -/
def immediateDue (s : State) : Bool := decide (s.jrnl.lastImm = 0 ∨ s.jrnl.lastImm + 3840 ≤ s.now)

/-- The JSEQ by which a MARK names its record in the other half: the record's own, or its copy's (R523). -/
def copyRef (s : State) (n : Nat) : Nat :=
  if s.otherHalf.any fun r => r.rtype == 1 && r.jseq == n then n
  else match s.activeHalf.find? fun r => r.rtype == 1 && r.jseq == n with
    | none => n
    | some a => (((unmarked s.otherHalf).find? fun r => r.tick == a.tick && decide (r.items = a.items)).map (·.jseq)).getD n

/-- A record is programmed: in the active half, and while a compaction runs in both (R523). -/
def appendRec (s : State) (r : JRec) : State :=
  let h := s.jrnl.active
  let t := s.setHalf h (s.activeHalf ++ [r])
  if s.jrnl.compacting then t.setHalf (1 - h) (s.otherHalf ++ [{ r with ref := if r.rtype = 3 then s.copyRef r.ref else 0 }]) else t

/-- A snapshot goes into the other half, with copies of the TRANSACTION records that have no MARK; its MARK follows (R523, R565). -/
def startSnapshot (s : State) (items : List (Key × Val)) (then_ : JWait) (copies : Bool) : State :=
  let n := s.jrnl.seq + 1
  let l := if copies then renumber (n + 1) (unmarked s.activeHalf) else []
  let t := s.setHalf (1 - s.jrnl.active) (⟨4, n, s.tick64, 0, items⟩ :: l)
  ({ t with jrnl := { t.jrnl with seq := n + l.length, compacting := true } }).addRec 3 s.tick64 n [] then_

/-- The snapshot's MARK is programmed: the other half becomes active, and the old one is erased (R523). -/
def switchHalf (s : State) (r : JRec) : State :=
  let h := s.jrnl.active
  let t := (s.setHalf (1 - h) (s.otherHalf ++ [r])).setHalf h []
  { t with jrnl := { t.jrnl with active := 1 - h, compacting := false } }

/-- JOURNAL_COMPACT runs and has not queued its snapshot: it does (R523). -/
def compactStep (s : State) : State :=
  match s.runningJob O1C.JOURNAL_COMPACT with
  | none => s
  | some j =>
    match s.job? j with
    | some x => if x.done = 0 ∧ ¬ s.jrnl.compacting then (s.setJob j { x with done := 1 }).addRec 4 s.tick64 0 [] (.snapshot j) else s
    | none => s

/-- A JOURNAL_COMPACT job starts, for a session or for Neloas (R523). -/
def startCompact (s : State) (sess role : Nat) : State × Nat × Nat :=
  let r := s.startJob sess role O1C.JOURNAL_COMPACT (.num 1) []
  (r.1.compactStep, r.2)

/-- When the active half is 75 % full, Neloas starts JOURNAL_COMPACT (R523). -/
def autoCompact (s : State) : State :=
  if halfBytes * 3 ≤ recsBytes s.activeHalf * 4 ∧ s.jobOf O1C.JOURNAL_COMPACT = none ∧ s.phase = .running then
    (s.startCompact 0xFFFF 1).1
  else s

/-- The record at the head of the queue is programmed: the state, the record with its JSEQ, and what waited for it. -/
def programRec (s : State) : State × Option (JRec × JWait) :=
  match s.jrnl.todo with
  | [] => (s, none)
  | (r, w) :: rest =>
    let n := s.jrnl.seq + 1
    let q : JRec := { r with jseq := n }
    let t := { s with jrnl := { s.jrnl with todo := rest } }
    let named := { t with jrnl := { t.jrnl with seq := n } }
    let u := match w with
      | .snapshot j => t.startSnapshot (s.keptItems (replay s.activeHalf)) (.switch j) true
      | .factory => t.startSnapshot ((s.keptItems (replay s.activeHalf)).filter fun e => factoryKept e.1) .factoryMark false
      | .switch _ => named.switchHalf q
      | .factoryMark => named.switchHalf q
      | _ => named.appendRec q
    (u.countJournal, some (q, w))

end State
end Sys2Proof.Machine
end

