-- ==== Sys2Proof/Machine/Admission.lean ====
section
/-! DEFINITION. What a transaction would leave in force, its checks, and its admission (R67 to R70, R148, R176, R184, R316, R450, R539,
R540). -/

namespace Sys2Proof.Machine

/-- The value checks of an item beyond its row's range, by class: the status (R22, R539). -/
def State.itemStatus (s : State) (k : Key) (v : Val) : Nat :=
  if s.absentName k v then ABSENT else
  let r (b : Bool) : Nat := if b then OK else RANGE
  match clsOf k with
  | 0x05 => r (State.clipItemOk k v)
  | 0x06 => r (State.sdiItemOk k v)
  | 0x07 => r (State.sdiItemOk k v)
  | 0x08 => s.routeItem k v
  | 0x09 => r (parOf k != 1 || decide (0xA00 ≤ instOf k) || v.bytes.all fun b => decide (1 ≤ b.toNat ∧ b.toNat ≤ 8))
  | 0x0A => r (s.audioItemOk k v)
  | 0x0B => r (s.audioItemOk k v)
  | 0x0D => r (s.senderItemOk k v)
  | 0x0E => r (s.rxItemOk k v)
  | 0x0F => r (State.tableItemOk k v)
  | 0x10 => r (State.shapingItemOk k v)
  | 0x11 => r (State.laneItemOk k v)
  | 0x14 => r (s.cueItemOk k v)
  | 0x15 => r (s.cueItemOk k v)
  | 0x16 => r (s.cueItemOk k v)
  | 0x17 => r (State.busItemOk k v)
  | _ => OK

/-- A value that is set as it stands; routes, tables and cue records are applied by their units. -/
def plainItem (k : Key) : Bool :=
  !(clsOf k == 8 && (decide (instOf k < 0x900 ∧ parOf k ≤ 1) || k == O08.ROUTE_SUBMIT)) && slotLen k == 0

/-- The slots that a new entry takes on a port in a direction (R53, R157): a RELEASE or a NOP takes none. -/
def slotsOf (d : Demand) (port : Nat) (out : Bool) : Nat :=
  if d.op ≠ 0 ∧ d.op ≠ 6 ∧ (if out then d.srcp else d.dstp) = port then d.cells else 0

namespace State

/-- The plain values of a transaction, in force (R539). -/
def setItems (s : State) (l : List (Key × Val)) : State := s.forEach (l.filter fun e => plainItem e.1) fun t e => t.setObj e.1 e.2

/-- The cross-object ranges at an object, by class (R539). -/
def unitRange (t : State) (k : Key) : Bool :=
  match clsOf k with
  | 0x02 => t.timingRange k
  | 0x03 => t.clocksRange k
  | 0x07 => t.sdiRange k
  | 0x08 => t.routesRange k
  | 0x0C => t.matrixRange k
  | 0x0D => t.senderRange k
  | 0x0E => t.rxRange k
  | 0x10 => t.shapingRange k
  | 0x15 => t.cueRange k
  | 0x16 => t.cueRange k
  | _ => true

/-- The units' own conflicts at an object: `s` in force, `t` as the transaction would leave it (R539, R540). -/
def unitConflict (s t : State) (k : Key) : Bool :=
  (match clsOf k with
   | 0x02 => t.timingConflict k
   | 0x03 => t.clocksConflict k || t.cueConflict k
   | 0x06 => s.inConflict t k
   | 0x07 => s.outConflict t k
   | 0x0A => t.audioConflict k
   | 0x0B => t.audioConflict k
   | 0x0C => t.matrixConflict k
   | 0x0E => t.rxConflict k
   | 0x11 => s.laneConflict t k
   | 0x12 => t.furlongConflict k
   | 0x15 => t.cueConflict k
   | 0x16 => t.cueConflict k
   | 0x17 => State.busConflict k
   | _ => false) || t.shapingConflict k

/-- What a unit does as an applied value comes into force, by class. -/
def unitApplied (s : State) (k : Key) : State :=
  match clsOf k with
  | 0x02 => s.timingApplied k
  | 0x03 => s.clocksApplied k
  | 0x06 => s.inApplied k
  | 0x07 => s.outApplied k
  | 0x08 => s.routesApplied k
  | 0x0A => s.audioApplied k
  | 0x0B => s.audioApplied k
  | 0x0C => s.matrixApplied k
  | 0x0D => s.senderApplied k
  | 0x0E => s.rxApplied k
  | 0x10 => s.shapingApplied k
  | 0x11 => (s.lanesApplied k).laneRateChange k
  | 0x12 => s.furlongApplied k
  | 0x13 => s.domainApplied k
  | 0x14 => s.cuesApplied k
  | 0x15 => s.cuesApplied k
  | 0x16 => s.cuesApplied k
  | _ => s

/-- Entries of tables and cue records come into force (R348 to R350, R488). -/
def setTables (s : State) (l : List (Key × Val)) : State :=
  s.forEach (l.filter fun e => slotLen e.1 != 0) fun t e =>
    if clsOf e.1 = 0x0F then t.tableWrite e.1 e.2.bytes
    else t.putRecord (instOf e.1) (natBE (e.2.bytes.take 2)) (e.2.bytes.drop 2)

/-- The objects of a transaction, each once. -/
def itemKeys (l : List (Key × Val)) : List Key := (l.map (·.1)).eraseDups

/-- Every value of a transaction comes into force at once, but for its routes (R539). -/
def applyValues (s : State) (l : List (Key × Val)) : State :=
  let keys := itemKeys l
  let t := s.forEach (keys.filter fun k => clsOf k == 0x0C) matrixBefore
  ((t.setItems l).setTables l).forEach keys unitApplied

/-- The routes of a transaction come into force, with their resolved paths (R230). -/
def applyRoutes (s : State) (l : List (Key × Val)) (paths : List PathPlan) : State :=
  s.forEach (txRoutes l) fun t e =>
    t.routeApplied e.2 (if e.2.kind = 0 ∧ e.2.ddev = t.deviceId then paths.find? fun p => p.path == e.2.dest else none)

/-- The committed transactions that are not applied. -/
def pendingTxs (s : State) : List Tx := s.chain.cur.toList ++ s.chain.queue

/-- The path instances whose chain a value may change while their route stands (R278). -/
def pathsTouched (l : List (Key × Val)) : List Nat :=
  (l.filterMap fun e =>
    if clsOf e.1 = 9 ∧ instOf e.1 < 0xA00 then some (instOf e.1)
    else if e.1 = O07.OUT_FORMAT (instOf e.1) ∨ e.1 = O07.OUT_COLOUR (instOf e.1) then some (instOf e.1)
    else if e.1 = O0D.SEND_FORMAT (instOf e.1) ∨ e.1 = O0D.SEND_COLOUR (instOf e.1) then some (0x100 + instOf e.1)
    else none).eraseDups

/-- The source that a destination shows, or will show next. -/
def routedSource (s : State) (d : Nat) : Nat := if (s.dest d).waiting then s.n (O08.PENDING_SOURCE d) else s.n (O08.CURRENT_SOURCE d)

/-- The conversion paths that a transaction resolves: those of its video routes, and those of standing routes that its values change;
or the status that refuses it (R227, R253, R257, R278). -/
def resolvePaths (t : State) (l : List (Key × Val)) : Except Nat (List PathPlan) :=
  let routes := (txRoutes l).filterMap fun e =>
    if e.2.kind = 0 ∧ e.2.ddev = t.deviceId then some (e.2.dest, e.2.src) else none
  let kept := (pathsTouched l).filterMap fun d =>
    if (routes.any fun e => e.1 == d) ∨ epType (t.routedSource d) = 0 then none else some (d, t.routedSource d)
  (routes ++ kept).foldl (fun a e =>
    match a with
    | .error x => .error x
    | .ok ps =>
      match t.routePath e.1 e.2 with
      | .ok p => .ok (ps ++ [p])
      | .error x => .error x) (.ok [])

/-- The activation ticks that the 16-tick rule looks at: of every committed transaction that has one (R63, R64). -/
def heldActs (s : State) : List Nat := s.pendingTxs.filterMap (·.act)

/-- Two ticks lie at least 16 apart (R63). -/
def apart (a b : Nat) : Bool := decide (a + 16 ≤ b ∨ b + 16 ≤ a)

/-- A tick keeps 16 ticks from every committed activation tick and from the last applied one (R63). -/
def spaced (s : State) (a : Nat) : Bool :=
  s.heldActs.all (apart a) && (s.n O01.APPLY_COUNT == 0 || apart a (s.n O01.LAST_APPLIED))

/-- The first tick whose seam has not begun its commit decision. -/
def firstTick (s : State) : Nat := s.tick64 + 1 + s.evu.late.toNat

/-- The tick to which NEXT resolves now (R63, R64). -/
def nextTick (s : State) : Nat :=
  let lo := if s.n O01.APPLY_COUNT = 0 then s.firstTick else max s.firstTick (s.n O01.LAST_APPLIED + 16)
  let ok (a : Nat) : Bool := decide (lo ≤ a) && s.heldActs.all (apart a)
  ((s.heldActs.map (· + 16)).filter ok).foldl (fun a b => if ok a then min a b else b) lo

/-- The checks of a COMMIT before admission, in the order of R540: the status that refuses it, or its activation tick (none NEXT), the
state that it would leave, and its paths. A part of a domain epoch is held to no lead (R65). -/
def checkTx (s : State) (items : List (Key × Val)) (act : Nat) (from_ : Option Nat) : Except Nat (Option Nat × State × List PathPlan) :=
  let t := (s.setItems items)
  let routes := txRoutes items
  let keys := itemKeys items
  let paths := t.resolvePaths items
  let when_ := t.routeAct routes act
  let late (a : Nat) : Bool := match from_ with
    | some b => decide (a ≤ s.tick64) || decide (a < b + 2) || decide (b + 11520000 < a)
    | none => false
  let bad (e : Nat) : Bool :=
    (match when_ with
     | .error x => x == e
     | .ok _ => false) || (match paths with
     | .error x => x == e
     | .ok _ => false)
  if bad ABSENT then .error ABSENT
  else if bad RANGE then .error RANGE
  else if (match when_ with | .ok (n + 1) => late (n + 1) | _ => false) then .error RANGE
  else if keys.any fun k => !(t.unitRange k) then .error RANGE
  else if bad CONFLICT ∨ s.routeConflict t from_.isNone routes ∨ (keys.any fun k => s.unitConflict t k) then .error CONFLICT
  else match when_, paths with
    | .ok a, .ok ps => if a ≠ 0 ∧ ¬ s.spaced a then .error CONFLICT else .ok (if a = 0 then none else some a, t, ps)
    | _, _ => .error CONFLICT

/-- The persistent items of a transaction (R520). -/
def persistentItems (items : List (Key × Val)) : List (Key × Val) :=
  items.filter fun e => ((rowOf e.1).map fun r => r.acc.persistent).getD false

/-- The entries of a bank without those of some streams. -/
def withoutStreams (bank : List (Nat × Nat)) (l : List Nat) : List (Nat × Nat) := bank.filter fun e => !(l.contains (entStream e.2))

/-- A port's total in some direction would pass 7,488 slots (R67). -/
def portFull (bank : List (Nat × Nat)) (l : List Demand) : Bool :=
  (List.range 64).any fun p => [true, false].any fun out =>
    let more := (l.map fun d => slotsOf d p out).foldl (· + ·) 0
    more != 0 && decide (7488 < slotsIn bank p out none + more)

/-- The lowest OFS in a link at which an entry overlaps no other on its ports (R56, R67). -/
def freeOfs (bank : List (Nat × Nat)) (link : Nat) (d : Demand) : Option Nat :=
  let busy := (bank.filter fun e => e.1 == link && entOp e.2 != 0 && entOp e.2 != 6 &&
    (entSrc e.2 == d.srcp || entDst e.2 == d.dstp)).map fun e => (entOfs e.2, entCells e.2)
  (List.range (79 - d.cells)).find? fun o => busy.all fun b => decide (o + d.cells ≤ b.1 ∨ b.1 + b.2 ≤ o)

/-- A link has room for an entry on its ports (R67): the OFS. -/
def fabricPlace (bank : List (Nat × Nat)) (d : Demand) (link : Nat) : Option Nat :=
  if d.op = 0 ∨ d.op = 6 then some 0
  else if slotsIn bank d.srcp true (some link) + d.cells ≤ 75 ∧ slotsIn bank d.dstp false (some link) + d.cells ≤ 75 then
    freeOfs bank link d
  else none

/-- A link has room for an entry in frame memory: CHARGE of its stack stays within 24 (R67, R176). -/
def memoryPlace (bank : List (Nat × Nat)) (d : Demand) (link : Nat) : Bool :=
  !(d.op == 2 || d.op == 3) ||
    decide (chargeIn bank ((if d.op = 2 then d.dstp else d.srcp) / 6) (some link) + charge d.cells ≤ 24)

/-- Where an entry goes: link and OFS, lowest first; or the resource that refuses it (R67, R70). -/
def placeEntry (bank : List (Nat × Nat)) (d : Demand) : Except Nat (Nat × Nat) :=
  let fits := (List.range 100).filterMap fun l => (fabricPlace bank d l).map fun o => (l, o)
  match fits.find? fun e => memoryPlace bank d e.1 with
  | some e => .ok e
  | none => .error (if fits = [] then 2 else 4)

/-- The first number below `i + fuel`, from `i`, for which `p` holds. -/
def firstFrom (p : Nat → Bool) : Nat → Nat → Option Nat
  | 0, _ => none
  | f + 1, i => if p i then some i else firstFrom p f (i + 1)

/-- The local identifier that is assigned next, of 0x0001 to 0xFFEF (R146, R148): one that has not been assigned since reset, else the one
freed longest ago, at least 192,000 ticks ago. -/
def pickId (s : State) (taken : List Nat) : Option Nat :=
  let held (i : Nat) : Bool := (SMap.find? s.fabric.desc i).isSome || taken.contains i || s.pendingTxs.any fun x => x.ids.any fun e => e.1 == i
  match firstFrom (fun i => !(held i) && (SMap.find? s.fabric.freed i).isNone) 65519 1 with
  | some i => some i
  | none =>
    ((s.fabric.freed.filter fun e => !(held e.1) && decide (e.2 + 192000 ≤ s.now)).foldl (fun (a : Option (Nat × Nat)) e =>
      match a with
      | none => some e
      | some b => if e.2 < b.2 then some e else some b) none).map (·.1)

/-- Identifiers for the streams of a transaction. -/
def pickIds (s : State) : Nat → List Nat → Option (List Nat)
  | 0, l => some l
  | n + 1, l => match s.pickId l with
    | some i => pickIds s n (l ++ [i])
    | none => none

/-- The lowest free record of a port's slot reservation table (R177), in `FabSt.slots`. -/
def pickSlot (s : State) (port : Nat) (taken : List Nat) : Option Nat :=
  let held (i : Nat) : Bool :=
    let k := port * 131072 + i
    (SMap.find? s.fabric.slots k).isSome || taken.contains k || s.pendingTxs.any fun x => x.recs.any fun e => e.1 == k
  (firstFrom (fun i => !(held i)) 131072 0).map fun i => port * 131072 + i

/-- A slot record (R177). -/
def slotRecord (d : Demand) : Nat :=
  (if d.op = 3 then 2 ^ 63 else 0) + d.mode * 2 ^ 60 + d.stack * 2 ^ 58 + charge d.cells * 2 ^ 55 + d.span * 2 ^ 26

/-- What admission has placed so far: entries, and slot records. -/
structure Placed where
  entries : List (Nat × Nat)
  recs : List (Nat × Nat)
  deriving DecidableEq, Repr

/-- Place the entries of a transaction one by one (R67, R177). -/
def placeAll (s : State) (bank : List (Nat × Nat)) (ids : List Nat) (phase : Nat → Nat) : List Demand → Placed → Except Nat Placed
  | [], p => .ok p
  | d :: l, p =>
    match placeEntry (bank ++ p.entries) d with
    | .error e => .error e
    | .ok (link, ofs) =>
      let mem := d.op == 2 || d.op == 3
      let port := if d.op = 2 then d.dstp else d.srcp
      match (if mem then s.pickSlot port (p.recs.map (·.1)) else some 0) with
      | none => .error 4
      | some k =>
        let arg := if mem then k % 131072 else if d.op = 5 then d.arg % 1024 + 1024 * phase (d.arg % 1024) else d.arg
        let w := entWord d.op d.srcp d.dstp (if d.op = 6 then 1 else d.cells) ofs d.dem (if d.op = 0 then 0 else ids.getD d.stream 0) arg
        placeAll s bank ids phase l ⟨p.entries ++ [(link, w)], if mem then p.recs ++ [(k, slotRecord d)] else p.recs⟩

/-- The extents of a transaction (R183, R184): bases in the order asked, and the state with them allocated. -/
def allocateAll (s : State) : List MemReq → Option (List (Nat × Nat × Nat) × State)
  | [] => some ([], s)
  | m :: l => match s.allocate m.stack m.bytes m.owner with
    | none => none
    | some (b, t) => (allocateAll t l).map fun r => ((b, m.bytes, m.owner) :: r.1, r.2)

/-- The terms of a block. -/
def blockTerms (s : State) (b : Nat) : Nat := ((List.range 16).map fun c => s.chanTerms (16 * b + c)).foldl (· + ·) 0

/-- A block is in the chain: it has an AMX entry (R316). -/
def amxEntry (s : State) (b : Nat) : Option (Nat × Nat) :=
  s.committed.find? fun e => entOp e.2 == 5 && entArg e.2 % 1024 == b

/-- Blocks of 16 channels whose term count rises: block, new count, and the terms added; in descending order of the count, ties by
block (R316). -/
def risingBlocks (s t : State) : List (Nat × Nat × Nat) :=
  let blocks := (t.termChans.map (· / 16)).eraseDups
  let l := blocks.filterMap fun b =>
    let n := t.blockTerms b
    let o := s.blockTerms b
    if o < n then some (b, n, n - o) else none
  l.foldl (fun a e =>
    let before (x : Nat × Nat × Nat) : Bool := decide (e.2.1 < x.2.1 ∨ (e.2.1 = x.2.1 ∧ x.1 < e.1))
    a.filter before ++ [e] ++ a.filter fun x => !(before x)) []

/-- Tick phases of a matrix sample period (R53). -/
def phases (s : State) : Nat := if s.rate96 then 2 else 4

/-- Committed terms of a phase (R316, R343). -/
def phaseTerms (s : State) (p : Nat) : Nat := natBE (slice (s.bs O0C.PHASE_TERMS) (4 * p) 4)

/-- The phases of the rising blocks: block, added terms and phase (R316). -/
def placeBlocks (s : State) : List (Nat × Nat × Nat) → (Nat → Nat) → List (Nat × Nat × Nat)
  | [], _ => []
  | e :: l, load =>
    let own := s.blockTerms e.1
    let there := s.n (O0C.BLOCK_PHASE e.1)
    let load1 (p : Nat) : Nat := if p = there ∧ (s.amxEntry e.1).isSome then load p - own else load p
    let best := (List.range s.phases).foldl (fun a p => if load1 p < load1 a then p else a) 0
    (e.1, e.2.2, best) :: placeBlocks s l fun p => if p = best then load1 p + e.2.1 else load1 p

/-- Media cells per tick committed on a trunk lane, out or in (R450). -/
def laneCells (s : State) (lane : Nat) (out : Bool) : Nat :=
  let on (d : Desc) : Nat := if (if out then d.trunkOut else d.trunkIn) = lane then d.reserve else 0
  ((s.fabric.desc.map fun e => on e.2) ++ (s.pendingTxs.flatMap fun x => x.ids.map fun e => on e.2)).foldl (· + ·) 0

/-- A furlong direction would pass its admissible media (R450). -/
def trunkFull (s : State) (l : List StreamReq) : Bool :=
  s.trunks.any fun lane => [true, false].any fun out =>
    let more := (l.map fun r => if (if out then r.trunkOut else r.trunkIn) = lane then r.reserve else 0).foldl (· + ·) 0
    more != 0 && decide (s.n (O12.MEDIA_CAPACITY lane) < s.laneCells lane out + more)

/-- MEDIA_CELLS of every furlong (R450). -/
def countLanes (s : State) : State :=
  s.forEach s.trunks fun t l => t.setBytes (O12.MEDIA_CELLS l) (d16 (s.laneCells l true) ++ d16 (s.laneCells l false))

/-- The ARG of an entry whose operand the route compiler gives (R53). -/
def argOk (s : State) (d : Demand) : Bool :=
  match d.op with
  | 0 => d.arg == 0
  | 1 => d.arg == 0
  | 4 => decide (d.arg < 65536 ∧ d.arg / 256 < byMember s.member 256 128 48 ∧ d.arg / 16 % 16 ≤ 5 ∧ d.arg % 16 ≠ 0)
  | 5 => decide (d.arg < if s.rate96 then 512 else 1024)
  | 6 => decide (1 ≤ d.arg ∧ d.arg ≤ 255) && d.srcp == d.dstp && portClient s.member d.srcp == 4
  | _ => true

/-- An entry that reads or writes frame memory: its port serves its stack, and its reservation is split into entries of 16 cells (R166,
R176, R177). -/
def memoryOk (s : State) (d : Demand) : Bool :=
  let port := if d.op = 2 then d.dstp else d.srcp
  !(d.op == 2 || d.op == 3) ||
    (portClient s.member port == 1 && d.stack == port / 6 && decide (d.cells ≤ 16 ∧ d.mode ≤ 4) &&
      (if d.mode = 1 ∨ d.mode = 3 then decide (1 ≤ d.span ∧ d.span < 4194304) else d.span == 0))

/-- DEM of an entry: 1 for video reads and writes and for clip transfers, 0 for audio, ancillary, bushel and packet work (R54, R186). -/
def demOk (p : Plan) (d : Demand) : Bool :=
  let video := ((p.streams[d.stream]?).map (·.kind)).getD 0 == 0
  if d.op = 2 ∨ d.op = 3 then d.dem == (video || d.srcp == 63 || d.dstp == 63) else d.op == 1 && video || !d.dem

/-- A demand spells an entry: no reserved OP, CELLS or ARG, and ports that have a client (R51 to R54, R76, R140). -/
def demandOk (s : State) (p : Plan) (d : Demand) : Bool :=
  decide (d.op ≤ 6 ∧ 1 ≤ d.cells ∧ d.cells ≤ 78) && portClient s.member d.srcp != 0 && portClient s.member d.dstp != 0 &&
  s.argOk d && s.memoryOk d && demOk p d && (d.op == 0 || decide (d.stream < p.streams.length))

/-- A stream spells a descriptor: no reserved KIND, fields within their bits, and ports that have a client (R140, R142, R149). -/
def streamOk (s : State) (r : StreamReq) : Bool :=
  decide (r.kind ≤ 4 ∧ r.origin < 1024 ∧ r.lineBytes < 65536 ∧ r.lines < 8192 ∧ 1 ≤ r.reserve ∧ r.reserve < 4096 ∧ r.frames ≤ 15 ∧
    r.base < 2 ^ 26) && (r.kind == 0 || (r.lineBytes == 0 && r.lines == 0)) &&
  portClient s.member r.srcp != 0 && portClient s.member r.dstp != 0

/-- The entries of a stream that read, or that write, frame memory: at most one of them has fewer than 16 cells (R176). -/
def splitOk (p : Plan) (j op : Nat) : Bool :=
  decide ((p.adds.filter fun d => d.op == op && d.stream == j && d.cells != 16).length ≤ 1)

/-- The route compiler's work spells entries and descriptors alone (R14, R51 to R54, R142). -/
def planOk (s : State) (p : Plan) : Bool :=
  p.adds.all (s.demandOk p) && p.streams.all s.streamOk &&
  (List.range p.streams.length).all fun j => splitOk p j 2 && splitOk p j 3

/-- A reservation as entries of `unit` cells and one for the remainder (R67, R176). -/
def splitDemands (op srcp dstp cells unit stream arg mode : Nat) : List Demand :=
  (List.range (ceilDiv cells unit)).map fun i =>
    { op := op, srcp := srcp, dstp := dstp, cells := min unit (cells - unit * i), dem := op == 2 || op == 3, stream := stream, arg := arg,
      stack := (if op = 2 then dstp else srcp) / 6 % 4, mode := mode, span := 0 }

/-- The frame-memory port of a stack with the fewest committed slots in a direction, the lowest first (log entry 23). -/
def stackPort (s : State) (h : Nat) (out : Bool) : Nat :=
  let load (p : Nat) : Nat := (s.committed.map fun e =>
    if entOp e.2 ≠ 0 ∧ entOp e.2 ≠ 6 ∧ (if out then entSrc e.2 else entDst e.2) = p then entCells e.2 else 0).sum
  (List.range 6).foldl (fun a i => if load (6 * h + i) < load a then 6 * h + i else a) (6 * h)

/-- What a receiver's buffer is known by: its extent's owner, and the streams that write it and read it for the audio engine (R371, R373). -/
def rxDest (i : Nat) : Nat := 0x4000 + i

/-- Where a source of this device is stored: base, depth in frames, MODE, and the plan's extent where the plan asks for it (R167, R177, R185,
R371); none where it is no frame-memory buffer that the state or the plan holds. -/
def sourceBuffer (t : State) (p : Plan) (src : Nat) : Option (Nat × Nat × Nat × Option Nat) :=
  if epDevice src ≠ t.deviceId then none
  else match epType src with
  | 1 => some (syncBase t.member (epInst src), 3, 0, none)
  | 2 => some (t.n (O05.CLIP_BASE (0x100 + epInst src)), 1, 2, none)
  | 3 =>
    let owner := rxDest (epInst src)
    let frames := t.rxFrames (epInst src)
    match (p.memory.zipIdx.find? fun m => m.1.owner == owner), t.fmem.extents.find? fun e => e.2.2 == owner with
    | some (m, j), _ => some (m.stack.getD 0 * stackBytes, frames, 0, some j)
    | none, some e => some (e.1, frames, 0, none)
    | none, none => none
  | _ => none

/-- The fabric port of a destination (R139). -/
def destPort (d : Nat) : Nat := if d < 0x100 then 24 + d / 48 else 44 + (d - 0x100) / 256

/-- The slots that a plan gives a destination's streams. -/
def planCells (p : Plan) (d : Nat) : Nat :=
  ((p.adds.filter fun e => (e.op == 1 || e.op == 3) && ((p.streams[e.stream]?).map fun r => tagPath r.dest).getD 0xFFFF == d &&
    ((p.streams[e.stream]?).map (·.kind)).getD 0 == 0).map (·.cells)).sum

/-- A stream of video on this device (R149, R167). -/
def videoStream (t : State) (srcp dstp fmt cells base frames dest : Nat) : StreamReq :=
  { kind := 0, srcp := srcp, dstp := dstp, origin := t.deviceId, lineBytes := lineBytes fmt, lines := fmtGroupLines fmt,
    interlaced := fmtScan fmt == 1, reserve := cells, frames := frames, base := base / 4096, mem := none, dest := dest,
    trunkIn := 0xFFFF, trunkOut := 0xFFFF, originId := 0, label := 0 }

/-- Pecks of a bushel that a bank's entries do not use (R53, R249); none of a FAILED one (R275). -/
def pecksFree (s : State) (bank : List (Nat × Nat)) (b : Nat) : List Nat :=
  if s.n (O09.BUSHEL_STATE (0xB00 + b)) = 2 then []
  else
    let mask := ((bank.filter fun e => entOp e.2 == 4 && field (entArg e.2) 15 8 == b).map fun e => field (entArg e.2) 3 0).foldl (· ||| ·) 0
    (List.range 4).filter fun k => !mask.testBit k

/-- A peck mask (R53). -/
def peckMask (l : List Nat) : Nat := (l.map fun k => 2 ^ k).sum

/-- The bushels of a function of `need` pecks, with their masks (R250): the bushel of the function before it where its free pecks allow, else as
few bushels as possible, the lowest first. The first argument bounds their number. -/
def fitFunction (n : Nat) : Nat → List (Nat × List Nat) → Nat → Option Nat → List (Nat × Nat)
  | 0, _, _, _ => []
  | f + 1, free, need, prev =>
    if need = 0 then []
    else
      let fits (e : Nat × List Nat) : Bool := decide (need ≤ e.2.length)
      let most := free.foldl (fun (a : Option (Nat × List Nat)) e => match a with
        | none => if e.2 = [] then none else some e
        | some x => if x.2.length < e.2.length then some e else some x) none
      let best := match free.find? fun e => some e.1 == prev && fits e with
        | some e => some e
        | none => match free.find? fits with
          | some e => some e
          | none => most
      match best with
      | none => []
      | some (b, l) =>
        let mine := l.take need
        let left := free.map fun e => if e.1 = b then (b, e.2.filter fun k => !(mine.contains k)) else e
        (b, peckMask mine) :: fitFunction n f left (need - mine.length) none

/-- A function of a path with its bushels: step, bushels and masks. -/
abbrev Placing := Nat × List (Nat × Nat)

/-- The functions of a chain on the pool, one after another (R250): the consecutive ones of one bushel together. -/
def fitChain (bushels : Nat) : List (Nat × Nat) → List (Nat × List Nat) → List Placing → List Placing
  | [], _, l => l
  | (step, need) :: rest, free, l =>
    let prev := (l.getLast?.bind fun e => e.2.getLast?).map (·.1)
    let got := fitFunction bushels (need + 1) free need prev
    let left := free.map fun e => (e.1, e.2.filter fun k => !((got.filter fun g => g.1 == e.1).any fun g => g.2.testBit k))
    let l' := match l.getLast?, got with
      | some (k, [(b, m)]), [(c, n)] => if b = c then l.dropLast ++ [(k, [(b, m ||| n)])] else l ++ [(step, got)]
      | _, _ => l ++ [(step, got)]
    fitChain bushels rest left l'

/-- Cells per tick of lines of a picture (R58). -/
def picCells (width : Nat) (p : Pic) : Nat :=
  ceilDiv (width * p.nt * p.pn) (24576000 * p.pd * (if p.inter then 2 else 1))

/-- The fabric port of a bushel (R139). -/
def bushelPort (b : Nat) : Nat := 28 + b / 16

/-- A stream of pictures in the pool (R251, R273). -/
def picStream (t : State) (srcp dstp width : Nat) (p : Pic) (tag : Nat) : StreamReq :=
  { t.videoStream srcp dstp 0 (picCells width p) 0 0 tag with lineBytes := width, lines := p.lines }

/-- The entries of a stream that several bushels make: each its share, under its own ARG (R53, R250). -/
def shareEntries (from_ : List (Nat × Nat)) (masks : Nat → Nat) (step dstp cells stream : Nat) : List Demand :=
  let n := max 1 from_.length
  from_.zipIdx.flatMap fun e =>
    let share := cells * (e.2 + 1) / n - cells * e.2 / n
    splitDemands 4 (bushelPort e.1.1) dstp share 75 stream (e.1.1 * 256 + step * 16 + masks e.1.1) 0

/-- The rings of a chain: step, code, the picture that it holds and the one that it makes (R273); none for an FRC that comes first and reads a clip. -/
def chainRings (c : Conv) (clip : Bool) (chain : List Nat) : List (Nat × Nat × Pic × Pic) :=
  let pics := chainPics c.last c.outW c.outH chain c.first
  let first := ((chain.zipIdx.find? fun e => e.1 != 6).map (·.2)).getD 6
  (chain.zip pics).zipIdx.filterMap fun (e : (Nat × Pic) × Nat) =>
    if e.1.1 = 1 ∨ (isFrc e.1.1 ∧ ¬ (clip ∧ e.2 = first)) then some (e.2, e.1.1, e.1.2, stepPic c.last c.outW c.outH e.1.1 e.1.2) else none

/-- The window of an FRC that reads it from a clip, or the ring of a function: its extent, its write, and its reads for every bushel of the
function (R251, R273). -/
def completeRing (s t : State) (d bits base : Nat) (p : Plan) (e : Nat × Nat × Pic × Pic × List (Nat × Nat)) (clip : Bool) : Plan :=
  let (_, code, i, o, on) := e
  let width := i.w * bits / 8
  let frames := if code = 1 ∨ code = 4 then 4 else 3
  let want := frames * pageUp (width * i.lines)
  let h := if clip then base / stackBytes else ((s.pickStack none want).map (·.1)).getD 0
  let put := s.stackPort h false
  let get := s.stackPort h true
  let m := if clip then none else some p.memory.length
  let read : Pic := if code = 1 then i else { i with pn := o.pn, pd := o.pd }
  let tags := if code = 1 then [9, 10] else if code = 2 then [12] else if code = 3 then [12, 13] else [12, 13, 14]
  let j := p.streams.length
  let here := bushelPort ((on.head?.map (·.1)).getD 0)
  let write : List StreamReq := if clip then [] else [{ t.picStream here put width i (poolTag d (if code = 1 then 8 else 11)) with mem := m, frames := frames }]
  let reads := on.zipIdx.flatMap fun b => tags.map fun k =>
    { t.picStream get (bushelPort b.1.1) width read (poolTag d (if b.2 = 0 then k else 6)) with
      mem := m, frames := if clip then 1 else frames, base := if clip then base / 4096 else 0 }
  let ins := (reads.zipIdx.map fun r => splitDemands 3 r.1.srcp r.1.dstp r.1.reserve 16 (j + write.length + r.2) 0 (if clip then 2 else 0)).flatten
  { p with
    memory := if clip then p.memory else p.memory ++ [⟨some h, want, d⟩]
    streams := p.streams ++ write ++ reads
    adds := p.adds ++ (write.flatMap fun w => splitDemands 2 w.srcp w.dstp w.reserve 16 j 0 0) ++ ins }

/-- What a converted route needs: its functions on the pool, the first read for every bushel of the first, the pictures from bushel to bushel in
the working format, the rings, and what leaves for the destination (R250, R251, R273; log entry 25). -/
def completeConversion (s t : State) (p : Plan) (q : PathPlan) (base frames mode : Nat) (mem : Option Nat) : Plan :=
  let d := q.path
  let c := t.convOf d q.src q.fmt
  let clip := epType q.src == 2
  let bits := samplingBits (fmtSampling q.fmt)
  let pics := chainPics c.last c.outW c.outH q.chain c.first
  let needs := q.costs.zipIdx.filterMap fun e => if e.1 = 0 then none else some (e.2, e.1)
  let bank := withoutStreams s.committed p.drops ++ p.adds.filterMap fun a => if a.op = 4 then some (0, entWord 4 0 0 1 0 false 0 a.arg) else none
  let placed := fitChain s.bushels needs ((List.range s.bushels).map fun b => (b, s.pecksFree bank b)) []
  let masks (b : Nat) : Nat := ((placed.flatMap (·.2)).filter fun e => e.1 == b).foldl (fun a e => a ||| e.2) 0
  let onOf (step : Nat) : List (Nat × Nat) := (((placed.filter fun e => decide (e.1 ≤ step)).getLast?).map (·.2)).getD []
  let window := clip && ((q.chain.filter (· != 6)).head?.map isFrc).getD false
  let srcp := s.stackPort (base / stackBytes) true
  -- the first read, for every bushel of the first function
  let p := if window then p else ((placed.head?.map (·.2)).getD []).zipIdx.foldl (fun (p : Plan) b => { p with
    streams := p.streams ++ [{ t.videoStream srcp (bushelPort b.1.1) q.fmt (cellsPerTick q.fmt) base frames (if b.2 = 0 then d else poolTag d 6)
      with mem := mem }]
    adds := p.adds ++ splitDemands 3 srcp (bushelPort b.1.1) (cellsPerTick q.fmt) 16 p.streams.length 0 mode }) p
  -- from the bushels of one function to those of the next
  let p := (placed.zip (placed.drop 1)).foldl (fun (p : Plan) e =>
    let inside (b : Nat) : Bool := e.1.2.length == 1 && e.1.2.any fun x => x.1 == b
    let pic := pics.getD e.2.1 c.first
    ((e.2.2.filter fun b => !(inside b.1)).zipIdx).foldl (fun (p : Plan) b =>
      let r := t.picStream (bushelPort ((e.1.2.head?.map (·.1)).getD 0)) (bushelPort b.1.1) (6 * pic.w) pic (poolTag d (if b.2 = 0 then e.2.1 else 6))
      { p with streams := p.streams ++ [r], adds := p.adds ++ shareEntries e.1.2 masks e.1.1 r.dstp r.reserve p.streams.length }) p) p
  -- the rings
  let rings := (chainRings c clip q.chain).map fun e => (e.1, e.2.1, e.2.2.1, e.2.2.2, onOf e.1)
  let p := rings.foldl (fun p e => completeRing s t d bits base p e false) p
  let p := if window then
      match (q.chain.zip pics).zipIdx.find? fun e => isFrc e.1.1 with
      | some e => completeRing s t d bits base p (e.2, e.1.1, e.1.2, stepPic c.last c.outW c.outH e.1.1 e.1.2, onOf e.2) true
      | none => p
    else p
  -- what leaves for the destination
  match placed.getLast? with
  | none => p
  | some (step, on) =>
    let out := cellsPerTick c.dst
    let r := { t.videoStream (bushelPort ((on.head?.map (·.1)).getD 0)) (destPort d) c.dst out 0 0 (poolTag d 7) with dest := poolTag d 7 }
    { p with streams := p.streams ++ [r], adds := p.adds ++ shareEntries on masks step (destPort d) out p.streams.length }

/-- What a video route of this device needs on the fabric (R28, R58, R66): the read of the source's buffer, or its conversion, where the plan
gives the destination less; and the removal of what the destination read before. -/
def completeRoute (s t : State) (p : Plan) (q : PathPlan) : Plan :=
  let old := (s.fabric.desc.filter fun e => tagPath e.2.dest == q.path && e.2.kind == 0 && !(p.drops.contains e.1) &&
    p.later.all fun l => l.2 != e.1).map (·.1)
  let p := { p with later := p.later ++ old.map fun i => (q.path, i) }
  let cells := cellsPerTick q.fmt
  match t.sourceBuffer p q.src with
  | none => p
  | some (base, frames, mode, mem) =>
    if cells ≤ planCells p q.path then p
    else if (q.costs.filter (· != 0)) ≠ [] then s.completeConversion t p q base frames mode mem
    else
      let srcp := s.stackPort (base / stackBytes) true
      let port := destPort q.path
      { p with
        streams := p.streams ++ [{ t.videoStream srcp port q.fmt cells base frames q.path with mem := mem }]
        adds := p.adds ++ splitDemands 3 srcp port cells 16 p.streams.length 0 mode }

/-- The write reservation of an SDI input (R58, R196): none while it is disabled or a member of another input's group. -/
def inputCells (t : State) (i : Nat) : Nat :=
  if ¬ t.b (O06.IN_ENABLE i) ∨ t.inHead i ≠ i then 0
  else if t.n (O06.IN_LINK_MODE i) = 1 ∨ t.n (O06.IN_LINK_MODE i) = 2 then 211
  else classCells (t.n (O06.IN_RATE_CLASS i))

/-- The streams known by a number that are in force or admitted, and that no transaction takes out. -/
def standing (s : State) (p : Plan) (dest : Nat) : List (Nat × Desc) :=
  let l : List (Nat × Desc) := s.fabric.desc ++ s.pendingTxs.flatMap (·.ids)
  l.filter fun e => e.2.dest == dest && !(p.drops.contains e.1) && !(s.chain.removals.contains e.1) &&
    s.pendingTxs.all fun x => !(x.plan.drops.contains e.1)

/-- The write reservation of an input follows its enable, class and link mode (R196). -/
def completeInput (s t : State) (p : Plan) (i : Nat) : Plan :=
  let old := s.standing p (inputDest i)
  let cells := t.inputCells i
  if (old.map fun e => e.2.reserve).sum = cells then p
  else
    let p := { p with drops := p.drops ++ old.map (·.1) }
    if cells = 0 then p
    else
      let base := syncBase t.member i
      let dstp := s.stackPort (base / stackBytes) false
      { p with
        streams := p.streams ++ [{ t.videoStream (24 + i / 48) dstp 0 cells base 3 (inputDest i) with lineBytes := 0, lines := 0 }]
        adds := p.adds ++ splitDemands 2 (24 + i / 48) dstp cells 16 p.streams.length 0 0 }

/-- Cells per tick of the ancillary data of a source at a destination (R236): none of a source that is no SDI input, nor ANC or SDI receiver, of
this device. -/
def ancCellsPerTick (t : State) (d src : Nat) : Nat :=
  let es := t.n (O0E.ESSENCE (epInst src))
  if epDevice src ≠ t.deviceId ∨ ¬ (epType src = 1 ∨ (epType src = 3 ∧ (es = 3 ∨ es = 4))) then 0
  else match (if epType src = 1 then t.admittedFormat d (epInst src) else some (t.n (O0E.RX_FORMAT (epInst src)))) with
    | none => 0
    | some f =>
      let q := rateFrac (fmtRate f)
      ceilDiv (t.n (O08.ANC_BUDGET d) * lineGroups f * q.1 * (if fmtScan f = 1 then 2 else 1)) (192000 * q.2)

/-- The ancillary data of a destination comes from a source (R66, R236): its reservation takes the place of the old one after the switching
line. -/
def completeAnc (s t : State) (p : Plan) (e : Nat × Nat) : Plan :=
  let old := ((s.standing p e.1).filter fun x => x.2.kind == 2 && p.later.all fun l => l.2 != x.1).map (·.1)
  let p := { p with later := p.later ++ old.map fun i => (e.1, i) }
  let cells := t.ancCellsPerTick e.1 e.2
  if cells = 0 then p
  else
    let port := if epType e.2 = 3 then 44 + epInst e.2 / 256 else 24 + epInst e.2 / 48
    { p with
      streams := p.streams ++ [{ t.videoStream port (destPort e.1) 0 cells 0 0 e.1 with kind := 2, lineBytes := 0, lines := 0, interlaced := false }]
      adds := p.adds ++ splitDemands 1 port (destPort e.1) cells 75 p.streams.length 0 0 }

/-- The destinations whose ancillary source a transaction changes, with that source: those of ANC routes, and those whose ANC follows a video
route or whose budget is written (R236). -/
def ancTouched (t : State) (l : List (Key × Val)) (paths : List PathPlan) : List (Nat × Nat) :=
  let video (d : Nat) : Nat := ((paths.find? fun q => q.path == d).map (·.src)).getD (t.routedSource d)
  let own := (txRoutes l).filterMap fun e =>
    if e.2.kind = 2 ∧ e.2.ddev = t.deviceId then some (e.2.dest, if epType e.2.src = 15 then video e.2.dest else e.2.src) else none
  let word (d : Nat) : Nat := if (t.dest d).ancWait then (t.dest d).nextAnc else (t.dest d).anc
  let follow := (paths.filter fun q => epType (word q.path) == 15).map fun q => (q.path, q.src)
  let budget := (itemKeys l).filterMap fun k => if clsOf k = 8 ∧ instOf k < 0x900 ∧ parOf k = 2 then
      some (instOf k, if epType (word (instOf k)) = 15 then video (instOf k) else word (instOf k)) else none
  let brought (d src : Nat) : Nat := if epType (word d) = 15 then t.followedAnc src else src
  ((own ++ follow ++ budget).map fun e => (e.1, brought e.1 e.2)).foldl (fun a e => if a.any fun x => x.1 == e.1 then a else a ++ [e]) []

/-- The audio-engine port that serves a channel (R139, R312). -/
def audioPort (s : State) (ch : Nat) : Nat := if ch < s.ranges.top / 2 then 60 else 61

/-- The port of a block's sink (R139, R317): of an embedder its SDI port, of a sender its IP port, of another its own audio port. -/
def sinkPort (t : State) (b : Nat) : Nat :=
  match t.sinkOf b with
  | 1 => destPort ((t.embedOf b).getD 0)
  | 4 =>
    let mine (e : Key × Val) : Bool := clsOf e.1 == 0x0D && parOf e.1 == 0 && e.2.toNat != 0 &&
      decide (t.n (O0D.CHANNEL_BASE (instOf e.1)) < 16 * b + 16 ∧
        16 * b < t.n (O0D.CHANNEL_BASE (instOf e.1)) + t.n (O0D.CHANNEL_COUNT (instOf e.1)))
    destPort (0x100 + ((List.find? mine t.objs).map fun e => instOf e.1).getD 0)
  | _ => t.audioPort (16 * b)

/-- A stream of audio of one cell per tick on this device (R144, R149). -/
def audioStream (t : State) (srcp dstp dest : Nat) : StreamReq :=
  { t.videoStream srcp dstp 0 1 0 0 dest with kind := 1, lineBytes := 0, lines := 0, interlaced := false }

/-- A matrix block that has terms has an AMX entry (R316): from the audio port that serves its channels to the port of its sink (R139, R317). -/
def completeBlock (s t : State) (p : Plan) (b : Nat) : Plan :=
  if (s.amxEntry b).isSome ∨ (p.adds.any fun d => d.op == 5 && d.arg % 1024 == b) then p
  else
    let port := t.audioPort (16 * b)
    { p with
      streams := p.streams ++ [t.audioStream port (t.sinkPort b) 0xFFFF]
      adds := p.adds ++ [{ op := 5, srcp := port, dstp := t.sinkPort b, cells := 1, dem := false, stream := p.streams.length, arg := b,
                           stack := 0, mode := 0, span := 0 }] }

/-- The largest delay of a block's line in samples: BLOCK_DELAY, and the largest of the mode where its audio follows a route (R239, R326). -/
def lineDelay (t : State) (b : Nat) (routed : Nat → Bool) : Nat :=
  let most : Nat := match (t.followed b).filter routed with
    | some g => if t.sinkOf b ≠ 1 then 0 else if t.n (O08.AV_DELAY_MODE g) = 1 then 2 * t.matrixHz else t.n (O08.AV_DELAY g)
    | none => 0
  most + t.n (O0C.BLOCK_DELAY b)

/-- The delay line of a block as a transaction leaves it (R239, R326): its extent in the general region, which is a ring, and its write and
read streams of one cell per tick. An extent of another size takes the place of the old one. -/
def completeLine (s t : State) (routed : Nat → Bool) (p : Plan) (b : Nat) : Plan :=
  let want := pageUp (64 * t.lineDelay b routed)
  let old := s.standing p (lineDest b)
  let have_ := ((s.fmem.extents.filter fun e => old.any fun d => d.2.base * 4096 == e.1).map (·.2.1)).sum
  if want = have_ then p
  else
    let p := { p with drops := p.drops ++ old.map (·.1) }
    if want = 0 then p
    else
      let h := ((s.pickStack none want).map (·.1)).getD 0
      let port := t.audioPort (16 * b)
      let put := s.stackPort h false
      let get := s.stackPort h true
      let j := p.streams.length
      let m := some p.memory.length
      let ring (op srcp dstp j : Nat) : List Demand :=
        (splitDemands op srcp dstp 1 16 j 0 1).map fun d => { d with dem := false, span := want / 4096 }
      { p with
        memory := p.memory ++ [⟨some h, want, lineDest b⟩]
        streams := p.streams ++ [{ t.audioStream port put (lineDest b) with mem := m }, { t.audioStream get port (lineDest b) with mem := m }]
        adds := p.adds ++ ring 2 port put j ++ ring 3 get port (j + 1) }

/-- What a receiver takes follows its objects (R362, R369, R371, R373, R374): a VIDEO or SDI receiver writes a ring of frames in the general
region; an audio receiver writes a buffer that the audio engine reads; a DATA receiver passes its cells to FP62. -/
def completeReceiver (s t : State) (p : Plan) (i : Nat) : Plan :=
  let old := s.standing p (rxDest i)
  let (kind, cells, want) := t.rxNeed i
  let have_ := ((s.fmem.extents.filter fun e => e.2.2 == rxDest i).map (·.2.1)).sum
  if old.all (fun e => e.2.kind == kind && e.2.reserve == cells) && (cells == 0) == (old == []) && want == have_ then p
  else
    let p := { p with drops := p.drops ++ old.map (·.1) }
    let imp := 44 + i / 256
    let j := p.streams.length
    let m := some p.memory.length
    let h := ((s.pickStack none want).map (·.1)).getD 0
    let put := s.stackPort h false
    let frames := t.rxFrames i
    let f := t.n (O0E.RX_FORMAT i)
    if cells = 0 then p
    else if kind = 0 then
      { p with
        memory := p.memory ++ [⟨some h, want, rxDest i⟩]
        streams := p.streams ++ [{ t.videoStream imp put f cells 0 frames (rxDest i) with mem := m }]
        adds := p.adds ++ splitDemands 2 imp put cells 16 j 0 0 }
    else if kind = 1 then
      let get := s.stackPort h true
      let port := t.audioPort (t.n (O0E.CHANNEL_BASE i))
      let ring (op srcp dstp j : Nat) : List Demand :=
        (splitDemands op srcp dstp cells 16 j 0 1).map fun d => { d with dem := false, span := want / 4096 }
      { p with
        memory := p.memory ++ [⟨some h, want, rxDest i⟩]
        streams := p.streams ++ [{ t.audioStream imp put (rxDest i) with mem := m, reserve := cells },
          { t.audioStream get port (rxDest i) with mem := m, reserve := cells }]
        adds := p.adds ++ ring 2 imp put j ++ ring 3 get port (j + 1) }
    else
      { p with
        streams := p.streams ++ [{ t.audioStream imp 62 (rxDest i) with kind := 4, reserve := cells }]
        adds := p.adds ++ splitDemands 1 imp 62 cells 75 j 0 0 }

/-- Packets that the RELEASE entries of a sender may hand over in a tick (R53, R394): of what is released at the flow's rate twice what a tick
holds, so that the lines between pictures leave room; of ANC and DATA 255 (log entry 41). -/
def releaseBudget (t : State) (i : Nat) : Nat :=
  let q := flowPackets (t.n (O0D.ESSENCE i)) (t.n (O0D.SEND_FORMAT i)) (t.n (O0D.SEND_PAYLOAD i)) (t.n (O0D.AUDIO_LEVEL i)) (t.n (O0D.CHANNEL_COUNT i))
  if q.2.1 = 0 then 255 else 2 * ceilDiv q.2.1 (192000 * max 1 q.2.2)

/-- The RELEASE entries of a sender follow its objects (R53, R364, R394). -/
def completeSender (s t : State) (p : Plan) (i : Nat) : Plan :=
  let old := (s.standing p (0x100 + i)).filter fun e => e.2.kind == 4
  let port := 44 + i / 256
  let budget := if t.b (O0D.SEND_ENABLE i) then t.releaseBudget i else 0
  let entries := (List.range (ceilDiv budget 255)).map fun k => min 255 (budget - 255 * k)
  let now := (s.committed.filter fun e => entOp e.2 == 6 && old.any fun x => x.1 == entStream e.2).map fun e => entArg e.2 % 256
  if now = entries ∧ (old == []) = (budget == 0) then p
  else
    let p := { p with drops := p.drops ++ old.map (·.1) }
    let j := p.streams.length
    if budget = 0 then p
    else { p with
      streams := p.streams ++ [{ t.audioStream port port (0x100 + i) with kind := 4 }]
      adds := p.adds ++ (entries.map fun b => { op := 6, srcp := port, dstp := port, cells := 1, dem := false, stream := j, arg := b,
                                                stack := 0, mode := 0, span := 0 }) }

/-- The cell per tick that a universe's packets take from FP62 to its sender's port (R363, R501). -/
def completeUniverse (s t : State) (p : Plan) (u : Nat) : Plan :=
  let old := s.standing p (0x3800 + u)
  let port := 44 + t.n (O15.UNIV_TX_SENDER u) / 256
  let want := if t.univSends u then [port] else []
  if (old.map fun e => e.2.dstp) = want then p
  else { p with
    drops := p.drops ++ old.map (·.1)
    streams := p.streams ++ want.map fun d => { t.audioStream 62 d (0x3800 + u) with kind := 4 }
    adds := p.adds ++ want.flatMap fun d => splitDemands 1 62 d 1 75 p.streams.length 0 0 }

/-- The read of a clip player follows the clip that it names (R328): 1 cell per tick. -/
def completePlayer (s t : State) (p : Plan) (i : Nat) : Plan :=
  let clip := t.n (O0C.PLAYER_CLIP i)
  let p := { p with drops := p.drops ++ (s.standing p (playerDest i)).map (·.1) }
  if clip = 0xFFFF then p
  else
    let base := t.n (O05.CLIP_BASE (0x100 + clip))
    let get := s.stackPort (base / stackBytes) true
    let port := t.audioPort (t.ranges.clip + 64 * (i - 0x500))
    { p with
      streams := p.streams ++ [{ t.audioStream get port (playerDest i) with base := base / 4096 }]
      adds := p.adds ++ (splitDemands 3 get port 1 16 p.streams.length 0 2).map fun d => { d with dem := false } }

/-- The blocks whose delay lines a transaction may change (R239, R326): those whose delay it writes, and the embedding blocks of outputs that it
routes or whose followed delay it writes. -/
def linesTouched (t : State) (l : List (Key × Val)) (paths : List PathPlan) : List Nat :=
  let embed (g : Nat) : List Nat := (List.range (t.ranges.e / 16)).map fun j => (t.ranges.sdi + t.ranges.e * g) / 16 + j
  (((itemKeys l).flatMap fun k =>
    if clsOf k = 0x0C ∧ instOf k < 0x400 ∧ parOf k = 0x080 then [instOf k]
    else if clsOf k = 0x08 ∧ instOf k < 0x100 ∧ 3 ≤ parOf k ∧ parOf k ≤ 5 then embed (instOf k)
    else []) ++ (paths.filter fun q => decide (q.path < 0x100)).flatMap fun q => embed q.path).eraseDups

/-- What the route compiler makes of a transaction: the plan that came with it, and every load of its routes, its inputs, its flows, its matrix
blocks, delay lines and players that the plan leaves out (R28, R58, R196, R316, R362; log entry 23). -/
def completePlan (s t : State) (x : Tx) (paths : List PathPlan) (rising : List Nat) : Plan :=
  let insts (cls : Nat) : List Nat := ((itemKeys x.items).filterMap fun k => if clsOf k = cls then some (instOf k) else none).eraseDups
  let players := ((itemKeys x.items).filterMap fun k =>
    if clsOf k = 0x0C ∧ 0x500 ≤ instOf k ∧ instOf k < 0x600 ∧ parOf k = 0 then some (instOf k) else none).eraseDups
  let routed (g : Nat) : Bool := paths.any (fun q => q.path == g && epType q.src != 0) || epType (t.routedSource g) != 0
  let p := (insts 0x0E).foldl (s.completeReceiver t) x.plan
  let p := paths.foldl (s.completeRoute t) p
  let p := (insts 0x06).foldl (s.completeInput t) p
  let p := (insts 0x0D).foldl (s.completeSender t) p
  let p := ((insts 0x15).filter (· < 0x400)).foldl (s.completeUniverse t) p
  let p := (t.ancTouched x.items paths).foldl (s.completeAnc t) p
  let p := rising.foldl (s.completeBlock t) p
  let p := (t.linesTouched x.items paths).foldl (s.completeLine t routed) p
  players.foldl (s.completePlayer t) p

/-- The limits of the table of R67, in the order of the outline, then those of R362, R393 and R450: the transaction with what it
takes and the state with its extents allocated, or LAST_REFUSAL's value and IP_LAST_REFUSAL's where one names the port. -/
def admitTx (s t : State) (x : Tx) (paths : List PathPlan) : Except (Nat × Option Nat) (Tx × State) :=
  let after := (s.applyValues x.items).applyRoutes x.items paths
  let rising := s.risingBlocks after
  let p := s.completePlan t x paths (rising.map (·.1))
  let bank := withoutStreams s.committed p.drops
  let terms := s.placeBlocks rising s.phaseTerms
  let phaseOf (b : Nat) : Nat := ((terms.find? fun (e : Nat × Nat × Nat) => e.1 == b).map fun (e : Nat × Nat × Nat) => e.2.2).getD 0
  let moved := rising.filterMap fun e => match s.amxEntry e.1 with
    | some o => if entArg o.2 / 1024 % 4 = phaseOf e.1 then none else some o
    | none => none
  let again := moved.map fun o =>
    (o.1, entWord 5 (entSrc o.2) (entDst o.2) (entCells o.2) (entOfs o.2) (entDem o.2) (entStream o.2)
      (entArg o.2 % 1024 + 1024 * phaseOf (entArg o.2 % 1024)))
  let ids := s.pickIds p.streams.length []
  let back := ((paths.filter fun q => p.later.all fun e => e.1 != q.path).map fun q => s.n (O09.PECKS_USED q.path)).foldl (· + ·) 0
  if portFull bank p.adds then .error (1, none)
  else match s.placeAll bank (ids.getD []) phaseOf p.adds ⟨[], []⟩, s.allocateAll p.memory with
    | .error e, _ => .error (e, none)
    | _, none => .error (4, none)
    | .ok pl, some (takes, u) =>
      let whole := bank ++ pl.entries
      match ids with
      | none => .error (0x103, none)
      | some ids =>
        if 262144 < whole.length ∨ 5120 < linkPeak (fun l => (whole.filter (·.1 == l)).length) then .error (3, none)
        else if 4 * s.inService + back < s.n O09.PECKS_COMMITTED + (paths.flatMap (·.costs)).foldl (· + ·) 0 then .error (5, none)
        else if s.n O0C.TERMS_CAPACITY < s.n O0C.TERMS_COMMITTED + (rising.map (·.2.2)).foldl (· + ·) 0 then .error (6, none)
        else match t.ipRefusal with
          | some v => .error (0, some v)
          | none =>
            if s.trunkFull p.streams then .error (0, none)
            else
              let descs := p.streams.map fun r =>
                Machine.StreamReq.desc r (match r.mem with
                  | some j => (takes.getD j (0, 0, 0)).1 / 4096
                  | none => r.base)
              .ok ({ x with plan := p, placed := again ++ pl.entries, unplaced := moved, ids := ids.zip descs, recs := pl.recs, takes := takes,
                            paths := paths, terms := terms }, u)

/-- A refusal for capacity is recorded: LAST_REFUSAL, event 0x043 where no identifier is eligible, and IP_LAST_REFUSAL (R70, R148, R362). -/
def refused (s : State) (e : Nat × Option Nat) : State :=
  let t := s.setN O01.LAST_REFUSAL (e.1 % 0x100)
  let t := if e.1 = 0x103 then t.raise 0x043 noInst [] else t
  match e.2 with
  | some v => t.ipRefused v
  | none => t

end State
end Sys2Proof.Machine
end

