-- ==== Sys2Proof/Machine/Chain.lean ====
section
/-! DEFINITION. Transactions from commit to completion: the queue, the shadow bank, the swap, removals, restart, and the commands of
class 01 that drive them (R60 to R75, R240, R276, R277). -/

namespace Sys2Proof.Machine

/-- A transaction that has nothing yet. -/
def Tx.blank (origin : Origin) (items : List (Key × Val)) : Tx :=
  { id := 0, origin := origin, items := items, count := items.length, bytes := 0, fail := 0, touched := 0, act := none, order := 0,
    plan := Plan.empty, readmitted := false, jseq := none, persistent := false, applied := 0, placed := [], ids := [], recs := [],
    takes := [], unplaced := [], paths := [], terms := [], written := false, salvo := 0xFFFF }

/-- A transaction that a host, a cue, a job or a domain epoch committed. -/
def Tx.hosted (x : Tx) : Bool :=
  match x.origin with
  | .neloas => false
  | _ => true

/-- A transaction that counts against the queue of 64: Neloas's own do not, nor do re-admissions (R62). -/
def Tx.counted (x : Tx) : Bool := x.hosted && !x.readmitted

/-- Neloas's transaction that only removes reservations, or only carries a new seed (R66, R456). -/
def Tx.isRemoval (x : Tx) : Bool := !x.hosted && x.items == [] && x.paths == [] && decide (x.plan = Plan.empty)

/-- Entries in link order, the order within a link kept. -/
def inLinkOrder (l : List (Nat × Nat)) : List (Nat × Nat) := (List.range 100).flatMap fun k => l.filter fun e => e.1 == k

namespace State

/-- Change the chain's own state. -/
def onChain (s : State) (f : ChainSt → ChainSt) : State := { s with chain := f s.chain }

/-- STREAMS_ACTIVE: the identifiers that are assigned, at admission or in force (R148, R160). -/
def countIds (s : State) : State :=
  s.setN O04.STREAMS_ACTIVE (s.fabric.desc.length + (s.pendingTxs.map fun x => x.ids.length).sum)

/-- What classes 04, 09, 0C and 12 report of committed work (R67, R148, R280, R316, R450). -/
def countCommitted (s : State) : State := s.poolCount.countTerms.countLanes.countIds

/-- Reservations wait for their removal (R66, R322). -/
def needsRemoval (s : State) : Bool := s.chain.removals != [] || s.amx.leaving != []

/-- A transaction enters the queue with the next commit order. -/
def enqueueTx (s : State) (x : Tx) : State :=
  s.onChain fun c => { c with order := c.order + 1, queue := c.queue ++ [{ x with order := c.order }] }

/-- Neloas queues an empty NEXT transaction, unless one waits (R66, R456). -/
def queueRemoval (s : State) : State :=
  if s.chain.queue.any Tx.isRemoval then s else s.enqueueTx (Tx.blank .neloas [])

/-- The tick at which a queued transaction would apply now (R64). -/
def applyTick (s : State) (x : Tx) : Nat := x.act.getD s.nextTick

/-- The queued transaction that would apply earliest; ties go to the earlier commit (R64). -/
def earliest (s : State) : Option Tx :=
  s.chain.queue.foldl (fun a x => match a with
    | none => some x
    | some y =>
      if s.applyTick x < s.applyTick y ∨ (s.applyTick x = s.applyTick y ∧ x.order < y.order) then some x else some y) none

/-- The free shadow bank takes a transaction from the queue; one of Neloas's with nothing left to do is let go (R61, R64). The argument
bounds the number let go. -/
def pumpFrom : Nat → State → State
  | 0, s => s
  | f + 1, s =>
    match s.earliest with
    | none => s
    | some x =>
      let t := s.onChain fun c => { c with queue := c.queue.filter fun y => y.order != x.order }
      if x.isRemoval ∧ ¬ s.needsRemoval ∧ s.domain.newSeed = none then pumpFrom f t
      else (t.onChain fun c => { c with cur := some x }).setN O01.SHADOW_STATE 2

/-- Whenever the shadow bank is FREE, Neloas starts the next transaction (R61, R64, R66). -/
def pump (s : State) : State :=
  if s.n O01.SHADOW_STATE ≠ 0 then s
  else
    let t := if s.needsRemoval then s.queueRemoval else s
    pumpFrom (t.chain.queue.length + 1) t

/-- What admission took goes back: extents and identifiers (R148, R184). -/
def release (s : State) (x : Tx) : State :=
  let t := s.forEach x.takes fun t e => t.freeExtent e.1
  { t with fabric := { t.fabric with freed := x.ids.foldl (fun m e => m.put e.1 t.now) t.fabric.freed } }

/-- A participant's part ends: `cause` is 0 where it applied, else that of NOT-APPLIED (R465, R472). -/
def reportPart (s : State) (epoch act cause : Nat) : State :=
  let master := ((s.domain.parts.find? fun p => p.epoch == epoch).map (·.master)).getD 0xFFFF
  let t := s.onDomain fun d => { d with parts := d.parts.filter fun p => p.epoch != epoch }
  let t := if cause = 0 then
      let u := ((t.setN O13.LAST_EPOCH epoch).onDomain fun d => { d with lineage := master }).raise 0x134 noInst (d32 epoch)
      -- a catch-up epoch ends RESYNC (R460)
      if u.domainState = 3 then (u.setDomain 4).raise 0x138 (u.n O13.DEVICE_ID) [] else u
    else (t.flag O13.DOMAIN_FLAGS 8).raise 0x135 noInst (d32 epoch ++ d8 cause)
  let own := t.n O13.DEVICE_ID
  if t.isMaster then (if cause = 0 then t.gotApplied epoch own act else t.gotNotApplied epoch own cause)
  else if t.isMember ∧ t.parentLane.isSome then (if cause = 0 then t.sendUp 5 own epoch (d64 act) else t.sendUp 6 own epoch (d8 cause))
  else t.onDomain fun d => { d with owed := d.owed ++ [(epoch, act, cause)] }

/-- The completion of a committed transaction: status, and applied tick or 0 (R520, R540, R543). -/
def finish (s : State) (x : Tx) (status tick : Nat) : State :=
  let t := if x.salvo = 0xFFFF then s
    else
      let u := s.setN (O08.SALVO_LAST_STATUS x.salvo) status
      if status = OK then u.setN (O08.SALVO_LAST_TICK x.salvo) tick
      else u.raise 0x082 x.salvo (d8 status ++ (if status = NO_CAPACITY then d8 (s.n O01.LAST_REFUSAL) else []))
  let last := d32 x.id ++ d8 status ++ zeros 3 ++ d64 tick
  match x.origin with
  | .host sess => (t.setBytes O1C.TX_LAST last).note sess (.txDone x.id status tick)
  | .cue e r => if status = OK then t.setBytes O1C.TX_LAST last
      else (t.setBytes O1C.TX_LAST last).actionFailed e r (if x.salvo = 0xFFFF then 3 else 2) status
  | .job j =>
    match t.job? j with
    | some y => (t.setBytes O1C.TX_LAST last).setJob j { y with tx := some status }
    | none => t.setBytes O1C.TX_LAST last
  | .domain epoch => t.reportPart epoch tick (if status = OK then 0 else 6)
  | .neloas => t

/-- A committed transaction leaves without being applied (R61, R541). -/
def drop_ (s : State) (order : Nat) : State :=
  let here := (s.chain.cur.map fun x => x.order == order).getD false
  let t := s.onChain fun c => { c with cur := if here then none else c.cur, queue := c.queue.filter fun y => y.order != order }
  if here then t.setN O01.SHADOW_STATE 1 else t

/-- A committed transaction ends with a status, not applied (R49, R61, R541). -/
def withdraw (s : State) (x : Tx) (status : Nat) : State := (((s.drop_ x.order).release x).finish x status 0).countCommitted

/-- A part of a domain epoch ends, not applied (R472). -/
def withdrawPart (s : State) (x : Tx) (epoch cause : Nat) : State := (((s.drop_ x.order).release x).reportPart epoch 0 cause).countCommitted

/-- A transaction missed its seam (R61, R75). -/
def missed (s : State) (x : Tx) (status : Nat) : State := (s.withdraw x status).raise 0x018 noInst (d8 status)

/-- The written shadow bank becomes ARMED once the TRANSACTION record is programmed; NEXT is resolved (R61, R64, R520). -/
def tryArm (s : State) : State :=
  match s.chain.cur with
  | none => s
  | some x =>
    if s.n O01.SHADOW_STATE = 2 ∧ x.written ∧ (¬ x.persistent ∨ x.jseq.isSome) then
      (s.onChain fun c => { c with cur := some { x with act := some (x.act.getD s.nextTick) } }).setN O01.SHADOW_STATE 3
    else s

/-- A TRANSACTION record is programmed: its transaction may become ARMED (R520). -/
def recorded (s : State) (order jseq : Nat) : State :=
  let f (x : Tx) : Tx := if x.order = order then { x with jseq := some jseq } else x
  (s.onChain fun c => { c with cur := c.cur.map f, queue := c.queue.map f }).tryArm

/-- Streams leave: their entries, slot records, descriptors and extents go (R66, R148, R183). -/
def removeStreams (s : State) (l : List Nat) : State :=
  if l = [] then s else
  let old := s.chain.active.filter fun e => l.contains (entStream e.2)
  let keys := (old.filter fun e => entMem e.2).map fun e => (if entOp e.2 = 2 then entDst e.2 else entSrc e.2) * 131072 + entArg e.2
  let bases := (s.fabric.desc.filter fun e => l.contains e.1).map fun e => e.2.base * 4096
  let f := s.fabric
  let desc : SMap Desc := f.desc.filter fun e => !(l.contains e.1)
  let held (e : Nat × Nat × Nat) : Bool := desc.any fun d => decide (e.1 ≤ d.2.base * 4096 ∧ d.2.base * 4096 < e.1 + e.2.1)
  let mine (e : Nat × Nat × Nat) : Bool :=
    decide (e.2.2 < 0x5000) && (bases.any fun b => decide (e.1 ≤ b ∧ b < e.1 + e.2.1)) && !(held e)
  let t := (s.onChain fun c => { c with active := withoutStreams c.active l })
  let t := { t with fabric := { t.fabric with
    desc := desc
    freed := (l.filter fun i => (SMap.find? f.desc i).isSome).foldl (fun m i => m.put i s.now) f.freed
    slots := f.slots.filter fun e => !(keys.contains e.1) } }
  t.forEach ((s.fmem.extents.filter mine).map (·.1)) freeExtent

/-- What admission placed comes into force: entries, slot records and descriptors (R59, R150). -/
def placeStreams (s : State) (x : Tx) : State :=
  let t := s.onChain fun c => { c with
    active := inLinkOrder ((c.active.filter fun e => !(x.unplaced.contains e)) ++ x.placed) }
  let f := t.fabric
  let t := { t with fabric := { f with
    slots := x.recs.foldl (fun (m : SMap Nat) (e : Nat × Nat) => m.put e.1 e.2) f.slots
    freed := x.ids.foldl (fun (m : SMap Nat) (e : Nat × Desc) => m.del e.1) f.freed } }
  t.forEach x.ids fun t e =>
    let d := e.2
    if tagPath d.dest < 0x900 ∧ (t.dest (tagPath d.dest)).waiting then t.setDesc e.1 d else t.setDesc e.1 d.start

/-- Whether an FRC or DEINT of a chain differs from another's (R278). -/
def framesDiffer (a b : List Nat) : Bool := a.filter (fun c => c == 1 || isFrc c) != b.filter (fun c => c == 1 || isFrc c)

/-- A resolved path comes into force. One whose route stands primes anew only where DEINT or an FRC changes (R274, R278). -/
def applyPath (s : State) (x : Tx) (p : PathPlan) : State :=
  let d := p.path
  let old := s.n (O09.PECKS_USED d)
  let was := (s.bs (O09.FUNCS_ACTIVE d)).map (·.toNat)
  let t := if old ≠ 0 ∧ x.plan.later.any (fun e => e.1 == d) then
      { s with conv := { s.conv with overlap := s.conv.overlap ++ [(x.order, d, old)] } } else s
  let t := { t with conv := { t.conv with shed := t.conv.shed.filter (· != d) } }
  let u := t.placePath d p.src p.fmt p.chain p.costs
  let routed := (txRoutes x.items).any fun e => e.2.kind == 0 && e.2.dest == d
  if routed then u
  else
    let u := u.setDest d { u.dest d with conv := p.chain != [], fmt := p.fmt }
    if x.hosted ∧ p.chain ≠ [] ∧ was ≠ [] ∧ ¬ framesDiffer was p.chain then
      (u.setN (O09.PATH_STATE d) (s.n (O09.PATH_STATE d))).setN (O09.PATH_FLAGS d) (s.n (O09.PATH_FLAGS d))
    else u

/-- A block without an AMX entry delivers 0 in every channel, and has no phase (R316, R317). -/
def silenceBlock (s : State) (b : Nat) : State :=
  let out (e : Nat × Nat) : Bool := e.1 / 16 != b
  let t := { s with amx := { s.amx with out := s.amx.out.filter out, prev := s.amx.prev.filter out,
                                        past := s.amx.past.filter fun (e : Nat × PastSt) => e.1 / 16 != b } }
  let t := match SMap.find? t.amx.lines b with
    | some l => { t with amx := { t.amx with lines := t.amx.lines.put b { l with line := [] } } }
    | none => t
  t.setN (O0C.BLOCK_PHASE b) 0xFF

/-- AMX entries of blocks that have no terms left go with their streams (R66, R316). -/
def removeBlocks (s : State) : State :=
  let idle := s.chain.active.filter fun e => entOp e.2 == 5 && s.n (O0C.BLOCK_TERMS (entArg e.2 % 1024)) == 0 &&
    s.pendingTxs.all fun x => x.terms.all fun b => b.1 != entArg e.2 % 1024
  (s.removeStreams (idle.map fun e => entStream e.2)).forEach (idle.map fun e => entArg e.2 % 1024) State.silenceBlock

/-- Neloas copies the committed banks into the system region (R55). -/
def copyBanks (s : State) : State := s.onChain fun c => { c with activeCopy := c.active, shadowCopy := c.shadow }

/-- Post-swap initialisation: the descriptors and cursors of the streams that the last swap started, and the pools (R59, R60, R150). -/
def postSwap (s : State) : State :=
  let t := s.forEach s.chain.begun fun t e => t.onDesc e.1 fun d =>
    { d with curGroup := e.2.curGroup, frameIndex := e.2.frameIndex, moved := 0, cells := 0, substs := 0, redo := 0 }
  t.countCommitted

/-- A swap (R59, R61, R66): the transaction is in force from the tick that follows, and every removal that waits goes with it. -/
def swapIn (s : State) (x : Tx) (a : Nat) : State :=
  let gone := (x.plan.drops ++ s.chain.removals).eraseDups
  let t := (s.applyValues x.items).applyRoutes x.items x.paths
  let t := t.forEach x.paths fun t p => t.applyPath x p
  let t := (t.removeStreams gone).placeStreams x
  let t := t.forEach x.terms fun t b => t.setN (O0C.BLOCK_PHASE b.1) b.2.2
  let t := { t with amx := { t.amx with leaving := [] } }
  let t := t.onChain fun c => { c with
    cur := none, removals := [], mirrorSince := s.now, shadow := s.chain.active, begun := x.ids
    later := c.later ++ x.plan.later.map fun e => (x.order, e.1, e.2) }
  let t := { t with conv := { t.conv with overlap := t.conv.overlap.filter fun o => t.chain.later.any fun e => e.1 == o.1 } }
  let t := match t.domain.newSeed with
    | some z => t.onDomain fun d => { d with seed := z, newSeed := none }
    | none => t
  let t := ((t.setN O01.LAST_APPLIED a).bump O01.APPLY_COUNT 1).setN O01.ACTIVE_BANK (1 - t.n O01.ACTIVE_BANK)
  let t := (t.setN O01.SHADOW_STATE 1).countTerms.removeBlocks.recount.lutUsers.countCommitted.copyBanks
  let t := t.raise 0x010 noInst (d64 a ++ d32 (t.n O01.APPLY_COUNT))
  let y := { x with applied := a }
  match x.jseq with
  | some n => if x.persistent then t.addRec 3 a n [] (.done y) else t.finish y OK a
  | none => t.finish y OK a

/-- The beacon of A − 16 carried GO for a part (R65). -/
def partGo (s : State) (epoch : Nat) : Bool := s.domain.parts.any fun p => p.epoch == epoch && p.go

/-- The commit decision and the swap of a seam, seam cycles 17 to 32 (R61, R65). A transaction that is not ARMED has missed its seam. -/
def commitDecision (s : State) : State :=
  let due := s.tick64 + 1
  let late (x : Tx) : Bool := (x.act.map fun a => decide (a ≤ due)).getD false
  let t := s.forEach (s.chain.queue.filter late) fun t x => t.missed x TIMEOUT
  match t.chain.cur with
  | none => t
  | some x =>
    if ¬ late x then t
    else if t.n O01.SHADOW_STATE ≠ 3 then t.missed x TIMEOUT
    else match x.origin with
      | .domain epoch => if t.partGo epoch then t.swapIn x due else t.withdrawPart x epoch 1
      | _ => t.swapIn x due

/-- A step of TICK64 withdraws the transactions that it overtakes (R49). -/
def stepWithdraw (s : State) (new : Nat) : State :=
  s.forEach (s.pendingTxs.filter fun x => (x.act.map fun a => decide (a < new + 2)).getD false) fun t x => t.withdraw x ABORTED

/-- COMMITs, job starts and persistent writes are BUSY: before the first chain, and once a reset is accepted (R564, R565, R602). -/
def closed (s : State) : Bool := !s.accepts

/-- COMMIT of a transaction (R540): its status; PENDING where it is admitted and queued. A plan with a reserved encoding is RANGE (R51, R52,
R142). Neloas's own is never refused for a full queue (R62). -/
def commitTx (s : State) (x : Tx) (act : Nat) (plan : Plan) (from_ : Option Nat) : State × Nat :=
  match s.checkTx x.items act from_ with
  | .error e => ((if e = CONFLICT then s.protectHits (txRoutes x.items) else s), e)
  | .ok (a, t, paths) =>
    let keep := persistentItems x.items
    if ¬ s.planOk plan then (s, RANGE)
    else if s.closed then (s, BUSY)
    else if keep ≠ [] ∧ ¬ s.roomForTx keep then (s.journalFull, BUSY)
    else if x.counted ∧ 64 ≤ (s.chain.queue.filter Tx.counted).length then (s, BUSY)
    else
      let y := { x with act := a, plan := plan, persistent := keep != [] }
      match s.admitTx t y (if x.hosted then paths else x.paths ++ paths) with
      | .error e => (s.refused e, NO_CAPACITY)
      | .ok (z, u) =>
        let order := u.chain.order
        let u := u.enqueueTx z
        let u := if keep = [] then u else u.addRec 1 (a.getD 0) 0 keep (.arm order)
        (u.pump.countCommitted, PENDING)

/-- A salvo is fired (R240): its routes are one transaction. -/
def fireSalvo (s : State) (origin : Origin) (salvo act from_ : Nat) (plan : Plan) : State × Nat :=
  let items := (routesIn 64 (s.bs (O08.SALVO_ROUTES salvo))).map fun r => (O08.ROUTE_SUBMIT, Val.blob r.bytes)
  if items = [] then (s.setN (O08.SALVO_LAST_STATUS salvo) OK, OK)
  else
    let r := s.commitTx { Tx.blank origin items with salvo := salvo } act plan (some from_)
    let t := r.1.setN (O08.SALVO_LAST_STATUS salvo) r.2
    if r.2 = PENDING then (t, r.2)
    else (t.raise 0x082 salvo (d8 r.2 ++ (if r.2 = NO_CAPACITY then d8 (t.n O01.LAST_REFUSAL) else [])), r.2)

/-- A path has a function on a FAILED bushel, and no transaction that moves it waits (R276). -/
def onFailed (s : State) (d : Nat) : Bool :=
  (s.bushelUse.any fun e => e.2.2 == d && s.n (O09.BUSHEL_STATE (0xB00 + e.1)) == 2) &&
  s.pendingTxs.all fun x => x.paths.all fun p => p.path != d

/-- Neloas resolves and admits a path again (R276, R277): the shed path that comes first back, one on a failed bushel, or one whose
source changed its format. -/
def readmitPath (s : State) (d : Nat) (plan : Plan) : State :=
  let src := s.routedSource d
  let shed := s.conv.shed.contains d
  let auto := !shed && s.n (O09.PATH_MODE d) == 1 && s.b (O09.PATH_READMIT d)
  match s.routePath d src with
  | .error e => if auto then s.raise 0x092 d (d8 e) else s
  | .ok p =>
    let moved := !shed && p.fmt == (s.dest d).fmt && s.onFailed d
    if (shed ∧ s.conv.shed.head? ≠ some d) ∨ (¬ shed ∧ ¬ moved ∧ ¬ auto) then s
    else
      let r := s.commitTx { Tx.blank .neloas [] with paths := [p] } 0 plan (some s.tick64)
      if shed ∨ moved then r.1
      else if r.2 = PENDING then r.1.raise 0x091 d []
      else r.1.raise 0x092 d (d8 r.2 ++ (if r.2 = NO_CAPACITY then d8 (r.1.n O01.LAST_REFUSAL) else []))

/-- Paths are shed until the committed pecks fit the bushels in service (R276). The first argument bounds their number. -/
def shedPaths : Nat → State → State
  | 0, s => s
  | f + 1, s =>
    let t := s.poolCount
    if t.n O09.PECKS_COMMITTED ≤ 4 * t.inService then t
    else match t.shedFirst t.peckPaths with
      | some d => shedPaths f (t.shedPath d)
      | none => t

/-- The functions on FAILED bushels move to free pecks (R276). -/
def relocate (s : State) : State := s.forEach (s.peckPaths.filter s.onFailed) fun t d => t.readmitPath d Plan.empty

/-- The shed paths come back, the last shed first, as far as they are admitted (R276). The first argument bounds their number. -/
def unshed : Nat → State → State
  | 0, s => s
  | f + 1, s =>
    match s.conv.shed with
    | [] => s
    | d :: _ =>
      if s.pendingTxs.any fun x => x.paths.any fun p => p.path == d then s
      else
        let t := s.readmitPath d Plan.empty
        if t.chain.order = s.chain.order then s else unshed f t

/-- A bank is reloaded from its copy: 1 the active one, 2 the shadow (R75). -/
def reloadBank (s : State) (bank : Nat) : State :=
  s.onChain fun c => if bank = 1 then { c with active := c.activeCopy } else { c with shadow := c.shadowCopy }

/-- The activation ticks of re-admitted transactions, in order (R75): the first at the first seam, each further one 16 ticks on and 16
ticks from every other committed one. -/
def readmitTicks (others : List Nat) : Nat → List Tx → List (Tx × Nat)
  | _, [] => []
  | a, x :: l =>
    let ok (b : Nat) : Bool := decide (a ≤ b) && others.all (apart b)
    let b := ((others.map (· + 16)).filter ok).foldl (fun p q => if ok p then min p q else q) a
    (x, b) :: readmitTicks others (b + 16) l

/-- The pecks of a transaction's paths (R280). -/
def txPecks (x : Tx) : Nat := (x.paths.flatMap (·.costs)).sum

/-- Transactions in order of activation tick, ties by commit. -/
def byAct (l : List Tx) : List Tx :=
  l.foldl (fun a x =>
    let before (y : Tx) : Bool := decide (y.act.getD 0 < x.act.getD 0 ∨ (y.act.getD 0 = x.act.getD 0 ∧ y.order < x.order))
    a.filter before ++ [x] ++ a.filter fun y => !(before y)) []

/-- Re-admission one by one (R38, R75): what a transaction took at its admission stands; of what it counts on, only bushels may have left.
The pecks committed so far without those that follow, and the transactions that do not fit. -/
def refuseFrom (room : Nat) : Nat → List Tx → List Tx
  | _, [] => []
  | used, x :: l => if txPecks x ≠ 0 ∧ room < used + txPecks x then x :: refuseFrom room used l else refuseFrom room (used + txPecks x) l

/-- The transactions whose activation tick passed in SAFE HOLD are re-admitted, in order of their activation ticks (R38, R75): a part of a
domain epoch is reported (R476), and one whose pecks no longer fit is refused. -/
def readmit (s : State) : State :=
  let now := s.tick64
  let passed (x : Tx) : Bool := (x.act.map fun a => decide (a ≤ now)).getD false
  let parts := s.pendingTxs.filterMap fun x => match x.origin with
    | .domain e => if passed x then some (x, e) else none
    | _ => none
  let t := s.forEach parts fun t p => t.withdrawPart p.1 p.2 3
  let due := byAct (t.pendingTxs.filter passed)
  let refused_ := refuseFrom (4 * t.inService) (t.n O09.PECKS_COMMITTED - (due.map txPecks).sum) due
  let t := t.forEach refused_ fun t x => (t.setN O01.LAST_REFUSAL 5).missed x NO_CAPACITY
  match byAct (t.pendingTxs.filter passed) with
  | [] => t
  | x :: rest =>
    let others := t.pendingTxs.filterMap fun y => if passed y then none else y.act
    let back := readmitTicks others (now + 17) rest
    let again (y : Tx) (a : Nat) : Tx := { y with act := some a, readmitted := true, written := y.written }
    let kept := (t.pendingTxs.filter fun y => !(passed y)).map fun y => { y with written := false }
    let u := t.onChain fun c => { c with
      cur := some { again x (now + 1) with written := true }
      queue := kept ++ back.map fun e => { again e.1 e.2 with written := false } }
    (u.setN O01.SHADOW_STATE 2).tryArm

end State

/-- The last shadow-bank write is done (R61, R520). -/
def execShadowWriteDone (crcOk : Bool) (s : State) : Host.Outcome State Fault Refusal :=
  live s fun s =>
    let t := s.pump
    match t.chain.cur with
    | none => t
    | some x =>
      if t.n O01.SHADOW_STATE ≠ 2 then t
      else if ¬ crcOk then t.raise 0x019 noInst []
      else (t.onChain fun c => { c with cur := some { x with written := true } }).tryArm

/-- The copy of the active bank into the shadow is complete (R61, R62). -/
def execMirrorComplete (s : State) : Host.Outcome State Fault Refusal :=
  live s fun s =>
    if s.n O01.SHADOW_STATE = 1 then ((s.onChain fun c => { c with shadow := c.active }).copyBanks.setN O01.SHADOW_STATE 0).pump else s

/-- A salvo is fired by Neloas's host or by a command on its object (R240). -/
def execSalvoFire (salvo tick : Nat) (plan : Plan) (s : State) : Host.Outcome State Fault Refusal :=
  onInst 0x08 salvo s fun s =>
    if 0x900 ≤ salvo ∧ salvo < 0xA00 ∧ s.served then (s.fireSalvo (.host 0xFFFF) salvo tick s.tick64 plan).1 else s

/-- A path is resolved and admitted again (R276, R277). -/
def execPathReadmit (dest : Nat) (plan : Plan) (s : State) : Host.Outcome State Fault Refusal :=
  onInst 0x09 dest s fun s => if dest < 0xA00 ∧ s.phase = .running then s.readmitPath dest plan else s

/-- The chain restarts at this tick boundary (R45, R60, R75). `bad` names the banks whose CRC-32 differs from their copy. -/
def execChainRestart (bad : Nat) (s : State) : Host.Outcome State Fault Refusal :=
  live s fun s =>
    if s.n O01.CHAIN_STATE ≠ 2 then s else
    let t := s.forEach ([1, 2].filter fun b => bad / b % 2 == 1) fun t b => (t.reloadBank b).raise 0x019 noInst []
    let t := if t.chain.reinit then t.postSwap else t
    let t := { t with tick := { t.tick with tick := t.tick.aon, aonPhase := 0 } }
    let t := t.readmit
    let t := ((t.setN O01.CHAIN_STATE 0).onChain fun c => { c with reinit := false, owing := [], stalls := [] }).raise 0x013 noInst []
    let t := ((t.audioRestart.fadeEmbed false).rePrime false).cuesRestart
    ((t.forEach (t.enabledFlows 0x0D) State.resumeSender).pump).countCommitted

end Sys2Proof.Machine
end

