-- ==== Sys2Proof/Machine/Clips.lean ====
section
/-! DEFINITION. The fabric leg of clip jobs: its reservation and its end (R27, R37, R186). -/

namespace Sys2Proof.Machine
namespace State

/-- The streams and entries of a clip job's fabric leg (R54, R176, R177, R186): FP63 fetches through a frame-memory port of the clip's stack,
and sends through one, at up to `rate` cells per tick. The staging extent is a ring. -/
def clipPlan (s : State) (i rate : Nat) : Plan :=
  let h := s.n (O05.CLIP_BASE i) / stackBytes
  let load := s.n (O05.CLIP_STATE i) == 2
  let get := s.stackPort h true
  let put := s.stackPort h false
  let stream (srcp dstp : Nat) (out : Bool) : StreamReq :=
    { s.videoStream srcp dstp 0 rate (s.legBase i out) 0 (clipDest i) with
      kind := s.n (O05.CLIP_KIND i) % 2, lineBytes := 0, lines := 0, interlaced := false }
  let entries (op srcp dstp j : Nat) (ring : Bool) : List Demand :=
    (splitDemands op srcp dstp rate 16 j 0 (if ring then 1 else 2)).map fun d => { d with span := if ring then 512 else 0 }
  { Plan.empty with
    streams := [stream get 63 false, stream 63 put true]
    adds := entries 3 get 63 0 load ++ entries 2 63 put 1 (!load) }

/-- The reservation of a clip job is admitted, and not yet in force. -/
def legPending (s : State) (i : Nat) : Bool := s.pendingTxs.any fun x => x.ids.any fun e => s.isLeg i false e.2

/-- A stream of a clip job that no job has a use for. -/
def legOver (s : State) (d : Desc) : Bool :=
  decide (0x2100 ≤ d.dest ∧ d.dest < 0x2200) &&
    (let i := d.dest - 0x2000
     !((s.n (O05.CLIP_STATE i) == 2 || s.n (O05.CLIP_STATE i) == 5) && (s.isLeg i false d || s.isLeg i true d)))

/-- The streams of clip jobs that have ended wait for their removal (R66, R186). -/
def dropLegs (s : State) : State :=
  let l := (s.fabric.desc.filter fun e => s.legOver e.2 && !(s.chain.removals.contains e.1)).map (·.1)
  s.onChain fun c => { c with removals := c.removals ++ l }

/-- A clip job that runs has its reservation admitted; where it does not fit, the job ends with NO-CAPACITY (R186). -/
def admitLeg (s : State) (j : Nat) (x : JobSt) : State :=
  let i := instOf x.obj
  if (s.clipLeg i false).isSome ∨ s.legPending i then s
  else
    let r := s.commitTx (Tx.blank .neloas []) 0 (s.clipPlan i (x.par.getD 1 256)) (some s.tick64)
    if r.2 = PENDING ∨ r.2 = BUSY then r.1 else r.1.stopJob j r.2

/-- The seam of the clip jobs (R182, R186). -/
def clipSeam (s : State) : State :=
  let t := s.memSeam.dropLegs
  t.forEach t.jobs fun t e =>
    if t.n (O1B.JOB_STATE e.1) = 2 ∧ clsOf e.2.obj = 0x05 ∧ 0x100 ≤ instOf e.2.obj then t.admitLeg e.1 e.2 else t

end State
end Sys2Proof.Machine
end

