-- ==== Sys2Proof/Machine/Domain.lean ====
section
/-! DEFINITION. The domain agent where it meets the local chain: beacons received, epochs, parts and their ends (R455 to R474). -/

namespace Sys2Proof.Machine

/-- The device whose part holds an item: a route's destination device, or the device that staged it (R468). -/
def itemDevice (own : Nat) (e : Key × Val) : Nat :=
  if clsOf e.1 = 8 ∧ (e.1 = O08.ROUTE_SUBMIT ∨ (instOf e.1 < 0x900 ∧ parOf e.1 ≤ 1)) then (routeOf e.2.bytes).ddev else own

/-- The devices that an item's route names (R242, R468). -/
def routeDevices (e : Key × Val) : List Nat :=
  if clsOf e.1 = 8 ∧ (e.1 = O08.ROUTE_SUBMIT ∨ (instOf e.1 < 0x900 ∧ parOf e.1 ≤ 1)) then
    let r := routeOf e.2.bytes
    if r.src = 0 ∨ (r.kind = 1 ∧ field r.src 15 0 = 0xFFFF) then [r.ddev] else [r.ddev, epDevice r.src]
  else []

/-- Devices in ascending order, each once. -/
def inDeviceOrder (l : List Nat) : List Nat := (List.range 1024).filter fun d => l.contains d

/-- The same furlong from its other end. -/
def flipHop (h : Hop) : Hop := (h.2.2.1, h.2.2.2, h.1, h.2.1)

/-- The furlongs of a domain, in both directions. -/
def hopsOf (g : Graph) : List Hop := g.links ++ g.links.map flipHop

/-- Where a path from a device ends. -/
def endOf (src : Nat) (p : List Hop) : Nat := (p.getLast?.map fun h => h.2.2.1).getD src

/-- The shortest paths of at most so many furlongs, grown furlong by furlong through devices that may be transit devices (R437, R438). -/
def grow (hops : List Hop) (transit : Nat → Bool) (src dst : Nat) : Nat → List (List Hop) → List (List Hop)
  | 0, _ => []
  | n + 1, l =>
    let fresh (p : List Hop) (d : Nat) : Bool := d != src && p.all fun h => h.2.2.1 != d
    let next := l.flatMap fun p => (hops.filter fun h => h.1 == endOf src p && fresh p h.2.2.1).map fun h => p ++ [h]
    let done := next.filter fun p => endOf src p == dst
    if done ≠ [] then done else grow hops transit src dst n (next.filter fun p => transit (endOf src p))

/-- A furlong fits the topology among the domain's devices, in ring order (R437). -/
def fitsForm (topology : Nat) (spines devices : List Nat) (h : Hop) : Bool :=
  let place (d : Nat) : Nat := (devices.takeWhile (· != d)).length
  let n := devices.length
  match topology with
  | 0 => decide (5 ≤ n ∧ n ≤ 32 ∧ place h.1 < n ∧ place h.2.2.1 < n) && [1, 4, n - 1, n - 4].contains ((place h.1 + n - place h.2.2.1) % n)
  | 1 => decide (2 ≤ n ∧ n ≤ 33)
  | _ => spines.contains h.1 || spines.contains h.2.2.1

/-- Streams of one source that share a trunk copy: one for each device that reads a video source, one for each route of another kind
(R453). -/
def PinSt.stream (p : PinSt) : Nat × Nat × Nat × Nat := (p.kind, p.src, p.ddev, if p.kind = 0 then 0 else p.dst)

/-- The admitted cells of the streams that satisfy a condition, each stream once. -/
def streamCells (pins : List PinSt) (on : PinSt → Bool) : Nat :=
  (((pins.filter on).map fun p => (p.stream, p.cells)).eraseDups.map (·.2)).foldl (· + ·) 0

/-- What R452 compares of a path: its busiest furlong after placement, the transit cells already admitted on its transit devices, and its
lanes from the source. -/
def pathCost (pins : List PinSt) (cells : Nat) (p : List Hop) : Nat × Nat × List Nat :=
  ((p.map fun h => streamCells pins (fun q => q.path.contains h) + cells).foldl max 0,
    ((p.drop 1).map fun h => streamCells pins fun q => (q.path.drop 1).any fun g => g.1 == h.1).foldl (· + ·) 0,
    p.map fun h => h.2.1)

/-- One list of lanes comes before another, furlong by furlong (R452). -/
def lanesBefore : List Nat → List Nat → Bool
  | a :: l, b :: m => decide (a < b) || (a == b && lanesBefore l m)
  | _, _ => false

/-- The order of R452 among paths of equal length. -/
def costBefore (a b : Nat × Nat × List Nat) : Bool :=
  decide (a.1 < b.1) || (a.1 == b.1 && (decide (a.2.1 < b.2.1) || (a.2.1 == b.2.1 && lanesBefore a.2.2 b.2.2)))

/-- The path that the agent chooses (R452). -/
def choosePath (pins : List PinSt) (cells : Nat) (paths : List (List Hop)) : Option (List Hop) :=
  paths.foldl (fun best p => match best with
    | none => some p
    | some q => if costBefore (pathCost pins cells p) (pathCost pins cells q) then some p else some q) none

/-- Routes in ascending order of destination device, then destination (R452). -/
def inPlaceOrder (l : List PinSt) : List PinSt :=
  l.foldl (fun a p =>
    let before (q : PinSt) : Bool := decide (q.ddev < p.ddev ∨ (q.ddev = p.ddev ∧ q.dst ≤ p.dst))
    a.takeWhile before ++ p :: a.dropWhile before) []

/-- The routes of a transaction, one after another, take their paths: those placed, or none where one has no path (R452). A stream that
crosses already keeps its path. -/
def placePins (paths : Nat → Nat → List (List Hop)) (pins : List PinSt) : List PinSt → Option (List PinSt)
  | [] => some []
  | r :: l =>
    let src := epDevice r.src
    let chosen : Option (List Hop) :=
      if r.src = 0 ∨ (r.kind = 1 ∧ field r.src 15 0 = 0xFFFF) ∨ src = r.ddev then some []
      else match pins.find? fun q => q.stream == r.stream with
        | some q => some q.path
        | none => choosePath pins r.cells (paths src r.ddev)
    chosen.bind fun p =>
      let r := { r with path := p }
      (placePins paths (State.moved pins [r]) l).map (r :: ·)

/-- What a device's chain has to carry of the paths pinned: the stream, the lane it comes in on and the lane it leaves on (R467, R468). -/
def pathPart (device : Nat) (pins : List PinSt) : List Nat :=
  pins.flatMap fun p => if p.path.any fun h => h.1 == device || h.2.2.1 == device then
    [p.kind, p.src, p.ddev, p.dst, p.cells, ((p.path.find? fun h => h.2.2.1 == device).map fun h => h.2.2.2).getD 0xFFFF,
      ((p.path.find? fun h => h.1 == device).map fun h => h.2.1).getD 0xFFFF] else []

namespace State

/-- The devices of the domain, in ring order (R437). -/
def domainDevices (s : State) : List Nat :=
  inDeviceOrder (s.n O13.DEVICE_ID :: s.domain.members.map (·.1))

/-- The shortest paths that TOPOLOGY allows between two devices (R437, R438). -/
def allowedPaths (s : State) (g : Graph) (src dst : Nat) : List (List Hop) :=
  let topology := s.n O13.TOPOLOGY
  let hops := (hopsOf g).filter (fitsForm topology g.spines s.domainDevices)
  grow hops (fun d => topology == 0 || (topology == 2 && g.spines.contains d)) src dst 6 [[]]

/-- A transaction names another device: it is a domain transaction (R242, R468). -/
def domainWide (s : State) (items : List (Key × Val)) : Bool := items.any fun e => (routeDevices e).any fun d => d != s.deviceId

/-- The ticks of epochs that have not passed. -/
def epochTicks (s : State) : List Nat :=
  (s.domain.epochs.filter fun x => decide (x.outcome ≤ 1) && decide (s.tick64 < x.act)).map (·.act)

/-- The activation tick of a new epoch with NEXT (R468). -/
def leadTick (s : State) : Nat :=
  let lo := s.tick64 + s.n O13.DOMAIN_LEAD
  let ok (a : Nat) : Bool := decide (lo ≤ a) && s.epochTicks.all (apart a)
  ((s.epochTicks.map (· + 16)).filter ok).foldl (fun a b => if ok a then min a b else b) lo

/-- A part of this device is admitted and answered (R469). -/
def prepare (s : State) (epoch act master : Nat) (items : List (Key × Val)) (plan : Plan) : State :=
  let own := s.n O13.DEVICE_ID
  let order := s.chain.order
  let r := if s.domainState = 7 then (s, CONFLICT)
    else if act ≤ s.tick64 + 16 then (s, TIMEOUT)
    else s.commitTx (Tx.blank (.domain epoch) items) act plan none
  let t := r.1.onDomain fun d => { d with highest := max d.highest epoch }
  if r.2 = PENDING then
    let t := t.onDomain fun d => { d with parts := d.parts ++ [⟨epoch, act, order, master, false⟩] }
    if master = own then t.gotPrepared epoch own else t.sendUp 2 own epoch []
  else
    let last := if r.2 = NO_CAPACITY then t.n O01.LAST_REFUSAL else 0
    if master = own then t.gotRefused epoch own r.2 last else t.sendUp 3 own epoch (d8 r.2 ++ d8 last)

/-- The master issues an epoch: PREPARE to every participant, COPY to the backup, its own part at once (R467, R468). -/
def issueEpoch (s : State) (act : Nat) (parts : List (Nat × List (Nat × Val))) (pins : List PinSt) (origin : Option (Nat × Nat × Nat))
    (plan : Plan) : State :=
  let own := s.n O13.DEVICE_ID
  let e := s.domain.highest + 1
  let mode := s.n O13.COMMIT_MODE
  let t := s.addEpoch ⟨e, act, mode, 0, parts, [], [], [], [], origin, false, false, pins⟩
  let backup := t.n O13.BACKUP_DEVICE
  let t := t.forEach parts fun t p =>
    let path := pathPart p.1 pins
    let t := if p.1 = own then t else t.sendDown 1 p.1 e (partSegments none act mode p.2)
    let t := if path = [] ∨ p.1 = own then t else t.emit (.domain 0x32 p.1 (e :: path))
    if backup = 0xFFFF then t else t.sendDown 11 backup e (partSegments (some p.1) act mode p.2)
  match parts.find? fun p => p.1 == own with
  | some p => t.prepare e act own p.2 plan
  | none => t

/-- The routes of items, with the cells that R58 reserves for each. -/
def itemPins (items : List (Nat × Val)) (media : List (Nat × Nat × Nat)) : List PinSt :=
  items.filterMap fun e =>
    if routeDevices e = [] then none
    else
      let r := routeOf e.2.bytes
      some ⟨r.kind, r.ddev, r.dst, r.src, ((media.find? fun m => m.1 == r.ddev && m.2.1 == r.dst).map (·.2.2)).getD 0, []⟩

/-- The routes whose pinned paths have lost a furlong (R476). -/
def brokenPins (s : State) (g : Graph) : List PinSt := s.domain.pins.filter fun p => p.path.any fun h => !((hopsOf g).contains h)

/-- A domain transaction reaches the master (R452, R468): its status. Routes without a path leave it NO-CAPACITY (log entry 39). -/
def domainTx (s : State) (device sess tx act : Nat) (items : List (Nat × Val)) (routes : List PinSt) (g : Graph) (plan : Plan) :
    State × Nat :=
  let own := s.n O13.DEVICE_ID
  let keep := s.pinned.filter fun p => !(routes.any fun r => r.kind == p.kind && r.ddev == p.ddev && r.dst == p.dst)
  let pins := placePins (s.allowedPaths g) keep (inPlaceOrder routes)
  let others := (pins.getD []).flatMap fun p => p.ddev :: p.path.flatMap fun h => [h.1, h.2.2.1]
  let devices := inDeviceOrder (items.map (itemDevice device) ++ items.flatMap routeDevices ++ others)
  let parts := devices.map fun d => (d, items.filter fun e => itemDevice device e == d)
  let known (d : Nat) : Bool := d == own || [2, 3].contains (s.n (O13.MEMBER_STATE (0x100 + d)))
  if ¬ s.isMaster then (s, CONFLICT)
  else if ¬ devices.all known then (s, ABSENT)
  else if act ≠ 0 ∧ act < s.tick64 + s.n O13.DOMAIN_LEAD_MIN then (s, RANGE)
  else if act ≠ 0 ∧ ¬ s.epochTicks.all (apart act) then (s, CONFLICT)
  else if pins.isNone then (s, NO_CAPACITY)
  else (s.issueEpoch (if act = 0 then s.leadTick else act) parts (pins.getD []) (if sess = 0xFFFF then none else some (device, sess, tx)) plan, PENDING)

/-- The epochs of a new or an old master end with it: prepared parts without GO are dropped, with a cause (R462, R463, R473). -/
def dropParts (s : State) (cause : Nat) (all : Bool) : State :=
  let gone := s.domain.parts.filter fun p => all || !p.go
  s.forEach gone fun t p =>
    match t.pendingTxs.find? fun x => x.order == p.tx with
    | some x => t.withdrawPart x p.epoch cause
    | none => t

/-- The beacon age of a content: by tick once the device shares the master's count, by its accumulated delay before (R458, R459; log
entry 39). -/
def ageOf (s : State) (b : Beacon) (lane : Nat) : Nat :=
  if s.isMember then s.tick64 - b.tick
  else (b.accDelay / 65536 + s.n (O12.FURLONG_DELAY lane)) * 192000 / 1000000000

/-- A content comes before the one held: newer, then fewer hops, less delay, lower lane (R458). -/
def newerContent (s : State) (b : Beacon) (lane : Nat) : Bool :=
  match s.domain.content with
  | none => true
  | some (c, l, _) =>
    b.master != c.master || decide (c.tick < b.tick ∨ (c.tick = b.tick ∧
      (b.hops < c.hops ∨ (b.hops = c.hops ∧ (b.accDelay < c.accDelay ∨ (b.accDelay = c.accDelay ∧ lane ≤ l))))))

/-- The BEACON candidate takes the parent's content; a beacon that does not follow the last by one tick, in its number or in its arrival, is a
glitch (R91, R94, R459). -/
def beaconCand (s : State) (b : Beacon) (age : Nat) : State :=
  match (List.range 16).find? fun c => s.candType c == 9 with
  | none => s
  | some c =>
    let x := s.cand c
    let bad := match x.lastTick with
      | some k => decide (b.tick ≠ k ∧ (b.tick ≠ k + 1 ∨ s.now ≠ x.lastMsg + 1))
      | none => false
    let t := if s.n (O02.QL c) = b.ql then s else (s.setN (O02.QL c) b.ql).markDirty
    let t := t.setCand c { x with lastMsg := s.now, lastTick := some b.tick, timeDiff := (b.tick : Int) + age - s.tick64 }
    if bad then t.candFault c 2 2 0x024 else t.candSignal c

/-- Mastered content of this domain reaches a device that is not the master (R457 to R460, R462, R470). -/
def masteredContent (s : State) (lane : Nat) (b : Beacon) : State :=
  let age := s.ageOf b lane
  let old := s.n O13.MASTER_DEVICE
  let changed := old != b.master
  let accept := !changed || old == 0xFFFF || decide (0 < s.n O13.MISSED_BEACONS) ||
    (match s.domain.content with
     | some (c, _, _) => electedBefore b.priority b.master c.priority c.master
     | none => true)
  if ¬ accept then s
  else
    let t := if changed ∧ old ≠ 0xFFFF then ((s.dropParts 2 false).flag O13.DOMAIN_FLAGS 4).raise 0x132 b.master [] else s
    let t := t.setN O13.MASTER_DEVICE b.master
    let t := if s.newerContent b lane then
        let t := (t.onDomain fun d => { d with content := some (b, lane, s.tick64), heard := true }).beaconCand b age
        (((t.setN O13.BACKUP_DEVICE b.backup).setN O13.DOMAIN_EPOCH b.epoch).setN O13.DOMAIN_HOPS (b.hops + 1)).setN O13.BEACON_AGE age
      else t.onDomain fun d => { d with heard := true }
    let t := if t.isMember then t.setN O13.DOMAIN_SIZE b.size else t
    let go := b.goEpoch != 0 && bit b.flags 0
    let t := t.onDomain fun d => { d with
      highest := max d.highest (max b.epoch b.goEpoch)
      parts := d.parts.map fun p => if go ∧ p.epoch = b.goEpoch ∧ p.act = b.tick + 16 then { p with go := true } else p
      epochs := d.epochs.map fun x => if go ∧ x.copy ∧ x.epoch = b.goEpoch then { x with outcome := 1 } else x }
    let own := t.n O13.DEVICE_ID
    match t.domainState with
    | 1 =>
      let t := t.onDomain fun d => { d with seekSince := d.seekSince.map fun _ => s.now }
      if b.hops + 1 ≤ 6 ∧ age ≤ 14 ∧ t.domain.retryAt = none then t.sendJoin else t
    | 7 => if b.hops + 1 ≤ 6 ∧ age ≤ 14 then t.sendJoin else t
    | 4 => if b.backup = own then t.setDomain 5 else t
    | 5 => if b.backup = own then t else t.setDomain 4
    | _ => t

/-- The master meets a master that comes earlier in election order: it yields (R460, R463). -/
def yield_ (s : State) (lane : Nat) (b : Beacon) : State :=
  let t := s.forEach (s.domain.epochs.filter fun x => !x.copy && decide (x.outcome ≤ 1) && decide (s.tick64 < x.act)) fun t x =>
    (t.setEpoch { x with outcome := 3, failed := x.parts.map fun p => (p.1, ABORTED), pins := [] }).closeEpoch x.epoch
  let t := (t.dropParts 2 true).setN O13.MASTER_DEVICE b.master
  let t := t.onDomain fun d => { d with content := some (b, lane, s.tick64), heard := true, pins := [] }
  let t := (t.flag O13.DOMAIN_FLAGS 4).raise 0x13A b.master []
  t.sendJoin

/-- The device is without its master (R460, R473). -/
def orphaned (s : State) : State :=
  let t := ((s.dropParts 5 false).setDomain 7).setN O13.MASTER_DEVICE 0xFFFF
  ((t.onDomain fun d => { d with content := none }).flag O13.DOMAIN_FLAGS 1).raise 0x131 (s.n O13.DEVICE_ID) []

/-- A TMN-9606 refuses to be master of a domain of more than 64 devices (R5). It stays a member, and is an orphaned as one (log entry 39). -/
def tooLarge (s : State) : Bool := s.member == .tmn9606 && decide (64 < s.n O13.DOMAIN_SIZE)

/-- The backup takes mastery (R462). -/
def takeOver (s : State) : State :=
  let t := match (List.range 16).find? fun c => s.candType c == 9 with
    | some c => s.candFault c 1 1 0x023
    | none => s
  let t := (t.dropParts 2 false).becomeMaster
  t.forEach (t.domain.epochs.filter (·.copy)) fun t x =>
    if x.outcome = 1 then t.setEpoch { x with copy := false }
    else if x.outcome = 0 ∧ t.tick64 ≤ x.act then (t.setEpoch { x with copy := false }).abortEpoch x.epoch 2
    else t.setEpoch { x with copy := false, done := true }

/-- What the missed epochs wrote on a device, the last value of each object (R474). -/
def catchUp (s : State) (device last : Nat) : List (Nat × Val) :=
  let missed := s.domain.epochs.filter fun x => x.outcome == 1 && decide (last < x.epoch) && !(x.applied.contains device)
  (missed.flatMap fun x => (x.parts.filter fun p => p.1 == device).flatMap (·.2)).foldl putItem []

/-- RESYNC starts (R474): for a member of this master whose last epoch is in the journal. -/
def startResync (s : State) (sess role device : Nat) : State × Nat × Nat :=
  let i := 0x100 + device
  if ¬ s.isMaster ∨ 1024 ≤ device ∨ ¬ [2, 3].contains (s.n (O13.MEMBER_STATE i)) then (s, CONFLICT, 0)
  else s.startJob sess role O13.RESYNC (.num device) [device, s.n (O13.MEMBER_LAST_EPOCH i)]

/-- RESYNC's work: it stages the catch-up epoch, and ends with it (R474). -/
def resyncStep (s : State) : State :=
  match s.runningJob O13.RESYNC with
  | none => s
  | some j =>
    match s.job? j with
    | none => s
    | some x =>
      let device := x.par.getD 0 0
      if x.done = 0 then
        let items := s.catchUp device (x.par.getD 1 0)
        if ¬ s.isMaster then s.endJob j ABORTED []
        else (s.setJob j { x with done := s.domain.highest + 1 }).issueEpoch s.leadTick [(device, items)] [] none Plan.empty
      else match s.epoch? x.done with
        | some e =>
          if ¬ e.done then s
          else if e.applied.contains device then s.endJob j OK []
          else s.endJob j (((e.refused ++ e.failed).find? fun f => f.1 == device).map (·.2) |>.getD ABORTED) []
        | none => s.endJob j ABORTED []

/-- RESYNC starts on the master's initiative for devices that rejoined, one at a time, and goes on (R474). -/
def resyncSeam (s : State) : State :=
  let t := match s.domain.rejoined with
    | [] => s
    | d :: l => if (s.jobOf O13.RESYNC).isSome then s else ((s.onDomain fun x => { x with rejoined := l }).startResync 0xFFFF 1 d).1
  t.resyncStep

/-- An ABORT of a committed domain transaction by its host, on the master (R471): the status. -/
def abortDomain (s : State) (device sess tx : Nat) : Option (State × Nat) :=
  match s.domain.epochs.find? fun x => decide (x.origin = some (device, sess, tx)) with
  | none => none
  | some x => some (if x.outcome = 0 ∧ s.tick64 + 16 < x.act then (s.abortEpoch x.epoch 1, OK) else (s, CONFLICT))

end State

/-- A beacon is received on a trunk lane (R444, R445, R457 to R460, R463). -/
def execBeaconReceived (lane : Nat) (payload : List Byte) (rx : Nat) (s : State) : Host.Outcome State Fault Refusal :=
  onInst 0x12 lane s fun s =>
    if s.n (O12.FURLONG_STATE lane) ≠ 2 ∧ s.n (O12.FURLONG_STATE lane) ≠ 3 then s else
    let b := beaconOf (padTo 128 payload)
    let t := s.beaconFurlong lane b rx
    let own := t.n O13.DEVICE_ID
    if ¬ t.b O13.DOMAIN_ENABLE ∨ ¬ t.furlongUp lane ∨ (t.furlong lane).unfit ∨ b.domain ≠ t.n O13.DOMAIN_ID ∨ b.master = 0xFFFF ∨
        bit b.flags 2 ∨ b.master = own then t
    else if t.isMaster then
      (if electedBefore b.priority b.master (t.n O13.MASTER_PRIORITY) own then t.yield_ lane b else t)
    else t.masteredContent lane b

/-- Consecutive missing beacons (R460, R462, R473). -/
def execBeaconsMissed (s : State) : Host.Outcome State Fault Refusal :=
  live s fun s =>
    let n := s.n O13.MISSED_BEACONS
    if (s.domainState = 3 ∨ s.domainState = 4) ∧ 192 ≤ n then s.orphaned
    else if s.domainState = 5 ∧ 48 ≤ n then (if s.tooLarge then (if 192 ≤ n then s.orphaned else s) else s.takeOver)
    else s

/-- A domain transaction reaches the master (R468). The master's own path repair pins the affected streams anew in a NEXT epoch and raises
0x13D (R476). -/
def execDomainTransaction (device sess tx act : Nat) (items : List (Nat × Val)) (graph : Graph) (media : List (Nat × Nat × Nat)) (plan : Plan)
    (s : State) : Host.Outcome State Fault Refusal :=
  live s fun s =>
    if sess = 0xFFFF then
      let broken := s.brokenPins graph
      let r := s.domainTx device sess tx 0 [] broken graph plan
      if s.b O13.PATH_REPAIR ∧ broken ≠ [] ∧ r.2 = PENDING then r.1.raise 0x13D (s.n O13.DEVICE_ID) [] else s
    else
      let r := s.domainTx device sess tx act items (State.itemPins items media) graph plan
      if r.2 = PENDING then r.1 else r.1.emit (.domain 0x31 device [tx, r.2, 0])

/-- A PREPARE with this device's part (R467, R469). -/
def execPrepare (dest epoch act mode : Nat) (items : List (Nat × Val)) (plan : Plan) (s : State) : Host.Outcome State Fault Refusal :=
  live s fun s => s.relayed 1 dest epoch (partSegments none act mode items) fun s =>
    if ¬ s.isMember ∧ s.domainState ≠ 7 then s
    else if s.isMaster ∨ (s.domain.parts.any fun p => p.epoch == epoch) then s
    else s.prepare epoch act (s.n O13.MASTER_DEVICE) items plan

/-- An ABORT record drops a prepared part, and ends the backup's copy (R465, R470, R471). -/
def execAbortRecord (dest epoch cause : Nat) (s : State) : Host.Outcome State Fault Refusal :=
  live s fun s => s.relayed 4 dest epoch [d8 cause] fun s =>
    let t := match s.epoch? epoch with
      | some x => if x.copy then s.setEpoch { x with outcome := if cause = 3 then 2 else 3 } else s
      | none => s
    match t.domain.parts.find? fun p => p.epoch == epoch && !p.go with
    | none => t
    | some p =>
      match t.pendingTxs.find? fun x => x.order == p.tx with
      | some x => t.withdrawPart x epoch (if cause = 2 then 2 else 1)
      | none => t

/-- The RESYNC job of a session starts (R474). -/
def execResync (sess device : Nat) (s : State) : Host.Outcome State Fault Refusal :=
  live s fun s => if s.accepts then (s.startResync sess (s.n (O1C.SESS_ROLE sess)) device).1.resyncStep else s

/-- A new seed is drawn after 1,000 imbalanced periods of a candidate set; the next swap applies it, and the periods count anew (R456). -/
def execHashReseed (s : State) : Host.Outcome State Fault Refusal :=
  live s fun s =>
    let ok : Bool := match s.domain.reseedAt with
      | some t => decide (t + 192000 ≤ s.now)
      | none => true
    if ¬ ok ∨ (s.domain.sets.all fun e => decide (e.2 < 1000)) then s
    else
      let r := s.draw
      let t := r.2.onDomain fun d => { d with newSeed := some (r.1 % 2 ^ 64), reseedAt := some s.now, sets := d.sets.map fun e => (e.1, 0) }
      let t := ((t.bump O13.HASH_RESEEDS 1).flag O13.DOMAIN_FLAGS 16).raise 0x13B (s.n O13.DEVICE_ID) []
      if t.chain.cur.isSome ∧ t.n O01.SHADOW_STATE = 3 then t else t.queueRemoval.pump

end Sys2Proof.Machine
end

