-- ==== Sys2Proof/Machine/Stepping.lean ====
section
/-! DEFINITION. Steps of TICK64, and the time of day that a 1 PPS edge gives (R47 to R49, R82). -/

namespace Sys2Proof.Machine

/-- The tick of a PTP time (R47): an 80-bit TIME80 of seconds and nanoseconds, in 64-bit unsigned arithmetic. -/
def tickOfTime (t : Nat) : Nat := (t / 2 ^ 32 * 192000 + t % 2 ^ 32 * 24 / 125000) % 2 ^ 64

/-- The PTP time of a tick, exact to the nanosecond, rounded down (R47). -/
def timeOfTick (k : Nat) : Nat := k / 192000 * 2 ^ 32 + k % 192000 * 15625 / 3

namespace State

/-- STEP_TIME: TICK64 steps at the next seam (R49). -/
def actStepTime (s : State) (time : Nat) : State := { s with tick := { s.tick with step := some (tickOfTime time, 4) } }

/-- A write of PPS_TIME: the time of the next PPS edge (R48). -/
def writePpsTime (s : State) (time : Nat) : State :=
  let t := s.setN O01.PPS_TIME time
  { t with tick := { t.tick with pps := true } }

/-- What a step of TICK64 does at seam cycle 32 (R49, R303, R400, R507): the next tick takes the new number, and a time target is that much
nearer. -/
def stepTime (s : State) (new src : Nat) : State :=
  let t := ((s.stepWithdraw new).setB O01.TIME_VALID true).setN O01.TIME_SOURCE src
  let moved : Int := ((new : Int) - (s.tick64 + 1)) * units
  let t := { t with tick := { t.tick with step := none, jump := some new } }
  let t := { t with timing := { t.timing with pull := if s.n O02.SEL_STATE = 2 ∧ s.timeTarget then t.timing.pull - moved else t.timing.pull } }
  t.gateStep.cuesStep

end State

/-- The STEP_TIME action (R49). -/
def execStepTime (time : Nat) (s : State) : Host.Outcome State Fault Refusal :=
  live s fun s => if s.answers ∧ time % 2 ^ 32 ≤ 999999999 then s.actStepTime time else s

/-- A rising edge at PPS_IN, with its measured phase (R48, R49, R82, R86, R96): with a PPS_TIME that awaits its edge, the tick that begins
with it, after the next seam, takes the number converted from PPS_TIME. -/
def execPpsEdge (phase : Int) (s : State) : Host.Outcome State Fault Refusal :=
  live s fun s =>
    match (List.range 16).find? fun c => s.candType c == 8 with
    | none => s
    | some c =>
      let t := (if s.n (O02.CAND_STATE c) = 0 then s else s.setZ 64 (O02.PHASE_OFFSET c) phase).candSignal c
      if ¬ s.tick.pps then t
      else
        let x := t.cand c
        let t := t.setCand c { x with timeDiff := (tickOfTime (s.n O01.PPS_TIME) : Int) - (s.tick64 + 1) }
        let t := { t with tick := { t.tick with pps := false } }
        if 3 ≤ t.n (O02.CAND_STATE c) then t.firstTime c else t

end Sys2Proof.Machine
end

