-- ==== Sys2Proof/Machine/Sessions.lean ====
section
/-! DEFINITION. Filulo sessions: the handshake, the claim, lockouts, and closure (R526, R530 to R536, R657). -/

namespace Sys2Proof.Machine

/-- The label of the session keys: FILULO-1 (R533). -/
def lblFilulo : List Byte := ascii [0x46, 0x49, 0x4C, 0x55, 0x4C, 0x4F, 0x2D, 0x31]

/-- The J objects whose data a host moves by bulk transfer where their address is 0 (R547, R566). -/
def bulkJob (k : Key) : Bool :=
  (clsOf k == 0x05 && (parOf k == 0x00C || parOf k == 0x00D)) || clsOf k == 0x09 || clsOf k == 0x11 || k == O18.FW_UPDATE ||
  k == O00.CONFIG_EXPORT || k == O00.CONFIG_IMPORT

namespace State

/-- The running job waits on a bulk transfer: its address is 0, and its data is not all there or not all fetched (R535, R545). -/
def waitsBulk (s : State) (j : Nat) (x : JobSt) : Bool :=
  s.n (O1B.JOB_STATE j) == 2 && bulkJob x.obj && x.par.headD 0 == 0 && (x.obj != O18.FW_UPDATE || s.n O18.FW_PHASE == 1) &&
  (x.obj != O00.CONFIG_IMPORT || x.done == 0)

/-- SESSIONS_OPEN (R551). -/
def countSessions (s : State) : State :=
  s.setN O1C.SESSIONS_OPEN (s.sess.filter fun e => s.n (O1C.SESS_STATE e.1) == 2).length

/-- A session instance is free again. -/
def freeSession (s : State) (sid : Nat) : State :=
  let t := { s with
    sess := SMap.del s.sess sid
    reasm := s.reasm.filter fun r => r.sess != sid
    mail := { s.mail with wait := s.mail.wait.filter fun m => m.1 != sid } }
  ((((((((t.clearObj (O1C.SESS_STATE sid)).clearObj (O1C.SESS_ROLE sid)).clearObj (O1C.SESS_CRED sid)).clearObj
    (O1C.SESS_PEER sid)).clearObj (O1C.SESS_OPENED sid)).clearObj (O1C.SESS_TX_OPEN sid)).clearObj (O1C.SESS_SUBS sid)).clearObj
    (O1C.SESS_QUEUE sid)).countSessions

/-- An open transaction is discarded (R535, R539). -/
def txDiscarded (s : State) (sid id : Nat) : State :=
  let t := s.onChain fun c => { c with opened := c.opened.filter fun x => x.id != id }
  let t := t.setN (O1C.SESS_TX_OPEN sid) (t.chain.opened.filter fun x => decide (x.origin = .host sid)).length
  (t.flag O1C.FILULO_FLAGS 2).raise 0x1C4 sid (d16 sid ++ d32 id)

/-- The open transactions of a session. -/
def txOpen (s : State) (sid : Nat) : List Tx := s.chain.opened.filter fun x => decide (x.origin = .host sid)

/-- A committed transaction has no session any more: its completion is not delivered (R535). -/
def orphanTx (sid : Nat) (x : Tx) : Tx := if x.origin = .host sid then { x with origin := .host 0xFFFF } else x

/-- What waits for a record no longer answers the session. -/
def orphanWait (sid : Nat) (w : JWait) : JWait :=
  match w with
  | .done x => .done (orphanTx sid x)
  | .answers l => .answers (l.filter fun a => a.1 != sid)
  | .claim i => if i = sid then .nothing else w
  | _ => w

/-- An epoch of the device's own whose session has closed answers nobody (R535). -/
def orphanEpoch (own sid : Nat) (x : EpochSt) : EpochSt :=
  match x.origin with
  | some (dv, i, tx) => if dv = own ∧ i = sid then { x with origin := some (dv, 0xFFFF, tx) } else x
  | none => x

/-- Committed transactions run on, and answers that wait are dropped (R535). -/
def orphan (s : State) (sid : Nat) : State :=
  let t : State := s.onChain fun c => { c with cur := c.cur.map (orphanTx sid), queue := c.queue.map (orphanTx sid) }
  let j : JrnlSt := t.jrnl
  let todo := j.todo.map fun (e : JRec × JWait) => (e.1, orphanWait sid e.2)
  let wait := j.immWait.filter fun a => a.1 != sid
  let t : State := { t with jrnl := { j with todo := todo, immWait := wait } }
  let t : State := t.onBoot fun b => { b with answers := b.answers.filter fun a => a.1 != sid }
  let own := s.n O13.DEVICE_ID
  t.onDomain fun d => { d with epochs := d.epochs.map (orphanEpoch own sid) }

/-- The jobs of a session run on without an owner; one that waits on its bulk transfer is suspended (R535, R545). -/
def leaveJobs (s : State) (sid : Nat) : State :=
  s.forEach s.jobs fun t e =>
    let t := if t.n (O1B.JOB_OWNER e.1) = sid then t.setN (O1B.JOB_OWNER e.1) 0xFFFF else t
    if e.2.bulk = some sid then
      t.setJob e.1 { e.2 with bulk := none, ask := if t.waitsBulk e.1 e.2 ∧ e.2.ask = 0 then 1 else e.2.ask }
    else t

/-- A session closes; `tell` where the device sends CLOSE with the cause (R535). -/
def closeSession (s : State) (sid cause : Nat) (tell : Bool) : State :=
  if s.n (O1C.SESS_STATE sid) ≠ 2 then s
  else
    let t := if tell then s.sendMsg sid 0x15 (d8 cause) else s
    let t := t.forEach (t.txOpen sid) fun t x => t.txDiscarded sid x.id
    let t := (((t.orphan sid).leaveJobs sid).closeHandles sid).freeSession sid
    t.raise 0x1C1 sid (d16 sid ++ d8 cause)

/-- The open sessions. -/
def openSessions (s : State) : List Nat := (s.sess.map (·.1)).filter fun i => s.n (O1C.SESS_STATE i) == 2

/-- A credential slot is rewritten or disabled: its sessions close at once (R535, R548). -/
def closeCred (s : State) (cred : Nat) : State :=
  s.forEach (s.openSessions.filter fun i => s.n (O1C.SESS_CRED i) == cred) fun t i => t.closeSession i DENIED true

/-- A life-cycle state other than SERVICE is entered: every open VND session closes (R21, R535). -/
def closeService (s : State) : State :=
  s.forEach (s.openSessions.filter fun i => s.n (O1C.SESS_ROLE i) == 3) fun t i => t.closeSession i DENIED true

/-- The next word of an OTP change; a change of the life-cycle state away from SERVICE closes the VND sessions (R21, R615). -/
def otpStepServed (s : State) : State :=
  let t := s.otpStep
  if s.n O18.LC_STATE = 3 ∧ t.n O18.LC_STATE ≠ 3 then t.closeService else t

/-- A tamper response closes every session without a CLOSE, and drops every handshake (R657). -/
def closeAll (s : State) : State :=
  let t := s.forEach s.openSessions fun t i => t.closeSession i TAMPER false
  t.forEach (t.sess.map (·.1)) freeSession

/-- An enabled credential of role SEC (R532). -/
def hasSec (s : State) : Bool :=
  (List.range 48).any fun c =>
    s.b (O1C.CRED_ENABLE (0x200 + c)) && s.n (O1C.CRED_ROLE (0x200 + c)) == 2 && (s.bs (O1C.CRED_KEY (0x200 + c))).length == 97

/-- A credential slot is enabled. -/
def anyCred (s : State) : Bool := (List.range 48).any fun c => s.b (O1C.CRED_ENABLE (0x200 + c))

/-- The value that a write leaves, and whether its sessions close (R532, R535): none where it would leave no enabled SEC credential. -/
def writeCred (s : State) (k : Key) (v : Val) : Option State :=
  let t := s.setObj k v
  let p := parOf k
  let closes := (p == 0 && v.toNat == 0 && s.b k) || ((p == 1 || p == 2) && decide (v ≠ s.get k))
  if p ≠ 3 ∧ s.hasSec ∧ ¬ t.hasSec then none
  else some (if closes then (t.journal k v).closeCred (instOf k - 0x200) else t.journal k v)

/-- The four values of a claim (R532). -/
def claimItems (pub : List Byte) : List (Key × Val) :=
  [(O1C.CRED_ENABLE 0x200, .num 1), (O1C.CRED_ROLE 0x200, .num 2), (O1C.CRED_KEY 0x200, .blob pub),
   (O1C.CRED_LABEL 0x200, .blob (zeros 32))]

/-- A claim is admitted over this transport (R532). -/
def claimOk (s : State) (mailbox : Bool) : Bool :=
  !s.anyCred && (s.n O18.LC_STATE == 1 || (mailbox && (s.n O18.LC_STATE == 2 || s.n O18.LC_STATE == 3)))

/-- Sessions and handshakes of a role (R536). -/
def roleCount (s : State) (role except : Nat) : Nat :=
  (s.sess.filter fun e => e.1 != except && (e.2.hello.headD 0).toNat == role).length

/-- The status that refuses a HELLO, after its form: BUSY or DENIED (R531, R532, R536). `own` is the session in handshake, 0xFFFF none. -/
def helloCheck (s : State) (role cred : Nat) (mailbox : Bool) (own : Nat) : Nat :=
  let claim := role == 2 && cred == 0xFE
  let handshakes := (s.sess.filter fun e => e.1 != own && s.n (O1C.SESS_STATE e.1) == 1).length
  if own = 0xFFFF ∧ (16 ≤ handshakes ∨ (role = 2 ∧ 2 ≤ s.roleCount 2 own) ∨ (role = 3 ∧ 1 ≤ s.roleCount 3 own) ∨
      ((List.range (if mailbox then 4 else 32)).all fun i => (s.sess? (if mailbox then 0x20 + i else i)).isSome)) then BUSY
  else if claim ∧ ¬ s.roomForWrite (claimItems (zeros 97)) then BUSY
  else if role = 3 ∧ s.n O18.LC_STATE ≠ 3 then DENIED
  else if cred < 48 ∧ (¬ s.b (O1C.CRED_ENABLE (0x200 + cred)) ∨ s.n (O1C.CRED_ROLE (0x200 + cred)) ≠ role) then DENIED
  else if cred = 0xFE ∧ ¬ (claim ∧ s.claimOk mailbox) then DENIED
  else OK

/-- A rejection counts against the address of a UDP handshake: after 8 within 10 s its HELLOs are ignored for 60 s (R531). -/
def countReject (s : State) (addr : Nat) : State :=
  let x := s.locks.getD addr ⟨[], none⟩
  let l := (s.now :: x.rejects).filter fun t => decide (s.now < t + 1920000)
  let y : LockSt := if 8 ≤ l.length then ⟨[], some (s.now + 11520000)⟩ else ⟨l, x.until_⟩
  { s with locks := s.locks.put addr y }

/-- Send a message that belongs to no session yet. -/
def sendClear (s : State) (mailbox : Bool) (kind ident : Nat) (body : List Byte) : State :=
  let m := datagram false [] kind ident 0 0 body
  if mailbox then s.ringPut 0xFFFF m else s.emit (.filulo 0xFFFF m)

/-- REJECT (R530, R531). -/
def reject (s : State) (mailbox : Bool) (addr ident status : Nat) : State :=
  let t := (s.bump O1C.HANDSHAKE_FAILS 1).sendClear mailbox 5 ident (d8 status)
  if status = DENIED then
    let t := if mailbox then t else t.countReject addr
    (t.flag O1C.FILULO_FLAGS 1).raise 0x1C2 noInst ((d8 mailbox.toNat) ++ d32 addr)
  else t

/-- A session's own state as a handshake begins. -/
def newSess (ident : Nat) (hello challenge ephemeral : List Byte) (since peer : Nat) : SessSt :=
  { ident := ident, hello := hello, challenge := challenge, ephemeral := ephemeral, claim := false, since := since, peer := peer,
    keys := [], high := 0, seen := [], cache := [], sent := 0, heard := since, subs := [], notes := [], overflow := false, own := [] }

/-- An address is locked out (R531). -/
def lockedOut (s : State) (addr : Nat) : Bool :=
  match (s.locks.getD addr ⟨[], none⟩).until_ with
  | some t => decide (s.now < t)
  | none => false

/-- The random bytes of a handshake can be drawn (R588, R646). -/
def canDraw (s : State) : Bool := !s.noEntropy && !s.spFrozen

/-- HELLO (R530, R531). -/
def hello (s : State) (mailbox : Bool) (addr port : Nat) (body : List Byte) : State :=
  let role := (body.headD 0).toNat
  let cred := (body.getD 1 0).toNat
  if ¬ mailbox ∧ s.lockedOut addr then s
  else if s.n O19.KS_STATE = 2 then s.reject mailbox addr 0 TAMPER
  else if body.length ≠ 133 ∨ ¬ Config.ecOnCurve (slice body 36 97) then s.reject mailbox addr 0 TYPE
  else if 3 < role ∨ (47 < cred ∧ cred < 0xFE) ∨ (cred = 0xFF ∧ role ≠ 3) ∨ (role = 3 ∧ cred ≠ 0xFF) then s.reject mailbox addr 0 RANGE
  else
    let e := s.helloCheck role cred mailbox 0xFFFF
    if e ≠ OK then s.reject mailbox addr 0 e
    else if ¬ s.canDraw then s.reject mailbox addr 0 INTERNAL
    else
      let base := if mailbox then 0x20 else 0
      match (List.range (if mailbox then 4 else 32)).find? fun i => (s.sess? (base + i)).isNone with
      | none => s.reject mailbox addr 0 BUSY
      | some i =>
        let sid := base + i
        let d := s.drbg 84
        let ident := natBE (d.1.take 4)
        let nonce := slice d.1 4 32
        let key := slice d.1 36 48
        let head := nonce ++ bytesBE 97 (Config.ecPublic key)
        let sig := bytesBE 96 (Config.ecdsaSign (s.ramKey 2 48) (sha384 (body ++ head)))
        let t := d.2.setSess sid (newSess ident body (head ++ sig) key s.now (addr * 65536 + port))
        let t := (t.setN (O1C.SESS_STATE sid) 1).setN (O1C.SESS_PEER sid) (if mailbox then 0 else addr * 65536 + port)
        t.sendMsg sid 2 (head ++ sig)

/-- A session opens: ACCEPT, the first sealed message (R530, R533). -/
def accept (s : State) (sid : Nat) : State :=
  match s.sess? sid with
  | none => s
  | some x =>
    let role := (x.hello.headD 0).toNat
    let cred := if x.claim then 0 else (x.hello.getD 1 0).toNat
    let t := s.setSess sid { x with claim := false, heard := s.now }
    let t := (((t.setN (O1C.SESS_STATE sid) 2).setN (O1C.SESS_ROLE sid) role).setN (O1C.SESS_CRED sid) cred).setN (O1C.SESS_OPENED sid) s.tick64
    let body := d8 role ++ d8 (mailboxSess sid).toNat ++ d16 8192 ++ d32 (s.n O1C.SESSION_TIMEOUT) ++ d64 s.tick64
    ((t.sendMsg sid 4 body).countSessions).raise 0x1C0 sid (d16 sid)

/-- PROVE (R530 to R533). A claim writes slot 0 and answers once its record is programmed. -/
def prove (s : State) (sid : Nat) (body : List Byte) : State :=
  match s.sess? sid with
  | none => s
  | some x =>
    if s.n (O1C.SESS_STATE sid) ≠ 1 ∨ x.claim then s
    else
      let mailbox := mailboxSess sid
      let addr := x.peer / 65536
      let role := (x.hello.headD 0).toNat
      let cred := (x.hello.getD 1 0).toNat
      let claim := cred == 0xFE
      let drop (e : Nat) : State := (s.freeSession sid).reject mailbox addr x.ident e
      let key := if claim then slice x.hello 36 97 else if cred = 0xFF then Config.vendorKey else s.bs (O1C.CRED_KEY (0x200 + cred))
      let e := s.helloCheck role cred mailbox sid
      if s.n O19.KS_STATE = 2 then drop TAMPER
      else if body.length ≠ 96 then drop TYPE
      else if e ≠ OK then drop e
      else if ¬ Config.ecdsaVerify key (sha384 (x.hello ++ x.challenge)) body then drop DENIED
      else
        let z := bytesBE 48 (Config.ecdhX x.ephemeral (slice x.hello 36 97))
        let keys := kdf z lblFilulo (slice x.hello 4 32 ++ x.challenge.take 32 ++ d32 x.ident) 72
        let t := s.setSess sid { x with keys := keys, ephemeral := [], claim := claim }
        if ¬ claim then t.accept sid
        else
          let l := claimItems (slice x.hello 36 97)
          let t := (t.forEach l fun t e => t.setObj e.1 e.2).addRec 2 s.tick64 0 l (.claim sid)
          t.raise 0x1CA sid (d8 mailbox.toNat ++ (if mailbox then [] else d32 addr))

end State

/-- A HELLO arrives: `mailbox`, or from an IPv4 address and UDP port (R530, R531). -/
def execHello (mailbox : Bool) (addr port : Nat) (body : List Byte) (s : State) : Host.Outcome State Fault Refusal :=
  live s fun s => if s.answers ∧ s.talks mailbox then s.hello mailbox addr port body else s

/-- A PROVE arrives in a session (R530 to R533). -/
def execProve (sess : Nat) (body : List Byte) (s : State) : Host.Outcome State Fault Refusal :=
  live s fun s => if s.answers ∧ s.talks (mailboxSess sess) then s.prove sess body else s

/-- No PROVE has come within 384,000 ticks of CHALLENGE: the handshake is dropped without an answer (R531). -/
def execHandshakeTimeout (sess : Nat) (s : State) : Host.Outcome State Fault Refusal :=
  live s fun s =>
    match s.sess? sess with
    | some x => if s.n (O1C.SESS_STATE sess) = 1 ∧ ¬ x.claim ∧ x.since + 384000 ≤ s.now then s.freeSession sess else s
    | none => s

/-- The lockout of an address ends (R531). -/
def execHelloLockoutEnd (addr : Nat) (s : State) : Host.Outcome State Fault Refusal :=
  live s fun s =>
    match (s.locks.getD addr ⟨[], none⟩).until_ with
    | some t => if t ≤ s.now then { s with locks := s.locks.del addr } else s
    | none => s

/-- No message that passes R534 has come for SESSION_TIMEOUT, or the host has left the D2H ring full for as long (R535, R537). -/
def execSessionTimeout (sess : Nat) (s : State) : Host.Outcome State Fault Refusal :=
  live s fun s =>
    let limit := s.n O1C.SESSION_TIMEOUT * 192
    let full := mailboxSess sess && (s.mail.fullSince.map fun t => decide (t + limit ≤ s.now)).getD false
    match s.sess? sess with
    | some x => if x.heard + limit ≤ s.now ∨ full then s.closeSession sess TIMEOUT true else s
    | none => s

/-- An open transaction has had no STAGE or COMMIT for TX_IDLE (R539). -/
def execTxIdle (tx : Nat) (s : State) : Host.Outcome State Fault Refusal :=
  live s fun s =>
    match s.chain.opened.find? fun x => x.id == tx with
    | some x =>
      if x.touched + s.n O1C.TX_IDLE * 192 ≤ s.now then
        (match x.origin with
         | .host sid => s.txDiscarded sid tx
         | _ => s)
      else s
    | none => s

end Sys2Proof.Machine
end

