-- ==== Sys2Proof/Machine/Device.lean ====
section
/-! DEFINITION. Actions on the device as a whole: resets, the tamper acknowledgement, and the event unit's actions (R564, R565, R622,
R667, R689), and the start of the configuration jobs (R566 to R568). -/

namespace Sys2Proof.Machine

namespace State

/-- DEVICE_RESET: the device resets at the first seam at least 192 ticks later (R564, R569). -/
def actDeviceReset (s : State) : State × Nat :=
  if s.boot.closing then (s, BUSY)
  else ((s.onBoot fun b => { b with closing := true, resetAt := some (s.now + 192, 2) }).raise 0x003 noInst [], OK)

/-- FACTORY_DEFAULT: a snapshot of defaults, then the reset (R565). -/
def actFactoryDefault (s : State) : State × Nat :=
  if s.pendingTxs ≠ [] ∨ s.boot.closing then (s, BUSY)
  else (((s.onBoot fun b => { b with closing := true }).sealImmediate).addRec 4 s.tick64 0 [] .factory, OK)

/-- TAMPER_ACK: the latch is cleared, and a start that waits goes on (R622). -/
def actTamperAck (s : State) : State × Nat :=
  if ¬ s.b O18.STANDBY_TAMPER then (s, CONFLICT)
  else
    let t := (s.setB O18.STANDBY_TAMPER false).raise 0x187 noInst []
    (if t.phase = .tamperWait then { t with phase := .neloas } else t, OK)

/-- ACK_ALL: RAISED and REPEATED of every event (R667). -/
def actAckAll (s : State) : State :=
  s.forEach (s.objs.filter fun e => clsOf e.1 == 0x1A && parOf e.1 == 0) fun t e => t.unflag e.1 3

/-- ROUTE_DEFAULTS: every event's mask, severity and route, journaled (R521, R689). -/
def actRouteDefaults (s : State) : State :=
  s.forEach (s.objs.filter fun e => clsOf e.1 == 0x1A && decide (1 ≤ parOf e.1 ∧ parOf e.1 ≤ 3)) fun t e =>
    let u := t.clearObj e.1
    u.journal e.1 (u.get e.1)

/-- CONFIG_EXPORT starts; one at a time with CONFIG_IMPORT (R566, R567). -/
def startExport (s : State) (sess role scope : Nat) : State × Nat × Nat :=
  if (s.jobOf O00.CONFIG_IMPORT).isSome then (s, BUSY, 0)
  else s.startJob sess role O00.CONFIG_EXPORT (.num scope) [((s.own sess O00.CONFIG_ADDR).getD (.num 0)).toNat]

/-- CONFIG_IMPORT starts; not with CONFIG_EXPORT (R566, R568). -/
def startImport (s : State) (sess role mode : Nat) : State × Nat × Nat :=
  if (s.jobOf O00.CONFIG_EXPORT).isSome then (s, BUSY, 0)
  else s.startJob sess role O00.CONFIG_IMPORT (.num mode) [((s.own sess O00.CONFIG_ADDR).getD (.num 0)).toNat, 0, 0, 0, 0, 0]

end State

/-- An OTP change is armed, programmed and marked done (R615). -/
def execOtpIntent (revoke : Option Nat) (s : State) : Host.Outcome State Fault Refusal :=
  live s fun s =>
    if ¬ s.served then s
    else match revoke with
    | none => s.otpStepServed
    | some k =>
      if k < 4 ∧ ¬ bit s.boot.otp.revoked k then
        (match s.otpChange 3 k with
         | some t => t
         | none => s)
      else s

/-- DEVICE_RESET (R564). -/
def execDeviceReset (s : State) : Host.Outcome State Fault Refusal :=
  live s fun s => if s.served then s.actDeviceReset.1 else s

/-- FACTORY_DEFAULT with its value: only 0x0046_4400 (R565). -/
def execFactoryDefault (value : Nat) (s : State) : Host.Outcome State Fault Refusal :=
  live s fun s => if s.served ∧ value = 0x00464400 then s.actFactoryDefault.1 else s

/-- TAMPER_ACK (R622). -/
def execTamperAck (s : State) : Host.Outcome State Fault Refusal :=
  live s fun s => if s.served then s.actTamperAck.1 else s

/-- ACK_ALL (R667). -/
def execAckAll (s : State) : Host.Outcome State Fault Refusal :=
  live s fun s => if s.served then s.actAckAll else s

/-- ROUTE_DEFAULTS (R689): a persistent write, BUSY outside its time (R564, R602). -/
def execRouteDefaults (s : State) : Host.Outcome State Fault Refusal :=
  live s fun s => if s.closed then s else s.actRouteDefaults

/-- CONFIG_EXPORT by a session, of one class or of all: 0xFF (R567). -/
def execConfigExport (sess scope : Nat) (s : State) : Host.Outcome State Fault Refusal :=
  live s fun s => if s.closed ∨ (0x1C < scope ∧ scope ≠ 0xFF) then s else (s.startExport sess (s.n (O1C.SESS_ROLE sess)) scope).1

/-- CONFIG_IMPORT by a session: 0 STRICT, 1 SKIP-ABSENT (R568). -/
def execConfigImport (sess mode : Nat) (s : State) : Host.Outcome State Fault Refusal :=
  live s fun s => if s.closed ∨ 1 < mode then s else (s.startImport sess (s.n (O1C.SESS_ROLE sess)) mode).1

/-- JOURNAL_COMPACT by a session (R523). -/
def execJournalCompact (sess : Nat) (s : State) : Host.Outcome State Fault Refusal :=
  live s fun s => if s.closed then s else (s.startCompact sess (s.n (O1C.SESS_ROLE sess))).1

end Sys2Proof.Machine
end

