-- ==== Sys2Proof/Machine/Objects.lean ====
section
/-! DEFINITION. Reading and writing objects: presence, access, roles, types and values, by object (R9, R13 to R22, R516 to R518, R521,
R538, R557, R558). -/

namespace Sys2Proof.Machine

/-- The objects that hold one value for each session (R160, R165, R378, R406, R427, R479, R511, R512, R560, R594, R625, R660, R689). -/
def ownKey (k : Key) : Bool :=
  k == O00.CONFIG_ADDR || k == O04.INSPECT_LINK || k == O04.INSPECT_FIRST || k == O04.INSPECT_STREAM || k == O05.INSPECT_SLOT_PORT ||
  k == O05.INSPECT_SLOT_INDEX || k == O0F.TABLE_QUERY || k == O10.PACE_SENDER || k == O13.RESULT_EPOCH || k == O15.DISC_INDEX ||
  k == O17.REGION_INDEX || k == O18.FW_HOST_ADDR || k == O19.ENROLL_RESULT || k == O19.ATTEST_RESULT || k == O19.KEY_RESULT ||
  k == O1A.LOG_SEQ || (clsOf k == 0x11 && parOf k == 0x011) || (clsOf k == 0x14 && parOf k == 0x002)

/-- The objects that only a TMN-9624 has on instances that every member has (R4, R557, R660). -/
def largeOnly (k : Key) : Bool :=
  k == O19.PREVIOUS_ROOT_ID || k == O19.KEY_MIGRATE || k == O19.MIGRATE_STATE || k == O19.KEY_RETIRE

/-- The actions that write persistent values (R521). -/
def persistentAction (k : Key) : Bool := k == O1A.ROUTE_DEFAULTS || (clsOf k == 0x05 && (parOf k == 0x005 || parOf k == 0x006))

/-- What a write did: the state, the status, the value of the response item, and whether its values wait for a journal record. -/
structure Done where
  state : State
  status : Nat
  val : List Byte
  persists : Bool

/-- A write that changed nothing but what its refusal changes. -/
def Done.no (s : State) (status : Nat) : Done := ⟨s, status, [], false⟩

/-- A write that is done. -/
def Done.yes (r : State × Nat) : Done := ⟨r.1, r.2, [], false⟩

namespace State

/-- The row of a present object: none is ABSENT (R9, R557). -/
def rowHere (s : State) (k : Key) : Option ObjRow :=
  if clsOf k ≤ 0x1C ∧ s.present (clsOf k) (instOf k) ∧ ¬ (largeOnly k ∧ s.member ≠ .tmn9624) then rowOf k else none

/-- The instances that a wildcard covers: those present that have the parameter, in ascending order (R13, R558). -/
def wildKeys (s : State) (obj : Nat) : List Key :=
  let c := clsOf obj
  let all := (presentRanges s.member s.rate96 c).flatMap fun q => (List.range (q.2 + 1 - q.1)).map (q.1 + ·)
  (all.map fun i => c * 0x1000000 + i * 0x1000 + parOf obj).filter fun k => (s.rowHere k).isSome

/-- The number that a session's value of an object holds. -/
def ownN (s : State) (sess : Nat) (k : Key) : Nat := ((s.own sess k).getD ((baseOf k).getD (.num 0))).toNat

/-- What a group's other instances report of the group (R200). -/
def groupKey (s : State) (k : Key) : Key :=
  if clsOf k = 0x06 ∧ 0x010 ≤ parOf k then obKey 0x06 (s.inHead (instOf k)) (parOf k)
  else if clsOf k = 0x07 ∧ 0x010 ≤ parOf k then obKey 0x07 (s.outHead (instOf k)) (parOf k)
  else if clsOf k = 0x11 ∧ parOf k = 0x001 then obKey 0x11 (instOf k / 4 * 4) 0x001
  else k

/-- An instance whose group governs it (R200). -/
def groupMember (s : State) (k : Key) : Bool :=
  (clsOf k == 0x06 && s.n (O06.IN_LINK_MODE (instOf k)) == 3) || (clsOf k == 0x07 && s.n (O07.OUT_LINK_MODE (instOf k)) == 3)

/-- A value, or ABSENT. -/
def orAbsent (b : Option (List Byte)) : Except Nat Val :=
  match b with
  | some l => .ok (.blob l)
  | none => .error ABSENT

/-- LOG_RECORD: the record with the SEQ of LOG_SEQ; it counts as read (R678). -/
def readLog (s : State) (seq : Nat) : Except Nat Val × State :=
  match List.find? (fun (e : Rec × Bool) => e.1.seq == seq) s.evu.log with
  | none => (.error ABSENT, s)
  | some e =>
    let l := s.evu.log.map fun (x : Rec × Bool) => if x.1.seq = seq then (x.1, true) else x
    (.ok (.blob e.1.bytes), { s with evu := { s.evu with log := l } })

/-- What an object that is made at its read returns; none where the object holds a value of its own. -/
def readMade (s : State) (sess : Nat) (k : Key) : Option (Except Nat Val × State) :=
  let v (x : Except Nat Val) : Option (Except Nat Val × State) := some (x, s)
  let b (l : List Byte) : Option (Except Nat Val × State) := v (.ok (.blob l))
  let n (x : Nat) : Option (Except Nat Val × State) := v (.ok (.num x))
  match clsOf k with
  | 0x00 => if k = O00.UPTIME then n s.tick.up else none
  | 0x04 =>
    if k = O04.INSPECT_WINDOW then b (s.inspectWindow (s.ownN sess O04.INSPECT_LINK) (s.ownN sess O04.INSPECT_FIRST))
    else if k = O04.STREAM_DESC then v (orAbsent (s.streamDesc (s.ownN sess O04.INSPECT_STREAM)))
    else none
  | 0x05 =>
    if k = O05.SLOT_RECORD then
      if portClient s.member (s.ownN sess O05.INSPECT_SLOT_PORT) ≠ 1 then v (.error ABSENT)
      else n (s.fabric.slots.getD (s.ownN sess O05.INSPECT_SLOT_PORT * 131072 + s.ownN sess O05.INSPECT_SLOT_INDEX) 0)
    else none
  | 0x08 => if k = O08.ROUTE_SUBMIT then v (.error RANGE) else none
  | 0x0C => if parOf k = 0x084 ∧ instOf k < 0x400 then n (s.sinkOf (instOf k)) else none
  | 0x0F =>
    if k = O0F.TABLE_RESULT then v (orAbsent (s.tableResult ((s.own sess O0F.TABLE_QUERY).getD (.blob [])).bytes))
    else if k = O0F.TRAP_FRAME then some (orAbsent s.takeTrap.1, s.takeTrap.2)
    else none
  | 0x10 =>
    if k = O10.OVERFLOW_USED then n s.overflowUsed
    else if k = O10.PACE_INFO then b (s.paceInfo (s.ownN sess O10.PACE_SENDER))
    else none
  | 0x11 => if parOf k = 0x022 ∧ s.n (O11.LANE_MODE (instOf k)) = 1 then n (s.sdiLaneRate (instOf k)) else none
  | 0x13 => if k = O13.RESULT_MAP then v (orAbsent (s.resultMap (s.ownN sess O13.RESULT_EPOCH))) else none
  | 0x14 => if parOf k = 0x003 then b (s.cueRec (instOf k) (s.ownN sess (O14.CE_REC_INDEX (instOf k)))) else none
  | 0x15 => if k = O15.DISC_ENTRY then v (orAbsent ((s.cues.disc[s.ownN sess O15.DISC_INDEX]?).map discEntry)) else none
  | 0x17 => if k = O17.REGION_DESC then b (s.regionDesc (s.ownN sess O17.REGION_INDEX)) else none
  | 0x18 => if k = O18.SLOT_VERSION then b s.slotVersions else if k = O18.SLOT_SVN then b s.slotSvns else none
  | 0x1A =>
    if k = O1A.LOG_RECORD then some (s.readLog (s.ownN sess O1A.LOG_SEQ))
    else if k = O1A.IRQ_STATE then n s.irq.toNat
    else none
  | _ => none

/-- The value of an object at its last sample, for a counter; else its present value (R59, R518). -/
def readPlain (s : State) (k : Key) (r : ObjRow) : Val :=
  if r.ctr then
    match SMap.find? s.sample k with
    | some v => v
    | none => (baseOf k).getD (s.byObj k)
  else s.get k

/-- The value that a GET of a present, readable object returns (R518). -/
def readVal (s : State) (sess : Nat) (k : Key) (r : ObjRow) : Except Nat Val × State :=
  if ownKey k then (.ok ((s.own sess k).getD ((baseOf k).getD (.num 0))), s)
  else match s.readMade sess k with
  | some x => x
  | none => (.ok (s.readPlain (s.groupKey k) r), s)

/-- The default that a write with the DEFAULT flag sets; none where the Default column is blank (R517). -/
def defaultVal (s : State) (k : Key) (r : ObjRow) : Option Val :=
  match r.dflt with
  | .none => none
  | .by => some (s.byObj k)
  | _ => baseOf k

/-- The value of an item for an object of a row: the checks of presence, role and access (`may`), type and range, in the order of R22. -/
def itemVal (s : State) (k : Key) (role flags : Nat) (bytes : List Byte) (may : ObjRow → Bool) : Except Nat (ObjRow × Val) :=
  match s.rowHere k with
  | none => .error ABSENT
  | some r =>
    let d : Except Nat Val :=
      if bit flags 1 then (match s.defaultVal k r with
        | some v => .ok v
        | none => .error RANGE)
      else decodeVal r bytes
    let absent : Bool := match d with
      | .ok v => s.absentName k v
      | .error _ => false
    if absent then .error ABSENT
    else if ¬ (may r ∧ r.admits role) then .error DENIED
    else match d with
    | .error e => .error e
    | .ok v => .ok (r, v)

/-- A write of W takes effect at once, as its chapter states (R538). -/
def writeNow (s : State) (sess : Nat) (k : Key) (v : Val) : State × Nat :=
  let i := instOf k
  if ownKey k then (s.setOwn sess k v, OK)
  else if k = O01.PPS_TIME then (s.writePpsTime v.toNat, OK)
  else if clsOf k = 0x14 then (s.writeCueFlags i v.toNat, OK)
  else if clsOf k = 0x16 ∧ 0x100 ≤ i then s.actGpioSet (i - 0x100) v.toNat
  else if k = O19.TAMPER_CONFIG then s.writeTamperConfig v.toNat
  else (s.setObj k v, OK)

/-- What a write of WP leaves, before its record (R521, R538). -/
def writeKept (s : State) (k : Key) (v : Val) : State × Nat :=
  match clsOf k with
  | 0x0C =>
    if k = O0C.MATRIX_RATE then (s.writeMatrixRate v.toNat, OK)
    else if instOf k < 0x400 then (s.writeGain k v.toNat, OK)
    else ((s.setObj k v).journal k v, OK)
  | 0x1C =>
    if parOf k = 2 ∧ v.bytes ≠ [] ∧ ¬ (v.bytes.length = 97 ∧ Config.ecOnCurve v.bytes) then (s, RANGE)
    else match s.writeCred k v with
    | some t => (t, OK)
    | none => (s, CONFLICT)
  | _ => ((s.setObj k v).journal k v, OK)

/-- SESS_CLOSE (R535). -/
def actSessClose (s : State) (sid : Nat) : State × Nat :=
  if s.n (O1C.SESS_STATE sid) ≠ 2 then (s, CONFLICT) else (s.closeSession sid OK true, OK)

/-- An action, by object: the state and the status (R19, R538). -/
def act (s : State) (sess : Nat) (k : Key) (v : Val) (plan : Plan) : State × Nat :=
  let i := instOf k
  let n := v.toNat
  let p := parOf k
  match clsOf k with
  | 0x00 => if k = O00.DEVICE_RESET then s.actDeviceReset else s.actFactoryDefault
  | 0x01 => (s.actStepTime n, OK)
  | 0x02 => (s.realign n, OK)
  | 0x05 => if p = 0x005 then s.actClipAlloc i else s.actClipRelease i
  | 0x08 => s.fireSalvo (.host sess) i n s.tick64 plan
  | 0x0A => if p = 0x011 then s.actGroupStart i n else s.actGroupStop i n
  | 0x0C => if p = 0x002 then s.actPlayStart i n else s.actPlayStop i n
  | 0x0F =>
    if p = 0x014 then s.actMacsecSa i v.bytes
    else if p = 0x00A then s.actTrapSend v.bytes
    else if n = 0xFFFF then (s.actFdbFlush n, OK)
    else if 232 ≤ n then (s, RANGE)
    else if ¬ s.present 0x0F n then (s, ABSENT)
    else (s.actFdbFlush n, OK)
  | 0x11 => (s.actChkRestart i, OK)
  | 0x12 => s.actTrunkKey i v.bytes
  | 0x13 => s.actHandover n
  | 0x14 => if p = 0x005 then s.actCueFire i n else s.actRearm i n
  | 0x17 => s.actUnfreeze n
  | 0x18 => if k = O18.LC_TRANSITION then s.actLcTransition n else if k = O18.TAMPER_ACK then s.actTamperAck else s.actFwCommit
  | 0x19 =>
    if k = O19.ENROLL then s.actEnroll sess v.bytes
    else if k = O19.ATTEST then s.actAttest sess v.bytes
    else if k = O19.KEY_REQUEST then s.keyRequest sess v.bytes
    else s.actKeyRetire
  | 0x1A => if k = O1A.ACK_ALL then (s.actAckAll, OK) else (s.actRouteDefaults, OK)
  | _ => s.actSessClose i

/-- A job starts, by object: the state, the status and the job (R538, R566). -/
def startOf (s : State) (sess role : Nat) (k : Key) (v : Val) : State × Nat × Nat :=
  let i := instOf k
  let n := v.toNat
  match clsOf k with
  | 0x00 => if k = O00.CONFIG_EXPORT then s.startExport sess role n else s.startImport sess role n
  | 0x05 => if k = O05.MEMTEST then s.startMemtest sess role n
      else if parOf k = 0x00C then s.startClipLoad sess role i else s.startClipSave sess role i
  | 0x09 => s.startLutLoad sess role i
  | 0x11 => s.startEyeScan sess role i
  | 0x13 => let r := s.startResync sess role n
      (r.1.resyncStep, r.2)
  | 0x18 => s.startFwUpdate sess role
  | 0x19 => s.startKeyMigrate sess role v.bytes
  | _ => s.startCompact sess role

/-- The values that an action or a write would add to an IMMEDIATE record (R521, R523). -/
def toKeep (s : State) (k : Key) (v : Val) : List (Key × Val) :=
  if k = O1A.ROUTE_DEFAULTS then
    (s.objs.filter fun e => clsOf e.1 == 0x1A && decide (1 ≤ parOf e.1 ∧ parOf e.1 ≤ 3)).map fun e => (e.1, e.2)
  else [(k, v)]

/-- A persistent write that its unit admits: BUSY where the device takes none, or the journal has no room (R523, R602). -/
def keep (s : State) (k : Key) (v : Val) (r : State × Nat) : Done :=
  if r.2 ≠ OK then Done.yes r
  else if s.closed then Done.no s BUSY
  else if ¬ s.roomForWrite (s.toKeep k v) then Done.no s.journalFull BUSY
  else ⟨r.1, OK, [], true⟩

/-- A checked value is written to an object that a row permits (R16, R518, R521, R538). -/
def writeObj (s : State) (sess role : Nat) (k : Key) (r : ObjRow) (v : Val) (plan : Plan) : Done :=
  let e := s.itemStatus k v
  if e ≠ OK then Done.no s e
  else match r.acc with
  | .RW => if s.groupMember k then Done.no s CONFLICT else Done.yes (s.unflag k v.toNat, OK)
  | .W => Done.yes (s.writeNow sess k v)
  | .WP => s.keep k v (s.writeKept k v)
  | .X => if persistentAction k then s.keep k v (s.act sess k v plan) else Done.yes (s.act sess k v plan)
  | .J =>
    let t := s.startOf sess role k v
    if t.2.1 ≠ PENDING then Done.no s t.2.1
    else if s.closed then Done.no s BUSY
    else ⟨t.1, PENDING, d16 t.2.2, false⟩
  | _ => Done.no s DENIED

/-- An access that a SET may use (R22, R538). -/
def mayWrite (r : ObjRow) : Bool := r.acc.writable || r.acc.action || r.acc.job

/-- A SET of IN_LINK_MODE or OUT_LINK_MODE with the value MEMBER (R200). -/
def setsMember (s : State) (k : Key) (bytes : List Byte) : Bool :=
  (s.rowHere k).isSome && ((clsOf k == 0x06 && k == O06.IN_LINK_MODE (instOf k)) || (clsOf k == 0x07 && k == O07.OUT_LINK_MODE (instOf k))) &&
  bytes == [3]

/-- One item of a SET (R22, R538). The value MEMBER of a link mode is RANGE in a SET also, whatever the object's access (R200). -/
def setItem (s : State) (sess role : Nat) (k : Key) (flags : Nat) (bytes : List Byte) (plan : Plan) : Done :=
  if s.setsMember k bytes then Done.no s RANGE
  else match s.itemVal k role flags bytes mayWrite with
  | .error e => Done.no s e
  | .ok (r, v) => s.writeObj sess role k r v plan

/-- While the device waits for a tamper acknowledgement, it serves SEC sessions and the reads of classes 00, 18, 1A and 1C (R622). -/
def heldBack (s : State) (role : Nat) (k : Key) (read : Bool) : Bool :=
  s.phase == .tamperWait && role != 2 && !(read && [0x00, 0x18, 0x1A, 0x1C].contains (clsOf k))

end State

/-- A write of a command to an object, under a role and without a session (R19): an item of a SET. -/
def execRegisterWrite (role obj flags : Nat) (val : List Byte) (s : State) : Host.Outcome State Fault Refusal :=
  live s fun s => if s.answers ∧ ¬ s.heldBack role obj false then (s.setItem 0xFFFF role obj flags val Plan.empty).state else s

/-- A write of EV_STATUS (R16, R667). -/
def execEvStatus (event mask : Nat) (s : State) : Host.Outcome State Fault Refusal :=
  live s fun s => if event < 0x1000 ∧ mask < 4 ∧ s.served then s.unflag (O1A.EV_STATUS event) mask else s

/-- An event is raised by its unit (R666 to R668, R675). -/
def execEventRaised (event inst : Nat) (detail : List Byte) (s : State) : Host.Outcome State Fault Refusal :=
  live s fun s => if definedEvent event ∧ detail.length ≤ 40 then s.raise event inst detail else s

/-- The SESS_CLOSE action (R535). -/
def execSessClose (sess : Nat) (s : State) : Host.Outcome State Fault Refusal :=
  live s fun s => if s.answers then (s.actSessClose sess).1 else s

end Sys2Proof.Machine
end

