-- ==== Sys2Proof/Machine/Filulo.lean ====
section
/-! DEFINITION. Filulo requests: datagrams, reassembly, sequence numbers, and every operation of R529 (R524 to R529, R537 to R547). -/

namespace Sys2Proof.Machine

/-- Items of a request body; none where they are malformed (R528). The first argument is their number. -/
def parseItems : Nat → List Byte → Option (List Item)
  | 0, b => if b = [] then some [] else none
  | n + 1, b =>
    let k := natBE (slice b 6 2)
    let m := (k + 3) / 4 * 4
    if b.length < 8 + m then none
    else (parseItems n (b.drop (8 + m))).map fun l => ⟨natBE (b.take 4), (b.getD 4 0).toNat, slice b 8 k⟩ :: l

/-- A request (R527). -/
structure Req where
  op : Nat
  tx : Nat
  arg : Nat
  items : List Item
  deriving DecidableEq, Repr

/-- The request that a body spells; none where it is malformed (R527). -/
def parseReq (b : List Byte) : Option Req :=
  if b.length < 16 then none
  else (parseItems (natBE (slice b 2 2)) (b.drop 16)).map fun l => ⟨(b.getD 0 0).toNat, natBE (slice b 4 4), natBE (slice b 8 8), l⟩

/-- The STATUS of a response: OK if every item is OK or PENDING, else that of the first that is neither (R527). -/
def itemsStatus (l : List RItem) : Nat := ((l.find? fun i => i.status != OK && i.status != PENDING).map (·.status)).getD OK

/-- The items that fit a body of 8,192 bytes (R524). -/
def fitItems : Nat → List RItem → List RItem
  | _, [] => []
  | room, i :: l => if i.bytes.length ≤ room then i :: fitItems (room - i.bytes.length) l else []

/-- What serving items leaves: the state, the response items, and whether values wait for a journal record. -/
structure Served where
  state : State
  items : List RItem
  persists : Bool

/-- What a request leaves: the state, STATUS, RESULT, the response items, and whether values wait for a journal record. -/
structure Outcome where
  state : State
  status : Nat
  result : Nat
  items : List RItem
  persists : Bool

/-- An outcome without items. -/
def Outcome.plain (s : State) (status result : Nat) : Outcome := ⟨s, status, result, [], false⟩

/-- The objects whose bulk data goes into the device, and out of it (R547, R566). -/
def bulkIn (k : Key) : Bool :=
  (clsOf k == 0x05 && parOf k == 0x00C) || (clsOf k == 0x09 && parOf k == 0x002) || k == O18.FW_UPDATE || k == O00.CONFIG_IMPORT
def bulkOut (k : Key) : Bool := (clsOf k == 0x05 && parOf k == 0x00D) || (clsOf k == 0x11 && parOf k == 0x012) || k == O00.CONFIG_EXPORT

namespace State

/-- A session's role (R530). -/
def roleOf (s : State) (sess : Nat) : Nat := s.n (O1C.SESS_ROLE sess)

/-- An open transaction of a session (R539). -/
def ownTx (s : State) (sess id : Nat) : Option Tx := s.chain.opened.find? fun x => x.id == id && decide (x.origin = .host sess)

/-- Change an open transaction. -/
def setTx (s : State) (x : Tx) : State := s.onChain fun c => { c with opened := c.opened.map fun y => if y.id = x.id then x else y }

/-- The objects that an item names, in ascending order (R13, R528, R558). -/
def keysOf (s : State) (i : Item) : List Key :=
  if bit i.flags 0 then (match s.wildKeys i.obj with
    | [] => [i.obj]
    | l => l)
  else [i.obj]

/-- The value of an item as a transaction holds it: a cue record carries its index (R488, R511). -/
def stagedForm (s : State) (sess : Nat) (k : Key) (v : Val) : Val :=
  if clsOf k = 0x14 ∧ parOf k = 0x003 then .blob (d16 (s.ownN sess (O14.CE_REC_INDEX (instOf k))) ++ v.bytes) else v

/-- The staged value of an object; none where the transaction stages none (R518, R539). -/
def stagedView (s : State) (sess : Nat) (x : Tx) (k : Key) : Option Val :=
  let cue := clsOf k == 0x14 && parOf k == 0x003
  let l := x.items.filter fun e => e.1 == k && (!cue || e.2.bytes.take 2 == d16 (s.ownN sess (O14.CE_REC_INDEX (instOf k))))
  l.getLast?.map fun e => if cue then .blob (e.2.bytes.drop 2) else e.2

/-- One object of a GET (R22, R518, R539). -/
def getItem (s : State) (sess tx : Nat) (k : Key) (flags : Nat) (bytes : List Byte) : RItem × State :=
  let role := s.roleOf sess
  let no (e : Nat) : RItem × State := (⟨k, e, []⟩, s)
  match s.rowHere k with
  | none => no ABSENT
  | some r =>
    if ¬ (r.acc.readable ∧ r.admits role) then no DENIED
    else if bytes ≠ [] then no TYPE
    else if s.heldBack role k true then no BUSY
    else if bit flags 2 ∧ (s.ownTx sess tx).isNone then no CONFLICT
    else
      match (if bit flags 2 ∧ r.acc.staged then (s.ownTx sess tx).bind fun x => s.stagedView sess x k else none) with
      | some v => (⟨k, OK, wireBytes k v⟩, s)
      | none =>
        let q := s.readVal sess k r
        (match q.1 with
         | .ok v => ⟨k, OK, wireBytes k v⟩
         | .error e => ⟨k, e, []⟩, q.2)

/-- The items of a GET, in order (R538). -/
def getItems (s : State) (sess tx : Nat) (l : List Item) : Served :=
  l.foldl (fun a i => (a.state.keysOf i).foldl (fun a k =>
    let r := a.state.getItem sess tx k i.flags i.val
    ⟨r.2, a.items ++ [r.1], a.persists⟩) a) ⟨s, [], false⟩

/-- One object of a SET. The answer to an OTP change waits for it, and is OK then (R612, R618). -/
def setOne (s : State) (sess : Nat) (k : Key) (i : Item) (plan : Plan) : Done :=
  let role := s.roleOf sess
  if s.heldBack role k false ∧ (s.rowHere k).isSome then Done.no s BUSY
  else
    let d := s.setItem sess role k i.flags i.val plan
    if clsOf k = 0x18 ∧ k ≠ O18.FW_UPDATE ∧ d.status = PENDING then { d with status := OK } else d

/-- The items of a SET, in order (R538). -/
def setItems_ (s : State) (sess : Nat) (l : List Item) (c : Compiled) : Served :=
  l.zipIdx.foldl (fun a i => (a.state.keysOf i.1).foldl (fun a k =>
    let d := a.state.setOne sess k i.1 (c.plan i.2)
    ⟨d.state, a.items ++ [⟨k, d.status, d.val⟩], a.persists || d.persists⟩) a) ⟨s, [], false⟩

/-- BEGIN (R539). -/
def opBegin (s : State) (sess : Nat) : Outcome :=
  if 4 ≤ (s.txOpen sess).length then Outcome.plain s BUSY 0
  else
    let id := s.chain.lastTx + 1
    let x := { Tx.blank (.host sess) [] with id := id, touched := s.now }
    let t := s.onChain fun c => { c with lastTx := id, opened := c.opened ++ [x] }
    Outcome.plain (t.setN (O1C.SESS_TX_OPEN sess) (t.txOpen sess).length) OK id

/-- A checked item joins a transaction: routes in turn, any other value in place of one staged before (R539). -/
def stageInto (x : Tx) (k : Key) (v : Val) : List (Key × Val) :=
  if plainItem k ∨ slotLen k ≠ 0 then putItem x.items (k, v) else x.items ++ [(k, v)]

/-- One object of a STAGE: the transaction and the status (R539). -/
def stageOne (s : State) (sess : Nat) (x : Tx) (k : Key) (i : Item) : Tx × Nat :=
  let failed (e : Nat) : Tx × Nat := ({ x with fail := if x.fail = 0 then e else x.fail }, e)
  match s.itemVal k (s.roleOf sess) i.flags i.val (fun r => r.acc.staged) with
  | .error e => failed e
  | .ok (_, v) =>
    let w := s.stagedForm sess k v
    let e := s.itemStatus k w
    if e ≠ OK then failed e
    else
      let l := stageInto x k w
      let bytes := (l.map fun e => (wireBytes e.1 e.2).length).foldl (· + ·) 0
      if 4096 < l.length ∨ 1048576 < bytes then failed NO_CAPACITY
      else ({ x with items := l, count := l.length, bytes := bytes }, OK)

/-- STAGE (R539). Where the transaction is none of the session's own, an item fails by the first of its checks that fails, CONFLICT being
the last of them (R22). -/
def opStage (s : State) (sess tx : Nat) (l : List Item) : Outcome :=
  match s.ownTx sess tx with
  | none =>
    let r : List RItem := l.flatMap fun i => (s.keysOf i).map fun k =>
      let e := (s.stageOne sess (Tx.blank (.host sess) []) k i).2
      ⟨k, if e = OK then CONFLICT else e, []⟩
    ⟨s, if r = [] then CONFLICT else itemsStatus r, 0, r, false⟩
  | some x =>
    let r := l.foldl (fun (a : Tx × List RItem) i => (s.keysOf i).foldl (fun (a : Tx × List RItem) k =>
      let q := s.stageOne sess a.1 k i
      (q.1, a.2 ++ [⟨k, q.2, []⟩])) a) ({ x with touched := s.now }, [])
    ⟨s.setTx r.1, itemsStatus r.2, 0, r.2, false⟩

/-- A domain-wide transaction goes to the master (R242, R468): the status. -/
def commitDomain (s : State) (sess : Nat) (x : Tx) (act : Nat) (c : Compiled) : State × Nat :=
  if s.closed then (s, BUSY)
  else if s.isMaster then s.domainTx (s.n O13.DEVICE_ID) sess x.id act x.items (State.itemPins x.items c.media) c.graph (c.plan 0)
  else if s.isMember then
    (s.emit (.domain 0x30 0xFFFF ([x.id, act] ++ x.items.flatMap fun e => e.1 :: (wireBytes e.1 e.2).map (·.toNat))), PENDING)
  else (s, CONFLICT)

/-- COMMIT (R540). -/
def opCommit (s : State) (sess tx act : Nat) (c : Compiled) : Outcome :=
  match s.ownTx sess tx with
  | none => Outcome.plain s CONFLICT 0
  | some x =>
    let t := s.onChain fun q => { q with opened := q.opened.filter fun y => y.id != tx }
    let t := t.setN (O1C.SESS_TX_OPEN sess) (t.txOpen sess).length
    if x.fail ≠ 0 then Outcome.plain t x.fail tx
    else if x.items = [] then Outcome.plain t OK 0
    else
      let r := if t.domainWide x.items then t.commitDomain sess x act c else t.commitTx x act (c.plan 0) (some s.tick64)
      Outcome.plain r.1 r.2 tx

/-- A session may abort a transaction of another only as SEC (R541). -/
def mayAbort (s : State) (sess owner : Nat) : Bool := sess == owner || s.roleOf sess == 2

/-- The domain epoch of a transaction of this device's sessions. -/
def epochOfTx (s : State) (tx : Nat) : Option (Nat × Nat) :=
  s.domain.epochs.findSome? fun x => match x.origin with
    | some (dv, i, n) => if dv = s.n O13.DEVICE_ID ∧ n = tx ∧ x.done = false then some (dv, i) else none
    | none => none

/-- ABORT (R541). -/
def opAbort (s : State) (sess tx : Nat) : Outcome :=
  match s.pendingTxs.find? fun x => x.id == tx && tx != 0 with
  | some x =>
    (match x.origin with
     | .host o => if s.mayAbort sess o then Outcome.plain (s.withdraw x ABORTED) OK tx else Outcome.plain s DENIED tx
     | _ => Outcome.plain s CONFLICT tx)
  | none =>
    match s.epochOfTx tx with
    | none => Outcome.plain s CONFLICT tx
    | some (dv, o) =>
      if ¬ s.mayAbort sess o then Outcome.plain s DENIED tx
      else match s.abortDomain dv o tx with
      | some r => Outcome.plain r.1 r.2 tx
      | none => Outcome.plain s CONFLICT tx

/-- DISCARD (R539). -/
def opDiscard (s : State) (sess tx : Nat) : Outcome :=
  match s.ownTx sess tx with
  | none => Outcome.plain s CONFLICT 0
  | some _ => Outcome.plain (s.txDiscarded sess tx) OK 0

/-- A suspended job goes on (R545). -/
def resumeJob (s : State) (sess j : Nat) : State :=
  match s.job? j with
  | none => s
  | some x =>
    let t := (s.setJob j { x with bulk := if sess < 0x24 then some sess else none }).setN (O1B.JOB_STATUS j) PENDING
    if s.n O1B.JOBS_RUNNING < s.n O1B.JOBS_LIMIT then t.runJob j 0x1B2
    else (((t.setN (O1B.JOB_STATE j) 1).countJobs).raise 0x1B2 j []).noteJob j

/-- JOB: 1 SUSPEND, 2 RESUME, 3 CANCEL, 4 RELEASE (R545, R546, R548). -/
def opJob (s : State) (sess j code : Nat) : Outcome :=
  let st := s.n (O1B.JOB_STATE j)
  let no (e : Nat) : Outcome := Outcome.plain s e j
  let may : Bool := ((rowOf (s.n (O1B.JOB_OBJECT j))).map fun r => r.admits (s.roleOf sess)).getD false
  if 64 ≤ j then no ABSENT
  else if st ≠ 0 ∧ ¬ may then no DENIED
  else if code = 0 ∨ 4 < code then no RANGE
  else match s.job? j with
  | none => no CONFLICT
  | some x =>
    match code with
    | 1 => if st = 2 then Outcome.plain (s.setJob j { x with ask := max x.ask 1 }) OK j else no CONFLICT
    | 2 => if st = 3 then Outcome.plain (s.resumeJob sess j) OK j else no CONFLICT
    | 3 => if 1 ≤ st ∧ st ≤ 3 then Outcome.plain (s.setJob j { x with ask := 3 }) OK j else no CONFLICT
    | _ => if st = 4 then Outcome.plain (s.freeJob j) OK j else no CONFLICT

/-- The check of a subscription: its status, in the order of R22 (R542, R557). -/
def subCheck (s : State) (sess : Nat) (i : Item) (x : SessSt) : Nat :=
  let events := i.val.getD 0 0 == 1
  let last := natBE (slice i.val 2 2)
  let gap := natBE (slice i.val 4 4)
  let held : Nat := (s.sess.map fun (e : Nat × SessSt) => e.2.subs.length).foldl (· + ·) 0
  let keys := if events then [] else s.keysOf i
  let role := s.roleOf sess
  if keys.any fun k => (s.rowHere k).isNone then ABSENT
  else if keys.any fun k => ((s.rowHere k).map fun r => !(r.acc.readable && r.admits role)).getD true then DENIED
  else if i.val.length ≠ 8 then TYPE
  else if 1 < (i.val.getD 0 0).toNat then RANGE
  else if events then
    (if clsOf i.obj ≠ 0 ∨ instOf i.obj ≠ 0 ∨ last < parOf i.obj ∨ 0xFFF < last ∨ 4 < (i.val.getD 1 0).toNat ∨ gap ≠ 0 then RANGE
     else if 256 ≤ x.subs.length ∨ 4096 ≤ held then NO_CAPACITY else OK)
  else
    if gap < 192 ∨ 11520000 < gap then RANGE
    else if 256 ≤ x.subs.length ∨ 4096 ≤ held then NO_CAPACITY
    else OK

/-- A session's subscriptions change (R542). -/
def setSubs (s : State) (sess : Nat) (x : SessSt) (l : List Sub) : State :=
  (s.setSess sess { x with subs := l }).setN (O1C.SESS_SUBS sess) l.length

/-- SUBSCRIBE (R542). -/
def opSubscribe (s : State) (sess : Nat) (l : List Item) : Outcome :=
  match s.sess? sess, l with
  | some x, [i] =>
    let e := s.subCheck sess i x
    let item : List RItem := [⟨i.obj, e, []⟩]
    if e ≠ OK then ⟨s, e, 0, item, false⟩
    else
      let id := (x.subs.map (·.id)).foldl max 0 + 1
      let events := i.val.getD 0 0 == 1
      let u : Sub := { id := id, events := events, obj := if events then parOf i.obj else i.obj, wildcard := bit i.flags 0,
                       minSeverity := (i.val.getD 1 0).toNat, lastEvent := natBE (slice i.val 2 2), interval := natBE (slice i.val 4 4),
                       seen := [], dropped := 0 }
      ⟨s.setSubs sess x (x.subs ++ [u]), OK, id, item, false⟩
  | _, _ => Outcome.plain s TYPE 0

/-- UNSUBSCRIBE (R542). -/
def opUnsubscribe (s : State) (sess sub : Nat) : Outcome :=
  match s.sess? sess with
  | none => Outcome.plain s CONFLICT 0
  | some x =>
    if sub = 0xFFFFFFFF then Outcome.plain (s.setSubs sess x []) OK 0
    else if x.subs.any fun u => u.id == sub then Outcome.plain (s.setSubs sess x (x.subs.filter fun u => u.id != sub)) OK 0
    else Outcome.plain s CONFLICT 0

/-- The checks that bulk requests share, in the order of R22: the object and the job, the role, what the item's value says of itself (`own`),
the offset, and the job's own state. The job and the item, or the status with the offset expected (R529, R547). -/
def bulkCheck (s : State) (sess j offset : Nat) (l : List Item) (dir : Key → Bool) (own : List Byte → Nat) :
    Except (Nat × Nat) (JobSt × Item) :=
  match l with
  | [i] =>
    (match s.rowHere i.obj with
     | none => .error (ABSENT, 0)
     | some r =>
       if 64 ≤ j then .error (ABSENT, 0)
       else if ¬ r.admits (s.roleOf sess) then .error (DENIED, 0)
       else if own i.val ≠ OK then .error (own i.val, ((s.job? j).map (·.next)).getD 0)
       else match s.job? j with
       | none => .error (CONFLICT, 0)
       | some x =>
         if offset ≠ x.next then .error (RANGE, x.next)
         else if s.n (O1B.JOB_STATE j) ≠ 2 ∨ x.obj ≠ i.obj ∨ ¬ dir x.obj ∨ x.par.headD 0 ≠ 0 then .error (CONFLICT, 0)
         else .ok (x, i))
  | _ => .error (TYPE, 0)

/-- The total length of a load, by object and data so far; a bound until the header has come (R547, R567, R607). -/
def bulkTotal (s : State) (k : Key) (data : List Byte) : Nat × Bool :=
  match clsOf k with
  | 0x05 => (s.n (O05.CLIP_BYTES (instOf k)), true)
  | 0x09 => (215626, true)
  | 0x18 => if 20 ≤ data.length then (256 + natBE (slice data 16 4), true) else (12583168, false)
  | _ => if 20 ≤ data.length then (36 + natBE (slice data 16 4), true) else (268435492, false)

/-- BULK_PUT (R547). -/
def opBulkPut (s : State) (sess j offset : Nat) (l : List Item) (c : Compiled) : Outcome :=
  match s.bulkCheck sess j offset l bulkIn fun v => if v = [] ∨ 8000 < v.length then RANGE else OK with
  | .error e => ⟨s, e.1, e.2, l.map fun i => ⟨i.obj, e.1, []⟩, false⟩
  | .ok (x, i) =>
    let no (e : Nat) : Outcome := ⟨s, e, x.next, [⟨i.obj, e, []⟩], false⟩
    let data := x.data ++ i.val
    let total := s.bulkTotal x.obj data
    if total.1 < data.length then no RANGE
    else if x.obj = O18.FW_UPDATE ∧ s.n O18.FW_PHASE ≠ 1 then no BUSY
    else
      let whole := total.2 && data.length == total.1
      let y := { x with
        data := data, next := data.length, bulk := some sess
        plans := if c.plans = [] then x.plans else c.plans
        done := if x.obj = O00.CONFIG_IMPORT ∧ whole then 1 else x.done }
      ⟨s.setJob j y, OK, data.length, [⟨i.obj, OK, []⟩], false⟩

/-- BULK_GET: the job ends with its last byte fetched (R547). -/
def opBulkGet (s : State) (sess j offset : Nat) (l : List Item) : Outcome :=
  match s.bulkCheck sess j offset l bulkOut fun v =>
    if v.length ≠ 2 then TYPE else if natBE v = 0 ∨ 8000 < natBE v then RANGE else OK with
  | .error e => ⟨s, e.1, e.2, l.map fun i => ⟨i.obj, e.1, []⟩, false⟩
  | .ok (x, i) =>
    let n := natBE i.val
    if ¬ x.ready then ⟨s, OK, x.next, [⟨i.obj, PENDING, []⟩], false⟩
    else
      let d := slice x.data x.next n
      let t := s.setJob j { x with next := x.next + d.length, bulk := some sess }
      let t := if x.data.length ≤ x.next + d.length then t.stopJob j OK else t
      ⟨t, OK, x.next + d.length, [⟨i.obj, OK, d⟩], false⟩

/-- A request's operation (R529). -/
def operate (s : State) (sess : Nat) (q : Req) (c : Compiled) : Outcome :=
  if s.phase = .tamperWait ∧ s.roleOf sess ≠ 2 ∧ q.op ≠ 1 ∧ 1 ≤ q.op ∧ q.op ≤ 12 then Outcome.plain s BUSY 0
  else match q.op with
  | 0x01 => let r := s.getItems sess q.tx q.items
      ⟨r.state, itemsStatus r.items, 0, r.items, false⟩
  | 0x02 => let r := s.setItems_ sess q.items c
      ⟨r.state, itemsStatus r.items, 0, r.items, r.persists⟩
  | 0x03 => s.opBegin sess
  | 0x04 => s.opStage sess q.tx q.items
  | 0x05 => s.opCommit sess q.tx q.arg c
  | 0x06 => s.opAbort sess q.tx
  | 0x07 => s.opDiscard sess q.tx
  | 0x08 => s.opJob sess (q.arg % 65536) (field q.arg 23 16)
  | 0x09 => s.opSubscribe sess q.items
  | 0x0A => s.opUnsubscribe sess q.arg
  | 0x0B => s.opBulkPut sess (q.arg % 65536) (q.arg / 65536) q.items c
  | 0x0C => s.opBulkGet sess (q.arg % 65536) (q.arg / 65536) q.items
  | _ => Outcome.plain s RANGE 0

/-- A response goes once the journal does not hold it: after an OTP change, or at the release of a key result (R612, R618, R648). -/
def afterJournal (s : State) (sess : Nat) (r : Resp) : State :=
  let otp := (r.items.any fun i => (i.obj == O18.LC_TRANSITION || i.obj == O18.FW_COMMIT) && i.status == OK) &&
    s.boot.otp.intents.any fun i => !i.done
  if otp then s.onBoot fun b => { b with answers := b.answers ++ [(sess, r)] }
  else if (r.items.any fun i => i.obj == O19.KEY_REQUEST) ∧ s.keys.ran.any (fun e => e.1 == sess) then
    s.onKeys fun k => { k with wait := k.wait ++ [(sess, r)] }
  else s.respond sess r

/-- The response of a request: at once, or after the record that holds its values (R521, R527). -/
def answer (s : State) (sess : Nat) (r : Resp) (persists : Bool) : State :=
  if persists ∧ s.jrnl.imm ≠ [] then s.answerLater sess r else s.afterJournal sess r

/-- A request is executed and answered (R527). -/
def request (s : State) (sess seq : Nat) (q : Req) (c : Compiled) : State :=
  let o := s.operate sess q c
  o.state.answer sess ⟨seq, q.op, o.status, o.result, fitItems 8176 o.items⟩ o.persists

/-- A malformed request: TYPE (R22, R527). -/
def malformed (s : State) (sess seq : Nat) (b : List Byte) : State :=
  s.answer sess ⟨seq, (b.getD 0 0).toNat, TYPE, 0, []⟩ false

/-- A message of an open session, by its SEQ: executed, answered from the cache, or discarded (R526). -/
def bySeq (s : State) (sess seq : Nat) (isRequest : Bool) (f : State → State) : State :=
  match s.sess? sess with
  | none => s
  | some x =>
    if s.n (O1C.SESS_STATE sess) ≠ 2 then s
    else
      let x := { x with heard := s.now }
      if x.high < seq then
        f (s.setSess sess { x with high := seq, seen := (x.high :: x.seen).filter fun n => decide (seq ≤ n + 64) })
      else if seq < x.high ∧ x.high ≤ seq + 64 ∧ seq ≠ 0 ∧ ¬ x.seen.contains seq then f (s.setSess sess { x with seen := seq :: x.seen })
      else
        let t := s.setSess sess x
        if ¬ isRequest then t
        else match List.find? (fun (e : Nat × Nat × Resp) => e.1 == seq) x.cache with
        | some (_, n, r) => t.transmit sess x 0x11 n r.bytes
        | none => t

/-- The rest of a session's queue has room again: what was dropped is counted in LOST entries (R544). -/
def queueDrains (s : State) (sess : Nat) : State :=
  match s.sess? sess with
  | none => s
  | some x =>
    if ¬ (x.overflow ∧ notesFit x) then s
    else
      let t := s.setSess sess { x with overflow := false, subs := x.subs.map fun u => { u with dropped := 0 } }
      t.forEach (x.subs.filter fun u => u.dropped != 0) fun t u => t.note sess (.lost u.id u.dropped)

/-- NOTIFY_ACK of a NOTIFY (R544). -/
def acked (s : State) (sess note : Nat) : State :=
  match s.sess? sess with
  | none => s
  | some x =>
    let l := x.notes.filter fun n => n.seq != note
    (((s.setSess sess { x with notes := l }).setN (O1C.SESS_QUEUE sess) l.length)).queueDrains sess

/-- A whole message of an open session (R525). -/
def message (s : State) (sess kind seq : Nat) (body : List Byte) (c : Compiled) : State :=
  s.bySeq sess seq (kind == 0x10) fun t =>
    match kind with
    | 0x10 => (match parseReq body with
      | some q => t.request sess seq q c
      | none => t.malformed sess seq body)
    | 0x13 => if body.length = 4 then t.acked sess (natBE body) else t
    | 0x15 => if body.length = 1 then t.closeSession sess (natBE body) false else t
    | _ => t

end State

/-- A datagram or mailbox message as its header spells it (R524). -/
structure Dgram where
  kind : Nat
  frag : Nat
  security : Nat
  ident : Nat
  seq : Nat
  header : List Byte
  body : List Byte
  tag : List Byte
  deriving DecidableEq, Repr

/-- A datagram; none where it is discarded for its form. A slot holds its message first (R524, R525, R537). -/
def parseDgram (b : List Byte) (slot : Bool) : Option Dgram :=
  let u (o k : Nat) : Nat := natBE (slice b o k)
  let len := u 12 2
  let size := 16 + len + 16 * u 3 1
  if b.length < 16 ∨ u 0 1 ≠ 1 ∨ 1 < u 3 1 ∨ ¬ [0x01, 0x03, 0x10, 0x13, 0x14, 0x15].contains (u 1 1) then none
  else if (if slot then decide (8192 < len ∨ b.length < size ∨ u 2 1 ≠ 0) else decide (1400 < len ∨ b.length ≠ size)) then none
  else some ⟨u 1 1, u 2 1, u 3 1, u 4 4, u 8 4, b.take 16, slice b 16 len, slice b (16 + len) 16⟩

/-- The body of a sealed datagram; none where its tag fails (R534). -/
def Dgram.unseal (d : Dgram) (keys : List Byte) : Option (List Byte) :=
  gcmOpen (keys.take 32) (slice keys 64 4 ++ bytesBE 4 d.seq ++ bytesBE 1 d.frag ++ zeros 3) d.header d.body d.tag

namespace State

/-- The session of a transport that an identifier names, in a state: 1 HANDSHAKE, 2 OPEN. -/
def sessBy (s : State) (mailbox : Bool) (ident state : Nat) : Option (Nat × SessSt) :=
  List.find? (fun (e : Nat × SessSt) => mailboxSess e.1 == mailbox && e.2.ident == ident && s.n (O1C.SESS_STATE e.1) == state) s.sess

/-- A datagram is discarded and counted (R534). -/
def authDiscard (s : State) : State := s.bump O1C.AUTH_DISCARDS 1

/-- A whole message, by kind (R525, R530). -/
def deliver (s : State) (mailbox : Bool) (addr port sess kind seq : Nat) (body : List Byte) (c : Compiled) : State :=
  if 8192 < body.length then s
  else match kind with
  | 1 => s.hello mailbox addr port body
  | 3 => s.prove sess body
  | _ => s.message sess kind seq body c

/-- The datagrams of a message are gathered for 19,200 ticks from the first; a whole message is delivered (R524). `key` is the session, or
stands for the peer of a HELLO. -/
def gatherFrag (s : State) (d : Dgram) (key : Nat) (body : List Byte) (f : State → List Byte → State) : State :=
  let count := d.frag % 16 + 1
  let idx := d.frag / 16
  if 8 < count ∨ count ≤ idx then s
  else if count = 1 then f s body
  else
    let here (r : Reasm) : Bool := r.sess == key && r.seq == d.seq && r.kind == d.kind
    let old := List.find? (fun (r : Reasm) => here r && r.count == count && decide (s.now ≤ r.since + 19200)) s.reasm
    let r : Reasm := old.getD ⟨key, d.seq, d.kind, count, [], s.now⟩
    let parts := r.parts.put idx body
    let rest := s.reasm.filter fun q => !(here q)
    if parts.length = count then f { s with reasm := rest } (parts.flatMap (·.2))
    else { s with reasm := rest ++ [{ r with parts := parts }] }

/-- The key of a message that belongs to no session. -/
def peerKey (addr port : Nat) : Nat := 0x10000 + addr * 65536 + port

/-- A datagram's message, or its fragment, reaches the session, and a whole message is served. -/
def gathered (s : State) (d : Dgram) (mailbox : Bool) (addr port : Nat) (c : Compiled) (sess key : Nat) (body : List Byte) : State :=
  s.gatherFrag d key body fun t b => t.deliver mailbox addr port sess d.kind d.seq b c

/-- A datagram or slot that is well formed (R524, R525, R534, R537). -/
def accepted (s : State) (d : Dgram) (mailbox : Bool) (addr port : Nat) (c : Compiled) : State :=
  if d.security = 0 ∧ 0x10 ≤ d.kind ∧ (¬ mailbox ∨ s.b O1C.MAILBOX_SEAL) then s
  else if d.security = 1 then
    match s.sessBy mailbox d.ident 2 with
    | none => s.authDiscard
    | some (sid, x) =>
      if d.kind < 0x10 then s.authDiscard
      else match d.unseal x.keys with
      | none => s.authDiscard
      | some b => s.gathered d mailbox addr port c sid sid b
  else if d.kind = 1 then (if d.ident = 0 then s.gathered d mailbox addr port c 0xFFFF (peerKey addr port) d.body else s.authDiscard)
  else match s.sessBy mailbox d.ident (if d.kind = 3 then 1 else 2) with
  | none => s.authDiscard
  | some (sid, _) => s.gathered d mailbox addr port c sid sid d.body

/-- The bytes of an H2D slot (R537). -/
def h2dSlot (s : State) (i : Nat) : List Byte :=
  (List.range 16384).map fun j => SMap.getD s.bus.h2d (i * 16384 + j) 0

/-- Neloas serves the mailbox (R537, R600). -/
def mailReady (s : State) : Bool := bit s.mail.status 1

/-- The H2D slots are consumed in order, while Neloas serves them (R537). The first argument bounds their number. -/
def drainH2d : Nat → State → State
  | 0, s => s
  | f + 1, s =>
    let r := s.mail
    if r.h2dHead = r.h2dTail ∨ ¬ s.answers ∨ ¬ s.mailReady then s
    else
      let i := r.h2dHead
      let c := r.compiled.getD i Compiled.empty
      let t : State := { s with mail := { r with h2dHead := (i + 1) % 16, compiled := r.compiled.del i } }
      drainH2d f (match parseDgram (s.h2dSlot i) true with
        | some d => t.accepted d true 0 0 c
        | none => t)

/-- Messages that wait for room go into the D2H ring, in order (R537). The first argument bounds their number. -/
def fillD2h : Nat → State → State
  | 0, s => s
  | f + 1, s =>
    match s.mail.wait with
    | [] => s
    | m :: l => if s.ringFull then s else fillD2h f ({ s with mail := { s.mail with wait := l } }.ringSend m.1 m.2)

/-- A doorbell (R537): TAIL moves, unless it would pass HEAD. -/
def h2dTail (s : State) (index : Nat) (cs : List (Nat × Compiled)) : State :=
  let r := s.mail
  let i := index % 16
  if (r.h2dHead + 15 - r.h2dTail) % 16 < (i + 16 - r.h2dTail) % 16 then { s with mail := { r with status := setBits r.status 1 } }
  else
    let m := cs.foldl (fun (m : SMap Compiled) e => m.put (e.1 % 16) e.2) r.compiled
    drainH2d 16 { s with mail := { r with h2dTail := i, compiled := m } }

/-- The host frees D2H slots that it has read (R537). -/
def d2hHead (s : State) (index : Nat) : State :=
  let r := s.mail
  let d := (index % 16 + 16 - r.d2hHead) % 16
  if r.d2h.length < d then s
  else
    let t : State := { s with mail := { r with d2hHead := index % 16, d2h := r.d2h.drop d } }
    fillD2h 16 t.ringClock

end State

/-- A request reaches the object engine in an open session (R526, R538). -/
def requestIn (sess seq : Nat) (q : Req) (c : Compiled) (s : State) : Host.Outcome State Fault Refusal :=
  live s fun s => if s.answers ∧ s.talks (mailboxSess sess) then s.bySeq sess seq true fun t => t.request sess seq q c else s

/-- A Filulo datagram on an enabled management interface (R524, R534). -/
def execDatagramRx (iface addr port : Nat) (bytes : List Byte) (c : Compiled) (s : State) : Host.Outcome State Fault Refusal :=
  live s fun s =>
    if s.answers ∧ s.talks false ∧ iface < 2 ∧ s.b (O1C.MGMT_ENABLE (0x100 + iface)) then
      (match parseDgram bytes false with
       | some d => s.accepted d false addr port c
       | none => s)
    else s

/-- A message whose datagrams have not all come within 19,200 ticks of the first (R524). -/
def execReassemblyTimeout (sess seq : Nat) (s : State) : Host.Outcome State Fault Refusal :=
  live s fun s =>
    { s with reasm := s.reasm.filter fun r => !(r.sess == sess && r.seq == seq && decide (r.since + 19200 ≤ s.now)) }

/-- GET (R518, R529). -/
def execGet (sess seq tx : Nat) (items : List Item) (s : State) : Host.Outcome State Fault Refusal :=
  requestIn sess seq ⟨1, tx, 0, items⟩ Compiled.empty s

/-- SET (R529, R538). -/
def execSet (sess seq : Nat) (items : List Item) (c : Compiled) (s : State) : Host.Outcome State Fault Refusal :=
  requestIn sess seq ⟨2, 0, 0, items⟩ c s

/-- BEGIN (R539). -/
def execBegin (sess seq : Nat) (s : State) : Host.Outcome State Fault Refusal := requestIn sess seq ⟨3, 0, 0, []⟩ Compiled.empty s

/-- STAGE (R539). -/
def execStage (sess seq tx : Nat) (items : List Item) (s : State) : Host.Outcome State Fault Refusal :=
  requestIn sess seq ⟨4, tx, 0, items⟩ Compiled.empty s

/-- COMMIT (R540). -/
def execCommit (sess seq tx act : Nat) (c : Compiled) (s : State) : Host.Outcome State Fault Refusal :=
  requestIn sess seq ⟨5, tx, act, []⟩ c s

/-- ABORT (R541). -/
def execAbort (sess seq tx : Nat) (s : State) : Host.Outcome State Fault Refusal := requestIn sess seq ⟨6, tx, 0, []⟩ Compiled.empty s

/-- DISCARD (R539). -/
def execDiscard (sess seq tx : Nat) (s : State) : Host.Outcome State Fault Refusal := requestIn sess seq ⟨7, tx, 0, []⟩ Compiled.empty s

/-- JOB with SUSPEND (R545). -/
def execJobSuspend (sess seq job : Nat) (s : State) : Host.Outcome State Fault Refusal :=
  requestIn sess seq ⟨8, 0, job % 65536 + 1 * 65536, []⟩ Compiled.empty s

/-- JOB with RESUME (R545). -/
def execJobResume (sess seq job : Nat) (s : State) : Host.Outcome State Fault Refusal :=
  requestIn sess seq ⟨8, 0, job % 65536 + 2 * 65536, []⟩ Compiled.empty s

/-- JOB with CANCEL (R545). -/
def execJobCancel (sess seq job : Nat) (s : State) : Host.Outcome State Fault Refusal :=
  requestIn sess seq ⟨8, 0, job % 65536 + 3 * 65536, []⟩ Compiled.empty s

/-- JOB with RELEASE (R545). -/
def execJobRelease (sess seq job : Nat) (s : State) : Host.Outcome State Fault Refusal :=
  requestIn sess seq ⟨8, 0, job % 65536 + 4 * 65536, []⟩ Compiled.empty s

/-- SUBSCRIBE (R542). -/
def execSubscribe (sess seq : Nat) (items : List Item) (s : State) : Host.Outcome State Fault Refusal :=
  requestIn sess seq ⟨9, 0, 0, items⟩ Compiled.empty s

/-- UNSUBSCRIBE (R542). -/
def execUnsubscribe (sess seq sub : Nat) (s : State) : Host.Outcome State Fault Refusal :=
  requestIn sess seq ⟨10, 0, sub, []⟩ Compiled.empty s

/-- BULK_PUT (R547). -/
def execBulkPut (sess seq job offset : Nat) (items : List Item) (c : Compiled) (s : State) : Host.Outcome State Fault Refusal :=
  requestIn sess seq ⟨11, 0, job % 65536 + offset * 65536, items⟩ c s

/-- BULK_GET (R547). -/
def execBulkGet (sess seq job offset : Nat) (items : List Item) (s : State) : Host.Outcome State Fault Refusal :=
  requestIn sess seq ⟨12, 0, job % 65536 + offset * 65536, items⟩ Compiled.empty s

/-- NOTIFY_ACK of the NOTIFY with a SEQ (R544). -/
def execNotifyAck (sess seq note : Nat) (s : State) : Host.Outcome State Fault Refusal :=
  live s fun s => if s.answers then s.bySeq sess seq false fun t => t.acked sess note else s

/-- A NOTIFY is unacknowledged for 19,200 ticks: it is resent, up to 10 times; then the session closes (R544). -/
def execNotifyResend (sess note : Nat) (s : State) : Host.Outcome State Fault Refusal :=
  live s fun s =>
    match s.sess? sess with
    | none => s
    | some x =>
      match List.find? (fun (n : Note) => n.seq == note) x.notes with
      | none => s
      | some n =>
        if s.now < n.sentAt + 19200 ∨ ¬ s.answers then s
        else if 10 ≤ n.tries then s.closeSession sess TIMEOUT true
        else
          let again (m : Note) : Note := if m.seq = note then { m with sentAt := s.now, tries := m.tries + 1 } else m
          (s.setSess sess { x with notes := x.notes.map again }).transmit sess x 0x12 note (noteBody n.entry)

/-- KEEPALIVE from the host (R525, R535). -/
def execKeepalive (sess seq : Nat) (s : State) : Host.Outcome State Fault Refusal :=
  live s fun s => if s.answers then s.bySeq sess seq false id else s

/-- CLOSE from the host, with a status: it is not answered (R535). -/
def execClose (sess seq status : Nat) (s : State) : Host.Outcome State Fault Refusal :=
  live s fun s => if s.answers then s.bySeq sess seq false fun t => t.closeSession sess status false else s

/-- A write of MB_H2D_TAIL (R537). -/
def execMbH2dTail (index : Nat) (cs : List (Nat × Compiled)) (s : State) : Host.Outcome State Fault Refusal :=
  live s fun s => if s.mailReady then s.h2dTail index cs else s

/-- A write of MB_D2H_HEAD (R537). -/
def execMbD2hHead (index : Nat) (s : State) : Host.Outcome State Fault Refusal :=
  live s fun s => if s.mailReady then s.d2hHead index else s

end Sys2Proof.Machine
end

