-- ==== Sys2Proof/Machine/Programming.lean ====
section
/-! DEFINITION. The work of the journal and of the jobs: records programmed, configuration export and import, and the ends of jobs
(R519 to R523, R545 to R547, R565, R567, R568). -/

namespace Sys2Proof.Machine

/-- "TMNC". -/
def magicConfig : List Byte := ascii [0x54, 0x4D, 0x4E, 0x43]

/-- Insert an item in ascending object number, after the items of the same object. -/
def insertItem (e : Key × Val) : List (Key × Val) → List (Key × Val)
  | [] => [e]
  | x :: l => if e.1 < x.1 then e :: x :: l else x :: insertItem e l

/-- The object number of a cue record of an engine (R511). -/
def cueRecKey (e : Nat) : Key := obKey 0x14 e 0x003

/-- An item of a configuration file (R528, R567). -/
def fileItem (e : Key × Val) : List Byte := RItem.bytes ⟨e.1, 0, wireBytes e.1 e.2⟩

namespace State

/-- A persistent value that differs from its default goes into a file of a scope, where a role may GET it; a credential slot never does
(R567). -/
def exportable (s : State) (scope role : Nat) (k : Key) (v : Val) : Bool :=
  (scope == 0xFF || clsOf k == scope) && !(clsOf k == 0x1C && decide (0x200 ≤ instOf k ∧ instOf k < 0x300)) &&
  match s.rowHere k with
  | some r => r.acc.persistent && r.acc.readable && r.admits role && decide (s.defaultVal k r ≠ some v)
  | none => false

/-- The items of a configuration file, in ascending object number; a cue record goes with its index (R511, R567). -/
def exportItems (s : State) (scope role : Nat) : List (Key × Val) :=
  let cues : List (Key × Val) := (s.cues.recs.filter fun e => s.exportable scope role (cueRecKey (e.1 / 1024)) (.blob e.2)).map fun e =>
    (cueRecKey (e.1 / 1024), .blob (d16 (e.1 % 1024) ++ e.2))
  cues.foldl (fun l e => insertItem e l) (s.objs.filter fun e => s.exportable scope role e.1 e.2)

/-- The bytes of a configuration file at a tick (R567). -/
def configFile (s : State) (items : List (Key × Val)) : List Byte :=
  let body := items.flatMap fileItem
  let head := magicConfig ++ d16 1 ++ d8 (s.n O00.PART) ++ d8 (s.n O0C.RATE_ACTIVE) ++ d32 (s.n O00.NELOAS_VERSION) ++ d32 items.length ++
    d32 body.length ++ d64 s.tick64 ++ zeros 4
  head ++ body ++ d32 (crc32 (head ++ body))

/-- Bytes that a job writes to a PCI Express host buffer (log entry 8). -/
def hostWrite (s : State) (addr : Nat) (data : List Byte) : State := s.emit (.media 0x50 0 (addr :: data.map (·.toNat)))

/-- A CONFIG_EXPORT that has started takes its file at the seam (R567). -/
def exportSeam (s : State) : State :=
  match s.runningJob O00.CONFIG_EXPORT with
  | none => s
  | some j =>
    match s.job? j with
    | none => s
    | some x =>
      if x.done ≠ 0 then s
      else
        let items := s.exportItems x.arg.toNat x.role
        let file := s.configFile items
        let t := s.setJob j { x with done := 1 }
        let t := t.offerJob j file (d32 items.length ++ d32 file.length ++ d64 s.tick64)
        let t := if x.par.headD 0 = 0 then t else t.hostWrite (x.par.headD 0) file
        t.raise 0x005 noInst []

/-- The items of a configuration file; none where MAGIC, VERSION, the CRC or the form of an item is wrong (R567, R568). -/
def fileItems (b : List Byte) : Option (List Item) :=
  let n := natBE (slice b 16 4)
  if b.length ≠ 36 + n ∨ b.take 4 ≠ magicConfig ∨ natBE (slice b 4 2) ≠ 1 ∨ natBE (b.drop (32 + n)) ≠ crc32 (b.take (32 + n)) then none
  else parseItems (natBE (slice b 12 4)) (slice b 32 n)

/-- A batch as it is formed: staged items, written items with their index, items left out, value bytes, and the index after it. -/
structure Batch where
  staged : List (Key × Val)
  written : List (Nat × Key × ObjRow × Val)
  skipped : Nat
  bytes : Nat
  upto : Nat

/-- An import may write an object with S or W, and with P (R568). -/
def importable (r : ObjRow) : Bool := r.acc.persistent

/-- An item of an import is checked (R22, R568): the row, the value as a transaction holds it. -/
def importItem (s : State) (role : Nat) (i : Item) : Except Nat (ObjRow × Val) :=
  let cue := clsOf i.obj == 0x14 && parOf i.obj == 0x003
  match s.itemVal i.obj role 0 (if cue then i.val.drop 2 else i.val) importable with
  | .error e => .error e
  | .ok (r, v) =>
    let w : Val := if cue then .blob (i.val.take 2 ++ v.bytes) else v
    let e := s.itemStatus i.obj w
    if e = OK then .ok (r, w) else .error e

/-- Form a batch from items that begin at an index: the batch, or the index and status of the item that fails (R568). -/
def formBatch (s : State) (role : Nat) (skip : Bool) : List Item → Batch → Except (Nat × Nat) Batch
  | [], b => .ok b
  | i :: l, b =>
    if 4096 ≤ b.staged.length + b.written.length ∨ 1048576 < b.bytes + i.val.length then .ok b
    else match s.importItem role i with
    | .error e =>
      if skip ∧ e = ABSENT then formBatch s role skip l { b with skipped := b.skipped + 1, upto := b.upto + 1 } else .error (b.upto, e)
    | .ok (r, v) =>
      let c := { b with bytes := b.bytes + i.val.length, upto := b.upto + 1 }
      if r.acc.staged then formBatch s role skip l { c with staged := putItem c.staged (i.obj, v) }
      else formBatch s role skip l { c with written := c.written ++ [(b.upto, i.obj, r, v)] }

/-- The progress of an import: items read, applied and left out, batches applied, and the index of the next item. -/
def setImport (s : State) (j read applied skipped batches upto : Nat) : State :=
  match s.job? j with
  | some x => s.setJob j { x with par := [x.par.headD 0, read, applied, skipped, batches, upto], tx := none }
  | none => s

/-- A CONFIG_IMPORT ends (R545, R568). -/
def importStops (s : State) (j status fail : Nat) : State :=
  let refusal := if status = NO_CAPACITY then s.n O01.LAST_REFUSAL else 0
  (s.importEnds j status fail refusal).endJob j status []

/-- The WP items of a batch are written in order: the state, how many, and the one that fails (R568). -/
def writeBatch (s : State) (role : Nat) : List (Nat × Key × ObjRow × Val) → Nat → State × Nat × Option (Nat × Nat)
  | [], n => (s, n, none)
  | (i, k, r, v) :: l, n =>
    let d := s.writeObj 0xFFFF role k r v Plan.empty
    if d.status = OK then writeBatch d.state role l (n + 1) else (d.state, n, some (i, d.status))

/-- A batch's transaction is complete, or it has none: its WP items are written (R568). -/
def importWrites (s : State) (j : Nat) (x : JobSt) (b : Batch) : State :=
  let c := importCount x
  let r := s.writeBatch x.role b.written (c 1 + b.staged.length)
  match r.2.2 with
  | some (i, e) => (r.1.setImport j b.upto r.2.1 (c 2 + b.skipped) (c 3) b.upto).importStops j e i
  | none => r.1.setImport j b.upto r.2.1 (c 2 + b.skipped) (c 3 + 1) b.upto

/-- A CONFIG_IMPORT goes on at a seam: it checks the file, forms a batch, and writes what its transaction leaves (R545, R568). -/
def importStep (s : State) : State :=
  match s.runningJob O00.CONFIG_IMPORT with
  | none => s
  | some j =>
    match s.job? j with
    | none => s
    | some x =>
      if x.done = 0 ∨ s.batchOpen j then s
      else match fileItems x.data with
      | none => s.importStops j TYPE 0xFFFFFFFF
      | some items =>
        let at_ := importCount x 4
        match s.formBatch x.role (x.arg.toNat == 1) (items.drop at_) ⟨[], [], 0, 0, at_⟩ with
        | .error (i, e) => (s.setImport j (i + 1) (importCount x 1) (importCount x 2) (importCount x 3) at_).importStops j e i
        | .ok b =>
          match x.tx with
          | some e =>
            if e = OK then s.importWrites j x b
            else (s.setImport j b.upto (importCount x 1) (importCount x 2 + b.skipped) (importCount x 3) at_).importStops j e 0xFFFFFFFF
          | none =>
            if x.ask ≠ 0 then s
            else if b.staged = [] ∧ b.written = [] then
              (s.setImport j b.upto (importCount x 1) (importCount x 2 + b.skipped) (importCount x 3) b.upto).importStops j OK 0xFFFFFFFF
            else if b.staged = [] then s.importWrites j x b
            else
              let plan := ((x.plans.find? fun p => p.1 == importCount x 3).map (·.2)).getD Plan.empty
              let r := s.commitTx (Tx.blank (.job j) b.staged) 0 plan (some s.tick64)
              if r.2 = PENDING then r.1
              else (r.1.setImport j b.upto (importCount x 1) (importCount x 2 + b.skipped) (importCount x 3) at_).importStops j r.2 0xFFFFFFFF

/-- The total of a job's data in bytes, and the bytes moved (R547); none where the job moves none. -/
def jobBytes (s : State) (x : JobSt) : Option (Nat × Nat) :=
  let moved := if x.par.headD 0 = 0 then x.next else if clsOf x.obj = 0x05 ∨ clsOf x.obj = 0x09 then x.done else 0
  if bulkIn x.obj then some ((s.bulkTotal x.obj x.data).1, moved)
  else if bulkOut x.obj ∧ x.ready then some (x.data.length, moved)
  else none

/-- JOB_PROGRESS at a seam (R550). -/
def progressSeam (s : State) : State :=
  s.forEach s.jobs fun t e =>
    if t.n (O1B.JOB_STATE e.1) ≠ 2 then t
    else match t.jobBytes e.2 with
    | none => t
    | some (total, moved) =>
      t.setN (O1B.JOB_PROGRESS e.1) (min 1000 (moved * 1000 / max 1 total))

/-- What waited for a record goes on once it is programmed (R520, R521, R523, R532, R565). -/
def programmed (s : State) (r : JRec) (w : JWait) : State :=
  match w with
  | .arm order => s.recorded order r.jseq
  | .done x => s.finish x OK x.applied
  | .answers l => s.forEach l fun t a => t.afterJournal a.1 a.2
  | .claim sess => s.accept sess
  | .switch j =>
    let t := s.raise 0x1C5 noInst []
    if t.n (O1B.JOB_STATE j) = 2 ∧ t.n (O1B.JOB_OBJECT j) = O1C.JOURNAL_COMPACT then t.endJob j OK [] else t
  | .factoryMark => (s.raise 0x004 noInst []).onBoot fun b => { b with resetAt := some (s.now + 192, 3) }
  | _ => s

/-- The record at the head of the queue is programmed, and what waited for it goes on (R520 to R523, R532, R565). -/
def programNext (s : State) : State :=
  match s.programRec with
  | (t, none) => t
  | (t, some (r, w)) => ((t.programmed r w).compactStep).autoCompact

/-- The work of a job is complete: its end, by object (R181, R186, R187, R270, R567, R568, R617, R653). -/
def workDone (s : State) (j : Nat) (x : JobSt) (data : List Byte) (ecc : List (Nat × Nat × Nat)) (plans : List (Nat × Plan)) : State :=
  let bulk := x.par.headD 0 == 0
  let i := instOf x.obj
  let still := s.safeHold || s.clocks.hbmBypass
  let filled (y : JobSt) : Bool := !bulk || y.data.length == (s.bulkTotal y.obj y.data).1
  let y : JobSt := if bulk then x else { x with data := data }
  match clsOf x.obj with
  | 0x00 =>
    if x.obj = O00.CONFIG_EXPORT then (if bulk ∨ x.done = 0 then s else s.endJob j OK [])
    else if bulk ∨ x.done ≠ 0 then s
    else s.setJob j { x with data := data, done := 1, plans := plans }
  | 0x05 =>
    if still then s
    else if x.obj = O05.MEMTEST then
      let t := s.testRead ecc
      t.testEnds.endJob j OK (t.testResult (x.par.headD 0))
    else if parOf x.obj = 0x00C then
      -- chain entries have moved every cell into the clip (R186)
      (if s.clipCells i ≤ s.clipMoved i true then (s.clipJobEnd x.obj OK).endJob j OK [] else s)
    else if bulk ∨ x.done < s.n (O05.CLIP_BYTES i) then s
    else (s.clipJobEnd x.obj OK).endJob j OK (d32 x.done ++ d32 (s.n (O05.CLIP_DAMAGED i)))
  | 0x09 =>
    if ¬ filled y then s
    else
      let r := s.lutLoaded i y.data
      (r.1.lutJobEnd i).endJob j r.2 []
  | 0x18 => if s.n O18.FW_PHASE = 1 then (if filled y then (s.setJob j y).fwJobEnd j else s) else s.fwJobEnd j
  | 0x19 => s.migrateJobEnd j
  | _ => s

end State

/-- A journal record is programmed (R520). -/
def execJournalRecordProgrammed (s : State) : Host.Outcome State Fault Refusal :=
  live s fun s => if s.served then s.programNext else s

/-- The writes collected since the last IMMEDIATE record become one, 3,840 ticks after it (R521). -/
def execImmediateRecord (s : State) : Host.Outcome State Fault Refusal :=
  live s fun s => if s.served ∧ s.immediateDue then s.sealImmediate else s

/-- A running job's work completes, or fails with a status (R545). -/
def execJobComplete (job status : Nat) (data : List Byte) (ecc : List (Nat × Nat × Nat)) (plans : List (Nat × Plan)) (s : State) :
    Host.Outcome State Fault Refusal :=
  live s fun s =>
    match s.job? job with
    | none => s
    | some x =>
      if s.n (O1B.JOB_STATE job) ≠ 2 ∨ 0x0F < status ∨ status = PENDING then s
      else if status = OK then s.workDone job x data ecc plans
      else s.stopJob job status

/-- A DONE job is freed 115,200,000 ticks after it ended (R545). -/
def execJobAutoRelease (job : Nat) (s : State) : Host.Outcome State Fault Refusal :=
  live s fun s =>
    match s.job? job with
    | some x => if s.n (O1B.JOB_STATE job) = 4 ∧ x.doneAt + 115200000 ≤ s.now then s.freeJob job else s
    | none => s

end Sys2Proof.Machine
end

