-- ==== Sys2Proof/Machine/CueActions.lean ====
section
/-! DEFINITION. The WRITE and SALVO actions of the cue engines, as the object engine and Neloas serve them (R240, R492, R495). -/

namespace Sys2Proof.Machine

/-- A row that a WRITE action may write: W, X or S (R495). -/
def cueWritable (r : ObjRow) : Bool := r.acc.writable || r.acc.action || r.acc.staged

namespace State

/-- The value of a WRITE action under CE_ROLE (R22, R495): the row and the value, or the status. -/
def cueValue (s : State) (e k : Nat) (bytes : List Byte) : Except Nat (ObjRow × Val) :=
  match s.itemVal k (s.n (O14.CE_ROLE e)) 0 bytes cueWritable with
  | .error x => .error x
  | .ok (r, v) =>
    if 8 < r.ty.size then .error TYPE
    else if r.acc.staged ∧ s.itemStatus k v ≠ OK then .error (s.itemStatus k v)
    else .ok (r, v)

/-- One WRITE action: the state, and the staged values with the record of the first (R495). -/
def cueWrite (e : Nat) (a : State × List (Key × Val) × Option Nat) (w : Nat × Nat × Nat × Nat × List Byte) :
    State × List (Key × Val) × Option Nat :=
  let s := a.1
  let k := w.2.2.1
  let i := w.2.1
  match s.cueValue e k w.2.2.2.2 with
  | .error x => (s.actionFailed e i 3 x, a.2)
  | .ok (r, v) =>
    if r.acc.staged then (s, putItem a.2.1 (k, v), some (a.2.2.getD i))
    else
      let d := s.writeObj 0xFFFF (s.n (O14.CE_ROLE e)) k r v Plan.empty
      (d.state.actionFailed e i 3 d.status, a.2)

/-- The WRITE actions of an engine's oldest tick that waits are served (R495). -/
def serveWrites (s : State) (e : Nat) (plan : Plan) : State :=
  match s.cues.writes.find? fun w => w.1 == e with
  | none => s
  | some w =>
    let mine (x : Nat × Nat × Nat × Nat × List Byte) : Bool := x.1 == e && x.2.2.2.1 == w.2.2.2.1
    let t := s.onCues fun c => { c with writes := c.writes.filter fun x => !(mine x) }
    let q := (s.cues.writes.filter mine).foldl (cueWrite e) (t, [], none)
    match q.2.2 with
    | none => q.1
    | some i =>
      let r := q.1.commitTx (Tx.blank (.cue e i) q.2.1) 0 plan (some s.tick64)
      r.1.actionFailed e i 3 r.2

/-- With OBJ frozen, the WRITE actions that wait fail (R495, R588). -/
def failWrites (s : State) (e : Nat) : State :=
  let t := s.onCues fun c => { c with writes := c.writes.filter fun w => w.1 != e }
  t.forEach (s.cues.writes.filter fun w => w.1 == e) fun t w => t.actionFailed e w.2.1 3 INTERNAL

/-- The oldest SALVO of a record that waits is fired (R240, R495); R63 counts from the execution tick (R492). -/
def serveSalvo (s : State) (e i : Nat) (plan : Plan) : State :=
  match s.cues.salvos.find? fun x => x.1 == e && x.2.1 == i with
  | none => s
  | some x =>
    let t := s.onCues fun c => { c with salvos := c.salvos.erase x }
    let lead := x.2.2.2.2
    let r := t.fireSalvo (.cue e i) (0x900 + x.2.2.1) (if lead = 0 then 0 else x.2.2.2.1 + lead) x.2.2.2.1 plan
    r.1.actionFailed e i 2 r.2

end State

/-- SALVO is served (R240, R492, R495). -/
def execCueActionSalvo (engine record : Nat) (plan : Plan) (s : State) : Host.Outcome State Fault Refusal :=
  onInst 0x14 engine s fun s => if s.served then s.serveSalvo engine record plan else s

/-- WRITE is served (R495). -/
def execCueActionWrite (engine : Nat) (plan : Plan) (s : State) : Host.Outcome State Fault Refusal :=
  onInst 0x14 engine s fun s =>
    if ¬ s.served then s else if s.frozen 5 0 then s.failWrites engine else s.serveWrites engine plan

end Sys2Proof.Machine
end

