-- ==== Sys2Proof/Machine/Endpoint.lean ====
section
/-! DEFINITION. The PCI Express endpoint: the host's requests to its BARs, the mailbox window and the recovery window (R537, R590,
R609). -/

namespace Sys2Proof.Machine

namespace State

/-- Bytes written into a sparse map at an offset. -/
def putBytes (m : List Host.Cell) (o : Nat) (d : List Byte) : List Host.Cell := d.zipIdx.foldl (fun m e => SMap.setD m (o + e.2) 0 e.1) m

/-- A write of the host covers a register: the four bytes at `reg`, of which those not written keep `old`. -/
def regWrite (o : Nat) (d : List Byte) (reg old : Nat) : Option Nat :=
  if o + d.length ≤ reg ∨ reg + 4 ≤ o then none
  else some (natLE ((List.range 4).map fun i =>
    if o ≤ reg + i ∧ reg + i < o + d.length then d.getD (reg + i - o) 0 else (bytesLE 4 old).getD i 0))

/-- The host writes the mailbox (R537): H2D slots, the doorbell, MB_D2H_HEAD, and OVERRUN by writing 1. -/
def mailWrite (s : State) (o : Nat) (d : List Byte) (cs : List (Nat × Compiled)) : State :=
  let slots := (d.zipIdx.filter fun e => decide (o + e.2 < 0x40000))
  let t := s.onBus fun b => { b with h2d := slots.foldl (fun m e => SMap.setD m (o + e.2) 0 e.1) b.h2d }
  let t := match regWrite o d 0x80010 0 with
    | some v => if bit v 0 then { t with mail := { t.mail with status := clearBits t.mail.status 1 } } else t
    | none => t
  let t := match regWrite o d 0x8000C t.mail.d2hHead with
    | some v => t.d2hHead (v % 16)
    | none => t
  match regWrite o d 0x80000 t.mail.h2dTail with
  | some v => t.h2dTail (v % 16) cs
  | none => t

/-- A host request that enters the matrix as master PCIE (R590): a piece of at most 1,024 bytes (R583). -/
def hostReq (write : Bool) (addr len : Nat) (data : List Byte) (fails : Bool) : BusReq :=
  { master := 11, engine := 0, qos := 0, world := false, write := write, addr := addr / 16 * 16,
    beats := ceilDiv (addr % 16 + len) 16, made := 0, fails := fails, flash := 0, ecc := [], key := none, data := data }

/-- What a host request moves in the mailbox, byte by byte. -/
def moveHost (o len : Nat) (d : List Byte) (cs : List (Nat × Compiled)) (s : State) (_ : List (Nat × Nat)) : List Byte × State :=
  if d = [] then ((List.range len).map fun j => s.mailByte (o + j), s) else ([], s.mailWrite o d cs)

/-- A request to BAR0 or BAR2 (R590). -/
def hostRequest (s : State) (bar o : Nat) (write : Bool) (len : Nat) (data : List Byte) (fails : Bool) (cs : List (Nat × Compiled)) : State :=
  let hbm := bar == 2
  let addr := (if hbm then 0x1000000000 else 0x500000000) + o
  let r := hostReq write addr len data fails
  let d := if write then data else []
  hostDone write ((s.busGrant [r]).completeAs ⟨r, if hbm then some (o, len, d) else none⟩ (moveHost o len d cs))

/-- The recovery window: SRAM, RCV_PAGE and RCV_STATUS (R609). RCV_LENGTH is a command of its own. -/
def recoveryRequest (s : State) (o : Nat) (write : Bool) (len : Nat) (data : List Byte) : State :=
  let base := s.boot.page * 524288
  if write then
    let here := data.zipIdx.filter fun e => decide (o + e.2 < 0x80000)
    let t := s.onBus fun b => { b with sram := here.foldl (fun m e => SMap.setD m (base + o + e.2) 0 e.1) b.sram }
    match regWrite o data 0x80000 t.boot.page with
    | some v => if v ≤ 24 then t.onBoot fun b => { b with page := v } else t
    | none => t
  else
    let byte (i : Nat) : Byte :=
      if i < 0x80000 then SMap.getD s.bus.sram (base + i) 0
      else if i < 0x80004 then (bytesLE 4 s.boot.page).getD (i - 0x80000) 0
      else if 0x80008 ≤ i ∧ i < 0x8000C then (bytesLE 4 s.boot.rcv).getD (i - 0x80008) 0
      else 0
    s.emit (.bus 11 o 0 ((List.range len).map fun j => byte (o + j)))

/-- A request to BAR4: the MSI-X table and pending bits, in the endpoint (R590). -/
def msixRequest (s : State) (o : Nat) (write : Bool) (len : Nat) (data : List Byte) : State :=
  if s.frozen 11 0 then hostDone write (s.emit (.bus 11 o 3 []), 3)
  else if write then s.onBus fun b => { b with msix := putBytes b.msix o data }
  else s.emit (.bus 11 o 0 ((List.range len).map fun j => SMap.getD s.bus.msix (o + j) 0))

/-- Bytes of a BAR (R590). -/
def barSize (bar : Nat) : Nat := if bar = 0 then 1048576 else if bar = 2 then 274877906944 else if bar = 4 then 16384 else 0

end State

/-- A request of the host to a BAR, of 1 to 1,024 bytes (R590). Before READY the endpoint answers configuration requests only; a recovery
boot serves BAR0 (R602, R609). -/
def execPcieRequest (bar offset : Nat) (write : Bool) (len : Nat) (data : List Byte) (fails : Bool) (cs : List (Nat × Compiled)) (s : State) :
    Host.Outcome State Fault Refusal :=
  live s fun s =>
    let n := if write then data.length else len
    if ¬ bit s.straps 2 ∨ n = 0 ∨ 1024 - offset % 16 < n ∨ State.barSize bar < offset + n then s
    else if s.phase = .rom then (if s.boot.recovery ∧ bar = 0 then s.recoveryRequest offset write len data else s)
    else if ¬ s.mailReady then s
    else if bar = 4 then s.msixRequest offset write len data
    else s.hostRequest bar offset write n data fails cs

end Sys2Proof.Machine
end

