-- ==== Sys2Proof/Machine/Lifecycle.lean ====
section
/-! DEFINITION. The start from the handover to the first chain, trials, the tamper response while the device runs, and the slow
measurements (R173, R185, R274, R275, R522, R546, R559, R562, R600 to R602, R608, R617, R622, R654, R657). -/

namespace Sys2Proof.Machine

/-- A region descriptor from its 16 bytes (R580, R595). -/
def regionOf (b : List Byte) : Region :=
  ⟨natBE (b.take 8), natBE (slice b 8 4), natBE (slice b 12 2), natBE (slice b 14 1), natBE (slice b 15 1)⟩

/-- An item allocates a clip (R185). -/
def clipItem (e : Key × Val) : Bool := clsOf e.1 == 0x05 && parOf e.1 == 0x005 && decide (0x100 ≤ instOf e.1)

/-- An object whose applied value its unit takes at start: the matrix has nothing on air, and no synthesizer is retuned. -/
def startHook (k : Key) : Bool :=
  clsOf k != 3 && !(clsOf k == 0x0C && decide (instOf k < 0x400)) &&
  match rowOf k with
  | some r => r.acc.persistent
  | none => false

/-- A term's source object of a destination channel (R319). -/
def termKey (k : Key) : Bool := clsOf k == 0x0C && decide (instOf k < 0x400) && decide (parOf k % 0x100 < 8)

namespace State

/-- The records of the active half that replay reads: those before the first whose tag or length fails (R522). -/
def goodRecords (s : State) (bad : Option Nat) : List JRec :=
  match bad with
  | some n => s.activeHalf.take n
  | none => s.activeHalf

/-- A clip that was allocated is allocated again; where it finds no room it stays FREE (log entry 17). -/
def clipBack (s : State) (i : Nat) : State :=
  match s.placeClip i with
  | some t => t
  | none => s

/-- The values of the replay come into the objects; a clip that the journal holds as allocated is allocated again (R185, R311, R522). -/
def setReplayed (s : State) (l : List (Key × Val)) : State :=
  let t := (s.setItems (l.filter fun e => !(clipItem e))).setTables l
  t.forEach (l.filter fun e => clipItem e && e.2.toNat == 1) fun t e => t.clipBack (instOf e.1)

/-- The replay drops items of absent objects and defaults values that name an absent instance, and says so once (R559). -/
def tellDropped (s : State) (dropped defaulted : Nat) : State :=
  if dropped + defaulted = 0 then s else (s.flag O00.DEV_FLAGS 4).raise 0x001 noInst (d32 dropped ++ d32 defaulted)

/-- After a replay that ended on a failed record, the journal is compacted: a SNAPSHOT and its MARK in the other half, which becomes
active (R522). -/
def compactReplayed (s : State) (kept : List (Key × Val)) : State :=
  let n := s.jrnl.seq + 1
  let h := s.jrnl.active
  let t := (s.setHalf (1 - h) [⟨4, n, 0, 0, kept⟩, ⟨3, n + 1, 0, n, []⟩]).setHalf h []
  { t with jrnl := { t.jrnl with active := 1 - h, seq := n + 1 } }.raise 0x1C5 noInst []

/-- Neloas replays the active half (R522, R559). -/
def replayJournal (s : State) (bad : Option Nat) : State :=
  let l := s.goodRecords bad
  let items := replay l
  let rate := ((items.find? fun e => e.1 == O0C.MATRIX_RATE).map (·.2.toNat)).getD 0
  let t := s.setN O0C.RATE_ACTIVE (min rate 1)
  let here := items.filter t.itemHere
  let kept := t.keptItems items
  let t := { t with jrnl := { t.jrnl with seq := l.foldl (fun a (r : JRec) => max a r.jseq) 0, badFrom := bad } }
  let t := (t.setReplayed kept).tellDropped (items.length - here.length) (here.length - kept.length)
  let t := t.forEach (unmarked l) fun t r => t.raise 0x1C7 noInst (d64 r.jseq)
  match bad with
  | none => t.countJournal
  | some _ => (((t.flag O1C.FILULO_FLAGS 16).raise 0x1C8 noInst (d64 (t.jrnl.seq + 1))).compactReplayed kept).countJournal

/-- The draws of a start: the keys of the frame-memory hash, of the filtering database and of the relay hash, and SACN_CID at the first
start (R173, R349, R455, R498). -/
def startDraws (s : State) : State :=
  let a := s.drbg 8
  let b := a.2.drbg 8
  let c := b.2.drbg 8
  let keys := (List.range 4).map fun i => natBE (slice a.1 (2 * i) 2) ||| 1
  let t := c.2
  let t : State := { t with fmem := { t.fmem with keys := keys } }
  let t : State := { t with net := { t.net with fdbKey := natBE b.1 } }
  let t := t.onDomain fun d => { d with seed := natBE c.1 }
  if t.boot.cid ≠ [] then t
  else
    let r := t.drbg 16
    r.2.onBoot fun x => { x with cid := r.1 }

/-- The events that the boot ROM left are raised, with their bits of BOOT_FLAGS; ROOTS-READY comes first (R628, R664). -/
def raiseLeft (s : State) : State :=
  let t := s.raise 0x190 noInst (s.keys.rootId ++ d8 (s.n O18.LC_STATE))
  let t := t.forEach s.boot.left fun t e => (t.flag O18.BOOT_FLAGS e.2).raise e.1 noInst []
  t.onBoot fun b => { b with left := [] }

/-- Bushels that fail BIST (R275). -/
def bushelBist (s : State) (failed : List Nat) : State :=
  (s.forEach (failed.filter fun b => decide (b < s.bushels)) fun t b =>
    (t.setN (O09.BUSHEL_STATE (0xB00 + b)) 2).raise 0x096 (0xB00 + b) []).poolCount

/-- The LUT slots that the reset left filled (R270). -/
def restoreLuts (s : State) : State :=
  s.forEach s.conv.luts fun t e => (t.setN (O09.LUT_STATE (0xC00 + e.1)) 2).setN (O09.LUT_CRC (0xC00 + e.1)) (crc32 e.2)

/-- The region descriptors are written, and then locked (R580). -/
def setRegions (s : State) (l : List (List Byte)) : State :=
  { s with bus := { s.bus with regions := (l.take 32).map regionOf } }.setB O17.REGIONS_LOCKED true

/-- MB_STATUS READY (R537, R600). -/
def mailUp (s : State) : State := { s with mail := { s.mail with status := setBits s.mail.status 2 } }

/-- The control cores run Neloas: its events, draws, BIST and replay, after which it serves Filulo; a STANDBY_TAMPER latch stops it
there (R522, R602, R603, R622). -/
def handOver (s : State) (bad : Option Nat) (regions : List (List Byte)) (failed : List Nat) : State :=
  let t := s.onBoot fun b => { b with handover := b.handover.map fun _ => s.now }
  let t := (((t.raiseLeft.setRegions regions).startDraws.bushelBist failed).replayJournal bad).restoreLuts
  if t.b O18.STANDBY_TAMPER then ({ t with phase := .tamperWait }.mailUp.flag O18.BOOT_FLAGS 16).raise 0x186 noInst []
  else { t with phase := .neloas }

/-- The chain that the route compiler makes of the configuration; nothing where it does not fit (R67). -/
def placeStart (s : State) (plan : Plan) : State :=
  let terms := s.objs.filter fun e => termKey e.1
  let bare := s.forEach terms fun t e => t.clearObj e.1
  match bare.admitTx s { Tx.blank .neloas terms with plan := plan } [] with
  | .error e => s.refused e
  | .ok (x, u) =>
    let t := ({ s with fmem := u.fmem }.placeStreams x).countFree
    t.forEach x.terms fun t b => t.setN (O0C.BLOCK_PHASE b.1) b.2.2

/-- The configuration is applied to the units (R601). -/
def configure (s : State) (plan : Plan) : State :=
  let t := s.forEach ((s.objs.map (·.1)).filter startHook) unitApplied
  ((t.countTerms.placeStart plan).countTerms.recount.lutUsers).countCommitted

/-- FW_UPDATE that a reset cut off goes on: RECEIVE from offset 0 in SUSPENDED, the later phases at once (R546, R617). -/
def restartFw (s : State) : State :=
  let p := s.boot.fw
  if p = 0 then s
  else
    let r := s.startJob 0xFFFF 2 O18.FW_UPDATE (.num 1) [0]
    if r.2.1 ≠ PENDING then s
    else if p = 1 then ((r.1.fwPhase 1).setSlot r.1.updateSlot []).suspendJob r.2.2
    else r.1.fwPhase p

/-- The IMPORT of KEY_MIGRATE is due at this start (R654). -/
def importDue (s : State) : Bool := s.member == .tmn9624 && s.n O18.LC_STATE == 2 && s.transferHere

/-- Jobs that must complete start again (R546, R617, R654). -/
def restartJobs (s : State) : State :=
  let t := if s.importDue then (s.startKeyMigrate 0xFFFF 2 []).1 else s
  t.restartFw.autoCompact

/-- The core PLLs have confirmed lock (R132, R601). -/
def coreLocked (s : State) : Bool := (List.range 4).all fun p => s.n (O03.PLL_STATE p) == 0

/-- The first chain starts: TICK64 is 0, RESET_OUT_N rises and READY is set (R48, R600, R601). -/
def firstChain (s : State) (micros : Nat) (plan : Plan) : State :=
  let t := (s.configure plan).inPhase .running
  let t : State := { t with tick := { t.tick with tick := 0, aon := 0, aonPhase := 0, up := 0, inTick := true } }
  let t : State := { t with clocks := { t.clocks with synth := (List.range 24).map fun y => (y, SynthSt.fresh) } }
  let t := (t.mailUp.setN O01.CHAIN_STATE 0).onBoot fun b => { b with bootTime := micros }
  let t := t.forEach (List.range (stackCount t.member)) fun t h => t.setN (O05.STACK_STATE h) (if t.clocks.hbmBypass then 1 else 0)
  let t := t.raise 0x000 noInst (d8 (t.n O00.RESET_CAUSE) ++ d8 (t.n O00.PART) ++ d32 (t.n O00.NELOAS_VERSION))
  let r := t.draw
  (r.2.onDomain fun d => { d with seed := r.1 % 2 ^ 64, newSeed := none, sets := [] }).restartJobs

/-- The trial may be confirmed: ten seconds after the first chain, and no import of the same image is open (R608, R623). -/
def trialDue (s : State) : Bool :=
  s.n O18.TRIAL_STATE == 2 && decide (1920000 ≤ s.tick.up) && (!s.importDue || s.n O19.MIGRATE_STATE == 2)

/-- The trial is confirmed: its slot becomes ACTIVE (R608). -/
def confirmTrial (s : State) : State :=
  let active := match s.pickRecord with
    | some (_, _, a, _) => a % 2
    | none => 0
  let t := (s.writeRecord (1 - active) false 0).onBoot fun b => { b with handover := none }
  ((t.setN O18.TRIAL_STATE 0).setN O18.TRIAL_TRIES 0).raise 0x183 noInst []

/-- The 60 s of a trial have passed without its confirmation (R608). -/
def trialLate (s : State) : Bool :=
  s.n O18.TRIAL_STATE == 2 && match s.boot.handover with
  | some t => decide (t + 11520000 ≤ s.now)
  | none => false

/-- The 60 s of a trial end without its confirmation: the SP resets the device as DEVICE_RESET does, whatever Neloas is doing (R564, R608). -/
def watchdogReset (s : State) : State :=
  if s.boot.resetAt = none then (s.onBoot fun b => { b with closing := true, resetAt := some (s.now + 192, 2) }).raise 0x003 noInst [] else s

/-- The response to a tamper source while the device runs (R657): keys, handles and sessions go, media runs on. -/
def tamperRunning (s : State) (sources : Nat) : State :=
  let t := s.forEach ((s.runningJob O19.KEY_MIGRATE).toList ++ (if s.n O18.FW_PHASE = 3 then s.fwJob.toList else [])) fun t j => t.stopJob j TAMPER
  let t := (t.closeAll.zeroise.onKeys fun k => { k with wipe := true, ran := [], wait := [] })
  (((t.setN O19.KS_STATE 2).flag O19.KS_FLAGS 8).setB O18.STANDBY_TAMPER true).raise 0x194 noInst (d8 sources)

/-- A reading of DIE_TEMP (R562). -/
def dieTemp (s : State) (temp : Int) : State :=
  let warn := s.z 16 O00.TEMP_WARN
  let t := s.setZ 16 O00.DIE_TEMP temp
  let t := if s.measured ∧ temp ≤ s.z 16 O00.DIE_TEMP_MAX then t else t.setZ 16 O00.DIE_TEMP_MAX temp
  let t := { t with measured := true }
  if warn ≤ temp then (if s.hot then t else ({ t with hot := true }.flag O00.DEV_FLAGS 8).raise 0x002 noInst [])
  else if temp < warn - 50 then { t with hot := false } else t

end State

/-- Handover to Neloas, once the boot ROM has chosen an image (R603). -/
def execHandover (bad : Option Nat) (regions : List (List Byte)) (failed : List Nat) (s : State) : Host.Outcome State Fault Refusal :=
  live s fun s => if s.phase = .rom ∧ s.boot.bootstat = 11 * 0x1000000 then s.handOver bad regions failed else s

/-- Start-up completes and the first chain starts (R601). -/
def execFirstChain (micros : Nat) (plan : Plan) (s : State) : Host.Outcome State Fault Refusal :=
  live s fun s => if s.phase = .neloas ∧ s.coreLocked then s.firstChain micros plan else s

/-- Neloas confirms a trial (R608). -/
def execTrialConfirmation (s : State) : Host.Outcome State Fault Refusal :=
  live s fun s => if s.phase = .running ∧ s.trialDue then s.confirmTrial else s

/-- A trial that is not confirmed in 60 s resets the device as DEVICE_RESET does (R564, R608). -/
def execTrialWatchdog (s : State) : Host.Outcome State Fault Refusal :=
  live s fun s => if s.trialLate then s.watchdogReset else s

/-- A tamper source after the first chain (R656, R657). -/
def execTamperRunning (pins : Nat) (s : State) : Host.Outcome State Fault Refusal :=
  live s fun s =>
    let r := s.samplePins pins
    if s.phase ≠ .running ∨ r.2 = 0 ∨ s.n O19.KS_STATE = 2 then r.1 else r.1.tamperRunning r.2

/-- The die temperature is read (R562). -/
def execDieTempSample (temp : Int) (s : State) : Host.Outcome State Fault Refusal :=
  live s fun s => if s.served then s.dieTemp temp else s

/-- The link of a management interface comes up or goes down (R551). -/
def execMgmtLinkChange (iface : Nat) (up : Bool) (s : State) : Host.Outcome State Fault Refusal :=
  onInst 0x1C (0x100 + iface) s fun s =>
    if 1 < iface ∨ s.b (O1C.MGMT_LINK (0x100 + iface)) = up then s
    else (s.setB (O1C.MGMT_LINK (0x100 + iface)) up).raise 0x1C9 (0x100 + iface) []

/-- An output or sender starts to send line group `group` and requests group `group` + 2 (R57). -/
def execLineGroupStart (stream group displaced : Nat) (s : State) : Host.Outcome State Fault Refusal :=
  live s fun s =>
    match s.desc? stream with
    | none => s
    | some d =>
      if d.kind ≠ 0 ∨ d.frameGroups ≤ group then s
      else
        let t := s.onDesc stream fun d => d.reach group
        if displaced = 0 ∨ 0xC0 ≤ d.dest then t
        else (t.bump (O0C.ANC_DISPLACED (0xD00 + d.dest)) displaced).raiseLim 0x0C6 (0xD00 + d.dest) [] 192000

end Sys2Proof.Machine
end

