-- ==== Sys2Proof/Machine/Bypass.lean ====
section
/-! DEFINITION. Spills, the core PLLs, bypass and SAFE HOLD (R60, R71 to R74, R79, R124 to R128, R159). -/

namespace Sys2Proof.Machine
namespace State

/-- A cell-owing entry is abandoned: its pending cells count on both its ports (R160, R162). -/
def abandon (s : State) (o : Owing) : State :=
  let port (t : State) (p : Nat) : State := (t.bump (O04.ABANDONED_CELLS p) o.cells).flag (O04.PORT_FLAGS p) 2
  port (port s (entSrc o.word)) (entDst o.word)

/-- The tick spills: its record, event 0x041, and 0x014 when 8 of the last 192 ticks spilled (R73, R164). The words are those of the
abandoned entries; the causes are in the field map of R79. -/
def spill (s : State) (words : List Nat) (causes : Nat) : State :=
  let l := ((words.map entStream).eraseDups.filter (· != 0)).foldl (fun a n => insertAsc n a) []
  let t := ((s.bump O01.SPILL_TICKS 1).bump O01.SPILL_ENTRIES words.length).setN O01.LAST_SPILL_TICK s.tick64
  let t := (t.setN O01.LAST_SPILL_COUNT l.length).setBytes O01.LAST_SPILL_STREAMS ((l.take 16).flatMap d16)
  let t := (t.flag O01.SPILL_CAUSES causes).raise 0x041 noInst (d32 causes ++ d16 l.length ++ dList (l.take 16))
  let t := t.onChain fun c => { c with spills := s.now :: c.spills.filter fun n => decide (s.now < n + 192) }
  if 8 ≤ t.chain.spills.length ∧ ¬ t.chain.spillRaised then (t.onChain fun c => { c with spillRaised := true }).raise 0x014 noInst [] else t

/-- Audio work of a stream is missing (R72): of a receiver its samples, else of a delay line or a player. -/
def missSound (s : State) (dest : Nat) : State :=
  if 0x4000 ≤ dest ∧ dest < 0x4800 then s.missSamples (dest - 0x4000) else s.missAudio dest

/-- Missing work of an entry is substituted (R72): a line group, a sample block, a packet release; `cells` are those that were pending. That
of a stream which leaves at this seam is not (R159). -/
def substWork (s : State) (w cells : Nat) : State :=
  if s.leaving.contains (entStream w) then s
  else
    let t := match entOp w with
      | 5 => s.missBlock (entArg w % 1024)
      | 6 => s.missRelease w
      | 2 => s.missSound (((s.desc? (entStream w)).map (·.dest)).getD 0)
      | 3 => s.missSound (((s.desc? (entStream w)).map (·.dest)).getD 0)
      | _ => s
    if entStream w = 0 then t
    else t.substituteN (entStream w) (((t.desc? (entStream w)).map fun d => d.unitsOf cells).getD 1)

/-- The units of work that a stream has in this tick are missing: those of its entries in the active bank (R151, R156). -/
def missUnits (s : State) (id : Nat) : State :=
  let l := (s.chain.active.filter fun e => entStream e.2 == id).map (·.2)
  if l = [] then s.substitute id else s.forEach l fun t w => t.substWork w 0

/-- A tick without a spill: 192 of them re-arm event 0x014 (R73). -/
def quietTick (s : State) : State :=
  let l := s.chain.spills.filter fun n => decide (s.now < n + 192)
  s.onChain fun c => { c with spills := l, spillRaised := c.spillRaised && l != [] }

/-- The words of the active bank's entries by index. -/
def entryWords (s : State) (l : List Nat) : List Nat := l.eraseDups.filterMap fun i => s.chain.active[i]?.map (·.2)

/-- SAFE HOLD begins (R60, R74): `undelivered` names the entries of the tick that the sequencer had not
reached; those with cells pending had not delivered theirs either. A tick whose seam has
been recorded as spilled is not counted again. -/
def enterSafeHold (s : State) (undelivered : List Nat) : State :=
  let named := if s.tick.inTick then s.entryWords undelivered else []
  let owed := (s.chain.owing.filter fun o => decide (0 < o.cells)).map (·.word)
  let words := owed ++ named.filter fun w => !(owed.contains w)
  let t := if s.chain.spills.head? = some s.now then s.flag O01.SPILL_CAUSES 4 else ((s.forEach s.chain.owing abandon).spill words 4)
  let t := t.forEach words fun t w => t.substWork w 0
  let t := ((((t.bucketsTo (t.tick64 * 500)).setN O01.CHAIN_STATE 1).bump O01.SAFE_HOLD_COUNT 1).setN O01.LAST_SAFE_HOLD s.tick64).raise 0x012 noInst []
  let t := t.onChain fun c => { c with owing := [], stalls := [], reinit := !s.tick.inTick }
  let t : State := { t with amx := { t.amx with missed := [] } }
  t.sdiHold.matrixHold.audioHold.sendersHold.cuesHold

/-- The chain stops with the fabric PLL: SAFE HOLD from a running chain, or again during revalidation (R74). -/
def stopChain (s : State) (undelivered : List Nat) : State :=
  if s.n O01.CHAIN_STATE = 0 then s.enterSafeHold undelivered
  else if s.n O01.CHAIN_STATE = 2 then
    (((s.setN O01.CHAIN_STATE 1).bump O01.SAFE_HOLD_COUNT 1).setN O01.LAST_SAFE_HOLD s.tick64).raise 0x012 noInst []
  else s

/-- STACK_STATE of the stacks present: 0 ACTIVE, 1 SELF-REFRESH (R127, R190). -/
def setStacks (s : State) (v : Nat) : State := s.forEach (List.range (stackCount s.member)) fun t h => t.setN (O05.STACK_STATE h) v

/-- The domain of a core PLL enters bypass: 0 fabric, 1 HBM; nothing else changes for the security and always-on domains (R127). -/
def bypassDomain (s : State) (pll : Nat) (undelivered : List Nat) : State :=
  match pll with
  | 0 => ({ s with clocks := { s.clocks with fabBypass := true } }).stopChain undelivered
  | 1 =>
    let t := ({ s with clocks := { s.clocks with hbmBypass := true } }.raise 0x036 1 []).sendersHold
    ((t.setStacks 1).rewindClips).hbmDrain
  | _ => s

/-- A core PLL loses lock (R124 to R126, R137). -/
def pllLost (s : State) (pll : Nat) (undelivered : List Nat) : State :=
  let t : State := { s with clocks := { s.clocks with core := s.clocks.core.put pll ⟨none, 0⟩ } }
  let t := (t.bump (O03.UNLOCK_COUNT pll) 1).setN (O03.LAST_UNLOCK pll) s.tick64
  match s.n (O03.PLL_STATE pll) with
  | 0 => (((t.setN (O03.PLL_STATE pll) 1).flag (O03.PLL_FLAGS pll) 1).raise 0x030 pll []).bypassDomain pll undelivered
  | 2 => ((t.setN (O03.PLL_STATE pll) 1).flag (O03.PLL_FLAGS pll) 3).raise 0x032 pll []
  | _ => s

/-- Lock is regained: the confirmation starts (R124, R126). -/
def pllRegained (s : State) (pll : Nat) : State :=
  { s with clocks := { s.clocks with core := s.clocks.core.put pll ⟨some s.now, 0⟩ } }.setN (O03.PLL_STATE pll) 2

/-- The confirmation of 1,984 ticks is complete (R126). -/
def pllConfirmed (s : State) (pll : Nat) : Bool :=
  match SMap.find? s.clocks.core pll with
  | some ⟨some t, _⟩ => decide (t + 1984 ≤ s.now)
  | _ => false

/-- A domain returns to its PLL (R75, R126 to R128). -/
def pllBack (s : State) (pll : Nat) : State :=
  let t := (s.setN (O03.PLL_STATE pll) 0).raise 0x031 pll []
  match pll with
  | 0 =>
    let u : State := { t with clocks := { t.clocks with fabBypass := false } }
    if u.n O01.CHAIN_STATE = 1 then (u.bucketsTo (u.tick64 * 500)).setN O01.CHAIN_STATE 2 else u
  | 1 =>
    let u : State := ({ t with clocks := { t.clocks with hbmBypass := false } }).rewindClips
    if u.n O01.CHAIN_STATE = 3 then u
    else
      let u := u.setStacks 0
      let u := ((u.raise 0x038 1 []).sdiHbmResume).rePrime true
      u.forEach (u.enabledFlows 0x0D) resumeSender
  | _ => t

end State

/-- A cell reaches its destination (R156): the payload of an invalid cell is discarded; so is a cell whose PAR does not match its payload, or
whose STREAM none of the entries of this tick brings to the port, and its unit of work is missing. Of a cell that fails several of these
checks, parity is judged first, then the stream, then VALID: the model's choice (log entry 28). -/
def execCellArrival (port stream par : Nat) (valid : Bool) (payload : List Byte) (s : State) : Host.Outcome State Fault Refusal :=
  live s fun s =>
    if 64 ≤ port then s
    else if par ≠ cellPar payload then (s.errorCell port stream 0).missUnits stream
    else if ¬ (s.chain.active.any fun e => entDst e.2 == port && entStream e.2 == stream) then (s.errorCell port stream 1).missUnits stream
    else if valid then s.validCells port
    else s.invalidCells port 1

/-- A descriptor word has a parity error (R151). -/
def execDescriptorParity (stream word : Nat) (s : State) : Host.Outcome State Fault Refusal :=
  live s fun s =>
    match s.desc? stream with
    | none => s
    | some _ =>
      let t := s.missUnits stream
      { t with fabric := { t.fabric with repair := stream :: t.fabric.repair.filter (· != stream) } }.raise 0x045 noInst
        (d16 stream ++ d8 word)

/-- The lock detector of a core PLL declares loss of lock (R124). -/
def execPllLockLost (pll : Nat) (undelivered : List Nat) (s : State) : Host.Outcome State Fault Refusal :=
  live s fun s => if pll < 4 ∧ (s.n (O03.PLL_STATE pll) = 0 ∨ s.n (O03.PLL_STATE pll) = 2) then s.pllLost pll undelivered else s

/-- The lock detector of a core PLL regains lock (R124). -/
def execPllLockRegained (pll : Nat) (s : State) : Host.Outcome State Fault Refusal :=
  live s fun s => if pll < 4 ∧ (s.n (O03.PLL_STATE pll) = 1 ∨ s.n (O03.PLL_STATE pll) = 3) then s.pllRegained pll else s

/-- A core PLL has held lock for its confirmation (R126). -/
def execPllRelocked (pll : Nat) (s : State) : Host.Outcome State Fault Refusal :=
  live s fun s => if pll < 4 ∧ s.n (O03.PLL_STATE pll) = 2 ∧ s.pllConfirmed pll then s.pllBack pll else s

end Sys2Proof.Machine
end

