-- ==== Sys2Proof/Machine/Sequencer.lean ====
section
/-! DEFINITION. The tick boundary and the seam: what the device does once in each tick (R43 to R46, R49, R59, R61, R71 to R73, R98, R276,
R315, R486, R497, R543, R545, R562, R564, R674). -/

namespace Sys2Proof.Machine

/-- The least and the greatest TPER within ±100 ppm of nominal (R44): 7,999.2 and 8,000.8 cycles in Q24.40. -/
def tperMin : Nat := (79992 * 2 ^ 40 + 9) / 10
def tperMax : Nat := 80008 * 2 ^ 40 / 10

/-- The sum of a tick boundary, the length of the next tick and the residue (R43). -/
def tickSum (k : TickSt) : BitVec 64 := k.tper + k.acc
def tickLen (k : TickSt) : Nat := (tickSum k >>> 40).toNat
def tickResidue (k : TickSt) : BitVec 64 := tickSum k &&& 0xFFFFFFFFFF#64

/-- The tick generator at a boundary (R43, R45, R49): while the chain is stopped, the always-on counter carries TICK64 alone. -/
def TickSt.next (k : TickSt) (running : Bool) : TickSt :=
  let number : BitVec 64 := match k.jump with
    | some n => BitVec.ofNat 64 n
    | none => k.tick + 1
  { k with
    acc := if running then tickResidue k else k.acc
    len := if running then tickLen k else k.len
    tick := number, aon := if running ∧ k.jump = none then k.aon + 1 else number
    jump := none, up := k.up + 1, clock := k.clock + 1, inTick := true }

namespace State

/-- What a sample period of the matrix begins with (R315, R329, R373). -/
def periodStart (s : State) : State :=
  if s.safeHold then s.deembPeriod.embedPeriod else s.matrixPeriod.deembPeriod.embedPeriod.rxPeriod.sendersHear

/-- What begins with a tick of a running device. -/
def tickWork (s : State) : State :=
  let period := s.tick64 % s.period == 0
  let t := if period then s.periodStart else s
  let t := t.audioTick period
  let t := if s.tick64 % 192 = 0 then t.meters else t
  t.rxTick.cascadeTick.cueTick.jobBoundary

/-- No event waits past its tick. -/
def punctual (s : State) : State := { s with evu := { s.evu with late := false } }

/-- A tick begins (R43). Before the first chain only the time since start-up counts (R48). -/
def tickBoundary (s : State) : State :=
  if s.phase = .running then
    let t : State := { s with tick := s.tick.next s.running }
    let t := (t.onChain fun c => { c with substituted := [] }).punctual
    (t.hbmTick.synthTick.pinTick.tickWork).poolTick
  else (State.punctual { s with tick := { s.tick with clock := s.tick.clock + 1 } }).hbmTick

/-- SUBST stands for one tick: the flags of the seam before go (R149). -/
def clearSubst (s : State) : State :=
  { s with fabric := { s.fabric with desc := s.fabric.desc.map fun e =>
    if e.2.subst ∧ ¬ s.chain.substituted.contains e.1 then (e.1, { e.2 with subst := false }) else e } }

/-- Seam cycles 0 to 15: spill detection and substitution (R71 to R73). -/
def spillDetection (s : State) : State :=
  let l := s.chain.owing.filter fun o => decide (0 < o.cells)
  let t := s.clearSubst
  let t := if l = [] then t.quietTick
    else ((t.forEach l abandon).spill (l.map (·.word)) ((l.map (·.cause)).foldl (· ||| ·) 0)).forEach l fun t o =>
      t.substWork o.word ((l.filter fun p => entStream p.word == entStream o.word).map (·.cells)).sum
  (t.markSubst).onChain fun c => { c with owing := [], stalls := [] }

/-- The counter sample strobe (R59): every counter's sample takes its value. -/
def sampleStrobe (s : State) : State :=
  let t := s.setN O01.TICK_NOW s.tick64
  { t with sample := t.objs.filter fun (e : Key × Val) => match rowOf e.1 with
      | some r => r.ctr
      | none => false }

/-- The timing reference unit writes TPER; where it is clamped, the disciplined estimate is clamped with it (R44, R88). -/
def writeTper (s : State) (v : Nat) : State :=
  let w := if v < tperMin then tperMin else if tperMax < v then tperMax else v
  let t := ({ s with tick := { s.tick with tper := BitVec.ofNat 64 w } }).setN O01.TICK_PERIOD w
  if w = v then t
  else ({ t with timing := { t.timing with freq := freqOf s.xtalRatio w } }).raise 0x017 noInst []

/-- Seam cycle 16 of the timing reference unit: it evaluates, disciplines its estimate, and writes TPER and every frequency word from it
(R44, R81, R98, R129). -/
def timingWrite (s : State) : State :=
  let t := s.timingSeam.discipline
  (t.writeTper (tperOf t.xtalRatio t.timing.freq)).writeWords

/-- The fabric and always-on counters are compared; where they disagree the always-on counter is loaded (R46). -/
def compareCounters (s : State) (aon : Option Nat) (phase : Int) : State :=
  let count : BitVec 64 := match aon with
    | some n => BitVec.ofNat 64 n
    | none => s.tick.aon
  let set (a : BitVec 64) (p : Int) : State := { s with tick := { s.tick with aon := a, aonPhase := p } }
  if count = s.tick.tick ∧ phase.natAbs ≤ 10172 then set count phase
  else (set s.tick.tick 0).raise 0x011 noInst (d64 s.tick64 ++ d64 count.toNat ++ s32 phase)

/-- The last value that a subscription notified of an object is noted (R543). -/
def markSeen (s : State) (sid sub : Nat) (k : Key) (v : Val) : State :=
  match s.sess? sid with
  | some x => s.setSess sid { x with subs := x.subs.map fun u => if u.id = sub then { u with seen := u.seen.put k (v, s.now) } else u }
  | none => s

/-- A value that a subscription is due for is reported, and remembered where the queue had room (R553, R554). -/
def sampled (s : State) (sid : Nat) (u : Sub) (k : Key) (v : Val) : State :=
  let due : Bool := match SMap.find? u.seen k with
    | none => true
    | some (w, at_) => decide (w ≠ v ∧ at_ + u.interval ≤ s.now)
  if ¬ due then s
  else
    let e := NEntry.value u.id s.tick64 ⟨k, OK, wireBytes k v⟩
    let room : Bool := match s.sess? sid with
      | some x => notesFit x || decide (replaceValue x.notes e ≠ x.notes)
      | none => false
    let t := s.note sid e
    if room then t.markSeen sid u.id k v else t

/-- An object of a VALUE subscription is sampled: a changed value is notified once MIN_INTERVAL has passed (R543, R544). A value that
finds no room is tried again. -/
def sampleValue (s : State) (sid : Nat) (u : Sub) (k : Key) : State :=
  match s.rowHere k with
  | none => s
  | some r =>
    let q := s.readVal sid k r
    match q.1 with
    | .error _ => q.2
    | .ok v => q.2.sampled sid u k v

/-- The VALUE subscriptions of every session are sampled (R543). -/
def sampleSubs (s : State) : State :=
  s.forEach s.openSessions fun t sid =>
    match t.sess? sid with
    | none => t
    | some x => t.forEach (x.subs.filter fun u => !u.events) fun t u =>
      t.forEach (if u.wildcard then t.wildKeys u.obj else [u.obj]) fun t k => t.sampleValue sid u k

/-- TSEQ is frozen (R588). -/
def tseqFrozen (s : State) : Bool := s.n (O17.MASTER_STATE 0x106) == 1

/-- The commit decision of the seam; a frozen TSEQ swaps nothing, and each armed transaction is refused (R61, R588). -/
def seamCommit (s : State) : State :=
  if ¬ s.tseqFrozen then s.commitDecision
  else match s.chain.cur with
  | some x => if s.n O01.SHADOW_STATE = 3 ∧ x.act = some (s.tick64 + 1) then s.missed x TIMEOUT else s
  | none => s

/-- A step of TICK64 that waits for seam cycle 32 (R49). -/
def seamStep (s : State) : State :=
  match s.tick.step with
  | some (n, src) => s.stepTime n src
  | none => s

/-- Bushels that failed leave the pool, paths that no longer fit are shed, and CAP_PECKS follows (R275, R276, R562). -/
def poolSeam (s : State) : State :=
  if s.conv.failing = [] then s
  else
    let old := s.n O00.CAP_PECKS
    let t := s.bushelSeam.poolCount
    let t := if t.n O00.CAP_PECKS = old then t
      else (t.flag O00.DEV_FLAGS 16).raise 0x007 noInst (d16 old ++ d16 (t.n O00.CAP_PECKS))
    (State.shedPaths t.peckPaths.length t).relocate

/-- The seam's work while the chain runs: spills before the sample. A tick of SAFE HOLD is a tick without a spill (R73). -/
def seamStart (s : State) : State := if s.running then s.spillDetection else if s.n O01.CHAIN_STATE = 1 ∨ s.n O01.CHAIN_STATE = 2 then s.quietTick else s

/-- Cycle 16 of the seam (R44, R46, R59, R98, R543). Counters are not sampled while the chain is stopped by SAFE HOLD (R159). -/
def seamSample (s : State) (aon : Option Nat) (phase : Int) : State :=
  let held := s.n O01.CHAIN_STATE == 1 || s.n O01.CHAIN_STATE == 2
  let t := if held then s else s.sampleStrobe
  let t := if s.phase = .running then t.timingWrite else t
  let t := if s.running then t.compareCounters aon phase else t
  t.sampleSubs.routeRecords

/-- The seam from cycle 17 (R59, R61). A reference whose binding the seam changed is lost at this seam (R84). -/
def seamSwap (s : State) : State :=
  let t := if s.running then s.seamCommit else s
  -- a seam that returns pecks (R276)
  let t := if s.n O09.PECKS_FREE < t.n O09.PECKS_FREE then State.unshed t.conv.shed.length t else t
  let t := if s.phase = .running then t.seamStep else t
  if s.phase = .running ∧ t.timing.lost then t.evaluate else t

/-- What the units take at the seam. -/
def seamUnits (s : State) : State :=
  let t := s.laneSeam.matrixSeam.audioSeam.poolSeam.bridgeSeam
  let t := t.furlongSeam.cueSeam.resyncSeam
  let t := (t.clipSeam.autoCompact.pump.repairDescs).sampleDescs
  t.exportSeam.importStep.progressSeam

/-- The device resets once a reset is due; the journal records in progress complete first (R564, R565, R612). -/
def seamReset (s : State) : State :=
  match s.boot.resetAt with
  | some (t, cause) =>
    if s.now < t then s else ((List.range s.jrnl.todo.length).foldl (fun u _ => u.programNext) s).resetDevice cause
  | none => s

/-- The seam (R59). Before the first chain it is only where Neloas routes records and releases results. -/
def seam (s : State) (aon : Option Nat) (phase : Int) : State :=
  let t := (s.seamStart.seamSample aon phase).seamSwap.keysSeam
  let t := if s.phase = .running then t.seamUnits else t
  let t := t.drainH2d 16
  ({ t with tick := { t.tick with inTick := false } }).seamReset

end State

/-- A tick boundary (R43). -/
def execTickBoundary (s : State) : Host.Outcome State Fault Refusal := live s State.tickBoundary

/-- The seam that ends the tick (R59). -/
def execSeam (aon : Option Nat) (aonPhase : Int) (s : State) : Host.Outcome State Fault Refusal :=
  live s fun s => s.seam aon aonPhase

end Sys2Proof.Machine
end

