-- ==== Sys2Proof/Machine/Dispatch.lean ====
section
/-! DEFINITION. The one dispatch: each command to its meaning. -/

namespace Sys2Proof.Machine

/-- The effect of a command on everything but the queue. -/
def exec (i : Instr) (s : State) : Host.Outcome State Fault Refusal :=
  match i with
  | .tickBoundary => Sys2Proof.Machine.execTickBoundary s
  | .seam aon aonPhase => Sys2Proof.Machine.execSeam aon aonPhase s
  | .shadowWriteDone crcOk => Sys2Proof.Machine.execShadowWriteDone crcOk s
  | .mirrorComplete => Sys2Proof.Machine.execMirrorComplete s
  | .stepTime time => Sys2Proof.Machine.execStepTime time s
  | .ppsEdge phase => Sys2Proof.Machine.execPpsEdge phase s
  | .chainRestart bad => Sys2Proof.Machine.execChainRestart bad s
  | .nop link word => Sys2Proof.Machine.execNop link word s
  | .move link word held cells => Sys2Proof.Machine.execMove link word held cells s
  | .memwr link word cells => Sys2Proof.Machine.execMemwr link word cells s
  | .memrd link word ecc => Sys2Proof.Machine.execMemrd link word ecc s
  | .bushel link word fallback => Sys2Proof.Machine.execBushel link word fallback s
  | .amx link word => Sys2Proof.Machine.execAmx link word s
  | .release link word payloads => Sys2Proof.Machine.execRelease link word payloads s
  | .sourceStall link word cells cycles cause => Sys2Proof.Machine.execSourceStall link word cells cycles cause s
  | .catchUp port dst cells => Sys2Proof.Machine.execCatchUp port dst cells s
  | .cellArrival port stream par valid payload => Sys2Proof.Machine.execCellArrival port stream par valid payload s
  | .descriptorParity stream word => Sys2Proof.Machine.execDescriptorParity stream word s
  | .stabEdgeLoss => Sys2Proof.Machine.execStabEdgeLoss s
  | .stabQualified => Sys2Proof.Machine.execStabQualified s
  | .freqOffsetUpdate xtal meas => Sys2Proof.Machine.execFreqOffsetUpdate xtal meas s
  | .candidateSignal cand phase => Sys2Proof.Machine.execCandidateSignal cand phase s
  | .qualificationTimer cand => Sys2Proof.Machine.execQualificationTimer cand s
  | .candStop cand => Sys2Proof.Machine.execCandStop cand s
  | .candGlitch cand => Sys2Proof.Machine.execCandGlitch cand s
  | .candRate cand reported => Sys2Proof.Machine.execCandRate cand reported s
  | .ptpSync inst port originPs rxPs logSync => Sys2Proof.Machine.execPtpSync inst port originPs rxPs logSync s
  | .ptpAnnounce inst port gm clockClass accuracy prio utc ports => Sys2Proof.Machine.execPtpAnnounce inst port gm clockClass accuracy prio utc ports s
  | .ptpAnnounceTimeout inst port ports => Sys2Proof.Machine.execPtpAnnounceTimeout inst port ports s
  | .esmcReceived port ssm enhanced => Sys2Proof.Machine.execEsmcReceived port ssm enhanced s
  | .esmcTimeout cand => Sys2Proof.Machine.execEsmcTimeout cand s
  | .pullComplete => Sys2Proof.Machine.execPullComplete s
  | .realign mask => Sys2Proof.Machine.execRealign mask s
  | .holdoverSpec => Sys2Proof.Machine.execHoldoverSpec s
  | .pllLockLost pll undelivered => Sys2Proof.Machine.execPllLockLost pll undelivered s
  | .pllLockRegained pll => Sys2Proof.Machine.execPllLockRegained pll s
  | .pllRelocked pll => Sys2Proof.Machine.execPllRelocked pll s
  | .lrefPresent lref offset => Sys2Proof.Machine.execLrefPresent lref offset s
  | .lrefLost lref => Sys2Proof.Machine.execLrefLost lref s
  | .synthUnlocked synth => Sys2Proof.Machine.execSynthUnlocked synth s
  | .lanePllLockLost lane => Sys2Proof.Machine.execLanePllLockLost lane s
  | .laneTxRelease lane => Sys2Proof.Machine.execLaneTxRelease lane s
  | .eccRetry addr reader stream ecc => Sys2Proof.Machine.execEccRetry addr reader stream ecc s
  | .refreshCollision stack channel stream => Sys2Proof.Machine.execRefreshCollision stack channel stream s
  | .stackTemperature stack temp => Sys2Proof.Machine.execStackTemperature stack temp s
  | .scrubRead ecc => Sys2Proof.Machine.execScrubRead ecc s
  | .scrubWriteBack addr => Sys2Proof.Machine.execScrubWriteBack addr s
  | .memtest sess which => Sys2Proof.Machine.execMemtest sess which s
  | .clipAlloc clip => Sys2Proof.Machine.execClipAlloc clip s
  | .clipRelease clip => Sys2Proof.Machine.execClipRelease clip s
  | .clipLoad sess clip => Sys2Proof.Machine.execClipLoad sess clip s
  | .clipSave sess clip => Sys2Proof.Machine.execClipSave sess clip s
  | .sdiSignalDetect input => Sys2Proof.Machine.execSdiSignalDetect input s
  | .sdiSignalLoss input => Sys2Proof.Machine.execSdiSignalLoss input s
  | .searchDwell input => Sys2Proof.Machine.execSearchDwell input s
  | .cdrLock input => Sys2Proof.Machine.execCdrLock input s
  | .sdiFrameStructure input raster scan rate level offset skew crc edhAp edhFf trs whole => Sys2Proof.Machine.execSdiFrameStructure input raster scan rate level offset skew crc edhAp edhFf trs whole s
  | .sdiLockLoss input cdr => Sys2Proof.Machine.execSdiLockLoss input cdr s
  | .payloadId input id raster scan rate sampling colour => Sys2Proof.Machine.execPayloadId input id raster scan rate sampling colour s
  | .ancPacket input group line hofs flags words => Sys2Proof.Machine.execAncPacket input group line hofs flags words s
  | .erroredSecond => Sys2Proof.Machine.execErroredSecond s
  | .outputFrameStart dest written => Sys2Proof.Machine.execOutputFrameStart dest written s
  | .switchingLine dest => Sys2Proof.Machine.execSwitchingLine dest s
  | .salvoFire salvo tick plan => Sys2Proof.Machine.execSalvoFire salvo tick plan s
  | .protect dest value => Sys2Proof.Machine.execProtect dest value s
  | .pathPrimed dest => Sys2Proof.Machine.execPathPrimed dest s
  | .bushelError bushel stream => Sys2Proof.Machine.execBushelError bushel stream s
  | .pathReadmit dest plan => Sys2Proof.Machine.execPathReadmit dest plan s
  | .cadenceChanged dest cadence => Sys2Proof.Machine.execCadenceChanged dest cadence s
  | .lutLoad sess slot => Sys2Proof.Machine.execLutLoad sess slot s
  | .aes3PreamblesValid port => Sys2Proof.Machine.execAes3PreamblesValid port s
  | .audioRateIdentified port rate offset => Sys2Proof.Machine.execAudioRateIdentified port rate offset s
  | .audioInputLost port rate => Sys2Proof.Machine.execAudioInputLost port rate s
  | .aes3Subframe input word => Sys2Proof.Machine.execAes3Subframe input word s
  | .csBlock input subframe => Sys2Proof.Machine.execCsBlock input subframe s
  | .madiFrame input words codeErrors => Sys2Proof.Machine.execMadiFrame input words codeErrors s
  | .srcDecision port offset => Sys2Proof.Machine.execSrcDecision port offset s
  | .portUnderrun port => Sys2Proof.Machine.execPortUnderrun port s
  | .portOverrun port => Sys2Proof.Machine.execPortOverrun port s
  | .fadeComplete port => Sys2Proof.Machine.execFadeComplete port s
  | .fifoRecentred port => Sys2Proof.Machine.execFifoRecentred port s
  | .resyncIndex port => Sys2Proof.Machine.execResyncIndex port s
  | .followLoopUpdate acs error => Sys2Proof.Machine.execFollowLoopUpdate acs error s
  | .groupStart group tick => Sys2Proof.Machine.execGroupStart group tick s
  | .groupStop group tick => Sys2Proof.Machine.execGroupStop group tick s
  | .groupIndexZero group => Sys2Proof.Machine.execGroupIndexZero group s
  | .audioSwitchRequest chan => Sys2Proof.Machine.execAudioSwitchRequest chan s
  | .zeroCrossing chan => Sys2Proof.Machine.execZeroCrossing chan s
  | .zcTimeout chan => Sys2Proof.Machine.execZcTimeout chan s
  | .crossfadeComplete chan => Sys2Proof.Machine.execCrossfadeComplete chan s
  | .termGain chan slot raw => Sys2Proof.Machine.execTermGain chan slot raw s
  | .mute chan value => Sys2Proof.Machine.execMute chan value s
  | .matrixRate rate => Sys2Proof.Machine.execMatrixRate rate s
  | .playStart player tick => Sys2Proof.Machine.execPlayStart player tick s
  | .playStop player tick => Sys2Proof.Machine.execPlayStop player tick s
  | .clipEnd player => Sys2Proof.Machine.execClipEnd player s
  | .deembedPacket input group kind ecc good samples => Sys2Proof.Machine.execDeembedPacket input group kind ecc good samples s
  | .deembedFade input out => Sys2Proof.Machine.execDeembedFade input out s
  | .linkStateChange port up => Sys2Proof.Machine.execLinkStateChange port up s
  | .frameIngress port slot frame err => Sys2Proof.Machine.execFrameIngress port slot frame err s
  | .fdbAgeing mac vid => Sys2Proof.Machine.execFdbAgeing mac vid s
  | .fdbFlush port => Sys2Proof.Machine.execFdbFlush port s
  | .trapFrame => Sys2Proof.Machine.execTrapFrame s
  | .trapSend frame => Sys2Proof.Machine.execTrapSend frame s
  | .arpReply iface addr mac => Sys2Proof.Machine.execArpReply iface addr mac s
  | .arpRefresh sender path => Sys2Proof.Machine.execArpRefresh sender path s
  | .igmpQuery iface v2 => Sys2Proof.Machine.execIgmpQuery iface v2 s
  | .macsecSa port value => Sys2Proof.Machine.execMacsecSa port value s
  | .macsecTxAn port an => Sys2Proof.Machine.execMacsecTxAn port an s
  | .senderResolved sender => Sys2Proof.Machine.execSenderResolved sender s
  | .senderHeld sender => Sys2Proof.Machine.execSenderHeld sender s
  | .rtpPacketRx rx path src sport ns spp found picture datagram => Sys2Proof.Machine.execRtpPacketRx rx path src sport ns spp found picture datagram s
  | .pathTimeout rx path => Sys2Proof.Machine.execPathTimeout rx path s
  | .lineGroupClosure rx => Sys2Proof.Machine.execLineGroupClosure rx s
  | .shaperEligible filter slot => Sys2Proof.Machine.execShaperEligible filter slot s
  | .pacerReleaseSlot sender slot => Sys2Proof.Machine.execPacerReleaseSlot sender slot s
  | .transmissionStart port slot => Sys2Proof.Machine.execTransmissionStart port slot s
  | .gateChange port slot => Sys2Proof.Machine.execGateChange port slot s
  | .gateListStart port slot => Sys2Proof.Machine.execGateListStart port slot s
  | .rxSignalDetect lane => Sys2Proof.Machine.execRxSignalDetect lane s
  | .rxLocked lane ctle dfe => Sys2Proof.Machine.execRxLocked lane ctle dfe s
  | .adaptationTimeout lane => Sys2Proof.Machine.execAdaptationTimeout lane s
  | .rxLost lane signal => Sys2Proof.Machine.execRxLost lane signal s
  | .elasticSlotRx lane slot => Sys2Proof.Machine.execElasticSlotRx lane slot s
  | .elasticSlotRead lane => Sys2Proof.Machine.execElasticSlotRead lane s
  | .rateOffsetUpdate lane offset => Sys2Proof.Machine.execRateOffsetUpdate lane offset s
  | .prbsSync lane lost errors bits => Sys2Proof.Machine.execPrbsSync lane lost errors bits s
  | .windowEnd lane errors bits => Sys2Proof.Machine.execWindowEnd lane errors bits s
  | .chkRestart lane => Sys2Proof.Machine.execChkRestart lane s
  | .eyeScan sess lane => Sys2Proof.Machine.execEyeScan sess lane s
  | .eyeScanDone lane rows => Sys2Proof.Machine.execEyeScanDone lane rows s
  | .ezavoCellRx lane header payload => Sys2Proof.Machine.execEzavoCellRx lane header payload s
  | .seal lane payload => Sys2Proof.Machine.execSeal lane payload s
  | .beaconReceived lane payload rx => Sys2Proof.Machine.execBeaconReceived lane payload rx s
  | .furlongMeasured lane fits => Sys2Proof.Machine.execFurlongMeasured lane fits s
  | .furlongDown lane => Sys2Proof.Machine.execFurlongDown lane s
  | .furlongFaultTimer lane => Sys2Proof.Machine.execFurlongFaultTimer lane s
  | .trunkKey lane value => Sys2Proof.Machine.execTrunkKey lane value s
  | .trunkTxKey lane slot => Sys2Proof.Machine.execTrunkTxKey lane slot s
  | .formWait => Sys2Proof.Machine.execFormWait s
  | .beaconsMissed => Sys2Proof.Machine.execBeaconsMissed s
  | .masterHandover device => Sys2Proof.Machine.execMasterHandover device s
  | .join device variant priority lastEpoch lineage hops age => Sys2Proof.Machine.execJoin device variant priority lastEpoch lineage hops age s
  | .welcome dest epoch size backup => Sys2Proof.Machine.execWelcome dest epoch size backup s
  | .joinRefused dest status => Sys2Proof.Machine.execJoinRefused dest status s
  | .joinRetry => Sys2Proof.Machine.execJoinRetry s
  | .leave device => Sys2Proof.Machine.execLeave device s
  | .domainTransaction device sess tx act items graph media plan => Sys2Proof.Machine.execDomainTransaction device sess tx act items graph media plan s
  | .prepare dest epoch act mode items plan => Sys2Proof.Machine.execPrepare dest epoch act mode items plan s
  | .copy dest epoch act mode device items => Sys2Proof.Machine.execCopy dest epoch act mode device items s
  | .prepared epoch device => Sys2Proof.Machine.execPrepared epoch device s
  | .refused epoch device status last => Sys2Proof.Machine.execRefused epoch device status last s
  | .abortRecord dest epoch cause => Sys2Proof.Machine.execAbortRecord dest epoch cause s
  | .appliedRecord epoch device tick => Sys2Proof.Machine.execAppliedRecord epoch device tick s
  | .notApplied epoch device cause => Sys2Proof.Machine.execNotApplied epoch device cause s
  | .participantLost epoch device => Sys2Proof.Machine.execParticipantLost epoch device s
  | .resync sess device => Sys2Proof.Machine.execResync sess device s
  | .relayPacket dest src srcIp dstIp srcPort dstPort protocol candidates packet => Sys2Proof.Machine.execRelayPacket dest src srcIp dstIp srcPort dstPort protocol candidates packet s
  | .hashReseed => Sys2Proof.Machine.execHashReseed s
  | .cueActionExecute engine => Sys2Proof.Machine.execCueActionExecute engine s
  | .cueActionNone engine record => Sys2Proof.Machine.execCueActionNone engine record s
  | .cueActionFlags engine record => Sys2Proof.Machine.execCueActionFlags engine record s
  | .cueActionSalvo engine record plan => Sys2Proof.Machine.execCueActionSalvo engine record plan s
  | .cueActionWrite engine plan => Sys2Proof.Machine.execCueActionWrite engine plan s
  | .cueActionFade engine record => Sys2Proof.Machine.execCueActionFade engine record s
  | .cueActionGpio engine record => Sys2Proof.Machine.execCueActionGpio engine record s
  | .cueActionTimecode engine record => Sys2Proof.Machine.execCueActionTimecode engine record s
  | .gpioPulseEnd pin => Sys2Proof.Machine.execGpioPulseEnd pin s
  | .cueFire engine record => Sys2Proof.Machine.execCueFire engine record s
  | .ceRearm engine value => Sys2Proof.Machine.execCeRearm engine value s
  | .cueFlags engine value => Sys2Proof.Machine.execCueFlags engine value s
  | .sacnPacket rx packet => Sys2Proof.Machine.execSacnPacket rx packet s
  | .sacnSourceTimeout lu cid => Sys2Proof.Machine.execSacnSourceTimeout lu cid s
  | .sacnTransmit lu => Sys2Proof.Machine.execSacnTransmit lu s
  | .discoverySend => Sys2Proof.Machine.execDiscoverySend s
  | .discoveryAgeing cid => Sys2Proof.Machine.execDiscoveryAgeing cid s
  | .dmxOutputPacket port => Sys2Proof.Machine.execDmxOutputPacket port s
  | .dmxInputPacket port brk mab startCode framing slots => Sys2Proof.Machine.execDmxInputPacket port brk mab startCode framing slots s
  | .dmxLoss port => Sys2Proof.Machine.execDmxLoss port s
  | .timecodeWord reader rate value user bits age speed => Sys2Proof.Machine.execTimecodeWord reader rate value user bits age speed s
  | .tcFreewheel reader => Sys2Proof.Machine.execTcFreewheel reader s
  | .tcNoTransitions reader => Sys2Proof.Machine.execTcNoTransitions reader s
  | .generatorWord gen => Sys2Proof.Machine.execGeneratorWord gen s
  | .genRun gen value => Sys2Proof.Machine.execGenRun gen value s
  | .gpioEdge pin level => Sys2Proof.Machine.execGpioEdge pin level s
  | .gpioSet pin value => Sys2Proof.Machine.execGpioSet pin value s
  | .datagramRx iface addr port bytes c => Sys2Proof.Machine.execDatagramRx iface addr port bytes c s
  | .reassemblyTimeout sess seq => Sys2Proof.Machine.execReassemblyTimeout sess seq s
  | .hello mailbox addr port body => Sys2Proof.Machine.execHello mailbox addr port body s
  | .prove sess body => Sys2Proof.Machine.execProve sess body s
  | .handshakeTimeout sess => Sys2Proof.Machine.execHandshakeTimeout sess s
  | .helloLockoutEnd addr => Sys2Proof.Machine.execHelloLockoutEnd addr s
  | .get sess seq tx items => Sys2Proof.Machine.execGet sess seq tx items s
  | .set sess seq items c => Sys2Proof.Machine.execSet sess seq items c s
  | .begin sess seq => Sys2Proof.Machine.execBegin sess seq s
  | .stage sess seq tx items => Sys2Proof.Machine.execStage sess seq tx items s
  | .commit sess seq tx act c => Sys2Proof.Machine.execCommit sess seq tx act c s
  | .abort sess seq tx => Sys2Proof.Machine.execAbort sess seq tx s
  | .discard sess seq tx => Sys2Proof.Machine.execDiscard sess seq tx s
  | .jobSuspend sess seq job => Sys2Proof.Machine.execJobSuspend sess seq job s
  | .jobResume sess seq job => Sys2Proof.Machine.execJobResume sess seq job s
  | .jobCancel sess seq job => Sys2Proof.Machine.execJobCancel sess seq job s
  | .jobRelease sess seq job => Sys2Proof.Machine.execJobRelease sess seq job s
  | .subscribe sess seq items => Sys2Proof.Machine.execSubscribe sess seq items s
  | .unsubscribe sess seq sub => Sys2Proof.Machine.execUnsubscribe sess seq sub s
  | .bulkPut sess seq job offset items c => Sys2Proof.Machine.execBulkPut sess seq job offset items c s
  | .bulkGet sess seq job offset items => Sys2Proof.Machine.execBulkGet sess seq job offset items s
  | .notifyAck sess seq note => Sys2Proof.Machine.execNotifyAck sess seq note s
  | .notifyResend sess note => Sys2Proof.Machine.execNotifyResend sess note s
  | .keepalive sess seq => Sys2Proof.Machine.execKeepalive sess seq s
  | .close sess seq status => Sys2Proof.Machine.execClose sess seq status s
  | .sessionTimeout sess => Sys2Proof.Machine.execSessionTimeout sess s
  | .sessClose sess => Sys2Proof.Machine.execSessClose sess s
  | .txIdle tx => Sys2Proof.Machine.execTxIdle tx s
  | .mbH2dTail index cs => Sys2Proof.Machine.execMbH2dTail index cs s
  | .mbD2hHead index => Sys2Proof.Machine.execMbD2hHead index s
  | .journalRecordProgrammed => Sys2Proof.Machine.execJournalRecordProgrammed s
  | .immediateRecord => Sys2Proof.Machine.execImmediateRecord s
  | .journalCompact sess => Sys2Proof.Machine.execJournalCompact sess s
  | .jobComplete job status data ecc plans => Sys2Proof.Machine.execJobComplete job status data ecc plans s
  | .jobAutoRelease job => Sys2Proof.Machine.execJobAutoRelease job s
  | .deviceReset => Sys2Proof.Machine.execDeviceReset s
  | .factoryDefault value => Sys2Proof.Machine.execFactoryDefault value s
  | .configExport sess scope => Sys2Proof.Machine.execConfigExport sess scope s
  | .configImport sess mode => Sys2Proof.Machine.execConfigImport sess mode s
  | .dieTempSample temp => Sys2Proof.Machine.execDieTempSample temp s
  | .controlBusRequest reqs => Sys2Proof.Machine.execControlBusRequest reqs s
  | .unfreeze value => Sys2Proof.Machine.execUnfreeze value s
  | .dmaDescriptor dma bytes data job error => Sys2Proof.Machine.execDmaDescriptor dma bytes data job error s
  | .pcieRequest bar offset write len data fails cs => Sys2Proof.Machine.execPcieRequest bar offset write len data fails cs s
  | .resetRelease straps pins entropy powered => Sys2Proof.Machine.execResetRelease straps pins entropy powered s
  | .handover bad regions failed => Sys2Proof.Machine.execHandover bad regions failed s
  | .firstChain micros plan => Sys2Proof.Machine.execFirstChain micros plan s
  | .porstNFall => Sys2Proof.Machine.execPorstNFall s
  | .rcvLength length => Sys2Proof.Machine.execRcvLength length s
  | .trialConfirmation => Sys2Proof.Machine.execTrialConfirmation s
  | .trialWatchdog => Sys2Proof.Machine.execTrialWatchdog s
  | .lcTransition target => Sys2Proof.Machine.execLcTransition target s
  | .fwUpdate sess => Sys2Proof.Machine.execFwUpdate sess s
  | .fwCommit => Sys2Proof.Machine.execFwCommit s
  | .tamperAck => Sys2Proof.Machine.execTamperAck s
  | .tamperAtStartUp pins => Sys2Proof.Machine.execTamperAtStartUp pins s
  | .standbyTamper pins => Sys2Proof.Machine.execStandbyTamper pins s
  | .tamperRunning pins => Sys2Proof.Machine.execTamperRunning pins s
  | .otpIntent revoke => Sys2Proof.Machine.execOtpIntent revoke s
  | .openPath sess root handle body => Sys2Proof.Machine.execOpenPath sess root handle body s
  | .openBlob sess handle body => Sys2Proof.Machine.execOpenBlob sess handle body s
  | .keyClose sess handle => Sys2Proof.Machine.execKeyClose sess handle s
  | .generate sess kek body => Sys2Proof.Machine.execGenerate sess kek body s
  | .wrap sess kek body => Sys2Proof.Machine.execWrap sess kek body s
  | .encrypt sess handle body => Sys2Proof.Machine.execEncrypt sess handle body s
  | .decrypt sess handle body => Sys2Proof.Machine.execDecrypt sess handle body s
  | .mac sess handle body => Sys2Proof.Machine.execMac sess handle body s
  | .revoke sess root body => Sys2Proof.Machine.execRevoke sess root body s
  | .rewrap sess body => Sys2Proof.Machine.execRewrap sess body s
  | .enroll sess value => Sys2Proof.Machine.execEnroll sess value s
  | .attest sess value => Sys2Proof.Machine.execAttest sess value s
  | .keyMigrate sess value => Sys2Proof.Machine.execKeyMigrate sess value s
  | .keyRetire => Sys2Proof.Machine.execKeyRetire s
  | .tamperConfig value => Sys2Proof.Machine.execTamperConfig value s
  | .remask => Sys2Proof.Machine.execRemask s
  | .drbgReseed => Sys2Proof.Machine.execDrbgReseed s
  | .entropyHealthFailure => Sys2Proof.Machine.execEntropyHealthFailure s
  | .entropyRetest passed => Sys2Proof.Machine.execEntropyRetest passed s
  | .eventRaised event inst detail => Sys2Proof.Machine.execEventRaised event inst detail s
  | .evStatus event mask => Sys2Proof.Machine.execEvStatus event mask s
  | .ackAll => Sys2Proof.Machine.execAckAll s
  | .routeDefaults => Sys2Proof.Machine.execRouteDefaults s
  | .pwrOkChange high => Sys2Proof.Machine.execPwrOkChange high s
  | .registerWrite role obj flags val => Sys2Proof.Machine.execRegisterWrite role obj flags val s
  | .synthRelocked synth => Sys2Proof.Machine.execSynthRelocked synth s
  | .lineGroupStart stream group displaced => Sys2Proof.Machine.execLineGroupStart stream group displaced s
  | .portSampleDue port => Sys2Proof.Machine.execPortSampleDue port s
  | .mgmtLinkChange iface up => Sys2Proof.Machine.execMgmtLinkChange iface up s
  | .stabSignalDetect => Sys2Proof.Machine.execStabSignalDetect s
  | .ptpMessageSend inst port kind => Sys2Proof.Machine.execPtpMessageSend inst port kind s
  | .ptpDelayRx inst port kind t1 t2 t3 t4 => Sys2Proof.Machine.execPtpDelayRx inst port kind t1 t2 t3 t4 s
  | .esmcSend port => Sys2Proof.Machine.execEsmcSend port s
  | .tcSignalDetect reader => Sys2Proof.Machine.execTcSignalDetect reader s
  | .aonSupplyLoss => Sys2Proof.Machine.execAonSupplyLoss s

end Sys2Proof.Machine
end

