-- ==== Sys2Proof/WellFormed.lean ====
section
/-! DEFINITION. Well-formed commands: each operand fits the field, the register or the message that the spec gives it. -/

namespace Sys2Proof

/-- An operand's value, and the bound that the field which carries it sets: the value lies below it. -/
abbrev Bound := Nat × Nat

/-- The bound that only a length of `k` meets. -/
def exactly (n k : Nat) : Bound := (if n = k then 0 else 1, 1)

/-- The fields of R149 that a new stream fills. -/
def StreamReq.bounds (r : StreamReq) : List Bound :=
  [(r.kind, 16), (r.srcp, 64), (r.dstp, 64), (r.origin, 0x10000), (r.lineBytes, 0x10000), (r.lines, 0x10000), (r.frames, 256),
   (r.dest, 0x20000), (r.trunkIn, 0x10000), (r.trunkOut, 0x10000), (r.originId, 0x10000), (r.label, 0x10000)]

/-- The fields of R51 and R177 that a demand fills. -/
def Demand.bounds (d : Demand) : List Bound :=
  [(d.op, 16), (d.srcp, 64), (d.dstp, 64), (d.cells, 128), (d.arg, 0x20000), (d.stack, 8), (d.mode, 4)]

/-- What the route compiler makes of a transaction fits the descriptors and the entries. -/
def Plan.bounds (p : Plan) : List Bound :=
  p.streams.flatMap StreamReq.bounds ++ p.adds.flatMap Demand.bounds ++ p.drops.map (fun n => (n, 0x10000)) ++
  p.later.flatMap fun q => [(q.1, 0x10000), (q.2, 0x10000)]

/-- The furlongs of a domain: devices and trunk lanes (R436, R478). -/
def Graph.bounds (g : Graph) : List Bound :=
  (g.links.flatMap fun q => [(q.1, 0x400), (q.2.1, 0x20), (q.2.2.1, 0x400), (q.2.2.2, 0x20)]) ++ g.spines.map fun n => (n, 0x400)

/-- What the route compiler makes of a message. -/
def Compiled.bounds (c : Compiled) : List Bound := c.plans.flatMap (fun q => q.2.bounds) ++ c.graph.bounds ++
  c.media.flatMap fun q => [(q.1, 0x400), (q.2.1, 0x10000), (q.2.2, 0x10000)]

/-- The fields of a request item (R528). -/
def Item.bounds (i : Item) : List Bound := [(i.obj, 0x100000000), (i.flags, 0x100), (i.val.length, 0x10000)]

/-- The fields of a control-bus transaction (R573, R579, R583). -/
def BusReq.bounds (r : BusReq) : List Bound :=
  [(r.master, 16), (r.qos, 16), (r.addr, 0x10000000000000000), (r.beats - 1, 64), (0, r.beats), (r.flash, 0x100000000)] ++
    r.ecc.flatMap fun q => [(q.1, 0x10000000000000000), (q.2.1, 8), (q.2.2, 36)]

/-- The fields of an E1.31 packet (R498, R502). -/
def SacnPkt.bounds (p : SacnPkt) : List Bound :=
  [exactly p.cid.length 16, (p.priority, 0x100), (p.number, 0x10000), (p.seq, 0x100), (p.startCode, 0x100), (p.slots.length, 513)]

/-- The operands of a command with their bounds. -/
def Instr.bounds : Instr → List Bound
  | .tickBoundary => []
  | .seam aon aonPhase => [(aonPhase.natAbs, 0x10000000000000000)] ++ (aon.toList.map fun n => (n, 0x10000000000000000))
  | .shadowWriteDone _ => []
  | .mirrorComplete => []
  | .stepTime time => [(time, 2 ^ 80)]
  | .ppsEdge phase => [(phase.natAbs, 0x8000000000000000)]
  | .chainRestart bad => [(bad, 0x100000000)]
  | .nop link word => [(link, 100), (word, 0x10000000000000000)]
  | .move link word held cells => [(link, 100), (word, 0x10000000000000000), (held, 0x10000)] ++ (cells.map fun b => exactly b.length 128)
  | .memwr link word cells => [(link, 100), (word, 0x10000000000000000)] ++ (cells.map fun b => exactly b.length 128)
  | .memrd link word ecc => [(link, 100), (word, 0x10000000000000000)] ++ (ecc.flatMap fun q => [(q.1, 0x10000000000000000), (q.2.1, 8), (q.2.2, 36)])
  | .bushel link word fallback => [(link, 100), (word, 0x10000000000000000), (fallback, 0x10000)]
  | .amx link word => [(link, 100), (word, 0x10000000000000000)]
  | .release link word payloads => [(link, 100), (word, 0x10000000000000000)] ++ (payloads.map fun b => exactly b.length 128)
  | .sourceStall link word cells cycles cause => [(link, 100), (word, 0x10000000000000000), (cells, 0x100000000), (cycles, 0x100000000), (cause, 0x100)]
  | .catchUp port dst cells => [(port, 0x10000), (dst, 0x10000), (cells, 0x100000000)]
  | .cellArrival port stream par _ payload => [(port, 0x10000), (stream, 0x10000), (par, 0x100), exactly payload.length 128]
  | .descriptorParity stream word => [(stream, 0x10000), (word, 4)]
  | .stabEdgeLoss => []
  | .stabQualified => []
  | .freqOffsetUpdate xtal meas => [(xtal.natAbs, 0x10000000000000000)] ++ (meas.map fun q => (q.cand, 0x10000))
  | .candidateSignal cand phase => [(cand, 0x10000), (phase.natAbs, 0x8000000000000000)]
  | .qualificationTimer cand => [(cand, 0x10000)]
  | .candStop cand => [(cand, 0x10000)]
  | .candGlitch cand => [(cand, 0x10000)]
  | .candRate cand reported => [(cand, 0x10000), (reported, 0x100)]
  | .ptpSync inst port originPs rxPs logSync => [(inst, 0x10000), (port, 0x10000), (originPs, 2 ^ 96), (rxPs, 2 ^ 96), (logSync.natAbs, 8)]
  | .ptpAnnounce inst port gm clockClass accuracy prio _ ports => [(inst, 0x10000), (port, 0x10000), exactly gm.length 8, (clockClass, 0x100), (accuracy, 0x100), (prio, 0x10000)] ++ (ports.flatMap fun q => [(q.1, 0x10000000000000000), (q.2, 0x100000000)])
  | .ptpAnnounceTimeout inst port ports => [(inst, 0x10000), (port, 0x10000)] ++ (ports.flatMap fun q => [(q.1, 0x10000000000000000), (q.2, 0x100000000)])
  | .esmcReceived port ssm _ => [(port, 0x10000), (ssm, 0x100)]
  | .esmcTimeout cand => [(cand, 0x10000)]
  | .pullComplete => []
  | .realign mask => [(mask, 0x100)]
  | .holdoverSpec => []
  | .pllLockLost pll undelivered => [(pll, 0x10000)] ++ (undelivered.map fun n => (n, 0x100000000))
  | .pllLockRegained pll => [(pll, 0x10000)]
  | .pllRelocked pll => [(pll, 0x10000)]
  | .lrefPresent lref offset => [(lref, 0x10000), (offset.natAbs, 0x100000000)]
  | .lrefLost lref => [(lref, 0x10000)]
  | .synthUnlocked synth => [(synth, 0x10000)]
  | .lanePllLockLost lane => [(lane, 0x10000)]
  | .laneTxRelease lane => [(lane, 0x10000)]
  | .eccRetry addr reader stream ecc => [(addr, 0x10000000000000000), (reader, 0x10000), (stream, 0x10000)] ++ (ecc.flatMap fun q => [(q.1, 8), (q.2, 36)])
  | .refreshCollision stack channel stream => [(stack, 0x10000), (channel, 16), (stream, 0x10000)]
  | .stackTemperature stack temp => [(stack, 0x10000), (temp.natAbs, 0x10000)]
  | .scrubRead ecc => (ecc.flatMap fun q => [(q.1, 0x10000000000000000), (q.2.1, 8), (q.2.2, 36)])
  | .scrubWriteBack addr => [(addr, 0x10000000000000000)]
  | .memtest sess which => [(sess, 0x100000000), (which, 0x100)]
  | .clipAlloc clip => [(clip, 0x10000)]
  | .clipRelease clip => [(clip, 0x10000)]
  | .clipLoad sess clip => [(sess, 0x100000000), (clip, 0x10000)]
  | .clipSave sess clip => [(sess, 0x100000000), (clip, 0x10000)]
  | .sdiSignalDetect input => [(input, 0x10000)]
  | .sdiSignalLoss input => [(input, 0x10000)]
  | .searchDwell input => [(input, 0x10000)]
  | .cdrLock input => [(input, 0x10000)]
  | .sdiFrameStructure input raster scan rate level offset skew crc edhAp edhFf trs _ => [(input, 0x10000), (raster, 0x100), (scan, 0x100), (rate, 0x100), (level, 0x10000), (offset.natAbs, 0x100000000), (skew, 0x10000), (crc, 0x100000000), (edhAp, 0x100000000), (edhFf, 0x100000000), (trs, 0x100000000)]
  | .sdiLockLoss input _ => [(input, 0x10000)]
  | .payloadId input id raster scan rate sampling colour => [(input, 0x10000), (id, 0x100000000), (raster, 0x100), (scan, 0x100), (rate, 0x100), (sampling, 0x100), (colour, 0x100)]
  | .ancPacket input group line hofs flags words => [(input, 0x10000), (group, 0x10000), (line, 0x10000), (hofs, 0x10000), (flags, 0x10000)] ++ (words.map fun n => (n, 0x100000000))
  | .erroredSecond => []
  | .outputFrameStart dest written => [(dest, 0x10000), (written, 0x100000000)]
  | .switchingLine dest => [(dest, 0x10000)]
  | .salvoFire salvo tick plan => [(salvo, 0x10000), (tick, 0x10000000000000000)] ++ plan.bounds
  | .protect dest _ => [(dest, 0x10000)]
  | .pathPrimed dest => [(dest, 0x10000)]
  | .bushelError bushelN stream => [(bushelN, 0x10000), (stream, 0x10000)]
  | .pathReadmit dest plan => [(dest, 0x10000)] ++ plan.bounds
  | .cadenceChanged dest cadence => [(dest, 0x10000), (cadence, 0x10000)]
  | .lutLoad sess slot => [(sess, 0x100000000), (slot, 0x10000)]
  | .aes3PreamblesValid port => [(port, 0x10000)]
  | .audioRateIdentified port rate offset => [(port, 0x10000), (rate, 0x100), (offset.natAbs, 0x100000000)]
  | .audioInputLost port _ => [(port, 0x10000)]
  | .aes3Subframe input word => [(input, 0x10000), (word, 0x100000000)]
  | .csBlock input subframe => [(input, 0x10000), (subframe, 0x10000)]
  | .madiFrame input words codeErrors => [(input, 0x10000), (codeErrors, 0x10000)] ++ (words.map fun n => (n, 0x100000000))
  | .srcDecision port offset => [(port, 0x10000), (offset.natAbs, 0x100000000)]
  | .portUnderrun port => [(port, 0x10000)]
  | .portOverrun port => [(port, 0x10000)]
  | .fadeComplete port => [(port, 0x10000)]
  | .fifoRecentred port => [(port, 0x10000)]
  | .resyncIndex port => [(port, 0x10000)]
  | .followLoopUpdate acs error => [(acs, 0x10000), (error.natAbs, 0x10000000000000000)]
  | .groupStart group tick => [(group, 0x10000), (tick, 0x10000000000000000)]
  | .groupStop group tick => [(group, 0x10000), (tick, 0x10000000000000000)]
  | .groupIndexZero group => [(group, 0x10000)]
  | .audioSwitchRequest chan => [(chan, 0x10000)]
  | .zeroCrossing chan => [(chan, 0x10000)]
  | .zcTimeout chan => [(chan, 0x10000)]
  | .crossfadeComplete chan => [(chan, 0x10000)]
  | .termGain chan slot raw => [(chan, 0x10000), (slot, 0x10000), (raw, 0x10000)]
  | .mute chan _ => [(chan, 0x10000)]
  | .matrixRate rate => [(rate, 0x100)]
  | .playStart player tick => [(player, 0x10000), (tick, 0x10000000000000000)]
  | .playStop player tick => [(player, 0x10000), (tick, 0x10000000000000000)]
  | .clipEnd player => [(player, 0x10000)]
  | .deembedPacket input group kind ecc _ samples => [(input, 0x10000), (group, 9), (kind, 0x100), (ecc, 0x100)] ++ (samples.map fun n => (n, 0x100000000))
  | .deembedFade input _ => [(input, 0x10000)]
  | .linkStateChange port _ => [(port, 0x10000)]
  | .frameIngress port slot frame err => [(port, 0x10000), (slot, 0x10000), (frame.length, 0x10001), (err, 0x100)]
  | .fdbAgeing macN vid => [(macN, 0x1000000000000), (vid, 0x1000)]
  | .fdbFlush port => [(port, 0x10000)]
  | .trapFrame => []
  | .trapSend frame => [(frame.length, 0x10001)]
  | .arpReply iface addr macN => [(iface, 0x10000), (addr, 0x100000000), (macN, 0x1000000000000)]
  | .arpRefresh sender path => [(sender, 0x10000), (path, 0x10000)]
  | .igmpQuery iface _ => [(iface, 0x10000)]
  | .macsecSa port value => [(port, 0x10000), (value.length, 0x10001)]
  | .macsecTxAn port an => [(port, 0x10000), (an, 4)]
  | .senderResolved sender => [(sender, 0x10000)]
  | .senderHeld sender => [(sender, 0x10000)]
  | .rtpPacketRx rx path src sport ns spp found _ _ => [(rx, 0x10000), (path, 0x10000), (src, 0x100000000), (sport, 0x10000), (ns, 0x10000000000000000), (spp, 0x10000), (found, 0x10000)]
  | .pathTimeout rx path => [(rx, 0x10000), (path, 0x10000)]
  | .lineGroupClosure rx => [(rx, 0x10000)]
  | .shaperEligible filter slot => [(filter, 0x10000), (slot, 0x10000)]
  | .pacerReleaseSlot sender slot => [(sender, 0x10000), (slot, 0x10000)]
  | .transmissionStart port slot => [(port, 0x10000), (slot, 0x10000)]
  | .gateChange port slot => [(port, 0x10000), (slot, 0x10000)]
  | .gateListStart port slot => [(port, 0x10000), (slot, 0x10000)]
  | .rxSignalDetect lane => [(lane, 0x10000)]
  | .rxLocked lane ctle dfe => [(lane, 0x10000), (ctle, 0x100), (dfe.length, 17)]
  | .adaptationTimeout lane => [(lane, 0x10000)]
  | .rxLost lane _ => [(lane, 0x10000)]
  | .elasticSlotRx lane slot => [(lane, 0x10000), (slot, 0x10000)]
  | .elasticSlotRead lane => [(lane, 0x10000)]
  | .rateOffsetUpdate lane offset => [(lane, 0x10000), (offset.natAbs, 0x100000000)]
  | .prbsSync lane _ errors bits => [(lane, 0x10000), (errors, 0x100000000), (bits, 0x100000000)]
  | .windowEnd lane errors bits => [(lane, 0x10000), (errors, 0x100000000), (bits, 0x100000000)]
  | .chkRestart lane => [(lane, 0x10000)]
  | .eyeScan sess lane => [(sess, 0x100000000), (lane, 0x10000)]
  | .eyeScanDone lane _ => [(lane, 0x10000)]
  | .ezavoCellRx lane header payload => [(lane, 0x10000), (header, 0x10000000000000000), exactly payload.length 128]
  | .seal lane payload => [(lane, 0x10000), exactly payload.length 128]
  | .beaconReceived lane payload rx => [(lane, 0x10000), exactly payload.length 128, (rx, 0x10000000000000000)]
  | .furlongMeasured lane _ => [(lane, 0x10000)]
  | .furlongDown lane => [(lane, 0x10000)]
  | .furlongFaultTimer lane => [(lane, 0x10000)]
  | .trunkKey lane value => [(lane, 0x10000), (value.length, 0x10001)]
  | .trunkTxKey lane slot => [(lane, 0x10000), (slot, 2)]
  | .formWait => []
  | .beaconsMissed => []
  | .masterHandover device => [(device, 0x10000)]
  | .join device variant priority lastEpoch lineage hops age => [(device, 0x10000), (variant, 0x100), (priority, 0x100), (lastEpoch, 0x100000000), (lineage, 0x100000000), (hops, 0x100), (age, 0x100000000)]
  | .welcome dest epoch size backup => [(dest, 0x10000), (epoch, 0x100000000), (size, 0x10000), (backup, 0x10000)]
  | .joinRefused dest status => [(dest, 0x10000), (status, 0x100)]
  | .joinRetry => []
  | .leave device => [(device, 0x10000)]
  | .domainTransaction device sess tx act items graph media plan => [(device, 0x10000), (sess, 0x100000000), (tx, 0x10000), (act, 0x10000000000000000)] ++ (items.map fun q => (q.1, 0x100000000)) ++ graph.bounds ++ (media.flatMap fun q => [(q.1, 0x400), (q.2.1, 0x10000), (q.2.2, 0x10000)]) ++ plan.bounds
  | .prepare dest epoch act mode items plan => [(dest, 0x10000), (epoch, 0x100000000), (act, 0x10000000000000000), (mode, 0x100)] ++ (items.map fun q => (q.1, 0x100000000)) ++ plan.bounds
  | .copy dest epoch act mode device items => [(dest, 0x10000), (epoch, 0x100000000), (act, 0x10000000000000000), (mode, 0x100), (device, 0x10000)] ++ (items.map fun q => (q.1, 0x100000000))
  | .prepared epoch device => [(epoch, 0x100000000), (device, 0x10000)]
  | .refused epoch device status last => [(epoch, 0x100000000), (device, 0x10000), (status, 0x100), (last, 0x100)]
  | .abortRecord dest epoch cause => [(dest, 0x10000), (epoch, 0x100000000), (cause, 0x100)]
  | .appliedRecord epoch device tick => [(epoch, 0x100000000), (device, 0x10000), (tick, 0x10000000000000000)]
  | .notApplied epoch device cause => [(epoch, 0x100000000), (device, 0x10000), (cause, 0x100)]
  | .participantLost epoch device => [(epoch, 0x100000000), (device, 0x10000)]
  | .resync sess device => [(sess, 0x100000000), (device, 0x10000)]
  | .relayPacket dest src srcIp dstIp srcPort dstPort protocol candidates packet => [(dest, 0x10000), (src, 0x10000), (srcIp, 0x100000000), (dstIp, 0x100000000), (srcPort, 0x10000), (dstPort, 0x10000), (protocol, 0x100), (packet.length, 0x10001)] ++ (candidates.map fun n => (n, 0x100000000))
  | .hashReseed => []
  | .cueActionExecute engine => [(engine, 0x10000)]
  | .cueActionNone engine record => [(engine, 0x10000), (record, 0x10000)]
  | .cueActionFlags engine record => [(engine, 0x10000), (record, 0x10000)]
  | .cueActionSalvo engine record plan => [(engine, 0x10000), (record, 0x10000)] ++ plan.bounds
  | .cueActionWrite engine plan => [(engine, 0x10000)] ++ plan.bounds
  | .cueActionFade engine record => [(engine, 0x10000), (record, 0x10000)]
  | .cueActionGpio engine record => [(engine, 0x10000), (record, 0x10000)]
  | .cueActionTimecode engine record => [(engine, 0x10000), (record, 0x10000)]
  | .gpioPulseEnd pin => [(pin, 0x10000)]
  | .cueFire engine record => [(engine, 0x10000), (record, 0x10000)]
  | .ceRearm engine value => [(engine, 0x10000), (value, 0x10000)]
  | .cueFlags engine _ => [(engine, 0x10000)]
  | .sacnPacket rx packet => [(rx, 0x10000)] ++ packet.bounds
  | .sacnSourceTimeout lu cid => [(lu, 0x10000), exactly cid.length 16]
  | .sacnTransmit lu => [(lu, 0x10000)]
  | .discoverySend => []
  | .discoveryAgeing cid => [exactly cid.length 16]
  | .dmxOutputPacket port => [(port, 0x10000)]
  | .dmxInputPacket port brk mab startCode _ slots => [(port, 0x10000), (brk, 0x10000), (mab, 0x10000), (startCode, 0x10000), (slots.length, 513)]
  | .dmxLoss port => [(port, 0x10000)]
  | .timecodeWord reader rate value user bits age speed => [(reader, 0x10000), (rate, 8), (value, 0x10000000000000000), (user, 0x100000000), (bits, 0x10000), (age, 0x10000), (speed.natAbs, 0x10000)]
  | .tcFreewheel reader => [(reader, 0x10000)]
  | .tcNoTransitions reader => [(reader, 0x10000)]
  | .generatorWord gen => [(gen, 0x10000)]
  | .genRun gen _ => [(gen, 0x10000)]
  | .gpioEdge pin _ => [(pin, 0x10000)]
  | .gpioSet pin _ => [(pin, 0x10000)]
  | .datagramRx iface addr port bytes c => [(iface, 0x10000), (addr, 0x100000000), (port, 0x10000), (bytes.length, 0x10001)] ++ c.bounds
  | .reassemblyTimeout sess seq => [(sess, 0x100000000), (seq, 0x100000000)]
  | .hello _ addr port body => [(addr, 0x100000000), (port, 0x10000), (body.length, 0x10001)]
  | .prove sess body => [(sess, 0x100000000), (body.length, 0x10001)]
  | .handshakeTimeout sess => [(sess, 0x100000000)]
  | .helloLockoutEnd addr => [(addr, 0x100000000)]
  | .get sess seq tx items => [(sess, 0x100000000), (seq, 0x100000000), (tx, 0x10000)] ++ (items.flatMap Item.bounds)
  | .set sess seq items c => [(sess, 0x100000000), (seq, 0x100000000)] ++ (items.flatMap Item.bounds) ++ c.bounds
  | .begin sess seq => [(sess, 0x100000000), (seq, 0x100000000)]
  | .stage sess seq tx items => [(sess, 0x100000000), (seq, 0x100000000), (tx, 0x10000)] ++ (items.flatMap Item.bounds)
  | .commit sess seq tx act c => [(sess, 0x100000000), (seq, 0x100000000), (tx, 0x10000), (act, 0x10000000000000000)] ++ c.bounds
  | .abort sess seq tx => [(sess, 0x100000000), (seq, 0x100000000), (tx, 0x10000)]
  | .discard sess seq tx => [(sess, 0x100000000), (seq, 0x100000000), (tx, 0x10000)]
  | .jobSuspend sess seq job => [(sess, 0x100000000), (seq, 0x100000000), (job, 0x10000)]
  | .jobResume sess seq job => [(sess, 0x100000000), (seq, 0x100000000), (job, 0x10000)]
  | .jobCancel sess seq job => [(sess, 0x100000000), (seq, 0x100000000), (job, 0x10000)]
  | .jobRelease sess seq job => [(sess, 0x100000000), (seq, 0x100000000), (job, 0x10000)]
  | .subscribe sess seq items => [(sess, 0x100000000), (seq, 0x100000000)] ++ (items.flatMap Item.bounds)
  | .unsubscribe sess seq sub => [(sess, 0x100000000), (seq, 0x100000000), (sub, 0x10000)]
  | .bulkPut sess seq job offset items c => [(sess, 0x100000000), (seq, 0x100000000), (job, 0x10000), (offset, 0x100000000)] ++ (items.flatMap Item.bounds) ++ c.bounds
  | .bulkGet sess seq job offset items => [(sess, 0x100000000), (seq, 0x100000000), (job, 0x10000), (offset, 0x100000000)] ++ (items.flatMap Item.bounds)
  | .notifyAck sess seq note => [(sess, 0x100000000), (seq, 0x100000000), (note, 0x10000)]
  | .notifyResend sess note => [(sess, 0x100000000), (note, 0x10000)]
  | .keepalive sess seq => [(sess, 0x100000000), (seq, 0x100000000)]
  | .close sess seq status => [(sess, 0x100000000), (seq, 0x100000000), (status, 0x10000)]
  | .sessionTimeout sess => [(sess, 0x100000000)]
  | .sessClose sess => [(sess, 0x100000000)]
  | .txIdle tx => [(tx, 0x10000)]
  | .mbH2dTail index cs => [(index, 0x10000)] ++ (cs.flatMap fun q => q.2.bounds)
  | .mbD2hHead index => [(index, 0x10000)]
  | .journalRecordProgrammed => []
  | .immediateRecord => []
  | .journalCompact sess => [(sess, 0x100000000)]
  | .jobComplete job status data ecc plans => [(job, 0x10000), (status, 0x100), (data.length, 0x100000000)] ++ (ecc.flatMap fun q => [(q.1, 0x10000000000000000), (q.2.1, 8), (q.2.2, 36)]) ++ (plans.flatMap fun q => q.2.bounds)
  | .jobAutoRelease job => [(job, 0x10000)]
  | .deviceReset => []
  | .factoryDefault value => [(value, 0x100000000)]
  | .configExport sess scope => [(sess, 0x100000000), (scope, 0x100)]
  | .configImport sess mode => [(sess, 0x100000000), (mode, 0x100)]
  | .dieTempSample temp => [(temp.natAbs, 0x10000)]
  | .controlBusRequest reqs => (reqs.flatMap BusReq.bounds)
  | .unfreeze value => [(value, 0x100000000)]
  | .dmaDescriptor dma bytes data job _ => [(dma, 16), (bytes, 0x100000000), (data.length, 0x100000000)] ++ (job.toList.map fun n => (n, 0x10000000000000000))
  | .pcieRequest bar offset _ len data _ cs => [(bar, 6), (offset, 0x100000000), (len, 1025), (data.length, 0x10001)] ++ (cs.flatMap fun q => q.2.bounds)
  | .resetRelease straps pins _ _ => [(straps, 0x10000), (pins, 0x100)]
  | .handover bad regions failed => (bad.toList.map fun n => (n, 0x10000000000000000)) ++ (regions.map fun b => (b.length, 0x100)) ++ (failed.map fun n => (n, 0x100000000))
  | .firstChain micros plan => [(micros, 0x100000000)] ++ plan.bounds
  | .porstNFall => []
  | .rcvLength length => [(length, 0x100000000)]
  | .trialConfirmation => []
  | .trialWatchdog => []
  | .lcTransition target => [(target, 0x100)]
  | .fwUpdate sess => [(sess, 0x100000000)]
  | .fwCommit => []
  | .tamperAck => []
  | .tamperAtStartUp pins => [(pins, 0x100)]
  | .standbyTamper pins => [(pins, 0x100)]
  | .tamperRunning pins => [(pins, 0x100)]
  | .otpIntent revokeN => (revokeN.toList.map fun n => (n, 0x10000000000000000))
  | .openPath sess root handle body => [(sess, 0x100000000), (root, 0x100000000), (handle, 0x100000000), (body.length, 0x10001)]
  | .openBlob sess handle body => [(sess, 0x100000000), (handle, 0x100000000), (body.length, 0x10001)]
  | .keyClose sess handle => [(sess, 0x100000000), (handle, 0x100000000)]
  | .generate sess kek body => [(sess, 0x100000000), (kek, 0x100000000), (body.length, 0x10001)]
  | .wrap sess kek body => [(sess, 0x100000000), (kek, 0x100000000), (body.length, 0x10001)]
  | .encrypt sess handle body => [(sess, 0x100000000), (handle, 0x100000000), (body.length, 0x10001)]
  | .decrypt sess handle body => [(sess, 0x100000000), (handle, 0x100000000), (body.length, 0x10001)]
  | .mac sess handle body => [(sess, 0x100000000), (handle, 0x100000000), (body.length, 0x10001)]
  | .revoke sess root body => [(sess, 0x100000000), (root, 0x100000000), (body.length, 0x10001)]
  | .rewrap sess body => [(sess, 0x100000000), (body.length, 0x10001)]
  | .enroll sess value => [(sess, 0x100000000), (value.length, 0x10001)]
  | .attest sess value => [(sess, 0x100000000), (value.length, 0x10001)]
  | .keyMigrate sess value => [(sess, 0x100000000), (value.length, 0x10001)]
  | .keyRetire => []
  | .tamperConfig value => [(value, 0x100000000)]
  | .remask => []
  | .drbgReseed => []
  | .entropyHealthFailure => []
  | .entropyRetest _ => []
  | .eventRaised event inst detail => [(event, 0x1000), (inst, 0x10000), (detail.length, 41)]
  | .evStatus event mask => [(event, 0x1000), (mask, 8)]
  | .ackAll => []
  | .routeDefaults => []
  | .pwrOkChange _ => []
  | .registerWrite role obj flags val => [(role, 4), (obj, 0x100000000), (flags, 0x100), (val.length, 0x10000)]
  | .synthRelocked synth => [(synth, 0x10000)]
  | .lineGroupStart stream group displaced => [(stream, 0x10000), (group, 0x10000), (displaced, 0x100000000)]
  | .portSampleDue port => [(port, 0x10000)]
  | .mgmtLinkChange iface _ => [(iface, 0x10000)]
  | .stabSignalDetect => []
  | .ptpMessageSend inst port kind => [(inst, 0x10000), (port, 0x10000), (kind, 0x100)]
  | .ptpDelayRx inst port kind t1 t2 t3 t4 => [(inst, 0x10000), (port, 0x10000), (kind, 0x100), (t1, 2 ^ 96), (t2, 2 ^ 96), (t3, 2 ^ 96), (t4, 2 ^ 96)]
  | .esmcSend port => [(port, 0x10000)]
  | .tcSignalDetect reader => [(reader, 0x10000)]
  | .aonSupplyLoss => []

/-- A command whose every operand fits its field. -/
def Instr.wf (i : Instr) : Bool := i.bounds.all fun b => decide (b.1 < b.2)

end Sys2Proof
end

