-- ==== Sys2Proof/Safety.lean ====
section
/-! DEFINITION. The terms in which statements speak of runs: what a command completes with, what it may change, and the invariant that
every step keeps. -/

namespace Sys2Proof.Machine

/-- The registers are in the one canonical form: their keys rise, and none holds what an unlisted object reads as (R517). -/
def State.regsOk (s : State) : Bool := SMap.rising s.objs && s.objs.all fun e => decide (some e.2 ≠ baseOf e.1)

/-- Frame memory is in its one canonical form (R167, R173). -/
def FmemSt.ok (f : FmemSt) : Bool := Memory.wf f.mem f.unlisted

/-- The memories on the control bus are in their one canonical form: SRAM, the H2D slots and the MSI-X table (R537, R574, R590). -/
def BusSt.ok (b : BusSt) : Bool := Memory.wf b.sram (fun _ => 0) && Memory.wf b.h2d (fun _ => 0) && Memory.wf b.msix (fun _ => 0)

/-- What every step keeps: the registers and the counter samples are in their canonical form, the event log holds at most 1,024 records
(R678), the residue of the tick generator is below one cycle (R43), and the memories are in their canonical form. -/
def State.Inv (s : State) : Prop :=
  s.regsOk = true ∧ SMap.rising s.sample = true ∧ s.evu.log.length ≤ 1024 ∧ s.tick.acc.toNat < 2 ^ 40 ∧ s.fmem.ok = true ∧ s.bus.ok = true

/-- The invariant holds and the hardware of the device works. -/
def State.Up (s : State) : Prop := s.Inv ∧ s.alive = true

/-- The device works, and the instance of the class is present (R9, R555). -/
def State.UpAt (c i : Nat) (s : State) : Prop := s.Inv ∧ s.alive = true ∧ s.present c i = true

/-- A register holds a number. -/
def State.Holds (s : State) (k : Key) (n : Nat) : Prop := s.stored k = some (.num n)

/-- An event has been raised and not acknowledged since: bit 0 of its EV_STATUS is set (R666). -/
def State.Raised (s : State) (ev : Nat) : Prop := ∃ m, s.Holds (O1A.EV_STATUS ev) m ∧ bit m 0 = true

/-- A command answers a next state, of which `P` holds. -/
def Completes (i : Instr) (s : State) (P : State → Prop) : Prop := ∃ t, exec i s = .next t ∧ P t

/-- The cells with which a record leaves on an Ezavo lane that is not sealed (R439, R441, R465). -/
def recordsOn (l kind src dest epoch : Nat) (segs : List (List Byte)) : List Out :=
  (recordCells kind src dest epoch segs).map fun c =>
    .media 0x34 l ((d64 (ezavoHeader 3 0 (padTo 128 c)) ++ padTo 128 c).map (·.toNat))

/-- The parts of the state beside the registers. `bytes` are the bytes of frame memory and `fmem` what else its controller holds; `ram` are
the bytes of the memories on the control bus and `bus` what else the bus holds. -/
inductive Part where
  | pending | member | fresh | phase | straps | sample | sent | evu | tick | chain | sess | mail | reasm | locks | jobs | jrnl
  | timing | clocks | lanes | fabric | fmem | inputs | dests | conv | audio | amx | net | furlongs | domain | boot | keys | bus | cues
  | hot | measured | bytes | ram
  deriving DecidableEq, Repr

/-- A part is the same in two states. -/
def Part.same (p : Part) (s t : State) : Prop :=
  match p with
  | .pending => t.pending = s.pending
  | .member => t.member = s.member
  | .fresh => t.fresh = s.fresh
  | .phase => t.phase = s.phase
  | .straps => t.straps = s.straps
  | .sample => t.sample = s.sample
  | .sent => t.sent = s.sent
  | .evu => t.evu = s.evu
  | .tick => t.tick = s.tick
  | .chain => t.chain = s.chain
  | .sess => t.sess = s.sess
  | .mail => t.mail = s.mail
  | .reasm => t.reasm = s.reasm
  | .locks => t.locks = s.locks
  | .jobs => t.jobs = s.jobs
  | .jrnl => t.jrnl = s.jrnl
  | .timing => t.timing = s.timing
  | .clocks => t.clocks = s.clocks
  | .lanes => t.lanes = s.lanes
  | .fabric => t.fabric = s.fabric
  | .fmem => { t.fmem with mem := [], wild := [] } = { s.fmem with mem := [], wild := [] }
  | .inputs => t.inputs = s.inputs
  | .dests => t.dests = s.dests
  | .conv => t.conv = s.conv
  | .audio => t.audio = s.audio
  | .amx => t.amx = s.amx
  | .net => t.net = s.net
  | .furlongs => t.furlongs = s.furlongs
  | .domain => t.domain = s.domain
  | .boot => t.boot = s.boot
  | .keys => t.keys = s.keys
  | .bus => { t.bus with sram := [], h2d := [], msix := [] } = { s.bus with sram := [], h2d := [], msix := [] }
  | .cues => t.cues = s.cues
  | .hot => t.hot = s.hot
  | .measured => t.measured = s.measured
  | .bytes => (t.fmem.mem, t.fmem.wild) = (s.fmem.mem, s.fmem.wild)
  | .ram => (t.bus.sram, t.bus.h2d, t.bus.msix) = (s.bus.sram, s.bus.h2d, s.bus.msix)

/-- Two states differ at most in the parts and the registers named. -/
def SameOutside (parts : List Part) (regs : Key → Prop) (s t : State) : Prop :=
  (∀ p, p ∉ parts → p.same s t) ∧ ∀ k, ¬ regs k → t.stored k = s.stored k

/-- The frame of a command: wherever it answers a next state, at most the parts and the registers named have changed. -/
def ChangesOnly (i : Instr) (s : State) (parts : List Part) (regs : Key → Prop) : Prop :=
  ∀ t, exec i s = .next t → SameOutside parts regs s t

/-- The registers that a raising of an event writes (R666, R676, R677). -/
def eventRegs (ev : Nat) : List Key :=
  [O1A.EV_STATUS ev, O1A.EV_COUNT ev, O1A.EV_LAST_TICK ev, O1A.EV_LAST_RECORD ev, O1A.RECORDS_MADE, O1A.RECORDS_SUPPRESSED, O1A.EVU_FLAGS]

/-- A key operation meets no refusal of the whole store: Neloas serves, the session is open, its role may ask, and the store is neither
zeroised nor frozen (R588, R643, R644, R657). -/
def State.KeyReady (s : State) (sess op : Nat) : Prop :=
  s.Up ∧ s.served = true ∧ s.n (O1C.SESS_STATE sess) = 2 ∧ (s.sess? sess).isSome = true ∧ State.opRole op (s.n (O1C.SESS_ROLE sess)) = true ∧
  s.n O19.KS_STATE ≠ 2 ∧ s.spFrozen = false

/-- The session's KEY_RESULT is the answer OK to an operation, with a body (R643). -/
def State.KeyAnswer (s : State) (sess op : Nat) (body : List Byte) : Prop :=
  s.own sess O19.KEY_RESULT = some (.blob (bytesBE 1 op ++ bytesBE 1 OK ++ bytesBE 2 body.length ++ zeros 4 ++ body))

/-- The session's KEY_RESULT is the refusal of an operation, without a body (R643). -/
def State.KeyRefused (s : State) (sess op status : Nat) : Prop :=
  s.own sess O19.KEY_RESULT = some (.blob (bytesBE 1 op ++ bytesBE 1 status ++ bytesBE 2 0 ++ zeros 4))

/-- A session is open, and the device serves it (R526, R588, R602). -/
def State.OpenTo (s : State) (sess : Nat) (x : SessSt) : Prop :=
  s.Up ∧ s.answers = true ∧ s.talks (mailboxSess sess) = true ∧ s.phase = .running ∧ s.sess? sess = some x ∧ s.n (O1C.SESS_STATE sess) = 2

/-- The state once a message with a SEQ above every one before has been taken in (R526, R535). -/
def State.hears (s : State) (sess seq : Nat) (x : SessSt) : State :=
  s.setSess sess { x with heard := s.now, high := seq, seen := (x.high :: x.seen).filter fun n => decide (seq ≤ n + 64) }

/-- A response stands among the last 64 of a session (R526, R527). -/
def State.Answered (s : State) (sess : Nat) (r : Resp) : Prop :=
  ∃ x n, s.sess? sess = some x ∧ (r.seq, n, r) ∈ x.cache

/-- A job of an object may start: the device accepts jobs, the object has no job that has not ended, and `j` is the lowest free slot
(R545, R566). -/
def State.JobFree (s : State) (k : Key) (j : Nat) : Prop :=
  s.Up ∧ s.accepts = true ∧ s.jobOf k = none ∧ (s.jobsIn 0).head? = some j

/-- A job of an object has taken a slot for an owner: it runs where fewer jobs run than JOBS_LIMIT, and waits otherwise (R545). -/
def State.JobTaken (s t : State) (sess : Nat) (k : Key) (j : Nat) : Prop :=
  t.Holds (O1B.JOB_OBJECT j) k ∧ t.Holds (O1B.JOB_STATUS j) PENDING ∧ t.Holds (O1B.JOB_OWNER j) sess ∧
  (s.n O1B.JOBS_RUNNING < s.n O1B.JOBS_LIMIT → t.Holds (O1B.JOB_STATE j) 2 ∧ t.Raised 0x1B0) ∧
  (s.n O1B.JOBS_LIMIT ≤ s.n O1B.JOBS_RUNNING → t.Holds (O1B.JOB_STATE j) 1)

/-- The commands that act on a device whose hardware does not work: PORST_N, PWR_OK, the always-on supply, and a tamper source in standby
(R598, R600, R656). Every other command finds nothing that would take it. -/
def actsOnDead : Instr → Bool
  | .resetRelease _ _ _ _ | .porstNFall | .standbyTamper _ | .pwrOkChange _ | .aonSupplyLoss => true
  | _ => false

/-- What a command can change at most: parts of the state, registers, families of registers by instance, and the registers of events. Where
`anyReg` holds, the command carries out work that an earlier command has staged or that its own operands name (a transaction, a write, the
whole seam, a start of the device), and no register is ruled out. -/
structure Footprint where
  parts : List Part
  regs : List Key := []
  fams : List (Nat → Key) := []
  fams2 : List (Nat → Nat → Key) := []
  events : List Nat := []
  anyEvent : Bool := false
  anyReg : Bool := false

/-- The registers of a footprint. -/
def Footprint.reg (f : Footprint) (k : Key) : Prop :=
  f.anyReg = true ∨ k ∈ f.regs ∨ (∃ g ∈ f.fams, ∃ i, k = g i) ∨ (∃ g ∈ f.fams2, ∃ i j, k = g i j) ∨ (∃ e ∈ f.events, k ∈ eventRegs e) ∨
  (f.anyEvent = true ∧ ∃ e, k ∈ eventRegs e)

/-- The footprint of each command, by the rules of its chapter. -/
def Footprint.of : Instr → Footprint
  | .tickBoundary =>
    { parts := [.tick, .evu, .chain, .fabric, .amx, .fresh, .sent, .net, .audio, .sess, .mail, .jobs, .fmem, .boot, .cues, .furlongs,
      .domain, .clocks, .bus, .bytes, .ram], regs := [O1B.JOBS_QUEUED, O1B.JOBS_RUNNING, O1C.FILULO_FLAGS, O00.DEV_FLAGS, O18.FW_PHASE,
      O13.MISSED_BEACONS, O13.DOMAIN_EPOCH, O13.BACKUP_DEVICE, O13.MASTER_DEVICE, O13.DOMAIN_STATE, O1C.TX_LAST],
      fams := [O0C.PLAYER_STATE, State.indexKey, O0A.GROUP_STATE, State.stateKey, O0A.GROUP_FAULTS,
      fun i => State.portKey i (O0A.IN_LATENCY 0), fun i => State.portKey i (O0A.OUT_LATENCY 0), O1B.JOB_STATUS, O1C.SESS_QUEUE,
      O1B.JOB_STARTED, O1B.JOB_STATE, O1B.JOB_ENDED, O1B.JOB_RESULT, O1B.JOB_PROGRESS, O05.CLIP_LOADED, O05.CLIP_STATE, O09.LUT_STATE,
      O14.ACTIONS, O14.CUE_FLAGS, O14.CE_STATUS, O14.LAST_ERROR, O14.ACTION_ERRORS, O16.GEN_RUN, O14.QUEUE_DEPTH, O14.FIRED,
      O14.QUEUE_DROPS, O14.DEFERRED, O12.BEACONS_MISSED, O12.FURLONG_STATE, O12.CELLS_IO, O13.MEMBER_STATE, O12.RELAY_CELLS,
      O0E.LOST_AB, O0E.RX_FLAGS, O0E.UNRECOVERED, O0E.SKEW, O05.STACK_FLAGS, O05.LAST_ERROR_PIN, O05.LAST_ERROR_ADDR, O05.CE_COUNT,
      O05.PIN_CE, O17.TRANSACTIONS, O17.TARGET_ERRORS, O17.ERROR_RESPONSES, O17.QOS_LAST], fams2 := [O0C.DEST_PEAK, O0C.SOURCE_PEAK],
      anyEvent := true }
  | .seam _ _ =>
    { parts := [.fresh, .phase, .straps, .sample, .sent, .evu, .tick, .chain, .sess, .mail, .reasm, .locks, .jobs, .jrnl, .timing,
      .clocks, .lanes, .fabric, .fmem, .inputs, .dests, .conv, .audio, .amx, .net, .furlongs, .domain, .boot, .keys, .bus, .cues, .hot,
      .measured, .bytes, .ram], anyReg := true }
  | .shadowWriteDone _ => { parts := [.evu, .chain], regs := [O01.SHADOW_STATE], events := [0x19] }
  | .mirrorComplete => { parts := [.chain], regs := [O01.SHADOW_STATE] }
  | .stepTime _ => { parts := [.tick] }
  | .ppsEdge _ => { parts := [.timing, .tick], fams := [O02.CAND_STATE, O02.OUTVOTED, O02.PHASE_OFFSET] }
  | .chainRestart _ =>
    { parts := [.evu, .chain, .fabric, .tick, .domain, .sent, .sess, .mail, .furlongs, .fmem, .jobs, .cues, .conv, .amx, .fresh, .audio,
      .net], regs := [O04.STREAMS_ACTIVE, O0C.PHASE_TERMS, O0C.TERMS_COMMITTED, O09.BUSHELS_IN_SERVICE, O09.POOL_PECKS,
      O09.PECKS_COMMITTED, O09.PECKS_FREE, O09.PATHS_SHED, O09.PATHS_RUNNING, O13.LAST_EPOCH, O13.DOMAIN_STATE, O13.DOMAIN_FLAGS,
      O1C.FILULO_FLAGS, O1C.TX_LAST, O05.GENERAL_FREE, O01.SHADOW_STATE, O01.LAST_REFUSAL, O01.CHAIN_STATE], fams := [O12.MEDIA_CELLS,
      O0C.BLOCK_TERMS, O09.BUSHEL_PATHS, O09.PECK_MASK, O09.BUSHEL_STATE, O13.MEMBER_LAST_EPOCH, O1C.SESS_QUEUE, O12.CELLS_IO,
      O05.LARGEST_FREE, O05.FREE_BYTES, O08.SALVO_LAST_STATUS, O08.SALVO_LAST_TICK, O14.CE_STATUS, O14.LAST_ERROR, O14.ACTION_ERRORS,
      O14.CE_STATE, O09.PATH_FLAGS, O09.PATH_STATE, State.stateKey, O0D.SEND_STATE], fams2 := [O0C.DEST_TERMS], events := [0x19, 0x134,
      0x138, 0x135, 0x1C3, 0x18, 0x82, 0x141, 0x13] }
  | .nop _ _ => { parts := [] }
  | .move _ word _ _ =>
    { parts := [.fabric, .chain, .bus, .fmem, .bytes, .evu, .sent, .conv, .net, .furlongs], regs := [O04.IDLE_OUT (entSrc word)],
      fams := [O04.CELLS_IN, O04.CELLS_OUT, O05.CLIP_LOADED, O04.PORT_FLAGS, O04.INVALID_CELLS, O12.CELLS_IO], events := [0x42] }
  | .memwr _ word _ =>
    { parts := [.net, .fabric, .chain, .bus, .fmem, .bytes, .evu, .sent, .conv, .furlongs], regs := [O04.IDLE_OUT (entSrc word)],
      fams := [O04.CELLS_IN, O04.CELLS_OUT, O05.CLIP_LOADED, O04.PORT_FLAGS, O04.INVALID_CELLS, O12.CELLS_IO], events := [0x42] }
  | .memrd _ word _ =>
    { parts := [.evu, .fmem, .chain, .bus, .fabric, .bytes, .sent, .conv, .net, .furlongs], regs := [O04.IDLE_OUT (entSrc word)],
      fams := [O05.STACK_FLAGS, O05.LAST_ERROR_PIN, O05.LAST_ERROR_ADDR, O05.CE_COUNT, O05.PIN_CE, O04.CELLS_IN, O04.CELLS_OUT,
      O05.CLIP_LOADED, O04.PORT_FLAGS, O04.INVALID_CELLS, O12.CELLS_IO], events := [0x50, 0x56, 0x42] }
  | .bushel _ word _ =>
    { parts := [.conv, .fresh, .evu, .fabric, .chain, .bus, .fmem, .bytes, .sent, .net, .furlongs],
      regs := [O04.IDLE_OUT (entSrc word)], fams := [O09.PATH_FLAGS, O09.GAMUT_CLIPPED, O04.CELLS_IN, O04.CELLS_OUT, O05.CLIP_LOADED,
      O04.PORT_FLAGS, O04.INVALID_CELLS, O12.CELLS_IO, O09.MC_FALLBACK_PCT], events := [0x9A, 0x42] }
  | .amx _ word =>
    { parts := [.fresh, .amx, .evu, .chain, .bus, .fabric, .fmem, .bytes, .sent, .conv, .net, .furlongs],
      regs := [O0C.DELAY_APPLIED (field (entArg word) 9 0), O04.IDLE_OUT (entSrc word)], fams := [O04.CELLS_IN, O04.CELLS_OUT,
      O05.CLIP_LOADED, O04.PORT_FLAGS, O04.INVALID_CELLS, O12.CELLS_IO], fams2 := [O0C.DEST_FLAGS, O0C.SATURATED], events := [0xC1,
      0xCA, 0x42] }
  | .release _ _ _ =>
    { parts := [.chain, .net, .evu], fams := [O10.SF_FRAMES, O0F.PORT_FLAGS, O0F.DROPS, O10.SF_FLAGS, O10.SH_DROPS, O10.CBS_CREDIT,
      O10.SH_ELIGIBLE, O10.SH_QUEUED, O10.SH_LEVEL, O0D.SEND_FLAGS], events := [0xF5, 0x100] }
  | .sourceStall _ _ _ _ _ => { parts := [.evu, .chain], events := [0x44] }
  | .catchUp port dst _ =>
    { parts := [.fabric, .fmem, .bytes, .evu, .chain, .sent, .conv, .net, .furlongs], regs := [O04.CATCHUP_CELLS dst,
      O04.CATCHUP_CELLS port], fams := [O04.CELLS_IN, O04.CELLS_OUT, O05.CLIP_LOADED, O04.PORT_FLAGS, O04.INVALID_CELLS, O12.CELLS_IO],
      events := [0x42, 0x40] }
  | .cellArrival port _ _ _ _ =>
    { parts := [.chain, .fabric, .amx, .net, .evu], regs := [O04.PORT_FLAGS port, O04.ERROR_CELLS port, O04.INVALID_CELLS port],
      fams := [O10.SF_FRAMES, O0F.PORT_FLAGS, O0F.DROPS, O10.SF_FLAGS, O10.SH_DROPS, O10.CBS_CREDIT, O10.SH_ELIGIBLE, O10.SH_QUEUED,
      O10.SH_LEVEL, O0D.SEND_FLAGS], events := [0xF5, 0x100, 0x46, 0x42] }
  | .descriptorParity _ _ =>
    { parts := [.chain, .fabric, .amx, .net, .evu], fams := [O10.SF_FRAMES, O0F.PORT_FLAGS, O0F.DROPS, O10.SF_FLAGS, O10.SH_DROPS,
      O10.CBS_CREDIT, O10.SH_ELIGIBLE, O10.SH_QUEUED, O10.SH_LEVEL, O0D.SEND_FLAGS], events := [0xF5, 0x100, 0x45] }
  | .stabEdgeLoss => { parts := [.timing, .evu], regs := [O02.STAB_STATE], events := [0x2A] }
  | .stabQualified => { parts := [.timing, .evu], regs := [O02.STAB_STATE], events := [0x2A] }
  | .freqOffsetUpdate _ _ =>
    { parts := [.evu, .timing], regs := [O02.XTAL_OFFSET, O02.PULL_ETA, O02.PULL_REMAIN], fams := [O02.OUTVOTED, O02.CAND_FLAGS,
      O02.PHASE_OFFSET, O02.FREQ_OFFSET, O02.CAND_STATE], events := [0x2D, 0xA3, 0x26, 0x28, 0x27] }
  | .candidateSignal cand _ => { parts := [.timing], regs := [O02.CAND_STATE cand, O02.OUTVOTED cand, O02.PHASE_OFFSET cand] }
  | .qualificationTimer cand => { parts := [.evu, .tick, .timing], regs := [O02.CAND_STATE cand, O02.OUTVOTED cand], events := [0x28] }
  | .candStop cand =>
    { parts := [.evu, .timing], regs := [O02.CAND_FLAGS cand, O02.CAND_STATE cand, O02.OUTVOTED cand], events := [0x23] }
  | .candGlitch cand =>
    { parts := [.evu, .timing], regs := [O02.CAND_FLAGS cand, O02.CAND_STATE cand, O02.OUTVOTED cand], events := [0x24] }
  | .candRate cand _ =>
    { parts := [.evu, .timing], regs := [O02.CAND_FLAGS cand, O02.CAND_STATE cand, O02.OUTVOTED cand], events := [0x25] }
  | .ptpSync inst _ _ _ _ =>
    { parts := [.evu, .timing], regs := [O02.OFFSET_FROM_MASTER (32 + inst)], fams := [O02.PHASE_OFFSET, O02.CAND_FLAGS, O02.CAND_STATE,
      O02.OUTVOTED], events := [0x24] }
  | .ptpAnnounce inst _ _ _ _ _ _ _ =>
    { parts := [.timing, .evu], regs := [O02.GM_QUALITY (32 + inst), O02.PARENT_GM (32 + inst)], fams := [O02.QL, O02.CAND_FLAGS,
      O02.CAND_STATE, O02.OUTVOTED], events := [0xE02, 0xE00, 0x25] }
  | .ptpAnnounceTimeout inst _ _ =>
    { parts := [.timing, .evu], regs := [O02.GM_QUALITY (32 + inst), O02.PARENT_GM (32 + inst)], fams := [O02.CAND_FLAGS,
      O02.CAND_STATE, O02.OUTVOTED], events := [0xE02, 0xE01, 0x23] }
  | .esmcReceived _ _ _ => { parts := [.timing], fams := [O02.QL] }
  | .esmcTimeout cand => { parts := [.evu, .timing], regs := [O02.QL cand], events := [0xE03] }
  | .pullComplete => { parts := [.evu], regs := [O02.PULL_ETA, O02.PULL_REMAIN, O02.SEL_STATE], events := [0x29] }
  | .realign _ => { parts := [.clocks, .dests, .audio], fams := [State.stateKey, O0A.GROUP_FAULTS] }
  | .holdoverSpec => { parts := [.evu, .timing], events := [0x2B] }
  | .pllLockLost pll _ =>
    { parts := [.clocks, .evu, .chain, .amx, .net, .fabric, .audio, .inputs, .dests, .bus, .fmem, .bytes, .fresh, .ram, .sent, .jobs],
      regs := [O03.LAST_UNLOCK pll, O03.UNLOCK_COUNT pll, O01.SPILL_CAUSES, O01.LAST_SPILL_TICK, O01.SPILL_ENTRIES, O01.SPILL_TICKS,
      O01.LAST_SPILL_STREAMS, O01.LAST_SPILL_COUNT, O01.LAST_SAFE_HOLD, O01.SAFE_HOLD_COUNT, O01.CHAIN_STATE, O0C.PHASE_TERMS,
      O0C.TERMS_COMMITTED, O03.PLL_FLAGS pll, O03.PLL_STATE pll], fams := [O04.PORT_FLAGS, O04.ABANDONED_CELLS, O10.SF_FRAMES,
      O0F.PORT_FLAGS, O0F.DROPS, O10.SF_FLAGS, O10.SH_DROPS, O10.CBS_CREDIT, O10.SH_ELIGIBLE, O10.SH_QUEUED, O10.SH_LEVEL,
      O0D.SEND_FLAGS, O14.CE_STATE, O0D.SEND_STATE, State.stateKey, O0C.BLOCK_TERMS, O07.OUT_STATE, O05.STACK_FLAGS, O05.LAST_ERROR_PIN,
      O05.LAST_ERROR_ADDR, O05.CE_COUNT, O05.PIN_CE, O17.TRANSACTIONS, O17.TARGET_ERRORS, O17.ERROR_RESPONSES, O17.QOS_LAST,
      O05.STACK_STATE], fams2 := [O0C.SWITCH_STATE, O0C.DEST_TERMS, O0C.DEST_FLAGS], events := [0x41, 0x14, 0xF5, 0x100, 0x12, 0xD1,
      0x36, 0x50, 0x56, 0x30, 0x32] }
  | .pllLockRegained pll => { parts := [.clocks], regs := [O03.PLL_STATE pll] }
  | .pllRelocked pll =>
    { parts := [.evu, .clocks, .net, .fabric, .jobs, .conv, .inputs, .dests], regs := [O03.PLL_STATE pll, O01.CHAIN_STATE],
      fams := [O10.CBS_CREDIT, O05.STACK_STATE, O09.PATH_FLAGS, O09.PATH_STATE, O0D.SEND_STATE], events := [0x31, 0x38] }
  | .lrefPresent lref _ =>
    { parts := [.clocks, .evu], regs := [O03.LREF_OFFSET (16 + lref), O03.LREF_STATE (16 + lref)], events := [0x34] }
  | .lrefLost lref =>
    { parts := [.evu, .clocks, .lanes], regs := [O03.LREF_STATE (16 + lref)], fams := [O07.OUT_STATE, O07.SQUELCH_CAUSE, O07.OUT_FLAGS,
      O0C.EMBED_STATE, O11.TX_STATE, O11.CHK_STATE], events := [0x33, 0x70] }
  | .synthUnlocked synth =>
    { parts := [.clocks, .evu], regs := [State.synthKey synth], fams := [O07.OUT_STATE, O07.SQUELCH_CAUSE, O07.OUT_FLAGS,
      O0C.EMBED_STATE, O11.TX_STATE, fun i => State.portKey i (O0A.OUT_FLAGS 0), fun i => State.portKey i (O0A.OUT_STATE 0)],
      anyEvent := true }
  | .lanePllLockLost _ =>
    { parts := [.evu, .lanes], fams := [O07.OUT_STATE, O07.SQUELCH_CAUSE, O07.OUT_FLAGS, O0C.EMBED_STATE, O11.TX_STATE],
      events := [0x70] }
  | .laneTxRelease lane => { parts := [.lanes], regs := [O11.TX_STATE lane] }
  | .eccRetry addr _ stream _ =>
    { parts := [.evu, .fmem, .chain, .fabric], regs := [O05.STACK_FLAGS (addr / 128 * 128 / stackBytes),
      O05.LAST_ERROR_PIN (chanInst (addr / 128 * 128)), O05.LAST_ERROR_ADDR (chanInst (addr / 128 * 128)),
      O05.CE_COUNT (chanInst (addr / 128 * 128)), O05.PIN_CE (chanInst (addr / 128 * 128)), O05.RETRY_OK (chanInst addr),
      O05.STACK_FLAGS (addr / stackBytes), O05.LAST_ERROR_ADDR (chanInst addr), O05.UE_COUNT (chanInst addr), O05.CLIP_DAMAGED stream,
      O05.CLIP_STATE stream], events := [0x50, 0x56, 0x54, 0x51, 0x59, 0x53, 0x52, 0x5A] }
  | .refreshCollision stack _ _ => { parts := [.evu], regs := [O05.STACK_FLAGS stack, O05.REFRESH_COLLISIONS stack], events := [0x55] }
  | .stackTemperature stack _ =>
    { parts := [.evu], regs := [O05.STACK_TEMP stack, O05.REFRESH_RATE stack, O05.STACK_FLAGS stack], events := [0x57] }
  | .scrubRead _ =>
    { parts := [.evu, .fmem], regs := [O05.SCRUB_PASSES, O05.SCRUB_POSITION], fams := [O05.STACK_FLAGS, O05.LAST_ERROR_PIN,
      O05.LAST_ERROR_ADDR, O05.CE_COUNT, O05.PIN_CE], events := [0x50, 0x56, 0x58] }
  | .scrubWriteBack _ => { parts := [.fmem] }
  | .memtest _ _ =>
    { parts := [.sent, .evu, .sess, .mail, .jobs, .fresh, .fmem, .bytes], regs := [O1C.FILULO_FLAGS, O1B.JOBS_QUEUED, O1B.JOBS_RUNNING],
      fams := [O1B.JOB_ENDED, O1B.JOB_RESULT, O1B.JOB_OWNER, O1B.JOB_PROGRESS, O1B.JOB_STATUS, O1B.JOB_OBJECT, O1C.SESS_QUEUE,
      O1B.JOB_STARTED, O1B.JOB_STATE], events := [0x1C3, 0x1B0] }
  | .clipAlloc clip =>
    { parts := [.fmem, .jrnl], regs := [O05.GENERAL_FREE, O05.CLIP_DAMAGED clip, O05.CLIP_LOADED clip, O05.CLIP_BASE clip,
      O05.CLIP_BYTES clip, O05.CLIP_STATE clip, O01.LAST_REFUSAL], fams := [O05.LARGEST_FREE, O05.FREE_BYTES] }
  | .clipRelease clip =>
    { parts := [.fmem, .jrnl], regs := [O05.GENERAL_FREE, O05.CLIP_DAMAGED clip, O05.CLIP_LOADED clip, O05.CLIP_BASE clip,
      O05.CLIP_BYTES clip, O05.CLIP_STATE clip], fams := [O05.LARGEST_FREE, O05.FREE_BYTES] }
  | .clipLoad _ clip =>
    { parts := [.sent, .evu, .sess, .mail, .jobs, .fmem], regs := [O1C.FILULO_FLAGS, O1B.JOBS_QUEUED, O1B.JOBS_RUNNING,
      O05.CLIP_DAMAGED clip, O05.CLIP_LOADED clip, O05.CLIP_STATE clip], fams := [O1B.JOB_ENDED, O1B.JOB_RESULT, O1B.JOB_OWNER,
      O1B.JOB_PROGRESS, O1B.JOB_STATUS, O1B.JOB_OBJECT, O1C.SESS_QUEUE, O1B.JOB_STARTED, O1B.JOB_STATE], events := [0x1C3, 0x1B0] }
  | .clipSave _ clip =>
    { parts := [.sent, .evu, .sess, .mail, .jobs, .fmem], regs := [O1C.FILULO_FLAGS, O1B.JOBS_QUEUED, O1B.JOBS_RUNNING,
      O05.CLIP_STATE clip], fams := [O1B.JOB_ENDED, O1B.JOB_RESULT, O1B.JOB_OWNER, O1B.JOB_PROGRESS, O1B.JOB_STATUS, O1B.JOB_OBJECT,
      O1C.SESS_QUEUE, O1B.JOB_STARTED, O1B.JOB_STATE], events := [0x1C3, 0x1B0] }
  | .sdiSignalDetect input => { parts := [.inputs], regs := [O06.IN_STATE input] }
  | .sdiSignalLoss input =>
    { parts := [.fabric, .inputs, .evu], regs := [O06.IN_STATE input, O06.IN_FLAGS input, O06.LOCK_LOSSES input], events := [0x61] }
  | .searchDwell _ => { parts := [.inputs] }
  | .cdrLock input => { parts := [.inputs], regs := [O06.IN_STATE input, O06.IN_FAMILY input, O06.IN_RATE input] }
  | .sdiFrameStructure input _ _ _ _ _ _ _ _ _ _ _ =>
    { parts := [.inputs, .fabric, .evu, .amx], regs := [O06.ANC_DROPPED input, O06.IN_PID_STATE input, O06.TRS_ERR input,
      O06.EDH_FF_ERR input, O06.EDH_AP_ERR input, O06.CRC_ERR_LINES input, O06.IN_FLAGS input, O06.IN_SKEW input, O06.IN_LEVEL input,
      O06.IN_STATE input, O06.LOCK_LOSSES input, O06.IN_COLOUR input, O06.IN_FORMAT input, O06.FRAMES_IN input,
      O0C.DEEMB_SRC_ACTIVE (3072 + input)], events := [0x68, 0x65, 0x66, 0x61, 0x69, 0x62, 0x60, 0x63] }
  | .sdiLockLoss input _ =>
    { parts := [.inputs, .fabric, .evu], regs := [O06.IN_STATE input, O06.IN_FLAGS input, O06.LOCK_LOSSES input], events := [0x61] }
  | .payloadId input _ _ _ _ _ _ =>
    { parts := [.inputs, .evu], regs := [O06.IN_PID_STATE input, O06.IN_PAYLOAD_ID input, O06.IN_FLAGS input, O06.IN_COLOUR input,
      O06.IN_FORMAT input], events := [0x64, 0x62] }
  | .ancPacket input _ _ _ _ _ =>
    { parts := [.inputs, .fabric, .evu, .cues], regs := [O06.ANC_DROPPED input, O06.IN_FLAGS input, O06.ANC_CHECKSUM_ERR input],
      fams := [O16.TC_STATE, O16.TC_BITS, O16.TC_SPEED, O16.TC_TICK, O16.TC_USER, O16.TC_VALUE, O16.TC_FLAGS], events := [0x68, 0x67,
      0x160, 0x163] }
  | .erroredSecond => { parts := [.inputs], fams := [O06.IN_FREQ_OFFSET, O06.ERRORED_SECONDS] }
  | .outputFrameStart dest _ =>
    { parts := [.dests, .evu, .conv, .fabric, .chain, .amx, .sent], regs := [O07.FRAMES_SUBST dest, O07.OUT_STATE dest,
      O07.SQUELCH_CAUSE dest, O09.PATH_FLAGS dest, O09.CADENCE_STATE dest, O07.OUT_FLAGS dest, O07.FRAMES_OUT dest,
      O08.SWITCH_COUNT dest, O08.LAST_SWITCH dest, O08.PENDING_SOURCE dest, O08.CURRENT_SOURCE dest, O08.ROUTE_FLAGS dest,
      O08.ROUTE_STATE dest, O07.SYNC_DELAY dest, O08.AUDIO_DELAY_APPLIED dest, O08.SOURCE_SYNC dest, O08.SWITCHES_PENDING,
      O08.PATH_DELAY dest, O07.FRAMES_REPEATED dest, O07.FRAMES_DROPPED dest, O0C.EMBED_STATE (3328 + dest),
      O0C.AUDIO_FRAME (3328 + dest)], fams := [O11.TX_STATE], anyEvent := true }
  | .switchingLine dest =>
    { parts := [.dests, .fabric, .chain, .evu, .amx], regs := [O08.SWITCH_COUNT dest, O08.LAST_SWITCH dest, O08.PENDING_SOURCE dest,
      O08.CURRENT_SOURCE dest, O08.ROUTE_FLAGS dest, O08.ROUTE_STATE dest, O07.OUT_FLAGS dest, O07.SYNC_DELAY dest,
      O07.FRAMES_SUBST dest, O07.OUT_STATE dest, O08.AUDIO_DELAY_APPLIED dest, O08.SOURCE_SYNC dest, O08.SWITCHES_PENDING],
      anyEvent := true }
  | .salvoFire _ _ _ => { parts := [.evu, .fmem, .chain, .jrnl], anyReg := true }
  | .protect dest _ => { parts := [], regs := [O08.PROTECT dest] }
  | .pathPrimed dest =>
    { parts := [.evu], regs := [O09.BUSHELS_IN_SERVICE, O09.POOL_PECKS, O09.PECKS_COMMITTED, O09.PECKS_FREE, O09.PATHS_SHED,
      O09.PATHS_RUNNING, O09.PATH_STATE dest], fams := [O09.BUSHEL_PATHS, O09.PECK_MASK, O09.BUSHEL_STATE], events := [0x9B] }
  | .bushelError bushel _ =>
    { parts := [.evu, .chain, .fabric, .conv], regs := [O09.BUSHEL_ERRORS (2816 + bushel)], fams := [O09.PATH_FLAGS], events := [0x95] }
  | .pathReadmit _ _ => { parts := [.evu, .fmem, .chain, .jrnl], anyReg := true }
  | .cadenceChanged _ _ => { parts := [.conv] }
  | .lutLoad _ slot =>
    { parts := [.sent, .evu, .sess, .mail, .jobs], regs := [O1C.FILULO_FLAGS, O1B.JOBS_QUEUED, O1B.JOBS_RUNNING, O09.LUT_STATE slot],
      fams := [O1B.JOB_ENDED, O1B.JOB_RESULT, O1B.JOB_OWNER, O1B.JOB_PROGRESS, O1B.JOB_STATUS, O1B.JOB_OBJECT, O1C.SESS_QUEUE,
      O1B.JOB_STARTED, O1B.JOB_STATE], events := [0x1C3, 0x1B0] }
  | .aes3PreamblesValid port => { parts := [.audio], regs := [State.portKey port (O0A.IN_STATE 0)] }
  | .audioRateIdentified port _ _ =>
    { parts := [.fresh, .evu, .audio], regs := [State.portKey port (O0A.IN_RATE 0), State.portKey port (O0B.IN_CHANNELS 0),
      State.portKey port (O0A.SRC_ACTIVE 0), State.portKey port (O0A.IN_STATE 0)], fams := [O0A.FOLLOW_OFFSET,
      fun i => State.portKey i (O0A.OUT_STATE 0), fun i => State.portKey i (O0A.PORT_STATE_OUT 0), O03.ACS_STATE, O0A.FOLLOW_STATE],
      events := [0xE16, (portEvent port 160 176), (portEvent port 173 185)] }
  | .audioInputLost port _ =>
    { parts := [.audio, .evu], regs := [State.flagsKey port, State.stateKey port], fams := [O0A.FOLLOW_STATE, O0A.FOLLOW_OFFSET,
      State.portKey port, O0A.GROUP_FAULTS], events := [(portEvent port 162 178), 0xE16, (portEvent port 168 181),
      (portEvent port 161 177)] }
  | .aes3Subframe input _ =>
    { parts := [.evu, .audio], regs := [O0A.IN_FLAGS input, O0A.PREAMBLE_ERR input, State.flagsKey input,
      State.portKey input (O0A.PARITY_ERR 0), State.portKey input (O0A.V_SAMPLES 0), State.indexKey input],
      events := [(portEvent input 164 179), 0xA7] }
  | .csBlock input _ =>
    { parts := [.audio, .evu], regs := [O0A.IN_CS input, O0A.IN_FLAGS input, O0A.CS_CRC_ERR input], events := [0xA5, 0xA6] }
  | .madiFrame input _ _ =>
    { parts := [.evu, .audio], regs := [O0B.IN_FLAGS input, O0B.CODE_ERR input, State.flagsKey (8192 + input),
      State.portKey (8192 + input) (O0A.PARITY_ERR 0), State.portKey (8192 + input) (O0A.V_SAMPLES 0), State.indexKey (8192 + input)],
      events := [0xB4, (portEvent (8192 + input) 164 179), 0xA7] }
  | .srcDecision port _ =>
    { parts := [.evu, .audio], regs := [State.portKey port (O0A.IN_FREQ_OFFSET 0), State.portKey port (O0A.SRC_ACTIVE 0)],
      events := [0xAC] }
  | .portUnderrun port =>
    { parts := [.evu, .audio], regs := [State.stateKey port, State.flagsKey port], fams := [State.portKey port, O0A.GROUP_FAULTS],
      events := [(portEvent port 168 181)] }
  | .portOverrun port =>
    { parts := [.evu, .audio], regs := [State.stateKey port, State.flagsKey port], fams := [State.portKey port, O0A.GROUP_FAULTS],
      events := [(portEvent port 169 182)] }
  | .fadeComplete port => { parts := [.audio, .evu], regs := [State.stateKey port], fams := [O0A.GROUP_STATE], events := [0xE12] }
  | .fifoRecentred port => { parts := [], regs := [State.stateKey port] }
  | .resyncIndex port => { parts := [.evu, .audio], regs := [State.stateKey port], events := [(portEvent port 170 183)] }
  | .followLoopUpdate acs _ =>
    { parts := [.evu, .audio], regs := [O0A.FOLLOW_STATE (768 + acs), O0A.FOLLOW_ERROR (768 + acs), O0A.FOLLOW_OFFSET (768 + acs)],
      fams := [State.stateKey, O0A.GROUP_FAULTS, State.flagsKey], fams2 := [State.portKey], anyEvent := true }
  | .groupStart group _ => { parts := [.evu, .audio], regs := [O0A.GROUP_STATE (512 + group)], events := [0xE10] }
  | .groupStop _ _ => { parts := [.audio] }
  | .groupIndexZero group =>
    { parts := [.audio, .evu], regs := [O0A.GROUP_STATE (512 + group), O0A.GROUP_INDEX (512 + group),
      O0A.GROUP_START_TICK (512 + group)], fams := [State.indexKey, State.stateKey], events := [0xE11, 0xE13] }
  | .audioSwitchRequest chan => { parts := [.amx], regs := [O0C.SWITCH_STATE (chan / 16) (chan % 16)] }
  | .zeroCrossing chan =>
    { parts := [.amx], regs := [O0C.SWITCH_STATE (chan / 16) (chan % 16), O0C.PHASE_TERMS, O0C.TERMS_COMMITTED,
      O0C.DEST_FLAGS (chan / 16) (chan % 16)], fams := [O0C.BLOCK_TERMS], fams2 := [O0C.DEST_TERMS] }
  | .zcTimeout chan =>
    { parts := [.evu, .amx], regs := [O0C.SWITCH_STATE (chan / 16) (chan % 16), O0C.DEST_FLAGS (chan / 16) (chan % 16),
      O0C.ZC_TIMEOUTS (chan / 16) (chan % 16)], events := [0xC0] }
  | .crossfadeComplete chan =>
    { parts := [.amx], regs := [O0C.SWITCH_STATE (chan / 16) (chan % 16), O0C.PHASE_TERMS, O0C.TERMS_COMMITTED,
      O0C.DEST_FLAGS (chan / 16) (chan % 16)], fams := [O0C.BLOCK_TERMS], fams2 := [O0C.DEST_TERMS] }
  | .termGain chan slot _ => { parts := [.jrnl, .amx], regs := [O0C.TERM_GAIN (chan / 16) (chan % 16) slot] }
  | .mute chan _ => { parts := [.jrnl, .amx], regs := [O0C.MUTE (chan / 16) (chan % 16)] }
  | .matrixRate _ => { parts := [.evu, .jrnl], regs := [O0C.MATRIX_RATE], events := [0xCC] }
  | .playStart player _ => { parts := [.amx], regs := [O0C.PLAYER_STATE player] }
  | .playStop _ _ => { parts := [.amx] }
  | .clipEnd player => { parts := [.amx], regs := [O0C.PLAYER_STATE player] }
  | .deembedPacket input _ _ _ _ _ =>
    { parts := [.evu, .amx, .fresh], regs := [O0C.DEEMB_GROUPS (3072 + input), O0C.DEEMB_FLAGS (3072 + input),
      O0C.ECC_CORRECTED (3072 + input), O0C.ECC_FAILED (3072 + input)], events := [0xC4, 0xC3, 0xC2] }
  | .deembedFade input _ => { parts := [.amx], regs := [O0C.DEEMB_FLAGS (3072 + input), O0C.DEEMB_STATE (3072 + input)] }
  | .linkStateChange port _ => { parts := [.evu], regs := [O0F.LINK_STATE port, O0F.PORT_FLAGS port], events := [0xF0, 0xF1] }
  | .frameIngress port _ _ _ =>
    { parts := [.evu, .net], regs := [O0F.FEC_COUNTS port, O0F.MACSEC_DROPS port, O0F.MACSEC_REPLAY port, O0F.FCS_ERR port,
      O0F.PORT_FLAGS port, O0F.PAUSE_RX port, O0F.DROPS port, O0F.FDB_FULL], fams := [O10.SF_FRAMES, O10.SF_FLAGS, O10.SDU_DROPS,
      O10.POL_DROPS, O0F.FRAMES_IO, O10.SH_DROPS, O10.CBS_CREDIT, O10.SH_ELIGIBLE, O10.SH_QUEUED, O10.SH_LEVEL], events := [0xE24, 0xF2,
      0xF4, 0x102, 0x101, 0xF3, 0xF5, 0x100, 0xE25] }
  | .fdbAgeing _ _ => { parts := [.net] }
  | .fdbFlush _ => { parts := [.net] }
  | .trapFrame => { parts := [.net] }
  | .trapSend frame =>
    { parts := [.sent, .evu, .net], regs := [O0F.MACSEC_DROPS (natBE (List.take 2 frame)), O0F.TX_PN (natBE (List.take 2 frame)),
      O0F.PORT_FLAGS (natBE (List.take 2 frame)), O0F.FRAMES_IO (natBE (List.take 2 frame))], events := [0xE22, 0xE23] }
  | .arpReply _ _ _ => { parts := [.net], fams := [O0D.SEND_MACS] }
  | .arpRefresh sender _ => { parts := [.evu, .net], regs := [O0D.SEND_FLAGS sender], fams := [O10.CBS_CREDIT], events := [0xD2] }
  | .igmpQuery _ _ => { parts := [.net], fams := [O10.CBS_CREDIT] }
  | .macsecSa _ _ => { parts := [.evu, .net], regs := [O19.KS_FLAGS], events := [0x193, 0xE20] }
  | .macsecTxAn port _ => { parts := [], regs := [O0F.MACSEC_TX_AN port] }
  | .senderResolved sender => { parts := [.evu, .net], regs := [O0D.SEND_STATE sender], events := [0xD0] }
  | .senderHeld sender => { parts := [.net, .evu], regs := [O0D.SEND_STATE sender, O0D.SEND_FLAGS sender], events := [0xD1] }
  | .rtpPacketRx rx _ _ _ _ _ _ _ _ =>
    { parts := [.evu, .sent, .net, .inputs, .fabric], regs := [O0E.RX_STATE rx, O0E.DROPS rx, O0E.PATH_STATES rx, O0E.WRONG_PT rx,
      O0E.RX_FLAGS rx, O0E.LATE_PACKETS rx, O06.ANC_DROPPED (4096 + rx), O0E.EARLY rx], events := [0xE0, 0xE3, 0xE9, 0xE6, 0xE4, 0x68,
      0xE7] }
  | .pathTimeout rx _ =>
    { parts := [.evu, .inputs, .net, .fabric], regs := [O0E.PATH_STATES rx, O0E.RX_FLAGS rx, O0E.RX_STATE rx,
      O06.ANC_DROPPED (4096 + rx)], events := [0xE2, 0xE0, 0xE4, 0x68, 0xE1] }
  | .lineGroupClosure rx =>
    { parts := [.inputs, .net, .fabric, .evu], regs := [O0E.RX_STATE rx, O0E.RX_FLAGS rx, O06.ANC_DROPPED (4096 + rx)], events := [0xE0,
      0xE4, 0x68] }
  | .shaperEligible _ _ =>
    { parts := [.net, .evu], fams := [O10.CBS_CREDIT, O10.SF_FRAMES, O0F.PORT_FLAGS, O0F.DROPS, O10.SF_FLAGS, O10.SH_DROPS,
      O10.SH_ELIGIBLE, O10.SH_QUEUED, O10.SH_LEVEL, O0D.SEND_FLAGS], events := [0xF5, 0x100] }
  | .pacerReleaseSlot _ _ =>
    { parts := [.net, .evu], fams := [O10.SF_FRAMES, O0F.PORT_FLAGS, O0F.DROPS, O10.SF_FLAGS, O10.SH_DROPS, O10.CBS_CREDIT,
      O10.SH_ELIGIBLE, O10.SH_QUEUED, O10.SH_LEVEL, O0D.SEND_FLAGS], events := [0xF5, 0x100] }
  | .transmissionStart port _ =>
    { parts := [.net, .evu, .sent], regs := [O10.PORT_SH_FLAGS (2048 + port), O10.GATE_OVERSIZE (2048 + port),
      O10.GUARD_HELD (2048 + port), O10.CBS_CREDIT (2048 + port), O10.PACE_LATE_MAX (2048 + port), O10.PACE_LATE (2048 + port),
      O0F.MACSEC_DROPS port, O0F.TX_PN port, O0F.PORT_FLAGS port, O0F.FRAMES_IO port], fams := [O0D.PACKETS_SENT], events := [0x103,
      0x105, 0xE22, 0xE23] }
  | .gateChange port _ => { parts := [.net], regs := [O10.CBS_CREDIT (2048 + port)] }
  | .gateListStart port _ =>
    { parts := [.evu, .net], regs := [O10.CBS_CREDIT (2048 + port), O10.PORT_SH_FLAGS (2048 + port), O10.OPER_BASE (2048 + port),
      O10.OPER_STATE (2048 + port)], events := [0x104] }
  | .rxSignalDetect lane => { parts := [.lanes], regs := [O11.RX_STATE lane] }
  | .rxLocked lane _ _ => { parts := [.evu, .lanes], regs := [O11.RX_STATE lane], events := [0x110] }
  | .adaptationTimeout lane => { parts := [.lanes, .evu], regs := [O11.LANE_FLAGS lane, O11.RX_STATE lane], events := [0x113] }
  | .rxLost lane _ =>
    { parts := [.sent, .evu, .sess, .mail, .jobs, .lanes], regs := [O1B.JOBS_QUEUED, O1B.JOBS_RUNNING, O1C.FILULO_FLAGS,
      O11.LANE_FLAGS lane, O11.RX_LOCK_LOSSES lane, O11.RX_STATE lane], fams := [O1B.JOB_ENDED, O1B.JOB_STATUS, O1B.JOB_RESULT,
      O1B.JOB_PROGRESS, O1C.SESS_QUEUE, O1B.JOB_STARTED, O1B.JOB_STATE], anyEvent := true }
  | .elasticSlotRx lane _ =>
    { parts := [.evu, .lanes], regs := [O11.FILLER_DELETED lane, O11.LANE_FLAGS lane, O11.ELASTIC_SLIPS lane], events := [0x11A] }
  | .elasticSlotRead lane => { parts := [.lanes], regs := [O11.FILLER_INSERTED lane] }
  | .rateOffsetUpdate lane _ => { parts := [.evu, .lanes], regs := [O11.RATE_OFFSET lane, O11.LANE_FLAGS lane], events := [0x119] }
  | .prbsSync lane _ _ _ =>
    { parts := [.evu, .lanes], regs := [O11.LANE_FLAGS lane, O11.SYNC_LOSSES lane, O11.CHK_STATE lane, O11.TOTAL_BITS lane,
      O11.ERR_BITS lane], events := [0x115, 0x117, 0x114] }
  | .windowEnd lane _ _ =>
    { parts := [.lanes, .evu], regs := [O11.WIN_BITS lane, O11.WIN_ERR lane, O11.LANE_FLAGS lane, O11.TOTAL_BITS lane,
      O11.ERR_BITS lane], events := [0x116, 0x117] }
  | .chkRestart _ => { parts := [.lanes] }
  | .eyeScan _ _ =>
    { parts := [.sent, .evu, .sess, .mail, .jobs], regs := [O1C.FILULO_FLAGS, O1B.JOBS_QUEUED, O1B.JOBS_RUNNING],
      fams := [O1B.JOB_ENDED, O1B.JOB_RESULT, O1B.JOB_OWNER, O1B.JOB_PROGRESS, O1B.JOB_STATUS, O1B.JOB_OBJECT, O1C.SESS_QUEUE,
      O1B.JOB_STARTED, O1B.JOB_STATE], events := [0x1C3, 0x1B0] }
  | .eyeScanDone lane _ =>
    { parts := [.evu, .sent, .sess, .mail, .jobs], regs := [O11.EYE_RESULT lane, O1B.JOBS_QUEUED, O1B.JOBS_RUNNING, O1C.FILULO_FLAGS],
      fams := [O1B.JOB_ENDED, O1B.JOB_STATUS, O1B.JOB_RESULT, O1B.JOB_PROGRESS, O1C.SESS_QUEUE, O1B.JOB_STARTED, O1B.JOB_STATE],
      anyEvent := true }
  | .ezavoCellRx lane _ _ =>
    { parts := [.evu, .chain, .fabric, .furlongs], regs := [O12.FURLONG_STATE lane, O12.HEC_CORRECTED lane, O12.HEC_ERRORS lane,
      O12.TRUNK_FLAGS lane, O12.CELLS_IO lane, O12.PCRC_ERRORS lane, O12.RELAY_DROPS lane], events := [0x123, 0x122, 0x124, 0x129] }
  | .seal lane _ =>
    { parts := [.furlongs, .evu, .chain, .fabric], regs := [O12.TRUNK_FLAGS lane, O12.PCRC_ERRORS lane, O12.RELAY_DROPS lane,
      O12.SEAL_FAILURES lane, O12.FURLONG_STATE lane], events := [0x124, 0x129, 0x125] }
  | .beaconReceived lane _ _ =>
    { parts := [.evu, .furlongs, .sent, .sess, .mail, .domain, .fabric, .fmem, .chain, .timing], regs := [O12.FURLONG_STATE lane,
      O12.FURLONG_DELAY lane, O12.TRUNK_FLAGS lane, O1C.FILULO_FLAGS, O1C.TX_LAST, O13.MASTER_DEVICE, O04.STREAMS_ACTIVE,
      O0C.PHASE_TERMS, O0C.TERMS_COMMITTED, O09.BUSHELS_IN_SERVICE, O09.POOL_PECKS, O09.PECKS_COMMITTED, O09.PECKS_FREE, O09.PATHS_SHED,
      O09.PATHS_RUNNING, O13.LAST_EPOCH, O13.DOMAIN_STATE, O13.DOMAIN_FLAGS, O05.GENERAL_FREE, O01.SHADOW_STATE, O13.BEACON_AGE,
      O13.DOMAIN_HOPS, O13.DOMAIN_EPOCH, O13.BACKUP_DEVICE, O13.DOMAIN_SIZE], fams := [O1C.SESS_QUEUE, O12.MEDIA_CELLS, O0C.BLOCK_TERMS,
      O09.BUSHEL_PATHS, O09.PECK_MASK, O09.BUSHEL_STATE, O13.MEMBER_LAST_EPOCH, O12.CELLS_IO, O05.LARGEST_FREE, O05.FREE_BYTES, O02.QL,
      O02.CAND_FLAGS, O02.CAND_STATE, O02.OUTVOTED], fams2 := [O0C.DEST_TERMS], events := [0x12A, 0x126, 0x1C3, 0x134, 0x138, 0x135,
      0x13A, 0x137, 0x132, 0x24] }
  | .furlongMeasured lane _ =>
    { parts := [.evu, .furlongs, .domain], regs := [O12.FURLONG_DELAY lane, O12.PEER_LANE lane, O12.PEER_DEVICE lane,
      O12.FURLONG_STATE lane, O12.MEDIA_HOP lane, O12.BEACON_HOP lane, O12.TRUNK_FLAGS lane], events := [0x120, 0x12B, 0x126] }
  | .furlongDown lane => { parts := [.evu], regs := [O12.TRUNK_FLAGS lane, O12.FURLONG_STATE lane], events := [0x121] }
  | .furlongFaultTimer lane => { parts := [.furlongs], regs := [O12.FURLONG_STATE lane] }
  | .trunkKey _ _ => { parts := [.evu, .furlongs], regs := [O19.KS_FLAGS], events := [0x193, 0x127] }
  | .trunkTxKey lane _ => { parts := [], regs := [O12.TRUNK_TX_KEY lane] }
  | .formWait =>
    { parts := [.evu, .domain], regs := [O13.MASTER_DEVICE, O13.DOMAIN_STATE, O13.MISSED_BEACONS, O13.BEACON_AGE, O13.DOMAIN_HOPS,
      O13.DOMAIN_FLAGS, O13.DOMAIN_SIZE, O13.DOMAIN_LEAD_MIN, O13.BACKUP_DEVICE], fams := [O13.MEMBER_STATE], events := [0x133] }
  | .beaconsMissed =>
    { parts := [.domain, .evu, .sent, .sess, .mail, .furlongs, .fabric, .fmem, .chain, .timing], regs := [O13.MASTER_DEVICE,
      O13.DOMAIN_STATE, O04.STREAMS_ACTIVE, O0C.PHASE_TERMS, O0C.TERMS_COMMITTED, O09.BUSHELS_IN_SERVICE, O09.POOL_PECKS,
      O09.PECKS_COMMITTED, O09.PECKS_FREE, O09.PATHS_SHED, O09.PATHS_RUNNING, O13.LAST_EPOCH, O13.DOMAIN_FLAGS, O1C.FILULO_FLAGS,
      O1C.TX_LAST, O05.GENERAL_FREE, O01.SHADOW_STATE, O13.MISSED_BEACONS, O13.BEACON_AGE, O13.DOMAIN_HOPS, O13.DOMAIN_SIZE,
      O13.DOMAIN_LEAD_MIN, O13.BACKUP_DEVICE], fams := [O12.MEDIA_CELLS, O0C.BLOCK_TERMS, O09.BUSHEL_PATHS, O09.PECK_MASK,
      O09.BUSHEL_STATE, O13.MEMBER_LAST_EPOCH, O1C.SESS_QUEUE, O12.CELLS_IO, O05.LARGEST_FREE, O05.FREE_BYTES, O02.CAND_FLAGS,
      O02.CAND_STATE, O02.OUTVOTED, O13.MEMBER_STATE], fams2 := [O0C.DEST_TERMS], events := [0x134, 0x138, 0x135, 0x1C3, 0x131, 0x23,
      0x133, 0x136] }
  | .masterHandover _ => { parts := [.domain] }
  | .join device _ _ _ _ _ _ =>
    { parts := [.sent, .furlongs, .domain], regs := [O13.MEMBER_HOPS (256 + device), O13.MEMBER_VARIANT (256 + device),
      O13.MEMBER_LAST_EPOCH (256 + device), O13.DOMAIN_SIZE, O13.DOMAIN_LEAD_MIN, O13.BACKUP_DEVICE, O13.DOMAIN_FLAGS],
      fams := [O12.CELLS_IO, O13.MEMBER_STATE] }
  | .welcome _ _ _ _ =>
    { parts := [.sent, .furlongs, .evu, .tick, .domain], regs := [O13.BACKUP_DEVICE, O13.DOMAIN_SIZE, O13.DOMAIN_STATE,
      O13.DOMAIN_FLAGS], fams := [O12.CELLS_IO], events := [0x139, 0x130] }
  | .joinRefused _ _ =>
    { parts := [.sent, .furlongs, .evu, .domain], regs := [O13.DOMAIN_FLAGS, O13.DOMAIN_STATE], fams := [O12.CELLS_IO],
      events := [0x137] }
  | .joinRetry =>
    { parts := [.evu, .domain, .sent, .furlongs], regs := [O13.DOMAIN_FLAGS, O13.DOMAIN_STATE], fams := [O12.CELLS_IO],
      events := [0x137] }
  | .leave _ =>
    { parts := [.sent, .furlongs, .domain], regs := [O13.DOMAIN_SIZE, O13.DOMAIN_LEAD_MIN, O13.BACKUP_DEVICE], fams := [O12.CELLS_IO,
      O13.MEMBER_STATE] }
  | .domainTransaction _ _ _ _ _ _ _ _ =>
    { parts := [.domain, .sent, .furlongs, .evu, .fmem, .chain, .jrnl, .sess, .mail], anyReg := true }
  | .prepare _ _ _ _ _ _ => { parts := [.sent, .furlongs, .evu, .fmem, .chain, .jrnl, .domain, .sess, .mail], anyReg := true }
  | .copy _ _ _ _ _ _ => { parts := [.sent, .furlongs, .domain], fams := [O12.CELLS_IO] }
  | .prepared _ _ => { parts := [.sent, .furlongs, .domain], fams := [O12.CELLS_IO] }
  | .refused _ _ _ _ =>
    { parts := [.sent, .furlongs, .evu, .sess, .mail, .domain], regs := [O01.LAST_REFUSAL, O1C.FILULO_FLAGS, O1C.TX_LAST],
      fams := [O12.CELLS_IO, O1C.SESS_QUEUE], events := [0x1C3] }
  | .abortRecord _ _ _ =>
    { parts := [.sent, .furlongs, .domain, .evu, .sess, .mail, .fabric, .fmem, .chain], regs := [O04.STREAMS_ACTIVE, O0C.PHASE_TERMS,
      O0C.TERMS_COMMITTED, O09.BUSHELS_IN_SERVICE, O09.POOL_PECKS, O09.PECKS_COMMITTED, O09.PECKS_FREE, O09.PATHS_SHED,
      O09.PATHS_RUNNING, O13.LAST_EPOCH, O13.DOMAIN_STATE, O13.DOMAIN_FLAGS, O1C.FILULO_FLAGS, O1C.TX_LAST, O05.GENERAL_FREE,
      O01.SHADOW_STATE], fams := [O12.CELLS_IO, O12.MEDIA_CELLS, O0C.BLOCK_TERMS, O09.BUSHEL_PATHS, O09.PECK_MASK, O09.BUSHEL_STATE,
      O13.MEMBER_LAST_EPOCH, O1C.SESS_QUEUE, O05.LARGEST_FREE, O05.FREE_BYTES], fams2 := [O0C.DEST_TERMS], events := [0x134, 0x138,
      0x135, 0x1C3] }
  | .appliedRecord _ device _ =>
    { parts := [.sent, .furlongs, .evu, .sess, .mail, .domain], regs := [O13.MEMBER_LAST_EPOCH (256 + device), O1C.FILULO_FLAGS,
      O1C.TX_LAST], fams := [O12.CELLS_IO, O1C.SESS_QUEUE], events := [0x1C3] }
  | .notApplied _ _ _ =>
    { parts := [.sent, .furlongs, .evu, .sess, .mail, .domain], regs := [O1C.FILULO_FLAGS, O1C.TX_LAST], fams := [O12.CELLS_IO,
      O1C.SESS_QUEUE], events := [0x1C3] }
  | .participantLost _ device =>
    { parts := [.sent, .evu, .sess, .mail, .domain], regs := [O13.MEMBER_STATE (256 + device), O1C.FILULO_FLAGS, O1C.TX_LAST],
      fams := [O1C.SESS_QUEUE], events := [0x13C, 0x1C3] }
  | .resync _ _ => { parts := [.sent, .evu, .sess, .mail, .jobs, .domain, .furlongs, .fmem, .chain, .jrnl], anyReg := true }
  | .relayPacket _ _ _ _ _ _ _ _ _ => { parts := [.domain, .sent, .evu, .furlongs], fams := [O12.RELAY_DROPS], events := [0x129] }
  | .hashReseed =>
    { parts := [.fresh, .evu, .chain, .domain], regs := [O13.DOMAIN_FLAGS, O13.HASH_RESEEDS, O01.SHADOW_STATE], events := [0x13B] }
  | .cueActionExecute _ =>
    { parts := [.evu, .cues], fams := [O14.ACTIONS, O14.CUE_FLAGS, O14.CE_STATUS, O14.LAST_ERROR, O14.ACTION_ERRORS, O16.GEN_RUN,
      O14.QUEUE_DEPTH], events := [0x141] }
  | .cueActionNone engine _ =>
    { parts := [.evu, .cues], regs := [O14.ACTIONS engine, O14.CUE_FLAGS engine, O14.CE_STATUS engine, O14.LAST_ERROR engine,
      O14.ACTION_ERRORS engine], fams := [O16.GEN_RUN], events := [0x141] }
  | .cueActionFlags engine _ =>
    { parts := [.evu, .cues], regs := [O14.ACTIONS engine, O14.CUE_FLAGS engine, O14.CE_STATUS engine, O14.LAST_ERROR engine,
      O14.ACTION_ERRORS engine], fams := [O16.GEN_RUN], events := [0x141] }
  | .cueActionSalvo _ _ _ => { parts := [.cues, .evu, .fmem, .chain, .jrnl], anyReg := true }
  | .cueActionWrite _ _ =>
    { parts := [.fresh, .phase, .sent, .evu, .tick, .chain, .sess, .mail, .reasm, .jobs, .jrnl, .timing, .clocks, .lanes, .fmem,
      .inputs, .dests, .audio, .amx, .net, .furlongs, .domain, .boot, .keys, .cues, .bytes], anyReg := true }
  | .cueActionFade engine _ =>
    { parts := [.evu, .cues], regs := [O14.ACTIONS engine, O14.CUE_FLAGS engine, O14.CE_STATUS engine, O14.LAST_ERROR engine,
      O14.ACTION_ERRORS engine], fams := [O16.GEN_RUN], events := [0x141] }
  | .cueActionGpio engine _ =>
    { parts := [.evu, .cues], regs := [O14.ACTIONS engine, O14.CUE_FLAGS engine, O14.CE_STATUS engine, O14.LAST_ERROR engine,
      O14.ACTION_ERRORS engine], fams := [O16.GEN_RUN], events := [0x141] }
  | .cueActionTimecode engine _ =>
    { parts := [.evu, .cues], regs := [O14.ACTIONS engine, O14.CUE_FLAGS engine, O14.CE_STATUS engine, O14.LAST_ERROR engine,
      O14.ACTION_ERRORS engine], fams := [O16.GEN_RUN], events := [0x141] }
  | .gpioPulseEnd _ => { parts := [.cues] }
  | .cueFire _ _ => { parts := [.cues] }
  | .ceRearm _ _ => { parts := [.cues] }
  | .cueFlags _ _ => { parts := [.cues] }
  | .sacnPacket _ _ =>
    { parts := [.evu, .cues], regs := [O15.DISC_COUNT], fams := [O15.PKTS_IN, O15.UNIV_FLAGS, O15.PKTS_DISCARDED], events := [0x157,
      0x152, 0x150] }
  | .sacnSourceTimeout lu _ => { parts := [.evu, .cues], regs := [O15.UNIV_FLAGS lu], events := [0x151] }
  | .sacnTransmit lu => { parts := [.cues, .net, .sent], regs := [O15.PKTS_OUT lu] }
  | .discoverySend => { parts := [.cues, .sent, .net] }
  | .discoveryAgeing _ => { parts := [.cues], regs := [O15.DISC_COUNT] }
  | .dmxOutputPacket port => { parts := [.sent, .cues], regs := [O15.DMX_PACKETS (1024 + port)] }
  | .dmxInputPacket port _ _ _ _ _ =>
    { parts := [.evu, .cues], regs := [O15.DMX_ERRORS (1024 + port), O15.DMX_FLAGS (1024 + port), O15.DMX_RX_SLOTS (1024 + port),
      O15.DMX_PACKETS (1024 + port), O15.DMX_STATE (1024 + port)], events := [0x154] }
  | .dmxLoss port => { parts := [.evu, .cues], regs := [O15.DMX_FLAGS (1024 + port), O15.DMX_STATE (1024 + port)], events := [0x155] }
  | .timecodeWord reader _ _ _ _ _ _ =>
    { parts := [.evu, .cues], regs := [O16.TC_BITS reader, O16.TC_SPEED reader, O16.TC_TICK reader, O16.TC_USER reader,
      O16.TC_VALUE reader, O16.TC_STATE reader, O16.TC_FLAGS reader], events := [0x160, 0x163] }
  | .tcFreewheel reader =>
    { parts := [.evu, .cues], regs := [O16.TC_VALUE reader, O16.TC_FLAGS reader, O16.TC_STATE reader], fams := [O14.CE_STATUS],
      events := [0x146, 0x161, 0x162] }
  | .tcNoTransitions reader =>
    { parts := [.evu, .cues], regs := [O16.TC_STATE reader, O16.TC_FLAGS reader], fams := [O14.CE_STATUS], events := [0x146, 0x162] }
  | .generatorWord gen =>
    { parts := [.sent, .evu, .cues], regs := [O16.GEN_STATE (16 + gen), O16.GEN_VALUE (16 + gen)], events := [0x164, 0x165] }
  | .genRun gen _ => { parts := [], regs := [O16.GEN_RUN (16 + gen)] }
  | .gpioEdge pin _ =>
    { parts := [.cues, .evu], regs := [O16.GPIO_EDGES (256 + pin), O16.GPIO_EDGE_TICK (256 + pin), O16.GPIO_LEVEL (256 + pin)],
      events := [0x166] }
  | .gpioSet pin _ => { parts := [.cues], regs := [O16.GPIO_SET (256 + pin)] }
  | .datagramRx _ _ _ _ _ =>
    { parts := [.fresh, .phase, .sent, .evu, .tick, .chain, .sess, .mail, .reasm, .locks, .jobs, .jrnl, .timing, .clocks, .lanes,
      .fabric, .fmem, .inputs, .dests, .audio, .amx, .net, .furlongs, .domain, .boot, .keys, .cues, .bytes], anyReg := true }
  | .reassemblyTimeout _ _ => { parts := [.reasm] }
  | .hello _ _ _ _ =>
    { parts := [.fresh, .sent, .evu, .sess, .mail, .locks, .keys], regs := [O1C.HANDSHAKE_FAILS, O1C.FILULO_FLAGS],
      fams := [O1C.SESS_PEER, O1C.SESS_STATE], events := [0x1C2] }
  | .prove _ _ => { parts := [.sent, .evu, .sess, .mail, .reasm, .locks, .jrnl], anyReg := true }
  | .handshakeTimeout sess =>
    { parts := [.sess, .mail, .reasm], regs := [O1C.SESSIONS_OPEN, O1C.SESS_QUEUE sess, O1C.SESS_SUBS sess, O1C.SESS_TX_OPEN sess,
      O1C.SESS_OPENED sess, O1C.SESS_PEER sess, O1C.SESS_CRED sess, O1C.SESS_ROLE sess, O1C.SESS_STATE sess] }
  | .helloLockoutEnd _ => { parts := [.locks] }
  | .get _ _ _ _ => { parts := [.sent, .sess, .mail, .boot, .keys, .net, .evu] }
  | .set _ _ _ _ =>
    { parts := [.fresh, .phase, .sent, .evu, .tick, .chain, .sess, .mail, .reasm, .jobs, .jrnl, .timing, .clocks, .lanes, .fabric,
      .fmem, .inputs, .dests, .audio, .amx, .net, .furlongs, .domain, .boot, .keys, .cues, .bytes], anyReg := true }
  | .begin sess _ => { parts := [.sent, .sess, .mail, .chain], regs := [O1C.SESS_TX_OPEN sess] }
  | .stage _ _ _ _ => { parts := [.sent, .sess, .mail, .boot, .keys, .chain] }
  | .commit _ _ _ _ _ =>
    { parts := [.fresh, .phase, .sent, .evu, .tick, .chain, .sess, .mail, .reasm, .jobs, .jrnl, .timing, .clocks, .lanes, .fabric,
      .fmem, .inputs, .dests, .audio, .amx, .net, .furlongs, .domain, .boot, .keys, .cues, .bytes], anyReg := true }
  | .abort _ _ _ =>
    { parts := [.evu, .sent, .sess, .mail, .jobs, .domain, .furlongs, .fabric, .fmem, .chain], regs := [O04.STREAMS_ACTIVE,
      O0C.PHASE_TERMS, O0C.TERMS_COMMITTED, O09.BUSHELS_IN_SERVICE, O09.POOL_PECKS, O09.PECKS_COMMITTED, O09.PECKS_FREE, O09.PATHS_SHED,
      O09.PATHS_RUNNING, O1C.FILULO_FLAGS, O1C.TX_LAST, O13.LAST_EPOCH, O13.DOMAIN_STATE, O13.DOMAIN_FLAGS, O05.GENERAL_FREE,
      O01.SHADOW_STATE], fams := [O12.MEDIA_CELLS, O0C.BLOCK_TERMS, O09.BUSHEL_PATHS, O09.PECK_MASK, O09.BUSHEL_STATE,
      O08.SALVO_LAST_STATUS, O08.SALVO_LAST_TICK, O1C.SESS_QUEUE, O14.CE_STATUS, O14.LAST_ERROR, O14.ACTION_ERRORS,
      O13.MEMBER_LAST_EPOCH, O12.CELLS_IO, O05.LARGEST_FREE, O05.FREE_BYTES], fams2 := [O0C.DEST_TERMS], events := [0x82, 0x1C3, 0x141,
      0x134, 0x138, 0x135, 0x136] }
  | .discard sess _ _ =>
    { parts := [.sent, .sess, .mail, .evu, .chain], regs := [O1C.SESS_TX_OPEN sess, O1C.FILULO_FLAGS], events := [0x1C4] }
  | .jobSuspend _ _ job =>
    { parts := [.sent, .evu, .sess, .mail, .jobs], regs := [O1B.JOB_STATUS (job % 65536), O1C.FILULO_FLAGS, O1B.JOBS_QUEUED,
      O1B.JOBS_RUNNING, O1B.JOB_STARTED (job % 65536), O1B.JOB_STATE (job % 65536), O1B.JOB_RESULT (job % 65536),
      O1B.JOB_OWNER (job % 65536), O1B.JOB_ENDED (job % 65536), O1B.JOB_PROGRESS (job % 65536), O1B.JOB_OBJECT (job % 65536)],
      fams := [O1C.SESS_QUEUE], events := [0x1C3, 0x1B2] }
  | .jobResume _ _ job =>
    { parts := [.sent, .evu, .sess, .mail, .jobs], regs := [O1B.JOB_STATUS (job % 65536), O1C.FILULO_FLAGS, O1B.JOBS_QUEUED,
      O1B.JOBS_RUNNING, O1B.JOB_STARTED (job % 65536), O1B.JOB_STATE (job % 65536), O1B.JOB_RESULT (job % 65536),
      O1B.JOB_OWNER (job % 65536), O1B.JOB_ENDED (job % 65536), O1B.JOB_PROGRESS (job % 65536), O1B.JOB_OBJECT (job % 65536)],
      fams := [O1C.SESS_QUEUE], events := [0x1C3, 0x1B2] }
  | .jobCancel _ _ job =>
    { parts := [.sent, .evu, .sess, .mail, .jobs], regs := [O1B.JOB_STATUS (job % 65536), O1C.FILULO_FLAGS, O1B.JOBS_QUEUED,
      O1B.JOBS_RUNNING, O1B.JOB_STARTED (job % 65536), O1B.JOB_STATE (job % 65536), O1B.JOB_RESULT (job % 65536),
      O1B.JOB_OWNER (job % 65536), O1B.JOB_ENDED (job % 65536), O1B.JOB_PROGRESS (job % 65536), O1B.JOB_OBJECT (job % 65536)],
      fams := [O1C.SESS_QUEUE], events := [0x1C3, 0x1B2] }
  | .jobRelease _ _ job =>
    { parts := [.sent, .evu, .sess, .mail, .jobs], regs := [O1B.JOB_STATUS (job % 65536), O1C.FILULO_FLAGS, O1B.JOBS_QUEUED,
      O1B.JOBS_RUNNING, O1B.JOB_STARTED (job % 65536), O1B.JOB_STATE (job % 65536), O1B.JOB_RESULT (job % 65536),
      O1B.JOB_OWNER (job % 65536), O1B.JOB_ENDED (job % 65536), O1B.JOB_PROGRESS (job % 65536), O1B.JOB_OBJECT (job % 65536)],
      fams := [O1C.SESS_QUEUE], events := [0x1C3, 0x1B2] }
  | .subscribe sess _ _ => { parts := [.sent, .mail, .boot, .keys, .sess], regs := [O1C.SESS_SUBS sess] }
  | .unsubscribe sess _ _ => { parts := [.sent, .mail, .sess], regs := [O1C.SESS_SUBS sess] }
  | .bulkPut _ _ _ _ _ _ => { parts := [.sent, .sess, .mail, .boot, .keys, .jobs] }
  | .bulkGet _ _ job _ _ =>
    { parts := [.keys, .jobs, .sent, .evu, .sess, .mail, .fabric, .fmem, .boot], regs := [O1B.JOB_ENDED (job % 65536),
      O1B.JOB_STATUS (job % 65536), O1B.JOB_RESULT (job % 65536), O1B.JOB_PROGRESS (job % 65536), O1B.JOBS_QUEUED, O1B.JOBS_RUNNING,
      O1C.FILULO_FLAGS, O00.DEV_FLAGS, O18.FW_PHASE], fams := [O1C.SESS_QUEUE, O1B.JOB_STARTED, O1B.JOB_STATE, O05.CLIP_LOADED,
      O05.CLIP_STATE, O09.LUT_STATE], anyEvent := true }
  | .notifyAck sess _ _ => { parts := [.sent, .evu, .sess, .mail], regs := [O1C.SESS_QUEUE sess, O1C.FILULO_FLAGS], events := [0x1C3] }
  | .notifyResend sess _ =>
    { parts := [.sent, .evu, .chain, .sess, .mail, .reasm, .jobs, .jrnl, .domain, .boot, .keys], regs := [O1C.SESS_TX_OPEN sess,
      O1C.FILULO_FLAGS, O1C.SESSIONS_OPEN, O1C.SESS_QUEUE sess, O1C.SESS_SUBS sess, O1C.SESS_OPENED sess, O1C.SESS_PEER sess,
      O1C.SESS_CRED sess, O1C.SESS_ROLE sess, O1C.SESS_STATE sess, O19.HANDLES_OPEN], fams := [O19.HANDLE_OWNER, O19.HANDLE_INFO,
      O19.HANDLE_STATE, O1B.JOB_OWNER], events := [0x1C4, 0x1C1] }
  | .keepalive _ _ => { parts := [.sent, .sess, .mail] }
  | .close sess _ _ =>
    { parts := [.sent, .evu, .chain, .sess, .mail, .reasm, .jobs, .jrnl, .domain, .boot, .keys], regs := [O1C.SESS_TX_OPEN sess,
      O1C.FILULO_FLAGS, O1C.SESSIONS_OPEN, O1C.SESS_QUEUE sess, O1C.SESS_SUBS sess, O1C.SESS_OPENED sess, O1C.SESS_PEER sess,
      O1C.SESS_CRED sess, O1C.SESS_ROLE sess, O1C.SESS_STATE sess, O19.HANDLES_OPEN], fams := [O19.HANDLE_OWNER, O19.HANDLE_INFO,
      O19.HANDLE_STATE, O1B.JOB_OWNER], events := [0x1C4, 0x1C1] }
  | .sessionTimeout sess =>
    { parts := [.sent, .evu, .chain, .sess, .mail, .reasm, .jobs, .jrnl, .domain, .boot, .keys], regs := [O1C.SESS_TX_OPEN sess,
      O1C.FILULO_FLAGS, O1C.SESSIONS_OPEN, O1C.SESS_QUEUE sess, O1C.SESS_SUBS sess, O1C.SESS_OPENED sess, O1C.SESS_PEER sess,
      O1C.SESS_CRED sess, O1C.SESS_ROLE sess, O1C.SESS_STATE sess, O19.HANDLES_OPEN], fams := [O19.HANDLE_OWNER, O19.HANDLE_INFO,
      O19.HANDLE_STATE, O1B.JOB_OWNER], events := [0x1C4, 0x1C1] }
  | .sessClose sess =>
    { parts := [.sent, .evu, .chain, .sess, .mail, .reasm, .jobs, .jrnl, .domain, .boot, .keys], regs := [O1C.SESS_TX_OPEN sess,
      O1C.FILULO_FLAGS, O1C.SESSIONS_OPEN, O1C.SESS_QUEUE sess, O1C.SESS_SUBS sess, O1C.SESS_OPENED sess, O1C.SESS_PEER sess,
      O1C.SESS_CRED sess, O1C.SESS_ROLE sess, O1C.SESS_STATE sess, O19.HANDLES_OPEN], fams := [O19.HANDLE_OWNER, O19.HANDLE_INFO,
      O19.HANDLE_STATE, O1B.JOB_OWNER], events := [0x1C4, 0x1C1] }
  | .txIdle _ => { parts := [.evu, .chain], regs := [O1C.FILULO_FLAGS], fams := [O1C.SESS_TX_OPEN], events := [0x1C4] }
  | .mbH2dTail _ _ =>
    { parts := [.fresh, .phase, .sent, .evu, .tick, .chain, .sess, .mail, .reasm, .locks, .jobs, .jrnl, .timing, .clocks, .lanes,
      .fabric, .fmem, .inputs, .dests, .audio, .amx, .net, .furlongs, .domain, .boot, .keys, .cues, .bytes], anyReg := true }
  | .mbD2hHead _ => { parts := [.sent, .mail] }
  | .journalRecordProgrammed =>
    { parts := [.jrnl, .sent, .evu, .sess, .mail, .jobs, .chain, .domain, .furlongs, .boot, .keys], regs := [O1C.JOURNAL_JSEQ,
      O1C.JOURNAL_USED, O1C.FILULO_FLAGS, O1B.JOBS_QUEUED, O1B.JOBS_RUNNING, O01.SHADOW_STATE, O1C.TX_LAST, O13.LAST_EPOCH,
      O13.DOMAIN_STATE, O13.DOMAIN_FLAGS, O1C.SESSIONS_OPEN], fams := [O1B.JOB_ENDED, O1B.JOB_RESULT, O1B.JOB_OWNER, O1B.JOB_PROGRESS,
      O1B.JOB_STATUS, O1B.JOB_OBJECT, O1C.SESS_QUEUE, O1B.JOB_STARTED, O1B.JOB_STATE, O08.SALVO_LAST_STATUS, O08.SALVO_LAST_TICK,
      O14.CE_STATUS, O14.LAST_ERROR, O14.ACTION_ERRORS, O13.MEMBER_LAST_EPOCH, O12.CELLS_IO, O1C.SESS_OPENED, O1C.SESS_CRED,
      O1C.SESS_ROLE, O1C.SESS_STATE], anyEvent := true }
  | .immediateRecord => { parts := [.jrnl] }
  | .journalCompact _ =>
    { parts := [.sent, .evu, .sess, .mail, .jobs, .jrnl], regs := [O1C.FILULO_FLAGS, O1B.JOBS_QUEUED, O1B.JOBS_RUNNING],
      fams := [O1B.JOB_ENDED, O1B.JOB_RESULT, O1B.JOB_OWNER, O1B.JOB_PROGRESS, O1B.JOB_STATUS, O1B.JOB_OBJECT, O1C.SESS_QUEUE,
      O1B.JOB_STARTED, O1B.JOB_STATE], events := [0x1C3, 0x1B0] }
  | .jobComplete job _ _ _ _ =>
    { parts := [.sent, .evu, .sess, .mail, .jobs, .fmem, .fabric, .conv, .fresh, .boot, .keys], regs := [O1B.JOB_ENDED job,
      O1B.JOB_STATUS job, O1B.JOB_RESULT job, O1B.JOB_PROGRESS job, O1B.JOBS_QUEUED, O1B.JOBS_RUNNING, O1C.FILULO_FLAGS, O18.FW_PHASE,
      O19.MIGRATE_STATE, O18.TRIAL_STATE, O18.TRIAL_TRIES, O19.KS_FLAGS, O19.PREVIOUS_ROOT_ID, O00.DEV_FLAGS], fams := [O1C.SESS_QUEUE,
      O1B.JOB_STARTED, O1B.JOB_STATE, O05.STACK_FLAGS, O05.LAST_ERROR_PIN, O05.LAST_ERROR_ADDR, O05.CE_COUNT, O05.PIN_CE,
      O05.CLIP_LOADED, O05.CLIP_STATE, O09.LUT_CRC, O09.LUT_STATE], anyEvent := true }
  | .jobAutoRelease job =>
    { parts := [.jobs], regs := [O1B.JOB_RESULT job, O1B.JOB_OWNER job, O1B.JOB_ENDED job, O1B.JOB_STARTED job, O1B.JOB_PROGRESS job,
      O1B.JOB_STATUS job, O1B.JOB_OBJECT job, O1B.JOB_STATE job] }
  | .deviceReset => { parts := [.evu, .boot], events := [0x3] }
  | .factoryDefault _ => { parts := [.jrnl, .boot] }
  | .configExport _ _ =>
    { parts := [.sent, .evu, .sess, .mail, .jobs], regs := [O1C.FILULO_FLAGS, O1B.JOBS_QUEUED, O1B.JOBS_RUNNING],
      fams := [O1B.JOB_ENDED, O1B.JOB_RESULT, O1B.JOB_OWNER, O1B.JOB_PROGRESS, O1B.JOB_STATUS, O1B.JOB_OBJECT, O1C.SESS_QUEUE,
      O1B.JOB_STARTED, O1B.JOB_STATE], events := [0x1C3, 0x1B0] }
  | .configImport _ _ =>
    { parts := [.sent, .evu, .sess, .mail, .jobs], regs := [O1C.FILULO_FLAGS, O1B.JOBS_QUEUED, O1B.JOBS_RUNNING],
      fams := [O1B.JOB_ENDED, O1B.JOB_RESULT, O1B.JOB_OWNER, O1B.JOB_PROGRESS, O1B.JOB_STATUS, O1B.JOB_OBJECT, O1C.SESS_QUEUE,
      O1B.JOB_STARTED, O1B.JOB_STATE], events := [0x1C3, 0x1B0] }
  | .dieTempSample _ => { parts := [.evu, .hot, .measured], regs := [O00.DIE_TEMP, O00.DIE_TEMP_MAX, O00.DEV_FLAGS], events := [0x2] }
  | .controlBusRequest _ =>
    { parts := [.evu, .bus, .sent, .cues, .fmem, .bytes, .fresh, .ram], regs := [O17.MATRIX_FLAGS, O17.LAST_VIOLATION, O17.VIOLATIONS,
      O17.FROZEN_ENGINES, O17.FROZEN_MASTERS, O17.LAST_DECODE, O17.DECODE_ERRORS], fams := [O17.WAIT_MAX, O17.BEATS, O17.GRANTS,
      O17.PARKED, O17.AGED_GRANTS, O17.TARGET_ERRORS, O17.TRANSACTIONS, O17.ERROR_RESPONSES, O17.QOS_LAST, O17.MASTER_STATE,
      O17.FREEZE_COUNT, O17.DMA_STATE, O14.CE_STATUS, O14.CE_STATE, O14.QUEUE_DEPTH, O05.STACK_FLAGS, O05.LAST_ERROR_PIN,
      O05.LAST_ERROR_ADDR, O05.CE_COUNT, O05.PIN_CE], anyEvent := true }
  | .unfreeze _ =>
    { parts := [.evu], regs := [O17.FROZEN_ENGINES, O17.FROZEN_MASTERS], fams := [O14.CE_STATE, O17.MASTER_STATE, O17.DMA_STATE],
      events := [0x145, 0x17E] }
  | .dmaDescriptor dma _ _ _ _ =>
    { parts := [.sent, .evu, .sess, .mail, .jobs, .fabric, .fmem, .boot, .bus, .bytes], regs := [O17.DMA_ERRORS (768 + dma),
      O1B.JOBS_QUEUED, O1B.JOBS_RUNNING, O1C.FILULO_FLAGS, O00.DEV_FLAGS, O18.FW_PHASE, O17.DMA_BYTES (768 + dma)],
      fams := [O1B.JOB_ENDED, O1B.JOB_STATUS, O1B.JOB_RESULT, O1B.JOB_PROGRESS, O1C.SESS_QUEUE, O1B.JOB_STARTED, O1B.JOB_STATE,
      O05.CLIP_LOADED, O05.CLIP_STATE, O09.LUT_STATE], anyEvent := true }
  | .pcieRequest _ _ _ _ _ _ _ =>
    { parts := [.fresh, .phase, .sent, .evu, .tick, .chain, .sess, .mail, .reasm, .locks, .jobs, .jrnl, .timing, .clocks, .lanes,
      .fabric, .fmem, .inputs, .dests, .audio, .amx, .net, .furlongs, .domain, .boot, .keys, .bus, .cues, .bytes, .ram], anyReg := true
      }
  | .resetRelease _ _ _ _ =>
    { parts := [.boot, .keys, .phase, .fresh, .straps], regs := [O19.TAMPER_LEVELS, O19.HANDLES_OPEN, O18.TRIAL_STATE, O18.TRIAL_TRIES,
      O17.REMAP, O19.KS_FLAGS, O19.TAMPER_CONFIG, O19.GEN_USED], fams := [O19.HANDLE_OWNER, O19.HANDLE_INFO, O19.HANDLE_STATE] }
  | .handover _ _ _ =>
    { parts := [.boot, .jrnl, .evu, .net, .cues, .fmem, .fresh, .keys, .domain, .bus, .mail, .phase], anyReg := true }
  | .firstChain _ _ =>
    { parts := [.phase, .timing, .clocks, .evu, .lanes, .fabric, .inputs, .dests, .audio, .fresh, .amx, .net, .sent, .sess, .mail,
      .jobs, .furlongs, .domain, .cues, .fmem, .chain, .tick, .boot, .jrnl], anyReg := true }
  | .porstNFall =>
    { parts := [.phase, .straps, .sample, .evu, .tick, .chain, .sess, .mail, .reasm, .locks, .jobs, .jrnl, .timing, .clocks, .lanes,
      .fabric, .fmem, .inputs, .dests, .conv, .audio, .amx, .net, .furlongs, .domain, .boot, .keys, .bus, .cues, .hot, .measured,
      .bytes, .ram], anyReg := true }
  | .rcvLength _ =>
    { parts := [.fresh, .boot, .keys], regs := [O17.REMAP, O19.HANDLES_OPEN, O19.KS_FLAGS, O19.TAMPER_CONFIG, O19.GEN_USED],
      fams := [O19.HANDLE_OWNER, O19.HANDLE_INFO, O19.HANDLE_STATE] }
  | .trialConfirmation => { parts := [.evu, .boot], regs := [O18.TRIAL_TRIES, O18.TRIAL_STATE], events := [0x183] }
  | .trialWatchdog => { parts := [.evu, .boot], events := [0x3] }
  | .lcTransition _ => { parts := [.boot] }
  | .fwUpdate _ =>
    { parts := [.sent, .evu, .sess, .mail, .jobs, .boot], regs := [O1C.FILULO_FLAGS, O1B.JOBS_QUEUED, O1B.JOBS_RUNNING, O18.FW_PHASE],
      fams := [O1B.JOB_ENDED, O1B.JOB_RESULT, O1B.JOB_OWNER, O1B.JOB_PROGRESS, O1B.JOB_STATUS, O1B.JOB_OBJECT, O1C.SESS_QUEUE,
      O1B.JOB_STARTED, O1B.JOB_STATE], events := [0x1C3, 0x1B0] }
  | .fwCommit => { parts := [.boot] }
  | .tamperAck => { parts := [.phase, .evu], regs := [O18.STANDBY_TAMPER], events := [0x187] }
  | .tamperAtStartUp _ =>
    { parts := [.keys, .phase, .boot], regs := [O19.TAMPER_LEVELS, O19.HANDLES_OPEN], fams := [O19.HANDLE_OWNER, O19.HANDLE_INFO,
      O19.HANDLE_STATE] }
  | .standbyTamper _ =>
    { parts := [.keys], regs := [O19.TAMPER_LEVELS, O18.STANDBY_TAMPER, O19.HANDLES_OPEN], fams := [O19.HANDLE_OWNER, O19.HANDLE_INFO,
      O19.HANDLE_STATE] }
  | .tamperRunning _ =>
    { parts := [.keys, .sent, .evu, .sess, .mail, .jobs, .fabric, .fmem, .boot, .chain, .reasm, .jrnl, .domain],
      regs := [O19.TAMPER_LEVELS, O1B.JOBS_QUEUED, O1B.JOBS_RUNNING, O1C.FILULO_FLAGS, O00.DEV_FLAGS, O18.FW_PHASE, O19.HANDLES_OPEN,
      O1C.SESSIONS_OPEN, O18.STANDBY_TAMPER, O19.KS_FLAGS, O19.KS_STATE], fams := [O1B.JOB_ENDED, O1B.JOB_STATUS, O1B.JOB_RESULT,
      O1B.JOB_PROGRESS, O1C.SESS_QUEUE, O1B.JOB_STARTED, O1B.JOB_STATE, O05.CLIP_LOADED, O05.CLIP_STATE, O09.LUT_STATE,
      O19.HANDLE_OWNER, O19.HANDLE_INFO, O19.HANDLE_STATE, O1C.SESS_TX_OPEN, O1C.SESS_SUBS, O1C.SESS_OPENED, O1C.SESS_PEER,
      O1C.SESS_CRED, O1C.SESS_ROLE, O1C.SESS_STATE, O1B.JOB_OWNER], anyEvent := true }
  | .otpIntent _ =>
    { parts := [.sent, .evu, .sess, .mail, .boot, .chain, .reasm, .jobs, .jrnl, .domain, .keys], regs := [O1C.FILULO_FLAGS,
      O1C.SESSIONS_OPEN, O19.HANDLES_OPEN], fams := [O1C.SESS_TX_OPEN, O1C.SESS_QUEUE, O1C.SESS_SUBS, O1C.SESS_OPENED, O1C.SESS_PEER,
      O1C.SESS_CRED, O1C.SESS_ROLE, O1C.SESS_STATE, O19.HANDLE_OWNER, O19.HANDLE_INFO, O19.HANDLE_STATE, O1B.JOB_OWNER],
      events := [0x18B, 0x185, 0x189, 0x1C4, 0x1C1] }
  | .openPath _ _ handle _ =>
    { parts := [.fresh, .evu, .sess, .keys], regs := [O19.KS_FLAGS, O19.HANDLES_OPEN, O19.HANDLE_OWNER handle, O19.HANDLE_INFO handle,
      O19.HANDLE_STATE handle], events := [0x193] }
  | .openBlob _ handle _ =>
    { parts := [.fresh, .evu, .sess, .keys], regs := [O19.KS_FLAGS, O19.HANDLES_OPEN, O19.HANDLE_OWNER handle, O19.HANDLE_INFO handle,
      O19.HANDLE_STATE handle], events := [0x193] }
  | .keyClose _ handle =>
    { parts := [.evu, .sess, .keys], regs := [O19.KS_FLAGS, O19.HANDLES_OPEN, O19.HANDLE_OWNER handle, O19.HANDLE_INFO handle,
      O19.HANDLE_STATE handle], events := [0x193] }
  | .generate _ _ _ => { parts := [.fresh, .evu, .sess, .keys], regs := [O19.KS_FLAGS], events := [0x193] }
  | .wrap _ _ _ => { parts := [.fresh, .evu, .sess, .keys], regs := [O19.KS_FLAGS], events := [0x193] }
  | .encrypt _ _ _ => { parts := [.fresh, .evu, .sess, .keys], regs := [O19.KS_FLAGS], events := [0x193] }
  | .decrypt _ _ _ => { parts := [.evu, .sess, .keys], regs := [O19.KS_FLAGS], events := [0x193] }
  | .mac _ _ _ => { parts := [.evu, .sess, .keys], regs := [O19.KS_FLAGS], events := [0x193] }
  | .revoke _ _ _ =>
    { parts := [.evu, .sess, .keys], regs := [O19.KS_FLAGS, O19.GEN_USED], fams := [O19.HANDLE_STATE], events := [0x193, 0x192, 0x19C] }
  | .rewrap _ _ => { parts := [.fresh, .evu, .sess, .keys], regs := [O19.KS_FLAGS], events := [0x193] }
  | .enroll _ _ => { parts := [.fresh, .evu, .sess, .keys], regs := [O19.ENROLLED], events := [0x195] }
  | .attest _ _ => { parts := [.sess] }
  | .keyMigrate _ _ =>
    { parts := [.sent, .evu, .sess, .mail, .jobs], regs := [O1C.FILULO_FLAGS, O1B.JOBS_QUEUED, O1B.JOBS_RUNNING],
      fams := [O1B.JOB_ENDED, O1B.JOB_RESULT, O1B.JOB_OWNER, O1B.JOB_PROGRESS, O1B.JOB_STATUS, O1B.JOB_OBJECT, O1C.SESS_QUEUE,
      O1B.JOB_STARTED, O1B.JOB_STATE], events := [0x1C3, 0x1B0] }
  | .keyRetire => { parts := [.evu, .keys], regs := [O19.MIGRATE_STATE, O19.PREVIOUS_ROOT_ID], events := [0x199] }
  | .tamperConfig _ => { parts := [.evu], regs := [O19.TAMPER_CONFIG], events := [0x19D] }
  | .remask => { parts := [.fresh, .keys], regs := [O19.REMASK_PASSES] }
  | .drbgReseed => { parts := [.keys] }
  | .entropyHealthFailure => { parts := [.evu, .keys], regs := [O19.KS_FLAGS, O19.ENTROPY_STATE], events := [0x19A, 0x19B] }
  | .entropyRetest _ => { parts := [.keys], regs := [O19.ENTROPY_STATE] }
  | .eventRaised event _ _ => { parts := [.evu], events := [event] }
  | .evStatus event _ => { parts := [], regs := [O1A.EV_STATUS event] }
  | .ackAll => { parts := [], fams := [O1A.EV_STATUS] }
  | .routeDefaults => { parts := [.jrnl], fams := [O1A.EV_MASK, O1A.EV_SEVERITY, O1A.EV_ROUTE] }
  | .pwrOkChange _ =>
    { parts := [.fresh, .phase, .boot, .keys], regs := [O18.TRIAL_STATE, O18.TRIAL_TRIES, O17.REMAP, O19.HANDLES_OPEN, O19.KS_FLAGS,
      O19.TAMPER_CONFIG, O19.GEN_USED], fams := [O19.HANDLE_OWNER, O19.HANDLE_INFO, O19.HANDLE_STATE] }
  | .registerWrite _ _ _ _ =>
    { parts := [.fresh, .phase, .sent, .evu, .tick, .chain, .sess, .mail, .reasm, .jobs, .jrnl, .timing, .clocks, .lanes, .fmem,
      .inputs, .dests, .audio, .amx, .net, .furlongs, .domain, .boot, .keys, .cues, .bytes], anyReg := true }
  | .synthRelocked synth =>
    { parts := [.clocks, .evu], regs := [State.synthKey synth], fams := [fun i => State.portKey i (O0A.OUT_STATE 0),
      fun i => State.portKey i (O0A.PORT_STATE_OUT 0)], events := [0x37] }
  | .lineGroupStart _ _ _ => { parts := [.evu, .fabric], fams := [O0C.ANC_DISPLACED], events := [0xC6] }
  | .portSampleDue port => { parts := [.audio, .fresh, .sent], regs := [State.indexKey port] }
  | .mgmtLinkChange iface _ => { parts := [.evu], regs := [O1C.MGMT_LINK (256 + iface)], events := [0x1C9] }
  | .stabSignalDetect => { parts := [.timing, .evu], regs := [O02.STAB_STATE], events := [0x2A] }
  | .ptpMessageSend _ _ _ => { parts := [.sent] }
  | .ptpDelayRx inst _ _ _ _ _ _ => { parts := [.sent], regs := [O02.MEAN_PATH_DELAY (32 + inst)] }
  | .esmcSend _ => { parts := [.sent] }
  | .tcSignalDetect reader => { parts := [.cues], regs := [O16.TC_STATE reader] }
  | .aonSupplyLoss => { parts := [.fresh, .keys], regs := [O18.STANDBY_TAMPER] }

end Sys2Proof.Machine
end

