-- ==== Sys2Proof/Certificates/Slice0/Obligations.lean ====
section
/-! DEFINITION. The statements for the provers: what the commands of the block and the machine do, by the rules of the spec. -/

open Sys2Proof Sys2Proof.Machine

/-- R43, and what its text says of TPER after reset. While the chain runs, a tick boundary makes the next tick as long as the sum of the
tick period and the residue says, and the residue keeps the fraction; before the first chain only the time since start-up counts, and
what waits for frame memory on the control bus goes on. -/
def Obligations.TickGeneratorMeasuresTheNextTick : Prop :=
  State.reset.tick.tper = 0x001F400000000000#64 ∧
  (∀ s : State, s.Up → s.phase = .running → s.Holds O01.CHAIN_STATE 0 → Completes .tickBoundary s fun t =>
    t.tick.len = (s.tick.tper.toNat + s.tick.acc.toNat) % 2 ^ 64 / 2 ^ 40 ∧
    t.tick.acc.toNat = (s.tick.tper.toNat + s.tick.acc.toNat) % 2 ^ 40 ∧
    t.tick.tper = s.tick.tper ∧ t.tick.inTick = true ∧
    (s.tick.jump = none → t.tick.tick = s.tick.tick + 1) ∧ (∀ n, s.tick.jump = some n → t.tick.tick = BitVec.ofNat 64 n)) ∧
  (∀ s : State, s.Up → s.phase ≠ .running → Completes .tickBoundary s fun t =>
    t.tick = { s.tick with clock := s.tick.clock + 1 } ∧
    (s.bus.inside = [] → s.bus.outside = [] → SameOutside [.tick, .evu, .bus] (fun _ => False) s t))

/-- R49, R59: the seam ends the tick in every state; before the first chain it samples every counter (with no message of the mailbox
waiting). A STEP_TIME waits for the seam with the tick that R47 gives the written time. -/
def Obligations.SeamEndsTheTickAndSamplesTheCounters : Prop :=
  (∀ (s : State) (aon : Option Nat) (phase : Int), s.Up → Completes (.seam aon phase) s fun t => t.tick.inTick = false) ∧
  (∀ (s : State) (aon : Option Nat) (phase : Int), s.Up → s.phase = .neloas → s.Holds O01.CHAIN_STATE 3 →
    s.boot.resetAt = none → s.mail.h2dHead = s.mail.h2dTail → Completes (.seam aon phase) s fun t =>
      ∀ k r, rowOf k = some r → k ≠ O01.TICK_NOW → SMap.find? t.sample k = if r.ctr then SMap.find? s.objs k else none) ∧
  (∀ (s : State) (time : Nat), s.Up → s.answers = true → time % 2 ^ 32 ≤ 999999999 → Completes (.stepTime time) s fun t =>
    t.tick.step = some ((time / 2 ^ 32 * 192000 + time % 2 ^ 32 * 24 / 125000) % 2 ^ 64, 4) ∧
    SameOutside [.tick] (fun _ => False) s t)

/-- R48, R82: the edge that PPS_TIME names gives the PPS candidate its time: the next tick's number and that of the time
that was written. -/
def Obligations.PpsEdgeTakesTheWrittenTime : Prop :=
  (∀ (s : State) (c : Nat) (phase : Int), s.Up → ((List.range 16).find? fun i => s.candType i == 8) = some c → s.tick.pps = true →
    Completes (.ppsEdge phase) s fun t => t.tick.pps = false ∧
      (t.cand c).timeDiff =
        ((s.n O01.PPS_TIME / 2 ^ 32 * 192000 + s.n O01.PPS_TIME % 2 ^ 32 * 24 / 125000) % 2 ^ 64 : Nat) - ((s.tick64 : Int) + 1)) ∧
  (∀ (s : State) (phase : Int), s.Up → ((List.range 16).find? fun i => s.candType i == 8) = none → Completes (.ppsEdge phase) s fun t => t = s)

/-- R55, R61, R62, R64: the shadow bank from WRITING to ARMED, its rewrite where the CRC differs, from MIRRORING to FREE with the
content of the active bank in both banks and their copies (R55), and the next queued transaction taken into it. -/
def Obligations.ShadowBankMovesThroughItsStates : Prop :=
  (∀ (s : State) (x : Tx), s.Up → s.Holds O01.SHADOW_STATE 2 → s.chain.cur = some x → Completes (.shadowWriteDone false) s fun t =>
    t.Raised 0x019 ∧ t.Holds O01.SHADOW_STATE 2 ∧ t.chain = s.chain) ∧
  (∀ (s : State) (x : Tx), s.Up → s.Holds O01.SHADOW_STATE 2 → s.chain.cur = some x → x.persistent = false →
    Completes (.shadowWriteDone true) s fun t => t.Holds O01.SHADOW_STATE 3 ∧
      t.chain.cur = some { x with written := true, act := some (x.act.getD s.nextTick) }) ∧
  (∀ (s : State) (x : Tx), s.Up → s.Holds O01.SHADOW_STATE 2 → s.chain.cur = some x → x.persistent = true → x.jseq = none →
    Completes (.shadowWriteDone true) s fun t => t.Holds O01.SHADOW_STATE 2 ∧ t.chain.cur = some { x with written := true }) ∧
  (∀ s : State, s.Up → s.Holds O01.SHADOW_STATE 1 → s.chain.queue = [] → s.needsRemoval = false →
    Completes .mirrorComplete s fun t => t.Holds O01.SHADOW_STATE 0 ∧
      t.chain = { s.chain with shadow := s.chain.active, activeCopy := s.chain.active, shadowCopy := s.chain.active }) ∧
  (∀ (s : State) (x : Tx), s.Up → s.Holds O01.SHADOW_STATE 1 → s.chain.queue = [x] → x.isRemoval = false → s.needsRemoval = false →
    Completes .mirrorComplete s fun t => t.Holds O01.SHADOW_STATE 2 ∧ t.chain.cur = some x ∧ t.chain.queue = [])

/-- R45, R75: the restart with no transaction waiting. The chain runs again at the tick of the always-on counter, with event 0x013, and
with 0x019 where a bank was reloaded. -/
def Obligations.ChainRestartsFromTheAlwaysOnCounter : Prop :=
  ∀ (s : State) (bad : Nat), s.Up → s.Holds O01.CHAIN_STATE 2 → s.pendingTxs = [] → Completes (.chainRestart bad) s fun t =>
    t.Holds O01.CHAIN_STATE 0 ∧ t.Raised 0x013 ∧ t.tick.tick = s.tick.aon ∧ t.chain.reinit = false ∧ t.chain.owing = [] ∧
    (bad % 2 = 1 ∨ bad / 2 % 2 = 1 → t.Raised 0x019)

/-- R96, and the events of R119: a candidate moves between NO-SIGNAL, QUALIFYING, QUALIFIED and DEGRADED with its signal, its timer and its
faults, each fault with its flag and its event; an edge gives its phase (R86), a PTP or BEACON candidate stops only once that is due (R93), and
an AES3 input that is not enabled gives no signal (R296). -/
def Obligations.CandidatesMoveBetweenTheirStates : Prop :=
  (∀ (s : State) (c : Nat) (phase : Int), s.Up → c < 16 → s.Holds (O02.CAND_STATE c) 1 → s.darsOff c = false →
    Completes (.candidateSignal c phase) s fun t => t.Holds (O02.CAND_STATE c) 2 ∧ (t.cand c).timer = s.now ∧
      SameOutside [.timing] (fun k => k = O02.CAND_STATE c ∨ k = O02.OUTVOTED c ∨ k = O02.PHASE_OFFSET c) s t) ∧
  (∀ (s : State) (c n : Nat) (phase : Int), s.Up → c < 16 → s.Holds (O02.CAND_STATE c) n → n ≠ 0 → s.Holds (O02.SOURCE_TYPE c) 3 →
    Completes (.candidateSignal c phase) s fun t => t.Holds (O02.PHASE_OFFSET c) (unsigned 64 phase)) ∧
  (∀ (s : State) (c : Nat), s.Up → c < 16 → s.Holds (O02.CAND_STATE c) 2 → (s.cand c).hardOut = false →
    (s.cand c).timer + s.n (O02.QUAL_TIME c) * 192 ≤ s.now → Completes (.qualificationTimer c) s fun t =>
      t.Holds (O02.CAND_STATE c) (if (s.cand c).softAll ∧ (s.cand c).softOut then 4 else 3) ∧ t.Raised 0x028) ∧
  (∀ (s : State) (c n : Nat), s.Up → c < 16 → s.Holds (O02.CAND_STATE c) n → 2 ≤ n →
    ((s.candType c ≠ 1 ∧ s.candType c ≠ 9) ∨ s.stopDue c = true) → Completes (.candStop c) s fun t =>
    t.Holds (O02.CAND_STATE c) 1 ∧ t.Raised 0x023 ∧ bit (t.n (O02.CAND_FLAGS c)) 0 = true) ∧
  (∀ (s : State) (c n : Nat), s.Up → c < 16 → s.Holds (O02.CAND_STATE c) n → 2 ≤ n → Completes (.candGlitch c) s fun t =>
    t.Holds (O02.CAND_STATE c) 2 ∧ t.Raised 0x024 ∧ bit (t.n (O02.CAND_FLAGS c)) 1 = true ∧ (t.cand c).timer = s.now) ∧
  (∀ (s : State) (c n ty reported : Nat), s.Up → c < 16 → s.Holds (O02.CAND_STATE c) n → 2 ≤ n → s.Holds (O02.SOURCE_TYPE c) ty →
    (ty = 3 ∨ ty = 4 ∨ ty = 6 ∨ ty = 7) → reported ≠ s.n (O02.NOMINAL c) → Completes (.candRate c reported) s fun t =>
    t.Holds (O02.CAND_STATE c) 2 ∧ t.Raised 0x025 ∧ bit (t.n (O02.CAND_FLAGS c)) 2 = true ∧ (t.cand c).timer = s.now) ∧
  (∀ (s : State) (c : Nat), s.Up → c < 16 → (s.Holds (O02.CAND_STATE c) 0 ∨ s.Holds (O02.CAND_STATE c) 1) →
    Completes (.candStop c) s fun t => t = s)

/-- R85, R102, R103, R107, R108: STAB_IN through its states, the end of a pull-in and its going on, the end of the holdover specification,
REALIGN, which moves a synthesizer by its whole phase difference at its next boundary (log entry 14), and the update of the offsets, against the
crystal while STAB_IN is not QUALIFIED (R87). -/
def Obligations.ReferencesLockAndRealign : Prop :=
  (∀ s : State, s.Up → (s.Holds O02.STAB_STATE 0 ∨ s.Holds O02.STAB_STATE 3) → Completes .stabSignalDetect s fun t =>
    t.Holds O02.STAB_STATE 1 ∧ t.Raised 0x02A ∧ t.timing.stabSince = s.now) ∧
  (∀ s : State, s.Up → s.Holds O02.STAB_STATE 1 → s.timing.stabSince + 1920000 ≤ s.now → Completes .stabQualified s fun t =>
    t.Holds O02.STAB_STATE 2 ∧ t.Raised 0x02A) ∧
  (∀ s : State, s.Up → (s.Holds O02.STAB_STATE 1 ∨ s.Holds O02.STAB_STATE 2) → Completes .stabEdgeLoss s fun t =>
    t.Holds O02.STAB_STATE 3 ∧ t.Raised 0x02A) ∧
  (∀ s : State, s.Up → s.Holds O02.SEL_STATE 2 → s.pullLeft.natAbs < 1000 * psUnits → (s.timing.freq - s.refFreq).natAbs < 960 →
    Completes .pullComplete s fun t =>
      t.Holds O02.SEL_STATE 1 ∧ t.Holds O02.PULL_REMAIN (unsigned 64 (s.pullLeft / psUnits)) ∧ t.Holds O02.PULL_ETA 0 ∧ t.Raised 0x029) ∧
  (∀ s : State, s.Up → s.Holds O02.SEL_STATE 2 →
    (1000 * psUnits ≤ s.pullLeft.natAbs ∨ 960 ≤ (s.timing.freq - s.refFreq).natAbs) → Completes .pullComplete s fun t =>
      t.Holds O02.SEL_STATE 2 ∧ t.Holds O02.PULL_REMAIN (unsigned 64 (s.pullLeft / psUnits)) ∧
      SameOutside [] (fun k => k = O02.PULL_REMAIN ∨ k = O02.PULL_ETA) s t) ∧
  (∀ s : State, s.Up → s.Holds O02.SEL_STATE 3 → s.timing.specOut = false →
    s.timing.holdSince + s.n O02.HOLDOVER_SPEC * 192000 ≤ s.now → Completes .holdoverSpec s fun t =>
      t.timing = { s.timing with specOut := true } ∧ t.Raised 0x02B) ∧
  (∀ (s : State) (mask y : Nat) (x : SynthSt), s.Up → s.served = true → SMap.find? s.clocks.synth y = some x → bit mask y = true →
    s.hasTarget y = true → Completes (.realign mask) s fun t => SMap.find? t.clocks.synth y = some { x with realign := true } ∧
      SameOutside [.clocks] (fun _ => False) s t) ∧
  (∀ (s : State) (y : Nat) (x : SynthSt), s.Up → s.phase = .running → s.Holds O01.CHAIN_STATE 0 → y < 16 →
    SMap.find? s.clocks.synth y = some x → x.realign = true →
    (s.synthPeriod y : Int) ≤ x.pos + (units + x.corr) * (s.synthRate y).1 → Completes .tickBoundary s fun t =>
      (t.synth y).realign = false ∧ (t.synth y).phase = 0 ∧
        (t.synth y).pos = x.pos + (units + x.corr) * (s.synthRate y).1 - s.synthPeriod y + x.phase * (s.synthRate y).1) ∧
  (∀ (s : State) (xtal : Int) (m : CandMeas) (n : Nat), s.Up → m.cand < 16 → s.Holds (O02.CAND_STATE m.cand) n → n ≠ 0 →
    Completes (.freqOffsetUpdate xtal [m]) s fun t =>
      t.Holds O02.XTAL_OFFSET (unsigned 32 xtal) ∧ t.Holds (O02.FREQ_OFFSET m.cand) (unsigned 32 (if s.stabOk then m.freq else m.xtal)) ∧
      t.Holds (O02.PHASE_OFFSET m.cand) (unsigned 64 m.phase))

/-- R89, R90, R93, R112 to R114: what PTP and ESMC messages set, and what the device sends. PHASE_OFFSET is the source less the disciplined
phase, OFFSET_FROM_MASTER the reverse (log entry 31); how a message stands in its frame is log entry 33. -/
def Obligations.PtpAndEsmcMessagesSetAndSend : Prop :=
  (∀ (s : State) (i port origin rx : Nat) (log : Int), s.Up → i < 4 → s.ptpOn (0x20 + i) port = true → s.ptpSlave (0x20 + i) = true →
    s.n (O02.PTP_ROLE (0x20 + i)) ≠ 2 →
    Completes (.ptpSync i port origin rx log) s fun t =>
      t.Holds (O02.OFFSET_FROM_MASTER (0x20 + i)) (unsigned 64 ((rx : Int) - origin - s.z 64 (O02.MEAN_PATH_DELAY (0x20 + i))))) ∧
  (∀ (s : State) (i port origin rx c : Nat) (log : Int), s.Up → i < 4 → s.ptpOn (0x20 + i) port = true → s.ptpSlave (0x20 + i) = true →
    s.n (O02.PTP_ROLE (0x20 + i)) ≠ 2 →
    s.candOf 1 i = some c → s.Holds (O02.CAND_STATE c) 1 → (s.cand c).lastSync = none →
    Completes (.ptpSync i port origin rx log) s fun t =>
      t.Holds (O02.PHASE_OFFSET c) (unsigned 64 (-((rx : Int) - origin - s.z 64 (O02.MEAN_PATH_DELAY (0x20 + i))))) ∧
      t.Holds (O02.CAND_STATE c) 2) ∧
  (∀ (s : State) (i port cls acc prio role : Nat) (gm : List Byte) (utc : Option Int) (ports : List (Nat × Nat)), s.Up → i < 4 →
    s.ptpOn (0x20 + i) port = true → (ports.any fun p => (p.2 == 8 || p.2 == 9) && (s.ptpPorts (0x20 + i)).contains p.1) = true →
    s.Holds (O02.PTP_ROLE (0x20 + i)) role → role ≠ 2 →
    (s.ptpSt (0x20 + i)).hasParent = false → Completes (.ptpAnnounce i port gm cls acc prio utc ports) s fun t =>
      t.stored (O02.PARENT_GM (0x20 + i)) = some (.blob (padTo 8 gm)) ∧
      t.Holds (O02.GM_QUALITY (0x20 + i)) (cls % 256 * 256 + acc % 256) ∧ t.Raised 0xE00 ∧
      t.ptpSt (0x20 + i) = ⟨ports.filter fun p => (s.ptpPorts (0x20 + i)).contains p.1 && State.roleOk role p.2, true, utc, prio % 65536, s.now⟩) ∧
  (∀ (s : State) (i port cls acc prio role c n q : Nat) (gm : List Byte) (utc : Option Int) (ports : List (Nat × Nat)), s.Up → i < 4 →
    s.ptpOn (0x20 + i) port = true → (ports.any fun p => (p.2 == 8 || p.2 == 9) && (s.ptpPorts (0x20 + i)).contains p.1) = true →
    s.Holds (O02.PTP_ROLE (0x20 + i)) role → role ≠ 2 →
    s.candOf 1 i = some c → s.Holds (O02.CAND_STATE c) n → n ≠ 0 → s.Holds (O02.QL c) q →
    Completes (.ptpAnnounce i port gm cls acc prio utc ports) s fun t => t.Holds (O02.QL c) (qlOfClass (cls % 256) (acc % 256))) ∧
  (∀ (s : State) (i port : Nat) (ports : List (Nat × Nat)), s.Up → i < 4 → s.ptpOn (0x20 + i) port = true →
    (ports.any fun p => p.2 == 8 || p.2 == 9) = false →
    ((s.ptpSt (0x20 + i)).hasParent = false ∨
      (s.ptpSt (0x20 + i)).lastAnn + 3 * logTicks (signed 8 (s.n (O02.LOG_INTERVALS (0x20 + i)))) ≤ s.now) →
    Completes (.ptpAnnounceTimeout i port ports) s fun t =>
      t.Raised 0xE01 ∧ (t.ptpSt (0x20 + i)).hasParent = false ∧ (t.ptpSt (0x20 + i)).utc = none ∧ t.stored (O02.PARENT_GM (0x20 + i)) = some (.blob [])) ∧
  (∀ (s : State) (i port c n : Nat) (ports : List (Nat × Nat)), s.Up → i < 4 → s.ptpOn (0x20 + i) port = true →
    (ports.any fun p => p.2 == 8 || p.2 == 9) = false →
    ((s.ptpSt (0x20 + i)).hasParent = false ∨
      (s.ptpSt (0x20 + i)).lastAnn + 3 * logTicks (signed 8 (s.n (O02.LOG_INTERVALS (0x20 + i)))) ≤ s.now) → s.candOf 1 i = some c → s.Holds (O02.CAND_STATE c) n → 2 ≤ n →
    Completes (.ptpAnnounceTimeout i port ports) s fun t => t.Holds (O02.CAND_STATE c) 1 ∧ t.Raised 0x023) ∧
  (∀ (s : State) (i port kind : Nat), s.Up → i < 4 → s.ptpOn (0x20 + i) port = true → kind < 2 → s.n (O02.PTP_ROLE (0x20 + i)) ≠ 1 →
    ((s.ptpSt (0x20 + i)).ports.find? fun p => p.1 == port) = some (port, 6) → Completes (.ptpMessageSend i port kind) s fun t =>
      let k := 0x20 + i
      let slave := s.ptpSlave k
      let two := s.n (O02.PROFILE k) == 3 || s.b (O02.TWO_STEP k)
      let type := if s.n (O02.PROFILE k) = 3 then 0x88F7 else 0x0800
      let head (m : Nat) : List Byte := s.ptpTransport k (m = 0) false ++ d8 m ++ d8 (s.n (O02.DOMAIN_NUMBER k))
      let prio := if slave then (s.ptpSt k).prio else s.n (O02.PRIORITIES k)
      let gm := if slave then padTo 8 (s.bs (O02.PARENT_GM k)) else clockIdentity
      let tlv : List Byte := if !slave && s.n (O02.PROFILE k) == 1 && kind == 1 then d16 3 else []
      let body := d16 (if slave then s.n (O02.GM_QUALITY k) else s.ownQuality) ++ d16 prio ++ gm ++ d8 two.toNat ++ d64 s.tick64 ++ tlv
      let up := if kind = 0 ∧ two then [Out.frame port type (head 8 ++ d64 s.tick64)] else []
      t.sent = s.sent ++ [Out.frame port type (head kind ++ body)] ++ up ∧
      SameOutside [.sent] (fun _ => False) s t) ∧
  (∀ (s : State) (i port t1 t2 t3 t4 : Nat), s.Up → i < 4 → s.ptpOn (0x20 + i) port = true →
    s.n (O02.PROFILE (0x20 + i)) ≠ 3 → Completes (.ptpDelayRx i port 1 t1 t2 t3 t4) s fun t =>
      t.Holds (O02.MEAN_PATH_DELAY (0x20 + i)) (unsigned 64 ((((t2 : Int) - t1) + ((t4 : Int) - t3)) / 2)) ∧
      SameOutside [] (· = O02.MEAN_PATH_DELAY (0x20 + i)) s t) ∧
  (∀ (s : State) (port ssm c n q : Nat) (enhanced : Bool), s.Up → s.candOf 2 port = some c → s.Holds (O02.CAND_STATE c) n → n ≠ 0 →
    s.Holds (O02.QL c) q → Completes (.esmcReceived port ssm enhanced) s fun t =>
      t.Holds (O02.QL c) (qlOfSsm ssm enhanced) ∧ (t.cand c).lastMsg = s.now ∧ (t.cand c).esmcOut = false ∧
      SameOutside [.timing] (· = O02.QL c) s t) ∧
  (∀ (s : State) (c n q : Nat), s.Up → c < 16 → s.Holds (O02.SOURCE_TYPE c) 2 → s.Holds (O02.CAND_STATE c) n → n ≠ 0 → s.Holds (O02.QL c) q →
    (s.cand c).esmcOut = false → (s.cand c).lastMsg + 960000 ≤ s.now → Completes (.esmcTimeout c) s fun t =>
      t.Holds (O02.QL c) 0 ∧ t.Raised 0xE03) ∧
  (∀ (s : State) (port : Nat), s.UpAt 0x0F port → s.Holds (O0F.ESMC_TX port) 1 → Completes (.esmcSend port) s fun t =>
    t.sent = s.sent ++ [.frame port 0x8809 (d8 (s.ssmSent port))] ∧ SameOutside [.sent] (fun _ => False) s t)

/-- R124, R126, R137: the core PLLs of the security and the always-on domain lose lock, regain it, lose it again during the confirmation,
and return after 1,984 ticks. -/
def Obligations.CorePllsLoseAndRegainLock : Prop :=
  (∀ (s : State) (pll a : Nat) (l : List Nat), s.Up → pll = 2 ∨ pll = 3 → s.Holds (O03.PLL_STATE pll) 0 →
    s.Holds (O03.UNLOCK_COUNT pll) a → a + 1 < 2 ^ bitsOf (O03.UNLOCK_COUNT pll) → Completes (.pllLockLost pll l) s fun t =>
      t.Holds (O03.PLL_STATE pll) 1 ∧ t.Holds (O03.UNLOCK_COUNT pll) (a + 1) ∧ t.Holds (O03.LAST_UNLOCK pll) s.tick64 ∧ t.Raised 0x030 ∧
      bit (t.n (O03.PLL_FLAGS pll)) 0 = true) ∧
  (∀ (s : State) (pll : Nat) (l : List Nat), s.Up → pll < 4 → s.Holds (O03.PLL_STATE pll) 2 → Completes (.pllLockLost pll l) s fun t =>
    t.Holds (O03.PLL_STATE pll) 1 ∧ t.Holds (O03.LAST_UNLOCK pll) s.tick64 ∧ t.Raised 0x032 ∧ t.n (O03.PLL_FLAGS pll) % 4 = 3) ∧
  (∀ (s : State) (l : List Nat), s.Up → s.Holds (O03.PLL_STATE 0) 0 → s.Holds O01.CHAIN_STATE 1 → Completes (.pllLockLost 0 l) s fun t =>
    t.Holds (O03.PLL_STATE 0) 1 ∧ t.Raised 0x030 ∧ t.clocks.fabBypass = true) ∧
  (∀ (s : State) (pll : Nat), s.Up → pll < 4 → (s.Holds (O03.PLL_STATE pll) 1 ∨ s.Holds (O03.PLL_STATE pll) 3) →
    Completes (.pllLockRegained pll) s fun t =>
      t.Holds (O03.PLL_STATE pll) 2 ∧ t.clocks.core.find? pll = some ⟨some s.now, 0⟩ ∧
      SameOutside [.clocks] (· = O03.PLL_STATE pll) s t) ∧
  (∀ (s : State) (pll since : Nat), s.Up → pll = 2 ∨ pll = 3 → s.Holds (O03.PLL_STATE pll) 2 →
    SMap.find? s.clocks.core pll = some ⟨some since, 0⟩ → since + 1984 ≤ s.now → Completes (.pllRelocked pll) s fun t =>
      t.Holds (O03.PLL_STATE pll) 0 ∧ t.Raised 0x031) ∧
  (∀ (s : State) (since : Nat), s.Up → s.Holds (O03.PLL_STATE 0) 2 → s.Holds O01.CHAIN_STATE 1 →
    SMap.find? s.clocks.core 0 = some ⟨some since, 0⟩ → since + 1984 ≤ s.now → Completes (.pllRelocked 0) s fun t =>
      t.Holds (O03.PLL_STATE 0) 0 ∧ t.Raised 0x031 ∧ t.Holds O01.CHAIN_STATE 2 ∧ t.clocks.fabBypass = false)

/-- R132 to R134: lane references, synthesizers and lane PLLs lose lock and confirm it: a reference after 192 ticks in its window, a synthesizer
after 1,984 ticks (R126), a lane PLL after 4,096 cycles and 1 ms. -/
def Obligations.LaneClocksLoseAndConfirmLock : Prop :=
  (∀ (s : State) (r n : Nat) (offset : Int), s.Up → r < 12 → s.Holds (O03.LREF_STATE (0x10 + r)) n → n ≠ 1 → offset.natAbs ≤ 20000 →
    (s.clocks.lref.getD r ⟨none, 0⟩).badSince + 192 ≤ s.now → Completes (.lrefPresent r offset) s fun t =>
      t.Holds (O03.LREF_STATE (0x10 + r)) 1 ∧ t.Holds (O03.LREF_OFFSET (0x10 + r)) (unsigned 32 offset) ∧ t.Raised 0x034) ∧
  (∀ (s : State) (r n : Nat) (offset : Int), s.Up → r < 12 → s.Holds (O03.LREF_STATE (0x10 + r)) n → 20000 < offset.natAbs →
    Completes (.lrefPresent r offset) s fun t => t.Holds (O03.LREF_STATE (0x10 + r)) n ∧
      t.Holds (O03.LREF_OFFSET (0x10 + r)) (unsigned 32 offset) ∧ (t.clocks.lref.getD r ⟨none, 0⟩).badSince = s.now) ∧
  (∀ (s : State) (r : Nat), s.Up → r < 12 → s.Holds (O03.LREF_STATE (0x10 + r)) 1 → Completes (.lrefLost r) s fun t =>
    t.Holds (O03.LREF_STATE (0x10 + r)) 2 ∧ t.Raised 0x033) ∧
  (∀ (s : State) (y n : Nat), s.Up → y < 24 → s.Holds (State.synthKey y) n → n ≠ 1 → s.following y = false →
    Completes (.synthUnlocked y) s fun t => t.Holds (State.synthKey y) 1 ∧ t.Raised 0x035) ∧
  (∀ (s : State) (y n : Nat), s.Up → y < 24 → s.Holds (State.synthKey y) n → n ≠ 0 → s.following y = false →
    (s.clocks.lock.getD y ⟨none, 0⟩).since = none → Completes (.synthRelocked y) s fun t =>
      t.Holds (State.synthKey y) 2 ∧ (t.clocks.lock.getD y ⟨none, 0⟩).since = some s.now ∧ SameOutside [.clocks] (· = State.synthKey y) s t) ∧
  (∀ (s : State) (y n at_ : Nat), s.Up → y < 24 → s.Holds (State.synthKey y) n → n ≠ 0 → s.following y = false →
    (s.clocks.lock.getD y ⟨none, 0⟩).since = some at_ → at_ + 1984 ≤ s.now → Completes (.synthRelocked y) s fun t =>
      t.Holds (State.synthKey y) 0 ∧ t.Raised 0x037) ∧
  (∀ (s : State) (lane m : Nat), s.UpAt 0x11 lane → s.Holds (O11.LANE_MODE lane) m → m ≠ 0 → m ≠ 1 →
    Completes (.lanePllLockLost lane) s fun t => (t.lane lane).released = false ∧ (t.lane lane).lostAt = s.now ∧ t.Holds (O11.TX_STATE lane) 1) ∧
  (∀ (s : State) (lane m : Nat), s.UpAt 0x11 lane → s.Holds (O11.LANE_MODE lane) m → m ≠ 0 → m ≠ 1 →
    s.laneRef lane = true → (s.lane lane).lostAt + 198 ≤ s.now → Completes (.laneTxRelease lane) s fun t => (t.lane lane).released = true ∧ t.Holds (O11.TX_STATE lane) 2)

/-- The cells that an entry of the chain owes in its link (R54): all of them, or with DEM 1 no more than the source holds ready, and of
video no more than its destination has requested. A MEMWR writes its cell, and a MEMRD issues the cell it reads with its sideband. -/
def Obligations.EntriesMoveTheirCells : Prop :=
  (∀ (s : State) (link word : Nat), s.Up → Completes (.nop link word) s fun t => t = s) ∧
  (∀ (s : State) (link word held a b : Nat) (cells : List (List Byte)) (d : Desc), s.Up → s.inChain link word = true → entOp word = 1 →
    s.chain.stalls = [] → s.chain.owing = [] → s.desc? (entStream word) = some d → s.Holds (O04.CELLS_OUT (entSrc word)) a →
    s.Holds (O04.CELLS_IN (entDst word)) b → a + entCells word < 2 ^ bitsOf (O04.CELLS_OUT (entSrc word)) →
    b + entCells word < 2 ^ bitsOf (O04.CELLS_IN (entDst word)) →
    Completes (.move link word held cells) s fun t =>
      let ready := if portClient s.member (entSrc word) = 5 then (s.trunkHeld (entStream word)).length else held
      let asked := if d.frameGroups = 0 then ready else min ready d.wanted
      let k := if entDem word then min (entCells word) asked else entCells word
      t.chain.owing = [] ∧ (0 < k → t.Holds (O04.CELLS_OUT (entSrc word)) (a + k) ∧ t.Holds (O04.CELLS_IN (entDst word)) (b + k))) ∧
  (∀ (s : State) (link word : Nat) (cell : List Byte) (d : Desc), s.Up → s.inChain link word = true → entOp word = 1 →
    entCells word = 1 → entDem word = false → s.chain.stalls = [] → s.chain.owing = [] → s.desc? (entStream word) = some d →
    d.kind ≠ 2 → portClient s.member (entSrc word) ≠ 5 → portClient s.member (entDst word) < 4 → cell.length = 128 →
    Completes (.move link word 1 [cell]) s fun t =>
      t.sent = s.sent ++ [.media 4 (entDst word) (d.sideband (entStream word) cell :: cell.map (·.toNat))] ∧
      t.desc? (entStream word) = some d.advance) ∧
  (∀ (s : State) (link word : Nat) (cell : List Byte) (d : Desc), s.Up → s.inChain link word = true → entOp word = 2 →
    entCells word = 1 → entSrc word ≠ 63 → portClient s.member (entSrc word) ≠ 5 → s.chain.stalls = [] → s.chain.owing = [] →
    cell.length = 128 → s.desc? (entStream word) = some d → s.clocks.hbmBypass = false → State.ringOf d = none → s.ringQueue d = none →
    (portClient s.member (entSrc word) ≠ 2 ∨ (SMap.find? s.inputs (d.dest - 0x1000)).any (·.writing) = true) →
    Completes (.memwr link word [cell]) s fun t =>
      let a := s.cellAddr d (s.slotOf word)
      t.fmRead a 128 = cell ∧ (∀ x, x < a ∨ a + 128 ≤ x → t.fmByte x = s.fmByte x) ∧ t.desc? (entStream word) = some d.advance ∧
      t.chain.owing = []) ∧
  (∀ (s : State) (link word : Nat) (d : Desc), s.Up → s.inChain link word = true → entOp word = 3 → entCells word = 1 →
    entDst word ≠ 63 → (entDem word = true → 0 < d.wanted) → s.chain.stalls = [] → s.chain.owing = [] →
    s.desc? (entStream word) = some d → s.clocks.hbmBypass = false → s.fmem.bad = [] → portClient s.member (entDst word) ≠ 5 →
    Completes (.memrd link word []) s fun t =>
      let cell := s.fmRead (s.cellAddr d (s.slotOf word)) 128
      t.sent = s.sent ++ [.media 4 (entDst word) (d.sideband (entStream word) cell :: cell.map (·.toNat))] ∧
      (∀ x, t.fmByte x = s.fmByte x) ∧ t.desc? (entStream word) = some d.advance) ∧
  (∀ (s : State) (link word fallback : Nat) (d : Desc), s.Up → s.inChain link word = true → entOp word = 4 →
    s.chain.stalls = [] → s.chain.owing = [] → s.desc? (entStream word) = some d → s.present 0x09 (tagPath d.dest) = true →
    Completes (.bushel link word fallback) s fun t =>
      t.Holds (O09.MC_FALLBACK_PCT (tagPath d.dest)) (min fallback 100) ∧ t.chain.owing = [])

/-- R57, R72: a sender that starts line group `group` requests group `group` + 2 of its frame; where the group is read again from the
previous frame and has not arrived, it repeats its last line and the read goes on with the next group. -/
def Obligations.LineGroupStartRequestsTheGroupAfterNext : Prop :=
  (∀ (s : State) (stream group displaced : Nat) (d : Desc), s.Up → s.desc? stream = some d → d.kind = 0 → group < d.frameGroups →
    d.redo = 0 ∨ d.curGroup ≠ group →
    Completes (.lineGroupStart stream group displaced) s fun t =>
      t.desc? stream = some { d with reqGroup := (if group + 2 < d.frameGroups then group + 2 else d.reqGroup), repeating := false } ∧
      (∀ j, j ≠ stream → t.desc? j = s.desc? j)) ∧
  (∀ (s : State) (stream group displaced : Nat) (d : Desc), s.Up → s.desc? stream = some d → d.kind = 0 → group < d.frameGroups →
    0 < d.redo → d.curGroup = group →
    Completes (.lineGroupStart stream group displaced) s fun t =>
      t.desc? stream =
        some { d with reqGroup := (if group + 2 < d.frameGroups then group + 2 else d.reqGroup), repeating := true }.nextGroup ∧
      (∀ j, j ≠ stream → t.desc? j = s.desc? j))

/-- R151, R154, R156: a held source port is noted for its entry; pending cells issue in the cycles free on both of their ports, with event
0x040 to report them; a cell that is damaged or that no entry brings is discarded, and its stream's work is missing; so is that of a stream
whose descriptor is damaged. -/
def Obligations.StallsCatchUpAndDamagedCells : Prop :=
  (∀ (s : State) (link word cells cycles cause : Nat), s.Up → s.inChain link word = true →
    Completes (.sourceStall link word cells cycles cause) s fun t =>
      t.chain.stalls = s.chain.stalls ++ [⟨word, link, cells, if cause = 0 then 1 else 2, []⟩] ∧ (78 < cycles → t.Raised 0x044) ∧
      (cycles ≤ 78 → SameOutside [.chain] (fun _ => False) s t)) ∧
  (∀ (s : State) (port dst cells : Nat) (o : Owing), s.Up → s.running = true → s.tick.inTick = true → port < 64 → s.chain.owing = [o] →
    entSrc o.word = port → entDst o.word = dst → entOp o.word ≠ 6 → o.cells ≤ cells → o.cells ≤ s.catchUpRoom port dst → 0 < o.cells →
    SMap.find? s.evu.last (0x40 * 0x10000 + port) = none → s.desc? (entStream o.word) = none →
    Completes (.catchUp port dst cells) s fun t => t.chain.owing = [] ∧ t.Raised 0x040) ∧
  (∀ (s : State) (port stream par a link word : Nat) (valid : Bool) (payload : List Byte) (d : Desc), s.Up → port < 64 → stream ≠ 0 →
    s.desc? stream = some d → par ≠ cellPar payload → (s.chain.active.filter fun e => entStream e.2 == stream) = [(link, word)] →
    entOp word = 1 → s.chain.substituted.contains stream = false → s.leaving.contains stream = false →
    s.Holds (O04.ERROR_CELLS port) a → a + 1 < 2 ^ bitsOf (O04.ERROR_CELLS port) →
    Completes (.cellArrival port stream par valid payload) s fun t =>
      t.Holds (O04.ERROR_CELLS port) (a + 1) ∧ t.Raised 0x046 ∧ t.desc? stream = some (d.missing (d.unitsOf 0))) ∧
  (∀ (s : State) (port stream par a : Nat) (valid : Bool) (payload : List Byte) (d : Desc), s.Up → port < 64 →
    s.desc? stream = some d → (s.chain.active.filter fun e => entStream e.2 == stream) = [] →
    s.chain.substituted.contains stream = false → s.leaving.contains stream = false →
    s.Holds (O04.ERROR_CELLS port) a → a + 1 < 2 ^ bitsOf (O04.ERROR_CELLS port) →
    Completes (.cellArrival port stream par valid payload) s fun t =>
      t.Holds (O04.ERROR_CELLS port) (a + 1) ∧ t.Raised 0x046 ∧ t.desc? stream = some (d.missing 1)) ∧
  (∀ (s : State) (port stream a : Nat) (payload : List Byte), s.Up → port < 64 →
    (s.chain.active.any fun e => entDst e.2 == port && entStream e.2 == stream) = true → s.Holds (O04.INVALID_CELLS port) a →
    a + 1 < 2 ^ bitsOf (O04.INVALID_CELLS port) → s.fabric.invalid.contains port = false →
    Completes (.cellArrival port stream (cellPar payload) false payload) s fun t =>
      t.Holds (O04.INVALID_CELLS port) (a + 1) ∧ t.Raised 0x042) ∧
  (∀ (s : State) (port stream : Nat) (payload : List Byte), s.Up → port < 64 →
    (s.chain.active.any fun e => entDst e.2 == port && entStream e.2 == stream) = true →
    Completes (.cellArrival port stream (cellPar payload) true payload) s fun t =>
      t.fabric.invalid.contains port = false ∧ SameOutside [.fabric] (fun _ => False) s t) ∧
  (∀ (s : State) (stream word : Nat) (d : Desc), s.Up → stream ≠ 0 → s.desc? stream = some d → s.leaving.contains stream = false →
    Completes (.descriptorParity stream word) s fun t =>
    t.Raised 0x045 ∧ stream ∈ t.fabric.repair ∧ stream ∈ t.chain.substituted)

/-- R169, R170, R178, R179, R180: a cell is read again after an error, refresh falls on an access, the refresh rate follows the stack's
temperature, and the scrub advances. One symbol in error is corrected, and two are detected. Only the write-back of a corrected cell could
touch the bytes of frame memory, and it leaves them. -/
def Obligations.FrameMemoryAnswersErrorsAndHeat : Prop :=
  (∀ (s : State) (addr reader stream a : Nat) (ecc : List (Nat × Nat)), s.Up → addr < s.fmSize → s.fmem.bad = [] →
    .bad ∉ cellSyndromes (addr / 128 * 128) ecc → s.Holds (O05.RETRY_OK (chanInst addr)) a →
    a + 1 < 2 ^ bitsOf (O05.RETRY_OK (chanInst addr)) →
    Completes (.eccRetry addr reader stream ecc) s fun t => t.Holds (O05.RETRY_OK (chanInst addr)) (a + 1) ∧ t.fmem.bad = []) ∧
  (∀ (s : State) (addr reader stream a w y : Nat), s.Up → addr < s.fmSize → s.fmem.bad = [] → w < 8 → y < 36 →
    s.Holds (O05.CE_COUNT (chanInst (addr / 128 * 128))) a → a + 1 < 2 ^ bitsOf (O05.CE_COUNT (chanInst (addr / 128 * 128))) →
    Completes (.eccRetry addr reader stream [(w, y)]) s fun t =>
      t.Holds (O05.CE_COUNT (chanInst (addr / 128 * 128))) (a + 1) ∧
      t.Holds (O05.LAST_ERROR_PIN (chanInst (addr / 128 * 128))) (symbolPin w y)) ∧
  (∀ (s : State) (addr stream reader a w y z : Nat) (ecc : List (Nat × Nat)), s.Up → addr < s.fmSize → w < 8 → y < 36 → z < 36 → y ≠ z →
    (ecc.filter fun e => e.1 == w && decide (e.2 < 36)) = [(w, y), (w, z)] → s.Holds (O05.UE_COUNT (chanInst addr)) a →
    a + 1 < 2 ^ bitsOf (O05.UE_COUNT (chanInst addr)) →
    Completes (.eccRetry addr reader stream ecc) s fun t =>
      t.Holds (O05.UE_COUNT (chanInst addr)) (a + 1) ∧ t.Holds (O05.LAST_ERROR_ADDR (chanInst addr)) (addr / 128 * 128) ∧
      t.Raised (match reader with | 0 => 0x051 | 1 => 0x051 | 2 => 0x053 | 3 => 0x053 | 4 => 0x052 | 5 => 0x051 | _ => 0x05A) ∧
      (reader ≠ 4 → addr / 128 * 128 + 16 * w ∈ t.fmem.bad)) ∧
  (∀ (s : State) (stack channel stream a : Nat), s.Up → stack < stackCount s.member → s.Holds (O05.REFRESH_COLLISIONS stack) a →
    a + 1 < 2 ^ bitsOf (O05.REFRESH_COLLISIONS stack) → SMap.find? s.evu.last (0x55 * 0x10000 + stack) = none →
    Completes (.refreshCollision stack channel stream) s fun t =>
      t.Holds (O05.REFRESH_COLLISIONS stack) (a + 1) ∧ t.Raised 0x055 ∧ bit (t.n (O05.STACK_FLAGS stack)) 2 = true) ∧
  (∀ (s : State) (stack : Nat) (temp : Int), s.Up → stack < stackCount s.member → s.Holds (O05.REFRESH_RATE stack) 0 → 85 ≤ temp →
    Completes (.stackTemperature stack temp) s fun t =>
      t.Holds (O05.STACK_TEMP stack) (unsigned 16 temp) ∧ t.Holds (O05.REFRESH_RATE stack) (if 95 ≤ temp then 2 else 1) ∧ t.Raised 0x057) ∧
  (∀ (s : State) (stack : Nat) (temp : Int), s.Up → stack < stackCount s.member → s.Holds (O05.REFRESH_RATE stack) 2 → temp ≤ 82 →
    Completes (.stackTemperature stack temp) s fun t => t.Holds (O05.REFRESH_RATE stack) 0 ∧ t.Raised 0x057) ∧
  (∀ (s : State) (p : Nat), s.Up → s.b O05.SCRUB_ENABLE = true → s.clocks.hbmBypass = false → s.Holds O05.SCRUB_POSITION p →
    p + 1 < 18874368 → Completes (.scrubRead []) s fun t => t.Holds O05.SCRUB_POSITION (p + 1)) ∧
  (∀ (s : State) (p : Nat), s.Up → s.b O05.SCRUB_ENABLE = true → s.clocks.hbmBypass = false → s.Holds O05.SCRUB_POSITION p →
    18874368 ≤ p + 1 → Completes (.scrubRead []) s fun t => t.Holds O05.SCRUB_POSITION 0 ∧ t.Raised 0x058 ∧ t.fmem.pinsSeen = []) ∧
  (∀ (s : State) (addr : Nat), s.Up → Completes (.scrubWriteBack addr) s fun t =>
    addr / 128 * 128 ∉ t.fmem.writeBack ∧ (∀ x, t.fmByte x = s.fmByte x) ∧ SameOutside [.fmem] (fun _ => False) s t)

/-- R182, R184, R185, R187: a clip takes an extent and becomes ALLOCATED, at the next seam where a MEMTEST holds the extent, and gives it
back when it is released; a clip in a job is left. -/
def Obligations.ClipsTakeAndFreeTheirExtents : Prop :=
  (∀ (s u : State) (clip : Nat), s.UpAt 0x05 clip → 0x100 ≤ clip → s.accepts = true → s.Holds (O05.CLIP_STATE clip) 0 →
    s.fmem.placing.contains clip = false →
    clipFormatOk (s.n (O05.CLIP_KIND clip)) (s.n (O05.CLIP_FORMAT clip)) = true → s.n (O05.CLIP_UNITS clip) ≠ 0 →
    s.placeClip clip = some u → Completes (.clipAlloc clip) s fun t =>
      t.Holds (O05.CLIP_LOADED clip) 0 ∧
      t.Holds (O05.CLIP_BYTES clip) (s.n (O05.CLIP_UNITS clip) * clipUnitBytes (s.n (O05.CLIP_KIND clip)) (s.n (O05.CLIP_FORMAT clip))) ∧
      (t.n (O05.CLIP_BASE clip), s.n (O05.CLIP_UNITS clip) * clipUnitBytes (s.n (O05.CLIP_KIND clip)) (s.n (O05.CLIP_FORMAT clip)),
        0x5000 + clip) ∈ t.fmem.extents ∧
      (s.fmem.testing = [] → t.Holds (O05.CLIP_STATE clip) 1) ∧
      (u.underTest (u.n (O05.CLIP_BASE clip)) (u.n (O05.CLIP_BYTES clip)) = true →
        t.Holds (O05.CLIP_STATE clip) 0 ∧ clip ∈ t.fmem.placing)) ∧
  (∀ (s : State) (clip : Nat), s.UpAt 0x05 clip → 0x100 ≤ clip → s.accepts = true → s.Holds (O05.CLIP_STATE clip) 0 →
    s.fmem.placing.contains clip = false →
    clipFormatOk (s.n (O05.CLIP_KIND clip)) (s.n (O05.CLIP_FORMAT clip)) = true → s.n (O05.CLIP_UNITS clip) ≠ 0 →
    s.placeClip clip = none → Completes (.clipAlloc clip) s fun t => t.Holds O01.LAST_REFUSAL 4 ∧ t.Holds (O05.CLIP_STATE clip) 0) ∧
  (∀ (s : State) (clip base : Nat), s.UpAt 0x05 clip → 0x100 ≤ clip → s.accepts = true →
    (s.Holds (O05.CLIP_STATE clip) 1 ∨ s.Holds (O05.CLIP_STATE clip) 3 ∨ s.Holds (O05.CLIP_STATE clip) 4) → s.clipRead clip = false →
    s.Holds (O05.CLIP_BASE clip) base → Completes (.clipRelease clip) s fun t =>
      t.Holds (O05.CLIP_STATE clip) 0 ∧ t.Holds (O05.CLIP_BASE clip) 0 ∧ ∀ e ∈ t.fmem.extents, e.1 ≠ base) ∧
  (∀ (s : State) (clip : Nat), s.UpAt 0x05 clip → 0x100 ≤ clip → s.accepts = true →
    (s.Holds (O05.CLIP_STATE clip) 2 ∨ s.Holds (O05.CLIP_STATE clip) 5) → Completes (.clipRelease clip) s fun t => t = s)

/-- R201, R202, R205, R208: an SDI input searches, aligns, locks and loses lock, with the counts and the events of each. -/
def Obligations.SdiInputsSearchAlignAndLock : Prop :=
  (∀ (s : State) (i : Nat), s.UpAt 0x06 i → s.Holds (O06.IN_STATE i) 1 → Completes (.sdiSignalDetect i) s fun t =>
    t.Holds (O06.IN_STATE i) 2 ∧ (t.input i).tried = s.now ∧ ((s.input i).last = none → (t.input i).seek = 0)) ∧
  (∀ (s : State) (i : Nat), s.UpAt 0x06 i → s.Holds (O06.IN_STATE i) 2 → (s.input i).tried + 96 ≤ s.now →
    Completes (.searchDwell i) s fun t =>
    t.input i = { s.input i with seek := ((s.input i).seek + 1) % max 1 (s.tries i).length, tried := s.now } ∧
    SameOutside [.inputs] (fun _ => False) s t) ∧
  (∀ (s : State) (i rate family : Nat), s.UpAt 0x06 i → s.Holds (O06.IN_STATE i) 2 → (s.tries i)[(s.input i).seek]? = some (rate, family) →
    Completes (.cdrLock i) s fun t =>
      t.Holds (O06.IN_STATE i) 3 ∧ t.Holds (O06.IN_RATE i) rate ∧ t.Holds (O06.IN_FAMILY i) family) ∧
  (∀ (s : State) (i raster scan rate level : Nat) (offset : Int), s.UpAt 0x06 i → s.Holds (O06.IN_STATE i) 3 →
    (s.input i).seen = [raster, scan, rate] → s.Holds (O06.IN_LINK_MODE i) 0 → s.Holds (O06.IN_PID_TRUST i) 0 →
    (s.setN (O06.IN_LEVEL i) level).inFits i (raster * 4096 + scan * 1024 + s.n (O06.IN_SAMPLING_DEFAULT i) % 4 * 256 + rate * 16) = true →
    Completes (.sdiFrameStructure i raster scan rate level offset 0 0 0 0 0 true) s fun t =>
      t.Holds (O06.IN_STATE i) 4 ∧ t.Raised 0x060 ∧ t.Holds (O06.IN_LEVEL i) level ∧
      t.Holds (O06.IN_FORMAT i) (raster * 4096 + scan * 1024 + s.n (O06.IN_SAMPLING_DEFAULT i) % 4 * 256 + rate * 16)) ∧
  (∀ (s : State) (i raster scan rate level a : Nat) (offset : Int), s.UpAt 0x06 i → s.Holds (O06.IN_STATE i) 4 →
    (s.input i).seen = [raster, scan, rate] → s.Holds (O06.IN_LINK_MODE i) 0 → (s.input i).writing = true → (s.input i).bad = false →
    s.Holds (O06.FRAMES_IN i) a → a + 1 < 2 ^ bitsOf (O06.FRAMES_IN i) →
    Completes (.sdiFrameStructure i raster scan rate level offset 0 0 0 0 0 true) s fun t =>
      t.Holds (O06.FRAMES_IN i) (a + 1) ∧ (t.input i).frame = (s.input i).frame + 1 ∧ t.Holds (O06.IN_STATE i) 4) ∧
  (∀ (s : State) (i raster scan rate level skew a : Nat) (offset : Int) (whole : Bool), s.UpAt 0x06 i → s.Holds (O06.IN_STATE i) 4 →
    (s.input i).seen ≠ [raster, scan, rate] → s.Holds (O06.LOCK_LOSSES i) a → a + 1 < 2 ^ bitsOf (O06.LOCK_LOSSES i) →
    Completes (.sdiFrameStructure i raster scan rate level offset skew 0 0 0 0 whole) s fun t =>
      t.Holds (O06.IN_STATE i) 3 ∧ t.Holds (O06.LOCK_LOSSES i) (a + 1) ∧ t.Raised 0x061) ∧
  (∀ (s : State) (i a : Nat), s.UpAt 0x06 i → s.Holds (O06.IN_STATE i) 4 → s.Holds (O06.LOCK_LOSSES i) a →
    a + 1 < 2 ^ bitsOf (O06.LOCK_LOSSES i) → Completes (.sdiSignalLoss i) s fun t =>
      t.Holds (O06.IN_STATE i) 1 ∧ t.Holds (O06.LOCK_LOSSES i) (a + 1) ∧ t.Raised 0x061) ∧
  (∀ (s : State) (i a : Nat) (cdr : Bool), s.UpAt 0x06 i → s.Holds (O06.IN_STATE i) 4 → s.Holds (O06.LOCK_LOSSES i) a →
    a + 1 < 2 ^ bitsOf (O06.LOCK_LOSSES i) → Completes (.sdiLockLoss i cdr) s fun t =>
      t.Holds (O06.IN_STATE i) 2 ∧ t.Holds (O06.LOCK_LOSSES i) (a + 1) ∧ t.Raised 0x061)

/-- R203 to R206: a locked input reads payload IDs and ancillary packets, and every second its offset and its errored seconds are
reported. -/
def Obligations.SdiInputsReadPayloadAndAncillaryData : Prop :=
  (∀ (s : State) (i id st raster scan rate smp col : Nat), s.UpAt 0x06 i → s.Holds (O06.IN_STATE i) st → 3 ≤ st →
    (s.input i).seen = [raster, scan, rate] → Completes (.payloadId i id raster scan rate smp col) s fun t =>
      t.Holds (O06.IN_PID_STATE i) 1 ∧ t.Holds (O06.IN_PAYLOAD_ID i) (id % 2 ^ 32) ∧ (t.input i).pidAge = 0) ∧
  (∀ (s : State) (i id st raster scan rate smp col was : Nat), s.UpAt 0x06 i → s.Holds (O06.IN_STATE i) st → 3 ≤ st →
    (s.input i).seen ≠ [raster, scan, rate] → s.Holds (O06.IN_PID_STATE i) was → was ≠ 2 → Completes (.payloadId i id raster scan rate smp col) s fun t =>
      t.Holds (O06.IN_PID_STATE i) 2 ∧ t.Raised 0x064 ∧ t.Holds (O06.IN_PAYLOAD_ID i) (id % 2 ^ 32)) ∧
  (∀ (s : State) (i group line hofs flags a : Nat) (words : List Nat), s.UpAt 0x06 i → i < 0x1000 → s.Holds (O06.IN_STATE i) 4 →
    4 ≤ words.length → words.length ≤ 259 → 1 ≤ line → line ≤ 8191 → hofs ≤ 0xFFFF →
    (ancParity (words.getD 0 0) && ancParity (words.getD 1 0)) = false → s.Holds (O06.ANC_CHECKSUM_ERR i) a →
    a + 1 < 2 ^ bitsOf (O06.ANC_CHECKSUM_ERR i) → Completes (.ancPacket i group line hofs flags words) s fun t =>
      t.Holds (O06.ANC_CHECKSUM_ERR i) (a + 1) ∧ t.inputs = s.inputs) ∧
  (∀ (s : State) (i group line hofs flags a : Nat) (words : List Nat), s.UpAt 0x06 i → i < 0x1000 → s.Holds (O06.IN_STATE i) 4 →
    4 ≤ words.length → words.length ≤ 259 → 1 ≤ line → line ≤ 8191 → hofs ≤ 0xFFFF →
    (ancParity (words.getD 0 0) && ancParity (words.getD 1 0)) = true → ancSum words.dropLast ≠ (words.getLast?.getD 0) % 1024 →
    s.Holds (O06.IN_ANC_BAD i) 0 → s.Holds (O06.ANC_CHECKSUM_ERR i) a →
    a + 1 < 2 ^ bitsOf (O06.ANC_CHECKSUM_ERR i) → Completes (.ancPacket i group line hofs flags words) s fun t =>
      t.Holds (O06.ANC_CHECKSUM_ERR i) (a + 1) ∧ t.Raised 0x067 ∧ t.inputs = s.inputs) ∧
  (∀ (s : State) (i group line hofs flags : Nat) (words : List Nat), s.UpAt 0x06 i → i < 0x1000 → s.Holds (O06.IN_STATE i) 4 →
    4 ≤ words.length → words.length ≤ 259 → 1 ≤ line → line ≤ 8191 → hofs ≤ 0xFFFF →
    (ancParity (words.getD 0 0) && ancParity (words.getD 1 0)) = true → ancSum words.dropLast = (words.getLast?.getD 0) % 1024 →
    s.bs (O06.IN_ANC_DROP i) = [] → words.getD 0 0 % 256 = 0x61 → (s.input i).ancGroup = group →
    ((s.input i).anc.map (·.2.length)).sum + (ancBytes line hofs (flags % 256 / 64 * 64) words).length ≤ 8192 →
    Completes (.ancPacket i group line hofs flags words) s fun t =>
      t.input i = { s.input i with
        ancGroup := group,
        anc := ancInsert (s.input i).anc (ancPlace line hofs (flags % 256 / 64 * 64), ancBytes line hofs (flags % 256 / 64 * 64) words) } ∧
      SameOutside [.inputs] (fun _ => False) s t) ∧
  (∀ (s : State) (i : Nat) (x : InSt), s.Up → s.tick64 % 192000 = 0 → SMap.rising s.inputs = true →
    SMap.find? s.inputs i = some x → i < 0x1000 → Completes .erroredSecond s fun t => t.Holds (O06.IN_FREQ_OFFSET i) (unsigned 32 x.offset) ∧ (t.input i).errSecond = false) ∧
  (∀ (s : State) (i a : Nat) (x : InSt), s.Up → s.tick64 % 192000 = 0 → SMap.rising s.inputs = true →
    SMap.find? s.inputs i = some x → i < 0x1000 → x.errSecond = true → s.Holds (O06.ERRORED_SECONDS i) a → a + 1 < 2 ^ bitsOf (O06.ERRORED_SECONDS i) →
    Completes .erroredSecond s fun t => t.Holds (O06.ERRORED_SECONDS i) (a + 1))

/-- R74, R215, R217, R230, R232, R240, R241: an output counts its frames and leaves electrical idle at a frame start; a destination cuts at
its switching line; a salvo fires as one transaction; PROTECT is written. -/
def Obligations.DestinationsStartFramesAndSwitch : Prop :=
  (∀ (s : State) (d written a n : Nat), s.UpAt 0x08 d → d < 0x100 → s.running = true → s.Holds (O07.OUT_STATE d) n → 2 ≤ n →
    s.Holds (O07.FRAMES_OUT d) a → a + 1 < 2 ^ bitsOf (O07.FRAMES_OUT d) → Completes (.outputFrameStart d written) s fun t =>
      t.Holds (O07.FRAMES_OUT d) (a + 1) ∧ (t.dest d).index = s.outIndex d) ∧
  (∀ (s : State) (d written a n : Nat), s.UpAt 0x08 d → d < 0x100 → s.running = true → s.Holds (O07.OUT_STATE d) n → n < 2 →
    s.outCause d = 0 → s.Holds (O07.FRAMES_OUT d) a → a + 1 < 2 ^ bitsOf (O07.FRAMES_OUT d) →
    Completes (.outputFrameStart d written) s fun t =>
      t.Raised 0x071 ∧ t.Holds (O07.SQUELCH_CAUSE d) 0 ∧ t.Holds (O07.FRAMES_OUT d) (a + 1) ∧ 2 ≤ t.n (O07.OUT_STATE d)) ∧
  (∀ (s : State) (d written a n : Nat), s.UpAt 0x08 d → d < 0x100 → s.running = false → s.Holds (O07.OUT_STATE d) n → 2 ≤ n →
    s.Holds (O07.FRAMES_OUT d) a → a + 1 < 2 ^ bitsOf (O07.FRAMES_OUT d) → Completes (.outputFrameStart d written) s fun t =>
      t.Holds (O07.FRAMES_OUT d) (a + 1) ∧ t.Holds (O07.OUT_STATE d) n ∧ (t.dest d).index = s.outIndex d) ∧
  (∀ (s : State) (d a : Nat), s.UpAt 0x08 d → d < 0x900 → s.running = true → (s.dest d).armed = true → (s.dest d).waiting = true →
    s.Holds (O08.SWITCH_COUNT d) a → a + 1 < 2 ^ bitsOf (O08.SWITCH_COUNT d) → Completes (.switchingLine d) s fun t =>
      t.Holds (O08.CURRENT_SOURCE d) (s.n (O08.PENDING_SOURCE d)) ∧ t.Holds (O08.LAST_SWITCH d) s.tick64 ∧
      t.Holds (O08.SWITCH_COUNT d) (a + 1) ∧ t.Raised 0x080 ∧ (t.dest d).waiting = false ∧ (t.dest d).armed = false) ∧
  (∀ (s : State) (d : Nat), s.UpAt 0x08 d → d < 0x900 → (s.dest d).armed = false → Completes (.switchingLine d) s fun t => t = s) ∧
  (∀ (s : State) (salvo tick : Nat) (plan : Plan), s.UpAt 0x08 salvo → 0x900 ≤ salvo → salvo < 0xA00 → s.served = true →
    routesIn 64 (s.bs (O08.SALVO_ROUTES salvo)) = [] → Completes (.salvoFire salvo tick plan) s fun t =>
      t.Holds (O08.SALVO_LAST_STATUS salvo) OK ∧ SameOutside [] (· = O08.SALVO_LAST_STATUS salvo) s t) ∧
  (∀ (s : State) (salvo tick : Nat) (plan : Plan), s.UpAt 0x08 salvo → 0x900 ≤ salvo → salvo < 0xA00 → s.served = true →
    routesIn 64 (s.bs (O08.SALVO_ROUTES salvo)) ≠ [] → Completes (.salvoFire salvo tick plan) s fun t =>
      let items := (routesIn 64 (s.bs (O08.SALVO_ROUTES salvo))).map fun r => (O08.ROUTE_SUBMIT, Val.blob r.bytes)
      let r := s.commitTx { Tx.blank (.host 0xFFFF) items with salvo := salvo } tick plan (some s.tick64)
      t.Holds (O08.SALVO_LAST_STATUS salvo) r.2 ∧ (r.2 ≠ PENDING → t.Raised 0x082)) ∧
  (∀ (s : State) (d : Nat) (v : Bool), s.UpAt 0x08 d → d < 0x900 → s.served = true → Completes (.protect d v) s fun t =>
    t.Holds (O08.PROTECT d) v.toNat ∧ SameOutside [] (· = O08.PROTECT d) s t)

/-- R263, R274 to R277: a conversion path runs once it is primed, bushel errors count and fail a bushel, a cadence waits for the next frame,
and a shed path comes back through a commit. -/
def Obligations.PathsPrimeFailAndReadmit : Prop :=
  (∀ (s : State) (d : Nat), s.UpAt 0x09 d → d < 0xA00 → s.Holds (O09.PATH_STATE d) 1 → s.primed d = true →
    Completes (.pathPrimed d) s fun t =>
    t.Holds (O09.PATH_STATE d) 2 ∧ t.Raised 0x09B) ∧
  (∀ (s : State) (b stream a n : Nat), s.Up → b < s.bushels → s.Holds (O09.BUSHEL_STATE (0xB00 + b)) n → n ≠ 2 →
    s.leaving.contains stream = false → s.Holds (O09.BUSHEL_ERRORS (0xB00 + b)) a → a + 1 < 2 ^ bitsOf (O09.BUSHEL_ERRORS (0xB00 + b)) →
    Completes (.bushelError b stream) s fun t =>
      t.Holds (O09.BUSHEL_ERRORS (0xB00 + b)) (a + 1) ∧ t.Raised 0x095 ∧ stream ∈ t.chain.substituted ∧
      (t.conv.errs.getD b []).head? = some s.now) ∧
  (∀ (s : State) (b stream n : Nat), s.Up → b < s.bushels → s.Holds (O09.BUSHEL_STATE (0xB00 + b)) n → n ≠ 2 →
    s.conv.errs.getD b [] = [s.now, s.now] → Completes (.bushelError b stream) s fun t => b ∈ t.conv.failing) ∧
  (∀ (s : State) (d c n : Nat), s.UpAt 0x09 d → d < 0xA00 → s.Holds (O09.CADENCE d) 1 → s.hasMotion = true →
    (s.bs (O09.FUNCS_ACTIVE d)).contains 4 = true → s.Holds (O09.CADENCE_STATE d) n → c ≤ 2 → c ≠ n →
    Completes (.cadenceChanged d c) s fun t =>
      SMap.find? t.conv.cadence d = some c ∧ SameOutside [.conv] (fun _ => False) s t) ∧
  (∀ (s : State) (d : Nat) (plan : Plan) (p : PathPlan), s.UpAt 0x09 d → d < 0xA00 → s.phase = .running →
    s.routePath d (s.routedSource d) = .ok p → s.conv.shed.head? = some d → Completes (.pathReadmit d plan) s fun t =>
      t = (s.commitTx { Tx.blank .neloas [] with paths := [p] } 0 plan (some s.tick64)).1) ∧
  (∀ (s : State) (d e : Nat) (plan : Plan), s.UpAt 0x09 d → d < 0xA00 → s.phase = .running →
    s.routePath d (s.routedSource d) = .error e → d ∉ s.conv.shed → s.Holds (O09.PATH_MODE d) 1 → s.Holds (O09.PATH_READMIT d) 1 →
    Completes (.pathReadmit d plan) s fun t => t.Raised 0x092 ∧ SameOutside [.evu] (· ∈ eventRegs 0x092) s t)

/-- R285, R287, R295: an audio input goes from valid preambles over its identified rate to LOCKED or UNSUPPORTED, decides on its SRC, and is
lost. -/
def Obligations.AudioInputsLockAndAreLost : Prop :=
  (∀ (s : State) (p : Nat), s.Up → s.portHere p = true → portIn p = true → s.Holds (State.portKey p (O0A.IN_STATE 0)) 1 →
    (s.port p).since + 192 ≤ s.now → Completes (.aes3PreamblesValid p) s fun t =>
      t.Holds (State.portKey p (O0A.IN_STATE 0)) 2 ∧ (t.port p).since = s.now ∧ (t.port p).blocks = 0 ∧ SameOutside [.audio] (· = State.portKey p (O0A.IN_STATE 0)) s t) ∧
  (∀ (s : State) (p rate : Nat) (offset : Int), s.Up → s.portHere p = true → portIn p = true →
    s.Holds (State.portKey p (O0A.IN_STATE 0)) 2 → (s.port p).since + 192 ≤ s.now → 2 ≤ (s.port p).blocks →
    s.rateTaken p (s.rateNear p rate offset) = true → s.followerOf p = none →
    Completes (.audioRateIdentified p rate offset) s fun t =>
      t.Holds (State.portKey p (O0A.IN_STATE 0)) 3 ∧ t.Holds (State.portKey p (O0A.IN_RATE 0)) rate ∧
      t.Holds (State.portKey p (O0A.SRC_ACTIVE 0)) (if s.n (State.portKey p (O0A.SRC_MODE 0)) = 2 then 0 else 1) ∧
      (t.port p).fifo.length = 64 ∧ t.Raised (portEvent p 0x0A0 0x0B0)) ∧
  (∀ (s : State) (p rate : Nat) (offset : Int), s.Up → s.portHere p = true → portIn p = true →
    s.Holds (State.portKey p (O0A.IN_STATE 0)) 2 → (s.port p).since + 192 ≤ s.now → 2 ≤ (s.port p).blocks →
    s.rateTaken p (s.rateNear p rate offset) = false →
    Completes (.audioRateIdentified p rate offset) s fun t =>
      t.Holds (State.portKey p (O0A.IN_STATE 0)) 4 ∧ t.Raised (portEvent p 0x0AD 0x0B9)) ∧
  (∀ (s : State) (p : Nat), s.Up → s.portHere p = true → portIn p = true → s.Holds (State.portKey p (O0A.IN_STATE 0)) 3 →
    Completes (.audioInputLost p false) s fun t =>
      t.Holds (State.portKey p (O0A.IN_STATE 0)) 1 ∧ t.Raised (portEvent p 0x0A1 0x0B1)) ∧
  (∀ (s : State) (p : Nat), s.Up → s.portHere p = true → portIn p = true → s.Holds (State.portKey p (O0A.IN_STATE 0)) 3 →
    Completes (.audioInputLost p true) s fun t =>
      t.Holds (State.portKey p (O0A.IN_STATE 0)) 2 ∧ t.Raised (portEvent p 0x0A2 0x0B2)) ∧
  (∀ (s : State) (p : Nat) (offset : Int), s.Up → s.portHere p = true → portIn p = true → s.Holds (State.portKey p (O0A.IN_STATE 0)) 3 →
    s.Holds (State.portKey p (O0A.SRC_MODE 0)) 0 → s.followerOf p = none → (s.port p).decided = false →
    (s.port p).since + 192000 ≤ s.now → Completes (.srcDecision p offset) s fun t =>
      t.Holds (State.portKey p (O0A.IN_FREQ_OFFSET 0)) (unsigned 32 offset) ∧ (t.port p).decided = true ∧
      t.Holds (State.portKey p (O0A.SRC_ACTIVE 0)) (if s.portHz p ≠ s.matrixHz ∨ 100 < offset.natAbs then 1 else 0))

/-- R288 to R295: received subframes, channel-status blocks and MADI frames, and the frame that an output sends at its sample. -/
def Obligations.AudioFramesAreCheckedAndSent : Prop :=
  (∀ (s : State) (p word a n : Nat), s.Up → s.portHere p = true → p < 0x1000 → s.Holds (O0A.IN_STATE p) n → 2 ≤ n →
    State.preambleOk (s.port p) (field word 3 0) = false → s.Holds (O0A.PREAMBLE_ERR p) a → a + 1 < 2 ^ bitsOf (O0A.PREAMBLE_ERR p) →
    Completes (.aes3Subframe p word) s fun t => t.Holds (O0A.PREAMBLE_ERR p) (a + 1) ∧ bit (t.n (O0A.IN_FLAGS p)) 4 = true) ∧
  (∀ (s : State) (p word x : Nat), s.Up → s.portHere p = true → p < 0x1000 → s.Holds (O0A.IN_STATE p) 3 → field word 3 0 = 2 →
    (s.port p).second = true → oddBits (word / 16 * 16) = false → bit word 28 = false → (s.port p).half = [x] → (s.port p).fifo.length < 128 →
    Completes (.aes3Subframe p word) s fun t =>
      (t.port p).fifo = (s.port p).fifo ++ [[x, field word 27 4 * 256]] ∧ (t.port p).half = [] ∧ (t.port p).second = false) ∧
  (∀ (s : State) (p sub : Nat) (block : List Byte), s.Up → s.portHere p = true → p < 0x1000 → sub < 2 →
    SMap.find? (s.port p).ready sub = some block → block.length = 24 → csCrcc (block.take 23) = (block.getD 23 0).toNat → Completes (.csBlock p sub) s fun t =>
      t.stored (O0A.IN_CS p) = some (.blob (splice (padTo 48 (s.bs (O0A.IN_CS p))) (24 * sub) block))) ∧
  (∀ (s : State) (p sub a : Nat) (block : List Byte), s.Up → s.portHere p = true → p < 0x1000 → sub < 2 →
    SMap.find? (s.port p).ready sub = some block → bit ((block.headD 0).toNat) 0 = true → csCrcc (block.take 23) ≠ (block.getD 23 0).toNat → s.Holds (O0A.CS_CRC_ERR p) a →
    a + 1 < 2 ^ bitsOf (O0A.CS_CRC_ERR p) → Completes (.csBlock p sub) s fun t =>
      t.Holds (O0A.CS_CRC_ERR p) (a + 1) ∧ t.stored (O0A.IN_CS p) = s.stored (O0A.IN_CS p)) ∧
  (∀ (s : State) (p e a n : Nat) (words : List Nat), s.Up → s.portHere (0x2000 + p) = true → p < 0x100 → s.Holds (O0B.IN_STATE p) n → 2 ≤ n →
    e ≠ 0 → s.Holds (O0B.CODE_ERR p) a → a + e < 2 ^ bitsOf (O0B.CODE_ERR p) → Completes (.madiFrame p words e) s fun t =>
      t.Holds (O0B.CODE_ERR p) (a + e)) ∧
  (∀ (s : State) (p : Nat) (words : List Nat), s.Up → s.portHere (0x2000 + p) = true → p < 0x100 → s.Holds (O0B.IN_STATE p) 3 →
    (words.all fun w => !(bit w 1)) = true → (s.port (0x2000 + p)).fifo.length < 128 → Completes (.madiFrame p words 0) s fun t =>
      (t.port (0x2000 + p)).fifo = (s.port (0x2000 + p)).fifo ++ [List.replicate words.length 0]) ∧
  (∀ (s : State) (p a : Nat), s.Up → s.portHere p = true → portIn p = false → s.Holds (State.portKey p (O0A.OUT_STATE 0)) 2 →
    s.portUp p = true → s.groupOf p = none → s.Holds (State.indexKey p) a → a ≠ 0 → a + 1 < 2 ^ bitsOf (State.indexKey p) →
    Completes (.portSampleDue p) s fun t =>
      t.Holds (State.indexKey p) (a + 1) ∧ t.sent.dropLast = s.sent ∧ t.sent.length = s.sent.length + 1 ∧
      (t.sent.getLast?.any fun o => match o with
        | .media k q l => k == 0x0A && q == p && l.length == s.portChannels p
        | _ => false) = true) ∧
  (∀ (s : State) (p a : Nat), s.Up → s.portHere p = true → portIn p = false → s.Holds (State.portKey p (O0A.OUT_STATE 0)) 2 →
    s.portUp p = true → s.groupOf p = none → s.Holds (State.stateKey p) 2 → s.Holds (State.indexKey p) a → a ≠ 0 →
    Completes (.portSampleDue p) s fun t =>
      let cs := if a % 192 = 0 ∨ (s.port p).sent = [] then s.csBlock p else (s.port p).sent
      t.sent = s.sent ++ [.media 0x0A p ((List.range (s.portChannels p)).map fun k => s.outSubframe p k cs 0)])

/-- R297 to R304: faults fade a port out, fades and resynchronisation bring it back, a follow loop steps within its slew, and a group
starts and stops together. -/
def Obligations.AudioPortsFadeFollowAndGroup : Prop :=
  (∀ (s : State) (p a : Nat), s.Up → s.portHere p = true → s.portUp p = true → s.canFault p = true →
    s.Holds (State.portKey p (if portIn p then O0A.UNDERRUNS 0 else O0A.UNDERRUNS_OUT 0)) a →
    a + 1 < 2 ^ bitsOf (State.portKey p (if portIn p then O0A.UNDERRUNS 0 else O0A.UNDERRUNS_OUT 0)) →
    (s.port p).fifo = [] → Completes (.portUnderrun p) s fun t =>
      t.Holds (State.stateKey p) 1 ∧ t.Holds (State.portKey p (if portIn p then O0A.UNDERRUNS 0 else O0A.UNDERRUNS_OUT 0)) (a + 1) ∧
      (t.port p).fifo = [] ∧ t.Raised (portEvent p 0x0A8 0x0B5)) ∧
  (∀ (s : State) (p a : Nat), s.Up → s.portHere p = true → s.portUp p = true → s.canFault p = true →
    s.Holds (State.portKey p (if portIn p then O0A.OVERRUNS 0 else O0A.OVERRUNS_OUT 0)) a →
    a + 1 < 2 ^ bitsOf (State.portKey p (if portIn p then O0A.OVERRUNS 0 else O0A.OVERRUNS_OUT 0)) →
    128 ≤ (s.port p).fifo.length → Completes (.portOverrun p) s fun t =>
      t.Holds (State.stateKey p) 1 ∧ t.Holds (State.portKey p (if portIn p then O0A.OVERRUNS 0 else O0A.OVERRUNS_OUT 0)) (a + 1) ∧
      (t.port p).fifo = (s.port p).fifo ∧ t.Raised (portEvent p 0x0A9 0x0B6)) ∧
  (∀ (s : State) (p : Nat), s.Up → s.portHere p = true → s.Holds (State.stateKey p) 1 →
    ((s.port p).gain = 0 ∨ portIn p = false ∧ s.portUp p = false) → Completes (.fadeComplete p) s fun t =>
    t.Holds (State.stateKey p) 2 ∧ (t.port p).gain = 0) ∧
  (∀ (s : State) (p : Nat), s.Up → s.portHere p = true → s.Holds (State.stateKey p) 4 →
    ((s.port p).gain = 0x100000 ∨ portIn p = false ∧ s.portUp p = false) → Completes (.fadeComplete p) s fun t =>
    t.Holds (State.stateKey p) 0 ∧ (t.port p).gain = 0x100000 ∧ (t.port p).hold = false) ∧
  (∀ (s : State) (p : Nat), s.Up → s.portHere p = true → s.Holds (State.stateKey p) 2 → s.portUp p = true → s.safeHold = false →
    64 ≤ (s.port p).fifo.length → Completes (.fifoRecentred p) s fun t => t.Holds (State.stateKey p) 3 ∧ SameOutside [] (· = State.stateKey p) s t) ∧
  (∀ (s : State) (p : Nat), s.Up → s.portHere p = true → s.Holds (State.stateKey p) 3 → s.safeHold = false → s.groupOf p = none →
    Completes (.resyncIndex p) s fun t =>
      t.Holds (State.stateKey p) 4 ∧ (t.port p).gain = 0 ∧ t.Raised (portEvent p 0x0AA 0x0B7)) ∧
  (∀ (s : State) (p g : Nat), s.Up → s.portHere p = true → s.Holds (State.stateKey p) 3 → s.safeHold = false → s.groupOf p = some g →
    s.Holds (O0A.GROUP_STATE (0x200 + g)) 2 → s.n (State.indexKey p) % s.n (O0A.RESYNC_MODULUS (0x200 + g)) = 0 →
    (s.grp g).step = none → Completes (.resyncIndex p) s fun t =>
      t.Holds (State.stateKey p) 4 ∧ (t.port p).gain = 0 ∧ t.Raised (portEvent p 0x0AA 0x0B7)) ∧
  (∀ (s : State) (a n : Nat) (err : Int), s.Up → a < 8 → s.Holds (O0A.FOLLOW_STATE (0x300 + a)) n → 2 ≤ n → n ≤ 4 →
    (s.loop a).at_ + 192 ≤ s.now → (s.loopStep a err).limit = none → Completes (.followLoopUpdate a err) s fun t =>
      t.Holds (O0A.FOLLOW_ERROR (0x300 + a)) (unsigned 32 err) ∧ t.Holds (O0A.FOLLOW_OFFSET (0x300 + a)) (unsigned 32 (t.loop a).y) ∧
      ((t.loop a).y - (s.loop a).y).natAbs ≤ 10 ∧ (t.loop a).integral = (s.loop a).integral + err) ∧
  (∀ (s : State) (g tick n : Nat), s.Up → s.served = true → g < 16 → s.tickLimits tick = true → s.Holds (O0A.GROUP_STATE (0x200 + g)) n →
    n ≠ 2 → Completes (.groupStart g tick) s fun t =>
      t.Holds (O0A.GROUP_STATE (0x200 + g)) 1 ∧ (t.grp g).start = some tick ∧ t.Raised 0xE10) ∧
  (∀ (s : State) (g n : Nat), s.Up → s.served = true → g < 16 → s.Holds (O0A.GROUP_STATE (0x200 + g)) n → n ≠ 0 →
    Completes (.groupStop g 0) s fun t => (t.grp g).stop = some s.tick64 ∧ SameOutside [.audio] (fun _ => False) s t) ∧
  (∀ (s : State) (g at_ : Nat), s.Up → g < 16 → s.Holds (O0A.GROUP_STATE (0x200 + g)) 1 → (s.grp g).start = some at_ → at_ ≤ s.tick64 →
    (portCodes (s.bs (O0A.GROUP_MEMBERS (0x200 + g)))).all s.portHere = true → Completes (.groupIndexZero g) s fun t =>
      t.Holds (O0A.GROUP_STATE (0x200 + g)) 2 ∧ t.Holds (O0A.GROUP_START_TICK (0x200 + g)) s.tick64 ∧
      t.Holds (O0A.GROUP_INDEX (0x200 + g)) 0 ∧ (t.grp g).start = none ∧ t.Raised 0xE11)

/-- R316 to R318: a block of the pass sends, of each of its channels, the rounded and clamped sum of the channel's terms, where the block
has no delay. -/
def Obligations.MatrixBlocksSumTheirChannels : Prop :=
  ∀ (s : State) (link word c : Nat), s.Up → s.inChain link word = true → entOp word = 5 →
    field (entArg word) 11 10 = s.tick64 % s.period → SMap.rising s.amx.out = true →
    s.tapOf (field (entArg word) 9 0) = 0 → SMap.find? s.amx.lines (field (entArg word) 9 0) = none → c < 16 →
    Completes (.amx link word) s fun t =>
      SMap.getD t.amx.out (16 * field (entArg word) 9 0 + c) 0 = rawOf (clamp32 (s.chanSample (16 * field (entArg word) 9 0 + c)).2.1)

/-- R322 to R325: a channel's switch is requested, waits or fades by its mode, and puts its new set on air at the zero crossing, after the
timeout and at the end of the crossfade. -/
def Obligations.MatrixSwitchesGoOnAir : Prop :=
  (∀ (s : State) (c m due : Nat) (new : List (Nat × Ramp)), s.UpAt 0x0C (c / 16) → c < 0x4000 → (s.chan c).want = some new →
    (s.chan c).due = some due → due ≤ s.now + 1 → s.Holds (O0C.SWITCH_STATE (c / 16) (c % 16)) 0 → (s.chan c).air.map (·.1) ≠ new.map (·.1) →
    s.Holds (O0C.SWITCH_MODE (c / 16) (c % 16)) m → Completes (.audioSwitchRequest c) s fun t =>
      t.Holds (O0C.SWITCH_STATE (c / 16) (c % 16)) (if m = 0 then 1 else 2) ∧ (t.chan c).next = some new ∧ (t.chan c).want = none ∧
      (t.chan c).air = (s.chan c).air) ∧
  (∀ (s : State) (c due : Nat) (new : List (Nat × Ramp)), s.UpAt 0x0C (c / 16) → c < 0x4000 → (s.chan c).want = some new →
    (s.chan c).due = some due → due ≤ s.now + 1 → s.Holds (O0C.SWITCH_STATE (c / 16) (c % 16)) 1 → Completes (.audioSwitchRequest c) s fun t =>
      (t.chan c).next = some new ∧ SameOutside [.amx] (fun _ => False) s t) ∧
  (∀ (s : State) (c : Nat) (new : List (Nat × Ramp)), s.UpAt 0x0C (c / 16) → c < 0x4000 → SMap.rising s.amx.chans = true →
    (s.chan c).next = some new → s.Holds (O0C.SWITCH_STATE (c / 16) (c % 16)) 1 → s.zcHolds c = true →
    Completes (.zeroCrossing c) s fun t =>
      t.Holds (O0C.SWITCH_STATE (c / 16) (c % 16)) 0 ∧ (t.chan c).air = new ∧ (t.chan c).next = none) ∧
  (∀ (s : State) (c a : Nat), s.UpAt 0x0C (c / 16) → c < 0x4000 → s.Holds (O0C.SWITCH_STATE (c / 16) (c % 16)) 1 →
    s.Holds (O0C.ZC_TIMEOUTS (c / 16) (c % 16)) a → a + 1 < 2 ^ bitsOf (O0C.ZC_TIMEOUTS (c / 16) (c % 16)) →
    s.samplesOf (s.n O0C.ZC_TIMEOUT) ≤ (s.chan c).timer → Completes (.zcTimeout c) s fun t =>
      t.Holds (O0C.SWITCH_STATE (c / 16) (c % 16)) 2 ∧ t.Holds (O0C.ZC_TIMEOUTS (c / 16) (c % 16)) (a + 1) ∧
      bit (t.n (O0C.DEST_FLAGS (c / 16) (c % 16))) 2 = true) ∧
  (∀ (s : State) (c : Nat) (new : List (Nat × Ramp)), s.UpAt 0x0C (c / 16) → c < 0x4000 → SMap.rising s.amx.chans = true →
    (s.chan c).next = some new → (s.chan c).queued = none → s.Holds (O0C.SWITCH_STATE (c / 16) (c % 16)) 2 →
    s.samplesOf (s.n O0C.XFADE_LEN) ≤ (s.chan c).timer → Completes (.crossfadeComplete c) s fun t =>
      t.Holds (O0C.SWITCH_STATE (c / 16) (c % 16)) 0 ∧ (t.chan c).air = new ∧ (t.chan c).next = none) ∧
  (∀ (s : State) (c : Nat) (new q : List (Nat × Ramp)), s.UpAt 0x0C (c / 16) → c < 0x4000 → SMap.rising s.amx.chans = true →
    (s.chan c).next = some new → (s.chan c).queued = some q → s.Holds (O0C.SWITCH_STATE (c / 16) (c % 16)) 2 →
    s.Holds (O0C.SWITCH_MODE (c / 16) (c % 16)) 0 → s.samplesOf (s.n O0C.XFADE_LEN) ≤ (s.chan c).timer →
    Completes (.crossfadeComplete c) s fun t =>
      t.Holds (O0C.SWITCH_STATE (c / 16) (c % 16)) 1 ∧ (t.chan c).air = new ∧ (t.chan c).next = some q ∧ (t.chan c).queued = none)

/-- R311, R320, R321, R328 to R331: gains, mutes and the matrix rate are written; players start, stop and end; embedded audio enters and
fades. -/
def Obligations.MatrixGainsPlayersAndDeembedders : Prop :=
  (∀ (s : State) (c slot raw : Nat), s.UpAt 0x0C (c / 16) → s.accepts = true → c < 0x4000 → slot < 8 →
    (raw < 0x800000 ∨ (0xFF800000 ≤ raw ∧ raw < 0x100000000)) → Completes (.termGain c slot raw) s fun t =>
      t.Holds (O0C.TERM_GAIN (c / 16) (c % 16) slot) raw ∧ O0C.TERM_GAIN (c / 16) (c % 16) slot ∈ t.amx.writes ∧
      (t.chan c).air = (s.chan c).air) ∧
  (∀ (s : State) (c : Nat) (v : Bool), s.UpAt 0x0C (c / 16) → s.accepts = true → c < 0x4000 → Completes (.mute c v) s fun t =>
    t.Holds (O0C.MUTE (c / 16) (c % 16)) v.toNat ∧ O0C.MUTE (c / 16) (c % 16) ∈ t.amx.writes ∧ (t.chan c).mute = (s.chan c).mute) ∧
  (∀ (s : State) (rate n : Nat), s.Up → s.accepts = true → rate < 2 → s.Holds O0C.RATE_ACTIVE n → s.Holds O0C.MATRIX_RATE n → rate ≠ n →
    Completes (.matrixRate rate) s fun t => t.Holds O0C.MATRIX_RATE rate ∧ t.Holds O0C.RATE_ACTIVE n ∧ t.Raised 0x0CC) ∧
  (∀ (s : State) (p tick n clip : Nat), s.UpAt 0x0C p → s.served = true → 0x500 ≤ p → p < 0x600 → s.tickLimits tick = true →
    s.Holds (O0C.PLAYER_CLIP p) clip → clip ≠ 0xFFFF → s.Holds (O0C.PLAYER_STATE p) n → n ≠ 2 → Completes (.playStart p tick) s fun t =>
      t.Holds (O0C.PLAYER_STATE p) 1 ∧ (t.player p).start = some tick) ∧
  (∀ (s : State) (p : Nat), s.UpAt 0x0C p → s.served = true → 0x500 ≤ p → p < 0x600 → Completes (.playStop p 0) s fun t =>
    (t.player p).stop = some s.tick64 ∧ SameOutside [.amx] (fun _ => False) s t) ∧
  (∀ (s : State) (p : Nat), s.UpAt 0x0C p → 0x500 ≤ p → p < 0x600 → s.Holds (O0C.PLAYER_STATE p) 2 → s.Holds (O0C.PLAY_LOOP p) 0 →
    s.clipSamples p ≤ (s.player p).pos → Completes (.clipEnd p) s fun t => t.Holds (O0C.PLAYER_STATE p) 3) ∧
  (∀ (s : State) (p : Nat), s.UpAt 0x0C p → 0x500 ≤ p → p < 0x600 → s.Holds (O0C.PLAYER_STATE p) 2 → s.Holds (O0C.PLAY_LOOP p) 1 →
    s.clipSamples p ≤ (s.player p).pos → Completes (.clipEnd p) s fun t => t.Holds (O0C.PLAYER_STATE p) 2 ∧ (t.player p).pos = (s.player p).pos % s.clipSamples p) ∧
  (∀ (s : State) (i g v : Nat) (good : Bool) (x : List Nat), s.UpAt 0x0C (0xC00 + i) → i < 0x1000 → g < s.deembGroups i →
    s.Holds (O0C.DEEMB_GROUPS (0xC00 + i)) v → bit v g = true → Completes (.deembedPacket i g 2 0 good x) s fun t =>
      t.Holds (O0C.DEEMB_GROUPS (0xC00 + i)) (clearBits v (2 ^ g)) ∧ t.Raised 0x0C4) ∧
  (∀ (s : State) (i g v k : Nat) (good : Bool) (x : List Nat), s.UpAt 0x0C (0xC00 + i) → i < 0x1000 → g < s.deembGroups i →
    s.Holds (O0C.DEEMB_GROUPS (0xC00 + i)) v → bit v g = false → s.Holds (O0C.DEEMB_SRC_ACTIVE (0xC00 + i)) 0 →
    bit (s.deemb i).badRate g = false → SMap.rising s.amx.src = true → k < 4 → Completes (.deembedPacket i g 0 0 good x) s fun t =>
      t.Holds (O0C.DEEMB_GROUPS (0xC00 + i)) (setBits v (2 ^ g)) ∧ t.Raised 0x0C4 ∧
      SMap.getD t.amx.src (s.ranges.sdi + s.ranges.e * i + 4 * g + k) 0 = rawOf (round20 (sampleOf (x.getD k 0) * (s.deemb i).fade.now))) ∧
  (∀ (s : State) (i n : Nat), s.UpAt 0x0C (0xC00 + i) → s.Holds (O06.IN_STATE i) n → n ≠ 4 → Completes (.deembedFade i true) s fun t =>
    t.Holds (O0C.DEEMB_STATE (0xC00 + i)) 2 ∧ bit (t.n (O0C.DEEMB_FLAGS (0xC00 + i))) 4 = true ∧ (t.deemb i).fade.target = 0) ∧
  (∀ (s : State) (i n : Nat), s.UpAt 0x0C (0xC00 + i) → s.Holds (O06.IN_STATE i) 4 → s.Holds (O06.IN_RATE i) n → 2 ≤ n →
    s.Holds (O0C.DEEMB_SRC_ACTIVE (0xC00 + i)) 0 ∨ (s.deemb i).since + 96000 ≤ s.now →
    Completes (.deembedFade i false) s fun t => t.Holds (O0C.DEEMB_STATE (0xC00 + i)) 1 ∧ (t.deemb i).fade.target = 0x100000)

/-- R346 to R351, R353: a port's link comes up and goes down, its frames are counted, trapped, or forwarded to the port that the filtering
database names, and learned entries age. -/
def Obligations.BridgePortsCountTrapLearnAndForward : Prop :=
  (∀ (s : State) (p n : Nat), s.UpAt 0x0F p → p < 224 → s.portMode p ≠ 0 → s.Holds (O0F.LINK_STATE p) n → n ≠ 1 →
    Completes (.linkStateChange p true) s fun t => t.Holds (O0F.LINK_STATE p) 1 ∧ t.Raised 0x0F0) ∧
  (∀ (s : State) (p : Nat), s.UpAt 0x0F p → p < 224 → s.portMode p ≠ 0 → s.Holds (O0F.LINK_STATE p) 1 →
    Completes (.linkStateChange p false) s fun t =>
      t.Holds (O0F.LINK_STATE p) 0 ∧ t.Raised 0x0F1 ∧ bit (t.n (O0F.PORT_FLAGS p)) 0 = true) ∧
  (∀ (s : State) (p slot a : Nat) (b : List Byte), s.UpAt 0x0F p → p < 232 → s.portMode p ≠ 0 → s.linkUp p = true →
    s.Holds (O0F.FCS_ERR p) a → a + 1 < 2 ^ bitsOf (O0F.FCS_ERR p) → Completes (.frameIngress p slot b 1) s fun t =>
      t.Holds (O0F.FCS_ERR p) (a + 1) ∧ t.net = s.net) ∧
  (∀ (s : State) (p slot a : Nat) (b : List Byte), s.UpAt 0x0F p → p < 232 → s.portMode p ≠ 0 → s.linkUp p = true →
    frameType b = 0x8808 → s.Holds (O0F.PAUSE_RX p) a → a + 1 < 2 ^ bitsOf (O0F.PAUSE_RX p) →
    Completes (.frameIngress p slot b 0) s fun t =>
      t.Holds (O0F.PAUSE_RX p) (a + 1) ∧ bit (t.n (O0F.PORT_FLAGS p)) 1 = true ∧ t.net = s.net) ∧
  (∀ (s : State) (p slot : Nat) (b : List Byte), s.UpAt 0x0F p → p < 224 → s.portMode p ≠ 0 → s.linkUp p = true → 14 ≤ b.length →
    b.length ≤ 1518 → frameType b ≠ 0x8100 → frameType b ≠ 0x8808 → s.n (O0F.MACSEC_MODE p) = 0 → frameDst b = 0x0180C2000000 →
    s.net.trap.length < 256 → Completes (.frameIngress p slot b 0) s fun t =>
      t.net.trap = s.net.trap ++ [d16 p ++ d16 b.length ++ d64 s.tick64 ++ b] ∧ t.net.queues = s.net.queues) ∧
  (∀ (s : State) (p q slot vid pcp : Nat) (b : List Byte) (v : VlanEnt) (e g : FdbEnt), s.UpAt 0x0F p → p < 224 → q < 224 → q ≠ p →
    s.present 0x0F q = true → s.portMode p ≠ 0 → s.portMode q ≠ 0 → s.linkUp p = true → s.n (O0F.STP_STATE p) = 2 →
    s.n (O0F.STP_STATE q) = 2 → s.n (O0F.MACSEC_MODE p) = 0 → 14 ≤ b.length → b.length + 4 ≤ 9216 → frameType b ≠ 0x8100 →
    frameType b ≠ 0x8808 → frameType b ≠ 0x88CC → frameType b ≠ 0x888E → frameDst b ≠ 0x0180C2000000 → s.n (O0F.PVID p) = vid →
    s.n (O0F.DEFAULT_PCP p) = pcp → s.linkLocal p b = false → s.terminate p (s.slotAt slot) vid pcp b = none →
    s.safeHold = false → SMap.find? s.net.vlans vid = some v → bit v.members q = true → s.n (O0F.ACCEPT p) = 0 → s.b (O0F.INGRESS_FILTER p) = false →
    s.filterOf p ⟨b, vid, pcp, 0xFFFF, 0, false⟩ = none → isGroup (frameSrc b) = false → isGroup (frameDst b) = false →
    frameSrc b ≠ frameDst b → SMap.find? s.net.fdb (frameSrc b * 4096 + vid) = some e → e.fixed = false →
    SMap.find? s.net.fdb (frameDst b * 4096 + vid) = some g → g.port = q → s.bufferFull q ⟨b, vid, pcp, 0xFFFF, 0, false⟩ = false →
    Completes (.frameIngress p slot b 0) s fun t =>
      SMap.getD t.net.queues (8 * q + pcp % 8) [] =
        SMap.getD s.net.queues (8 * q + pcp % 8) [] ++ [⟨b, vid, pcp, 0xFFFF, 0, false⟩] ∧
      SMap.find? t.net.fdb (frameSrc b * 4096 + vid) = some ⟨p, false, s.now⟩ ∧ t.net.trap = s.net.trap) ∧
  (∀ (s : State) (mac vid : Nat) (e : FdbEnt), s.Up → SMap.rising s.net.fdb = true → SMap.find? s.net.fdb (mac * 4096 + vid) = some e →
    e.fixed = false → e.time + 192000 * s.n O0F.AGEING_TIME ≤ s.now → Completes (.fdbAgeing mac vid) s fun t =>
      SMap.find? t.net.fdb (mac * 4096 + vid) = none ∧ SameOutside [.net] (fun _ => False) s t) ∧
  (∀ (s : State) (mac vid : Nat) (e : FdbEnt), s.Up → SMap.find? s.net.fdb (mac * 4096 + vid) = some e → e.fixed = true →
    Completes (.fdbAgeing mac vid) s fun t => t = s) ∧
  (∀ (s : State) (p : Nat), s.Up → s.served = true → Completes (.fdbFlush p) s fun t =>
    t.net.fdb = (s.net.fdb.filter fun e => e.2.fixed || !(p == 0xFFFF || e.2.port == p)) ∧ SameOutside [.net] (fun _ => False) s t) ∧
  (∀ (s : State) (f : List Byte) (l : List (List Byte)), s.Up → s.served = true → s.net.trap = f :: l → Completes .trapFrame s fun t =>
    t.net.trap = l ∧ SameOutside [.net] (fun _ => False) s t) ∧
  (∀ (s : State) (p len : Nat) (b : List Byte), s.Up → s.served = true → natBE (b.take 2) = p → natBE (slice b 2 2) = len →
    b.length = 12 + len → 14 ≤ len → len ≤ 1518 → s.present 0x0F p = true → p < 224 → s.secured p = false →
    Completes (.trapSend b) s fun t => t.sent = s.sent ++ [.frame p 1 (b.drop 12)])

/-- R354, R356, R357: associations are installed, next hops are resolved, and group memberships are reported. -/
def Obligations.PortsInstallKeysAndResolveNextHops : Prop :=
  (∀ (s : State) (p an : Nat), s.UpAt 0x0F p → s.served = true → p < 224 → an < 4 → Completes (.macsecTxAn p an) s fun t =>
    t.Holds (O0F.MACSEC_TX_AN p) an ∧ t.net = s.net ∧ SameOutside [] (fun k => k = O0F.MACSEC_TX_AN p) s t) ∧
  (∀ (s : State) (p : Nat) (v : List Byte) (o : Opened), s.UpAt 0x0F p → s.served = true → p < 224 → 38 < v.length → v.length ≤ 550 →
    natBE (slice v 36 2) = v.length - 38 → v.getD 0 0 = 0 → v.getD 1 0 = 0 → (v.getD 2 0).toNat ≤ 3 → v.getD 3 0 = 0 →
    s.n (O0F.MACSEC_CIPHER p) = 1 → s.installBlob (v.drop 38) 1 p 0 = .ok o →
    SMap.find? s.net.sas (State.saKey p 0 0 (v.getD 2 0).toNat) = none → Completes (.macsecSa p v) s fun t =>
      SMap.find? t.net.sas (State.saKey p 0 0 (v.getD 2 0).toNat) =
        some ⟨o.key, natBE (slice v 12 8), (natBE (s.bs O00.BASE_MAC) + 256 + p) * 65536 + 1, natBE (slice v 20 4), slice v 24 12, o.path,
          natBE (slice v 12 8)⟩ ∧
      t.Raised 0xE20) ∧
  (∀ (s : State) (p e : Nat) (v : List Byte), s.UpAt 0x0F p → s.served = true → p < 224 → 38 < v.length → v.length ≤ 550 →
    natBE (slice v 36 2) = v.length - 38 → v.getD 0 0 = 0 → v.getD 1 0 = 0 → (v.getD 2 0).toNat ≤ 3 → v.getD 3 0 = 0 →
    s.n (O0F.MACSEC_CIPHER p) = 1 → s.installBlob (v.drop 38) 1 p 0 = .error e → Completes (.macsecSa p v) s fun t =>
      t.net.sas = s.net.sas ∧ t.net.newSas = s.net.newSas) ∧
  (∀ (s : State) (iface addr mac i c : Nat), s.Up → iface < 64 → s.b (O0F.IF_ENABLE (0x100 + iface)) = true → i ∈ s.enabledFlows 0x0D →
    c ∈ s.sendPaths i → pathIf (s.sendPath i c) = iface → s.nextHop i c = addr → groupIp (s.sendDest i c) = false →
    Completes (.arpReply iface addr mac) s fun t => t.arp i c = ⟨some (mac % 2 ^ 48), 0, s.now⟩ ∧ t.sent = s.sent) ∧
  (∀ (s : State) (i c : Nat), s.UpAt 0x0D i → c < 2 → s.n (O0D.SEND_STATE i) ≠ 0 → groupIp (s.sendDest i c) = false →
    pathPort (s.sendPath i c) ≠ 0xFFFF → ((s.arp i c).mac = none ∨ (s.arp i c).tries ≠ 0 ∧ (s.arp i c).tries < 3) →
    (s.arp i c).at_ + 192000 ≤ s.now → Completes (.arpRefresh i c) s fun t =>
      let port := pathPort (s.sendPath i c)
      let k := 0x100 + pathIf (s.sendPath i c)
      let pcp := s.n (O0F.DEFAULT_PCP port)
      let request := arpFrame (s.ifaceMac (pathIf (s.sendPath i c))) (s.n (O0F.IF_ADDR k)) (s.nextHop i c)
      SMap.getD t.net.queues (8 * port + pcp % 8) [] =
        SMap.getD s.net.queues (8 * port + pcp % 8) [] ++ [⟨request, s.n (O0F.IF_VID k), pcp, 0xFFFF, 0, false⟩] ∧
      t.arp i c = ⟨(s.arp i c).mac, (s.arp i c).tries + 1, s.now⟩ ∧ SameOutside [.net] (· = O10.CBS_CREDIT (0x800 + port)) s t) ∧
  (∀ (s : State) (i c : Nat), s.UpAt 0x0D i → c < 2 → s.n (O0D.SEND_STATE i) ≠ 0 → 3 ≤ (s.arp i c).tries →
    (s.arp i c).mac ≠ none → (s.arp i c).at_ + 192000 ≤ s.now → Completes (.arpRefresh i c) s fun t =>
      t.Raised 0x0D2 ∧ bit (t.n (O0D.SEND_FLAGS i)) 1 = true ∧ t.arp i c = ⟨(s.arp i c).mac, 0, s.now⟩) ∧
  (∀ (s : State) (iface i c : Nat), s.Up → iface < 64 → s.b (O0F.IF_ENABLE (0x100 + iface)) = true → i ∈ s.enabledFlows 0x0E →
    c ∈ s.rxPaths i → pathIf (s.rxPath i c) = iface → groupIp (s.rxGroup i c) = true → Completes (.igmpQuery iface true) s fun t =>
      let port := pathPort (s.rxPath i c)
      let pcp := s.n (O0F.DEFAULT_PCP port)
      let report := igmpReport true 0 (s.ifaceMac iface) (s.n (O0F.IF_ADDR (0x100 + iface))) (s.rxGroup i c) (s.rxSource i c)
      SMap.find? t.net.querier iface = some s.now ∧
      (⟨report, s.n (O0F.IF_VID (0x100 + iface)), pcp, 0xFFFF, 0, false⟩ : Frame) ∈ SMap.getD t.net.queues (8 * port + pcp % 8) [])

/-- R364, R369 to R371, R373, R374: a sender runs once its next hops are known and is held by its causes; a receiver starts with its first
packet, loses its paths, and closes a line group, and with the last of them its frame, once MERGE_WINDOW has passed. -/
def Obligations.SendersAndReceiversMoveBetweenTheirStates : Prop :=
  (∀ (s : State) (i : Nat), s.UpAt 0x0D i → s.n (O0D.SEND_STATE i) = 1 → ((s.sendPaths i).all fun c => (s.pathMac i c).isSome) = true →
    Completes (.senderResolved i) s fun t =>
      t.Holds (O0D.SEND_STATE i) 2 ∧ t.Raised 0x0D0 ∧ SMap.find? t.net.begun i = some ((s.tick64 + 1) * 500)) ∧
  (∀ (s : State) (i : Nat), s.UpAt 0x0D i → s.n (O0D.SEND_STATE i) = 2 → s.heldCause i = true → Completes (.senderHeld i) s fun t =>
    t.Holds (O0D.SEND_STATE i) 3 ∧ bit (t.n (O0D.SEND_FLAGS i)) 2 = true ∧ t.Raised 0x0D1) ∧
  (∀ (s : State) (i : Nat), s.UpAt 0x0D i → s.n (O0D.SEND_STATE i) = 3 → s.heldCause i = false → Completes (.senderHeld i) s fun t =>
    t.Holds (O0D.SEND_STATE i) 2 ∧ SameOutside [.net] (fun k => k = O0D.SEND_STATE i) s t) ∧
  (∀ (s : State) (rx c src sport ns spp found a : Nat) (l : List (Nat × Nat × List Byte)) (b : List Byte) (p : Rtp), s.UpAt 0x0E rx →
    s.n (O0E.RX_STATE rx) ≠ 0 → c ∈ s.rxPaths rx → s.igmpV2 (pathIf (s.rxPath rx c)) = false → s.n (O0E.ESSENCE rx) ≠ 5 →
    rtpOf b = some p → p.pt ≠ s.n (O0E.RX_PT rx) → s.Holds (O0E.WRONG_PT rx) a → a + 1 < 2 ^ bitsOf (O0E.WRONG_PT rx) →
    Completes (.rtpPacketRx rx c src sport ns spp found l b) s fun t =>
      t.Holds (O0E.WRONG_PT rx) (a + 1) ∧ t.net = s.net ∧ t.inputs = s.inputs) ∧
  (∀ (s : State) (rx c src sport ns spp found : Nat) (l : List (Nat × Nat × List Byte)) (b : List Byte), s.UpAt 0x0E rx →
    s.n (O0E.RX_STATE rx) ≠ 0 → c ∈ s.rxPaths rx → s.igmpV2 (pathIf (s.rxPath rx c)) = true → s.rxSource rx c ≠ 0 →
    s.rxSource rx c ≠ src → Completes (.rtpPacketRx rx c src sport ns spp found l b) s fun t => t = s) ∧
  (∀ (s : State) (rx c src sport ns spp found : Nat) (l : List (Nat × Nat × List Byte)) (b : List Byte) (p : Rtp), s.UpAt 0x0E rx →
    s.n (O0E.RX_STATE rx) = 1 → c ∈ s.rxPaths rx → s.igmpV2 (pathIf (s.rxPath rx c)) = false → s.n (O0E.ESSENCE rx) = 1 →
    rtpOf b = some p → p.pt = s.n (O0E.RX_PT rx) → (s.rx rx).got = [] →
    Completes (.rtpPacketRx rx c src sport ns spp found l b) s fun t =>
      t.Holds (O0E.RX_STATE rx) 2 ∧ t.Raised 0x0E0 ∧ bit (t.n (O0E.PATH_STATES rx)) c = true) ∧
  (∀ (s : State) (rx c src sport ns spp found : Nat) (l : List (Nat × Nat × List Byte)) (b : List Byte), s.UpAt 0x0E rx →
    s.n (O0E.RX_STATE rx) = 1 → c ∈ s.rxPaths rx → s.igmpV2 (pathIf (s.rxPath rx c)) = false → s.n (O0E.ESSENCE rx) = 5 →
    (s.rx rx).cellsAt ≠ s.tick64 → ceilDiv (16 + b.length) 128 ≤ s.n (O0E.RX_DATA_CELLS rx) →
    Completes (.rtpPacketRx rx c src sport ns spp found l b) s fun t =>
      t.Holds (O0E.RX_STATE rx) 2 ∧ t.Raised 0x0E0 ∧
      t.sent = s.sent ++ [.media 0x0E rx ((d16 b.length ++ d32 src ++ d32 (s.rxGroup rx c) ++ d16 sport ++ d16 (s.n (O0E.RX_UDP rx)) ++
        d16 rx ++ b).map (·.toNat))]) ∧
  (∀ (s : State) (rx c v : Nat), s.UpAt 0x0E rx → c < 2 → s.Holds (O0E.PATH_STATES rx) v → bit v c = true → clearBits v (2 ^ c) ≠ 0 →
    (if c = 0 then (s.rx rx).seenA else (s.rx rx).seenB) + ceilDiv (s.n (O0E.PATH_TIMEOUT rx) * 192) 1000 ≤ s.now →
    Completes (.pathTimeout rx c) s fun t =>
      t.Holds (O0E.PATH_STATES rx) (clearBits v (2 ^ c)) ∧ t.Raised 0x0E2 ∧ bit (t.n (O0E.RX_FLAGS rx)) 1 = true ∧
      t.stored (O0E.RX_STATE rx) = s.stored (O0E.RX_STATE rx)) ∧
  (∀ (s : State) (rx c v : Nat), s.UpAt 0x0E rx → c < 2 → s.Holds (O0E.PATH_STATES rx) v → bit v c = true → clearBits v (2 ^ c) = 0 →
    2 ≤ s.n (O0E.RX_STATE rx) →
    (if c = 0 then (s.rx rx).seenA else (s.rx rx).seenB) + ceilDiv (s.n (O0E.PATH_TIMEOUT rx) * 192) 1000 ≤ s.now →
    Completes (.pathTimeout rx c) s fun t =>
      t.Holds (O0E.PATH_STATES rx) 0 ∧ t.Holds (O0E.RX_STATE rx) 1 ∧ t.Raised 0x0E2 ∧ t.Raised 0x0E1) ∧
  (∀ (s : State) (rx at_ : Nat) (u : RxUnit), s.UpAt 0x0E rx → s.n (O0E.ESSENCE rx) = 0 → s.n (O0E.RX_STATE rx) ≠ 0 →
    fmtScan (s.n (O0E.RX_FORMAT rx)) = 0 → 2 ≤ rxGroups (s.n (O0E.RX_FORMAT rx)) → 0 < rxGroupBytes (s.n (O0E.RX_FORMAT rx)) 0 →
    (s.rx rx).units = [u] → u.second = false → u.sent = 0 → u.closed = [] → u.parts = [] → u.first = [(1, at_)] →
    at_ + ceilDiv (s.n (O0E.MERGE_WINDOW rx) * 192) 1000 ≤ s.now → Completes (.lineGroupClosure rx) s fun t =>
      (t.rx rx).queue = (s.rx rx).queue ++
        [((s.input (0x1000 + rx)).frame, 0, s.earlierGroup rx 0 (rxGroupBytes (s.n (O0E.RX_FORMAT rx)) 0))] ∧
      (t.rx rx).units = [{ u with closed := [0], sent := 1 }] ∧ (s.n (O0E.RX_LOSS_FILL rx) = 1 → (t.input (0x1000 + rx)).bad = true)) ∧
  (∀ (s : State) (rx at_ k : Nat) (u v : RxUnit), s.UpAt 0x0E rx → s.n (O0E.ESSENCE rx) = 0 → s.n (O0E.RX_STATE rx) = 1 →
    fmtScan (s.n (O0E.RX_FORMAT rx)) = 0 → rxGroups (s.n (O0E.RX_FORMAT rx)) = k + 1 → (s.rx rx).units = [u, v] →
    laterStamp v.stamp u.stamp = true → u.second = false → u.sent = k → (∀ g, g < k → g ∈ u.closed) → k ∉ u.closed → v.second = false →
    v.sent = 0 → v.closed = [] → v.first = [(0, at_)] → at_ + ceilDiv (s.n (O0E.MERGE_WINDOW rx) * 192) 1000 ≤ s.now → u.fits = true →
    Completes (.lineGroupClosure rx) s fun t =>
      t.Holds (O0E.RX_STATE rx) 2 ∧ t.Raised 0x0E0 ∧ (t.input (0x1000 + rx)).frame = (s.input (0x1000 + rx)).frame + 1 ∧
      (t.rx rx).units = [v] ∧ (t.rx rx).done = some u.stamp) ∧
  (∀ (s : State) (rx at_ k : Nat) (u v : RxUnit), s.UpAt 0x0E rx → s.n (O0E.ESSENCE rx) = 0 → s.n (O0E.RX_STATE rx) = 2 →
    fmtScan (s.n (O0E.RX_FORMAT rx)) = 0 → rxGroups (s.n (O0E.RX_FORMAT rx)) = k + 1 → (s.rx rx).units = [u, v] →
    laterStamp v.stamp u.stamp = true → u.second = false → u.sent = k → (∀ g, g < k → g ∈ u.closed) → k ∉ u.closed → v.second = false →
    v.sent = 0 → v.closed = [] → v.first = [(0, at_)] → at_ + ceilDiv (s.n (O0E.MERGE_WINDOW rx) * 192) 1000 ≤ s.now → u.fits = false →
    Completes (.lineGroupClosure rx) s fun t =>
      t.Holds (O0E.RX_STATE rx) 3 ∧ t.Raised 0x0E4 ∧ bit (t.n (O0E.RX_FLAGS rx)) 0 = true ∧
      (t.input (0x1000 + rx)).frame = (s.input (0x1000 + rx)).frame + 1 ∧ (t.rx rx).done = some u.stamp)

/-- R388, R394, R396, R397, R400: a sender's packets enter its pacer with the sequence numbers of their schedule and leave it at their release
slots, a shaped frame leaves its shaper once it is eligible, and the frame that may start leaves its port. -/
def Obligations.PacedAndShapedFramesLeaveInTheirSlots : Prop :=
  (∀ (s : State) (link word i : Nat) (l : List (List Byte)), s.Up → s.inChain link word = true → entOp word = 6 →
    (s.chain.stalls.any fun o => o.link == link && o.word == word) = false → s.releaseOf word = some i → s.n (O0D.SEND_STATE i) = 2 →
    s.n (O0D.ESSENCE i) ≠ 3 → s.n (O0D.ESSENCE i) ≠ 5 → s.lastRelease link word = true → Completes (.release link word l) s fun t =>
      SMap.getD t.net.seqs i 0 =
        (SMap.getD s.net.seqs i 0 + ((s.duePackets i).drop (s.releaseBefore link word)).length) % 2 ^ 32) ∧
  (∀ (s : State) (link word i c : Nat) (l : List (List Byte)) (b : List Byte) (d : Nat × Nat × Bool × Nat × Nat), s.Up →
    s.inChain link word = true → entOp word = 6 → (s.chain.stalls.any fun o => o.link == link && o.word == word) = false →
    s.releaseOf word = some i → s.n (O0D.SEND_STATE i) = 2 → s.n (O0D.ESSENCE i) ≠ 3 → s.n (O0D.ESSENCE i) ≠ 5 →
    s.sendPaths i = [c] → 0 < entArg word % 256 → s.lastRelease link word = true →
    (s.duePackets i).drop (s.releaseBefore link word) = [d] →
    (if s.n (O0D.ESSENCE i) = 0 then s.videoPayload i (SMap.getD s.net.seqs i 0 % 2 ^ 32) d.2.2.2.1 d.2.2.2.2
      else if s.n (O0D.ESSENCE i) = 4 then l[0]? else s.audioPayload i d.2.2.2.1) = some b → Completes (.release link word l) s fun t =>
      SMap.getD t.net.pacers i [] = SMap.getD s.net.pacers i [] ++
        [(d.1, c, { s.packet i (SMap.getD s.net.seqs i 0 % 2 ^ 32) d.2.1 d.2.2.1 b with release := d.1 })]) ∧
  (∀ (s : State) (link word : Nat) (l : List (List Byte)) (o : Owing), s.Up → s.inChain link word = true → entOp word = 6 →
    s.chain.stalls = [o] → o.link = link → o.word = word → Completes (.release link word l) s fun t =>
      t.chain.owing = s.chain.owing ++ [⟨word, link, 1, o.cause, []⟩] ∧ t.chain.stalls = [] ∧ t.net = s.net) ∧
  (∀ (s : State) (i slot k : Nat) (x : ShapeSt) (f : Frame), s.Up → slot < 500 → SMap.find? s.net.drains i = none →
    s.wheelDue (s.slotAt slot) = [(k, 7 - f.pcp % 8, 1, i)] → SMap.find? s.net.shapers i = some x → x.queue = [f] → x.rate ≠ 0 →
    0 ≤ (s.shapeTo x k).level → Completes (.shaperEligible i slot) s fun t =>
      SMap.getD t.net.queues (8 * x.port + f.pcp % 8) [] = SMap.getD s.net.queues (8 * x.port + f.pcp % 8) [] ++ [f] ∧
      (SMap.find? t.net.shapers i).map (·.queue) = some []) ∧
  (∀ (s : State) (i slot : Nat) (x : ShapeSt) (f : Frame) (l : List Frame), s.Up → slot < 500 → SMap.find? s.net.drains i = none →
    s.wheelDue (s.slotAt slot) = [] → SMap.find? s.net.shapers i = some x → x.queue = f :: l → (s.shapeTo x (s.slotAt slot)).level < 0 →
    Completes (.shaperEligible i slot) s fun t =>
      t.net.queues = s.net.queues ∧ (SMap.find? t.net.shapers i).map (·.queue) = some (f :: l)) ∧
  (∀ (s : State) (i slot a c : Nat) (f : Frame), s.UpAt 0x0D i → slot < 500 → SMap.rising s.net.pacers = true →
    s.wheelDue (s.slotAt slot) = [(a, 7 - f.pcp % 8, 0, i)] → SMap.getD s.net.pacers i [] = [(a, c, f)] → s.pathCarries i c = true →
    s.filterOfSender i = none → Completes (.pacerReleaseSlot i slot) s fun t =>
      let p := pathPort (s.sendPath i c)
      let k := 0x100 + pathIf (s.sendPath i c)
      let udp := udpDatagram (s.n (O0D.SEND_UDP i) / 65536) (s.n (O0D.SEND_UDP i) % 65536) f.body
      let ip := ipPacket (field (s.n (O0D.SEND_MARKING i)) 13 8) 17 (s.n (O0F.IF_ADDR k)) (s.sendDest i c) udp
      let b := etherFrame ((s.pathMac i c).getD 0) (s.ifaceMac (pathIf (s.sendPath i c))) 0x0800 ip
      let g : Frame := { f with body := b, vid := s.n (O0F.IF_VID k) }
      SMap.getD t.net.queues (8 * p + f.pcp % 8) [] =
        SMap.getD s.net.queues (8 * p + f.pcp % 8) [] ++ (if s.bufferFull p g then [] else [g]) ∧
      SMap.getD t.net.pacers i [] = []) ∧
  (∀ (s : State) (i slot a c : Nat) (f : Frame), s.UpAt 0x0D i → slot < 500 → s.wheelDue (s.slotAt slot) = [(a, 7 - f.pcp % 8, 0, i)] →
    SMap.getD s.net.pacers i [] = [(a, c, f)] → s.pathCarries i c = false →
    Completes (.pacerReleaseSlot i slot) s fun t => t.net.queues = s.net.queues ∧ bit (t.n (O0D.SEND_FLAGS i)) 0 = true) ∧
  (∀ (s : State) (p slot tc : Nat) (f : Frame) (l : List Frame), s.UpAt 0x0F p → p < 232 → slot < 500 → s.linkUp p = true →
    SMap.getD s.net.macFree p 0 ≤ s.slotAt slot → s.cbsTc p 0 = 0xFF → s.cbsTc p 1 = 0xFF →
    s.b (O10.GATE_ENABLE (0x800 + p)) = false → s.nextTc p (s.slotAt slot) = some tc →
    SMap.rising s.net.queues = true → SMap.getD s.net.queues (8 * p + tc) [] = f :: l → f.release = 0 → f.sender = 0xFFFF →
    s.secured p = false → s.untaggedOn f.vid p = true → Completes (.transmissionStart p slot) s fun t =>
      t.sent = s.sent ++ [.frame p 1 f.body] ∧ SMap.getD t.net.queues (8 * p + tc) [] = l) ∧
  (∀ (s : State) (p slot tc : Nat) (f : Frame) (l : List Frame), s.UpAt 0x0F p → p < 232 → slot < 500 → s.linkUp p = true →
    SMap.getD s.net.macFree p 0 ≤ s.slotAt slot → s.cbsTc p 0 = 0xFF → s.cbsTc p 1 = 0xFF →
    s.b (O10.GATE_ENABLE (0x800 + p)) = false → s.nextTc p (s.slotAt slot) = some tc →
    SMap.getD s.net.queues (8 * p + tc) [] = f :: l → f.release = 0 → f.sender = 0xFFFF → s.secured p = false →
    s.untaggedOn f.vid p = false → Completes (.transmissionStart p slot) s fun t =>
      t.sent = s.sent ++ [.frame p 1 (f.body.take 12 ++ d16 0x8100 ++ d16 (f.pcp * 8192 + f.vid) ++ f.body.drop 12)]) ∧
  (∀ (s : State) (p slot : Nat) (g : GateSt), s.UpAt 0x10 (0x800 + p) → p < 224 → slot < 500 → SMap.find? s.net.gates p = some g →
    Completes (.gateChange p slot) s fun t => SMap.find? t.net.gates p = some { g with gates := s.gatesAt p (s.slotAt slot) }) ∧
  (∀ (s : State) (p slot start x : Nat) (o : Option GateList) (g : GateList), s.UpAt 0x10 (0x800 + p) → p < 224 → slot < 500 →
    SMap.find? s.net.gates p = some ⟨o, some (g, start), x⟩ → nsSlot start ≤ s.slotAt slot → Completes (.gateListStart p slot) s fun t =>
      t.Holds (O10.OPER_STATE (0x800 + p)) 2 ∧ t.Holds (O10.OPER_BASE (0x800 + p)) (nsTime start) ∧ t.Raised 0x104 ∧
      SMap.find? t.net.gates p = some ⟨some g, none, x⟩)

/-- R416, R418: a lane's receiver adapts, locks, times out and is lost. -/
def Obligations.LaneReceiversAdaptLockAndAreLost : Prop :=
  (∀ (s : State) (l n : Nat) (d : List Byte), s.UpAt 0x11 l → s.n (O11.RX_STATE l) = 1 → s.n (O11.EQ_MODE l) < 2 →
    (s.lane l).converged = some (n, d) → Completes (.rxSignalDetect l) s fun t =>
      t.Holds (O11.RX_STATE l) 2 ∧ t.lane l = { s.lane l with eq := some (n, d), adapting := s.now } ∧
      SameOutside [.lanes] (fun k => k = O11.RX_STATE l) s t) ∧
  (∀ (s : State) (l : Nat), s.UpAt 0x11 l → s.n (O11.RX_STATE l) = 1 → ((s.lane l).converged = none ∨ s.n (O11.EQ_MODE l) = 2) →
    Completes (.rxSignalDetect l) s fun t =>
      t.Holds (O11.RX_STATE l) 2 ∧
      t.lane l = { s.lane l with eq := some (s.n (O11.CTLE_PEAK l), s.bs (O11.DFE_TAPS l)), adapting := s.now } ∧
      SameOutside [.lanes] (fun k => k = O11.RX_STATE l) s t) ∧
  (∀ (s : State) (l ctle : Nat) (d : List Byte), s.UpAt 0x11 l → s.n (O11.RX_STATE l) = 2 → s.n (O11.EQ_MODE l) = 0 →
    Completes (.rxLocked l ctle d) s fun t =>
      t.Holds (O11.RX_STATE l) 3 ∧ t.Raised 0x110 ∧
      t.lane l = { s.lane l with eq := some (ctle % 16, d.take 12), converged := some (ctle % 16, d.take 12), eqReported := false }) ∧
  (∀ (s : State) (l ctle : Nat) (d : List Byte), s.UpAt 0x11 l → s.n (O11.RX_STATE l) = 2 → s.n (O11.EQ_MODE l) = 2 →
    Completes (.rxLocked l ctle d) s fun t =>
      t.Holds (O11.RX_STATE l) 3 ∧ t.Raised 0x110 ∧
      t.lane l = { s.lane l with eq := some (s.n (O11.CTLE_PEAK l), s.bs (O11.DFE_TAPS l)), eqReported := false }) ∧
  (∀ (s : State) (l : Nat), s.UpAt 0x11 l → s.n (O11.RX_STATE l) = 2 → s.n (O11.EQ_MODE l) ≠ 1 →
    (s.lane l).adapting + s.adaptLimit l ≤ s.now → Completes (.adaptationTimeout l) s fun t =>
      t.n (O11.RX_STATE l) = 2 ∧ bit (t.n (O11.LANE_FLAGS l)) 1 = true ∧ ((s.lane l).eqReported = false → t.Raised 0x113) ∧
      t.lane l =
        { s.lane l with eq := some (s.n (O11.CTLE_PEAK l), s.bs (O11.DFE_TAPS l)), adapting := s.now, eqReported := true }) ∧
  (∀ (s : State) (l : Nat), s.UpAt 0x11 l → s.n (O11.RX_STATE l) = 2 → (s.lane l).adapting + s.adaptLimit l ≤ s.now →
    (s.lane l).eqReported = true → Completes (.adaptationTimeout l) s fun t =>
      bit (t.n (O11.LANE_FLAGS l)) 1 = true ∧ t.evu = s.evu ∧ (t.lane l).adapting = s.now) ∧
  (∀ (s : State) (l : Nat), s.UpAt 0x11 l → s.n (O11.RX_STATE l) = 2 → s.now < (s.lane l).adapting + s.adaptLimit l →
    Completes (.adaptationTimeout l) s fun t => t = s) ∧
  (∀ (s : State) (l a : Nat), s.UpAt 0x11 l → s.n (O11.RX_STATE l) = 3 → s.jobOf (O11.EYE_SCAN l) = none →
    s.Holds (O11.RX_LOCK_LOSSES l) a → a + 1 < 2 ^ bitsOf (O11.RX_LOCK_LOSSES l) → Completes (.rxLost l true) s fun t =>
      t.Holds (O11.RX_STATE l) 2 ∧ t.Holds (O11.RX_LOCK_LOSSES l) (a + 1) ∧ bit (t.n (O11.LANE_FLAGS l)) 0 = true ∧ t.Raised 0x111) ∧
  (∀ (s : State) (l j : Nat), s.UpAt 0x11 l → s.n (O11.RX_STATE l) = 3 → s.jobOf (O11.EYE_SCAN l) = some j → s.n (O1B.JOB_STATE j) = 2 →
    ((s.job? j).getD JobSt.none_).ready = false → Completes (.rxLost l false) s fun t =>
      t.Holds (O11.RX_STATE l) 1 ∧ t.Holds (O1B.JOB_STATE j) 4 ∧ t.Holds (O1B.JOB_STATUS j) ABORTED ∧ t.Raised 0x111 ∧ t.Raised 0x1B4) ∧
  (∀ (s : State) (l : Nat), s.UpAt 0x11 l → s.n (O11.RX_STATE l) = 2 → Completes (.rxLost l false) s fun t =>
    t.Holds (O11.RX_STATE l) 1 ∧ SameOutside [] (fun k => k = O11.RX_STATE l) s t)

/-- R421, R422: the elastic buffer of an EZAVO lane takes and gives slots, with fillers deleted and inserted, and its rate offset is watched. -/
def Obligations.ElasticBuffersAndRateOffsets : Prop :=
  (∀ (s : State) (l x : Nat), s.UpAt 0x11 l → s.n (O11.LANE_MODE l) = 5 → (x ≠ 0 ∨ (s.lane l).elastic.length ≤ 8) →
    (s.lane l).elastic.length < 16 → Completes (.elasticSlotRx l x) s fun t =>
      t.lane l = { s.lane l with elastic := (s.lane l).elastic ++ [x] } ∧ SameOutside [.lanes] (fun _ => False) s t) ∧
  (∀ (s : State) (l a : Nat), s.UpAt 0x11 l → s.n (O11.LANE_MODE l) = 5 → 8 < (s.lane l).elastic.length →
    s.Holds (O11.FILLER_DELETED l) a → a + 1 < 2 ^ bitsOf (O11.FILLER_DELETED l) → Completes (.elasticSlotRx l 0) s fun t =>
      t.Holds (O11.FILLER_DELETED l) (a + 1) ∧ t.lanes = s.lanes) ∧
  (∀ (s : State) (l x a : Nat), s.UpAt 0x11 l → s.n (O11.LANE_MODE l) = 5 → x ≠ 0 → 16 ≤ (s.lane l).elastic.length →
    s.Holds (O11.ELASTIC_SLIPS l) a → a + 1 < 2 ^ bitsOf (O11.ELASTIC_SLIPS l) → Completes (.elasticSlotRx l x) s fun t =>
      t.Holds (O11.ELASTIC_SLIPS l) (a + 1) ∧ bit (t.n (O11.LANE_FLAGS l)) 5 = true ∧
      (t.lane l).elastic = (s.lane l).elastic.take 15 ++ [x]) ∧
  (∀ (s : State) (l : Nat), s.UpAt 0x11 l → s.n (O11.LANE_MODE l) = 5 → 8 ≤ (s.lane l).elastic.length →
    Completes (.elasticSlotRead l) s fun t =>
      t.lane l = { s.lane l with elastic := (s.lane l).elastic.drop 1, slot := (s.lane l).elastic.headD 0 } ∧
      SameOutside [.lanes] (fun _ => False) s t) ∧
  (∀ (s : State) (l a : Nat), s.UpAt 0x11 l → s.n (O11.LANE_MODE l) = 5 → (s.lane l).elastic.length < 8 →
    s.Holds (O11.FILLER_INSERTED l) a → a + 1 < 2 ^ bitsOf (O11.FILLER_INSERTED l) → Completes (.elasticSlotRead l) s fun t =>
      t.Holds (O11.FILLER_INSERTED l) (a + 1) ∧ t.lane l = { s.lane l with slot := 0 }) ∧
  (∀ (s : State) (l : Nat) (z : Int), s.UpAt 0x11 l → z.natAbs ≤ 30000 → Completes (.rateOffsetUpdate l z) s fun t =>
    t.Holds (O11.RATE_OFFSET l) (unsigned 32 z) ∧ (t.lane l).rateSince = none ∧ (t.lane l).rateReported = false ∧ t.evu = s.evu) ∧
  (∀ (s : State) (l a : Nat) (z : Int), s.UpAt 0x11 l → 30000 < z.natAbs → (s.lane l).rateSince = some a → a + 192 ≤ s.now →
    (s.lane l).rateReported = false → Completes (.rateOffsetUpdate l z) s fun t =>
      t.Holds (O11.RATE_OFFSET l) (unsigned 32 z) ∧ t.Raised 0x119 ∧ bit (t.n (O11.LANE_FLAGS l)) 6 = true ∧
      (t.lane l).rateReported = true) ∧
  (∀ (s : State) (l : Nat) (z : Int), s.UpAt 0x11 l → 30000 < z.natAbs → (s.lane l).rateSince = none →
    Completes (.rateOffsetUpdate l z) s fun t =>
      t.Holds (O11.RATE_OFFSET l) (unsigned 32 z) ∧ (t.lane l).rateSince = some s.now ∧ t.evu = s.evu)

/-- R424 to R428: the checker of a lane in TEST finds and loses the pattern, windows are reported, and an eye scan gives its map. -/
def Obligations.LaneTestsCountErrorsAndScanEyes : Prop :=
  (∀ (s : State) (l e b : Nat), s.UpAt 0x11 l → s.n (O11.CHK_STATE l) = 1 → Completes (.prbsSync l false e b) s fun t =>
    t.Holds (O11.CHK_STATE l) 2 ∧ t.Raised 0x114 ∧ t.lanes = s.lanes) ∧
  (∀ (s : State) (l e b a v : Nat), s.UpAt 0x11 l → s.n (O11.CHK_STATE l) = 2 → s.Holds (O11.SYNC_LOSSES l) a →
    a + 1 < 2 ^ bitsOf (O11.SYNC_LOSSES l) → s.Holds (O11.ERR_BITS l) v → v + e < 2 ^ 48 - 1 → Completes (.prbsSync l true e b) s fun t =>
      t.Holds (O11.CHK_STATE l) 1 ∧ t.Holds (O11.SYNC_LOSSES l) (a + 1) ∧ t.Holds (O11.ERR_BITS l) (v + e) ∧
      (t.lane l).winSearch = true ∧ bit (t.n (O11.LANE_FLAGS l)) 2 = true ∧ t.Raised 0x115) ∧
  (∀ (s : State) (l e b : Nat), s.UpAt 0x11 l → s.n (O11.LANE_MODE l) = 9 → s.n (O11.CHK_STATE l) = 2 → s.windowDue l = true →
    s.safeHold = false → Completes (.windowEnd l e b) s fun t =>
      t.Holds (O11.WIN_ERR l) ((s.lane l).winErr + e) ∧ t.Holds (O11.WIN_BITS l) ((s.lane l).winBits + b) ∧ (t.lane l).winErr = 0 ∧
      (t.lane l).winBits = 0 ∧ (t.lane l).winSearch = false ∧ (t.lane l).winFrom = (s.lane l).winFrom + s.n (O11.WINDOW_TICKS l)) ∧
  (∀ (s : State) (l e b : Nat), s.UpAt 0x11 l → s.n (O11.LANE_MODE l) = 9 → s.n (O11.CHK_STATE l) = 2 → s.windowDue l = true →
    s.safeHold = false → (s.lane l).winBits + b < ((s.lane l).winErr + e) * 10 ^ s.n (O11.BER_LIMIT l) → Completes (.windowEnd l e b) s fun t =>
      t.Raised 0x116 ∧ bit (t.n (O11.LANE_FLAGS l)) 3 = true) ∧
  (∀ (s : State) (l e b : Nat), s.UpAt 0x11 l → s.n (O11.LANE_MODE l) = 9 → s.n (O11.CHK_STATE l) = 2 → s.windowDue l = true →
    s.safeHold = true → Completes (.windowEnd l e b) s fun t =>
      (t.lane l).held = (s.lane l).held ++ [((s.lane l).winErr + e, (s.lane l).winBits + b, (s.lane l).winSearch)] ∧
      t.stored (O11.WIN_ERR l) = s.stored (O11.WIN_ERR l)) ∧
  (∀ (s : State) (l : Nat), s.UpAt 0x11 l → Completes (.chkRestart l) s fun t =>
    t.lane l = { s.lane l with restart := true } ∧ SameOutside [.lanes] (fun _ => False) s t) ∧
  (∀ (s : State) (l j rate start : Nat) (x : JobSt) (rows : List (List Nat)), s.UpAt 0x11 l → s.runningJob (O11.EYE_SCAN l) = some j →
    s.job? j = some x → x.ready = false → x.par.headD 0 = 0 → s.n (O11.RX_STATE l) = 3 → s.n (O11.LANE_RATE l) = rate → rate < 0x30 →
    s.n (O1B.JOB_STARTED j) + 1 = start → start + s.scanTicks l 1 ≤ s.tick64 → Completes (.eyeScanDone l rows) s fun t =>
      t.bs (O11.EYE_RESULT l) = padTo 24 (eyeResult (rows.take 63)) ∧ t.Raised 0x118 ∧
      t.job? j = some { x with data := eyeMap l rate 1 (s.n (O11.EYE_DWELL l)) start rows, next := 0, ready := true } ∧
      t.n (O1B.JOB_STATE j) = 2)

/-- R441 to R449, R457: a trunk lane is delineated, its cells and seal groups are checked, and its furlong is measured, comes up, faults and
goes down. -/
def Obligations.FurlongsAreDelineatedSealedAndMeasured : Prop :=
  (∀ (s : State) (l h : Nat) (b : List Byte), s.UpAt 0x12 l → s.n (O11.LANE_MODE (0x100 + l)) = 5 → s.n (O11.RX_STATE (0x100 + l)) = 3 →
    (s.furlong l).sync = 0 → (checkHeader (h % 2 ^ 64)).2.1 = true → Completes (.ezavoCellRx l h b) s fun t =>
      t.furlong l = { s.furlong l with sync := 1, run := 0 } ∧ SameOutside [.furlongs] (fun _ => False) s t) ∧
  (∀ (s : State) (l h : Nat) (b : List Byte), s.UpAt 0x12 l → s.n (O11.LANE_MODE (0x100 + l)) = 5 → s.n (O11.RX_STATE (0x100 + l)) = 3 →
    (s.furlong l).sync = 1 → 5 ≤ (s.furlong l).run → (checkHeader (h % 2 ^ 64)).2.1 = true → s.n (O12.FURLONG_STATE l) = 1 →
    Completes (.ezavoCellRx l h b) s fun t => (t.furlong l).sync = 2 ∧ t.Holds (O12.FURLONG_STATE l) 2 ∧ (t.furlong l).beacons = 0) ∧
  (∀ (s : State) (l h a : Nat) (b : List Byte), s.UpAt 0x12 l → s.n (O11.LANE_MODE (0x100 + l)) = 5 → s.n (O11.RX_STATE (0x100 + l)) = 3 →
    (s.furlong l).sync = 2 → (s.furlong l).run = 6 → (checkHeader (h % 2 ^ 64)).2.1 = false → (checkHeader (h % 2 ^ 64)).2.2 = false →
    s.Holds (O12.HEC_ERRORS l) a → a + 1 < 2 ^ bitsOf (O12.HEC_ERRORS l) → Completes (.ezavoCellRx l h b) s fun t =>
      (t.furlong l).sync = 0 ∧ t.Holds (O12.HEC_ERRORS l) (a + 1) ∧ t.Raised 0x122 ∧ bit (t.n (O12.TRUNK_FLAGS l)) 2 = true) ∧
  (∀ (s : State) (l h a : Nat) (b : List Byte), s.UpAt 0x12 l → s.n (O11.LANE_MODE (0x100 + l)) = 5 → s.n (O11.RX_STATE (0x100 + l)) = 3 →
    (s.furlong l).sync = 2 → (checkHeader (h % 2 ^ 64)).2.1 = true → field h 63 60 = 2 → pcrc (padTo 128 b) ≠ field h 19 8 →
    s.Holds (O12.PCRC_ERRORS l) a → a + 1 < 2 ^ bitsOf (O12.PCRC_ERRORS l) → Completes (.ezavoCellRx l h b) s fun t =>
      t.Holds (O12.PCRC_ERRORS l) (a + 1) ∧ bit (t.n (O12.TRUNK_FLAGS l)) 3 = true) ∧
  (∀ (s : State) (l h : Nat) (b : List Byte), s.UpAt 0x12 l → h < 2 ^ 64 → s.n (O11.LANE_MODE (0x100 + l)) = 5 →
    s.n (O11.RX_STATE (0x100 + l)) = 3 → (s.furlong l).sync = 2 → (checkHeader h).2.1 = true → 1 ≤ field h 63 60 → field h 63 60 ≤ 4 →
    pcrc (padTo 128 b) = field h 19 8 → s.b (O12.TRUNK_SECURE l) = true → Completes (.ezavoCellRx l h b) s fun t =>
      t.furlong l = { s.furlong l with run := 0, rxCells := (s.furlong l).rxCells ++ [(h, padTo 128 b)] }) ∧
  (∀ (s : State) (l : Nat) (b : List Byte) (k : List Byte × List Nat), s.UpAt 0x12 l → s.b (O12.TRUNK_SECURE l) = true → b.length = 128 →
    (b.getD 9 0).toNat < 2 → SMap.find? (s.furlong l).keys (2 + (b.getD 9 0).toNat) = some k →
    (b.getD 8 0).toNat = (s.furlong l).rxCells.length →
    Config.gcmTag k.1 (sealIv (natBE (b.take 8))) ((s.furlong l).rxCells.flatMap fun c => sealAad c.1)
      ((s.furlong l).rxCells.flatMap (·.2)) % 2 ^ 128 = natBE (slice b 16 16) → Completes (.seal l b) s fun t =>
        (t.furlong l).rxCells = [] ∧ t.stored (O12.SEAL_FAILURES l) = s.stored (O12.SEAL_FAILURES l)) ∧
  (∀ (s : State) (l a : Nat) (b : List Byte), s.UpAt 0x12 l → s.b (O12.TRUNK_SECURE l) = true → b.length = 128 →
    SMap.find? (s.furlong l).keys (2 + (b.getD 9 0).toNat) = none → s.Holds (O12.SEAL_FAILURES l) a →
    a + 1 < 2 ^ bitsOf (O12.SEAL_FAILURES l) → Completes (.seal l b) s fun t =>
      t.Holds (O12.SEAL_FAILURES l) (a + 1) ∧ bit (t.n (O12.TRUNK_FLAGS l)) 4 = true ∧ (t.furlong l).rxCells = []) ∧
  (∀ (s : State) (l x y : Nat) (b : List Byte), s.UpAt 0x12 l → s.b (O12.TRUNK_SECURE l) = true → b.length = 128 →
    SMap.find? (s.furlong l).keys (2 + (b.getD 9 0).toNat) = none → (s.furlong l).rxCells = [] → (s.furlong l).fails = [x, y] →
    s.now < x + 192 → s.now < y + 192 → s.n (O12.FURLONG_STATE l) = 3 → Completes (.seal l b) s fun t =>
      t.Holds (O12.FURLONG_STATE l) 4 ∧ t.Raised 0x125 ∧ (t.furlong l).fails = [] ∧ (t.furlong l).faultAt = s.now) ∧
  (∀ (s : State) (l d : Nat), s.UpAt 0x12 l → s.n (O12.FURLONG_STATE l) = 2 → 192 ≤ (s.furlong l).beacons →
    (s.furlong l).foreign = false → s.meanDelay l = d → d ≤ 20000 → s.b (O12.TRUNK_SECURE l) = false →
    Completes (.furlongMeasured l true) s fun t =>
      t.Holds (O12.FURLONG_STATE l) 3 ∧ t.Holds (O12.FURLONG_DELAY l) d ∧ t.Holds (O12.PEER_DEVICE l) (s.furlong l).sender ∧
      t.Holds (O12.PEER_LANE l) (s.furlong l).lane ∧ t.Holds (O12.BEACON_HOP l) (1 + ceilDiv ((d + 200) * 192000) 1000000000) ∧
      t.Holds (O12.MEDIA_HOP l) (2 + ceilDiv ((d + 1000) * 192000) 1000000000) ∧ t.Raised 0x120) ∧
  (∀ (s : State) (l d : Nat) (fits : Bool), s.UpAt 0x12 l → s.n (O12.FURLONG_STATE l) = 2 → 192 ≤ (s.furlong l).beacons →
    (s.furlong l).foreign = false → s.meanDelay l = d → (20000 < d ∨ (s.b (O12.TRUNK_SECURE l) = true ∧ s.trunkKeyed l = false)) →
    Completes (.furlongMeasured l fits) s fun t =>
      t.Holds (O12.FURLONG_STATE l) 4 ∧ t.Raised 0x126 ∧ bit (t.n (O12.TRUNK_FLAGS l)) 1 = true) ∧
  (∀ (s : State) (l : Nat) (fits : Bool), s.UpAt 0x12 l → s.n (O12.FURLONG_STATE l) = 2 → 192 ≤ (s.furlong l).beacons →
    (s.furlong l).foreign = true → Completes (.furlongMeasured l fits) s fun t => t.Holds (O12.FURLONG_STATE l) 4 ∧ t.Raised 0x12B) ∧
  (∀ (s : State) (l : Nat), s.UpAt 0x12 l → s.n (O12.FURLONG_STATE l) = 3 → (s.trunkUp l = false ∨ 4 ≤ (s.furlong l).missed) →
    Completes (.furlongDown l) s fun t =>
      t.Holds (O12.FURLONG_STATE l) 1 ∧ bit (t.n (O12.TRUNK_FLAGS l)) 0 = true ∧ t.Raised 0x121) ∧
  (∀ (s : State) (l : Nat), s.UpAt 0x12 l → s.n (O12.FURLONG_STATE l) = 4 → (s.furlong l).faultAt + 192000 ≤ s.now →
    Completes (.furlongFaultTimer l) s fun t => t.Holds (O12.FURLONG_STATE l) (if s.trunkUp l = true then 2 else 1)) ∧
  (∀ (s : State) (l : Nat) (v : List Byte) (o : Opened), s.UpAt 0x12 l → s.served = true → 4 < v.length → v.length ≤ 516 →
    natBE (slice v 2 2) = v.length - 4 → v.getD 0 0 = 1 → (v.getD 1 0).toNat < 2 → s.installBlob (v.drop 4) 2 l 1 = .ok o →
    Completes (.trunkKey l v) s fun t =>
      SMap.find? (t.furlong l).keys (2 + (v.getD 1 0).toNat) = some (o.key, o.path) ∧ t.Raised 0x127) ∧
  (∀ (s : State) (l slot : Nat), s.UpAt 0x12 l → s.served = true → slot < 2 → Completes (.trunkTxKey l slot) s fun t =>
    t.Holds (O12.TRUNK_TX_KEY l) slot ∧ (t.furlong l).txKey = (s.furlong l).txKey)

/-- R444, R457, R458: beacons are counted, a changed peer starts the furlong again, and newer content of the master is taken. -/
def Obligations.BeaconsKeepAFurlongAndCarryContent : Prop :=
  (∀ (s : State) (l rx : Nat) (b : List Byte), s.UpAt 0x12 l → s.n (O12.FURLONG_STATE l) = 2 → b.length = 128 →
    (beaconOf b).sender = (s.furlong l).sender → (beaconOf b).lane = (s.furlong l).lane → Completes (.beaconReceived l b rx) s fun t =>
      (t.furlong l).beacons = (s.furlong l).beacons + 1 ∧ (t.furlong l).got = true ∧ (t.furlong l).missed = 0 ∧
      (t.furlong l).echoTs = (beaconOf b).txTs ∧ t.n (O12.FURLONG_STATE l) = 2 ∧ t.domain = s.domain) ∧
  (∀ (s : State) (l rx : Nat) (b : List Byte), s.UpAt 0x12 l → s.n (O12.FURLONG_STATE l) = 3 → b.length = 128 →
    ((beaconOf b).sender ≠ (s.furlong l).sender ∨ (beaconOf b).lane ≠ (s.furlong l).lane) → Completes (.beaconReceived l b rx) s fun t =>
      t.Holds (O12.FURLONG_STATE l) 2 ∧ (t.furlong l).beacons = 1 ∧ t.Raised 0x12A ∧ t.domain = s.domain) ∧
  (∀ (s : State) (l rx : Nat) (b : List Byte), s.UpAt 0x12 l → s.n (O12.FURLONG_STATE l) = 3 → b.length = 128 →
    (beaconOf b).sender = (s.furlong l).sender → (beaconOf b).lane = (s.furlong l).lane → s.b O13.DOMAIN_ENABLE = true →
    (s.furlong l).unfit = false → (beaconOf b).domain = s.n O13.DOMAIN_ID → (beaconOf b).master ≠ 0xFFFF → bit (beaconOf b).flags 2 = false →
    (beaconOf b).master ≠ s.n O13.DEVICE_ID → (s.domainState = 3 ∨ s.domainState = 4 ∨ s.domainState = 5) →
    s.n O13.MASTER_DEVICE = (beaconOf b).master → s.newerContent (beaconOf b) l = true → Completes (.beaconReceived l b rx) s fun t =>
      t.domain.content = some (beaconOf b, l, s.tick64) ∧ t.domain.heard = true ∧ t.Holds O13.DOMAIN_EPOCH (beaconOf b).epoch ∧
      t.Holds O13.DOMAIN_HOPS ((beaconOf b).hops + 1) ∧ t.Holds O13.DOMAIN_SIZE (beaconOf b).size ∧
      t.Holds O13.BACKUP_DEVICE (beaconOf b).backup)

/-- R460 to R465: a device joins, leaves, is refused, forms a domain after its wait, loses its master, and moves mastery. -/
def Obligations.DevicesFormJoinAndLeaveDomains : Prop :=
  (∀ (s : State) (a p own : Nat), s.Up → s.domain.seekSince = some a → s.domainState = 1 → s.n O13.MASTER_PRIORITY = p → 0 < p →
    a + s.n O13.FORM_WAIT + 64 * (255 - p) ≤ s.now → s.n O13.DEVICE_ID = own → own < 1024 → Completes .formWait s fun t =>
      t.Holds O13.DOMAIN_STATE 6 ∧ t.Holds O13.MASTER_DEVICE own ∧ t.Raised 0x133 ∧ t.domain.seekSince = none) ∧
  (∀ (s : State), s.Up → (s.domainState = 3 ∨ s.domainState = 4) → 192 ≤ s.n O13.MISSED_BEACONS → Completes .beaconsMissed s fun t =>
    t.Holds O13.DOMAIN_STATE 7 ∧ t.Holds O13.MASTER_DEVICE 0xFFFF ∧ t.domain.content = none ∧ bit (t.n O13.DOMAIN_FLAGS) 0 = true ∧
    t.Raised 0x131) ∧
  (∀ (s : State) (own : Nat), s.Up → s.domainState = 5 → 48 ≤ s.n O13.MISSED_BEACONS → s.tooLarge = false →
    s.n O13.DEVICE_ID = own → own < 1024 → Completes .beaconsMissed s fun t =>
      t.Holds O13.DOMAIN_STATE 6 ∧ t.Holds O13.MASTER_DEVICE own ∧ t.Raised 0x133) ∧
  (∀ (s : State), s.Up → s.domainState = 5 → 48 ≤ s.n O13.MISSED_BEACONS → s.n O13.MISSED_BEACONS < 192 → s.tooLarge = true →
    Completes .beaconsMissed s fun t => t = s) ∧
  (∀ (s : State) (d : Nat) (m : MemberSt), s.Up → s.served = true → s.domainState = 6 → SMap.find? s.domain.members d = some m →
    0 < m.priority → d ≠ s.n O13.DEVICE_ID → (s.n (O13.MEMBER_STATE (0x100 + d)) = 2 ∨ s.n (O13.MEMBER_STATE (0x100 + d)) = 3) →
    (s.n (O13.MEMBER_VARIANT (0x100 + d)) ≠ 3 ∨ s.n O13.DOMAIN_SIZE ≤ 64) → Completes (.masterHandover d) s fun t =>
      t.domain = { s.domain with handover := some d } ∧ SameOutside [.domain] (fun _ => False) s t) ∧
  (∀ (s : State) (d v p e lin h age l : Nat), s.Up → s.domainState = 6 → d < 1024 → d ≠ s.n O13.DEVICE_ID →
    s.n (O13.MEMBER_STATE (0x100 + d)) = 0 → s.n O13.DOMAIN_SIZE < s.domainLimit v → h ≤ 6 → age ≤ 14 → s.childLanes = [l] →
    s.b (O12.TRUNK_SECURE l) = false → Completes (.join d v p e lin h age) s fun t =>
      SMap.find? t.domain.members d = some ⟨p, age⟩ ∧ t.Holds (O13.MEMBER_VARIANT (0x100 + d)) v ∧ t.Holds (O13.MEMBER_HOPS (0x100 + d)) h ∧
      t.Holds (O13.MEMBER_LAST_EPOCH (0x100 + d)) e ∧
      t.sent = s.sent ++ recordsOn l 8 (s.n O13.MASTER_DEVICE) d 0
        [d32 (s.n O13.DOMAIN_EPOCH) ++ d16 (t.n O13.DOMAIN_SIZE) ++ d16 (t.n O13.BACKUP_DEVICE)]) ∧
  (∀ (s : State) (d v p e lin h age l : Nat), s.Up → s.domainState = 6 → d < 1024 → d ≠ s.n O13.DEVICE_ID →
    s.n (O13.MEMBER_STATE (0x100 + d)) = 0 → s.n O13.DOMAIN_SIZE < s.domainLimit v → (6 < h ∨ 14 < age) → s.childLanes = [l] →
    s.b (O12.TRUNK_SECURE l) = false → Completes (.join d v p e lin h age) s fun t =>
      t.sent = s.sent ++ recordsOn l 9 (s.n O13.MASTER_DEVICE) d 0 [d8 RANGE] ∧ bit (t.n O13.DOMAIN_FLAGS) 1 = true ∧ t.domain = s.domain) ∧
  (∀ (s : State) (d e size backup : Nat), s.Up → s.n O13.DEVICE_ID = d → s.domainState = 2 → s.n O13.LAST_EPOCH = e →
    Completes (.welcome d e size backup) s fun t =>
      t.Holds O13.DOMAIN_STATE 4 ∧ t.Holds O13.DOMAIN_SIZE size ∧ t.Holds O13.BACKUP_DEVICE backup ∧ t.Raised 0x130 ∧ t.domain.owed = [] ∧
      t.domain.retryAt = none) ∧
  (∀ (s : State) (d e size backup : Nat), s.Up → s.n O13.DEVICE_ID = d → s.domainState = 2 → s.n O13.LAST_EPOCH < e →
    s.domain.lineage = s.n O13.MASTER_DEVICE → e ≤ s.n O13.LAST_EPOCH + 4096 → Completes (.welcome d e size backup) s fun t =>
      t.Holds O13.DOMAIN_STATE 3 ∧ t.Raised 0x130) ∧
  (∀ (s : State) (d st : Nat), s.Up → s.n O13.DEVICE_ID = d → s.domainState = 2 → Completes (.joinRefused d st) s fun t =>
    t.Holds O13.DOMAIN_STATE 1 ∧ t.domain.retryAt = some s.now ∧ bit (t.n O13.DOMAIN_FLAGS) 1 = true ∧ t.Raised 0x137) ∧
  (∀ (s : State) (d st l : Nat), s.Up → s.n O13.DEVICE_ID ≠ d → d ≠ 0xFFFF → s.domainState ≠ 6 → s.childLanes = [l] →
    s.b (O12.TRUNK_SECURE l) = false → Completes (.joinRefused d st) s fun t =>
      t.sent = s.sent ++ recordsOn l 9 (s.n O13.MASTER_DEVICE) d 0 [d8 st] ∧ t.domain = s.domain ∧ t.evu = s.evu) ∧
  (∀ (s : State) (a l at_ own : Nat) (b : Beacon), s.Up → s.domain.retryAt = some a → s.domainState = 1 → a + 192000 ≤ s.now →
    s.n O13.MASTER_DEVICE ≠ 0xFFFF → s.n O13.DEVICE_ID = own → s.domain.content = some (b, l, at_) → s.furlongUp l = true →
    (s.member ≠ .tmn9606 ∨ b.size < 64) → s.b (O12.TRUNK_SECURE l) = false → Completes .joinRetry s fun t =>
      t.Holds O13.DOMAIN_STATE 2 ∧
      t.sent = s.sent ++ recordsOn l 7 own (s.n O13.MASTER_DEVICE) 0
        [d16 own ++ d8 (byMember s.member 1 2 3) ++ d8 (s.n O13.MASTER_PRIORITY) ++ d32 (s.n O13.LAST_EPOCH) ++ d16 s.domain.lineage]) ∧
  (∀ (s : State) (a l at_ : Nat) (b : Beacon), s.Up → s.domain.retryAt = some a → s.domainState = 1 → a + 192000 ≤ s.now →
    s.n O13.MASTER_DEVICE ≠ 0xFFFF → s.domain.content = some (b, l, at_) → s.member = .tmn9606 → 64 ≤ b.size →
    Completes .joinRetry s fun t =>
      t.Holds O13.DOMAIN_STATE 1 ∧ t.domain.retryAt = some s.now ∧ t.Raised 0x137 ∧ t.sent = s.sent) ∧
  (∀ (s : State) (d : Nat), s.Up → (s.domainState = 5 ∨ s.domainState = 6) → d < 1024 → SMap.rising s.domain.members = true →
    Completes (.leave d) s fun t => t.Holds (O13.MEMBER_STATE (0x100 + d)) 0 ∧ SMap.find? t.domain.members d = none)

/-- R454, R455, R467 to R473: the master's epochs are issued, prepared, applied, refused and lost, their copies kept and aborted, and relay
packets take their hashed furlong. -/
def Obligations.EpochsArePreparedAppliedAndAborted : Prop :=
  (∀ (s : State) (d sess tx act : Nat) (items : List (Nat × Val)) (g : Graph) (media : List (Nat × Nat × Nat)) (plan : Plan)
      (keep pins : List PinSt) (l : List Nat), s.Up → s.domainState = 6 → sess ≠ 0xFFFF →
    (s.pinned.filter fun p =>
      !((State.itemPins items media).any fun r => r.kind == p.kind && r.ddev == p.ddev && r.dst == p.dst)) = keep →
    placePins (s.allowedPaths g) keep (inPlaceOrder (State.itemPins items media)) = some pins →
    inDeviceOrder (items.map (itemDevice d) ++ items.flatMap routeDevices ++
      pins.flatMap fun p => p.ddev :: p.path.flatMap fun h => [h.1, h.2.2.1]) = l → s.n O13.DEVICE_ID ∉ l →
    (l.all fun x => s.n (O13.MEMBER_STATE (0x100 + x)) == 2 || s.n (O13.MEMBER_STATE (0x100 + x)) == 3) = true → act ≠ 0 →
    s.tick64 + s.n O13.DOMAIN_LEAD_MIN ≤ act → s.epochTicks.all (State.apart act) = true →
    Completes (.domainTransaction d sess tx act items g media plan) s fun t =>
      t.epoch? (s.domain.highest + 1) = some ⟨s.domain.highest + 1, act, s.n O13.COMMIT_MODE, 0,
        l.map fun x => (x, items.filter fun e => itemDevice d e == x), [], [], [], [], some (d, sess, tx), false, false, pins⟩ ∧
      t.domain.highest = s.domain.highest + 1 ∧ t.chain = s.chain) ∧
  (∀ (s : State) (d sess tx act : Nat) (items : List (Nat × Val)) (g : Graph) (media : List (Nat × Nat × Nat)) (plan : Plan), s.Up →
    s.domainState ≠ 6 → sess ≠ 0xFFFF → Completes (.domainTransaction d sess tx act items g media plan) s fun t =>
      t.sent = s.sent ++ [.domain 0x31 d [tx, CONFLICT, 0]] ∧ SameOutside [.sent] (fun _ => False) s t) ∧
  (∀ (s : State) (own e act mode m l : Nat) (items : List (Nat × Val)) (plan : Plan) (u : State), s.Up → s.n O13.DEVICE_ID = own →
    (s.domainState = 3 ∨ s.domainState = 4 ∨ s.domainState = 5) → (s.domain.parts.any fun p => p.epoch == e) = false →
    s.n O13.MASTER_DEVICE = m → m ≠ own → s.tick64 + 16 < act →
    s.commitTx (Tx.blank (.domain e) items) act plan none = (u, PENDING) → u.parentLane = some l → u.n O13.MASTER_DEVICE = m →
    u.b (O12.TRUNK_SECURE l) = false → Completes (.prepare own e act mode items plan) s fun t =>
      t.sent = u.sent ++ recordsOn l 2 own m e [[]] ∧ t.domain.parts = u.domain.parts ++ [⟨e, act, s.chain.order, m, false⟩] ∧
      e ≤ t.domain.highest ∧ t.chain = u.chain) ∧
  (∀ (s : State) (own e act mode m l : Nat) (items : List (Nat × Val)) (plan : Plan), s.Up → s.n O13.DEVICE_ID = own →
    (s.domainState = 3 ∨ s.domainState = 4 ∨ s.domainState = 5) → (s.domain.parts.any fun p => p.epoch == e) = false →
    s.n O13.MASTER_DEVICE = m → m ≠ own → act ≤ s.tick64 + 16 → s.parentLane = some l → s.b (O12.TRUNK_SECURE l) = false →
    Completes (.prepare own e act mode items plan) s fun t =>
      t.sent = s.sent ++ recordsOn l 3 own m e [d8 TIMEOUT ++ d8 0] ∧ t.chain = s.chain ∧ t.domain.parts = s.domain.parts) ∧
  (∀ (s : State) (own e act mode d : Nat) (items : List (Nat × Val)), s.Up → s.n O13.DEVICE_ID = own → s.domainState = 5 →
    s.epoch? e = none → Completes (.copy own e act mode d items) s fun t =>
      t.epoch? e = some ⟨e, act, mode, 0, [(d, items)], [], [], [], [], none, false, true, []⟩ ∧ SameOutside [.domain] (fun _ => False) s t) ∧
  (∀ (s : State) (own e act mode d : Nat) (items : List (Nat × Val)) (x : EpochSt), s.Up → s.n O13.DEVICE_ID = own →
    s.domainState = 5 → s.epoch? e = some x → Completes (.copy own e act mode d items) s fun t =>
      t.epoch? e = some { x with parts := (x.parts.filter fun p => p.1 != d) ++ [(d, items)] }) ∧
  (∀ (s : State) (e d : Nat) (x : EpochSt), s.Up → s.domainState = 6 → s.epoch? e = some x → d ∉ x.prepared →
    Completes (.prepared e d) s fun t =>
      t.epoch? e = some { x with prepared := d :: x.prepared } ∧ SameOutside [.domain] (fun _ => False) s t) ∧
  (∀ (s : State) (e d l : Nat), s.Up → s.domainState ≠ 6 → s.parentLane = some l → s.b (O12.TRUNK_SECURE l) = false →
    Completes (.prepared e d) s fun t =>
      t.sent = s.sent ++ recordsOn l 2 d (s.n O13.MASTER_DEVICE) e [[]] ∧ t.domain = s.domain) ∧
  (∀ (s : State) (e d st last : Nat) (x : EpochSt), s.Up → s.domainState = 6 → s.epoch? e = some x →
    (x.refused.any fun f => f.1 == d) = false → last ≠ 0 → Completes (.refused e d st last) s fun t =>
      (t.epoch? e).map (·.refused) = some (x.refused ++ [(d, st)]) ∧ t.Holds O01.LAST_REFUSAL last) ∧
  (∀ (s : State) (e d tick : Nat) (x : EpochSt), s.Up → s.domainState = 6 → s.epoch? e = some x → d ∉ x.applied → x.act ≤ tick → d < 1024 →
    Completes (.appliedRecord e d tick) s fun t =>
      (t.epoch? e).map (·.applied) = some (d :: x.applied) ∧ t.Holds (O13.MEMBER_LAST_EPOCH (0x100 + d)) e) ∧
  (∀ (s : State) (e d c : Nat) (x : EpochSt), s.Up → s.domainState = 6 → s.epoch? e = some x → 1 ≤ c → c ≤ 6 →
    (x.failed.any fun f => f.1 == d) = false → Completes (.notApplied e d c) s fun t =>
      (t.epoch? e).map (·.failed) = some (x.failed ++ [(d, ABORTED)])) ∧
  (∀ (s : State) (e d : Nat) (x : EpochSt), s.Up → s.domainState = 6 → s.epoch? e = some x → x.act + 192000 ≤ s.tick64 → d ∉ x.applied →
    ((x.failed ++ x.refused).any fun f => f.1 == d) = false → (x.parts.any fun p => p.1 == d) = true → d < 1024 →
    Completes (.participantLost e d) s fun t =>
      (t.epoch? e).map (·.failed) = some (x.failed ++ [(d, TIMEOUT)]) ∧ t.Holds (O13.MEMBER_STATE (0x100 + d)) 5 ∧ t.Raised 0x13C) ∧
  (∀ (s : State) (own e c : Nat) (x : EpochSt), s.Up → s.n O13.DEVICE_ID = own → s.epoch? e = some x → x.copy = true →
    (s.domain.parts.any fun p => p.epoch == e) = false → Completes (.abortRecord own e c) s fun t =>
      t.epoch? e = some { x with outcome := if c = 3 then 2 else 3 } ∧ SameOutside [.domain] (fun _ => False) s t) ∧
  (∀ (s : State) (own e c : Nat) (p : PartSt) (x : Tx), s.Up → s.n O13.DEVICE_ID = own → s.epoch? e = none → s.domainState = 4 →
    (s.domain.parts.find? fun q => q.epoch == e && !q.go) = some p → (s.pendingTxs.find? fun y => y.order == p.tx) = some x →
    Completes (.abortRecord own e c) s fun t =>
      t.domain.parts = (s.domain.parts.filter fun q => q.epoch != e) ∧ t.Raised 0x135 ∧ bit (t.n O13.DOMAIN_FLAGS) 3 = true) ∧
  (∀ (s : State) (dest src si di sp dp pr : Nat) (cs : List Nat) (b : List Byte), s.Up → s.n O13.DEVICE_ID = dest →
    Completes (.relayPacket dest src si di sp dp pr cs b) s fun t =>
      t.sent = s.sent ++ [.domain 4 dest (src :: b.map (·.toNat))] ∧ SameOutside [.sent] (fun _ => False) s t) ∧
  (∀ (s : State) (dest src si di sp dp pr c : Nat) (cs l : List Nat) (b : List Byte), s.Up → s.n O13.DEVICE_ID ≠ dest →
    (s.trunks.filter fun k => cs.contains k && s.furlongUp k && !(s.furlong k).unfit) = l → l ≠ [] →
    l.getD (hashIndex s.domain.seed [si, di, sp * 65536 + dp, pr] l.length) 0 = c → 20 ≤ b.length → b.length ≤ 1500 →
    ((s.furlong c).relay.map fun e => e.2.length - 4).foldl (· + ·) 0 + b.length ≤ 262144 →
    Completes (.relayPacket dest src si di sp dp pr cs b) s fun t =>
      (t.furlong c).relay = (s.furlong c).relay ++ [(dest, d16 b.length ++ d16 src ++ b)] ∧
      SameOutside [.furlongs, .domain] (fun _ => False) s t) ∧
  (∀ (s : State) (a : Nat), s.Up → s.domain.reseedAt = none → (s.domain.sets.all fun e => decide (e.2 < 1000)) = false →
    s.Holds O13.HASH_RESEEDS a → a + 1 < 2 ^ bitsOf O13.HASH_RESEEDS → s.chain.cur.isSome = true → s.n O01.SHADOW_STATE = 3 →
    Completes .hashReseed s fun t =>
      t.domain.newSeed = some (Config.free s.fresh % 2 ^ 64) ∧ t.fresh = s.fresh + 1 ∧ t.domain.reseedAt = some s.now ∧
      t.Holds O13.HASH_RESEEDS (a + 1) ∧ bit (t.n O13.DOMAIN_FLAGS) 4 = true ∧ t.Raised 0x13B)

/-- R487, R489, R492, R493, R495, R500: an engine's due action leaves its queue and runs, and each kind of action does what its record says;
CUE_FIRE, CE_REARM and CUE_FLAGS are taken. -/
def Obligations.CueEnginesRunTheirActions : Prop :=
  (∀ (s : State) (e n : Nat) (a : CueAct), s.UpAt 0x14 e → s.n (O14.CE_STATE e) = 1 → SMap.getD s.cues.count e 0 < 64 →
    (s.dueAction e fun _ => true) = some a → s.Holds (O14.ACTIONS e) n → n + 1 < 2 ^ bitsOf (O14.ACTIONS e) →
    Completes (.cueActionExecute e) s fun t =>
      t.cues.queue = s.cues.queue.erase a ∧ t.Holds (O14.ACTIONS e) (n + 1) ∧
      SMap.getD t.cues.count e 0 = SMap.getD s.cues.count e 0 + 1) ∧
  (∀ (s : State) (e i n : Nat) (r : List Byte), s.UpAt 0x14 e → i < 1024 → s.n (O14.CE_STATE e) = 1 → SMap.getD s.cues.count e 0 < 64 →
    s.cueRec e i = r → recEnabled r = true → recN r 2 1 = 0 → s.Holds (O14.ACTIONS e) n → n + 1 < 2 ^ bitsOf (O14.ACTIONS e) →
    Completes (.cueActionNone e i) s fun t =>
      t.Holds (O14.ACTIONS e) (n + 1) ∧ t.cues.gather.ran = (1024 * e + i) :: s.cues.gather.ran ∧
      SameOutside [.cues] (fun k => k = O14.ACTIONS e) s t) ∧
  (∀ (s : State) (e i v : Nat) (r : List Byte), s.UpAt 0x14 e → i < 1024 → s.n (O14.CE_STATE e) = 1 → SMap.getD s.cues.count e 0 < 64 →
    s.cueRec e i = r → recEnabled r = true → recN r 2 1 = 1 → s.n (O14.CUE_FLAGS e) = v → Completes (.cueActionFlags e i) s fun t =>
      t.Holds (O14.CUE_FLAGS e) (setBits (clearBits v (recN r 48 8)) (recN r 40 8)) ∧
      t.cues.gather.ran = (1024 * e + i) :: s.cues.gather.ran ∧ SameOutside [.cues] (fun k => k = O14.ACTIONS e ∨ k = O14.CUE_FLAGS e) s t) ∧
  (∀ (s : State) (e i j : Nat) (r : List Byte), s.UpAt 0x14 e → i < 1024 → s.n (O14.CE_STATE e) = 1 → SMap.getD s.cues.count e 0 < 64 →
    s.cueRec e i = r → recEnabled r = true → recN r 2 1 = 4 → j < recN r 44 2 → Completes (.cueActionFade e i) s fun t =>
      SMap.find? t.cues.overrides (512 * recN r 40 2 + (recN r 42 2 - 1 + j)) =
        some ⟨e, s.slotLevel (recN r 40 2) (recN r 42 2 - 1 + j), recN r 46 1, recN r 48 4, s.now, recN r 47 1 == 0⟩ ∧
      t.stored (O15.UNIV_LEVELS (recN r 40 2)) = s.stored (O15.UNIV_LEVELS (recN r 40 2))) ∧
  (∀ (s : State) (e i pin old : Nat) (r : List Byte), s.UpAt 0x14 e → i < 1024 → s.n (O14.CE_STATE e) = 1 →
    SMap.getD s.cues.count e 0 < 64 → s.cueRec e i = r → recEnabled r = true → recN r 2 1 = 5 → recN r 40 2 = pin → 0 < recN r 44 4 →
    s.n (O16.GPIO_MODE (0x100 + pin)) = 1 → s.pinLevel pin = old → Completes (.cueActionGpio e i) s fun t =>
      SMap.find? t.cues.pins pin = some (if recN r 42 1 = 2 then 1 - old else recN r 42 1) ∧
      SMap.find? t.cues.pulses pin = some (s.now + recN r 44 4, old) ∧
      t.stored (O16.GPIO_LEVEL (0x100 + pin)) = s.stored (O16.GPIO_LEVEL (0x100 + pin))) ∧
  (∀ (s : State) (e i pin n : Nat) (r : List Byte), s.UpAt 0x14 e → i < 1024 → s.n (O14.CE_STATE e) = 1 →
    SMap.getD s.cues.count e 0 < 64 → s.cueRec e i = r → recEnabled r = true → recN r 2 1 = 5 → recN r 40 2 = pin →
    s.n (O16.GPIO_MODE (0x100 + pin)) ≠ 1 → s.Holds (O14.ACTION_ERRORS e) n → n + 1 < 2 ^ bitsOf (O14.ACTION_ERRORS e) →
    Completes (.cueActionGpio e i) s fun t =>
      t.Holds (O14.ACTION_ERRORS e) (n + 1) ∧ t.Holds (O14.LAST_ERROR e) (CONFLICT * 2 ^ 24 + 5 * 2 ^ 16 + i) ∧
      bit (t.n (O14.CE_STATUS e)) 1 = true ∧ t.cues.pins = s.cues.pins) ∧
  (∀ (s : State) (e i g : Nat) (r : List Byte), s.UpAt 0x14 e → i < 1024 → s.n (O14.CE_STATE e) = 1 → SMap.getD s.cues.count e 0 < 64 →
    s.cueRec e i = r → recEnabled r = true → recN r 2 1 = 6 → recN r 40 1 = g → recN r 41 1 = 2 →
    Completes (.cueActionTimecode e i) s fun t =>
      (t.gen g).next = some (recN r 44 4) ∧ t.stored (O16.GEN_RUN (0x010 + g)) = s.stored (O16.GEN_RUN (0x010 + g))) ∧
  (∀ (s : State) (e i g mode : Nat) (r : List Byte), s.UpAt 0x14 e → i < 1024 → s.n (O14.CE_STATE e) = 1 →
    SMap.getD s.cues.count e 0 < 64 → s.cueRec e i = r → recEnabled r = true → recN r 2 1 = 6 → recN r 40 1 = g → recN r 41 1 = mode →
    mode < 2 → Completes (.cueActionTimecode e i) s fun t =>
      t.Holds (O16.GEN_RUN (0x010 + g)) mode ∧ (t.gen g).next = (s.gen g).next) ∧
  (∀ (s : State) (e i : Nat) (plan : Plan) (x : Nat × Nat × Nat × Nat × Nat), s.UpAt 0x14 e → s.served = true →
    (s.cues.salvos.find? fun y => y.1 == e && y.2.1 == i) = some x → x.2.2.1 < 256 →
    routesIn 64 (s.bs (O08.SALVO_ROUTES (0x900 + x.2.2.1))) = [] → Completes (.cueActionSalvo e i plan) s fun t =>
      t.cues.salvos = s.cues.salvos.erase x ∧ t.Holds (O08.SALVO_LAST_STATUS (0x900 + x.2.2.1)) OK ∧
      SameOutside [.cues] (fun k => k = O08.SALVO_LAST_STATUS (0x900 + x.2.2.1)) s t) ∧
  (∀ (s : State) (e i k : Nat) (plan : Plan) (w : Nat × Nat × Nat × Nat × List Byte) (r : ObjRow) (v : Val), s.UpAt 0x14 e →
    s.served = true → s.frozen 5 0 = false → s.cues.writes = [w] → w.1 = e → w.2.1 = i → w.2.2.1 = k → (clsOf k = 0x08 ∨ clsOf k = 0x0F) →
    ownKey k = false → s.cueValue e k w.2.2.2.2 = .ok (r, v) → r.acc = .W → s.itemStatus k v = OK →
    Completes (.cueActionWrite e plan) s fun t =>
      t.stored k = some v ∧ t.cues.writes = [] ∧ SameOutside [.cues] (fun x => x = k) s t) ∧
  (∀ (s : State) (e n : Nat) (plan : Plan) (w : Nat × Nat × Nat × Nat × List Byte), s.UpAt 0x14 e → s.served = true →
    s.frozen 5 0 = true → s.cues.writes = [w] → w.1 = e → s.Holds (O14.ACTION_ERRORS e) n → n + 1 < 2 ^ bitsOf (O14.ACTION_ERRORS e) →
    Completes (.cueActionWrite e plan) s fun t =>
      t.cues.writes = [] ∧ t.Holds (O14.ACTION_ERRORS e) (n + 1) ∧
      t.Holds (O14.LAST_ERROR e) (INTERNAL * 2 ^ 24 + 3 * 2 ^ 16 + w.2.1)) ∧
  (∀ (s : State) (e i : Nat), s.UpAt 0x14 e → s.answers = true → i < 1024 → Completes (.cueFire e i) s fun t =>
    t.cues.gather.fires = (1024 * e + i) :: s.cues.gather.fires ∧ SameOutside [.cues] (fun _ => False) s t) ∧
  (∀ (s : State) (e i : Nat), s.UpAt 0x14 e → s.answers = true → i < 1024 → Completes (.ceRearm e i) s fun t =>
    SMap.find? t.cues.armed (1024 * e + i) = some s.tick64 ∧ 1024 * e + i ∉ t.cues.spent ∧ SameOutside [.cues] (fun _ => False) s t) ∧
  (∀ (s : State) (e : Nat) (q : Nat × List Byte), s.UpAt 0x14 e → s.answers = true → q ∈ s.recsOf e → Completes (.ceRearm e 0xFFFF) s fun t =>
    SMap.find? t.cues.armed (1024 * e + q.1) = some s.tick64 ∧ 1024 * e + q.1 ∉ t.cues.spent) ∧
  (∀ (s : State) (e : Nat) (v : BitVec 64), s.UpAt 0x14 e → s.answers = true → Completes (.cueFlags e v) s fun t =>
    SMap.find? t.cues.flags e = some v.toNat ∧ SameOutside [.cues] (fun _ => False) s t)

/-- R497, R498, R501 to R504: sources of a universe come, are counted, discarded and time out; universes and DMX512-A ports send and
receive their packets. -/
def Obligations.LightingUniversesTakeAndSendPackets : Prop :=
  (∀ (s : State) (rx u a : Nat) (p : SacnPkt), s.UpAt 0x0E rx → s.n (O0E.RX_STATE rx) ≠ 0 → s.n (O0E.ESSENCE rx) = 5 →
    s.n (O0E.RX_UDP rx) = 5568 → p.wellFormed = true → p.discovery = false → p.preview = false → p.terminated = false → p.startCode = 0 →
    p.priority ≤ 200 → (s.enabledUnivs.find? fun u => s.n (O15.UNIV_NUMBER u) == p.number) = some u → p.cid ≠ s.bs O15.SACN_CID →
    (SMap.getD s.cues.sources u []).all (fun x => x.cid != p.cid) = true → (SMap.getD s.cues.sources u []).length < 8 →
    s.Holds (O15.PKTS_IN u) a → a + 1 < 2 ^ bitsOf (O15.PKTS_IN u) → Completes (.sacnPacket rx p) s fun t =>
      SMap.getD t.cues.sources u [] = SMap.getD s.cues.sources u [] ++ [⟨p.cid, p.priority, p.slots.take 512, p.seq % 256, s.now⟩] ∧
      t.Holds (O15.PKTS_IN u) (a + 1) ∧ bit (t.n (O15.UNIV_FLAGS u)) 0 = true ∧ t.Raised 0x150) ∧
  (∀ (s : State) (rx u a : Nat) (p : SacnPkt), s.UpAt 0x0E rx → s.n (O0E.RX_STATE rx) ≠ 0 → s.n (O0E.ESSENCE rx) = 5 →
    s.n (O0E.RX_UDP rx) = 5568 → p.discovery = false → (p.wellFormed = false ∨ p.preview = true ∨ p.startCode ≠ 0 ∨ 200 < p.priority) →
    (s.enabledUnivs.find? fun u => s.n (O15.UNIV_NUMBER u) == p.number) = some u →
    s.Holds (O15.PKTS_DISCARDED u) a → a + 1 < 2 ^ bitsOf (O15.PKTS_DISCARDED u) → Completes (.sacnPacket rx p) s fun t =>
      t.Holds (O15.PKTS_DISCARDED u) (a + 1) ∧ bit (t.n (O15.UNIV_FLAGS u)) 3 = true ∧ t.cues = s.cues) ∧
  (∀ (s : State) (rx u : Nat) (p : SacnPkt) (x : SacnSrc), s.UpAt 0x0E rx → s.n (O0E.RX_STATE rx) ≠ 0 → s.n (O0E.ESSENCE rx) = 5 →
    s.n (O0E.RX_UDP rx) = 5568 → p.wellFormed = true → p.discovery = false → p.preview = false → p.terminated = true → p.startCode = 0 →
    p.priority ≤ 200 → (s.enabledUnivs.find? fun u => s.n (O15.UNIV_NUMBER u) == p.number) = some u → p.cid ≠ s.bs O15.SACN_CID →
    ((SMap.getD s.cues.sources u []).find? fun x => x.cid == p.cid) = some x → 0 < signed 8 (p.seq + 256 - x.seq % 256) →
    Completes (.sacnPacket rx p) s fun t =>
      SMap.getD t.cues.sources u [] = ((SMap.getD s.cues.sources u []).filter fun x => x.cid != p.cid) ∧
      SameOutside [.cues] (fun _ => False) s t) ∧
  (∀ (s : State) (rx : Nat) (p : SacnPkt), s.UpAt 0x0E rx → s.n (O0E.RX_STATE rx) ≠ 0 → s.n (O0E.ESSENCE rx) = 5 →
    s.n (O0E.RX_UDP rx) = 5568 → p.wellFormed = true → p.discovery = true → p.cid ≠ s.bs O15.SACN_CID →
    (s.cues.disc.all fun x => x.cid != p.cid) = true → s.cues.disc.length < 256 → Completes (.sacnPacket rx p) s fun t =>
      t.cues.disc = s.cues.disc ++ [⟨p.cid, p.name, [(p.page, p.list)], s.now⟩] ∧ t.Holds O15.DISC_COUNT (s.cues.disc.length + 1)) ∧
  (∀ (s : State) (u : Nat) (cid : List Byte), s.UpAt 0x15 u →
    ((SMap.getD s.cues.sources u []).any fun x => x.cid == cid && decide (x.heard + 480000 ≤ s.now)) = true →
    Completes (.sacnSourceTimeout u cid) s fun t =>
      SMap.getD t.cues.sources u [] = ((SMap.getD s.cues.sources u []).filter fun x => x.cid != cid) ∧
      bit (t.n (O15.UNIV_FLAGS u)) 1 = true ∧ t.Raised 0x151) ∧
  (∀ (s : State) (u n : Nat) (x : SacnTx), s.UpAt 0x15 u → u < 0x400 → SMap.find? s.cues.tx u = some x → s.n (O0D.SEND_STATE x.sender) = 2 →
    x.term = 0 → s.tick64 % s.n (O15.TX_PERIOD u) = 0 → x.sent ≠ s.now →
    s.now < x.changed + 3 * s.n (O15.TX_PERIOD u) → s.Holds (O15.PKTS_OUT u) n → n + 1 < 2 ^ bitsOf (O15.PKTS_OUT u) → Completes (.sacnTransmit u) s fun t =>
      t.sent = s.sent ++ [.media 0x15 u ([x.sender, s.n (O15.UNIV_NUMBER u), x.seq, s.n (O15.TX_PRIORITY u), 0] ++
        ((padTo (s.n (O15.UNIV_SLOTS u)) (s.bs (O15.UNIV_LEVELS u))).map BitVec.toNat))] ∧
      SMap.getD t.net.units x.sender [] = SMap.getD s.net.units x.sender [] ++
        [e131Data (s.bs O15.SACN_CID) (s.bs O15.SACN_NAME) (s.n (O15.TX_PRIORITY u)) x.seq false (s.n (O15.UNIV_NUMBER u))
          (padTo (s.n (O15.UNIV_SLOTS u)) (s.bs (O15.UNIV_LEVELS u)))] ∧
      SMap.find? t.cues.tx u = some { x with seq := (x.seq + 1) % 256, sent := s.now } ∧ t.Holds (O15.PKTS_OUT u) (n + 1)) ∧
  (∀ (s : State) (u : Nat) (x : SacnTx), s.UpAt 0x15 u → u < 0x400 → SMap.find? s.cues.tx u = some x → s.n (O0D.SEND_STATE x.sender) = 2 →
    1 < x.term → s.tick64 % s.n (O15.TX_PERIOD u) = 0 → x.sent ≠ s.now → Completes (.sacnTransmit u) s fun t =>
      t.sent = s.sent ++ [.media 0x15 u ([x.sender, s.n (O15.UNIV_NUMBER u), x.seq, s.n (O15.TX_PRIORITY u), 1] ++
        ((padTo (s.n (O15.UNIV_SLOTS u)) (s.bs (O15.UNIV_LEVELS u))).map BitVec.toNat))] ∧
      (SMap.find? t.cues.tx u).map (·.term) = some (x.term - 1)) ∧
  (∀ (s : State) (d : Nat) (l : List Nat), s.Up → s.n O15.DISC_SENDER = d → d ≠ 0xFFFF → s.n (O0D.SEND_STATE d) = 2 → s.cues.discAt = none →
    ((s.enabledUnivs.filter s.univSends).map fun u => s.n (O15.UNIV_NUMBER u)).foldr State.insertAsc [] = l → l.length ≤ 512 →
    Completes .discoverySend s fun t =>
      t.sent = s.sent ++ [.media 0x15 0x500 ([d, 0, 0] ++ l)] ∧ t.cues.discAt = some s.now ∧
      SMap.getD t.net.units d [] =
        SMap.getD s.net.units d [] ++ [e131Discovery (s.bs O15.SACN_CID) (s.bs O15.SACN_NAME) 0 0 l] ∧
      SameOutside [.cues, .sent, .net] (fun _ => False) s t) ∧
  (∀ (s : State) (cid : List Byte), s.Up → Completes (.discoveryAgeing cid) s fun t =>
    t.cues.disc = (s.cues.disc.filter fun x => !(x.cid == cid && decide (x.heard + 3840000 ≤ s.now))) ∧
    t.Holds O15.DISC_COUNT t.cues.disc.length ∧ SameOutside [.cues] (fun k => k = O15.DISC_COUNT) s t) ∧
  (∀ (s : State) (p u n : Nat), s.UpAt 0x15 (0x400 + p) → p < 32 → s.n (O15.DMX_MODE (0x400 + p)) = 1 → s.n (O15.DMX_UNIVERSE (0x400 + p)) = u →
    s.tick64 % s.n (O15.DMX_PERIOD (0x400 + p)) = s.n (O15.DMX_PHASE (0x400 + p)) →
    (SMap.find? s.cues.dmxIn p).map (·.heard) ≠ some s.now → s.Holds (O15.DMX_PACKETS (0x400 + p)) n →
    n + 1 < 2 ^ bitsOf (O15.DMX_PACKETS (0x400 + p)) → Completes (.dmxOutputPacket p) s fun t =>
      t.sent = s.sent ++ [.media 0x15 (0x400 + p) ([s.n (O15.DMX_BREAK (0x400 + p)), s.n (O15.DMX_MAB (0x400 + p)), 0] ++
        ((padTo (s.n (O15.UNIV_SLOTS u)) (s.bs (O15.UNIV_LEVELS u))).map BitVec.toNat))] ∧ t.Holds (O15.DMX_PACKETS (0x400 + p)) (n + 1)) ∧
  (∀ (s : State) (p brk mab : Nat) (l : List Byte) (x : DmxIn), s.UpAt 0x15 (0x400 + p) → p < 32 → s.n (O15.DMX_MODE (0x400 + p)) = 2 →
    s.n (O15.DMX_STATE (0x400 + p)) = 2 → 88 ≤ brk → 8 ≤ mab → SMap.find? s.cues.dmxIn p = some x → 1 ≤ x.run →
    Completes (.dmxInputPacket p brk mab 0 false l) s fun t =>
      t.Holds (O15.DMX_STATE (0x400 + p)) 3 ∧ t.Raised 0x154 ∧ SMap.find? t.cues.dmxIn p = some ⟨l.take 512, x.run + 1, s.now⟩ ∧
      t.Holds (O15.DMX_RX_SLOTS (0x400 + p)) (min 512 l.length)) ∧
  (∀ (s : State) (p brk mab n : Nat) (l : List Byte) (x : DmxIn), s.UpAt 0x15 (0x400 + p) → p < 32 → s.n (O15.DMX_MODE (0x400 + p)) = 2 →
    SMap.find? s.cues.dmxIn p = some x → s.Holds (O15.DMX_ERRORS (0x400 + p)) n → n + 1 < 2 ^ bitsOf (O15.DMX_ERRORS (0x400 + p)) →
    Completes (.dmxInputPacket p brk mab 0 true l) s fun t =>
      t.Holds (O15.DMX_ERRORS (0x400 + p)) (n + 1) ∧ SMap.find? t.cues.dmxIn p = some { x with run := 0 } ∧
      bit (t.n (O15.DMX_FLAGS (0x400 + p))) 1 = true) ∧
  (∀ (s : State) (p : Nat) (x : DmxIn), s.UpAt 0x15 (0x400 + p) → p < 32 → s.n (O15.DMX_STATE (0x400 + p)) = 3 →
    SMap.rising s.cues.dmxIn = true → SMap.find? s.cues.dmxIn p = some x → x.heard + s.n (O15.DMX_LOSS (0x400 + p)) ≤ s.now →
    Completes (.dmxLoss p) s fun t =>
      t.Holds (O15.DMX_STATE (0x400 + p)) 2 ∧ t.Raised 0x155 ∧ SMap.find? t.cues.dmxIn p = none ∧
      bit (t.n (O15.DMX_FLAGS (0x400 + p))) 0 = true)

/-- R490, R505, R506, R508: readers chase, lock, freewheel and lose timecode; generators send their words; pins are read and driven. -/
def Obligations.TimecodeIsReadAndSentAndPinsAreDriven : Prop :=
  (∀ (s : State) (r v user bits age w : Nat) (z : Int), s.UpAt 0x16 r → r < 8 → s.n (O16.TC_STATE r) = 1 →
    tcOk (s.n (O16.TC_RATE r)) v = true → (s.reader r).last = some w → tcNext (s.n (O16.TC_RATE r)) w = v → 2 ≤ (s.reader r).run →
    bit bits 2 = false → Completes (.timecodeWord r (s.n (O16.TC_RATE r)) v user bits age z) s fun t =>
      t.Holds (O16.TC_STATE r) 2 ∧ t.Holds (O16.TC_VALUE r) v ∧ t.Holds (O16.TC_USER r) user ∧ t.Raised 0x160 ∧
      t.cues.gather.words = s.cues.gather.words ++ [(r, some w, v, true)]) ∧
  (∀ (s : State) (r rate v user bits age : Nat) (z : Int), s.UpAt 0x16 r → r < 8 → s.n (O16.TC_STATE r) = 2 → tcOk rate v = true →
    bit bits 2 = false → tcNext rate (s.n (O16.TC_VALUE r)) ≠ v → Completes (.timecodeWord r rate v user bits age z) s fun t =>
      t.Holds (O16.TC_STATE r) 2 ∧ t.Holds (O16.TC_VALUE r) v ∧ bit (t.n (O16.TC_FLAGS r)) 2 = true ∧ t.Raised 0x163) ∧
  (∀ (s : State) (r rate v user bits age : Nat) (z : Int), s.UpAt 0x16 r → r < 8 → tcOk rate v = false →
    Completes (.timecodeWord r rate v user bits age z) s fun t => t = s) ∧
  (∀ (s : State) (r : Nat), s.UpAt 0x16 r → r < 8 → s.n (O16.TC_STATE r) = 2 → bit (s.n (O16.TC_BITS r)) 2 = false →
    s.wordMissed r = true → 0 < s.n (O16.FREEWHEEL_FRAMES r) → Completes (.tcFreewheel r) s fun t =>
      t.Holds (O16.TC_STATE r) 3 ∧ t.Holds (O16.TC_VALUE r) (tcNext (s.n (O16.TC_RATE r)) (s.n (O16.TC_VALUE r))) ∧
      bit (t.n (O16.TC_FLAGS r)) 1 = true ∧ t.Raised 0x161) ∧
  (∀ (s : State) (r : Nat), s.UpAt 0x16 r → r < 8 → s.n (O16.TC_STATE r) = 3 → s.wordMissed r = true →
    s.n (O16.FREEWHEEL_FRAMES r) ≤ (s.reader r).missed + 1 → Completes (.tcFreewheel r) s fun t =>
      t.Holds (O16.TC_STATE r) 1 ∧ bit (t.n (O16.TC_FLAGS r)) 0 = true ∧ t.Raised 0x162 ∧ (t.reader r).last = none) ∧
  (∀ (s : State) (r : Nat), s.UpAt 0x16 r → r < 8 → (s.n (O16.TC_STATE r) = 2 ∨ s.n (O16.TC_STATE r) = 3) →
    (s.reader r).heard + 19200 ≤ s.now → Completes (.tcNoTransitions r) s fun t =>
      t.Holds (O16.TC_STATE r) 0 ∧ bit (t.n (O16.TC_FLAGS r)) 0 = true ∧ t.Raised 0x162) ∧
  (∀ (s : State) (r : Nat), s.UpAt 0x16 r → r < 8 → s.n (O16.TC_STATE r) = 0 → s.b (O16.TC_ENABLE r) = true →
    Completes (.tcSignalDetect r) s fun t =>
      t.Holds (O16.TC_STATE r) 1 ∧ t.reader r = ⟨0, none, 0, 0, 0, 0, s.now⟩ ∧ SameOutside [.cues] (fun k => k = O16.TC_STATE r) s t) ∧
  (∀ (s : State) (g v : Nat), s.UpAt 0x16 (0x010 + g) → g < 4 → s.wordHere g = true → (s.gen g).sent ≠ some s.now →
    s.n (O16.GEN_MODE (0x010 + g)) = 1 → s.b (O16.GEN_RUN (0x010 + g)) = true →
    (s.gen g).next.getD (s.n (O16.GEN_PRESET (0x010 + g))) = v → Completes (.generatorWord g) s fun t =>
      t.Holds (O16.GEN_VALUE (0x010 + g)) v ∧ (t.gen g).next = some (tcNext (s.n (O16.GEN_RATE (0x010 + g))) v) ∧
      t.n (O16.GEN_STATE (0x010 + g)) = 2 ∧ t.sent = s.sent ++ [.media 0x16 (0x010 + g) [v, s.n (O16.GEN_USER (0x010 + g))]]) ∧
  (∀ (s : State) (g : Nat), s.UpAt 0x16 (0x010 + g) → g < 4 → s.wordHere g = true → (s.gen g).sent ≠ some s.now →
    s.n (O16.GEN_MODE (0x010 + g)) = 2 → s.b O01.TIME_VALID = true →
    Completes (.generatorWord g) s fun t =>
      t.Holds (O16.GEN_VALUE (0x010 + g)) (State.todValue (s.n (O16.GEN_RATE (0x010 + g))) (Int.fmod (s.genTime g) 16588800000).toNat) ∧
      t.n (O16.GEN_STATE (0x010 + g)) = 2) ∧
  (∀ (s : State) (g : Nat), s.UpAt 0x16 (0x010 + g) → g < 4 → s.wordHere g = true → (s.gen g).sent ≠ some s.now →
    s.n (O16.GEN_MODE (0x010 + g)) = 2 → s.b O01.TIME_VALID = false →
    s.n (O16.GEN_STATE (0x010 + g)) ≠ 3 → Completes (.generatorWord g) s fun t =>
      t.Holds (O16.GEN_STATE (0x010 + g)) 3 ∧ t.Raised 0x164 ∧ t.sent = s.sent) ∧
  (∀ (s : State) (g r : Nat), s.UpAt 0x16 (0x010 + g) → g < 4 → s.wordHere g = true → (s.gen g).sent ≠ some s.now →
    s.n (O16.GEN_MODE (0x010 + g)) = 3 → s.n (O16.GEN_FOLLOW (0x010 + g)) = r →
    2 ≤ s.n (O16.TC_STATE r) → Completes (.generatorWord g) s fun t =>
      t.Holds (O16.GEN_VALUE (0x010 + g)) (tcNext (s.n (O16.TC_RATE r)) (s.n (O16.TC_VALUE r))) ∧ t.n (O16.GEN_STATE (0x010 + g)) = 2) ∧
  (∀ (s : State) (g : Nat) (v : Bool), s.UpAt 0x16 (0x010 + g) → g < 4 → s.answers = true → Completes (.genRun g v) s fun t =>
    t.Holds (O16.GEN_RUN (0x010 + g)) v.toNat ∧ SameOutside [] (fun k => k = O16.GEN_RUN (0x010 + g)) s t) ∧
  (∀ (s : State) (p n : Nat) (v inv : Bool), s.UpAt 0x16 (0x100 + p) → p < 128 → s.n (O16.GPIO_MODE (0x100 + p)) = 0 →
    s.b (O16.GPIO_INVERT (0x100 + p)) = inv → s.b (O16.GPIO_LEVEL (0x100 + p)) = !(v != inv) →
    SMap.getD s.cues.accepted p 0 + s.n (O16.GPIO_DEBOUNCE (0x100 + p)) ≤ s.now → s.b (O16.GPIO_EVENT (0x100 + p)) = true →
    s.Holds (O16.GPIO_EDGES (0x100 + p)) n → n + 1 < 2 ^ bitsOf (O16.GPIO_EDGES (0x100 + p)) → Completes (.gpioEdge p v) s fun t =>
      t.Holds (O16.GPIO_LEVEL (0x100 + p)) (v != inv).toNat ∧ t.Holds (O16.GPIO_EDGES (0x100 + p)) (n + 1) ∧
      t.Holds (O16.GPIO_EDGE_TICK (0x100 + p)) (s.tick64 - (s.n (O16.GPIO_DEBOUNCE (0x100 + p)) - 1)) ∧
      t.cues.gather.edges = s.cues.gather.edges ++ [(p, v != inv)] ∧ t.Raised 0x166) ∧
  (∀ (s : State) (p : Nat) (v : Bool), s.UpAt 0x16 (0x100 + p) → p < 128 → s.n (O16.GPIO_MODE (0x100 + p)) = 1 → s.answers = true →
    Completes (.gpioSet p v) s fun t =>
      t.Holds (O16.GPIO_SET (0x100 + p)) v.toNat ∧ SMap.find? t.cues.pins p = some v.toNat ∧
      SameOutside [.cues] (fun k => k = O16.GPIO_SET (0x100 + p)) s t) ∧
  (∀ (s : State) (p a v : Nat), s.UpAt 0x16 (0x100 + p) → SMap.rising s.cues.pulses = true → SMap.find? s.cues.pulses p = some (a, v) →
    a ≤ s.now → Completes (.gpioPulseEnd p) s fun t =>
      SMap.find? t.cues.pins p = some v ∧ SMap.find? t.cues.pulses p = none ∧ SameOutside [.cues] (fun _ => False) s t)

/-- R530 to R537, R544, R551: HELLO and PROVE open a session or are rejected; sessions time out and close; datagrams are discarded, sealed
messages heard, and the mailbox ring moves. -/
def Obligations.SessionsOpenAndClose : Prop :=
  (∀ (s : State) (mailbox : Bool) (addr port role cred i n : Nat) (body : List Byte), s.Up → s.answers = true → s.talks mailbox = true →
    s.lockedOut addr = false → s.n O19.KS_STATE ≠ 2 → body.length = 133 → (body.headD 0).toNat = role → (body.getD 1 0).toNat = cred →
    role ≤ 2 → cred < 48 → s.helloCheck role cred mailbox 0xFFFF = OK → s.canDraw = true →
    ((List.range (if mailbox = true then 4 else 32)).find? fun i => (s.sess? ((if mailbox = true then 0x20 else 0) + i)).isNone) = some i →
    s.Holds O1C.HANDSHAKE_FAILS n → n + 1 < 2 ^ bitsOf O1C.HANDSHAKE_FAILS → Completes (.hello mailbox addr port body) s fun t =>
      (Config.ecOnCurve (slice body 36 97) = true →
        t.Holds (O1C.SESS_STATE ((if mailbox = true then 0x20 else 0) + i)) 1 ∧
        (t.sess? ((if mailbox = true then 0x20 else 0) + i)).map (fun x => (x.hello, x.since, x.high)) = some (body, s.now, 0)) ∧
      (Config.ecOnCurve (slice body 36 97) = false → t.Holds O1C.HANDSHAKE_FAILS (n + 1) ∧ t.sess = s.sess)) ∧
  (∀ (s : State) (addr port : Nat) (body : List Byte), s.Up → s.lockedOut addr = true → Completes (.hello false addr port body) s fun t =>
    t = s) ∧
  (∀ (s : State) (mailbox : Bool) (addr port n : Nat) (body : List Byte), s.Up → s.answers = true → s.talks mailbox = true →
    s.lockedOut addr = false → body.length ≠ 133 → s.Holds O1C.HANDSHAKE_FAILS n → n + 1 < 2 ^ bitsOf O1C.HANDSHAKE_FAILS →
    Completes (.hello mailbox addr port body) s fun t => t.Holds O1C.HANDSHAKE_FAILS (n + 1) ∧ t.sess = s.sess) ∧
  (∀ (s : State) (sess role cred n : Nat) (x : SessSt) (body : List Byte), s.Up → s.answers = true → s.talks (mailboxSess sess) = true →
    sess < 0x24 → s.sess? sess = some x → s.n (O1C.SESS_STATE sess) = 1 → x.claim = false → s.n O19.KS_STATE ≠ 2 → body.length = 96 →
    (x.hello.headD 0).toNat = role → (x.hello.getD 1 0).toNat = cred → cred < 48 → s.helloCheck role cred (mailboxSess sess) sess = OK →
    s.Holds O1C.HANDSHAKE_FAILS n → n + 1 < 2 ^ bitsOf O1C.HANDSHAKE_FAILS → Completes (.prove sess body) s fun t =>
      (Config.ecdsaVerify (s.bs (O1C.CRED_KEY (0x200 + cred))) (sha384 (x.hello ++ x.challenge)) body = true →
        t.Holds (O1C.SESS_STATE sess) 2 ∧ t.Holds (O1C.SESS_ROLE sess) role ∧ t.Holds (O1C.SESS_CRED sess) cred ∧ t.Raised 0x1C0) ∧
      (Config.ecdsaVerify (s.bs (O1C.CRED_KEY (0x200 + cred))) (sha384 (x.hello ++ x.challenge)) body = false →
        t.n (O1C.SESS_STATE sess) = 0 ∧ t.Holds O1C.HANDSHAKE_FAILS (n + 1) ∧ t.Raised 0x1C2)) ∧
  (∀ (s : State) (sess : Nat) (x : SessSt), s.Up → sess < 0x24 → SMap.rising s.sess = true → s.sess? sess = some x →
    s.n (O1C.SESS_STATE sess) = 1 → x.claim = false → x.since + 384000 ≤ s.now → Completes (.handshakeTimeout sess) s fun t =>
      t.sess? sess = none ∧ t.n (O1C.SESS_STATE sess) = 0 ∧ t.sent = s.sent) ∧
  (∀ (s : State) (addr u : Nat) (y : LockSt), s.Up → SMap.rising s.locks = true → SMap.find? s.locks addr = some y →
    y.until_ = some u → u ≤ s.now → Completes (.helloLockoutEnd addr) s fun t =>
      t.lockedOut addr = false ∧ SameOutside [.locks] (fun _ => False) s t) ∧
  (∀ (s : State) (sess seq : Nat) (x : SessSt), s.OpenTo sess x → x.high < seq → Completes (.keepalive sess seq) s fun t =>
    t = s.hears sess seq x) ∧
  (∀ (s : State) (sess seq status : Nat) (x : SessSt), s.OpenTo sess x → x.high < seq → sess < 0x24 → SMap.rising s.sess = true →
    Completes (.close sess seq status) s fun t =>
      t.sess? sess = none ∧ t.n (O1C.SESS_STATE sess) = 0 ∧ t.sent = s.sent ∧ t.Raised 0x1C1) ∧
  (∀ (s : State) (sess : Nat) (x : SessSt), s.OpenTo sess x → sess < 0x24 → SMap.rising s.sess = true → Completes (.sessClose sess) s fun t =>
    t.sess? sess = none ∧ t.n (O1C.SESS_STATE sess) = 0 ∧ t.Raised 0x1C1) ∧
  (∀ (s : State) (sess : Nat) (x : SessSt), s.OpenTo sess x → sess < 0x24 → SMap.rising s.sess = true →
    x.heard + s.n O1C.SESSION_TIMEOUT * 192 ≤ s.now → Completes (.sessionTimeout sess) s fun t =>
      t.sess? sess = none ∧ t.n (O1C.SESS_STATE sess) = 0 ∧ t.Raised 0x1C1) ∧
  (∀ (s : State) (iface addr port : Nat) (bytes : List Byte) (c : Compiled), s.Up → parseDgram bytes false = none →
    Completes (.datagramRx iface addr port bytes c) s fun t => t = s) ∧
  (∀ (s : State) (iface addr port n : Nat) (bytes : List Byte) (c : Compiled) (d : Dgram), s.Up → s.answers = true →
    s.talks false = true → iface < 2 → s.b (O1C.MGMT_ENABLE (0x100 + iface)) = true → parseDgram bytes false = some d → d.security = 1 →
    s.sessBy false d.ident 2 = none → s.Holds O1C.AUTH_DISCARDS n → n + 1 < 2 ^ bitsOf O1C.AUTH_DISCARDS →
    Completes (.datagramRx iface addr port bytes c) s fun t =>
      t.Holds O1C.AUTH_DISCARDS (n + 1) ∧ SameOutside [] (fun k => k = O1C.AUTH_DISCARDS) s t) ∧
  (∀ (s : State) (iface addr port sess : Nat) (bytes b : List Byte) (c : Compiled) (d : Dgram) (x : SessSt), s.Up → s.answers = true →
    s.talks false = true → iface < 2 → s.b (O1C.MGMT_ENABLE (0x100 + iface)) = true → parseDgram bytes false = some d → d.security = 1 →
    d.frag = 0 → d.kind = 0x14 → s.sessBy false d.ident 2 = some (sess, x) → s.sess? sess = some x → d.unseal x.keys = some b → b = [] →
    x.high < d.seq → Completes (.datagramRx iface addr port bytes c) s fun t => t = s.hears sess d.seq x) ∧
  (∀ (s : State) (sess seq : Nat), s.Up → Completes (.reassemblyTimeout sess seq) s fun t =>
    t.reasm = (s.reasm.filter fun r => !(r.sess == sess && r.seq == seq && decide (r.since + 19200 ≤ s.now))) ∧
    SameOutside [.reasm] (fun _ => False) s t) ∧
  (∀ (s : State) (iface : Nat) (up : Bool), s.UpAt 0x1C (0x100 + iface) → iface < 2 → s.b (O1C.MGMT_LINK (0x100 + iface)) ≠ up →
    Completes (.mgmtLinkChange iface up) s fun t => t.Holds (O1C.MGMT_LINK (0x100 + iface)) up.toNat ∧ t.Raised 0x1C9) ∧
  (∀ (s : State) (index : Nat), s.Up → s.mailReady = true →
    (s.mail.h2dHead + 15 - s.mail.h2dTail) % 16 < (index % 16 + 16 - s.mail.h2dTail) % 16 → Completes (.mbH2dTail index []) s fun t =>
      bit t.mail.status 0 = true ∧ t.mail.h2dTail = s.mail.h2dTail ∧ SameOutside [.mail] (fun _ => False) s t) ∧
  (∀ (s : State) (i : Nat) (d : Dgram) (sess : Nat) (x : SessSt), s.Up → s.mailReady = true → s.answers = true → i < 16 →
    s.mail.h2dHead = i → s.mail.h2dTail = i → parseDgram (s.h2dSlot i) true = some d → d.kind = 0x14 → d.security = 0 → d.frag = 0 →
    s.b O1C.MAILBOX_SEAL = false → s.sessBy true d.ident 2 = some (sess, x) → s.sess? sess = some x → x.high < d.seq →
    d.body.length ≤ 8192 → Completes (.mbH2dTail (i + 1) []) s fun t =>
      t.mail.h2dTail = (i + 1) % 16 ∧ t.mail.h2dHead = (i + 1) % 16 ∧ t.sess = (s.hears sess d.seq x).sess ∧
      SameOutside [.sess, .mail] (fun _ => False) s t) ∧
  (∀ (s : State) (index : Nat), s.Up → s.mailReady = true → s.mail.wait = [] →
    (index % 16 + 16 - s.mail.d2hHead) % 16 ≤ s.mail.d2h.length → Completes (.mbD2hHead index) s fun t =>
      t.mail.d2hHead = index % 16 ∧ t.mail.d2h = s.mail.d2h.drop ((index % 16 + 16 - s.mail.d2hHead) % 16) ∧
      SameOutside [.mail] (fun _ => False) s t)

/-- R526, R538 to R542: a request with a new SEQ is executed once and answered; GET and SET, transactions and subscriptions do what they
say. -/
def Obligations.RequestsAreExecutedOnceAndAnswered : Prop :=
  (∀ (s : State) (sess seq n : Nat) (x : SessSt) (r : Resp), s.OpenTo sess x → x.high = seq →
    (List.find? (fun (e : Nat × Nat × Resp) => e.1 == seq) x.cache) = some (seq, n, r) → Completes (.begin sess seq) s fun t =>
      SameOutside [.sess, .mail, .sent] (fun _ => False) s t) ∧
  (∀ (s : State) (sess seq tx k : Nat) (x : SessSt) (r : ObjRow), s.OpenTo sess x → x.high < seq → s.rowHere k = some r →
    r.acc.readable = true → r.admits (s.roleOf sess) = true → clsOf k = 0x0E → (wireBytes k (s.readPlain k r)).length ≤ 8000 →
    Completes (.get sess seq tx [⟨k, 0, []⟩]) s fun t =>
      t.Answered sess ⟨seq, 1, OK, 0, [⟨k, OK, wireBytes k (s.readPlain k r)⟩]⟩ ∧
      SameOutside [.sess, .mail, .sent] (fun _ => False) s t) ∧
  (∀ (s : State) (sess seq tx k : Nat) (x : SessSt), s.OpenTo sess x → x.high < seq → s.rowHere k = none →
    Completes (.get sess seq tx [⟨k, 0, []⟩]) s fun t =>
      t.Answered sess ⟨seq, 1, ABSENT, 0, [⟨k, ABSENT, []⟩]⟩ ∧ SameOutside [.sess, .mail, .sent] (fun _ => False) s t) ∧
  (∀ (s : State) (sess seq k : Nat) (x : SessSt) (r : ObjRow) (v : Val) (val : List Byte) (c : Compiled), s.OpenTo sess x → x.high < seq →
    (clsOf k = 0x08 ∨ clsOf k = 0x0F) → ownKey k = false → s.itemVal k (s.roleOf sess) 0 val State.mayWrite = .ok (r, v) →
    s.itemStatus k v = OK → r.acc = .W → Completes (.set sess seq [⟨k, 0, val⟩] c) s fun t =>
      t.stored k = some v ∧ t.Answered sess ⟨seq, 2, OK, 0, [⟨k, OK, []⟩]⟩ ∧
      SameOutside [.sess, .mail, .sent] (fun j => j = k) s t) ∧
  (∀ (s : State) (sess seq k m : Nat) (x : SessSt) (r : ObjRow) (val : List Byte) (c : Compiled), s.OpenTo sess x → x.high < seq →
    clsOf k = 0x0E → s.itemVal k (s.roleOf sess) 0 val State.mayWrite = .ok (r, .num m) → s.itemStatus k (.num m) = OK → r.acc = .RW →
    Completes (.set sess seq [⟨k, 0, val⟩] c) s fun t =>
      t.Holds k (clearBits (s.n k) m) ∧ t.Answered sess ⟨seq, 2, OK, 0, [⟨k, OK, []⟩]⟩ ∧
      SameOutside [.sess, .mail, .sent] (fun j => j = k) s t) ∧
  (∀ (s : State) (sess seq k : Nat) (x : SessSt) (r : ObjRow) (v : Val) (val : List Byte) (c : Compiled), s.OpenTo sess x → x.high < seq →
    clsOf k = 0x1A → s.itemVal k (s.roleOf sess) 0 val State.mayWrite = .ok (r, v) → s.itemStatus k v = OK → r.acc = .WP →
    s.accepts = true → s.roomForWrite [(k, v)] = true → Completes (.set sess seq [⟨k, 0, val⟩] c) s fun t =>
      t.stored k = some v ∧ t.jrnl.imm = (s.jrnl.imm.filter fun e => e.1 != k) ++ [(k, v)] ∧
      t.jrnl.immWait = s.jrnl.immWait ++ [(sess, ⟨seq, 2, OK, 0, [⟨k, OK, []⟩]⟩)] ∧ t.sent = s.sent ∧
      SameOutside [.sess, .jrnl] (fun j => j = k) s t) ∧
  (∀ (s : State) (sess seq : Nat) (x : SessSt), s.OpenTo sess x → x.high < seq → (s.txOpen sess).length < 4 →
    Completes (.begin sess seq) s fun t =>
      t.chain.opened = s.chain.opened ++ [{ Tx.blank (.host sess) [] with id := s.chain.lastTx + 1, touched := s.now }] ∧
      t.chain.lastTx = s.chain.lastTx + 1 ∧ t.Answered sess ⟨seq, 3, OK, s.chain.lastTx + 1, []⟩) ∧
  (∀ (s : State) (sess seq : Nat) (x : SessSt), s.OpenTo sess x → x.high < seq → 4 ≤ (s.txOpen sess).length →
    Completes (.begin sess seq) s fun t =>
      t.Answered sess ⟨seq, 3, BUSY, 0, []⟩ ∧ SameOutside [.sess, .mail, .sent] (fun _ => False) s t) ∧
  (∀ (s : State) (sess seq tx k : Nat) (x : SessSt) (y : Tx) (r : ObjRow) (v : Val) (val : List Byte), s.OpenTo sess x → x.high < seq →
    s.ownTx sess tx = some y → y.items = [] → clsOf k ≠ 0x14 → clsOf k ≠ 0x18 → clsOf k ≠ 0x19 →
    s.itemVal k (s.roleOf sess) 0 val (fun r => r.acc.staged) = .ok (r, v) → s.itemStatus k v = OK → (wireBytes k v).length ≤ 1048576 →
    Completes (.stage sess seq tx [⟨k, 0, val⟩]) s fun t =>
      t.ownTx sess tx = some { y with touched := s.now, items := [(k, v)], count := 1, bytes := (wireBytes k v).length } ∧
      t.Answered sess ⟨seq, 4, OK, 0, [⟨k, OK, []⟩]⟩ ∧ SameOutside [.sess, .mail, .sent, .chain] (fun _ => False) s t) ∧
  (∀ (s : State) (sess seq tx k : Nat) (x : SessSt) (r : ObjRow) (v : Val) (val : List Byte), s.OpenTo sess x → x.high < seq →
    s.ownTx sess tx = none → clsOf k ≠ 0x14 → clsOf k ≠ 0x18 → clsOf k ≠ 0x19 →
    s.itemVal k (s.roleOf sess) 0 val (fun r => r.acc.staged) = .ok (r, v) → s.itemStatus k v = OK → (wireBytes k v).length ≤ 1048576 →
    Completes (.stage sess seq tx [⟨k, 0, val⟩]) s fun t =>
      t.Answered sess ⟨seq, 4, CONFLICT, 0, [⟨k, CONFLICT, []⟩]⟩ ∧ SameOutside [.sess, .mail, .sent] (fun _ => False) s t) ∧
  (∀ (s : State) (sess seq tx k : Nat) (x : SessSt) (val : List Byte), s.OpenTo sess x → x.high < seq → s.ownTx sess tx = none →
    s.rowHere k = none → Completes (.stage sess seq tx [⟨k, 0, val⟩]) s fun t =>
      t.Answered sess ⟨seq, 4, ABSENT, 0, [⟨k, ABSENT, []⟩]⟩ ∧ SameOutside [.sess, .mail, .sent] (fun _ => False) s t) ∧
  (∀ (s : State) (sess seq tx act : Nat) (x : SessSt) (y : Tx) (c : Compiled), s.OpenTo sess x → x.high < seq → s.ownTx sess tx = some y →
    (y.fail ≠ 0 ∨ y.items = []) → Completes (.commit sess seq tx act c) s fun t =>
      t.ownTx sess tx = none ∧ t.chain.queue = s.chain.queue ∧
      t.Answered sess ⟨seq, 5, if y.fail ≠ 0 then y.fail else OK, if y.fail ≠ 0 then tx else 0, []⟩) ∧
  (∀ (s u : State) (sess seq tx act : Nat) (x : SessSt) (y : Tx) (c : Compiled), s.OpenTo sess x → x.high < seq →
    s.ownTx sess tx = some y → y.fail = 0 → y.items ≠ [] →
    (s.hears sess seq x).onChain (fun q => { q with opened := q.opened.filter fun z => z.id != tx }) = u →
    s.domainWide y.items = false →
    ((u.setN (O1C.SESS_TX_OPEN sess) (u.txOpen sess).length).commitTx y act (c.plan 0) (some s.tick64)).2 = PENDING →
    Completes (.commit sess seq tx act c) s fun t =>
      SameOutside [.sess, .mail, .sent] (fun _ => False)
        ((u.setN (O1C.SESS_TX_OPEN sess) (u.txOpen sess).length).commitTx y act (c.plan 0) (some s.tick64)).1 t) ∧
  (∀ (s : State) (sess seq tx o : Nat) (x : SessSt) (y : Tx), s.OpenTo sess x → x.high < seq → tx ≠ 0 → o < 0x24 →
    (s.pendingTxs.find? fun x => x.id == tx && tx != 0) = some y → y.origin = .host o → s.mayAbort sess o = true →
    Completes (.abort sess seq tx) s fun t =>
      (∀ q ∈ t.pendingTxs, q.order ≠ y.order) ∧ t.stored O1C.TX_LAST = some (.blob (d32 tx ++ d8 ABORTED ++ zeros 3 ++ d64 0)) ∧
      t.Answered sess ⟨seq, 6, OK, tx, []⟩) ∧
  (∀ (s : State) (sess seq tx o : Nat) (x : SessSt) (y : Tx), s.OpenTo sess x → x.high < seq → tx ≠ 0 →
    (s.pendingTxs.find? fun x => x.id == tx && tx != 0) = some y → y.origin = .host o → s.mayAbort sess o = false →
    Completes (.abort sess seq tx) s fun t =>
      t.Answered sess ⟨seq, 6, DENIED, tx, []⟩ ∧ SameOutside [.sess, .mail, .sent] (fun _ => False) s t) ∧
  (∀ (s : State) (sess seq tx : Nat) (x : SessSt) (y : Tx), s.OpenTo sess x → x.high < seq → s.ownTx sess tx = some y →
    Completes (.discard sess seq tx) s fun t =>
      (∀ q ∈ t.chain.opened, q.id ≠ tx) ∧ t.Raised 0x1C4 ∧ t.Answered sess ⟨seq, 7, OK, 0, []⟩) ∧
  (∀ (s : State) (tx sess : Nat) (y : Tx), s.Up → (s.chain.opened.find? fun x => x.id == tx) = some y → y.origin = .host sess →
    y.touched + s.n O1C.TX_IDLE * 192 ≤ s.now → Completes (.txIdle tx) s fun t =>
      (∀ q ∈ t.chain.opened, q.id ≠ tx) ∧ t.Raised 0x1C4) ∧
  (∀ (s : State) (sess seq : Nat) (x : SessSt) (i : Item), s.OpenTo sess x → x.high < seq → sess < 0x24 → clsOf i.obj ≠ 0x18 →
    clsOf i.obj ≠ 0x19 → (s.hears sess seq x).subCheck sess i x = OK → Completes (.subscribe sess seq [i]) s fun t =>
      t.Holds (O1C.SESS_SUBS sess) (x.subs.length + 1) ∧
      t.Answered sess ⟨seq, 9, OK, (x.subs.map (·.id)).foldl max 0 + 1, [⟨i.obj, OK, []⟩]⟩ ∧
      (t.sess? sess).map (fun y => y.subs.map fun u => (u.id, u.events, u.interval)) = some ((x.subs.map fun u => (u.id, u.events, u.interval))
        ++ [((x.subs.map (·.id)).foldl max 0 + 1, i.val.getD 0 0 == 1, natBE (slice i.val 4 4))])) ∧
  (∀ (s : State) (sess seq sub : Nat) (x : SessSt), s.OpenTo sess x → x.high < seq → sess < 0x24 → sub ≠ 0xFFFFFFFF →
    (x.subs.any fun u => u.id == sub) = true → Completes (.unsubscribe sess seq sub) s fun t =>
      t.Answered sess ⟨seq, 10, OK, 0, []⟩ ∧
      (t.sess? sess).map (·.subs) = some (x.subs.filter fun u => u.id != sub)) ∧
  (∀ (s : State) (sess seq note : Nat) (x : SessSt), s.OpenTo sess x → x.high < seq → sess < 0x24 → x.overflow = false →
    Completes (.notifyAck sess seq note) s fun t =>
      t.Holds (O1C.SESS_QUEUE sess) (x.notes.filter fun n => n.seq != note).length ∧
      (t.sess? sess).map (·.notes) = some (x.notes.filter fun n => n.seq != note)) ∧
  (∀ (s : State) (sess note : Nat) (x : SessSt) (m : Note), s.OpenTo sess x →
    (List.find? (fun (n : Note) => n.seq == note) x.notes) = some m → m.sentAt + 19200 ≤ s.now → m.tries < 10 →
    Completes (.notifyResend sess note) s fun t =>
      (t.sess? sess).map (·.notes) =
        some (x.notes.map fun n => if n.seq = note then { n with sentAt := s.now, tries := n.tries + 1 } else n)) ∧
  (∀ (s : State) (sess note : Nat) (x : SessSt) (m : Note), s.OpenTo sess x → sess < 0x24 → SMap.rising s.sess = true →
    (List.find? (fun (n : Note) => n.seq == note) x.notes) = some m → m.sentAt + 19200 ≤ s.now → 10 ≤ m.tries →
    Completes (.notifyResend sess note) s fun t => t.sess? sess = none ∧ t.n (O1C.SESS_STATE sess) = 0 ∧ t.Raised 0x1C1)

/-- R520, R521, R545 to R548: jobs are suspended, go on, are cancelled and released, move their data and end; a journal record is programmed,
and the answers that wait for it go. -/
def Obligations.JobsAndTheJournalGoOn : Prop :=
  (∀ (s : State) (sess seq j : Nat) (x : SessSt) (y : JobSt) (r : ObjRow), s.OpenTo sess x → x.high < seq → j < 64 →
    s.n (O1B.JOB_STATE j) = 2 → s.job? j = some y → rowOf (s.n (O1B.JOB_OBJECT j)) = some r → r.admits (s.roleOf sess) = true →
    Completes (.jobSuspend sess seq j) s fun t =>
      t.job? j = some { y with ask := max y.ask 1 } ∧ t.Answered sess ⟨seq, 8, OK, j, []⟩ ∧
      SameOutside [.sess, .mail, .sent, .jobs] (fun _ => False) s t) ∧
  (∀ (s : State) (sess seq j : Nat) (x : SessSt) (y : JobSt) (r : ObjRow), s.OpenTo sess x → x.high < seq → j < 64 →
    s.n (O1B.JOB_STATE j) = 3 → s.job? j = some y → rowOf (s.n (O1B.JOB_OBJECT j)) = some r → r.admits (s.roleOf sess) = true →
    Completes (.jobResume sess seq j) s fun t =>
      t.Holds (O1B.JOB_STATE j) (if s.n O1B.JOBS_RUNNING < s.n O1B.JOBS_LIMIT then 2 else 1) ∧ t.Holds (O1B.JOB_STATUS j) PENDING ∧
      t.Raised 0x1B2 ∧ t.Answered sess ⟨seq, 8, OK, j, []⟩) ∧
  (∀ (s : State) (sess seq j : Nat) (x : SessSt) (y : JobSt) (r : ObjRow), s.OpenTo sess x → x.high < seq → j < 64 →
    1 ≤ s.n (O1B.JOB_STATE j) → s.n (O1B.JOB_STATE j) ≤ 3 → s.job? j = some y → rowOf (s.n (O1B.JOB_OBJECT j)) = some r →
    r.admits (s.roleOf sess) = true → Completes (.jobCancel sess seq j) s fun t =>
      t.job? j = some { y with ask := 3 } ∧ t.Answered sess ⟨seq, 8, OK, j, []⟩ ∧
      SameOutside [.sess, .mail, .sent, .jobs] (fun _ => False) s t) ∧
  (∀ (s : State) (sess seq j : Nat) (x : SessSt) (y : JobSt) (r : ObjRow), s.OpenTo sess x → x.high < seq → j < 64 →
    SMap.rising s.jobs = true → s.n (O1B.JOB_STATE j) = 4 → s.job? j = some y → rowOf (s.n (O1B.JOB_OBJECT j)) = some r →
    r.admits (s.roleOf sess) = true → Completes (.jobRelease sess seq j) s fun t =>
      t.job? j = none ∧ t.n (O1B.JOB_STATE j) = 0 ∧ t.Answered sess ⟨seq, 8, OK, j, []⟩) ∧
  (∀ (s : State) (sess seq j : Nat) (x : SessSt) (r : ObjRow), s.OpenTo sess x → x.high < seq → j < 64 → s.n (O1B.JOB_STATE j) ≠ 0 →
    rowOf (s.n (O1B.JOB_OBJECT j)) = some r → r.admits (s.roleOf sess) = false → Completes (.jobCancel sess seq j) s fun t =>
      t.Answered sess ⟨seq, 8, DENIED, j, []⟩ ∧ SameOutside [.sess, .mail, .sent] (fun _ => False) s t) ∧
  (∀ (s : State) (sess seq j : Nat) (x : SessSt) (y : JobSt) (i : Item) (c : Compiled), s.OpenTo sess x → x.high < seq → j < 64 →
    s.bulkCheck sess j y.next [i] bulkIn (fun v => if v = [] ∨ 8000 < v.length then RANGE else OK) = .ok (y, i) →
    (y.data ++ i.val).length ≤ (s.bulkTotal y.obj (y.data ++ i.val)).1 → y.obj ≠ O18.FW_UPDATE →
    Completes (.bulkPut sess seq j y.next [i] c) s fun t =>
      t.Answered sess ⟨seq, 11, OK, (y.data ++ i.val).length, [⟨i.obj, OK, []⟩]⟩ ∧
      SameOutside [.sess, .mail, .sent, .jobs] (fun _ => False) s t ∧
      (t.job? j).map (fun z => (z.data, z.next, z.bulk)) = some (y.data ++ i.val, (y.data ++ i.val).length, some sess)) ∧
  (∀ (s : State) (sess seq j offset : Nat) (x : SessSt) (y : JobSt) (i : Item) (r : ObjRow) (c : Compiled), s.OpenTo sess x →
    x.high < seq → j < 64 → s.rowHere i.obj = some r → r.admits (s.roleOf sess) = true → i.val ≠ [] → i.val.length ≤ 8000 →
    s.job? j = some y → offset ≠ y.next → Completes (.bulkPut sess seq j offset [i] c) s fun t =>
      t.Answered sess ⟨seq, 11, RANGE, y.next, [⟨i.obj, RANGE, []⟩]⟩ ∧ SameOutside [.sess, .mail, .sent] (fun _ => False) s t) ∧
  (∀ (s : State) (sess seq j n : Nat) (x : SessSt) (y : JobSt) (i : Item), s.OpenTo sess x → x.high < seq → j < 64 →
    s.bulkCheck sess j y.next [i] bulkOut (fun v =>
      if v.length ≠ 2 then TYPE else if natBE v = 0 ∨ 8000 < natBE v then RANGE else OK) = .ok (y, i) → natBE i.val = n →
    y.ready = true → y.next + n < y.data.length → Completes (.bulkGet sess seq j y.next [i]) s fun t =>
      t.job? j = some { y with next := y.next + n, bulk := some sess } ∧
      t.Answered sess ⟨seq, 12, OK, y.next + n, [⟨i.obj, OK, slice y.data y.next n⟩]⟩ ∧
      SameOutside [.sess, .mail, .sent, .jobs] (fun _ => False) s t) ∧
  (∀ (s : State) (job status : Nat) (y : JobSt) (data : List Byte) (ecc : List (Nat × Nat × Nat)) (plans : List (Nat × Plan)), s.Up → job < 64 →
    s.job? job = some y → s.n (O1B.JOB_STATE job) = 2 → clsOf y.obj = 0x11 → status ≤ 0x0F → status ≠ PENDING → status ≠ OK →
    status ≠ CANCELLED → Completes (.jobComplete job status data ecc plans) s fun t =>
      t.Holds (O1B.JOB_STATE job) 4 ∧ t.Holds (O1B.JOB_STATUS job) status ∧ t.Holds (O1B.JOB_ENDED job) s.tick64 ∧ t.Raised 0x1B4) ∧
  (∀ (s : State) (job : Nat) (y : JobSt) (data : List Byte) (ecc : List (Nat × Nat × Nat)) (plans : List (Nat × Plan)), s.Up → job < 64 →
    s.job? job = some y → s.n (O1B.JOB_STATE job) = 2 → y.obj = O05.MEMTEST → s.safeHold = false → s.clocks.hbmBypass = false →
    Completes (.jobComplete job OK data ecc plans) s fun t =>
      t.Holds (O1B.JOB_STATE job) 4 ∧ t.Holds (O1B.JOB_STATUS job) OK ∧ t.Holds (O1B.JOB_PROGRESS job) 1000 ∧
      t.stored (O1B.JOB_RESULT job) = some (.blob ((s.testRead ecc).testResult (y.par.headD 0))) ∧ t.Raised 0x1B3) ∧
  (∀ (s : State) (job : Nat) (y : JobSt), s.Up → job < 64 → SMap.rising s.jobs = true → s.job? job = some y →
    s.n (O1B.JOB_STATE job) = 4 → y.doneAt + 115200000 ≤ s.now → Completes (.jobAutoRelease job) s fun t =>
      t.job? job = none ∧ t.n (O1B.JOB_STATE job) = 0 ∧ t.stored (O1B.JOB_RESULT job) = baseOf (O1B.JOB_RESULT job)) ∧
  (∀ (s : State) (sess : Nat) (x : SessSt) (r : JRec) (rest : List (JRec × JWait)) (q : Resp), s.Up → s.served = true →
    s.jrnl.todo = (r, .answers [(sess, q)]) :: rest → s.sess? sess = some x → q.items = [] → s.jrnl.compacting = false →
    s.runningJob O1C.JOURNAL_COMPACT = none → (recsBytes s.activeHalf + r.size) * 4 < halfBytes * 3 →
    Completes .journalRecordProgrammed s fun t =>
      t.activeHalf = s.activeHalf ++ [{ r with jseq := s.jrnl.seq + 1 }] ∧ t.jrnl.todo = rest ∧
      t.Holds O1C.JOURNAL_JSEQ (s.jrnl.seq + 1) ∧ t.Answered sess q) ∧
  (∀ (s : State), s.Up → s.served = true → s.immediateDue = true → s.jrnl.imm ≠ [] → Completes .immediateRecord s fun t =>
    t.jrnl.todo = s.jrnl.todo ++ [(⟨2, 0, s.tick64, 0, s.jrnl.imm⟩, .answers s.jrnl.immWait)] ∧ t.jrnl.imm = [] ∧ t.jrnl.immWait = [] ∧
    t.jrnl.lastImm = s.now ∧ SameOutside [.jrnl] (fun _ => False) s t)

/-- R562, R564, R565: DEVICE_RESET and FACTORY_DEFAULT close the device and prepare its reset; the die temperature is watched. -/
def Obligations.ResetsAreTakenAndHeatIsWatched : Prop :=
  (∀ (s : State), s.Up → s.served = true → s.boot.closing = false → Completes .deviceReset s fun t =>
    t.boot.closing = true ∧ t.boot.resetAt = some (s.now + 192, 2) ∧ t.Raised 0x003 ∧ t.chain = s.chain) ∧
  (∀ (s : State), s.Up → s.boot.closing = true → Completes .deviceReset s fun t => t = s) ∧
  (∀ (s : State), s.Up → s.served = true → s.boot.closing = false → s.pendingTxs = [] → s.jrnl.imm = [] →
    Completes (.factoryDefault 0x00464400) s fun t =>
      t.boot.closing = true ∧ t.jrnl.todo = s.jrnl.todo ++ [(⟨4, 0, s.tick64, 0, []⟩, .factory)] ∧
      SameOutside [.boot, .jrnl] (fun _ => False) s t) ∧
  (∀ (s : State) (value : Nat), s.Up → value ≠ 0x00464400 → Completes (.factoryDefault value) s fun t => t = s) ∧
  (∀ (s : State) (temp : Int), s.Up → s.served = true → s.hot = false → s.z 16 O00.DIE_TEMP_MAX < temp → s.z 16 O00.TEMP_WARN ≤ temp →
    Completes (.dieTempSample temp) s fun t =>
      t.Holds O00.DIE_TEMP (unsigned 16 temp) ∧ t.Holds O00.DIE_TEMP_MAX (unsigned 16 temp) ∧ t.hot = true ∧
      bit (t.n O00.DEV_FLAGS) 3 = true ∧ t.Raised 0x002) ∧
  (∀ (s : State) (temp : Int), s.Up → s.served = true → s.hot = true → s.measured = true → temp ≤ s.z 16 O00.DIE_TEMP_MAX →
    temp < s.z 16 O00.TEMP_WARN - 50 → Completes (.dieTempSample temp) s fun t =>
      t.hot = false ∧ t.Holds O00.DIE_TEMP (unsigned 16 temp) ∧ SameOutside [.hot, .measured] (fun k => k = O00.DIE_TEMP) s t)

/-- R578 to R592: transactions reach their targets, end in a decode error, or freeze their master; masters are unfrozen; DMA engines move and
fail; the host's requests reach BAR0, BAR2 and BAR4; where a channel has
no slot left for it, a transaction waits in the HBM target. -/
def Obligations.BusMastersAreServedFrozenAndFreed : Prop :=
  (∀ (s : State) (r : BusReq) (n : Nat), s.Up → r.master < 4 → r.write = true → r.beats = 1 → 0x1000000 ≤ r.addr →
    r.addr + 16 ≤ 0x2000000 → r.addr % 16 = 0 → r.data.length = 16 → r.key = none → r.fails = false → s.frozen r.master r.engine = false →
    s.pieceFault r r.addr = 0 → s.Holds (O17.TRANSACTIONS (0x100 + r.master)) n → n + 1 < 2 ^ bitsOf (O17.TRANSACTIONS (0x100 + r.master)) →
    Completes (.controlBusRequest [r]) s fun t =>
      ((List.range 16).map fun j => SMap.getD t.bus.sram (r.addr % 0x1000000 + j) 0) = r.data ∧
      (∀ x, x < r.addr % 0x1000000 ∨ r.addr % 0x1000000 + 16 ≤ x → SMap.getD t.bus.sram x 0 = SMap.getD s.bus.sram x 0) ∧
      t.Holds (O17.TRANSACTIONS (0x100 + r.master)) (n + 1) ∧ t.sent = s.sent ++ [.bus r.master r.addr 0 []]) ∧
  (∀ (s : State) (r : BusReq) (n : Nat), s.Up → r.master < 14 → r.beats = 1 → r.key = none → s.frozen r.master r.engine = false →
    s.pieceFault r r.addr = 4 → s.Holds O17.DECODE_ERRORS n → n + 1 < 2 ^ bitsOf O17.DECODE_ERRORS →
    Completes (.controlBusRequest [r]) s fun t =>
      t.Holds O17.DECODE_ERRORS (n + 1) ∧ bit (t.n O17.MATRIX_FLAGS) 1 = true ∧ t.frozen r.master r.engine = false ∧
      t.sent = s.sent ++ [.bus r.master r.addr 2 []]) ∧
  (∀ (s : State) (r : BusReq) (n : Nat), s.Up → r.master < 14 → r.master ≠ 12 → r.beats = 1 → r.key = none →
    s.frozen r.master r.engine = false → (s.pieceFault r r.addr = 1 ∨ s.pieceFault r r.addr = 2) → s.Holds O17.VIOLATIONS n →
    n + 1 < 2 ^ bitsOf O17.VIOLATIONS → Completes (.controlBusRequest [r]) s fun t =>
      t.Holds (O17.MASTER_STATE (0x100 + r.master)) 1 ∧ t.Holds O17.VIOLATIONS (n + 1) ∧ t.Raised 0x1F0 ∧ t.Raised (0x170 + r.master) ∧
      t.sent = s.sent ++ (s.bus.outside.filter (fun w => w.req.master == r.master)).map (fun w => .bus r.master w.req.addr 3 []) ++
        [.bus r.master r.addr 3 []] ∧
      t.bus.outside = s.bus.outside.filter (fun w => !(w.req.master == r.master)) ∧ t.bus.inside = s.bus.inside ∧
      t.bus.sram = s.bus.sram) ∧
  (∀ (s : State) (r : BusReq), s.Up → r.master < 14 → 1 ≤ r.beats → r.beats ≤ 64 → s.frozen r.master r.engine = true →
    Completes (.controlBusRequest [r]) s fun t =>
      t.sent = s.sent ++ [.bus r.master r.addr 3 []] ∧ t.bus.sram = s.bus.sram ∧ t.fmem = s.fmem) ∧
  (∀ (s : State) (m : Nat), s.Up → s.served = true → s.spFrozen = false → m < 14 → m ≠ 12 → s.frozen m 0 = true →
    Completes (.unfreeze (m * 256)) s fun t => t.Holds (O17.MASTER_STATE (0x100 + m)) 0 ∧ t.Raised 0x17E) ∧
  (∀ (s : State) (e : Nat), s.Up → s.served = true → s.spFrozen = false → e < 128 → s.frozen 12 e = true →
    Completes (.unfreeze (12 * 256 + e)) s fun t =>
      t.frozen 12 e = false ∧ t.Holds (O14.CE_STATE e) (if s.b (O14.CE_ENABLE e) then 1 else 0) ∧ t.Raised 0x145 ∧ t.Raised 0x17E) ∧
  (∀ (s : State) (m : Nat), s.Up → m < 14 → m ≠ 12 → s.frozen m 0 = false → Completes (.unfreeze (m * 256)) s fun t => t = s) ∧
  (∀ (s : State) (dma bytes n : Nat) (data : List Byte), s.Up → s.served = true → dma < 4 → 16 ≤ bytes → bytes ≤ 16777216 →
    s.frozen (7 + dma) 0 = false → s.Holds (O17.DMA_BYTES (0x300 + dma)) n → n + bytes < 2 ^ bitsOf (O17.DMA_BYTES (0x300 + dma)) →
    Completes (.dmaDescriptor dma bytes data none false) s fun t =>
      t.Holds (O17.DMA_BYTES (0x300 + dma)) (n + bytes) ∧ dma ∉ t.bus.retry ∧
      SameOutside [.bus] (fun k => k = O17.DMA_BYTES (0x300 + dma)) s t) ∧
  (∀ (s : State) (dma bytes n : Nat) (data : List Byte) (job : Option Nat) (error : Bool), s.Up → s.served = true → dma < 4 → 16 ≤ bytes →
    bytes ≤ 16777216 → s.frozen (7 + dma) 0 = false → dma ∉ s.bus.retry →
    (error = true ∨ s.clocks.hbmBypass = true ∧ s.clipDma job = true) →
    s.Holds (O17.DMA_ERRORS (0x300 + dma)) n → n + 1 < 2 ^ bitsOf (O17.DMA_ERRORS (0x300 + dma)) →
    Completes (.dmaDescriptor dma bytes data job error) s fun t =>
      t.Holds (O17.DMA_ERRORS (0x300 + dma)) (n + 1) ∧ dma ∈ t.bus.retry ∧
      SameOutside [.bus] (fun k => k = O17.DMA_ERRORS (0x300 + dma)) s t) ∧
  (∀ (s : State) (dma bytes n j : Nat) (data : List Byte) (y : JobSt), s.Up → s.served = true → dma < 4 → 16 ≤ bytes →
    bytes ≤ 16777216 → s.frozen (7 + dma) 0 = false → dma ∈ s.bus.retry → s.Holds (O17.DMA_ERRORS (0x300 + dma)) n → n + 1 < 2 ^ bitsOf (O17.DMA_ERRORS (0x300 + dma)) → j < 64 → s.job? j = some y →
    y.obj = O05.MEMTEST → s.n (O1B.JOB_STATE j) = 2 → Completes (.dmaDescriptor dma bytes data (some j) true) s fun t =>
      t.Holds (O17.DMA_ERRORS (0x300 + dma)) (n + 1) ∧ dma ∉ t.bus.retry ∧ t.Holds (O1B.JOB_STATE j) 4 ∧
      t.Holds (O1B.JOB_STATUS j) INTERNAL ∧ t.Raised 0x1B4) ∧
  (∀ (s : State) (v : Nat) (fails : Bool) (cs : List (Nat × Compiled)), s.Up → bit s.straps 2 = true → s.phase = .rom →
    s.boot.recovery = true → v ≤ 24 → Completes (.pcieRequest 0 0x80000 true 4 (bytesLE 4 v) fails cs) s fun t =>
      t.boot.page = v ∧ SameOutside [.boot] (fun _ => False) s t) ∧
  (∀ (s : State) (o len : Nat) (data : List Byte) (fails : Bool) (cs : List (Nat × Compiled)), s.Up → bit s.straps 2 = true →
    s.phase ≠ .rom → s.mailReady = true → s.frozen 11 0 = false → data ≠ [] → o % 16 = 0 → data.length ≤ 1024 → o + data.length ≤ 16384 →
    Completes (.pcieRequest 4 o true len data fails cs) s fun t =>
      ((List.range data.length).map fun j => SMap.getD t.bus.msix (o + j) 0) = data ∧
      (∀ x, x < o ∨ o + data.length ≤ x → SMap.getD t.bus.msix x 0 = SMap.getD s.bus.msix x 0) ∧ SameOutside [.ram] (fun _ => False) s t) ∧
  (∀ (s : State) (o len : Nat) (fails : Bool) (cs : List (Nat × Compiled)), s.Up → bit s.straps 2 = true → s.phase ≠ .rom →
    s.mailReady = true → s.frozen 11 0 = false → 0 < len → o % 16 + len ≤ 1024 → o + len ≤ 16384 →
    Completes (.pcieRequest 4 o false len [] fails cs) s fun t =>
      t.sent = s.sent ++ [.bus 11 o 0 ((List.range len).map fun j => SMap.getD s.bus.msix (o + j) 0)] ∧
      SameOutside [.sent] (fun _ => False) s t) ∧
  (∀ (s : State) (o len : Nat) (data : List Byte) (cs : List (Nat × Compiled)), s.Up → bit s.straps 2 = true → s.phase ≠ .rom →
    s.mailReady = true → s.frozen 11 0 = false → s.clocks.hbmBypass = false → data ≠ [] → data.length ≤ 16 → o % 16 = 0 →
    o + 16 ≤ s.fmSize → s.pieceFault (State.hostReq true (0x1000000000 + o) data.length data false) (0x1000000000 + o) = 0 →
    s.bus.inside = [] → s.bus.outside = [] → 0 < s.freeSlots (chanInst (o / 128 * 128)) → s.fmem.bad = [] →
    Completes (.pcieRequest 2 o true len data false cs) s fun t =>
      t.fmRead o data.length = data ∧ (∀ x, x < o ∨ o + data.length ≤ x → t.fmByte x = s.fmByte x)) ∧
  (∀ (s : State) (o len : Nat) (data : List Byte) (cs : List (Nat × Compiled)), s.Up → bit s.straps 2 = true → s.phase ≠ .rom →
    s.mailReady = true → s.frozen 11 0 = false → s.clocks.hbmBypass = false → data ≠ [] → data.length ≤ 16 → o % 16 = 0 →
    o + 16 ≤ s.fmSize → s.pieceFault (State.hostReq true (0x1000000000 + o) data.length data false) (0x1000000000 + o) = 0 →
    s.bus.inside = [] → s.bus.outside = [] → s.freeSlots (chanInst (o / 128 * 128)) = 0 →
    Completes (.pcieRequest 2 o true len data false cs) s fun t =>
      t.bus.inside = [⟨State.hostReq true (0x1000000000 + o) data.length data false, some (o, data.length, data)⟩] ∧
      t.sent = s.sent ∧ (∀ x, t.fmByte x = s.fmByte x))

/-- R598 to R609, R612, R615, R616, R620 to R622: from reset to the handover: the boot ROM holds, fails, recovers, or loads the image that
the boot record names; what a reset keeps; OTP changes go on where programming stopped. -/
def Obligations.TheBootRomStartsRecoversOrHolds : Prop :=
  (∀ (s : State) (straps pins : Nat) (entropy powered : Bool), s.Inv → s.phase = .inReset → s.asserted pins ≠ 0 →
    Completes (.resetRelease straps pins entropy powered) s fun t =>
      t.phase = .tamperHold ∧ t.boot.bootstat = 0x01060000 ∧ t.keys.ram = [] ∧ t.keys.handles = []) ∧
  (∀ (s : State) (straps pins v : Nat) (entropy powered : Bool), s.Inv → s.phase = .inReset → s.asserted pins = 0 →
    s.boot.otp.intents = [⟨1, v, true, false⟩] → s.boot.pwrOk = false → powered = false →
    Completes (.resetRelease straps pins entropy powered) s fun t =>
      t.phase = .bootFailed ∧ t.boot.bootstat = 0x02010000 ∧ t.boot.otp = s.boot.otp) ∧
  (∀ (s : State) (straps pins : Nat) (entropy powered : Bool), s.Inv → s.phase = .inReset → s.asserted pins = 0 →
    s.boot.otp.intents = [⟨1, 4, true, false⟩] → s.boot.pwrOk = true → s.stored O18.LC_STATE = none →
    Completes (.resetRelease straps pins entropy powered) s fun t =>
      t.phase = .endOfLife ∧ t.boot.bootstat = 0x03070000 ∧ t.boot.otp.lc = s.boot.otp.lc ++ [4] ∧
      t.boot.otp.intents = [⟨1, 4, true, true⟩]) ∧
  (∀ (s : State) (straps pins : Nat) (powered : Bool), s.Inv → s.phase = .inReset → s.asserted pins = 0 → s.boot.otp.intents = [] →
    s.n O18.LC_STATE = 2 → Completes (.resetRelease straps pins false powered) s fun t =>
      t.phase = .bootFailed ∧ t.boot.bootstat = 0x04030000) ∧
  (∀ (s : State) (straps pins : Nat) (powered : Bool), s.Inv → s.phase = .inReset → s.asserted pins = 0 → s.boot.otp.intents = [] →
    s.n O18.LC_STATE = 2 → s.rootSecret ≠ [] → bit straps 2 = true → bit straps 3 = true →
    Completes (.resetRelease straps pins true powered) s fun t =>
      t.phase = .rom ∧ t.boot.recovery = true ∧ t.boot.rcv = 0 ∧ t.boot.bootstat = 0x07000000) ∧
  (∀ (s : State) (straps pins copy seq a tries : Nat) (powered : Bool), s.Inv → s.phase = .inReset → s.asserted pins = 0 →
    s.boot.otp.intents = [] → s.n O18.LC_STATE = 2 → s.rootSecret ≠ [] → bit straps 2 = false →
    s.pickRecord = some (copy, seq, a, false, tries) → a < 2 → Completes (.resetRelease straps pins true powered) s fun t =>
      (s.slotOk a = true → t.phase = .rom ∧ t.boot.bootstat = 0x0B000000 ∧ t.boot.source = a ∧ t.boot.image = s.slotImage a ∧
        t.boot.measurement = measureImage (s.slotImage a) ∧ t.Holds O17.REMAP 1) ∧
      (s.slotOk a = false → s.slotOk (1 - a) = true → t.boot.bootstat = 0x0B000000 ∧ t.boot.source = 1 - a ∧
        t.boot.image = s.slotImage (1 - a) ∧ (0x180, 1) ∈ t.boot.left) ∧
      (s.slotOk a = false → s.slotOk (1 - a) = false → t.phase = .bootFailed ∧ t.boot.bootstat = 0x07050000)) ∧
  (∀ (s : State) (straps pins seq a tries : Nat) (powered : Bool), s.Inv → s.phase = .inReset → s.asserted pins = 0 →
    s.boot.otp.intents = [] → s.n O18.LC_STATE = 2 → s.rootSecret ≠ [] → bit straps 2 = false →
    s.pickRecord = some (0, seq, a, true, tries) → a < 2 → Completes (.resetRelease straps pins true powered) s fun t =>
      (3 ≤ tries → t.boot.copy1 = bootBytes ((seq + 1) % 0x100000000) a false 0 ∧ (0x184, 8) ∈ t.boot.left) ∧
      (tries < 3 → s.slotOk (1 - a) = true → t.boot.copy1 = bootBytes ((seq + 1) % 0x100000000) a true (tries + 1) ∧
        t.boot.source = 1 - a ∧ t.Holds O18.TRIAL_TRIES (tries + 1) ∧ t.Holds O18.TRIAL_STATE 2)) ∧
  (∀ (s : State), Completes .porstNFall s fun t =>
    t.phase = .inReset ∧ t.Holds O00.RESET_CAUSE 1 ∧ t.pending = s.pending ∧ t.boot.copy0 = s.boot.copy0 ∧ t.boot.copy1 = s.boot.copy1 ∧
    t.boot.otp = { s.boot.otp with intents := s.boot.otp.intents.filter fun i => i.armed } ∧ t.jrnl.half0 = s.jrnl.half0 ∧
    t.jrnl.half1 = s.jrnl.half1 ∧ t.sess = [] ∧ t.jobs = [] ∧ t.stored O18.STANDBY_TAMPER = s.stored O18.STANDBY_TAMPER ∧
    t.stored O19.TAMPER_CONFIG = s.stored O19.TAMPER_CONFIG ∧
    ∀ k, k ≠ O00.RESET_CAUSE → k ≠ O18.STANDBY_TAMPER → k ≠ O19.TAMPER_CONFIG → k ≠ O19.TAMPER_LEVELS → t.stored k = baseOf k) ∧
  (∀ (s : State) (length : Nat) (img : List Byte), s.Up → s.phase = .rom → s.boot.recovery = true →
    (List.range (min length 13107200)).map (fun i => SMap.getD s.bus.sram i 0) = img → img.take 4 ≠ magicImage →
    Completes (.rcvLength length) s fun t => t.boot.rcv = 3 ∧ SameOutside [.boot] (fun _ => False) s t) ∧
  (∀ (s : State) (length : Nat) (img : List Byte), s.Up → s.phase = .rom → s.boot.recovery = true →
    (List.range (min length 13107200)).map (fun i => SMap.getD s.bus.sram i 0) = img → img.take 4 = magicImage →
    Completes (.rcvLength length) s fun t =>
      (s.imageCheck img = none → t.boot.rcv = 2 ∧ t.boot.image = img ∧ t.boot.source = 2 ∧ t.boot.bootstat = 0x0B000000 ∧
        (0x181, 2) ∈ t.boot.left) ∧
      ∀ o e, s.imageCheck img = some (o, e) → t.boot.rcv = 3 + o * 256) ∧
  (∀ (s : State) (pins : Nat), s.Up → s.phase ≠ .running → s.asserted pins &&& s.asserted s.keys.pins ≠ 0 →
    Completes (.tamperAtStartUp pins) s fun t =>
    t.phase = .tamperHold ∧ t.keys.ram = [] ∧ t.boot.bootstat = s.boot.bootstat / 0x1000000 * 0x1000000 + 0x60000) ∧
  (∀ (s : State) (pins : Nat), s.Inv → s.phase = .inReset → s.asserted pins &&& s.asserted s.keys.pins ≠ 0 →
    Completes (.standbyTamper pins) s fun t => t.Holds O18.STANDBY_TAMPER 1 ∧ t.keys.ram = [] ∧ t.phase = .inReset) ∧
  (∀ (s : State) (pins : Nat), s.Inv → s.phase = .inReset → s.asserted pins &&& s.asserted s.keys.pins = 0 →
    Completes (.standbyTamper pins) s fun t =>
    t.keys = { s.keys with pins := pins % 32 } ∧ t.Holds O19.TAMPER_LEVELS (s.asserted pins) ∧ SameOutside [.keys] (fun k => k = O19.TAMPER_LEVELS) s t) ∧
  (∀ (s : State), Completes (.pwrOkChange false) s fun t => t.boot.pwrOk = false ∧ SameOutside [.boot] (fun _ => False) s t) ∧
  (∀ (s : State), s.Up → s.phase = .rom → s.boot.bootstat = 0x05000000 → s.n O18.LC_STATE = 1 → s.rootSecret = [] →
    bit s.boot.otp.void 0 = false → bit s.straps 2 = true → bit s.straps 3 = true → Completes (.pwrOkChange true) s fun t =>
      t.boot.pwrOk = true ∧ t.boot.otp.bank0.length = 48 ∧ t.boot.recovery = true ∧ t.boot.bootstat = 0x07000000)

/-- R522, R601, R603, R608, R611 to R618, R622: the handover and the first chain; a trial is confirmed or ends; OTP changes are requested,
armed and done, and the sessions of role VND close where the device leaves SERVICE. -/
def Obligations.TheDeviceStartsAndItsLifeCycleChanges : Prop :=
  (∀ (s : State) (regions : List (List Byte)) (failed : List Nat), s.Up → s.phase = .rom → s.boot.bootstat = 0x0B000000 →
    s.activeHalf = [] → s.conv.luts = [] → s.b O18.STANDBY_TAMPER = false → Completes (.handover none regions failed) s fun t =>
      t.phase = .neloas ∧ t.bus.regions = (regions.take 32).map regionOf ∧ t.Holds O17.REGIONS_LOCKED 1 ∧ t.Raised 0x190 ∧
      t.boot.left = [] ∧ ∀ e ∈ s.boot.left, t.Raised e.1) ∧
  (∀ (s : State) (regions : List (List Byte)) (failed : List Nat), s.Up → s.phase = .rom → s.boot.bootstat = 0x0B000000 →
    s.activeHalf = [] → s.conv.luts = [] → s.b O18.STANDBY_TAMPER = true → Completes (.handover none regions failed) s fun t =>
      t.phase = .tamperWait ∧ t.mailReady = true ∧ t.Raised 0x186) ∧
  (∀ (s : State) (regions : List (List Byte)) (failed : List Nat) (i p n tick : Nat), s.Up → s.phase = .rom →
    s.boot.bootstat = 0x0B000000 → i < 0x800 → s.present 0x0E i = true → s.activeHalf = [⟨2, n, tick, 0, [(O0E.RX_UDP i, .num p)]⟩] →
    s.conv.luts = [] → Completes (.handover none regions failed) s fun t => t.Holds (O0E.RX_UDP i) p ∧ t.jrnl.seq = n) ∧
  (∀ (s : State) (micros : Nat) (plan : Plan), s.Up → s.phase = .neloas → s.coreLocked = true → Completes (.firstChain micros plan) s fun t =>
    t.phase = .running ∧ t.tick.tick = 0 ∧ t.tick.up = 0 ∧ t.Holds O01.CHAIN_STATE 0 ∧ t.mailReady = true ∧ t.boot.bootTime = micros ∧
    t.Raised 0x000) ∧
  (∀ (s : State) (micros : Nat) (plan : Plan), s.Up → s.coreLocked = false → Completes (.firstChain micros plan) s fun t => t = s) ∧
  (∀ (s : State) (seq a tries : Nat) (trial : Bool), s.Up → s.phase = .running → s.trialDue = true →
    s.pickRecord = some (0, seq, a, trial, tries) → Completes .trialConfirmation s fun t =>
      t.Holds O18.TRIAL_STATE 0 ∧ t.Holds O18.TRIAL_TRIES 0 ∧ t.Raised 0x183 ∧
      t.boot.copy1 = bootBytes ((seq + 1) % 0x100000000) (1 - a % 2) false 0 ∧ t.boot.copy0 = s.boot.copy0) ∧
  (∀ (s : State), s.Up → s.trialLate = true → s.boot.resetAt = none → Completes .trialWatchdog s fun t =>
    t.boot.closing = true ∧ t.boot.resetAt = some (s.now + 192, 2) ∧ t.Raised 0x003) ∧
  (∀ (s : State) (target : Nat), s.Up → s.served = true → (s.n O18.LC_STATE = 1 ∧ target = 2 ∧ s.b O19.ENROLLED = true ∨
      s.n O18.LC_STATE = 3 ∧ target = 2 ∨ s.n O18.LC_STATE = 3 ∧ target = 4) → s.fwJob = none → s.boot.closing = false →
    s.n O18.LC_COUNT < 63 → s.boot.otp.intents.length < 64 → Completes (.lcTransition target) s fun t =>
      t.boot.otp.intents = s.boot.otp.intents ++ [⟨1, target, false, false⟩] ∧ t.boot.closing = true ∧ t.boot.otp.lc = s.boot.otp.lc ∧
      SameOutside [.boot] (fun _ => False) s t) ∧
  (∀ (s : State) (target : Nat), s.Up → s.n O18.LC_STATE = 2 → target < 3 → Completes (.lcTransition target) s fun t => t = s) ∧
  (∀ (s : State), s.Up → s.served = true → s.n O18.TRIAL_STATE ≠ 2 → s.boot.otp.svn < State.imageSvn s.boot.image →
    s.boot.otp.intents.length < 64 → Completes .fwCommit s fun t =>
      t.boot.otp.intents = s.boot.otp.intents ++ [⟨2, State.imageSvn s.boot.image, false, false⟩] ∧ SameOutside [.boot] (fun _ => False) s t) ∧
  (∀ (s : State), s.Up → s.served = true → s.b O18.STANDBY_TAMPER = true → Completes .tamperAck s fun t =>
    t.Holds O18.STANDBY_TAMPER 0 ∧ t.Raised 0x187 ∧ t.phase = (if s.phase = .tamperWait then .neloas else s.phase)) ∧
  (∀ (s : State), s.Up → s.b O18.STANDBY_TAMPER = false → Completes .tamperAck s fun t => t = s) ∧
  (∀ (s : State) (l m : List Intent) (i : Intent), s.Up → s.served = true → s.boot.pwrOk = true → s.boot.otp.intents = l ++ i :: m →
    (l.all fun x => x.done) = true → i.done = false → i.armed = false → Completes (.otpIntent none) s fun t =>
      t.boot.otp = { s.boot.otp with intents := l ++ { i with armed := true } :: m } ∧
      SameOutside [.boot, .evu] (fun k => k ∈ eventRegs 0x18B) s t) ∧
  (∀ (s : State) (l m : List Intent) (v : Nat), s.Up → s.served = true → s.boot.pwrOk = true →
    s.boot.otp.intents = l ++ ⟨1, v, true, false⟩ :: m → (l.all fun x => x.done) = true → Completes (.otpIntent none) s fun t =>
      t.boot.otp = { s.boot.otp with lc := s.boot.otp.lc ++ [v], intents := l ++ ⟨1, v, true, true⟩ :: m } ∧ t.Raised 0x185 ∧
      t.boot.resetAt = some (s.now + 192, 2)) ∧
  (∀ (s : State) (l m : List Intent) (v i : Nat), s.Up → s.served = true → s.boot.pwrOk = true →
    s.boot.otp.intents = l ++ ⟨1, v, true, false⟩ :: m → (l.all fun x => x.done) = true → s.n O18.LC_STATE = 3 → v < 5 → v ≠ 3 →
    i ∈ s.openSessions → s.n (O1C.SESS_ROLE i) = 3 → Completes (.otpIntent none) s fun t =>
      t.boot.otp.lc = s.boot.otp.lc ++ [v] ∧ t.Holds (O1C.SESS_STATE i) 0 ∧ t.Raised 0x1C1) ∧
  (∀ (s : State) (l m : List Intent) (v : Nat), s.Up → s.served = true → s.boot.pwrOk = true →
    s.boot.otp.intents = l ++ ⟨2, v, true, false⟩ :: m → (l.all fun x => x.done) = true → Completes (.otpIntent none) s fun t =>
      t.boot.otp = { s.boot.otp with svn := max s.boot.otp.svn v, intents := l ++ ⟨2, v, true, true⟩ :: m } ∧ t.Raised 0x189) ∧
  (∀ (s : State) (k : Nat), s.Up → s.served = true → k < 4 → bit s.boot.otp.revoked k = false → s.boot.otp.intents.length < 64 →
    Completes (.otpIntent (some k)) s fun t =>
      t.boot.otp = { s.boot.otp with intents := s.boot.otp.intents ++ [⟨3, k, false, false⟩] } ∧ SameOutside [.boot] (fun _ => False) s t)

/-- R640 to R648, R655: handles open by path and by blob and close; keys are generated, wrapped, used and revoked; each answer stands in
KEY_RESULT of its session, and each refusal too. -/
def Obligations.KeyRequestsAreAnsweredInKeyResult : Prop :=
  (∀ (s : State) (sess root h : Nat) (body key id : List Byte) (labels : List (List Byte)), s.KeyReady sess 1 → root ≤ 1 →
    State.bodyPath body = .ok labels → s.rootBy root = some (key, id) → s.freeHandle h = OK → Completes (.openPath sess root h body) s fun t =>
      t.KeyAnswer sess 1 ((hmac384 (s.derive key labels (nodeIds id labels)) lblCheck).take 8) ∧
      t.handle? h = some ⟨1, root, 0, lastAttrs labels, labels, nodeIds id labels, id, 48, sess, false⟩ ∧
      t.Holds (O19.HANDLE_STATE h) 1 ∧ t.Holds (O19.HANDLE_OWNER h) sess) ∧
  (∀ (s : State) (sess h : Nat) (body : List Byte) (o : Opened), s.KeyReady sess 2 → s.openBlob body = .ok o → s.freeHandle h = OK →
    Completes (.openBlob sess h body) s fun t =>
      t.KeyAnswer sess 2 ((hmac384 o.key lblCheck).take 8) ∧
      t.handle? h = some ⟨2, o.root, o.keyType, o.attrs, o.labels, o.path, o.rootId, o.key.length, sess, false⟩ ∧
      t.Holds (O19.HANDLE_STATE h) 1 ∧ t.Holds (O19.HANDLE_OWNER h) sess) ∧
  (∀ (s : State) (sess h e : Nat) (body : List Byte), s.KeyReady sess 2 → 0x100 ≤ h → h < 0x200 →
    s.openBlob body = .error e → e ≠ REVOKED →
    Completes (.openBlob sess h body) s fun t => t.KeyRefused sess 2 e ∧ t.keys = s.keys) ∧
  (∀ (s : State) (sess h : Nat) (x : Handle), s.KeyReady sess 3 → 0x100 ≤ h → h < 0x200 → s.handle? h = some x → x.owner = sess →
    SMap.rising s.keys.handles = true → SMap.rising s.keys.ram = true → Completes (.keyClose sess h) s fun t =>
      t.KeyAnswer sess 3 [] ∧ t.handle? h = none ∧ t.ramKey h x.len = zeros x.len ∧ t.n (O19.HANDLE_STATE h) = 0) ∧
  (∀ (s : State) (sess h : Nat) (x : Handle), s.KeyReady sess 3 → 0x100 ≤ h → h < 0x200 → s.handle? h = some x → x.owner ≠ sess →
    Completes (.keyClose sess h) s fun t =>
      t.KeyRefused sess 3 DENIED ∧ t.keys = s.keys ∧ bit (t.n O19.KS_FLAGS) 0 = true) ∧
  (∀ (s : State) (sess kek n : Nat) (body : List Byte) (x : Handle) (o : Opened), s.KeyReady sess 4 → body.length = 10 →
    s.useHandle sess kek 4 = .ok x → State.wrapHead body x = .ok o → s.noEntropy = false → (if o.keyType = 1 then 32 else 48) = n →
    Completes (.generate sess kek body) s fun t =>
      t.KeyAnswer sess 4 ((s.drbg n).2.wrapKey { o with key := (s.drbg n).1 } (s.handleKey kek x)).1 ∧ t.keys.handles = s.keys.handles) ∧
  (∀ (s : State) (sess kek n : Nat) (body : List Byte) (x : Handle) (o : Opened), s.KeyReady sess 5 →
    (mailboxSess sess = false ∨ s.b O1C.MAILBOX_SEAL = true) → (if (body.getD 0 0).toNat = 1 then 32 else 48) = n → body.length = 10 + n →
    s.useHandle sess kek 4 = .ok x → State.wrapHead body x = .ok o → s.noEntropy = false → Completes (.wrap sess kek body) s fun t =>
      t.KeyAnswer sess 5 (s.wrapKey { o with key := slice body 10 n } (s.handleKey kek x)).1 ∧ t.keys.handles = s.keys.handles) ∧
  (∀ (s : State) (sess kek : Nat) (body : List Byte), s.KeyReady sess 5 → mailboxSess sess = true → s.b O1C.MAILBOX_SEAL = false →
    Completes (.wrap sess kek body) s fun t => t.KeyRefused sess 5 DENIED ∧ t.keys = s.keys) ∧
  (∀ (s : State) (sess kek : Nat) (body : List Byte), s.Up → s.served = true → s.n (O1C.SESS_STATE sess) = 2 →
    (s.sess? sess).isSome = true → s.n (O1C.SESS_ROLE sess) = 1 → Completes (.wrap sess kek body) s fun t =>
      t.KeyRefused sess 5 DENIED ∧ t.keys = s.keys ∧ bit (t.n O19.KS_FLAGS) 0 = true) ∧
  (∀ (s : State) (sess h a : Nat) (body : List Byte) (x : Handle), s.KeyReady sess 6 → natBE (body.take 2) = a → a ≤ 256 →
    natBE (slice body 2 2) = 0 → 4 + a < body.length → body.length ≤ 4100 + a → s.useHandle sess h 0 = .ok x → x.keyType ≠ 2 →
    s.noEntropy = false → Completes (.encrypt sess h body) s fun t =>
      t.KeyAnswer sess 6 ((s.drbg 12).1 ++
        gcmSeal ((s.handleKey h x).take 32) (s.drbg 12).1 (slice body 4 a) (body.drop (4 + a))) ∧ t.keys.handles = s.keys.handles) ∧
  (∀ (s : State) (sess h a n : Nat) (body : List Byte) (x : Handle), s.KeyReady sess 7 → natBE (body.take 2) = a → a ≤ 256 →
    natBE (slice body 2 2) = 0 → body.length = 32 + a + n → 0 < n → n ≤ 4096 → s.useHandle sess h 1 = .ok x → x.keyType ≠ 2 →
    Completes (.decrypt sess h body) s fun t =>
      (∀ pt, gcmOpen ((s.handleKey h x).take 32) (slice body 4 12) (slice body 16 a) (slice body (16 + a) n) (body.drop (16 + a + n)) =
        some pt → t.KeyAnswer sess 7 pt) ∧
      (gcmOpen ((s.handleKey h x).take 32) (slice body 4 12) (slice body 16 a) (slice body (16 + a) n) (body.drop (16 + a + n)) =
        none → t.KeyRefused sess 7 TYPE)) ∧
  (∀ (s : State) (sess h : Nat) (body : List Byte) (x : Handle), s.KeyReady sess 8 → body ≠ [] → body.length ≤ 4096 →
    s.useHandle sess h 2 = .ok x → x.keyType ≠ 1 → Completes (.mac sess h body) s fun t =>
      t.KeyAnswer sess 8 (hmac384 (s.handleKey h x) body) ∧ t.keys.handles = s.keys.handles) ∧
  (∀ (s : State) (sess h e : Nat) (body : List Byte), s.KeyReady sess 8 → body ≠ [] → body.length ≤ 4096 →
    s.useHandle sess h 2 = .error e → Completes (.mac sess h body) s fun t => t.KeyRefused sess 8 e ∧ t.keys = s.keys) ∧
  (∀ (s : State) (sess h : Nat) (body : List Byte), s.Up → s.served = true → s.n (O1C.SESS_STATE sess) = 2 →
    (s.sess? sess).isSome = true → State.opRole 8 (s.n (O1C.SESS_ROLE sess)) = true → s.n O19.KS_STATE = 2 →
    Completes (.mac sess h body) s fun t => t.KeyRefused sess 8 TAMPER ∧ t.keys = s.keys) ∧
  (∀ (s : State) (sess root node g : Nat) (body key id : List Byte) (labels : List (List Byte)), s.KeyReady sess 9 → root ≤ 1 →
    State.bodyPath body = .ok labels → s.rootBy root = some (key, id) → (nodeIds id labels).getLast?.getD 0 = node → s.genOf node = g →
    g < 0xFFFFFFFF → s.keys.gens.length < 4096 → SMap.rising s.keys.handles = true → Completes (.revoke sess root body) s fun t =>
      t.KeyAnswer sess 9 (bytesBE 4 (g + 1)) ∧ t.genOf node = g + 1 ∧ node ∈ t.keys.gone ∧ t.Raised 0x192 ∧
      ∀ h x, t.handle? h = some x → node ∈ x.path → x.revoked = true) ∧
  (∀ (s : State) (sess : Nat) (body : List Byte) (o : Opened), s.KeyReady sess 10 → s.openBlob body = .ok o → o.root = 1 →
    s.noEntropy = false → Completes (.rewrap sess body) s fun t =>
      t.KeyAnswer sess 10 (s.wrapKey { o with root := 0, rootId := s.keys.rootId, path := nodeIds s.keys.rootId o.labels }
        (s.derive (s.ramKey 0 48) o.labels (nodeIds s.keys.rootId o.labels))).1 ∧ t.keys.handles = s.keys.handles) ∧
  (∀ (s : State) (sess : Nat) (body : List Byte) (o : Opened), s.KeyReady sess 10 → s.openBlob body = .ok o → o.root = 0 →
    Completes (.rewrap sess body) s fun t => t.KeyRefused sess 10 DENIED ∧ t.keys = s.keys)

/-- R633, R645, R646, R649 to R651, R655 to R657: enrolment and attestation; the key RAM is re-masked; the entropy source fails and comes
back; a tamper response empties the key store and leaves media alone. -/
def Obligations.TheKeyStoreIsKeptAndEmptied : Prop :=
  (∀ (s : State) (sess : Nat) (v : List Byte), s.Up → s.served = true → s.n (O1C.SESS_STATE sess) = 2 → (s.sess? sess).isSome = true →
    v.length = 97 → s.n O18.LC_STATE = 1 → s.b O19.ENROLLED = false → s.n O19.KS_STATE ≠ 2 → s.noEntropy = false → s.spFrozen = false →
    Completes (.enroll sess v) s fun t =>
      (Config.ecOnCurve v = true → t.Holds O19.ENROLLED 1 ∧ t.Raised 0x195 ∧ (t.own sess O19.ENROLL_RESULT).isSome = true) ∧
      (Config.ecOnCurve v = false → t = s)) ∧
  (∀ (s : State) (sess : Nat) (v : List Byte), s.Up → v.length = 97 → s.n O18.LC_STATE ≠ 1 → Completes (.enroll sess v) s fun t => t = s) ∧
  (∀ (s : State) (sess : Nat) (v m : List Byte), s.Up → s.served = true → s.n (O1C.SESS_STATE sess) = 2 → (s.sess? sess).isSome = true →
    v.length = 32 → s.n O18.LC_STATE = 2 → s.n O19.KS_STATE ≠ 2 → s.spFrozen = false →
    magicAttest ++ [1] ++ bytesBE 1 2 ++ bytesBE 1 (s.n O18.LC_COUNT) ++ bytesBE 1 (s.n O00.PART) ++ s.serialBytes ++
      padTo 48 s.boot.measurement ++ v ++ bytesBE 8 s.tick64 ++ bytesBE 4 (s.n O00.NELOAS_VERSION) ++
      bytesBE 2 (State.imageSvn s.boot.image) ++ bytesBE 2 (s.n O18.SVN_OTP) = m → Completes (.attest sess v) s fun t =>
      t.own sess O19.ATTEST_RESULT = some (.blob (m ++ hmac384 (s.ramKey 3 48) m)) ∧ SameOutside [.sess] (fun _ => False) s t) ∧
  (∀ (s : State), s.Up → s.served = true → s.member = .tmn9624 → s.n O19.KS_STATE ≠ 2 → s.spFrozen = false →
    SMap.rising s.keys.ram = true → Completes .keyRetire s fun t =>
      t.keys.prevId = [] ∧ t.keys.transfer = [] ∧ t.ramKey 1 48 = zeros 48 ∧ t.Holds O19.MIGRATE_STATE 0 ∧ t.Raised 0x199) ∧
  (∀ (s : State), s.Up → s.member ≠ .tmn9624 → Completes .keyRetire s fun t => t = s) ∧
  (∀ (s : State) (v : Nat), s.Up → s.served = true → bit v 12 = true → v &&& 0x1F0F = v → v ≠ s.n O19.TAMPER_CONFIG →
    Completes (.tamperConfig v) s fun t => t.Holds O19.TAMPER_CONFIG v ∧ t.Raised 0x19D) ∧
  (∀ (s : State) (v : Nat), s.Up → bit v 12 = false → Completes (.tamperConfig v) s fun t => t = s) ∧
  (∀ (s : State) (v m : List Byte), s.Up → SMap.find? s.keys.ram s.keys.next = some (v, m) → v.length = 64 → m.length = 64 →
    Completes .remask s fun t =>
      t.keys.next = (s.keys.next + 1) % 512 ∧ t.keys.handles = s.keys.handles ∧ ∀ slot len, t.ramKey slot len = s.ramKey slot len) ∧
  (∀ (s : State) (n : Nat), s.Up → s.keys.next = 511 → s.Holds O19.REMASK_PASSES n → n + 1 < 2 ^ bitsOf O19.REMASK_PASSES →
    Completes .remask s fun t => t.Holds O19.REMASK_PASSES (n + 1) ∧ t.keys.next = 0) ∧
  (∀ (s : State), s.Up → s.noEntropy = false → s.keys.reseedAt + 192000 ≤ s.now → Completes .drbgReseed s fun t =>
    t.keys.requests = 0 ∧ t.keys.reseedAt = s.now ∧ SameOutside [.keys] (fun _ => False) s t) ∧
  (∀ (s : State), s.Up → s.now < s.keys.reseedAt + 192000 → Completes .drbgReseed s fun t => t = s) ∧
  (∀ (s : State), s.Up → s.noEntropy = false → (s.keys.fails.any fun t => decide (s.now < t + 192000)) = false →
    Completes .entropyHealthFailure s fun t =>
      bit (t.n O19.KS_FLAGS) 4 = true ∧ t.Raised 0x19A ∧ t.noEntropy = false ∧ s.now ∈ t.keys.fails) ∧
  (∀ (s : State), s.Up → s.noEntropy = false → (s.keys.fails.any fun t => decide (s.now < t + 192000)) = true →
    Completes .entropyHealthFailure s fun t => t.noEntropy = true ∧ t.Raised 0x19A ∧ t.Raised 0x19B) ∧
  (∀ (s : State), s.Up → s.noEntropy = true → s.keys.fails.headD 0 + 1920000 ≤ s.now → Completes (.entropyRetest true) s fun t =>
    t.Holds O19.ENTROPY_STATE 0 ∧ t.keys.fails = [] ∧ SameOutside [.keys] (fun k => k = O19.ENTROPY_STATE) s t) ∧
  (∀ (s : State), s.Up → s.noEntropy = true → s.keys.fails.headD 0 + 1920000 ≤ s.now → Completes (.entropyRetest false) s fun t =>
    t.noEntropy = true ∧ t.keys = { s.keys with fails := [s.now] } ∧ SameOutside [.keys] (fun _ => False) s t) ∧
  (∀ (s : State) (passed : Bool), s.Up → s.now < s.keys.fails.headD 0 + 1920000 → Completes (.entropyRetest passed) s fun t => t = s) ∧
  (∀ (s : State), Completes .aonSupplyLoss s fun t =>
    t.keys.lost = true ∧ t.keys.ram = [] ∧ SameOutside [.keys, .fresh] (fun k => k = O18.STANDBY_TAMPER) s t) ∧
  (∀ (s : State) (pins : Nat), s.Up → s.phase = .running → s.asserted pins &&& s.asserted s.keys.pins ≠ 0 →
    s.n O19.KS_STATE ≠ 2 →
    Completes (.tamperRunning pins) s fun t =>
      t.keys.ram = [] ∧ t.keys.handles = [] ∧ t.keys.rootId = [] ∧ t.keys.wipe = true ∧ t.sess = [] ∧ t.Holds O19.KS_STATE 2 ∧
      t.Holds O18.STANDBY_TAMPER 1 ∧ t.Raised 0x194 ∧ t.chain.active = s.chain.active) ∧
  (∀ (s : State) (pins : Nat), s.Up → s.asserted pins &&& s.asserted s.keys.pins = 0 → Completes (.tamperRunning pins) s fun t =>
    t.keys = { s.keys with pins := pins % 32 } ∧ t.Holds O19.TAMPER_LEVELS (s.asserted pins) ∧ SameOutside [.keys] (fun k => k = O19.TAMPER_LEVELS) s t)

/-- R666: a raising sets RAISED, and REPEATED where RAISED was 1, adds 1 to EV_COUNT, which saturates, and sets EV_LAST_TICK; a raising that
a unit's own rate limit suppresses changes nothing; a number that no chapter gives a meaning is never raised. -/
def Obligations.ARaisingMarksItsEvent : Prop :=
  (∀ (s : State) (event inst m n : Nat) (detail : List Byte), s.Up → definedEvent event = true → detail.length ≤ 40 →
    s.Holds (O1A.EV_STATUS event) m → s.Holds (O1A.EV_COUNT event) n → Completes (.eventRaised event inst detail) s fun t =>
      t.Holds (O1A.EV_STATUS event) (m ||| if bit m 0 = true then 3 else 1) ∧ t.Holds (O1A.EV_COUNT event) (min (n + 1) 0xFFFFFFFF) ∧
      t.Holds (O1A.EV_LAST_TICK event) s.eventTick) ∧
  (∀ (s : State) (event inst : Nat) (detail : List Byte), s.Up → definedEvent event = false → Completes (.eventRaised event inst detail) s fun t =>
    t = s) ∧
  (∀ (s : State) (event inst ticks last : Nat) (detail : List Byte), SMap.find? s.evu.last (event * 0x10000 + inst) = some last →
    s.now < last + ticks → s.raiseLim event inst detail ticks = s)

/-- R667, R668, R675 to R677, R689: what a raising records, masked or not; ACK_ALL and ROUTE_DEFAULTS. -/
def Obligations.EventsAreMaskedRecordedAndCleared : Prop :=
  (∀ (s : State) (event inst : Nat) (detail : List Byte), s.Up → definedEvent event = true → detail.length ≤ 40 →
    s.b (O1A.EV_MASK event) = true → Completes (.eventRaised event inst detail) s fun t =>
      t.stored (O1A.EV_LAST_RECORD event) =
        some (.blob (s.record event inst detail true (bit (s.n (O1A.EV_STATUS event)) 0) 0).bytes) ∧
      SameOutside [] (fun k => k ∈ [O1A.EV_STATUS event, O1A.EV_COUNT event, O1A.EV_LAST_TICK event, O1A.EV_LAST_RECORD event]) s t) ∧
  (∀ (s : State) (event inst : Nat) (detail : List Byte), s.Up → definedEvent event = true → detail.length ≤ 40 →
    s.b (O1A.EV_MASK event) = false → (s.evu.made < 256 ∨ event = 0x1A1) → Completes (.eventRaised event inst detail) s fun t =>
      t.evu.queue = s.evu.queue ++
        [s.record event inst detail false (bit (s.n (O1A.EV_STATUS event)) 0) ((s.evu.seq + 1) % 0x100000000)] ∧
      t.evu.seq = (s.evu.seq + 1) % 0x100000000 ∧
      t.stored (O1A.EV_LAST_RECORD event) = some (.blob
        (s.record event inst detail false (bit (s.n (O1A.EV_STATUS event)) 0) ((s.evu.seq + 1) % 0x100000000)).bytes) ∧
      SameOutside [.evu] (fun k => k ∈ [O1A.EV_STATUS event, O1A.EV_COUNT event, O1A.EV_LAST_TICK event, O1A.EV_LAST_RECORD event,
        O1A.RECORDS_MADE]) s t) ∧
  (∀ (s : State) (event inst : Nat) (detail : List Byte), s.Up → definedEvent event = true → detail.length ≤ 40 →
    s.b (O1A.EV_MASK event) = false → 256 ≤ s.evu.made → event ≠ 0x1A1 → Completes (.eventRaised event inst detail) s fun t =>
      t.evu = { s.evu with suppressed := s.evu.suppressed + 1 } ∧ bit (t.n O1A.EVU_FLAGS) 1 = true ∧
      SameOutside [.evu] (fun k => k ∈ [O1A.EV_STATUS event, O1A.EV_COUNT event, O1A.EV_LAST_TICK event, O1A.RECORDS_SUPPRESSED,
        O1A.EVU_FLAGS]) s t) ∧
  (∀ (s : State), s.Up → s.served = true → Completes .ackAll s fun t =>
    t.irq = false ∧ (∀ e, e < 0x1000 → bit (t.n (O1A.EV_STATUS e)) 0 = false ∧ bit (t.n (O1A.EV_STATUS e)) 1 = false) ∧
    SameOutside [] (fun k => ∃ e, e < 0x1000 ∧ k = O1A.EV_STATUS e) s t) ∧
  (∀ (s : State), s.Up → s.closed = false → Completes .routeDefaults s fun t =>
    (∀ e, e < 0x1000 → t.stored (O1A.EV_MASK e) = baseOf (O1A.EV_MASK e) ∧ t.stored (O1A.EV_SEVERITY e) = baseOf (O1A.EV_SEVERITY e) ∧
      t.stored (O1A.EV_ROUTE e) = baseOf (O1A.EV_ROUTE e)) ∧
    (∀ k, t.stored k ≠ s.stored k → ∃ v, (k, v) ∈ t.jrnl.imm) ∧
    SameOutside [.jrnl] (fun k => ∃ e, e < 0x1000 ∧ (k = O1A.EV_MASK e ∨ k = O1A.EV_SEVERITY e ∨ k = O1A.EV_ROUTE e)) s t) ∧
  (∀ (s : State), s.Up → s.closed = true → Completes .routeDefaults s fun t => t = s)

/-- R16, R667: a write clears the status bits written as 1, keeps those written as 0, and changes nothing else; at a member of
a link group, which is not written by itself, nothing changes. -/
def Obligations.StatusBitsAreWriteOneToClear : Prop :=
  (∀ (s : State) (role k m flags : Nat) (r : ObjRow) (val : List Byte), s.Up → s.answers = true → s.heldBack role k false = false →
    s.itemVal k role flags val State.mayWrite = .ok (r, .num m) → s.itemStatus k (.num m) = OK → r.acc = .RW → s.groupMember k = false →
    Completes (.registerWrite role k flags val) s fun t =>
      t.Holds k (clearBits (s.n k) m) ∧ (∀ i, bit (t.n k) i = (bit (s.n k) i && !bit m i)) ∧ SameOutside [] (fun j => j = k) s t) ∧
  (∀ (s : State) (role k m flags : Nat) (r : ObjRow) (val : List Byte), s.Up →
    s.itemVal k role flags val State.mayWrite = .ok (r, .num m) → r.acc = .RW → s.groupMember k = true →
    Completes (.registerWrite role k flags val) s fun t => t = s) ∧
  (∀ (s : State) (event mask : Nat), s.Up → s.served = true → event < 0x1000 → mask < 4 → Completes (.evStatus event mask) s fun t =>
    (∀ i, bit (t.n (O1A.EV_STATUS event)) i = (bit (s.n (O1A.EV_STATUS event)) i && !bit mask i)) ∧
    SameOutside [] (fun j => j = O1A.EV_STATUS event) s t)

/-- R19, R521, R538: a write under a role takes effect, is journaled where it is persistent, or is refused and changes nothing. -/
def Obligations.RegisterWritesTakeEffectOrAreRefused : Prop :=
  (∀ (s : State) (role k flags : Nat) (r : ObjRow) (v : Val) (val : List Byte), s.Up → s.answers = true → s.heldBack role k false = false →
    (clsOf k = 0x08 ∨ clsOf k = 0x0F) → ownKey k = false → s.itemVal k role flags val State.mayWrite = .ok (r, v) → s.itemStatus k v = OK →
    r.acc = .W → Completes (.registerWrite role k flags val) s fun t =>
      t.stored k = some v ∧ SameOutside [] (fun j => j = k) s t) ∧
  (∀ (s : State) (role k flags : Nat) (r : ObjRow) (v : Val) (val : List Byte), s.Up → s.answers = true → s.heldBack role k false = false →
    clsOf k = 0x1A → s.itemVal k role flags val State.mayWrite = .ok (r, v) → s.itemStatus k v = OK → r.acc = .WP → s.accepts = true →
    s.roomForWrite [(k, v)] = true → Completes (.registerWrite role k flags val) s fun t =>
      t.stored k = some v ∧ t.jrnl.imm = (s.jrnl.imm.filter fun e => e.1 != k) ++ [(k, v)] ∧
      SameOutside [.jrnl] (fun j => j = k) s t) ∧
  (∀ (s : State) (role k flags e : Nat) (val : List Byte), s.Up → s.itemVal k role flags val State.mayWrite = .error e →
    Completes (.registerWrite role k flags val) s fun t => t = s) ∧
  (∀ (s : State) (role k flags : Nat) (val : List Byte), s.Up → s.heldBack role k false = true →
    Completes (.registerWrite role k flags val) s fun t => t = s)

/-- R545, R566: a job starts in the lowest free slot, where it runs or waits; while its object has a job, a second start is BUSY. -/
def Obligations.JobsStartRunOrWait : Prop :=
  (∀ (s : State) (sess which j : Nat), s.JobFree O05.MEMTEST j → which ≤ stackCount s.member → which ≤ 4 →
    Completes (.memtest sess which) s fun t => s.JobTaken t sess O05.MEMTEST j) ∧
  (∀ (s : State) (sess clip j : Nat), s.JobFree (O05.CLIP_LOAD clip) j → s.present 0x05 clip = true → 0x100 ≤ clip →
    (s.Holds (O05.CLIP_STATE clip) 1 ∨ ((s.Holds (O05.CLIP_STATE clip) 3 ∨ s.Holds (O05.CLIP_STATE clip) 4) ∧ s.clipRead clip = false)) →
    Completes (.clipLoad sess clip) s fun t =>
      s.JobTaken t sess (O05.CLIP_LOAD clip) j ∧ t.Holds (O05.CLIP_STATE clip) 2 ∧ t.Holds (O05.CLIP_LOADED clip) 0) ∧
  (∀ (s : State) (sess clip j : Nat), s.JobFree (O05.CLIP_SAVE clip) j → s.present 0x05 clip = true → 0x100 ≤ clip →
    (s.Holds (O05.CLIP_STATE clip) 3 ∨ s.Holds (O05.CLIP_STATE clip) 4) → Completes (.clipSave sess clip) s fun t =>
      s.JobTaken t sess (O05.CLIP_SAVE clip) j ∧ t.Holds (O05.CLIP_STATE clip) 5) ∧
  (∀ (s : State) (sess slot j : Nat), s.JobFree (O09.LUT_LOAD slot) j → s.present 0x09 slot = true → 0xC00 ≤ slot →
    Completes (.lutLoad sess slot) s fun t => s.JobTaken t sess (O09.LUT_LOAD slot) j ∧ t.Holds (O09.LUT_STATE slot) 1) ∧
  (∀ (s : State) (sess lane j : Nat), s.JobFree (O11.EYE_SCAN lane) j → s.present 0x11 lane = true → s.Holds (O11.RX_STATE lane) 3 →
    ((List.range 64).filter fun i => clsOf (s.n (O1B.JOB_OBJECT i)) == 0x11 && decide (2 ≤ s.n (O1B.JOB_STATE i)) &&
      decide (s.n (O1B.JOB_STATE i) ≤ 3)).length < 8 → Completes (.eyeScan sess lane) s fun t =>
        s.JobTaken t sess (O11.EYE_SCAN lane) j) ∧
  (∀ (s : State) (sess j : Nat), s.JobFree O18.FW_UPDATE j → s.n O18.TRIAL_STATE ≠ 1 → s.n O18.TRIAL_STATE ≠ 2 →
    Completes (.fwUpdate sess) s fun t => s.JobTaken t sess O18.FW_UPDATE j ∧ t.Holds O18.FW_PHASE 1) ∧
  (∀ (s : State) (sess j : Nat) (value : List Byte), s.JobFree O19.KEY_MIGRATE j → s.member = .tmn9624 →
    (value.length = 48 ∨ (value = [] ∧ s.transferHere = true)) → s.n O18.LC_STATE = 2 →
    Completes (.keyMigrate sess value) s fun t => s.JobTaken t sess O19.KEY_MIGRATE j) ∧
  (∀ (s : State) (sess j : Nat), s.JobFree O1C.JOURNAL_COMPACT j → Completes (.journalCompact sess) s fun t =>
    s.JobTaken t sess O1C.JOURNAL_COMPACT j) ∧
  (∀ (s : State) (sess scope j : Nat), s.JobFree O00.CONFIG_EXPORT j → s.jobOf O00.CONFIG_IMPORT = none → (scope ≤ 0x1C ∨ scope = 0xFF) →
    Completes (.configExport sess scope) s fun t => s.JobTaken t sess O00.CONFIG_EXPORT j) ∧
  (∀ (s : State) (sess mode j : Nat), s.JobFree O00.CONFIG_IMPORT j → s.jobOf O00.CONFIG_EXPORT = none → mode ≤ 1 →
    Completes (.configImport sess mode) s fun t => s.JobTaken t sess O00.CONFIG_IMPORT j) ∧
  (∀ (s : State) (sess device j : Nat), s.JobFree O13.RESYNC j → SMap.rising s.jobs = true → s.domainState = 6 → device < 1024 →
    (s.Holds (O13.MEMBER_STATE (0x100 + device)) 2 ∨ s.Holds (O13.MEMBER_STATE (0x100 + device)) 3) → device ≠ s.n O13.DEVICE_ID →
    Completes (.resync sess device) s fun t =>
      s.JobTaken t sess O13.RESYNC j ∧
      (s.n O1B.JOBS_RUNNING < s.n O1B.JOBS_LIMIT → t.domain.highest = s.domain.highest + 1)) ∧
  (∀ (s : State) (sess which : Nat), s.Up → (s.jobOf O05.MEMTEST).isSome = true → Completes (.memtest sess which) s fun t => t = s) ∧
  (∀ (s : State) (sess scope : Nat), s.Up → (s.jobOf O00.CONFIG_IMPORT).isSome = true → Completes (.configExport sess scope) s fun t =>
    t = s) ∧
  (∀ (s : State) (sess mode : Nat), s.Up → (s.jobOf O00.CONFIG_EXPORT).isSome = true → Completes (.configImport sess mode) s fun t => t = s)

/-- A step runs the command at the front of the queue with the queue's rest; on an empty queue the block idles (the model's choice, log
entry 1). -/
def Obligations.AStepRunsTheCommandAtTheFront : Prop :=
  (∀ (c : Instr) (rest : List Instr) (s : State), step { s with pending := c :: rest } = exec c { s with pending := rest }) ∧
  (∀ s : State, s.pending = [] → step s = .next s)

/-- Every command answers a next state, in every state; it leaves the queue and the family member alone (R1, R4; log entries 1 and 4). -/
def Obligations.EveryCommandAnswersAndLeavesTheQueue : Prop :=
  ∀ (c : Instr) (s : State), Completes c s fun t => t.pending = s.pending ∧ t.member = s.member

/-- R48, R517, R598: right after reset PORST_N is low, every object holds its default, TICK64 is 0, TIME_VALID is false, and no session, job,
transaction or record exists; no command waits (the queue is the model's own, log entry 1). The invariant holds. -/
def Obligations.ResetHoldsTheDefaultsAndTheInvariant : Prop :=
  (∀ k, State.reset.stored k = baseOf k) ∧ State.reset.phase = .inReset ∧ State.reset.pending = [] ∧ State.reset.tick64 = 0 ∧
  State.reset.Holds O01.TIME_VALID 0 ∧ State.reset.sess = [] ∧
  State.reset.jobs = [] ∧ State.reset.pendingTxs = [] ∧ State.reset.evu.log = [] ∧ State.reset.irq = false ∧ State.reset.Inv

/-- Every step keeps the invariant: the registers, the counter samples and the memories stay in their one canonical form, the event log
within 1,024 records (R678), and the residue of the tick generator below one cycle (R43). -/
def Obligations.EveryStepKeepsTheInvariant : Prop :=
  ∀ s t : State, s.Inv → step s = .next t → t.Inv

/-- The frame of every command: it changes at most the parts of the state and the registers of its footprint. -/
def Obligations.EveryCommandKeepsToItsFootprint : Prop :=
  ∀ (c : Instr) (s : State), ChangesOnly c s (Footprint.of c).parts (Footprint.of c).reg

/-- R598, R604, R685: while PORST_N is low or the start has been halted, no command has an effect but those of PORST_N, PWR_OK, the
always-on supply and the tamper sources in standby (log entry 10). -/
def Obligations.ADeadDeviceIsChangedByItsPinsAlone : Prop :=
  ∀ (c : Instr) (s : State), s.alive = false → actsOnDead c = false → Completes c s fun t => t = s

/-- R44: a written TPER is clamped to 7,999.2 to 8,000.8 cycles, with event 0x017 where it is; within the range every tick is 7,999, 8,000
or 8,001 cycles long. -/
def Obligations.TheTickPeriodIsClamped : Prop :=
  (∀ (s : State) (v : Nat), s.Inv →
    let t := s.writeTper v
    79992 * 2 ^ 40 ≤ 10 * t.tick.tper.toNat ∧ 10 * t.tick.tper.toNat ≤ 80008 * 2 ^ 40 ∧
    (79992 * 2 ^ 40 ≤ 10 * v → 10 * v ≤ 80008 * 2 ^ 40 → t.tick.tper.toNat = v ∧ t.evu = s.evu) ∧
    (10 * v < 79992 * 2 ^ 40 ∨ 80008 * 2 ^ 40 < 10 * v → t.Raised 0x017) ∧ t.Holds O01.TICK_PERIOD t.tick.tper.toNat) ∧
  (∀ s : State, s.Up → s.phase = .running → s.Holds O01.CHAIN_STATE 0 → 79992 * 2 ^ 40 ≤ 10 * s.tick.tper.toNat →
    10 * s.tick.tper.toNat ≤ 80008 * 2 ^ 40 → Completes .tickBoundary s fun t => 7999 ≤ t.tick.len ∧ t.tick.len ≤ 8001)
end

