-- ==== Sys2Proof/Laws/Cells.lean ====
section
/-! SUPPORT. Sparse maps: what a read gives after a write, and that writes keep the keys rising. -/

namespace Sys2Proof.Machine

variable {α : Type} {m : SMap α} {k j l : Nat} {a : α}

theorem SMap.above_mono (h : j ≤ k) (hm : SMap.above k m = true) : SMap.above j m = true := by
  cases m with
  | nil => rfl
  | cons e m => obtain ⟨i, b⟩ := e; simp only [SMap.above, Bool.and_eq_true, decide_eq_true_eq] at hm ⊢; exact ⟨by omega, hm.2⟩

theorem SMap.above_rising (hm : SMap.above k m = true) : SMap.rising m = true := by
  cases m with
  | nil => rfl
  | cons e m => obtain ⟨i, b⟩ := e; simp only [SMap.above, Bool.and_eq_true] at hm; exact hm.2

theorem SMap.find?_of_above (hm : SMap.above k m = true) (hj : j ≤ k) : SMap.find? m j = none := by
  induction m generalizing k with
  | nil => rfl
  | cons e m ih =>
    obtain ⟨i, b⟩ := e
    simp only [SMap.above, Bool.and_eq_true, decide_eq_true_eq] at hm
    simp only [SMap.find?]
    rw [if_neg (by omega)]
    exact ih hm.2 (by omega)

theorem SMap.find?_put_same (m : SMap α) (k : Nat) (a : α) : SMap.find? (SMap.put m k a) k = some a := by
  induction m with
  | nil => simp [SMap.put, SMap.find?]
  | cons e m ih =>
    obtain ⟨i, b⟩ := e
    simp only [SMap.put]
    split
    · simp [SMap.find?]
    · split
      · simp [SMap.find?]
      · simp only [SMap.find?]; rw [if_neg (by omega)]; exact ih

theorem SMap.find?_put_ne (m : SMap α) (a : α) (h : j ≠ k) : SMap.find? (SMap.put m k a) j = SMap.find? m j := by
  induction m with
  | nil => simp [SMap.put, SMap.find?, h.symm]
  | cons e m ih =>
    obtain ⟨i, b⟩ := e
    simp only [SMap.put]
    split
    · simp [SMap.find?, h.symm]
    · split
      · subst_vars; simp [SMap.find?, h.symm]
      · simp only [SMap.find?, ih]

theorem SMap.find?_del_ne (m : SMap α) (h : j ≠ k) : SMap.find? (SMap.del m k) j = SMap.find? m j := by
  induction m with
  | nil => rfl
  | cons e m ih =>
    obtain ⟨i, b⟩ := e
    simp only [SMap.del]
    split
    · subst_vars; simp [SMap.find?, h.symm]
    · simp only [SMap.find?, ih]

theorem SMap.above_put (hm : SMap.above j m = true) (h : j < k) : SMap.above j (SMap.put m k a) = true := by
  induction m generalizing j with
  | nil => simp [SMap.put, SMap.above, h]
  | cons e m ih =>
    obtain ⟨i, b⟩ := e
    simp only [SMap.above, Bool.and_eq_true, decide_eq_true_eq] at hm
    simp only [SMap.put]
    split
    · simp [SMap.above, h, hm.2, *]
    · split
      · subst_vars; simp [SMap.above, hm.1, hm.2]
      · simp only [SMap.above, Bool.and_eq_true, decide_eq_true_eq]; exact ⟨hm.1, ih hm.2 (by omega)⟩

theorem SMap.above_del (hm : SMap.above j m = true) : SMap.above j (SMap.del m k) = true := by
  induction m generalizing j with
  | nil => rfl
  | cons e m ih =>
    obtain ⟨i, b⟩ := e
    simp only [SMap.above, Bool.and_eq_true, decide_eq_true_eq] at hm
    simp only [SMap.del]
    split
    · exact SMap.above_mono (by omega) hm.2
    · simp only [SMap.above, Bool.and_eq_true, decide_eq_true_eq]; exact ⟨hm.1, ih hm.2⟩

theorem SMap.rising_put (hm : SMap.rising m = true) : SMap.rising (SMap.put m k a) = true := by
  cases m with
  | nil => rfl
  | cons e m =>
    obtain ⟨i, b⟩ := e
    simp only [SMap.rising] at hm
    simp only [SMap.put]
    split
    · simp [SMap.rising, SMap.above, hm, *]
    · split
      · subst_vars; exact hm
      · exact SMap.above_put hm (by omega)

theorem SMap.rising_del (hm : SMap.rising m = true) : SMap.rising (SMap.del m k) = true := by
  cases m with
  | nil => rfl
  | cons e m =>
    obtain ⟨i, b⟩ := e
    simp only [SMap.rising] at hm
    simp only [SMap.del]
    split
    · exact SMap.above_rising hm
    · exact SMap.above_del hm

theorem SMap.find?_del_same (hm : SMap.rising m = true) : SMap.find? (SMap.del m k) k = none := by
  induction m with
  | nil => rfl
  | cons e m ih =>
    obtain ⟨i, b⟩ := e
    simp only [SMap.rising] at hm
    simp only [SMap.del]
    split
    · subst_vars; exact SMap.find?_of_above hm (by omega)
    · simp only [SMap.find?]; rw [if_neg (by assumption)]; exact ih (SMap.above_rising hm)

theorem SMap.above_filter (p : Nat × α → Bool) (hm : SMap.above k m = true) : SMap.above k (m.filter p) = true := by
  induction m generalizing k with
  | nil => rfl
  | cons e m ih =>
    obtain ⟨i, b⟩ := e
    simp only [SMap.above, Bool.and_eq_true, decide_eq_true_eq] at hm
    simp only [List.filter]
    split
    · simp only [SMap.above, Bool.and_eq_true, decide_eq_true_eq]; exact ⟨hm.1, ih hm.2⟩
    · exact SMap.above_mono (by omega) (ih hm.2)

theorem SMap.rising_filter (p : Nat × α → Bool) (hm : SMap.rising m = true) : SMap.rising (m.filter p) = true := by
  cases m with
  | nil => rfl
  | cons e m =>
    obtain ⟨i, b⟩ := e
    simp only [SMap.rising] at hm
    simp only [List.filter]
    split
    · exact SMap.above_filter p hm
    · exact SMap.above_rising (SMap.above_filter p hm)

theorem SMap.mem_put {e : Nat × α} (h : e ∈ SMap.put m k a) : e = (k, a) ∨ e ∈ m := by
  induction m with
  | nil => simpa [SMap.put] using h
  | cons x m ih =>
    obtain ⟨i, b⟩ := x
    simp only [SMap.put] at h
    split at h
    · simpa using h
    · split at h
      · simp only [List.mem_cons] at h ⊢; tauto
      · simp only [List.mem_cons] at h ⊢
        rcases h with h | h
        · exact .inr (.inl h)
        · rcases ih h with h | h
          · exact .inl h
          · exact .inr (.inr h)

theorem SMap.mem_del {e : Nat × α} (h : e ∈ SMap.del m k) : e ∈ m := by
  induction m with
  | nil => exact h
  | cons x m ih =>
    obtain ⟨i, b⟩ := x
    simp only [SMap.del] at h
    split at h
    · exact List.mem_cons_of_mem _ h
    · simp only [List.mem_cons] at h ⊢
      rcases h with h | h
      · exact .inl h
      · exact .inr (ih h)

theorem SMap.mem_of_find? {a : α} (h : SMap.find? m k = some a) : (k, a) ∈ m := by
  induction m with
  | nil => cases h
  | cons e m ih =>
    obtain ⟨i, b⟩ := e
    simp only [SMap.find?] at h
    split at h
    · rename_i hi; subst hi; cases h; exact List.mem_cons_self ..
    · exact List.mem_cons_of_mem _ (ih h)

/-- A byte of a memory after a write to its address. -/
theorem SMap.getD_setD_same [DecidableEq α] {d a : α} (hm : SMap.rising m = true) : SMap.getD (SMap.setD m k d a) k d = a := by
  unfold SMap.getD SMap.setD
  split
  · rename_i h; rw [SMap.find?_del_same hm, h]; rfl
  · rw [SMap.find?_put_same]; rfl

/-- A byte of a memory after a write to another address. -/
theorem SMap.getD_setD_ne [DecidableEq α] {d e a : α} (h : j ≠ k) : SMap.getD (SMap.setD m k d a) j e = SMap.getD m j e := by
  unfold SMap.getD SMap.setD
  split
  · rw [SMap.find?_del_ne _ h]
  · rw [SMap.find?_put_ne _ _ h]

theorem Memory.wf_rising {m : SMap Byte} {d : Nat → Byte} (h : Memory.wf m d = true) : SMap.rising m = true := by
  unfold Memory.wf at h; exact (Bool.and_eq_true_iff.mp h).1

/-- A write of a byte keeps the canonical form. -/
theorem Memory.wf_setD {m : SMap Byte} {d : Nat → Byte} {x : Byte} (k : Nat) (e : Byte) (he : e = d k) (h : Memory.wf m d = true) :
    Memory.wf (SMap.setD m k e x) d = true := by
  subst he
  unfold Memory.wf at h ⊢
  simp only [Bool.and_eq_true, List.all_eq_true, decide_eq_true_eq] at h ⊢
  unfold SMap.setD
  split
  · exact ⟨SMap.rising_del h.1, fun c hc => h.2 c (SMap.mem_del hc)⟩
  · rename_i hx
    refine ⟨SMap.rising_put h.1, fun c hc => ?_⟩
    rcases SMap.mem_put hc with rfl | hc
    · exact hx
    · exact h.2 c hc

/-- What is left out of a canonical memory leaves it canonical, whatever the unlisted bytes of what is left out become. -/
theorem Memory.wf_filter {m : SMap Byte} {d e : Nat → Byte} {p : Nat × Byte → Bool} (hp : ∀ c ∈ m, p c = true → e c.1 = d c.1)
    (h : Memory.wf m d = true) : Memory.wf (m.filter p) e = true := by
  unfold Memory.wf at h ⊢
  simp only [Bool.and_eq_true, List.all_eq_true, decide_eq_true_eq] at h ⊢
  refine ⟨SMap.rising_filter p h.1, fun c hc => ?_⟩
  obtain ⟨h1, h2⟩ := List.mem_filter.mp hc
  rw [hp c h1 h2]; exact h.2 c h1

/-- A run of writes keeps the canonical form of a memory whose unlisted bytes are 0. -/
theorem Memory.wf_writes {β : Type} {l : List β} {m : SMap Byte} {a : β → Nat} {x : β → Byte} (h : Memory.wf m (fun _ => 0) = true) :
    Memory.wf (l.foldl (fun m e => SMap.setD m (a e) 0 (x e)) m) (fun _ => 0) = true := by
  induction l generalizing m with
  | nil => exact h
  | cons e l ih => exact ih (Memory.wf_setD _ _ rfl h)

end Sys2Proof.Machine
end

