-- ==== Sys2Proof/Laws/State.lean ====
section
/-! SUPPORT. What each named update of the state leaves alone: one lemma for each part, so that no later proof unfolds a record update. -/

namespace Sys2Proof.Machine

variable (s : State)

@[simp] theorem State.setObj_pending (k : Key) (v : Val) : (s.setObj k v).pending = s.pending := rfl
@[simp] theorem State.setObj_member (k : Key) (v : Val) : (s.setObj k v).member = s.member := rfl
@[simp] theorem State.setObj_fresh (k : Key) (v : Val) : (s.setObj k v).fresh = s.fresh := rfl
@[simp] theorem State.setObj_phase (k : Key) (v : Val) : (s.setObj k v).phase = s.phase := rfl
@[simp] theorem State.setObj_straps (k : Key) (v : Val) : (s.setObj k v).straps = s.straps := rfl
@[simp] theorem State.setObj_sample (k : Key) (v : Val) : (s.setObj k v).sample = s.sample := rfl
@[simp] theorem State.setObj_sent (k : Key) (v : Val) : (s.setObj k v).sent = s.sent := rfl
@[simp] theorem State.setObj_evu (k : Key) (v : Val) : (s.setObj k v).evu = s.evu := rfl
@[simp] theorem State.setObj_tick (k : Key) (v : Val) : (s.setObj k v).tick = s.tick := rfl
@[simp] theorem State.setObj_chain (k : Key) (v : Val) : (s.setObj k v).chain = s.chain := rfl
@[simp] theorem State.setObj_sess (k : Key) (v : Val) : (s.setObj k v).sess = s.sess := rfl
@[simp] theorem State.setObj_mail (k : Key) (v : Val) : (s.setObj k v).mail = s.mail := rfl
@[simp] theorem State.setObj_reasm (k : Key) (v : Val) : (s.setObj k v).reasm = s.reasm := rfl
@[simp] theorem State.setObj_locks (k : Key) (v : Val) : (s.setObj k v).locks = s.locks := rfl
@[simp] theorem State.setObj_jobs (k : Key) (v : Val) : (s.setObj k v).jobs = s.jobs := rfl
@[simp] theorem State.setObj_jrnl (k : Key) (v : Val) : (s.setObj k v).jrnl = s.jrnl := rfl
@[simp] theorem State.setObj_timing (k : Key) (v : Val) : (s.setObj k v).timing = s.timing := rfl
@[simp] theorem State.setObj_clocks (k : Key) (v : Val) : (s.setObj k v).clocks = s.clocks := rfl
@[simp] theorem State.setObj_lanes (k : Key) (v : Val) : (s.setObj k v).lanes = s.lanes := rfl
@[simp] theorem State.setObj_fabric (k : Key) (v : Val) : (s.setObj k v).fabric = s.fabric := rfl
@[simp] theorem State.setObj_fmem (k : Key) (v : Val) : (s.setObj k v).fmem = s.fmem := rfl
@[simp] theorem State.setObj_inputs (k : Key) (v : Val) : (s.setObj k v).inputs = s.inputs := rfl
@[simp] theorem State.setObj_dests (k : Key) (v : Val) : (s.setObj k v).dests = s.dests := rfl
@[simp] theorem State.setObj_conv (k : Key) (v : Val) : (s.setObj k v).conv = s.conv := rfl
@[simp] theorem State.setObj_audio (k : Key) (v : Val) : (s.setObj k v).audio = s.audio := rfl
@[simp] theorem State.setObj_amx (k : Key) (v : Val) : (s.setObj k v).amx = s.amx := rfl
@[simp] theorem State.setObj_net (k : Key) (v : Val) : (s.setObj k v).net = s.net := rfl
@[simp] theorem State.setObj_furlongs (k : Key) (v : Val) : (s.setObj k v).furlongs = s.furlongs := rfl
@[simp] theorem State.setObj_domain (k : Key) (v : Val) : (s.setObj k v).domain = s.domain := rfl
@[simp] theorem State.setObj_boot (k : Key) (v : Val) : (s.setObj k v).boot = s.boot := rfl
@[simp] theorem State.setObj_keys (k : Key) (v : Val) : (s.setObj k v).keys = s.keys := rfl
@[simp] theorem State.setObj_bus (k : Key) (v : Val) : (s.setObj k v).bus = s.bus := rfl
@[simp] theorem State.setObj_cues (k : Key) (v : Val) : (s.setObj k v).cues = s.cues := rfl
@[simp] theorem State.setObj_hot (k : Key) (v : Val) : (s.setObj k v).hot = s.hot := rfl
@[simp] theorem State.setObj_measured (k : Key) (v : Val) : (s.setObj k v).measured = s.measured := rfl

@[simp] theorem State.clearObj_pending (k : Key) : (s.clearObj k).pending = s.pending := rfl
@[simp] theorem State.clearObj_member (k : Key) : (s.clearObj k).member = s.member := rfl
@[simp] theorem State.clearObj_fresh (k : Key) : (s.clearObj k).fresh = s.fresh := rfl
@[simp] theorem State.clearObj_phase (k : Key) : (s.clearObj k).phase = s.phase := rfl
@[simp] theorem State.clearObj_straps (k : Key) : (s.clearObj k).straps = s.straps := rfl
@[simp] theorem State.clearObj_sample (k : Key) : (s.clearObj k).sample = s.sample := rfl
@[simp] theorem State.clearObj_sent (k : Key) : (s.clearObj k).sent = s.sent := rfl
@[simp] theorem State.clearObj_evu (k : Key) : (s.clearObj k).evu = s.evu := rfl
@[simp] theorem State.clearObj_tick (k : Key) : (s.clearObj k).tick = s.tick := rfl
@[simp] theorem State.clearObj_chain (k : Key) : (s.clearObj k).chain = s.chain := rfl
@[simp] theorem State.clearObj_sess (k : Key) : (s.clearObj k).sess = s.sess := rfl
@[simp] theorem State.clearObj_mail (k : Key) : (s.clearObj k).mail = s.mail := rfl
@[simp] theorem State.clearObj_reasm (k : Key) : (s.clearObj k).reasm = s.reasm := rfl
@[simp] theorem State.clearObj_locks (k : Key) : (s.clearObj k).locks = s.locks := rfl
@[simp] theorem State.clearObj_jobs (k : Key) : (s.clearObj k).jobs = s.jobs := rfl
@[simp] theorem State.clearObj_jrnl (k : Key) : (s.clearObj k).jrnl = s.jrnl := rfl
@[simp] theorem State.clearObj_timing (k : Key) : (s.clearObj k).timing = s.timing := rfl
@[simp] theorem State.clearObj_clocks (k : Key) : (s.clearObj k).clocks = s.clocks := rfl
@[simp] theorem State.clearObj_lanes (k : Key) : (s.clearObj k).lanes = s.lanes := rfl
@[simp] theorem State.clearObj_fabric (k : Key) : (s.clearObj k).fabric = s.fabric := rfl
@[simp] theorem State.clearObj_fmem (k : Key) : (s.clearObj k).fmem = s.fmem := rfl
@[simp] theorem State.clearObj_inputs (k : Key) : (s.clearObj k).inputs = s.inputs := rfl
@[simp] theorem State.clearObj_dests (k : Key) : (s.clearObj k).dests = s.dests := rfl
@[simp] theorem State.clearObj_conv (k : Key) : (s.clearObj k).conv = s.conv := rfl
@[simp] theorem State.clearObj_audio (k : Key) : (s.clearObj k).audio = s.audio := rfl
@[simp] theorem State.clearObj_amx (k : Key) : (s.clearObj k).amx = s.amx := rfl
@[simp] theorem State.clearObj_net (k : Key) : (s.clearObj k).net = s.net := rfl
@[simp] theorem State.clearObj_furlongs (k : Key) : (s.clearObj k).furlongs = s.furlongs := rfl
@[simp] theorem State.clearObj_domain (k : Key) : (s.clearObj k).domain = s.domain := rfl
@[simp] theorem State.clearObj_boot (k : Key) : (s.clearObj k).boot = s.boot := rfl
@[simp] theorem State.clearObj_keys (k : Key) : (s.clearObj k).keys = s.keys := rfl
@[simp] theorem State.clearObj_bus (k : Key) : (s.clearObj k).bus = s.bus := rfl
@[simp] theorem State.clearObj_cues (k : Key) : (s.clearObj k).cues = s.cues := rfl
@[simp] theorem State.clearObj_hot (k : Key) : (s.clearObj k).hot = s.hot := rfl
@[simp] theorem State.clearObj_measured (k : Key) : (s.clearObj k).measured = s.measured := rfl

@[simp] theorem State.setN_pending (k : Key) (n : Nat) : (s.setN k n).pending = s.pending := rfl
@[simp] theorem State.setN_member (k : Key) (n : Nat) : (s.setN k n).member = s.member := rfl
@[simp] theorem State.setN_fresh (k : Key) (n : Nat) : (s.setN k n).fresh = s.fresh := rfl
@[simp] theorem State.setN_phase (k : Key) (n : Nat) : (s.setN k n).phase = s.phase := rfl
@[simp] theorem State.setN_straps (k : Key) (n : Nat) : (s.setN k n).straps = s.straps := rfl
@[simp] theorem State.setN_sample (k : Key) (n : Nat) : (s.setN k n).sample = s.sample := rfl
@[simp] theorem State.setN_sent (k : Key) (n : Nat) : (s.setN k n).sent = s.sent := rfl
@[simp] theorem State.setN_evu (k : Key) (n : Nat) : (s.setN k n).evu = s.evu := rfl
@[simp] theorem State.setN_tick (k : Key) (n : Nat) : (s.setN k n).tick = s.tick := rfl
@[simp] theorem State.setN_chain (k : Key) (n : Nat) : (s.setN k n).chain = s.chain := rfl
@[simp] theorem State.setN_sess (k : Key) (n : Nat) : (s.setN k n).sess = s.sess := rfl
@[simp] theorem State.setN_mail (k : Key) (n : Nat) : (s.setN k n).mail = s.mail := rfl
@[simp] theorem State.setN_reasm (k : Key) (n : Nat) : (s.setN k n).reasm = s.reasm := rfl
@[simp] theorem State.setN_locks (k : Key) (n : Nat) : (s.setN k n).locks = s.locks := rfl
@[simp] theorem State.setN_jobs (k : Key) (n : Nat) : (s.setN k n).jobs = s.jobs := rfl
@[simp] theorem State.setN_jrnl (k : Key) (n : Nat) : (s.setN k n).jrnl = s.jrnl := rfl
@[simp] theorem State.setN_timing (k : Key) (n : Nat) : (s.setN k n).timing = s.timing := rfl
@[simp] theorem State.setN_clocks (k : Key) (n : Nat) : (s.setN k n).clocks = s.clocks := rfl
@[simp] theorem State.setN_lanes (k : Key) (n : Nat) : (s.setN k n).lanes = s.lanes := rfl
@[simp] theorem State.setN_fabric (k : Key) (n : Nat) : (s.setN k n).fabric = s.fabric := rfl
@[simp] theorem State.setN_fmem (k : Key) (n : Nat) : (s.setN k n).fmem = s.fmem := rfl
@[simp] theorem State.setN_inputs (k : Key) (n : Nat) : (s.setN k n).inputs = s.inputs := rfl
@[simp] theorem State.setN_dests (k : Key) (n : Nat) : (s.setN k n).dests = s.dests := rfl
@[simp] theorem State.setN_conv (k : Key) (n : Nat) : (s.setN k n).conv = s.conv := rfl
@[simp] theorem State.setN_audio (k : Key) (n : Nat) : (s.setN k n).audio = s.audio := rfl
@[simp] theorem State.setN_amx (k : Key) (n : Nat) : (s.setN k n).amx = s.amx := rfl
@[simp] theorem State.setN_net (k : Key) (n : Nat) : (s.setN k n).net = s.net := rfl
@[simp] theorem State.setN_furlongs (k : Key) (n : Nat) : (s.setN k n).furlongs = s.furlongs := rfl
@[simp] theorem State.setN_domain (k : Key) (n : Nat) : (s.setN k n).domain = s.domain := rfl
@[simp] theorem State.setN_boot (k : Key) (n : Nat) : (s.setN k n).boot = s.boot := rfl
@[simp] theorem State.setN_keys (k : Key) (n : Nat) : (s.setN k n).keys = s.keys := rfl
@[simp] theorem State.setN_bus (k : Key) (n : Nat) : (s.setN k n).bus = s.bus := rfl
@[simp] theorem State.setN_cues (k : Key) (n : Nat) : (s.setN k n).cues = s.cues := rfl
@[simp] theorem State.setN_hot (k : Key) (n : Nat) : (s.setN k n).hot = s.hot := rfl
@[simp] theorem State.setN_measured (k : Key) (n : Nat) : (s.setN k n).measured = s.measured := rfl

@[simp] theorem State.setB_pending (k : Key) (b : Bool) : (s.setB k b).pending = s.pending := rfl
@[simp] theorem State.setB_member (k : Key) (b : Bool) : (s.setB k b).member = s.member := rfl
@[simp] theorem State.setB_fresh (k : Key) (b : Bool) : (s.setB k b).fresh = s.fresh := rfl
@[simp] theorem State.setB_phase (k : Key) (b : Bool) : (s.setB k b).phase = s.phase := rfl
@[simp] theorem State.setB_straps (k : Key) (b : Bool) : (s.setB k b).straps = s.straps := rfl
@[simp] theorem State.setB_sample (k : Key) (b : Bool) : (s.setB k b).sample = s.sample := rfl
@[simp] theorem State.setB_sent (k : Key) (b : Bool) : (s.setB k b).sent = s.sent := rfl
@[simp] theorem State.setB_evu (k : Key) (b : Bool) : (s.setB k b).evu = s.evu := rfl
@[simp] theorem State.setB_tick (k : Key) (b : Bool) : (s.setB k b).tick = s.tick := rfl
@[simp] theorem State.setB_chain (k : Key) (b : Bool) : (s.setB k b).chain = s.chain := rfl
@[simp] theorem State.setB_sess (k : Key) (b : Bool) : (s.setB k b).sess = s.sess := rfl
@[simp] theorem State.setB_mail (k : Key) (b : Bool) : (s.setB k b).mail = s.mail := rfl
@[simp] theorem State.setB_reasm (k : Key) (b : Bool) : (s.setB k b).reasm = s.reasm := rfl
@[simp] theorem State.setB_locks (k : Key) (b : Bool) : (s.setB k b).locks = s.locks := rfl
@[simp] theorem State.setB_jobs (k : Key) (b : Bool) : (s.setB k b).jobs = s.jobs := rfl
@[simp] theorem State.setB_jrnl (k : Key) (b : Bool) : (s.setB k b).jrnl = s.jrnl := rfl
@[simp] theorem State.setB_timing (k : Key) (b : Bool) : (s.setB k b).timing = s.timing := rfl
@[simp] theorem State.setB_clocks (k : Key) (b : Bool) : (s.setB k b).clocks = s.clocks := rfl
@[simp] theorem State.setB_lanes (k : Key) (b : Bool) : (s.setB k b).lanes = s.lanes := rfl
@[simp] theorem State.setB_fabric (k : Key) (b : Bool) : (s.setB k b).fabric = s.fabric := rfl
@[simp] theorem State.setB_fmem (k : Key) (b : Bool) : (s.setB k b).fmem = s.fmem := rfl
@[simp] theorem State.setB_inputs (k : Key) (b : Bool) : (s.setB k b).inputs = s.inputs := rfl
@[simp] theorem State.setB_dests (k : Key) (b : Bool) : (s.setB k b).dests = s.dests := rfl
@[simp] theorem State.setB_conv (k : Key) (b : Bool) : (s.setB k b).conv = s.conv := rfl
@[simp] theorem State.setB_audio (k : Key) (b : Bool) : (s.setB k b).audio = s.audio := rfl
@[simp] theorem State.setB_amx (k : Key) (b : Bool) : (s.setB k b).amx = s.amx := rfl
@[simp] theorem State.setB_net (k : Key) (b : Bool) : (s.setB k b).net = s.net := rfl
@[simp] theorem State.setB_furlongs (k : Key) (b : Bool) : (s.setB k b).furlongs = s.furlongs := rfl
@[simp] theorem State.setB_domain (k : Key) (b : Bool) : (s.setB k b).domain = s.domain := rfl
@[simp] theorem State.setB_boot (k : Key) (b : Bool) : (s.setB k b).boot = s.boot := rfl
@[simp] theorem State.setB_keys (k : Key) (b : Bool) : (s.setB k b).keys = s.keys := rfl
@[simp] theorem State.setB_bus (k : Key) (b : Bool) : (s.setB k b).bus = s.bus := rfl
@[simp] theorem State.setB_cues (k : Key) (b : Bool) : (s.setB k b).cues = s.cues := rfl
@[simp] theorem State.setB_hot (k : Key) (b : Bool) : (s.setB k b).hot = s.hot := rfl
@[simp] theorem State.setB_measured (k : Key) (b : Bool) : (s.setB k b).measured = s.measured := rfl

@[simp] theorem State.setBytes_pending (k : Key) (b : List Byte) : (s.setBytes k b).pending = s.pending := rfl
@[simp] theorem State.setBytes_member (k : Key) (b : List Byte) : (s.setBytes k b).member = s.member := rfl
@[simp] theorem State.setBytes_fresh (k : Key) (b : List Byte) : (s.setBytes k b).fresh = s.fresh := rfl
@[simp] theorem State.setBytes_phase (k : Key) (b : List Byte) : (s.setBytes k b).phase = s.phase := rfl
@[simp] theorem State.setBytes_straps (k : Key) (b : List Byte) : (s.setBytes k b).straps = s.straps := rfl
@[simp] theorem State.setBytes_sample (k : Key) (b : List Byte) : (s.setBytes k b).sample = s.sample := rfl
@[simp] theorem State.setBytes_sent (k : Key) (b : List Byte) : (s.setBytes k b).sent = s.sent := rfl
@[simp] theorem State.setBytes_evu (k : Key) (b : List Byte) : (s.setBytes k b).evu = s.evu := rfl
@[simp] theorem State.setBytes_tick (k : Key) (b : List Byte) : (s.setBytes k b).tick = s.tick := rfl
@[simp] theorem State.setBytes_chain (k : Key) (b : List Byte) : (s.setBytes k b).chain = s.chain := rfl
@[simp] theorem State.setBytes_sess (k : Key) (b : List Byte) : (s.setBytes k b).sess = s.sess := rfl
@[simp] theorem State.setBytes_mail (k : Key) (b : List Byte) : (s.setBytes k b).mail = s.mail := rfl
@[simp] theorem State.setBytes_reasm (k : Key) (b : List Byte) : (s.setBytes k b).reasm = s.reasm := rfl
@[simp] theorem State.setBytes_locks (k : Key) (b : List Byte) : (s.setBytes k b).locks = s.locks := rfl
@[simp] theorem State.setBytes_jobs (k : Key) (b : List Byte) : (s.setBytes k b).jobs = s.jobs := rfl
@[simp] theorem State.setBytes_jrnl (k : Key) (b : List Byte) : (s.setBytes k b).jrnl = s.jrnl := rfl
@[simp] theorem State.setBytes_timing (k : Key) (b : List Byte) : (s.setBytes k b).timing = s.timing := rfl
@[simp] theorem State.setBytes_clocks (k : Key) (b : List Byte) : (s.setBytes k b).clocks = s.clocks := rfl
@[simp] theorem State.setBytes_lanes (k : Key) (b : List Byte) : (s.setBytes k b).lanes = s.lanes := rfl
@[simp] theorem State.setBytes_fabric (k : Key) (b : List Byte) : (s.setBytes k b).fabric = s.fabric := rfl
@[simp] theorem State.setBytes_fmem (k : Key) (b : List Byte) : (s.setBytes k b).fmem = s.fmem := rfl
@[simp] theorem State.setBytes_inputs (k : Key) (b : List Byte) : (s.setBytes k b).inputs = s.inputs := rfl
@[simp] theorem State.setBytes_dests (k : Key) (b : List Byte) : (s.setBytes k b).dests = s.dests := rfl
@[simp] theorem State.setBytes_conv (k : Key) (b : List Byte) : (s.setBytes k b).conv = s.conv := rfl
@[simp] theorem State.setBytes_audio (k : Key) (b : List Byte) : (s.setBytes k b).audio = s.audio := rfl
@[simp] theorem State.setBytes_amx (k : Key) (b : List Byte) : (s.setBytes k b).amx = s.amx := rfl
@[simp] theorem State.setBytes_net (k : Key) (b : List Byte) : (s.setBytes k b).net = s.net := rfl
@[simp] theorem State.setBytes_furlongs (k : Key) (b : List Byte) : (s.setBytes k b).furlongs = s.furlongs := rfl
@[simp] theorem State.setBytes_domain (k : Key) (b : List Byte) : (s.setBytes k b).domain = s.domain := rfl
@[simp] theorem State.setBytes_boot (k : Key) (b : List Byte) : (s.setBytes k b).boot = s.boot := rfl
@[simp] theorem State.setBytes_keys (k : Key) (b : List Byte) : (s.setBytes k b).keys = s.keys := rfl
@[simp] theorem State.setBytes_bus (k : Key) (b : List Byte) : (s.setBytes k b).bus = s.bus := rfl
@[simp] theorem State.setBytes_cues (k : Key) (b : List Byte) : (s.setBytes k b).cues = s.cues := rfl
@[simp] theorem State.setBytes_hot (k : Key) (b : List Byte) : (s.setBytes k b).hot = s.hot := rfl
@[simp] theorem State.setBytes_measured (k : Key) (b : List Byte) : (s.setBytes k b).measured = s.measured := rfl

@[simp] theorem State.setZ_pending (w : Nat) (k : Key) (z : Int) : (s.setZ w k z).pending = s.pending := rfl
@[simp] theorem State.setZ_member (w : Nat) (k : Key) (z : Int) : (s.setZ w k z).member = s.member := rfl
@[simp] theorem State.setZ_fresh (w : Nat) (k : Key) (z : Int) : (s.setZ w k z).fresh = s.fresh := rfl
@[simp] theorem State.setZ_phase (w : Nat) (k : Key) (z : Int) : (s.setZ w k z).phase = s.phase := rfl
@[simp] theorem State.setZ_straps (w : Nat) (k : Key) (z : Int) : (s.setZ w k z).straps = s.straps := rfl
@[simp] theorem State.setZ_sample (w : Nat) (k : Key) (z : Int) : (s.setZ w k z).sample = s.sample := rfl
@[simp] theorem State.setZ_sent (w : Nat) (k : Key) (z : Int) : (s.setZ w k z).sent = s.sent := rfl
@[simp] theorem State.setZ_evu (w : Nat) (k : Key) (z : Int) : (s.setZ w k z).evu = s.evu := rfl
@[simp] theorem State.setZ_tick (w : Nat) (k : Key) (z : Int) : (s.setZ w k z).tick = s.tick := rfl
@[simp] theorem State.setZ_chain (w : Nat) (k : Key) (z : Int) : (s.setZ w k z).chain = s.chain := rfl
@[simp] theorem State.setZ_sess (w : Nat) (k : Key) (z : Int) : (s.setZ w k z).sess = s.sess := rfl
@[simp] theorem State.setZ_mail (w : Nat) (k : Key) (z : Int) : (s.setZ w k z).mail = s.mail := rfl
@[simp] theorem State.setZ_reasm (w : Nat) (k : Key) (z : Int) : (s.setZ w k z).reasm = s.reasm := rfl
@[simp] theorem State.setZ_locks (w : Nat) (k : Key) (z : Int) : (s.setZ w k z).locks = s.locks := rfl
@[simp] theorem State.setZ_jobs (w : Nat) (k : Key) (z : Int) : (s.setZ w k z).jobs = s.jobs := rfl
@[simp] theorem State.setZ_jrnl (w : Nat) (k : Key) (z : Int) : (s.setZ w k z).jrnl = s.jrnl := rfl
@[simp] theorem State.setZ_timing (w : Nat) (k : Key) (z : Int) : (s.setZ w k z).timing = s.timing := rfl
@[simp] theorem State.setZ_clocks (w : Nat) (k : Key) (z : Int) : (s.setZ w k z).clocks = s.clocks := rfl
@[simp] theorem State.setZ_lanes (w : Nat) (k : Key) (z : Int) : (s.setZ w k z).lanes = s.lanes := rfl
@[simp] theorem State.setZ_fabric (w : Nat) (k : Key) (z : Int) : (s.setZ w k z).fabric = s.fabric := rfl
@[simp] theorem State.setZ_fmem (w : Nat) (k : Key) (z : Int) : (s.setZ w k z).fmem = s.fmem := rfl
@[simp] theorem State.setZ_inputs (w : Nat) (k : Key) (z : Int) : (s.setZ w k z).inputs = s.inputs := rfl
@[simp] theorem State.setZ_dests (w : Nat) (k : Key) (z : Int) : (s.setZ w k z).dests = s.dests := rfl
@[simp] theorem State.setZ_conv (w : Nat) (k : Key) (z : Int) : (s.setZ w k z).conv = s.conv := rfl
@[simp] theorem State.setZ_audio (w : Nat) (k : Key) (z : Int) : (s.setZ w k z).audio = s.audio := rfl
@[simp] theorem State.setZ_amx (w : Nat) (k : Key) (z : Int) : (s.setZ w k z).amx = s.amx := rfl
@[simp] theorem State.setZ_net (w : Nat) (k : Key) (z : Int) : (s.setZ w k z).net = s.net := rfl
@[simp] theorem State.setZ_furlongs (w : Nat) (k : Key) (z : Int) : (s.setZ w k z).furlongs = s.furlongs := rfl
@[simp] theorem State.setZ_domain (w : Nat) (k : Key) (z : Int) : (s.setZ w k z).domain = s.domain := rfl
@[simp] theorem State.setZ_boot (w : Nat) (k : Key) (z : Int) : (s.setZ w k z).boot = s.boot := rfl
@[simp] theorem State.setZ_keys (w : Nat) (k : Key) (z : Int) : (s.setZ w k z).keys = s.keys := rfl
@[simp] theorem State.setZ_bus (w : Nat) (k : Key) (z : Int) : (s.setZ w k z).bus = s.bus := rfl
@[simp] theorem State.setZ_cues (w : Nat) (k : Key) (z : Int) : (s.setZ w k z).cues = s.cues := rfl
@[simp] theorem State.setZ_hot (w : Nat) (k : Key) (z : Int) : (s.setZ w k z).hot = s.hot := rfl
@[simp] theorem State.setZ_measured (w : Nat) (k : Key) (z : Int) : (s.setZ w k z).measured = s.measured := rfl

@[simp] theorem State.flag_pending (k : Key) (m : Nat) : (s.flag k m).pending = s.pending := rfl
@[simp] theorem State.flag_member (k : Key) (m : Nat) : (s.flag k m).member = s.member := rfl
@[simp] theorem State.flag_fresh (k : Key) (m : Nat) : (s.flag k m).fresh = s.fresh := rfl
@[simp] theorem State.flag_phase (k : Key) (m : Nat) : (s.flag k m).phase = s.phase := rfl
@[simp] theorem State.flag_straps (k : Key) (m : Nat) : (s.flag k m).straps = s.straps := rfl
@[simp] theorem State.flag_sample (k : Key) (m : Nat) : (s.flag k m).sample = s.sample := rfl
@[simp] theorem State.flag_sent (k : Key) (m : Nat) : (s.flag k m).sent = s.sent := rfl
@[simp] theorem State.flag_evu (k : Key) (m : Nat) : (s.flag k m).evu = s.evu := rfl
@[simp] theorem State.flag_tick (k : Key) (m : Nat) : (s.flag k m).tick = s.tick := rfl
@[simp] theorem State.flag_chain (k : Key) (m : Nat) : (s.flag k m).chain = s.chain := rfl
@[simp] theorem State.flag_sess (k : Key) (m : Nat) : (s.flag k m).sess = s.sess := rfl
@[simp] theorem State.flag_mail (k : Key) (m : Nat) : (s.flag k m).mail = s.mail := rfl
@[simp] theorem State.flag_reasm (k : Key) (m : Nat) : (s.flag k m).reasm = s.reasm := rfl
@[simp] theorem State.flag_locks (k : Key) (m : Nat) : (s.flag k m).locks = s.locks := rfl
@[simp] theorem State.flag_jobs (k : Key) (m : Nat) : (s.flag k m).jobs = s.jobs := rfl
@[simp] theorem State.flag_jrnl (k : Key) (m : Nat) : (s.flag k m).jrnl = s.jrnl := rfl
@[simp] theorem State.flag_timing (k : Key) (m : Nat) : (s.flag k m).timing = s.timing := rfl
@[simp] theorem State.flag_clocks (k : Key) (m : Nat) : (s.flag k m).clocks = s.clocks := rfl
@[simp] theorem State.flag_lanes (k : Key) (m : Nat) : (s.flag k m).lanes = s.lanes := rfl
@[simp] theorem State.flag_fabric (k : Key) (m : Nat) : (s.flag k m).fabric = s.fabric := rfl
@[simp] theorem State.flag_fmem (k : Key) (m : Nat) : (s.flag k m).fmem = s.fmem := rfl
@[simp] theorem State.flag_inputs (k : Key) (m : Nat) : (s.flag k m).inputs = s.inputs := rfl
@[simp] theorem State.flag_dests (k : Key) (m : Nat) : (s.flag k m).dests = s.dests := rfl
@[simp] theorem State.flag_conv (k : Key) (m : Nat) : (s.flag k m).conv = s.conv := rfl
@[simp] theorem State.flag_audio (k : Key) (m : Nat) : (s.flag k m).audio = s.audio := rfl
@[simp] theorem State.flag_amx (k : Key) (m : Nat) : (s.flag k m).amx = s.amx := rfl
@[simp] theorem State.flag_net (k : Key) (m : Nat) : (s.flag k m).net = s.net := rfl
@[simp] theorem State.flag_furlongs (k : Key) (m : Nat) : (s.flag k m).furlongs = s.furlongs := rfl
@[simp] theorem State.flag_domain (k : Key) (m : Nat) : (s.flag k m).domain = s.domain := rfl
@[simp] theorem State.flag_boot (k : Key) (m : Nat) : (s.flag k m).boot = s.boot := rfl
@[simp] theorem State.flag_keys (k : Key) (m : Nat) : (s.flag k m).keys = s.keys := rfl
@[simp] theorem State.flag_bus (k : Key) (m : Nat) : (s.flag k m).bus = s.bus := rfl
@[simp] theorem State.flag_cues (k : Key) (m : Nat) : (s.flag k m).cues = s.cues := rfl
@[simp] theorem State.flag_hot (k : Key) (m : Nat) : (s.flag k m).hot = s.hot := rfl
@[simp] theorem State.flag_measured (k : Key) (m : Nat) : (s.flag k m).measured = s.measured := rfl

@[simp] theorem State.unflag_pending (k : Key) (m : Nat) : (s.unflag k m).pending = s.pending := rfl
@[simp] theorem State.unflag_member (k : Key) (m : Nat) : (s.unflag k m).member = s.member := rfl
@[simp] theorem State.unflag_fresh (k : Key) (m : Nat) : (s.unflag k m).fresh = s.fresh := rfl
@[simp] theorem State.unflag_phase (k : Key) (m : Nat) : (s.unflag k m).phase = s.phase := rfl
@[simp] theorem State.unflag_straps (k : Key) (m : Nat) : (s.unflag k m).straps = s.straps := rfl
@[simp] theorem State.unflag_sample (k : Key) (m : Nat) : (s.unflag k m).sample = s.sample := rfl
@[simp] theorem State.unflag_sent (k : Key) (m : Nat) : (s.unflag k m).sent = s.sent := rfl
@[simp] theorem State.unflag_evu (k : Key) (m : Nat) : (s.unflag k m).evu = s.evu := rfl
@[simp] theorem State.unflag_tick (k : Key) (m : Nat) : (s.unflag k m).tick = s.tick := rfl
@[simp] theorem State.unflag_chain (k : Key) (m : Nat) : (s.unflag k m).chain = s.chain := rfl
@[simp] theorem State.unflag_sess (k : Key) (m : Nat) : (s.unflag k m).sess = s.sess := rfl
@[simp] theorem State.unflag_mail (k : Key) (m : Nat) : (s.unflag k m).mail = s.mail := rfl
@[simp] theorem State.unflag_reasm (k : Key) (m : Nat) : (s.unflag k m).reasm = s.reasm := rfl
@[simp] theorem State.unflag_locks (k : Key) (m : Nat) : (s.unflag k m).locks = s.locks := rfl
@[simp] theorem State.unflag_jobs (k : Key) (m : Nat) : (s.unflag k m).jobs = s.jobs := rfl
@[simp] theorem State.unflag_jrnl (k : Key) (m : Nat) : (s.unflag k m).jrnl = s.jrnl := rfl
@[simp] theorem State.unflag_timing (k : Key) (m : Nat) : (s.unflag k m).timing = s.timing := rfl
@[simp] theorem State.unflag_clocks (k : Key) (m : Nat) : (s.unflag k m).clocks = s.clocks := rfl
@[simp] theorem State.unflag_lanes (k : Key) (m : Nat) : (s.unflag k m).lanes = s.lanes := rfl
@[simp] theorem State.unflag_fabric (k : Key) (m : Nat) : (s.unflag k m).fabric = s.fabric := rfl
@[simp] theorem State.unflag_fmem (k : Key) (m : Nat) : (s.unflag k m).fmem = s.fmem := rfl
@[simp] theorem State.unflag_inputs (k : Key) (m : Nat) : (s.unflag k m).inputs = s.inputs := rfl
@[simp] theorem State.unflag_dests (k : Key) (m : Nat) : (s.unflag k m).dests = s.dests := rfl
@[simp] theorem State.unflag_conv (k : Key) (m : Nat) : (s.unflag k m).conv = s.conv := rfl
@[simp] theorem State.unflag_audio (k : Key) (m : Nat) : (s.unflag k m).audio = s.audio := rfl
@[simp] theorem State.unflag_amx (k : Key) (m : Nat) : (s.unflag k m).amx = s.amx := rfl
@[simp] theorem State.unflag_net (k : Key) (m : Nat) : (s.unflag k m).net = s.net := rfl
@[simp] theorem State.unflag_furlongs (k : Key) (m : Nat) : (s.unflag k m).furlongs = s.furlongs := rfl
@[simp] theorem State.unflag_domain (k : Key) (m : Nat) : (s.unflag k m).domain = s.domain := rfl
@[simp] theorem State.unflag_boot (k : Key) (m : Nat) : (s.unflag k m).boot = s.boot := rfl
@[simp] theorem State.unflag_keys (k : Key) (m : Nat) : (s.unflag k m).keys = s.keys := rfl
@[simp] theorem State.unflag_bus (k : Key) (m : Nat) : (s.unflag k m).bus = s.bus := rfl
@[simp] theorem State.unflag_cues (k : Key) (m : Nat) : (s.unflag k m).cues = s.cues := rfl
@[simp] theorem State.unflag_hot (k : Key) (m : Nat) : (s.unflag k m).hot = s.hot := rfl
@[simp] theorem State.unflag_measured (k : Key) (m : Nat) : (s.unflag k m).measured = s.measured := rfl

@[simp] theorem State.bump_pending (k : Key) (d : Nat) : (s.bump k d).pending = s.pending := rfl
@[simp] theorem State.bump_member (k : Key) (d : Nat) : (s.bump k d).member = s.member := rfl
@[simp] theorem State.bump_fresh (k : Key) (d : Nat) : (s.bump k d).fresh = s.fresh := rfl
@[simp] theorem State.bump_phase (k : Key) (d : Nat) : (s.bump k d).phase = s.phase := rfl
@[simp] theorem State.bump_straps (k : Key) (d : Nat) : (s.bump k d).straps = s.straps := rfl
@[simp] theorem State.bump_sample (k : Key) (d : Nat) : (s.bump k d).sample = s.sample := rfl
@[simp] theorem State.bump_sent (k : Key) (d : Nat) : (s.bump k d).sent = s.sent := rfl
@[simp] theorem State.bump_evu (k : Key) (d : Nat) : (s.bump k d).evu = s.evu := rfl
@[simp] theorem State.bump_tick (k : Key) (d : Nat) : (s.bump k d).tick = s.tick := rfl
@[simp] theorem State.bump_chain (k : Key) (d : Nat) : (s.bump k d).chain = s.chain := rfl
@[simp] theorem State.bump_sess (k : Key) (d : Nat) : (s.bump k d).sess = s.sess := rfl
@[simp] theorem State.bump_mail (k : Key) (d : Nat) : (s.bump k d).mail = s.mail := rfl
@[simp] theorem State.bump_reasm (k : Key) (d : Nat) : (s.bump k d).reasm = s.reasm := rfl
@[simp] theorem State.bump_locks (k : Key) (d : Nat) : (s.bump k d).locks = s.locks := rfl
@[simp] theorem State.bump_jobs (k : Key) (d : Nat) : (s.bump k d).jobs = s.jobs := rfl
@[simp] theorem State.bump_jrnl (k : Key) (d : Nat) : (s.bump k d).jrnl = s.jrnl := rfl
@[simp] theorem State.bump_timing (k : Key) (d : Nat) : (s.bump k d).timing = s.timing := rfl
@[simp] theorem State.bump_clocks (k : Key) (d : Nat) : (s.bump k d).clocks = s.clocks := rfl
@[simp] theorem State.bump_lanes (k : Key) (d : Nat) : (s.bump k d).lanes = s.lanes := rfl
@[simp] theorem State.bump_fabric (k : Key) (d : Nat) : (s.bump k d).fabric = s.fabric := rfl
@[simp] theorem State.bump_fmem (k : Key) (d : Nat) : (s.bump k d).fmem = s.fmem := rfl
@[simp] theorem State.bump_inputs (k : Key) (d : Nat) : (s.bump k d).inputs = s.inputs := rfl
@[simp] theorem State.bump_dests (k : Key) (d : Nat) : (s.bump k d).dests = s.dests := rfl
@[simp] theorem State.bump_conv (k : Key) (d : Nat) : (s.bump k d).conv = s.conv := rfl
@[simp] theorem State.bump_audio (k : Key) (d : Nat) : (s.bump k d).audio = s.audio := rfl
@[simp] theorem State.bump_amx (k : Key) (d : Nat) : (s.bump k d).amx = s.amx := rfl
@[simp] theorem State.bump_net (k : Key) (d : Nat) : (s.bump k d).net = s.net := rfl
@[simp] theorem State.bump_furlongs (k : Key) (d : Nat) : (s.bump k d).furlongs = s.furlongs := rfl
@[simp] theorem State.bump_domain (k : Key) (d : Nat) : (s.bump k d).domain = s.domain := rfl
@[simp] theorem State.bump_boot (k : Key) (d : Nat) : (s.bump k d).boot = s.boot := rfl
@[simp] theorem State.bump_keys (k : Key) (d : Nat) : (s.bump k d).keys = s.keys := rfl
@[simp] theorem State.bump_bus (k : Key) (d : Nat) : (s.bump k d).bus = s.bus := rfl
@[simp] theorem State.bump_cues (k : Key) (d : Nat) : (s.bump k d).cues = s.cues := rfl
@[simp] theorem State.bump_hot (k : Key) (d : Nat) : (s.bump k d).hot = s.hot := rfl
@[simp] theorem State.bump_measured (k : Key) (d : Nat) : (s.bump k d).measured = s.measured := rfl

@[simp] theorem State.drop_pending (k : Key) (d : Nat) : (s.drop k d).pending = s.pending := rfl
@[simp] theorem State.drop_member (k : Key) (d : Nat) : (s.drop k d).member = s.member := rfl
@[simp] theorem State.drop_fresh (k : Key) (d : Nat) : (s.drop k d).fresh = s.fresh := rfl
@[simp] theorem State.drop_phase (k : Key) (d : Nat) : (s.drop k d).phase = s.phase := rfl
@[simp] theorem State.drop_straps (k : Key) (d : Nat) : (s.drop k d).straps = s.straps := rfl
@[simp] theorem State.drop_sample (k : Key) (d : Nat) : (s.drop k d).sample = s.sample := rfl
@[simp] theorem State.drop_sent (k : Key) (d : Nat) : (s.drop k d).sent = s.sent := rfl
@[simp] theorem State.drop_evu (k : Key) (d : Nat) : (s.drop k d).evu = s.evu := rfl
@[simp] theorem State.drop_tick (k : Key) (d : Nat) : (s.drop k d).tick = s.tick := rfl
@[simp] theorem State.drop_chain (k : Key) (d : Nat) : (s.drop k d).chain = s.chain := rfl
@[simp] theorem State.drop_sess (k : Key) (d : Nat) : (s.drop k d).sess = s.sess := rfl
@[simp] theorem State.drop_mail (k : Key) (d : Nat) : (s.drop k d).mail = s.mail := rfl
@[simp] theorem State.drop_reasm (k : Key) (d : Nat) : (s.drop k d).reasm = s.reasm := rfl
@[simp] theorem State.drop_locks (k : Key) (d : Nat) : (s.drop k d).locks = s.locks := rfl
@[simp] theorem State.drop_jobs (k : Key) (d : Nat) : (s.drop k d).jobs = s.jobs := rfl
@[simp] theorem State.drop_jrnl (k : Key) (d : Nat) : (s.drop k d).jrnl = s.jrnl := rfl
@[simp] theorem State.drop_timing (k : Key) (d : Nat) : (s.drop k d).timing = s.timing := rfl
@[simp] theorem State.drop_clocks (k : Key) (d : Nat) : (s.drop k d).clocks = s.clocks := rfl
@[simp] theorem State.drop_lanes (k : Key) (d : Nat) : (s.drop k d).lanes = s.lanes := rfl
@[simp] theorem State.drop_fabric (k : Key) (d : Nat) : (s.drop k d).fabric = s.fabric := rfl
@[simp] theorem State.drop_fmem (k : Key) (d : Nat) : (s.drop k d).fmem = s.fmem := rfl
@[simp] theorem State.drop_inputs (k : Key) (d : Nat) : (s.drop k d).inputs = s.inputs := rfl
@[simp] theorem State.drop_dests (k : Key) (d : Nat) : (s.drop k d).dests = s.dests := rfl
@[simp] theorem State.drop_conv (k : Key) (d : Nat) : (s.drop k d).conv = s.conv := rfl
@[simp] theorem State.drop_audio (k : Key) (d : Nat) : (s.drop k d).audio = s.audio := rfl
@[simp] theorem State.drop_amx (k : Key) (d : Nat) : (s.drop k d).amx = s.amx := rfl
@[simp] theorem State.drop_net (k : Key) (d : Nat) : (s.drop k d).net = s.net := rfl
@[simp] theorem State.drop_furlongs (k : Key) (d : Nat) : (s.drop k d).furlongs = s.furlongs := rfl
@[simp] theorem State.drop_domain (k : Key) (d : Nat) : (s.drop k d).domain = s.domain := rfl
@[simp] theorem State.drop_boot (k : Key) (d : Nat) : (s.drop k d).boot = s.boot := rfl
@[simp] theorem State.drop_keys (k : Key) (d : Nat) : (s.drop k d).keys = s.keys := rfl
@[simp] theorem State.drop_bus (k : Key) (d : Nat) : (s.drop k d).bus = s.bus := rfl
@[simp] theorem State.drop_cues (k : Key) (d : Nat) : (s.drop k d).cues = s.cues := rfl
@[simp] theorem State.drop_hot (k : Key) (d : Nat) : (s.drop k d).hot = s.hot := rfl
@[simp] theorem State.drop_measured (k : Key) (d : Nat) : (s.drop k d).measured = s.measured := rfl

@[simp] theorem State.emit_pending (o : Out) : (s.emit o).pending = s.pending := rfl
@[simp] theorem State.emit_member (o : Out) : (s.emit o).member = s.member := rfl
@[simp] theorem State.emit_fresh (o : Out) : (s.emit o).fresh = s.fresh := rfl
@[simp] theorem State.emit_phase (o : Out) : (s.emit o).phase = s.phase := rfl
@[simp] theorem State.emit_straps (o : Out) : (s.emit o).straps = s.straps := rfl
@[simp] theorem State.emit_objs (o : Out) : (s.emit o).objs = s.objs := rfl
@[simp] theorem State.emit_sample (o : Out) : (s.emit o).sample = s.sample := rfl
@[simp] theorem State.emit_evu (o : Out) : (s.emit o).evu = s.evu := rfl
@[simp] theorem State.emit_tick (o : Out) : (s.emit o).tick = s.tick := rfl
@[simp] theorem State.emit_chain (o : Out) : (s.emit o).chain = s.chain := rfl
@[simp] theorem State.emit_sess (o : Out) : (s.emit o).sess = s.sess := rfl
@[simp] theorem State.emit_mail (o : Out) : (s.emit o).mail = s.mail := rfl
@[simp] theorem State.emit_reasm (o : Out) : (s.emit o).reasm = s.reasm := rfl
@[simp] theorem State.emit_locks (o : Out) : (s.emit o).locks = s.locks := rfl
@[simp] theorem State.emit_jobs (o : Out) : (s.emit o).jobs = s.jobs := rfl
@[simp] theorem State.emit_jrnl (o : Out) : (s.emit o).jrnl = s.jrnl := rfl
@[simp] theorem State.emit_timing (o : Out) : (s.emit o).timing = s.timing := rfl
@[simp] theorem State.emit_clocks (o : Out) : (s.emit o).clocks = s.clocks := rfl
@[simp] theorem State.emit_lanes (o : Out) : (s.emit o).lanes = s.lanes := rfl
@[simp] theorem State.emit_fabric (o : Out) : (s.emit o).fabric = s.fabric := rfl
@[simp] theorem State.emit_fmem (o : Out) : (s.emit o).fmem = s.fmem := rfl
@[simp] theorem State.emit_inputs (o : Out) : (s.emit o).inputs = s.inputs := rfl
@[simp] theorem State.emit_dests (o : Out) : (s.emit o).dests = s.dests := rfl
@[simp] theorem State.emit_conv (o : Out) : (s.emit o).conv = s.conv := rfl
@[simp] theorem State.emit_audio (o : Out) : (s.emit o).audio = s.audio := rfl
@[simp] theorem State.emit_amx (o : Out) : (s.emit o).amx = s.amx := rfl
@[simp] theorem State.emit_net (o : Out) : (s.emit o).net = s.net := rfl
@[simp] theorem State.emit_furlongs (o : Out) : (s.emit o).furlongs = s.furlongs := rfl
@[simp] theorem State.emit_domain (o : Out) : (s.emit o).domain = s.domain := rfl
@[simp] theorem State.emit_boot (o : Out) : (s.emit o).boot = s.boot := rfl
@[simp] theorem State.emit_keys (o : Out) : (s.emit o).keys = s.keys := rfl
@[simp] theorem State.emit_bus (o : Out) : (s.emit o).bus = s.bus := rfl
@[simp] theorem State.emit_cues (o : Out) : (s.emit o).cues = s.cues := rfl
@[simp] theorem State.emit_hot (o : Out) : (s.emit o).hot = s.hot := rfl
@[simp] theorem State.emit_measured (o : Out) : (s.emit o).measured = s.measured := rfl

@[simp] theorem State.peak_pending (k : Key) (v : Nat) : (s.peak k v).pending = s.pending := by unfold State.peak; split <;> rfl
@[simp] theorem State.peak_member (k : Key) (v : Nat) : (s.peak k v).member = s.member := by unfold State.peak; split <;> rfl
@[simp] theorem State.peak_fresh (k : Key) (v : Nat) : (s.peak k v).fresh = s.fresh := by unfold State.peak; split <;> rfl
@[simp] theorem State.peak_phase (k : Key) (v : Nat) : (s.peak k v).phase = s.phase := by unfold State.peak; split <;> rfl
@[simp] theorem State.peak_straps (k : Key) (v : Nat) : (s.peak k v).straps = s.straps := by unfold State.peak; split <;> rfl
@[simp] theorem State.peak_sample (k : Key) (v : Nat) : (s.peak k v).sample = s.sample := by unfold State.peak; split <;> rfl
@[simp] theorem State.peak_sent (k : Key) (v : Nat) : (s.peak k v).sent = s.sent := by unfold State.peak; split <;> rfl
@[simp] theorem State.peak_evu (k : Key) (v : Nat) : (s.peak k v).evu = s.evu := by unfold State.peak; split <;> rfl
@[simp] theorem State.peak_tick (k : Key) (v : Nat) : (s.peak k v).tick = s.tick := by unfold State.peak; split <;> rfl
@[simp] theorem State.peak_chain (k : Key) (v : Nat) : (s.peak k v).chain = s.chain := by unfold State.peak; split <;> rfl
@[simp] theorem State.peak_sess (k : Key) (v : Nat) : (s.peak k v).sess = s.sess := by unfold State.peak; split <;> rfl
@[simp] theorem State.peak_mail (k : Key) (v : Nat) : (s.peak k v).mail = s.mail := by unfold State.peak; split <;> rfl
@[simp] theorem State.peak_reasm (k : Key) (v : Nat) : (s.peak k v).reasm = s.reasm := by unfold State.peak; split <;> rfl
@[simp] theorem State.peak_locks (k : Key) (v : Nat) : (s.peak k v).locks = s.locks := by unfold State.peak; split <;> rfl
@[simp] theorem State.peak_jobs (k : Key) (v : Nat) : (s.peak k v).jobs = s.jobs := by unfold State.peak; split <;> rfl
@[simp] theorem State.peak_jrnl (k : Key) (v : Nat) : (s.peak k v).jrnl = s.jrnl := by unfold State.peak; split <;> rfl
@[simp] theorem State.peak_timing (k : Key) (v : Nat) : (s.peak k v).timing = s.timing := by unfold State.peak; split <;> rfl
@[simp] theorem State.peak_clocks (k : Key) (v : Nat) : (s.peak k v).clocks = s.clocks := by unfold State.peak; split <;> rfl
@[simp] theorem State.peak_lanes (k : Key) (v : Nat) : (s.peak k v).lanes = s.lanes := by unfold State.peak; split <;> rfl
@[simp] theorem State.peak_fabric (k : Key) (v : Nat) : (s.peak k v).fabric = s.fabric := by unfold State.peak; split <;> rfl
@[simp] theorem State.peak_fmem (k : Key) (v : Nat) : (s.peak k v).fmem = s.fmem := by unfold State.peak; split <;> rfl
@[simp] theorem State.peak_inputs (k : Key) (v : Nat) : (s.peak k v).inputs = s.inputs := by unfold State.peak; split <;> rfl
@[simp] theorem State.peak_dests (k : Key) (v : Nat) : (s.peak k v).dests = s.dests := by unfold State.peak; split <;> rfl
@[simp] theorem State.peak_conv (k : Key) (v : Nat) : (s.peak k v).conv = s.conv := by unfold State.peak; split <;> rfl
@[simp] theorem State.peak_audio (k : Key) (v : Nat) : (s.peak k v).audio = s.audio := by unfold State.peak; split <;> rfl
@[simp] theorem State.peak_amx (k : Key) (v : Nat) : (s.peak k v).amx = s.amx := by unfold State.peak; split <;> rfl
@[simp] theorem State.peak_net (k : Key) (v : Nat) : (s.peak k v).net = s.net := by unfold State.peak; split <;> rfl
@[simp] theorem State.peak_furlongs (k : Key) (v : Nat) : (s.peak k v).furlongs = s.furlongs := by unfold State.peak; split <;> rfl
@[simp] theorem State.peak_domain (k : Key) (v : Nat) : (s.peak k v).domain = s.domain := by unfold State.peak; split <;> rfl
@[simp] theorem State.peak_boot (k : Key) (v : Nat) : (s.peak k v).boot = s.boot := by unfold State.peak; split <;> rfl
@[simp] theorem State.peak_keys (k : Key) (v : Nat) : (s.peak k v).keys = s.keys := by unfold State.peak; split <;> rfl
@[simp] theorem State.peak_bus (k : Key) (v : Nat) : (s.peak k v).bus = s.bus := by unfold State.peak; split <;> rfl
@[simp] theorem State.peak_cues (k : Key) (v : Nat) : (s.peak k v).cues = s.cues := by unfold State.peak; split <;> rfl
@[simp] theorem State.peak_hot (k : Key) (v : Nat) : (s.peak k v).hot = s.hot := by unfold State.peak; split <;> rfl
@[simp] theorem State.peak_measured (k : Key) (v : Nat) : (s.peak k v).measured = s.measured := by unfold State.peak; split <;> rfl

end Sys2Proof.Machine
end

