-- ==== Sys2Proof/Laws/Objects.lean ====
section
/-! SUPPORT. What the registers hold after each named operation on them (R516 to R518). -/

namespace Sys2Proof.Machine

namespace State

variable {s : State} {k j : Key}

/-- A listed key reads as what is listed. -/
theorem stored_listed {v : Val} (h : SMap.find? s.objs k = some v) : s.stored k = some v := by unfold stored; rw [h]

/-- An unlisted key reads as its default. -/
theorem stored_unlisted (h : SMap.find? s.objs k = none) : s.stored k = baseOf k := by unfold stored; rw [h]

/-- What an object holds in its own right is what it reads as. -/
theorem get_of_stored {v : Val} (h : s.stored k = some v) : s.get k = v := by unfold get; rw [h]

theorem n_of_stored {m : Nat} (h : s.stored k = some (.num m)) : s.n k = m := by unfold n; rw [get_of_stored h]; rfl

/-- A written object holds the value written, in every state whose registers are canonical. -/
theorem stored_setObj (h : s.regsOk = true) (k : Key) (v : Val) : (s.setObj k v).stored k = some v := by
  unfold regsOk at h
  rw [Bool.and_eq_true] at h
  by_cases hv : some v = baseOf k
  · rw [stored_unlisted, hv]
    simp only [setObj, if_pos hv]
    exact SMap.find?_del_same h.1
  · apply stored_listed
    simp only [setObj, if_neg hv]
    exact SMap.find?_put_same _ _ _

/-- Every other object holds what it held. -/
theorem stored_setObj_ne (s : State) (v : Val) (h : j ≠ k) : (s.setObj k v).stored j = s.stored j := by
  have hf : SMap.find? (s.setObj k v).objs j = SMap.find? s.objs j := by
    unfold setObj
    dsimp only
    split
    · exact SMap.find?_del_ne _ h
    · exact SMap.find?_put_ne _ _ h
  unfold stored
  rw [hf]

/-- A cleared object holds its default, in every state whose registers are canonical. -/
theorem stored_clearObj (h : s.regsOk = true) (k : Key) : (s.clearObj k).stored k = baseOf k := by
  unfold regsOk at h
  rw [Bool.and_eq_true] at h
  exact stored_unlisted (SMap.find?_del_same h.1)

theorem stored_clearObj_ne (s : State) (h : j ≠ k) : (s.clearObj k).stored j = s.stored j := by
  unfold stored clearObj
  rw [SMap.find?_del_ne _ h]

/-- Writing an object keeps the canonical form. -/
theorem regsOk_setObj (h : s.regsOk = true) (k : Key) (v : Val) : (s.setObj k v).regsOk = true := by
  unfold regsOk at h ⊢
  rw [Bool.and_eq_true, List.all_eq_true] at h ⊢
  unfold setObj
  dsimp only
  split
  · exact ⟨SMap.rising_del h.1, fun e he => h.2 e (SMap.mem_del he)⟩
  · refine ⟨SMap.rising_put h.1, fun e he => ?_⟩
    rcases SMap.mem_put he with rfl | he
    · simpa using by assumption
    · exact h.2 e he

theorem regsOk_clearObj (h : s.regsOk = true) (k : Key) : (s.clearObj k).regsOk = true := by
  unfold regsOk at h ⊢
  rw [Bool.and_eq_true, List.all_eq_true] at h ⊢
  exact ⟨SMap.rising_del h.1, fun e he => h.2 e (SMap.mem_del he)⟩

theorem stored_setN (h : s.regsOk = true) (k : Key) (n : Nat) : (s.setN k n).stored k = some (.num n) := stored_setObj h k _
theorem stored_setN_ne (s : State) (n : Nat) (h : j ≠ k) : (s.setN k n).stored j = s.stored j := stored_setObj_ne s _ h
theorem regsOk_setN (h : s.regsOk = true) (k : Key) (n : Nat) : (s.setN k n).regsOk = true := regsOk_setObj h k _
theorem n_setN (h : s.regsOk = true) (k : Key) (n : Nat) : (s.setN k n).n k = n := n_of_stored (stored_setN h k n)

theorem stored_setB (h : s.regsOk = true) (k : Key) (b : Bool) : (s.setB k b).stored k = some (.num b.toNat) := stored_setObj h k _
theorem stored_setB_ne (s : State) (b : Bool) (h : j ≠ k) : (s.setB k b).stored j = s.stored j := stored_setObj_ne s _ h
theorem regsOk_setB (h : s.regsOk = true) (k : Key) (b : Bool) : (s.setB k b).regsOk = true := regsOk_setObj h k _

theorem stored_setBytes (h : s.regsOk = true) (k : Key) (b : List Byte) : (s.setBytes k b).stored k = some (.blob b) := stored_setObj h k _
theorem stored_setBytes_ne (s : State) (b : List Byte) (h : j ≠ k) : (s.setBytes k b).stored j = s.stored j := stored_setObj_ne s _ h
theorem regsOk_setBytes (h : s.regsOk = true) (k : Key) (b : List Byte) : (s.setBytes k b).regsOk = true := regsOk_setObj h k _

theorem stored_setZ (h : s.regsOk = true) (w : Nat) (k : Key) (z : Int) : (s.setZ w k z).stored k = some (.num (unsigned w z)) :=
  stored_setObj h k _
theorem stored_setZ_ne (s : State) (w : Nat) (z : Int) (h : j ≠ k) : (s.setZ w k z).stored j = s.stored j := stored_setObj_ne s _ h
theorem regsOk_setZ (h : s.regsOk = true) (w : Nat) (k : Key) (z : Int) : (s.setZ w k z).regsOk = true := regsOk_setObj h k _

/-- Setting sticky bits: the object holds its old bits and those of the mask. -/
theorem stored_flag (h : s.regsOk = true) (k : Key) (m : Nat) : (s.flag k m).stored k = some (.num (s.n k ||| m)) := stored_setN h k _
theorem stored_flag_ne (s : State) (m : Nat) (h : j ≠ k) : (s.flag k m).stored j = s.stored j := stored_setN_ne s _ h
theorem regsOk_flag (h : s.regsOk = true) (k : Key) (m : Nat) : (s.flag k m).regsOk = true := regsOk_setN h k _

theorem stored_unflag (h : s.regsOk = true) (k : Key) (m : Nat) : (s.unflag k m).stored k = some (.num (clearBits (s.n k) m)) :=
  stored_setN h k _
theorem stored_unflag_ne (s : State) (m : Nat) (h : j ≠ k) : (s.unflag k m).stored j = s.stored j := stored_setN_ne s _ h
theorem regsOk_unflag (h : s.regsOk = true) (k : Key) (m : Nat) : (s.unflag k m).regsOk = true := regsOk_setN h k _

/-- A counter that does not outgrow its object counts. -/
theorem stored_bump (h : s.regsOk = true) (k : Key) (d : Nat) (hb : s.n k + d < 2 ^ bitsOf k) :
    (s.bump k d).stored k = some (.num (s.n k + d)) := by
  unfold bump
  dsimp only
  rw [if_pos hb]
  exact stored_setN h k _
theorem stored_bump_ne (s : State) (d : Nat) (h : j ≠ k) : (s.bump k d).stored j = s.stored j := stored_setN_ne s _ h
theorem regsOk_bump (h : s.regsOk = true) (k : Key) (d : Nat) : (s.bump k d).regsOk = true := regsOk_setN h k _

theorem stored_drop (h : s.regsOk = true) (k : Key) (d : Nat) : (s.drop k d).stored k = some (.num (s.n k - d)) := stored_setN h k _
theorem stored_drop_ne (s : State) (d : Nat) (h : j ≠ k) : (s.drop k d).stored j = s.stored j := stored_setN_ne s _ h
theorem regsOk_drop (h : s.regsOk = true) (k : Key) (d : Nat) : (s.drop k d).regsOk = true := regsOk_setN h k _

theorem stored_peak_ne (s : State) (v : Nat) (h : j ≠ k) : (s.peak k v).stored j = s.stored j := by
  unfold peak; split
  · exact stored_setN_ne s _ h
  · rfl
theorem regsOk_peak (h : s.regsOk = true) (k : Key) (v : Nat) : (s.peak k v).regsOk = true := by
  unfold peak; split
  · exact regsOk_setN h k _
  · exact h

/-- An object reads the same in two states that hold the same registers in their own right, where it has a default of its own. -/
theorem n_congr {t : State} {v : Val} (hv : s.stored k = some v) (h : t.stored k = s.stored k) : t.n k = s.n k := by
  unfold n get; rw [h, hv]

end State
end Sys2Proof.Machine
end

