-- ==== Sys2Proof/Laws/PerInstr.lean ====
section
/-! SUPPORT. What holds of every command as a term: its footprint names neither the queue nor the family member, so no command changes them
(R1, R4; log entries 1 and 4). -/

namespace Sys2Proof.Laws

open Sys2Proof Sys2Proof.Machine

/-- The footprint of a command names neither the queue nor the family member. -/
def Framed.Statement (i : Instr) : Prop := ((Footprint.of i).parts.contains .pending || (Footprint.of i).parts.contains .member) = false

theorem Framed.tickBoundary : Framed.Statement (.tickBoundary) := rfl
theorem Framed.seam {x0 x1} : Framed.Statement (.seam x0 x1) := rfl
theorem Framed.shadowWriteDone {x0} : Framed.Statement (.shadowWriteDone x0) := rfl
theorem Framed.mirrorComplete : Framed.Statement (.mirrorComplete) := rfl
theorem Framed.stepTime {x0} : Framed.Statement (.stepTime x0) := rfl
theorem Framed.ppsEdge {x0} : Framed.Statement (.ppsEdge x0) := rfl
theorem Framed.chainRestart {x0} : Framed.Statement (.chainRestart x0) := rfl
theorem Framed.nop {x0 x1} : Framed.Statement (.nop x0 x1) := rfl
theorem Framed.move {x0 x1 x2 x3} : Framed.Statement (.move x0 x1 x2 x3) := rfl
theorem Framed.memwr {x0 x1 x2} : Framed.Statement (.memwr x0 x1 x2) := rfl
theorem Framed.memrd {x0 x1 x2} : Framed.Statement (.memrd x0 x1 x2) := rfl
theorem Framed.bushel {x0 x1 x2} : Framed.Statement (.bushel x0 x1 x2) := rfl
theorem Framed.amx {x0 x1} : Framed.Statement (.amx x0 x1) := rfl
theorem Framed.release {x0 x1 x2} : Framed.Statement (.release x0 x1 x2) := rfl
theorem Framed.sourceStall {x0 x1 x2 x3 x4} : Framed.Statement (.sourceStall x0 x1 x2 x3 x4) := rfl
theorem Framed.catchUp {x0 x1 x2} : Framed.Statement (.catchUp x0 x1 x2) := rfl
theorem Framed.cellArrival {x0 x1 x2 x3 x4} : Framed.Statement (.cellArrival x0 x1 x2 x3 x4) := rfl
theorem Framed.descriptorParity {x0 x1} : Framed.Statement (.descriptorParity x0 x1) := rfl
theorem Framed.stabEdgeLoss : Framed.Statement (.stabEdgeLoss) := rfl
theorem Framed.stabQualified : Framed.Statement (.stabQualified) := rfl
theorem Framed.freqOffsetUpdate {x0 x1} : Framed.Statement (.freqOffsetUpdate x0 x1) := rfl
theorem Framed.candidateSignal {x0 x1} : Framed.Statement (.candidateSignal x0 x1) := rfl
theorem Framed.qualificationTimer {x0} : Framed.Statement (.qualificationTimer x0) := rfl
theorem Framed.candStop {x0} : Framed.Statement (.candStop x0) := rfl
theorem Framed.candGlitch {x0} : Framed.Statement (.candGlitch x0) := rfl
theorem Framed.candRate {x0 x1} : Framed.Statement (.candRate x0 x1) := rfl
theorem Framed.ptpSync {x0 x1 x2 x3 x4} : Framed.Statement (.ptpSync x0 x1 x2 x3 x4) := rfl
theorem Framed.ptpAnnounce {x0 x1 x2 x3 x4 x5 x6 x7} : Framed.Statement (.ptpAnnounce x0 x1 x2 x3 x4 x5 x6 x7) := rfl
theorem Framed.ptpAnnounceTimeout {x0 x1 x2} : Framed.Statement (.ptpAnnounceTimeout x0 x1 x2) := rfl
theorem Framed.esmcReceived {x0 x1 x2} : Framed.Statement (.esmcReceived x0 x1 x2) := rfl
theorem Framed.esmcTimeout {x0} : Framed.Statement (.esmcTimeout x0) := rfl
theorem Framed.pullComplete : Framed.Statement (.pullComplete) := rfl
theorem Framed.realign {x0} : Framed.Statement (.realign x0) := rfl
theorem Framed.holdoverSpec : Framed.Statement (.holdoverSpec) := rfl
theorem Framed.pllLockLost {x0 x1} : Framed.Statement (.pllLockLost x0 x1) := rfl
theorem Framed.pllLockRegained {x0} : Framed.Statement (.pllLockRegained x0) := rfl
theorem Framed.pllRelocked {x0} : Framed.Statement (.pllRelocked x0) := rfl
theorem Framed.lrefPresent {x0 x1} : Framed.Statement (.lrefPresent x0 x1) := rfl
theorem Framed.lrefLost {x0} : Framed.Statement (.lrefLost x0) := rfl
theorem Framed.synthUnlocked {x0} : Framed.Statement (.synthUnlocked x0) := rfl
theorem Framed.lanePllLockLost {x0} : Framed.Statement (.lanePllLockLost x0) := rfl
theorem Framed.laneTxRelease {x0} : Framed.Statement (.laneTxRelease x0) := rfl
theorem Framed.eccRetry {x0 x1 x2 x3} : Framed.Statement (.eccRetry x0 x1 x2 x3) := rfl
theorem Framed.refreshCollision {x0 x1 x2} : Framed.Statement (.refreshCollision x0 x1 x2) := rfl
theorem Framed.stackTemperature {x0 x1} : Framed.Statement (.stackTemperature x0 x1) := rfl
theorem Framed.scrubRead {x0} : Framed.Statement (.scrubRead x0) := rfl
theorem Framed.scrubWriteBack {x0} : Framed.Statement (.scrubWriteBack x0) := rfl
theorem Framed.memtest {x0 x1} : Framed.Statement (.memtest x0 x1) := rfl
theorem Framed.clipAlloc {x0} : Framed.Statement (.clipAlloc x0) := rfl
theorem Framed.clipRelease {x0} : Framed.Statement (.clipRelease x0) := rfl
theorem Framed.clipLoad {x0 x1} : Framed.Statement (.clipLoad x0 x1) := rfl
theorem Framed.clipSave {x0 x1} : Framed.Statement (.clipSave x0 x1) := rfl
theorem Framed.sdiSignalDetect {x0} : Framed.Statement (.sdiSignalDetect x0) := rfl
theorem Framed.sdiSignalLoss {x0} : Framed.Statement (.sdiSignalLoss x0) := rfl
theorem Framed.searchDwell {x0} : Framed.Statement (.searchDwell x0) := rfl
theorem Framed.cdrLock {x0} : Framed.Statement (.cdrLock x0) := rfl
theorem Framed.sdiFrameStructure {x0 x1 x2 x3 x4 x5 x6 x7 x8 x9 x10 x11} : Framed.Statement (.sdiFrameStructure x0 x1 x2 x3 x4 x5 x6 x7 x8 x9 x10 x11) := rfl
theorem Framed.sdiLockLoss {x0 x1} : Framed.Statement (.sdiLockLoss x0 x1) := rfl
theorem Framed.payloadId {x0 x1 x2 x3 x4 x5 x6} : Framed.Statement (.payloadId x0 x1 x2 x3 x4 x5 x6) := rfl
theorem Framed.ancPacket {x0 x1 x2 x3 x4 x5} : Framed.Statement (.ancPacket x0 x1 x2 x3 x4 x5) := rfl
theorem Framed.erroredSecond : Framed.Statement (.erroredSecond) := rfl
theorem Framed.outputFrameStart {x0 x1} : Framed.Statement (.outputFrameStart x0 x1) := rfl
theorem Framed.switchingLine {x0} : Framed.Statement (.switchingLine x0) := rfl
theorem Framed.salvoFire {x0 x1 x2} : Framed.Statement (.salvoFire x0 x1 x2) := rfl
theorem Framed.protect {x0 x1} : Framed.Statement (.protect x0 x1) := rfl
theorem Framed.pathPrimed {x0} : Framed.Statement (.pathPrimed x0) := rfl
theorem Framed.bushelError {x0 x1} : Framed.Statement (.bushelError x0 x1) := rfl
theorem Framed.pathReadmit {x0 x1} : Framed.Statement (.pathReadmit x0 x1) := rfl
theorem Framed.cadenceChanged {x0 x1} : Framed.Statement (.cadenceChanged x0 x1) := rfl
theorem Framed.lutLoad {x0 x1} : Framed.Statement (.lutLoad x0 x1) := rfl
theorem Framed.aes3PreamblesValid {x0} : Framed.Statement (.aes3PreamblesValid x0) := rfl
theorem Framed.audioRateIdentified {x0 x1 x2} : Framed.Statement (.audioRateIdentified x0 x1 x2) := rfl
theorem Framed.audioInputLost {x0 x1} : Framed.Statement (.audioInputLost x0 x1) := rfl
theorem Framed.aes3Subframe {x0 x1} : Framed.Statement (.aes3Subframe x0 x1) := rfl
theorem Framed.csBlock {x0 x1} : Framed.Statement (.csBlock x0 x1) := rfl
theorem Framed.madiFrame {x0 x1 x2} : Framed.Statement (.madiFrame x0 x1 x2) := rfl
theorem Framed.srcDecision {x0 x1} : Framed.Statement (.srcDecision x0 x1) := rfl
theorem Framed.portUnderrun {x0} : Framed.Statement (.portUnderrun x0) := rfl
theorem Framed.portOverrun {x0} : Framed.Statement (.portOverrun x0) := rfl
theorem Framed.fadeComplete {x0} : Framed.Statement (.fadeComplete x0) := rfl
theorem Framed.fifoRecentred {x0} : Framed.Statement (.fifoRecentred x0) := rfl
theorem Framed.resyncIndex {x0} : Framed.Statement (.resyncIndex x0) := rfl
theorem Framed.followLoopUpdate {x0 x1} : Framed.Statement (.followLoopUpdate x0 x1) := rfl
theorem Framed.groupStart {x0 x1} : Framed.Statement (.groupStart x0 x1) := rfl
theorem Framed.groupStop {x0 x1} : Framed.Statement (.groupStop x0 x1) := rfl
theorem Framed.groupIndexZero {x0} : Framed.Statement (.groupIndexZero x0) := rfl
theorem Framed.audioSwitchRequest {x0} : Framed.Statement (.audioSwitchRequest x0) := rfl
theorem Framed.zeroCrossing {x0} : Framed.Statement (.zeroCrossing x0) := rfl
theorem Framed.zcTimeout {x0} : Framed.Statement (.zcTimeout x0) := rfl
theorem Framed.crossfadeComplete {x0} : Framed.Statement (.crossfadeComplete x0) := rfl
theorem Framed.termGain {x0 x1 x2} : Framed.Statement (.termGain x0 x1 x2) := rfl
theorem Framed.mute {x0 x1} : Framed.Statement (.mute x0 x1) := rfl
theorem Framed.matrixRate {x0} : Framed.Statement (.matrixRate x0) := rfl
theorem Framed.playStart {x0 x1} : Framed.Statement (.playStart x0 x1) := rfl
theorem Framed.playStop {x0 x1} : Framed.Statement (.playStop x0 x1) := rfl
theorem Framed.clipEnd {x0} : Framed.Statement (.clipEnd x0) := rfl
theorem Framed.deembedPacket {x0 x1 x2 x3 x4 x5} : Framed.Statement (.deembedPacket x0 x1 x2 x3 x4 x5) := rfl
theorem Framed.deembedFade {x0 x1} : Framed.Statement (.deembedFade x0 x1) := rfl
theorem Framed.linkStateChange {x0 x1} : Framed.Statement (.linkStateChange x0 x1) := rfl
theorem Framed.frameIngress {x0 x1 x2 x3} : Framed.Statement (.frameIngress x0 x1 x2 x3) := rfl
theorem Framed.fdbAgeing {x0 x1} : Framed.Statement (.fdbAgeing x0 x1) := rfl
theorem Framed.fdbFlush {x0} : Framed.Statement (.fdbFlush x0) := rfl
theorem Framed.trapFrame : Framed.Statement (.trapFrame) := rfl
theorem Framed.trapSend {x0} : Framed.Statement (.trapSend x0) := rfl
theorem Framed.arpReply {x0 x1 x2} : Framed.Statement (.arpReply x0 x1 x2) := rfl
theorem Framed.arpRefresh {x0 x1} : Framed.Statement (.arpRefresh x0 x1) := rfl
theorem Framed.igmpQuery {x0 x1} : Framed.Statement (.igmpQuery x0 x1) := rfl
theorem Framed.macsecSa {x0 x1} : Framed.Statement (.macsecSa x0 x1) := rfl
theorem Framed.macsecTxAn {x0 x1} : Framed.Statement (.macsecTxAn x0 x1) := rfl
theorem Framed.senderResolved {x0} : Framed.Statement (.senderResolved x0) := rfl
theorem Framed.senderHeld {x0} : Framed.Statement (.senderHeld x0) := rfl
theorem Framed.rtpPacketRx {x0 x1 x2 x3 x4 x5 x6 x7 x8} : Framed.Statement (.rtpPacketRx x0 x1 x2 x3 x4 x5 x6 x7 x8) := rfl
theorem Framed.pathTimeout {x0 x1} : Framed.Statement (.pathTimeout x0 x1) := rfl
theorem Framed.lineGroupClosure {x0} : Framed.Statement (.lineGroupClosure x0) := rfl
theorem Framed.shaperEligible {x0 x1} : Framed.Statement (.shaperEligible x0 x1) := rfl
theorem Framed.pacerReleaseSlot {x0 x1} : Framed.Statement (.pacerReleaseSlot x0 x1) := rfl
theorem Framed.transmissionStart {x0 x1} : Framed.Statement (.transmissionStart x0 x1) := rfl
theorem Framed.gateChange {x0 x1} : Framed.Statement (.gateChange x0 x1) := rfl
theorem Framed.gateListStart {x0 x1} : Framed.Statement (.gateListStart x0 x1) := rfl
theorem Framed.rxSignalDetect {x0} : Framed.Statement (.rxSignalDetect x0) := rfl
theorem Framed.rxLocked {x0 x1 x2} : Framed.Statement (.rxLocked x0 x1 x2) := rfl
theorem Framed.adaptationTimeout {x0} : Framed.Statement (.adaptationTimeout x0) := rfl
theorem Framed.rxLost {x0 x1} : Framed.Statement (.rxLost x0 x1) := rfl
theorem Framed.elasticSlotRx {x0 x1} : Framed.Statement (.elasticSlotRx x0 x1) := rfl
theorem Framed.elasticSlotRead {x0} : Framed.Statement (.elasticSlotRead x0) := rfl
theorem Framed.rateOffsetUpdate {x0 x1} : Framed.Statement (.rateOffsetUpdate x0 x1) := rfl
theorem Framed.prbsSync {x0 x1 x2 x3} : Framed.Statement (.prbsSync x0 x1 x2 x3) := rfl
theorem Framed.windowEnd {x0 x1 x2} : Framed.Statement (.windowEnd x0 x1 x2) := rfl
theorem Framed.chkRestart {x0} : Framed.Statement (.chkRestart x0) := rfl
theorem Framed.eyeScan {x0 x1} : Framed.Statement (.eyeScan x0 x1) := rfl
theorem Framed.eyeScanDone {x0 x1} : Framed.Statement (.eyeScanDone x0 x1) := rfl
theorem Framed.ezavoCellRx {x0 x1 x2} : Framed.Statement (.ezavoCellRx x0 x1 x2) := rfl
theorem Framed.seal {x0 x1} : Framed.Statement (.seal x0 x1) := rfl
theorem Framed.beaconReceived {x0 x1 x2} : Framed.Statement (.beaconReceived x0 x1 x2) := rfl
theorem Framed.furlongMeasured {x0 x1} : Framed.Statement (.furlongMeasured x0 x1) := rfl
theorem Framed.furlongDown {x0} : Framed.Statement (.furlongDown x0) := rfl
theorem Framed.furlongFaultTimer {x0} : Framed.Statement (.furlongFaultTimer x0) := rfl
theorem Framed.trunkKey {x0 x1} : Framed.Statement (.trunkKey x0 x1) := rfl
theorem Framed.trunkTxKey {x0 x1} : Framed.Statement (.trunkTxKey x0 x1) := rfl
theorem Framed.formWait : Framed.Statement (.formWait) := rfl
theorem Framed.beaconsMissed : Framed.Statement (.beaconsMissed) := rfl
theorem Framed.masterHandover {x0} : Framed.Statement (.masterHandover x0) := rfl
theorem Framed.join {x0 x1 x2 x3 x4 x5 x6} : Framed.Statement (.join x0 x1 x2 x3 x4 x5 x6) := rfl
theorem Framed.welcome {x0 x1 x2 x3} : Framed.Statement (.welcome x0 x1 x2 x3) := rfl
theorem Framed.joinRefused {x0 x1} : Framed.Statement (.joinRefused x0 x1) := rfl
theorem Framed.joinRetry : Framed.Statement (.joinRetry) := rfl
theorem Framed.leave {x0} : Framed.Statement (.leave x0) := rfl
theorem Framed.domainTransaction {x0 x1 x2 x3 x4 x5 x6 x7} : Framed.Statement (.domainTransaction x0 x1 x2 x3 x4 x5 x6 x7) := rfl
theorem Framed.prepare {x0 x1 x2 x3 x4 x5} : Framed.Statement (.prepare x0 x1 x2 x3 x4 x5) := rfl
theorem Framed.copy {x0 x1 x2 x3 x4 x5} : Framed.Statement (.copy x0 x1 x2 x3 x4 x5) := rfl
theorem Framed.prepared {x0 x1} : Framed.Statement (.prepared x0 x1) := rfl
theorem Framed.refused {x0 x1 x2 x3} : Framed.Statement (.refused x0 x1 x2 x3) := rfl
theorem Framed.abortRecord {x0 x1 x2} : Framed.Statement (.abortRecord x0 x1 x2) := rfl
theorem Framed.appliedRecord {x0 x1 x2} : Framed.Statement (.appliedRecord x0 x1 x2) := rfl
theorem Framed.notApplied {x0 x1 x2} : Framed.Statement (.notApplied x0 x1 x2) := rfl
theorem Framed.participantLost {x0 x1} : Framed.Statement (.participantLost x0 x1) := rfl
theorem Framed.resync {x0 x1} : Framed.Statement (.resync x0 x1) := rfl
theorem Framed.relayPacket {x0 x1 x2 x3 x4 x5 x6 x7 x8} : Framed.Statement (.relayPacket x0 x1 x2 x3 x4 x5 x6 x7 x8) := rfl
theorem Framed.hashReseed : Framed.Statement (.hashReseed) := rfl
theorem Framed.cueActionExecute {x0} : Framed.Statement (.cueActionExecute x0) := rfl
theorem Framed.cueActionNone {x0 x1} : Framed.Statement (.cueActionNone x0 x1) := rfl
theorem Framed.cueActionFlags {x0 x1} : Framed.Statement (.cueActionFlags x0 x1) := rfl
theorem Framed.cueActionSalvo {x0 x1 x2} : Framed.Statement (.cueActionSalvo x0 x1 x2) := rfl
theorem Framed.cueActionWrite {x0 x1} : Framed.Statement (.cueActionWrite x0 x1) := rfl
theorem Framed.cueActionFade {x0 x1} : Framed.Statement (.cueActionFade x0 x1) := rfl
theorem Framed.cueActionGpio {x0 x1} : Framed.Statement (.cueActionGpio x0 x1) := rfl
theorem Framed.cueActionTimecode {x0 x1} : Framed.Statement (.cueActionTimecode x0 x1) := rfl
theorem Framed.gpioPulseEnd {x0} : Framed.Statement (.gpioPulseEnd x0) := rfl
theorem Framed.cueFire {x0 x1} : Framed.Statement (.cueFire x0 x1) := rfl
theorem Framed.ceRearm {x0 x1} : Framed.Statement (.ceRearm x0 x1) := rfl
theorem Framed.cueFlags {x0 x1} : Framed.Statement (.cueFlags x0 x1) := rfl
theorem Framed.sacnPacket {x0 x1} : Framed.Statement (.sacnPacket x0 x1) := rfl
theorem Framed.sacnSourceTimeout {x0 x1} : Framed.Statement (.sacnSourceTimeout x0 x1) := rfl
theorem Framed.sacnTransmit {x0} : Framed.Statement (.sacnTransmit x0) := rfl
theorem Framed.discoverySend : Framed.Statement (.discoverySend) := rfl
theorem Framed.discoveryAgeing {x0} : Framed.Statement (.discoveryAgeing x0) := rfl
theorem Framed.dmxOutputPacket {x0} : Framed.Statement (.dmxOutputPacket x0) := rfl
theorem Framed.dmxInputPacket {x0 x1 x2 x3 x4 x5} : Framed.Statement (.dmxInputPacket x0 x1 x2 x3 x4 x5) := rfl
theorem Framed.dmxLoss {x0} : Framed.Statement (.dmxLoss x0) := rfl
theorem Framed.timecodeWord {x0 x1 x2 x3 x4 x5 x6} : Framed.Statement (.timecodeWord x0 x1 x2 x3 x4 x5 x6) := rfl
theorem Framed.tcFreewheel {x0} : Framed.Statement (.tcFreewheel x0) := rfl
theorem Framed.tcNoTransitions {x0} : Framed.Statement (.tcNoTransitions x0) := rfl
theorem Framed.generatorWord {x0} : Framed.Statement (.generatorWord x0) := rfl
theorem Framed.genRun {x0 x1} : Framed.Statement (.genRun x0 x1) := rfl
theorem Framed.gpioEdge {x0 x1} : Framed.Statement (.gpioEdge x0 x1) := rfl
theorem Framed.gpioSet {x0 x1} : Framed.Statement (.gpioSet x0 x1) := rfl
theorem Framed.datagramRx {x0 x1 x2 x3 x4} : Framed.Statement (.datagramRx x0 x1 x2 x3 x4) := rfl
theorem Framed.reassemblyTimeout {x0 x1} : Framed.Statement (.reassemblyTimeout x0 x1) := rfl
theorem Framed.hello {x0 x1 x2 x3} : Framed.Statement (.hello x0 x1 x2 x3) := rfl
theorem Framed.prove {x0 x1} : Framed.Statement (.prove x0 x1) := rfl
theorem Framed.handshakeTimeout {x0} : Framed.Statement (.handshakeTimeout x0) := rfl
theorem Framed.helloLockoutEnd {x0} : Framed.Statement (.helloLockoutEnd x0) := rfl
theorem Framed.get {x0 x1 x2 x3} : Framed.Statement (.get x0 x1 x2 x3) := rfl
theorem Framed.set {x0 x1 x2 x3} : Framed.Statement (.set x0 x1 x2 x3) := rfl
theorem Framed.begin {x0 x1} : Framed.Statement (.begin x0 x1) := rfl
theorem Framed.stage {x0 x1 x2 x3} : Framed.Statement (.stage x0 x1 x2 x3) := rfl
theorem Framed.commit {x0 x1 x2 x3 x4} : Framed.Statement (.commit x0 x1 x2 x3 x4) := rfl
theorem Framed.abort {x0 x1 x2} : Framed.Statement (.abort x0 x1 x2) := rfl
theorem Framed.discard {x0 x1 x2} : Framed.Statement (.discard x0 x1 x2) := rfl
theorem Framed.jobSuspend {x0 x1 x2} : Framed.Statement (.jobSuspend x0 x1 x2) := rfl
theorem Framed.jobResume {x0 x1 x2} : Framed.Statement (.jobResume x0 x1 x2) := rfl
theorem Framed.jobCancel {x0 x1 x2} : Framed.Statement (.jobCancel x0 x1 x2) := rfl
theorem Framed.jobRelease {x0 x1 x2} : Framed.Statement (.jobRelease x0 x1 x2) := rfl
theorem Framed.subscribe {x0 x1 x2} : Framed.Statement (.subscribe x0 x1 x2) := rfl
theorem Framed.unsubscribe {x0 x1 x2} : Framed.Statement (.unsubscribe x0 x1 x2) := rfl
theorem Framed.bulkPut {x0 x1 x2 x3 x4 x5} : Framed.Statement (.bulkPut x0 x1 x2 x3 x4 x5) := rfl
theorem Framed.bulkGet {x0 x1 x2 x3 x4} : Framed.Statement (.bulkGet x0 x1 x2 x3 x4) := rfl
theorem Framed.notifyAck {x0 x1 x2} : Framed.Statement (.notifyAck x0 x1 x2) := rfl
theorem Framed.notifyResend {x0 x1} : Framed.Statement (.notifyResend x0 x1) := rfl
theorem Framed.keepalive {x0 x1} : Framed.Statement (.keepalive x0 x1) := rfl
theorem Framed.close {x0 x1 x2} : Framed.Statement (.close x0 x1 x2) := rfl
theorem Framed.sessionTimeout {x0} : Framed.Statement (.sessionTimeout x0) := rfl
theorem Framed.sessClose {x0} : Framed.Statement (.sessClose x0) := rfl
theorem Framed.txIdle {x0} : Framed.Statement (.txIdle x0) := rfl
theorem Framed.mbH2dTail {x0 x1} : Framed.Statement (.mbH2dTail x0 x1) := rfl
theorem Framed.mbD2hHead {x0} : Framed.Statement (.mbD2hHead x0) := rfl
theorem Framed.journalRecordProgrammed : Framed.Statement (.journalRecordProgrammed) := rfl
theorem Framed.immediateRecord : Framed.Statement (.immediateRecord) := rfl
theorem Framed.journalCompact {x0} : Framed.Statement (.journalCompact x0) := rfl
theorem Framed.jobComplete {x0 x1 x2 x3 x4} : Framed.Statement (.jobComplete x0 x1 x2 x3 x4) := rfl
theorem Framed.jobAutoRelease {x0} : Framed.Statement (.jobAutoRelease x0) := rfl
theorem Framed.deviceReset : Framed.Statement (.deviceReset) := rfl
theorem Framed.factoryDefault {x0} : Framed.Statement (.factoryDefault x0) := rfl
theorem Framed.configExport {x0 x1} : Framed.Statement (.configExport x0 x1) := rfl
theorem Framed.configImport {x0 x1} : Framed.Statement (.configImport x0 x1) := rfl
theorem Framed.dieTempSample {x0} : Framed.Statement (.dieTempSample x0) := rfl
theorem Framed.controlBusRequest {x0} : Framed.Statement (.controlBusRequest x0) := rfl
theorem Framed.unfreeze {x0} : Framed.Statement (.unfreeze x0) := rfl
theorem Framed.dmaDescriptor {x0 x1 x2 x3 x4} : Framed.Statement (.dmaDescriptor x0 x1 x2 x3 x4) := rfl
theorem Framed.pcieRequest {x0 x1 x2 x3 x4 x5 x6} : Framed.Statement (.pcieRequest x0 x1 x2 x3 x4 x5 x6) := rfl
theorem Framed.resetRelease {x0 x1 x2 x3} : Framed.Statement (.resetRelease x0 x1 x2 x3) := rfl
theorem Framed.handover {x0 x1 x2} : Framed.Statement (.handover x0 x1 x2) := rfl
theorem Framed.firstChain {x0 x1} : Framed.Statement (.firstChain x0 x1) := rfl
theorem Framed.porstNFall : Framed.Statement (.porstNFall) := rfl
theorem Framed.rcvLength {x0} : Framed.Statement (.rcvLength x0) := rfl
theorem Framed.trialConfirmation : Framed.Statement (.trialConfirmation) := rfl
theorem Framed.trialWatchdog : Framed.Statement (.trialWatchdog) := rfl
theorem Framed.lcTransition {x0} : Framed.Statement (.lcTransition x0) := rfl
theorem Framed.fwUpdate {x0} : Framed.Statement (.fwUpdate x0) := rfl
theorem Framed.fwCommit : Framed.Statement (.fwCommit) := rfl
theorem Framed.tamperAck : Framed.Statement (.tamperAck) := rfl
theorem Framed.tamperAtStartUp {x0} : Framed.Statement (.tamperAtStartUp x0) := rfl
theorem Framed.standbyTamper {x0} : Framed.Statement (.standbyTamper x0) := rfl
theorem Framed.tamperRunning {x0} : Framed.Statement (.tamperRunning x0) := rfl
theorem Framed.otpIntent {x0} : Framed.Statement (.otpIntent x0) := rfl
theorem Framed.openPath {x0 x1 x2 x3} : Framed.Statement (.openPath x0 x1 x2 x3) := rfl
theorem Framed.openBlob {x0 x1 x2} : Framed.Statement (.openBlob x0 x1 x2) := rfl
theorem Framed.keyClose {x0 x1} : Framed.Statement (.keyClose x0 x1) := rfl
theorem Framed.generate {x0 x1 x2} : Framed.Statement (.generate x0 x1 x2) := rfl
theorem Framed.wrap {x0 x1 x2} : Framed.Statement (.wrap x0 x1 x2) := rfl
theorem Framed.encrypt {x0 x1 x2} : Framed.Statement (.encrypt x0 x1 x2) := rfl
theorem Framed.decrypt {x0 x1 x2} : Framed.Statement (.decrypt x0 x1 x2) := rfl
theorem Framed.mac {x0 x1 x2} : Framed.Statement (.mac x0 x1 x2) := rfl
theorem Framed.revoke {x0 x1 x2} : Framed.Statement (.revoke x0 x1 x2) := rfl
theorem Framed.rewrap {x0 x1} : Framed.Statement (.rewrap x0 x1) := rfl
theorem Framed.enroll {x0 x1} : Framed.Statement (.enroll x0 x1) := rfl
theorem Framed.attest {x0 x1} : Framed.Statement (.attest x0 x1) := rfl
theorem Framed.keyMigrate {x0 x1} : Framed.Statement (.keyMigrate x0 x1) := rfl
theorem Framed.keyRetire : Framed.Statement (.keyRetire) := rfl
theorem Framed.tamperConfig {x0} : Framed.Statement (.tamperConfig x0) := rfl
theorem Framed.remask : Framed.Statement (.remask) := rfl
theorem Framed.drbgReseed : Framed.Statement (.drbgReseed) := rfl
theorem Framed.entropyHealthFailure : Framed.Statement (.entropyHealthFailure) := rfl
theorem Framed.entropyRetest {x0} : Framed.Statement (.entropyRetest x0) := rfl
theorem Framed.eventRaised {x0 x1 x2} : Framed.Statement (.eventRaised x0 x1 x2) := rfl
theorem Framed.evStatus {x0 x1} : Framed.Statement (.evStatus x0 x1) := rfl
theorem Framed.ackAll : Framed.Statement (.ackAll) := rfl
theorem Framed.routeDefaults : Framed.Statement (.routeDefaults) := rfl
theorem Framed.pwrOkChange {x0} : Framed.Statement (.pwrOkChange x0) := rfl
theorem Framed.registerWrite {x0 x1 x2 x3} : Framed.Statement (.registerWrite x0 x1 x2 x3) := rfl
theorem Framed.synthRelocked {x0} : Framed.Statement (.synthRelocked x0) := rfl
theorem Framed.lineGroupStart {x0 x1 x2} : Framed.Statement (.lineGroupStart x0 x1 x2) := rfl
theorem Framed.portSampleDue {x0} : Framed.Statement (.portSampleDue x0) := rfl
theorem Framed.mgmtLinkChange {x0 x1} : Framed.Statement (.mgmtLinkChange x0 x1) := rfl
theorem Framed.stabSignalDetect : Framed.Statement (.stabSignalDetect) := rfl
theorem Framed.ptpMessageSend {x0 x1 x2} : Framed.Statement (.ptpMessageSend x0 x1 x2) := rfl
theorem Framed.ptpDelayRx {x0 x1 x2 x3 x4 x5 x6} : Framed.Statement (.ptpDelayRx x0 x1 x2 x3 x4 x5 x6) := rfl
theorem Framed.esmcSend {x0} : Framed.Statement (.esmcSend x0) := rfl
theorem Framed.tcSignalDetect {x0} : Framed.Statement (.tcSignalDetect x0) := rfl
theorem Framed.aonSupplyLoss : Framed.Statement (.aonSupplyLoss) := rfl

end Sys2Proof.Laws
end

