-- ==== Sys2Proof/Laws/Within.lean ====
section
/-! SUPPORT. What an operation may change, and that it hands the invariant on: each operation of the model has one lemma, in the files
beside this one, which says of which parts and registers it can change at most. Here are the relation, its forms for the results that
carry a state beside other values, and the lemmas of the operations on registers. -/

namespace Sys2Proof.Machine

/-- Where an operation started, and the parts and the registers that may have changed since. -/
structure Bounds where
  start : State
  parts : Part → Prop
  regs : Key → Prop

/-- A state that differs from the start within the bounds, and to which the invariant is handed on. -/
structure Within (b : Bounds) (t : State) : Prop where
  same : ∀ p, ¬ b.parts p → p.same b.start t
  regs : ∀ k, ¬ b.regs k → t.stored k = b.start.stored k
  inv : b.start.Inv → t.Inv

/-- The forms of `Within` for results that carry a state. -/
def Within1 {α : Type} (b : Bounds) (p : State × α) : Prop := Within b p.1
def Within2 {α : Type} (b : Bounds) (p : α × State) : Prop := Within b p.2
def Within3 {α β : Type} (b : Bounds) (p : α × β × State) : Prop := Within b p.2.2
def Within21 {α β : Type} (b : Bounds) (p : α × State × β) : Prop := Within b p.2.1
def WithinO (b : Bounds) (o : Outcome) : Prop := Within b o.state
def WithinD (b : Bounds) (o : Done) : Prop := Within b o.state
def WithinV (b : Bounds) (o : Served) : Prop := Within b o.state
def WithinOut (b : Bounds) (o : Host.Outcome State Fault Refusal) : Prop := ∀ t, o = .next t → Within b t
def Within2E {ε α : Type} (b : Bounds) (o : Except ε (α × State)) : Prop := ∀ r, o = .ok r → Within2 b r
def Within3E {ε α β : Type} (b : Bounds) (o : Except ε (α × β × State)) : Prop := ∀ r, o = .ok r → Within3 b r
def Within21E {ε α β : Type} (b : Bounds) (o : Except ε (α × State × β)) : Prop := ∀ r, o = .ok r → Within21 b r
def WithinS (b : Bounds) (o : Option State) : Prop := ∀ r, o = some r → Within b r
def Within1S {α : Type} (b : Bounds) (o : Option (State × α)) : Prop := ∀ r, o = some r → Within1 b r
def Within2S {α : Type} (b : Bounds) (o : Option (α × State)) : Prop := ∀ r, o = some r → Within2 b r

variable {b : Bounds} {s t : State}

theorem within1_mk {α : Type} {a : α} (h : Within b s) : Within1 b (s, a) := h
theorem within2_mk {α : Type} {a : α} (h : Within b s) : Within2 b (a, s) := h
theorem within3_mk {α β : Type} {a : α} {p : β × State} (h : Within2 b p) : Within3 b (a, p) := h
theorem within21_mk {α β : Type} {a : α} {p : State × β} (h : Within1 b p) : Within21 b (a, p) := h
theorem withinO_mk {x y : Nat} {c : List RItem} {d : Bool} (h : Within b s) : WithinO b ⟨s, x, y, c, d⟩ := h
theorem withinD_mk {x : Nat} {c : List Byte} {d : Bool} (h : Within b s) : WithinD b ⟨s, x, c, d⟩ := h
theorem withinV_mk {c : List RItem} {d : Bool} (h : Within b s) : WithinV b ⟨s, c, d⟩ := h

theorem Part.same_refl (p : Part) (s : State) : p.same s s := by cases p <;> rfl

theorem Part.same_trans {p : Part} {s t u : State} (h : p.same s t) (k : p.same t u) : p.same s u := by
  cases p <;> exact Eq.trans k h

theorem Within.refl (s : State) (ps : Part → Prop) (K : Key → Prop) : Within ⟨s, ps, K⟩ s := ⟨fun p _ => p.same_refl s, fun _ _ => rfl, id⟩

/-- What is allowed outside a list is allowed outside a shorter one. -/
theorem subU {P : Part → Prop} {A B : List Part} (h : ∀ p, p ∉ A → P p) (hd : A ⊆ B) : ∀ p, p ∉ B → P p :=
  fun p hp => h p fun hx => hp (hd hx)

theorem all1 {P : Part → Prop} {x : Part} (h : P x) : ∀ p ∈ [x], P p := fun p hp => by
  rw [List.mem_singleton] at hp; exact hp ▸ h

theorem allCons {P : Part → Prop} {x : Part} {l : List Part} (h : P x) (hl : ∀ p ∈ l, P p) : ∀ p ∈ x :: l, P p := fun p hp => by
  rcases List.mem_cons.mp hp with e | hp
  · exact e ▸ h
  · exact hl p hp

theorem all2 {P : Part → Prop} {x y : Part} (h : P x) (k : P y) : ∀ p ∈ [x, y], P p := allCons h (all1 k)
theorem all3 {P : Part → Prop} {x y z : Part} (h : P x) (k : P y) (l : P z) : ∀ p ∈ [x, y, z], P p := allCons h (all2 k l)
theorem all4 {P : Part → Prop} {x y z w : Part} (h : P x) (k : P y) (l : P z) (m : P w) : ∀ p ∈ [x, y, z, w], P p := allCons h (all3 k l m)

/-- A state that differs from another, beside the registers, in some parts alone. -/
theorem Within.of_eq {u : State} (L : List Part) (hL : ∀ p ∈ L, b.parts p) (hs : ∀ p, p ∉ L → p.same t u) (ho : u.objs = t.objs)
    (hi : t.Inv → u.Inv) (h : Within b t) : Within b u :=
  ⟨fun p hp => Part.same_trans (h.same p hp) (hs p fun hx => hp (hL p hx)),
   fun k hk => by have := h.regs k hk; unfold State.stored at this ⊢; rw [ho]; exact this, fun i => hi (h.inv i)⟩

theorem Within.f_pending {v} (q : b.parts .pending) (h : Within b s) : Within b { s with pending := v } :=
  Within.of_eq (t := s) [.pending] (all1 q) (by intro p h; cases p <;> first | rfl | exact absurd (by decide) h) rfl (fun i => i) h
theorem Within.f_member {v} (q : b.parts .member) (h : Within b s) : Within b { s with member := v } :=
  Within.of_eq (t := s) [.member] (all1 q) (by intro p h; cases p <;> first | rfl | exact absurd (by decide) h) rfl (fun i => i) h
theorem Within.f_fresh {v} (q : b.parts .fresh) (h : Within b s) : Within b { s with fresh := v } :=
  Within.of_eq (t := s) [.fresh] (all1 q) (by intro p h; cases p <;> first | rfl | exact absurd (by decide) h) rfl (fun i => i) h
theorem Within.f_phase {v} (q : b.parts .phase) (h : Within b s) : Within b { s with phase := v } :=
  Within.of_eq (t := s) [.phase] (all1 q) (by intro p h; cases p <;> first | rfl | exact absurd (by decide) h) rfl (fun i => i) h
theorem Within.f_straps {v} (q : b.parts .straps) (h : Within b s) : Within b { s with straps := v } :=
  Within.of_eq (t := s) [.straps] (all1 q) (by intro p h; cases p <;> first | rfl | exact absurd (by decide) h) rfl (fun i => i) h
theorem Within.f_sample {v} (q : b.parts .sample) (hi : s.Inv → State.Inv { s with sample := v }) (h : Within b s) : Within b { s with sample := v } :=
  Within.of_eq (t := s) [.sample] (all1 q) (by intro p h; cases p <;> first | rfl | exact absurd (by decide) h) rfl hi h
theorem Within.f_sent {v} (q : b.parts .sent) (h : Within b s) : Within b { s with sent := v } :=
  Within.of_eq (t := s) [.sent] (all1 q) (by intro p h; cases p <;> first | rfl | exact absurd (by decide) h) rfl (fun i => i) h
theorem Within.f_evu {v} (q : b.parts .evu) (hi : s.Inv → State.Inv { s with evu := v }) (h : Within b s) : Within b { s with evu := v } :=
  Within.of_eq (t := s) [.evu] (all1 q) (by intro p h; cases p <;> first | rfl | exact absurd (by decide) h) rfl hi h
theorem Within.f_tick {v} (q : b.parts .tick) (hi : s.Inv → State.Inv { s with tick := v }) (h : Within b s) : Within b { s with tick := v } :=
  Within.of_eq (t := s) [.tick] (all1 q) (by intro p h; cases p <;> first | rfl | exact absurd (by decide) h) rfl hi h
theorem Within.f_chain {v} (q : b.parts .chain) (h : Within b s) : Within b { s with chain := v } :=
  Within.of_eq (t := s) [.chain] (all1 q) (by intro p h; cases p <;> first | rfl | exact absurd (by decide) h) rfl (fun i => i) h
theorem Within.f_sess {v} (q : b.parts .sess) (h : Within b s) : Within b { s with sess := v } :=
  Within.of_eq (t := s) [.sess] (all1 q) (by intro p h; cases p <;> first | rfl | exact absurd (by decide) h) rfl (fun i => i) h
theorem Within.f_mail {v} (q : b.parts .mail) (h : Within b s) : Within b { s with mail := v } :=
  Within.of_eq (t := s) [.mail] (all1 q) (by intro p h; cases p <;> first | rfl | exact absurd (by decide) h) rfl (fun i => i) h
theorem Within.f_reasm {v} (q : b.parts .reasm) (h : Within b s) : Within b { s with reasm := v } :=
  Within.of_eq (t := s) [.reasm] (all1 q) (by intro p h; cases p <;> first | rfl | exact absurd (by decide) h) rfl (fun i => i) h
theorem Within.f_locks {v} (q : b.parts .locks) (h : Within b s) : Within b { s with locks := v } :=
  Within.of_eq (t := s) [.locks] (all1 q) (by intro p h; cases p <;> first | rfl | exact absurd (by decide) h) rfl (fun i => i) h
theorem Within.f_jobs {v} (q : b.parts .jobs) (h : Within b s) : Within b { s with jobs := v } :=
  Within.of_eq (t := s) [.jobs] (all1 q) (by intro p h; cases p <;> first | rfl | exact absurd (by decide) h) rfl (fun i => i) h
theorem Within.f_jrnl {v} (q : b.parts .jrnl) (h : Within b s) : Within b { s with jrnl := v } :=
  Within.of_eq (t := s) [.jrnl] (all1 q) (by intro p h; cases p <;> first | rfl | exact absurd (by decide) h) rfl (fun i => i) h
theorem Within.f_timing {v} (q : b.parts .timing) (h : Within b s) : Within b { s with timing := v } :=
  Within.of_eq (t := s) [.timing] (all1 q) (by intro p h; cases p <;> first | rfl | exact absurd (by decide) h) rfl (fun i => i) h
theorem Within.f_clocks {v} (q : b.parts .clocks) (h : Within b s) : Within b { s with clocks := v } :=
  Within.of_eq (t := s) [.clocks] (all1 q) (by intro p h; cases p <;> first | rfl | exact absurd (by decide) h) rfl (fun i => i) h
theorem Within.f_lanes {v} (q : b.parts .lanes) (h : Within b s) : Within b { s with lanes := v } :=
  Within.of_eq (t := s) [.lanes] (all1 q) (by intro p h; cases p <;> first | rfl | exact absurd (by decide) h) rfl (fun i => i) h
theorem Within.f_fabric {v} (q : b.parts .fabric) (h : Within b s) : Within b { s with fabric := v } :=
  Within.of_eq (t := s) [.fabric] (all1 q) (by intro p h; cases p <;> first | rfl | exact absurd (by decide) h) rfl (fun i => i) h
theorem Within.f_fmem {v} (q : b.parts .fmem) (h : Within b s) (hm : s.fmem.ok = true → FmemSt.ok v = true)
    (hb : (v.mem, v.wild) = (s.fmem.mem, s.fmem.wild)) : Within b { s with fmem := v } :=
  Within.of_eq (t := s) [.fmem] (all1 q) (by intro p h; cases p <;> first | rfl | exact hb | exact absurd (by decide) h) rfl
    (fun i => ⟨i.1, i.2.1, i.2.2.1, i.2.2.2.1, hm i.2.2.2.2.1, i.2.2.2.2.2⟩) h
theorem Within.f_bytes {v} (q : b.parts .fmem) (r : b.parts .bytes) (h : Within b s) (hm : s.fmem.ok = true → FmemSt.ok v = true) :
    Within b { s with fmem := v } :=
  Within.of_eq (t := s) [.fmem, .bytes] (all2 q r) (by intro p h; cases p <;> first | rfl | exact absurd (by decide) h) rfl
    (fun i => ⟨i.1, i.2.1, i.2.2.1, i.2.2.2.1, hm i.2.2.2.2.1, i.2.2.2.2.2⟩) h
theorem Within.f_inputs {v} (q : b.parts .inputs) (h : Within b s) : Within b { s with inputs := v } :=
  Within.of_eq (t := s) [.inputs] (all1 q) (by intro p h; cases p <;> first | rfl | exact absurd (by decide) h) rfl (fun i => i) h
theorem Within.f_dests {v} (q : b.parts .dests) (h : Within b s) : Within b { s with dests := v } :=
  Within.of_eq (t := s) [.dests] (all1 q) (by intro p h; cases p <;> first | rfl | exact absurd (by decide) h) rfl (fun i => i) h
theorem Within.f_conv {v} (q : b.parts .conv) (h : Within b s) : Within b { s with conv := v } :=
  Within.of_eq (t := s) [.conv] (all1 q) (by intro p h; cases p <;> first | rfl | exact absurd (by decide) h) rfl (fun i => i) h
theorem Within.f_audio {v} (q : b.parts .audio) (h : Within b s) : Within b { s with audio := v } :=
  Within.of_eq (t := s) [.audio] (all1 q) (by intro p h; cases p <;> first | rfl | exact absurd (by decide) h) rfl (fun i => i) h
theorem Within.f_amx {v} (q : b.parts .amx) (h : Within b s) : Within b { s with amx := v } :=
  Within.of_eq (t := s) [.amx] (all1 q) (by intro p h; cases p <;> first | rfl | exact absurd (by decide) h) rfl (fun i => i) h
theorem Within.f_net {v} (q : b.parts .net) (h : Within b s) : Within b { s with net := v } :=
  Within.of_eq (t := s) [.net] (all1 q) (by intro p h; cases p <;> first | rfl | exact absurd (by decide) h) rfl (fun i => i) h
theorem Within.f_furlongs {v} (q : b.parts .furlongs) (h : Within b s) : Within b { s with furlongs := v } :=
  Within.of_eq (t := s) [.furlongs] (all1 q) (by intro p h; cases p <;> first | rfl | exact absurd (by decide) h) rfl (fun i => i) h
theorem Within.f_domain {v} (q : b.parts .domain) (h : Within b s) : Within b { s with domain := v } :=
  Within.of_eq (t := s) [.domain] (all1 q) (by intro p h; cases p <;> first | rfl | exact absurd (by decide) h) rfl (fun i => i) h
theorem Within.f_boot {v} (q : b.parts .boot) (h : Within b s) : Within b { s with boot := v } :=
  Within.of_eq (t := s) [.boot] (all1 q) (by intro p h; cases p <;> first | rfl | exact absurd (by decide) h) rfl (fun i => i) h
theorem Within.f_keys {v} (q : b.parts .keys) (h : Within b s) : Within b { s with keys := v } :=
  Within.of_eq (t := s) [.keys] (all1 q) (by intro p h; cases p <;> first | rfl | exact absurd (by decide) h) rfl (fun i => i) h
theorem Within.f_bus {v} (q : b.parts .bus) (h : Within b s) (hm : s.bus.ok = true → BusSt.ok v = true)
    (hb : (v.sram, v.h2d, v.msix) = (s.bus.sram, s.bus.h2d, s.bus.msix)) : Within b { s with bus := v } :=
  Within.of_eq (t := s) [.bus] (all1 q) (by intro p h; cases p <;> first | rfl | exact hb | exact absurd (by decide) h) rfl
    (fun i => ⟨i.1, i.2.1, i.2.2.1, i.2.2.2.1, i.2.2.2.2.1, hm i.2.2.2.2.2⟩) h
theorem Within.f_ram {v} (q : b.parts .bus) (r : b.parts .ram) (h : Within b s) (hm : s.bus.ok = true → BusSt.ok v = true) :
    Within b { s with bus := v } :=
  Within.of_eq (t := s) [.bus, .ram] (all2 q r) (by intro p h; cases p <;> first | rfl | exact absurd (by decide) h) rfl
    (fun i => ⟨i.1, i.2.1, i.2.2.1, i.2.2.2.1, i.2.2.2.2.1, hm i.2.2.2.2.2⟩) h

/-- Frame memory becomes that of another state that the invariant is handed on to. -/
theorem Within.f_fmem_of {u : State} (q : b.parts .fmem) (k : Within b u) (h : Within b s) : Within b { s with fmem := u.fmem } := by
  refine ⟨fun p hp => ?_, h.regs, fun i =>
    ⟨(h.inv i).1, (h.inv i).2.1, (h.inv i).2.2.1, (h.inv i).2.2.2.1, (k.inv i).2.2.2.2.1, (h.inv i).2.2.2.2.2⟩⟩
  cases p <;> first | exact h.same _ hp | exact k.same .bytes hp | exact absurd q hp

/-- MEMTEST opens an extent: what was listed in it goes, and nothing else reads otherwise (R181). -/
theorem FmemSt.ok_wild {f : FmemSt} {a n k : Nat} (h : f.ok = true) :
    FmemSt.ok { f with mem := f.mem.filter (fun e => decide (e.1 < a ∨ a + n ≤ e.1)), wild := (a, n, k) :: f.wild } = true := by
  refine Memory.wf_filter (fun c _ hc => ?_) h
  unfold FmemSt.unlisted
  dsimp only
  rw [List.find?_cons_of_neg]
  simp only [decide_eq_true_eq] at hc ⊢
  omega

/-- A write of a byte keeps frame memory in its canonical form. -/
theorem FmemSt.ok_setD {f : FmemSt} {k : Nat} {x : Byte} (h : f.ok = true) : FmemSt.ok { f with mem := SMap.setD f.mem k (f.unlisted k) x } = true :=
  Memory.wf_setD k _ rfl h

theorem BusSt.ok_iff {x : BusSt} : x.ok = true ↔
    Memory.wf x.sram (fun _ => 0) = true ∧ Memory.wf x.h2d (fun _ => 0) = true ∧ Memory.wf x.msix (fun _ => 0) = true := by
  unfold BusSt.ok; rw [Bool.and_eq_true, Bool.and_eq_true, and_assoc]
theorem Within.f_cues {v} (q : b.parts .cues) (h : Within b s) : Within b { s with cues := v } :=
  Within.of_eq (t := s) [.cues] (all1 q) (by intro p h; cases p <;> first | rfl | exact absurd (by decide) h) rfl (fun i => i) h
theorem Within.f_hot {v} (q : b.parts .hot) (h : Within b s) : Within b { s with hot := v } :=
  Within.of_eq (t := s) [.hot] (all1 q) (by intro p h; cases p <;> first | rfl | exact absurd (by decide) h) rfl (fun i => i) h
theorem Within.f_measured {v} (q : b.parts .measured) (h : Within b s) : Within b { s with measured := v } :=
  Within.of_eq (t := s) [.measured] (all1 q) (by intro p h; cases p <;> first | rfl | exact absurd (by decide) h) rfl (fun i => i) h

theorem ite_elim {α : Sort _} {P : α → Prop} {c : Prop} [Decidable c] {x y : α} (hx : P x) (hy : P y) : P (if c then x else y) := by
  split
  · exact hx
  · exact hy

theorem dite_elim {α : Sort _} {P : α → Prop} {c : Prop} [Decidable c] {x : c → α} {y : ¬c → α} (hx : ∀ h, P (x h)) (hy : ∀ h, P (y h)) :
    P (if h : c then x h else y h) := by
  split
  · exact hx _
  · exact hy _

theorem foldl_elim {α β : Type} {P : β → Prop} {f : β → α → β} {z : β} {l : List α} (h0 : P z) (hs : ∀ y a, P y → P (f y a)) :
    P (l.foldl f z) := by
  induction l generalizing z with
  | nil => exact h0
  | cons a l ih => exact ih (hs z a h0)

theorem transport {α : Sort _} {P : α → Prop} {x y : α} (h : x = y) (hx : P x) : P y := h ▸ hx

theorem exceptError {ε α : Type} {P : α → Prop} (e : ε) : ∀ r, (Except.error e : Except ε α) = .ok r → P r := fun _ h => nomatch h
theorem exceptOk {ε α : Type} {P : α → Prop} {a : α} (h : P a) : ∀ r, (Except.ok a : Except ε α) = .ok r → P r := by
  intro r e; cases e; exact h
theorem optionNone {α : Type} {P : α → Prop} : ∀ r, (none : Option α) = some r → P r := fun _ h => nomatch h
theorem optionSome {α : Type} {P : α → Prop} {a : α} (h : P a) : ∀ r, some a = some r → P r := by intro r e; cases e; exact h
theorem getD_elim {α : Type} {P : α → Prop} {o : Option α} {d : α} (h : ∀ r, o = some r → P r) (k : P d) : P (o.getD d) := by
  cases o with
  | none => exact k
  | some x => exact h x rfl
theorem outNext (h : Within b s) : WithinOut b (.next s) := by intro r e; cases e; exact h

theorem State.setObj_within {k : Key} {v : Val} (hk : b.regs k) (h : Within b s) : Within b (s.setObj k v) := by
  refine ⟨fun p hp => Part.same_trans (h.same p hp) (by cases p <;> rfl), fun j hj => ?_, fun i => ⟨State.regsOk_setObj (h.inv i).1 k v, (h.inv i).2⟩⟩
  rw [State.stored_setObj_ne s v (fun e => by subst e; exact hj hk)]
  exact h.regs j hj

theorem State.clearObj_within {k : Key} (hk : b.regs k) (h : Within b s) : Within b (s.clearObj k) := by
  refine ⟨fun p hp => Part.same_trans (h.same p hp) (by cases p <;> rfl), fun j hj => ?_, fun i => ⟨State.regsOk_clearObj (h.inv i).1 k, (h.inv i).2⟩⟩
  rw [State.stored_clearObj_ne s (fun e => by subst e; exact hj hk)]
  exact h.regs j hj

theorem State.forEach_within {α : Type} {l : List α} {f : State → α → State} (h : Within b s) (hf : ∀ t a, Within b t → Within b (f t a)) :
    Within b (s.forEach l f) := by
  unfold State.forEach; exact foldl_elim h hf

/-- A raising of an event changes the event unit and the registers of `eventRegs` (R666). -/
theorem State.raise_within {p1 p2 : Nat} {p3 : List Byte} (q : b.parts .evu) (c : ∀ k ∈ eventRegs p1, b.regs k) (h : Within b s) :
    Within b (s.raise p1 p2 p3) := by
  have c' : ∀ k, k = O1A.EV_STATUS p1 ∨ k = O1A.EV_COUNT p1 ∨ k = O1A.EV_LAST_TICK p1 ∨ k = O1A.EV_LAST_RECORD p1 ∨
      k = O1A.RECORDS_MADE ∨ k = O1A.RECORDS_SUPPRESSED ∨ k = O1A.EVU_FLAGS → b.regs k := fun k hk => c k (by simpa [eventRegs] using hk)
  have hm : Within b (s.markRaised p1) :=
    State.setObj_within (c' _ (by simp)) (State.setObj_within (c' _ (by simp)) (State.setObj_within (c' _ (by simp)) h))
  unfold State.raise
  dsimp only
  refine ite_elim (P := Within b) (State.setObj_within (c' _ (by simp)) hm) (ite_elim (P := Within b) ?_ ?_)
  · exact State.setObj_within (c' _ (by simp)) (State.setObj_within (c' _ (by simp)) (Within.f_evu q (fun i => i) hm))
  · exact State.setObj_within (c' _ (by simp [State.record])) (State.setObj_within (c' _ (by simp)) (Within.f_evu q (fun i => i) hm))

theorem State.raiseLim_within {p1 p2 p4 : Nat} {p3 : List Byte} (q : b.parts .evu) (c : ∀ k ∈ eventRegs p1, b.regs k) (h : Within b s) :
    Within b (s.raiseLim p1 p2 p3 p4) := by
  unfold State.raiseLim
  dsimp only
  split
  · exact ite_elim (P := Within b) h (State.raise_within q c (Within.f_evu q (fun i => i) h))
  · exact State.raise_within q c (Within.f_evu q (fun i => i) h)

end Sys2Proof.Machine
end

