-- ==== Sys2Proof/Laws/Raise.lean ====
section
/-! SUPPORT. What a raising of an event does (R666, R675 to R677): which registers it leaves alone, that the event then stands raised, and
which parts of the state it does not touch. -/

namespace Sys2Proof.Machine

namespace State

variable {s : State} {ev inst : Nat} {d : List Byte} {k : Key}

/-- Objects of different parameters are different. -/
theorem obKey_ne {c i p e j q : Nat} (h : p % 0x1000 ≠ q % 0x1000) : obKey c i p ≠ obKey e j q := fun x => by
  have y : c * 0x1000000 + i * 0x1000 + p = e * 0x1000000 + j * 0x1000 + q := x
  omega

/-- Objects of a class whose parameter is the same, and whose instances differ, are different. -/
theorem obKey_inst_ne {c i j p : Nat} (h : i ≠ j) : obKey c i p ≠ obKey c j p := fun x => by
  have y : c * 0x1000000 + i * 0x1000 + p = c * 0x1000000 + j * 0x1000 + p := x
  omega

/-- The status of an event stands once the event is marked. -/
theorem raised_markRaised (h : s.regsOk = true) : (s.markRaised ev).Raised ev := by
  refine ⟨s.n (O1A.EV_STATUS ev) ||| (if bit (s.n (O1A.EV_STATUS ev)) 0 then 3 else 1), ?_, ?_⟩
  · exact (stored_setN_ne _ _ (obKey_ne (by decide))).trans ((stored_setN_ne _ _ (obKey_ne (by decide))).trans (stored_flag h _ _))
  · unfold bit
    rw [Nat.testBit_or]
    split <;> simp

theorem regsOk_markRaised (h : s.regsOk = true) : (s.markRaised ev).regsOk = true :=
  regsOk_setN (regsOk_setN (regsOk_flag h _ _) _ _) _ _

theorem regsOk_suppressRecord (h : s.regsOk = true) : s.suppressRecord.regsOk = true :=
  regsOk_flag (regsOk_bump (s := { s with evu := { s.evu with suppressed := s.evu.suppressed + 1 } }) h _ _) _ _

theorem regsOk_makeRecord (h : s.regsOk = true) (r : Rec) : (s.makeRecord r).regsOk = true :=
  regsOk_setBytes (regsOk_bump h _ _) _ _

/-- A status that stands is left alone by the counters and the record of a raising. -/
theorem raised_suppressRecord (h : s.Raised ev) : s.suppressRecord.Raised ev := by
  obtain ⟨m, hm, hb⟩ := h
  exact ⟨m, (stored_flag_ne _ _ (obKey_ne (by decide))).trans ((stored_bump_ne _ _ (obKey_ne (by decide))).trans hm), hb⟩

theorem raised_makeRecord (r : Rec) (h : s.Raised ev) : (s.makeRecord r).Raised ev := by
  obtain ⟨m, hm, hb⟩ := h
  exact ⟨m, (stored_setBytes_ne _ _ (obKey_ne (by decide))).trans ((stored_bump_ne _ _ (obKey_ne (by decide))).trans hm), hb⟩

theorem raised_setBytes_last {e : Nat} {l : List Byte} (h : s.Raised ev) : (s.setBytes (O1A.EV_LAST_RECORD e) l).Raised ev := by
  obtain ⟨m, hm, hb⟩ := h
  exact ⟨m, (stored_setBytes_ne _ _ (obKey_ne (by decide))).trans hm, hb⟩

/-- A raising marks its event, and makes, masks or suppresses its record. -/
theorem raise_cases (s : State) (ev inst : Nat) (d : List Byte) :
    (∃ l, s.raise ev inst d = (s.markRaised ev).setBytes (O1A.EV_LAST_RECORD ev) l) ∨
    s.raise ev inst d = (s.markRaised ev).suppressRecord ∨ ∃ r, s.raise ev inst d = (s.markRaised ev).makeRecord r := by
  unfold raise
  dsimp only
  split
  · exact .inl ⟨_, rfl⟩
  · split
    · exact .inr (.inl rfl)
    · exact .inr (.inr ⟨_, rfl⟩)

/-- A raising keeps the canonical form of the registers. -/
theorem regsOk_raise (h : s.regsOk = true) : (s.raise ev inst d).regsOk = true := by
  rcases raise_cases s ev inst d with ⟨l, e⟩ | e | ⟨r, e⟩ <;> rw [e]
  · exact regsOk_setBytes (regsOk_markRaised h) _ _
  · exact regsOk_suppressRecord (regsOk_markRaised h)
  · exact regsOk_makeRecord (regsOk_markRaised h) r

/-- A raising changes the registers of the event and of the event unit alone. -/
theorem stored_raise_ne (h : k ∉ eventRegs ev) : (s.raise ev inst d).stored k = s.stored k :=
  (raise_within (b := ⟨s, fun _ => True, fun k => k ∈ eventRegs ev⟩) trivial (fun _ h => h) (Within.refl s _ _)).regs k h

/-- An event that is raised stands raised (R666). -/
theorem raised_raise (h : s.regsOk = true) : (s.raise ev inst d).Raised ev := by
  rcases raise_cases s ev inst d with ⟨l, e⟩ | e | ⟨r, e⟩ <;> rw [e]
  · exact raised_setBytes_last (raised_markRaised h)
  · exact raised_suppressRecord (raised_markRaised h)
  · exact raised_makeRecord r (raised_markRaised h)

/-- The registers of another event's raising are not the status of this one. -/
theorem status_notin_eventRegs {e : Nat} (he : e ≠ ev) : O1A.EV_STATUS e ∉ eventRegs ev := by
  intro h
  simp only [eventRegs, List.mem_cons, List.not_mem_nil, or_false] at h
  rcases h with h | h | h | h | h | h | h
  · exact obKey_inst_ne he h
  all_goals exact obKey_ne (by decide) h

/-- An event that stands raised still does after a raising of any event. -/
theorem raised_raise_of {e : Nat} (h : s.regsOk = true) (hr : s.Raised e) : (s.raise ev inst d).Raised e := by
  by_cases he : e = ev
  · subst he; exact raised_raise h
  · obtain ⟨m, hm, hb⟩ := hr
    refine ⟨m, ?_, hb⟩
    unfold Holds at hm ⊢
    rw [stored_raise_ne (status_notin_eventRegs he), hm]

end State
end Sys2Proof.Machine
end

