-- ==== Sys2Proof/Laws/WithinOps.lean ====
section
/-! SUPPORT. What each operation of Machine/Ops.lean may change at most (Laws/Within.lean). -/

set_option maxRecDepth 8000

namespace Sys2Proof.Machine

theorem State.setN_within {b : Bounds} {p0 p1 p2} (c0 : b.regs p1) (hp0 : Within b p0) : Within b (State.setN p0 p1 p2) := by
  unfold State.setN
  refine State.setObj_within c0 ?_
  exact hp0

theorem State.setB_within {b : Bounds} {p0 p1 p2} (c0 : b.regs p1) (hp0 : Within b p0) : Within b (State.setB p0 p1 p2) := by
  unfold State.setB
  refine State.setObj_within c0 ?_
  exact hp0

theorem State.setBytes_within {b : Bounds} {p0 p1 p2} (c0 : b.regs p1) (hp0 : Within b p0) : Within b (State.setBytes p0 p1 p2) := by
  unfold State.setBytes
  refine State.setObj_within c0 ?_
  exact hp0

theorem State.setZ_within {b : Bounds} {p0 p1 p2 p3} (c0 : b.regs p2) (hp0 : Within b p0) : Within b (State.setZ p0 p1 p2 p3) := by
  unfold State.setZ
  refine State.setObj_within c0 ?_
  exact hp0

theorem State.flag_within {b : Bounds} {p0 p1 p2} (c0 : b.regs p1) (hp0 : Within b p0) : Within b (State.flag p0 p1 p2) := by
  unfold State.flag
  refine State.setN_within c0 ?_
  exact hp0

theorem State.unflag_within {b : Bounds} {p0 p1 p2} (c0 : b.regs p1) (hp0 : Within b p0) : Within b (State.unflag p0 p1 p2) := by
  unfold State.unflag
  refine State.setN_within c0 ?_
  exact hp0

theorem State.bump_within {b : Bounds} {p0 p1 p2} (c0 : b.regs p1) (hp0 : Within b p0) : Within b (State.bump p0 p1 p2) := by
  unfold State.bump
  extract_lets -merge -useContext -underBinder x1
  refine State.setN_within c0 ?_
  exact hp0

theorem State.drop_within {b : Bounds} {p0 p1 p2} (c0 : b.regs p1) (hp0 : Within b p0) : Within b (State.drop p0 p1 p2) := by
  unfold State.drop
  refine State.setN_within c0 ?_
  exact hp0

theorem State.peak_within {b : Bounds} {p0 p1 p2} (c0 : b.regs p1) (hp0 : Within b p0) : Within b (State.peak p0 p1 p2) := by
  unfold State.peak
  refine ite_elim (P := Within b) ?_ ?_
  · refine State.setN_within c0 ?_
    exact hp0
  · exact hp0

theorem State.emit_within {b : Bounds} {p0 p1} (qsent : b.parts .sent) (hp0 : Within b p0) : Within b (State.emit p0 p1) := by
  unfold State.emit
  refine Within.f_sent (s := p0) qsent ?_
  exact hp0

theorem State.draw_within {b : Bounds} {p0} (qfresh : b.parts .fresh) (hp0 : Within b p0) : Within2 b (State.draw p0) := by
  unfold State.draw
  refine within2_mk ?_
  refine Within.f_fresh (s := p0) qfresh ?_
  exact hp0

theorem State.drawBytes_within {b : Bounds} {p0 p1} (qfresh : b.parts .fresh) (hp0 : Within b p0) : Within2 b (State.drawBytes p0 p1) := by
  unfold State.drawBytes
  refine within2_mk ?_
  refine Within.f_fresh (s := p0) qfresh ?_
  exact hp0

theorem State.markRaised_within {b : Bounds} {p0 p1} (c0 : b.regs (O1A.EV_LAST_TICK p1)) (c1 : b.regs (O1A.EV_COUNT p1)) (c2 : b.regs (O1A.EV_STATUS p1)) (hp0 : Within b p0) : Within b (State.markRaised p0 p1) := by
  unfold State.markRaised
  refine State.setN_within c0 ?_
  refine State.setN_within c1 ?_
  refine State.flag_within c2 ?_
  exact hp0

theorem State.suppressRecord_within {b : Bounds} {p0} (qevu : b.parts .evu) (c1 : b.regs O1A.EVU_FLAGS) (c2 : b.regs O1A.RECORDS_SUPPRESSED) (hp0 : Within b p0) : Within b (State.suppressRecord p0) := by
  unfold State.suppressRecord
  extract_lets -merge -useContext -underBinder x1 x2
  have hx2 : Within b x2 := by
    unfold x2
    refine Within.f_evu (s := p0) qevu (fun i => i) ?_
    exact hp0
  try clear_value x2
  refine State.flag_within c1 ?_
  refine State.bump_within c2 ?_
  exact hx2

theorem State.makeRecord_within {b : Bounds} {p0 p1} (qevu : b.parts .evu) (c1 : b.regs (O1A.EV_LAST_RECORD p1.event)) (c2 : b.regs O1A.RECORDS_MADE) (hp0 : Within b p0) : Within b (State.makeRecord p0 p1) := by
  unfold State.makeRecord
  extract_lets -merge -useContext -underBinder x1 x2 x3
  have hx3 : Within b x3 := by
    unfold x3
    refine Within.f_evu (s := p0) qevu (fun i => i) ?_
    exact hp0
  try clear_value x3
  refine State.setBytes_within c1 ?_
  refine State.bump_within c2 ?_
  exact hx3

theorem State.when_within {b : Bounds} {p0 p1 p2} (hp0 : Within b p0) (hp2 : ∀ a0, Within b a0 → Within b (p2 a0)) : Within b (State.when p0 p1 p2) := by
  unfold State.when
  refine ite_elim (P := Within b) ?_ ?_
  · refine hp2 _ ?_
    · exact hp0
  · exact hp0

theorem live_within {b : Bounds} {p0 p1} (hp0 : Within b p0) (hp1 : ∀ a0, Within b a0 → Within b (p1 a0)) : WithinOut b (live p0 p1) := by
  unfold live
  refine outNext ?_
  refine ite_elim (P := Within b) ?_ ?_
  · refine hp1 _ ?_
    · exact hp0
  · exact hp0

theorem onInst_within {b : Bounds} {p0 p1 p2 p3} (hp2 : Within b p2) (hp3 : ∀ a0, Within b a0 → Within b (p3 a0)) : WithinOut b (onInst p0 p1 p2 p3) := by
  unfold onInst
  refine outNext ?_
  refine ite_elim (P := Within b) ?_ ?_
  · refine hp3 _ ?_
    · exact hp2
  · exact hp2

end Sys2Proof.Machine
end

