-- ==== Sys2Proof/Laws/WithinWire.lean ====
section
/-! SUPPORT. What each operation of Machine/Wire.lean may change at most (Laws/Within.lean). -/

set_option maxRecDepth 8000

namespace Sys2Proof.Machine

theorem State.ringClock_within {b : Bounds} {p0} (qmail : b.parts .mail) (hp0 : Within b p0) : Within b (State.ringClock p0) := by
  unfold State.ringClock
  extract_lets -merge -useContext -underBinder x1
  refine Within.f_mail (s := p0) qmail ?_
  exact hp0

theorem State.ringSend_within {b : Bounds} {p0 p1 p2} (qsent : b.parts .sent) (qmail : b.parts .mail) (hp0 : Within b p0) : Within b (State.ringSend p0 p1 p2) := by
  unfold State.ringSend
  extract_lets -merge -useContext -underBinder x1 x2
  have hx2 : Within b x2 := by
    unfold x2
    refine State.emit_within qsent ?_
    refine Within.f_mail (s := p0) qmail ?_
    exact hp0
  try clear_value x2
  refine State.ringClock_within qmail ?_
  refine ite_elim (P := Within b) ?_ ?_
  · refine State.emit_within qsent ?_
    exact hx2
  · exact hx2

theorem State.ringPut_within {b : Bounds} {p0 p1 p2} (qsent : b.parts .sent) (qmail : b.parts .mail) (hp0 : Within b p0) : Within b (State.ringPut p0 p1 p2) := by
  unfold State.ringPut
  extract_lets -merge -useContext -underBinder x1
  refine ite_elim (P := Within b) ?_ ?_
  · refine Within.f_mail (s := p0) qmail ?_
    exact hp0
  · refine State.ringSend_within qsent qmail ?_
    exact hp0

theorem State.setSess_within {b : Bounds} {p0 p1 p2} (qsess : b.parts .sess) (hp0 : Within b p0) : Within b (State.setSess p0 p1 p2) := by
  unfold State.setSess
  refine Within.f_sess (s := p0) qsess ?_
  exact hp0

theorem State.transmit_within {b : Bounds} {p0 p1 p2 p3 p4 p5} (qsent : b.parts .sent) (qmail : b.parts .mail) (hp0 : Within b p0) : Within b (State.transmit p0 p1 p2 p3 p4 p5) := by
  unfold State.transmit
  extract_lets -merge -useContext -underBinder x1 x2
  refine ite_elim (P := Within b) ?_ ?_
  · exact hp0
  · refine ite_elim (P := Within b) ?_ ?_
    · refine State.ringPut_within qsent qmail ?_
      exact hp0
    · refine State.forEach_within ?_ ?_
      · exact hp0
      · intro u3 u4 hu3
        try beta_reduce
        refine State.emit_within qsent ?_
        exact hu3

theorem State.sendMsg_within {b : Bounds} {p0 p1 p2 p3} (qsent : b.parts .sent) (qsess : b.parts .sess) (qmail : b.parts .mail) (hp0 : Within b p0) : Within b (State.sendMsg p0 p1 p2 p3) := by
  unfold State.sendMsg
  split
  · exact hp0
  · extract_lets -merge -useContext -underBinder x1
    refine ite_elim (P := Within b) ?_ ?_
    · refine State.transmit_within qsent qmail ?_
      exact hp0
    · refine State.transmit_within qsent qmail ?_
      refine State.setSess_within qsess ?_
      exact hp0

theorem State.respond_within {b : Bounds} {p0 p1 p2} (qsent : b.parts .sent) (qsess : b.parts .sess) (qmail : b.parts .mail) (hp0 : Within b p0) : Within b (State.respond p0 p1 p2) := by
  unfold State.respond
  split
  · exact hp0
  · refine State.sendMsg_within qsent qsess qmail ?_
    refine State.setSess_within qsess ?_
    exact hp0

theorem State.pushNote_within {b : Bounds} {p0 p1 p2 p3} (qsent : b.parts .sent) (qsess : b.parts .sess) (qmail : b.parts .mail) (c3 : b.regs (O1C.SESS_QUEUE p1)) (hp0 : Within b p0) : Within b (State.pushNote p0 p1 p2 p3) := by
  unfold State.pushNote
  extract_lets -merge -useContext -underBinder x1
  refine State.transmit_within qsent qmail ?_
  refine State.setN_within c3 ?_
  refine State.setSess_within qsess ?_
  exact hp0

theorem State.noteOverflow_within {b : Bounds} {p0 p1 p2} (qevu : b.parts .evu) (qsess : b.parts .sess) (c2 : ∀ k ∈ eventRegs 451, b.regs k) (c3 : b.regs O1C.FILULO_FLAGS) (hp0 : Within b p0) : Within b (State.noteOverflow p0 p1 p2) := by
  unfold State.noteOverflow
  refine ite_elim (P := Within b) ?_ ?_
  · refine State.setSess_within qsess ?_
    exact hp0
  · refine State.raise_within qevu c2 ?_
    refine State.flag_within c3 ?_
    refine State.setSess_within qsess ?_
    exact hp0

theorem State.note_within {b : Bounds} {p0 p1 p2} (qsent : b.parts .sent) (qevu : b.parts .evu) (qsess : b.parts .sess) (qmail : b.parts .mail) (c4 : b.regs (O1C.SESS_QUEUE p1)) (c5 : ∀ k ∈ eventRegs 451, b.regs k) (c6 : b.regs O1C.FILULO_FLAGS) (hp0 : Within b p0) : Within b (State.note p0 p1 p2) := by
  unfold State.note
  split
  · exact hp0
  · refine ite_elim (P := Within b) ?_ ?_
    · exact hp0
    · refine ite_elim (P := Within b) ?_ ?_
      · refine State.pushNote_within qsent qsess qmail c4 ?_
        exact hp0
      · split
        · refine State.noteOverflow_within qevu qsess c5 c6 ?_
          exact hp0
        · refine State.noteOverflow_within qevu qsess c5 c6 ?_
          exact hp0

theorem State.notifyEvent_within {b : Bounds} {p0 p1} (qsent : b.parts .sent) (qevu : b.parts .evu) (qsess : b.parts .sess) (qmail : b.parts .mail) (c4 : ∀ w0, b.regs (O1C.SESS_QUEUE w0)) (c5 : ∀ k ∈ eventRegs 451, b.regs k) (c6 : b.regs O1C.FILULO_FLAGS) (hp0 : Within b p0) : Within b (State.notifyEvent p0 p1) := by
  unfold State.notifyEvent
  refine State.forEach_within ?_ ?_
  · exact hp0
  · intro u1 u2 hu1
    try beta_reduce
    refine State.forEach_within ?_ ?_
    · exact hu1
    · intro u3 u4 hu3
      try beta_reduce
      refine ite_elim (P := Within b) ?_ ?_
      · refine State.note_within qsent qevu qsess qmail (c4 _) c5 c6 ?_
        exact hu3
      · exact hu3

theorem State.logRecord_within {b : Bounds} {p0 p1} (qevu : b.parts .evu) (c1 : b.regs O1A.LOG_NEWEST) (c2 : ∀ k ∈ eventRegs 416, b.regs k) (c3 : b.regs O1A.EVU_FLAGS) (hp0 : Within b p0) : Within b (State.logRecord p0 p1) := by
  unfold State.logRecord
  extract_lets -merge -useContext -underBinder x1 x2 x3
  have hx3 : Within b x3 := by
    unfold x3
    refine State.setN_within c1 (Within.f_evu (s := p0) qevu (fun i => ⟨i.1, i.2.1, ?_, i.2.2.2⟩) hp0)
    exact List.length_take_le _ _
  try clear_value x3
  exact ite_elim (P := Within b) (State.raiseLim_within qevu c2 (State.flag_within c3 hx3)) hx3

theorem State.routeRecord_within {b : Bounds} {p0 p1} (qsent : b.parts .sent) (qevu : b.parts .evu) (qsess : b.parts .sess) (qmail : b.parts .mail) (c4 : b.regs O1A.LOG_NEWEST) (c5 : ∀ k ∈ eventRegs 416, b.regs k) (c6 : b.regs O1A.EVU_FLAGS) (c7 : ∀ w0, b.regs (O1C.SESS_QUEUE w0)) (c8 : ∀ k ∈ eventRegs 451, b.regs k) (c9 : b.regs O1C.FILULO_FLAGS) (hp0 : Within b p0) : Within b (State.routeRecord p0 p1) := by
  unfold State.routeRecord
  extract_lets -merge -useContext -underBinder x1 x2 x3
  have hx1 : Within b x1 := by
    unfold x1
    refine ite_elim (P := Within b) ?_ ?_
    · refine State.logRecord_within qevu c4 c5 c6 ?_
      exact hp0
    · exact hp0
  try clear_value x1
  have hx2 : Within b x2 := by
    unfold x2
    refine ite_elim (P := Within b) ?_ ?_
    · refine State.notifyEvent_within qsent qevu qsess qmail c7 c8 c9 ?_
      exact hx1
    · exact hx1
  try clear_value x2
  refine ite_elim (P := Within b) ?_ ?_
  · refine Within.f_evu (s := x2) qevu (fun i => i) ?_
    exact hx2
  · exact hx2

theorem State.sendMsi_within {b : Bounds} {p0 p1} (qsent : b.parts .sent) (hp0 : Within b p0) : Within b (State.sendMsi p0 p1) := by
  unfold State.sendMsi
  refine ite_elim (P := Within b) ?_ ?_
  · refine State.forEach_within ?_ ?_
    · exact hp0
    · intro u1 u2 hu1
      try beta_reduce
      refine ite_elim (P := Within b) ?_ ?_
      · refine State.emit_within qsent ?_
        exact hu1
      · exact hu1
  · exact hp0

theorem State.routeRecords_within {b : Bounds} {p0} (qsent : b.parts .sent) (qevu : b.parts .evu) (qsess : b.parts .sess) (qmail : b.parts .mail) (c4 : b.regs O1A.LOG_NEWEST) (c5 : ∀ k ∈ eventRegs 416, b.regs k) (c6 : b.regs O1A.EVU_FLAGS) (c7 : ∀ w0, b.regs (O1C.SESS_QUEUE w0)) (c8 : ∀ k ∈ eventRegs 451, b.regs k) (c9 : b.regs O1C.FILULO_FLAGS) (c10 : ∀ k ∈ eventRegs 417, b.regs k) (hp0 : Within b p0) : Within b (State.routeRecords p0) := by
  unfold State.routeRecords
  extract_lets -merge -useContext -underBinder x1 x2 x3 x4 x5
  have hx4 : Within b x4 := by
    unfold x4
    refine Within.f_evu (s := p0) qevu (fun i => i) ?_
    exact hp0
  try clear_value x4
  have hx5 : Within b x5 := by
    unfold x5
    refine State.sendMsi_within qsent ?_
    refine State.forEach_within ?_ ?_
    · exact hx4
    · intro u6 u7 hu6
      refine State.routeRecord_within qsent qevu qsess qmail c4 c5 c6 c7 c8 c9 ?_
      exact hu6
  try clear_value x5
  refine ite_elim (P := Within b) ?_ ?_
  · exact hx5
  · refine State.raise_within qevu c10 ?_
    exact hx5

end Sys2Proof.Machine
end

