-- ==== Sys2Proof/Laws/WithinJobs.lean ====
section
/-! SUPPORT. What each operation of Machine/Jobs.lean may change at most (Laws/Within.lean). -/

set_option maxRecDepth 8000

namespace Sys2Proof.Machine

theorem State.noteJob_within {b : Bounds} {p0 p1} (qsent : b.parts .sent) (qevu : b.parts .evu) (qsess : b.parts .sess) (qmail : b.parts .mail) (c4 : ∀ w0, b.regs (O1C.SESS_QUEUE w0)) (c5 : ∀ k ∈ eventRegs 451, b.regs k) (c6 : b.regs O1C.FILULO_FLAGS) (hp0 : Within b p0) : Within b (State.noteJob p0 p1) := by
  unfold State.noteJob
  extract_lets -merge -useContext -underBinder x1
  refine ite_elim (P := Within b) ?_ ?_
  · refine State.note_within qsent qevu qsess qmail (c4 _) c5 c6 ?_
    exact hp0
  · exact hp0

theorem State.countJobs_within {b : Bounds} {p0} (c0 : b.regs O1B.JOBS_QUEUED) (c1 : b.regs O1B.JOBS_RUNNING) (hp0 : Within b p0) : Within b (State.countJobs p0) := by
  unfold State.countJobs
  refine State.setN_within c0 ?_
  refine State.setN_within c1 ?_
  exact hp0

theorem State.setJob_within {b : Bounds} {p0 p1 p2} (qjobs : b.parts .jobs) (hp0 : Within b p0) : Within b (State.setJob p0 p1 p2) := by
  unfold State.setJob
  refine Within.f_jobs (s := p0) qjobs ?_
  exact hp0

theorem State.runJob_within {b : Bounds} {p0 p1 p2} (qsent : b.parts .sent) (qevu : b.parts .evu) (qsess : b.parts .sess) (qmail : b.parts .mail) (c4 : ∀ w0, b.regs (O1C.SESS_QUEUE w0)) (c5 : ∀ k ∈ eventRegs 451, b.regs k) (c6 : b.regs O1C.FILULO_FLAGS) (c7 : ∀ k ∈ eventRegs p2, b.regs k) (c8 : b.regs O1B.JOBS_QUEUED) (c9 : b.regs O1B.JOBS_RUNNING) (c10 : b.regs (O1B.JOB_STARTED p1)) (c11 : b.regs (O1B.JOB_STATE p1)) (hp0 : Within b p0) : Within b (State.runJob p0 p1 p2) := by
  unfold State.runJob
  refine State.noteJob_within qsent qevu qsess qmail c4 c5 c6 ?_
  refine State.raise_within qevu c7 ?_
  refine State.countJobs_within c8 c9 ?_
  refine State.setN_within c10 ?_
  refine State.setN_within c11 ?_
  exact hp0

theorem State.promoteJob_within {b : Bounds} {p0} (qsent : b.parts .sent) (qevu : b.parts .evu) (qsess : b.parts .sess) (qmail : b.parts .mail) (c4 : b.regs O1B.JOBS_QUEUED) (c5 : b.regs O1B.JOBS_RUNNING) (c6 : ∀ w0, b.regs (O1C.SESS_QUEUE w0)) (c7 : ∀ k ∈ eventRegs 451, b.regs k) (c8 : b.regs O1C.FILULO_FLAGS) (c9 : ∀ k ∈ eventRegs 432, b.regs k) (c10 : ∀ w0, b.regs (O1B.JOB_STARTED w0)) (c11 : ∀ w0, b.regs (O1B.JOB_STATE w0)) (hp0 : Within b p0) : Within b (State.promoteJob p0) := by
  unfold State.promoteJob
  extract_lets -merge -useContext -underBinder x1
  have hx1 : Within b x1 := by
    unfold x1
    refine State.countJobs_within c4 c5 ?_
    exact hp0
  try clear_value x1
  refine ite_elim (P := Within b) ?_ ?_
  · split
    · refine State.runJob_within qsent qevu qsess qmail c6 c7 c8 c9 c4 c5 (c10 _) (c11 _) ?_
      exact hx1
    · exact hx1
  · exact hx1

theorem State.startJob_within {b : Bounds} {p0 p1 p2 p3 p4 p5} (qsent : b.parts .sent) (qevu : b.parts .evu) (qsess : b.parts .sess) (qmail : b.parts .mail) (qjobs : b.parts .jobs) (c5 : ∀ w0, b.regs (O1B.JOB_ENDED w0)) (c6 : ∀ w0, b.regs (O1B.JOB_RESULT w0)) (c7 : ∀ w0, b.regs (O1B.JOB_OWNER w0)) (c8 : ∀ w0, b.regs (O1B.JOB_PROGRESS w0)) (c9 : ∀ w0, b.regs (O1B.JOB_STATUS w0)) (c10 : ∀ w0, b.regs (O1B.JOB_OBJECT w0)) (c11 : ∀ w0, b.regs (O1C.SESS_QUEUE w0)) (c12 : ∀ k ∈ eventRegs 451, b.regs k) (c13 : b.regs O1C.FILULO_FLAGS) (c14 : ∀ k ∈ eventRegs 432, b.regs k) (c15 : b.regs O1B.JOBS_QUEUED) (c16 : b.regs O1B.JOBS_RUNNING) (c17 : ∀ w0, b.regs (O1B.JOB_STARTED w0)) (c18 : ∀ w0, b.regs (O1B.JOB_STATE w0)) (hp0 : Within b p0) : Within1 b (State.startJob p0 p1 p2 p3 p4 p5) := by
  unfold State.startJob
  split
  · refine within1_mk ?_
    exact hp0
  · refine within1_mk ?_
    exact hp0
  · extract_lets -merge -useContext -underBinder x1 x2 x3
    have hx3 : Within b x3 := by
      unfold x3
      refine State.setN_within (c5 _) ?_
      refine State.setBytes_within (c6 _) ?_
      refine State.setN_within (c7 _) ?_
      refine State.setN_within (c8 _) ?_
      refine State.setN_within (c9 _) ?_
      refine State.setN_within (c10 _) ?_
      refine State.setJob_within qjobs ?_
      exact hp0
    try clear_value x3
    refine ite_elim (P := Within1 b) ?_ ?_
    · refine within1_mk ?_
      refine State.runJob_within qsent qevu qsess qmail c11 c12 c13 c14 c15 c16 (c17 _) (c18 _) ?_
      exact hx3
    · refine within1_mk ?_
      refine State.noteJob_within qsent qevu qsess qmail c11 c12 c13 ?_
      refine State.countJobs_within c15 c16 ?_
      refine State.setN_within (c18 _) ?_
      exact hx3

theorem State.endJob_within {b : Bounds} {p0 p1 p2 p3} (qsent : b.parts .sent) (qevu : b.parts .evu) (qsess : b.parts .sess) (qmail : b.parts .mail) (qjobs : b.parts .jobs) (c5 : b.regs (O1B.JOB_ENDED p1)) (c6 : b.regs (O1B.JOB_STATUS p1)) (c7 : b.regs (O1B.JOB_RESULT p1)) (c8 : b.regs (O1B.JOB_PROGRESS p1)) (c9 : b.regs O1B.JOBS_QUEUED) (c10 : b.regs O1B.JOBS_RUNNING) (c11 : ∀ w0, b.regs (O1C.SESS_QUEUE w0)) (c12 : b.regs O1C.FILULO_FLAGS) (c13 : ∀ w0, b.regs (O1B.JOB_STARTED w0)) (c14 : ∀ w0, b.regs (O1B.JOB_STATE w0)) (c15 : ∀ w0, ∀ k ∈ eventRegs w0, b.regs k) (hp0 : Within b p0) : Within b (State.endJob p0 p1 p2 p3) := by
  unfold State.endJob
  extract_lets -merge -useContext -underBinder x1 x2 x3 x4 x5
  have hx2 : Within b x2 := by
    unfold x2
    refine State.setJob_within qjobs ?_
    exact hp0
  try clear_value x2
  have hx3 : Within b x3 := by
    unfold x3
    refine State.setN_within c5 ?_
    refine State.setN_within c6 ?_
    refine State.setN_within (c14 _) ?_
    exact hx2
  try clear_value x3
  have hx4 : Within b x4 := by
    unfold x4
    refine ite_elim (P := Within b) ?_ ?_
    · exact hx3
    · refine State.setBytes_within c7 ?_
      exact hx3
  try clear_value x4
  have hx5 : Within b x5 := by
    unfold x5
    refine ite_elim (P := Within b) ?_ ?_
    · refine State.setN_within c8 ?_
      exact hx4
    · exact hx4
  try clear_value x5
  refine State.promoteJob_within qsent qevu qsess qmail c9 c10 c11 (c15 _) c12 (c15 _) c13 c14 ?_
  refine State.noteJob_within qsent qevu qsess qmail c11 (c15 _) c12 ?_
  refine State.raise_within qevu (c15 _) ?_
  exact hx5

theorem State.offerJob_within {b : Bounds} {p0 p1 p2 p3} (qjobs : b.parts .jobs) (c1 : b.regs (O1B.JOB_RESULT p1)) (hp0 : Within b p0) : Within b (State.offerJob p0 p1 p2 p3) := by
  unfold State.offerJob
  split
  · refine State.setBytes_within c1 ?_
    refine State.setJob_within qjobs ?_
    exact hp0
  · exact hp0

theorem State.suspendJob_within {b : Bounds} {p0 p1} (qsent : b.parts .sent) (qevu : b.parts .evu) (qsess : b.parts .sess) (qmail : b.parts .mail) (qjobs : b.parts .jobs) (c5 : b.regs (O1B.JOB_STATUS p1)) (c6 : b.regs O1B.JOBS_QUEUED) (c7 : b.regs O1B.JOBS_RUNNING) (c8 : ∀ w0, b.regs (O1C.SESS_QUEUE w0)) (c9 : ∀ k ∈ eventRegs 451, b.regs k) (c10 : b.regs O1C.FILULO_FLAGS) (c11 : ∀ k ∈ eventRegs 432, b.regs k) (c12 : ∀ w0, b.regs (O1B.JOB_STARTED w0)) (c13 : ∀ w0, b.regs (O1B.JOB_STATE w0)) (c14 : ∀ k ∈ eventRegs 433, b.regs k) (hp0 : Within b p0) : Within b (State.suspendJob p0 p1) := by
  unfold State.suspendJob
  split
  · exact hp0
  · extract_lets -merge -useContext -underBinder x1
    have hx1 : Within b x1 := by
      unfold x1
      refine State.setN_within c5 ?_
      refine State.setN_within (c13 _) ?_
      refine State.setJob_within qjobs ?_
      exact hp0
    try clear_value x1
    refine State.promoteJob_within qsent qevu qsess qmail c6 c7 c8 c9 c10 c11 c12 c13 ?_
    refine State.noteJob_within qsent qevu qsess qmail c8 c9 c10 ?_
    refine State.raise_within qevu c14 ?_
    exact hx1

theorem State.freeJob_within {b : Bounds} {p0 p1} (qjobs : b.parts .jobs) (c1 : b.regs (O1B.JOB_RESULT p1)) (c2 : b.regs (O1B.JOB_OWNER p1)) (c3 : b.regs (O1B.JOB_ENDED p1)) (c4 : b.regs (O1B.JOB_STARTED p1)) (c5 : b.regs (O1B.JOB_PROGRESS p1)) (c6 : b.regs (O1B.JOB_STATUS p1)) (c7 : b.regs (O1B.JOB_OBJECT p1)) (c8 : b.regs (O1B.JOB_STATE p1)) (hp0 : Within b p0) : Within b (State.freeJob p0 p1) := by
  unfold State.freeJob
  extract_lets -merge -useContext -underBinder x1
  have hx1 : Within b x1 := by
    unfold x1
    refine Within.f_jobs (s := p0) qjobs ?_
    exact hp0
  try clear_value x1
  refine State.clearObj_within c1 ?_
  refine State.clearObj_within c2 ?_
  refine State.clearObj_within c3 ?_
  refine State.clearObj_within c4 ?_
  refine State.clearObj_within c5 ?_
  refine State.clearObj_within c6 ?_
  refine State.clearObj_within c7 ?_
  refine State.clearObj_within c8 ?_
  exact hx1

end Sys2Proof.Machine
end

