-- ==== Sys2Proof/Laws/WithinLanes.lean ====
section
/-! SUPPORT. What each operation of Machine/Lanes.lean may change at most (Laws/Within.lean). -/

set_option maxRecDepth 8000

namespace Sys2Proof.Machine

theorem State.setLane_within {b : Bounds} {p0 p1 p2} (qlanes : b.parts .lanes) (hp0 : Within b p0) : Within b (State.setLane p0 p1 p2) := by
  unfold State.setLane
  refine Within.f_lanes (s := p0) qlanes ?_
  exact hp0

theorem State.laneTx_within {b : Bounds} {p0 p1} (c0 : b.regs (O11.TX_STATE p1)) (hp0 : Within b p0) : Within b (State.laneTx p0 p1) := by
  unfold State.laneTx
  extract_lets -merge -useContext -underBinder x1 x2 x3
  refine State.setN_within c0 ?_
  exact hp0

theorem State.outSquelch_within {b : Bounds} {p0 p1} (qevu : b.parts .evu) (c1 : b.regs (O07.OUT_STATE p1)) (c2 : b.regs (O07.SQUELCH_CAUSE p1)) (c3 : ∀ k ∈ eventRegs 112, b.regs k) (c4 : b.regs (O07.OUT_FLAGS p1)) (c5 : b.regs (O0C.EMBED_STATE (3328 + p1))) (c6 : ∀ w0, b.regs (O11.TX_STATE w0)) (hp0 : Within b p0) : Within b (State.outSquelch p0 p1) := by
  unfold State.outSquelch
  extract_lets -merge -useContext -underBinder x1 x2 x3 x4
  have hx3 : Within b x3 := by
    unfold x3
    refine State.setN_within c1 ?_
    refine State.setN_within c2 ?_
    exact hp0
  try clear_value x3
  have hx4 : Within b x4 := by
    unfold x4
    refine ite_elim (P := Within b) ?_ ?_
    · refine State.raise_within qevu c3 ?_
      refine State.flag_within c4 ?_
      exact hx3
    · exact hx3
  try clear_value x4
  refine ite_elim (P := Within b) ?_ ?_
  · exact hp0
  · refine State.forEach_within ?_ ?_
    · refine State.setN_within c5 ?_
      exact hx4
    · intro u5 u6 hu5
      refine State.laneTx_within (c6 _) ?_
      exact hu5

theorem State.lanePllLost_within {b : Bounds} {p0 p1} (qevu : b.parts .evu) (qlanes : b.parts .lanes) (c2 : ∀ w0, b.regs (O07.OUT_STATE w0)) (c3 : ∀ w0, b.regs (O07.SQUELCH_CAUSE w0)) (c4 : ∀ k ∈ eventRegs 112, b.regs k) (c5 : ∀ w0, b.regs (O07.OUT_FLAGS w0)) (c6 : ∀ w0, b.regs (O0C.EMBED_STATE w0)) (c7 : ∀ w0, b.regs (O11.TX_STATE w0)) (hp0 : Within b p0) : Within b (State.lanePllLost p0 p1) := by
  unfold State.lanePllLost
  extract_lets -merge -useContext -underBinder x1 x2
  have hx2 : Within b x2 := by
    unfold x2
    refine State.setLane_within qlanes ?_
    exact hp0
  try clear_value x2
  refine State.laneTx_within (c7 _) ?_
  refine ite_elim (P := Within b) ?_ ?_
  · refine State.outSquelch_within qevu (c2 _) (c3 _) c4 (c5 _) (c6 _) c7 ?_
    exact hx2
  · exact hx2

theorem State.laneSearch_within {b : Bounds} {p0 p1} (qlanes : b.parts .lanes) (c1 : b.regs (O11.CHK_STATE p1)) (hp0 : Within b p0) : Within b (State.laneSearch p0 p1) := by
  unfold State.laneSearch
  extract_lets -merge -useContext -underBinder x1 x2
  have hx2 : Within b x2 := by
    unfold x2
    refine State.setLane_within qlanes ?_
    exact hp0
  try clear_value x2
  refine ite_elim (P := Within b) ?_ ?_
  · refine State.setN_within c1 ?_
    exact hx2
  · exact hx2

theorem State.laneStart_within {b : Bounds} {p0 p1 p2} (qlanes : b.parts .lanes) (hp0 : Within b p0) : Within b (State.laneStart p0 p1 p2) := by
  unfold State.laneStart
  extract_lets -merge -useContext -underBinder x1 x2 x3
  refine State.setLane_within qlanes ?_
  exact hp0

theorem State.laneAdapt_within {b : Bounds} {p0 p1 p2} (qlanes : b.parts .lanes) (c1 : b.regs (O11.RX_STATE p1)) (hp0 : Within b p0) : Within b (State.laneAdapt p0 p1 p2) := by
  unfold State.laneAdapt
  extract_lets -merge -useContext -underBinder x1 x2
  have hx1 : Within b x1 := by
    unfold x1
    refine State.laneStart_within qlanes ?_
    refine State.setN_within c1 ?_
    exact hp0
  try clear_value x1
  refine State.setLane_within qlanes ?_
  exact hx1

theorem State.abortScan_within {b : Bounds} {p0 p1} (qsent : b.parts .sent) (qevu : b.parts .evu) (qsess : b.parts .sess) (qmail : b.parts .mail) (qjobs : b.parts .jobs) (c5 : ∀ w0, b.regs (O1B.JOB_ENDED w0)) (c6 : ∀ w0, b.regs (O1B.JOB_STATUS w0)) (c7 : ∀ w0, b.regs (O1B.JOB_RESULT w0)) (c8 : ∀ w0, b.regs (O1B.JOB_PROGRESS w0)) (c9 : b.regs O1B.JOBS_QUEUED) (c10 : b.regs O1B.JOBS_RUNNING) (c11 : ∀ w0, b.regs (O1C.SESS_QUEUE w0)) (c12 : b.regs O1C.FILULO_FLAGS) (c13 : ∀ w0, b.regs (O1B.JOB_STARTED w0)) (c14 : ∀ w0, b.regs (O1B.JOB_STATE w0)) (c15 : ∀ w0, ∀ k ∈ eventRegs w0, b.regs k) (hp0 : Within b p0) : Within b (State.abortScan p0 p1) := by
  unfold State.abortScan
  split
  · refine ite_elim (P := Within b) ?_ ?_
    · exact hp0
    · refine State.endJob_within qsent qevu qsess qmail qjobs (c5 _) (c6 _) (c7 _) (c8 _) c9 c10 c11 c12 c13 c14 c15 ?_
      exact hp0
  · exact hp0

theorem State.laneLost_within {b : Bounds} {p0 p1 p2} (qsent : b.parts .sent) (qevu : b.parts .evu) (qsess : b.parts .sess) (qmail : b.parts .mail) (qjobs : b.parts .jobs) (qlanes : b.parts .lanes) (c6 : ∀ (w0 : ℕ), b.regs (O1B.JOB_ENDED w0)) (c7 : ∀ (w0 : ℕ), b.regs (O1B.JOB_STATUS w0)) (c8 : ∀ (w0 : ℕ), b.regs (O1B.JOB_RESULT w0)) (c9 : ∀ (w0 : ℕ), b.regs (O1B.JOB_PROGRESS w0)) (c10 : b.regs O1B.JOBS_QUEUED) (c11 : b.regs O1B.JOBS_RUNNING) (c12 : ∀ (w0 : ℕ), b.regs (O1C.SESS_QUEUE w0)) (c13 : b.regs O1C.FILULO_FLAGS) (c14 : ∀ (w0 : ℕ), b.regs (O1B.JOB_STARTED w0)) (c15 : ∀ (w0 : ℕ), b.regs (O1B.JOB_STATE w0)) (c16 : ∀ (w0 : ℕ), ∀ k ∈ eventRegs w0, b.regs k) (c17 : b.regs (O11.LANE_FLAGS p1)) (c18 : b.regs (O11.RX_LOCK_LOSSES p1)) (c19 : b.regs (O11.RX_STATE p1)) (hp0 : Within b p0) : Within b (State.laneLost p0 p1 p2) := by
  unfold State.laneLost
  refine ite_elim (P := Within b) ?_ ?_
  · refine State.abortScan_within qsent qevu qsess qmail qjobs c6 c7 c8 c9 c10 c11 c12 c13 c14 c15 c16 ?_
    refine State.raise_within qevu (c16 _) ?_
    refine State.flag_within c17 ?_
    refine State.bump_within c18 ?_
    refine ite_elim (P := Within b) ?_ ?_
    · refine State.laneAdapt_within qlanes c19 ?_
      exact hp0
    · refine State.setN_within c19 ?_
      exact hp0
  · refine ite_elim (P := Within b) ?_ ?_
    · refine State.setN_within c19 ?_
      exact hp0
    · exact hp0

theorem State.countBits_within {b : Bounds} {p0 p1 p2 p3} (qevu : b.parts .evu) (qlanes : b.parts .lanes) (c2 : b.regs (O11.TOTAL_BITS p1)) (c3 : b.regs (O11.ERR_BITS p1)) (c4 : ∀ k ∈ eventRegs 279, b.regs k) (c5 : b.regs (O11.LANE_FLAGS p1)) (hp0 : Within b p0) : Within b (State.countBits p0 p1 p2 p3) := by
  unfold State.countBits
  extract_lets -merge -useContext -underBinder x1 x2 x3 x4
  have hx2 : Within b x2 := by
    unfold x2
    refine State.setN_within c2 ?_
    refine State.setN_within c3 ?_
    exact hp0
  try clear_value x2
  have hx4 : Within b x4 := by
    unfold x4
    refine State.setLane_within qlanes ?_
    exact hx2
  try clear_value x4
  refine ite_elim (P := Within b) ?_ ?_
  · refine State.raise_within qevu c4 ?_
    refine State.flag_within c5 ?_
    exact hx4
  · exact hx4

theorem State.reportWindow_within {b : Bounds} {p0 p1 p2 p3 p4} (qevu : b.parts .evu) (c1 : b.regs (O11.WIN_BITS p1)) (c2 : b.regs (O11.WIN_ERR p1)) (c3 : b.regs (O11.LANE_FLAGS p1)) (c4 : ∀ k ∈ eventRegs 278, b.regs k) (hp0 : Within b p0) : Within b (State.reportWindow p0 p1 p2 p3 p4) := by
  unfold State.reportWindow
  extract_lets -merge -useContext -underBinder x1 x2
  have hx1 : Within b x1 := by
    unfold x1
    refine State.setN_within c1 ?_
    refine State.setN_within c2 ?_
    exact hp0
  try clear_value x1
  have hx2 : Within b x2 := by
    unfold x2
    refine ite_elim (P := Within b) ?_ ?_
    · refine State.flag_within c3 ?_
      exact hx1
    · exact hx1
  try clear_value x2
  refine ite_elim (P := Within b) ?_ ?_
  · refine State.raise_within qevu c4 ?_
    refine State.flag_within c3 ?_
    exact hx2
  · exact hx2

theorem State.endWindow_within {b : Bounds} {p0 p1} (qlanes : b.parts .lanes) (qevu : b.parts .evu) (c2 : b.regs (O11.WIN_BITS p1)) (c3 : b.regs (O11.WIN_ERR p1)) (c4 : b.regs (O11.LANE_FLAGS p1)) (c5 : ∀ k ∈ eventRegs 278, b.regs k) (hp0 : Within b p0) : Within b (State.endWindow p0 p1) := by
  unfold State.endWindow
  extract_lets -merge -useContext -underBinder x1 x2 x3 x4
  have hx3 : Within b x3 := by
    unfold x3
    refine State.setLane_within qlanes ?_
    exact hp0
  try clear_value x3
  refine ite_elim (P := Within b) ?_ ?_
  · refine State.setLane_within qlanes ?_
    exact hx3
  · refine State.reportWindow_within qevu c2 c3 c4 c5 ?_
    exact hx3

theorem State.eqSample_within {b : Bounds} {p0 p1} (qlanes : b.parts .lanes) (c1 : b.regs (O11.DFE_NOW p1)) (c2 : b.regs (O11.CTLE_NOW p1)) (hp0 : Within b p0) : Within b (State.eqSample p0 p1) := by
  unfold State.eqSample
  split
  · exact hp0
  · extract_lets -merge -useContext -underBinder x1 x2
    refine State.setBytes_within c1 ?_
    refine State.setN_within c2 ?_
    refine State.setLane_within qlanes ?_
    exact hp0

theorem State.laneMode_within {b : Bounds} {p0 p1 p2} (qsent : b.parts .sent) (qevu : b.parts .evu) (qsess : b.parts .sess) (qmail : b.parts .mail) (qjobs : b.parts .jobs) (qlanes : b.parts .lanes) (c6 : ∀ w0, b.regs (O1B.JOB_ENDED w0)) (c7 : ∀ w0, b.regs (O1B.JOB_STATUS w0)) (c8 : ∀ w0, b.regs (O1B.JOB_RESULT w0)) (c9 : ∀ w0, b.regs (O1B.JOB_PROGRESS w0)) (c10 : b.regs O1B.JOBS_QUEUED) (c11 : b.regs O1B.JOBS_RUNNING) (c12 : ∀ w0, b.regs (O1C.SESS_QUEUE w0)) (c13 : b.regs O1C.FILULO_FLAGS) (c14 : ∀ w0, b.regs (O1B.JOB_STARTED w0)) (c15 : ∀ w0, b.regs (O1B.JOB_STATE w0)) (c16 : ∀ w0, ∀ k ∈ eventRegs w0, b.regs k) (c17 : b.regs (O11.LANE_RATE p1)) (c18 : b.regs (O11.RX_STATE p1)) (c19 : b.regs (O11.CHK_STATE p1)) (c20 : b.regs (O11.ELASTIC_FILL p1)) (c21 : b.regs (O11.ELASTIC_SLIPS p1)) (c22 : b.regs (O11.FILLER_INSERTED p1)) (c23 : b.regs (O11.FILLER_DELETED p1)) (c24 : b.regs (O11.TX_STATE p1)) (hp0 : Within b p0) : Within b (State.laneMode p0 p1 p2) := by
  unfold State.laneMode
  extract_lets -merge -useContext -underBinder x1 x2 x3 x4 x5 x6
  have hx3 : Within b x3 := by
    unfold x3
    refine State.abortScan_within qsent qevu qsess qmail qjobs c6 c7 c8 c9 c10 c11 c12 c13 c14 c15 c16 ?_
    refine State.setLane_within qlanes ?_
    exact hp0
  try clear_value x3
  have hx4 : Within b x4 := by
    unfold x4
    refine State.setN_within c17 ?_
    refine State.setN_within c18 ?_
    exact hx3
  try clear_value x4
  have hx5 : Within b x5 := by
    unfold x5
    refine State.setN_within c19 ?_
    exact hx4
  try clear_value x5
  have hx6 : Within b x6 := by
    unfold x6
    refine ite_elim (P := Within b) ?_ ?_
    · exact hx5
    · refine State.setN_within c20 ?_
      refine State.setN_within c21 ?_
      refine State.setN_within c22 ?_
      refine State.setN_within c23 ?_
      exact hx5
  try clear_value x6
  refine State.laneTx_within c24 ?_
  exact hx6

theorem State.eqWritten_within {b : Bounds} {p0 p1} (qlanes : b.parts .lanes) (hp0 : Within b p0) : Within b (State.eqWritten p0 p1) := by
  unfold State.eqWritten
  refine ite_elim (P := Within b) ?_ ?_
  · refine State.laneStart_within qlanes ?_
    exact hp0
  · exact hp0

theorem State.lanesApplied_within {b : Bounds} {p0 p1} (qsent : b.parts .sent) (qevu : b.parts .evu) (qsess : b.parts .sess) (qmail : b.parts .mail) (qjobs : b.parts .jobs) (qlanes : b.parts .lanes) (c6 : ∀ (w0 : ℕ), b.regs (O1B.JOB_ENDED w0)) (c7 : ∀ (w0 : ℕ), b.regs (O1B.JOB_STATUS w0)) (c8 : ∀ (w0 : ℕ), b.regs (O1B.JOB_RESULT w0)) (c9 : ∀ (w0 : ℕ), b.regs (O1B.JOB_PROGRESS w0)) (c10 : b.regs O1B.JOBS_QUEUED) (c11 : b.regs O1B.JOBS_RUNNING) (c12 : ∀ (w0 : ℕ), b.regs (O1C.SESS_QUEUE w0)) (c13 : b.regs O1C.FILULO_FLAGS) (c14 : ∀ (w0 : ℕ), b.regs (O1B.JOB_STARTED w0)) (c15 : ∀ (w0 : ℕ), b.regs (O1B.JOB_STATE w0)) (c16 : ∀ (w0 : ℕ), ∀ k ∈ eventRegs w0, b.regs k) (c17 : ∀ (w0 : ℕ), b.regs (O11.LANE_RATE w0)) (c18 : ∀ (w0 : ℕ), b.regs (O11.RX_STATE w0)) (c19 : ∀ (w0 : ℕ), b.regs (O11.CHK_STATE w0)) (c20 : ∀ (w0 : ℕ), b.regs (O11.ELASTIC_FILL w0)) (c21 : ∀ (w0 : ℕ), b.regs (O11.ELASTIC_SLIPS w0)) (c22 : ∀ (w0 : ℕ), b.regs (O11.FILLER_INSERTED w0)) (c23 : ∀ (w0 : ℕ), b.regs (O11.FILLER_DELETED w0)) (c24 : ∀ (w0 : ℕ), b.regs (O11.TX_STATE w0)) (c25 : ∀ (w0 : ℕ), b.regs (O11.LANE_MODE w0)) (c26 : ∀ (w0 : ℕ), b.regs (O11.LANE_LREF w0)) (hp0 : Within b p0) : Within b (State.lanesApplied p0 p1) := by
  unfold State.lanesApplied
  extract_lets -merge -useContext -underBinder x1
  split
  · extract_lets -merge -useContext -underBinder x2 x3 x4 x5 x6
    have hx5 : Within b x5 := by
      unfold x5
      refine State.forEach_within ?_ ?_
      · exact hp0
      · intro u7 u8 hu9
        try beta_reduce
        refine State.laneMode_within qsent qevu qsess qmail qjobs qlanes c6 c7 c8 c9 c10 c11 c12 c13 c14 c15 c16 (c17 _) (c18 _) (c19 _) (c20 _) (c21 _) (c22 _) (c23 _) (c24 _) ?_
        refine State.setN_within (c25 _) ?_
        exact hu9
    try clear_value x5
    have hx6 : Within b x6 := by
      unfold x6
      refine State.laneMode_within qsent qevu qsess qmail qjobs qlanes c6 c7 c8 c9 c10 c11 c12 c13 c14 c15 c16 (c17 _) (c18 _) (c19 _) (c20 _) (c21 _) (c22 _) (c23 _) (c24 _) ?_
      exact hx5
    try clear_value x6
    refine State.forEach_within ?_ ?_
    · exact hx6
    · intro u10 u11 hu12
      try beta_reduce
      refine State.laneMode_within qsent qevu qsess qmail qjobs qlanes c6 c7 c8 c9 c10 c11 c12 c13 c14 c15 c16 (c17 _) (c18 _) (c19 _) (c20 _) (c21 _) (c22 _) (c23 _) (c24 _) ?_
      refine State.setN_within (c25 _) ?_
      exact hu12
  · refine State.forEach_within ?_ ?_
    · exact hp0
    · intro u13 u14 hu15
      try beta_reduce
      refine State.setN_within (c26 _) ?_
      exact hu15
  · refine State.abortScan_within qsent qevu qsess qmail qjobs c6 c7 c8 c9 c10 c11 c12 c13 c14 c15 c16 ?_
    exact hp0
  · refine State.eqWritten_within qlanes ?_
    refine State.abortScan_within qsent qevu qsess qmail qjobs c6 c7 c8 c9 c10 c11 c12 c13 c14 c15 c16 ?_
    exact hp0
  · refine State.eqWritten_within qlanes ?_
    exact hp0
  · refine State.eqWritten_within qlanes ?_
    exact hp0
  · refine ite_elim (P := Within b) ?_ ?_
    · refine State.laneMode_within qsent qevu qsess qmail qjobs qlanes c6 c7 c8 c9 c10 c11 c12 c13 c14 c15 c16 (c17 _) (c18 _) (c19 _) (c20 _) (c21 _) (c22 _) (c23 _) (c24 _) ?_
      exact hp0
    · exact hp0
  · extract_lets -merge -useContext -underBinder x16
    refine ite_elim (P := Within b) ?_ ?_
    · refine State.setN_within (c19 _) ?_
      refine State.setLane_within qlanes ?_
      exact hp0
    · exact hp0
  · exact hp0

theorem State.laneSeam_within {b : Bounds} {p0} (qlanes : b.parts .lanes) (qevu : b.parts .evu) (c2 : ∀ (w0 : ℕ), b.regs (O11.WIN_BITS w0)) (c3 : ∀ (w0 : ℕ), b.regs (O11.WIN_ERR w0)) (c4 : ∀ (w0 : ℕ), b.regs (O11.LANE_FLAGS w0)) (c5 : ∀ k ∈ eventRegs 278, b.regs k) (c6 : ∀ (w0 : ℕ), b.regs (O11.TOTAL_BITS w0)) (c7 : ∀ (w0 : ℕ), b.regs (O11.ERR_BITS w0)) (c8 : ∀ (w0 : ℕ), b.regs (O11.DFE_NOW w0)) (c9 : ∀ (w0 : ℕ), b.regs (O11.CTLE_NOW w0)) (c10 : ∀ (w0 : ℕ), b.regs (O11.ELASTIC_FILL w0)) (hp0 : Within b p0) : Within b (State.laneSeam p0) := by
  unfold State.laneSeam
  refine State.forEach_within ?_ ?_
  · exact hp0
  · intro u1 u2 hu3
    try beta_reduce
    extract_lets -merge -useContext -underBinder x4 x5 x6 x7 x8 x9 x10
    have hx5 : Within b x5 := by
      unfold x5
      refine ite_elim (P := Within b) ?_ ?_
      · exact hu3
      · refine State.forEach_within ?_ ?_
        · refine State.setLane_within qlanes ?_
          exact hu3
        · intro u11 u12 hu13
          try beta_reduce
          refine State.reportWindow_within qevu (c2 _) (c3 _) (c4 _) c5 ?_
          exact hu13
    try clear_value x5
    have hx6 : Within b x6 := by
      unfold x6
      refine ite_elim (P := Within b) ?_ ?_
      · refine State.endWindow_within qlanes qevu (c2 _) (c3 _) (c4 _) c5 ?_
        exact hx5
      · exact hx5
    try clear_value x6
    have hx8 : Within b x8 := by
      unfold x8
      refine ite_elim (P := Within b) ?_ ?_
      · refine State.setN_within (c6 _) ?_
        refine State.setN_within (c7 _) ?_
        refine State.setLane_within qlanes ?_
        exact hx6
      · exact hx5
    try clear_value x8
    have hx9 : Within b x9 := by
      unfold x9
      refine State.eqSample_within qlanes (c8 _) (c9 _) ?_
      exact hx8
    try clear_value x9
    refine ite_elim (P := Within b) ?_ ?_
    · refine State.setN_within (c10 _) ?_
      exact hx9
    · exact hx9

theorem State.actChkRestart_within {b : Bounds} {p0 p1} (qlanes : b.parts .lanes) (hp0 : Within b p0) : Within b (State.actChkRestart p0 p1) := by
  unfold State.actChkRestart
  extract_lets -merge -useContext -underBinder x1
  refine State.setLane_within qlanes ?_
  exact hp0

theorem State.startEyeScan_within {b : Bounds} {p0 p1 p2 p3} (qsent : b.parts .sent) (qevu : b.parts .evu) (qsess : b.parts .sess) (qmail : b.parts .mail) (qjobs : b.parts .jobs) (c5 : ∀ w0, b.regs (O1B.JOB_ENDED w0)) (c6 : ∀ w0, b.regs (O1B.JOB_RESULT w0)) (c7 : ∀ w0, b.regs (O1B.JOB_OWNER w0)) (c8 : ∀ w0, b.regs (O1B.JOB_PROGRESS w0)) (c9 : ∀ w0, b.regs (O1B.JOB_STATUS w0)) (c10 : ∀ w0, b.regs (O1B.JOB_OBJECT w0)) (c11 : ∀ w0, b.regs (O1C.SESS_QUEUE w0)) (c12 : ∀ k ∈ eventRegs 451, b.regs k) (c13 : b.regs O1C.FILULO_FLAGS) (c14 : ∀ k ∈ eventRegs 432, b.regs k) (c15 : b.regs O1B.JOBS_QUEUED) (c16 : b.regs O1B.JOBS_RUNNING) (c17 : ∀ w0, b.regs (O1B.JOB_STARTED w0)) (c18 : ∀ w0, b.regs (O1B.JOB_STATE w0)) (hp0 : Within b p0) : Within1 b (State.startEyeScan p0 p1 p2 p3) := by
  unfold State.startEyeScan
  extract_lets -merge -useContext -underBinder x1 x2
  refine ite_elim (P := Within1 b) ?_ ?_
  · refine within1_mk ?_
    exact hp0
  · refine ite_elim (P := Within1 b) ?_ ?_
    · refine within1_mk ?_
      exact hp0
    · refine State.startJob_within qsent qevu qsess qmail qjobs c5 c6 c7 c8 c9 c10 c11 c12 c13 c14 c15 c16 c17 c18 ?_
      exact hp0

theorem execRxSignalDetect_within {b : Bounds} {p0 p1} (qlanes : b.parts .lanes) (c1 : b.regs (O11.RX_STATE p0)) (hp1 : Within b p1) : WithinOut b (execRxSignalDetect p0 p1) := by
  unfold execRxSignalDetect
  refine onInst_within ?_ ?_
  · exact hp1
  · intro u1 hu2
    try beta_reduce
    refine ite_elim (P := Within b) ?_ ?_
    · refine State.laneAdapt_within qlanes c1 ?_
      exact hu2
    · exact hu2

theorem execRxLocked_within {b : Bounds} {p0 p1 p2 p3} (qevu : b.parts .evu) (qlanes : b.parts .lanes) (c2 : ∀ k ∈ eventRegs 272, b.regs k) (c3 : b.regs (O11.RX_STATE p0)) (hp3 : Within b p3) : WithinOut b (execRxLocked p0 p1 p2 p3) := by
  unfold execRxLocked
  refine onInst_within ?_ ?_
  · exact hp3
  · intro u1 hu2
    try beta_reduce
    extract_lets -merge -useContext -underBinder x3 x4 x5 x6
    refine ite_elim (P := Within b) ?_ ?_
    · refine State.raise_within qevu c2 ?_
      refine State.setN_within c3 ?_
      refine State.setLane_within qlanes ?_
      exact hu2
    · exact hu2

theorem execAdaptationTimeout_within {b : Bounds} {p0 p1} (qlanes : b.parts .lanes) (qevu : b.parts .evu) (c2 : b.regs (O11.LANE_FLAGS p0)) (c3 : b.regs (O11.RX_STATE p0)) (c4 : ∀ k ∈ eventRegs 275, b.regs k) (hp1 : Within b p1) : WithinOut b (execAdaptationTimeout p0 p1) := by
  unfold execAdaptationTimeout
  refine onInst_within ?_ ?_
  · exact hp1
  · intro u1 hu2
    try beta_reduce
    extract_lets -merge -useContext -underBinder x3 x4
    have hx3 : Within b x3 := by
      unfold x3
      refine State.flag_within c2 ?_
      refine State.laneAdapt_within qlanes c3 ?_
      exact hu2
    try clear_value x3
    refine ite_elim (P := Within b) ?_ ?_
    · refine ite_elim (P := Within b) ?_ ?_
      · exact hx3
      · refine State.raise_within qevu c4 ?_
        refine State.setLane_within qlanes ?_
        exact hx3
    · exact hu2

theorem execRxLost_within {b : Bounds} {p0 p1 p2} (qsent : b.parts .sent) (qevu : b.parts .evu) (qsess : b.parts .sess) (qmail : b.parts .mail) (qjobs : b.parts .jobs) (qlanes : b.parts .lanes) (c6 : ∀ (w0 : ℕ), b.regs (O1B.JOB_ENDED w0)) (c7 : ∀ (w0 : ℕ), b.regs (O1B.JOB_STATUS w0)) (c8 : ∀ (w0 : ℕ), b.regs (O1B.JOB_RESULT w0)) (c9 : ∀ (w0 : ℕ), b.regs (O1B.JOB_PROGRESS w0)) (c10 : b.regs O1B.JOBS_QUEUED) (c11 : b.regs O1B.JOBS_RUNNING) (c12 : ∀ (w0 : ℕ), b.regs (O1C.SESS_QUEUE w0)) (c13 : b.regs O1C.FILULO_FLAGS) (c14 : ∀ (w0 : ℕ), b.regs (O1B.JOB_STARTED w0)) (c15 : ∀ (w0 : ℕ), b.regs (O1B.JOB_STATE w0)) (c16 : ∀ (w0 : ℕ), ∀ k ∈ eventRegs w0, b.regs k) (c17 : b.regs (O11.LANE_FLAGS p0)) (c18 : b.regs (O11.RX_LOCK_LOSSES p0)) (c19 : b.regs (O11.RX_STATE p0)) (hp2 : Within b p2) : WithinOut b (execRxLost p0 p1 p2) := by
  unfold execRxLost
  refine onInst_within ?_ ?_
  · exact hp2
  · intro u1 hu2
    try beta_reduce
    refine State.laneLost_within qsent qevu qsess qmail qjobs qlanes c6 c7 c8 c9 c10 c11 c12 c13 c14 c15 c16 c17 c18 c19 ?_
    exact hu2

theorem execElasticSlotRx_within {b : Bounds} {p0 p1 p2} (qevu : b.parts .evu) (qlanes : b.parts .lanes) (c2 : b.regs (O11.FILLER_DELETED p0)) (c3 : ∀ k ∈ eventRegs 282, b.regs k) (c4 : b.regs (O11.LANE_FLAGS p0)) (c5 : b.regs (O11.ELASTIC_SLIPS p0)) (hp2 : Within b p2) : WithinOut b (execElasticSlotRx p0 p1 p2) := by
  unfold execElasticSlotRx
  refine onInst_within ?_ ?_
  · exact hp2
  · intro u1 hu1
    try beta_reduce
    extract_lets -merge -useContext -underBinder x2
    refine ite_elim (P := Within b) ?_ ?_
    · exact hu1
    · refine ite_elim (P := Within b) ?_ ?_
      · refine State.bump_within c2 ?_
        exact hu1
      · refine ite_elim (P := Within b) ?_ ?_
        · refine State.raiseLim_within qevu c3 ?_
          refine State.flag_within c4 ?_
          refine State.bump_within c5 ?_
          refine State.setLane_within qlanes ?_
          exact hu1
        · refine State.setLane_within qlanes ?_
          exact hu1

theorem execElasticSlotRead_within {b : Bounds} {p0 p1} (qlanes : b.parts .lanes) (c1 : b.regs (O11.FILLER_INSERTED p0)) (hp1 : Within b p1) : WithinOut b (execElasticSlotRead p0 p1) := by
  unfold execElasticSlotRead
  refine onInst_within ?_ ?_
  · exact hp1
  · intro u1 hu1
    try beta_reduce
    extract_lets -merge -useContext -underBinder x2
    refine ite_elim (P := Within b) ?_ ?_
    · exact hu1
    · refine ite_elim (P := Within b) ?_ ?_
      · refine State.bump_within c1 ?_
        refine State.setLane_within qlanes ?_
        exact hu1
      · refine State.setLane_within qlanes ?_
        exact hu1

theorem execRateOffsetUpdate_within {b : Bounds} {p0 p1 p2} (qevu : b.parts .evu) (qlanes : b.parts .lanes) (c2 : b.regs (O11.RATE_OFFSET p0)) (c3 : ∀ k ∈ eventRegs 281, b.regs k) (c4 : b.regs (O11.LANE_FLAGS p0)) (hp2 : Within b p2) : WithinOut b (execRateOffsetUpdate p0 p1 p2) := by
  unfold execRateOffsetUpdate
  refine onInst_within ?_ ?_
  · exact hp2
  · intro u1 hu1
    try beta_reduce
    extract_lets -merge -useContext -underBinder x2 x3 x4 x5 x6
    have hx2 : Within b x2 := by
      unfold x2
      refine State.setZ_within c2 ?_
      exact hu1
    try clear_value x2
    have hx5 : Within b x5 := by
      unfold x5
      refine State.setLane_within qlanes ?_
      exact hx2
    try clear_value x5
    refine ite_elim (P := Within b) ?_ ?_
    · refine State.setLane_within qlanes ?_
      exact hx2
    · refine ite_elim (P := Within b) ?_ ?_
      · refine State.raise_within qevu c3 ?_
        refine State.flag_within c4 ?_
        refine State.setLane_within qlanes ?_
        exact hx5
      · exact hx5

theorem execPrbsSync_within {b : Bounds} {p0 p1 p2 p3 p4} (qevu : b.parts .evu) (qlanes : b.parts .lanes) (c2 : ∀ k ∈ eventRegs 277, b.regs k) (c3 : b.regs (O11.LANE_FLAGS p0)) (c4 : b.regs (O11.SYNC_LOSSES p0)) (c5 : b.regs (O11.CHK_STATE p0)) (c6 : b.regs (O11.TOTAL_BITS p0)) (c7 : b.regs (O11.ERR_BITS p0)) (c8 : ∀ k ∈ eventRegs 279, b.regs k) (c9 : ∀ k ∈ eventRegs 276, b.regs k) (hp4 : Within b p4) : WithinOut b (execPrbsSync p0 p1 p2 p3 p4) := by
  unfold execPrbsSync
  refine onInst_within ?_ ?_
  · exact hp4
  · intro u1 hu1
    try beta_reduce
    refine ite_elim (P := Within b) ?_ ?_
    · refine State.raise_within qevu c2 ?_
      refine State.flag_within c3 ?_
      refine State.bump_within c4 ?_
      refine State.laneSearch_within qlanes c5 ?_
      refine State.countBits_within qevu qlanes c6 c7 c8 c3 ?_
      exact hu1
    · refine ite_elim (P := Within b) ?_ ?_
      · refine State.raise_within qevu c9 ?_
        refine State.setN_within c5 ?_
        exact hu1
      · exact hu1

theorem execWindowEnd_within {b : Bounds} {p0 p1 p2 p3} (qlanes : b.parts .lanes) (qevu : b.parts .evu) (c2 : b.regs (O11.WIN_BITS p0)) (c3 : b.regs (O11.WIN_ERR p0)) (c4 : b.regs (O11.LANE_FLAGS p0)) (c5 : ∀ k ∈ eventRegs 278, b.regs k) (c6 : b.regs (O11.TOTAL_BITS p0)) (c7 : b.regs (O11.ERR_BITS p0)) (c8 : ∀ k ∈ eventRegs 279, b.regs k) (hp3 : Within b p3) : WithinOut b (execWindowEnd p0 p1 p2 p3) := by
  unfold execWindowEnd
  refine onInst_within ?_ ?_
  · exact hp3
  · intro u1 hu2
    try beta_reduce
    refine ite_elim (P := Within b) ?_ ?_
    · exact hu2
    · refine State.endWindow_within qlanes qevu c2 c3 c4 c5 ?_
      refine ite_elim (P := Within b) ?_ ?_
      · refine State.countBits_within qevu qlanes c6 c7 c8 c4 ?_
        exact hu2
      · exact hu2

theorem execChkRestart_within {b : Bounds} {p0 p1} (qlanes : b.parts .lanes) (hp1 : Within b p1) : WithinOut b (execChkRestart p0 p1) := by
  unfold execChkRestart
  refine onInst_within ?_ ?_
  · exact hp1
  · intro u1 hu1
    try beta_reduce
    refine State.actChkRestart_within qlanes ?_
    exact hu1

theorem execEyeScan_within {b : Bounds} {p0 p1 p2} (qsent : b.parts .sent) (qevu : b.parts .evu) (qsess : b.parts .sess) (qmail : b.parts .mail) (qjobs : b.parts .jobs) (c5 : ∀ w0, b.regs (O1B.JOB_ENDED w0)) (c6 : ∀ w0, b.regs (O1B.JOB_RESULT w0)) (c7 : ∀ w0, b.regs (O1B.JOB_OWNER w0)) (c8 : ∀ w0, b.regs (O1B.JOB_PROGRESS w0)) (c9 : ∀ w0, b.regs (O1B.JOB_STATUS w0)) (c10 : ∀ w0, b.regs (O1B.JOB_OBJECT w0)) (c11 : ∀ w0, b.regs (O1C.SESS_QUEUE w0)) (c12 : ∀ k ∈ eventRegs 451, b.regs k) (c13 : b.regs O1C.FILULO_FLAGS) (c14 : ∀ k ∈ eventRegs 432, b.regs k) (c15 : b.regs O1B.JOBS_QUEUED) (c16 : b.regs O1B.JOBS_RUNNING) (c17 : ∀ w0, b.regs (O1B.JOB_STARTED w0)) (c18 : ∀ w0, b.regs (O1B.JOB_STATE w0)) (hp2 : Within b p2) : WithinOut b (execEyeScan p0 p1 p2) := by
  unfold execEyeScan
  refine onInst_within ?_ ?_
  · exact hp2
  · intro u1 hu1
    try beta_reduce
    refine ite_elim (P := Within b) ?_ ?_
    · change Within1 b _
      refine State.startEyeScan_within qsent qevu qsess qmail qjobs c5 c6 c7 c8 c9 c10 c11 c12 c13 c14 c15 c16 c17 c18 ?_
      exact hu1
    · exact hu1

theorem execEyeScanDone_within {b : Bounds} {p0 p1 p2} (qevu : b.parts .evu) (qsent : b.parts .sent) (qsess : b.parts .sess) (qmail : b.parts .mail) (qjobs : b.parts .jobs) (c5 : b.regs (O11.EYE_RESULT p0)) (c6 : ∀ (w0 : ℕ), b.regs (O1B.JOB_ENDED w0)) (c7 : ∀ (w0 : ℕ), b.regs (O1B.JOB_STATUS w0)) (c8 : ∀ (w0 : ℕ), b.regs (O1B.JOB_RESULT w0)) (c9 : ∀ (w0 : ℕ), b.regs (O1B.JOB_PROGRESS w0)) (c10 : b.regs O1B.JOBS_QUEUED) (c11 : b.regs O1B.JOBS_RUNNING) (c12 : ∀ (w0 : ℕ), b.regs (O1C.SESS_QUEUE w0)) (c13 : b.regs O1C.FILULO_FLAGS) (c14 : ∀ (w0 : ℕ), b.regs (O1B.JOB_STARTED w0)) (c15 : ∀ (w0 : ℕ), b.regs (O1B.JOB_STATE w0)) (c16 : ∀ (w0 : ℕ), ∀ k ∈ eventRegs w0, b.regs k) (hp2 : Within b p2) : WithinOut b (execEyeScanDone p0 p1 p2) := by
  unfold execEyeScanDone
  refine onInst_within ?_ ?_
  · exact hp2
  · intro u1 hu2
    try beta_reduce
    split
    · exact hu2
    · extract_lets -merge -useContext -underBinder x3 x4 x5 x6 x7 x8 x9
      have hx9 : Within b x9 := by
        unfold x9
        refine State.raise_within qevu (c16 _) ?_
        refine State.setBytes_within c5 ?_
        exact hu2
      try clear_value x9
      refine ite_elim (P := Within b) ?_ ?_
      · exact hu2
      · refine ite_elim (P := Within b) ?_ ?_
        · refine State.abortScan_within qsent qevu qsess qmail qjobs c6 c7 c8 c9 c10 c11 c12 c13 c14 c15 c16 ?_
          exact hu2
        · refine ite_elim (P := Within b) ?_ ?_
          · exact hu2
          · refine ite_elim (P := Within b) ?_ ?_
            · refine State.offerJob_within qjobs (c8 _) ?_
              exact hx9
            · refine State.endJob_within qsent qevu qsess qmail qjobs (c6 _) (c7 _) (c8 _) (c9 _) c10 c11 c12 c13 c14 c15 c16 ?_
              refine State.emit_within qsent ?_
              exact hx9

end Sys2Proof.Machine
end

