-- ==== Sys2Proof/Laws/WithinDiscipline.lean ====
section
/-! SUPPORT. What each operation of Machine/Discipline.lean may change at most (Laws/Within.lean). -/

set_option maxRecDepth 8000

namespace Sys2Proof.Machine

theorem State.rebased_within {b : Bounds} {p0 p1 p2} (qtiming : b.parts .timing) (hp0 : Within b p0) : Within b (State.rebased p0 p1 p2) := by
  unfold State.rebased
  extract_lets -merge -useContext -underBinder x1
  refine ite_elim (P := Within b) ?_ ?_
  · exact hp0
  · refine Within.f_timing (s := p0) qtiming ?_
    exact hp0

theorem State.setEstimate_within {b : Bounds} {p0 p1 p2} (qtiming : b.parts .timing) (hp0 : Within b p0) : Within b (State.setEstimate p0 p1 p2) := by
  unfold State.setEstimate
  extract_lets -merge -useContext -underBinder x1
  refine Within.f_timing (s := p0) qtiming ?_
  exact hp0

theorem State.discipline_within {b : Bounds} {p0} (qtiming : b.parts .timing) (hp0 : Within b p0) : Within b (State.discipline p0) := by
  unfold State.discipline
  split
  · refine State.setEstimate_within qtiming ?_
    exact hp0
  · refine State.setEstimate_within qtiming ?_
    exact hp0
  · extract_lets -merge -useContext -underBinder x1
    refine State.setEstimate_within qtiming ?_
    exact hp0
  · exact hp0

theorem State.mapSynth_within {b : Bounds} {p0 p1} (qclocks : b.parts .clocks) (hp0 : Within b p0) : Within b (State.mapSynth p0 p1) := by
  unfold State.mapSynth
  extract_lets -merge -useContext -underBinder x1
  refine Within.f_clocks (s := p0) qclocks ?_
  exact hp0

theorem State.retarget_within {b : Bounds} {p0} (qclocks : b.parts .clocks) (hp0 : Within b p0) : Within b (State.retarget p0) := by
  unfold State.retarget
  refine State.mapSynth_within qclocks ?_
  exact hp0

theorem State.writeWords_within {b : Bounds} {p0} (qclocks : b.parts .clocks) (hp0 : Within b p0) : Within b (State.writeWords p0) := by
  unfold State.writeWords
  refine State.mapSynth_within qclocks ?_
  exact hp0

theorem State.synthTick_within {b : Bounds} {p0} (qclocks : b.parts .clocks) (hp0 : Within b p0) : Within b (State.synthTick p0) := by
  unfold State.synthTick
  refine State.mapSynth_within qclocks ?_
  exact hp0

theorem State.realignAll_within {b : Bounds} {p0 p1} (qclocks : b.parts .clocks) (hp0 : Within b p0) : Within b (State.realignAll p0 p1) := by
  unfold State.realignAll
  refine State.mapSynth_within qclocks ?_
  exact hp0

end Sys2Proof.Machine
end

