-- ==== Sys2Proof/Laws/WithinTiming.lean ====
section
/-! SUPPORT. What each operation of Machine/Timing.lean may change at most (Laws/Within.lean). -/

set_option maxRecDepth 8000

namespace Sys2Proof.Machine

theorem State.setCand_within {b : Bounds} {p0 p1 p2} (qtiming : b.parts .timing) (hp0 : Within b p0) : Within b (State.setCand p0 p1 p2) := by
  unfold State.setCand
  extract_lets -merge -useContext -underBinder x1
  refine Within.f_timing (s := p0) qtiming ?_
  exact hp0

theorem State.markDirty_within {b : Bounds} {p0} (qtiming : b.parts .timing) (hp0 : Within b p0) : Within b (State.markDirty p0) := by
  unfold State.markDirty
  extract_lets -merge -useContext -underBinder x1
  refine Within.f_timing (s := p0) qtiming ?_
  exact hp0

theorem State.setCandState_within {b : Bounds} {p0 p1 p2} (qtiming : b.parts .timing) (c1 : b.regs (O02.CAND_STATE p1)) (c2 : b.regs (O02.OUTVOTED p1)) (hp0 : Within b p0) : Within b (State.setCandState p0 p1 p2) := by
  unfold State.setCandState
  extract_lets -merge -useContext -underBinder x1 x2
  have hx1 : Within b x1 := by
    unfold x1
    refine State.markDirty_within qtiming ?_
    refine State.setN_within c1 ?_
    exact hp0
  try clear_value x1
  refine ite_elim (P := Within b) ?_ ?_
  · exact hx1
  · refine State.setCand_within qtiming ?_
    refine State.setB_within c2 ?_
    exact hx1

theorem State.loseCand_within {b : Bounds} {p0 p1} (qtiming : b.parts .timing) (hp0 : Within b p0) : Within b (State.loseCand p0 p1) := by
  unfold State.loseCand
  extract_lets -merge -useContext -underBinder x1
  refine ite_elim (P := Within b) ?_ ?_
  · refine Within.f_timing (s := p0) qtiming ?_
    exact hp0
  · exact hp0

theorem State.requalify_within {b : Bounds} {p0 p1} (qtiming : b.parts .timing) (c1 : b.regs (O02.CAND_STATE p1)) (c2 : b.regs (O02.OUTVOTED p1)) (hp0 : Within b p0) : Within b (State.requalify p0 p1) := by
  unfold State.requalify
  extract_lets -merge -useContext -underBinder x1
  refine State.setCandState_within qtiming c1 c2 ?_
  refine State.setCand_within qtiming ?_
  exact hp0

theorem State.candSignal_within {b : Bounds} {p0 p1} (qtiming : b.parts .timing) (c1 : b.regs (O02.CAND_STATE p1)) (c2 : b.regs (O02.OUTVOTED p1)) (hp0 : Within b p0) : Within b (State.candSignal p0 p1) := by
  unfold State.candSignal
  extract_lets -merge -useContext -underBinder x1
  refine ite_elim (P := Within b) ?_ ?_
  · refine State.requalify_within qtiming c1 c2 ?_
    refine State.setCand_within qtiming ?_
    exact hp0
  · exact hp0

theorem State.candFault_within {b : Bounds} {p0 p1 p2 p3 p4} (qevu : b.parts .evu) (qtiming : b.parts .timing) (c2 : b.regs (O02.CAND_FLAGS p1)) (c3 : ∀ k ∈ eventRegs p4, b.regs k) (c4 : b.regs (O02.CAND_STATE p1)) (c5 : b.regs (O02.OUTVOTED p1)) (hp0 : Within b p0) : Within b (State.candFault p0 p1 p2 p3 p4) := by
  unfold State.candFault
  extract_lets -merge -useContext -underBinder x1
  have hx1 : Within b x1 := by
    unfold x1
    refine State.flag_within c2 ?_
    refine State.loseCand_within qtiming ?_
    exact hp0
  try clear_value x1
  refine ite_elim (P := Within b) ?_ ?_
  · refine State.raise_within qevu c3 ?_
    refine ite_elim (P := Within b) ?_ ?_
    · refine State.setCandState_within qtiming c4 c5 ?_
      exact hx1
    · refine State.requalify_within qtiming c4 c5 ?_
      exact hx1
  · exact hp0

theorem State.firstTime_within {b : Bounds} {p0 p1} (qtick : b.parts .tick) (hp0 : Within b p0) : Within b (State.firstTime p0 p1) := by
  unfold State.firstTime
  extract_lets -merge -useContext -underBinder x1 x2 x3
  refine ite_elim (P := Within b) ?_ ?_
  · refine Within.f_tick (s := p0) qtick (fun i => i) ?_
    exact hp0
  · exact hp0

theorem State.qualify_within {b : Bounds} {p0 p1} (qevu : b.parts .evu) (qtick : b.parts .tick) (qtiming : b.parts .timing) (c3 : ∀ k ∈ eventRegs 40, b.regs k) (c4 : b.regs (O02.CAND_STATE p1)) (c5 : b.regs (O02.OUTVOTED p1)) (hp0 : Within b p0) : Within b (State.qualify p0 p1) := by
  unfold State.qualify
  extract_lets -merge -useContext -underBinder x1 x2
  have hx2 : Within b x2 := by
    unfold x2
    refine State.setCand_within qtiming ?_
    exact hp0
  try clear_value x2
  refine ite_elim (P := Within b) ?_ ?_
  · refine State.raise_within qevu c3 ?_
    refine State.firstTime_within qtick ?_
    refine State.setCandState_within qtiming c4 c5 ?_
    exact hx2
  · exact hp0

theorem State.judgeHard_within {b : Bounds} {p0 p1 p2} (qevu : b.parts .evu) (qtiming : b.parts .timing) (c2 : b.regs (O02.CAND_FLAGS p1)) (c3 : ∀ k ∈ eventRegs 39, b.regs k) (c4 : b.regs (O02.CAND_STATE p1)) (c5 : b.regs (O02.OUTVOTED p1)) (hp0 : Within b p0) : Within b (State.judgeHard p0 p1 p2) := by
  unfold State.judgeHard
  extract_lets -merge -useContext -underBinder x1 x2 x3
  have hx3 : Within b x3 := by
    unfold x3
    refine State.setCand_within qtiming ?_
    exact hp0
  try clear_value x3
  refine ite_elim (P := Within b) ?_ ?_
  · refine State.candFault_within qevu qtiming c2 c3 c4 c5 ?_
    exact hx3
  · exact hx3

theorem State.judgeSoft_within {b : Bounds} {p0 p1 p2} (qevu : b.parts .evu) (qtiming : b.parts .timing) (c2 : b.regs (O02.CAND_FLAGS p1)) (c3 : ∀ k ∈ eventRegs 38, b.regs k) (c4 : b.regs (O02.CAND_STATE p1)) (c5 : b.regs (O02.OUTVOTED p1)) (c6 : ∀ k ∈ eventRegs 40, b.regs k) (hp0 : Within b p0) : Within b (State.judgeSoft p0 p1 p2) := by
  unfold State.judgeSoft
  extract_lets -merge -useContext -underBinder x1 x2 x3 x4 x5 x6
  have hx4 : Within b x4 := by
    unfold x4
    refine State.setCand_within qtiming ?_
    exact hp0
  try clear_value x4
  have hx5 : Within b x5 := by
    unfold x5
    refine ite_elim (P := Within b) ?_ ?_
    · refine State.flag_within c2 ?_
      exact hx4
    · exact hx4
  try clear_value x5
  refine ite_elim (P := Within b) ?_ ?_
  · exact hp0
  · refine ite_elim (P := Within b) ?_ ?_
    · refine State.raise_within qevu c3 ?_
      refine State.setCandState_within qtiming c4 c5 ?_
      exact hx5
    · refine ite_elim (P := Within b) ?_ ?_
      · refine State.raise_within qevu c6 ?_
        refine State.setCandState_within qtiming c4 c5 ?_
        exact hx5
      · exact hx5

theorem State.measure_within {b : Bounds} {p0 p1} (qtiming : b.parts .timing) (qevu : b.parts .evu) (c2 : b.regs (O02.PHASE_OFFSET p1.cand)) (c3 : b.regs (O02.FREQ_OFFSET p1.cand)) (c4 : b.regs (O02.CAND_FLAGS p1.cand)) (c5 : ∀ k ∈ eventRegs 38, b.regs k) (c6 : b.regs (O02.CAND_STATE p1.cand)) (c7 : b.regs (O02.OUTVOTED p1.cand)) (c8 : ∀ k ∈ eventRegs 40, b.regs k) (c9 : ∀ k ∈ eventRegs 39, b.regs k) (hp0 : Within b p0) : Within b (State.measure p0 p1) := by
  unfold State.measure
  extract_lets -merge -useContext -underBinder x1 x2 x3 x4 x5 x6 x7 x8 x9
  have hx3 : Within b x3 := by
    unfold x3
    refine State.setZ_within c2 ?_
    refine State.setZ_within c3 ?_
    exact hp0
  try clear_value x3
  have hx5 : Within b x5 := by
    unfold x5
    refine State.setCand_within qtiming ?_
    exact hx3
  try clear_value x5
  have hx6 : Within b x6 := by
    unfold x6
    refine State.judgeSoft_within qevu qtiming c4 c5 c6 c7 c8 ?_
    refine State.judgeHard_within qevu qtiming c4 c9 c6 c7 ?_
    exact hx5
  try clear_value x6
  refine ite_elim (P := Within b) ?_ ?_
  · exact hp0
  · refine ite_elim (P := Within b) ?_ ?_
    · refine Within.f_timing (s := x6) qtiming ?_
      exact hx6
    · exact hx6

theorem State.judgeVote_within {b : Bounds} {p0 p1 p2 p3} (qevu : b.parts .evu) (qtiming : b.parts .timing) (c2 : b.regs (O02.OUTVOTED p3)) (c3 : ∀ k ∈ eventRegs 45, b.regs k) (c4 : b.regs (O02.CAND_FLAGS p3)) (hp0 : Within b p0) (hp2 : Within b p2) : Within b (State.judgeVote p0 p1 p2 p3) := by
  unfold State.judgeVote
  extract_lets -merge -useContext -underBinder x1 x2 x3 x4 x5 x6
  have hx6 : Within b x6 := by
    unfold x6
    refine State.setCand_within qtiming ?_
    exact hp2
  try clear_value x6
  refine ite_elim (P := Within b) ?_ ?_
  · refine ite_elim (P := Within b) ?_ ?_
    · refine State.markDirty_within qtiming ?_
      refine State.setCand_within qtiming ?_
      refine State.setB_within c2 ?_
      exact hp2
    · exact hp2
  · refine ite_elim (P := Within b) ?_ ?_
    · try clear_value x4
      split
      · refine ite_elim (P := Within b) ?_ ?_
        · refine State.markDirty_within qtiming ?_
          refine State.setB_within c2 ?_
          exact hx6
        · exact hx6
      · exact hx6
    · refine ite_elim (P := Within b) ?_ ?_
      · refine State.raise_within qevu c3 ?_
        refine State.markDirty_within qtiming ?_
        refine State.flag_within c4 ?_
        refine State.setB_within c2 ?_
        exact hp2
      · exact hp2

theorem State.judgeAgreement_within {b : Bounds} {p0} (qevu : b.parts .evu) (qtiming : b.parts .timing) (c2 : ∀ w0, b.regs (O02.OUTVOTED w0)) (c3 : ∀ k ∈ eventRegs 45, b.regs k) (c4 : ∀ w0, b.regs (O02.CAND_FLAGS w0)) (c5 : ∀ k ∈ eventRegs 163, b.regs k) (hp0 : Within b p0) : Within b (State.judgeAgreement p0) := by
  unfold State.judgeAgreement
  extract_lets -merge -useContext -underBinder x1 x2 x3 x4 x5 x6 x7
  have hx1 : Within b x1 := by
    unfold x1
    refine State.forEach_within ?_ ?_
    · exact hp0
    · intro u8 u9 hu8
      refine State.judgeVote_within qevu qtiming (c2 _) c3 (c4 _) ?_ ?_
      · exact hp0
      · exact hu8
  try clear_value x1
  have hx4 : Within b x4 := by
    unfold x4
    refine State.forEach_within ?_ ?_
    · exact hx1
    · intro u10 u11 hu10
      try beta_reduce
      refine State.flag_within (c4 _) ?_
      exact hu10
  try clear_value x4
  have hx7 : Within b x7 := by
    unfold x7
    refine Within.f_timing (s := x4) qtiming ?_
    exact hx4
  try clear_value x7
  refine ite_elim (P := Within b) ?_ ?_
  · refine State.raise_within qevu c5 ?_
    exact hx7
  · exact hx7

theorem State.stabMeasure_within {b : Bounds} {p0 p1} (qtiming : b.parts .timing) (c1 : b.regs O02.XTAL_OFFSET) (hp0 : Within b p0) : Within b (State.stabMeasure p0 p1) := by
  unfold State.stabMeasure
  extract_lets -merge -useContext -underBinder x1 x2
  have hx1 : Within b x1 := by
    unfold x1
    refine State.setZ_within c1 ?_
    exact hp0
  try clear_value x1
  refine ite_elim (P := Within b) ?_ ?_
  · refine Within.f_timing (s := x1) qtiming ?_
    exact hx1
  · exact hx1

theorem State.setStab_within {b : Bounds} {p0 p1} (qtiming : b.parts .timing) (qevu : b.parts .evu) (c2 : b.regs O02.STAB_STATE) (c3 : ∀ k ∈ eventRegs 42, b.regs k) (hp0 : Within b p0) : Within b (State.setStab p0 p1) := by
  unfold State.setStab
  extract_lets -merge -useContext -underBinder x1 x2 x3 x4
  have hx3 : Within b x3 := by
    unfold x3
    refine Within.f_timing (s := p0) qtiming ?_
    exact hp0
  try clear_value x3
  have hx4 : Within b x4 := by
    unfold x4
    refine State.setN_within c2 ?_
    exact hx3
  try clear_value x4
  refine State.raise_within qevu c3 ?_
  refine State.rebased_within qtiming ?_
  exact hx4

theorem State.thaw_within {b : Bounds} {p0} (qtiming : b.parts .timing) (hp0 : Within b p0) : Within b (State.thaw p0) := by
  unfold State.thaw
  extract_lets -merge -useContext -underBinder x1 x2
  have hx2 : Within b x2 := by
    unfold x2
    refine Within.f_timing (s := p0) qtiming ?_
    exact hp0
  try clear_value x2
  refine State.rebased_within qtiming ?_
  exact hx2

theorem State.setPull_within {b : Bounds} {p0} (c0 : b.regs O02.PULL_ETA) (c1 : b.regs O02.PULL_REMAIN) (hp0 : Within b p0) : Within b (State.setPull p0) := by
  unfold State.setPull
  extract_lets -merge -useContext -underBinder x1
  refine State.setN_within c0 ?_
  refine State.setZ_within c1 ?_
  exact hp0

theorem State.target_within {b : Bounds} {p0 p1} (qtiming : b.parts .timing) (qevu : b.parts .evu) (c2 : ∀ k ∈ eventRegs 32, b.regs k) (c3 : b.regs O02.SWITCH_COUNT) (c4 : b.regs O02.SELECTED) (hp0 : Within b p0) : Within b (State.target p0 p1) := by
  unfold State.target
  extract_lets -merge -useContext -underBinder x1 x2 x3 x4
  have hx2 : Within b x2 := by
    unfold x2
    refine State.thaw_within qtiming ?_
    exact hp0
  try clear_value x2
  have hx4 : Within b x4 := by
    unfold x4
    refine Within.f_timing (s := x2) qtiming ?_
    exact hx2
  try clear_value x4
  refine State.raise_within qevu c2 ?_
  refine State.bump_within c3 ?_
  refine State.setN_within c4 ?_
  exact hx4

theorem State.pullTo_within {b : Bounds} {p0 p1} (qclocks : b.parts .clocks) (qtiming : b.parts .timing) (qevu : b.parts .evu) (c3 : b.regs O02.SEL_STATE) (c4 : ∀ k ∈ eventRegs 32, b.regs k) (c5 : b.regs O02.SWITCH_COUNT) (c6 : b.regs O02.SELECTED) (c7 : b.regs O02.PULL_ETA) (c8 : b.regs O02.PULL_REMAIN) (c9 : ∀ k ∈ eventRegs 46, b.regs k) (hp0 : Within b p0) : Within b (State.pullTo p0 p1) := by
  unfold State.pullTo
  extract_lets -merge -useContext -underBinder x1 x2 x3
  have hx1 : Within b x1 := by
    unfold x1
    refine State.retarget_within qclocks ?_
    refine State.setN_within c3 ?_
    refine State.target_within qtiming qevu c4 c5 c6 ?_
    exact hp0
  try clear_value x1
  have hx3 : Within b x3 := by
    unfold x3
    refine State.setPull_within c7 c8 ?_
    refine Within.f_timing (s := x1) qtiming ?_
    exact hx1
  try clear_value x3
  refine ite_elim (P := Within b) ?_ ?_
  · refine State.raise_within qevu c9 ?_
    exact hx3
  · exact hx3

theorem State.acquire_within {b : Bounds} {p0 p1} (qtick : b.parts .tick) (qtiming : b.parts .timing) (qevu : b.parts .evu) (qclocks : b.parts .clocks) (c4 : b.regs O02.SEL_STATE) (c5 : ∀ k ∈ eventRegs 32, b.regs k) (c6 : b.regs O02.SWITCH_COUNT) (c7 : b.regs O02.SELECTED) (hp0 : Within b p0) : Within b (State.acquire p0 p1) := by
  unfold State.acquire
  extract_lets -merge -useContext -underBinder x1 x2 x3
  have hx1 : Within b x1 := by
    unfold x1
    refine State.firstTime_within qtick ?_
    refine State.setN_within c4 ?_
    refine State.target_within qtiming qevu c5 c6 c7 ?_
    exact hp0
  try clear_value x1
  have hx3 : Within b x3 := by
    unfold x3
    refine Within.f_timing (s := x1) qtiming ?_
    exact hx1
  try clear_value x3
  refine State.realignAll_within qclocks ?_
  refine State.retarget_within qclocks ?_
  exact hx3

theorem State.unselect_within {b : Bounds} {p0 p1} (qtiming : b.parts .timing) (qclocks : b.parts .clocks) (c2 : b.regs O02.PULL_ETA) (c3 : b.regs O02.PULL_REMAIN) (c4 : b.regs O02.SELECTED) (c5 : b.regs O02.SEL_STATE) (hp0 : Within b p0) : Within b (State.unselect p0 p1) := by
  unfold State.unselect
  extract_lets -merge -useContext -underBinder x1 x2 x3 x4
  have hx4 : Within b x4 := by
    unfold x4
    refine Within.f_timing (s := p0) qtiming ?_
    exact hp0
  try clear_value x4
  refine State.retarget_within qclocks ?_
  refine State.setN_within c2 ?_
  refine State.setN_within c3 ?_
  refine State.setN_within c4 ?_
  refine State.setN_within c5 ?_
  exact hx4

theorem State.enterHoldover_within {b : Bounds} {p0} (qtiming : b.parts .timing) (qevu : b.parts .evu) (qclocks : b.parts .clocks) (c3 : ∀ k ∈ eventRegs 33, b.regs k) (c4 : b.regs O02.PULL_ETA) (c5 : b.regs O02.PULL_REMAIN) (c6 : b.regs O02.SELECTED) (c7 : b.regs O02.SEL_STATE) (hp0 : Within b p0) : Within b (State.enterHoldover p0) := by
  unfold State.enterHoldover
  extract_lets -merge -useContext -underBinder x1 x2
  have hx2 : Within b x2 := by
    unfold x2
    refine Within.f_timing (s := p0) qtiming ?_
    exact hp0
  try clear_value x2
  refine State.raise_within qevu c3 ?_
  refine State.unselect_within qtiming qclocks c4 c5 c6 c7 ?_
  exact hx2

theorem State.enterFreerun_within {b : Bounds} {p0} (qevu : b.parts .evu) (qtiming : b.parts .timing) (qclocks : b.parts .clocks) (c3 : ∀ k ∈ eventRegs 44, b.regs k) (c4 : b.regs O02.PULL_ETA) (c5 : b.regs O02.PULL_REMAIN) (c6 : b.regs O02.SELECTED) (c7 : b.regs O02.SEL_STATE) (hp0 : Within b p0) : Within b (State.enterFreerun p0) := by
  unfold State.enterFreerun
  refine State.raise_within qevu c3 ?_
  refine State.unselect_within qtiming qclocks c4 c5 c6 c7 ?_
  refine State.thaw_within qtiming ?_
  exact hp0

theorem State.follow_within {b : Bounds} {p0} (qtick : b.parts .tick) (qtiming : b.parts .timing) (qevu : b.parts .evu) (qclocks : b.parts .clocks) (c4 : b.regs O02.SEL_STATE) (c5 : ∀ k ∈ eventRegs 32, b.regs k) (c6 : b.regs O02.SWITCH_COUNT) (c7 : b.regs O02.SELECTED) (c8 : b.regs O02.PULL_ETA) (c9 : b.regs O02.PULL_REMAIN) (c10 : ∀ k ∈ eventRegs 46, b.regs k) (c11 : ∀ k ∈ eventRegs 34, b.regs k) (c12 : ∀ k ∈ eventRegs 33, b.regs k) (hp0 : Within b p0) : Within b (State.follow p0) := by
  unfold State.follow
  split
  · refine ite_elim (P := Within b) ?_ ?_
    · refine State.acquire_within qtick qtiming qevu qclocks c4 c5 c6 c7 ?_
      exact hp0
    · refine State.pullTo_within qclocks qtiming qevu c4 c5 c6 c7 c8 c9 c10 ?_
      exact hp0
  · exact hp0
  · refine State.pullTo_within qclocks qtiming qevu c4 c5 c6 c7 c8 c9 c10 ?_
    refine State.raise_within qevu c11 ?_
    exact hp0
  · exact hp0
  · refine ite_elim (P := Within b) ?_ ?_
    · exact hp0
    · refine State.pullTo_within qclocks qtiming qevu c4 c5 c6 c7 c8 c9 c10 ?_
      exact hp0
  · refine State.enterHoldover_within qtiming qevu qclocks c12 c8 c9 c7 c4 ?_
    exact hp0

theorem State.modeChange_within {b : Bounds} {p0} (qtiming : b.parts .timing) (qevu : b.parts .evu) (qclocks : b.parts .clocks) (c3 : ∀ k ∈ eventRegs 33, b.regs k) (c4 : b.regs O02.PULL_ETA) (c5 : b.regs O02.PULL_REMAIN) (c6 : b.regs O02.SELECTED) (c7 : b.regs O02.SEL_STATE) (c8 : ∀ k ∈ eventRegs 44, b.regs k) (hp0 : Within b p0) : Within b (State.modeChange p0) := by
  unfold State.modeChange
  extract_lets -merge -useContext -underBinder x1 x2 x3
  have hx3 : Within b x3 := by
    unfold x3
    refine Within.f_timing (s := p0) qtiming ?_
    exact hp0
  try clear_value x3
  refine ite_elim (P := Within b) ?_ ?_
  · exact hx3
  · refine ite_elim (P := Within b) ?_ ?_
    · refine State.enterHoldover_within qtiming qevu qclocks c3 c4 c5 c6 c7 ?_
      exact hx3
    · refine ite_elim (P := Within b) ?_ ?_
      · refine State.enterFreerun_within qevu qtiming qclocks c8 c4 c5 c6 c7 ?_
        exact hx3
      · exact hx3

theorem State.evaluate_within {b : Bounds} {p0} (qtick : b.parts .tick) (qtiming : b.parts .timing) (qevu : b.parts .evu) (qclocks : b.parts .clocks) (c4 : b.regs O02.SEL_STATE) (c5 : ∀ k ∈ eventRegs 32, b.regs k) (c6 : b.regs O02.SWITCH_COUNT) (c7 : b.regs O02.SELECTED) (c8 : b.regs O02.PULL_ETA) (c9 : b.regs O02.PULL_REMAIN) (c10 : ∀ k ∈ eventRegs 46, b.regs k) (c11 : ∀ k ∈ eventRegs 34, b.regs k) (c12 : ∀ k ∈ eventRegs 33, b.regs k) (c13 : ∀ k ∈ eventRegs 44, b.regs k) (c14 : ∀ (w0 : ℕ), b.regs (O02.OUTVOTED w0)) (hp0 : Within b p0) : Within b (State.evaluate p0) := by
  unfold State.evaluate
  extract_lets -merge -useContext -underBinder x1 x2
  have hx1 : Within b x1 := by
    unfold x1
    refine State.follow_within qtick qtiming qevu qclocks c4 c5 c6 c7 c8 c9 c10 c11 c12 ?_
    refine State.modeChange_within qtiming qevu qclocks c12 c8 c9 c7 c4 c13 ?_
    refine State.forEach_within ?_ ?_
    · exact hp0
    · intro u3 u4 hu5
      try beta_reduce
      extract_lets -merge -useContext -underBinder x6
      refine State.setCand_within qtiming ?_
      refine State.setB_within (c14 _) ?_
      exact hu5
  try clear_value x1
  refine Within.f_timing (s := x1) qtiming ?_
  exact hx1

theorem State.selectorSeam_within {b : Bounds} {p0} (qtick : b.parts .tick) (qtiming : b.parts .timing) (qevu : b.parts .evu) (qclocks : b.parts .clocks) (c4 : b.regs O02.SEL_STATE) (c5 : ∀ k ∈ eventRegs 32, b.regs k) (c6 : b.regs O02.SWITCH_COUNT) (c7 : b.regs O02.SELECTED) (c8 : b.regs O02.PULL_ETA) (c9 : b.regs O02.PULL_REMAIN) (c10 : ∀ k ∈ eventRegs 46, b.regs k) (c11 : ∀ k ∈ eventRegs 34, b.regs k) (c12 : ∀ k ∈ eventRegs 33, b.regs k) (c13 : ∀ k ∈ eventRegs 44, b.regs k) (c14 : ∀ (w0 : ℕ), b.regs (O02.OUTVOTED w0)) (hp0 : Within b p0) : Within b (State.selectorSeam p0) := by
  unfold State.selectorSeam
  refine ite_elim (P := Within b) ?_ ?_
  · refine State.evaluate_within qtick qtiming qevu qclocks c4 c5 c6 c7 c8 c9 c10 c11 c12 c13 c14 ?_
    exact hp0
  · exact hp0

theorem State.ptpOwn_within {b : Bounds} {p0} (c0 : ∀ w0, b.regs (O02.GM_QUALITY w0)) (hp0 : Within b p0) : Within b (State.ptpOwn p0) := by
  unfold State.ptpOwn
  refine State.forEach_within ?_ ?_
  · exact hp0
  · intro u1 u2 hu1
    try beta_reduce
    refine ite_elim (P := Within b) ?_ ?_
    · refine State.setN_within (c0 _) ?_
      exact hu1
    · exact hu1

theorem State.holdoverSpec_within {b : Bounds} {p0} (qevu : b.parts .evu) (qtiming : b.parts .timing) (c2 : ∀ k ∈ eventRegs 43, b.regs k) (hp0 : Within b p0) : Within b (State.holdoverSpec p0) := by
  unfold State.holdoverSpec
  extract_lets -merge -useContext -underBinder x1
  refine ite_elim (P := Within b) ?_ ?_
  · refine State.raise_within qevu c2 ?_
    refine Within.f_timing (s := p0) qtiming ?_
    exact hp0
  · exact hp0

theorem State.judgeStop_within {b : Bounds} {p0 p1} (qevu : b.parts .evu) (qtiming : b.parts .timing) (c2 : b.regs (O02.CAND_FLAGS p1)) (c3 : ∀ k ∈ eventRegs 35, b.regs k) (c4 : b.regs (O02.CAND_STATE p1)) (c5 : b.regs (O02.OUTVOTED p1)) (hp0 : Within b p0) : Within b (State.judgeStop p0 p1) := by
  unfold State.judgeStop
  refine ite_elim (P := Within b) ?_ ?_
  · refine State.candFault_within qevu qtiming c2 c3 c4 c5 ?_
    exact hp0
  · exact hp0

theorem State.pullSeam_within {b : Bounds} {p0} (qevu : b.parts .evu) (c1 : b.regs O02.PULL_ETA) (c2 : b.regs O02.PULL_REMAIN) (c3 : ∀ k ∈ eventRegs 41, b.regs k) (c4 : b.regs O02.SEL_STATE) (hp0 : Within b p0) : Within b (State.pullSeam p0) := by
  unfold State.pullSeam
  extract_lets -merge -useContext -underBinder x1
  have hx1 : Within b x1 := by
    unfold x1
    refine State.setPull_within c1 c2 ?_
    exact hp0
  try clear_value x1
  refine ite_elim (P := Within b) ?_ ?_
  · exact hp0
  · refine ite_elim (P := Within b) ?_ ?_
    · refine State.raise_within qevu c3 ?_
      refine State.setN_within c1 ?_
      refine State.setN_within c4 ?_
      exact hx1
    · exact hx1

theorem State.timingSeam_within {b : Bounds} {p0} (qevu : b.parts .evu) (qtick : b.parts .tick) (qtiming : b.parts .timing) (qclocks : b.parts .clocks) (c4 : b.regs O02.PULL_ETA) (c5 : b.regs O02.PULL_REMAIN) (c6 : ∀ k ∈ eventRegs 41, b.regs k) (c7 : b.regs O02.SEL_STATE) (c8 : ∀ k ∈ eventRegs 32, b.regs k) (c9 : b.regs O02.SWITCH_COUNT) (c10 : b.regs O02.SELECTED) (c11 : ∀ k ∈ eventRegs 46, b.regs k) (c12 : ∀ k ∈ eventRegs 34, b.regs k) (c13 : ∀ k ∈ eventRegs 33, b.regs k) (c14 : ∀ k ∈ eventRegs 44, b.regs k) (c15 : ∀ (w0 : ℕ), b.regs (O02.OUTVOTED w0)) (c16 : ∀ k ∈ eventRegs 40, b.regs k) (c17 : ∀ (w0 : ℕ), b.regs (O02.CAND_STATE w0)) (c18 : ∀ (w0 : ℕ), b.regs (O02.CAND_FLAGS w0)) (c19 : ∀ k ∈ eventRegs 35, b.regs k) (c20 : b.regs O02.OWN_QL) (c21 : b.regs O02.HOLDOVER_ELAPSED) (c22 : ∀ (w0 : ℕ), b.regs (O02.GM_QUALITY w0)) (hp0 : Within b p0) : Within b (State.timingSeam p0) := by
  unfold State.timingSeam
  extract_lets -merge -useContext -underBinder x1 x2 x3
  have hx1 : Within b x1 := by
    unfold x1
    refine State.pullSeam_within qevu c4 c5 c6 c7 ?_
    refine State.selectorSeam_within qtick qtiming qevu qclocks c7 c8 c9 c10 c4 c5 c11 c12 c13 c14 c15 ?_
    refine State.forEach_within ?_ ?_
    · refine State.forEach_within ?_ ?_
      · exact hp0
      · intro u4 u5 hu6
        try beta_reduce
        refine State.qualify_within qevu qtick qtiming c16 (c17 _) (c15 _) ?_
        exact hu6
    · intro u7 u8 hu9
      try beta_reduce
      refine State.judgeStop_within qevu qtiming (c18 _) c19 (c17 _) (c15 _) ?_
      exact hu9
  try clear_value x1
  have hx2 : Within b x2 := by
    unfold x2
    refine State.setN_within c20 ?_
    exact hx1
  try clear_value x2
  have hx3 : Within b x3 := by
    unfold x3
    refine ite_elim (P := Within b) ?_ ?_
    · refine State.setN_within c21 ?_
      exact hx2
    · refine State.setN_within c21 ?_
      exact hx2
  try clear_value x3
  refine State.ptpOwn_within c22 ?_
  exact hx3

theorem State.setQl_within {b : Bounds} {p0 p1 p2} (qtiming : b.parts .timing) (c1 : b.regs (O02.QL p1)) (hp0 : Within b p0) : Within b (State.setQl p0 p1 p2) := by
  unfold State.setQl
  refine ite_elim (P := Within b) ?_ ?_
  · exact hp0
  · refine State.markDirty_within qtiming ?_
    refine State.setN_within c1 ?_
    exact hp0

theorem State.candApplied_within {b : Bounds} {p0 p1 p2} (qtiming : b.parts .timing) (c1 : b.regs (O02.QL p1)) (c2 : b.regs (O02.CAND_STATE p1)) (c3 : b.regs (O02.OUTVOTED p1)) (hp0 : Within b p0) : Within b (State.candApplied p0 p1 p2) := by
  unfold State.candApplied
  extract_lets -merge -useContext -underBinder x1 x2 x3 x4 x5 x6 x7 x8 x9 x10
  have hx6 : Within b x6 := by
    unfold x6
    refine ite_elim (P := Within b) ?_ ?_
    · refine State.setN_within c1 ?_
      exact hp0
    · refine ite_elim (P := Within b) ?_ ?_
      · refine ite_elim (P := Within b) ?_ ?_
        · refine State.setN_within c1 ?_
          exact hp0
        · exact hp0
      · refine State.setN_within c1 ?_
        exact hp0
  try clear_value x6
  have hx9 : Within b x9 := by
    unfold x9
    refine State.markDirty_within qtiming ?_
    refine State.setCand_within qtiming ?_
    exact hx6
  try clear_value x9
  refine ite_elim (P := Within b) ?_ ?_
  · refine ite_elim (P := Within b) ?_ ?_
    · exact hx9
    · refine State.setCandState_within qtiming c2 c3 ?_
      refine State.loseCand_within qtiming ?_
      exact hx9
  · refine ite_elim (P := Within b) ?_ ?_
    · refine State.setCandState_within qtiming c2 c3 ?_
      refine State.setCand_within qtiming ?_
      refine State.loseCand_within qtiming ?_
      exact hx9
    · exact hx9

theorem State.timingApplied_within {b : Bounds} {p0 p1} (qtiming : b.parts .timing) (c1 : b.regs (O02.QL (Sys2Proof.Machine.instOf p1))) (c2 : b.regs (O02.CAND_STATE (Sys2Proof.Machine.instOf p1))) (c3 : b.regs (O02.OUTVOTED (Sys2Proof.Machine.instOf p1))) (hp0 : Within b p0) : Within b (State.timingApplied p0 p1) := by
  unfold State.timingApplied
  extract_lets -merge -useContext -underBinder x1
  refine ite_elim (P := Within b) ?_ ?_
  · refine State.candApplied_within qtiming c1 c2 c3 ?_
    exact hp0
  · refine State.markDirty_within qtiming ?_
    exact hp0

theorem State.ptpStates_within {b : Bounds} {p0 p1 p2} (qtiming : b.parts .timing) (qevu : b.parts .evu) (c2 : ∀ k ∈ eventRegs 3586, b.regs k) (hp0 : Within b p0) : Within b (State.ptpStates p0 p1 p2) := by
  unfold State.ptpStates
  extract_lets -merge -useContext -underBinder x1 x2 x3 x4 x5
  have hx5 : Within b x5 := by
    unfold x5
    refine Within.f_timing (s := p0) qtiming ?_
    exact hp0
  try clear_value x5
  refine State.forEach_within ?_ ?_
  · exact hx5
  · intro u6 u7 hu8
    try beta_reduce
    refine ite_elim (P := Within b) ?_ ?_
    · exact hu8
    · refine State.raise_within qevu c2 ?_
      exact hu8

theorem State.syncCand_within {b : Bounds} {p0 p1 p2 p3 p4 p5} (qevu : b.parts .evu) (qtiming : b.parts .timing) (c2 : b.regs (O02.PHASE_OFFSET p1)) (c3 : b.regs (O02.CAND_FLAGS p1)) (c4 : ∀ k ∈ eventRegs 36, b.regs k) (c5 : b.regs (O02.CAND_STATE p1)) (c6 : b.regs (O02.OUTVOTED p1)) (hp0 : Within b p0) : Within b (State.syncCand p0 p1 p2 p3 p4 p5) := by
  unfold State.syncCand
  extract_lets -merge -useContext -underBinder x1 x2 x3
  have hx3 : Within b x3 := by
    unfold x3
    refine State.setCand_within qtiming ?_
    refine State.setZ_within c2 ?_
    exact hp0
  try clear_value x3
  refine ite_elim (P := Within b) ?_ ?_
  · refine State.candFault_within qevu qtiming c3 c4 c5 c6 ?_
    exact hx3
  · refine State.candSignal_within qtiming c5 c6 ?_
    exact hx3

theorem State.actRealign_within {b : Bounds} {p0 p1} (qclocks : b.parts .clocks) (hp0 : Within b p0) : Within b (State.actRealign p0 p1) := by
  unfold State.actRealign
  refine State.realignAll_within qclocks ?_
  exact hp0

theorem execStabEdgeLoss_within {b : Bounds} {p0} (qtiming : b.parts .timing) (qevu : b.parts .evu) (c2 : b.regs O02.STAB_STATE) (c3 : ∀ k ∈ eventRegs 42, b.regs k) (hp0 : Within b p0) : WithinOut b (execStabEdgeLoss p0) := by
  unfold execStabEdgeLoss
  refine live_within ?_ ?_
  · exact hp0
  · intro u1 hu2
    try beta_reduce
    refine ite_elim (P := Within b) ?_ ?_
    · refine State.setStab_within qtiming qevu c2 c3 ?_
      exact hu2
    · exact hu2

theorem execStabQualified_within {b : Bounds} {p0} (qtiming : b.parts .timing) (qevu : b.parts .evu) (c2 : b.regs O02.STAB_STATE) (c3 : ∀ k ∈ eventRegs 42, b.regs k) (hp0 : Within b p0) : WithinOut b (execStabQualified p0) := by
  unfold execStabQualified
  refine live_within ?_ ?_
  · exact hp0
  · intro u1 hu2
    try beta_reduce
    refine ite_elim (P := Within b) ?_ ?_
    · refine State.setStab_within qtiming qevu c2 c3 ?_
      exact hu2
    · exact hu2

theorem execStabSignalDetect_within {b : Bounds} {p0} (qtiming : b.parts .timing) (qevu : b.parts .evu) (c2 : b.regs O02.STAB_STATE) (c3 : ∀ k ∈ eventRegs 42, b.regs k) (hp0 : Within b p0) : WithinOut b (execStabSignalDetect p0) := by
  unfold execStabSignalDetect
  refine live_within ?_ ?_
  · exact hp0
  · intro u1 hu2
    try beta_reduce
    refine ite_elim (P := Within b) ?_ ?_
    · refine State.setStab_within qtiming qevu c2 c3 ?_
      exact hu2
    · exact hu2

theorem execFreqOffsetUpdate_within {b : Bounds} {p0 p1 p2} (qevu : b.parts .evu) (qtiming : b.parts .timing) (c2 : ∀ (w0 : ℕ), b.regs (O02.OUTVOTED w0)) (c3 : ∀ k ∈ eventRegs 45, b.regs k) (c4 : ∀ (w0 : ℕ), b.regs (O02.CAND_FLAGS w0)) (c5 : ∀ k ∈ eventRegs 163, b.regs k) (c6 : b.regs O02.XTAL_OFFSET) (c7 : ∀ (w0 : ℕ), b.regs (O02.PHASE_OFFSET w0)) (c8 : ∀ (w0 : ℕ), b.regs (O02.FREQ_OFFSET w0)) (c9 : ∀ k ∈ eventRegs 38, b.regs k) (c10 : ∀ (w0 : ℕ), b.regs (O02.CAND_STATE w0)) (c11 : ∀ k ∈ eventRegs 40, b.regs k) (c12 : ∀ k ∈ eventRegs 39, b.regs k) (c13 : b.regs O02.PULL_ETA) (c14 : b.regs O02.PULL_REMAIN) (hp2 : Within b p2) : WithinOut b (execFreqOffsetUpdate p0 p1 p2) := by
  unfold execFreqOffsetUpdate
  refine live_within ?_ ?_
  · exact hp2
  · intro u1 hu2
    try beta_reduce
    extract_lets -merge -useContext -underBinder x3
    have hx3 : Within b x3 := by
      unfold x3
      refine State.judgeAgreement_within qevu qtiming c2 c3 c4 c5 ?_
      refine State.forEach_within ?_ ?_
      · refine State.stabMeasure_within qtiming c6 ?_
        exact hu2
      · intro u4 u5 hu6
        try beta_reduce
        refine State.measure_within qtiming qevu (c7 _) (c8 _) (c4 _) c9 (c10 _) (c2 _) c11 c12 ?_
        exact hu6
    try clear_value x3
    refine ite_elim (P := Within b) ?_ ?_
    · refine State.setPull_within c13 c14 ?_
      exact hx3
    · exact hx3

theorem execCandidateSignal_within {b : Bounds} {p0 p1 p2} (qtiming : b.parts .timing) (c1 : b.regs (O02.CAND_STATE p0)) (c2 : b.regs (O02.OUTVOTED p0)) (c3 : b.regs (O02.PHASE_OFFSET p0)) (hp2 : Within b p2) : WithinOut b (execCandidateSignal p0 p1 p2) := by
  unfold execCandidateSignal
  refine live_within ?_ ?_
  · exact hp2
  · intro u1 hu2
    try beta_reduce
    extract_lets -merge -useContext -underBinder x3
    refine ite_elim (P := Within b) ?_ ?_
    · refine State.candSignal_within qtiming c1 c2 ?_
      refine ite_elim (P := Within b) ?_ ?_
      · refine State.setZ_within c3 ?_
        exact hu2
      · exact hu2
    · exact hu2

theorem execQualificationTimer_within {b : Bounds} {p0 p1} (qevu : b.parts .evu) (qtick : b.parts .tick) (qtiming : b.parts .timing) (c3 : ∀ k ∈ eventRegs 40, b.regs k) (c4 : b.regs (O02.CAND_STATE p0)) (c5 : b.regs (O02.OUTVOTED p0)) (hp1 : Within b p1) : WithinOut b (execQualificationTimer p0 p1) := by
  unfold execQualificationTimer
  refine live_within ?_ ?_
  · exact hp1
  · intro u1 hu1
    try beta_reduce
    refine ite_elim (P := Within b) ?_ ?_
    · refine State.qualify_within qevu qtick qtiming c3 c4 c5 ?_
      exact hu1
    · exact hu1

theorem execCandStop_within {b : Bounds} {p0 p1} (qevu : b.parts .evu) (qtiming : b.parts .timing) (c2 : b.regs (O02.CAND_FLAGS p0)) (c3 : ∀ k ∈ eventRegs 35, b.regs k) (c4 : b.regs (O02.CAND_STATE p0)) (c5 : b.regs (O02.OUTVOTED p0)) (hp1 : Within b p1) : WithinOut b (execCandStop p0 p1) := by
  unfold execCandStop
  refine live_within ?_ ?_
  · exact hp1
  · intro u1 hu1
    try beta_reduce
    refine ite_elim (P := Within b) ?_ ?_
    · refine State.candFault_within qevu qtiming c2 c3 c4 c5 ?_
      exact hu1
    · exact hu1

theorem execCandGlitch_within {b : Bounds} {p0 p1} (qevu : b.parts .evu) (qtiming : b.parts .timing) (c2 : b.regs (O02.CAND_FLAGS p0)) (c3 : ∀ k ∈ eventRegs 36, b.regs k) (c4 : b.regs (O02.CAND_STATE p0)) (c5 : b.regs (O02.OUTVOTED p0)) (hp1 : Within b p1) : WithinOut b (execCandGlitch p0 p1) := by
  unfold execCandGlitch
  refine live_within ?_ ?_
  · exact hp1
  · intro u1 hu1
    try beta_reduce
    refine ite_elim (P := Within b) ?_ ?_
    · refine State.candFault_within qevu qtiming c2 c3 c4 c5 ?_
      exact hu1
    · exact hu1

theorem execCandRate_within {b : Bounds} {p0 p1 p2} (qevu : b.parts .evu) (qtiming : b.parts .timing) (c2 : b.regs (O02.CAND_FLAGS p0)) (c3 : ∀ k ∈ eventRegs 37, b.regs k) (c4 : b.regs (O02.CAND_STATE p0)) (c5 : b.regs (O02.OUTVOTED p0)) (hp2 : Within b p2) : WithinOut b (execCandRate p0 p1 p2) := by
  unfold execCandRate
  refine live_within ?_ ?_
  · exact hp2
  · intro u1 hu2
    try beta_reduce
    refine ite_elim (P := Within b) ?_ ?_
    · refine State.candFault_within qevu qtiming c2 c3 c4 c5 ?_
      exact hu2
    · exact hu2

theorem execPtpSync_within {b : Bounds} {p0 p1 p2 p3 p4 p5} (qevu : b.parts .evu) (qtiming : b.parts .timing) (c2 : b.regs (O02.OFFSET_FROM_MASTER (32 + p0))) (c3 : ∀ w0, b.regs (O02.PHASE_OFFSET w0)) (c4 : ∀ w0, b.regs (O02.CAND_FLAGS w0)) (c5 : ∀ k ∈ eventRegs 36, b.regs k) (c6 : ∀ w0, b.regs (O02.CAND_STATE w0)) (c7 : ∀ w0, b.regs (O02.OUTVOTED w0)) (hp5 : Within b p5) : WithinOut b (execPtpSync p0 p1 p2 p3 p4 p5) := by
  unfold execPtpSync
  refine live_within ?_ ?_
  · exact hp5
  · intro u1 hu1
    try beta_reduce
    extract_lets -merge -useContext -underBinder x2 x3 x4
    have hx4 : Within b x4 := by
      unfold x4
      refine State.setZ_within c2 ?_
      exact hu1
    try clear_value x4
    refine ite_elim (P := Within b) ?_ ?_
    · split
      · refine ite_elim (P := Within b) ?_ ?_
        · exact hx4
        · refine State.syncCand_within qevu qtiming (c3 _) (c4 _) c5 (c6 _) (c7 _) ?_
          exact hx4
      · exact hx4
    · exact hu1

theorem execPtpAnnounce_within {b : Bounds} {p0 p1 p2 p3 p4 p5 p6 p7 p8} (qtiming : b.parts .timing) (qevu : b.parts .evu) (c2 : ∀ k ∈ eventRegs 3586, b.regs k) (c3 : b.regs (O02.GM_QUALITY (32 + p0))) (c4 : b.regs (O02.PARENT_GM (32 + p0))) (c5 : ∀ k ∈ eventRegs 3584, b.regs k) (c6 : ∀ (w0 : ℕ), b.regs (O02.QL w0)) (c7 : ∀ (w0 : ℕ), b.regs (O02.CAND_FLAGS w0)) (c8 : ∀ k ∈ eventRegs 37, b.regs k) (c9 : ∀ (w0 : ℕ), b.regs (O02.CAND_STATE w0)) (c10 : ∀ (w0 : ℕ), b.regs (O02.OUTVOTED w0)) (hp8 : Within b p8) : WithinOut b (execPtpAnnounce p0 p1 p2 p3 p4 p5 p6 p7 p8) := by
  unfold execPtpAnnounce
  refine live_within ?_ ?_
  · exact hp8
  · intro u1 hu2
    try beta_reduce
    extract_lets -merge -useContext -underBinder x3 x4 x5 x6 x7 x8 x9 x10 x11 x12 x13 x14
    have hx4 : Within b x4 := by
      unfold x4
      refine State.ptpStates_within qtiming qevu c2 ?_
      exact hu2
    try clear_value x4
    have hx8 : Within b x8 := by
      unfold x8
      refine State.setN_within c3 ?_
      refine State.setBytes_within c4 ?_
      exact hx4
    try clear_value x8
    have hx13 : Within b x13 := by
      unfold x13
      refine Within.f_timing (s := x8) qtiming ?_
      exact hx8
    try clear_value x13
    have hx14 : Within b x14 := by
      unfold x14
      refine ite_elim (P := Within b) ?_ ?_
      · exact hx13
      · refine State.raise_within qevu c5 ?_
        exact hx13
    try clear_value x14
    refine ite_elim (P := Within b) ?_ ?_
    · refine ite_elim (P := Within b) ?_ ?_
      · split
        · extract_lets -merge -useContext -underBinder x15
          have hx15 : Within b x15 := by
            unfold x15
            refine State.setQl_within qtiming (c6 _) ?_
            exact hx14
          try clear_value x15
          refine ite_elim (P := Within b) ?_ ?_
          · exact hx14
          · refine ite_elim (P := Within b) ?_ ?_
            · refine State.candFault_within qevu qtiming (c7 _) c8 (c9 _) (c10 _) ?_
              exact hx15
            · refine State.candSignal_within qtiming (c9 _) (c10 _) ?_
              exact hx15
        · exact hx14
      · exact hx4
    · exact hu2

theorem execPtpAnnounceTimeout_within {b : Bounds} {p0 p1 p2 p3} (qtiming : b.parts .timing) (qevu : b.parts .evu) (c2 : ∀ k ∈ eventRegs 3586, b.regs k) (c3 : ∀ k ∈ eventRegs 3585, b.regs k) (c4 : b.regs (O02.GM_QUALITY (32 + p0))) (c5 : b.regs (O02.PARENT_GM (32 + p0))) (c6 : ∀ (w0 : ℕ), b.regs (O02.CAND_FLAGS w0)) (c7 : ∀ k ∈ eventRegs 35, b.regs k) (c8 : ∀ (w0 : ℕ), b.regs (O02.CAND_STATE w0)) (c9 : ∀ (w0 : ℕ), b.regs (O02.OUTVOTED w0)) (hp3 : Within b p3) : WithinOut b (execPtpAnnounceTimeout p0 p1 p2 p3) := by
  unfold execPtpAnnounceTimeout
  refine live_within ?_ ?_
  · exact hp3
  · intro u1 hu2
    try beta_reduce
    extract_lets -merge -useContext -underBinder x3 x4 x5 x6 x7 x8 x9
    have hx5 : Within b x5 := by
      unfold x5
      refine State.ptpStates_within qtiming qevu c2 ?_
      refine State.raise_within qevu c3 ?_
      exact hu2
    try clear_value x5
    have hx8 : Within b x8 := by
      unfold x8
      refine Within.f_timing (s := x5) qtiming ?_
      exact hx5
    try clear_value x8
    have hx9 : Within b x9 := by
      unfold x9
      refine State.setN_within c4 ?_
      refine State.setBytes_within c5 ?_
      exact hx8
    try clear_value x9
    refine ite_elim (P := Within b) ?_ ?_
    · refine ite_elim (P := Within b) ?_ ?_
      · exact hx5
      · split
        · refine State.candFault_within qevu qtiming (c6 _) c7 (c8 _) (c9 _) ?_
          exact hx9
        · exact hx9
    · exact hu2

theorem State.ptpEmit_within {b : Bounds} {p0 p1 p2 p3 p4} (qsent : b.parts .sent) (hp0 : Within b p0) : Within b (State.ptpEmit p0 p1 p2 p3 p4) := by
  unfold State.ptpEmit
  extract_lets -merge -useContext -underBinder x1 x2
  refine State.emit_within qsent ?_
  exact hp0

theorem execPtpMessageSend_within {b : Bounds} {p0 p1 p2 p3} (qsent : b.parts .sent) (hp3 : Within b p3) : WithinOut b (execPtpMessageSend p0 p1 p2 p3) := by
  unfold execPtpMessageSend
  refine live_within ?_ ?_
  · exact hp3
  · intro u1 hu2
    try beta_reduce
    extract_lets -merge -useContext -underBinder x3 x4 x5 x6 x7 x8 x9 x10 x11 x12
    have hx12 : Within b x12 := by
      unfold x12
      refine State.ptpEmit_within qsent ?_
      exact hu2
    try clear_value x12
    refine ite_elim (P := Within b) ?_ ?_
    · refine ite_elim (P := Within b) ?_ ?_
      · refine State.ptpEmit_within qsent ?_
        exact hx12
      · exact hx12
    · exact hu2

theorem execPtpDelayRx_within {b : Bounds} {p0 p1 p2 p3 p4 p5 p6 p7} (qsent : b.parts .sent) (c1 : b.regs (O02.MEAN_PATH_DELAY (32 + p0))) (hp7 : Within b p7) : WithinOut b (execPtpDelayRx p0 p1 p2 p3 p4 p5 p6 p7) := by
  unfold execPtpDelayRx
  refine live_within ?_ ?_
  · exact hp7
  · intro u1 hu2
    try beta_reduce
    extract_lets -merge -useContext -underBinder x3
    refine ite_elim (P := Within b) ?_ ?_
    · split
      · refine ite_elim (P := Within b) ?_ ?_
        · refine State.ptpEmit_within qsent ?_
          exact hu2
        · exact hu2
      · refine ite_elim (P := Within b) ?_ ?_
        · exact hu2
        · refine State.setZ_within c1 ?_
          exact hu2
      · refine ite_elim (P := Within b) ?_ ?_
        · refine State.setZ_within c1 ?_
          exact hu2
        · exact hu2
      · exact hu2
    · exact hu2

theorem execEsmcReceived_within {b : Bounds} {p0 p1 p2 p3} (qtiming : b.parts .timing) (c1 : ∀ w0, b.regs (O02.QL w0)) (hp3 : Within b p3) : WithinOut b (execEsmcReceived p0 p1 p2 p3) := by
  unfold execEsmcReceived
  refine live_within ?_ ?_
  · exact hp3
  · intro u1 hu1
    try beta_reduce
    split
    · extract_lets -merge -useContext -underBinder x2
      refine ite_elim (P := Within b) ?_ ?_
      · exact hu1
      · refine State.setQl_within qtiming (c1 _) ?_
        refine State.setCand_within qtiming ?_
        exact hu1
    · exact hu1

theorem execEsmcTimeout_within {b : Bounds} {p0 p1} (qevu : b.parts .evu) (qtiming : b.parts .timing) (c2 : ∀ k ∈ eventRegs 3587, b.regs k) (c3 : b.regs (O02.QL p0)) (hp1 : Within b p1) : WithinOut b (execEsmcTimeout p0 p1) := by
  unfold execEsmcTimeout
  refine live_within ?_ ?_
  · exact hp1
  · intro u1 hu1
    try beta_reduce
    extract_lets -merge -useContext -underBinder x2
    refine ite_elim (P := Within b) ?_ ?_
    · refine State.raise_within qevu c2 ?_
      refine State.setQl_within qtiming c3 ?_
      refine State.setCand_within qtiming ?_
      exact hu1
    · exact hu1

theorem execEsmcSend_within {b : Bounds} {p0 p1} (qsent : b.parts .sent) (hp1 : Within b p1) : WithinOut b (execEsmcSend p0 p1) := by
  unfold execEsmcSend
  refine onInst_within ?_ ?_
  · exact hp1
  · intro u1 hu1
    try beta_reduce
    refine ite_elim (P := Within b) ?_ ?_
    · refine State.emit_within qsent ?_
      exact hu1
    · exact hu1

theorem execPullComplete_within {b : Bounds} {p0} (qevu : b.parts .evu) (c1 : b.regs O02.PULL_ETA) (c2 : b.regs O02.PULL_REMAIN) (c3 : ∀ k ∈ eventRegs 41, b.regs k) (c4 : b.regs O02.SEL_STATE) (hp0 : Within b p0) : WithinOut b (execPullComplete p0) := by
  unfold execPullComplete
  refine live_within ?_ ?_
  · exact hp0
  · intro u1 hu2
    try beta_reduce
    refine State.pullSeam_within qevu c1 c2 c3 c4 ?_
    exact hu2

theorem execHoldoverSpec_within {b : Bounds} {p0} (qevu : b.parts .evu) (qtiming : b.parts .timing) (c2 : ∀ k ∈ eventRegs 43, b.regs k) (hp0 : Within b p0) : WithinOut b (execHoldoverSpec p0) := by
  unfold execHoldoverSpec
  refine live_within ?_ ?_
  · exact hp0
  · intro u1 hu1
    refine State.holdoverSpec_within qevu qtiming c2 ?_
    exact hu1

end Sys2Proof.Machine
end

