-- ==== Sys2Proof/Laws/WithinClocks.lean ====
section
/-! SUPPORT. What each operation of Machine/Clocks.lean may change at most (Laws/Within.lean). -/

set_option maxRecDepth 8000

namespace Sys2Proof.Machine

theorem State.acsStatic_within {b : Bounds} {p0 p1} (qevu : b.parts .evu) (c1 : ∀ w0, ∀ k ∈ eventRegs w0, b.regs k) (c2 : ∀ w0, b.regs (State.portKey w0 (Sys2Proof.Machine.O0A.OUT_FLAGS 0))) (c3 : ∀ w0, b.regs (State.portKey w0 (Sys2Proof.Machine.O0A.OUT_STATE 0))) (hp0 : Within b p0) : Within b (State.acsStatic p0 p1) := by
  unfold State.acsStatic
  refine State.forEach_within ?_ ?_
  · exact hp0
  · intro u1 u2 hu1
    try beta_reduce
    refine State.raise_within qevu (c1 _) ?_
    refine State.flag_within (c2 _) ?_
    refine State.setN_within (c3 _) ?_
    exact hu1

theorem State.acsRun_within {b : Bounds} {p0 p1} (c0 : ∀ w0, b.regs (State.portKey w0 (Sys2Proof.Machine.O0A.OUT_STATE 0))) (c1 : ∀ w0, b.regs (State.portKey w0 (Sys2Proof.Machine.O0A.PORT_STATE_OUT 0))) (hp0 : Within b p0) : Within b (State.acsRun p0 p1) := by
  unfold State.acsRun
  refine State.forEach_within ?_ ?_
  · exact hp0
  · intro u1 u2 hu1
    try beta_reduce
    extract_lets -merge -useContext -underBinder x3
    have hx3 : Within b x3 := by
      unfold x3
      refine State.setN_within (c0 _) ?_
      exact hu1
    try clear_value x3
    refine ite_elim (P := Within b) ?_ ?_
    · refine State.setN_within (c1 _) ?_
      exact hx3
    · exact hx3

theorem State.squelchSynth_within {b : Bounds} {p0 p1} (qevu : b.parts .evu) (c1 : ∀ w0, b.regs (O07.OUT_STATE w0)) (c2 : ∀ w0, b.regs (O07.SQUELCH_CAUSE w0)) (c3 : ∀ w0, b.regs (O07.OUT_FLAGS w0)) (c4 : ∀ w0, b.regs (O0C.EMBED_STATE w0)) (c5 : ∀ w0, b.regs (O11.TX_STATE w0)) (c6 : ∀ w0, ∀ k ∈ eventRegs w0, b.regs k) (c7 : ∀ w0, b.regs (State.portKey w0 (Sys2Proof.Machine.O0A.OUT_FLAGS 0))) (c8 : ∀ w0, b.regs (State.portKey w0 (Sys2Proof.Machine.O0A.OUT_STATE 0))) (hp0 : Within b p0) : Within b (State.squelchSynth p0 p1) := by
  unfold State.squelchSynth
  refine ite_elim (P := Within b) ?_ ?_
  · refine State.forEach_within ?_ ?_
    · exact hp0
    · intro u1 u2 hu1
      try beta_reduce
      refine State.outSquelch_within qevu (c1 _) (c2 _) (c6 _) (c3 _) (c4 _) c5 ?_
      exact hu1
  · refine State.acsStatic_within qevu c6 c7 c8 ?_
    exact hp0

theorem State.pinTick_within {b : Bounds} {p0} (qsent : b.parts .sent) (qclocks : b.parts .clocks) (hp0 : Within b p0) : Within b (State.pinTick p0) := by
  unfold State.pinTick
  extract_lets -merge -useContext -underBinder x1 x2 x3
  have hx1 : Within b x1 := by
    unfold x1
    refine State.forEach_within ?_ ?_
    · exact hp0
    · intro u4 u5 hu6
      try beta_reduce
      extract_lets -merge -useContext -underBinder x7
      refine State.emit_within qsent ?_
      refine Within.f_clocks (s := u4) qclocks ?_
      exact hu6
  try clear_value x1
  have hx2 : Within b x2 := by
    unfold x2
    refine State.forEach_within ?_ ?_
    · exact hx1
    · intro u8 u9 hu10
      try beta_reduce
      split
      · refine State.emit_within qsent ?_
        exact hu10
      · exact hu10
  try clear_value x2
  refine ite_elim (P := Within b) ?_ ?_
  · refine State.emit_within qsent ?_
    exact hx2
  · exact hx2

theorem State.laneRateChange_within {b : Bounds} {p0 p1} (qevu : b.parts .evu) (qtiming : b.parts .timing) (c2 : ∀ (w0 : ℕ), b.regs (O02.CAND_FLAGS w0)) (c3 : ∀ k ∈ eventRegs 37, b.regs k) (c4 : ∀ (w0 : ℕ), b.regs (O02.CAND_STATE w0)) (c5 : ∀ (w0 : ℕ), b.regs (O02.OUTVOTED w0)) (hp0 : Within b p0) : Within b (State.laneRateChange p0 p1) := by
  unfold State.laneRateChange
  refine ite_elim (P := Within b) ?_ ?_
  · split
    · refine State.candFault_within qevu qtiming (c2 _) c3 (c4 _) (c5 _) ?_
      exact hp0
    · exact hp0
  · exact hp0

theorem State.clocksApplied_within {b : Bounds} {p0 p1} (qclocks : b.parts .clocks) (qevu : b.parts .evu) (qlanes : b.parts .lanes) (c3 : ∀ (w0 : ℕ), b.regs (O07.OUT_STATE w0)) (c4 : ∀ (w0 : ℕ), b.regs (O07.SQUELCH_CAUSE w0)) (c5 : ∀ (w0 : ℕ), b.regs (O07.OUT_FLAGS w0)) (c6 : ∀ (w0 : ℕ), b.regs (O0C.EMBED_STATE w0)) (c7 : ∀ (w0 : ℕ), b.regs (O11.TX_STATE w0)) (c8 : ∀ (w0 : ℕ), ∀ k ∈ eventRegs w0, b.regs k) (c9 : ∀ (w0 : ℕ), b.regs (State.portKey w0 (O0A.OUT_FLAGS 0))) (c10 : ∀ (w0 : ℕ), b.regs (State.portKey w0 (O0A.OUT_STATE 0))) (c11 : b.regs (State.synthKey (instOf p1 - 32))) (hp0 : Within b p0) : Within b (State.clocksApplied p0 p1) := by
  unfold State.clocksApplied
  extract_lets -merge -useContext -underBinder x1 x2 x3 x4 x5 x6
  have hx5 : Within b x5 := by
    unfold x5
    refine Within.f_clocks (s := p0) qclocks ?_
    exact hp0
  try clear_value x5
  have hx6 : Within b x6 := by
    unfold x6
    refine ite_elim (P := Within b) ?_ ?_
    · refine State.forEach_within ?_ ?_
      · exact hx5
      · intro u7 u8 hu9
        try beta_reduce
        refine State.lanePllLost_within qevu qlanes c3 c4 (c8 _) c5 c6 c7 ?_
        exact hu9
    · exact hx5
  try clear_value x6
  refine ite_elim (P := Within b) ?_ ?_
  · exact hp0
  · refine ite_elim (P := Within b) ?_ ?_
    · refine State.raise_within qevu (c8 _) ?_
      refine State.squelchSynth_within qevu c3 c4 c5 c6 c7 c8 c9 c10 ?_
      refine State.setN_within c11 ?_
      exact hx6
    · refine State.mapSynth_within qclocks ?_
      exact hp0

theorem State.lrefBad_within {b : Bounds} {p0 p1} (qclocks : b.parts .clocks) (hp0 : Within b p0) : Within b (State.lrefBad p0 p1) := by
  unfold State.lrefBad
  extract_lets -merge -useContext -underBinder x1
  refine Within.f_clocks (s := p0) qclocks ?_
  exact hp0

theorem execLrefPresent_within {b : Bounds} {p0 p1 p2} (qclocks : b.parts .clocks) (qevu : b.parts .evu) (c2 : b.regs (O03.LREF_OFFSET (16 + p0))) (c3 : ∀ k ∈ eventRegs 52, b.regs k) (c4 : b.regs (O03.LREF_STATE (16 + p0))) (hp2 : Within b p2) : WithinOut b (execLrefPresent p0 p1 p2) := by
  unfold execLrefPresent
  refine live_within ?_ ?_
  · exact hp2
  · intro u1 hu2
    try beta_reduce
    extract_lets -merge -useContext -underBinder x3 x4
    have hx4 : Within b x4 := by
      unfold x4
      refine State.setZ_within c2 ?_
      exact hu2
    try clear_value x4
    refine ite_elim (P := Within b) ?_ ?_
    · exact hu2
    · refine ite_elim (P := Within b) ?_ ?_
      · refine State.lrefBad_within qclocks ?_
        exact hx4
      · refine ite_elim (P := Within b) ?_ ?_
        · refine State.raise_within qevu c3 ?_
          refine State.setN_within c4 ?_
          exact hx4
        · exact hx4

theorem execLrefLost_within {b : Bounds} {p0 p1} (qevu : b.parts .evu) (qclocks : b.parts .clocks) (qlanes : b.parts .lanes) (c3 : ∀ k ∈ eventRegs 51, b.regs k) (c4 : b.regs (O03.LREF_STATE (16 + p0))) (c5 : ∀ (w0 : ℕ), b.regs (O07.OUT_STATE w0)) (c6 : ∀ (w0 : ℕ), b.regs (O07.SQUELCH_CAUSE w0)) (c7 : ∀ k ∈ eventRegs 112, b.regs k) (c8 : ∀ (w0 : ℕ), b.regs (O07.OUT_FLAGS w0)) (c9 : ∀ (w0 : ℕ), b.regs (O0C.EMBED_STATE w0)) (c10 : ∀ (w0 : ℕ), b.regs (O11.TX_STATE w0)) (c11 : ∀ (w0 : ℕ), b.regs (O11.CHK_STATE w0)) (hp1 : Within b p1) : WithinOut b (execLrefLost p0 p1) := by
  unfold execLrefLost
  refine live_within ?_ ?_
  · exact hp1
  · intro u1 hu2
    try beta_reduce
    extract_lets -merge -useContext -underBinder x3
    refine ite_elim (P := Within b) ?_ ?_
    · refine State.forEach_within ?_ ?_
      · refine State.raise_within qevu c3 ?_
        refine State.setN_within c4 ?_
        refine State.lrefBad_within qclocks ?_
        exact hu2
      · intro u4 u5 hu6
        try beta_reduce
        extract_lets -merge -useContext -underBinder x7
        have hx7 : Within b x7 := by
          unfold x7
          refine State.lanePllLost_within qevu qlanes c5 c6 c7 c8 c9 c10 ?_
          exact hu6
        try clear_value x7
        refine ite_elim (P := Within b) ?_ ?_
        · refine State.laneSearch_within qlanes (c11 _) ?_
          exact hx7
        · exact hx7
    · exact hu2

theorem execSynthUnlocked_within {b : Bounds} {p0 p1} (qclocks : b.parts .clocks) (qevu : b.parts .evu) (c2 : ∀ (w0 : ℕ), b.regs (O07.OUT_STATE w0)) (c3 : ∀ (w0 : ℕ), b.regs (O07.SQUELCH_CAUSE w0)) (c4 : ∀ (w0 : ℕ), b.regs (O07.OUT_FLAGS w0)) (c5 : ∀ (w0 : ℕ), b.regs (O0C.EMBED_STATE w0)) (c6 : ∀ (w0 : ℕ), b.regs (O11.TX_STATE w0)) (c7 : ∀ (w0 : ℕ), ∀ k ∈ eventRegs w0, b.regs k) (c8 : ∀ (w0 : ℕ), b.regs (State.portKey w0 (O0A.OUT_FLAGS 0))) (c9 : ∀ (w0 : ℕ), b.regs (State.portKey w0 (O0A.OUT_STATE 0))) (c10 : b.regs (State.synthKey p0)) (hp1 : Within b p1) : WithinOut b (execSynthUnlocked p0 p1) := by
  unfold execSynthUnlocked
  refine live_within ?_ ?_
  · exact hp1
  · intro u1 hu2
    try beta_reduce
    extract_lets -merge -useContext -underBinder x3 x4 x5 x6
    have hx5 : Within b x5 := by
      unfold x5
      refine Within.f_clocks (s := u1) qclocks ?_
      exact hu2
    try clear_value x5
    have hx6 : Within b x6 := by
      unfold x6
      refine State.raise_within qevu (c7 _) ?_
      refine State.squelchSynth_within qevu c2 c3 c4 c5 c6 c7 c8 c9 ?_
      refine State.setN_within c10 ?_
      exact hx5
    try clear_value x6
    refine ite_elim (P := Within b) ?_ ?_
    · refine ite_elim (P := Within b) ?_ ?_
      · refine State.raise_within qevu (c7 _) ?_
        exact hx6
      · exact hx6
    · exact hu2

theorem execSynthRelocked_within {b : Bounds} {p0 p1} (qclocks : b.parts .clocks) (qevu : b.parts .evu) (c2 : b.regs (State.synthKey p0)) (c3 : ∀ k ∈ eventRegs 55, b.regs k) (c4 : ∀ (w0 : ℕ), b.regs (State.portKey w0 (O0A.OUT_STATE 0))) (c5 : ∀ (w0 : ℕ), b.regs (State.portKey w0 (O0A.PORT_STATE_OUT 0))) (hp1 : Within b p1) : WithinOut b (execSynthRelocked p0 p1) := by
  unfold execSynthRelocked
  refine live_within ?_ ?_
  · exact hp1
  · intro u1 hu2
    try beta_reduce
    refine ite_elim (P := Within b) ?_ ?_
    · split
      · extract_lets -merge -useContext -underBinder x3
        refine State.setN_within c2 ?_
        refine Within.f_clocks (s := u1) qclocks ?_
        exact hu2
      · extract_lets -merge -useContext -underBinder x4 x5 x6 x7
        have hx4 : Within b x4 := by
          unfold x4
          refine State.raise_within qevu c3 ?_
          refine State.setN_within c2 ?_
          exact hu2
        try clear_value x4
        have hx5 : Within b x5 := by
          unfold x5
          refine State.acsRun_within c4 c5 ?_
          exact hx4
        try clear_value x5
        refine ite_elim (P := Within b) ?_ ?_
        · exact hu2
        · refine ite_elim (P := Within b) ?_ ?_
          · exact hx4
          · refine ite_elim (P := Within b) ?_ ?_
            · exact hx5
            · refine Within.f_clocks (s := x5) qclocks ?_
              exact hx5
    · exact hu2

theorem execLanePllLockLost_within {b : Bounds} {p0 p1} (qevu : b.parts .evu) (qlanes : b.parts .lanes) (c2 : ∀ w0, b.regs (O07.OUT_STATE w0)) (c3 : ∀ w0, b.regs (O07.SQUELCH_CAUSE w0)) (c4 : ∀ k ∈ eventRegs 112, b.regs k) (c5 : ∀ w0, b.regs (O07.OUT_FLAGS w0)) (c6 : ∀ w0, b.regs (O0C.EMBED_STATE w0)) (c7 : ∀ w0, b.regs (O11.TX_STATE w0)) (hp1 : Within b p1) : WithinOut b (execLanePllLockLost p0 p1) := by
  unfold execLanePllLockLost
  refine onInst_within ?_ ?_
  · exact hp1
  · intro u1 hu1
    try beta_reduce
    refine State.lanePllLost_within qevu qlanes c2 c3 c4 c5 c6 c7 ?_
    exact hu1

theorem execLaneTxRelease_within {b : Bounds} {p0 p1} (qlanes : b.parts .lanes) (c1 : b.regs (O11.TX_STATE p0)) (hp1 : Within b p1) : WithinOut b (execLaneTxRelease p0 p1) := by
  unfold execLaneTxRelease
  refine onInst_within ?_ ?_
  · exact hp1
  · intro u1 hu1
    try beta_reduce
    extract_lets -merge -useContext -underBinder x2
    refine ite_elim (P := Within b) ?_ ?_
    · exact hu1
    · refine State.laneTx_within c1 ?_
      refine State.setLane_within qlanes ?_
      exact hu1

end Sys2Proof.Machine
end

