-- ==== Sys2Proof/Laws/WithinStreams.lean ====
section
/-! SUPPORT. What each operation of Machine/Streams.lean may change at most (Laws/Within.lean). -/

set_option maxRecDepth 8000

namespace Sys2Proof.Machine

theorem State.setDesc_within {b : Bounds} {p0 p1 p2} (qfabric : b.parts .fabric) (hp0 : Within b p0) : Within b (State.setDesc p0 p1 p2) := by
  unfold State.setDesc
  extract_lets -merge -useContext -underBinder x1
  refine Within.f_fabric (s := p0) qfabric ?_
  exact hp0

theorem State.onDesc_within {b : Bounds} {p0 p1 p2} (qfabric : b.parts .fabric) (hp0 : Within b p0) : Within b (State.onDesc p0 p1 p2) := by
  unfold State.onDesc
  split
  · exact hp0
  · refine State.setDesc_within qfabric ?_
    exact hp0

theorem State.substituteN_within {b : Bounds} {p0 p1 p2} (qchain : b.parts .chain) (qfabric : b.parts .fabric) (hp0 : Within b p0) : Within b (State.substituteN p0 p1 p2) := by
  unfold State.substituteN
  extract_lets -merge -useContext -underBinder x1 x2
  have hx2 : Within b x2 := by
    unfold x2
    refine Within.f_chain (s := p0) qchain ?_
    exact hp0
  try clear_value x2
  refine ite_elim (P := Within b) ?_ ?_
  · exact hp0
  · refine State.onDesc_within qfabric ?_
    exact hx2

theorem State.substitute_within {b : Bounds} {p0 p1} (qchain : b.parts .chain) (qfabric : b.parts .fabric) (hp0 : Within b p0) : Within b (State.substitute p0 p1) := by
  unfold State.substitute
  refine State.substituteN_within qchain qfabric ?_
  exact hp0

theorem State.restartStreams_within {b : Bounds} {p0 p1} (qfabric : b.parts .fabric) (hp0 : Within b p0) : Within b (State.restartStreams p0 p1) := by
  unfold State.restartStreams
  extract_lets -merge -useContext -underBinder x1 x2 x3
  have hx2 : Within b x2 := by
    unfold x2
    refine State.forEach_within ?_ ?_
    · exact hp0
    · intro u4 u5 hu6
      try beta_reduce
      refine State.onDesc_within qfabric ?_
      exact hu6
  try clear_value x2
  refine Within.f_fabric (s := x2) qfabric ?_
  exact hx2

theorem State.invalidCells_within {b : Bounds} {p0 p1 p2} (qevu : b.parts .evu) (qfabric : b.parts .fabric) (c2 : b.regs (O04.PORT_FLAGS p1)) (c3 : b.regs (O04.INVALID_CELLS p1)) (c4 : ∀ k ∈ eventRegs 66, b.regs k) (hp0 : Within b p0) : Within b (State.invalidCells p0 p1 p2) := by
  unfold State.invalidCells
  extract_lets -merge -useContext -underBinder x1 x2
  have hx1 : Within b x1 := by
    unfold x1
    refine State.flag_within c2 ?_
    refine State.bump_within c3 ?_
    exact hp0
  try clear_value x1
  refine ite_elim (P := Within b) ?_ ?_
  · exact hp0
  · refine ite_elim (P := Within b) ?_ ?_
    · exact hx1
    · refine State.raise_within qevu c4 ?_
      refine Within.f_fabric (s := x1) qfabric ?_
      exact hx1

theorem State.validCells_within {b : Bounds} {p0 p1} (qfabric : b.parts .fabric) (hp0 : Within b p0) : Within b (State.validCells p0 p1) := by
  unfold State.validCells
  extract_lets -merge -useContext -underBinder x1
  refine Within.f_fabric (s := p0) qfabric ?_
  exact hp0

theorem State.errorCell_within {b : Bounds} {p0 p1 p2 p3} (qevu : b.parts .evu) (c1 : ∀ k ∈ eventRegs 70, b.regs k) (c2 : b.regs (O04.PORT_FLAGS p1)) (c3 : b.regs (O04.ERROR_CELLS p1)) (hp0 : Within b p0) : Within b (State.errorCell p0 p1 p2 p3) := by
  unfold State.errorCell
  refine State.raise_within qevu c1 ?_
  refine State.flag_within c2 ?_
  refine State.bump_within c3 ?_
  exact hp0

end Sys2Proof.Machine
end

