-- ==== Sys2Proof/Laws/WithinFrameMemory.lean ====
section
/-! SUPPORT. What each operation of Machine/FrameMemory.lean may change at most (Laws/Within.lean). -/

set_option maxRecDepth 8000

namespace Sys2Proof.Machine

theorem State.fmPut_within {b : Bounds} {p0 p1 p2} (qfmem : b.parts .fmem) (qbytes : b.parts .bytes) (hp0 : Within b p0) : Within b (State.fmPut p0 p1 p2) := by
  unfold State.fmPut
  exact Within.f_bytes (s := p0) qfmem qbytes hp0 FmemSt.ok_setD

theorem State.fmWrite_within {b : Bounds} {p0 p1 p2} (qfmem : b.parts .fmem) (qbytes : b.parts .bytes) (hp0 : Within b p0) : Within b (State.fmWrite p0 p1 p2) := by
  unfold State.fmWrite
  extract_lets -merge -useContext -underBinder x1 x2
  have hx2 : Within b x2 := by
    unfold x2
    refine Within.f_fmem (s := p0) qfmem ?_ (by exact fun h => h) (by rfl)
    exact hp0
  try clear_value x2
  refine State.forEach_within ?_ ?_
  · exact hx2
  · intro u3 u4 hu3
    try beta_reduce
    refine State.fmPut_within qfmem qbytes ?_
    exact hu3

theorem State.rebuildSystem_within {b : Bounds} {p0 p1} (qchain : b.parts .chain) (qfmem : b.parts .fmem) (hp0 : Within b p0) : Within b (State.rebuildSystem p0 p1) := by
  unfold State.rebuildSystem
  extract_lets -merge -useContext -underBinder x1 x2 x3
  have hx2 : Within b x2 := by
    unfold x2
    refine Within.f_chain (s := p0) qchain ?_
    exact hp0
  try clear_value x2
  refine Within.f_fmem (s := x2) qfmem ?_ (by exact fun h => h) (by rfl)
  exact hx2

theorem State.countFree_within {b : Bounds} {p0} (c0 : b.regs O05.GENERAL_FREE) (c1 : ∀ w0, b.regs (O05.LARGEST_FREE w0)) (c2 : ∀ w0, b.regs (O05.FREE_BYTES w0)) (hp0 : Within b p0) : Within b (State.countFree p0) := by
  unfold State.countFree
  extract_lets -merge -useContext -underBinder x1
  refine State.setN_within c0 ?_
  refine State.forEach_within ?_ ?_
  · exact hp0
  · intro u2 u3 hu2
    try beta_reduce
    refine State.setN_within (c1 _) ?_
    refine State.setN_within (c2 _) ?_
    exact hu2

theorem State.allocate_within {b : Bounds} {p0 p1 p2 p3} (qfmem : b.parts .fmem) (c1 : b.regs O05.GENERAL_FREE) (c2 : ∀ w0, b.regs (O05.LARGEST_FREE w0)) (c3 : ∀ w0, b.regs (O05.FREE_BYTES w0)) (hp0 : Within b p0) : Within2S b (State.allocate p0 p1 p2 p3) := by
  unfold State.allocate
  refine ite_elim (P := Within2S b) ?_ ?_
  · exact optionNone
  · split
    · exact optionNone
    · extract_lets -merge -useContext -underBinder x1
      refine optionSome (P := Within2 b) ?_
      refine within2_mk ?_
      refine State.countFree_within c1 c2 c3 ?_
      refine Within.f_fmem (s := p0) qfmem ?_ (by exact fun h => h) (by rfl)
      exact hp0

theorem State.memSeam_within {b : Bounds} {p0} (qfmem : b.parts .fmem) (c1 : ∀ (w0 : ℕ), b.regs (O05.CLIP_STATE w0)) (hp0 : Within b p0) : Within b (State.memSeam p0) := by
  unfold State.memSeam
  extract_lets -merge -useContext -underBinder x1 x2
  have hx1 : Within b x1 := by
    unfold x1
    refine State.forEach_within ?_ ?_
    · exact hp0
    · intro u3 u4 hu5
      try beta_reduce
      refine ite_elim (P := Within b) ?_ ?_
      · refine State.setN_within (c1 _) ?_
        exact hu5
      · exact hu5
  try clear_value x1
  refine Within.f_fmem (s := x1) qfmem ?_ (by exact fun h => h) (by rfl)
  exact hx1

theorem State.freeExtent_within {b : Bounds} {p0 p1} (qfmem : b.parts .fmem) (c1 : b.regs O05.GENERAL_FREE) (c2 : ∀ w0, b.regs (O05.LARGEST_FREE w0)) (c3 : ∀ w0, b.regs (O05.FREE_BYTES w0)) (hp0 : Within b p0) : Within b (State.freeExtent p0 p1) := by
  unfold State.freeExtent
  extract_lets -merge -useContext -underBinder x1
  refine State.countFree_within c1 c2 c3 ?_
  refine Within.f_fmem (s := p0) qfmem ?_ (by exact fun h => h) (by rfl)
  exact hp0

theorem State.journal_within {b : Bounds} {p0 p1 p2} (qjrnl : b.parts .jrnl) (hp0 : Within b p0) : Within b (State.journal p0 p1 p2) := by
  unfold State.journal
  extract_lets -merge -useContext -underBinder x1
  refine Within.f_jrnl (s := p0) qjrnl ?_
  exact hp0

theorem State.countCE_within {b : Bounds} {p0 p1 p2} (qevu : b.parts .evu) (qfmem : b.parts .fmem) (c2 : b.regs (O05.STACK_FLAGS (p1 / Sys2Proof.Machine.stackBytes))) (c3 : b.regs (O05.LAST_ERROR_PIN (Sys2Proof.Machine.chanInst p1))) (c4 : b.regs (O05.LAST_ERROR_ADDR (Sys2Proof.Machine.chanInst p1))) (c5 : b.regs (O05.CE_COUNT (Sys2Proof.Machine.chanInst p1))) (c6 : b.regs (O05.PIN_CE (Sys2Proof.Machine.chanInst p1))) (c7 : ∀ k ∈ eventRegs 80, b.regs k) (c8 : ∀ k ∈ eventRegs 86, b.regs k) (hp0 : Within b p0) : Within b (State.countCE p0 p1 p2) := by
  unfold State.countCE
  extract_lets -merge -useContext -underBinder x1 x2 x3 x4 x5 x6 x7
  have hx4 : Within b x4 := by
    unfold x4
    refine State.flag_within c2 ?_
    refine State.setN_within c3 ?_
    refine State.setN_within c4 ?_
    refine State.bump_within c5 ?_
    exact hp0
  try clear_value x4
  have hx5 : Within b x5 := by
    unfold x5
    refine ite_elim (P := Within b) ?_ ?_
    · refine State.setBytes_within c6 ?_
      exact hx4
    · exact hx4
  try clear_value x5
  have hx6 : Within b x6 := by
    unfold x6
    refine State.raiseLim_within qevu c7 ?_
    exact hx5
  try clear_value x6
  refine ite_elim (P := Within b) ?_ ?_
  · refine State.raise_within qevu c8 ?_
    refine Within.f_fmem (s := x6) qfmem ?_ (by exact fun h => h) (by rfl)
    exact hx6
  · exact hx6

theorem State.countCell_within {b : Bounds} {p0 p1 p2} (qevu : b.parts .evu) (qfmem : b.parts .fmem) (c2 : b.regs (O05.STACK_FLAGS (p1 / stackBytes))) (c3 : b.regs (O05.LAST_ERROR_PIN (chanInst p1))) (c4 : b.regs (O05.LAST_ERROR_ADDR (chanInst p1))) (c5 : b.regs (O05.CE_COUNT (chanInst p1))) (c6 : b.regs (O05.PIN_CE (chanInst p1))) (c7 : ∀ k ∈ eventRegs 80, b.regs k) (c8 : ∀ k ∈ eventRegs 86, b.regs k) (hp0 : Within b p0) : Within b (State.countCell p0 p1 p2) := by
  unfold State.countCell
  refine State.forEach_within ?_ ?_
  · exact hp0
  · intro u1 u2 hu3
    try beta_reduce
    refine State.countCE_within qevu qfmem c2 c3 c4 c5 c6 c7 c8 ?_
    exact hu3

theorem State.countCells_within {b : Bounds} {p0 p1} (qevu : b.parts .evu) (qfmem : b.parts .fmem) (c2 : ∀ (w0 : ℕ), b.regs (O05.STACK_FLAGS w0)) (c3 : ∀ (w0 : ℕ), b.regs (O05.LAST_ERROR_PIN w0)) (c4 : ∀ (w0 : ℕ), b.regs (O05.LAST_ERROR_ADDR w0)) (c5 : ∀ (w0 : ℕ), b.regs (O05.CE_COUNT w0)) (c6 : ∀ (w0 : ℕ), b.regs (O05.PIN_CE w0)) (c7 : ∀ k ∈ eventRegs 80, b.regs k) (c8 : ∀ k ∈ eventRegs 86, b.regs k) (hp0 : Within b p0) : Within b (State.countCells p0 p1) := by
  unfold State.countCells
  refine State.forEach_within ?_ ?_
  · exact hp0
  · intro u1 u2 hu3
    try beta_reduce
    refine State.countCell_within qevu qfmem (c2 _) (c3 _) (c4 _) (c5 _) (c6 _) c7 c8 ?_
    exact hu3

theorem State.countUE_within {b : Bounds} {p0 p1 p2} (qfmem : b.parts .fmem) (c1 : b.regs (O05.STACK_FLAGS (p1 / stackBytes))) (c2 : b.regs (O05.LAST_ERROR_ADDR (chanInst p1))) (c3 : b.regs (O05.UE_COUNT (chanInst p1))) (hp0 : Within b p0) : Within b (State.countUE p0 p1 p2) := by
  unfold State.countUE
  extract_lets -merge -useContext -underBinder x1 x2 x3 x4
  have hx3 : Within b x3 := by
    unfold x3
    refine State.flag_within c1 ?_
    refine State.setN_within c2 ?_
    refine State.bump_within c3 ?_
    exact hp0
  try clear_value x3
  refine Within.f_fmem (s := x3) qfmem ?_ (by exact fun h => h) (by rfl)
  exact hx3

theorem State.countTest_within {b : Bounds} {p0 p1 p2 p3} (qfmem : b.parts .fmem) (hp0 : Within b p0) : Within b (State.countTest p0 p1 p2 p3) := by
  unfold State.countTest
  extract_lets -merge -useContext -underBinder x1 x2 x3
  refine Within.f_fmem (s := p0) qfmem ?_ (by exact fun h => h) (by rfl)
  exact hp0

theorem State.damageClip_within {b : Bounds} {p0 p1 p2} (qfmem : b.parts .fmem) (qevu : b.parts .evu) (c2 : b.regs (O05.CLIP_DAMAGED p1)) (c3 : ∀ k ∈ eventRegs 89, b.regs k) (c4 : b.regs (O05.CLIP_STATE p1)) (hp0 : Within b p0) : Within b (State.damageClip p0 p1 p2) := by
  unfold State.damageClip
  extract_lets -merge -useContext -underBinder x1 x2 x3 x4 x5 x6
  have hx5 : Within b x5 := by
    unfold x5
    refine ite_elim (P := Within b) ?_ ?_
    · exact hp0
    · refine State.bump_within c2 ?_
      refine Within.f_fmem (s := p0) qfmem ?_ (by exact fun h => h) (by rfl)
      exact hp0
  try clear_value x5
  refine ite_elim (P := Within b) ?_ ?_
  · refine State.raise_within qevu c3 ?_
    refine State.setN_within c4 ?_
    exact hx5
  · refine ite_elim (P := Within b) ?_ ?_
    · refine State.raise_within qevu c3 ?_
      refine Within.f_fmem (s := x5) qfmem ?_ (by exact fun h => h) (by rfl)
      exact hx5
    · exact hx5

theorem State.mendClip_within {b : Bounds} {p0 p1} (qfmem : b.parts .fmem) (c1 : b.regs (O05.CLIP_DAMAGED p1)) (hp0 : Within b p0) : Within b (State.mendClip p0 p1) := by
  unfold State.mendClip
  extract_lets -merge -useContext -underBinder x1
  refine State.setN_within c1 ?_
  refine Within.f_fmem (s := p0) qfmem ?_ (by exact fun h => h) (by rfl)
  exact hp0

theorem State.placeClip_within {b : Bounds} {p0 p1} (qfmem : b.parts .fmem) (c1 : b.regs O05.GENERAL_FREE) (c2 : ∀ (w0 : ℕ), b.regs (O05.LARGEST_FREE w0)) (c3 : ∀ (w0 : ℕ), b.regs (O05.FREE_BYTES w0)) (c4 : b.regs (O05.CLIP_DAMAGED p1)) (c5 : b.regs (O05.CLIP_LOADED p1)) (c6 : b.regs (O05.CLIP_BASE p1)) (c7 : b.regs (O05.CLIP_BYTES p1)) (c8 : b.regs (O05.CLIP_STATE p1)) (hp0 : Within b p0) : WithinS b (State.placeClip p0 p1) := by
  unfold State.placeClip
  extract_lets -merge -useContext -underBinder x1 x2
  split
  · rename_i y3 e4
    have k5 := transport (P := Within2S b) e4 (by
      refine State.allocate_within qfmem c1 c2 c3 ?_
      exact hp0
      )
    exact optionNone
  · rename_i y6 y7 y8 e9
    have k10 := transport (P := Within2S b) e9 (by
      refine State.allocate_within qfmem c1 c2 c3 ?_
      exact hp0
      )
    refine optionSome ?_
    refine State.mendClip_within qfmem c4 ?_
    refine State.setN_within c5 ?_
    refine State.setN_within c6 ?_
    refine State.setN_within c7 ?_
    refine State.setN_within c8 ?_
    exact (k10 _ rfl)

theorem State.actClipAlloc_within {b : Bounds} {p0 p1} (qfmem : b.parts .fmem) (qjrnl : b.parts .jrnl) (c2 : b.regs O05.GENERAL_FREE) (c3 : ∀ (w0 : ℕ), b.regs (O05.LARGEST_FREE w0)) (c4 : ∀ (w0 : ℕ), b.regs (O05.FREE_BYTES w0)) (c5 : b.regs (O05.CLIP_DAMAGED p1)) (c6 : b.regs (O05.CLIP_LOADED p1)) (c7 : b.regs (O05.CLIP_BASE p1)) (c8 : b.regs (O05.CLIP_BYTES p1)) (c9 : b.regs (O05.CLIP_STATE p1)) (c10 : b.regs O01.LAST_REFUSAL) (hp0 : Within b p0) : Within1 b (State.actClipAlloc p0 p1) := by
  unfold State.actClipAlloc
  refine ite_elim (P := Within1 b) ?_ ?_
  · refine within1_mk ?_
    exact hp0
  · refine ite_elim (P := Within1 b) ?_ ?_
    · refine within1_mk ?_
      exact hp0
    · split
      · rename_i y1 e2
        have k3 := transport (P := WithinS b) e2 (by
          refine State.placeClip_within qfmem c2 c3 c4 c5 c6 c7 c8 c9 ?_
          exact hp0
          )
        refine within1_mk ?_
        refine State.setN_within c10 ?_
        exact hp0
      · rename_i y4 y5 e6
        have k7 := transport (P := WithinS b) e6 (by
          refine State.placeClip_within qfmem c2 c3 c4 c5 c6 c7 c8 c9 ?_
          exact hp0
          )
        extract_lets -merge -useContext -underBinder x8 x9
        have hx9 : Within b x9 := by
          unfold x9
          refine ite_elim (P := Within b) ?_ ?_
          · refine State.setN_within c9 ?_
            refine Within.f_fmem (s := y5) qfmem ?_ (by exact fun h => h) (by rfl)
            exact (k7 _ rfl)
          · exact (k7 _ rfl)
        try clear_value x9
        refine within1_mk ?_
        refine State.journal_within qjrnl ?_
        exact hx9

theorem State.actClipRelease_within {b : Bounds} {p0 p1} (qfmem : b.parts .fmem) (qjrnl : b.parts .jrnl) (c2 : b.regs O05.GENERAL_FREE) (c3 : ∀ (w0 : ℕ), b.regs (O05.LARGEST_FREE w0)) (c4 : ∀ (w0 : ℕ), b.regs (O05.FREE_BYTES w0)) (c5 : b.regs (O05.CLIP_DAMAGED p1)) (c6 : b.regs (O05.CLIP_LOADED p1)) (c7 : b.regs (O05.CLIP_BASE p1)) (c8 : b.regs (O05.CLIP_BYTES p1)) (c9 : b.regs (O05.CLIP_STATE p1)) (hp0 : Within b p0) : Within1 b (State.actClipRelease p0 p1) := by
  unfold State.actClipRelease
  extract_lets -merge -useContext -underBinder x1 x2 x3 x4
  have hx3 : Within b x3 := by
    unfold x3
    refine State.freeExtent_within qfmem c2 c3 c4 ?_
    refine Within.f_fmem (s := p0) qfmem ?_ (by exact fun h => h) (by rfl)
    exact hp0
  try clear_value x3
  have hx4 : Within b x4 := by
    unfold x4
    refine State.mendClip_within qfmem c5 ?_
    refine State.setN_within c6 ?_
    refine State.setN_within c7 ?_
    refine State.setN_within c8 ?_
    refine State.setN_within c9 ?_
    exact hx3
  try clear_value x4
  refine ite_elim (P := Within1 b) ?_ ?_
  · refine within1_mk ?_
    exact hp0
  · refine ite_elim (P := Within1 b) ?_ ?_
    · refine within1_mk ?_
      exact hp0
    · refine ite_elim (P := Within1 b) ?_ ?_
      · refine within1_mk ?_
        exact hp0
      · refine within1_mk ?_
        refine State.journal_within qjrnl ?_
        exact hx4

theorem State.startClipLoad_within {b : Bounds} {p0 p1 p2 p3} (qsent : b.parts .sent) (qevu : b.parts .evu) (qsess : b.parts .sess) (qmail : b.parts .mail) (qjobs : b.parts .jobs) (qfmem : b.parts .fmem) (c6 : ∀ (w0 : ℕ), b.regs (O1B.JOB_ENDED w0)) (c7 : ∀ (w0 : ℕ), b.regs (O1B.JOB_RESULT w0)) (c8 : ∀ (w0 : ℕ), b.regs (O1B.JOB_OWNER w0)) (c9 : ∀ (w0 : ℕ), b.regs (O1B.JOB_PROGRESS w0)) (c10 : ∀ (w0 : ℕ), b.regs (O1B.JOB_STATUS w0)) (c11 : ∀ (w0 : ℕ), b.regs (O1B.JOB_OBJECT w0)) (c12 : ∀ (w0 : ℕ), b.regs (O1C.SESS_QUEUE w0)) (c13 : ∀ k ∈ eventRegs 451, b.regs k) (c14 : b.regs O1C.FILULO_FLAGS) (c15 : ∀ k ∈ eventRegs 432, b.regs k) (c16 : b.regs O1B.JOBS_QUEUED) (c17 : b.regs O1B.JOBS_RUNNING) (c18 : ∀ (w0 : ℕ), b.regs (O1B.JOB_STARTED w0)) (c19 : ∀ (w0 : ℕ), b.regs (O1B.JOB_STATE w0)) (c20 : b.regs (O05.CLIP_DAMAGED p3)) (c21 : b.regs (O05.CLIP_LOADED p3)) (c22 : b.regs (O05.CLIP_STATE p3)) (hp0 : Within b p0) : Within1 b (State.startClipLoad p0 p1 p2 p3) := by
  unfold State.startClipLoad
  extract_lets -merge -useContext -underBinder x1 x2
  have hx2 : Within1 b x2 := by
    unfold x2
    refine State.startJob_within qsent qevu qsess qmail qjobs c6 c7 c8 c9 c10 c11 c12 c13 c14 c15 c16 c17 c18 c19 ?_
    exact hp0
  try clear_value x2
  refine ite_elim (P := Within1 b) ?_ ?_
  · refine within1_mk ?_
    exact hp0
  · refine ite_elim (P := Within1 b) ?_ ?_
    · refine within1_mk ?_
      exact hp0
    · refine ite_elim (P := Within1 b) ?_ ?_
      · refine within1_mk ?_
        exact hp0
      · refine ite_elim (P := Within1 b) ?_ ?_
        · refine within1_mk ?_
          refine State.mendClip_within qfmem c20 ?_
          refine State.setN_within c21 ?_
          refine State.setN_within c22 ?_
          change Within1 b _
          exact hx2
        · exact hx2

theorem State.startClipSave_within {b : Bounds} {p0 p1 p2 p3} (qsent : b.parts .sent) (qevu : b.parts .evu) (qsess : b.parts .sess) (qmail : b.parts .mail) (qjobs : b.parts .jobs) (qfmem : b.parts .fmem) (c6 : ∀ (w0 : ℕ), b.regs (O1B.JOB_ENDED w0)) (c7 : ∀ (w0 : ℕ), b.regs (O1B.JOB_RESULT w0)) (c8 : ∀ (w0 : ℕ), b.regs (O1B.JOB_OWNER w0)) (c9 : ∀ (w0 : ℕ), b.regs (O1B.JOB_PROGRESS w0)) (c10 : ∀ (w0 : ℕ), b.regs (O1B.JOB_STATUS w0)) (c11 : ∀ (w0 : ℕ), b.regs (O1B.JOB_OBJECT w0)) (c12 : ∀ (w0 : ℕ), b.regs (O1C.SESS_QUEUE w0)) (c13 : ∀ k ∈ eventRegs 451, b.regs k) (c14 : b.regs O1C.FILULO_FLAGS) (c15 : ∀ k ∈ eventRegs 432, b.regs k) (c16 : b.regs O1B.JOBS_QUEUED) (c17 : b.regs O1B.JOBS_RUNNING) (c18 : ∀ (w0 : ℕ), b.regs (O1B.JOB_STARTED w0)) (c19 : ∀ (w0 : ℕ), b.regs (O1B.JOB_STATE w0)) (c20 : b.regs (O05.CLIP_STATE p3)) (hp0 : Within b p0) : Within1 b (State.startClipSave p0 p1 p2 p3) := by
  unfold State.startClipSave
  extract_lets -merge -useContext -underBinder x1 x2 x3 x4
  have hx2 : Within1 b x2 := by
    unfold x2
    refine State.startJob_within qsent qevu qsess qmail qjobs c6 c7 c8 c9 c10 c11 c12 c13 c14 c15 c16 c17 c18 c19 ?_
    exact hp0
  try clear_value x2
  have hx3 : Within b x3 := by
    unfold x3
    change Within1 b _
    exact hx2
  try clear_value x3
  refine ite_elim (P := Within1 b) ?_ ?_
  · refine within1_mk ?_
    exact hp0
  · refine ite_elim (P := Within1 b) ?_ ?_
    · refine within1_mk ?_
      exact hp0
    · refine ite_elim (P := Within1 b) ?_ ?_
      · refine within1_mk ?_
        refine State.setN_within c20 ?_
        refine Within.f_fmem (s := x3) qfmem ?_ (by exact fun h => h) (by rfl)
        exact hx3
      · exact hx2

theorem State.clipJobEnd_within {b : Bounds} {p0 p1 p2} (qfabric : b.parts .fabric) (qfmem : b.parts .fmem) (c2 : b.regs (O05.CLIP_LOADED (instOf p1))) (c3 : b.regs (O05.CLIP_STATE (instOf p1))) (hp0 : Within b p0) : Within b (State.clipJobEnd p0 p1 p2) := by
  unfold State.clipJobEnd
  extract_lets -merge -useContext -underBinder x1 x2 x3 x4
  have hx3 : Within b x3 := by
    unfold x3
    refine Within.f_fabric (s := p0) qfabric ?_
    exact hp0
  try clear_value x3
  refine ite_elim (P := Within b) ?_ ?_
  · refine ite_elim (P := Within b) ?_ ?_
    · refine State.setN_within c2 ?_
      refine State.setN_within c3 ?_
      exact hx3
    · refine State.setN_within c2 ?_
      refine State.setN_within c3 ?_
      exact hx3
  · refine State.setN_within c3 ?_
    refine Within.f_fmem (s := x3) qfmem ?_ (by exact fun h => h) (by rfl)
    exact hx3

theorem State.relayIn_within {b : Bounds} {p0 p1 p2} (qfabric : b.parts .fabric) (hp0 : Within b p0) : Within b (State.relayIn p0 p1 p2) := by
  unfold State.relayIn
  extract_lets -merge -useContext -underBinder x1
  refine Within.f_fabric (s := p0) qfabric ?_
  exact hp0

theorem State.relayOut_within {b : Bounds} {p0 p1 p2} (qfabric : b.parts .fabric) (hp0 : Within b p0) : Within b (State.relayOut p0 p1 p2) := by
  unfold State.relayOut
  extract_lets -merge -useContext -underBinder x1
  refine Within.f_fabric (s := p0) qfabric ?_
  exact hp0

theorem State.clipStage_within {b : Bounds} {p0 p1 p2 p3} (qfmem : b.parts .fmem) (qbytes : b.parts .bytes) (hp0 : Within b p0) : Within1 b (State.clipStage p0 p1 p2 p3) := by
  unfold State.clipStage
  extract_lets -merge -useContext -underBinder x1 x2 x3 x4 x5
  refine ite_elim (P := Within1 b) ?_ ?_
  · refine within1_mk ?_
    refine State.fmWrite_within qfmem qbytes ?_
    refine State.fmWrite_within qfmem qbytes ?_
    exact hp0
  · refine within1_mk ?_
    exact hp0

theorem State.openGap_within {b : Bounds} {p0 p1 p2} (qfresh : b.parts .fresh) (qfmem : b.parts .fmem) (qbytes : b.parts .bytes) (hp0 : Within b p0) : Within b (State.openGap p0 p1 p2) := by
  unfold State.openGap
  refine Within.of_eq (t := p0) [.fresh, .fmem, .bytes] (all3 qfresh qfmem qbytes) (by intro p h; cases p <;> first | rfl | exact absurd (by decide) h) rfl
    (fun i => ⟨i.1, i.2.1, i.2.2.1, i.2.2.2.1, FmemSt.ok_wild i.2.2.2.2.1, i.2.2.2.2.2⟩) ?_
  exact hp0

theorem State.wildFree_within {b : Bounds} {p0 p1} (qfresh : b.parts .fresh) (qfmem : b.parts .fmem) (qbytes : b.parts .bytes) (hp0 : Within b p0) : Within b (State.wildFree p0 p1) := by
  unfold State.wildFree
  refine State.forEach_within ?_ ?_
  · exact hp0
  · intro u1 u2 hu3
    try beta_reduce
    refine State.openGap_within qfresh qfmem qbytes ?_
    exact hu3

theorem State.startMemtest_within {b : Bounds} {p0 p1 p2 p3} (qsent : b.parts .sent) (qevu : b.parts .evu) (qsess : b.parts .sess) (qmail : b.parts .mail) (qjobs : b.parts .jobs) (qfresh : b.parts .fresh) (qfmem : b.parts .fmem) (qbytes : b.parts .bytes) (c8 : ∀ (w0 : ℕ), b.regs (O1B.JOB_ENDED w0)) (c9 : ∀ (w0 : ℕ), b.regs (O1B.JOB_RESULT w0)) (c10 : ∀ (w0 : ℕ), b.regs (O1B.JOB_OWNER w0)) (c11 : ∀ (w0 : ℕ), b.regs (O1B.JOB_PROGRESS w0)) (c12 : ∀ (w0 : ℕ), b.regs (O1B.JOB_STATUS w0)) (c13 : ∀ (w0 : ℕ), b.regs (O1B.JOB_OBJECT w0)) (c14 : ∀ (w0 : ℕ), b.regs (O1C.SESS_QUEUE w0)) (c15 : ∀ k ∈ eventRegs 451, b.regs k) (c16 : b.regs O1C.FILULO_FLAGS) (c17 : ∀ k ∈ eventRegs 432, b.regs k) (c18 : b.regs O1B.JOBS_QUEUED) (c19 : b.regs O1B.JOBS_RUNNING) (c20 : ∀ (w0 : ℕ), b.regs (O1B.JOB_STARTED w0)) (c21 : ∀ (w0 : ℕ), b.regs (O1B.JOB_STATE w0)) (hp0 : Within b p0) : Within1 b (State.startMemtest p0 p1 p2 p3) := by
  unfold State.startMemtest
  extract_lets -merge -useContext -underBinder x1 x2 x3
  have hx1 : Within1 b x1 := by
    unfold x1
    refine State.startJob_within qsent qevu qsess qmail qjobs c8 c9 c10 c11 c12 c13 c14 c15 c16 c17 c18 c19 c20 c21 ?_
    exact hp0
  try clear_value x1
  have hx2 : Within b x2 := by
    unfold x2
    refine State.wildFree_within qfresh qfmem qbytes ?_
    change Within1 b _
    exact hx1
  try clear_value x2
  refine ite_elim (P := Within1 b) ?_ ?_
  · refine within1_mk ?_
    exact hp0
  · refine ite_elim (P := Within1 b) ?_ ?_
    · refine within1_mk ?_
      refine Within.f_fmem (s := x2) qfmem ?_ (by exact fun h => h) (by rfl)
      exact hx2
    · exact hx1

theorem State.testRead_within {b : Bounds} {p0 p1} (qevu : b.parts .evu) (qfmem : b.parts .fmem) (c2 : ∀ (w0 : ℕ), b.regs (O05.STACK_FLAGS w0)) (c3 : ∀ (w0 : ℕ), b.regs (O05.LAST_ERROR_PIN w0)) (c4 : ∀ (w0 : ℕ), b.regs (O05.LAST_ERROR_ADDR w0)) (c5 : ∀ (w0 : ℕ), b.regs (O05.CE_COUNT w0)) (c6 : ∀ (w0 : ℕ), b.regs (O05.PIN_CE w0)) (c7 : ∀ k ∈ eventRegs 80, b.regs k) (c8 : ∀ k ∈ eventRegs 86, b.regs k) (hp0 : Within b p0) : Within b (State.testRead p0 p1) := by
  unfold State.testRead
  refine State.forEach_within ?_ ?_
  · exact hp0
  · intro u1 u2 hu3
    try beta_reduce
    extract_lets -merge -useContext -underBinder x4
    refine State.countCell_within qevu qfmem (c2 _) (c3 _) (c4 _) (c5 _) (c6 _) c7 c8 ?_
    refine State.countTest_within qfmem ?_
    exact hu3

theorem State.testEnds_within {b : Bounds} {p0} (qfmem : b.parts .fmem) (hp0 : Within b p0) : Within b (State.testEnds p0) := by
  unfold State.testEnds
  extract_lets -merge -useContext -underBinder x1
  refine Within.f_fmem (s := p0) qfmem ?_ (by exact fun h => h) (by rfl)
  exact hp0

theorem State.rewindLeg_within {b : Bounds} {p0 p1 p2 p3} (qfabric : b.parts .fabric) (hp0 : Within b p0) : Within b (State.rewindLeg p0 p1 p2 p3) := by
  unfold State.rewindLeg
  split
  · extract_lets -merge -useContext -underBinder x1
    refine Within.f_fabric (s := p0) qfabric ?_
    exact hp0
  · exact hp0

theorem State.rewindClip_within {b : Bounds} {p0 p1 p2 p3} (qfabric : b.parts .fabric) (qjobs : b.parts .jobs) (hp0 : Within b p0) : Within b (State.rewindClip p0 p1 p2 p3) := by
  unfold State.rewindClip
  extract_lets -merge -useContext -underBinder x1 x2 x3 x4
  have hx2 : Within b x2 := by
    unfold x2
    refine State.rewindLeg_within qfabric ?_
    refine State.rewindLeg_within qfabric ?_
    exact hp0
  try clear_value x2
  have hx4 : Within b x4 := by
    unfold x4
    refine Within.f_fabric (s := x2) qfabric ?_
    exact hx2
  try clear_value x4
  refine State.setJob_within qjobs ?_
  exact hx4

theorem State.rewindClips_within {b : Bounds} {p0} (qfabric : b.parts .fabric) (qjobs : b.parts .jobs) (hp0 : Within b p0) : Within b (State.rewindClips p0) := by
  unfold State.rewindClips
  refine State.forEach_within ?_ ?_
  · exact hp0
  · intro u1 u2 hu3
    try beta_reduce
    extract_lets -merge -useContext -underBinder x4
    refine ite_elim (P := Within b) ?_ ?_
    · exact hu3
    · refine ite_elim (P := Within b) ?_ ?_
      · refine State.rewindClip_within qfabric qjobs ?_
        exact hu3
      · refine ite_elim (P := Within b) ?_ ?_
        · refine State.rewindClip_within qfabric qjobs ?_
          exact hu3
        · exact hu3

theorem execEccRetry_within {b : Bounds} {p0 p1 p2 p3 p4} (qevu : b.parts .evu) (qfmem : b.parts .fmem) (qchain : b.parts .chain) (qfabric : b.parts .fabric) (c4 : b.regs (O05.STACK_FLAGS (p0 / 128 * 128 / stackBytes))) (c5 : b.regs (O05.LAST_ERROR_PIN (chanInst (p0 / 128 * 128)))) (c6 : b.regs (O05.LAST_ERROR_ADDR (chanInst (p0 / 128 * 128)))) (c7 : b.regs (O05.CE_COUNT (chanInst (p0 / 128 * 128)))) (c8 : b.regs (O05.PIN_CE (chanInst (p0 / 128 * 128)))) (c9 : ∀ k ∈ eventRegs 80, b.regs k) (c10 : ∀ k ∈ eventRegs 86, b.regs k) (c11 : ∀ k ∈ eventRegs 84, b.regs k) (c12 : b.regs (O05.RETRY_OK (chanInst p0))) (c13 : b.regs (O05.STACK_FLAGS (p0 / stackBytes))) (c14 : b.regs (O05.LAST_ERROR_ADDR (chanInst p0))) (c15 : b.regs (O05.UE_COUNT (chanInst p0))) (c16 : ∀ k ∈ eventRegs 81, b.regs k) (c17 : b.regs (O05.CLIP_DAMAGED p2)) (c18 : ∀ k ∈ eventRegs 89, b.regs k) (c19 : b.regs (O05.CLIP_STATE p2)) (c20 : ∀ k ∈ eventRegs 83, b.regs k) (c21 : ∀ k ∈ eventRegs 82, b.regs k) (c22 : ∀ k ∈ eventRegs 90, b.regs k) (hp4 : Within b p4) : WithinOut b (execEccRetry p0 p1 p2 p3 p4) := by
  unfold execEccRetry
  refine live_within ?_ ?_
  · exact hp4
  · intro u1 hu2
    try beta_reduce
    extract_lets -merge -useContext -underBinder x3 x4 x5 x6 x7 x8 x9
    have hx8 : Within b x8 := by
      unfold x8
      refine State.countCell_within qevu qfmem c4 c5 c6 c7 c8 c9 c10 ?_
      refine State.raiseLim_within qevu c11 ?_
      refine State.bump_within c12 ?_
      exact hu2
    try clear_value x8
    have hx9 : Within b x9 := by
      unfold x9
      refine State.countUE_within qfmem c13 c14 c15 ?_
      exact hu2
    try clear_value x9
    refine ite_elim (P := Within b) ?_ ?_
    · exact hu2
    · refine ite_elim (P := Within b) ?_ ?_
      · refine ite_elim (P := Within b) ?_ ?_
        · refine State.countTest_within qfmem ?_
          exact hx8
        · exact hx8
      · split
        · refine State.raise_within qevu c16 ?_
          refine State.substitute_within qchain qfabric ?_
          exact hx9
        · refine State.raise_within qevu c16 ?_
          refine State.damageClip_within qfmem qevu c17 c18 c19 ?_
          exact hx9
        · refine State.raise_within qevu c20 ?_
          exact hx9
        · refine State.raise_within qevu c20 ?_
          exact hx9
        · refine State.rebuildSystem_within qchain qfmem ?_
          refine State.raise_within qevu c21 ?_
          exact hx9
        · refine State.raise_within qevu c16 ?_
          exact hx9
        · refine State.countTest_within qfmem ?_
          refine State.raise_within qevu c22 ?_
          exact hx9

theorem execRefreshCollision_within {b : Bounds} {p0 p1 p2 p3} (qevu : b.parts .evu) (c1 : ∀ k ∈ eventRegs 85, b.regs k) (c2 : b.regs (O05.STACK_FLAGS p0)) (c3 : b.regs (O05.REFRESH_COLLISIONS p0)) (hp3 : Within b p3) : WithinOut b (execRefreshCollision p0 p1 p2 p3) := by
  unfold execRefreshCollision
  refine live_within ?_ ?_
  · exact hp3
  · intro u1 hu2
    try beta_reduce
    refine ite_elim (P := Within b) ?_ ?_
    · exact hu2
    · refine State.raiseLim_within qevu c1 ?_
      refine State.flag_within c2 ?_
      refine State.bump_within c3 ?_
      exact hu2

theorem execStackTemperature_within {b : Bounds} {p0 p1 p2} (qevu : b.parts .evu) (c1 : b.regs (O05.STACK_TEMP p0)) (c2 : b.regs (O05.REFRESH_RATE p0)) (c3 : b.regs (O05.STACK_FLAGS p0)) (c4 : ∀ k ∈ eventRegs 87, b.regs k) (hp2 : Within b p2) : WithinOut b (execStackTemperature p0 p1 p2) := by
  unfold execStackTemperature
  refine live_within ?_ ?_
  · exact hp2
  · intro u1 hu1
    try beta_reduce
    extract_lets -merge -useContext -underBinder x2 x3 x4 x5 x6 x7 x8
    have hx6 : Within b x6 := by
      unfold x6
      refine State.setZ_within c1 ?_
      exact hu1
    try clear_value x6
    have hx7 : Within b x7 := by
      unfold x7
      refine State.setN_within c2 ?_
      exact hx6
    try clear_value x7
    have hx8 : Within b x8 := by
      unfold x8
      refine ite_elim (P := Within b) ?_ ?_
      · refine State.flag_within c3 ?_
        exact hx7
      · exact hx7
    try clear_value x8
    refine ite_elim (P := Within b) ?_ ?_
    · exact hu1
    · refine ite_elim (P := Within b) ?_ ?_
      · exact hx6
      · refine State.raise_within qevu c4 ?_
        exact hx8

theorem execScrubRead_within {b : Bounds} {p0 p1} (qevu : b.parts .evu) (qfmem : b.parts .fmem) (c2 : ∀ (w0 : ℕ), b.regs (O05.STACK_FLAGS w0)) (c3 : ∀ (w0 : ℕ), b.regs (O05.LAST_ERROR_PIN w0)) (c4 : ∀ (w0 : ℕ), b.regs (O05.LAST_ERROR_ADDR w0)) (c5 : ∀ (w0 : ℕ), b.regs (O05.CE_COUNT w0)) (c6 : ∀ (w0 : ℕ), b.regs (O05.PIN_CE w0)) (c7 : ∀ k ∈ eventRegs 80, b.regs k) (c8 : ∀ k ∈ eventRegs 86, b.regs k) (c9 : b.regs O05.SCRUB_PASSES) (c10 : b.regs O05.SCRUB_POSITION) (c11 : ∀ k ∈ eventRegs 88, b.regs k) (hp1 : Within b p1) : WithinOut b (execScrubRead p0 p1) := by
  unfold execScrubRead
  refine live_within ?_ ?_
  · exact hp1
  · intro u1 hu2
    try beta_reduce
    extract_lets -merge -useContext -underBinder x3 x4 x5 x6 x7 x8 x9 x10 x11 x12
    have hx6 : Within b x6 := by
      unfold x6
      refine State.countCells_within qevu qfmem c2 c3 c4 c5 c6 c7 c8 ?_
      exact hu2
    try clear_value x6
    have hx9 : Within b x9 := by
      unfold x9
      refine Within.f_fmem (s := x6) qfmem ?_ (by exact fun h => h) (by rfl)
      exact hx6
    try clear_value x9
    have hx10 : Within b x10 := by
      unfold x10
      refine State.bump_within c9 ?_
      refine State.setN_within c10 ?_
      exact hx9
    try clear_value x10
    have hx11 : Within b x11 := by
      unfold x11
      refine State.forEach_within ?_ ?_
      · exact hx10
      · intro u13 u14 hu15
        try beta_reduce
        refine State.clearObj_within (c6 _) ?_
        exact hu15
    try clear_value x11
    refine ite_elim (P := Within b) ?_ ?_
    · exact hu2
    · refine ite_elim (P := Within b) ?_ ?_
      · refine State.setN_within c10 ?_
        exact hx9
      · refine State.raise_within qevu c11 ?_
        refine Within.f_fmem (s := x11) qfmem ?_ (by exact fun h => h) (by rfl)
        exact hx11

theorem execScrubWriteBack_within {b : Bounds} {p0 p1} (qfmem : b.parts .fmem) (hp1 : Within b p1) : WithinOut b (execScrubWriteBack p0 p1) := by
  unfold execScrubWriteBack
  refine live_within ?_ ?_
  · exact hp1
  · intro u1 hu1
    try beta_reduce
    extract_lets -merge -useContext -underBinder x2
    refine Within.f_fmem (s := u1) qfmem ?_ (by exact fun h => h) (by rfl)
    exact hu1

theorem execMemtest_within {b : Bounds} {p0 p1 p2} (qsent : b.parts .sent) (qevu : b.parts .evu) (qsess : b.parts .sess) (qmail : b.parts .mail) (qjobs : b.parts .jobs) (qfresh : b.parts .fresh) (qfmem : b.parts .fmem) (qbytes : b.parts .bytes) (c8 : ∀ (w0 : ℕ), b.regs (O1B.JOB_ENDED w0)) (c9 : ∀ (w0 : ℕ), b.regs (O1B.JOB_RESULT w0)) (c10 : ∀ (w0 : ℕ), b.regs (O1B.JOB_OWNER w0)) (c11 : ∀ (w0 : ℕ), b.regs (O1B.JOB_PROGRESS w0)) (c12 : ∀ (w0 : ℕ), b.regs (O1B.JOB_STATUS w0)) (c13 : ∀ (w0 : ℕ), b.regs (O1B.JOB_OBJECT w0)) (c14 : ∀ (w0 : ℕ), b.regs (O1C.SESS_QUEUE w0)) (c15 : ∀ k ∈ eventRegs 451, b.regs k) (c16 : b.regs O1C.FILULO_FLAGS) (c17 : ∀ k ∈ eventRegs 432, b.regs k) (c18 : b.regs O1B.JOBS_QUEUED) (c19 : b.regs O1B.JOBS_RUNNING) (c20 : ∀ (w0 : ℕ), b.regs (O1B.JOB_STARTED w0)) (c21 : ∀ (w0 : ℕ), b.regs (O1B.JOB_STATE w0)) (hp2 : Within b p2) : WithinOut b (execMemtest p0 p1 p2) := by
  unfold execMemtest
  refine live_within ?_ ?_
  · exact hp2
  · intro u1 hu2
    try beta_reduce
    refine ite_elim (P := Within b) ?_ ?_
    · change Within1 b _
      refine State.startMemtest_within qsent qevu qsess qmail qjobs qfresh qfmem qbytes c8 c9 c10 c11 c12 c13 c14 c15 c16 c17 c18 c19 c20 c21 ?_
      exact hu2
    · exact hu2

theorem execClipAlloc_within {b : Bounds} {p0 p1} (qfmem : b.parts .fmem) (qjrnl : b.parts .jrnl) (c2 : b.regs O05.GENERAL_FREE) (c3 : ∀ (w0 : ℕ), b.regs (O05.LARGEST_FREE w0)) (c4 : ∀ (w0 : ℕ), b.regs (O05.FREE_BYTES w0)) (c5 : b.regs (O05.CLIP_DAMAGED p0)) (c6 : b.regs (O05.CLIP_LOADED p0)) (c7 : b.regs (O05.CLIP_BASE p0)) (c8 : b.regs (O05.CLIP_BYTES p0)) (c9 : b.regs (O05.CLIP_STATE p0)) (c10 : b.regs O01.LAST_REFUSAL) (hp1 : Within b p1) : WithinOut b (execClipAlloc p0 p1) := by
  unfold execClipAlloc
  refine onInst_within ?_ ?_
  · exact hp1
  · intro u1 hu2
    try beta_reduce
    refine ite_elim (P := Within b) ?_ ?_
    · change Within1 b _
      refine State.actClipAlloc_within qfmem qjrnl c2 c3 c4 c5 c6 c7 c8 c9 c10 ?_
      exact hu2
    · exact hu2

theorem execClipRelease_within {b : Bounds} {p0 p1} (qfmem : b.parts .fmem) (qjrnl : b.parts .jrnl) (c2 : b.regs O05.GENERAL_FREE) (c3 : ∀ (w0 : ℕ), b.regs (O05.LARGEST_FREE w0)) (c4 : ∀ (w0 : ℕ), b.regs (O05.FREE_BYTES w0)) (c5 : b.regs (O05.CLIP_DAMAGED p0)) (c6 : b.regs (O05.CLIP_LOADED p0)) (c7 : b.regs (O05.CLIP_BASE p0)) (c8 : b.regs (O05.CLIP_BYTES p0)) (c9 : b.regs (O05.CLIP_STATE p0)) (hp1 : Within b p1) : WithinOut b (execClipRelease p0 p1) := by
  unfold execClipRelease
  refine onInst_within ?_ ?_
  · exact hp1
  · intro u1 hu2
    try beta_reduce
    refine ite_elim (P := Within b) ?_ ?_
    · change Within1 b _
      refine State.actClipRelease_within qfmem qjrnl c2 c3 c4 c5 c6 c7 c8 c9 ?_
      exact hu2
    · exact hu2

theorem execClipLoad_within {b : Bounds} {p0 p1 p2} (qsent : b.parts .sent) (qevu : b.parts .evu) (qsess : b.parts .sess) (qmail : b.parts .mail) (qjobs : b.parts .jobs) (qfmem : b.parts .fmem) (c6 : ∀ (w0 : ℕ), b.regs (O1B.JOB_ENDED w0)) (c7 : ∀ (w0 : ℕ), b.regs (O1B.JOB_RESULT w0)) (c8 : ∀ (w0 : ℕ), b.regs (O1B.JOB_OWNER w0)) (c9 : ∀ (w0 : ℕ), b.regs (O1B.JOB_PROGRESS w0)) (c10 : ∀ (w0 : ℕ), b.regs (O1B.JOB_STATUS w0)) (c11 : ∀ (w0 : ℕ), b.regs (O1B.JOB_OBJECT w0)) (c12 : ∀ (w0 : ℕ), b.regs (O1C.SESS_QUEUE w0)) (c13 : ∀ k ∈ eventRegs 451, b.regs k) (c14 : b.regs O1C.FILULO_FLAGS) (c15 : ∀ k ∈ eventRegs 432, b.regs k) (c16 : b.regs O1B.JOBS_QUEUED) (c17 : b.regs O1B.JOBS_RUNNING) (c18 : ∀ (w0 : ℕ), b.regs (O1B.JOB_STARTED w0)) (c19 : ∀ (w0 : ℕ), b.regs (O1B.JOB_STATE w0)) (c20 : b.regs (O05.CLIP_DAMAGED p1)) (c21 : b.regs (O05.CLIP_LOADED p1)) (c22 : b.regs (O05.CLIP_STATE p1)) (hp2 : Within b p2) : WithinOut b (execClipLoad p0 p1 p2) := by
  unfold execClipLoad
  refine onInst_within ?_ ?_
  · exact hp2
  · intro u1 hu2
    try beta_reduce
    refine ite_elim (P := Within b) ?_ ?_
    · change Within1 b _
      refine State.startClipLoad_within qsent qevu qsess qmail qjobs qfmem c6 c7 c8 c9 c10 c11 c12 c13 c14 c15 c16 c17 c18 c19 c20 c21 c22 ?_
      exact hu2
    · exact hu2

theorem execClipSave_within {b : Bounds} {p0 p1 p2} (qsent : b.parts .sent) (qevu : b.parts .evu) (qsess : b.parts .sess) (qmail : b.parts .mail) (qjobs : b.parts .jobs) (qfmem : b.parts .fmem) (c6 : ∀ w0, b.regs (O1B.JOB_ENDED w0)) (c7 : ∀ w0, b.regs (O1B.JOB_RESULT w0)) (c8 : ∀ w0, b.regs (O1B.JOB_OWNER w0)) (c9 : ∀ w0, b.regs (O1B.JOB_PROGRESS w0)) (c10 : ∀ w0, b.regs (O1B.JOB_STATUS w0)) (c11 : ∀ w0, b.regs (O1B.JOB_OBJECT w0)) (c12 : ∀ w0, b.regs (O1C.SESS_QUEUE w0)) (c13 : ∀ k ∈ eventRegs 451, b.regs k) (c14 : b.regs O1C.FILULO_FLAGS) (c15 : ∀ k ∈ eventRegs 432, b.regs k) (c16 : b.regs O1B.JOBS_QUEUED) (c17 : b.regs O1B.JOBS_RUNNING) (c18 : ∀ w0, b.regs (O1B.JOB_STARTED w0)) (c19 : ∀ w0, b.regs (O1B.JOB_STATE w0)) (c20 : b.regs (O05.CLIP_STATE p1)) (hp2 : Within b p2) : WithinOut b (execClipSave p0 p1 p2) := by
  unfold execClipSave
  refine onInst_within ?_ ?_
  · exact hp2
  · intro u1 hu1
    try beta_reduce
    refine ite_elim (P := Within b) ?_ ?_
    · change Within1 b _
      refine State.startClipSave_within qsent qevu qsess qmail qjobs qfmem c6 c7 c8 c9 c10 c11 c12 c13 c14 c15 c16 c17 c18 c19 c20 ?_
      exact hu1
    · exact hu1

end Sys2Proof.Machine
end

