-- ==== Sys2Proof/Laws/WithinPixels.lean ====
section
/-! SUPPORT. What each operation of Machine/Pixels.lean may change at most (Laws/Within.lean). -/

set_option maxRecDepth 8000

namespace Sys2Proof.Machine

theorem State.setPooled_within {b : Bounds} {p0 p1 p2} (qconv : b.parts .conv) (hp0 : Within b p0) : Within b (State.setPooled p0 p1 p2) := by
  unfold State.setPooled
  extract_lets -merge -useContext -underBinder x1
  refine Within.f_conv (s := p0) qconv ?_
  exact hp0

theorem State.beginRead_within {b : Bounds} {p0 p1 p2} (qfabric : b.parts .fabric) (hp0 : Within b p0) : Within b (State.beginRead p0 p1 p2) := by
  unfold State.beginRead
  refine State.forEach_within ?_ ?_
  · exact hp0
  · intro u1 u2 hu3
    try beta_reduce
    refine State.setDesc_within qfabric ?_
    exact hu3

theorem State.ringBegin_within {b : Bounds} {p0 p1} (qfabric : b.parts .fabric) (qconv : b.parts .conv) (hp0 : Within b p0) : Within b (State.ringBegin p0 p1) := by
  unfold State.ringBegin
  extract_lets -merge -useContext -underBinder x1 x2 x3 x4 x5
  refine ite_elim (P := Within b) ?_ ?_
  · exact hp0
  · refine ite_elim (P := Within b) ?_ ?_
    · refine State.beginRead_within qfabric ?_
      refine State.beginRead_within qfabric ?_
      exact hp0
    · refine Within.f_conv (s := p0) qconv ?_
      exact hp0

theorem State.feed_within {b : Bounds} {p0 p1 p2} (qconv : b.parts .conv) (hp0 : Within b p0) : Within b (State.feed p0 p1 p2) := by
  unfold State.feed
  split
  · exact hp0
  · extract_lets -merge -useContext -underBinder x1 x2 x3
    have hx2 : Within b x2 := by
      unfold x2
      refine State.setPooled_within qconv ?_
      exact hp0
    try clear_value x2
    refine ite_elim (P := Within b) ?_ ?_
    · refine Within.f_conv (s := x2) qconv ?_
      exact hx2
    · exact hx2

end Sys2Proof.Machine
end

