-- ==== Sys2Proof/Laws/WithinTrunk.lean ====
section
/-! SUPPORT. What each operation of Machine/Trunk.lean may change at most (Laws/Within.lean). -/

set_option maxRecDepth 8000

namespace Sys2Proof.Machine

theorem State.setFurlong_within {b : Bounds} {p0 p1 p2} (qfurlongs : b.parts .furlongs) (hp0 : Within b p0) : Within b (State.setFurlong p0 p1 p2) := by
  unfold State.setFurlong
  refine Within.f_furlongs (s := p0) qfurlongs ?_
  exact hp0

theorem State.bumpPair_within {b : Bounds} {p0 p1 p2 p3} (c0 : b.regs p1) (hp0 : Within b p0) : Within b (State.bumpPair p0 p1 p2 p3) := by
  unfold State.bumpPair
  extract_lets -merge -useContext -underBinder x1 x2 x3
  refine State.setBytes_within c0 ?_
  exact hp0

theorem State.emitCell_within {b : Bounds} {p0 p1 p2 p3} (qsent : b.parts .sent) (hp0 : Within b p0) : Within b (State.emitCell p0 p1 p2 p3) := by
  unfold State.emitCell
  refine State.emit_within qsent ?_
  exact hp0

theorem State.sealGroup_within {b : Bounds} {p0 p1} (qfurlongs : b.parts .furlongs) (qsent : b.parts .sent) (hp0 : Within b p0) : Within b (State.sealGroup p0 p1) := by
  unfold State.sealGroup
  extract_lets -merge -useContext -underBinder x1
  refine ite_elim (P := Within b) ?_ ?_
  · exact hp0
  · split
    · refine State.setFurlong_within qfurlongs ?_
      exact hp0
    · extract_lets -merge -useContext -underBinder x2 x3 x4 x5
      refine State.emitCell_within qsent ?_
      refine State.setFurlong_within qfurlongs ?_
      exact hp0

theorem State.sendCell_within {b : Bounds} {p0 p1 p2 p3 p4 p5} (qsent : b.parts .sent) (qfurlongs : b.parts .furlongs) (c2 : b.regs (O12.CELLS_IO p1)) (hp0 : Within b p0) : Within b (State.sendCell p0 p1 p2 p3 p4 p5) := by
  unfold State.sendCell
  extract_lets -merge -useContext -underBinder x1 x2
  refine ite_elim (P := Within b) ?_ ?_
  · refine State.emitCell_within qsent ?_
    refine State.bumpPair_within c2 ?_
    exact hp0
  · split
    · exact hp0
    · extract_lets -merge -useContext -underBinder x3 x4 x5 x6
      have hx6 : Within b x6 := by
        unfold x6
        refine State.emitCell_within qsent ?_
        refine State.bumpPair_within c2 ?_
        refine State.setFurlong_within qfurlongs ?_
        exact hp0
      try clear_value x6
      refine ite_elim (P := Within b) ?_ ?_
      · refine State.sealGroup_within qfurlongs qsent ?_
        exact hx6
      · exact hx6

theorem State.sendPacketCells_within {b : Bounds} {p0 p1 p2 p3} (qsent : b.parts .sent) (qfurlongs : b.parts .furlongs) (c2 : b.regs (O12.CELLS_IO p1)) (hp0 : Within b p0) : Within b (State.sendPacketCells p0 p1 p2 p3) := by
  unfold State.sendPacketCells
  extract_lets -merge -useContext -underBinder x1
  refine State.forEach_within ?_ ?_
  · exact hp0
  · intro u2 u3 hu4
    try beta_reduce
    refine State.sendCell_within qsent qfurlongs c2 ?_
    exact hu4

theorem State.trunkIn_within {b : Bounds} {p0 p1 p2 p3} (qfabric : b.parts .fabric) (hp0 : Within b p0) : Within b (State.trunkIn p0 p1 p2 p3) := by
  unfold State.trunkIn
  extract_lets -merge -useContext -underBinder x1 x2
  refine ite_elim (P := Within b) ?_ ?_
  · exact hp0
  · refine Within.f_fabric (s := p0) qfabric ?_
    exact hp0

theorem State.trunkTake_within {b : Bounds} {p0 p1 p2} (qfabric : b.parts .fabric) (hp0 : Within b p0) : Within b (State.trunkTake p0 p1 p2) := by
  unfold State.trunkTake
  extract_lets -merge -useContext -underBinder x1 x2
  refine Within.f_fabric (s := p0) qfabric ?_
  exact hp0

end Sys2Proof.Machine
end

