-- ==== Sys2Proof/Laws/WithinFabric.lean ====
section
/-! SUPPORT. What each operation of Machine/Fabric.lean may change at most (Laws/Within.lean). -/

set_option maxRecDepth 8000

namespace Sys2Proof.Machine

theorem State.ancTake_within {b : Bounds} {p0 p1 p2} (qfabric : b.parts .fabric) (hp0 : Within b p0) : Within2 b (State.ancTake p0 p1 p2) := by
  unfold State.ancTake
  extract_lets -merge -useContext -underBinder x1 x2
  refine within2_mk ?_
  refine Within.f_fabric (s := p0) qfabric ?_
  exact hp0

theorem State.clipWritten_within {b : Bounds} {p0 p1} (c0 : ∀ w0, b.regs (O05.CLIP_LOADED w0)) (hp0 : Within b p0) : Within b (State.clipWritten p0 p1) := by
  unfold State.clipWritten
  split
  · exact hp0
  · extract_lets -merge -useContext -underBinder x1
    refine ite_elim (P := Within b) ?_ ?_
    · exact hp0
    · refine State.setN_within (c0 _) ?_
      exact hp0

theorem State.ipFeed_within {b : Bounds} {p0 p1 p2} (qnet : b.parts .net) (hp0 : Within b p0) : Within b (State.ipFeed p0 p1 p2) := by
  unfold State.ipFeed
  extract_lets -merge -useContext -underBinder x1 x2 x3 x4 x5 x6 x7
  have hx2 : ∀ a0, Within b (x2 a0) := by
    intro u8
    unfold x2
    try beta_reduce
    extract_lets -merge -useContext -underBinder x9
    refine Within.f_net (s := p0) qnet ?_
    exact hp0
  try clear_value x2
  refine ite_elim (P := Within b) ?_ ?_
  · exact hp0
  · refine ite_elim (P := Within b) ?_ ?_
    · refine hx2 _
    · refine ite_elim (P := Within b) ?_ ?_
      · refine hx2 _
      · exact hp0

theorem State.rxReady_within {b : Bounds} {p0 p1 p2 p3 p4} (qnet : b.parts .net) (qfabric : b.parts .fabric) (hp0 : Within b p0) : Within2 b (State.rxReady p0 p1 p2 p3 p4) := by
  unfold State.rxReady
  split
  · refine within2_mk ?_
    exact hp0
  · extract_lets -merge -useContext -underBinder x1 x2 x3
    have hx3 : Within b x3 := by
      unfold x3
      refine Within.f_net (s := p0) qnet ?_
      exact hp0
    try clear_value x3
    split
    · refine within2_mk ?_
      exact hp0
    · refine within2_mk ?_
      refine ite_elim (P := Within b) ?_ ?_
      · exact hx3
      · refine State.setDesc_within qfabric ?_
        exact hx3

theorem State.deliverCell_within {b : Bounds} {p0 p1 p2 p3 p4} (qconv : b.parts .conv) (qnet : b.parts .net) (qsent : b.parts .sent) (qfurlongs : b.parts .furlongs) (c4 : b.regs (O12.CELLS_IO p3.trunkOut)) (hp0 : Within b p0) : Within b (State.deliverCell p0 p1 p2 p3 p4) := by
  unfold State.deliverCell
  split
  · refine State.feed_within qconv ?_
    exact hp0
  · refine State.ipFeed_within qnet ?_
    exact hp0
  · refine ite_elim (P := Within b) ?_ ?_
    · refine State.sendCell_within qsent qfurlongs c4 ?_
      exact hp0
    · exact hp0
  · exact hp0

theorem State.issueCell_within {b : Bounds} {p0 p1 p2} (qfabric : b.parts .fabric) (qfmem : b.parts .fmem) (qbytes : b.parts .bytes) (qevu : b.parts .evu) (qchain : b.parts .chain) (qsent : b.parts .sent) (qconv : b.parts .conv) (qnet : b.parts .net) (qfurlongs : b.parts .furlongs) (c9 : ∀ (w0 : ℕ), b.regs (O05.CLIP_LOADED w0)) (c10 : b.regs (O04.PORT_FLAGS (entDst p1))) (c11 : b.regs (O04.INVALID_CELLS (entDst p1))) (c12 : ∀ k ∈ eventRegs 66, b.regs k) (c13 : ∀ (w0 : ℕ), b.regs (O12.CELLS_IO w0)) (hp0 : Within b p0) : Within b (State.issueCell p0 p1 p2) := by
  unfold State.issueCell
  split
  · exact hp0
  · extract_lets -merge -useContext -underBinder x1 x2 x3 x4 x5 x6 x7
    have hx2 : Within b x2 := by
      unfold x2
      refine State.setDesc_within qfabric ?_
      exact hp0
    try clear_value x2
    have hx3 : Within b x3 := by
      unfold x3
      refine State.validCells_within qfabric ?_
      exact hx2
    try clear_value x3
    have hx4 : Within b x4 := by
      unfold x4
      refine State.fmWrite_within qfmem qbytes ?_
      exact hx3
    try clear_value x4
    have hx7 : Within b x7 := by
      unfold x7
      refine ite_elim (P := Within b) ?_ ?_
      · refine State.relayIn_within qfabric ?_
        exact hx2
      · exact hx2
    try clear_value x7
    refine ite_elim (P := Within b) ?_ ?_
    · refine ite_elim (P := Within b) ?_ ?_
      · exact hx3
      · refine ite_elim (P := Within b) ?_ ?_
        · refine State.clipWritten_within c9 ?_
          exact hx4
        · exact hx4
    · refine ite_elim (P := Within b) ?_ ?_
      · refine ite_elim (P := Within b) ?_ ?_
        · refine State.invalidCells_within qevu qfabric c10 c11 c12 ?_
          exact hx2
        · refine ite_elim (P := Within b) ?_ ?_
          · refine State.substitute_within qchain qfabric ?_
            refine State.invalidCells_within qevu qfabric c10 c11 c12 ?_
            exact hx7
          · refine State.validCells_within qfabric ?_
            refine State.emit_within qsent ?_
            refine State.deliverCell_within qconv qnet qsent qfurlongs (c13 _) ?_
            exact hx7
      · refine State.validCells_within qfabric ?_
        refine State.emit_within qsent ?_
        refine ite_elim (P := Within b) ?_ ?_
        · refine State.deliverCell_within qconv qnet qsent qfurlongs (c13 _) ?_
          exact hx2
        · exact hx2

theorem State.issueCells_within {b : Bounds} {p0 p1 p2 p3} (qfabric : b.parts .fabric) (qfmem : b.parts .fmem) (qbytes : b.parts .bytes) (qevu : b.parts .evu) (qchain : b.parts .chain) (qsent : b.parts .sent) (qconv : b.parts .conv) (qnet : b.parts .net) (qfurlongs : b.parts .furlongs) (c9 : b.regs (O04.CELLS_IN (entDst p1))) (c10 : b.regs (O04.CELLS_OUT (entSrc p1))) (c11 : ∀ (w0 : ℕ), b.regs (O05.CLIP_LOADED w0)) (c12 : b.regs (O04.PORT_FLAGS (entDst p1))) (c13 : b.regs (O04.INVALID_CELLS (entDst p1))) (c14 : ∀ k ∈ eventRegs 66, b.regs k) (c15 : ∀ (w0 : ℕ), b.regs (O12.CELLS_IO w0)) (hp0 : Within b p0) : Within b (State.issueCells p0 p1 p2 p3) := by
  unfold State.issueCells
  extract_lets -merge -useContext -underBinder x1
  have hx1 : Within b x1 := by
    unfold x1
    refine State.bump_within c9 ?_
    refine State.bump_within c10 ?_
    exact hp0
  try clear_value x1
  refine State.forEach_within ?_ ?_
  · exact hx1
  · intro u2 u3 hu4
    try beta_reduce
    refine State.issueCell_within qfabric qfmem qbytes qevu qchain qsent qconv qnet qfurlongs c11 c12 c13 c14 c15 ?_
    exact hu4

theorem State.issueFrom_within {b : Bounds} {p0 p1 p2 p3} (qfabric : b.parts .fabric) (qfmem : b.parts .fmem) (qbytes : b.parts .bytes) (qevu : b.parts .evu) (qchain : b.parts .chain) (qsent : b.parts .sent) (qconv : b.parts .conv) (qnet : b.parts .net) (qfurlongs : b.parts .furlongs) (c9 : ∀ w0, b.regs (O04.CELLS_IN w0)) (c10 : ∀ w0, b.regs (O04.CELLS_OUT w0)) (c11 : ∀ (w0 : ℕ), b.regs (O05.CLIP_LOADED w0)) (c12 : ∀ w0, b.regs (O04.PORT_FLAGS w0)) (c13 : ∀ w0, b.regs (O04.INVALID_CELLS w0)) (c14 : ∀ k ∈ eventRegs 66, b.regs k) (c15 : ∀ (w0 : ℕ), b.regs (O12.CELLS_IO w0)) (hp1 : Within b p1) : Within1 b (State.issueFrom p0 p1 p2 p3) := by
  induction p2 generalizing p1 p3 with
  | nil => exact hp1
  | cons o l ih =>
    unfold State.issueFrom
    split
    · exact ih (State.issueCells_within qfabric qfmem qbytes qevu qchain qsent qconv qnet qfurlongs (c9 _) (c10 _) c11 (c12 _) (c13 _) c14 c15 hp1)
    · exact ih hp1

theorem State.settle_within {b : Bounds} {p0 p1 p2} (qfabric : b.parts .fabric) (qfmem : b.parts .fmem) (qbytes : b.parts .bytes) (qevu : b.parts .evu) (qchain : b.parts .chain) (qsent : b.parts .sent) (qconv : b.parts .conv) (qnet : b.parts .net) (qfurlongs : b.parts .furlongs) (c9 : ∀ (w0 : ℕ), b.regs (O04.CELLS_IN w0)) (c10 : ∀ (w0 : ℕ), b.regs (O04.CELLS_OUT w0)) (c11 : ∀ (w0 : ℕ), b.regs (O05.CLIP_LOADED w0)) (c12 : ∀ (w0 : ℕ), b.regs (O04.PORT_FLAGS w0)) (c13 : ∀ (w0 : ℕ), b.regs (O04.INVALID_CELLS w0)) (c14 : ∀ k ∈ eventRegs 66, b.regs k) (c15 : ∀ (w0 : ℕ), b.regs (O12.CELLS_IO w0)) (hp0 : Within b p0) : Within b (State.settle p0 p1 p2) := by
  unfold State.settle
  extract_lets -merge -useContext -underBinder x1 x2 x3
  have hx1 : Within1 b x1 := by
    unfold x1
    refine State.issueFrom_within qfabric qfmem qbytes qevu qchain qsent qconv qnet qfurlongs c9 c10 c11 c12 c13 c14 c15 ?_
    exact hp0
  try clear_value x1
  have hx2 : Within b x2 := by
    unfold x2
    change Within1 b _
    exact hx1
  try clear_value x2
  refine Within.f_chain (s := x2) qchain ?_
  exact hx2

theorem State.slotsIdle_within {b : Bounds} {p0 p1 p2} (qbus : b.parts .bus) (hp0 : Within b p0) : Within b (State.slotsIdle p0 p1 p2) := by
  unfold State.slotsIdle
  extract_lets -merge -useContext -underBinder x1
  refine ite_elim (P := Within b) ?_ ?_
  · exact hp0
  · refine Within.f_bus (s := p0) qbus ?_ (by exact fun h => h) (by rfl)
    exact hp0

theorem State.runEntry_within {b : Bounds} {p0 p1 p2 p3 p4} (qchain : b.parts .chain) (qbus : b.parts .bus) (qfabric : b.parts .fabric) (qfmem : b.parts .fmem) (qbytes : b.parts .bytes) (qevu : b.parts .evu) (qsent : b.parts .sent) (qconv : b.parts .conv) (qnet : b.parts .net) (qfurlongs : b.parts .furlongs) (c10 : b.regs (O04.IDLE_OUT (entSrc p2))) (c11 : ∀ (w0 : ℕ), b.regs (O04.CELLS_IN w0)) (c12 : ∀ (w0 : ℕ), b.regs (O04.CELLS_OUT w0)) (c13 : ∀ (w0 : ℕ), b.regs (O05.CLIP_LOADED w0)) (c14 : ∀ (w0 : ℕ), b.regs (O04.PORT_FLAGS w0)) (c15 : ∀ (w0 : ℕ), b.regs (O04.INVALID_CELLS w0)) (c16 : ∀ k ∈ eventRegs 66, b.regs k) (c17 : ∀ (w0 : ℕ), b.regs (O12.CELLS_IO w0)) (hp0 : Within b p0) : Within b (State.runEntry p0 p1 p2 p3 p4) := by
  unfold State.runEntry
  extract_lets -merge -useContext -underBinder x1 x2 x3 x4 x5 x6 x7 x8 x9
  have hx8 : Within b x8 := by
    unfold x8
    refine Within.f_chain (s := p0) qchain ?_
    exact hp0
  try clear_value x8
  have hx9 : Within b x9 := by
    unfold x9
    refine ite_elim (P := Within b) ?_ ?_
    · exact hx8
    · refine State.slotsIdle_within qbus ?_
      refine State.bump_within c10 ?_
      exact hx8
  try clear_value x9
  refine State.settle_within qfabric qfmem qbytes qevu qchain qsent qconv qnet qfurlongs c11 c12 c13 c14 c15 c16 c17 ?_
  exact hx9

theorem State.caughtUp_within {b : Bounds} {p0 p1 p2} (qevu : b.parts .evu) (qfabric : b.parts .fabric) (c2 : b.regs (O04.PORT_FLAGS p1)) (c3 : b.regs (O04.CATCHUP_CELLS p1)) (c4 : ∀ k ∈ eventRegs 64, b.regs k) (hp0 : Within b p0) : Within b (State.caughtUp p0 p1 p2) := by
  unfold State.caughtUp
  extract_lets -merge -useContext -underBinder x1 x2 x3 x4 x5 x6
  have hx3 : Within b x3 := by
    unfold x3
    refine Within.f_fabric (s := p0) qfabric ?_
    exact hp0
  try clear_value x3
  have hx4 : Within b x4 := by
    unfold x4
    refine State.flag_within c2 ?_
    refine State.bump_within c3 ?_
    exact hx3
  try clear_value x4
  have hx5 : Within b x5 := by
    unfold x5
    refine State.raiseLim_within qevu c4 ?_
    exact hx4
  try clear_value x5
  refine ite_elim (P := Within b) ?_ ?_
  · exact hp0
  · refine ite_elim (P := Within b) ?_ ?_
    · exact hx5
    · refine Within.f_fabric (s := x5) qfabric ?_
      exact hx5

theorem State.recount_within {b : Bounds} {p0} (qfurlongs : b.parts .furlongs) (c1 : ∀ (w0 : ℕ), b.regs (O04.LINK_PEAK_IN w0)) (c2 : ∀ (w0 : ℕ), b.regs (O04.LINK_PEAK_OUT w0)) (c3 : ∀ (w0 : ℕ), b.regs (O04.RESERVED_IN w0)) (c4 : ∀ (w0 : ℕ), b.regs (O04.RESERVED_OUT w0)) (c5 : b.regs O04.PORTS_IN_USE) (c6 : b.regs O04.SLOTS_PLACED) (c7 : b.regs O04.STREAMS_ACTIVE) (c8 : b.regs O01.LINK_ENTRIES_MAX) (c9 : b.regs O01.ENTRIES_USED) (c10 : ∀ (w0 : ℕ), b.regs (O05.CHARGE_PEAK w0)) (c11 : ∀ (w0 : ℕ), b.regs (O05.CHARGE_TICK w0)) (hp0 : Within b p0) : Within b (State.recount p0) := by
  unfold State.recount
  extract_lets -merge -useContext -underBinder x1 x2 x3 x4 x5 x6 x7
  have hx2 : Within b x2 := by
    unfold x2
    refine State.forEach_within ?_ ?_
    · exact hp0
    · intro u8 u9 hu10
      try beta_reduce
      refine State.setN_within (c1 _) ?_
      refine State.setN_within (c2 _) ?_
      refine State.setN_within (c3 _) ?_
      refine State.setN_within (c4 _) ?_
      exact hu10
  try clear_value x2
  have hx3 : Within b x3 := by
    unfold x3
    refine State.setN_within c5 ?_
    exact hx2
  try clear_value x3
  have hx4 : Within b x4 := by
    unfold x4
    refine State.setN_within c6 ?_
    exact hx3
  try clear_value x4
  have hx5 : Within b x5 := by
    unfold x5
    refine State.setN_within c7 ?_
    exact hx4
  try clear_value x5
  have hx6 : Within b x6 := by
    unfold x6
    refine Within.f_furlongs (s := x5) qfurlongs ?_
    exact hx5
  try clear_value x6
  have hx7 : Within b x7 := by
    unfold x7
    refine State.setN_within c8 ?_
    refine State.setN_within c9 ?_
    exact hx6
  try clear_value x7
  refine State.forEach_within ?_ ?_
  · exact hx7
  · intro u11 u12 hu13
    try beta_reduce
    refine State.setN_within (c10 _) ?_
    refine State.setN_within (c11 _) ?_
    exact hu13

theorem State.repairDescs_within {b : Bounds} {p0} (qfabric : b.parts .fabric) (hp0 : Within b p0) : Within b (State.repairDescs p0) := by
  unfold State.repairDescs
  extract_lets -merge -useContext -underBinder x1 x2
  have hx1 : Within b x1 := by
    unfold x1
    refine State.forEach_within ?_ ?_
    · exact hp0
    · intro u3 u4 hu3
      try beta_reduce
      refine State.onDesc_within qfabric ?_
      exact hu3
  try clear_value x1
  refine Within.f_fabric (s := x1) qfabric ?_
  exact hx1

theorem State.sampleDescs_within {b : Bounds} {p0} (qfabric : b.parts .fabric) (hp0 : Within b p0) : Within b (State.sampleDescs p0) := by
  unfold State.sampleDescs
  extract_lets -merge -useContext -underBinder x1
  refine Within.f_fabric (s := p0) qfabric ?_
  exact hp0

theorem execNop_within {b : Bounds} {p0 p1 p2} (hp2 : Within b p2) : WithinOut b (execNop p0 p1 p2) := by
  unfold execNop
  refine live_within ?_ ?_
  · exact hp2
  · intro u1 hu1
    unfold id
    exact hu1

theorem execMove_within {b : Bounds} {p0 p1 p2 p3 p4} (qfabric : b.parts .fabric) (qchain : b.parts .chain) (qbus : b.parts .bus) (qfmem : b.parts .fmem) (qbytes : b.parts .bytes) (qevu : b.parts .evu) (qsent : b.parts .sent) (qconv : b.parts .conv) (qnet : b.parts .net) (qfurlongs : b.parts .furlongs) (c10 : b.regs (O04.IDLE_OUT (entSrc p1))) (c11 : ∀ (w0 : ℕ), b.regs (O04.CELLS_IN w0)) (c12 : ∀ (w0 : ℕ), b.regs (O04.CELLS_OUT w0)) (c13 : ∀ (w0 : ℕ), b.regs (O05.CLIP_LOADED w0)) (c14 : ∀ (w0 : ℕ), b.regs (O04.PORT_FLAGS w0)) (c15 : ∀ (w0 : ℕ), b.regs (O04.INVALID_CELLS w0)) (c16 : ∀ k ∈ eventRegs 66, b.regs k) (c17 : ∀ (w0 : ℕ), b.regs (O12.CELLS_IO w0)) (hp4 : Within b p4) : WithinOut b (execMove p0 p1 p2 p3 p4) := by
  unfold execMove
  refine live_within ?_ ?_
  · exact hp4
  · intro u1 hu2
    try beta_reduce
    extract_lets -merge -useContext -underBinder x3 x4 x5 x6
    refine ite_elim (P := Within b) ?_ ?_
    · split
      · extract_lets -merge -useContext -underBinder x7
        have hx7 : Within2 b x7 := by
          unfold x7
          refine State.ancTake_within qfabric ?_
          exact hu2
        try clear_value x7
        refine ite_elim (P := Within b) ?_ ?_
        · refine State.runEntry_within qchain qbus qfabric qfmem qbytes qevu qsent qconv qnet qfurlongs c10 c11 c12 c13 c14 c15 c16 c17 ?_
          change Within2 b _
          exact hx7
        · refine ite_elim (P := Within b) ?_ ?_
          · refine State.runEntry_within qchain qbus qfabric qfmem qbytes qevu qsent qconv qnet qfurlongs c10 c11 c12 c13 c14 c15 c16 c17 ?_
            refine State.trunkTake_within qfabric ?_
            exact hu2
          · refine State.runEntry_within qchain qbus qfabric qfmem qbytes qevu qsent qconv qnet qfurlongs c10 c11 c12 c13 c14 c15 c16 c17 ?_
            exact hu2
      · refine State.runEntry_within qchain qbus qfabric qfmem qbytes qevu qsent qconv qnet qfurlongs c10 c11 c12 c13 c14 c15 c16 c17 ?_
        exact hu2
    · exact hu2

theorem execMemwr_within {b : Bounds} {p0 p1 p2 p3} (qnet : b.parts .net) (qfabric : b.parts .fabric) (qchain : b.parts .chain) (qbus : b.parts .bus) (qfmem : b.parts .fmem) (qbytes : b.parts .bytes) (qevu : b.parts .evu) (qsent : b.parts .sent) (qconv : b.parts .conv) (qfurlongs : b.parts .furlongs) (c10 : b.regs (O04.IDLE_OUT (entSrc p1))) (c11 : ∀ (w0 : ℕ), b.regs (O04.CELLS_IN w0)) (c12 : ∀ (w0 : ℕ), b.regs (O04.CELLS_OUT w0)) (c13 : ∀ (w0 : ℕ), b.regs (O05.CLIP_LOADED w0)) (c14 : ∀ (w0 : ℕ), b.regs (O04.PORT_FLAGS w0)) (c15 : ∀ (w0 : ℕ), b.regs (O04.INVALID_CELLS w0)) (c16 : ∀ k ∈ eventRegs 66, b.regs k) (c17 : ∀ (w0 : ℕ), b.regs (O12.CELLS_IO w0)) (hp3 : Within b p3) : WithinOut b (execMemwr p0 p1 p2 p3) := by
  unfold execMemwr
  refine live_within ?_ ?_
  · exact hp3
  · intro u1 hu2
    try beta_reduce
    refine ite_elim (P := Within b) ?_ ?_
    · split
      · exact hu2
      · extract_lets -merge -useContext -underBinder x3
        split
        · extract_lets -merge -useContext -underBinder x4
          have hx4 : Within2 b x4 := by
            unfold x4
            refine State.rxReady_within qnet qfabric ?_
            exact hu2
          try clear_value x4
          refine State.runEntry_within qchain qbus qfabric qfmem qbytes qevu qsent qconv qnet qfurlongs c10 c11 c12 c13 c14 c15 c16 c17 ?_
          change Within2 b _
          exact hx4
        · extract_lets -merge -useContext -underBinder x5 x6 x7
          refine ite_elim (P := Within b) ?_ ?_
          · refine State.runEntry_within qchain qbus qfabric qfmem qbytes qevu qsent qconv qnet qfurlongs c10 c11 c12 c13 c14 c15 c16 c17 ?_
            refine State.trunkTake_within qfabric ?_
            exact hu2
          · refine ite_elim (P := Within b) ?_ ?_
            · refine State.runEntry_within qchain qbus qfabric qfmem qbytes qevu qsent qconv qnet qfurlongs c10 c11 c12 c13 c14 c15 c16 c17 ?_
              refine State.relayOut_within qfabric ?_
              exact hu2
            · split
              · extract_lets -merge -useContext -underBinder x8
                refine State.runEntry_within qchain qbus qfabric qfmem qbytes qevu qsent qconv qnet qfurlongs c10 c11 c12 c13 c14 c15 c16 c17 ?_
                refine State.setPooled_within qconv ?_
                refine ite_elim (P := Within b) ?_ ?_
                · exact hu2
                · refine State.ringBegin_within qfabric qconv ?_
                  exact hu2
              · extract_lets -merge -useContext -underBinder x9 x10
                refine State.runEntry_within qchain qbus qfabric qfmem qbytes qevu qsent qconv qnet qfurlongs c10 c11 c12 c13 c14 c15 c16 c17 ?_
                exact hu2
    · exact hu2

theorem execMemrd_within {b : Bounds} {p0 p1 p2 p3} (qevu : b.parts .evu) (qfmem : b.parts .fmem) (qchain : b.parts .chain) (qbus : b.parts .bus) (qfabric : b.parts .fabric) (qbytes : b.parts .bytes) (qsent : b.parts .sent) (qconv : b.parts .conv) (qnet : b.parts .net) (qfurlongs : b.parts .furlongs) (c10 : ∀ (w0 : ℕ), b.regs (O05.STACK_FLAGS w0)) (c11 : ∀ (w0 : ℕ), b.regs (O05.LAST_ERROR_PIN w0)) (c12 : ∀ (w0 : ℕ), b.regs (O05.LAST_ERROR_ADDR w0)) (c13 : ∀ (w0 : ℕ), b.regs (O05.CE_COUNT w0)) (c14 : ∀ (w0 : ℕ), b.regs (O05.PIN_CE w0)) (c15 : ∀ k ∈ eventRegs 80, b.regs k) (c16 : ∀ k ∈ eventRegs 86, b.regs k) (c17 : b.regs (O04.IDLE_OUT (entSrc p1))) (c18 : ∀ (w0 : ℕ), b.regs (O04.CELLS_IN w0)) (c19 : ∀ (w0 : ℕ), b.regs (O04.CELLS_OUT w0)) (c20 : ∀ (w0 : ℕ), b.regs (O05.CLIP_LOADED w0)) (c21 : ∀ (w0 : ℕ), b.regs (O04.PORT_FLAGS w0)) (c22 : ∀ (w0 : ℕ), b.regs (O04.INVALID_CELLS w0)) (c23 : ∀ k ∈ eventRegs 66, b.regs k) (c24 : ∀ (w0 : ℕ), b.regs (O12.CELLS_IO w0)) (hp3 : Within b p3) : WithinOut b (execMemrd p0 p1 p2 p3) := by
  unfold execMemrd
  refine live_within ?_ ?_
  · exact hp3
  · intro u1 hu2
    try beta_reduce
    refine ite_elim (P := Within b) ?_ ?_
    · split
      · exact hu2
      · extract_lets -merge -useContext -underBinder x3 x4 x5 x6 x7 x8 x9
        refine State.countCells_within qevu qfmem c10 c11 c12 c13 c14 c15 c16 ?_
        refine State.runEntry_within qchain qbus qfabric qfmem qbytes qevu qsent qconv qnet qfurlongs c17 c18 c19 c20 c21 c22 c23 c24 ?_
        exact hu2
    · exact hu2

theorem execSourceStall_within {b : Bounds} {p0 p1 p2 p3 p4 p5} (qevu : b.parts .evu) (qchain : b.parts .chain) (c2 : ∀ k ∈ eventRegs 68, b.regs k) (hp5 : Within b p5) : WithinOut b (execSourceStall p0 p1 p2 p3 p4 p5) := by
  unfold execSourceStall
  refine live_within ?_ ?_
  · exact hp5
  · intro u1 hu1
    try beta_reduce
    extract_lets -merge -useContext -underBinder x2 x3
    have hx3 : Within b x3 := by
      unfold x3
      refine Within.f_chain (s := u1) qchain ?_
      exact hu1
    try clear_value x3
    refine ite_elim (P := Within b) ?_ ?_
    · refine ite_elim (P := Within b) ?_ ?_
      · refine State.raise_within qevu c2 ?_
        exact hx3
      · exact hx3
    · exact hu1

theorem execCatchUp_within {b : Bounds} {p0 p1 p2 p3} (qfabric : b.parts .fabric) (qfmem : b.parts .fmem) (qbytes : b.parts .bytes) (qevu : b.parts .evu) (qchain : b.parts .chain) (qsent : b.parts .sent) (qconv : b.parts .conv) (qnet : b.parts .net) (qfurlongs : b.parts .furlongs) (c9 : ∀ (w0 : ℕ), b.regs (O04.CELLS_IN w0)) (c10 : ∀ (w0 : ℕ), b.regs (O04.CELLS_OUT w0)) (c11 : ∀ (w0 : ℕ), b.regs (O05.CLIP_LOADED w0)) (c12 : ∀ (w0 : ℕ), b.regs (O04.PORT_FLAGS w0)) (c13 : ∀ (w0 : ℕ), b.regs (O04.INVALID_CELLS w0)) (c14 : ∀ k ∈ eventRegs 66, b.regs k) (c15 : ∀ (w0 : ℕ), b.regs (O12.CELLS_IO w0)) (c16 : b.regs (O04.CATCHUP_CELLS p1)) (c17 : ∀ k ∈ eventRegs 64, b.regs k) (c18 : b.regs (O04.CATCHUP_CELLS p0)) (hp3 : Within b p3) : WithinOut b (execCatchUp p0 p1 p2 p3) := by
  unfold execCatchUp
  refine live_within ?_ ?_
  · exact hp3
  · intro u1 hu2
    try beta_reduce
    extract_lets -merge -useContext -underBinder x3 x4
    have hx3 : Within b x3 := by
      unfold x3
      refine State.settle_within qfabric qfmem qbytes qevu qchain qsent qconv qnet qfurlongs c9 c10 c11 c12 c13 c14 c15 ?_
      exact hu2
    try clear_value x3
    refine ite_elim (P := Within b) ?_ ?_
    · refine State.caughtUp_within qevu qfabric (c12 _) c16 c17 ?_
      refine State.caughtUp_within qevu qfabric (c12 _) c18 c17 ?_
      exact hx3
    · exact hu2

end Sys2Proof.Machine
end

