-- ==== Sys2Proof/Laws/WithinSdi.lean ====
section
/-! SUPPORT. What each operation of Machine/Sdi.lean may change at most (Laws/Within.lean). -/

set_option maxRecDepth 8000

namespace Sys2Proof.Machine

theorem State.setInput_within {b : Bounds} {p0 p1 p2} (qinputs : b.parts .inputs) (hp0 : Within b p0) : Within b (State.setInput p0 p1 p2) := by
  unfold State.setInput
  refine Within.f_inputs (s := p0) qinputs ?_
  exact hp0

theorem State.setDest_within {b : Bounds} {p0 p1 p2} (qdests : b.parts .dests) (hp0 : Within b p0) : Within b (State.setDest p0 p1 p2) := by
  unfold State.setDest
  refine Within.f_dests (s := p0) qdests ?_
  exact hp0

theorem State.search_within {b : Bounds} {p0 p1} (qinputs : b.parts .inputs) (c1 : b.regs (O06.IN_STATE p1)) (hp0 : Within b p0) : Within b (State.search p0 p1) := by
  unfold State.search
  extract_lets -merge -useContext -underBinder x1 x2 x3
  refine State.setN_within c1 ?_
  refine State.setInput_within qinputs ?_
  exact hp0

theorem State.incomplete_within {b : Bounds} {p0 p1} (qfabric : b.parts .fabric) (qinputs : b.parts .inputs) (hp0 : Within b p0) : Within b (State.incomplete p0 p1) := by
  unfold State.incomplete
  extract_lets -merge -useContext -underBinder x1 x2 x3 x4
  have hx3 : Within b x3 := by
    unfold x3
    refine State.forEach_within ?_ ?_
    · exact hp0
    · intro u5 u6 hu7
      try beta_reduce
      extract_lets -merge -useContext -underBinder x8
      refine ite_elim (P := Within b) ?_ ?_
      · refine State.setDesc_within qfabric ?_
        exact hu7
      · refine ite_elim (P := Within b) ?_ ?_
        · refine State.setDesc_within qfabric ?_
          exact hu7
        · exact hu7
  try clear_value x3
  refine State.setInput_within qinputs ?_
  exact hx3

theorem State.alignWrite_within {b : Bounds} {p0 p1} (qfabric : b.parts .fabric) (hp0 : Within b p0) : Within b (State.alignWrite p0 p1) := by
  unfold State.alignWrite
  extract_lets -merge -useContext -underBinder x1
  refine State.forEach_within ?_ ?_
  · exact hp0
  · intro u2 u3 hu4
    try beta_reduce
    extract_lets -merge -useContext -underBinder x5
    refine State.setDesc_within qfabric ?_
    exact hu4

theorem State.ancSend_within {b : Bounds} {p0 p1 p2 p3} (qfabric : b.parts .fabric) (qevu : b.parts .evu) (c2 : ∀ k ∈ eventRegs 104, b.regs k) (c3 : b.regs (O06.ANC_DROPPED p1)) (hp0 : Within b p0) : Within b (State.ancSend p0 p1 p2 p3) := by
  unfold State.ancSend
  split
  · exact hp0
  · extract_lets -merge -useContext -underBinder x1 x2 x3 x4
    have hx4 : Within b x4 := by
      unfold x4
      refine Within.f_fabric (s := p0) qfabric ?_
      exact hp0
    try clear_value x4
    refine ite_elim (P := Within b) ?_ ?_
    · exact hx4
    · refine State.raise_within qevu c2 ?_
      refine State.bump_within c3 ?_
      exact hx4

theorem State.ancFlush_within {b : Bounds} {p0 p1} (qinputs : b.parts .inputs) (qfabric : b.parts .fabric) (qevu : b.parts .evu) (c3 : ∀ k ∈ eventRegs 104, b.regs k) (c4 : b.regs (O06.ANC_DROPPED p1)) (hp0 : Within b p0) : Within b (State.ancFlush p0 p1) := by
  unfold State.ancFlush
  extract_lets -merge -useContext -underBinder x1 x2 x3
  refine ite_elim (P := Within b) ?_ ?_
  · exact hp0
  · refine State.forEach_within ?_ ?_
    · refine State.setInput_within qinputs ?_
      exact hp0
    · intro u4 u5 hu6
      try beta_reduce
      refine State.ancSend_within qfabric qevu c3 c4 ?_
      exact hu6

theorem State.lossOfLock_within {b : Bounds} {p0 p1} (qfabric : b.parts .fabric) (qinputs : b.parts .inputs) (qevu : b.parts .evu) (c3 : ∀ k ∈ eventRegs 97, b.regs k) (c4 : b.regs (O06.IN_FLAGS p1)) (c5 : b.regs (O06.LOCK_LOSSES p1)) (hp0 : Within b p0) : Within b (State.lossOfLock p0 p1) := by
  unfold State.lossOfLock
  extract_lets -merge -useContext -underBinder x1 x2 x3
  have hx1 : Within b x1 := by
    unfold x1
    refine State.incomplete_within qfabric qinputs ?_
    exact hp0
  try clear_value x1
  have hx3 : Within b x3 := by
    unfold x3
    refine State.setInput_within qinputs ?_
    exact hx1
  try clear_value x3
  refine ite_elim (P := Within b) ?_ ?_
  · refine State.raise_within qevu c3 ?_
    refine State.flag_within c4 ?_
    refine State.bump_within c5 ?_
    exact hx3
  · exact hp0

theorem State.setProperties_within {b : Bounds} {p0 p1 p2} (qevu : b.parts .evu) (c1 : b.regs (O06.IN_COLOUR p1)) (c2 : b.regs (O06.IN_FORMAT p1)) (c3 : ∀ k ∈ eventRegs 98, b.regs k) (c4 : b.regs (O06.IN_FLAGS p1)) (hp0 : Within b p0) : Within b (State.setProperties p0 p1 p2) := by
  unfold State.setProperties
  extract_lets -merge -useContext -underBinder x1 x2 x3
  have hx3 : Within b x3 := by
    unfold x3
    refine State.setN_within c1 ?_
    refine State.setN_within c2 ?_
    exact hp0
  try clear_value x3
  refine ite_elim (P := Within b) ?_ ?_
  · refine State.raise_within qevu c3 ?_
    refine State.flag_within c4 ?_
    exact hx3
  · exact hx3

theorem State.frameErrors_within {b : Bounds} {p0 p1 p2 p3 p4 p5} (qevu : b.parts .evu) (qinputs : b.parts .inputs) (c2 : b.regs (O06.TRS_ERR p1)) (c3 : b.regs (O06.EDH_FF_ERR p1)) (c4 : b.regs (O06.EDH_AP_ERR p1)) (c5 : b.regs (O06.CRC_ERR_LINES p1)) (c6 : ∀ k ∈ eventRegs 101, b.regs k) (c7 : b.regs (O06.IN_FLAGS p1)) (c8 : ∀ k ∈ eventRegs 102, b.regs k) (hp0 : Within b p0) : Within b (State.frameErrors p0 p1 p2 p3 p4 p5) := by
  unfold State.frameErrors
  extract_lets -merge -useContext -underBinder x1 x2 x3 x4 x5
  have hx1 : Within b x1 := by
    unfold x1
    refine State.bump_within c2 ?_
    refine State.bump_within c3 ?_
    refine State.bump_within c4 ?_
    refine State.bump_within c5 ?_
    exact hp0
  try clear_value x1
  have hx2 : Within b x2 := by
    unfold x2
    refine ite_elim (P := Within b) ?_ ?_
    · exact hx1
    · refine State.raiseLim_within qevu c6 ?_
      refine State.flag_within c7 ?_
      exact hx1
  try clear_value x2
  have hx3 : Within b x3 := by
    unfold x3
    refine ite_elim (P := Within b) ?_ ?_
    · exact hx2
    · refine State.raiseLim_within qevu c8 ?_
      refine State.flag_within c7 ?_
      exact hx2
  try clear_value x3
  have hx4 : Within b x4 := by
    unfold x4
    refine ite_elim (P := Within b) ?_ ?_
    · exact hx3
    · refine State.flag_within c7 ?_
      exact hx3
  try clear_value x4
  refine ite_elim (P := Within b) ?_ ?_
  · refine State.setInput_within qinputs ?_
    exact hx4
  · exact hx4

theorem State.frameWritten_within {b : Bounds} {p0 p1 p2} (qfabric : b.parts .fabric) (qinputs : b.parts .inputs) (c2 : b.regs (O06.FRAMES_IN p1)) (hp0 : Within b p0) : Within b (State.frameWritten p0 p1 p2) := by
  unfold State.frameWritten
  extract_lets -merge -useContext -underBinder x1
  refine ite_elim (P := Within b) ?_ ?_
  · refine State.alignWrite_within qfabric ?_
    refine State.setInput_within qinputs ?_
    exact hp0
  · refine ite_elim (P := Within b) ?_ ?_
    · refine State.alignWrite_within qfabric ?_
      refine State.bump_within c2 ?_
      refine State.setInput_within qinputs ?_
      exact hp0
    · refine State.alignWrite_within qfabric ?_
      refine State.setInput_within qinputs ?_
      exact hp0

theorem State.agePid_within {b : Bounds} {p0 p1} (qinputs : b.parts .inputs) (c1 : b.regs (O06.IN_PID_STATE p1)) (hp0 : Within b p0) : Within b (State.agePid p0 p1) := by
  unfold State.agePid
  extract_lets -merge -useContext -underBinder x1 x2
  have hx2 : Within b x2 := by
    unfold x2
    refine State.setInput_within qinputs ?_
    exact hp0
  try clear_value x2
  refine ite_elim (P := Within b) ?_ ?_
  · refine State.setN_within c1 ?_
    exact hx2
  · exact hx2

theorem State.setDeemb_within {b : Bounds} {p0 p1 p2} (qamx : b.parts .amx) (hp0 : Within b p0) : Within b (State.setDeemb p0 p1 p2) := by
  unfold State.setDeemb
  extract_lets -merge -useContext -underBinder x1
  refine Within.f_amx (s := p0) qamx ?_
  exact hp0

theorem State.deembLock_within {b : Bounds} {p0 p1} (qamx : b.parts .amx) (c1 : b.regs (O0C.DEEMB_SRC_ACTIVE (3072 + p1))) (hp0 : Within b p0) : Within b (State.deembLock p0 p1) := by
  unfold State.deembLock
  extract_lets -merge -useContext -underBinder x1 x2
  refine ite_elim (P := Within b) ?_ ?_
  · exact hp0
  · refine State.setB_within c1 ?_
    refine State.setDeemb_within qamx ?_
    exact hp0

theorem State.judgeFrame_within {b : Bounds} {p0 p1 p2 p3 p4 p5 p6 p7} (qinputs : b.parts .inputs) (qamx : b.parts .amx) (qevu : b.parts .evu) (qfabric : b.parts .fabric) (c4 : b.regs (O0C.DEEMB_SRC_ACTIVE (3072 + p1))) (c5 : b.regs (O06.IN_STATE p1)) (c6 : b.regs (O06.IN_COLOUR p1)) (c7 : b.regs (O06.IN_FORMAT p1)) (c8 : ∀ k ∈ eventRegs 98, b.regs k) (c9 : b.regs (O06.IN_FLAGS p1)) (c10 : ∀ k ∈ eventRegs 96, b.regs k) (c11 : ∀ k ∈ eventRegs 99, b.regs k) (hp0 : Within b p0) : Within b (State.judgeFrame p0 p1 p2 p3 p4 p5 p6 p7) := by
  unfold State.judgeFrame
  extract_lets -merge -useContext -underBinder x1 x2 x3 x4 x5
  have hx3 : Within b x3 := by
    unfold x3
    refine State.setInput_within qinputs ?_
    exact hp0
  try clear_value x3
  have hx4 : Within b x4 := by
    unfold x4
    refine State.deembLock_within qamx c4 ?_
    refine State.setN_within c5 ?_
    refine State.setProperties_within qevu c6 c7 c8 c9 ?_
    exact hx3
  try clear_value x4
  refine ite_elim (P := Within b) ?_ ?_
  · refine ite_elim (P := Within b) ?_ ?_
    · exact hp0
    · refine State.setN_within c5 ?_
      exact hp0
  · refine ite_elim (P := Within b) ?_ ?_
    · refine ite_elim (P := Within b) ?_ ?_
      · refine State.raise_within qevu c10 ?_
        refine State.alignWrite_within qfabric ?_
        refine State.setInput_within qinputs ?_
        exact hx4
      · refine State.raise_within qevu c11 ?_
        refine State.flag_within c9 ?_
        refine State.setN_within c5 ?_
        refine State.setProperties_within qevu c6 c7 c8 c9 ?_
        exact hx3
    · refine ite_elim (P := Within b) ?_ ?_
      · refine State.search_within qinputs c5 ?_
        refine State.setInput_within qinputs ?_
        exact hp0
      · refine State.setInput_within qinputs ?_
        exact hp0

theorem State.autoDelay_within {b : Bounds} {p0 p1} (qevu : b.parts .evu) (c1 : ∀ k ∈ eventRegs 132, b.regs k) (c2 : b.regs (O08.ROUTE_FLAGS p1)) (c3 : ∀ k ∈ eventRegs 133, b.regs k) (c4 : b.regs (O08.AUDIO_DELAY_APPLIED p1)) (hp0 : Within b p0) : Within b (State.autoDelay p0 p1) := by
  unfold State.autoDelay
  extract_lets -merge -useContext -underBinder x1 x2 x3
  have hx3 : Within b x3 := by
    unfold x3
    refine ite_elim (P := Within b) ?_ ?_
    · exact hp0
    · refine State.raise_within qevu c1 ?_
      refine State.flag_within c2 ?_
      exact hp0
  try clear_value x3
  refine ite_elim (P := Within b) ?_ ?_
  · exact hp0
  · refine ite_elim (P := Within b) ?_ ?_
    · exact hx3
    · refine State.raise_within qevu c3 ?_
      refine State.flag_within c2 ?_
      refine State.setN_within c4 ?_
      exact hx3

theorem State.setPathDelay_within {b : Bounds} {p0 p1 p2} (c0 : b.regs (O08.PATH_DELAY p1)) (hp0 : Within b p0) : Within b (State.setPathDelay p0 p1 p2) := by
  unfold State.setPathDelay
  extract_lets -merge -useContext -underBinder x1 x2 x3 x4
  refine State.setN_within c0 ?_
  exact hp0

theorem State.slipped_within {b : Bounds} {p0 p1 p2} (qevu : b.parts .evu) (qdests : b.parts .dests) (c2 : b.regs (O07.OUT_FLAGS p1)) (c3 : b.regs (O07.FRAMES_REPEATED p1)) (c4 : b.regs (O07.FRAMES_DROPPED p1)) (c5 : ∀ w0, ∀ k ∈ eventRegs w0, b.regs k) (hp0 : Within b p0) : Within b (State.slipped p0 p1 p2) := by
  unfold State.slipped
  extract_lets -merge -useContext -underBinder x1 x2 x3 x4
  have hx2 : Within b x2 := by
    unfold x2
    refine State.setDest_within qdests ?_
    exact hp0
  try clear_value x2
  have hx4 : Within b x4 := by
    unfold x4
    refine ite_elim (P := Within b) ?_ ?_
    · refine State.flag_within c2 ?_
      refine State.bump_within (ite_elim (P := b.regs) c3 c4) ?_
      exact hx2
    · exact hx2
  try clear_value x4
  refine State.raiseLim_within qevu (c5 _) ?_
  exact hx4

theorem State.lossFrame_within {b : Bounds} {p0 p1 p2} (qevu : b.parts .evu) (qdests : b.parts .dests) (c2 : ∀ w0, ∀ k ∈ eventRegs w0, b.regs k) (c3 : b.regs (O08.ROUTE_STATE p1)) (c4 : b.regs (O07.OUT_FLAGS p1)) (c5 : b.regs (O07.SYNC_DELAY p1)) (c6 : b.regs (O07.FRAMES_SUBST p1)) (c7 : b.regs (O07.OUT_STATE p1)) (hp0 : Within b p0) : Within b (State.lossFrame p0 p1 p2) := by
  unfold State.lossFrame
  extract_lets -merge -useContext -underBinder x1 x2 x3 x4 x5 x6 x7 x8
  have hx5 : Within b x5 := by
    unfold x5
    refine State.setDest_within qdests ?_
    exact hp0
  try clear_value x5
  have hx6 : Within b x6 := by
    unfold x6
    refine ite_elim (P := Within b) ?_ ?_
    · exact hx5
    · refine State.raise_within qevu (c2 _) ?_
      refine State.setN_within c3 ?_
      refine ite_elim (P := Within b) ?_ ?_
      · refine State.flag_within c4 ?_
        exact hx5
      · exact hx5
  try clear_value x6
  have hx8 : Within b x8 := by
    unfold x8
    refine ite_elim (P := Within b) ?_ ?_
    · refine State.raise_within qevu (c2 _) ?_
      exact hx6
    · exact hx6
  try clear_value x8
  refine ite_elim (P := Within b) ?_ ?_
  · refine State.setN_within c5 ?_
    refine State.bump_within c6 ?_
    refine State.setN_within c7 ?_
    exact hx8
  · exact hx8

theorem State.readFrame_within {b : Bounds} {p0 p1 p2 p3 p4 p5} (qdests : b.parts .dests) (c1 : b.regs (O08.ROUTE_STATE p1)) (c2 : b.regs (O07.OUT_STATE p1)) (c3 : b.regs (O07.SYNC_DELAY p1)) (c4 : b.regs (O08.PATH_DELAY p1)) (hp0 : Within b p0) : Within b (State.readFrame p0 p1 p2 p3 p4 p5) := by
  unfold State.readFrame
  extract_lets -merge -useContext -underBinder x1 x2 x3 x4 x5
  have hx3 : Within b x3 := by
    unfold x3
    refine State.setDest_within qdests ?_
    exact hp0
  try clear_value x3
  have hx4 : Within b x4 := by
    unfold x4
    refine ite_elim (P := Within b) ?_ ?_
    · refine State.setN_within c1 ?_
      exact hx3
    · exact hx3
  try clear_value x4
  have hx5 : Within b x5 := by
    unfold x5
    refine ite_elim (P := Within b) ?_ ?_
    · refine State.setN_within c2 ?_
      refine State.setN_within c3 ?_
      exact hx4
    · exact hx4
  try clear_value x5
  refine State.setPathDelay_within c4 ?_
  exact hx5

theorem State.selectFrame_within {b : Bounds} {p0 p1 p2 p3} (qevu : b.parts .evu) (qdests : b.parts .dests) (c2 : ∀ w0, ∀ k ∈ eventRegs w0, b.regs k) (c3 : b.regs (O08.ROUTE_STATE p1)) (c4 : b.regs (O07.OUT_FLAGS p1)) (c5 : b.regs (O07.SYNC_DELAY p1)) (c6 : b.regs (O07.FRAMES_SUBST p1)) (c7 : b.regs (O07.OUT_STATE p1)) (c8 : b.regs (O08.PATH_DELAY p1)) (c9 : b.regs (O08.ROUTE_FLAGS p1)) (c10 : b.regs (O08.AUDIO_DELAY_APPLIED p1)) (c11 : b.regs (O07.FRAMES_REPEATED p1)) (c12 : b.regs (O07.FRAMES_DROPPED p1)) (hp0 : Within b p0) : Within b (State.selectFrame p0 p1 p2 p3) := by
  unfold State.selectFrame
  extract_lets -merge -useContext -underBinder x1 x2 x3 x4 x5 x6
  refine ite_elim (P := Within b) ?_ ?_
  · refine State.lossFrame_within qevu qdests c2 c3 c4 c5 c6 c7 ?_
    exact hp0
  · split
    · split
      · refine State.lossFrame_within qevu qdests c2 c3 c4 c5 c6 c7 ?_
        exact hp0
      · refine State.readFrame_within qdests c3 c7 c5 c8 ?_
        exact hp0
    · extract_lets -merge -useContext -underBinder x7
      refine ite_elim (P := Within b) ?_ ?_
      · refine State.autoDelay_within qevu (c2 _) c9 (c2 _) c10 ?_
        refine State.slipped_within qevu qdests c4 c11 c12 c2 ?_
        refine State.readFrame_within qdests c3 c7 c5 c8 ?_
        exact hp0
      · refine ite_elim (P := Within b) ?_ ?_
        · refine State.autoDelay_within qevu (c2 _) c9 (c2 _) c10 ?_
          refine State.slipped_within qevu qdests c4 c11 c12 c2 ?_
          refine State.readFrame_within qdests c3 c7 c5 c8 ?_
          exact hp0
        · refine State.readFrame_within qdests c3 c7 c5 c8 ?_
          exact hp0

theorem State.beginStreams_within {b : Bounds} {p0 p1} (qfabric : b.parts .fabric) (hp0 : Within b p0) : Within b (State.beginStreams p0 p1) := by
  unfold State.beginStreams
  extract_lets -merge -useContext -underBinder x1 x2 x3 x4
  refine State.forEach_within ?_ ?_
  · exact hp0
  · intro u5 u6 hu7
    try beta_reduce
    refine State.setDesc_within qfabric ?_
    exact hu7

theorem State.pictureFrame_within {b : Bounds} {p0 p1 p2} (qevu : b.parts .evu) (qdests : b.parts .dests) (c2 : b.regs (O07.SYNC_DELAY p1)) (c3 : b.regs (O07.OUT_STATE p1)) (c4 : b.regs (O08.PATH_DELAY p1)) (c5 : ∀ w0, ∀ k ∈ eventRegs w0, b.regs k) (c6 : b.regs (O08.ROUTE_STATE p1)) (c7 : b.regs (O07.OUT_FLAGS p1)) (c8 : b.regs (O07.FRAMES_SUBST p1)) (c9 : b.regs (O08.ROUTE_FLAGS p1)) (c10 : b.regs (O08.AUDIO_DELAY_APPLIED p1)) (c11 : b.regs (O07.FRAMES_REPEATED p1)) (c12 : b.regs (O07.FRAMES_DROPPED p1)) (c13 : b.regs (O08.SOURCE_SYNC p1)) (hp0 : Within b p0) : Within b (State.pictureFrame p0 p1 p2) := by
  unfold State.pictureFrame
  extract_lets -merge -useContext -underBinder x1 x2 x3 x4 x5 x6
  have hx2 : ∀ a0, Within b (x2 a0) := by
    unfold x2
    intro u7
    try beta_reduce
    refine ite_elim (P := Within b) ?_ ?_
    · refine State.setN_within c2 ?_
      refine State.setN_within c3 ?_
      exact hp0
    · exact hp0
  try clear_value x2
  have hx4 : Within b x4 := by
    unfold x4
    refine ite_elim (P := Within b) ?_ ?_
    · refine ite_elim (P := Within b) ?_ ?_
      · refine ite_elim (P := Within b) ?_ ?_
        · refine State.setPathDelay_within c4 ?_
          refine State.setDest_within qdests ?_
          refine hx2 _
        · refine State.lossFrame_within qevu qdests c5 c6 c7 c2 c8 c3 ?_
          exact hp0
      · refine State.selectFrame_within qevu qdests c5 c6 c7 c2 c8 c3 c4 c9 c10 c11 c12 ?_
        exact hp0
    · refine ite_elim (P := Within b) ?_ ?_
      · refine State.setPathDelay_within c4 ?_
        refine hx2 _
      · refine State.setPathDelay_within c4 ?_
        refine hx2 _
  try clear_value x4
  have hx6 : Within b x6 := by
    unfold x6
    refine State.setDest_within qdests ?_
    exact hx4
  try clear_value x6
  refine State.setN_within c13 ?_
  exact hx6

theorem State.leaveIdle_within {b : Bounds} {p0 p1} (qevu : b.parts .evu) (c1 : ∀ k ∈ eventRegs 113, b.regs k) (c2 : b.regs (O07.OUT_STATE p1)) (c3 : b.regs (O07.SQUELCH_CAUSE p1)) (c4 : ∀ w0, b.regs (O11.TX_STATE w0)) (hp0 : Within b p0) : Within b (State.leaveIdle p0 p1) := by
  unfold State.leaveIdle
  extract_lets -merge -useContext -underBinder x1
  have hx1 : Within b x1 := by
    unfold x1
    refine State.raise_within qevu c1 ?_
    refine State.setN_within c2 ?_
    refine State.setN_within c3 ?_
    exact hp0
  try clear_value x1
  refine ite_elim (P := Within b) ?_ ?_
  · exact hp0
  · refine State.forEach_within ?_ ?_
    · exact hx1
    · intro u2 u3 hu2
      refine State.laneTx_within (c4 _) ?_
      exact hu2

theorem State.countSubst_within {b : Bounds} {p0 p1} (qdests : b.parts .dests) (c1 : b.regs (O07.FRAMES_SUBST p1)) (hp0 : Within b p0) : Within b (State.countSubst p0 p1) := by
  unfold State.countSubst
  extract_lets -merge -useContext -underBinder x1
  refine ite_elim (P := Within b) ?_ ?_
  · refine State.bump_within c1 ?_
    refine State.setDest_within qdests ?_
    exact hp0
  · exact hp0

theorem State.stepTiming_within {b : Bounds} {p0 p1} (qevu : b.parts .evu) (qdests : b.parts .dests) (c2 : ∀ k ∈ eventRegs 119, b.regs k) (c3 : b.regs (O07.OUT_FLAGS p1)) (hp0 : Within b p0) : Within b (State.stepTiming p0 p1) := by
  unfold State.stepTiming
  extract_lets -merge -useContext -underBinder x1
  refine ite_elim (P := Within b) ?_ ?_
  · refine State.raise_within qevu c2 ?_
    refine State.flag_within c3 ?_
    refine State.setDest_within qdests ?_
    exact hp0
  · exact hp0

theorem State.markSubst_within {b : Bounds} {p0} (qdests : b.parts .dests) (qfabric : b.parts .fabric) (qinputs : b.parts .inputs) (c3 : ∀ (w0 : ℕ), b.regs (O07.OUT_FLAGS w0)) (hp0 : Within b p0) : Within b (State.markSubst p0) := by
  unfold State.markSubst
  refine State.forEach_within ?_ ?_
  · exact hp0
  · intro u1 u2 hu3
    try beta_reduce
    split
    · extract_lets -merge -useContext -underBinder x4 x5
      refine ite_elim (P := Within b) ?_ ?_
      · refine State.flag_within (c3 _) ?_
        refine State.setDest_within qdests ?_
        exact hu3
      · refine ite_elim (P := Within b) ?_ ?_
        · refine State.incomplete_within qfabric qinputs ?_
          exact hu3
        · refine ite_elim (P := Within b) ?_ ?_
          · refine State.setInput_within qinputs ?_
            exact hu3
          · exact hu3
    · exact hu3

theorem State.sdiHold_within {b : Bounds} {p0} (qinputs : b.parts .inputs) (qdests : b.parts .dests) (c2 : ∀ w0, b.regs (O07.OUT_STATE w0)) (hp0 : Within b p0) : Within b (State.sdiHold p0) := by
  unfold State.sdiHold
  extract_lets -merge -useContext -underBinder x1 x2
  have hx1 : Within b x1 := by
    unfold x1
    refine State.forEach_within ?_ ?_
    · exact hp0
    · intro u3 u4 hu3
      try beta_reduce
      extract_lets -merge -useContext -underBinder x5
      refine ite_elim (P := Within b) ?_ ?_
      · refine State.setInput_within qinputs ?_
        exact hu3
      · exact hu3
  try clear_value x1
  have hx2 : Within b x2 := by
    unfold x2
    refine State.forEach_within ?_ ?_
    · exact hx1
    · intro u6 u7 hu6
      try beta_reduce
      extract_lets -merge -useContext -underBinder x8
      refine State.setDest_within qdests ?_
      exact hu6
  try clear_value x2
  refine State.forEach_within ?_ ?_
  · exact hx2
  · intro u9 u10 hu9
    try beta_reduce
    refine ite_elim (P := Within b) ?_ ?_
    · refine State.setN_within (c2 _) ?_
      exact hu9
    · exact hu9

theorem State.sdiHbmResume_within {b : Bounds} {p0} (qinputs : b.parts .inputs) (qdests : b.parts .dests) (hp0 : Within b p0) : Within b (State.sdiHbmResume p0) := by
  unfold State.sdiHbmResume
  extract_lets -merge -useContext -underBinder x1
  have hx1 : Within b x1 := by
    unfold x1
    refine State.forEach_within ?_ ?_
    · exact hp0
    · intro u2 u3 hu2
      try beta_reduce
      extract_lets -merge -useContext -underBinder x4
      refine State.setInput_within qinputs ?_
      exact hu2
  try clear_value x1
  refine State.forEach_within ?_ ?_
  · exact hx1
  · intro u5 u6 hu5
    try beta_reduce
    extract_lets -merge -useContext -underBinder x7
    refine State.setDest_within qdests ?_
    exact hu5

theorem State.inApplied_within {b : Bounds} {p0 p1} (qfabric : b.parts .fabric) (qinputs : b.parts .inputs) (qevu : b.parts .evu) (c3 : b.regs (O06.IN_STATE (instOf p1))) (c4 : ∀ k ∈ eventRegs 97, b.regs k) (c5 : b.regs (O06.IN_FLAGS (instOf p1))) (c6 : b.regs (O06.LOCK_LOSSES (instOf p1))) (c7 : ∀ (w0 : ℕ), b.regs (O06.IN_LINK_MODE w0)) (hp0 : Within b p0) : Within b (State.inApplied p0 p1) := by
  unfold State.inApplied
  extract_lets -merge -useContext -underBinder x1
  split
  · refine ite_elim (P := Within b) ?_ ?_
    · refine ite_elim (P := Within b) ?_ ?_
      · refine State.setN_within c3 ?_
        exact hp0
      · exact hp0
    · refine State.setN_within c3 ?_
      refine State.incomplete_within qfabric qinputs ?_
      refine State.lossOfLock_within qfabric qinputs qevu c4 c5 c6 ?_
      exact hp0
  · extract_lets -merge -useContext -underBinder x2 x3 x4 x5
    have hx5 : Within b x5 := by
      unfold x5
      refine State.forEach_within ?_ ?_
      · exact hp0
      · intro u6 u7 hu8
        try beta_reduce
        refine ite_elim (P := Within b) ?_ ?_
        · refine State.setN_within (c7 _) ?_
          exact hu8
        · exact hu8
    try clear_value x5
    refine State.forEach_within ?_ ?_
    · exact hx5
    · intro u9 u10 hu11
      try beta_reduce
      refine State.setN_within (c7 _) ?_
      exact hu11
  · exact hp0

theorem State.retuneLanes_within {b : Bounds} {p0 p1} (qlanes : b.parts .lanes) (qevu : b.parts .evu) (c2 : ∀ (w0 : ℕ), b.regs (O07.OUT_STATE w0)) (c3 : ∀ (w0 : ℕ), b.regs (O07.SQUELCH_CAUSE w0)) (c4 : ∀ k ∈ eventRegs 112, b.regs k) (c5 : ∀ (w0 : ℕ), b.regs (O07.OUT_FLAGS w0)) (c6 : ∀ (w0 : ℕ), b.regs (O0C.EMBED_STATE w0)) (c7 : ∀ (w0 : ℕ), b.regs (O11.TX_STATE w0)) (hp0 : Within b p0) : Within b (State.retuneLanes p0 p1) := by
  unfold State.retuneLanes
  extract_lets -merge -useContext -underBinder x1
  refine State.forEach_within ?_ ?_
  · exact hp0
  · intro u2 u3 hu4
    try beta_reduce
    extract_lets -merge -useContext -underBinder x5 x6
    have hx6 : Within b x6 := by
      unfold x6
      refine State.setLane_within qlanes ?_
      exact hu4
    try clear_value x6
    refine ite_elim (P := Within b) ?_ ?_
    · exact hu4
    · refine ite_elim (P := Within b) ?_ ?_
      · refine State.lanePllLost_within qevu qlanes c2 c3 c4 c5 c6 c7 ?_
        exact hx6
      · exact hx6

theorem State.outApplied_within {b : Bounds} {p0 p1} (qlanes : b.parts .lanes) (qevu : b.parts .evu) (qdests : b.parts .dests) (c3 : ∀ (w0 : ℕ), b.regs (O07.OUT_STATE w0)) (c4 : ∀ (w0 : ℕ), b.regs (O07.SQUELCH_CAUSE w0)) (c5 : ∀ k ∈ eventRegs 112, b.regs k) (c6 : ∀ (w0 : ℕ), b.regs (O07.OUT_FLAGS w0)) (c7 : ∀ (w0 : ℕ), b.regs (O0C.EMBED_STATE w0)) (c8 : ∀ (w0 : ℕ), b.regs (O11.TX_STATE w0)) (c9 : ∀ (w0 : ℕ), b.regs (O07.OUT_LINK_MODE w0)) (hp0 : Within b p0) : Within b (State.outApplied p0 p1) := by
  unfold State.outApplied
  extract_lets -merge -useContext -underBinder x1
  split
  · refine ite_elim (P := Within b) ?_ ?_
    · refine State.retuneLanes_within qlanes qevu c3 c4 c5 c6 c7 c8 ?_
      refine ite_elim (P := Within b) ?_ ?_
      · refine State.setN_within (c3 _) ?_
        exact hp0
      · exact hp0
    · refine State.outSquelch_within qevu (c3 _) (c4 _) c5 (c6 _) (c7 _) c8 ?_
      exact hp0
  · extract_lets -merge -useContext -underBinder x2
    refine State.setDest_within qdests ?_
    refine State.retuneLanes_within qlanes qevu c3 c4 c5 c6 c7 c8 ?_
    exact hp0
  · extract_lets -merge -useContext -underBinder x3 x4 x5 x6
    have hx6 : Within b x6 := by
      unfold x6
      refine State.forEach_within ?_ ?_
      · exact hp0
      · intro u7 u8 hu9
        try beta_reduce
        refine ite_elim (P := Within b) ?_ ?_
        · refine State.setN_within (c9 _) ?_
          exact hu9
        · exact hu9
    try clear_value x6
    refine State.retuneLanes_within qlanes qevu c3 c4 c5 c6 c7 c8 ?_
    refine State.forEach_within ?_ ?_
    · exact hx6
    · intro u10 u11 hu12
      try beta_reduce
      refine State.setN_within (c9 _) ?_
      exact hu12
  · refine State.forEach_within ?_ ?_
    · exact hp0
    · intro u13 u14 hu15
      try beta_reduce
      extract_lets -merge -useContext -underBinder x16
      refine State.lanePllLost_within qevu qlanes c3 c4 c5 c6 c7 c8 ?_
      refine State.setLane_within qlanes ?_
      exact hu15
  · extract_lets -merge -useContext -underBinder x17
    refine State.setDest_within qdests ?_
    exact hp0
  · extract_lets -merge -useContext -underBinder x18
    refine State.setDest_within qdests ?_
    exact hp0
  · exact hp0

theorem execSdiSignalDetect_within {b : Bounds} {p0 p1} (qinputs : b.parts .inputs) (c1 : b.regs (O06.IN_STATE p0)) (hp1 : Within b p1) : WithinOut b (execSdiSignalDetect p0 p1) := by
  unfold execSdiSignalDetect
  refine onInst_within ?_ ?_
  · exact hp1
  · intro u1 hu1
    try beta_reduce
    refine ite_elim (P := Within b) ?_ ?_
    · refine State.search_within qinputs c1 ?_
      exact hu1
    · exact hu1

theorem execSdiSignalLoss_within {b : Bounds} {p0 p1} (qfabric : b.parts .fabric) (qinputs : b.parts .inputs) (qevu : b.parts .evu) (c3 : b.regs (O06.IN_STATE p0)) (c4 : ∀ k ∈ eventRegs 97, b.regs k) (c5 : b.regs (O06.IN_FLAGS p0)) (c6 : b.regs (O06.LOCK_LOSSES p0)) (hp1 : Within b p1) : WithinOut b (execSdiSignalLoss p0 p1) := by
  unfold execSdiSignalLoss
  refine onInst_within ?_ ?_
  · exact hp1
  · intro u1 hu2
    try beta_reduce
    refine ite_elim (P := Within b) ?_ ?_
    · refine State.setN_within c3 ?_
      refine State.lossOfLock_within qfabric qinputs qevu c4 c5 c6 ?_
      exact hu2
    · exact hu2

theorem execCdrLock_within {b : Bounds} {p0 p1} (qinputs : b.parts .inputs) (c1 : b.regs (O06.IN_STATE p0)) (c2 : b.regs (O06.IN_FAMILY p0)) (c3 : b.regs (O06.IN_RATE p0)) (hp1 : Within b p1) : WithinOut b (execCdrLock p0 p1) := by
  unfold execCdrLock
  refine onInst_within ?_ ?_
  · exact hp1
  · intro u1 hu1
    try beta_reduce
    extract_lets -merge -useContext -underBinder x2 x3 x4
    have hx4 : Within b x4 := by
      unfold x4
      refine State.setInput_within qinputs ?_
      exact hu1
    try clear_value x4
    refine ite_elim (P := Within b) ?_ ?_
    · refine State.setN_within c1 ?_
      refine State.setN_within c2 ?_
      refine State.setN_within c3 ?_
      exact hx4
    · exact hu1

theorem execSdiFrameStructure_within {b : Bounds} {p0 p1 p2 p3 p4 p5 p6 p7 p8 p9 p10 p11 p12} (qinputs : b.parts .inputs) (qfabric : b.parts .fabric) (qevu : b.parts .evu) (qamx : b.parts .amx) (c4 : ∀ k ∈ eventRegs 104, b.regs k) (c5 : b.regs (O06.ANC_DROPPED p0)) (c6 : b.regs (O06.IN_PID_STATE p0)) (c7 : b.regs (O06.TRS_ERR p0)) (c8 : b.regs (O06.EDH_FF_ERR p0)) (c9 : b.regs (O06.EDH_AP_ERR p0)) (c10 : b.regs (O06.CRC_ERR_LINES p0)) (c11 : ∀ k ∈ eventRegs 101, b.regs k) (c12 : b.regs (O06.IN_FLAGS p0)) (c13 : ∀ k ∈ eventRegs 102, b.regs k) (c14 : b.regs (O06.IN_SKEW p0)) (c15 : b.regs (O06.IN_LEVEL p0)) (c16 : b.regs (O06.IN_STATE p0)) (c17 : ∀ k ∈ eventRegs 97, b.regs k) (c18 : b.regs (O06.LOCK_LOSSES p0)) (c19 : ∀ k ∈ eventRegs 105, b.regs k) (c20 : b.regs (O06.IN_COLOUR p0)) (c21 : b.regs (O06.IN_FORMAT p0)) (c22 : ∀ k ∈ eventRegs 98, b.regs k) (c23 : b.regs (O06.FRAMES_IN p0)) (c24 : b.regs (O0C.DEEMB_SRC_ACTIVE (3072 + p0))) (c25 : ∀ k ∈ eventRegs 96, b.regs k) (c26 : ∀ k ∈ eventRegs 99, b.regs k) (hp12 : Within b p12) : WithinOut b (execSdiFrameStructure p0 p1 p2 p3 p4 p5 p6 p7 p8 p9 p10 p11 p12) := by
  unfold execSdiFrameStructure
  refine onInst_within ?_ ?_
  · exact hp12
  · intro u1 hu2
    try beta_reduce
    extract_lets -merge -useContext -underBinder x3 x4 x5 x6 x7 x8 x9 x10
    have hx7 : Within b x7 := by
      unfold x7
      refine State.ancFlush_within qinputs qfabric qevu c4 c5 ?_
      refine State.agePid_within qinputs c6 ?_
      refine State.frameErrors_within qevu qinputs c7 c8 c9 c10 c11 c12 c13 ?_
      exact hu2
    try clear_value x7
    have hx8 : Within b x8 := by
      unfold x8
      refine State.setN_within c14 ?_
      refine State.setN_within c15 ?_
      exact hx7
    try clear_value x8
    have hx10 : Within b x10 := by
      unfold x10
      refine State.setInput_within qinputs ?_
      exact hx8
    try clear_value x10
    refine ite_elim (P := Within b) ?_ ?_
    · exact hu2
    · refine ite_elim (P := Within b) ?_ ?_
      · refine ite_elim (P := Within b) ?_ ?_
        · refine State.setN_within c16 ?_
          refine State.lossOfLock_within qfabric qinputs qevu c17 c12 c18 ?_
          exact hx10
        · refine ite_elim (P := Within b) ?_ ?_
          · refine State.raise_within qevu c19 ?_
            refine State.flag_within c12 ?_
            refine State.setN_within c16 ?_
            refine State.lossOfLock_within qfabric qinputs qevu c17 c12 c18 ?_
            exact hx10
          · refine State.setProperties_within qevu c20 c21 c22 c12 ?_
            refine State.frameWritten_within qfabric qinputs c23 ?_
            exact hx10
      · refine State.judgeFrame_within qinputs qamx qevu qfabric c24 c16 c20 c21 c22 c12 c25 c26 ?_
        exact hx10

theorem execSdiLockLoss_within {b : Bounds} {p0 p1 p2} (qinputs : b.parts .inputs) (qfabric : b.parts .fabric) (qevu : b.parts .evu) (c3 : b.regs (O06.IN_STATE p0)) (c4 : ∀ k ∈ eventRegs 97, b.regs k) (c5 : b.regs (O06.IN_FLAGS p0)) (c6 : b.regs (O06.LOCK_LOSSES p0)) (hp2 : Within b p2) : WithinOut b (execSdiLockLoss p0 p1 p2) := by
  unfold execSdiLockLoss
  refine onInst_within ?_ ?_
  · exact hp2
  · intro u1 hu2
    try beta_reduce
    extract_lets -merge -useContext -underBinder x3
    refine ite_elim (P := Within b) ?_ ?_
    · refine State.search_within qinputs c3 ?_
      refine State.lossOfLock_within qfabric qinputs qevu c4 c5 c6 ?_
      exact hu2
    · exact hu2

theorem execSearchDwell_within {b : Bounds} {p0 p1} (qinputs : b.parts .inputs) (hp1 : Within b p1) : WithinOut b (execSearchDwell p0 p1) := by
  unfold execSearchDwell
  refine onInst_within ?_ ?_
  · exact hp1
  · intro u1 hu1
    try beta_reduce
    extract_lets -merge -useContext -underBinder x2 x3
    refine ite_elim (P := Within b) ?_ ?_
    · refine State.setInput_within qinputs ?_
      exact hu1
    · exact hu1

theorem execPayloadId_within {b : Bounds} {p0 p1 p2 p3 p4 p5 p6 p7} (qinputs : b.parts .inputs) (qevu : b.parts .evu) (c2 : b.regs (O06.IN_PID_STATE p0)) (c3 : b.regs (O06.IN_PAYLOAD_ID p0)) (c4 : ∀ k ∈ eventRegs 100, b.regs k) (c5 : b.regs (O06.IN_FLAGS p0)) (c6 : b.regs (O06.IN_COLOUR p0)) (c7 : b.regs (O06.IN_FORMAT p0)) (c8 : ∀ k ∈ eventRegs 98, b.regs k) (hp7 : Within b p7) : WithinOut b (execPayloadId p0 p1 p2 p3 p4 p5 p6 p7) := by
  unfold execPayloadId
  refine onInst_within ?_ ?_
  · exact hp7
  · intro u1 hu2
    try beta_reduce
    extract_lets -merge -useContext -underBinder x3 x4 x5 x6 x7 x8 x9
    have hx7 : Within b x7 := by
      unfold x7
      refine State.setInput_within qinputs ?_
      exact hu2
    try clear_value x7
    have hx8 : Within b x8 := by
      unfold x8
      refine State.setN_within c2 ?_
      refine State.setN_within c3 ?_
      exact hx7
    try clear_value x8
    have hx9 : Within b x9 := by
      unfold x9
      refine ite_elim (P := Within b) ?_ ?_
      · exact hx8
      · refine State.raise_within qevu c4 ?_
        refine State.flag_within c5 ?_
        exact hx8
    try clear_value x9
    refine ite_elim (P := Within b) ?_ ?_
    · exact hu2
    · refine ite_elim (P := Within b) ?_ ?_
      · refine State.setProperties_within qevu c6 c7 c8 c5 ?_
        exact hx9
      · exact hx9

theorem execErroredSecond_within {b : Bounds} {p0} (qinputs : b.parts .inputs) (c1 : ∀ (w0 : ℕ), b.regs (O06.IN_FREQ_OFFSET w0)) (c2 : ∀ (w0 : ℕ), b.regs (O06.ERRORED_SECONDS w0)) (hp0 : Within b p0) : WithinOut b (execErroredSecond p0) := by
  unfold execErroredSecond
  refine live_within ?_ ?_
  · exact hp0
  · intro u1 hu2
    try beta_reduce
    refine ite_elim (P := Within b) ?_ ?_
    · exact hu2
    · refine State.forEach_within ?_ ?_
      · exact hu2
      · intro u3 u4 hu5
        try beta_reduce
        extract_lets -merge -useContext -underBinder x6 x7
        have hx6 : Within b x6 := by
          unfold x6
          refine State.setZ_within (c1 _) ?_
          exact hu5
        try clear_value x6
        refine ite_elim (P := Within b) ?_ ?_
        · refine State.bump_within (c2 _) ?_
          refine State.setInput_within qinputs ?_
          exact hx6
        · exact hx6

end Sys2Proof.Machine
end

