-- ==== Sys2Proof/Laws/WithinConversion.lean ====
section
/-! SUPPORT. What each operation of Machine/Conversion.lean may change at most (Laws/Within.lean). -/

set_option maxRecDepth 8000

namespace Sys2Proof.Machine

theorem State.poolCount_within {b : Bounds} {p0} (c0 : ∀ w0, b.regs (O09.BUSHEL_PATHS w0)) (c1 : ∀ w0, b.regs (O09.PECK_MASK w0)) (c2 : ∀ w0, b.regs (O09.BUSHEL_STATE w0)) (c3 : b.regs O09.BUSHELS_IN_SERVICE) (c4 : b.regs O09.POOL_PECKS) (c5 : b.regs O09.PECKS_COMMITTED) (c6 : b.regs O09.PECKS_FREE) (c7 : b.regs O09.PATHS_SHED) (c8 : b.regs O09.PATHS_RUNNING) (hp0 : Within b p0) : Within b (State.poolCount p0) := by
  unfold State.poolCount
  extract_lets -merge -useContext -underBinder x1 x2 x3 x4 x5 x6 x7 x8 x9 x10
  have hx3 : Within b x3 := by
    unfold x3
    refine State.forEach_within ?_ ?_
    · exact hp0
    · intro u11 u12 hu11
      try beta_reduce
      extract_lets -merge -useContext -underBinder x13 x14 x15 x16 x17
      have hx17 : Within b x17 := by
        unfold x17
        refine State.setBytes_within (c0 _) ?_
        refine State.setN_within (c1 _) ?_
        exact hu11
      try clear_value x17
      refine ite_elim (P := Within b) ?_ ?_
      · refine ite_elim (P := Within b) ?_ ?_
        · exact hx17
        · refine State.setN_within (c2 _) ?_
          exact hx17
      · exact hu11
  try clear_value x3
  have hx8 : Within b x8 := by
    unfold x8
    refine State.setN_within c3 ?_
    refine State.setN_within c4 ?_
    refine State.setN_within c5 ?_
    exact hx3
  try clear_value x8
  have hx9 : Within b x9 := by
    unfold x9
    refine State.setN_within c6 ?_
    exact hx8
  try clear_value x9
  refine State.setN_within c7 ?_
  refine State.setN_within c8 ?_
  exact hx9

theorem State.primePath_within {b : Bounds} {p0 p1} (qconv : b.parts .conv) (c1 : b.regs (O09.PATH_FLAGS p1)) (c2 : b.regs (O09.PATH_STATE p1)) (hp0 : Within b p0) : Within b (State.primePath p0 p1) := by
  unfold State.primePath
  extract_lets -merge -useContext -underBinder x1 x2
  have hx2 : Within b x2 := by
    unfold x2
    refine Within.f_conv (s := p0) qconv ?_
    exact hp0
  try clear_value x2
  refine State.flag_within c1 ?_
  refine State.setN_within c2 ?_
  exact hx2

theorem State.frcFrame_within {b : Bounds} {p0 p1} (qfabric : b.parts .fabric) (qconv : b.parts .conv) (hp0 : Within b p0) : Within b (State.frcFrame p0 p1) := by
  unfold State.frcFrame
  split
  · exact hp0
  · extract_lets -merge -useContext -underBinder x1 x2 x3
    have hx2 : Within b x2 := by
      unfold x2
      refine State.beginRead_within qfabric ?_
      refine State.beginRead_within qfabric ?_
      refine State.beginRead_within qfabric ?_
      exact hp0
    try clear_value x2
    refine Within.f_conv (s := x2) qconv ?_
    exact hx2

theorem State.placePath_within {b : Bounds} {p0 p1 p2 p3 p4 p5} (qconv : b.parts .conv) (qevu : b.parts .evu) (c2 : b.regs (O09.PECK_DETAIL p1)) (c3 : b.regs (O09.PECKS_USED p1)) (c4 : b.regs (O09.FUNCS_ACTIVE p1)) (c5 : b.regs (O09.CONV_LATENCY p1)) (c6 : b.regs (O09.WORK_BYTES p1)) (c7 : b.regs (O09.PATH_STATE p1)) (c8 : ∀ k ∈ eventRegs 144, b.regs k) (c9 : b.regs (O09.PATH_FLAGS p1)) (hp0 : Within b p0) : Within b (State.placePath p0 p1 p2 p3 p4 p5) := by
  unfold State.placePath
  extract_lets -merge -useContext -underBinder x1 x2 x3 x4 x5 x6 x7
  have hx3 : Within b x3 := by
    unfold x3
    refine State.setBytes_within c2 ?_
    refine State.setN_within c3 ?_
    refine State.setBytes_within c4 ?_
    exact hp0
  try clear_value x3
  have hx4 : Within b x4 := by
    unfold x4
    refine State.setN_within c5 ?_
    exact hx3
  try clear_value x4
  have hx5 : Within b x5 := by
    unfold x5
    refine State.setN_within c6 ?_
    exact hx4
  try clear_value x5
  have hx7 : Within b x7 := by
    unfold x7
    refine Within.f_conv (s := x5) qconv ?_
    exact hx5
  try clear_value x7
  refine ite_elim (P := Within b) ?_ ?_
  · refine State.setN_within c6 ?_
    refine State.setN_within c5 ?_
    refine State.setBytes_within c2 ?_
    refine State.setN_within c3 ?_
    refine State.setBytes_within c4 ?_
    refine State.setN_within c7 ?_
    exact hp0
  · refine State.raise_within qevu c8 ?_
    refine State.primePath_within qconv c9 c7 ?_
    exact hx7

theorem State.shedPath_within {b : Bounds} {p0 p1} (qevu : b.parts .evu) (qconv : b.parts .conv) (c2 : ∀ k ∈ eventRegs 151, b.regs k) (c3 : b.regs (O09.PATH_FLAGS p1)) (c4 : b.regs (O09.PECKS_USED p1)) (c5 : b.regs (O09.PATH_STATE p1)) (hp0 : Within b p0) : Within b (State.shedPath p0 p1) := by
  unfold State.shedPath
  extract_lets -merge -useContext -underBinder x1 x2
  have hx1 : Within b x1 := by
    unfold x1
    refine State.raise_within qevu c2 ?_
    refine State.flag_within c3 ?_
    refine State.setN_within c4 ?_
    refine State.setN_within c5 ?_
    exact hp0
  try clear_value x1
  refine Within.f_conv (s := x1) qconv ?_
  exact hx1

theorem State.bushelSeam_within {b : Bounds} {p0} (qevu : b.parts .evu) (qconv : b.parts .conv) (c2 : ∀ k ∈ eventRegs 150, b.regs k) (c3 : ∀ w0, b.regs (O09.BUSHEL_STATE w0)) (hp0 : Within b p0) : Within b (State.bushelSeam p0) := by
  unfold State.bushelSeam
  extract_lets -merge -useContext -underBinder x1 x2
  have hx1 : Within b x1 := by
    unfold x1
    refine State.forEach_within ?_ ?_
    · exact hp0
    · intro u3 u4 hu3
      try beta_reduce
      refine State.raise_within qevu c2 ?_
      refine State.setN_within (c3 _) ?_
      exact hu3
  try clear_value x1
  refine Within.f_conv (s := x1) qconv ?_
  exact hx1

theorem State.takeTable_within {b : Bounds} {p0 p1} (qconv : b.parts .conv) (hp0 : Within b p0) : Within b (State.takeTable p0 p1) := by
  unfold State.takeTable
  extract_lets -merge -useContext -underBinder x1 x2
  refine Within.f_conv (s := p0) qconv ?_
  exact hp0

theorem State.pathFrame_within {b : Bounds} {p0 p1} (qconv : b.parts .conv) (qfabric : b.parts .fabric) (qevu : b.parts .evu) (c3 : ∀ k ∈ eventRegs 148, b.regs k) (c4 : b.regs (O09.PATH_FLAGS p1)) (c5 : b.regs (O09.CADENCE_STATE p1)) (c6 : ∀ k ∈ eventRegs 147, b.regs k) (hp0 : Within b p0) : Within b (State.pathFrame p0 p1) := by
  unfold State.pathFrame
  extract_lets -merge -useContext -underBinder x1 x2
  have hx1 : Within b x1 := by
    unfold x1
    refine ite_elim (P := Within b) ?_ ?_
    · refine State.takeTable_within qconv ?_
      refine State.frcFrame_within qfabric qconv ?_
      exact hp0
    · exact hp0
  try clear_value x1
  have hx2 : Within b x2 := by
    unfold x2
    split
    · extract_lets -merge -useContext -underBinder x3
      refine State.raise_within qevu c3 ?_
      refine State.flag_within c4 ?_
      refine State.setN_within c5 ?_
      refine Within.f_conv (s := x1) qconv ?_
      exact hx1
    · exact hx1
  try clear_value x2
  split
  · extract_lets -merge -useContext -underBinder x4 x5 x6
    refine ite_elim (P := Within b) ?_ ?_
    · refine State.raise_within qevu c6 ?_
      refine State.flag_within c4 ?_
      refine Within.f_conv (s := x2) qconv ?_
      exact hx2
    · exact hx2
  · exact hx2

theorem State.rePrime_within {b : Bounds} {p0 p1} (qconv : b.parts .conv) (c1 : ∀ (w0 : ℕ), b.regs (O09.PATH_FLAGS w0)) (c2 : ∀ (w0 : ℕ), b.regs (O09.PATH_STATE w0)) (hp0 : Within b p0) : Within b (State.rePrime p0 p1) := by
  unfold State.rePrime
  refine State.forEach_within ?_ ?_
  · exact hp0
  · intro u1 u2 hu3
    try beta_reduce
    refine ite_elim (P := Within b) ?_ ?_
    · refine State.primePath_within qconv (c1 _) (c2 _) ?_
      exact hu3
    · exact hu3

theorem State.lutUsers_within {b : Bounds} {p0} (c0 : ∀ w0, b.regs (O09.LUT_USERS w0)) (hp0 : Within b p0) : Within b (State.lutUsers p0) := by
  unfold State.lutUsers
  refine State.forEach_within ?_ ?_
  · exact hp0
  · intro u1 u2 hu1
    try beta_reduce
    refine State.setN_within (c0 _) ?_
    exact hu1

theorem State.startLutLoad_within {b : Bounds} {p0 p1 p2 p3} (qsent : b.parts .sent) (qevu : b.parts .evu) (qsess : b.parts .sess) (qmail : b.parts .mail) (qjobs : b.parts .jobs) (c5 : ∀ w0, b.regs (O1B.JOB_ENDED w0)) (c6 : ∀ w0, b.regs (O1B.JOB_RESULT w0)) (c7 : ∀ w0, b.regs (O1B.JOB_OWNER w0)) (c8 : ∀ w0, b.regs (O1B.JOB_PROGRESS w0)) (c9 : ∀ w0, b.regs (O1B.JOB_STATUS w0)) (c10 : ∀ w0, b.regs (O1B.JOB_OBJECT w0)) (c11 : ∀ w0, b.regs (O1C.SESS_QUEUE w0)) (c12 : ∀ k ∈ eventRegs 451, b.regs k) (c13 : b.regs O1C.FILULO_FLAGS) (c14 : ∀ k ∈ eventRegs 432, b.regs k) (c15 : b.regs O1B.JOBS_QUEUED) (c16 : b.regs O1B.JOBS_RUNNING) (c17 : ∀ w0, b.regs (O1B.JOB_STARTED w0)) (c18 : ∀ w0, b.regs (O1B.JOB_STATE w0)) (c19 : b.regs (O09.LUT_STATE p3)) (hp0 : Within b p0) : Within1 b (State.startLutLoad p0 p1 p2 p3) := by
  unfold State.startLutLoad
  extract_lets -merge -useContext -underBinder x1
  have hx1 : Within1 b x1 := by
    unfold x1
    refine State.startJob_within qsent qevu qsess qmail qjobs c5 c6 c7 c8 c9 c10 c11 c12 c13 c14 c15 c16 c17 c18 ?_
    exact hp0
  try clear_value x1
  refine ite_elim (P := Within1 b) ?_ ?_
  · refine within1_mk ?_
    refine State.setN_within c19 ?_
    change Within1 b _
    exact hx1
  · exact hx1

theorem State.lutLoaded_within {b : Bounds} {p0 p1 p2} (qevu : b.parts .evu) (qconv : b.parts .conv) (c2 : ∀ k ∈ eventRegs 152, b.regs k) (c3 : b.regs (O09.LUT_CRC p1)) (c4 : ∀ k ∈ eventRegs 153, b.regs k) (hp0 : Within b p0) : Within1 b (State.lutLoaded p0 p1 p2) := by
  unfold State.lutLoaded
  extract_lets -merge -useContext -underBinder x1 x2
  refine ite_elim (P := Within1 b) ?_ ?_
  · refine within1_mk ?_
    refine State.raise_within qevu c2 ?_
    refine State.setN_within c3 ?_
    refine Within.f_conv (s := p0) qconv ?_
    exact hp0
  · refine within1_mk ?_
    refine State.raise_within qevu c4 ?_
    exact hp0

theorem State.lutJobEnd_within {b : Bounds} {p0 p1} (c0 : b.regs (O09.LUT_STATE p1)) (hp0 : Within b p0) : Within b (State.lutJobEnd p0 p1) := by
  unfold State.lutJobEnd
  refine State.setN_within c0 ?_
  exact hp0

theorem State.gamutHits_within {b : Bounds} {p0 p1 p2} (qevu : b.parts .evu) (c1 : ∀ k ∈ eventRegs 154, b.regs k) (c2 : b.regs (O09.PATH_FLAGS p1)) (c3 : b.regs (O09.GAMUT_CLIPPED p1)) (hp0 : Within b p0) : Within b (State.gamutHits p0 p1 p2) := by
  unfold State.gamutHits
  refine ite_elim (P := Within b) ?_ ?_
  · exact hp0
  · refine State.raiseLim_within qevu c1 ?_
    refine State.flag_within c2 ?_
    refine State.bump_within c3 ?_
    exact hp0

theorem State.askOn_within {b : Bounds} {p0 p1} (qfabric : b.parts .fabric) (hp0 : Within b p0) : Within b (State.askOn p0 p1) := by
  unfold State.askOn
  refine State.forEach_within ?_ ?_
  · exact hp0
  · intro u1 u2 hu3
    try beta_reduce
    extract_lets -merge -useContext -underBinder x4
    refine ite_elim (P := Within b) ?_ ?_
    · exact hu3
    · refine State.setDesc_within qfabric ?_
      exact hu3

theorem State.openLine_within {b : Bounds} {p0 p1} (qfresh : b.parts .fresh) (hp0 : Within b p0) : Within2 b (State.openLine p0 p1) := by
  unfold State.openLine
  extract_lets -merge -useContext -underBinder x1
  have hx1 : Within2 b x1 := by
    unfold x1
    refine State.drawBytes_within qfresh ?_
    exact hp0
  try clear_value x1
  refine within2_mk ?_
  change Within2 b _
  exact hx1

theorem State.openLines_within {b : Bounds} {p0 p1 p2} (qfresh : b.parts .fresh) (hp1 : Within b p1) : Within2 b (State.openLines p0 p1 p2) := by
  induction p0 generalizing p1 with
  | zero => exact hp1
  | succ n ih => exact ih (State.openLine_within qfresh hp1)

theorem State.yieldLines_within {b : Bounds} {p0 p1 p2 p3 p4 p5} (qconv : b.parts .conv) (hp0 : Within b p0) : Within b (State.yieldLines p0 p1 p2 p3 p4 p5) := by
  unfold State.yieldLines
  split
  · extract_lets -merge -useContext -underBinder x1 x2
    have hx1 : Within b x1 := by
      unfold x1
      refine State.setPooled_within qconv ?_
      exact hp0
    try clear_value x1
    refine ite_elim (P := Within b) ?_ ?_
    · refine State.setPooled_within qconv ?_
      exact hp0
    · refine ite_elim (P := Within b) ?_ ?_
      · refine Within.f_conv (s := x1) qconv ?_
        exact hx1
      · exact hx1
  · refine State.setPooled_within qconv ?_
    exact hp0

theorem State.putLines_within {b : Bounds} {p0 p1 p2 p3 p4 p5 p6} (qconv : b.parts .conv) (hp0 : Within b p0) : Within b (State.putLines p0 p1 p2 p3 p4 p5 p6) := by
  unfold State.putLines
  split
  · refine State.yieldLines_within qconv ?_
    exact hp0
  · extract_lets -merge -useContext -underBinder x1 x2 x3 x4 x5 x6 x7 x8 x9 x10 x11
    refine State.yieldLines_within qconv ?_
    exact hp0

theorem State.ringStep_within {b : Bounds} {p0 p1 p2 p3 p4 p5 p6 p7} (qconv : b.parts .conv) (qfresh : b.parts .fresh) (hp0 : Within b p0) : Within b (State.ringStep p0 p1 p2 p3 p4 p5 p6 p7) := by
  unfold State.ringStep
  extract_lets -merge -useContext -underBinder x1 x2 x3 x4 x5 x6 x7 x8 x9 x10 x11 x12 x13
  have hx6 : Within b x6 := by
    unfold x6
    refine State.forEach_within ?_ ?_
    · exact hp0
    · intro u14 u15 hu16
      try beta_reduce
      refine State.setPooled_within qconv ?_
      exact hu16
  try clear_value x6
  have hx11 : Within2 b x11 := by
    unfold x11
    split
    · extract_lets -merge -useContext -underBinder x17
      have hx17 : Within2 b x17 := by
        unfold x17
        refine State.openLines_within qfresh ?_
        exact hx6
      try clear_value x17
      refine within2_mk ?_
      change Within2 b _
      exact hx17
    · refine within2_mk ?_
      exact hx6
    · refine within2_mk ?_
      exact hx6
    · refine State.openLines_within qfresh ?_
      exact hx6
  try clear_value x11
  have hx12 : Within b x12 := by
    unfold x12
    refine State.putLines_within qconv ?_
    change Within2 b _
    exact hx11
  try clear_value x12
  refine ite_elim (P := Within b) ?_ ?_
  · exact hp0
  · refine Within.f_conv (s := x12) qconv ?_
    exact hx12

theorem State.setLine_within {b : Bounds} {p0 p1 p2} (qconv : b.parts .conv) (hp0 : Within b p0) : Within b (State.setLine p0 p1 p2) := by
  unfold State.setLine
  extract_lets -merge -useContext -underBinder x1
  refine Within.f_conv (s := p0) qconv ?_
  exact hp0

theorem State.scaleStep_within {b : Bounds} {p0 p1 p2 p3 p4 p5 p6 p7} (qfresh : b.parts .fresh) (qconv : b.parts .conv) (hp0 : Within b p0) : Within b (State.scaleStep p0 p1 p2 p3 p4 p5 p6 p7) := by
  unfold State.scaleStep
  extract_lets -merge -useContext -underBinder x1 x2 x3
  have hx3 : Within2 b x3 := by
    unfold x3
    refine State.openLines_within qfresh ?_
    exact hp0
  try clear_value x3
  refine State.putLines_within qconv ?_
  change Within2 b _
  exact hx3

theorem State.runStep_within {b : Bounds} {p0 p1 p2 p3 p4 p5 p6 p7 p8} (qconv : b.parts .conv) (qfresh : b.parts .fresh) (qevu : b.parts .evu) (c3 : ∀ k ∈ eventRegs 154, b.regs k) (c4 : b.regs (O09.PATH_FLAGS p1)) (c5 : b.regs (O09.GAMUT_CLIPPED p1)) (hp0 : Within b p0) : Within b (State.runStep p0 p1 p2 p3 p4 p5 p6 p7 p8) := by
  unfold State.runStep
  extract_lets -merge -useContext -underBinder x1 x2 x3 x4 x5 x6
  have hx5 : Within b x5 := by
    unfold x5
    refine State.setLine_within qconv ?_
    refine State.setPooled_within qconv ?_
    exact hp0
  try clear_value x5
  refine ite_elim (P := Within b) ?_ ?_
  · refine State.ringStep_within qconv qfresh ?_
    refine State.setPooled_within qconv ?_
    exact hx5
  · split
    · exact hx5
    · extract_lets -merge -useContext -underBinder x7
      refine ite_elim (P := Within b) ?_ ?_
      · refine State.scaleStep_within qfresh qconv ?_
        exact hx5
      · refine State.gamutHits_within qevu c3 c4 c5 ?_
        refine State.putLines_within qconv ?_
        exact hx5

theorem State.runSteps_within {b : Bounds} {p0 p1 p2} (qconv : b.parts .conv) (qfresh : b.parts .fresh) (qevu : b.parts .evu) (qfabric : b.parts .fabric) (c4 : ∀ k ∈ eventRegs 154, b.regs k) (c5 : b.regs (O09.PATH_FLAGS p1)) (c6 : b.regs (O09.GAMUT_CLIPPED p1)) (hp0 : Within b p0) : Within b (State.runSteps p0 p1 p2) := by
  unfold State.runSteps
  extract_lets -merge -useContext -underBinder x1 x2 x3 x4 x5 x6 x7 x8
  have hx7 : Within b x7 := by
    unfold x7
    refine State.forEach_within ?_ ?_
    · exact hp0
    · intro u9 u10 hu11
      try beta_reduce
      extract_lets -merge -useContext -underBinder x12
      refine State.runStep_within qconv qfresh qevu c4 c5 c6 ?_
      exact hu11
  try clear_value x7
  have hx8 : Within b x8 := by
    unfold x8
    refine State.forEach_within ?_ ?_
    · exact hx7
    · intro u13 u14 hu15
      try beta_reduce
      refine State.askOn_within qfabric ?_
      exact hu15
  try clear_value x8
  refine ite_elim (P := Within b) ?_ ?_
  · exact hx8
  · refine State.askOn_within qfabric ?_
    exact hx8

theorem State.leadRead_within {b : Bounds} {p0 p1} (qfabric : b.parts .fabric) (hp0 : Within b p0) : Within b (State.leadRead p0 p1) := by
  unfold State.leadRead
  extract_lets -merge -useContext -underBinder x1 x2
  split
  · exact hp0
  · extract_lets -merge -useContext -underBinder x3
    refine State.forEach_within ?_ ?_
    · exact hp0
    · intro u4 u5 hu6
      try beta_reduce
      extract_lets -merge -useContext -underBinder x7 x8 x9 x10 x11 x12
      refine State.setDesc_within qfabric ?_
      exact hu6

theorem State.poolTick_within {b : Bounds} {p0} (qfabric : b.parts .fabric) (hp0 : Within b p0) : Within b (State.poolTick p0) := by
  unfold State.poolTick
  refine State.forEach_within ?_ ?_
  · exact hp0
  · intro u1 u2 hu3
    try beta_reduce
    refine State.leadRead_within qfabric ?_
    exact hu3

theorem execBushel_within {b : Bounds} {p0 p1 p2 p3} (qconv : b.parts .conv) (qfresh : b.parts .fresh) (qevu : b.parts .evu) (qfabric : b.parts .fabric) (qchain : b.parts .chain) (qbus : b.parts .bus) (qfmem : b.parts .fmem) (qbytes : b.parts .bytes) (qsent : b.parts .sent) (qnet : b.parts .net) (qfurlongs : b.parts .furlongs) (c11 : ∀ k ∈ eventRegs 154, b.regs k) (c12 : ∀ (w0 : ℕ), b.regs (O09.PATH_FLAGS w0)) (c13 : ∀ (w0 : ℕ), b.regs (O09.GAMUT_CLIPPED w0)) (c14 : b.regs (O04.IDLE_OUT (entSrc p1))) (c15 : ∀ (w0 : ℕ), b.regs (O04.CELLS_IN w0)) (c16 : ∀ (w0 : ℕ), b.regs (O04.CELLS_OUT w0)) (c17 : ∀ (w0 : ℕ), b.regs (O05.CLIP_LOADED w0)) (c18 : ∀ (w0 : ℕ), b.regs (O04.PORT_FLAGS w0)) (c19 : ∀ (w0 : ℕ), b.regs (O04.INVALID_CELLS w0)) (c20 : ∀ k ∈ eventRegs 66, b.regs k) (c21 : ∀ (w0 : ℕ), b.regs (O12.CELLS_IO w0)) (c22 : ∀ (w0 : ℕ), b.regs (O09.MC_FALLBACK_PCT w0)) (hp3 : Within b p3) : WithinOut b (execBushel p0 p1 p2 p3) := by
  unfold execBushel
  refine live_within ?_ ?_
  · exact hp3
  · intro u1 hu2
    try beta_reduce
    refine ite_elim (P := Within b) ?_ ?_
    · split
      · exact hu2
      · extract_lets -merge -useContext -underBinder x3 x4 x5 x6 x7
        have hx4 : Within b x4 := by
          unfold x4
          refine State.runSteps_within qconv qfresh qevu qfabric c11 (c12 _) (c13 _) ?_
          exact hu2
        try clear_value x4
        have hx7 : Within b x7 := by
          unfold x7
          refine State.runEntry_within qchain qbus qfabric qfmem qbytes qevu qsent qconv qnet qfurlongs c14 c15 c16 c17 c18 c19 c20 c21 ?_
          refine State.setPooled_within qconv ?_
          exact hx4
        try clear_value x7
        refine ite_elim (P := Within b) ?_ ?_
        · exact hx7
        · refine State.setN_within (c22 _) ?_
          exact hx7
    · exact hu2

theorem execPathPrimed_within {b : Bounds} {p0 p1} (qevu : b.parts .evu) (c1 : ∀ k ∈ eventRegs 155, b.regs k) (c2 : ∀ w0, b.regs (O09.BUSHEL_PATHS w0)) (c3 : ∀ w0, b.regs (O09.PECK_MASK w0)) (c4 : ∀ w0, b.regs (O09.BUSHEL_STATE w0)) (c5 : b.regs O09.BUSHELS_IN_SERVICE) (c6 : b.regs O09.POOL_PECKS) (c7 : b.regs O09.PECKS_COMMITTED) (c8 : b.regs O09.PECKS_FREE) (c9 : b.regs O09.PATHS_SHED) (c10 : b.regs O09.PATHS_RUNNING) (c11 : b.regs (O09.PATH_STATE p0)) (hp1 : Within b p1) : WithinOut b (execPathPrimed p0 p1) := by
  unfold execPathPrimed
  refine onInst_within ?_ ?_
  · exact hp1
  · intro u1 hu1
    try beta_reduce
    refine ite_elim (P := Within b) ?_ ?_
    · refine State.raise_within qevu c1 ?_
      refine State.poolCount_within c2 c3 c4 c5 c6 c7 c8 c9 c10 ?_
      refine State.setN_within c11 ?_
      exact hu1
    · exact hu1

theorem execBushelError_within {b : Bounds} {p0 p1 p2} (qevu : b.parts .evu) (qchain : b.parts .chain) (qfabric : b.parts .fabric) (qconv : b.parts .conv) (c4 : ∀ k ∈ eventRegs 149, b.regs k) (c5 : b.regs (O09.BUSHEL_ERRORS (2816 + p0))) (c6 : ∀ w0, b.regs (O09.PATH_FLAGS w0)) (hp2 : Within b p2) : WithinOut b (execBushelError p0 p1 p2) := by
  unfold execBushelError
  refine live_within ?_ ?_
  · exact hp2
  · intro u1 hu1
    try beta_reduce
    extract_lets -merge -useContext -underBinder x2 x3 x4 x5 x6
    have hx4 : Within b x4 := by
      unfold x4
      refine State.raise_within qevu c4 ?_
      refine State.substitute_within qchain qfabric ?_
      refine State.bump_within c5 ?_
      exact hu1
    try clear_value x4
    have hx5 : Within b x5 := by
      unfold x5
      split
      · refine ite_elim (P := Within b) ?_ ?_
        · refine State.flag_within (c6 _) ?_
          exact hx4
        · exact hx4
      · exact hx4
    try clear_value x5
    refine ite_elim (P := Within b) ?_ ?_
    · exact hu1
    · refine Within.f_conv (s := x5) qconv ?_
      exact hx5

theorem execCadenceChanged_within {b : Bounds} {p0 p1 p2} (qconv : b.parts .conv) (hp2 : Within b p2) : WithinOut b (execCadenceChanged p0 p1 p2) := by
  unfold execCadenceChanged
  refine onInst_within ?_ ?_
  · exact hp2
  · intro u1 hu1
    try beta_reduce
    extract_lets -merge -useContext -underBinder x2
    refine ite_elim (P := Within b) ?_ ?_
    · refine Within.f_conv (s := u1) qconv ?_
      exact hu1
    · exact hu1

theorem execLutLoad_within {b : Bounds} {p0 p1 p2} (qsent : b.parts .sent) (qevu : b.parts .evu) (qsess : b.parts .sess) (qmail : b.parts .mail) (qjobs : b.parts .jobs) (c5 : ∀ w0, b.regs (O1B.JOB_ENDED w0)) (c6 : ∀ w0, b.regs (O1B.JOB_RESULT w0)) (c7 : ∀ w0, b.regs (O1B.JOB_OWNER w0)) (c8 : ∀ w0, b.regs (O1B.JOB_PROGRESS w0)) (c9 : ∀ w0, b.regs (O1B.JOB_STATUS w0)) (c10 : ∀ w0, b.regs (O1B.JOB_OBJECT w0)) (c11 : ∀ w0, b.regs (O1C.SESS_QUEUE w0)) (c12 : ∀ k ∈ eventRegs 451, b.regs k) (c13 : b.regs O1C.FILULO_FLAGS) (c14 : ∀ k ∈ eventRegs 432, b.regs k) (c15 : b.regs O1B.JOBS_QUEUED) (c16 : b.regs O1B.JOBS_RUNNING) (c17 : ∀ w0, b.regs (O1B.JOB_STARTED w0)) (c18 : ∀ w0, b.regs (O1B.JOB_STATE w0)) (c19 : b.regs (O09.LUT_STATE p1)) (hp2 : Within b p2) : WithinOut b (execLutLoad p0 p1 p2) := by
  unfold execLutLoad
  refine onInst_within ?_ ?_
  · exact hp2
  · intro u1 hu1
    try beta_reduce
    refine ite_elim (P := Within b) ?_ ?_
    · change Within1 b _
      refine State.startLutLoad_within qsent qevu qsess qmail qjobs c5 c6 c7 c8 c9 c10 c11 c12 c13 c14 c15 c16 c17 c18 c19 ?_
      exact hu1
    · exact hu1

end Sys2Proof.Machine
end

