-- ==== Sys2Proof/Laws/WithinMatrix.lean ====
section
/-! SUPPORT. What each operation of Machine/Matrix.lean may change at most (Laws/Within.lean). -/

set_option maxRecDepth 8000

namespace Sys2Proof.Machine

theorem State.setChan_within {b : Bounds} {p0 p1 p2} (qamx : b.parts .amx) (hp0 : Within b p0) : Within b (State.setChan p0 p1 p2) := by
  unfold State.setChan
  extract_lets -merge -useContext -underBinder x1
  refine Within.f_amx (s := p0) qamx ?_
  exact hp0

theorem State.holdChan_within {b : Bounds} {p0 p1} (qamx : b.parts .amx) (hp0 : Within b p0) : Within b (State.holdChan p0 p1) := by
  unfold State.holdChan
  extract_lets -merge -useContext -underBinder x1
  refine Within.f_amx (s := p0) qamx ?_
  exact hp0

theorem State.putSrc_within {b : Bounds} {p0 p1 p2} (qamx : b.parts .amx) (hp0 : Within b p0) : Within b (State.putSrc p0 p1 p2) := by
  unfold State.putSrc
  extract_lets -merge -useContext -underBinder x1
  refine Within.f_amx (s := p0) qamx ?_
  exact hp0

theorem State.saturated_within {b : Bounds} {p0 p1 p2} (qevu : b.parts .evu) (c1 : ∀ k ∈ eventRegs 193, b.regs k) (c2 : b.regs (O0C.DEST_FLAGS (p1 / 16) (p1 % 16))) (c3 : b.regs (O0C.SATURATED (p1 / 16) (p1 % 16))) (hp0 : Within b p0) : Within b (State.saturated p0 p1 p2) := by
  unfold State.saturated
  refine ite_elim (P := Within b) ?_ ?_
  · exact hp0
  · refine State.raiseLim_within qevu c1 ?_
    refine State.flag_within c2 ?_
    refine State.bump_within c3 ?_
    exact hp0

theorem State.notePast_within {b : Bounds} {p0 p1} (qamx : b.parts .amx) (hp0 : Within b p0) : Within b (State.notePast p0 p1) := by
  unfold State.notePast
  extract_lets -merge -useContext -underBinder x1 x2 x3 x4 x5
  refine Within.f_amx (s := p0) qamx ?_
  exact hp0

theorem State.putOut_within {b : Bounds} {p0 p1 p2} (qamx : b.parts .amx) (hp0 : Within b p0) : Within b (State.putOut p0 p1 p2) := by
  unfold State.putOut
  extract_lets -merge -useContext -underBinder x1
  refine Within.f_amx (s := p0) qamx ?_
  exact hp0

theorem State.runChan_within {b : Bounds} {p0 p1} (qamx : b.parts .amx) (qevu : b.parts .evu) (c2 : ∀ k ∈ eventRegs 193, b.regs k) (c3 : b.regs (O0C.DEST_FLAGS (p1 / 16) (p1 % 16))) (c4 : b.regs (O0C.SATURATED (p1 / 16) (p1 % 16))) (hp0 : Within b p0) : Within b (State.runChan p0 p1) := by
  unfold State.runChan
  extract_lets -merge -useContext -underBinder x1
  refine State.putOut_within qamx ?_
  refine State.setChan_within qamx ?_
  refine State.saturated_within qevu c2 c3 c4 ?_
  refine State.notePast_within qamx ?_
  exact hp0

theorem State.tapBlock_within {b : Bounds} {p0 p1} (qamx : b.parts .amx) (hp0 : Within b p0) : Within b (State.tapBlock p0 p1) := by
  unfold State.tapBlock
  split
  · exact hp0
  · extract_lets -merge -useContext -underBinder x1 x2
    refine State.forEach_within ?_ ?_
    · exact hp0
    · intro u3 u4 hu5
      try beta_reduce
      extract_lets -merge -useContext -underBinder x6 x7
      refine Within.f_amx (s := u3) qamx ?_
      exact hu5

theorem State.resend_within {b : Bounds} {p0 p1 p2} (qamx : b.parts .amx) (hp0 : Within b p0) : Within b (State.resend p0 p1 p2) := by
  unfold State.resend
  split
  · refine State.putOut_within qamx ?_
    exact hp0
  · extract_lets -merge -useContext -underBinder x1 x2 x3
    refine ite_elim (P := Within b) ?_ ?_
    · exact hp0
    · refine State.tapBlock_within qamx ?_
      refine Within.f_amx (s := p0) qamx ?_
      exact hp0

theorem State.delayBlock_within {b : Bounds} {p0 p1} (qamx : b.parts .amx) (qevu : b.parts .evu) (c2 : b.regs (O0C.DELAY_APPLIED p1)) (c3 : ∀ k ∈ eventRegs 202, b.regs k) (hp0 : Within b p0) : Within b (State.delayBlock p0 p1) := by
  unfold State.delayBlock
  extract_lets -merge -useContext -underBinder x1 x2 x3 x4 x5 x6 x7 x8 x9 x10 x11 x12
  have hx11 : Within b x11 := by
    unfold x11
    refine State.tapBlock_within qamx ?_
    refine Within.f_amx (s := p0) qamx ?_
    exact hp0
  try clear_value x11
  have hx12 : Within b x12 := by
    unfold x12
    refine State.setN_within c2 ?_
    exact hx11
  try clear_value x12
  refine ite_elim (P := Within b) ?_ ?_
  · exact hp0
  · refine ite_elim (P := Within b) ?_ ?_
    · refine State.raise_within qevu c3 ?_
      exact hx12
    · exact hx12

theorem State.missBlock_within {b : Bounds} {p0 p1} (qamx : b.parts .amx) (hp0 : Within b p0) : Within b (State.missBlock p0 p1) := by
  unfold State.missBlock
  extract_lets -merge -useContext -underBinder x1
  refine ite_elim (P := Within b) ?_ ?_
  · exact hp0
  · refine Within.f_amx (s := p0) qamx ?_
    exact hp0

theorem State.runBlock_within {b : Bounds} {p0 p1} (qamx : b.parts .amx) (qevu : b.parts .evu) (c2 : ∀ k ∈ eventRegs 193, b.regs k) (c3 : ∀ (w0 w1 : ℕ), b.regs (O0C.DEST_FLAGS w0 w1)) (c4 : ∀ (w0 w1 : ℕ), b.regs (O0C.SATURATED w0 w1)) (c5 : b.regs (O0C.DELAY_APPLIED p1)) (c6 : ∀ k ∈ eventRegs 202, b.regs k) (hp0 : Within b p0) : Within b (State.runBlock p0 p1) := by
  unfold State.runBlock
  extract_lets -merge -useContext -underBinder x1
  have hx1 : Within b x1 := by
    unfold x1
    refine State.forEach_within ?_ ?_
    · exact hp0
    · intro u2 u3 hu4
      try beta_reduce
      refine State.runChan_within qamx qevu c2 (c3 _ _) (c4 _ _) ?_
      exact hu4
  try clear_value x1
  refine ite_elim (P := Within b) ?_ ?_
  · refine State.missBlock_within qamx ?_
    exact hx1
  · refine State.delayBlock_within qamx qevu c5 c6 ?_
    exact hx1

theorem State.fadeBlock_within {b : Bounds} {p0 p1} (qamx : b.parts .amx) (hp0 : Within b p0) : Within b (State.fadeBlock p0 p1) := by
  unfold State.fadeBlock
  extract_lets -merge -useContext -underBinder x1
  split
  · extract_lets -merge -useContext -underBinder x2 x3 x4 x5 x6
    have hx5 : Within b x5 := by
      unfold x5
      refine State.forEach_within ?_ ?_
      · exact hp0
      · intro u7 u8 hu9
        try beta_reduce
        extract_lets -merge -useContext -underBinder x10
        refine Within.f_amx (s := u7) qamx ?_
        exact hu9
    try clear_value x5
    refine Within.f_amx (s := x5) qamx ?_
    exact hx5

theorem State.fadeBlocks_within {b : Bounds} {p0} (qamx : b.parts .amx) (hp0 : Within b p0) : Within b (State.fadeBlocks p0) := by
  unfold State.fadeBlocks
  extract_lets -merge -useContext -underBinder x1 x2 x3 x4
  have hx3 : Within b x3 := by
    unfold x3
    refine State.forEach_within ?_ ?_
    · exact hp0
    · intro u5 u6 hu5
      refine State.fadeBlock_within qamx ?_
      exact hu5
  try clear_value x3
  refine Within.f_amx (s := x3) qamx ?_
  exact hx3

theorem State.countTerms_within {b : Bounds} {p0} (c0 : ∀ w0 w1, b.regs (O0C.DEST_TERMS w0 w1)) (c1 : ∀ w0, b.regs (O0C.BLOCK_TERMS w0)) (c2 : b.regs O0C.PHASE_TERMS) (c3 : b.regs O0C.TERMS_COMMITTED) (hp0 : Within b p0) : Within b (State.countTerms p0) := by
  unfold State.countTerms
  extract_lets -merge -useContext -underBinder x1 x2 x3 x4 x5 x6 x7 x8
  have hx6 : Within b x6 := by
    unfold x6
    refine State.forEach_within ?_ ?_
    · exact hp0
    · intro u9 u10 hu9
      try beta_reduce
      refine State.setN_within (c0 _ _) ?_
      exact hu9
  try clear_value x6
  have hx7 : Within b x7 := by
    unfold x7
    refine State.forEach_within ?_ ?_
    · exact hx6
    · intro u11 u12 hu11
      try beta_reduce
      refine State.setN_within (c1 _) ?_
      exact hu11
  try clear_value x7
  refine State.setBytes_within c2 ?_
  refine State.setN_within c3 ?_
  exact hx7

theorem State.releaseSet_within {b : Bounds} {p0 p1 p2} (qamx : b.parts .amx) (hp0 : Within b p0) : Within b (State.releaseSet p0 p1 p2) := by
  unfold State.releaseSet
  extract_lets -merge -useContext -underBinder x1
  refine Within.f_amx (s := p0) qamx ?_
  exact hp0

theorem State.turnPast_within {b : Bounds} {p0 p1 p2} (qamx : b.parts .amx) (hp0 : Within b p0) : Within b (State.turnPast p0 p1 p2) := by
  unfold State.turnPast
  extract_lets -merge -useContext -underBinder x1 x2
  refine Within.f_amx (s := p0) qamx ?_
  exact hp0

theorem State.cutTo_within {b : Bounds} {p0 p1 p2 p3} (qamx : b.parts .amx) (c1 : b.regs (O0C.SWITCH_STATE (p1 / 16) (p1 % 16))) (c2 : ∀ (w0 w1 : ℕ), b.regs (O0C.DEST_TERMS w0 w1)) (c3 : ∀ (w0 : ℕ), b.regs (O0C.BLOCK_TERMS w0)) (c4 : b.regs O0C.PHASE_TERMS) (c5 : b.regs O0C.TERMS_COMMITTED) (c6 : b.regs (O0C.DEST_FLAGS (p1 / 16) (p1 % 16))) (hp0 : Within b p0) : Within b (State.cutTo p0 p1 p2 p3) := by
  unfold State.cutTo
  extract_lets -merge -useContext -underBinder x1
  have hx1 : Within b x1 := by
    unfold x1
    refine State.setN_within c1 ?_
    refine State.turnPast_within qamx ?_
    refine State.releaseSet_within qamx ?_
    exact hp0
  try clear_value x1
  refine State.countTerms_within c2 c3 c4 c5 ?_
  refine State.flag_within c6 ?_
  refine State.setChan_within qamx ?_
  exact hx1

theorem State.beginSwitch_within {b : Bounds} {p0 p1 p2 p3} (qamx : b.parts .amx) (c1 : b.regs (O0C.SWITCH_STATE (p1 / 16) (p1 % 16))) (hp0 : Within b p0) : Within b (State.beginSwitch p0 p1 p2 p3) := by
  unfold State.beginSwitch
  refine State.setChan_within qamx ?_
  refine State.setN_within c1 ?_
  refine State.turnPast_within qamx ?_
  exact hp0

theorem State.fadeEmbed_within {b : Bounds} {p0 p1} (qamx : b.parts .amx) (hp0 : Within b p0) : Within b (State.fadeEmbed p0 p1) := by
  unfold State.fadeEmbed
  extract_lets -merge -useContext -underBinder x1
  refine Within.f_amx (s := p0) qamx ?_
  exact hp0

theorem State.matrixHold_within {b : Bounds} {p0} (qamx : b.parts .amx) (c1 : ∀ (w0 w1 : ℕ), b.regs (O0C.SWITCH_STATE w0 w1)) (c2 : ∀ (w0 w1 : ℕ), b.regs (O0C.DEST_TERMS w0 w1)) (c3 : ∀ (w0 : ℕ), b.regs (O0C.BLOCK_TERMS w0)) (c4 : b.regs O0C.PHASE_TERMS) (c5 : b.regs O0C.TERMS_COMMITTED) (c6 : ∀ (w0 w1 : ℕ), b.regs (O0C.DEST_FLAGS w0 w1)) (hp0 : Within b p0) : Within b (State.matrixHold p0) := by
  unfold State.matrixHold
  refine State.forEach_within ?_ ?_
  · refine State.fadeEmbed_within qamx ?_
    exact hp0
  · intro u1 u2 hu3
    try beta_reduce
    extract_lets -merge -useContext -underBinder x4
    split
    · refine State.cutTo_within qamx (c1 _ _) c2 c3 c4 c5 (c6 _ _) ?_
      exact hu3
    · refine State.cutTo_within qamx (c1 _ _) c2 c3 c4 c5 (c6 _ _) ?_
      exact hu3
    · refine State.cutTo_within qamx (c1 _ _) c2 c3 c4 c5 (c6 _ _) ?_
      exact hu3
    · exact hu3

theorem State.matrixBefore_within {b : Bounds} {p0 p1} (qamx : b.parts .amx) (hp0 : Within b p0) : Within b (State.matrixBefore p0 p1) := by
  unfold State.matrixBefore
  refine ite_elim (P := Within b) ?_ ?_
  · refine State.holdChan_within qamx ?_
    exact hp0
  · exact hp0

theorem State.wantSet_within {b : Bounds} {p0 p1} (qamx : b.parts .amx) (hp0 : Within b p0) : Within b (State.wantSet p0 p1) := by
  unfold State.wantSet
  extract_lets -merge -useContext -underBinder x1
  refine State.setChan_within qamx ?_
  exact hp0

theorem State.audioRoute_within {b : Bounds} {p0 p1 p2} (qamx : b.parts .amx) (c1 : b.regs (O0C.TERM_GAIN (p1 / 16) (p1 % 16) 0)) (c2 : ∀ w2, b.regs (O0C.TERM_SRC (p1 / 16) (p1 % 16) w2)) (hp0 : Within b p0) : Within b (State.audioRoute p0 p1 p2) := by
  unfold State.audioRoute
  extract_lets -merge -useContext -underBinder x1 x2 x3 x4 x5 x6
  have hx3 : Within b x3 := by
    unfold x3
    refine State.holdChan_within qamx ?_
    exact hp0
  try clear_value x3
  have hx4 : Within b x4 := by
    unfold x4
    refine State.setN_within (c2 _) ?_
    exact hx3
  try clear_value x4
  have hx5 : Within b x5 := by
    unfold x5
    refine ite_elim (P := Within b) ?_ ?_
    · exact hx4
    · refine State.setN_within c1 ?_
      exact hx4
  try clear_value x5
  have hx6 : Within b x6 := by
    unfold x6
    refine State.forEach_within ?_ ?_
    · exact hx5
    · intro u7 u8 hu7
      try beta_reduce
      refine State.setN_within (c2 _) ?_
      exact hu7
  try clear_value x6
  refine State.wantSet_within qamx ?_
  exact hx6

theorem State.followAudio_within {b : Bounds} {p0 p1 p2} (qevu : b.parts .evu) (qamx : b.parts .amx) (c2 : ∀ k ∈ eventRegs 131, b.regs k) (c3 : b.regs (O08.ROUTE_FLAGS p1)) (c4 : ∀ (w0 w1 : ℕ), b.regs (O0C.TERM_GAIN w0 w1 0)) (c5 : ∀ (w2 w0 w1 : ℕ), b.regs (O0C.TERM_SRC w0 w1 w2)) (hp0 : Within b p0) : Within b (State.followAudio p0 p1 p2) := by
  unfold State.followAudio
  extract_lets -merge -useContext -underBinder x1 x2 x3 x4 x5
  have hx5 : Within b x5 := by
    unfold x5
    refine ite_elim (P := Within b) ?_ ?_
    · exact hp0
    · refine State.raise_within qevu c2 ?_
      refine State.flag_within c3 ?_
      exact hp0
  try clear_value x5
  refine State.forEach_within ?_ ?_
  · exact hx5
  · intro u6 u7 hu8
    try beta_reduce
    extract_lets -merge -useContext -underBinder x9 x10 x11 x12
    have hx11 : Within b x11 := by
      unfold x11
      refine State.audioRoute_within qamx (c4 _ _) (by intros; first | exact c5 _ | exact c5 _ _ | exact c5 _ _ _ | (apply c5; assumption)) ?_
      exact hu8
    try clear_value x11
    refine State.setChan_within qamx ?_
    exact hx11

theorem State.followDue_within {b : Bounds} {p0 p1} (qamx : b.parts .amx) (hp0 : Within b p0) : Within b (State.followDue p0 p1) := by
  unfold State.followDue
  extract_lets -merge -useContext -underBinder x1 x2
  refine State.forEach_within ?_ ?_
  · exact hp0
  · intro u3 u4 hu5
    try beta_reduce
    extract_lets -merge -useContext -underBinder x6
    refine ite_elim (P := Within b) ?_ ?_
    · refine State.setChan_within qamx ?_
      exact hu5
    · exact hu5

theorem State.writeGain_within {b : Bounds} {p0 p1 p2} (qjrnl : b.parts .jrnl) (qamx : b.parts .amx) (c2 : b.regs p1) (hp0 : Within b p0) : Within b (State.writeGain p0 p1 p2) := by
  unfold State.writeGain
  extract_lets -merge -useContext -underBinder x1 x2 x3
  have hx2 : Within b x2 := by
    unfold x2
    refine State.journal_within qjrnl ?_
    refine State.setN_within c2 ?_
    refine State.holdChan_within qamx ?_
    exact hp0
  try clear_value x2
  refine Within.f_amx (s := x2) qamx ?_
  exact hx2

theorem State.matrixSeam_within {b : Bounds} {p0} (qamx : b.parts .amx) (c1 : ∀ w0, b.regs (O0C.PLAY_POSITION w0)) (hp0 : Within b p0) : Within b (State.matrixSeam p0) := by
  unfold State.matrixSeam
  extract_lets -merge -useContext -underBinder x1 x2
  have hx2 : Within b x2 := by
    unfold x2
    refine Within.f_amx (s := p0) qamx ?_
    exact hp0
  try clear_value x2
  refine State.forEach_within ?_ ?_
  · exact hx2
  · intro u3 u4 hu3
    try beta_reduce
    refine State.setN_within (c1 _) ?_
    exact hu3

theorem State.startRamp_within {b : Bounds} {p0 p1} (qamx : b.parts .amx) (hp0 : Within b p0) : Within b (State.startRamp p0 p1) := by
  unfold State.startRamp
  extract_lets -merge -useContext -underBinder x1 x2 x3 x4 x5
  refine ite_elim (P := Within b) ?_ ?_
  · refine State.setChan_within qamx ?_
    exact hp0
  · refine State.setChan_within qamx ?_
    exact hp0

theorem State.setPlayer_within {b : Bounds} {p0 p1 p2} (qamx : b.parts .amx) (hp0 : Within b p0) : Within b (State.setPlayer p0 p1 p2) := by
  unfold State.setPlayer
  extract_lets -merge -useContext -underBinder x1
  refine Within.f_amx (s := p0) qamx ?_
  exact hp0

theorem State.playerPeriod_within {b : Bounds} {p0 p1 p2} (qevu : b.parts .evu) (qamx : b.parts .amx) (c2 : b.regs (O0C.PLAYER_STATE p1)) (c3 : ∀ k ∈ eventRegs 201, b.regs k) (hp0 : Within b p0) : Within b (State.playerPeriod p0 p1 p2) := by
  unfold State.playerPeriod
  extract_lets -merge -useContext -underBinder x1 x2 x3 x4 x5 x6 x7 x8 x9 x10 x11 x12 x13 x14 x15 x16 x17 x18 x19
  have hx7 : Within b x7 := by
    unfold x7
    refine ite_elim (P := Within b) ?_ ?_
    · refine State.setN_within c2 ?_
      exact hp0
    · exact hp0
  try clear_value x7
  have hx15 : Within b x15 := by
    unfold x15
    refine ite_elim (P := Within b) ?_ ?_
    · refine State.raise_within qevu c3 ?_
      exact hx7
    · exact hx7
  try clear_value x15
  have hx16 : Within b x16 := by
    unfold x16
    refine State.forEach_within ?_ ?_
    · exact hx15
    · intro u20 u21 hu22
      try beta_reduce
      refine State.putSrc_within qamx ?_
      exact hu22
  try clear_value x16
  have hx19 : Within b x19 := by
    unfold x19
    refine State.setPlayer_within qamx ?_
    exact hx16
  try clear_value x19
  refine ite_elim (P := Within b) ?_ ?_
  · refine State.setN_within c2 ?_
    refine State.setPlayer_within qamx ?_
    exact hp0
  · refine ite_elim (P := Within b) ?_ ?_
    · refine State.setPlayer_within qamx ?_
      exact hx7
    · refine ite_elim (P := Within b) ?_ ?_
      · refine State.setN_within c2 ?_
        exact hx19
      · exact hx19

theorem State.missPlayer_within {b : Bounds} {p0 p1} (qamx : b.parts .amx) (hp0 : Within b p0) : Within b (State.missPlayer p0 p1) := by
  unfold State.missPlayer
  split
  · exact hp0
  · extract_lets -merge -useContext -underBinder x1
    refine Within.f_amx (s := p0) qamx ?_
    exact hp0

theorem State.missAudio_within {b : Bounds} {p0 p1} (qamx : b.parts .amx) (hp0 : Within b p0) : Within b (State.missAudio p0 p1) := by
  unfold State.missAudio
  refine ite_elim (P := Within b) ?_ ?_
  · exact hp0
  · refine ite_elim (P := Within b) ?_ ?_
    · refine State.missBlock_within qamx ?_
      exact hp0
    · refine ite_elim (P := Within b) ?_ ?_
      · refine State.missPlayer_within qamx ?_
        exact hp0
      · exact hp0

theorem State.embedSample_within {b : Bounds} {p0 p1} (qfresh : b.parts .fresh) (hp0 : Within b p0) : Within2 b (State.embedSample p0 p1) := by
  unfold State.embedSample
  extract_lets -merge -useContext -underBinder x1
  have hx1 : Within2 b x1 := by
    unfold x1
    refine ite_elim (P := Within2 b) ?_ ?_
    · refine State.draw_within qfresh ?_
      exact hp0
    · refine within2_mk ?_
      exact hp0
  try clear_value x1
  refine within2_mk ?_
  change Within2 b _
  exact hx1

theorem State.embedPeriod_within {b : Bounds} {p0} (qamx : b.parts .amx) (qfresh : b.parts .fresh) (qsent : b.parts .sent) (hp0 : Within b p0) : Within b (State.embedPeriod p0) := by
  unfold State.embedPeriod
  extract_lets -merge -useContext -underBinder x1 x2
  have hx2 : Within b x2 := by
    unfold x2
    refine Within.f_amx (s := p0) qamx ?_
    exact hp0
  try clear_value x2
  refine ite_elim (P := Within b) ?_ ?_
  · exact hx2
  · refine State.forEach_within ?_ ?_
    · exact hx2
    · intro u3 u4 hu5
      try beta_reduce
      extract_lets -merge -useContext -underBinder x6 x7
      have hx7 : Within2 b x7 := by
        unfold x7
        refine foldl_elim (P := Within2 b) ?_ ?_
        · refine within2_mk ?_
          exact hu5
        · intro u8 u9 hu10
          try beta_reduce
          extract_lets -merge -useContext -underBinder x11
          have hx11 : Within2 b x11 := by
            unfold x11
            refine State.embedSample_within qfresh ?_
            change Within2 b _
            exact hu10
          try clear_value x11
          refine within2_mk ?_
          change Within2 b _
          exact hx11
      try clear_value x7
      refine State.emit_within qsent ?_
      change Within2 b _
      exact hx7

theorem State.meters_within {b : Bounds} {p0} (qamx : b.parts .amx) (c1 : ∀ w0 w1, b.regs (O0C.DEST_PEAK w0 w1)) (c2 : ∀ w0 w1, b.regs (O0C.SOURCE_PEAK w0 w1)) (hp0 : Within b p0) : Within b (State.meters p0) := by
  unfold State.meters
  extract_lets -merge -useContext -underBinder x1 x2 x3
  have hx1 : Within b x1 := by
    unfold x1
    refine State.forEach_within ?_ ?_
    · exact hp0
    · intro u4 u5 hu4
      try beta_reduce
      refine State.setZ_within (c1 _ _) ?_
      exact hu4
  try clear_value x1
  have hx2 : Within b x2 := by
    unfold x2
    refine State.forEach_within ?_ ?_
    · exact hx1
    · intro u6 u7 hu6
      try beta_reduce
      refine State.setZ_within (c2 _ _) ?_
      exact hu6
  try clear_value x2
  refine Within.f_amx (s := x2) qamx ?_
  exact hx2

theorem State.matrixPeriod_within {b : Bounds} {p0} (qamx : b.parts .amx) (qevu : b.parts .evu) (c2 : ∀ (w0 : ℕ), b.regs (O0C.PLAYER_STATE w0)) (c3 : ∀ k ∈ eventRegs 201, b.regs k) (hp0 : Within b p0) : Within b (State.matrixPeriod p0) := by
  unfold State.matrixPeriod
  extract_lets -merge -useContext -underBinder x1 x2 x3 x4
  have hx1 : Within b x1 := by
    unfold x1
    refine State.fadeBlocks_within qamx ?_
    exact hp0
  try clear_value x1
  have hx3 : Within b x3 := by
    unfold x3
    refine Within.f_amx (s := x1) qamx ?_
    exact hx1
  try clear_value x3
  have hx4 : Within b x4 := by
    unfold x4
    refine State.forEach_within ?_ ?_
    · exact hx3
    · intro u5 u6 hu7
      try beta_reduce
      refine State.startRamp_within qamx ?_
      exact hu7
  try clear_value x4
  refine State.forEach_within ?_ ?_
  · exact hx4
  · intro u8 u9 hu10
    try beta_reduce
    refine State.playerPeriod_within qevu qamx (c2 _) c3 ?_
    exact hu10

theorem State.actPlayStart_within {b : Bounds} {p0 p1 p2} (qamx : b.parts .amx) (c1 : b.regs (O0C.PLAYER_STATE p1)) (hp0 : Within b p0) : Within1 b (State.actPlayStart p0 p1 p2) := by
  unfold State.actPlayStart
  extract_lets -merge -useContext -underBinder x1 x2 x3
  have hx3 : Within b x3 := by
    unfold x3
    refine Within.f_amx (s := p0) qamx ?_
    exact hp0
  try clear_value x3
  refine ite_elim (P := Within1 b) ?_ ?_
  · refine within1_mk ?_
    exact hp0
  · refine ite_elim (P := Within1 b) ?_ ?_
    · refine within1_mk ?_
      exact hp0
    · refine within1_mk ?_
      refine ite_elim (P := Within b) ?_ ?_
      · exact hx3
      · refine State.setN_within c1 ?_
        exact hx3

theorem State.actPlayStop_within {b : Bounds} {p0 p1 p2} (qamx : b.parts .amx) (hp0 : Within b p0) : Within1 b (State.actPlayStop p0 p1 p2) := by
  unfold State.actPlayStop
  extract_lets -merge -useContext -underBinder x1 x2
  refine ite_elim (P := Within1 b) ?_ ?_
  · refine within1_mk ?_
    exact hp0
  · refine within1_mk ?_
    refine Within.f_amx (s := p0) qamx ?_
    exact hp0

theorem State.writeMatrixRate_within {b : Bounds} {p0 p1} (qevu : b.parts .evu) (qjrnl : b.parts .jrnl) (c2 : b.regs O0C.MATRIX_RATE) (c3 : ∀ k ∈ eventRegs 204, b.regs k) (hp0 : Within b p0) : Within b (State.writeMatrixRate p0 p1) := by
  unfold State.writeMatrixRate
  extract_lets -merge -useContext -underBinder x1 x2
  have hx2 : Within b x2 := by
    unfold x2
    refine State.journal_within qjrnl ?_
    refine State.setN_within c2 ?_
    exact hp0
  try clear_value x2
  refine ite_elim (P := Within b) ?_ ?_
  · refine State.raise_within qevu c3 ?_
    exact hx2
  · exact hx2

theorem State.matrixApplied_within {b : Bounds} {p0 p1} (qamx : b.parts .amx) (c1 : b.regs (O0C.PLAY_POSITION (instOf p1))) (c2 : b.regs (O0C.PLAYER_STATE (instOf p1))) (c3 : b.regs (O0C.DEEMB_SRC_ACTIVE (instOf p1))) (hp0 : Within b p0) : Within b (State.matrixApplied p0 p1) := by
  unfold State.matrixApplied
  extract_lets -merge -useContext -underBinder x1
  refine ite_elim (P := Within b) ?_ ?_
  · refine State.wantSet_within qamx ?_
    exact hp0
  · refine ite_elim (P := Within b) ?_ ?_
    · refine State.setN_within c1 ?_
      refine State.setN_within c2 ?_
      refine Within.f_amx (s := p0) qamx ?_
      exact hp0
    · refine ite_elim (P := Within b) ?_ ?_
      · refine State.setB_within c3 ?_
        exact hp0
      · exact hp0

theorem State.deembPut_within {b : Bounds} {p0 p1 p2 p3} (qamx : b.parts .amx) (hp0 : Within b p0) : Within b (State.deembPut p0 p1 p2 p3) := by
  unfold State.deembPut
  extract_lets -merge -useContext -underBinder x1
  refine State.putSrc_within qamx ?_
  refine State.setDeemb_within qamx ?_
  exact hp0

theorem State.deembPeriod_within {b : Bounds} {p0} (qamx : b.parts .amx) (hp0 : Within b p0) : Within b (State.deembPeriod p0) := by
  unfold State.deembPeriod
  refine State.forEach_within ?_ ?_
  · exact hp0
  · intro u1 u2 hu3
    try beta_reduce
    extract_lets -merge -useContext -underBinder x4 x5 x6
    have hx6 : Within b x6 := by
      unfold x6
      refine State.setDeemb_within qamx ?_
      exact hu3
    try clear_value x6
    refine ite_elim (P := Within b) ?_ ?_
    · exact hx6
    · refine State.forEach_within ?_ ?_
      · exact hx6
      · intro u7 u8 hu9
        try beta_reduce
        refine State.putSrc_within qamx ?_
        exact hu9

theorem State.audioCell_within {b : Bounds} {p0 p1} (qfresh : b.parts .fresh) (hp0 : Within b p0) : Within2 b (State.audioCell p0 p1) := by
  unfold State.audioCell
  extract_lets -merge -useContext -underBinder x1 x2
  have hx2 : Within2 b x2 := by
    unfold x2
    refine State.drawBytes_within qfresh ?_
    exact hp0
  try clear_value x2
  refine within2_mk ?_
  change Within2 b _
  exact hx2

theorem execAmx_within {b : Bounds} {p0 p1 p2} (qfresh : b.parts .fresh) (qamx : b.parts .amx) (qevu : b.parts .evu) (qchain : b.parts .chain) (qbus : b.parts .bus) (qfabric : b.parts .fabric) (qfmem : b.parts .fmem) (qbytes : b.parts .bytes) (qsent : b.parts .sent) (qconv : b.parts .conv) (qnet : b.parts .net) (qfurlongs : b.parts .furlongs) (c12 : ∀ k ∈ eventRegs 193, b.regs k) (c13 : ∀ (w0 w1 : ℕ), b.regs (O0C.DEST_FLAGS w0 w1)) (c14 : ∀ (w0 w1 : ℕ), b.regs (O0C.SATURATED w0 w1)) (c15 : b.regs (O0C.DELAY_APPLIED (field (entArg p1) 9 0))) (c16 : ∀ k ∈ eventRegs 202, b.regs k) (c17 : b.regs (O04.IDLE_OUT (entSrc p1))) (c18 : ∀ (w0 : ℕ), b.regs (O04.CELLS_IN w0)) (c19 : ∀ (w0 : ℕ), b.regs (O04.CELLS_OUT w0)) (c20 : ∀ (w0 : ℕ), b.regs (O05.CLIP_LOADED w0)) (c21 : ∀ (w0 : ℕ), b.regs (O04.PORT_FLAGS w0)) (c22 : ∀ (w0 : ℕ), b.regs (O04.INVALID_CELLS w0)) (c23 : ∀ k ∈ eventRegs 66, b.regs k) (c24 : ∀ (w0 : ℕ), b.regs (O12.CELLS_IO w0)) (hp2 : Within b p2) : WithinOut b (execAmx p0 p1 p2) := by
  unfold execAmx
  refine live_within ?_ ?_
  · exact hp2
  · intro u1 hu2
    try beta_reduce
    extract_lets -merge -useContext -underBinder x3 x4
    have hx4 : Within2 b x4 := by
      unfold x4
      refine State.audioCell_within qfresh ?_
      refine State.runBlock_within qamx qevu c12 c13 c14 c15 c16 ?_
      exact hu2
    try clear_value x4
    refine ite_elim (P := Within b) ?_ ?_
    · refine ite_elim (P := Within b) ?_ ?_
      · refine State.runEntry_within qchain qbus qfabric qfmem qbytes qevu qsent qconv qnet qfurlongs c17 c18 c19 c20 c21 c22 c23 c24 ?_
        exact hu2
      · refine ite_elim (P := Within b) ?_ ?_
        · refine State.runEntry_within qchain qbus qfabric qfmem qbytes qevu qsent qconv qnet qfurlongs c17 c18 c19 c20 c21 c22 c23 c24 ?_
          refine State.runBlock_within qamx qevu c12 c13 c14 c15 c16 ?_
          exact hu2
        · refine State.runEntry_within qchain qbus qfabric qfmem qbytes qevu qsent qconv qnet qfurlongs c17 c18 c19 c20 c21 c22 c23 c24 ?_
          change Within2 b _
          exact hx4
    · exact hu2

theorem execAudioSwitchRequest_within {b : Bounds} {p0 p1} (qamx : b.parts .amx) (c1 : b.regs (O0C.SWITCH_STATE (p0 / 16) (p0 % 16))) (hp1 : Within b p1) : WithinOut b (execAudioSwitchRequest p0 p1) := by
  unfold execAudioSwitchRequest
  refine onInst_within ?_ ?_
  · exact hp1
  · intro u1 hu2
    try beta_reduce
    extract_lets -merge -useContext -underBinder x3
    split
    · exact hu2
    · extract_lets -merge -useContext -underBinder x4
      refine ite_elim (P := Within b) ?_ ?_
      · exact hu2
      · split
        · refine ite_elim (P := Within b) ?_ ?_
          · refine State.setChan_within qamx ?_
            exact hu2
          · refine State.beginSwitch_within qamx c1 ?_
            exact hu2
        · refine State.setChan_within qamx ?_
          refine State.turnPast_within qamx ?_
          exact hu2
        · refine State.setChan_within qamx ?_
          exact hu2

theorem execZeroCrossing_within {b : Bounds} {p0 p1} (qamx : b.parts .amx) (c1 : b.regs (O0C.SWITCH_STATE (p0 / 16) (p0 % 16))) (c2 : ∀ (w0 w1 : ℕ), b.regs (O0C.DEST_TERMS w0 w1)) (c3 : ∀ (w0 : ℕ), b.regs (O0C.BLOCK_TERMS w0)) (c4 : b.regs O0C.PHASE_TERMS) (c5 : b.regs O0C.TERMS_COMMITTED) (c6 : b.regs (O0C.DEST_FLAGS (p0 / 16) (p0 % 16))) (hp1 : Within b p1) : WithinOut b (execZeroCrossing p0 p1) := by
  unfold execZeroCrossing
  refine onInst_within ?_ ?_
  · exact hp1
  · intro u1 hu2
    try beta_reduce
    extract_lets -merge -useContext -underBinder x3
    split
    · extract_lets -merge -useContext -underBinder x4
      refine ite_elim (P := Within b) ?_ ?_
      · refine State.resend_within qamx ?_
        refine State.cutTo_within qamx c1 c2 c3 c4 c5 c6 ?_
        exact hu2
      · exact hu2
    · exact hu2

theorem execZcTimeout_within {b : Bounds} {p0 p1} (qevu : b.parts .evu) (qamx : b.parts .amx) (c2 : b.regs (O0C.SWITCH_STATE (p0 / 16) (p0 % 16))) (c3 : ∀ k ∈ eventRegs 192, b.regs k) (c4 : b.regs (O0C.DEST_FLAGS (p0 / 16) (p0 % 16))) (c5 : b.regs (O0C.ZC_TIMEOUTS (p0 / 16) (p0 % 16))) (hp1 : Within b p1) : WithinOut b (execZcTimeout p0 p1) := by
  unfold execZcTimeout
  refine onInst_within ?_ ?_
  · exact hp1
  · intro u1 hu1
    try beta_reduce
    extract_lets -merge -useContext -underBinder x2 x3 x4 x5
    have hx5 : Within b x5 := by
      unfold x5
      refine State.setN_within c2 ?_
      refine State.setChan_within qamx ?_
      exact hu1
    try clear_value x5
    refine ite_elim (P := Within b) ?_ ?_
    · refine State.raiseLim_within qevu c3 ?_
      refine State.flag_within c4 ?_
      refine State.bump_within c5 ?_
      exact hx5
    · exact hu1

theorem execCrossfadeComplete_within {b : Bounds} {p0 p1} (qamx : b.parts .amx) (c1 : b.regs (O0C.SWITCH_STATE (p0 / 16) (p0 % 16))) (c2 : ∀ w0 w1, b.regs (O0C.DEST_TERMS w0 w1)) (c3 : ∀ w0, b.regs (O0C.BLOCK_TERMS w0)) (c4 : b.regs O0C.PHASE_TERMS) (c5 : b.regs O0C.TERMS_COMMITTED) (c6 : b.regs (O0C.DEST_FLAGS (p0 / 16) (p0 % 16))) (hp1 : Within b p1) : WithinOut b (execCrossfadeComplete p0 p1) := by
  unfold execCrossfadeComplete
  refine onInst_within ?_ ?_
  · exact hp1
  · intro u1 hu1
    try beta_reduce
    extract_lets -merge -useContext -underBinder x2
    refine ite_elim (P := Within b) ?_ ?_
    · exact hu1
    · split
      · extract_lets -merge -useContext -underBinder x3
        have hx3 : Within b x3 := by
          unfold x3
          refine State.cutTo_within qamx c1 c2 c3 c4 c5 c6 ?_
          exact hu1
        try clear_value x3
        refine State.beginSwitch_within qamx c1 ?_
        exact hx3
      · refine State.cutTo_within qamx c1 c2 c3 c4 c5 c6 ?_
        exact hu1
      · exact hu1

theorem execTermGain_within {b : Bounds} {p0 p1 p2 p3} (qjrnl : b.parts .jrnl) (qamx : b.parts .amx) (c2 : b.regs (O0C.TERM_GAIN (p0 / 16) (p0 % 16) p1)) (hp3 : Within b p3) : WithinOut b (execTermGain p0 p1 p2 p3) := by
  unfold execTermGain
  refine onInst_within ?_ ?_
  · exact hp3
  · intro u1 hu1
    try beta_reduce
    extract_lets -merge -useContext -underBinder x2
    refine ite_elim (P := Within b) ?_ ?_
    · refine State.writeGain_within qjrnl qamx c2 ?_
      exact hu1
    · exact hu1

theorem execMute_within {b : Bounds} {p0 p1 p2} (qjrnl : b.parts .jrnl) (qamx : b.parts .amx) (c2 : b.regs (O0C.MUTE (p0 / 16) (p0 % 16))) (hp2 : Within b p2) : WithinOut b (execMute p0 p1 p2) := by
  unfold execMute
  refine onInst_within ?_ ?_
  · exact hp2
  · intro u1 hu1
    try beta_reduce
    refine ite_elim (P := Within b) ?_ ?_
    · refine State.writeGain_within qjrnl qamx c2 ?_
      exact hu1
    · exact hu1

theorem execMatrixRate_within {b : Bounds} {p0 p1} (qevu : b.parts .evu) (qjrnl : b.parts .jrnl) (c2 : b.regs O0C.MATRIX_RATE) (c3 : ∀ k ∈ eventRegs 204, b.regs k) (hp1 : Within b p1) : WithinOut b (execMatrixRate p0 p1) := by
  unfold execMatrixRate
  refine live_within ?_ ?_
  · exact hp1
  · intro u1 hu1
    try beta_reduce
    refine ite_elim (P := Within b) ?_ ?_
    · refine State.writeMatrixRate_within qevu qjrnl c2 c3 ?_
      exact hu1
    · exact hu1

theorem execPlayStart_within {b : Bounds} {p0 p1 p2} (qamx : b.parts .amx) (c1 : b.regs (O0C.PLAYER_STATE p0)) (hp2 : Within b p2) : WithinOut b (execPlayStart p0 p1 p2) := by
  unfold execPlayStart
  refine onInst_within ?_ ?_
  · exact hp2
  · intro u1 hu1
    try beta_reduce
    refine ite_elim (P := Within b) ?_ ?_
    · change Within1 b _
      refine State.actPlayStart_within qamx c1 ?_
      exact hu1
    · exact hu1

theorem execPlayStop_within {b : Bounds} {p0 p1 p2} (qamx : b.parts .amx) (hp2 : Within b p2) : WithinOut b (execPlayStop p0 p1 p2) := by
  unfold execPlayStop
  refine onInst_within ?_ ?_
  · exact hp2
  · intro u1 hu1
    try beta_reduce
    refine ite_elim (P := Within b) ?_ ?_
    · change Within1 b _
      refine State.actPlayStop_within qamx ?_
      exact hu1
    · exact hu1

theorem execClipEnd_within {b : Bounds} {p0 p1} (qamx : b.parts .amx) (c1 : b.regs (O0C.PLAYER_STATE p0)) (hp1 : Within b p1) : WithinOut b (execClipEnd p0 p1) := by
  unfold execClipEnd
  refine onInst_within ?_ ?_
  · exact hp1
  · intro u1 hu1
    try beta_reduce
    extract_lets -merge -useContext -underBinder x2 x3 x4
    refine ite_elim (P := Within b) ?_ ?_
    · refine ite_elim (P := Within b) ?_ ?_
      · refine Within.f_amx (s := u1) qamx ?_
        exact hu1
      · refine State.setN_within c1 ?_
        refine State.forEach_within ?_ ?_
        · exact hu1
        · intro u5 u6 hu5
          try beta_reduce
          refine State.putSrc_within qamx ?_
          exact hu5
    · exact hu1

theorem State.deembGroup_within {b : Bounds} {p0 p1 p2 p3} (qevu : b.parts .evu) (c1 : b.regs (O0C.DEEMB_GROUPS (3072 + p1))) (c2 : ∀ k ∈ eventRegs 196, b.regs k) (c3 : b.regs (O0C.DEEMB_FLAGS (3072 + p1))) (hp0 : Within b p0) : Within b (State.deembGroup p0 p1 p2 p3) := by
  unfold State.deembGroup
  extract_lets -merge -useContext -underBinder x1 x2
  have hx2 : Within b x2 := by
    unfold x2
    refine ite_elim (P := Within b) ?_ ?_
    · refine State.flag_within c1 ?_
      exact hp0
    · refine State.unflag_within c1 ?_
      exact hp0
  try clear_value x2
  refine ite_elim (P := Within b) ?_ ?_
  · exact hp0
  · refine State.raise_within qevu c2 ?_
    refine State.flag_within c3 ?_
    exact hx2

theorem State.deembControl_within {b : Bounds} {p0 p1 p2 p3} (qamx : b.parts .amx) (qevu : b.parts .evu) (c2 : ∀ k ∈ eventRegs 195, b.regs k) (c3 : b.regs (O0C.DEEMB_FLAGS (3072 + p1))) (hp0 : Within b p0) : Within b (State.deembControl p0 p1 p2 p3) := by
  unfold State.deembControl
  extract_lets -merge -useContext -underBinder x1 x2 x3
  have hx3 : Within b x3 := by
    unfold x3
    refine State.setDeemb_within qamx ?_
    exact hp0
  try clear_value x3
  refine ite_elim (P := Within b) ?_ ?_
  · exact hx3
  · refine State.raise_within qevu c2 ?_
    refine State.flag_within c3 ?_
    exact hx3

theorem State.deembData_within {b : Bounds} {p0 p1 p2 p3 p4} (qevu : b.parts .evu) (qfresh : b.parts .fresh) (qamx : b.parts .amx) (c3 : b.regs (O0C.DEEMB_FLAGS (3072 + p1))) (c4 : b.regs (O0C.ECC_CORRECTED (3072 + p1))) (c5 : ∀ k ∈ eventRegs 194, b.regs k) (c6 : b.regs (O0C.ECC_FAILED (3072 + p1))) (hp0 : Within b p0) : Within b (State.deembData p0 p1 p2 p3 p4) := by
  unfold State.deembData
  extract_lets -merge -useContext -underBinder x1 x2 x3
  have hx3 : Within b x3 := by
    unfold x3
    refine ite_elim (P := Within b) ?_ ?_
    · refine State.flag_within c3 ?_
      refine State.bump_within c4 ?_
      exact hp0
    · refine ite_elim (P := Within b) ?_ ?_
      · refine State.raiseLim_within qevu c5 ?_
        refine State.flag_within c3 ?_
        refine State.bump_within c6 ?_
        exact hp0
      · exact hp0
  try clear_value x3
  refine State.forEach_within ?_ ?_
  · exact hx3
  · intro u4 u5 hu6
    try beta_reduce
    extract_lets -merge -useContext -underBinder x7 x8
    have hx8 : Within2 b x8 := by
      unfold x8
      refine State.draw_within qfresh ?_
      exact hu6
    try clear_value x8
    refine ite_elim (P := Within b) ?_ ?_
    · refine State.putSrc_within qamx ?_
      exact hu6
    · refine ite_elim (P := Within b) ?_ ?_
      · refine State.deembPut_within qamx ?_
        exact hu6
      · refine ite_elim (P := Within b) ?_ ?_
        · refine State.deembPut_within qamx ?_
          change Within2 b _
          exact hx8
        · refine State.deembPut_within qamx ?_
          exact hu6

theorem execDeembedPacket_within {b : Bounds} {p0 p1 p2 p3 p4 p5 p6} (qevu : b.parts .evu) (qamx : b.parts .amx) (qfresh : b.parts .fresh) (c3 : b.regs (O0C.DEEMB_GROUPS (3072 + p0))) (c4 : ∀ k ∈ eventRegs 196, b.regs k) (c5 : b.regs (O0C.DEEMB_FLAGS (3072 + p0))) (c6 : ∀ k ∈ eventRegs 195, b.regs k) (c7 : b.regs (O0C.ECC_CORRECTED (3072 + p0))) (c8 : ∀ k ∈ eventRegs 194, b.regs k) (c9 : b.regs (O0C.ECC_FAILED (3072 + p0))) (hp6 : Within b p6) : WithinOut b (execDeembedPacket p0 p1 p2 p3 p4 p5 p6) := by
  unfold execDeembedPacket
  refine live_within ?_ ?_
  · exact hp6
  · intro u1 hu2
    try beta_reduce
    extract_lets -merge -useContext -underBinder x3 x4 x5
    have hx5 : Within b x5 := by
      unfold x5
      refine ite_elim (P := Within b) ?_ ?_
      · exact hu2
      · refine State.deembGroup_within qevu c3 c4 c5 ?_
        exact hu2
    try clear_value x5
    refine ite_elim (P := Within b) ?_ ?_
    · exact hu2
    · refine ite_elim (P := Within b) ?_ ?_
      · refine ite_elim (P := Within b) ?_ ?_
        · refine State.forEach_within ?_ ?_
          · refine State.deembGroup_within qevu c3 c4 c5 ?_
            exact hu2
          · intro u6 u7 hu8
            try beta_reduce
            refine State.putSrc_within qamx ?_
            exact hu8
        · exact hu2
      · refine ite_elim (P := Within b) ?_ ?_
        · refine State.deembControl_within qamx qevu c6 c5 ?_
          exact hx5
        · refine State.deembData_within qevu qfresh qamx c5 c7 c8 c9 ?_
          exact hx5

theorem execDeembedFade_within {b : Bounds} {p0 p1 p2} (qamx : b.parts .amx) (c1 : b.regs (O0C.DEEMB_FLAGS (3072 + p0))) (c2 : b.regs (O0C.DEEMB_STATE (3072 + p0))) (hp2 : Within b p2) : WithinOut b (execDeembedFade p0 p1 p2) := by
  unfold execDeembedFade
  refine onInst_within ?_ ?_
  · exact hp2
  · intro u1 hu2
    try beta_reduce
    extract_lets -merge -useContext -underBinder x3 x4 x5
    refine ite_elim (P := Within b) ?_ ?_
    · refine State.flag_within c1 ?_
      refine State.setN_within c2 ?_
      refine State.setDeemb_within qamx ?_
      exact hu2
    · refine ite_elim (P := Within b) ?_ ?_
      · refine State.setN_within c2 ?_
        refine State.setDeemb_within qamx ?_
        exact hu2
      · exact hu2

end Sys2Proof.Machine
end

