-- ==== Sys2Proof/Laws/WithinAudioPorts.lean ====
section
/-! SUPPORT. What each operation of Machine/AudioPorts.lean may change at most (Laws/Within.lean). -/

set_option maxRecDepth 8000

namespace Sys2Proof.Machine

theorem State.setPort_within {b : Bounds} {p0 p1 p2} (qaudio : b.parts .audio) (hp0 : Within b p0) : Within b (State.setPort p0 p1 p2) := by
  unfold State.setPort
  extract_lets -merge -useContext -underBinder x1
  refine Within.f_audio (s := p0) qaudio ?_
  exact hp0

theorem State.setGrp_within {b : Bounds} {p0 p1 p2} (qaudio : b.parts .audio) (hp0 : Within b p0) : Within b (State.setGrp p0 p1 p2) := by
  unfold State.setGrp
  extract_lets -merge -useContext -underBinder x1
  refine Within.f_audio (s := p0) qaudio ?_
  exact hp0

theorem State.presetFifo_within {b : Bounds} {p0 p1} (qfresh : b.parts .fresh) (qaudio : b.parts .audio) (hp0 : Within b p0) : Within b (State.presetFifo p0 p1) := by
  unfold State.presetFifo
  extract_lets -merge -useContext -underBinder x1 x2 x3
  have hx1 : Within2 b x1 := by
    unfold x1
    refine State.draw_within qfresh ?_
    exact hp0
  try clear_value x1
  refine State.setPort_within qaudio ?_
  change Within2 b _
  exact hx1

theorem State.fadeOut_within {b : Bounds} {p0 p1 p2 p3} (qaudio : b.parts .audio) (c1 : b.regs (State.stateKey p1)) (c2 : ∀ (w0 : ℕ), b.regs (O0A.GROUP_FAULTS w0)) (hp0 : Within b p0) : Within b (State.fadeOut p0 p1 p2 p3) := by
  unfold State.fadeOut
  extract_lets -merge -useContext -underBinder x1 x2
  have hx2 : Within b x2 := by
    unfold x2
    refine State.setN_within c1 ?_
    refine State.setPort_within qaudio ?_
    exact hp0
  try clear_value x2
  split
  · refine ite_elim (P := Within b) ?_ ?_
    · refine State.bump_within (c2 _) ?_
      exact hx2
    · exact hx2
  · exact hx2

theorem State.underrun_within {b : Bounds} {p0 p1} (qevu : b.parts .evu) (qaudio : b.parts .audio) (c2 : ∀ w1, b.regs (State.portKey p1 w1)) (c3 : b.regs (State.stateKey p1)) (c4 : ∀ w0, b.regs (O0A.GROUP_FAULTS w0)) (c5 : ∀ k ∈ eventRegs (Sys2Proof.Machine.portEvent p1 168 181), b.regs k) (c6 : b.regs (State.flagsKey p1)) (hp0 : Within b p0) : Within b (State.underrun p0 p1) := by
  unfold State.underrun
  extract_lets -merge -useContext -underBinder x1
  have hx1 : Within b x1 := by
    unfold x1
    refine State.bump_within (c2 _) ?_
    refine State.fadeOut_within qaudio c3 c4 ?_
    exact hp0
  try clear_value x1
  refine State.raise_within qevu c5 ?_
  refine State.flag_within c6 ?_
  exact hx1

theorem State.overrun_within {b : Bounds} {p0 p1} (qevu : b.parts .evu) (qaudio : b.parts .audio) (c2 : ∀ w1, b.regs (State.portKey p1 w1)) (c3 : b.regs (State.stateKey p1)) (c4 : ∀ w0, b.regs (O0A.GROUP_FAULTS w0)) (c5 : ∀ k ∈ eventRegs (Sys2Proof.Machine.portEvent p1 169 182), b.regs k) (c6 : b.regs (State.flagsKey p1)) (hp0 : Within b p0) : Within b (State.overrun p0 p1) := by
  unfold State.overrun
  extract_lets -merge -useContext -underBinder x1
  have hx1 : Within b x1 := by
    unfold x1
    refine State.bump_within (c2 _) ?_
    refine State.fadeOut_within qaudio c3 c4 ?_
    exact hp0
  try clear_value x1
  refine State.raise_within qevu c5 ?_
  refine State.flag_within c6 ?_
  exact hx1

theorem State.setLoop_within {b : Bounds} {p0 p1 p2} (qaudio : b.parts .audio) (hp0 : Within b p0) : Within b (State.setLoop p0 p1 p2) := by
  unfold State.setLoop
  extract_lets -merge -useContext -underBinder x1
  refine Within.f_audio (s := p0) qaudio ?_
  exact hp0

theorem State.followLost_within {b : Bounds} {p0 p1} (qevu : b.parts .evu) (qaudio : b.parts .audio) (c2 : ∀ k ∈ eventRegs 3606, b.regs k) (c3 : ∀ w0, b.regs (O0A.FOLLOW_STATE w0)) (c4 : ∀ w0, b.regs (O0A.FOLLOW_OFFSET w0)) (hp0 : Within b p0) : Within b (State.followLost p0 p1) := by
  unfold State.followLost
  split
  · exact hp0
  · extract_lets -merge -useContext -underBinder x1 x2 x3
    refine ite_elim (P := Within b) ?_ ?_
    · refine State.raise_within qevu c2 ?_
      refine State.setN_within (c3 _) ?_
      refine State.setZ_within (c4 _) ?_
      refine State.setLoop_within qaudio ?_
      exact hp0
    · exact hp0

theorem State.followGot_within {b : Bounds} {p0 p1} (qfresh : b.parts .fresh) (qaudio : b.parts .audio) (c2 : ∀ w0, b.regs (O0A.FOLLOW_OFFSET w0)) (c3 : ∀ w0, b.regs (State.portKey w0 (Sys2Proof.Machine.O0A.OUT_STATE 0))) (c4 : ∀ w0, b.regs (State.portKey w0 (Sys2Proof.Machine.O0A.PORT_STATE_OUT 0))) (c5 : ∀ w0, b.regs (O03.ACS_STATE w0)) (c6 : ∀ w0, b.regs (O0A.FOLLOW_STATE w0)) (hp0 : Within b p0) : Within b (State.followGot p0 p1) := by
  unfold State.followGot
  split
  · exact hp0
  · extract_lets -merge -useContext -underBinder x1 x2 x3 x4 x5
    have hx4 : Within b x4 := by
      unfold x4
      refine State.setZ_within (c2 _) ?_
      refine State.setLoop_within qaudio ?_
      exact hp0
    try clear_value x4
    refine ite_elim (P := Within b) ?_ ?_
    · exact hp0
    · refine ite_elim (P := Within b) ?_ ?_
      · refine State.acsRun_within c3 c4 ?_
        refine State.setN_within (c5 _) ?_
        refine State.setN_within (c6 _) ?_
        refine State.presetFifo_within qfresh qaudio ?_
        exact hx4
      · refine ite_elim (P := Within b) ?_ ?_
        · refine State.setN_within (c6 _) ?_
          refine State.setLoop_within qaudio ?_
          exact hp0
        · exact hp0

theorem State.inputFault_within {b : Bounds} {p0 p1} (qevu : b.parts .evu) (qaudio : b.parts .audio) (c2 : ∀ k ∈ eventRegs 3606, b.regs k) (c3 : ∀ w0, b.regs (O0A.FOLLOW_STATE w0)) (c4 : ∀ w0, b.regs (O0A.FOLLOW_OFFSET w0)) (c5 : ∀ w1, b.regs (State.portKey p1 w1)) (c6 : b.regs (State.stateKey p1)) (c7 : ∀ w0, b.regs (O0A.GROUP_FAULTS w0)) (c8 : ∀ k ∈ eventRegs (Sys2Proof.Machine.portEvent p1 168 181), b.regs k) (c9 : b.regs (State.flagsKey p1)) (hp0 : Within b p0) : Within b (State.inputFault p0 p1) := by
  unfold State.inputFault
  refine State.followLost_within qevu qaudio c2 c3 c4 ?_
  refine ite_elim (P := Within b) ?_ ?_
  · refine State.underrun_within qevu qaudio c5 c6 c7 c8 c9 ?_
    exact hp0
  · exact hp0

theorem State.followApplied_within {b : Bounds} {p0 p1} (qevu : b.parts .evu) (qaudio : b.parts .audio) (qfresh : b.parts .fresh) (qclocks : b.parts .clocks) (c4 : ∀ (w0 : ℕ), ∀ k ∈ eventRegs w0, b.regs k) (c5 : ∀ (w0 : ℕ), b.regs (State.portKey w0 (O0A.OUT_FLAGS 0))) (c6 : ∀ (w0 : ℕ), b.regs (State.portKey w0 (O0A.OUT_STATE 0))) (c7 : ∀ (w0 : ℕ), b.regs (O0A.FOLLOW_OFFSET w0)) (c8 : ∀ (w0 : ℕ), b.regs (State.portKey w0 (O0A.PORT_STATE_OUT 0))) (c9 : ∀ (w0 : ℕ), b.regs (O03.ACS_STATE w0)) (c10 : ∀ (w0 : ℕ), b.regs (O0A.FOLLOW_STATE w0)) (c11 : ∀ (w0 : ℕ), b.regs (State.portKey w0 (O0A.SRC_ACTIVE 0))) (hp0 : Within b p0) : Within b (State.followApplied p0 p1) := by
  unfold State.followApplied
  extract_lets -merge -useContext -underBinder x1 x2 x3 x4
  have hx2 : Within b x2 := by
    unfold x2
    refine ite_elim (P := Within b) ?_ ?_
    · refine State.acsStatic_within qevu c4 c5 c6 ?_
      refine State.setN_within (c9 _) ?_
      refine State.setN_within (c10 _) ?_
      refine State.setLoop_within qaudio ?_
      exact hp0
    · exact hp0
  try clear_value x2
  refine ite_elim (P := Within b) ?_ ?_
  · refine State.followGot_within qfresh qaudio c7 c6 c8 c9 c10 ?_
    refine State.setB_within (c11 _) ?_
    exact hx2
  · refine ite_elim (P := Within b) ?_ ?_
    · exact hp0
    · refine State.retarget_within qclocks ?_
      refine State.setN_within (c10 _) ?_
      refine State.setLoop_within qaudio ?_
      exact hp0

theorem State.inputApplied_within {b : Bounds} {p0 p1} (qevu : b.parts .evu) (qaudio : b.parts .audio) (qtiming : b.parts .timing) (c3 : ∀ k ∈ eventRegs 3606, b.regs k) (c4 : ∀ (w0 : ℕ), b.regs (O0A.FOLLOW_STATE w0)) (c5 : ∀ (w0 : ℕ), b.regs (O0A.FOLLOW_OFFSET w0)) (c6 : ∀ (w1 : Key), b.regs (State.portKey p1 w1)) (c7 : b.regs (State.stateKey p1)) (c8 : ∀ (w0 : ℕ), b.regs (O0A.GROUP_FAULTS w0)) (c9 : ∀ k ∈ eventRegs (portEvent p1 168 181), b.regs k) (c10 : b.regs (State.flagsKey p1)) (c11 : ∀ (w0 : ℕ), b.regs (O02.CAND_FLAGS w0)) (c12 : ∀ k ∈ eventRegs 35, b.regs k) (c13 : ∀ (w0 : ℕ), b.regs (O02.CAND_STATE w0)) (c14 : ∀ (w0 : ℕ), b.regs (O02.OUTVOTED w0)) (hp0 : Within b p0) : Within b (State.inputApplied p0 p1) := by
  unfold State.inputApplied
  extract_lets -merge -useContext -underBinder x1 x2 x3 x4
  have hx3 : Within b x3 := by
    unfold x3
    refine State.setN_within (c6 _) ?_
    exact hp0
  try clear_value x3
  have hx4 : Within b x4 := by
    unfold x4
    refine ite_elim (P := Within b) ?_ ?_
    · refine State.inputFault_within qevu qaudio c3 c4 c5 c6 c7 c8 c9 c10 ?_
      exact hx3
    · exact hx3
  try clear_value x4
  refine ite_elim (P := Within b) ?_ ?_
  · refine ite_elim (P := Within b) ?_ ?_
    · refine State.setN_within (c6 _) ?_
      refine State.setPort_within qaudio ?_
      exact hp0
    · exact hp0
  · refine ite_elim (P := Within b) ?_ ?_
    · exact hp0
    · refine State.forEach_within ?_ ?_
      · exact hx4
      · intro u5 u6 hu7
        try beta_reduce
        refine ite_elim (P := Within b) ?_ ?_
        · refine State.candFault_within qevu qtiming (c11 _) c12 (c13 _) (c14 _) ?_
          exact hu7
        · exact hu7

theorem State.outputApplied_within {b : Bounds} {p0 p1} (qfresh : b.parts .fresh) (qevu : b.parts .evu) (qaudio : b.parts .audio) (c3 : ∀ w1, b.regs (State.portKey p1 w1)) (c4 : b.regs (State.stateKey p1)) (c5 : ∀ w0, b.regs (O0A.GROUP_FAULTS w0)) (c6 : ∀ k ∈ eventRegs (Sys2Proof.Machine.portEvent p1 168 181), b.regs k) (c7 : b.regs (State.flagsKey p1)) (hp0 : Within b p0) : Within b (State.outputApplied p0 p1) := by
  unfold State.outputApplied
  extract_lets -merge -useContext -underBinder x1 x2 x3
  have hx2 : Within b x2 := by
    unfold x2
    refine ite_elim (P := Within b) ?_ ?_
    · refine State.presetFifo_within qfresh qaudio ?_
      exact hp0
    · exact hp0
  try clear_value x2
  have hx3 : Within b x3 := by
    unfold x3
    refine State.setN_within (c3 _) ?_
    exact hp0
  try clear_value x3
  refine ite_elim (P := Within b) ?_ ?_
  · refine State.setN_within (c3 _) ?_
    exact hx2
  · refine ite_elim (P := Within b) ?_ ?_
    · exact hp0
    · refine ite_elim (P := Within b) ?_ ?_
      · refine State.underrun_within qevu qaudio c3 c4 c5 c6 c7 ?_
        exact hx3
      · exact hx3

theorem State.membersApplied_within {b : Bounds} {p0 p1} (qaudio : b.parts .audio) (c1 : ∀ w0, b.regs (State.stateKey w0)) (hp0 : Within b p0) : Within b (State.membersApplied p0 p1) := by
  unfold State.membersApplied
  extract_lets -merge -useContext -underBinder x1 x2 x3
  have hx3 : Within b x3 := by
    unfold x3
    refine State.setGrp_within qaudio ?_
    exact hp0
  try clear_value x3
  refine ite_elim (P := Within b) ?_ ?_
  · refine State.forEach_within ?_ ?_
    · exact hx3
    · intro u4 u5 hu4
      try beta_reduce
      refine State.setN_within (c1 _) ?_
      exact hu4
  · exact hx3

theorem State.audioApplied_within {b : Bounds} {p0 p1} (qevu : b.parts .evu) (qaudio : b.parts .audio) (qtiming : b.parts .timing) (qfresh : b.parts .fresh) (qclocks : b.parts .clocks) (c5 : ∀ (w0 : ℕ), b.regs (O0A.FOLLOW_STATE w0)) (c6 : ∀ (w0 : ℕ), b.regs (O0A.FOLLOW_OFFSET w0)) (c7 : ∀ (w1 : Key), b.regs (State.portKey ((if clsOf p1 = 11 then 8192 else 0) + instOf p1) w1)) (c8 : ∀ (w0 : ℕ), b.regs (O0A.GROUP_FAULTS w0)) (c9 : b.regs (State.flagsKey ((if clsOf p1 = 11 then 8192 else 0) + instOf p1))) (c10 : ∀ (w0 : ℕ), b.regs (O02.CAND_FLAGS w0)) (c11 : ∀ (w0 : ℕ), b.regs (O02.CAND_STATE w0)) (c12 : ∀ (w0 : ℕ), b.regs (O02.OUTVOTED w0)) (c13 : ∀ (w1 : Key), b.regs (State.portKey ((if clsOf p1 = 11 then 8192 else 0) + 4096 + (instOf p1 - 256)) w1)) (c14 : b.regs (State.flagsKey ((if clsOf p1 = 11 then 8192 else 0) + 4096 + (instOf p1 - 256)))) (c15 : ∀ (w0 : ℕ), b.regs (State.stateKey w0)) (c16 : ∀ (w0 : ℕ), ∀ k ∈ eventRegs w0, b.regs k) (c17 : ∀ (w0 : ℕ), b.regs (State.portKey w0 (O0A.OUT_FLAGS 0))) (c18 : ∀ (w0 : ℕ), b.regs (State.portKey w0 (O0A.OUT_STATE 0))) (c19 : ∀ (w0 : ℕ), b.regs (State.portKey w0 (O0A.PORT_STATE_OUT 0))) (c20 : ∀ (w0 : ℕ), b.regs (O03.ACS_STATE w0)) (c21 : ∀ (w0 : ℕ), b.regs (State.portKey w0 (O0A.SRC_ACTIVE 0))) (hp0 : Within b p0) : Within b (State.audioApplied p0 p1) := by
  unfold State.audioApplied
  extract_lets -merge -useContext -underBinder x1 x2
  refine ite_elim (P := Within b) ?_ ?_
  · refine ite_elim (P := Within b) ?_ ?_
    · refine State.inputApplied_within qevu qaudio qtiming (c16 _) c5 c6 c7 (c15 _) c8 (c16 _) c9 c10 (c16 _) c11 c12 ?_
      exact hp0
    · exact hp0
  · refine ite_elim (P := Within b) ?_ ?_
    · refine ite_elim (P := Within b) ?_ ?_
      · refine State.outputApplied_within qfresh qevu qaudio c13 (c15 _) c8 (c16 _) c14 ?_
        exact hp0
      · exact hp0
    · refine ite_elim (P := Within b) ?_ ?_
      · refine ite_elim (P := Within b) ?_ ?_
        · refine State.membersApplied_within qaudio c15 ?_
          exact hp0
        · exact hp0
      · refine ite_elim (P := Within b) ?_ ?_
        · refine State.followApplied_within qevu qaudio qfresh qclocks c16 c17 c18 c6 c19 c20 c5 c21 ?_
          exact hp0
        · exact hp0

theorem State.fifoPut_within {b : Bounds} {p0 p1 p2} (qaudio : b.parts .audio) (hp0 : Within b p0) : Within b (State.fifoPut p0 p1 p2) := by
  unfold State.fifoPut
  extract_lets -merge -useContext -underBinder x1
  refine ite_elim (P := Within b) ?_ ?_
  · exact hp0
  · refine State.setPort_within qaudio ?_
    exact hp0

theorem State.indexStep_within {b : Bounds} {p0 p1} (c0 : b.regs (State.indexKey p1)) (hp0 : Within b p0) : Within b (State.indexStep p0 p1) := by
  unfold State.indexStep
  refine ite_elim (P := Within b) ?_ ?_
  · exact hp0
  · refine State.bump_within c0 ?_
    exact hp0

theorem State.fifoRead_within {b : Bounds} {p0 p1} (qaudio : b.parts .audio) (hp0 : Within b p0) : Within2 b (State.fifoRead p0 p1) := by
  unfold State.fifoRead
  extract_lets -merge -useContext -underBinder x1 x2 x3
  split
  · refine ite_elim (P := Within2 b) ?_ ?_
    · refine within2_mk ?_
      refine State.setPort_within qaudio ?_
      exact hp0
    · refine within2_mk ?_
      exact hp0
  · refine within2_mk ?_
    exact hp0

theorem State.stepGain_within {b : Bounds} {p0 p1 p2} (qaudio : b.parts .audio) (hp0 : Within b p0) : Within2 b (State.stepGain p0 p1 p2) := by
  unfold State.stepGain
  extract_lets -merge -useContext -underBinder x1 x2 x3
  refine within2_mk ?_
  refine State.setPort_within qaudio ?_
  exact hp0

theorem State.dueReads_within {b : Bounds} {p0 p1} (qaudio : b.parts .audio) (hp0 : Within b p0) : Within2 b (State.dueReads p0 p1) := by
  unfold State.dueReads
  extract_lets -merge -useContext -underBinder x1 x2
  refine ite_elim (P := Within2 b) ?_ ?_
  · refine within2_mk ?_
    refine State.setPort_within qaudio ?_
    exact hp0
  · refine within2_mk ?_
    exact hp0

theorem State.inputPeriod_within {b : Bounds} {p0 p1} (qaudio : b.parts .audio) (qfresh : b.parts .fresh) (qamx : b.parts .amx) (c3 : b.regs (State.portKey p1 (O0A.IN_LATENCY 0))) (hp0 : Within b p0) : Within b (State.inputPeriod p0 p1) := by
  unfold State.inputPeriod
  extract_lets -merge -useContext -underBinder x1 x2 x3 x4 x5 x6 x7 x8
  have hx2 : Within2 b x2 := by
    unfold x2
    refine State.dueReads_within qaudio ?_
    exact hp0
  try clear_value x2
  have hx3 : Within b x3 := by
    unfold x3
    refine State.forEach_within ?_ ?_
    · change Within2 b _
      exact hx2
    · intro u9 u10 hu11
      try beta_reduce
      change Within2 b _
      refine State.fifoRead_within qaudio ?_
      exact hu11
  try clear_value x3
  have hx4 : Within2 b x4 := by
    unfold x4
    refine ite_elim (P := Within2 b) ?_ ?_
    · refine within2_mk ?_
      exact hx3
    · refine State.fifoRead_within qaudio ?_
      exact hx3
  try clear_value x4
  have hx5 : Within2 b x5 := by
    unfold x5
    refine State.stepGain_within qaudio ?_
    change Within2 b _
    exact hx4
  try clear_value x5
  have hx8 : Within b x8 := by
    unfold x8
    refine State.setN_within c3 ?_
    change Within2 b _
    exact hx5
  try clear_value x8
  refine State.forEach_within ?_ ?_
  · exact hx8
  · intro u12 u13 hu14
    try beta_reduce
    extract_lets -merge -useContext -underBinder x15
    have hx15 : Within2 b x15 := by
      unfold x15
      refine State.draw_within qfresh ?_
      exact hu14
    try clear_value x15
    refine ite_elim (P := Within b) ?_ ?_
    · refine State.putSrc_within qamx ?_
      exact hu14
    · refine ite_elim (P := Within b) ?_ ?_
      · refine State.putSrc_within qamx ?_
        change Within2 b _
        exact hx15
      · refine State.putSrc_within qamx ?_
        exact hu14

theorem State.outputPeriod_within {b : Bounds} {p0 p1} (qfresh : b.parts .fresh) (qaudio : b.parts .audio) (c2 : b.regs (State.portKey p1 (Sys2Proof.Machine.O0A.OUT_LATENCY 0))) (hp0 : Within b p0) : Within b (State.outputPeriod p0 p1) := by
  unfold State.outputPeriod
  extract_lets -merge -useContext -underBinder x1 x2 x3 x4
  have hx2 : Within2 b x2 := by
    unfold x2
    refine State.dueReads_within qaudio ?_
    exact hp0
  try clear_value x2
  have hx4 : Within b x4 := by
    unfold x4
    refine State.forEach_within ?_ ?_
    · change Within2 b _
      exact hx2
    · intro u5 u6 hu5
      try beta_reduce
      extract_lets -merge -useContext -underBinder x7
      have hx7 : Within2 b x7 := by
        unfold x7
        refine State.draw_within qfresh ?_
        exact hu5
      try clear_value x7
      refine ite_elim (P := Within b) ?_ ?_
      · refine State.fifoPut_within qaudio ?_
        change Within2 b _
        exact hx7
      · refine State.fifoPut_within qaudio ?_
        exact hu5
  try clear_value x4
  refine State.setN_within c2 ?_
  exact hx4

theorem State.audioPeriod_within {b : Bounds} {p0} (qaudio : b.parts .audio) (qfresh : b.parts .fresh) (qamx : b.parts .amx) (c3 : ∀ (w0 : ℕ), b.regs (State.portKey w0 (O0A.IN_LATENCY 0))) (c4 : ∀ (w0 : ℕ), b.regs (State.portKey w0 (O0A.OUT_LATENCY 0))) (hp0 : Within b p0) : Within b (State.audioPeriod p0) := by
  unfold State.audioPeriod
  refine State.forEach_within ?_ ?_
  · exact hp0
  · intro u1 u2 hu3
    try beta_reduce
    refine ite_elim (P := Within b) ?_ ?_
    · refine ite_elim (P := Within b) ?_ ?_
      · refine State.inputPeriod_within qaudio qfresh qamx (c3 _) ?_
        exact hu3
      · refine State.forEach_within ?_ ?_
        · exact hu3
        · intro u4 u5 hu6
          try beta_reduce
          refine State.putSrc_within qamx ?_
          exact hu6
    · refine ite_elim (P := Within b) ?_ ?_
      · refine State.outputPeriod_within qfresh qaudio (c4 _) ?_
        exact hu3
      · exact hu3

theorem State.groupStep_within {b : Bounds} {p0 p1} (qaudio : b.parts .audio) (hp0 : Within b p0) : Within b (State.groupStep p0 p1) := by
  unfold State.groupStep
  extract_lets -merge -useContext -underBinder x1
  split
  · refine ite_elim (P := Within b) ?_ ?_
    · exact hp0
    · refine State.setGrp_within qaudio ?_
      exact hp0
  · exact hp0

theorem State.groupIdle_within {b : Bounds} {p0 p1} (qevu : b.parts .evu) (qaudio : b.parts .audio) (c2 : ∀ k ∈ eventRegs 3602, b.regs k) (c3 : b.regs (O0A.GROUP_STATE (512 + p1))) (hp0 : Within b p0) : Within b (State.groupIdle p0 p1) := by
  unfold State.groupIdle
  extract_lets -merge -useContext -underBinder x1
  refine State.raise_within qevu c2 ?_
  refine State.setN_within c3 ?_
  refine State.setGrp_within qaudio ?_
  exact hp0

theorem State.groupStopped_within {b : Bounds} {p0 p1} (qevu : b.parts .evu) (qaudio : b.parts .audio) (c2 : ∀ k ∈ eventRegs 3602, b.regs k) (c3 : b.regs (O0A.GROUP_STATE (512 + p1))) (hp0 : Within b p0) : Within b (State.groupStopped p0 p1) := by
  unfold State.groupStopped
  refine ite_elim (P := Within b) ?_ ?_
  · refine State.groupIdle_within qevu qaudio c2 c3 ?_
    exact hp0
  · exact hp0

theorem State.groupTick_within {b : Bounds} {p0 p1} (qevu : b.parts .evu) (qaudio : b.parts .audio) (c2 : ∀ w0, b.regs (State.indexKey w0)) (c3 : ∀ k ∈ eventRegs 3602, b.regs k) (c4 : b.regs (O0A.GROUP_STATE (512 + p1))) (c5 : ∀ w0, b.regs (State.stateKey w0)) (c6 : ∀ w0, b.regs (O0A.GROUP_FAULTS w0)) (hp0 : Within b p0) : Within b (State.groupTick p0 p1) := by
  unfold State.groupTick
  extract_lets -merge -useContext -underBinder x1 x2 x3 x4
  have hx4 : Within b x4 := by
    unfold x4
    refine ite_elim (P := Within b) ?_ ?_
    · refine State.forEach_within ?_ ?_
      · exact hp0
      · intro u5 u6 hu5
        try beta_reduce
        refine State.setN_within (c2 _) ?_
        exact hu5
    · exact hp0
  try clear_value x4
  split
  · exact hx4
  · extract_lets -merge -useContext -underBinder x7
    have hx7 : Within b x7 := by
      unfold x7
      refine State.setGrp_within qaudio ?_
      exact hx4
    try clear_value x7
    refine ite_elim (P := Within b) ?_ ?_
    · exact hx4
    · refine ite_elim (P := Within b) ?_ ?_
      · refine State.groupStopped_within qevu qaudio c3 c4 ?_
        refine State.forEach_within ?_ ?_
        · exact hx7
        · intro u8 u9 hu8
          try beta_reduce
          refine State.fadeOut_within qaudio (c5 _) c6 ?_
          exact hu8
      · refine ite_elim (P := Within b) ?_ ?_
        · refine State.groupIdle_within qevu qaudio c3 c4 ?_
          exact hx4
        · refine State.setGrp_within qaudio ?_
          exact hx4

theorem State.audioTick_within {b : Bounds} {p0 p1} (qevu : b.parts .evu) (qaudio : b.parts .audio) (qfresh : b.parts .fresh) (qamx : b.parts .amx) (c4 : ∀ (w0 : ℕ), b.regs (State.indexKey w0)) (c5 : ∀ k ∈ eventRegs 3602, b.regs k) (c6 : ∀ (w0 : ℕ), b.regs (O0A.GROUP_STATE w0)) (c7 : ∀ (w0 : ℕ), b.regs (State.stateKey w0)) (c8 : ∀ (w0 : ℕ), b.regs (O0A.GROUP_FAULTS w0)) (c9 : ∀ (w0 : ℕ), b.regs (State.portKey w0 (O0A.IN_LATENCY 0))) (c10 : ∀ (w0 : ℕ), b.regs (State.portKey w0 (O0A.OUT_LATENCY 0))) (hp0 : Within b p0) : Within b (State.audioTick p0 p1) := by
  unfold State.audioTick
  extract_lets -merge -useContext -underBinder x1
  have hx1 : Within b x1 := by
    unfold x1
    refine State.forEach_within ?_ ?_
    · exact hp0
    · intro u2 u3 hu4
      try beta_reduce
      refine State.groupTick_within qevu qaudio c4 c5 (c6 _) c7 c8 ?_
      refine State.groupStep_within qaudio ?_
      exact hu4
  try clear_value x1
  refine ite_elim (P := Within b) ?_ ?_
  · refine State.audioPeriod_within qaudio qfresh qamx c9 c10 ?_
    exact hx1
  · exact hx1

theorem State.audioSeam_within {b : Bounds} {p0} (c0 : ∀ w0, b.regs (O0A.GROUP_INDEX w0)) (hp0 : Within b p0) : Within b (State.audioSeam p0) := by
  unfold State.audioSeam
  refine State.forEach_within ?_ ?_
  · exact hp0
  · intro u1 u2 hu1
    try beta_reduce
    refine ite_elim (P := Within b) ?_ ?_
    · refine State.setN_within (c0 _) ?_
      exact hu1
    · exact hu1

theorem State.audioHold_within {b : Bounds} {p0} (qaudio : b.parts .audio) (c1 : ∀ w0, b.regs (State.stateKey w0)) (hp0 : Within b p0) : Within b (State.audioHold p0) := by
  unfold State.audioHold
  refine State.forEach_within ?_ ?_
  · exact hp0
  · intro u1 u2 hu1
    try beta_reduce
    extract_lets -merge -useContext -underBinder x3
    refine ite_elim (P := Within b) ?_ ?_
    · exact hu1
    · refine State.setN_within (c1 _) ?_
      refine State.setPort_within qaudio ?_
      exact hu1

theorem State.audioRestart_within {b : Bounds} {p0} (qfresh : b.parts .fresh) (qaudio : b.parts .audio) (c2 : ∀ (w0 : ℕ), b.regs (State.stateKey w0)) (hp0 : Within b p0) : Within b (State.audioRestart p0) := by
  unfold State.audioRestart
  refine State.forEach_within ?_ ?_
  · exact hp0
  · intro u1 u2 hu3
    try beta_reduce
    extract_lets -merge -useContext -underBinder x4
    refine ite_elim (P := Within b) ?_ ?_
    · exact hu3
    · refine ite_elim (P := Within b) ?_ ?_
      · refine State.setN_within (c2 _) ?_
        refine State.presetFifo_within qfresh qaudio ?_
        exact hu3
      · refine ite_elim (P := Within b) ?_ ?_
        · refine State.setN_within (c2 _) ?_
          refine State.setPort_within qaudio ?_
          exact hu3
        · exact hu3

theorem State.actGroupStart_within {b : Bounds} {p0 p1 p2} (qevu : b.parts .evu) (qaudio : b.parts .audio) (c2 : ∀ k ∈ eventRegs 3600, b.regs k) (c3 : b.regs (O0A.GROUP_STATE p1)) (hp0 : Within b p0) : Within1 b (State.actGroupStart p0 p1 p2) := by
  unfold State.actGroupStart
  extract_lets -merge -useContext -underBinder x1
  refine ite_elim (P := Within1 b) ?_ ?_
  · refine within1_mk ?_
    exact hp0
  · refine ite_elim (P := Within1 b) ?_ ?_
    · refine within1_mk ?_
      exact hp0
    · refine within1_mk ?_
      refine State.raise_within qevu c2 ?_
      refine State.setN_within c3 ?_
      refine State.setGrp_within qaudio ?_
      exact hp0

theorem State.actGroupStop_within {b : Bounds} {p0 p1 p2} (qaudio : b.parts .audio) (hp0 : Within b p0) : Within1 b (State.actGroupStop p0 p1 p2) := by
  unfold State.actGroupStop
  extract_lets -merge -useContext -underBinder x1
  refine ite_elim (P := Within1 b) ?_ ?_
  · refine within1_mk ?_
    exact hp0
  · refine ite_elim (P := Within1 b) ?_ ?_
    · refine within1_mk ?_
      exact hp0
    · refine within1_mk ?_
      refine State.setGrp_within qaudio ?_
      exact hp0

theorem State.audioRealign_within {b : Bounds} {p0 p1} (qaudio : b.parts .audio) (c1 : ∀ (w0 : ℕ), b.regs (State.stateKey w0)) (c2 : ∀ (w0 : ℕ), b.regs (O0A.GROUP_FAULTS w0)) (hp0 : Within b p0) : Within b (State.audioRealign p0 p1) := by
  unfold State.audioRealign
  refine State.forEach_within ?_ ?_
  · exact hp0
  · intro u1 u2 hu3
    try beta_reduce
    extract_lets -merge -useContext -underBinder x4 x5 x6 x7
    have hx7 : Within b x7 := by
      unfold x7
      refine State.setGrp_within qaudio ?_
      exact hu3
    try clear_value x7
    refine State.forEach_within ?_ ?_
    · exact hx7
    · intro u8 u9 hu10
      try beta_reduce
      refine State.fadeOut_within qaudio (c1 _) c2 ?_
      exact hu10

theorem State.realign_within {b : Bounds} {p0 p1} (qclocks : b.parts .clocks) (qdests : b.parts .dests) (qaudio : b.parts .audio) (c3 : ∀ w0, b.regs (State.stateKey w0)) (c4 : ∀ w0, b.regs (O0A.GROUP_FAULTS w0)) (hp0 : Within b p0) : Within b (State.realign p0 p1) := by
  unfold State.realign
  extract_lets -merge -useContext -underBinder x1 x2
  have hx2 : Within b x2 := by
    unfold x2
    refine State.audioRealign_within qaudio c3 c4 ?_
    refine State.actRealign_within qclocks ?_
    exact hp0
  try clear_value x2
  refine State.forEach_within ?_ ?_
  · exact hx2
  · intro u3 u4 hu3
    try beta_reduce
    extract_lets -merge -useContext -underBinder x5
    refine ite_elim (P := Within b) ?_ ?_
    · refine State.setDest_within qdests ?_
      exact hu3
    · exact hu3

theorem State.ditherOut_within {b : Bounds} {p0 p1 p2} (qfresh : b.parts .fresh) (hp0 : Within b p0) : Within2 b (State.ditherOut p0 p1 p2) := by
  unfold State.ditherOut
  extract_lets -merge -useContext -underBinder x1 x2
  have hx2 : Within2 b x2 := by
    unfold x2
    refine State.draw_within qfresh ?_
    exact hp0
  try clear_value x2
  refine ite_elim (P := Within2 b) ?_ ?_
  · refine within2_mk ?_
    change Within2 b _
    exact hx2
  · refine within2_mk ?_
    exact hp0

theorem State.beginBlock_within {b : Bounds} {p0 p1} (qaudio : b.parts .audio) (hp0 : Within b p0) : Within b (State.beginBlock p0 p1) := by
  unfold State.beginBlock
  extract_lets -merge -useContext -underBinder x1
  refine ite_elim (P := Within b) ?_ ?_
  · refine State.setPort_within qaudio ?_
    exact hp0
  · exact hp0

theorem State.sendFrame_within {b : Bounds} {p0 p1} (qaudio : b.parts .audio) (qfresh : b.parts .fresh) (qsent : b.parts .sent) (c3 : b.regs (State.indexKey p1)) (hp0 : Within b p0) : Within b (State.sendFrame p0 p1) := by
  unfold State.sendFrame
  extract_lets -merge -useContext -underBinder x1 x2 x3 x4 x5 x6
  have hx1 : Within b x1 := by
    unfold x1
    refine State.beginBlock_within qaudio ?_
    exact hp0
  try clear_value x1
  have hx2 : Within2 b x2 := by
    unfold x2
    refine State.fifoRead_within qaudio ?_
    exact hx1
  try clear_value x2
  have hx3 : Within2 b x3 := by
    unfold x3
    refine State.stepGain_within qaudio ?_
    change Within2 b _
    exact hx2
  try clear_value x3
  have hx6 : Within2 b x6 := by
    unfold x6
    refine foldl_elim (P := Within2 b) ?_ ?_
    · refine within2_mk ?_
      change Within2 b _
      exact hx3
    · intro u7 u8 hu9
      try beta_reduce
      extract_lets -merge -useContext -underBinder x10 x11
      have hx11 : Within2 b x11 := by
        unfold x11
        refine ite_elim (P := Within2 b) ?_ ?_
        · refine State.ditherOut_within qfresh ?_
          change Within2 b _
          exact hu9
        · refine within2_mk ?_
          change Within2 b _
          exact hu9
      try clear_value x11
      refine within2_mk ?_
      change Within2 b _
      exact hx11
  try clear_value x6
  refine State.indexStep_within c3 ?_
  refine State.emit_within qsent ?_
  change Within2 b _
  exact hx6

theorem State.checkedSample_within {b : Bounds} {p0 p1 p2 p3 p4} (qevu : b.parts .evu) (qaudio : b.parts .audio) (c2 : ∀ k ∈ eventRegs (Sys2Proof.Machine.portEvent p1 164 179), b.regs k) (c3 : b.regs (State.flagsKey p1)) (c4 : b.regs (State.portKey p1 (Sys2Proof.Machine.O0A.PARITY_ERR 0))) (c5 : b.regs (State.portKey p1 (Sys2Proof.Machine.O0A.V_SAMPLES 0))) (c6 : ∀ k ∈ eventRegs 167, b.regs k) (hp0 : Within b p0) : Within2 b (State.checkedSample p0 p1 p2 p3 p4) := by
  unfold State.checkedSample
  extract_lets -merge -useContext -underBinder x1 x2 x3 x4 x5 x6 x7
  have hx3 : Within b x3 := by
    unfold x3
    refine ite_elim (P := Within b) ?_ ?_
    · refine State.raiseLim_within qevu c2 ?_
      refine State.flag_within c3 ?_
      refine State.bump_within c4 ?_
      exact hp0
    · refine State.setPort_within qaudio ?_
      exact hp0
  try clear_value x3
  have hx5 : Within b x5 := by
    unfold x5
    refine State.bump_within c5 ?_
    exact hx3
  try clear_value x5
  refine ite_elim (P := Within2 b) ?_ ?_
  · refine ite_elim (P := Within2 b) ?_ ?_
    · refine within2_mk ?_
      refine ite_elim (P := Within b) ?_ ?_
      · exact hx5
      · refine State.raise_within qevu c6 ?_
        refine State.setPort_within qaudio ?_
        exact hx5
    · refine within2_mk ?_
      exact hx5
  · refine within2_mk ?_
    refine State.setPort_within qaudio ?_
    exact hx3

theorem State.frameIn_within {b : Bounds} {p0 p1 p2} (qaudio : b.parts .audio) (c1 : b.regs (State.indexKey p1)) (hp0 : Within b p0) : Within b (State.frameIn p0 p1 p2) := by
  unfold State.frameIn
  refine State.indexStep_within c1 ?_
  refine ite_elim (P := Within b) ?_ ?_
  · refine State.fifoPut_within qaudio ?_
    exact hp0
  · exact hp0

theorem State.madiBlock_within {b : Bounds} {p0 p1 p2} (qaudio : b.parts .audio) (hp0 : Within b p0) : Within b (State.madiBlock p0 p1 p2) := by
  unfold State.madiBlock
  extract_lets -merge -useContext -underBinder x1 x2 x3
  refine ite_elim (P := Within b) ?_ ?_
  · refine State.setPort_within qaudio ?_
    exact hp0
  · refine State.setPort_within qaudio ?_
    exact hp0

theorem State.rateFound_within {b : Bounds} {p0 p1 p2} (c0 : b.regs (State.portKey p1 (O0A.IN_RATE 0))) (c1 : b.regs (State.portKey p1 (O0B.IN_CHANNELS 0))) (hp0 : Within b p0) : Within b (State.rateFound p0 p1 p2) := by
  unfold State.rateFound
  extract_lets -merge -useContext -underBinder x1
  have hx1 : Within b x1 := by
    unfold x1
    refine State.setN_within c0 ?_
    exact hp0
  try clear_value x1
  refine ite_elim (P := Within b) ?_ ?_
  · exact hx1
  · refine State.setN_within c1 ?_
    exact hx1

theorem State.followRate_within {b : Bounds} {p0 p1 p2} (qfresh : b.parts .fresh) (qevu : b.parts .evu) (qaudio : b.parts .audio) (c3 : ∀ w0, b.regs (O0A.FOLLOW_OFFSET w0)) (c4 : ∀ w0, b.regs (State.portKey w0 (Sys2Proof.Machine.O0A.OUT_STATE 0))) (c5 : ∀ w0, b.regs (State.portKey w0 (Sys2Proof.Machine.O0A.PORT_STATE_OUT 0))) (c6 : ∀ w0, b.regs (O03.ACS_STATE w0)) (c7 : ∀ w0, b.regs (O0A.FOLLOW_STATE w0)) (c8 : ∀ k ∈ eventRegs 3606, b.regs k) (hp0 : Within b p0) : Within b (State.followRate p0 p1 p2) := by
  unfold State.followRate
  split
  · refine ite_elim (P := Within b) ?_ ?_
    · refine State.followGot_within qfresh qaudio c3 c4 c5 c6 c7 ?_
      exact hp0
    · refine State.followLost_within qevu qaudio c8 c7 c3 ?_
      exact hp0
  · exact hp0

theorem State.lockPort_within {b : Bounds} {p0 p1 p2 p3 p4} (qfresh : b.parts .fresh) (qevu : b.parts .evu) (qaudio : b.parts .audio) (c3 : b.regs (State.portKey p1 (Sys2Proof.Machine.O0A.SRC_ACTIVE 0))) (c4 : ∀ w0, b.regs (O0A.FOLLOW_OFFSET w0)) (c5 : ∀ w0, b.regs (State.portKey w0 (Sys2Proof.Machine.O0A.OUT_STATE 0))) (c6 : ∀ w0, b.regs (State.portKey w0 (Sys2Proof.Machine.O0A.PORT_STATE_OUT 0))) (c7 : ∀ w0, b.regs (O03.ACS_STATE w0)) (c8 : ∀ w0, b.regs (O0A.FOLLOW_STATE w0)) (c9 : ∀ k ∈ eventRegs 3606, b.regs k) (c10 : ∀ k ∈ eventRegs (Sys2Proof.Machine.portEvent p1 160 176), b.regs k) (c11 : b.regs (State.portKey p1 (Sys2Proof.Machine.O0A.IN_STATE 0))) (hp0 : Within b p0) : Within b (State.lockPort p0 p1 p2 p3 p4) := by
  unfold State.lockPort
  extract_lets -merge -useContext -underBinder x1 x2 x3
  have hx2 : Within b x2 := by
    unfold x2
    refine State.setPort_within qaudio ?_
    exact hp0
  try clear_value x2
  have hx3 : Within b x3 := by
    unfold x3
    refine State.presetFifo_within qfresh qaudio ?_
    refine State.setB_within c3 ?_
    exact hx2
  try clear_value x3
  refine State.followRate_within qfresh qevu qaudio c4 c5 c6 c7 c8 c9 ?_
  refine State.raise_within qevu c10 ?_
  refine State.setN_within c11 ?_
  exact hx3

theorem State.identify_within {b : Bounds} {p0 p1 p2 p3} (qfresh : b.parts .fresh) (qevu : b.parts .evu) (qaudio : b.parts .audio) (c3 : b.regs (State.portKey p1 (O0A.IN_RATE 0))) (c4 : b.regs (State.portKey p1 (O0B.IN_CHANNELS 0))) (c5 : b.regs (State.portKey p1 (O0A.SRC_ACTIVE 0))) (c6 : ∀ (w0 : ℕ), b.regs (O0A.FOLLOW_OFFSET w0)) (c7 : ∀ (w0 : ℕ), b.regs (State.portKey w0 (O0A.OUT_STATE 0))) (c8 : ∀ (w0 : ℕ), b.regs (State.portKey w0 (O0A.PORT_STATE_OUT 0))) (c9 : ∀ (w0 : ℕ), b.regs (O03.ACS_STATE w0)) (c10 : ∀ (w0 : ℕ), b.regs (O0A.FOLLOW_STATE w0)) (c11 : ∀ k ∈ eventRegs 3606, b.regs k) (c12 : ∀ k ∈ eventRegs (portEvent p1 160 176), b.regs k) (c13 : b.regs (State.portKey p1 (O0A.IN_STATE 0))) (c14 : ∀ k ∈ eventRegs (portEvent p1 173 185), b.regs k) (hp0 : Within b p0) : Within b (State.identify p0 p1 p2 p3) := by
  unfold State.identify
  extract_lets -merge -useContext -underBinder x1 x2
  have hx2 : Within b x2 := by
    unfold x2
    refine State.rateFound_within c3 c4 ?_
    exact hp0
  try clear_value x2
  refine ite_elim (P := Within b) ?_ ?_
  · refine State.lockPort_within qfresh qevu qaudio c5 c6 c7 c8 c9 c10 c11 c12 c13 ?_
    exact hx2
  · refine State.raise_within qevu c14 ?_
    refine State.setN_within c13 ?_
    exact hx2

theorem State.acquiring_within {b : Bounds} {p0 p1} (qaudio : b.parts .audio) (c1 : b.regs (State.portKey p1 (O0A.IN_STATE 0))) (hp0 : Within b p0) : Within b (State.acquiring p0 p1) := by
  unfold State.acquiring
  extract_lets -merge -useContext -underBinder x1
  refine State.setN_within c1 ?_
  refine State.setPort_within qaudio ?_
  exact hp0

theorem State.followLimit_within {b : Bounds} {p0 p1} (qevu : b.parts .evu) (qaudio : b.parts .audio) (c2 : b.regs (O0A.FOLLOW_STATE (768 + p1))) (c3 : ∀ w0 w1, b.regs (State.portKey w0 w1)) (c4 : ∀ w0, b.regs (State.stateKey w0)) (c5 : ∀ w0, b.regs (O0A.GROUP_FAULTS w0)) (c6 : ∀ w0, ∀ k ∈ eventRegs w0, b.regs k) (c7 : ∀ w0, b.regs (State.flagsKey w0)) (hp0 : Within b p0) : Within b (State.followLimit p0 p1) := by
  unfold State.followLimit
  extract_lets -merge -useContext -underBinder x1 x2
  have hx1 : Within b x1 := by
    unfold x1
    refine State.raise_within qevu (c6 _) ?_
    refine State.setN_within c2 ?_
    exact hp0
  try clear_value x1
  refine ite_elim (P := Within b) ?_ ?_
  · refine State.underrun_within qevu qaudio (fun w1 => c3 _ w1) (c4 _) c5 (c6 _) (c7 _) ?_
    exact hx1
  · exact hx1

theorem State.followStep_within {b : Bounds} {p0 p1} (qevu : b.parts .evu) (qaudio : b.parts .audio) (c2 : b.regs (O0A.FOLLOW_STATE (768 + p1))) (c3 : ∀ w0 w1, b.regs (State.portKey w0 w1)) (c4 : ∀ w0, b.regs (State.stateKey w0)) (c5 : ∀ w0, b.regs (O0A.GROUP_FAULTS w0)) (c6 : ∀ w0, ∀ k ∈ eventRegs w0, b.regs k) (c7 : ∀ w0, b.regs (State.flagsKey w0)) (hp0 : Within b p0) : Within b (State.followStep p0 p1) := by
  unfold State.followStep
  extract_lets -merge -useContext -underBinder x1 x2
  split
  · refine ite_elim (P := Within b) ?_ ?_
    · refine State.followLimit_within qevu qaudio c2 c3 c4 c5 c6 c7 ?_
      exact hp0
    · refine ite_elim (P := Within b) ?_ ?_
      · refine State.raise_within qevu (c6 _) ?_
        refine State.setN_within c2 ?_
        exact hp0
      · exact hp0
  · refine ite_elim (P := Within b) ?_ ?_
    · refine State.followLimit_within qevu qaudio c2 c3 c4 c5 c6 c7 ?_
      exact hp0
    · exact hp0
  · refine ite_elim (P := Within b) ?_ ?_
    · refine State.setN_within c2 ?_
      exact hp0
    · exact hp0
  · exact hp0

theorem onPort_within {b : Bounds} {p0 p1 p2} (hp1 : Within b p1) (hp2 : ∀ a0, Within b a0 → Within b (p2 a0)) : WithinOut b (onPort p0 p1 p2) := by
  unfold onPort
  refine outNext ?_
  refine ite_elim (P := Within b) ?_ ?_
  · refine hp2 _ ?_
    · exact hp1
  · exact hp1

theorem execAes3PreamblesValid_within {b : Bounds} {p0 p1} (qaudio : b.parts .audio) (c1 : b.regs (State.portKey p0 (O0A.IN_STATE 0))) (hp1 : Within b p1) : WithinOut b (execAes3PreamblesValid p0 p1) := by
  unfold execAes3PreamblesValid
  refine onPort_within ?_ ?_
  · exact hp1
  · intro u1 hu2
    try beta_reduce
    refine ite_elim (P := Within b) ?_ ?_
    · refine State.acquiring_within qaudio c1 ?_
      exact hu2
    · exact hu2

theorem execAudioRateIdentified_within {b : Bounds} {p0 p1 p2 p3} (qfresh : b.parts .fresh) (qevu : b.parts .evu) (qaudio : b.parts .audio) (c3 : b.regs (State.portKey p0 (O0A.IN_RATE 0))) (c4 : b.regs (State.portKey p0 (O0B.IN_CHANNELS 0))) (c5 : b.regs (State.portKey p0 (O0A.SRC_ACTIVE 0))) (c6 : ∀ (w0 : ℕ), b.regs (O0A.FOLLOW_OFFSET w0)) (c7 : ∀ (w0 : ℕ), b.regs (State.portKey w0 (O0A.OUT_STATE 0))) (c8 : ∀ (w0 : ℕ), b.regs (State.portKey w0 (O0A.PORT_STATE_OUT 0))) (c9 : ∀ (w0 : ℕ), b.regs (O03.ACS_STATE w0)) (c10 : ∀ (w0 : ℕ), b.regs (O0A.FOLLOW_STATE w0)) (c11 : ∀ k ∈ eventRegs 3606, b.regs k) (c12 : ∀ k ∈ eventRegs (portEvent p0 160 176), b.regs k) (c13 : b.regs (State.portKey p0 (O0A.IN_STATE 0))) (c14 : ∀ k ∈ eventRegs (portEvent p0 173 185), b.regs k) (hp3 : Within b p3) : WithinOut b (execAudioRateIdentified p0 p1 p2 p3) := by
  unfold execAudioRateIdentified
  refine onPort_within ?_ ?_
  · exact hp3
  · intro u1 hu2
    try beta_reduce
    extract_lets -merge -useContext -underBinder x3
    refine ite_elim (P := Within b) ?_ ?_
    · refine State.identify_within qfresh qevu qaudio c3 c4 c5 c6 c7 c8 c9 c10 c11 c12 c13 c14 ?_
      exact hu2
    · exact hu2

theorem execAudioInputLost_within {b : Bounds} {p0 p1 p2} (qaudio : b.parts .audio) (qevu : b.parts .evu) (c2 : ∀ k ∈ eventRegs (portEvent p0 162 178), b.regs k) (c3 : b.regs (State.flagsKey p0)) (c4 : ∀ k ∈ eventRegs 3606, b.regs k) (c5 : ∀ (w0 : ℕ), b.regs (O0A.FOLLOW_STATE w0)) (c6 : ∀ (w0 : ℕ), b.regs (O0A.FOLLOW_OFFSET w0)) (c7 : ∀ (w1 : Key), b.regs (State.portKey p0 w1)) (c8 : b.regs (State.stateKey p0)) (c9 : ∀ (w0 : ℕ), b.regs (O0A.GROUP_FAULTS w0)) (c10 : ∀ k ∈ eventRegs (portEvent p0 168 181), b.regs k) (c11 : ∀ k ∈ eventRegs (portEvent p0 161 177), b.regs k) (hp2 : Within b p2) : WithinOut b (execAudioInputLost p0 p1 p2) := by
  unfold execAudioInputLost
  refine onPort_within ?_ ?_
  · exact hp2
  · intro u1 hu2
    try beta_reduce
    extract_lets -merge -useContext -underBinder x3 x4 x5 x6
    have hx4 : Within b x4 := by
      unfold x4
      refine State.acquiring_within qaudio (c7 _) ?_
      exact hu2
    try clear_value x4
    have hx6 : Within b x6 := by
      unfold x6
      refine State.setN_within (c7 _) ?_
      refine State.setPort_within qaudio ?_
      exact hu2
    try clear_value x6
    refine ite_elim (P := Within b) ?_ ?_
    · exact hu2
    · refine ite_elim (P := Within b) ?_ ?_
      · refine ite_elim (P := Within b) ?_ ?_
        · exact hu2
        · refine ite_elim (P := Within b) ?_ ?_
          · refine State.raise_within qevu c2 ?_
            refine State.flag_within c3 ?_
            refine State.inputFault_within qevu qaudio c4 c5 c6 c7 c8 c9 c10 c3 ?_
            exact hx4
          · exact hx4
      · refine ite_elim (P := Within b) ?_ ?_
        · refine State.raise_within qevu c11 ?_
          refine State.flag_within c3 ?_
          refine State.inputFault_within qevu qaudio c4 c5 c6 c7 c8 c9 c10 c3 ?_
          exact hx6
        · exact hx6

theorem execAes3Subframe_within {b : Bounds} {p0 p1 p2} (qevu : b.parts .evu) (qaudio : b.parts .audio) (c2 : b.regs (O0A.IN_FLAGS p0)) (c3 : b.regs (O0A.PREAMBLE_ERR p0)) (c4 : ∀ k ∈ eventRegs (Sys2Proof.Machine.portEvent p0 164 179), b.regs k) (c5 : b.regs (State.flagsKey p0)) (c6 : b.regs (State.portKey p0 (Sys2Proof.Machine.O0A.PARITY_ERR 0))) (c7 : b.regs (State.portKey p0 (Sys2Proof.Machine.O0A.V_SAMPLES 0))) (c8 : ∀ k ∈ eventRegs 167, b.regs k) (c9 : b.regs (State.indexKey p0)) (hp2 : Within b p2) : WithinOut b (execAes3Subframe p0 p1 p2) := by
  unfold execAes3Subframe
  refine onPort_within ?_ ?_
  · exact hp2
  · intro u1 hu1
    try beta_reduce
    extract_lets -merge -useContext -underBinder x2 x3 x4 x5 x6 x7 x8 x9 x10 x11 x12
    have hx5 : Within b x5 := by
      unfold x5
      refine ite_elim (P := Within b) ?_ ?_
      · exact hu1
      · refine State.flag_within c2 ?_
        refine State.bump_within c3 ?_
        exact hu1
    try clear_value x5
    have hx7 : Within b x7 := by
      unfold x7
      refine State.setPort_within qaudio ?_
      exact hx5
    try clear_value x7
    have hx9 : Within2 b x9 := by
      unfold x9
      refine State.checkedSample_within qevu qaudio c4 c5 c6 c7 c8 ?_
      exact hx7
    try clear_value x9
    refine ite_elim (P := Within b) ?_ ?_
    · exact hu1
    · refine ite_elim (P := Within b) ?_ ?_
      · refine State.setPort_within qaudio ?_
        change Within2 b _
        exact hx9
      · refine ite_elim (P := Within b) ?_ ?_
        · refine State.setPort_within qaudio ?_
          refine State.frameIn_within qaudio c9 ?_
          change Within2 b _
          exact hx9
        · change Within2 b _
          exact hx9

theorem execCsBlock_within {b : Bounds} {p0 p1 p2} (qaudio : b.parts .audio) (qevu : b.parts .evu) (c2 : b.regs (O0A.IN_CS p0)) (c3 : ∀ k ∈ eventRegs 165, b.regs k) (c4 : b.regs (O0A.IN_FLAGS p0)) (c5 : b.regs (O0A.CS_CRC_ERR p0)) (c6 : ∀ k ∈ eventRegs 166, b.regs k) (hp2 : Within b p2) : WithinOut b (execCsBlock p0 p1 p2) := by
  unfold execCsBlock
  refine onPort_within ?_ ?_
  · exact hp2
  · intro u1 hu2
    try beta_reduce
    refine ite_elim (P := Within b) ?_ ?_
    · exact hu2
    · split
      · exact hu2
      · extract_lets -merge -useContext -underBinder x3 x4 x5 x6 x7 x8 x9 x10 x11
        have hx4 : Within b x4 := by
          unfold x4
          refine State.setPort_within qaudio ?_
          exact hu2
        try clear_value x4
        have hx6 : Within b x6 := by
          unfold x6
          refine State.setBytes_within c2 ?_
          exact hx4
        try clear_value x6
        have hx11 : Within b x11 := by
          unfold x11
          refine State.setPort_within qaudio ?_
          exact hx6
        try clear_value x11
        refine ite_elim (P := Within b) ?_ ?_
        · refine State.raiseLim_within qevu c3 ?_
          refine State.flag_within c4 ?_
          refine State.bump_within c5 ?_
          exact hx4
        · refine ite_elim (P := Within b) ?_ ?_
          · refine State.raise_within qevu c6 ?_
            refine State.flag_within c4 ?_
            exact hx11
          · exact hx11

theorem execMadiFrame_within {b : Bounds} {p0 p1 p2 p3} (qevu : b.parts .evu) (qaudio : b.parts .audio) (c2 : ∀ k ∈ eventRegs 180, b.regs k) (c3 : b.regs (O0B.IN_FLAGS p0)) (c4 : b.regs (O0B.CODE_ERR p0)) (c5 : ∀ k ∈ eventRegs (portEvent (8192 + p0) 164 179), b.regs k) (c6 : b.regs (State.flagsKey (8192 + p0))) (c7 : b.regs (State.portKey (8192 + p0) (O0A.PARITY_ERR 0))) (c8 : b.regs (State.portKey (8192 + p0) (O0A.V_SAMPLES 0))) (c9 : ∀ k ∈ eventRegs 167, b.regs k) (c10 : b.regs (State.indexKey (8192 + p0))) (hp3 : Within b p3) : WithinOut b (execMadiFrame p0 p1 p2 p3) := by
  unfold execMadiFrame
  refine onPort_within ?_ ?_
  · exact hp3
  · intro u1 hu2
    try beta_reduce
    extract_lets -merge -useContext -underBinder x3 x4 x5
    have hx4 : Within b x4 := by
      unfold x4
      refine ite_elim (P := Within b) ?_ ?_
      · exact hu2
      · refine State.raiseLim_within qevu c2 ?_
        refine State.flag_within c3 ?_
        refine State.bump_within c4 ?_
        exact hu2
    try clear_value x4
    have hx5 : Within2 b x5 := by
      unfold x5
      refine foldl_elim (P := Within2 b) ?_ ?_
      · refine within2_mk ?_
        exact hx4
      · intro u6 u7 hu8
        try beta_reduce
        extract_lets -merge -useContext -underBinder x9
        have hx9 : Within2 b x9 := by
          unfold x9
          refine State.checkedSample_within qevu qaudio c5 c6 c7 c8 c9 ?_
          change Within2 b _
          exact hu8
        try clear_value x9
        refine ite_elim (P := Within2 b) ?_ ?_
        · refine within2_mk ?_
          change Within2 b _
          exact hx9
        · refine within2_mk ?_
          change Within2 b _
          exact hu8
    try clear_value x5
    refine ite_elim (P := Within b) ?_ ?_
    · exact hu2
    · refine State.frameIn_within qaudio c10 ?_
      refine State.madiBlock_within qaudio ?_
      change Within2 b _
      exact hx5

theorem execSrcDecision_within {b : Bounds} {p0 p1 p2} (qevu : b.parts .evu) (qaudio : b.parts .audio) (c2 : b.regs (State.portKey p0 (Sys2Proof.Machine.O0A.IN_FREQ_OFFSET 0))) (c3 : b.regs (State.portKey p0 (Sys2Proof.Machine.O0A.SRC_ACTIVE 0))) (c4 : ∀ k ∈ eventRegs 172, b.regs k) (hp2 : Within b p2) : WithinOut b (execSrcDecision p0 p1 p2) := by
  unfold execSrcDecision
  refine onPort_within ?_ ?_
  · exact hp2
  · intro u1 hu1
    try beta_reduce
    extract_lets -merge -useContext -underBinder x2 x3 x4 x5
    have hx4 : Within b x4 := by
      unfold x4
      refine State.setZ_within c2 ?_
      refine State.setPort_within qaudio ?_
      exact hu1
    try clear_value x4
    have hx5 : Within b x5 := by
      unfold x5
      refine ite_elim (P := Within b) ?_ ?_
      · refine State.setB_within c3 ?_
        exact hx4
      · exact hx4
    try clear_value x5
    refine ite_elim (P := Within b) ?_ ?_
    · exact hu1
    · refine ite_elim (P := Within b) ?_ ?_
      · refine State.raise_within qevu c4 ?_
        exact hx5
      · exact hx5

theorem execPortUnderrun_within {b : Bounds} {p0 p1} (qevu : b.parts .evu) (qaudio : b.parts .audio) (c2 : ∀ w1, b.regs (State.portKey p0 w1)) (c3 : b.regs (State.stateKey p0)) (c4 : ∀ w0, b.regs (O0A.GROUP_FAULTS w0)) (c5 : ∀ k ∈ eventRegs (Sys2Proof.Machine.portEvent p0 168 181), b.regs k) (c6 : b.regs (State.flagsKey p0)) (hp1 : Within b p1) : WithinOut b (execPortUnderrun p0 p1) := by
  unfold execPortUnderrun
  refine onPort_within ?_ ?_
  · exact hp1
  · intro u1 hu1
    try beta_reduce
    refine ite_elim (P := Within b) ?_ ?_
    · refine State.underrun_within qevu qaudio c2 c3 c4 c5 c6 ?_
      exact hu1
    · exact hu1

theorem execPortOverrun_within {b : Bounds} {p0 p1} (qevu : b.parts .evu) (qaudio : b.parts .audio) (c2 : ∀ w1, b.regs (State.portKey p0 w1)) (c3 : b.regs (State.stateKey p0)) (c4 : ∀ w0, b.regs (O0A.GROUP_FAULTS w0)) (c5 : ∀ k ∈ eventRegs (Sys2Proof.Machine.portEvent p0 169 182), b.regs k) (c6 : b.regs (State.flagsKey p0)) (hp1 : Within b p1) : WithinOut b (execPortOverrun p0 p1) := by
  unfold execPortOverrun
  refine onPort_within ?_ ?_
  · exact hp1
  · intro u1 hu1
    try beta_reduce
    refine ite_elim (P := Within b) ?_ ?_
    · refine State.overrun_within qevu qaudio c2 c3 c4 c5 c6 ?_
      exact hu1
    · exact hu1

theorem execFadeComplete_within {b : Bounds} {p0 p1} (qaudio : b.parts .audio) (qevu : b.parts .evu) (c2 : b.regs (State.stateKey p0)) (c3 : ∀ k ∈ eventRegs 3602, b.regs k) (c4 : ∀ (w0 : ℕ), b.regs (O0A.GROUP_STATE w0)) (hp1 : Within b p1) : WithinOut b (execFadeComplete p0 p1) := by
  unfold execFadeComplete
  refine onPort_within ?_ ?_
  · exact hp1
  · intro u1 hu2
    try beta_reduce
    extract_lets -merge -useContext -underBinder x3 x4
    split
    · extract_lets -merge -useContext -underBinder x5
      have hx5 : Within b x5 := by
        unfold x5
        refine State.setN_within c2 ?_
        refine State.setPort_within qaudio ?_
        exact hu2
      try clear_value x5
      refine ite_elim (P := Within b) ?_ ?_
      · exact hu2
      · split
        · refine State.groupStopped_within qevu qaudio c3 (c4 _) ?_
          exact hx5
        · exact hx5
    · refine ite_elim (P := Within b) ?_ ?_
      · exact hu2
      · refine State.setN_within c2 ?_
        refine State.setPort_within qaudio ?_
        exact hu2
    · exact hu2

theorem execFifoRecentred_within {b : Bounds} {p0 p1} (c0 : b.regs (State.stateKey p0)) (hp1 : Within b p1) : WithinOut b (execFifoRecentred p0 p1) := by
  unfold execFifoRecentred
  refine onPort_within ?_ ?_
  · exact hp1
  · intro u1 hu1
    try beta_reduce
    refine ite_elim (P := Within b) ?_ ?_
    · refine State.setN_within c0 ?_
      exact hu1
    · exact hu1

theorem execResyncIndex_within {b : Bounds} {p0 p1} (qevu : b.parts .evu) (qaudio : b.parts .audio) (c2 : ∀ k ∈ eventRegs (Sys2Proof.Machine.portEvent p0 170 183), b.regs k) (c3 : b.regs (State.stateKey p0)) (hp1 : Within b p1) : WithinOut b (execResyncIndex p0 p1) := by
  unfold execResyncIndex
  refine onPort_within ?_ ?_
  · exact hp1
  · intro u1 hu1
    try beta_reduce
    extract_lets -merge -useContext -underBinder x2 x3
    refine ite_elim (P := Within b) ?_ ?_
    · refine State.raise_within qevu c2 ?_
      refine State.setN_within c3 ?_
      refine State.setPort_within qaudio ?_
      exact hu1
    · exact hu1

theorem execFollowLoopUpdate_within {b : Bounds} {p0 p1 p2} (qevu : b.parts .evu) (qaudio : b.parts .audio) (c2 : b.regs (O0A.FOLLOW_STATE (768 + p0))) (c3 : ∀ w0 w1, b.regs (State.portKey w0 w1)) (c4 : ∀ w0, b.regs (State.stateKey w0)) (c5 : ∀ w0, b.regs (O0A.GROUP_FAULTS w0)) (c6 : ∀ w0, ∀ k ∈ eventRegs w0, b.regs k) (c7 : ∀ w0, b.regs (State.flagsKey w0)) (c8 : b.regs (O0A.FOLLOW_ERROR (768 + p0))) (c9 : b.regs (O0A.FOLLOW_OFFSET (768 + p0))) (hp2 : Within b p2) : WithinOut b (execFollowLoopUpdate p0 p1 p2) := by
  unfold execFollowLoopUpdate
  refine live_within ?_ ?_
  · exact hp2
  · intro u1 hu1
    try beta_reduce
    extract_lets -merge -useContext -underBinder x2 x3 x4
    refine ite_elim (P := Within b) ?_ ?_
    · refine State.followStep_within qevu qaudio c2 c3 c4 c5 c6 c7 ?_
      refine State.setZ_within c8 ?_
      refine State.setZ_within c9 ?_
      refine State.setLoop_within qaudio ?_
      exact hu1
    · exact hu1

theorem execGroupStart_within {b : Bounds} {p0 p1 p2} (qevu : b.parts .evu) (qaudio : b.parts .audio) (c2 : ∀ k ∈ eventRegs 3600, b.regs k) (c3 : b.regs (O0A.GROUP_STATE (512 + p0))) (hp2 : Within b p2) : WithinOut b (execGroupStart p0 p1 p2) := by
  unfold execGroupStart
  refine live_within ?_ ?_
  · exact hp2
  · intro u1 hu1
    try beta_reduce
    refine ite_elim (P := Within b) ?_ ?_
    · change Within1 b _
      refine State.actGroupStart_within qevu qaudio c2 c3 ?_
      exact hu1
    · exact hu1

theorem execGroupStop_within {b : Bounds} {p0 p1 p2} (qaudio : b.parts .audio) (hp2 : Within b p2) : WithinOut b (execGroupStop p0 p1 p2) := by
  unfold execGroupStop
  refine live_within ?_ ?_
  · exact hp2
  · intro u1 hu1
    try beta_reduce
    refine ite_elim (P := Within b) ?_ ?_
    · change Within1 b _
      refine State.actGroupStop_within qaudio ?_
      exact hu1
    · exact hu1

theorem execGroupIndexZero_within {b : Bounds} {p0 p1} (qaudio : b.parts .audio) (qevu : b.parts .evu) (c2 : b.regs (O0A.GROUP_STATE (512 + p0))) (c3 : b.regs (O0A.GROUP_INDEX (512 + p0))) (c4 : b.regs (O0A.GROUP_START_TICK (512 + p0))) (c5 : ∀ (w0 : ℕ), b.regs (State.indexKey w0)) (c6 : ∀ (w0 : ℕ), b.regs (State.stateKey w0)) (c7 : ∀ k ∈ eventRegs 3601, b.regs k) (c8 : ∀ k ∈ eventRegs 3603, b.regs k) (hp1 : Within b p1) : WithinOut b (execGroupIndexZero p0 p1) := by
  unfold execGroupIndexZero
  refine live_within ?_ ?_
  · exact hp1
  · intro u1 hu2
    try beta_reduce
    extract_lets -merge -useContext -underBinder x3 x4
    split
    · exact hu2
    · extract_lets -merge -useContext -underBinder x5 x6 x7
      have hx5 : Within b x5 := by
        unfold x5
        refine State.setN_within c2 ?_
        refine State.setGrp_within qaudio ?_
        exact hu2
      try clear_value x5
      have hx6 : Within b x6 := by
        unfold x6
        refine State.setN_within c3 ?_
        refine State.setN_within c4 ?_
        exact hx5
      try clear_value x6
      have hx7 : Within b x7 := by
        unfold x7
        refine State.forEach_within ?_ ?_
        · exact hx6
        · intro u8 u9 hu10
          try beta_reduce
          refine State.when_within ?_ ?_
          · refine State.setN_within (c5 _) ?_
            exact hu10
          · intro u11 hu12
            try beta_reduce
            extract_lets -merge -useContext -underBinder x13
            refine State.setN_within (c6 _) ?_
            refine State.setPort_within qaudio ?_
            exact hu12
      try clear_value x7
      refine ite_elim (P := Within b) ?_ ?_
      · refine State.when_within ?_ ?_
        · refine State.raise_within qevu c7 ?_
          exact hx7
        · intro u14 hu15
          try beta_reduce
          refine State.raise_within qevu c8 ?_
          exact hu15
      · exact hu2

theorem execPortSampleDue_within {b : Bounds} {p0 p1} (qaudio : b.parts .audio) (qfresh : b.parts .fresh) (qsent : b.parts .sent) (c3 : b.regs (State.indexKey p0)) (hp1 : Within b p1) : WithinOut b (execPortSampleDue p0 p1) := by
  unfold execPortSampleDue
  refine onPort_within ?_ ?_
  · exact hp1
  · intro u1 hu2
    try beta_reduce
    refine ite_elim (P := Within b) ?_ ?_
    · exact hu2
    · refine ite_elim (P := Within b) ?_ ?_
      · refine State.sendFrame_within qaudio qfresh qsent c3 ?_
        refine State.setN_within c3 ?_
        exact hu2
      · refine State.sendFrame_within qaudio qfresh qsent c3 ?_
        exact hu2

theorem execRealign_within {b : Bounds} {p0 p1} (qclocks : b.parts .clocks) (qdests : b.parts .dests) (qaudio : b.parts .audio) (c3 : ∀ w0, b.regs (State.stateKey w0)) (c4 : ∀ w0, b.regs (O0A.GROUP_FAULTS w0)) (hp1 : Within b p1) : WithinOut b (execRealign p0 p1) := by
  unfold execRealign
  refine live_within ?_ ?_
  · exact hp1
  · intro u1 hu1
    try beta_reduce
    refine ite_elim (P := Within b) ?_ ?_
    · refine State.realign_within qclocks qdests qaudio c3 c4 ?_
      exact hu1
    · exact hu1

end Sys2Proof.Machine
end

