-- ==== Sys2Proof/Laws/WithinRoutes.lean ====
section
/-! SUPPORT. What each operation of Machine/Routes.lean may change at most (Laws/Within.lean). -/

set_option maxRecDepth 8000

namespace Sys2Proof.Machine

theorem State.protectHits_within {b : Bounds} {p0 p1} (qevu : b.parts .evu) (c1 : ∀ k ∈ eventRegs 134, b.regs k) (c2 : ∀ w0, b.regs (O08.ROUTE_FLAGS w0)) (hp0 : Within b p0) : Within b (State.protectHits p0 p1) := by
  unfold State.protectHits
  refine State.forEach_within ?_ ?_
  · exact hp0
  · intro u1 u2 hu1
    try beta_reduce
    refine State.raise_within qevu c1 ?_
    refine State.flag_within (c2 _) ?_
    exact hu1

theorem State.countPending_within {b : Bounds} {p0} (c0 : b.regs O08.SWITCHES_PENDING) (hp0 : Within b p0) : Within b (State.countPending p0) := by
  unfold State.countPending
  refine State.setN_within c0 ?_
  exact hp0

theorem State.fixedDelay_within {b : Bounds} {p0 p1} (qevu : b.parts .evu) (c1 : b.regs (O08.AUDIO_DELAY_APPLIED p1)) (c2 : ∀ k ∈ eventRegs 132, b.regs k) (c3 : b.regs (O08.ROUTE_FLAGS p1)) (c4 : ∀ k ∈ eventRegs 133, b.regs k) (hp0 : Within b p0) : Within b (State.fixedDelay p0 p1) := by
  unfold State.fixedDelay
  refine ite_elim (P := Within b) ?_ ?_
  · refine ite_elim (P := Within b) ?_ ?_
    · refine State.setN_within c1 ?_
      exact hp0
    · refine State.autoDelay_within qevu c2 c3 c4 c1 ?_
      exact hp0
  · refine State.setN_within c1 ?_
    exact hp0

theorem State.videoRoute_within {b : Bounds} {p0 p1 p2 p3} (qevu : b.parts .evu) (qdests : b.parts .dests) (qamx : b.parts .amx) (c3 : ∀ k ∈ eventRegs 129, b.regs k) (c4 : b.regs (O08.ROUTE_FLAGS p1.dest)) (c5 : b.regs (O08.SUPERSEDED p1.dest)) (c6 : b.regs (O08.PENDING_SOURCE p1.dest)) (c7 : b.regs (O08.VIDEO_ROUTE p1.dest)) (c8 : b.regs (O08.ROUTE_STATE p1.dest)) (c9 : ∀ k ∈ eventRegs 131, b.regs k) (c10 : ∀ (w0 w1 : ℕ), b.regs (O0C.TERM_GAIN w0 w1 0)) (c11 : ∀ (w2 w0 w1 : ℕ), b.regs (O0C.TERM_SRC w0 w1 w2)) (c12 : b.regs O08.SWITCHES_PENDING) (hp0 : Within b p0) : Within b (State.videoRoute p0 p1 p2 p3) := by
  unfold State.videoRoute
  extract_lets -merge -useContext -underBinder x1 x2 x3 x4 x5 x6 x7
  have hx3 : Within b x3 := by
    unfold x3
    refine ite_elim (P := Within b) ?_ ?_
    · refine State.raise_within qevu c3 ?_
      refine State.flag_within c4 ?_
      refine State.bump_within c5 ?_
      exact hp0
    · exact hp0
  try clear_value x3
  have hx4 : Within b x4 := by
    unfold x4
    refine State.setN_within c6 ?_
    refine State.setBytes_within c7 ?_
    exact hx3
  try clear_value x4
  have hx6 : Within b x6 := by
    unfold x6
    refine State.setN_within c8 ?_
    refine State.setDest_within qdests ?_
    exact hx4
  try clear_value x6
  have hx7 : Within b x7 := by
    unfold x7
    refine ite_elim (P := Within b) ?_ ?_
    · refine State.followAudio_within qevu qamx c9 c4 c10 c11 ?_
      exact hx6
    · exact hx6
  try clear_value x7
  refine State.countPending_within c12 ?_
  exact hx7

theorem State.ancRoute_within {b : Bounds} {p0 p1} (qdests : b.parts .dests) (c1 : b.regs (O08.ANC_ROUTE p1.dest)) (hp0 : Within b p0) : Within b (State.ancRoute p0 p1) := by
  unfold State.ancRoute
  extract_lets -merge -useContext -underBinder x1 x2
  refine State.setDest_within qdests ?_
  refine State.setBytes_within c1 ?_
  exact hp0

theorem State.routeApplied_within {b : Bounds} {p0 p1 p2} (qevu : b.parts .evu) (qdests : b.parts .dests) (qamx : b.parts .amx) (c3 : ∀ k ∈ eventRegs 129, b.regs k) (c4 : b.regs (O08.ROUTE_FLAGS p1.dest)) (c5 : b.regs (O08.SUPERSEDED p1.dest)) (c6 : b.regs (O08.PENDING_SOURCE p1.dest)) (c7 : b.regs (O08.VIDEO_ROUTE p1.dest)) (c8 : b.regs (O08.ROUTE_STATE p1.dest)) (c9 : ∀ k ∈ eventRegs 131, b.regs k) (c10 : ∀ (w0 w1 : ℕ), b.regs (O0C.TERM_GAIN w0 w1 0)) (c11 : ∀ (w2 w0 w1 : ℕ), b.regs (O0C.TERM_SRC w0 w1 w2)) (c12 : b.regs O08.SWITCHES_PENDING) (c13 : b.regs (O08.ANC_ROUTE p1.dest)) (hp0 : Within b p0) : Within b (State.routeApplied p0 p1 p2) := by
  unfold State.routeApplied
  refine ite_elim (P := Within b) ?_ ?_
  · exact hp0
  · split
    · refine State.videoRoute_within qevu qdests qamx c3 c4 c5 c6 c7 c8 c9 c10 c11 c12 ?_
      exact hp0
    · refine State.audioRoute_within qamx (c10 _ _) (by intros; first | exact c11 _ | exact c11 _ _ | exact c11 _ _ _ | (apply c11; assumption)) ?_
      exact hp0
    · refine State.ancRoute_within qdests c13 ?_
      exact hp0

theorem State.routesApplied_within {b : Bounds} {p0 p1} (qevu : b.parts .evu) (c1 : b.regs (O08.AUDIO_DELAY_APPLIED (Sys2Proof.Machine.instOf p1))) (c2 : ∀ k ∈ eventRegs 132, b.regs k) (c3 : b.regs (O08.ROUTE_FLAGS (Sys2Proof.Machine.instOf p1))) (c4 : ∀ k ∈ eventRegs 133, b.regs k) (hp0 : Within b p0) : Within b (State.routesApplied p0 p1) := by
  unfold State.routesApplied
  refine ite_elim (P := Within b) ?_ ?_
  · refine State.fixedDelay_within qevu c1 c2 c3 c4 ?_
    exact hp0
  · exact hp0

theorem State.releaseStreams_within {b : Bounds} {p0 p1} (qchain : b.parts .chain) (qfabric : b.parts .fabric) (hp0 : Within b p0) : Within b (State.releaseStreams p0 p1) := by
  unfold State.releaseStreams
  extract_lets -merge -useContext -underBinder x1 x2 x3 x4 x5 x6 x7
  have hx6 : Within b x6 := by
    unfold x6
    refine Within.f_chain (s := p0) qchain ?_
    exact hp0
  try clear_value x6
  refine State.forEach_within ?_ ?_
  · exact hx6
  · intro u8 u9 hu8
    try beta_reduce
    refine State.onDesc_within qfabric ?_
    exact hu8

theorem State.startStreams_within {b : Bounds} {p0 p1} (qfabric : b.parts .fabric) (hp0 : Within b p0) : Within b (State.startStreams p0 p1) := by
  unfold State.startStreams
  refine State.forEach_within ?_ ?_
  · exact hp0
  · intro u1 u2 hu1
    try beta_reduce
    refine State.onDesc_within qfabric ?_
    exact hu1

theorem State.switchRoute_within {b : Bounds} {p0 p1} (qdests : b.parts .dests) (qfabric : b.parts .fabric) (qchain : b.parts .chain) (qevu : b.parts .evu) (qamx : b.parts .amx) (c5 : b.regs (O08.SWITCH_COUNT p1)) (c6 : b.regs (O08.LAST_SWITCH p1)) (c7 : b.regs (O08.PENDING_SOURCE p1)) (c8 : b.regs (O08.CURRENT_SOURCE p1)) (c9 : b.regs (O08.ROUTE_FLAGS p1)) (c10 : b.regs (O08.ROUTE_STATE p1)) (c11 : ∀ (w0 : ℕ), ∀ k ∈ eventRegs w0, b.regs k) (c12 : b.regs (O07.OUT_FLAGS p1)) (c13 : b.regs (O07.SYNC_DELAY p1)) (c14 : b.regs (O07.FRAMES_SUBST p1)) (c15 : b.regs (O07.OUT_STATE p1)) (c16 : b.regs (O08.AUDIO_DELAY_APPLIED p1)) (c17 : b.regs (O08.SOURCE_SYNC p1)) (c18 : b.regs O08.SWITCHES_PENDING) (hp0 : Within b p0) : Within b (State.switchRoute p0 p1) := by
  unfold State.switchRoute
  extract_lets -merge -useContext -underBinder x1 x2 x3 x4 x5 x6 x7 x8 x9 x10 x11 x12 x13 x14
  have hx2 : Within b x2 := by
    unfold x2
    refine ite_elim (P := Within b) ?_ ?_
    · refine State.setDest_within qdests ?_
      exact hp0
    · exact hp0
  try clear_value x2
  have hx7 : Within b x7 := by
    unfold x7
    refine State.setDest_within qdests ?_
    exact hx2
  try clear_value x7
  have hx8 : Within b x8 := by
    unfold x8
    refine State.bump_within c5 ?_
    refine State.setN_within c6 ?_
    refine State.clearObj_within c7 ?_
    refine State.setN_within c8 ?_
    exact hx7
  try clear_value x8
  have hx9 : Within b x9 := by
    unfold x9
    refine State.flag_within c9 ?_
    refine State.setN_within c10 ?_
    exact hx8
  try clear_value x9
  have hx10 : Within b x10 := by
    unfold x10
    refine State.startStreams_within qfabric ?_
    refine State.releaseStreams_within qchain qfabric ?_
    exact hx9
  try clear_value x10
  have hx11 : Within b x11 := by
    unfold x11
    refine State.raise_within qevu (c11 _) ?_
    exact hx10
  try clear_value x11
  have hx13 : Within b x13 := by
    unfold x13
    refine ite_elim (P := Within b) ?_ ?_
    · refine State.lossFrame_within qevu qdests c11 c10 c12 c13 c14 c15 ?_
      exact hx11
    · exact hx11
  try clear_value x13
  have hx14 : Within b x14 := by
    unfold x14
    refine State.autoDelay_within qevu (c11 _) c9 (c11 _) c16 ?_
    refine State.setN_within c17 ?_
    exact hx13
  try clear_value x14
  refine ite_elim (P := Within b) ?_ ?_
  · refine State.startStreams_within qfabric ?_
    refine State.releaseStreams_within qchain qfabric ?_
    refine State.setDest_within qdests ?_
    exact hx2
  · refine State.countPending_within c18 ?_
    refine ite_elim (P := Within b) ?_ ?_
    · refine State.followDue_within qamx ?_
      exact hx14
    · exact hx14

theorem State.embedFrame_within {b : Bounds} {p0 p1 p2} (qdests : b.parts .dests) (c1 : b.regs (O0C.EMBED_STATE (3328 + p1))) (c2 : b.regs (O0C.AUDIO_FRAME (3328 + p1))) (hp0 : Within b p0) : Within b (State.embedFrame p0 p1 p2) := by
  unfold State.embedFrame
  extract_lets -merge -useContext -underBinder x1 x2 x3 x4 x5 x6 x7 x8
  have hx7 : Within b x7 := by
    unfold x7
    refine State.setN_within c1 ?_
    refine State.setN_within c2 ?_
    exact hp0
  try clear_value x7
  refine ite_elim (P := Within b) ?_ ?_
  · exact hp0
  · refine State.setDest_within qdests ?_
    exact hx7

theorem State.insertFrame_within {b : Bounds} {p0 p1} (qsent : b.parts .sent) (hp0 : Within b p0) : Within b (State.insertFrame p0 p1) := by
  unfold State.insertFrame
  extract_lets -merge -useContext -underBinder x1 x2 x3 x4 x5 x6
  refine State.forEach_within ?_ ?_
  · exact hp0
  · intro u7 u8 hu9
    try beta_reduce
    refine State.emit_within qsent ?_
    exact hu9

theorem State.nextPicture_within {b : Bounds} {p0 p1 p2} (qevu : b.parts .evu) (qdests : b.parts .dests) (c2 : ∀ w0, ∀ k ∈ eventRegs w0, b.regs k) (c3 : b.regs (O08.ROUTE_STATE p1)) (c4 : b.regs (O07.OUT_FLAGS p1)) (c5 : b.regs (O07.SYNC_DELAY p1)) (c6 : b.regs (O07.FRAMES_SUBST p1)) (c7 : b.regs (O07.OUT_STATE p1)) (c8 : b.regs (O08.PATH_DELAY p1)) (c9 : b.regs (O08.ROUTE_FLAGS p1)) (c10 : b.regs (O08.AUDIO_DELAY_APPLIED p1)) (c11 : b.regs (O07.FRAMES_REPEATED p1)) (c12 : b.regs (O07.FRAMES_DROPPED p1)) (c13 : b.regs (O08.SOURCE_SYNC p1)) (hp0 : Within b p0) : Within b (State.nextPicture p0 p1 p2) := by
  unfold State.nextPicture
  extract_lets -merge -useContext -underBinder x1
  refine ite_elim (P := Within b) ?_ ?_
  · refine State.lossFrame_within qevu qdests c2 c3 c4 c5 c6 c7 ?_
    exact hp0
  · refine State.pictureFrame_within qevu qdests c5 c7 c8 c2 c3 c4 c6 c9 c10 c11 c12 c13 ?_
    exact hp0

theorem State.frameStart_within {b : Bounds} {p0 p1 p2} (qdests : b.parts .dests) (qevu : b.parts .evu) (qconv : b.parts .conv) (qfabric : b.parts .fabric) (qchain : b.parts .chain) (qamx : b.parts .amx) (qsent : b.parts .sent) (c7 : b.regs (O07.FRAMES_SUBST p1)) (c8 : b.regs (O07.OUT_STATE p1)) (c9 : b.regs (O07.SQUELCH_CAUSE p1)) (c10 : ∀ (w0 : ℕ), b.regs (O11.TX_STATE w0)) (c11 : b.regs (O09.PATH_FLAGS p1)) (c12 : b.regs (O09.CADENCE_STATE p1)) (c13 : b.regs (O07.OUT_FLAGS p1)) (c14 : b.regs (O07.FRAMES_OUT p1)) (c15 : b.regs (O08.SWITCH_COUNT p1)) (c16 : b.regs (O08.LAST_SWITCH p1)) (c17 : b.regs (O08.PENDING_SOURCE p1)) (c18 : b.regs (O08.CURRENT_SOURCE p1)) (c19 : b.regs (O08.ROUTE_FLAGS p1)) (c20 : b.regs (O08.ROUTE_STATE p1)) (c21 : ∀ (w0 : ℕ), ∀ k ∈ eventRegs w0, b.regs k) (c22 : b.regs (O07.SYNC_DELAY p1)) (c23 : b.regs (O08.AUDIO_DELAY_APPLIED p1)) (c24 : b.regs (O08.SOURCE_SYNC p1)) (c25 : b.regs O08.SWITCHES_PENDING) (c26 : b.regs (O08.PATH_DELAY p1)) (c27 : b.regs (O07.FRAMES_REPEATED p1)) (c28 : b.regs (O07.FRAMES_DROPPED p1)) (c29 : b.regs (O0C.EMBED_STATE (3328 + p1))) (c30 : b.regs (O0C.AUDIO_FRAME (3328 + p1))) (hp0 : Within b p0) : Within b (State.frameStart p0 p1 p2) := by
  unfold State.frameStart
  extract_lets -merge -useContext -underBinder x1 x2 x3 x4 x5 x6 x7 x8 x9 x10 x11 x12 x13 x14
  have hx4 : Within b x4 := by
    unfold x4
    refine State.countSubst_within qdests c7 ?_
    refine State.leaveIdle_within qevu (c21 _) c8 c9 c10 ?_
    exact hp0
  try clear_value x4
  have hx5 : Within b x5 := by
    unfold x5
    refine State.pathFrame_within qconv qfabric qevu (c21 _) c11 c12 (c21 _) ?_
    refine State.stepTiming_within qevu qdests (c21 _) c13 ?_
    exact hx4
  try clear_value x5
  have hx7 : Within b x7 := by
    unfold x7
    refine ite_elim (P := Within b) ?_ ?_
    · refine State.bump_within c14 ?_
      exact hx5
    · exact hx5
  try clear_value x7
  have hx12 : Within b x12 := by
    unfold x12
    refine ite_elim (P := Within b) ?_ ?_
    · refine State.setDest_within qdests ?_
      exact hx7
    · exact hx7
  try clear_value x12
  have hx13 : Within b x13 := by
    unfold x13
    refine ite_elim (P := Within b) ?_ ?_
    · refine State.switchRoute_within qdests qfabric qchain qevu qamx c15 c16 c17 c18 c19 c20 c21 c13 c22 c7 c8 c23 c24 c25 ?_
      exact hx12
    · exact hx12
  try clear_value x13
  have hx14 : Within b x14 := by
    unfold x14
    refine State.beginStreams_within qfabric ?_
    refine ite_elim (P := Within b) ?_ ?_
    · refine State.setN_within c8 ?_
      exact hx13
    · refine State.nextPicture_within qevu qdests c21 c20 c13 c22 c7 c8 c26 c19 c23 c27 c28 c24 ?_
      exact hx13
  try clear_value x14
  refine ite_elim (P := Within b) ?_ ?_
  · refine State.setDest_within qdests ?_
    exact hx5
  · refine State.embedFrame_within qdests c29 c30 ?_
    refine ite_elim (P := Within b) ?_ ?_
    · refine State.insertFrame_within qsent ?_
      exact hx14
    · exact hx14

theorem execOutputFrameStart_within {b : Bounds} {p0 p1 p2} (qdests : b.parts .dests) (qevu : b.parts .evu) (qconv : b.parts .conv) (qfabric : b.parts .fabric) (qchain : b.parts .chain) (qamx : b.parts .amx) (qsent : b.parts .sent) (c7 : b.regs (O07.FRAMES_SUBST p0)) (c8 : b.regs (O07.OUT_STATE p0)) (c9 : b.regs (O07.SQUELCH_CAUSE p0)) (c10 : ∀ (w0 : ℕ), b.regs (O11.TX_STATE w0)) (c11 : b.regs (O09.PATH_FLAGS p0)) (c12 : b.regs (O09.CADENCE_STATE p0)) (c13 : b.regs (O07.OUT_FLAGS p0)) (c14 : b.regs (O07.FRAMES_OUT p0)) (c15 : b.regs (O08.SWITCH_COUNT p0)) (c16 : b.regs (O08.LAST_SWITCH p0)) (c17 : b.regs (O08.PENDING_SOURCE p0)) (c18 : b.regs (O08.CURRENT_SOURCE p0)) (c19 : b.regs (O08.ROUTE_FLAGS p0)) (c20 : b.regs (O08.ROUTE_STATE p0)) (c21 : ∀ (w0 : ℕ), ∀ k ∈ eventRegs w0, b.regs k) (c22 : b.regs (O07.SYNC_DELAY p0)) (c23 : b.regs (O08.AUDIO_DELAY_APPLIED p0)) (c24 : b.regs (O08.SOURCE_SYNC p0)) (c25 : b.regs O08.SWITCHES_PENDING) (c26 : b.regs (O08.PATH_DELAY p0)) (c27 : b.regs (O07.FRAMES_REPEATED p0)) (c28 : b.regs (O07.FRAMES_DROPPED p0)) (c29 : b.regs (O0C.EMBED_STATE (3328 + p0))) (c30 : b.regs (O0C.AUDIO_FRAME (3328 + p0))) (hp2 : Within b p2) : WithinOut b (execOutputFrameStart p0 p1 p2) := by
  unfold execOutputFrameStart
  refine onInst_within ?_ ?_
  · exact hp2
  · intro u1 hu2
    try beta_reduce
    refine ite_elim (P := Within b) ?_ ?_
    · exact hu2
    · refine ite_elim (P := Within b) ?_ ?_
      · refine State.frameStart_within qdests qevu qconv qfabric qchain qamx qsent c7 c8 c9 c10 c11 c12 c13 c14 c15 c16 c17 c18 c19 c20 c21 c22 c23 c24 c25 c26 c27 c28 c29 c30 ?_
        refine State.restartStreams_within qfabric ?_
        exact hu2
      · refine ite_elim (P := Within b) ?_ ?_
        · refine State.embedFrame_within qdests c29 c30 ?_
          refine State.insertFrame_within qsent ?_
          refine State.bump_within c14 ?_
          exact hu2
        · exact hu2

theorem execSwitchingLine_within {b : Bounds} {p0 p1} (qdests : b.parts .dests) (qfabric : b.parts .fabric) (qchain : b.parts .chain) (qevu : b.parts .evu) (qamx : b.parts .amx) (c5 : b.regs (O08.SWITCH_COUNT p0)) (c6 : b.regs (O08.LAST_SWITCH p0)) (c7 : b.regs (O08.PENDING_SOURCE p0)) (c8 : b.regs (O08.CURRENT_SOURCE p0)) (c9 : b.regs (O08.ROUTE_FLAGS p0)) (c10 : b.regs (O08.ROUTE_STATE p0)) (c11 : ∀ (w0 : ℕ), ∀ k ∈ eventRegs w0, b.regs k) (c12 : b.regs (O07.OUT_FLAGS p0)) (c13 : b.regs (O07.SYNC_DELAY p0)) (c14 : b.regs (O07.FRAMES_SUBST p0)) (c15 : b.regs (O07.OUT_STATE p0)) (c16 : b.regs (O08.AUDIO_DELAY_APPLIED p0)) (c17 : b.regs (O08.SOURCE_SYNC p0)) (c18 : b.regs O08.SWITCHES_PENDING) (hp1 : Within b p1) : WithinOut b (execSwitchingLine p0 p1) := by
  unfold execSwitchingLine
  refine onInst_within ?_ ?_
  · exact hp1
  · intro u1 hu2
    try beta_reduce
    refine ite_elim (P := Within b) ?_ ?_
    · refine State.switchRoute_within qdests qfabric qchain qevu qamx c5 c6 c7 c8 c9 c10 c11 c12 c13 c14 c15 c16 c17 c18 ?_
      exact hu2
    · exact hu2

theorem execProtect_within {b : Bounds} {p0 p1 p2} (c0 : b.regs (O08.PROTECT p0)) (hp2 : Within b p2) : WithinOut b (execProtect p0 p1 p2) := by
  unfold execProtect
  refine onInst_within ?_ ?_
  · exact hp2
  · intro u1 hu1
    try beta_reduce
    refine ite_elim (P := Within b) ?_ ?_
    · refine State.setB_within c0 ?_
      exact hu1
    · exact hu1

end Sys2Proof.Machine
end

