-- ==== Sys2Proof/Laws/WithinBridge.lean ====
section
/-! SUPPORT. What each operation of Machine/Bridge.lean may change at most (Laws/Within.lean). -/

set_option maxRecDepth 8000

namespace Sys2Proof.Machine

theorem State.onNet_within {b : Bounds} {p0 p1} (qnet : b.parts .net) (hp0 : Within b p0) : Within b (State.onNet p0 p1) := by
  unfold State.onNet
  refine Within.f_net (s := p0) qnet ?_
  exact hp0

theorem State.cbsAdvance_within {b : Bounds} {p0 p1 p2} (qnet : b.parts .net) (c1 : b.regs (O10.CBS_CREDIT (2048 + p1))) (hp0 : Within b p0) : Within b (State.cbsAdvance p0 p1 p2) := by
  unfold State.cbsAdvance
  extract_lets -merge -useContext -underBinder x1 x2
  refine ite_elim (P := Within b) ?_ ?_
  · exact hp0
  · refine State.setBytes_within c1 ?_
    refine State.onNet_within qnet ?_
    exact hp0

theorem State.enqueue_within {b : Bounds} {p0 p1 p2 p3} (qnet : b.parts .net) (c1 : b.regs (O10.CBS_CREDIT (2048 + p1))) (hp0 : Within b p0) : Within b (State.enqueue p0 p1 p2 p3) := by
  unfold State.enqueue
  extract_lets -merge -useContext -underBinder x1 x2
  have hx2 : Within b x2 := by
    unfold x2
    refine ite_elim (P := Within b) ?_ ?_
    · refine State.cbsAdvance_within qnet c1 ?_
      exact hp0
    · exact hp0
  try clear_value x2
  refine State.onNet_within qnet ?_
  exact hx2

theorem State.police_within {b : Bounds} {p0 p1 p2 p3} (qevu : b.parts .evu) (qnet : b.parts .net) (c2 : b.regs (O10.SF_FRAMES p1)) (c3 : ∀ k ∈ eventRegs 258, b.regs k) (c4 : b.regs (O10.SF_FLAGS p1)) (c5 : b.regs (O10.SDU_DROPS p1)) (c6 : ∀ k ∈ eventRegs 257, b.regs k) (c7 : b.regs (O10.POL_DROPS p1)) (hp0 : Within b p0) : Within2 b (State.police p0 p1 p2 p3) := by
  unfold State.police
  extract_lets -merge -useContext -underBinder x1 x2 x3 x4
  have hx1 : Within b x1 := by
    unfold x1
    refine State.bump_within c2 ?_
    exact hp0
  try clear_value x1
  have hx4 : ∀ a0, Within b (x4 a0) := by
    unfold x4
    intro u5
    try beta_reduce
    refine State.onNet_within qnet ?_
    exact hx1
  try clear_value x4
  refine ite_elim (P := Within2 b) ?_ ?_
  · refine within2_mk ?_
    refine State.raiseLim_within qevu c3 ?_
    refine State.flag_within c4 ?_
    refine State.bump_within c5 ?_
    exact hx1
  · refine ite_elim (P := Within2 b) ?_ ?_
    · refine within2_mk ?_
      exact hx1
    · refine ite_elim (P := Within2 b) ?_ ?_
      · refine within2_mk ?_
        refine hx4 _
      · refine within2_mk ?_
        refine State.raiseLim_within qevu c6 ?_
        refine State.flag_within c4 ?_
        refine State.bump_within c7 ?_
        refine hx4 _

theorem State.shapeDrain_within {b : Bounds} {p0 p1 p2} (qnet : b.parts .net) (c1 : ∀ w0, b.regs (O10.CBS_CREDIT w0)) (hp1 : Within b p1) : Within1 b (State.shapeDrain p0 p1 p2) := by
  induction p0 generalizing p1 p2 with
  | nil => exact hp1
  | cons f l ih =>
    unfold State.shapeDrain
    split
    · exact ih (State.enqueue_within qnet (c1 _) hp1)
    · exact hp1

theorem State.shapeReport_within {b : Bounds} {p0 p1 p2} (c0 : b.regs (O10.SH_ELIGIBLE p1)) (c1 : b.regs (O10.SH_QUEUED p1)) (c2 : b.regs (O10.SH_LEVEL p1)) (hp0 : Within b p0) : Within b (State.shapeReport p0 p1 p2) := by
  unfold State.shapeReport
  refine State.setN_within c0 ?_
  refine State.setN_within c1 ?_
  refine State.setZ_within c2 ?_
  exact hp0

theorem State.shapeRun_within {b : Bounds} {p0 p1 p2} (qnet : b.parts .net) (c1 : ∀ (w0 : ℕ), b.regs (O10.CBS_CREDIT w0)) (c2 : b.regs (O10.SH_ELIGIBLE p1)) (c3 : b.regs (O10.SH_QUEUED p1)) (c4 : b.regs (O10.SH_LEVEL p1)) (hp0 : Within b p0) : Within b (State.shapeRun p0 p1 p2) := by
  unfold State.shapeRun
  split
  · exact hp0
  · extract_lets -merge -useContext -underBinder x1 x2
    have hx2 : Within1 b x2 := by
      unfold x2
      refine State.shapeDrain_within qnet c1 ?_
      exact hp0
    try clear_value x2
    refine State.shapeReport_within c2 c3 c4 ?_
    refine State.onNet_within qnet ?_
    change Within1 b _
    exact hx2

theorem State.drainRun_within {b : Bounds} {p0 p1 p2} (qnet : b.parts .net) (c1 : ∀ (w0 : ℕ), b.regs (O10.CBS_CREDIT w0)) (hp0 : Within b p0) : Within b (State.drainRun p0 p1 p2) := by
  unfold State.drainRun
  split
  · exact hp0
  · extract_lets -merge -useContext -underBinder x1 x2
    have hx2 : Within1 b x2 := by
      unfold x2
      refine State.shapeDrain_within qnet c1 ?_
      exact hp0
    try clear_value x2
    refine State.onNet_within qnet ?_
    change Within1 b _
    exact hx2

theorem State.shapeIn_within {b : Bounds} {p0 p1 p2 p3} (qnet : b.parts .net) (qevu : b.parts .evu) (c2 : ∀ k ∈ eventRegs 256, b.regs k) (c3 : b.regs (O10.SF_FLAGS p1)) (c4 : b.regs (O10.SH_DROPS p1)) (c5 : ∀ (w0 : ℕ), b.regs (O10.CBS_CREDIT w0)) (c6 : b.regs (O10.SH_ELIGIBLE p1)) (c7 : b.regs (O10.SH_QUEUED p1)) (c8 : b.regs (O10.SH_LEVEL p1)) (hp0 : Within b p0) : Within b (State.shapeIn p0 p1 p2 p3) := by
  unfold State.shapeIn
  extract_lets -merge -useContext -underBinder x1 x2 x3
  have hx3 : Within b x3 := by
    unfold x3
    refine State.onNet_within qnet ?_
    exact hp0
  try clear_value x3
  refine ite_elim (P := Within b) ?_ ?_
  · refine State.raiseLim_within qevu c2 ?_
    refine State.flag_within c3 ?_
    refine State.bump_within c4 ?_
    exact hp0
  · refine ite_elim (P := Within b) ?_ ?_
    · refine State.shapeRun_within qnet c5 c6 c7 c8 ?_
      exact hx3
    · refine State.shapeReport_within c6 c7 c8 ?_
      exact hx3

theorem State.towards_within {b : Bounds} {p0 p1 p2 p3 p4} (qnet : b.parts .net) (qevu : b.parts .evu) (c2 : ∀ k ∈ eventRegs 256, b.regs k) (c3 : ∀ (w0 : ℕ), b.regs (O10.SF_FLAGS w0)) (c4 : ∀ (w0 : ℕ), b.regs (O10.SH_DROPS w0)) (c5 : ∀ (w0 : ℕ), b.regs (O10.CBS_CREDIT w0)) (c6 : ∀ (w0 : ℕ), b.regs (O10.SH_ELIGIBLE w0)) (c7 : ∀ (w0 : ℕ), b.regs (O10.SH_QUEUED w0)) (c8 : ∀ (w0 : ℕ), b.regs (O10.SH_LEVEL w0)) (hp0 : Within b p0) : Within b (State.towards p0 p1 p2 p3 p4) := by
  unfold State.towards
  split
  · refine ite_elim (P := Within b) ?_ ?_
    · refine State.shapeIn_within qnet qevu c2 (c3 _) (c4 _) c5 (c6 _) (c7 _) (c8 _) ?_
      exact hp0
    · refine State.enqueue_within qnet (c5 _) ?_
      exact hp0
  · refine State.enqueue_within qnet (c5 _) ?_
    exact hp0

theorem State.learn_within {b : Bounds} {p0 p1 p2 p3} (qevu : b.parts .evu) (qnet : b.parts .net) (c2 : ∀ k ∈ eventRegs 243, b.regs k) (c3 : b.regs O0F.FDB_FULL) (hp0 : Within b p0) : Within b (State.learn p0 p1 p2 p3) := by
  unfold State.learn
  extract_lets -merge -useContext -underBinder x1
  refine ite_elim (P := Within b) ?_ ?_
  · exact hp0
  · split
    · refine ite_elim (P := Within b) ?_ ?_
      · exact hp0
      · refine State.onNet_within qnet ?_
        exact hp0
    · refine ite_elim (P := Within b) ?_ ?_
      · refine State.raiseLim_within qevu c2 ?_
        refine State.bump_within c3 ?_
        exact hp0
      · refine State.onNet_within qnet ?_
        exact hp0

theorem State.dropIn_within {b : Bounds} {p0 p1} (c0 : b.regs (O0F.DROPS p1)) (hp0 : Within b p0) : Within b (State.dropIn p0 p1) := by
  unfold State.dropIn
  refine State.bump_within c0 ?_
  exact hp0

theorem State.bufferDrop_within {b : Bounds} {p0 p1} (qevu : b.parts .evu) (c1 : ∀ k ∈ eventRegs 245, b.regs k) (c2 : b.regs (O0F.PORT_FLAGS p1)) (c3 : b.regs (O0F.DROPS p1)) (hp0 : Within b p0) : Within b (State.bufferDrop p0 p1) := by
  unfold State.bufferDrop
  refine State.raiseLim_within qevu c1 ?_
  refine State.flag_within c2 ?_
  refine State.dropIn_within c3 ?_
  exact hp0

theorem State.forward_within {b : Bounds} {p0 p1 p2 p3 p4 p5} (qevu : b.parts .evu) (qnet : b.parts .net) (c2 : ∀ (w0 : ℕ), b.regs (O0F.FRAMES_IO w0)) (c3 : ∀ k ∈ eventRegs 245, b.regs k) (c4 : b.regs (O0F.PORT_FLAGS p1)) (c5 : b.regs (O0F.DROPS p1)) (c6 : ∀ k ∈ eventRegs 256, b.regs k) (c7 : ∀ (w0 : ℕ), b.regs (O10.SF_FLAGS w0)) (c8 : ∀ (w0 : ℕ), b.regs (O10.SH_DROPS w0)) (c9 : ∀ (w0 : ℕ), b.regs (O10.CBS_CREDIT w0)) (c10 : ∀ (w0 : ℕ), b.regs (O10.SH_ELIGIBLE w0)) (c11 : ∀ (w0 : ℕ), b.regs (O10.SH_QUEUED w0)) (c12 : ∀ (w0 : ℕ), b.regs (O10.SH_LEVEL w0)) (hp0 : Within b p0) : Within b (State.forward p0 p1 p2 p3 p4 p5) := by
  unfold State.forward
  refine State.forEach_within ?_ ?_
  · exact hp0
  · intro u1 u2 hu3
    try beta_reduce
    refine ite_elim (P := Within b) ?_ ?_
    · refine State.bumpPair_within (c2 _) ?_
      exact hu3
    · refine ite_elim (P := Within b) ?_ ?_
      · refine State.bufferDrop_within qevu c3 c4 c5 ?_
        exact hu3
      · refine State.towards_within qnet qevu c6 c7 c8 c9 c10 c11 c12 ?_
        exact hu3

theorem State.trapFrame_within {b : Bounds} {p0 p1 p2} (qevu : b.parts .evu) (qnet : b.parts .net) (c2 : b.regs (O0F.DROPS p1)) (c3 : ∀ k ∈ eventRegs 244, b.regs k) (hp0 : Within b p0) : Within b (State.trapFrame p0 p1 p2) := by
  unfold State.trapFrame
  refine ite_elim (P := Within b) ?_ ?_
  · refine State.dropIn_within c2 ?_
    exact hp0
  · refine ite_elim (P := Within b) ?_ ?_
    · refine State.raise_within qevu c3 ?_
      refine State.dropIn_within c2 ?_
      exact hp0
    · refine State.onNet_within qnet ?_
      exact hp0

theorem State.terminate_within {b : Bounds} {p0 p1 p2 p3 p4 p5} (qnet : b.parts .net) (c1 : b.regs (O10.CBS_CREDIT (2048 + p1))) (hp0 : Within b p0) : WithinS b (State.terminate p0 p1 p2 p3 p4 p5) := by
  unfold State.terminate
  extract_lets -merge -useContext -underBinder x1 x2
  refine ite_elim (P := WithinS b) ?_ ?_
  · split
    · exact optionNone
    · extract_lets -merge -useContext -underBinder x3 x4
      refine ite_elim (P := WithinS b) ?_ ?_
      · refine optionSome ?_
        refine State.enqueue_within qnet c1 ?_
        exact hp0
      · refine optionSome ?_
        exact hp0
  · refine ite_elim (P := WithinS b) ?_ ?_
    · split
      · exact optionNone
      · extract_lets -merge -useContext -underBinder x5
        refine ite_elim (P := WithinS b) ?_ ?_
        · refine optionSome ?_
          refine State.enqueue_within qnet c1 ?_
          exact hp0
        · refine optionSome ?_
          exact hp0
    · exact optionNone

theorem State.protectTx_within {b : Bounds} {p0 p1 p2} (qevu : b.parts .evu) (qnet : b.parts .net) (c2 : b.regs (O0F.MACSEC_DROPS p1)) (c3 : b.regs (O0F.TX_PN p1)) (c4 : ∀ k ∈ eventRegs 3618, b.regs k) (c5 : b.regs (O0F.PORT_FLAGS p1)) (c6 : ∀ k ∈ eventRegs 3619, b.regs k) (hp0 : Within b p0) : Within2 b (State.protectTx p0 p1 p2) := by
  unfold State.protectTx
  extract_lets -merge -useContext -underBinder x1 x2 x3
  split
  · refine within2_mk ?_
    refine State.bump_within c2 ?_
    exact hp0
  · extract_lets -merge -useContext -underBinder x4 x5 x6 x7 x8 x9 x10 x11 x12 x13
    have hx11 : Within b x11 := by
      unfold x11
      refine State.setN_within c3 ?_
      refine State.onNet_within qnet ?_
      exact hp0
    try clear_value x11
    have hx12 : Within b x12 := by
      unfold x12
      refine ite_elim (P := Within b) ?_ ?_
      · refine State.raise_within qevu c4 ?_
        refine State.flag_within c5 ?_
        exact hx11
      · exact hx11
    try clear_value x12
    have hx13 : Within b x13 := by
      unfold x13
      refine ite_elim (P := Within b) ?_ ?_
      · refine State.raise_within qevu c6 ?_
        refine State.flag_within c5 ?_
        exact hx12
      · exact hx12
    try clear_value x13
    refine ite_elim (P := Within2 b) ?_ ?_
    · refine within2_mk ?_
      refine State.bump_within c2 ?_
      exact hp0
    · refine within2_mk ?_
      exact hx13

theorem State.protectRx_within {b : Bounds} {p0 p1 p2} (qevu : b.parts .evu) (qnet : b.parts .net) (c2 : b.regs (O0F.MACSEC_DROPS p1)) (c3 : ∀ k ∈ eventRegs 3620, b.regs k) (c4 : b.regs (O0F.MACSEC_REPLAY p1)) (hp0 : Within b p0) : Within2 b (State.protectRx p0 p1 p2) := by
  unfold State.protectRx
  extract_lets -merge -useContext -underBinder x1 x2 x3 x4 x5 x6 x7
  have hx7 : Within b x7 := by
    unfold x7
    refine State.bump_within c2 ?_
    exact hp0
  try clear_value x7
  try clear_value x6
  split
  · refine within2_mk ?_
    exact hx7
  · split
    · refine within2_mk ?_
      exact hx7
    · extract_lets -merge -useContext -underBinder x8 x9 x10 x11 x12 x13
      have hx13 : Within b x13 := by
        unfold x13
        refine State.onNet_within qnet ?_
        exact hp0
      try clear_value x13
      refine ite_elim (P := Within2 b) ?_ ?_
      · refine within2_mk ?_
        refine State.raiseLim_within qevu c3 ?_
        refine State.bump_within c4 ?_
        exact hp0
      · refine ite_elim (P := Within2 b) ?_ ?_
        · refine within2_mk ?_
          exact hx7
        · refine within2_mk ?_
          exact hx13

theorem State.arrived_within {b : Bounds} {p0 p1 p2 p3 p4 p5} (qnet : b.parts .net) (qevu : b.parts .evu) (c2 : ∀ (w0 : ℕ), b.regs (O0F.FRAMES_IO w0)) (c3 : ∀ k ∈ eventRegs 245, b.regs k) (c4 : b.regs (O0F.PORT_FLAGS p1)) (c5 : b.regs (O0F.DROPS p1)) (c6 : ∀ k ∈ eventRegs 256, b.regs k) (c7 : ∀ (w0 : ℕ), b.regs (O10.SF_FLAGS w0)) (c8 : ∀ (w0 : ℕ), b.regs (O10.SH_DROPS w0)) (c9 : ∀ (w0 : ℕ), b.regs (O10.CBS_CREDIT w0)) (c10 : ∀ (w0 : ℕ), b.regs (O10.SH_ELIGIBLE w0)) (c11 : ∀ (w0 : ℕ), b.regs (O10.SH_QUEUED w0)) (c12 : ∀ (w0 : ℕ), b.regs (O10.SH_LEVEL w0)) (hp0 : Within b p0) : Within b (State.arrived p0 p1 p2 p3 p4 p5) := by
  unfold State.arrived
  split
  · rename_i y1 y2 e3
    have k4 := transport (P := WithinS b) e3 (by
      refine State.terminate_within qnet (c9 _) ?_
      exact hp0
      )
    exact (k4 _ rfl)
  · rename_i y5 e6
    have k7 := transport (P := WithinS b) e6 (by
      refine State.terminate_within qnet (c9 _) ?_
      exact hp0
      )
    refine State.forward_within qevu qnet c2 c3 c4 c5 c6 c7 c8 c9 c10 c11 c12 ?_
    exact hp0

theorem State.policed_within {b : Bounds} {p0 p1 p2 p3} (qevu : b.parts .evu) (qnet : b.parts .net) (c2 : ∀ (w0 : ℕ), b.regs (O10.SF_FRAMES w0)) (c3 : ∀ k ∈ eventRegs 258, b.regs k) (c4 : ∀ (w0 : ℕ), b.regs (O10.SF_FLAGS w0)) (c5 : ∀ (w0 : ℕ), b.regs (O10.SDU_DROPS w0)) (c6 : ∀ k ∈ eventRegs 257, b.regs k) (c7 : ∀ (w0 : ℕ), b.regs (O10.POL_DROPS w0)) (hp0 : Within b p0) : Within2 b (State.policed p0 p1 p2 p3) := by
  unfold State.policed
  split
  · refine State.police_within qevu qnet (c2 _) c3 (c4 _) (c5 _) c6 (c7 _) ?_
    exact hp0
  · refine within2_mk ?_
    exact hp0

theorem State.classified_within {b : Bounds} {p0 p1 p2 p3 p4 p5} (qevu : b.parts .evu) (qnet : b.parts .net) (c2 : ∀ (w0 : ℕ), b.regs (O10.SF_FRAMES w0)) (c3 : ∀ k ∈ eventRegs 258, b.regs k) (c4 : ∀ (w0 : ℕ), b.regs (O10.SF_FLAGS w0)) (c5 : ∀ (w0 : ℕ), b.regs (O10.SDU_DROPS w0)) (c6 : ∀ k ∈ eventRegs 257, b.regs k) (c7 : ∀ (w0 : ℕ), b.regs (O10.POL_DROPS w0)) (c8 : ∀ k ∈ eventRegs 243, b.regs k) (c9 : b.regs O0F.FDB_FULL) (c10 : ∀ (w0 : ℕ), b.regs (O0F.FRAMES_IO w0)) (c11 : ∀ k ∈ eventRegs 245, b.regs k) (c12 : b.regs (O0F.PORT_FLAGS p1)) (c13 : b.regs (O0F.DROPS p1)) (c14 : ∀ k ∈ eventRegs 256, b.regs k) (c15 : ∀ (w0 : ℕ), b.regs (O10.SH_DROPS w0)) (c16 : ∀ (w0 : ℕ), b.regs (O10.CBS_CREDIT w0)) (c17 : ∀ (w0 : ℕ), b.regs (O10.SH_ELIGIBLE w0)) (c18 : ∀ (w0 : ℕ), b.regs (O10.SH_QUEUED w0)) (c19 : ∀ (w0 : ℕ), b.regs (O10.SH_LEVEL w0)) (hp0 : Within b p0) : Within b (State.classified p0 p1 p2 p3 p4 p5) := by
  unfold State.classified
  extract_lets -merge -useContext -underBinder x1 x2 x3 x4
  have hx2 : Within2 b x2 := by
    unfold x2
    refine State.policed_within qevu qnet c2 c3 c4 c5 c6 c7 ?_
    exact hp0
  try clear_value x2
  have hx4 : Within b x4 := by
    unfold x4
    refine ite_elim (P := Within b) ?_ ?_
    · refine State.learn_within qevu qnet c8 c9 ?_
      change Within2 b _
      exact hx2
    · change Within2 b _
      exact hx2
  try clear_value x4
  refine ite_elim (P := Within b) ?_ ?_
  · change Within2 b _
    exact hx2
  · refine ite_elim (P := Within b) ?_ ?_
    · exact hx4
    · refine State.arrived_within qnet qevu c10 c11 c12 c13 c14 c4 c15 c16 c17 c18 c19 ?_
      exact hx4

theorem State.bridgeFrame_within {b : Bounds} {p0 p1 p2 p3 p4} (qevu : b.parts .evu) (qnet : b.parts .net) (c2 : b.regs (O0F.DROPS p1)) (c3 : ∀ k ∈ eventRegs 244, b.regs k) (c4 : ∀ (w0 : ℕ), b.regs (O10.SF_FRAMES w0)) (c5 : ∀ k ∈ eventRegs 258, b.regs k) (c6 : ∀ (w0 : ℕ), b.regs (O10.SF_FLAGS w0)) (c7 : ∀ (w0 : ℕ), b.regs (O10.SDU_DROPS w0)) (c8 : ∀ k ∈ eventRegs 257, b.regs k) (c9 : ∀ (w0 : ℕ), b.regs (O10.POL_DROPS w0)) (c10 : ∀ k ∈ eventRegs 243, b.regs k) (c11 : b.regs O0F.FDB_FULL) (c12 : ∀ (w0 : ℕ), b.regs (O0F.FRAMES_IO w0)) (c13 : ∀ k ∈ eventRegs 245, b.regs k) (c14 : b.regs (O0F.PORT_FLAGS p1)) (c15 : ∀ k ∈ eventRegs 256, b.regs k) (c16 : ∀ (w0 : ℕ), b.regs (O10.SH_DROPS w0)) (c17 : ∀ (w0 : ℕ), b.regs (O10.CBS_CREDIT w0)) (c18 : ∀ (w0 : ℕ), b.regs (O10.SH_ELIGIBLE w0)) (c19 : ∀ (w0 : ℕ), b.regs (O10.SH_QUEUED w0)) (c20 : ∀ (w0 : ℕ), b.regs (O10.SH_LEVEL w0)) (hp0 : Within b p0) : Within b (State.bridgeFrame p0 p1 p2 p3 p4) := by
  unfold State.bridgeFrame
  extract_lets -merge -useContext -underBinder x1 x2 x3 x4 x5 x6 x7 x8 x9 x10
  refine ite_elim (P := Within b) ?_ ?_
  · refine State.trapFrame_within qevu qnet c2 c3 ?_
    exact hp0
  · refine ite_elim (P := Within b) ?_ ?_
    · exact hp0
    · refine ite_elim (P := Within b) ?_ ?_
      · refine State.dropIn_within c2 ?_
        exact hp0
      · split
        · refine State.dropIn_within c2 ?_
          exact hp0
        · refine ite_elim (P := Within b) ?_ ?_
          · refine State.dropIn_within c2 ?_
            exact hp0
          · refine State.classified_within qevu qnet c4 c5 c6 c7 c8 c9 c10 c11 c12 c13 c14 c2 c15 c16 c17 c18 c19 c20 ?_
            exact hp0

theorem State.dropOversize_within {b : Bounds} {p0 p1 p2} (qnet : b.parts .net) (qevu : b.parts .evu) (c2 : ∀ k ∈ eventRegs 259, b.regs k) (c3 : b.regs (O10.PORT_SH_FLAGS (2048 + p1))) (c4 : b.regs (O10.GATE_OVERSIZE (2048 + p1))) (hp0 : Within b p0) : Within b (State.dropOversize p0 p1 p2) := by
  unfold State.dropOversize
  extract_lets -merge -useContext -underBinder x1 x2 x3 x4
  have hx4 : Within b x4 := by
    unfold x4
    refine State.onNet_within qnet ?_
    exact hp0
  try clear_value x4
  refine ite_elim (P := Within b) ?_ ?_
  · exact hp0
  · refine State.raiseLim_within qevu c2 ?_
    refine State.flag_within c3 ?_
    refine State.bump_within c4 ?_
    exact hx4

theorem State.guardQueues_within {b : Bounds} {p0 p1 p2} (qnet : b.parts .net) (qevu : b.parts .evu) (c2 : ∀ k ∈ eventRegs 259, b.regs k) (c3 : b.regs (O10.PORT_SH_FLAGS (2048 + p1))) (c4 : b.regs (O10.GATE_OVERSIZE (2048 + p1))) (c5 : b.regs (O10.GUARD_HELD (2048 + p1))) (hp0 : Within b p0) : Within b (State.guardQueues p0 p1 p2) := by
  unfold State.guardQueues
  refine State.forEach_within ?_ ?_
  · exact hp0
  · intro u1 u2 hu3
    try beta_reduce
    extract_lets -merge -useContext -underBinder x4
    have hx4 : Within b x4 := by
      unfold x4
      refine State.dropOversize_within qnet qevu c2 c3 c4 ?_
      exact hu3
    try clear_value x4
    split
    · exact hx4
    · extract_lets -merge -useContext -underBinder x5 x6
      split
      · exact hx4
      · extract_lets -merge -useContext -underBinder x7
        have hx7 : Within b x7 := by
          unfold x7
          refine State.onNet_within qnet ?_
          exact hx4
        try clear_value x7
        refine ite_elim (P := Within b) ?_ ?_
        · refine State.flag_within c3 ?_
          refine State.bump_within c5 ?_
          exact hx7
        · exact hx4

theorem State.paceLate_within {b : Bounds} {p0 p1 p2 p3} (qevu : b.parts .evu) (c1 : ∀ k ∈ eventRegs 261, b.regs k) (c2 : b.regs (O10.PORT_SH_FLAGS (2048 + p1))) (c3 : b.regs (O10.PACE_LATE_MAX (2048 + p1))) (c4 : b.regs (O10.PACE_LATE (2048 + p1))) (hp0 : Within b p0) : Within b (State.paceLate p0 p1 p2 p3) := by
  unfold State.paceLate
  extract_lets -merge -useContext -underBinder x1
  refine ite_elim (P := Within b) ?_ ?_
  · refine State.raiseLim_within qevu c1 ?_
    refine State.flag_within c2 ?_
    refine State.peak_within c3 ?_
    refine State.bump_within c4 ?_
    exact hp0
  · exact hp0

theorem State.sendOn_within {b : Bounds} {p0 p1 p2} (qsent : b.parts .sent) (qevu : b.parts .evu) (qnet : b.parts .net) (c3 : b.regs (O0F.MACSEC_DROPS p1)) (c4 : b.regs (O0F.TX_PN p1)) (c5 : ∀ k ∈ eventRegs 3618, b.regs k) (c6 : b.regs (O0F.PORT_FLAGS p1)) (c7 : ∀ k ∈ eventRegs 3619, b.regs k) (c8 : b.regs (O0D.PACKETS_SENT p2.sender)) (c9 : b.regs (O0F.FRAMES_IO p1)) (hp0 : Within b p0) : Within b (State.sendOn p0 p1 p2) := by
  unfold State.sendOn
  extract_lets -merge -useContext -underBinder x1 x2
  have hx2 : Within2 b x2 := by
    unfold x2
    refine ite_elim (P := Within2 b) ?_ ?_
    · refine State.protectTx_within qevu qnet c3 c4 c5 c6 c7 ?_
      exact hp0
    · refine within2_mk ?_
      exact hp0
  try clear_value x2
  split
  · change Within2 b _
    exact hx2
  · extract_lets -merge -useContext -underBinder x3
    have hx3 : Within b x3 := by
      unfold x3
      refine ite_elim (P := Within b) ?_ ?_
      · change Within2 b _
        exact hx2
      · refine State.bump_within c8 ?_
        change Within2 b _
        exact hx2
    try clear_value x3
    refine State.emit_within qsent ?_
    refine State.bumpPair_within c9 ?_
    exact hx3

theorem State.gateApplied_within {b : Bounds} {p0 p1} (qevu : b.parts .evu) (qnet : b.parts .net) (c2 : b.regs (O10.OPER_STATE (2048 + p1))) (c3 : ∀ k ∈ eventRegs 690, b.regs k) (c4 : b.regs (O10.PORT_SH_FLAGS (2048 + p1))) (hp0 : Within b p0) : Within b (State.gateApplied p0 p1) := by
  unfold State.gateApplied
  extract_lets -merge -useContext -underBinder x1 x2 x3 x4 x5 x6 x7 x8
  have hx7 : Within b x7 := by
    unfold x7
    refine State.onNet_within qnet ?_
    exact hp0
  try clear_value x7
  have hx8 : Within b x8 := by
    unfold x8
    refine State.setN_within c2 ?_
    exact hx7
  try clear_value x8
  refine ite_elim (P := Within b) ?_ ?_
  · refine State.setN_within c2 ?_
    refine State.onNet_within qnet ?_
    exact hp0
  · refine ite_elim (P := Within b) ?_ ?_
    · exact hx8
    · refine State.raise_within qevu c3 ?_
      refine State.flag_within c4 ?_
      exact hx8

theorem State.gateStep_within {b : Bounds} {p0} (qevu : b.parts .evu) (qnet : b.parts .net) (c2 : ∀ k ∈ eventRegs 690, b.regs k) (hp0 : Within b p0) : Within b (State.gateStep p0) := by
  unfold State.gateStep
  refine State.forEach_within ?_ ?_
  · exact hp0
  · intro u1 u2 hu1
    try beta_reduce
    split
    · exact hu1
    · extract_lets -merge -useContext -underBinder x3
      refine State.raise_within qevu c2 ?_
      refine State.onNet_within qnet ?_
      exact hu1

theorem State.shapeApplied_within {b : Bounds} {p0 p1} (qnet : b.parts .net) (c1 : ∀ (w0 : ℕ), b.regs (O10.CBS_CREDIT w0)) (c2 : b.regs (O10.SH_ELIGIBLE p1)) (c3 : b.regs (O10.SH_QUEUED p1)) (c4 : b.regs (O10.SH_LEVEL p1)) (hp0 : Within b p0) : Within b (State.shapeApplied p0 p1) := by
  unfold State.shapeApplied
  extract_lets -merge -useContext -underBinder x1 x2 x3
  split
  · exact hp0
  · extract_lets -merge -useContext -underBinder x4 x5 x6 x7 x8 x9 x10
    have hx5 : Within b x5 := by
      unfold x5
      refine State.forEach_within ?_ ?_
      · exact hp0
      · intro u11 u12 hu13
        try beta_reduce
        refine State.enqueue_within qnet (c1 _) ?_
        exact hu13
    try clear_value x5
    have hx10 : Within b x10 := by
      unfold x10
      refine State.onNet_within qnet ?_
      exact hp0
    try clear_value x10
    refine ite_elim (P := Within b) ?_ ?_
    · refine State.shapeReport_within c2 c3 c4 ?_
      refine State.onNet_within qnet ?_
      exact hx5
    · refine State.shapeReport_within c2 c3 c4 ?_
      exact hx10

theorem State.polApplied_within {b : Bounds} {p0 p1} (qnet : b.parts .net) (hp0 : Within b p0) : Within b (State.polApplied p0 p1) := by
  unfold State.polApplied
  refine ite_elim (P := Within b) ?_ ?_
  · refine State.onNet_within qnet ?_
    exact hp0
  · split
    · exact hp0
    · refine State.onNet_within qnet ?_
      exact hp0

theorem State.shapingApplied_within {b : Bounds} {p0 p1} (qnet : b.parts .net) (qevu : b.parts .evu) (c2 : ∀ (w0 : ℕ), b.regs (O10.CBS_CREDIT w0)) (c3 : b.regs (O10.SH_ELIGIBLE (instOf p1))) (c4 : b.regs (O10.SH_QUEUED (instOf p1))) (c5 : b.regs (O10.SH_LEVEL (instOf p1))) (c6 : b.regs (O10.OPER_STATE (2048 + (instOf p1 - 2048)))) (c7 : ∀ k ∈ eventRegs 690, b.regs k) (c8 : b.regs (O10.PORT_SH_FLAGS (2048 + (instOf p1 - 2048)))) (hp0 : Within b p0) : Within b (State.shapingApplied p0 p1) := by
  unfold State.shapingApplied
  extract_lets -merge -useContext -underBinder x1 x2 x3 x4
  have hx3 : Within b x3 := by
    unfold x3
    refine ite_elim (P := Within b) ?_ ?_
    · refine State.polApplied_within qnet ?_
      exact hp0
    · exact hp0
  try clear_value x3
  have hx4 : Within b x4 := by
    unfold x4
    refine State.shapeApplied_within qnet c2 c3 c4 c5 ?_
    exact hx3
  try clear_value x4
  refine ite_elim (P := Within b) ?_ ?_
  · refine ite_elim (P := Within b) ?_ ?_
    · refine ite_elim (P := Within b) ?_ ?_
      · refine State.setZ_within c5 ?_
        exact hx4
      · exact hx4
    · exact hx3
  · refine ite_elim (P := Within b) ?_ ?_
    · refine ite_elim (P := Within b) ?_ ?_
      · refine State.gateApplied_within qevu qnet c6 c7 c8 ?_
        exact hp0
      · refine ite_elim (P := Within b) ?_ ?_
        · refine State.onNet_within qnet ?_
          exact hp0
        · exact hp0
    · exact hp0

theorem State.bucketsTo_within {b : Bounds} {p0 p1} (qnet : b.parts .net) (c1 : ∀ (w0 : ℕ), b.regs (O10.CBS_CREDIT w0)) (hp0 : Within b p0) : Within b (State.bucketsTo p0 p1) := by
  unfold State.bucketsTo
  extract_lets -merge -useContext -underBinder x1
  have hx1 : Within b x1 := by
    unfold x1
    refine State.forEach_within ?_ ?_
    · exact hp0
    · intro u2 u3 hu4
      try beta_reduce
      refine State.cbsAdvance_within qnet (c1 _) ?_
      exact hu4
  try clear_value x1
  refine State.onNet_within qnet ?_
  exact hx1

theorem State.tableWrite_within {b : Bounds} {p0 p1 p2} (qnet : b.parts .net) (hp0 : Within b p0) : Within b (State.tableWrite p0 p1 p2) := by
  unfold State.tableWrite
  extract_lets -merge -useContext -underBinder x1 x2 x3 x4 x5 x6 x7 x8 x9 x10
  refine ite_elim (P := Within b) ?_ ?_
  · refine State.onNet_within qnet ?_
    exact hp0
  · refine ite_elim (P := Within b) ?_ ?_
    · refine State.onNet_within qnet ?_
      exact hp0
    · refine ite_elim (P := Within b) ?_ ?_
      · refine State.onNet_within qnet ?_
        exact hp0
      · exact hp0

theorem State.actFdbFlush_within {b : Bounds} {p0 p1} (qnet : b.parts .net) (hp0 : Within b p0) : Within b (State.actFdbFlush p0 p1) := by
  unfold State.actFdbFlush
  refine State.onNet_within qnet ?_
  exact hp0

theorem State.actTrapSend_within {b : Bounds} {p0 p1} (qsent : b.parts .sent) (qevu : b.parts .evu) (qnet : b.parts .net) (c3 : b.regs (O0F.MACSEC_DROPS (Sys2Proof.natBE (List.take 2 p1)))) (c4 : b.regs (O0F.TX_PN (Sys2Proof.natBE (List.take 2 p1)))) (c5 : ∀ k ∈ eventRegs 3618, b.regs k) (c6 : b.regs (O0F.PORT_FLAGS (Sys2Proof.natBE (List.take 2 p1)))) (c7 : ∀ k ∈ eventRegs 3619, b.regs k) (c8 : b.regs (O0F.FRAMES_IO (Sys2Proof.natBE (List.take 2 p1)))) (hp0 : Within b p0) : Within1 b (State.actTrapSend p0 p1) := by
  unfold State.actTrapSend
  extract_lets -merge -useContext -underBinder x1 x2 x3 x4
  have hx4 : Within2 b x4 := by
    unfold x4
    refine ite_elim (P := Within2 b) ?_ ?_
    · refine State.protectTx_within qevu qnet c3 c4 c5 c6 c7 ?_
      exact hp0
    · refine within2_mk ?_
      exact hp0
  try clear_value x4
  refine ite_elim (P := Within1 b) ?_ ?_
  · refine within1_mk ?_
    exact hp0
  · split
    · refine within1_mk ?_
      change Within2 b _
      exact hx4
    · refine within1_mk ?_
      refine State.emit_within qsent ?_
      refine State.bumpPair_within c8 ?_
      change Within2 b _
      exact hx4

theorem State.takeTrap_within {b : Bounds} {p0} (qnet : b.parts .net) (hp0 : Within b p0) : Within2 b (State.takeTrap p0) := by
  unfold State.takeTrap
  split
  · refine within2_mk ?_
    exact hp0
  · refine within2_mk ?_
    refine State.onNet_within qnet ?_
    exact hp0

theorem State.bridgeSeam_within {b : Bounds} {p0} (qnet : b.parts .net) (c1 : ∀ w0, b.regs (O0F.TX_PN w0)) (c2 : ∀ w0, b.regs (O10.GATE_STATES w0)) (hp0 : Within b p0) : Within b (State.bridgeSeam p0) := by
  unfold State.bridgeSeam
  extract_lets -merge -useContext -underBinder x1 x2 x3
  have hx1 : Within b x1 := by
    unfold x1
    refine State.forEach_within ?_ ?_
    · exact hp0
    · intro u4 u5 hu4
      try beta_reduce
      refine State.onNet_within qnet ?_
      exact hu4
  try clear_value x1
  have hx2 : Within b x2 := by
    unfold x2
    refine State.onNet_within qnet ?_
    exact hx1
  try clear_value x2
  have hx3 : Within b x3 := by
    unfold x3
    refine State.forEach_within ?_ ?_
    · exact hx2
    · intro u6 u7 hu6
      try beta_reduce
      extract_lets -merge -useContext -underBinder x8
      refine State.setN_within (c1 _) ?_
      refine State.onNet_within qnet ?_
      exact hu6
  try clear_value x3
  refine State.forEach_within ?_ ?_
  · exact hx3
  · intro u9 u10 hu9
    try beta_reduce
    refine State.setN_within (c2 _) ?_
    exact hu9

theorem State.linkState_within {b : Bounds} {p0 p1 p2} (qevu : b.parts .evu) (c1 : ∀ k ∈ eventRegs 240, b.regs k) (c2 : b.regs (O0F.LINK_STATE p1)) (c3 : ∀ k ∈ eventRegs 241, b.regs k) (c4 : b.regs (O0F.PORT_FLAGS p1)) (hp0 : Within b p0) : Within b (State.linkState p0 p1 p2) := by
  unfold State.linkState
  refine ite_elim (P := Within b) ?_ ?_
  · refine State.raise_within qevu c1 ?_
    refine State.setN_within c2 ?_
    exact hp0
  · refine State.raise_within qevu c3 ?_
    refine State.flag_within c4 ?_
    refine State.setN_within c2 ?_
    exact hp0

theorem execLinkStateChange_within {b : Bounds} {p0 p1 p2} (qevu : b.parts .evu) (c1 : ∀ k ∈ eventRegs 240, b.regs k) (c2 : b.regs (O0F.LINK_STATE p0)) (c3 : ∀ k ∈ eventRegs 241, b.regs k) (c4 : b.regs (O0F.PORT_FLAGS p0)) (hp2 : Within b p2) : WithinOut b (execLinkStateChange p0 p1 p2) := by
  unfold execLinkStateChange
  refine onInst_within ?_ ?_
  · exact hp2
  · intro u1 hu1
    try beta_reduce
    refine ite_elim (P := Within b) ?_ ?_
    · exact hu1
    · refine State.linkState_within qevu c1 c2 c3 c4 ?_
      exact hu1

theorem execFrameIngress_within {b : Bounds} {p0 p1 p2 p3 p4} (qevu : b.parts .evu) (qnet : b.parts .net) (c2 : b.regs (O0F.FEC_COUNTS p0)) (c3 : b.regs (O0F.MACSEC_DROPS p0)) (c4 : ∀ k ∈ eventRegs 3620, b.regs k) (c5 : b.regs (O0F.MACSEC_REPLAY p0)) (c6 : b.regs (O0F.FCS_ERR p0)) (c7 : ∀ k ∈ eventRegs 242, b.regs k) (c8 : b.regs (O0F.PORT_FLAGS p0)) (c9 : b.regs (O0F.PAUSE_RX p0)) (c10 : b.regs (O0F.DROPS p0)) (c11 : ∀ k ∈ eventRegs 244, b.regs k) (c12 : ∀ (w0 : ℕ), b.regs (O10.SF_FRAMES w0)) (c13 : ∀ k ∈ eventRegs 258, b.regs k) (c14 : ∀ (w0 : ℕ), b.regs (O10.SF_FLAGS w0)) (c15 : ∀ (w0 : ℕ), b.regs (O10.SDU_DROPS w0)) (c16 : ∀ k ∈ eventRegs 257, b.regs k) (c17 : ∀ (w0 : ℕ), b.regs (O10.POL_DROPS w0)) (c18 : ∀ k ∈ eventRegs 243, b.regs k) (c19 : b.regs O0F.FDB_FULL) (c20 : ∀ (w0 : ℕ), b.regs (O0F.FRAMES_IO w0)) (c21 : ∀ k ∈ eventRegs 245, b.regs k) (c22 : ∀ k ∈ eventRegs 256, b.regs k) (c23 : ∀ (w0 : ℕ), b.regs (O10.SH_DROPS w0)) (c24 : ∀ (w0 : ℕ), b.regs (O10.CBS_CREDIT w0)) (c25 : ∀ (w0 : ℕ), b.regs (O10.SH_ELIGIBLE w0)) (c26 : ∀ (w0 : ℕ), b.regs (O10.SH_QUEUED w0)) (c27 : ∀ (w0 : ℕ), b.regs (O10.SH_LEVEL w0)) (c28 : ∀ k ∈ eventRegs 3621, b.regs k) (hp4 : Within b p4) : WithinOut b (execFrameIngress p0 p1 p2 p3 p4) := by
  unfold execFrameIngress
  refine onInst_within ?_ ?_
  · exact hp4
  · intro u1 hu2
    try beta_reduce
    extract_lets -merge -useContext -underBinder x3 x4 x5 x6
    have hx3 : Within b x3 := by
      unfold x3
      refine ite_elim (P := Within b) ?_ ?_
      · refine State.bumpPair_within c2 ?_
        exact hu2
      · exact hu2
    try clear_value x3
    have hx4 : Within b x4 := by
      unfold x4
      refine State.bumpPair_within (c20 _) ?_
      exact hx3
    try clear_value x4
    have hx6 : Within2 b x6 := by
      unfold x6
      refine State.protectRx_within qevu qnet c3 c4 c5 ?_
      exact hx4
    try clear_value x6
    refine ite_elim (P := Within b) ?_ ?_
    · exact hu2
    · refine ite_elim (P := Within b) ?_ ?_
      · exact hu2
      · refine ite_elim (P := Within b) ?_ ?_
        · refine State.bump_within c6 ?_
          exact hx4
        · refine ite_elim (P := Within b) ?_ ?_
          · refine State.raiseLim_within qevu c7 ?_
            refine State.flag_within c8 ?_
            refine State.bump_within c6 ?_
            refine State.bumpPair_within c2 ?_
            exact hx4
          · refine ite_elim (P := Within b) ?_ ?_
            · refine State.flag_within c8 ?_
              refine State.bump_within c9 ?_
              exact hx4
            · refine ite_elim (P := Within b) ?_ ?_
              · refine State.dropIn_within c10 ?_
                exact hx4
              · refine ite_elim (P := Within b) ?_ ?_
                · split
                  · refine State.bridgeFrame_within qevu qnet c10 c11 c12 c13 c14 c15 c16 c17 c18 c19 c20 c21 c8 c22 c23 c24 c25 c26 c27 ?_
                    change Within2 b _
                    exact hx6
                  · change Within2 b _
                    exact hx6
                · refine ite_elim (P := Within b) ?_ ?_
                  · refine State.raiseLim_within qevu c28 ?_
                    refine State.bump_within c3 ?_
                    exact hx4
                  · refine State.bridgeFrame_within qevu qnet c10 c11 c12 c13 c14 c15 c16 c17 c18 c19 c20 c21 c8 c22 c23 c24 c25 c26 c27 ?_
                    exact hx4

theorem execFdbAgeing_within {b : Bounds} {p0 p1 p2} (qnet : b.parts .net) (hp2 : Within b p2) : WithinOut b (execFdbAgeing p0 p1 p2) := by
  unfold execFdbAgeing
  refine live_within ?_ ?_
  · exact hp2
  · intro u1 hu1
    try beta_reduce
    extract_lets -merge -useContext -underBinder x2
    split
    · refine ite_elim (P := Within b) ?_ ?_
      · exact hu1
      · refine State.onNet_within qnet ?_
        exact hu1
    · exact hu1

theorem execFdbFlush_within {b : Bounds} {p0 p1} (qnet : b.parts .net) (hp1 : Within b p1) : WithinOut b (execFdbFlush p0 p1) := by
  unfold execFdbFlush
  refine live_within ?_ ?_
  · exact hp1
  · intro u1 hu1
    try beta_reduce
    refine ite_elim (P := Within b) ?_ ?_
    · refine State.actFdbFlush_within qnet ?_
      exact hu1
    · exact hu1

theorem execTrapFrame_within {b : Bounds} {p0} (qnet : b.parts .net) (hp0 : Within b p0) : WithinOut b (execTrapFrame p0) := by
  unfold execTrapFrame
  refine live_within ?_ ?_
  · exact hp0
  · intro u1 hu1
    try beta_reduce
    refine ite_elim (P := Within b) ?_ ?_
    · change Within2 b _
      refine State.takeTrap_within qnet ?_
      exact hu1
    · exact hu1

theorem execTrapSend_within {b : Bounds} {p0 p1} (qsent : b.parts .sent) (qevu : b.parts .evu) (qnet : b.parts .net) (c3 : b.regs (O0F.MACSEC_DROPS (Sys2Proof.natBE (List.take 2 p0)))) (c4 : b.regs (O0F.TX_PN (Sys2Proof.natBE (List.take 2 p0)))) (c5 : ∀ k ∈ eventRegs 3618, b.regs k) (c6 : b.regs (O0F.PORT_FLAGS (Sys2Proof.natBE (List.take 2 p0)))) (c7 : ∀ k ∈ eventRegs 3619, b.regs k) (c8 : b.regs (O0F.FRAMES_IO (Sys2Proof.natBE (List.take 2 p0)))) (hp1 : Within b p1) : WithinOut b (execTrapSend p0 p1) := by
  unfold execTrapSend
  refine live_within ?_ ?_
  · exact hp1
  · intro u1 hu1
    try beta_reduce
    refine ite_elim (P := Within b) ?_ ?_
    · change Within1 b _
      refine State.actTrapSend_within qsent qevu qnet c3 c4 c5 c6 c7 c8 ?_
      exact hu1
    · exact hu1

theorem execMacsecTxAn_within {b : Bounds} {p0 p1 p2} (c0 : b.regs (O0F.MACSEC_TX_AN p0)) (hp2 : Within b p2) : WithinOut b (execMacsecTxAn p0 p1 p2) := by
  unfold execMacsecTxAn
  refine onInst_within ?_ ?_
  · exact hp2
  · intro u1 hu1
    try beta_reduce
    refine ite_elim (P := Within b) ?_ ?_
    · refine State.setN_within c0 ?_
      exact hu1
    · exact hu1

theorem execTransmissionStart_within {b : Bounds} {p0 p1 p2} (qnet : b.parts .net) (qevu : b.parts .evu) (qsent : b.parts .sent) (c3 : ∀ k ∈ eventRegs 259, b.regs k) (c4 : b.regs (O10.PORT_SH_FLAGS (2048 + p0))) (c5 : b.regs (O10.GATE_OVERSIZE (2048 + p0))) (c6 : b.regs (O10.GUARD_HELD (2048 + p0))) (c7 : b.regs (O10.CBS_CREDIT (2048 + p0))) (c8 : ∀ k ∈ eventRegs 261, b.regs k) (c9 : b.regs (O10.PACE_LATE_MAX (2048 + p0))) (c10 : b.regs (O10.PACE_LATE (2048 + p0))) (c11 : b.regs (O0F.MACSEC_DROPS p0)) (c12 : b.regs (O0F.TX_PN p0)) (c13 : ∀ k ∈ eventRegs 3618, b.regs k) (c14 : b.regs (O0F.PORT_FLAGS p0)) (c15 : ∀ k ∈ eventRegs 3619, b.regs k) (c16 : ∀ (w0 : ℕ), b.regs (O0D.PACKETS_SENT w0)) (c17 : b.regs (O0F.FRAMES_IO p0)) (hp2 : Within b p2) : WithinOut b (execTransmissionStart p0 p1 p2) := by
  unfold execTransmissionStart
  refine onInst_within ?_ ?_
  · exact hp2
  · intro u1 hu2
    try beta_reduce
    extract_lets -merge -useContext -underBinder x3 x4
    have hx4 : Within b x4 := by
      unfold x4
      refine State.guardQueues_within qnet qevu c3 c4 c5 c6 ?_
      refine State.cbsAdvance_within qnet c7 ?_
      exact hu2
    try clear_value x4
    refine ite_elim (P := Within b) ?_ ?_
    · exact hu2
    · split
      · exact hx4
      · split
        · exact hx4
        · extract_lets -merge -useContext -underBinder x5 x6 x7
          have hx6 : Within b x6 := by
            unfold x6
            refine State.paceLate_within qevu c8 c4 c9 c10 ?_
            refine State.onNet_within qnet ?_
            exact hx4
          try clear_value x6
          have hx7 : Within b x7 := by
            unfold x7
            refine State.forEach_within ?_ ?_
            · exact hx6
            · intro u8 u9 hu10
              try beta_reduce
              extract_lets -merge -useContext -underBinder x11
              refine ite_elim (P := Within b) ?_ ?_
              · refine State.onNet_within qnet ?_
                exact hu10
              · exact hu10
          try clear_value x7
          refine State.sendOn_within qsent qevu qnet c11 c12 c13 c14 c15 (c16 _) c17 ?_
          exact hx7

theorem execGateChange_within {b : Bounds} {p0 p1 p2} (qnet : b.parts .net) (c1 : b.regs (O10.CBS_CREDIT (2048 + p0))) (hp2 : Within b p2) : WithinOut b (execGateChange p0 p1 p2) := by
  unfold execGateChange
  refine onInst_within ?_ ?_
  · exact hp2
  · intro u1 hu1
    try beta_reduce
    extract_lets -merge -useContext -underBinder x2
    have hx2 : Within b x2 := by
      unfold x2
      refine State.cbsAdvance_within qnet c1 ?_
      exact hu1
    try clear_value x2
    refine ite_elim (P := Within b) ?_ ?_
    · exact hu1
    · split
      · refine State.onNet_within qnet ?_
        exact hx2
      · exact hx2

theorem execGateListStart_within {b : Bounds} {p0 p1 p2} (qevu : b.parts .evu) (qnet : b.parts .net) (c2 : b.regs (O10.CBS_CREDIT (2048 + p0))) (c3 : b.regs (O10.PORT_SH_FLAGS (2048 + p0))) (c4 : b.regs (O10.OPER_BASE (2048 + p0))) (c5 : b.regs (O10.OPER_STATE (2048 + p0))) (c6 : ∀ k ∈ eventRegs 260, b.regs k) (hp2 : Within b p2) : WithinOut b (execGateListStart p0 p1 p2) := by
  unfold execGateListStart
  refine onInst_within ?_ ?_
  · exact hp2
  · intro u1 hu1
    try beta_reduce
    refine ite_elim (P := Within b) ?_ ?_
    · exact hu1
    · split
      · extract_lets -merge -useContext -underBinder x2 x3 x4 x5
        have hx4 : Within b x4 := by
          unfold x4
          refine State.onNet_within qnet ?_
          refine State.cbsAdvance_within qnet c2 ?_
          exact hu1
        try clear_value x4
        have hx5 : Within b x5 := by
          unfold x5
          refine State.flag_within c3 ?_
          refine State.setN_within c4 ?_
          refine State.setN_within c5 ?_
          exact hx4
        try clear_value x5
        refine ite_elim (P := Within b) ?_ ?_
        · exact hu1
        · refine State.raise_within qevu c6 ?_
          exact hx5
      · exact hu1

end Sys2Proof.Machine
end

