-- ==== Sys2Proof/Laws/WithinSenders.lean ====
section
/-! SUPPORT. What each operation of Machine/Senders.lean may change at most (Laws/Within.lean). -/

set_option maxRecDepth 8000

namespace Sys2Proof.Machine

theorem State.reportMacs_within {b : Bounds} {p0 p1} (c0 : b.regs (O0D.SEND_MACS p1)) (hp0 : Within b p0) : Within b (State.reportMacs p0 p1) := by
  unfold State.reportMacs
  refine State.setBytes_within c0 ?_
  exact hp0

theorem State.sendOwn_within {b : Bounds} {p0 p1 p2 p3} (qnet : b.parts .net) (c1 : b.regs (O10.CBS_CREDIT (2048 + p1))) (hp0 : Within b p0) : Within b (State.sendOwn p0 p1 p2 p3) := by
  unfold State.sendOwn
  refine State.enqueue_within qnet c1 ?_
  exact hp0

theorem State.arpRequest_within {b : Bounds} {p0 p1 p2} (qnet : b.parts .net) (c1 : b.regs (O10.CBS_CREDIT (2048 + pathPort (p0.sendPath p1 p2)))) (hp0 : Within b p0) : Within b (State.arpRequest p0 p1 p2) := by
  unfold State.arpRequest
  extract_lets -merge -useContext -underBinder x1 x2 x3
  have hx3 : Within b x3 := by
    unfold x3
    refine State.onNet_within qnet ?_
    exact hp0
  try clear_value x3
  refine ite_elim (P := Within b) ?_ ?_
  · exact hp0
  · refine State.sendOwn_within qnet c1 ?_
    exact hx3

theorem State.senderStart_within {b : Bounds} {p0 p1} (qnet : b.parts .net) (c1 : b.regs (O0D.SEND_MACS p1)) (c2 : ∀ (w0 : ℕ), b.regs (O10.CBS_CREDIT w0)) (c3 : b.regs (O0D.SEND_STATE p1)) (hp0 : Within b p0) : Within b (State.senderStart p0 p1) := by
  unfold State.senderStart
  extract_lets -merge -useContext -underBinder x1
  have hx1 : Within b x1 := by
    unfold x1
    refine State.onNet_within qnet ?_
    exact hp0
  try clear_value x1
  refine State.reportMacs_within c1 ?_
  refine State.arpRequest_within qnet (c2 _) ?_
  refine State.arpRequest_within qnet (c2 _) ?_
  refine State.setN_within c3 ?_
  exact hx1

theorem State.dropPaced_within {b : Bounds} {p0 p1} (qnet : b.parts .net) (hp0 : Within b p0) : Within b (State.dropPaced p0 p1) := by
  unfold State.dropPaced
  refine State.onNet_within qnet ?_
  exact hp0

theorem State.senderRuns_within {b : Bounds} {p0 p1} (qnet : b.parts .net) (c1 : b.regs (O0D.SEND_STATE p1)) (hp0 : Within b p0) : Within b (State.senderRuns p0 p1) := by
  unfold State.senderRuns
  refine State.setN_within c1 ?_
  refine State.onNet_within qnet ?_
  exact hp0

theorem State.senderApplied_within {b : Bounds} {p0 p1} (qnet : b.parts .net) (c1 : b.regs (O0D.SEND_MACS (instOf p1))) (c2 : ∀ (w0 : ℕ), b.regs (O10.CBS_CREDIT w0)) (c3 : b.regs (O0D.SEND_STATE (instOf p1))) (hp0 : Within b p0) : Within b (State.senderApplied p0 p1) := by
  unfold State.senderApplied
  extract_lets -merge -useContext -underBinder x1
  split
  · refine ite_elim (P := Within b) ?_ ?_
    · refine ite_elim (P := Within b) ?_ ?_
      · refine State.senderStart_within qnet c1 c2 c3 ?_
        exact hp0
      · exact hp0
    · refine State.reportMacs_within c1 ?_
      refine State.setN_within c3 ?_
      refine State.onNet_within qnet ?_
      refine State.dropPaced_within qnet ?_
      exact hp0
  · extract_lets -merge -useContext -underBinder x2 x3
    have hx3 : Within b x3 := by
      unfold x3
      refine State.onNet_within qnet ?_
      exact hp0
    try clear_value x3
    refine ite_elim (P := Within b) ?_ ?_
    · refine State.reportMacs_within c1 ?_
      refine State.arpRequest_within qnet (c2 _) ?_
      exact hx3
    · exact hp0

theorem State.holdSender_within {b : Bounds} {p0 p1} (qevu : b.parts .evu) (qnet : b.parts .net) (c2 : ∀ k ∈ eventRegs 209, b.regs k) (c3 : b.regs (O0D.SEND_FLAGS p1)) (c4 : b.regs (O0D.SEND_STATE p1)) (hp0 : Within b p0) : Within b (State.holdSender p0 p1) := by
  unfold State.holdSender
  refine ite_elim (P := Within b) ?_ ?_
  · refine State.raise_within qevu c2 ?_
    refine State.flag_within c3 ?_
    refine State.setN_within c4 ?_
    refine State.dropPaced_within qnet ?_
    exact hp0
  · exact hp0

theorem State.sendersHold_within {b : Bounds} {p0} (qevu : b.parts .evu) (qnet : b.parts .net) (c2 : ∀ k ∈ eventRegs 209, b.regs k) (c3 : ∀ w0, b.regs (O0D.SEND_FLAGS w0)) (c4 : ∀ w0, b.regs (O0D.SEND_STATE w0)) (hp0 : Within b p0) : Within b (State.sendersHold p0) := by
  unfold State.sendersHold
  refine State.forEach_within ?_ ?_
  · exact hp0
  · intro u1 u2 hu1
    refine State.holdSender_within qevu qnet c2 (c3 _) (c4 _) ?_
    exact hu1

theorem State.resumeSender_within {b : Bounds} {p0 p1} (qnet : b.parts .net) (c1 : b.regs (O0D.SEND_STATE p1)) (hp0 : Within b p0) : Within b (State.resumeSender p0 p1) := by
  unfold State.resumeSender
  refine ite_elim (P := Within b) ?_ ?_
  · refine State.senderRuns_within qnet c1 ?_
    exact hp0
  · exact hp0

theorem State.filterSeen_within {b : Bounds} {p0 p1} (c0 : ∀ (w0 : ℕ), b.regs (O10.SF_FRAMES w0)) (hp0 : Within b p0) : Within b (State.filterSeen p0 p1) := by
  unfold State.filterSeen
  split
  · refine State.bump_within (c0 _) ?_
    exact hp0
  · exact hp0

theorem State.sendPacket_within {b : Bounds} {p0 p1 p2 p3 p4} (qevu : b.parts .evu) (qnet : b.parts .net) (c2 : ∀ (w0 : ℕ), b.regs (O10.SF_FRAMES w0)) (c3 : ∀ k ∈ eventRegs 245, b.regs k) (c4 : b.regs (O0F.PORT_FLAGS (224 + p1 / 256))) (c5 : b.regs (O0F.DROPS (224 + p1 / 256))) (c6 : ∀ k ∈ eventRegs 256, b.regs k) (c7 : ∀ (w0 : ℕ), b.regs (O10.SF_FLAGS w0)) (c8 : ∀ (w0 : ℕ), b.regs (O10.SH_DROPS w0)) (c9 : ∀ (w0 : ℕ), b.regs (O10.CBS_CREDIT w0)) (c10 : ∀ (w0 : ℕ), b.regs (O10.SH_ELIGIBLE w0)) (c11 : ∀ (w0 : ℕ), b.regs (O10.SH_QUEUED w0)) (c12 : ∀ (w0 : ℕ), b.regs (O10.SH_LEVEL w0)) (c13 : b.regs (O0D.SEND_FLAGS p1)) (hp0 : Within b p0) : Within b (State.sendPacket p0 p1 p2 p3 p4) := by
  unfold State.sendPacket
  extract_lets -merge -useContext -underBinder x1 x2 x3 x4 x5 x6 x7
  have hx7 : Within b x7 := by
    unfold x7
    refine State.filterSeen_within c2 ?_
    exact hp0
  try clear_value x7
  refine ite_elim (P := Within b) ?_ ?_
  · refine ite_elim (P := Within b) ?_ ?_
    · refine State.bufferDrop_within qevu c3 c4 c5 ?_
      exact hx7
    · refine State.towards_within qnet qevu c6 c7 c8 c9 c10 c11 c12 ?_
      exact hx7
  · refine State.flag_within c13 ?_
    exact hp0

theorem State.pace_within {b : Bounds} {p0 p1 p2 p3} (qnet : b.parts .net) (qevu : b.parts .evu) (c2 : ∀ (w0 : ℕ), b.regs (O10.SF_FRAMES w0)) (c3 : ∀ k ∈ eventRegs 245, b.regs k) (c4 : b.regs (O0F.PORT_FLAGS (224 + p1 / 256))) (c5 : b.regs (O0F.DROPS (224 + p1 / 256))) (c6 : ∀ k ∈ eventRegs 256, b.regs k) (c7 : ∀ (w0 : ℕ), b.regs (O10.SF_FLAGS w0)) (c8 : ∀ (w0 : ℕ), b.regs (O10.SH_DROPS w0)) (c9 : ∀ (w0 : ℕ), b.regs (O10.CBS_CREDIT w0)) (c10 : ∀ (w0 : ℕ), b.regs (O10.SH_ELIGIBLE w0)) (c11 : ∀ (w0 : ℕ), b.regs (O10.SH_QUEUED w0)) (c12 : ∀ (w0 : ℕ), b.regs (O10.SH_LEVEL w0)) (c13 : b.regs (O0D.SEND_FLAGS p1)) (hp0 : Within b p0) : Within b (State.pace p0 p1 p2 p3) := by
  unfold State.pace
  extract_lets -merge -useContext -underBinder x1 x2
  have hx2 : Within b x2 := by
    unfold x2
    refine State.onNet_within qnet ?_
    exact hp0
  try clear_value x2
  refine State.forEach_within ?_ ?_
  · exact hx2
  · intro u3 u4 hu5
    try beta_reduce
    extract_lets -merge -useContext -underBinder x6 x7
    split
    · exact hu5
    · extract_lets -merge -useContext -underBinder x8
      refine ite_elim (P := Within b) ?_ ?_
      · refine State.forEach_within ?_ ?_
        · exact hu5
        · intro u9 u10 hu11
          try beta_reduce
          refine State.sendPacket_within qevu qnet c2 c3 c4 c5 c6 c7 c8 c9 c10 c11 c12 c13 ?_
          exact hu11
      · refine State.forEach_within ?_ ?_
        · exact hu5
        · intro u12 u13 hu14
          try beta_reduce
          refine State.onNet_within qnet ?_
          exact hu14

theorem State.pictureSent_within {b : Bounds} {p0 p1 p2} (qnet : b.parts .net) (hp0 : Within b p0) : Within b (State.pictureSent p0 p1 p2) := by
  unfold State.pictureSent
  extract_lets -merge -useContext -underBinder x1
  refine ite_elim (P := Within b) ?_ ?_
  · refine State.onNet_within qnet ?_
    exact hp0
  · exact hp0

theorem State.releaseSender_within {b : Bounds} {p0 p1 p2 p3 p4 p5 p6 p7} (qnet : b.parts .net) (qevu : b.parts .evu) (c2 : ∀ (w0 : ℕ), b.regs (O10.SF_FRAMES w0)) (c3 : ∀ k ∈ eventRegs 245, b.regs k) (c4 : b.regs (O0F.PORT_FLAGS (224 + p1 / 256))) (c5 : b.regs (O0F.DROPS (224 + p1 / 256))) (c6 : ∀ k ∈ eventRegs 256, b.regs k) (c7 : ∀ (w0 : ℕ), b.regs (O10.SF_FLAGS w0)) (c8 : ∀ (w0 : ℕ), b.regs (O10.SH_DROPS w0)) (c9 : ∀ (w0 : ℕ), b.regs (O10.CBS_CREDIT w0)) (c10 : ∀ (w0 : ℕ), b.regs (O10.SH_ELIGIBLE w0)) (c11 : ∀ (w0 : ℕ), b.regs (O10.SH_QUEUED w0)) (c12 : ∀ (w0 : ℕ), b.regs (O10.SH_LEVEL w0)) (c13 : b.regs (O0D.SEND_FLAGS p1)) (hp0 : Within b p0) : Within b (State.releaseSender p0 p1 p2 p3 p4 p5 p6 p7) := by
  unfold State.releaseSender
  split
  · split
    · exact hp0
    · extract_lets -merge -useContext -underBinder x1 x2 x3 x4
      have hx4 : Within b x4 := by
        unfold x4
        refine State.onNet_within qnet ?_
        exact hp0
      try clear_value x4
      refine State.pace_within qnet qevu c2 c3 c4 c5 c6 c7 c8 c9 c10 c11 c12 c13 ?_
      exact hx4
  · extract_lets -merge -useContext -underBinder x5
    refine State.pace_within qnet qevu c2 c3 c4 c5 c6 c7 c8 c9 c10 c11 c12 c13 ?_
    refine State.onNet_within qnet ?_
    exact hp0
  · extract_lets -merge -useContext -underBinder x6 x7
    refine State.pictureSent_within qnet ?_
    refine State.pace_within qnet qevu c2 c3 c4 c5 c6 c7 c8 c9 c10 c11 c12 c13 ?_
    exact hp0

theorem State.hearSender_within {b : Bounds} {p0 p1} (qfresh : b.parts .fresh) (qnet : b.parts .net) (hp0 : Within b p0) : Within b (State.hearSender p0 p1) := by
  unfold State.hearSender
  extract_lets -merge -useContext -underBinder x1 x2 x3 x4 x5
  have hx4 : Within2 b x4 := by
    unfold x4
    refine foldl_elim (P := Within2 b) ?_ ?_
    · refine within2_mk ?_
      exact hp0
    · intro u6 u7 hu8
      try beta_reduce
      extract_lets -merge -useContext -underBinder x9
      have hx9 : Within2 b x9 := by
        unfold x9
        refine State.draw_within qfresh ?_
        change Within2 b _
        exact hu8
      try clear_value x9
      refine ite_elim (P := Within2 b) ?_ ?_
      · refine within2_mk ?_
        change Within2 b _
        exact hx9
      · refine within2_mk ?_
        change Within2 b _
        exact hu8
  try clear_value x4
  refine ite_elim (P := Within b) ?_ ?_
  · exact hp0
  · refine State.onNet_within qnet ?_
    change Within2 b _
    exact hx4

theorem State.sendersHear_within {b : Bounds} {p0} (qfresh : b.parts .fresh) (qnet : b.parts .net) (hp0 : Within b p0) : Within b (State.sendersHear p0) := by
  unfold State.sendersHear
  refine ite_elim (P := Within b) ?_ ?_
  · exact hp0
  · refine State.forEach_within ?_ ?_
    · exact hp0
    · intro u1 u2 hu3
      try beta_reduce
      refine State.hearSender_within qfresh qnet ?_
      exact hu3

theorem State.missRelease_within {b : Bounds} {p0 p1} (qnet : b.parts .net) (qevu : b.parts .evu) (c2 : ∀ (w0 : ℕ), b.regs (O10.SF_FRAMES w0)) (c3 : ∀ k ∈ eventRegs 245, b.regs k) (c4 : ∀ (w0 : ℕ), b.regs (O0F.PORT_FLAGS w0)) (c5 : ∀ (w0 : ℕ), b.regs (O0F.DROPS w0)) (c6 : ∀ k ∈ eventRegs 256, b.regs k) (c7 : ∀ (w0 : ℕ), b.regs (O10.SF_FLAGS w0)) (c8 : ∀ (w0 : ℕ), b.regs (O10.SH_DROPS w0)) (c9 : ∀ (w0 : ℕ), b.regs (O10.CBS_CREDIT w0)) (c10 : ∀ (w0 : ℕ), b.regs (O10.SH_ELIGIBLE w0)) (c11 : ∀ (w0 : ℕ), b.regs (O10.SH_QUEUED w0)) (c12 : ∀ (w0 : ℕ), b.regs (O10.SH_LEVEL w0)) (c13 : ∀ (w0 : ℕ), b.regs (O0D.SEND_FLAGS w0)) (hp0 : Within b p0) : Within b (State.missRelease p0 p1) := by
  unfold State.missRelease
  extract_lets -merge -useContext -underBinder x1
  split
  · refine ite_elim (P := Within b) ?_ ?_
    · refine State.releaseSender_within qnet qevu c2 c3 (c4 _) (c5 _) c6 c7 c8 c9 c10 c11 c12 (c13 _) ?_
      exact hp0
    · exact hp0
  · exact hp0

theorem State.ipRefused_within {b : Bounds} {p0 p1} (qevu : b.parts .evu) (c1 : ∀ k ∈ eventRegs 211, b.regs k) (c2 : b.regs O0F.IP_LAST_REFUSAL) (hp0 : Within b p0) : Within b (State.ipRefused p0 p1) := by
  unfold State.ipRefused
  refine State.raise_within qevu c1 ?_
  refine State.setN_within c2 ?_
  exact hp0

theorem execRelease_within {b : Bounds} {p0 p1 p2 p3} (qchain : b.parts .chain) (qnet : b.parts .net) (qevu : b.parts .evu) (c3 : ∀ (w0 : ℕ), b.regs (O10.SF_FRAMES w0)) (c4 : ∀ k ∈ eventRegs 245, b.regs k) (c5 : ∀ (w0 : ℕ), b.regs (O0F.PORT_FLAGS w0)) (c6 : ∀ (w0 : ℕ), b.regs (O0F.DROPS w0)) (c7 : ∀ k ∈ eventRegs 256, b.regs k) (c8 : ∀ (w0 : ℕ), b.regs (O10.SF_FLAGS w0)) (c9 : ∀ (w0 : ℕ), b.regs (O10.SH_DROPS w0)) (c10 : ∀ (w0 : ℕ), b.regs (O10.CBS_CREDIT w0)) (c11 : ∀ (w0 : ℕ), b.regs (O10.SH_ELIGIBLE w0)) (c12 : ∀ (w0 : ℕ), b.regs (O10.SH_QUEUED w0)) (c13 : ∀ (w0 : ℕ), b.regs (O10.SH_LEVEL w0)) (c14 : ∀ (w0 : ℕ), b.regs (O0D.SEND_FLAGS w0)) (hp3 : Within b p3) : WithinOut b (execRelease p0 p1 p2 p3) := by
  unfold execRelease
  refine live_within ?_ ?_
  · exact hp3
  · intro u1 hu2
    try beta_reduce
    extract_lets -merge -useContext -underBinder x3 x4
    refine ite_elim (P := Within b) ?_ ?_
    · refine ite_elim (P := Within b) ?_ ?_
      · refine Within.f_chain (s := u1) qchain ?_
        exact hu2
      · split
        · refine ite_elim (P := Within b) ?_ ?_
          · refine State.releaseSender_within qnet qevu c3 c4 (c5 _) (c6 _) c7 c8 c9 c10 c11 c12 c13 (c14 _) ?_
            exact hu2
          · exact hu2
        · exact hu2
    · exact hu2

theorem execArpReply_within {b : Bounds} {p0 p1 p2 p3} (qnet : b.parts .net) (c1 : ∀ w0, b.regs (O0D.SEND_MACS w0)) (hp3 : Within b p3) : WithinOut b (execArpReply p0 p1 p2 p3) := by
  unfold execArpReply
  refine live_within ?_ ?_
  · exact hp3
  · intro u1 hu1
    try beta_reduce
    refine ite_elim (P := Within b) ?_ ?_
    · exact hu1
    · refine State.forEach_within ?_ ?_
      · exact hu1
      · intro u2 u3 hu2
        try beta_reduce
        refine State.reportMacs_within (c1 _) ?_
        refine State.forEach_within ?_ ?_
        · exact hu2
        · intro u4 u5 hu4
          try beta_reduce
          refine State.onNet_within qnet ?_
          exact hu4

theorem execArpRefresh_within {b : Bounds} {p0 p1 p2} (qevu : b.parts .evu) (qnet : b.parts .net) (c2 : ∀ k ∈ eventRegs 210, b.regs k) (c3 : b.regs (O0D.SEND_FLAGS p0)) (c4 : ∀ (w0 : ℕ), b.regs (O10.CBS_CREDIT w0)) (hp2 : Within b p2) : WithinOut b (execArpRefresh p0 p1 p2) := by
  unfold execArpRefresh
  refine onInst_within ?_ ?_
  · exact hp2
  · intro u1 hu2
    try beta_reduce
    extract_lets -merge -useContext -underBinder x3 x4
    refine ite_elim (P := Within b) ?_ ?_
    · exact hu2
    · refine ite_elim (P := Within b) ?_ ?_
      · refine State.raise_within qevu c2 ?_
        refine State.flag_within c3 ?_
        refine State.onNet_within qnet ?_
        exact hu2
      · refine State.arpRequest_within qnet (c4 _) ?_
        exact hu2

theorem execSenderResolved_within {b : Bounds} {p0 p1} (qevu : b.parts .evu) (qnet : b.parts .net) (c2 : ∀ k ∈ eventRegs 208, b.regs k) (c3 : b.regs (O0D.SEND_STATE p0)) (hp1 : Within b p1) : WithinOut b (execSenderResolved p0 p1) := by
  unfold execSenderResolved
  refine onInst_within ?_ ?_
  · exact hp1
  · intro u1 hu2
    try beta_reduce
    refine ite_elim (P := Within b) ?_ ?_
    · refine State.raise_within qevu c2 ?_
      refine State.senderRuns_within qnet c3 ?_
      exact hu2
    · exact hu2

theorem execSenderHeld_within {b : Bounds} {p0 p1} (qnet : b.parts .net) (qevu : b.parts .evu) (c2 : b.regs (O0D.SEND_STATE p0)) (c3 : ∀ k ∈ eventRegs 209, b.regs k) (c4 : b.regs (O0D.SEND_FLAGS p0)) (hp1 : Within b p1) : WithinOut b (execSenderHeld p0 p1) := by
  unfold execSenderHeld
  refine onInst_within ?_ ?_
  · exact hp1
  · intro u1 hu2
    try beta_reduce
    refine State.resumeSender_within qnet c2 ?_
    refine State.holdSender_within qevu qnet c3 c4 c2 ?_
    exact hu2

theorem State.paceOut_within {b : Bounds} {p0 p1 p2} (qnet : b.parts .net) (qevu : b.parts .evu) (c2 : ∀ (w0 : ℕ), b.regs (O10.SF_FRAMES w0)) (c3 : ∀ k ∈ eventRegs 245, b.regs k) (c4 : b.regs (O0F.PORT_FLAGS (224 + p1 / 256))) (c5 : b.regs (O0F.DROPS (224 + p1 / 256))) (c6 : ∀ k ∈ eventRegs 256, b.regs k) (c7 : ∀ (w0 : ℕ), b.regs (O10.SF_FLAGS w0)) (c8 : ∀ (w0 : ℕ), b.regs (O10.SH_DROPS w0)) (c9 : ∀ (w0 : ℕ), b.regs (O10.CBS_CREDIT w0)) (c10 : ∀ (w0 : ℕ), b.regs (O10.SH_ELIGIBLE w0)) (c11 : ∀ (w0 : ℕ), b.regs (O10.SH_QUEUED w0)) (c12 : ∀ (w0 : ℕ), b.regs (O10.SH_LEVEL w0)) (c13 : b.regs (O0D.SEND_FLAGS p1)) (hp0 : Within b p0) : Within b (State.paceOut p0 p1 p2) := by
  unfold State.paceOut
  extract_lets -merge -useContext -underBinder x1 x2 x3
  have hx3 : Within b x3 := by
    unfold x3
    refine State.onNet_within qnet ?_
    exact hp0
  try clear_value x3
  refine State.forEach_within ?_ ?_
  · exact hx3
  · intro u4 u5 hu6
    try beta_reduce
    refine State.sendPacket_within qevu qnet c2 c3 c4 c5 c6 c7 c8 c9 c10 c11 c12 c13 ?_
    exact hu6

theorem State.wheelServe_within {b : Bounds} {p0 p1} (qnet : b.parts .net) (qevu : b.parts .evu) (c2 : ∀ (w0 : ℕ), b.regs (O10.SF_FRAMES w0)) (c3 : ∀ k ∈ eventRegs 245, b.regs k) (c4 : ∀ (w0 : ℕ), b.regs (O0F.PORT_FLAGS w0)) (c5 : ∀ (w0 : ℕ), b.regs (O0F.DROPS w0)) (c6 : ∀ k ∈ eventRegs 256, b.regs k) (c7 : ∀ (w0 : ℕ), b.regs (O10.SF_FLAGS w0)) (c8 : ∀ (w0 : ℕ), b.regs (O10.SH_DROPS w0)) (c9 : ∀ (w0 : ℕ), b.regs (O10.CBS_CREDIT w0)) (c10 : ∀ (w0 : ℕ), b.regs (O10.SH_ELIGIBLE w0)) (c11 : ∀ (w0 : ℕ), b.regs (O10.SH_QUEUED w0)) (c12 : ∀ (w0 : ℕ), b.regs (O10.SH_LEVEL w0)) (c13 : ∀ (w0 : ℕ), b.regs (O0D.SEND_FLAGS w0)) (hp0 : Within b p0) : Within b (State.wheelServe p0 p1) := by
  unfold State.wheelServe
  refine State.forEach_within ?_ ?_
  · exact hp0
  · intro u1 u2 hu3
    try beta_reduce
    refine ite_elim (P := Within b) ?_ ?_
    · refine State.paceOut_within qnet qevu c2 c3 (c4 _) (c5 _) c6 c7 c8 c9 c10 c11 c12 (c13 _) ?_
      exact hu3
    · refine State.shapeRun_within qnet c9 (c10 _) (c11 _) (c12 _) ?_
      refine State.drainRun_within qnet c9 ?_
      exact hu3

theorem execPacerReleaseSlot_within {b : Bounds} {p0 p1 p2} (qnet : b.parts .net) (qevu : b.parts .evu) (c2 : ∀ (w0 : ℕ), b.regs (O10.SF_FRAMES w0)) (c3 : ∀ k ∈ eventRegs 245, b.regs k) (c4 : ∀ (w0 : ℕ), b.regs (O0F.PORT_FLAGS w0)) (c5 : ∀ (w0 : ℕ), b.regs (O0F.DROPS w0)) (c6 : ∀ k ∈ eventRegs 256, b.regs k) (c7 : ∀ (w0 : ℕ), b.regs (O10.SF_FLAGS w0)) (c8 : ∀ (w0 : ℕ), b.regs (O10.SH_DROPS w0)) (c9 : ∀ (w0 : ℕ), b.regs (O10.CBS_CREDIT w0)) (c10 : ∀ (w0 : ℕ), b.regs (O10.SH_ELIGIBLE w0)) (c11 : ∀ (w0 : ℕ), b.regs (O10.SH_QUEUED w0)) (c12 : ∀ (w0 : ℕ), b.regs (O10.SH_LEVEL w0)) (c13 : ∀ (w0 : ℕ), b.regs (O0D.SEND_FLAGS w0)) (hp2 : Within b p2) : WithinOut b (execPacerReleaseSlot p0 p1 p2) := by
  unfold execPacerReleaseSlot
  refine onInst_within ?_ ?_
  · exact hp2
  · intro u1 hu2
    try beta_reduce
    refine ite_elim (P := Within b) ?_ ?_
    · exact hu2
    · refine State.wheelServe_within qnet qevu c2 c3 c4 c5 c6 c7 c8 c9 c10 c11 c12 c13 ?_
      exact hu2

theorem execShaperEligible_within {b : Bounds} {p0 p1 p2} (qnet : b.parts .net) (qevu : b.parts .evu) (c2 : ∀ (w0 : ℕ), b.regs (O10.CBS_CREDIT w0)) (c3 : ∀ (w0 : ℕ), b.regs (O10.SF_FRAMES w0)) (c4 : ∀ k ∈ eventRegs 245, b.regs k) (c5 : ∀ (w0 : ℕ), b.regs (O0F.PORT_FLAGS w0)) (c6 : ∀ (w0 : ℕ), b.regs (O0F.DROPS w0)) (c7 : ∀ k ∈ eventRegs 256, b.regs k) (c8 : ∀ (w0 : ℕ), b.regs (O10.SF_FLAGS w0)) (c9 : ∀ (w0 : ℕ), b.regs (O10.SH_DROPS w0)) (c10 : ∀ (w0 : ℕ), b.regs (O10.SH_ELIGIBLE w0)) (c11 : ∀ (w0 : ℕ), b.regs (O10.SH_QUEUED w0)) (c12 : ∀ (w0 : ℕ), b.regs (O10.SH_LEVEL w0)) (c13 : ∀ (w0 : ℕ), b.regs (O0D.SEND_FLAGS w0)) (hp2 : Within b p2) : WithinOut b (execShaperEligible p0 p1 p2) := by
  unfold execShaperEligible
  refine live_within ?_ ?_
  · exact hp2
  · intro u1 hu2
    try beta_reduce
    refine ite_elim (P := Within b) ?_ ?_
    · refine State.shapeRun_within qnet c2 (c10 _) (c11 _) (c12 _) ?_
      refine State.drainRun_within qnet c2 ?_
      refine State.wheelServe_within qnet qevu c3 c4 c5 c6 c7 c8 c9 c2 c10 c11 c12 c13 ?_
      exact hu2
    · exact hu2

end Sys2Proof.Machine
end

