-- ==== Sys2Proof/Laws/WithinReceivers.lean ====
section
/-! SUPPORT. What each operation of Machine/Receivers.lean may change at most (Laws/Within.lean). -/

set_option maxRecDepth 8000

namespace Sys2Proof.Machine

theorem State.setRx_within {b : Bounds} {p0 p1 p2} (qnet : b.parts .net) (hp0 : Within b p0) : Within b (State.setRx p0 p1 p2) := by
  unfold State.setRx
  refine State.onNet_within qnet ?_
  exact hp0

theorem State.igmp_within {b : Bounds} {p0 p1 p2 p3} (qnet : b.parts .net) (c1 : b.regs (O10.CBS_CREDIT (2048 + pathPort (p0.rxPath p1 p2)))) (hp0 : Within b p0) : Within b (State.igmp p0 p1 p2 p3) := by
  unfold State.igmp
  extract_lets -merge -useContext -underBinder x1 x2
  refine ite_elim (P := Within b) ?_ ?_
  · exact hp0
  · refine State.sendOwn_within qnet c1 ?_
    exact hp0

theorem State.silence_within {b : Bounds} {p0 p1} (qamx : b.parts .amx) (hp0 : Within b p0) : Within b (State.silence p0 p1) := by
  unfold State.silence
  refine ite_elim (P := Within b) ?_ ?_
  · refine State.forEach_within ?_ ?_
    · exact hp0
    · intro u1 u2 hu1
      try beta_reduce
      refine State.putSrc_within qamx ?_
      exact hu1
  · exact hp0

theorem State.rxApplied_within {b : Bounds} {p0 p1} (qinputs : b.parts .inputs) (qnet : b.parts .net) (qamx : b.parts .amx) (c3 : b.regs (O0E.PATH_STATES (instOf p1))) (c4 : b.regs (O0E.RX_STATE (instOf p1))) (c5 : ∀ (w0 : ℕ), b.regs (O10.CBS_CREDIT w0)) (hp0 : Within b p0) : Within b (State.rxApplied p0 p1) := by
  unfold State.rxApplied
  extract_lets -merge -useContext -underBinder x1 x2 x3 x4 x5 x6
  have hx3 : Within b x3 := by
    unfold x3
    refine State.setInput_within qinputs ?_
    refine State.setRx_within qnet ?_
    exact hp0
  try clear_value x3
  have hx4 : Within b x4 := by
    unfold x4
    refine ite_elim (P := Within b) ?_ ?_
    · exact hp0
    · refine State.igmp_within qnet (c5 _) ?_
      refine State.igmp_within qnet (c5 _) ?_
      exact hp0
  try clear_value x4
  have hx5 : Within b x5 := by
    unfold x5
    refine State.setN_within c3 ?_
    refine State.setN_within c4 ?_
    refine State.silence_within qamx ?_
    exact hx4
  try clear_value x5
  have hx6 : Within b x6 := by
    unfold x6
    refine State.onNet_within qnet ?_
    exact hx5
  try clear_value x6
  refine ite_elim (P := Within b) ?_ ?_
  · refine ite_elim (P := Within b) ?_ ?_
    · refine ite_elim (P := Within b) ?_ ?_
      · exact hp0
      · refine State.igmp_within qnet (c5 _) ?_
        refine State.igmp_within qnet (c5 _) ?_
        refine State.setN_within c4 ?_
        exact hx3
    · refine Within.f_inputs (s := x6) qinputs ?_
      exact hx6
  · refine ite_elim (P := Within b) ?_ ?_
    · refine State.igmp_within qnet (c5 _) ?_
      refine State.igmp_within qnet (c5 _) ?_
      exact hp0
    · exact hp0

theorem State.frameClosed_within {b : Bounds} {p0 p1 p2} (qinputs : b.parts .inputs) (qnet : b.parts .net) (qevu : b.parts .evu) (c3 : ∀ k ∈ eventRegs 224, b.regs k) (c4 : b.regs (O0E.RX_STATE p1)) (c5 : ∀ k ∈ eventRegs 228, b.regs k) (c6 : b.regs (O0E.RX_FLAGS p1)) (hp0 : Within b p0) : Within b (State.frameClosed p0 p1 p2) := by
  unfold State.frameClosed
  extract_lets -merge -useContext -underBinder x1 x2 x3 x4
  have hx2 : Within b x2 := by
    unfold x2
    refine State.setInput_within qinputs ?_
    exact hp0
  try clear_value x2
  have hx4 : Within b x4 := by
    unfold x4
    refine State.setRx_within qnet ?_
    exact hx2
  try clear_value x4
  refine ite_elim (P := Within b) ?_ ?_
  · refine ite_elim (P := Within b) ?_ ?_
    · refine State.raise_within qevu c3 ?_
      refine State.setN_within c4 ?_
      exact hx4
    · refine State.setN_within c4 ?_
      exact hx4
  · refine ite_elim (P := Within b) ?_ ?_
    · exact hx4
    · refine State.raise_within qevu c5 ?_
      refine State.flag_within c6 ?_
      refine State.setN_within c4 ?_
      exact hx4

theorem State.queueGroup_within {b : Bounds} {p0 p1 p2 p3 p4} (qnet : b.parts .net) (hp0 : Within b p0) : Within b (State.queueGroup p0 p1 p2 p3 p4) := by
  unfold State.queueGroup
  extract_lets -merge -useContext -underBinder x1
  refine State.setRx_within qnet ?_
  exact hp0

theorem State.patchField_within {b : Bounds} {p0 p1 p2 p3} (qinputs : b.parts .inputs) (qnet : b.parts .net) (hp0 : Within b p0) : Within b (State.patchField p0 p1 p2 p3) := by
  unfold State.patchField
  extract_lets -merge -useContext -underBinder x1
  refine State.forEach_within ?_ ?_
  · refine State.setInput_within qinputs ?_
    exact hp0
  · intro u2 u3 hu4
    try beta_reduce
    refine State.queueGroup_within qnet ?_
    exact hu4

theorem State.closeGroup_within {b : Bounds} {p0 p1 p2 p3} (qnet : b.parts .net) (qinputs : b.parts .inputs) (hp0 : Within b p0) : Within b (State.closeGroup p0 p1 p2 p3) := by
  unfold State.closeGroup
  extract_lets -merge -useContext -underBinder x1 x2
  split
  · exact hp0
  · extract_lets -merge -useContext -underBinder x3 x4 x5 x6 x7 x8 x9
    have hx8 : Within b x8 := by
      unfold x8
      refine State.setRx_within qnet ?_
      exact hp0
    try clear_value x8
    refine ite_elim (P := Within b) ?_ ?_
    · exact hp0
    · refine ite_elim (P := Within b) ?_ ?_
      · exact hx8
      · refine State.setInput_within qinputs ?_
        exact hx8

theorem State.flushUnits_within {b : Bounds} {p0 p1 p2} (qinputs : b.parts .inputs) (qnet : b.parts .net) (qfabric : b.parts .fabric) (qevu : b.parts .evu) (c4 : ∀ k ∈ eventRegs 224, b.regs k) (c5 : b.regs (O0E.RX_STATE p2)) (c6 : ∀ k ∈ eventRegs 228, b.regs k) (c7 : b.regs (O0E.RX_FLAGS p2)) (c8 : ∀ k ∈ eventRegs 104, b.regs k) (c9 : b.regs (O06.ANC_DROPPED (4096 + p2))) (hp1 : Within b p1) : Within b (State.flushUnits p0 p1 p2) := by
  induction p0 generalizing p1 with
  | zero => exact hp1
  | succ n ih =>
    have frame : ∀ t c, Within b t → Within b (State.frameClosed t p2 c) := fun t c h =>
      State.frameClosed_within qinputs qnet qevu c4 c5 c6 c7 h
    have patch : ∀ t f g, Within b t → Within b (State.patchField t p2 f g) := fun t f g h => State.patchField_within qinputs qnet h
    unfold State.flushUnits
    extract_lets f x
    split
    · exact hp1
    · extract_lets half first
      split
      · exact ih (patch _ _ _ hp1)
      · split
        · exact ih (frame _ _ (patch _ _ _ hp1))
        · split
          · split
            · exact ih (State.setRx_within qnet (State.queueGroup_within qnet hp1))
            · exact hp1
          · refine ih (ite_elim (P := Within b) ?_ ?_)
            · exact State.ancFlush_within qinputs qfabric qevu c8 c9 (State.setRx_within qnet hp1)
            · exact frame _ _ (State.ancFlush_within qinputs qfabric qevu c8 c9 (State.setRx_within qnet hp1))

theorem State.rxPicture_within {b : Bounds} {p0 p1 p2 p3 p4 p5} (qevu : b.parts .evu) (qnet : b.parts .net) (qinputs : b.parts .inputs) (qfabric : b.parts .fabric) (c4 : ∀ k ∈ eventRegs 230, b.regs k) (c5 : b.regs (O0E.RX_FLAGS p1)) (c6 : b.regs (O0E.LATE_PACKETS p1)) (c7 : ∀ k ∈ eventRegs 224, b.regs k) (c8 : b.regs (O0E.RX_STATE p1)) (c9 : ∀ k ∈ eventRegs 228, b.regs k) (c10 : ∀ k ∈ eventRegs 104, b.regs k) (c11 : b.regs (O06.ANC_DROPPED (4096 + p1))) (hp0 : Within b p0) : Within b (State.rxPicture p0 p1 p2 p3 p4 p5) := by
  unfold State.rxPicture
  extract_lets -merge -useContext -underBinder x1 x2 x3 x4 x5 x6 x7 x8 x9 x10 x11
  have hx3 : Within b x3 := by
    unfold x3
    refine State.raiseLim_within qevu c4 ?_
    refine State.flag_within c5 ?_
    refine State.bump_within c6 ?_
    exact hp0
  try clear_value x3
  have hx8 : Within b x8 := by
    unfold x8
    refine ite_elim (P := Within b) ?_ ?_
    · exact hp0
    · exact hx3
  try clear_value x8
  have hx10 : Within b x10 := by
    unfold x10
    refine State.setRx_within qnet ?_
    exact hx8
  try clear_value x10
  refine ite_elim (P := Within b) ?_ ?_
  · exact hx3
  · refine State.flushUnits_within qinputs qnet qfabric qevu c7 c8 c9 c5 c10 c11 ?_
    refine State.forEach_within ?_ ?_
    · exact hx10
    · intro u12 u13 hu14
      try beta_reduce
      refine State.closeGroup_within qnet qinputs ?_
      exact hu14

theorem State.rxLost_within {b : Bounds} {p0 p1} (qinputs : b.parts .inputs) (qnet : b.parts .net) (qfabric : b.parts .fabric) (qevu : b.parts .evu) (c4 : ∀ k ∈ eventRegs 224, b.regs k) (c5 : b.regs (O0E.RX_STATE p1)) (c6 : ∀ k ∈ eventRegs 228, b.regs k) (c7 : b.regs (O0E.RX_FLAGS p1)) (c8 : ∀ k ∈ eventRegs 104, b.regs k) (c9 : b.regs (O06.ANC_DROPPED (4096 + p1))) (c10 : ∀ k ∈ eventRegs 225, b.regs k) (hp0 : Within b p0) : Within b (State.rxLost p0 p1) := by
  unfold State.rxLost
  extract_lets -merge -useContext -underBinder x1 x2
  have hx2 : Within b x2 := by
    unfold x2
    refine State.forEach_within ?_ ?_
    · exact hp0
    · intro u3 u4 hu5
      try beta_reduce
      refine State.flushUnits_within qinputs qnet qfabric qevu c4 c5 c6 c7 c8 c9 ?_
      refine State.forEach_within ?_ ?_
      · exact hu5
      · intro u6 u7 hu8
        try beta_reduce
        refine State.closeGroup_within qnet qinputs ?_
        exact hu8
  try clear_value x2
  refine State.raise_within qevu c10 ?_
  refine State.setN_within c5 ?_
  exact hx2

theorem State.rxAnc_within {b : Bounds} {p0 p1 p2 p3} (qinputs : b.parts .inputs) (qfabric : b.parts .fabric) (qevu : b.parts .evu) (c3 : ∀ k ∈ eventRegs 104, b.regs k) (c4 : b.regs (O06.ANC_DROPPED (4096 + p1))) (hp0 : Within b p0) : Within b (State.rxAnc p0 p1 p2 p3) := by
  unfold State.rxAnc
  extract_lets -merge -useContext -underBinder x1 x2 x3
  have hx3 : Within b x3 := by
    unfold x3
    refine State.forEach_within ?_ ?_
    · exact hp0
    · intro u4 u5 hu6
      try beta_reduce
      extract_lets -merge -useContext -underBinder x7 x8 x9 x10 x11
      have hx7 : Within b x7 := by
        unfold x7
        refine ite_elim (P := Within b) ?_ ?_
        · exact hu6
        · refine State.ancFlush_within qinputs qfabric qevu c3 c4 ?_
          exact hu6
      try clear_value x7
      refine ite_elim (P := Within b) ?_ ?_
      · exact hx7
      · refine State.setInput_within qinputs ?_
        exact hx7
  try clear_value x3
  refine ite_elim (P := Within b) ?_ ?_
  · refine State.ancFlush_within qinputs qfabric qevu c3 c4 ?_
    exact hx3
  · exact hx3

theorem State.ageMissing_within {b : Bounds} {p0 p1 p2} (qevu : b.parts .evu) (qnet : b.parts .net) (c2 : b.regs (O0E.LOST_AB p1)) (c3 : ∀ k ∈ eventRegs 229, b.regs k) (c4 : b.regs (O0E.RX_FLAGS p1)) (c5 : b.regs (O0E.UNRECOVERED p1)) (hp0 : Within b p0) : Within b (State.ageMissing p0 p1 p2) := by
  unfold State.ageMissing
  extract_lets -merge -useContext -underBinder x1 x2 x3 x4 x5 x6 x7 x8 x9 x10
  have hx10 : Within b x10 := by
    unfold x10
    refine State.bumpPair_within c2 ?_
    refine State.setRx_within qnet ?_
    exact hp0
  try clear_value x10
  refine ite_elim (P := Within b) ?_ ?_
  · exact hp0
  · refine ite_elim (P := Within b) ?_ ?_
    · exact hx10
    · refine State.raiseLim_within qevu c3 ?_
      refine State.flag_within c4 ?_
      refine State.bump_within c5 ?_
      exact hx10

theorem State.reportSkew_within {b : Bounds} {p0 p1} (qevu : b.parts .evu) (qnet : b.parts .net) (c2 : b.regs (O0E.SKEW p1)) (c3 : ∀ k ∈ eventRegs 232, b.regs k) (c4 : b.regs (O0E.RX_FLAGS p1)) (hp0 : Within b p0) : Within b (State.reportSkew p0 p1) := by
  unfold State.reportSkew
  extract_lets -merge -useContext -underBinder x1 x2 x3
  have hx3 : Within b x3 := by
    unfold x3
    refine State.setZ_within c2 ?_
    refine State.setRx_within qnet ?_
    exact hp0
  try clear_value x3
  refine ite_elim (P := Within b) ?_ ?_
  · exact hp0
  · refine ite_elim (P := Within b) ?_ ?_
    · refine State.raise_within qevu c3 ?_
      refine State.flag_within c4 ?_
      exact hx3
    · exact hx3

theorem State.rxTick_within {b : Bounds} {p0} (qevu : b.parts .evu) (qnet : b.parts .net) (c2 : ∀ w0, b.regs (O0E.LOST_AB w0)) (c3 : ∀ k ∈ eventRegs 229, b.regs k) (c4 : ∀ w0, b.regs (O0E.RX_FLAGS w0)) (c5 : ∀ w0, b.regs (O0E.UNRECOVERED w0)) (c6 : ∀ w0, b.regs (O0E.SKEW w0)) (c7 : ∀ k ∈ eventRegs 232, b.regs k) (hp0 : Within b p0) : Within b (State.rxTick p0) := by
  unfold State.rxTick
  refine State.forEach_within ?_ ?_
  · exact hp0
  · intro u1 u2 hu1
    try beta_reduce
    extract_lets -merge -useContext -underBinder x3
    have hx3 : Within b x3 := by
      unfold x3
      refine State.ageMissing_within qevu qnet (c2 _) c3 (c4 _) (c5 _) ?_
      refine State.ageMissing_within qevu qnet (c2 _) c3 (c4 _) (c5 _) ?_
      exact hu1
    try clear_value x3
    refine ite_elim (P := Within b) ?_ ?_
    · refine State.reportSkew_within qevu qnet (c6 _) c7 (c4 _) ?_
      exact hx3
    · exact hx3

theorem State.rxAudio_within {b : Bounds} {p0 p1 p2 p3} (qevu : b.parts .evu) (qnet : b.parts .net) (c2 : ∀ k ∈ eventRegs 230, b.regs k) (c3 : b.regs (O0E.RX_FLAGS p1)) (c4 : b.regs (O0E.LATE_PACKETS p1)) (c5 : ∀ k ∈ eventRegs 231, b.regs k) (c6 : b.regs (O0E.EARLY p1)) (hp0 : Within b p0) : Within b (State.rxAudio p0 p1 p2 p3) := by
  unfold State.rxAudio
  extract_lets -merge -useContext -underBinder x1 x2 x3 x4 x5
  refine ite_elim (P := Within b) ?_ ?_
  · refine State.raiseLim_within qevu c2 ?_
    refine State.flag_within c3 ?_
    refine State.bump_within c4 ?_
    exact hp0
  · refine ite_elim (P := Within b) ?_ ?_
    · refine State.raise_within qevu c5 ?_
      refine State.flag_within c3 ?_
      refine State.bump_within c6 ?_
      exact hp0
    · refine State.setRx_within qnet ?_
      exact hp0

theorem State.rxDeliver_within {b : Bounds} {p0 p1} (qfresh : b.parts .fresh) (qamx : b.parts .amx) (qnet : b.parts .net) (hp0 : Within b p0) : Within b (State.rxDeliver p0 p1) := by
  unfold State.rxDeliver
  extract_lets -merge -useContext -underBinder x1 x2 x3 x4 x5
  split
  · extract_lets -merge -useContext -underBinder x6 x7 x8
    have hx8 : Within b x8 := by
      unfold x8
      refine State.setRx_within qnet ?_
      exact hp0
    try clear_value x8
    refine State.forEach_within ?_ ?_
    · exact hx8
    · intro u9 u10 hu9
      try beta_reduce
      extract_lets -merge -useContext -underBinder x11
      have hx11 : Within2 b x11 := by
        unfold x11
        refine State.draw_within qfresh ?_
        exact hu9
      try clear_value x11
      refine ite_elim (P := Within b) ?_ ?_
      · refine State.putSrc_within qamx ?_
        change Within2 b _
        exact hx11
      · refine State.putSrc_within qamx ?_
        exact hu9
  · extract_lets -merge -useContext -underBinder x12 x13
    have hx13 : Within b x13 := by
      unfold x13
      refine State.setRx_within qnet ?_
      exact hp0
    try clear_value x13
    refine State.forEach_within ?_ ?_
    · exact hx13
    · intro u14 u15 hu14
      try beta_reduce
      refine State.putSrc_within qamx ?_
      exact hu14

theorem State.rxPeriod_within {b : Bounds} {p0} (qfresh : b.parts .fresh) (qamx : b.parts .amx) (qnet : b.parts .net) (hp0 : Within b p0) : Within b (State.rxPeriod p0) := by
  unfold State.rxPeriod
  refine State.forEach_within ?_ ?_
  · exact hp0
  · intro u1 u2 hu1
    try beta_reduce
    refine ite_elim (P := Within b) ?_ ?_
    · refine State.rxDeliver_within qfresh qamx qnet ?_
      exact hu1
    · exact hu1

theorem State.rxData_within {b : Bounds} {p0 p1 p2 p3 p4 p5} (qsent : b.parts .sent) (qnet : b.parts .net) (c2 : b.regs (O0E.DROPS p1)) (hp0 : Within b p0) : Within b (State.rxData p0 p1 p2 p3 p4 p5) := by
  unfold State.rxData
  extract_lets -merge -useContext -underBinder x1 x2 x3
  refine ite_elim (P := Within b) ?_ ?_
  · refine State.bump_within c2 ?_
    exact hp0
  · refine State.emit_within qsent ?_
    refine State.setRx_within qnet ?_
    exact hp0

theorem State.pathActive_within {b : Bounds} {p0 p1 p2} (qevu : b.parts .evu) (c1 : ∀ k ∈ eventRegs 227, b.regs k) (c2 : b.regs (O0E.PATH_STATES p1)) (hp0 : Within b p0) : Within b (State.pathActive p0 p1 p2) := by
  unfold State.pathActive
  refine ite_elim (P := Within b) ?_ ?_
  · exact hp0
  · refine State.raise_within qevu c1 ?_
    refine State.setN_within c2 ?_
    exact hp0

theorem State.pathSeen_within {b : Bounds} {p0 p1 p2} (qevu : b.parts .evu) (qnet : b.parts .net) (c2 : ∀ k ∈ eventRegs 227, b.regs k) (c3 : b.regs (O0E.PATH_STATES p1)) (hp0 : Within b p0) : Within b (State.pathSeen p0 p1 p2) := by
  unfold State.pathSeen
  extract_lets -merge -useContext -underBinder x1
  refine State.pathActive_within qevu c2 c3 ?_
  refine State.setRx_within qnet ?_
  exact hp0

theorem State.missSamples_within {b : Bounds} {p0 p1} (qnet : b.parts .net) (hp0 : Within b p0) : Within b (State.missSamples p0 p1) := by
  unfold State.missSamples
  extract_lets -merge -useContext -underBinder x1
  refine ite_elim (P := Within b) ?_ ?_
  · refine State.setRx_within qnet ?_
    exact hp0
  · exact hp0

theorem execIgmpQuery_within {b : Bounds} {p0 p1 p2} (qnet : b.parts .net) (c1 : ∀ (w0 : ℕ), b.regs (O10.CBS_CREDIT w0)) (hp2 : Within b p2) : WithinOut b (execIgmpQuery p0 p1 p2) := by
  unfold execIgmpQuery
  refine live_within ?_ ?_
  · exact hp2
  · intro u1 hu2
    try beta_reduce
    extract_lets -merge -useContext -underBinder x3
    have hx3 : Within b x3 := by
      unfold x3
      refine ite_elim (P := Within b) ?_ ?_
      · refine State.onNet_within qnet ?_
        exact hu2
      · exact hu2
    try clear_value x3
    refine ite_elim (P := Within b) ?_ ?_
    · exact hu2
    · refine State.forEach_within ?_ ?_
      · exact hx3
      · intro u4 u5 hu6
        try beta_reduce
        refine State.forEach_within ?_ ?_
        · exact hu6
        · intro u7 u8 hu9
          try beta_reduce
          refine State.igmp_within qnet (c1 _) ?_
          exact hu9

theorem State.rxHeard_within {b : Bounds} {p0 p1} (qevu : b.parts .evu) (c1 : ∀ k ∈ eventRegs 224, b.regs k) (c2 : b.regs (O0E.RX_STATE p1)) (hp0 : Within b p0) : Within b (State.rxHeard p0 p1) := by
  unfold State.rxHeard
  refine ite_elim (P := Within b) ?_ ?_
  · refine State.raise_within qevu c1 ?_
    refine State.setN_within c2 ?_
    exact hp0
  · exact hp0

theorem State.rxSdi_within {b : Bounds} {p0 p1 p2 p3 p4} (qevu : b.parts .evu) (qnet : b.parts .net) (qinputs : b.parts .inputs) (qfabric : b.parts .fabric) (c4 : ∀ k ∈ eventRegs 230, b.regs k) (c5 : b.regs (O0E.RX_FLAGS p1)) (c6 : b.regs (O0E.LATE_PACKETS p1)) (c7 : ∀ k ∈ eventRegs 224, b.regs k) (c8 : b.regs (O0E.RX_STATE p1)) (c9 : ∀ k ∈ eventRegs 228, b.regs k) (c10 : ∀ k ∈ eventRegs 104, b.regs k) (c11 : b.regs (O06.ANC_DROPPED (4096 + p1))) (hp0 : Within b p0) : Within b (State.rxSdi p0 p1 p2 p3 p4) := by
  unfold State.rxSdi
  extract_lets -merge -useContext -underBinder x1 x2 x3 x4
  have hx4 : Within b x4 := by
    unfold x4
    refine State.rxPicture_within qevu qnet qinputs qfabric c4 c5 c6 c7 c8 c9 c10 c11 ?_
    exact hp0
  try clear_value x4
  refine ite_elim (P := Within b) ?_ ?_
  · refine State.rxPicture_within qevu qnet qinputs qfabric c4 c5 c6 c7 c8 c9 c10 c11 ?_
    exact hx4
  · exact hx4

theorem State.rxVideo_within {b : Bounds} {p0 p1 p2} (qevu : b.parts .evu) (qnet : b.parts .net) (qinputs : b.parts .inputs) (qfabric : b.parts .fabric) (c4 : ∀ k ∈ eventRegs 230, b.regs k) (c5 : b.regs (O0E.RX_FLAGS p1)) (c6 : b.regs (O0E.LATE_PACKETS p1)) (c7 : ∀ k ∈ eventRegs 224, b.regs k) (c8 : b.regs (O0E.RX_STATE p1)) (c9 : ∀ k ∈ eventRegs 228, b.regs k) (c10 : ∀ k ∈ eventRegs 104, b.regs k) (c11 : b.regs (O06.ANC_DROPPED (4096 + p1))) (hp0 : Within b p0) : Within b (State.rxVideo p0 p1 p2) := by
  unfold State.rxVideo
  extract_lets -merge -useContext -underBinder x1 x2 x3
  refine State.rxPicture_within qevu qnet qinputs qfabric c4 c5 c6 c7 c8 c9 c10 c11 ?_
  exact hp0

theorem State.rxPayload_within {b : Bounds} {p0 p1 p2 p3 p4 p5} (qevu : b.parts .evu) (qnet : b.parts .net) (qinputs : b.parts .inputs) (qfabric : b.parts .fabric) (c4 : ∀ k ∈ eventRegs 230, b.regs k) (c5 : b.regs (O0E.RX_FLAGS p1)) (c6 : b.regs (O0E.LATE_PACKETS p1)) (c7 : ∀ k ∈ eventRegs 224, b.regs k) (c8 : b.regs (O0E.RX_STATE p1)) (c9 : ∀ k ∈ eventRegs 228, b.regs k) (c10 : ∀ k ∈ eventRegs 104, b.regs k) (c11 : b.regs (O06.ANC_DROPPED (4096 + p1))) (c12 : ∀ k ∈ eventRegs 231, b.regs k) (c13 : b.regs (O0E.EARLY p1)) (hp0 : Within b p0) : Within b (State.rxPayload p0 p1 p2 p3 p4 p5) := by
  unfold State.rxPayload
  split
  · refine State.rxVideo_within qevu qnet qinputs qfabric c4 c5 c6 c7 c8 c9 c10 c11 ?_
    exact hp0
  · refine State.rxSdi_within qevu qnet qinputs qfabric c4 c5 c6 c7 c8 c9 c10 c11 ?_
    exact hp0
  · refine State.rxHeard_within qevu c7 c8 ?_
    refine State.rxAnc_within qinputs qfabric qevu c10 c11 ?_
    exact hp0
  · refine State.rxHeard_within qevu c7 c8 ?_
    refine State.rxAudio_within qevu qnet c4 c5 c6 c12 c13 ?_
    exact hp0

theorem State.rxMerge_within {b : Bounds} {p0 p1 p2 p3 p4 p5 p6 p7} (qnet : b.parts .net) (qevu : b.parts .evu) (qinputs : b.parts .inputs) (qfabric : b.parts .fabric) (c4 : ∀ k ∈ eventRegs 230, b.regs k) (c5 : b.regs (O0E.RX_FLAGS p1)) (c6 : b.regs (O0E.LATE_PACKETS p1)) (c7 : ∀ k ∈ eventRegs 224, b.regs k) (c8 : b.regs (O0E.RX_STATE p1)) (c9 : ∀ k ∈ eventRegs 228, b.regs k) (c10 : ∀ k ∈ eventRegs 104, b.regs k) (c11 : b.regs (O06.ANC_DROPPED (4096 + p1))) (c12 : ∀ k ∈ eventRegs 231, b.regs k) (c13 : b.regs (O0E.EARLY p1)) (hp0 : Within b p0) : Within b (State.rxMerge p0 p1 p2 p3 p4 p5 p6 p7) := by
  unfold State.rxMerge
  extract_lets -merge -useContext -underBinder x1 x2 x3 x4
  split
  · extract_lets -merge -useContext -underBinder x5
    refine ite_elim (P := Within b) ?_ ?_
    · refine State.setRx_within qnet ?_
      exact hp0
    · refine State.setRx_within qnet ?_
      exact hp0
  · refine State.rxPayload_within qevu qnet qinputs qfabric c4 c5 c6 c7 c8 c9 c10 c11 c12 c13 ?_
    refine State.setRx_within qnet ?_
    exact hp0

theorem execRtpPacketRx_within {b : Bounds} {p0 p1 p2 p3 p4 p5 p6 p7 p8 p9} (qevu : b.parts .evu) (qsent : b.parts .sent) (qnet : b.parts .net) (qinputs : b.parts .inputs) (qfabric : b.parts .fabric) (c5 : ∀ k ∈ eventRegs 224, b.regs k) (c6 : b.regs (O0E.RX_STATE p0)) (c7 : b.regs (O0E.DROPS p0)) (c8 : ∀ k ∈ eventRegs 227, b.regs k) (c9 : b.regs (O0E.PATH_STATES p0)) (c10 : ∀ k ∈ eventRegs 233, b.regs k) (c11 : b.regs (O0E.WRONG_PT p0)) (c12 : ∀ k ∈ eventRegs 230, b.regs k) (c13 : b.regs (O0E.RX_FLAGS p0)) (c14 : b.regs (O0E.LATE_PACKETS p0)) (c15 : ∀ k ∈ eventRegs 228, b.regs k) (c16 : ∀ k ∈ eventRegs 104, b.regs k) (c17 : b.regs (O06.ANC_DROPPED (4096 + p0))) (c18 : ∀ k ∈ eventRegs 231, b.regs k) (c19 : b.regs (O0E.EARLY p0)) (hp9 : Within b p9) : WithinOut b (execRtpPacketRx p0 p1 p2 p3 p4 p5 p6 p7 p8 p9) := by
  unfold execRtpPacketRx
  refine onInst_within ?_ ?_
  · exact hp9
  · intro u1 hu2
    try beta_reduce
    extract_lets -merge -useContext -underBinder x3
    refine ite_elim (P := Within b) ?_ ?_
    · exact hu2
    · refine ite_elim (P := Within b) ?_ ?_
      · exact hu2
      · refine ite_elim (P := Within b) ?_ ?_
        · refine State.rxHeard_within qevu c5 c6 ?_
          refine State.rxData_within qsent qnet c7 ?_
          refine State.pathSeen_within qevu qnet c8 c9 ?_
          exact hu2
        · split
          · exact hu2
          · refine ite_elim (P := Within b) ?_ ?_
            · refine State.raiseLim_within qevu c10 ?_
              refine State.bump_within c11 ?_
              exact hu2
            · refine State.rxMerge_within qnet qevu qinputs qfabric c12 c13 c14 c5 c6 c15 c16 c17 c18 c19 ?_
              refine State.pathSeen_within qevu qnet c8 c9 ?_
              exact hu2

theorem execPathTimeout_within {b : Bounds} {p0 p1 p2} (qevu : b.parts .evu) (qinputs : b.parts .inputs) (qnet : b.parts .net) (qfabric : b.parts .fabric) (c4 : b.regs (O0E.PATH_STATES p0)) (c5 : ∀ k ∈ eventRegs 226, b.regs k) (c6 : b.regs (O0E.RX_FLAGS p0)) (c7 : ∀ k ∈ eventRegs 224, b.regs k) (c8 : b.regs (O0E.RX_STATE p0)) (c9 : ∀ k ∈ eventRegs 228, b.regs k) (c10 : ∀ k ∈ eventRegs 104, b.regs k) (c11 : b.regs (O06.ANC_DROPPED (4096 + p0))) (c12 : ∀ k ∈ eventRegs 225, b.regs k) (hp2 : Within b p2) : WithinOut b (execPathTimeout p0 p1 p2) := by
  unfold execPathTimeout
  refine onInst_within ?_ ?_
  · exact hp2
  · intro u1 hu2
    try beta_reduce
    extract_lets -merge -useContext -underBinder x3 x4 x5
    have hx4 : Within b x4 := by
      unfold x4
      refine State.setN_within c4 ?_
      exact hu2
    try clear_value x4
    have hx5 : Within b x5 := by
      unfold x5
      refine State.raise_within qevu c5 ?_
      refine State.flag_within c6 ?_
      exact hx4
    try clear_value x5
    refine ite_elim (P := Within b) ?_ ?_
    · exact hu2
    · refine ite_elim (P := Within b) ?_ ?_
      · refine State.rxLost_within qinputs qnet qfabric qevu c7 c8 c9 c6 c10 c11 c12 ?_
        exact hx5
      · exact hx5

theorem execLineGroupClosure_within {b : Bounds} {p0 p1} (qinputs : b.parts .inputs) (qnet : b.parts .net) (qfabric : b.parts .fabric) (qevu : b.parts .evu) (c4 : ∀ k ∈ eventRegs 224, b.regs k) (c5 : b.regs (O0E.RX_STATE p0)) (c6 : ∀ k ∈ eventRegs 228, b.regs k) (c7 : b.regs (O0E.RX_FLAGS p0)) (c8 : ∀ k ∈ eventRegs 104, b.regs k) (c9 : b.regs (O06.ANC_DROPPED (4096 + p0))) (hp1 : Within b p1) : WithinOut b (execLineGroupClosure p0 p1) := by
  unfold execLineGroupClosure
  refine onInst_within ?_ ?_
  · exact hp1
  · intro u1 hu2
    try beta_reduce
    extract_lets -merge -useContext -underBinder x3 x4 x5 x6 x7
    refine ite_elim (P := Within b) ?_ ?_
    · exact hu2
    · refine State.flushUnits_within qinputs qnet qfabric qevu c4 c5 c6 c7 c8 c9 ?_
      refine State.forEach_within ?_ ?_
      · exact hu2
      · intro u8 u9 hu10
        try beta_reduce
        refine State.closeGroup_within qnet qinputs ?_
        exact hu10

end Sys2Proof.Machine
end

