-- ==== Sys2Proof/Laws/WithinFurlongs.lean ====
section
/-! SUPPORT. What each operation of Machine/Furlongs.lean may change at most (Laws/Within.lean). -/

set_option maxRecDepth 8000

namespace Sys2Proof.Machine

theorem State.onDomain_within {b : Bounds} {p0 p1} (qdomain : b.parts .domain) (hp0 : Within b p0) : Within b (State.onDomain p0 p1) := by
  unfold State.onDomain
  refine Within.f_domain (s := p0) qdomain ?_
  exact hp0

theorem State.furlongSeam_within {b : Bounds} {p0} (qfurlongs : b.parts .furlongs) (qsent : b.parts .sent) (hp0 : Within b p0) : Within b (State.furlongSeam p0) := by
  unfold State.furlongSeam
  refine State.forEach_within ?_ ?_
  · exact hp0
  · intro u1 u2 hu3
    try beta_reduce
    extract_lets -merge -useContext -underBinder x4 x5
    have hx4 : Within b x4 := by
      unfold x4
      refine State.sealGroup_within qfurlongs qsent ?_
      exact hu3
    try clear_value x4
    refine ite_elim (P := Within b) ?_ ?_
    · exact hx4
    · refine State.setFurlong_within qfurlongs ?_
      exact hx4

theorem State.furlongFault_within {b : Bounds} {p0 p1} (qfurlongs : b.parts .furlongs) (c1 : b.regs (O12.FURLONG_STATE p1)) (hp0 : Within b p0) : Within b (State.furlongFault p0 p1) := by
  unfold State.furlongFault
  extract_lets -merge -useContext -underBinder x1
  refine State.setFurlong_within qfurlongs ?_
  refine State.setN_within c1 ?_
  exact hp0

theorem State.furlongWake_within {b : Bounds} {p0 p1} (qfurlongs : b.parts .furlongs) (c1 : b.regs (O12.FURLONG_STATE p1)) (hp0 : Within b p0) : Within b (State.furlongWake p0 p1) := by
  unfold State.furlongWake
  extract_lets -merge -useContext -underBinder x1
  refine ite_elim (P := Within b) ?_ ?_
  · refine State.setFurlong_within qfurlongs ?_
    refine State.setN_within c1 ?_
    exact hp0
  · exact hp0

theorem State.damaged_within {b : Bounds} {p0 p1 p2} (qevu : b.parts .evu) (qchain : b.parts .chain) (qfabric : b.parts .fabric) (c3 : ∀ k ∈ eventRegs 292, b.regs k) (c4 : b.regs (O12.TRUNK_FLAGS p1)) (c5 : b.regs (O12.PCRC_ERRORS p1)) (c6 : ∀ k ∈ eventRegs 297, b.regs k) (c7 : b.regs (O12.RELAY_DROPS p1)) (hp0 : Within b p0) : Within b (State.damaged p0 p1 p2) := by
  unfold State.damaged
  extract_lets -merge -useContext -underBinder x1
  have hx1 : Within b x1 := by
    unfold x1
    refine State.raiseLim_within qevu c3 ?_
    refine State.flag_within c4 ?_
    refine State.bump_within c5 ?_
    exact hp0
  try clear_value x1
  split
  · split
    · refine State.substitute_within qchain qfabric ?_
      exact hx1
    · exact hx1
  · refine State.raiseLim_within qevu c6 ?_
    refine State.bump_within c7 ?_
    exact hx1
  · exact hx1

theorem State.goodCell_within {b : Bounds} {p0 p1 p2 p3} (qfabric : b.parts .fabric) (qevu : b.parts .evu) (qchain : b.parts .chain) (qfurlongs : b.parts .furlongs) (c4 : ∀ k ∈ eventRegs 292, b.regs k) (c5 : b.regs (O12.TRUNK_FLAGS p1)) (c6 : b.regs (O12.PCRC_ERRORS p1)) (c7 : ∀ k ∈ eventRegs 297, b.regs k) (c8 : b.regs (O12.RELAY_DROPS p1)) (hp0 : Within b p0) : Within b (State.goodCell p0 p1 p2 p3) := by
  unfold State.goodCell
  extract_lets -merge -useContext -underBinder x1 x2 x3 x4 x5
  have hx1 : Within b x1 := by
    unfold x1
    refine ite_elim (P := Within b) ?_ ?_
    · split
      · refine State.trunkIn_within qfabric ?_
        exact hp0
      · exact hp0
    · exact hp0
  try clear_value x1
  refine ite_elim (P := Within b) ?_ ?_
  · exact hx1
  · refine ite_elim (P := Within b) ?_ ?_
    · refine State.damaged_within qevu qchain qfabric c4 c5 c6 c7 c8 ?_
      refine State.setFurlong_within qfurlongs ?_
      exact hx1
    · refine State.setFurlong_within qfurlongs ?_
      exact hx1

theorem State.cellIn_within {b : Bounds} {p0 p1 p2 p3} (qevu : b.parts .evu) (qchain : b.parts .chain) (qfabric : b.parts .fabric) (qfurlongs : b.parts .furlongs) (c4 : b.regs (O12.CELLS_IO p1)) (c5 : ∀ k ∈ eventRegs 292, b.regs k) (c6 : b.regs (O12.TRUNK_FLAGS p1)) (c7 : b.regs (O12.PCRC_ERRORS p1)) (c8 : ∀ k ∈ eventRegs 297, b.regs k) (c9 : b.regs (O12.RELAY_DROPS p1)) (hp0 : Within b p0) : Within b (State.cellIn p0 p1 p2 p3) := by
  unfold State.cellIn
  extract_lets -merge -useContext -underBinder x1 x2 x3
  have hx2 : Within b x2 := by
    unfold x2
    refine ite_elim (P := Within b) ?_ ?_
    · exact hp0
    · refine State.bumpPair_within c4 ?_
      exact hp0
  try clear_value x2
  refine ite_elim (P := Within b) ?_ ?_
  · refine State.damaged_within qevu qchain qfabric c5 c6 c7 c8 c9 ?_
    exact hx2
  · refine ite_elim (P := Within b) ?_ ?_
    · refine State.setFurlong_within qfurlongs ?_
      exact hx2
    · refine State.goodCell_within qfabric qevu qchain qfurlongs c5 c6 c7 c8 c9 ?_
      exact hx2

theorem State.delayUpdate_within {b : Bounds} {p0 p1} (qevu : b.parts .evu) (qfurlongs : b.parts .furlongs) (c2 : b.regs (O12.FURLONG_DELAY p1)) (c3 : ∀ k ∈ eventRegs 294, b.regs k) (c4 : b.regs (O12.TRUNK_FLAGS p1)) (hp0 : Within b p0) : Within b (State.delayUpdate p0 p1) := by
  unfold State.delayUpdate
  extract_lets -merge -useContext -underBinder x1 x2 x3 x4 x5 x6
  have hx3 : Within b x3 := by
    unfold x3
    refine State.setFurlong_within qfurlongs ?_
    refine State.setN_within c2 ?_
    exact hp0
  try clear_value x3
  have hx6 : Within b x6 := by
    unfold x6
    refine State.setFurlong_within qfurlongs ?_
    exact hx3
  try clear_value x6
  refine ite_elim (P := Within b) ?_ ?_
  · exact hp0
  · refine ite_elim (P := Within b) ?_ ?_
    · refine ite_elim (P := Within b) ?_ ?_
      · refine State.raise_within qevu c3 ?_
        refine State.flag_within c4 ?_
        exact hx6
      · exact hx6
    · exact hx3

theorem State.beaconFurlong_within {b : Bounds} {p0 p1 p2 p3} (qevu : b.parts .evu) (qfurlongs : b.parts .furlongs) (c2 : ∀ k ∈ eventRegs 298, b.regs k) (c3 : b.regs (O12.FURLONG_STATE p1)) (c4 : b.regs (O12.FURLONG_DELAY p1)) (c5 : ∀ k ∈ eventRegs 294, b.regs k) (c6 : b.regs (O12.TRUNK_FLAGS p1)) (hp0 : Within b p0) : Within b (State.beaconFurlong p0 p1 p2 p3) := by
  unfold State.beaconFurlong
  extract_lets -merge -useContext -underBinder x1 x2 x3 x4 x5 x6 x7
  have hx7 : Within b x7 := by
    unfold x7
    refine State.setFurlong_within qfurlongs ?_
    exact hp0
  try clear_value x7
  refine ite_elim (P := Within b) ?_ ?_
  · refine State.raise_within qevu c2 ?_
    refine State.setFurlong_within qfurlongs ?_
    refine State.setN_within c3 ?_
    exact hx7
  · refine State.delayUpdate_within qevu qfurlongs c4 c5 c6 ?_
    exact hx7

theorem State.furlongLost_within {b : Bounds} {p0 p1} (qevu : b.parts .evu) (c1 : ∀ k ∈ eventRegs 289, b.regs k) (c2 : b.regs (O12.TRUNK_FLAGS p1)) (c3 : b.regs (O12.FURLONG_STATE p1)) (hp0 : Within b p0) : Within b (State.furlongLost p0 p1) := by
  unfold State.furlongLost
  refine State.raise_within qevu c1 ?_
  refine State.flag_within c2 ?_
  refine State.setN_within c3 ?_
  exact hp0

theorem State.furlongApplied_within {b : Bounds} {p0 p1} (qfurlongs : b.parts .furlongs) (c1 : b.regs (O12.FURLONG_STATE (Sys2Proof.Machine.instOf p1))) (c2 : b.regs (O12.MEDIA_CAPACITY (Sys2Proof.Machine.instOf p1))) (hp0 : Within b p0) : Within b (State.furlongApplied p0 p1) := by
  unfold State.furlongApplied
  extract_lets -merge -useContext -underBinder x1
  split
  · refine ite_elim (P := Within b) ?_ ?_
    · refine ite_elim (P := Within b) ?_ ?_
      · refine State.furlongWake_within qfurlongs c1 ?_
        refine State.setN_within c1 ?_
        exact hp0
      · exact hp0
    · refine State.setN_within c1 ?_
      exact hp0
  · refine State.setN_within c2 ?_
    exact hp0
  · exact hp0

theorem State.dropTrunkKeys_within {b : Bounds} {p0 p1 p2} (qevu : b.parts .evu) (qfurlongs : b.parts .furlongs) (c2 : ∀ k ∈ eventRegs 296, b.regs k) (c3 : ∀ w0, b.regs (O12.TRUNK_FLAGS w0)) (c4 : ∀ w0, b.regs (O12.FURLONG_STATE w0)) (hp0 : Within b p0) : Within b (State.dropTrunkKeys p0 p1 p2) := by
  unfold State.dropTrunkKeys
  refine State.forEach_within ?_ ?_
  · exact hp0
  · intro u1 u2 hu1
    try beta_reduce
    extract_lets -merge -useContext -underBinder x3 x4 x5
    have hx5 : Within b x5 := by
      unfold x5
      refine State.raise_within qevu c2 ?_
      refine State.flag_within (c3 _) ?_
      refine State.setFurlong_within qfurlongs ?_
      exact hu1
    try clear_value x5
    refine ite_elim (P := Within b) ?_ ?_
    · exact hu1
    · refine ite_elim (P := Within b) ?_ ?_
      · refine State.furlongFault_within qfurlongs (c4 _) ?_
        exact hx5
      · exact hx5

theorem State.sendRecords_within {b : Bounds} {p0 p1 p2 p3 p4 p5 p6} (qsent : b.parts .sent) (qfurlongs : b.parts .furlongs) (c2 : ∀ (w0 : ℕ), b.regs (O12.CELLS_IO w0)) (hp0 : Within b p0) : Within b (State.sendRecords p0 p1 p2 p3 p4 p5 p6) := by
  unfold State.sendRecords
  refine State.forEach_within ?_ ?_
  · exact hp0
  · intro u1 u2 hu3
    try beta_reduce
    refine State.forEach_within ?_ ?_
    · exact hu3
    · intro u4 u5 hu6
      try beta_reduce
      refine State.sendCell_within qsent qfurlongs (c2 _) ?_
      exact hu6

theorem State.sendUp_within {b : Bounds} {p0 p1 p2 p3 p4} (qsent : b.parts .sent) (qfurlongs : b.parts .furlongs) (c2 : ∀ (w0 : ℕ), b.regs (O12.CELLS_IO w0)) (hp0 : Within b p0) : Within b (State.sendUp p0 p1 p2 p3 p4) := by
  unfold State.sendUp
  refine State.sendRecords_within qsent qfurlongs c2 ?_
  exact hp0

theorem State.sendDown_within {b : Bounds} {p0 p1 p2 p3 p4} (qsent : b.parts .sent) (qfurlongs : b.parts .furlongs) (c2 : ∀ (w0 : ℕ), b.regs (O12.CELLS_IO w0)) (hp0 : Within b p0) : Within b (State.sendDown p0 p1 p2 p3 p4) := by
  unfold State.sendDown
  refine State.sendRecords_within qsent qfurlongs c2 ?_
  exact hp0

theorem State.relayed_within {b : Bounds} {p0 p1 p2 p3 p4 p5} (qsent : b.parts .sent) (qfurlongs : b.parts .furlongs) (c2 : ∀ (w0 : ℕ), b.regs (O12.CELLS_IO w0)) (hp0 : Within b p0) (hp5 : ∀ (a : State), Within b a → Within b (p5 a)) : Within b (State.relayed p0 p1 p2 p3 p4 p5) := by
  unfold State.relayed
  extract_lets -merge -useContext -underBinder x1
  have hx1 : Within b x1 := by
    unfold x1
    refine ite_elim (P := Within b) ?_ ?_
    · exact hp0
    · refine State.sendDown_within qsent qfurlongs c2 ?_
      exact hp0
  try clear_value x1
  refine ite_elim (P := Within b) ?_ ?_
  · refine hp5 _ ?_
    exact hx1
  · exact hx1

theorem State.raised_within {b : Bounds} {p0 p1 p2 p3 p4 p5} (qsent : b.parts .sent) (qfurlongs : b.parts .furlongs) (c2 : ∀ (w0 : ℕ), b.regs (O12.CELLS_IO w0)) (hp0 : Within b p0) (hp5 : ∀ (a : State), Within b a → Within b (p5 a)) : Within b (State.raised p0 p1 p2 p3 p4 p5) := by
  unfold State.raised
  refine ite_elim (P := Within b) ?_ ?_
  · refine hp5 _ ?_
    exact hp0
  · refine State.sendUp_within qsent qfurlongs c2 ?_
    exact hp0

theorem State.setDomain_within {b : Bounds} {p0 p1} (c0 : b.regs O13.DOMAIN_STATE) (hp0 : Within b p0) : Within b (State.setDomain p0 p1) := by
  unfold State.setDomain
  refine State.setN_within c0 ?_
  exact hp0

theorem State.setEpoch_within {b : Bounds} {p0 p1} (qdomain : b.parts .domain) (hp0 : Within b p0) : Within b (State.setEpoch p0 p1) := by
  unfold State.setEpoch
  refine State.onDomain_within qdomain ?_
  exact hp0

theorem State.addEpoch_within {b : Bounds} {p0 p1} (qdomain : b.parts .domain) (hp0 : Within b p0) : Within b (State.addEpoch p0 p1) := by
  unfold State.addEpoch
  refine State.onDomain_within qdomain ?_
  exact hp0

theorem State.closeEpoch_within {b : Bounds} {p0 p1} (qsent : b.parts .sent) (qevu : b.parts .evu) (qsess : b.parts .sess) (qmail : b.parts .mail) (qdomain : b.parts .domain) (c5 : ∀ w0, b.regs (O1C.SESS_QUEUE w0)) (c6 : ∀ k ∈ eventRegs 451, b.regs k) (c7 : b.regs O1C.FILULO_FLAGS) (c8 : b.regs O1C.TX_LAST) (hp0 : Within b p0) : Within b (State.closeEpoch p0 p1) := by
  unfold State.closeEpoch
  split
  · exact hp0
  · extract_lets -merge -useContext -underBinder x1 x2 x3 x4 x5
    have hx5 : Within b x5 := by
      unfold x5
      refine State.setEpoch_within qdomain ?_
      exact hp0
    try clear_value x5
    refine ite_elim (P := Within b) ?_ ?_
    · exact hp0
    · split
      · exact hx5
      · extract_lets -merge -useContext -underBinder x6
        refine ite_elim (P := Within b) ?_ ?_
        · refine State.note_within qsent qevu qsess qmail (c5 _) c6 c7 ?_
          refine State.setBytes_within c8 ?_
          exact hx5
        · refine State.emit_within qsent ?_
          exact hx5

theorem State.abortEpoch_within {b : Bounds} {p0 p1 p2} (qdomain : b.parts .domain) (qsent : b.parts .sent) (qfurlongs : b.parts .furlongs) (qevu : b.parts .evu) (qsess : b.parts .sess) (qmail : b.parts .mail) (c6 : ∀ (w0 : ℕ), b.regs (O12.CELLS_IO w0)) (c7 : ∀ (w0 : ℕ), b.regs (O1C.SESS_QUEUE w0)) (c8 : ∀ k ∈ eventRegs 451, b.regs k) (c9 : b.regs O1C.FILULO_FLAGS) (c10 : b.regs O1C.TX_LAST) (c11 : ∀ k ∈ eventRegs 310, b.regs k) (hp0 : Within b p0) : Within b (State.abortEpoch p0 p1 p2) := by
  unfold State.abortEpoch
  split
  · exact hp0
  · extract_lets -merge -useContext -underBinder x1 x2
    have hx1 : Within b x1 := by
      unfold x1
      refine State.setEpoch_within qdomain ?_
      exact hp0
    try clear_value x1
    have hx2 : Within b x2 := by
      unfold x2
      refine State.forEach_within ?_ ?_
      · exact hx1
      · intro u3 u4 hu5
        try beta_reduce
        refine State.sendDown_within qsent qfurlongs c6 ?_
        exact hu5
    try clear_value x2
    refine State.closeEpoch_within qsent qevu qsess qmail qdomain c7 c8 c9 c10 ?_
    refine State.raise_within qevu c11 ?_
    exact hx2

theorem State.goDecision_within {b : Bounds} {p0} (qdomain : b.parts .domain) (qsent : b.parts .sent) (qfurlongs : b.parts .furlongs) (qevu : b.parts .evu) (qsess : b.parts .sess) (qmail : b.parts .mail) (c6 : ∀ (w0 : ℕ), b.regs (O12.CELLS_IO w0)) (c7 : ∀ (w0 : ℕ), b.regs (O1C.SESS_QUEUE w0)) (c8 : ∀ k ∈ eventRegs 451, b.regs k) (c9 : b.regs O1C.FILULO_FLAGS) (c10 : b.regs O1C.TX_LAST) (c11 : ∀ k ∈ eventRegs 310, b.regs k) (hp0 : Within b p0) : Within b (State.goDecision p0) := by
  unfold State.goDecision
  refine ite_elim (P := Within b) ?_ ?_
  · exact hp0
  · split
    · exact hp0
    · extract_lets -merge -useContext -underBinder x1 x2
      have hx2 : Within b x2 := by
        unfold x2
        refine State.setEpoch_within qdomain ?_
        exact hp0
      try clear_value x2
      refine ite_elim (P := Within b) ?_ ?_
      · refine State.onDomain_within qdomain ?_
        exact hx2
      · refine State.abortEpoch_within qdomain qsent qfurlongs qevu qsess qmail c6 c7 c8 c9 c10 c11 ?_
        exact hp0

theorem State.beaconSend_within {b : Bounds} {p0} (qsent : b.parts .sent) (qfurlongs : b.parts .furlongs) (c2 : ∀ (w0 : ℕ), b.regs (O12.CELLS_IO w0)) (hp0 : Within b p0) : Within b (State.beaconSend p0) := by
  unfold State.beaconSend
  refine ite_elim (P := Within b) ?_ ?_
  · exact hp0
  · split
    · exact hp0
    · extract_lets -merge -useContext -underBinder x1
      refine State.forEach_within ?_ ?_
      · exact hp0
      · intro u2 u3 hu4
        try beta_reduce
        extract_lets -merge -useContext -underBinder x5 x6
        refine State.sendCell_within qsent qfurlongs (c2 _) ?_
        exact hu4

theorem State.countMissed_within {b : Bounds} {p0} (qfurlongs : b.parts .furlongs) (c1 : ∀ w0, b.regs (O12.BEACONS_MISSED w0)) (c2 : b.regs O13.MISSED_BEACONS) (hp0 : Within b p0) : Within b (State.countMissed p0) := by
  unfold State.countMissed
  extract_lets -merge -useContext -underBinder x1 x2
  have hx1 : Within b x1 := by
    unfold x1
    refine State.forEach_within ?_ ?_
    · exact hp0
    · intro u3 u4 hu3
      try beta_reduce
      extract_lets -merge -useContext -underBinder x5
      refine ite_elim (P := Within b) ?_ ?_
      · refine State.setFurlong_within qfurlongs ?_
        exact hu3
      · refine State.bump_within (c1 _) ?_
        refine State.setFurlong_within qfurlongs ?_
        exact hu3
  try clear_value x1
  have hx2 : Within b x2 := by
    unfold x2
    refine ite_elim (P := Within b) ?_ ?_
    · refine ite_elim (P := Within b) ?_ ?_
      · refine State.setN_within c2 ?_
        exact hx1
      · refine State.bump_within c2 ?_
        exact hx1
    · refine State.setN_within c2 ?_
      exact hx1
  try clear_value x2
  exact hx2

theorem State.settlePins_within {b : Bounds} {p0} (qdomain : b.parts .domain) (hp0 : Within b p0) : Within b (State.settlePins p0) := by
  unfold State.settlePins
  extract_lets -merge -useContext -underBinder x1
  refine State.onDomain_within qdomain ?_
  exact hp0

theorem State.commitEpoch_within {b : Bounds} {p0} (qdomain : b.parts .domain) (c1 : b.regs O13.DOMAIN_EPOCH) (hp0 : Within b p0) : Within b (State.commitEpoch p0) := by
  unfold State.commitEpoch
  refine ite_elim (P := Within b) ?_ ?_
  · exact hp0
  · refine State.setN_within c1 ?_
    refine State.settlePins_within qdomain ?_
    exact hp0

theorem State.masterFigures_within {b : Bounds} {p0} (c0 : b.regs O13.DOMAIN_SIZE) (c1 : b.regs O13.DOMAIN_LEAD_MIN) (c2 : ∀ w0, b.regs (O13.MEMBER_STATE w0)) (c3 : b.regs O13.BACKUP_DEVICE) (hp0 : Within b p0) : Within b (State.masterFigures p0) := by
  unfold State.masterFigures
  extract_lets -merge -useContext -underBinder x1 x2 x3 x4 x5
  have hx4 : Within b x4 := by
    unfold x4
    refine State.setN_within c0 ?_
    refine State.setN_within c1 ?_
    exact hp0
  try clear_value x4
  have hx5 : Within b x5 := by
    unfold x5
    refine State.forEach_within ?_ ?_
    · exact hx4
    · intro u6 u7 hu6
      try beta_reduce
      refine ite_elim (P := Within b) ?_ ?_
      · refine State.setN_within (c2 _) ?_
        exact hu6
      · exact hu6
  try clear_value x5
  try clear_value x3
  split
  · refine State.setN_within (c2 _) ?_
    refine State.setN_within c3 ?_
    exact hx5
  · refine State.setN_within c3 ?_
    exact hx5

theorem State.becomeMaster_within {b : Bounds} {p0} (qevu : b.parts .evu) (qdomain : b.parts .domain) (c2 : ∀ w0, b.regs (O13.MEMBER_STATE w0)) (c3 : b.regs O13.MASTER_DEVICE) (c4 : b.regs O13.DOMAIN_STATE) (c5 : b.regs O13.MISSED_BEACONS) (c6 : b.regs O13.BEACON_AGE) (c7 : b.regs O13.DOMAIN_HOPS) (c8 : ∀ k ∈ eventRegs 307, b.regs k) (c9 : b.regs O13.DOMAIN_FLAGS) (c10 : b.regs O13.DOMAIN_SIZE) (c11 : b.regs O13.DOMAIN_LEAD_MIN) (c12 : b.regs O13.BACKUP_DEVICE) (hp0 : Within b p0) : Within b (State.becomeMaster p0) := by
  unfold State.becomeMaster
  extract_lets -merge -useContext -underBinder x1 x2 x3 x4
  have hx2 : Within b x2 := by
    unfold x2
    refine State.setN_within (c2 _) ?_
    refine State.setN_within c3 ?_
    refine State.setDomain_within c4 ?_
    exact hp0
  try clear_value x2
  have hx3 : Within b x3 := by
    unfold x3
    refine State.setN_within c5 ?_
    refine State.setN_within c6 ?_
    refine State.setN_within c7 ?_
    exact hx2
  try clear_value x3
  have hx4 : Within b x4 := by
    unfold x4
    refine State.onDomain_within qdomain ?_
    exact hx3
  try clear_value x4
  refine State.raise_within qevu c8 ?_
  refine State.flag_within c9 ?_
  refine State.masterFigures_within c10 c11 c2 c12 ?_
  exact hx4

theorem State.handoverTick_within {b : Bounds} {p0} (qsent : b.parts .sent) (qfurlongs : b.parts .furlongs) (qdomain : b.parts .domain) (c3 : b.regs O13.BACKUP_DEVICE) (c4 : ∀ w0, b.regs (O12.CELLS_IO w0)) (c5 : ∀ w0, b.regs (O13.MEMBER_STATE w0)) (c6 : b.regs O13.MASTER_DEVICE) (c7 : b.regs O13.DOMAIN_STATE) (hp0 : Within b p0) : Within b (State.handoverTick p0) := by
  unfold State.handoverTick
  split
  · exact hp0
  · extract_lets -merge -useContext -underBinder x1 x2
    have hx1 : Within b x1 := by
      unfold x1
      refine State.onDomain_within qdomain ?_
      refine State.setN_within c3 ?_
      exact hp0
    try clear_value x1
    have hx2 : Within b x2 := by
      unfold x2
      refine State.beaconSend_within qsent qfurlongs c4 ?_
      exact hx1
    try clear_value x2
    refine ite_elim (P := Within b) ?_ ?_
    · refine State.onDomain_within qdomain ?_
      exact hp0
    · refine ite_elim (P := Within b) ?_ ?_
      · exact hp0
      · refine State.setN_within (c5 _) ?_
        refine State.setN_within c6 ?_
        refine State.setDomain_within c7 ?_
        exact hx2

theorem State.relayPeriod_within {b : Bounds} {p0} (qdomain : b.parts .domain) (qfurlongs : b.parts .furlongs) (hp0 : Within b p0) : Within b (State.relayPeriod p0) := by
  unfold State.relayPeriod
  extract_lets -merge -useContext -underBinder x1 x2
  have hx2 : Within b x2 := by
    unfold x2
    refine State.onDomain_within qdomain ?_
    exact hp0
  try clear_value x2
  refine ite_elim (P := Within b) ?_ ?_
  · exact hp0
  · refine Within.f_furlongs (s := x2) qfurlongs ?_
    exact hx2

theorem State.relayDrain_within {b : Bounds} {p0} (qfurlongs : b.parts .furlongs) (qsent : b.parts .sent) (c2 : ∀ (w0 : ℕ), b.regs (O12.RELAY_CELLS w0)) (c3 : ∀ (w0 : ℕ), b.regs (O12.CELLS_IO w0)) (hp0 : Within b p0) : Within b (State.relayDrain p0) := by
  unfold State.relayDrain
  refine State.forEach_within ?_ ?_
  · exact hp0
  · intro u1 u2 hu3
    try beta_reduce
    extract_lets -merge -useContext -underBinder x4 x5 x6 x7 x8 x9 x10
    have hx10 : Within b x10 := by
      unfold x10
      refine State.bump_within (c2 _) ?_
      refine State.setFurlong_within qfurlongs ?_
      exact hu3
    try clear_value x10
    refine State.forEach_within ?_ ?_
    · exact hx10
    · intro u11 u12 hu13
      try beta_reduce
      refine State.sendPacketCells_within qsent qfurlongs (c3 _) ?_
      exact hu13

theorem State.cascadeTick_within {b : Bounds} {p0} (qfurlongs : b.parts .furlongs) (qdomain : b.parts .domain) (qsent : b.parts .sent) (qevu : b.parts .evu) (qsess : b.parts .sess) (qmail : b.parts .mail) (c6 : ∀ (w0 : ℕ), b.regs (O12.BEACONS_MISSED w0)) (c7 : b.regs O13.MISSED_BEACONS) (c8 : ∀ (w0 : ℕ), b.regs (O12.FURLONG_STATE w0)) (c9 : b.regs O13.DOMAIN_EPOCH) (c10 : b.regs O13.BACKUP_DEVICE) (c11 : ∀ (w0 : ℕ), b.regs (O12.CELLS_IO w0)) (c12 : ∀ (w0 : ℕ), b.regs (O13.MEMBER_STATE w0)) (c13 : b.regs O13.MASTER_DEVICE) (c14 : b.regs O13.DOMAIN_STATE) (c15 : ∀ (w0 : ℕ), b.regs (O1C.SESS_QUEUE w0)) (c16 : ∀ k ∈ eventRegs 451, b.regs k) (c17 : b.regs O1C.FILULO_FLAGS) (c18 : b.regs O1C.TX_LAST) (c19 : ∀ k ∈ eventRegs 310, b.regs k) (c20 : ∀ (w0 : ℕ), b.regs (O12.RELAY_CELLS w0)) (hp0 : Within b p0) : Within b (State.cascadeTick p0) := by
  unfold State.cascadeTick
  extract_lets -merge -useContext -underBinder x1 x2 x3
  have hx1 : Within b x1 := by
    unfold x1
    refine State.countMissed_within qfurlongs c6 c7 ?_
    refine State.forEach_within ?_ ?_
    · exact hp0
    · intro u4 u5 hu6
      try beta_reduce
      refine State.furlongWake_within qfurlongs (c8 _) ?_
      exact hu6
  try clear_value x1
  have hx2 : Within b x2 := by
    unfold x2
    refine ite_elim (P := Within b) ?_ ?_
    · refine State.commitEpoch_within qdomain c9 ?_
      refine State.handoverTick_within qsent qfurlongs qdomain c10 c11 c12 c13 c14 ?_
      refine State.goDecision_within qdomain qsent qfurlongs qevu qsess qmail c11 c15 c16 c17 c18 c19 ?_
      exact hx1
    · exact hx1
  try clear_value x2
  have hx3 : Within b x3 := by
    unfold x3
    refine State.relayDrain_within qfurlongs qsent c20 c11 ?_
    refine State.relayPeriod_within qdomain qfurlongs ?_
    refine State.beaconSend_within qsent qfurlongs c11 ?_
    exact hx2
  try clear_value x3
  refine State.onDomain_within qdomain ?_
  exact hx3

theorem State.domainApplied_within {b : Bounds} {p0 p1} (qsent : b.parts .sent) (qfurlongs : b.parts .furlongs) (qdomain : b.parts .domain) (c3 : ∀ (w0 : ℕ), b.regs (O12.CELLS_IO w0)) (c4 : b.regs O13.BACKUP_DEVICE) (c5 : b.regs O13.MASTER_DEVICE) (c6 : b.regs O13.DOMAIN_STATE) (c7 : b.regs O13.DOMAIN_SIZE) (hp0 : Within b p0) : Within b (State.domainApplied p0 p1) := by
  unfold State.domainApplied
  extract_lets -merge -useContext -underBinder x1 x2
  have hx1 : Within b x1 := by
    unfold x1
    refine ite_elim (P := Within b) ?_ ?_
    · exact hp0
    · refine State.sendUp_within qsent qfurlongs c3 ?_
      exact hp0
  try clear_value x1
  have hx2 : Within b x2 := by
    unfold x2
    refine State.setN_within c4 ?_
    refine State.setN_within c5 ?_
    refine State.setDomain_within c6 ?_
    exact hx1
  try clear_value x2
  refine ite_elim (P := Within b) ?_ ?_
  · exact hp0
  · refine ite_elim (P := Within b) ?_ ?_
    · refine ite_elim (P := Within b) ?_ ?_
      · refine State.onDomain_within qdomain ?_
        refine State.setDomain_within c6 ?_
        exact hp0
      · exact hp0
    · refine State.onDomain_within qdomain ?_
      refine State.setN_within c7 ?_
      exact hx2

theorem State.notJoined_within {b : Bounds} {p0 p1} (qevu : b.parts .evu) (qdomain : b.parts .domain) (c2 : ∀ k ∈ eventRegs 311, b.regs k) (c3 : b.regs O13.DOMAIN_FLAGS) (c4 : b.regs O13.DOMAIN_STATE) (hp0 : Within b p0) : Within b (State.notJoined p0 p1) := by
  unfold State.notJoined
  refine State.raise_within qevu c2 ?_
  refine State.flag_within c3 ?_
  refine State.onDomain_within qdomain ?_
  refine State.setDomain_within c4 ?_
  exact hp0

theorem State.sendJoin_within {b : Bounds} {p0} (qevu : b.parts .evu) (qdomain : b.parts .domain) (qsent : b.parts .sent) (qfurlongs : b.parts .furlongs) (c4 : ∀ k ∈ eventRegs 311, b.regs k) (c5 : b.regs O13.DOMAIN_FLAGS) (c6 : b.regs O13.DOMAIN_STATE) (c7 : ∀ (w0 : ℕ), b.regs (O12.CELLS_IO w0)) (hp0 : Within b p0) : Within b (State.sendJoin p0) := by
  unfold State.sendJoin
  extract_lets -merge -useContext -underBinder x1
  refine ite_elim (P := Within b) ?_ ?_
  · refine State.notJoined_within qevu qdomain c4 c5 c6 ?_
    exact hp0
  · refine State.sendUp_within qsent qfurlongs c7 ?_
    refine State.setDomain_within c6 ?_
    exact hp0

theorem State.actHandover_within {b : Bounds} {p0 p1} (qdomain : b.parts .domain) (hp0 : Within b p0) : Within1 b (State.actHandover p0 p1) := by
  unfold State.actHandover
  split
  · refine ite_elim (P := Within1 b) ?_ ?_
    · refine ite_elim (P := Within1 b) ?_ ?_
      · refine within1_mk ?_
        exact hp0
      · refine within1_mk ?_
        refine State.onDomain_within qdomain ?_
        exact hp0
    · refine within1_mk ?_
      exact hp0
  · refine within1_mk ?_
    exact hp0

theorem State.gotPrepared_within {b : Bounds} {p0 p1 p2} (qdomain : b.parts .domain) (hp0 : Within b p0) : Within b (State.gotPrepared p0 p1 p2) := by
  unfold State.gotPrepared
  split
  · refine ite_elim (P := Within b) ?_ ?_
    · refine State.setEpoch_within qdomain ?_
      exact hp0
    · exact hp0
  · exact hp0

theorem State.gotRefused_within {b : Bounds} {p0 p1 p2 p3 p4} (qsent : b.parts .sent) (qevu : b.parts .evu) (qsess : b.parts .sess) (qmail : b.parts .mail) (qdomain : b.parts .domain) (c5 : b.regs O01.LAST_REFUSAL) (c6 : ∀ w0, b.regs (O1C.SESS_QUEUE w0)) (c7 : ∀ k ∈ eventRegs 451, b.regs k) (c8 : b.regs O1C.FILULO_FLAGS) (c9 : b.regs O1C.TX_LAST) (hp0 : Within b p0) : Within b (State.gotRefused p0 p1 p2 p3 p4) := by
  unfold State.gotRefused
  split
  · extract_lets -merge -useContext -underBinder x1
    have hx1 : Within b x1 := by
      unfold x1
      refine ite_elim (P := Within b) ?_ ?_
      · exact hp0
      · refine State.setN_within c5 ?_
        exact hp0
    try clear_value x1
    refine ite_elim (P := Within b) ?_ ?_
    · refine State.closeEpoch_within qsent qevu qsess qmail qdomain c6 c7 c8 c9 ?_
      refine State.setEpoch_within qdomain ?_
      exact hx1
    · exact hp0
  · exact hp0

theorem State.gotApplied_within {b : Bounds} {p0 p1 p2 p3} (qsent : b.parts .sent) (qevu : b.parts .evu) (qsess : b.parts .sess) (qmail : b.parts .mail) (qdomain : b.parts .domain) (c5 : b.regs (O13.MEMBER_LAST_EPOCH (256 + p2))) (c6 : ∀ w0, b.regs (O1C.SESS_QUEUE w0)) (c7 : ∀ k ∈ eventRegs 451, b.regs k) (c8 : b.regs O1C.FILULO_FLAGS) (c9 : b.regs O1C.TX_LAST) (hp0 : Within b p0) : Within b (State.gotApplied p0 p1 p2 p3) := by
  unfold State.gotApplied
  split
  · extract_lets -merge -useContext -underBinder x1 x2
    have hx1 : Within b x1 := by
      unfold x1
      refine State.setEpoch_within qdomain ?_
      exact hp0
    try clear_value x1
    have hx2 : Within b x2 := by
      unfold x2
      refine ite_elim (P := Within b) ?_ ?_
      · exact hx1
      · refine State.setN_within c5 ?_
        exact hx1
    try clear_value x2
    refine ite_elim (P := Within b) ?_ ?_
    · refine State.closeEpoch_within qsent qevu qsess qmail qdomain c6 c7 c8 c9 ?_
      exact hx2
    · exact hp0
  · exact hp0

theorem State.gotNotApplied_within {b : Bounds} {p0 p1 p2 p3} (qsent : b.parts .sent) (qevu : b.parts .evu) (qsess : b.parts .sess) (qmail : b.parts .mail) (qdomain : b.parts .domain) (c5 : ∀ w0, b.regs (O1C.SESS_QUEUE w0)) (c6 : ∀ k ∈ eventRegs 451, b.regs k) (c7 : b.regs O1C.FILULO_FLAGS) (c8 : b.regs O1C.TX_LAST) (hp0 : Within b p0) : Within b (State.gotNotApplied p0 p1 p2 p3) := by
  unfold State.gotNotApplied
  split
  · refine ite_elim (P := Within b) ?_ ?_
    · refine State.closeEpoch_within qsent qevu qsess qmail qdomain c5 c6 c7 c8 ?_
      refine State.setEpoch_within qdomain ?_
      exact hp0
    · exact hp0
  · exact hp0

theorem execEzavoCellRx_within {b : Bounds} {p0 p1 p2 p3} (qevu : b.parts .evu) (qchain : b.parts .chain) (qfabric : b.parts .fabric) (qfurlongs : b.parts .furlongs) (c4 : b.regs (O12.FURLONG_STATE p0)) (c5 : b.regs (O12.HEC_CORRECTED p0)) (c6 : ∀ k ∈ eventRegs 291, b.regs k) (c7 : b.regs (O12.HEC_ERRORS p0)) (c8 : ∀ k ∈ eventRegs 290, b.regs k) (c9 : b.regs (O12.TRUNK_FLAGS p0)) (c10 : b.regs (O12.CELLS_IO p0)) (c11 : ∀ k ∈ eventRegs 292, b.regs k) (c12 : b.regs (O12.PCRC_ERRORS p0)) (c13 : ∀ k ∈ eventRegs 297, b.regs k) (c14 : b.regs (O12.RELAY_DROPS p0)) (hp3 : Within b p3) : WithinOut b (execEzavoCellRx p0 p1 p2 p3) := by
  unfold execEzavoCellRx
  refine onInst_within ?_ ?_
  · exact hp3
  · intro u1 hu1
    try beta_reduce
    extract_lets -merge -useContext -underBinder x2 x3
    refine ite_elim (P := Within b) ?_ ?_
    · exact hu1
    · split
      · refine ite_elim (P := Within b) ?_ ?_
        · refine State.setFurlong_within qfurlongs ?_
          exact hu1
        · exact hu1
      · refine ite_elim (P := Within b) ?_ ?_
        · refine State.setFurlong_within qfurlongs ?_
          exact hu1
        · refine ite_elim (P := Within b) ?_ ?_
          · refine State.furlongWake_within qfurlongs c4 ?_
            refine State.setFurlong_within qfurlongs ?_
            exact hu1
          · refine State.setFurlong_within qfurlongs ?_
            exact hu1
      · extract_lets -merge -useContext -underBinder x4 x5 x6
        have hx5 : Within b x5 := by
          unfold x5
          refine State.setFurlong_within qfurlongs ?_
          exact hu1
        try clear_value x5
        have hx6 : Within b x6 := by
          unfold x6
          refine ite_elim (P := Within b) ?_ ?_
          · exact hx5
          · refine ite_elim (P := Within b) ?_ ?_
            · refine State.bump_within c5 ?_
              exact hx5
            · refine State.raiseLim_within qevu c6 ?_
              refine State.bump_within c7 ?_
              exact hx5
        try clear_value x6
        refine ite_elim (P := Within b) ?_ ?_
        · refine State.raise_within qevu c8 ?_
          refine State.flag_within c9 ?_
          refine State.setFurlong_within qfurlongs ?_
          exact hx6
        · refine ite_elim (P := Within b) ?_ ?_
          · refine State.cellIn_within qevu qchain qfabric qfurlongs c10 c11 c9 c12 c13 c14 ?_
            exact hx6
          · exact hx6

theorem execSeal_within {b : Bounds} {p0 p1 p2} (qfurlongs : b.parts .furlongs) (qevu : b.parts .evu) (qchain : b.parts .chain) (qfabric : b.parts .fabric) (c4 : ∀ k ∈ eventRegs 292, b.regs k) (c5 : b.regs (O12.TRUNK_FLAGS p0)) (c6 : b.regs (O12.PCRC_ERRORS p0)) (c7 : ∀ k ∈ eventRegs 297, b.regs k) (c8 : b.regs (O12.RELAY_DROPS p0)) (c9 : b.regs (O12.SEAL_FAILURES p0)) (c10 : ∀ k ∈ eventRegs 293, b.regs k) (c11 : b.regs (O12.FURLONG_STATE p0)) (hp2 : Within b p2) : WithinOut b (execSeal p0 p1 p2) := by
  unfold execSeal
  refine onInst_within ?_ ?_
  · exact hp2
  · intro u1 hu2
    try beta_reduce
    extract_lets -merge -useContext -underBinder x3 x4 x5 x6 x7 x8 x9 x10 x11 x12 x13 x14 x15 x16 x17 x18 x19
    have hx13 : Within b x13 := by
      unfold x13
      refine State.setFurlong_within qfurlongs ?_
      exact hu2
    try clear_value x13
    have hx15 : Within b x15 := by
      unfold x15
      refine State.forEach_within ?_ ?_
      · exact hx13
      · intro u20 u21 hu22
        try beta_reduce
        refine State.damaged_within qevu qchain qfabric c4 c5 c6 c7 c8 ?_
        exact hu22
    try clear_value x15
    have hx18 : Within b x18 := by
      unfold x18
      refine State.setFurlong_within qfurlongs ?_
      refine State.flag_within c5 ?_
      refine State.bump_within c9 ?_
      exact hx15
    try clear_value x18
    refine ite_elim (P := Within b) ?_ ?_
    · exact hu2
    · refine ite_elim (P := Within b) ?_ ?_
      · refine State.forEach_within ?_ ?_
        · exact hx13
        · intro u23 u24 hu25
          try beta_reduce
          refine State.goodCell_within qfabric qevu qchain qfurlongs c4 c5 c6 c7 c8 ?_
          exact hu25
      · refine ite_elim (P := Within b) ?_ ?_
        · refine State.raise_within qevu c10 ?_
          refine State.setFurlong_within qfurlongs ?_
          refine State.furlongFault_within qfurlongs c11 ?_
          exact hx18
        · exact hx18

theorem execFurlongMeasured_within {b : Bounds} {p0 p1 p2} (qevu : b.parts .evu) (qfurlongs : b.parts .furlongs) (qdomain : b.parts .domain) (c3 : b.regs (O12.FURLONG_DELAY p0)) (c4 : b.regs (O12.PEER_LANE p0)) (c5 : b.regs (O12.PEER_DEVICE p0)) (c6 : b.regs (O12.FURLONG_STATE p0)) (c7 : b.regs (O12.MEDIA_HOP p0)) (c8 : b.regs (O12.BEACON_HOP p0)) (c9 : ∀ k ∈ eventRegs 288, b.regs k) (c10 : ∀ k ∈ eventRegs 299, b.regs k) (c11 : ∀ k ∈ eventRegs 294, b.regs k) (c12 : b.regs (O12.TRUNK_FLAGS p0)) (hp2 : Within b p2) : WithinOut b (execFurlongMeasured p0 p1 p2) := by
  unfold execFurlongMeasured
  refine onInst_within ?_ ?_
  · exact hp2
  · intro u1 hu1
    try beta_reduce
    extract_lets -merge -useContext -underBinder x2 x3 x4 x5 x6 x7 x8 x9
    have hx4 : Within b x4 := by
      unfold x4
      refine State.setN_within c3 ?_
      exact hu1
    try clear_value x4
    have hx5 : Within b x5 := by
      unfold x5
      refine State.setN_within c4 ?_
      refine State.setN_within c5 ?_
      refine State.setN_within c6 ?_
      exact hx4
    try clear_value x5
    have hx6 : Within b x6 := by
      unfold x6
      refine State.setN_within c7 ?_
      refine State.setN_within c8 ?_
      exact hx5
    try clear_value x6
    have hx7 : Within b x7 := by
      unfold x7
      refine State.setFurlong_within qfurlongs ?_
      exact hx6
    try clear_value x7
    have hx8 : Within b x8 := by
      unfold x8
      refine ite_elim (P := Within b) ?_ ?_
      · refine State.onDomain_within qdomain ?_
        exact hx7
      · exact hx7
    try clear_value x8
    have hx9 : Within b x9 := by
      unfold x9
      refine State.raise_within qevu c9 ?_
      exact hx8
    try clear_value x9
    refine ite_elim (P := Within b) ?_ ?_
    · exact hu1
    · refine ite_elim (P := Within b) ?_ ?_
      · refine State.raise_within qevu c10 ?_
        refine State.furlongFault_within qfurlongs c6 ?_
        exact hx4
      · refine ite_elim (P := Within b) ?_ ?_
        · refine State.raise_within qevu c11 ?_
          refine State.flag_within c12 ?_
          refine State.furlongFault_within qfurlongs c6 ?_
          exact hx4
        · refine ite_elim (P := Within b) ?_ ?_
          · exact hx9
          · refine State.raise_within qevu c10 ?_
            exact hx9

theorem execFurlongDown_within {b : Bounds} {p0 p1} (qevu : b.parts .evu) (c1 : ∀ k ∈ eventRegs 289, b.regs k) (c2 : b.regs (O12.TRUNK_FLAGS p0)) (c3 : b.regs (O12.FURLONG_STATE p0)) (hp1 : Within b p1) : WithinOut b (execFurlongDown p0 p1) := by
  unfold execFurlongDown
  refine onInst_within ?_ ?_
  · exact hp1
  · intro u1 hu1
    try beta_reduce
    refine ite_elim (P := Within b) ?_ ?_
    · refine State.furlongLost_within qevu c1 c2 c3 ?_
      exact hu1
    · exact hu1

theorem execFurlongFaultTimer_within {b : Bounds} {p0 p1} (qfurlongs : b.parts .furlongs) (c1 : b.regs (O12.FURLONG_STATE p0)) (hp1 : Within b p1) : WithinOut b (execFurlongFaultTimer p0 p1) := by
  unfold execFurlongFaultTimer
  refine onInst_within ?_ ?_
  · exact hp1
  · intro u1 hu1
    try beta_reduce
    refine ite_elim (P := Within b) ?_ ?_
    · refine State.furlongWake_within qfurlongs c1 ?_
      refine State.setN_within c1 ?_
      exact hu1
    · exact hu1

theorem execTrunkTxKey_within {b : Bounds} {p0 p1 p2} (c0 : b.regs (O12.TRUNK_TX_KEY p0)) (hp2 : Within b p2) : WithinOut b (execTrunkTxKey p0 p1 p2) := by
  unfold execTrunkTxKey
  refine onInst_within ?_ ?_
  · exact hp2
  · intro u1 hu1
    try beta_reduce
    refine ite_elim (P := Within b) ?_ ?_
    · refine State.setN_within c0 ?_
      exact hu1
    · exact hu1

theorem execFormWait_within {b : Bounds} {p0} (qevu : b.parts .evu) (qdomain : b.parts .domain) (c2 : ∀ w0, b.regs (O13.MEMBER_STATE w0)) (c3 : b.regs O13.MASTER_DEVICE) (c4 : b.regs O13.DOMAIN_STATE) (c5 : b.regs O13.MISSED_BEACONS) (c6 : b.regs O13.BEACON_AGE) (c7 : b.regs O13.DOMAIN_HOPS) (c8 : ∀ k ∈ eventRegs 307, b.regs k) (c9 : b.regs O13.DOMAIN_FLAGS) (c10 : b.regs O13.DOMAIN_SIZE) (c11 : b.regs O13.DOMAIN_LEAD_MIN) (c12 : b.regs O13.BACKUP_DEVICE) (hp0 : Within b p0) : WithinOut b (execFormWait p0) := by
  unfold execFormWait
  refine live_within ?_ ?_
  · exact hp0
  · intro u1 hu1
    try beta_reduce
    extract_lets -merge -useContext -underBinder x2
    split
    · refine ite_elim (P := Within b) ?_ ?_
      · refine State.becomeMaster_within qevu qdomain c2 c3 c4 c5 c6 c7 c8 c9 c10 c11 c12 ?_
        exact hu1
      · exact hu1
    · exact hu1

theorem execMasterHandover_within {b : Bounds} {p0 p1} (qdomain : b.parts .domain) (hp1 : Within b p1) : WithinOut b (execMasterHandover p0 p1) := by
  unfold execMasterHandover
  refine live_within ?_ ?_
  · exact hp1
  · intro u1 hu1
    try beta_reduce
    refine ite_elim (P := Within b) ?_ ?_
    · change Within1 b _
      refine State.actHandover_within qdomain ?_
      exact hu1
    · exact hu1

theorem execJoin_within {b : Bounds} {p0 p1 p2 p3 p4 p5 p6 p7} (qsent : b.parts .sent) (qfurlongs : b.parts .furlongs) (qdomain : b.parts .domain) (c3 : ∀ (w0 : ℕ), b.regs (O12.CELLS_IO w0)) (c4 : b.regs (O13.MEMBER_HOPS (256 + p0))) (c5 : b.regs (O13.MEMBER_VARIANT (256 + p0))) (c6 : b.regs (O13.MEMBER_LAST_EPOCH (256 + p0))) (c7 : b.regs O13.DOMAIN_SIZE) (c8 : b.regs O13.DOMAIN_LEAD_MIN) (c9 : ∀ (w0 : ℕ), b.regs (O13.MEMBER_STATE w0)) (c10 : b.regs O13.BACKUP_DEVICE) (c11 : b.regs O13.DOMAIN_FLAGS) (hp7 : Within b p7) : WithinOut b (execJoin p0 p1 p2 p3 p4 p5 p6 p7) := by
  unfold execJoin
  refine live_within ?_ ?_
  · exact hp7
  · intro u1 hu2
    try beta_reduce
    refine State.raised_within qsent qfurlongs c3 ?_ ?_
    · exact hu2
    · intro u3 hu4
      try beta_reduce
      extract_lets -merge -useContext -underBinder x5 x6 x7 x8 x9 x10 x11 x12 x13
      have hx11 : Within b x11 := by
        unfold x11
        refine State.setN_within c4 ?_
        refine State.setN_within c5 ?_
        refine State.setN_within (c9 _) ?_
        exact hu4
      try clear_value x11
      have hx12 : Within b x12 := by
        unfold x12
        refine State.setN_within c6 ?_
        exact hx11
      try clear_value x12
      have hx13 : Within b x13 := by
        unfold x13
        refine State.masterFigures_within c7 c8 c9 c10 ?_
        refine State.onDomain_within qdomain ?_
        exact hx12
      try clear_value x13
      refine ite_elim (P := Within b) ?_ ?_
      · exact hu4
      · refine ite_elim (P := Within b) ?_ ?_
        · refine State.flag_within c11 ?_
          refine State.sendDown_within qsent qfurlongs c3 ?_
          exact hu4
        · refine State.sendDown_within qsent qfurlongs c3 ?_
          exact hx13

theorem execWelcome_within {b : Bounds} {p0 p1 p2 p3 p4} (qsent : b.parts .sent) (qfurlongs : b.parts .furlongs) (qevu : b.parts .evu) (qtick : b.parts .tick) (qdomain : b.parts .domain) (c5 : ∀ (w0 : ℕ), b.regs (O12.CELLS_IO w0)) (c6 : b.regs O13.BACKUP_DEVICE) (c7 : b.regs O13.DOMAIN_SIZE) (c8 : b.regs O13.DOMAIN_STATE) (c9 : ∀ k ∈ eventRegs 313, b.regs k) (c10 : b.regs O13.DOMAIN_FLAGS) (c11 : ∀ k ∈ eventRegs 304, b.regs k) (hp4 : Within b p4) : WithinOut b (execWelcome p0 p1 p2 p3 p4) := by
  unfold execWelcome
  refine live_within ?_ ?_
  · exact hp4
  · intro u1 hu2
    try beta_reduce
    refine State.relayed_within qsent qfurlongs c5 ?_ ?_
    · exact hu2
    · intro u3 hu4
      try beta_reduce
      extract_lets -merge -useContext -underBinder x5 x6 x7 x8 x9 x10 x11 x12
      have hx5 : Within b x5 := by
        unfold x5
        refine State.setN_within c6 ?_
        refine State.setN_within c7 ?_
        exact hu4
      try clear_value x5
      have hx7 : Within b x7 := by
        unfold x7
        refine State.setDomain_within c8 ?_
        exact hx5
      try clear_value x7
      have hx8 : Within b x8 := by
        unfold x8
        refine ite_elim (P := Within b) ?_ ?_
        · refine State.raise_within qevu c9 ?_
          refine State.flag_within c10 ?_
          exact hx7
        · exact hx7
      try clear_value x8
      have hx11 : Within b x11 := by
        unfold x11
        refine ite_elim (P := Within b) ?_ ?_
        · exact hx8
        · refine Within.f_tick (s := x8) qtick (fun i => i) ?_
          exact hx8
      try clear_value x11
      have hx12 : Within b x12 := by
        unfold x12
        refine State.forEach_within ?_ ?_
        · exact hx11
        · intro u13 u14 hu15
          try beta_reduce
          refine ite_elim (P := Within b) ?_ ?_
          · refine State.sendUp_within qsent qfurlongs c5 ?_
            exact hu15
          · refine State.sendUp_within qsent qfurlongs c5 ?_
            exact hu15
      try clear_value x12
      refine ite_elim (P := Within b) ?_ ?_
      · exact hu4
      · refine State.raise_within qevu c11 ?_
        refine State.onDomain_within qdomain ?_
        exact hx12

theorem execJoinRefused_within {b : Bounds} {p0 p1 p2} (qsent : b.parts .sent) (qfurlongs : b.parts .furlongs) (qevu : b.parts .evu) (qdomain : b.parts .domain) (c4 : ∀ (w0 : ℕ), b.regs (O12.CELLS_IO w0)) (c5 : ∀ k ∈ eventRegs 311, b.regs k) (c6 : b.regs O13.DOMAIN_FLAGS) (c7 : b.regs O13.DOMAIN_STATE) (hp2 : Within b p2) : WithinOut b (execJoinRefused p0 p1 p2) := by
  unfold execJoinRefused
  refine live_within ?_ ?_
  · exact hp2
  · intro u1 hu2
    try beta_reduce
    refine State.relayed_within qsent qfurlongs c4 ?_ ?_
    · exact hu2
    · intro u3 hu4
      try beta_reduce
      refine ite_elim (P := Within b) ?_ ?_
      · exact hu4
      · refine State.notJoined_within qevu qdomain c5 c6 c7 ?_
        exact hu4

theorem execJoinRetry_within {b : Bounds} {p0} (qevu : b.parts .evu) (qdomain : b.parts .domain) (qsent : b.parts .sent) (qfurlongs : b.parts .furlongs) (c4 : ∀ k ∈ eventRegs 311, b.regs k) (c5 : b.regs O13.DOMAIN_FLAGS) (c6 : b.regs O13.DOMAIN_STATE) (c7 : ∀ (w0 : ℕ), b.regs (O12.CELLS_IO w0)) (hp0 : Within b p0) : WithinOut b (execJoinRetry p0) := by
  unfold execJoinRetry
  refine live_within ?_ ?_
  · exact hp0
  · intro u1 hu2
    try beta_reduce
    split
    · refine ite_elim (P := Within b) ?_ ?_
      · refine State.sendJoin_within qevu qdomain qsent qfurlongs c4 c5 c6 c7 ?_
        exact hu2
      · exact hu2
    · exact hu2

theorem execLeave_within {b : Bounds} {p0 p1} (qsent : b.parts .sent) (qfurlongs : b.parts .furlongs) (qdomain : b.parts .domain) (c3 : ∀ (w0 : ℕ), b.regs (O12.CELLS_IO w0)) (c4 : b.regs O13.DOMAIN_SIZE) (c5 : b.regs O13.DOMAIN_LEAD_MIN) (c6 : ∀ (w0 : ℕ), b.regs (O13.MEMBER_STATE w0)) (c7 : b.regs O13.BACKUP_DEVICE) (hp1 : Within b p1) : WithinOut b (execLeave p0 p1) := by
  unfold execLeave
  refine live_within ?_ ?_
  · exact hp1
  · intro u1 hu2
    try beta_reduce
    extract_lets -merge -useContext -underBinder x3 x4
    have hx3 : Within b x3 := by
      unfold x3
      refine ite_elim (P := Within b) ?_ ?_
      · exact hu2
      · refine State.sendUp_within qsent qfurlongs c3 ?_
        exact hu2
    try clear_value x3
    have hx4 : Within b x4 := by
      unfold x4
      refine State.onDomain_within qdomain ?_
      refine State.setN_within (c6 _) ?_
      exact hx3
    try clear_value x4
    refine ite_elim (P := Within b) ?_ ?_
    · exact hx3
    · refine ite_elim (P := Within b) ?_ ?_
      · refine State.masterFigures_within c4 c5 c6 c7 ?_
        exact hx4
      · exact hx4

theorem execCopy_within {b : Bounds} {p0 p1 p2 p3 p4 p5 p6} (qsent : b.parts .sent) (qfurlongs : b.parts .furlongs) (qdomain : b.parts .domain) (c3 : ∀ (w0 : ℕ), b.regs (O12.CELLS_IO w0)) (hp6 : Within b p6) : WithinOut b (execCopy p0 p1 p2 p3 p4 p5 p6) := by
  unfold execCopy
  refine live_within ?_ ?_
  · exact hp6
  · intro u1 hu2
    try beta_reduce
    refine State.relayed_within qsent qfurlongs c3 ?_ ?_
    · exact hu2
    · intro u3 hu4
      try beta_reduce
      refine ite_elim (P := Within b) ?_ ?_
      · exact hu4
      · split
        · refine State.setEpoch_within qdomain ?_
          exact hu4
        · refine State.addEpoch_within qdomain ?_
          exact hu4

theorem execPrepared_within {b : Bounds} {p0 p1 p2} (qsent : b.parts .sent) (qfurlongs : b.parts .furlongs) (qdomain : b.parts .domain) (c3 : ∀ (w0 : ℕ), b.regs (O12.CELLS_IO w0)) (hp2 : Within b p2) : WithinOut b (execPrepared p0 p1 p2) := by
  unfold execPrepared
  refine live_within ?_ ?_
  · exact hp2
  · intro u1 hu2
    try beta_reduce
    refine State.raised_within qsent qfurlongs c3 ?_ ?_
    · exact hu2
    · intro u3 hu4
      try beta_reduce
      refine State.gotPrepared_within qdomain ?_
      exact hu4

theorem execRefused_within {b : Bounds} {p0 p1 p2 p3 p4} (qsent : b.parts .sent) (qfurlongs : b.parts .furlongs) (qevu : b.parts .evu) (qsess : b.parts .sess) (qmail : b.parts .mail) (qdomain : b.parts .domain) (c6 : ∀ (w0 : ℕ), b.regs (O12.CELLS_IO w0)) (c7 : b.regs O01.LAST_REFUSAL) (c8 : ∀ (w0 : ℕ), b.regs (O1C.SESS_QUEUE w0)) (c9 : ∀ k ∈ eventRegs 451, b.regs k) (c10 : b.regs O1C.FILULO_FLAGS) (c11 : b.regs O1C.TX_LAST) (hp4 : Within b p4) : WithinOut b (execRefused p0 p1 p2 p3 p4) := by
  unfold execRefused
  refine live_within ?_ ?_
  · exact hp4
  · intro u1 hu2
    try beta_reduce
    refine State.raised_within qsent qfurlongs c6 ?_ ?_
    · exact hu2
    · intro u3 hu4
      try beta_reduce
      refine State.gotRefused_within qsent qevu qsess qmail qdomain c7 c8 c9 c10 c11 ?_
      exact hu4

theorem execAppliedRecord_within {b : Bounds} {p0 p1 p2 p3} (qsent : b.parts .sent) (qfurlongs : b.parts .furlongs) (qevu : b.parts .evu) (qsess : b.parts .sess) (qmail : b.parts .mail) (qdomain : b.parts .domain) (c6 : ∀ (w0 : ℕ), b.regs (O12.CELLS_IO w0)) (c7 : b.regs (O13.MEMBER_LAST_EPOCH (256 + p1))) (c8 : ∀ (w0 : ℕ), b.regs (O1C.SESS_QUEUE w0)) (c9 : ∀ k ∈ eventRegs 451, b.regs k) (c10 : b.regs O1C.FILULO_FLAGS) (c11 : b.regs O1C.TX_LAST) (hp3 : Within b p3) : WithinOut b (execAppliedRecord p0 p1 p2 p3) := by
  unfold execAppliedRecord
  refine live_within ?_ ?_
  · exact hp3
  · intro u1 hu2
    try beta_reduce
    refine State.raised_within qsent qfurlongs c6 ?_ ?_
    · exact hu2
    · intro u3 hu4
      try beta_reduce
      refine State.gotApplied_within qsent qevu qsess qmail qdomain c7 c8 c9 c10 c11 ?_
      exact hu4

theorem execNotApplied_within {b : Bounds} {p0 p1 p2 p3} (qsent : b.parts .sent) (qfurlongs : b.parts .furlongs) (qevu : b.parts .evu) (qsess : b.parts .sess) (qmail : b.parts .mail) (qdomain : b.parts .domain) (c6 : ∀ (w0 : ℕ), b.regs (O12.CELLS_IO w0)) (c7 : ∀ (w0 : ℕ), b.regs (O1C.SESS_QUEUE w0)) (c8 : ∀ k ∈ eventRegs 451, b.regs k) (c9 : b.regs O1C.FILULO_FLAGS) (c10 : b.regs O1C.TX_LAST) (hp3 : Within b p3) : WithinOut b (execNotApplied p0 p1 p2 p3) := by
  unfold execNotApplied
  refine live_within ?_ ?_
  · exact hp3
  · intro u1 hu2
    try beta_reduce
    refine State.raised_within qsent qfurlongs c6 ?_ ?_
    · exact hu2
    · intro u3 hu4
      try beta_reduce
      refine State.gotNotApplied_within qsent qevu qsess qmail qdomain c7 c8 c9 c10 ?_
      exact hu4

theorem execParticipantLost_within {b : Bounds} {p0 p1 p2} (qsent : b.parts .sent) (qevu : b.parts .evu) (qsess : b.parts .sess) (qmail : b.parts .mail) (qdomain : b.parts .domain) (c5 : ∀ k ∈ eventRegs 316, b.regs k) (c6 : b.regs (O13.MEMBER_STATE (256 + p1))) (c7 : ∀ w0, b.regs (O1C.SESS_QUEUE w0)) (c8 : ∀ k ∈ eventRegs 451, b.regs k) (c9 : b.regs O1C.FILULO_FLAGS) (c10 : b.regs O1C.TX_LAST) (hp2 : Within b p2) : WithinOut b (execParticipantLost p0 p1 p2) := by
  unfold execParticipantLost
  refine live_within ?_ ?_
  · exact hp2
  · intro u1 hu1
    try beta_reduce
    split
    · extract_lets -merge -useContext -underBinder x2 x3
      have hx3 : Within b x3 := by
        unfold x3
        refine State.raise_within qevu c5 ?_
        refine State.setN_within c6 ?_
        refine State.setEpoch_within qdomain ?_
        exact hu1
      try clear_value x3
      refine ite_elim (P := Within b) ?_ ?_
      · refine State.closeEpoch_within qsent qevu qsess qmail qdomain c7 c8 c9 c10 ?_
        exact hx3
      · exact hu1
    · exact hu1

theorem execRelayPacket_within {b : Bounds} {p0 p1 p2 p3 p4 p5 p6 p7 p8 p9} (qdomain : b.parts .domain) (qsent : b.parts .sent) (qevu : b.parts .evu) (qfurlongs : b.parts .furlongs) (c4 : ∀ k ∈ eventRegs 297, b.regs k) (c5 : ∀ (w0 : ℕ), b.regs (O12.RELAY_DROPS w0)) (hp9 : Within b p9) : WithinOut b (execRelayPacket p0 p1 p2 p3 p4 p5 p6 p7 p8 p9) := by
  unfold execRelayPacket
  refine live_within ?_ ?_
  · exact hp9
  · intro u1 hu2
    try beta_reduce
    extract_lets -merge -useContext -underBinder x3 x4 x5 x6 x7
    have hx5 : Within b x5 := by
      unfold x5
      refine ite_elim (P := Within b) ?_ ?_
      · exact hu2
      · refine State.onDomain_within qdomain ?_
        exact hu2
    try clear_value x5
    refine ite_elim (P := Within b) ?_ ?_
    · refine State.emit_within qsent ?_
      exact hu2
    · refine ite_elim (P := Within b) ?_ ?_
      · exact hu2
      · refine ite_elim (P := Within b) ?_ ?_
        · refine State.raiseLim_within qevu c4 ?_
          refine State.bump_within (c5 _) ?_
          exact hx5
        · refine State.setFurlong_within qfurlongs ?_
          exact hx5

end Sys2Proof.Machine
end

