-- ==== Sys2Proof/Laws/WithinKeys.lean ====
section
/-! SUPPORT. What each operation of Machine/Keys.lean may change at most (Laws/Within.lean). -/

set_option maxRecDepth 8000

namespace Sys2Proof.Machine

theorem State.onKeys_within {b : Bounds} {p0 p1} (qkeys : b.parts .keys) (hp0 : Within b p0) : Within b (State.onKeys p0 p1) := by
  unfold State.onKeys
  refine Within.f_keys (s := p0) qkeys ?_
  exact hp0

theorem State.drbg_within {b : Bounds} {p0 p1} (qfresh : b.parts .fresh) (qkeys : b.parts .keys) (hp0 : Within b p0) : Within2 b (State.drbg p0 p1) := by
  unfold State.drbg
  extract_lets -merge -useContext -underBinder x1
  have hx1 : Within2 b x1 := by
    unfold x1
    refine State.drawBytes_within qfresh ?_
    exact hp0
  try clear_value x1
  refine within2_mk ?_
  refine State.onKeys_within qkeys ?_
  change Within2 b _
  exact hx1

theorem State.ramPut_within {b : Bounds} {p0 p1 p2} (qfresh : b.parts .fresh) (qkeys : b.parts .keys) (hp0 : Within b p0) : Within b (State.ramPut p0 p1 p2) := by
  unfold State.ramPut
  extract_lets -merge -useContext -underBinder x1
  have hx1 : Within2 b x1 := by
    unfold x1
    refine State.drbg_within qfresh qkeys ?_
    exact hp0
  try clear_value x1
  refine State.onKeys_within qkeys ?_
  change Within2 b _
  exact hx1

theorem State.ramClear_within {b : Bounds} {p0 p1} (qkeys : b.parts .keys) (hp0 : Within b p0) : Within b (State.ramClear p0 p1) := by
  unfold State.ramClear
  refine State.onKeys_within qkeys ?_
  exact hp0

theorem State.countHandles_within {b : Bounds} {p0} (c0 : b.regs O19.HANDLES_OPEN) (hp0 : Within b p0) : Within b (State.countHandles p0) := by
  unfold State.countHandles
  refine State.setN_within c0 ?_
  exact hp0

theorem State.openHandle_within {b : Bounds} {p0 p1 p2 p3} (qfresh : b.parts .fresh) (qkeys : b.parts .keys) (c2 : b.regs O19.HANDLES_OPEN) (c3 : b.regs (O19.HANDLE_OWNER p1)) (c4 : b.regs (O19.HANDLE_INFO p1)) (c5 : b.regs (O19.HANDLE_STATE p1)) (hp0 : Within b p0) : Within b (State.openHandle p0 p1 p2 p3) := by
  unfold State.openHandle
  extract_lets -merge -useContext -underBinder x1 x2
  have hx1 : Within b x1 := by
    unfold x1
    refine State.ramPut_within qfresh qkeys ?_
    refine State.onKeys_within qkeys ?_
    exact hp0
  try clear_value x1
  refine State.countHandles_within c2 ?_
  refine State.setN_within c3 ?_
  refine State.setBytes_within c4 ?_
  refine State.setN_within c5 ?_
  exact hx1

theorem State.closeHandle_within {b : Bounds} {p0 p1} (qkeys : b.parts .keys) (c1 : b.regs O19.HANDLES_OPEN) (c2 : b.regs (O19.HANDLE_OWNER p1)) (c3 : b.regs (O19.HANDLE_INFO p1)) (c4 : b.regs (O19.HANDLE_STATE p1)) (hp0 : Within b p0) : Within b (State.closeHandle p0 p1) := by
  unfold State.closeHandle
  extract_lets -merge -useContext -underBinder x1
  have hx1 : Within b x1 := by
    unfold x1
    refine State.ramClear_within qkeys ?_
    refine State.onKeys_within qkeys ?_
    exact hp0
  try clear_value x1
  refine State.countHandles_within c1 ?_
  refine State.clearObj_within c2 ?_
  refine State.clearObj_within c3 ?_
  refine State.clearObj_within c4 ?_
  exact hx1

theorem State.closeHandles_within {b : Bounds} {p0 p1} (qkeys : b.parts .keys) (c1 : b.regs O19.HANDLES_OPEN) (c2 : ∀ w0, b.regs (O19.HANDLE_OWNER w0)) (c3 : ∀ w0, b.regs (O19.HANDLE_INFO w0)) (c4 : ∀ w0, b.regs (O19.HANDLE_STATE w0)) (hp0 : Within b p0) : Within b (State.closeHandles p0 p1) := by
  unfold State.closeHandles
  extract_lets -merge -useContext -underBinder x1
  have hx1 : Within b x1 := by
    unfold x1
    refine State.forEach_within ?_ ?_
    · exact hp0
    · intro u2 u3 hu2
      try beta_reduce
      refine State.closeHandle_within qkeys c1 (c2 _) (c3 _) (c4 _) ?_
      exact hu2
  try clear_value x1
  refine State.onKeys_within qkeys ?_
  exact hx1

theorem State.setOwn_within {b : Bounds} {p0 p1 p2 p3} (qsess : b.parts .sess) (hp0 : Within b p0) : Within b (State.setOwn p0 p1 p2 p3) := by
  unfold State.setOwn
  split
  · refine State.setSess_within qsess ?_
    exact hp0
  · exact hp0

theorem State.keyResult_within {b : Bounds} {p0 p1 p2 p3 p4} (qsess : b.parts .sess) (hp0 : Within b p0) : Within b (State.keyResult p0 p1 p2 p3 p4) := by
  unfold State.keyResult
  refine State.setOwn_within qsess ?_
  exact hp0

theorem State.keyRefused_within {b : Bounds} {p0 p1 p2 p3} (qevu : b.parts .evu) (c1 : ∀ k ∈ eventRegs 403, b.regs k) (c2 : b.regs O19.KS_FLAGS) (hp0 : Within b p0) : Within b (State.keyRefused p0 p1 p2 p3) := by
  unfold State.keyRefused
  refine ite_elim (P := Within b) ?_ ?_
  · refine State.raiseLim_within qevu c1 ?_
    refine State.flag_within c2 ?_
    exact hp0
  · exact hp0

theorem State.wrapKey_within {b : Bounds} {p0 p1 p2} (qfresh : b.parts .fresh) (qkeys : b.parts .keys) (hp0 : Within b p0) : Within2 b (State.wrapKey p0 p1 p2) := by
  unfold State.wrapKey
  extract_lets -merge -useContext -underBinder x1 x2
  have hx1 : Within2 b x1 := by
    unfold x1
    refine State.drbg_within qfresh qkeys ?_
    exact hp0
  try clear_value x1
  refine within2_mk ?_
  change Within2 b _
  exact hx1

theorem State.opOpenPath_within {b : Bounds} {p0 p1 p2 p3 p4} (qfresh : b.parts .fresh) (qkeys : b.parts .keys) (c2 : b.regs O19.HANDLES_OPEN) (c3 : b.regs (O19.HANDLE_OWNER p3)) (c4 : b.regs (O19.HANDLE_INFO p3)) (c5 : b.regs (O19.HANDLE_STATE p3)) (hp0 : Within b p0) : Within3E b (State.opOpenPath p0 p1 p2 p3 p4) := by
  unfold State.opOpenPath
  refine ite_elim (P := Within3E b) ?_ ?_
  · exact exceptError _
  · split
    · exact exceptError _
    · exact exceptError _
    · extract_lets -merge -useContext -underBinder x1 x2
      refine ite_elim (P := Within3E b) ?_ ?_
      · exact exceptError _
      · refine exceptOk ?_
        refine within3_mk ?_
        refine within2_mk ?_
        refine State.openHandle_within qfresh qkeys c2 c3 c4 c5 ?_
        exact hp0

theorem State.opOpenBlob_within {b : Bounds} {p0 p1 p2 p3} (qfresh : b.parts .fresh) (qkeys : b.parts .keys) (c2 : b.regs O19.HANDLES_OPEN) (c3 : b.regs (O19.HANDLE_OWNER p2)) (c4 : b.regs (O19.HANDLE_INFO p2)) (c5 : b.regs (O19.HANDLE_STATE p2)) (hp0 : Within b p0) : Within3E b (State.opOpenBlob p0 p1 p2 p3) := by
  unfold State.opOpenBlob
  refine ite_elim (P := Within3E b) ?_ ?_
  · exact exceptError _
  · split
    · refine ite_elim (P := Within3E b) ?_ ?_
      · exact exceptError _
      · exact exceptError _
    · refine ite_elim (P := Within3E b) ?_ ?_
      · exact exceptError _
      · refine exceptOk ?_
        refine within3_mk ?_
        refine within2_mk ?_
        refine State.openHandle_within qfresh qkeys c2 c3 c4 c5 ?_
        exact hp0

theorem State.opClose_within {b : Bounds} {p0 p1 p2} (qkeys : b.parts .keys) (c1 : b.regs O19.HANDLES_OPEN) (c2 : b.regs (O19.HANDLE_OWNER p2)) (c3 : b.regs (O19.HANDLE_INFO p2)) (c4 : b.regs (O19.HANDLE_STATE p2)) (hp0 : Within b p0) : Within3E b (State.opClose p0 p1 p2) := by
  unfold State.opClose
  refine ite_elim (P := Within3E b) ?_ ?_
  · exact exceptError _
  · split
    · exact exceptError _
    · refine ite_elim (P := Within3E b) ?_ ?_
      · refine exceptOk (P := Within3 b) ?_
        refine within3_mk ?_
        refine within2_mk ?_
        refine State.closeHandle_within qkeys c1 c2 c3 c4 ?_
        exact hp0
      · exact exceptError _

theorem State.opGenerate_within {b : Bounds} {p0 p1 p2 p3} (qfresh : b.parts .fresh) (qkeys : b.parts .keys) (hp0 : Within b p0) : Within3E b (State.opGenerate p0 p1 p2 p3) := by
  unfold State.opGenerate
  refine ite_elim (P := Within3E b) ?_ ?_
  · exact exceptError _
  · split
    · exact exceptError _
    · split
      · exact exceptError _
      · extract_lets -merge -useContext -underBinder x1 x2
        have hx1 : Within2 b x1 := by
          unfold x1
          refine State.drbg_within qfresh qkeys ?_
          exact hp0
        try clear_value x1
        have hx2 : Within2 b x2 := by
          unfold x2
          refine State.wrapKey_within qfresh qkeys ?_
          change Within2 b _
          exact hx1
        try clear_value x2
        refine ite_elim (P := Within3E b) ?_ ?_
        · exact exceptError _
        · refine exceptOk (P := Within3 b) ?_
          refine within3_mk ?_
          refine within2_mk ?_
          change Within2 b _
          exact hx2

theorem State.opWrap_within {b : Bounds} {p0 p1 p2 p3} (qfresh : b.parts .fresh) (qkeys : b.parts .keys) (hp0 : Within b p0) : Within3E b (State.opWrap p0 p1 p2 p3) := by
  unfold State.opWrap
  extract_lets -merge -useContext -underBinder x1
  refine ite_elim (P := Within3E b) ?_ ?_
  · exact exceptError _
  · refine ite_elim (P := Within3E b) ?_ ?_
    · exact exceptError _
    · split
      · exact exceptError _
      · split
        · exact exceptError _
        · extract_lets -merge -useContext -underBinder x2
          have hx2 : Within2 b x2 := by
            unfold x2
            refine State.wrapKey_within qfresh qkeys ?_
            exact hp0
          try clear_value x2
          refine ite_elim (P := Within3E b) ?_ ?_
          · exact exceptError _
          · refine exceptOk (P := Within3 b) ?_
            refine within3_mk ?_
            refine within2_mk ?_
            change Within2 b _
            exact hx2

theorem State.opEncrypt_within {b : Bounds} {p0 p1 p2 p3} (qfresh : b.parts .fresh) (qkeys : b.parts .keys) (hp0 : Within b p0) : Within3E b (State.opEncrypt p0 p1 p2 p3) := by
  unfold State.opEncrypt
  extract_lets -merge -useContext -underBinder x1
  refine ite_elim (P := Within3E b) ?_ ?_
  · exact exceptError _
  · refine ite_elim (P := Within3E b) ?_ ?_
    · exact exceptError _
    · split
      · exact exceptError _
      · extract_lets -merge -useContext -underBinder x2
        have hx2 : Within2 b x2 := by
          unfold x2
          refine State.drbg_within qfresh qkeys ?_
          exact hp0
        try clear_value x2
        refine ite_elim (P := Within3E b) ?_ ?_
        · exact exceptError _
        · refine ite_elim (P := Within3E b) ?_ ?_
          · exact exceptError _
          · refine exceptOk (P := Within3 b) ?_
            refine within3_mk ?_
            refine within2_mk ?_
            change Within2 b _
            exact hx2

theorem State.opDecrypt_within {b : Bounds} {p0 p1 p2 p3} (hp0 : Within b p0) : Within3E b (State.opDecrypt p0 p1 p2 p3) := by
  unfold State.opDecrypt
  extract_lets -merge -useContext -underBinder x1 x2
  refine ite_elim (P := Within3E b) ?_ ?_
  · exact exceptError _
  · refine ite_elim (P := Within3E b) ?_ ?_
    · exact exceptError _
    · split
      · exact exceptError _
      · refine ite_elim (P := Within3E b) ?_ ?_
        · exact exceptError _
        · split
          · exact exceptError _
          · refine exceptOk (P := Within3 b) ?_
            refine within3_mk ?_
            refine within2_mk ?_
            exact hp0

theorem State.opMac_within {b : Bounds} {p0 p1 p2 p3} (hp0 : Within b p0) : Within3E b (State.opMac p0 p1 p2 p3) := by
  unfold State.opMac
  refine ite_elim (P := Within3E b) ?_ ?_
  · exact exceptError _
  · split
    · exact exceptError _
    · refine ite_elim (P := Within3E b) ?_ ?_
      · exact exceptError _
      · refine exceptOk (P := Within3 b) ?_
        refine within3_mk ?_
        refine within2_mk ?_
        exact hp0

theorem State.revokeNode_within {b : Bounds} {p0 p1} (qevu : b.parts .evu) (qsess : b.parts .sess) (qkeys : b.parts .keys) (c3 : ∀ w0, b.regs (O19.HANDLE_STATE w0)) (c4 : ∀ k ∈ eventRegs 403, b.regs k) (c5 : b.regs O19.KS_FLAGS) (hp0 : Within b p0) : Within b (State.revokeNode p0 p1) := by
  unfold State.revokeNode
  extract_lets -merge -useContext -underBinder x1 x2 x3
  have hx1 : Within b x1 := by
    unfold x1
    refine State.forEach_within ?_ ?_
    · exact hp0
    · intro u4 u5 hu4
      try beta_reduce
      refine State.setN_within (c3 _) ?_
      refine State.onKeys_within qkeys ?_
      exact hu4
  try clear_value x1
  have hx3 : Within b x3 := by
    unfold x3
    refine State.forEach_within ?_ ?_
    · exact hx1
    · intro u6 u7 hu6
      try beta_reduce
      split
      · refine State.keyRefused_within qevu c4 c5 ?_
        refine State.keyResult_within qsess ?_
        exact hu6
      · exact hu6
  try clear_value x3
  refine State.onKeys_within qkeys ?_
  exact hx3

theorem State.opRevoke_within {b : Bounds} {p0 p1 p2} (qevu : b.parts .evu) (qsess : b.parts .sess) (qkeys : b.parts .keys) (c3 : ∀ w0, b.regs (O19.HANDLE_STATE w0)) (c4 : ∀ k ∈ eventRegs 403, b.regs k) (c5 : b.regs O19.KS_FLAGS) (c6 : b.regs O19.GEN_USED) (c7 : ∀ k ∈ eventRegs 402, b.regs k) (c8 : ∀ k ∈ eventRegs 412, b.regs k) (hp0 : Within b p0) : Within3E b (State.opRevoke p0 p1 p2) := by
  unfold State.opRevoke
  split
  · exact exceptError _
  · exact exceptError _
  · extract_lets -merge -useContext -underBinder x1 x2 x3 x4 x5 x6
    have hx5 : Within b x5 := by
      unfold x5
      refine State.revokeNode_within qevu qsess qkeys c3 c4 c5 ?_
      refine State.setN_within c6 ?_
      refine State.onKeys_within qkeys ?_
      exact hp0
    try clear_value x5
    have hx6 : Within b x6 := by
      unfold x6
      refine State.raise_within qevu c7 ?_
      refine State.flag_within c5 ?_
      exact hx5
    try clear_value x6
    refine ite_elim (P := Within3E b) ?_ ?_
    · exact exceptError _
    · refine ite_elim (P := Within3E b) ?_ ?_
      · exact exceptError _
      · refine exceptOk (P := Within3 b) ?_
        refine within3_mk ?_
        refine within2_mk ?_
        refine ite_elim (P := Within b) ?_ ?_
        · refine State.raise_within qevu c8 ?_
          exact hx6
        · exact hx6

theorem State.opRewrap_within {b : Bounds} {p0 p1} (qfresh : b.parts .fresh) (qkeys : b.parts .keys) (hp0 : Within b p0) : Within3E b (State.opRewrap p0 p1) := by
  unfold State.opRewrap
  split
  · exact exceptError _
  · extract_lets -merge -useContext -underBinder x1 x2
    have hx2 : Within2 b x2 := by
      unfold x2
      refine State.wrapKey_within qfresh qkeys ?_
      exact hp0
    try clear_value x2
    refine ite_elim (P := Within3E b) ?_ ?_
    · exact exceptError _
    · refine ite_elim (P := Within3E b) ?_ ?_
      · exact exceptError _
      · refine exceptOk (P := Within3 b) ?_
        refine within3_mk ?_
        refine within2_mk ?_
        change Within2 b _
        exact hx2

theorem State.keyEnd_within {b : Bounds} {p0 p1 p2 p3 p4} (qevu : b.parts .evu) (qsess : b.parts .sess) (qkeys : b.parts .keys) (c3 : ∀ k ∈ eventRegs 403, b.regs k) (c4 : b.regs O19.KS_FLAGS) (hp0 : Within b p0) (hp4 : Within3E b p4) : Within1 b (State.keyEnd p0 p1 p2 p3 p4) := by
  unfold State.keyEnd
  split
  · refine within1_mk ?_
    refine State.keyRefused_within qevu c3 c4 ?_
    refine State.keyResult_within qsess ?_
    exact hp0
  · rename_i y4 y5 y6
    refine within1_mk ?_
    refine State.onKeys_within qkeys ?_
    refine State.keyResult_within qsess ?_
    exact (hp4 _ rfl)

theorem State.keyGate_within {b : Bounds} {p0 p1 p2 p3 p4} (qevu : b.parts .evu) (qsess : b.parts .sess) (qkeys : b.parts .keys) (c3 : ∀ k ∈ eventRegs 403, b.regs k) (c4 : b.regs O19.KS_FLAGS) (hp0 : Within b p0) (hp4 : ∀ (a : State), Within b a → Within3E b (p4 a)) : Within1 b (State.keyGate p0 p1 p2 p3 p4) := by
  unfold State.keyGate
  refine State.keyEnd_within qevu qsess qkeys c3 c4 ?_ ?_
  · exact hp0
  · refine ite_elim (P := Within3E b) ?_ ?_
    · exact exceptError _
    · refine ite_elim (P := Within3E b) ?_ ?_
      · exact exceptError _
      · split
        · rename_i y1 y2 e3
          have k4 := transport (P := Within3E b) e3 (by
            refine hp4 _ ?_
            exact hp0
            )
          exact k4
        · rename_i y5 y6 e7
          have k8 := transport (P := Within3E b) e7 (by
            refine hp4 _ ?_
            exact hp0
            )
          refine ite_elim (P := Within3E b) ?_ ?_
          · exact exceptError _
          · exact k8

theorem State.keyRequest_within {b : Bounds} {p0 p1 p2} (qfresh : b.parts .fresh) (qevu : b.parts .evu) (qsess : b.parts .sess) (qkeys : b.parts .keys) (c4 : ∀ k ∈ eventRegs 403, b.regs k) (c5 : b.regs O19.KS_FLAGS) (c6 : b.regs O19.HANDLES_OPEN) (c7 : b.regs (O19.HANDLE_OWNER (Sys2Proof.natBE (Sys2Proof.slice p2 2 2)))) (c8 : b.regs (O19.HANDLE_INFO (Sys2Proof.natBE (Sys2Proof.slice p2 2 2)))) (c9 : ∀ w0, b.regs (O19.HANDLE_STATE w0)) (c10 : b.regs O19.GEN_USED) (c11 : ∀ k ∈ eventRegs 402, b.regs k) (c12 : ∀ k ∈ eventRegs 412, b.regs k) (hp0 : Within b p0) : Within1 b (State.keyRequest p0 p1 p2) := by
  unfold State.keyRequest
  extract_lets -merge -useContext -underBinder x1 x2 x3 x4 x5
  refine ite_elim (P := Within1 b) ?_ ?_
  · refine within1_mk ?_
    exact hp0
  · refine ite_elim (P := Within1 b) ?_ ?_
    · refine within1_mk ?_
      exact hp0
    · refine ite_elim (P := Within1 b) ?_ ?_
      · refine State.keyEnd_within qevu qsess qkeys c4 c5 ?_ ?_
        · exact hp0
        · exact exceptError _
      · refine ite_elim (P := Within1 b) ?_ ?_
        · refine State.keyEnd_within qevu qsess qkeys c4 c5 ?_ ?_
          · exact hp0
          · exact exceptError _
        · refine ite_elim (P := Within1 b) ?_ ?_
          · refine State.keyEnd_within qevu qsess qkeys c4 c5 ?_ ?_
            · exact hp0
            · exact exceptError _
          · refine State.keyGate_within qevu qsess qkeys c4 c5 ?_ ?_
            · exact hp0
            · intro u6 hu6
              try beta_reduce
              try clear_value x1
              split
              · refine State.opOpenPath_within qfresh qkeys c6 c7 c8 (c9 _) ?_
                exact hu6
              · refine State.opOpenBlob_within qfresh qkeys c6 c7 c8 (c9 _) ?_
                exact hu6
              · refine ite_elim (P := Within3E b) ?_ ?_
                · refine State.opClose_within qkeys c6 c7 c8 (c9 _) ?_
                  exact hu6
                · exact exceptError _
              · refine State.opGenerate_within qfresh qkeys ?_
                exact hu6
              · refine State.opWrap_within qfresh qkeys ?_
                exact hu6
              · refine State.opEncrypt_within qfresh qkeys ?_
                exact hu6
              · refine State.opDecrypt_within ?_
                exact hu6
              · refine State.opMac_within ?_
                exact hu6
              · refine State.opRevoke_within qevu qsess qkeys c9 c4 c5 c10 c11 c12 ?_
                exact hu6
              · refine State.opRewrap_within qfresh qkeys ?_
                exact hu6

theorem State.keysSeam_within {b : Bounds} {p0} (qsent : b.parts .sent) (qevu : b.parts .evu) (qsess : b.parts .sess) (qmail : b.parts .mail) (qnet : b.parts .net) (qfurlongs : b.parts .furlongs) (qkeys : b.parts .keys) (c7 : ∀ k ∈ eventRegs 3617, b.regs k) (c8 : ∀ w0, b.regs (O0F.PORT_FLAGS w0)) (c9 : ∀ k ∈ eventRegs 296, b.regs k) (c10 : ∀ w0, b.regs (O12.TRUNK_FLAGS w0)) (c11 : ∀ w0, b.regs (O12.FURLONG_STATE w0)) (hp0 : Within b p0) : Within b (State.keysSeam p0) := by
  unfold State.keysSeam
  extract_lets -merge -useContext -underBinder x1 x2 x3 x4 x5 x6 x7 x8
  have hx5 : Within b x5 := by
    unfold x5
    refine Within.f_net (s := p0) qnet ?_
    exact hp0
  try clear_value x5
  have hx6 : Within b x6 := by
    unfold x6
    refine State.forEach_within ?_ ?_
    · exact hx5
    · intro u9 u10 hu9
      try beta_reduce
      refine State.raise_within qevu c7 ?_
      refine State.flag_within (c8 _) ?_
      exact hu9
  try clear_value x6
  have hx7 : Within b x7 := by
    unfold x7
    refine ite_elim (P := Within b) ?_ ?_
    · refine State.dropTrunkKeys_within qevu qfurlongs c9 c10 c11 ?_
      exact hx6
    · exact hx6
  try clear_value x7
  have hx8 : Within b x8 := by
    unfold x8
    refine State.forEach_within ?_ ?_
    · exact hx7
    · intro u11 u12 hu11
      try beta_reduce
      refine State.respond_within qsent qsess qmail ?_
      exact hu11
  try clear_value x8
  refine State.onKeys_within qkeys ?_
  exact hx8

theorem State.actEnroll_within {b : Bounds} {p0 p1 p2} (qfresh : b.parts .fresh) (qevu : b.parts .evu) (qsess : b.parts .sess) (qkeys : b.parts .keys) (c4 : ∀ k ∈ eventRegs 405, b.regs k) (c5 : b.regs O19.ENROLLED) (hp0 : Within b p0) : Within1 b (State.actEnroll p0 p1 p2) := by
  unfold State.actEnroll
  extract_lets -merge -useContext -underBinder x1 x2 x3 x4 x5 x6
  have hx1 : Within2 b x1 := by
    unfold x1
    refine State.drbg_within qfresh qkeys ?_
    exact hp0
  try clear_value x1
  refine ite_elim (P := Within1 b) ?_ ?_
  · refine within1_mk ?_
    exact hp0
  · refine ite_elim (P := Within1 b) ?_ ?_
    · refine within1_mk ?_
      exact hp0
    · refine ite_elim (P := Within1 b) ?_ ?_
      · refine within1_mk ?_
        exact hp0
      · refine ite_elim (P := Within1 b) ?_ ?_
        · refine within1_mk ?_
          exact hp0
        · refine ite_elim (P := Within1 b) ?_ ?_
          · refine within1_mk ?_
            exact hp0
          · refine within1_mk ?_
            refine State.raise_within qevu c4 ?_
            refine State.setB_within c5 ?_
            refine State.setOwn_within qsess ?_
            change Within2 b _
            exact hx1

theorem State.actAttest_within {b : Bounds} {p0 p1 p2} (qsess : b.parts .sess) (hp0 : Within b p0) : Within1 b (State.actAttest p0 p1 p2) := by
  unfold State.actAttest
  extract_lets -merge -useContext -underBinder x1 x2
  refine ite_elim (P := Within1 b) ?_ ?_
  · refine within1_mk ?_
    exact hp0
  · refine ite_elim (P := Within1 b) ?_ ?_
    · refine within1_mk ?_
      exact hp0
    · refine ite_elim (P := Within1 b) ?_ ?_
      · refine within1_mk ?_
        exact hp0
      · refine ite_elim (P := Within1 b) ?_ ?_
        · refine within1_mk ?_
          exact hp0
        · refine within1_mk ?_
          refine State.setOwn_within qsess ?_
          exact hp0

theorem State.exportRoot_within {b : Bounds} {p0 p1} (qfresh : b.parts .fresh) (qevu : b.parts .evu) (qkeys : b.parts .keys) (c3 : ∀ k ∈ eventRegs 406, b.regs k) (c4 : b.regs O19.MIGRATE_STATE) (hp0 : Within b p0) : Within1 b (State.exportRoot p0 p1) := by
  unfold State.exportRoot
  extract_lets -merge -useContext -underBinder x1 x2 x3 x4 x5
  have hx3 : Within2 b x3 := by
    unfold x3
    refine State.drbg_within qfresh qkeys ?_
    exact hp0
  try clear_value x3
  have hx5 : Within b x5 := by
    unfold x5
    refine State.onKeys_within qkeys ?_
    change Within2 b _
    exact hx3
  try clear_value x5
  refine ite_elim (P := Within1 b) ?_ ?_
  · refine within1_mk ?_
    exact hp0
  · refine ite_elim (P := Within1 b) ?_ ?_
    · refine within1_mk ?_
      exact hp0
    · refine within1_mk ?_
      refine State.raise_within qevu c3 ?_
      refine State.setN_within c4 ?_
      exact hx5

theorem State.importRoot_within {b : Bounds} {p0} (qfresh : b.parts .fresh) (qevu : b.parts .evu) (qkeys : b.parts .keys) (c3 : ∀ k ∈ eventRegs 408, b.regs k) (c4 : b.regs O19.KS_FLAGS) (c5 : b.regs O19.MIGRATE_STATE) (c6 : ∀ k ∈ eventRegs 407, b.regs k) (c7 : b.regs O19.PREVIOUS_ROOT_ID) (hp0 : Within b p0) : Within1 b (State.importRoot p0) := by
  unfold State.importRoot
  extract_lets -merge -useContext -underBinder x1 x2 x3
  have hx3 : Within b x3 := by
    unfold x3
    refine State.raise_within qevu c3 ?_
    refine State.flag_within c4 ?_
    refine State.setN_within c5 ?_
    exact hp0
  try clear_value x3
  refine ite_elim (P := Within1 b) ?_ ?_
  · refine within1_mk ?_
    exact hp0
  · refine ite_elim (P := Within1 b) ?_ ?_
    · refine within1_mk ?_
      exact hp0
    · split
      · refine within1_mk ?_
        exact hx3
      · extract_lets -merge -useContext -underBinder x4
        have hx4 : Within b x4 := by
          unfold x4
          refine State.onKeys_within qkeys ?_
          refine State.ramPut_within qfresh qkeys ?_
          exact hp0
        try clear_value x4
        refine ite_elim (P := Within1 b) ?_ ?_
        · refine within1_mk ?_
          exact hx3
        · refine within1_mk ?_
          refine State.raise_within qevu c6 ?_
          refine State.setBytes_within c7 ?_
          refine State.setN_within c5 ?_
          exact hx4

theorem State.startKeyMigrate_within {b : Bounds} {p0 p1 p2 p3} (qsent : b.parts .sent) (qevu : b.parts .evu) (qsess : b.parts .sess) (qmail : b.parts .mail) (qjobs : b.parts .jobs) (c5 : ∀ w0, b.regs (O1B.JOB_ENDED w0)) (c6 : ∀ w0, b.regs (O1B.JOB_RESULT w0)) (c7 : ∀ w0, b.regs (O1B.JOB_OWNER w0)) (c8 : ∀ w0, b.regs (O1B.JOB_PROGRESS w0)) (c9 : ∀ w0, b.regs (O1B.JOB_STATUS w0)) (c10 : ∀ w0, b.regs (O1B.JOB_OBJECT w0)) (c11 : ∀ w0, b.regs (O1C.SESS_QUEUE w0)) (c12 : ∀ k ∈ eventRegs 451, b.regs k) (c13 : b.regs O1C.FILULO_FLAGS) (c14 : ∀ k ∈ eventRegs 432, b.regs k) (c15 : b.regs O1B.JOBS_QUEUED) (c16 : b.regs O1B.JOBS_RUNNING) (c17 : ∀ w0, b.regs (O1B.JOB_STARTED w0)) (c18 : ∀ w0, b.regs (O1B.JOB_STATE w0)) (hp0 : Within b p0) : Within1 b (State.startKeyMigrate p0 p1 p2 p3) := by
  unfold State.startKeyMigrate
  refine ite_elim (P := Within1 b) ?_ ?_
  · refine within1_mk ?_
    exact hp0
  · refine ite_elim (P := Within1 b) ?_ ?_
    · refine within1_mk ?_
      exact hp0
    · refine ite_elim (P := Within1 b) ?_ ?_
      · refine within1_mk ?_
        exact hp0
      · refine ite_elim (P := Within1 b) ?_ ?_
        · refine within1_mk ?_
          exact hp0
        · refine State.startJob_within qsent qevu qsess qmail qjobs c5 c6 c7 c8 c9 c10 c11 c12 c13 c14 c15 c16 c17 c18 ?_
          exact hp0

theorem State.migrateJobEnd_within {b : Bounds} {p0 p1} (qfresh : b.parts .fresh) (qsent : b.parts .sent) (qevu : b.parts .evu) (qsess : b.parts .sess) (qmail : b.parts .mail) (qjobs : b.parts .jobs) (qkeys : b.parts .keys) (c7 : b.regs O19.KS_FLAGS) (c8 : b.regs O19.MIGRATE_STATE) (c9 : b.regs O19.PREVIOUS_ROOT_ID) (c10 : b.regs (O1B.JOB_ENDED p1)) (c11 : b.regs (O1B.JOB_STATUS p1)) (c12 : b.regs (O1B.JOB_RESULT p1)) (c13 : b.regs (O1B.JOB_PROGRESS p1)) (c14 : b.regs O1B.JOBS_QUEUED) (c15 : b.regs O1B.JOBS_RUNNING) (c16 : ∀ w0, b.regs (O1C.SESS_QUEUE w0)) (c17 : b.regs O1C.FILULO_FLAGS) (c18 : ∀ w0, b.regs (O1B.JOB_STARTED w0)) (c19 : ∀ w0, b.regs (O1B.JOB_STATE w0)) (c20 : ∀ w0, ∀ k ∈ eventRegs w0, b.regs k) (hp0 : Within b p0) : Within b (State.migrateJobEnd p0 p1) := by
  unfold State.migrateJobEnd
  split
  · exact hp0
  · extract_lets -merge -useContext -underBinder x1
    have hx1 : Within1 b x1 := by
      unfold x1
      refine ite_elim (P := Within1 b) ?_ ?_
      · refine State.importRoot_within qfresh qevu qkeys (c20 _) c7 c8 (c20 _) c9 ?_
        exact hp0
      · refine State.exportRoot_within qfresh qevu qkeys (c20 _) c8 ?_
        exact hp0
    try clear_value x1
    refine State.endJob_within qsent qevu qsess qmail qjobs c10 c11 c12 c13 c14 c15 c16 c17 c18 c19 c20 ?_
    change Within1 b _
    exact hx1

theorem State.actKeyRetire_within {b : Bounds} {p0} (qevu : b.parts .evu) (qkeys : b.parts .keys) (c2 : ∀ k ∈ eventRegs 409, b.regs k) (c3 : b.regs O19.MIGRATE_STATE) (c4 : b.regs O19.PREVIOUS_ROOT_ID) (hp0 : Within b p0) : Within1 b (State.actKeyRetire p0) := by
  unfold State.actKeyRetire
  extract_lets -merge -useContext -underBinder x1
  have hx1 : Within b x1 := by
    unfold x1
    refine State.onKeys_within qkeys ?_
    refine State.ramClear_within qkeys ?_
    exact hp0
  try clear_value x1
  refine ite_elim (P := Within1 b) ?_ ?_
  · refine within1_mk ?_
    exact hp0
  · refine ite_elim (P := Within1 b) ?_ ?_
    · refine within1_mk ?_
      exact hp0
    · refine ite_elim (P := Within1 b) ?_ ?_
      · refine within1_mk ?_
        exact hp0
      · refine within1_mk ?_
        refine State.raise_within qevu c2 ?_
        refine State.setN_within c3 ?_
        refine State.clearObj_within c4 ?_
        exact hx1

theorem State.samplePins_within {b : Bounds} {p0 p1} (qkeys : b.parts .keys) (c1 : b.regs O19.TAMPER_LEVELS) (hp0 : Within b p0) : Within1 b (State.samplePins p0 p1) := by
  unfold State.samplePins
  refine within1_mk ?_
  refine State.setN_within c1 ?_
  refine State.onKeys_within qkeys ?_
  exact hp0

theorem State.writeTamperConfig_within {b : Bounds} {p0 p1} (qevu : b.parts .evu) (c1 : ∀ k ∈ eventRegs 413, b.regs k) (c2 : b.regs O19.TAMPER_CONFIG) (hp0 : Within b p0) : Within1 b (State.writeTamperConfig p0 p1) := by
  unfold State.writeTamperConfig
  refine ite_elim (P := Within1 b) ?_ ?_
  · refine within1_mk ?_
    exact hp0
  · refine ite_elim (P := Within1 b) ?_ ?_
    · refine within1_mk ?_
      exact hp0
    · refine within1_mk ?_
      refine State.raise_within qevu c1 ?_
      refine State.setN_within c2 ?_
      exact hp0

theorem State.zeroise_within {b : Bounds} {p0} (qkeys : b.parts .keys) (c1 : b.regs O19.HANDLES_OPEN) (c2 : ∀ w0, b.regs (O19.HANDLE_OWNER w0)) (c3 : ∀ w0, b.regs (O19.HANDLE_INFO w0)) (c4 : ∀ w0, b.regs (O19.HANDLE_STATE w0)) (hp0 : Within b p0) : Within b (State.zeroise p0) := by
  unfold State.zeroise
  extract_lets -merge -useContext -underBinder x1
  have hx1 : Within b x1 := by
    unfold x1
    refine State.forEach_within ?_ ?_
    · exact hp0
    · intro u2 u3 hu2
      try beta_reduce
      refine State.closeHandle_within qkeys c1 (c2 _) (c3 _) (c4 _) ?_
      exact hu2
  try clear_value x1
  refine State.onKeys_within qkeys ?_
  exact hx1

theorem State.rootsStep_within {b : Bounds} {p0} (qfresh : b.parts .fresh) (qboot : b.parts .boot) (qkeys : b.parts .keys) (c3 : b.regs O19.HANDLES_OPEN) (c4 : ∀ w0, b.regs (O19.HANDLE_OWNER w0)) (c5 : ∀ w0, b.regs (O19.HANDLE_INFO w0)) (c6 : ∀ w0, b.regs (O19.HANDLE_STATE w0)) (c7 : b.regs O19.KS_FLAGS) (c8 : b.regs O19.TAMPER_CONFIG) (c9 : b.regs O19.GEN_USED) (hp0 : Within b p0) : Within b (State.rootsStep p0) := by
  unfold State.rootsStep
  extract_lets -merge -useContext -underBinder x1 x2 x3 x4 x5 x6 x7 x8 x9 x10 x11 x12 x13
  have hx1 : Within b x1 := by
    unfold x1
    refine State.zeroise_within qkeys c3 c4 c5 c6 ?_
    exact hp0
  try clear_value x1
  have hx2 : Within2 b x2 := by
    unfold x2
    refine State.drbg_within qfresh qkeys ?_
    exact hx1
  try clear_value x2
  have hx3 : Within b x3 := by
    unfold x3
    refine ite_elim (P := Within b) ?_ ?_
    · refine State.flag_within c7 ?_
      refine State.clearObj_within c8 ?_
      refine State.onKeys_within qkeys ?_
      change Within2 b _
      exact hx2
    · exact hx1
  try clear_value x3
  have hx5 : Within b x5 := by
    unfold x5
    refine ite_elim (P := Within b) ?_ ?_
    · refine Within.f_boot (s := x3) qboot ?_
      exact hx3
    · exact hx3
  try clear_value x5
  have hx9 : Within b x9 := by
    unfold x9
    refine State.onKeys_within qkeys ?_
    exact hx5
  try clear_value x9
  have hx10 : Within b x10 := by
    unfold x10
    refine ite_elim (P := Within b) ?_ ?_
    · exact hx9
    · refine State.onKeys_within qkeys ?_
      exact hx9
  try clear_value x10
  have hx12 : Within b x12 := by
    unfold x12
    refine State.onKeys_within qkeys ?_
    exact hx10
  try clear_value x12
  have hx13 : Within b x13 := by
    unfold x13
    refine State.ramPut_within qfresh qkeys ?_
    refine State.ramPut_within qfresh qkeys ?_
    refine State.ramPut_within qfresh qkeys ?_
    refine State.ramPut_within qfresh qkeys ?_
    exact hx12
  try clear_value x13
  refine State.setN_within c9 ?_
  exact hx13

theorem State.actMacsecSa_within {b : Bounds} {p0 p1 p2} (qevu : b.parts .evu) (qnet : b.parts .net) (c2 : ∀ k ∈ eventRegs 403, b.regs k) (c3 : b.regs O19.KS_FLAGS) (c4 : ∀ k ∈ eventRegs 3616, b.regs k) (hp0 : Within b p0) : Within1 b (State.actMacsecSa p0 p1 p2) := by
  unfold State.actMacsecSa
  extract_lets -merge -useContext -underBinder x1 x2 x3 x4 x5
  refine ite_elim (P := Within1 b) ?_ ?_
  · refine within1_mk ?_
    exact hp0
  · refine ite_elim (P := Within1 b) ?_ ?_
    · refine within1_mk ?_
      exact hp0
    · split
      · refine within1_mk ?_
        refine State.keyRefused_within qevu c2 c3 ?_
        exact hp0
      · extract_lets -merge -useContext -underBinder x6 x7 x8 x9
        have hx9 : Within b x9 := by
          unfold x9
          refine ite_elim (P := Within b) ?_ ?_
          · refine State.onNet_within qnet ?_
            exact hp0
          · refine State.onNet_within qnet ?_
            exact hp0
        try clear_value x9
        refine within1_mk ?_
        refine State.raise_within qevu c4 ?_
        exact hx9

theorem State.actTrunkKey_within {b : Bounds} {p0 p1 p2} (qevu : b.parts .evu) (qfurlongs : b.parts .furlongs) (c2 : ∀ k ∈ eventRegs 403, b.regs k) (c3 : b.regs O19.KS_FLAGS) (c4 : ∀ k ∈ eventRegs 295, b.regs k) (hp0 : Within b p0) : Within1 b (State.actTrunkKey p0 p1 p2) := by
  unfold State.actTrunkKey
  extract_lets -merge -useContext -underBinder x1 x2 x3
  refine ite_elim (P := Within1 b) ?_ ?_
  · refine within1_mk ?_
    exact hp0
  · refine ite_elim (P := Within1 b) ?_ ?_
    · refine within1_mk ?_
      exact hp0
    · split
      · refine within1_mk ?_
        refine State.keyRefused_within qevu c2 c3 ?_
        exact hp0
      · extract_lets -merge -useContext -underBinder x4 x5 x6
        refine within1_mk ?_
        refine State.raise_within qevu c4 ?_
        refine State.setFurlong_within qfurlongs ?_
        exact hp0

theorem keyLive_within {b : Bounds} {p0 p1 p2} (hp0 : Within b p0) (hp2 : ∀ a0, Within b a0 → Within1 b (p2 a0)) : WithinOut b (keyLive p0 p1 p2) := by
  unfold keyLive
  refine live_within ?_ ?_
  · exact hp0
  · intro u1 hu1
    try beta_reduce
    refine ite_elim (P := Within b) ?_ ?_
    · change Within1 b _
      refine hp2 _ ?_
      · exact hu1
    · exact hu1

theorem execOpenPath_within {b : Bounds} {p0 p1 p2 p3 p4} (qfresh : b.parts .fresh) (qevu : b.parts .evu) (qsess : b.parts .sess) (qkeys : b.parts .keys) (c4 : ∀ k ∈ eventRegs 403, b.regs k) (c5 : b.regs O19.KS_FLAGS) (c6 : b.regs O19.HANDLES_OPEN) (c7 : b.regs (O19.HANDLE_OWNER p2)) (c8 : b.regs (O19.HANDLE_INFO p2)) (c9 : b.regs (O19.HANDLE_STATE p2)) (hp4 : Within b p4) : WithinOut b (execOpenPath p0 p1 p2 p3 p4) := by
  unfold execOpenPath
  refine keyLive_within ?_ ?_
  · exact hp4
  · intro u1 hu1
    try beta_reduce
    refine State.keyGate_within qevu qsess qkeys c4 c5 ?_ ?_
    · exact hu1
    · intro u2 hu2
      try beta_reduce
      refine ite_elim (P := Within3E b) ?_ ?_
      · refine State.opOpenPath_within qfresh qkeys c6 c7 c8 c9 ?_
        exact hu2
      · exact exceptError _

theorem execOpenBlob_within {b : Bounds} {p0 p1 p2 p3} (qfresh : b.parts .fresh) (qevu : b.parts .evu) (qsess : b.parts .sess) (qkeys : b.parts .keys) (c4 : ∀ k ∈ eventRegs 403, b.regs k) (c5 : b.regs O19.KS_FLAGS) (c6 : b.regs O19.HANDLES_OPEN) (c7 : b.regs (O19.HANDLE_OWNER p1)) (c8 : b.regs (O19.HANDLE_INFO p1)) (c9 : b.regs (O19.HANDLE_STATE p1)) (hp3 : Within b p3) : WithinOut b (execOpenBlob p0 p1 p2 p3) := by
  unfold execOpenBlob
  refine keyLive_within ?_ ?_
  · exact hp3
  · intro u1 hu1
    try beta_reduce
    refine State.keyGate_within qevu qsess qkeys c4 c5 ?_ ?_
    · exact hu1
    · intro u2 hu2
      try beta_reduce
      refine State.opOpenBlob_within qfresh qkeys c6 c7 c8 c9 ?_
      exact hu2

theorem execKeyClose_within {b : Bounds} {p0 p1 p2} (qevu : b.parts .evu) (qsess : b.parts .sess) (qkeys : b.parts .keys) (c3 : ∀ k ∈ eventRegs 403, b.regs k) (c4 : b.regs O19.KS_FLAGS) (c5 : b.regs O19.HANDLES_OPEN) (c6 : b.regs (O19.HANDLE_OWNER p1)) (c7 : b.regs (O19.HANDLE_INFO p1)) (c8 : b.regs (O19.HANDLE_STATE p1)) (hp2 : Within b p2) : WithinOut b (execKeyClose p0 p1 p2) := by
  unfold execKeyClose
  refine keyLive_within ?_ ?_
  · exact hp2
  · intro u1 hu1
    try beta_reduce
    refine State.keyGate_within qevu qsess qkeys c3 c4 ?_ ?_
    · exact hu1
    · intro u2 hu2
      try beta_reduce
      refine State.opClose_within qkeys c5 c6 c7 c8 ?_
      exact hu2

theorem execGenerate_within {b : Bounds} {p0 p1 p2 p3} (qfresh : b.parts .fresh) (qevu : b.parts .evu) (qsess : b.parts .sess) (qkeys : b.parts .keys) (c4 : ∀ k ∈ eventRegs 403, b.regs k) (c5 : b.regs O19.KS_FLAGS) (hp3 : Within b p3) : WithinOut b (execGenerate p0 p1 p2 p3) := by
  unfold execGenerate
  refine keyLive_within ?_ ?_
  · exact hp3
  · intro u1 hu1
    try beta_reduce
    refine State.keyGate_within qevu qsess qkeys c4 c5 ?_ ?_
    · exact hu1
    · intro u2 hu2
      try beta_reduce
      refine State.opGenerate_within qfresh qkeys ?_
      exact hu2

theorem execWrap_within {b : Bounds} {p0 p1 p2 p3} (qfresh : b.parts .fresh) (qevu : b.parts .evu) (qsess : b.parts .sess) (qkeys : b.parts .keys) (c4 : ∀ k ∈ eventRegs 403, b.regs k) (c5 : b.regs O19.KS_FLAGS) (hp3 : Within b p3) : WithinOut b (execWrap p0 p1 p2 p3) := by
  unfold execWrap
  refine keyLive_within ?_ ?_
  · exact hp3
  · intro u1 hu1
    try beta_reduce
    refine State.keyGate_within qevu qsess qkeys c4 c5 ?_ ?_
    · exact hu1
    · intro u2 hu2
      try beta_reduce
      refine State.opWrap_within qfresh qkeys ?_
      exact hu2

theorem execEncrypt_within {b : Bounds} {p0 p1 p2 p3} (qfresh : b.parts .fresh) (qevu : b.parts .evu) (qsess : b.parts .sess) (qkeys : b.parts .keys) (c4 : ∀ k ∈ eventRegs 403, b.regs k) (c5 : b.regs O19.KS_FLAGS) (hp3 : Within b p3) : WithinOut b (execEncrypt p0 p1 p2 p3) := by
  unfold execEncrypt
  refine keyLive_within ?_ ?_
  · exact hp3
  · intro u1 hu1
    try beta_reduce
    refine State.keyGate_within qevu qsess qkeys c4 c5 ?_ ?_
    · exact hu1
    · intro u2 hu2
      try beta_reduce
      refine State.opEncrypt_within qfresh qkeys ?_
      exact hu2

theorem execDecrypt_within {b : Bounds} {p0 p1 p2 p3} (qevu : b.parts .evu) (qsess : b.parts .sess) (qkeys : b.parts .keys) (c3 : ∀ k ∈ eventRegs 403, b.regs k) (c4 : b.regs O19.KS_FLAGS) (hp3 : Within b p3) : WithinOut b (execDecrypt p0 p1 p2 p3) := by
  unfold execDecrypt
  refine keyLive_within ?_ ?_
  · exact hp3
  · intro u1 hu1
    try beta_reduce
    refine State.keyGate_within qevu qsess qkeys c3 c4 ?_ ?_
    · exact hu1
    · intro u2 hu2
      try beta_reduce
      refine State.opDecrypt_within ?_
      exact hu2

theorem execMac_within {b : Bounds} {p0 p1 p2 p3} (qevu : b.parts .evu) (qsess : b.parts .sess) (qkeys : b.parts .keys) (c3 : ∀ k ∈ eventRegs 403, b.regs k) (c4 : b.regs O19.KS_FLAGS) (hp3 : Within b p3) : WithinOut b (execMac p0 p1 p2 p3) := by
  unfold execMac
  refine keyLive_within ?_ ?_
  · exact hp3
  · intro u1 hu1
    try beta_reduce
    refine State.keyGate_within qevu qsess qkeys c3 c4 ?_ ?_
    · exact hu1
    · intro u2 hu2
      try beta_reduce
      refine State.opMac_within ?_
      exact hu2

theorem execRevoke_within {b : Bounds} {p0 p1 p2 p3} (qevu : b.parts .evu) (qsess : b.parts .sess) (qkeys : b.parts .keys) (c3 : ∀ k ∈ eventRegs 403, b.regs k) (c4 : b.regs O19.KS_FLAGS) (c5 : ∀ w0, b.regs (O19.HANDLE_STATE w0)) (c6 : b.regs O19.GEN_USED) (c7 : ∀ k ∈ eventRegs 402, b.regs k) (c8 : ∀ k ∈ eventRegs 412, b.regs k) (hp3 : Within b p3) : WithinOut b (execRevoke p0 p1 p2 p3) := by
  unfold execRevoke
  refine keyLive_within ?_ ?_
  · exact hp3
  · intro u1 hu1
    try beta_reduce
    refine State.keyGate_within qevu qsess qkeys c3 c4 ?_ ?_
    · exact hu1
    · intro u2 hu2
      try beta_reduce
      refine ite_elim (P := Within3E b) ?_ ?_
      · refine State.opRevoke_within qevu qsess qkeys c5 c3 c4 c6 c7 c8 ?_
        exact hu2
      · exact exceptError _

theorem execRewrap_within {b : Bounds} {p0 p1 p2} (qfresh : b.parts .fresh) (qevu : b.parts .evu) (qsess : b.parts .sess) (qkeys : b.parts .keys) (c4 : ∀ k ∈ eventRegs 403, b.regs k) (c5 : b.regs O19.KS_FLAGS) (hp2 : Within b p2) : WithinOut b (execRewrap p0 p1 p2) := by
  unfold execRewrap
  refine keyLive_within ?_ ?_
  · exact hp2
  · intro u1 hu1
    try beta_reduce
    refine State.keyGate_within qevu qsess qkeys c4 c5 ?_ ?_
    · exact hu1
    · intro u2 hu2
      try beta_reduce
      refine State.opRewrap_within qfresh qkeys ?_
      exact hu2

theorem execEnroll_within {b : Bounds} {p0 p1 p2} (qfresh : b.parts .fresh) (qevu : b.parts .evu) (qsess : b.parts .sess) (qkeys : b.parts .keys) (c4 : ∀ k ∈ eventRegs 405, b.regs k) (c5 : b.regs O19.ENROLLED) (hp2 : Within b p2) : WithinOut b (execEnroll p0 p1 p2) := by
  unfold execEnroll
  refine keyLive_within ?_ ?_
  · exact hp2
  · intro u1 hu1
    try beta_reduce
    refine State.actEnroll_within qfresh qevu qsess qkeys c4 c5 ?_
    exact hu1

theorem execAttest_within {b : Bounds} {p0 p1 p2} (qsess : b.parts .sess) (hp2 : Within b p2) : WithinOut b (execAttest p0 p1 p2) := by
  unfold execAttest
  refine keyLive_within ?_ ?_
  · exact hp2
  · intro u1 hu1
    try beta_reduce
    refine State.actAttest_within qsess ?_
    exact hu1

theorem execKeyMigrate_within {b : Bounds} {p0 p1 p2} (qsent : b.parts .sent) (qevu : b.parts .evu) (qsess : b.parts .sess) (qmail : b.parts .mail) (qjobs : b.parts .jobs) (c5 : ∀ w0, b.regs (O1B.JOB_ENDED w0)) (c6 : ∀ w0, b.regs (O1B.JOB_RESULT w0)) (c7 : ∀ w0, b.regs (O1B.JOB_OWNER w0)) (c8 : ∀ w0, b.regs (O1B.JOB_PROGRESS w0)) (c9 : ∀ w0, b.regs (O1B.JOB_STATUS w0)) (c10 : ∀ w0, b.regs (O1B.JOB_OBJECT w0)) (c11 : ∀ w0, b.regs (O1C.SESS_QUEUE w0)) (c12 : ∀ k ∈ eventRegs 451, b.regs k) (c13 : b.regs O1C.FILULO_FLAGS) (c14 : ∀ k ∈ eventRegs 432, b.regs k) (c15 : b.regs O1B.JOBS_QUEUED) (c16 : b.regs O1B.JOBS_RUNNING) (c17 : ∀ w0, b.regs (O1B.JOB_STARTED w0)) (c18 : ∀ w0, b.regs (O1B.JOB_STATE w0)) (hp2 : Within b p2) : WithinOut b (execKeyMigrate p0 p1 p2) := by
  unfold execKeyMigrate
  refine live_within ?_ ?_
  · exact hp2
  · intro u1 hu1
    try beta_reduce
    refine ite_elim (P := Within b) ?_ ?_
    · change Within1 b _
      refine State.startKeyMigrate_within qsent qevu qsess qmail qjobs c5 c6 c7 c8 c9 c10 c11 c12 c13 c14 c15 c16 c17 c18 ?_
      exact hu1
    · exact hu1

theorem execKeyRetire_within {b : Bounds} {p0} (qevu : b.parts .evu) (qkeys : b.parts .keys) (c2 : ∀ k ∈ eventRegs 409, b.regs k) (c3 : b.regs O19.MIGRATE_STATE) (c4 : b.regs O19.PREVIOUS_ROOT_ID) (hp0 : Within b p0) : WithinOut b (execKeyRetire p0) := by
  unfold execKeyRetire
  refine live_within ?_ ?_
  · exact hp0
  · intro u1 hu1
    try beta_reduce
    refine ite_elim (P := Within b) ?_ ?_
    · change Within1 b _
      refine State.actKeyRetire_within qevu qkeys c2 c3 c4 ?_
      exact hu1
    · exact hu1

theorem execTamperConfig_within {b : Bounds} {p0 p1} (qevu : b.parts .evu) (c1 : ∀ k ∈ eventRegs 413, b.regs k) (c2 : b.regs O19.TAMPER_CONFIG) (hp1 : Within b p1) : WithinOut b (execTamperConfig p0 p1) := by
  unfold execTamperConfig
  refine live_within ?_ ?_
  · exact hp1
  · intro u1 hu1
    try beta_reduce
    refine ite_elim (P := Within b) ?_ ?_
    · change Within1 b _
      refine State.writeTamperConfig_within qevu c1 c2 ?_
      exact hu1
    · exact hu1

theorem execRemask_within {b : Bounds} {p0} (qfresh : b.parts .fresh) (qkeys : b.parts .keys) (c2 : b.regs O19.REMASK_PASSES) (hp0 : Within b p0) : WithinOut b (execRemask p0) := by
  unfold execRemask
  refine live_within ?_ ?_
  · exact hp0
  · intro u1 hu1
    try beta_reduce
    extract_lets -merge -useContext -underBinder x2
    have hx2 : Within2 b x2 := by
      unfold x2
      refine State.drbg_within qfresh qkeys ?_
      exact hu1
    try clear_value x2
    split
    · extract_lets -merge -useContext -underBinder x3
      have hx3 : Within b x3 := by
        unfold x3
        refine State.onKeys_within qkeys ?_
        change Within2 b _
        exact hx2
      try clear_value x3
      refine ite_elim (P := Within b) ?_ ?_
      · refine State.bump_within c2 ?_
        exact hx3
      · exact hx3

theorem execDrbgReseed_within {b : Bounds} {p0} (qkeys : b.parts .keys) (hp0 : Within b p0) : WithinOut b (execDrbgReseed p0) := by
  unfold execDrbgReseed
  refine live_within ?_ ?_
  · exact hp0
  · intro u1 hu1
    try beta_reduce
    refine ite_elim (P := Within b) ?_ ?_
    · exact hu1
    · refine State.onKeys_within qkeys ?_
      exact hu1

theorem execEntropyHealthFailure_within {b : Bounds} {p0} (qevu : b.parts .evu) (qkeys : b.parts .keys) (c2 : ∀ k ∈ eventRegs 410, b.regs k) (c3 : b.regs O19.KS_FLAGS) (c4 : ∀ k ∈ eventRegs 411, b.regs k) (c5 : b.regs O19.ENTROPY_STATE) (hp0 : Within b p0) : WithinOut b (execEntropyHealthFailure p0) := by
  unfold execEntropyHealthFailure
  refine live_within ?_ ?_
  · exact hp0
  · intro u1 hu1
    try beta_reduce
    extract_lets -merge -useContext -underBinder x2 x3
    have hx3 : Within b x3 := by
      unfold x3
      refine State.raise_within qevu c2 ?_
      refine State.flag_within c3 ?_
      refine State.onKeys_within qkeys ?_
      exact hu1
    try clear_value x3
    refine ite_elim (P := Within b) ?_ ?_
    · refine State.raise_within qevu c4 ?_
      refine State.setN_within c5 ?_
      exact hx3
    · exact hx3

theorem execEntropyRetest_within {b : Bounds} {p0 p1} (qkeys : b.parts .keys) (c1 : b.regs O19.ENTROPY_STATE) (hp1 : Within b p1) : WithinOut b (execEntropyRetest p0 p1) := by
  unfold execEntropyRetest
  refine live_within ?_ ?_
  · exact hp1
  · intro u1 hu2
    try beta_reduce
    refine ite_elim (P := Within b) ?_ ?_
    · exact hu2
    · refine ite_elim (P := Within b) ?_ ?_
      · refine State.onKeys_within qkeys ?_
        refine State.setN_within c1 ?_
        exact hu2
      · refine State.onKeys_within qkeys ?_
        exact hu2

theorem execAonSupplyLoss_within {b : Bounds} {p0} (qfresh : b.parts .fresh) (qkeys : b.parts .keys) (c2 : b.regs O18.STANDBY_TAMPER) (hp0 : Within b p0) : WithinOut b (execAonSupplyLoss p0) := by
  unfold execAonSupplyLoss
  extract_lets -merge -useContext -underBinder x1
  have hx1 : Within2 b x1 := by
    unfold x1
    refine State.draw_within qfresh ?_
    exact hp0
  try clear_value x1
  refine outNext ?_
  refine State.setB_within c2 ?_
  refine State.onKeys_within qkeys ?_
  change Within2 b _
  exact hx1

theorem execMacsecSa_within {b : Bounds} {p0 p1 p2} (qevu : b.parts .evu) (qnet : b.parts .net) (c2 : ∀ k ∈ eventRegs 403, b.regs k) (c3 : b.regs O19.KS_FLAGS) (c4 : ∀ k ∈ eventRegs 3616, b.regs k) (hp2 : Within b p2) : WithinOut b (execMacsecSa p0 p1 p2) := by
  unfold execMacsecSa
  refine onInst_within ?_ ?_
  · exact hp2
  · intro u1 hu1
    try beta_reduce
    refine ite_elim (P := Within b) ?_ ?_
    · change Within1 b _
      refine State.actMacsecSa_within qevu qnet c2 c3 c4 ?_
      exact hu1
    · exact hu1

theorem execTrunkKey_within {b : Bounds} {p0 p1 p2} (qevu : b.parts .evu) (qfurlongs : b.parts .furlongs) (c2 : ∀ k ∈ eventRegs 403, b.regs k) (c3 : b.regs O19.KS_FLAGS) (c4 : ∀ k ∈ eventRegs 295, b.regs k) (hp2 : Within b p2) : WithinOut b (execTrunkKey p0 p1 p2) := by
  unfold execTrunkKey
  refine onInst_within ?_ ?_
  · exact hp2
  · intro u1 hu1
    try beta_reduce
    refine ite_elim (P := Within b) ?_ ?_
    · change Within1 b _
      refine State.actTrunkKey_within qevu qfurlongs c2 c3 c4 ?_
      exact hu1
    · exact hu1

end Sys2Proof.Machine
end

