-- ==== Sys2Proof/Laws/WithinBoot.lean ====
section
/-! SUPPORT. What each operation of Machine/Boot.lean may change at most (Laws/Within.lean). -/

set_option maxRecDepth 8000

namespace Sys2Proof.Machine

theorem State.onBoot_within {b : Bounds} {p0 p1} (qboot : b.parts .boot) (hp0 : Within b p0) : Within b (State.onBoot p0 p1) := by
  unfold State.onBoot
  refine Within.f_boot (s := p0) qboot ?_
  exact hp0

theorem State.writeRecord_within {b : Bounds} {p0 p1 p2 p3} (qboot : b.parts .boot) (hp0 : Within b p0) : Within b (State.writeRecord p0 p1 p2 p3) := by
  unfold State.writeRecord
  split
  · refine State.onBoot_within qboot ?_
    exact hp0
  · refine State.onBoot_within qboot ?_
    exact hp0
  · refine State.onBoot_within qboot ?_
    exact hp0

theorem State.resetDevice_within {b : Bounds} {p0 p1} (hp : ∀ p, p ∉ ([.pending, .member, .fresh, .sent] : List Part) → b.parts p) (hk : ∀ k, b.regs k) (hp0 : Within b p0) : Within b (State.resetDevice p0 p1) := by
  have hN : ∀ p, p ∉ ([.pending, .member, .fresh, .sent] : List Part) → b.parts p := hp
  unfold State.resetDevice
  refine State.setN_within (hk _) (foldl_elim (P := Within b) ?_ fun t k ht => ?_)
  · refine ⟨fun p h => ?_, fun k h => absurd (hk k) h, fun _ => ⟨rfl, rfl, Nat.zero_le _, Nat.two_pow_pos 40, rfl, rfl⟩⟩
    have hm : p ∈ ([.pending, .member, .fresh, .sent] : List Part) := Classical.byContradiction fun hx => h (hN p hx)
    refine Part.same_trans (hp0.same p h) ?_
    cases p <;> first | rfl | exact absurd hm (by decide)
  · split
    · exact State.setObj_within (hk _) ht
    · exact ht

theorem State.inPhase_within {b : Bounds} {p0 p1} (qphase : b.parts .phase) (hp0 : Within b p0) : Within b (State.inPhase p0 p1) := by
  unfold State.inPhase
  refine Within.f_phase (s := p0) qphase ?_
  exact hp0

theorem State.halt_within {b : Bounds} {p0 p1 p2 p3} (qphase : b.parts .phase) (qboot : b.parts .boot) (hp0 : Within b p0) : Within b (State.halt p0 p1 p2 p3) := by
  unfold State.halt
  refine State.onBoot_within qboot ?_
  refine Within.f_phase (s := p0) qphase ?_
  exact hp0

theorem State.romStep_within {b : Bounds} {p0 p1} (qboot : b.parts .boot) (hp0 : Within b p0) : Within b (State.romStep p0 p1) := by
  unfold State.romStep
  refine State.onBoot_within qboot ?_
  exact hp0

theorem State.leave_within {b : Bounds} {p0 p1 p2} (qboot : b.parts .boot) (hp0 : Within b p0) : Within b (State.leave p0 p1 p2) := by
  unfold State.leave
  refine State.onBoot_within qboot ?_
  exact hp0

theorem State.onOtp_within {b : Bounds} {p0 p1} (qboot : b.parts .boot) (hp0 : Within b p0) : Within b (State.onOtp p0 p1) := by
  unfold State.onOtp
  refine State.onBoot_within qboot ?_
  exact hp0

theorem State.programOtp_within {b : Bounds} {p0 p1} (qboot : b.parts .boot) (hp0 : Within b p0) : Within b (State.programOtp p0 p1) := by
  unfold State.programOtp
  split
  · refine State.onOtp_within qboot ?_
    exact hp0
  · refine State.onOtp_within qboot ?_
    exact hp0
  · refine State.onOtp_within qboot ?_
    exact hp0
  · refine State.leave_within qboot ?_
    refine State.onOtp_within qboot ?_
    exact hp0

theorem State.completeIntents_within {b : Bounds} {p0} (qboot : b.parts .boot) (hp0 : Within b p0) : Within b (State.completeIntents p0) := by
  unfold State.completeIntents
  extract_lets -merge -useContext -underBinder x1
  have hx1 : Within b x1 := by
    unfold x1
    refine State.forEach_within ?_ ?_
    · exact hp0
    · intro u2 u3 hu2
      try beta_reduce
      refine State.leave_within qboot ?_
      refine State.programOtp_within qboot ?_
      exact hu2
  try clear_value x1
  refine State.onOtp_within qboot ?_
  exact hx1

theorem State.generateRoot_within {b : Bounds} {p0} (qfresh : b.parts .fresh) (qboot : b.parts .boot) (qkeys : b.parts .keys) (hp0 : Within b p0) : Within b (State.generateRoot p0) := by
  unfold State.generateRoot
  extract_lets -merge -useContext -underBinder x1 x2 x3
  have hx3 : Within2 b x3 := by
    unfold x3
    refine State.drbg_within qfresh qkeys ?_
    exact hp0
  try clear_value x3
  refine State.onOtp_within qboot ?_
  change Within2 b _
  exact hx3

theorem State.imageChosen_within {b : Bounds} {p0 p1 p2} (qfresh : b.parts .fresh) (qboot : b.parts .boot) (qkeys : b.parts .keys) (c3 : b.regs O17.REMAP) (c4 : b.regs O19.HANDLES_OPEN) (c5 : ∀ w0, b.regs (O19.HANDLE_OWNER w0)) (c6 : ∀ w0, b.regs (O19.HANDLE_INFO w0)) (c7 : ∀ w0, b.regs (O19.HANDLE_STATE w0)) (c8 : b.regs O19.KS_FLAGS) (c9 : b.regs O19.TAMPER_CONFIG) (c10 : b.regs O19.GEN_USED) (hp0 : Within b p0) : Within b (State.imageChosen p0 p1 p2) := by
  unfold State.imageChosen
  extract_lets -merge -useContext -underBinder x1
  have hx1 : Within b x1 := by
    unfold x1
    refine State.onBoot_within qboot ?_
    exact hp0
  try clear_value x1
  refine State.romStep_within qboot ?_
  refine State.setB_within c3 ?_
  refine State.rootsStep_within qfresh qboot qkeys c4 c5 c6 c7 c8 c9 c10 ?_
  exact hx1

theorem State.recoveryBoot_within {b : Bounds} {p0} (qboot : b.parts .boot) (hp0 : Within b p0) : Within b (State.recoveryBoot p0) := by
  unfold State.recoveryBoot
  refine State.onBoot_within qboot ?_
  refine State.romStep_within qboot ?_
  exact hp0

theorem State.trialEnds_within {b : Bounds} {p0 p1} (qboot : b.parts .boot) (c1 : b.regs O18.TRIAL_TRIES) (hp0 : Within b p0) : Within b (State.trialEnds p0 p1) := by
  unfold State.trialEnds
  refine State.leave_within qboot ?_
  refine State.setN_within c1 ?_
  refine State.writeRecord_within qboot ?_
  exact hp0

theorem State.loadImage_within {b : Bounds} {p0 p1 p2} (qfresh : b.parts .fresh) (qphase : b.parts .phase) (qboot : b.parts .boot) (qkeys : b.parts .keys) (c4 : b.regs O18.TRIAL_STATE) (c5 : b.regs O18.TRIAL_TRIES) (c6 : b.regs O17.REMAP) (c7 : b.regs O19.HANDLES_OPEN) (c8 : ∀ w0, b.regs (O19.HANDLE_OWNER w0)) (c9 : ∀ w0, b.regs (O19.HANDLE_INFO w0)) (c10 : ∀ w0, b.regs (O19.HANDLE_STATE w0)) (c11 : b.regs O19.KS_FLAGS) (c12 : b.regs O19.TAMPER_CONFIG) (c13 : b.regs O19.GEN_USED) (hp0 : Within b p0) : Within b (State.loadImage p0 p1 p2) := by
  unfold State.loadImage
  extract_lets -merge -useContext -underBinder x1 x2 x3 x4
  have hx2 : Within b x2 := by
    unfold x2
    refine ite_elim (P := Within b) ?_ ?_
    · refine State.onBoot_within qboot ?_
      refine State.setN_within c4 ?_
      exact hp0
    · exact hp0
  try clear_value x2
  have hx3 : Within b x3 := by
    unfold x3
    refine ite_elim (P := Within b) ?_ ?_
    · refine State.trialEnds_within qboot c5 ?_
      exact hp0
    · exact hp0
  try clear_value x3
  have hx4 : Within b x4 := by
    unfold x4
    refine State.leave_within qboot ?_
    exact hx3
  try clear_value x4
  refine ite_elim (P := Within b) ?_ ?_
  · refine State.imageChosen_within qfresh qboot qkeys c6 c7 c8 c9 c10 c11 c12 c13 ?_
    exact hx2
  · refine ite_elim (P := Within b) ?_ ?_
    · refine State.imageChosen_within qfresh qboot qkeys c6 c7 c8 c9 c10 c11 c12 c13 ?_
      exact hx4
    · refine ite_elim (P := Within b) ?_ ?_
      · refine State.recoveryBoot_within qboot ?_
        exact hp0
      · refine State.halt_within qphase qboot ?_
        exact hp0

theorem State.chooseSlot_within {b : Bounds} {p0} (qfresh : b.parts .fresh) (qphase : b.parts .phase) (qboot : b.parts .boot) (qkeys : b.parts .keys) (c4 : b.regs O18.TRIAL_STATE) (c5 : b.regs O18.TRIAL_TRIES) (c6 : b.regs O17.REMAP) (c7 : b.regs O19.HANDLES_OPEN) (c8 : ∀ w0, b.regs (O19.HANDLE_OWNER w0)) (c9 : ∀ w0, b.regs (O19.HANDLE_INFO w0)) (c10 : ∀ w0, b.regs (O19.HANDLE_STATE w0)) (c11 : b.regs O19.KS_FLAGS) (c12 : b.regs O19.TAMPER_CONFIG) (c13 : b.regs O19.GEN_USED) (hp0 : Within b p0) : Within b (State.chooseSlot p0) := by
  unfold State.chooseSlot
  extract_lets -merge -useContext -underBinder x1
  have hx1 : Within b x1 := by
    unfold x1
    refine State.romStep_within qboot ?_
    exact hp0
  try clear_value x1
  refine ite_elim (P := Within b) ?_ ?_
  · refine State.recoveryBoot_within qboot ?_
    exact hx1
  · split
    · refine State.loadImage_within qfresh qphase qboot qkeys c4 c5 c6 c7 c8 c9 c10 c11 c12 c13 ?_
      refine State.romStep_within qboot ?_
      exact hx1
    · extract_lets -merge -useContext -underBinder x2
      refine ite_elim (P := Within b) ?_ ?_
      · refine State.loadImage_within qfresh qphase qboot qkeys c4 c5 c6 c7 c8 c9 c10 c11 c12 c13 ?_
        refine State.romStep_within qboot ?_
        exact hx1
      · refine ite_elim (P := Within b) ?_ ?_
        · refine State.loadImage_within qfresh qphase qboot qkeys c4 c5 c6 c7 c8 c9 c10 c11 c12 c13 ?_
          refine State.romStep_within qboot ?_
          refine State.setN_within c5 ?_
          refine State.writeRecord_within qboot ?_
          exact hx1
        · refine State.loadImage_within qfresh qphase qboot qkeys c4 c5 c6 c7 c8 c9 c10 c11 c12 c13 ?_
          refine State.romStep_within qboot ?_
          refine State.trialEnds_within qboot c5 ?_
          exact hx1

theorem State.fromRoot_within {b : Bounds} {p0} (qfresh : b.parts .fresh) (qphase : b.parts .phase) (qboot : b.parts .boot) (qkeys : b.parts .keys) (c4 : b.regs O18.TRIAL_STATE) (c5 : b.regs O18.TRIAL_TRIES) (c6 : b.regs O17.REMAP) (c7 : b.regs O19.HANDLES_OPEN) (c8 : ∀ w0, b.regs (O19.HANDLE_OWNER w0)) (c9 : ∀ w0, b.regs (O19.HANDLE_INFO w0)) (c10 : ∀ w0, b.regs (O19.HANDLE_STATE w0)) (c11 : b.regs O19.KS_FLAGS) (c12 : b.regs O19.TAMPER_CONFIG) (c13 : b.regs O19.GEN_USED) (hp0 : Within b p0) : Within b (State.fromRoot p0) := by
  unfold State.fromRoot
  extract_lets -merge -useContext -underBinder x1 x2
  have hx1 : Within b x1 := by
    unfold x1
    refine State.romStep_within qboot ?_
    exact hp0
  try clear_value x1
  refine ite_elim (P := Within b) ?_ ?_
  · refine ite_elim (P := Within b) ?_ ?_
    · refine State.halt_within qphase qboot ?_
      exact hx1
    · refine ite_elim (P := Within b) ?_ ?_
      · refine State.chooseSlot_within qfresh qphase qboot qkeys c4 c5 c6 c7 c8 c9 c10 c11 c12 c13 ?_
        refine State.generateRoot_within qfresh qboot qkeys ?_
        exact hx1
      · exact hx1
  · refine ite_elim (P := Within b) ?_ ?_
    · refine State.halt_within qphase qboot ?_
      exact hx1
    · refine State.chooseSlot_within qfresh qphase qboot qkeys c4 c5 c6 c7 c8 c9 c10 c11 c12 c13 ?_
      exact hx1

theorem State.bootRom_within {b : Bounds} {p0 p1 p2 p3} (qboot : b.parts .boot) (qkeys : b.parts .keys) (qphase : b.parts .phase) (qfresh : b.parts .fresh) (c4 : b.regs O19.TAMPER_LEVELS) (c5 : b.regs O19.HANDLES_OPEN) (c6 : ∀ (w0 : ℕ), b.regs (O19.HANDLE_OWNER w0)) (c7 : ∀ (w0 : ℕ), b.regs (O19.HANDLE_INFO w0)) (c8 : ∀ (w0 : ℕ), b.regs (O19.HANDLE_STATE w0)) (c9 : b.regs O18.TRIAL_STATE) (c10 : b.regs O18.TRIAL_TRIES) (c11 : b.regs O17.REMAP) (c12 : b.regs O19.KS_FLAGS) (c13 : b.regs O19.TAMPER_CONFIG) (c14 : b.regs O19.GEN_USED) (hp0 : Within b p0) : Within b (State.bootRom p0 p1 p2 p3) := by
  unfold State.bootRom
  extract_lets -merge -useContext -underBinder x1 x2 x3
  have hx1 : Within b x1 := by
    unfold x1
    refine State.romStep_within qboot ?_
    change Within1 b _
    refine State.samplePins_within qkeys c4 ?_
    refine Within.f_phase (s := p0) qphase ?_
    exact hp0
  try clear_value x1
  have hx2 : Within b x2 := by
    unfold x2
    refine State.romStep_within qboot ?_
    exact hx1
  try clear_value x2
  have hx3 : Within b x3 := by
    unfold x3
    refine State.romStep_within qboot ?_
    refine State.completeIntents_within qboot ?_
    exact hx2
  try clear_value x3
  refine ite_elim (P := Within b) ?_ ?_
  · refine State.halt_within qphase qboot ?_
    refine State.zeroise_within qkeys c5 c6 c7 c8 ?_
    exact hx1
  · refine ite_elim (P := Within b) ?_ ?_
    · refine State.halt_within qphase qboot ?_
      exact hx2
    · refine ite_elim (P := Within b) ?_ ?_
      · refine State.halt_within qphase qboot ?_
        exact hx3
      · refine ite_elim (P := Within b) ?_ ?_
        · refine State.halt_within qphase qboot ?_
          exact hx3
        · refine ite_elim (P := Within b) ?_ ?_
          · refine State.halt_within qphase qboot ?_
            refine State.romStep_within qboot ?_
            exact hx3
          · refine State.fromRoot_within qfresh qphase qboot qkeys c9 c10 c11 c5 c6 c7 c8 c12 c13 c14 ?_
            refine State.romStep_within qboot ?_
            exact hx3

theorem State.otpChange_within {b : Bounds} {p0 p1 p2} (qboot : b.parts .boot) (hp0 : Within b p0) : WithinS b (State.otpChange p0 p1 p2) := by
  unfold State.otpChange
  refine ite_elim (P := WithinS b) ?_ ?_
  · exact optionNone
  · refine optionSome (P := Within b) ?_
    refine State.onOtp_within qboot ?_
    exact hp0

theorem State.otpDone_within {b : Bounds} {p0 p1 p2} (qsent : b.parts .sent) (qevu : b.parts .evu) (qsess : b.parts .sess) (qmail : b.parts .mail) (qboot : b.parts .boot) (c5 : ∀ k ∈ eventRegs 389, b.regs k) (c6 : ∀ k ∈ eventRegs 393, b.regs k) (hp0 : Within b p0) : Within b (State.otpDone p0 p1 p2) := by
  unfold State.otpDone
  extract_lets -merge -useContext -underBinder x1 x2
  have hx1 : Within b x1 := by
    unfold x1
    refine State.forEach_within ?_ ?_
    · exact hp0
    · intro u3 u4 hu3
      try beta_reduce
      refine State.respond_within qsent qsess qmail ?_
      exact hu3
  try clear_value x1
  have hx2 : Within b x2 := by
    unfold x2
    refine State.onBoot_within qboot ?_
    exact hx1
  try clear_value x2
  split
  · refine State.onBoot_within qboot ?_
    refine State.raise_within qevu c5 ?_
    exact hx2
  · refine State.raise_within qevu c6 ?_
    exact hx2
  · exact hx2

theorem State.otpStep_within {b : Bounds} {p0} (qsent : b.parts .sent) (qevu : b.parts .evu) (qsess : b.parts .sess) (qmail : b.parts .mail) (qboot : b.parts .boot) (c5 : ∀ k ∈ eventRegs 395, b.regs k) (c6 : ∀ k ∈ eventRegs 389, b.regs k) (c7 : ∀ k ∈ eventRegs 393, b.regs k) (hp0 : Within b p0) : Within b (State.otpStep p0) := by
  unfold State.otpStep
  extract_lets -merge -useContext -underBinder x1
  refine ite_elim (P := Within b) ?_ ?_
  · exact hp0
  · split
    · exact hp0
    · split
      · exact hp0
      · extract_lets -merge -useContext -underBinder x2 x3
        have hx2 : Within b x2 := by
          unfold x2
          refine State.onOtp_within qboot ?_
          exact hp0
        try clear_value x2
        have hx3 : Within b x3 := by
          unfold x3
          refine State.onOtp_within qboot ?_
          refine State.programOtp_within qboot ?_
          exact hp0
        try clear_value x3
        refine ite_elim (P := Within b) ?_ ?_
        · refine ite_elim (P := Within b) ?_ ?_
          · refine State.raise_within qevu c5 ?_
            exact hx2
          · exact hx2
        · refine State.otpDone_within qsent qevu qsess qmail qboot c6 c7 ?_
          exact hx3

theorem State.actLcTransition_within {b : Bounds} {p0 p1} (qboot : b.parts .boot) (hp0 : Within b p0) : Within1 b (State.actLcTransition p0 p1) := by
  unfold State.actLcTransition
  extract_lets -merge -useContext -underBinder x1 x2
  refine ite_elim (P := Within1 b) ?_ ?_
  · refine within1_mk ?_
    exact hp0
  · refine ite_elim (P := Within1 b) ?_ ?_
    · refine within1_mk ?_
      exact hp0
    · refine ite_elim (P := Within1 b) ?_ ?_
      · refine within1_mk ?_
        exact hp0
      · refine ite_elim (P := Within1 b) ?_ ?_
        · refine within1_mk ?_
          exact hp0
        · split
          · refine within1_mk ?_
            exact hp0
          · rename_i y5 e6
            have k7 := transport (P := WithinS b) e6 (by
              refine State.otpChange_within qboot ?_
              exact hp0
              )
            refine within1_mk ?_
            refine State.onBoot_within qboot ?_
            exact (k7 _ rfl)

theorem State.actFwCommit_within {b : Bounds} {p0} (qboot : b.parts .boot) (hp0 : Within b p0) : Within1 b (State.actFwCommit p0) := by
  unfold State.actFwCommit
  refine ite_elim (P := Within1 b) ?_ ?_
  · refine within1_mk ?_
    exact hp0
  · refine ite_elim (P := Within1 b) ?_ ?_
    · refine within1_mk ?_
      exact hp0
    · split
      · refine within1_mk ?_
        exact hp0
      · rename_i y3 e4
        have k5 := transport (P := WithinS b) e4 (by
          refine State.otpChange_within qboot ?_
          exact hp0
          )
        refine within1_mk ?_
        exact (k5 _ rfl)

theorem State.setSlot_within {b : Bounds} {p0 p1 p2} (qboot : b.parts .boot) (hp0 : Within b p0) : Within b (State.setSlot p0 p1 p2) := by
  unfold State.setSlot
  refine State.onBoot_within qboot ?_
  exact hp0

theorem State.fwPhase_within {b : Bounds} {p0 p1} (qboot : b.parts .boot) (c1 : b.regs O18.FW_PHASE) (hp0 : Within b p0) : Within b (State.fwPhase p0 p1) := by
  unfold State.fwPhase
  refine State.onBoot_within qboot ?_
  refine State.setN_within c1 ?_
  exact hp0

theorem State.startFwUpdate_within {b : Bounds} {p0 p1 p2} (qsent : b.parts .sent) (qevu : b.parts .evu) (qsess : b.parts .sess) (qmail : b.parts .mail) (qjobs : b.parts .jobs) (qboot : b.parts .boot) (c6 : ∀ w0, b.regs (O1B.JOB_ENDED w0)) (c7 : ∀ w0, b.regs (O1B.JOB_RESULT w0)) (c8 : ∀ w0, b.regs (O1B.JOB_OWNER w0)) (c9 : ∀ w0, b.regs (O1B.JOB_PROGRESS w0)) (c10 : ∀ w0, b.regs (O1B.JOB_STATUS w0)) (c11 : ∀ w0, b.regs (O1B.JOB_OBJECT w0)) (c12 : ∀ w0, b.regs (O1C.SESS_QUEUE w0)) (c13 : ∀ k ∈ eventRegs 451, b.regs k) (c14 : b.regs O1C.FILULO_FLAGS) (c15 : ∀ k ∈ eventRegs 432, b.regs k) (c16 : b.regs O1B.JOBS_QUEUED) (c17 : b.regs O1B.JOBS_RUNNING) (c18 : ∀ w0, b.regs (O1B.JOB_STARTED w0)) (c19 : ∀ w0, b.regs (O1B.JOB_STATE w0)) (c20 : b.regs O18.FW_PHASE) (hp0 : Within b p0) : Within1 b (State.startFwUpdate p0 p1 p2) := by
  unfold State.startFwUpdate
  extract_lets -merge -useContext -underBinder x1 x2
  have hx2 : Within1 b x2 := by
    unfold x2
    refine State.startJob_within qsent qevu qsess qmail qjobs c6 c7 c8 c9 c10 c11 c12 c13 c14 c15 c16 c17 c18 c19 ?_
    exact hp0
  try clear_value x2
  refine ite_elim (P := Within1 b) ?_ ?_
  · refine within1_mk ?_
    exact hp0
  · refine ite_elim (P := Within1 b) ?_ ?_
    · refine within1_mk ?_
      exact hp0
    · refine ite_elim (P := Within1 b) ?_ ?_
      · refine within1_mk ?_
        refine State.setSlot_within qboot ?_
        refine State.fwPhase_within qboot c20 ?_
        change Within1 b _
        exact hx2
      · exact hx2

theorem State.fwFail_within {b : Bounds} {p0 p1 p2} (qsent : b.parts .sent) (qevu : b.parts .evu) (qsess : b.parts .sess) (qmail : b.parts .mail) (qjobs : b.parts .jobs) (qboot : b.parts .boot) (c6 : b.regs (O1B.JOB_ENDED p1)) (c7 : b.regs (O1B.JOB_STATUS p1)) (c8 : b.regs (O1B.JOB_RESULT p1)) (c9 : b.regs (O1B.JOB_PROGRESS p1)) (c10 : b.regs O1B.JOBS_QUEUED) (c11 : b.regs O1B.JOBS_RUNNING) (c12 : ∀ w0, b.regs (O1C.SESS_QUEUE w0)) (c13 : b.regs O1C.FILULO_FLAGS) (c14 : ∀ w0, b.regs (O1B.JOB_STARTED w0)) (c15 : ∀ w0, b.regs (O1B.JOB_STATE w0)) (c16 : ∀ w0, ∀ k ∈ eventRegs w0, b.regs k) (c17 : b.regs O18.FW_PHASE) (hp0 : Within b p0) : Within b (State.fwFail p0 p1 p2) := by
  unfold State.fwFail
  refine State.endJob_within qsent qevu qsess qmail qjobs c6 c7 c8 c9 c10 c11 c12 c13 c14 c15 c16 ?_
  refine State.fwPhase_within qboot c17 ?_
  exact hp0

theorem State.fwJobEnd_within {b : Bounds} {p0 p1} (qfresh : b.parts .fresh) (qsent : b.parts .sent) (qevu : b.parts .evu) (qsess : b.parts .sess) (qmail : b.parts .mail) (qjobs : b.parts .jobs) (qboot : b.parts .boot) (qkeys : b.parts .keys) (c8 : b.regs O18.FW_PHASE) (c9 : b.regs (O1B.JOB_ENDED p1)) (c10 : b.regs (O1B.JOB_STATUS p1)) (c11 : b.regs (O1B.JOB_RESULT p1)) (c12 : b.regs (O1B.JOB_PROGRESS p1)) (c13 : b.regs O1B.JOBS_QUEUED) (c14 : b.regs O1B.JOBS_RUNNING) (c15 : ∀ w0, b.regs (O1C.SESS_QUEUE w0)) (c16 : b.regs O1C.FILULO_FLAGS) (c17 : ∀ w0, b.regs (O1B.JOB_STARTED w0)) (c18 : ∀ w0, b.regs (O1B.JOB_STATE w0)) (c19 : ∀ w0, ∀ k ∈ eventRegs w0, b.regs k) (c20 : b.regs O19.MIGRATE_STATE) (c21 : b.regs O18.TRIAL_STATE) (c22 : b.regs O18.TRIAL_TRIES) (hp0 : Within b p0) : Within b (State.fwJobEnd p0 p1) := by
  unfold State.fwJobEnd
  split
  · exact hp0
  · extract_lets -merge -useContext -underBinder x1 x2 x3
    have hx3 : ∀ a0, Within b a0 → Within b (x3 a0) := by
      unfold x3
      intro u4 hu4
      try beta_reduce
      refine State.fwPhase_within qboot c8 ?_
      exact hu4
    try clear_value x3
    split
    · extract_lets -merge -useContext -underBinder x5
      refine ite_elim (P := Within b) ?_ ?_
      · refine State.fwFail_within qsent qevu qsess qmail qjobs qboot c9 c10 c11 c12 c13 c14 c15 c16 c17 c18 c19 c8 ?_
        refine State.setSlot_within qboot ?_
        exact hp0
      · refine State.fwPhase_within qboot c8 ?_
        refine State.setSlot_within qboot ?_
        exact hp0
    · split
      · refine State.fwFail_within qsent qevu qsess qmail qjobs qboot c9 c10 c11 c12 c13 c14 c15 c16 c17 c18 c19 c8 ?_
        exact hp0
      · refine ite_elim (P := Within b) ?_ ?_
        · refine State.fwPhase_within qboot c8 ?_
          exact hp0
        · refine hx3 _ ?_
          · exact hp0
    · extract_lets -merge -useContext -underBinder x6
      have hx6 : Within1 b x6 := by
        unfold x6
        refine State.exportRoot_within qfresh qevu qkeys (c19 _) c20 ?_
        exact hp0
      try clear_value x6
      refine ite_elim (P := Within b) ?_ ?_
      · refine State.fwFail_within qsent qevu qsess qmail qjobs qboot c9 c10 c11 c12 c13 c14 c15 c16 c17 c18 c19 c8 ?_
        exact hp0
      · refine ite_elim (P := Within b) ?_ ?_
        · refine hx3 _ ?_
          · change Within1 b _
            exact hx6
        · refine State.fwFail_within qsent qevu qsess qmail qjobs qboot c9 c10 c11 c12 c13 c14 c15 c16 c17 c18 c19 c8 ?_
          change Within1 b _
          exact hx6
    · extract_lets -merge -useContext -underBinder x7 x8 x9
      have hx8 : Within b x8 := by
        unfold x8
        refine State.setN_within c21 ?_
        refine State.writeRecord_within qboot ?_
        exact hp0
      try clear_value x8
      have hx9 : Within b x9 := by
        unfold x9
        refine State.fwPhase_within qboot c8 ?_
        refine State.raise_within qevu (c19 _) ?_
        refine State.setN_within c22 ?_
        exact hx8
      try clear_value x9
      refine State.endJob_within qsent qevu qsess qmail qjobs c9 c10 c11 c12 c13 c14 c15 c16 c17 c18 c19 ?_
      exact hx9
    · exact hp0

theorem execResetRelease_within {b : Bounds} {p0 p1 p2 p3 p4} (qboot : b.parts .boot) (qkeys : b.parts .keys) (qphase : b.parts .phase) (qfresh : b.parts .fresh) (qstraps : b.parts .straps) (c5 : b.regs O19.TAMPER_LEVELS) (c6 : b.regs O19.HANDLES_OPEN) (c7 : ∀ (w0 : ℕ), b.regs (O19.HANDLE_OWNER w0)) (c8 : ∀ (w0 : ℕ), b.regs (O19.HANDLE_INFO w0)) (c9 : ∀ (w0 : ℕ), b.regs (O19.HANDLE_STATE w0)) (c10 : b.regs O18.TRIAL_STATE) (c11 : b.regs O18.TRIAL_TRIES) (c12 : b.regs O17.REMAP) (c13 : b.regs O19.KS_FLAGS) (c14 : b.regs O19.TAMPER_CONFIG) (c15 : b.regs O19.GEN_USED) (hp4 : Within b p4) : WithinOut b (execResetRelease p0 p1 p2 p3 p4) := by
  unfold execResetRelease
  refine outNext ?_
  refine ite_elim (P := Within b) ?_ ?_
  · refine State.bootRom_within qboot qkeys qphase qfresh c5 c6 c7 c8 c9 c10 c11 c12 c13 c14 c15 ?_
    refine Within.f_straps (s := p4) qstraps ?_
    exact hp4
  · exact hp4

theorem execPorstNFall_within {b : Bounds} {p0} (hp : ∀ p, p ∉ ([.pending, .member, .fresh, .sent] : List Part) → b.parts p) (hk : ∀ k, b.regs k) (hp0 : Within b p0) : WithinOut b (execPorstNFall p0) := by
  unfold execPorstNFall
  refine outNext ?_
  refine State.resetDevice_within (subU hp (by decide)) hk ?_
  exact hp0

theorem execRcvLength_within {b : Bounds} {p0 p1} (qfresh : b.parts .fresh) (qboot : b.parts .boot) (qkeys : b.parts .keys) (c3 : b.regs O17.REMAP) (c4 : b.regs O19.HANDLES_OPEN) (c5 : ∀ w0, b.regs (O19.HANDLE_OWNER w0)) (c6 : ∀ w0, b.regs (O19.HANDLE_INFO w0)) (c7 : ∀ w0, b.regs (O19.HANDLE_STATE w0)) (c8 : b.regs O19.KS_FLAGS) (c9 : b.regs O19.TAMPER_CONFIG) (c10 : b.regs O19.GEN_USED) (hp1 : Within b p1) : WithinOut b (execRcvLength p0 p1) := by
  unfold execRcvLength
  refine live_within ?_ ?_
  · exact hp1
  · intro u1 hu1
    try beta_reduce
    extract_lets -merge -useContext -underBinder x2 x3
    refine ite_elim (P := Within b) ?_ ?_
    · split
      · refine State.onBoot_within qboot ?_
        exact hu1
      · refine State.leave_within qboot ?_
        refine State.imageChosen_within qfresh qboot qkeys c3 c4 c5 c6 c7 c8 c9 c10 ?_
        refine State.onBoot_within qboot ?_
        exact hu1
    · exact hu1

theorem execLcTransition_within {b : Bounds} {p0 p1} (qboot : b.parts .boot) (hp1 : Within b p1) : WithinOut b (execLcTransition p0 p1) := by
  unfold execLcTransition
  refine live_within ?_ ?_
  · exact hp1
  · intro u1 hu1
    try beta_reduce
    refine ite_elim (P := Within b) ?_ ?_
    · change Within1 b _
      refine State.actLcTransition_within qboot ?_
      exact hu1
    · exact hu1

theorem execFwUpdate_within {b : Bounds} {p0 p1} (qsent : b.parts .sent) (qevu : b.parts .evu) (qsess : b.parts .sess) (qmail : b.parts .mail) (qjobs : b.parts .jobs) (qboot : b.parts .boot) (c6 : ∀ w0, b.regs (O1B.JOB_ENDED w0)) (c7 : ∀ w0, b.regs (O1B.JOB_RESULT w0)) (c8 : ∀ w0, b.regs (O1B.JOB_OWNER w0)) (c9 : ∀ w0, b.regs (O1B.JOB_PROGRESS w0)) (c10 : ∀ w0, b.regs (O1B.JOB_STATUS w0)) (c11 : ∀ w0, b.regs (O1B.JOB_OBJECT w0)) (c12 : ∀ w0, b.regs (O1C.SESS_QUEUE w0)) (c13 : ∀ k ∈ eventRegs 451, b.regs k) (c14 : b.regs O1C.FILULO_FLAGS) (c15 : ∀ k ∈ eventRegs 432, b.regs k) (c16 : b.regs O1B.JOBS_QUEUED) (c17 : b.regs O1B.JOBS_RUNNING) (c18 : ∀ w0, b.regs (O1B.JOB_STARTED w0)) (c19 : ∀ w0, b.regs (O1B.JOB_STATE w0)) (c20 : b.regs O18.FW_PHASE) (hp1 : Within b p1) : WithinOut b (execFwUpdate p0 p1) := by
  unfold execFwUpdate
  refine live_within ?_ ?_
  · exact hp1
  · intro u1 hu1
    try beta_reduce
    refine ite_elim (P := Within b) ?_ ?_
    · change Within1 b _
      refine State.startFwUpdate_within qsent qevu qsess qmail qjobs qboot c6 c7 c8 c9 c10 c11 c12 c13 c14 c15 c16 c17 c18 c19 c20 ?_
      exact hu1
    · exact hu1

theorem execFwCommit_within {b : Bounds} {p0} (qboot : b.parts .boot) (hp0 : Within b p0) : WithinOut b (execFwCommit p0) := by
  unfold execFwCommit
  refine live_within ?_ ?_
  · exact hp0
  · intro u1 hu1
    try beta_reduce
    refine ite_elim (P := Within b) ?_ ?_
    · change Within1 b _
      refine State.actFwCommit_within qboot ?_
      exact hu1
    · exact hu1

theorem execTamperAtStartUp_within {b : Bounds} {p0 p1} (qkeys : b.parts .keys) (qphase : b.parts .phase) (qboot : b.parts .boot) (c3 : b.regs O19.TAMPER_LEVELS) (c4 : b.regs O19.HANDLES_OPEN) (c5 : ∀ (w0 : ℕ), b.regs (O19.HANDLE_OWNER w0)) (c6 : ∀ (w0 : ℕ), b.regs (O19.HANDLE_INFO w0)) (c7 : ∀ (w0 : ℕ), b.regs (O19.HANDLE_STATE w0)) (hp1 : Within b p1) : WithinOut b (execTamperAtStartUp p0 p1) := by
  unfold execTamperAtStartUp
  refine live_within ?_ ?_
  · exact hp1
  · intro u1 hu2
    try beta_reduce
    extract_lets -merge -useContext -underBinder x3
    have hx3 : Within1 b x3 := by
      unfold x3
      refine State.samplePins_within qkeys c3 ?_
      exact hu2
    try clear_value x3
    refine ite_elim (P := Within b) ?_ ?_
    · exact hu2
    · refine ite_elim (P := Within b) ?_ ?_
      · change Within1 b _
        exact hx3
      · refine State.halt_within qphase qboot ?_
        refine State.zeroise_within qkeys c4 c5 c6 c7 ?_
        change Within1 b _
        exact hx3

theorem execStandbyTamper_within {b : Bounds} {p0 p1} (qkeys : b.parts .keys) (c1 : b.regs O19.TAMPER_LEVELS) (c2 : b.regs O18.STANDBY_TAMPER) (c3 : b.regs O19.HANDLES_OPEN) (c4 : ∀ (w0 : ℕ), b.regs (O19.HANDLE_OWNER w0)) (c5 : ∀ (w0 : ℕ), b.regs (O19.HANDLE_INFO w0)) (c6 : ∀ (w0 : ℕ), b.regs (O19.HANDLE_STATE w0)) (hp1 : Within b p1) : WithinOut b (execStandbyTamper p0 p1) := by
  unfold execStandbyTamper
  extract_lets -merge -useContext -underBinder x1
  have hx1 : Within1 b x1 := by
    unfold x1
    refine State.samplePins_within qkeys c1 ?_
    exact hp1
  try clear_value x1
  refine outNext ?_
  refine ite_elim (P := Within b) ?_ ?_
  · refine ite_elim (P := Within b) ?_ ?_
    · change Within1 b _
      exact hx1
    · refine State.setB_within c2 ?_
      refine State.zeroise_within qkeys c3 c4 c5 c6 ?_
      change Within1 b _
      exact hx1
  · exact hp1

theorem execPwrOkChange_within {b : Bounds} {p0 p1} (qfresh : b.parts .fresh) (qphase : b.parts .phase) (qboot : b.parts .boot) (qkeys : b.parts .keys) (c4 : b.regs O18.TRIAL_STATE) (c5 : b.regs O18.TRIAL_TRIES) (c6 : b.regs O17.REMAP) (c7 : b.regs O19.HANDLES_OPEN) (c8 : ∀ w0, b.regs (O19.HANDLE_OWNER w0)) (c9 : ∀ w0, b.regs (O19.HANDLE_INFO w0)) (c10 : ∀ w0, b.regs (O19.HANDLE_STATE w0)) (c11 : b.regs O19.KS_FLAGS) (c12 : b.regs O19.TAMPER_CONFIG) (c13 : b.regs O19.GEN_USED) (hp1 : Within b p1) : WithinOut b (execPwrOkChange p0 p1) := by
  unfold execPwrOkChange
  extract_lets -merge -useContext -underBinder x1
  have hx1 : Within b x1 := by
    unfold x1
    refine State.onBoot_within qboot ?_
    exact hp1
  try clear_value x1
  refine outNext ?_
  refine ite_elim (P := Within b) ?_ ?_
  · refine State.fromRoot_within qfresh qphase qboot qkeys c4 c5 c6 c7 c8 c9 c10 c11 c12 c13 ?_
    exact hx1
  · exact hx1

end Sys2Proof.Machine
end

