-- ==== Sys2Proof/Laws/WithinBus.lean ====
section
/-! SUPPORT. What each operation of Machine/Bus.lean may change at most (Laws/Within.lean). -/

set_option maxRecDepth 8000

namespace Sys2Proof.Machine

theorem State.onBus_ram {b : Bounds} {p0 p1} (qbus : b.parts .bus) (qram : b.parts .ram) (hp0 : Within b p0)
    (hm : ∀ x : BusSt, x.ok = true → (p1 x).ok = true) : Within b (State.onBus p0 p1) := by
  unfold State.onBus
  exact Within.f_ram (s := p0) qbus qram hp0 (hm _)

theorem State.onBus_within {b : Bounds} {p0 p1} (qbus : b.parts .bus) (hp0 : Within b p0)
    (hm : ∀ x : BusSt, x.ok = true → (p1 x).ok = true)
    (hb : ((p1 p0.bus).sram, (p1 p0.bus).h2d, (p1 p0.bus).msix) = (p0.bus.sram, p0.bus.h2d, p0.bus.msix)) :
    Within b (State.onBus p0 p1) := by
  unfold State.onBus
  exact Within.f_bus (s := p0) qbus hp0 (hm _) hb

theorem State.countFrozen_within {b : Bounds} {p0} (c0 : b.regs O17.FROZEN_MASTERS) (hp0 : Within b p0) : Within b (State.countFrozen p0) := by
  unfold State.countFrozen
  refine State.setN_within c0 ?_
  exact hp0

theorem State.markEngine_within {b : Bounds} {p0 p1 p2} (c0 : b.regs O17.FROZEN_ENGINES) (c1 : b.regs (O17.MASTER_STATE 268)) (hp0 : Within b p0) : Within b (State.markEngine p0 p1 p2) := by
  unfold State.markEngine
  extract_lets -merge -useContext -underBinder x1 x2 x3
  have hx3 : Within b x3 := by
    unfold x3
    refine State.setBytes_within c0 ?_
    exact hp0
  try clear_value x3
  refine State.setN_within c1 ?_
  exact hx3

theorem State.freezeEngine_within {b : Bounds} {p0 p1} (qevu : b.parts .evu) (qcues : b.parts .cues) (c2 : b.regs (O14.CE_STATUS p1)) (c3 : b.regs (O14.CE_STATE p1)) (c4 : ∀ k ∈ eventRegs 324, b.regs k) (c5 : b.regs (O14.QUEUE_DEPTH p1)) (hp0 : Within b p0) : Within b (State.freezeEngine p0 p1) := by
  unfold State.freezeEngine
  extract_lets -merge -useContext -underBinder x1 x2 x3 x4
  have hx1 : Within b x1 := by
    unfold x1
    refine State.flag_within c2 ?_
    refine State.setN_within c3 ?_
    exact hp0
  try clear_value x1
  have hx4 : Within b x4 := by
    unfold x4
    refine Within.f_cues (s := x1) qcues ?_
    exact hx1
  try clear_value x4
  refine State.raise_within qevu c4 ?_
  refine State.setN_within c5 ?_
  exact hx4

theorem State.freeze_within {b : Bounds} {p0 p1 p2 p3 p4} (qevu : b.parts .evu) (qcues : b.parts .cues) (c2 : b.regs O17.MATRIX_FLAGS) (c3 : b.regs O17.LAST_VIOLATION) (c4 : b.regs O17.VIOLATIONS) (c5 : b.regs O17.FROZEN_ENGINES) (c6 : b.regs (O17.MASTER_STATE 268)) (c7 : b.regs (O17.MASTER_STATE (256 + p1))) (c8 : b.regs O17.FROZEN_MASTERS) (c9 : b.regs (O17.FREEZE_COUNT (256 + p1))) (c10 : ∀ w0, b.regs (O17.DMA_STATE w0)) (c11 : ∀ k ∈ eventRegs (368 + p1), b.regs k) (c12 : ∀ k ∈ eventRegs 496, b.regs k) (c13 : b.regs (O14.CE_STATUS p2)) (c14 : b.regs (O14.CE_STATE p2)) (c15 : ∀ k ∈ eventRegs 324, b.regs k) (c16 : b.regs (O14.QUEUE_DEPTH p2)) (hp0 : Within b p0) : Within b (State.freeze p0 p1 p2 p3 p4) := by
  unfold State.freeze
  extract_lets -merge -useContext -underBinder x1 x2 x3 x4 x5 x6
  have hx2 : Within b x2 := by
    unfold x2
    refine State.flag_within c2 ?_
    refine State.setBytes_within c3 ?_
    refine State.bump_within c4 ?_
    exact hp0
  try clear_value x2
  have hx3 : Within b x3 := by
    unfold x3
    refine ite_elim (P := Within b) ?_ ?_
    · refine State.markEngine_within c5 c6 ?_
      exact hx2
    · refine State.setN_within c7 ?_
      exact hx2
  try clear_value x3
  have hx4 : Within b x4 := by
    unfold x4
    refine State.countFrozen_within c8 ?_
    refine State.bump_within c9 ?_
    exact hx3
  try clear_value x4
  have hx5 : Within b x5 := by
    unfold x5
    refine ite_elim (P := Within b) ?_ ?_
    · refine State.setN_within (c10 _) ?_
      exact hx4
    · exact hx4
  try clear_value x5
  have hx6 : Within b x6 := by
    unfold x6
    refine State.raise_within qevu c11 ?_
    refine State.raise_within qevu c12 ?_
    exact hx5
  try clear_value x6
  refine ite_elim (P := Within b) ?_ ?_
  · refine State.freezeEngine_within qevu qcues c13 c14 c15 c16 ?_
    exact hx6
  · exact hx6

theorem State.decodeError_within {b : Bounds} {p0 p1 p2 p3} (qevu : b.parts .evu) (qbus : b.parts .bus) (c2 : b.regs O17.MATRIX_FLAGS) (c3 : b.regs O17.LAST_DECODE) (c4 : b.regs O17.DECODE_ERRORS) (c5 : ∀ k ∈ eventRegs 497, b.regs k) (hp0 : Within b p0) : Within b (State.decodeError p0 p1 p2 p3) := by
  unfold State.decodeError
  extract_lets -merge -useContext -underBinder x1 x2 x3 x4 x5
  have hx1 : Within b x1 := by
    unfold x1
    refine State.flag_within c2 ?_
    refine State.setBytes_within c3 ?_
    refine State.bump_within c4 ?_
    exact hp0
  try clear_value x1
  refine ite_elim (P := Within b) ?_ ?_
  · refine State.onBus_within qbus ?_ (by exact fun _ h => h) (by rfl)
    refine State.raise_within qevu c5 ?_
    refine Within.f_evu (s := x1) qevu (fun i => i) ?_
    exact hx1
  · refine State.onBus_within qbus ?_ (by exact fun _ h => h) (by rfl)
    exact hx1

theorem State.hbmRead_within {b : Bounds} {p0 p1 p2} (qfresh : b.parts .fresh) (hp0 : Within b p0) : Within2 b (State.hbmRead p0 p1 p2) := by
  unfold State.hbmRead
  extract_lets -merge -useContext -underBinder x1
  have hx1 : Within2 b x1 := by
    unfold x1
    refine State.drawBytes_within qfresh ?_
    exact hp0
  try clear_value x1
  refine ite_elim (P := Within2 b) ?_ ?_
  · refine within2_mk ?_
    change Within2 b _
    exact hx1
  · refine within2_mk ?_
    exact hp0

theorem State.busRead_within {b : Bounds} {p0 p1 p2} (qfresh : b.parts .fresh) (hp0 : Within b p0) : Within2 b (State.busRead p0 p1 p2) := by
  unfold State.busRead
  split
  · refine within2_mk ?_
    exact hp0
  · refine State.hbmRead_within qfresh ?_
    exact hp0
  · extract_lets -merge -useContext -underBinder x1
    have hx1 : Within2 b x1 := by
      unfold x1
      refine State.drawBytes_within qfresh ?_
      exact hp0
    try clear_value x1
    refine within2_mk ?_
    change Within2 b _
    exact hx1
  · refine within2_mk ?_
    exact hp0
  · refine State.drawBytes_within qfresh ?_
    exact hp0

theorem State.busWrite_within {b : Bounds} {p0 p1 p2} (qfmem : b.parts .fmem) (qbytes : b.parts .bytes) (qbus : b.parts .bus) (qram : b.parts .ram) (hp0 : Within b p0) : Within b (State.busWrite p0 p1 p2) := by
  unfold State.busWrite
  split
  · exact State.onBus_ram qbus qram hp0 fun x h => BusSt.ok_iff.mpr ⟨Memory.wf_writes (BusSt.ok_iff.mp h).1, (BusSt.ok_iff.mp h).2⟩
  · refine State.fmWrite_within qfmem qbytes ?_
    exact hp0
  · exact hp0

theorem State.countGrant_within {b : Bounds} {p0 p1 p2 p3} (qevu : b.parts .evu) (qbus : b.parts .bus) (c2 : b.regs (O17.WAIT_MAX (256 + p3.master))) (c3 : b.regs (O17.BEATS (512 + p2))) (c4 : b.regs (O17.GRANTS (512 + p2))) (c5 : b.regs (O17.PARKED (512 + p2))) (c6 : ∀ k ∈ eventRegs 383, b.regs k) (c7 : b.regs O17.MATRIX_FLAGS) (c8 : b.regs (O17.AGED_GRANTS (256 + p3.master))) (hp0 : Within b p0) : Within b (State.countGrant p0 p1 p2 p3) := by
  unfold State.countGrant
  extract_lets -merge -useContext -underBinder x1 x2 x3
  have hx2 : Within b x2 := by
    unfold x2
    refine State.peak_within c2 ?_
    refine State.bumpPair_within c3 ?_
    refine State.bump_within c4 ?_
    exact hp0
  try clear_value x2
  have hx3 : Within b x3 := by
    unfold x3
    refine ite_elim (P := Within b) ?_ ?_
    · refine State.setN_within c5 ?_
      exact hx2
    · refine State.onBus_within qbus ?_ (by exact fun _ h => h) (by rfl)
      exact hx2
  try clear_value x3
  refine ite_elim (P := Within b) ?_ ?_
  · refine State.raiseLim_within qevu c6 ?_
    refine State.flag_within c7 ?_
    refine State.bump_within c8 ?_
    exact hx3
  · exact hx3

theorem State.busRespond_within {b : Bounds} {p0 p1 p2 p3} (qsent : b.parts .sent) (c1 : b.regs (O17.TRANSACTIONS (256 + p1.master))) (c2 : ∀ (w0 : ℕ), b.regs (O17.TARGET_ERRORS w0)) (c3 : b.regs (O17.ERROR_RESPONSES (256 + p1.master))) (c4 : b.regs (O17.QOS_LAST (256 + p1.master))) (hp0 : Within b p0) : Within b (State.busRespond p0 p1 p2 p3) := by
  unfold State.busRespond
  extract_lets -merge -useContext -underBinder x1 x2 x3 x4
  have hx2 : Within b x2 := by
    unfold x2
    refine State.bump_within c1 ?_
    exact hp0
  try clear_value x2
  have hx3 : Within b x3 := by
    unfold x3
    refine ite_elim (P := Within b) ?_ ?_
    · exact hx2
    · refine State.bump_within (c2 _) ?_
      refine State.bump_within c3 ?_
      exact hx2
  try clear_value x3
  have hx4 : Within b x4 := by
    unfold x4
    refine ite_elim (P := Within b) ?_ ?_
    · refine State.setN_within c4 ?_
      exact hx3
    · exact hx3
  try clear_value x4
  refine State.emit_within qsent ?_
  exact hx4

theorem State.discardWaiting_within {b : Bounds} {p0 p1 p2} (qbus : b.parts .bus) (qsent : b.parts .sent) (c2 : ∀ (w0 : ℕ), b.regs (O17.TRANSACTIONS w0)) (c3 : ∀ (w0 : ℕ), b.regs (O17.TARGET_ERRORS w0)) (c4 : ∀ (w0 : ℕ), b.regs (O17.ERROR_RESPONSES w0)) (c5 : ∀ (w0 : ℕ), b.regs (O17.QOS_LAST w0)) (hp0 : Within b p0) : Within b (State.discardWaiting p0 p1 p2) := by
  unfold State.discardWaiting
  extract_lets -merge -useContext -underBinder x1 x2 x3
  have hx3 : Within b x3 := by
    unfold x3
    refine State.onBus_within qbus ?_ (by exact fun _ i => i) (by rfl)
    exact hp0
  try clear_value x3
  refine State.forEach_within ?_ ?_
  · exact hx3
  · intro u4 u5 hu6
    try beta_reduce
    refine State.busRespond_within qsent (c2 _) c3 (c4 _) (c5 _) ?_
    exact hu6

theorem State.moveBeats_within {b : Bounds} {p0 p1 p2} (qfresh : b.parts .fresh) (qfmem : b.parts .fmem) (qbytes : b.parts .bytes) (qbus : b.parts .bus) (qram : b.parts .ram) (hp1 : Within b p1) : Within2 b (State.moveBeats p0 p1 p2) := by
  unfold State.moveBeats
  refine ite_elim (P := Within2 b) ?_ ?_
  · refine within2_mk ?_
    refine State.forEach_within ?_ ?_
    · exact hp1
    · intro u1 u2 hu1
      try beta_reduce
      refine State.busWrite_within qfmem qbytes qbus qram ?_
      exact hu1
  · refine State.busRead_within qfresh ?_
    exact hp1

theorem State.moveHbm_within {b : Bounds} {p0 p1} (qfmem : b.parts .fmem) (qbytes : b.parts .bytes) (qfresh : b.parts .fresh) (qbus : b.parts .bus) (qram : b.parts .ram) (hp0 : Within b p0) : Within2 b (State.moveHbm p0 p1) := by
  unfold State.moveHbm
  split
  · refine ite_elim (P := Within2 b) ?_ ?_
    · refine within2_mk ?_
      refine State.fmWrite_within qfmem qbytes ?_
      exact hp0
    · refine State.hbmRead_within qfresh ?_
      exact hp0
  · refine State.moveBeats_within qfresh qfmem qbytes qbus qram ?_
    exact hp0

theorem State.hbmServe_within {b : Bounds} {p0 p1} (qbus : b.parts .bus) (qevu : b.parts .evu) (qfmem : b.parts .fmem) (qbytes : b.parts .bytes) (qfresh : b.parts .fresh) (qram : b.parts .ram) (qsent : b.parts .sent) (c7 : ∀ (w0 : ℕ), b.regs (O05.STACK_FLAGS w0)) (c8 : ∀ (w0 : ℕ), b.regs (O05.LAST_ERROR_PIN w0)) (c9 : ∀ (w0 : ℕ), b.regs (O05.LAST_ERROR_ADDR w0)) (c10 : ∀ (w0 : ℕ), b.regs (O05.CE_COUNT w0)) (c11 : ∀ (w0 : ℕ), b.regs (O05.PIN_CE w0)) (c12 : ∀ k ∈ eventRegs 80, b.regs k) (c13 : ∀ k ∈ eventRegs 86, b.regs k) (c14 : b.regs (O17.TRANSACTIONS (256 + p1.req.master))) (c15 : ∀ (w0 : ℕ), b.regs (O17.TARGET_ERRORS w0)) (c16 : b.regs (O17.ERROR_RESPONSES (256 + p1.req.master))) (c17 : b.regs (O17.QOS_LAST (256 + p1.req.master))) (hp0 : Within b p0) : Within1 b (State.hbmServe p0 p1) := by
  unfold State.hbmServe
  extract_lets -merge -useContext -underBinder x1 x2 x3 x4 x5
  have hx2 : Within b x2 := by
    unfold x2
    refine State.onBus_within qbus ?_ (by exact fun _ i => i) (by rfl)
    exact hp0
  try clear_value x2
  have hx4 : Within b x4 := by
    unfold x4
    refine State.countCells_within qevu qfmem c7 c8 c9 c10 c11 c12 c13 ?_
    change Within2 b _
    refine State.moveHbm_within qfmem qbytes qfresh qbus qram ?_
    exact hx2
  try clear_value x4
  refine ite_elim (P := Within1 b) ?_ ?_
  · refine within1_mk ?_
    refine State.busRespond_within qsent c14 c15 c16 c17 ?_
    exact hp0
  · refine within1_mk ?_
    refine State.busRespond_within qsent c14 c15 c16 c17 ?_
    exact hx4

theorem State.hbmEnter_within {b : Bounds} {p0 p1} (qbus : b.parts .bus) (qevu : b.parts .evu) (qfmem : b.parts .fmem) (qbytes : b.parts .bytes) (qfresh : b.parts .fresh) (qram : b.parts .ram) (qsent : b.parts .sent) (c7 : ∀ (w0 : ℕ), b.regs (O05.STACK_FLAGS w0)) (c8 : ∀ (w0 : ℕ), b.regs (O05.LAST_ERROR_PIN w0)) (c9 : ∀ (w0 : ℕ), b.regs (O05.LAST_ERROR_ADDR w0)) (c10 : ∀ (w0 : ℕ), b.regs (O05.CE_COUNT w0)) (c11 : ∀ (w0 : ℕ), b.regs (O05.PIN_CE w0)) (c12 : ∀ k ∈ eventRegs 80, b.regs k) (c13 : ∀ k ∈ eventRegs 86, b.regs k) (c14 : b.regs (O17.TRANSACTIONS (256 + p1.req.master))) (c15 : ∀ (w0 : ℕ), b.regs (O17.TARGET_ERRORS w0)) (c16 : b.regs (O17.ERROR_RESPONSES (256 + p1.req.master))) (c17 : b.regs (O17.QOS_LAST (256 + p1.req.master))) (hp0 : Within b p0) : Within1 b (State.hbmEnter p0 p1) := by
  unfold State.hbmEnter
  refine ite_elim (P := Within1 b) ?_ ?_
  · refine State.hbmServe_within qbus qevu qfmem qbytes qfresh qram qsent c7 c8 c9 c10 c11 c12 c13 c14 c15 c16 c17 ?_
    exact hp0
  · refine ite_elim (P := Within1 b) ?_ ?_
    · refine within1_mk ?_
      refine State.onBus_within qbus ?_ (by exact fun _ i => i) (by rfl)
      exact hp0
    · refine within1_mk ?_
      refine State.onBus_within qbus ?_ (by exact fun _ i => i) (by rfl)
      exact hp0

theorem State.hostDone_within {b : Bounds} {p0 p1} (qbus : b.parts .bus) (hp1 : Within1 b p1) : Within b (State.hostDone p0 p1) := by
  unfold State.hostDone
  refine ite_elim (P := Within b) ?_ ?_
  · refine State.onBus_within qbus ?_ (by exact fun _ i => i) (by rfl)
    change Within1 b _
    exact hp1
  · change Within1 b _
    exact hp1

theorem State.hbmDrain_within {b : Bounds} {p0} (qbus : b.parts .bus) (qevu : b.parts .evu) (qfmem : b.parts .fmem) (qbytes : b.parts .bytes) (qfresh : b.parts .fresh) (qram : b.parts .ram) (qsent : b.parts .sent) (c7 : ∀ (w0 : ℕ), b.regs (O05.STACK_FLAGS w0)) (c8 : ∀ (w0 : ℕ), b.regs (O05.LAST_ERROR_PIN w0)) (c9 : ∀ (w0 : ℕ), b.regs (O05.LAST_ERROR_ADDR w0)) (c10 : ∀ (w0 : ℕ), b.regs (O05.CE_COUNT w0)) (c11 : ∀ (w0 : ℕ), b.regs (O05.PIN_CE w0)) (c12 : ∀ k ∈ eventRegs 80, b.regs k) (c13 : ∀ k ∈ eventRegs 86, b.regs k) (c14 : ∀ (w0 : ℕ), b.regs (O17.TRANSACTIONS w0)) (c15 : ∀ (w0 : ℕ), b.regs (O17.TARGET_ERRORS w0)) (c16 : ∀ (w0 : ℕ), b.regs (O17.ERROR_RESPONSES w0)) (c17 : ∀ (w0 : ℕ), b.regs (O17.QOS_LAST w0)) (hp0 : Within b p0) : Within b (State.hbmDrain p0) := by
  unfold State.hbmDrain
  extract_lets -merge -useContext -underBinder x1
  refine State.forEach_within ?_ ?_
  · refine State.onBus_within qbus ?_ (by exact fun _ i => i) (by rfl)
    exact hp0
  · intro u2 u3 hu4
    try beta_reduce
    refine State.hostDone_within qbus ?_
    refine State.hbmEnter_within qbus qevu qfmem qbytes qfresh qram qsent c7 c8 c9 c10 c11 c12 c13 (c14 _) c15 (c16 _) (c17 _) ?_
    exact hu4

theorem State.hbmTick_within {b : Bounds} {p0} (qbus : b.parts .bus) (qevu : b.parts .evu) (qfmem : b.parts .fmem) (qbytes : b.parts .bytes) (qfresh : b.parts .fresh) (qram : b.parts .ram) (qsent : b.parts .sent) (c7 : ∀ (w0 : ℕ), b.regs (O05.STACK_FLAGS w0)) (c8 : ∀ (w0 : ℕ), b.regs (O05.LAST_ERROR_PIN w0)) (c9 : ∀ (w0 : ℕ), b.regs (O05.LAST_ERROR_ADDR w0)) (c10 : ∀ (w0 : ℕ), b.regs (O05.CE_COUNT w0)) (c11 : ∀ (w0 : ℕ), b.regs (O05.PIN_CE w0)) (c12 : ∀ k ∈ eventRegs 80, b.regs k) (c13 : ∀ k ∈ eventRegs 86, b.regs k) (c14 : ∀ (w0 : ℕ), b.regs (O17.TRANSACTIONS w0)) (c15 : ∀ (w0 : ℕ), b.regs (O17.TARGET_ERRORS w0)) (c16 : ∀ (w0 : ℕ), b.regs (O17.ERROR_RESPONSES w0)) (c17 : ∀ (w0 : ℕ), b.regs (O17.QOS_LAST w0)) (hp0 : Within b p0) : Within b (State.hbmTick p0) := by
  unfold State.hbmTick
  refine State.hbmDrain_within qbus qevu qfmem qbytes qfresh qram qsent c7 c8 c9 c10 c11 c12 c13 c14 c15 c16 c17 ?_
  refine State.onBus_within qbus ?_ (by exact fun _ i => i) (by rfl)
  exact hp0

theorem State.completeAs_within {b : Bounds} {p0 p1 p2} (qsent : b.parts .sent) (qbus : b.parts .bus) (qevu : b.parts .evu) (qcues : b.parts .cues) (qfmem : b.parts .fmem) (qbytes : b.parts .bytes) (qfresh : b.parts .fresh) (qram : b.parts .ram) (c8 : ∀ (w0 : ℕ), b.regs (O17.TARGET_ERRORS w0)) (c9 : ∀ (w0 : ℕ), b.regs (O17.TRANSACTIONS w0)) (c10 : ∀ (w0 : ℕ), b.regs (O17.ERROR_RESPONSES w0)) (c11 : ∀ (w0 : ℕ), b.regs (O17.QOS_LAST w0)) (c12 : b.regs O17.MATRIX_FLAGS) (c13 : b.regs O17.LAST_VIOLATION) (c14 : b.regs O17.VIOLATIONS) (c15 : b.regs O17.FROZEN_ENGINES) (c16 : b.regs (O17.MASTER_STATE 268)) (c17 : b.regs (O17.MASTER_STATE (256 + p1.req.master))) (c18 : b.regs O17.FROZEN_MASTERS) (c19 : b.regs (O17.FREEZE_COUNT (256 + p1.req.master))) (c20 : ∀ (w0 : ℕ), b.regs (O17.DMA_STATE w0)) (c21 : ∀ k ∈ eventRegs (368 + p1.req.master), b.regs k) (c22 : ∀ k ∈ eventRegs 496, b.regs k) (c23 : b.regs (O14.CE_STATUS p1.req.engine)) (c24 : b.regs (O14.CE_STATE p1.req.engine)) (c25 : ∀ k ∈ eventRegs 324, b.regs k) (c26 : b.regs (O14.QUEUE_DEPTH p1.req.engine)) (c27 : b.regs O17.LAST_DECODE) (c28 : b.regs O17.DECODE_ERRORS) (c29 : ∀ k ∈ eventRegs 497, b.regs k) (c30 : ∀ (w0 : ℕ), b.regs (O05.STACK_FLAGS w0)) (c31 : ∀ (w0 : ℕ), b.regs (O05.LAST_ERROR_PIN w0)) (c32 : ∀ (w0 : ℕ), b.regs (O05.LAST_ERROR_ADDR w0)) (c33 : ∀ (w0 : ℕ), b.regs (O05.CE_COUNT w0)) (c34 : ∀ (w0 : ℕ), b.regs (O05.PIN_CE w0)) (c35 : ∀ k ∈ eventRegs 80, b.regs k) (c36 : ∀ k ∈ eventRegs 86, b.regs k) (hp0 : Within b p0) (hp2 : ∀ (a : State) (a_1 : List (ℕ × ℕ)), Within b a → Within2 b (p2 a a_1)) : Within1 b (State.completeAs p0 p1 p2) := by
  unfold State.completeAs
  extract_lets -merge -useContext -underBinder x1 x2 x3
  have hx3 : Within b x3 := by
    unfold x3
    refine ite_elim (P := Within b) ?_ ?_
    · change Within2 b _
      refine hp2 _ _ ?_
      exact hp0
    · exact hp0
  try clear_value x3
  refine ite_elim (P := Within1 b) ?_ ?_
  · refine within1_mk ?_
    refine State.busRespond_within qsent (c9 _) c8 (c10 _) (c11 _) ?_
    exact hp0
  · refine ite_elim (P := Within1 b) ?_ ?_
    · refine within1_mk ?_
      refine State.busRespond_within qsent (c9 _) c8 (c10 _) (c11 _) ?_
      refine State.discardWaiting_within qbus qsent c9 c8 c10 c11 ?_
      refine State.freeze_within qevu qcues c12 c13 c14 c15 c16 c17 c18 c19 c20 c21 c22 c23 c24 c25 c26 ?_
      exact hp0
    · split
      · refine within1_mk ?_
        refine State.busRespond_within qsent (c9 _) c8 (c10 _) (c11 _) ?_
        refine State.decodeError_within qevu qbus c12 c27 c28 c29 ?_
        exact hx3
      · refine within1_mk ?_
        refine State.busRespond_within qsent (c9 _) c8 (c10 _) (c11 _) ?_
        refine State.discardWaiting_within qbus qsent c9 c8 c10 c11 ?_
        refine State.freeze_within qevu qcues c12 c13 c14 c15 c16 c17 c18 c19 c20 c21 c22 c23 c24 c25 c26 ?_
        exact hx3
      · refine ite_elim (P := Within1 b) ?_ ?_
        · refine State.hbmEnter_within qbus qevu qfmem qbytes qfresh qram qsent c30 c31 c32 c33 c34 c35 c36 (c9 _) c8 (c10 _) (c11 _) ?_
          exact hp0
        · refine ite_elim (P := Within1 b) ?_ ?_
          · refine within1_mk ?_
            refine State.busRespond_within qsent (c9 _) c8 (c10 _) (c11 _) ?_
            exact hp0
          · refine within1_mk ?_
            refine State.busRespond_within qsent (c9 _) c8 (c10 _) (c11 _) ?_
            change Within2 b _
            refine hp2 _ _ ?_
            exact hp0

theorem State.completeReq_within {b : Bounds} {p0 p1} (qsent : b.parts .sent) (qbus : b.parts .bus) (qevu : b.parts .evu) (qcues : b.parts .cues) (qfmem : b.parts .fmem) (qbytes : b.parts .bytes) (qfresh : b.parts .fresh) (qram : b.parts .ram) (c8 : ∀ (w0 : ℕ), b.regs (O17.TARGET_ERRORS w0)) (c9 : ∀ (w0 : ℕ), b.regs (O17.TRANSACTIONS w0)) (c10 : ∀ (w0 : ℕ), b.regs (O17.ERROR_RESPONSES w0)) (c11 : ∀ (w0 : ℕ), b.regs (O17.QOS_LAST w0)) (c12 : b.regs O17.MATRIX_FLAGS) (c13 : b.regs O17.LAST_VIOLATION) (c14 : b.regs O17.VIOLATIONS) (c15 : b.regs O17.FROZEN_ENGINES) (c16 : b.regs (O17.MASTER_STATE 268)) (c17 : b.regs (O17.MASTER_STATE (256 + p1.master))) (c18 : b.regs O17.FROZEN_MASTERS) (c19 : b.regs (O17.FREEZE_COUNT (256 + p1.master))) (c20 : ∀ (w0 : ℕ), b.regs (O17.DMA_STATE w0)) (c21 : ∀ k ∈ eventRegs (368 + p1.master), b.regs k) (c22 : ∀ k ∈ eventRegs 496, b.regs k) (c23 : b.regs (O14.CE_STATUS p1.engine)) (c24 : b.regs (O14.CE_STATE p1.engine)) (c25 : ∀ k ∈ eventRegs 324, b.regs k) (c26 : b.regs (O14.QUEUE_DEPTH p1.engine)) (c27 : b.regs O17.LAST_DECODE) (c28 : b.regs O17.DECODE_ERRORS) (c29 : ∀ k ∈ eventRegs 497, b.regs k) (c30 : ∀ (w0 : ℕ), b.regs (O05.STACK_FLAGS w0)) (c31 : ∀ (w0 : ℕ), b.regs (O05.LAST_ERROR_PIN w0)) (c32 : ∀ (w0 : ℕ), b.regs (O05.LAST_ERROR_ADDR w0)) (c33 : ∀ (w0 : ℕ), b.regs (O05.CE_COUNT w0)) (c34 : ∀ (w0 : ℕ), b.regs (O05.PIN_CE w0)) (c35 : ∀ k ∈ eventRegs 80, b.regs k) (c36 : ∀ k ∈ eventRegs 86, b.regs k) (hp0 : Within b p0) : Within b (State.completeReq p0 p1) := by
  unfold State.completeReq
  change Within1 b _
  refine State.completeAs_within qsent qbus qevu qcues qfmem qbytes qfresh qram c8 c9 c10 c11 c12 c13 c14 c15 c16 c17 c18 c19 c20 c21 c22 c23 c24 c25 c26 c27 c28 c29 c30 c31 c32 c33 c34 c35 c36 ?_ ?_
  · exact hp0
  · intro u1 u2 hu3
    try beta_reduce
    refine State.moveBeats_within qfresh qfmem qbytes qbus qram ?_
    exact hu3

theorem State.busGrant_within {b : Bounds} {p0 p1} (qevu : b.parts .evu) (qbus : b.parts .bus) (c2 : ∀ w0, b.regs (O17.WAIT_MAX w0)) (c3 : ∀ w0, b.regs (O17.BEATS w0)) (c4 : ∀ w0, b.regs (O17.GRANTS w0)) (c5 : ∀ w0, b.regs (O17.PARKED w0)) (c6 : ∀ k ∈ eventRegs 383, b.regs k) (c7 : b.regs O17.MATRIX_FLAGS) (c8 : ∀ w0, b.regs (O17.AGED_GRANTS w0)) (hp0 : Within b p0) : Within b (State.busGrant p0 p1) := by
  unfold State.busGrant
  refine State.forEach_within ?_ ?_
  · exact hp0
  · intro u1 u2 hu1
    try beta_reduce
    refine State.forEach_within ?_ ?_
    · exact hu1
    · intro u3 u4 hu3
      try beta_reduce
      refine State.countGrant_within qevu qbus (c2 _) (c3 _) (c4 _) (c5 _) c6 c7 (c8 _) ?_
      exact hu3

theorem State.busRun_within {b : Bounds} {p0 p1} (qevu : b.parts .evu) (qbus : b.parts .bus) (qsent : b.parts .sent) (qcues : b.parts .cues) (qfmem : b.parts .fmem) (qbytes : b.parts .bytes) (qfresh : b.parts .fresh) (qram : b.parts .ram) (c8 : ∀ (w0 : ℕ), b.regs (O17.WAIT_MAX w0)) (c9 : ∀ (w0 : ℕ), b.regs (O17.BEATS w0)) (c10 : ∀ (w0 : ℕ), b.regs (O17.GRANTS w0)) (c11 : ∀ (w0 : ℕ), b.regs (O17.PARKED w0)) (c12 : b.regs O17.MATRIX_FLAGS) (c13 : ∀ (w0 : ℕ), b.regs (O17.AGED_GRANTS w0)) (c14 : ∀ (w0 : ℕ), b.regs (O17.TARGET_ERRORS w0)) (c15 : ∀ (w0 : ℕ), b.regs (O17.TRANSACTIONS w0)) (c16 : ∀ (w0 : ℕ), b.regs (O17.ERROR_RESPONSES w0)) (c17 : ∀ (w0 : ℕ), b.regs (O17.QOS_LAST w0)) (c18 : b.regs O17.LAST_VIOLATION) (c19 : b.regs O17.VIOLATIONS) (c20 : b.regs O17.FROZEN_ENGINES) (c21 : ∀ (w0 : ℕ), b.regs (O17.MASTER_STATE w0)) (c22 : b.regs O17.FROZEN_MASTERS) (c23 : ∀ (w0 : ℕ), b.regs (O17.FREEZE_COUNT w0)) (c24 : ∀ (w0 : ℕ), b.regs (O17.DMA_STATE w0)) (c25 : ∀ (w0 : ℕ), ∀ k ∈ eventRegs w0, b.regs k) (c26 : ∀ (w0 : ℕ), b.regs (O14.CE_STATUS w0)) (c27 : ∀ (w0 : ℕ), b.regs (O14.CE_STATE w0)) (c28 : ∀ (w0 : ℕ), b.regs (O14.QUEUE_DEPTH w0)) (c29 : b.regs O17.LAST_DECODE) (c30 : b.regs O17.DECODE_ERRORS) (c31 : ∀ (w0 : ℕ), b.regs (O05.STACK_FLAGS w0)) (c32 : ∀ (w0 : ℕ), b.regs (O05.LAST_ERROR_PIN w0)) (c33 : ∀ (w0 : ℕ), b.regs (O05.LAST_ERROR_ADDR w0)) (c34 : ∀ (w0 : ℕ), b.regs (O05.CE_COUNT w0)) (c35 : ∀ (w0 : ℕ), b.regs (O05.PIN_CE w0)) (hp0 : Within b p0) : Within b (State.busRun p0 p1) := by
  unfold State.busRun
  extract_lets -merge -useContext -underBinder x1 x2 x3
  refine State.forEach_within ?_ ?_
  · refine State.busGrant_within qevu qbus c8 c9 c10 c11 (c25 _) c12 c13 ?_
    exact hp0
  · intro u4 u5 hu6
    try beta_reduce
    refine State.completeReq_within qsent qbus qevu qcues qfmem qbytes qfresh qram c14 c15 c16 c17 c12 c18 c19 c20 (c21 _) (c21 _) c22 (c23 _) c24 (c25 _) (c25 _) (c26 _) (c27 _) (c25 _) (c28 _) c29 c30 (c25 _) c31 c32 c33 c34 c35 (c25 _) (c25 _) ?_
    exact hu6

theorem State.importEnds_within {b : Bounds} {p0 p1 p2 p3 p4} (qevu : b.parts .evu) (c1 : b.regs (O1B.JOB_RESULT p1)) (c2 : b.regs O00.DEV_FLAGS) (c3 : ∀ k ∈ eventRegs 6, b.regs k) (hp0 : Within b p0) : Within b (State.importEnds p0 p1 p2 p3 p4) := by
  unfold State.importEnds
  split
  · exact hp0
  · extract_lets -merge -useContext -underBinder x1 x2 x3
    have hx2 : Within b x2 := by
      unfold x2
      refine State.setBytes_within c1 ?_
      exact hp0
    try clear_value x2
    have hx3 : Within b x3 := by
      unfold x3
      refine State.flag_within c2 ?_
      exact hx2
    try clear_value x3
    refine State.raise_within qevu c3 ?_
    exact hx3

theorem State.unitJobEnds_within {b : Bounds} {p0 p1 p2} (qevu : b.parts .evu) (qfabric : b.parts .fabric) (qfmem : b.parts .fmem) (qboot : b.parts .boot) (c4 : b.regs (O1B.JOB_RESULT p1)) (c5 : b.regs O00.DEV_FLAGS) (c6 : ∀ k ∈ eventRegs 6, b.regs k) (c7 : ∀ (w0 : ℕ), b.regs (O05.CLIP_LOADED w0)) (c8 : ∀ (w0 : ℕ), b.regs (O05.CLIP_STATE w0)) (c9 : ∀ (w0 : ℕ), b.regs (O09.LUT_STATE w0)) (c10 : b.regs O18.FW_PHASE) (hp0 : Within b p0) : Within b (State.unitJobEnds p0 p1 p2) := by
  unfold State.unitJobEnds
  split
  · exact hp0
  · extract_lets -merge -useContext -underBinder x1
    split
    · refine ite_elim (P := Within b) ?_ ?_
      · refine State.importEnds_within qevu c4 c5 c6 ?_
        exact hp0
      · exact hp0
    · refine ite_elim (P := Within b) ?_ ?_
      · refine State.clipJobEnd_within qfabric qfmem (c7 _) (c8 _) ?_
        exact hp0
      · refine ite_elim (P := Within b) ?_ ?_
        · refine State.testEnds_within qfmem ?_
          exact hp0
        · exact hp0
    · refine State.lutJobEnd_within (c9 _) ?_
      exact hp0
    · refine State.fwPhase_within qboot c10 ?_
      exact hp0
    · exact hp0

theorem State.stopJob_within {b : Bounds} {p0 p1 p2} (qsent : b.parts .sent) (qevu : b.parts .evu) (qsess : b.parts .sess) (qmail : b.parts .mail) (qjobs : b.parts .jobs) (qfabric : b.parts .fabric) (qfmem : b.parts .fmem) (qboot : b.parts .boot) (c8 : b.regs (O1B.JOB_ENDED p1)) (c9 : b.regs (O1B.JOB_STATUS p1)) (c10 : b.regs (O1B.JOB_RESULT p1)) (c11 : b.regs (O1B.JOB_PROGRESS p1)) (c12 : b.regs O1B.JOBS_QUEUED) (c13 : b.regs O1B.JOBS_RUNNING) (c14 : ∀ (w0 : ℕ), b.regs (O1C.SESS_QUEUE w0)) (c15 : b.regs O1C.FILULO_FLAGS) (c16 : ∀ (w0 : ℕ), b.regs (O1B.JOB_STARTED w0)) (c17 : ∀ (w0 : ℕ), b.regs (O1B.JOB_STATE w0)) (c18 : ∀ (w0 : ℕ), ∀ k ∈ eventRegs w0, b.regs k) (c19 : b.regs O00.DEV_FLAGS) (c20 : ∀ (w0 : ℕ), b.regs (O05.CLIP_LOADED w0)) (c21 : ∀ (w0 : ℕ), b.regs (O05.CLIP_STATE w0)) (c22 : ∀ (w0 : ℕ), b.regs (O09.LUT_STATE w0)) (c23 : b.regs O18.FW_PHASE) (hp0 : Within b p0) : Within b (State.stopJob p0 p1 p2) := by
  unfold State.stopJob
  refine State.endJob_within qsent qevu qsess qmail qjobs c8 c9 c10 c11 c12 c13 c14 c15 c16 c17 c18 ?_
  refine State.unitJobEnds_within qevu qfabric qfmem qboot c10 c19 (c18 _) c20 c21 c22 c23 ?_
  exact hp0

theorem State.jobBoundary_within {b : Bounds} {p0} (qsent : b.parts .sent) (qevu : b.parts .evu) (qsess : b.parts .sess) (qmail : b.parts .mail) (qjobs : b.parts .jobs) (qfabric : b.parts .fabric) (qfmem : b.parts .fmem) (qboot : b.parts .boot) (c8 : ∀ (w0 : ℕ), b.regs (O1B.JOB_STATUS w0)) (c9 : b.regs O1B.JOBS_QUEUED) (c10 : b.regs O1B.JOBS_RUNNING) (c11 : ∀ (w0 : ℕ), b.regs (O1C.SESS_QUEUE w0)) (c12 : b.regs O1C.FILULO_FLAGS) (c13 : ∀ (w0 : ℕ), b.regs (O1B.JOB_STARTED w0)) (c14 : ∀ (w0 : ℕ), b.regs (O1B.JOB_STATE w0)) (c15 : ∀ (w0 : ℕ), b.regs (O1B.JOB_ENDED w0)) (c16 : ∀ (w0 : ℕ), b.regs (O1B.JOB_RESULT w0)) (c17 : ∀ (w0 : ℕ), b.regs (O1B.JOB_PROGRESS w0)) (c18 : ∀ (w0 : ℕ), ∀ k ∈ eventRegs w0, b.regs k) (c19 : b.regs O00.DEV_FLAGS) (c20 : ∀ (w0 : ℕ), b.regs (O05.CLIP_LOADED w0)) (c21 : ∀ (w0 : ℕ), b.regs (O05.CLIP_STATE w0)) (c22 : ∀ (w0 : ℕ), b.regs (O09.LUT_STATE w0)) (c23 : b.regs O18.FW_PHASE) (hp0 : Within b p0) : Within b (State.jobBoundary p0) := by
  unfold State.jobBoundary
  refine State.forEach_within ?_ ?_
  · exact hp0
  · intro u1 u2 hu3
    try beta_reduce
    refine ite_elim (P := Within b) ?_ ?_
    · exact hu3
    · split
      · refine ite_elim (P := Within b) ?_ ?_
        · refine State.suspendJob_within qsent qevu qsess qmail qjobs (c8 _) c9 c10 c11 (c18 _) c12 (c18 _) c13 c14 (c18 _) ?_
          exact hu3
        · exact hu3
      · refine ite_elim (P := Within b) ?_ ?_
        · refine State.stopJob_within qsent qevu qsess qmail qjobs qfabric qfmem qboot (c15 _) (c8 _) (c16 _) (c17 _) c9 c10 c11 c12 c13 c14 c18 c19 c20 c21 c22 c23 ?_
          exact hu3
        · exact hu3
      · exact hu3

theorem State.actUnfreeze_within {b : Bounds} {p0 p1} (qevu : b.parts .evu) (c1 : ∀ k ∈ eventRegs 325, b.regs k) (c2 : ∀ w0, b.regs (O14.CE_STATE w0)) (c3 : b.regs O17.FROZEN_ENGINES) (c4 : ∀ w0, b.regs (O17.MASTER_STATE w0)) (c5 : ∀ w0, b.regs (O17.DMA_STATE w0)) (c6 : ∀ k ∈ eventRegs 382, b.regs k) (c7 : b.regs O17.FROZEN_MASTERS) (hp0 : Within b p0) : Within1 b (State.actUnfreeze p0 p1) := by
  unfold State.actUnfreeze
  extract_lets -merge -useContext -underBinder x1 x2 x3 x4 x5
  have hx4 : Within b x4 := by
    unfold x4
    refine ite_elim (P := Within b) ?_ ?_
    · refine State.forEach_within ?_ ?_
      · exact hp0
      · intro u6 u7 hu6
        try beta_reduce
        refine State.raise_within qevu c1 ?_
        refine State.setN_within (c2 _) ?_
        refine State.markEngine_within c3 (c4 _) ?_
        exact hu6
    · refine State.setN_within (c4 _) ?_
      exact hp0
  try clear_value x4
  have hx5 : Within b x5 := by
    unfold x5
    refine ite_elim (P := Within b) ?_ ?_
    · refine State.setN_within (c5 _) ?_
      exact hx4
    · exact hx4
  try clear_value x5
  refine ite_elim (P := Within1 b) ?_ ?_
  · refine within1_mk ?_
    exact hp0
  · refine ite_elim (P := Within1 b) ?_ ?_
    · refine within1_mk ?_
      exact hp0
    · refine ite_elim (P := Within1 b) ?_ ?_
      · refine within1_mk ?_
        exact hp0
      · refine within1_mk ?_
        refine State.raise_within qevu c6 ?_
        refine State.countFrozen_within c7 ?_
        exact hx5

theorem State.clipMove_within {b : Bounds} {p0 p1 p2 p3 p4} (qfmem : b.parts .fmem) (qbytes : b.parts .bytes) (qjobs : b.parts .jobs) (qsent : b.parts .sent) (c4 : b.regs (O1B.JOB_RESULT p1)) (hp0 : Within b p0) : Within b (State.clipMove p0 p1 p2 p3 p4) := by
  unfold State.clipMove
  extract_lets -merge -useContext -underBinder x1 x2 x3 x4
  have hx2 : Within1 b x2 := by
    unfold x2
    refine State.clipStage_within qfmem qbytes ?_
    exact hp0
  try clear_value x2
  have hx4 : Within b x4 := by
    unfold x4
    refine State.setJob_within qjobs ?_
    change Within1 b _
    exact hx2
  try clear_value x4
  refine ite_elim (P := Within b) ?_ ?_
  · exact hx4
  · refine ite_elim (P := Within b) ?_ ?_
    · refine State.emit_within qsent ?_
      exact hx4
    · refine ite_elim (P := Within b) ?_ ?_
      · exact hx4
      · refine State.offerJob_within qjobs c4 ?_
        exact hx4

theorem State.jobMoved_within {b : Bounds} {p0 p1 p2 p3} (qfmem : b.parts .fmem) (qbytes : b.parts .bytes) (qjobs : b.parts .jobs) (qsent : b.parts .sent) (c4 : ∀ (w0 : ℕ), b.regs (O1B.JOB_RESULT w0)) (hp0 : Within b p0) : Within b (State.jobMoved p0 p1 p2 p3) := by
  unfold State.jobMoved
  split
  · exact hp0
  · split
    · refine ite_elim (P := Within b) ?_ ?_
      · exact hp0
      · refine ite_elim (P := Within b) ?_ ?_
        · refine ite_elim (P := Within b) ?_ ?_
          · refine State.clipMove_within qfmem qbytes qjobs qsent (c4 _) ?_
            exact hp0
          · exact hp0
        · refine ite_elim (P := Within b) ?_ ?_
          · refine State.setJob_within qjobs ?_
            exact hp0
          · exact hp0
    · exact hp0

theorem State.setWindows_within {b : Bounds} {p0 p1 p2 p3} (qbus : b.parts .bus) (hp0 : Within b p0) : Within b (State.setWindows p0 p1 p2 p3) := by
  unfold State.setWindows
  split
  · exact hp0
  · extract_lets -merge -useContext -underBinder x1
    refine ite_elim (P := Within b) ?_ ?_
    · exact hp0
    · refine State.onBus_within qbus ?_ (by exact fun _ i => i) (by rfl)
      exact hp0

theorem State.dmaFails_within {b : Bounds} {p0 p1} (qsent : b.parts .sent) (qevu : b.parts .evu) (qsess : b.parts .sess) (qmail : b.parts .mail) (qjobs : b.parts .jobs) (qfabric : b.parts .fabric) (qfmem : b.parts .fmem) (qboot : b.parts .boot) (c8 : ∀ (w0 : ℕ), b.regs (O1B.JOB_ENDED w0)) (c9 : ∀ (w0 : ℕ), b.regs (O1B.JOB_STATUS w0)) (c10 : ∀ (w0 : ℕ), b.regs (O1B.JOB_RESULT w0)) (c11 : ∀ (w0 : ℕ), b.regs (O1B.JOB_PROGRESS w0)) (c12 : b.regs O1B.JOBS_QUEUED) (c13 : b.regs O1B.JOBS_RUNNING) (c14 : ∀ (w0 : ℕ), b.regs (O1C.SESS_QUEUE w0)) (c15 : b.regs O1C.FILULO_FLAGS) (c16 : ∀ (w0 : ℕ), b.regs (O1B.JOB_STARTED w0)) (c17 : ∀ (w0 : ℕ), b.regs (O1B.JOB_STATE w0)) (c18 : ∀ (w0 : ℕ), ∀ k ∈ eventRegs w0, b.regs k) (c19 : b.regs O00.DEV_FLAGS) (c20 : ∀ (w0 : ℕ), b.regs (O05.CLIP_LOADED w0)) (c21 : ∀ (w0 : ℕ), b.regs (O05.CLIP_STATE w0)) (c22 : ∀ (w0 : ℕ), b.regs (O09.LUT_STATE w0)) (c23 : b.regs O18.FW_PHASE) (hp0 : Within b p0) : Within b (State.dmaFails p0 p1) := by
  unfold State.dmaFails
  split
  · refine ite_elim (P := Within b) ?_ ?_
    · refine State.stopJob_within qsent qevu qsess qmail qjobs qfabric qfmem qboot (c8 _) (c9 _) (c10 _) (c11 _) c12 c13 c14 c15 c16 c17 c18 c19 c20 c21 c22 c23 ?_
      exact hp0
    · exact hp0
  · exact hp0

theorem execControlBusRequest_within {b : Bounds} {p0 p1} (qevu : b.parts .evu) (qbus : b.parts .bus) (qsent : b.parts .sent) (qcues : b.parts .cues) (qfmem : b.parts .fmem) (qbytes : b.parts .bytes) (qfresh : b.parts .fresh) (qram : b.parts .ram) (c8 : ∀ (w0 : ℕ), b.regs (O17.WAIT_MAX w0)) (c9 : ∀ (w0 : ℕ), b.regs (O17.BEATS w0)) (c10 : ∀ (w0 : ℕ), b.regs (O17.GRANTS w0)) (c11 : ∀ (w0 : ℕ), b.regs (O17.PARKED w0)) (c12 : b.regs O17.MATRIX_FLAGS) (c13 : ∀ (w0 : ℕ), b.regs (O17.AGED_GRANTS w0)) (c14 : ∀ (w0 : ℕ), b.regs (O17.TARGET_ERRORS w0)) (c15 : ∀ (w0 : ℕ), b.regs (O17.TRANSACTIONS w0)) (c16 : ∀ (w0 : ℕ), b.regs (O17.ERROR_RESPONSES w0)) (c17 : ∀ (w0 : ℕ), b.regs (O17.QOS_LAST w0)) (c18 : b.regs O17.LAST_VIOLATION) (c19 : b.regs O17.VIOLATIONS) (c20 : b.regs O17.FROZEN_ENGINES) (c21 : ∀ (w0 : ℕ), b.regs (O17.MASTER_STATE w0)) (c22 : b.regs O17.FROZEN_MASTERS) (c23 : ∀ (w0 : ℕ), b.regs (O17.FREEZE_COUNT w0)) (c24 : ∀ (w0 : ℕ), b.regs (O17.DMA_STATE w0)) (c25 : ∀ (w0 : ℕ), ∀ k ∈ eventRegs w0, b.regs k) (c26 : ∀ (w0 : ℕ), b.regs (O14.CE_STATUS w0)) (c27 : ∀ (w0 : ℕ), b.regs (O14.CE_STATE w0)) (c28 : ∀ (w0 : ℕ), b.regs (O14.QUEUE_DEPTH w0)) (c29 : b.regs O17.LAST_DECODE) (c30 : b.regs O17.DECODE_ERRORS) (c31 : ∀ (w0 : ℕ), b.regs (O05.STACK_FLAGS w0)) (c32 : ∀ (w0 : ℕ), b.regs (O05.LAST_ERROR_PIN w0)) (c33 : ∀ (w0 : ℕ), b.regs (O05.LAST_ERROR_ADDR w0)) (c34 : ∀ (w0 : ℕ), b.regs (O05.CE_COUNT w0)) (c35 : ∀ (w0 : ℕ), b.regs (O05.PIN_CE w0)) (hp1 : Within b p1) : WithinOut b (execControlBusRequest p0 p1) := by
  unfold execControlBusRequest
  refine live_within ?_ ?_
  · exact hp1
  · intro u1 hu2
    try beta_reduce
    refine State.busRun_within qevu qbus qsent qcues qfmem qbytes qfresh qram c8 c9 c10 c11 c12 c13 c14 c15 c16 c17 c18 c19 c20 c21 c22 c23 c24 c25 c26 c27 c28 c29 c30 c31 c32 c33 c34 c35 ?_
    exact hu2

theorem execUnfreeze_within {b : Bounds} {p0 p1} (qevu : b.parts .evu) (c1 : ∀ k ∈ eventRegs 325, b.regs k) (c2 : ∀ w0, b.regs (O14.CE_STATE w0)) (c3 : b.regs O17.FROZEN_ENGINES) (c4 : ∀ w0, b.regs (O17.MASTER_STATE w0)) (c5 : ∀ w0, b.regs (O17.DMA_STATE w0)) (c6 : ∀ k ∈ eventRegs 382, b.regs k) (c7 : b.regs O17.FROZEN_MASTERS) (hp1 : Within b p1) : WithinOut b (execUnfreeze p0 p1) := by
  unfold execUnfreeze
  refine live_within ?_ ?_
  · exact hp1
  · intro u1 hu1
    try beta_reduce
    refine ite_elim (P := Within b) ?_ ?_
    · change Within1 b _
      refine State.actUnfreeze_within qevu c1 c2 c3 c4 c5 c6 c7 ?_
      exact hu1
    · exact hu1

theorem execDmaDescriptor_within {b : Bounds} {p0 p1 p2 p3 p4 p5} (qsent : b.parts .sent) (qevu : b.parts .evu) (qsess : b.parts .sess) (qmail : b.parts .mail) (qjobs : b.parts .jobs) (qfabric : b.parts .fabric) (qfmem : b.parts .fmem) (qboot : b.parts .boot) (qbus : b.parts .bus) (qbytes : b.parts .bytes) (c10 : b.regs (O17.DMA_ERRORS (768 + p0))) (c11 : ∀ (w0 : ℕ), b.regs (O1B.JOB_ENDED w0)) (c12 : ∀ (w0 : ℕ), b.regs (O1B.JOB_STATUS w0)) (c13 : ∀ (w0 : ℕ), b.regs (O1B.JOB_RESULT w0)) (c14 : ∀ (w0 : ℕ), b.regs (O1B.JOB_PROGRESS w0)) (c15 : b.regs O1B.JOBS_QUEUED) (c16 : b.regs O1B.JOBS_RUNNING) (c17 : ∀ (w0 : ℕ), b.regs (O1C.SESS_QUEUE w0)) (c18 : b.regs O1C.FILULO_FLAGS) (c19 : ∀ (w0 : ℕ), b.regs (O1B.JOB_STARTED w0)) (c20 : ∀ (w0 : ℕ), b.regs (O1B.JOB_STATE w0)) (c21 : ∀ (w0 : ℕ), ∀ k ∈ eventRegs w0, b.regs k) (c22 : b.regs O00.DEV_FLAGS) (c23 : ∀ (w0 : ℕ), b.regs (O05.CLIP_LOADED w0)) (c24 : ∀ (w0 : ℕ), b.regs (O05.CLIP_STATE w0)) (c25 : ∀ (w0 : ℕ), b.regs (O09.LUT_STATE w0)) (c26 : b.regs O18.FW_PHASE) (c27 : b.regs (O17.DMA_BYTES (768 + p0))) (hp5 : Within b p5) : WithinOut b (execDmaDescriptor p0 p1 p2 p3 p4 p5) := by
  unfold execDmaDescriptor
  refine live_within ?_ ?_
  · exact hp5
  · intro u1 hu2
    try beta_reduce
    extract_lets -merge -useContext -underBinder x3
    have hx3 : Within b x3 := by
      unfold x3
      refine State.bump_within c10 ?_
      exact hu2
    try clear_value x3
    refine ite_elim (P := Within b) ?_ ?_
    · exact hu2
    · refine ite_elim (P := Within b) ?_ ?_
      · refine State.dmaFails_within qsent qevu qsess qmail qjobs qfabric qfmem qboot c11 c12 c13 c14 c15 c16 c17 c18 c19 c20 c21 c22 c23 c24 c25 c26 ?_
        exact hu2
      · refine ite_elim (P := Within b) ?_ ?_
        · refine State.onBus_within qbus ?_ (by exact fun _ i => i) (by rfl)
          refine State.jobMoved_within qfmem qbytes qjobs qsent c13 ?_
          refine State.bump_within c27 ?_
          refine State.setWindows_within qbus ?_
          exact hu2
        · refine ite_elim (P := Within b) ?_ ?_
          · refine State.dmaFails_within qsent qevu qsess qmail qjobs qfabric qfmem qboot c11 c12 c13 c14 c15 c16 c17 c18 c19 c20 c21 c22 c23 c24 c25 c26 ?_
            refine State.onBus_within qbus ?_ (by exact fun _ i => i) (by rfl)
            exact hx3
          · refine State.onBus_within qbus ?_ (by exact fun _ i => i) (by rfl)
            exact hx3

end Sys2Proof.Machine
end

