-- ==== Sys2Proof/Laws/WithinCues.lean ====
section
/-! SUPPORT. What each operation of Machine/Cues.lean may change at most (Laws/Within.lean). -/

set_option maxRecDepth 8000

namespace Sys2Proof.Machine

theorem State.onCues_within {b : Bounds} {p0 p1} (qcues : b.parts .cues) (hp0 : Within b p0) : Within b (State.onCues p0 p1) := by
  unfold State.onCues
  refine Within.f_cues (s := p0) qcues ?_
  exact hp0

theorem State.gather_within {b : Bounds} {p0 p1} (qcues : b.parts .cues) (hp0 : Within b p0) : Within b (State.gather p0 p1) := by
  unfold State.gather
  refine State.onCues_within qcues ?_
  exact hp0

theorem State.armRec_within {b : Bounds} {p0 p1} (qcues : b.parts .cues) (hp0 : Within b p0) : Within b (State.armRec p0 p1) := by
  unfold State.armRec
  refine State.onCues_within qcues ?_
  exact hp0

theorem State.putRecord_within {b : Bounds} {p0 p1 p2 p3} (qcues : b.parts .cues) (c1 : b.regs (O14.RECORDS_ENABLED p1)) (hp0 : Within b p0) : Within b (State.putRecord p0 p1 p2 p3) := by
  unfold State.putRecord
  extract_lets -merge -useContext -underBinder x1 x2
  have hx2 : Within b x2 := by
    unfold x2
    refine State.armRec_within qcues ?_
    refine State.onCues_within qcues ?_
    exact hp0
  try clear_value x2
  refine State.setN_within c1 ?_
  exact hx2

theorem State.actCueFire_within {b : Bounds} {p0 p1 p2} (qcues : b.parts .cues) (hp0 : Within b p0) : Within1 b (State.actCueFire p0 p1 p2) := by
  unfold State.actCueFire
  refine ite_elim (P := Within1 b) ?_ ?_
  · refine within1_mk ?_
    exact hp0
  · refine within1_mk ?_
    refine State.gather_within qcues ?_
    exact hp0

theorem State.actRearm_within {b : Bounds} {p0 p1 p2} (qcues : b.parts .cues) (hp0 : Within b p0) : Within1 b (State.actRearm p0 p1 p2) := by
  unfold State.actRearm
  refine ite_elim (P := Within1 b) ?_ ?_
  · refine within1_mk ?_
    refine State.forEach_within ?_ ?_
    · exact hp0
    · intro u1 u2 hu1
      try beta_reduce
      refine State.armRec_within qcues ?_
      exact hu1
  · refine ite_elim (P := Within1 b) ?_ ?_
    · refine within1_mk ?_
      exact hp0
    · refine within1_mk ?_
      refine State.armRec_within qcues ?_
      exact hp0

theorem State.writeCueFlags_within {b : Bounds} {p0 p1 p2} (qcues : b.parts .cues) (hp0 : Within b p0) : Within b (State.writeCueFlags p0 p1 p2) := by
  unfold State.writeCueFlags
  refine State.onCues_within qcues ?_
  exact hp0

theorem State.actionFailed_within {b : Bounds} {p0 p1 p2 p3 p4} (qevu : b.parts .evu) (c1 : ∀ k ∈ eventRegs 321, b.regs k) (c2 : b.regs (O14.CE_STATUS p1)) (c3 : b.regs (O14.LAST_ERROR p1)) (c4 : b.regs (O14.ACTION_ERRORS p1)) (hp0 : Within b p0) : Within b (State.actionFailed p0 p1 p2 p3 p4) := by
  unfold State.actionFailed
  extract_lets -merge -useContext -underBinder x1
  refine ite_elim (P := Within b) ?_ ?_
  · exact hp0
  · refine State.raiseLim_within qevu c1 ?_
    refine State.flag_within c2 ?_
    refine State.setN_within c3 ?_
    refine State.bump_within c4 ?_
    exact hp0

theorem State.actFade_within {b : Bounds} {p0 p1 p2 p3 p4 p5 p6 p7} (qcues : b.parts .cues) (hp0 : Within b p0) : Within b (State.actFade p0 p1 p2 p3 p4 p5 p6 p7) := by
  unfold State.actFade
  refine State.onCues_within qcues ?_
  exact hp0

theorem State.pinOut_within {b : Bounds} {p0 p1 p2} (qsent : b.parts .sent) (hp0 : Within b p0) : Within b (State.pinOut p0 p1 p2) := by
  unfold State.pinOut
  refine State.emit_within qsent ?_
  exact hp0

theorem State.setPin_within {b : Bounds} {p0 p1 p2} (qcues : b.parts .cues) (hp0 : Within b p0) : Within b (State.setPin p0 p1 p2) := by
  unfold State.setPin
  refine State.onCues_within qcues ?_
  exact hp0

theorem State.actGpio_within {b : Bounds} {p0 p1 p2 p3} (qcues : b.parts .cues) (hp0 : Within b p0) : Within1 b (State.actGpio p0 p1 p2 p3) := by
  unfold State.actGpio
  extract_lets -merge -useContext -underBinder x1 x2
  have hx2 : Within b x2 := by
    unfold x2
    refine State.setPin_within qcues ?_
    exact hp0
  try clear_value x2
  refine ite_elim (P := Within1 b) ?_ ?_
  · refine within1_mk ?_
    exact hp0
  · refine within1_mk ?_
    refine State.onCues_within qcues ?_
    exact hx2

theorem State.actGpioSet_within {b : Bounds} {p0 p1 p2} (qcues : b.parts .cues) (c1 : b.regs (O16.GPIO_SET (256 + p1))) (hp0 : Within b p0) : Within1 b (State.actGpioSet p0 p1 p2) := by
  unfold State.actGpioSet
  refine ite_elim (P := Within1 b) ?_ ?_
  · refine within1_mk ?_
    exact hp0
  · refine within1_mk ?_
    refine State.setPin_within qcues ?_
    refine State.setN_within c1 ?_
    exact hp0

theorem State.setGen_within {b : Bounds} {p0 p1 p2} (qcues : b.parts .cues) (hp0 : Within b p0) : Within b (State.setGen p0 p1 p2) := by
  unfold State.setGen
  refine State.onCues_within qcues ?_
  exact hp0

theorem State.actTimecode_within {b : Bounds} {p0 p1 p2 p3} (qcues : b.parts .cues) (c1 : b.regs (O16.GEN_RUN (16 + p1))) (hp0 : Within b p0) : Within b (State.actTimecode p0 p1 p2 p3) := by
  unfold State.actTimecode
  extract_lets -merge -useContext -underBinder x1
  refine ite_elim (P := Within b) ?_ ?_
  · refine State.setGen_within qcues ?_
    exact hp0
  · refine State.setB_within c1 ?_
    exact hp0

theorem State.actFlags_within {b : Bounds} {p0 p1 p2 p3} (c0 : b.regs (O14.CUE_FLAGS p1)) (hp0 : Within b p0) : Within b (State.actFlags p0 p1 p2 p3) := by
  unfold State.actFlags
  refine State.setN_within c0 ?_
  exact hp0

theorem State.ranAction_within {b : Bounds} {p0 p1 p2} (qcues : b.parts .cues) (c1 : b.regs (O14.ACTIONS p1)) (hp0 : Within b p0) : Within b (State.ranAction p0 p1 p2) := by
  unfold State.ranAction
  refine State.onCues_within qcues ?_
  refine State.gather_within qcues ?_
  refine State.bump_within c1 ?_
  exact hp0

theorem State.runAction_within {b : Bounds} {p0 p1 p2 p3} (qevu : b.parts .evu) (qcues : b.parts .cues) (c2 : b.regs (O14.ACTIONS p1)) (c3 : b.regs (O14.CUE_FLAGS p1)) (c4 : ∀ k ∈ eventRegs 321, b.regs k) (c5 : b.regs (O14.CE_STATUS p1)) (c6 : b.regs (O14.LAST_ERROR p1)) (c7 : b.regs (O14.ACTION_ERRORS p1)) (c8 : ∀ w0, b.regs (O16.GEN_RUN w0)) (hp0 : Within b p0) : Within b (State.runAction p0 p1 p2 p3) := by
  unfold State.runAction
  extract_lets -merge -useContext -underBinder x1
  have hx1 : Within b x1 := by
    unfold x1
    refine State.ranAction_within qcues c2 ?_
    exact hp0
  try clear_value x1
  split
  · refine State.actFlags_within c3 ?_
    exact hx1
  · refine State.onCues_within qcues ?_
    exact hx1
  · refine State.onCues_within qcues ?_
    exact hx1
  · refine State.actFade_within qcues ?_
    exact hx1
  · extract_lets -merge -useContext -underBinder x2
    have hx2 : Within1 b x2 := by
      unfold x2
      refine State.actGpio_within qcues ?_
      exact hx1
    try clear_value x2
    refine State.actionFailed_within qevu c4 c5 c6 c7 ?_
    change Within1 b _
    exact hx2
  · refine State.actTimecode_within qcues (c8 _) ?_
    exact hx1
  · exact hx1

theorem State.countQueue_within {b : Bounds} {p0 p1} (c0 : b.regs (O14.QUEUE_DEPTH p1)) (hp0 : Within b p0) : Within b (State.countQueue p0 p1) := by
  unfold State.countQueue
  refine State.setN_within c0 ?_
  exact hp0

theorem State.deferAction_within {b : Bounds} {p0 p1} (qevu : b.parts .evu) (c1 : ∀ k ∈ eventRegs 322, b.regs k) (c2 : b.regs (O14.CE_STATUS p1)) (c3 : b.regs (O14.DEFERRED p1)) (hp0 : Within b p0) : Within b (State.deferAction p0 p1) := by
  unfold State.deferAction
  refine State.raiseLim_within qevu c1 ?_
  refine State.flag_within c2 ?_
  refine State.bump_within c3 ?_
  exact hp0

theorem State.queueAction_within {b : Bounds} {p0 p1} (qevu : b.parts .evu) (qcues : b.parts .cues) (c2 : ∀ k ∈ eventRegs 323, b.regs k) (c3 : b.regs (O14.CE_STATUS p1.engine)) (c4 : b.regs (O14.QUEUE_DROPS p1.engine)) (c5 : b.regs (O14.QUEUE_DEPTH p1.engine)) (hp0 : Within b p0) : Within b (State.queueAction p0 p1) := by
  unfold State.queueAction
  extract_lets -merge -useContext -underBinder x1
  refine ite_elim (P := Within b) ?_ ?_
  · refine State.raise_within qevu c2 ?_
    refine State.flag_within c3 ?_
    refine State.bump_within c4 ?_
    exact hp0
  · refine State.countQueue_within c5 ?_
    refine State.onCues_within qcues ?_
    exact hp0

theorem State.runQueued_within {b : Bounds} {p0 p1} (qevu : b.parts .evu) (qcues : b.parts .cues) (c2 : b.regs (O14.ACTIONS p1.engine)) (c3 : b.regs (O14.CUE_FLAGS p1.engine)) (c4 : ∀ k ∈ eventRegs 321, b.regs k) (c5 : b.regs (O14.CE_STATUS p1.engine)) (c6 : b.regs (O14.LAST_ERROR p1.engine)) (c7 : b.regs (O14.ACTION_ERRORS p1.engine)) (c8 : ∀ w0, b.regs (O16.GEN_RUN w0)) (c9 : b.regs (O14.QUEUE_DEPTH p1.engine)) (hp0 : Within b p0) : Within b (State.runQueued p0 p1) := by
  unfold State.runQueued
  refine State.runAction_within qevu qcues c2 c3 c4 c5 c6 c7 c8 ?_
  refine State.countQueue_within c9 ?_
  refine State.onCues_within qcues ?_
  exact hp0

theorem State.runDue_within {b : Bounds} {p0 p1 p2 p3} (qevu : b.parts .evu) (qcues : b.parts .cues) (c2 : ∀ w0, b.regs (O14.ACTIONS w0)) (c3 : ∀ w0, b.regs (O14.CUE_FLAGS w0)) (c4 : ∀ k ∈ eventRegs 321, b.regs k) (c5 : ∀ w0, b.regs (O14.CE_STATUS w0)) (c6 : ∀ w0, b.regs (O14.LAST_ERROR w0)) (c7 : ∀ w0, b.regs (O14.ACTION_ERRORS w0)) (c8 : ∀ w0, b.regs (O16.GEN_RUN w0)) (c9 : ∀ w0, b.regs (O14.QUEUE_DEPTH w0)) (hp1 : Within b p1) : Within b (State.runDue p0 p1 p2 p3) := by
  induction p0 generalizing p1 with
  | zero => exact hp1
  | succ f ih =>
    unfold State.runDue
    refine ite_elim (P := Within b) hp1 ?_
    split
    · exact hp1
    · exact ih (State.runQueued_within qevu qcues (c2 _) (c3 _) c4 (c5 _) (c6 _) (c7 _) c8 (c9 _) hp1)

theorem State.fireRecord_within {b : Bounds} {p0 p1 p2 p3} (qevu : b.parts .evu) (qcues : b.parts .cues) (c2 : b.regs (O14.FIRED p1)) (c3 : ∀ k ∈ eventRegs 320, b.regs k) (c4 : b.regs (O14.ACTIONS p1)) (c5 : b.regs (O14.CUE_FLAGS p1)) (c6 : ∀ k ∈ eventRegs 321, b.regs k) (c7 : b.regs (O14.LAST_ERROR p1)) (c8 : b.regs (O14.ACTION_ERRORS p1)) (c9 : ∀ w0, b.regs (O16.GEN_RUN w0)) (c10 : ∀ k ∈ eventRegs 323, b.regs k) (c11 : ∀ w0, b.regs (O14.CE_STATUS w0)) (c12 : ∀ w0, b.regs (O14.QUEUE_DROPS w0)) (c13 : ∀ w0, b.regs (O14.QUEUE_DEPTH w0)) (c14 : ∀ k ∈ eventRegs 322, b.regs k) (c15 : b.regs (O14.DEFERRED p1)) (hp0 : Within b p0) : Within b (State.fireRecord p0 p1 p2 p3) := by
  unfold State.fireRecord
  extract_lets -merge -useContext -underBinder x1 x2 x3 x4
  have hx1 : Within b x1 := by
    unfold x1
    refine State.flag_within (c11 _) ?_
    refine State.bump_within c2 ?_
    exact hp0
  try clear_value x1
  have hx2 : Within b x2 := by
    unfold x2
    refine ite_elim (P := Within b) ?_ ?_
    · refine State.raise_within qevu c3 ?_
      exact hx1
    · exact hx1
  try clear_value x2
  have hx3 : Within b x3 := by
    unfold x3
    refine State.onCues_within qcues ?_
    exact hx2
  try clear_value x3
  refine ite_elim (P := Within b) ?_ ?_
  · refine ite_elim (P := Within b) ?_ ?_
    · refine State.runAction_within qevu qcues c4 c5 c6 (c11 _) c7 c8 c9 ?_
      exact hx3
    · refine State.queueAction_within qevu qcues c10 (c11 _) (c12 _) (c13 _) ?_
      refine State.deferAction_within qevu c14 (c11 _) c15 ?_
      exact hx3
  · refine State.queueAction_within qevu qcues c10 (c11 _) (c12 _) (c13 _) ?_
    exact hx3

theorem State.evalRecord_within {b : Bounds} {p0 p1 p2} (qevu : b.parts .evu) (qcues : b.parts .cues) (c2 : ∀ w0, b.regs (O14.ACTIONS w0)) (c3 : ∀ w0, b.regs (O14.CUE_FLAGS w0)) (c4 : ∀ k ∈ eventRegs 321, b.regs k) (c5 : ∀ w0, b.regs (O14.CE_STATUS w0)) (c6 : ∀ w0, b.regs (O14.LAST_ERROR w0)) (c7 : ∀ w0, b.regs (O14.ACTION_ERRORS w0)) (c8 : ∀ w0, b.regs (O16.GEN_RUN w0)) (c9 : ∀ w0, b.regs (O14.QUEUE_DEPTH w0)) (c10 : b.regs (O14.FIRED p1)) (c11 : ∀ k ∈ eventRegs 320, b.regs k) (c12 : ∀ k ∈ eventRegs 323, b.regs k) (c13 : ∀ w0, b.regs (O14.QUEUE_DROPS w0)) (c14 : ∀ k ∈ eventRegs 322, b.regs k) (c15 : b.regs (O14.DEFERRED p1)) (hp0 : Within b p0) : Within b (State.evalRecord p0 p1 p2) := by
  unfold State.evalRecord
  extract_lets -merge -useContext -underBinder x1
  have hx1 : Within b x1 := by
    unfold x1
    refine State.runDue_within qevu qcues c2 c3 c4 c5 c6 c7 c8 c9 ?_
    exact hp0
  try clear_value x1
  refine ite_elim (P := Within b) ?_ ?_
  · refine State.fireRecord_within qevu qcues c10 c11 (c2 _) (c3 _) c4 (c6 _) (c7 _) c8 c12 c5 c13 c9 c14 c15 ?_
    exact hx1
  · exact hx1

theorem State.deferRest_within {b : Bounds} {p0 p1} (qevu : b.parts .evu) (qcues : b.parts .cues) (c2 : ∀ k ∈ eventRegs 322, b.regs k) (c3 : b.regs (O14.CE_STATUS p1)) (c4 : b.regs (O14.DEFERRED p1)) (hp0 : Within b p0) : Within b (State.deferRest p0 p1) := by
  unfold State.deferRest
  extract_lets -merge -useContext -underBinder x1 x2
  have hx2 : Within b x2 := by
    unfold x2
    refine State.forEach_within ?_ ?_
    · exact hp0
    · intro u3 u4 hu3
      try beta_reduce
      refine State.deferAction_within qevu c2 c3 c4 ?_
      exact hu3
  try clear_value x2
  refine State.onCues_within qcues ?_
  exact hx2

theorem State.agePredictions_within {b : Bounds} {p0 p1} (qcues : b.parts .cues) (hp0 : Within b p0) : Within b (State.agePredictions p0 p1) := by
  unfold State.agePredictions
  refine State.onCues_within qcues ?_
  exact hp0

theorem State.evalEngine_within {b : Bounds} {p0 p1} (qevu : b.parts .evu) (qcues : b.parts .cues) (c2 : ∀ (w0 : ℕ), b.regs (O14.ACTIONS w0)) (c3 : ∀ (w0 : ℕ), b.regs (O14.CUE_FLAGS w0)) (c4 : ∀ k ∈ eventRegs 321, b.regs k) (c5 : ∀ (w0 : ℕ), b.regs (O14.CE_STATUS w0)) (c6 : ∀ (w0 : ℕ), b.regs (O14.LAST_ERROR w0)) (c7 : ∀ (w0 : ℕ), b.regs (O14.ACTION_ERRORS w0)) (c8 : ∀ (w0 : ℕ), b.regs (O16.GEN_RUN w0)) (c9 : ∀ (w0 : ℕ), b.regs (O14.QUEUE_DEPTH w0)) (c10 : b.regs (O14.FIRED p1)) (c11 : ∀ k ∈ eventRegs 320, b.regs k) (c12 : ∀ k ∈ eventRegs 323, b.regs k) (c13 : ∀ (w0 : ℕ), b.regs (O14.QUEUE_DROPS w0)) (c14 : ∀ k ∈ eventRegs 322, b.regs k) (c15 : b.regs (O14.DEFERRED p1)) (hp0 : Within b p0) : Within b (State.evalEngine p0 p1) := by
  unfold State.evalEngine
  extract_lets -merge -useContext -underBinder x1 x2 x3
  have hx1 : Within b x1 := by
    unfold x1
    refine State.runDue_within qevu qcues c2 c3 c4 c5 c6 c7 c8 c9 ?_
    exact hp0
  try clear_value x1
  have hx2 : Within b x2 := by
    unfold x2
    refine State.forEach_within ?_ ?_
    · exact hx1
    · intro u4 u5 hu6
      try beta_reduce
      refine State.evalRecord_within qevu qcues c2 c3 c4 c5 c6 c7 c8 c9 c10 c11 c12 c13 c14 c15 ?_
      exact hu6
  try clear_value x2
  have hx3 : Within b x3 := by
    unfold x3
    refine State.agePredictions_within qcues ?_
    refine State.deferRest_within qevu qcues c14 (c5 _) c15 ?_
    refine State.runDue_within qevu qcues c2 c3 c4 c5 c6 c7 c8 c9 ?_
    exact hx2
  try clear_value x3
  refine State.onCues_within qcues ?_
  exact hx3

theorem State.cueTick_within {b : Bounds} {p0} (qcues : b.parts .cues) (qevu : b.parts .evu) (c2 : ∀ (w0 : ℕ), b.regs (O14.ACTIONS w0)) (c3 : ∀ (w0 : ℕ), b.regs (O14.CUE_FLAGS w0)) (c4 : ∀ k ∈ eventRegs 321, b.regs k) (c5 : ∀ (w0 : ℕ), b.regs (O14.CE_STATUS w0)) (c6 : ∀ (w0 : ℕ), b.regs (O14.LAST_ERROR w0)) (c7 : ∀ (w0 : ℕ), b.regs (O14.ACTION_ERRORS w0)) (c8 : ∀ (w0 : ℕ), b.regs (O16.GEN_RUN w0)) (c9 : ∀ (w0 : ℕ), b.regs (O14.QUEUE_DEPTH w0)) (c10 : ∀ (w0 : ℕ), b.regs (O14.FIRED w0)) (c11 : ∀ k ∈ eventRegs 320, b.regs k) (c12 : ∀ k ∈ eventRegs 323, b.regs k) (c13 : ∀ (w0 : ℕ), b.regs (O14.QUEUE_DROPS w0)) (c14 : ∀ k ∈ eventRegs 322, b.regs k) (c15 : ∀ (w0 : ℕ), b.regs (O14.DEFERRED w0)) (hp0 : Within b p0) : Within b (State.cueTick p0) := by
  unfold State.cueTick
  refine ite_elim (P := Within b) ?_ ?_
  · exact hp0
  · refine State.forEach_within ?_ ?_
    · refine State.onCues_within qcues ?_
      exact hp0
    · intro u1 u2 hu3
      try beta_reduce
      refine ite_elim (P := Within b) ?_ ?_
      · refine State.evalEngine_within qevu qcues c2 c3 c4 c5 c6 c7 c8 c9 (c10 _) c11 c12 c13 c14 (c15 _) ?_
        exact hu3
      · refine State.onCues_within qcues ?_
        exact hu3

theorem State.cuesHold_within {b : Bounds} {p0} (c0 : ∀ w0, b.regs (O14.CE_STATE w0)) (hp0 : Within b p0) : Within b (State.cuesHold p0) := by
  unfold State.cuesHold
  refine State.forEach_within ?_ ?_
  · exact hp0
  · intro u1 u2 hu1
    try beta_reduce
    refine ite_elim (P := Within b) ?_ ?_
    · refine State.setN_within (c0 _) ?_
      exact hu1
    · exact hu1

theorem State.cuesRestart_within {b : Bounds} {p0} (qcues : b.parts .cues) (c1 : ∀ w0, b.regs (O14.CE_STATE w0)) (hp0 : Within b p0) : Within b (State.cuesRestart p0) := by
  unfold State.cuesRestart
  extract_lets -merge -useContext -underBinder x1
  have hx1 : Within b x1 := by
    unfold x1
    refine State.forEach_within ?_ ?_
    · exact hp0
    · intro u2 u3 hu2
      try beta_reduce
      refine ite_elim (P := Within b) ?_ ?_
      · refine State.setN_within (c1 _) ?_
        exact hu2
      · exact hu2
  try clear_value x1
  refine State.onCues_within qcues ?_
  exact hx1

theorem State.cuesStep_within {b : Bounds} {p0} (qcues : b.parts .cues) (hp0 : Within b p0) : Within b (State.cuesStep p0) := by
  unfold State.cuesStep
  refine State.forEach_within ?_ ?_
  · exact hp0
  · intro u1 u2 hu1
    try beta_reduce
    extract_lets -merge -useContext -underBinder x3
    refine State.setGen_within qcues ?_
    exact hu1

theorem State.universeSeam_within {b : Bounds} {p0 p1} (qevu : b.parts .evu) (qcues : b.parts .cues) (c2 : ∀ k ∈ eventRegs 339, b.regs k) (c3 : b.regs (O15.UNIV_FLAGS p1)) (c4 : b.regs (O15.UNIV_MERGED p1)) (c5 : b.regs (O15.WINNING_PRIORITY p1)) (c6 : b.regs (O15.UNIV_SOURCES p1)) (c7 : b.regs (O15.UNIV_STATE p1)) (c8 : b.regs (O15.OVERRIDES p1)) (c9 : b.regs (O15.UNIV_LEVELS p1)) (hp0 : Within b p0) : Within b (State.universeSeam p0 p1) := by
  unfold State.universeSeam
  extract_lets -merge -useContext -underBinder x1 x2 x3 x4 x5 x6 x7 x8 x9 x10 x11 x12
  have hx5 : Within b x5 := by
    unfold x5
    refine ite_elim (P := Within b) ?_ ?_
    · refine State.raise_within qevu c2 ?_
      refine State.flag_within c3 ?_
      exact hp0
    · exact hp0
  try clear_value x5
  have hx6 : Within b x6 := by
    unfold x6
    refine State.setBytes_within c4 ?_
    refine State.setN_within c5 ?_
    refine State.setN_within c6 ?_
    refine State.setN_within c7 ?_
    exact hx5
  try clear_value x6
  have hx12 : Within b x12 := by
    unfold x12
    refine State.onCues_within qcues ?_
    exact hx6
  try clear_value x12
  refine State.setN_within c8 ?_
  refine State.setBytes_within c9 ?_
  exact hx12

theorem State.darken_within {b : Bounds} {p0 p1} (qcues : b.parts .cues) (c1 : b.regs (O15.UNIV_LEVELS p1)) (c2 : b.regs (O15.UNIV_MERGED p1)) (c3 : b.regs (O15.WINNING_PRIORITY p1)) (c4 : b.regs (O15.UNIV_SOURCES p1)) (c5 : b.regs (O15.UNIV_STATE p1)) (hp0 : Within b p0) : Within b (State.darken p0 p1) := by
  unfold State.darken
  extract_lets -merge -useContext -underBinder x1
  have hx1 : Within b x1 := by
    unfold x1
    refine State.setBytes_within c1 ?_
    refine State.setBytes_within c2 ?_
    refine State.setN_within c3 ?_
    refine State.setN_within c4 ?_
    refine State.setN_within c5 ?_
    exact hp0
  try clear_value x1
  refine State.onCues_within qcues ?_
  exact hx1

theorem State.drivePin_within {b : Bounds} {p0 p1 p2} (qsent : b.parts .sent) (c1 : b.regs (O16.GPIO_LEVEL (256 + p1))) (hp0 : Within b p0) : Within b (State.drivePin p0 p1 p2) := by
  unfold State.drivePin
  refine ite_elim (P := Within b) ?_ ?_
  · exact hp0
  · refine State.pinOut_within qsent ?_
    refine State.setN_within c1 ?_
    exact hp0

theorem State.cueSeam_within {b : Bounds} {p0} (qcues : b.parts .cues) (qevu : b.parts .evu) (qsent : b.parts .sent) (c3 : ∀ (w0 : ℕ), b.regs (O14.CUE_FLAGS w0)) (c4 : ∀ k ∈ eventRegs 339, b.regs k) (c5 : ∀ (w0 : ℕ), b.regs (O15.UNIV_FLAGS w0)) (c6 : ∀ (w0 : ℕ), b.regs (O15.UNIV_MERGED w0)) (c7 : ∀ (w0 : ℕ), b.regs (O15.WINNING_PRIORITY w0)) (c8 : ∀ (w0 : ℕ), b.regs (O15.UNIV_SOURCES w0)) (c9 : ∀ (w0 : ℕ), b.regs (O15.UNIV_STATE w0)) (c10 : ∀ (w0 : ℕ), b.regs (O15.OVERRIDES w0)) (c11 : ∀ (w0 : ℕ), b.regs (O15.UNIV_LEVELS w0)) (c12 : ∀ (w0 : ℕ), b.regs (O16.GPIO_LEVEL w0)) (hp0 : Within b p0) : Within b (State.cueSeam p0) := by
  unfold State.cueSeam
  extract_lets -merge -useContext -underBinder x1 x2 x3 x4
  have hx1 : Within b x1 := by
    unfold x1
    refine State.forEach_within ?_ ?_
    · exact hp0
    · intro u5 u6 hu7
      try beta_reduce
      refine State.setN_within (c3 _) ?_
      exact hu7
  try clear_value x1
  have hx2 : Within b x2 := by
    unfold x2
    refine State.onCues_within qcues ?_
    exact hx1
  try clear_value x2
  have hx3 : Within b x3 := by
    unfold x3
    refine State.forEach_within ?_ ?_
    · exact hx2
    · intro u8 u9 hu10
      try beta_reduce
      refine State.universeSeam_within qevu qcues c4 (c5 _) (c6 _) (c7 _) (c8 _) (c9 _) (c10 _) (c11 _) ?_
      exact hu10
  try clear_value x3
  have hx4 : Within b x4 := by
    unfold x4
    refine State.onCues_within qcues ?_
    refine State.forEach_within ?_ ?_
    · exact hx3
    · intro u11 u12 hu13
      try beta_reduce
      refine State.drivePin_within qsent (c12 _) ?_
      exact hu13
  try clear_value x4
  refine ite_elim (P := Within b) ?_ ?_
  · refine State.onCues_within qcues ?_
    exact hx2
  · refine State.forEach_within ?_ ?_
    · exact hx4
    · intro u14 u15 hu16
      try beta_reduce
      refine State.drivePin_within qsent (c12 _) ?_
      exact hu16

theorem State.cancelPredictions_within {b : Bounds} {p0 p1} (qevu : b.parts .evu) (qcues : b.parts .cues) (c2 : ∀ k ∈ eventRegs 326, b.regs k) (c3 : ∀ w0, b.regs (O14.CE_STATUS w0)) (hp0 : Within b p0) : Within b (State.cancelPredictions p0 p1) := by
  unfold State.cancelPredictions
  extract_lets -merge -useContext -underBinder x1 x2
  have hx2 : Within b x2 := by
    unfold x2
    refine State.forEach_within ?_ ?_
    · exact hp0
    · intro u3 u4 hu3
      try beta_reduce
      refine State.raise_within qevu c2 ?_
      refine State.flag_within (c3 _) ?_
      exact hu3
  try clear_value x2
  refine State.onCues_within qcues ?_
  exact hx2

theorem State.setReader_within {b : Bounds} {p0 p1 p2} (qcues : b.parts .cues) (hp0 : Within b p0) : Within b (State.setReader p0 p1 p2) := by
  unfold State.setReader
  refine State.onCues_within qcues ?_
  exact hp0

theorem State.predictWord_within {b : Bounds} {p0 p1 p2 p3 p4 p5} (qcues : b.parts .cues) (hp0 : Within b p0) : Within b (State.predictWord p0 p1 p2 p3 p4 p5) := by
  unfold State.predictWord
  extract_lets -merge -useContext -underBinder x1 x2 x3
  refine ite_elim (P := Within b) ?_ ?_
  · refine State.forEach_within ?_ ?_
    · exact hp0
    · intro u4 u5 hu4
      try beta_reduce
      refine State.onCues_within qcues ?_
      exact hu4
  · exact hp0

theorem State.timecodeWord_within {b : Bounds} {p0 p1 p2 p3 p4 p5 p6 p7} (qevu : b.parts .evu) (qcues : b.parts .cues) (c2 : b.regs (O16.TC_BITS p1)) (c3 : b.regs (O16.TC_SPEED p1)) (c4 : b.regs (O16.TC_TICK p1)) (c5 : b.regs (O16.TC_USER p1)) (c6 : b.regs (O16.TC_VALUE p1)) (c7 : ∀ k ∈ eventRegs 352, b.regs k) (c8 : b.regs (O16.TC_STATE p1)) (c9 : ∀ k ∈ eventRegs 355, b.regs k) (c10 : b.regs (O16.TC_FLAGS p1)) (hp0 : Within b p0) : Within b (State.timecodeWord p0 p1 p2 p3 p4 p5 p6 p7) := by
  unfold State.timecodeWord
  extract_lets -merge -useContext -underBinder x1 x2 x3 x4 x5 x6 x7 x8 x9 x10 x11 x12
  have hx9 : Within b x9 := by
    unfold x9
    refine State.setReader_within qcues ?_
    exact hp0
  try clear_value x9
  have hx10 : Within b x10 := by
    unfold x10
    refine State.setN_within c2 ?_
    refine State.setZ_within c3 ?_
    refine State.setN_within c4 ?_
    refine State.setN_within c5 ?_
    refine State.setN_within c6 ?_
    exact hx9
  try clear_value x10
  have hx11 : Within b x11 := by
    unfold x11
    refine State.gather_within qcues ?_
    exact hx10
  try clear_value x11
  have hx12 : Within b x12 := by
    unfold x12
    refine ite_elim (P := Within b) ?_ ?_
    · refine ite_elim (P := Within b) ?_ ?_
      · refine State.raise_within qevu c7 ?_
        refine State.setN_within c8 ?_
        exact hx11
      · exact hx11
    · refine ite_elim (P := Within b) ?_ ?_
      · refine State.setN_within c8 ?_
        exact hx11
      · refine State.raise_within qevu c9 ?_
        refine State.flag_within c10 ?_
        refine State.setN_within c8 ?_
        exact hx11
  try clear_value x12
  refine ite_elim (P := Within b) ?_ ?_
  · exact hp0
  · refine ite_elim (P := Within b) ?_ ?_
    · exact hx12
    · refine State.predictWord_within qcues ?_
      exact hx12

theorem State.readerLost_within {b : Bounds} {p0 p1 p2} (qevu : b.parts .evu) (qcues : b.parts .cues) (c2 : b.regs (O16.TC_STATE p1)) (c3 : ∀ k ∈ eventRegs 326, b.regs k) (c4 : ∀ w0, b.regs (O14.CE_STATUS w0)) (c5 : ∀ k ∈ eventRegs 354, b.regs k) (c6 : b.regs (O16.TC_FLAGS p1)) (hp0 : Within b p0) : Within b (State.readerLost p0 p1 p2) := by
  unfold State.readerLost
  extract_lets -merge -useContext -underBinder x1 x2 x3
  have hx3 : Within b x3 := by
    unfold x3
    refine State.setReader_within qcues ?_
    refine State.setN_within c2 ?_
    exact hp0
  try clear_value x3
  refine ite_elim (P := Within b) ?_ ?_
  · refine State.cancelPredictions_within qevu qcues c3 c4 ?_
    refine State.raise_within qevu c5 ?_
    refine State.flag_within c6 ?_
    exact hx3
  · exact hx3

theorem State.freewheel_within {b : Bounds} {p0 p1} (qevu : b.parts .evu) (qcues : b.parts .cues) (c2 : b.regs (O16.TC_VALUE p1)) (c3 : ∀ k ∈ eventRegs 326, b.regs k) (c4 : ∀ w0, b.regs (O14.CE_STATUS w0)) (c5 : ∀ k ∈ eventRegs 353, b.regs k) (c6 : b.regs (O16.TC_FLAGS p1)) (c7 : b.regs (O16.TC_STATE p1)) (c8 : ∀ k ∈ eventRegs 354, b.regs k) (hp0 : Within b p0) : Within b (State.freewheel p0 p1) := by
  unfold State.freewheel
  extract_lets -merge -useContext -underBinder x1 x2 x3 x4 x5 x6 x7
  have hx6 : Within b x6 := by
    unfold x6
    refine State.setReader_within qcues ?_
    refine State.setN_within c2 ?_
    exact hp0
  try clear_value x6
  have hx7 : Within b x7 := by
    unfold x7
    refine ite_elim (P := Within b) ?_ ?_
    · refine State.cancelPredictions_within qevu qcues c3 c4 ?_
      refine State.raise_within qevu c5 ?_
      refine State.flag_within c6 ?_
      refine State.setN_within c7 ?_
      exact hx6
    · exact hx6
  try clear_value x7
  refine ite_elim (P := Within b) ?_ ?_
  · exact hp0
  · refine ite_elim (P := Within b) ?_ ?_
    · refine State.readerLost_within qevu qcues c7 c3 c4 c8 c6 ?_
      exact hx7
    · exact hx7

theorem State.setGenState_within {b : Bounds} {p0 p1 p2} (qevu : b.parts .evu) (c1 : ∀ k ∈ eventRegs 356, b.regs k) (c2 : b.regs (O16.GEN_STATE (16 + p1))) (hp0 : Within b p0) : Within b (State.setGenState p0 p1 p2) := by
  unfold State.setGenState
  refine ite_elim (P := Within b) ?_ ?_
  · exact hp0
  · refine State.raise_within qevu c1 ?_
    refine State.setN_within c2 ?_
    exact hp0

theorem State.genSend_within {b : Bounds} {p0 p1 p2} (qsent : b.parts .sent) (qevu : b.parts .evu) (c2 : ∀ k ∈ eventRegs 356, b.regs k) (c3 : b.regs (O16.GEN_STATE (16 + p1))) (c4 : b.regs (O16.GEN_VALUE (16 + p1))) (hp0 : Within b p0) : Within b (State.genSend p0 p1 p2) := by
  unfold State.genSend
  refine State.emit_within qsent ?_
  refine State.setGenState_within qevu c2 c3 ?_
  refine State.setN_within c4 ?_
  exact hp0

theorem State.genWord_within {b : Bounds} {p0 p1} (qsent : b.parts .sent) (qevu : b.parts .evu) (qcues : b.parts .cues) (c3 : ∀ k ∈ eventRegs 356, b.regs k) (c4 : b.regs (O16.GEN_STATE (16 + p1))) (c5 : b.regs (O16.GEN_VALUE (16 + p1))) (c6 : ∀ k ∈ eventRegs 357, b.regs k) (hp0 : Within b p0) : Within b (State.genWord p0 p1) := by
  unfold State.genWord
  extract_lets -merge -useContext -underBinder x1 x2 x3 x4
  split
  · extract_lets -merge -useContext -underBinder x5
    refine ite_elim (P := Within b) ?_ ?_
    · refine State.genSend_within qsent qevu c3 c4 c5 ?_
      refine State.setGen_within qcues ?_
      exact hp0
    · refine State.setGenState_within qevu c3 c4 ?_
      refine State.setGen_within qcues ?_
      exact hp0
  · extract_lets -merge -useContext -underBinder x6 x7 x8 x9 x10 x11 x12
    have hx11 : Within b x11 := by
      unfold x11
      refine State.setGen_within qcues ?_
      exact hp0
    try clear_value x11
    have hx12 : Within b x12 := by
      unfold x12
      refine ite_elim (P := Within b) ?_ ?_
      · refine State.raise_within qevu c6 ?_
        exact hx11
      · exact hx11
    try clear_value x12
    refine ite_elim (P := Within b) ?_ ?_
    · refine State.setGenState_within qevu c3 c4 ?_
      refine State.setGen_within qcues ?_
      exact hp0
    · refine State.genSend_within qsent qevu c3 c4 c5 ?_
      exact hx12
  · extract_lets -merge -useContext -underBinder x13 x14
    have hx14 : Within b x14 := by
      unfold x14
      refine State.setGen_within qcues ?_
      exact hp0
    try clear_value x14
    refine ite_elim (P := Within b) ?_ ?_
    · refine State.genSend_within qsent qevu c3 c4 c5 ?_
      exact hx14
    · refine State.setGenState_within qevu c3 c4 ?_
      exact hx14
  · exact hp0

theorem State.discoveryPacket_within {b : Bounds} {p0 p1} (qevu : b.parts .evu) (qcues : b.parts .cues) (c2 : ∀ k ∈ eventRegs 343, b.regs k) (c3 : b.regs O15.DISC_COUNT) (hp0 : Within b p0) : Within b (State.discoveryPacket p0 p1) := by
  unfold State.discoveryPacket
  extract_lets -merge -useContext -underBinder x1 x2 x3
  have hx3 : Within b x3 := by
    unfold x3
    refine ite_elim (P := Within b) ?_ ?_
    · refine State.onCues_within qcues ?_
      exact hp0
    · refine ite_elim (P := Within b) ?_ ?_
      · refine State.raise_within qevu c2 ?_
        exact hp0
      · refine State.onCues_within qcues ?_
        exact hp0
  try clear_value x3
  refine State.setN_within c3 ?_
  exact hx3

theorem State.sacnPacket_within {b : Bounds} {p0 p1} (qevu : b.parts .evu) (qcues : b.parts .cues) (c2 : ∀ k ∈ eventRegs 343, b.regs k) (c3 : b.regs O15.DISC_COUNT) (c4 : ∀ w0, b.regs (O15.PKTS_IN w0)) (c5 : ∀ w0, b.regs (O15.UNIV_FLAGS w0)) (c6 : ∀ w0, b.regs (O15.PKTS_DISCARDED w0)) (c7 : ∀ k ∈ eventRegs 338, b.regs k) (c8 : ∀ k ∈ eventRegs 336, b.regs k) (hp0 : Within b p0) : Within b (State.sacnPacket p0 p1) := by
  unfold State.sacnPacket
  extract_lets -merge -useContext -underBinder x1
  refine ite_elim (P := Within b) ?_ ?_
  · refine ite_elim (P := Within b) ?_ ?_
    · exact hp0
    · refine State.discoveryPacket_within qevu qcues c2 c3 ?_
      exact hp0
  · split
    · exact hp0
    · extract_lets -merge -useContext -underBinder x2 x3 x4 x5 x6 x7
      have hx5 : ∀ a0, Within b (x5 a0) := by
        unfold x5
        intro u8
        try beta_reduce
        refine State.onCues_within qcues ?_
        exact hp0
      try clear_value x5
      have hx7 : Within b x7 := by
        unfold x7
        refine State.bump_within (c4 _) ?_
        refine hx5 _
      try clear_value x7
      refine ite_elim (P := Within b) ?_ ?_
      · refine State.flag_within (c5 _) ?_
        refine State.bump_within (c6 _) ?_
        exact hp0
      · refine ite_elim (P := Within b) ?_ ?_
        · exact hp0
        · refine ite_elim (P := Within b) ?_ ?_
          · refine State.flag_within (c5 _) ?_
            exact hp0
          · refine ite_elim (P := Within b) ?_ ?_
            · refine State.raise_within qevu c7 ?_
              refine State.flag_within (c5 _) ?_
              exact hp0
            · refine ite_elim (P := Within b) ?_ ?_
              · refine hx5 _
              · refine ite_elim (P := Within b) ?_ ?_
                · refine State.raise_within qevu c8 ?_
                  refine State.flag_within (c5 _) ?_
                  exact hx7
                · exact hx7

theorem State.dataUnit_within {b : Bounds} {p0 p1 p2} (qnet : b.parts .net) (hp0 : Within b p0) : Within b (State.dataUnit p0 p1 p2) := by
  unfold State.dataUnit
  extract_lets -merge -useContext -underBinder x1
  refine Within.f_net (s := p0) qnet ?_
  exact hp0

theorem State.sacnSend_within {b : Bounds} {p0 p1 p2 p3} (qcues : b.parts .cues) (qnet : b.parts .net) (qsent : b.parts .sent) (c3 : b.regs (O15.PKTS_OUT p1)) (hp0 : Within b p0) : Within b (State.sacnSend p0 p1 p2 p3) := by
  unfold State.sacnSend
  extract_lets -merge -useContext -underBinder x1 x2 x3 x4
  have hx2 : Within b x2 := by
    unfold x2
    refine State.onCues_within qcues ?_
    exact hp0
  try clear_value x2
  have hx4 : Within b x4 := by
    unfold x4
    refine State.dataUnit_within qnet ?_
    exact hx2
  try clear_value x4
  refine State.emit_within qsent ?_
  refine State.bump_within c3 ?_
  exact hx4

theorem State.sacnTransmit_within {b : Bounds} {p0 p1} (qcues : b.parts .cues) (qnet : b.parts .net) (qsent : b.parts .sent) (c3 : b.regs (O15.PKTS_OUT p1)) (hp0 : Within b p0) : Within b (State.sacnTransmit p0 p1) := by
  unfold State.sacnTransmit
  split
  · exact hp0
  · extract_lets -merge -useContext -underBinder x1
    refine ite_elim (P := Within b) ?_ ?_
    · exact hp0
    · refine ite_elim (P := Within b) ?_ ?_
      · refine ite_elim (P := Within b) ?_ ?_
        · refine State.sacnSend_within qcues qnet qsent c3 ?_
          exact hp0
        · exact hp0
      · refine ite_elim (P := Within b) ?_ ?_
        · refine State.sacnSend_within qcues qnet qsent c3 ?_
          exact hp0
        · exact hp0

theorem State.discoverySend_within {b : Bounds} {p0} (qcues : b.parts .cues) (qsent : b.parts .sent) (qnet : b.parts .net) (hp0 : Within b p0) : Within b (State.discoverySend p0) := by
  unfold State.discoverySend
  extract_lets -merge -useContext -underBinder x1 x2 x3 x4
  refine ite_elim (P := Within b) ?_ ?_
  · exact hp0
  · refine State.onCues_within qcues ?_
    refine State.forEach_within ?_ ?_
    · exact hp0
    · intro u5 u6 hu7
      try beta_reduce
      refine State.emit_within qsent ?_
      refine State.dataUnit_within qnet ?_
      exact hu7

theorem State.univTxApplied_within {b : Bounds} {p0 p1} (qcues : b.parts .cues) (hp0 : Within b p0) : Within b (State.univTxApplied p0 p1) := by
  unfold State.univTxApplied
  split
  · refine State.onCues_within qcues ?_
    exact hp0
  · refine State.onCues_within qcues ?_
    exact hp0
  · refine State.onCues_within qcues ?_
    exact hp0
  · exact hp0

theorem State.engineApplied_within {b : Bounds} {p0 p1} (c0 : b.regs (O14.CE_STATE (Sys2Proof.Machine.instOf p1))) (hp0 : Within b p0) : Within b (State.engineApplied p0 p1) := by
  unfold State.engineApplied
  extract_lets -merge -useContext -underBinder x1
  refine ite_elim (P := Within b) ?_ ?_
  · exact hp0
  · refine State.setN_within c0 ?_
    exact hp0

theorem State.lightApplied_within {b : Bounds} {p0 p1} (qcues : b.parts .cues) (c1 : b.regs (O15.UNIV_LEVELS (Sys2Proof.Machine.instOf p1))) (c2 : b.regs (O15.UNIV_MERGED (Sys2Proof.Machine.instOf p1))) (c3 : b.regs (O15.WINNING_PRIORITY (Sys2Proof.Machine.instOf p1))) (c4 : b.regs (O15.UNIV_SOURCES (Sys2Proof.Machine.instOf p1))) (c5 : b.regs (O15.UNIV_STATE (Sys2Proof.Machine.instOf p1))) (c6 : b.regs (O15.DMX_STATE (Sys2Proof.Machine.instOf p1))) (hp0 : Within b p0) : Within b (State.lightApplied p0 p1) := by
  unfold State.lightApplied
  extract_lets -merge -useContext -underBinder x1 x2 x3
  have hx2 : Within b x2 := by
    unfold x2
    refine ite_elim (P := Within b) ?_ ?_
    · refine State.darken_within qcues c1 c2 c3 c4 c5 ?_
      exact hp0
    · exact hp0
  try clear_value x2
  have hx3 : Within b x3 := by
    unfold x3
    refine State.onCues_within qcues ?_
    exact hp0
  try clear_value x3
  refine ite_elim (P := Within b) ?_ ?_
  · refine ite_elim (P := Within b) ?_ ?_
    · refine State.univTxApplied_within qcues ?_
      exact hx2
    · exact hx2
  · refine ite_elim (P := Within b) ?_ ?_
    · refine State.setN_within c6 ?_
      exact hx3
    · exact hp0

theorem State.showApplied_within {b : Bounds} {p0 p1} (qcues : b.parts .cues) (qevu : b.parts .evu) (qsent : b.parts .sent) (c3 : ∀ k ∈ eventRegs 326, b.regs k) (c4 : ∀ (w0 : ℕ), b.regs (O14.CE_STATUS w0)) (c5 : b.regs (O16.TC_STATE (instOf p1))) (c6 : ∀ k ∈ eventRegs 356, b.regs k) (c7 : b.regs (O16.GEN_STATE (16 + (instOf p1 - 16)))) (c8 : b.regs (O16.GPIO_LEVEL (instOf p1))) (hp0 : Within b p0) : Within b (State.showApplied p0 p1) := by
  unfold State.showApplied
  extract_lets -merge -useContext -underBinder x1 x2 x3 x4 x5 x6
  have hx3 : Within b x3 := by
    unfold x3
    refine State.setGen_within qcues ?_
    exact hp0
  try clear_value x3
  have hx6 : Within b x6 := by
    unfold x6
    refine State.onCues_within qcues ?_
    exact hp0
  try clear_value x6
  refine ite_elim (P := Within b) ?_ ?_
  · refine ite_elim (P := Within b) ?_ ?_
    · refine State.cancelPredictions_within qevu qcues c3 c4 ?_
      refine State.setN_within c5 ?_
      exact hp0
    · exact hp0
  · refine ite_elim (P := Within b) ?_ ?_
    · refine ite_elim (P := Within b) ?_ ?_
      · refine State.setGenState_within qevu c6 c7 ?_
        exact hx3
      · refine ite_elim (P := Within b) ?_ ?_
        · refine State.setGen_within qcues ?_
          exact hp0
        · exact hp0
    · refine ite_elim (P := Within b) ?_ ?_
      · split
        · refine State.pinOut_within qsent ?_
          refine State.setN_within c8 ?_
          exact hx6
        · refine State.pinOut_within qsent ?_
          refine State.setN_within c8 ?_
          exact hx6
        · refine State.emit_within qsent ?_
          exact hx6
      · refine ite_elim (P := Within b) ?_ ?_
        · refine State.pinOut_within qsent ?_
          exact hp0
        · exact hp0

theorem State.cuesApplied_within {b : Bounds} {p0 p1} (qcues : b.parts .cues) (qevu : b.parts .evu) (qsent : b.parts .sent) (c3 : b.regs (O14.CE_STATE (instOf p1))) (c4 : b.regs (O15.UNIV_LEVELS (instOf p1))) (c5 : b.regs (O15.UNIV_MERGED (instOf p1))) (c6 : b.regs (O15.WINNING_PRIORITY (instOf p1))) (c7 : b.regs (O15.UNIV_SOURCES (instOf p1))) (c8 : b.regs (O15.UNIV_STATE (instOf p1))) (c9 : b.regs (O15.DMX_STATE (instOf p1))) (c10 : ∀ k ∈ eventRegs 326, b.regs k) (c11 : ∀ (w0 : ℕ), b.regs (O14.CE_STATUS w0)) (c12 : b.regs (O16.TC_STATE (instOf p1))) (c13 : ∀ k ∈ eventRegs 356, b.regs k) (c14 : b.regs (O16.GEN_STATE (16 + (instOf p1 - 16)))) (c15 : b.regs (O16.GPIO_LEVEL (instOf p1))) (hp0 : Within b p0) : Within b (State.cuesApplied p0 p1) := by
  unfold State.cuesApplied
  refine ite_elim (P := Within b) ?_ ?_
  · refine State.engineApplied_within c3 ?_
    exact hp0
  · refine ite_elim (P := Within b) ?_ ?_
    · refine State.lightApplied_within qcues c4 c5 c6 c7 c8 c9 ?_
      exact hp0
    · refine ite_elim (P := Within b) ?_ ?_
      · refine State.showApplied_within qcues qevu qsent c10 c11 c12 c13 c14 c15 ?_
        exact hp0
      · exact hp0

theorem State.atcWord_within {b : Bounds} {p0 p1 p2 p3} (qcues : b.parts .cues) (qevu : b.parts .evu) (c2 : b.regs (O16.TC_STATE p1)) (c3 : b.regs (O16.TC_BITS p1)) (c4 : b.regs (O16.TC_SPEED p1)) (c5 : b.regs (O16.TC_TICK p1)) (c6 : b.regs (O16.TC_USER p1)) (c7 : b.regs (O16.TC_VALUE p1)) (c8 : ∀ k ∈ eventRegs 352, b.regs k) (c9 : ∀ k ∈ eventRegs 355, b.regs k) (c10 : b.regs (O16.TC_FLAGS p1)) (hp0 : Within b p0) : Within b (State.atcWord p0 p1 p2 p3) := by
  unfold State.atcWord
  extract_lets -merge -useContext -underBinder x1 x2 x3 x4 x5 x6 x7 x8 x9 x10 x11 x12 x13
  have hx2 : Within b x2 := by
    unfold x2
    refine ite_elim (P := Within b) ?_ ?_
    · refine State.setReader_within qcues ?_
      refine State.setN_within c2 ?_
      exact hp0
    · refine State.setReader_within qcues ?_
      exact hp0
  try clear_value x2
  refine ite_elim (P := Within b) ?_ ?_
  · exact hx2
  · refine State.timecodeWord_within qevu qcues c3 c4 c5 c6 c7 c8 c2 c9 c10 ?_
    exact hx2

theorem State.ancJoin_within {b : Bounds} {p0 p1 p2 p3 p4 p5 p6} (qinputs : b.parts .inputs) (qfabric : b.parts .fabric) (qevu : b.parts .evu) (c3 : ∀ k ∈ eventRegs 104, b.regs k) (c4 : b.regs (O06.ANC_DROPPED p1)) (c5 : b.regs (O06.IN_FLAGS p1)) (hp0 : Within b p0) : Within b (State.ancJoin p0 p1 p2 p3 p4 p5 p6) := by
  unfold State.ancJoin
  extract_lets -merge -useContext -underBinder x1 x2 x3
  have hx1 : Within b x1 := by
    unfold x1
    refine ite_elim (P := Within b) ?_ ?_
    · exact hp0
    · refine State.ancFlush_within qinputs qfabric qevu c3 c4 ?_
      exact hp0
  try clear_value x1
  refine ite_elim (P := Within b) ?_ ?_
  · refine ite_elim (P := Within b) ?_ ?_
    · refine State.raise_within qevu c3 ?_
      refine State.flag_within c5 ?_
      refine State.bump_within c4 ?_
      exact hx1
    · exact hx1
  · refine State.setInput_within qinputs ?_
    exact hx1

theorem State.ancInput_within {b : Bounds} {p0 p1 p2 p3 p4 p5 p6 p7} (qevu : b.parts .evu) (qcues : b.parts .cues) (qinputs : b.parts .inputs) (qfabric : b.parts .fabric) (c4 : b.regs (O06.IN_FLAGS p1)) (c5 : b.regs (O06.ANC_CHECKSUM_ERR p1)) (c6 : ∀ k ∈ eventRegs 103, b.regs k) (c7 : ∀ (w0 : ℕ), b.regs (O16.TC_STATE w0)) (c8 : ∀ (w0 : ℕ), b.regs (O16.TC_BITS w0)) (c9 : ∀ (w0 : ℕ), b.regs (O16.TC_SPEED w0)) (c10 : ∀ (w0 : ℕ), b.regs (O16.TC_TICK w0)) (c11 : ∀ (w0 : ℕ), b.regs (O16.TC_USER w0)) (c12 : ∀ (w0 : ℕ), b.regs (O16.TC_VALUE w0)) (c13 : ∀ k ∈ eventRegs 352, b.regs k) (c14 : ∀ k ∈ eventRegs 355, b.regs k) (c15 : ∀ (w0 : ℕ), b.regs (O16.TC_FLAGS w0)) (c16 : ∀ k ∈ eventRegs 104, b.regs k) (c17 : b.regs (O06.ANC_DROPPED p1)) (hp0 : Within b p0) : Within b (State.ancInput p0 p1 p2 p3 p4 p5 p6 p7) := by
  unfold State.ancInput
  extract_lets -merge -useContext -underBinder x1 x2 x3 x4 x5 x6 x7
  have hx5 : Within b x5 := by
    unfold x5
    refine State.flag_within c4 ?_
    refine State.bump_within c5 ?_
    exact hp0
  try clear_value x5
  have hx6 : Within b x6 := by
    unfold x6
    refine ite_elim (P := Within b) ?_ ?_
    · exact hp0
    · refine State.raise_within qevu c6 ?_
      exact hx5
  try clear_value x6
  have hx7 : Within b x7 := by
    unfold x7
    refine ite_elim (P := Within b) ?_ ?_
    · refine State.forEach_within ?_ ?_
      · exact hx6
      · intro u8 u9 hu10
        try beta_reduce
        refine State.atcWord_within qcues qevu (c7 _) (c8 _) (c9 _) (c10 _) (c11 _) (c12 _) c13 c14 (c15 _) ?_
        exact hu10
    · exact hx6
  try clear_value x7
  refine ite_elim (P := Within b) ?_ ?_
  · exact hx5
  · refine ite_elim (P := Within b) ?_ ?_
    · exact hx7
    · refine State.ancJoin_within qinputs qfabric qevu c16 c17 c4 ?_
      exact hx7

theorem State.ancReceiver_within {b : Bounds} {p0 p1 p2 p3 p4 p5 p6 p7} (qinputs : b.parts .inputs) (qfabric : b.parts .fabric) (qevu : b.parts .evu) (c3 : ∀ k ∈ eventRegs 104, b.regs k) (c4 : b.regs (O06.ANC_DROPPED p1)) (c5 : b.regs (O06.IN_FLAGS p1)) (hp0 : Within b p0) : Within b (State.ancReceiver p0 p1 p2 p3 p4 p5 p6 p7) := by
  unfold State.ancReceiver
  extract_lets -merge -useContext -underBinder x1
  refine ite_elim (P := Within b) ?_ ?_
  · exact hp0
  · refine State.ancJoin_within qinputs qfabric qevu c3 c4 c5 ?_
    exact hp0

theorem execAncPacket_within {b : Bounds} {p0 p1 p2 p3 p4 p5 p6} (qinputs : b.parts .inputs) (qfabric : b.parts .fabric) (qevu : b.parts .evu) (qcues : b.parts .cues) (c4 : ∀ k ∈ eventRegs 104, b.regs k) (c5 : b.regs (O06.ANC_DROPPED p0)) (c6 : b.regs (O06.IN_FLAGS p0)) (c7 : b.regs (O06.ANC_CHECKSUM_ERR p0)) (c8 : ∀ k ∈ eventRegs 103, b.regs k) (c9 : ∀ (w0 : ℕ), b.regs (O16.TC_STATE w0)) (c10 : ∀ (w0 : ℕ), b.regs (O16.TC_BITS w0)) (c11 : ∀ (w0 : ℕ), b.regs (O16.TC_SPEED w0)) (c12 : ∀ (w0 : ℕ), b.regs (O16.TC_TICK w0)) (c13 : ∀ (w0 : ℕ), b.regs (O16.TC_USER w0)) (c14 : ∀ (w0 : ℕ), b.regs (O16.TC_VALUE w0)) (c15 : ∀ k ∈ eventRegs 352, b.regs k) (c16 : ∀ k ∈ eventRegs 355, b.regs k) (c17 : ∀ (w0 : ℕ), b.regs (O16.TC_FLAGS w0)) (hp6 : Within b p6) : WithinOut b (execAncPacket p0 p1 p2 p3 p4 p5 p6) := by
  unfold execAncPacket
  refine live_within ?_ ?_
  · exact hp6
  · intro u1 hu2
    try beta_reduce
    extract_lets -merge -useContext -underBinder x3
    refine ite_elim (P := Within b) ?_ ?_
    · exact hu2
    · refine ite_elim (P := Within b) ?_ ?_
      · refine State.ancReceiver_within qinputs qfabric qevu c4 c5 c6 ?_
        exact hu2
      · refine ite_elim (P := Within b) ?_ ?_
        · refine State.ancInput_within qevu qcues qinputs qfabric c6 c7 c8 c9 c10 c11 c12 c13 c14 c15 c16 c17 c4 c5 ?_
          exact hu2
        · exact hu2

theorem execCueActionExecute_within {b : Bounds} {p0 p1} (qevu : b.parts .evu) (qcues : b.parts .cues) (c2 : ∀ w0, b.regs (O14.ACTIONS w0)) (c3 : ∀ w0, b.regs (O14.CUE_FLAGS w0)) (c4 : ∀ k ∈ eventRegs 321, b.regs k) (c5 : ∀ w0, b.regs (O14.CE_STATUS w0)) (c6 : ∀ w0, b.regs (O14.LAST_ERROR w0)) (c7 : ∀ w0, b.regs (O14.ACTION_ERRORS w0)) (c8 : ∀ w0, b.regs (O16.GEN_RUN w0)) (c9 : ∀ w0, b.regs (O14.QUEUE_DEPTH w0)) (hp1 : Within b p1) : WithinOut b (execCueActionExecute p0 p1) := by
  unfold execCueActionExecute
  refine onInst_within ?_ ?_
  · exact hp1
  · intro u1 hu1
    try beta_reduce
    refine ite_elim (P := Within b) ?_ ?_
    · exact hu1
    · split
      · refine State.runQueued_within qevu qcues (c2 _) (c3 _) c4 (c5 _) (c6 _) (c7 _) c8 (c9 _) ?_
        exact hu1
      · exact hu1

theorem State.actNow_within {b : Bounds} {p0 p1 p2 p3} (qevu : b.parts .evu) (qcues : b.parts .cues) (c2 : b.regs (O14.ACTIONS p1)) (c3 : b.regs (O14.CUE_FLAGS p1)) (c4 : ∀ k ∈ eventRegs 321, b.regs k) (c5 : b.regs (O14.CE_STATUS p1)) (c6 : b.regs (O14.LAST_ERROR p1)) (c7 : b.regs (O14.ACTION_ERRORS p1)) (c8 : ∀ (w0 : ℕ), b.regs (O16.GEN_RUN w0)) (hp0 : Within b p0) : Within b (State.actNow p0 p1 p2 p3) := by
  unfold State.actNow
  extract_lets -merge -useContext -underBinder x1
  refine ite_elim (P := Within b) ?_ ?_
  · refine State.runAction_within qevu qcues c2 c3 c4 c5 c6 c7 c8 ?_
    exact hp0
  · exact hp0

theorem execCueActionNone_within {b : Bounds} {p0 p1 p2} (qevu : b.parts .evu) (qcues : b.parts .cues) (c2 : b.regs (O14.ACTIONS p0)) (c3 : b.regs (O14.CUE_FLAGS p0)) (c4 : ∀ k ∈ eventRegs 321, b.regs k) (c5 : b.regs (O14.CE_STATUS p0)) (c6 : b.regs (O14.LAST_ERROR p0)) (c7 : b.regs (O14.ACTION_ERRORS p0)) (c8 : ∀ (w0 : ℕ), b.regs (O16.GEN_RUN w0)) (hp2 : Within b p2) : WithinOut b (execCueActionNone p0 p1 p2) := by
  unfold execCueActionNone
  refine onInst_within ?_ ?_
  · exact hp2
  · intro u1 hu2
    try beta_reduce
    refine State.actNow_within qevu qcues c2 c3 c4 c5 c6 c7 c8 ?_
    exact hu2

theorem execCueActionFlags_within {b : Bounds} {p0 p1 p2} (qevu : b.parts .evu) (qcues : b.parts .cues) (c2 : b.regs (O14.ACTIONS p0)) (c3 : b.regs (O14.CUE_FLAGS p0)) (c4 : ∀ k ∈ eventRegs 321, b.regs k) (c5 : b.regs (O14.CE_STATUS p0)) (c6 : b.regs (O14.LAST_ERROR p0)) (c7 : b.regs (O14.ACTION_ERRORS p0)) (c8 : ∀ (w0 : ℕ), b.regs (O16.GEN_RUN w0)) (hp2 : Within b p2) : WithinOut b (execCueActionFlags p0 p1 p2) := by
  unfold execCueActionFlags
  refine onInst_within ?_ ?_
  · exact hp2
  · intro u1 hu2
    try beta_reduce
    refine State.actNow_within qevu qcues c2 c3 c4 c5 c6 c7 c8 ?_
    exact hu2

theorem execCueActionFade_within {b : Bounds} {p0 p1 p2} (qevu : b.parts .evu) (qcues : b.parts .cues) (c2 : b.regs (O14.ACTIONS p0)) (c3 : b.regs (O14.CUE_FLAGS p0)) (c4 : ∀ k ∈ eventRegs 321, b.regs k) (c5 : b.regs (O14.CE_STATUS p0)) (c6 : b.regs (O14.LAST_ERROR p0)) (c7 : b.regs (O14.ACTION_ERRORS p0)) (c8 : ∀ (w0 : ℕ), b.regs (O16.GEN_RUN w0)) (hp2 : Within b p2) : WithinOut b (execCueActionFade p0 p1 p2) := by
  unfold execCueActionFade
  refine onInst_within ?_ ?_
  · exact hp2
  · intro u1 hu2
    try beta_reduce
    refine State.actNow_within qevu qcues c2 c3 c4 c5 c6 c7 c8 ?_
    exact hu2

theorem execCueActionGpio_within {b : Bounds} {p0 p1 p2} (qevu : b.parts .evu) (qcues : b.parts .cues) (c2 : b.regs (O14.ACTIONS p0)) (c3 : b.regs (O14.CUE_FLAGS p0)) (c4 : ∀ k ∈ eventRegs 321, b.regs k) (c5 : b.regs (O14.CE_STATUS p0)) (c6 : b.regs (O14.LAST_ERROR p0)) (c7 : b.regs (O14.ACTION_ERRORS p0)) (c8 : ∀ (w0 : ℕ), b.regs (O16.GEN_RUN w0)) (hp2 : Within b p2) : WithinOut b (execCueActionGpio p0 p1 p2) := by
  unfold execCueActionGpio
  refine onInst_within ?_ ?_
  · exact hp2
  · intro u1 hu2
    try beta_reduce
    refine State.actNow_within qevu qcues c2 c3 c4 c5 c6 c7 c8 ?_
    exact hu2

theorem execCueActionTimecode_within {b : Bounds} {p0 p1 p2} (qevu : b.parts .evu) (qcues : b.parts .cues) (c2 : b.regs (O14.ACTIONS p0)) (c3 : b.regs (O14.CUE_FLAGS p0)) (c4 : ∀ k ∈ eventRegs 321, b.regs k) (c5 : b.regs (O14.CE_STATUS p0)) (c6 : b.regs (O14.LAST_ERROR p0)) (c7 : b.regs (O14.ACTION_ERRORS p0)) (c8 : ∀ (w0 : ℕ), b.regs (O16.GEN_RUN w0)) (hp2 : Within b p2) : WithinOut b (execCueActionTimecode p0 p1 p2) := by
  unfold execCueActionTimecode
  refine onInst_within ?_ ?_
  · exact hp2
  · intro u1 hu2
    try beta_reduce
    refine State.actNow_within qevu qcues c2 c3 c4 c5 c6 c7 c8 ?_
    exact hu2

theorem execGpioPulseEnd_within {b : Bounds} {p0 p1} (qcues : b.parts .cues) (hp1 : Within b p1) : WithinOut b (execGpioPulseEnd p0 p1) := by
  unfold execGpioPulseEnd
  refine onInst_within ?_ ?_
  · exact hp1
  · intro u1 hu1
    try beta_reduce
    split
    · refine ite_elim (P := Within b) ?_ ?_
      · refine State.onCues_within qcues ?_
        refine State.setPin_within qcues ?_
        exact hu1
      · exact hu1
    · exact hu1

theorem execCueFire_within {b : Bounds} {p0 p1 p2} (qcues : b.parts .cues) (hp2 : Within b p2) : WithinOut b (execCueFire p0 p1 p2) := by
  unfold execCueFire
  refine onInst_within ?_ ?_
  · exact hp2
  · intro u1 hu1
    try beta_reduce
    refine ite_elim (P := Within b) ?_ ?_
    · change Within1 b _
      refine State.actCueFire_within qcues ?_
      exact hu1
    · exact hu1

theorem execCeRearm_within {b : Bounds} {p0 p1 p2} (qcues : b.parts .cues) (hp2 : Within b p2) : WithinOut b (execCeRearm p0 p1 p2) := by
  unfold execCeRearm
  refine onInst_within ?_ ?_
  · exact hp2
  · intro u1 hu1
    try beta_reduce
    refine ite_elim (P := Within b) ?_ ?_
    · change Within1 b _
      refine State.actRearm_within qcues ?_
      exact hu1
    · exact hu1

theorem execCueFlags_within {b : Bounds} {p0 p1 p2} (qcues : b.parts .cues) (hp2 : Within b p2) : WithinOut b (execCueFlags p0 p1 p2) := by
  unfold execCueFlags
  refine onInst_within ?_ ?_
  · exact hp2
  · intro u1 hu1
    try beta_reduce
    refine ite_elim (P := Within b) ?_ ?_
    · refine State.writeCueFlags_within qcues ?_
      exact hu1
    · exact hu1

theorem execSacnPacket_within {b : Bounds} {p0 p1 p2} (qevu : b.parts .evu) (qcues : b.parts .cues) (c2 : ∀ k ∈ eventRegs 343, b.regs k) (c3 : b.regs O15.DISC_COUNT) (c4 : ∀ w0, b.regs (O15.PKTS_IN w0)) (c5 : ∀ w0, b.regs (O15.UNIV_FLAGS w0)) (c6 : ∀ w0, b.regs (O15.PKTS_DISCARDED w0)) (c7 : ∀ k ∈ eventRegs 338, b.regs k) (c8 : ∀ k ∈ eventRegs 336, b.regs k) (hp2 : Within b p2) : WithinOut b (execSacnPacket p0 p1 p2) := by
  unfold execSacnPacket
  refine onInst_within ?_ ?_
  · exact hp2
  · intro u1 hu1
    try beta_reduce
    refine ite_elim (P := Within b) ?_ ?_
    · exact hu1
    · refine State.sacnPacket_within qevu qcues c2 c3 c4 c5 c6 c7 c8 ?_
      exact hu1

theorem execSacnSourceTimeout_within {b : Bounds} {p0 p1 p2} (qevu : b.parts .evu) (qcues : b.parts .cues) (c2 : ∀ k ∈ eventRegs 337, b.regs k) (c3 : b.regs (O15.UNIV_FLAGS p0)) (hp2 : Within b p2) : WithinOut b (execSacnSourceTimeout p0 p1 p2) := by
  unfold execSacnSourceTimeout
  refine onInst_within ?_ ?_
  · exact hp2
  · intro u1 hu1
    try beta_reduce
    extract_lets -merge -useContext -underBinder x2
    refine ite_elim (P := Within b) ?_ ?_
    · refine State.raise_within qevu c2 ?_
      refine State.flag_within c3 ?_
      refine State.onCues_within qcues ?_
      exact hu1
    · exact hu1

theorem execSacnTransmit_within {b : Bounds} {p0 p1} (qcues : b.parts .cues) (qnet : b.parts .net) (qsent : b.parts .sent) (c3 : b.regs (O15.PKTS_OUT p0)) (hp1 : Within b p1) : WithinOut b (execSacnTransmit p0 p1) := by
  unfold execSacnTransmit
  refine onInst_within ?_ ?_
  · exact hp1
  · intro u1 hu2
    try beta_reduce
    refine State.sacnTransmit_within qcues qnet qsent c3 ?_
    exact hu2

theorem execDiscoverySend_within {b : Bounds} {p0} (qcues : b.parts .cues) (qsent : b.parts .sent) (qnet : b.parts .net) (hp0 : Within b p0) : WithinOut b (execDiscoverySend p0) := by
  unfold execDiscoverySend
  refine live_within ?_ ?_
  · exact hp0
  · intro u1 hu2
    try beta_reduce
    refine State.discoverySend_within qcues qsent qnet ?_
    exact hu2

theorem execDiscoveryAgeing_within {b : Bounds} {p0 p1} (qcues : b.parts .cues) (c1 : b.regs O15.DISC_COUNT) (hp1 : Within b p1) : WithinOut b (execDiscoveryAgeing p0 p1) := by
  unfold execDiscoveryAgeing
  refine live_within ?_ ?_
  · exact hp1
  · intro u1 hu1
    try beta_reduce
    extract_lets -merge -useContext -underBinder x2
    have hx2 : Within b x2 := by
      unfold x2
      refine State.onCues_within qcues ?_
      exact hu1
    try clear_value x2
    refine State.setN_within c1 ?_
    exact hx2

theorem execDmxOutputPacket_within {b : Bounds} {p0 p1} (qsent : b.parts .sent) (qcues : b.parts .cues) (c2 : b.regs (O15.DMX_PACKETS (1024 + p0))) (hp1 : Within b p1) : WithinOut b (execDmxOutputPacket p0 p1) := by
  unfold execDmxOutputPacket
  refine onInst_within ?_ ?_
  · exact hp1
  · intro u1 hu2
    try beta_reduce
    extract_lets -merge -useContext -underBinder x3 x4 x5
    refine ite_elim (P := Within b) ?_ ?_
    · refine State.emit_within qsent ?_
      refine State.bump_within c2 ?_
      refine State.onCues_within qcues ?_
      exact hu2
    · exact hu2

theorem execDmxInputPacket_within {b : Bounds} {p0 p1 p2 p3 p4 p5 p6} (qevu : b.parts .evu) (qcues : b.parts .cues) (c2 : b.regs (O15.DMX_ERRORS (1024 + p0))) (c3 : b.regs (O15.DMX_FLAGS (1024 + p0))) (c4 : b.regs (O15.DMX_RX_SLOTS (1024 + p0))) (c5 : b.regs (O15.DMX_PACKETS (1024 + p0))) (c6 : ∀ k ∈ eventRegs 340, b.regs k) (c7 : b.regs (O15.DMX_STATE (1024 + p0))) (hp6 : Within b p6) : WithinOut b (execDmxInputPacket p0 p1 p2 p3 p4 p5 p6) := by
  unfold execDmxInputPacket
  refine onInst_within ?_ ?_
  · exact hp6
  · intro u1 hu1
    try beta_reduce
    extract_lets -merge -useContext -underBinder x2 x3 x4 x5 x6 x7
    have hx4 : ∀ a0 a1, Within b a0 → Within b (x4 a0 a1) := by
      unfold x4
      intro u8 u9 hu8
      try beta_reduce
      refine State.onCues_within qcues ?_
      exact hu8
    try clear_value x4
    have hx5 : Within b x5 := by
      unfold x5
      refine State.bump_within c2 ?_
      refine hx4 _ _ ?_
      · exact hu1
    try clear_value x5
    have hx6 : Within b x6 := by
      unfold x6
      refine ite_elim (P := Within b) ?_ ?_
      · refine State.flag_within c3 ?_
        exact hx5
      · exact hx5
    try clear_value x6
    have hx7 : Within b x7 := by
      unfold x7
      refine State.setN_within c4 ?_
      refine State.bump_within c5 ?_
      refine hx4 _ _ ?_
      · exact hu1
    try clear_value x7
    refine ite_elim (P := Within b) ?_ ?_
    · exact hu1
    · refine ite_elim (P := Within b) ?_ ?_
      · refine ite_elim (P := Within b) ?_ ?_
        · refine State.flag_within c3 ?_
          exact hx6
        · exact hx6
      · refine ite_elim (P := Within b) ?_ ?_
        · refine State.raise_within qevu c6 ?_
          refine State.setN_within c7 ?_
          exact hx7
        · exact hx7

theorem execDmxLoss_within {b : Bounds} {p0 p1} (qevu : b.parts .evu) (qcues : b.parts .cues) (c2 : ∀ k ∈ eventRegs 341, b.regs k) (c3 : b.regs (O15.DMX_FLAGS (1024 + p0))) (c4 : b.regs (O15.DMX_STATE (1024 + p0))) (hp1 : Within b p1) : WithinOut b (execDmxLoss p0 p1) := by
  unfold execDmxLoss
  refine onInst_within ?_ ?_
  · exact hp1
  · intro u1 hu1
    try beta_reduce
    extract_lets -merge -useContext -underBinder x2 x3
    refine ite_elim (P := Within b) ?_ ?_
    · refine State.raise_within qevu c2 ?_
      refine State.flag_within c3 ?_
      refine State.setN_within c4 ?_
      refine State.onCues_within qcues ?_
      exact hu1
    · exact hu1

theorem execTimecodeWord_within {b : Bounds} {p0 p1 p2 p3 p4 p5 p6 p7} (qevu : b.parts .evu) (qcues : b.parts .cues) (c2 : b.regs (O16.TC_BITS p0)) (c3 : b.regs (O16.TC_SPEED p0)) (c4 : b.regs (O16.TC_TICK p0)) (c5 : b.regs (O16.TC_USER p0)) (c6 : b.regs (O16.TC_VALUE p0)) (c7 : ∀ k ∈ eventRegs 352, b.regs k) (c8 : b.regs (O16.TC_STATE p0)) (c9 : ∀ k ∈ eventRegs 355, b.regs k) (c10 : b.regs (O16.TC_FLAGS p0)) (hp7 : Within b p7) : WithinOut b (execTimecodeWord p0 p1 p2 p3 p4 p5 p6 p7) := by
  unfold execTimecodeWord
  refine onInst_within ?_ ?_
  · exact hp7
  · intro u1 hu1
    try beta_reduce
    refine ite_elim (P := Within b) ?_ ?_
    · refine State.timecodeWord_within qevu qcues c2 c3 c4 c5 c6 c7 c8 c9 c10 ?_
      exact hu1
    · exact hu1

theorem execTcFreewheel_within {b : Bounds} {p0 p1} (qevu : b.parts .evu) (qcues : b.parts .cues) (c2 : b.regs (O16.TC_VALUE p0)) (c3 : ∀ k ∈ eventRegs 326, b.regs k) (c4 : ∀ w0, b.regs (O14.CE_STATUS w0)) (c5 : ∀ k ∈ eventRegs 353, b.regs k) (c6 : b.regs (O16.TC_FLAGS p0)) (c7 : b.regs (O16.TC_STATE p0)) (c8 : ∀ k ∈ eventRegs 354, b.regs k) (hp1 : Within b p1) : WithinOut b (execTcFreewheel p0 p1) := by
  unfold execTcFreewheel
  refine onInst_within ?_ ?_
  · exact hp1
  · intro u1 hu1
    try beta_reduce
    refine ite_elim (P := Within b) ?_ ?_
    · refine State.freewheel_within qevu qcues c2 c3 c4 c5 c6 c7 c8 ?_
      exact hu1
    · exact hu1

theorem execTcNoTransitions_within {b : Bounds} {p0 p1} (qevu : b.parts .evu) (qcues : b.parts .cues) (c2 : b.regs (O16.TC_STATE p0)) (c3 : ∀ k ∈ eventRegs 326, b.regs k) (c4 : ∀ w0, b.regs (O14.CE_STATUS w0)) (c5 : ∀ k ∈ eventRegs 354, b.regs k) (c6 : b.regs (O16.TC_FLAGS p0)) (hp1 : Within b p1) : WithinOut b (execTcNoTransitions p0 p1) := by
  unfold execTcNoTransitions
  refine onInst_within ?_ ?_
  · exact hp1
  · intro u1 hu1
    try beta_reduce
    refine ite_elim (P := Within b) ?_ ?_
    · refine State.readerLost_within qevu qcues c2 c3 c4 c5 c6 ?_
      exact hu1
    · exact hu1

theorem execTcSignalDetect_within {b : Bounds} {p0 p1} (qcues : b.parts .cues) (c1 : b.regs (O16.TC_STATE p0)) (hp1 : Within b p1) : WithinOut b (execTcSignalDetect p0 p1) := by
  unfold execTcSignalDetect
  refine onInst_within ?_ ?_
  · exact hp1
  · intro u1 hu1
    try beta_reduce
    refine ite_elim (P := Within b) ?_ ?_
    · refine State.setReader_within qcues ?_
      refine State.setN_within c1 ?_
      exact hu1
    · exact hu1

theorem execGeneratorWord_within {b : Bounds} {p0 p1} (qsent : b.parts .sent) (qevu : b.parts .evu) (qcues : b.parts .cues) (c3 : ∀ k ∈ eventRegs 356, b.regs k) (c4 : b.regs (O16.GEN_STATE (16 + p0))) (c5 : b.regs (O16.GEN_VALUE (16 + p0))) (c6 : ∀ k ∈ eventRegs 357, b.regs k) (hp1 : Within b p1) : WithinOut b (execGeneratorWord p0 p1) := by
  unfold execGeneratorWord
  refine onInst_within ?_ ?_
  · exact hp1
  · intro u1 hu1
    try beta_reduce
    refine ite_elim (P := Within b) ?_ ?_
    · refine State.genWord_within qsent qevu qcues c3 c4 c5 c6 ?_
      exact hu1
    · exact hu1

theorem execGenRun_within {b : Bounds} {p0 p1 p2} (c0 : b.regs (O16.GEN_RUN (16 + p0))) (hp2 : Within b p2) : WithinOut b (execGenRun p0 p1 p2) := by
  unfold execGenRun
  refine onInst_within ?_ ?_
  · exact hp2
  · intro u1 hu1
    try beta_reduce
    refine ite_elim (P := Within b) ?_ ?_
    · refine State.setB_within c0 ?_
      exact hu1
    · exact hu1

theorem execGpioEdge_within {b : Bounds} {p0 p1 p2} (qcues : b.parts .cues) (qevu : b.parts .evu) (c2 : b.regs (O16.GPIO_EDGES (256 + p0))) (c3 : b.regs (O16.GPIO_EDGE_TICK (256 + p0))) (c4 : b.regs (O16.GPIO_LEVEL (256 + p0))) (c5 : ∀ k ∈ eventRegs 358, b.regs k) (hp2 : Within b p2) : WithinOut b (execGpioEdge p0 p1 p2) := by
  unfold execGpioEdge
  refine onInst_within ?_ ?_
  · exact hp2
  · intro u1 hu2
    try beta_reduce
    extract_lets -merge -useContext -underBinder x3 x4 x5 x6
    have hx5 : Within b x5 := by
      unfold x5
      refine State.bump_within c2 ?_
      refine State.setN_within c3 ?_
      refine State.setB_within c4 ?_
      refine State.onCues_within qcues ?_
      exact hu2
    try clear_value x5
    have hx6 : Within b x6 := by
      unfold x6
      refine State.gather_within qcues ?_
      exact hx5
    try clear_value x6
    refine ite_elim (P := Within b) ?_ ?_
    · exact hu2
    · refine ite_elim (P := Within b) ?_ ?_
      · refine State.raise_within qevu c5 ?_
        exact hx6
      · exact hx6

theorem execGpioSet_within {b : Bounds} {p0 p1 p2} (qcues : b.parts .cues) (c1 : b.regs (O16.GPIO_SET (256 + p0))) (hp2 : Within b p2) : WithinOut b (execGpioSet p0 p1 p2) := by
  unfold execGpioSet
  refine onInst_within ?_ ?_
  · exact hp2
  · intro u1 hu1
    try beta_reduce
    refine ite_elim (P := Within b) ?_ ?_
    · change Within1 b _
      refine State.actGpioSet_within qcues c1 ?_
      exact hu1
    · exact hu1

end Sys2Proof.Machine
end

