-- ==== Sys2Proof/Laws/WithinJournal.lean ====
section
/-! SUPPORT. What each operation of Machine/Journal.lean may change at most (Laws/Within.lean). -/

set_option maxRecDepth 8000

namespace Sys2Proof.Machine

theorem State.setHalf_within {b : Bounds} {p0 p1 p2} (qjrnl : b.parts .jrnl) (hp0 : Within b p0) : Within b (State.setHalf p0 p1 p2) := by
  unfold State.setHalf
  extract_lets -merge -useContext -underBinder x1 x2
  refine Within.f_jrnl (s := p0) qjrnl ?_
  exact hp0

theorem State.journalFull_within {b : Bounds} {p0} (qevu : b.parts .evu) (c1 : ∀ k ∈ eventRegs 454, b.regs k) (c2 : b.regs O1C.FILULO_FLAGS) (hp0 : Within b p0) : Within b (State.journalFull p0) := by
  unfold State.journalFull
  refine State.raise_within qevu c1 ?_
  refine State.flag_within c2 ?_
  exact hp0

theorem State.countJournal_within {b : Bounds} {p0} (c0 : b.regs O1C.JOURNAL_JSEQ) (c1 : b.regs O1C.JOURNAL_USED) (hp0 : Within b p0) : Within b (State.countJournal p0) := by
  unfold State.countJournal
  refine State.setN_within c0 ?_
  refine State.setN_within c1 ?_
  exact hp0

theorem State.addRec_within {b : Bounds} {p0 p1 p2 p3 p4 p5} (qjrnl : b.parts .jrnl) (hp0 : Within b p0) : Within b (State.addRec p0 p1 p2 p3 p4 p5) := by
  unfold State.addRec
  extract_lets -merge -useContext -underBinder x1
  refine Within.f_jrnl (s := p0) qjrnl ?_
  exact hp0

theorem State.answerLater_within {b : Bounds} {p0 p1 p2} (qjrnl : b.parts .jrnl) (hp0 : Within b p0) : Within b (State.answerLater p0 p1 p2) := by
  unfold State.answerLater
  extract_lets -merge -useContext -underBinder x1
  refine Within.f_jrnl (s := p0) qjrnl ?_
  exact hp0

theorem State.sealImmediate_within {b : Bounds} {p0} (qjrnl : b.parts .jrnl) (hp0 : Within b p0) : Within b (State.sealImmediate p0) := by
  unfold State.sealImmediate
  extract_lets -merge -useContext -underBinder x1 x2
  have hx1 : Within b x1 := by
    unfold x1
    refine State.addRec_within qjrnl ?_
    exact hp0
  try clear_value x1
  refine ite_elim (P := Within b) ?_ ?_
  · exact hp0
  · refine Within.f_jrnl (s := x1) qjrnl ?_
    exact hx1

theorem State.appendRec_within {b : Bounds} {p0 p1} (qjrnl : b.parts .jrnl) (hp0 : Within b p0) : Within b (State.appendRec p0 p1) := by
  unfold State.appendRec
  extract_lets -merge -useContext -underBinder x1 x2
  have hx2 : Within b x2 := by
    unfold x2
    refine State.setHalf_within qjrnl ?_
    exact hp0
  try clear_value x2
  refine ite_elim (P := Within b) ?_ ?_
  · refine State.setHalf_within qjrnl ?_
    exact hx2
  · exact hx2

theorem State.startSnapshot_within {b : Bounds} {p0 p1 p2 p3} (qjrnl : b.parts .jrnl) (hp0 : Within b p0) : Within b (State.startSnapshot p0 p1 p2 p3) := by
  unfold State.startSnapshot
  extract_lets -merge -useContext -underBinder x1 x2 x3 x4
  have hx3 : Within b x3 := by
    unfold x3
    refine State.setHalf_within qjrnl ?_
    exact hp0
  try clear_value x3
  refine State.addRec_within qjrnl ?_
  refine Within.f_jrnl (s := x3) qjrnl ?_
  exact hx3

theorem State.switchHalf_within {b : Bounds} {p0 p1} (qjrnl : b.parts .jrnl) (hp0 : Within b p0) : Within b (State.switchHalf p0 p1) := by
  unfold State.switchHalf
  extract_lets -merge -useContext -underBinder x1 x2 x3
  have hx2 : Within b x2 := by
    unfold x2
    refine State.setHalf_within qjrnl ?_
    refine State.setHalf_within qjrnl ?_
    exact hp0
  try clear_value x2
  refine Within.f_jrnl (s := x2) qjrnl ?_
  exact hx2

theorem State.compactStep_within {b : Bounds} {p0} (qjobs : b.parts .jobs) (qjrnl : b.parts .jrnl) (hp0 : Within b p0) : Within b (State.compactStep p0) := by
  unfold State.compactStep
  split
  · exact hp0
  · split
    · refine ite_elim (P := Within b) ?_ ?_
      · refine State.addRec_within qjrnl ?_
        refine State.setJob_within qjobs ?_
        exact hp0
      · exact hp0
    · exact hp0

theorem State.startCompact_within {b : Bounds} {p0 p1 p2} (qsent : b.parts .sent) (qevu : b.parts .evu) (qsess : b.parts .sess) (qmail : b.parts .mail) (qjobs : b.parts .jobs) (qjrnl : b.parts .jrnl) (c6 : ∀ w0, b.regs (O1B.JOB_ENDED w0)) (c7 : ∀ w0, b.regs (O1B.JOB_RESULT w0)) (c8 : ∀ w0, b.regs (O1B.JOB_OWNER w0)) (c9 : ∀ w0, b.regs (O1B.JOB_PROGRESS w0)) (c10 : ∀ w0, b.regs (O1B.JOB_STATUS w0)) (c11 : ∀ w0, b.regs (O1B.JOB_OBJECT w0)) (c12 : ∀ w0, b.regs (O1C.SESS_QUEUE w0)) (c13 : ∀ k ∈ eventRegs 451, b.regs k) (c14 : b.regs O1C.FILULO_FLAGS) (c15 : ∀ k ∈ eventRegs 432, b.regs k) (c16 : b.regs O1B.JOBS_QUEUED) (c17 : b.regs O1B.JOBS_RUNNING) (c18 : ∀ w0, b.regs (O1B.JOB_STARTED w0)) (c19 : ∀ w0, b.regs (O1B.JOB_STATE w0)) (hp0 : Within b p0) : Within1 b (State.startCompact p0 p1 p2) := by
  unfold State.startCompact
  extract_lets -merge -useContext -underBinder x1
  have hx1 : Within1 b x1 := by
    unfold x1
    refine State.startJob_within qsent qevu qsess qmail qjobs c6 c7 c8 c9 c10 c11 c12 c13 c14 c15 c16 c17 c18 c19 ?_
    exact hp0
  try clear_value x1
  refine within1_mk ?_
  refine State.compactStep_within qjobs qjrnl ?_
  change Within1 b _
  exact hx1

theorem State.autoCompact_within {b : Bounds} {p0} (qsent : b.parts .sent) (qevu : b.parts .evu) (qsess : b.parts .sess) (qmail : b.parts .mail) (qjobs : b.parts .jobs) (qjrnl : b.parts .jrnl) (c6 : ∀ w0, b.regs (O1B.JOB_ENDED w0)) (c7 : ∀ w0, b.regs (O1B.JOB_RESULT w0)) (c8 : ∀ w0, b.regs (O1B.JOB_OWNER w0)) (c9 : ∀ w0, b.regs (O1B.JOB_PROGRESS w0)) (c10 : ∀ w0, b.regs (O1B.JOB_STATUS w0)) (c11 : ∀ w0, b.regs (O1B.JOB_OBJECT w0)) (c12 : ∀ w0, b.regs (O1C.SESS_QUEUE w0)) (c13 : ∀ k ∈ eventRegs 451, b.regs k) (c14 : b.regs O1C.FILULO_FLAGS) (c15 : ∀ k ∈ eventRegs 432, b.regs k) (c16 : b.regs O1B.JOBS_QUEUED) (c17 : b.regs O1B.JOBS_RUNNING) (c18 : ∀ w0, b.regs (O1B.JOB_STARTED w0)) (c19 : ∀ w0, b.regs (O1B.JOB_STATE w0)) (hp0 : Within b p0) : Within b (State.autoCompact p0) := by
  unfold State.autoCompact
  refine ite_elim (P := Within b) ?_ ?_
  · change Within1 b _
    refine State.startCompact_within qsent qevu qsess qmail qjobs qjrnl c6 c7 c8 c9 c10 c11 c12 c13 c14 c15 c16 c17 c18 c19 ?_
    exact hp0
  · exact hp0

theorem State.programRec_within {b : Bounds} {p0} (qjrnl : b.parts .jrnl) (c1 : b.regs O1C.JOURNAL_JSEQ) (c2 : b.regs O1C.JOURNAL_USED) (hp0 : Within b p0) : Within1 b (State.programRec p0) := by
  unfold State.programRec
  split
  · refine within1_mk ?_
    exact hp0
  · extract_lets -merge -useContext -underBinder x1 x2 x3 x4 x5 x6 x7
    have hx4 : Within b x4 := by
      unfold x4
      refine Within.f_jrnl (s := p0) qjrnl ?_
      exact hp0
    try clear_value x4
    have hx6 : Within b x6 := by
      unfold x6
      refine Within.f_jrnl (s := x4) qjrnl ?_
      exact hx4
    try clear_value x6
    have hx7 : Within b x7 := by
      unfold x7
      split
      · refine State.startSnapshot_within qjrnl ?_
        exact hx4
      · refine State.startSnapshot_within qjrnl ?_
        exact hx4
      · refine State.switchHalf_within qjrnl ?_
        exact hx6
      · refine State.switchHalf_within qjrnl ?_
        exact hx6
      · refine State.appendRec_within qjrnl ?_
        exact hx6
    try clear_value x7
    refine within1_mk ?_
    refine State.countJournal_within c1 c2 ?_
    exact hx7

end Sys2Proof.Machine
end

