-- ==== Sys2Proof/Laws/WithinAdmission.lean ====
section
/-! SUPPORT. What each operation of Machine/Admission.lean may change at most (Laws/Within.lean). -/

set_option maxRecDepth 8000

namespace Sys2Proof.Machine

theorem State.setItems_within {b : Bounds} {p0 p1} (hk : ∀ k, b.regs k) (hp0 : Within b p0) : Within b (State.setItems p0 p1) := by
  unfold State.setItems
  refine State.forEach_within ?_ ?_
  · exact hp0
  · intro u1 u2 hu1
    try beta_reduce
    refine State.setObj_within (hk _) ?_
    exact hu1

theorem State.unitApplied_within {b : Bounds} {p0 p1} (qtiming : b.parts .timing) (qclocks : b.parts .clocks) (qevu : b.parts .evu) (qlanes : b.parts .lanes) (qfabric : b.parts .fabric) (qinputs : b.parts .inputs) (qdests : b.parts .dests) (qaudio : b.parts .audio) (qfresh : b.parts .fresh) (qamx : b.parts .amx) (qnet : b.parts .net) (qsent : b.parts .sent) (qsess : b.parts .sess) (qmail : b.parts .mail) (qjobs : b.parts .jobs) (qfurlongs : b.parts .furlongs) (qdomain : b.parts .domain) (qcues : b.parts .cues) (c18 : b.regs (O02.QL (instOf p1))) (c19 : ∀ (w0 : ℕ), b.regs (O07.OUT_STATE w0)) (c20 : ∀ (w0 : ℕ), b.regs (O07.SQUELCH_CAUSE w0)) (c21 : ∀ (w0 : ℕ), b.regs (O07.OUT_FLAGS w0)) (c22 : ∀ (w0 : ℕ), b.regs (O0C.EMBED_STATE w0)) (c23 : ∀ (w0 : ℕ), b.regs (O11.TX_STATE w0)) (c24 : ∀ (w0 : ℕ), ∀ k ∈ eventRegs w0, b.regs k) (c25 : ∀ (w0 : ℕ), b.regs (State.portKey w0 (O0A.OUT_FLAGS 0))) (c26 : ∀ (w0 : ℕ), b.regs (State.portKey w0 (O0A.OUT_STATE 0))) (c27 : b.regs (State.synthKey (instOf p1 - 32))) (c28 : b.regs (O06.IN_STATE (instOf p1))) (c29 : b.regs (O06.IN_FLAGS (instOf p1))) (c30 : b.regs (O06.LOCK_LOSSES (instOf p1))) (c31 : ∀ (w0 : ℕ), b.regs (O06.IN_LINK_MODE w0)) (c32 : ∀ (w0 : ℕ), b.regs (O07.OUT_LINK_MODE w0)) (c33 : b.regs (O08.AUDIO_DELAY_APPLIED (instOf p1))) (c34 : b.regs (O08.ROUTE_FLAGS (instOf p1))) (c35 : ∀ (w0 : ℕ), b.regs (O0A.FOLLOW_STATE w0)) (c36 : ∀ (w0 : ℕ), b.regs (O0A.FOLLOW_OFFSET w0)) (c37 : ∀ (w1 : Key), b.regs (State.portKey ((if clsOf p1 = 11 then 8192 else 0) + instOf p1) w1)) (c38 : ∀ (w0 : ℕ), b.regs (O0A.GROUP_FAULTS w0)) (c39 : b.regs (State.flagsKey ((if clsOf p1 = 11 then 8192 else 0) + instOf p1))) (c40 : ∀ (w0 : ℕ), b.regs (O02.CAND_FLAGS w0)) (c41 : ∀ (w0 : ℕ), b.regs (O02.CAND_STATE w0)) (c42 : ∀ (w0 : ℕ), b.regs (O02.OUTVOTED w0)) (c43 : ∀ (w1 : Key), b.regs (State.portKey ((if clsOf p1 = 11 then 8192 else 0) + 4096 + (instOf p1 - 256)) w1)) (c44 : b.regs (State.flagsKey ((if clsOf p1 = 11 then 8192 else 0) + 4096 + (instOf p1 - 256)))) (c45 : ∀ (w0 : ℕ), b.regs (State.stateKey w0)) (c46 : ∀ (w0 : ℕ), b.regs (State.portKey w0 (O0A.PORT_STATE_OUT 0))) (c47 : ∀ (w0 : ℕ), b.regs (O03.ACS_STATE w0)) (c48 : ∀ (w0 : ℕ), b.regs (State.portKey w0 (O0A.SRC_ACTIVE 0))) (c49 : b.regs (O0C.PLAY_POSITION (instOf p1))) (c50 : b.regs (O0C.PLAYER_STATE (instOf p1))) (c51 : b.regs (O0C.DEEMB_SRC_ACTIVE (instOf p1))) (c52 : b.regs (O0D.SEND_MACS (instOf p1))) (c53 : ∀ (w0 : ℕ), b.regs (O10.CBS_CREDIT w0)) (c54 : b.regs (O0D.SEND_STATE (instOf p1))) (c55 : b.regs (O0E.PATH_STATES (instOf p1))) (c56 : b.regs (O0E.RX_STATE (instOf p1))) (c57 : b.regs (O10.SH_ELIGIBLE (instOf p1))) (c58 : b.regs (O10.SH_QUEUED (instOf p1))) (c59 : b.regs (O10.SH_LEVEL (instOf p1))) (c60 : b.regs (O10.OPER_STATE (2048 + (instOf p1 - 2048)))) (c61 : b.regs (O10.PORT_SH_FLAGS (2048 + (instOf p1 - 2048)))) (c62 : ∀ (w0 : ℕ), b.regs (O1B.JOB_ENDED w0)) (c63 : ∀ (w0 : ℕ), b.regs (O1B.JOB_STATUS w0)) (c64 : ∀ (w0 : ℕ), b.regs (O1B.JOB_RESULT w0)) (c65 : ∀ (w0 : ℕ), b.regs (O1B.JOB_PROGRESS w0)) (c66 : b.regs O1B.JOBS_QUEUED) (c67 : b.regs O1B.JOBS_RUNNING) (c68 : ∀ (w0 : ℕ), b.regs (O1C.SESS_QUEUE w0)) (c69 : b.regs O1C.FILULO_FLAGS) (c70 : ∀ (w0 : ℕ), b.regs (O1B.JOB_STARTED w0)) (c71 : ∀ (w0 : ℕ), b.regs (O1B.JOB_STATE w0)) (c72 : ∀ (w0 : ℕ), b.regs (O11.LANE_RATE w0)) (c73 : ∀ (w0 : ℕ), b.regs (O11.RX_STATE w0)) (c74 : ∀ (w0 : ℕ), b.regs (O11.CHK_STATE w0)) (c75 : ∀ (w0 : ℕ), b.regs (O11.ELASTIC_FILL w0)) (c76 : ∀ (w0 : ℕ), b.regs (O11.ELASTIC_SLIPS w0)) (c77 : ∀ (w0 : ℕ), b.regs (O11.FILLER_INSERTED w0)) (c78 : ∀ (w0 : ℕ), b.regs (O11.FILLER_DELETED w0)) (c79 : ∀ (w0 : ℕ), b.regs (O11.LANE_MODE w0)) (c80 : ∀ (w0 : ℕ), b.regs (O11.LANE_LREF w0)) (c81 : b.regs (O12.FURLONG_STATE (instOf p1))) (c82 : b.regs (O12.MEDIA_CAPACITY (instOf p1))) (c83 : ∀ (w0 : ℕ), b.regs (O12.CELLS_IO w0)) (c84 : b.regs O13.BACKUP_DEVICE) (c85 : b.regs O13.MASTER_DEVICE) (c86 : b.regs O13.DOMAIN_STATE) (c87 : b.regs O13.DOMAIN_SIZE) (c88 : b.regs (O14.CE_STATE (instOf p1))) (c89 : b.regs (O15.UNIV_LEVELS (instOf p1))) (c90 : b.regs (O15.UNIV_MERGED (instOf p1))) (c91 : b.regs (O15.WINNING_PRIORITY (instOf p1))) (c92 : b.regs (O15.UNIV_SOURCES (instOf p1))) (c93 : b.regs (O15.UNIV_STATE (instOf p1))) (c94 : b.regs (O15.DMX_STATE (instOf p1))) (c95 : ∀ (w0 : ℕ), b.regs (O14.CE_STATUS w0)) (c96 : b.regs (O16.TC_STATE (instOf p1))) (c97 : b.regs (O16.GEN_STATE (16 + (instOf p1 - 16)))) (c98 : b.regs (O16.GPIO_LEVEL (instOf p1))) (hp0 : Within b p0) : Within b (State.unitApplied p0 p1) := by
  unfold State.unitApplied
  split
  · refine State.timingApplied_within qtiming c18 (c41 _) (c42 _) ?_
    exact hp0
  · refine State.clocksApplied_within qclocks qevu qlanes c19 c20 c21 c22 c23 c24 c25 c26 c27 ?_
    exact hp0
  · refine State.inApplied_within qfabric qinputs qevu c28 (c24 _) c29 c30 c31 ?_
    exact hp0
  · refine State.outApplied_within qlanes qevu qdests c19 c20 (c24 _) c21 c22 c23 c32 ?_
    exact hp0
  · refine State.routesApplied_within qevu c33 (c24 _) c34 (c24 _) ?_
    exact hp0
  · refine State.audioApplied_within qevu qaudio qtiming qfresh qclocks c35 c36 c37 c38 c39 c40 c41 c42 c43 c44 c45 c24 c25 c26 c46 c47 c48 ?_
    exact hp0
  · refine State.audioApplied_within qevu qaudio qtiming qfresh qclocks c35 c36 c37 c38 c39 c40 c41 c42 c43 c44 c45 c24 c25 c26 c46 c47 c48 ?_
    exact hp0
  · refine State.matrixApplied_within qamx c49 c50 c51 ?_
    exact hp0
  · refine State.senderApplied_within qnet c52 c53 c54 ?_
    exact hp0
  · refine State.rxApplied_within qinputs qnet qamx c55 c56 c53 ?_
    exact hp0
  · refine State.shapingApplied_within qnet qevu c53 c57 c58 c59 c60 (c24 _) c61 ?_
    exact hp0
  · refine State.laneRateChange_within qevu qtiming c40 (c24 _) c41 c42 ?_
    refine State.lanesApplied_within qsent qevu qsess qmail qjobs qlanes c62 c63 c64 c65 c66 c67 c68 c69 c70 c71 c24 c72 c73 c74 c75 c76 c77 c78 c23 c79 c80 ?_
    exact hp0
  · refine State.furlongApplied_within qfurlongs c81 c82 ?_
    exact hp0
  · refine State.domainApplied_within qsent qfurlongs qdomain c83 c84 c85 c86 c87 ?_
    exact hp0
  · refine State.cuesApplied_within qcues qevu qsent c88 c89 c90 c91 c92 c93 c94 (c24 _) c95 c96 (c24 _) c97 c98 ?_
    exact hp0
  · refine State.cuesApplied_within qcues qevu qsent c88 c89 c90 c91 c92 c93 c94 (c24 _) c95 c96 (c24 _) c97 c98 ?_
    exact hp0
  · refine State.cuesApplied_within qcues qevu qsent c88 c89 c90 c91 c92 c93 c94 (c24 _) c95 c96 (c24 _) c97 c98 ?_
    exact hp0
  · exact hp0

theorem State.setTables_within {b : Bounds} {p0 p1} (qnet : b.parts .net) (qcues : b.parts .cues) (c2 : ∀ w0, b.regs (O14.RECORDS_ENABLED w0)) (hp0 : Within b p0) : Within b (State.setTables p0 p1) := by
  unfold State.setTables
  refine State.forEach_within ?_ ?_
  · exact hp0
  · intro u1 u2 hu1
    try beta_reduce
    refine ite_elim (P := Within b) ?_ ?_
    · refine State.tableWrite_within qnet ?_
      exact hu1
    · refine State.putRecord_within qcues (c2 _) ?_
      exact hu1

theorem State.applyValues_within {b : Bounds} {p0 p1} (qamx : b.parts .amx) (qnet : b.parts .net) (qcues : b.parts .cues) (qtiming : b.parts .timing) (qclocks : b.parts .clocks) (qevu : b.parts .evu) (qlanes : b.parts .lanes) (qfabric : b.parts .fabric) (qinputs : b.parts .inputs) (qdests : b.parts .dests) (qaudio : b.parts .audio) (qfresh : b.parts .fresh) (qsent : b.parts .sent) (qsess : b.parts .sess) (qmail : b.parts .mail) (qjobs : b.parts .jobs) (qfurlongs : b.parts .furlongs) (qdomain : b.parts .domain) (hk : ∀ k, b.regs k) (hp0 : Within b p0) : Within b (State.applyValues p0 p1) := by
  unfold State.applyValues
  extract_lets -merge -useContext -underBinder x1 x2
  have hx2 : Within b x2 := by
    unfold x2
    refine State.forEach_within ?_ ?_
    · exact hp0
    · intro u3 u4 hu5
      try beta_reduce
      refine State.matrixBefore_within qamx ?_
      exact hu5
  try clear_value x2
  refine State.forEach_within ?_ ?_
  · refine State.setTables_within qnet qcues (fun _ => hk _) ?_
    refine State.setItems_within hk ?_
    exact hx2
  · intro u6 u7 hu8
    try beta_reduce
    refine State.unitApplied_within qtiming qclocks qevu qlanes qfabric qinputs qdests qaudio qfresh qamx qnet qsent qsess qmail qjobs qfurlongs qdomain qcues (hk _) (fun _ => hk _) (fun _ => hk _) (fun _ => hk _) (fun _ => hk _) (fun _ => hk _) (fun _ _ _ => hk _) (fun _ => hk _) (fun _ => hk _) (hk _) (hk _) (hk _) (hk _) (fun _ => hk _) (fun _ => hk _) (hk _) (hk _) (fun _ => hk _) (fun _ => hk _) (fun _ => hk _) (fun _ => hk _) (hk _) (fun _ => hk _) (fun _ => hk _) (fun _ => hk _) (fun _ => hk _) (hk _) (fun _ => hk _) (fun _ => hk _) (fun _ => hk _) (fun _ => hk _) (hk _) (hk _) (hk _) (hk _) (fun _ => hk _) (hk _) (hk _) (hk _) (hk _) (hk _) (hk _) (hk _) (hk _) (fun _ => hk _) (fun _ => hk _) (fun _ => hk _) (fun _ => hk _) (hk _) (hk _) (fun _ => hk _) (hk _) (fun _ => hk _) (fun _ => hk _) (fun _ => hk _) (fun _ => hk _) (fun _ => hk _) (fun _ => hk _) (fun _ => hk _) (fun _ => hk _) (fun _ => hk _) (fun _ => hk _) (fun _ => hk _) (hk _) (hk _) (fun _ => hk _) (hk _) (hk _) (hk _) (hk _) (hk _) (hk _) (hk _) (hk _) (hk _) (hk _) (hk _) (fun _ => hk _) (hk _) (hk _) (hk _) ?_
    exact hu8

theorem State.applyRoutes_within {b : Bounds} {p0 p1 p2} (qevu : b.parts .evu) (qdests : b.parts .dests) (qamx : b.parts .amx) (c3 : ∀ k ∈ eventRegs 129, b.regs k) (c4 : ∀ (w0 : ℕ), b.regs (O08.ROUTE_FLAGS w0)) (c5 : ∀ (w0 : ℕ), b.regs (O08.SUPERSEDED w0)) (c6 : ∀ (w0 : ℕ), b.regs (O08.PENDING_SOURCE w0)) (c7 : ∀ (w0 : ℕ), b.regs (O08.VIDEO_ROUTE w0)) (c8 : ∀ (w0 : ℕ), b.regs (O08.ROUTE_STATE w0)) (c9 : ∀ k ∈ eventRegs 131, b.regs k) (c10 : ∀ (w0 w1 : ℕ), b.regs (O0C.TERM_GAIN w0 w1 0)) (c11 : ∀ (w2 w0 w1 : ℕ), b.regs (O0C.TERM_SRC w0 w1 w2)) (c12 : b.regs O08.SWITCHES_PENDING) (c13 : ∀ (w0 : ℕ), b.regs (O08.ANC_ROUTE w0)) (hp0 : Within b p0) : Within b (State.applyRoutes p0 p1 p2) := by
  unfold State.applyRoutes
  refine State.forEach_within ?_ ?_
  · exact hp0
  · intro u1 u2 hu3
    try beta_reduce
    refine State.routeApplied_within qevu qdests qamx c3 (c4 _) (c5 _) (c6 _) (c7 _) (c8 _) c9 c10 c11 c12 (c13 _) ?_
    exact hu3

theorem State.checkTx_within {b : Bounds} {p0 p1 p2 p3} (hk : ∀ k, b.regs k) (hp0 : Within b p0) : Within21E b (State.checkTx p0 p1 p2 p3) := by
  unfold State.checkTx
  extract_lets -merge -useContext -underBinder x1 x2 x3 x4 x5 x6 x7
  have hx1 : Within b x1 := by
    unfold x1
    refine State.setItems_within hk ?_
    exact hp0
  try clear_value x1
  refine ite_elim (P := Within21E b) ?_ ?_
  · exact exceptError _
  · refine ite_elim (P := Within21E b) ?_ ?_
    · exact exceptError _
    · refine ite_elim (P := Within21E b) ?_ ?_
      · exact exceptError _
      · refine ite_elim (P := Within21E b) ?_ ?_
        · exact exceptError _
        · refine ite_elim (P := Within21E b) ?_ ?_
          · exact exceptError _
          · try clear_value x5
            try clear_value x4
            split
            · refine ite_elim (P := Within21E b) ?_ ?_
              · exact exceptError _
              · refine exceptOk (P := Within21 b) ?_
                refine within21_mk ?_
                refine within1_mk ?_
                exact hx1
            · exact exceptError _

theorem State.allocateAll_within {b : Bounds} {p0 p1} (qfmem : b.parts .fmem) (c1 : b.regs O05.GENERAL_FREE) (c2 : ∀ w0, b.regs (O05.LARGEST_FREE w0)) (c3 : ∀ w0, b.regs (O05.FREE_BYTES w0)) (hp0 : Within b p0) : Within2S b (State.allocateAll p0 p1) := by
  induction p1 generalizing p0 with
  | nil => intro r e; cases e; exact hp0
  | cons m l ih =>
    intro r e
    unfold State.allocateAll at e
    split at e
    · cases e
    · rename_i b t h
      obtain ⟨q, hq, rfl⟩ := Option.map_eq_some_iff.mp e
      exact ih (State.allocate_within qfmem c1 c2 c3 hp0 _ h) q hq

theorem State.countLanes_within {b : Bounds} {p0} (c0 : ∀ w0, b.regs (O12.MEDIA_CELLS w0)) (hp0 : Within b p0) : Within b (State.countLanes p0) := by
  unfold State.countLanes
  refine State.forEach_within ?_ ?_
  · exact hp0
  · intro u1 u2 hu1
    try beta_reduce
    refine State.setBytes_within (c0 _) ?_
    exact hu1

theorem State.admitTx_within {b : Bounds} {p0 p1 p2 p3} (qfmem : b.parts .fmem) (c1 : b.regs O05.GENERAL_FREE) (c2 : ∀ w0, b.regs (O05.LARGEST_FREE w0)) (c3 : ∀ w0, b.regs (O05.FREE_BYTES w0)) (hp0 : Within b p0) : Within2E b (State.admitTx p0 p1 p2 p3) := by
  unfold State.admitTx
  extract_lets -merge -useContext -underBinder x1 x2 x3 x4 x5 x6 x7 x8 x9 x10
  refine ite_elim (P := Within2E b) (exceptError _) ?_
  split
  · exact exceptError _
  · exact exceptError _
  · rename_i pl takes u h1 h2
    have hu : Within b u := State.allocateAll_within qfmem c1 c2 c3 hp0 _ h2
    extract_lets -merge -useContext -underBinder x11
    clear_value x9
    split
    · exact exceptError _
    · refine ite_elim (P := Within2E b) (exceptError _) ?_
      refine ite_elim (P := Within2E b) (exceptError _) ?_
      refine ite_elim (P := Within2E b) (exceptError _) ?_
      split
      · exact exceptError _
      · exact ite_elim (P := Within2E b) (exceptError _) (exceptOk (P := Within2 b) (within2_mk hu))

theorem State.refused_within {b : Bounds} {p0 p1} (qevu : b.parts .evu) (c1 : b.regs O01.LAST_REFUSAL) (c2 : ∀ k ∈ eventRegs 67, b.regs k) (c3 : ∀ k ∈ eventRegs 211, b.regs k) (c4 : b.regs O0F.IP_LAST_REFUSAL) (hp0 : Within b p0) : Within b (State.refused p0 p1) := by
  unfold State.refused
  extract_lets -merge -useContext -underBinder x1 x2
  have hx1 : Within b x1 := by
    unfold x1
    refine State.setN_within c1 ?_
    exact hp0
  try clear_value x1
  have hx2 : Within b x2 := by
    unfold x2
    refine ite_elim (P := Within b) ?_ ?_
    · refine State.raise_within qevu c2 ?_
      exact hx1
    · exact hx1
  try clear_value x2
  split
  · refine State.ipRefused_within qevu c3 c4 ?_
    exact hx2
  · exact hx2

end Sys2Proof.Machine
end

