-- ==== Sys2Proof/Laws/WithinChain.lean ====
section
/-! SUPPORT. What each operation of Machine/Chain.lean may change at most (Laws/Within.lean). -/

set_option maxRecDepth 8000

namespace Sys2Proof.Machine

theorem State.onChain_within {b : Bounds} {p0 p1} (qchain : b.parts .chain) (hp0 : Within b p0) : Within b (State.onChain p0 p1) := by
  unfold State.onChain
  refine Within.f_chain (s := p0) qchain ?_
  exact hp0

theorem State.countIds_within {b : Bounds} {p0} (c0 : b.regs O04.STREAMS_ACTIVE) (hp0 : Within b p0) : Within b (State.countIds p0) := by
  unfold State.countIds
  refine State.setN_within c0 ?_
  exact hp0

theorem State.countCommitted_within {b : Bounds} {p0} (c0 : b.regs O04.STREAMS_ACTIVE) (c1 : ∀ (w0 : ℕ), b.regs (O12.MEDIA_CELLS w0)) (c2 : ∀ (w0 w1 : ℕ), b.regs (O0C.DEST_TERMS w0 w1)) (c3 : ∀ (w0 : ℕ), b.regs (O0C.BLOCK_TERMS w0)) (c4 : b.regs O0C.PHASE_TERMS) (c5 : b.regs O0C.TERMS_COMMITTED) (c6 : ∀ (w0 : ℕ), b.regs (O09.BUSHEL_PATHS w0)) (c7 : ∀ (w0 : ℕ), b.regs (O09.PECK_MASK w0)) (c8 : ∀ (w0 : ℕ), b.regs (O09.BUSHEL_STATE w0)) (c9 : b.regs O09.BUSHELS_IN_SERVICE) (c10 : b.regs O09.POOL_PECKS) (c11 : b.regs O09.PECKS_COMMITTED) (c12 : b.regs O09.PECKS_FREE) (c13 : b.regs O09.PATHS_SHED) (c14 : b.regs O09.PATHS_RUNNING) (hp0 : Within b p0) : Within b (State.countCommitted p0) := by
  unfold State.countCommitted
  refine State.countIds_within c0 ?_
  refine State.countLanes_within c1 ?_
  refine State.countTerms_within c2 c3 c4 c5 ?_
  refine State.poolCount_within c6 c7 c8 c9 c10 c11 c12 c13 c14 ?_
  exact hp0

theorem State.enqueueTx_within {b : Bounds} {p0 p1} (qchain : b.parts .chain) (hp0 : Within b p0) : Within b (State.enqueueTx p0 p1) := by
  unfold State.enqueueTx
  refine State.onChain_within qchain ?_
  exact hp0

theorem State.queueRemoval_within {b : Bounds} {p0} (qchain : b.parts .chain) (hp0 : Within b p0) : Within b (State.queueRemoval p0) := by
  unfold State.queueRemoval
  refine ite_elim (P := Within b) ?_ ?_
  · exact hp0
  · refine State.enqueueTx_within qchain ?_
    exact hp0

theorem State.pumpFrom_within {b : Bounds} {p0 p1} (qchain : b.parts .chain) (c1 : b.regs O01.SHADOW_STATE) (hp1 : Within b p1) : Within b (State.pumpFrom p0 p1) := by
  induction p0 generalizing p1 with
  | zero => exact hp1
  | succ f ih =>
    unfold State.pumpFrom
    split
    · exact hp1
    · exact ite_elim (P := Within b) (ih (State.onChain_within qchain hp1))
        (State.setN_within c1 (State.onChain_within qchain (State.onChain_within qchain hp1)))

theorem State.pump_within {b : Bounds} {p0} (qchain : b.parts .chain) (c1 : b.regs O01.SHADOW_STATE) (hp0 : Within b p0) : Within b (State.pump p0) := by
  unfold State.pump
  extract_lets -merge -useContext -underBinder x1
  have hx1 : Within b x1 := by
    unfold x1
    refine ite_elim (P := Within b) ?_ ?_
    · refine State.queueRemoval_within qchain ?_
      exact hp0
    · exact hp0
  try clear_value x1
  refine ite_elim (P := Within b) ?_ ?_
  · exact hp0
  · refine State.pumpFrom_within qchain c1 ?_
    exact hx1

theorem State.release_within {b : Bounds} {p0 p1} (qfabric : b.parts .fabric) (qfmem : b.parts .fmem) (c2 : b.regs O05.GENERAL_FREE) (c3 : ∀ w0, b.regs (O05.LARGEST_FREE w0)) (c4 : ∀ w0, b.regs (O05.FREE_BYTES w0)) (hp0 : Within b p0) : Within b (State.release p0 p1) := by
  unfold State.release
  extract_lets -merge -useContext -underBinder x1 x2
  have hx1 : Within b x1 := by
    unfold x1
    refine State.forEach_within ?_ ?_
    · exact hp0
    · intro u3 u4 hu3
      try beta_reduce
      refine State.freeExtent_within qfmem c2 c3 c4 ?_
      exact hu3
  try clear_value x1
  refine Within.f_fabric (s := x1) qfabric ?_
  exact hx1

theorem State.reportPart_within {b : Bounds} {p0 p1 p2 p3} (qdomain : b.parts .domain) (qevu : b.parts .evu) (qsent : b.parts .sent) (qsess : b.parts .sess) (qmail : b.parts .mail) (qfurlongs : b.parts .furlongs) (c6 : ∀ k ∈ eventRegs 308, b.regs k) (c7 : b.regs O13.LAST_EPOCH) (c8 : ∀ k ∈ eventRegs 312, b.regs k) (c9 : b.regs O13.DOMAIN_STATE) (c10 : ∀ k ∈ eventRegs 309, b.regs k) (c11 : b.regs O13.DOMAIN_FLAGS) (c12 : ∀ (w0 : ℕ), b.regs (O13.MEMBER_LAST_EPOCH w0)) (c13 : ∀ (w0 : ℕ), b.regs (O1C.SESS_QUEUE w0)) (c14 : ∀ k ∈ eventRegs 451, b.regs k) (c15 : b.regs O1C.FILULO_FLAGS) (c16 : b.regs O1C.TX_LAST) (c17 : ∀ (w0 : ℕ), b.regs (O12.CELLS_IO w0)) (hp0 : Within b p0) : Within b (State.reportPart p0 p1 p2 p3) := by
  unfold State.reportPart
  extract_lets -merge -useContext -underBinder x1 x2 x3 x4 x5
  have hx2 : Within b x2 := by
    unfold x2
    refine State.onDomain_within qdomain ?_
    exact hp0
  try clear_value x2
  have hx3 : Within b x3 := by
    unfold x3
    refine State.raise_within qevu c6 ?_
    refine State.onDomain_within qdomain ?_
    refine State.setN_within c7 ?_
    exact hx2
  try clear_value x3
  have hx4 : Within b x4 := by
    unfold x4
    refine ite_elim (P := Within b) ?_ ?_
    · refine ite_elim (P := Within b) ?_ ?_
      · refine State.raise_within qevu c8 ?_
        refine State.setDomain_within c9 ?_
        exact hx3
      · exact hx3
    · refine State.raise_within qevu c10 ?_
      refine State.flag_within c11 ?_
      exact hx2
  try clear_value x4
  refine ite_elim (P := Within b) ?_ ?_
  · refine ite_elim (P := Within b) ?_ ?_
    · refine State.gotApplied_within qsent qevu qsess qmail qdomain (c12 _) c13 c14 c15 c16 ?_
      exact hx4
    · refine State.gotNotApplied_within qsent qevu qsess qmail qdomain c13 c14 c15 c16 ?_
      exact hx4
  · refine ite_elim (P := Within b) ?_ ?_
    · refine ite_elim (P := Within b) ?_ ?_
      · refine State.sendUp_within qsent qfurlongs c17 ?_
        exact hx4
      · refine State.sendUp_within qsent qfurlongs c17 ?_
        exact hx4
    · refine State.onDomain_within qdomain ?_
      exact hx4

theorem State.finish_within {b : Bounds} {p0 p1 p2 p3} (qevu : b.parts .evu) (qsent : b.parts .sent) (qsess : b.parts .sess) (qmail : b.parts .mail) (qjobs : b.parts .jobs) (qdomain : b.parts .domain) (qfurlongs : b.parts .furlongs) (c7 : b.regs (O08.SALVO_LAST_STATUS p1.salvo)) (c8 : b.regs (O08.SALVO_LAST_TICK p1.salvo)) (c9 : ∀ k ∈ eventRegs 130, b.regs k) (c10 : ∀ (w0 : ℕ), b.regs (O1C.SESS_QUEUE w0)) (c11 : ∀ k ∈ eventRegs 451, b.regs k) (c12 : b.regs O1C.FILULO_FLAGS) (c13 : b.regs O1C.TX_LAST) (c14 : ∀ k ∈ eventRegs 321, b.regs k) (c15 : ∀ (w0 : ℕ), b.regs (O14.CE_STATUS w0)) (c16 : ∀ (w0 : ℕ), b.regs (O14.LAST_ERROR w0)) (c17 : ∀ (w0 : ℕ), b.regs (O14.ACTION_ERRORS w0)) (c18 : ∀ k ∈ eventRegs 308, b.regs k) (c19 : b.regs O13.LAST_EPOCH) (c20 : ∀ k ∈ eventRegs 312, b.regs k) (c21 : b.regs O13.DOMAIN_STATE) (c22 : ∀ k ∈ eventRegs 309, b.regs k) (c23 : b.regs O13.DOMAIN_FLAGS) (c24 : ∀ (w0 : ℕ), b.regs (O13.MEMBER_LAST_EPOCH w0)) (c25 : ∀ (w0 : ℕ), b.regs (O12.CELLS_IO w0)) (hp0 : Within b p0) : Within b (State.finish p0 p1 p2 p3) := by
  unfold State.finish
  extract_lets -merge -useContext -underBinder x1 x2 x3
  have hx1 : Within b x1 := by
    unfold x1
    refine State.setN_within c7 ?_
    exact hp0
  try clear_value x1
  have hx2 : Within b x2 := by
    unfold x2
    refine ite_elim (P := Within b) ?_ ?_
    · exact hp0
    · refine ite_elim (P := Within b) ?_ ?_
      · refine State.setN_within c8 ?_
        exact hx1
      · refine State.raise_within qevu c9 ?_
        exact hx1
  try clear_value x2
  split
  · refine State.note_within qsent qevu qsess qmail (c10 _) c11 c12 ?_
    refine State.setBytes_within c13 ?_
    exact hx2
  · refine ite_elim (P := Within b) ?_ ?_
    · refine State.setBytes_within c13 ?_
      exact hx2
    · refine State.actionFailed_within qevu c14 (c15 _) (c16 _) (c17 _) ?_
      refine State.setBytes_within c13 ?_
      exact hx2
  · split
    · refine State.setJob_within qjobs ?_
      refine State.setBytes_within c13 ?_
      exact hx2
    · refine State.setBytes_within c13 ?_
      exact hx2
  · refine State.reportPart_within qdomain qevu qsent qsess qmail qfurlongs c18 c19 c20 c21 c22 c23 c24 c10 c11 c12 c13 c25 ?_
    exact hx2
  · exact hx2

theorem State.drop__within {b : Bounds} {p0 p1} (qchain : b.parts .chain) (c1 : b.regs O01.SHADOW_STATE) (hp0 : Within b p0) : Within b (State.drop_ p0 p1) := by
  unfold State.drop_
  extract_lets -merge -useContext -underBinder x1 x2
  have hx2 : Within b x2 := by
    unfold x2
    refine State.onChain_within qchain ?_
    exact hp0
  try clear_value x2
  refine ite_elim (P := Within b) ?_ ?_
  · refine State.setN_within c1 ?_
    exact hx2
  · exact hx2

theorem State.withdraw_within {b : Bounds} {p0 p1 p2} (qevu : b.parts .evu) (qsent : b.parts .sent) (qsess : b.parts .sess) (qmail : b.parts .mail) (qjobs : b.parts .jobs) (qdomain : b.parts .domain) (qfurlongs : b.parts .furlongs) (qfabric : b.parts .fabric) (qfmem : b.parts .fmem) (qchain : b.parts .chain) (c10 : b.regs O04.STREAMS_ACTIVE) (c11 : ∀ (w0 : ℕ), b.regs (O12.MEDIA_CELLS w0)) (c12 : ∀ (w0 w1 : ℕ), b.regs (O0C.DEST_TERMS w0 w1)) (c13 : ∀ (w0 : ℕ), b.regs (O0C.BLOCK_TERMS w0)) (c14 : b.regs O0C.PHASE_TERMS) (c15 : b.regs O0C.TERMS_COMMITTED) (c16 : ∀ (w0 : ℕ), b.regs (O09.BUSHEL_PATHS w0)) (c17 : ∀ (w0 : ℕ), b.regs (O09.PECK_MASK w0)) (c18 : ∀ (w0 : ℕ), b.regs (O09.BUSHEL_STATE w0)) (c19 : b.regs O09.BUSHELS_IN_SERVICE) (c20 : b.regs O09.POOL_PECKS) (c21 : b.regs O09.PECKS_COMMITTED) (c22 : b.regs O09.PECKS_FREE) (c23 : b.regs O09.PATHS_SHED) (c24 : b.regs O09.PATHS_RUNNING) (c25 : b.regs (O08.SALVO_LAST_STATUS p1.salvo)) (c26 : b.regs (O08.SALVO_LAST_TICK p1.salvo)) (c27 : ∀ k ∈ eventRegs 130, b.regs k) (c28 : ∀ (w0 : ℕ), b.regs (O1C.SESS_QUEUE w0)) (c29 : ∀ k ∈ eventRegs 451, b.regs k) (c30 : b.regs O1C.FILULO_FLAGS) (c31 : b.regs O1C.TX_LAST) (c32 : ∀ k ∈ eventRegs 321, b.regs k) (c33 : ∀ (w0 : ℕ), b.regs (O14.CE_STATUS w0)) (c34 : ∀ (w0 : ℕ), b.regs (O14.LAST_ERROR w0)) (c35 : ∀ (w0 : ℕ), b.regs (O14.ACTION_ERRORS w0)) (c36 : ∀ k ∈ eventRegs 308, b.regs k) (c37 : b.regs O13.LAST_EPOCH) (c38 : ∀ k ∈ eventRegs 312, b.regs k) (c39 : b.regs O13.DOMAIN_STATE) (c40 : ∀ k ∈ eventRegs 309, b.regs k) (c41 : b.regs O13.DOMAIN_FLAGS) (c42 : ∀ (w0 : ℕ), b.regs (O13.MEMBER_LAST_EPOCH w0)) (c43 : ∀ (w0 : ℕ), b.regs (O12.CELLS_IO w0)) (c44 : b.regs O05.GENERAL_FREE) (c45 : ∀ (w0 : ℕ), b.regs (O05.LARGEST_FREE w0)) (c46 : ∀ (w0 : ℕ), b.regs (O05.FREE_BYTES w0)) (c47 : b.regs O01.SHADOW_STATE) (hp0 : Within b p0) : Within b (State.withdraw p0 p1 p2) := by
  unfold State.withdraw
  refine State.countCommitted_within c10 c11 c12 c13 c14 c15 c16 c17 c18 c19 c20 c21 c22 c23 c24 ?_
  refine State.finish_within qevu qsent qsess qmail qjobs qdomain qfurlongs c25 c26 c27 c28 c29 c30 c31 c32 c33 c34 c35 c36 c37 c38 c39 c40 c41 c42 c43 ?_
  refine State.release_within qfabric qfmem c44 c45 c46 ?_
  refine State.drop__within qchain c47 ?_
  exact hp0

theorem State.withdrawPart_within {b : Bounds} {p0 p1 p2 p3} (qdomain : b.parts .domain) (qevu : b.parts .evu) (qsent : b.parts .sent) (qsess : b.parts .sess) (qmail : b.parts .mail) (qfurlongs : b.parts .furlongs) (qfabric : b.parts .fabric) (qfmem : b.parts .fmem) (qchain : b.parts .chain) (c9 : b.regs O04.STREAMS_ACTIVE) (c10 : ∀ (w0 : ℕ), b.regs (O12.MEDIA_CELLS w0)) (c11 : ∀ (w0 w1 : ℕ), b.regs (O0C.DEST_TERMS w0 w1)) (c12 : ∀ (w0 : ℕ), b.regs (O0C.BLOCK_TERMS w0)) (c13 : b.regs O0C.PHASE_TERMS) (c14 : b.regs O0C.TERMS_COMMITTED) (c15 : ∀ (w0 : ℕ), b.regs (O09.BUSHEL_PATHS w0)) (c16 : ∀ (w0 : ℕ), b.regs (O09.PECK_MASK w0)) (c17 : ∀ (w0 : ℕ), b.regs (O09.BUSHEL_STATE w0)) (c18 : b.regs O09.BUSHELS_IN_SERVICE) (c19 : b.regs O09.POOL_PECKS) (c20 : b.regs O09.PECKS_COMMITTED) (c21 : b.regs O09.PECKS_FREE) (c22 : b.regs O09.PATHS_SHED) (c23 : b.regs O09.PATHS_RUNNING) (c24 : ∀ k ∈ eventRegs 308, b.regs k) (c25 : b.regs O13.LAST_EPOCH) (c26 : ∀ k ∈ eventRegs 312, b.regs k) (c27 : b.regs O13.DOMAIN_STATE) (c28 : ∀ k ∈ eventRegs 309, b.regs k) (c29 : b.regs O13.DOMAIN_FLAGS) (c30 : ∀ (w0 : ℕ), b.regs (O13.MEMBER_LAST_EPOCH w0)) (c31 : ∀ (w0 : ℕ), b.regs (O1C.SESS_QUEUE w0)) (c32 : ∀ k ∈ eventRegs 451, b.regs k) (c33 : b.regs O1C.FILULO_FLAGS) (c34 : b.regs O1C.TX_LAST) (c35 : ∀ (w0 : ℕ), b.regs (O12.CELLS_IO w0)) (c36 : b.regs O05.GENERAL_FREE) (c37 : ∀ (w0 : ℕ), b.regs (O05.LARGEST_FREE w0)) (c38 : ∀ (w0 : ℕ), b.regs (O05.FREE_BYTES w0)) (c39 : b.regs O01.SHADOW_STATE) (hp0 : Within b p0) : Within b (State.withdrawPart p0 p1 p2 p3) := by
  unfold State.withdrawPart
  refine State.countCommitted_within c9 c10 c11 c12 c13 c14 c15 c16 c17 c18 c19 c20 c21 c22 c23 ?_
  refine State.reportPart_within qdomain qevu qsent qsess qmail qfurlongs c24 c25 c26 c27 c28 c29 c30 c31 c32 c33 c34 c35 ?_
  refine State.release_within qfabric qfmem c36 c37 c38 ?_
  refine State.drop__within qchain c39 ?_
  exact hp0

theorem State.missed_within {b : Bounds} {p0 p1 p2} (qevu : b.parts .evu) (qsent : b.parts .sent) (qsess : b.parts .sess) (qmail : b.parts .mail) (qjobs : b.parts .jobs) (qdomain : b.parts .domain) (qfurlongs : b.parts .furlongs) (qfabric : b.parts .fabric) (qfmem : b.parts .fmem) (qchain : b.parts .chain) (c10 : ∀ k ∈ eventRegs 24, b.regs k) (c11 : b.regs O04.STREAMS_ACTIVE) (c12 : ∀ (w0 : ℕ), b.regs (O12.MEDIA_CELLS w0)) (c13 : ∀ (w0 w1 : ℕ), b.regs (O0C.DEST_TERMS w0 w1)) (c14 : ∀ (w0 : ℕ), b.regs (O0C.BLOCK_TERMS w0)) (c15 : b.regs O0C.PHASE_TERMS) (c16 : b.regs O0C.TERMS_COMMITTED) (c17 : ∀ (w0 : ℕ), b.regs (O09.BUSHEL_PATHS w0)) (c18 : ∀ (w0 : ℕ), b.regs (O09.PECK_MASK w0)) (c19 : ∀ (w0 : ℕ), b.regs (O09.BUSHEL_STATE w0)) (c20 : b.regs O09.BUSHELS_IN_SERVICE) (c21 : b.regs O09.POOL_PECKS) (c22 : b.regs O09.PECKS_COMMITTED) (c23 : b.regs O09.PECKS_FREE) (c24 : b.regs O09.PATHS_SHED) (c25 : b.regs O09.PATHS_RUNNING) (c26 : b.regs (O08.SALVO_LAST_STATUS p1.salvo)) (c27 : b.regs (O08.SALVO_LAST_TICK p1.salvo)) (c28 : ∀ k ∈ eventRegs 130, b.regs k) (c29 : ∀ (w0 : ℕ), b.regs (O1C.SESS_QUEUE w0)) (c30 : ∀ k ∈ eventRegs 451, b.regs k) (c31 : b.regs O1C.FILULO_FLAGS) (c32 : b.regs O1C.TX_LAST) (c33 : ∀ k ∈ eventRegs 321, b.regs k) (c34 : ∀ (w0 : ℕ), b.regs (O14.CE_STATUS w0)) (c35 : ∀ (w0 : ℕ), b.regs (O14.LAST_ERROR w0)) (c36 : ∀ (w0 : ℕ), b.regs (O14.ACTION_ERRORS w0)) (c37 : ∀ k ∈ eventRegs 308, b.regs k) (c38 : b.regs O13.LAST_EPOCH) (c39 : ∀ k ∈ eventRegs 312, b.regs k) (c40 : b.regs O13.DOMAIN_STATE) (c41 : ∀ k ∈ eventRegs 309, b.regs k) (c42 : b.regs O13.DOMAIN_FLAGS) (c43 : ∀ (w0 : ℕ), b.regs (O13.MEMBER_LAST_EPOCH w0)) (c44 : ∀ (w0 : ℕ), b.regs (O12.CELLS_IO w0)) (c45 : b.regs O05.GENERAL_FREE) (c46 : ∀ (w0 : ℕ), b.regs (O05.LARGEST_FREE w0)) (c47 : ∀ (w0 : ℕ), b.regs (O05.FREE_BYTES w0)) (c48 : b.regs O01.SHADOW_STATE) (hp0 : Within b p0) : Within b (State.missed p0 p1 p2) := by
  unfold State.missed
  refine State.raise_within qevu c10 ?_
  refine State.withdraw_within qevu qsent qsess qmail qjobs qdomain qfurlongs qfabric qfmem qchain c11 c12 c13 c14 c15 c16 c17 c18 c19 c20 c21 c22 c23 c24 c25 c26 c27 c28 c29 c30 c31 c32 c33 c34 c35 c36 c37 c38 c39 c40 c41 c42 c43 c44 c45 c46 c47 c48 ?_
  exact hp0

theorem State.tryArm_within {b : Bounds} {p0} (qchain : b.parts .chain) (c1 : b.regs O01.SHADOW_STATE) (hp0 : Within b p0) : Within b (State.tryArm p0) := by
  unfold State.tryArm
  split
  · exact hp0
  · refine ite_elim (P := Within b) ?_ ?_
    · refine State.setN_within c1 ?_
      refine State.onChain_within qchain ?_
      exact hp0
    · exact hp0

theorem State.recorded_within {b : Bounds} {p0 p1 p2} (qchain : b.parts .chain) (c1 : b.regs O01.SHADOW_STATE) (hp0 : Within b p0) : Within b (State.recorded p0 p1 p2) := by
  unfold State.recorded
  extract_lets -merge -useContext -underBinder x1
  refine State.tryArm_within qchain c1 ?_
  refine State.onChain_within qchain ?_
  exact hp0

theorem State.removeStreams_within {b : Bounds} {p0 p1} (qchain : b.parts .chain) (qfabric : b.parts .fabric) (qfmem : b.parts .fmem) (c3 : b.regs O05.GENERAL_FREE) (c4 : ∀ w0, b.regs (O05.LARGEST_FREE w0)) (c5 : ∀ w0, b.regs (O05.FREE_BYTES w0)) (hp0 : Within b p0) : Within b (State.removeStreams p0 p1) := by
  unfold State.removeStreams
  extract_lets -merge -useContext -underBinder x1 x2 x3 x4 x5 x6 x7 x8 x9 x10
  have hx8 : Within b x8 := by
    unfold x8
    refine State.onChain_within qchain ?_
    exact hp0
  try clear_value x8
  have hx10 : Within b x10 := by
    unfold x10
    refine Within.f_fabric (s := x8) qfabric ?_
    exact hx8
  try clear_value x10
  refine ite_elim (P := Within b) ?_ ?_
  · exact hp0
  · refine State.forEach_within ?_ ?_
    · exact hx10
    · intro u11 u12 hu11
      refine State.freeExtent_within qfmem c3 c4 c5 ?_
      exact hu11

theorem State.placeStreams_within {b : Bounds} {p0 p1} (qchain : b.parts .chain) (qfabric : b.parts .fabric) (hp0 : Within b p0) : Within b (State.placeStreams p0 p1) := by
  unfold State.placeStreams
  extract_lets -merge -useContext -underBinder x1 x2 x3
  have hx1 : Within b x1 := by
    unfold x1
    refine State.onChain_within qchain ?_
    exact hp0
  try clear_value x1
  have hx3 : Within b x3 := by
    unfold x3
    refine Within.f_fabric (s := x1) qfabric ?_
    exact hx1
  try clear_value x3
  refine State.forEach_within ?_ ?_
  · exact hx3
  · intro u4 u5 hu4
    try beta_reduce
    extract_lets -merge -useContext -underBinder x6
    refine ite_elim (P := Within b) ?_ ?_
    · refine State.setDesc_within qfabric ?_
      exact hu4
    · refine State.setDesc_within qfabric ?_
      exact hu4

theorem State.applyPath_within {b : Bounds} {p0 p1 p2} (qconv : b.parts .conv) (qevu : b.parts .evu) (qdests : b.parts .dests) (c3 : b.regs (O09.PECK_DETAIL p2.path)) (c4 : b.regs (O09.PECKS_USED p2.path)) (c5 : b.regs (O09.FUNCS_ACTIVE p2.path)) (c6 : b.regs (O09.CONV_LATENCY p2.path)) (c7 : b.regs (O09.WORK_BYTES p2.path)) (c8 : b.regs (O09.PATH_STATE p2.path)) (c9 : ∀ k ∈ eventRegs 144, b.regs k) (c10 : b.regs (O09.PATH_FLAGS p2.path)) (hp0 : Within b p0) : Within b (State.applyPath p0 p1 p2) := by
  unfold State.applyPath
  extract_lets -merge -useContext -underBinder x1 x2 x3 x4 x5 x6 x7 x8 x9 x10 x11
  have hx5 : Within b x5 := by
    unfold x5
    refine ite_elim (P := Within b) ?_ ?_
    · refine Within.f_conv (s := p0) qconv ?_
      exact hp0
    · exact hp0
  try clear_value x5
  have hx7 : Within b x7 := by
    unfold x7
    refine Within.f_conv (s := x5) qconv ?_
    exact hx5
  try clear_value x7
  have hx8 : Within b x8 := by
    unfold x8
    refine State.placePath_within qconv qevu c3 c4 c5 c6 c7 c8 c9 c10 ?_
    exact hx7
  try clear_value x8
  have hx11 : Within b x11 := by
    unfold x11
    refine State.setDest_within qdests ?_
    exact hx8
  try clear_value x11
  refine ite_elim (P := Within b) ?_ ?_
  · exact hx8
  · refine ite_elim (P := Within b) ?_ ?_
    · refine State.setN_within c10 ?_
      refine State.setN_within c8 ?_
      exact hx11
    · exact hx11

theorem State.silenceBlock_within {b : Bounds} {p0 p1} (qamx : b.parts .amx) (c1 : b.regs (O0C.BLOCK_PHASE p1)) (hp0 : Within b p0) : Within b (State.silenceBlock p0 p1) := by
  unfold State.silenceBlock
  extract_lets -merge -useContext -underBinder x1 x2 x3 x4
  have hx3 : Within b x3 := by
    unfold x3
    refine Within.f_amx (s := p0) qamx ?_
    exact hp0
  try clear_value x3
  have hx4 : Within b x4 := by
    unfold x4
    split
    · extract_lets -merge -useContext -underBinder x5
      refine Within.f_amx (s := x3) qamx ?_
      exact hx3
    · exact hx3
  try clear_value x4
  refine State.setN_within c1 ?_
  exact hx4

theorem State.removeBlocks_within {b : Bounds} {p0} (qchain : b.parts .chain) (qfabric : b.parts .fabric) (qfmem : b.parts .fmem) (qamx : b.parts .amx) (c4 : b.regs O05.GENERAL_FREE) (c5 : ∀ (w0 : ℕ), b.regs (O05.LARGEST_FREE w0)) (c6 : ∀ (w0 : ℕ), b.regs (O05.FREE_BYTES w0)) (c7 : ∀ (w0 : ℕ), b.regs (O0C.BLOCK_PHASE w0)) (hp0 : Within b p0) : Within b (State.removeBlocks p0) := by
  unfold State.removeBlocks
  extract_lets -merge -useContext -underBinder x1
  refine State.forEach_within ?_ ?_
  · refine State.removeStreams_within qchain qfabric qfmem c4 c5 c6 ?_
    exact hp0
  · intro u2 u3 hu4
    try beta_reduce
    refine State.silenceBlock_within qamx (c7 _) ?_
    exact hu4

theorem State.copyBanks_within {b : Bounds} {p0} (qchain : b.parts .chain) (hp0 : Within b p0) : Within b (State.copyBanks p0) := by
  unfold State.copyBanks
  refine State.onChain_within qchain ?_
  exact hp0

theorem State.postSwap_within {b : Bounds} {p0} (qfabric : b.parts .fabric) (c1 : b.regs O04.STREAMS_ACTIVE) (c2 : ∀ (w0 : ℕ), b.regs (O12.MEDIA_CELLS w0)) (c3 : ∀ (w0 w1 : ℕ), b.regs (O0C.DEST_TERMS w0 w1)) (c4 : ∀ (w0 : ℕ), b.regs (O0C.BLOCK_TERMS w0)) (c5 : b.regs O0C.PHASE_TERMS) (c6 : b.regs O0C.TERMS_COMMITTED) (c7 : ∀ (w0 : ℕ), b.regs (O09.BUSHEL_PATHS w0)) (c8 : ∀ (w0 : ℕ), b.regs (O09.PECK_MASK w0)) (c9 : ∀ (w0 : ℕ), b.regs (O09.BUSHEL_STATE w0)) (c10 : b.regs O09.BUSHELS_IN_SERVICE) (c11 : b.regs O09.POOL_PECKS) (c12 : b.regs O09.PECKS_COMMITTED) (c13 : b.regs O09.PECKS_FREE) (c14 : b.regs O09.PATHS_SHED) (c15 : b.regs O09.PATHS_RUNNING) (hp0 : Within b p0) : Within b (State.postSwap p0) := by
  unfold State.postSwap
  extract_lets -merge -useContext -underBinder x1
  have hx1 : Within b x1 := by
    unfold x1
    refine State.forEach_within ?_ ?_
    · exact hp0
    · intro u2 u3 hu4
      try beta_reduce
      refine State.onDesc_within qfabric ?_
      exact hu4
  try clear_value x1
  refine State.countCommitted_within c1 c2 c3 c4 c5 c6 c7 c8 c9 c10 c11 c12 c13 c14 c15 ?_
  exact hx1

theorem State.swapIn_within {b : Bounds} {p0 p1 p2} (qevu : b.parts .evu) (qdests : b.parts .dests) (qamx : b.parts .amx) (qnet : b.parts .net) (qcues : b.parts .cues) (qtiming : b.parts .timing) (qclocks : b.parts .clocks) (qlanes : b.parts .lanes) (qfabric : b.parts .fabric) (qinputs : b.parts .inputs) (qaudio : b.parts .audio) (qfresh : b.parts .fresh) (qsent : b.parts .sent) (qsess : b.parts .sess) (qmail : b.parts .mail) (qjobs : b.parts .jobs) (qfurlongs : b.parts .furlongs) (qdomain : b.parts .domain) (qconv : b.parts .conv) (qchain : b.parts .chain) (qfmem : b.parts .fmem) (qjrnl : b.parts .jrnl) (hk : ∀ k, b.regs k) (hp0 : Within b p0) : Within b (State.swapIn p0 p1 p2) := by
  unfold State.swapIn
  extract_lets -merge -useContext -underBinder x1 x2 x3 x4 x5 x6 x7 x8 x9 x10 x11 x12 x13 x14 x15
  have hx2 : Within b x2 := by
    unfold x2
    refine State.applyRoutes_within qevu qdests qamx (fun _ _ => hk _) (fun _ => hk _) (fun _ => hk _) (fun _ => hk _) (fun _ => hk _) (fun _ => hk _) (fun _ _ => hk _) (fun _ _ => hk _) (fun _ _ _ => hk _) (hk _) (fun _ => hk _) ?_
    refine State.applyValues_within qamx qnet qcues qtiming qclocks qevu qlanes qfabric qinputs qdests qaudio qfresh qsent qsess qmail qjobs qfurlongs qdomain hk ?_
    exact hp0
  try clear_value x2
  have hx3 : Within b x3 := by
    unfold x3
    refine State.forEach_within ?_ ?_
    · exact hx2
    · intro u16 u17 hu18
      try beta_reduce
      refine State.applyPath_within qconv qevu qdests (hk _) (hk _) (hk _) (hk _) (hk _) (hk _) (fun _ _ => hk _) (hk _) ?_
      exact hu18
  try clear_value x3
  have hx4 : Within b x4 := by
    unfold x4
    refine State.placeStreams_within qchain qfabric ?_
    refine State.removeStreams_within qchain qfabric qfmem (hk _) (fun _ => hk _) (fun _ => hk _) ?_
    exact hx3
  try clear_value x4
  have hx5 : Within b x5 := by
    unfold x5
    refine State.forEach_within ?_ ?_
    · exact hx4
    · intro u19 u20 hu21
      try beta_reduce
      refine State.setN_within (hk _) ?_
      exact hu21
  try clear_value x5
  have hx7 : Within b x7 := by
    unfold x7
    refine Within.f_amx (s := x5) qamx ?_
    exact hx5
  try clear_value x7
  have hx8 : Within b x8 := by
    unfold x8
    refine State.onChain_within qchain ?_
    exact hx7
  try clear_value x8
  have hx10 : Within b x10 := by
    unfold x10
    refine Within.f_conv (s := x8) qconv ?_
    exact hx8
  try clear_value x10
  have hx11 : Within b x11 := by
    unfold x11
    split
    · refine State.onDomain_within qdomain ?_
      exact hx10
    · exact hx10
  try clear_value x11
  have hx12 : Within b x12 := by
    unfold x12
    refine State.setN_within (hk _) ?_
    refine State.bump_within (hk _) ?_
    refine State.setN_within (hk _) ?_
    exact hx11
  try clear_value x12
  have hx13 : Within b x13 := by
    unfold x13
    refine State.copyBanks_within qchain ?_
    refine State.countCommitted_within (hk _) (fun _ => hk _) (fun _ _ => hk _) (fun _ => hk _) (hk _) (hk _) (fun _ => hk _) (fun _ => hk _) (fun _ => hk _) (hk _) (hk _) (hk _) (hk _) (hk _) (hk _) ?_
    refine State.lutUsers_within (fun _ => hk _) ?_
    refine State.recount_within qfurlongs (fun _ => hk _) (fun _ => hk _) (fun _ => hk _) (fun _ => hk _) (hk _) (hk _) (hk _) (hk _) (hk _) (fun _ => hk _) (fun _ => hk _) ?_
    refine State.removeBlocks_within qchain qfabric qfmem qamx (hk _) (fun _ => hk _) (fun _ => hk _) (fun _ => hk _) ?_
    refine State.countTerms_within (fun _ _ => hk _) (fun _ => hk _) (hk _) (hk _) ?_
    refine State.setN_within (hk _) ?_
    exact hx12
  try clear_value x13
  have hx14 : Within b x14 := by
    unfold x14
    refine State.raise_within qevu (fun _ _ => hk _) ?_
    exact hx13
  try clear_value x14
  split
  · refine ite_elim (P := Within b) ?_ ?_
    · refine State.addRec_within qjrnl ?_
      exact hx14
    · refine State.finish_within qevu qsent qsess qmail qjobs qdomain qfurlongs (hk _) (hk _) (fun _ _ => hk _) (fun _ => hk _) (fun _ _ => hk _) (hk _) (hk _) (fun _ _ => hk _) (fun _ => hk _) (fun _ => hk _) (fun _ => hk _) (fun _ _ => hk _) (hk _) (fun _ _ => hk _) (hk _) (fun _ _ => hk _) (hk _) (fun _ => hk _) (fun _ => hk _) ?_
      exact hx14
  · refine State.finish_within qevu qsent qsess qmail qjobs qdomain qfurlongs (hk _) (hk _) (fun _ _ => hk _) (fun _ => hk _) (fun _ _ => hk _) (hk _) (hk _) (fun _ _ => hk _) (fun _ => hk _) (fun _ => hk _) (fun _ => hk _) (fun _ _ => hk _) (hk _) (fun _ _ => hk _) (hk _) (fun _ _ => hk _) (hk _) (fun _ => hk _) (fun _ => hk _) ?_
    exact hx14

theorem State.commitDecision_within {b : Bounds} {p0} (qevu : b.parts .evu) (qsent : b.parts .sent) (qsess : b.parts .sess) (qmail : b.parts .mail) (qjobs : b.parts .jobs) (qdomain : b.parts .domain) (qfurlongs : b.parts .furlongs) (qfabric : b.parts .fabric) (qfmem : b.parts .fmem) (qchain : b.parts .chain) (qdests : b.parts .dests) (qamx : b.parts .amx) (qnet : b.parts .net) (qcues : b.parts .cues) (qtiming : b.parts .timing) (qclocks : b.parts .clocks) (qlanes : b.parts .lanes) (qinputs : b.parts .inputs) (qaudio : b.parts .audio) (qfresh : b.parts .fresh) (qconv : b.parts .conv) (qjrnl : b.parts .jrnl) (hk : ∀ k, b.regs k) (hp0 : Within b p0) : Within b (State.commitDecision p0) := by
  unfold State.commitDecision
  extract_lets -merge -useContext -underBinder x1 x2 x3
  have hx3 : Within b x3 := by
    unfold x3
    refine State.forEach_within ?_ ?_
    · exact hp0
    · intro u4 u5 hu6
      try beta_reduce
      refine State.missed_within qevu qsent qsess qmail qjobs qdomain qfurlongs qfabric qfmem qchain (fun _ _ => hk _) (hk _) (fun _ => hk _) (fun _ _ => hk _) (fun _ => hk _) (hk _) (hk _) (fun _ => hk _) (fun _ => hk _) (fun _ => hk _) (hk _) (hk _) (hk _) (hk _) (hk _) (hk _) (hk _) (hk _) (fun _ _ => hk _) (fun _ => hk _) (fun _ _ => hk _) (hk _) (hk _) (fun _ _ => hk _) (fun _ => hk _) (fun _ => hk _) (fun _ => hk _) (fun _ _ => hk _) (hk _) (fun _ _ => hk _) (hk _) (fun _ _ => hk _) (hk _) (fun _ => hk _) (fun _ => hk _) (hk _) (fun _ => hk _) (fun _ => hk _) (hk _) ?_
      exact hu6
  try clear_value x3
  split
  · exact hx3
  · refine ite_elim (P := Within b) ?_ ?_
    · exact hx3
    · refine ite_elim (P := Within b) ?_ ?_
      · refine State.missed_within qevu qsent qsess qmail qjobs qdomain qfurlongs qfabric qfmem qchain (fun _ _ => hk _) (hk _) (fun _ => hk _) (fun _ _ => hk _) (fun _ => hk _) (hk _) (hk _) (fun _ => hk _) (fun _ => hk _) (fun _ => hk _) (hk _) (hk _) (hk _) (hk _) (hk _) (hk _) (hk _) (hk _) (fun _ _ => hk _) (fun _ => hk _) (fun _ _ => hk _) (hk _) (hk _) (fun _ _ => hk _) (fun _ => hk _) (fun _ => hk _) (fun _ => hk _) (fun _ _ => hk _) (hk _) (fun _ _ => hk _) (hk _) (fun _ _ => hk _) (hk _) (fun _ => hk _) (fun _ => hk _) (hk _) (fun _ => hk _) (fun _ => hk _) (hk _) ?_
        exact hx3
      · split
        · refine ite_elim (P := Within b) ?_ ?_
          · refine State.swapIn_within qevu qdests qamx qnet qcues qtiming qclocks qlanes qfabric qinputs qaudio qfresh qsent qsess qmail qjobs qfurlongs qdomain qconv qchain qfmem qjrnl hk ?_
            exact hx3
          · refine State.withdrawPart_within qdomain qevu qsent qsess qmail qfurlongs qfabric qfmem qchain (hk _) (fun _ => hk _) (fun _ _ => hk _) (fun _ => hk _) (hk _) (hk _) (fun _ => hk _) (fun _ => hk _) (fun _ => hk _) (hk _) (hk _) (hk _) (hk _) (hk _) (hk _) (fun _ _ => hk _) (hk _) (fun _ _ => hk _) (hk _) (fun _ _ => hk _) (hk _) (fun _ => hk _) (fun _ => hk _) (fun _ _ => hk _) (hk _) (hk _) (fun _ => hk _) (hk _) (fun _ => hk _) (fun _ => hk _) (hk _) ?_
            exact hx3
        · refine State.swapIn_within qevu qdests qamx qnet qcues qtiming qclocks qlanes qfabric qinputs qaudio qfresh qsent qsess qmail qjobs qfurlongs qdomain qconv qchain qfmem qjrnl hk ?_
          exact hx3

theorem State.stepWithdraw_within {b : Bounds} {p0 p1} (qevu : b.parts .evu) (qsent : b.parts .sent) (qsess : b.parts .sess) (qmail : b.parts .mail) (qjobs : b.parts .jobs) (qdomain : b.parts .domain) (qfurlongs : b.parts .furlongs) (qfabric : b.parts .fabric) (qfmem : b.parts .fmem) (qchain : b.parts .chain) (c10 : b.regs O04.STREAMS_ACTIVE) (c11 : ∀ (w0 : ℕ), b.regs (O12.MEDIA_CELLS w0)) (c12 : ∀ (w0 w1 : ℕ), b.regs (O0C.DEST_TERMS w0 w1)) (c13 : ∀ (w0 : ℕ), b.regs (O0C.BLOCK_TERMS w0)) (c14 : b.regs O0C.PHASE_TERMS) (c15 : b.regs O0C.TERMS_COMMITTED) (c16 : ∀ (w0 : ℕ), b.regs (O09.BUSHEL_PATHS w0)) (c17 : ∀ (w0 : ℕ), b.regs (O09.PECK_MASK w0)) (c18 : ∀ (w0 : ℕ), b.regs (O09.BUSHEL_STATE w0)) (c19 : b.regs O09.BUSHELS_IN_SERVICE) (c20 : b.regs O09.POOL_PECKS) (c21 : b.regs O09.PECKS_COMMITTED) (c22 : b.regs O09.PECKS_FREE) (c23 : b.regs O09.PATHS_SHED) (c24 : b.regs O09.PATHS_RUNNING) (c25 : ∀ (w0 : ℕ), b.regs (O08.SALVO_LAST_STATUS w0)) (c26 : ∀ (w0 : ℕ), b.regs (O08.SALVO_LAST_TICK w0)) (c27 : ∀ k ∈ eventRegs 130, b.regs k) (c28 : ∀ (w0 : ℕ), b.regs (O1C.SESS_QUEUE w0)) (c29 : ∀ k ∈ eventRegs 451, b.regs k) (c30 : b.regs O1C.FILULO_FLAGS) (c31 : b.regs O1C.TX_LAST) (c32 : ∀ k ∈ eventRegs 321, b.regs k) (c33 : ∀ (w0 : ℕ), b.regs (O14.CE_STATUS w0)) (c34 : ∀ (w0 : ℕ), b.regs (O14.LAST_ERROR w0)) (c35 : ∀ (w0 : ℕ), b.regs (O14.ACTION_ERRORS w0)) (c36 : ∀ k ∈ eventRegs 308, b.regs k) (c37 : b.regs O13.LAST_EPOCH) (c38 : ∀ k ∈ eventRegs 312, b.regs k) (c39 : b.regs O13.DOMAIN_STATE) (c40 : ∀ k ∈ eventRegs 309, b.regs k) (c41 : b.regs O13.DOMAIN_FLAGS) (c42 : ∀ (w0 : ℕ), b.regs (O13.MEMBER_LAST_EPOCH w0)) (c43 : ∀ (w0 : ℕ), b.regs (O12.CELLS_IO w0)) (c44 : b.regs O05.GENERAL_FREE) (c45 : ∀ (w0 : ℕ), b.regs (O05.LARGEST_FREE w0)) (c46 : ∀ (w0 : ℕ), b.regs (O05.FREE_BYTES w0)) (c47 : b.regs O01.SHADOW_STATE) (hp0 : Within b p0) : Within b (State.stepWithdraw p0 p1) := by
  unfold State.stepWithdraw
  refine State.forEach_within ?_ ?_
  · exact hp0
  · intro u1 u2 hu3
    try beta_reduce
    refine State.withdraw_within qevu qsent qsess qmail qjobs qdomain qfurlongs qfabric qfmem qchain c10 c11 c12 c13 c14 c15 c16 c17 c18 c19 c20 c21 c22 c23 c24 (c25 _) (c26 _) c27 c28 c29 c30 c31 c32 c33 c34 c35 c36 c37 c38 c39 c40 c41 c42 c43 c44 c45 c46 c47 ?_
    exact hu3

theorem State.commitTx_within {b : Bounds} {p0 p1 p2 p3 p4} (qevu : b.parts .evu) (qfmem : b.parts .fmem) (qchain : b.parts .chain) (qjrnl : b.parts .jrnl) (hk : ∀ k, b.regs k) (hp0 : Within b p0) : Within1 b (State.commitTx p0 p1 p2 p3 p4) := by
  unfold State.commitTx
  split
  · rename_i y1 y2 e3
    have k4 := transport (P := Within21E b) e3 (by
      refine State.checkTx_within hk ?_
      exact hp0
      )
    refine within1_mk ?_
    refine ite_elim (P := Within b) ?_ ?_
    · refine State.protectHits_within qevu (fun _ _ => hk _) (fun _ => hk _) ?_
      exact hp0
    · exact hp0
  · rename_i y5 y6 y7 y8 e9
    have k10 := transport (P := Within21E b) e9 (by
      refine State.checkTx_within hk ?_
      exact hp0
      )
    extract_lets -merge -useContext -underBinder x11 x12
    refine ite_elim (P := Within1 b) ?_ ?_
    · refine within1_mk ?_
      exact hp0
    · refine ite_elim (P := Within1 b) ?_ ?_
      · refine within1_mk ?_
        exact hp0
      · refine ite_elim (P := Within1 b) ?_ ?_
        · refine within1_mk ?_
          refine State.journalFull_within qevu (fun _ _ => hk _) (hk _) ?_
          exact hp0
        · refine ite_elim (P := Within1 b) ?_ ?_
          · refine within1_mk ?_
            exact hp0
          · split
            · rename_i y13 y14 e15
              have k16 := transport (P := Within2E b) e15 (by
                refine State.admitTx_within qfmem (hk _) (fun _ => hk _) (fun _ => hk _) ?_
                exact hp0
                )
              refine within1_mk ?_
              refine State.refused_within qevu (hk _) (fun _ _ => hk _) (fun _ _ => hk _) (hk _) ?_
              exact hp0
            · rename_i y17 y18 y19 e20
              have k21 := transport (P := Within2E b) e20 (by
                refine State.admitTx_within qfmem (hk _) (fun _ => hk _) (fun _ => hk _) ?_
                exact hp0
                )
              extract_lets -merge -useContext -underBinder x22 x23 x24
              have hx23 : Within b x23 := by
                unfold x23
                refine State.enqueueTx_within qchain ?_
                exact (k21 _ rfl)
              try clear_value x23
              have hx24 : Within b x24 := by
                unfold x24
                refine ite_elim (P := Within b) ?_ ?_
                · exact hx23
                · refine State.addRec_within qjrnl ?_
                  exact hx23
              try clear_value x24
              refine within1_mk ?_
              refine State.countCommitted_within (hk _) (fun _ => hk _) (fun _ _ => hk _) (fun _ => hk _) (hk _) (hk _) (fun _ => hk _) (fun _ => hk _) (fun _ => hk _) (hk _) (hk _) (hk _) (hk _) (hk _) (hk _) ?_
              refine State.pump_within qchain (hk _) ?_
              exact hx24

theorem State.fireSalvo_within {b : Bounds} {p0 p1 p2 p3 p4 p5} (qevu : b.parts .evu) (qfmem : b.parts .fmem) (qchain : b.parts .chain) (qjrnl : b.parts .jrnl) (hk : ∀ k, b.regs k) (hp0 : Within b p0) : Within1 b (State.fireSalvo p0 p1 p2 p3 p4 p5) := by
  unfold State.fireSalvo
  extract_lets -merge -useContext -underBinder x1 x2 x3 x4
  have hx3 : Within1 b x3 := by
    unfold x3
    refine State.commitTx_within qevu qfmem qchain qjrnl hk ?_
    exact hp0
  try clear_value x3
  have hx4 : Within b x4 := by
    unfold x4
    refine State.setN_within (hk _) ?_
    change Within1 b _
    exact hx3
  try clear_value x4
  refine ite_elim (P := Within1 b) ?_ ?_
  · refine within1_mk ?_
    refine State.setN_within (hk _) ?_
    exact hp0
  · refine ite_elim (P := Within1 b) ?_ ?_
    · refine within1_mk ?_
      exact hx4
    · refine within1_mk ?_
      refine State.raise_within qevu (fun _ _ => hk _) ?_
      exact hx4

theorem State.readmitPath_within {b : Bounds} {p0 p1 p2} (qevu : b.parts .evu) (qfmem : b.parts .fmem) (qchain : b.parts .chain) (qjrnl : b.parts .jrnl) (hk : ∀ k, b.regs k) (hp0 : Within b p0) : Within b (State.readmitPath p0 p1 p2) := by
  unfold State.readmitPath
  extract_lets -merge -useContext -underBinder x1 x2 x3
  split
  · refine ite_elim (P := Within b) ?_ ?_
    · refine State.raise_within qevu (fun _ _ => hk _) ?_
      exact hp0
    · exact hp0
  · extract_lets -merge -useContext -underBinder x4 x5 x6
    have hx6 : Within1 b x6 := by
      unfold x6
      refine State.commitTx_within qevu qfmem qchain qjrnl hk ?_
      exact hp0
    try clear_value x6
    refine ite_elim (P := Within b) ?_ ?_
    · exact hp0
    · refine ite_elim (P := Within b) ?_ ?_
      · change Within1 b _
        exact hx6
      · refine ite_elim (P := Within b) ?_ ?_
        · refine State.raise_within qevu (fun _ _ => hk _) ?_
          change Within1 b _
          exact hx6
        · refine State.raise_within qevu (fun _ _ => hk _) ?_
          change Within1 b _
          exact hx6

theorem State.shedPaths_within {b : Bounds} {p0 p1} (qevu : b.parts .evu) (qconv : b.parts .conv) (c2 : ∀ w0, b.regs (O09.BUSHEL_PATHS w0)) (c3 : ∀ w0, b.regs (O09.PECK_MASK w0)) (c4 : ∀ w0, b.regs (O09.BUSHEL_STATE w0)) (c5 : b.regs O09.BUSHELS_IN_SERVICE) (c6 : b.regs O09.POOL_PECKS) (c7 : b.regs O09.PECKS_COMMITTED) (c8 : b.regs O09.PECKS_FREE) (c9 : b.regs O09.PATHS_SHED) (c10 : b.regs O09.PATHS_RUNNING) (c11 : ∀ k ∈ eventRegs 151, b.regs k) (c12 : ∀ w0, b.regs (O09.PATH_FLAGS w0)) (c13 : ∀ w0, b.regs (O09.PECKS_USED w0)) (c14 : ∀ w0, b.regs (O09.PATH_STATE w0)) (hp1 : Within b p1) : Within b (State.shedPaths p0 p1) := by
  induction p0 generalizing p1 with
  | zero => exact hp1
  | succ f ih =>
    unfold State.shedPaths
    extract_lets x1
    have hx1 : Within b x1 := State.poolCount_within c2 c3 c4 c5 c6 c7 c8 c9 c10 hp1
    clear_value x1
    refine ite_elim (P := Within b) hx1 ?_
    split
    · exact ih (State.shedPath_within qevu qconv c11 (c12 _) (c13 _) (c14 _) hx1)
    · exact hx1

theorem State.relocate_within {b : Bounds} {p0} (qevu : b.parts .evu) (qfmem : b.parts .fmem) (qchain : b.parts .chain) (qjrnl : b.parts .jrnl) (hk : ∀ k, b.regs k) (hp0 : Within b p0) : Within b (State.relocate p0) := by
  unfold State.relocate
  refine State.forEach_within ?_ ?_
  · exact hp0
  · intro u1 u2 hu3
    try beta_reduce
    refine State.readmitPath_within qevu qfmem qchain qjrnl hk ?_
    exact hu3

theorem State.unshed_within {b : Bounds} {p0 p1} (qevu : b.parts .evu) (qfmem : b.parts .fmem) (qchain : b.parts .chain) (qjrnl : b.parts .jrnl) (hk : ∀ k, b.regs k) (hp1 : Within b p1) : Within b (State.unshed p0 p1) := by
  induction p0 generalizing p1 with
  | zero => exact hp1
  | succ n ih =>
    unfold State.unshed
    split
    · exact hp1
    · rename_i d l e
      have h : Within b (p1.readmitPath d Plan.empty) := State.readmitPath_within qevu qfmem qchain qjrnl hk hp1
      split
      · exact hp1
      · extract_lets t
        exact ite_elim (P := Within b) hp1 (ih h)

theorem State.reloadBank_within {b : Bounds} {p0 p1} (qchain : b.parts .chain) (hp0 : Within b p0) : Within b (State.reloadBank p0 p1) := by
  unfold State.reloadBank
  refine State.onChain_within qchain ?_
  exact hp0

theorem State.readmit_within {b : Bounds} {p0} (qdomain : b.parts .domain) (qevu : b.parts .evu) (qsent : b.parts .sent) (qsess : b.parts .sess) (qmail : b.parts .mail) (qfurlongs : b.parts .furlongs) (qfabric : b.parts .fabric) (qfmem : b.parts .fmem) (qchain : b.parts .chain) (qjobs : b.parts .jobs) (c10 : b.regs O04.STREAMS_ACTIVE) (c11 : ∀ (w0 : ℕ), b.regs (O12.MEDIA_CELLS w0)) (c12 : ∀ (w0 w1 : ℕ), b.regs (O0C.DEST_TERMS w0 w1)) (c13 : ∀ (w0 : ℕ), b.regs (O0C.BLOCK_TERMS w0)) (c14 : b.regs O0C.PHASE_TERMS) (c15 : b.regs O0C.TERMS_COMMITTED) (c16 : ∀ (w0 : ℕ), b.regs (O09.BUSHEL_PATHS w0)) (c17 : ∀ (w0 : ℕ), b.regs (O09.PECK_MASK w0)) (c18 : ∀ (w0 : ℕ), b.regs (O09.BUSHEL_STATE w0)) (c19 : b.regs O09.BUSHELS_IN_SERVICE) (c20 : b.regs O09.POOL_PECKS) (c21 : b.regs O09.PECKS_COMMITTED) (c22 : b.regs O09.PECKS_FREE) (c23 : b.regs O09.PATHS_SHED) (c24 : b.regs O09.PATHS_RUNNING) (c25 : ∀ k ∈ eventRegs 308, b.regs k) (c26 : b.regs O13.LAST_EPOCH) (c27 : ∀ k ∈ eventRegs 312, b.regs k) (c28 : b.regs O13.DOMAIN_STATE) (c29 : ∀ k ∈ eventRegs 309, b.regs k) (c30 : b.regs O13.DOMAIN_FLAGS) (c31 : ∀ (w0 : ℕ), b.regs (O13.MEMBER_LAST_EPOCH w0)) (c32 : ∀ (w0 : ℕ), b.regs (O1C.SESS_QUEUE w0)) (c33 : ∀ k ∈ eventRegs 451, b.regs k) (c34 : b.regs O1C.FILULO_FLAGS) (c35 : b.regs O1C.TX_LAST) (c36 : ∀ (w0 : ℕ), b.regs (O12.CELLS_IO w0)) (c37 : b.regs O05.GENERAL_FREE) (c38 : ∀ (w0 : ℕ), b.regs (O05.LARGEST_FREE w0)) (c39 : ∀ (w0 : ℕ), b.regs (O05.FREE_BYTES w0)) (c40 : b.regs O01.SHADOW_STATE) (c41 : ∀ k ∈ eventRegs 24, b.regs k) (c42 : ∀ (w0 : ℕ), b.regs (O08.SALVO_LAST_STATUS w0)) (c43 : ∀ (w0 : ℕ), b.regs (O08.SALVO_LAST_TICK w0)) (c44 : ∀ k ∈ eventRegs 130, b.regs k) (c45 : ∀ k ∈ eventRegs 321, b.regs k) (c46 : ∀ (w0 : ℕ), b.regs (O14.CE_STATUS w0)) (c47 : ∀ (w0 : ℕ), b.regs (O14.LAST_ERROR w0)) (c48 : ∀ (w0 : ℕ), b.regs (O14.ACTION_ERRORS w0)) (c49 : b.regs O01.LAST_REFUSAL) (hp0 : Within b p0) : Within b (State.readmit p0) := by
  unfold State.readmit
  extract_lets -merge -useContext -underBinder x1 x2 x3 x4 x5 x6 x7
  have hx4 : Within b x4 := by
    unfold x4
    refine State.forEach_within ?_ ?_
    · exact hp0
    · intro u8 u9 hu10
      try beta_reduce
      refine State.withdrawPart_within qdomain qevu qsent qsess qmail qfurlongs qfabric qfmem qchain c10 c11 c12 c13 c14 c15 c16 c17 c18 c19 c20 c21 c22 c23 c24 c25 c26 c27 c28 c29 c30 c31 c32 c33 c34 c35 c36 c37 c38 c39 c40 ?_
      exact hu10
  try clear_value x4
  have hx7 : Within b x7 := by
    unfold x7
    refine State.forEach_within ?_ ?_
    · exact hx4
    · intro u11 u12 hu13
      try beta_reduce
      refine State.missed_within qevu qsent qsess qmail qjobs qdomain qfurlongs qfabric qfmem qchain c41 c10 c11 c12 c13 c14 c15 c16 c17 c18 c19 c20 c21 c22 c23 c24 (c42 _) (c43 _) c44 c32 c33 c34 c35 c45 c46 c47 c48 c25 c26 c27 c28 c29 c30 c31 c36 c37 c38 c39 c40 ?_
      refine State.setN_within c49 ?_
      exact hu13
  try clear_value x7
  split
  · exact hx7
  · extract_lets -merge -useContext -underBinder x14 x15 x16 x17 x18
    have hx18 : Within b x18 := by
      unfold x18
      refine State.onChain_within qchain ?_
      exact hx7
    try clear_value x18
    refine State.tryArm_within qchain c40 ?_
    refine State.setN_within c40 ?_
    exact hx18

theorem execShadowWriteDone_within {b : Bounds} {p0 p1} (qevu : b.parts .evu) (qchain : b.parts .chain) (c2 : b.regs O01.SHADOW_STATE) (c3 : ∀ k ∈ eventRegs 25, b.regs k) (hp1 : Within b p1) : WithinOut b (execShadowWriteDone p0 p1) := by
  unfold execShadowWriteDone
  refine live_within ?_ ?_
  · exact hp1
  · intro u1 hu1
    try beta_reduce
    extract_lets -merge -useContext -underBinder x2
    have hx2 : Within b x2 := by
      unfold x2
      refine State.pump_within qchain c2 ?_
      exact hu1
    try clear_value x2
    split
    · exact hx2
    · refine ite_elim (P := Within b) ?_ ?_
      · exact hx2
      · refine ite_elim (P := Within b) ?_ ?_
        · refine State.raise_within qevu c3 ?_
          exact hx2
        · refine State.tryArm_within qchain c2 ?_
          refine State.onChain_within qchain ?_
          exact hx2

theorem execMirrorComplete_within {b : Bounds} {p0} (qchain : b.parts .chain) (c1 : b.regs O01.SHADOW_STATE) (hp0 : Within b p0) : WithinOut b (execMirrorComplete p0) := by
  unfold execMirrorComplete
  refine live_within ?_ ?_
  · exact hp0
  · intro u1 hu2
    try beta_reduce
    refine ite_elim (P := Within b) ?_ ?_
    · refine State.pump_within qchain c1 ?_
      refine State.setN_within c1 ?_
      refine State.copyBanks_within qchain ?_
      refine State.onChain_within qchain ?_
      exact hu2
    · exact hu2

theorem execSalvoFire_within {b : Bounds} {p0 p1 p2 p3} (qevu : b.parts .evu) (qfmem : b.parts .fmem) (qchain : b.parts .chain) (qjrnl : b.parts .jrnl) (hk : ∀ k, b.regs k) (hp3 : Within b p3) : WithinOut b (execSalvoFire p0 p1 p2 p3) := by
  unfold execSalvoFire
  refine onInst_within ?_ ?_
  · exact hp3
  · intro u1 hu2
    try beta_reduce
    refine ite_elim (P := Within b) ?_ ?_
    · change Within1 b _
      refine State.fireSalvo_within qevu qfmem qchain qjrnl hk ?_
      exact hu2
    · exact hu2

theorem execPathReadmit_within {b : Bounds} {p0 p1 p2} (qevu : b.parts .evu) (qfmem : b.parts .fmem) (qchain : b.parts .chain) (qjrnl : b.parts .jrnl) (hk : ∀ k, b.regs k) (hp2 : Within b p2) : WithinOut b (execPathReadmit p0 p1 p2) := by
  unfold execPathReadmit
  refine onInst_within ?_ ?_
  · exact hp2
  · intro u1 hu2
    try beta_reduce
    refine ite_elim (P := Within b) ?_ ?_
    · refine State.readmitPath_within qevu qfmem qchain qjrnl hk ?_
      exact hu2
    · exact hu2

theorem execChainRestart_within {b : Bounds} {p0 p1} (qevu : b.parts .evu) (qchain : b.parts .chain) (qfabric : b.parts .fabric) (qtick : b.parts .tick) (qdomain : b.parts .domain) (qsent : b.parts .sent) (qsess : b.parts .sess) (qmail : b.parts .mail) (qfurlongs : b.parts .furlongs) (qfmem : b.parts .fmem) (qjobs : b.parts .jobs) (qcues : b.parts .cues) (qconv : b.parts .conv) (qamx : b.parts .amx) (qfresh : b.parts .fresh) (qaudio : b.parts .audio) (qnet : b.parts .net) (c17 : ∀ k ∈ eventRegs 25, b.regs k) (c18 : b.regs O04.STREAMS_ACTIVE) (c19 : ∀ (w0 : ℕ), b.regs (O12.MEDIA_CELLS w0)) (c20 : ∀ (w0 w1 : ℕ), b.regs (O0C.DEST_TERMS w0 w1)) (c21 : ∀ (w0 : ℕ), b.regs (O0C.BLOCK_TERMS w0)) (c22 : b.regs O0C.PHASE_TERMS) (c23 : b.regs O0C.TERMS_COMMITTED) (c24 : ∀ (w0 : ℕ), b.regs (O09.BUSHEL_PATHS w0)) (c25 : ∀ (w0 : ℕ), b.regs (O09.PECK_MASK w0)) (c26 : ∀ (w0 : ℕ), b.regs (O09.BUSHEL_STATE w0)) (c27 : b.regs O09.BUSHELS_IN_SERVICE) (c28 : b.regs O09.POOL_PECKS) (c29 : b.regs O09.PECKS_COMMITTED) (c30 : b.regs O09.PECKS_FREE) (c31 : b.regs O09.PATHS_SHED) (c32 : b.regs O09.PATHS_RUNNING) (c33 : ∀ k ∈ eventRegs 308, b.regs k) (c34 : b.regs O13.LAST_EPOCH) (c35 : ∀ k ∈ eventRegs 312, b.regs k) (c36 : b.regs O13.DOMAIN_STATE) (c37 : ∀ k ∈ eventRegs 309, b.regs k) (c38 : b.regs O13.DOMAIN_FLAGS) (c39 : ∀ (w0 : ℕ), b.regs (O13.MEMBER_LAST_EPOCH w0)) (c40 : ∀ (w0 : ℕ), b.regs (O1C.SESS_QUEUE w0)) (c41 : ∀ k ∈ eventRegs 451, b.regs k) (c42 : b.regs O1C.FILULO_FLAGS) (c43 : b.regs O1C.TX_LAST) (c44 : ∀ (w0 : ℕ), b.regs (O12.CELLS_IO w0)) (c45 : b.regs O05.GENERAL_FREE) (c46 : ∀ (w0 : ℕ), b.regs (O05.LARGEST_FREE w0)) (c47 : ∀ (w0 : ℕ), b.regs (O05.FREE_BYTES w0)) (c48 : b.regs O01.SHADOW_STATE) (c49 : ∀ k ∈ eventRegs 24, b.regs k) (c50 : ∀ (w0 : ℕ), b.regs (O08.SALVO_LAST_STATUS w0)) (c51 : ∀ (w0 : ℕ), b.regs (O08.SALVO_LAST_TICK w0)) (c52 : ∀ k ∈ eventRegs 130, b.regs k) (c53 : ∀ k ∈ eventRegs 321, b.regs k) (c54 : ∀ (w0 : ℕ), b.regs (O14.CE_STATUS w0)) (c55 : ∀ (w0 : ℕ), b.regs (O14.LAST_ERROR w0)) (c56 : ∀ (w0 : ℕ), b.regs (O14.ACTION_ERRORS w0)) (c57 : b.regs O01.LAST_REFUSAL) (c58 : ∀ k ∈ eventRegs 19, b.regs k) (c59 : b.regs O01.CHAIN_STATE) (c60 : ∀ (w0 : ℕ), b.regs (O14.CE_STATE w0)) (c61 : ∀ (w0 : ℕ), b.regs (O09.PATH_FLAGS w0)) (c62 : ∀ (w0 : ℕ), b.regs (O09.PATH_STATE w0)) (c63 : ∀ (w0 : ℕ), b.regs (State.stateKey w0)) (c64 : ∀ (w0 : ℕ), b.regs (O0D.SEND_STATE w0)) (hp1 : Within b p1) : WithinOut b (execChainRestart p0 p1) := by
  unfold execChainRestart
  refine live_within ?_ ?_
  · exact hp1
  · intro u1 hu2
    try beta_reduce
    extract_lets -merge -useContext -underBinder x3 x4 x5 x6 x7 x8 x9
    have hx3 : Within b x3 := by
      unfold x3
      refine State.forEach_within ?_ ?_
      · exact hu2
      · intro u10 u11 hu12
        try beta_reduce
        refine State.raise_within qevu c17 ?_
        refine State.reloadBank_within qchain ?_
        exact hu12
    try clear_value x3
    have hx4 : Within b x4 := by
      unfold x4
      refine ite_elim (P := Within b) ?_ ?_
      · refine State.postSwap_within qfabric c18 c19 c20 c21 c22 c23 c24 c25 c26 c27 c28 c29 c30 c31 c32 ?_
        exact hx3
      · exact hx3
    try clear_value x4
    have hx6 : Within b x6 := by
      unfold x6
      refine Within.f_tick (s := x4) qtick (fun i => i) ?_
      exact hx4
    try clear_value x6
    have hx7 : Within b x7 := by
      unfold x7
      refine State.readmit_within qdomain qevu qsent qsess qmail qfurlongs qfabric qfmem qchain qjobs c18 c19 c20 c21 c22 c23 c24 c25 c26 c27 c28 c29 c30 c31 c32 c33 c34 c35 c36 c37 c38 c39 c40 c41 c42 c43 c44 c45 c46 c47 c48 c49 c50 c51 c52 c53 c54 c55 c56 c57 ?_
      exact hx6
    try clear_value x7
    have hx8 : Within b x8 := by
      unfold x8
      refine State.raise_within qevu c58 ?_
      refine State.onChain_within qchain ?_
      refine State.setN_within c59 ?_
      exact hx7
    try clear_value x8
    have hx9 : Within b x9 := by
      unfold x9
      refine State.cuesRestart_within qcues c60 ?_
      refine State.rePrime_within qconv c61 c62 ?_
      refine State.fadeEmbed_within qamx ?_
      refine State.audioRestart_within qfresh qaudio c63 ?_
      exact hx8
    try clear_value x9
    refine ite_elim (P := Within b) ?_ ?_
    · exact hu2
    · refine State.countCommitted_within c18 c19 c20 c21 c22 c23 c24 c25 c26 c27 c28 c29 c30 c31 c32 ?_
      refine State.pump_within qchain c48 ?_
      refine State.forEach_within ?_ ?_
      · exact hx9
      · intro u13 u14 hu15
        try beta_reduce
        refine State.resumeSender_within qnet (c64 _) ?_
        exact hu15

end Sys2Proof.Machine
end

