-- ==== Sys2Proof/Laws/WithinClips.lean ====
section
/-! SUPPORT. What each operation of Machine/Clips.lean may change at most (Laws/Within.lean). -/

set_option maxRecDepth 8000

namespace Sys2Proof.Machine

theorem State.dropLegs_within {b : Bounds} {p0} (qchain : b.parts .chain) (hp0 : Within b p0) : Within b (State.dropLegs p0) := by
  unfold State.dropLegs
  extract_lets -merge -useContext -underBinder x1
  refine State.onChain_within qchain ?_
  exact hp0

theorem State.admitLeg_within {b : Bounds} {p0 p1 p2} (qevu : b.parts .evu) (qfmem : b.parts .fmem) (qchain : b.parts .chain) (qjrnl : b.parts .jrnl) (qsent : b.parts .sent) (qsess : b.parts .sess) (qmail : b.parts .mail) (qjobs : b.parts .jobs) (qfabric : b.parts .fabric) (qboot : b.parts .boot) (hk : ∀ k, b.regs k) (hp0 : Within b p0) : Within b (State.admitLeg p0 p1 p2) := by
  unfold State.admitLeg
  extract_lets -merge -useContext -underBinder x1 x2
  have hx2 : Within1 b x2 := by
    unfold x2
    refine State.commitTx_within qevu qfmem qchain qjrnl hk ?_
    exact hp0
  try clear_value x2
  refine ite_elim (P := Within b) ?_ ?_
  · exact hp0
  · refine ite_elim (P := Within b) ?_ ?_
    · change Within1 b _
      exact hx2
    · refine State.stopJob_within qsent qevu qsess qmail qjobs qfabric qfmem qboot (hk _) (hk _) (hk _) (hk _) (hk _) (hk _) (fun _ => hk _) (hk _) (fun _ => hk _) (fun _ => hk _) (fun _ _ _ => hk _) (hk _) (fun _ => hk _) (fun _ => hk _) (fun _ => hk _) (hk _) ?_
      change Within1 b _
      exact hx2

theorem State.clipSeam_within {b : Bounds} {p0} (qchain : b.parts .chain) (qfmem : b.parts .fmem) (qevu : b.parts .evu) (qjrnl : b.parts .jrnl) (qsent : b.parts .sent) (qsess : b.parts .sess) (qmail : b.parts .mail) (qjobs : b.parts .jobs) (qfabric : b.parts .fabric) (qboot : b.parts .boot) (hk : ∀ k, b.regs k) (hp0 : Within b p0) : Within b (State.clipSeam p0) := by
  unfold State.clipSeam
  extract_lets -merge -useContext -underBinder x1
  have hx1 : Within b x1 := by
    unfold x1
    refine State.dropLegs_within qchain ?_
    refine State.memSeam_within qfmem (fun _ => hk _) ?_
    exact hp0
  try clear_value x1
  refine State.forEach_within ?_ ?_
  · exact hx1
  · intro u2 u3 hu4
    try beta_reduce
    refine ite_elim (P := Within b) ?_ ?_
    · refine State.admitLeg_within qevu qfmem qchain qjrnl qsent qsess qmail qjobs qfabric qboot hk ?_
      exact hu4
    · exact hu4

end Sys2Proof.Machine
end

