-- ==== Sys2Proof/Laws/WithinDomain.lean ====
section
/-! SUPPORT. What each operation of Machine/Domain.lean may change at most (Laws/Within.lean). -/

set_option maxRecDepth 8000

namespace Sys2Proof.Machine

theorem State.prepare_within {b : Bounds} {p0 p1 p2 p3 p4 p5} (qevu : b.parts .evu) (qfmem : b.parts .fmem) (qchain : b.parts .chain) (qjrnl : b.parts .jrnl) (qdomain : b.parts .domain) (qsent : b.parts .sent) (qfurlongs : b.parts .furlongs) (qsess : b.parts .sess) (qmail : b.parts .mail) (hk : ∀ k, b.regs k) (hp0 : Within b p0) : Within b (State.prepare p0 p1 p2 p3 p4 p5) := by
  unfold State.prepare
  extract_lets -merge -useContext -underBinder x1 x2 x3 x4 x5 x6
  have hx3 : Within1 b x3 := by
    unfold x3
    refine ite_elim (P := Within1 b) ?_ ?_
    · refine within1_mk ?_
      exact hp0
    · refine ite_elim (P := Within1 b) ?_ ?_
      · refine within1_mk ?_
        exact hp0
      · refine State.commitTx_within qevu qfmem qchain qjrnl hk ?_
        exact hp0
  try clear_value x3
  have hx4 : Within b x4 := by
    unfold x4
    refine State.onDomain_within qdomain ?_
    change Within1 b _
    exact hx3
  try clear_value x4
  have hx5 : Within b x5 := by
    unfold x5
    refine State.onDomain_within qdomain ?_
    exact hx4
  try clear_value x5
  refine ite_elim (P := Within b) ?_ ?_
  · refine ite_elim (P := Within b) ?_ ?_
    · refine State.gotPrepared_within qdomain ?_
      exact hx5
    · refine State.sendUp_within qsent qfurlongs (fun _ => hk _) ?_
      exact hx5
  · refine ite_elim (P := Within b) ?_ ?_
    · refine State.gotRefused_within qsent qevu qsess qmail qdomain (hk _) (fun _ => hk _) (fun _ _ => hk _) (hk _) (hk _) ?_
      exact hx4
    · refine State.sendUp_within qsent qfurlongs (fun _ => hk _) ?_
      exact hx4

theorem State.issueEpoch_within {b : Bounds} {p0 p1 p2 p3 p4 p5} (qdomain : b.parts .domain) (qsent : b.parts .sent) (qfurlongs : b.parts .furlongs) (qevu : b.parts .evu) (qfmem : b.parts .fmem) (qchain : b.parts .chain) (qjrnl : b.parts .jrnl) (qsess : b.parts .sess) (qmail : b.parts .mail) (hk : ∀ k, b.regs k) (hp0 : Within b p0) : Within b (State.issueEpoch p0 p1 p2 p3 p4 p5) := by
  unfold State.issueEpoch
  extract_lets -merge -useContext -underBinder x1 x2 x3 x4 x5 x6
  have hx4 : Within b x4 := by
    unfold x4
    refine State.addEpoch_within qdomain ?_
    exact hp0
  try clear_value x4
  have hx6 : Within b x6 := by
    unfold x6
    refine State.forEach_within ?_ ?_
    · exact hx4
    · intro u7 u8 hu9
      try beta_reduce
      extract_lets -merge -useContext -underBinder x10 x11 x12
      have hx11 : Within b x11 := by
        unfold x11
        refine ite_elim (P := Within b) ?_ ?_
        · exact hu9
        · refine State.sendDown_within qsent qfurlongs (fun _ => hk _) ?_
          exact hu9
      try clear_value x11
      have hx12 : Within b x12 := by
        unfold x12
        refine ite_elim (P := Within b) ?_ ?_
        · exact hx11
        · refine State.emit_within qsent ?_
          exact hx11
      try clear_value x12
      refine ite_elim (P := Within b) ?_ ?_
      · exact hx12
      · refine State.sendDown_within qsent qfurlongs (fun _ => hk _) ?_
        exact hx12
  try clear_value x6
  split
  · refine State.prepare_within qevu qfmem qchain qjrnl qdomain qsent qfurlongs qsess qmail hk ?_
    exact hx6
  · exact hx6

theorem State.domainTx_within {b : Bounds} {p0 p1 p2 p3 p4 p5 p6 p7 p8} (qdomain : b.parts .domain) (qsent : b.parts .sent) (qfurlongs : b.parts .furlongs) (qevu : b.parts .evu) (qfmem : b.parts .fmem) (qchain : b.parts .chain) (qjrnl : b.parts .jrnl) (qsess : b.parts .sess) (qmail : b.parts .mail) (hk : ∀ k, b.regs k) (hp0 : Within b p0) : Within1 b (State.domainTx p0 p1 p2 p3 p4 p5 p6 p7 p8) := by
  unfold State.domainTx
  extract_lets -merge -useContext -underBinder x1 x2 x3 x4 x5 x6 x7
  refine ite_elim (P := Within1 b) ?_ ?_
  · refine within1_mk ?_
    exact hp0
  · refine ite_elim (P := Within1 b) ?_ ?_
    · refine within1_mk ?_
      exact hp0
    · refine ite_elim (P := Within1 b) ?_ ?_
      · refine within1_mk ?_
        exact hp0
      · refine ite_elim (P := Within1 b) ?_ ?_
        · refine within1_mk ?_
          exact hp0
        · refine ite_elim (P := Within1 b) ?_ ?_
          · refine within1_mk ?_
            exact hp0
          · refine within1_mk ?_
            refine State.issueEpoch_within qdomain qsent qfurlongs qevu qfmem qchain qjrnl qsess qmail hk ?_
            exact hp0

theorem State.dropParts_within {b : Bounds} {p0 p1 p2} (qdomain : b.parts .domain) (qevu : b.parts .evu) (qsent : b.parts .sent) (qsess : b.parts .sess) (qmail : b.parts .mail) (qfurlongs : b.parts .furlongs) (qfabric : b.parts .fabric) (qfmem : b.parts .fmem) (qchain : b.parts .chain) (c9 : b.regs O04.STREAMS_ACTIVE) (c10 : ∀ (w0 : ℕ), b.regs (O12.MEDIA_CELLS w0)) (c11 : ∀ (w0 w1 : ℕ), b.regs (O0C.DEST_TERMS w0 w1)) (c12 : ∀ (w0 : ℕ), b.regs (O0C.BLOCK_TERMS w0)) (c13 : b.regs O0C.PHASE_TERMS) (c14 : b.regs O0C.TERMS_COMMITTED) (c15 : ∀ (w0 : ℕ), b.regs (O09.BUSHEL_PATHS w0)) (c16 : ∀ (w0 : ℕ), b.regs (O09.PECK_MASK w0)) (c17 : ∀ (w0 : ℕ), b.regs (O09.BUSHEL_STATE w0)) (c18 : b.regs O09.BUSHELS_IN_SERVICE) (c19 : b.regs O09.POOL_PECKS) (c20 : b.regs O09.PECKS_COMMITTED) (c21 : b.regs O09.PECKS_FREE) (c22 : b.regs O09.PATHS_SHED) (c23 : b.regs O09.PATHS_RUNNING) (c24 : ∀ k ∈ eventRegs 308, b.regs k) (c25 : b.regs O13.LAST_EPOCH) (c26 : ∀ k ∈ eventRegs 312, b.regs k) (c27 : b.regs O13.DOMAIN_STATE) (c28 : ∀ k ∈ eventRegs 309, b.regs k) (c29 : b.regs O13.DOMAIN_FLAGS) (c30 : ∀ (w0 : ℕ), b.regs (O13.MEMBER_LAST_EPOCH w0)) (c31 : ∀ (w0 : ℕ), b.regs (O1C.SESS_QUEUE w0)) (c32 : ∀ k ∈ eventRegs 451, b.regs k) (c33 : b.regs O1C.FILULO_FLAGS) (c34 : b.regs O1C.TX_LAST) (c35 : ∀ (w0 : ℕ), b.regs (O12.CELLS_IO w0)) (c36 : b.regs O05.GENERAL_FREE) (c37 : ∀ (w0 : ℕ), b.regs (O05.LARGEST_FREE w0)) (c38 : ∀ (w0 : ℕ), b.regs (O05.FREE_BYTES w0)) (c39 : b.regs O01.SHADOW_STATE) (hp0 : Within b p0) : Within b (State.dropParts p0 p1 p2) := by
  unfold State.dropParts
  extract_lets -merge -useContext -underBinder x1
  refine State.forEach_within ?_ ?_
  · exact hp0
  · intro u2 u3 hu4
    try beta_reduce
    split
    · refine State.withdrawPart_within qdomain qevu qsent qsess qmail qfurlongs qfabric qfmem qchain c9 c10 c11 c12 c13 c14 c15 c16 c17 c18 c19 c20 c21 c22 c23 c24 c25 c26 c27 c28 c29 c30 c31 c32 c33 c34 c35 c36 c37 c38 c39 ?_
      exact hu4
    · exact hu4

theorem State.beaconCand_within {b : Bounds} {p0 p1 p2} (qtiming : b.parts .timing) (qevu : b.parts .evu) (c2 : ∀ (w0 : ℕ), b.regs (O02.QL w0)) (c3 : ∀ (w0 : ℕ), b.regs (O02.CAND_FLAGS w0)) (c4 : ∀ k ∈ eventRegs 36, b.regs k) (c5 : ∀ (w0 : ℕ), b.regs (O02.CAND_STATE w0)) (c6 : ∀ (w0 : ℕ), b.regs (O02.OUTVOTED w0)) (hp0 : Within b p0) : Within b (State.beaconCand p0 p1 p2) := by
  unfold State.beaconCand
  split
  · exact hp0
  · extract_lets -merge -useContext -underBinder x1 x2 x3 x4
    have hx3 : Within b x3 := by
      unfold x3
      refine ite_elim (P := Within b) ?_ ?_
      · exact hp0
      · refine State.markDirty_within qtiming ?_
        refine State.setN_within (c2 _) ?_
        exact hp0
    try clear_value x3
    have hx4 : Within b x4 := by
      unfold x4
      refine State.setCand_within qtiming ?_
      exact hx3
    try clear_value x4
    refine ite_elim (P := Within b) ?_ ?_
    · refine State.candFault_within qevu qtiming (c3 _) c4 (c5 _) (c6 _) ?_
      exact hx4
    · refine State.candSignal_within qtiming (c5 _) (c6 _) ?_
      exact hx4

theorem State.masteredContent_within {b : Bounds} {p0 p1 p2} (qevu : b.parts .evu) (qdomain : b.parts .domain) (qsent : b.parts .sent) (qsess : b.parts .sess) (qmail : b.parts .mail) (qfurlongs : b.parts .furlongs) (qfabric : b.parts .fabric) (qfmem : b.parts .fmem) (qchain : b.parts .chain) (qtiming : b.parts .timing) (c10 : ∀ k ∈ eventRegs 306, b.regs k) (c11 : b.regs O13.DOMAIN_FLAGS) (c12 : b.regs O04.STREAMS_ACTIVE) (c13 : ∀ (w0 : ℕ), b.regs (O12.MEDIA_CELLS w0)) (c14 : ∀ (w0 w1 : ℕ), b.regs (O0C.DEST_TERMS w0 w1)) (c15 : ∀ (w0 : ℕ), b.regs (O0C.BLOCK_TERMS w0)) (c16 : b.regs O0C.PHASE_TERMS) (c17 : b.regs O0C.TERMS_COMMITTED) (c18 : ∀ (w0 : ℕ), b.regs (O09.BUSHEL_PATHS w0)) (c19 : ∀ (w0 : ℕ), b.regs (O09.PECK_MASK w0)) (c20 : ∀ (w0 : ℕ), b.regs (O09.BUSHEL_STATE w0)) (c21 : b.regs O09.BUSHELS_IN_SERVICE) (c22 : b.regs O09.POOL_PECKS) (c23 : b.regs O09.PECKS_COMMITTED) (c24 : b.regs O09.PECKS_FREE) (c25 : b.regs O09.PATHS_SHED) (c26 : b.regs O09.PATHS_RUNNING) (c27 : ∀ k ∈ eventRegs 308, b.regs k) (c28 : b.regs O13.LAST_EPOCH) (c29 : ∀ k ∈ eventRegs 312, b.regs k) (c30 : b.regs O13.DOMAIN_STATE) (c31 : ∀ k ∈ eventRegs 309, b.regs k) (c32 : ∀ (w0 : ℕ), b.regs (O13.MEMBER_LAST_EPOCH w0)) (c33 : ∀ (w0 : ℕ), b.regs (O1C.SESS_QUEUE w0)) (c34 : ∀ k ∈ eventRegs 451, b.regs k) (c35 : b.regs O1C.FILULO_FLAGS) (c36 : b.regs O1C.TX_LAST) (c37 : ∀ (w0 : ℕ), b.regs (O12.CELLS_IO w0)) (c38 : b.regs O05.GENERAL_FREE) (c39 : ∀ (w0 : ℕ), b.regs (O05.LARGEST_FREE w0)) (c40 : ∀ (w0 : ℕ), b.regs (O05.FREE_BYTES w0)) (c41 : b.regs O01.SHADOW_STATE) (c42 : b.regs O13.MASTER_DEVICE) (c43 : ∀ (w0 : ℕ), b.regs (O02.QL w0)) (c44 : ∀ (w0 : ℕ), b.regs (O02.CAND_FLAGS w0)) (c45 : ∀ k ∈ eventRegs 36, b.regs k) (c46 : ∀ (w0 : ℕ), b.regs (O02.CAND_STATE w0)) (c47 : ∀ (w0 : ℕ), b.regs (O02.OUTVOTED w0)) (c48 : b.regs O13.BEACON_AGE) (c49 : b.regs O13.DOMAIN_HOPS) (c50 : b.regs O13.DOMAIN_EPOCH) (c51 : b.regs O13.BACKUP_DEVICE) (c52 : b.regs O13.DOMAIN_SIZE) (c53 : ∀ k ∈ eventRegs 311, b.regs k) (hp0 : Within b p0) : Within b (State.masteredContent p0 p1 p2) := by
  unfold State.masteredContent
  extract_lets -merge -useContext -underBinder x1 x2 x3 x4 x5 x6 x7 x8 x9 x10 x11 x12
  have hx5 : Within b x5 := by
    unfold x5
    refine ite_elim (P := Within b) ?_ ?_
    · refine State.raise_within qevu c10 ?_
      refine State.flag_within c11 ?_
      refine State.dropParts_within qdomain qevu qsent qsess qmail qfurlongs qfabric qfmem qchain c12 c13 c14 c15 c16 c17 c18 c19 c20 c21 c22 c23 c24 c25 c26 c27 c28 c29 c30 c31 c11 c32 c33 c34 c35 c36 c37 c38 c39 c40 c41 ?_
      exact hp0
    · exact hp0
  try clear_value x5
  have hx6 : Within b x6 := by
    unfold x6
    refine State.setN_within c42 ?_
    exact hx5
  try clear_value x6
  have hx7 : Within b x7 := by
    unfold x7
    refine State.beaconCand_within qtiming qevu c43 c44 c45 c46 c47 ?_
    refine State.onDomain_within qdomain ?_
    exact hx6
  try clear_value x7
  have hx8 : Within b x8 := by
    unfold x8
    refine ite_elim (P := Within b) ?_ ?_
    · refine State.setN_within c48 ?_
      refine State.setN_within c49 ?_
      refine State.setN_within c50 ?_
      refine State.setN_within c51 ?_
      exact hx7
    · refine State.onDomain_within qdomain ?_
      exact hx6
  try clear_value x8
  have hx9 : Within b x9 := by
    unfold x9
    refine ite_elim (P := Within b) ?_ ?_
    · refine State.setN_within c52 ?_
      exact hx8
    · exact hx8
  try clear_value x9
  have hx11 : Within b x11 := by
    unfold x11
    refine State.onDomain_within qdomain ?_
    exact hx9
  try clear_value x11
  refine ite_elim (P := Within b) ?_ ?_
  · exact hp0
  · split
    · extract_lets -merge -useContext -underBinder x13
      have hx13 : Within b x13 := by
        unfold x13
        refine State.onDomain_within qdomain ?_
        exact hx11
      try clear_value x13
      refine ite_elim (P := Within b) ?_ ?_
      · refine State.sendJoin_within qevu qdomain qsent qfurlongs c53 c11 c30 c37 ?_
        exact hx13
      · exact hx13
    · refine ite_elim (P := Within b) ?_ ?_
      · refine State.sendJoin_within qevu qdomain qsent qfurlongs c53 c11 c30 c37 ?_
        exact hx11
      · exact hx11
    · refine ite_elim (P := Within b) ?_ ?_
      · refine State.setDomain_within c30 ?_
        exact hx11
      · exact hx11
    · refine ite_elim (P := Within b) ?_ ?_
      · exact hx11
      · refine State.setDomain_within c30 ?_
        exact hx11
    · exact hx11

theorem State.yield__within {b : Bounds} {p0 p1 p2} (qsent : b.parts .sent) (qevu : b.parts .evu) (qsess : b.parts .sess) (qmail : b.parts .mail) (qdomain : b.parts .domain) (qfurlongs : b.parts .furlongs) (qfabric : b.parts .fabric) (qfmem : b.parts .fmem) (qchain : b.parts .chain) (c9 : ∀ (w0 : ℕ), b.regs (O1C.SESS_QUEUE w0)) (c10 : ∀ k ∈ eventRegs 451, b.regs k) (c11 : b.regs O1C.FILULO_FLAGS) (c12 : b.regs O1C.TX_LAST) (c13 : b.regs O13.MASTER_DEVICE) (c14 : b.regs O04.STREAMS_ACTIVE) (c15 : ∀ (w0 : ℕ), b.regs (O12.MEDIA_CELLS w0)) (c16 : ∀ (w0 w1 : ℕ), b.regs (O0C.DEST_TERMS w0 w1)) (c17 : ∀ (w0 : ℕ), b.regs (O0C.BLOCK_TERMS w0)) (c18 : b.regs O0C.PHASE_TERMS) (c19 : b.regs O0C.TERMS_COMMITTED) (c20 : ∀ (w0 : ℕ), b.regs (O09.BUSHEL_PATHS w0)) (c21 : ∀ (w0 : ℕ), b.regs (O09.PECK_MASK w0)) (c22 : ∀ (w0 : ℕ), b.regs (O09.BUSHEL_STATE w0)) (c23 : b.regs O09.BUSHELS_IN_SERVICE) (c24 : b.regs O09.POOL_PECKS) (c25 : b.regs O09.PECKS_COMMITTED) (c26 : b.regs O09.PECKS_FREE) (c27 : b.regs O09.PATHS_SHED) (c28 : b.regs O09.PATHS_RUNNING) (c29 : ∀ k ∈ eventRegs 308, b.regs k) (c30 : b.regs O13.LAST_EPOCH) (c31 : ∀ k ∈ eventRegs 312, b.regs k) (c32 : b.regs O13.DOMAIN_STATE) (c33 : ∀ k ∈ eventRegs 309, b.regs k) (c34 : b.regs O13.DOMAIN_FLAGS) (c35 : ∀ (w0 : ℕ), b.regs (O13.MEMBER_LAST_EPOCH w0)) (c36 : ∀ (w0 : ℕ), b.regs (O12.CELLS_IO w0)) (c37 : b.regs O05.GENERAL_FREE) (c38 : ∀ (w0 : ℕ), b.regs (O05.LARGEST_FREE w0)) (c39 : ∀ (w0 : ℕ), b.regs (O05.FREE_BYTES w0)) (c40 : b.regs O01.SHADOW_STATE) (c41 : ∀ k ∈ eventRegs 314, b.regs k) (c42 : ∀ k ∈ eventRegs 311, b.regs k) (hp0 : Within b p0) : Within b (State.yield_ p0 p1 p2) := by
  unfold State.yield_
  extract_lets -merge -useContext -underBinder x1 x2 x3 x4
  have hx1 : Within b x1 := by
    unfold x1
    refine State.forEach_within ?_ ?_
    · exact hp0
    · intro u5 u6 hu7
      try beta_reduce
      refine State.closeEpoch_within qsent qevu qsess qmail qdomain c9 c10 c11 c12 ?_
      refine State.setEpoch_within qdomain ?_
      exact hu7
  try clear_value x1
  have hx2 : Within b x2 := by
    unfold x2
    refine State.setN_within c13 ?_
    refine State.dropParts_within qdomain qevu qsent qsess qmail qfurlongs qfabric qfmem qchain c14 c15 c16 c17 c18 c19 c20 c21 c22 c23 c24 c25 c26 c27 c28 c29 c30 c31 c32 c33 c34 c35 c9 c10 c11 c12 c36 c37 c38 c39 c40 ?_
    exact hx1
  try clear_value x2
  have hx3 : Within b x3 := by
    unfold x3
    refine State.onDomain_within qdomain ?_
    exact hx2
  try clear_value x3
  have hx4 : Within b x4 := by
    unfold x4
    refine State.raise_within qevu c41 ?_
    refine State.flag_within c34 ?_
    exact hx3
  try clear_value x4
  refine State.sendJoin_within qevu qdomain qsent qfurlongs c42 c34 c32 c36 ?_
  exact hx4

theorem State.orphaned_within {b : Bounds} {p0} (qdomain : b.parts .domain) (qevu : b.parts .evu) (qsent : b.parts .sent) (qsess : b.parts .sess) (qmail : b.parts .mail) (qfurlongs : b.parts .furlongs) (qfabric : b.parts .fabric) (qfmem : b.parts .fmem) (qchain : b.parts .chain) (c9 : b.regs O13.MASTER_DEVICE) (c10 : b.regs O13.DOMAIN_STATE) (c11 : b.regs O04.STREAMS_ACTIVE) (c12 : ∀ (w0 : ℕ), b.regs (O12.MEDIA_CELLS w0)) (c13 : ∀ (w0 w1 : ℕ), b.regs (O0C.DEST_TERMS w0 w1)) (c14 : ∀ (w0 : ℕ), b.regs (O0C.BLOCK_TERMS w0)) (c15 : b.regs O0C.PHASE_TERMS) (c16 : b.regs O0C.TERMS_COMMITTED) (c17 : ∀ (w0 : ℕ), b.regs (O09.BUSHEL_PATHS w0)) (c18 : ∀ (w0 : ℕ), b.regs (O09.PECK_MASK w0)) (c19 : ∀ (w0 : ℕ), b.regs (O09.BUSHEL_STATE w0)) (c20 : b.regs O09.BUSHELS_IN_SERVICE) (c21 : b.regs O09.POOL_PECKS) (c22 : b.regs O09.PECKS_COMMITTED) (c23 : b.regs O09.PECKS_FREE) (c24 : b.regs O09.PATHS_SHED) (c25 : b.regs O09.PATHS_RUNNING) (c26 : ∀ k ∈ eventRegs 308, b.regs k) (c27 : b.regs O13.LAST_EPOCH) (c28 : ∀ k ∈ eventRegs 312, b.regs k) (c29 : ∀ k ∈ eventRegs 309, b.regs k) (c30 : b.regs O13.DOMAIN_FLAGS) (c31 : ∀ (w0 : ℕ), b.regs (O13.MEMBER_LAST_EPOCH w0)) (c32 : ∀ (w0 : ℕ), b.regs (O1C.SESS_QUEUE w0)) (c33 : ∀ k ∈ eventRegs 451, b.regs k) (c34 : b.regs O1C.FILULO_FLAGS) (c35 : b.regs O1C.TX_LAST) (c36 : ∀ (w0 : ℕ), b.regs (O12.CELLS_IO w0)) (c37 : b.regs O05.GENERAL_FREE) (c38 : ∀ (w0 : ℕ), b.regs (O05.LARGEST_FREE w0)) (c39 : ∀ (w0 : ℕ), b.regs (O05.FREE_BYTES w0)) (c40 : b.regs O01.SHADOW_STATE) (c41 : ∀ k ∈ eventRegs 305, b.regs k) (hp0 : Within b p0) : Within b (State.orphaned p0) := by
  unfold State.orphaned
  extract_lets -merge -useContext -underBinder x1
  have hx1 : Within b x1 := by
    unfold x1
    refine State.setN_within c9 ?_
    refine State.setDomain_within c10 ?_
    refine State.dropParts_within qdomain qevu qsent qsess qmail qfurlongs qfabric qfmem qchain c11 c12 c13 c14 c15 c16 c17 c18 c19 c20 c21 c22 c23 c24 c25 c26 c27 c28 c10 c29 c30 c31 c32 c33 c34 c35 c36 c37 c38 c39 c40 ?_
    exact hp0
  try clear_value x1
  refine State.raise_within qevu c41 ?_
  refine State.flag_within c30 ?_
  refine State.onDomain_within qdomain ?_
  exact hx1

theorem State.takeOver_within {b : Bounds} {p0} (qevu : b.parts .evu) (qtiming : b.parts .timing) (qdomain : b.parts .domain) (qsent : b.parts .sent) (qsess : b.parts .sess) (qmail : b.parts .mail) (qfurlongs : b.parts .furlongs) (qfabric : b.parts .fabric) (qfmem : b.parts .fmem) (qchain : b.parts .chain) (c10 : ∀ (w0 : ℕ), b.regs (O02.CAND_FLAGS w0)) (c11 : ∀ k ∈ eventRegs 35, b.regs k) (c12 : ∀ (w0 : ℕ), b.regs (O02.CAND_STATE w0)) (c13 : ∀ (w0 : ℕ), b.regs (O02.OUTVOTED w0)) (c14 : ∀ (w0 : ℕ), b.regs (O13.MEMBER_STATE w0)) (c15 : b.regs O13.MASTER_DEVICE) (c16 : b.regs O13.DOMAIN_STATE) (c17 : b.regs O13.MISSED_BEACONS) (c18 : b.regs O13.BEACON_AGE) (c19 : b.regs O13.DOMAIN_HOPS) (c20 : ∀ k ∈ eventRegs 307, b.regs k) (c21 : b.regs O13.DOMAIN_FLAGS) (c22 : b.regs O13.DOMAIN_SIZE) (c23 : b.regs O13.DOMAIN_LEAD_MIN) (c24 : b.regs O13.BACKUP_DEVICE) (c25 : b.regs O04.STREAMS_ACTIVE) (c26 : ∀ (w0 : ℕ), b.regs (O12.MEDIA_CELLS w0)) (c27 : ∀ (w0 w1 : ℕ), b.regs (O0C.DEST_TERMS w0 w1)) (c28 : ∀ (w0 : ℕ), b.regs (O0C.BLOCK_TERMS w0)) (c29 : b.regs O0C.PHASE_TERMS) (c30 : b.regs O0C.TERMS_COMMITTED) (c31 : ∀ (w0 : ℕ), b.regs (O09.BUSHEL_PATHS w0)) (c32 : ∀ (w0 : ℕ), b.regs (O09.PECK_MASK w0)) (c33 : ∀ (w0 : ℕ), b.regs (O09.BUSHEL_STATE w0)) (c34 : b.regs O09.BUSHELS_IN_SERVICE) (c35 : b.regs O09.POOL_PECKS) (c36 : b.regs O09.PECKS_COMMITTED) (c37 : b.regs O09.PECKS_FREE) (c38 : b.regs O09.PATHS_SHED) (c39 : b.regs O09.PATHS_RUNNING) (c40 : ∀ k ∈ eventRegs 308, b.regs k) (c41 : b.regs O13.LAST_EPOCH) (c42 : ∀ k ∈ eventRegs 312, b.regs k) (c43 : ∀ k ∈ eventRegs 309, b.regs k) (c44 : ∀ (w0 : ℕ), b.regs (O13.MEMBER_LAST_EPOCH w0)) (c45 : ∀ (w0 : ℕ), b.regs (O1C.SESS_QUEUE w0)) (c46 : ∀ k ∈ eventRegs 451, b.regs k) (c47 : b.regs O1C.FILULO_FLAGS) (c48 : b.regs O1C.TX_LAST) (c49 : ∀ (w0 : ℕ), b.regs (O12.CELLS_IO w0)) (c50 : b.regs O05.GENERAL_FREE) (c51 : ∀ (w0 : ℕ), b.regs (O05.LARGEST_FREE w0)) (c52 : ∀ (w0 : ℕ), b.regs (O05.FREE_BYTES w0)) (c53 : b.regs O01.SHADOW_STATE) (c54 : ∀ k ∈ eventRegs 310, b.regs k) (hp0 : Within b p0) : Within b (State.takeOver p0) := by
  unfold State.takeOver
  extract_lets -merge -useContext -underBinder x1 x2
  have hx1 : Within b x1 := by
    unfold x1
    split
    · refine State.candFault_within qevu qtiming (c10 _) c11 (c12 _) (c13 _) ?_
      exact hp0
    · exact hp0
  try clear_value x1
  have hx2 : Within b x2 := by
    unfold x2
    refine State.becomeMaster_within qevu qdomain c14 c15 c16 c17 c18 c19 c20 c21 c22 c23 c24 ?_
    refine State.dropParts_within qdomain qevu qsent qsess qmail qfurlongs qfabric qfmem qchain c25 c26 c27 c28 c29 c30 c31 c32 c33 c34 c35 c36 c37 c38 c39 c40 c41 c42 c16 c43 c21 c44 c45 c46 c47 c48 c49 c50 c51 c52 c53 ?_
    exact hx1
  try clear_value x2
  refine State.forEach_within ?_ ?_
  · exact hx2
  · intro u3 u4 hu5
    try beta_reduce
    refine ite_elim (P := Within b) ?_ ?_
    · refine State.setEpoch_within qdomain ?_
      exact hu5
    · refine ite_elim (P := Within b) ?_ ?_
      · refine State.abortEpoch_within qdomain qsent qfurlongs qevu qsess qmail c49 c45 c46 c47 c48 c54 ?_
        refine State.setEpoch_within qdomain ?_
        exact hu5
      · refine State.setEpoch_within qdomain ?_
        exact hu5

theorem State.startResync_within {b : Bounds} {p0 p1 p2 p3} (qsent : b.parts .sent) (qevu : b.parts .evu) (qsess : b.parts .sess) (qmail : b.parts .mail) (qjobs : b.parts .jobs) (c5 : ∀ w0, b.regs (O1B.JOB_ENDED w0)) (c6 : ∀ w0, b.regs (O1B.JOB_RESULT w0)) (c7 : ∀ w0, b.regs (O1B.JOB_OWNER w0)) (c8 : ∀ w0, b.regs (O1B.JOB_PROGRESS w0)) (c9 : ∀ w0, b.regs (O1B.JOB_STATUS w0)) (c10 : ∀ w0, b.regs (O1B.JOB_OBJECT w0)) (c11 : ∀ w0, b.regs (O1C.SESS_QUEUE w0)) (c12 : ∀ k ∈ eventRegs 451, b.regs k) (c13 : b.regs O1C.FILULO_FLAGS) (c14 : ∀ k ∈ eventRegs 432, b.regs k) (c15 : b.regs O1B.JOBS_QUEUED) (c16 : b.regs O1B.JOBS_RUNNING) (c17 : ∀ w0, b.regs (O1B.JOB_STARTED w0)) (c18 : ∀ w0, b.regs (O1B.JOB_STATE w0)) (hp0 : Within b p0) : Within1 b (State.startResync p0 p1 p2 p3) := by
  unfold State.startResync
  extract_lets -merge -useContext -underBinder x1
  refine ite_elim (P := Within1 b) ?_ ?_
  · refine within1_mk ?_
    exact hp0
  · refine State.startJob_within qsent qevu qsess qmail qjobs c5 c6 c7 c8 c9 c10 c11 c12 c13 c14 c15 c16 c17 c18 ?_
    exact hp0

theorem State.resyncStep_within {b : Bounds} {p0} (qsent : b.parts .sent) (qevu : b.parts .evu) (qsess : b.parts .sess) (qmail : b.parts .mail) (qjobs : b.parts .jobs) (qdomain : b.parts .domain) (qfurlongs : b.parts .furlongs) (qfmem : b.parts .fmem) (qchain : b.parts .chain) (qjrnl : b.parts .jrnl) (hk : ∀ k, b.regs k) (hp0 : Within b p0) : Within b (State.resyncStep p0) := by
  unfold State.resyncStep
  split
  · exact hp0
  · split
    · exact hp0
    · extract_lets -merge -useContext -underBinder x1 x2
      refine ite_elim (P := Within b) ?_ ?_
      · refine ite_elim (P := Within b) ?_ ?_
        · refine State.endJob_within qsent qevu qsess qmail qjobs (hk _) (hk _) (hk _) (hk _) (hk _) (hk _) (fun _ => hk _) (hk _) (fun _ => hk _) (fun _ => hk _) (fun _ _ _ => hk _) ?_
          exact hp0
        · refine State.issueEpoch_within qdomain qsent qfurlongs qevu qfmem qchain qjrnl qsess qmail hk ?_
          refine State.setJob_within qjobs ?_
          exact hp0
      · split
        · refine ite_elim (P := Within b) ?_ ?_
          · exact hp0
          · refine ite_elim (P := Within b) ?_ ?_
            · refine State.endJob_within qsent qevu qsess qmail qjobs (hk _) (hk _) (hk _) (hk _) (hk _) (hk _) (fun _ => hk _) (hk _) (fun _ => hk _) (fun _ => hk _) (fun _ _ _ => hk _) ?_
              exact hp0
            · refine State.endJob_within qsent qevu qsess qmail qjobs (hk _) (hk _) (hk _) (hk _) (hk _) (hk _) (fun _ => hk _) (hk _) (fun _ => hk _) (fun _ => hk _) (fun _ _ _ => hk _) ?_
              exact hp0
        · refine State.endJob_within qsent qevu qsess qmail qjobs (hk _) (hk _) (hk _) (hk _) (hk _) (hk _) (fun _ => hk _) (hk _) (fun _ => hk _) (fun _ => hk _) (fun _ _ _ => hk _) ?_
          exact hp0

theorem State.resyncSeam_within {b : Bounds} {p0} (qsent : b.parts .sent) (qevu : b.parts .evu) (qsess : b.parts .sess) (qmail : b.parts .mail) (qjobs : b.parts .jobs) (qdomain : b.parts .domain) (qfurlongs : b.parts .furlongs) (qfmem : b.parts .fmem) (qchain : b.parts .chain) (qjrnl : b.parts .jrnl) (hk : ∀ k, b.regs k) (hp0 : Within b p0) : Within b (State.resyncSeam p0) := by
  unfold State.resyncSeam
  extract_lets -merge -useContext -underBinder x1
  have hx1 : Within b x1 := by
    unfold x1
    split
    · exact hp0
    · refine ite_elim (P := Within b) ?_ ?_
      · exact hp0
      · change Within1 b _
        refine State.startResync_within qsent qevu qsess qmail qjobs (fun _ => hk _) (fun _ => hk _) (fun _ => hk _) (fun _ => hk _) (fun _ => hk _) (fun _ => hk _) (fun _ => hk _) (fun _ _ => hk _) (hk _) (fun _ _ => hk _) (hk _) (hk _) (fun _ => hk _) (fun _ => hk _) ?_
        refine State.onDomain_within qdomain ?_
        exact hp0
  try clear_value x1
  refine State.resyncStep_within qsent qevu qsess qmail qjobs qdomain qfurlongs qfmem qchain qjrnl hk ?_
  exact hx1

theorem State.abortDomain_within {b : Bounds} {p0 p1 p2 p3} (qdomain : b.parts .domain) (qsent : b.parts .sent) (qfurlongs : b.parts .furlongs) (qevu : b.parts .evu) (qsess : b.parts .sess) (qmail : b.parts .mail) (c6 : ∀ (w0 : ℕ), b.regs (O12.CELLS_IO w0)) (c7 : ∀ (w0 : ℕ), b.regs (O1C.SESS_QUEUE w0)) (c8 : ∀ k ∈ eventRegs 451, b.regs k) (c9 : b.regs O1C.FILULO_FLAGS) (c10 : b.regs O1C.TX_LAST) (c11 : ∀ k ∈ eventRegs 310, b.regs k) (hp0 : Within b p0) : Within1S b (State.abortDomain p0 p1 p2 p3) := by
  unfold State.abortDomain
  split
  · exact optionNone
  · refine optionSome ?_
    refine ite_elim (P := Within1 b) ?_ ?_
    · refine within1_mk ?_
      refine State.abortEpoch_within qdomain qsent qfurlongs qevu qsess qmail c6 c7 c8 c9 c10 c11 ?_
      exact hp0
    · refine within1_mk ?_
      exact hp0

theorem execBeaconReceived_within {b : Bounds} {p0 p1 p2 p3} (qevu : b.parts .evu) (qfurlongs : b.parts .furlongs) (qsent : b.parts .sent) (qsess : b.parts .sess) (qmail : b.parts .mail) (qdomain : b.parts .domain) (qfabric : b.parts .fabric) (qfmem : b.parts .fmem) (qchain : b.parts .chain) (qtiming : b.parts .timing) (c10 : ∀ k ∈ eventRegs 298, b.regs k) (c11 : b.regs (O12.FURLONG_STATE p0)) (c12 : b.regs (O12.FURLONG_DELAY p0)) (c13 : ∀ k ∈ eventRegs 294, b.regs k) (c14 : b.regs (O12.TRUNK_FLAGS p0)) (c15 : ∀ (w0 : ℕ), b.regs (O1C.SESS_QUEUE w0)) (c16 : ∀ k ∈ eventRegs 451, b.regs k) (c17 : b.regs O1C.FILULO_FLAGS) (c18 : b.regs O1C.TX_LAST) (c19 : b.regs O13.MASTER_DEVICE) (c20 : b.regs O04.STREAMS_ACTIVE) (c21 : ∀ (w0 : ℕ), b.regs (O12.MEDIA_CELLS w0)) (c22 : ∀ (w0 w1 : ℕ), b.regs (O0C.DEST_TERMS w0 w1)) (c23 : ∀ (w0 : ℕ), b.regs (O0C.BLOCK_TERMS w0)) (c24 : b.regs O0C.PHASE_TERMS) (c25 : b.regs O0C.TERMS_COMMITTED) (c26 : ∀ (w0 : ℕ), b.regs (O09.BUSHEL_PATHS w0)) (c27 : ∀ (w0 : ℕ), b.regs (O09.PECK_MASK w0)) (c28 : ∀ (w0 : ℕ), b.regs (O09.BUSHEL_STATE w0)) (c29 : b.regs O09.BUSHELS_IN_SERVICE) (c30 : b.regs O09.POOL_PECKS) (c31 : b.regs O09.PECKS_COMMITTED) (c32 : b.regs O09.PECKS_FREE) (c33 : b.regs O09.PATHS_SHED) (c34 : b.regs O09.PATHS_RUNNING) (c35 : ∀ k ∈ eventRegs 308, b.regs k) (c36 : b.regs O13.LAST_EPOCH) (c37 : ∀ k ∈ eventRegs 312, b.regs k) (c38 : b.regs O13.DOMAIN_STATE) (c39 : ∀ k ∈ eventRegs 309, b.regs k) (c40 : b.regs O13.DOMAIN_FLAGS) (c41 : ∀ (w0 : ℕ), b.regs (O13.MEMBER_LAST_EPOCH w0)) (c42 : ∀ (w0 : ℕ), b.regs (O12.CELLS_IO w0)) (c43 : b.regs O05.GENERAL_FREE) (c44 : ∀ (w0 : ℕ), b.regs (O05.LARGEST_FREE w0)) (c45 : ∀ (w0 : ℕ), b.regs (O05.FREE_BYTES w0)) (c46 : b.regs O01.SHADOW_STATE) (c47 : ∀ k ∈ eventRegs 314, b.regs k) (c48 : ∀ k ∈ eventRegs 311, b.regs k) (c49 : ∀ k ∈ eventRegs 306, b.regs k) (c50 : ∀ (w0 : ℕ), b.regs (O02.QL w0)) (c51 : ∀ (w0 : ℕ), b.regs (O02.CAND_FLAGS w0)) (c52 : ∀ k ∈ eventRegs 36, b.regs k) (c53 : ∀ (w0 : ℕ), b.regs (O02.CAND_STATE w0)) (c54 : ∀ (w0 : ℕ), b.regs (O02.OUTVOTED w0)) (c55 : b.regs O13.BEACON_AGE) (c56 : b.regs O13.DOMAIN_HOPS) (c57 : b.regs O13.DOMAIN_EPOCH) (c58 : b.regs O13.BACKUP_DEVICE) (c59 : b.regs O13.DOMAIN_SIZE) (hp3 : Within b p3) : WithinOut b (execBeaconReceived p0 p1 p2 p3) := by
  unfold execBeaconReceived
  refine onInst_within ?_ ?_
  · exact hp3
  · intro u1 hu2
    try beta_reduce
    extract_lets -merge -useContext -underBinder x3 x4 x5
    have hx4 : Within b x4 := by
      unfold x4
      refine State.beaconFurlong_within qevu qfurlongs c10 c11 c12 c13 c14 ?_
      exact hu2
    try clear_value x4
    refine ite_elim (P := Within b) ?_ ?_
    · exact hu2
    · refine ite_elim (P := Within b) ?_ ?_
      · exact hx4
      · refine ite_elim (P := Within b) ?_ ?_
        · refine ite_elim (P := Within b) ?_ ?_
          · refine State.yield__within qsent qevu qsess qmail qdomain qfurlongs qfabric qfmem qchain c15 c16 c17 c18 c19 c20 c21 c22 c23 c24 c25 c26 c27 c28 c29 c30 c31 c32 c33 c34 c35 c36 c37 c38 c39 c40 c41 c42 c43 c44 c45 c46 c47 c48 ?_
            exact hx4
          · exact hx4
        · refine State.masteredContent_within qevu qdomain qsent qsess qmail qfurlongs qfabric qfmem qchain qtiming c49 c40 c20 c21 c22 c23 c24 c25 c26 c27 c28 c29 c30 c31 c32 c33 c34 c35 c36 c37 c38 c39 c41 c15 c16 c17 c18 c42 c43 c44 c45 c46 c19 c50 c51 c52 c53 c54 c55 c56 c57 c58 c59 c48 ?_
          exact hx4

theorem execBeaconsMissed_within {b : Bounds} {p0} (qdomain : b.parts .domain) (qevu : b.parts .evu) (qsent : b.parts .sent) (qsess : b.parts .sess) (qmail : b.parts .mail) (qfurlongs : b.parts .furlongs) (qfabric : b.parts .fabric) (qfmem : b.parts .fmem) (qchain : b.parts .chain) (qtiming : b.parts .timing) (c10 : b.regs O13.MASTER_DEVICE) (c11 : b.regs O13.DOMAIN_STATE) (c12 : b.regs O04.STREAMS_ACTIVE) (c13 : ∀ (w0 : ℕ), b.regs (O12.MEDIA_CELLS w0)) (c14 : ∀ (w0 w1 : ℕ), b.regs (O0C.DEST_TERMS w0 w1)) (c15 : ∀ (w0 : ℕ), b.regs (O0C.BLOCK_TERMS w0)) (c16 : b.regs O0C.PHASE_TERMS) (c17 : b.regs O0C.TERMS_COMMITTED) (c18 : ∀ (w0 : ℕ), b.regs (O09.BUSHEL_PATHS w0)) (c19 : ∀ (w0 : ℕ), b.regs (O09.PECK_MASK w0)) (c20 : ∀ (w0 : ℕ), b.regs (O09.BUSHEL_STATE w0)) (c21 : b.regs O09.BUSHELS_IN_SERVICE) (c22 : b.regs O09.POOL_PECKS) (c23 : b.regs O09.PECKS_COMMITTED) (c24 : b.regs O09.PECKS_FREE) (c25 : b.regs O09.PATHS_SHED) (c26 : b.regs O09.PATHS_RUNNING) (c27 : ∀ k ∈ eventRegs 308, b.regs k) (c28 : b.regs O13.LAST_EPOCH) (c29 : ∀ k ∈ eventRegs 312, b.regs k) (c30 : ∀ k ∈ eventRegs 309, b.regs k) (c31 : b.regs O13.DOMAIN_FLAGS) (c32 : ∀ (w0 : ℕ), b.regs (O13.MEMBER_LAST_EPOCH w0)) (c33 : ∀ (w0 : ℕ), b.regs (O1C.SESS_QUEUE w0)) (c34 : ∀ k ∈ eventRegs 451, b.regs k) (c35 : b.regs O1C.FILULO_FLAGS) (c36 : b.regs O1C.TX_LAST) (c37 : ∀ (w0 : ℕ), b.regs (O12.CELLS_IO w0)) (c38 : b.regs O05.GENERAL_FREE) (c39 : ∀ (w0 : ℕ), b.regs (O05.LARGEST_FREE w0)) (c40 : ∀ (w0 : ℕ), b.regs (O05.FREE_BYTES w0)) (c41 : b.regs O01.SHADOW_STATE) (c42 : ∀ k ∈ eventRegs 305, b.regs k) (c43 : ∀ (w0 : ℕ), b.regs (O02.CAND_FLAGS w0)) (c44 : ∀ k ∈ eventRegs 35, b.regs k) (c45 : ∀ (w0 : ℕ), b.regs (O02.CAND_STATE w0)) (c46 : ∀ (w0 : ℕ), b.regs (O02.OUTVOTED w0)) (c47 : ∀ (w0 : ℕ), b.regs (O13.MEMBER_STATE w0)) (c48 : b.regs O13.MISSED_BEACONS) (c49 : b.regs O13.BEACON_AGE) (c50 : b.regs O13.DOMAIN_HOPS) (c51 : ∀ k ∈ eventRegs 307, b.regs k) (c52 : b.regs O13.DOMAIN_SIZE) (c53 : b.regs O13.DOMAIN_LEAD_MIN) (c54 : b.regs O13.BACKUP_DEVICE) (c55 : ∀ k ∈ eventRegs 310, b.regs k) (hp0 : Within b p0) : WithinOut b (execBeaconsMissed p0) := by
  unfold execBeaconsMissed
  refine live_within ?_ ?_
  · exact hp0
  · intro u1 hu2
    try beta_reduce
    extract_lets -merge -useContext -underBinder x3
    refine ite_elim (P := Within b) ?_ ?_
    · refine State.orphaned_within qdomain qevu qsent qsess qmail qfurlongs qfabric qfmem qchain c10 c11 c12 c13 c14 c15 c16 c17 c18 c19 c20 c21 c22 c23 c24 c25 c26 c27 c28 c29 c30 c31 c32 c33 c34 c35 c36 c37 c38 c39 c40 c41 c42 ?_
      exact hu2
    · refine ite_elim (P := Within b) ?_ ?_
      · refine ite_elim (P := Within b) ?_ ?_
        · refine ite_elim (P := Within b) ?_ ?_
          · refine State.orphaned_within qdomain qevu qsent qsess qmail qfurlongs qfabric qfmem qchain c10 c11 c12 c13 c14 c15 c16 c17 c18 c19 c20 c21 c22 c23 c24 c25 c26 c27 c28 c29 c30 c31 c32 c33 c34 c35 c36 c37 c38 c39 c40 c41 c42 ?_
            exact hu2
          · exact hu2
        · refine State.takeOver_within qevu qtiming qdomain qsent qsess qmail qfurlongs qfabric qfmem qchain c43 c44 c45 c46 c47 c10 c11 c48 c49 c50 c51 c31 c52 c53 c54 c12 c13 c14 c15 c16 c17 c18 c19 c20 c21 c22 c23 c24 c25 c26 c27 c28 c29 c30 c32 c33 c34 c35 c36 c37 c38 c39 c40 c41 c55 ?_
          exact hu2
      · exact hu2

theorem execDomainTransaction_within {b : Bounds} {p0 p1 p2 p3 p4 p5 p6 p7 p8} (qdomain : b.parts .domain) (qsent : b.parts .sent) (qfurlongs : b.parts .furlongs) (qevu : b.parts .evu) (qfmem : b.parts .fmem) (qchain : b.parts .chain) (qjrnl : b.parts .jrnl) (qsess : b.parts .sess) (qmail : b.parts .mail) (hk : ∀ k, b.regs k) (hp8 : Within b p8) : WithinOut b (execDomainTransaction p0 p1 p2 p3 p4 p5 p6 p7 p8) := by
  unfold execDomainTransaction
  refine live_within ?_ ?_
  · exact hp8
  · intro u1 hu2
    try beta_reduce
    extract_lets -merge -useContext -underBinder x3 x4 x5
    have hx4 : Within1 b x4 := by
      unfold x4
      refine State.domainTx_within qdomain qsent qfurlongs qevu qfmem qchain qjrnl qsess qmail hk ?_
      exact hu2
    try clear_value x4
    have hx5 : Within1 b x5 := by
      unfold x5
      refine State.domainTx_within qdomain qsent qfurlongs qevu qfmem qchain qjrnl qsess qmail hk ?_
      exact hu2
    try clear_value x5
    refine ite_elim (P := Within b) ?_ ?_
    · refine ite_elim (P := Within b) ?_ ?_
      · refine State.raise_within qevu (fun _ _ => hk _) ?_
        change Within1 b _
        exact hx4
      · exact hu2
    · refine ite_elim (P := Within b) ?_ ?_
      · change Within1 b _
        exact hx5
      · refine State.emit_within qsent ?_
        change Within1 b _
        exact hx5

theorem execPrepare_within {b : Bounds} {p0 p1 p2 p3 p4 p5 p6} (qsent : b.parts .sent) (qfurlongs : b.parts .furlongs) (qevu : b.parts .evu) (qfmem : b.parts .fmem) (qchain : b.parts .chain) (qjrnl : b.parts .jrnl) (qdomain : b.parts .domain) (qsess : b.parts .sess) (qmail : b.parts .mail) (hk : ∀ k, b.regs k) (hp6 : Within b p6) : WithinOut b (execPrepare p0 p1 p2 p3 p4 p5 p6) := by
  unfold execPrepare
  refine live_within ?_ ?_
  · exact hp6
  · intro u1 hu2
    try beta_reduce
    refine State.relayed_within qsent qfurlongs (fun _ => hk _) ?_ ?_
    · exact hu2
    · intro u3 hu4
      try beta_reduce
      refine ite_elim (P := Within b) ?_ ?_
      · exact hu4
      · refine ite_elim (P := Within b) ?_ ?_
        · exact hu4
        · refine State.prepare_within qevu qfmem qchain qjrnl qdomain qsent qfurlongs qsess qmail hk ?_
          exact hu4

theorem execAbortRecord_within {b : Bounds} {p0 p1 p2 p3} (qsent : b.parts .sent) (qfurlongs : b.parts .furlongs) (qdomain : b.parts .domain) (qevu : b.parts .evu) (qsess : b.parts .sess) (qmail : b.parts .mail) (qfabric : b.parts .fabric) (qfmem : b.parts .fmem) (qchain : b.parts .chain) (c9 : ∀ (w0 : ℕ), b.regs (O12.CELLS_IO w0)) (c10 : b.regs O04.STREAMS_ACTIVE) (c11 : ∀ (w0 : ℕ), b.regs (O12.MEDIA_CELLS w0)) (c12 : ∀ (w0 w1 : ℕ), b.regs (O0C.DEST_TERMS w0 w1)) (c13 : ∀ (w0 : ℕ), b.regs (O0C.BLOCK_TERMS w0)) (c14 : b.regs O0C.PHASE_TERMS) (c15 : b.regs O0C.TERMS_COMMITTED) (c16 : ∀ (w0 : ℕ), b.regs (O09.BUSHEL_PATHS w0)) (c17 : ∀ (w0 : ℕ), b.regs (O09.PECK_MASK w0)) (c18 : ∀ (w0 : ℕ), b.regs (O09.BUSHEL_STATE w0)) (c19 : b.regs O09.BUSHELS_IN_SERVICE) (c20 : b.regs O09.POOL_PECKS) (c21 : b.regs O09.PECKS_COMMITTED) (c22 : b.regs O09.PECKS_FREE) (c23 : b.regs O09.PATHS_SHED) (c24 : b.regs O09.PATHS_RUNNING) (c25 : ∀ k ∈ eventRegs 308, b.regs k) (c26 : b.regs O13.LAST_EPOCH) (c27 : ∀ k ∈ eventRegs 312, b.regs k) (c28 : b.regs O13.DOMAIN_STATE) (c29 : ∀ k ∈ eventRegs 309, b.regs k) (c30 : b.regs O13.DOMAIN_FLAGS) (c31 : ∀ (w0 : ℕ), b.regs (O13.MEMBER_LAST_EPOCH w0)) (c32 : ∀ (w0 : ℕ), b.regs (O1C.SESS_QUEUE w0)) (c33 : ∀ k ∈ eventRegs 451, b.regs k) (c34 : b.regs O1C.FILULO_FLAGS) (c35 : b.regs O1C.TX_LAST) (c36 : b.regs O05.GENERAL_FREE) (c37 : ∀ (w0 : ℕ), b.regs (O05.LARGEST_FREE w0)) (c38 : ∀ (w0 : ℕ), b.regs (O05.FREE_BYTES w0)) (c39 : b.regs O01.SHADOW_STATE) (hp3 : Within b p3) : WithinOut b (execAbortRecord p0 p1 p2 p3) := by
  unfold execAbortRecord
  refine live_within ?_ ?_
  · exact hp3
  · intro u1 hu2
    try beta_reduce
    refine State.relayed_within qsent qfurlongs c9 ?_ ?_
    · exact hu2
    · intro u3 hu4
      try beta_reduce
      extract_lets -merge -useContext -underBinder x5
      have hx5 : Within b x5 := by
        unfold x5
        split
        · refine ite_elim (P := Within b) ?_ ?_
          · refine State.setEpoch_within qdomain ?_
            exact hu4
          · exact hu4
        · exact hu4
      try clear_value x5
      split
      · exact hx5
      · split
        · refine State.withdrawPart_within qdomain qevu qsent qsess qmail qfurlongs qfabric qfmem qchain c10 c11 c12 c13 c14 c15 c16 c17 c18 c19 c20 c21 c22 c23 c24 c25 c26 c27 c28 c29 c30 c31 c32 c33 c34 c35 c9 c36 c37 c38 c39 ?_
          exact hx5
        · exact hx5

theorem execResync_within {b : Bounds} {p0 p1 p2} (qsent : b.parts .sent) (qevu : b.parts .evu) (qsess : b.parts .sess) (qmail : b.parts .mail) (qjobs : b.parts .jobs) (qdomain : b.parts .domain) (qfurlongs : b.parts .furlongs) (qfmem : b.parts .fmem) (qchain : b.parts .chain) (qjrnl : b.parts .jrnl) (hk : ∀ k, b.regs k) (hp2 : Within b p2) : WithinOut b (execResync p0 p1 p2) := by
  unfold execResync
  refine live_within ?_ ?_
  · exact hp2
  · intro u1 hu2
    try beta_reduce
    refine ite_elim (P := Within b) ?_ ?_
    · refine State.resyncStep_within qsent qevu qsess qmail qjobs qdomain qfurlongs qfmem qchain qjrnl hk ?_
      change Within1 b _
      refine State.startResync_within qsent qevu qsess qmail qjobs (fun _ => hk _) (fun _ => hk _) (fun _ => hk _) (fun _ => hk _) (fun _ => hk _) (fun _ => hk _) (fun _ => hk _) (fun _ _ => hk _) (hk _) (fun _ _ => hk _) (hk _) (hk _) (fun _ => hk _) (fun _ => hk _) ?_
      exact hu2
    · exact hu2

theorem execHashReseed_within {b : Bounds} {p0} (qfresh : b.parts .fresh) (qevu : b.parts .evu) (qchain : b.parts .chain) (qdomain : b.parts .domain) (c4 : ∀ k ∈ eventRegs 315, b.regs k) (c5 : b.regs O13.DOMAIN_FLAGS) (c6 : b.regs O13.HASH_RESEEDS) (c7 : b.regs O01.SHADOW_STATE) (hp0 : Within b p0) : WithinOut b (execHashReseed p0) := by
  unfold execHashReseed
  refine live_within ?_ ?_
  · exact hp0
  · intro u1 hu1
    try beta_reduce
    extract_lets -merge -useContext -underBinder x2 x3 x4 x5
    have hx3 : Within2 b x3 := by
      unfold x3
      refine State.draw_within qfresh ?_
      exact hu1
    try clear_value x3
    have hx4 : Within b x4 := by
      unfold x4
      refine State.onDomain_within qdomain ?_
      change Within2 b _
      exact hx3
    try clear_value x4
    have hx5 : Within b x5 := by
      unfold x5
      refine State.raise_within qevu c4 ?_
      refine State.flag_within c5 ?_
      refine State.bump_within c6 ?_
      exact hx4
    try clear_value x5
    refine ite_elim (P := Within b) ?_ ?_
    · exact hu1
    · refine ite_elim (P := Within b) ?_ ?_
      · exact hx5
      · refine State.pump_within qchain c7 ?_
        refine State.queueRemoval_within qchain ?_
        exact hx5

end Sys2Proof.Machine
end

