-- ==== Sys2Proof/Laws/WithinStepping.lean ====
section
/-! SUPPORT. What each operation of Machine/Stepping.lean may change at most (Laws/Within.lean). -/

set_option maxRecDepth 8000

namespace Sys2Proof.Machine

theorem State.actStepTime_within {b : Bounds} {p0 p1} (qtick : b.parts .tick) (hp0 : Within b p0) : Within b (State.actStepTime p0 p1) := by
  unfold State.actStepTime
  extract_lets -merge -useContext -underBinder x1
  refine Within.f_tick (s := p0) qtick (fun i => i) ?_
  exact hp0

theorem State.writePpsTime_within {b : Bounds} {p0 p1} (qtick : b.parts .tick) (c1 : b.regs O01.PPS_TIME) (hp0 : Within b p0) : Within b (State.writePpsTime p0 p1) := by
  unfold State.writePpsTime
  extract_lets -merge -useContext -underBinder x1 x2
  have hx1 : Within b x1 := by
    unfold x1
    refine State.setN_within c1 ?_
    exact hp0
  try clear_value x1
  refine Within.f_tick (s := x1) qtick (fun i => i) ?_
  exact hx1

theorem State.stepTime_within {b : Bounds} {p0 p1 p2} (qevu : b.parts .evu) (qsent : b.parts .sent) (qsess : b.parts .sess) (qmail : b.parts .mail) (qjobs : b.parts .jobs) (qdomain : b.parts .domain) (qfurlongs : b.parts .furlongs) (qfabric : b.parts .fabric) (qfmem : b.parts .fmem) (qchain : b.parts .chain) (qtick : b.parts .tick) (qtiming : b.parts .timing) (qcues : b.parts .cues) (qnet : b.parts .net) (c14 : b.regs O01.TIME_SOURCE) (c15 : b.regs O01.TIME_VALID) (c16 : b.regs O04.STREAMS_ACTIVE) (c17 : ∀ (w0 : ℕ), b.regs (O12.MEDIA_CELLS w0)) (c18 : ∀ (w0 w1 : ℕ), b.regs (O0C.DEST_TERMS w0 w1)) (c19 : ∀ (w0 : ℕ), b.regs (O0C.BLOCK_TERMS w0)) (c20 : b.regs O0C.PHASE_TERMS) (c21 : b.regs O0C.TERMS_COMMITTED) (c22 : ∀ (w0 : ℕ), b.regs (O09.BUSHEL_PATHS w0)) (c23 : ∀ (w0 : ℕ), b.regs (O09.PECK_MASK w0)) (c24 : ∀ (w0 : ℕ), b.regs (O09.BUSHEL_STATE w0)) (c25 : b.regs O09.BUSHELS_IN_SERVICE) (c26 : b.regs O09.POOL_PECKS) (c27 : b.regs O09.PECKS_COMMITTED) (c28 : b.regs O09.PECKS_FREE) (c29 : b.regs O09.PATHS_SHED) (c30 : b.regs O09.PATHS_RUNNING) (c31 : ∀ (w0 : ℕ), b.regs (O08.SALVO_LAST_STATUS w0)) (c32 : ∀ (w0 : ℕ), b.regs (O08.SALVO_LAST_TICK w0)) (c33 : ∀ k ∈ eventRegs 130, b.regs k) (c34 : ∀ (w0 : ℕ), b.regs (O1C.SESS_QUEUE w0)) (c35 : ∀ k ∈ eventRegs 451, b.regs k) (c36 : b.regs O1C.FILULO_FLAGS) (c37 : b.regs O1C.TX_LAST) (c38 : ∀ k ∈ eventRegs 321, b.regs k) (c39 : ∀ (w0 : ℕ), b.regs (O14.CE_STATUS w0)) (c40 : ∀ (w0 : ℕ), b.regs (O14.LAST_ERROR w0)) (c41 : ∀ (w0 : ℕ), b.regs (O14.ACTION_ERRORS w0)) (c42 : ∀ k ∈ eventRegs 308, b.regs k) (c43 : b.regs O13.LAST_EPOCH) (c44 : ∀ k ∈ eventRegs 312, b.regs k) (c45 : b.regs O13.DOMAIN_STATE) (c46 : ∀ k ∈ eventRegs 309, b.regs k) (c47 : b.regs O13.DOMAIN_FLAGS) (c48 : ∀ (w0 : ℕ), b.regs (O13.MEMBER_LAST_EPOCH w0)) (c49 : ∀ (w0 : ℕ), b.regs (O12.CELLS_IO w0)) (c50 : b.regs O05.GENERAL_FREE) (c51 : ∀ (w0 : ℕ), b.regs (O05.LARGEST_FREE w0)) (c52 : ∀ (w0 : ℕ), b.regs (O05.FREE_BYTES w0)) (c53 : b.regs O01.SHADOW_STATE) (c54 : ∀ k ∈ eventRegs 690, b.regs k) (hp0 : Within b p0) : Within b (State.stepTime p0 p1 p2) := by
  unfold State.stepTime
  extract_lets -merge -useContext -underBinder x1 x2 x3 x4 x5 x6
  have hx1 : Within b x1 := by
    unfold x1
    refine State.setN_within c14 ?_
    refine State.setB_within c15 ?_
    refine State.stepWithdraw_within qevu qsent qsess qmail qjobs qdomain qfurlongs qfabric qfmem qchain c16 c17 c18 c19 c20 c21 c22 c23 c24 c25 c26 c27 c28 c29 c30 c31 c32 c33 c34 c35 c36 c37 c38 c39 c40 c41 c42 c43 c44 c45 c46 c47 c48 c49 c50 c51 c52 c53 ?_
    exact hp0
  try clear_value x1
  have hx4 : Within b x4 := by
    unfold x4
    refine Within.f_tick (s := x1) qtick (fun i => i) ?_
    exact hx1
  try clear_value x4
  have hx6 : Within b x6 := by
    unfold x6
    refine Within.f_timing (s := x4) qtiming ?_
    exact hx4
  try clear_value x6
  refine State.cuesStep_within qcues ?_
  refine State.gateStep_within qevu qnet c54 ?_
  exact hx6

theorem execStepTime_within {b : Bounds} {p0 p1} (qtick : b.parts .tick) (hp1 : Within b p1) : WithinOut b (execStepTime p0 p1) := by
  unfold execStepTime
  refine live_within ?_ ?_
  · exact hp1
  · intro u1 hu1
    try beta_reduce
    refine ite_elim (P := Within b) ?_ ?_
    · refine State.actStepTime_within qtick ?_
      exact hu1
    · exact hu1

theorem execPpsEdge_within {b : Bounds} {p0 p1} (qtiming : b.parts .timing) (qtick : b.parts .tick) (c2 : ∀ (w0 : ℕ), b.regs (O02.CAND_STATE w0)) (c3 : ∀ (w0 : ℕ), b.regs (O02.OUTVOTED w0)) (c4 : ∀ (w0 : ℕ), b.regs (O02.PHASE_OFFSET w0)) (hp1 : Within b p1) : WithinOut b (execPpsEdge p0 p1) := by
  unfold execPpsEdge
  refine live_within ?_ ?_
  · exact hp1
  · intro u1 hu2
    try beta_reduce
    split
    · exact hu2
    · extract_lets -merge -useContext -underBinder x3 x4 x5 x6 x7
      have hx3 : Within b x3 := by
        unfold x3
        refine State.candSignal_within qtiming (c2 _) (c3 _) ?_
        refine ite_elim (P := Within b) ?_ ?_
        · exact hu2
        · refine State.setZ_within (c4 _) ?_
          exact hu2
      try clear_value x3
      have hx5 : Within b x5 := by
        unfold x5
        refine State.setCand_within qtiming ?_
        exact hx3
      try clear_value x5
      have hx7 : Within b x7 := by
        unfold x7
        refine Within.f_tick (s := x5) qtick (fun i => i) ?_
        exact hx5
      try clear_value x7
      refine ite_elim (P := Within b) ?_ ?_
      · exact hx3
      · extract_lets -merge -useContext -underBinder 
        refine ite_elim (P := Within b) ?_ ?_
        · refine State.firstTime_within qtick ?_
          exact hx7
        · exact hx7

end Sys2Proof.Machine
end

