-- ==== Sys2Proof/Laws/WithinSessions.lean ====
section
/-! SUPPORT. What each operation of Machine/Sessions.lean may change at most (Laws/Within.lean). -/

set_option maxRecDepth 8000

namespace Sys2Proof.Machine

theorem State.countSessions_within {b : Bounds} {p0} (c0 : b.regs O1C.SESSIONS_OPEN) (hp0 : Within b p0) : Within b (State.countSessions p0) := by
  unfold State.countSessions
  refine State.setN_within c0 ?_
  exact hp0

theorem State.freeSession_within {b : Bounds} {p0 p1} (qsess : b.parts .sess) (qmail : b.parts .mail) (qreasm : b.parts .reasm) (c3 : b.regs O1C.SESSIONS_OPEN) (c4 : b.regs (O1C.SESS_QUEUE p1)) (c5 : b.regs (O1C.SESS_SUBS p1)) (c6 : b.regs (O1C.SESS_TX_OPEN p1)) (c7 : b.regs (O1C.SESS_OPENED p1)) (c8 : b.regs (O1C.SESS_PEER p1)) (c9 : b.regs (O1C.SESS_CRED p1)) (c10 : b.regs (O1C.SESS_ROLE p1)) (c11 : b.regs (O1C.SESS_STATE p1)) (hp0 : Within b p0) : Within b (State.freeSession p0 p1) := by
  unfold State.freeSession
  extract_lets -merge -useContext -underBinder x1 x2
  have hx2 : Within b x2 := by
    unfold x2
    refine Within.of_eq (t := p0) [.sess, .mail, .reasm] (all3 qsess qmail qreasm) (by intro p h; cases p <;> first | rfl | exact absurd (by decide) h) rfl (fun i => i) ?_
    exact hp0
  try clear_value x2
  refine State.countSessions_within c3 ?_
  refine State.clearObj_within c4 ?_
  refine State.clearObj_within c5 ?_
  refine State.clearObj_within c6 ?_
  refine State.clearObj_within c7 ?_
  refine State.clearObj_within c8 ?_
  refine State.clearObj_within c9 ?_
  refine State.clearObj_within c10 ?_
  refine State.clearObj_within c11 ?_
  exact hx2

theorem State.txDiscarded_within {b : Bounds} {p0 p1 p2} (qevu : b.parts .evu) (qchain : b.parts .chain) (c2 : b.regs (O1C.SESS_TX_OPEN p1)) (c3 : ∀ k ∈ eventRegs 452, b.regs k) (c4 : b.regs O1C.FILULO_FLAGS) (hp0 : Within b p0) : Within b (State.txDiscarded p0 p1 p2) := by
  unfold State.txDiscarded
  extract_lets -merge -useContext -underBinder x1 x2
  have hx1 : Within b x1 := by
    unfold x1
    refine State.onChain_within qchain ?_
    exact hp0
  try clear_value x1
  have hx2 : Within b x2 := by
    unfold x2
    refine State.setN_within c2 ?_
    exact hx1
  try clear_value x2
  refine State.raise_within qevu c3 ?_
  refine State.flag_within c4 ?_
  exact hx2

theorem State.orphan_within {b : Bounds} {p0 p1} (qchain : b.parts .chain) (qjrnl : b.parts .jrnl) (qdomain : b.parts .domain) (qboot : b.parts .boot) (hp0 : Within b p0) : Within b (State.orphan p0 p1) := by
  unfold State.orphan
  extract_lets -merge -useContext -underBinder x1 x2 x3 x4 x5 x6 x7
  have hx1 : Within b x1 := by
    unfold x1
    refine State.onChain_within qchain ?_
    exact hp0
  try clear_value x1
  have hx5 : Within b x5 := by
    unfold x5
    refine Within.f_jrnl (s := x1) qjrnl ?_
    exact hx1
  try clear_value x5
  have hx6 : Within b x6 := by
    unfold x6
    refine State.onBoot_within qboot ?_
    exact hx5
  try clear_value x6
  refine State.onDomain_within qdomain ?_
  exact hx6

theorem State.leaveJobs_within {b : Bounds} {p0 p1} (qjobs : b.parts .jobs) (c1 : ∀ w0, b.regs (O1B.JOB_OWNER w0)) (hp0 : Within b p0) : Within b (State.leaveJobs p0 p1) := by
  unfold State.leaveJobs
  refine State.forEach_within ?_ ?_
  · exact hp0
  · intro u1 u2 hu1
    try beta_reduce
    extract_lets -merge -useContext -underBinder x3 x4
    have hx3 : Within b x3 := by
      unfold x3
      refine ite_elim (P := Within b) ?_ ?_
      · refine State.setN_within (c1 _) ?_
        exact hu1
      · exact hu1
    try clear_value x3
    refine ite_elim (P := Within b) ?_ ?_
    · refine State.setJob_within qjobs ?_
      exact hx3
    · exact hx3

theorem State.closeSession_within {b : Bounds} {p0 p1 p2 p3} (qsent : b.parts .sent) (qevu : b.parts .evu) (qchain : b.parts .chain) (qsess : b.parts .sess) (qmail : b.parts .mail) (qreasm : b.parts .reasm) (qjobs : b.parts .jobs) (qjrnl : b.parts .jrnl) (qdomain : b.parts .domain) (qboot : b.parts .boot) (qkeys : b.parts .keys) (c11 : b.regs (O1C.SESS_TX_OPEN p1)) (c12 : ∀ k ∈ eventRegs 452, b.regs k) (c13 : b.regs O1C.FILULO_FLAGS) (c14 : b.regs O1C.SESSIONS_OPEN) (c15 : b.regs (O1C.SESS_QUEUE p1)) (c16 : b.regs (O1C.SESS_SUBS p1)) (c17 : b.regs (O1C.SESS_OPENED p1)) (c18 : b.regs (O1C.SESS_PEER p1)) (c19 : b.regs (O1C.SESS_CRED p1)) (c20 : b.regs (O1C.SESS_ROLE p1)) (c21 : b.regs (O1C.SESS_STATE p1)) (c22 : b.regs O19.HANDLES_OPEN) (c23 : ∀ w0, b.regs (O19.HANDLE_OWNER w0)) (c24 : ∀ w0, b.regs (O19.HANDLE_INFO w0)) (c25 : ∀ w0, b.regs (O19.HANDLE_STATE w0)) (c26 : ∀ w0, b.regs (O1B.JOB_OWNER w0)) (c27 : ∀ k ∈ eventRegs 449, b.regs k) (hp0 : Within b p0) : Within b (State.closeSession p0 p1 p2 p3) := by
  unfold State.closeSession
  extract_lets -merge -useContext -underBinder x1 x2 x3
  have hx1 : Within b x1 := by
    unfold x1
    refine ite_elim (P := Within b) ?_ ?_
    · refine State.sendMsg_within qsent qsess qmail ?_
      exact hp0
    · exact hp0
  try clear_value x1
  have hx2 : Within b x2 := by
    unfold x2
    refine State.forEach_within ?_ ?_
    · exact hx1
    · intro u4 u5 hu4
      try beta_reduce
      refine State.txDiscarded_within qevu qchain c11 c12 c13 ?_
      exact hu4
  try clear_value x2
  have hx3 : Within b x3 := by
    unfold x3
    refine State.freeSession_within qsess qmail qreasm c14 c15 c16 c11 c17 c18 c19 c20 c21 ?_
    refine State.closeHandles_within qkeys c22 c23 c24 c25 ?_
    refine State.leaveJobs_within qjobs c26 ?_
    refine State.orphan_within qchain qjrnl qdomain qboot ?_
    exact hx2
  try clear_value x3
  refine ite_elim (P := Within b) ?_ ?_
  · exact hp0
  · refine State.raise_within qevu c27 ?_
    exact hx3

theorem State.closeCred_within {b : Bounds} {p0 p1} (qsent : b.parts .sent) (qevu : b.parts .evu) (qchain : b.parts .chain) (qsess : b.parts .sess) (qmail : b.parts .mail) (qreasm : b.parts .reasm) (qjobs : b.parts .jobs) (qjrnl : b.parts .jrnl) (qdomain : b.parts .domain) (qboot : b.parts .boot) (qkeys : b.parts .keys) (c11 : ∀ w0, b.regs (O1C.SESS_TX_OPEN w0)) (c12 : ∀ k ∈ eventRegs 452, b.regs k) (c13 : b.regs O1C.FILULO_FLAGS) (c14 : b.regs O1C.SESSIONS_OPEN) (c15 : ∀ w0, b.regs (O1C.SESS_QUEUE w0)) (c16 : ∀ w0, b.regs (O1C.SESS_SUBS w0)) (c17 : ∀ w0, b.regs (O1C.SESS_OPENED w0)) (c18 : ∀ w0, b.regs (O1C.SESS_PEER w0)) (c19 : ∀ w0, b.regs (O1C.SESS_CRED w0)) (c20 : ∀ w0, b.regs (O1C.SESS_ROLE w0)) (c21 : ∀ w0, b.regs (O1C.SESS_STATE w0)) (c22 : b.regs O19.HANDLES_OPEN) (c23 : ∀ w0, b.regs (O19.HANDLE_OWNER w0)) (c24 : ∀ w0, b.regs (O19.HANDLE_INFO w0)) (c25 : ∀ w0, b.regs (O19.HANDLE_STATE w0)) (c26 : ∀ w0, b.regs (O1B.JOB_OWNER w0)) (c27 : ∀ k ∈ eventRegs 449, b.regs k) (hp0 : Within b p0) : Within b (State.closeCred p0 p1) := by
  unfold State.closeCred
  refine State.forEach_within ?_ ?_
  · exact hp0
  · intro u1 u2 hu1
    try beta_reduce
    refine State.closeSession_within qsent qevu qchain qsess qmail qreasm qjobs qjrnl qdomain qboot qkeys (c11 _) c12 c13 c14 (c15 _) (c16 _) (c17 _) (c18 _) (c19 _) (c20 _) (c21 _) c22 c23 c24 c25 c26 c27 ?_
    exact hu1

theorem State.closeService_within {b : Bounds} {p0} (qsent : b.parts .sent) (qevu : b.parts .evu) (qchain : b.parts .chain) (qsess : b.parts .sess) (qmail : b.parts .mail) (qreasm : b.parts .reasm) (qjobs : b.parts .jobs) (qjrnl : b.parts .jrnl) (qdomain : b.parts .domain) (qboot : b.parts .boot) (qkeys : b.parts .keys) (c11 : ∀ (w0 : ℕ), b.regs (O1C.SESS_TX_OPEN w0)) (c12 : ∀ k ∈ eventRegs 452, b.regs k) (c13 : b.regs O1C.FILULO_FLAGS) (c14 : b.regs O1C.SESSIONS_OPEN) (c15 : ∀ (w0 : ℕ), b.regs (O1C.SESS_QUEUE w0)) (c16 : ∀ (w0 : ℕ), b.regs (O1C.SESS_SUBS w0)) (c17 : ∀ (w0 : ℕ), b.regs (O1C.SESS_OPENED w0)) (c18 : ∀ (w0 : ℕ), b.regs (O1C.SESS_PEER w0)) (c19 : ∀ (w0 : ℕ), b.regs (O1C.SESS_CRED w0)) (c20 : ∀ (w0 : ℕ), b.regs (O1C.SESS_ROLE w0)) (c21 : ∀ (w0 : ℕ), b.regs (O1C.SESS_STATE w0)) (c22 : b.regs O19.HANDLES_OPEN) (c23 : ∀ (w0 : ℕ), b.regs (O19.HANDLE_OWNER w0)) (c24 : ∀ (w0 : ℕ), b.regs (O19.HANDLE_INFO w0)) (c25 : ∀ (w0 : ℕ), b.regs (O19.HANDLE_STATE w0)) (c26 : ∀ (w0 : ℕ), b.regs (O1B.JOB_OWNER w0)) (c27 : ∀ k ∈ eventRegs 449, b.regs k) (hp0 : Within b p0) : Within b (State.closeService p0) := by
  unfold State.closeService
  refine State.forEach_within ?_ ?_
  · exact hp0
  · intro u1 u2 hu3
    try beta_reduce
    refine State.closeSession_within qsent qevu qchain qsess qmail qreasm qjobs qjrnl qdomain qboot qkeys (c11 _) c12 c13 c14 (c15 _) (c16 _) (c17 _) (c18 _) (c19 _) (c20 _) (c21 _) c22 c23 c24 c25 c26 c27 ?_
    exact hu3

theorem State.otpStepServed_within {b : Bounds} {p0} (qsent : b.parts .sent) (qevu : b.parts .evu) (qsess : b.parts .sess) (qmail : b.parts .mail) (qboot : b.parts .boot) (qchain : b.parts .chain) (qreasm : b.parts .reasm) (qjobs : b.parts .jobs) (qjrnl : b.parts .jrnl) (qdomain : b.parts .domain) (qkeys : b.parts .keys) (c11 : ∀ k ∈ eventRegs 395, b.regs k) (c12 : ∀ k ∈ eventRegs 389, b.regs k) (c13 : ∀ k ∈ eventRegs 393, b.regs k) (c14 : ∀ (w0 : ℕ), b.regs (O1C.SESS_TX_OPEN w0)) (c15 : ∀ k ∈ eventRegs 452, b.regs k) (c16 : b.regs O1C.FILULO_FLAGS) (c17 : b.regs O1C.SESSIONS_OPEN) (c18 : ∀ (w0 : ℕ), b.regs (O1C.SESS_QUEUE w0)) (c19 : ∀ (w0 : ℕ), b.regs (O1C.SESS_SUBS w0)) (c20 : ∀ (w0 : ℕ), b.regs (O1C.SESS_OPENED w0)) (c21 : ∀ (w0 : ℕ), b.regs (O1C.SESS_PEER w0)) (c22 : ∀ (w0 : ℕ), b.regs (O1C.SESS_CRED w0)) (c23 : ∀ (w0 : ℕ), b.regs (O1C.SESS_ROLE w0)) (c24 : ∀ (w0 : ℕ), b.regs (O1C.SESS_STATE w0)) (c25 : b.regs O19.HANDLES_OPEN) (c26 : ∀ (w0 : ℕ), b.regs (O19.HANDLE_OWNER w0)) (c27 : ∀ (w0 : ℕ), b.regs (O19.HANDLE_INFO w0)) (c28 : ∀ (w0 : ℕ), b.regs (O19.HANDLE_STATE w0)) (c29 : ∀ (w0 : ℕ), b.regs (O1B.JOB_OWNER w0)) (c30 : ∀ k ∈ eventRegs 449, b.regs k) (hp0 : Within b p0) : Within b (State.otpStepServed p0) := by
  unfold State.otpStepServed
  extract_lets -merge -useContext -underBinder x1
  have hx1 : Within b x1 := by
    unfold x1
    refine State.otpStep_within qsent qevu qsess qmail qboot c11 c12 c13 ?_
    exact hp0
  try clear_value x1
  refine ite_elim (P := Within b) ?_ ?_
  · refine State.closeService_within qsent qevu qchain qsess qmail qreasm qjobs qjrnl qdomain qboot qkeys c14 c15 c16 c17 c18 c19 c20 c21 c22 c23 c24 c25 c26 c27 c28 c29 c30 ?_
    exact hx1
  · exact hx1

theorem State.closeAll_within {b : Bounds} {p0} (qsent : b.parts .sent) (qevu : b.parts .evu) (qchain : b.parts .chain) (qsess : b.parts .sess) (qmail : b.parts .mail) (qreasm : b.parts .reasm) (qjobs : b.parts .jobs) (qjrnl : b.parts .jrnl) (qdomain : b.parts .domain) (qboot : b.parts .boot) (qkeys : b.parts .keys) (c11 : ∀ w0, b.regs (O1C.SESS_TX_OPEN w0)) (c12 : ∀ k ∈ eventRegs 452, b.regs k) (c13 : b.regs O1C.FILULO_FLAGS) (c14 : b.regs O1C.SESSIONS_OPEN) (c15 : ∀ w0, b.regs (O1C.SESS_QUEUE w0)) (c16 : ∀ w0, b.regs (O1C.SESS_SUBS w0)) (c17 : ∀ w0, b.regs (O1C.SESS_OPENED w0)) (c18 : ∀ w0, b.regs (O1C.SESS_PEER w0)) (c19 : ∀ w0, b.regs (O1C.SESS_CRED w0)) (c20 : ∀ w0, b.regs (O1C.SESS_ROLE w0)) (c21 : ∀ w0, b.regs (O1C.SESS_STATE w0)) (c22 : b.regs O19.HANDLES_OPEN) (c23 : ∀ w0, b.regs (O19.HANDLE_OWNER w0)) (c24 : ∀ w0, b.regs (O19.HANDLE_INFO w0)) (c25 : ∀ w0, b.regs (O19.HANDLE_STATE w0)) (c26 : ∀ w0, b.regs (O1B.JOB_OWNER w0)) (c27 : ∀ k ∈ eventRegs 449, b.regs k) (hp0 : Within b p0) : Within b (State.closeAll p0) := by
  unfold State.closeAll
  extract_lets -merge -useContext -underBinder x1
  have hx1 : Within b x1 := by
    unfold x1
    refine State.forEach_within ?_ ?_
    · exact hp0
    · intro u2 u3 hu2
      try beta_reduce
      refine State.closeSession_within qsent qevu qchain qsess qmail qreasm qjobs qjrnl qdomain qboot qkeys (c11 _) c12 c13 c14 (c15 _) (c16 _) (c17 _) (c18 _) (c19 _) (c20 _) (c21 _) c22 c23 c24 c25 c26 c27 ?_
      exact hu2
  try clear_value x1
  refine State.forEach_within ?_ ?_
  · exact hx1
  · intro u4 u5 hu4
    refine State.freeSession_within qsess qmail qreasm c14 (c15 _) (c16 _) (c11 _) (c17 _) (c18 _) (c19 _) (c20 _) (c21 _) ?_
    exact hu4

theorem State.writeCred_within {b : Bounds} {p0 p1 p2} (qsent : b.parts .sent) (qevu : b.parts .evu) (qchain : b.parts .chain) (qsess : b.parts .sess) (qmail : b.parts .mail) (qreasm : b.parts .reasm) (qjobs : b.parts .jobs) (qjrnl : b.parts .jrnl) (qdomain : b.parts .domain) (qboot : b.parts .boot) (qkeys : b.parts .keys) (c11 : b.regs p1) (c12 : ∀ w0, b.regs (O1C.SESS_TX_OPEN w0)) (c13 : ∀ k ∈ eventRegs 452, b.regs k) (c14 : b.regs O1C.FILULO_FLAGS) (c15 : b.regs O1C.SESSIONS_OPEN) (c16 : ∀ w0, b.regs (O1C.SESS_QUEUE w0)) (c17 : ∀ w0, b.regs (O1C.SESS_SUBS w0)) (c18 : ∀ w0, b.regs (O1C.SESS_OPENED w0)) (c19 : ∀ w0, b.regs (O1C.SESS_PEER w0)) (c20 : ∀ w0, b.regs (O1C.SESS_CRED w0)) (c21 : ∀ w0, b.regs (O1C.SESS_ROLE w0)) (c22 : ∀ w0, b.regs (O1C.SESS_STATE w0)) (c23 : b.regs O19.HANDLES_OPEN) (c24 : ∀ w0, b.regs (O19.HANDLE_OWNER w0)) (c25 : ∀ w0, b.regs (O19.HANDLE_INFO w0)) (c26 : ∀ w0, b.regs (O19.HANDLE_STATE w0)) (c27 : ∀ w0, b.regs (O1B.JOB_OWNER w0)) (c28 : ∀ k ∈ eventRegs 449, b.regs k) (hp0 : Within b p0) : WithinS b (State.writeCred p0 p1 p2) := by
  unfold State.writeCred
  extract_lets -merge -useContext -underBinder x1 x2 x3
  have hx1 : Within b x1 := by
    unfold x1
    refine State.setObj_within c11 ?_
    exact hp0
  try clear_value x1
  refine ite_elim (P := WithinS b) ?_ ?_
  · exact optionNone
  · refine optionSome (P := Within b) ?_
    refine ite_elim (P := Within b) ?_ ?_
    · refine State.closeCred_within qsent qevu qchain qsess qmail qreasm qjobs qjrnl qdomain qboot qkeys c12 c13 c14 c15 c16 c17 c18 c19 c20 c21 c22 c23 c24 c25 c26 c27 c28 ?_
      refine State.journal_within qjrnl ?_
      exact hx1
    · refine State.journal_within qjrnl ?_
      exact hx1

theorem State.countReject_within {b : Bounds} {p0 p1} (qlocks : b.parts .locks) (hp0 : Within b p0) : Within b (State.countReject p0 p1) := by
  unfold State.countReject
  extract_lets -merge -useContext -underBinder x1 x2 x3
  refine Within.f_locks (s := p0) qlocks ?_
  exact hp0

theorem State.sendClear_within {b : Bounds} {p0 p1 p2 p3 p4} (qsent : b.parts .sent) (qmail : b.parts .mail) (hp0 : Within b p0) : Within b (State.sendClear p0 p1 p2 p3 p4) := by
  unfold State.sendClear
  extract_lets -merge -useContext -underBinder x1
  refine ite_elim (P := Within b) ?_ ?_
  · refine State.ringPut_within qsent qmail ?_
    exact hp0
  · refine State.emit_within qsent ?_
    exact hp0

theorem State.reject_within {b : Bounds} {p0 p1 p2 p3 p4} (qsent : b.parts .sent) (qevu : b.parts .evu) (qmail : b.parts .mail) (qlocks : b.parts .locks) (c4 : b.regs O1C.HANDSHAKE_FAILS) (c5 : ∀ k ∈ eventRegs 450, b.regs k) (c6 : b.regs O1C.FILULO_FLAGS) (hp0 : Within b p0) : Within b (State.reject p0 p1 p2 p3 p4) := by
  unfold State.reject
  extract_lets -merge -useContext -underBinder x1 x2
  have hx1 : Within b x1 := by
    unfold x1
    refine State.sendClear_within qsent qmail ?_
    refine State.bump_within c4 ?_
    exact hp0
  try clear_value x1
  have hx2 : Within b x2 := by
    unfold x2
    refine ite_elim (P := Within b) ?_ ?_
    · exact hx1
    · refine State.countReject_within qlocks ?_
      exact hx1
  try clear_value x2
  refine ite_elim (P := Within b) ?_ ?_
  · refine State.raise_within qevu c5 ?_
    refine State.flag_within c6 ?_
    exact hx2
  · exact hx1

theorem State.hello_within {b : Bounds} {p0 p1 p2 p3 p4} (qfresh : b.parts .fresh) (qsent : b.parts .sent) (qevu : b.parts .evu) (qsess : b.parts .sess) (qmail : b.parts .mail) (qlocks : b.parts .locks) (qkeys : b.parts .keys) (c7 : b.regs O1C.HANDSHAKE_FAILS) (c8 : ∀ k ∈ eventRegs 450, b.regs k) (c9 : b.regs O1C.FILULO_FLAGS) (c10 : ∀ w0, b.regs (O1C.SESS_PEER w0)) (c11 : ∀ w0, b.regs (O1C.SESS_STATE w0)) (hp0 : Within b p0) : Within b (State.hello p0 p1 p2 p3 p4) := by
  unfold State.hello
  extract_lets -merge -useContext -underBinder x1 x2 x3 x4
  refine ite_elim (P := Within b) ?_ ?_
  · exact hp0
  · refine ite_elim (P := Within b) ?_ ?_
    · refine State.reject_within qsent qevu qmail qlocks c7 c8 c9 ?_
      exact hp0
    · refine ite_elim (P := Within b) ?_ ?_
      · refine State.reject_within qsent qevu qmail qlocks c7 c8 c9 ?_
        exact hp0
      · refine ite_elim (P := Within b) ?_ ?_
        · refine State.reject_within qsent qevu qmail qlocks c7 c8 c9 ?_
          exact hp0
        · refine ite_elim (P := Within b) ?_ ?_
          · refine State.reject_within qsent qevu qmail qlocks c7 c8 c9 ?_
            exact hp0
          · refine ite_elim (P := Within b) ?_ ?_
            · refine State.reject_within qsent qevu qmail qlocks c7 c8 c9 ?_
              exact hp0
            · split
              · refine State.reject_within qsent qevu qmail qlocks c7 c8 c9 ?_
                exact hp0
              · extract_lets -merge -useContext -underBinder x5 x6 x7 x8 x9 x10 x11 x12 x13
                have hx6 : Within2 b x6 := by
                  unfold x6
                  refine State.drbg_within qfresh qkeys ?_
                  exact hp0
                try clear_value x6
                have hx12 : Within b x12 := by
                  unfold x12
                  refine State.setSess_within qsess ?_
                  change Within2 b _
                  exact hx6
                try clear_value x12
                have hx13 : Within b x13 := by
                  unfold x13
                  refine State.setN_within (c10 _) ?_
                  refine State.setN_within (c11 _) ?_
                  exact hx12
                try clear_value x13
                refine State.sendMsg_within qsent qsess qmail ?_
                exact hx13

theorem State.accept_within {b : Bounds} {p0 p1} (qsent : b.parts .sent) (qevu : b.parts .evu) (qsess : b.parts .sess) (qmail : b.parts .mail) (c4 : b.regs (O1C.SESS_OPENED p1)) (c5 : b.regs (O1C.SESS_CRED p1)) (c6 : b.regs (O1C.SESS_ROLE p1)) (c7 : b.regs (O1C.SESS_STATE p1)) (c8 : ∀ k ∈ eventRegs 448, b.regs k) (c9 : b.regs O1C.SESSIONS_OPEN) (hp0 : Within b p0) : Within b (State.accept p0 p1) := by
  unfold State.accept
  split
  · exact hp0
  · extract_lets -merge -useContext -underBinder x1 x2 x3 x4 x5
    have hx3 : Within b x3 := by
      unfold x3
      refine State.setSess_within qsess ?_
      exact hp0
    try clear_value x3
    have hx4 : Within b x4 := by
      unfold x4
      refine State.setN_within c4 ?_
      refine State.setN_within c5 ?_
      refine State.setN_within c6 ?_
      refine State.setN_within c7 ?_
      exact hx3
    try clear_value x4
    refine State.raise_within qevu c8 ?_
    refine State.countSessions_within c9 ?_
    refine State.sendMsg_within qsent qsess qmail ?_
    exact hx4

theorem State.prove_within {b : Bounds} {p0 p1 p2} (hp : ∀ p, p ∉ ([.pending, .member, .fresh, .phase, .straps, .sample, .tick, .chain, .jobs, .timing, .clocks, .lanes, .fabric, .fmem, .inputs, .dests, .conv, .audio, .amx, .net, .furlongs, .domain, .boot, .keys, .bus, .cues, .hot, .measured, .ram, .bytes] : List Part) → b.parts p) (hk : ∀ k, b.regs k) (hp0 : Within b p0) : Within b (State.prove p0 p1 p2) := by
  unfold State.prove
  split
  · exact hp0
  · extract_lets -merge -useContext -underBinder x1 x2 x3 x4 x5 x6 x7 x8 x9 x10 x11 x12 x13
    have hx6 : ∀ a0, Within b (x6 a0) := by
      unfold x6
      intro u14
      try beta_reduce
      refine State.reject_within (hp .sent (by decide)) (hp .evu (by decide)) (hp .mail (by decide)) (hp .locks (by decide)) (hk _) (fun k _ => hk k) (hk _) ?_
      refine State.freeSession_within (hp .sess (by decide)) (hp .mail (by decide)) (hp .reasm (by decide)) (hk _) (hk _) (hk _) (hk _) (hk _) (hk _) (hk _) (hk _) (hk _) ?_
      exact hp0
    try clear_value x6
    have hx11 : Within b x11 := by
      unfold x11
      refine State.setSess_within (hp .sess (by decide)) ?_
      exact hp0
    try clear_value x11
    have hx13 : Within b x13 := by
      unfold x13
      refine State.addRec_within (hp .jrnl (by decide)) ?_
      refine State.forEach_within ?_ ?_
      · exact hx11
      · intro u15 u16 hu15
        try beta_reduce
        refine State.setObj_within (hk _) ?_
        exact hu15
    try clear_value x13
    refine ite_elim (P := Within b) ?_ ?_
    · exact hp0
    · refine ite_elim (P := Within b) ?_ ?_
      · refine hx6 _
      · refine ite_elim (P := Within b) ?_ ?_
        · refine hx6 _
        · refine ite_elim (P := Within b) ?_ ?_
          · refine hx6 _
          · refine ite_elim (P := Within b) ?_ ?_
            · refine hx6 _
            · refine ite_elim (P := Within b) ?_ ?_
              · refine State.accept_within (hp .sent (by decide)) (hp .evu (by decide)) (hp .sess (by decide)) (hp .mail (by decide)) (hk _) (hk _) (hk _) (hk _) (fun k _ => hk k) (hk _) ?_
                exact hx11
              · refine State.raise_within (hp .evu (by decide)) (fun k _ => hk k) ?_
                exact hx13

theorem execHello_within {b : Bounds} {p0 p1 p2 p3 p4} (qfresh : b.parts .fresh) (qsent : b.parts .sent) (qevu : b.parts .evu) (qsess : b.parts .sess) (qmail : b.parts .mail) (qlocks : b.parts .locks) (qkeys : b.parts .keys) (c7 : b.regs O1C.HANDSHAKE_FAILS) (c8 : ∀ k ∈ eventRegs 450, b.regs k) (c9 : b.regs O1C.FILULO_FLAGS) (c10 : ∀ w0, b.regs (O1C.SESS_PEER w0)) (c11 : ∀ w0, b.regs (O1C.SESS_STATE w0)) (hp4 : Within b p4) : WithinOut b (execHello p0 p1 p2 p3 p4) := by
  unfold execHello
  refine live_within ?_ ?_
  · exact hp4
  · intro u1 hu1
    try beta_reduce
    refine ite_elim (P := Within b) ?_ ?_
    · refine State.hello_within qfresh qsent qevu qsess qmail qlocks qkeys c7 c8 c9 c10 c11 ?_
      exact hu1
    · exact hu1

theorem execProve_within {b : Bounds} {p0 p1 p2} (hp : ∀ p, p ∉ ([.pending, .member, .fresh, .phase, .straps, .sample, .tick, .chain, .jobs, .timing, .clocks, .lanes, .fabric, .fmem, .inputs, .dests, .conv, .audio, .amx, .net, .furlongs, .domain, .boot, .keys, .bus, .cues, .hot, .measured, .ram, .bytes] : List Part) → b.parts p) (hk : ∀ k, b.regs k) (hp2 : Within b p2) : WithinOut b (execProve p0 p1 p2) := by
  unfold execProve
  refine live_within ?_ ?_
  · exact hp2
  · intro u1 hu1
    try beta_reduce
    refine ite_elim (P := Within b) ?_ ?_
    · refine State.prove_within (subU hp (by decide)) hk ?_
      exact hu1
    · exact hu1

theorem execHandshakeTimeout_within {b : Bounds} {p0 p1} (qsess : b.parts .sess) (qmail : b.parts .mail) (qreasm : b.parts .reasm) (c3 : b.regs O1C.SESSIONS_OPEN) (c4 : b.regs (O1C.SESS_QUEUE p0)) (c5 : b.regs (O1C.SESS_SUBS p0)) (c6 : b.regs (O1C.SESS_TX_OPEN p0)) (c7 : b.regs (O1C.SESS_OPENED p0)) (c8 : b.regs (O1C.SESS_PEER p0)) (c9 : b.regs (O1C.SESS_CRED p0)) (c10 : b.regs (O1C.SESS_ROLE p0)) (c11 : b.regs (O1C.SESS_STATE p0)) (hp1 : Within b p1) : WithinOut b (execHandshakeTimeout p0 p1) := by
  unfold execHandshakeTimeout
  refine live_within ?_ ?_
  · exact hp1
  · intro u1 hu1
    try beta_reduce
    split
    · refine ite_elim (P := Within b) ?_ ?_
      · refine State.freeSession_within qsess qmail qreasm c3 c4 c5 c6 c7 c8 c9 c10 c11 ?_
        exact hu1
      · exact hu1
    · exact hu1

theorem execHelloLockoutEnd_within {b : Bounds} {p0 p1} (qlocks : b.parts .locks) (hp1 : Within b p1) : WithinOut b (execHelloLockoutEnd p0 p1) := by
  unfold execHelloLockoutEnd
  refine live_within ?_ ?_
  · exact hp1
  · intro u1 hu1
    try beta_reduce
    split
    · refine ite_elim (P := Within b) ?_ ?_
      · refine Within.f_locks (s := u1) qlocks ?_
        exact hu1
      · exact hu1
    · exact hu1

theorem execSessionTimeout_within {b : Bounds} {p0 p1} (qsent : b.parts .sent) (qevu : b.parts .evu) (qchain : b.parts .chain) (qsess : b.parts .sess) (qmail : b.parts .mail) (qreasm : b.parts .reasm) (qjobs : b.parts .jobs) (qjrnl : b.parts .jrnl) (qdomain : b.parts .domain) (qboot : b.parts .boot) (qkeys : b.parts .keys) (c11 : b.regs (O1C.SESS_TX_OPEN p0)) (c12 : ∀ k ∈ eventRegs 452, b.regs k) (c13 : b.regs O1C.FILULO_FLAGS) (c14 : b.regs O1C.SESSIONS_OPEN) (c15 : b.regs (O1C.SESS_QUEUE p0)) (c16 : b.regs (O1C.SESS_SUBS p0)) (c17 : b.regs (O1C.SESS_OPENED p0)) (c18 : b.regs (O1C.SESS_PEER p0)) (c19 : b.regs (O1C.SESS_CRED p0)) (c20 : b.regs (O1C.SESS_ROLE p0)) (c21 : b.regs (O1C.SESS_STATE p0)) (c22 : b.regs O19.HANDLES_OPEN) (c23 : ∀ w0, b.regs (O19.HANDLE_OWNER w0)) (c24 : ∀ w0, b.regs (O19.HANDLE_INFO w0)) (c25 : ∀ w0, b.regs (O19.HANDLE_STATE w0)) (c26 : ∀ w0, b.regs (O1B.JOB_OWNER w0)) (c27 : ∀ k ∈ eventRegs 449, b.regs k) (hp1 : Within b p1) : WithinOut b (execSessionTimeout p0 p1) := by
  unfold execSessionTimeout
  refine live_within ?_ ?_
  · exact hp1
  · intro u1 hu1
    try beta_reduce
    extract_lets -merge -useContext -underBinder x2 x3
    split
    · refine ite_elim (P := Within b) ?_ ?_
      · refine State.closeSession_within qsent qevu qchain qsess qmail qreasm qjobs qjrnl qdomain qboot qkeys c11 c12 c13 c14 c15 c16 c17 c18 c19 c20 c21 c22 c23 c24 c25 c26 c27 ?_
        exact hu1
      · exact hu1
    · exact hu1

theorem execTxIdle_within {b : Bounds} {p0 p1} (qevu : b.parts .evu) (qchain : b.parts .chain) (c2 : ∀ w0, b.regs (O1C.SESS_TX_OPEN w0)) (c3 : ∀ k ∈ eventRegs 452, b.regs k) (c4 : b.regs O1C.FILULO_FLAGS) (hp1 : Within b p1) : WithinOut b (execTxIdle p0 p1) := by
  unfold execTxIdle
  refine live_within ?_ ?_
  · exact hp1
  · intro u1 hu1
    try beta_reduce
    split
    · refine ite_elim (P := Within b) ?_ ?_
      · split
        · refine State.txDiscarded_within qevu qchain (c2 _) c3 c4 ?_
          exact hu1
        · exact hu1
      · exact hu1
    · exact hu1

end Sys2Proof.Machine
end

