-- ==== Sys2Proof/Laws/WithinDevice.lean ====
section
/-! SUPPORT. What each operation of Machine/Device.lean may change at most (Laws/Within.lean). -/

set_option maxRecDepth 8000

namespace Sys2Proof.Machine

theorem State.actDeviceReset_within {b : Bounds} {p0} (qevu : b.parts .evu) (qboot : b.parts .boot) (c2 : ∀ k ∈ eventRegs 3, b.regs k) (hp0 : Within b p0) : Within1 b (State.actDeviceReset p0) := by
  unfold State.actDeviceReset
  refine ite_elim (P := Within1 b) ?_ ?_
  · refine within1_mk ?_
    exact hp0
  · refine within1_mk ?_
    refine State.raise_within qevu c2 ?_
    refine State.onBoot_within qboot ?_
    exact hp0

theorem State.actFactoryDefault_within {b : Bounds} {p0} (qjrnl : b.parts .jrnl) (qboot : b.parts .boot) (hp0 : Within b p0) : Within1 b (State.actFactoryDefault p0) := by
  unfold State.actFactoryDefault
  refine ite_elim (P := Within1 b) ?_ ?_
  · refine within1_mk ?_
    exact hp0
  · refine within1_mk ?_
    refine State.addRec_within qjrnl ?_
    refine State.sealImmediate_within qjrnl ?_
    refine State.onBoot_within qboot ?_
    exact hp0

theorem State.actTamperAck_within {b : Bounds} {p0} (qphase : b.parts .phase) (qevu : b.parts .evu) (c2 : ∀ k ∈ eventRegs 391, b.regs k) (c3 : b.regs O18.STANDBY_TAMPER) (hp0 : Within b p0) : Within1 b (State.actTamperAck p0) := by
  unfold State.actTamperAck
  extract_lets -merge -useContext -underBinder x1
  have hx1 : Within b x1 := by
    unfold x1
    refine State.raise_within qevu c2 ?_
    refine State.setB_within c3 ?_
    exact hp0
  try clear_value x1
  refine ite_elim (P := Within1 b) ?_ ?_
  · refine within1_mk ?_
    exact hp0
  · refine within1_mk ?_
    refine ite_elim (P := Within b) ?_ ?_
    · refine Within.f_phase (s := x1) qphase ?_
      exact hx1
    · exact hx1

theorem State.actAckAll_within {b : Bounds} {p0} (hp : ∀ p, p ∉ ([.pending, .member, .fresh, .phase, .straps, .sample, .sent, .evu, .tick, .chain, .sess, .mail, .reasm, .locks, .jobs, .jrnl, .timing, .clocks, .lanes, .fabric, .fmem, .inputs, .dests, .conv, .audio, .amx, .net, .furlongs, .domain, .boot, .keys, .bus, .cues, .hot, .measured, .ram, .bytes] : List Part) → b.parts p) (hk : ∀ k, b.regs k) (hp0 : Within b p0) : Within b (State.actAckAll p0) := by
  unfold State.actAckAll
  refine State.forEach_within ?_ ?_
  · exact hp0
  · intro u1 u2 hu1
    try beta_reduce
    refine State.unflag_within (hk _) ?_
    exact hu1

theorem State.actRouteDefaults_within {b : Bounds} {p0} (hp : ∀ p, p ∉ ([.pending, .member, .fresh, .phase, .straps, .sample, .sent, .evu, .tick, .chain, .sess, .mail, .reasm, .locks, .jobs, .timing, .clocks, .lanes, .fabric, .fmem, .inputs, .dests, .conv, .audio, .amx, .net, .furlongs, .domain, .boot, .keys, .bus, .cues, .hot, .measured, .ram, .bytes] : List Part) → b.parts p) (hk : ∀ k, b.regs k) (hp0 : Within b p0) : Within b (State.actRouteDefaults p0) := by
  unfold State.actRouteDefaults
  refine State.forEach_within ?_ ?_
  · exact hp0
  · intro u1 u2 hu1
    try beta_reduce
    extract_lets -merge -useContext -underBinder x3
    have hx3 : Within b x3 := by
      unfold x3
      refine State.clearObj_within (hk _) ?_
      exact hu1
    try clear_value x3
    refine State.journal_within (hp .jrnl (by decide)) ?_
    exact hx3

theorem State.startExport_within {b : Bounds} {p0 p1 p2 p3} (qsent : b.parts .sent) (qevu : b.parts .evu) (qsess : b.parts .sess) (qmail : b.parts .mail) (qjobs : b.parts .jobs) (c5 : ∀ w0, b.regs (O1B.JOB_ENDED w0)) (c6 : ∀ w0, b.regs (O1B.JOB_RESULT w0)) (c7 : ∀ w0, b.regs (O1B.JOB_OWNER w0)) (c8 : ∀ w0, b.regs (O1B.JOB_PROGRESS w0)) (c9 : ∀ w0, b.regs (O1B.JOB_STATUS w0)) (c10 : ∀ w0, b.regs (O1B.JOB_OBJECT w0)) (c11 : ∀ w0, b.regs (O1C.SESS_QUEUE w0)) (c12 : ∀ k ∈ eventRegs 451, b.regs k) (c13 : b.regs O1C.FILULO_FLAGS) (c14 : ∀ k ∈ eventRegs 432, b.regs k) (c15 : b.regs O1B.JOBS_QUEUED) (c16 : b.regs O1B.JOBS_RUNNING) (c17 : ∀ w0, b.regs (O1B.JOB_STARTED w0)) (c18 : ∀ w0, b.regs (O1B.JOB_STATE w0)) (hp0 : Within b p0) : Within1 b (State.startExport p0 p1 p2 p3) := by
  unfold State.startExport
  refine ite_elim (P := Within1 b) ?_ ?_
  · refine within1_mk ?_
    exact hp0
  · refine State.startJob_within qsent qevu qsess qmail qjobs c5 c6 c7 c8 c9 c10 c11 c12 c13 c14 c15 c16 c17 c18 ?_
    exact hp0

theorem State.startImport_within {b : Bounds} {p0 p1 p2 p3} (qsent : b.parts .sent) (qevu : b.parts .evu) (qsess : b.parts .sess) (qmail : b.parts .mail) (qjobs : b.parts .jobs) (c5 : ∀ w0, b.regs (O1B.JOB_ENDED w0)) (c6 : ∀ w0, b.regs (O1B.JOB_RESULT w0)) (c7 : ∀ w0, b.regs (O1B.JOB_OWNER w0)) (c8 : ∀ w0, b.regs (O1B.JOB_PROGRESS w0)) (c9 : ∀ w0, b.regs (O1B.JOB_STATUS w0)) (c10 : ∀ w0, b.regs (O1B.JOB_OBJECT w0)) (c11 : ∀ w0, b.regs (O1C.SESS_QUEUE w0)) (c12 : ∀ k ∈ eventRegs 451, b.regs k) (c13 : b.regs O1C.FILULO_FLAGS) (c14 : ∀ k ∈ eventRegs 432, b.regs k) (c15 : b.regs O1B.JOBS_QUEUED) (c16 : b.regs O1B.JOBS_RUNNING) (c17 : ∀ w0, b.regs (O1B.JOB_STARTED w0)) (c18 : ∀ w0, b.regs (O1B.JOB_STATE w0)) (hp0 : Within b p0) : Within1 b (State.startImport p0 p1 p2 p3) := by
  unfold State.startImport
  refine ite_elim (P := Within1 b) ?_ ?_
  · refine within1_mk ?_
    exact hp0
  · refine State.startJob_within qsent qevu qsess qmail qjobs c5 c6 c7 c8 c9 c10 c11 c12 c13 c14 c15 c16 c17 c18 ?_
    exact hp0

theorem execOtpIntent_within {b : Bounds} {p0 p1} (qsent : b.parts .sent) (qevu : b.parts .evu) (qsess : b.parts .sess) (qmail : b.parts .mail) (qboot : b.parts .boot) (qchain : b.parts .chain) (qreasm : b.parts .reasm) (qjobs : b.parts .jobs) (qjrnl : b.parts .jrnl) (qdomain : b.parts .domain) (qkeys : b.parts .keys) (c11 : ∀ k ∈ eventRegs 395, b.regs k) (c12 : ∀ k ∈ eventRegs 389, b.regs k) (c13 : ∀ k ∈ eventRegs 393, b.regs k) (c14 : ∀ (w0 : ℕ), b.regs (O1C.SESS_TX_OPEN w0)) (c15 : ∀ k ∈ eventRegs 452, b.regs k) (c16 : b.regs O1C.FILULO_FLAGS) (c17 : b.regs O1C.SESSIONS_OPEN) (c18 : ∀ (w0 : ℕ), b.regs (O1C.SESS_QUEUE w0)) (c19 : ∀ (w0 : ℕ), b.regs (O1C.SESS_SUBS w0)) (c20 : ∀ (w0 : ℕ), b.regs (O1C.SESS_OPENED w0)) (c21 : ∀ (w0 : ℕ), b.regs (O1C.SESS_PEER w0)) (c22 : ∀ (w0 : ℕ), b.regs (O1C.SESS_CRED w0)) (c23 : ∀ (w0 : ℕ), b.regs (O1C.SESS_ROLE w0)) (c24 : ∀ (w0 : ℕ), b.regs (O1C.SESS_STATE w0)) (c25 : b.regs O19.HANDLES_OPEN) (c26 : ∀ (w0 : ℕ), b.regs (O19.HANDLE_OWNER w0)) (c27 : ∀ (w0 : ℕ), b.regs (O19.HANDLE_INFO w0)) (c28 : ∀ (w0 : ℕ), b.regs (O19.HANDLE_STATE w0)) (c29 : ∀ (w0 : ℕ), b.regs (O1B.JOB_OWNER w0)) (c30 : ∀ k ∈ eventRegs 449, b.regs k) (hp1 : Within b p1) : WithinOut b (execOtpIntent p0 p1) := by
  unfold execOtpIntent
  refine live_within ?_ ?_
  · exact hp1
  · intro u1 hu2
    try beta_reduce
    refine ite_elim (P := Within b) ?_ ?_
    · exact hu2
    · split
      · refine State.otpStepServed_within qsent qevu qsess qmail qboot qchain qreasm qjobs qjrnl qdomain qkeys c11 c12 c13 c14 c15 c16 c17 c18 c19 c20 c21 c22 c23 c24 c25 c26 c27 c28 c29 c30 ?_
        exact hu2
      · refine ite_elim (P := Within b) ?_ ?_
        · split
          · rename_i y3 y4 y5 y6 e7
            have k8 := transport (P := WithinS b) e7 (by
              refine State.otpChange_within qboot ?_
              exact hu2
              )
            exact (k8 _ rfl)
          · rename_i y9 y10 y11 e12
            have k13 := transport (P := WithinS b) e12 (by
              refine State.otpChange_within qboot ?_
              exact hu2
              )
            exact hu2
        · exact hu2

theorem execDeviceReset_within {b : Bounds} {p0} (qevu : b.parts .evu) (qboot : b.parts .boot) (c2 : ∀ k ∈ eventRegs 3, b.regs k) (hp0 : Within b p0) : WithinOut b (execDeviceReset p0) := by
  unfold execDeviceReset
  refine live_within ?_ ?_
  · exact hp0
  · intro u1 hu1
    try beta_reduce
    refine ite_elim (P := Within b) ?_ ?_
    · change Within1 b _
      refine State.actDeviceReset_within qevu qboot c2 ?_
      exact hu1
    · exact hu1

theorem execFactoryDefault_within {b : Bounds} {p0 p1} (qjrnl : b.parts .jrnl) (qboot : b.parts .boot) (hp1 : Within b p1) : WithinOut b (execFactoryDefault p0 p1) := by
  unfold execFactoryDefault
  refine live_within ?_ ?_
  · exact hp1
  · intro u1 hu1
    try beta_reduce
    refine ite_elim (P := Within b) ?_ ?_
    · change Within1 b _
      refine State.actFactoryDefault_within qjrnl qboot ?_
      exact hu1
    · exact hu1

theorem execTamperAck_within {b : Bounds} {p0} (qphase : b.parts .phase) (qevu : b.parts .evu) (c2 : ∀ k ∈ eventRegs 391, b.regs k) (c3 : b.regs O18.STANDBY_TAMPER) (hp0 : Within b p0) : WithinOut b (execTamperAck p0) := by
  unfold execTamperAck
  refine live_within ?_ ?_
  · exact hp0
  · intro u1 hu1
    try beta_reduce
    refine ite_elim (P := Within b) ?_ ?_
    · change Within1 b _
      refine State.actTamperAck_within qphase qevu c2 c3 ?_
      exact hu1
    · exact hu1

theorem execAckAll_within {b : Bounds} {p0} (hp : ∀ p, p ∉ ([.pending, .member, .fresh, .phase, .straps, .sample, .sent, .evu, .tick, .chain, .sess, .mail, .reasm, .locks, .jobs, .jrnl, .timing, .clocks, .lanes, .fabric, .fmem, .inputs, .dests, .conv, .audio, .amx, .net, .furlongs, .domain, .boot, .keys, .bus, .cues, .hot, .measured, .ram, .bytes] : List Part) → b.parts p) (hk : ∀ k, b.regs k) (hp0 : Within b p0) : WithinOut b (execAckAll p0) := by
  unfold execAckAll
  refine live_within ?_ ?_
  · exact hp0
  · intro u1 hu1
    try beta_reduce
    refine ite_elim (P := Within b) ?_ ?_
    · refine State.actAckAll_within (subU hp (by decide)) hk ?_
      exact hu1
    · exact hu1

theorem execRouteDefaults_within {b : Bounds} {p0} (hp : ∀ p, p ∉ ([.pending, .member, .fresh, .phase, .straps, .sample, .sent, .evu, .tick, .chain, .sess, .mail, .reasm, .locks, .jobs, .timing, .clocks, .lanes, .fabric, .fmem, .inputs, .dests, .conv, .audio, .amx, .net, .furlongs, .domain, .boot, .keys, .bus, .cues, .hot, .measured, .ram, .bytes] : List Part) → b.parts p) (hk : ∀ k, b.regs k) (hp0 : Within b p0) : WithinOut b (execRouteDefaults p0) := by
  unfold execRouteDefaults
  refine live_within ?_ ?_
  · exact hp0
  · intro u1 hu1
    try beta_reduce
    refine ite_elim (P := Within b) ?_ ?_
    · exact hu1
    · refine State.actRouteDefaults_within (subU hp (by decide)) hk ?_
      exact hu1

theorem execConfigExport_within {b : Bounds} {p0 p1 p2} (qsent : b.parts .sent) (qevu : b.parts .evu) (qsess : b.parts .sess) (qmail : b.parts .mail) (qjobs : b.parts .jobs) (c5 : ∀ w0, b.regs (O1B.JOB_ENDED w0)) (c6 : ∀ w0, b.regs (O1B.JOB_RESULT w0)) (c7 : ∀ w0, b.regs (O1B.JOB_OWNER w0)) (c8 : ∀ w0, b.regs (O1B.JOB_PROGRESS w0)) (c9 : ∀ w0, b.regs (O1B.JOB_STATUS w0)) (c10 : ∀ w0, b.regs (O1B.JOB_OBJECT w0)) (c11 : ∀ w0, b.regs (O1C.SESS_QUEUE w0)) (c12 : ∀ k ∈ eventRegs 451, b.regs k) (c13 : b.regs O1C.FILULO_FLAGS) (c14 : ∀ k ∈ eventRegs 432, b.regs k) (c15 : b.regs O1B.JOBS_QUEUED) (c16 : b.regs O1B.JOBS_RUNNING) (c17 : ∀ w0, b.regs (O1B.JOB_STARTED w0)) (c18 : ∀ w0, b.regs (O1B.JOB_STATE w0)) (hp2 : Within b p2) : WithinOut b (execConfigExport p0 p1 p2) := by
  unfold execConfigExport
  refine live_within ?_ ?_
  · exact hp2
  · intro u1 hu1
    try beta_reduce
    refine ite_elim (P := Within b) ?_ ?_
    · exact hu1
    · change Within1 b _
      refine State.startExport_within qsent qevu qsess qmail qjobs c5 c6 c7 c8 c9 c10 c11 c12 c13 c14 c15 c16 c17 c18 ?_
      exact hu1

theorem execConfigImport_within {b : Bounds} {p0 p1 p2} (qsent : b.parts .sent) (qevu : b.parts .evu) (qsess : b.parts .sess) (qmail : b.parts .mail) (qjobs : b.parts .jobs) (c5 : ∀ w0, b.regs (O1B.JOB_ENDED w0)) (c6 : ∀ w0, b.regs (O1B.JOB_RESULT w0)) (c7 : ∀ w0, b.regs (O1B.JOB_OWNER w0)) (c8 : ∀ w0, b.regs (O1B.JOB_PROGRESS w0)) (c9 : ∀ w0, b.regs (O1B.JOB_STATUS w0)) (c10 : ∀ w0, b.regs (O1B.JOB_OBJECT w0)) (c11 : ∀ w0, b.regs (O1C.SESS_QUEUE w0)) (c12 : ∀ k ∈ eventRegs 451, b.regs k) (c13 : b.regs O1C.FILULO_FLAGS) (c14 : ∀ k ∈ eventRegs 432, b.regs k) (c15 : b.regs O1B.JOBS_QUEUED) (c16 : b.regs O1B.JOBS_RUNNING) (c17 : ∀ w0, b.regs (O1B.JOB_STARTED w0)) (c18 : ∀ w0, b.regs (O1B.JOB_STATE w0)) (hp2 : Within b p2) : WithinOut b (execConfigImport p0 p1 p2) := by
  unfold execConfigImport
  refine live_within ?_ ?_
  · exact hp2
  · intro u1 hu1
    try beta_reduce
    refine ite_elim (P := Within b) ?_ ?_
    · exact hu1
    · change Within1 b _
      refine State.startImport_within qsent qevu qsess qmail qjobs c5 c6 c7 c8 c9 c10 c11 c12 c13 c14 c15 c16 c17 c18 ?_
      exact hu1

theorem execJournalCompact_within {b : Bounds} {p0 p1} (qsent : b.parts .sent) (qevu : b.parts .evu) (qsess : b.parts .sess) (qmail : b.parts .mail) (qjobs : b.parts .jobs) (qjrnl : b.parts .jrnl) (c6 : ∀ w0, b.regs (O1B.JOB_ENDED w0)) (c7 : ∀ w0, b.regs (O1B.JOB_RESULT w0)) (c8 : ∀ w0, b.regs (O1B.JOB_OWNER w0)) (c9 : ∀ w0, b.regs (O1B.JOB_PROGRESS w0)) (c10 : ∀ w0, b.regs (O1B.JOB_STATUS w0)) (c11 : ∀ w0, b.regs (O1B.JOB_OBJECT w0)) (c12 : ∀ w0, b.regs (O1C.SESS_QUEUE w0)) (c13 : ∀ k ∈ eventRegs 451, b.regs k) (c14 : b.regs O1C.FILULO_FLAGS) (c15 : ∀ k ∈ eventRegs 432, b.regs k) (c16 : b.regs O1B.JOBS_QUEUED) (c17 : b.regs O1B.JOBS_RUNNING) (c18 : ∀ w0, b.regs (O1B.JOB_STARTED w0)) (c19 : ∀ w0, b.regs (O1B.JOB_STATE w0)) (hp1 : Within b p1) : WithinOut b (execJournalCompact p0 p1) := by
  unfold execJournalCompact
  refine live_within ?_ ?_
  · exact hp1
  · intro u1 hu1
    try beta_reduce
    refine ite_elim (P := Within b) ?_ ?_
    · exact hu1
    · change Within1 b _
      refine State.startCompact_within qsent qevu qsess qmail qjobs qjrnl c6 c7 c8 c9 c10 c11 c12 c13 c14 c15 c16 c17 c18 c19 ?_
      exact hu1

end Sys2Proof.Machine
end

