-- ==== Sys2Proof/Laws/WithinObjects.lean ====
section
/-! SUPPORT. What each operation of Machine/Objects.lean may change at most (Laws/Within.lean). -/

set_option maxRecDepth 8000

namespace Sys2Proof.Machine

theorem Done.no_within {b : Bounds} {p0 p1} (hp0 : Within b p0) : WithinD b (Done.no p0 p1) := by
  unfold Done.no
  refine withinD_mk ?_
  exact hp0

theorem Done.yes_within {b : Bounds} {p0} (hp0 : Within1 b p0) : WithinD b (Done.yes p0) := by
  unfold Done.yes
  refine withinD_mk ?_
  change Within1 b _
  exact hp0

theorem State.readLog_within {b : Bounds} {p0 p1} (qevu : b.parts .evu) (hp0 : Within b p0) : Within2 b (State.readLog p0 p1) := by
  unfold State.readLog
  split
  · exact within2_mk hp0
  · refine within2_mk (Within.f_evu (s := p0) qevu (fun i => ⟨i.1, i.2.1, ?_, i.2.2.2⟩) hp0)
    simpa using i.2.2.1

theorem State.readMade_within {b : Bounds} {p0 p1 p2} (qnet : b.parts .net) (qevu : b.parts .evu) (hp0 : Within b p0) : Within2S b (State.readMade p0 p1 p2) := by
  unfold State.readMade
  extract_lets -merge -useContext -underBinder x1 x2 x3
  have hx1 : ∀ a0, Within2S b (x1 a0) := by
    intro u4
    unfold x1
    try beta_reduce
    refine optionSome ?_
    refine within2_mk ?_
    exact hp0
  try clear_value x1
  have hx2 : ∀ a0, Within2S b (x2 a0) := by
    intro u5
    unfold x2
    try beta_reduce
    refine hx1 _
  try clear_value x2
  have hx3 : ∀ a0, Within2S b (x3 a0) := by
    intro u6
    unfold x3
    try beta_reduce
    refine hx1 _
  try clear_value x3
  split
  · refine ite_elim (P := Within2S b) ?_ ?_
    · refine hx3 _
    · exact optionNone
  · refine ite_elim (P := Within2S b) ?_ ?_
    · refine hx2 _
    · refine ite_elim (P := Within2S b) ?_ ?_
      · refine hx1 _
      · exact optionNone
  · refine ite_elim (P := Within2S b) ?_ ?_
    · refine ite_elim (P := Within2S b) ?_ ?_
      · refine hx1 _
      · refine hx3 _
    · exact optionNone
  · refine ite_elim (P := Within2S b) ?_ ?_
    · refine hx1 _
    · exact optionNone
  · refine ite_elim (P := Within2S b) ?_ ?_
    · refine hx3 _
    · exact optionNone
  · refine ite_elim (P := Within2S b) ?_ ?_
    · refine hx1 _
    · refine ite_elim (P := Within2S b) ?_ ?_
      · refine optionSome ?_
        refine within2_mk ?_
        change Within2 b _
        refine State.takeTrap_within qnet ?_
        exact hp0
      · exact optionNone
  · refine ite_elim (P := Within2S b) ?_ ?_
    · refine hx3 _
    · refine ite_elim (P := Within2S b) ?_ ?_
      · refine hx2 _
      · exact optionNone
  · refine ite_elim (P := Within2S b) ?_ ?_
    · refine hx3 _
    · exact optionNone
  · refine ite_elim (P := Within2S b) ?_ ?_
    · refine hx1 _
    · exact optionNone
  · refine ite_elim (P := Within2S b) ?_ ?_
    · refine hx2 _
    · exact optionNone
  · refine ite_elim (P := Within2S b) ?_ ?_
    · refine hx1 _
    · exact optionNone
  · refine ite_elim (P := Within2S b) ?_ ?_
    · refine hx2 _
    · exact optionNone
  · refine ite_elim (P := Within2S b) ?_ ?_
    · refine hx2 _
    · refine ite_elim (P := Within2S b) ?_ ?_
      · refine hx2 _
      · exact optionNone
  · refine ite_elim (P := Within2S b) ?_ ?_
    · refine optionSome ?_
      refine State.readLog_within qevu ?_
      exact hp0
    · refine ite_elim (P := Within2S b) ?_ ?_
      · refine hx3 _
      · exact optionNone
  · exact optionNone

theorem State.readVal_within {b : Bounds} {p0 p1 p2 p3} (qnet : b.parts .net) (qevu : b.parts .evu) (hp0 : Within b p0) : Within2 b (State.readVal p0 p1 p2 p3) := by
  unfold State.readVal
  refine ite_elim (P := Within2 b) ?_ ?_
  · refine within2_mk ?_
    exact hp0
  · split
    · rename_i y1 y2 e3
      have k4 := transport (P := Within2S b) e3 (by
        refine State.readMade_within qnet qevu ?_
        exact hp0
        )
      exact (k4 _ rfl)
    · rename_i y5 e6
      have k7 := transport (P := Within2S b) e6 (by
        refine State.readMade_within qnet qevu ?_
        exact hp0
        )
      refine within2_mk ?_
      exact hp0

theorem State.writeNow_within {b : Bounds} {p0 p1 p2 p3} (qevu : b.parts .evu) (qtick : b.parts .tick) (qsess : b.parts .sess) (qcues : b.parts .cues) (c4 : b.regs O01.PPS_TIME) (c5 : ∀ w0, b.regs (O16.GPIO_SET w0)) (c6 : ∀ k ∈ eventRegs 413, b.regs k) (c7 : b.regs O19.TAMPER_CONFIG) (c8 : b.regs p2) (hp0 : Within b p0) : Within1 b (State.writeNow p0 p1 p2 p3) := by
  unfold State.writeNow
  extract_lets -merge -useContext -underBinder x1
  refine ite_elim (P := Within1 b) ?_ ?_
  · refine within1_mk ?_
    refine State.setOwn_within qsess ?_
    exact hp0
  · refine ite_elim (P := Within1 b) ?_ ?_
    · refine within1_mk ?_
      refine State.writePpsTime_within qtick c4 ?_
      exact hp0
    · refine ite_elim (P := Within1 b) ?_ ?_
      · refine within1_mk ?_
        refine State.writeCueFlags_within qcues ?_
        exact hp0
      · refine ite_elim (P := Within1 b) ?_ ?_
        · refine State.actGpioSet_within qcues (c5 _) ?_
          exact hp0
        · refine ite_elim (P := Within1 b) ?_ ?_
          · refine State.writeTamperConfig_within qevu c6 c7 ?_
            exact hp0
          · refine within1_mk ?_
            refine State.setObj_within c8 ?_
            exact hp0

theorem State.writeKept_within {b : Bounds} {p0 p1 p2} (qsent : b.parts .sent) (qevu : b.parts .evu) (qchain : b.parts .chain) (qsess : b.parts .sess) (qmail : b.parts .mail) (qreasm : b.parts .reasm) (qjobs : b.parts .jobs) (qjrnl : b.parts .jrnl) (qamx : b.parts .amx) (qdomain : b.parts .domain) (qboot : b.parts .boot) (qkeys : b.parts .keys) (c12 : b.regs O0C.MATRIX_RATE) (c13 : ∀ k ∈ eventRegs 204, b.regs k) (c14 : b.regs p1) (c15 : ∀ w0, b.regs (O1C.SESS_TX_OPEN w0)) (c16 : ∀ k ∈ eventRegs 452, b.regs k) (c17 : b.regs O1C.FILULO_FLAGS) (c18 : b.regs O1C.SESSIONS_OPEN) (c19 : ∀ w0, b.regs (O1C.SESS_QUEUE w0)) (c20 : ∀ w0, b.regs (O1C.SESS_SUBS w0)) (c21 : ∀ w0, b.regs (O1C.SESS_OPENED w0)) (c22 : ∀ w0, b.regs (O1C.SESS_PEER w0)) (c23 : ∀ w0, b.regs (O1C.SESS_CRED w0)) (c24 : ∀ w0, b.regs (O1C.SESS_ROLE w0)) (c25 : ∀ w0, b.regs (O1C.SESS_STATE w0)) (c26 : b.regs O19.HANDLES_OPEN) (c27 : ∀ w0, b.regs (O19.HANDLE_OWNER w0)) (c28 : ∀ w0, b.regs (O19.HANDLE_INFO w0)) (c29 : ∀ w0, b.regs (O19.HANDLE_STATE w0)) (c30 : ∀ w0, b.regs (O1B.JOB_OWNER w0)) (c31 : ∀ k ∈ eventRegs 449, b.regs k) (hp0 : Within b p0) : Within1 b (State.writeKept p0 p1 p2) := by
  unfold State.writeKept
  split
  · refine ite_elim (P := Within1 b) ?_ ?_
    · refine within1_mk ?_
      refine State.writeMatrixRate_within qevu qjrnl c12 c13 ?_
      exact hp0
    · refine ite_elim (P := Within1 b) ?_ ?_
      · refine within1_mk ?_
        refine State.writeGain_within qjrnl qamx c14 ?_
        exact hp0
      · refine within1_mk ?_
        refine State.journal_within qjrnl ?_
        refine State.setObj_within c14 ?_
        exact hp0
  · refine ite_elim (P := Within1 b) ?_ ?_
    · refine within1_mk ?_
      exact hp0
    · split
      · rename_i y1 e2
        have k3 := transport (P := WithinS b) e2 (by
          refine State.writeCred_within qsent qevu qchain qsess qmail qreasm qjobs qjrnl qdomain qboot qkeys c14 c15 c16 c17 c18 c19 c20 c21 c22 c23 c24 c25 c26 c27 c28 c29 c30 c31 ?_
          exact hp0
          )
        refine within1_mk ?_
        exact (k3 _ rfl)
      · refine within1_mk ?_
        exact hp0
  · refine within1_mk ?_
    refine State.journal_within qjrnl ?_
    refine State.setObj_within c14 ?_
    exact hp0

theorem State.actSessClose_within {b : Bounds} {p0 p1} (qsent : b.parts .sent) (qevu : b.parts .evu) (qchain : b.parts .chain) (qsess : b.parts .sess) (qmail : b.parts .mail) (qreasm : b.parts .reasm) (qjobs : b.parts .jobs) (qjrnl : b.parts .jrnl) (qdomain : b.parts .domain) (qboot : b.parts .boot) (qkeys : b.parts .keys) (c11 : b.regs (O1C.SESS_TX_OPEN p1)) (c12 : ∀ k ∈ eventRegs 452, b.regs k) (c13 : b.regs O1C.FILULO_FLAGS) (c14 : b.regs O1C.SESSIONS_OPEN) (c15 : b.regs (O1C.SESS_QUEUE p1)) (c16 : b.regs (O1C.SESS_SUBS p1)) (c17 : b.regs (O1C.SESS_OPENED p1)) (c18 : b.regs (O1C.SESS_PEER p1)) (c19 : b.regs (O1C.SESS_CRED p1)) (c20 : b.regs (O1C.SESS_ROLE p1)) (c21 : b.regs (O1C.SESS_STATE p1)) (c22 : b.regs O19.HANDLES_OPEN) (c23 : ∀ w0, b.regs (O19.HANDLE_OWNER w0)) (c24 : ∀ w0, b.regs (O19.HANDLE_INFO w0)) (c25 : ∀ w0, b.regs (O19.HANDLE_STATE w0)) (c26 : ∀ w0, b.regs (O1B.JOB_OWNER w0)) (c27 : ∀ k ∈ eventRegs 449, b.regs k) (hp0 : Within b p0) : Within1 b (State.actSessClose p0 p1) := by
  unfold State.actSessClose
  refine ite_elim (P := Within1 b) ?_ ?_
  · refine within1_mk ?_
    exact hp0
  · refine within1_mk ?_
    refine State.closeSession_within qsent qevu qchain qsess qmail qreasm qjobs qjrnl qdomain qboot qkeys c11 c12 c13 c14 c15 c16 c17 c18 c19 c20 c21 c22 c23 c24 c25 c26 c27 ?_
    exact hp0

theorem State.act_within {b : Bounds} {p0 p1 p2 p3 p4} (hp : ∀ p, p ∉ ([.hot, .measured, .ram, .bytes, .bus, .conv, .fabric, .inputs, .locks, .timing, .straps, .sample, .pending, .member] : List Part) → b.parts p) (hk : ∀ k, b.regs k) (hp0 : Within b p0) : Within1 b (State.act p0 p1 p2 p3 p4) := by
  unfold State.act
  extract_lets -merge -useContext -underBinder x1 x2 x3
  split
  · refine ite_elim (P := Within1 b) ?_ ?_
    · refine State.actDeviceReset_within (hp .evu (by decide)) (hp .boot (by decide)) (fun _ _ => hk _) ?_
      exact hp0
    · refine State.actFactoryDefault_within (hp .jrnl (by decide)) (hp .boot (by decide)) ?_
      exact hp0
  · refine within1_mk ?_
    refine State.actStepTime_within (hp .tick (by decide)) ?_
    exact hp0
  · refine within1_mk ?_
    refine State.realign_within (hp .clocks (by decide)) (hp .dests (by decide)) (hp .audio (by decide)) (fun _ => hk _) (fun _ => hk _) ?_
    exact hp0
  · refine ite_elim (P := Within1 b) ?_ ?_
    · refine State.actClipAlloc_within (hp .fmem (by decide)) (hp .jrnl (by decide)) (hk _) (fun _ => hk _) (fun _ => hk _) (hk _) (hk _) (hk _) (hk _) (hk _) (hk _) ?_
      exact hp0
    · refine State.actClipRelease_within (hp .fmem (by decide)) (hp .jrnl (by decide)) (hk _) (fun _ => hk _) (fun _ => hk _) (hk _) (hk _) (hk _) (hk _) (hk _) ?_
      exact hp0
  · refine State.fireSalvo_within (hp .evu (by decide)) (hp .fmem (by decide)) (hp .chain (by decide)) (hp .jrnl (by decide)) hk ?_
    exact hp0
  · refine ite_elim (P := Within1 b) ?_ ?_
    · refine State.actGroupStart_within (hp .evu (by decide)) (hp .audio (by decide)) (fun _ _ => hk _) (hk _) ?_
      exact hp0
    · refine State.actGroupStop_within (hp .audio (by decide)) ?_
      exact hp0
  · refine ite_elim (P := Within1 b) ?_ ?_
    · refine State.actPlayStart_within (hp .amx (by decide)) (hk _) ?_
      exact hp0
    · refine State.actPlayStop_within (hp .amx (by decide)) ?_
      exact hp0
  · refine ite_elim (P := Within1 b) ?_ ?_
    · refine State.actMacsecSa_within (hp .evu (by decide)) (hp .net (by decide)) (fun _ _ => hk _) (hk _) (fun _ _ => hk _) ?_
      exact hp0
    · refine ite_elim (P := Within1 b) ?_ ?_
      · refine State.actTrapSend_within (hp .sent (by decide)) (hp .evu (by decide)) (hp .net (by decide)) (hk _) (hk _) (fun _ _ => hk _) (hk _) (fun _ _ => hk _) (hk _) ?_
        exact hp0
      · refine ite_elim (P := Within1 b) ?_ ?_
        · refine within1_mk ?_
          refine State.actFdbFlush_within (hp .net (by decide)) ?_
          exact hp0
        · refine ite_elim (P := Within1 b) ?_ ?_
          · refine within1_mk ?_
            exact hp0
          · refine ite_elim (P := Within1 b) ?_ ?_
            · refine within1_mk ?_
              exact hp0
            · refine within1_mk ?_
              refine State.actFdbFlush_within (hp .net (by decide)) ?_
              exact hp0
  · refine within1_mk ?_
    refine State.actChkRestart_within (hp .lanes (by decide)) ?_
    exact hp0
  · refine State.actTrunkKey_within (hp .evu (by decide)) (hp .furlongs (by decide)) (fun _ _ => hk _) (hk _) (fun _ _ => hk _) ?_
    exact hp0
  · refine State.actHandover_within (hp .domain (by decide)) ?_
    exact hp0
  · refine ite_elim (P := Within1 b) ?_ ?_
    · refine State.actCueFire_within (hp .cues (by decide)) ?_
      exact hp0
    · refine State.actRearm_within (hp .cues (by decide)) ?_
      exact hp0
  · refine State.actUnfreeze_within (hp .evu (by decide)) (fun _ _ => hk _) (fun _ => hk _) (hk _) (fun _ => hk _) (fun _ => hk _) (fun _ _ => hk _) (hk _) ?_
    exact hp0
  · refine ite_elim (P := Within1 b) ?_ ?_
    · refine State.actLcTransition_within (hp .boot (by decide)) ?_
      exact hp0
    · refine ite_elim (P := Within1 b) ?_ ?_
      · refine State.actTamperAck_within (hp .phase (by decide)) (hp .evu (by decide)) (fun _ _ => hk _) (hk _) ?_
        exact hp0
      · refine State.actFwCommit_within (hp .boot (by decide)) ?_
        exact hp0
  · refine ite_elim (P := Within1 b) ?_ ?_
    · refine State.actEnroll_within (hp .fresh (by decide)) (hp .evu (by decide)) (hp .sess (by decide)) (hp .keys (by decide)) (fun _ _ => hk _) (hk _) ?_
      exact hp0
    · refine ite_elim (P := Within1 b) ?_ ?_
      · refine State.actAttest_within (hp .sess (by decide)) ?_
        exact hp0
      · refine ite_elim (P := Within1 b) ?_ ?_
        · refine State.keyRequest_within (hp .fresh (by decide)) (hp .evu (by decide)) (hp .sess (by decide)) (hp .keys (by decide)) (fun _ _ => hk _) (hk _) (hk _) (hk _) (hk _) (fun _ => hk _) (hk _) (fun _ _ => hk _) (fun _ _ => hk _) ?_
          exact hp0
        · refine State.actKeyRetire_within (hp .evu (by decide)) (hp .keys (by decide)) (fun _ _ => hk _) (hk _) (hk _) ?_
          exact hp0
  · refine ite_elim (P := Within1 b) ?_ ?_
    · refine within1_mk ?_
      refine State.actAckAll_within (subU hp (by decide)) hk ?_
      exact hp0
    · refine within1_mk ?_
      refine State.actRouteDefaults_within (subU hp (by decide)) hk ?_
      exact hp0
  · refine State.actSessClose_within (hp .sent (by decide)) (hp .evu (by decide)) (hp .chain (by decide)) (hp .sess (by decide)) (hp .mail (by decide)) (hp .reasm (by decide)) (hp .jobs (by decide)) (hp .jrnl (by decide)) (hp .domain (by decide)) (hp .boot (by decide)) (hp .keys (by decide)) (hk _) (fun _ _ => hk _) (hk _) (hk _) (hk _) (hk _) (hk _) (hk _) (hk _) (hk _) (hk _) (hk _) (fun _ => hk _) (fun _ => hk _) (fun _ => hk _) (fun _ => hk _) (fun _ _ => hk _) ?_
    exact hp0

theorem State.startOf_within {b : Bounds} {p0 p1 p2 p3 p4} (qsent : b.parts .sent) (qevu : b.parts .evu) (qsess : b.parts .sess) (qmail : b.parts .mail) (qjobs : b.parts .jobs) (qfresh : b.parts .fresh) (qfmem : b.parts .fmem) (qbytes : b.parts .bytes) (qdomain : b.parts .domain) (qfurlongs : b.parts .furlongs) (qchain : b.parts .chain) (qjrnl : b.parts .jrnl) (qboot : b.parts .boot) (hk : ∀ k, b.regs k) (hp0 : Within b p0) : Within1 b (State.startOf p0 p1 p2 p3 p4) := by
  unfold State.startOf
  extract_lets -merge -useContext -underBinder x1 x2
  split
  · refine ite_elim (P := Within1 b) ?_ ?_
    · refine State.startExport_within qsent qevu qsess qmail qjobs (fun _ => hk _) (fun _ => hk _) (fun _ => hk _) (fun _ => hk _) (fun _ => hk _) (fun _ => hk _) (fun _ => hk _) (fun _ _ => hk _) (hk _) (fun _ _ => hk _) (hk _) (hk _) (fun _ => hk _) (fun _ => hk _) ?_
      exact hp0
    · refine State.startImport_within qsent qevu qsess qmail qjobs (fun _ => hk _) (fun _ => hk _) (fun _ => hk _) (fun _ => hk _) (fun _ => hk _) (fun _ => hk _) (fun _ => hk _) (fun _ _ => hk _) (hk _) (fun _ _ => hk _) (hk _) (hk _) (fun _ => hk _) (fun _ => hk _) ?_
      exact hp0
  · refine ite_elim (P := Within1 b) ?_ ?_
    · refine State.startMemtest_within qsent qevu qsess qmail qjobs qfresh qfmem qbytes (fun _ => hk _) (fun _ => hk _) (fun _ => hk _) (fun _ => hk _) (fun _ => hk _) (fun _ => hk _) (fun _ => hk _) (fun _ _ => hk _) (hk _) (fun _ _ => hk _) (hk _) (hk _) (fun _ => hk _) (fun _ => hk _) ?_
      exact hp0
    · refine ite_elim (P := Within1 b) ?_ ?_
      · refine State.startClipLoad_within qsent qevu qsess qmail qjobs qfmem (fun _ => hk _) (fun _ => hk _) (fun _ => hk _) (fun _ => hk _) (fun _ => hk _) (fun _ => hk _) (fun _ => hk _) (fun _ _ => hk _) (hk _) (fun _ _ => hk _) (hk _) (hk _) (fun _ => hk _) (fun _ => hk _) (hk _) (hk _) (hk _) ?_
        exact hp0
      · refine State.startClipSave_within qsent qevu qsess qmail qjobs qfmem (fun _ => hk _) (fun _ => hk _) (fun _ => hk _) (fun _ => hk _) (fun _ => hk _) (fun _ => hk _) (fun _ => hk _) (fun _ _ => hk _) (hk _) (fun _ _ => hk _) (hk _) (hk _) (fun _ => hk _) (fun _ => hk _) (hk _) ?_
        exact hp0
  · refine State.startLutLoad_within qsent qevu qsess qmail qjobs (fun _ => hk _) (fun _ => hk _) (fun _ => hk _) (fun _ => hk _) (fun _ => hk _) (fun _ => hk _) (fun _ => hk _) (fun _ _ => hk _) (hk _) (fun _ _ => hk _) (hk _) (hk _) (fun _ => hk _) (fun _ => hk _) (hk _) ?_
    exact hp0
  · refine State.startEyeScan_within qsent qevu qsess qmail qjobs (fun _ => hk _) (fun _ => hk _) (fun _ => hk _) (fun _ => hk _) (fun _ => hk _) (fun _ => hk _) (fun _ => hk _) (fun _ _ => hk _) (hk _) (fun _ _ => hk _) (hk _) (hk _) (fun _ => hk _) (fun _ => hk _) ?_
    exact hp0
  · extract_lets -merge -useContext -underBinder x3
    have hx3 : Within1 b x3 := by
      unfold x3
      refine State.startResync_within qsent qevu qsess qmail qjobs (fun _ => hk _) (fun _ => hk _) (fun _ => hk _) (fun _ => hk _) (fun _ => hk _) (fun _ => hk _) (fun _ => hk _) (fun _ _ => hk _) (hk _) (fun _ _ => hk _) (hk _) (hk _) (fun _ => hk _) (fun _ => hk _) ?_
      exact hp0
    try clear_value x3
    refine within1_mk ?_
    refine State.resyncStep_within qsent qevu qsess qmail qjobs qdomain qfurlongs qfmem qchain qjrnl hk ?_
    change Within1 b _
    exact hx3
  · refine State.startFwUpdate_within qsent qevu qsess qmail qjobs qboot (fun _ => hk _) (fun _ => hk _) (fun _ => hk _) (fun _ => hk _) (fun _ => hk _) (fun _ => hk _) (fun _ => hk _) (fun _ _ => hk _) (hk _) (fun _ _ => hk _) (hk _) (hk _) (fun _ => hk _) (fun _ => hk _) (hk _) ?_
    exact hp0
  · refine State.startKeyMigrate_within qsent qevu qsess qmail qjobs (fun _ => hk _) (fun _ => hk _) (fun _ => hk _) (fun _ => hk _) (fun _ => hk _) (fun _ => hk _) (fun _ => hk _) (fun _ _ => hk _) (hk _) (fun _ _ => hk _) (hk _) (hk _) (fun _ => hk _) (fun _ => hk _) ?_
    exact hp0
  · refine State.startCompact_within qsent qevu qsess qmail qjobs qjrnl (fun _ => hk _) (fun _ => hk _) (fun _ => hk _) (fun _ => hk _) (fun _ => hk _) (fun _ => hk _) (fun _ => hk _) (fun _ _ => hk _) (hk _) (fun _ _ => hk _) (hk _) (hk _) (fun _ => hk _) (fun _ => hk _) ?_
    exact hp0

theorem State.keep_within {b : Bounds} {p0 p1 p2 p3} (qevu : b.parts .evu) (c1 : ∀ k ∈ eventRegs 454, b.regs k) (c2 : b.regs O1C.FILULO_FLAGS) (hp0 : Within b p0) (hp3 : Within1 b p3) : WithinD b (State.keep p0 p1 p2 p3) := by
  unfold State.keep
  refine ite_elim (P := WithinD b) ?_ ?_
  · refine Done.yes_within ?_
    exact hp3
  · refine ite_elim (P := WithinD b) ?_ ?_
    · refine Done.no_within ?_
      exact hp0
    · refine ite_elim (P := WithinD b) ?_ ?_
      · refine Done.no_within ?_
        refine State.journalFull_within qevu c1 c2 ?_
        exact hp0
      · refine withinD_mk ?_
        change Within1 b _
        exact hp3

theorem State.writeObj_within {b : Bounds} {p0 p1 p2 p3 p4 p5 p6} (hp : ∀ p, p ∉ ([.hot, .measured, .ram, .bus, .conv, .fabric, .inputs, .locks, .timing, .straps, .sample, .pending, .member] : List Part) → b.parts p) (hk : ∀ k, b.regs k) (hp0 : Within b p0) : WithinD b (State.writeObj p0 p1 p2 p3 p4 p5 p6) := by
  unfold State.writeObj
  extract_lets -merge -useContext -underBinder x1
  refine ite_elim (P := WithinD b) ?_ ?_
  · refine Done.no_within ?_
    exact hp0
  · split
    · refine ite_elim (P := WithinD b) ?_ ?_
      · refine Done.no_within ?_
        exact hp0
      · refine Done.yes_within ?_
        refine within1_mk ?_
        refine State.unflag_within (hk _) ?_
        exact hp0
    · refine Done.yes_within ?_
      refine State.writeNow_within (hp .evu (by decide)) (hp .tick (by decide)) (hp .sess (by decide)) (hp .cues (by decide)) (hk _) (fun _ => hk _) (fun _ _ => hk _) (hk _) (hk _) ?_
      exact hp0
    · refine State.keep_within (hp .evu (by decide)) (fun _ _ => hk _) (hk _) ?_ ?_
      · exact hp0
      · refine State.writeKept_within (hp .sent (by decide)) (hp .evu (by decide)) (hp .chain (by decide)) (hp .sess (by decide)) (hp .mail (by decide)) (hp .reasm (by decide)) (hp .jobs (by decide)) (hp .jrnl (by decide)) (hp .amx (by decide)) (hp .domain (by decide)) (hp .boot (by decide)) (hp .keys (by decide)) (hk _) (fun _ _ => hk _) (hk _) (fun _ => hk _) (fun _ _ => hk _) (hk _) (hk _) (fun _ => hk _) (fun _ => hk _) (fun _ => hk _) (fun _ => hk _) (fun _ => hk _) (fun _ => hk _) (fun _ => hk _) (hk _) (fun _ => hk _) (fun _ => hk _) (fun _ => hk _) (fun _ => hk _) (fun _ _ => hk _) ?_
        exact hp0
    · refine ite_elim (P := WithinD b) ?_ ?_
      · refine State.keep_within (hp .evu (by decide)) (fun _ _ => hk _) (hk _) ?_ ?_
        · exact hp0
        · refine State.act_within (subU hp (by decide)) hk ?_
          exact hp0
      · refine Done.yes_within ?_
        refine State.act_within (subU hp (by decide)) hk ?_
        exact hp0
    · extract_lets -merge -useContext -underBinder x2
      have hx2 : Within1 b x2 := by
        unfold x2
        refine State.startOf_within (hp .sent (by decide)) (hp .evu (by decide)) (hp .sess (by decide)) (hp .mail (by decide)) (hp .jobs (by decide)) (hp .fresh (by decide)) (hp .fmem (by decide)) (hp .bytes (by decide)) (hp .domain (by decide)) (hp .furlongs (by decide)) (hp .chain (by decide)) (hp .jrnl (by decide)) (hp .boot (by decide)) hk ?_
        exact hp0
      try clear_value x2
      refine ite_elim (P := WithinD b) ?_ ?_
      · refine Done.no_within ?_
        exact hp0
      · refine ite_elim (P := WithinD b) ?_ ?_
        · refine Done.no_within ?_
          exact hp0
        · refine withinD_mk ?_
          change Within1 b _
          exact hx2
    · refine Done.no_within ?_
      exact hp0

theorem State.setItem_within {b : Bounds} {p0 p1 p2 p3 p4 p5 p6} (hp : ∀ p, p ∉ ([.pending, .member, .straps, .sample, .locks, .fabric, .conv, .bus, .hot, .measured, .ram] : List Part) → b.parts p) (hk : ∀ k, b.regs k) (hp0 : Within b p0) : WithinD b (State.setItem p0 p1 p2 p3 p4 p5 p6) := by
  unfold State.setItem
  refine ite_elim (P := WithinD b) ?_ ?_
  · refine Done.no_within ?_
    exact hp0
  · split
    · refine Done.no_within ?_
      exact hp0
    · refine State.writeObj_within (subU hp (by decide)) hk ?_
      exact hp0

theorem execRegisterWrite_within {b : Bounds} {p0 p1 p2 p3 p4} (hp : ∀ p, p ∉ ([.pending, .member, .straps, .sample, .locks, .fabric, .conv, .bus, .hot, .measured, .ram] : List Part) → b.parts p) (hk : ∀ k, b.regs k) (hp4 : Within b p4) : WithinOut b (execRegisterWrite p0 p1 p2 p3 p4) := by
  unfold execRegisterWrite
  refine live_within ?_ ?_
  · exact hp4
  · intro u1 hu1
    try beta_reduce
    refine ite_elim (P := Within b) ?_ ?_
    · change WithinD b _
      refine State.setItem_within (subU hp (by decide)) hk ?_
      exact hu1
    · exact hu1

theorem execEvStatus_within {b : Bounds} {p0 p1 p2} (c0 : b.regs (O1A.EV_STATUS p0)) (hp2 : Within b p2) : WithinOut b (execEvStatus p0 p1 p2) := by
  unfold execEvStatus
  refine live_within ?_ ?_
  · exact hp2
  · intro u1 hu1
    try beta_reduce
    refine ite_elim (P := Within b) ?_ ?_
    · refine State.unflag_within c0 ?_
      exact hu1
    · exact hu1

theorem execEventRaised_within {b : Bounds} {p0 p1 p2 p3} (qevu : b.parts .evu) (c1 : ∀ k ∈ eventRegs p0, b.regs k) (hp3 : Within b p3) : WithinOut b (execEventRaised p0 p1 p2 p3) := by
  unfold execEventRaised
  refine live_within ?_ ?_
  · exact hp3
  · intro u1 hu1
    try beta_reduce
    refine ite_elim (P := Within b) ?_ ?_
    · refine State.raise_within qevu c1 ?_
      exact hu1
    · exact hu1

theorem execSessClose_within {b : Bounds} {p0 p1} (qsent : b.parts .sent) (qevu : b.parts .evu) (qchain : b.parts .chain) (qsess : b.parts .sess) (qmail : b.parts .mail) (qreasm : b.parts .reasm) (qjobs : b.parts .jobs) (qjrnl : b.parts .jrnl) (qdomain : b.parts .domain) (qboot : b.parts .boot) (qkeys : b.parts .keys) (c11 : b.regs (O1C.SESS_TX_OPEN p0)) (c12 : ∀ k ∈ eventRegs 452, b.regs k) (c13 : b.regs O1C.FILULO_FLAGS) (c14 : b.regs O1C.SESSIONS_OPEN) (c15 : b.regs (O1C.SESS_QUEUE p0)) (c16 : b.regs (O1C.SESS_SUBS p0)) (c17 : b.regs (O1C.SESS_OPENED p0)) (c18 : b.regs (O1C.SESS_PEER p0)) (c19 : b.regs (O1C.SESS_CRED p0)) (c20 : b.regs (O1C.SESS_ROLE p0)) (c21 : b.regs (O1C.SESS_STATE p0)) (c22 : b.regs O19.HANDLES_OPEN) (c23 : ∀ w0, b.regs (O19.HANDLE_OWNER w0)) (c24 : ∀ w0, b.regs (O19.HANDLE_INFO w0)) (c25 : ∀ w0, b.regs (O19.HANDLE_STATE w0)) (c26 : ∀ w0, b.regs (O1B.JOB_OWNER w0)) (c27 : ∀ k ∈ eventRegs 449, b.regs k) (hp1 : Within b p1) : WithinOut b (execSessClose p0 p1) := by
  unfold execSessClose
  refine live_within ?_ ?_
  · exact hp1
  · intro u1 hu1
    try beta_reduce
    refine ite_elim (P := Within b) ?_ ?_
    · change Within1 b _
      refine State.actSessClose_within qsent qevu qchain qsess qmail qreasm qjobs qjrnl qdomain qboot qkeys c11 c12 c13 c14 c15 c16 c17 c18 c19 c20 c21 c22 c23 c24 c25 c26 c27 ?_
      exact hu1
    · exact hu1

end Sys2Proof.Machine
end

