-- ==== Sys2Proof/Laws/WithinFilulo.lean ====
section
/-! SUPPORT. What each operation of Machine/Filulo.lean may change at most (Laws/Within.lean). -/

set_option maxRecDepth 8000

namespace Sys2Proof.Machine

theorem Outcome.plain_within {b : Bounds} {p0 p1 p2} (hp0 : Within b p0) : WithinO b (Outcome.plain p0 p1 p2) := by
  unfold Outcome.plain
  refine withinO_mk ?_
  exact hp0

theorem State.setTx_within {b : Bounds} {p0 p1} (qchain : b.parts .chain) (hp0 : Within b p0) : Within b (State.setTx p0 p1) := by
  unfold State.setTx
  refine State.onChain_within qchain ?_
  exact hp0

theorem State.getItem_within {b : Bounds} {p0 p1 p2 p3 p4 p5} (qnet : b.parts .net) (qevu : b.parts .evu) (hp0 : Within b p0) : Within2 b (State.getItem p0 p1 p2 p3 p4 p5) := by
  unfold State.getItem
  extract_lets -merge -useContext -underBinder x1 x2
  have hx2 : ∀ a0, Within2 b (x2 a0) := by
    intro u3
    unfold x2
    try beta_reduce
    refine within2_mk ?_
    exact hp0
  try clear_value x2
  split
  · refine hx2 _
  · refine ite_elim (P := Within2 b) ?_ ?_
    · refine hx2 _
    · refine ite_elim (P := Within2 b) ?_ ?_
      · refine hx2 _
      · refine ite_elim (P := Within2 b) ?_ ?_
        · refine hx2 _
        · refine ite_elim (P := Within2 b) ?_ ?_
          · refine hx2 _
          · split
            · refine within2_mk ?_
              exact hp0
            · extract_lets -merge -useContext -underBinder x4
              have hx4 : Within2 b x4 := by
                unfold x4
                refine State.readVal_within qnet qevu ?_
                exact hp0
              try clear_value x4
              refine within2_mk ?_
              change Within2 b _
              exact hx4

theorem State.getItems_within {b : Bounds} {p0 p1 p2 p3} (qnet : b.parts .net) (qevu : b.parts .evu) (hp0 : Within b p0) : WithinV b (State.getItems p0 p1 p2 p3) := by
  unfold State.getItems
  refine foldl_elim (P := WithinV b) ?_ ?_
  · refine withinV_mk ?_
    exact hp0
  · intro u1 u2 hu3
    try beta_reduce
    refine foldl_elim (P := WithinV b) ?_ ?_
    · exact hu3
    · intro u4 u5 hu6
      try beta_reduce
      extract_lets -merge -useContext -underBinder x7
      have hx7 : Within2 b x7 := by
        unfold x7
        refine State.getItem_within qnet qevu ?_
        change WithinV b _
        exact hu6
      try clear_value x7
      refine withinV_mk ?_
      change Within2 b _
      exact hx7

theorem State.setOne_within {b : Bounds} {p0 p1 p2 p3 p4} (hp : ∀ p, p ∉ ([.pending, .member, .straps, .sample, .locks, .fabric, .conv, .bus, .hot, .measured, .ram] : List Part) → b.parts p) (hk : ∀ k, b.regs k) (hp0 : Within b p0) : WithinD b (State.setOne p0 p1 p2 p3 p4) := by
  unfold State.setOne
  extract_lets -merge -useContext -underBinder x1 x2
  have hx2 : WithinD b x2 := by
    unfold x2
    refine State.setItem_within (subU hp (by decide)) hk ?_
    exact hp0
  try clear_value x2
  refine ite_elim (P := WithinD b) ?_ ?_
  · refine Done.no_within ?_
    exact hp0
  · refine ite_elim (P := WithinD b) ?_ ?_
    · refine withinD_mk ?_
      change WithinD b _
      exact hx2
    · exact hx2

theorem State.setItems__within {b : Bounds} {p0 p1 p2 p3} (hp : ∀ p, p ∉ ([.pending, .member, .straps, .sample, .locks, .fabric, .conv, .bus, .hot, .measured, .ram] : List Part) → b.parts p) (hk : ∀ k, b.regs k) (hp0 : Within b p0) : WithinV b (State.setItems_ p0 p1 p2 p3) := by
  unfold State.setItems_
  refine foldl_elim (P := WithinV b) ?_ ?_
  · refine withinV_mk ?_
    exact hp0
  · intro t2 a3 ht1
    beta_reduce
    refine foldl_elim (P := WithinV b) ?_ ?_
    · exact ht1
    · intro t5 a6 ht4
      beta_reduce
      extract_lets -merge -useContext -underBinder x7
      have hx7 : WithinD b x7 := by
        unfold x7
        refine State.setOne_within (subU hp (by decide)) hk ?_
        change WithinV b _
        exact ht4
      try clear_value x7
      refine withinV_mk ?_
      change WithinD b _
      exact hx7

theorem State.opBegin_within {b : Bounds} {p0 p1} (qchain : b.parts .chain) (c1 : b.regs (O1C.SESS_TX_OPEN p1)) (hp0 : Within b p0) : WithinO b (State.opBegin p0 p1) := by
  unfold State.opBegin
  extract_lets -merge -useContext -underBinder x1 x2 x3 x4
  have hx4 : Within b x4 := by
    unfold x4
    refine State.onChain_within qchain ?_
    exact hp0
  try clear_value x4
  refine ite_elim (P := WithinO b) ?_ ?_
  · refine Outcome.plain_within ?_
    exact hp0
  · refine Outcome.plain_within ?_
    refine State.setN_within c1 ?_
    exact hx4

theorem State.opStage_within {b : Bounds} {p0 p1 p2 p3} (qchain : b.parts .chain) (hp0 : Within b p0) : WithinO b (State.opStage p0 p1 p2 p3) := by
  unfold State.opStage
  split
  · refine withinO_mk ?_
    exact hp0
  · extract_lets -merge -useContext -underBinder x1
    refine withinO_mk ?_
    refine State.setTx_within qchain ?_
    exact hp0

theorem State.commitDomain_within {b : Bounds} {p0 p1 p2 p3 p4} (qdomain : b.parts .domain) (qsent : b.parts .sent) (qfurlongs : b.parts .furlongs) (qevu : b.parts .evu) (qfmem : b.parts .fmem) (qchain : b.parts .chain) (qjrnl : b.parts .jrnl) (qsess : b.parts .sess) (qmail : b.parts .mail) (hk : ∀ k, b.regs k) (hp0 : Within b p0) : Within1 b (State.commitDomain p0 p1 p2 p3 p4) := by
  unfold State.commitDomain
  refine ite_elim (P := Within1 b) ?_ ?_
  · refine within1_mk ?_
    exact hp0
  · refine ite_elim (P := Within1 b) ?_ ?_
    · refine State.domainTx_within qdomain qsent qfurlongs qevu qfmem qchain qjrnl qsess qmail hk ?_
      exact hp0
    · refine ite_elim (P := Within1 b) ?_ ?_
      · refine within1_mk ?_
        refine State.emit_within qsent ?_
        exact hp0
      · refine within1_mk ?_
        exact hp0

theorem State.opCommit_within {b : Bounds} {p0 p1 p2 p3 p4} (qchain : b.parts .chain) (qdomain : b.parts .domain) (qsent : b.parts .sent) (qfurlongs : b.parts .furlongs) (qevu : b.parts .evu) (qfmem : b.parts .fmem) (qjrnl : b.parts .jrnl) (qsess : b.parts .sess) (qmail : b.parts .mail) (hk : ∀ k, b.regs k) (hp0 : Within b p0) : WithinO b (State.opCommit p0 p1 p2 p3 p4) := by
  unfold State.opCommit
  split
  · refine Outcome.plain_within ?_
    exact hp0
  · extract_lets -merge -useContext -underBinder x1 x2 x3
    have hx1 : Within b x1 := by
      unfold x1
      refine State.onChain_within qchain ?_
      exact hp0
    try clear_value x1
    have hx2 : Within b x2 := by
      unfold x2
      refine State.setN_within (hk _) ?_
      exact hx1
    try clear_value x2
    have hx3 : Within1 b x3 := by
      unfold x3
      refine ite_elim (P := Within1 b) ?_ ?_
      · refine State.commitDomain_within qdomain qsent qfurlongs qevu qfmem qchain qjrnl qsess qmail hk ?_
        exact hx2
      · refine State.commitTx_within qevu qfmem qchain qjrnl hk ?_
        exact hx2
    try clear_value x3
    refine ite_elim (P := WithinO b) ?_ ?_
    · refine Outcome.plain_within ?_
      exact hx2
    · refine ite_elim (P := WithinO b) ?_ ?_
      · refine Outcome.plain_within ?_
        exact hx2
      · refine Outcome.plain_within ?_
        change Within1 b _
        exact hx3

theorem State.opAbort_within {b : Bounds} {p0 p1 p2} (qevu : b.parts .evu) (qsent : b.parts .sent) (qsess : b.parts .sess) (qmail : b.parts .mail) (qjobs : b.parts .jobs) (qdomain : b.parts .domain) (qfurlongs : b.parts .furlongs) (qfabric : b.parts .fabric) (qfmem : b.parts .fmem) (qchain : b.parts .chain) (c10 : b.regs O04.STREAMS_ACTIVE) (c11 : ∀ (w0 : ℕ), b.regs (O12.MEDIA_CELLS w0)) (c12 : ∀ (w0 w1 : ℕ), b.regs (O0C.DEST_TERMS w0 w1)) (c13 : ∀ (w0 : ℕ), b.regs (O0C.BLOCK_TERMS w0)) (c14 : b.regs O0C.PHASE_TERMS) (c15 : b.regs O0C.TERMS_COMMITTED) (c16 : ∀ (w0 : ℕ), b.regs (O09.BUSHEL_PATHS w0)) (c17 : ∀ (w0 : ℕ), b.regs (O09.PECK_MASK w0)) (c18 : ∀ (w0 : ℕ), b.regs (O09.BUSHEL_STATE w0)) (c19 : b.regs O09.BUSHELS_IN_SERVICE) (c20 : b.regs O09.POOL_PECKS) (c21 : b.regs O09.PECKS_COMMITTED) (c22 : b.regs O09.PECKS_FREE) (c23 : b.regs O09.PATHS_SHED) (c24 : b.regs O09.PATHS_RUNNING) (c25 : ∀ (w0 : ℕ), b.regs (O08.SALVO_LAST_STATUS w0)) (c26 : ∀ (w0 : ℕ), b.regs (O08.SALVO_LAST_TICK w0)) (c27 : ∀ k ∈ eventRegs 130, b.regs k) (c28 : ∀ (w0 : ℕ), b.regs (O1C.SESS_QUEUE w0)) (c29 : ∀ k ∈ eventRegs 451, b.regs k) (c30 : b.regs O1C.FILULO_FLAGS) (c31 : b.regs O1C.TX_LAST) (c32 : ∀ k ∈ eventRegs 321, b.regs k) (c33 : ∀ (w0 : ℕ), b.regs (O14.CE_STATUS w0)) (c34 : ∀ (w0 : ℕ), b.regs (O14.LAST_ERROR w0)) (c35 : ∀ (w0 : ℕ), b.regs (O14.ACTION_ERRORS w0)) (c36 : ∀ k ∈ eventRegs 308, b.regs k) (c37 : b.regs O13.LAST_EPOCH) (c38 : ∀ k ∈ eventRegs 312, b.regs k) (c39 : b.regs O13.DOMAIN_STATE) (c40 : ∀ k ∈ eventRegs 309, b.regs k) (c41 : b.regs O13.DOMAIN_FLAGS) (c42 : ∀ (w0 : ℕ), b.regs (O13.MEMBER_LAST_EPOCH w0)) (c43 : ∀ (w0 : ℕ), b.regs (O12.CELLS_IO w0)) (c44 : b.regs O05.GENERAL_FREE) (c45 : ∀ (w0 : ℕ), b.regs (O05.LARGEST_FREE w0)) (c46 : ∀ (w0 : ℕ), b.regs (O05.FREE_BYTES w0)) (c47 : b.regs O01.SHADOW_STATE) (c48 : ∀ k ∈ eventRegs 310, b.regs k) (hp0 : Within b p0) : WithinO b (State.opAbort p0 p1 p2) := by
  unfold State.opAbort
  split
  · split
    · refine ite_elim (P := WithinO b) ?_ ?_
      · refine Outcome.plain_within ?_
        refine State.withdraw_within qevu qsent qsess qmail qjobs qdomain qfurlongs qfabric qfmem qchain c10 c11 c12 c13 c14 c15 c16 c17 c18 c19 c20 c21 c22 c23 c24 (c25 _) (c26 _) c27 c28 c29 c30 c31 c32 c33 c34 c35 c36 c37 c38 c39 c40 c41 c42 c43 c44 c45 c46 c47 ?_
        exact hp0
      · refine Outcome.plain_within ?_
        exact hp0
    · refine Outcome.plain_within ?_
      exact hp0
  · split
    · refine Outcome.plain_within ?_
      exact hp0
    · refine ite_elim (P := WithinO b) ?_ ?_
      · refine Outcome.plain_within ?_
        exact hp0
      · split
        · rename_i y1 y2 y3 y4 y5 y6 y7 y8 e9
          have k10 := transport (P := Within1S b) e9 (by
            refine State.abortDomain_within qdomain qsent qfurlongs qevu qsess qmail c43 c28 c29 c30 c31 c48 ?_
            exact hp0
            )
          refine Outcome.plain_within ?_
          change Within1 b _
          exact (k10 _ rfl)
        · rename_i y11 y12 y13 y14 y15 y16 y17 e18
          have k19 := transport (P := Within1S b) e18 (by
            refine State.abortDomain_within qdomain qsent qfurlongs qevu qsess qmail c43 c28 c29 c30 c31 c48 ?_
            exact hp0
            )
          refine Outcome.plain_within ?_
          exact hp0

theorem State.opDiscard_within {b : Bounds} {p0 p1 p2} (qevu : b.parts .evu) (qchain : b.parts .chain) (c2 : b.regs (O1C.SESS_TX_OPEN p1)) (c3 : ∀ k ∈ eventRegs 452, b.regs k) (c4 : b.regs O1C.FILULO_FLAGS) (hp0 : Within b p0) : WithinO b (State.opDiscard p0 p1 p2) := by
  unfold State.opDiscard
  split
  · refine Outcome.plain_within ?_
    exact hp0
  · refine Outcome.plain_within ?_
    refine State.txDiscarded_within qevu qchain c2 c3 c4 ?_
    exact hp0

theorem State.resumeJob_within {b : Bounds} {p0 p1 p2} (qsent : b.parts .sent) (qevu : b.parts .evu) (qsess : b.parts .sess) (qmail : b.parts .mail) (qjobs : b.parts .jobs) (c5 : b.regs (O1B.JOB_STATUS p2)) (c6 : ∀ w0, b.regs (O1C.SESS_QUEUE w0)) (c7 : ∀ k ∈ eventRegs 451, b.regs k) (c8 : b.regs O1C.FILULO_FLAGS) (c9 : ∀ k ∈ eventRegs 434, b.regs k) (c10 : b.regs O1B.JOBS_QUEUED) (c11 : b.regs O1B.JOBS_RUNNING) (c12 : b.regs (O1B.JOB_STARTED p2)) (c13 : b.regs (O1B.JOB_STATE p2)) (hp0 : Within b p0) : Within b (State.resumeJob p0 p1 p2) := by
  unfold State.resumeJob
  split
  · exact hp0
  · extract_lets -merge -useContext -underBinder x1
    have hx1 : Within b x1 := by
      unfold x1
      refine State.setN_within c5 ?_
      refine State.setJob_within qjobs ?_
      exact hp0
    try clear_value x1
    refine ite_elim (P := Within b) ?_ ?_
    · refine State.runJob_within qsent qevu qsess qmail c6 c7 c8 c9 c10 c11 c12 c13 ?_
      exact hx1
    · refine State.noteJob_within qsent qevu qsess qmail c6 c7 c8 ?_
      refine State.raise_within qevu c9 ?_
      refine State.countJobs_within c10 c11 ?_
      refine State.setN_within c13 ?_
      exact hx1

theorem State.opJob_within {b : Bounds} {p0 p1 p2 p3} (qsent : b.parts .sent) (qevu : b.parts .evu) (qsess : b.parts .sess) (qmail : b.parts .mail) (qjobs : b.parts .jobs) (c5 : b.regs (O1B.JOB_STATUS p2)) (c6 : ∀ w0, b.regs (O1C.SESS_QUEUE w0)) (c7 : ∀ k ∈ eventRegs 451, b.regs k) (c8 : b.regs O1C.FILULO_FLAGS) (c9 : ∀ k ∈ eventRegs 434, b.regs k) (c10 : b.regs O1B.JOBS_QUEUED) (c11 : b.regs O1B.JOBS_RUNNING) (c12 : b.regs (O1B.JOB_STARTED p2)) (c13 : b.regs (O1B.JOB_STATE p2)) (c14 : b.regs (O1B.JOB_RESULT p2)) (c15 : b.regs (O1B.JOB_OWNER p2)) (c16 : b.regs (O1B.JOB_ENDED p2)) (c17 : b.regs (O1B.JOB_PROGRESS p2)) (c18 : b.regs (O1B.JOB_OBJECT p2)) (hp0 : Within b p0) : WithinO b (State.opJob p0 p1 p2 p3) := by
  unfold State.opJob
  extract_lets -merge -useContext -underBinder x1 x2 x3
  have hx2 : ∀ a0, WithinO b (x2 a0) := by
    unfold x2
    intro u4
    try beta_reduce
    refine Outcome.plain_within ?_
    exact hp0
  try clear_value x2
  refine ite_elim (P := WithinO b) ?_ ?_
  · refine hx2 _
  · refine ite_elim (P := WithinO b) ?_ ?_
    · refine hx2 _
    · refine ite_elim (P := WithinO b) ?_ ?_
      · refine hx2 _
      · split
        · refine hx2 _
        · split
          · refine ite_elim (P := WithinO b) ?_ ?_
            · refine Outcome.plain_within ?_
              refine State.setJob_within qjobs ?_
              exact hp0
            · refine hx2 _
          · refine ite_elim (P := WithinO b) ?_ ?_
            · refine Outcome.plain_within ?_
              refine State.resumeJob_within qsent qevu qsess qmail qjobs c5 c6 c7 c8 c9 c10 c11 c12 c13 ?_
              exact hp0
            · refine hx2 _
          · refine ite_elim (P := WithinO b) ?_ ?_
            · refine Outcome.plain_within ?_
              refine State.setJob_within qjobs ?_
              exact hp0
            · refine hx2 _
          · refine ite_elim (P := WithinO b) ?_ ?_
            · refine Outcome.plain_within ?_
              refine State.freeJob_within qjobs c14 c15 c16 c12 c17 c5 c18 c13 ?_
              exact hp0
            · refine hx2 _

theorem State.setSubs_within {b : Bounds} {p0 p1 p2 p3} (qsess : b.parts .sess) (c1 : b.regs (O1C.SESS_SUBS p1)) (hp0 : Within b p0) : Within b (State.setSubs p0 p1 p2 p3) := by
  unfold State.setSubs
  refine State.setN_within c1 ?_
  refine State.setSess_within qsess ?_
  exact hp0

theorem State.opSubscribe_within {b : Bounds} {p0 p1 p2} (qsess : b.parts .sess) (c1 : b.regs (O1C.SESS_SUBS p1)) (hp0 : Within b p0) : WithinO b (State.opSubscribe p0 p1 p2) := by
  unfold State.opSubscribe
  split
  · extract_lets -merge -useContext -underBinder x1 x2 x3 x4 x5
    refine ite_elim (P := WithinO b) ?_ ?_
    · refine withinO_mk ?_
      exact hp0
    · refine withinO_mk ?_
      refine State.setSubs_within qsess c1 ?_
      exact hp0
  · refine Outcome.plain_within ?_
    exact hp0

theorem State.opUnsubscribe_within {b : Bounds} {p0 p1 p2} (qsess : b.parts .sess) (c1 : b.regs (O1C.SESS_SUBS p1)) (hp0 : Within b p0) : WithinO b (State.opUnsubscribe p0 p1 p2) := by
  unfold State.opUnsubscribe
  split
  · refine Outcome.plain_within ?_
    exact hp0
  · refine ite_elim (P := WithinO b) ?_ ?_
    · refine Outcome.plain_within ?_
      refine State.setSubs_within qsess c1 ?_
      exact hp0
    · refine ite_elim (P := WithinO b) ?_ ?_
      · refine Outcome.plain_within ?_
        refine State.setSubs_within qsess c1 ?_
        exact hp0
      · refine Outcome.plain_within ?_
        exact hp0

theorem State.opBulkPut_within {b : Bounds} {p0 p1 p2 p3 p4 p5} (qjobs : b.parts .jobs) (hp0 : Within b p0) : WithinO b (State.opBulkPut p0 p1 p2 p3 p4 p5) := by
  unfold State.opBulkPut
  split
  · refine withinO_mk ?_
    exact hp0
  · extract_lets -merge -useContext -underBinder x1 x2 x3 x4 x5
    have hx1 : ∀ a0, WithinO b (x1 a0) := by
      unfold x1
      intro u6
      try beta_reduce
      refine withinO_mk ?_
      exact hp0
    try clear_value x1
    refine ite_elim (P := WithinO b) ?_ ?_
    · refine hx1 _
    · refine ite_elim (P := WithinO b) ?_ ?_
      · refine hx1 _
      · refine withinO_mk ?_
        refine State.setJob_within qjobs ?_
        exact hp0

theorem State.opBulkGet_within {b : Bounds} {p0 p1 p2 p3 p4} (qjobs : b.parts .jobs) (qsent : b.parts .sent) (qevu : b.parts .evu) (qsess : b.parts .sess) (qmail : b.parts .mail) (qfabric : b.parts .fabric) (qfmem : b.parts .fmem) (qboot : b.parts .boot) (c8 : b.regs (O1B.JOB_ENDED p2)) (c9 : b.regs (O1B.JOB_STATUS p2)) (c10 : b.regs (O1B.JOB_RESULT p2)) (c11 : b.regs (O1B.JOB_PROGRESS p2)) (c12 : b.regs O1B.JOBS_QUEUED) (c13 : b.regs O1B.JOBS_RUNNING) (c14 : ∀ (w0 : ℕ), b.regs (O1C.SESS_QUEUE w0)) (c15 : b.regs O1C.FILULO_FLAGS) (c16 : ∀ (w0 : ℕ), b.regs (O1B.JOB_STARTED w0)) (c17 : ∀ (w0 : ℕ), b.regs (O1B.JOB_STATE w0)) (c18 : ∀ (w0 : ℕ), ∀ k ∈ eventRegs w0, b.regs k) (c19 : b.regs O00.DEV_FLAGS) (c20 : ∀ (w0 : ℕ), b.regs (O05.CLIP_LOADED w0)) (c21 : ∀ (w0 : ℕ), b.regs (O05.CLIP_STATE w0)) (c22 : ∀ (w0 : ℕ), b.regs (O09.LUT_STATE w0)) (c23 : b.regs O18.FW_PHASE) (hp0 : Within b p0) : WithinO b (State.opBulkGet p0 p1 p2 p3 p4) := by
  unfold State.opBulkGet
  split
  · refine withinO_mk ?_
    exact hp0
  · extract_lets -merge -useContext -underBinder x1 x2 x3 x4
    have hx3 : Within b x3 := by
      unfold x3
      refine State.setJob_within qjobs ?_
      exact hp0
    try clear_value x3
    have hx4 : Within b x4 := by
      unfold x4
      refine ite_elim (P := Within b) ?_ ?_
      · refine State.stopJob_within qsent qevu qsess qmail qjobs qfabric qfmem qboot c8 c9 c10 c11 c12 c13 c14 c15 c16 c17 c18 c19 c20 c21 c22 c23 ?_
        exact hx3
      · exact hx3
    try clear_value x4
    refine ite_elim (P := WithinO b) ?_ ?_
    · refine withinO_mk ?_
      exact hp0
    · refine withinO_mk ?_
      exact hx4

theorem State.operate_within {b : Bounds} {p0 p1 p2 p3} (hp : ∀ p, p ∉ ([.pending, .member, .straps, .sample, .locks, .conv, .bus, .hot, .measured, .ram] : List Part) → b.parts p) (hk : ∀ k, b.regs k) (hp0 : Within b p0) : WithinO b (State.operate p0 p1 p2 p3) := by
  unfold State.operate
  refine ite_elim (P := WithinO b) ?_ ?_
  · refine Outcome.plain_within ?_
    exact hp0
  · split
    · extract_lets -merge -useContext -underBinder x1
      have hx1 : WithinV b x1 := by
        unfold x1
        refine State.getItems_within (hp .net (by decide)) (hp .evu (by decide)) ?_
        exact hp0
      try clear_value x1
      refine withinO_mk ?_
      change WithinV b _
      exact hx1
    · extract_lets -merge -useContext -underBinder x2
      have hx2 : WithinV b x2 := by
        unfold x2
        refine State.setItems__within (subU hp (by decide)) hk ?_
        exact hp0
      try clear_value x2
      refine withinO_mk ?_
      change WithinV b _
      exact hx2
    · refine State.opBegin_within (hp .chain (by decide)) (hk _) ?_
      exact hp0
    · refine State.opStage_within (hp .chain (by decide)) ?_
      exact hp0
    · refine State.opCommit_within (hp .chain (by decide)) (hp .domain (by decide)) (hp .sent (by decide)) (hp .furlongs (by decide)) (hp .evu (by decide)) (hp .fmem (by decide)) (hp .jrnl (by decide)) (hp .sess (by decide)) (hp .mail (by decide)) hk ?_
      exact hp0
    · refine State.opAbort_within (hp .evu (by decide)) (hp .sent (by decide)) (hp .sess (by decide)) (hp .mail (by decide)) (hp .jobs (by decide)) (hp .domain (by decide)) (hp .furlongs (by decide)) (hp .fabric (by decide)) (hp .fmem (by decide)) (hp .chain (by decide)) (hk _) (fun _ => hk _) (fun _ _ => hk _) (fun _ => hk _) (hk _) (hk _) (fun _ => hk _) (fun _ => hk _) (fun _ => hk _) (hk _) (hk _) (hk _) (hk _) (hk _) (hk _) (fun _ => hk _) (fun _ => hk _) (fun _ _ => hk _) (fun _ => hk _) (fun _ _ => hk _) (hk _) (hk _) (fun _ _ => hk _) (fun _ => hk _) (fun _ => hk _) (fun _ => hk _) (fun _ _ => hk _) (hk _) (fun _ _ => hk _) (hk _) (fun _ _ => hk _) (hk _) (fun _ => hk _) (fun _ => hk _) (hk _) (fun _ => hk _) (fun _ => hk _) (hk _) (fun _ _ => hk _) ?_
      exact hp0
    · refine State.opDiscard_within (hp .evu (by decide)) (hp .chain (by decide)) (hk _) (fun _ _ => hk _) (hk _) ?_
      exact hp0
    · refine State.opJob_within (hp .sent (by decide)) (hp .evu (by decide)) (hp .sess (by decide)) (hp .mail (by decide)) (hp .jobs (by decide)) (hk _) (fun _ => hk _) (fun _ _ => hk _) (hk _) (fun _ _ => hk _) (hk _) (hk _) (hk _) (hk _) (hk _) (hk _) (hk _) (hk _) (hk _) ?_
      exact hp0
    · refine State.opSubscribe_within (hp .sess (by decide)) (hk _) ?_
      exact hp0
    · refine State.opUnsubscribe_within (hp .sess (by decide)) (hk _) ?_
      exact hp0
    · refine State.opBulkPut_within (hp .jobs (by decide)) ?_
      exact hp0
    · refine State.opBulkGet_within (hp .jobs (by decide)) (hp .sent (by decide)) (hp .evu (by decide)) (hp .sess (by decide)) (hp .mail (by decide)) (hp .fabric (by decide)) (hp .fmem (by decide)) (hp .boot (by decide)) (hk _) (hk _) (hk _) (hk _) (hk _) (hk _) (fun _ => hk _) (hk _) (fun _ => hk _) (fun _ => hk _) (fun _ _ _ => hk _) (hk _) (fun _ => hk _) (fun _ => hk _) (fun _ => hk _) (hk _) ?_
      exact hp0
    · refine Outcome.plain_within ?_
      exact hp0

theorem State.afterJournal_within {b : Bounds} {p0 p1 p2} (qsent : b.parts .sent) (qsess : b.parts .sess) (qmail : b.parts .mail) (qboot : b.parts .boot) (qkeys : b.parts .keys) (hp0 : Within b p0) : Within b (State.afterJournal p0 p1 p2) := by
  unfold State.afterJournal
  extract_lets -merge -useContext -underBinder x1
  refine ite_elim (P := Within b) ?_ ?_
  · refine State.onBoot_within qboot ?_
    exact hp0
  · refine ite_elim (P := Within b) ?_ ?_
    · refine State.onKeys_within qkeys ?_
      exact hp0
    · refine State.respond_within qsent qsess qmail ?_
      exact hp0

theorem State.answer_within {b : Bounds} {p0 p1 p2 p3} (qsent : b.parts .sent) (qsess : b.parts .sess) (qmail : b.parts .mail) (qjrnl : b.parts .jrnl) (qboot : b.parts .boot) (qkeys : b.parts .keys) (hp0 : Within b p0) : Within b (State.answer p0 p1 p2 p3) := by
  unfold State.answer
  refine ite_elim (P := Within b) ?_ ?_
  · refine State.answerLater_within qjrnl ?_
    exact hp0
  · refine State.afterJournal_within qsent qsess qmail qboot qkeys ?_
    exact hp0

theorem State.request_within {b : Bounds} {p0 p1 p2 p3 p4} (hp : ∀ p, p ∉ ([.pending, .member, .straps, .sample, .locks, .conv, .bus, .hot, .measured, .ram] : List Part) → b.parts p) (hk : ∀ k, b.regs k) (hp0 : Within b p0) : Within b (State.request p0 p1 p2 p3 p4) := by
  unfold State.request
  extract_lets -merge -useContext -underBinder x1
  have hx1 : WithinO b x1 := by
    unfold x1
    refine State.operate_within (subU hp (by decide)) hk ?_
    exact hp0
  try clear_value x1
  refine State.answer_within (hp .sent (by decide)) (hp .sess (by decide)) (hp .mail (by decide)) (hp .jrnl (by decide)) (hp .boot (by decide)) (hp .keys (by decide)) ?_
  change WithinO b _
  exact hx1

theorem State.malformed_within {b : Bounds} {p0 p1 p2 p3} (qsent : b.parts .sent) (qsess : b.parts .sess) (qmail : b.parts .mail) (qjrnl : b.parts .jrnl) (qboot : b.parts .boot) (qkeys : b.parts .keys) (hp0 : Within b p0) : Within b (State.malformed p0 p1 p2 p3) := by
  unfold State.malformed
  refine State.answer_within qsent qsess qmail qjrnl qboot qkeys ?_
  exact hp0

theorem State.bySeq_within {b : Bounds} {p0 p1 p2 p3 p4} (qsent : b.parts .sent) (qsess : b.parts .sess) (qmail : b.parts .mail) (hp0 : Within b p0) (hp4 : ∀ a0, Within b a0 → Within b (p4 a0)) : Within b (State.bySeq p0 p1 p2 p3 p4) := by
  unfold State.bySeq
  split
  · exact hp0
  · extract_lets -merge -useContext -underBinder x1 x2
    have hx2 : Within b x2 := by
      unfold x2
      refine State.setSess_within qsess ?_
      exact hp0
    try clear_value x2
    refine ite_elim (P := Within b) ?_ ?_
    · exact hp0
    · refine ite_elim (P := Within b) ?_ ?_
      · refine hp4 _ ?_
        · refine State.setSess_within qsess ?_
          exact hp0
      · refine ite_elim (P := Within b) ?_ ?_
        · refine hp4 _ ?_
          · refine State.setSess_within qsess ?_
            exact hp0
        · refine ite_elim (P := Within b) ?_ ?_
          · exact hx2
          · split
            · refine State.transmit_within qsent qmail ?_
              exact hx2
            · exact hx2

theorem State.queueDrains_within {b : Bounds} {p0 p1} (qsent : b.parts .sent) (qevu : b.parts .evu) (qsess : b.parts .sess) (qmail : b.parts .mail) (c4 : b.regs (O1C.SESS_QUEUE p1)) (c5 : ∀ k ∈ eventRegs 451, b.regs k) (c6 : b.regs O1C.FILULO_FLAGS) (hp0 : Within b p0) : Within b (State.queueDrains p0 p1) := by
  unfold State.queueDrains
  split
  · exact hp0
  · extract_lets -merge -useContext -underBinder x1
    have hx1 : Within b x1 := by
      unfold x1
      refine State.setSess_within qsess ?_
      exact hp0
    try clear_value x1
    refine ite_elim (P := Within b) ?_ ?_
    · exact hp0
    · refine State.forEach_within ?_ ?_
      · exact hx1
      · intro u2 u3 hu2
        try beta_reduce
        refine State.note_within qsent qevu qsess qmail c4 c5 c6 ?_
        exact hu2

theorem State.acked_within {b : Bounds} {p0 p1 p2} (qsent : b.parts .sent) (qevu : b.parts .evu) (qsess : b.parts .sess) (qmail : b.parts .mail) (c4 : b.regs (O1C.SESS_QUEUE p1)) (c5 : ∀ k ∈ eventRegs 451, b.regs k) (c6 : b.regs O1C.FILULO_FLAGS) (hp0 : Within b p0) : Within b (State.acked p0 p1 p2) := by
  unfold State.acked
  split
  · exact hp0
  · extract_lets -merge -useContext -underBinder x1
    refine State.queueDrains_within qsent qevu qsess qmail c4 c5 c6 ?_
    refine State.setN_within c4 ?_
    refine State.setSess_within qsess ?_
    exact hp0

theorem State.message_within {b : Bounds} {p0 p1 p2 p3 p4 p5} (hp : ∀ p, p ∉ ([.pending, .member, .straps, .sample, .locks, .conv, .bus, .hot, .measured, .ram] : List Part) → b.parts p) (hk : ∀ k, b.regs k) (hp0 : Within b p0) : Within b (State.message p0 p1 p2 p3 p4 p5) := by
  unfold State.message
  refine State.bySeq_within (hp .sent (by decide)) (hp .sess (by decide)) (hp .mail (by decide)) ?_ ?_
  · exact hp0
  · intro u1 hu1
    try beta_reduce
    split
    · split
      · refine State.request_within (subU hp (by decide)) hk ?_
        exact hu1
      · refine State.malformed_within (hp .sent (by decide)) (hp .sess (by decide)) (hp .mail (by decide)) (hp .jrnl (by decide)) (hp .boot (by decide)) (hp .keys (by decide)) ?_
        exact hu1
    · refine ite_elim (P := Within b) ?_ ?_
      · refine State.acked_within (hp .sent (by decide)) (hp .evu (by decide)) (hp .sess (by decide)) (hp .mail (by decide)) (hk _) (fun k _ => hk k) (hk _) ?_
        exact hu1
      · exact hu1
    · refine ite_elim (P := Within b) ?_ ?_
      · refine State.closeSession_within (hp .sent (by decide)) (hp .evu (by decide)) (hp .chain (by decide)) (hp .sess (by decide)) (hp .mail (by decide)) (hp .reasm (by decide)) (hp .jobs (by decide)) (hp .jrnl (by decide)) (hp .domain (by decide)) (hp .boot (by decide)) (hp .keys (by decide)) (hk _) (fun k _ => hk k) (hk _) (hk _) (hk _) (hk _) (hk _) (hk _) (hk _) (hk _) (hk _) (hk _) (fun _ => hk _) (fun _ => hk _) (fun _ => hk _) (fun _ => hk _) (fun k _ => hk k) ?_
        exact hu1
      · exact hu1
    · exact hu1

theorem State.authDiscard_within {b : Bounds} {p0} (c0 : b.regs O1C.AUTH_DISCARDS) (hp0 : Within b p0) : Within b (State.authDiscard p0) := by
  unfold State.authDiscard
  refine State.bump_within c0 ?_
  exact hp0

theorem State.deliver_within {b : Bounds} {p0 p1 p2 p3 p4 p5 p6 p7 p8} (hp : ∀ p, p ∉ ([.pending, .member, .straps, .sample, .conv, .bus, .hot, .measured, .ram] : List Part) → b.parts p) (hk : ∀ k, b.regs k) (hp0 : Within b p0) : Within b (State.deliver p0 p1 p2 p3 p4 p5 p6 p7 p8) := by
  unfold State.deliver
  refine ite_elim (P := Within b) ?_ ?_
  · exact hp0
  · split
    · refine State.hello_within (hp .fresh (by decide)) (hp .sent (by decide)) (hp .evu (by decide)) (hp .sess (by decide)) (hp .mail (by decide)) (hp .locks (by decide)) (hp .keys (by decide)) (hk _) (fun k _ => hk k) (hk _) (fun _ => hk _) (fun _ => hk _) ?_
      exact hp0
    · refine State.prove_within (subU hp (by decide)) hk ?_
      exact hp0
    · refine State.message_within (subU hp (by decide)) hk ?_
      exact hp0

theorem State.gatherFrag_within {b : Bounds} {p0 p1 p2 p3 p4} (qreasm : b.parts .reasm) (hp0 : Within b p0) (hp4 : ∀ a0 a1, Within b a0 → Within b (p4 a0 a1)) : Within b (State.gatherFrag p0 p1 p2 p3 p4) := by
  unfold State.gatherFrag
  extract_lets -merge -useContext -underBinder x1 x2 x3 x4 x5 x6 x7
  refine ite_elim (P := Within b) ?_ ?_
  · exact hp0
  · refine ite_elim (P := Within b) ?_ ?_
    · refine hp4 _ _ ?_
      · exact hp0
    · refine ite_elim (P := Within b) ?_ ?_
      · refine hp4 _ _ ?_
        · refine Within.f_reasm (s := p0) qreasm ?_
          exact hp0
      · refine Within.f_reasm (s := p0) qreasm ?_
        exact hp0

theorem State.gathered_within {b : Bounds} {p0 p1 p2 p3 p4 p5 p6 p7 p8} (hp : ∀ p, p ∉ ([.pending, .member, .straps, .sample, .conv, .bus, .hot, .measured, .ram] : List Part) → b.parts p) (hk : ∀ k, b.regs k) (hp0 : Within b p0) : Within b (State.gathered p0 p1 p2 p3 p4 p5 p6 p7 p8) := by
  unfold State.gathered
  refine State.gatherFrag_within (hp .reasm (by decide)) ?_ ?_
  · exact hp0
  · intro u1 u2 hu3
    try beta_reduce
    refine State.deliver_within (subU hp (by decide)) hk ?_
    exact hu3

theorem State.accepted_within {b : Bounds} {p0 p1 p2 p3 p4 p5} (hp : ∀ p, p ∉ ([.pending, .member, .straps, .sample, .conv, .bus, .hot, .measured, .ram] : List Part) → b.parts p) (hk : ∀ k, b.regs k) (hp0 : Within b p0) : Within b (State.accepted p0 p1 p2 p3 p4 p5) := by
  unfold State.accepted
  refine ite_elim (P := Within b) ?_ ?_
  · exact hp0
  · refine ite_elim (P := Within b) ?_ ?_
    · split
      · refine State.authDiscard_within (hk _) ?_
        exact hp0
      · refine ite_elim (P := Within b) ?_ ?_
        · refine State.authDiscard_within (hk _) ?_
          exact hp0
        · split
          · refine State.authDiscard_within (hk _) ?_
            exact hp0
          · refine State.gathered_within (subU hp (by decide)) hk ?_
            exact hp0
    · refine ite_elim (P := Within b) ?_ ?_
      · refine ite_elim (P := Within b) ?_ ?_
        · refine State.gathered_within (subU hp (by decide)) hk ?_
          exact hp0
        · refine State.authDiscard_within (hk _) ?_
          exact hp0
      · split
        · refine State.authDiscard_within (hk _) ?_
          exact hp0
        · refine State.gathered_within (subU hp (by decide)) hk ?_
          exact hp0

theorem State.drainH2d_within {b : Bounds} {p0 p1} (hp : ∀ p, p ∉ ([.pending, .member, .straps, .sample, .conv, .bus, .hot, .measured, .ram] : List Part) → b.parts p) (hk : ∀ k, b.regs k) (hp1 : Within b p1) : Within b (State.drainH2d p0 p1) := by
  induction p0 generalizing p1 with
  | zero => exact hp1
  | succ f ih =>
    unfold State.drainH2d
    extract_lets -merge -useContext -underBinder x1 x2 x3 x4
    have hx4 : Within b x4 := Within.f_mail (s := p1) (hp .mail (by decide)) hp1
    clear_value x4
    refine ite_elim (P := Within b) hp1 (ih ?_)
    split
    · exact State.accepted_within (subU hp (by decide)) hk hx4
    · exact hx4

theorem State.fillD2h_within {b : Bounds} {p0 p1} (qsent : b.parts .sent) (qmail : b.parts .mail) (hp1 : Within b p1) : Within b (State.fillD2h p0 p1) := by
  induction p0 generalizing p1 with
  | zero => exact hp1
  | succ f ih =>
    unfold State.fillD2h
    split
    · exact hp1
    · exact ite_elim (P := Within b) hp1 (ih (State.ringSend_within qsent qmail (Within.f_mail (s := p1) qmail hp1)))

theorem State.h2dTail_within {b : Bounds} {p0 p1 p2} (hp : ∀ p, p ∉ ([.pending, .member, .straps, .sample, .conv, .bus, .hot, .measured, .ram] : List Part) → b.parts p) (hk : ∀ k, b.regs k) (hp0 : Within b p0) : Within b (State.h2dTail p0 p1 p2) := by
  unfold State.h2dTail
  extract_lets -merge -useContext -underBinder x1 x2 x3
  refine ite_elim (P := Within b) ?_ ?_
  · refine Within.f_mail (s := p0) (hp .mail (by decide)) ?_
    exact hp0
  · refine State.drainH2d_within (subU hp (by decide)) hk ?_
    refine Within.f_mail (s := p0) (hp .mail (by decide)) ?_
    exact hp0

theorem State.d2hHead_within {b : Bounds} {p0 p1} (qsent : b.parts .sent) (qmail : b.parts .mail) (hp0 : Within b p0) : Within b (State.d2hHead p0 p1) := by
  unfold State.d2hHead
  extract_lets -merge -useContext -underBinder x1 x2 x3
  have hx3 : Within b x3 := by
    unfold x3
    refine Within.f_mail (s := p0) qmail ?_
    exact hp0
  try clear_value x3
  refine ite_elim (P := Within b) ?_ ?_
  · exact hp0
  · refine State.fillD2h_within qsent qmail ?_
    refine State.ringClock_within qmail ?_
    exact hx3

theorem requestIn_within {b : Bounds} {p0 p1 p2 p3 p4} (hp : ∀ p, p ∉ ([.pending, .member, .straps, .sample, .locks, .conv, .bus, .hot, .measured, .ram] : List Part) → b.parts p) (hk : ∀ k, b.regs k) (hp4 : Within b p4) : WithinOut b (requestIn p0 p1 p2 p3 p4) := by
  unfold requestIn
  refine live_within ?_ ?_
  · exact hp4
  · intro u1 hu1
    try beta_reduce
    refine ite_elim (P := Within b) ?_ ?_
    · refine State.bySeq_within (hp .sent (by decide)) (hp .sess (by decide)) (hp .mail (by decide)) ?_ ?_
      · exact hu1
      · intro u2 hu2
        try beta_reduce
        refine State.request_within (subU hp (by decide)) hk ?_
        exact hu2
    · exact hu1

theorem execDatagramRx_within {b : Bounds} {p0 p1 p2 p3 p4 p5} (hp : ∀ p, p ∉ ([.pending, .member, .straps, .sample, .conv, .bus, .hot, .measured, .ram] : List Part) → b.parts p) (hk : ∀ k, b.regs k) (hp5 : Within b p5) : WithinOut b (execDatagramRx p0 p1 p2 p3 p4 p5) := by
  unfold execDatagramRx
  refine live_within ?_ ?_
  · exact hp5
  · intro u1 hu1
    try beta_reduce
    refine ite_elim (P := Within b) ?_ ?_
    · split
      · refine State.accepted_within (subU hp (by decide)) hk ?_
        exact hu1
      · exact hu1
    · exact hu1

theorem execReassemblyTimeout_within {b : Bounds} {p0 p1 p2} (qreasm : b.parts .reasm) (hp2 : Within b p2) : WithinOut b (execReassemblyTimeout p0 p1 p2) := by
  unfold execReassemblyTimeout
  refine live_within ?_ ?_
  · exact hp2
  · intro u1 hu1
    try beta_reduce
    refine Within.f_reasm (s := u1) qreasm ?_
    exact hu1

theorem execGet_within {b : Bounds} {p0 p1 p2 p3 p4} (hp : ∀ p, p ∉ ([.pending, .member, .straps, .sample, .locks, .conv, .bus, .hot, .measured, .ram] : List Part) → b.parts p) (hk : ∀ k, b.regs k) (hp4 : Within b p4) : WithinOut b (execGet p0 p1 p2 p3 p4) := by
  unfold execGet
  refine requestIn_within (subU hp (by decide)) hk ?_
  exact hp4

theorem execSet_within {b : Bounds} {p0 p1 p2 p3 p4} (hp : ∀ p, p ∉ ([.pending, .member, .straps, .sample, .locks, .conv, .bus, .hot, .measured, .ram] : List Part) → b.parts p) (hk : ∀ k, b.regs k) (hp4 : Within b p4) : WithinOut b (execSet p0 p1 p2 p3 p4) := by
  unfold execSet
  refine requestIn_within (subU hp (by decide)) hk ?_
  exact hp4

theorem execBegin_within {b : Bounds} {p0 p1 p2} (hp : ∀ p, p ∉ ([.pending, .member, .straps, .sample, .locks, .conv, .bus, .hot, .measured, .ram] : List Part) → b.parts p) (hk : ∀ k, b.regs k) (hp2 : Within b p2) : WithinOut b (execBegin p0 p1 p2) := by
  unfold execBegin
  refine requestIn_within (subU hp (by decide)) hk ?_
  exact hp2

theorem execStage_within {b : Bounds} {p0 p1 p2 p3 p4} (hp : ∀ p, p ∉ ([.pending, .member, .straps, .sample, .locks, .conv, .bus, .hot, .measured, .ram] : List Part) → b.parts p) (hk : ∀ k, b.regs k) (hp4 : Within b p4) : WithinOut b (execStage p0 p1 p2 p3 p4) := by
  unfold execStage
  refine requestIn_within (subU hp (by decide)) hk ?_
  exact hp4

theorem execCommit_within {b : Bounds} {p0 p1 p2 p3 p4 p5} (hp : ∀ p, p ∉ ([.pending, .member, .straps, .sample, .locks, .conv, .bus, .hot, .measured, .ram] : List Part) → b.parts p) (hk : ∀ k, b.regs k) (hp5 : Within b p5) : WithinOut b (execCommit p0 p1 p2 p3 p4 p5) := by
  unfold execCommit
  refine requestIn_within (subU hp (by decide)) hk ?_
  exact hp5

theorem execAbort_within {b : Bounds} {p0 p1 p2 p3} (hp : ∀ p, p ∉ ([.pending, .member, .straps, .sample, .locks, .conv, .bus, .hot, .measured, .ram] : List Part) → b.parts p) (hk : ∀ k, b.regs k) (hp3 : Within b p3) : WithinOut b (execAbort p0 p1 p2 p3) := by
  unfold execAbort
  refine requestIn_within (subU hp (by decide)) hk ?_
  exact hp3

theorem execDiscard_within {b : Bounds} {p0 p1 p2 p3} (hp : ∀ p, p ∉ ([.pending, .member, .straps, .sample, .locks, .conv, .bus, .hot, .measured, .ram] : List Part) → b.parts p) (hk : ∀ k, b.regs k) (hp3 : Within b p3) : WithinOut b (execDiscard p0 p1 p2 p3) := by
  unfold execDiscard
  refine requestIn_within (subU hp (by decide)) hk ?_
  exact hp3

theorem execJobSuspend_within {b : Bounds} {p0 p1 p2 p3} (hp : ∀ p, p ∉ ([.pending, .member, .straps, .sample, .locks, .conv, .bus, .hot, .measured, .ram] : List Part) → b.parts p) (hk : ∀ k, b.regs k) (hp3 : Within b p3) : WithinOut b (execJobSuspend p0 p1 p2 p3) := by
  unfold execJobSuspend
  refine requestIn_within (subU hp (by decide)) hk ?_
  exact hp3

theorem execJobResume_within {b : Bounds} {p0 p1 p2 p3} (hp : ∀ p, p ∉ ([.pending, .member, .straps, .sample, .locks, .conv, .bus, .hot, .measured, .ram] : List Part) → b.parts p) (hk : ∀ k, b.regs k) (hp3 : Within b p3) : WithinOut b (execJobResume p0 p1 p2 p3) := by
  unfold execJobResume
  refine requestIn_within (subU hp (by decide)) hk ?_
  exact hp3

theorem execJobCancel_within {b : Bounds} {p0 p1 p2 p3} (hp : ∀ p, p ∉ ([.pending, .member, .straps, .sample, .locks, .conv, .bus, .hot, .measured, .ram] : List Part) → b.parts p) (hk : ∀ k, b.regs k) (hp3 : Within b p3) : WithinOut b (execJobCancel p0 p1 p2 p3) := by
  unfold execJobCancel
  refine requestIn_within (subU hp (by decide)) hk ?_
  exact hp3

theorem execJobRelease_within {b : Bounds} {p0 p1 p2 p3} (hp : ∀ p, p ∉ ([.pending, .member, .straps, .sample, .locks, .conv, .bus, .hot, .measured, .ram] : List Part) → b.parts p) (hk : ∀ k, b.regs k) (hp3 : Within b p3) : WithinOut b (execJobRelease p0 p1 p2 p3) := by
  unfold execJobRelease
  refine requestIn_within (subU hp (by decide)) hk ?_
  exact hp3

theorem execSubscribe_within {b : Bounds} {p0 p1 p2 p3} (hp : ∀ p, p ∉ ([.pending, .member, .straps, .sample, .locks, .conv, .bus, .hot, .measured, .ram] : List Part) → b.parts p) (hk : ∀ k, b.regs k) (hp3 : Within b p3) : WithinOut b (execSubscribe p0 p1 p2 p3) := by
  unfold execSubscribe
  refine requestIn_within (subU hp (by decide)) hk ?_
  exact hp3

theorem execUnsubscribe_within {b : Bounds} {p0 p1 p2 p3} (hp : ∀ p, p ∉ ([.pending, .member, .straps, .sample, .locks, .conv, .bus, .hot, .measured, .ram] : List Part) → b.parts p) (hk : ∀ k, b.regs k) (hp3 : Within b p3) : WithinOut b (execUnsubscribe p0 p1 p2 p3) := by
  unfold execUnsubscribe
  refine requestIn_within (subU hp (by decide)) hk ?_
  exact hp3

theorem execBulkPut_within {b : Bounds} {p0 p1 p2 p3 p4 p5 p6} (hp : ∀ p, p ∉ ([.pending, .member, .straps, .sample, .locks, .conv, .bus, .hot, .measured, .ram] : List Part) → b.parts p) (hk : ∀ k, b.regs k) (hp6 : Within b p6) : WithinOut b (execBulkPut p0 p1 p2 p3 p4 p5 p6) := by
  unfold execBulkPut
  refine requestIn_within (subU hp (by decide)) hk ?_
  exact hp6

theorem execBulkGet_within {b : Bounds} {p0 p1 p2 p3 p4 p5} (hp : ∀ p, p ∉ ([.pending, .member, .straps, .sample, .locks, .conv, .bus, .hot, .measured, .ram] : List Part) → b.parts p) (hk : ∀ k, b.regs k) (hp5 : Within b p5) : WithinOut b (execBulkGet p0 p1 p2 p3 p4 p5) := by
  unfold execBulkGet
  refine requestIn_within (subU hp (by decide)) hk ?_
  exact hp5

theorem execNotifyAck_within {b : Bounds} {p0 p1 p2 p3} (qsent : b.parts .sent) (qevu : b.parts .evu) (qsess : b.parts .sess) (qmail : b.parts .mail) (c4 : b.regs (O1C.SESS_QUEUE p0)) (c5 : ∀ k ∈ eventRegs 451, b.regs k) (c6 : b.regs O1C.FILULO_FLAGS) (hp3 : Within b p3) : WithinOut b (execNotifyAck p0 p1 p2 p3) := by
  unfold execNotifyAck
  refine live_within ?_ ?_
  · exact hp3
  · intro u1 hu1
    try beta_reduce
    refine ite_elim (P := Within b) ?_ ?_
    · refine State.bySeq_within qsent qsess qmail ?_ ?_
      · exact hu1
      · intro u2 hu2
        try beta_reduce
        refine State.acked_within qsent qevu qsess qmail c4 c5 c6 ?_
        exact hu2
    · exact hu1

theorem execNotifyResend_within {b : Bounds} {p0 p1 p2} (qsent : b.parts .sent) (qevu : b.parts .evu) (qchain : b.parts .chain) (qsess : b.parts .sess) (qmail : b.parts .mail) (qreasm : b.parts .reasm) (qjobs : b.parts .jobs) (qjrnl : b.parts .jrnl) (qdomain : b.parts .domain) (qboot : b.parts .boot) (qkeys : b.parts .keys) (c11 : b.regs (O1C.SESS_TX_OPEN p0)) (c12 : ∀ k ∈ eventRegs 452, b.regs k) (c13 : b.regs O1C.FILULO_FLAGS) (c14 : b.regs O1C.SESSIONS_OPEN) (c15 : b.regs (O1C.SESS_QUEUE p0)) (c16 : b.regs (O1C.SESS_SUBS p0)) (c17 : b.regs (O1C.SESS_OPENED p0)) (c18 : b.regs (O1C.SESS_PEER p0)) (c19 : b.regs (O1C.SESS_CRED p0)) (c20 : b.regs (O1C.SESS_ROLE p0)) (c21 : b.regs (O1C.SESS_STATE p0)) (c22 : b.regs O19.HANDLES_OPEN) (c23 : ∀ w0, b.regs (O19.HANDLE_OWNER w0)) (c24 : ∀ w0, b.regs (O19.HANDLE_INFO w0)) (c25 : ∀ w0, b.regs (O19.HANDLE_STATE w0)) (c26 : ∀ w0, b.regs (O1B.JOB_OWNER w0)) (c27 : ∀ k ∈ eventRegs 449, b.regs k) (hp2 : Within b p2) : WithinOut b (execNotifyResend p0 p1 p2) := by
  unfold execNotifyResend
  refine live_within ?_ ?_
  · exact hp2
  · intro u1 hu1
    try beta_reduce
    split
    · exact hu1
    · split
      · exact hu1
      · extract_lets -merge -useContext -underBinder x2
        refine ite_elim (P := Within b) ?_ ?_
        · exact hu1
        · refine ite_elim (P := Within b) ?_ ?_
          · refine State.closeSession_within qsent qevu qchain qsess qmail qreasm qjobs qjrnl qdomain qboot qkeys c11 c12 c13 c14 c15 c16 c17 c18 c19 c20 c21 c22 c23 c24 c25 c26 c27 ?_
            exact hu1
          · refine State.transmit_within qsent qmail ?_
            refine State.setSess_within qsess ?_
            exact hu1

theorem execKeepalive_within {b : Bounds} {p0 p1 p2} (qsent : b.parts .sent) (qsess : b.parts .sess) (qmail : b.parts .mail) (hp2 : Within b p2) : WithinOut b (execKeepalive p0 p1 p2) := by
  unfold execKeepalive
  refine live_within ?_ ?_
  · exact hp2
  · intro u1 hu1
    try beta_reduce
    refine ite_elim (P := Within b) ?_ ?_
    · refine State.bySeq_within qsent qsess qmail ?_ ?_
      · exact hu1
      · intro u2 hu2
        unfold id
        exact hu2
    · exact hu1

theorem execClose_within {b : Bounds} {p0 p1 p2 p3} (qsent : b.parts .sent) (qevu : b.parts .evu) (qchain : b.parts .chain) (qsess : b.parts .sess) (qmail : b.parts .mail) (qreasm : b.parts .reasm) (qjobs : b.parts .jobs) (qjrnl : b.parts .jrnl) (qdomain : b.parts .domain) (qboot : b.parts .boot) (qkeys : b.parts .keys) (c11 : b.regs (O1C.SESS_TX_OPEN p0)) (c12 : ∀ k ∈ eventRegs 452, b.regs k) (c13 : b.regs O1C.FILULO_FLAGS) (c14 : b.regs O1C.SESSIONS_OPEN) (c15 : b.regs (O1C.SESS_QUEUE p0)) (c16 : b.regs (O1C.SESS_SUBS p0)) (c17 : b.regs (O1C.SESS_OPENED p0)) (c18 : b.regs (O1C.SESS_PEER p0)) (c19 : b.regs (O1C.SESS_CRED p0)) (c20 : b.regs (O1C.SESS_ROLE p0)) (c21 : b.regs (O1C.SESS_STATE p0)) (c22 : b.regs O19.HANDLES_OPEN) (c23 : ∀ w0, b.regs (O19.HANDLE_OWNER w0)) (c24 : ∀ w0, b.regs (O19.HANDLE_INFO w0)) (c25 : ∀ w0, b.regs (O19.HANDLE_STATE w0)) (c26 : ∀ w0, b.regs (O1B.JOB_OWNER w0)) (c27 : ∀ k ∈ eventRegs 449, b.regs k) (hp3 : Within b p3) : WithinOut b (execClose p0 p1 p2 p3) := by
  unfold execClose
  refine live_within ?_ ?_
  · exact hp3
  · intro u1 hu1
    try beta_reduce
    refine ite_elim (P := Within b) ?_ ?_
    · refine State.bySeq_within qsent qsess qmail ?_ ?_
      · exact hu1
      · intro u2 hu2
        try beta_reduce
        refine State.closeSession_within qsent qevu qchain qsess qmail qreasm qjobs qjrnl qdomain qboot qkeys c11 c12 c13 c14 c15 c16 c17 c18 c19 c20 c21 c22 c23 c24 c25 c26 c27 ?_
        exact hu2
    · exact hu1

theorem execMbH2dTail_within {b : Bounds} {p0 p1 p2} (hp : ∀ p, p ∉ ([.pending, .member, .straps, .sample, .conv, .bus, .hot, .measured, .ram] : List Part) → b.parts p) (hk : ∀ k, b.regs k) (hp2 : Within b p2) : WithinOut b (execMbH2dTail p0 p1 p2) := by
  unfold execMbH2dTail
  refine live_within ?_ ?_
  · exact hp2
  · intro u1 hu1
    try beta_reduce
    refine ite_elim (P := Within b) ?_ ?_
    · refine State.h2dTail_within (subU hp (by decide)) hk ?_
      exact hu1
    · exact hu1

theorem execMbD2hHead_within {b : Bounds} {p0 p1} (qsent : b.parts .sent) (qmail : b.parts .mail) (hp1 : Within b p1) : WithinOut b (execMbD2hHead p0 p1) := by
  unfold execMbD2hHead
  refine live_within ?_ ?_
  · exact hp1
  · intro u1 hu1
    try beta_reduce
    refine ite_elim (P := Within b) ?_ ?_
    · refine State.d2hHead_within qsent qmail ?_
      exact hu1
    · exact hu1

end Sys2Proof.Machine
end

