-- ==== Sys2Proof/Laws/WithinProgramming.lean ====
section
/-! SUPPORT. What each operation of Machine/Programming.lean may change at most (Laws/Within.lean). -/

set_option maxRecDepth 8000

namespace Sys2Proof.Machine

theorem State.hostWrite_within {b : Bounds} {p0 p1 p2} (qsent : b.parts .sent) (hp0 : Within b p0) : Within b (State.hostWrite p0 p1 p2) := by
  unfold State.hostWrite
  refine State.emit_within qsent ?_
  exact hp0

theorem State.exportSeam_within {b : Bounds} {p0} (qsent : b.parts .sent) (qevu : b.parts .evu) (qjobs : b.parts .jobs) (c3 : ∀ w0, b.regs (O1B.JOB_RESULT w0)) (c4 : ∀ k ∈ eventRegs 5, b.regs k) (hp0 : Within b p0) : Within b (State.exportSeam p0) := by
  unfold State.exportSeam
  split
  · exact hp0
  · split
    · exact hp0
    · extract_lets -merge -useContext -underBinder x1 x2 x3 x4 x5
      have hx3 : Within b x3 := by
        unfold x3
        refine State.setJob_within qjobs ?_
        exact hp0
      try clear_value x3
      have hx4 : Within b x4 := by
        unfold x4
        refine State.offerJob_within qjobs (c3 _) ?_
        exact hx3
      try clear_value x4
      have hx5 : Within b x5 := by
        unfold x5
        refine ite_elim (P := Within b) ?_ ?_
        · exact hx4
        · refine State.hostWrite_within qsent ?_
          exact hx4
      try clear_value x5
      refine ite_elim (P := Within b) ?_ ?_
      · exact hp0
      · refine State.raise_within qevu c4 ?_
        exact hx5

theorem State.setImport_within {b : Bounds} {p0 p1 p2 p3 p4 p5 p6} (qjobs : b.parts .jobs) (hp0 : Within b p0) : Within b (State.setImport p0 p1 p2 p3 p4 p5 p6) := by
  unfold State.setImport
  split
  · refine State.setJob_within qjobs ?_
    exact hp0
  · exact hp0

theorem State.importStops_within {b : Bounds} {p0 p1 p2 p3} (qsent : b.parts .sent) (qevu : b.parts .evu) (qsess : b.parts .sess) (qmail : b.parts .mail) (qjobs : b.parts .jobs) (c5 : b.regs (O1B.JOB_ENDED p1)) (c6 : b.regs (O1B.JOB_STATUS p1)) (c7 : b.regs (O1B.JOB_RESULT p1)) (c8 : b.regs (O1B.JOB_PROGRESS p1)) (c9 : b.regs O1B.JOBS_QUEUED) (c10 : b.regs O1B.JOBS_RUNNING) (c11 : ∀ w0, b.regs (O1C.SESS_QUEUE w0)) (c12 : b.regs O1C.FILULO_FLAGS) (c13 : ∀ w0, b.regs (O1B.JOB_STARTED w0)) (c14 : ∀ w0, b.regs (O1B.JOB_STATE w0)) (c15 : ∀ w0, ∀ k ∈ eventRegs w0, b.regs k) (c16 : b.regs O00.DEV_FLAGS) (hp0 : Within b p0) : Within b (State.importStops p0 p1 p2 p3) := by
  unfold State.importStops
  extract_lets -merge -useContext -underBinder x1
  refine State.endJob_within qsent qevu qsess qmail qjobs c5 c6 c7 c8 c9 c10 c11 c12 c13 c14 c15 ?_
  refine State.importEnds_within qevu c7 c16 (c15 _) ?_
  exact hp0

theorem State.writeBatch_within {b : Bounds} {p0 p1 p2 p3} (hp : ∀ p, p ∉ ([.pending, .member, .straps, .sample, .locks, .fabric, .conv, .bus, .hot, .measured, .ram] : List Part) → b.parts p) (hk : ∀ k, b.regs k) (hp0 : Within b p0) : Within1 b (State.writeBatch p0 p1 p2 p3) := by
  induction p2 generalizing p0 p3 with
  | nil => exact hp0
  | cons e l ih =>
    obtain ⟨i, k, r, v⟩ := e
    unfold State.writeBatch
    have hd : WithinD b (p0.writeObj 0xFFFF p1 k r v Plan.empty) := State.writeObj_within (subU hp (by decide)) hk hp0
    exact ite_elim (P := Within1 b) (ih hd) (within1_mk hd)

theorem State.importWrites_within {b : Bounds} {p0 p1 p2 p3} (hp : ∀ p, p ∉ ([.pending, .member, .straps, .sample, .locks, .fabric, .conv, .bus, .hot, .measured, .ram] : List Part) → b.parts p) (hk : ∀ k, b.regs k) (hp0 : Within b p0) : Within b (State.importWrites p0 p1 p2 p3) := by
  unfold State.importWrites
  extract_lets -merge -useContext -underBinder x1 x2
  have hx2 : Within1 b x2 := by
    unfold x2
    refine State.writeBatch_within (subU hp (by decide)) hk ?_
    exact hp0
  try clear_value x2
  split
  · refine State.importStops_within (hp .sent (by decide)) (hp .evu (by decide)) (hp .sess (by decide)) (hp .mail (by decide)) (hp .jobs (by decide)) (hk _) (hk _) (hk _) (hk _) (hk _) (hk _) (fun _ => hk _) (hk _) (fun _ => hk _) (fun _ => hk _) (fun _ k _ => hk k) (hk _) ?_
    refine State.setImport_within (hp .jobs (by decide)) ?_
    change Within1 b _
    exact hx2
  · refine State.setImport_within (hp .jobs (by decide)) ?_
    change Within1 b _
    exact hx2

theorem State.importStep_within {b : Bounds} {p0} (hp : ∀ p, p ∉ ([.pending, .member, .straps, .sample, .locks, .fabric, .conv, .bus, .hot, .measured, .ram] : List Part) → b.parts p) (hk : ∀ k, b.regs k) (hp0 : Within b p0) : Within b (State.importStep p0) := by
  unfold State.importStep
  split
  · exact hp0
  · split
    · exact hp0
    · refine ite_elim (P := Within b) ?_ ?_
      · exact hp0
      · split
        · refine State.importStops_within (hp .sent (by decide)) (hp .evu (by decide)) (hp .sess (by decide)) (hp .mail (by decide)) (hp .jobs (by decide)) (hk _) (hk _) (hk _) (hk _) (hk _) (hk _) (fun _ => hk _) (hk _) (fun _ => hk _) (fun _ => hk _) (fun _ _ _ => hk _) (hk _) ?_
          exact hp0
        · extract_lets -merge -useContext -underBinder x1
          split
          · refine State.importStops_within (hp .sent (by decide)) (hp .evu (by decide)) (hp .sess (by decide)) (hp .mail (by decide)) (hp .jobs (by decide)) (hk _) (hk _) (hk _) (hk _) (hk _) (hk _) (fun _ => hk _) (hk _) (fun _ => hk _) (fun _ => hk _) (fun _ _ _ => hk _) (hk _) ?_
            refine State.setImport_within (hp .jobs (by decide)) ?_
            exact hp0
          · split
            · refine ite_elim (P := Within b) ?_ ?_
              · refine State.importWrites_within (subU hp (by decide)) hk ?_
                exact hp0
              · refine State.importStops_within (hp .sent (by decide)) (hp .evu (by decide)) (hp .sess (by decide)) (hp .mail (by decide)) (hp .jobs (by decide)) (hk _) (hk _) (hk _) (hk _) (hk _) (hk _) (fun _ => hk _) (hk _) (fun _ => hk _) (fun _ => hk _) (fun _ _ _ => hk _) (hk _) ?_
                refine State.setImport_within (hp .jobs (by decide)) ?_
                exact hp0
            · extract_lets -merge -useContext -underBinder x2 x3
              have hx3 : Within1 b x3 := by
                unfold x3
                refine State.commitTx_within (hp .evu (by decide)) (hp .fmem (by decide)) (hp .chain (by decide)) (hp .jrnl (by decide)) hk ?_
                exact hp0
              try clear_value x3
              refine ite_elim (P := Within b) ?_ ?_
              · exact hp0
              · refine ite_elim (P := Within b) ?_ ?_
                · refine State.importStops_within (hp .sent (by decide)) (hp .evu (by decide)) (hp .sess (by decide)) (hp .mail (by decide)) (hp .jobs (by decide)) (hk _) (hk _) (hk _) (hk _) (hk _) (hk _) (fun _ => hk _) (hk _) (fun _ => hk _) (fun _ => hk _) (fun _ _ _ => hk _) (hk _) ?_
                  refine State.setImport_within (hp .jobs (by decide)) ?_
                  exact hp0
                · refine ite_elim (P := Within b) ?_ ?_
                  · refine State.importWrites_within (subU hp (by decide)) hk ?_
                    exact hp0
                  · refine ite_elim (P := Within b) ?_ ?_
                    · change Within1 b _
                      exact hx3
                    · refine State.importStops_within (hp .sent (by decide)) (hp .evu (by decide)) (hp .sess (by decide)) (hp .mail (by decide)) (hp .jobs (by decide)) (hk _) (hk _) (hk _) (hk _) (hk _) (hk _) (fun _ => hk _) (hk _) (fun _ => hk _) (fun _ => hk _) (fun _ _ _ => hk _) (hk _) ?_
                      refine State.setImport_within (hp .jobs (by decide)) ?_
                      change Within1 b _
                      exact hx3

theorem State.progressSeam_within {b : Bounds} {p0} (c0 : ∀ (w0 : ℕ), b.regs (O1B.JOB_PROGRESS w0)) (hp0 : Within b p0) : Within b (State.progressSeam p0) := by
  unfold State.progressSeam
  refine State.forEach_within ?_ ?_
  · exact hp0
  · intro u1 u2 hu3
    try beta_reduce
    refine ite_elim (P := Within b) ?_ ?_
    · exact hu3
    · split
      · exact hu3
      · refine State.setN_within (c0 _) ?_
        exact hu3

theorem State.programmed_within {b : Bounds} {p0 p1 p2} (qchain : b.parts .chain) (qevu : b.parts .evu) (qsent : b.parts .sent) (qsess : b.parts .sess) (qmail : b.parts .mail) (qjobs : b.parts .jobs) (qdomain : b.parts .domain) (qfurlongs : b.parts .furlongs) (qboot : b.parts .boot) (qkeys : b.parts .keys) (c10 : b.regs O01.SHADOW_STATE) (c11 : ∀ (w0 : ℕ), b.regs (O08.SALVO_LAST_STATUS w0)) (c12 : ∀ (w0 : ℕ), b.regs (O08.SALVO_LAST_TICK w0)) (c13 : ∀ (w0 : ℕ), b.regs (O1C.SESS_QUEUE w0)) (c14 : b.regs O1C.FILULO_FLAGS) (c15 : b.regs O1C.TX_LAST) (c16 : ∀ (w0 : ℕ), b.regs (O14.CE_STATUS w0)) (c17 : ∀ (w0 : ℕ), b.regs (O14.LAST_ERROR w0)) (c18 : ∀ (w0 : ℕ), b.regs (O14.ACTION_ERRORS w0)) (c19 : b.regs O13.LAST_EPOCH) (c20 : b.regs O13.DOMAIN_STATE) (c21 : b.regs O13.DOMAIN_FLAGS) (c22 : ∀ (w0 : ℕ), b.regs (O13.MEMBER_LAST_EPOCH w0)) (c23 : ∀ (w0 : ℕ), b.regs (O12.CELLS_IO w0)) (c24 : ∀ (w0 : ℕ), b.regs (O1C.SESS_OPENED w0)) (c25 : ∀ (w0 : ℕ), b.regs (O1C.SESS_CRED w0)) (c26 : ∀ (w0 : ℕ), b.regs (O1C.SESS_ROLE w0)) (c27 : ∀ (w0 : ℕ), b.regs (O1C.SESS_STATE w0)) (c28 : b.regs O1C.SESSIONS_OPEN) (c29 : ∀ (w0 : ℕ), b.regs (O1B.JOB_ENDED w0)) (c30 : ∀ (w0 : ℕ), b.regs (O1B.JOB_STATUS w0)) (c31 : ∀ (w0 : ℕ), b.regs (O1B.JOB_RESULT w0)) (c32 : ∀ (w0 : ℕ), b.regs (O1B.JOB_PROGRESS w0)) (c33 : b.regs O1B.JOBS_QUEUED) (c34 : b.regs O1B.JOBS_RUNNING) (c35 : ∀ (w0 : ℕ), b.regs (O1B.JOB_STARTED w0)) (c36 : ∀ (w0 : ℕ), b.regs (O1B.JOB_STATE w0)) (c37 : ∀ (w0 : ℕ), ∀ k ∈ eventRegs w0, b.regs k) (hp0 : Within b p0) : Within b (State.programmed p0 p1 p2) := by
  unfold State.programmed
  split
  · refine State.recorded_within qchain c10 ?_
    exact hp0
  · refine State.finish_within qevu qsent qsess qmail qjobs qdomain qfurlongs (c11 _) (c12 _) (c37 _) c13 (c37 _) c14 c15 (c37 _) c16 c17 c18 (c37 _) c19 (c37 _) c20 (c37 _) c21 c22 c23 ?_
    exact hp0
  · refine State.forEach_within ?_ ?_
    · exact hp0
    · intro u1 u2 hu3
      try beta_reduce
      refine State.afterJournal_within qsent qsess qmail qboot qkeys ?_
      exact hu3
  · refine State.accept_within qsent qevu qsess qmail (c24 _) (c25 _) (c26 _) (c27 _) (c37 _) c28 ?_
    exact hp0
  · extract_lets -merge -useContext -underBinder x4
    have hx4 : Within b x4 := by
      unfold x4
      refine State.raise_within qevu (c37 _) ?_
      exact hp0
    try clear_value x4
    refine ite_elim (P := Within b) ?_ ?_
    · refine State.endJob_within qsent qevu qsess qmail qjobs (c29 _) (c30 _) (c31 _) (c32 _) c33 c34 c13 c14 c35 c36 c37 ?_
      exact hx4
    · exact hx4
  · refine State.onBoot_within qboot ?_
    refine State.raise_within qevu (c37 _) ?_
    exact hp0
  · exact hp0

theorem State.programNext_within {b : Bounds} {p0} (qjrnl : b.parts .jrnl) (qsent : b.parts .sent) (qevu : b.parts .evu) (qsess : b.parts .sess) (qmail : b.parts .mail) (qjobs : b.parts .jobs) (qchain : b.parts .chain) (qdomain : b.parts .domain) (qfurlongs : b.parts .furlongs) (qboot : b.parts .boot) (qkeys : b.parts .keys) (c11 : b.regs O1C.JOURNAL_JSEQ) (c12 : b.regs O1C.JOURNAL_USED) (c13 : ∀ (w0 : ℕ), b.regs (O1B.JOB_ENDED w0)) (c14 : ∀ (w0 : ℕ), b.regs (O1B.JOB_RESULT w0)) (c15 : ∀ (w0 : ℕ), b.regs (O1B.JOB_OWNER w0)) (c16 : ∀ (w0 : ℕ), b.regs (O1B.JOB_PROGRESS w0)) (c17 : ∀ (w0 : ℕ), b.regs (O1B.JOB_STATUS w0)) (c18 : ∀ (w0 : ℕ), b.regs (O1B.JOB_OBJECT w0)) (c19 : ∀ (w0 : ℕ), b.regs (O1C.SESS_QUEUE w0)) (c20 : b.regs O1C.FILULO_FLAGS) (c21 : b.regs O1B.JOBS_QUEUED) (c22 : b.regs O1B.JOBS_RUNNING) (c23 : ∀ (w0 : ℕ), b.regs (O1B.JOB_STARTED w0)) (c24 : ∀ (w0 : ℕ), b.regs (O1B.JOB_STATE w0)) (c25 : b.regs O01.SHADOW_STATE) (c26 : ∀ (w0 : ℕ), b.regs (O08.SALVO_LAST_STATUS w0)) (c27 : ∀ (w0 : ℕ), b.regs (O08.SALVO_LAST_TICK w0)) (c28 : b.regs O1C.TX_LAST) (c29 : ∀ (w0 : ℕ), b.regs (O14.CE_STATUS w0)) (c30 : ∀ (w0 : ℕ), b.regs (O14.LAST_ERROR w0)) (c31 : ∀ (w0 : ℕ), b.regs (O14.ACTION_ERRORS w0)) (c32 : b.regs O13.LAST_EPOCH) (c33 : b.regs O13.DOMAIN_STATE) (c34 : b.regs O13.DOMAIN_FLAGS) (c35 : ∀ (w0 : ℕ), b.regs (O13.MEMBER_LAST_EPOCH w0)) (c36 : ∀ (w0 : ℕ), b.regs (O12.CELLS_IO w0)) (c37 : ∀ (w0 : ℕ), b.regs (O1C.SESS_OPENED w0)) (c38 : ∀ (w0 : ℕ), b.regs (O1C.SESS_CRED w0)) (c39 : ∀ (w0 : ℕ), b.regs (O1C.SESS_ROLE w0)) (c40 : ∀ (w0 : ℕ), b.regs (O1C.SESS_STATE w0)) (c41 : b.regs O1C.SESSIONS_OPEN) (c42 : ∀ (w0 : ℕ), ∀ k ∈ eventRegs w0, b.regs k) (hp0 : Within b p0) : Within b (State.programNext p0) := by
  unfold State.programNext
  split
  · rename_i y1 y2 e3
    have k4 := transport (P := Within1 b) e3 (by
      refine State.programRec_within qjrnl c11 c12 ?_
      exact hp0
      )
    exact k4
  · rename_i y5 y6 y7 y8 e9
    have k10 := transport (P := Within1 b) e9 (by
      refine State.programRec_within qjrnl c11 c12 ?_
      exact hp0
      )
    refine State.autoCompact_within qsent qevu qsess qmail qjobs qjrnl c13 c14 c15 c16 c17 c18 c19 (c42 _) c20 (c42 _) c21 c22 c23 c24 ?_
    refine State.compactStep_within qjobs qjrnl ?_
    refine State.programmed_within qchain qevu qsent qsess qmail qjobs qdomain qfurlongs qboot qkeys c25 c26 c27 c19 c20 c28 c29 c30 c31 c32 c33 c34 c35 c36 c37 c38 c39 c40 c41 c13 c17 c14 c16 c21 c22 c23 c24 c42 ?_
    exact k10

theorem State.workDone_within {b : Bounds} {p0 p1 p2 p3 p4 p5} (qsent : b.parts .sent) (qevu : b.parts .evu) (qsess : b.parts .sess) (qmail : b.parts .mail) (qjobs : b.parts .jobs) (qfmem : b.parts .fmem) (qfabric : b.parts .fabric) (qconv : b.parts .conv) (qfresh : b.parts .fresh) (qboot : b.parts .boot) (qkeys : b.parts .keys) (c11 : b.regs (O1B.JOB_ENDED p1)) (c12 : b.regs (O1B.JOB_STATUS p1)) (c13 : b.regs (O1B.JOB_RESULT p1)) (c14 : b.regs (O1B.JOB_PROGRESS p1)) (c15 : b.regs O1B.JOBS_QUEUED) (c16 : b.regs O1B.JOBS_RUNNING) (c17 : ∀ (w0 : ℕ), b.regs (O1C.SESS_QUEUE w0)) (c18 : b.regs O1C.FILULO_FLAGS) (c19 : ∀ (w0 : ℕ), b.regs (O1B.JOB_STARTED w0)) (c20 : ∀ (w0 : ℕ), b.regs (O1B.JOB_STATE w0)) (c21 : ∀ (w0 : ℕ), ∀ k ∈ eventRegs w0, b.regs k) (c22 : ∀ (w0 : ℕ), b.regs (O05.STACK_FLAGS w0)) (c23 : ∀ (w0 : ℕ), b.regs (O05.LAST_ERROR_PIN w0)) (c24 : ∀ (w0 : ℕ), b.regs (O05.LAST_ERROR_ADDR w0)) (c25 : ∀ (w0 : ℕ), b.regs (O05.CE_COUNT w0)) (c26 : ∀ (w0 : ℕ), b.regs (O05.PIN_CE w0)) (c27 : b.regs (O05.CLIP_LOADED (instOf p2.obj))) (c28 : b.regs (O05.CLIP_STATE (instOf p2.obj))) (c29 : b.regs (O09.LUT_CRC (instOf p2.obj))) (c30 : b.regs (O09.LUT_STATE (instOf p2.obj))) (c31 : b.regs O18.FW_PHASE) (c32 : b.regs O19.MIGRATE_STATE) (c33 : b.regs O18.TRIAL_STATE) (c34 : b.regs O18.TRIAL_TRIES) (c35 : b.regs O19.KS_FLAGS) (c36 : b.regs O19.PREVIOUS_ROOT_ID) (hp0 : Within b p0) : Within b (State.workDone p0 p1 p2 p3 p4 p5) := by
  unfold State.workDone
  extract_lets -merge -useContext -underBinder x1 x2 x3 x4 x5
  split
  · refine ite_elim (P := Within b) ?_ ?_
    · refine ite_elim (P := Within b) ?_ ?_
      · exact hp0
      · refine State.endJob_within qsent qevu qsess qmail qjobs c11 c12 c13 c14 c15 c16 c17 c18 c19 c20 c21 ?_
        exact hp0
    · refine ite_elim (P := Within b) ?_ ?_
      · exact hp0
      · refine State.setJob_within qjobs ?_
        exact hp0
  · extract_lets -merge -useContext -underBinder x6
    have hx6 : Within b x6 := by
      unfold x6
      refine State.testRead_within qevu qfmem c22 c23 c24 c25 c26 (c21 _) (c21 _) ?_
      exact hp0
    try clear_value x6
    refine ite_elim (P := Within b) ?_ ?_
    · exact hp0
    · refine ite_elim (P := Within b) ?_ ?_
      · refine State.endJob_within qsent qevu qsess qmail qjobs c11 c12 c13 c14 c15 c16 c17 c18 c19 c20 c21 ?_
        refine State.testEnds_within qfmem ?_
        exact hx6
      · refine ite_elim (P := Within b) ?_ ?_
        · refine ite_elim (P := Within b) ?_ ?_
          · refine State.endJob_within qsent qevu qsess qmail qjobs c11 c12 c13 c14 c15 c16 c17 c18 c19 c20 c21 ?_
            refine State.clipJobEnd_within qfabric qfmem c27 c28 ?_
            exact hp0
          · exact hp0
        · refine ite_elim (P := Within b) ?_ ?_
          · exact hp0
          · refine State.endJob_within qsent qevu qsess qmail qjobs c11 c12 c13 c14 c15 c16 c17 c18 c19 c20 c21 ?_
            refine State.clipJobEnd_within qfabric qfmem c27 c28 ?_
            exact hp0
  · extract_lets -merge -useContext -underBinder x7
    have hx7 : Within1 b x7 := by
      unfold x7
      refine State.lutLoaded_within qevu qconv (c21 _) c29 (c21 _) ?_
      exact hp0
    try clear_value x7
    refine ite_elim (P := Within b) ?_ ?_
    · exact hp0
    · refine State.endJob_within qsent qevu qsess qmail qjobs c11 c12 c13 c14 c15 c16 c17 c18 c19 c20 c21 ?_
      refine State.lutJobEnd_within c30 ?_
      change Within1 b _
      exact hx7
  · refine ite_elim (P := Within b) ?_ ?_
    · refine ite_elim (P := Within b) ?_ ?_
      · refine State.fwJobEnd_within qfresh qsent qevu qsess qmail qjobs qboot qkeys c31 c11 c12 c13 c14 c15 c16 c17 c18 c19 c20 c21 c32 c33 c34 ?_
        refine State.setJob_within qjobs ?_
        exact hp0
      · exact hp0
    · refine State.fwJobEnd_within qfresh qsent qevu qsess qmail qjobs qboot qkeys c31 c11 c12 c13 c14 c15 c16 c17 c18 c19 c20 c21 c32 c33 c34 ?_
      exact hp0
  · refine State.migrateJobEnd_within qfresh qsent qevu qsess qmail qjobs qkeys c35 c32 c36 c11 c12 c13 c14 c15 c16 c17 c18 c19 c20 c21 ?_
    exact hp0
  · exact hp0

theorem execJournalRecordProgrammed_within {b : Bounds} {p0} (qjrnl : b.parts .jrnl) (qsent : b.parts .sent) (qevu : b.parts .evu) (qsess : b.parts .sess) (qmail : b.parts .mail) (qjobs : b.parts .jobs) (qchain : b.parts .chain) (qdomain : b.parts .domain) (qfurlongs : b.parts .furlongs) (qboot : b.parts .boot) (qkeys : b.parts .keys) (c11 : b.regs O1C.JOURNAL_JSEQ) (c12 : b.regs O1C.JOURNAL_USED) (c13 : ∀ (w0 : ℕ), b.regs (O1B.JOB_ENDED w0)) (c14 : ∀ (w0 : ℕ), b.regs (O1B.JOB_RESULT w0)) (c15 : ∀ (w0 : ℕ), b.regs (O1B.JOB_OWNER w0)) (c16 : ∀ (w0 : ℕ), b.regs (O1B.JOB_PROGRESS w0)) (c17 : ∀ (w0 : ℕ), b.regs (O1B.JOB_STATUS w0)) (c18 : ∀ (w0 : ℕ), b.regs (O1B.JOB_OBJECT w0)) (c19 : ∀ (w0 : ℕ), b.regs (O1C.SESS_QUEUE w0)) (c20 : b.regs O1C.FILULO_FLAGS) (c21 : b.regs O1B.JOBS_QUEUED) (c22 : b.regs O1B.JOBS_RUNNING) (c23 : ∀ (w0 : ℕ), b.regs (O1B.JOB_STARTED w0)) (c24 : ∀ (w0 : ℕ), b.regs (O1B.JOB_STATE w0)) (c25 : b.regs O01.SHADOW_STATE) (c26 : ∀ (w0 : ℕ), b.regs (O08.SALVO_LAST_STATUS w0)) (c27 : ∀ (w0 : ℕ), b.regs (O08.SALVO_LAST_TICK w0)) (c28 : b.regs O1C.TX_LAST) (c29 : ∀ (w0 : ℕ), b.regs (O14.CE_STATUS w0)) (c30 : ∀ (w0 : ℕ), b.regs (O14.LAST_ERROR w0)) (c31 : ∀ (w0 : ℕ), b.regs (O14.ACTION_ERRORS w0)) (c32 : b.regs O13.LAST_EPOCH) (c33 : b.regs O13.DOMAIN_STATE) (c34 : b.regs O13.DOMAIN_FLAGS) (c35 : ∀ (w0 : ℕ), b.regs (O13.MEMBER_LAST_EPOCH w0)) (c36 : ∀ (w0 : ℕ), b.regs (O12.CELLS_IO w0)) (c37 : ∀ (w0 : ℕ), b.regs (O1C.SESS_OPENED w0)) (c38 : ∀ (w0 : ℕ), b.regs (O1C.SESS_CRED w0)) (c39 : ∀ (w0 : ℕ), b.regs (O1C.SESS_ROLE w0)) (c40 : ∀ (w0 : ℕ), b.regs (O1C.SESS_STATE w0)) (c41 : b.regs O1C.SESSIONS_OPEN) (c42 : ∀ (w0 : ℕ), ∀ k ∈ eventRegs w0, b.regs k) (hp0 : Within b p0) : WithinOut b (execJournalRecordProgrammed p0) := by
  unfold execJournalRecordProgrammed
  refine live_within ?_ ?_
  · exact hp0
  · intro u1 hu2
    try beta_reduce
    refine ite_elim (P := Within b) ?_ ?_
    · refine State.programNext_within qjrnl qsent qevu qsess qmail qjobs qchain qdomain qfurlongs qboot qkeys c11 c12 c13 c14 c15 c16 c17 c18 c19 c20 c21 c22 c23 c24 c25 c26 c27 c28 c29 c30 c31 c32 c33 c34 c35 c36 c37 c38 c39 c40 c41 c42 ?_
      exact hu2
    · exact hu2

theorem execImmediateRecord_within {b : Bounds} {p0} (qjrnl : b.parts .jrnl) (hp0 : Within b p0) : WithinOut b (execImmediateRecord p0) := by
  unfold execImmediateRecord
  refine live_within ?_ ?_
  · exact hp0
  · intro u1 hu1
    try beta_reduce
    refine ite_elim (P := Within b) ?_ ?_
    · refine State.sealImmediate_within qjrnl ?_
      exact hu1
    · exact hu1

theorem execJobComplete_within {b : Bounds} {p0 p1 p2 p3 p4 p5} (qsent : b.parts .sent) (qevu : b.parts .evu) (qsess : b.parts .sess) (qmail : b.parts .mail) (qjobs : b.parts .jobs) (qfmem : b.parts .fmem) (qfabric : b.parts .fabric) (qconv : b.parts .conv) (qfresh : b.parts .fresh) (qboot : b.parts .boot) (qkeys : b.parts .keys) (c11 : b.regs (O1B.JOB_ENDED p0)) (c12 : b.regs (O1B.JOB_STATUS p0)) (c13 : b.regs (O1B.JOB_RESULT p0)) (c14 : b.regs (O1B.JOB_PROGRESS p0)) (c15 : b.regs O1B.JOBS_QUEUED) (c16 : b.regs O1B.JOBS_RUNNING) (c17 : ∀ (w0 : ℕ), b.regs (O1C.SESS_QUEUE w0)) (c18 : b.regs O1C.FILULO_FLAGS) (c19 : ∀ (w0 : ℕ), b.regs (O1B.JOB_STARTED w0)) (c20 : ∀ (w0 : ℕ), b.regs (O1B.JOB_STATE w0)) (c21 : ∀ (w0 : ℕ), ∀ k ∈ eventRegs w0, b.regs k) (c22 : ∀ (w0 : ℕ), b.regs (O05.STACK_FLAGS w0)) (c23 : ∀ (w0 : ℕ), b.regs (O05.LAST_ERROR_PIN w0)) (c24 : ∀ (w0 : ℕ), b.regs (O05.LAST_ERROR_ADDR w0)) (c25 : ∀ (w0 : ℕ), b.regs (O05.CE_COUNT w0)) (c26 : ∀ (w0 : ℕ), b.regs (O05.PIN_CE w0)) (c27 : ∀ (w0 : ℕ), b.regs (O05.CLIP_LOADED w0)) (c28 : ∀ (w0 : ℕ), b.regs (O05.CLIP_STATE w0)) (c29 : ∀ (w0 : ℕ), b.regs (O09.LUT_CRC w0)) (c30 : ∀ (w0 : ℕ), b.regs (O09.LUT_STATE w0)) (c31 : b.regs O18.FW_PHASE) (c32 : b.regs O19.MIGRATE_STATE) (c33 : b.regs O18.TRIAL_STATE) (c34 : b.regs O18.TRIAL_TRIES) (c35 : b.regs O19.KS_FLAGS) (c36 : b.regs O19.PREVIOUS_ROOT_ID) (c37 : b.regs O00.DEV_FLAGS) (hp5 : Within b p5) : WithinOut b (execJobComplete p0 p1 p2 p3 p4 p5) := by
  unfold execJobComplete
  refine live_within ?_ ?_
  · exact hp5
  · intro u1 hu2
    try beta_reduce
    split
    · exact hu2
    · refine ite_elim (P := Within b) ?_ ?_
      · exact hu2
      · refine ite_elim (P := Within b) ?_ ?_
        · refine State.workDone_within qsent qevu qsess qmail qjobs qfmem qfabric qconv qfresh qboot qkeys c11 c12 c13 c14 c15 c16 c17 c18 c19 c20 c21 c22 c23 c24 c25 c26 (c27 _) (c28 _) (c29 _) (c30 _) c31 c32 c33 c34 c35 c36 ?_
          exact hu2
        · refine State.stopJob_within qsent qevu qsess qmail qjobs qfabric qfmem qboot c11 c12 c13 c14 c15 c16 c17 c18 c19 c20 c21 c37 c27 c28 c30 c31 ?_
          exact hu2

theorem execJobAutoRelease_within {b : Bounds} {p0 p1} (qjobs : b.parts .jobs) (c1 : b.regs (O1B.JOB_RESULT p0)) (c2 : b.regs (O1B.JOB_OWNER p0)) (c3 : b.regs (O1B.JOB_ENDED p0)) (c4 : b.regs (O1B.JOB_STARTED p0)) (c5 : b.regs (O1B.JOB_PROGRESS p0)) (c6 : b.regs (O1B.JOB_STATUS p0)) (c7 : b.regs (O1B.JOB_OBJECT p0)) (c8 : b.regs (O1B.JOB_STATE p0)) (hp1 : Within b p1) : WithinOut b (execJobAutoRelease p0 p1) := by
  unfold execJobAutoRelease
  refine live_within ?_ ?_
  · exact hp1
  · intro u1 hu1
    try beta_reduce
    split
    · refine ite_elim (P := Within b) ?_ ?_
      · refine State.freeJob_within qjobs c1 c2 c3 c4 c5 c6 c7 c8 ?_
        exact hu1
      · exact hu1
    · exact hu1

end Sys2Proof.Machine
end

