-- ==== Sys2Proof/Laws/WithinCueActions.lean ====
section
/-! SUPPORT. What each operation of Machine/CueActions.lean may change at most (Laws/Within.lean). -/

set_option maxRecDepth 8000

namespace Sys2Proof.Machine

theorem State.cueWrite_within {b : Bounds} {p0 p1 p2} (hp : ∀ p, p ∉ ([.pending, .member, .straps, .sample, .locks, .fabric, .conv, .bus, .hot, .measured, .ram] : List Part) → b.parts p) (hk : ∀ k, b.regs k) (hp1 : Within1 b p1) : Within1 b (State.cueWrite p0 p1 p2) := by
  unfold State.cueWrite
  extract_lets -merge -useContext -underBinder x1 x2 x3
  have hx1 : Within b x1 := by
    unfold x1
    change Within1 b _
    exact hp1
  try clear_value x1
  split
  · refine within1_mk ?_
    refine State.actionFailed_within (hp .evu (by decide)) (fun k _ => hk k) (hk _) (hk _) (hk _) ?_
    exact hx1
  · extract_lets -merge -useContext -underBinder x4
    have hx4 : WithinD b x4 := by
      unfold x4
      refine State.writeObj_within (subU hp (by decide)) hk ?_
      exact hx1
    try clear_value x4
    refine ite_elim (P := Within1 b) ?_ ?_
    · refine within1_mk ?_
      exact hx1
    · refine within1_mk ?_
      refine State.actionFailed_within (hp .evu (by decide)) (fun k _ => hk k) (hk _) (hk _) (hk _) ?_
      change WithinD b _
      exact hx4

theorem State.serveWrites_within {b : Bounds} {p0 p1 p2} (hp : ∀ p, p ∉ ([.pending, .member, .straps, .sample, .locks, .fabric, .conv, .bus, .hot, .measured, .ram] : List Part) → b.parts p) (hk : ∀ k, b.regs k) (hp0 : Within b p0) : Within b (State.serveWrites p0 p1 p2) := by
  unfold State.serveWrites
  split
  · exact hp0
  · extract_lets -merge -useContext -underBinder x1 x2 x3
    have hx2 : Within b x2 := by
      unfold x2
      refine State.onCues_within (hp .cues (by decide)) ?_
      exact hp0
    try clear_value x2
    have hx3 : Within1 b x3 := by
      unfold x3
      refine foldl_elim (P := Within1 b) ?_ ?_
      · refine within1_mk ?_
        exact hx2
      · intro u4 u5 hu6
        try beta_reduce
        refine State.cueWrite_within (subU hp (by decide)) hk ?_
        exact hu6
    try clear_value x3
    split
    · change Within1 b _
      exact hx3
    · extract_lets -merge -useContext -underBinder x7
      have hx7 : Within1 b x7 := by
        unfold x7
        refine State.commitTx_within (hp .evu (by decide)) (hp .fmem (by decide)) (hp .chain (by decide)) (hp .jrnl (by decide)) hk ?_
        change Within1 b _
        exact hx3
      try clear_value x7
      refine State.actionFailed_within (hp .evu (by decide)) (fun _ _ => hk _) (hk _) (hk _) (hk _) ?_
      change Within1 b _
      exact hx7

theorem State.failWrites_within {b : Bounds} {p0 p1} (qevu : b.parts .evu) (qcues : b.parts .cues) (c2 : ∀ k ∈ eventRegs 321, b.regs k) (c3 : b.regs (O14.CE_STATUS p1)) (c4 : b.regs (O14.LAST_ERROR p1)) (c5 : b.regs (O14.ACTION_ERRORS p1)) (hp0 : Within b p0) : Within b (State.failWrites p0 p1) := by
  unfold State.failWrites
  extract_lets -merge -useContext -underBinder x1
  have hx1 : Within b x1 := by
    unfold x1
    refine State.onCues_within qcues ?_
    exact hp0
  try clear_value x1
  refine State.forEach_within ?_ ?_
  · exact hx1
  · intro u2 u3 hu2
    try beta_reduce
    refine State.actionFailed_within qevu c2 c3 c4 c5 ?_
    exact hu2

theorem State.serveSalvo_within {b : Bounds} {p0 p1 p2 p3} (qcues : b.parts .cues) (qevu : b.parts .evu) (qfmem : b.parts .fmem) (qchain : b.parts .chain) (qjrnl : b.parts .jrnl) (hk : ∀ k, b.regs k) (hp0 : Within b p0) : Within b (State.serveSalvo p0 p1 p2 p3) := by
  unfold State.serveSalvo
  split
  · exact hp0
  · extract_lets -merge -useContext -underBinder x1 x2 x3
    have hx1 : Within b x1 := by
      unfold x1
      refine State.onCues_within qcues ?_
      exact hp0
    try clear_value x1
    have hx3 : Within1 b x3 := by
      unfold x3
      refine State.fireSalvo_within qevu qfmem qchain qjrnl hk ?_
      exact hx1
    try clear_value x3
    refine State.actionFailed_within qevu (fun _ _ => hk _) (hk _) (hk _) (hk _) ?_
    change Within1 b _
    exact hx3

theorem execCueActionSalvo_within {b : Bounds} {p0 p1 p2 p3} (qcues : b.parts .cues) (qevu : b.parts .evu) (qfmem : b.parts .fmem) (qchain : b.parts .chain) (qjrnl : b.parts .jrnl) (hk : ∀ k, b.regs k) (hp3 : Within b p3) : WithinOut b (execCueActionSalvo p0 p1 p2 p3) := by
  unfold execCueActionSalvo
  refine onInst_within ?_ ?_
  · exact hp3
  · intro u1 hu2
    try beta_reduce
    refine ite_elim (P := Within b) ?_ ?_
    · refine State.serveSalvo_within qcues qevu qfmem qchain qjrnl hk ?_
      exact hu2
    · exact hu2

theorem execCueActionWrite_within {b : Bounds} {p0 p1 p2} (hp : ∀ p, p ∉ ([.pending, .member, .straps, .sample, .locks, .fabric, .conv, .bus, .hot, .measured, .ram] : List Part) → b.parts p) (hk : ∀ k, b.regs k) (hp2 : Within b p2) : WithinOut b (execCueActionWrite p0 p1 p2) := by
  unfold execCueActionWrite
  refine onInst_within ?_ ?_
  · exact hp2
  · intro u1 hu1
    try beta_reduce
    refine ite_elim (P := Within b) ?_ ?_
    · exact hu1
    · refine ite_elim (P := Within b) ?_ ?_
      · refine State.failWrites_within (hp .evu (by decide)) (hp .cues (by decide)) (fun k _ => hk k) (hk _) (hk _) (hk _) ?_
        exact hu1
      · refine State.serveWrites_within (subU hp (by decide)) hk ?_
        exact hu1

end Sys2Proof.Machine
end

