-- ==== Sys2Proof/Laws/WithinEndpoint.lean ====
section
/-! SUPPORT. What each operation of Machine/Endpoint.lean may change at most (Laws/Within.lean). -/

set_option maxRecDepth 8000

namespace Sys2Proof.Machine

theorem State.mailWrite_within {b : Bounds} {p0 p1 p2 p3} (hp : ∀ p, p ∉ ([.pending, .member, .straps, .sample, .conv, .hot, .measured] : List Part) → b.parts p) (hk : ∀ k, b.regs k) (hp0 : Within b p0) : Within b (State.mailWrite p0 p1 p2 p3) := by
  unfold State.mailWrite
  extract_lets -merge -useContext -underBinder x1 x2 x3 x4
  have hx2 : Within b x2 := by
    unfold x2
    exact State.onBus_ram (hp .bus (by decide)) (hp .ram (by decide)) hp0 fun x h => BusSt.ok_iff.mpr
      ⟨(BusSt.ok_iff.mp h).1, Memory.wf_writes (BusSt.ok_iff.mp h).2.1, (BusSt.ok_iff.mp h).2.2⟩
  try clear_value x2
  have hx3 : Within b x3 := by
    unfold x3
    split
    · extract_lets -merge -useContext -underBinder x5
      refine ite_elim (P := Within b) ?_ ?_
      · refine Within.f_mail (s := x2) (hp .mail (by decide)) ?_
        exact hx2
      · exact hx2
    · exact hx2
  try clear_value x3
  have hx4 : Within b x4 := by
    unfold x4
    split
    · refine State.d2hHead_within (hp .sent (by decide)) (hp .mail (by decide)) ?_
      exact hx3
    · exact hx3
  try clear_value x4
  split
  · refine State.h2dTail_within (subU hp (by decide)) hk ?_
    exact hx4
  · exact hx4

theorem State.moveHost_within {b : Bounds} {p0 p1 p2 p3 p4 p5} (hp : ∀ p, p ∉ ([.pending, .member, .straps, .sample, .conv, .hot, .measured] : List Part) → b.parts p) (hk : ∀ k, b.regs k) (hp4 : Within b p4) : Within2 b (State.moveHost p0 p1 p2 p3 p4 p5) := by
  unfold State.moveHost
  refine ite_elim (P := Within2 b) ?_ ?_
  · refine within2_mk ?_
    exact hp4
  · refine within2_mk ?_
    refine State.mailWrite_within (subU hp (by decide)) hk ?_
    exact hp4

theorem State.hostRequest_within {b : Bounds} {p0 p1 p2 p3 p4 p5 p6 p7} (hp : ∀ p, p ∉ ([.pending, .member, .straps, .sample, .conv, .hot, .measured] : List Part) → b.parts p) (hk : ∀ k, b.regs k) (hp0 : Within b p0) : Within b (State.hostRequest p0 p1 p2 p3 p4 p5 p6 p7) := by
  unfold State.hostRequest
  extract_lets -merge -useContext -underBinder x1 x2 x3 x4
  refine State.hostDone_within (hp .bus (by decide)) ?_
  refine State.completeAs_within (hp .sent (by decide)) (hp .bus (by decide)) (hp .evu (by decide)) (hp .cues (by decide)) (hp .fmem (by decide)) (hp .bytes (by decide)) (hp .fresh (by decide)) (hp .ram (by decide)) (fun _ => hk _) (fun _ => hk _) (fun _ => hk _) (fun _ => hk _) (hk _) (hk _) (hk _) (hk _) (hk _) (hk _) (hk _) (hk _) (fun _ => hk _) (fun _ _ => hk _) (fun _ _ => hk _) (hk _) (hk _) (fun _ _ => hk _) (hk _) (hk _) (hk _) (fun _ _ => hk _) (fun _ => hk _) (fun _ => hk _) (fun _ => hk _) (fun _ => hk _) (fun _ => hk _) (fun _ _ => hk _) (fun _ _ => hk _) ?_ ?_
  · refine State.busGrant_within (hp .evu (by decide)) (hp .bus (by decide)) (fun _ => hk _) (fun _ => hk _) (fun _ => hk _) (fun _ => hk _) (fun _ _ => hk _) (hk _) (fun _ => hk _) ?_
    exact hp0
  · intro u5 u6 hu7
    try beta_reduce
    refine State.moveHost_within (subU hp (by decide)) hk ?_
    exact hu7

theorem State.recoveryRequest_within {b : Bounds} {p0 p1 p2 p3 p4} (qsent : b.parts .sent) (qboot : b.parts .boot) (qbus : b.parts .bus) (qram : b.parts .ram) (hp0 : Within b p0) : Within b (State.recoveryRequest p0 p1 p2 p3 p4) := by
  unfold State.recoveryRequest
  extract_lets -merge -useContext -underBinder x1 x2 x3 x4
  have hx3 : Within b x3 := by
    unfold x3
    exact State.onBus_ram qbus qram hp0 fun x h => BusSt.ok_iff.mpr ⟨Memory.wf_writes (BusSt.ok_iff.mp h).1, (BusSt.ok_iff.mp h).2⟩
  try clear_value x3
  refine ite_elim (P := Within b) ?_ ?_
  · split
    · refine ite_elim (P := Within b) ?_ ?_
      · refine State.onBoot_within qboot ?_
        exact hx3
      · exact hx3
    · exact hx3
  · refine State.emit_within qsent ?_
    exact hp0

theorem State.msixRequest_within {b : Bounds} {p0 p1 p2 p3 p4} (qsent : b.parts .sent) (qbus : b.parts .bus) (qram : b.parts .ram) (hp0 : Within b p0) : Within b (State.msixRequest p0 p1 p2 p3 p4) := by
  unfold State.msixRequest
  refine ite_elim (P := Within b) ?_ ?_
  · refine State.hostDone_within qbus ?_
    refine within1_mk ?_
    refine State.emit_within qsent ?_
    exact hp0
  · refine ite_elim (P := Within b) ?_ ?_
    · exact State.onBus_ram qbus qram hp0 fun x h => BusSt.ok_iff.mpr
        ⟨(BusSt.ok_iff.mp h).1, (BusSt.ok_iff.mp h).2.1, Memory.wf_writes (BusSt.ok_iff.mp h).2.2⟩
    · refine State.emit_within qsent ?_
      exact hp0

theorem execPcieRequest_within {b : Bounds} {p0 p1 p2 p3 p4 p5 p6 p7} (hp : ∀ p, p ∉ ([.pending, .member, .straps, .sample, .conv, .hot, .measured] : List Part) → b.parts p) (hk : ∀ k, b.regs k) (hp7 : Within b p7) : WithinOut b (execPcieRequest p0 p1 p2 p3 p4 p5 p6 p7) := by
  unfold execPcieRequest
  refine live_within ?_ ?_
  · exact hp7
  · intro u1 hu1
    try beta_reduce
    extract_lets -merge -useContext -underBinder x2
    refine ite_elim (P := Within b) ?_ ?_
    · exact hu1
    · refine ite_elim (P := Within b) ?_ ?_
      · refine ite_elim (P := Within b) ?_ ?_
        · refine State.recoveryRequest_within (hp .sent (by decide)) (hp .boot (by decide)) (hp .bus (by decide)) (hp .ram (by decide)) ?_
          exact hu1
        · exact hu1
      · refine ite_elim (P := Within b) ?_ ?_
        · exact hu1
        · refine ite_elim (P := Within b) ?_ ?_
          · refine State.msixRequest_within (hp .sent (by decide)) (hp .bus (by decide)) (hp .ram (by decide)) ?_
            exact hu1
          · refine State.hostRequest_within (subU hp (by decide)) hk ?_
            exact hu1

end Sys2Proof.Machine
end

