-- ==== Sys2Proof/Laws/WithinLifecycle.lean ====
section
/-! SUPPORT. What each operation of Machine/Lifecycle.lean may change at most (Laws/Within.lean). -/

set_option maxRecDepth 8000

namespace Sys2Proof.Machine

theorem State.clipBack_within {b : Bounds} {p0 p1} (qfmem : b.parts .fmem) (c1 : b.regs O05.GENERAL_FREE) (c2 : ∀ (w0 : ℕ), b.regs (O05.LARGEST_FREE w0)) (c3 : ∀ (w0 : ℕ), b.regs (O05.FREE_BYTES w0)) (c4 : b.regs (O05.CLIP_DAMAGED p1)) (c5 : b.regs (O05.CLIP_LOADED p1)) (c6 : b.regs (O05.CLIP_BASE p1)) (c7 : b.regs (O05.CLIP_BYTES p1)) (c8 : b.regs (O05.CLIP_STATE p1)) (hp0 : Within b p0) : Within b (State.clipBack p0 p1) := by
  unfold State.clipBack
  split
  · rename_i y1 y2 e3
    have k4 := transport (P := WithinS b) e3 (by
      refine State.placeClip_within qfmem c1 c2 c3 c4 c5 c6 c7 c8 ?_
      exact hp0
      )
    exact (k4 _ rfl)
  · rename_i y5 e6
    have k7 := transport (P := WithinS b) e6 (by
      refine State.placeClip_within qfmem c1 c2 c3 c4 c5 c6 c7 c8 ?_
      exact hp0
      )
    exact hp0

theorem State.setReplayed_within {b : Bounds} {p0 p1} (qnet : b.parts .net) (qcues : b.parts .cues) (qfmem : b.parts .fmem) (hk : ∀ k, b.regs k) (hp0 : Within b p0) : Within b (State.setReplayed p0 p1) := by
  unfold State.setReplayed
  extract_lets -merge -useContext -underBinder x1
  have hx1 : Within b x1 := by
    unfold x1
    refine State.setTables_within qnet qcues (fun _ => hk _) ?_
    refine State.setItems_within hk ?_
    exact hp0
  try clear_value x1
  refine State.forEach_within ?_ ?_
  · exact hx1
  · intro u2 u3 hu4
    try beta_reduce
    refine State.clipBack_within qfmem (hk _) (fun _ => hk _) (fun _ => hk _) (hk _) (hk _) (hk _) (hk _) (hk _) ?_
    exact hu4

theorem State.tellDropped_within {b : Bounds} {p0 p1 p2} (qevu : b.parts .evu) (c1 : ∀ k ∈ eventRegs 1, b.regs k) (c2 : b.regs O00.DEV_FLAGS) (hp0 : Within b p0) : Within b (State.tellDropped p0 p1 p2) := by
  unfold State.tellDropped
  refine ite_elim (P := Within b) ?_ ?_
  · exact hp0
  · refine State.raise_within qevu c1 ?_
    refine State.flag_within c2 ?_
    exact hp0

theorem State.compactReplayed_within {b : Bounds} {p0 p1} (qevu : b.parts .evu) (qjrnl : b.parts .jrnl) (c2 : ∀ k ∈ eventRegs 453, b.regs k) (hp0 : Within b p0) : Within b (State.compactReplayed p0 p1) := by
  unfold State.compactReplayed
  extract_lets -merge -useContext -underBinder x1 x2 x3 x4
  have hx3 : Within b x3 := by
    unfold x3
    refine State.setHalf_within qjrnl ?_
    refine State.setHalf_within qjrnl ?_
    exact hp0
  try clear_value x3
  refine State.raise_within qevu c2 ?_
  refine Within.f_jrnl (s := x3) qjrnl ?_
  exact hx3

theorem State.replayJournal_within {b : Bounds} {p0 p1} (qjrnl : b.parts .jrnl) (qevu : b.parts .evu) (qnet : b.parts .net) (qcues : b.parts .cues) (qfmem : b.parts .fmem) (hk : ∀ k, b.regs k) (hp0 : Within b p0) : Within b (State.replayJournal p0 p1) := by
  unfold State.replayJournal
  extract_lets -merge -useContext -underBinder x1 x2 x3 x4 x5 x6 x7 x8 x9 x10
  have hx4 : Within b x4 := by
    unfold x4
    refine State.setN_within (hk _) ?_
    exact hp0
  try clear_value x4
  have hx8 : Within b x8 := by
    unfold x8
    refine Within.f_jrnl (s := x4) qjrnl ?_
    exact hx4
  try clear_value x8
  have hx9 : Within b x9 := by
    unfold x9
    refine State.tellDropped_within qevu (fun _ _ => hk _) (hk _) ?_
    refine State.setReplayed_within qnet qcues qfmem hk ?_
    exact hx8
  try clear_value x9
  have hx10 : Within b x10 := by
    unfold x10
    refine State.forEach_within ?_ ?_
    · exact hx9
    · intro u11 u12 hu13
      try beta_reduce
      refine State.raise_within qevu (fun _ _ => hk _) ?_
      exact hu13
  try clear_value x10
  split
  · refine State.countJournal_within (hk _) (hk _) ?_
    exact hx10
  · refine State.countJournal_within (hk _) (hk _) ?_
    refine State.compactReplayed_within qevu qjrnl (fun _ _ => hk _) ?_
    refine State.raise_within qevu (fun _ _ => hk _) ?_
    refine State.flag_within (hk _) ?_
    exact hx10

theorem State.startDraws_within {b : Bounds} {p0} (qfresh : b.parts .fresh) (qkeys : b.parts .keys) (qfmem : b.parts .fmem) (qnet : b.parts .net) (qdomain : b.parts .domain) (qboot : b.parts .boot) (hp0 : Within b p0) : Within b (State.startDraws p0) := by
  unfold State.startDraws
  extract_lets -merge -useContext -underBinder x1 x2 x3 x4 x5 x6 x7 x8 x9 x10 x11
  have hx1 : Within2 b x1 := by
    unfold x1
    refine State.drbg_within qfresh qkeys ?_
    exact hp0
  try clear_value x1
  have hx2 : Within2 b x2 := by
    unfold x2
    refine State.drbg_within qfresh qkeys ?_
    change Within2 b _
    exact hx1
  try clear_value x2
  have hx3 : Within2 b x3 := by
    unfold x3
    refine State.drbg_within qfresh qkeys ?_
    change Within2 b _
    exact hx2
  try clear_value x3
  have hx5 : Within b x5 := by
    unfold x5
    change Within2 b _
    exact hx3
  try clear_value x5
  have hx7 : Within b x7 := by
    unfold x7
    refine Within.f_fmem (s := x5) qfmem ?_ (by exact fun h => h) (by rfl)
    exact hx5
  try clear_value x7
  have hx9 : Within b x9 := by
    unfold x9
    refine Within.f_net (s := x7) qnet ?_
    exact hx7
  try clear_value x9
  have hx10 : Within b x10 := by
    unfold x10
    refine State.onDomain_within qdomain ?_
    exact hx9
  try clear_value x10
  have hx11 : Within2 b x11 := by
    unfold x11
    refine State.drbg_within qfresh qkeys ?_
    exact hx10
  try clear_value x11
  refine ite_elim (P := Within b) ?_ ?_
  · exact hx10
  · refine State.onBoot_within qboot ?_
    change Within2 b _
    exact hx11

theorem State.raiseLeft_within {b : Bounds} {p0} (qevu : b.parts .evu) (qboot : b.parts .boot) (c2 : ∀ w0, ∀ k ∈ eventRegs w0, b.regs k) (c3 : b.regs O18.BOOT_FLAGS) (hp0 : Within b p0) : Within b (State.raiseLeft p0) := by
  unfold State.raiseLeft
  extract_lets -merge -useContext -underBinder x1 x2
  have hx1 : Within b x1 := by
    unfold x1
    refine State.raise_within qevu (c2 _) ?_
    exact hp0
  try clear_value x1
  have hx2 : Within b x2 := by
    unfold x2
    refine State.forEach_within ?_ ?_
    · exact hx1
    · intro u3 u4 hu3
      try beta_reduce
      refine State.raise_within qevu (c2 _) ?_
      refine State.flag_within c3 ?_
      exact hu3
  try clear_value x2
  refine State.onBoot_within qboot ?_
  exact hx2

theorem State.bushelBist_within {b : Bounds} {p0 p1} (qevu : b.parts .evu) (c1 : ∀ w0, b.regs (O09.BUSHEL_PATHS w0)) (c2 : ∀ w0, b.regs (O09.PECK_MASK w0)) (c3 : ∀ w0, b.regs (O09.BUSHEL_STATE w0)) (c4 : b.regs O09.BUSHELS_IN_SERVICE) (c5 : b.regs O09.POOL_PECKS) (c6 : b.regs O09.PECKS_COMMITTED) (c7 : b.regs O09.PECKS_FREE) (c8 : b.regs O09.PATHS_SHED) (c9 : b.regs O09.PATHS_RUNNING) (c10 : ∀ k ∈ eventRegs 150, b.regs k) (hp0 : Within b p0) : Within b (State.bushelBist p0 p1) := by
  unfold State.bushelBist
  refine State.poolCount_within c1 c2 c3 c4 c5 c6 c7 c8 c9 ?_
  refine State.forEach_within ?_ ?_
  · exact hp0
  · intro u1 u2 hu1
    try beta_reduce
    refine State.raise_within qevu c10 ?_
    refine State.setN_within (c3 _) ?_
    exact hu1

theorem State.restoreLuts_within {b : Bounds} {p0} (c0 : ∀ w0, b.regs (O09.LUT_CRC w0)) (c1 : ∀ w0, b.regs (O09.LUT_STATE w0)) (hp0 : Within b p0) : Within b (State.restoreLuts p0) := by
  unfold State.restoreLuts
  refine State.forEach_within ?_ ?_
  · exact hp0
  · intro u1 u2 hu1
    try beta_reduce
    refine State.setN_within (c0 _) ?_
    refine State.setN_within (c1 _) ?_
    exact hu1

theorem State.setRegions_within {b : Bounds} {p0 p1} (qbus : b.parts .bus) (c1 : b.regs O17.REGIONS_LOCKED) (hp0 : Within b p0) : Within b (State.setRegions p0 p1) := by
  unfold State.setRegions
  extract_lets -merge -useContext -underBinder x1
  refine State.setB_within c1 ?_
  refine Within.f_bus (s := p0) qbus ?_ (by exact fun h => h) (by rfl)
  exact hp0

theorem State.mailUp_within {b : Bounds} {p0} (qmail : b.parts .mail) (hp0 : Within b p0) : Within b (State.mailUp p0) := by
  unfold State.mailUp
  extract_lets -merge -useContext -underBinder x1
  refine Within.f_mail (s := p0) qmail ?_
  exact hp0

theorem State.handOver_within {b : Bounds} {p0 p1 p2 p3} (qboot : b.parts .boot) (qjrnl : b.parts .jrnl) (qevu : b.parts .evu) (qnet : b.parts .net) (qcues : b.parts .cues) (qfmem : b.parts .fmem) (qfresh : b.parts .fresh) (qkeys : b.parts .keys) (qdomain : b.parts .domain) (qbus : b.parts .bus) (qmail : b.parts .mail) (qphase : b.parts .phase) (hk : ∀ k, b.regs k) (hp0 : Within b p0) : Within b (State.handOver p0 p1 p2 p3) := by
  unfold State.handOver
  extract_lets -merge -useContext -underBinder x1 x2
  have hx1 : Within b x1 := by
    unfold x1
    refine State.onBoot_within qboot ?_
    exact hp0
  try clear_value x1
  have hx2 : Within b x2 := by
    unfold x2
    refine State.restoreLuts_within (fun _ => hk _) (fun _ => hk _) ?_
    refine State.replayJournal_within qjrnl qevu qnet qcues qfmem hk ?_
    refine State.bushelBist_within qevu (fun _ => hk _) (fun _ => hk _) (fun _ => hk _) (hk _) (hk _) (hk _) (hk _) (hk _) (hk _) (fun _ _ => hk _) ?_
    refine State.startDraws_within qfresh qkeys qfmem qnet qdomain qboot ?_
    refine State.setRegions_within qbus (hk _) ?_
    refine State.raiseLeft_within qevu qboot (fun _ _ _ => hk _) (hk _) ?_
    exact hx1
  try clear_value x2
  refine ite_elim (P := Within b) ?_ ?_
  · refine State.raise_within qevu (fun _ _ => hk _) ?_
    refine State.flag_within (hk _) ?_
    refine State.mailUp_within qmail ?_
    refine Within.f_phase (s := x2) qphase ?_
    exact hx2
  · refine Within.f_phase (s := x2) qphase ?_
    exact hx2

theorem State.placeStart_within {b : Bounds} {p0 p1} (qevu : b.parts .evu) (qfmem : b.parts .fmem) (qchain : b.parts .chain) (qfabric : b.parts .fabric) (hk : ∀ k, b.regs k) (hp0 : Within b p0) : Within b (State.placeStart p0 p1) := by
  unfold State.placeStart
  extract_lets -merge -useContext -underBinder x1 x2 x3
  have hx2 : Within b x2 := by
    unfold x2
    refine State.forEach_within ?_ ?_
    · exact hp0
    · intro u4 u5 hu4
      try beta_reduce
      refine State.clearObj_within (hk _) ?_
      exact hu4
  try clear_value x2
  split
  · refine State.refused_within qevu (hk _) (fun k _ => hk k) (fun k _ => hk k) (hk _) ?_
    exact hp0
  · rename_i y9 y10 e11
    have k12 := transport (P := Within2E b) e11 (by
      refine State.admitTx_within qfmem (hk _) (fun _ => hk _) (fun _ => hk _) ?_
      exact hx2
      )
    extract_lets -merge -useContext -underBinder x13
    have hx13 : Within b x13 := by
      unfold x13
      refine State.countFree_within (hk _) (fun _ => hk _) (fun _ => hk _) ?_
      refine State.placeStreams_within qchain qfabric ?_
      exact Within.f_fmem_of qfmem (k12 _ rfl) hp0
    try clear_value x13
    refine State.forEach_within ?_ ?_
    · exact hx13
    · intro u14 u15 hu14
      try beta_reduce
      refine State.setN_within (hk _) ?_
      exact hu14

theorem State.configure_within {b : Bounds} {p0 p1} (qtiming : b.parts .timing) (qclocks : b.parts .clocks) (qevu : b.parts .evu) (qlanes : b.parts .lanes) (qfabric : b.parts .fabric) (qinputs : b.parts .inputs) (qdests : b.parts .dests) (qaudio : b.parts .audio) (qfresh : b.parts .fresh) (qamx : b.parts .amx) (qnet : b.parts .net) (qsent : b.parts .sent) (qsess : b.parts .sess) (qmail : b.parts .mail) (qjobs : b.parts .jobs) (qfurlongs : b.parts .furlongs) (qdomain : b.parts .domain) (qcues : b.parts .cues) (qfmem : b.parts .fmem) (qchain : b.parts .chain) (hk : ∀ k, b.regs k) (hp0 : Within b p0) : Within b (State.configure p0 p1) := by
  unfold State.configure
  extract_lets -merge -useContext -underBinder x1
  have hx1 : Within b x1 := by
    unfold x1
    refine State.forEach_within ?_ ?_
    · exact hp0
    · intro u2 u3 hu4
      try beta_reduce
      refine State.unitApplied_within qtiming qclocks qevu qlanes qfabric qinputs qdests qaudio qfresh qamx qnet qsent qsess qmail qjobs qfurlongs qdomain qcues (hk _) (fun _ => hk _) (fun _ => hk _) (fun _ => hk _) (fun _ => hk _) (fun _ => hk _) (fun _ _ _ => hk _) (fun _ => hk _) (fun _ => hk _) (hk _) (hk _) (hk _) (hk _) (fun _ => hk _) (fun _ => hk _) (hk _) (hk _) (fun _ => hk _) (fun _ => hk _) (fun _ => hk _) (fun _ => hk _) (hk _) (fun _ => hk _) (fun _ => hk _) (fun _ => hk _) (fun _ => hk _) (hk _) (fun _ => hk _) (fun _ => hk _) (fun _ => hk _) (fun _ => hk _) (hk _) (hk _) (hk _) (hk _) (fun _ => hk _) (hk _) (hk _) (hk _) (hk _) (hk _) (hk _) (hk _) (hk _) (fun _ => hk _) (fun _ => hk _) (fun _ => hk _) (fun _ => hk _) (hk _) (hk _) (fun _ => hk _) (hk _) (fun _ => hk _) (fun _ => hk _) (fun _ => hk _) (fun _ => hk _) (fun _ => hk _) (fun _ => hk _) (fun _ => hk _) (fun _ => hk _) (fun _ => hk _) (fun _ => hk _) (fun _ => hk _) (hk _) (hk _) (fun _ => hk _) (hk _) (hk _) (hk _) (hk _) (hk _) (hk _) (hk _) (hk _) (hk _) (hk _) (hk _) (fun _ => hk _) (hk _) (hk _) (hk _) ?_
      exact hu4
  try clear_value x1
  refine State.countCommitted_within (hk _) (fun _ => hk _) (fun _ _ => hk _) (fun _ => hk _) (hk _) (hk _) (fun _ => hk _) (fun _ => hk _) (fun _ => hk _) (hk _) (hk _) (hk _) (hk _) (hk _) (hk _) ?_
  refine State.lutUsers_within (fun _ => hk _) ?_
  refine State.recount_within qfurlongs (fun _ => hk _) (fun _ => hk _) (fun _ => hk _) (fun _ => hk _) (hk _) (hk _) (hk _) (hk _) (hk _) (fun _ => hk _) (fun _ => hk _) ?_
  refine State.countTerms_within (fun _ _ => hk _) (fun _ => hk _) (hk _) (hk _) ?_
  refine State.placeStart_within qevu qfmem qchain qfabric hk ?_
  refine State.countTerms_within (fun _ _ => hk _) (fun _ => hk _) (hk _) (hk _) ?_
  exact hx1

theorem State.restartFw_within {b : Bounds} {p0} (qsent : b.parts .sent) (qevu : b.parts .evu) (qsess : b.parts .sess) (qmail : b.parts .mail) (qjobs : b.parts .jobs) (qboot : b.parts .boot) (c6 : ∀ w0, b.regs (O1B.JOB_ENDED w0)) (c7 : ∀ w0, b.regs (O1B.JOB_RESULT w0)) (c8 : ∀ w0, b.regs (O1B.JOB_OWNER w0)) (c9 : ∀ w0, b.regs (O1B.JOB_PROGRESS w0)) (c10 : ∀ w0, b.regs (O1B.JOB_STATUS w0)) (c11 : ∀ w0, b.regs (O1B.JOB_OBJECT w0)) (c12 : ∀ w0, b.regs (O1C.SESS_QUEUE w0)) (c13 : ∀ k ∈ eventRegs 451, b.regs k) (c14 : b.regs O1C.FILULO_FLAGS) (c15 : ∀ k ∈ eventRegs 432, b.regs k) (c16 : b.regs O1B.JOBS_QUEUED) (c17 : b.regs O1B.JOBS_RUNNING) (c18 : ∀ w0, b.regs (O1B.JOB_STARTED w0)) (c19 : ∀ w0, b.regs (O1B.JOB_STATE w0)) (c20 : ∀ k ∈ eventRegs 433, b.regs k) (c21 : b.regs O18.FW_PHASE) (hp0 : Within b p0) : Within b (State.restartFw p0) := by
  unfold State.restartFw
  extract_lets -merge -useContext -underBinder x1 x2
  have hx2 : Within1 b x2 := by
    unfold x2
    refine State.startJob_within qsent qevu qsess qmail qjobs c6 c7 c8 c9 c10 c11 c12 c13 c14 c15 c16 c17 c18 c19 ?_
    exact hp0
  try clear_value x2
  refine ite_elim (P := Within b) ?_ ?_
  · exact hp0
  · refine ite_elim (P := Within b) ?_ ?_
    · exact hp0
    · refine ite_elim (P := Within b) ?_ ?_
      · refine State.suspendJob_within qsent qevu qsess qmail qjobs (c10 _) c16 c17 c12 c13 c14 c15 c18 c19 c20 ?_
        refine State.setSlot_within qboot ?_
        refine State.fwPhase_within qboot c21 ?_
        change Within1 b _
        exact hx2
      · refine State.fwPhase_within qboot c21 ?_
        change Within1 b _
        exact hx2

theorem State.restartJobs_within {b : Bounds} {p0} (qsent : b.parts .sent) (qevu : b.parts .evu) (qsess : b.parts .sess) (qmail : b.parts .mail) (qjobs : b.parts .jobs) (qjrnl : b.parts .jrnl) (qboot : b.parts .boot) (c7 : ∀ w0, b.regs (O1B.JOB_ENDED w0)) (c8 : ∀ w0, b.regs (O1B.JOB_RESULT w0)) (c9 : ∀ w0, b.regs (O1B.JOB_OWNER w0)) (c10 : ∀ w0, b.regs (O1B.JOB_PROGRESS w0)) (c11 : ∀ w0, b.regs (O1B.JOB_STATUS w0)) (c12 : ∀ w0, b.regs (O1B.JOB_OBJECT w0)) (c13 : ∀ w0, b.regs (O1C.SESS_QUEUE w0)) (c14 : ∀ k ∈ eventRegs 451, b.regs k) (c15 : b.regs O1C.FILULO_FLAGS) (c16 : ∀ k ∈ eventRegs 432, b.regs k) (c17 : b.regs O1B.JOBS_QUEUED) (c18 : b.regs O1B.JOBS_RUNNING) (c19 : ∀ w0, b.regs (O1B.JOB_STARTED w0)) (c20 : ∀ w0, b.regs (O1B.JOB_STATE w0)) (c21 : ∀ k ∈ eventRegs 433, b.regs k) (c22 : b.regs O18.FW_PHASE) (hp0 : Within b p0) : Within b (State.restartJobs p0) := by
  unfold State.restartJobs
  extract_lets -merge -useContext -underBinder x1
  have hx1 : Within b x1 := by
    unfold x1
    refine ite_elim (P := Within b) ?_ ?_
    · change Within1 b _
      refine State.startKeyMigrate_within qsent qevu qsess qmail qjobs c7 c8 c9 c10 c11 c12 c13 c14 c15 c16 c17 c18 c19 c20 ?_
      exact hp0
    · exact hp0
  try clear_value x1
  refine State.autoCompact_within qsent qevu qsess qmail qjobs qjrnl c7 c8 c9 c10 c11 c12 c13 c14 c15 c16 c17 c18 c19 c20 ?_
  refine State.restartFw_within qsent qevu qsess qmail qjobs qboot c7 c8 c9 c10 c11 c12 c13 c14 c15 c16 c17 c18 c19 c20 c21 c22 ?_
  exact hx1

theorem State.firstChain_within {b : Bounds} {p0 p1 p2} (qphase : b.parts .phase) (qtiming : b.parts .timing) (qclocks : b.parts .clocks) (qevu : b.parts .evu) (qlanes : b.parts .lanes) (qfabric : b.parts .fabric) (qinputs : b.parts .inputs) (qdests : b.parts .dests) (qaudio : b.parts .audio) (qfresh : b.parts .fresh) (qamx : b.parts .amx) (qnet : b.parts .net) (qsent : b.parts .sent) (qsess : b.parts .sess) (qmail : b.parts .mail) (qjobs : b.parts .jobs) (qfurlongs : b.parts .furlongs) (qdomain : b.parts .domain) (qcues : b.parts .cues) (qfmem : b.parts .fmem) (qchain : b.parts .chain) (qtick : b.parts .tick) (qboot : b.parts .boot) (qjrnl : b.parts .jrnl) (hk : ∀ k, b.regs k) (hp0 : Within b p0) : Within b (State.firstChain p0 p1 p2) := by
  unfold State.firstChain
  extract_lets -merge -useContext -underBinder x1 x2 x3 x4 x5 x6 x7 x8 x9
  have hx1 : Within b x1 := by
    unfold x1
    refine State.inPhase_within qphase ?_
    refine State.configure_within qtiming qclocks qevu qlanes qfabric qinputs qdests qaudio qfresh qamx qnet qsent qsess qmail qjobs qfurlongs qdomain qcues qfmem qchain hk ?_
    exact hp0
  try clear_value x1
  have hx3 : Within b x3 := by
    unfold x3
    refine Within.f_tick (s := x1) qtick (fun i => i) ?_
    exact hx1
  try clear_value x3
  have hx5 : Within b x5 := by
    unfold x5
    refine Within.f_clocks (s := x3) qclocks ?_
    exact hx3
  try clear_value x5
  have hx6 : Within b x6 := by
    unfold x6
    refine State.onBoot_within qboot ?_
    refine State.setN_within (hk _) ?_
    refine State.mailUp_within qmail ?_
    exact hx5
  try clear_value x6
  have hx7 : Within b x7 := by
    unfold x7
    refine State.forEach_within ?_ ?_
    · exact hx6
    · intro u10 u11 hu12
      try beta_reduce
      refine State.setN_within (hk _) ?_
      exact hu12
  try clear_value x7
  have hx8 : Within b x8 := by
    unfold x8
    refine State.raise_within qevu (fun _ _ => hk _) ?_
    exact hx7
  try clear_value x8
  have hx9 : Within2 b x9 := by
    unfold x9
    refine State.draw_within qfresh ?_
    exact hx8
  try clear_value x9
  refine State.restartJobs_within qsent qevu qsess qmail qjobs qjrnl qboot (fun _ => hk _) (fun _ => hk _) (fun _ => hk _) (fun _ => hk _) (fun _ => hk _) (fun _ => hk _) (fun _ => hk _) (fun _ _ => hk _) (hk _) (fun _ _ => hk _) (hk _) (hk _) (fun _ => hk _) (fun _ => hk _) (fun _ _ => hk _) (hk _) ?_
  refine State.onDomain_within qdomain ?_
  change Within2 b _
  exact hx9

theorem State.confirmTrial_within {b : Bounds} {p0} (qevu : b.parts .evu) (qboot : b.parts .boot) (c2 : ∀ k ∈ eventRegs 387, b.regs k) (c3 : b.regs O18.TRIAL_TRIES) (c4 : b.regs O18.TRIAL_STATE) (hp0 : Within b p0) : Within b (State.confirmTrial p0) := by
  unfold State.confirmTrial
  extract_lets -merge -useContext -underBinder x1 x2
  have hx2 : Within b x2 := by
    unfold x2
    refine State.onBoot_within qboot ?_
    refine State.writeRecord_within qboot ?_
    exact hp0
  try clear_value x2
  refine State.raise_within qevu c2 ?_
  refine State.setN_within c3 ?_
  refine State.setN_within c4 ?_
  exact hx2

theorem State.watchdogReset_within {b : Bounds} {p0} (qevu : b.parts .evu) (qboot : b.parts .boot) (c2 : ∀ k ∈ eventRegs 3, b.regs k) (hp0 : Within b p0) : Within b (State.watchdogReset p0) := by
  unfold State.watchdogReset
  refine ite_elim (P := Within b) ?_ ?_
  · refine State.raise_within qevu c2 ?_
    refine State.onBoot_within qboot ?_
    exact hp0
  · exact hp0

theorem State.tamperRunning_within {b : Bounds} {p0 p1} (qsent : b.parts .sent) (qevu : b.parts .evu) (qsess : b.parts .sess) (qmail : b.parts .mail) (qjobs : b.parts .jobs) (qfabric : b.parts .fabric) (qfmem : b.parts .fmem) (qboot : b.parts .boot) (qkeys : b.parts .keys) (qchain : b.parts .chain) (qreasm : b.parts .reasm) (qjrnl : b.parts .jrnl) (qdomain : b.parts .domain) (c13 : ∀ (w0 : ℕ), b.regs (O1B.JOB_ENDED w0)) (c14 : ∀ (w0 : ℕ), b.regs (O1B.JOB_STATUS w0)) (c15 : ∀ (w0 : ℕ), b.regs (O1B.JOB_RESULT w0)) (c16 : ∀ (w0 : ℕ), b.regs (O1B.JOB_PROGRESS w0)) (c17 : b.regs O1B.JOBS_QUEUED) (c18 : b.regs O1B.JOBS_RUNNING) (c19 : ∀ (w0 : ℕ), b.regs (O1C.SESS_QUEUE w0)) (c20 : b.regs O1C.FILULO_FLAGS) (c21 : ∀ (w0 : ℕ), b.regs (O1B.JOB_STARTED w0)) (c22 : ∀ (w0 : ℕ), b.regs (O1B.JOB_STATE w0)) (c23 : ∀ (w0 : ℕ), ∀ k ∈ eventRegs w0, b.regs k) (c24 : b.regs O00.DEV_FLAGS) (c25 : ∀ (w0 : ℕ), b.regs (O05.CLIP_LOADED w0)) (c26 : ∀ (w0 : ℕ), b.regs (O05.CLIP_STATE w0)) (c27 : ∀ (w0 : ℕ), b.regs (O09.LUT_STATE w0)) (c28 : b.regs O18.FW_PHASE) (c29 : b.regs O19.HANDLES_OPEN) (c30 : ∀ (w0 : ℕ), b.regs (O19.HANDLE_OWNER w0)) (c31 : ∀ (w0 : ℕ), b.regs (O19.HANDLE_INFO w0)) (c32 : ∀ (w0 : ℕ), b.regs (O19.HANDLE_STATE w0)) (c33 : ∀ (w0 : ℕ), b.regs (O1C.SESS_TX_OPEN w0)) (c34 : b.regs O1C.SESSIONS_OPEN) (c35 : ∀ (w0 : ℕ), b.regs (O1C.SESS_SUBS w0)) (c36 : ∀ (w0 : ℕ), b.regs (O1C.SESS_OPENED w0)) (c37 : ∀ (w0 : ℕ), b.regs (O1C.SESS_PEER w0)) (c38 : ∀ (w0 : ℕ), b.regs (O1C.SESS_CRED w0)) (c39 : ∀ (w0 : ℕ), b.regs (O1C.SESS_ROLE w0)) (c40 : ∀ (w0 : ℕ), b.regs (O1C.SESS_STATE w0)) (c41 : ∀ (w0 : ℕ), b.regs (O1B.JOB_OWNER w0)) (c42 : b.regs O18.STANDBY_TAMPER) (c43 : b.regs O19.KS_FLAGS) (c44 : b.regs O19.KS_STATE) (hp0 : Within b p0) : Within b (State.tamperRunning p0 p1) := by
  unfold State.tamperRunning
  extract_lets -merge -useContext -underBinder x1 x2
  have hx1 : Within b x1 := by
    unfold x1
    refine State.forEach_within ?_ ?_
    · exact hp0
    · intro u3 u4 hu5
      try beta_reduce
      refine State.stopJob_within qsent qevu qsess qmail qjobs qfabric qfmem qboot (c13 _) (c14 _) (c15 _) (c16 _) c17 c18 c19 c20 c21 c22 c23 c24 c25 c26 c27 c28 ?_
      exact hu5
  try clear_value x1
  have hx2 : Within b x2 := by
    unfold x2
    refine State.onKeys_within qkeys ?_
    refine State.zeroise_within qkeys c29 c30 c31 c32 ?_
    refine State.closeAll_within qsent qevu qchain qsess qmail qreasm qjobs qjrnl qdomain qboot qkeys c33 (c23 _) c20 c34 c19 c35 c36 c37 c38 c39 c40 c29 c30 c31 c32 c41 (c23 _) ?_
    exact hx1
  try clear_value x2
  refine State.raise_within qevu (c23 _) ?_
  refine State.setB_within c42 ?_
  refine State.flag_within c43 ?_
  refine State.setN_within c44 ?_
  exact hx2

theorem State.dieTemp_within {b : Bounds} {p0 p1} (qevu : b.parts .evu) (qhot : b.parts .hot) (qmeasured : b.parts .measured) (c3 : b.regs O00.DIE_TEMP) (c4 : b.regs O00.DIE_TEMP_MAX) (c5 : ∀ k ∈ eventRegs 2, b.regs k) (c6 : b.regs O00.DEV_FLAGS) (hp0 : Within b p0) : Within b (State.dieTemp p0 p1) := by
  unfold State.dieTemp
  extract_lets -merge -useContext -underBinder x1 x2 x3 x4
  have hx2 : Within b x2 := by
    unfold x2
    refine State.setZ_within c3 ?_
    exact hp0
  try clear_value x2
  have hx3 : Within b x3 := by
    unfold x3
    refine ite_elim (P := Within b) ?_ ?_
    · exact hx2
    · refine State.setZ_within c4 ?_
      exact hx2
  try clear_value x3
  have hx4 : Within b x4 := by
    unfold x4
    refine Within.f_measured (s := x3) qmeasured ?_
    exact hx3
  try clear_value x4
  refine ite_elim (P := Within b) ?_ ?_
  · refine ite_elim (P := Within b) ?_ ?_
    · exact hx4
    · refine State.raise_within qevu c5 ?_
      refine State.flag_within c6 ?_
      refine Within.f_hot (s := x4) qhot ?_
      exact hx4
  · refine ite_elim (P := Within b) ?_ ?_
    · refine Within.f_hot (s := x4) qhot ?_
      exact hx4
    · exact hx4

theorem execHandover_within {b : Bounds} {p0 p1 p2 p3} (qboot : b.parts .boot) (qjrnl : b.parts .jrnl) (qevu : b.parts .evu) (qnet : b.parts .net) (qcues : b.parts .cues) (qfmem : b.parts .fmem) (qfresh : b.parts .fresh) (qkeys : b.parts .keys) (qdomain : b.parts .domain) (qbus : b.parts .bus) (qmail : b.parts .mail) (qphase : b.parts .phase) (hk : ∀ k, b.regs k) (hp3 : Within b p3) : WithinOut b (execHandover p0 p1 p2 p3) := by
  unfold execHandover
  refine live_within ?_ ?_
  · exact hp3
  · intro u1 hu2
    try beta_reduce
    refine ite_elim (P := Within b) ?_ ?_
    · refine State.handOver_within qboot qjrnl qevu qnet qcues qfmem qfresh qkeys qdomain qbus qmail qphase hk ?_
      exact hu2
    · exact hu2

theorem execFirstChain_within {b : Bounds} {p0 p1 p2} (qphase : b.parts .phase) (qtiming : b.parts .timing) (qclocks : b.parts .clocks) (qevu : b.parts .evu) (qlanes : b.parts .lanes) (qfabric : b.parts .fabric) (qinputs : b.parts .inputs) (qdests : b.parts .dests) (qaudio : b.parts .audio) (qfresh : b.parts .fresh) (qamx : b.parts .amx) (qnet : b.parts .net) (qsent : b.parts .sent) (qsess : b.parts .sess) (qmail : b.parts .mail) (qjobs : b.parts .jobs) (qfurlongs : b.parts .furlongs) (qdomain : b.parts .domain) (qcues : b.parts .cues) (qfmem : b.parts .fmem) (qchain : b.parts .chain) (qtick : b.parts .tick) (qboot : b.parts .boot) (qjrnl : b.parts .jrnl) (hk : ∀ k, b.regs k) (hp2 : Within b p2) : WithinOut b (execFirstChain p0 p1 p2) := by
  unfold execFirstChain
  refine live_within ?_ ?_
  · exact hp2
  · intro u1 hu2
    try beta_reduce
    refine ite_elim (P := Within b) ?_ ?_
    · refine State.firstChain_within qphase qtiming qclocks qevu qlanes qfabric qinputs qdests qaudio qfresh qamx qnet qsent qsess qmail qjobs qfurlongs qdomain qcues qfmem qchain qtick qboot qjrnl hk ?_
      exact hu2
    · exact hu2

theorem execTrialConfirmation_within {b : Bounds} {p0} (qevu : b.parts .evu) (qboot : b.parts .boot) (c2 : ∀ k ∈ eventRegs 387, b.regs k) (c3 : b.regs O18.TRIAL_TRIES) (c4 : b.regs O18.TRIAL_STATE) (hp0 : Within b p0) : WithinOut b (execTrialConfirmation p0) := by
  unfold execTrialConfirmation
  refine live_within ?_ ?_
  · exact hp0
  · intro u1 hu1
    try beta_reduce
    refine ite_elim (P := Within b) ?_ ?_
    · refine State.confirmTrial_within qevu qboot c2 c3 c4 ?_
      exact hu1
    · exact hu1

theorem execTrialWatchdog_within {b : Bounds} {p0} (qevu : b.parts .evu) (qboot : b.parts .boot) (c2 : ∀ k ∈ eventRegs 3, b.regs k) (hp0 : Within b p0) : WithinOut b (execTrialWatchdog p0) := by
  unfold execTrialWatchdog
  refine live_within ?_ ?_
  · exact hp0
  · intro u1 hu2
    try beta_reduce
    refine ite_elim (P := Within b) ?_ ?_
    · refine State.watchdogReset_within qevu qboot c2 ?_
      exact hu2
    · exact hu2

theorem execTamperRunning_within {b : Bounds} {p0 p1} (qkeys : b.parts .keys) (qsent : b.parts .sent) (qevu : b.parts .evu) (qsess : b.parts .sess) (qmail : b.parts .mail) (qjobs : b.parts .jobs) (qfabric : b.parts .fabric) (qfmem : b.parts .fmem) (qboot : b.parts .boot) (qchain : b.parts .chain) (qreasm : b.parts .reasm) (qjrnl : b.parts .jrnl) (qdomain : b.parts .domain) (c13 : b.regs O19.TAMPER_LEVELS) (c14 : ∀ (w0 : ℕ), b.regs (O1B.JOB_ENDED w0)) (c15 : ∀ (w0 : ℕ), b.regs (O1B.JOB_STATUS w0)) (c16 : ∀ (w0 : ℕ), b.regs (O1B.JOB_RESULT w0)) (c17 : ∀ (w0 : ℕ), b.regs (O1B.JOB_PROGRESS w0)) (c18 : b.regs O1B.JOBS_QUEUED) (c19 : b.regs O1B.JOBS_RUNNING) (c20 : ∀ (w0 : ℕ), b.regs (O1C.SESS_QUEUE w0)) (c21 : b.regs O1C.FILULO_FLAGS) (c22 : ∀ (w0 : ℕ), b.regs (O1B.JOB_STARTED w0)) (c23 : ∀ (w0 : ℕ), b.regs (O1B.JOB_STATE w0)) (c24 : ∀ (w0 : ℕ), ∀ k ∈ eventRegs w0, b.regs k) (c25 : b.regs O00.DEV_FLAGS) (c26 : ∀ (w0 : ℕ), b.regs (O05.CLIP_LOADED w0)) (c27 : ∀ (w0 : ℕ), b.regs (O05.CLIP_STATE w0)) (c28 : ∀ (w0 : ℕ), b.regs (O09.LUT_STATE w0)) (c29 : b.regs O18.FW_PHASE) (c30 : b.regs O19.HANDLES_OPEN) (c31 : ∀ (w0 : ℕ), b.regs (O19.HANDLE_OWNER w0)) (c32 : ∀ (w0 : ℕ), b.regs (O19.HANDLE_INFO w0)) (c33 : ∀ (w0 : ℕ), b.regs (O19.HANDLE_STATE w0)) (c34 : ∀ (w0 : ℕ), b.regs (O1C.SESS_TX_OPEN w0)) (c35 : b.regs O1C.SESSIONS_OPEN) (c36 : ∀ (w0 : ℕ), b.regs (O1C.SESS_SUBS w0)) (c37 : ∀ (w0 : ℕ), b.regs (O1C.SESS_OPENED w0)) (c38 : ∀ (w0 : ℕ), b.regs (O1C.SESS_PEER w0)) (c39 : ∀ (w0 : ℕ), b.regs (O1C.SESS_CRED w0)) (c40 : ∀ (w0 : ℕ), b.regs (O1C.SESS_ROLE w0)) (c41 : ∀ (w0 : ℕ), b.regs (O1C.SESS_STATE w0)) (c42 : ∀ (w0 : ℕ), b.regs (O1B.JOB_OWNER w0)) (c43 : b.regs O18.STANDBY_TAMPER) (c44 : b.regs O19.KS_FLAGS) (c45 : b.regs O19.KS_STATE) (hp1 : Within b p1) : WithinOut b (execTamperRunning p0 p1) := by
  unfold execTamperRunning
  refine live_within ?_ ?_
  · exact hp1
  · intro u1 hu2
    try beta_reduce
    extract_lets -merge -useContext -underBinder x3
    have hx3 : Within1 b x3 := by
      unfold x3
      refine State.samplePins_within qkeys c13 ?_
      exact hu2
    try clear_value x3
    refine ite_elim (P := Within b) ?_ ?_
    · change Within1 b _
      exact hx3
    · refine State.tamperRunning_within qsent qevu qsess qmail qjobs qfabric qfmem qboot qkeys qchain qreasm qjrnl qdomain c14 c15 c16 c17 c18 c19 c20 c21 c22 c23 c24 c25 c26 c27 c28 c29 c30 c31 c32 c33 c34 c35 c36 c37 c38 c39 c40 c41 c42 c43 c44 c45 ?_
      change Within1 b _
      exact hx3

theorem execDieTempSample_within {b : Bounds} {p0 p1} (qevu : b.parts .evu) (qhot : b.parts .hot) (qmeasured : b.parts .measured) (c3 : b.regs O00.DIE_TEMP) (c4 : b.regs O00.DIE_TEMP_MAX) (c5 : ∀ k ∈ eventRegs 2, b.regs k) (c6 : b.regs O00.DEV_FLAGS) (hp1 : Within b p1) : WithinOut b (execDieTempSample p0 p1) := by
  unfold execDieTempSample
  refine live_within ?_ ?_
  · exact hp1
  · intro u1 hu1
    try beta_reduce
    refine ite_elim (P := Within b) ?_ ?_
    · refine State.dieTemp_within qevu qhot qmeasured c3 c4 c5 c6 ?_
      exact hu1
    · exact hu1

theorem execMgmtLinkChange_within {b : Bounds} {p0 p1 p2} (qevu : b.parts .evu) (c1 : ∀ k ∈ eventRegs 457, b.regs k) (c2 : b.regs (O1C.MGMT_LINK (256 + p0))) (hp2 : Within b p2) : WithinOut b (execMgmtLinkChange p0 p1 p2) := by
  unfold execMgmtLinkChange
  refine onInst_within ?_ ?_
  · exact hp2
  · intro u1 hu1
    try beta_reduce
    refine ite_elim (P := Within b) ?_ ?_
    · exact hu1
    · refine State.raise_within qevu c1 ?_
      refine State.setB_within c2 ?_
      exact hu1

theorem execLineGroupStart_within {b : Bounds} {p0 p1 p2 p3} (qevu : b.parts .evu) (qfabric : b.parts .fabric) (c2 : ∀ k ∈ eventRegs 198, b.regs k) (c3 : ∀ w0, b.regs (O0C.ANC_DISPLACED w0)) (hp3 : Within b p3) : WithinOut b (execLineGroupStart p0 p1 p2 p3) := by
  unfold execLineGroupStart
  refine live_within ?_ ?_
  · exact hp3
  · intro u1 hu1
    try beta_reduce
    split
    · exact hu1
    · extract_lets -merge -useContext -underBinder x2
      have hx2 : Within b x2 := by
        unfold x2
        refine State.onDesc_within qfabric ?_
        exact hu1
      try clear_value x2
      refine ite_elim (P := Within b) ?_ ?_
      · exact hu1
      · refine ite_elim (P := Within b) ?_ ?_
        · exact hx2
        · refine State.raiseLim_within qevu c2 ?_
          refine State.bump_within (c3 _) ?_
          exact hx2

end Sys2Proof.Machine
end

