-- ==== Sys2Proof/Laws/WithinBypass.lean ====
section
/-! SUPPORT. What each operation of Machine/Bypass.lean may change at most (Laws/Within.lean). -/

set_option maxRecDepth 8000

namespace Sys2Proof.Machine

theorem State.abandon_within {b : Bounds} {p0 p1} (c0 : ∀ w0, b.regs (O04.PORT_FLAGS w0)) (c1 : ∀ w0, b.regs (O04.ABANDONED_CELLS w0)) (hp0 : Within b p0) : Within b (State.abandon p0 p1) := by
  unfold State.abandon
  extract_lets -merge -useContext -underBinder x1
  have hx1 : ∀ a0 a1, Within b a0 → Within b (x1 a0 a1) := by
    unfold x1
    intro u2 u3 hu2
    try beta_reduce
    refine State.flag_within (c0 _) ?_
    refine State.bump_within (c1 _) ?_
    exact hu2
  try clear_value x1
  refine hx1 _ _ ?_
  · refine hx1 _ _ ?_
    · exact hp0

theorem State.spill_within {b : Bounds} {p0 p1 p2} (qevu : b.parts .evu) (qchain : b.parts .chain) (c2 : b.regs O01.LAST_SPILL_TICK) (c3 : b.regs O01.SPILL_ENTRIES) (c4 : b.regs O01.SPILL_TICKS) (c5 : b.regs O01.LAST_SPILL_STREAMS) (c6 : b.regs O01.LAST_SPILL_COUNT) (c7 : ∀ k ∈ eventRegs 65, b.regs k) (c8 : b.regs O01.SPILL_CAUSES) (c9 : ∀ k ∈ eventRegs 20, b.regs k) (hp0 : Within b p0) : Within b (State.spill p0 p1 p2) := by
  unfold State.spill
  extract_lets -merge -useContext -underBinder x1 x2 x3 x4 x5
  have hx2 : Within b x2 := by
    unfold x2
    refine State.setN_within c2 ?_
    refine State.bump_within c3 ?_
    refine State.bump_within c4 ?_
    exact hp0
  try clear_value x2
  have hx3 : Within b x3 := by
    unfold x3
    refine State.setBytes_within c5 ?_
    refine State.setN_within c6 ?_
    exact hx2
  try clear_value x3
  have hx4 : Within b x4 := by
    unfold x4
    refine State.raise_within qevu c7 ?_
    refine State.flag_within c8 ?_
    exact hx3
  try clear_value x4
  have hx5 : Within b x5 := by
    unfold x5
    refine State.onChain_within qchain ?_
    exact hx4
  try clear_value x5
  refine ite_elim (P := Within b) ?_ ?_
  · refine State.raise_within qevu c9 ?_
    refine State.onChain_within qchain ?_
    exact hx5
  · exact hx5

theorem State.missSound_within {b : Bounds} {p0 p1} (qnet : b.parts .net) (qamx : b.parts .amx) (hp0 : Within b p0) : Within b (State.missSound p0 p1) := by
  unfold State.missSound
  refine ite_elim (P := Within b) ?_ ?_
  · refine State.missSamples_within qnet ?_
    exact hp0
  · refine State.missAudio_within qamx ?_
    exact hp0

theorem State.substWork_within {b : Bounds} {p0 p1 p2} (qamx : b.parts .amx) (qnet : b.parts .net) (qevu : b.parts .evu) (qchain : b.parts .chain) (qfabric : b.parts .fabric) (c5 : ∀ (w0 : ℕ), b.regs (O10.SF_FRAMES w0)) (c6 : ∀ k ∈ eventRegs 245, b.regs k) (c7 : ∀ (w0 : ℕ), b.regs (O0F.PORT_FLAGS w0)) (c8 : ∀ (w0 : ℕ), b.regs (O0F.DROPS w0)) (c9 : ∀ k ∈ eventRegs 256, b.regs k) (c10 : ∀ (w0 : ℕ), b.regs (O10.SF_FLAGS w0)) (c11 : ∀ (w0 : ℕ), b.regs (O10.SH_DROPS w0)) (c12 : ∀ (w0 : ℕ), b.regs (O10.CBS_CREDIT w0)) (c13 : ∀ (w0 : ℕ), b.regs (O10.SH_ELIGIBLE w0)) (c14 : ∀ (w0 : ℕ), b.regs (O10.SH_QUEUED w0)) (c15 : ∀ (w0 : ℕ), b.regs (O10.SH_LEVEL w0)) (c16 : ∀ (w0 : ℕ), b.regs (O0D.SEND_FLAGS w0)) (hp0 : Within b p0) : Within b (State.substWork p0 p1 p2) := by
  unfold State.substWork
  extract_lets -merge -useContext -underBinder x1
  have hx1 : Within b x1 := by
    unfold x1
    split
    · refine State.missBlock_within qamx ?_
      exact hp0
    · refine State.missRelease_within qnet qevu c5 c6 c7 c8 c9 c10 c11 c12 c13 c14 c15 c16 ?_
      exact hp0
    · refine State.missSound_within qnet qamx ?_
      exact hp0
    · refine State.missSound_within qnet qamx ?_
      exact hp0
    · exact hp0
  try clear_value x1
  refine ite_elim (P := Within b) ?_ ?_
  · exact hp0
  · refine ite_elim (P := Within b) ?_ ?_
    · exact hx1
    · refine State.substituteN_within qchain qfabric ?_
      exact hx1

theorem State.missUnits_within {b : Bounds} {p0 p1} (qchain : b.parts .chain) (qfabric : b.parts .fabric) (qamx : b.parts .amx) (qnet : b.parts .net) (qevu : b.parts .evu) (c5 : ∀ (w0 : ℕ), b.regs (O10.SF_FRAMES w0)) (c6 : ∀ k ∈ eventRegs 245, b.regs k) (c7 : ∀ (w0 : ℕ), b.regs (O0F.PORT_FLAGS w0)) (c8 : ∀ (w0 : ℕ), b.regs (O0F.DROPS w0)) (c9 : ∀ k ∈ eventRegs 256, b.regs k) (c10 : ∀ (w0 : ℕ), b.regs (O10.SF_FLAGS w0)) (c11 : ∀ (w0 : ℕ), b.regs (O10.SH_DROPS w0)) (c12 : ∀ (w0 : ℕ), b.regs (O10.CBS_CREDIT w0)) (c13 : ∀ (w0 : ℕ), b.regs (O10.SH_ELIGIBLE w0)) (c14 : ∀ (w0 : ℕ), b.regs (O10.SH_QUEUED w0)) (c15 : ∀ (w0 : ℕ), b.regs (O10.SH_LEVEL w0)) (c16 : ∀ (w0 : ℕ), b.regs (O0D.SEND_FLAGS w0)) (hp0 : Within b p0) : Within b (State.missUnits p0 p1) := by
  unfold State.missUnits
  extract_lets -merge -useContext -underBinder x1
  refine ite_elim (P := Within b) ?_ ?_
  · refine State.substitute_within qchain qfabric ?_
    exact hp0
  · refine State.forEach_within ?_ ?_
    · exact hp0
    · intro u2 u3 hu4
      try beta_reduce
      refine State.substWork_within qamx qnet qevu qchain qfabric c5 c6 c7 c8 c9 c10 c11 c12 c13 c14 c15 c16 ?_
      exact hu4

theorem State.quietTick_within {b : Bounds} {p0} (qchain : b.parts .chain) (hp0 : Within b p0) : Within b (State.quietTick p0) := by
  unfold State.quietTick
  extract_lets -merge -useContext -underBinder x1
  refine State.onChain_within qchain ?_
  exact hp0

theorem State.enterSafeHold_within {b : Bounds} {p0 p1} (qevu : b.parts .evu) (qchain : b.parts .chain) (qamx : b.parts .amx) (qnet : b.parts .net) (qfabric : b.parts .fabric) (qaudio : b.parts .audio) (qinputs : b.parts .inputs) (qdests : b.parts .dests) (c8 : b.regs O01.SPILL_CAUSES) (c9 : b.regs O01.LAST_SPILL_TICK) (c10 : b.regs O01.SPILL_ENTRIES) (c11 : b.regs O01.SPILL_TICKS) (c12 : b.regs O01.LAST_SPILL_STREAMS) (c13 : b.regs O01.LAST_SPILL_COUNT) (c14 : ∀ k ∈ eventRegs 65, b.regs k) (c15 : ∀ k ∈ eventRegs 20, b.regs k) (c16 : ∀ (w0 : ℕ), b.regs (O04.PORT_FLAGS w0)) (c17 : ∀ (w0 : ℕ), b.regs (O04.ABANDONED_CELLS w0)) (c18 : ∀ (w0 : ℕ), b.regs (O10.SF_FRAMES w0)) (c19 : ∀ k ∈ eventRegs 245, b.regs k) (c20 : ∀ (w0 : ℕ), b.regs (O0F.PORT_FLAGS w0)) (c21 : ∀ (w0 : ℕ), b.regs (O0F.DROPS w0)) (c22 : ∀ k ∈ eventRegs 256, b.regs k) (c23 : ∀ (w0 : ℕ), b.regs (O10.SF_FLAGS w0)) (c24 : ∀ (w0 : ℕ), b.regs (O10.SH_DROPS w0)) (c25 : ∀ (w0 : ℕ), b.regs (O10.CBS_CREDIT w0)) (c26 : ∀ (w0 : ℕ), b.regs (O10.SH_ELIGIBLE w0)) (c27 : ∀ (w0 : ℕ), b.regs (O10.SH_QUEUED w0)) (c28 : ∀ (w0 : ℕ), b.regs (O10.SH_LEVEL w0)) (c29 : ∀ (w0 : ℕ), b.regs (O0D.SEND_FLAGS w0)) (c30 : ∀ k ∈ eventRegs 18, b.regs k) (c31 : b.regs O01.LAST_SAFE_HOLD) (c32 : b.regs O01.SAFE_HOLD_COUNT) (c33 : b.regs O01.CHAIN_STATE) (c34 : ∀ (w0 : ℕ), b.regs (O14.CE_STATE w0)) (c35 : ∀ k ∈ eventRegs 209, b.regs k) (c36 : ∀ (w0 : ℕ), b.regs (O0D.SEND_STATE w0)) (c37 : ∀ (w0 : ℕ), b.regs (State.stateKey w0)) (c38 : ∀ (w0 w1 : ℕ), b.regs (O0C.SWITCH_STATE w0 w1)) (c39 : ∀ (w0 w1 : ℕ), b.regs (O0C.DEST_TERMS w0 w1)) (c40 : ∀ (w0 : ℕ), b.regs (O0C.BLOCK_TERMS w0)) (c41 : b.regs O0C.PHASE_TERMS) (c42 : b.regs O0C.TERMS_COMMITTED) (c43 : ∀ (w0 w1 : ℕ), b.regs (O0C.DEST_FLAGS w0 w1)) (c44 : ∀ (w0 : ℕ), b.regs (O07.OUT_STATE w0)) (hp0 : Within b p0) : Within b (State.enterSafeHold p0 p1) := by
  unfold State.enterSafeHold
  extract_lets -merge -useContext -underBinder x1 x2 x3 x4 x5 x6 x7 x8 x9
  have hx4 : Within b x4 := by
    unfold x4
    refine ite_elim (P := Within b) ?_ ?_
    · refine State.flag_within c8 ?_
      exact hp0
    · refine State.spill_within qevu qchain c9 c10 c11 c12 c13 c14 c8 c15 ?_
      refine State.forEach_within ?_ ?_
      · exact hp0
      · intro u10 u11 hu12
        try beta_reduce
        refine State.abandon_within c16 c17 ?_
        exact hu12
  try clear_value x4
  have hx5 : Within b x5 := by
    unfold x5
    refine State.forEach_within ?_ ?_
    · exact hx4
    · intro u13 u14 hu15
      try beta_reduce
      refine State.substWork_within qamx qnet qevu qchain qfabric c18 c19 c20 c21 c22 c23 c24 c25 c26 c27 c28 c29 ?_
      exact hu15
  try clear_value x5
  have hx6 : Within b x6 := by
    unfold x6
    refine State.raise_within qevu c30 ?_
    refine State.setN_within c31 ?_
    refine State.bump_within c32 ?_
    refine State.setN_within c33 ?_
    refine State.bucketsTo_within qnet c25 ?_
    exact hx5
  try clear_value x6
  have hx7 : Within b x7 := by
    unfold x7
    refine State.onChain_within qchain ?_
    exact hx6
  try clear_value x7
  have hx9 : Within b x9 := by
    unfold x9
    refine Within.f_amx (s := x7) qamx ?_
    exact hx7
  try clear_value x9
  refine State.cuesHold_within c34 ?_
  refine State.sendersHold_within qevu qnet c35 c29 c36 ?_
  refine State.audioHold_within qaudio c37 ?_
  refine State.matrixHold_within qamx c38 c39 c40 c41 c42 c43 ?_
  refine State.sdiHold_within qinputs qdests c44 ?_
  exact hx9

theorem State.stopChain_within {b : Bounds} {p0 p1} (qevu : b.parts .evu) (qchain : b.parts .chain) (qamx : b.parts .amx) (qnet : b.parts .net) (qfabric : b.parts .fabric) (qaudio : b.parts .audio) (qinputs : b.parts .inputs) (qdests : b.parts .dests) (c8 : b.regs O01.SPILL_CAUSES) (c9 : b.regs O01.LAST_SPILL_TICK) (c10 : b.regs O01.SPILL_ENTRIES) (c11 : b.regs O01.SPILL_TICKS) (c12 : b.regs O01.LAST_SPILL_STREAMS) (c13 : b.regs O01.LAST_SPILL_COUNT) (c14 : ∀ k ∈ eventRegs 65, b.regs k) (c15 : ∀ k ∈ eventRegs 20, b.regs k) (c16 : ∀ (w0 : ℕ), b.regs (O04.PORT_FLAGS w0)) (c17 : ∀ (w0 : ℕ), b.regs (O04.ABANDONED_CELLS w0)) (c18 : ∀ (w0 : ℕ), b.regs (O10.SF_FRAMES w0)) (c19 : ∀ k ∈ eventRegs 245, b.regs k) (c20 : ∀ (w0 : ℕ), b.regs (O0F.PORT_FLAGS w0)) (c21 : ∀ (w0 : ℕ), b.regs (O0F.DROPS w0)) (c22 : ∀ k ∈ eventRegs 256, b.regs k) (c23 : ∀ (w0 : ℕ), b.regs (O10.SF_FLAGS w0)) (c24 : ∀ (w0 : ℕ), b.regs (O10.SH_DROPS w0)) (c25 : ∀ (w0 : ℕ), b.regs (O10.CBS_CREDIT w0)) (c26 : ∀ (w0 : ℕ), b.regs (O10.SH_ELIGIBLE w0)) (c27 : ∀ (w0 : ℕ), b.regs (O10.SH_QUEUED w0)) (c28 : ∀ (w0 : ℕ), b.regs (O10.SH_LEVEL w0)) (c29 : ∀ (w0 : ℕ), b.regs (O0D.SEND_FLAGS w0)) (c30 : ∀ k ∈ eventRegs 18, b.regs k) (c31 : b.regs O01.LAST_SAFE_HOLD) (c32 : b.regs O01.SAFE_HOLD_COUNT) (c33 : b.regs O01.CHAIN_STATE) (c34 : ∀ (w0 : ℕ), b.regs (O14.CE_STATE w0)) (c35 : ∀ k ∈ eventRegs 209, b.regs k) (c36 : ∀ (w0 : ℕ), b.regs (O0D.SEND_STATE w0)) (c37 : ∀ (w0 : ℕ), b.regs (State.stateKey w0)) (c38 : ∀ (w0 w1 : ℕ), b.regs (O0C.SWITCH_STATE w0 w1)) (c39 : ∀ (w0 w1 : ℕ), b.regs (O0C.DEST_TERMS w0 w1)) (c40 : ∀ (w0 : ℕ), b.regs (O0C.BLOCK_TERMS w0)) (c41 : b.regs O0C.PHASE_TERMS) (c42 : b.regs O0C.TERMS_COMMITTED) (c43 : ∀ (w0 w1 : ℕ), b.regs (O0C.DEST_FLAGS w0 w1)) (c44 : ∀ (w0 : ℕ), b.regs (O07.OUT_STATE w0)) (hp0 : Within b p0) : Within b (State.stopChain p0 p1) := by
  unfold State.stopChain
  refine ite_elim (P := Within b) ?_ ?_
  · refine State.enterSafeHold_within qevu qchain qamx qnet qfabric qaudio qinputs qdests c8 c9 c10 c11 c12 c13 c14 c15 c16 c17 c18 c19 c20 c21 c22 c23 c24 c25 c26 c27 c28 c29 c30 c31 c32 c33 c34 c35 c36 c37 c38 c39 c40 c41 c42 c43 c44 ?_
    exact hp0
  · refine ite_elim (P := Within b) ?_ ?_
    · refine State.raise_within qevu c30 ?_
      refine State.setN_within c31 ?_
      refine State.bump_within c32 ?_
      refine State.setN_within c33 ?_
      exact hp0
    · exact hp0

theorem State.setStacks_within {b : Bounds} {p0 p1} (c0 : ∀ (w0 : ℕ), b.regs (O05.STACK_STATE w0)) (hp0 : Within b p0) : Within b (State.setStacks p0 p1) := by
  unfold State.setStacks
  refine State.forEach_within ?_ ?_
  · exact hp0
  · intro u1 u2 hu3
    try beta_reduce
    refine State.setN_within (c0 _) ?_
    exact hu3

theorem State.bypassDomain_within {b : Bounds} {p0 p1 p2} (qevu : b.parts .evu) (qchain : b.parts .chain) (qamx : b.parts .amx) (qnet : b.parts .net) (qfabric : b.parts .fabric) (qaudio : b.parts .audio) (qinputs : b.parts .inputs) (qdests : b.parts .dests) (qclocks : b.parts .clocks) (qbus : b.parts .bus) (qfmem : b.parts .fmem) (qbytes : b.parts .bytes) (qfresh : b.parts .fresh) (qram : b.parts .ram) (qsent : b.parts .sent) (qjobs : b.parts .jobs) (c16 : b.regs O01.SPILL_CAUSES) (c17 : b.regs O01.LAST_SPILL_TICK) (c18 : b.regs O01.SPILL_ENTRIES) (c19 : b.regs O01.SPILL_TICKS) (c20 : b.regs O01.LAST_SPILL_STREAMS) (c21 : b.regs O01.LAST_SPILL_COUNT) (c22 : ∀ k ∈ eventRegs 65, b.regs k) (c23 : ∀ k ∈ eventRegs 20, b.regs k) (c24 : ∀ (w0 : ℕ), b.regs (O04.PORT_FLAGS w0)) (c25 : ∀ (w0 : ℕ), b.regs (O04.ABANDONED_CELLS w0)) (c26 : ∀ (w0 : ℕ), b.regs (O10.SF_FRAMES w0)) (c27 : ∀ k ∈ eventRegs 245, b.regs k) (c28 : ∀ (w0 : ℕ), b.regs (O0F.PORT_FLAGS w0)) (c29 : ∀ (w0 : ℕ), b.regs (O0F.DROPS w0)) (c30 : ∀ k ∈ eventRegs 256, b.regs k) (c31 : ∀ (w0 : ℕ), b.regs (O10.SF_FLAGS w0)) (c32 : ∀ (w0 : ℕ), b.regs (O10.SH_DROPS w0)) (c33 : ∀ (w0 : ℕ), b.regs (O10.CBS_CREDIT w0)) (c34 : ∀ (w0 : ℕ), b.regs (O10.SH_ELIGIBLE w0)) (c35 : ∀ (w0 : ℕ), b.regs (O10.SH_QUEUED w0)) (c36 : ∀ (w0 : ℕ), b.regs (O10.SH_LEVEL w0)) (c37 : ∀ (w0 : ℕ), b.regs (O0D.SEND_FLAGS w0)) (c38 : ∀ k ∈ eventRegs 18, b.regs k) (c39 : b.regs O01.LAST_SAFE_HOLD) (c40 : b.regs O01.SAFE_HOLD_COUNT) (c41 : b.regs O01.CHAIN_STATE) (c42 : ∀ (w0 : ℕ), b.regs (O14.CE_STATE w0)) (c43 : ∀ k ∈ eventRegs 209, b.regs k) (c44 : ∀ (w0 : ℕ), b.regs (O0D.SEND_STATE w0)) (c45 : ∀ (w0 : ℕ), b.regs (State.stateKey w0)) (c46 : ∀ (w0 w1 : ℕ), b.regs (O0C.SWITCH_STATE w0 w1)) (c47 : ∀ (w0 w1 : ℕ), b.regs (O0C.DEST_TERMS w0 w1)) (c48 : ∀ (w0 : ℕ), b.regs (O0C.BLOCK_TERMS w0)) (c49 : b.regs O0C.PHASE_TERMS) (c50 : b.regs O0C.TERMS_COMMITTED) (c51 : ∀ (w0 w1 : ℕ), b.regs (O0C.DEST_FLAGS w0 w1)) (c52 : ∀ (w0 : ℕ), b.regs (O07.OUT_STATE w0)) (c53 : ∀ k ∈ eventRegs 54, b.regs k) (c54 : ∀ (w0 : ℕ), b.regs (O05.STACK_FLAGS w0)) (c55 : ∀ (w0 : ℕ), b.regs (O05.LAST_ERROR_PIN w0)) (c56 : ∀ (w0 : ℕ), b.regs (O05.LAST_ERROR_ADDR w0)) (c57 : ∀ (w0 : ℕ), b.regs (O05.CE_COUNT w0)) (c58 : ∀ (w0 : ℕ), b.regs (O05.PIN_CE w0)) (c59 : ∀ k ∈ eventRegs 80, b.regs k) (c60 : ∀ k ∈ eventRegs 86, b.regs k) (c61 : ∀ (w0 : ℕ), b.regs (O17.TRANSACTIONS w0)) (c62 : ∀ (w0 : ℕ), b.regs (O17.TARGET_ERRORS w0)) (c63 : ∀ (w0 : ℕ), b.regs (O17.ERROR_RESPONSES w0)) (c64 : ∀ (w0 : ℕ), b.regs (O17.QOS_LAST w0)) (c65 : ∀ (w0 : ℕ), b.regs (O05.STACK_STATE w0)) (hp0 : Within b p0) : Within b (State.bypassDomain p0 p1 p2) := by
  unfold State.bypassDomain
  split
  · extract_lets -merge -useContext -underBinder x1
    refine State.stopChain_within qevu qchain qamx qnet qfabric qaudio qinputs qdests c16 c17 c18 c19 c20 c21 c22 c23 c24 c25 c26 c27 c28 c29 c30 c31 c32 c33 c34 c35 c36 c37 c38 c39 c40 c41 c42 c43 c44 c45 c46 c47 c48 c49 c50 c51 c52 ?_
    refine Within.f_clocks (s := p0) qclocks ?_
    exact hp0
  · extract_lets -merge -useContext -underBinder x2 x3
    have hx3 : Within b x3 := by
      unfold x3
      refine State.sendersHold_within qevu qnet c43 c37 c44 ?_
      refine State.raise_within qevu c53 ?_
      refine Within.f_clocks (s := p0) qclocks ?_
      exact hp0
    try clear_value x3
    refine State.hbmDrain_within qbus qevu qfmem qbytes qfresh qram qsent c54 c55 c56 c57 c58 c59 c60 c61 c62 c63 c64 ?_
    refine State.rewindClips_within qfabric qjobs ?_
    refine State.setStacks_within c65 ?_
    exact hx3
  · exact hp0

theorem State.pllLost_within {b : Bounds} {p0 p1 p2} (qclocks : b.parts .clocks) (qevu : b.parts .evu) (qchain : b.parts .chain) (qamx : b.parts .amx) (qnet : b.parts .net) (qfabric : b.parts .fabric) (qaudio : b.parts .audio) (qinputs : b.parts .inputs) (qdests : b.parts .dests) (qbus : b.parts .bus) (qfmem : b.parts .fmem) (qbytes : b.parts .bytes) (qfresh : b.parts .fresh) (qram : b.parts .ram) (qsent : b.parts .sent) (qjobs : b.parts .jobs) (c16 : b.regs (O03.LAST_UNLOCK p1)) (c17 : b.regs (O03.UNLOCK_COUNT p1)) (c18 : b.regs O01.SPILL_CAUSES) (c19 : b.regs O01.LAST_SPILL_TICK) (c20 : b.regs O01.SPILL_ENTRIES) (c21 : b.regs O01.SPILL_TICKS) (c22 : b.regs O01.LAST_SPILL_STREAMS) (c23 : b.regs O01.LAST_SPILL_COUNT) (c24 : ∀ k ∈ eventRegs 65, b.regs k) (c25 : ∀ k ∈ eventRegs 20, b.regs k) (c26 : ∀ (w0 : ℕ), b.regs (O04.PORT_FLAGS w0)) (c27 : ∀ (w0 : ℕ), b.regs (O04.ABANDONED_CELLS w0)) (c28 : ∀ (w0 : ℕ), b.regs (O10.SF_FRAMES w0)) (c29 : ∀ k ∈ eventRegs 245, b.regs k) (c30 : ∀ (w0 : ℕ), b.regs (O0F.PORT_FLAGS w0)) (c31 : ∀ (w0 : ℕ), b.regs (O0F.DROPS w0)) (c32 : ∀ k ∈ eventRegs 256, b.regs k) (c33 : ∀ (w0 : ℕ), b.regs (O10.SF_FLAGS w0)) (c34 : ∀ (w0 : ℕ), b.regs (O10.SH_DROPS w0)) (c35 : ∀ (w0 : ℕ), b.regs (O10.CBS_CREDIT w0)) (c36 : ∀ (w0 : ℕ), b.regs (O10.SH_ELIGIBLE w0)) (c37 : ∀ (w0 : ℕ), b.regs (O10.SH_QUEUED w0)) (c38 : ∀ (w0 : ℕ), b.regs (O10.SH_LEVEL w0)) (c39 : ∀ (w0 : ℕ), b.regs (O0D.SEND_FLAGS w0)) (c40 : ∀ k ∈ eventRegs 18, b.regs k) (c41 : b.regs O01.LAST_SAFE_HOLD) (c42 : b.regs O01.SAFE_HOLD_COUNT) (c43 : b.regs O01.CHAIN_STATE) (c44 : ∀ (w0 : ℕ), b.regs (O14.CE_STATE w0)) (c45 : ∀ k ∈ eventRegs 209, b.regs k) (c46 : ∀ (w0 : ℕ), b.regs (O0D.SEND_STATE w0)) (c47 : ∀ (w0 : ℕ), b.regs (State.stateKey w0)) (c48 : ∀ (w0 w1 : ℕ), b.regs (O0C.SWITCH_STATE w0 w1)) (c49 : ∀ (w0 w1 : ℕ), b.regs (O0C.DEST_TERMS w0 w1)) (c50 : ∀ (w0 : ℕ), b.regs (O0C.BLOCK_TERMS w0)) (c51 : b.regs O0C.PHASE_TERMS) (c52 : b.regs O0C.TERMS_COMMITTED) (c53 : ∀ (w0 w1 : ℕ), b.regs (O0C.DEST_FLAGS w0 w1)) (c54 : ∀ (w0 : ℕ), b.regs (O07.OUT_STATE w0)) (c55 : ∀ k ∈ eventRegs 54, b.regs k) (c56 : ∀ (w0 : ℕ), b.regs (O05.STACK_FLAGS w0)) (c57 : ∀ (w0 : ℕ), b.regs (O05.LAST_ERROR_PIN w0)) (c58 : ∀ (w0 : ℕ), b.regs (O05.LAST_ERROR_ADDR w0)) (c59 : ∀ (w0 : ℕ), b.regs (O05.CE_COUNT w0)) (c60 : ∀ (w0 : ℕ), b.regs (O05.PIN_CE w0)) (c61 : ∀ k ∈ eventRegs 80, b.regs k) (c62 : ∀ k ∈ eventRegs 86, b.regs k) (c63 : ∀ (w0 : ℕ), b.regs (O17.TRANSACTIONS w0)) (c64 : ∀ (w0 : ℕ), b.regs (O17.TARGET_ERRORS w0)) (c65 : ∀ (w0 : ℕ), b.regs (O17.ERROR_RESPONSES w0)) (c66 : ∀ (w0 : ℕ), b.regs (O17.QOS_LAST w0)) (c67 : ∀ (w0 : ℕ), b.regs (O05.STACK_STATE w0)) (c68 : ∀ k ∈ eventRegs 48, b.regs k) (c69 : b.regs (O03.PLL_FLAGS p1)) (c70 : b.regs (O03.PLL_STATE p1)) (c71 : ∀ k ∈ eventRegs 50, b.regs k) (hp0 : Within b p0) : Within b (State.pllLost p0 p1 p2) := by
  unfold State.pllLost
  extract_lets -merge -useContext -underBinder x1 x2 x3
  have hx2 : Within b x2 := by
    unfold x2
    refine Within.f_clocks (s := p0) qclocks ?_
    exact hp0
  try clear_value x2
  have hx3 : Within b x3 := by
    unfold x3
    refine State.setN_within c16 ?_
    refine State.bump_within c17 ?_
    exact hx2
  try clear_value x3
  split
  · refine State.bypassDomain_within qevu qchain qamx qnet qfabric qaudio qinputs qdests qclocks qbus qfmem qbytes qfresh qram qsent qjobs c18 c19 c20 c21 c22 c23 c24 c25 c26 c27 c28 c29 c30 c31 c32 c33 c34 c35 c36 c37 c38 c39 c40 c41 c42 c43 c44 c45 c46 c47 c48 c49 c50 c51 c52 c53 c54 c55 c56 c57 c58 c59 c60 c61 c62 c63 c64 c65 c66 c67 ?_
    refine State.raise_within qevu c68 ?_
    refine State.flag_within c69 ?_
    refine State.setN_within c70 ?_
    exact hx3
  · refine State.raise_within qevu c71 ?_
    refine State.flag_within c69 ?_
    refine State.setN_within c70 ?_
    exact hx3
  · exact hp0

theorem State.pllRegained_within {b : Bounds} {p0 p1} (qclocks : b.parts .clocks) (c1 : b.regs (O03.PLL_STATE p1)) (hp0 : Within b p0) : Within b (State.pllRegained p0 p1) := by
  unfold State.pllRegained
  extract_lets -merge -useContext -underBinder x1
  refine State.setN_within c1 ?_
  refine Within.f_clocks (s := p0) qclocks ?_
  exact hp0

theorem State.pllBack_within {b : Bounds} {p0 p1} (qevu : b.parts .evu) (qclocks : b.parts .clocks) (qnet : b.parts .net) (qfabric : b.parts .fabric) (qjobs : b.parts .jobs) (qconv : b.parts .conv) (qinputs : b.parts .inputs) (qdests : b.parts .dests) (c8 : ∀ k ∈ eventRegs 49, b.regs k) (c9 : b.regs (O03.PLL_STATE p1)) (c10 : b.regs O01.CHAIN_STATE) (c11 : ∀ (w0 : ℕ), b.regs (O10.CBS_CREDIT w0)) (c12 : ∀ (w0 : ℕ), b.regs (O05.STACK_STATE w0)) (c13 : ∀ (w0 : ℕ), b.regs (O09.PATH_FLAGS w0)) (c14 : ∀ (w0 : ℕ), b.regs (O09.PATH_STATE w0)) (c15 : ∀ k ∈ eventRegs 56, b.regs k) (c16 : ∀ (w0 : ℕ), b.regs (O0D.SEND_STATE w0)) (hp0 : Within b p0) : Within b (State.pllBack p0 p1) := by
  unfold State.pllBack
  extract_lets -merge -useContext -underBinder x1
  have hx1 : Within b x1 := by
    unfold x1
    refine State.raise_within qevu c8 ?_
    refine State.setN_within c9 ?_
    exact hp0
  try clear_value x1
  split
  · extract_lets -merge -useContext -underBinder x2 x3
    have hx3 : Within b x3 := by
      unfold x3
      refine Within.f_clocks (s := x1) qclocks ?_
      exact hx1
    try clear_value x3
    refine ite_elim (P := Within b) ?_ ?_
    · refine State.setN_within c10 ?_
      refine State.bucketsTo_within qnet c11 ?_
      exact hx3
    · exact hx3
  · extract_lets -merge -useContext -underBinder x4 x5 x6 x7
    have hx5 : Within b x5 := by
      unfold x5
      refine State.rewindClips_within qfabric qjobs ?_
      refine Within.f_clocks (s := x1) qclocks ?_
      exact hx1
    try clear_value x5
    have hx6 : Within b x6 := by
      unfold x6
      refine State.setStacks_within c12 ?_
      exact hx5
    try clear_value x6
    have hx7 : Within b x7 := by
      unfold x7
      refine State.rePrime_within qconv c13 c14 ?_
      refine State.sdiHbmResume_within qinputs qdests ?_
      refine State.raise_within qevu c15 ?_
      exact hx6
    try clear_value x7
    refine ite_elim (P := Within b) ?_ ?_
    · exact hx5
    · refine State.forEach_within ?_ ?_
      · exact hx7
      · intro u8 u9 hu10
        try beta_reduce
        refine State.resumeSender_within qnet (c16 _) ?_
        exact hu10
  · exact hx1

theorem execCellArrival_within {b : Bounds} {p0 p1 p2 p3 p4 p5} (qchain : b.parts .chain) (qfabric : b.parts .fabric) (qamx : b.parts .amx) (qnet : b.parts .net) (qevu : b.parts .evu) (c5 : ∀ (w0 : ℕ), b.regs (O10.SF_FRAMES w0)) (c6 : ∀ k ∈ eventRegs 245, b.regs k) (c7 : ∀ (w0 : ℕ), b.regs (O0F.PORT_FLAGS w0)) (c8 : ∀ (w0 : ℕ), b.regs (O0F.DROPS w0)) (c9 : ∀ k ∈ eventRegs 256, b.regs k) (c10 : ∀ (w0 : ℕ), b.regs (O10.SF_FLAGS w0)) (c11 : ∀ (w0 : ℕ), b.regs (O10.SH_DROPS w0)) (c12 : ∀ (w0 : ℕ), b.regs (O10.CBS_CREDIT w0)) (c13 : ∀ (w0 : ℕ), b.regs (O10.SH_ELIGIBLE w0)) (c14 : ∀ (w0 : ℕ), b.regs (O10.SH_QUEUED w0)) (c15 : ∀ (w0 : ℕ), b.regs (O10.SH_LEVEL w0)) (c16 : ∀ (w0 : ℕ), b.regs (O0D.SEND_FLAGS w0)) (c17 : ∀ k ∈ eventRegs 70, b.regs k) (c18 : b.regs (O04.PORT_FLAGS p0)) (c19 : b.regs (O04.ERROR_CELLS p0)) (c20 : b.regs (O04.INVALID_CELLS p0)) (c21 : ∀ k ∈ eventRegs 66, b.regs k) (hp5 : Within b p5) : WithinOut b (execCellArrival p0 p1 p2 p3 p4 p5) := by
  unfold execCellArrival
  refine live_within ?_ ?_
  · exact hp5
  · intro u1 hu2
    try beta_reduce
    refine ite_elim (P := Within b) ?_ ?_
    · exact hu2
    · refine ite_elim (P := Within b) ?_ ?_
      · refine State.missUnits_within qchain qfabric qamx qnet qevu c5 c6 c7 c8 c9 c10 c11 c12 c13 c14 c15 c16 ?_
        refine State.errorCell_within qevu c17 c18 c19 ?_
        exact hu2
      · refine ite_elim (P := Within b) ?_ ?_
        · refine State.missUnits_within qchain qfabric qamx qnet qevu c5 c6 c7 c8 c9 c10 c11 c12 c13 c14 c15 c16 ?_
          refine State.errorCell_within qevu c17 c18 c19 ?_
          exact hu2
        · refine ite_elim (P := Within b) ?_ ?_
          · refine State.validCells_within qfabric ?_
            exact hu2
          · refine State.invalidCells_within qevu qfabric c18 c20 c21 ?_
            exact hu2

theorem execDescriptorParity_within {b : Bounds} {p0 p1 p2} (qchain : b.parts .chain) (qfabric : b.parts .fabric) (qamx : b.parts .amx) (qnet : b.parts .net) (qevu : b.parts .evu) (c5 : ∀ (w0 : ℕ), b.regs (O10.SF_FRAMES w0)) (c6 : ∀ k ∈ eventRegs 245, b.regs k) (c7 : ∀ (w0 : ℕ), b.regs (O0F.PORT_FLAGS w0)) (c8 : ∀ (w0 : ℕ), b.regs (O0F.DROPS w0)) (c9 : ∀ k ∈ eventRegs 256, b.regs k) (c10 : ∀ (w0 : ℕ), b.regs (O10.SF_FLAGS w0)) (c11 : ∀ (w0 : ℕ), b.regs (O10.SH_DROPS w0)) (c12 : ∀ (w0 : ℕ), b.regs (O10.CBS_CREDIT w0)) (c13 : ∀ (w0 : ℕ), b.regs (O10.SH_ELIGIBLE w0)) (c14 : ∀ (w0 : ℕ), b.regs (O10.SH_QUEUED w0)) (c15 : ∀ (w0 : ℕ), b.regs (O10.SH_LEVEL w0)) (c16 : ∀ (w0 : ℕ), b.regs (O0D.SEND_FLAGS w0)) (c17 : ∀ k ∈ eventRegs 69, b.regs k) (hp2 : Within b p2) : WithinOut b (execDescriptorParity p0 p1 p2) := by
  unfold execDescriptorParity
  refine live_within ?_ ?_
  · exact hp2
  · intro u1 hu2
    try beta_reduce
    split
    · exact hu2
    · extract_lets -merge -useContext -underBinder x3 x4
      have hx3 : Within b x3 := by
        unfold x3
        refine State.missUnits_within qchain qfabric qamx qnet qevu c5 c6 c7 c8 c9 c10 c11 c12 c13 c14 c15 c16 ?_
        exact hu2
      try clear_value x3
      refine State.raise_within qevu c17 ?_
      refine Within.f_fabric (s := x3) qfabric ?_
      exact hx3

theorem execPllLockLost_within {b : Bounds} {p0 p1 p2} (qclocks : b.parts .clocks) (qevu : b.parts .evu) (qchain : b.parts .chain) (qamx : b.parts .amx) (qnet : b.parts .net) (qfabric : b.parts .fabric) (qaudio : b.parts .audio) (qinputs : b.parts .inputs) (qdests : b.parts .dests) (qbus : b.parts .bus) (qfmem : b.parts .fmem) (qbytes : b.parts .bytes) (qfresh : b.parts .fresh) (qram : b.parts .ram) (qsent : b.parts .sent) (qjobs : b.parts .jobs) (c16 : b.regs (O03.LAST_UNLOCK p0)) (c17 : b.regs (O03.UNLOCK_COUNT p0)) (c18 : b.regs O01.SPILL_CAUSES) (c19 : b.regs O01.LAST_SPILL_TICK) (c20 : b.regs O01.SPILL_ENTRIES) (c21 : b.regs O01.SPILL_TICKS) (c22 : b.regs O01.LAST_SPILL_STREAMS) (c23 : b.regs O01.LAST_SPILL_COUNT) (c24 : ∀ k ∈ eventRegs 65, b.regs k) (c25 : ∀ k ∈ eventRegs 20, b.regs k) (c26 : ∀ (w0 : ℕ), b.regs (O04.PORT_FLAGS w0)) (c27 : ∀ (w0 : ℕ), b.regs (O04.ABANDONED_CELLS w0)) (c28 : ∀ (w0 : ℕ), b.regs (O10.SF_FRAMES w0)) (c29 : ∀ k ∈ eventRegs 245, b.regs k) (c30 : ∀ (w0 : ℕ), b.regs (O0F.PORT_FLAGS w0)) (c31 : ∀ (w0 : ℕ), b.regs (O0F.DROPS w0)) (c32 : ∀ k ∈ eventRegs 256, b.regs k) (c33 : ∀ (w0 : ℕ), b.regs (O10.SF_FLAGS w0)) (c34 : ∀ (w0 : ℕ), b.regs (O10.SH_DROPS w0)) (c35 : ∀ (w0 : ℕ), b.regs (O10.CBS_CREDIT w0)) (c36 : ∀ (w0 : ℕ), b.regs (O10.SH_ELIGIBLE w0)) (c37 : ∀ (w0 : ℕ), b.regs (O10.SH_QUEUED w0)) (c38 : ∀ (w0 : ℕ), b.regs (O10.SH_LEVEL w0)) (c39 : ∀ (w0 : ℕ), b.regs (O0D.SEND_FLAGS w0)) (c40 : ∀ k ∈ eventRegs 18, b.regs k) (c41 : b.regs O01.LAST_SAFE_HOLD) (c42 : b.regs O01.SAFE_HOLD_COUNT) (c43 : b.regs O01.CHAIN_STATE) (c44 : ∀ (w0 : ℕ), b.regs (O14.CE_STATE w0)) (c45 : ∀ k ∈ eventRegs 209, b.regs k) (c46 : ∀ (w0 : ℕ), b.regs (O0D.SEND_STATE w0)) (c47 : ∀ (w0 : ℕ), b.regs (State.stateKey w0)) (c48 : ∀ (w0 w1 : ℕ), b.regs (O0C.SWITCH_STATE w0 w1)) (c49 : ∀ (w0 w1 : ℕ), b.regs (O0C.DEST_TERMS w0 w1)) (c50 : ∀ (w0 : ℕ), b.regs (O0C.BLOCK_TERMS w0)) (c51 : b.regs O0C.PHASE_TERMS) (c52 : b.regs O0C.TERMS_COMMITTED) (c53 : ∀ (w0 w1 : ℕ), b.regs (O0C.DEST_FLAGS w0 w1)) (c54 : ∀ (w0 : ℕ), b.regs (O07.OUT_STATE w0)) (c55 : ∀ k ∈ eventRegs 54, b.regs k) (c56 : ∀ (w0 : ℕ), b.regs (O05.STACK_FLAGS w0)) (c57 : ∀ (w0 : ℕ), b.regs (O05.LAST_ERROR_PIN w0)) (c58 : ∀ (w0 : ℕ), b.regs (O05.LAST_ERROR_ADDR w0)) (c59 : ∀ (w0 : ℕ), b.regs (O05.CE_COUNT w0)) (c60 : ∀ (w0 : ℕ), b.regs (O05.PIN_CE w0)) (c61 : ∀ k ∈ eventRegs 80, b.regs k) (c62 : ∀ k ∈ eventRegs 86, b.regs k) (c63 : ∀ (w0 : ℕ), b.regs (O17.TRANSACTIONS w0)) (c64 : ∀ (w0 : ℕ), b.regs (O17.TARGET_ERRORS w0)) (c65 : ∀ (w0 : ℕ), b.regs (O17.ERROR_RESPONSES w0)) (c66 : ∀ (w0 : ℕ), b.regs (O17.QOS_LAST w0)) (c67 : ∀ (w0 : ℕ), b.regs (O05.STACK_STATE w0)) (c68 : ∀ k ∈ eventRegs 48, b.regs k) (c69 : b.regs (O03.PLL_FLAGS p0)) (c70 : b.regs (O03.PLL_STATE p0)) (c71 : ∀ k ∈ eventRegs 50, b.regs k) (hp2 : Within b p2) : WithinOut b (execPllLockLost p0 p1 p2) := by
  unfold execPllLockLost
  refine live_within ?_ ?_
  · exact hp2
  · intro u1 hu2
    try beta_reduce
    refine ite_elim (P := Within b) ?_ ?_
    · refine State.pllLost_within qclocks qevu qchain qamx qnet qfabric qaudio qinputs qdests qbus qfmem qbytes qfresh qram qsent qjobs c16 c17 c18 c19 c20 c21 c22 c23 c24 c25 c26 c27 c28 c29 c30 c31 c32 c33 c34 c35 c36 c37 c38 c39 c40 c41 c42 c43 c44 c45 c46 c47 c48 c49 c50 c51 c52 c53 c54 c55 c56 c57 c58 c59 c60 c61 c62 c63 c64 c65 c66 c67 c68 c69 c70 c71 ?_
      exact hu2
    · exact hu2

theorem execPllLockRegained_within {b : Bounds} {p0 p1} (qclocks : b.parts .clocks) (c1 : b.regs (O03.PLL_STATE p0)) (hp1 : Within b p1) : WithinOut b (execPllLockRegained p0 p1) := by
  unfold execPllLockRegained
  refine live_within ?_ ?_
  · exact hp1
  · intro u1 hu1
    try beta_reduce
    refine ite_elim (P := Within b) ?_ ?_
    · refine State.pllRegained_within qclocks c1 ?_
      exact hu1
    · exact hu1

theorem execPllRelocked_within {b : Bounds} {p0 p1} (qevu : b.parts .evu) (qclocks : b.parts .clocks) (qnet : b.parts .net) (qfabric : b.parts .fabric) (qjobs : b.parts .jobs) (qconv : b.parts .conv) (qinputs : b.parts .inputs) (qdests : b.parts .dests) (c8 : ∀ k ∈ eventRegs 49, b.regs k) (c9 : b.regs (O03.PLL_STATE p0)) (c10 : b.regs O01.CHAIN_STATE) (c11 : ∀ (w0 : ℕ), b.regs (O10.CBS_CREDIT w0)) (c12 : ∀ (w0 : ℕ), b.regs (O05.STACK_STATE w0)) (c13 : ∀ (w0 : ℕ), b.regs (O09.PATH_FLAGS w0)) (c14 : ∀ (w0 : ℕ), b.regs (O09.PATH_STATE w0)) (c15 : ∀ k ∈ eventRegs 56, b.regs k) (c16 : ∀ (w0 : ℕ), b.regs (O0D.SEND_STATE w0)) (hp1 : Within b p1) : WithinOut b (execPllRelocked p0 p1) := by
  unfold execPllRelocked
  refine live_within ?_ ?_
  · exact hp1
  · intro u1 hu2
    try beta_reduce
    refine ite_elim (P := Within b) ?_ ?_
    · refine State.pllBack_within qevu qclocks qnet qfabric qjobs qconv qinputs qdests c8 c9 c10 c11 c12 c13 c14 c15 c16 ?_
      exact hu2
    · exact hu2

end Sys2Proof.Machine
end

