-- ==== Sys2Proof/Laws/WithinRequests.lean ====
section
/-! SUPPORT. The narrower bounds of the requests of a session: what GET, BEGIN, STAGE, ABORT, DISCARD, JOB, SUBSCRIBE, UNSUBSCRIBE,
BULK_PUT and BULK_GET can change (R526, R538 to R548), and those of ACK_ALL and ROUTE_DEFAULTS (R667, R689). -/

namespace Sys2Proof.Machine

variable {b : Bounds}

/-- A response without items goes at once: the session, the mailbox and what has been sent. -/
theorem State.answer_plain {s : State} {sess : Nat} {r : Resp} (h : r.items = []) : s.answer sess r false = s.respond sess r := by
  unfold State.answer State.afterJournal
  simp [h]

/-- A request whose answer has no items. -/
theorem requestPlain_within {sess seq : Nat} {q : Req} {c : Compiled} {s : State} (qsent : b.parts .sent) (qsess : b.parts .sess)
    (qmail : b.parts .mail) (hop : ∀ u, Within b u → WithinO b (State.operate u sess q c))
    (hr : ∀ u, (State.operate u sess q c).persists = false ∧ (State.operate u sess q c).items = []) (h : Within b s) :
    WithinOut b (requestIn sess seq q c s) := by
  unfold requestIn
  refine live_within h fun u hu => ?_
  refine ite_elim (P := Within b) ?_ hu
  refine State.bySeq_within qsent qsess qmail hu fun v hv => ?_
  change Within b (State.answer _ _ _ _)
  rw [(hr v).1, (hr v).2, State.answer_plain rfl]
  exact State.respond_within qsent qsess qmail (hop v hv)

/-- A request whose answer waits for no record of the journal. -/
theorem requestKept_within {sess seq : Nat} {q : Req} {c : Compiled} {s : State} (qsent : b.parts .sent) (qsess : b.parts .sess)
    (qmail : b.parts .mail) (qboot : b.parts .boot) (qkeys : b.parts .keys)
    (hop : ∀ u, Within b u → WithinO b (State.operate u sess q c)) (hr : ∀ u, (State.operate u sess q c).persists = false)
    (h : Within b s) : WithinOut b (requestIn sess seq q c s) := by
  unfold requestIn
  refine live_within h fun u hu => ?_
  refine ite_elim (P := Within b) ?_ hu
  refine State.bySeq_within qsent qsess qmail hu fun v hv => ?_
  change Within b (State.answer _ _ _ _)
  rw [hr v]
  unfold State.answer
  rw [if_neg fun h => Bool.false_ne_true h.1]
  exact State.afterJournal_within qsent qsess qmail qboot qkeys (hop v hv)

theorem operate_job {P : Outcome → Prop} {s : State} {i a : Nat} {l : List Item} {c : Compiled} (h : P (Outcome.plain s BUSY 0))
    (k : P (s.opJob i (a % 65536) (field a 23 16))) : P (s.operate i ⟨8, 0, a, l⟩ c) := ite_elim h k

theorem operate_bulkget {P : Outcome → Prop} {s : State} {i a : Nat} {l : List Item} {c : Compiled} (h : P (Outcome.plain s BUSY 0))
    (k : P (s.opBulkGet i (a % 65536) (a / 65536) l)) : P (s.operate i ⟨12, 0, a, l⟩ c) := ite_elim h k

/-- The answer has no items and waits for nothing. -/
def Outcome.Bare (o : Outcome) : Prop := o.persists = false ∧ o.items = []

/-- The answer waits for no record. -/
def Outcome.Kept (o : Outcome) : Prop := o.persists = false

theorem bare_plain {s : State} {a r : Nat} : (Outcome.plain s a r).Bare := ⟨rfl, rfl⟩

theorem opBegin_bare {s : State} {i : Nat} : (s.opBegin i).Bare := by
  unfold State.opBegin
  exact ite_elim (P := Outcome.Bare) bare_plain bare_plain

theorem opAbort_bare {s : State} {i tx : Nat} : (s.opAbort i tx).Bare := by
  unfold State.opAbort
  repeat' (first | exact bare_plain | split)

theorem opDiscard_bare {s : State} {i tx : Nat} : (s.opDiscard i tx).Bare := by
  unfold State.opDiscard
  split <;> exact bare_plain

theorem opJob_bare {s : State} {i j c : Nat} : (s.opJob i j c).Bare := by
  unfold State.opJob
  dsimp only
  repeat' (first | exact bare_plain | split)

theorem opUnsubscribe_bare {s : State} {i j : Nat} : (s.opUnsubscribe i j).Bare := by
  unfold State.opUnsubscribe
  repeat' (first | exact bare_plain | split)

theorem opStage_kept {s : State} {i tx : Nat} {l : List Item} : (s.opStage i tx l).Kept := by
  unfold State.opStage
  split <;> rfl

theorem opSubscribe_kept {s : State} {i : Nat} {l : List Item} : (s.opSubscribe i l).Kept := by
  unfold State.opSubscribe
  dsimp only
  repeat' (first | rfl | split)

theorem opBulkPut_kept {s : State} {i j o : Nat} {l : List Item} {c : Compiled} : (s.opBulkPut i j o l c).Kept := by
  unfold State.opBulkPut
  dsimp only
  repeat' (first | rfl | split)

theorem opBulkGet_kept {s : State} {i j o : Nat} {l : List Item} : (s.opBulkGet i j o l).Kept := by
  unfold State.opBulkGet
  dsimp only
  repeat' (first | rfl | split)

theorem execGet_narrow {b : Bounds} {p0 p1 p2 p3 p4} (qsent : b.parts .sent) (qsess : b.parts .sess) (qmail : b.parts .mail) (qboot : b.parts .boot) (qkeys : b.parts .keys) (qnet : b.parts .net) (qevu : b.parts .evu) (hp4 : Within b p4) : WithinOut b (execGet p0 p1 p2 p3 p4) := by
  unfold execGet
  refine requestKept_within qsent qsess qmail qboot qkeys (fun u hu => ?_) (fun u => ?_) hp4
  · refine ite_elim (P := WithinO b) ?_ ?_
    · exact hu
    · have h : WithinV b (State.getItems u p0 p2 p3) := State.getItems_within qnet qevu hu
      exact h
  · exact ite_elim (P := Outcome.Kept) rfl rfl

theorem execBegin_narrow {b : Bounds} {p0 p1 p2} (qsent : b.parts .sent) (qsess : b.parts .sess) (qmail : b.parts .mail) (qchain : b.parts .chain) (c1 : b.regs (O1C.SESS_TX_OPEN p0)) (hp2 : Within b p2) : WithinOut b (execBegin p0 p1 p2) := by
  unfold execBegin
  refine requestPlain_within qsent qsess qmail (fun u hu => ?_) (fun u => ?_) hp2
  · refine ite_elim (P := WithinO b) ?_ ?_
    · exact hu
    · exact State.opBegin_within qchain c1 hu
  · exact ite_elim (P := Outcome.Bare) bare_plain opBegin_bare

theorem execStage_narrow {b : Bounds} {p0 p1 p2 p3 p4} (qsent : b.parts .sent) (qsess : b.parts .sess) (qmail : b.parts .mail) (qboot : b.parts .boot) (qkeys : b.parts .keys) (qchain : b.parts .chain) (hp4 : Within b p4) : WithinOut b (execStage p0 p1 p2 p3 p4) := by
  unfold execStage
  refine requestKept_within qsent qsess qmail qboot qkeys (fun u hu => ?_) (fun u => ?_) hp4
  · refine ite_elim (P := WithinO b) ?_ ?_
    · exact hu
    · exact State.opStage_within qchain hu
  · exact ite_elim (P := Outcome.Kept) rfl opStage_kept

theorem execAbort_narrow {b : Bounds} {p0 p1 p2 p3} (qevu : b.parts .evu) (qsent : b.parts .sent) (qsess : b.parts .sess) (qmail : b.parts .mail) (qjobs : b.parts .jobs) (qdomain : b.parts .domain) (qfurlongs : b.parts .furlongs) (qfabric : b.parts .fabric) (qfmem : b.parts .fmem) (qchain : b.parts .chain) (c10 : b.regs O04.STREAMS_ACTIVE) (c11 : ∀ (w0 : ℕ), b.regs (O12.MEDIA_CELLS w0)) (c12 : ∀ (w0 w1 : ℕ), b.regs (O0C.DEST_TERMS w0 w1)) (c13 : ∀ (w0 : ℕ), b.regs (O0C.BLOCK_TERMS w0)) (c14 : b.regs O0C.PHASE_TERMS) (c15 : b.regs O0C.TERMS_COMMITTED) (c16 : ∀ (w0 : ℕ), b.regs (O09.BUSHEL_PATHS w0)) (c17 : ∀ (w0 : ℕ), b.regs (O09.PECK_MASK w0)) (c18 : ∀ (w0 : ℕ), b.regs (O09.BUSHEL_STATE w0)) (c19 : b.regs O09.BUSHELS_IN_SERVICE) (c20 : b.regs O09.POOL_PECKS) (c21 : b.regs O09.PECKS_COMMITTED) (c22 : b.regs O09.PECKS_FREE) (c23 : b.regs O09.PATHS_SHED) (c24 : b.regs O09.PATHS_RUNNING) (c25 : ∀ (w0 : ℕ), b.regs (O08.SALVO_LAST_STATUS w0)) (c26 : ∀ (w0 : ℕ), b.regs (O08.SALVO_LAST_TICK w0)) (c27 : ∀ k ∈ eventRegs 130, b.regs k) (c28 : ∀ (w0 : ℕ), b.regs (O1C.SESS_QUEUE w0)) (c29 : ∀ k ∈ eventRegs 451, b.regs k) (c30 : b.regs O1C.FILULO_FLAGS) (c31 : b.regs O1C.TX_LAST) (c32 : ∀ k ∈ eventRegs 321, b.regs k) (c33 : ∀ (w0 : ℕ), b.regs (O14.CE_STATUS w0)) (c34 : ∀ (w0 : ℕ), b.regs (O14.LAST_ERROR w0)) (c35 : ∀ (w0 : ℕ), b.regs (O14.ACTION_ERRORS w0)) (c36 : ∀ k ∈ eventRegs 308, b.regs k) (c37 : b.regs O13.LAST_EPOCH) (c38 : ∀ k ∈ eventRegs 312, b.regs k) (c39 : b.regs O13.DOMAIN_STATE) (c40 : ∀ k ∈ eventRegs 309, b.regs k) (c41 : b.regs O13.DOMAIN_FLAGS) (c42 : ∀ (w0 : ℕ), b.regs (O13.MEMBER_LAST_EPOCH w0)) (c43 : ∀ (w0 : ℕ), b.regs (O12.CELLS_IO w0)) (c44 : b.regs O05.GENERAL_FREE) (c45 : ∀ (w0 : ℕ), b.regs (O05.LARGEST_FREE w0)) (c46 : ∀ (w0 : ℕ), b.regs (O05.FREE_BYTES w0)) (c47 : b.regs O01.SHADOW_STATE) (c48 : ∀ k ∈ eventRegs 310, b.regs k) (hp3 : Within b p3) : WithinOut b (execAbort p0 p1 p2 p3) := by
  unfold execAbort
  refine requestPlain_within qsent qsess qmail (fun u hu => ?_) (fun u => ?_) hp3
  · refine ite_elim (P := WithinO b) ?_ ?_
    · exact hu
    · exact State.opAbort_within qevu qsent qsess qmail qjobs qdomain qfurlongs qfabric qfmem qchain c10 c11 c12 c13 c14 c15 c16 c17 c18 c19 c20 c21 c22 c23 c24 c25 c26 c27 c28 c29 c30 c31 c32 c33 c34 c35 c36 c37 c38 c39 c40 c41 c42 c43 c44 c45 c46 c47 c48 hu
  · exact ite_elim (P := Outcome.Bare) bare_plain opAbort_bare

theorem execDiscard_narrow {b : Bounds} {p0 p1 p2 p3} (qsent : b.parts .sent) (qsess : b.parts .sess) (qmail : b.parts .mail) (qevu : b.parts .evu) (qchain : b.parts .chain) (c2 : b.regs (O1C.SESS_TX_OPEN p0)) (c3 : ∀ k ∈ eventRegs 452, b.regs k) (c4 : b.regs O1C.FILULO_FLAGS) (hp3 : Within b p3) : WithinOut b (execDiscard p0 p1 p2 p3) := by
  unfold execDiscard
  refine requestPlain_within qsent qsess qmail (fun u hu => ?_) (fun u => ?_) hp3
  · refine ite_elim (P := WithinO b) ?_ ?_
    · exact hu
    · exact State.opDiscard_within qevu qchain c2 c3 c4 hu
  · exact ite_elim (P := Outcome.Bare) bare_plain opDiscard_bare

theorem execJobSuspend_narrow {b : Bounds} {p0 p1 p2 p3} (qsent : b.parts .sent) (qevu : b.parts .evu) (qsess : b.parts .sess) (qmail : b.parts .mail) (qjobs : b.parts .jobs) (c5 : b.regs (O1B.JOB_STATUS (p2 % 65536))) (c6 : ∀ w0, b.regs (O1C.SESS_QUEUE w0)) (c7 : ∀ k ∈ eventRegs 451, b.regs k) (c8 : b.regs O1C.FILULO_FLAGS) (c9 : ∀ k ∈ eventRegs 434, b.regs k) (c10 : b.regs O1B.JOBS_QUEUED) (c11 : b.regs O1B.JOBS_RUNNING) (c12 : b.regs (O1B.JOB_STARTED (p2 % 65536))) (c13 : b.regs (O1B.JOB_STATE (p2 % 65536))) (c14 : b.regs (O1B.JOB_RESULT (p2 % 65536))) (c15 : b.regs (O1B.JOB_OWNER (p2 % 65536))) (c16 : b.regs (O1B.JOB_ENDED (p2 % 65536))) (c17 : b.regs (O1B.JOB_PROGRESS (p2 % 65536))) (c18 : b.regs (O1B.JOB_OBJECT (p2 % 65536))) (hp3 : Within b p3) : WithinOut b (execJobSuspend p0 p1 p2 p3) := by
  unfold execJobSuspend
  refine requestPlain_within qsent qsess qmail (fun u hu => ?_) (fun u => ?_) hp3
  · refine operate_job (P := WithinO b) hu ?_
    rw [show (p2 % 65536 + 1 * 65536) % 65536 = p2 % 65536 by omega]
    exact State.opJob_within qsent qevu qsess qmail qjobs c5 c6 c7 c8 c9 c10 c11 c12 c13 c14 c15 c16 c17 c18 hu
  · exact operate_job (P := Outcome.Bare) bare_plain opJob_bare

theorem execJobResume_narrow {b : Bounds} {p0 p1 p2 p3} (qsent : b.parts .sent) (qevu : b.parts .evu) (qsess : b.parts .sess) (qmail : b.parts .mail) (qjobs : b.parts .jobs) (c5 : b.regs (O1B.JOB_STATUS (p2 % 65536))) (c6 : ∀ w0, b.regs (O1C.SESS_QUEUE w0)) (c7 : ∀ k ∈ eventRegs 451, b.regs k) (c8 : b.regs O1C.FILULO_FLAGS) (c9 : ∀ k ∈ eventRegs 434, b.regs k) (c10 : b.regs O1B.JOBS_QUEUED) (c11 : b.regs O1B.JOBS_RUNNING) (c12 : b.regs (O1B.JOB_STARTED (p2 % 65536))) (c13 : b.regs (O1B.JOB_STATE (p2 % 65536))) (c14 : b.regs (O1B.JOB_RESULT (p2 % 65536))) (c15 : b.regs (O1B.JOB_OWNER (p2 % 65536))) (c16 : b.regs (O1B.JOB_ENDED (p2 % 65536))) (c17 : b.regs (O1B.JOB_PROGRESS (p2 % 65536))) (c18 : b.regs (O1B.JOB_OBJECT (p2 % 65536))) (hp3 : Within b p3) : WithinOut b (execJobResume p0 p1 p2 p3) := by
  unfold execJobResume
  refine requestPlain_within qsent qsess qmail (fun u hu => ?_) (fun u => ?_) hp3
  · refine operate_job (P := WithinO b) hu ?_
    rw [show (p2 % 65536 + 2 * 65536) % 65536 = p2 % 65536 by omega]
    exact State.opJob_within qsent qevu qsess qmail qjobs c5 c6 c7 c8 c9 c10 c11 c12 c13 c14 c15 c16 c17 c18 hu
  · exact operate_job (P := Outcome.Bare) bare_plain opJob_bare

theorem execJobCancel_narrow {b : Bounds} {p0 p1 p2 p3} (qsent : b.parts .sent) (qevu : b.parts .evu) (qsess : b.parts .sess) (qmail : b.parts .mail) (qjobs : b.parts .jobs) (c5 : b.regs (O1B.JOB_STATUS (p2 % 65536))) (c6 : ∀ w0, b.regs (O1C.SESS_QUEUE w0)) (c7 : ∀ k ∈ eventRegs 451, b.regs k) (c8 : b.regs O1C.FILULO_FLAGS) (c9 : ∀ k ∈ eventRegs 434, b.regs k) (c10 : b.regs O1B.JOBS_QUEUED) (c11 : b.regs O1B.JOBS_RUNNING) (c12 : b.regs (O1B.JOB_STARTED (p2 % 65536))) (c13 : b.regs (O1B.JOB_STATE (p2 % 65536))) (c14 : b.regs (O1B.JOB_RESULT (p2 % 65536))) (c15 : b.regs (O1B.JOB_OWNER (p2 % 65536))) (c16 : b.regs (O1B.JOB_ENDED (p2 % 65536))) (c17 : b.regs (O1B.JOB_PROGRESS (p2 % 65536))) (c18 : b.regs (O1B.JOB_OBJECT (p2 % 65536))) (hp3 : Within b p3) : WithinOut b (execJobCancel p0 p1 p2 p3) := by
  unfold execJobCancel
  refine requestPlain_within qsent qsess qmail (fun u hu => ?_) (fun u => ?_) hp3
  · refine operate_job (P := WithinO b) hu ?_
    rw [show (p2 % 65536 + 3 * 65536) % 65536 = p2 % 65536 by omega]
    exact State.opJob_within qsent qevu qsess qmail qjobs c5 c6 c7 c8 c9 c10 c11 c12 c13 c14 c15 c16 c17 c18 hu
  · exact operate_job (P := Outcome.Bare) bare_plain opJob_bare

theorem execJobRelease_narrow {b : Bounds} {p0 p1 p2 p3} (qsent : b.parts .sent) (qevu : b.parts .evu) (qsess : b.parts .sess) (qmail : b.parts .mail) (qjobs : b.parts .jobs) (c5 : b.regs (O1B.JOB_STATUS (p2 % 65536))) (c6 : ∀ w0, b.regs (O1C.SESS_QUEUE w0)) (c7 : ∀ k ∈ eventRegs 451, b.regs k) (c8 : b.regs O1C.FILULO_FLAGS) (c9 : ∀ k ∈ eventRegs 434, b.regs k) (c10 : b.regs O1B.JOBS_QUEUED) (c11 : b.regs O1B.JOBS_RUNNING) (c12 : b.regs (O1B.JOB_STARTED (p2 % 65536))) (c13 : b.regs (O1B.JOB_STATE (p2 % 65536))) (c14 : b.regs (O1B.JOB_RESULT (p2 % 65536))) (c15 : b.regs (O1B.JOB_OWNER (p2 % 65536))) (c16 : b.regs (O1B.JOB_ENDED (p2 % 65536))) (c17 : b.regs (O1B.JOB_PROGRESS (p2 % 65536))) (c18 : b.regs (O1B.JOB_OBJECT (p2 % 65536))) (hp3 : Within b p3) : WithinOut b (execJobRelease p0 p1 p2 p3) := by
  unfold execJobRelease
  refine requestPlain_within qsent qsess qmail (fun u hu => ?_) (fun u => ?_) hp3
  · refine operate_job (P := WithinO b) hu ?_
    rw [show (p2 % 65536 + 4 * 65536) % 65536 = p2 % 65536 by omega]
    exact State.opJob_within qsent qevu qsess qmail qjobs c5 c6 c7 c8 c9 c10 c11 c12 c13 c14 c15 c16 c17 c18 hu
  · exact operate_job (P := Outcome.Bare) bare_plain opJob_bare

theorem execSubscribe_narrow {b : Bounds} {p0 p1 p2 p3} (qsent : b.parts .sent) (qmail : b.parts .mail) (qboot : b.parts .boot) (qkeys : b.parts .keys) (qsess : b.parts .sess) (c1 : b.regs (O1C.SESS_SUBS p0)) (hp3 : Within b p3) : WithinOut b (execSubscribe p0 p1 p2 p3) := by
  unfold execSubscribe
  refine requestKept_within qsent qsess qmail qboot qkeys (fun u hu => ?_) (fun u => ?_) hp3
  · refine ite_elim (P := WithinO b) ?_ ?_
    · exact hu
    · exact State.opSubscribe_within qsess c1 hu
  · exact ite_elim (P := Outcome.Kept) rfl opSubscribe_kept

theorem execUnsubscribe_narrow {b : Bounds} {p0 p1 p2 p3} (qsent : b.parts .sent) (qmail : b.parts .mail) (qsess : b.parts .sess) (c1 : b.regs (O1C.SESS_SUBS p0)) (hp3 : Within b p3) : WithinOut b (execUnsubscribe p0 p1 p2 p3) := by
  unfold execUnsubscribe
  refine requestPlain_within qsent qsess qmail (fun u hu => ?_) (fun u => ?_) hp3
  · refine ite_elim (P := WithinO b) ?_ ?_
    · exact hu
    · exact State.opUnsubscribe_within qsess c1 hu
  · exact ite_elim (P := Outcome.Bare) bare_plain opUnsubscribe_bare

theorem execBulkPut_narrow {b : Bounds} {p0 p1 p2 p3 p4 p5 p6} (qsent : b.parts .sent) (qsess : b.parts .sess) (qmail : b.parts .mail) (qboot : b.parts .boot) (qkeys : b.parts .keys) (qjobs : b.parts .jobs) (hp6 : Within b p6) : WithinOut b (execBulkPut p0 p1 p2 p3 p4 p5 p6) := by
  unfold execBulkPut
  refine requestKept_within qsent qsess qmail qboot qkeys (fun u hu => ?_) (fun u => ?_) hp6
  · refine ite_elim (P := WithinO b) ?_ ?_
    · exact hu
    · exact State.opBulkPut_within qjobs hu
  · exact ite_elim (P := Outcome.Kept) rfl opBulkPut_kept

theorem execBulkGet_narrow {b : Bounds} {p0 p1 p2 p3 p4 p5} (qkeys : b.parts .keys) (qjobs : b.parts .jobs) (qsent : b.parts .sent) (qevu : b.parts .evu) (qsess : b.parts .sess) (qmail : b.parts .mail) (qfabric : b.parts .fabric) (qfmem : b.parts .fmem) (qboot : b.parts .boot) (c8 : b.regs (O1B.JOB_ENDED (p2 % 65536))) (c9 : b.regs (O1B.JOB_STATUS (p2 % 65536))) (c10 : b.regs (O1B.JOB_RESULT (p2 % 65536))) (c11 : b.regs (O1B.JOB_PROGRESS (p2 % 65536))) (c12 : b.regs O1B.JOBS_QUEUED) (c13 : b.regs O1B.JOBS_RUNNING) (c14 : ∀ (w0 : ℕ), b.regs (O1C.SESS_QUEUE w0)) (c15 : b.regs O1C.FILULO_FLAGS) (c16 : ∀ (w0 : ℕ), b.regs (O1B.JOB_STARTED w0)) (c17 : ∀ (w0 : ℕ), b.regs (O1B.JOB_STATE w0)) (c18 : ∀ (w0 : ℕ), ∀ k ∈ eventRegs w0, b.regs k) (c19 : b.regs O00.DEV_FLAGS) (c20 : ∀ (w0 : ℕ), b.regs (O05.CLIP_LOADED w0)) (c21 : ∀ (w0 : ℕ), b.regs (O05.CLIP_STATE w0)) (c22 : ∀ (w0 : ℕ), b.regs (O09.LUT_STATE w0)) (c23 : b.regs O18.FW_PHASE) (hp5 : Within b p5) : WithinOut b (execBulkGet p0 p1 p2 p3 p4 p5) := by
  unfold execBulkGet
  refine requestKept_within qsent qsess qmail qboot qkeys (fun u hu => ?_) (fun u => ?_) hp5
  · refine operate_bulkget (P := WithinO b) hu ?_
    rw [show (p2 % 65536 + p3 * 65536) % 65536 = p2 % 65536 by omega]
    exact State.opBulkGet_within qjobs qsent qevu qsess qmail qfabric qfmem qboot c8 c9 c10 c11 c12 c13 c14 c15 c16 c17 c18 c19 c20 c21 c22 c23 hu
  · exact operate_bulkget (P := Outcome.Kept) rfl opBulkGet_kept

/-- A key is the object of its class, instance and parameter. -/
theorem key_of {k : Key} {c p : Nat} (hc : clsOf k = c) (hp : parOf k = p) : k = obKey c (instOf k) p := by
  unfold clsOf at hc
  unfold parOf at hp
  have h : @Eq Nat k (c * 0x1000000 + k / 0x1000 % 0x1000 * 0x1000 + p) := by omega
  exact h

/-- What holds at the start of a fold and is handed on by each element of the list holds at its end. -/
theorem foldl_mem {α β : Type} {P : β → Prop} {f : β → α → β} {l : List α} {s : β} (h : P s) (hf : ∀ t a, a ∈ l → P t → P (f t a)) :
    P (l.foldl f s) := by
  induction l generalizing s with
  | nil => exact h
  | cons x l ih => exact ih (hf s x (List.mem_cons_self ..) h) fun t a ha => hf t a (List.mem_cons_of_mem _ ha)

theorem execAckAll_narrow {b : Bounds} {p0} (c0 : ∀ w0, b.regs (O1A.EV_STATUS w0)) (hp0 : Within b p0) : WithinOut b (execAckAll p0) := by
  unfold execAckAll
  refine live_within hp0 fun u hu => ?_
  refine ite_elim (P := Within b) ?_ hu
  unfold State.actAckAll State.forEach
  refine foldl_mem (P := Within b) hu fun t e he ht => ?_
  have h := List.of_mem_filter he
  simp only [Bool.and_eq_true, beq_iff_eq] at h
  refine State.setN_within ?_ ht
  have k : e.1 = O1A.EV_STATUS (instOf e.1) := key_of h.1 h.2
  exact k ▸ c0 _

theorem execRouteDefaults_narrow {b : Bounds} {p0} (qjrnl : b.parts .jrnl) (c1 : ∀ w0, b.regs (O1A.EV_MASK w0))
    (c2 : ∀ w0, b.regs (O1A.EV_SEVERITY w0)) (c3 : ∀ w0, b.regs (O1A.EV_ROUTE w0)) (hp0 : Within b p0) :
    WithinOut b (execRouteDefaults p0) := by
  unfold execRouteDefaults
  refine live_within hp0 fun u hu => ?_
  refine ite_elim (P := Within b) hu ?_
  unfold State.actRouteDefaults State.forEach
  refine foldl_mem (P := Within b) hu fun t e he ht => ?_
  have h := List.of_mem_filter he
  simp only [Bool.and_eq_true, beq_iff_eq, decide_eq_true_eq] at h
  refine State.journal_within qjrnl (State.clearObj_within ?_ ht)
  have k : e.1 = obKey 0x1A (instOf e.1) (parOf e.1) := key_of h.1 rfl
  have p : parOf e.1 = 1 ∨ parOf e.1 = 2 ∨ parOf e.1 = 3 := by omega
  rcases p with p | p | p <;> rw [p] at k
  · exact k ▸ c1 _
  · exact k ▸ c2 _
  · exact k ▸ c3 _

end Sys2Proof.Machine
end

