-- ==== Sys2Proof/Laws/WithinSequencer.lean ====
section
/-! SUPPORT. What each operation of Machine/Sequencer.lean may change at most (Laws/Within.lean). -/

set_option maxRecDepth 8000

namespace Sys2Proof.Machine

theorem State.periodStart_within {b : Bounds} {p0} (qamx : b.parts .amx) (qfresh : b.parts .fresh) (qsent : b.parts .sent) (qnet : b.parts .net) (qevu : b.parts .evu) (c5 : ∀ (w0 : ℕ), b.regs (O0C.PLAYER_STATE w0)) (c6 : ∀ k ∈ eventRegs 201, b.regs k) (hp0 : Within b p0) : Within b (State.periodStart p0) := by
  unfold State.periodStart
  refine ite_elim (P := Within b) ?_ ?_
  · refine State.embedPeriod_within qamx qfresh qsent ?_
    refine State.deembPeriod_within qamx ?_
    exact hp0
  · refine State.sendersHear_within qfresh qnet ?_
    refine State.rxPeriod_within qfresh qamx qnet ?_
    refine State.embedPeriod_within qamx qfresh qsent ?_
    refine State.deembPeriod_within qamx ?_
    refine State.matrixPeriod_within qamx qevu c5 c6 ?_
    exact hp0

theorem State.tickWork_within {b : Bounds} {p0} (qamx : b.parts .amx) (qfresh : b.parts .fresh) (qsent : b.parts .sent) (qnet : b.parts .net) (qevu : b.parts .evu) (qaudio : b.parts .audio) (qsess : b.parts .sess) (qmail : b.parts .mail) (qjobs : b.parts .jobs) (qfabric : b.parts .fabric) (qfmem : b.parts .fmem) (qboot : b.parts .boot) (qcues : b.parts .cues) (qfurlongs : b.parts .furlongs) (qdomain : b.parts .domain) (c15 : ∀ (w0 : ℕ), b.regs (O0C.PLAYER_STATE w0)) (c16 : ∀ (w0 : ℕ), b.regs (State.indexKey w0)) (c17 : ∀ (w0 : ℕ), b.regs (O0A.GROUP_STATE w0)) (c18 : ∀ (w0 : ℕ), b.regs (State.stateKey w0)) (c19 : ∀ (w0 : ℕ), b.regs (O0A.GROUP_FAULTS w0)) (c20 : ∀ (w0 : ℕ), b.regs (State.portKey w0 (O0A.IN_LATENCY 0))) (c21 : ∀ (w0 : ℕ), b.regs (State.portKey w0 (O0A.OUT_LATENCY 0))) (c22 : ∀ (w0 w1 : ℕ), b.regs (O0C.DEST_PEAK w0 w1)) (c23 : ∀ (w0 w1 : ℕ), b.regs (O0C.SOURCE_PEAK w0 w1)) (c24 : ∀ (w0 : ℕ), b.regs (O1B.JOB_STATUS w0)) (c25 : b.regs O1B.JOBS_QUEUED) (c26 : b.regs O1B.JOBS_RUNNING) (c27 : ∀ (w0 : ℕ), b.regs (O1C.SESS_QUEUE w0)) (c28 : b.regs O1C.FILULO_FLAGS) (c29 : ∀ (w0 : ℕ), b.regs (O1B.JOB_STARTED w0)) (c30 : ∀ (w0 : ℕ), b.regs (O1B.JOB_STATE w0)) (c31 : ∀ (w0 : ℕ), b.regs (O1B.JOB_ENDED w0)) (c32 : ∀ (w0 : ℕ), b.regs (O1B.JOB_RESULT w0)) (c33 : ∀ (w0 : ℕ), b.regs (O1B.JOB_PROGRESS w0)) (c34 : ∀ (w0 : ℕ), ∀ k ∈ eventRegs w0, b.regs k) (c35 : b.regs O00.DEV_FLAGS) (c36 : ∀ (w0 : ℕ), b.regs (O05.CLIP_LOADED w0)) (c37 : ∀ (w0 : ℕ), b.regs (O05.CLIP_STATE w0)) (c38 : ∀ (w0 : ℕ), b.regs (O09.LUT_STATE w0)) (c39 : b.regs O18.FW_PHASE) (c40 : ∀ (w0 : ℕ), b.regs (O14.ACTIONS w0)) (c41 : ∀ (w0 : ℕ), b.regs (O14.CUE_FLAGS w0)) (c42 : ∀ (w0 : ℕ), b.regs (O14.CE_STATUS w0)) (c43 : ∀ (w0 : ℕ), b.regs (O14.LAST_ERROR w0)) (c44 : ∀ (w0 : ℕ), b.regs (O14.ACTION_ERRORS w0)) (c45 : ∀ (w0 : ℕ), b.regs (O16.GEN_RUN w0)) (c46 : ∀ (w0 : ℕ), b.regs (O14.QUEUE_DEPTH w0)) (c47 : ∀ (w0 : ℕ), b.regs (O14.FIRED w0)) (c48 : ∀ (w0 : ℕ), b.regs (O14.QUEUE_DROPS w0)) (c49 : ∀ (w0 : ℕ), b.regs (O14.DEFERRED w0)) (c50 : ∀ (w0 : ℕ), b.regs (O12.BEACONS_MISSED w0)) (c51 : b.regs O13.MISSED_BEACONS) (c52 : ∀ (w0 : ℕ), b.regs (O12.FURLONG_STATE w0)) (c53 : b.regs O13.DOMAIN_EPOCH) (c54 : b.regs O13.BACKUP_DEVICE) (c55 : ∀ (w0 : ℕ), b.regs (O12.CELLS_IO w0)) (c56 : ∀ (w0 : ℕ), b.regs (O13.MEMBER_STATE w0)) (c57 : b.regs O13.MASTER_DEVICE) (c58 : b.regs O13.DOMAIN_STATE) (c59 : b.regs O1C.TX_LAST) (c60 : ∀ (w0 : ℕ), b.regs (O12.RELAY_CELLS w0)) (c61 : ∀ (w0 : ℕ), b.regs (O0E.LOST_AB w0)) (c62 : ∀ (w0 : ℕ), b.regs (O0E.RX_FLAGS w0)) (c63 : ∀ (w0 : ℕ), b.regs (O0E.UNRECOVERED w0)) (c64 : ∀ (w0 : ℕ), b.regs (O0E.SKEW w0)) (hp0 : Within b p0) : Within b (State.tickWork p0) := by
  unfold State.tickWork
  extract_lets -merge -useContext -underBinder x1 x2 x3 x4
  have hx2 : Within b x2 := by
    unfold x2
    refine ite_elim (P := Within b) ?_ ?_
    · refine State.periodStart_within qamx qfresh qsent qnet qevu c15 (c34 _) ?_
      exact hp0
    · exact hp0
  try clear_value x2
  have hx3 : Within b x3 := by
    unfold x3
    refine State.audioTick_within qevu qaudio qfresh qamx c16 (c34 _) c17 c18 c19 c20 c21 ?_
    exact hx2
  try clear_value x3
  have hx4 : Within b x4 := by
    unfold x4
    refine ite_elim (P := Within b) ?_ ?_
    · refine State.meters_within qamx c22 c23 ?_
      exact hx3
    · exact hx3
  try clear_value x4
  refine State.jobBoundary_within qsent qevu qsess qmail qjobs qfabric qfmem qboot c24 c25 c26 c27 c28 c29 c30 c31 c32 c33 c34 c35 c36 c37 c38 c39 ?_
  refine State.cueTick_within qcues qevu c40 c41 (c34 _) c42 c43 c44 c45 c46 c47 (c34 _) (c34 _) c48 (c34 _) c49 ?_
  refine State.cascadeTick_within qfurlongs qdomain qsent qevu qsess qmail c50 c51 c52 c53 c54 c55 c56 c57 c58 c27 (c34 _) c28 c59 (c34 _) c60 ?_
  refine State.rxTick_within qevu qnet c61 (c34 _) c62 c63 c64 (c34 _) ?_
  exact hx4

theorem State.punctual_within {b : Bounds} {p0} (qevu : b.parts .evu) (hp0 : Within b p0) : Within b (State.punctual p0) := by
  unfold State.punctual
  extract_lets -merge -useContext -underBinder x1
  refine Within.f_evu (s := p0) qevu (fun i => i) ?_
  exact hp0

/-- The residue stays below one cycle (R43). -/
theorem tickResidue_lt (k : TickSt) : (tickResidue k).toNat < 2 ^ 40 := by
  unfold tickResidue
  rw [BitVec.toNat_and]
  exact Nat.lt_of_le_of_lt Nat.and_le_right (by decide)

theorem State.tickBoundary_within {b : Bounds} {p0} (qtick : b.parts .tick) (qevu : b.parts .evu) (qchain : b.parts .chain) (qfabric : b.parts .fabric) (qamx : b.parts .amx) (qfresh : b.parts .fresh) (qsent : b.parts .sent) (qnet : b.parts .net) (qaudio : b.parts .audio) (qsess : b.parts .sess) (qmail : b.parts .mail) (qjobs : b.parts .jobs) (qfmem : b.parts .fmem) (qboot : b.parts .boot) (qcues : b.parts .cues) (qfurlongs : b.parts .furlongs) (qdomain : b.parts .domain) (qclocks : b.parts .clocks) (qbus : b.parts .bus) (qbytes : b.parts .bytes) (qram : b.parts .ram) (c21 : ∀ (w0 : ℕ), b.regs (O0C.PLAYER_STATE w0)) (c22 : ∀ (w0 : ℕ), b.regs (State.indexKey w0)) (c23 : ∀ (w0 : ℕ), b.regs (O0A.GROUP_STATE w0)) (c24 : ∀ (w0 : ℕ), b.regs (State.stateKey w0)) (c25 : ∀ (w0 : ℕ), b.regs (O0A.GROUP_FAULTS w0)) (c26 : ∀ (w0 : ℕ), b.regs (State.portKey w0 (O0A.IN_LATENCY 0))) (c27 : ∀ (w0 : ℕ), b.regs (State.portKey w0 (O0A.OUT_LATENCY 0))) (c28 : ∀ (w0 w1 : ℕ), b.regs (O0C.DEST_PEAK w0 w1)) (c29 : ∀ (w0 w1 : ℕ), b.regs (O0C.SOURCE_PEAK w0 w1)) (c30 : ∀ (w0 : ℕ), b.regs (O1B.JOB_STATUS w0)) (c31 : b.regs O1B.JOBS_QUEUED) (c32 : b.regs O1B.JOBS_RUNNING) (c33 : ∀ (w0 : ℕ), b.regs (O1C.SESS_QUEUE w0)) (c34 : b.regs O1C.FILULO_FLAGS) (c35 : ∀ (w0 : ℕ), b.regs (O1B.JOB_STARTED w0)) (c36 : ∀ (w0 : ℕ), b.regs (O1B.JOB_STATE w0)) (c37 : ∀ (w0 : ℕ), b.regs (O1B.JOB_ENDED w0)) (c38 : ∀ (w0 : ℕ), b.regs (O1B.JOB_RESULT w0)) (c39 : ∀ (w0 : ℕ), b.regs (O1B.JOB_PROGRESS w0)) (c40 : ∀ (w0 : ℕ), ∀ k ∈ eventRegs w0, b.regs k) (c41 : b.regs O00.DEV_FLAGS) (c42 : ∀ (w0 : ℕ), b.regs (O05.CLIP_LOADED w0)) (c43 : ∀ (w0 : ℕ), b.regs (O05.CLIP_STATE w0)) (c44 : ∀ (w0 : ℕ), b.regs (O09.LUT_STATE w0)) (c45 : b.regs O18.FW_PHASE) (c46 : ∀ (w0 : ℕ), b.regs (O14.ACTIONS w0)) (c47 : ∀ (w0 : ℕ), b.regs (O14.CUE_FLAGS w0)) (c48 : ∀ (w0 : ℕ), b.regs (O14.CE_STATUS w0)) (c49 : ∀ (w0 : ℕ), b.regs (O14.LAST_ERROR w0)) (c50 : ∀ (w0 : ℕ), b.regs (O14.ACTION_ERRORS w0)) (c51 : ∀ (w0 : ℕ), b.regs (O16.GEN_RUN w0)) (c52 : ∀ (w0 : ℕ), b.regs (O14.QUEUE_DEPTH w0)) (c53 : ∀ (w0 : ℕ), b.regs (O14.FIRED w0)) (c54 : ∀ (w0 : ℕ), b.regs (O14.QUEUE_DROPS w0)) (c55 : ∀ (w0 : ℕ), b.regs (O14.DEFERRED w0)) (c56 : ∀ (w0 : ℕ), b.regs (O12.BEACONS_MISSED w0)) (c57 : b.regs O13.MISSED_BEACONS) (c58 : ∀ (w0 : ℕ), b.regs (O12.FURLONG_STATE w0)) (c59 : b.regs O13.DOMAIN_EPOCH) (c60 : b.regs O13.BACKUP_DEVICE) (c61 : ∀ (w0 : ℕ), b.regs (O12.CELLS_IO w0)) (c62 : ∀ (w0 : ℕ), b.regs (O13.MEMBER_STATE w0)) (c63 : b.regs O13.MASTER_DEVICE) (c64 : b.regs O13.DOMAIN_STATE) (c65 : b.regs O1C.TX_LAST) (c66 : ∀ (w0 : ℕ), b.regs (O12.RELAY_CELLS w0)) (c67 : ∀ (w0 : ℕ), b.regs (O0E.LOST_AB w0)) (c68 : ∀ (w0 : ℕ), b.regs (O0E.RX_FLAGS w0)) (c69 : ∀ (w0 : ℕ), b.regs (O0E.UNRECOVERED w0)) (c70 : ∀ (w0 : ℕ), b.regs (O0E.SKEW w0)) (c71 : ∀ (w0 : ℕ), b.regs (O05.STACK_FLAGS w0)) (c72 : ∀ (w0 : ℕ), b.regs (O05.LAST_ERROR_PIN w0)) (c73 : ∀ (w0 : ℕ), b.regs (O05.LAST_ERROR_ADDR w0)) (c74 : ∀ (w0 : ℕ), b.regs (O05.CE_COUNT w0)) (c75 : ∀ (w0 : ℕ), b.regs (O05.PIN_CE w0)) (c76 : ∀ (w0 : ℕ), b.regs (O17.TRANSACTIONS w0)) (c77 : ∀ (w0 : ℕ), b.regs (O17.TARGET_ERRORS w0)) (c78 : ∀ (w0 : ℕ), b.regs (O17.ERROR_RESPONSES w0)) (c79 : ∀ (w0 : ℕ), b.regs (O17.QOS_LAST w0)) (hp0 : Within b p0) : Within b (State.tickBoundary p0) := by
  unfold State.tickBoundary
  extract_lets -merge -useContext -underBinder x1 x2 x3
  have hx1 : Within b x1 := by
    unfold x1
    refine Within.f_tick (s := p0) qtick (fun i => ⟨i.1, i.2.1, i.2.2.1, ?_, i.2.2.2.2⟩) hp0
    unfold TickSt.next
    dsimp only
    split
    · exact tickResidue_lt _
    · exact i.2.2.2.1
  try clear_value x1
  have hx2 : Within b x2 := by
    unfold x2
    refine State.punctual_within qevu ?_
    refine State.onChain_within qchain ?_
    exact hx1
  try clear_value x2
  refine ite_elim (P := Within b) ?_ ?_
  · refine State.poolTick_within qfabric ?_
    refine State.tickWork_within qamx qfresh qsent qnet qevu qaudio qsess qmail qjobs qfabric qfmem qboot qcues qfurlongs qdomain c21 c22 c23 c24 c25 c26 c27 c28 c29 c30 c31 c32 c33 c34 c35 c36 c37 c38 c39 c40 c41 c42 c43 c44 c45 c46 c47 c48 c49 c50 c51 c52 c53 c54 c55 c56 c57 c58 c59 c60 c61 c62 c63 c64 c65 c66 c67 c68 c69 c70 ?_
    refine State.pinTick_within qsent qclocks ?_
    refine State.synthTick_within qclocks ?_
    refine State.hbmTick_within qbus qevu qfmem qbytes qfresh qram qsent c71 c72 c73 c74 c75 (c40 _) (c40 _) c76 c77 c78 c79 ?_
    exact hx2
  · refine State.hbmTick_within qbus qevu qfmem qbytes qfresh qram qsent c71 c72 c73 c74 c75 (c40 _) (c40 _) c76 c77 c78 c79 ?_
    refine State.punctual_within qevu ?_
    refine Within.f_tick (s := p0) qtick (fun i => i) ?_
    exact hp0

theorem State.clearSubst_within {b : Bounds} {p0} (qfabric : b.parts .fabric) (hp0 : Within b p0) : Within b (State.clearSubst p0) := by
  unfold State.clearSubst
  extract_lets -merge -useContext -underBinder x1
  refine Within.f_fabric (s := p0) qfabric ?_
  exact hp0

theorem State.spillDetection_within {b : Bounds} {p0} (qfabric : b.parts .fabric) (qchain : b.parts .chain) (qevu : b.parts .evu) (qamx : b.parts .amx) (qnet : b.parts .net) (qdests : b.parts .dests) (qinputs : b.parts .inputs) (c7 : b.regs O01.LAST_SPILL_TICK) (c8 : b.regs O01.SPILL_ENTRIES) (c9 : b.regs O01.SPILL_TICKS) (c10 : b.regs O01.LAST_SPILL_STREAMS) (c11 : b.regs O01.LAST_SPILL_COUNT) (c12 : ∀ k ∈ eventRegs 65, b.regs k) (c13 : b.regs O01.SPILL_CAUSES) (c14 : ∀ k ∈ eventRegs 20, b.regs k) (c15 : ∀ (w0 : ℕ), b.regs (O04.PORT_FLAGS w0)) (c16 : ∀ (w0 : ℕ), b.regs (O04.ABANDONED_CELLS w0)) (c17 : ∀ (w0 : ℕ), b.regs (O10.SF_FRAMES w0)) (c18 : ∀ k ∈ eventRegs 245, b.regs k) (c19 : ∀ (w0 : ℕ), b.regs (O0F.PORT_FLAGS w0)) (c20 : ∀ (w0 : ℕ), b.regs (O0F.DROPS w0)) (c21 : ∀ k ∈ eventRegs 256, b.regs k) (c22 : ∀ (w0 : ℕ), b.regs (O10.SF_FLAGS w0)) (c23 : ∀ (w0 : ℕ), b.regs (O10.SH_DROPS w0)) (c24 : ∀ (w0 : ℕ), b.regs (O10.CBS_CREDIT w0)) (c25 : ∀ (w0 : ℕ), b.regs (O10.SH_ELIGIBLE w0)) (c26 : ∀ (w0 : ℕ), b.regs (O10.SH_QUEUED w0)) (c27 : ∀ (w0 : ℕ), b.regs (O10.SH_LEVEL w0)) (c28 : ∀ (w0 : ℕ), b.regs (O0D.SEND_FLAGS w0)) (c29 : ∀ (w0 : ℕ), b.regs (O07.OUT_FLAGS w0)) (hp0 : Within b p0) : Within b (State.spillDetection p0) := by
  unfold State.spillDetection
  extract_lets -merge -useContext -underBinder x1 x2 x3
  have hx2 : Within b x2 := by
    unfold x2
    refine State.clearSubst_within qfabric ?_
    exact hp0
  try clear_value x2
  have hx3 : Within b x3 := by
    unfold x3
    refine ite_elim (P := Within b) ?_ ?_
    · refine State.quietTick_within qchain ?_
      exact hx2
    · refine State.forEach_within ?_ ?_
      · refine State.spill_within qevu qchain c7 c8 c9 c10 c11 c12 c13 c14 ?_
        refine State.forEach_within ?_ ?_
        · exact hx2
        · intro u4 u5 hu6
          try beta_reduce
          refine State.abandon_within c15 c16 ?_
          exact hu6
      · intro u7 u8 hu9
        try beta_reduce
        refine State.substWork_within qamx qnet qevu qchain qfabric c17 c18 c19 c20 c21 c22 c23 c24 c25 c26 c27 c28 ?_
        exact hu9
  try clear_value x3
  refine State.onChain_within qchain ?_
  refine State.markSubst_within qdests qfabric qinputs c29 ?_
  exact hx3

theorem State.sampleStrobe_within {b : Bounds} {p0} (qsample : b.parts .sample) (c1 : b.regs O01.TICK_NOW) (hp0 : Within b p0) : Within b (State.sampleStrobe p0) := by
  unfold State.sampleStrobe
  extract_lets -merge -useContext -underBinder x1
  have hx1 : Within b x1 := State.setN_within c1 hp0
  clear_value x1
  refine Within.f_sample (s := x1) qsample (fun i => ⟨i.1, ?_, i.2.2⟩) hx1
  have h := i.1
  unfold State.regsOk at h
  rw [Bool.and_eq_true] at h
  exact SMap.rising_filter _ h.1

theorem State.writeTper_within {b : Bounds} {p0 p1} (qtick : b.parts .tick) (qevu : b.parts .evu) (qtiming : b.parts .timing) (c3 : b.regs O01.TICK_PERIOD) (c4 : ∀ k ∈ eventRegs 23, b.regs k) (hp0 : Within b p0) : Within b (State.writeTper p0 p1) := by
  unfold State.writeTper
  extract_lets -merge -useContext -underBinder x1 x2 x3 x4
  have hx3 : Within b x3 := by
    unfold x3
    refine State.setN_within c3 ?_
    refine Within.f_tick (s := p0) qtick (fun i => i) ?_
    exact hp0
  try clear_value x3
  refine ite_elim (P := Within b) ?_ ?_
  · exact hx3
  · refine State.raise_within qevu c4 ?_
    refine Within.f_timing (s := x3) qtiming ?_
    exact hx3

theorem State.timingWrite_within {b : Bounds} {p0} (qtiming : b.parts .timing) (qevu : b.parts .evu) (qtick : b.parts .tick) (qclocks : b.parts .clocks) (c4 : b.regs O02.PULL_ETA) (c5 : b.regs O02.PULL_REMAIN) (c6 : ∀ k ∈ eventRegs 41, b.regs k) (c7 : b.regs O02.SEL_STATE) (c8 : ∀ k ∈ eventRegs 32, b.regs k) (c9 : b.regs O02.SWITCH_COUNT) (c10 : b.regs O02.SELECTED) (c11 : ∀ k ∈ eventRegs 46, b.regs k) (c12 : ∀ k ∈ eventRegs 34, b.regs k) (c13 : ∀ k ∈ eventRegs 33, b.regs k) (c14 : ∀ k ∈ eventRegs 44, b.regs k) (c15 : ∀ (w0 : ℕ), b.regs (O02.OUTVOTED w0)) (c16 : ∀ k ∈ eventRegs 40, b.regs k) (c17 : ∀ (w0 : ℕ), b.regs (O02.CAND_STATE w0)) (c18 : ∀ (w0 : ℕ), b.regs (O02.CAND_FLAGS w0)) (c19 : ∀ k ∈ eventRegs 35, b.regs k) (c20 : b.regs O02.OWN_QL) (c21 : b.regs O02.HOLDOVER_ELAPSED) (c22 : ∀ (w0 : ℕ), b.regs (O02.GM_QUALITY w0)) (c23 : b.regs O01.TICK_PERIOD) (c24 : ∀ k ∈ eventRegs 23, b.regs k) (hp0 : Within b p0) : Within b (State.timingWrite p0) := by
  unfold State.timingWrite
  extract_lets -merge -useContext -underBinder x1
  have hx1 : Within b x1 := by
    unfold x1
    refine State.discipline_within qtiming ?_
    refine State.timingSeam_within qevu qtick qtiming qclocks c4 c5 c6 c7 c8 c9 c10 c11 c12 c13 c14 c15 c16 c17 c18 c19 c20 c21 c22 ?_
    exact hp0
  try clear_value x1
  refine State.writeWords_within qclocks ?_
  refine State.writeTper_within qtick qevu qtiming c23 c24 ?_
  exact hx1

theorem State.compareCounters_within {b : Bounds} {p0 p1 p2} (qevu : b.parts .evu) (qtick : b.parts .tick) (c2 : ∀ k ∈ eventRegs 17, b.regs k) (hp0 : Within b p0) : Within b (State.compareCounters p0 p1 p2) := by
  unfold State.compareCounters
  extract_lets -merge -useContext -underBinder x1 x2
  have hx2 : ∀ a0 a1, Within b (x2 a0 a1) := by
    unfold x2
    intro u3 u4
    try beta_reduce
    extract_lets -merge -useContext -underBinder x5
    refine Within.f_tick (s := p0) qtick (fun i => i) ?_
    exact hp0
  try clear_value x2
  refine ite_elim (P := Within b) ?_ ?_
  · refine hx2 _ _
  · refine State.raise_within qevu c2 ?_
    refine hx2 _ _

theorem State.markSeen_within {b : Bounds} {p0 p1 p2 p3 p4} (qsess : b.parts .sess) (hp0 : Within b p0) : Within b (State.markSeen p0 p1 p2 p3 p4) := by
  unfold State.markSeen
  split
  · refine State.setSess_within qsess ?_
    exact hp0
  · exact hp0

theorem State.sampled_within {b : Bounds} {p0 p1 p2 p3 p4} (qsent : b.parts .sent) (qevu : b.parts .evu) (qsess : b.parts .sess) (qmail : b.parts .mail) (c4 : b.regs (O1C.SESS_QUEUE p1)) (c5 : ∀ k ∈ eventRegs 451, b.regs k) (c6 : b.regs O1C.FILULO_FLAGS) (hp0 : Within b p0) : Within b (State.sampled p0 p1 p2 p3 p4) := by
  unfold State.sampled
  extract_lets -merge -useContext -underBinder x1 x2 x3 x4
  have hx4 : Within b x4 := by
    unfold x4
    refine State.note_within qsent qevu qsess qmail c4 c5 c6 ?_
    exact hp0
  try clear_value x4
  refine ite_elim (P := Within b) ?_ ?_
  · exact hp0
  · refine ite_elim (P := Within b) ?_ ?_
    · refine State.markSeen_within qsess ?_
      exact hx4
    · exact hx4

theorem State.sampleValue_within {b : Bounds} {p0 p1 p2 p3} (qnet : b.parts .net) (qevu : b.parts .evu) (qsent : b.parts .sent) (qsess : b.parts .sess) (qmail : b.parts .mail) (c5 : b.regs (O1C.SESS_QUEUE p1)) (c6 : ∀ k ∈ eventRegs 451, b.regs k) (c7 : b.regs O1C.FILULO_FLAGS) (hp0 : Within b p0) : Within b (State.sampleValue p0 p1 p2 p3) := by
  unfold State.sampleValue
  split
  · exact hp0
  · extract_lets -merge -useContext -underBinder x1
    have hx1 : Within2 b x1 := by
      unfold x1
      refine State.readVal_within qnet qevu ?_
      exact hp0
    try clear_value x1
    split
    · change Within2 b _
      exact hx1
    · refine State.sampled_within qsent qevu qsess qmail c5 c6 c7 ?_
      change Within2 b _
      exact hx1

theorem State.sampleSubs_within {b : Bounds} {p0} (qnet : b.parts .net) (qevu : b.parts .evu) (qsent : b.parts .sent) (qsess : b.parts .sess) (qmail : b.parts .mail) (c5 : ∀ (w0 : ℕ), b.regs (O1C.SESS_QUEUE w0)) (c6 : ∀ k ∈ eventRegs 451, b.regs k) (c7 : b.regs O1C.FILULO_FLAGS) (hp0 : Within b p0) : Within b (State.sampleSubs p0) := by
  unfold State.sampleSubs
  refine State.forEach_within ?_ ?_
  · exact hp0
  · intro u1 u2 hu3
    try beta_reduce
    split
    · exact hu3
    · refine State.forEach_within ?_ ?_
      · exact hu3
      · intro u4 u5 hu6
        try beta_reduce
        refine State.forEach_within ?_ ?_
        · exact hu6
        · intro u7 u8 hu9
          try beta_reduce
          refine State.sampleValue_within qnet qevu qsent qsess qmail (c5 _) c6 c7 ?_
          exact hu9

theorem State.seamCommit_within {b : Bounds} {p0} (qevu : b.parts .evu) (qsent : b.parts .sent) (qsess : b.parts .sess) (qmail : b.parts .mail) (qjobs : b.parts .jobs) (qdomain : b.parts .domain) (qfurlongs : b.parts .furlongs) (qfabric : b.parts .fabric) (qfmem : b.parts .fmem) (qchain : b.parts .chain) (qdests : b.parts .dests) (qamx : b.parts .amx) (qnet : b.parts .net) (qcues : b.parts .cues) (qtiming : b.parts .timing) (qclocks : b.parts .clocks) (qlanes : b.parts .lanes) (qinputs : b.parts .inputs) (qaudio : b.parts .audio) (qfresh : b.parts .fresh) (qconv : b.parts .conv) (qjrnl : b.parts .jrnl) (hk : ∀ k, b.regs k) (hp0 : Within b p0) : Within b (State.seamCommit p0) := by
  unfold State.seamCommit
  refine ite_elim (P := Within b) ?_ ?_
  · refine State.commitDecision_within qevu qsent qsess qmail qjobs qdomain qfurlongs qfabric qfmem qchain qdests qamx qnet qcues qtiming qclocks qlanes qinputs qaudio qfresh qconv qjrnl hk ?_
    exact hp0
  · split
    · refine ite_elim (P := Within b) ?_ ?_
      · refine State.missed_within qevu qsent qsess qmail qjobs qdomain qfurlongs qfabric qfmem qchain (fun _ _ => hk _) (hk _) (fun _ => hk _) (fun _ _ => hk _) (fun _ => hk _) (hk _) (hk _) (fun _ => hk _) (fun _ => hk _) (fun _ => hk _) (hk _) (hk _) (hk _) (hk _) (hk _) (hk _) (hk _) (hk _) (fun _ _ => hk _) (fun _ => hk _) (fun _ _ => hk _) (hk _) (hk _) (fun _ _ => hk _) (fun _ => hk _) (fun _ => hk _) (fun _ => hk _) (fun _ _ => hk _) (hk _) (fun _ _ => hk _) (hk _) (fun _ _ => hk _) (hk _) (fun _ => hk _) (fun _ => hk _) (hk _) (fun _ => hk _) (fun _ => hk _) (hk _) ?_
        exact hp0
      · exact hp0
    · exact hp0

theorem State.seamStep_within {b : Bounds} {p0} (qevu : b.parts .evu) (qsent : b.parts .sent) (qsess : b.parts .sess) (qmail : b.parts .mail) (qjobs : b.parts .jobs) (qdomain : b.parts .domain) (qfurlongs : b.parts .furlongs) (qfabric : b.parts .fabric) (qfmem : b.parts .fmem) (qchain : b.parts .chain) (qtick : b.parts .tick) (qtiming : b.parts .timing) (qcues : b.parts .cues) (qnet : b.parts .net) (c14 : b.regs O01.TIME_SOURCE) (c15 : b.regs O01.TIME_VALID) (c16 : b.regs O04.STREAMS_ACTIVE) (c17 : ∀ (w0 : ℕ), b.regs (O12.MEDIA_CELLS w0)) (c18 : ∀ (w0 w1 : ℕ), b.regs (O0C.DEST_TERMS w0 w1)) (c19 : ∀ (w0 : ℕ), b.regs (O0C.BLOCK_TERMS w0)) (c20 : b.regs O0C.PHASE_TERMS) (c21 : b.regs O0C.TERMS_COMMITTED) (c22 : ∀ (w0 : ℕ), b.regs (O09.BUSHEL_PATHS w0)) (c23 : ∀ (w0 : ℕ), b.regs (O09.PECK_MASK w0)) (c24 : ∀ (w0 : ℕ), b.regs (O09.BUSHEL_STATE w0)) (c25 : b.regs O09.BUSHELS_IN_SERVICE) (c26 : b.regs O09.POOL_PECKS) (c27 : b.regs O09.PECKS_COMMITTED) (c28 : b.regs O09.PECKS_FREE) (c29 : b.regs O09.PATHS_SHED) (c30 : b.regs O09.PATHS_RUNNING) (c31 : ∀ (w0 : ℕ), b.regs (O08.SALVO_LAST_STATUS w0)) (c32 : ∀ (w0 : ℕ), b.regs (O08.SALVO_LAST_TICK w0)) (c33 : ∀ k ∈ eventRegs 130, b.regs k) (c34 : ∀ (w0 : ℕ), b.regs (O1C.SESS_QUEUE w0)) (c35 : ∀ k ∈ eventRegs 451, b.regs k) (c36 : b.regs O1C.FILULO_FLAGS) (c37 : b.regs O1C.TX_LAST) (c38 : ∀ k ∈ eventRegs 321, b.regs k) (c39 : ∀ (w0 : ℕ), b.regs (O14.CE_STATUS w0)) (c40 : ∀ (w0 : ℕ), b.regs (O14.LAST_ERROR w0)) (c41 : ∀ (w0 : ℕ), b.regs (O14.ACTION_ERRORS w0)) (c42 : ∀ k ∈ eventRegs 308, b.regs k) (c43 : b.regs O13.LAST_EPOCH) (c44 : ∀ k ∈ eventRegs 312, b.regs k) (c45 : b.regs O13.DOMAIN_STATE) (c46 : ∀ k ∈ eventRegs 309, b.regs k) (c47 : b.regs O13.DOMAIN_FLAGS) (c48 : ∀ (w0 : ℕ), b.regs (O13.MEMBER_LAST_EPOCH w0)) (c49 : ∀ (w0 : ℕ), b.regs (O12.CELLS_IO w0)) (c50 : b.regs O05.GENERAL_FREE) (c51 : ∀ (w0 : ℕ), b.regs (O05.LARGEST_FREE w0)) (c52 : ∀ (w0 : ℕ), b.regs (O05.FREE_BYTES w0)) (c53 : b.regs O01.SHADOW_STATE) (c54 : ∀ k ∈ eventRegs 690, b.regs k) (hp0 : Within b p0) : Within b (State.seamStep p0) := by
  unfold State.seamStep
  split
  · refine State.stepTime_within qevu qsent qsess qmail qjobs qdomain qfurlongs qfabric qfmem qchain qtick qtiming qcues qnet c14 c15 c16 c17 c18 c19 c20 c21 c22 c23 c24 c25 c26 c27 c28 c29 c30 c31 c32 c33 c34 c35 c36 c37 c38 c39 c40 c41 c42 c43 c44 c45 c46 c47 c48 c49 c50 c51 c52 c53 c54 ?_
    exact hp0
  · exact hp0

theorem State.poolSeam_within {b : Bounds} {p0} (qevu : b.parts .evu) (qconv : b.parts .conv) (qfmem : b.parts .fmem) (qchain : b.parts .chain) (qjrnl : b.parts .jrnl) (hk : ∀ k, b.regs k) (hp0 : Within b p0) : Within b (State.poolSeam p0) := by
  unfold State.poolSeam
  extract_lets -merge -useContext -underBinder x1 x2 x3
  have hx2 : Within b x2 := by
    unfold x2
    refine State.poolCount_within (fun _ => hk _) (fun _ => hk _) (fun _ => hk _) (hk _) (hk _) (hk _) (hk _) (hk _) (hk _) ?_
    refine State.bushelSeam_within qevu qconv (fun _ _ => hk _) (fun _ => hk _) ?_
    exact hp0
  try clear_value x2
  have hx3 : Within b x3 := by
    unfold x3
    refine ite_elim (P := Within b) ?_ ?_
    · exact hx2
    · refine State.raise_within qevu (fun _ _ => hk _) ?_
      refine State.flag_within (hk _) ?_
      exact hx2
  try clear_value x3
  refine ite_elim (P := Within b) ?_ ?_
  · exact hp0
  · refine State.relocate_within qevu qfmem qchain qjrnl hk ?_
    refine State.shedPaths_within qevu qconv (fun _ => hk _) (fun _ => hk _) (fun _ => hk _) (hk _) (hk _) (hk _) (hk _) (hk _) (hk _) (fun _ _ => hk _) (fun _ => hk _) (fun _ => hk _) (fun _ => hk _) ?_
    exact hx3

theorem State.seamStart_within {b : Bounds} {p0} (qfabric : b.parts .fabric) (qchain : b.parts .chain) (qevu : b.parts .evu) (qamx : b.parts .amx) (qnet : b.parts .net) (qdests : b.parts .dests) (qinputs : b.parts .inputs) (c7 : b.regs O01.LAST_SPILL_TICK) (c8 : b.regs O01.SPILL_ENTRIES) (c9 : b.regs O01.SPILL_TICKS) (c10 : b.regs O01.LAST_SPILL_STREAMS) (c11 : b.regs O01.LAST_SPILL_COUNT) (c12 : ∀ k ∈ eventRegs 65, b.regs k) (c13 : b.regs O01.SPILL_CAUSES) (c14 : ∀ k ∈ eventRegs 20, b.regs k) (c15 : ∀ (w0 : ℕ), b.regs (O04.PORT_FLAGS w0)) (c16 : ∀ (w0 : ℕ), b.regs (O04.ABANDONED_CELLS w0)) (c17 : ∀ (w0 : ℕ), b.regs (O10.SF_FRAMES w0)) (c18 : ∀ k ∈ eventRegs 245, b.regs k) (c19 : ∀ (w0 : ℕ), b.regs (O0F.PORT_FLAGS w0)) (c20 : ∀ (w0 : ℕ), b.regs (O0F.DROPS w0)) (c21 : ∀ k ∈ eventRegs 256, b.regs k) (c22 : ∀ (w0 : ℕ), b.regs (O10.SF_FLAGS w0)) (c23 : ∀ (w0 : ℕ), b.regs (O10.SH_DROPS w0)) (c24 : ∀ (w0 : ℕ), b.regs (O10.CBS_CREDIT w0)) (c25 : ∀ (w0 : ℕ), b.regs (O10.SH_ELIGIBLE w0)) (c26 : ∀ (w0 : ℕ), b.regs (O10.SH_QUEUED w0)) (c27 : ∀ (w0 : ℕ), b.regs (O10.SH_LEVEL w0)) (c28 : ∀ (w0 : ℕ), b.regs (O0D.SEND_FLAGS w0)) (c29 : ∀ (w0 : ℕ), b.regs (O07.OUT_FLAGS w0)) (hp0 : Within b p0) : Within b (State.seamStart p0) := by
  unfold State.seamStart
  refine ite_elim (P := Within b) ?_ ?_
  · refine State.spillDetection_within qfabric qchain qevu qamx qnet qdests qinputs c7 c8 c9 c10 c11 c12 c13 c14 c15 c16 c17 c18 c19 c20 c21 c22 c23 c24 c25 c26 c27 c28 c29 ?_
    exact hp0
  · refine ite_elim (P := Within b) ?_ ?_
    · refine State.quietTick_within qchain ?_
      exact hp0
    · exact hp0

theorem State.seamSample_within {b : Bounds} {p0 p1 p2} (qsample : b.parts .sample) (qtiming : b.parts .timing) (qevu : b.parts .evu) (qtick : b.parts .tick) (qclocks : b.parts .clocks) (qsent : b.parts .sent) (qsess : b.parts .sess) (qmail : b.parts .mail) (qnet : b.parts .net) (c9 : b.regs O01.TICK_NOW) (c10 : b.regs O02.PULL_ETA) (c11 : b.regs O02.PULL_REMAIN) (c12 : ∀ k ∈ eventRegs 41, b.regs k) (c13 : b.regs O02.SEL_STATE) (c14 : ∀ k ∈ eventRegs 32, b.regs k) (c15 : b.regs O02.SWITCH_COUNT) (c16 : b.regs O02.SELECTED) (c17 : ∀ k ∈ eventRegs 46, b.regs k) (c18 : ∀ k ∈ eventRegs 34, b.regs k) (c19 : ∀ k ∈ eventRegs 33, b.regs k) (c20 : ∀ k ∈ eventRegs 44, b.regs k) (c21 : ∀ (w0 : ℕ), b.regs (O02.OUTVOTED w0)) (c22 : ∀ k ∈ eventRegs 40, b.regs k) (c23 : ∀ (w0 : ℕ), b.regs (O02.CAND_STATE w0)) (c24 : ∀ (w0 : ℕ), b.regs (O02.CAND_FLAGS w0)) (c25 : ∀ k ∈ eventRegs 35, b.regs k) (c26 : b.regs O02.OWN_QL) (c27 : b.regs O02.HOLDOVER_ELAPSED) (c28 : ∀ (w0 : ℕ), b.regs (O02.GM_QUALITY w0)) (c29 : b.regs O01.TICK_PERIOD) (c30 : ∀ k ∈ eventRegs 23, b.regs k) (c31 : ∀ k ∈ eventRegs 17, b.regs k) (c32 : b.regs O1A.LOG_NEWEST) (c33 : ∀ k ∈ eventRegs 416, b.regs k) (c34 : b.regs O1A.EVU_FLAGS) (c35 : ∀ (w0 : ℕ), b.regs (O1C.SESS_QUEUE w0)) (c36 : ∀ k ∈ eventRegs 451, b.regs k) (c37 : b.regs O1C.FILULO_FLAGS) (c38 : ∀ k ∈ eventRegs 417, b.regs k) (hp0 : Within b p0) : Within b (State.seamSample p0 p1 p2) := by
  unfold State.seamSample
  extract_lets -merge -useContext -underBinder x1 x2 x3 x4
  have hx2 : Within b x2 := by
    unfold x2
    refine ite_elim (P := Within b) ?_ ?_
    · exact hp0
    · refine State.sampleStrobe_within qsample c9 ?_
      exact hp0
  try clear_value x2
  have hx3 : Within b x3 := by
    unfold x3
    refine ite_elim (P := Within b) ?_ ?_
    · refine State.timingWrite_within qtiming qevu qtick qclocks c10 c11 c12 c13 c14 c15 c16 c17 c18 c19 c20 c21 c22 c23 c24 c25 c26 c27 c28 c29 c30 ?_
      exact hx2
    · exact hx2
  try clear_value x3
  have hx4 : Within b x4 := by
    unfold x4
    refine ite_elim (P := Within b) ?_ ?_
    · refine State.compareCounters_within qevu qtick c31 ?_
      exact hx3
    · exact hx3
  try clear_value x4
  refine State.routeRecords_within qsent qevu qsess qmail c32 c33 c34 c35 c36 c37 c38 ?_
  refine State.sampleSubs_within qnet qevu qsent qsess qmail c35 c36 c37 ?_
  exact hx4

theorem State.seamSwap_within {b : Bounds} {p0} (qevu : b.parts .evu) (qsent : b.parts .sent) (qsess : b.parts .sess) (qmail : b.parts .mail) (qjobs : b.parts .jobs) (qdomain : b.parts .domain) (qfurlongs : b.parts .furlongs) (qfabric : b.parts .fabric) (qfmem : b.parts .fmem) (qchain : b.parts .chain) (qdests : b.parts .dests) (qamx : b.parts .amx) (qnet : b.parts .net) (qcues : b.parts .cues) (qtiming : b.parts .timing) (qclocks : b.parts .clocks) (qlanes : b.parts .lanes) (qinputs : b.parts .inputs) (qaudio : b.parts .audio) (qfresh : b.parts .fresh) (qconv : b.parts .conv) (qjrnl : b.parts .jrnl) (qtick : b.parts .tick) (hk : ∀ k, b.regs k) (hp0 : Within b p0) : Within b (State.seamSwap p0) := by
  unfold State.seamSwap
  extract_lets -merge -useContext -underBinder x1 x2 x3
  have hx1 : Within b x1 := by
    unfold x1
    refine ite_elim (P := Within b) ?_ ?_
    · refine State.seamCommit_within qevu qsent qsess qmail qjobs qdomain qfurlongs qfabric qfmem qchain qdests qamx qnet qcues qtiming qclocks qlanes qinputs qaudio qfresh qconv qjrnl hk ?_
      exact hp0
    · exact hp0
  try clear_value x1
  have hx2 : Within b x2 := by
    unfold x2
    refine ite_elim (P := Within b) ?_ ?_
    · refine State.unshed_within qevu qfmem qchain qjrnl hk ?_
      exact hx1
    · exact hx1
  try clear_value x2
  have hx3 : Within b x3 := by
    unfold x3
    refine ite_elim (P := Within b) ?_ ?_
    · refine State.seamStep_within qevu qsent qsess qmail qjobs qdomain qfurlongs qfabric qfmem qchain qtick qtiming qcues qnet (hk _) (hk _) (hk _) (fun _ => hk _) (fun _ _ => hk _) (fun _ => hk _) (hk _) (hk _) (fun _ => hk _) (fun _ => hk _) (fun _ => hk _) (hk _) (hk _) (hk _) (hk _) (hk _) (hk _) (fun _ => hk _) (fun _ => hk _) (fun _ _ => hk _) (fun _ => hk _) (fun _ _ => hk _) (hk _) (hk _) (fun _ _ => hk _) (fun _ => hk _) (fun _ => hk _) (fun _ => hk _) (fun _ _ => hk _) (hk _) (fun _ _ => hk _) (hk _) (fun _ _ => hk _) (hk _) (fun _ => hk _) (fun _ => hk _) (hk _) (fun _ => hk _) (fun _ => hk _) (hk _) (fun _ _ => hk _) ?_
      exact hx2
    · exact hx2
  try clear_value x3
  refine ite_elim (P := Within b) ?_ ?_
  · refine State.evaluate_within qtick qtiming qevu qclocks (hk _) (fun _ _ => hk _) (hk _) (hk _) (hk _) (hk _) (fun _ _ => hk _) (fun _ _ => hk _) (fun _ _ => hk _) (fun _ _ => hk _) (fun _ => hk _) ?_
    exact hx3
  · exact hx3

theorem State.seamUnits_within {b : Bounds} {p0} (hp : ∀ p, p ∉ ([.pending, .member, .straps, .sample, .locks, .bus, .hot, .measured, .ram] : List Part) → b.parts p) (hk : ∀ k, b.regs k) (hp0 : Within b p0) : Within b (State.seamUnits p0) := by
  unfold State.seamUnits
  extract_lets -merge -useContext -underBinder x1 x2 x3
  have hx1 : Within b x1 := by
    unfold x1
    refine State.bridgeSeam_within (hp .net (by decide)) (fun _ => hk _) (fun _ => hk _) ?_
    refine State.poolSeam_within (hp .evu (by decide)) (hp .conv (by decide)) (hp .fmem (by decide)) (hp .chain (by decide)) (hp .jrnl (by decide)) hk ?_
    refine State.audioSeam_within (fun _ => hk _) ?_
    refine State.matrixSeam_within (hp .amx (by decide)) (fun _ => hk _) ?_
    refine State.laneSeam_within (hp .lanes (by decide)) (hp .evu (by decide)) (fun _ => hk _) (fun _ => hk _) (fun _ => hk _) (fun _ _ => hk _) (fun _ => hk _) (fun _ => hk _) (fun _ => hk _) (fun _ => hk _) (fun _ => hk _) ?_
    exact hp0
  try clear_value x1
  have hx2 : Within b x2 := by
    unfold x2
    refine State.resyncSeam_within (hp .sent (by decide)) (hp .evu (by decide)) (hp .sess (by decide)) (hp .mail (by decide)) (hp .jobs (by decide)) (hp .domain (by decide)) (hp .furlongs (by decide)) (hp .fmem (by decide)) (hp .chain (by decide)) (hp .jrnl (by decide)) hk ?_
    refine State.cueSeam_within (hp .cues (by decide)) (hp .evu (by decide)) (hp .sent (by decide)) (fun _ => hk _) (fun _ _ => hk _) (fun _ => hk _) (fun _ => hk _) (fun _ => hk _) (fun _ => hk _) (fun _ => hk _) (fun _ => hk _) (fun _ => hk _) (fun _ => hk _) ?_
    refine State.furlongSeam_within (hp .furlongs (by decide)) (hp .sent (by decide)) ?_
    exact hx1
  try clear_value x2
  have hx3 : Within b x3 := by
    unfold x3
    refine State.sampleDescs_within (hp .fabric (by decide)) ?_
    refine State.repairDescs_within (hp .fabric (by decide)) ?_
    refine State.pump_within (hp .chain (by decide)) (hk _) ?_
    refine State.autoCompact_within (hp .sent (by decide)) (hp .evu (by decide)) (hp .sess (by decide)) (hp .mail (by decide)) (hp .jobs (by decide)) (hp .jrnl (by decide)) (fun _ => hk _) (fun _ => hk _) (fun _ => hk _) (fun _ => hk _) (fun _ => hk _) (fun _ => hk _) (fun _ => hk _) (fun _ _ => hk _) (hk _) (fun _ _ => hk _) (hk _) (hk _) (fun _ => hk _) (fun _ => hk _) ?_
    refine State.clipSeam_within (hp .chain (by decide)) (hp .fmem (by decide)) (hp .evu (by decide)) (hp .jrnl (by decide)) (hp .sent (by decide)) (hp .sess (by decide)) (hp .mail (by decide)) (hp .jobs (by decide)) (hp .fabric (by decide)) (hp .boot (by decide)) hk ?_
    exact hx2
  try clear_value x3
  refine State.progressSeam_within (fun _ => hk _) ?_
  refine State.importStep_within (subU hp (by decide)) hk ?_
  refine State.exportSeam_within (hp .sent (by decide)) (hp .evu (by decide)) (hp .jobs (by decide)) (fun _ => hk _) (fun _ _ => hk _) ?_
  exact hx3

theorem State.seamReset_within {b : Bounds} {p0} (hp : ∀ p, p ∉ ([.pending, .member, .fresh] : List Part) → b.parts p) (hk : ∀ k, b.regs k) (hp0 : Within b p0) : Within b (State.seamReset p0) := by
  unfold State.seamReset
  split
  · refine ite_elim (P := Within b) ?_ ?_
    · exact hp0
    · refine State.resetDevice_within (subU hp (by decide)) hk ?_
      refine foldl_elim (P := Within b) ?_ ?_
      · exact hp0
      · intro u1 u2 hu3
        try beta_reduce
        refine State.programNext_within (hp .jrnl (by decide)) (hp .sent (by decide)) (hp .evu (by decide)) (hp .sess (by decide)) (hp .mail (by decide)) (hp .jobs (by decide)) (hp .chain (by decide)) (hp .domain (by decide)) (hp .furlongs (by decide)) (hp .boot (by decide)) (hp .keys (by decide)) (hk _) (hk _) (fun _ => hk _) (fun _ => hk _) (fun _ => hk _) (fun _ => hk _) (fun _ => hk _) (fun _ => hk _) (fun _ => hk _) (hk _) (hk _) (hk _) (fun _ => hk _) (fun _ => hk _) (hk _) (fun _ => hk _) (fun _ => hk _) (hk _) (fun _ => hk _) (fun _ => hk _) (fun _ => hk _) (hk _) (hk _) (hk _) (fun _ => hk _) (fun _ => hk _) (fun _ => hk _) (fun _ => hk _) (fun _ => hk _) (fun _ => hk _) (hk _) (fun _ _ _ => hk _) ?_
        exact hu3
  · exact hp0

theorem State.seam_within {b : Bounds} {p0 p1 p2} (hp : ∀ p, p ∉ ([.pending, .member] : List Part) → b.parts p) (hk : ∀ k, b.regs k) (hp0 : Within b p0) : Within b (State.seam p0 p1 p2) := by
  unfold State.seam
  extract_lets -merge -useContext -underBinder x1 x2 x3 x4
  have hx1 : Within b x1 := by
    unfold x1
    refine State.keysSeam_within (hp .sent (by decide)) (hp .evu (by decide)) (hp .sess (by decide)) (hp .mail (by decide)) (hp .net (by decide)) (hp .furlongs (by decide)) (hp .keys (by decide)) (fun _ _ => hk _) (fun _ => hk _) (fun _ _ => hk _) (fun _ => hk _) (fun _ => hk _) ?_
    refine State.seamSwap_within (hp .evu (by decide)) (hp .sent (by decide)) (hp .sess (by decide)) (hp .mail (by decide)) (hp .jobs (by decide)) (hp .domain (by decide)) (hp .furlongs (by decide)) (hp .fabric (by decide)) (hp .fmem (by decide)) (hp .chain (by decide)) (hp .dests (by decide)) (hp .amx (by decide)) (hp .net (by decide)) (hp .cues (by decide)) (hp .timing (by decide)) (hp .clocks (by decide)) (hp .lanes (by decide)) (hp .inputs (by decide)) (hp .audio (by decide)) (hp .fresh (by decide)) (hp .conv (by decide)) (hp .jrnl (by decide)) (hp .tick (by decide)) hk ?_
    refine State.seamSample_within (hp .sample (by decide)) (hp .timing (by decide)) (hp .evu (by decide)) (hp .tick (by decide)) (hp .clocks (by decide)) (hp .sent (by decide)) (hp .sess (by decide)) (hp .mail (by decide)) (hp .net (by decide)) (hk _) (hk _) (hk _) (fun _ _ => hk _) (hk _) (fun _ _ => hk _) (hk _) (hk _) (fun _ _ => hk _) (fun _ _ => hk _) (fun _ _ => hk _) (fun _ _ => hk _) (fun _ => hk _) (fun _ _ => hk _) (fun _ => hk _) (fun _ => hk _) (fun _ _ => hk _) (hk _) (hk _) (fun _ => hk _) (hk _) (fun _ _ => hk _) (fun _ _ => hk _) (hk _) (fun _ _ => hk _) (hk _) (fun _ => hk _) (fun _ _ => hk _) (hk _) (fun _ _ => hk _) ?_
    refine State.seamStart_within (hp .fabric (by decide)) (hp .chain (by decide)) (hp .evu (by decide)) (hp .amx (by decide)) (hp .net (by decide)) (hp .dests (by decide)) (hp .inputs (by decide)) (hk _) (hk _) (hk _) (hk _) (hk _) (fun _ _ => hk _) (hk _) (fun _ _ => hk _) (fun _ => hk _) (fun _ => hk _) (fun _ => hk _) (fun _ _ => hk _) (fun _ => hk _) (fun _ => hk _) (fun _ _ => hk _) (fun _ => hk _) (fun _ => hk _) (fun _ => hk _) (fun _ => hk _) (fun _ => hk _) (fun _ => hk _) (fun _ => hk _) (fun _ => hk _) ?_
    exact hp0
  try clear_value x1
  have hx2 : Within b x2 := by
    unfold x2
    refine ite_elim (P := Within b) ?_ ?_
    · refine State.seamUnits_within (subU hp (by decide)) hk ?_
      exact hx1
    · exact hx1
  try clear_value x2
  have hx3 : Within b x3 := by
    unfold x3
    refine State.drainH2d_within (subU hp (by decide)) hk ?_
    exact hx2
  try clear_value x3
  refine State.seamReset_within (subU hp (by decide)) hk ?_
  refine Within.f_tick (s := x3) (hp .tick (by decide)) (fun i => i) ?_
  exact hx3

theorem execTickBoundary_within {b : Bounds} {p0} (qtick : b.parts .tick) (qevu : b.parts .evu) (qchain : b.parts .chain) (qfabric : b.parts .fabric) (qamx : b.parts .amx) (qfresh : b.parts .fresh) (qsent : b.parts .sent) (qnet : b.parts .net) (qaudio : b.parts .audio) (qsess : b.parts .sess) (qmail : b.parts .mail) (qjobs : b.parts .jobs) (qfmem : b.parts .fmem) (qboot : b.parts .boot) (qcues : b.parts .cues) (qfurlongs : b.parts .furlongs) (qdomain : b.parts .domain) (qclocks : b.parts .clocks) (qbus : b.parts .bus) (qbytes : b.parts .bytes) (qram : b.parts .ram) (c21 : ∀ (w0 : ℕ), b.regs (O0C.PLAYER_STATE w0)) (c22 : ∀ (w0 : ℕ), b.regs (State.indexKey w0)) (c23 : ∀ (w0 : ℕ), b.regs (O0A.GROUP_STATE w0)) (c24 : ∀ (w0 : ℕ), b.regs (State.stateKey w0)) (c25 : ∀ (w0 : ℕ), b.regs (O0A.GROUP_FAULTS w0)) (c26 : ∀ (w0 : ℕ), b.regs (State.portKey w0 (O0A.IN_LATENCY 0))) (c27 : ∀ (w0 : ℕ), b.regs (State.portKey w0 (O0A.OUT_LATENCY 0))) (c28 : ∀ (w0 w1 : ℕ), b.regs (O0C.DEST_PEAK w0 w1)) (c29 : ∀ (w0 w1 : ℕ), b.regs (O0C.SOURCE_PEAK w0 w1)) (c30 : ∀ (w0 : ℕ), b.regs (O1B.JOB_STATUS w0)) (c31 : b.regs O1B.JOBS_QUEUED) (c32 : b.regs O1B.JOBS_RUNNING) (c33 : ∀ (w0 : ℕ), b.regs (O1C.SESS_QUEUE w0)) (c34 : b.regs O1C.FILULO_FLAGS) (c35 : ∀ (w0 : ℕ), b.regs (O1B.JOB_STARTED w0)) (c36 : ∀ (w0 : ℕ), b.regs (O1B.JOB_STATE w0)) (c37 : ∀ (w0 : ℕ), b.regs (O1B.JOB_ENDED w0)) (c38 : ∀ (w0 : ℕ), b.regs (O1B.JOB_RESULT w0)) (c39 : ∀ (w0 : ℕ), b.regs (O1B.JOB_PROGRESS w0)) (c40 : ∀ (w0 : ℕ), ∀ k ∈ eventRegs w0, b.regs k) (c41 : b.regs O00.DEV_FLAGS) (c42 : ∀ (w0 : ℕ), b.regs (O05.CLIP_LOADED w0)) (c43 : ∀ (w0 : ℕ), b.regs (O05.CLIP_STATE w0)) (c44 : ∀ (w0 : ℕ), b.regs (O09.LUT_STATE w0)) (c45 : b.regs O18.FW_PHASE) (c46 : ∀ (w0 : ℕ), b.regs (O14.ACTIONS w0)) (c47 : ∀ (w0 : ℕ), b.regs (O14.CUE_FLAGS w0)) (c48 : ∀ (w0 : ℕ), b.regs (O14.CE_STATUS w0)) (c49 : ∀ (w0 : ℕ), b.regs (O14.LAST_ERROR w0)) (c50 : ∀ (w0 : ℕ), b.regs (O14.ACTION_ERRORS w0)) (c51 : ∀ (w0 : ℕ), b.regs (O16.GEN_RUN w0)) (c52 : ∀ (w0 : ℕ), b.regs (O14.QUEUE_DEPTH w0)) (c53 : ∀ (w0 : ℕ), b.regs (O14.FIRED w0)) (c54 : ∀ (w0 : ℕ), b.regs (O14.QUEUE_DROPS w0)) (c55 : ∀ (w0 : ℕ), b.regs (O14.DEFERRED w0)) (c56 : ∀ (w0 : ℕ), b.regs (O12.BEACONS_MISSED w0)) (c57 : b.regs O13.MISSED_BEACONS) (c58 : ∀ (w0 : ℕ), b.regs (O12.FURLONG_STATE w0)) (c59 : b.regs O13.DOMAIN_EPOCH) (c60 : b.regs O13.BACKUP_DEVICE) (c61 : ∀ (w0 : ℕ), b.regs (O12.CELLS_IO w0)) (c62 : ∀ (w0 : ℕ), b.regs (O13.MEMBER_STATE w0)) (c63 : b.regs O13.MASTER_DEVICE) (c64 : b.regs O13.DOMAIN_STATE) (c65 : b.regs O1C.TX_LAST) (c66 : ∀ (w0 : ℕ), b.regs (O12.RELAY_CELLS w0)) (c67 : ∀ (w0 : ℕ), b.regs (O0E.LOST_AB w0)) (c68 : ∀ (w0 : ℕ), b.regs (O0E.RX_FLAGS w0)) (c69 : ∀ (w0 : ℕ), b.regs (O0E.UNRECOVERED w0)) (c70 : ∀ (w0 : ℕ), b.regs (O0E.SKEW w0)) (c71 : ∀ (w0 : ℕ), b.regs (O05.STACK_FLAGS w0)) (c72 : ∀ (w0 : ℕ), b.regs (O05.LAST_ERROR_PIN w0)) (c73 : ∀ (w0 : ℕ), b.regs (O05.LAST_ERROR_ADDR w0)) (c74 : ∀ (w0 : ℕ), b.regs (O05.CE_COUNT w0)) (c75 : ∀ (w0 : ℕ), b.regs (O05.PIN_CE w0)) (c76 : ∀ (w0 : ℕ), b.regs (O17.TRANSACTIONS w0)) (c77 : ∀ (w0 : ℕ), b.regs (O17.TARGET_ERRORS w0)) (c78 : ∀ (w0 : ℕ), b.regs (O17.ERROR_RESPONSES w0)) (c79 : ∀ (w0 : ℕ), b.regs (O17.QOS_LAST w0)) (hp0 : Within b p0) : WithinOut b (execTickBoundary p0) := by
  unfold execTickBoundary
  refine live_within ?_ ?_
  · exact hp0
  · intro u1 hu2
    try beta_reduce
    refine State.tickBoundary_within qtick qevu qchain qfabric qamx qfresh qsent qnet qaudio qsess qmail qjobs qfmem qboot qcues qfurlongs qdomain qclocks qbus qbytes qram c21 c22 c23 c24 c25 c26 c27 c28 c29 c30 c31 c32 c33 c34 c35 c36 c37 c38 c39 c40 c41 c42 c43 c44 c45 c46 c47 c48 c49 c50 c51 c52 c53 c54 c55 c56 c57 c58 c59 c60 c61 c62 c63 c64 c65 c66 c67 c68 c69 c70 c71 c72 c73 c74 c75 c76 c77 c78 c79 ?_
    exact hu2

theorem execSeam_within {b : Bounds} {p0 p1 p2} (hp : ∀ p, p ∉ ([.pending, .member] : List Part) → b.parts p) (hk : ∀ k, b.regs k) (hp2 : Within b p2) : WithinOut b (execSeam p0 p1 p2) := by
  unfold execSeam
  refine live_within ?_ ?_
  · exact hp2
  · intro u1 hu2
    try beta_reduce
    refine State.seam_within (subU hp (by decide)) hk ?_
    exact hu2

end Sys2Proof.Machine
end

