-- ==== Sys2Proof/Machine/Package.lean ====
section
/-! DEFINITION. The package: what every ball of the 84 by 84 grid carries (R695 to R702). A table of the hardware that no command reads. -/

namespace Sys2Proof.Machine

/-- The supply rails (R703). -/
inductive Rail where
  | core | sram | ser | serH | hbm | hbmQ | io18 | io33 | aon | vbat
  deriving DecidableEq, Repr

/-- The two balls of a differential pair, or the direction of a lane's pair (R697, R698). -/
inductive Pair where
  | tx | rx
  deriving DecidableEq, Repr

/-- What a ball carries. `n` true is the N ball of a pair. -/
inductive Ball where
  /-- Ground. -/
  | vss
  | rail (r : Rail)
  /-- General lane, trunk lane, SGMII of a management port, PCI Express lane (R698). -/
  | gl (lane : Nat) (d : Pair) (n : Bool)
  | tl (lane : Nat) (d : Pair) (n : Bool)
  | mgmt (port : Nat) (d : Pair) (n : Bool)
  | pcie (lane : Nat) (d : Pair) (n : Bool)
  | pcieRefclk (n : Bool)
  | lref (i : Nat) (n : Bool)
  | madi (port : Nat) (d : Pair) (n : Bool)
  /-- A low-speed signal by its slot: 0 XTAL_IN to 407 GPIO127 (R699). -/
  | slot (k : Nat)
  deriving DecidableEq, Repr

/-- The zones (R696). -/
inductive Zone where
  | corner | band (side : Nat) | ring | core
  deriving DecidableEq, Repr

/-- A ball's distance in rows from the nearest edge (R696). -/
def ballDepth (x y : Nat) : Nat := min (min (x - 1) (84 - x)) (min (y - 1) (84 - y))

/-- The zone of a ball (R696). -/
def ballZone (x y : Nat) : Zone :=
  let endX := decide (x ≤ 8 ∨ 77 ≤ x)
  let endY := decide (y ≤ 8 ∨ 77 ≤ y)
  if endX && endY then .corner
  else if endY then .band (if y ≤ 8 then 0 else 2)
  else if endX then .band (if 77 ≤ x then 1 else 3)
  else if ballDepth x y ≤ 9 then .ring else .core

/-- The place of a cell of a side's band at a depth; `k` 1 is the N ball (R697). -/
def cellBall (side c d k : Nat) : Nat × Nat :=
  match side with
  | 0 => (9 + 2 * c + k, 1 + d)
  | 1 => (84 - d, 9 + 2 * c + k)
  | 2 => (76 - 2 * c - k, 84 - d)
  | _ => (1 + d, 76 - 2 * c - k)

/-- The pair that a row of a cell holds (R698): `d` tx is the first signal row. -/
def cellPair (side layer c : Nat) (d : Pair) (n : Bool) : Ball :=
  if layer = 0 then
    if c < 12 then .gl (48 * side + c) d n
    else if c < 20 then .tl (8 * side + c - 12) d n
    else if c < 32 then .gl (48 * side + c - 8) d n
    else if c = 32 then .lref (2 * side + (if d = .rx then 1 else 0)) n
    else if d = .tx then .lref (8 + side) n else .vss
  else if c < 24 then .gl (48 * side + 24 + c) d n
  else if c < 28 then .madi (4 * side + c - 24) d n
  else match side with
    | 0 => if c = 28 then .mgmt 0 d n else .vss
    | 1 => .pcie (c - 28) d n
    | 2 => if c = 28 then .pcie 6 d n else if c = 29 then .pcie 7 d n else if c = 30 ∧ d = .tx then .pcieRefclk n else .vss
    | _ => if c = 28 then .mgmt 1 d n else .vss

/-- The ball of a lane band (R697, R698): rows 1 and 3 of a layer are ground. -/
def bandBall (side x y : Nat) : Ball :=
  let d := ballDepth x y
  let along := match side with | 0 => x - 9 | 1 => y - 9 | 2 => 76 - x | _ => 76 - y
  if d % 2 = 1 then .vss else cellPair side (d / 4) (along / 2) (if d % 4 = 0 then .tx else .rx) (along % 2 == 1)

/-- Position `q` of ring `d` (R699). -/
def ringBall (d q : Nat) : Nat × Nat :=
  let a := d + 1
  let b := 84 - d
  let n := b - a + 1
  if q < n then (a + q, a)
  else if q ≤ 2 * n - 2 then (b, a + q - n + 1)
  else if q ≤ 3 * n - 3 then (b + 2 * n - 2 - q, b)
  else (a, b + 3 * n - 3 - q)

/-- The position on its ring of a ball at depth `d` (R699). -/
def ringPlace (d x y : Nat) : Nat :=
  let a := d + 1
  let b := 84 - d
  let n := b - a + 1
  if y = a then x - a
  else if x = b then y + n - 1 - a
  else if y = b then b + 2 * n - 2 - x
  else b + 3 * n - 3 - y

/-- The ball of a slot (R699). -/
def slotBall (k : Nat) : Nat × Nat :=
  let p := 5 * (k / 4) + k % 4
  if p < 268 then ringBall 8 p else ringBall 9 (p - 268)

/-- The ball at a place of the rings (R699). -/
def lowBall (x y : Nat) : Ball :=
  let d := ballDepth x y
  let p := ringPlace d x y + (if d = 8 then 0 else 268)
  let k := 4 * (p / 5) + p % 5
  if p % 5 = 4 ∨ 408 ≤ k then .vss else .slot k

/-- The rail of a ring of the supply core (R700). -/
def coreRail (d : Nat) : Rail :=
  if d ≤ 11 then .ser else if d = 12 then .serH else if d = 13 then .sram else if d = 14 then .hbm else if d = 15 then .hbmQ else .core

/-- A corner block (R700). -/
def cornerBall (x y : Nat) : Ball :=
  let even := decide ((x + y) % 2 = 0)
  if y ≤ 8 then (if even then .rail (if x ≤ 8 then .io18 else .io33) else .vss)
  else if (x = 80 ∧ y = 80) ∨ (x = 81 ∧ y = 81) then .rail .aon
  else if (x = 81 ∧ y = 80) ∨ (x = 80 ∧ y = 81) then .rail .vbat
  else .vss

/-- What a ball carries (R696 to R700). -/
def ballOf (x y : Nat) : Ball :=
  match ballZone x y with
  | .corner => cornerBall x y
  | .band s => bandBall s x y
  | .ring => lowBall x y
  | .core => if (x + y) % 2 = 1 then .vss else .rail (coreRail (ballDepth x y))

/-- The first slot of a low-speed group and its length, for the groups that depend on the member (R699, R702). -/
def slotAbsent (s : State) (k : Nat) : Bool :=
  if 56 ≤ k ∧ k < 120 then !(s.present 0x0A (k - 56)) else decide (120 ≤ k ∧ k < 184) && !(s.present 0x0A (0x100 + (k - 120)))

/-- A ball is connected: a signal of an instance that the member lacks is not (R702). -/
def State.connected (s : State) : Ball → Bool
  | .gl l _ _ => s.present 0x11 l
  | .tl l _ _ => s.present 0x11 (0x100 + l)
  | .madi p d _ => s.present 0x0B (if d = .tx then 0x100 + p else p)
  | .slot k => !(slotAbsent s k)
  | _ => true

end Sys2Proof.Machine
end

