-- ==== Sys2Proof/Machine/Pins.lean ====
section
/-! DEFINITION. What the pins of the device present in a state: the inactive states of R685 until the first chain, and after it what the units
drive (R115, R503, R508, R600, R672, R714). An observer: no command reads it. -/

namespace Sys2Proof.Machine

/-- What a pin, or a pair, presents (R685). -/
inductive Level where
  /-- Static low. -/
  | low
  /-- Static high. -/
  | high
  /-- High impedance, the pull of the pin apart. -/
  | highZ
  /-- High impedance with the weak pull-down (R710). -/
  | pullDown
  /-- Electrical idle: no transitions. -/
  | idle
  /-- A signal of its own runs. -/
  | running
  deriving DecidableEq, Repr

/-- A driven level. -/
def Level.ofBool (b : Bool) : Level := if b then .high else .low

namespace State

/-- The pins are released: the first chain has started, and PORST_N is high (R600, R602, R685). -/
def pinsLive (s : State) : Bool := s.phase == .running

/-- RESET_OUT_N (R600). -/
def pinResetOut (s : State) : Level := .ofBool s.pinsLive

/-- IRQ_N, an open drain: low while it is asserted (R672, R685, R709). -/
def pinIrq (s : State) : Level := if s.pinsLive && s.irq then .low else .highZ

/-- The transmitter of an SDI output's lane (R215, R685). -/
def pinSdi (s : State) (o : Nat) : Level := if s.pinsLive && decide (2 ≤ s.n (O07.OUT_STATE o)) then .running else .idle

/-- A reference output 030 to 034 of class 02 (R115, R685, R713). -/
def pinRef (s : State) (i : Nat) : Level :=
  if ¬ s.pinsLive ∨ ¬ s.outRuns i then .low else if i = 0x32 then .ofBool (s.refLevel i == 1) else .running

/-- An AES3 or MADI output, by its port code (R685, R714): static while it is disabled or its ACS is not locked (R132). -/
def pinAudio (s : State) (c : Nat) : Level :=
  if s.pinsLive && s.n (portKey c (O0A.OUT_STATE 0)) == 2 then .running else .low

/-- DMX_DE of a port: high only while the port is OUTPUT (R503, R685, R714). -/
def pinDmxEnable (s : State) (p : Nat) : Level := .ofBool (s.pinsLive && s.n (O15.DMX_MODE (0x400 + p)) == 1)

/-- An LTC output: its generator runs in a mode other than OFF (R507, R685). -/
def pinLtc (s : State) (g : Nat) : Level := if s.pinsLive && s.n (O16.GEN_MODE (0x010 + g)) != 0 then .running else .low

/-- A GPIO pin (R508, R685): an INPUT is high impedance; an output shows its level by GPIO_INVERT, or only pulls low in the open drain. -/
def pinGpio (s : State) (p : Nat) : Level :=
  let i := 0x100 + p
  if ¬ s.pinsLive ∨ s.n (O16.GPIO_MODE i) = 0 then .pullDown
  else
    let up := (s.n (O16.GPIO_LEVEL i) + s.n (O16.GPIO_INVERT i)) % 2 == 1
    if up && s.n (O16.GPIO_DRIVE i) == 1 then .highZ else .ofBool up

end State
end Sys2Proof.Machine
end

