-- ==== Sys2Proof/Tests/Slice0.lean ====
section
/-! SUPPORT. Tests: what the well-formedness check refuses, single steps whose expected results are the spec's, and for every statement with
hypotheses states and operands that meet them. Each chapter of the statements has a namespace of its own. -/

set_option maxRecDepth 40000
set_option Elab.async false
set_option linter.all false

namespace Sys2Proof.Tests

open Sys2Proof Sys2Proof.Machine

/-- A device that runs, with every object at its default. -/
def up : State := { State.reset with phase := .running }

theorem inv_of {s : State} (h : (s.regsOk && SMap.rising s.sample && decide (s.evu.log.length ≤ 1024) && decide (s.tick.acc.toNat < 2^40) && s.fmem.ok && s.bus.ok) = true) : s.Inv := by
  simp only [Bool.and_eq_true, decide_eq_true_eq] at h
  obtain ⟨⟨⟨⟨⟨a, b⟩, c⟩, d⟩, e⟩, f⟩ := h
  exact ⟨a, b, c, d, e, f⟩

theorem up_of {s : State} (h : (s.regsOk && SMap.rising s.sample && decide (s.evu.log.length ≤ 1024) && decide (s.tick.acc.toNat < 2^40) && s.fmem.ok && s.bus.ok && s.alive) = true) : s.Up := by
  simp only [Bool.and_eq_true, decide_eq_true_eq] at h
  obtain ⟨⟨⟨⟨⟨⟨a, b⟩, c⟩, d⟩, e⟩, f⟩, g⟩ := h
  exact ⟨⟨a, b, c, d, e, f⟩, g⟩

theorem upAt_of {s : State} {c i : Nat} (h : (s.regsOk && SMap.rising s.sample && decide (s.evu.log.length ≤ 1024) && decide (s.tick.acc.toNat < 2^40) && s.fmem.ok && s.bus.ok && s.alive && s.present c i) = true) : s.UpAt c i := by
  simp only [Bool.and_eq_true, decide_eq_true_eq] at h
  obtain ⟨⟨⟨⟨⟨⟨⟨a, b⟩, c⟩, d⟩, e⟩, f⟩, g⟩, k⟩ := h
  exact ⟨⟨a, b, c, d, e, f⟩, g, k⟩

theorem openTo_of {s : State} {sess : Nat} {x : SessSt} (h : (s.regsOk && SMap.rising s.sample && decide (s.evu.log.length ≤ 1024) && decide (s.tick.acc.toNat < 2^40) && s.fmem.ok && s.bus.ok && s.alive && s.answers && s.talks (mailboxSess sess) && s.phase == .running && decide (s.sess? sess = some x) && s.n (O1C.SESS_STATE sess) == 2) = true) : s.OpenTo sess x := by
  simp only [Bool.and_eq_true, decide_eq_true_eq, beq_iff_eq] at h
  obtain ⟨⟨⟨⟨⟨⟨⟨⟨⟨⟨⟨a, b⟩, c⟩, d⟩, e⟩, f⟩, g⟩, k⟩, l⟩, m⟩, n⟩, o⟩ := h
  exact ⟨⟨⟨a, b, c, d, e, f⟩, g⟩, k, l, m, n, o⟩

theorem keyReady_of {s : State} {sess op : Nat} (h : (s.regsOk && SMap.rising s.sample && decide (s.evu.log.length ≤ 1024) && decide (s.tick.acc.toNat < 2^40) && s.fmem.ok && s.bus.ok && s.alive && s.served && s.n (O1C.SESS_STATE sess) == 2 && (s.sess? sess).isSome && State.opRole op (s.n (O1C.SESS_ROLE sess)) && s.n O19.KS_STATE != 2 && !s.spFrozen) = true) : s.KeyReady sess op := by
  simp only [Bool.and_eq_true, decide_eq_true_eq, beq_iff_eq, bne_iff_ne, Bool.not_eq_true'] at h
  obtain ⟨⟨⟨⟨⟨⟨⟨⟨⟨⟨⟨⟨a, b⟩, c⟩, d⟩, e⟩, f⟩, g⟩, k⟩, l⟩, m⟩, n⟩, o⟩, p⟩ := h
  exact ⟨⟨⟨a, b, c, d, e, f⟩, g⟩, k, l, m, n, o, p⟩

/-- A state with objects written. -/
def upd (s : State) (l : List (Key × Val)) : State := l.foldl (fun s e => s.setObj e.1 e.2) s

/-- A state with numbers written. -/
def hold (s : State) (l : List (Key × Nat)) : State := l.foldl (fun s e => s.setN e.1 e.2) s

def kLabel : List Byte := [0xFF, 0xFF, 0, 0xFF, 0x1F] ++ zeros 27
def kRid : List Byte := [1, 2, 3, 4, 5, 6, 7, 8]
def kState : State := { up with keys := { up.keys with rootId := kRid } }
def kAttrs : List Byte := [0, 0x30, 0, 0xFF, 0x0F]
def kHead (kind p : Nat) : List Byte := magicBlob ++ [1, 1, 1, 0] ++ kAttrs ++ bytesBE 1 kind ++ bytesBE 2 p ++ kRid ++ kLabel ++ zeros 256
def kKey (s : State) : List Byte := (s.derive (s.ramKey 0 48) [kLabel] (nodeIds kRid [kLabel])).take 32
def kBlob (s : State) (kind p : Nat) : List Byte :=
  kHead kind p ++ zeros 60 ++ bytesBE 16 (Config.gcmTag (kKey s) (zeros 12) (kHead kind p) (zeros 48))
def kOpen (s : State) (kind p : Nat) : Opened :=
  ⟨1, kAttrs, kind, p, 0, kRid, [kLabel], nodeIds kRid [kLabel], (bytesBE 48 (Config.gcmOpen (kKey s) (zeros 12) (kHead kind p) (zeros 48))).take 32⟩

theorem kHead_length (kind p : Nat) : (kHead kind p).length = 312 := rfl
theorem kBlob_length (s : State) (kind p : Nat) : (kBlob s kind p).length = 388 := rfl
theorem kBlob_take (s : State) (kind p : Nat) : (kBlob s kind p).take 312 = kHead kind p := by
  rw [kBlob, List.append_assoc, ← kHead_length kind p, List.take_left]
theorem kBlob_iv (s : State) (kind p : Nat) : slice (kBlob s kind p) 312 12 = zeros 12 := rfl
theorem kBlob_ct (s : State) (kind p : Nat) : slice (kBlob s kind p) 324 48 = zeros 48 := rfl
theorem kBlob_tag (s : State) (kind p : Nat) : slice (kBlob s kind p) 372 16 = bytesBE 16 (Config.gcmTag (kKey s) (zeros 12) (kHead kind p) (zeros 48)) := rfl
theorem kBlob_attrs (s : State) (kind p : Nat) : slice (kBlob s kind p) 8 5 = kAttrs := rfl
theorem kBlob_rid (s : State) (kind p : Nat) : slice (kBlob s kind p) 16 8 = kRid := rfl
theorem kBlob_labels (s : State) (kind p : Nat) : splitLabels 1 (slice (kBlob s kind p) 24 256) = [kLabel] := rfl
theorem getD_k (s : State) (kind p : Nat) (i : Nat) (h : i < 312) : (kBlob s kind p).getD i 0 = (kHead kind p).getD i 0 := by
  simp only [List.getD_eq_getElem?_getD, kBlob, List.append_assoc]
  rw [List.getElem?_append_left (by rw [kHead_length]; exact h)]
theorem kBlob_b (s : State) (kind p : Nat) : (kBlob s kind p).getD 4 0 = 1 ∧ (kBlob s kind p).getD 5 0 = 1 ∧ (kBlob s kind p).getD 6 0 = 1 ∧
    (kBlob s kind p).getD 13 0 = BitVec.ofNat 8 kind := by
  refine ⟨rfl, rfl, rfl, ?_⟩
  rw [getD_k _ _ _ _ (by decide)]
  simp [kHead, magicBlob, ascii, kAttrs, bytesBE]

theorem openBlob_k {s : State} {kind p : Nat} (hid : s.keys.rootId = kRid) (hg : s.keys.gens = []) (hl : bit 0xFF (s.n O18.LC_STATE) = true)
    (hk : (BitVec.ofNat 8 kind).toNat = kind) (hp : natBE (slice (kBlob s kind p) 14 2) = p)
    (h2 : ¬ (2 < kind)) (h0 : ¬ (kind = 0 ∧ p ≠ 0)) :
    s.openBlob (kBlob s kind p) = .ok (kOpen s kind p) := by
  have hgen : ∀ n, s.genOf n = 0 := by intro n; simp [State.genOf, hg]
  obtain ⟨a4, a5, a6, a13⟩ := kBlob_b s kind p
  unfold State.openBlob
  dsimp only
  have e1 : BitVec.toNat (1 : Byte) = 1 := rfl
  simp only [a4, a5, a6, a13, hk, e1, kBlob_labels, kBlob_attrs, kBlob_rid, kBlob_iv, kBlob_ct, kBlob_tag, kBlob_take, hp, hid]
  rw [if_neg (by rw [kBlob_length]; rintro (h | h | h) <;> revert h <;> first | decide | (intro h; exact h rfl))]
  rw [if_neg (by
    rintro (h | h | h | h | h | h | h | h | h | h)
    · revert h; decide
    · revert h; decide
    · exact h2 h
    · revert h; decide
    · revert h; decide
    · exact h0 h
    · exact absurd h (by show ¬ (List.any (zeros 224) _ = true); decide)
    · exact absurd h (by show ¬ (List.any (zeros 28) _ = true); decide)
    · revert h; decide
    · revert h; decide)]
  simp only [if_true, State.rootBy, hid]
  rw [if_neg (by
    rintro (h | h | h | h | h | h)
    · exact h rfl
    · revert h; decide
    · revert h; decide
    · revert h; decide
    · revert h; decide
    · exact h hl)]
  rw [if_neg (by
    show ¬ (_ ≠ zeros 32)
    simp [nodeIds, hgen]
    decide)]
  simp only [gcmOpen, kKey, if_true]
  rfl

theorem installBlob_k {s : State} {kind p dir : Nat} (hid : s.keys.rootId = kRid) (hg : s.keys.gens = []) (hl : bit 0xFF (s.n O18.LC_STATE) = true)
    (hk : (BitVec.ofNat 8 kind).toNat = kind) (hp : natBE (slice (kBlob s kind p) 14 2) = p) (h2 : ¬ (2 < kind)) (h0 : ¬ (kind = 0 ∧ p ≠ 0))
    (hs : s.n O19.KS_STATE ≠ 2) (hf : s.spFrozen = false) (hd : bit 0x0F dir = true) :
    s.installBlob (kBlob s kind p) kind p dir = .ok (kOpen s kind p) := by
  have ho : State.installOk (kOpen s kind p) kind p dir = true := by
    have a1 : atUsage (kOpen s kind p).attrs = 0x0F := rfl
    have a2 : bit (atMasters (kOpen s kind p).attrs) 4 = true := by show bit 0x30 4 = true; decide
    simp only [State.installOk, a1, a2, hd, Bool.and_true, Bool.and_eq_true, beq_iff_eq]; exact ⟨⟨rfl, rfl⟩, rfl⟩

  unfold State.installBlob
  rw [if_neg hs, hf, openBlob_k hid hg hl hk hp h2 h0]
  simp only [Bool.false_eq_true, if_false, ho, if_true]

/-! ## What the check of well-formedness refuses: one ill-formed command for each form of bound -/

theorem test_wf_accepts : (Instr.evStatus 0x041 3).wf = true ∧ (Instr.seam (some 7) (-3)).wf = true := by decide +kernel
theorem test_wf_event_number : (Instr.eventRaised 0x1000 0xFFFF []).wf = false := by decide +kernel
theorem test_wf_event_instance : (Instr.eventRaised 0x041 0x10000 []).wf = false := by decide +kernel
theorem test_wf_event_detail : (Instr.eventRaised 0x041 0xFFFF (zeros 41)).wf = false := by decide +kernel
theorem test_wf_status_mask : (Instr.evStatus 0x041 8).wf = false := by decide +kernel
theorem test_wf_time80 : (Instr.stepTime (2 ^ 80)).wf = false := by decide +kernel
theorem test_wf_link : (Instr.nop 100 0).wf = false := by decide +kernel
theorem test_wf_entry_word : (Instr.nop 0 (2 ^ 64)).wf = false := by decide +kernel
theorem test_wf_cell_length : (Instr.memwr 0 0 [zeros 127]).wf = false := by decide +kernel
theorem test_wf_signed : (Instr.stackTemperature 0 (-65536)).wf = false := by decide +kernel
theorem test_wf_object : (Instr.registerWrite 0 (2 ^ 32) 0 []).wf = false := by decide +kernel
theorem test_wf_request_item : (Instr.get 0 0 0 [⟨2 ^ 32, 0, []⟩]).wf = false := by decide +kernel
theorem test_wf_request_flags : (Instr.get 0 0 0 [⟨0, 256, []⟩]).wf = false := by decide +kernel
theorem test_wf_clock_identity : (Instr.ptpAnnounce 0 0 (zeros 7) 6 0x21 0x8080 none []).wf = false := by decide +kernel
theorem test_wf_audio_input : (Instr.csBlock 0x10000 0).wf = false := by decide +kernel

/-! ## Values and single steps whose results the spec gives -/

/-- R43: at the nominal TPER and no residue a tick is 8,000 cycles long, and leaves none. -/
theorem test_nominal_tick : tickLen State.reset.tick = 8000 ∧ tickResidue State.reset.tick = 0#64 := by decide +kernel

/-- R47: a tick begins on every whole PTP second; the conversion back is rounded down (tick 1 is 5,208 ns). -/
theorem test_time_and_ticks : tickOfTime (1001 * 2 ^ 32) = 1001 * 192000 ∧ timeOfTick 1 = 5208 ∧ timeOfTick 192000 = 2 ^ 32 := by decide +kernel

/-- The worked figure under R196: 2160p120 in 4:2:2 10-bit takes 106 cells per tick. -/
theorem test_cells_24g : cellsPerTick 0x50B0 = 106 ∧ classCells 6 = 106 := by decide +kernel

/-- R665: the owners of events, with their exceptions. -/
theorem test_event_owners : eventOwner 0x07A = 0x07 ∧ eventOwner 0x0A3 = 0x02 ∧ eventOwner 0x1F0 = 0x17 ∧ eventOwner 0x2B2 = 0x10 := by
  decide +kernel

/-- R675, R676: the record of 0x041 with its 40 bytes of DETAIL is 64 bytes. -/
theorem test_record_length :
    (up.record 0x041 0xFFFF (d32 1 ++ d16 16 ++ dList (List.replicate 16 5)) false false 1).bytes.length = 64 := by decide +kernel

/-- The worked example under R541: the STAGE of a ROUTE of SDI input 12 to SDI output 40. -/
theorem test_stage_on_the_wire :
    parseReq [4, 0, 0, 1, 0, 0, 0, 7, 0, 0, 0, 0, 0, 0, 0, 0, 8, 2, 0x80, 0, 0, 0, 0, 16,
      0, 0, 0x10, 0x28, 0, 0, 0x10, 0x0C, 0, 0, 0, 0, 0, 0, 0, 0] =
    some ⟨4, 7, 0, [⟨0x08028000, 0, [0, 0, 0x10, 0x28, 0, 0, 0x10, 0x0C, 0, 0, 0, 0, 0, 0, 0, 0]⟩]⟩ := by decide +kernel

/-- The worked example of the in-ear mix (R67): each block goes to the least-loaded phase. -/
theorem test_phases_of_blocks :
    (up.placeBlocks [(520, 128, 0), (521, 128, 0), (522, 128, 0), (523, 128, 0)] fun p =>
      [30020, 29980, 30010, 29990].getD p 0).map (fun e => e.2.2) = [1, 3, 2, 0] := by decide +kernel

/-- The worked example under R391: the bucket 584 slots after frame 2, and 12,396 - 584 slots after frame 3. -/
theorem test_bucket : refill (-58368000) 100000 3000 584 = 32000 ∧ refill (-1181152000) 100000 3000 (4999 - 584) = -739652000 := by
  decide +kernel

/-- The worked example under R397: the packets of a frame of 2160p59.94, and the first release slots. -/
theorem test_pacing :
    videoPackets 0x5070 1260 = 16458 ∧
    ((⟨(60000, 1001), 16458, troUnits 0x5070 0, true, 1⟩ : Sched).due 96096061200 96096061450).map (fun e => e.1 - 96096000000) =
      [61217, 61311, 61404] := by decide +kernel

/-- The status of an event after a command. -/
def statusAfter (o : Host.Outcome State Fault Refusal) (ev : Nat) : Nat :=
  match o with
  | .next t => t.n (O1A.EV_STATUS ev)
  | _ => 0xFF

/-- R666, R667: a second raising sets REPEATED; ACK_ALL clears both bits. -/
theorem test_raise_twice : statusAfter (exec (.eventRaised 0x041 0xFFFF []) (up.setN (O1A.EV_STATUS 0x041) 1)) 0x041 = 3 := by
  decide +kernel
theorem test_ack_all : statusAfter (exec .ackAll (up.setN (O1A.EV_STATUS 0x041) 3)) 0x041 = 0 := by decide +kernel

/-- R16: a 1 clears, a 0 keeps. -/
theorem test_clear_one_bit : statusAfter (exec (.evStatus 0x041 2) (up.setN (O1A.EV_STATUS 0x041) 3)) 0x041 = 1 := by decide +kernel

/-- R44: a TPER above 8,000.8 cycles is clamped, and event 0x017 raised. -/
theorem test_tper_clamped : (up.writeTper (8001 * 2 ^ 40)).tick.tper.toNat = 80008 * 2 ^ 40 / 10 ∧
    (up.writeTper (8001 * 2 ^ 40)).n (O1A.EV_STATUS 0x017) = 1 := by decide +kernel

/-- The queue is served from its front (log entry 1). -/
theorem test_step_takes_the_front :
    statusAfter (step { up.setN (O1A.EV_STATUS 0x041) 3 with pending := [.evStatus 0x041 2, .ackAll] }) 0x041 = 1 := by decide +kernel

/-- A word spells no command, for the table gives no bits (log entry 2). -/
theorem test_no_word : decodeTableWord 64 0 = none ∧ State.reset.withFetchWord 64 0 = State.reset := ⟨rfl, rfl⟩


namespace C02

def wRun : State := { up.setN O01.CHAIN_STATE 0 with tick := { up.tick with tper := 0x001F40FFFFFFFFFF#64, acc := 0x00000000FFFFFFFF#64, tick := 41#64 } }
def wJump : State := { wRun with tick := { wRun.tick with jump := some 99 } }
def wNel : State := { up.setN O01.CHAIN_STATE 3 with phase := .neloas }
def wPps : State := { hold up [(O02.SOURCE_TYPE 4, 8), (O01.PPS_TIME, 0x0000000200000001)] with tick := { up.tick with pps := true, tick := 17#64 } }
def wTx : Tx := { Tx.blank .neloas [] with id := 3 }
def wShadow (n : Nat) (x : Option Tx) : State := { up.setN O01.SHADOW_STATE n with chain := { up.chain with cur := x } }
def wQueue : State := { up.setN O01.SHADOW_STATE 1 with chain := { up.chain with queue := [{ wTx with count := 1, items := [(O06.IN_ENABLE 3, .num 1)] }] } }
def wRestart : State := { up.setN O01.CHAIN_STATE 2 with tick := { up.tick with aon := 777#64 } }

theorem meets_TickGeneratorMeasuresTheNextTick_2 : ∃ (s : State), s.Up ∧ s.phase = .running ∧ s.Holds O01.CHAIN_STATE 0 :=
  ⟨wRun, up_of (by decide +kernel), (by decide +kernel), (by unfold State.Holds; decide +kernel)⟩

theorem meets_TickGeneratorMeasuresTheNextTick_3 : ∃ (s : State), s.Up ∧ s.phase ≠ .running :=
  ⟨wNel, up_of (by decide +kernel), (by decide +kernel)⟩

theorem meets_SeamEndsTheTickAndSamplesTheCounters_1 : ∃ (s : State) (aon : Option Nat) (phase : Int), s.Up :=
  ⟨wRun, none, 0, up_of (by decide +kernel)⟩

theorem meets_SeamEndsTheTickAndSamplesTheCounters_2 : ∃ (s : State) (aon : Option Nat) (phase : Int), s.Up ∧ s.phase = .neloas ∧ s.Holds O01.CHAIN_STATE 3 ∧ s.boot.resetAt = none ∧ s.mail.h2dHead = s.mail.h2dTail :=
  ⟨wNel, none, 0, up_of (by decide +kernel), (by decide +kernel), (by unfold State.Holds; decide +kernel), (by decide +kernel), (by decide +kernel)⟩

theorem meets_SeamEndsTheTickAndSamplesTheCounters_3 : ∃ (s : State) (time : Nat), s.Up ∧ s.answers = true ∧ time % 2 ^ 32 ≤ 999999999 :=
  ⟨wRun, 0x0000000100000005, up_of (by decide +kernel), (by decide +kernel), (by decide +kernel)⟩

theorem meets_PpsEdgeTakesTheWrittenTime_1 : ∃ (s : State) (c : Nat) (phase : Int), s.Up ∧ ((List.range 16).find? fun i => s.candType i == 8) = some c ∧ s.tick.pps = true :=
  ⟨wPps, 4, 0, up_of (by decide +kernel), (by decide +kernel), (by decide +kernel)⟩

theorem meets_PpsEdgeTakesTheWrittenTime_2 : ∃ (s : State) (phase : Int), s.Up ∧ ((List.range 16).find? fun i => s.candType i == 8) = none :=
  ⟨wRun, 0, up_of (by decide +kernel), (by decide +kernel)⟩

theorem meets_ShadowBankMovesThroughItsStates_1 : ∃ (s : State) (x : Tx), s.Up ∧ s.Holds O01.SHADOW_STATE 2 ∧ s.chain.cur = some x :=
  ⟨wShadow 2 (some wTx), wTx, up_of (by decide +kernel), (by unfold State.Holds; decide +kernel), (by decide +kernel)⟩

theorem meets_ShadowBankMovesThroughItsStates_2 : ∃ (s : State) (x : Tx), s.Up ∧ s.Holds O01.SHADOW_STATE 2 ∧ s.chain.cur = some x ∧ x.persistent = false :=
  ⟨wShadow 2 (some wTx), wTx, up_of (by decide +kernel), (by unfold State.Holds; decide +kernel), (by decide +kernel), (by decide +kernel)⟩

theorem meets_ShadowBankMovesThroughItsStates_3 : ∃ (s : State) (x : Tx), s.Up ∧ s.Holds O01.SHADOW_STATE 2 ∧ s.chain.cur = some x ∧ x.persistent = true ∧ x.jseq = none :=
  ⟨wShadow 2 (some { wTx with persistent := true }), { wTx with persistent := true }, up_of (by decide +kernel), (by unfold State.Holds; decide +kernel), (by decide +kernel), (by decide +kernel), (by decide +kernel)⟩

theorem meets_ShadowBankMovesThroughItsStates_4 : ∃ (s : State), s.Up ∧ s.Holds O01.SHADOW_STATE 1 ∧ s.chain.queue = [] ∧ s.needsRemoval = false :=
  ⟨wShadow 1 none, up_of (by decide +kernel), (by unfold State.Holds; decide +kernel), (by decide +kernel), (by decide +kernel)⟩

theorem meets_ShadowBankMovesThroughItsStates_5 : ∃ (s : State) (x : Tx), s.Up ∧ s.Holds O01.SHADOW_STATE 1 ∧ s.chain.queue = [x] ∧ x.isRemoval = false ∧ s.needsRemoval = false :=
  ⟨wQueue, { wTx with count := 1, items := [(O06.IN_ENABLE 3, .num 1)] }, up_of (by decide +kernel), (by unfold State.Holds; decide +kernel), (by decide +kernel), (by decide +kernel), (by decide +kernel)⟩

theorem meets_ChainRestartsFromTheAlwaysOnCounter_1 : ∃ (s : State) (bad : Nat), s.Up ∧ s.Holds O01.CHAIN_STATE 2 ∧ s.pendingTxs = [] :=
  ⟨wRestart, 3, up_of (by decide +kernel), (by unfold State.Holds; decide +kernel), (by decide +kernel)⟩

end C02

namespace C03

def wRun3 : State := up.setN O01.CHAIN_STATE 0
def w03 (n : Nat) : State := { hold up [(O02.CAND_STATE 3, n)] with tick := { up.tick with clock := 5000000 } }
def w03q : State := { hold up [(O02.CAND_STATE 3, 2), (O02.QUAL_TIME 3, 10)] with tick := { up.tick with clock := 5000000 }, timing := { up.timing with cand := [(3, CandSt.fresh)] } }
def wStab (n : Nat) : State := { hold up [(O02.STAB_STATE, n)] with tick := { up.tick with clock := 5000000 } }
def wSel (n : Nat) : State := { hold up [(O02.SEL_STATE, n), (O02.HOLDOVER_SPEC, 10)] with tick := { up.tick with clock := 5000000 } }
def wRe : State := { hold up [(O02.SEL_STATE, 1)] with timing := { up.timing with lastType := 1 }, clocks := { up.clocks with synth := [(15, { SynthSt.fresh with phase := 77 })] } }
def wBd : State := { wRun3 with clocks := { up.clocks with synth := [(15, { SynthSt.fresh with pos := 9600000000000 * 192192000, phase := 77, realign := true })] } }
def wPtp (st : Nat) : State := { (hold up [(O02.PROFILE 0x21, 1), (O02.SOURCE_TYPE 2, 1), (O02.SOURCE_INDEX 2, 1), (O02.CAND_STATE 2, st), (O02.QL 2, 4), (O02.PTP_ROLE 0x21, 0)]).setBytes (O02.PTP_PORTS 0x21) [0, 7] with timing := { up.timing with ptp := [(0x21, ⟨[(7, 9)], false, none, 0, 0⟩)] } }
def wPtpM : State := { wPtp 1 with timing := { up.timing with ptp := [(0x21, ⟨[(7, 6)], false, none, 0, 0⟩)] } }
def wEsmc : State := { hold up [(O02.SOURCE_TYPE 2, 2), (O02.SOURCE_INDEX 2, 9), (O02.CAND_STATE 2, 3), (O02.QL 2, 4), (O0F.ESMC_TX 9, 1)] with tick := { up.tick with clock := 5000000 } }
def w03b (n : Nat) : State := { hold up [(O02.CAND_STATE 3, n), (O02.SOURCE_TYPE 3, 3)] with tick := { up.tick with clock := 5000000 } }
def wPull : State := { wSel 2 with timing := { up.timing with pull := 9999999999 } }

theorem meets_CandidatesMoveBetweenTheirStates_1 : ∃ (s : State) (c : Nat) (phase : Int), s.Up ∧ c < 16 ∧ s.Holds (O02.CAND_STATE c) 1 ∧ s.darsOff c = false :=
  ⟨w03 1, 3, 5, up_of (by decide +kernel), (by decide +kernel), (by unfold State.Holds; decide +kernel), (by decide +kernel)⟩

theorem meets_CandidatesMoveBetweenTheirStates_2 : ∃ (s : State) (c n : Nat) (phase : Int), s.Up ∧ c < 16 ∧ s.Holds (O02.CAND_STATE c) n ∧ n ≠ 0 ∧ s.Holds (O02.SOURCE_TYPE c) 3 :=
  ⟨w03b 3, 3, 3, -8, up_of (by decide +kernel), (by decide +kernel), (by unfold State.Holds; decide +kernel), (by decide +kernel), (by unfold State.Holds; decide +kernel)⟩

theorem meets_CandidatesMoveBetweenTheirStates_3 : ∃ (s : State) (c : Nat), s.Up ∧ c < 16 ∧ s.Holds (O02.CAND_STATE c) 2 ∧ (s.cand c).hardOut = false ∧ (s.cand c).timer + s.n (O02.QUAL_TIME c) * 192 ≤ s.now :=
  ⟨w03q, 3, up_of (by decide +kernel), (by decide +kernel), (by unfold State.Holds; decide +kernel), (by decide +kernel), (by decide +kernel)⟩

theorem meets_CandidatesMoveBetweenTheirStates_4 : ∃ (s : State) (c n : Nat), s.Up ∧ c < 16 ∧ s.Holds (O02.CAND_STATE c) n ∧ 2 ≤ n ∧ ((s.candType c ≠ 1 ∧ s.candType c ≠ 9) ∨ s.stopDue c = true) :=
  ⟨w03 4, 3, 4, up_of (by decide +kernel), (by decide +kernel), (by unfold State.Holds; decide +kernel), (by decide +kernel), (by decide +kernel)⟩

theorem meets_CandidatesMoveBetweenTheirStates_5 : ∃ (s : State) (c n : Nat), s.Up ∧ c < 16 ∧ s.Holds (O02.CAND_STATE c) n ∧ 2 ≤ n :=
  ⟨w03 2, 3, 2, up_of (by decide +kernel), (by decide +kernel), (by unfold State.Holds; decide +kernel), (by decide +kernel)⟩

theorem meets_CandidatesMoveBetweenTheirStates_6 : ∃ (s : State) (c n ty reported : Nat), s.Up ∧ c < 16 ∧ s.Holds (O02.CAND_STATE c) n ∧ 2 ≤ n ∧ s.Holds (O02.SOURCE_TYPE c) ty ∧ (ty = 3 ∨ ty = 4 ∨ ty = 6 ∨ ty = 7) ∧ reported ≠ s.n (O02.NOMINAL c) :=
  ⟨w03b 3, 3, 3, 3, 0x23, up_of (by decide +kernel), (by decide +kernel), (by unfold State.Holds; decide +kernel), (by decide +kernel), (by unfold State.Holds; decide +kernel), (by decide +kernel), (by decide +kernel)⟩

theorem meets_CandidatesMoveBetweenTheirStates_7 : ∃ (s : State) (c : Nat), s.Up ∧ c < 16 ∧ (s.Holds (O02.CAND_STATE c) 0 ∨ s.Holds (O02.CAND_STATE c) 1) :=
  ⟨w03 1, 3, up_of (by decide +kernel), (by decide +kernel), (by unfold State.Holds; decide +kernel)⟩

theorem meets_ReferencesLockAndRealign_1 : ∃ (s : State), s.Up ∧ (s.Holds O02.STAB_STATE 0 ∨ s.Holds O02.STAB_STATE 3) :=
  ⟨wStab 3, up_of (by decide +kernel), (by unfold State.Holds; decide +kernel)⟩

theorem meets_ReferencesLockAndRealign_2 : ∃ (s : State), s.Up ∧ s.Holds O02.STAB_STATE 1 ∧ s.timing.stabSince + 1920000 ≤ s.now :=
  ⟨wStab 1, up_of (by decide +kernel), (by unfold State.Holds; decide +kernel), (by decide +kernel)⟩

theorem meets_ReferencesLockAndRealign_3 : ∃ (s : State), s.Up ∧ (s.Holds O02.STAB_STATE 1 ∨ s.Holds O02.STAB_STATE 2) :=
  ⟨wStab 2, up_of (by decide +kernel), (by unfold State.Holds; decide +kernel)⟩

theorem meets_ReferencesLockAndRealign_4 : ∃ (s : State), s.Up ∧ s.Holds O02.SEL_STATE 2 ∧ s.pullLeft.natAbs < 1000 * psUnits ∧ (s.timing.freq - s.refFreq).natAbs < 960 :=
  ⟨wSel 2, up_of (by decide +kernel), (by unfold State.Holds; decide +kernel), (by decide +kernel), (by decide +kernel)⟩

theorem meets_ReferencesLockAndRealign_5 : ∃ (s : State), s.Up ∧ s.Holds O02.SEL_STATE 2 ∧ (1000 * psUnits ≤ s.pullLeft.natAbs ∨ 960 ≤ (s.timing.freq - s.refFreq).natAbs) :=
  ⟨wPull, up_of (by decide +kernel), (by unfold State.Holds; decide +kernel), (by decide +kernel)⟩

theorem meets_ReferencesLockAndRealign_6 : ∃ (s : State), s.Up ∧ s.Holds O02.SEL_STATE 3 ∧ s.timing.specOut = false ∧ s.timing.holdSince + s.n O02.HOLDOVER_SPEC * 192000 ≤ s.now :=
  ⟨wSel 3, up_of (by decide +kernel), (by unfold State.Holds; decide +kernel), (by decide +kernel), (by decide +kernel)⟩

theorem meets_ReferencesLockAndRealign_7 : ∃ (s : State) (mask y : Nat) (x : SynthSt), s.Up ∧ s.served = true ∧ SMap.find? s.clocks.synth y = some x ∧ bit mask y = true ∧ s.hasTarget y = true :=
  ⟨wRe, 0x8000, 15, { SynthSt.fresh with phase := 77 }, up_of (by decide +kernel), (by decide +kernel), (by decide +kernel), (by decide +kernel), (by decide +kernel)⟩

theorem meets_ReferencesLockAndRealign_8 : ∃ (s : State) (y : Nat) (x : SynthSt), s.Up ∧ s.phase = .running ∧ s.Holds O01.CHAIN_STATE 0 ∧ y < 16 ∧ SMap.find? s.clocks.synth y = some x ∧ x.realign = true ∧ (s.synthPeriod y : Int) ≤ x.pos + (units + x.corr) * (s.synthRate y).1 :=
  ⟨wBd, 15, { SynthSt.fresh with pos := 9600000000000 * 192192000, phase := 77, realign := true }, up_of (by decide +kernel), (by decide +kernel), (by unfold State.Holds; decide +kernel), (by decide +kernel), (by decide +kernel), (by decide +kernel), (by decide +kernel)⟩

theorem meets_ReferencesLockAndRealign_9 : ∃ (s : State) (xtal : Int) (m : CandMeas) (n : Nat), s.Up ∧ m.cand < 16 ∧ s.Holds (O02.CAND_STATE m.cand) n ∧ n ≠ 0 :=
  ⟨w03 3, -77, ⟨3, 12, -34, 8⟩, 3, up_of (by decide +kernel), (by decide +kernel), (by unfold State.Holds; decide +kernel), (by decide +kernel)⟩

theorem meets_PtpAndEsmcMessagesSetAndSend_1 : ∃ (s : State) (i port origin rx : Nat) (log : Int), s.Up ∧ i < 4 ∧ s.ptpOn (0x20 + i) port = true ∧ s.ptpSlave (0x20 + i) = true ∧ s.n (O02.PTP_ROLE (0x20 + i)) ≠ 2 :=
  ⟨wPtp 1, 1, 7, 1000000, 3000000, -3, up_of (by decide +kernel), (by decide +kernel), (by decide +kernel), (by decide +kernel), (by decide +kernel)⟩

theorem meets_PtpAndEsmcMessagesSetAndSend_2 : ∃ (s : State) (i port origin rx c : Nat) (log : Int), s.Up ∧ i < 4 ∧ s.ptpOn (0x20 + i) port = true ∧ s.ptpSlave (0x20 + i) = true ∧ s.n (O02.PTP_ROLE (0x20 + i)) ≠ 2 ∧ s.candOf 1 i = some c ∧ s.Holds (O02.CAND_STATE c) 1 ∧ (s.cand c).lastSync = none :=
  ⟨wPtp 1, 1, 7, 1000000, 3000000, 2, -3, up_of (by decide +kernel), (by decide +kernel), (by decide +kernel), (by decide +kernel), (by decide +kernel), (by decide +kernel), (by unfold State.Holds; decide +kernel), (by decide +kernel)⟩

theorem meets_PtpAndEsmcMessagesSetAndSend_3 : ∃ (s : State) (i port cls acc prio role : Nat) (gm : List Byte) (utc : Option Int) (ports : List (Nat × Nat)), s.Up ∧ i < 4 ∧ s.ptpOn (0x20 + i) port = true ∧ (ports.any fun p => (p.2 == 8 || p.2 == 9) && (s.ptpPorts (0x20 + i)).contains p.1) = true ∧ s.Holds (O02.PTP_ROLE (0x20 + i)) role ∧ role ≠ 2 ∧ (s.ptpSt (0x20 + i)).hasParent = false :=
  ⟨wPtp 3, 1, 7, 6, 0x20, 0x8081, 0, [1, 2, 3], some 37, [(7, 9)], up_of (by decide +kernel), (by decide +kernel), (by decide +kernel), (by decide +kernel), (by unfold State.Holds; decide +kernel), (by decide +kernel), (by decide +kernel)⟩

theorem meets_PtpAndEsmcMessagesSetAndSend_4 : ∃ (s : State) (i port cls acc prio role c n q : Nat) (gm : List Byte) (utc : Option Int) (ports : List (Nat × Nat)), s.Up ∧ i < 4 ∧ s.ptpOn (0x20 + i) port = true ∧ (ports.any fun p => (p.2 == 8 || p.2 == 9) && (s.ptpPorts (0x20 + i)).contains p.1) = true ∧ s.Holds (O02.PTP_ROLE (0x20 + i)) role ∧ role ≠ 2 ∧ s.candOf 1 i = some c ∧ s.Holds (O02.CAND_STATE c) n ∧ n ≠ 0 ∧ s.Holds (O02.QL c) q :=
  ⟨wPtp 3, 1, 7, 6, 0x20, 0x8081, 0, 2, 3, 4, [1, 2, 3], some 37, [(7, 9)], up_of (by decide +kernel), (by decide +kernel), (by decide +kernel), (by decide +kernel), (by unfold State.Holds; decide +kernel), (by decide +kernel), (by decide +kernel), (by unfold State.Holds; decide +kernel), (by decide +kernel), (by unfold State.Holds; decide +kernel)⟩

theorem meets_PtpAndEsmcMessagesSetAndSend_5 : ∃ (s : State) (i port : Nat) (ports : List (Nat × Nat)), s.Up ∧ i < 4 ∧ s.ptpOn (0x20 + i) port = true ∧ (ports.any fun p => p.2 == 8 || p.2 == 9) = false ∧ ((s.ptpSt (0x20 + i)).hasParent = false ∨ (s.ptpSt (0x20 + i)).lastAnn + 3 * logTicks (signed 8 (s.n (O02.LOG_INTERVALS (0x20 + i)))) ≤ s.now) :=
  ⟨wPtp 3, 1, 7, [(7, 4)], up_of (by decide +kernel), (by decide +kernel), (by decide +kernel), (by decide +kernel), (by decide +kernel)⟩

theorem meets_PtpAndEsmcMessagesSetAndSend_6 : ∃ (s : State) (i port c n : Nat) (ports : List (Nat × Nat)), s.Up ∧ i < 4 ∧ s.ptpOn (0x20 + i) port = true ∧ (ports.any fun p => p.2 == 8 || p.2 == 9) = false ∧ ((s.ptpSt (0x20 + i)).hasParent = false ∨ (s.ptpSt (0x20 + i)).lastAnn + 3 * logTicks (signed 8 (s.n (O02.LOG_INTERVALS (0x20 + i)))) ≤ s.now) ∧ s.candOf 1 i = some c ∧ s.Holds (O02.CAND_STATE c) n ∧ 2 ≤ n :=
  ⟨wPtp 3, 1, 7, 2, 3, [(7, 4)], up_of (by decide +kernel), (by decide +kernel), (by decide +kernel), (by decide +kernel), (by decide +kernel), (by decide +kernel), (by unfold State.Holds; decide +kernel), (by decide +kernel)⟩

theorem meets_PtpAndEsmcMessagesSetAndSend_7 : ∃ (s : State) (i port kind : Nat), s.Up ∧ i < 4 ∧ s.ptpOn (0x20 + i) port = true ∧ kind < 2 ∧ s.n (O02.PTP_ROLE (0x20 + i)) ≠ 1 ∧ ((s.ptpSt (0x20 + i)).ports.find? fun p => p.1 == port) = some (port, 6) :=
  ⟨wPtpM, 1, 7, 1, up_of (by decide +kernel), (by decide +kernel), (by decide +kernel), (by decide +kernel), (by decide +kernel), (by decide +kernel)⟩

theorem meets_PtpAndEsmcMessagesSetAndSend_8 : ∃ (s : State) (i port t1 t2 t3 t4 : Nat), s.Up ∧ i < 4 ∧ s.ptpOn (0x20 + i) port = true ∧ s.n (O02.PROFILE (0x20 + i)) ≠ 3 :=
  ⟨wPtp 1, 1, 7, 100, 300, 350, 610, up_of (by decide +kernel), (by decide +kernel), (by decide +kernel), (by decide +kernel)⟩

theorem meets_PtpAndEsmcMessagesSetAndSend_9 : ∃ (s : State) (port ssm c n q : Nat) (enhanced : Bool), s.Up ∧ s.candOf 2 port = some c ∧ s.Holds (O02.CAND_STATE c) n ∧ n ≠ 0 ∧ s.Holds (O02.QL c) q :=
  ⟨wEsmc, 9, 2, 2, 3, 4, true, up_of (by decide +kernel), (by decide +kernel), (by unfold State.Holds; decide +kernel), (by decide +kernel), (by unfold State.Holds; decide +kernel)⟩

theorem meets_PtpAndEsmcMessagesSetAndSend_10 : ∃ (s : State) (c n q : Nat), s.Up ∧ c < 16 ∧ s.Holds (O02.SOURCE_TYPE c) 2 ∧ s.Holds (O02.CAND_STATE c) n ∧ n ≠ 0 ∧ s.Holds (O02.QL c) q ∧ (s.cand c).esmcOut = false ∧ (s.cand c).lastMsg + 960000 ≤ s.now :=
  ⟨wEsmc, 2, 3, 4, up_of (by decide +kernel), (by decide +kernel), (by unfold State.Holds; decide +kernel), (by unfold State.Holds; decide +kernel), (by decide +kernel), (by unfold State.Holds; decide +kernel), (by decide +kernel), (by decide +kernel)⟩

theorem meets_PtpAndEsmcMessagesSetAndSend_11 : ∃ (s : State) (port : Nat), s.UpAt 0x0F port ∧ s.Holds (O0F.ESMC_TX port) 1 :=
  ⟨wEsmc, 9, upAt_of (by decide +kernel), (by unfold State.Holds; decide +kernel)⟩

end C03

namespace C04

def wPll (p n : Nat) : State := { hold up [(O03.PLL_STATE p, n), (O03.UNLOCK_COUNT p, 7), (O01.CHAIN_STATE, 1)] with tick := { up.tick with clock := 5000 }, clocks := { up.clocks with core := [(p, ⟨some 3000, 0⟩)] } }
def wLane : State := { hold up [(O11.LANE_MODE 5, 2), (O03.LREF_STATE 0x1B, 1), (O11.LANE_LREF 4, 11)] with tick := { up.tick with clock := 5000 } }
def wLref : State := { up.setN (O03.LREF_STATE 0x1B) 2 with tick := { up.tick with clock := 5000 } }
def wSyn : State := { up.setN (O03.ACS_STATE 0x37) 2 with tick := { up.tick with clock := 5000 }, clocks := { up.clocks with lock := [(23, ⟨some 3000, 0⟩)] } }

theorem meets_CorePllsLoseAndRegainLock_1 : ∃ (s : State) (pll a : Nat) (l : List Nat), s.Up ∧ (pll = 2 ∨ pll = 3) ∧ s.Holds (O03.PLL_STATE pll) 0 ∧ s.Holds (O03.UNLOCK_COUNT pll) a ∧ a + 1 < 2 ^ bitsOf (O03.UNLOCK_COUNT pll) :=
  ⟨wPll 3 0, 3, 7, [], up_of (by decide +kernel), (by decide +kernel), (by unfold State.Holds; decide +kernel), (by unfold State.Holds; decide +kernel), (by decide +kernel)⟩

theorem meets_CorePllsLoseAndRegainLock_2 : ∃ (s : State) (pll : Nat) (l : List Nat), s.Up ∧ pll < 4 ∧ s.Holds (O03.PLL_STATE pll) 2 :=
  ⟨wPll 1 2, 1, [], up_of (by decide +kernel), (by decide +kernel), (by unfold State.Holds; decide +kernel)⟩

theorem meets_CorePllsLoseAndRegainLock_3 : ∃ (s : State) (l : List Nat), s.Up ∧ s.Holds (O03.PLL_STATE 0) 0 ∧ s.Holds O01.CHAIN_STATE 1 :=
  ⟨wPll 0 0, [], up_of (by decide +kernel), (by unfold State.Holds; decide +kernel), (by unfold State.Holds; decide +kernel)⟩

theorem meets_CorePllsLoseAndRegainLock_4 : ∃ (s : State) (pll : Nat), s.Up ∧ pll < 4 ∧ (s.Holds (O03.PLL_STATE pll) 1 ∨ s.Holds (O03.PLL_STATE pll) 3) :=
  ⟨wPll 1 3, 1, up_of (by decide +kernel), (by decide +kernel), (by unfold State.Holds; decide +kernel)⟩

theorem meets_CorePllsLoseAndRegainLock_5 : ∃ (s : State) (pll since : Nat), s.Up ∧ (pll = 2 ∨ pll = 3) ∧ s.Holds (O03.PLL_STATE pll) 2 ∧ SMap.find? s.clocks.core pll = some ⟨some since, 0⟩ ∧ since + 1984 ≤ s.now :=
  ⟨wPll 2 2, 2, 3000, up_of (by decide +kernel), (by decide +kernel), (by unfold State.Holds; decide +kernel), (by decide +kernel), (by decide +kernel)⟩

theorem meets_CorePllsLoseAndRegainLock_6 : ∃ (s : State) (since : Nat), s.Up ∧ s.Holds (O03.PLL_STATE 0) 2 ∧ s.Holds O01.CHAIN_STATE 1 ∧ SMap.find? s.clocks.core 0 = some ⟨some since, 0⟩ ∧ since + 1984 ≤ s.now :=
  ⟨wPll 0 2, 3000, up_of (by decide +kernel), (by unfold State.Holds; decide +kernel), (by unfold State.Holds; decide +kernel), (by decide +kernel), (by decide +kernel)⟩

theorem meets_LaneClocksLoseAndConfirmLock_1 : ∃ (s : State) (r n : Nat) (offset : Int), s.Up ∧ r < 12 ∧ s.Holds (O03.LREF_STATE (0x10 + r)) n ∧ n ≠ 1 ∧ offset.natAbs ≤ 20000 ∧ (s.clocks.lref.getD r ⟨none, 0⟩).badSince + 192 ≤ s.now :=
  ⟨wLref, 11, 2, 20000, up_of (by decide +kernel), (by decide +kernel), (by unfold State.Holds; decide +kernel), (by decide +kernel), (by decide +kernel), (by decide +kernel)⟩

theorem meets_LaneClocksLoseAndConfirmLock_2 : ∃ (s : State) (r n : Nat) (offset : Int), s.Up ∧ r < 12 ∧ s.Holds (O03.LREF_STATE (0x10 + r)) n ∧ 20000 < offset.natAbs :=
  ⟨wLref, 11, 2, -20001, up_of (by decide +kernel), (by decide +kernel), (by unfold State.Holds; decide +kernel), (by decide +kernel)⟩

theorem meets_LaneClocksLoseAndConfirmLock_3 : ∃ (s : State) (r : Nat), s.Up ∧ r < 12 ∧ s.Holds (O03.LREF_STATE (0x10 + r)) 1 :=
  ⟨wLane, 11, up_of (by decide +kernel), (by decide +kernel), (by unfold State.Holds; decide +kernel)⟩

theorem meets_LaneClocksLoseAndConfirmLock_4 : ∃ (s : State) (y n : Nat), s.Up ∧ y < 24 ∧ s.Holds (State.synthKey y) n ∧ n ≠ 1 ∧ s.following y = false :=
  ⟨up.setN (O03.ACS_STATE 0x30) 0, 16, 0, up_of (by decide +kernel), (by decide +kernel), (by unfold State.Holds; decide +kernel), (by decide +kernel), (by decide +kernel)⟩

theorem meets_LaneClocksLoseAndConfirmLock_5 : ∃ (s : State) (y n : Nat), s.Up ∧ y < 24 ∧ s.Holds (State.synthKey y) n ∧ n ≠ 0 ∧ s.following y = false ∧ (s.clocks.lock.getD y ⟨none, 0⟩).since = none :=
  ⟨up.setN (O03.ACS_STATE 0x37) 1, 23, 1, up_of (by decide +kernel), (by decide +kernel), (by unfold State.Holds; decide +kernel), (by decide +kernel), (by decide +kernel), (by decide +kernel)⟩

theorem meets_LaneClocksLoseAndConfirmLock_6 : ∃ (s : State) (y n at_ : Nat), s.Up ∧ y < 24 ∧ s.Holds (State.synthKey y) n ∧ n ≠ 0 ∧ s.following y = false ∧ (s.clocks.lock.getD y ⟨none, 0⟩).since = some at_ ∧ at_ + 1984 ≤ s.now :=
  ⟨wSyn, 23, 2, 3000, up_of (by decide +kernel), (by decide +kernel), (by unfold State.Holds; decide +kernel), (by decide +kernel), (by decide +kernel), (by decide +kernel), (by decide +kernel)⟩

theorem meets_LaneClocksLoseAndConfirmLock_7 : ∃ (s : State) (lane m : Nat), s.UpAt 0x11 lane ∧ s.Holds (O11.LANE_MODE lane) m ∧ m ≠ 0 ∧ m ≠ 1 :=
  ⟨wLane, 5, 2, upAt_of (by decide +kernel), (by unfold State.Holds; decide +kernel), (by decide +kernel), (by decide +kernel)⟩

theorem meets_LaneClocksLoseAndConfirmLock_8 : ∃ (s : State) (lane m : Nat), s.UpAt 0x11 lane ∧ s.Holds (O11.LANE_MODE lane) m ∧ m ≠ 0 ∧ m ≠ 1 ∧ s.laneRef lane = true ∧ (s.lane lane).lostAt + 198 ≤ s.now :=
  ⟨wLane, 5, 2, upAt_of (by decide +kernel), (by unfold State.Holds; decide +kernel), (by decide +kernel), (by decide +kernel), (by decide +kernel), (by decide +kernel)⟩

end C04

namespace C05

def dsc : Desc := { kind := 0, state := 1, subst := false, incomplete := false, srcp := 2, dstp := 3, origin := 0, lineBytes := 0, lines := 0, interlaced := false, reserve := 0, curGroup := 0, reqGroup := 0, frameIndex := 0, frames := 1, base := 0, cells := 100, substs := 0, moved := 0, dest := 5, trunkIn := 0xFFFF, trunkOut := 0xFFFF, originId := 0, redo := 0, repeating := false, label := 0 }
def vid (redo : Nat) : Desc := { dsc with lines := 1125, lineBytes := 6000, redo := redo, curGroup := 1, state := 2 }
def wMove : Nat := entWord 1 2 3 4 0 true 7 0
def wMove1 : Nat := entWord 1 2 3 1 0 false 7 0
def wWr : Nat := entWord 2 2 60 1 0 false 7 9
def wRd : Nat := entWord 3 60 3 1 0 false 7 9
def wBu : Nat := entWord 4 0 0 1 0 false 7 0
def wLink (w : Nat) : State := { hold up [(O01.CHAIN_STATE, 0), (O04.CELLS_OUT 2, 10), (O04.CELLS_IN 3, 20), (O04.ERROR_CELLS 3, 5), (O04.INVALID_CELLS 3, 5)] with tick := { up.tick with inTick := true }, clocks := { up.clocks with hbmBypass := false }, chain := { up.chain with active := [(4, w)] }, fabric := { up.fabric with desc := [(7, dsc), (8, dsc)] } }
def wVid (redo : Nat) : State := { wLink wMove with fabric := { up.fabric with desc := [(7, vid redo)] } }
def wOwe : State := { wLink wMove with chain := { up.chain with owing := [⟨entWord 1 5 3 4 0 true 9 0, 4, 3, 1, []⟩] }, fabric := up.fabric }

theorem meets_EntriesMoveTheirCells_1 : ∃ (s : State) (link word : Nat), s.Up :=
  ⟨up, 0, 0, up_of (by decide +kernel)⟩

theorem meets_EntriesMoveTheirCells_2 : ∃ (s : State) (link word held a b : Nat) (cells : List (List Byte)) (d : Desc), s.Up ∧ s.inChain link word = true ∧ entOp word = 1 ∧ s.chain.stalls = [] ∧ s.chain.owing = [] ∧ s.desc? (entStream word) = some d ∧ s.Holds (O04.CELLS_OUT (entSrc word)) a ∧ s.Holds (O04.CELLS_IN (entDst word)) b ∧ a + entCells word < 2 ^ bitsOf (O04.CELLS_OUT (entSrc word)) ∧ b + entCells word < 2 ^ bitsOf (O04.CELLS_IN (entDst word)) :=
  ⟨wLink wMove, 4, wMove, 2, 10, 20, [List.replicate 128 0x5A], dsc, up_of (by decide +kernel), (by decide +kernel), (by decide +kernel), (by decide +kernel), (by decide +kernel), (by decide +kernel), (by unfold State.Holds; decide +kernel), (by unfold State.Holds; decide +kernel), (by decide +kernel), (by decide +kernel)⟩

theorem meets_EntriesMoveTheirCells_3 : ∃ (s : State) (link word : Nat) (cell : List Byte) (d : Desc), s.Up ∧ s.inChain link word = true ∧ entOp word = 1 ∧ entCells word = 1 ∧ entDem word = false ∧ s.chain.stalls = [] ∧ s.chain.owing = [] ∧ s.desc? (entStream word) = some d ∧ d.kind ≠ 2 ∧ portClient s.member (entSrc word) ≠ 5 ∧ portClient s.member (entDst word) < 4 ∧ cell.length = 128 :=
  ⟨wLink wMove1, 4, wMove1, List.replicate 128 0x5A, dsc, up_of (by decide +kernel), (by decide +kernel), (by decide +kernel), (by decide +kernel), (by decide +kernel), (by decide +kernel), (by decide +kernel), (by decide +kernel), (by decide +kernel), (by decide +kernel), (by decide +kernel), (by decide +kernel)⟩

theorem meets_EntriesMoveTheirCells_4 : ∃ (s : State) (link word : Nat) (cell : List Byte) (d : Desc), s.Up ∧ s.inChain link word = true ∧ entOp word = 2 ∧ entCells word = 1 ∧ entSrc word ≠ 63 ∧ portClient s.member (entSrc word) ≠ 5 ∧ s.chain.stalls = [] ∧ s.chain.owing = [] ∧ cell.length = 128 ∧ s.desc? (entStream word) = some d ∧ s.clocks.hbmBypass = false ∧ State.ringOf d = none ∧ s.ringQueue d = none ∧ (portClient s.member (entSrc word) ≠ 2 ∨ (SMap.find? s.inputs (d.dest - 0x1000)).any (·.writing) = true) :=
  ⟨wLink wWr, 4, wWr, List.replicate 128 0x5A, dsc, up_of (by decide +kernel), (by decide +kernel), (by decide +kernel), (by decide +kernel), (by decide +kernel), (by decide +kernel), (by decide +kernel), (by decide +kernel), (by decide +kernel), (by decide +kernel), (by decide +kernel), (by decide +kernel), (by decide +kernel), (.inl (by decide +kernel))⟩

theorem meets_EntriesMoveTheirCells_5 : ∃ (s : State) (link word : Nat) (d : Desc), s.Up ∧ s.inChain link word = true ∧ entOp word = 3 ∧ entCells word = 1 ∧ entDst word ≠ 63 ∧ ((entDem word = true → 0 < d.wanted)) ∧ s.chain.stalls = [] ∧ s.chain.owing = [] ∧ s.desc? (entStream word) = some d ∧ s.clocks.hbmBypass = false ∧ s.fmem.bad = [] ∧ portClient s.member (entDst word) ≠ 5 :=
  ⟨wLink wRd, 4, wRd, dsc, up_of (by decide +kernel), (by decide +kernel), (by decide +kernel), (by decide +kernel), (by decide +kernel), (by decide +kernel), (by decide +kernel), (by decide +kernel), (by decide +kernel), (by decide +kernel), (by decide +kernel), (by decide +kernel)⟩

theorem meets_EntriesMoveTheirCells_6 : ∃ (s : State) (link word fallback : Nat) (d : Desc), s.Up ∧ s.inChain link word = true ∧ entOp word = 4 ∧ s.chain.stalls = [] ∧ s.chain.owing = [] ∧ s.desc? (entStream word) = some d ∧ s.present 0x09 (tagPath d.dest) = true :=
  ⟨wLink wBu, 4, wBu, 120, dsc, up_of (by decide +kernel), (by decide +kernel), (by decide +kernel), (by decide +kernel), (by decide +kernel), (by decide +kernel), (by decide +kernel)⟩

theorem meets_LineGroupStartRequestsTheGroupAfterNext_1 : ∃ (s : State) (stream group displaced : Nat) (d : Desc), s.Up ∧ s.desc? stream = some d ∧ d.kind = 0 ∧ group < d.frameGroups ∧ (d.redo = 0 ∨ d.curGroup ≠ group) :=
  ⟨wVid 0, 7, 1, 0, vid 0, up_of (by decide +kernel), (by decide +kernel), (by decide +kernel), (by decide +kernel), (.inl (by decide +kernel))⟩

theorem meets_LineGroupStartRequestsTheGroupAfterNext_2 : ∃ (s : State) (stream group displaced : Nat) (d : Desc), s.Up ∧ s.desc? stream = some d ∧ d.kind = 0 ∧ group < d.frameGroups ∧ 0 < d.redo ∧ d.curGroup = group :=
  ⟨wVid 2, 7, 1, 0, vid 2, up_of (by decide +kernel), (by decide +kernel), (by decide +kernel), (by decide +kernel), (by decide +kernel), (by decide +kernel)⟩

theorem meets_StallsCatchUpAndDamagedCells_1 : ∃ (s : State) (link word cells cycles cause : Nat), s.Up ∧ s.inChain link word = true :=
  ⟨wLink wMove, 4, wMove, 3, 90, 0, up_of (by decide +kernel), (by decide +kernel)⟩

theorem meets_StallsCatchUpAndDamagedCells_2 : ∃ (s : State) (port dst cells : Nat) (o : Owing), s.Up ∧ s.running = true ∧ s.tick.inTick = true ∧ port < 64 ∧ s.chain.owing = [o] ∧ entSrc o.word = port ∧ entDst o.word = dst ∧ entOp o.word ≠ 6 ∧ o.cells ≤ cells ∧ o.cells ≤ s.catchUpRoom port dst ∧ 0 < o.cells ∧ SMap.find? s.evu.last (0x40 * 0x10000 + port) = none ∧ s.desc? (entStream o.word) = none :=
  ⟨wOwe, 5, 3, 6, ⟨entWord 1 5 3 4 0 true 9 0, 4, 3, 1, []⟩, up_of (by decide +kernel), (by decide +kernel), (by decide +kernel), (by decide +kernel), (by decide +kernel), (by decide +kernel), (by decide +kernel), (by decide +kernel), (by decide +kernel), (by decide +kernel), (by decide +kernel), (by decide +kernel), (by decide +kernel)⟩

theorem meets_StallsCatchUpAndDamagedCells_3 : ∃ (s : State) (port stream par a link word : Nat) (valid : Bool) (payload : List Byte) (d : Desc), s.Up ∧ port < 64 ∧ stream ≠ 0 ∧ s.desc? stream = some d ∧ par ≠ cellPar payload ∧ (s.chain.active.filter fun e => entStream e.2 == stream) = [(link, word)] ∧ entOp word = 1 ∧ s.chain.substituted.contains stream = false ∧ s.leaving.contains stream = false ∧ s.Holds (O04.ERROR_CELLS port) a ∧ a + 1 < 2 ^ bitsOf (O04.ERROR_CELLS port) :=
  ⟨wLink wMove, 3, 7, 1, 5, 4, wMove, true, [], dsc, up_of (by decide +kernel), (by decide +kernel), (by decide +kernel), (by decide +kernel), (by decide +kernel), (by decide +kernel), (by decide +kernel), (by decide +kernel), (by decide +kernel), (by unfold State.Holds; decide +kernel), (by decide +kernel)⟩

theorem meets_StallsCatchUpAndDamagedCells_4 : ∃ (s : State) (port stream par a : Nat) (valid : Bool) (payload : List Byte) (d : Desc), s.Up ∧ port < 64 ∧ s.desc? stream = some d ∧ (s.chain.active.filter fun e => entStream e.2 == stream) = [] ∧ s.chain.substituted.contains stream = false ∧ s.leaving.contains stream = false ∧ s.Holds (O04.ERROR_CELLS port) a ∧ a + 1 < 2 ^ bitsOf (O04.ERROR_CELLS port) :=
  ⟨wLink wMove, 3, 8, 0, 5, true, [], dsc, up_of (by decide +kernel), (by decide +kernel), (by decide +kernel), (by decide +kernel), (by decide +kernel), (by decide +kernel), (by unfold State.Holds; decide +kernel), (by decide +kernel)⟩

theorem meets_StallsCatchUpAndDamagedCells_5 : ∃ (s : State) (port stream a : Nat) (payload : List Byte), s.Up ∧ port < 64 ∧ (s.chain.active.any fun e => entDst e.2 == port && entStream e.2 == stream) = true ∧ s.Holds (O04.INVALID_CELLS port) a ∧ a + 1 < 2 ^ bitsOf (O04.INVALID_CELLS port) ∧ s.fabric.invalid.contains port = false :=
  ⟨wLink wMove, 3, 7, 5, [], up_of (by decide +kernel), (by decide +kernel), (by decide +kernel), (by unfold State.Holds; decide +kernel), (by decide +kernel), (by decide +kernel)⟩

theorem meets_StallsCatchUpAndDamagedCells_6 : ∃ (s : State) (port stream : Nat) (payload : List Byte), s.Up ∧ port < 64 ∧ (s.chain.active.any fun e => entDst e.2 == port && entStream e.2 == stream) = true :=
  ⟨wLink wMove, 3, 7, [], up_of (by decide +kernel), (by decide +kernel), (by decide +kernel)⟩

theorem meets_StallsCatchUpAndDamagedCells_7 : ∃ (s : State) (stream word : Nat) (d : Desc), s.Up ∧ stream ≠ 0 ∧ s.desc? stream = some d ∧ s.leaving.contains stream = false :=
  ⟨wLink wMove, 7, 2, dsc, up_of (by decide +kernel), (by decide +kernel), (by decide +kernel), (by decide +kernel)⟩

end C05

namespace C06

def wFm : State := { hold up [(O05.RETRY_OK 0x10, 3), (O05.UE_COUNT 0x10, 3), (O05.CE_COUNT 0x10, 3), (O05.REFRESH_COLLISIONS 2, 8), (O05.REFRESH_RATE 3, 2), (O05.SCRUB_ENABLE, 1), (O05.SCRUB_POSITION, 44)] with clocks := { up.clocks with hbmBypass := false } }
def wScrubEnd : State := wFm.setN O05.SCRUB_POSITION 18874367
def wClip (st : Nat) : State := { hold up [(O05.CLIP_STATE 0x105, st), (O05.CLIP_KIND 0x105, 1), (O05.CLIP_FORMAT 0x105, 2), (O05.CLIP_UNITS 0x105, 10), (O05.CLIP_STACK 0x105, 1), (O05.CLIP_BASE 0x105, 4096)] with clocks := { up.clocks with hbmBypass := false }, fmem := { up.fmem with extents := [(4096, 8192, 0x5105)] } }
def wClipPlaced : State := ((wClip 0).placeClip 0x105).getD up
def wClipBig : State := (wClip 0).setN (O05.CLIP_UNITS 0x105) 4000000000

theorem meets_FrameMemoryAnswersErrorsAndHeat_1 : ∃ (s : State) (addr reader stream a : Nat) (ecc : List (Nat × Nat)), s.Up ∧ addr < s.fmSize ∧ s.fmem.bad = [] ∧ .bad ∉ cellSyndromes (addr / 128 * 128) ecc ∧ s.Holds (O05.RETRY_OK (chanInst addr)) a ∧ a + 1 < 2 ^ bitsOf (O05.RETRY_OK (chanInst addr)) :=
  ⟨wFm, 127, 0, 7, 3, [], up_of (by decide +kernel), (by decide +kernel), (by decide +kernel), (by decide +kernel), (by unfold State.Holds; decide +kernel), (by decide +kernel)⟩

theorem meets_FrameMemoryAnswersErrorsAndHeat_2 : ∃ (s : State) (addr reader stream a w y : Nat), s.Up ∧ addr < s.fmSize ∧ s.fmem.bad = [] ∧ w < 8 ∧ y < 36 ∧ s.Holds (O05.CE_COUNT (chanInst (addr / 128 * 128))) a ∧ a + 1 < 2 ^ bitsOf (O05.CE_COUNT (chanInst (addr / 128 * 128))) :=
  ⟨wFm, 127, 0, 7, 3, 7, 35, up_of (by decide +kernel), (by decide +kernel), (by decide +kernel), (by decide +kernel), (by decide +kernel), (by unfold State.Holds; decide +kernel), (by decide +kernel)⟩

theorem meets_FrameMemoryAnswersErrorsAndHeat_3 : ∃ (s : State) (addr stream reader a w y z : Nat) (ecc : List (Nat × Nat)), s.Up ∧ addr < s.fmSize ∧ w < 8 ∧ y < 36 ∧ z < 36 ∧ y ≠ z ∧ (ecc.filter fun e => e.1 == w && decide (e.2 < 36)) = [(w, y), (w, z)] ∧ s.Holds (O05.UE_COUNT (chanInst addr)) a ∧ a + 1 < 2 ^ bitsOf (O05.UE_COUNT (chanInst addr)) :=
  ⟨wFm, 127, 7, 2, 3, 1, 2, 3, [(1, 2), (1, 3), (0, 4)], up_of (by decide +kernel), (by decide +kernel), (by decide +kernel), (by decide +kernel), (by decide +kernel), (by decide +kernel), (by decide +kernel), (by unfold State.Holds; decide +kernel), (by decide +kernel)⟩

theorem meets_FrameMemoryAnswersErrorsAndHeat_4 : ∃ (s : State) (stack channel stream a : Nat), s.Up ∧ stack < stackCount s.member ∧ s.Holds (O05.REFRESH_COLLISIONS stack) a ∧ a + 1 < 2 ^ bitsOf (O05.REFRESH_COLLISIONS stack) ∧ SMap.find? s.evu.last (0x55 * 0x10000 + stack) = none :=
  ⟨wFm, 2, 5, 7, 8, up_of (by decide +kernel), (by decide +kernel), (by unfold State.Holds; decide +kernel), (by decide +kernel), (by decide +kernel)⟩

theorem meets_FrameMemoryAnswersErrorsAndHeat_5 : ∃ (s : State) (stack : Nat) (temp : Int), s.Up ∧ stack < stackCount s.member ∧ s.Holds (O05.REFRESH_RATE stack) 0 ∧ 85 ≤ temp :=
  ⟨wFm.setN (O05.REFRESH_RATE 3) 0, 3, 95, up_of (by decide +kernel), (by decide +kernel), (by unfold State.Holds; decide +kernel), (by decide +kernel)⟩

theorem meets_FrameMemoryAnswersErrorsAndHeat_6 : ∃ (s : State) (stack : Nat) (temp : Int), s.Up ∧ stack < stackCount s.member ∧ s.Holds (O05.REFRESH_RATE stack) 2 ∧ temp ≤ 82 :=
  ⟨wFm, 3, 82, up_of (by decide +kernel), (by decide +kernel), (by unfold State.Holds; decide +kernel), (by decide +kernel)⟩

theorem meets_FrameMemoryAnswersErrorsAndHeat_7 : ∃ (s : State) (p : Nat), s.Up ∧ s.b O05.SCRUB_ENABLE = true ∧ s.clocks.hbmBypass = false ∧ s.Holds O05.SCRUB_POSITION p ∧ p + 1 < 18874368 :=
  ⟨wFm, 44, up_of (by decide +kernel), (by decide +kernel), (by decide +kernel), (by unfold State.Holds; decide +kernel), (by decide +kernel)⟩

theorem meets_FrameMemoryAnswersErrorsAndHeat_8 : ∃ (s : State) (p : Nat), s.Up ∧ s.b O05.SCRUB_ENABLE = true ∧ s.clocks.hbmBypass = false ∧ s.Holds O05.SCRUB_POSITION p ∧ 18874368 ≤ p + 1 :=
  ⟨wScrubEnd, 18874367, up_of (by decide +kernel), (by decide +kernel), (by decide +kernel), (by unfold State.Holds; decide +kernel), (by decide +kernel)⟩

theorem meets_FrameMemoryAnswersErrorsAndHeat_9 : ∃ (s : State) (addr : Nat), s.Up :=
  ⟨wFm, 500, up_of (by decide +kernel)⟩

theorem meets_ClipsTakeAndFreeTheirExtents_1 : ∃ (s u : State) (clip : Nat), s.UpAt 0x05 clip ∧ 0x100 ≤ clip ∧ s.accepts = true ∧ s.Holds (O05.CLIP_STATE clip) 0 ∧ s.fmem.placing.contains clip = false ∧ clipFormatOk (s.n (O05.CLIP_KIND clip)) (s.n (O05.CLIP_FORMAT clip)) = true ∧ s.n (O05.CLIP_UNITS clip) ≠ 0 ∧ s.placeClip clip = some u :=
  ⟨wClip 0, wClipPlaced, 0x105, upAt_of (by decide +kernel), (by decide +kernel), (by decide +kernel), (by unfold State.Holds; decide +kernel), (by decide +kernel), (by decide +kernel), (by decide +kernel), rfl⟩

theorem meets_ClipsTakeAndFreeTheirExtents_2 : ∃ (s : State) (clip : Nat), s.UpAt 0x05 clip ∧ 0x100 ≤ clip ∧ s.accepts = true ∧ s.Holds (O05.CLIP_STATE clip) 0 ∧ s.fmem.placing.contains clip = false ∧ clipFormatOk (s.n (O05.CLIP_KIND clip)) (s.n (O05.CLIP_FORMAT clip)) = true ∧ s.n (O05.CLIP_UNITS clip) ≠ 0 ∧ s.placeClip clip = none :=
  ⟨wClipBig, 0x105, upAt_of (by decide +kernel), (by decide +kernel), (by decide +kernel), (by unfold State.Holds; decide +kernel), (by decide +kernel), (by decide +kernel), (by decide +kernel), (by decide +kernel)⟩

theorem meets_ClipsTakeAndFreeTheirExtents_3 : ∃ (s : State) (clip base : Nat), s.UpAt 0x05 clip ∧ 0x100 ≤ clip ∧ s.accepts = true ∧ (s.Holds (O05.CLIP_STATE clip) 1 ∨ s.Holds (O05.CLIP_STATE clip) 3 ∨ s.Holds (O05.CLIP_STATE clip) 4) ∧ s.clipRead clip = false ∧ s.Holds (O05.CLIP_BASE clip) base :=
  ⟨wClip 3, 0x105, 4096, upAt_of (by decide +kernel), (by decide +kernel), (by decide +kernel), (by unfold State.Holds; decide +kernel), (by decide +kernel), (by unfold State.Holds; decide +kernel)⟩

theorem meets_ClipsTakeAndFreeTheirExtents_4 : ∃ (s : State) (clip : Nat), s.UpAt 0x05 clip ∧ 0x100 ≤ clip ∧ s.accepts = true ∧ (s.Holds (O05.CLIP_STATE clip) 2 ∨ s.Holds (O05.CLIP_STATE clip) 5) :=
  ⟨wClip 2, 0x105, upAt_of (by decide +kernel), (by decide +kernel), (by decide +kernel), (by unfold State.Holds; decide +kernel)⟩

end C06

namespace C07

def wIn (st : Nat) : State := { hold up [(O06.IN_STATE 9, st), (O06.IN_RATE_CLASS 9, 3), (O06.IN_RATE 9, 2), (O06.IN_LINK_MODE 9, 0), (O06.IN_ANC_BAD 9, 0), (O06.IN_PID_TRUST 9, 0), (O06.FRAMES_IN 9, 6), (O06.LOCK_LOSSES 9, 6), (O06.IN_FORMAT 9, 0x4060), (O06.ANC_CHECKSUM_ERR 9, 6), (O06.ERRORED_SECONDS 9, 6)] with tick := { up.tick with clock := 100 }, inputs := [(9, { InSt.fresh with seen := [4, 1, 5], seek := 1, writing := true, errSecond := true, offset := -12, ancGroup := 3, anc := [(7, [7])] })] }
def ancW : List Nat := let w := [0x161, 0x102, 0x102, 0x155, 0x2AA]; w ++ [ancSum w]
def inX : InSt := { InSt.fresh with seen := [4, 1, 5], seek := 1, writing := true, errSecond := true, offset := -12, ancGroup := 3, anc := [(7, [7])] }

theorem meets_SdiInputsSearchAlignAndLock_1 : ∃ (s : State) (i : Nat), s.UpAt 0x06 i ∧ s.Holds (O06.IN_STATE i) 1 :=
  ⟨wIn 1, 9, upAt_of (by decide +kernel), (by unfold State.Holds; decide +kernel)⟩

theorem meets_SdiInputsSearchAlignAndLock_2 : ∃ (s : State) (i : Nat), s.UpAt 0x06 i ∧ s.Holds (O06.IN_STATE i) 2 ∧ (s.input i).tried + 96 ≤ s.now :=
  ⟨wIn 2, 9, upAt_of (by decide +kernel), (by unfold State.Holds; decide +kernel), (by decide +kernel)⟩

theorem meets_SdiInputsSearchAlignAndLock_3 : ∃ (s : State) (i rate family : Nat), s.UpAt 0x06 i ∧ s.Holds (O06.IN_STATE i) 2 ∧ (s.tries i)[(s.input i).seek]? = some (rate, family) :=
  ⟨wIn 2, 9, 3, 1, upAt_of (by decide +kernel), (by unfold State.Holds; decide +kernel), (by decide +kernel)⟩

theorem meets_SdiInputsSearchAlignAndLock_4 : ∃ (s : State) (i raster scan rate level : Nat) (offset : Int), s.UpAt 0x06 i ∧ s.Holds (O06.IN_STATE i) 3 ∧ (s.input i).seen = [raster, scan, rate] ∧ s.Holds (O06.IN_LINK_MODE i) 0 ∧ s.Holds (O06.IN_PID_TRUST i) 0 ∧ (s.setN (O06.IN_LEVEL i) level).inFits i (raster * 4096 + scan * 1024 + s.n (O06.IN_SAMPLING_DEFAULT i) % 4 * 256 + rate * 16) = true :=
  ⟨wIn 3, 9, 4, 1, 5, 2, -44, upAt_of (by decide +kernel), (by unfold State.Holds; decide +kernel), (by decide +kernel), (by unfold State.Holds; decide +kernel), (by unfold State.Holds; decide +kernel), (by decide +kernel)⟩

theorem meets_SdiInputsSearchAlignAndLock_5 : ∃ (s : State) (i raster scan rate level a : Nat) (offset : Int), s.UpAt 0x06 i ∧ s.Holds (O06.IN_STATE i) 4 ∧ (s.input i).seen = [raster, scan, rate] ∧ s.Holds (O06.IN_LINK_MODE i) 0 ∧ (s.input i).writing = true ∧ (s.input i).bad = false ∧ s.Holds (O06.FRAMES_IN i) a ∧ a + 1 < 2 ^ bitsOf (O06.FRAMES_IN i) :=
  ⟨wIn 4, 9, 4, 1, 5, 2, 6, -44, upAt_of (by decide +kernel), (by unfold State.Holds; decide +kernel), (by decide +kernel), (by unfold State.Holds; decide +kernel), (by decide +kernel), (by decide +kernel), (by unfold State.Holds; decide +kernel), (by decide +kernel)⟩

theorem meets_SdiInputsSearchAlignAndLock_6 : ∃ (s : State) (i raster scan rate level skew a : Nat) (offset : Int) (whole : Bool), s.UpAt 0x06 i ∧ s.Holds (O06.IN_STATE i) 4 ∧ (s.input i).seen ≠ [raster, scan, rate] ∧ s.Holds (O06.LOCK_LOSSES i) a ∧ a + 1 < 2 ^ bitsOf (O06.LOCK_LOSSES i) :=
  ⟨wIn 4, 9, 4, 0, 5, 2, 99, 6, -44, true, upAt_of (by decide +kernel), (by unfold State.Holds; decide +kernel), (by decide +kernel), (by unfold State.Holds; decide +kernel), (by decide +kernel)⟩

theorem meets_SdiInputsSearchAlignAndLock_7 : ∃ (s : State) (i a : Nat), s.UpAt 0x06 i ∧ s.Holds (O06.IN_STATE i) 4 ∧ s.Holds (O06.LOCK_LOSSES i) a ∧ a + 1 < 2 ^ bitsOf (O06.LOCK_LOSSES i) :=
  ⟨wIn 4, 9, 6, upAt_of (by decide +kernel), (by unfold State.Holds; decide +kernel), (by unfold State.Holds; decide +kernel), (by decide +kernel)⟩

theorem meets_SdiInputsSearchAlignAndLock_8 : ∃ (s : State) (i a : Nat) (cdr : Bool), s.UpAt 0x06 i ∧ s.Holds (O06.IN_STATE i) 4 ∧ s.Holds (O06.LOCK_LOSSES i) a ∧ a + 1 < 2 ^ bitsOf (O06.LOCK_LOSSES i) :=
  ⟨wIn 4, 9, 6, true, upAt_of (by decide +kernel), (by unfold State.Holds; decide +kernel), (by unfold State.Holds; decide +kernel), (by decide +kernel)⟩

theorem meets_SdiInputsReadPayloadAndAncillaryData_1 : ∃ (s : State) (i id st raster scan rate smp col : Nat), s.UpAt 0x06 i ∧ s.Holds (O06.IN_STATE i) st ∧ 3 ≤ st ∧ (s.input i).seen = [raster, scan, rate] :=
  ⟨wIn 4, 9, 0x89C60180, 4, 4, 1, 5, 0, 1, upAt_of (by decide +kernel), (by unfold State.Holds; decide +kernel), (by decide +kernel), (by decide +kernel)⟩

theorem meets_SdiInputsReadPayloadAndAncillaryData_2 : ∃ (s : State) (i id st raster scan rate smp col was : Nat), s.UpAt 0x06 i ∧ s.Holds (O06.IN_STATE i) st ∧ 3 ≤ st ∧ (s.input i).seen ≠ [raster, scan, rate] ∧ s.Holds (O06.IN_PID_STATE i) was ∧ was ≠ 2 :=
  ⟨wIn 4, 9, 0x89C60180, 4, 5, 0, 6, 0, 1, 0, upAt_of (by decide +kernel), (by unfold State.Holds; decide +kernel), (by decide +kernel), (by decide +kernel), (by unfold State.Holds; decide +kernel), (by decide +kernel)⟩

theorem meets_SdiInputsReadPayloadAndAncillaryData_3 : ∃ (s : State) (i group line hofs flags a : Nat) (words : List Nat), s.UpAt 0x06 i ∧ i < 0x1000 ∧ s.Holds (O06.IN_STATE i) 4 ∧ 4 ≤ words.length ∧ words.length ≤ 259 ∧ 1 ≤ line ∧ line ≤ 8191 ∧ hofs ≤ 0xFFFF ∧ (ancParity (words.getD 0 0) && ancParity (words.getD 1 0)) = false ∧ s.Holds (O06.ANC_CHECKSUM_ERR i) a ∧ a + 1 < 2 ^ bitsOf (O06.ANC_CHECKSUM_ERR i) :=
  ⟨wIn 4, 9, 3, 11, 0, 0, 6, [1, 2, 3, 4], upAt_of (by decide +kernel), (by decide +kernel), (by unfold State.Holds; decide +kernel), (by decide +kernel), (by decide +kernel), (by decide +kernel), (by decide +kernel), (by decide +kernel), (by decide +kernel), (by unfold State.Holds; decide +kernel), (by decide +kernel)⟩

theorem meets_SdiInputsReadPayloadAndAncillaryData_4 : ∃ (s : State) (i group line hofs flags a : Nat) (words : List Nat), s.UpAt 0x06 i ∧ i < 0x1000 ∧ s.Holds (O06.IN_STATE i) 4 ∧ 4 ≤ words.length ∧ words.length ≤ 259 ∧ 1 ≤ line ∧ line ≤ 8191 ∧ hofs ≤ 0xFFFF ∧ (ancParity (words.getD 0 0) && ancParity (words.getD 1 0)) = true ∧ ancSum words.dropLast ≠ (words.getLast?.getD 0) % 1024 ∧ s.Holds (O06.IN_ANC_BAD i) 0 ∧ s.Holds (O06.ANC_CHECKSUM_ERR i) a ∧ a + 1 < 2 ^ bitsOf (O06.ANC_CHECKSUM_ERR i) :=
  ⟨wIn 4, 9, 3, 11, 0, 0, 6, ancW.dropLast ++ [0], upAt_of (by decide +kernel), (by decide +kernel), (by unfold State.Holds; decide +kernel), (by decide +kernel), (by decide +kernel), (by decide +kernel), (by decide +kernel), (by decide +kernel), (by decide +kernel), (by decide +kernel), (by unfold State.Holds; decide +kernel), (by unfold State.Holds; decide +kernel), (by decide +kernel)⟩

theorem meets_SdiInputsReadPayloadAndAncillaryData_5 : ∃ (s : State) (i group line hofs flags : Nat) (words : List Nat), s.UpAt 0x06 i ∧ i < 0x1000 ∧ s.Holds (O06.IN_STATE i) 4 ∧ 4 ≤ words.length ∧ words.length ≤ 259 ∧ 1 ≤ line ∧ line ≤ 8191 ∧ hofs ≤ 0xFFFF ∧ (ancParity (words.getD 0 0) && ancParity (words.getD 1 0)) = true ∧ ancSum words.dropLast = (words.getLast?.getD 0) % 1024 ∧ s.bs (O06.IN_ANC_DROP i) = [] ∧ words.getD 0 0 % 256 = 0x61 ∧ (s.input i).ancGroup = group ∧ ((s.input i).anc.map (·.2.length)).sum + (ancBytes line hofs (flags % 256 / 64 * 64) words).length ≤ 8192 :=
  ⟨wIn 4, 9, 3, 11, 0, 0xC3, ancW, upAt_of (by decide +kernel), (by decide +kernel), (by unfold State.Holds; decide +kernel), (by decide +kernel), (by decide +kernel), (by decide +kernel), (by decide +kernel), (by decide +kernel), (by decide +kernel), (by decide +kernel), (by decide +kernel), (by decide +kernel), (by decide +kernel), (by decide +kernel)⟩

theorem meets_SdiInputsReadPayloadAndAncillaryData_6 : ∃ (s : State) (i : Nat) (x : InSt), s.Up ∧ s.tick64 % 192000 = 0 ∧ SMap.rising s.inputs = true ∧ SMap.find? s.inputs i = some x ∧ i < 0x1000 :=
  ⟨wIn 4, 9, inX, up_of (by decide +kernel), (by decide +kernel), (by decide +kernel), (by decide +kernel), (by decide +kernel)⟩

theorem meets_SdiInputsReadPayloadAndAncillaryData_7 : ∃ (s : State) (i a : Nat) (x : InSt), s.Up ∧ s.tick64 % 192000 = 0 ∧ SMap.rising s.inputs = true ∧ SMap.find? s.inputs i = some x ∧ i < 0x1000 ∧ x.errSecond = true ∧ s.Holds (O06.ERRORED_SECONDS i) a ∧ a + 1 < 2 ^ bitsOf (O06.ERRORED_SECONDS i) :=
  ⟨wIn 4, 9, 6, inX, up_of (by decide +kernel), (by decide +kernel), (by decide +kernel), (by decide +kernel), (by decide +kernel), (by decide +kernel), (by unfold State.Holds; decide +kernel), (by decide +kernel)⟩

end C07

namespace C08

def wDst (st : Nat) (run : Nat) : State := { hold up [(O01.CHAIN_STATE, run), (O07.OUT_STATE 4, st), (O07.OUT_ENABLE 4, 1), (O03.VTS_STATE 0x20, 0), (O07.FRAMES_OUT 4, 7), (O08.PENDING_SOURCE 4, 0x1002), (O08.SWITCH_COUNT 4, 7)] with dests := [(4, { DestSt.fresh with armed := true, waiting := true })], lanes := [(4, { LaneSt.fresh with released := true })], tick := { up.tick with tick := 33#64 } }
def wSalvo : State := up.setBytes (O08.SALVO_ROUTES 0x905) (bytesBE 4 0x00001004 ++ bytesBE 4 0x1002 ++ bytesBE 8 0)

theorem meets_DestinationsStartFramesAndSwitch_1 : ∃ (s : State) (d written a n : Nat), s.UpAt 0x08 d ∧ d < 0x100 ∧ s.running = true ∧ s.Holds (O07.OUT_STATE d) n ∧ 2 ≤ n ∧ s.Holds (O07.FRAMES_OUT d) a ∧ a + 1 < 2 ^ bitsOf (O07.FRAMES_OUT d) :=
  ⟨wDst 3 0, 4, 5, 7, 3, upAt_of (by decide +kernel), (by decide +kernel), (by decide +kernel), (by unfold State.Holds; decide +kernel), (by decide +kernel), (by unfold State.Holds; decide +kernel), (by decide +kernel)⟩

theorem meets_DestinationsStartFramesAndSwitch_2 : ∃ (s : State) (d written a n : Nat), s.UpAt 0x08 d ∧ d < 0x100 ∧ s.running = true ∧ s.Holds (O07.OUT_STATE d) n ∧ n < 2 ∧ s.outCause d = 0 ∧ s.Holds (O07.FRAMES_OUT d) a ∧ a + 1 < 2 ^ bitsOf (O07.FRAMES_OUT d) :=
  ⟨wDst 1 0, 4, 5, 7, 1, upAt_of (by decide +kernel), (by decide +kernel), (by decide +kernel), (by unfold State.Holds; decide +kernel), (by decide +kernel), (by decide +kernel), (by unfold State.Holds; decide +kernel), (by decide +kernel)⟩

theorem meets_DestinationsStartFramesAndSwitch_3 : ∃ (s : State) (d written a n : Nat), s.UpAt 0x08 d ∧ d < 0x100 ∧ s.running = false ∧ s.Holds (O07.OUT_STATE d) n ∧ 2 ≤ n ∧ s.Holds (O07.FRAMES_OUT d) a ∧ a + 1 < 2 ^ bitsOf (O07.FRAMES_OUT d) :=
  ⟨wDst 4 1, 4, 5, 7, 4, upAt_of (by decide +kernel), (by decide +kernel), (by decide +kernel), (by unfold State.Holds; decide +kernel), (by decide +kernel), (by unfold State.Holds; decide +kernel), (by decide +kernel)⟩

theorem meets_DestinationsStartFramesAndSwitch_4 : ∃ (s : State) (d a : Nat), s.UpAt 0x08 d ∧ d < 0x900 ∧ s.running = true ∧ (s.dest d).armed = true ∧ (s.dest d).waiting = true ∧ s.Holds (O08.SWITCH_COUNT d) a ∧ a + 1 < 2 ^ bitsOf (O08.SWITCH_COUNT d) :=
  ⟨wDst 3 0, 4, 7, upAt_of (by decide +kernel), (by decide +kernel), (by decide +kernel), (by decide +kernel), (by decide +kernel), (by unfold State.Holds; decide +kernel), (by decide +kernel)⟩

theorem meets_DestinationsStartFramesAndSwitch_5 : ∃ (s : State) (d : Nat), s.UpAt 0x08 d ∧ d < 0x900 ∧ (s.dest d).armed = false :=
  ⟨up, 4, upAt_of (by decide +kernel), (by decide +kernel), (by decide +kernel)⟩

theorem meets_DestinationsStartFramesAndSwitch_6 : ∃ (s : State) (salvo tick : Nat) (plan : Plan), s.UpAt 0x08 salvo ∧ 0x900 ≤ salvo ∧ salvo < 0xA00 ∧ s.served = true ∧ routesIn 64 (s.bs (O08.SALVO_ROUTES salvo)) = [] :=
  ⟨up, 0x905, 0, Plan.empty, upAt_of (by decide +kernel), (by decide +kernel), (by decide +kernel), (by decide +kernel), (by decide +kernel)⟩

theorem meets_DestinationsStartFramesAndSwitch_7 : ∃ (s : State) (salvo tick : Nat) (plan : Plan), s.UpAt 0x08 salvo ∧ 0x900 ≤ salvo ∧ salvo < 0xA00 ∧ s.served = true ∧ routesIn 64 (s.bs (O08.SALVO_ROUTES salvo)) ≠ [] :=
  ⟨wSalvo, 0x905, 0, Plan.empty, upAt_of (by decide +kernel), (by decide +kernel), (by decide +kernel), (by decide +kernel), (by decide +kernel)⟩

theorem meets_DestinationsStartFramesAndSwitch_8 : ∃ (s : State) (d : Nat) (v : Bool), s.UpAt 0x08 d ∧ d < 0x900 ∧ s.served = true :=
  ⟨up, 4, true, upAt_of (by decide +kernel), (by decide +kernel), (by decide +kernel)⟩

end C08

namespace C09

def wPath (st : Nat) : State := { (hold up [(O09.PATH_STATE 4, st), (O09.CADENCE 4, 1), (O09.CADENCE_STATE 4, 0), (O09.BUSHEL_STATE 0xB07, 1), (O09.BUSHEL_ERRORS 0xB07, 2)]).setBytes (O09.FUNCS_ACTIVE 4) [4] with conv := { up.conv with errs := [(7, [0, 0])] } }
def wShedP : State := { hold up [(O09.PATH_MODE 4, 0)] with conv := { up.conv with shed := [4] } }
def wBadP : State := hold up [(O09.PATH_MODE 4, 1), (O09.PATH_READMIT 4, 1), (O08.CURRENT_SOURCE 4, 0x1002), (O06.IN_STATE 2, 4), (O06.IN_FORMAT 2, 0x4060), (O07.OUT_FORMAT 4, 0x4050), (O09.CROP_X 4, 5000)]

theorem meets_PathsPrimeFailAndReadmit_1 : ∃ (s : State) (d : Nat), s.UpAt 0x09 d ∧ d < 0xA00 ∧ s.Holds (O09.PATH_STATE d) 1 ∧ s.primed d = true :=
  ⟨wPath 1, 4, upAt_of (by decide +kernel), (by decide +kernel), (by unfold State.Holds; decide +kernel), (by decide +kernel)⟩

theorem meets_PathsPrimeFailAndReadmit_2 : ∃ (s : State) (b stream a n : Nat), s.Up ∧ b < s.bushels ∧ s.Holds (O09.BUSHEL_STATE (0xB00 + b)) n ∧ n ≠ 2 ∧ s.leaving.contains stream = false ∧ s.Holds (O09.BUSHEL_ERRORS (0xB00 + b)) a ∧ a + 1 < 2 ^ bitsOf (O09.BUSHEL_ERRORS (0xB00 + b)) :=
  ⟨wPath 1, 7, 30, 2, 1, up_of (by decide +kernel), (by decide +kernel), (by unfold State.Holds; decide +kernel), (by decide +kernel), (by decide +kernel), (by unfold State.Holds; decide +kernel), (by decide +kernel)⟩

theorem meets_PathsPrimeFailAndReadmit_3 : ∃ (s : State) (b stream n : Nat), s.Up ∧ b < s.bushels ∧ s.Holds (O09.BUSHEL_STATE (0xB00 + b)) n ∧ n ≠ 2 ∧ s.conv.errs.getD b [] = [s.now, s.now] :=
  ⟨wPath 1, 7, 30, 1, up_of (by decide +kernel), (by decide +kernel), (by unfold State.Holds; decide +kernel), (by decide +kernel), (by decide +kernel)⟩

theorem meets_PathsPrimeFailAndReadmit_4 : ∃ (s : State) (d c n : Nat), s.UpAt 0x09 d ∧ d < 0xA00 ∧ s.Holds (O09.CADENCE d) 1 ∧ s.hasMotion = true ∧ (s.bs (O09.FUNCS_ACTIVE d)).contains 4 = true ∧ s.Holds (O09.CADENCE_STATE d) n ∧ c ≤ 2 ∧ c ≠ n :=
  ⟨wPath 2, 4, 2, 0, upAt_of (by decide +kernel), (by decide +kernel), (by unfold State.Holds; decide +kernel), (by decide +kernel), (by decide +kernel), (by unfold State.Holds; decide +kernel), (by decide +kernel), (by decide +kernel)⟩

theorem meets_PathsPrimeFailAndReadmit_5 : ∃ (s : State) (d : Nat) (plan : Plan) (p : PathPlan), s.UpAt 0x09 d ∧ d < 0xA00 ∧ s.phase = .running ∧ s.routePath d (s.routedSource d) = .ok p ∧ s.conv.shed.head? = some d :=
  ⟨wShedP, 4, Plan.empty, { path := 4, src := 0, fmt := 16480, chain := [], costs := [] }, upAt_of (by decide +kernel), (by decide +kernel), (by decide +kernel), (by decide +kernel), (by decide +kernel)⟩

theorem meets_PathsPrimeFailAndReadmit_6 : ∃ (s : State) (d e : Nat) (plan : Plan), s.UpAt 0x09 d ∧ d < 0xA00 ∧ s.phase = .running ∧ s.routePath d (s.routedSource d) = .error e ∧ d ∉ s.conv.shed ∧ s.Holds (O09.PATH_MODE d) 1 ∧ s.Holds (O09.PATH_READMIT d) 1 :=
  ⟨wBadP, 4, 4, Plan.empty, upAt_of (by decide +kernel), (by decide +kernel), (by decide +kernel), (by decide +kernel), (by decide +kernel), (by unfold State.Holds; decide +kernel), (by unfold State.Holds; decide +kernel)⟩

end C09

namespace C10

def wClk (s : State) : State := { s with tick := { s.tick with clock := 400000 } }
def wAu (st : Nat) : State := wClk (hold up [(O0A.IN_STATE 5, st), (O0A.SRC_MODE 5, 0), (O0A.PREAMBLE_ERR 5, 9), (O0A.CS_CRC_ERR 5, 9), (O0A.UNDERRUNS 5, 9), (O0A.OVERRUNS 5, 9), (O0B.IN_STATE 3, st), (O0B.CODE_ERR 3, 9), (O0B.SRC_MODE 3, 2), (O0A.IN_RATE 5, 1)])
def wP (s : State) (f : PortSt → PortSt) : State := s.setPort 5 (f (s.port 5))
def wMadi : State := { wAu 3 with audio := { up.audio with ports := [(5, { PortSt.fresh with second := true, half := [0x123400] })] } }
def goodBlock : List Byte := (1 :: List.replicate 22 0) ++ [BitVec.ofNat 8 (csCrcc (1 :: List.replicate 22 0))]
def wOut : State := hold up [(O0A.OUT_STATE 0x105, 2), (O0A.OUT_ENABLE 0x105, 1), (O0A.OUT_ACS 0x105, 0), (O03.ACS_STATE 0x30, 0), (O0A.PORT_INDEX_OUT 0x105, 44), (O0A.UNDERRUNS_OUT 0x105, 9), (O0A.PORT_STATE_OUT 0x105, 0)]
def wOutS : State := wOut.setN (O0A.PORT_STATE_OUT 0x105) 2
def wPs (k : Nat) : State := hold up [(O0A.IN_STATE 5, 3), (O0A.PORT_STATE 5, k), (O0A.IN_RATE 5, 1), (O01.CHAIN_STATE, 0), (O0A.UNDERRUNS 5, 9), (O0A.OVERRUNS 5, 9)]
def wPg : State := (hold (wPs 3) [(O0A.GROUP_STATE 0x203, 2), (O0A.RESYNC_MODULUS 0x203, 8), (O0A.PORT_INDEX 5, 64)]).setBytes (O0A.GROUP_MEMBERS 0x203) [0, 5]
def wGrp (st : Nat) : State := { (hold up [(O0A.GROUP_STATE 0x203, st)]).setBytes (O0A.GROUP_MEMBERS 0x203) [0, 5] with tick := { up.tick with tick := 4000#64 }, audio := { up.audio with groups := [(3, ⟨some 3990, none, 0, false, [], 0, none⟩)] } }
def wFol : State := wClk { hold up [(O0A.FOLLOW_STATE 0x304, 2), (O0A.FOLLOW_BW 0x304, 100)] with audio := { up.audio with follow := [(4, ⟨100, 50, none, none, none, [], 0⟩)] } }

theorem meets_AudioInputsLockAndAreLost_1 : ∃ (s : State) (p : Nat), s.Up ∧ s.portHere p = true ∧ portIn p = true ∧ s.Holds (State.portKey p (O0A.IN_STATE 0)) 1 ∧ (s.port p).since + 192 ≤ s.now :=
  ⟨wAu 1, 5, up_of (by decide +kernel), (by decide +kernel), (by decide +kernel), (by unfold State.Holds; decide +kernel), (by decide +kernel)⟩

theorem meets_AudioInputsLockAndAreLost_2 : ∃ (s : State) (p rate : Nat) (offset : Int), s.Up ∧ s.portHere p = true ∧ portIn p = true ∧ s.Holds (State.portKey p (O0A.IN_STATE 0)) 2 ∧ (s.port p).since + 192 ≤ s.now ∧ 2 ≤ (s.port p).blocks ∧ s.rateTaken p (s.rateNear p rate offset) = true ∧ s.followerOf p = none :=
  ⟨wP (wAu 2) (fun x => { x with blocks := 2 }), 5, 1, 3, up_of (by decide +kernel), (by decide +kernel), (by decide +kernel), (by unfold State.Holds; decide +kernel), (by decide +kernel), (by decide +kernel), (by decide +kernel), (by decide +kernel)⟩

theorem meets_AudioInputsLockAndAreLost_3 : ∃ (s : State) (p rate : Nat) (offset : Int), s.Up ∧ s.portHere p = true ∧ portIn p = true ∧ s.Holds (State.portKey p (O0A.IN_STATE 0)) 2 ∧ (s.port p).since + 192 ≤ s.now ∧ 2 ≤ (s.port p).blocks ∧ s.rateTaken p (s.rateNear p rate offset) = false :=
  ⟨wP (wAu 2) (fun x => { x with blocks := 2 }), 5, 9, 0, up_of (by decide +kernel), (by decide +kernel), (by decide +kernel), (by unfold State.Holds; decide +kernel), (by decide +kernel), (by decide +kernel), (by decide +kernel)⟩

theorem meets_AudioInputsLockAndAreLost_4 : ∃ (s : State) (p : Nat), s.Up ∧ s.portHere p = true ∧ portIn p = true ∧ s.Holds (State.portKey p (O0A.IN_STATE 0)) 3 :=
  ⟨wAu 3, 5, up_of (by decide +kernel), (by decide +kernel), (by decide +kernel), (by unfold State.Holds; decide +kernel)⟩

theorem meets_AudioInputsLockAndAreLost_5 : ∃ (s : State) (p : Nat), s.Up ∧ s.portHere p = true ∧ portIn p = true ∧ s.Holds (State.portKey p (O0A.IN_STATE 0)) 3 :=
  ⟨wAu 3, 0x2003, up_of (by decide +kernel), (by decide +kernel), (by decide +kernel), (by unfold State.Holds; decide +kernel)⟩

theorem meets_AudioInputsLockAndAreLost_6 : ∃ (s : State) (p : Nat) (offset : Int), s.Up ∧ s.portHere p = true ∧ portIn p = true ∧ s.Holds (State.portKey p (O0A.IN_STATE 0)) 3 ∧ s.Holds (State.portKey p (O0A.SRC_MODE 0)) 0 ∧ s.followerOf p = none ∧ (s.port p).decided = false ∧ (s.port p).since + 192000 ≤ s.now :=
  ⟨wAu 3, 5, -500, up_of (by decide +kernel), (by decide +kernel), (by decide +kernel), (by unfold State.Holds; decide +kernel), (by unfold State.Holds; decide +kernel), (by decide +kernel), (by decide +kernel), (by decide +kernel)⟩

theorem meets_AudioFramesAreCheckedAndSent_1 : ∃ (s : State) (p word a n : Nat), s.Up ∧ s.portHere p = true ∧ p < 0x1000 ∧ s.Holds (O0A.IN_STATE p) n ∧ 2 ≤ n ∧ State.preambleOk (s.port p) (field word 3 0) = false ∧ s.Holds (O0A.PREAMBLE_ERR p) a ∧ a + 1 < 2 ^ bitsOf (O0A.PREAMBLE_ERR p) :=
  ⟨wAu 2, 5, 0x00000002, 9, 2, up_of (by decide +kernel), (by decide +kernel), (by decide +kernel), (by unfold State.Holds; decide +kernel), (by decide +kernel), (by decide +kernel), (by unfold State.Holds; decide +kernel), (by decide +kernel)⟩

theorem meets_AudioFramesAreCheckedAndSent_2 : ∃ (s : State) (p word x : Nat), s.Up ∧ s.portHere p = true ∧ p < 0x1000 ∧ s.Holds (O0A.IN_STATE p) 3 ∧ field word 3 0 = 2 ∧ (s.port p).second = true ∧ oddBits (word / 16 * 16) = false ∧ bit word 28 = false ∧ (s.port p).half = [x] ∧ (s.port p).fifo.length < 128 :=
  ⟨wMadi, 5, 0x03000302, 0x123400, up_of (by decide +kernel), (by decide +kernel), (by decide +kernel), (by unfold State.Holds; decide +kernel), (by decide +kernel), (by decide +kernel), (by decide +kernel), (by decide +kernel), (by decide +kernel), (by decide +kernel)⟩

theorem meets_AudioFramesAreCheckedAndSent_3 : ∃ (s : State) (p sub : Nat) (block : List Byte), s.Up ∧ s.portHere p = true ∧ p < 0x1000 ∧ sub < 2 ∧ SMap.find? (s.port p).ready sub = some block ∧ block.length = 24 ∧ csCrcc (block.take 23) = (block.getD 23 0).toNat :=
  ⟨wP (wAu 3) (fun x => { x with ready := [(1, goodBlock)] }), 5, 1, goodBlock, up_of (by decide +kernel), (by decide +kernel), (by decide +kernel), (by decide +kernel), (by decide +kernel), (by decide +kernel), (by decide +kernel)⟩

theorem meets_AudioFramesAreCheckedAndSent_4 : ∃ (s : State) (p sub a : Nat) (block : List Byte), s.Up ∧ s.portHere p = true ∧ p < 0x1000 ∧ sub < 2 ∧ SMap.find? (s.port p).ready sub = some block ∧ bit ((block.headD 0).toNat) 0 = true ∧ csCrcc (block.take 23) ≠ (block.getD 23 0).toNat ∧ s.Holds (O0A.CS_CRC_ERR p) a ∧ a + 1 < 2 ^ bitsOf (O0A.CS_CRC_ERR p) :=
  ⟨wP (wAu 3) (fun x => { x with ready := [(1, goodBlock.set 23 0)] }), 5, 1, 9, goodBlock.set 23 0, up_of (by decide +kernel), (by decide +kernel), (by decide +kernel), (by decide +kernel), (by decide +kernel), (by decide +kernel), (by decide +kernel), (by unfold State.Holds; decide +kernel), (by decide +kernel)⟩

theorem meets_AudioFramesAreCheckedAndSent_5 : ∃ (s : State) (p e a n : Nat) (words : List Nat), s.Up ∧ s.portHere (0x2000 + p) = true ∧ p < 0x100 ∧ s.Holds (O0B.IN_STATE p) n ∧ 2 ≤ n ∧ e ≠ 0 ∧ s.Holds (O0B.CODE_ERR p) a ∧ a + e < 2 ^ bitsOf (O0B.CODE_ERR p) :=
  ⟨wAu 3, 3, 4, 9, 3, [2, 0, 0x12], up_of (by decide +kernel), (by decide +kernel), (by decide +kernel), (by unfold State.Holds; decide +kernel), (by decide +kernel), (by decide +kernel), (by unfold State.Holds; decide +kernel), (by decide +kernel)⟩

theorem meets_AudioFramesAreCheckedAndSent_6 : ∃ (s : State) (p : Nat) (words : List Nat), s.Up ∧ s.portHere (0x2000 + p) = true ∧ p < 0x100 ∧ s.Holds (O0B.IN_STATE p) 3 ∧ (words.all fun w => !(bit w 1)) = true ∧ (s.port (0x2000 + p)).fifo.length < 128 :=
  ⟨wAu 3, 3, [0, 4, 9], up_of (by decide +kernel), (by decide +kernel), (by decide +kernel), (by unfold State.Holds; decide +kernel), (by decide +kernel), (by decide +kernel)⟩

theorem meets_AudioFramesAreCheckedAndSent_7 : ∃ (s : State) (p a : Nat), s.Up ∧ s.portHere p = true ∧ portIn p = false ∧ s.Holds (State.portKey p (O0A.OUT_STATE 0)) 2 ∧ s.portUp p = true ∧ s.groupOf p = none ∧ s.Holds (State.indexKey p) a ∧ a ≠ 0 ∧ a + 1 < 2 ^ bitsOf (State.indexKey p) :=
  ⟨wOut, 0x1005, 44, up_of (by decide +kernel), (by decide +kernel), (by decide +kernel), (by unfold State.Holds; decide +kernel), (by decide +kernel), (by decide +kernel), (by unfold State.Holds; decide +kernel), (by decide +kernel), (by decide +kernel)⟩

theorem meets_AudioFramesAreCheckedAndSent_8 : ∃ (s : State) (p a : Nat), s.Up ∧ s.portHere p = true ∧ portIn p = false ∧ s.Holds (State.portKey p (O0A.OUT_STATE 0)) 2 ∧ s.portUp p = true ∧ s.groupOf p = none ∧ s.Holds (State.stateKey p) 2 ∧ s.Holds (State.indexKey p) a ∧ a ≠ 0 :=
  ⟨wOutS, 0x1005, 44, up_of (by decide +kernel), (by decide +kernel), (by decide +kernel), (by unfold State.Holds; decide +kernel), (by decide +kernel), (by decide +kernel), (by unfold State.Holds; decide +kernel), (by unfold State.Holds; decide +kernel), (by decide +kernel)⟩

theorem meets_AudioPortsFadeFollowAndGroup_1 : ∃ (s : State) (p a : Nat), s.Up ∧ s.portHere p = true ∧ s.portUp p = true ∧ s.canFault p = true ∧ s.Holds (State.portKey p (if portIn p then O0A.UNDERRUNS 0 else O0A.UNDERRUNS_OUT 0)) a ∧ a + 1 < 2 ^ bitsOf (State.portKey p (if portIn p then O0A.UNDERRUNS 0 else O0A.UNDERRUNS_OUT 0)) ∧ (s.port p).fifo = [] :=
  ⟨wPs 0, 5, 9, up_of (by decide +kernel), (by decide +kernel), (by decide +kernel), (by decide +kernel), (by unfold State.Holds; decide +kernel), (by decide +kernel), (by decide +kernel)⟩

theorem meets_AudioPortsFadeFollowAndGroup_2 : ∃ (s : State) (p a : Nat), s.Up ∧ s.portHere p = true ∧ s.portUp p = true ∧ s.canFault p = true ∧ s.Holds (State.portKey p (if portIn p then O0A.OVERRUNS 0 else O0A.OVERRUNS_OUT 0)) a ∧ a + 1 < 2 ^ bitsOf (State.portKey p (if portIn p then O0A.OVERRUNS 0 else O0A.OVERRUNS_OUT 0)) ∧ 128 ≤ (s.port p).fifo.length :=
  ⟨wP (wPs 4) (fun x => { x with fifo := List.replicate 128 [1, 2] }), 5, 9, up_of (by decide +kernel), (by decide +kernel), (by decide +kernel), (by decide +kernel), (by unfold State.Holds; decide +kernel), (by decide +kernel), (by decide +kernel)⟩

theorem meets_AudioPortsFadeFollowAndGroup_3 : ∃ (s : State) (p : Nat), s.Up ∧ s.portHere p = true ∧ s.Holds (State.stateKey p) 1 ∧ ((s.port p).gain = 0 ∨ portIn p = false ∧ s.portUp p = false) :=
  ⟨wP (wPs 1) (fun x => { x with gain := 0 }), 5, up_of (by decide +kernel), (by decide +kernel), (by unfold State.Holds; decide +kernel), (.inl (by decide +kernel))⟩

theorem meets_AudioPortsFadeFollowAndGroup_4 : ∃ (s : State) (p : Nat), s.Up ∧ s.portHere p = true ∧ s.Holds (State.stateKey p) 4 ∧ ((s.port p).gain = 0x100000 ∨ portIn p = false ∧ s.portUp p = false) :=
  ⟨wPs 4, 5, up_of (by decide +kernel), (by decide +kernel), (by unfold State.Holds; decide +kernel), (.inl (by decide +kernel))⟩

theorem meets_AudioPortsFadeFollowAndGroup_5 : ∃ (s : State) (p : Nat), s.Up ∧ s.portHere p = true ∧ s.Holds (State.stateKey p) 2 ∧ s.portUp p = true ∧ s.safeHold = false ∧ 64 ≤ (s.port p).fifo.length :=
  ⟨wP (wPs 2) (fun x => { x with fifo := List.replicate 64 [1, 2] }), 5, up_of (by decide +kernel), (by decide +kernel), (by unfold State.Holds; decide +kernel), (by decide +kernel), (by decide +kernel), (by decide +kernel)⟩

theorem meets_AudioPortsFadeFollowAndGroup_6 : ∃ (s : State) (p : Nat), s.Up ∧ s.portHere p = true ∧ s.Holds (State.stateKey p) 3 ∧ s.safeHold = false ∧ s.groupOf p = none :=
  ⟨wPs 3, 5, up_of (by decide +kernel), (by decide +kernel), (by unfold State.Holds; decide +kernel), (by decide +kernel), (by decide +kernel)⟩

theorem meets_AudioPortsFadeFollowAndGroup_7 : ∃ (s : State) (p g : Nat), s.Up ∧ s.portHere p = true ∧ s.Holds (State.stateKey p) 3 ∧ s.safeHold = false ∧ s.groupOf p = some g ∧ s.Holds (O0A.GROUP_STATE (0x200 + g)) 2 ∧ s.n (State.indexKey p) % s.n (O0A.RESYNC_MODULUS (0x200 + g)) = 0 ∧ (s.grp g).step = none :=
  ⟨wPg, 5, 3, up_of (by decide +kernel), (by decide +kernel), (by unfold State.Holds; decide +kernel), (by decide +kernel), (by decide +kernel), (by unfold State.Holds; decide +kernel), (by decide +kernel), (by decide +kernel)⟩

theorem meets_AudioPortsFadeFollowAndGroup_8 : ∃ (s : State) (a n : Nat) (err : Int), s.Up ∧ a < 8 ∧ s.Holds (O0A.FOLLOW_STATE (0x300 + a)) n ∧ 2 ≤ n ∧ n ≤ 4 ∧ (s.loop a).at_ + 192 ≤ s.now ∧ (s.loopStep a err).limit = none :=
  ⟨wFol, 4, 2, -600, up_of (by decide +kernel), (by decide +kernel), (by unfold State.Holds; decide +kernel), (by decide +kernel), (by decide +kernel), (by decide +kernel), (by decide +kernel)⟩

theorem meets_AudioPortsFadeFollowAndGroup_9 : ∃ (s : State) (g tick n : Nat), s.Up ∧ s.served = true ∧ g < 16 ∧ s.tickLimits tick = true ∧ s.Holds (O0A.GROUP_STATE (0x200 + g)) n ∧ n ≠ 2 :=
  ⟨wGrp 0, 3, 5000, 0, up_of (by decide +kernel), (by decide +kernel), (by decide +kernel), (by decide +kernel), (by unfold State.Holds; decide +kernel), (by decide +kernel)⟩

theorem meets_AudioPortsFadeFollowAndGroup_10 : ∃ (s : State) (g n : Nat), s.Up ∧ s.served = true ∧ g < 16 ∧ s.Holds (O0A.GROUP_STATE (0x200 + g)) n ∧ n ≠ 0 :=
  ⟨wGrp 2, 3, 2, up_of (by decide +kernel), (by decide +kernel), (by decide +kernel), (by unfold State.Holds; decide +kernel), (by decide +kernel)⟩

theorem meets_AudioPortsFadeFollowAndGroup_11 : ∃ (s : State) (g at_ : Nat), s.Up ∧ g < 16 ∧ s.Holds (O0A.GROUP_STATE (0x200 + g)) 1 ∧ (s.grp g).start = some at_ ∧ at_ ≤ s.tick64 ∧ (portCodes (s.bs (O0A.GROUP_MEMBERS (0x200 + g)))).all s.portHere = true :=
  ⟨wGrp 1, 3, 3990, up_of (by decide +kernel), (by decide +kernel), (by unfold State.Holds; decide +kernel), (by decide +kernel), (by decide +kernel), (by decide +kernel)⟩

end C10

namespace C11

def wAmx : Nat := entWord 5 2 3 4 0 false 7 (33 + 1024 * 1)
def wAmxS : State := { hold up [(O01.CHAIN_STATE, 0), (O0C.TERM_SRC 33 2 1, 6), (O0C.TERM_GAIN 33 2 1, 0x100000)] with tick := { up.tick with inTick := true, tick := 41#64 }, clocks := { up.clocks with hbmBypass := false }, chain := { up.chain with active := [(4, wAmx)] }, amx := { up.amx with cur := [(6, 0x12345)] } }
def wSw (st m : Nat) (c : ChanSt) : State := { hold up [(O0C.SWITCH_STATE 33 2, st), (O0C.SWITCH_MODE 33 2, m), (O0C.ZC_TIMEOUTS 33 2, 7)] with amx := { up.amx with chans := [(530, c)], past := [(530, ⟨[3, -1], [4, -2], 0x100000⟩)] } }
def newSet : List (Nat × Ramp) := [(9, Ramp.still 0x100000)]
def queuedSet : List (Nat × Ramp) := [(10, Ramp.still 0x100000)]
def chWant : ChanSt := ⟨[(3, Ramp.still 0x100000)], some newSet, none, none, 0, Ramp.still 0x100000, some 1⟩
def chNext (q : Option (List (Nat × Ramp))) : ChanSt := ⟨[(3, Ramp.still 0x100000)], none, some newSet, q, 50000, Ramp.still 0x100000, none⟩
def wPlay (st lp : Nat) : State := { hold up [(O0C.PLAYER_STATE 0x503, st), (O0C.PLAY_LOOP 0x503, lp), (O0C.PLAYER_CLIP 0x503, 4)] with amx := { up.amx with players := [(0x503, ⟨none, none, 1000, .still 0x100000, .still 0x100000, [], false⟩)] } }
def wDe (st v : Nat) : State := { hold up [(O06.IN_STATE 5, st), (O06.IN_RATE 5, 3), (O0C.DEEMB_GROUPS 0xC05, v), (O0C.DEEMB_SRC_ACTIVE 0xC05, 0)] with amx := { up.amx with deembs := [(5, ⟨0, .still 0x100000, [], 0⟩)] } }

theorem meets_MatrixBlocksSumTheirChannels_1 : ∃ (s : State) (link word c : Nat), s.Up ∧ s.inChain link word = true ∧ entOp word = 5 ∧ field (entArg word) 11 10 = s.tick64 % s.period ∧ SMap.rising s.amx.out = true ∧ s.tapOf (field (entArg word) 9 0) = 0 ∧ SMap.find? s.amx.lines (field (entArg word) 9 0) = none ∧ c < 16 :=
  ⟨wAmxS, 4, wAmx, 2, up_of (by decide +kernel), (by decide +kernel), (by decide +kernel), (by decide +kernel), (by decide +kernel), (by decide +kernel), (by decide +kernel), (by decide +kernel)⟩

theorem meets_MatrixSwitchesGoOnAir_1 : ∃ (s : State) (c m due : Nat) (new : List (Nat × Ramp)), s.UpAt 0x0C (c / 16) ∧ c < 0x4000 ∧ (s.chan c).want = some new ∧ (s.chan c).due = some due ∧ due ≤ s.now + 1 ∧ s.Holds (O0C.SWITCH_STATE (c / 16) (c % 16)) 0 ∧ (s.chan c).air.map (·.1) ≠ new.map (·.1) ∧ s.Holds (O0C.SWITCH_MODE (c / 16) (c % 16)) m :=
  ⟨wSw 0 1 chWant, 530, 1, 1, newSet, upAt_of (by decide +kernel), (by decide +kernel), (by decide +kernel), (by decide +kernel), (by decide +kernel), (by unfold State.Holds; decide +kernel), (by decide +kernel), (by unfold State.Holds; decide +kernel)⟩

theorem meets_MatrixSwitchesGoOnAir_2 : ∃ (s : State) (c due : Nat) (new : List (Nat × Ramp)), s.UpAt 0x0C (c / 16) ∧ c < 0x4000 ∧ (s.chan c).want = some new ∧ (s.chan c).due = some due ∧ due ≤ s.now + 1 ∧ s.Holds (O0C.SWITCH_STATE (c / 16) (c % 16)) 1 :=
  ⟨wSw 1 1 chWant, 530, 1, newSet, upAt_of (by decide +kernel), (by decide +kernel), (by decide +kernel), (by decide +kernel), (by decide +kernel), (by unfold State.Holds; decide +kernel)⟩

theorem meets_MatrixSwitchesGoOnAir_3 : ∃ (s : State) (c : Nat) (new : List (Nat × Ramp)), s.UpAt 0x0C (c / 16) ∧ c < 0x4000 ∧ SMap.rising s.amx.chans = true ∧ (s.chan c).next = some new ∧ s.Holds (O0C.SWITCH_STATE (c / 16) (c % 16)) 1 ∧ s.zcHolds c = true :=
  ⟨wSw 1 0 (chNext none), 530, newSet, upAt_of (by decide +kernel), (by decide +kernel), (by decide +kernel), (by decide +kernel), (by unfold State.Holds; decide +kernel), (by decide +kernel)⟩

theorem meets_MatrixSwitchesGoOnAir_4 : ∃ (s : State) (c a : Nat), s.UpAt 0x0C (c / 16) ∧ c < 0x4000 ∧ s.Holds (O0C.SWITCH_STATE (c / 16) (c % 16)) 1 ∧ s.Holds (O0C.ZC_TIMEOUTS (c / 16) (c % 16)) a ∧ a + 1 < 2 ^ bitsOf (O0C.ZC_TIMEOUTS (c / 16) (c % 16)) ∧ s.samplesOf (s.n O0C.ZC_TIMEOUT) ≤ (s.chan c).timer :=
  ⟨wSw 1 0 (chNext none), 530, 7, upAt_of (by decide +kernel), (by decide +kernel), (by unfold State.Holds; decide +kernel), (by unfold State.Holds; decide +kernel), (by decide +kernel), (by decide +kernel)⟩

theorem meets_MatrixSwitchesGoOnAir_5 : ∃ (s : State) (c : Nat) (new : List (Nat × Ramp)), s.UpAt 0x0C (c / 16) ∧ c < 0x4000 ∧ SMap.rising s.amx.chans = true ∧ (s.chan c).next = some new ∧ (s.chan c).queued = none ∧ s.Holds (O0C.SWITCH_STATE (c / 16) (c % 16)) 2 ∧ s.samplesOf (s.n O0C.XFADE_LEN) ≤ (s.chan c).timer :=
  ⟨wSw 2 0 (chNext none), 530, newSet, upAt_of (by decide +kernel), (by decide +kernel), (by decide +kernel), (by decide +kernel), (by decide +kernel), (by unfold State.Holds; decide +kernel), (by decide +kernel)⟩

theorem meets_MatrixSwitchesGoOnAir_6 : ∃ (s : State) (c : Nat) (new q : List (Nat × Ramp)), s.UpAt 0x0C (c / 16) ∧ c < 0x4000 ∧ SMap.rising s.amx.chans = true ∧ (s.chan c).next = some new ∧ (s.chan c).queued = some q ∧ s.Holds (O0C.SWITCH_STATE (c / 16) (c % 16)) 2 ∧ s.Holds (O0C.SWITCH_MODE (c / 16) (c % 16)) 0 ∧ s.samplesOf (s.n O0C.XFADE_LEN) ≤ (s.chan c).timer :=
  ⟨wSw 2 0 (chNext (some queuedSet)), 530, newSet, queuedSet, upAt_of (by decide +kernel), (by decide +kernel), (by decide +kernel), (by decide +kernel), (by decide +kernel), (by unfold State.Holds; decide +kernel), (by unfold State.Holds; decide +kernel), (by decide +kernel)⟩

theorem meets_MatrixGainsPlayersAndDeembedders_1 : ∃ (s : State) (c slot raw : Nat), s.UpAt 0x0C (c / 16) ∧ s.accepts = true ∧ c < 0x4000 ∧ slot < 8 ∧ (raw < 0x800000 ∨ (0xFF800000 ≤ raw ∧ raw < 0x100000000)) :=
  ⟨up, 530, 3, 0xFF800000, upAt_of (by decide +kernel), (by decide +kernel), (by decide +kernel), (by decide +kernel), (by decide +kernel)⟩

theorem meets_MatrixGainsPlayersAndDeembedders_2 : ∃ (s : State) (c : Nat) (v : Bool), s.UpAt 0x0C (c / 16) ∧ s.accepts = true ∧ c < 0x4000 :=
  ⟨up, 530, true, upAt_of (by decide +kernel), (by decide +kernel), (by decide +kernel)⟩

theorem meets_MatrixGainsPlayersAndDeembedders_3 : ∃ (s : State) (rate n : Nat), s.Up ∧ s.accepts = true ∧ rate < 2 ∧ s.Holds O0C.RATE_ACTIVE n ∧ s.Holds O0C.MATRIX_RATE n ∧ rate ≠ n :=
  ⟨(up.setN O0C.RATE_ACTIVE 0).setN O0C.MATRIX_RATE 0, 1, 0, up_of (by decide +kernel), (by decide +kernel), (by decide +kernel), (by unfold State.Holds; decide +kernel), (by unfold State.Holds; decide +kernel), (by decide +kernel)⟩

theorem meets_MatrixGainsPlayersAndDeembedders_4 : ∃ (s : State) (p tick n clip : Nat), s.UpAt 0x0C p ∧ s.served = true ∧ 0x500 ≤ p ∧ p < 0x600 ∧ s.tickLimits tick = true ∧ s.Holds (O0C.PLAYER_CLIP p) clip ∧ clip ≠ 0xFFFF ∧ s.Holds (O0C.PLAYER_STATE p) n ∧ n ≠ 2 :=
  ⟨wPlay 0 0, 0x503, 2, 0, 4, upAt_of (by decide +kernel), (by decide +kernel), (by decide +kernel), (by decide +kernel), (by decide +kernel), (by unfold State.Holds; decide +kernel), (by decide +kernel), (by unfold State.Holds; decide +kernel), (by decide +kernel)⟩

theorem meets_MatrixGainsPlayersAndDeembedders_5 : ∃ (s : State) (p : Nat), s.UpAt 0x0C p ∧ s.served = true ∧ 0x500 ≤ p ∧ p < 0x600 :=
  ⟨wPlay 2 0, 0x503, upAt_of (by decide +kernel), (by decide +kernel), (by decide +kernel), (by decide +kernel)⟩

theorem meets_MatrixGainsPlayersAndDeembedders_6 : ∃ (s : State) (p : Nat), s.UpAt 0x0C p ∧ 0x500 ≤ p ∧ p < 0x600 ∧ s.Holds (O0C.PLAYER_STATE p) 2 ∧ s.Holds (O0C.PLAY_LOOP p) 0 ∧ s.clipSamples p ≤ (s.player p).pos :=
  ⟨wPlay 2 0, 0x503, upAt_of (by decide +kernel), (by decide +kernel), (by decide +kernel), (by unfold State.Holds; decide +kernel), (by unfold State.Holds; decide +kernel), (by decide +kernel)⟩

theorem meets_MatrixGainsPlayersAndDeembedders_7 : ∃ (s : State) (p : Nat), s.UpAt 0x0C p ∧ 0x500 ≤ p ∧ p < 0x600 ∧ s.Holds (O0C.PLAYER_STATE p) 2 ∧ s.Holds (O0C.PLAY_LOOP p) 1 ∧ s.clipSamples p ≤ (s.player p).pos :=
  ⟨wPlay 2 1, 0x503, upAt_of (by decide +kernel), (by decide +kernel), (by decide +kernel), (by unfold State.Holds; decide +kernel), (by unfold State.Holds; decide +kernel), (by decide +kernel)⟩

theorem meets_MatrixGainsPlayersAndDeembedders_8 : ∃ (s : State) (i g v : Nat) (good : Bool) (x : List Nat), s.UpAt 0x0C (0xC00 + i) ∧ i < 0x1000 ∧ g < s.deembGroups i ∧ s.Holds (O0C.DEEMB_GROUPS (0xC00 + i)) v ∧ bit v g = true :=
  ⟨wDe 4 6, 5, 2, 6, true, [], upAt_of (by decide +kernel), (by decide +kernel), (by decide +kernel), (by unfold State.Holds; decide +kernel), (by decide +kernel)⟩

theorem meets_MatrixGainsPlayersAndDeembedders_9 : ∃ (s : State) (i g v k : Nat) (good : Bool) (x : List Nat), s.UpAt 0x0C (0xC00 + i) ∧ i < 0x1000 ∧ g < s.deembGroups i ∧ s.Holds (O0C.DEEMB_GROUPS (0xC00 + i)) v ∧ bit v g = false ∧ s.Holds (O0C.DEEMB_SRC_ACTIVE (0xC00 + i)) 0 ∧ bit (s.deemb i).badRate g = false ∧ SMap.rising s.amx.src = true ∧ k < 4 :=
  ⟨wDe 4 6, 5, 3, 6, 1, true, [5, 0xFFFFFF00, 7], upAt_of (by decide +kernel), (by decide +kernel), (by decide +kernel), (by unfold State.Holds; decide +kernel), (by decide +kernel), (by unfold State.Holds; decide +kernel), (by decide +kernel), (by decide +kernel), (by decide +kernel)⟩

theorem meets_MatrixGainsPlayersAndDeembedders_10 : ∃ (s : State) (i n : Nat), s.UpAt 0x0C (0xC00 + i) ∧ s.Holds (O06.IN_STATE i) n ∧ n ≠ 4 :=
  ⟨wDe 2 0, 5, 2, upAt_of (by decide +kernel), (by unfold State.Holds; decide +kernel), (by decide +kernel)⟩

theorem meets_MatrixGainsPlayersAndDeembedders_11 : ∃ (s : State) (i n : Nat), s.UpAt 0x0C (0xC00 + i) ∧ s.Holds (O06.IN_STATE i) 4 ∧ s.Holds (O06.IN_RATE i) n ∧ 2 ≤ n ∧ (s.Holds (O0C.DEEMB_SRC_ACTIVE (0xC00 + i)) 0 ∨ (s.deemb i).since + 96000 ≤ s.now) :=
  ⟨wDe 4 0, 5, 3, upAt_of (by decide +kernel), (by unfold State.Holds; decide +kernel), (by unfold State.Holds; decide +kernel), (by decide +kernel), (.inl (by unfold State.Holds; decide +kernel))⟩

end C11

namespace C12

def brObjs : List (Key × Nat) := [(O0F.QUEUE_LIMIT, 1048576), (O11.LANE_MODE 5, 2), (O11.LANE_MODE 9, 2), (O0F.LINK_STATE 5, 1), (O0F.STP_STATE 5, 2), (O0F.STP_STATE 9, 2), (O0F.MACSEC_MODE 5, 0), (O0F.PVID 5, 10), (O0F.DEFAULT_PCP 5, 3), (O0F.ACCEPT 5, 0), (O0F.INGRESS_FILTER 5, 0), (O0F.FCS_ERR 5, 9), (O0F.PAUSE_RX 5, 9), (O01.CHAIN_STATE, 0)]
def wBr : State := { hold up brObjs with net := { up.net with vlans := [(10, ⟨false, 0x220, 0x220⟩)], fdb := [(0x020000000005 * 4096 + 10, ⟨7, false, 0⟩), (0x020000000009 * 4096 + 10, ⟨9, false, 0⟩), (0x02000000000A * 4096 + 10, ⟨9, true, 0⟩)], trap := [[1, 2], [3]] } }
def wBrOld : State := { wBr with tick := { up.tick with clock := 1000000000 } }
def fFwd : List Byte := [2, 0, 0, 0, 0, 9, 2, 0, 0, 0, 0, 5, 0x12, 0x34, 7, 8]
def fPause : List Byte := [2, 0, 0, 0, 0, 9, 2, 0, 0, 0, 0, 5, 0x88, 0x08, 0, 1]
def fTrap : List Byte := [0x01, 0x80, 0xC2, 0, 0, 0, 2, 0, 0, 0, 0, 5, 0, 3, 7, 8]
def vTrap : List Byte := [0, 5, 0, 16, 0, 0, 0, 0, 0, 0, 0, 0] ++ fFwd
def kMac : State := { kState with objs := (hold up [(O0F.MACSEC_CIPHER 5, 1)]).objs }
def vSa (s : State) : List Byte := [0, 0, 1, 0, 0, 0, 0, 0, 0, 0, 0, 0, 0, 0, 0, 0, 0, 0, 0, 9, 1, 2, 3, 4] ++ zeros 12 ++ [0x01, 0x84] ++ kBlob s 1 5
def kMacBad : State := { kMac with objs := (hold up [(O0F.MACSEC_CIPHER 5, 1), (O19.KS_STATE, 2)]).objs }
def wSnd (st : Nat) (a : ArpSt) : State := { hold up [(O0D.SEND_ENABLE 6, 1), (O0D.SEND_STATE 6, st), (O0D.SEND_PATH_A 6, 0x30005), (O0D.SEND_PATH_B 6, 0xFFFF), (O0D.SEND_DEST_A 6, 0xC0A80107), (O0F.IF_ENABLE 0x103, 1), (O0F.IF_ADDR 0x103, 0xC0A80101), (O0F.IF_PREFIX 0x103, 24), (O0F.IF_VID 0x103, 10), (O01.CHAIN_STATE, 0)] with net := { up.net with arp := [(12, a)] }, tick := { up.tick with clock := 1000000 } }
def wHeld (st c : Nat) : State := { hold up [(O0D.SEND_STATE 6, st), (O01.CHAIN_STATE, c)] with clocks := { up.clocks with hbmBypass := false } }
def wRx (st es ps : Nat) : State := (hold up [(O0E.RX_ENABLE 8, 1), (O0E.RX_STATE 8, st), (O0E.RX_PATH_A 8, 0x30005), (O0E.RX_PATH_B 8, 0xFFFF), (O0E.ESSENCE 8, es), (O0E.RX_PT 8, 97), (O0E.WRONG_PT 8, 4), (O0E.PATH_STATES 8, ps), (O0E.RX_DATA_CELLS 8, 10), (O0F.IF_ENABLE 0x103, 1), (O0E.CHANNEL_COUNT 8, 2), (O0E.RX_FORMAT 8, 0x4060)]).setBytes (O0E.RX_GROUPS 8) [239, 1, 2, 3, 0, 0, 0, 0]
def wRx2 : State := { (wRx 1 1 0).setBytes (O0E.RX_SOURCES 8) [10, 0, 0, 1, 0, 0, 0, 0] with net := { up.net with querier := [(3, 0)] } }
def wRxD : State := { wRx 1 5 0 with tick := { up.tick with tick := 40#64 } }

def wRxC (st es ps : Nat) : State := { wRx st es ps with tick := { up.tick with clock := 1000000000 } }
def dgram (pt : Nat) : List Byte := rtpHeader false pt 7 9 11 ++ [1, 2, 3]
def wUnit (fits : Bool) : RxUnit := ⟨5, false, [(134, 0)], [], List.range 134, 134, fits⟩
def wLater : RxUnit := ⟨6, false, [(0, 0)], [], [], 0, true⟩
def wRxV (st : Nat) (l : List RxUnit) : State := { wRxC st 0 1 with net := { up.net with rx := [(8, { RxSt.fresh with units := l })] } }

theorem meets_BridgePortsCountTrapLearnAndForward_1 : ∃ (s : State) (p n : Nat), s.UpAt 0x0F p ∧ p < 224 ∧ s.portMode p ≠ 0 ∧ s.Holds (O0F.LINK_STATE p) n ∧ n ≠ 1 :=
  ⟨hold up [(O11.LANE_MODE 5, 2), (O0F.LINK_STATE 5, 0)], 5, 0, upAt_of (by decide +kernel), (by decide +kernel), (by decide +kernel), (by unfold State.Holds; decide +kernel), (by decide +kernel)⟩

theorem meets_BridgePortsCountTrapLearnAndForward_2 : ∃ (s : State) (p : Nat), s.UpAt 0x0F p ∧ p < 224 ∧ s.portMode p ≠ 0 ∧ s.Holds (O0F.LINK_STATE p) 1 :=
  ⟨wBr, 5, upAt_of (by decide +kernel), (by decide +kernel), (by decide +kernel), (by unfold State.Holds; decide +kernel)⟩

theorem meets_BridgePortsCountTrapLearnAndForward_3 : ∃ (s : State) (p slot a : Nat) (b : List Byte), s.UpAt 0x0F p ∧ p < 232 ∧ s.portMode p ≠ 0 ∧ s.linkUp p = true ∧ s.Holds (O0F.FCS_ERR p) a ∧ a + 1 < 2 ^ bitsOf (O0F.FCS_ERR p) :=
  ⟨wBr, 5, 4, 9, fFwd, upAt_of (by decide +kernel), (by decide +kernel), (by decide +kernel), (by decide +kernel), (by unfold State.Holds; decide +kernel), (by decide +kernel)⟩

theorem meets_BridgePortsCountTrapLearnAndForward_4 : ∃ (s : State) (p slot a : Nat) (b : List Byte), s.UpAt 0x0F p ∧ p < 232 ∧ s.portMode p ≠ 0 ∧ s.linkUp p = true ∧ frameType b = 0x8808 ∧ s.Holds (O0F.PAUSE_RX p) a ∧ a + 1 < 2 ^ bitsOf (O0F.PAUSE_RX p) :=
  ⟨wBr, 5, 4, 9, fPause, upAt_of (by decide +kernel), (by decide +kernel), (by decide +kernel), (by decide +kernel), (by decide +kernel), (by unfold State.Holds; decide +kernel), (by decide +kernel)⟩

theorem meets_BridgePortsCountTrapLearnAndForward_5 : ∃ (s : State) (p slot : Nat) (b : List Byte), s.UpAt 0x0F p ∧ p < 224 ∧ s.portMode p ≠ 0 ∧ s.linkUp p = true ∧ 14 ≤ b.length ∧ b.length ≤ 1518 ∧ frameType b ≠ 0x8100 ∧ frameType b ≠ 0x8808 ∧ s.n (O0F.MACSEC_MODE p) = 0 ∧ frameDst b = 0x0180C2000000 ∧ s.net.trap.length < 256 :=
  ⟨wBr, 5, 4, fTrap, upAt_of (by decide +kernel), (by decide +kernel), (by decide +kernel), (by decide +kernel), (by decide +kernel), (by decide +kernel), (by decide +kernel), (by decide +kernel), (by decide +kernel), (by decide +kernel), (by decide +kernel)⟩

theorem meets_BridgePortsCountTrapLearnAndForward_6 : ∃ (s : State) (p q slot vid pcp : Nat) (b : List Byte) (v : VlanEnt) (e g : FdbEnt), s.UpAt 0x0F p ∧ p < 224 ∧ q < 224 ∧ q ≠ p ∧ s.present 0x0F q = true ∧ s.portMode p ≠ 0 ∧ s.portMode q ≠ 0 ∧ s.linkUp p = true ∧ s.n (O0F.STP_STATE p) = 2 ∧ s.n (O0F.STP_STATE q) = 2 ∧ s.n (O0F.MACSEC_MODE p) = 0 ∧ 14 ≤ b.length ∧ b.length + 4 ≤ 9216 ∧ frameType b ≠ 0x8100 ∧ frameType b ≠ 0x8808 ∧ frameType b ≠ 0x88CC ∧ frameType b ≠ 0x888E ∧ frameDst b ≠ 0x0180C2000000 ∧ s.n (O0F.PVID p) = vid ∧ s.n (O0F.DEFAULT_PCP p) = pcp ∧ s.linkLocal p b = false ∧ s.terminate p (s.slotAt slot) vid pcp b = none ∧ s.safeHold = false ∧ SMap.find? s.net.vlans vid = some v ∧ bit v.members q = true ∧ s.n (O0F.ACCEPT p) = 0 ∧ s.b (O0F.INGRESS_FILTER p) = false ∧ s.filterOf p ⟨b, vid, pcp, 0xFFFF, 0, false⟩ = none ∧ isGroup (frameSrc b) = false ∧ isGroup (frameDst b) = false ∧ frameSrc b ≠ frameDst b ∧ SMap.find? s.net.fdb (frameSrc b * 4096 + vid) = some e ∧ e.fixed = false ∧ SMap.find? s.net.fdb (frameDst b * 4096 + vid) = some g ∧ g.port = q ∧ s.bufferFull q ⟨b, vid, pcp, 0xFFFF, 0, false⟩ = false :=
  ⟨wBr, 5, 9, 4, 10, 3, fFwd, ⟨false, 0x220, 0x220⟩, ⟨7, false, 0⟩, ⟨9, false, 0⟩, upAt_of (by decide +kernel), (by decide +kernel), (by decide +kernel), (by decide +kernel), (by decide +kernel), (by decide +kernel), (by decide +kernel), (by decide +kernel), (by decide +kernel), (by decide +kernel), (by decide +kernel), (by decide +kernel), (by decide +kernel), (by decide +kernel), (by decide +kernel), (by decide +kernel), (by decide +kernel), (by decide +kernel), (by decide +kernel), (by decide +kernel), (by decide +kernel), (by decide +kernel), (by decide +kernel), (by decide +kernel), (by decide +kernel), (by decide +kernel), (by decide +kernel), (by decide +kernel), (by decide +kernel), (by decide +kernel), (by decide +kernel), (by decide +kernel), (by decide +kernel), (by decide +kernel), (by decide +kernel), (by decide +kernel)⟩

theorem meets_BridgePortsCountTrapLearnAndForward_7 : ∃ (s : State) (mac vid : Nat) (e : FdbEnt), s.Up ∧ SMap.rising s.net.fdb = true ∧ SMap.find? s.net.fdb (mac * 4096 + vid) = some e ∧ e.fixed = false ∧ e.time + 192000 * s.n O0F.AGEING_TIME ≤ s.now :=
  ⟨wBrOld, 0x020000000005, 10, ⟨7, false, 0⟩, up_of (by decide +kernel), (by decide +kernel), (by decide +kernel), (by decide +kernel), (by decide +kernel)⟩

theorem meets_BridgePortsCountTrapLearnAndForward_8 : ∃ (s : State) (mac vid : Nat) (e : FdbEnt), s.Up ∧ SMap.find? s.net.fdb (mac * 4096 + vid) = some e ∧ e.fixed = true :=
  ⟨wBrOld, 0x02000000000A, 10, ⟨9, true, 0⟩, up_of (by decide +kernel), (by decide +kernel), (by decide +kernel)⟩

theorem meets_BridgePortsCountTrapLearnAndForward_9 : ∃ (s : State) (p : Nat), s.Up ∧ s.served = true :=
  ⟨wBr, 9, up_of (by decide +kernel), (by decide +kernel)⟩

theorem meets_BridgePortsCountTrapLearnAndForward_10 : ∃ (s : State) (f : List Byte) (l : List (List Byte)), s.Up ∧ s.served = true ∧ s.net.trap = f :: l :=
  ⟨wBr, [1, 2], [[3]], up_of (by decide +kernel), (by decide +kernel), (by decide +kernel)⟩

theorem meets_BridgePortsCountTrapLearnAndForward_11 : ∃ (s : State) (p len : Nat) (b : List Byte), s.Up ∧ s.served = true ∧ natBE (b.take 2) = p ∧ natBE (slice b 2 2) = len ∧ b.length = 12 + len ∧ 14 ≤ len ∧ len ≤ 1518 ∧ s.present 0x0F p = true ∧ p < 224 ∧ s.secured p = false :=
  ⟨wBr, 5, 16, vTrap, up_of (by decide +kernel), (by decide +kernel), (by decide +kernel), (by decide +kernel), (by decide +kernel), (by decide +kernel), (by decide +kernel), (by decide +kernel), (by decide +kernel), (by decide +kernel)⟩

theorem meets_PortsInstallKeysAndResolveNextHops_1 : ∃ (s : State) (p an : Nat), s.UpAt 0x0F p ∧ s.served = true ∧ p < 224 ∧ an < 4 :=
  ⟨up, 5, 3, upAt_of (by decide +kernel), (by decide +kernel), (by decide +kernel), (by decide +kernel)⟩

theorem meets_PortsInstallKeysAndResolveNextHops_2 : ∃ (s : State) (p : Nat) (v : List Byte) (o : Opened), s.UpAt 0x0F p ∧ s.served = true ∧ p < 224 ∧ 38 < v.length ∧ v.length ≤ 550 ∧ natBE (slice v 36 2) = v.length - 38 ∧ v.getD 0 0 = 0 ∧ v.getD 1 0 = 0 ∧ (v.getD 2 0).toNat ≤ 3 ∧ v.getD 3 0 = 0 ∧ s.n (O0F.MACSEC_CIPHER p) = 1 ∧ s.installBlob (v.drop 38) 1 p 0 = .ok o ∧ SMap.find? s.net.sas (State.saKey p 0 0 (v.getD 2 0).toNat) = none :=
  ⟨kMac, 5, vSa kMac, kOpen kMac 1 5, upAt_of (by decide +kernel), (by decide +kernel), (by decide +kernel), (by decide +kernel), (by decide +kernel), (by decide +kernel), (by decide +kernel), (by decide +kernel), (by decide +kernel), (by decide +kernel), (by decide +kernel), (installBlob_k (s := kMac) rfl rfl (by decide) rfl rfl (by decide) (by decide) (by decide) (by decide) (by decide)), (by decide +kernel)⟩

theorem meets_PortsInstallKeysAndResolveNextHops_3 : ∃ (s : State) (p e : Nat) (v : List Byte), s.UpAt 0x0F p ∧ s.served = true ∧ p < 224 ∧ 38 < v.length ∧ v.length ≤ 550 ∧ natBE (slice v 36 2) = v.length - 38 ∧ v.getD 0 0 = 0 ∧ v.getD 1 0 = 0 ∧ (v.getD 2 0).toNat ≤ 3 ∧ v.getD 3 0 = 0 ∧ s.n (O0F.MACSEC_CIPHER p) = 1 ∧ s.installBlob (v.drop 38) 1 p 0 = .error e :=
  ⟨kMacBad, 5, TAMPER, vSa kMacBad, upAt_of (by decide +kernel), (by decide +kernel), (by decide +kernel), (by decide +kernel), (by decide +kernel), (by decide +kernel), (by decide +kernel), (by decide +kernel), (by decide +kernel), (by decide +kernel), (by decide +kernel), (by decide +kernel)⟩

theorem meets_PortsInstallKeysAndResolveNextHops_4 : ∃ (s : State) (iface addr mac i c : Nat), s.Up ∧ iface < 64 ∧ s.b (O0F.IF_ENABLE (0x100 + iface)) = true ∧ i ∈ s.enabledFlows 0x0D ∧ c ∈ s.sendPaths i ∧ pathIf (s.sendPath i c) = iface ∧ s.nextHop i c = addr ∧ groupIp (s.sendDest i c) = false :=
  ⟨wSnd 2 ⟨none, 2, 0⟩, 3, 0xC0A80107, 0x020000001234, 6, 0, up_of (by decide +kernel), (by decide +kernel), (by decide +kernel), (by decide +kernel), (by decide +kernel), (by decide +kernel), (by decide +kernel), (by decide +kernel)⟩

theorem meets_PortsInstallKeysAndResolveNextHops_5 : ∃ (s : State) (i c : Nat), s.UpAt 0x0D i ∧ c < 2 ∧ s.n (O0D.SEND_STATE i) ≠ 0 ∧ groupIp (s.sendDest i c) = false ∧ pathPort (s.sendPath i c) ≠ 0xFFFF ∧ ((s.arp i c).mac = none ∨ (s.arp i c).tries ≠ 0 ∧ (s.arp i c).tries < 3) ∧ (s.arp i c).at_ + 192000 ≤ s.now :=
  ⟨wSnd 1 ⟨none, 2, 0⟩, 6, 0, upAt_of (by decide +kernel), (by decide +kernel), (by decide +kernel), (by decide +kernel), (by decide +kernel), (.inl (by decide +kernel)), (by decide +kernel)⟩

theorem meets_PortsInstallKeysAndResolveNextHops_6 : ∃ (s : State) (i c : Nat), s.UpAt 0x0D i ∧ c < 2 ∧ s.n (O0D.SEND_STATE i) ≠ 0 ∧ 3 ≤ (s.arp i c).tries ∧ (s.arp i c).mac ≠ none ∧ (s.arp i c).at_ + 192000 ≤ s.now :=
  ⟨wSnd 2 ⟨some 0x1234, 3, 0⟩, 6, 0, upAt_of (by decide +kernel), (by decide +kernel), (by decide +kernel), (by decide +kernel), (by decide +kernel), (by decide +kernel)⟩

theorem meets_PortsInstallKeysAndResolveNextHops_7 : ∃ (s : State) (iface i c : Nat), s.Up ∧ iface < 64 ∧ s.b (O0F.IF_ENABLE (0x100 + iface)) = true ∧ i ∈ s.enabledFlows 0x0E ∧ c ∈ s.rxPaths i ∧ pathIf (s.rxPath i c) = iface ∧ groupIp (s.rxGroup i c) = true :=
  ⟨wRx 1 1 0, 3, 8, 0, up_of (by decide +kernel), (by decide +kernel), (by decide +kernel), (by decide +kernel), (by decide +kernel), (by decide +kernel), (by decide +kernel)⟩

theorem meets_SendersAndReceiversMoveBetweenTheirStates_1 : ∃ (s : State) (i : Nat), s.UpAt 0x0D i ∧ s.n (O0D.SEND_STATE i) = 1 ∧ ((s.sendPaths i).all fun c => (s.pathMac i c).isSome) = true :=
  ⟨wSnd 1 ⟨some 0x1234, 0, 0⟩, 6, upAt_of (by decide +kernel), (by decide +kernel), (by decide +kernel)⟩

theorem meets_SendersAndReceiversMoveBetweenTheirStates_2 : ∃ (s : State) (i : Nat), s.UpAt 0x0D i ∧ s.n (O0D.SEND_STATE i) = 2 ∧ s.heldCause i = true :=
  ⟨wHeld 2 1, 6, upAt_of (by decide +kernel), (by decide +kernel), (by decide +kernel)⟩

theorem meets_SendersAndReceiversMoveBetweenTheirStates_3 : ∃ (s : State) (i : Nat), s.UpAt 0x0D i ∧ s.n (O0D.SEND_STATE i) = 3 ∧ s.heldCause i = false :=
  ⟨wHeld 3 0, 6, upAt_of (by decide +kernel), (by decide +kernel), (by decide +kernel)⟩

theorem meets_SendersAndReceiversMoveBetweenTheirStates_4 : ∃ (s : State) (rx c src sport ns spp found a : Nat) (l : List (Nat × Nat × List Byte)) (b : List Byte) (p : Rtp), s.UpAt 0x0E rx ∧ s.n (O0E.RX_STATE rx) ≠ 0 ∧ c ∈ s.rxPaths rx ∧ s.igmpV2 (pathIf (s.rxPath rx c)) = false ∧ s.n (O0E.ESSENCE rx) ≠ 5 ∧ rtpOf b = some p ∧ p.pt ≠ s.n (O0E.RX_PT rx) ∧ s.Holds (O0E.WRONG_PT rx) a ∧ a + 1 < 2 ^ bitsOf (O0E.WRONG_PT rx) :=
  ⟨wRx 1 1 0, 8, 0, 1, 2, 3, 6, 0, 4, [], dgram 96, ⟨false, 96, 7, 9, [1, 2, 3]⟩, upAt_of (by decide +kernel), (by decide +kernel), (by decide +kernel), (by decide +kernel), (by decide +kernel), (by decide +kernel), (by decide +kernel), (by unfold State.Holds; decide +kernel), (by decide +kernel)⟩

theorem meets_SendersAndReceiversMoveBetweenTheirStates_5 : ∃ (s : State) (rx c src sport ns spp found : Nat) (l : List (Nat × Nat × List Byte)) (b : List Byte), s.UpAt 0x0E rx ∧ s.n (O0E.RX_STATE rx) ≠ 0 ∧ c ∈ s.rxPaths rx ∧ s.igmpV2 (pathIf (s.rxPath rx c)) = true ∧ s.rxSource rx c ≠ 0 ∧ s.rxSource rx c ≠ src :=
  ⟨wRx2, 8, 0, 1, 2, 3, 6, 0, [], dgram 97, upAt_of (by decide +kernel), (by decide +kernel), (by decide +kernel), (by decide +kernel), (by decide +kernel), (by decide +kernel)⟩

theorem meets_SendersAndReceiversMoveBetweenTheirStates_6 : ∃ (s : State) (rx c src sport ns spp found : Nat) (l : List (Nat × Nat × List Byte)) (b : List Byte) (p : Rtp), s.UpAt 0x0E rx ∧ s.n (O0E.RX_STATE rx) = 1 ∧ c ∈ s.rxPaths rx ∧ s.igmpV2 (pathIf (s.rxPath rx c)) = false ∧ s.n (O0E.ESSENCE rx) = 1 ∧ rtpOf b = some p ∧ p.pt = s.n (O0E.RX_PT rx) ∧ (s.rx rx).got = [] :=
  ⟨wRx 1 1 0, 8, 0, 1, 2, 3, 6, 0, [], dgram 97, ⟨false, 97, 7, 9, [1, 2, 3]⟩, upAt_of (by decide +kernel), (by decide +kernel), (by decide +kernel), (by decide +kernel), (by decide +kernel), (by decide +kernel), (by decide +kernel), (by decide +kernel)⟩

theorem meets_SendersAndReceiversMoveBetweenTheirStates_7 : ∃ (s : State) (rx c src sport ns spp found : Nat) (l : List (Nat × Nat × List Byte)) (b : List Byte), s.UpAt 0x0E rx ∧ s.n (O0E.RX_STATE rx) = 1 ∧ c ∈ s.rxPaths rx ∧ s.igmpV2 (pathIf (s.rxPath rx c)) = false ∧ s.n (O0E.ESSENCE rx) = 5 ∧ (s.rx rx).cellsAt ≠ s.tick64 ∧ ceilDiv (16 + b.length) 128 ≤ s.n (O0E.RX_DATA_CELLS rx) :=
  ⟨wRxD, 8, 0, 1, 2, 3, 6, 0, [], [1, 2, 3], upAt_of (by decide +kernel), (by decide +kernel), (by decide +kernel), (by decide +kernel), (by decide +kernel), (by decide +kernel), (by decide +kernel)⟩

theorem meets_SendersAndReceiversMoveBetweenTheirStates_8 : ∃ (s : State) (rx c v : Nat), s.UpAt 0x0E rx ∧ c < 2 ∧ s.Holds (O0E.PATH_STATES rx) v ∧ bit v c = true ∧ clearBits v (2 ^ c) ≠ 0 ∧ (if c = 0 then (s.rx rx).seenA else (s.rx rx).seenB) + ceilDiv (s.n (O0E.PATH_TIMEOUT rx) * 192) 1000 ≤ s.now :=
  ⟨wRxC 2 1 3, 8, 1, 3, upAt_of (by decide +kernel), (by decide +kernel), (by unfold State.Holds; decide +kernel), (by decide +kernel), (by decide +kernel), (by decide +kernel)⟩

theorem meets_SendersAndReceiversMoveBetweenTheirStates_9 : ∃ (s : State) (rx c v : Nat), s.UpAt 0x0E rx ∧ c < 2 ∧ s.Holds (O0E.PATH_STATES rx) v ∧ bit v c = true ∧ clearBits v (2 ^ c) = 0 ∧ 2 ≤ s.n (O0E.RX_STATE rx) ∧ (if c = 0 then (s.rx rx).seenA else (s.rx rx).seenB) + ceilDiv (s.n (O0E.PATH_TIMEOUT rx) * 192) 1000 ≤ s.now :=
  ⟨wRxC 2 1 2, 8, 1, 2, upAt_of (by decide +kernel), (by decide +kernel), (by unfold State.Holds; decide +kernel), (by decide +kernel), (by decide +kernel), (by decide +kernel), (by decide +kernel)⟩

theorem meets_SendersAndReceiversMoveBetweenTheirStates_10 : ∃ (s : State) (rx at_ : Nat) (u : RxUnit), s.UpAt 0x0E rx ∧ s.n (O0E.ESSENCE rx) = 0 ∧ s.n (O0E.RX_STATE rx) ≠ 0 ∧ fmtScan (s.n (O0E.RX_FORMAT rx)) = 0 ∧ 2 ≤ rxGroups (s.n (O0E.RX_FORMAT rx)) ∧ 0 < rxGroupBytes (s.n (O0E.RX_FORMAT rx)) 0 ∧ (s.rx rx).units = [u] ∧ u.second = false ∧ u.sent = 0 ∧ u.closed = [] ∧ u.parts = [] ∧ u.first = [(1, at_)] ∧ at_ + ceilDiv (s.n (O0E.MERGE_WINDOW rx) * 192) 1000 ≤ s.now :=
  ⟨wRxV 2 [⟨5, false, [(1, 0)], [], [], 0, true⟩], 8, 0, ⟨5, false, [(1, 0)], [], [], 0, true⟩, upAt_of (by decide +kernel), (by decide +kernel), (by decide +kernel), (by decide +kernel), (by decide +kernel), (by decide +kernel), (by decide +kernel), (by decide +kernel), (by decide +kernel), (by decide +kernel), (by decide +kernel), (by decide +kernel), (by decide +kernel)⟩

theorem meets_SendersAndReceiversMoveBetweenTheirStates_11 : ∃ (s : State) (rx at_ k : Nat) (u v : RxUnit), s.UpAt 0x0E rx ∧ s.n (O0E.ESSENCE rx) = 0 ∧ s.n (O0E.RX_STATE rx) = 1 ∧ fmtScan (s.n (O0E.RX_FORMAT rx)) = 0 ∧ rxGroups (s.n (O0E.RX_FORMAT rx)) = k + 1 ∧ (s.rx rx).units = [u, v] ∧ laterStamp v.stamp u.stamp = true ∧ u.second = false ∧ u.sent = k ∧ ((∀ g, g < k → g ∈ u.closed)) ∧ k ∉ u.closed ∧ v.second = false ∧ v.sent = 0 ∧ v.closed = [] ∧ v.first = [(0, at_)] ∧ at_ + ceilDiv (s.n (O0E.MERGE_WINDOW rx) * 192) 1000 ≤ s.now ∧ u.fits = true :=
  ⟨wRxV 1 [wUnit true, wLater], 8, 0, 134, wUnit true, wLater, upAt_of (by decide +kernel), (by decide +kernel), (by decide +kernel), (by decide +kernel), (by decide +kernel), (by decide +kernel), (by decide +kernel), (by decide +kernel), (by decide +kernel), (by decide +kernel), (by decide +kernel), (by decide +kernel), (by decide +kernel), (by decide +kernel), (by decide +kernel), (by decide +kernel), (by decide +kernel)⟩

theorem meets_SendersAndReceiversMoveBetweenTheirStates_12 : ∃ (s : State) (rx at_ k : Nat) (u v : RxUnit), s.UpAt 0x0E rx ∧ s.n (O0E.ESSENCE rx) = 0 ∧ s.n (O0E.RX_STATE rx) = 2 ∧ fmtScan (s.n (O0E.RX_FORMAT rx)) = 0 ∧ rxGroups (s.n (O0E.RX_FORMAT rx)) = k + 1 ∧ (s.rx rx).units = [u, v] ∧ laterStamp v.stamp u.stamp = true ∧ u.second = false ∧ u.sent = k ∧ ((∀ g, g < k → g ∈ u.closed)) ∧ k ∉ u.closed ∧ v.second = false ∧ v.sent = 0 ∧ v.closed = [] ∧ v.first = [(0, at_)] ∧ at_ + ceilDiv (s.n (O0E.MERGE_WINDOW rx) * 192) 1000 ≤ s.now ∧ u.fits = false :=
  ⟨wRxV 2 [wUnit false, wLater], 8, 0, 134, wUnit false, wLater, upAt_of (by decide +kernel), (by decide +kernel), (by decide +kernel), (by decide +kernel), (by decide +kernel), (by decide +kernel), (by decide +kernel), (by decide +kernel), (by decide +kernel), (by decide +kernel), (by decide +kernel), (by decide +kernel), (by decide +kernel), (by decide +kernel), (by decide +kernel), (by decide +kernel), (by decide +kernel)⟩

end C12

namespace C13

def dscS : Desc := { kind := 0, state := 1, subst := false, incomplete := false, srcp := 2, dstp := 3, origin := 0, lineBytes := 0, lines := 0, interlaced := false, reserve := 0, curGroup := 0, reqGroup := 0, frameIndex := 0, frames := 1, base := 0, cells := 100, substs := 0, moved := 0, dest := 0x106, trunkIn := 0xFFFF, trunkOut := 0xFFFF, originId := 0, redo := 0, repeating := false, label := 0 }
def wRelWord : Nat := entWord 6 2 3 4 0 true 7 1
def wRel (es : Nat) : State := { hold up [(O01.CHAIN_STATE, 0), (O0D.SEND_STATE 6, 2), (O0D.ESSENCE 6, es), (O0D.AUDIO_LEVEL 6, 0), (O0D.SEND_FORMAT 6, 0x4060), (O0D.CHANNEL_COUNT 6, 1), (O0C.MATRIX_RATE, 0), (O0D.SEND_PATH_A 6, 0x30005), (O0D.SEND_PATH_B 6, 0xFFFF)] with tick := { up.tick with inTick := true, tick := 4002#64 }, chain := { up.chain with active := [(4, wRelWord)] }, fabric := { up.fabric with desc := [(7, dscS)] }, net := { up.net with seqs := [(6, 0xFFFFFFFF)], pacers := [(6, [(9, 0, ⟨[1], 0, 0, 6, 9, false⟩)])] } }
def fr : Frame := ⟨[2, 0, 0, 0, 0, 9, 2, 0, 0, 0, 0, 5, 0x12, 0x34, 7, 8], 10, 3, 0xFFFF, 0, false⟩
def fr2 : Frame := ⟨[2, 0, 0, 0, 0, 9, 2, 0, 0, 0, 0, 5, 0x12, 0x34, 7, 9], 10, 3, 0xFFFF, 0, false⟩
def shp (l : Int) (q : List Frame) (e : Option Nat) : ShapeSt := ⟨l, 0, 5, 1, 5, q, e⟩
def wShp (x : ShapeSt) : State := { up with tick := { up.tick with tick := 4#64 }, net := { up.net with shapers := [(33, x)], queues := [(43, [fr2])] } }
def wPace : State := { hold up [(O0F.LINK_STATE 5, 1), (O0F.STP_STATE 5, 2), (O0D.SEND_STATE 6, 2), (O0D.SEND_PATH_A 6, 0x30005), (O0D.SEND_DEST_A 6, 0xEF010203), (O0F.IF_VID 0x103, 10)] with tick := { up.tick with tick := 4#64 }, net := { up.net with queues := [(43, [fr2])], pacers := [(6, [(2009, 0, { fr with sender := 6, vid := 0, release := 2009 })])] } }
def wPaceDown : State := { wPace with objs := (hold up [(O0F.LINK_STATE 5, 0), (O0F.STP_STATE 5, 2), (O0D.SEND_STATE 6, 2), (O0D.SEND_PATH_A 6, 0x30005), (O0D.SEND_DEST_A 6, 0xEF010203), (O0F.IF_VID 0x103, 10)]).objs }
def wTx (u : Nat) : State := { hold up [(O11.LANE_MODE 5, 2), (O0F.LINK_STATE 5, 1), (O10.CBS_A_TC 0x805, 0xFF), (O10.CBS_B_TC 0x805, 0xFF), (O10.GATE_ENABLE 0x805, 0)] with tick := { up.tick with tick := 4#64 }, net := { up.net with vlans := [(10, ⟨false, 0x20, u⟩)], queues := [(41, [fr2]), (43, [fr, fr2])] } }
def gl : GateList := ⟨[(0xFF, 500000), (0x0F, 500000)], 0, 1000000⟩
def wGate (e : Nat) (g : GateSt) : State := { hold up [(O10.CBS_A_TC 0x805, 0xFF), (O10.CBS_B_TC 0x805, 0xFF), (O10.GATE_ENABLE 0x805, e)] with tick := { up.tick with tick := 100#64 }, net := { up.net with gates := [(5, g)] } }

def wRelHeld : State := { wRel 4 with chain := { (wRel 4).chain with stalls := [⟨wRelWord, 4, 1, 8, []⟩] } }
def wDue : Nat × Nat × Bool × Nat × Nat := ((wRel 4).duePackets 6).headD (0, 0, false, 0, 0)

theorem meets_PacedAndShapedFramesLeaveInTheirSlots_1 : ∃ (s : State) (link word i : Nat) (l : List (List Byte)), s.Up ∧ s.inChain link word = true ∧ entOp word = 6 ∧ (s.chain.stalls.any fun o => o.link == link && o.word == word) = false ∧ s.releaseOf word = some i ∧ s.n (O0D.SEND_STATE i) = 2 ∧ s.n (O0D.ESSENCE i) ≠ 3 ∧ s.n (O0D.ESSENCE i) ≠ 5 ∧ s.lastRelease link word = true :=
  ⟨wRel 4, 4, wRelWord, 6, [[1, 2], [3]], up_of (by decide +kernel), (by decide +kernel), (by decide +kernel), (by decide +kernel), (by decide +kernel), (by decide +kernel), (by decide +kernel), (by decide +kernel), (by decide +kernel)⟩

theorem meets_PacedAndShapedFramesLeaveInTheirSlots_2 : ∃ (s : State) (link word i c : Nat) (l : List (List Byte)) (b : List Byte) (d : Nat × Nat × Bool × Nat × Nat), s.Up ∧ s.inChain link word = true ∧ entOp word = 6 ∧ (s.chain.stalls.any fun o => o.link == link && o.word == word) = false ∧ s.releaseOf word = some i ∧ s.n (O0D.SEND_STATE i) = 2 ∧ s.n (O0D.ESSENCE i) ≠ 3 ∧ s.n (O0D.ESSENCE i) ≠ 5 ∧ s.sendPaths i = [c] ∧ 0 < entArg word % 256 ∧ s.lastRelease link word = true ∧ (s.duePackets i).drop (s.releaseBefore link word) = [d] ∧ (if s.n (O0D.ESSENCE i) = 0 then s.videoPayload i (SMap.getD s.net.seqs i 0 % 2 ^ 32) d.2.2.2.1 d.2.2.2.2 else if s.n (O0D.ESSENCE i) = 4 then l[0]? else s.audioPayload i d.2.2.2.1) = some b :=
  ⟨wRel 4, 4, wRelWord, 6, 0, [[1, 2], [3]], [1, 2], wDue, up_of (by decide +kernel), (by decide +kernel), (by decide +kernel), (by decide +kernel), (by decide +kernel), (by decide +kernel), (by decide +kernel), (by decide +kernel), (by decide +kernel), (by decide +kernel), (by decide +kernel), (by decide +kernel), (by decide +kernel)⟩

theorem meets_PacedAndShapedFramesLeaveInTheirSlots_3 : ∃ (s : State) (link word : Nat) (l : List (List Byte)) (o : Owing), s.Up ∧ s.inChain link word = true ∧ entOp word = 6 ∧ s.chain.stalls = [o] ∧ o.link = link ∧ o.word = word :=
  ⟨wRelHeld, 4, wRelWord, [[1, 2], [3]], ⟨wRelWord, 4, 1, 8, []⟩, up_of (by decide +kernel), (by decide +kernel), (by decide +kernel), (by decide +kernel), (by decide +kernel), (by decide +kernel)⟩

theorem meets_PacedAndShapedFramesLeaveInTheirSlots_4 : ∃ (s : State) (i slot k : Nat) (x : ShapeSt) (f : Frame), s.Up ∧ slot < 500 ∧ SMap.find? s.net.drains i = none ∧ s.wheelDue (s.slotAt slot) = [(k, 7 - f.pcp % 8, 1, i)] ∧ SMap.find? s.net.shapers i = some x ∧ x.queue = [f] ∧ x.rate ≠ 0 ∧ 0 ≤ (s.shapeTo x k).level :=
  ⟨wShp (shp (-100) [fr] (some 2010)), 33, 490, 2010, shp (-100) [fr] (some 2010), fr, up_of (by decide +kernel), (by decide +kernel), (by decide +kernel), (by decide +kernel), (by decide +kernel), (by decide +kernel), (by decide +kernel), (by decide +kernel)⟩

theorem meets_PacedAndShapedFramesLeaveInTheirSlots_5 : ∃ (s : State) (i slot : Nat) (x : ShapeSt) (f : Frame) (l : List Frame), s.Up ∧ slot < 500 ∧ SMap.find? s.net.drains i = none ∧ s.wheelDue (s.slotAt slot) = [] ∧ SMap.find? s.net.shapers i = some x ∧ x.queue = f :: l ∧ (s.shapeTo x (s.slotAt slot)).level < 0 :=
  ⟨wShp (shp (-100000000) [fr, fr2] (some 1000000)), 33, 490, shp (-100000000) [fr, fr2] (some 1000000), fr, [fr2], up_of (by decide +kernel), (by decide +kernel), (by decide +kernel), (by decide +kernel), (by decide +kernel), (by decide +kernel), (by decide +kernel)⟩

theorem meets_PacedAndShapedFramesLeaveInTheirSlots_6 : ∃ (s : State) (i slot a c : Nat) (f : Frame), s.UpAt 0x0D i ∧ slot < 500 ∧ SMap.rising s.net.pacers = true ∧ s.wheelDue (s.slotAt slot) = [(a, 7 - f.pcp % 8, 0, i)] ∧ SMap.getD s.net.pacers i [] = [(a, c, f)] ∧ s.pathCarries i c = true ∧ s.filterOfSender i = none :=
  ⟨wPace, 6, 30, 2009, 0, { fr with sender := 6, vid := 0, release := 2009 }, upAt_of (by decide +kernel), (by decide +kernel), (by decide +kernel), (by decide +kernel), (by decide +kernel), (by decide +kernel), (by decide +kernel)⟩

theorem meets_PacedAndShapedFramesLeaveInTheirSlots_7 : ∃ (s : State) (i slot a c : Nat) (f : Frame), s.UpAt 0x0D i ∧ slot < 500 ∧ s.wheelDue (s.slotAt slot) = [(a, 7 - f.pcp % 8, 0, i)] ∧ SMap.getD s.net.pacers i [] = [(a, c, f)] ∧ s.pathCarries i c = false :=
  ⟨wPaceDown, 6, 30, 2009, 0, { fr with sender := 6, vid := 0, release := 2009 }, upAt_of (by decide +kernel), (by decide +kernel), (by decide +kernel), (by decide +kernel), (by decide +kernel)⟩

theorem meets_PacedAndShapedFramesLeaveInTheirSlots_8 : ∃ (s : State) (p slot tc : Nat) (f : Frame) (l : List Frame), s.UpAt 0x0F p ∧ p < 232 ∧ slot < 500 ∧ s.linkUp p = true ∧ SMap.getD s.net.macFree p 0 ≤ s.slotAt slot ∧ s.cbsTc p 0 = 0xFF ∧ s.cbsTc p 1 = 0xFF ∧ s.b (O10.GATE_ENABLE (0x800 + p)) = false ∧ s.nextTc p (s.slotAt slot) = some tc ∧ SMap.rising s.net.queues = true ∧ SMap.getD s.net.queues (8 * p + tc) [] = f :: l ∧ f.release = 0 ∧ f.sender = 0xFFFF ∧ s.secured p = false ∧ s.untaggedOn f.vid p = true :=
  ⟨wTx 0x20, 5, 30, 3, fr, [fr2], upAt_of (by decide +kernel), (by decide +kernel), (by decide +kernel), (by decide +kernel), (by decide +kernel), (by decide +kernel), (by decide +kernel), (by decide +kernel), (by decide +kernel), (by decide +kernel), (by decide +kernel), (by decide +kernel), (by decide +kernel), (by decide +kernel), (by decide +kernel)⟩

theorem meets_PacedAndShapedFramesLeaveInTheirSlots_9 : ∃ (s : State) (p slot tc : Nat) (f : Frame) (l : List Frame), s.UpAt 0x0F p ∧ p < 232 ∧ slot < 500 ∧ s.linkUp p = true ∧ SMap.getD s.net.macFree p 0 ≤ s.slotAt slot ∧ s.cbsTc p 0 = 0xFF ∧ s.cbsTc p 1 = 0xFF ∧ s.b (O10.GATE_ENABLE (0x800 + p)) = false ∧ s.nextTc p (s.slotAt slot) = some tc ∧ SMap.getD s.net.queues (8 * p + tc) [] = f :: l ∧ f.release = 0 ∧ f.sender = 0xFFFF ∧ s.secured p = false ∧ s.untaggedOn f.vid p = false :=
  ⟨wTx 0, 5, 30, 3, fr, [fr2], upAt_of (by decide +kernel), (by decide +kernel), (by decide +kernel), (by decide +kernel), (by decide +kernel), (by decide +kernel), (by decide +kernel), (by decide +kernel), (by decide +kernel), (by decide +kernel), (by decide +kernel), (by decide +kernel), (by decide +kernel), (by decide +kernel)⟩

theorem meets_PacedAndShapedFramesLeaveInTheirSlots_10 : ∃ (s : State) (p slot : Nat) (g : GateSt), s.UpAt 0x10 (0x800 + p) ∧ p < 224 ∧ slot < 500 ∧ SMap.find? s.net.gates p = some g :=
  ⟨wGate 1 ⟨some gl, none, 0xFF⟩, 5, 30, ⟨some gl, none, 0xFF⟩, upAt_of (by decide +kernel), (by decide +kernel), (by decide +kernel), (by decide +kernel)⟩

theorem meets_PacedAndShapedFramesLeaveInTheirSlots_11 : ∃ (s : State) (p slot start x : Nat) (o : Option GateList) (g : GateList), s.UpAt 0x10 (0x800 + p) ∧ p < 224 ∧ slot < 500 ∧ SMap.find? s.net.gates p = some ⟨o, some (g, start), x⟩ ∧ nsSlot start ≤ s.slotAt slot :=
  ⟨wGate 1 ⟨none, some (gl, 100), 0xFF⟩, 5, 30, 100, 0xFF, none, gl, upAt_of (by decide +kernel), (by decide +kernel), (by decide +kernel), (by decide +kernel), (by decide +kernel)⟩

end C13

namespace C14

def wLn (rx : Nat) (x : LaneSt) : State := { hold up [(O11.RX_STATE 5, rx), (O11.CTLE_PEAK 5, 7), (O11.RX_LOCK_LOSSES 5, 3), (O11.EQ_MODE 5, 0), (O11.LANE_MODE 5, 5), (O11.FILLER_DELETED 5, 3), (O11.FILLER_INSERTED 5, 3), (O11.ELASTIC_SLIPS 5, 3), (O01.CHAIN_STATE, 0)] with lanes := [(5, x)], tick := { up.tick with clock := 1000 } }
def wLnManual : State := { wLn 2 LaneSt.fresh with objs := (hold up [(O11.RX_STATE 5, 2), (O11.CTLE_PEAK 5, 7), (O11.EQ_MODE 5, 2)]).objs }
def wScan (rx : Nat) : State := { hold up [(O11.RX_STATE 5, rx), (O11.LANE_RATE 5, 6), (O11.EYE_DWELL 5, 2), (O1B.JOB_STATE 3, 2), (O1B.JOB_OBJECT 3, O11.EYE_SCAN 5), (O1B.JOB_OWNER 3, 0x30), (O1B.JOB_STARTED 3, 7)] with jobs := [(3, jScan)], tick := { up.tick with tick := 1000000000#64 } } where jScan : JobSt := ⟨O11.EYE_SCAN 5, .num 1, 0, some 2, 0, [], 0, 0, [0], 0, 0, false, none, []⟩
def wChk (chk c : Nat) (x : LaneSt) : State := { hold up [(O11.LANE_MODE 5, 9), (O11.CHK_STATE 5, chk), (O11.SYNC_LOSSES 5, 3), (O11.ERR_BITS 5, 10), (O11.BER_LIMIT 5, 3), (O01.CHAIN_STATE, c)] with lanes := [(5, x)], tick := { up.tick with clock := 10000000 } }

def wLnLong (x : LaneSt) : State := { wLn 2 x with tick := { up.tick with clock := 10000000 } }

theorem meets_LaneReceiversAdaptLockAndAreLost_1 : ∃ (s : State) (l n : Nat) (d : List Byte), s.UpAt 0x11 l ∧ s.n (O11.RX_STATE l) = 1 ∧ s.n (O11.EQ_MODE l) < 2 ∧ (s.lane l).converged = some (n, d) :=
  ⟨wLn 1 { LaneSt.fresh with converged := some (4, [1, 2, 3]) }, 5, 4, [1, 2, 3], upAt_of (by decide +kernel), (by decide +kernel), (by decide +kernel), (by decide +kernel)⟩

theorem meets_LaneReceiversAdaptLockAndAreLost_2 : ∃ (s : State) (l : Nat), s.UpAt 0x11 l ∧ s.n (O11.RX_STATE l) = 1 ∧ ((s.lane l).converged = none ∨ s.n (O11.EQ_MODE l) = 2) :=
  ⟨wLn 1 LaneSt.fresh, 5, upAt_of (by decide +kernel), (by decide +kernel), (.inl (by decide +kernel))⟩

theorem meets_LaneReceiversAdaptLockAndAreLost_3 : ∃ (s : State) (l ctle : Nat) (d : List Byte), s.UpAt 0x11 l ∧ s.n (O11.RX_STATE l) = 2 ∧ s.n (O11.EQ_MODE l) = 0 :=
  ⟨wLn 2 { LaneSt.fresh with eqReported := true }, 5, 19, [1, 2, 3], upAt_of (by decide +kernel), (by decide +kernel), (by decide +kernel)⟩

theorem meets_LaneReceiversAdaptLockAndAreLost_4 : ∃ (s : State) (l ctle : Nat) (d : List Byte), s.UpAt 0x11 l ∧ s.n (O11.RX_STATE l) = 2 ∧ s.n (O11.EQ_MODE l) = 2 :=
  ⟨wLnManual, 5, 19, [1, 2, 3], upAt_of (by decide +kernel), (by decide +kernel), (by decide +kernel)⟩

theorem meets_LaneReceiversAdaptLockAndAreLost_5 : ∃ (s : State) (l : Nat), s.UpAt 0x11 l ∧ s.n (O11.RX_STATE l) = 2 ∧ s.n (O11.EQ_MODE l) ≠ 1 ∧ (s.lane l).adapting + s.adaptLimit l ≤ s.now :=
  ⟨wLnLong LaneSt.fresh, 5, upAt_of (by decide +kernel), (by decide +kernel), (by decide +kernel), (by decide +kernel)⟩

theorem meets_LaneReceiversAdaptLockAndAreLost_6 : ∃ (s : State) (l : Nat), s.UpAt 0x11 l ∧ s.n (O11.RX_STATE l) = 2 ∧ (s.lane l).adapting + s.adaptLimit l ≤ s.now ∧ (s.lane l).eqReported = true :=
  ⟨wLnLong { LaneSt.fresh with eqReported := true }, 5, upAt_of (by decide +kernel), (by decide +kernel), (by decide +kernel), (by decide +kernel)⟩

theorem meets_LaneReceiversAdaptLockAndAreLost_7 : ∃ (s : State) (l : Nat), s.UpAt 0x11 l ∧ s.n (O11.RX_STATE l) = 2 ∧ s.now < (s.lane l).adapting + s.adaptLimit l :=
  ⟨wLn 2 LaneSt.fresh, 5, upAt_of (by decide +kernel), (by decide +kernel), (by decide +kernel)⟩

theorem meets_LaneReceiversAdaptLockAndAreLost_8 : ∃ (s : State) (l a : Nat), s.UpAt 0x11 l ∧ s.n (O11.RX_STATE l) = 3 ∧ s.jobOf (O11.EYE_SCAN l) = none ∧ s.Holds (O11.RX_LOCK_LOSSES l) a ∧ a + 1 < 2 ^ bitsOf (O11.RX_LOCK_LOSSES l) :=
  ⟨wLn 3 LaneSt.fresh, 5, 3, upAt_of (by decide +kernel), (by decide +kernel), (by decide +kernel), (by unfold State.Holds; decide +kernel), (by decide +kernel)⟩

theorem meets_LaneReceiversAdaptLockAndAreLost_9 : ∃ (s : State) (l j : Nat), s.UpAt 0x11 l ∧ s.n (O11.RX_STATE l) = 3 ∧ s.jobOf (O11.EYE_SCAN l) = some j ∧ s.n (O1B.JOB_STATE j) = 2 ∧ ((s.job? j).getD JobSt.none_).ready = false :=
  ⟨wScan 3, 5, 3, upAt_of (by decide +kernel), (by decide +kernel), (by decide +kernel), (by decide +kernel), (by decide +kernel)⟩

theorem meets_LaneReceiversAdaptLockAndAreLost_10 : ∃ (s : State) (l : Nat), s.UpAt 0x11 l ∧ s.n (O11.RX_STATE l) = 2 :=
  ⟨wLn 2 LaneSt.fresh, 5, upAt_of (by decide +kernel), (by decide +kernel)⟩

theorem meets_ElasticBuffersAndRateOffsets_1 : ∃ (s : State) (l x : Nat), s.UpAt 0x11 l ∧ s.n (O11.LANE_MODE l) = 5 ∧ (x ≠ 0 ∨ (s.lane l).elastic.length ≤ 8) ∧ (s.lane l).elastic.length < 16 :=
  ⟨wLn 3 { LaneSt.fresh with elastic := [1, 2, 3, 4, 5, 6, 7, 8] }, 5, 0, upAt_of (by decide +kernel), (by decide +kernel), (by decide +kernel), (by decide +kernel)⟩

theorem meets_ElasticBuffersAndRateOffsets_2 : ∃ (s : State) (l a : Nat), s.UpAt 0x11 l ∧ s.n (O11.LANE_MODE l) = 5 ∧ 8 < (s.lane l).elastic.length ∧ s.Holds (O11.FILLER_DELETED l) a ∧ a + 1 < 2 ^ bitsOf (O11.FILLER_DELETED l) :=
  ⟨wLn 3 { LaneSt.fresh with elastic := [1, 2, 3, 4, 5, 6, 7, 8, 9] }, 5, 3, upAt_of (by decide +kernel), (by decide +kernel), (by decide +kernel), (by unfold State.Holds; decide +kernel), (by decide +kernel)⟩

theorem meets_ElasticBuffersAndRateOffsets_3 : ∃ (s : State) (l x a : Nat), s.UpAt 0x11 l ∧ s.n (O11.LANE_MODE l) = 5 ∧ x ≠ 0 ∧ 16 ≤ (s.lane l).elastic.length ∧ s.Holds (O11.ELASTIC_SLIPS l) a ∧ a + 1 < 2 ^ bitsOf (O11.ELASTIC_SLIPS l) :=
  ⟨wLn 3 { LaneSt.fresh with elastic := List.range 16 }, 5, 77, 3, upAt_of (by decide +kernel), (by decide +kernel), (by decide +kernel), (by decide +kernel), (by unfold State.Holds; decide +kernel), (by decide +kernel)⟩

theorem meets_ElasticBuffersAndRateOffsets_4 : ∃ (s : State) (l : Nat), s.UpAt 0x11 l ∧ s.n (O11.LANE_MODE l) = 5 ∧ 8 ≤ (s.lane l).elastic.length :=
  ⟨wLn 3 { LaneSt.fresh with elastic := [1, 2, 3, 4, 5, 6, 7, 8] }, 5, upAt_of (by decide +kernel), (by decide +kernel), (by decide +kernel)⟩

theorem meets_ElasticBuffersAndRateOffsets_5 : ∃ (s : State) (l a : Nat), s.UpAt 0x11 l ∧ s.n (O11.LANE_MODE l) = 5 ∧ (s.lane l).elastic.length < 8 ∧ s.Holds (O11.FILLER_INSERTED l) a ∧ a + 1 < 2 ^ bitsOf (O11.FILLER_INSERTED l) :=
  ⟨wLn 3 { LaneSt.fresh with elastic := [1, 2, 3, 4, 5, 6, 7] }, 5, 3, upAt_of (by decide +kernel), (by decide +kernel), (by decide +kernel), (by unfold State.Holds; decide +kernel), (by decide +kernel)⟩

theorem meets_ElasticBuffersAndRateOffsets_6 : ∃ (s : State) (l : Nat) (z : Int), s.UpAt 0x11 l ∧ z.natAbs ≤ 30000 :=
  ⟨wLn 3 LaneSt.fresh, 5, -30000, upAt_of (by decide +kernel), (by decide +kernel)⟩

theorem meets_ElasticBuffersAndRateOffsets_7 : ∃ (s : State) (l a : Nat) (z : Int), s.UpAt 0x11 l ∧ 30000 < z.natAbs ∧ (s.lane l).rateSince = some a ∧ a + 192 ≤ s.now ∧ (s.lane l).rateReported = false :=
  ⟨wLn 3 { LaneSt.fresh with rateSince := some 808 }, 5, 808, -30001, upAt_of (by decide +kernel), (by decide +kernel), (by decide +kernel), (by decide +kernel), (by decide +kernel)⟩

theorem meets_ElasticBuffersAndRateOffsets_8 : ∃ (s : State) (l : Nat) (z : Int), s.UpAt 0x11 l ∧ 30000 < z.natAbs ∧ (s.lane l).rateSince = none :=
  ⟨wLn 3 LaneSt.fresh, 5, 30001, upAt_of (by decide +kernel), (by decide +kernel), (by decide +kernel)⟩

theorem meets_LaneTestsCountErrorsAndScanEyes_1 : ∃ (s : State) (l e b : Nat), s.UpAt 0x11 l ∧ s.n (O11.CHK_STATE l) = 1 :=
  ⟨wChk 1 0 LaneSt.fresh, 5, 3, 4, upAt_of (by decide +kernel), (by decide +kernel)⟩

theorem meets_LaneTestsCountErrorsAndScanEyes_2 : ∃ (s : State) (l e b a v : Nat), s.UpAt 0x11 l ∧ s.n (O11.CHK_STATE l) = 2 ∧ s.Holds (O11.SYNC_LOSSES l) a ∧ a + 1 < 2 ^ bitsOf (O11.SYNC_LOSSES l) ∧ s.Holds (O11.ERR_BITS l) v ∧ v + e < 2 ^ 48 - 1 :=
  ⟨wChk 2 0 LaneSt.fresh, 5, 3, 4, 3, 10, upAt_of (by decide +kernel), (by decide +kernel), (by unfold State.Holds; decide +kernel), (by decide +kernel), (by unfold State.Holds; decide +kernel), (by decide +kernel)⟩

theorem meets_LaneTestsCountErrorsAndScanEyes_3 : ∃ (s : State) (l e b : Nat), s.UpAt 0x11 l ∧ s.n (O11.LANE_MODE l) = 9 ∧ s.n (O11.CHK_STATE l) = 2 ∧ s.windowDue l = true ∧ s.safeHold = false :=
  ⟨wChk 2 0 { LaneSt.fresh with winErr := 4, winBits := 1000 }, 5, 3, 400, upAt_of (by decide +kernel), (by decide +kernel), (by decide +kernel), (by decide +kernel), (by decide +kernel)⟩

theorem meets_LaneTestsCountErrorsAndScanEyes_4 : ∃ (s : State) (l e b : Nat), s.UpAt 0x11 l ∧ s.n (O11.LANE_MODE l) = 9 ∧ s.n (O11.CHK_STATE l) = 2 ∧ s.windowDue l = true ∧ s.safeHold = false ∧ (s.lane l).winBits + b < ((s.lane l).winErr + e) * 10 ^ s.n (O11.BER_LIMIT l) :=
  ⟨wChk 2 0 { LaneSt.fresh with winErr := 4, winBits := 1000 }, 5, 3, 400, upAt_of (by decide +kernel), (by decide +kernel), (by decide +kernel), (by decide +kernel), (by decide +kernel), (by decide +kernel)⟩

theorem meets_LaneTestsCountErrorsAndScanEyes_5 : ∃ (s : State) (l e b : Nat), s.UpAt 0x11 l ∧ s.n (O11.LANE_MODE l) = 9 ∧ s.n (O11.CHK_STATE l) = 2 ∧ s.windowDue l = true ∧ s.safeHold = true :=
  ⟨wChk 2 1 { LaneSt.fresh with winErr := 4, winBits := 1000 }, 5, 3, 400, upAt_of (by decide +kernel), (by decide +kernel), (by decide +kernel), (by decide +kernel), (by decide +kernel)⟩

theorem meets_LaneTestsCountErrorsAndScanEyes_6 : ∃ (s : State) (l : Nat), s.UpAt 0x11 l :=
  ⟨wChk 2 1 LaneSt.fresh, 5, upAt_of (by decide +kernel)⟩

theorem meets_LaneTestsCountErrorsAndScanEyes_7 : ∃ (s : State) (l j rate start : Nat) (x : JobSt) (rows : List (List Nat)), s.UpAt 0x11 l ∧ s.runningJob (O11.EYE_SCAN l) = some j ∧ s.job? j = some x ∧ x.ready = false ∧ x.par.headD 0 = 0 ∧ s.n (O11.RX_STATE l) = 3 ∧ s.n (O11.LANE_RATE l) = rate ∧ rate < 0x30 ∧ s.n (O1B.JOB_STARTED j) + 1 = start ∧ start + s.scanTicks l 1 ≤ s.tick64 :=
  ⟨wScan 3, 5, 3, 6, 8, wScan.jScan, [[0, 1], [2]], upAt_of (by decide +kernel), (by decide +kernel), (by decide +kernel), (by decide +kernel), (by decide +kernel), (by decide +kernel), (by decide +kernel), (by decide +kernel), (by decide +kernel), (by decide +kernel)⟩

end C14

namespace C15

def hdr (x : Nat) : Nat := x / 256 * 256 + hec (x / 256 * 256)
def hBad : Nat := hdr 0x2000000000000000 ^^^ 3
def wFl (st : Nat) (x : FurlongSt) : State := { hold up [(O11.LANE_MODE 0x105, 5), (O11.RX_STATE 0x105, 3), (O12.FURLONG_STATE 5, st), (O12.HEC_ERRORS 5, 3), (O12.PCRC_ERRORS 5, 3), (O12.SEAL_FAILURES 5, 3), (O12.TRUNK_SECURE 5, 0), (O12.FURLONG_DELAY 5, 4000)] with furlongs := [(5, x)], tick := { up.tick with clock := 1000000 } }
def wFlS (st : Nat) (x : FurlongSt) : State := { wFl st x with objs := (hold up [(O11.LANE_MODE 0x105, 5), (O11.RX_STATE 0x105, 3), (O12.FURLONG_STATE 5, st), (O12.SEAL_FAILURES 5, 3), (O12.TRUNK_SECURE 5, 1)]).objs }
def pay : List Byte := [1, 2, 3] ++ zeros 125
def hMedia : Nat := hdr (0x1000000000000000 + pcrc pay * 256)
def hWrong : Nat := hdr (0x2000000000000000 + (pcrc pay ^^^ 1) * 256)
def sealKey : List Byte := zeros 32
def sealPay : List Byte := d64 7 ++ [0, 1] ++ zeros 6 ++ bytesBE 16 (Config.gcmTag sealKey (zeros 4 ++ d64 7) [] []) ++ zeros 96
def wSealGood : State := wFlS 3 { FurlongSt.fresh with keys := [(3, (sealKey, [1]))] }
theorem natBE_append (a b : List Byte) : natBE (a ++ b) = natBE a * 256 ^ b.length + natBE b := by
  unfold natBE
  induction b using List.reverseRecOn with
  | nil => simp
  | append_singleton l x ih =>
    rw [← List.append_assoc, List.foldl_append, ih, List.foldl_append]
    simp only [List.foldl_cons, List.foldl_nil, List.length_append, List.length_singleton, Nat.pow_succ]
    ring
theorem bytesBE_length (k n : Nat) : (bytesBE k n).length = k := by
  induction k with
  | zero => rfl
  | succ k ih => simp [bytesBE, ih]
theorem natBE_bytesBE (k n : Nat) : natBE (bytesBE k n) = n % 256 ^ k := by
  induction k with
  | zero => simp [bytesBE, natBE, Nat.mod_one]
  | succ k ih =>
    rw [bytesBE, show BitVec.ofNat 8 (n / 256 ^ k) :: bytesBE k n = [BitVec.ofNat 8 (n / 256 ^ k)] ++ bytesBE k n from rfl, natBE_append,
      ih, bytesBE_length, Nat.pow_succ, Nat.mod_mul, Nat.mul_comm (256 ^ k), Nat.add_comm]
    simp [natBE]
theorem sealTag : Config.gcmTag sealKey (zeros 4 ++ d64 (natBE (sealPay.take 8))) [] [] % 2 ^ 128 = natBE (slice sealPay 16 16) := by
  show _ = natBE (bytesBE 16 (Config.gcmTag sealKey (zeros 4 ++ d64 7) [] []))
  rw [natBE_bytesBE]; rfl
def kFl : State := { kState with objs := (hold up [(O12.TRUNK_SECURE 5, 1)]).objs }
def vTk (s : State) : List Byte := [1, 1, 0x01, 0x84] ++ kBlob s 2 5
def bcn : Beacon := ⟨100, 9, 3, 50, 1, 4, 2, 0, 7, 0, 5, 2, 11, 4, 0xFFFF, 37, 1, 10, 77, 0, 0⟩
def wBc (st : Nat) (x : FurlongSt) : State := { wFl st x with objs := (hold up [(O12.FURLONG_STATE 5, st), (O13.DOMAIN_ENABLE, 1), (O13.DOMAIN_ID, 9), (O13.DEVICE_ID, 8), (O13.DOMAIN_STATE, 4), (O13.MASTER_DEVICE, 3)]).objs, domain := { up.domain with content := none, parts := [⟨6, 200, 1, 3, false⟩], highest := 6 } }
def same : FurlongSt := { FurlongSt.fresh with sender := 2, lane := 11, beacons := 190 }
def wDm (st : Nat) : State := { hold up [(O13.DOMAIN_STATE, st), (O13.MASTER_PRIORITY, 200), (O13.FORM_WAIT, 1000), (O13.DEVICE_ID, 8), (O13.MISSED_BEACONS, 200), (O13.MEMBER_STATE 0x105, 2), (O13.MEMBER_STATE 0x103, 3), (O13.LAST_EPOCH, 7), (O13.MASTER_DEVICE, 3), (O13.BACKUP_DEVICE, 3), (O13.DOMAIN_LEAD_MIN, 20), (O13.HASH_RESEEDS, 4)] with tick := { up.tick with clock := 1000000, tick := 5000#64 }, domain := { up.domain with seekSince := some 3, retryAt := some 4, members := [(3, ⟨100, 2⟩), (5, ⟨90, 3⟩)], highest := 7, lineage := 3, owed := [(6, 0, 1)] } }
def ep (copy : Bool) : EpochSt := ⟨7, 4000, 0, 0, [(3, []), (5, [])], [3], [], [], [], some (5, 2, 9), false, copy, []⟩
def wEp (st : Nat) (copy : Bool) : State := { wDm st with domain := { (wDm st).domain with epochs := [ep copy] } }
def wEpLate : State := { wEp 6 false with tick := { up.tick with tick := 300000#64 } }
def wPart : State := { wDm 4 with domain := { (wDm 4).domain with epochs := [], parts := [⟨7, 9000, 44, 3, false⟩] }, chain := { up.chain with queue := [{ Tx.blank (.domain 7) [] with order := 44 }] } }
def wRel15 : State := { hold (wDm 4) [(O12.FURLONG_STATE 5, 3)] with furlongs := [(5, { FurlongSt.fresh with relay := [(2, zeros 200)] })] }
def wSeed : State := { hold (wDm 4) [(O01.SHADOW_STATE, 3)] with chain := { up.chain with cur := some (Tx.blank .neloas []) } }

def wBig : State := { hold (wDm 5) [(O13.MISSED_BEACONS, 100), (O13.DOMAIN_SIZE, 65)] with member := .tmn9606 }
def wTr (st : Nat) : State := { hold (wDm st) [(O12.FURLONG_STATE 4, 3), (O12.FURLONG_STATE 6, 3), (O12.TRUNK_SECURE 4, 0), (O12.TRUNK_SECURE 6, 0)] with furlongs := [(4, { FurlongSt.fresh with parent := 8 }), (6, FurlongSt.fresh)], domain := { (wDm st).domain with content := some (bcn, 6, 4990) } }
def wTr06 : State := { wTr 1 with member := .tmn9606, domain := { (wTr 1).domain with content := some ({ bcn with size := 64 }, 6, 4990) } }
def pin : PinSt := ⟨0, 5, 7, 0x10003, 100, []⟩
def wGr : State := hold (wEp 6 false) [(O13.TOPOLOGY, 1)]
def rtItem : Nat × Val := (O08.ROUTE_SUBMIT, .blob (d32 0x00050003 ++ d32 0x00031002 ++ zeros 8))

theorem meets_FurlongsAreDelineatedSealedAndMeasured_1 : ∃ (s : State) (l h : Nat) (b : List Byte), s.UpAt 0x12 l ∧ s.n (O11.LANE_MODE (0x100 + l)) = 5 ∧ s.n (O11.RX_STATE (0x100 + l)) = 3 ∧ (s.furlong l).sync = 0 ∧ (checkHeader (h % 2 ^ 64)).2.1 = true :=
  ⟨wFl 1 FurlongSt.fresh, 5, hMedia, pay, upAt_of (by decide +kernel), (by decide +kernel), (by decide +kernel), (by decide +kernel), (by decide +kernel)⟩

theorem meets_FurlongsAreDelineatedSealedAndMeasured_2 : ∃ (s : State) (l h : Nat) (b : List Byte), s.UpAt 0x12 l ∧ s.n (O11.LANE_MODE (0x100 + l)) = 5 ∧ s.n (O11.RX_STATE (0x100 + l)) = 3 ∧ (s.furlong l).sync = 1 ∧ 5 ≤ (s.furlong l).run ∧ (checkHeader (h % 2 ^ 64)).2.1 = true ∧ s.n (O12.FURLONG_STATE l) = 1 :=
  ⟨wFl 1 { FurlongSt.fresh with sync := 1, run := 5 }, 5, hMedia, pay, upAt_of (by decide +kernel), (by decide +kernel), (by decide +kernel), (by decide +kernel), (by decide +kernel), (by decide +kernel), (by decide +kernel)⟩

theorem meets_FurlongsAreDelineatedSealedAndMeasured_3 : ∃ (s : State) (l h a : Nat) (b : List Byte), s.UpAt 0x12 l ∧ s.n (O11.LANE_MODE (0x100 + l)) = 5 ∧ s.n (O11.RX_STATE (0x100 + l)) = 3 ∧ (s.furlong l).sync = 2 ∧ (s.furlong l).run = 6 ∧ (checkHeader (h % 2 ^ 64)).2.1 = false ∧ (checkHeader (h % 2 ^ 64)).2.2 = false ∧ s.Holds (O12.HEC_ERRORS l) a ∧ a + 1 < 2 ^ bitsOf (O12.HEC_ERRORS l) :=
  ⟨wFl 1 { FurlongSt.fresh with sync := 2, run := 6 }, 5, hBad, 3, pay, upAt_of (by decide +kernel), (by decide +kernel), (by decide +kernel), (by decide +kernel), (by decide +kernel), (by decide +kernel), (by decide +kernel), (by unfold State.Holds; decide +kernel), (by decide +kernel)⟩

theorem meets_FurlongsAreDelineatedSealedAndMeasured_4 : ∃ (s : State) (l h a : Nat) (b : List Byte), s.UpAt 0x12 l ∧ s.n (O11.LANE_MODE (0x100 + l)) = 5 ∧ s.n (O11.RX_STATE (0x100 + l)) = 3 ∧ (s.furlong l).sync = 2 ∧ (checkHeader (h % 2 ^ 64)).2.1 = true ∧ field h 63 60 = 2 ∧ pcrc (padTo 128 b) ≠ field h 19 8 ∧ s.Holds (O12.PCRC_ERRORS l) a ∧ a + 1 < 2 ^ bitsOf (O12.PCRC_ERRORS l) :=
  ⟨wFl 1 { FurlongSt.fresh with sync := 2 }, 5, hWrong, 3, pay, upAt_of (by decide +kernel), (by decide +kernel), (by decide +kernel), (by decide +kernel), (by decide +kernel), (by decide +kernel), (by decide +kernel), (by unfold State.Holds; decide +kernel), (by decide +kernel)⟩

theorem meets_FurlongsAreDelineatedSealedAndMeasured_5 : ∃ (s : State) (l h : Nat) (b : List Byte), s.UpAt 0x12 l ∧ h < 2 ^ 64 ∧ s.n (O11.LANE_MODE (0x100 + l)) = 5 ∧ s.n (O11.RX_STATE (0x100 + l)) = 3 ∧ (s.furlong l).sync = 2 ∧ (checkHeader h).2.1 = true ∧ 1 ≤ field h 63 60 ∧ field h 63 60 ≤ 4 ∧ pcrc (padTo 128 b) = field h 19 8 ∧ s.b (O12.TRUNK_SECURE l) = true :=
  ⟨wFlS 1 { FurlongSt.fresh with sync := 2, rxCells := [(9, pay)] }, 5, hMedia, pay, upAt_of (by decide +kernel), (by decide +kernel), (by decide +kernel), (by decide +kernel), (by decide +kernel), (by decide +kernel), (by decide +kernel), (by decide +kernel), (by decide +kernel), (by decide +kernel)⟩

theorem meets_FurlongsAreDelineatedSealedAndMeasured_6 : ∃ (s : State) (l : Nat) (b : List Byte) (k : List Byte × List Nat), s.UpAt 0x12 l ∧ s.b (O12.TRUNK_SECURE l) = true ∧ b.length = 128 ∧ (b.getD 9 0).toNat < 2 ∧ SMap.find? (s.furlong l).keys (2 + (b.getD 9 0).toNat) = some k ∧ (b.getD 8 0).toNat = (s.furlong l).rxCells.length ∧ Config.gcmTag k.1 (sealIv (natBE (b.take 8))) ((s.furlong l).rxCells.flatMap fun c => sealAad c.1) ((s.furlong l).rxCells.flatMap (·.2)) % 2 ^ 128 = natBE (slice b 16 16) :=
  ⟨wSealGood, 5, sealPay, (sealKey, [1]), upAt_of (by decide +kernel), (by decide +kernel), (by decide +kernel), (by decide +kernel), (by decide +kernel), (by decide +kernel), sealTag⟩

theorem meets_FurlongsAreDelineatedSealedAndMeasured_7 : ∃ (s : State) (l a : Nat) (b : List Byte), s.UpAt 0x12 l ∧ s.b (O12.TRUNK_SECURE l) = true ∧ b.length = 128 ∧ SMap.find? (s.furlong l).keys (2 + (b.getD 9 0).toNat) = none ∧ s.Holds (O12.SEAL_FAILURES l) a ∧ a + 1 < 2 ^ bitsOf (O12.SEAL_FAILURES l) :=
  ⟨wFlS 3 { FurlongSt.fresh with rxCells := [(hMedia, pay)] }, 5, 3, pay, upAt_of (by decide +kernel), (by decide +kernel), (by decide +kernel), (by decide +kernel), (by unfold State.Holds; decide +kernel), (by decide +kernel)⟩

theorem meets_FurlongsAreDelineatedSealedAndMeasured_8 : ∃ (s : State) (l x y : Nat) (b : List Byte), s.UpAt 0x12 l ∧ s.b (O12.TRUNK_SECURE l) = true ∧ b.length = 128 ∧ SMap.find? (s.furlong l).keys (2 + (b.getD 9 0).toNat) = none ∧ (s.furlong l).rxCells = [] ∧ (s.furlong l).fails = [x, y] ∧ s.now < x + 192 ∧ s.now < y + 192 ∧ s.n (O12.FURLONG_STATE l) = 3 :=
  ⟨wFlS 3 { FurlongSt.fresh with fails := [999999, 999900] }, 5, 999999, 999900, pay, upAt_of (by decide +kernel), (by decide +kernel), (by decide +kernel), (by decide +kernel), (by decide +kernel), (by decide +kernel), (by decide +kernel), (by decide +kernel), (by decide +kernel)⟩

theorem meets_FurlongsAreDelineatedSealedAndMeasured_9 : ∃ (s : State) (l d : Nat), s.UpAt 0x12 l ∧ s.n (O12.FURLONG_STATE l) = 2 ∧ 192 ≤ (s.furlong l).beacons ∧ (s.furlong l).foreign = false ∧ s.meanDelay l = d ∧ d ≤ 20000 ∧ s.b (O12.TRUNK_SECURE l) = false :=
  ⟨wFl 2 { FurlongSt.fresh with beacons := 192, sender := 2, lane := 11, delaySum := 800000, delayN := 100 }, 5, 8000, upAt_of (by decide +kernel), (by decide +kernel), (by decide +kernel), (by decide +kernel), (by decide +kernel), (by decide +kernel), (by decide +kernel)⟩

theorem meets_FurlongsAreDelineatedSealedAndMeasured_10 : ∃ (s : State) (l d : Nat) (fits : Bool), s.UpAt 0x12 l ∧ s.n (O12.FURLONG_STATE l) = 2 ∧ 192 ≤ (s.furlong l).beacons ∧ (s.furlong l).foreign = false ∧ s.meanDelay l = d ∧ (20000 < d ∨ (s.b (O12.TRUNK_SECURE l) = true ∧ s.trunkKeyed l = false)) :=
  ⟨wFl 2 { FurlongSt.fresh with beacons := 192, delaySum := 8000000, delayN := 100 }, 5, 80000, true, upAt_of (by decide +kernel), (by decide +kernel), (by decide +kernel), (by decide +kernel), (by decide +kernel), (by decide +kernel)⟩

theorem meets_FurlongsAreDelineatedSealedAndMeasured_11 : ∃ (s : State) (l : Nat) (fits : Bool), s.UpAt 0x12 l ∧ s.n (O12.FURLONG_STATE l) = 2 ∧ 192 ≤ (s.furlong l).beacons ∧ (s.furlong l).foreign = true :=
  ⟨wFl 2 { FurlongSt.fresh with beacons := 193, foreign := true }, 5, true, upAt_of (by decide +kernel), (by decide +kernel), (by decide +kernel), (by decide +kernel)⟩

theorem meets_FurlongsAreDelineatedSealedAndMeasured_12 : ∃ (s : State) (l : Nat), s.UpAt 0x12 l ∧ s.n (O12.FURLONG_STATE l) = 3 ∧ (s.trunkUp l = false ∨ 4 ≤ (s.furlong l).missed) :=
  ⟨wFl 3 { FurlongSt.fresh with sync := 2, missed := 4 }, 5, upAt_of (by decide +kernel), (by decide +kernel), (by decide +kernel)⟩

theorem meets_FurlongsAreDelineatedSealedAndMeasured_13 : ∃ (s : State) (l : Nat), s.UpAt 0x12 l ∧ s.n (O12.FURLONG_STATE l) = 4 ∧ (s.furlong l).faultAt + 192000 ≤ s.now :=
  ⟨wFl 4 { FurlongSt.fresh with sync := 2, faultAt := 5 }, 5, upAt_of (by decide +kernel), (by decide +kernel), (by decide +kernel)⟩

theorem meets_FurlongsAreDelineatedSealedAndMeasured_14 : ∃ (s : State) (l : Nat) (v : List Byte) (o : Opened), s.UpAt 0x12 l ∧ s.served = true ∧ 4 < v.length ∧ v.length ≤ 516 ∧ natBE (slice v 2 2) = v.length - 4 ∧ v.getD 0 0 = 1 ∧ (v.getD 1 0).toNat < 2 ∧ s.installBlob (v.drop 4) 2 l 1 = .ok o :=
  ⟨kFl, 5, vTk kFl, kOpen kFl 2 5, upAt_of (by decide +kernel), (by decide +kernel), (by decide +kernel), (by decide +kernel), (by decide +kernel), (by decide +kernel), (by decide +kernel), (installBlob_k (s := kFl) rfl rfl (by decide) rfl rfl (by decide) (by decide) (by decide) (by decide) (by decide))⟩

theorem meets_FurlongsAreDelineatedSealedAndMeasured_15 : ∃ (s : State) (l slot : Nat), s.UpAt 0x12 l ∧ s.served = true ∧ slot < 2 :=
  ⟨up, 5, 1, upAt_of (by decide +kernel), (by decide +kernel), (by decide +kernel)⟩

theorem meets_BeaconsKeepAFurlongAndCarryContent_1 : ∃ (s : State) (l rx : Nat) (b : List Byte), s.UpAt 0x12 l ∧ s.n (O12.FURLONG_STATE l) = 2 ∧ b.length = 128 ∧ (beaconOf b).sender = (s.furlong l).sender ∧ (beaconOf b).lane = (s.furlong l).lane :=
  ⟨wBc 2 same, 5, 12345, bcn.bytes, upAt_of (by decide +kernel), (by decide +kernel), (by decide +kernel), (by decide +kernel), (by decide +kernel)⟩

theorem meets_BeaconsKeepAFurlongAndCarryContent_2 : ∃ (s : State) (l rx : Nat) (b : List Byte), s.UpAt 0x12 l ∧ s.n (O12.FURLONG_STATE l) = 3 ∧ b.length = 128 ∧ ((beaconOf b).sender ≠ (s.furlong l).sender ∨ (beaconOf b).lane ≠ (s.furlong l).lane) :=
  ⟨wBc 3 { same with sender := 77 }, 5, 12345, bcn.bytes, upAt_of (by decide +kernel), (by decide +kernel), (by decide +kernel), (by decide +kernel)⟩

theorem meets_BeaconsKeepAFurlongAndCarryContent_3 : ∃ (s : State) (l rx : Nat) (b : List Byte), s.UpAt 0x12 l ∧ s.n (O12.FURLONG_STATE l) = 3 ∧ b.length = 128 ∧ (beaconOf b).sender = (s.furlong l).sender ∧ (beaconOf b).lane = (s.furlong l).lane ∧ s.b O13.DOMAIN_ENABLE = true ∧ (s.furlong l).unfit = false ∧ (beaconOf b).domain = s.n O13.DOMAIN_ID ∧ (beaconOf b).master ≠ 0xFFFF ∧ bit (beaconOf b).flags 2 = false ∧ (beaconOf b).master ≠ s.n O13.DEVICE_ID ∧ (s.domainState = 3 ∨ s.domainState = 4 ∨ s.domainState = 5) ∧ s.n O13.MASTER_DEVICE = (beaconOf b).master ∧ s.newerContent (beaconOf b) l = true :=
  ⟨wBc 3 same, 5, 12345, bcn.bytes, upAt_of (by decide +kernel), (by decide +kernel), (by decide +kernel), (by decide +kernel), (by decide +kernel), (by decide +kernel), (by decide +kernel), (by decide +kernel), (by decide +kernel), (by decide +kernel), (by decide +kernel), (by decide +kernel), (by decide +kernel), (by decide +kernel)⟩

theorem meets_DevicesFormJoinAndLeaveDomains_1 : ∃ (s : State) (a p own : Nat), s.Up ∧ s.domain.seekSince = some a ∧ s.domainState = 1 ∧ s.n O13.MASTER_PRIORITY = p ∧ 0 < p ∧ a + s.n O13.FORM_WAIT + 64 * (255 - p) ≤ s.now ∧ s.n O13.DEVICE_ID = own ∧ own < 1024 :=
  ⟨wDm 1, 3, 200, 8, up_of (by decide +kernel), (by decide +kernel), (by decide +kernel), (by decide +kernel), (by decide +kernel), (by decide +kernel), (by decide +kernel), (by decide +kernel)⟩

theorem meets_DevicesFormJoinAndLeaveDomains_2 : ∃ (s : State), s.Up ∧ (s.domainState = 3 ∨ s.domainState = 4) ∧ 192 ≤ s.n O13.MISSED_BEACONS :=
  ⟨wDm 3, up_of (by decide +kernel), (.inl (by decide +kernel)), (by decide +kernel)⟩

theorem meets_DevicesFormJoinAndLeaveDomains_3 : ∃ (s : State) (own : Nat), s.Up ∧ s.domainState = 5 ∧ 48 ≤ s.n O13.MISSED_BEACONS ∧ s.tooLarge = false ∧ s.n O13.DEVICE_ID = own ∧ own < 1024 :=
  ⟨wDm 5, 8, up_of (by decide +kernel), (by decide +kernel), (by decide +kernel), (by decide +kernel), (by decide +kernel), (by decide +kernel)⟩

theorem meets_DevicesFormJoinAndLeaveDomains_4 : ∃ (s : State), s.Up ∧ s.domainState = 5 ∧ 48 ≤ s.n O13.MISSED_BEACONS ∧ s.n O13.MISSED_BEACONS < 192 ∧ s.tooLarge = true :=
  ⟨wBig, up_of (by decide +kernel), (by decide +kernel), (by decide +kernel), (by decide +kernel), (by decide +kernel)⟩

theorem meets_DevicesFormJoinAndLeaveDomains_5 : ∃ (s : State) (d : Nat) (m : MemberSt), s.Up ∧ s.served = true ∧ s.domainState = 6 ∧ SMap.find? s.domain.members d = some m ∧ 0 < m.priority ∧ d ≠ s.n O13.DEVICE_ID ∧ (s.n (O13.MEMBER_STATE (0x100 + d)) = 2 ∨ s.n (O13.MEMBER_STATE (0x100 + d)) = 3) ∧ (s.n (O13.MEMBER_VARIANT (0x100 + d)) ≠ 3 ∨ s.n O13.DOMAIN_SIZE ≤ 64) :=
  ⟨wDm 6, 5, ⟨90, 3⟩, up_of (by decide +kernel), (by decide +kernel), (by decide +kernel), (by decide +kernel), (by decide +kernel), (by decide +kernel), (.inl (by decide +kernel)), (.inl (by decide +kernel))⟩

theorem meets_DevicesFormJoinAndLeaveDomains_6 : ∃ (s : State) (d v p e lin h age l : Nat), s.Up ∧ s.domainState = 6 ∧ d < 1024 ∧ d ≠ s.n O13.DEVICE_ID ∧ s.n (O13.MEMBER_STATE (0x100 + d)) = 0 ∧ s.n O13.DOMAIN_SIZE < s.domainLimit v ∧ h ≤ 6 ∧ age ≤ 14 ∧ s.childLanes = [l] ∧ s.b (O12.TRUNK_SECURE l) = false :=
  ⟨wTr 6, 9, 1, 60, 7, 8, 6, 14, 4, up_of (by decide +kernel), (by decide +kernel), (by decide +kernel), (by decide +kernel), (by decide +kernel), (by decide +kernel), (by decide +kernel), (by decide +kernel), (by decide +kernel), (by decide +kernel)⟩

theorem meets_DevicesFormJoinAndLeaveDomains_7 : ∃ (s : State) (d v p e lin h age l : Nat), s.Up ∧ s.domainState = 6 ∧ d < 1024 ∧ d ≠ s.n O13.DEVICE_ID ∧ s.n (O13.MEMBER_STATE (0x100 + d)) = 0 ∧ s.n O13.DOMAIN_SIZE < s.domainLimit v ∧ (6 < h ∨ 14 < age) ∧ s.childLanes = [l] ∧ s.b (O12.TRUNK_SECURE l) = false :=
  ⟨wTr 6, 9, 1, 60, 7, 8, 6, 15, 4, up_of (by decide +kernel), (by decide +kernel), (by decide +kernel), (by decide +kernel), (by decide +kernel), (by decide +kernel), (.inr (by decide +kernel)), (by decide +kernel), (by decide +kernel)⟩

theorem meets_DevicesFormJoinAndLeaveDomains_8 : ∃ (s : State) (d e size backup : Nat), s.Up ∧ s.n O13.DEVICE_ID = d ∧ s.domainState = 2 ∧ s.n O13.LAST_EPOCH = e :=
  ⟨wDm 2, 8, 7, 4, 3, up_of (by decide +kernel), (by decide +kernel), (by decide +kernel), (by decide +kernel)⟩

theorem meets_DevicesFormJoinAndLeaveDomains_9 : ∃ (s : State) (d e size backup : Nat), s.Up ∧ s.n O13.DEVICE_ID = d ∧ s.domainState = 2 ∧ s.n O13.LAST_EPOCH < e ∧ s.domain.lineage = s.n O13.MASTER_DEVICE ∧ e ≤ s.n O13.LAST_EPOCH + 4096 :=
  ⟨wDm 2, 8, 4103, 4, 3, up_of (by decide +kernel), (by decide +kernel), (by decide +kernel), (by decide +kernel), (by decide +kernel), (by decide +kernel)⟩

theorem meets_DevicesFormJoinAndLeaveDomains_10 : ∃ (s : State) (d st : Nat), s.Up ∧ s.n O13.DEVICE_ID = d ∧ s.domainState = 2 :=
  ⟨wDm 2, 8, 7, up_of (by decide +kernel), (by decide +kernel), (by decide +kernel)⟩

theorem meets_DevicesFormJoinAndLeaveDomains_11 : ∃ (s : State) (d st l : Nat), s.Up ∧ s.n O13.DEVICE_ID ≠ d ∧ d ≠ 0xFFFF ∧ s.domainState ≠ 6 ∧ s.childLanes = [l] ∧ s.b (O12.TRUNK_SECURE l) = false :=
  ⟨wTr 4, 9, 7, 4, up_of (by decide +kernel), (by decide +kernel), (by decide +kernel), (by decide +kernel), (by decide +kernel), (by decide +kernel)⟩

theorem meets_DevicesFormJoinAndLeaveDomains_12 : ∃ (s : State) (a l at_ own : Nat) (b : Beacon), s.Up ∧ s.domain.retryAt = some a ∧ s.domainState = 1 ∧ a + 192000 ≤ s.now ∧ s.n O13.MASTER_DEVICE ≠ 0xFFFF ∧ s.n O13.DEVICE_ID = own ∧ s.domain.content = some (b, l, at_) ∧ s.furlongUp l = true ∧ (s.member ≠ .tmn9606 ∨ b.size < 64) ∧ s.b (O12.TRUNK_SECURE l) = false :=
  ⟨wTr 1, 4, 6, 4990, 8, bcn, up_of (by decide +kernel), (by decide +kernel), (by decide +kernel), (by decide +kernel), (by decide +kernel), (by decide +kernel), (by decide +kernel), (by decide +kernel), (.inr (by decide +kernel)), (by decide +kernel)⟩

theorem meets_DevicesFormJoinAndLeaveDomains_13 : ∃ (s : State) (a l at_ : Nat) (b : Beacon), s.Up ∧ s.domain.retryAt = some a ∧ s.domainState = 1 ∧ a + 192000 ≤ s.now ∧ s.n O13.MASTER_DEVICE ≠ 0xFFFF ∧ s.domain.content = some (b, l, at_) ∧ s.member = .tmn9606 ∧ 64 ≤ b.size :=
  ⟨wTr06, 4, 6, 4990, { bcn with size := 64 }, up_of (by decide +kernel), (by decide +kernel), (by decide +kernel), (by decide +kernel), (by decide +kernel), (by decide +kernel), (by decide +kernel), (by decide +kernel)⟩

theorem meets_DevicesFormJoinAndLeaveDomains_14 : ∃ (s : State) (d : Nat), s.Up ∧ (s.domainState = 5 ∨ s.domainState = 6) ∧ d < 1024 ∧ SMap.rising s.domain.members = true :=
  ⟨wDm 6, 5, up_of (by decide +kernel), (.inr (by decide +kernel)), (by decide +kernel), (by decide +kernel)⟩

theorem meets_EpochsArePreparedAppliedAndAborted_1 : ∃ (s : State) (d sess tx act : Nat) (items : List (Nat × Val)) (g : Graph) (media : List (Nat × Nat × Nat)) (plan : Plan) (keep pins : List PinSt) (l : List Nat), s.Up ∧ s.domainState = 6 ∧ sess ≠ 0xFFFF ∧ (s.pinned.filter fun p => !((State.itemPins items media).any fun r => r.kind == p.kind && r.ddev == p.ddev && r.dst == p.dst)) = keep ∧ placePins (s.allowedPaths g) keep (inPlaceOrder (State.itemPins items media)) = some pins ∧ inDeviceOrder (items.map (itemDevice d) ++ items.flatMap routeDevices ++ pins.flatMap fun p => p.ddev :: p.path.flatMap fun h => [h.1, h.2.2.1]) = l ∧ s.n O13.DEVICE_ID ∉ l ∧ (l.all fun x => s.n (O13.MEMBER_STATE (0x100 + x)) == 2 || s.n (O13.MEMBER_STATE (0x100 + x)) == 3) = true ∧ act ≠ 0 ∧ s.tick64 + s.n O13.DOMAIN_LEAD_MIN ≤ act ∧ s.epochTicks.all (State.apart act) = true :=
  ⟨wGr, 5, 2, 10, 5020, [rtItem], ⟨[(3, 1, 5, 2)], []⟩, [(5, 3, 100)], Plan.empty, [], [⟨0, 5, 3, 0x31002, 100, [(3, 1, 5, 2)]⟩], [3, 5], up_of (by decide +kernel), (by decide +kernel), (by decide +kernel), (by decide +kernel), (by decide +kernel), (by decide +kernel), (by decide +kernel), (by decide +kernel), (by decide +kernel), (by decide +kernel), (by decide +kernel)⟩

theorem meets_EpochsArePreparedAppliedAndAborted_2 : ∃ (s : State) (d sess tx act : Nat) (items : List (Nat × Val)) (g : Graph) (media : List (Nat × Nat × Nat)) (plan : Plan), s.Up ∧ s.domainState ≠ 6 ∧ sess ≠ 0xFFFF :=
  ⟨wEp 5 false, 5, 2, 10, 5020, [], ⟨[], []⟩, [], Plan.empty, up_of (by decide +kernel), (by decide +kernel), (by decide +kernel)⟩

theorem meets_EpochsArePreparedAppliedAndAborted_3 : ∃ (s : State) (own e act mode m l : Nat) (items : List (Nat × Val)) (plan : Plan) (u : State), s.Up ∧ s.n O13.DEVICE_ID = own ∧ (s.domainState = 3 ∨ s.domainState = 4 ∨ s.domainState = 5) ∧ (s.domain.parts.any fun p => p.epoch == e) = false ∧ s.n O13.MASTER_DEVICE = m ∧ m ≠ own ∧ s.tick64 + 16 < act ∧ s.commitTx (Tx.blank (.domain e) items) act plan none = (u, PENDING) ∧ u.parentLane = some l ∧ u.n O13.MASTER_DEVICE = m ∧ u.b (O12.TRUNK_SECURE l) = false :=
  ⟨wTr 4, 8, 8, 6000, 0, 3, 6, [], Plan.empty, ((wTr 4).commitTx (Tx.blank (.domain 8) []) 6000 Plan.empty none).1, up_of (by decide +kernel), (by decide +kernel), (by decide +kernel), (by decide +kernel), (by decide +kernel), (by decide +kernel), (by decide +kernel), (Prod.ext rfl (by decide +kernel)), (by decide +kernel), (by decide +kernel), (by decide +kernel)⟩

theorem meets_EpochsArePreparedAppliedAndAborted_4 : ∃ (s : State) (own e act mode m l : Nat) (items : List (Nat × Val)) (plan : Plan), s.Up ∧ s.n O13.DEVICE_ID = own ∧ (s.domainState = 3 ∨ s.domainState = 4 ∨ s.domainState = 5) ∧ (s.domain.parts.any fun p => p.epoch == e) = false ∧ s.n O13.MASTER_DEVICE = m ∧ m ≠ own ∧ act ≤ s.tick64 + 16 ∧ s.parentLane = some l ∧ s.b (O12.TRUNK_SECURE l) = false :=
  ⟨wTr 4, 8, 8, 5016, 0, 3, 6, [], Plan.empty, up_of (by decide +kernel), (by decide +kernel), (by decide +kernel), (by decide +kernel), (by decide +kernel), (by decide +kernel), (by decide +kernel), (by decide +kernel), (by decide +kernel)⟩

theorem meets_EpochsArePreparedAppliedAndAborted_5 : ∃ (s : State) (own e act mode d : Nat) (items : List (Nat × Val)), s.Up ∧ s.n O13.DEVICE_ID = own ∧ s.domainState = 5 ∧ s.epoch? e = none :=
  ⟨wEp 5 true, 8, 8, 6000, 0, 5, [], up_of (by decide +kernel), (by decide +kernel), (by decide +kernel), (by decide +kernel)⟩

theorem meets_EpochsArePreparedAppliedAndAborted_6 : ∃ (s : State) (own e act mode d : Nat) (items : List (Nat × Val)) (x : EpochSt), s.Up ∧ s.n O13.DEVICE_ID = own ∧ s.domainState = 5 ∧ s.epoch? e = some x :=
  ⟨wEp 5 true, 8, 7, 4000, 0, 5, [], ep true, up_of (by decide +kernel), (by decide +kernel), (by decide +kernel), (by decide +kernel)⟩

theorem meets_EpochsArePreparedAppliedAndAborted_7 : ∃ (s : State) (e d : Nat) (x : EpochSt), s.Up ∧ s.domainState = 6 ∧ s.epoch? e = some x ∧ d ∉ x.prepared :=
  ⟨wEp 6 false, 7, 5, ep false, up_of (by decide +kernel), (by decide +kernel), (by decide +kernel), (by decide +kernel)⟩

theorem meets_EpochsArePreparedAppliedAndAborted_8 : ∃ (s : State) (e d l : Nat), s.Up ∧ s.domainState ≠ 6 ∧ s.parentLane = some l ∧ s.b (O12.TRUNK_SECURE l) = false :=
  ⟨wTr 4, 7, 5, 6, up_of (by decide +kernel), (by decide +kernel), (by decide +kernel), (by decide +kernel)⟩

theorem meets_EpochsArePreparedAppliedAndAborted_9 : ∃ (s : State) (e d st last : Nat) (x : EpochSt), s.Up ∧ s.domainState = 6 ∧ s.epoch? e = some x ∧ (x.refused.any fun f => f.1 == d) = false ∧ last ≠ 0 :=
  ⟨wEp 6 false, 7, 5, 7, 33, ep false, up_of (by decide +kernel), (by decide +kernel), (by decide +kernel), (by decide +kernel), (by decide +kernel)⟩

theorem meets_EpochsArePreparedAppliedAndAborted_10 : ∃ (s : State) (e d tick : Nat) (x : EpochSt), s.Up ∧ s.domainState = 6 ∧ s.epoch? e = some x ∧ d ∉ x.applied ∧ x.act ≤ tick ∧ d < 1024 :=
  ⟨wEp 6 false, 7, 5, 4000, ep false, up_of (by decide +kernel), (by decide +kernel), (by decide +kernel), (by decide +kernel), (by decide +kernel), (by decide +kernel)⟩

theorem meets_EpochsArePreparedAppliedAndAborted_11 : ∃ (s : State) (e d c : Nat) (x : EpochSt), s.Up ∧ s.domainState = 6 ∧ s.epoch? e = some x ∧ 1 ≤ c ∧ c ≤ 6 ∧ (x.failed.any fun f => f.1 == d) = false :=
  ⟨wEp 6 false, 7, 5, 6, ep false, up_of (by decide +kernel), (by decide +kernel), (by decide +kernel), (by decide +kernel), (by decide +kernel), (by decide +kernel)⟩

theorem meets_EpochsArePreparedAppliedAndAborted_12 : ∃ (s : State) (e d : Nat) (x : EpochSt), s.Up ∧ s.domainState = 6 ∧ s.epoch? e = some x ∧ x.act + 192000 ≤ s.tick64 ∧ d ∉ x.applied ∧ ((x.failed ++ x.refused).any fun f => f.1 == d) = false ∧ (x.parts.any fun p => p.1 == d) = true ∧ d < 1024 :=
  ⟨wEpLate, 7, 5, ep false, up_of (by decide +kernel), (by decide +kernel), (by decide +kernel), (by decide +kernel), (by decide +kernel), (by decide +kernel), (by decide +kernel), (by decide +kernel)⟩

theorem meets_EpochsArePreparedAppliedAndAborted_13 : ∃ (s : State) (own e c : Nat) (x : EpochSt), s.Up ∧ s.n O13.DEVICE_ID = own ∧ s.epoch? e = some x ∧ x.copy = true ∧ (s.domain.parts.any fun p => p.epoch == e) = false :=
  ⟨wEp 5 true, 8, 7, 3, ep true, up_of (by decide +kernel), (by decide +kernel), (by decide +kernel), (by decide +kernel), (by decide +kernel)⟩

theorem meets_EpochsArePreparedAppliedAndAborted_14 : ∃ (s : State) (own e c : Nat) (p : PartSt) (x : Tx), s.Up ∧ s.n O13.DEVICE_ID = own ∧ s.epoch? e = none ∧ s.domainState = 4 ∧ (s.domain.parts.find? fun q => q.epoch == e && !q.go) = some p ∧ (s.pendingTxs.find? fun y => y.order == p.tx) = some x :=
  ⟨wPart, 8, 7, 1, ⟨7, 9000, 44, 3, false⟩, { Tx.blank (.domain 7) [] with order := 44 }, up_of (by decide +kernel), (by decide +kernel), (by decide +kernel), (by decide +kernel), (by decide +kernel), (by decide +kernel)⟩

theorem meets_EpochsArePreparedAppliedAndAborted_15 : ∃ (s : State) (dest src si di sp dp pr : Nat) (cs : List Nat) (b : List Byte), s.Up ∧ s.n O13.DEVICE_ID = dest :=
  ⟨wDm 4, 8, 1, 2, 3, 4, 5, 6, [], [1, 2], up_of (by decide +kernel), (by decide +kernel)⟩

theorem meets_EpochsArePreparedAppliedAndAborted_16 : ∃ (s : State) (dest src si di sp dp pr c : Nat) (cs l : List Nat) (b : List Byte), s.Up ∧ s.n O13.DEVICE_ID ≠ dest ∧ (s.trunks.filter fun k => cs.contains k && s.furlongUp k && !(s.furlong k).unfit) = l ∧ l ≠ [] ∧ l.getD (hashIndex s.domain.seed [si, di, sp * 65536 + dp, pr] l.length) 0 = c ∧ 20 ≤ b.length ∧ b.length ≤ 1500 ∧ ((s.furlong c).relay.map fun e => e.2.length - 4).foldl (· + ·) 0 + b.length ≤ 262144 :=
  ⟨wRel15, 9, 1, 2, 3, 4, 5, 6, 5, [5, 6], [5], zeros 20, up_of (by decide +kernel), (by decide +kernel), (by decide +kernel), (by decide +kernel), (by decide +kernel), (by decide +kernel), (by decide +kernel), (by decide +kernel)⟩

theorem meets_EpochsArePreparedAppliedAndAborted_17 : ∃ (s : State) (a : Nat), s.Up ∧ s.domain.reseedAt = none ∧ (s.domain.sets.all fun e => decide (e.2 < 1000)) = false ∧ s.Holds O13.HASH_RESEEDS a ∧ a + 1 < 2 ^ bitsOf O13.HASH_RESEEDS ∧ s.chain.cur.isSome = true ∧ s.n O01.SHADOW_STATE = 3 :=
  ⟨{ wSeed with domain := { (wDm 4).domain with reseedAt := none, sets := [([4, 6], 1000)] } }, 4, up_of (by decide +kernel), (by decide +kernel), (by decide +kernel), (by unfold State.Holds; decide +kernel), (by decide +kernel), (by decide +kernel), (by decide +kernel)⟩

end C15

namespace C16

def tcv : Nat := 0x01020304
def wCue (c : CueSt → CueSt) : State := { hold up [(O14.CE_STATE 5, 1), (O14.ACTIONS 5, 3), (O14.ACTION_ERRORS 5, 2), (O14.CUE_FLAGS 5, 0xF0), (O14.CE_ROLE 5, 1), (O16.GPIO_MODE 0x107, 1), (O16.GPIO_LEVEL 0x107, 1), (O01.CHAIN_STATE, 0)] with cues := c up.cues, tick := { up.tick with tick := 5000#64, clock := 9000 } }
def actNone : List Byte := zeros 64
def qd : CueAct := ⟨5, 9, 8000, actNone, false⟩
def wWr (fz : Nat) : State := hold (wCue fun c => { c with writes := [(5, 9, O08.PROTECT 3, 8000, [1])] }) [(O17.MASTER_STATE 0x105, fz)]
def wSac (c : CueSt → CueSt) : State := { hold up [(O0E.RX_STATE 8, 2), (O0E.ESSENCE 8, 5), (O0E.RX_UDP 8, 5568), (O15.UNIV_ENABLE 6, 1), (O15.UNIV_NUMBER 6, 77), (O15.PKTS_IN 6, 3), (O15.PKTS_DISCARDED 6, 3), (O15.PKTS_OUT 6, 3), (O0D.SEND_STATE 4, 2), (O15.TX_PERIOD 6, 500), (O15.UNIV_TX_SENDER 6, 4), (O15.UNIV_SLOTS 6, 3), (O15.DISC_SENDER, 4)] with cues := c up.cues, tick := { up.tick with tick := 5000#64, clock := 9000000 } }
def cidA : List Byte := zeros 15 ++ [7]
def pk : SacnPkt := ⟨true, false, cidA, 100, 77, 5, false, false, 0, [1, 2, 3], [], 0, 0, []⟩
def srcA : SacnSrc := ⟨cidA, 100, [9], 3, 8000000⟩
def wDmx (mode st : Nat) (x : DmxIn) : State := { hold up [(O15.DMX_MODE 0x403, mode), (O15.DMX_STATE 0x403, st), (O15.DMX_UNIVERSE 0x403, 6), (O15.DMX_PERIOD 0x403, 5000), (O15.DMX_PHASE 0x403, 0), (O15.DMX_PACKETS 0x403, 3), (O15.DMX_ERRORS 0x403, 3), (O15.DMX_LOSS 0x403, 1000), (O15.UNIV_SLOTS 6, 3)] with cues := { up.cues with dmxIn := [(3, x)] }, tick := { up.tick with tick := 5000#64, clock := 9000000 } }
def wTc (st : Nat) (x : ReaderSt) : State := { hold up [(O16.TC_STATE 2, st), (O16.TC_RATE 2, 1), (O16.TC_VALUE 2, tcv), (O16.TC_BITS 2, 0), (O16.FREEWHEEL_FRAMES 2, 2), (O16.TC_ENABLE 2, 1)] with cues := { up.cues with readers := [(2, x)] }, tick := { up.tick with tick := 50000#64, clock := 90000 } }
def wGen (mode valid : Nat) : State := { hold up [(O16.GEN_MODE 0x012, mode), (O16.GEN_RUN 0x012, 1), (O16.GEN_RATE 0x012, 1), (O16.GEN_PRESET 0x012, tcv), (O16.GEN_STATE 0x012, 1), (O01.TIME_VALID, valid), (O16.GEN_FOLLOW 0x012, 2), (O16.TC_STATE 2, 2), (O16.TC_RATE 2, 1), (O16.TC_VALUE 2, tcv), (O16.GEN_VTS 0x012, 3)] with tick := { up.tick with tick := 19200000#64 }, clocks := { up.clocks with synth := [(3, { SynthSt.fresh with index := some 0, pos := 0, corr := 0 })] } }
def wPin (mode : Nat) : State := { hold up [(O16.GPIO_MODE 0x107, mode), (O16.GPIO_LEVEL 0x107, 0), (O16.GPIO_EVENT 0x107, 1), (O16.GPIO_EDGES 0x107, 5), (O16.GPIO_DEBOUNCE 0x107, 3), (O16.GPIO_INVERT 0x107, 1)] with cues := { up.cues with pulses := [(7, (8000, 1))] }, tick := { up.tick with tick := 5000#64, clock := 9000 } }

def act (code : Nat) (args : List Byte) : List Byte := padTo 64 ([0, 0x80, BitVec.ofNat 8 code] ++ zeros 37 ++ args)
def actFl : List Byte := act 1 (d64 0x0F ++ d64 0x30)
def actFd : List Byte := act 4 (d16 6 ++ d16 511 ++ d16 2 ++ d8 255 ++ d8 0 ++ d32 11520000)
def actGp (pin : Nat) : List Byte := act 5 (d16 pin ++ d8 2 ++ d8 0 ++ d32 100)
def actTc (mode : Nat) : List Byte := act 6 (d8 2 ++ d8 mode ++ d16 0 ++ d32 (if mode = 2 then tcv else 0))
def wAct (r : List Byte) : State := wCue fun c => { c with recs := [(5129, r)] }

theorem meets_CueEnginesRunTheirActions_1 : ∃ (s : State) (e n : Nat) (a : CueAct), s.UpAt 0x14 e ∧ s.n (O14.CE_STATE e) = 1 ∧ SMap.getD s.cues.count e 0 < 64 ∧ (s.dueAction e fun _ => true) = some a ∧ s.Holds (O14.ACTIONS e) n ∧ n + 1 < 2 ^ bitsOf (O14.ACTIONS e) :=
  ⟨wCue fun c => { c with queue := [⟨4, 1, 8000, actNone, false⟩, qd] }, 5, 3, qd, upAt_of (by decide +kernel), (by decide +kernel), (by decide +kernel), (by decide +kernel), (by unfold State.Holds; decide +kernel), (by decide +kernel)⟩

theorem meets_CueEnginesRunTheirActions_2 : ∃ (s : State) (e i n : Nat) (r : List Byte), s.UpAt 0x14 e ∧ i < 1024 ∧ s.n (O14.CE_STATE e) = 1 ∧ SMap.getD s.cues.count e 0 < 64 ∧ s.cueRec e i = r ∧ recEnabled r = true ∧ recN r 2 1 = 0 ∧ s.Holds (O14.ACTIONS e) n ∧ n + 1 < 2 ^ bitsOf (O14.ACTIONS e) :=
  ⟨wAct (act 0 []), 5, 9, 3, act 0 [], upAt_of (by decide +kernel), (by decide +kernel), (by decide +kernel), (by decide +kernel), (by decide +kernel), (by decide +kernel), (by decide +kernel), (by unfold State.Holds; decide +kernel), (by decide +kernel)⟩

theorem meets_CueEnginesRunTheirActions_3 : ∃ (s : State) (e i v : Nat) (r : List Byte), s.UpAt 0x14 e ∧ i < 1024 ∧ s.n (O14.CE_STATE e) = 1 ∧ SMap.getD s.cues.count e 0 < 64 ∧ s.cueRec e i = r ∧ recEnabled r = true ∧ recN r 2 1 = 1 ∧ s.n (O14.CUE_FLAGS e) = v :=
  ⟨wAct actFl, 5, 9, 0xF0, actFl, upAt_of (by decide +kernel), (by decide +kernel), (by decide +kernel), (by decide +kernel), (by decide +kernel), (by decide +kernel), (by decide +kernel), (by decide +kernel)⟩

theorem meets_CueEnginesRunTheirActions_4 : ∃ (s : State) (e i j : Nat) (r : List Byte), s.UpAt 0x14 e ∧ i < 1024 ∧ s.n (O14.CE_STATE e) = 1 ∧ SMap.getD s.cues.count e 0 < 64 ∧ s.cueRec e i = r ∧ recEnabled r = true ∧ recN r 2 1 = 4 ∧ j < recN r 44 2 :=
  ⟨wAct actFd, 5, 9, 1, actFd, upAt_of (by decide +kernel), (by decide +kernel), (by decide +kernel), (by decide +kernel), (by decide +kernel), (by decide +kernel), (by decide +kernel), (by decide +kernel)⟩

theorem meets_CueEnginesRunTheirActions_5 : ∃ (s : State) (e i pin old : Nat) (r : List Byte), s.UpAt 0x14 e ∧ i < 1024 ∧ s.n (O14.CE_STATE e) = 1 ∧ SMap.getD s.cues.count e 0 < 64 ∧ s.cueRec e i = r ∧ recEnabled r = true ∧ recN r 2 1 = 5 ∧ recN r 40 2 = pin ∧ 0 < recN r 44 4 ∧ s.n (O16.GPIO_MODE (0x100 + pin)) = 1 ∧ s.pinLevel pin = old :=
  ⟨wAct (actGp 7), 5, 9, 7, 1, actGp 7, upAt_of (by decide +kernel), (by decide +kernel), (by decide +kernel), (by decide +kernel), (by decide +kernel), (by decide +kernel), (by decide +kernel), (by decide +kernel), (by decide +kernel), (by decide +kernel), (by decide +kernel)⟩

theorem meets_CueEnginesRunTheirActions_6 : ∃ (s : State) (e i pin n : Nat) (r : List Byte), s.UpAt 0x14 e ∧ i < 1024 ∧ s.n (O14.CE_STATE e) = 1 ∧ SMap.getD s.cues.count e 0 < 64 ∧ s.cueRec e i = r ∧ recEnabled r = true ∧ recN r 2 1 = 5 ∧ recN r 40 2 = pin ∧ s.n (O16.GPIO_MODE (0x100 + pin)) ≠ 1 ∧ s.Holds (O14.ACTION_ERRORS e) n ∧ n + 1 < 2 ^ bitsOf (O14.ACTION_ERRORS e) :=
  ⟨wAct (actGp 8), 5, 9, 8, 2, actGp 8, upAt_of (by decide +kernel), (by decide +kernel), (by decide +kernel), (by decide +kernel), (by decide +kernel), (by decide +kernel), (by decide +kernel), (by decide +kernel), (by decide +kernel), (by unfold State.Holds; decide +kernel), (by decide +kernel)⟩

theorem meets_CueEnginesRunTheirActions_7 : ∃ (s : State) (e i g : Nat) (r : List Byte), s.UpAt 0x14 e ∧ i < 1024 ∧ s.n (O14.CE_STATE e) = 1 ∧ SMap.getD s.cues.count e 0 < 64 ∧ s.cueRec e i = r ∧ recEnabled r = true ∧ recN r 2 1 = 6 ∧ recN r 40 1 = g ∧ recN r 41 1 = 2 :=
  ⟨wAct (actTc 2), 5, 9, 2, actTc 2, upAt_of (by decide +kernel), (by decide +kernel), (by decide +kernel), (by decide +kernel), (by decide +kernel), (by decide +kernel), (by decide +kernel), (by decide +kernel), (by decide +kernel)⟩

theorem meets_CueEnginesRunTheirActions_8 : ∃ (s : State) (e i g mode : Nat) (r : List Byte), s.UpAt 0x14 e ∧ i < 1024 ∧ s.n (O14.CE_STATE e) = 1 ∧ SMap.getD s.cues.count e 0 < 64 ∧ s.cueRec e i = r ∧ recEnabled r = true ∧ recN r 2 1 = 6 ∧ recN r 40 1 = g ∧ recN r 41 1 = mode ∧ mode < 2 :=
  ⟨wAct (actTc 1), 5, 9, 2, 1, actTc 1, upAt_of (by decide +kernel), (by decide +kernel), (by decide +kernel), (by decide +kernel), (by decide +kernel), (by decide +kernel), (by decide +kernel), (by decide +kernel), (by decide +kernel), (by decide +kernel)⟩

theorem meets_CueEnginesRunTheirActions_9 : ∃ (s : State) (e i : Nat) (plan : Plan) (x : Nat × Nat × Nat × Nat × Nat), s.UpAt 0x14 e ∧ s.served = true ∧ (s.cues.salvos.find? fun y => y.1 == e && y.2.1 == i) = some x ∧ x.2.2.1 < 256 ∧ routesIn 64 (s.bs (O08.SALVO_ROUTES (0x900 + x.2.2.1))) = [] :=
  ⟨wCue fun c => { c with salvos := [(5, 9, 44, 4990, 0)] }, 5, 9, Plan.empty, (5, 9, 44, 4990, 0), upAt_of (by decide +kernel), (by decide +kernel), (by decide +kernel), (by decide +kernel), (by decide +kernel)⟩

theorem meets_CueEnginesRunTheirActions_10 : ∃ (s : State) (e i k : Nat) (plan : Plan) (w : Nat × Nat × Nat × Nat × List Byte) (r : ObjRow) (v : Val), s.UpAt 0x14 e ∧ s.served = true ∧ s.frozen 5 0 = false ∧ s.cues.writes = [w] ∧ w.1 = e ∧ w.2.1 = i ∧ w.2.2.1 = k ∧ (clsOf k = 0x08 ∨ clsOf k = 0x0F) ∧ ownKey k = false ∧ s.cueValue e k w.2.2.2.2 = .ok (r, v) ∧ r.acc = .W ∧ s.itemStatus k v = OK :=
  ⟨wWr 0, 5, 9, O08.PROTECT 3, Plan.empty, (5, 9, O08.PROTECT 3, 8000, [1]), ⟨0x08, [(0x0, 0xBF), (0x100, 0x8FF)], 0x006, 1, false, .bool, .W, 3, .num 0, .u 0 1, false⟩, .num 1, upAt_of (by decide +kernel), (by decide +kernel), (by decide +kernel), (by decide +kernel), (by decide +kernel), (by decide +kernel), (by decide +kernel), (by decide +kernel), (by decide +kernel), (by decide +kernel), (by decide +kernel), (by decide +kernel)⟩

theorem meets_CueEnginesRunTheirActions_11 : ∃ (s : State) (e n : Nat) (plan : Plan) (w : Nat × Nat × Nat × Nat × List Byte), s.UpAt 0x14 e ∧ s.served = true ∧ s.frozen 5 0 = true ∧ s.cues.writes = [w] ∧ w.1 = e ∧ s.Holds (O14.ACTION_ERRORS e) n ∧ n + 1 < 2 ^ bitsOf (O14.ACTION_ERRORS e) :=
  ⟨wWr 1, 5, 2, Plan.empty, (5, 9, O08.PROTECT 3, 8000, [1]), upAt_of (by decide +kernel), (by decide +kernel), (by decide +kernel), (by decide +kernel), (by decide +kernel), (by unfold State.Holds; decide +kernel), (by decide +kernel)⟩

theorem meets_CueEnginesRunTheirActions_12 : ∃ (s : State) (e i : Nat), s.UpAt 0x14 e ∧ s.answers = true ∧ i < 1024 :=
  ⟨wCue id, 5, 1023, upAt_of (by decide +kernel), (by decide +kernel), (by decide +kernel)⟩

theorem meets_CueEnginesRunTheirActions_13 : ∃ (s : State) (e i : Nat), s.UpAt 0x14 e ∧ s.answers = true ∧ i < 1024 :=
  ⟨wCue fun c => { c with spent := [5130, 5129] }, 5, 9, upAt_of (by decide +kernel), (by decide +kernel), (by decide +kernel)⟩

theorem meets_CueEnginesRunTheirActions_14 : ∃ (s : State) (e : Nat) (q : Nat × List Byte), s.UpAt 0x14 e ∧ s.answers = true ∧ q ∈ s.recsOf e :=
  ⟨wCue fun c => { c with recs := [(5129, actNone)], spent := [5130, 5129] }, 5, (9, actNone), upAt_of (by decide +kernel), (by decide +kernel), (by decide +kernel)⟩

theorem meets_CueEnginesRunTheirActions_15 : ∃ (s : State) (e : Nat) (v : BitVec 64), s.UpAt 0x14 e ∧ s.answers = true :=
  ⟨wCue id, 5, 7#64, upAt_of (by decide +kernel), (by decide +kernel)⟩

theorem meets_LightingUniversesTakeAndSendPackets_1 : ∃ (s : State) (rx u a : Nat) (p : SacnPkt), s.UpAt 0x0E rx ∧ s.n (O0E.RX_STATE rx) ≠ 0 ∧ s.n (O0E.ESSENCE rx) = 5 ∧ s.n (O0E.RX_UDP rx) = 5568 ∧ p.wellFormed = true ∧ p.discovery = false ∧ p.preview = false ∧ p.terminated = false ∧ p.startCode = 0 ∧ p.priority ≤ 200 ∧ (s.enabledUnivs.find? fun u => s.n (O15.UNIV_NUMBER u) == p.number) = some u ∧ p.cid ≠ s.bs O15.SACN_CID ∧ (SMap.getD s.cues.sources u []).all (fun x => x.cid != p.cid) = true ∧ (SMap.getD s.cues.sources u []).length < 8 ∧ s.Holds (O15.PKTS_IN u) a ∧ a + 1 < 2 ^ bitsOf (O15.PKTS_IN u) :=
  ⟨wSac id, 8, 6, 3, pk, upAt_of (by decide +kernel), (by decide +kernel), (by decide +kernel), (by decide +kernel), (by decide +kernel), (by decide +kernel), (by decide +kernel), (by decide +kernel), (by decide +kernel), (by decide +kernel), (by decide +kernel), (by decide +kernel), (by decide +kernel), (by decide +kernel), (by unfold State.Holds; decide +kernel), (by decide +kernel)⟩

theorem meets_LightingUniversesTakeAndSendPackets_2 : ∃ (s : State) (rx u a : Nat) (p : SacnPkt), s.UpAt 0x0E rx ∧ s.n (O0E.RX_STATE rx) ≠ 0 ∧ s.n (O0E.ESSENCE rx) = 5 ∧ s.n (O0E.RX_UDP rx) = 5568 ∧ p.discovery = false ∧ (p.wellFormed = false ∨ p.preview = true ∨ p.startCode ≠ 0 ∨ 200 < p.priority) ∧ (s.enabledUnivs.find? fun u => s.n (O15.UNIV_NUMBER u) == p.number) = some u ∧ s.Holds (O15.PKTS_DISCARDED u) a ∧ a + 1 < 2 ^ bitsOf (O15.PKTS_DISCARDED u) :=
  ⟨wSac id, 8, 6, 3, { pk with priority := 201 }, upAt_of (by decide +kernel), (by decide +kernel), (by decide +kernel), (by decide +kernel), (by decide +kernel), (by decide +kernel), (by decide +kernel), (by unfold State.Holds; decide +kernel), (by decide +kernel)⟩

theorem meets_LightingUniversesTakeAndSendPackets_3 : ∃ (s : State) (rx u : Nat) (p : SacnPkt) (x : SacnSrc), s.UpAt 0x0E rx ∧ s.n (O0E.RX_STATE rx) ≠ 0 ∧ s.n (O0E.ESSENCE rx) = 5 ∧ s.n (O0E.RX_UDP rx) = 5568 ∧ p.wellFormed = true ∧ p.discovery = false ∧ p.preview = false ∧ p.terminated = true ∧ p.startCode = 0 ∧ p.priority ≤ 200 ∧ (s.enabledUnivs.find? fun u => s.n (O15.UNIV_NUMBER u) == p.number) = some u ∧ p.cid ≠ s.bs O15.SACN_CID ∧ ((SMap.getD s.cues.sources u []).find? fun x => x.cid == p.cid) = some x ∧ 0 < signed 8 (p.seq + 256 - x.seq % 256) :=
  ⟨wSac fun c => { c with sources := [(6, [srcA])] }, 8, 6, { pk with terminated := true }, srcA, upAt_of (by decide +kernel), (by decide +kernel), (by decide +kernel), (by decide +kernel), (by decide +kernel), (by decide +kernel), (by decide +kernel), (by decide +kernel), (by decide +kernel), (by decide +kernel), (by decide +kernel), (by decide +kernel), (by decide +kernel), (by decide +kernel)⟩

theorem meets_LightingUniversesTakeAndSendPackets_4 : ∃ (s : State) (rx : Nat) (p : SacnPkt), s.UpAt 0x0E rx ∧ s.n (O0E.RX_STATE rx) ≠ 0 ∧ s.n (O0E.ESSENCE rx) = 5 ∧ s.n (O0E.RX_UDP rx) = 5568 ∧ p.wellFormed = true ∧ p.discovery = true ∧ p.cid ≠ s.bs O15.SACN_CID ∧ (s.cues.disc.all fun x => x.cid != p.cid) = true ∧ s.cues.disc.length < 256 :=
  ⟨wSac id, 8, { pk with discovery := true, name := [65], list := [77, 78] }, upAt_of (by decide +kernel), (by decide +kernel), (by decide +kernel), (by decide +kernel), (by decide +kernel), (by decide +kernel), (by decide +kernel), (by decide +kernel), (by decide +kernel)⟩

theorem meets_LightingUniversesTakeAndSendPackets_5 : ∃ (s : State) (u : Nat) (cid : List Byte), s.UpAt 0x15 u ∧ ((SMap.getD s.cues.sources u []).any fun x => x.cid == cid && decide (x.heard + 480000 ≤ s.now)) = true :=
  ⟨wSac fun c => { c with sources := [(6, [srcA])] }, 6, cidA, upAt_of (by decide +kernel), (by decide +kernel)⟩

theorem meets_LightingUniversesTakeAndSendPackets_6 : ∃ (s : State) (u n : Nat) (x : SacnTx), s.UpAt 0x15 u ∧ u < 0x400 ∧ SMap.find? s.cues.tx u = some x ∧ s.n (O0D.SEND_STATE x.sender) = 2 ∧ x.term = 0 ∧ s.tick64 % s.n (O15.TX_PERIOD u) = 0 ∧ x.sent ≠ s.now ∧ s.now < x.changed + 3 * s.n (O15.TX_PERIOD u) ∧ s.Holds (O15.PKTS_OUT u) n ∧ n + 1 < 2 ^ bitsOf (O15.PKTS_OUT u) :=
  ⟨wSac fun c => { c with tx := [(6, ⟨255, 8999900, 8999000, 0, 4⟩)] }, 6, 3, ⟨255, 8999900, 8999000, 0, 4⟩, upAt_of (by decide +kernel), (by decide +kernel), (by decide +kernel), (by decide +kernel), (by decide +kernel), (by decide +kernel), (by decide +kernel), (by decide +kernel), (by unfold State.Holds; decide +kernel), (by decide +kernel)⟩

theorem meets_LightingUniversesTakeAndSendPackets_7 : ∃ (s : State) (u : Nat) (x : SacnTx), s.UpAt 0x15 u ∧ u < 0x400 ∧ SMap.find? s.cues.tx u = some x ∧ s.n (O0D.SEND_STATE x.sender) = 2 ∧ 1 < x.term ∧ s.tick64 % s.n (O15.TX_PERIOD u) = 0 ∧ x.sent ≠ s.now :=
  ⟨wSac fun c => { c with tx := [(6, ⟨255, 8999900, 8999000, 3, 4⟩)] }, 6, ⟨255, 8999900, 8999000, 3, 4⟩, upAt_of (by decide +kernel), (by decide +kernel), (by decide +kernel), (by decide +kernel), (by decide +kernel), (by decide +kernel), (by decide +kernel)⟩

theorem meets_LightingUniversesTakeAndSendPackets_8 : ∃ (s : State) (d : Nat) (l : List Nat), s.Up ∧ s.n O15.DISC_SENDER = d ∧ d ≠ 0xFFFF ∧ s.n (O0D.SEND_STATE d) = 2 ∧ s.cues.discAt = none ∧ ((s.enabledUnivs.filter s.univSends).map fun u => s.n (O15.UNIV_NUMBER u)).foldr State.insertAsc [] = l ∧ l.length ≤ 512 :=
  ⟨wSac id, 4, [77], up_of (by decide +kernel), (by decide +kernel), (by decide +kernel), (by decide +kernel), (by decide +kernel), (by decide +kernel), (by decide +kernel)⟩

theorem meets_LightingUniversesTakeAndSendPackets_9 : ∃ (s : State) (cid : List Byte), s.Up :=
  ⟨wSac fun c => { c with disc := [⟨cidA, [], [], 5000000⟩, ⟨[1], [], [], 8000000⟩] }, cidA, up_of (by decide +kernel)⟩

theorem meets_LightingUniversesTakeAndSendPackets_10 : ∃ (s : State) (p u n : Nat), s.UpAt 0x15 (0x400 + p) ∧ p < 32 ∧ s.n (O15.DMX_MODE (0x400 + p)) = 1 ∧ s.n (O15.DMX_UNIVERSE (0x400 + p)) = u ∧ s.tick64 % s.n (O15.DMX_PERIOD (0x400 + p)) = s.n (O15.DMX_PHASE (0x400 + p)) ∧ (SMap.find? s.cues.dmxIn p).map (·.heard) ≠ some s.now ∧ s.Holds (O15.DMX_PACKETS (0x400 + p)) n ∧ n + 1 < 2 ^ bitsOf (O15.DMX_PACKETS (0x400 + p)) :=
  ⟨wDmx 1 1 ⟨[], 0, 0⟩, 3, 6, 3, upAt_of (by decide +kernel), (by decide +kernel), (by decide +kernel), (by decide +kernel), (by decide +kernel), (by decide +kernel), (by unfold State.Holds; decide +kernel), (by decide +kernel)⟩

theorem meets_LightingUniversesTakeAndSendPackets_11 : ∃ (s : State) (p brk mab : Nat) (l : List Byte) (x : DmxIn), s.UpAt 0x15 (0x400 + p) ∧ p < 32 ∧ s.n (O15.DMX_MODE (0x400 + p)) = 2 ∧ s.n (O15.DMX_STATE (0x400 + p)) = 2 ∧ 88 ≤ brk ∧ 8 ≤ mab ∧ SMap.find? s.cues.dmxIn p = some x ∧ 1 ≤ x.run :=
  ⟨wDmx 2 2 ⟨[], 1, 0⟩, 3, 88, 8, [1, 2], ⟨[], 1, 0⟩, upAt_of (by decide +kernel), (by decide +kernel), (by decide +kernel), (by decide +kernel), (by decide +kernel), (by decide +kernel), (by decide +kernel), (by decide +kernel)⟩

theorem meets_LightingUniversesTakeAndSendPackets_12 : ∃ (s : State) (p brk mab n : Nat) (l : List Byte) (x : DmxIn), s.UpAt 0x15 (0x400 + p) ∧ p < 32 ∧ s.n (O15.DMX_MODE (0x400 + p)) = 2 ∧ SMap.find? s.cues.dmxIn p = some x ∧ s.Holds (O15.DMX_ERRORS (0x400 + p)) n ∧ n + 1 < 2 ^ bitsOf (O15.DMX_ERRORS (0x400 + p)) :=
  ⟨wDmx 2 2 ⟨[], 1, 0⟩, 3, 88, 8, 3, [1, 2], ⟨[], 1, 0⟩, upAt_of (by decide +kernel), (by decide +kernel), (by decide +kernel), (by decide +kernel), (by unfold State.Holds; decide +kernel), (by decide +kernel)⟩

theorem meets_LightingUniversesTakeAndSendPackets_13 : ∃ (s : State) (p : Nat) (x : DmxIn), s.UpAt 0x15 (0x400 + p) ∧ p < 32 ∧ s.n (O15.DMX_STATE (0x400 + p)) = 3 ∧ SMap.rising s.cues.dmxIn = true ∧ SMap.find? s.cues.dmxIn p = some x ∧ x.heard + s.n (O15.DMX_LOSS (0x400 + p)) ≤ s.now :=
  ⟨wDmx 2 3 ⟨[], 1, 8999000⟩, 3, ⟨[], 1, 8999000⟩, upAt_of (by decide +kernel), (by decide +kernel), (by decide +kernel), (by decide +kernel), (by decide +kernel), (by decide +kernel)⟩

theorem meets_TimecodeIsReadAndSentAndPinsAreDriven_1 : ∃ (s : State) (r v user bits age w : Nat) (z : Int), s.UpAt 0x16 r ∧ r < 8 ∧ s.n (O16.TC_STATE r) = 1 ∧ tcOk (s.n (O16.TC_RATE r)) v = true ∧ (s.reader r).last = some w ∧ tcNext (s.n (O16.TC_RATE r)) w = v ∧ 2 ≤ (s.reader r).run ∧ bit bits 2 = false :=
  ⟨wTc 1 ⟨2, some tcv, 0, 0, 0, 0, 0⟩, 2, tcv + 1, 9, 0, 5, tcv, 10000, upAt_of (by decide +kernel), (by decide +kernel), (by decide +kernel), (by decide +kernel), (by decide +kernel), (by decide +kernel), (by decide +kernel), (by decide +kernel)⟩

theorem meets_TimecodeIsReadAndSentAndPinsAreDriven_2 : ∃ (s : State) (r rate v user bits age : Nat) (z : Int), s.UpAt 0x16 r ∧ r < 8 ∧ s.n (O16.TC_STATE r) = 2 ∧ tcOk rate v = true ∧ bit bits 2 = false ∧ tcNext rate (s.n (O16.TC_VALUE r)) ≠ v :=
  ⟨wTc 2 ⟨2, some tcv, 0, 0, 0, 0, 0⟩, 2, 1, tcv + 3, 9, 0, 5, 10000, upAt_of (by decide +kernel), (by decide +kernel), (by decide +kernel), (by decide +kernel), (by decide +kernel), (by decide +kernel)⟩

theorem meets_TimecodeIsReadAndSentAndPinsAreDriven_3 : ∃ (s : State) (r rate v user bits age : Nat) (z : Int), s.UpAt 0x16 r ∧ r < 8 ∧ tcOk rate v = false :=
  ⟨wTc 2 ⟨2, some tcv, 0, 0, 0, 0, 0⟩, 2, 1, 0x01020319, 9, 0, 5, 10000, upAt_of (by decide +kernel), (by decide +kernel), (by decide +kernel)⟩

theorem meets_TimecodeIsReadAndSentAndPinsAreDriven_4 : ∃ (s : State) (r : Nat), s.UpAt 0x16 r ∧ r < 8 ∧ s.n (O16.TC_STATE r) = 2 ∧ bit (s.n (O16.TC_BITS r)) 2 = false ∧ s.wordMissed r = true ∧ 0 < s.n (O16.FREEWHEEL_FRAMES r) :=
  ⟨wTc 2 ⟨2, some tcv, 0, 0, 0, 0, 0⟩, 2, upAt_of (by decide +kernel), (by decide +kernel), (by decide +kernel), (by decide +kernel), (by decide +kernel), (by decide +kernel)⟩

theorem meets_TimecodeIsReadAndSentAndPinsAreDriven_5 : ∃ (s : State) (r : Nat), s.UpAt 0x16 r ∧ r < 8 ∧ s.n (O16.TC_STATE r) = 3 ∧ s.wordMissed r = true ∧ s.n (O16.FREEWHEEL_FRAMES r) ≤ (s.reader r).missed + 1 :=
  ⟨wTc 3 ⟨2, some tcv, 0, 0, 1, 0, 0⟩, 2, upAt_of (by decide +kernel), (by decide +kernel), (by decide +kernel), (by decide +kernel), (by decide +kernel)⟩

theorem meets_TimecodeIsReadAndSentAndPinsAreDriven_6 : ∃ (s : State) (r : Nat), s.UpAt 0x16 r ∧ r < 8 ∧ (s.n (O16.TC_STATE r) = 2 ∨ s.n (O16.TC_STATE r) = 3) ∧ (s.reader r).heard + 19200 ≤ s.now :=
  ⟨wTc 3 ⟨2, some tcv, 0, 0, 1, 0, 0⟩, 2, upAt_of (by decide +kernel), (by decide +kernel), (by decide +kernel), (by decide +kernel)⟩

theorem meets_TimecodeIsReadAndSentAndPinsAreDriven_7 : ∃ (s : State) (r : Nat), s.UpAt 0x16 r ∧ r < 8 ∧ s.n (O16.TC_STATE r) = 0 ∧ s.b (O16.TC_ENABLE r) = true :=
  ⟨wTc 0 ⟨2, some tcv, 0, 0, 1, 0, 0⟩, 2, upAt_of (by decide +kernel), (by decide +kernel), (by decide +kernel), (by decide +kernel)⟩

theorem meets_TimecodeIsReadAndSentAndPinsAreDriven_8 : ∃ (s : State) (g v : Nat), s.UpAt 0x16 (0x010 + g) ∧ g < 4 ∧ s.wordHere g = true ∧ (s.gen g).sent ≠ some s.now ∧ s.n (O16.GEN_MODE (0x010 + g)) = 1 ∧ s.b (O16.GEN_RUN (0x010 + g)) = true ∧ (s.gen g).next.getD (s.n (O16.GEN_PRESET (0x010 + g))) = v :=
  ⟨wGen 1 1, 2, tcv, upAt_of (by decide +kernel), (by decide +kernel), (by decide +kernel), (by decide +kernel), (by decide +kernel), (by decide +kernel), (by decide +kernel)⟩

theorem meets_TimecodeIsReadAndSentAndPinsAreDriven_9 : ∃ (s : State) (g : Nat), s.UpAt 0x16 (0x010 + g) ∧ g < 4 ∧ s.wordHere g = true ∧ (s.gen g).sent ≠ some s.now ∧ s.n (O16.GEN_MODE (0x010 + g)) = 2 ∧ s.b O01.TIME_VALID = true :=
  ⟨wGen 2 1, 2, upAt_of (by decide +kernel), (by decide +kernel), (by decide +kernel), (by decide +kernel), (by decide +kernel), (by decide +kernel)⟩

theorem meets_TimecodeIsReadAndSentAndPinsAreDriven_10 : ∃ (s : State) (g : Nat), s.UpAt 0x16 (0x010 + g) ∧ g < 4 ∧ s.wordHere g = true ∧ (s.gen g).sent ≠ some s.now ∧ s.n (O16.GEN_MODE (0x010 + g)) = 2 ∧ s.b O01.TIME_VALID = false ∧ s.n (O16.GEN_STATE (0x010 + g)) ≠ 3 :=
  ⟨wGen 2 0, 2, upAt_of (by decide +kernel), (by decide +kernel), (by decide +kernel), (by decide +kernel), (by decide +kernel), (by decide +kernel), (by decide +kernel)⟩

theorem meets_TimecodeIsReadAndSentAndPinsAreDriven_11 : ∃ (s : State) (g r : Nat), s.UpAt 0x16 (0x010 + g) ∧ g < 4 ∧ s.wordHere g = true ∧ (s.gen g).sent ≠ some s.now ∧ s.n (O16.GEN_MODE (0x010 + g)) = 3 ∧ s.n (O16.GEN_FOLLOW (0x010 + g)) = r ∧ 2 ≤ s.n (O16.TC_STATE r) :=
  ⟨wGen 3 0, 2, 2, upAt_of (by decide +kernel), (by decide +kernel), (by decide +kernel), (by decide +kernel), (by decide +kernel), (by decide +kernel), (by decide +kernel)⟩

theorem meets_TimecodeIsReadAndSentAndPinsAreDriven_12 : ∃ (s : State) (g : Nat) (v : Bool), s.UpAt 0x16 (0x010 + g) ∧ g < 4 ∧ s.answers = true :=
  ⟨wGen 1 1, 2, false, upAt_of (by decide +kernel), (by decide +kernel), (by decide +kernel)⟩

theorem meets_TimecodeIsReadAndSentAndPinsAreDriven_13 : ∃ (s : State) (p n : Nat) (v inv : Bool), s.UpAt 0x16 (0x100 + p) ∧ p < 128 ∧ s.n (O16.GPIO_MODE (0x100 + p)) = 0 ∧ s.b (O16.GPIO_INVERT (0x100 + p)) = inv ∧ s.b (O16.GPIO_LEVEL (0x100 + p)) = !(v != inv) ∧ SMap.getD s.cues.accepted p 0 + s.n (O16.GPIO_DEBOUNCE (0x100 + p)) ≤ s.now ∧ s.b (O16.GPIO_EVENT (0x100 + p)) = true ∧ s.Holds (O16.GPIO_EDGES (0x100 + p)) n ∧ n + 1 < 2 ^ bitsOf (O16.GPIO_EDGES (0x100 + p)) :=
  ⟨wPin 0, 7, 5, false, true, upAt_of (by decide +kernel), (by decide +kernel), (by decide +kernel), (by decide +kernel), (by decide +kernel), (by decide +kernel), (by decide +kernel), (by unfold State.Holds; decide +kernel), (by decide +kernel)⟩

theorem meets_TimecodeIsReadAndSentAndPinsAreDriven_14 : ∃ (s : State) (p : Nat) (v : Bool), s.UpAt 0x16 (0x100 + p) ∧ p < 128 ∧ s.n (O16.GPIO_MODE (0x100 + p)) = 1 ∧ s.answers = true :=
  ⟨wPin 1, 7, true, upAt_of (by decide +kernel), (by decide +kernel), (by decide +kernel), (by decide +kernel)⟩

theorem meets_TimecodeIsReadAndSentAndPinsAreDriven_15 : ∃ (s : State) (p a v : Nat), s.UpAt 0x16 (0x100 + p) ∧ SMap.rising s.cues.pulses = true ∧ SMap.find? s.cues.pulses p = some (a, v) ∧ a ≤ s.now :=
  ⟨wPin 1, 7, 8000, 1, upAt_of (by decide +kernel), (by decide +kernel), (by decide +kernel), (by decide +kernel)⟩

end C16

namespace C17

def sx : SessSt := { State.newSess 9 (zeros 133) (zeros 4) [] 5 0 with high := 10, heard := 900000, keys := zeros 72 }
def clk (s : State) : State := { s with tick := { s.tick with clock := 1000000 } }
def wS (f : List (Key × Nat)) (x : SessSt) : State := clk { hold up ([(O1C.SESS_STATE 3, 2), (O1C.SESS_ROLE 3, 1), (O1C.HANDSHAKE_FAILS, 4), (O1C.AUTH_DISCARDS, 4), (O1C.CRED_ENABLE 0x203, 1), (O1C.CRED_ROLE 0x203, 1), (O1C.MGMT_ENABLE 0x100, 1), (O1C.MGMT_ENABLE 0x101, 1), (O1C.MGMT_LINK 0x101, 1)] ++ f) with sess := [(3, x)] }
def helloBody : List Byte := [1, 3] ++ zeros 131
def wHs : State := wS [(O1C.SESS_STATE 3, 1)] { sx with hello := helloBody, high := 0 }
def dgH (kind sec id : Nat) : List Byte := filuloHeader kind 0 sec id 11 0
def dgBad : Dgram := ⟨0x14, 0, 1, 8, 11, dgH 0x14 1 8, [], zeros 16⟩
def kaTag : List Byte := bytesBE 16 (Config.gcmTag ((zeros 72).take 32) (slice (zeros 72) 64 4 ++ bytesBE 4 11 ++ bytesBE 1 0 ++ zeros 3) (dgH 0x14 1 9) [])
def dgKa : Dgram := ⟨0x14, 0, 1, 9, 11, dgH 0x14 1 9, [], kaTag⟩
theorem kaParse : parseDgram (dgH 0x14 1 9 ++ kaTag) false = some dgKa := by rfl
theorem kaOpen : dgKa.unseal sx.keys = some [] := by
  unfold Dgram.unseal gcmOpen
  exact if_pos rfl
def wMail (m : MailSt → MailSt) : State := { clk (hold up [(O1C.SESS_STATE 0x21, 2), (O1C.SESS_ROLE 0x21, 1)]) with sess := [(0x21, sx)], mail := m { up.mail with status := 2 }, bus := { up.bus with h2d := [(65536, 1), (65537, 0x14), (65543, 9), (65547, 11)] } }
def slotKa : Dgram := ⟨0x14, 0, 0, 9, 11, dgH 0x14 0 9, [], zeros 16⟩
def rEss : ObjRow := ⟨0x0E, [(0x0, 0x7FF)], 0x001, 1, false, .enum8, .SP, 2, .num 0, .u 0 5, false⟩
def rFl : ObjRow := ⟨0x0E, [(0x0, 0x7FF)], 0x030, 1, false, .bits32, .RW, 2, .num 0, .mask 0x3F, false⟩
def rPr : ObjRow := ⟨0x08, [(0x0, 0xBF), (0x100, 0x8FF)], 0x006, 1, false, .bool, .W, 3, .num 0, .u 0 1, false⟩
def rMk : ObjRow := ⟨0x1A, [(0x0, 0xFFF)], 0x001, 1, false, .bool, .WP, 2, .num 0, .u 0 1, false⟩
def rPs : ObjRow := ⟨0x0E, [(0x0, 0x7FF)], 0x00A, 1, false, .u16, .SP, 2, .num 0x1388, .any, false⟩
def kEss : Key := obKey 0x0E 5 0x001
def kFlg : Key := obKey 0x0E 5 0x030
def kPort : Key := obKey 0x0E 5 0x00A
def tx7 : Tx := { Tx.blank (.host 3) [] with id := 7, touched := 100 }
def wTx (y : Tx) : State := { wS [] sx with chain := { up.chain with opened := [{ tx7 with id := 6 }, y], lastTx := 7 } }
def wPend (o : Nat) : State := { wS [] sx with chain := { up.chain with queue := [{ tx7 with origin := .host o, order := 44 }, { tx7 with id := 8, order := 45 }] } }
def nt (a : Nat) : Note := ⟨4, .lost 1 2, 900000, a⟩
def sxN (a : Nat) : SessSt := { sx with notes := [nt a, { nt a with seq := 5 }] }
def sub1 : Sub := ⟨4, true, 0, false, 0, 0xFFF, 0, [], 0⟩
def jb : JobSt := { JobSt.none_ with obj := O11.EYE_SCAN 5, bulk := none, order := 3, doneAt := 5 }
def kJb : Key := O05.MEMTEST
def wJob (st lim : Nat) (x : JobSt) (role : Nat) : State := { wS [(O1B.JOB_STATE 8, st), (O1B.JOB_OBJECT 8, x.obj), (O1B.JOBS_LIMIT, lim), (O1B.JOB_OWNER 8, 3), (O1C.SESS_ROLE 3, role), (O05.CLIP_BYTES 0x107, 10000)] sx with jobs := [(8, x)] }
def rScan : ObjRow := (rowOf (O11.EYE_SCAN 5)).getD rPs
def jbLoad : JobSt := { JobSt.none_ with obj := obKey 0x05 0x107 0x00C, data := [1, 2], next := 2, par := [0] }
def jbSave : JobSt := { JobSt.none_ with obj := obKey 0x05 0x107 0x00D, data := [1, 2, 3, 4, 5, 6], next := 2, par := [0], ready := true }
def itLoad : Item := ⟨obKey 0x05 0x107 0x00C, 0, [7, 8, 9]⟩
def itSave : Item := ⟨obKey 0x05 0x107 0x00D, 0, [0, 3]⟩
def resp9 : Resp := ⟨9, 2, OK, 0, []⟩
def wJr : State := { wS [] sx with jrnl := { up.jrnl with todo := [(⟨2, 0, 77, 0, [(kEss, .num 1)]⟩, .answers [(3, resp9)]), (⟨2, 0, 78, 0, []⟩, .nothing)], seq := 20 } }
def rLoad : ObjRow := ((wJob 2 2 jbLoad 1).rowHere (obKey 0x05 0x107 0x00C)).getD rPs

theorem meets_SessionsOpenAndClose_1 : ∃ (s : State) (mailbox : Bool) (addr port role cred i n : Nat) (body : List Byte), s.Up ∧ s.answers = true ∧ s.talks mailbox = true ∧ s.lockedOut addr = false ∧ s.n O19.KS_STATE ≠ 2 ∧ body.length = 133 ∧ (body.headD 0).toNat = role ∧ (body.getD 1 0).toNat = cred ∧ role ≤ 2 ∧ cred < 48 ∧ s.helloCheck role cred mailbox 0xFFFF = OK ∧ s.canDraw = true ∧ ((List.range (if mailbox = true then 4 else 32)).find? fun i => (s.sess? ((if mailbox = true then 0x20 else 0) + i)).isNone) = some i ∧ s.Holds O1C.HANDSHAKE_FAILS n ∧ n + 1 < 2 ^ bitsOf O1C.HANDSHAKE_FAILS :=
  ⟨wS [] sx, false, 50, 60, 1, 3, 0, 4, helloBody, up_of (by decide +kernel), (by decide +kernel), (by decide +kernel), (by decide +kernel), (by decide +kernel), (by decide +kernel), (by decide +kernel), (by decide +kernel), (by decide +kernel), (by decide +kernel), (by decide +kernel), (by decide +kernel), (by decide +kernel), (by unfold State.Holds; decide +kernel), (by decide +kernel)⟩

theorem meets_SessionsOpenAndClose_2 : ∃ (s : State) (addr port : Nat) (body : List Byte), s.Up ∧ s.lockedOut addr = true :=
  ⟨{ wS [] sx with locks := [(50, ⟨[], some 2000000⟩)] }, 50, 60, helloBody, up_of (by decide +kernel), (by decide +kernel)⟩

theorem meets_SessionsOpenAndClose_3 : ∃ (s : State) (mailbox : Bool) (addr port n : Nat) (body : List Byte), s.Up ∧ s.answers = true ∧ s.talks mailbox = true ∧ s.lockedOut addr = false ∧ body.length ≠ 133 ∧ s.Holds O1C.HANDSHAKE_FAILS n ∧ n + 1 < 2 ^ bitsOf O1C.HANDSHAKE_FAILS :=
  ⟨wS [] sx, true, 50, 60, 4, [1, 3], up_of (by decide +kernel), (by decide +kernel), (by decide +kernel), (by decide +kernel), (by decide +kernel), (by unfold State.Holds; decide +kernel), (by decide +kernel)⟩

theorem meets_SessionsOpenAndClose_4 : ∃ (s : State) (sess role cred n : Nat) (x : SessSt) (body : List Byte), s.Up ∧ s.answers = true ∧ s.talks (mailboxSess sess) = true ∧ sess < 0x24 ∧ s.sess? sess = some x ∧ s.n (O1C.SESS_STATE sess) = 1 ∧ x.claim = false ∧ s.n O19.KS_STATE ≠ 2 ∧ body.length = 96 ∧ (x.hello.headD 0).toNat = role ∧ (x.hello.getD 1 0).toNat = cred ∧ cred < 48 ∧ s.helloCheck role cred (mailboxSess sess) sess = OK ∧ s.Holds O1C.HANDSHAKE_FAILS n ∧ n + 1 < 2 ^ bitsOf O1C.HANDSHAKE_FAILS :=
  ⟨wHs, 3, 1, 3, 4, { sx with hello := helloBody, high := 0 }, zeros 96, up_of (by decide +kernel), (by decide +kernel), (by decide +kernel), (by decide +kernel), (by decide +kernel), (by decide +kernel), (by decide +kernel), (by decide +kernel), (by decide +kernel), (by decide +kernel), (by decide +kernel), (by decide +kernel), (by decide +kernel), (by unfold State.Holds; decide +kernel), (by decide +kernel)⟩

theorem meets_SessionsOpenAndClose_5 : ∃ (s : State) (sess : Nat) (x : SessSt), s.Up ∧ sess < 0x24 ∧ SMap.rising s.sess = true ∧ s.sess? sess = some x ∧ s.n (O1C.SESS_STATE sess) = 1 ∧ x.claim = false ∧ x.since + 384000 ≤ s.now :=
  ⟨wHs, 3, { sx with hello := helloBody, high := 0 }, up_of (by decide +kernel), (by decide +kernel), (by decide +kernel), (by decide +kernel), (by decide +kernel), (by decide +kernel), (by decide +kernel)⟩

theorem meets_SessionsOpenAndClose_6 : ∃ (s : State) (addr u : Nat) (y : LockSt), s.Up ∧ SMap.rising s.locks = true ∧ SMap.find? s.locks addr = some y ∧ y.until_ = some u ∧ u ≤ s.now :=
  ⟨{ wS [] sx with locks := [(49, ⟨[], some 7⟩), (50, ⟨[], some 1000000⟩)] }, 50, 1000000, ⟨[], some 1000000⟩, up_of (by decide +kernel), (by decide +kernel), (by decide +kernel), (by decide +kernel), (by decide +kernel)⟩

theorem meets_SessionsOpenAndClose_7 : ∃ (s : State) (sess seq : Nat) (x : SessSt), s.OpenTo sess x ∧ x.high < seq :=
  ⟨wS [] sx, 3, 11, sx, openTo_of (by decide +kernel), (by decide +kernel)⟩

theorem meets_SessionsOpenAndClose_8 : ∃ (s : State) (sess seq status : Nat) (x : SessSt), s.OpenTo sess x ∧ x.high < seq ∧ sess < 0x24 ∧ SMap.rising s.sess = true :=
  ⟨wS [] sx, 3, 11, 7, sx, openTo_of (by decide +kernel), (by decide +kernel), (by decide +kernel), (by decide +kernel)⟩

theorem meets_SessionsOpenAndClose_9 : ∃ (s : State) (sess : Nat) (x : SessSt), s.OpenTo sess x ∧ sess < 0x24 ∧ SMap.rising s.sess = true :=
  ⟨wS [] sx, 3, sx, openTo_of (by decide +kernel), (by decide +kernel), (by decide +kernel)⟩

theorem meets_SessionsOpenAndClose_10 : ∃ (s : State) (sess : Nat) (x : SessSt), s.OpenTo sess x ∧ sess < 0x24 ∧ SMap.rising s.sess = true ∧ x.heard + s.n O1C.SESSION_TIMEOUT * 192 ≤ s.now :=
  ⟨wS [(O1C.SESSION_TIMEOUT, 500)] sx, 3, sx, openTo_of (by decide +kernel), (by decide +kernel), (by decide +kernel), (by decide +kernel)⟩

theorem meets_SessionsOpenAndClose_11 : ∃ (s : State) (iface addr port : Nat) (bytes : List Byte) (c : Compiled), s.Up ∧ parseDgram bytes false = none :=
  ⟨wS [] sx, 0, 50, 60, [1, 2, 3], ⟨[], Graph.empty, []⟩, up_of (by decide +kernel), (by decide +kernel)⟩

theorem meets_SessionsOpenAndClose_12 : ∃ (s : State) (iface addr port n : Nat) (bytes : List Byte) (c : Compiled) (d : Dgram), s.Up ∧ s.answers = true ∧ s.talks false = true ∧ iface < 2 ∧ s.b (O1C.MGMT_ENABLE (0x100 + iface)) = true ∧ parseDgram bytes false = some d ∧ d.security = 1 ∧ s.sessBy false d.ident 2 = none ∧ s.Holds O1C.AUTH_DISCARDS n ∧ n + 1 < 2 ^ bitsOf O1C.AUTH_DISCARDS :=
  ⟨wS [] sx, 0, 50, 60, 4, dgH 0x14 1 8 ++ zeros 16, ⟨[], Graph.empty, []⟩, dgBad, up_of (by decide +kernel), (by decide +kernel), (by decide +kernel), (by decide +kernel), (by decide +kernel), (by decide +kernel), (by decide +kernel), (by decide +kernel), (by unfold State.Holds; decide +kernel), (by decide +kernel)⟩

theorem meets_SessionsOpenAndClose_13 : ∃ (s : State) (iface addr port sess : Nat) (bytes b : List Byte) (c : Compiled) (d : Dgram) (x : SessSt), s.Up ∧ s.answers = true ∧ s.talks false = true ∧ iface < 2 ∧ s.b (O1C.MGMT_ENABLE (0x100 + iface)) = true ∧ parseDgram bytes false = some d ∧ d.security = 1 ∧ d.frag = 0 ∧ d.kind = 0x14 ∧ s.sessBy false d.ident 2 = some (sess, x) ∧ s.sess? sess = some x ∧ d.unseal x.keys = some b ∧ b = [] ∧ x.high < d.seq :=
  ⟨wS [] sx, 1, 50, 60, 3, dgH 0x14 1 9 ++ kaTag, [], ⟨[], Graph.empty, []⟩, dgKa, sx, up_of (by decide +kernel), (by decide +kernel), (by decide +kernel), (by decide +kernel), (by decide +kernel), kaParse, (by decide +kernel), (by decide +kernel), (by decide +kernel), (by decide +kernel), (by decide +kernel), kaOpen, (by decide +kernel), (by decide +kernel)⟩

theorem meets_SessionsOpenAndClose_14 : ∃ (s : State) (sess seq : Nat), s.Up :=
  ⟨{ wS [] sx with reasm := [⟨3, 11, 0x10, 3, [], 900000⟩, ⟨3, 12, 0x10, 3, [], 900000⟩] }, 3, 11, up_of (by decide +kernel)⟩

theorem meets_SessionsOpenAndClose_15 : ∃ (s : State) (iface : Nat) (up : Bool), s.UpAt 0x1C (0x100 + iface) ∧ iface < 2 ∧ s.b (O1C.MGMT_LINK (0x100 + iface)) ≠ up :=
  ⟨wS [] sx, 1, false, upAt_of (by decide +kernel), (by decide +kernel), (by decide +kernel)⟩

theorem meets_SessionsOpenAndClose_16 : ∃ (s : State) (index : Nat), s.Up ∧ s.mailReady = true ∧ (s.mail.h2dHead + 15 - s.mail.h2dTail) % 16 < (index % 16 + 16 - s.mail.h2dTail) % 16 :=
  ⟨wMail fun m => { m with h2dHead := 4, h2dTail := 8 }, 20, up_of (by decide +kernel), (by decide +kernel), (by decide +kernel)⟩

theorem meets_SessionsOpenAndClose_17 : ∃ (s : State) (i : Nat) (d : Dgram) (sess : Nat) (x : SessSt), s.Up ∧ s.mailReady = true ∧ s.answers = true ∧ i < 16 ∧ s.mail.h2dHead = i ∧ s.mail.h2dTail = i ∧ parseDgram (s.h2dSlot i) true = some d ∧ d.kind = 0x14 ∧ d.security = 0 ∧ d.frag = 0 ∧ s.b O1C.MAILBOX_SEAL = false ∧ s.sessBy true d.ident 2 = some (sess, x) ∧ s.sess? sess = some x ∧ x.high < d.seq ∧ d.body.length ≤ 8192 :=
  ⟨wMail fun m => { m with h2dHead := 4, h2dTail := 4 }, 4, slotKa, 0x21, sx, up_of (by decide +kernel), (by decide +kernel), (by decide +kernel), (by decide +kernel), (by decide +kernel), (by decide +kernel), (by decide +kernel), (by decide +kernel), (by decide +kernel), (by decide +kernel), (by decide +kernel), (by decide +kernel), (by decide +kernel), (by decide +kernel), (by decide +kernel)⟩

theorem meets_SessionsOpenAndClose_18 : ∃ (s : State) (index : Nat), s.Up ∧ s.mailReady = true ∧ s.mail.wait = [] ∧ (index % 16 + 16 - s.mail.d2hHead) % 16 ≤ s.mail.d2h.length :=
  ⟨wMail fun m => { m with d2hHead := 14, d2h := [[1], [2], [3]] }, 16, up_of (by decide +kernel), (by decide +kernel), (by decide +kernel), (by decide +kernel)⟩

theorem meets_RequestsAreExecutedOnceAndAnswered_1 : ∃ (s : State) (sess seq n : Nat) (x : SessSt) (r : Resp), s.OpenTo sess x ∧ x.high = seq ∧ (List.find? (fun (e : Nat × Nat × Resp) => e.1 == seq) x.cache) = some (seq, n, r) :=
  ⟨wS [] { sx with cache := [(9, 3, resp9), (10, 4, resp9)] }, 3, 10, 4, { sx with cache := [(9, 3, resp9), (10, 4, resp9)] }, resp9, openTo_of (by decide +kernel), (by decide +kernel), (by decide +kernel)⟩

theorem meets_RequestsAreExecutedOnceAndAnswered_2 : ∃ (s : State) (sess seq tx k : Nat) (x : SessSt) (r : ObjRow), s.OpenTo sess x ∧ x.high < seq ∧ s.rowHere k = some r ∧ r.acc.readable = true ∧ r.admits (s.roleOf sess) = true ∧ clsOf k = 0x0E ∧ (wireBytes k (s.readPlain k r)).length ≤ 8000 :=
  ⟨wS [(kEss, 3)] sx, 3, 11, 0, kEss, sx, rEss, openTo_of (by decide +kernel), (by decide +kernel), (by decide +kernel), (by decide +kernel), (by decide +kernel), (by decide +kernel), (by decide +kernel)⟩

theorem meets_RequestsAreExecutedOnceAndAnswered_3 : ∃ (s : State) (sess seq tx k : Nat) (x : SessSt), s.OpenTo sess x ∧ x.high < seq ∧ s.rowHere k = none :=
  ⟨wS [] sx, 3, 11, 0, obKey 0x0E 5 0xFFF, sx, openTo_of (by decide +kernel), (by decide +kernel), (by decide +kernel)⟩

theorem meets_RequestsAreExecutedOnceAndAnswered_4 : ∃ (s : State) (sess seq k : Nat) (x : SessSt) (r : ObjRow) (v : Val) (val : List Byte) (c : Compiled), s.OpenTo sess x ∧ x.high < seq ∧ (clsOf k = 0x08 ∨ clsOf k = 0x0F) ∧ ownKey k = false ∧ s.itemVal k (s.roleOf sess) 0 val State.mayWrite = .ok (r, v) ∧ s.itemStatus k v = OK ∧ r.acc = .W :=
  ⟨wS [] sx, 3, 11, O08.PROTECT 3, sx, rPr, .num 1, [1], ⟨[], Graph.empty, []⟩, openTo_of (by decide +kernel), (by decide +kernel), (by decide +kernel), (by decide +kernel), (by decide +kernel), (by decide +kernel), (by decide +kernel)⟩

theorem meets_RequestsAreExecutedOnceAndAnswered_5 : ∃ (s : State) (sess seq k m : Nat) (x : SessSt) (r : ObjRow) (val : List Byte) (c : Compiled), s.OpenTo sess x ∧ x.high < seq ∧ clsOf k = 0x0E ∧ s.itemVal k (s.roleOf sess) 0 val State.mayWrite = .ok (r, .num m) ∧ s.itemStatus k (.num m) = OK ∧ r.acc = .RW :=
  ⟨wS [(kFlg, 0x15)] sx, 3, 11, kFlg, 0x05, sx, rFl, [0, 0, 0, 5], ⟨[], Graph.empty, []⟩, openTo_of (by decide +kernel), (by decide +kernel), (by decide +kernel), (by decide +kernel), (by decide +kernel), (by decide +kernel)⟩

theorem meets_RequestsAreExecutedOnceAndAnswered_6 : ∃ (s : State) (sess seq k : Nat) (x : SessSt) (r : ObjRow) (v : Val) (val : List Byte) (c : Compiled), s.OpenTo sess x ∧ x.high < seq ∧ clsOf k = 0x1A ∧ s.itemVal k (s.roleOf sess) 0 val State.mayWrite = .ok (r, v) ∧ s.itemStatus k v = OK ∧ r.acc = .WP ∧ s.accepts = true ∧ s.roomForWrite [(k, v)] = true :=
  ⟨wS [] sx, 3, 11, O1A.EV_MASK 0x1C0, sx, rMk, .num 1, [1], ⟨[], Graph.empty, []⟩, openTo_of (by decide +kernel), (by decide +kernel), (by decide +kernel), (by decide +kernel), (by decide +kernel), (by decide +kernel), (by decide +kernel), (by decide +kernel)⟩

theorem meets_RequestsAreExecutedOnceAndAnswered_7 : ∃ (s : State) (sess seq : Nat) (x : SessSt), s.OpenTo sess x ∧ x.high < seq ∧ (s.txOpen sess).length < 4 :=
  ⟨wTx tx7, 3, 11, sx, openTo_of (by decide +kernel), (by decide +kernel), (by decide +kernel)⟩

theorem meets_RequestsAreExecutedOnceAndAnswered_8 : ∃ (s : State) (sess seq : Nat) (x : SessSt), s.OpenTo sess x ∧ x.high < seq ∧ 4 ≤ (s.txOpen sess).length :=
  ⟨{ wTx tx7 with chain := { up.chain with opened := [tx7, tx7, tx7, tx7] } }, 3, 11, sx, openTo_of (by decide +kernel), (by decide +kernel), (by decide +kernel)⟩

theorem meets_RequestsAreExecutedOnceAndAnswered_9 : ∃ (s : State) (sess seq tx k : Nat) (x : SessSt) (y : Tx) (r : ObjRow) (v : Val) (val : List Byte), s.OpenTo sess x ∧ x.high < seq ∧ s.ownTx sess tx = some y ∧ y.items = [] ∧ clsOf k ≠ 0x14 ∧ clsOf k ≠ 0x18 ∧ clsOf k ≠ 0x19 ∧ s.itemVal k (s.roleOf sess) 0 val (fun r => r.acc.staged) = .ok (r, v) ∧ s.itemStatus k v = OK ∧ (wireBytes k v).length ≤ 1048576 :=
  ⟨wTx tx7, 3, 11, 7, kPort, sx, tx7, rPs, .num 0x1234, [0x12, 0x34], openTo_of (by decide +kernel), (by decide +kernel), (by decide +kernel), (by decide +kernel), (by decide +kernel), (by decide +kernel), (by decide +kernel), (by decide +kernel), (by decide +kernel), (by decide +kernel)⟩

theorem meets_RequestsAreExecutedOnceAndAnswered_10 : ∃ (s : State) (sess seq tx k : Nat) (x : SessSt) (r : ObjRow) (v : Val) (val : List Byte), s.OpenTo sess x ∧ x.high < seq ∧ s.ownTx sess tx = none ∧ clsOf k ≠ 0x14 ∧ clsOf k ≠ 0x18 ∧ clsOf k ≠ 0x19 ∧ s.itemVal k (s.roleOf sess) 0 val (fun r => r.acc.staged) = .ok (r, v) ∧ s.itemStatus k v = OK ∧ (wireBytes k v).length ≤ 1048576 :=
  ⟨wTx tx7, 3, 11, 9, kPort, sx, rPs, .num 0x1234, [0x12, 0x34], openTo_of (by decide +kernel), (by decide +kernel), (by decide +kernel), (by decide +kernel), (by decide +kernel), (by decide +kernel), (by decide +kernel), (by decide +kernel), (by decide +kernel)⟩

theorem meets_RequestsAreExecutedOnceAndAnswered_11 : ∃ (s : State) (sess seq tx k : Nat) (x : SessSt) (val : List Byte), s.OpenTo sess x ∧ x.high < seq ∧ s.ownTx sess tx = none ∧ s.rowHere k = none :=
  ⟨wTx tx7, 3, 11, 9, obKey 0x0E 5 0xFFF, sx, [], openTo_of (by decide +kernel), (by decide +kernel), (by decide +kernel), (by decide +kernel)⟩

theorem meets_RequestsAreExecutedOnceAndAnswered_12 : ∃ (s : State) (sess seq tx act : Nat) (x : SessSt) (y : Tx) (c : Compiled), s.OpenTo sess x ∧ x.high < seq ∧ s.ownTx sess tx = some y ∧ (y.fail ≠ 0 ∨ y.items = []) :=
  ⟨wTx { tx7 with fail := 3, items := [(kPort, .num 5)] }, 3, 11, 7, 0, sx, { tx7 with fail := 3, items := [(kPort, .num 5)] }, ⟨[], Graph.empty, []⟩, openTo_of (by decide +kernel), (by decide +kernel), (by decide +kernel), (by decide +kernel)⟩

theorem meets_RequestsAreExecutedOnceAndAnswered_13 : ∃ (s u : State) (sess seq tx act : Nat) (x : SessSt) (y : Tx) (c : Compiled), s.OpenTo sess x ∧ x.high < seq ∧ s.ownTx sess tx = some y ∧ y.fail = 0 ∧ y.items ≠ [] ∧ (s.hears sess seq x).onChain (fun q => { q with opened := q.opened.filter fun z => z.id != tx }) = u ∧ s.domainWide y.items = false ∧ ((u.setN (O1C.SESS_TX_OPEN sess) (u.txOpen sess).length).commitTx y act (c.plan 0) (some s.tick64)).2 = PENDING :=
  ⟨wTx { tx7 with items := [(kPort, .num 5)] }, ((wTx { tx7 with items := [(kPort, .num 5)] }).hears 3 11 sx).onChain fun q => { q with opened := q.opened.filter fun z => z.id != 7 }, 3, 11, 7, 0, sx, { tx7 with items := [(kPort, .num 5)] }, ⟨[], Graph.empty, []⟩, openTo_of (by decide +kernel), (by decide +kernel), (by decide +kernel), (by decide +kernel), (by decide +kernel), rfl, (by decide +kernel), (by decide +kernel)⟩

theorem meets_RequestsAreExecutedOnceAndAnswered_14 : ∃ (s : State) (sess seq tx o : Nat) (x : SessSt) (y : Tx), s.OpenTo sess x ∧ x.high < seq ∧ tx ≠ 0 ∧ o < 0x24 ∧ (s.pendingTxs.find? fun x => x.id == tx && tx != 0) = some y ∧ y.origin = .host o ∧ s.mayAbort sess o = true :=
  ⟨wPend 3, 3, 11, 7, 3, sx, { tx7 with origin := .host 3, order := 44 }, openTo_of (by decide +kernel), (by decide +kernel), (by decide +kernel), (by decide +kernel), (by decide +kernel), (by decide +kernel), (by decide +kernel)⟩

theorem meets_RequestsAreExecutedOnceAndAnswered_15 : ∃ (s : State) (sess seq tx o : Nat) (x : SessSt) (y : Tx), s.OpenTo sess x ∧ x.high < seq ∧ tx ≠ 0 ∧ (s.pendingTxs.find? fun x => x.id == tx && tx != 0) = some y ∧ y.origin = .host o ∧ s.mayAbort sess o = false :=
  ⟨wPend 4, 3, 11, 7, 4, sx, { tx7 with origin := .host 4, order := 44 }, openTo_of (by decide +kernel), (by decide +kernel), (by decide +kernel), (by decide +kernel), (by decide +kernel), (by decide +kernel)⟩

theorem meets_RequestsAreExecutedOnceAndAnswered_16 : ∃ (s : State) (sess seq tx : Nat) (x : SessSt) (y : Tx), s.OpenTo sess x ∧ x.high < seq ∧ s.ownTx sess tx = some y :=
  ⟨wTx tx7, 3, 11, 7, sx, tx7, openTo_of (by decide +kernel), (by decide +kernel), (by decide +kernel)⟩

theorem meets_RequestsAreExecutedOnceAndAnswered_17 : ∃ (s : State) (tx sess : Nat) (y : Tx), s.Up ∧ (s.chain.opened.find? fun x => x.id == tx) = some y ∧ y.origin = .host sess ∧ y.touched + s.n O1C.TX_IDLE * 192 ≤ s.now :=
  ⟨{ wTx tx7 with objs := (hold up [(O1C.TX_IDLE, 100)]).objs }, 7, 3, tx7, up_of (by decide +kernel), (by decide +kernel), (by decide +kernel), (by decide +kernel)⟩

theorem meets_RequestsAreExecutedOnceAndAnswered_18 : ∃ (s : State) (sess seq : Nat) (x : SessSt) (i : Item), s.OpenTo sess x ∧ x.high < seq ∧ sess < 0x24 ∧ clsOf i.obj ≠ 0x18 ∧ clsOf i.obj ≠ 0x19 ∧ (s.hears sess seq x).subCheck sess i x = OK :=
  ⟨wS [] { sx with subs := [sub1] }, 3, 11, { sx with subs := [sub1] }, ⟨0x010, 0, [1, 2, 0, 0x20, 0, 0, 0, 0]⟩, openTo_of (by decide +kernel), (by decide +kernel), (by decide +kernel), (by decide +kernel), (by decide +kernel), (by decide +kernel)⟩

theorem meets_RequestsAreExecutedOnceAndAnswered_19 : ∃ (s : State) (sess seq sub : Nat) (x : SessSt), s.OpenTo sess x ∧ x.high < seq ∧ sess < 0x24 ∧ sub ≠ 0xFFFFFFFF ∧ (x.subs.any fun u => u.id == sub) = true :=
  ⟨wS [] { sx with subs := [sub1, { sub1 with id := 3 }] }, 3, 11, 4, { sx with subs := [sub1, { sub1 with id := 3 }] }, openTo_of (by decide +kernel), (by decide +kernel), (by decide +kernel), (by decide +kernel), (by decide +kernel)⟩

theorem meets_RequestsAreExecutedOnceAndAnswered_20 : ∃ (s : State) (sess seq note : Nat) (x : SessSt), s.OpenTo sess x ∧ x.high < seq ∧ sess < 0x24 ∧ x.overflow = false :=
  ⟨wS [] (sxN 2), 3, 11, 4, sxN 2, openTo_of (by decide +kernel), (by decide +kernel), (by decide +kernel), (by decide +kernel)⟩

theorem meets_RequestsAreExecutedOnceAndAnswered_21 : ∃ (s : State) (sess note : Nat) (x : SessSt) (m : Note), s.OpenTo sess x ∧ (List.find? (fun (n : Note) => n.seq == note) x.notes) = some m ∧ m.sentAt + 19200 ≤ s.now ∧ m.tries < 10 :=
  ⟨wS [] (sxN 9), 3, 4, sxN 9, nt 9, openTo_of (by decide +kernel), (by decide +kernel), (by decide +kernel), (by decide +kernel)⟩

theorem meets_RequestsAreExecutedOnceAndAnswered_22 : ∃ (s : State) (sess note : Nat) (x : SessSt) (m : Note), s.OpenTo sess x ∧ sess < 0x24 ∧ SMap.rising s.sess = true ∧ (List.find? (fun (n : Note) => n.seq == note) x.notes) = some m ∧ m.sentAt + 19200 ≤ s.now ∧ 10 ≤ m.tries :=
  ⟨wS [] (sxN 10), 3, 4, sxN 10, nt 10, openTo_of (by decide +kernel), (by decide +kernel), (by decide +kernel), (by decide +kernel), (by decide +kernel), (by decide +kernel)⟩

theorem meets_JobsAndTheJournalGoOn_1 : ∃ (s : State) (sess seq j : Nat) (x : SessSt) (y : JobSt) (r : ObjRow), s.OpenTo sess x ∧ x.high < seq ∧ j < 64 ∧ s.n (O1B.JOB_STATE j) = 2 ∧ s.job? j = some y ∧ rowOf (s.n (O1B.JOB_OBJECT j)) = some r ∧ r.admits (s.roleOf sess) = true :=
  ⟨wJob 2 2 jb 1, 3, 11, 8, sx, jb, rScan, openTo_of (by decide +kernel), (by decide +kernel), (by decide +kernel), (by decide +kernel), (by decide +kernel), (by decide +kernel), (by decide +kernel)⟩

theorem meets_JobsAndTheJournalGoOn_2 : ∃ (s : State) (sess seq j : Nat) (x : SessSt) (y : JobSt) (r : ObjRow), s.OpenTo sess x ∧ x.high < seq ∧ j < 64 ∧ s.n (O1B.JOB_STATE j) = 3 ∧ s.job? j = some y ∧ rowOf (s.n (O1B.JOB_OBJECT j)) = some r ∧ r.admits (s.roleOf sess) = true :=
  ⟨wJob 3 2 jb 1, 3, 11, 8, sx, jb, rScan, openTo_of (by decide +kernel), (by decide +kernel), (by decide +kernel), (by decide +kernel), (by decide +kernel), (by decide +kernel), (by decide +kernel)⟩

theorem meets_JobsAndTheJournalGoOn_3 : ∃ (s : State) (sess seq j : Nat) (x : SessSt) (y : JobSt) (r : ObjRow), s.OpenTo sess x ∧ x.high < seq ∧ j < 64 ∧ 1 ≤ s.n (O1B.JOB_STATE j) ∧ s.n (O1B.JOB_STATE j) ≤ 3 ∧ s.job? j = some y ∧ rowOf (s.n (O1B.JOB_OBJECT j)) = some r ∧ r.admits (s.roleOf sess) = true :=
  ⟨wJob 3 2 jb 1, 3, 11, 8, sx, jb, rScan, openTo_of (by decide +kernel), (by decide +kernel), (by decide +kernel), (by decide +kernel), (by decide +kernel), (by decide +kernel), (by decide +kernel), (by decide +kernel)⟩

theorem meets_JobsAndTheJournalGoOn_4 : ∃ (s : State) (sess seq j : Nat) (x : SessSt) (y : JobSt) (r : ObjRow), s.OpenTo sess x ∧ x.high < seq ∧ j < 64 ∧ SMap.rising s.jobs = true ∧ s.n (O1B.JOB_STATE j) = 4 ∧ s.job? j = some y ∧ rowOf (s.n (O1B.JOB_OBJECT j)) = some r ∧ r.admits (s.roleOf sess) = true :=
  ⟨wJob 4 2 jb 1, 3, 11, 8, sx, jb, rScan, openTo_of (by decide +kernel), (by decide +kernel), (by decide +kernel), (by decide +kernel), (by decide +kernel), (by decide +kernel), (by decide +kernel), (by decide +kernel)⟩

theorem meets_JobsAndTheJournalGoOn_5 : ∃ (s : State) (sess seq j : Nat) (x : SessSt) (r : ObjRow), s.OpenTo sess x ∧ x.high < seq ∧ j < 64 ∧ s.n (O1B.JOB_STATE j) ≠ 0 ∧ rowOf (s.n (O1B.JOB_OBJECT j)) = some r ∧ r.admits (s.roleOf sess) = false :=
  ⟨wJob 2 2 jb 3, 3, 11, 8, sx, rScan, openTo_of (by decide +kernel), (by decide +kernel), (by decide +kernel), (by decide +kernel), (by decide +kernel), (by decide +kernel)⟩

theorem meets_JobsAndTheJournalGoOn_6 : ∃ (s : State) (sess seq j : Nat) (x : SessSt) (y : JobSt) (i : Item) (c : Compiled), s.OpenTo sess x ∧ x.high < seq ∧ j < 64 ∧ (s.bulkCheck sess j y.next [i] bulkIn (fun v => if v = [] ∨ 8000 < v.length then RANGE else OK) = .ok (y, i)) ∧ (y.data ++ i.val).length ≤ (s.bulkTotal y.obj (y.data ++ i.val)).1 ∧ y.obj ≠ O18.FW_UPDATE :=
  ⟨wJob 2 2 jbLoad 1, 3, 11, 8, sx, jbLoad, itLoad, ⟨[], Graph.empty, []⟩, openTo_of (by decide +kernel), (by decide +kernel), (by decide +kernel), (by decide +kernel), (by decide +kernel), (by decide +kernel)⟩

theorem meets_JobsAndTheJournalGoOn_7 : ∃ (s : State) (sess seq j offset : Nat) (x : SessSt) (y : JobSt) (i : Item) (r : ObjRow) (c : Compiled), s.OpenTo sess x ∧ x.high < seq ∧ j < 64 ∧ s.rowHere i.obj = some r ∧ r.admits (s.roleOf sess) = true ∧ i.val ≠ [] ∧ i.val.length ≤ 8000 ∧ s.job? j = some y ∧ offset ≠ y.next :=
  ⟨wJob 2 2 jbLoad 1, 3, 11, 8, 3, sx, jbLoad, itLoad, rLoad, ⟨[], Graph.empty, []⟩, openTo_of (by decide +kernel), (by decide +kernel), (by decide +kernel), (by decide +kernel), (by decide +kernel), (by decide +kernel), (by decide +kernel), (by decide +kernel), (by decide +kernel)⟩

theorem meets_JobsAndTheJournalGoOn_8 : ∃ (s : State) (sess seq j n : Nat) (x : SessSt) (y : JobSt) (i : Item), s.OpenTo sess x ∧ x.high < seq ∧ j < 64 ∧ (s.bulkCheck sess j y.next [i] bulkOut (fun v => if v.length ≠ 2 then TYPE else if natBE v = 0 ∨ 8000 < natBE v then RANGE else OK) = .ok (y, i)) ∧ natBE i.val = n ∧ y.ready = true ∧ y.next + n < y.data.length :=
  ⟨wJob 2 2 jbSave 1, 3, 11, 8, 3, sx, jbSave, itSave, openTo_of (by decide +kernel), (by decide +kernel), (by decide +kernel), (by decide +kernel), (by decide +kernel), (by decide +kernel), (by decide +kernel)⟩

theorem meets_JobsAndTheJournalGoOn_9 : ∃ (s : State) (job status : Nat) (y : JobSt) (data : List Byte) (ecc : List (Nat × Nat × Nat)) (plans : List (Nat × Plan)), s.Up ∧ job < 64 ∧ s.job? job = some y ∧ s.n (O1B.JOB_STATE job) = 2 ∧ clsOf y.obj = 0x11 ∧ status ≤ 0x0F ∧ status ≠ PENDING ∧ status ≠ OK ∧ status ≠ CANCELLED :=
  ⟨wJob 2 2 jb 1, 8, 4, jb, [], [], [], up_of (by decide +kernel), (by decide +kernel), (by decide +kernel), (by decide +kernel), (by decide +kernel), (by decide +kernel), (by decide +kernel), (by decide +kernel), (by decide +kernel)⟩

theorem meets_JobsAndTheJournalGoOn_10 : ∃ (s : State) (job : Nat) (y : JobSt) (data : List Byte) (ecc : List (Nat × Nat × Nat)) (plans : List (Nat × Plan)), s.Up ∧ job < 64 ∧ s.job? job = some y ∧ s.n (O1B.JOB_STATE job) = 2 ∧ y.obj = O05.MEMTEST ∧ s.safeHold = false ∧ s.clocks.hbmBypass = false :=
  ⟨{ wJob 2 2 { jb with obj := kJb } 1 with clocks := { up.clocks with hbmBypass := false } }, 8, { jb with obj := kJb }, [], [], [], up_of (by decide +kernel), (by decide +kernel), (by decide +kernel), (by decide +kernel), (by decide +kernel), (by decide +kernel), (by decide +kernel)⟩

theorem meets_JobsAndTheJournalGoOn_11 : ∃ (s : State) (job : Nat) (y : JobSt), s.Up ∧ job < 64 ∧ SMap.rising s.jobs = true ∧ s.job? job = some y ∧ s.n (O1B.JOB_STATE job) = 4 ∧ y.doneAt + 115200000 ≤ s.now :=
  ⟨{ wJob 4 2 jb 1 with tick := { up.tick with clock := 115200005 } }, 8, jb, up_of (by decide +kernel), (by decide +kernel), (by decide +kernel), (by decide +kernel), (by decide +kernel), (by decide +kernel)⟩

theorem meets_JobsAndTheJournalGoOn_12 : ∃ (s : State) (sess : Nat) (x : SessSt) (r : JRec) (rest : List (JRec × JWait)) (q : Resp), s.Up ∧ s.served = true ∧ s.jrnl.todo = (r, .answers [(sess, q)]) :: rest ∧ s.sess? sess = some x ∧ q.items = [] ∧ s.jrnl.compacting = false ∧ s.runningJob O1C.JOURNAL_COMPACT = none ∧ (recsBytes s.activeHalf + r.size) * 4 < halfBytes * 3 :=
  ⟨wJr, 3, sx, ⟨2, 0, 77, 0, [(kEss, .num 1)]⟩, [(⟨2, 0, 78, 0, []⟩, .nothing)], resp9, up_of (by decide +kernel), (by decide +kernel), (by decide +kernel), (by decide +kernel), (by decide +kernel), (by decide +kernel), (by decide +kernel), (by decide +kernel)⟩

theorem meets_JobsAndTheJournalGoOn_13 : ∃ (s : State), s.Up ∧ s.served = true ∧ s.immediateDue = true ∧ s.jrnl.imm ≠ [] :=
  ⟨{ wS [] sx with jrnl := { up.jrnl with imm := [(kEss, .num 1)], immWait := [(3, resp9)], lastImm := 4 } }, up_of (by decide +kernel), (by decide +kernel), (by decide +kernel), (by decide +kernel)⟩

end C17

namespace C18

def wDev : State := { hold up [(O00.TEMP_WARN, 700), (O00.DIE_TEMP_MAX, 500)] with tick := { up.tick with clock := 1000000 } }
def wBus (f : List (Key × Nat)) : State := { hold up ([(O17.TRANSACTIONS 0x101, 5), (O17.DECODE_ERRORS, 5), (O17.VIOLATIONS, 5), (O17.DMA_BYTES 0x302, 5), (O17.DMA_ERRORS 0x302, 5)] ++ f) with straps := 4, mail := { up.mail with status := 2 }, tick := { up.tick with clock := 1000000 } }
def rq (a : Nat) (w : Bool) : BusReq := ⟨1, 0, 0, false, w, a, 1, 7, false, 0, [], none, (List.range 16).map fun i => BitVec.ofNat 8 (i + 1)⟩
def wEng : State := (wBus [(O17.MASTER_STATE 0x10C, 1), (O14.CE_STATE 9, 2), (O14.CE_ENABLE 9, 1)]).setBytes O17.FROZEN_ENGINES (zeros 1 ++ [2] ++ zeros 14)
def jM : JobSt := { JobSt.none_ with obj := O05.MEMTEST }
def wHbm : State := { wBus [] with clocks := { up.clocks with hbmBypass := false } }
theorem target_hbm (s : State) (a : Nat) (h : 0x1000000000 ≤ a) (h' : a < 0x1000000000 + s.fmSize) : s.targetOf a = 2 := by
  unfold State.targetOf
  have e (lo n : Nat) (q : lo + n ≤ a) : decide (lo ≤ a ∧ a < lo + n) = false := decide_eq_false (by omega)
  have f : decide (0x1000000000 ≤ a ∧ a < 0x1000000000 + s.fmSize) = true := decide_eq_true ⟨h, h'⟩
  have hm : min 0x10000000 (max 134217728 Config.flashSize) ≤ 0x10000000 := Nat.min_le_left _ _
  simp only [e _ _ (show 0 + 0x1000000 ≤ a by omega), e _ _ (show 0x1000000 + 0x1000000 ≤ a by omega), e _ _ (show 0x2000000 + 0x80000 ≤ a by omega), e _ _ (show 0x100000000 + min 0x10000000 (max 134217728 Config.flashSize) ≤ a by omega), e _ _ (show 0x200000000 + 0x10000000 ≤ a by omega), e _ _ (show 0x300000000 + 0x1000000 ≤ a by omega), e _ _ (show 0x310000000 + 0x100000 ≤ a by omega), e _ _ (show 0x400000000 + 0x1000000 ≤ a by omega), e _ _ (show 0x500000000 + 0x100000 ≤ a by omega), e _ _ (show 0x800000000 + 0x800000000 ≤ a by omega), f]
  rfl
theorem pf14 : wHbm.pieceFault (State.hostReq true (0x1000000000 + 4096) 3 [1, 2, 3] false) (0x1000000000 + 4096) = 0 := by
  unfold State.pieceFault
  rw [target_hbm _ _ (by decide) (by decide +kernel)]
  decide +kernel

def wFull : State := { wHbm with bus := { wHbm.bus with used := [(chanInst 4096, 5000)] } }
theorem pf15 : wFull.pieceFault (State.hostReq true (0x1000000000 + 4096) 3 [1, 2, 3] false) (0x1000000000 + 4096) = 0 := by
  unfold State.pieceFault
  rw [target_hbm _ _ (by decide) (by decide +kernel)]
  decide +kernel

theorem meets_ResetsAreTakenAndHeatIsWatched_1 : ∃ (s : State), s.Up ∧ s.served = true ∧ s.boot.closing = false :=
  ⟨wDev, up_of (by decide +kernel), (by decide +kernel), (by decide +kernel)⟩

theorem meets_ResetsAreTakenAndHeatIsWatched_2 : ∃ (s : State), s.Up ∧ s.boot.closing = true :=
  ⟨{ wDev with boot := { up.boot with closing := true } }, up_of (by decide +kernel), (by decide +kernel)⟩

theorem meets_ResetsAreTakenAndHeatIsWatched_3 : ∃ (s : State), s.Up ∧ s.served = true ∧ s.boot.closing = false ∧ s.pendingTxs = [] ∧ s.jrnl.imm = [] :=
  ⟨wDev, up_of (by decide +kernel), (by decide +kernel), (by decide +kernel), (by decide +kernel), (by decide +kernel)⟩

theorem meets_ResetsAreTakenAndHeatIsWatched_4 : ∃ (s : State) (value : Nat), s.Up ∧ value ≠ 0x00464400 :=
  ⟨wDev, 7, up_of (by decide +kernel), (by decide +kernel)⟩

theorem meets_ResetsAreTakenAndHeatIsWatched_5 : ∃ (s : State) (temp : Int), s.Up ∧ s.served = true ∧ s.hot = false ∧ s.z 16 O00.DIE_TEMP_MAX < temp ∧ s.z 16 O00.TEMP_WARN ≤ temp :=
  ⟨wDev, 800, up_of (by decide +kernel), (by decide +kernel), (by decide +kernel), (by decide +kernel), (by decide +kernel)⟩

theorem meets_ResetsAreTakenAndHeatIsWatched_6 : ∃ (s : State) (temp : Int), s.Up ∧ s.served = true ∧ s.hot = true ∧ s.measured = true ∧ temp ≤ s.z 16 O00.DIE_TEMP_MAX ∧ temp < s.z 16 O00.TEMP_WARN - 50 :=
  ⟨{ wDev with hot := true, measured := true }, 500, up_of (by decide +kernel), (by decide +kernel), (by decide +kernel), (by decide +kernel), (by decide +kernel), (by decide +kernel)⟩

theorem meets_BusMastersAreServedFrozenAndFreed_1 : ∃ (s : State) (r : BusReq) (n : Nat), s.Up ∧ r.master < 4 ∧ r.write = true ∧ r.beats = 1 ∧ 0x1000000 ≤ r.addr ∧ r.addr + 16 ≤ 0x2000000 ∧ r.addr % 16 = 0 ∧ r.data.length = 16 ∧ r.key = none ∧ r.fails = false ∧ s.frozen r.master r.engine = false ∧ s.pieceFault r r.addr = 0 ∧ s.Holds (O17.TRANSACTIONS (0x100 + r.master)) n ∧ n + 1 < 2 ^ bitsOf (O17.TRANSACTIONS (0x100 + r.master)) :=
  ⟨wBus [], rq 0x1000030 true, 5, up_of (by decide +kernel), (by decide +kernel), (by decide +kernel), (by decide +kernel), (by decide +kernel), (by decide +kernel), (by decide +kernel), (by decide +kernel), (by decide +kernel), (by decide +kernel), (by decide +kernel), (by decide +kernel), (by unfold State.Holds; decide +kernel), (by decide +kernel)⟩

theorem meets_BusMastersAreServedFrozenAndFreed_2 : ∃ (s : State) (r : BusReq) (n : Nat), s.Up ∧ r.master < 14 ∧ r.beats = 1 ∧ r.key = none ∧ s.frozen r.master r.engine = false ∧ s.pieceFault r r.addr = 4 ∧ s.Holds O17.DECODE_ERRORS n ∧ n + 1 < 2 ^ bitsOf O17.DECODE_ERRORS :=
  ⟨wBus [], rq 0x7000000 false, 5, up_of (by decide +kernel), (by decide +kernel), (by decide +kernel), (by decide +kernel), (by decide +kernel), (by decide +kernel), (by unfold State.Holds; decide +kernel), (by decide +kernel)⟩

theorem meets_BusMastersAreServedFrozenAndFreed_3 : ∃ (s : State) (r : BusReq) (n : Nat), s.Up ∧ r.master < 14 ∧ r.master ≠ 12 ∧ r.beats = 1 ∧ r.key = none ∧ s.frozen r.master r.engine = false ∧ (s.pieceFault r r.addr = 1 ∨ s.pieceFault r r.addr = 2) ∧ s.Holds O17.VIOLATIONS n ∧ n + 1 < 2 ^ bitsOf O17.VIOLATIONS :=
  ⟨wBus [], rq 0 true, 5, up_of (by decide +kernel), (by decide +kernel), (by decide +kernel), (by decide +kernel), (by decide +kernel), (by decide +kernel), (by decide +kernel), (by unfold State.Holds; decide +kernel), (by decide +kernel)⟩

theorem meets_BusMastersAreServedFrozenAndFreed_4 : ∃ (s : State) (r : BusReq), s.Up ∧ r.master < 14 ∧ 1 ≤ r.beats ∧ r.beats ≤ 64 ∧ s.frozen r.master r.engine = true :=
  ⟨wBus [(O17.MASTER_STATE 0x101, 1)], rq 0x1000030 true, up_of (by decide +kernel), (by decide +kernel), (by decide +kernel), (by decide +kernel), (by decide +kernel)⟩

theorem meets_BusMastersAreServedFrozenAndFreed_5 : ∃ (s : State) (m : Nat), s.Up ∧ s.served = true ∧ s.spFrozen = false ∧ m < 14 ∧ m ≠ 12 ∧ s.frozen m 0 = true :=
  ⟨wBus [(O17.MASTER_STATE 0x108, 1)], 8, up_of (by decide +kernel), (by decide +kernel), (by decide +kernel), (by decide +kernel), (by decide +kernel), (by decide +kernel)⟩

theorem meets_BusMastersAreServedFrozenAndFreed_6 : ∃ (s : State) (e : Nat), s.Up ∧ s.served = true ∧ s.spFrozen = false ∧ e < 128 ∧ s.frozen 12 e = true :=
  ⟨wEng, 9, up_of (by decide +kernel), (by decide +kernel), (by decide +kernel), (by decide +kernel), (by decide +kernel)⟩

theorem meets_BusMastersAreServedFrozenAndFreed_7 : ∃ (s : State) (m : Nat), s.Up ∧ m < 14 ∧ m ≠ 12 ∧ s.frozen m 0 = false :=
  ⟨wBus [], 8, up_of (by decide +kernel), (by decide +kernel), (by decide +kernel), (by decide +kernel)⟩

theorem meets_BusMastersAreServedFrozenAndFreed_8 : ∃ (s : State) (dma bytes n : Nat) (data : List Byte), s.Up ∧ s.served = true ∧ dma < 4 ∧ 16 ≤ bytes ∧ bytes ≤ 16777216 ∧ s.frozen (7 + dma) 0 = false ∧ s.Holds (O17.DMA_BYTES (0x300 + dma)) n ∧ n + bytes < 2 ^ bitsOf (O17.DMA_BYTES (0x300 + dma)) :=
  ⟨wBus [], 2, 100, 5, [1], up_of (by decide +kernel), (by decide +kernel), (by decide +kernel), (by decide +kernel), (by decide +kernel), (by decide +kernel), (by unfold State.Holds; decide +kernel), (by decide +kernel)⟩

theorem meets_BusMastersAreServedFrozenAndFreed_9 : ∃ (s : State) (dma bytes n : Nat) (data : List Byte) (job : Option Nat) (error : Bool), s.Up ∧ s.served = true ∧ dma < 4 ∧ 16 ≤ bytes ∧ bytes ≤ 16777216 ∧ s.frozen (7 + dma) 0 = false ∧ dma ∉ s.bus.retry ∧ (error = true ∨ s.clocks.hbmBypass = true ∧ s.clipDma job = true) ∧ s.Holds (O17.DMA_ERRORS (0x300 + dma)) n ∧ n + 1 < 2 ^ bitsOf (O17.DMA_ERRORS (0x300 + dma)) :=
  ⟨{ wBus [(O1B.JOB_STATE 8, 2)] with jobs := [(8, { jM with obj := O05.CLIP_LOAD 0x100 })] }, 2, 100, 5, [], some 8, false, up_of (by decide +kernel), (by decide +kernel), (by decide +kernel), (by decide +kernel), (by decide +kernel), (by decide +kernel), (by decide +kernel), (.inr (by decide +kernel)), (by unfold State.Holds; decide +kernel), (by decide +kernel)⟩

theorem meets_BusMastersAreServedFrozenAndFreed_10 : ∃ (s : State) (dma bytes n j : Nat) (data : List Byte) (y : JobSt), s.Up ∧ s.served = true ∧ dma < 4 ∧ 16 ≤ bytes ∧ bytes ≤ 16777216 ∧ s.frozen (7 + dma) 0 = false ∧ dma ∈ s.bus.retry ∧ s.Holds (O17.DMA_ERRORS (0x300 + dma)) n ∧ n + 1 < 2 ^ bitsOf (O17.DMA_ERRORS (0x300 + dma)) ∧ j < 64 ∧ s.job? j = some y ∧ y.obj = O05.MEMTEST ∧ s.n (O1B.JOB_STATE j) = 2 :=
  ⟨{ wBus [(O1B.JOB_STATE 8, 2)] with bus := { up.bus with retry := [2] }, jobs := [(8, jM)] }, 2, 100, 5, 8, [], jM, up_of (by decide +kernel), (by decide +kernel), (by decide +kernel), (by decide +kernel), (by decide +kernel), (by decide +kernel), (by decide +kernel), (by unfold State.Holds; decide +kernel), (by decide +kernel), (by decide +kernel), (by decide +kernel), (by decide +kernel), (by decide +kernel)⟩

theorem meets_BusMastersAreServedFrozenAndFreed_11 : ∃ (s : State) (v : Nat) (fails : Bool) (cs : List (Nat × Compiled)), s.Up ∧ bit s.straps 2 = true ∧ s.phase = .rom ∧ s.boot.recovery = true ∧ v ≤ 24 :=
  ⟨{ wBus [] with phase := .rom, boot := { up.boot with recovery := true } }, 24, false, [], up_of (by decide +kernel), (by decide +kernel), (by decide +kernel), (by decide +kernel), (by decide +kernel)⟩

theorem meets_BusMastersAreServedFrozenAndFreed_12 : ∃ (s : State) (o len : Nat) (data : List Byte) (fails : Bool) (cs : List (Nat × Compiled)), s.Up ∧ bit s.straps 2 = true ∧ s.phase ≠ .rom ∧ s.mailReady = true ∧ s.frozen 11 0 = false ∧ data ≠ [] ∧ o % 16 = 0 ∧ data.length ≤ 1024 ∧ o + data.length ≤ 16384 :=
  ⟨{ wBus [] with bus := { up.bus with msix := [(17, 9), (30, 8)] } }, 16, 0, [0, 0, 3, 4], true, [], up_of (by decide +kernel), (by decide +kernel), (by decide +kernel), (by decide +kernel), (by decide +kernel), (by decide +kernel), (by decide +kernel), (by decide +kernel), (by decide +kernel)⟩

theorem meets_BusMastersAreServedFrozenAndFreed_13 : ∃ (s : State) (o len : Nat) (fails : Bool) (cs : List (Nat × Compiled)), s.Up ∧ bit s.straps 2 = true ∧ s.phase ≠ .rom ∧ s.mailReady = true ∧ s.frozen 11 0 = false ∧ 0 < len ∧ o % 16 + len ≤ 1024 ∧ o + len ≤ 16384 :=
  ⟨{ wBus [] with bus := { up.bus with msix := [(17, 9), (30, 8)] } }, 16, 20, true, [], up_of (by decide +kernel), (by decide +kernel), (by decide +kernel), (by decide +kernel), (by decide +kernel), (by decide +kernel), (by decide +kernel), (by decide +kernel)⟩

theorem meets_BusMastersAreServedFrozenAndFreed_14 : ∃ (s : State) (o len : Nat) (data : List Byte) (cs : List (Nat × Compiled)), s.Up ∧ bit s.straps 2 = true ∧ s.phase ≠ .rom ∧ s.mailReady = true ∧ s.frozen 11 0 = false ∧ s.clocks.hbmBypass = false ∧ data ≠ [] ∧ data.length ≤ 16 ∧ o % 16 = 0 ∧ o + 16 ≤ s.fmSize ∧ s.pieceFault (State.hostReq true (0x1000000000 + o) data.length data false) (0x1000000000 + o) = 0 ∧ s.bus.inside = [] ∧ s.bus.outside = [] ∧ 0 < s.freeSlots (chanInst (o / 128 * 128)) ∧ s.fmem.bad = [] :=
  ⟨wHbm, 4096, 0, [1, 2, 3], [], up_of (by decide +kernel), (by decide +kernel), (by decide +kernel), (by decide +kernel), (by decide +kernel), (by decide +kernel), (by decide +kernel), (by decide +kernel), (by decide +kernel), (by decide +kernel), pf14, (by decide +kernel), (by decide +kernel), (by decide +kernel), (by decide +kernel)⟩

theorem meets_BusMastersAreServedFrozenAndFreed_15 : ∃ (s : State) (o len : Nat) (data : List Byte) (cs : List (Nat × Compiled)), s.Up ∧ bit s.straps 2 = true ∧ s.phase ≠ .rom ∧ s.mailReady = true ∧ s.frozen 11 0 = false ∧ s.clocks.hbmBypass = false ∧ data ≠ [] ∧ data.length ≤ 16 ∧ o % 16 = 0 ∧ o + 16 ≤ s.fmSize ∧ s.pieceFault (State.hostReq true (0x1000000000 + o) data.length data false) (0x1000000000 + o) = 0 ∧ s.bus.inside = [] ∧ s.bus.outside = [] ∧ s.freeSlots (chanInst (o / 128 * 128)) = 0 :=
  ⟨wFull, 4096, 0, [1, 2, 3], [], up_of (by decide +kernel), (by decide +kernel), (by decide +kernel), (by decide +kernel), (by decide +kernel), (by decide +kernel), (by decide +kernel), (by decide +kernel), (by decide +kernel), (by decide +kernel), pf15, (by decide +kernel), (by decide +kernel), (by decide +kernel)⟩

end C18

namespace C20

def secret : List Byte := [1] ++ zeros 47
def wOtp (f : OtpSt → OtpSt) (g : BootSt → BootSt) : State := { State.reset with boot := g { up.boot with otp := f ⟨secret, [], 0, [0, 1, 2], 0, 0, []⟩, copy0 := bootBytes 7 1 false 0, copy1 := [], slotA := [], slotB := [], pwrOk := false } }
def wRun (f : OtpSt → OtpSt) (g : BootSt → BootSt) (l : List (Key × Nat)) : State := { (hold (wOtp f g) l) with phase := .running, tick := { up.tick with clock := 12000000, up := 1920000 } }

theorem meets_TheBootRomStartsRecoversOrHolds_1 : ∃ (s : State) (straps pins : Nat) (entropy powered : Bool), s.Inv ∧ s.phase = .inReset ∧ s.asserted pins ≠ 0 :=
  ⟨wOtp id id, 7, 16, true, true, inv_of (by decide +kernel), (by decide +kernel), (by decide +kernel)⟩

theorem meets_TheBootRomStartsRecoversOrHolds_2 : ∃ (s : State) (straps pins v : Nat) (entropy powered : Bool), s.Inv ∧ s.phase = .inReset ∧ s.asserted pins = 0 ∧ s.boot.otp.intents = [⟨1, v, true, false⟩] ∧ s.boot.pwrOk = false ∧ powered = false :=
  ⟨wOtp (fun o => { o with intents := [⟨1, 4, true, false⟩] }) id, 7, 15, 4, true, false, inv_of (by decide +kernel), (by decide +kernel), (by decide +kernel), (by decide +kernel), (by decide +kernel), (by decide +kernel)⟩

theorem meets_TheBootRomStartsRecoversOrHolds_3 : ∃ (s : State) (straps pins : Nat) (entropy powered : Bool), s.Inv ∧ s.phase = .inReset ∧ s.asserted pins = 0 ∧ s.boot.otp.intents = [⟨1, 4, true, false⟩] ∧ s.boot.pwrOk = true ∧ s.stored O18.LC_STATE = none :=
  ⟨wOtp (fun o => { o with intents := [⟨1, 4, true, false⟩] }) fun b => { b with pwrOk := true }, 7, 15, true, false, inv_of (by decide +kernel), (by decide +kernel), (by decide +kernel), (by decide +kernel), (by decide +kernel), (by decide +kernel)⟩

theorem meets_TheBootRomStartsRecoversOrHolds_4 : ∃ (s : State) (straps pins : Nat) (powered : Bool), s.Inv ∧ s.phase = .inReset ∧ s.asserted pins = 0 ∧ s.boot.otp.intents = [] ∧ s.n O18.LC_STATE = 2 :=
  ⟨wOtp id id, 7, 15, true, inv_of (by decide +kernel), (by decide +kernel), (by decide +kernel), (by decide +kernel), (by decide +kernel)⟩

theorem meets_TheBootRomStartsRecoversOrHolds_5 : ∃ (s : State) (straps pins : Nat) (powered : Bool), s.Inv ∧ s.phase = .inReset ∧ s.asserted pins = 0 ∧ s.boot.otp.intents = [] ∧ s.n O18.LC_STATE = 2 ∧ s.rootSecret ≠ [] ∧ bit straps 2 = true ∧ bit straps 3 = true :=
  ⟨wOtp id id, 12, 15, true, inv_of (by decide +kernel), (by decide +kernel), (by decide +kernel), (by decide +kernel), (by decide +kernel), (by decide +kernel), (by decide +kernel), (by decide +kernel)⟩

theorem meets_TheBootRomStartsRecoversOrHolds_6 : ∃ (s : State) (straps pins copy seq a tries : Nat) (powered : Bool), s.Inv ∧ s.phase = .inReset ∧ s.asserted pins = 0 ∧ s.boot.otp.intents = [] ∧ s.n O18.LC_STATE = 2 ∧ s.rootSecret ≠ [] ∧ bit straps 2 = false ∧ s.pickRecord = some (copy, seq, a, false, tries) ∧ a < 2 :=
  ⟨wOtp id id, 8, 15, 0, 7, 1, 0, true, inv_of (by decide +kernel), (by decide +kernel), (by decide +kernel), (by decide +kernel), (by decide +kernel), (by decide +kernel), (by decide +kernel), (by decide +kernel), (by decide +kernel)⟩

theorem meets_TheBootRomStartsRecoversOrHolds_7 : ∃ (s : State) (straps pins seq a tries : Nat) (powered : Bool), s.Inv ∧ s.phase = .inReset ∧ s.asserted pins = 0 ∧ s.boot.otp.intents = [] ∧ s.n O18.LC_STATE = 2 ∧ s.rootSecret ≠ [] ∧ bit straps 2 = false ∧ s.pickRecord = some (0, seq, a, true, tries) ∧ a < 2 :=
  ⟨wOtp id fun b => { b with copy0 := bootBytes 7 1 true 3 }, 8, 15, 7, 1, 3, true, inv_of (by decide +kernel), (by decide +kernel), (by decide +kernel), (by decide +kernel), (by decide +kernel), (by decide +kernel), (by decide +kernel), (by decide +kernel), (by decide +kernel)⟩

theorem meets_TheBootRomStartsRecoversOrHolds_9 : ∃ (s : State) (length : Nat) (img : List Byte), s.Up ∧ s.phase = .rom ∧ s.boot.recovery = true ∧ (List.range (min length 13107200)).map (fun i => SMap.getD s.bus.sram i 0) = img ∧ img.take 4 ≠ magicImage :=
  ⟨{ wOtp id fun b => { b with recovery := true } with phase := .rom }, 5, zeros 5, up_of (by decide +kernel), (by decide +kernel), (by decide +kernel), (by decide +kernel), (by decide +kernel)⟩

theorem meets_TheBootRomStartsRecoversOrHolds_10 : ∃ (s : State) (length : Nat) (img : List Byte), s.Up ∧ s.phase = .rom ∧ s.boot.recovery = true ∧ (List.range (min length 13107200)).map (fun i => SMap.getD s.bus.sram i 0) = img ∧ img.take 4 = magicImage :=
  ⟨{ wOtp id fun b => { b with recovery := true } with phase := .rom, bus := { up.bus with sram := [(0, 0x4E), (1, 0x4C), (2, 0x4F), (3, 0x53)] } }, 5, magicImage ++ [0], up_of (by decide +kernel), (by decide +kernel), (by decide +kernel), (by decide +kernel), (by decide +kernel)⟩

theorem meets_TheBootRomStartsRecoversOrHolds_11 : ∃ (s : State) (pins : Nat), s.Up ∧ s.phase ≠ .running ∧ s.asserted pins &&& s.asserted s.keys.pins ≠ 0 :=
  ⟨{ wOtp id fun b => { b with bootstat := 0x07000000 } with phase := .rom, keys := { up.keys with pins := 31 } }, 16, up_of (by decide +kernel), (by decide +kernel), (by decide +kernel)⟩

theorem meets_TheBootRomStartsRecoversOrHolds_12 : ∃ (s : State) (pins : Nat), s.Inv ∧ s.phase = .inReset ∧ s.asserted pins &&& s.asserted s.keys.pins ≠ 0 :=
  ⟨{ wOtp id id with keys := { up.keys with pins := 31 } }, 16, inv_of (by decide +kernel), (by decide +kernel), (by decide +kernel)⟩

theorem meets_TheBootRomStartsRecoversOrHolds_13 : ∃ (s : State) (pins : Nat), s.Inv ∧ s.phase = .inReset ∧ s.asserted pins &&& s.asserted s.keys.pins = 0 :=
  ⟨wOtp id id, 16, inv_of (by decide +kernel), (by decide +kernel), (by decide +kernel)⟩

theorem meets_TheBootRomStartsRecoversOrHolds_15 : ∃ (s : State), s.Up ∧ s.phase = .rom ∧ s.boot.bootstat = 0x05000000 ∧ s.n O18.LC_STATE = 1 ∧ s.rootSecret = [] ∧ bit s.boot.otp.void 0 = false ∧ bit s.straps 2 = true ∧ bit s.straps 3 = true :=
  ⟨{ wOtp (fun o => { o with bank0 := [], lc := [0, 1] }) fun b => { b with bootstat := 0x05000000 } with phase := .rom, straps := 12 }, up_of (by decide +kernel), (by decide +kernel), (by decide +kernel), (by decide +kernel), (by decide +kernel), (by decide +kernel), (by decide +kernel), (by decide +kernel)⟩

theorem meets_TheDeviceStartsAndItsLifeCycleChanges_1 : ∃ (s : State) (regions : List (List Byte)) (failed : List Nat), s.Up ∧ s.phase = .rom ∧ s.boot.bootstat = 0x0B000000 ∧ s.activeHalf = [] ∧ s.conv.luts = [] ∧ s.b O18.STANDBY_TAMPER = false :=
  ⟨{ wOtp id fun b => { b with bootstat := 0x0B000000, left := [(0x180, 1)] } with phase := .rom }, [zeros 16], [3], up_of (by decide +kernel), (by decide +kernel), (by decide +kernel), (by decide +kernel), (by decide +kernel), (by decide +kernel)⟩

theorem meets_TheDeviceStartsAndItsLifeCycleChanges_2 : ∃ (s : State) (regions : List (List Byte)) (failed : List Nat), s.Up ∧ s.phase = .rom ∧ s.boot.bootstat = 0x0B000000 ∧ s.activeHalf = [] ∧ s.conv.luts = [] ∧ s.b O18.STANDBY_TAMPER = true :=
  ⟨{ hold (wOtp id fun b => { b with bootstat := 0x0B000000 }) [(O18.STANDBY_TAMPER, 1)] with phase := .rom }, [], [], up_of (by decide +kernel), (by decide +kernel), (by decide +kernel), (by decide +kernel), (by decide +kernel), (by decide +kernel)⟩

theorem meets_TheDeviceStartsAndItsLifeCycleChanges_3 : ∃ (s : State) (regions : List (List Byte)) (failed : List Nat) (i p n tick : Nat), s.Up ∧ s.phase = .rom ∧ s.boot.bootstat = 0x0B000000 ∧ i < 0x800 ∧ s.present 0x0E i = true ∧ s.activeHalf = [⟨2, n, tick, 0, [(O0E.RX_UDP i, .num p)]⟩] ∧ s.conv.luts = [] :=
  ⟨{ wOtp id fun b => { b with bootstat := 0x0B000000 } with phase := .rom, jrnl := { up.jrnl with half0 := [⟨2, 9, 55, 0, [(O0E.RX_UDP 5, .num 77)]⟩] } }, [], [], 5, 77, 9, 55, up_of (by decide +kernel), (by decide +kernel), (by decide +kernel), (by decide +kernel), (by decide +kernel), (by decide +kernel), (by decide +kernel)⟩

theorem meets_TheDeviceStartsAndItsLifeCycleChanges_4 : ∃ (s : State) (micros : Nat) (plan : Plan), s.Up ∧ s.phase = .neloas ∧ s.coreLocked = true :=
  ⟨{ hold (wOtp id id) [(O03.PLL_STATE 0, 0), (O03.PLL_STATE 1, 0), (O03.PLL_STATE 2, 0), (O03.PLL_STATE 3, 0)] with phase := .neloas }, 999, Plan.empty, up_of (by decide +kernel), (by decide +kernel), (by decide +kernel)⟩

theorem meets_TheDeviceStartsAndItsLifeCycleChanges_5 : ∃ (s : State) (micros : Nat) (plan : Plan), s.Up ∧ s.coreLocked = false :=
  ⟨{ hold (wOtp id id) [(O03.PLL_STATE 2, 1)] with phase := .neloas }, 999, Plan.empty, up_of (by decide +kernel), (by decide +kernel)⟩

theorem meets_TheDeviceStartsAndItsLifeCycleChanges_6 : ∃ (s : State) (seq a tries : Nat) (trial : Bool), s.Up ∧ s.phase = .running ∧ s.trialDue = true ∧ s.pickRecord = some (0, seq, a, trial, tries) :=
  ⟨wRun id id [(O18.TRIAL_STATE, 2)], 7, 1, 0, false, up_of (by decide +kernel), (by decide +kernel), (by decide +kernel), (by decide +kernel)⟩

theorem meets_TheDeviceStartsAndItsLifeCycleChanges_7 : ∃ (s : State), s.Up ∧ s.trialLate = true ∧ s.boot.resetAt = none :=
  ⟨wRun id (fun b => { b with handover := some 0 }) [(O18.TRIAL_STATE, 2)], up_of (by decide +kernel), (by decide +kernel), (by decide +kernel)⟩

theorem meets_TheDeviceStartsAndItsLifeCycleChanges_8 : ∃ (s : State) (target : Nat), s.Up ∧ s.served = true ∧ (s.n O18.LC_STATE = 1 ∧ target = 2 ∧ s.b O19.ENROLLED = true ∨ s.n O18.LC_STATE = 3 ∧ target = 2 ∨ s.n O18.LC_STATE = 3 ∧ target = 4) ∧ s.fwJob = none ∧ s.boot.closing = false ∧ s.n O18.LC_COUNT < 63 ∧ s.boot.otp.intents.length < 64 :=
  ⟨wRun (fun o => { o with lc := [0, 1, 2, 3] }) id [], 2, up_of (by decide +kernel), (by decide +kernel), (by decide +kernel), (by decide +kernel), (by decide +kernel), (by decide +kernel), (by decide +kernel)⟩

theorem meets_TheDeviceStartsAndItsLifeCycleChanges_9 : ∃ (s : State) (target : Nat), s.Up ∧ s.n O18.LC_STATE = 2 ∧ target < 3 :=
  ⟨wRun id id [], 2, up_of (by decide +kernel), (by decide +kernel), (by decide +kernel)⟩

theorem meets_TheDeviceStartsAndItsLifeCycleChanges_10 : ∃ (s : State), s.Up ∧ s.served = true ∧ s.n O18.TRIAL_STATE ≠ 2 ∧ s.boot.otp.svn < State.imageSvn s.boot.image ∧ s.boot.otp.intents.length < 64 :=
  ⟨wRun id (fun b => { b with image := zeros 13 ++ [5] }) [], up_of (by decide +kernel), (by decide +kernel), (by decide +kernel), (by decide +kernel), (by decide +kernel)⟩

theorem meets_TheDeviceStartsAndItsLifeCycleChanges_11 : ∃ (s : State), s.Up ∧ s.served = true ∧ s.b O18.STANDBY_TAMPER = true :=
  ⟨wRun id id [(O18.STANDBY_TAMPER, 1)], up_of (by decide +kernel), (by decide +kernel), (by decide +kernel)⟩

theorem meets_TheDeviceStartsAndItsLifeCycleChanges_12 : ∃ (s : State), s.Up ∧ s.b O18.STANDBY_TAMPER = false :=
  ⟨wRun id id [], up_of (by decide +kernel), (by decide +kernel)⟩

theorem meets_TheDeviceStartsAndItsLifeCycleChanges_13 : ∃ (s : State) (l m : List Intent) (i : Intent), s.Up ∧ s.served = true ∧ s.boot.pwrOk = true ∧ s.boot.otp.intents = l ++ i :: m ∧ (l.all fun x => x.done) = true ∧ i.done = false ∧ i.armed = false :=
  ⟨wRun (fun o => { o with intents := [⟨2, 1, true, true⟩, ⟨1, 3, false, false⟩] }) (fun b => { b with pwrOk := true }) [], [⟨2, 1, true, true⟩], [], ⟨1, 3, false, false⟩, up_of (by decide +kernel), (by decide +kernel), (by decide +kernel), (by decide +kernel), (by decide +kernel), (by decide +kernel), (by decide +kernel)⟩

theorem meets_TheDeviceStartsAndItsLifeCycleChanges_14 : ∃ (s : State) (l m : List Intent) (v : Nat), s.Up ∧ s.served = true ∧ s.boot.pwrOk = true ∧ s.boot.otp.intents = l ++ ⟨1, v, true, false⟩ :: m ∧ (l.all fun x => x.done) = true :=
  ⟨wRun (fun o => { o with intents := [⟨2, 1, true, true⟩, ⟨1, 3, true, false⟩] }) (fun b => { b with pwrOk := true }) [], [⟨2, 1, true, true⟩], [], 3, up_of (by decide +kernel), (by decide +kernel), (by decide +kernel), (by decide +kernel), (by decide +kernel)⟩

theorem meets_TheDeviceStartsAndItsLifeCycleChanges_15 : ∃ (s : State) (l m : List Intent) (v i : Nat), s.Up ∧ s.served = true ∧ s.boot.pwrOk = true ∧ s.boot.otp.intents = l ++ ⟨1, v, true, false⟩ :: m ∧ (l.all fun x => x.done) = true ∧ s.n O18.LC_STATE = 3 ∧ v < 5 ∧ v ≠ 3 ∧ i ∈ s.openSessions ∧ s.n (O1C.SESS_ROLE i) = 3 :=
  ⟨{ wRun (fun o => { o with lc := [0, 1, 2, 3], intents := [⟨1, 2, true, false⟩] }) (fun b => { b with pwrOk := true }) [(O1C.SESS_STATE 3, 2), (O1C.SESS_ROLE 3, 3)] with sess := [(3, State.newSess 9 (zeros 133) (zeros 4) [] 5 0)] }, [], [], 2, 3, up_of (by decide +kernel), (by decide +kernel), (by decide +kernel), (by decide +kernel), (by decide +kernel), (by decide +kernel), (by decide +kernel), (by decide +kernel), (by decide +kernel), (by decide +kernel)⟩

theorem meets_TheDeviceStartsAndItsLifeCycleChanges_16 : ∃ (s : State) (l m : List Intent) (v : Nat), s.Up ∧ s.served = true ∧ s.boot.pwrOk = true ∧ s.boot.otp.intents = l ++ ⟨2, v, true, false⟩ :: m ∧ (l.all fun x => x.done) = true :=
  ⟨wRun (fun o => { o with intents := [⟨2, 1, true, true⟩, ⟨2, 3, true, false⟩] }) (fun b => { b with pwrOk := true }) [], [⟨2, 1, true, true⟩], [], 3, up_of (by decide +kernel), (by decide +kernel), (by decide +kernel), (by decide +kernel), (by decide +kernel)⟩

theorem meets_TheDeviceStartsAndItsLifeCycleChanges_17 : ∃ (s : State) (k : Nat), s.Up ∧ s.served = true ∧ k < 4 ∧ bit s.boot.otp.revoked k = false ∧ s.boot.otp.intents.length < 64 :=
  ⟨wRun id id [], 2, up_of (by decide +kernel), (by decide +kernel), (by decide +kernel), (by decide +kernel), (by decide +kernel)⟩

end C20

namespace C21

def sxk : SessSt := { State.newSess 9 [] [] [] 5 0 with high := 10 }
def hdl (kt o : Nat) : Handle := ⟨2, 0, kt, [0xFF, 0xFF, 0, 0xFF, 0x1F], [kLabel], [77], kRid, 32, o, false⟩
def wK (role kt : Nat) (f : KeySt → KeySt) : State := { hold up [(O1C.SESS_STATE 3, 2), (O1C.SESS_ROLE 3, role), (O1C.SESS_STATE 0x21, 2), (O1C.SESS_ROLE 0x21, role), (O19.REMASK_PASSES, 4), (O19.HANDLE_STATE 0x105, 1)] with sess := [(3, sxk), (0x21, sxk)], keys := f { up.keys with rootId := kRid, handles := [(0x105, hdl kt 3)] }, tick := { up.tick with clock := 1000000 } }
def path1 : List Byte := [1, 0, 0, 0] ++ kLabel
def at0F : List Byte := [0, 0x30, 0, 0xFF, 0x0F]
def gBody : List Byte := [1, 0] ++ at0F ++ [0, 0, 0]
def gOpen (kt : Nat) : Opened := ⟨1, at0F, 0, 0, (hdl kt 3).root, (hdl kt 3).rootId, (hdl kt 3).labels, (hdl kt 3).path, []⟩
def wLc (n : Nat) : State := { wK 2 1 id with boot := { up.boot with otp := { up.boot.otp with lc := [0, n] } } }
def wPrev : State := wK 2 1 fun k => { k with rootId := [9], prevId := kRid }
theorem openBlob_prev {s : State} {kind p : Nat} (hid : s.keys.rootId ≠ kRid) (hpid : s.keys.prevId = kRid) (hram : s.keys.ram = []) (hg : s.keys.gens = []) (hl : bit 0xFF (s.n O18.LC_STATE) = true)
    (hk : (BitVec.ofNat 8 kind).toNat = kind) (hp : natBE (slice (kBlob s kind p) 14 2) = p)
    (h2 : ¬ (2 < kind)) (h0 : ¬ (kind = 0 ∧ p ≠ 0)) :
    s.openBlob (kBlob s kind p) = .ok { kOpen s kind p with root := 1 } := by
  have hgen : ∀ n, s.genOf n = 0 := by intro n; simp [State.genOf, hg]
  have hr : s.ramKey 1 48 = s.ramKey 0 48 := by simp [State.ramKey, hram, SMap.find?]
  obtain ⟨a4, a5, a6, a13⟩ := kBlob_b s kind p
  unfold State.openBlob
  dsimp only
  have e1 : BitVec.toNat (1 : Byte) = 1 := rfl
  have hsel : ¬ (slice (kBlob s kind p) 16 8 = s.keys.rootId) := by rw [kBlob_rid]; exact fun h => hid h.symm
  simp only [if_neg hsel]
  simp only [a4, a5, a6, a13, hk, e1, kBlob_labels, kBlob_attrs, kBlob_rid, kBlob_iv, kBlob_ct, kBlob_tag, kBlob_take, hp]
  rw [if_neg (by rw [kBlob_length]; rintro (h | h | h) <;> revert h <;> first | decide | (intro h; exact h rfl))]
  rw [if_neg (by
    rintro (h | h | h | h | h | h | h | h | h | h)
    · revert h; decide
    · revert h; decide
    · exact h2 h
    · revert h; decide
    · revert h; decide
    · exact h0 h
    · exact absurd h (by show ¬ (List.any (zeros 224) _ = true); decide)
    · exact absurd h (by show ¬ (List.any (zeros 28) _ = true); decide)
    · revert h; decide
    · revert h; decide)]
  have hne : ¬ kRid = [] := by decide
  simp only [State.rootBy, hpid, hne, if_false, Nat.one_ne_zero, hr]
  rw [if_neg (by
    rintro (h | h | h | h | h | h)
    · exact h rfl
    · revert h; decide
    · revert h; decide
    · revert h; decide
    · revert h; decide
    · exact h hl)]
  rw [if_neg (by
    show ¬ (_ ≠ zeros 32)
    simp [nodeIds, hgen]
    decide)]
  simp only [gcmOpen, kKey, if_true]
  rfl

theorem meets_KeyRequestsAreAnsweredInKeyResult_1 : ∃ (s : State) (sess root h : Nat) (body key id : List Byte) (labels : List (List Byte)), s.KeyReady sess 1 ∧ root ≤ 1 ∧ State.bodyPath body = .ok labels ∧ s.rootBy root = some (key, id) ∧ s.freeHandle h = OK :=
  ⟨wK 1 1 id, 3, 0, 0x106, path1, zeros 48, kRid, [kLabel], keyReady_of (by decide +kernel), (by decide +kernel), rfl, (by decide +kernel), (by decide +kernel)⟩

theorem meets_KeyRequestsAreAnsweredInKeyResult_2 : ∃ (s : State) (sess h : Nat) (body : List Byte) (o : Opened), s.KeyReady sess 2 ∧ s.openBlob body = .ok o ∧ s.freeHandle h = OK :=
  ⟨wK 1 1 id, 3, 0x106, kBlob (wK 1 1 id) 0 0, kOpen (wK 1 1 id) 0 0, keyReady_of (by decide +kernel), (openBlob_k (s := wK 1 1 id) rfl rfl (by decide +kernel) rfl rfl (by decide) (by decide)), (by decide +kernel)⟩

theorem meets_KeyRequestsAreAnsweredInKeyResult_3 : ∃ (s : State) (sess h e : Nat) (body : List Byte), s.KeyReady sess 2 ∧ 0x100 ≤ h ∧ h < 0x200 ∧ s.openBlob body = .error e ∧ e ≠ REVOKED :=
  ⟨wK 1 1 id, 3, 0x106, TYPE, [1], keyReady_of (by decide +kernel), (by decide +kernel), (by decide +kernel), rfl, (by decide +kernel)⟩

theorem meets_KeyRequestsAreAnsweredInKeyResult_4 : ∃ (s : State) (sess h : Nat) (x : Handle), s.KeyReady sess 3 ∧ 0x100 ≤ h ∧ h < 0x200 ∧ s.handle? h = some x ∧ x.owner = sess ∧ SMap.rising s.keys.handles = true ∧ SMap.rising s.keys.ram = true :=
  ⟨wK 1 1 id, 3, 0x105, hdl 1 3, keyReady_of (by decide +kernel), (by decide +kernel), (by decide +kernel), (by decide +kernel), (by decide +kernel), (by decide +kernel), (by decide +kernel)⟩

theorem meets_KeyRequestsAreAnsweredInKeyResult_5 : ∃ (s : State) (sess h : Nat) (x : Handle), s.KeyReady sess 3 ∧ 0x100 ≤ h ∧ h < 0x200 ∧ s.handle? h = some x ∧ x.owner ≠ sess :=
  ⟨wK 1 1 fun k => { k with handles := [(0x105, hdl 1 4)] }, 3, 0x105, hdl 1 4, keyReady_of (by decide +kernel), (by decide +kernel), (by decide +kernel), (by decide +kernel), (by decide +kernel)⟩

theorem meets_KeyRequestsAreAnsweredInKeyResult_6 : ∃ (s : State) (sess kek n : Nat) (body : List Byte) (x : Handle) (o : Opened), s.KeyReady sess 4 ∧ body.length = 10 ∧ s.useHandle sess kek 4 = .ok x ∧ State.wrapHead body x = .ok o ∧ s.noEntropy = false ∧ (if o.keyType = 1 then 32 else 48) = n :=
  ⟨wK 1 1 id, 3, 0x105, 32, gBody, hdl 1 3, gOpen 1, keyReady_of (by decide +kernel), (by decide +kernel), rfl, rfl, (by decide +kernel), (by decide +kernel)⟩

theorem meets_KeyRequestsAreAnsweredInKeyResult_7 : ∃ (s : State) (sess kek n : Nat) (body : List Byte) (x : Handle) (o : Opened), s.KeyReady sess 5 ∧ (mailboxSess sess = false ∨ s.b O1C.MAILBOX_SEAL = true) ∧ (if (body.getD 0 0).toNat = 1 then 32 else 48) = n ∧ body.length = 10 + n ∧ s.useHandle sess kek 4 = .ok x ∧ State.wrapHead body x = .ok o ∧ s.noEntropy = false :=
  ⟨wK 2 1 id, 3, 0x105, 32, gBody ++ zeros 32, hdl 1 3, gOpen 1, keyReady_of (by decide +kernel), (by decide +kernel), (by decide +kernel), (by decide +kernel), rfl, rfl, (by decide +kernel)⟩

theorem meets_KeyRequestsAreAnsweredInKeyResult_8 : ∃ (s : State) (sess kek : Nat) (body : List Byte), s.KeyReady sess 5 ∧ mailboxSess sess = true ∧ s.b O1C.MAILBOX_SEAL = false :=
  ⟨wK 2 1 id, 0x21, 0x105, gBody, keyReady_of (by decide +kernel), (by decide +kernel), (by decide +kernel)⟩

theorem meets_KeyRequestsAreAnsweredInKeyResult_9 : ∃ (s : State) (sess kek : Nat) (body : List Byte), s.Up ∧ s.served = true ∧ s.n (O1C.SESS_STATE sess) = 2 ∧ (s.sess? sess).isSome = true ∧ s.n (O1C.SESS_ROLE sess) = 1 :=
  ⟨wK 1 1 id, 3, 0x105, gBody, up_of (by decide +kernel), (by decide +kernel), (by decide +kernel), (by decide +kernel), (by decide +kernel)⟩

theorem meets_KeyRequestsAreAnsweredInKeyResult_10 : ∃ (s : State) (sess h a : Nat) (body : List Byte) (x : Handle), s.KeyReady sess 6 ∧ natBE (body.take 2) = a ∧ a ≤ 256 ∧ natBE (slice body 2 2) = 0 ∧ 4 + a < body.length ∧ body.length ≤ 4100 + a ∧ s.useHandle sess h 0 = .ok x ∧ x.keyType ≠ 2 ∧ s.noEntropy = false :=
  ⟨wK 1 1 id, 3, 0x105, 0, [0, 0, 0, 0, 7], hdl 1 3, keyReady_of (by decide +kernel), (by decide +kernel), (by decide +kernel), (by decide +kernel), (by decide +kernel), (by decide +kernel), rfl, (by decide +kernel), (by decide +kernel)⟩

theorem meets_KeyRequestsAreAnsweredInKeyResult_11 : ∃ (s : State) (sess h a n : Nat) (body : List Byte) (x : Handle), s.KeyReady sess 7 ∧ natBE (body.take 2) = a ∧ a ≤ 256 ∧ natBE (slice body 2 2) = 0 ∧ body.length = 32 + a + n ∧ 0 < n ∧ n ≤ 4096 ∧ s.useHandle sess h 1 = .ok x ∧ x.keyType ≠ 2 :=
  ⟨wK 1 1 id, 3, 0x105, 0, 1, zeros 33, hdl 1 3, keyReady_of (by decide +kernel), (by decide +kernel), (by decide +kernel), (by decide +kernel), (by decide +kernel), (by decide +kernel), (by decide +kernel), rfl, (by decide +kernel)⟩

theorem meets_KeyRequestsAreAnsweredInKeyResult_12 : ∃ (s : State) (sess h : Nat) (body : List Byte) (x : Handle), s.KeyReady sess 8 ∧ body ≠ [] ∧ body.length ≤ 4096 ∧ s.useHandle sess h 2 = .ok x ∧ x.keyType ≠ 1 :=
  ⟨wK 1 2 id, 3, 0x105, [1, 2], hdl 2 3, keyReady_of (by decide +kernel), (by decide +kernel), (by decide +kernel), rfl, (by decide +kernel)⟩

theorem meets_KeyRequestsAreAnsweredInKeyResult_13 : ∃ (s : State) (sess h e : Nat) (body : List Byte), s.KeyReady sess 8 ∧ body ≠ [] ∧ body.length ≤ 4096 ∧ s.useHandle sess h 2 = .error e :=
  ⟨wK 1 2 id, 3, 0x106, DENIED, [1, 2], keyReady_of (by decide +kernel), (by decide +kernel), (by decide +kernel), rfl⟩

theorem meets_KeyRequestsAreAnsweredInKeyResult_14 : ∃ (s : State) (sess h : Nat) (body : List Byte), s.Up ∧ s.served = true ∧ s.n (O1C.SESS_STATE sess) = 2 ∧ (s.sess? sess).isSome = true ∧ State.opRole 8 (s.n (O1C.SESS_ROLE sess)) = true ∧ s.n O19.KS_STATE = 2 :=
  ⟨(wK 1 2 id).setN O19.KS_STATE 2, 3, 0x105, [1, 2], up_of (by decide +kernel), (by decide +kernel), (by decide +kernel), (by decide +kernel), (by decide +kernel), (by decide +kernel)⟩

theorem meets_KeyRequestsAreAnsweredInKeyResult_15 : ∃ (s : State) (sess root node g : Nat) (body key id : List Byte) (labels : List (List Byte)), s.KeyReady sess 9 ∧ root ≤ 1 ∧ State.bodyPath body = .ok labels ∧ s.rootBy root = some (key, id) ∧ (nodeIds id labels).getLast?.getD 0 = node ∧ s.genOf node = g ∧ g < 0xFFFFFFFF ∧ s.keys.gens.length < 4096 ∧ SMap.rising s.keys.handles = true :=
  ⟨wK 2 1 fun k => { k with handles := [(0x105, { hdl 1 3 with path := [(nodeIds kRid [kLabel]).getLast?.getD 0] })] }, 3, 0, (nodeIds kRid [kLabel]).getLast?.getD 0, 0, path1, zeros 48, kRid, [kLabel], keyReady_of (by decide +kernel), (by decide +kernel), rfl, (by decide +kernel), rfl, (by decide +kernel), (by decide +kernel), (by decide +kernel), (by decide +kernel)⟩

theorem meets_KeyRequestsAreAnsweredInKeyResult_16 : ∃ (s : State) (sess : Nat) (body : List Byte) (o : Opened), s.KeyReady sess 10 ∧ s.openBlob body = .ok o ∧ o.root = 1 ∧ s.noEntropy = false :=
  ⟨wPrev, 3, kBlob wPrev 0 0, { kOpen wPrev 0 0 with root := 1 }, keyReady_of (by decide +kernel), (openBlob_prev (s := wPrev) (by decide) rfl rfl rfl (by decide +kernel) rfl rfl (by decide) (by decide)), (by decide +kernel), (by decide +kernel)⟩

theorem meets_KeyRequestsAreAnsweredInKeyResult_17 : ∃ (s : State) (sess : Nat) (body : List Byte) (o : Opened), s.KeyReady sess 10 ∧ s.openBlob body = .ok o ∧ o.root = 0 :=
  ⟨wK 2 1 id, 3, kBlob (wK 2 1 id) 0 0, kOpen (wK 2 1 id) 0 0, keyReady_of (by decide +kernel), (openBlob_k (s := wK 2 1 id) rfl rfl (by decide +kernel) rfl rfl (by decide) (by decide)), (by decide +kernel)⟩

theorem meets_TheKeyStoreIsKeptAndEmptied_1 : ∃ (s : State) (sess : Nat) (v : List Byte), s.Up ∧ s.served = true ∧ s.n (O1C.SESS_STATE sess) = 2 ∧ (s.sess? sess).isSome = true ∧ v.length = 97 ∧ s.n O18.LC_STATE = 1 ∧ s.b O19.ENROLLED = false ∧ s.n O19.KS_STATE ≠ 2 ∧ s.noEntropy = false ∧ s.spFrozen = false :=
  ⟨wLc 1, 3, zeros 97, up_of (by decide +kernel), (by decide +kernel), (by decide +kernel), (by decide +kernel), (by decide +kernel), (by decide +kernel), (by decide +kernel), (by decide +kernel), (by decide +kernel), (by decide +kernel)⟩

theorem meets_TheKeyStoreIsKeptAndEmptied_2 : ∃ (s : State) (sess : Nat) (v : List Byte), s.Up ∧ v.length = 97 ∧ s.n O18.LC_STATE ≠ 1 :=
  ⟨wLc 2, 3, zeros 97, up_of (by decide +kernel), (by decide +kernel), (by decide +kernel)⟩

theorem meets_TheKeyStoreIsKeptAndEmptied_3 : ∃ (s : State) (sess : Nat) (v m : List Byte), s.Up ∧ s.served = true ∧ s.n (O1C.SESS_STATE sess) = 2 ∧ (s.sess? sess).isSome = true ∧ v.length = 32 ∧ s.n O18.LC_STATE = 2 ∧ s.n O19.KS_STATE ≠ 2 ∧ s.spFrozen = false ∧ magicAttest ++ [1] ++ bytesBE 1 2 ++ bytesBE 1 (s.n O18.LC_COUNT) ++ bytesBE 1 (s.n O00.PART) ++ s.serialBytes ++ padTo 48 s.boot.measurement ++ v ++ bytesBE 8 s.tick64 ++ bytesBE 4 (s.n O00.NELOAS_VERSION) ++ bytesBE 2 (State.imageSvn s.boot.image) ++ bytesBE 2 (s.n O18.SVN_OTP) = m :=
  ⟨wLc 2, 3, zeros 32, magicAttest ++ [1] ++ bytesBE 1 2 ++ bytesBE 1 ((wLc 2).n O18.LC_COUNT) ++ bytesBE 1 ((wLc 2).n O00.PART) ++ (wLc 2).serialBytes ++ padTo 48 (wLc 2).boot.measurement ++ zeros 32 ++ bytesBE 8 (wLc 2).tick64 ++ bytesBE 4 ((wLc 2).n O00.NELOAS_VERSION) ++ bytesBE 2 (State.imageSvn (wLc 2).boot.image) ++ bytesBE 2 ((wLc 2).n O18.SVN_OTP), up_of (by decide +kernel), (by decide +kernel), (by decide +kernel), (by decide +kernel), (by decide +kernel), (by decide +kernel), (by decide +kernel), (by decide +kernel), rfl⟩

theorem meets_TheKeyStoreIsKeptAndEmptied_4 : ∃ (s : State), s.Up ∧ s.served = true ∧ s.member = .tmn9624 ∧ s.n O19.KS_STATE ≠ 2 ∧ s.spFrozen = false ∧ SMap.rising s.keys.ram = true :=
  ⟨wK 2 1 fun k => { k with prevId := kRid, ram := [(1, (zeros 64, [7])), (3, ([1], [2]))], transfer := [1] }, up_of (by decide +kernel), (by decide +kernel), (by decide +kernel), (by decide +kernel), (by decide +kernel), (by decide +kernel)⟩

theorem meets_TheKeyStoreIsKeptAndEmptied_5 : ∃ (s : State), s.Up ∧ s.member ≠ .tmn9624 :=
  ⟨{ wK 2 1 id with member := .tmn9612 }, up_of (by decide +kernel), (by decide +kernel)⟩

theorem meets_TheKeyStoreIsKeptAndEmptied_6 : ∃ (s : State) (v : Nat), s.Up ∧ s.served = true ∧ bit v 12 = true ∧ v &&& 0x1F0F = v ∧ v ≠ s.n O19.TAMPER_CONFIG :=
  ⟨wK 2 1 id, 0x1001, up_of (by decide +kernel), (by decide +kernel), (by decide +kernel), (by decide +kernel), (by decide +kernel)⟩

theorem meets_TheKeyStoreIsKeptAndEmptied_7 : ∃ (s : State) (v : Nat), s.Up ∧ bit v 12 = false :=
  ⟨wK 2 1 id, 1, up_of (by decide +kernel), (by decide +kernel)⟩

theorem meets_TheKeyStoreIsKeptAndEmptied_8 : ∃ (s : State) (v m : List Byte), s.Up ∧ SMap.find? s.keys.ram s.keys.next = some (v, m) ∧ v.length = 64 ∧ m.length = 64 :=
  ⟨wK 2 1 fun k => { k with next := 5, ram := [(1, (zeros 64, [7])), (5, ([1] ++ zeros 63, [2] ++ zeros 63))] }, [1] ++ zeros 63, [2] ++ zeros 63, up_of (by decide +kernel), (by decide +kernel), (by decide +kernel), (by decide +kernel)⟩

theorem meets_TheKeyStoreIsKeptAndEmptied_9 : ∃ (s : State) (n : Nat), s.Up ∧ s.keys.next = 511 ∧ s.Holds O19.REMASK_PASSES n ∧ n + 1 < 2 ^ bitsOf O19.REMASK_PASSES :=
  ⟨wK 2 1 fun k => { k with next := 511 }, 4, up_of (by decide +kernel), (by decide +kernel), (by unfold State.Holds; decide +kernel), (by decide +kernel)⟩

theorem meets_TheKeyStoreIsKeptAndEmptied_10 : ∃ (s : State), s.Up ∧ s.noEntropy = false ∧ s.keys.reseedAt + 192000 ≤ s.now :=
  ⟨wK 2 1 id, up_of (by decide +kernel), (by decide +kernel), (by decide +kernel)⟩

theorem meets_TheKeyStoreIsKeptAndEmptied_11 : ∃ (s : State), s.Up ∧ s.now < s.keys.reseedAt + 192000 :=
  ⟨wK 2 1 fun k => { k with reseedAt := 900000 }, up_of (by decide +kernel), (by decide +kernel)⟩

theorem meets_TheKeyStoreIsKeptAndEmptied_12 : ∃ (s : State), s.Up ∧ s.noEntropy = false ∧ (s.keys.fails.any fun t => decide (s.now < t + 192000)) = false :=
  ⟨wK 2 1 fun k => { k with fails := [5] }, up_of (by decide +kernel), (by decide +kernel), (by decide +kernel)⟩

theorem meets_TheKeyStoreIsKeptAndEmptied_13 : ∃ (s : State), s.Up ∧ s.noEntropy = false ∧ (s.keys.fails.any fun t => decide (s.now < t + 192000)) = true :=
  ⟨wK 2 1 fun k => { k with fails := [900000] }, up_of (by decide +kernel), (by decide +kernel), (by decide +kernel)⟩

theorem meets_TheKeyStoreIsKeptAndEmptied_14 : ∃ (s : State), s.Up ∧ s.noEntropy = true ∧ s.keys.fails.headD 0 + 1920000 ≤ s.now :=
  ⟨{ (wK 2 1 fun k => { k with fails := [900000] }).setN O19.ENTROPY_STATE 1 with tick := { up.tick with clock := 3000000 } }, up_of (by decide +kernel), (by decide +kernel), (by decide +kernel)⟩

theorem meets_TheKeyStoreIsKeptAndEmptied_15 : ∃ (s : State), s.Up ∧ s.noEntropy = true ∧ s.keys.fails.headD 0 + 1920000 ≤ s.now :=
  ⟨{ (wK 2 1 fun k => { k with fails := [900000] }).setN O19.ENTROPY_STATE 1 with tick := { up.tick with clock := 3000000 } }, up_of (by decide +kernel), (by decide +kernel), (by decide +kernel)⟩

theorem meets_TheKeyStoreIsKeptAndEmptied_16 : ∃ (s : State) (passed : Bool), s.Up ∧ s.now < s.keys.fails.headD 0 + 1920000 :=
  ⟨(wK 2 1 fun k => { k with fails := [900000] }).setN O19.ENTROPY_STATE 1, true, up_of (by decide +kernel), (by decide +kernel)⟩

theorem meets_TheKeyStoreIsKeptAndEmptied_18 : ∃ (s : State) (pins : Nat), s.Up ∧ s.phase = .running ∧ s.asserted pins &&& s.asserted s.keys.pins ≠ 0 ∧ s.n O19.KS_STATE ≠ 2 :=
  ⟨wK 2 1 fun k => { k with pins := 31, ram := [(1, (zeros 64, [7]))] }, 31, up_of (by decide +kernel), (by decide +kernel), (by decide +kernel), (by decide +kernel)⟩

theorem meets_TheKeyStoreIsKeptAndEmptied_19 : ∃ (s : State) (pins : Nat), s.Up ∧ s.asserted pins &&& s.asserted s.keys.pins = 0 :=
  ⟨wK 2 1 id, 31, up_of (by decide +kernel), (by decide +kernel)⟩

end C21

namespace C22

def wEv (f : List (Key × Nat)) : State := { hold up ([(O1A.EV_STATUS 0x041, 1), (O1A.EV_COUNT 0x041, 0xFFFFFFFF), (O1A.EV_STATUS 0x013, 3)] ++ f) with evu := { up.evu with seq := 0xFFFFFFFF, made := 256 } }
def rFl : ObjRow := ⟨0x0E, [(0x0, 0x7FF)], 0x030, 1, false, .bits32, .RW, 2, .num 0, .mask 0x3F, false⟩
def rPr : ObjRow := ⟨0x08, [(0x0, 0xBF), (0x100, 0x8FF)], 0x006, 1, false, .bool, .W, 3, .num 0, .u 0 1, false⟩
def rMk : ObjRow := ⟨0x1A, [(0x0, 0xFFF)], 0x001, 1, false, .bool, .WP, 2, .num 0, .u 0 1, false⟩
def kFlg : Key := obKey 0x0E 5 0x030
def wFl : State := hold up [(kFlg, 0x2B)]
def kIn : Key := O06.IN_FLAGS 5
def rIn : ObjRow := (rowOf kIn).getD rFl
def wGrp : State := hold up [(O06.IN_LINK_MODE 5, 3), (kIn, 3)]
def kPr : Key := obKey 0x08 5 0x006
def kMk : Key := O1A.EV_MASK 0x041
def wHeld : State := { wFl with phase := .tamperWait }
def wJs (f : List (Key × Nat)) : State := hold up ([(O1B.JOB_STATE 0, 4), (O05.CLIP_STATE 0x105, 3), (O05.CLIP_STATE 0x106, 1), (O11.RX_STATE 5, 3), (O18.LC_STATE, 2), (O13.DOMAIN_STATE, 6), (O13.DEVICE_ID, 9), (O13.MEMBER_STATE 0x107, 2)] ++ f)
def wMt (k : Key) : State := hold up [(O1B.JOB_STATE 0, 3), (O1B.JOB_OBJECT 0, k)]

theorem meets_ARaisingMarksItsEvent_1 : ∃ (s : State) (event inst m n : Nat) (detail : List Byte), s.Up ∧ definedEvent event = true ∧ detail.length ≤ 40 ∧ s.Holds (O1A.EV_STATUS event) m ∧ s.Holds (O1A.EV_COUNT event) n :=
  ⟨wEv [], 0x041, 0xFFFF, 1, 0xFFFFFFFF, [1, 2], up_of (by decide +kernel), (by decide +kernel), (by decide +kernel), (by unfold State.Holds; decide +kernel), (by unfold State.Holds; decide +kernel)⟩

theorem meets_ARaisingMarksItsEvent_2 : ∃ (s : State) (event inst : Nat) (detail : List Byte), s.Up ∧ definedEvent event = false :=
  ⟨wEv [], 0x05B, 0xFFFF, [], up_of (by decide +kernel), (by decide +kernel)⟩

theorem meets_EventsAreMaskedRecordedAndCleared_1 : ∃ (s : State) (event inst : Nat) (detail : List Byte), s.Up ∧ definedEvent event = true ∧ detail.length ≤ 40 ∧ s.b (O1A.EV_MASK event) = true :=
  ⟨wEv [(O1A.EV_MASK 0x041, 1)], 0x041, 0xFFFF, [1, 2], up_of (by decide +kernel), (by decide +kernel), (by decide +kernel), (by decide +kernel)⟩

theorem meets_EventsAreMaskedRecordedAndCleared_2 : ∃ (s : State) (event inst : Nat) (detail : List Byte), s.Up ∧ definedEvent event = true ∧ detail.length ≤ 40 ∧ s.b (O1A.EV_MASK event) = false ∧ (s.evu.made < 256 ∨ event = 0x1A1) :=
  ⟨{ wEv [] with evu := { (wEv []).evu with made := 255 } }, 0x041, 0xFFFF, [1, 2], up_of (by decide +kernel), (by decide +kernel), (by decide +kernel), (by decide +kernel), (by decide +kernel)⟩

theorem meets_EventsAreMaskedRecordedAndCleared_3 : ∃ (s : State) (event inst : Nat) (detail : List Byte), s.Up ∧ definedEvent event = true ∧ detail.length ≤ 40 ∧ s.b (O1A.EV_MASK event) = false ∧ 256 ≤ s.evu.made ∧ event ≠ 0x1A1 :=
  ⟨wEv [], 0x041, 0xFFFF, [1, 2], up_of (by decide +kernel), (by decide +kernel), (by decide +kernel), (by decide +kernel), (by decide +kernel), (by decide +kernel)⟩

theorem meets_EventsAreMaskedRecordedAndCleared_4 : ∃ (s : State), s.Up ∧ s.served = true :=
  ⟨wEv [], up_of (by decide +kernel), (by decide +kernel)⟩

theorem meets_EventsAreMaskedRecordedAndCleared_5 : ∃ (s : State), s.Up ∧ s.closed = false :=
  ⟨wEv [(O1A.EV_MASK 0x041, 1), (O1A.EV_ROUTE 0x013, 31), (O1A.EV_SEVERITY 0x041, 4)], up_of (by decide +kernel), (by decide +kernel)⟩

theorem meets_EventsAreMaskedRecordedAndCleared_6 : ∃ (s : State), s.Up ∧ s.closed = true :=
  ⟨{ wEv [(O1A.EV_MASK 0x041, 1)] with phase := .neloas }, up_of (by decide +kernel), (by decide +kernel)⟩

theorem meets_StatusBitsAreWriteOneToClear_1 : ∃ (s : State) (role k m flags : Nat) (r : ObjRow) (val : List Byte), s.Up ∧ s.answers = true ∧ s.heldBack role k false = false ∧ s.itemVal k role flags val State.mayWrite = .ok (r, .num m) ∧ s.itemStatus k (.num m) = OK ∧ r.acc = .RW ∧ s.groupMember k = false :=
  ⟨wFl, 1, kFlg, 9, 0, rFl, [0, 0, 0, 9], up_of (by decide +kernel), (by decide +kernel), (by decide +kernel), (by decide +kernel), (by decide +kernel), (by decide +kernel), (by decide +kernel)⟩

theorem meets_StatusBitsAreWriteOneToClear_2 : ∃ (s : State) (role k m flags : Nat) (r : ObjRow) (val : List Byte), s.Up ∧ s.itemVal k role flags val State.mayWrite = .ok (r, .num m) ∧ r.acc = .RW ∧ s.groupMember k = true :=
  ⟨wGrp, 1, kIn, 1, 0, rIn, [0, 0, 0, 1], up_of (by decide +kernel), (by decide +kernel), (by decide +kernel), (by decide +kernel)⟩

theorem meets_StatusBitsAreWriteOneToClear_3 : ∃ (s : State) (event mask : Nat), s.Up ∧ s.served = true ∧ event < 0x1000 ∧ mask < 4 :=
  ⟨wEv [], 0x013, 2, up_of (by decide +kernel), (by decide +kernel), (by decide +kernel), (by decide +kernel)⟩

theorem meets_RegisterWritesTakeEffectOrAreRefused_1 : ∃ (s : State) (role k flags : Nat) (r : ObjRow) (v : Val) (val : List Byte), s.Up ∧ s.answers = true ∧ s.heldBack role k false = false ∧ (clsOf k = 0x08 ∨ clsOf k = 0x0F) ∧ ownKey k = false ∧ s.itemVal k role flags val State.mayWrite = .ok (r, v) ∧ s.itemStatus k v = OK ∧ r.acc = .W :=
  ⟨wFl, 1, kPr, 0, rPr, .num 1, [1], up_of (by decide +kernel), (by decide +kernel), (by decide +kernel), (by decide +kernel), (by decide +kernel), (by decide +kernel), (by decide +kernel), (by decide +kernel)⟩

theorem meets_RegisterWritesTakeEffectOrAreRefused_2 : ∃ (s : State) (role k flags : Nat) (r : ObjRow) (v : Val) (val : List Byte), s.Up ∧ s.answers = true ∧ s.heldBack role k false = false ∧ clsOf k = 0x1A ∧ s.itemVal k role flags val State.mayWrite = .ok (r, v) ∧ s.itemStatus k v = OK ∧ r.acc = .WP ∧ s.accepts = true ∧ s.roomForWrite [(k, v)] = true :=
  ⟨wFl, 1, kMk, 0, rMk, .num 1, [1], up_of (by decide +kernel), (by decide +kernel), (by decide +kernel), (by decide +kernel), (by decide +kernel), (by decide +kernel), (by decide +kernel), (by decide +kernel), (by decide +kernel)⟩

theorem meets_RegisterWritesTakeEffectOrAreRefused_3 : ∃ (s : State) (role k flags e : Nat) (val : List Byte), s.Up ∧ s.itemVal k role flags val State.mayWrite = .error e :=
  ⟨wFl, 0, kMk, 0, DENIED, [1], up_of (by decide +kernel), (by decide +kernel)⟩

theorem meets_RegisterWritesTakeEffectOrAreRefused_4 : ∃ (s : State) (role k flags : Nat) (val : List Byte), s.Up ∧ s.heldBack role k false = true :=
  ⟨wHeld, 1, kMk, 0, [1], up_of (by decide +kernel), (by decide +kernel)⟩

theorem meets_JobsStartRunOrWait_1 : ∃ (s : State) (sess which j : Nat), s.JobFree O05.MEMTEST j ∧ which ≤ stackCount s.member ∧ which ≤ 4 :=
  ⟨wJs [], 3, 1, 1, ⟨up_of (by decide +kernel), by decide +kernel, by decide +kernel, by decide +kernel⟩, (by decide +kernel), (by decide +kernel)⟩

theorem meets_JobsStartRunOrWait_2 : ∃ (s : State) (sess clip j : Nat), s.JobFree (O05.CLIP_LOAD clip) j ∧ s.present 0x05 clip = true ∧ 0x100 ≤ clip ∧ (s.Holds (O05.CLIP_STATE clip) 1 ∨ ((s.Holds (O05.CLIP_STATE clip) 3 ∨ s.Holds (O05.CLIP_STATE clip) 4) ∧ s.clipRead clip = false)) :=
  ⟨wJs [], 3, 0x106, 1, ⟨up_of (by decide +kernel), by decide +kernel, by decide +kernel, by decide +kernel⟩, (by decide +kernel), (by decide +kernel), (by unfold State.Holds; decide +kernel)⟩

theorem meets_JobsStartRunOrWait_3 : ∃ (s : State) (sess clip j : Nat), s.JobFree (O05.CLIP_SAVE clip) j ∧ s.present 0x05 clip = true ∧ 0x100 ≤ clip ∧ (s.Holds (O05.CLIP_STATE clip) 3 ∨ s.Holds (O05.CLIP_STATE clip) 4) :=
  ⟨wJs [], 3, 0x105, 1, ⟨up_of (by decide +kernel), by decide +kernel, by decide +kernel, by decide +kernel⟩, (by decide +kernel), (by decide +kernel), (by unfold State.Holds; decide +kernel)⟩

theorem meets_JobsStartRunOrWait_4 : ∃ (s : State) (sess slot j : Nat), s.JobFree (O09.LUT_LOAD slot) j ∧ s.present 0x09 slot = true ∧ 0xC00 ≤ slot :=
  ⟨wJs [], 3, 0xC01, 1, ⟨up_of (by decide +kernel), by decide +kernel, by decide +kernel, by decide +kernel⟩, (by decide +kernel), (by decide +kernel)⟩

theorem meets_JobsStartRunOrWait_5 : ∃ (s : State) (sess lane j : Nat), s.JobFree (O11.EYE_SCAN lane) j ∧ s.present 0x11 lane = true ∧ s.Holds (O11.RX_STATE lane) 3 ∧ ((List.range 64).filter fun i => clsOf (s.n (O1B.JOB_OBJECT i)) == 0x11 && decide (2 ≤ s.n (O1B.JOB_STATE i)) && decide (s.n (O1B.JOB_STATE i) ≤ 3)).length < 8 :=
  ⟨wJs [], 3, 5, 1, ⟨up_of (by decide +kernel), by decide +kernel, by decide +kernel, by decide +kernel⟩, (by decide +kernel), (by unfold State.Holds; decide +kernel), (by decide +kernel)⟩

theorem meets_JobsStartRunOrWait_6 : ∃ (s : State) (sess j : Nat), s.JobFree O18.FW_UPDATE j ∧ s.n O18.TRIAL_STATE ≠ 1 ∧ s.n O18.TRIAL_STATE ≠ 2 :=
  ⟨wJs [(O1B.JOBS_RUNNING, 9), (O1B.JOBS_LIMIT, 2)], 3, 1, ⟨up_of (by decide +kernel), by decide +kernel, by decide +kernel, by decide +kernel⟩, (by decide +kernel), (by decide +kernel)⟩

theorem meets_JobsStartRunOrWait_7 : ∃ (s : State) (sess j : Nat) (value : List Byte), s.JobFree O19.KEY_MIGRATE j ∧ s.member = .tmn9624 ∧ (value.length = 48 ∨ (value = [] ∧ s.transferHere = true)) ∧ s.n O18.LC_STATE = 2 :=
  ⟨wJs [], 3, 1, zeros 48, ⟨up_of (by decide +kernel), by decide +kernel, by decide +kernel, by decide +kernel⟩, (by decide +kernel), (by decide +kernel), (by decide +kernel)⟩

theorem meets_JobsStartRunOrWait_8 : ∃ (s : State) (sess j : Nat), s.JobFree O1C.JOURNAL_COMPACT j :=
  ⟨wJs [], 3, 1, ⟨up_of (by decide +kernel), by decide +kernel, by decide +kernel, by decide +kernel⟩⟩

theorem meets_JobsStartRunOrWait_9 : ∃ (s : State) (sess scope j : Nat), s.JobFree O00.CONFIG_EXPORT j ∧ s.jobOf O00.CONFIG_IMPORT = none ∧ (scope ≤ 0x1C ∨ scope = 0xFF) :=
  ⟨wJs [(O1B.JOBS_RUNNING, 9), (O1B.JOBS_LIMIT, 2)], 3, 0xFF, 1, ⟨up_of (by decide +kernel), by decide +kernel, by decide +kernel, by decide +kernel⟩, (by decide +kernel), (by decide +kernel)⟩

theorem meets_JobsStartRunOrWait_10 : ∃ (s : State) (sess mode j : Nat), s.JobFree O00.CONFIG_IMPORT j ∧ s.jobOf O00.CONFIG_EXPORT = none ∧ mode ≤ 1 :=
  ⟨wJs [], 3, 1, 1, ⟨up_of (by decide +kernel), by decide +kernel, by decide +kernel, by decide +kernel⟩, (by decide +kernel), (by decide +kernel)⟩

theorem meets_JobsStartRunOrWait_11 : ∃ (s : State) (sess device j : Nat), s.JobFree O13.RESYNC j ∧ SMap.rising s.jobs = true ∧ s.domainState = 6 ∧ device < 1024 ∧ (s.Holds (O13.MEMBER_STATE (0x100 + device)) 2 ∨ s.Holds (O13.MEMBER_STATE (0x100 + device)) 3) ∧ device ≠ s.n O13.DEVICE_ID :=
  ⟨wJs [(O13.BACKUP_DEVICE, 7)], 3, 7, 1, ⟨up_of (by decide +kernel), by decide +kernel, by decide +kernel, by decide +kernel⟩, (by decide +kernel), (by decide +kernel), (by decide +kernel), (by unfold State.Holds; decide +kernel), (by decide +kernel)⟩

theorem meets_JobsStartRunOrWait_12 : ∃ (s : State) (sess which : Nat), s.Up ∧ (s.jobOf O05.MEMTEST).isSome = true :=
  ⟨wMt O05.MEMTEST, 3, 1, up_of (by decide +kernel), (by decide +kernel)⟩

theorem meets_JobsStartRunOrWait_13 : ∃ (s : State) (sess scope : Nat), s.Up ∧ (s.jobOf O00.CONFIG_IMPORT).isSome = true :=
  ⟨wMt O00.CONFIG_IMPORT, 3, 0xFF, up_of (by decide +kernel), (by decide +kernel)⟩

theorem meets_JobsStartRunOrWait_14 : ∃ (s : State) (sess mode : Nat), s.Up ∧ (s.jobOf O00.CONFIG_EXPORT).isSome = true :=
  ⟨wMt O00.CONFIG_EXPORT, 3, 1, up_of (by decide +kernel), (by decide +kernel)⟩

end C22

/-- The worked example of chapter 23: the three balls X80Y19, X48Y76 and X42Y42. -/
theorem test_three_balls : ballOf 80 19 = .gl 77 .tx false ∧ ballOf 48 76 = .slot 130 ∧ ballOf 42 42 = .rail .core := by decide +kernel

/-- R600, R672: while PORST_N is low RESET_OUT_N is low and IRQ_N is not driven. -/
theorem test_pins_in_reset : State.reset.pinResetOut = .low ∧ State.reset.pinIrq = .highZ := by decide +kernel

namespace C23

theorem meets_ARaisingMarksItsEvent_3 : ∃ (s : State) (event inst ticks last : Nat),
    SMap.find? s.evu.last (event * 0x10000 + inst) = some last ∧ s.now < last + ticks :=
  ⟨{ up with evu := { up.evu with last := [(0x55 * 0x10000 + 3, 0)] } }, 0x55, 3, 192, 0, by decide +kernel, by decide +kernel⟩

theorem meets_AStepRunsTheCommandAtTheFront_2 : ∃ s : State, s.pending = [] := ⟨up, rfl⟩

theorem meets_EveryStepKeepsTheInvariant : ∃ s t : State, s.Inv ∧ s.pending = [.ackAll] ∧ step s = .next t :=
  ⟨{ up with pending := [.ackAll] }, _, inv_of (by decide +kernel), rfl, rfl⟩

theorem meets_ADeadDeviceIsChangedByItsPinsAlone : ∃ (c : Instr) (s : State), s.alive = false ∧ actsOnDead c = false :=
  ⟨.ackAll, State.reset, rfl, rfl⟩

theorem meets_TheTickPeriodIsClamped_1 : ∃ (s : State) (v w : Nat), s.Inv ∧ (79992 * 2 ^ 40 ≤ 10 * v ∧ 10 * v ≤ 80008 * 2 ^ 40) ∧
    10 * w < 79992 * 2 ^ 40 :=
  ⟨up, 8000 * 2 ^ 40, 7999 * 2 ^ 40, inv_of (by decide +kernel), by decide +kernel, by decide +kernel⟩

theorem meets_TheTickPeriodIsClamped_2 : ∃ s : State, s.Up ∧ s.phase = .running ∧ s.Holds O01.CHAIN_STATE 0 ∧
    79992 * 2 ^ 40 ≤ 10 * s.tick.tper.toNat ∧ 10 * s.tick.tper.toNat ≤ 80008 * 2 ^ 40 :=
  ⟨up.setN O01.CHAIN_STATE 0, up_of (by decide +kernel), rfl, by unfold State.Holds; decide +kernel, by decide +kernel, by decide +kernel⟩

end C23


end Sys2Proof.Tests
end

section
/-! PROOF. Status bits (R16, R200, R667): what clearing bits leaves, how a checked write reaches an RW object, and O51. -/

namespace Sys2Proof.Machine

/-- Bit by bit, clearing keeps what the mask does not name (R16). -/
theorem bit_clearBits (n m i : Nat) : bit (clearBits n m) i = (bit n i && !bit m i) := by
  unfold bit clearBits
  rw [Nat.testBit_xor, Nat.testBit_and]
  cases n.testBit i <;> cases m.testBit i <;> rfl

theorem SameOutside.refl (parts : List Part) (regs : Key → Prop) (s : State) : SameOutside parts regs s s :=
  ⟨fun p _ => p.same_refl s, fun _ _ => rfl⟩

theorem Done.no_state (s : State) (e : Nat) : (Done.no s e).state = s := rfl

theorem parOf_obKey (c i : Nat) {p : Nat} (hp : p < 0x1000) : parOf (obKey c i p) = p := by
  have h : (c * 0x1000000 + i * 0x1000 + p) % 0x1000 = p := by omega
  exact h

/-- The row of a link mode is persistent: a write of status bits never is the SET of MEMBER that R200 refuses. -/
theorem linkRow_not_RW {r : ObjRow} {i : Nat} (hr : r ∈ rows06 ++ rows07) (hc : r.covers i 2 = true) : r.acc ≠ .RW := by
  have flagsAbove : ∀ r ∈ rows06 ++ rows07, r.acc = .RW → r.chan = false ∧ 2 < r.par := by decide
  intro ha
  obtain ⟨hchan, hpar⟩ := flagsAbove r hr ha
  simp only [ObjRow.covers, hchan, Bool.and_eq_true, decide_eq_true_eq] at hc
  exact absurd hc.2.1 (by simpa using hpar)

namespace State

variable {s : State} {role k flags m : Nat} {r : ObjRow} {v : Val} {val : List Byte}

theorem live_of_alive (h : s.alive = true) (f : State → State) : live s f = .next (f s) := by
  unfold live
  rw [if_pos h]

theorem unflag_sameOutside (s : State) (k m : Nat) : SameOutside [] (fun j => j = k) s (s.unflag k m) := by
  have w : Within ⟨s, fun _ => False, fun j => j = k⟩ (s.unflag k m) := setObj_within rfl (Within.refl s _ _)
  exact ⟨fun p _ => w.same p id, w.regs⟩

theorem bit_unflag (h : s.regsOk = true) (k m i : Nat) : bit ((s.unflag k m).n k) i = (bit (s.n k) i && !bit m i) := by
  rw [n_of_stored (stored_unflag h k m), bit_clearBits]

/-- The row of a present object is its row in the dictionary. -/
theorem rowOf_of_rowHere (h : s.rowHere k = some r) : rowOf k = some r := by
  unfold rowHere at h
  split at h
  · exact h
  · cases h

/-- A value is checked against the row of the object it is written to. -/
theorem rowHere_of_itemVal {may : ObjRow → Bool} (h : s.itemVal k role flags val may = .ok (r, v)) : s.rowHere k = some r := by
  unfold itemVal at h
  split at h
  · cases h
  · next q hq =>
    extract_lets d absent at h
    clear_value absent d
    split_ifs at h
    cases d with
    | error e => cases h
    | ok w => cases h; exact hq

/-- Only a link mode is set to MEMBER (R200). -/
theorem setsMember_eq_false_of_RW (hr : s.rowHere k = some r) (ha : r.acc = .RW) : s.setsMember k val = false := by
  have hrow := rowOf_of_rowHere hr
  unfold rowOf at hrow
  have hcov := List.find?_some hrow
  have hmem := List.mem_of_find?_eq_some hrow
  rw [← Bool.not_eq_true]
  intro hs
  simp only [setsMember, Bool.and_eq_true, Bool.or_eq_true, beq_iff_eq] at hs
  obtain ⟨⟨-, ⟨hcls, hk⟩ | ⟨hcls, hk⟩⟩, -⟩ := hs
  · have hpar : parOf k = 2 := (congrArg parOf hk).trans (parOf_obKey 0x06 _ (by decide))
    rw [hcls] at hmem
    rw [hpar] at hcov
    exact linkRow_not_RW (List.mem_append_left _ hmem) hcov ha
  · have hpar : parOf k = 2 := (congrArg parOf hk).trans (parOf_obKey 0x07 _ (by decide))
    rw [hcls] at hmem
    rw [hpar] at hcov
    exact linkRow_not_RW (List.mem_append_right _ hmem) hcov ha

/-- A SET of an RW object whose value passes the checks is a write to its status bits. -/
theorem setItem_of_RW {sess : Nat} {plan : Plan} (hv : s.itemVal k role flags val mayWrite = .ok (r, v)) (ha : r.acc = .RW) :
    s.setItem sess role k flags val plan = s.writeObj sess role k r v plan := by
  unfold setItem
  rw [setsMember_eq_false_of_RW (rowHere_of_itemVal hv) ha, hv]
  rfl

/-- Outside a link group's members, a write to an RW object clears bits (R16). -/
theorem writeObj_RW_state {sess : Nat} {plan : Plan} (hok : s.itemStatus k v = OK) (ha : r.acc = .RW) (hg : s.groupMember k = false) :
    (s.writeObj sess role k r v plan).state = s.unflag k v.toNat := by
  unfold writeObj
  simp only [hok, ha, hg]
  rfl

/-- A write to an RW object of a link group's member is refused, whatever its value (R200). -/
theorem writeObj_RW_member_state {sess : Nat} {plan : Plan} (ha : r.acc = .RW) (hg : s.groupMember k = true) :
    (s.writeObj sess role k r v plan).state = s := by
  unfold writeObj
  by_cases he : s.itemStatus k v = OK
  · simp only [he, ha, hg]
    exact Done.no_state s CONFLICT
  · simp only [ne_eq, he, not_false_eq_true, if_true]
    exact Done.no_state s _

/-- A write of a command to an RW object (R19): what it leaves where the device answers, and that it changes nothing elsewhere. -/
theorem exec_registerWrite_of_RW (halive : s.alive = true) (hv : s.itemVal k role flags val mayWrite = .ok (r, v)) (ha : r.acc = .RW) :
    exec (.registerWrite role k flags val) s = .next
      (if s.answers ∧ ¬ s.heldBack role k false then (s.writeObj 0xFFFF role k r v Plan.empty).state else s) := by
  change execRegisterWrite role k flags val s = _
  unfold execRegisterWrite
  rw [live_of_alive halive, setItem_of_RW hv ha]

/-- A write of EV_STATUS, while Neloas serves, clears bits of it (R667). -/
theorem exec_evStatus_of_served {event mask : Nat} (halive : s.alive = true) (he : event < 0x1000) (hm : mask < 4) (hs : s.served = true) :
    exec (.evStatus event mask) s = .next (s.unflag (O1A.EV_STATUS event) mask) := by
  change execEvStatus event mask s = _
  unfold execEvStatus
  rw [live_of_alive halive, if_pos ⟨he, hm, hs⟩]

end State

/-- Settles O51: every write of status bits is `State.unflag`, or is refused at a member of a link group. -/
theorem statusBitsAreWriteOneToClear : Obligations.StatusBitsAreWriteOneToClear := by
  unfold Obligations.StatusBitsAreWriteOneToClear
  refine ⟨fun s role k m flags r val hup hans hheld hv hok ha hg => ?_, fun s role k m flags r val hup hv ha hg => ?_,
    fun s event mask hup hserved he hm => ?_⟩
  · refine ⟨s.unflag k m, ?_, State.stored_unflag hup.1.1 k m, State.bit_unflag hup.1.1 k m, State.unflag_sameOutside s k m⟩
    rw [State.exec_registerWrite_of_RW hup.2 hv ha, if_pos ⟨hans, by rw [hheld]; decide⟩, State.writeObj_RW_state hok ha hg]
    rfl
  · refine ⟨s, ?_, rfl⟩
    rw [State.exec_registerWrite_of_RW hup.2 hv ha, State.writeObj_RW_member_state ha hg, ite_self]
  · exact ⟨s.unflag (O1A.EV_STATUS event) mask, State.exec_evStatus_of_served hup.2 he hm hserved,
      State.bit_unflag hup.1.1 _ mask, State.unflag_sameOutside s _ mask⟩

end Sys2Proof.Machine
end

section
/-! PROOF. The tick boundary (R43, R48): the arithmetic of the tick generator, what the work of a tick leaves of it, and O1. -/

namespace Sys2Proof.Machine

/-- The length of the next tick is the whole part of the sum, taken in 64 bits (R43). -/
theorem tickLen_eq (k : TickSt) : tickLen k = (k.tper.toNat + k.acc.toNat) % 2 ^ 64 / 2 ^ 40 := by
  rw [tickLen, tickSum, BitVec.toNat_ushiftRight, BitVec.toNat_add, Nat.shiftRight_eq_div_pow]

/-- The residue is the fraction of the sum (R43). -/
theorem tickResidue_toNat (k : TickSt) : (tickResidue k).toNat = (k.tper.toNat + k.acc.toNat) % 2 ^ 40 := by
  have hmask : (0xFFFFFFFFFF#64 : BitVec 64).toNat = 2 ^ 40 - 1 := rfl
  rw [tickResidue, tickSum, BitVec.toNat_and, hmask, Nat.and_two_pow_sub_one_eq_mod, BitVec.toNat_add,
    Nat.mod_mod_of_dvd _ (Nat.pow_dvd_pow 2 (by decide))]

theorem SameOutside.of_within {s t : State} {parts : List Part} {regs : Key → Prop} (h : Within ⟨s, (· ∈ parts), regs⟩ t) :
    SameOutside parts regs s t := ⟨h.same, h.regs⟩

namespace State

/-- Everything but the tick generator may have changed. -/
def exceptTick (s : State) : Bounds := ⟨s, (· ≠ .tick), fun _ => True⟩

variable {s t : State}

theorem tick_of_within_exceptTick (h : Within s.exceptTick t) : t.tick = s.tick := h.same .tick (not_not_intro rfl)

@[simp] theorem hbmTick_tick (s : State) : s.hbmTick.tick = s.tick := by
  refine tick_of_within_exceptTick ?_
  apply hbmTick_within (hp0 := Within.refl s _ _) <;> simp

@[simp] theorem tickWork_tick (s : State) : s.tickWork.tick = s.tick := by
  refine tick_of_within_exceptTick ?_
  apply tickWork_within (hp0 := Within.refl s _ _) <;> simp

@[simp] theorem synthTick_tick (s : State) : s.synthTick.tick = s.tick :=
  tick_of_within_exceptTick (synthTick_within nofun (Within.refl s _ _))

@[simp] theorem pinTick_tick (s : State) : s.pinTick.tick = s.tick :=
  tick_of_within_exceptTick (pinTick_within nofun nofun (Within.refl s _ _))

@[simp] theorem poolTick_tick (s : State) : s.poolTick.tick = s.tick :=
  tick_of_within_exceptTick (poolTick_within nofun (Within.refl s _ _))

/-- Where the chain has begun, a boundary moves the tick generator on, and no work of the tick touches it (R43). -/
theorem tickBoundary_tick_of_running (h : s.phase = .running) : s.tickBoundary.tick = s.tick.next s.running := by
  rw [tickBoundary, if_pos h, poolTick_tick, tickWork_tick, pinTick_tick, synthTick_tick, hbmTick_tick]
  rfl

/-- Before the first chain a boundary counts the time since start-up, and the control bus goes on (R48). -/
theorem tickBoundary_of_not_running (h : s.phase ≠ .running) :
    s.tickBoundary = (punctual { s with tick := { s.tick with clock := s.tick.clock + 1 } }).hbmTick := by
  rw [tickBoundary, if_neg h]

/-- With nothing waiting for frame memory, a tick's slots are merely free again (R34). -/
theorem hbmTick_of_none_waits (hin : s.bus.inside = []) (hout : s.bus.outside = []) :
    s.hbmTick = s.onBus fun b => { b with used := [], idle := [], inside := [], outside := [] } := by
  unfold hbmTick hbmDrain onBus
  dsimp only
  rw [hin, hout]
  rfl

theorem tickBoundary_sameOutside (h : s.phase ≠ .running) (hin : s.bus.inside = []) (hout : s.bus.outside = []) :
    SameOutside [.tick, .evu, .bus] (fun _ => False) s s.tickBoundary := by
  refine SameOutside.of_within ?_
  rw [tickBoundary_of_not_running h, hbmTick_of_none_waits]
  · refine onBus_within (by simp) (punctual_within (by simp) ?_) (fun _ i => i) rfl
    exact Within.f_tick (by simp) (fun i => i) (Within.refl s _ _)
  · exact hin
  · exact hout

theorem running_of_holds (h : s.Holds O01.CHAIN_STATE 0) : s.running = true := by
  rw [running, n_of_stored h]
  rfl

theorem completes_tickBoundary {P : State → Prop} (h : s.alive = true) (hP : P s.tickBoundary) : Completes .tickBoundary s P :=
  ⟨s.tickBoundary, live_of_alive h _, hP⟩

end State

/-- Settles O1: the boundary is `TickSt.next` while the chain runs, and `State.hbmTick` after the count of time before it. -/
theorem tickGeneratorMeasuresTheNextTick : Obligations.TickGeneratorMeasuresTheNextTick := by
  unfold Obligations.TickGeneratorMeasuresTheNextTick
  refine ⟨rfl, fun s ⟨_, halive⟩ hphase hchain => State.completes_tickBoundary halive ?_,
    fun s ⟨_, halive⟩ hphase => State.completes_tickBoundary halive ⟨?_, State.tickBoundary_sameOutside hphase⟩⟩
  · rw [State.tickBoundary_tick_of_running hphase, State.running_of_holds hchain]
    refine ⟨tickLen_eq s.tick, tickResidue_toNat s.tick, rfl, rfl, fun hnone => ?_, fun n hjump => ?_⟩
    · rw [TickSt.next, hnone]
    · rw [TickSt.next, hjump]
  · rw [State.tickBoundary_of_not_running hphase, State.hbmTick_tick]
    rfl

end Sys2Proof.Machine
end

section
/-! PROOF. The marks of a raising (R666): what it leaves in the event's status, count and tick, when it changes nothing, and O49. -/

namespace Sys2Proof.Machine
namespace State

variable {s : State} {ev inst : Nat} {detail : List Byte}

/-- The record of a raising, made, masked or suppressed, touches no object below EV_LAST_RECORD: there the marks stand. -/
theorem stored_raise_of_par_lt (c i : Nat) {p : Nat} (hp : p < 6) :
    (s.raise ev inst detail).stored (obKey c i p) = (s.markRaised ev).stored (obKey c i p) := by
  have apart : ∀ e j q, 6 ≤ q % 0x1000 → obKey c i p ≠ obKey e j q := fun e j q hq => obKey_ne (by omega)
  rcases raise_cases s ev inst detail with ⟨l, hraise⟩ | hraise | ⟨r, hraise⟩ <;> rw [hraise]
  · exact stored_setBytes_ne _ _ (apart _ _ _ (by decide))
  · exact (stored_flag_ne _ _ (apart _ _ _ (by decide))).trans (stored_bump_ne _ _ (apart _ _ _ (by decide)))
  · exact (stored_setBytes_ne _ _ (apart _ _ _ (by decide))).trans (stored_bump_ne _ _ (apart _ _ _ (by decide)))

theorem holds_status_markRaised (h : s.regsOk = true) : (s.markRaised ev).Holds (O1A.EV_STATUS ev)
    (s.n (O1A.EV_STATUS ev) ||| if bit (s.n (O1A.EV_STATUS ev)) 0 then 3 else 1) :=
  (stored_setN_ne _ _ (obKey_ne (by decide))).trans ((stored_setN_ne _ _ (obKey_ne (by decide))).trans (stored_flag h _ _))

theorem holds_count_markRaised (h : s.regsOk = true) :
    (s.markRaised ev).Holds (O1A.EV_COUNT ev) (min (s.n (O1A.EV_COUNT ev) + 1) 0xFFFFFFFF) :=
  (stored_setN_ne _ _ (obKey_ne (by decide))).trans (stored_setN (regsOk_flag h _ _) _ _)

theorem holds_lastTick_markRaised (h : s.regsOk = true) : (s.markRaised ev).Holds (O1A.EV_LAST_TICK ev) s.eventTick :=
  stored_setN (regsOk_setN (regsOk_flag h _ _) _ _) _ _

/-- A number with a meaning is raised by its command. -/
theorem exec_eventRaised_of_defined (halive : s.alive = true) (hev : definedEvent ev = true) (hlen : detail.length ≤ 40) :
    exec (.eventRaised ev inst detail) s = .next (s.raise ev inst detail) := by
  change execEventRaised ev inst detail s = _
  rw [execEventRaised, live_of_alive halive, if_pos ⟨hev, hlen⟩]

/-- A number without a meaning is never raised (R665). -/
theorem exec_eventRaised_of_not_defined (halive : s.alive = true) (hev : definedEvent ev = false) :
    exec (.eventRaised ev inst detail) s = .next s := by
  change execEventRaised ev inst detail s = _
  have hrefuse : ¬ (definedEvent ev = true ∧ detail.length ≤ 40) := fun h => Bool.false_ne_true (hev.symm.trans h.1)
  rw [execEventRaised, live_of_alive halive, if_neg hrefuse]

/-- A unit's own rate limit suppresses a raising that comes too soon after the last (R666). -/
theorem raiseLim_of_too_soon {ticks last : Nat} (hlast : SMap.find? s.evu.last (ev * 0x10000 + inst) = some last)
    (hsoon : s.now < last + ticks) : s.raiseLim ev inst detail ticks = s := by
  simp only [raiseLim, hlast, if_pos hsoon]

end State

/-- Settles O49: the marks are `State.markRaised`, and the record that follows leaves them alone. -/
theorem aRaisingMarksItsEvent : Obligations.ARaisingMarksItsEvent := by
  unfold Obligations.ARaisingMarksItsEvent
  refine ⟨fun s event inst m n detail ⟨⟨hregs, _⟩, halive⟩ hev hlen hstatus hcount => ?_,
    fun s event inst detail ⟨_, halive⟩ hev => ⟨s, State.exec_eventRaised_of_not_defined halive hev, rfl⟩,
    fun s event inst ticks last detail => State.raiseLim_of_too_soon⟩
  refine ⟨s.raise event inst detail, State.exec_eventRaised_of_defined halive hev hlen, ?_⟩
  rw [← State.n_of_stored hstatus, ← State.n_of_stored hcount]
  exact ⟨(State.stored_raise_of_par_lt _ _ (by decide)).trans (State.holds_status_markRaised hregs),
    (State.stored_raise_of_par_lt _ _ (by decide)).trans (State.holds_count_markRaised hregs),
    (State.stored_raise_of_par_lt _ _ (by decide)).trans (State.holds_lastTick_markRaised hregs)⟩

end Sys2Proof.Machine
end
